-- ==== Sys2Proof/Word.lean ====
section
/-!
DEFINITION. The word types and their plainest arithmetic: bytes, bit fields of a number, and the two byte orders of R2 and R3.
-/

namespace Sys2Proof

abbrev Byte := BitVec 8
abbrev Word32 := BitVec 32
abbrev Word := BitVec 64

/-- Bits `lo` to `lo + width - 1` of a number. -/
def bitsOf (v lo width : Nat) : Nat := (v / 2 ^ lo) % 2 ^ width

/-- Bit `i` of a number. -/
def bitOf (v i : Nat) : Bool := (v / 2 ^ i) % 2 == 1

/-- A truth value as a number. -/
def b2n (b : Bool) : Nat := if b then 1 else 0

/-- The `n` bytes of `v`, least significant first (R3). -/
def leBytes : Nat → Nat → List Byte
  | 0, _ => []
  | n + 1, v => BitVec.ofNat 8 v :: leBytes n (v / 256)

/-- The `n` bytes of `v`, most significant first (R2). -/
def beBytes (n v : Nat) : List Byte := (leBytes n v).reverse

/-- The number whose bytes, least significant first, are given. -/
def ofLe : List Byte → Nat
  | [] => 0
  | b :: bs => b.toNat + 256 * ofLe bs

/-- The number whose bytes, most significant first, are given. -/
def ofBe (bs : List Byte) : Nat := ofLe bs.reverse

/-- The ceiling of a division. -/
def ceilDiv (a b : Nat) : Nat := (a + b - 1) / b

/-- A number held at `m` at most (a saturating counter's rule). -/
def satAdd (m a b : Nat) : Nat := min m (a + b)

end Sys2Proof
end

