-- ==== Sys2Proof/Config.lean ====
section
/-!
DEFINITION. What the model leaves uninterpreted: the free values of the spec's random and unstated results, the values that
fuses hold, and the functions of the outside standards that the spec names. None has a body, so no proof can see a value.
-/

namespace Sys2Proof.Config

/-- The `n`th free value, of `w` bits: a random draw, or a value that the spec leaves open (assumption 2). -/
opaque freeValue (w n : Nat) : BitVec w

/-- The device instance number of the fuses (R301). -/
opaque deviceInstance : BitVec 36

/-- The fuse key, the identity key's SK.seed and SK.prf, and the session signing key (R301). -/
opaque fuseKey : BitVec 256
opaque identitySeed : BitVec 256
opaque identityPrf : BitVec 256
opaque sessionSeed : BitVec 256

/-- The identity key's public key, PK.seed and PK.root, and the boot ROM's version (Table 6-9). -/
opaque identityPublic : List Byte
opaque romId : BitVec 32

/-- The measurement of the first Tack image loaded (Table 6-9): no command loads one. -/
opaque tackHash : BitVec 256

/-- Where TRL_RING_BASE says the Trail's on-die ring lies, in units of 64 bytes: SRAM cluster 36 is in no target of Table 12-1. -/
opaque trailRing : BitVec 42

/-- The management MAC address of the fuses (MGT_MAC). -/
opaque macAddress : BitVec 48

/-- The Prianum image key ID fused at manufacture (R460). -/
opaque imageKeyId : BitVec 128

/-- The Prianum service CA's key ID of Table 20-10. -/
opaque serviceKeyId : BitVec 128
/-- The Prianum service CA key fused at manufacture, as a SubjectPublicKeyInfo (Table 18-4a). -/
opaque serviceKey : List Byte

/-- Which bank of Saddlebag macros holds a slot (R284): the spec gives no assignment. -/
opaque slotBank : Nat → Nat

/-- The interrupt source of SHP_CORE_ST_REQ, less 128: Table 11-4 leaves it to its chapter, which does not number it (assumption 14). -/
opaque coreTestSource : Fin 384

/-- The interrupt source of AWL_DONE, less 128, left open in the same way (assumption 14). -/
opaque awlDoneSource : Fin 384

/-- The macro and row that hold a word of SYSRAM or RSRAM, as a tracker location (R420); the spec gives no placement. -/
opaque sramPlace : Nat → BitVec 32

/-- The row of a DRAM word in its channel (R418); the spec gives no placement. -/
opaque dramRow : Nat → Nat

/-- AES-256 of FIPS 197: the cipher of a 128-bit block under a 256-bit key. -/
opaque aes256 : BitVec 256 → BitVec 128 → BitVec 128

/-- The 1,600-bit state of SHAKE256 (FIPS 202) after absorbing whole blocks of 136 bytes. -/
opaque keccakAbsorb : List Byte → BitVec 1600

/-- The key expansion of FIPS 197 for AES-256: the 15 round keys, the first in the most significant bits. -/
opaque aesRoundKeys : BitVec 256 → BitVec 1920

/-- KMAC256 of SP 800-185: key, message, output length in bits, customisation string. -/
opaque kmac256 : List Byte → List Byte → Nat → List Byte → Nat

/-- SHAKE256 of FIPS 202: message, output length in bits. -/
opaque shake256 : List Byte → Nat → Nat

/-- SHA-256, SHA-384 and SHA-512 of FIPS 180-4, by digest length in bits. -/
opaque sha2 : Nat → List Byte → Nat

/-- ML-KEM-1024 of FIPS 203: encapsulation from an encapsulation key and 256 random bits (shared secret and ciphertext). -/
opaque mlkemEncaps : List Byte → Nat → Nat × List Byte

/-- ML-KEM-1024 key generation and decapsulation of FIPS 203, from the 64-byte seed d ‖ z: the encapsulation key, and the shared secret of a
ciphertext (implicit rejection included). -/
opaque mlkemPublic : Nat → List Byte
opaque mlkemDecaps : Nat → List Byte → Nat

/-- ML-DSA of FIPS 204 by parameter set (65 or 87): the public key of a seed, a signature of a context and message from a seed and random bits,
the rejected iterations it takes, and verification by public key, context, message and signature. -/
opaque mldsaPublic : Nat → Nat → List Byte
opaque mldsaSign : Nat → Nat → Nat → List Byte → List Byte → Nat
opaque mldsaRejections : Nat → Nat → Nat → List Byte → List Byte → Nat
opaque mldsaVerify : Nat → List Byte → List Byte → List Byte → List Byte → Bool

/-- The nonce of RFC 6979 by hash length, private scalar, hash and extra input. -/
opaque rfc6979 : Nat → Nat → List Byte → List Byte → Nat

/-- The 30 parity symbols of RS(544,514) over 514 symbols of 10 bits (R229; the code of IEEE 802.3). -/
opaque rsParity : List Nat → List Nat

/-- slh_sign of FIPS 205 by parameter code of Table 6-7: SK.seed, SK.prf, public key, opt_rand, context, message. -/
opaque slhSign : Nat → Nat → Nat → List Byte → Nat → List Byte → List Byte → Nat

/-- slh_keygen of FIPS 205 by parameter code: the public key of SK.seed and PK.seed. -/
opaque slhPublic : Nat → Nat → Nat → List Byte

/-- slh_verify of FIPS 205 by parameter code: public key, context, message, signature. -/
opaque slhVerify : Nat → List Byte → List Byte → List Byte → Nat → Bool

end Sys2Proof.Config
end

