-- ==== Sys2Proof/Machine/Table.lean ====
section
/-!
DEFINITION. Finite maps keyed by numbers, as plain data: a list of key and value pairs with strictly rising keys, so that
equal maps are equal lists. Every sparse part of the state is one of these.
-/

namespace Sys2Proof.Machine

abbrev Table (α : Type) := List (Nat × α)

/-- The value at a key, if any. -/
def tget {α : Type} : Table α → Nat → Option α
  | [], _ => none
  | (a, v) :: t, k => if a = k then some v else tget t k

/-- The value at a key, or the default. -/
def tgetD {α : Type} (t : Table α) (k : Nat) (d : α) : α := (tget t k).getD d

/-- Put a value at a key, keeping the keys rising. -/
def tput {α : Type} : Table α → Nat → α → Table α
  | [], k, v => [(k, v)]
  | (a, w) :: t, k, v =>
    if k < a then (k, v) :: (a, w) :: t
    else if k = a then (k, v) :: t
    else (a, w) :: tput t k v

/-- Remove a key. -/
def tdel {α : Type} (t : Table α) (k : Nat) : Table α := t.filter (fun kv => kv.1 != k)

/-- Change the value at a key, where there is one. -/
def tmod {α : Type} (t : Table α) (k : Nat) (f : α → α) : Table α :=
  match tget t k with
  | some v => tput t k (f v)
  | none => t

/-- Change the value at a key, starting from the default where there is none. -/
def tupd {α : Type} (t : Table α) (k : Nat) (d : α) (f : α → α) : Table α := tput t k (f (tgetD t k d))

/-- The keys whose value satisfies `p`, in rising order. -/
def tkeys {α : Type} (t : Table α) (p : Nat → α → Bool) : List Nat :=
  (t.filter (fun kv => p kv.1 kv.2)).map Prod.fst

/-- The lowest key whose value satisfies `p`. -/
def tfirst {α : Type} (t : Table α) (p : Nat → α → Bool) : Option Nat := (tkeys t p).head?

/-- Keep the entries that satisfy `p`. -/
def tkeep {α : Type} (t : Table α) (p : Nat → α → Bool) : Table α := t.filter (fun kv => p kv.1 kv.2)

/-- Apply a function to every value. -/
def tmap {α β : Type} (t : Table α) (f : Nat → α → β) : Table β := t.map (fun kv => (kv.1, f kv.1 kv.2))

/-- The keys rise strictly. -/
def rising {α : Type} : Table α → Bool
  | [] => true
  | [_] => true
  | (a, _) :: (b, w) :: t => decide (a < b) && rising ((b, w) :: t)

/-- Put a value in order of a key function (stable insertion). -/
def insertBy {α : Type} (key : α → Nat) (x : α) : List α → List α
  | [] => [x]
  | y :: ys => if key x < key y then x :: y :: ys else y :: insertBy key x ys

/-- Sort by a key function (stable; equal keys keep their order). -/
def sortBy {α : Type} (key : α → Nat) (xs : List α) : List α := xs.foldl (fun acc x => insertBy key x acc) []

/-- The numbers from `a`, `n` of them. -/
def rangeFrom (a n : Nat) : List Nat := (List.range n).map (· + a)

/-- The element with the least key, the first on a tie. -/
def argMin {α : Type} (key : α → Nat) : List α → Option α
  | [] => none
  | x :: xs =>
    match argMin key xs with
    | none => some x
    | some y => if key y < key x then some y else some x

end Sys2Proof.Machine
end

