-- ==== Sys2Proof/Machine/Codes.lean ====
section
/-!
DEFINITION. The codes of the data path as arithmetic: GF(2^8) and the Reed-Solomon code (R132, R133, R139), GF(2^128) and GHASH
(R110), AES-256 counter mode (R107, R108), CRC-32C (Table 4-2), SHAKE256 with its domains (R194), and the Merkle tree (R208 to
R210).
-/

namespace Sys2Proof.Machine

/-- The XOR of two byte strings, as long as the shorter. -/
def xorBytes : List Byte → List Byte → List Byte
  | a :: as, b :: bs => (a ^^^ b) :: xorBytes as bs
  | _, _ => []

/-- A byte string cut or padded with zeros to `n` bytes. -/
def padTo (n : Nat) (bs : List Byte) : List Byte := (bs ++ List.replicate (n - bs.length) 0).take n

/-- Bytes `off` to `off + n - 1` of a string, with zeros beyond its end. -/
def slice (bs : List Byte) (off n : Nat) : List Byte := padTo n (bs.drop off)

/-- A little-endian field. -/
def leField (bs : List Byte) (off n : Nat) : Nat := ofLe (slice bs off n)

/-- Multiplication by x in GF(2^8) modulo 0x11D (R132). -/
def gfDouble (a : Byte) : Byte := if a.toNat < 128 then a <<< 1 else (a <<< 1) ^^^ 0x1D

/-- The product with the low `n` bits of the second factor. -/
def gfMulBits : Nat → Byte → Nat → Byte
  | 0, _, _ => 0
  | n + 1, a, b => (if b % 2 = 1 then a else 0) ^^^ gfMulBits n (gfDouble a) (b / 2)

/-- Multiplication in GF(2^8) (R132). -/
def gfMul (a b : Byte) : Byte := gfMulBits 8 a b.toNat

/-- A power in GF(2^8). -/
def gfPow (a : Byte) : Nat → Byte
  | 0 => 1
  | n + 1 => gfMul a (gfPow a n)

/-- The inverse of a nonzero element: its 254th power (R132). -/
def gfInv (a : Byte) : Byte := gfPow a 254

/-- The coefficient c(j, i) of R133. -/
def coef (j i : Nat) : Byte := gfInv (BitVec.ofNat 8 (0x20 + j) ^^^ BitVec.ofNat 8 i)

/-- A byte string times a constant. -/
def gfScale (c : Byte) (bs : List Byte) : List Byte := bs.map (gfMul c)

/-- The sum of byte strings of length `n`. -/
def gfSum (n : Nat) (xs : List (List Byte)) : List Byte := xs.foldl xorBytes (List.replicate n 0)

/-- Parity chunk or payload `j` of the data strings of fragments 0 to k - 1, each `n` bytes (R133). -/
def rsParity (n j : Nat) (data : List (List Byte)) : List Byte :=
  gfSum n ((List.range data.length).map (fun i => gfScale (coef j i) (data.getD i [])))

/-- The index of the first row at or below `r` whose column `c` is not zero. -/
def findPivot (m : List (List Byte)) (r c : Nat) : Option Nat :=
  (rangeFrom r (m.length - r)).find? (fun i => (m.getD i []).getD c 0 != 0)

/-- Exchange two rows. -/
def swapRows (m : List (List Byte)) (i j : Nat) : List (List Byte) :=
  let a := m.getD i []
  let b := m.getD j []
  (m.set i b).set j a

/-- One step of Gauss-Jordan elimination on column `c`. -/
def eliminate (m : List (List Byte)) (c : Nat) : List (List Byte) :=
  match findPivot m c c with
  | none => m
  | some p =>
    let m := swapRows m c p
    let row := gfScale (gfInv ((m.getD c []).getD c 0)) (m.getD c [])
    (List.range m.length).map (fun i => if i = c then row else xorBytes (m.getD i []) (gfScale ((m.getD i []).getD c 0) row))

/-- The inverse of a square matrix over GF(2^8) (R139). -/
def gfInverse (b : List (List Byte)) : List (List Byte) :=
  let n := b.length
  let aug := (List.range n).map (fun i => b.getD i [] ++ (List.range n).map (fun j => if i = j then 1 else 0))
  ((List.range n).foldl eliminate aug).map (fun r => r.drop n)

/-- The selection of R138 from the available fragment indices: data fragments ascending, then parity fragments ascending, k of
them; none when fewer are available. -/
def rsSelect (k : Nat) (avail : List Nat) : Option (List Nat) :=
  let a := sortBy id avail
  let sel := (a.filter (fun i => decide (i < k)) ++ a.filter (fun i => decide (k ≤ i))).take k
  if sel.length = k then some sel else none

/-- The data payloads decoded from the selected payloads (R139), in ascending index. -/
def rsDecode (k n : Nat) (sel : List Nat) (frag : Nat → List Byte) : List (List Byte) :=
  let mis := (List.range k).filter (fun i => decide (i ∉ sel))
  let par := (sel.filter (fun i => decide (k ≤ i))).map (· - k)
  let b := par.map (fun p => mis.map (fun s => gfInv (BitVec.ofNat 8 (0x20 + p) ^^^ BitVec.ofNat 8 s)))
  let bi := gfInverse b
  let t := par.map (fun p => gfSum n (frag (k + p) :: (sel.filter (fun i => decide (i < k))).map (fun i => gfScale (coef p i) (frag i))))
  (List.range k).map (fun i =>
    if i ∈ sel then frag i
    else
      let s := (mis.idxOf i)
      gfSum n ((List.range t.length).map (fun r => gfScale ((bi.getD s []).getD r 0) (t.getD r []))))

/-- The payload of any fragment from the data payloads. -/
def rsFragment (k n : Nat) (data : List (List Byte)) (i : Nat) : List Byte :=
  if i < k then data.getD i [] else rsParity n (i - k) data

/-- A shift right by one of a GF(2^128) element in the bit order of SP 800-38D, with its reduction. -/
def ghashShift (v : BitVec 128) : BitVec 128 :=
  if v.toNat % 2 = 1 then (v >>> 1) ^^^ 0xE1000000000000000000000000000000#128 else v >>> 1

/-- The product's sum over the remaining bits of the first factor, most significant first. -/
def ghashMulBits : Nat → BitVec 128 → BitVec 128 → BitVec 128
  | 0, _, _ => 0
  | n + 1, x, v => (if 2 ^ 127 ≤ x.toNat then v else 0) ^^^ ghashMulBits n (x <<< 1) (ghashShift v)

/-- Multiplication in GF(2^128) (SP 800-38D). -/
def ghashMul (x y : BitVec 128) : BitVec 128 := ghashMulBits 128 x y

/-- A power of the hash subkey. -/
def ghashPow (h : BitVec 128) : Nat → BitVec 128
  | 0 => 0x80000000000000000000000000000000#128
  | n + 1 => ghashMul h (ghashPow h n)

/-- A block of at most 16 bytes as a bit string, zero-padded on the right. -/
def blockOf (bs : List Byte) : BitVec 128 := BitVec.ofNat 128 (ofBe (padTo 16 bs))

/-- Cut a string into blocks of 16 bytes (at most `n` of them). -/
def blocksOf : Nat → List Byte → List (BitVec 128)
  | 0, _ => []
  | _, [] => []
  | n + 1, bs => blockOf bs :: blocksOf n (bs.drop 16)

/-- Fold blocks into a GHASH accumulator. -/
def ghashFold (h acc : BitVec 128) (bs : List (BitVec 128)) : BitVec 128 :=
  bs.foldl (fun y b => ghashMul (y ^^^ b) h) acc

/-- The hash subkey H of a key. -/
def gcmH (key : Nat) : BitVec 128 := Config.aes256 (BitVec.ofNat 256 key) 0

/-- The counter block of counter value `c` under a 96-bit IV (R108). -/
def counterBlock (iv c : Nat) : BitVec 128 := BitVec.ofNat 128 (iv * 2 ^ 32 + c % 2 ^ 32)

/-- Keystream of `n` bytes from counter value `c`. -/
def keystream (key iv c n : Nat) : List Byte :=
  ((List.range (ceilDiv n 16)).flatMap (fun j => beBytes 16 (Config.aes256 (BitVec.ofNat 256 key) (counterBlock iv (c + j))).toNat)).take n

/-- GHASH of AAD and ciphertext with the length block (SP 800-38D). -/
def ghash (h : BitVec 128) (aad ct : List Byte) : BitVec 128 :=
  let y := ghashFold h 0 (blocksOf (ceilDiv aad.length 16) aad)
  let y := ghashFold h y (blocksOf (ceilDiv ct.length 16) ct)
  ghashMul (y ^^^ BitVec.ofNat 128 (8 * aad.length * 2 ^ 64 + 8 * ct.length)) h

/-- The GCM tag of AAD and ciphertext under a 96-bit IV. -/
def gcmTag (key iv : Nat) (aad ct : List Byte) : Nat :=
  (Config.aes256 (BitVec.ofNat 256 key) (counterBlock iv 1) ^^^ ghash (gcmH key) aad ct).toNat

/-- AES-256-GCM encryption: ciphertext and tag. -/
def gcmSeal (key iv : Nat) (aad pt : List Byte) : List Byte × Nat :=
  let ct := xorBytes pt (keystream key iv 2 pt.length)
  (ct, gcmTag key iv aad ct)

/-- AES-256-GCM decryption: none where the tag differs. -/
def gcmOpen (key iv : Nat) (aad ct : List Byte) (tag : Nat) : Option (List Byte) :=
  if gcmTag key iv aad ct = tag then some (xorBytes ct (keystream key iv 2 ct.length)) else none

/-- One bit step of the reflected CRC-32C. -/
def crcStep (c : BitVec 32) : BitVec 32 := if c.toNat % 2 = 1 then (c >>> 1) ^^^ 0x82F63B78#32 else c >>> 1

/-- The CRC register after a byte. -/
def crcByte (c : BitVec 32) (b : Byte) : BitVec 32 :=
  (List.range 8).foldl (fun c _ => crcStep c) (c ^^^ b.setWidth 32)

/-- CRC-32C: polynomial 0x1EDC6F41 reflected, initial value and final XOR all ones (Table 4-2). -/
def crc32c (bs : List Byte) : Nat := (bs.foldl crcByte 0xFFFFFFFF#32 ^^^ 0xFFFFFFFF#32).toNat

/-- SHAKE256 with a domain byte, 256 bits out, as a number most significant byte first (R194). -/
def shakeDom (dom : Nat) (bs : List Byte) : Nat := Config.shake256 (BitVec.ofNat 8 dom :: bs) 256 % 2 ^ 256

/-- KMAC256 with 256 bits of output. -/
def kmac (key msg : List Byte) (custom : List Byte) : Nat := Config.kmac256 key msg 256 custom % 2 ^ 256

/-- The ASCII bytes of a string. -/
def ascii (s : String) : List Byte := s.toList.map (fun c => BitVec.ofNat 8 c.toNat)

/-- The largest power of two below `n`, starting from `p` (R208). -/
def splitPoint : Nat → Nat → Nat → Nat
  | 0, _, p => p
  | fuel + 1, n, p => if 2 * p < n then splitPoint fuel n (2 * p) else p

/-- Node hash of two children (Table 6-3). -/
def nodeHash (a b : Nat) : Nat := shakeDom 0x01 (beBytes 32 a ++ beBytes 32 b)

/-- The Merkle root over leaf hashes (R208). -/
def merkle : Nat → List Nat → Nat
  | 0, _ => 0
  | _, [] => 0
  | _, [d] => d
  | fuel + 1, ds =>
    let j := splitPoint ds.length ds.length 1
    nodeHash (merkle fuel (ds.take j)) (merkle fuel (ds.drop j))

/-- mth of R208 over leaf hashes. -/
def mth (ds : List Nat) : Nat := merkle (ds.length + 1) ds

/-- The audit path of leaf `i`, leaf upward (R209). -/
def auditPath : Nat → Nat → List Nat → List Nat
  | 0, _, _ => []
  | _, _, [] => []
  | _, _, [_] => []
  | fuel + 1, i, ds =>
    let j := splitPoint ds.length ds.length 1
    if i < j then auditPath fuel i (ds.take j) ++ [mth (ds.drop j)]
    else auditPath fuel (i - j) (ds.drop j) ++ [mth (ds.take j)]

/-- Shift `fn` and `sn` right until `fn` is odd or zero (R210). -/
def shiftDown : Nat → Nat → Nat → Nat × Nat
  | 0, a, b => (a, b)
  | fuel + 1, a, b => if a % 2 = 1 ∨ a = 0 then (a, b) else shiftDown fuel (a / 2) (b / 2)

/-- The walk of R210 up a path. -/
def verifyPath : List Nat → Nat → Nat → Nat → Option Nat
  | [], _, sn, r => if sn = 0 then some r else none
  | p :: ps, fn, sn, r =>
    if sn = 0 then none
    else if fn % 2 = 1 ∨ fn = sn then
      let r := nodeHash p r
      let (fn, sn) := if fn % 2 = 0 then shiftDown 64 (fn / 2) (sn / 2) else (fn, sn)
      verifyPath ps (fn / 2) (sn / 2) r
    else verifyPath ps (fn / 2) (sn / 2) (nodeHash r p)

/-- verify of R210. -/
def verifyProof (idx cnt leaf : Nat) (path : List Nat) : Option Nat :=
  if cnt ≤ idx then none else verifyPath path idx (cnt - 1) leaf

end Sys2Proof.Machine
end

