-- ==== Sys2Proof/Machine/Registers.lean ====
section
/-!
DEFINITION. The register tables of the chapters: one `Field` per field of each register heading, with its place, width,
access code (Table 0-4) and reset, and one `Register` per heading. A reset cell holding an em dash (a value from fuses or
flash) stands as 0 here: DESIGN CHOICE, assumption 3.
-/


namespace Sys2Proof.Machine

/-- The access codes of Table 0-4. -/
inductive Access where
  | ro | rw | rwk | wo | w1c | w1s | rc
  deriving DecidableEq, Repr

/-- One substitution of a written value (R635): a value from `lo` to `hi` is stored as `val`. -/
structure Sub where
  lo : Nat
  hi : Nat
  val : Nat
  deriving DecidableEq, Repr

/-- One register field: where it lies, how it is accessed, its reset value. `slotStep` and `offStep` are the distances
between the instances of an indexed register; `bank` tells a world's own copy apart. -/
structure Field where
  slot : Nat
  off : Nat
  lo : Nat
  width : Nat
  acc : Access
  reset : Nat
  slotStep : Nat := 0
  offStep : Nat := 0
  bank : Nat := 0
  subs : List Sub := []
  deriving DecidableEq, Repr

/-- One register: its name, place, number of instances, whether it is 64 bits wide, whether each world has its own copy,
and its fields (first instance). -/
structure Register where
  name : String
  slot : Nat
  slotCount : Nat
  off : Nat
  offCount : Nat
  offStep : Nat
  wide : Bool
  banked : Bool
  fields : List Field
  deriving DecidableEq, Repr

namespace Reg

namespace STU_CTRL

def EN : Field := { slot := 0x50, off := 0x0, lo := 0, width := 1, acc := .rw, reset := 1, slotStep := 1 }
def ST_REQ : Field := { slot := 0x50, off := 0x0, lo := 1, width := 1, acc := .wo, reset := 0, slotStep := 1 }
def QREL : Field := { slot := 0x50, off := 0x0, lo := 2, width := 1, acc := .rwk, reset := 0, slotStep := 1 }
/-- STU_CTRL (chapter 03). -/
def reg : Register := { name := "STU_CTRL", slot := 0x50, slotCount := 12, off := 0x0, offCount := 1, offStep := 0, wide := false, banked := false, fields := [EN, ST_REQ, QREL] }
end STU_CTRL

namespace STU_STATUS

def STATE : Field := { slot := 0x50, off := 0x4, lo := 0, width := 4, acc := .ro, reset := 0, slotStep := 1 }
def CTX_BUSY : Field := { slot := 0x50, off := 0x4, lo := 4, width := 3, acc := .ro, reset := 0, slotStep := 1 }
def LAST_ERR : Field := { slot := 0x50, off := 0x4, lo := 8, width := 8, acc := .ro, reset := 0, slotStep := 1 }
def MISMATCH_CNT : Field := { slot := 0x50, off := 0x4, lo := 16, width := 8, acc := .ro, reset := 0, slotStep := 1 }
/-- STU_STATUS (chapter 03). -/
def reg : Register := { name := "STU_STATUS", slot := 0x50, slotCount := 12, off := 0x4, offCount := 1, offStep := 0, wide := false, banked := false, fields := [STATE, CTX_BUSY, LAST_ERR, MISMATCH_CNT] }
end STU_STATUS

namespace STU_ERR

def KEY : Field := { slot := 0x50, off := 0x8, lo := 0, width := 1, acc := .w1c, reset := 0, slotStep := 1 }
def MISMATCH : Field := { slot := 0x50, off := 0x8, lo := 1, width := 1, acc := .w1c, reset := 0, slotStep := 1 }
def POISON : Field := { slot := 0x50, off := 0x8, lo := 2, width := 1, acc := .w1c, reset := 0, slotStep := 1 }
def INPUT_LOST : Field := { slot := 0x50, off := 0x8, lo := 3, width := 1, acc := .w1c, reset := 0, slotStep := 1 }
def TAG_FAIL : Field := { slot := 0x50, off := 0x8, lo := 4, width := 1, acc := .w1c, reset := 0, slotStep := 1 }
def RESEED_LATE : Field := { slot := 0x50, off := 0x8, lo := 5, width := 1, acc := .w1c, reset := 0, slotStep := 1 }
def BAD_DESC : Field := { slot := 0x50, off := 0x8, lo := 6, width := 1, acc := .w1c, reset := 0, slotStep := 1 }
def SELFTEST_FAIL : Field := { slot := 0x50, off := 0x8, lo := 7, width := 1, acc := .w1c, reset := 0, slotStep := 1 }
/-- STU_ERR (chapter 03). -/
def reg : Register := { name := "STU_ERR", slot := 0x50, slotCount := 12, off := 0x8, offCount := 1, offStep := 0, wide := false, banked := false, fields := [KEY, MISMATCH, POISON, INPUT_LOST, TAG_FAIL, RESEED_LATE, BAD_DESC, SELFTEST_FAIL] }
end STU_ERR

namespace STU_QPOL

def WINDOW : Field := { slot := 0x50, off := 0xc, lo := 0, width := 8, acc := .rwk, reset := 24, slotStep := 1, subs := [⟨0, 0, 1⟩] }
def LIMIT : Field := { slot := 0x50, off := 0xc, lo := 8, width := 4, acc := .rwk, reset := 2, slotStep := 1, subs := [⟨0, 0, 1⟩] }
/-- STU_QPOL (chapter 03). -/
def reg : Register := { name := "STU_QPOL", slot := 0x50, slotCount := 12, off := 0xc, offCount := 1, offStep := 0, wide := false, banked := false, fields := [WINDOW, LIMIT] }
end STU_QPOL

namespace STU_BLOCKS

def BLOCKS : Field := { slot := 0x50, off := 0x10, lo := 0, width := 64, acc := .ro, reset := 0, slotStep := 1 }
/-- STU_BLOCKS (chapter 03). -/
def reg : Register := { name := "STU_BLOCKS", slot := 0x50, slotCount := 12, off := 0x10, offCount := 1, offStep := 0, wide := true, banked := false, fields := [BLOCKS] }
end STU_BLOCKS

namespace STG_CTRL

def RESTORE_EIGHTHS : Field := { slot := 0x60, off := 0x0, lo := 0, width := 3, acc := .rw, reset := 1, subs := [⟨0, 0, 1⟩, ⟨5, 7, 4⟩] }
def LOW_WMARK : Field := { slot := 0x60, off := 0x0, lo := 8, width := 8, acc := .rw, reset := 25 }
/-- STG_CTRL (chapter 04). -/
def reg : Register := { name := "STG_CTRL", slot := 0x60, slotCount := 1, off := 0x0, offCount := 1, offStep := 0, wide := false, banked := false, fields := [RESTORE_EIGHTHS, LOW_WMARK] }
end STG_CTRL

namespace STG_CHSTATE

def HEALTHY : Field := { slot := 0x60, off := 0x4, lo := 0, width := 12, acc := .ro, reset := 0 }
def RETRAIN : Field := { slot := 0x60, off := 0x4, lo := 16, width := 12, acc := .ro, reset := 0 }
/-- STG_CHSTATE (chapter 04). -/
def reg : Register := { name := "STG_CHSTATE", slot := 0x60, slotCount := 1, off := 0x4, offCount := 1, offStep := 0, wide := false, banked := false, fields := [HEALTHY, RETRAIN] }
end STG_CHSTATE

namespace STG_EVENTS

def REGEN : Field := { slot := 0x60, off := 0x8, lo := 0, width := 16, acc := .rc, reset := 0 }
def MOVED : Field := { slot := 0x60, off := 0x8, lo := 16, width := 16, acc := .rc, reset := 0 }
/-- STG_EVENTS (chapter 04). -/
def reg : Register := { name := "STG_EVENTS", slot := 0x60, slotCount := 1, off := 0x8, offCount := 1, offStep := 0, wide := false, banked := false, fields := [REGEN, MOVED] }
end STG_EVENTS

namespace STG_FREE

def FREE : Field := { slot := 0x60, off := 0x100, lo := 0, width := 32, acc := .ro, reset := 0, offStep := 4 }
/-- STG_FREE_c (chapter 04). -/
def reg : Register := { name := "STG_FREE_c", slot := 0x60, slotCount := 1, off := 0x100, offCount := 12, offStep := 4, wide := false, banked := false, fields := [FREE] }
end STG_FREE

namespace STG_RETIRED

def COUNT : Field := { slot := 0x60, off := 0x140, lo := 0, width := 13, acc := .ro, reset := 0, offStep := 4 }
/-- STG_RETIRED_c (chapter 04). -/
def reg : Register := { name := "STG_RETIRED_c", slot := 0x60, slotCount := 1, off := 0x140, offCount := 12, offStep := 4, wide := false, banked := false, fields := [COUNT] }
end STG_RETIRED

namespace SHP_CTRL

def EN : Field := { slot := 0x41, off := 0x0, lo := 0, width := 1, acc := .rw, reset := 1 }
/-- SHP_CTRL (chapter 05). -/
def reg : Register := { name := "SHP_CTRL", slot := 0x41, slotCount := 1, off := 0x0, offCount := 1, offStep := 0, wide := false, banked := false, fields := [EN] }
end SHP_CTRL

namespace SHP_STATUS

def MT_GEN : Field := { slot := 0x41, off := 0x4, lo := 0, width := 16, acc := .ro, reset := 0 }
def WAITING : Field := { slot := 0x41, off := 0x4, lo := 16, width := 8, acc := .ro, reset := 0 }
/-- SHP_STATUS (chapter 05). -/
def reg : Register := { name := "SHP_STATUS", slot := 0x41, slotCount := 1, off := 0x4, offCount := 1, offStep := 0, wide := false, banked := false, fields := [MT_GEN, WAITING] }
end SHP_STATUS

namespace SHP_SEED

def SEED : Field := { slot := 0x41, off := 0x8, lo := 0, width := 64, acc := .rwk, reset := 0 }
/-- SHP_SEED (chapter 05). -/
def reg : Register := { name := "SHP_SEED", slot := 0x41, slotCount := 1, off := 0x8, offCount := 1, offStep := 0, wide := true, banked := false, fields := [SEED] }
end SHP_SEED

namespace SHP_CAPS

def SHELF : Field := { slot := 0x41, off := 0x10, lo := 0, width := 4, acc := .rw, reset := 0 }
def GROUP : Field := { slot := 0x41, off := 0x10, lo := 4, width := 4, acc := .rw, reset := 0, subs := [⟨9, 14, 8⟩] }
def TRAY : Field := { slot := 0x41, off := 0x10, lo := 8, width := 4, acc := .rw, reset := 1, subs := [⟨0, 0, 1⟩] }
/-- SHP_CAPS (chapter 05). -/
def reg : Register := { name := "SHP_CAPS", slot := 0x41, slotCount := 1, off := 0x10, offCount := 1, offStep := 0, wide := false, banked := false, fields := [SHELF, GROUP, TRAY] }
end SHP_CAPS

namespace SHP_PWRF

def ON : Field := { slot := 0x41, off := 0x14, lo := 0, width := 8, acc := .rw, reset := 255 }
def WAKING : Field := { slot := 0x41, off := 0x14, lo := 8, width := 8, acc := .rw, reset := 224 }
def OFF : Field := { slot := 0x41, off := 0x14, lo := 16, width := 8, acc := .rw, reset := 16 }
def STOPPING : Field := { slot := 0x41, off := 0x14, lo := 24, width := 8, acc := .rw, reset := 16 }
/-- SHP_PWRF (chapter 05). -/
def reg : Register := { name := "SHP_PWRF", slot := 0x41, slotCount := 1, off := 0x14, offCount := 1, offStep := 0, wide := false, banked := false, fields := [ON, WAKING, OFF, STOPPING] }
end SHP_PWRF

namespace SHP_FACT

def WEAR_KNEE : Field := { slot := 0x41, off := 0x18, lo := 0, width := 10, acc := .rw, reset := 500 }
def WEAR_END : Field := { slot := 0x41, off := 0x18, lo := 16, width := 10, acc := .rw, reset := 950 }
/-- SHP_FACT (chapter 05). -/
def reg : Register := { name := "SHP_FACT", slot := 0x41, slotCount := 1, off := 0x18, offCount := 1, offStep := 0, wide := false, banked := false, fields := [WEAR_KNEE, WEAR_END] }
end SHP_FACT

namespace SHP_TEMP

def KNEE : Field := { slot := 0x41, off := 0x1c, lo := 0, width := 8, acc := .rw, reset := 45 }
def MAX : Field := { slot := 0x41, off := 0x1c, lo := 8, width := 8, acc := .rw, reset := 60 }
/-- SHP_TEMP (chapter 05). -/
def reg : Register := { name := "SHP_TEMP", slot := 0x41, slotCount := 1, off := 0x1c, offCount := 1, offStep := 0, wide := false, banked := false, fields := [KNEE, MAX] }
end SHP_TEMP

namespace SHP_PWR

def MAX_ON : Field := { slot := 0x41, off := 0x20, lo := 0, width := 7, acc := .rw, reset := 8, subs := [⟨0, 0, 1⟩, ⟨65, 127, 64⟩] }
def MAX_WAKING : Field := { slot := 0x41, off := 0x20, lo := 8, width := 4, acc := .rw, reset := 1, subs := [⟨0, 0, 1⟩] }
def WAKE_GB : Field := { slot := 0x41, off := 0x20, lo := 16, width := 16, acc := .rw, reset := 256, subs := [⟨0, 0, 1⟩] }
/-- SHP_PWR (chapter 05). -/
def reg : Register := { name := "SHP_PWR", slot := 0x41, slotCount := 1, off := 0x20, offCount := 1, offStep := 0, wide := false, banked := false, fields := [MAX_ON, MAX_WAKING, WAKE_GB] }
end SHP_PWR

namespace SHP_PTIME0

def WAKE_AGE : Field := { slot := 0x41, off := 0x24, lo := 0, width := 12, acc := .rw, reset := 30 }
def MIN_ON : Field := { slot := 0x41, off := 0x24, lo := 12, width := 12, acc := .rw, reset := 60 }
/-- SHP_PTIME0 (chapter 05). -/
def reg : Register := { name := "SHP_PTIME0", slot := 0x41, slotCount := 1, off := 0x24, offCount := 1, offStep := 0, wide := false, banked := false, fields := [WAKE_AGE, MIN_ON] }
end SHP_PTIME0

namespace SHP_PTIME1

def IDLE_OFF : Field := { slot := 0x41, off := 0x28, lo := 0, width := 12, acc := .rw, reset := 30 }
def WAKE_TMO : Field := { slot := 0x41, off := 0x28, lo := 12, width := 12, acc := .rw, reset := 180 }
/-- SHP_PTIME1 (chapter 05). -/
def reg : Register := { name := "SHP_PTIME1", slot := 0x41, slotCount := 1, off := 0x28, offCount := 1, offStep := 0, wide := false, banked := false, fields := [IDLE_OFF, WAKE_TMO] }
end SHP_PTIME1

namespace SHP_POOL

def HASH_CORES : Field := { slot := 0x41, off := 0x2c, lo := 0, width := 7, acc := .rw, reset := 32, subs := [⟨0, 7, 8⟩, ⟨121, 127, 120⟩] }
def RESERVE : Field := { slot := 0x41, off := 0x2c, lo := 8, width := 10, acc := .rw, reset := 20 }
/-- SHP_POOL (chapter 05). -/
def reg : Register := { name := "SHP_POOL", slot := 0x41, slotCount := 1, off := 0x2c, offCount := 1, offStep := 0, wide := false, banked := false, fields := [HASH_CORES, RESERVE] }
end SHP_POOL

namespace SHP_ST_CTRL

def STU : Field := { slot := 0x41, off := 0x30, lo := 0, width := 1, acc := .rw, reset := 1 }
def PACK : Field := { slot := 0x41, off := 0x30, lo := 1, width := 1, acc := .rw, reset := 1 }
def AWL : Field := { slot := 0x41, off := 0x30, lo := 2, width := 1, acc := .rw, reset := 1 }
def CORE : Field := { slot := 0x41, off := 0x30, lo := 3, width := 1, acc := .rw, reset := 1 }
def NIGHT_HOUR : Field := { slot := 0x41, off := 0x30, lo := 8, width := 5, acc := .rw, reset := 2 }
def NIGHT_LEN : Field := { slot := 0x41, off := 0x30, lo := 16, width := 4, acc := .rw, reset := 4 }
def LOAD_PCT : Field := { slot := 0x41, off := 0x30, lo := 24, width := 8, acc := .rw, reset := 25 }
/-- SHP_ST_CTRL (chapter 05). -/
def reg : Register := { name := "SHP_ST_CTRL", slot := 0x41, slotCount := 1, off := 0x30, offCount := 1, offStep := 0, wide := false, banked := false, fields := [STU, PACK, AWL, CORE, NIGHT_HOUR, NIGHT_LEN, LOAD_PCT] }
end SHP_ST_CTRL

namespace SHP_ST_OUT

def STU : Field := { slot := 0x41, off := 0x34, lo := 0, width := 4, acc := .ro, reset := 0 }
def STU_ACT : Field := { slot := 0x41, off := 0x34, lo := 4, width := 1, acc := .ro, reset := 0 }
def AWL : Field := { slot := 0x41, off := 0x34, lo := 5, width := 4, acc := .ro, reset := 0 }
def AWL_ACT : Field := { slot := 0x41, off := 0x34, lo := 9, width := 1, acc := .ro, reset := 0 }
def PACK : Field := { slot := 0x41, off := 0x34, lo := 10, width := 7, acc := .ro, reset := 0 }
def PACK_ACT : Field := { slot := 0x41, off := 0x34, lo := 17, width := 1, acc := .ro, reset := 0 }
def CORE : Field := { slot := 0x41, off := 0x34, lo := 18, width := 4, acc := .ro, reset := 0 }
def CORE_ACT : Field := { slot := 0x41, off := 0x34, lo := 22, width := 1, acc := .ro, reset := 0 }
def CORE_DUE : Field := { slot := 0x41, off := 0x34, lo := 23, width := 4, acc := .ro, reset := 0 }
def DUE_ACT : Field := { slot := 0x41, off := 0x34, lo := 27, width := 1, acc := .ro, reset := 0 }
/-- SHP_ST_OUT (chapter 05). -/
def reg : Register := { name := "SHP_ST_OUT", slot := 0x41, slotCount := 1, off := 0x34, offCount := 1, offStep := 0, wide := false, banked := false, fields := [STU, STU_ACT, AWL, AWL_ACT, PACK, PACK_ACT, CORE, CORE_ACT, CORE_DUE, DUE_ACT] }
end SHP_ST_OUT

namespace SHP_CORE_REL

def PAIR : Field := { slot := 0x41, off := 0x38, lo := 0, width := 4, acc := .wo, reset := 0 }
/-- SHP_CORE_REL (chapter 05). -/
def reg : Register := { name := "SHP_CORE_REL", slot := 0x41, slotCount := 1, off := 0x38, offCount := 1, offStep := 0, wide := false, banked := false, fields := [PAIR] }
end SHP_CORE_REL

namespace SHP_MT_CMD

def ID : Field := { slot := 0x41, off := 0x40, lo := 0, width := 16, acc := .rw, reset := 0 }
def OP : Field := { slot := 0x41, off := 0x40, lo := 16, width := 3, acc := .wo, reset := 0 }
def ERR : Field := { slot := 0x41, off := 0x40, lo := 20, width := 4, acc := .ro, reset := 0 }
def BUSY : Field := { slot := 0x41, off := 0x40, lo := 31, width := 1, acc := .ro, reset := 0 }
/-- SHP_MT_CMD (chapter 05). -/
def reg : Register := { name := "SHP_MT_CMD", slot := 0x41, slotCount := 1, off := 0x40, offCount := 1, offStep := 0, wide := false, banked := false, fields := [ID, OP, ERR, BUSY] }
end SHP_MT_CMD

namespace SHP_EVENTS

def RELAXED : Field := { slot := 0x41, off := 0x44, lo := 0, width := 16, acc := .rc, reset := 0 }
def RETARGET : Field := { slot := 0x41, off := 0x44, lo := 16, width := 16, acc := .rc, reset := 0 }
/-- SHP_EVENTS (chapter 05). -/
def reg : Register := { name := "SHP_EVENTS", slot := 0x41, slotCount := 1, off := 0x44, offCount := 1, offStep := 0, wide := false, banked := false, fields := [RELAXED, RETARGET] }
end SHP_EVENTS

namespace SHP_PLACED

def PLACED : Field := { slot := 0x41, off := 0x48, lo := 0, width := 64, acc := .ro, reset := 0 }
/-- SHP_PLACED (chapter 05). -/
def reg : Register := { name := "SHP_PLACED", slot := 0x41, slotCount := 1, off := 0x48, offCount := 1, offStep := 0, wide := true, banked := false, fields := [PLACED] }
end SHP_PLACED

namespace SHP_MT_WIN

def DATA : Field := { slot := 0x41, off := 0x100, lo := 0, width := 32, acc := .rw, reset := 0, offStep := 4 }
/-- SHP_MT_WIN (chapter 05). -/
def reg : Register := { name := "SHP_MT_WIN", slot := 0x41, slotCount := 1, off := 0x100, offCount := 16, offStep := 4, wide := false, banked := false, fields := [DATA] }
end SHP_MT_WIN

namespace PCK_CTRL

def REVERIFY_EN : Field := { slot := 0x70, off := 0x0, lo := 0, width := 1, acc := .rw, reset := 1 }
def QREL : Field := { slot := 0x70, off := 0x0, lo := 1, width := 1, acc := .rwk, reset := 0 }
def QCORE : Field := { slot := 0x70, off := 0x0, lo := 8, width := 7, acc := .rwk, reset := 0 }
/-- PCK_CTRL (chapter 06). -/
def reg : Register := { name := "PCK_CTRL", slot := 0x70, slotCount := 1, off := 0x0, offCount := 1, offStep := 0, wide := false, banked := false, fields := [REVERIFY_EN, QREL, QCORE] }
end PCK_CTRL

namespace PCK_STATUS

def HASH_POOL : Field := { slot := 0x70, off := 0x4, lo := 0, width := 7, acc := .ro, reset := 0 }
def SIGN_POOL : Field := { slot := 0x70, off := 0x4, lo := 8, width := 7, acc := .ro, reset := 0 }
def HEALTHY : Field := { slot := 0x70, off := 0x4, lo := 16, width := 8, acc := .ro, reset := 0 }
def BACKLOG : Field := { slot := 0x70, off := 0x4, lo := 24, width := 8, acc := .ro, reset := 0 }
/-- PCK_STATUS (chapter 06). -/
def reg : Register := { name := "PCK_STATUS", slot := 0x70, slotCount := 1, off := 0x4, offCount := 1, offStep := 0, wide := false, banked := false, fields := [HASH_POOL, SIGN_POOL, HEALTHY, BACKLOG] }
end PCK_STATUS

namespace PCK_EPOCH_LEN

def LEN_US : Field := { slot := 0x70, off := 0x8, lo := 0, width := 20, acc := .rw, reset := 500, subs := [⟨0, 49, 50⟩, ⟨1000001, 1048575, 1000000⟩] }
/-- PCK_EPOCH_LEN (chapter 06). -/
def reg : Register := { name := "PCK_EPOCH_LEN", slot := 0x70, slotCount := 1, off := 0x8, offCount := 1, offStep := 0, wide := false, banked := false, fields := [LEN_US] }
end PCK_EPOCH_LEN

namespace PCK_SIGN_CFG

def GROUP : Field := { slot := 0x70, off := 0xc, lo := 0, width := 6, acc := .rw, reset := 20, subs := [⟨0, 2, 3⟩, ⟨49, 63, 48⟩] }
def VGROUP : Field := { slot := 0x70, off := 0xc, lo := 8, width := 4, acc := .rw, reset := 4, subs := [⟨0, 0, 1⟩, ⟨9, 15, 8⟩] }
def PARAM : Field := { slot := 0x70, off := 0xc, lo := 16, width := 3, acc := .ro, reset := 6 }
/-- PCK_SIGN_CFG (chapter 06). -/
def reg : Register := { name := "PCK_SIGN_CFG", slot := 0x70, slotCount := 1, off := 0xc, offCount := 1, offStep := 0, wide := false, banked := false, fields := [GROUP, VGROUP, PARAM] }
end PCK_SIGN_CFG

namespace PCK_SIGN_SLOTS

def SEED_SLOT : Field := { slot := 0x70, off := 0x10, lo := 0, width := 16, acc := .rwk, reset := 0 }
def PRF_SLOT : Field := { slot := 0x70, off := 0x10, lo := 16, width := 16, acc := .rwk, reset := 0 }
/-- PCK_SIGN_SLOTS (chapter 06). -/
def reg : Register := { name := "PCK_SIGN_SLOTS", slot := 0x70, slotCount := 1, off := 0x10, offCount := 1, offStep := 0, wide := false, banked := false, fields := [SEED_SLOT, PRF_SLOT] }
end PCK_SIGN_SLOTS

namespace PCK_QPOL

def WINDOW : Field := { slot := 0x70, off := 0x14, lo := 0, width := 8, acc := .rwk, reset := 24, subs := [⟨0, 0, 1⟩] }
def LIMIT : Field := { slot := 0x70, off := 0x14, lo := 8, width := 4, acc := .rwk, reset := 2, subs := [⟨0, 0, 1⟩] }
/-- PCK_QPOL (chapter 06). -/
def reg : Register := { name := "PCK_QPOL", slot := 0x70, slotCount := 1, off := 0x14, offCount := 1, offStep := 0, wide := false, banked := false, fields := [WINDOW, LIMIT] }
end PCK_QPOL

namespace PCK_REVERIFY

def AGE : Field := { slot := 0x70, off := 0x18, lo := 0, width := 16, acc := .rw, reset := 3600, subs := [⟨0, 59, 60⟩] }
/-- PCK_REVERIFY (chapter 06). -/
def reg : Register := { name := "PCK_REVERIFY", slot := 0x70, slotCount := 1, off := 0x18, offCount := 1, offStep := 0, wide := false, banked := false, fields := [AGE] }
end PCK_REVERIFY

namespace PCK_EPOCH_NUM

def EPOCH : Field := { slot := 0x70, off := 0x20, lo := 0, width := 64, acc := .ro, reset := 0 }
/-- PCK_EPOCH_NUM (chapter 06). -/
def reg : Register := { name := "PCK_EPOCH_NUM", slot := 0x70, slotCount := 1, off := 0x20, offCount := 1, offStep := 0, wide := true, banked := false, fields := [EPOCH] }
end PCK_EPOCH_NUM

namespace PCK_EVENTS

def RETRY : Field := { slot := 0x70, off := 0x28, lo := 0, width := 16, acc := .rc, reset := 0 }
def VERIFY_FAIL : Field := { slot := 0x70, off := 0x28, lo := 16, width := 8, acc := .rc, reset := 0 }
def REVERIFY_FAIL : Field := { slot := 0x70, off := 0x28, lo := 24, width := 8, acc := .rc, reset := 0 }
/-- PCK_EVENTS (chapter 06). -/
def reg : Register := { name := "PCK_EVENTS", slot := 0x70, slotCount := 1, off := 0x28, offCount := 1, offStep := 0, wide := false, banked := false, fields := [RETRY, VERIFY_FAIL, REVERIFY_FAIL] }
end PCK_EVENTS

namespace PCK_HEALTHY

def CORES : Field := { slot := 0x70, off := 0x100, lo := 0, width := 32, acc := .ro, reset := 0, offStep := 4 }
/-- PCK_HEALTHY_w (chapter 06). -/
def reg : Register := { name := "PCK_HEALTHY_w", slot := 0x70, slotCount := 1, off := 0x100, offCount := 4, offStep := 4, wide := false, banked := false, fields := [CORES] }
end PCK_HEALTHY

namespace PCK_POOL

def SIGN : Field := { slot := 0x70, off := 0x110, lo := 0, width := 32, acc := .ro, reset := 0, offStep := 4 }
/-- PCK_POOL_w (chapter 06). -/
def reg : Register := { name := "PCK_POOL_w", slot := 0x70, slotCount := 1, off := 0x110, offCount := 4, offStep := 4, wide := false, banked := false, fields := [SIGN] }
end PCK_POOL

namespace FT_CTRL

def QMODE0 : Field := { slot := 0x80, off := 0x0, lo := 0, width := 3, acc := .rw, reset := 1, subs := [⟨7, 7, 0⟩] }
def QMODE1 : Field := { slot := 0x80, off := 0x0, lo := 3, width := 3, acc := .rw, reset := 1, subs := [⟨7, 7, 0⟩] }
def QMODE2 : Field := { slot := 0x80, off := 0x0, lo := 6, width := 3, acc := .rw, reset := 1, subs := [⟨7, 7, 0⟩] }
def QMODE3 : Field := { slot := 0x80, off := 0x0, lo := 9, width := 3, acc := .rw, reset := 1, subs := [⟨7, 7, 0⟩] }
def QMODE4 : Field := { slot := 0x80, off := 0x0, lo := 12, width := 3, acc := .rw, reset := 1, subs := [⟨7, 7, 0⟩] }
def QMODE5 : Field := { slot := 0x80, off := 0x0, lo := 15, width := 3, acc := .rw, reset := 1, subs := [⟨7, 7, 0⟩] }
/-- FT_CTRL (chapter 07). -/
def reg : Register := { name := "FT_CTRL", slot := 0x80, slotCount := 1, off := 0x0, offCount := 1, offStep := 0, wide := false, banked := false, fields := [QMODE0, QMODE1, QMODE2, QMODE3, QMODE4, QMODE5] }
end FT_CTRL

namespace FT_TIMERS

def INIT_RTO : Field := { slot := 0x80, off := 0x4, lo := 0, width := 10, acc := .rw, reset := 100, subs := [⟨0, 19, 20⟩, ⟨1001, 1023, 1000⟩] }
def DURABLE_S : Field := { slot := 0x80, off := 0x4, lo := 16, width := 8, acc := .rw, reset := 30, subs := [⟨0, 0, 1⟩] }
/-- FT_TIMERS (chapter 07). -/
def reg : Register := { name := "FT_TIMERS", slot := 0x80, slotCount := 1, off := 0x4, offCount := 1, offStep := 0, wide := false, banked := false, fields := [INIT_RTO, DURABLE_S] }
end FT_TIMERS

namespace FT_GETTMO

def GET_MS : Field := { slot := 0x80, off := 0x8, lo := 0, width := 16, acc := .rw, reset := 2000, subs := [⟨0, 9, 10⟩] }
/-- FT_GETTMO (chapter 07). -/
def reg : Register := { name := "FT_GETTMO", slot := 0x80, slotCount := 1, off := 0x8, offCount := 1, offStep := 0, wide := false, banked := false, fields := [GET_MS] }
end FT_GETTMO

namespace FT_STATUS

def ASSOC : Field := { slot := 0x80, off := 0xc, lo := 0, width := 7, acc := .ro, reset := 0 }
def PORT_UP : Field := { slot := 0x80, off := 0xc, lo := 8, width := 24, acc := .ro, reset := 0 }
/-- FT_STATUS (chapter 07). -/
def reg : Register := { name := "FT_STATUS", slot := 0x80, slotCount := 1, off := 0xc, offCount := 1, offStep := 0, wide := false, banked := false, fields := [ASSOC, PORT_UP] }
end FT_STATUS

namespace FT_EVENTS

def TAG_FAIL : Field := { slot := 0x80, off := 0x10, lo := 0, width := 16, acc := .rc, reset := 0 }
def RESEND : Field := { slot := 0x80, off := 0x10, lo := 16, width := 16, acc := .rc, reset := 0 }
/-- FT_EVENTS (chapter 07). -/
def reg : Register := { name := "FT_EVENTS", slot := 0x80, slotCount := 1, off := 0x10, offCount := 1, offStep := 0, wide := false, banked := false, fields := [TAG_FAIL, RESEND] }
end FT_EVENTS

namespace RST_CFG

def SPARE : Field := { slot := 0x81, off := 0x0, lo := 0, width := 2, acc := .rw, reset := 0, subs := [⟨3, 3, 2⟩] }
def TAG_RETRIES : Field := { slot := 0x81, off := 0x0, lo := 4, width := 2, acc := .rw, reset := 2 }
def REPAIR_PCT : Field := { slot := 0x81, off := 0x0, lo := 8, width := 7, acc := .rw, reset := 5, subs := [⟨0, 0, 1⟩, ⟨101, 127, 100⟩] }
def CAT_COPIES : Field := { slot := 0x81, off := 0x0, lo := 16, width := 2, acc := .rw, reset := 3, subs := [⟨0, 0, 1⟩] }
/-- RST_CFG (chapter 07). -/
def reg : Register := { name := "RST_CFG", slot := 0x81, slotCount := 1, off := 0x0, offCount := 1, offStep := 0, wide := false, banked := false, fields := [SPARE, TAG_RETRIES, REPAIR_PCT, CAT_COPIES] }
end RST_CFG

namespace RST_STATUS

def REPAIR_MEDIA : Field := { slot := 0x81, off := 0x4, lo := 0, width := 8, acc := .ro, reset := 0 }
def AT_RISK : Field := { slot := 0x81, off := 0x4, lo := 8, width := 24, acc := .ro, reset := 0 }
/-- RST_STATUS (chapter 07). -/
def reg : Register := { name := "RST_STATUS", slot := 0x81, slotCount := 1, off := 0x4, offCount := 1, offStep := 0, wide := false, banked := false, fields := [REPAIR_MEDIA, AT_RISK] }
end RST_STATUS

namespace RST_EVENTS

def DEGRADED : Field := { slot := 0x81, off := 0x8, lo := 0, width := 16, acc := .rc, reset := 0 }
def TAG_FAIL : Field := { slot := 0x81, off := 0x8, lo := 16, width := 8, acc := .rc, reset := 0 }
def UNRECOV : Field := { slot := 0x81, off := 0x8, lo := 24, width := 8, acc := .rc, reset := 0 }
/-- RST_EVENTS (chapter 07). -/
def reg : Register := { name := "RST_EVENTS", slot := 0x81, slotCount := 1, off := 0x8, offCount := 1, offStep := 0, wide := false, banked := false, fields := [DEGRADED, TAG_FAIL, UNRECOV] }
end RST_EVENTS

namespace RPR_CMD

def MEDIA : Field := { slot := 0x81, off := 0xc, lo := 0, width := 16, acc := .rw, reset := 0 }
def OP : Field := { slot := 0x81, off := 0xc, lo := 16, width := 2, acc := .wo, reset := 0 }
def ERR : Field := { slot := 0x81, off := 0xc, lo := 28, width := 3, acc := .ro, reset := 0 }
def BUSY : Field := { slot := 0x81, off := 0xc, lo := 31, width := 1, acc := .ro, reset := 0 }
/-- RPR_CMD (chapter 07). -/
def reg : Register := { name := "RPR_CMD", slot := 0x81, slotCount := 1, off := 0xc, offCount := 1, offStep := 0, wide := false, banked := false, fields := [MEDIA, OP, ERR, BUSY] }
end RPR_CMD

namespace RST_IDX_KEY

def SLOT : Field := { slot := 0x81, off := 0x10, lo := 0, width := 16, acc := .rwk, reset := 0 }
/-- RST_IDX_KEY (chapter 07). -/
def reg : Register := { name := "RST_IDX_KEY", slot := 0x81, slotCount := 1, off := 0x10, offCount := 1, offStep := 0, wide := false, banked := false, fields := [SLOT] }
end RST_IDX_KEY

namespace SDB_STATUS

def ENROLLED : Field := { slot := 0x90, off := 0x0, lo := 0, width := 1, acc := .ro, reset := 0 }
def KEYED : Field := { slot := 0x90, off := 0x0, lo := 1, width := 1, acc := .ro, reset := 0 }
def ESCROWED : Field := { slot := 0x90, off := 0x0, lo := 2, width := 1, acc := .ro, reset := 0 }
def ROTATING : Field := { slot := 0x90, off := 0x0, lo := 3, width := 1, acc := .ro, reset := 0 }
def CUSTODY_OP : Field := { slot := 0x90, off := 0x0, lo := 4, width := 1, acc := .ro, reset := 0 }
def VAULT_GEN : Field := { slot := 0x90, off := 0x0, lo := 16, width := 16, acc := .ro, reset := 0 }
/-- SDB_STATUS (chapter 08). -/
def reg : Register := { name := "SDB_STATUS", slot := 0x90, slotCount := 1, off := 0x0, offCount := 1, offStep := 0, wide := false, banked := false, fields := [ENROLLED, KEYED, ESCROWED, ROTATING, CUSTODY_OP, VAULT_GEN] }
end SDB_STATUS

namespace SDB_CMD

def OP : Field := { slot := 0x90, off := 0x4, lo := 0, width := 8, acc := .rwk, reset := 0 }
def ERR : Field := { slot := 0x90, off := 0x4, lo := 16, width := 8, acc := .ro, reset := 0 }
def BUSY : Field := { slot := 0x90, off := 0x4, lo := 31, width := 1, acc := .ro, reset := 0 }
/-- SDB_CMD (chapter 08). -/
def reg : Register := { name := "SDB_CMD", slot := 0x90, slotCount := 1, off := 0x4, offCount := 1, offStep := 0, wide := false, banked := false, fields := [OP, ERR, BUSY] }
end SDB_CMD

namespace SDB_SLOTS

def DST : Field := { slot := 0x90, off := 0x8, lo := 0, width := 16, acc := .rwk, reset := 0 }
def SRC : Field := { slot := 0x90, off := 0x8, lo := 16, width := 16, acc := .rwk, reset := 0 }
/-- SDB_SLOTS (chapter 08). -/
def reg : Register := { name := "SDB_SLOTS", slot := 0x90, slotCount := 1, off := 0x8, offCount := 1, offStep := 0, wide := false, banked := false, fields := [DST, SRC] }
end SDB_SLOTS

namespace SDB_LEN

def LEN : Field := { slot := 0x90, off := 0xc, lo := 0, width := 12, acc := .rwk, reset := 0 }
def PAIR : Field := { slot := 0x90, off := 0xc, lo := 12, width := 1, acc := .rwk, reset := 0 }
def SLEN : Field := { slot := 0x90, off := 0xc, lo := 16, width := 8, acc := .rwk, reset := 0 }
/-- SDB_LEN (chapter 08). -/
def reg : Register := { name := "SDB_LEN", slot := 0x90, slotCount := 1, off := 0xc, offCount := 1, offStep := 0, wide := false, banked := false, fields := [LEN, PAIR, SLEN] }
end SDB_LEN

namespace SDB_ATTR

def ATTR : Field := { slot := 0x90, off := 0x10, lo := 0, width := 64, acc := .rwk, reset := 0 }
/-- SDB_ATTR (chapter 08). -/
def reg : Register := { name := "SDB_ATTR", slot := 0x90, slotCount := 1, off := 0x10, offCount := 1, offStep := 0, wide := true, banked := false, fields := [ATTR] }
end SDB_ATTR

namespace SDB_PRES

def WINDOW_S : Field := { slot := 0x90, off := 0x18, lo := 0, width := 10, acc := .rwk, reset := 60, subs := [⟨0, 9, 10⟩, ⟨601, 1023, 600⟩] }
def QUORUM_S : Field := { slot := 0x90, off := 0x18, lo := 16, width := 10, acc := .rwk, reset := 600, subs := [⟨0, 59, 60⟩] }
/-- SDB_PRES (chapter 08). -/
def reg : Register := { name := "SDB_PRES", slot := 0x90, slotCount := 1, off := 0x18, offCount := 1, offStep := 0, wide := false, banked := false, fields := [WINDOW_S, QUORUM_S] }
end SDB_PRES

namespace SDB_EVENTS

def LOADS : Field := { slot := 0x90, off := 0x1c, lo := 0, width := 16, acc := .rc, reset := 0 }
def BUS_RETRY : Field := { slot := 0x90, off := 0x1c, lo := 16, width := 8, acc := .rc, reset := 0 }
def RECORD_BAD : Field := { slot := 0x90, off := 0x1c, lo := 24, width := 8, acc := .rc, reset := 0 }
/-- SDB_EVENTS (chapter 08). -/
def reg : Register := { name := "SDB_EVENTS", slot := 0x90, slotCount := 1, off := 0x1c, offCount := 1, offStep := 0, wide := false, banked := false, fields := [LOADS, BUS_RETRY, RECORD_BAD] }
end SDB_EVENTS

namespace SDB_WIN

def DATA : Field := { slot := 0x90, off := 0x100, lo := 0, width := 32, acc := .rwk, reset := 0, offStep := 4 }
/-- SDB_WIN (chapter 08). -/
def reg : Register := { name := "SDB_WIN", slot := 0x90, slotCount := 1, off := 0x100, offCount := 512, offStep := 4, wide := false, banked := false, fields := [DATA] }
end SDB_WIN

namespace TRNG_CTRL

def SRC_EN : Field := { slot := 0x91, off := 0x0, lo := 0, width := 4, acc := .rwk, reset := 15 }
/-- TRNG_CTRL (chapter 08). -/
def reg : Register := { name := "TRNG_CTRL", slot := 0x91, slotCount := 1, off := 0x0, offCount := 1, offStep := 0, wide := false, banked := false, fields := [SRC_EN] }
end TRNG_CTRL

namespace TRNG_STATUS

def SRC_OK : Field := { slot := 0x91, off := 0x4, lo := 0, width := 4, acc := .ro, reset := 0 }
def DRBG_OK : Field := { slot := 0x91, off := 0x4, lo := 4, width := 1, acc := .ro, reset := 0 }
def FAIL : Field := { slot := 0x91, off := 0x4, lo := 5, width := 1, acc := .ro, reset := 0 }
/-- TRNG_STATUS (chapter 08). -/
def reg : Register := { name := "TRNG_STATUS", slot := 0x91, slotCount := 1, off := 0x4, offCount := 1, offStep := 0, wide := false, banked := false, fields := [SRC_OK, DRBG_OK, FAIL] }
end TRNG_STATUS

namespace TRNG_EVENTS

def RCT_FAIL : Field := { slot := 0x91, off := 0x8, lo := 0, width := 16, acc := .rc, reset := 0 }
def APT_FAIL : Field := { slot := 0x91, off := 0x8, lo := 16, width := 16, acc := .rc, reset := 0 }
/-- TRNG_EVENTS (chapter 08). -/
def reg : Register := { name := "TRNG_EVENTS", slot := 0x91, slotCount := 1, off := 0x8, offCount := 1, offStep := 0, wide := false, banked := false, fields := [RCT_FAIL, APT_FAIL] }
end TRNG_EVENTS

namespace AWL_CTRL

def EN : Field := { slot := 0xa0, off := 0x0, lo := 0, width := 1, acc := .rwk, reset := 0 }
def QREL : Field := { slot := 0xa0, off := 0x0, lo := 1, width := 1, acc := .rwk, reset := 0 }
def QUNIT : Field := { slot := 0xa0, off := 0x0, lo := 8, width := 4, acc := .rwk, reset := 0 }
def COAL_N : Field := { slot := 0xa0, off := 0x0, lo := 16, width := 8, acc := .rwk, reset := 1, subs := [⟨0, 0, 1⟩] }
def COAL_US : Field := { slot := 0xa0, off := 0x0, lo := 24, width := 8, acc := .rwk, reset := 10 }
/-- AWL_CTRL (chapter 09). -/
def reg : Register := { name := "AWL_CTRL", slot := 0xa0, slotCount := 1, off := 0x0, offCount := 1, offStep := 0, wide := false, banked := false, fields := [EN, QREL, QUNIT, COAL_N, COAL_US] }
end AWL_CTRL

namespace AWL_RING_BASE

def BASE : Field := { slot := 0xa0, off := 0x8, lo := 0, width := 64, acc := .rwk, reset := 0 }
/-- AWL_RING_BASE (chapter 09). -/
def reg : Register := { name := "AWL_RING_BASE", slot := 0xa0, slotCount := 1, off := 0x8, offCount := 1, offStep := 0, wide := true, banked := false, fields := [BASE] }
end AWL_RING_BASE

namespace AWL_RING_CFG

def SIZE_LOG2 : Field := { slot := 0xa0, off := 0x10, lo := 0, width := 4, acc := .rwk, reset := 4, subs := [⟨0, 3, 4⟩, ⟨13, 15, 12⟩] }
/-- AWL_RING_CFG (chapter 09). -/
def reg : Register := { name := "AWL_RING_CFG", slot := 0xa0, slotCount := 1, off := 0x10, offCount := 1, offStep := 0, wide := false, banked := false, fields := [SIZE_LOG2] }
end AWL_RING_CFG

namespace AWL_RING_TAIL

def TAIL : Field := { slot := 0xa0, off := 0x14, lo := 0, width := 12, acc := .rwk, reset := 0 }
/-- AWL_RING_TAIL (chapter 09). -/
def reg : Register := { name := "AWL_RING_TAIL", slot := 0xa0, slotCount := 1, off := 0x14, offCount := 1, offStep := 0, wide := false, banked := false, fields := [TAIL] }
end AWL_RING_TAIL

namespace AWL_RING_HEAD

def HEAD : Field := { slot := 0xa0, off := 0x18, lo := 0, width := 12, acc := .ro, reset := 0 }
def DONE : Field := { slot := 0xa0, off := 0x18, lo := 16, width := 12, acc := .ro, reset := 0 }
/-- AWL_RING_HEAD (chapter 09). -/
def reg : Register := { name := "AWL_RING_HEAD", slot := 0xa0, slotCount := 1, off := 0x18, offCount := 1, offStep := 0, wide := false, banked := false, fields := [HEAD, DONE] }
end AWL_RING_HEAD

namespace AWL_ABORT

def INDEX : Field := { slot := 0xa0, off := 0x1c, lo := 0, width := 12, acc := .rwk, reset := 0 }
def GO : Field := { slot := 0xa0, off := 0x1c, lo := 15, width := 1, acc := .rwk, reset := 0 }
def ERR : Field := { slot := 0xa0, off := 0x1c, lo := 16, width := 2, acc := .ro, reset := 0 }
def BUSY : Field := { slot := 0xa0, off := 0x1c, lo := 31, width := 1, acc := .ro, reset := 0 }
/-- AWL_ABORT (chapter 09). -/
def reg : Register := { name := "AWL_ABORT", slot := 0xa0, slotCount := 1, off := 0x1c, offCount := 1, offStep := 0, wide := false, banked := false, fields := [INDEX, GO, ERR, BUSY] }
end AWL_ABORT

namespace AWL_STATUS

def HEALTHY : Field := { slot := 0xa0, off := 0x20, lo := 0, width := 16, acc := .ro, reset := 0 }
def QUEUED : Field := { slot := 0xa0, off := 0x20, lo := 16, width := 8, acc := .ro, reset := 0 }
/-- AWL_STATUS (chapter 09). -/
def reg : Register := { name := "AWL_STATUS", slot := 0xa0, slotCount := 1, off := 0x20, offCount := 1, offStep := 0, wide := false, banked := false, fields := [HEALTHY, QUEUED] }
end AWL_STATUS

namespace AWL_QPOL

def WINDOW : Field := { slot := 0xa0, off := 0x24, lo := 0, width := 8, acc := .rwk, reset := 24, subs := [⟨0, 0, 1⟩] }
def LIMIT : Field := { slot := 0xa0, off := 0x24, lo := 8, width := 4, acc := .rwk, reset := 2, subs := [⟨0, 0, 1⟩] }
/-- AWL_QPOL (chapter 09). -/
def reg : Register := { name := "AWL_QPOL", slot := 0xa0, slotCount := 1, off := 0x24, offCount := 1, offStep := 0, wide := false, banked := false, fields := [WINDOW, LIMIT] }
end AWL_QPOL

namespace AWL_EVENTS

def INVALID : Field := { slot := 0xa0, off := 0x28, lo := 0, width := 8, acc := .rc, reset := 0 }
def ABORT_LATE : Field := { slot := 0xa0, off := 0x28, lo := 8, width := 8, acc := .rc, reset := 0 }
def REISSUE : Field := { slot := 0xa0, off := 0x28, lo := 16, width := 8, acc := .rc, reset := 0 }
def SAME_UNIT : Field := { slot := 0xa0, off := 0x28, lo := 24, width := 8, acc := .rc, reset := 0 }
/-- AWL_EVENTS (chapter 09). -/
def reg : Register := { name := "AWL_EVENTS", slot := 0xa0, slotCount := 1, off := 0x28, offCount := 1, offStep := 0, wide := false, banked := false, fields := [INVALID, ABORT_LATE, REISSUE, SAME_UNIT] }
end AWL_EVENTS

namespace AWL_OPS

def OPS : Field := { slot := 0xa0, off := 0x30, lo := 0, width := 64, acc := .ro, reset := 0 }
/-- AWL_OPS (chapter 09). -/
def reg : Register := { name := "AWL_OPS", slot := 0xa0, slotCount := 1, off := 0x30, offCount := 1, offStep := 0, wide := true, banked := false, fields := [OPS] }
end AWL_OPS

namespace AWL_UNIT

def STATE : Field := { slot := 0xa0, off := 0x100, lo := 0, width := 4, acc := .ro, reset := 0, offStep := 4 }
def LAST_STATUS : Field := { slot := 0xa0, off := 0x100, lo := 8, width := 8, acc := .ro, reset := 0, offStep := 4 }
def LAST_REASON : Field := { slot := 0xa0, off := 0x100, lo := 16, width := 8, acc := .ro, reset := 0, offStep := 4 }
def MISMATCH_CNT : Field := { slot := 0xa0, off := 0x100, lo := 24, width := 8, acc := .ro, reset := 0, offStep := 4 }
/-- AWL_UNIT_n (chapter 09). -/
def reg : Register := { name := "AWL_UNIT_n", slot := 0xa0, slotCount := 1, off := 0x100, offCount := 16, offStep := 4, wide := false, banked := false, fields := [STATE, LAST_STATUS, LAST_REASON, MISMATCH_CNT] }
end AWL_UNIT

namespace MMU_TTBK

def BASE : Field := { slot := 0xb0, off := 0x0, lo := 12, width := 36, acc := .rwk, reset := 0, slotStep := 1 }
/-- MMU_TTBK (chapter 10). -/
def reg : Register := { name := "MMU_TTBK", slot := 0xb0, slotCount := 16, off := 0x0, offCount := 1, offStep := 0, wide := true, banked := false, fields := [BASE] }
end MMU_TTBK

namespace MMU_TTBT

def BASE : Field := { slot := 0xb0, off := 0x8, lo := 12, width := 36, acc := .rw, reset := 0, slotStep := 1 }
/-- MMU_TTBT (chapter 10). -/
def reg : Register := { name := "MMU_TTBT", slot := 0xb0, slotCount := 16, off := 0x8, offCount := 1, offStep := 0, wide := true, banked := false, fields := [BASE] }
end MMU_TTBT

namespace MMU_CTRL

def PGK : Field := { slot := 0xb0, off := 0x10, lo := 0, width := 1, acc := .rwk, reset := 0, slotStep := 1 }
def PGT : Field := { slot := 0xb0, off := 0x10, lo := 1, width := 1, acc := .rw, reset := 0, slotStep := 1 }
/-- MMU_CTRL (chapter 10). -/
def reg : Register := { name := "MMU_CTRL", slot := 0xb0, slotCount := 16, off := 0x10, offCount := 1, offStep := 0, wide := false, banked := false, fields := [PGK, PGT] }
end MMU_CTRL

namespace MMU_WALKS

def WALKS : Field := { slot := 0xb0, off := 0x18, lo := 0, width := 16, acc := .rc, reset := 0, slotStep := 1 }
def FAULTS : Field := { slot := 0xb0, off := 0x18, lo := 16, width := 16, acc := .rc, reset := 0, slotStep := 1 }
/-- MMU_WALKS (chapter 10). -/
def reg : Register := { name := "MMU_WALKS", slot := 0xb0, slotCount := 16, off := 0x18, offCount := 1, offStep := 0, wide := false, banked := false, fields := [WALKS, FAULTS] }
end MMU_WALKS

namespace CORE_STK_K

def TOP : Field := { slot := 0xc0, off := 0x0, lo := 3, width := 61, acc := .rwk, reset := 0, slotStep := 1 }
/-- CORE_STK_K (chapter 11). -/
def reg : Register := { name := "CORE_STK_K", slot := 0xc0, slotCount := 16, off := 0x0, offCount := 1, offStep := 0, wide := true, banked := false, fields := [TOP] }
end CORE_STK_K

namespace CORE_STK_T

def TOP : Field := { slot := 0xc0, off := 0x8, lo := 3, width := 61, acc := .rw, reset := 0, slotStep := 1 }
/-- CORE_STK_T (chapter 11). -/
def reg : Register := { name := "CORE_STK_T", slot := 0xc0, slotCount := 16, off := 0x8, offCount := 1, offStep := 0, wide := true, banked := false, fields := [TOP] }
end CORE_STK_T

namespace CORE_GTBL_K

def BASE : Field := { slot := 0xc0, off := 0x10, lo := 5, width := 43, acc := .rwk, reset := 0, slotStep := 1 }
/-- CORE_GTBL_K (chapter 11). -/
def reg : Register := { name := "CORE_GTBL_K", slot := 0xc0, slotCount := 16, off := 0x10, offCount := 1, offStep := 0, wide := true, banked := false, fields := [BASE] }
end CORE_GTBL_K

namespace CORE_GTBL_T

def BASE : Field := { slot := 0xc0, off := 0x18, lo := 5, width := 43, acc := .rw, reset := 0, slotStep := 1 }
/-- CORE_GTBL_T (chapter 11). -/
def reg : Register := { name := "CORE_GTBL_T", slot := 0xc0, slotCount := 16, off := 0x18, offCount := 1, offStep := 0, wide := true, banked := false, fields := [BASE] }
end CORE_GTBL_T

namespace CORE_STATE

def GDEPTH : Field := { slot := 0xc0, off := 0x20, lo := 0, width := 4, acc := .ro, reset := 0, slotStep := 1 }
def ES_BUSY_T : Field := { slot := 0xc0, off := 0x20, lo := 4, width := 1, acc := .w1c, reset := 0, slotStep := 1 }
def ES_BUSY_K : Field := { slot := 0xc0, off := 0x20, lo := 5, width := 1, acc := .w1c, reset := 0, slotStep := 1 }
def RETRIES : Field := { slot := 0xc0, off := 0x20, lo := 8, width := 8, acc := .rc, reset := 0, slotStep := 1 }
def PSTATE : Field := { slot := 0xc0, off := 0x20, lo := 16, width := 3, acc := .ro, reset := 0, slotStep := 1 }
/-- CORE_STATE (chapter 11). -/
def reg : Register := { name := "CORE_STATE", slot := 0xc0, slotCount := 16, off := 0x20, offCount := 1, offStep := 0, wide := false, banked := false, fields := [GDEPTH, ES_BUSY_T, ES_BUSY_K, RETRIES, PSTATE] }
end CORE_STATE

namespace CORE_LIMITS

def IM_US : Field := { slot := 0xc0, off := 0x24, lo := 0, width := 12, acc := .rw, reset := 100, slotStep := 1 }
def KHOLD_US : Field := { slot := 0xc0, off := 0x24, lo := 16, width := 12, acc := .rwk, reset := 1000, slotStep := 1 }
/-- CORE_LIMITS (chapter 11). -/
def reg : Register := { name := "CORE_LIMITS", slot := 0xc0, slotCount := 16, off := 0x24, offCount := 1, offStep := 0, wide := false, banked := false, fields := [IM_US, KHOLD_US] }
end CORE_LIMITS

namespace CORE_CTRL

def QREL : Field := { slot := 0xc0, off := 0x28, lo := 0, width := 1, acc := .rwk, reset := 0, slotStep := 1 }
/-- CORE_CTRL (chapter 11). -/
def reg : Register := { name := "CORE_CTRL", slot := 0xc0, slotCount := 16, off := 0x28, offCount := 1, offStep := 0, wide := false, banked := false, fields := [QREL] }
end CORE_CTRL

namespace IC_CLAIM

def SRC : Field := { slot := 0xc0, off := 0x40, lo := 0, width := 10, acc := .rc, reset := 0, slotStep := 1 }
def PRIO : Field := { slot := 0xc0, off := 0x40, lo := 12, width := 4, acc := .rc, reset := 0, slotStep := 1 }
def VALID : Field := { slot := 0xc0, off := 0x40, lo := 31, width := 1, acc := .rc, reset := 0, slotStep := 1 }
/-- IC_CLAIM (chapter 11). -/
def reg : Register := { name := "IC_CLAIM", slot := 0xc0, slotCount := 16, off := 0x40, offCount := 1, offStep := 0, wide := false, banked := true, fields := [SRC, PRIO, VALID] }
end IC_CLAIM

namespace IC_EOI

def SRC : Field := { slot := 0xc0, off := 0x44, lo := 0, width := 10, acc := .wo, reset := 0, slotStep := 1 }
/-- IC_EOI (chapter 11). -/
def reg : Register := { name := "IC_EOI", slot := 0xc0, slotCount := 16, off := 0x44, offCount := 1, offStep := 0, wide := false, banked := true, fields := [SRC] }
end IC_EOI

namespace IC_RPRI

def PRIO : Field := { slot := 0xc0, off := 0x48, lo := 0, width := 5, acc := .ro, reset := 31, slotStep := 1 }
/-- IC_RPRI (chapter 11). -/
def reg : Register := { name := "IC_RPRI", slot := 0xc0, slotCount := 16, off := 0x48, offCount := 1, offStep := 0, wide := false, banked := true, fields := [PRIO] }
end IC_RPRI

namespace CORE_SAVE

def DATA : Field := { slot := 0xc0, off := 0x100, lo := 0, width := 32, acc := .ro, reset := 0, slotStep := 1, offStep := 4 }
/-- CORE_SAVE_w (chapter 11). -/
def reg : Register := { name := "CORE_SAVE_w", slot := 0xc0, slotCount := 16, off := 0x100, offCount := 80, offStep := 4, wide := false, banked := false, fields := [DATA] }
end CORE_SAVE

namespace IC_ROUTE

def WORLD : Field := { slot := 0xd0, off := 0x0, lo := 0, width := 1, acc := .rwk, reset := 1, offStep := 4 }
def PAIR : Field := { slot := 0xd0, off := 0x0, lo := 1, width := 4, acc := .rwk, reset := 0, offStep := 4 }
def MODE : Field := { slot := 0xd0, off := 0x0, lo := 5, width := 1, acc := .rwk, reset := 0, offStep := 4 }
def PRIO : Field := { slot := 0xd0, off := 0x0, lo := 8, width := 4, acc := .rw, reset := 0, offStep := 4 }
def EN : Field := { slot := 0xd0, off := 0x0, lo := 12, width := 1, acc := .rw, reset := 0, offStep := 4 }
def PEND : Field := { slot := 0xd0, off := 0x0, lo := 13, width := 1, acc := .ro, reset := 0, offStep := 4 }
def ACTIVE : Field := { slot := 0xd0, off := 0x0, lo := 14, width := 1, acc := .ro, reset := 0, offStep := 4 }
def MOVED : Field := { slot := 0xd0, off := 0x0, lo := 15, width := 1, acc := .ro, reset := 0, offStep := 4 }
/-- IC_ROUTE_n (chapter 11). -/
def reg : Register := { name := "IC_ROUTE_n", slot := 0xd0, slotCount := 1, off := 0x0, offCount := 1024, offStep := 4, wide := false, banked := false, fields := [WORLD, PAIR, MODE, PRIO, EN, PEND, ACTIVE, MOVED] }
end IC_ROUTE

namespace IC_SWI

def SRC : Field := { slot := 0xd0, off := 0x1000, lo := 0, width := 10, acc := .wo, reset := 0 }
/-- IC_SWI (chapter 11). -/
def reg : Register := { name := "IC_SWI", slot := 0xd0, slotCount := 1, off := 0x1000, offCount := 1, offStep := 0, wide := false, banked := false, fields := [SRC] }
end IC_SWI

namespace AT_CMD

def INDEX : Field := { slot := 0x20, off := 0x0, lo := 0, width := 9, acc := .rw, reset := 0 }
def TARGET : Field := { slot := 0x20, off := 0x0, lo := 9, width := 6, acc := .rw, reset := 0 }
def OP : Field := { slot := 0x20, off := 0x0, lo := 16, width := 2, acc := .wo, reset := 0 }
def ERR : Field := { slot := 0x20, off := 0x0, lo := 20, width := 4, acc := .ro, reset := 0 }
def BUSY : Field := { slot := 0x20, off := 0x0, lo := 31, width := 1, acc := .ro, reset := 0 }
/-- AT_CMD (chapter 12). -/
def reg : Register := { name := "AT_CMD", slot := 0x20, slotCount := 1, off := 0x0, offCount := 1, offStep := 0, wide := false, banked := false, fields := [INDEX, TARGET, OP, ERR, BUSY] }
end AT_CMD

namespace AT_COMMIT

def GO : Field := { slot := 0x20, off := 0x4, lo := 0, width := 1, acc := .wo, reset := 0 }
/-- AT_COMMIT (chapter 12). -/
def reg : Register := { name := "AT_COMMIT", slot := 0x20, slotCount := 1, off := 0x4, offCount := 1, offStep := 0, wide := false, banked := false, fields := [GO] }
end AT_COMMIT

namespace AT_STATUS

def DONE : Field := { slot := 0x20, off := 0x8, lo := 0, width := 1, acc := .ro, reset := 1 }
def BOOT : Field := { slot := 0x20, off := 0x8, lo := 1, width := 1, acc := .ro, reset := 1 }
def ERR : Field := { slot := 0x20, off := 0x8, lo := 4, width := 4, acc := .ro, reset := 0 }
def ERR_INDEX : Field := { slot := 0x20, off := 0x8, lo := 8, width := 9, acc := .ro, reset := 0 }
def ERR_TARGET : Field := { slot := 0x20, off := 0x8, lo := 17, width := 6, acc := .ro, reset := 0 }
/-- AT_STATUS (chapter 12). -/
def reg : Register := { name := "AT_STATUS", slot := 0x20, slotCount := 1, off := 0x8, offCount := 1, offStep := 0, wide := false, banked := false, fields := [DONE, BOOT, ERR, ERR_INDEX, ERR_TARGET] }
end AT_STATUS

namespace AT_EPOCH

def EPOCH : Field := { slot := 0x20, off := 0xc, lo := 0, width := 32, acc := .ro, reset := 0 }
/-- AT_EPOCH (chapter 12). -/
def reg : Register := { name := "AT_EPOCH", slot := 0x20, slotCount := 1, off := 0xc, offCount := 1, offStep := 0, wide := false, banked := false, fields := [EPOCH] }
end AT_EPOCH

namespace AT_WIN

def DATA : Field := { slot := 0x20, off := 0x10, lo := 0, width := 32, acc := .rw, reset := 0, offStep := 4 }
/-- AT_WIN_w (chapter 12). -/
def reg : Register := { name := "AT_WIN_w", slot := 0x20, slotCount := 1, off := 0x10, offCount := 4, offStep := 4, wide := false, banked := false, fields := [DATA] }
end AT_WIN

namespace AT_VCNT

def HELD : Field := { slot := 0x20, off := 0x20, lo := 0, width := 6, acc := .ro, reset := 0 }
def LOST : Field := { slot := 0x20, off := 0x20, lo := 16, width := 16, acc := .rc, reset := 0 }
/-- AT_VCNT (chapter 12). -/
def reg : Register := { name := "AT_VCNT", slot := 0x20, slotCount := 1, off := 0x20, offCount := 1, offStep := 0, wide := false, banked := false, fields := [HELD, LOST] }
end AT_VCNT

namespace AT_VPOP

def POP : Field := { slot := 0x20, off := 0x24, lo := 0, width := 1, acc := .wo, reset := 0 }
/-- AT_VPOP (chapter 12). -/
def reg : Register := { name := "AT_VPOP", slot := 0x20, slotCount := 1, off := 0x24, offCount := 1, offStep := 0, wide := false, banked := false, fields := [POP] }
end AT_VPOP

namespace AT_VREC

def DATA : Field := { slot := 0x20, off := 0x100, lo := 0, width := 32, acc := .ro, reset := 0, offStep := 4 }
/-- AT_VREC_w (chapter 12). -/
def reg : Register := { name := "AT_VREC_w", slot := 0x20, slotCount := 1, off := 0x100, offCount := 8, offStep := 4, wide := false, banked := false, fields := [DATA] }
end AT_VREC

namespace ECC_RPT_CFG

def THRESH : Field := { slot := 0x21, off := 0x0, lo := 0, width := 4, acc := .rwk, reset := 3, subs := [⟨0, 1, 2⟩] }
def WINDOW_H : Field := { slot := 0x21, off := 0x0, lo := 8, width := 8, acc := .rwk, reset := 24, subs := [⟨0, 0, 1⟩] }
/-- ECC_RPT_CFG (chapter 12). -/
def reg : Register := { name := "ECC_RPT_CFG", slot := 0x21, slotCount := 1, off := 0x0, offCount := 1, offStep := 0, wide := false, banked := false, fields := [THRESH, WINDOW_H] }
end ECC_RPT_CFG

namespace ECC_COUNTS

def CE : Field := { slot := 0x21, off := 0x4, lo := 0, width := 16, acc := .rc, reset := 0 }
def UE : Field := { slot := 0x21, off := 0x4, lo := 16, width := 8, acc := .rc, reset := 0 }
def HARD : Field := { slot := 0x21, off := 0x4, lo := 24, width := 8, acc := .rc, reset := 0 }
/-- ECC_COUNTS (chapter 12). -/
def reg : Register := { name := "ECC_COUNTS", slot := 0x21, slotCount := 1, off := 0x4, offCount := 1, offStep := 0, wide := false, banked := false, fields := [CE, UE, HARD] }
end ECC_COUNTS

namespace ECC_SPLIT_ADDR

def ADDR : Field := { slot := 0x21, off := 0x8, lo := 2, width := 46, acc := .rwk, reset := 0 }
/-- ECC_SPLIT_ADDR (chapter 12). -/
def reg : Register := { name := "ECC_SPLIT_ADDR", slot := 0x21, slotCount := 1, off := 0x8, offCount := 1, offStep := 0, wide := true, banked := false, fields := [ADDR] }
end ECC_SPLIT_ADDR

namespace ECC_SPLIT_DATA

def DATA : Field := { slot := 0x21, off := 0x10, lo := 0, width := 32, acc := .rwk, reset := 0 }
/-- ECC_SPLIT_DATA (chapter 12). -/
def reg : Register := { name := "ECC_SPLIT_DATA", slot := 0x21, slotCount := 1, off := 0x10, offCount := 1, offStep := 0, wide := false, banked := false, fields := [DATA] }
end ECC_SPLIT_DATA

namespace ECC_SPLIT_CMD

def CHECK : Field := { slot := 0x21, off := 0x14, lo := 0, width := 8, acc := .rwk, reset := 0 }
def GO : Field := { slot := 0x21, off := 0x14, lo := 8, width := 1, acc := .rwk, reset := 0 }
def ERR : Field := { slot := 0x21, off := 0x14, lo := 9, width := 3, acc := .ro, reset := 0 }
def BUSY : Field := { slot := 0x21, off := 0x14, lo := 31, width := 1, acc := .ro, reset := 0 }
/-- ECC_SPLIT_CMD (chapter 12). -/
def reg : Register := { name := "ECC_SPLIT_CMD", slot := 0x21, slotCount := 1, off := 0x14, offCount := 1, offStep := 0, wide := false, banked := false, fields := [CHECK, GO, ERR, BUSY] }
end ECC_SPLIT_CMD

namespace ECC_TEST

def EN : Field := { slot := 0x21, off := 0x18, lo := 0, width := 1, acc := .rwk, reset := 0 }
def ARMED : Field := { slot := 0x21, off := 0x18, lo := 1, width := 1, acc := .w1s, reset := 0 }
def FLIP_CHK : Field := { slot := 0x21, off := 0x18, lo := 8, width := 8, acc := .rwk, reset := 0 }
/-- ECC_TEST (chapter 12). -/
def reg : Register := { name := "ECC_TEST", slot := 0x21, slotCount := 1, off := 0x18, offCount := 1, offStep := 0, wide := false, banked := false, fields := [EN, ARMED, FLIP_CHK] }
end ECC_TEST

namespace ECC_FLIP_DATA

def FLIP : Field := { slot := 0x21, off := 0x1c, lo := 0, width := 32, acc := .rwk, reset := 0 }
/-- ECC_FLIP_DATA (chapter 12). -/
def reg : Register := { name := "ECC_FLIP_DATA", slot := 0x21, slotCount := 1, off := 0x1c, offCount := 1, offStep := 0, wide := false, banked := false, fields := [FLIP] }
end ECC_FLIP_DATA

namespace ECC_INJ

def CHECKER : Field := { slot := 0x21, off := 0x20, lo := 0, width := 6, acc := .rwk, reset := 0 }
def MASK : Field := { slot := 0x21, off := 0x20, lo := 8, width := 8, acc := .rwk, reset := 0 }
def COUNT : Field := { slot := 0x21, off := 0x20, lo := 16, width := 8, acc := .rwk, reset := 0 }
/-- ECC_INJ (chapter 12). -/
def reg : Register := { name := "ECC_INJ", slot := 0x21, slotCount := 1, off := 0x20, offCount := 1, offStep := 0, wide := false, banked := false, fields := [CHECKER, MASK, COUNT] }
end ECC_INJ

namespace ECC_TRK_SEL

def UNIT : Field := { slot := 0x21, off := 0x28, lo := 0, width := 6, acc := .rw, reset := 0 }
def ENTRY : Field := { slot := 0x21, off := 0x28, lo := 8, width := 8, acc := .rw, reset := 0 }
/-- ECC_TRK_SEL (chapter 12). -/
def reg : Register := { name := "ECC_TRK_SEL", slot := 0x21, slotCount := 1, off := 0x28, offCount := 1, offStep := 0, wide := false, banked := false, fields := [UNIT, ENTRY] }
end ECC_TRK_SEL

namespace ECC_TRK_WIN

def DATA : Field := { slot := 0x21, off := 0x30, lo := 0, width := 32, acc := .ro, reset := 0, offStep := 4 }
/-- ECC_TRK_WIN_w (chapter 12). -/
def reg : Register := { name := "ECC_TRK_WIN_w", slot := 0x21, slotCount := 1, off := 0x30, offCount := 4, offStep := 4, wide := false, banked := false, fields := [DATA] }
end ECC_TRK_WIN

namespace FLS_CTRL

def LUN_EN : Field := { slot := 0xe0, off := 0x0, lo := 0, width := 4, acc := .rwk, reset := 15 }
/-- FLS_CTRL (chapter 13). -/
def reg : Register := { name := "FLS_CTRL", slot := 0xe0, slotCount := 1, off := 0x0, offCount := 1, offStep := 0, wide := false, banked := false, fields := [LUN_EN] }
end FLS_CTRL

namespace FLS_STATUS

def LUN_OK : Field := { slot := 0xe0, off := 0x4, lo := 0, width := 4, acc := .ro, reset := 0 }
def OPEN_INTENTS : Field := { slot := 0xe0, off := 0x4, lo := 8, width := 4, acc := .ro, reset := 0 }
def PINNED : Field := { slot := 0xe0, off := 0x4, lo := 16, width := 12, acc := .ro, reset := 0 }
/-- FLS_STATUS (chapter 13). -/
def reg : Register := { name := "FLS_STATUS", slot := 0xe0, slotCount := 1, off := 0x4, offCount := 1, offStep := 0, wide := false, banked := false, fields := [LUN_OK, OPEN_INTENTS, PINNED] }
end FLS_STATUS

namespace FLS_CMD

def OP : Field := { slot := 0xe0, off := 0x8, lo := 0, width := 8, acc := .rwk, reset := 0 }
def ERR : Field := { slot := 0xe0, off := 0x8, lo := 16, width := 4, acc := .ro, reset := 0 }
def BUSY : Field := { slot := 0xe0, off := 0x8, lo := 31, width := 1, acc := .ro, reset := 0 }
/-- FLS_CMD (chapter 13). -/
def reg : Register := { name := "FLS_CMD", slot := 0xe0, slotCount := 1, off := 0x8, offCount := 1, offStep := 0, wide := false, banked := false, fields := [OP, ERR, BUSY] }
end FLS_CMD

namespace FLS_LADDR

def SECTOR : Field := { slot := 0xe0, off := 0x10, lo := 12, width := 24, acc := .rwk, reset := 0 }
/-- FLS_LADDR (chapter 13). -/
def reg : Register := { name := "FLS_LADDR", slot := 0xe0, slotCount := 1, off := 0x10, offCount := 1, offStep := 0, wide := true, banked := false, fields := [SECTOR] }
end FLS_LADDR

namespace FLS_LEN

def SECTORS : Field := { slot := 0xe0, off := 0x18, lo := 0, width := 16, acc := .rwk, reset := 0 }
/-- FLS_LEN (chapter 13). -/
def reg : Register := { name := "FLS_LEN", slot := 0xe0, slotCount := 1, off := 0x18, offCount := 1, offStep := 0, wide := false, banked := false, fields := [SECTORS] }
end FLS_LEN

namespace FLS_PADDR

def LUN : Field := { slot := 0xe0, off := 0x1c, lo := 0, width := 2, acc := .rwk, reset := 0 }
def BLOCK : Field := { slot := 0xe0, off := 0x1c, lo := 4, width := 12, acc := .rwk, reset := 0 }
def PAGE : Field := { slot := 0xe0, off := 0x1c, lo := 16, width := 9, acc := .rwk, reset := 0 }
/-- FLS_PADDR (chapter 13). -/
def reg : Register := { name := "FLS_PADDR", slot := 0xe0, slotCount := 1, off := 0x1c, offCount := 1, offStep := 0, wide := false, banked := false, fields := [LUN, BLOCK, PAGE] }
end FLS_PADDR

namespace FLS_BUF

def ADDR : Field := { slot := 0xe0, off := 0x20, lo := 12, width := 36, acc := .rwk, reset := 0 }
/-- FLS_BUF (chapter 13). -/
def reg : Register := { name := "FLS_BUF", slot := 0xe0, slotCount := 1, off := 0x20, offCount := 1, offStep := 0, wide := true, banked := false, fields := [ADDR] }
end FLS_BUF

namespace FLS_MARGIN

def OFFSET : Field := { slot := 0xe0, off := 0x28, lo := 0, width := 8, acc := .rwk, reset := 0 }
def REF : Field := { slot := 0xe0, off := 0x28, lo := 8, width := 2, acc := .rwk, reset := 0 }
def MAXCORR : Field := { slot := 0xe0, off := 0x28, lo := 16, width := 16, acc := .ro, reset := 0 }
/-- FLS_MARGIN (chapter 13). -/
def reg : Register := { name := "FLS_MARGIN", slot := 0xe0, slotCount := 1, off := 0x28, offCount := 1, offStep := 0, wide := false, banked := false, fields := [OFFSET, REF, MAXCORR] }
end FLS_MARGIN

namespace FLS_EVENTS

def SUSPENDS : Field := { slot := 0xe0, off := 0x2c, lo := 0, width := 16, acc := .rc, reset := 0 }
def UE : Field := { slot := 0xe0, off := 0x2c, lo := 16, width := 8, acc := .rc, reset := 0 }
def RETIRED : Field := { slot := 0xe0, off := 0x2c, lo := 24, width := 8, acc := .rc, reset := 0 }
/-- FLS_EVENTS (chapter 13). -/
def reg : Register := { name := "FLS_EVENTS", slot := 0xe0, slotCount := 1, off := 0x2c, offCount := 1, offStep := 0, wide := false, banked := false, fields := [SUSPENDS, UE, RETIRED] }
end FLS_EVENTS

namespace FLS_SPARES

def LEFT : Field := { slot := 0xe0, off := 0x40, lo := 0, width := 12, acc := .ro, reset := 0, offStep := 4 }
def RETIRED : Field := { slot := 0xe0, off := 0x40, lo := 16, width := 12, acc := .ro, reset := 0, offStep := 4 }
/-- FLS_SPARES_l (chapter 13). -/
def reg : Register := { name := "FLS_SPARES_l", slot := 0xe0, slotCount := 1, off := 0x40, offCount := 4, offStep := 4, wide := false, banked := false, fields := [LEFT, RETIRED] }
end FLS_SPARES

namespace BOOT_STATUS

def TWIN : Field := { slot := 0xe1, off := 0x0, lo := 0, width := 1, acc := .ro, reset := 0 }
def TRIAL : Field := { slot := 0xe1, off := 0x0, lo := 1, width := 1, acc := .ro, reset := 0 }
def ATTEMPT : Field := { slot := 0xe1, off := 0x0, lo := 2, width := 2, acc := .ro, reset := 0 }
def RECOVERY : Field := { slot := 0xe1, off := 0x0, lo := 4, width := 1, acc := .ro, reset := 0 }
def FAIL0 : Field := { slot := 0xe1, off := 0x0, lo := 8, width := 8, acc := .ro, reset := 0 }
def FAIL1 : Field := { slot := 0xe1, off := 0x0, lo := 16, width := 8, acc := .ro, reset := 0 }
/-- BOOT_STATUS (chapter 13). -/
def reg : Register := { name := "BOOT_STATUS", slot := 0xe1, slotCount := 1, off := 0x0, offCount := 1, offStep := 0, wide := false, banked := false, fields := [TWIN, TRIAL, ATTEMPT, RECOVERY, FAIL0, FAIL1] }
end BOOT_STATUS

namespace BOOT_GEN

def GEN : Field := { slot := 0xe1, off := 0x4, lo := 0, width := 32, acc := .ro, reset := 0 }
/-- BOOT_GEN (chapter 13). -/
def reg : Register := { name := "BOOT_GEN", slot := 0xe1, slotCount := 1, off := 0x4, offCount := 1, offStep := 0, wide := false, banked := false, fields := [GEN] }
end BOOT_GEN

namespace BOOT_INFO

def MIN_SVN : Field := { slot := 0xe1, off := 0x8, lo := 0, width := 7, acc := .ro, reset := 0 }
/-- BOOT_INFO (chapter 13). -/
def reg : Register := { name := "BOOT_INFO", slot := 0xe1, slotCount := 1, off := 0x8, offCount := 1, offStep := 0, wide := false, banked := false, fields := [MIN_SVN] }
end BOOT_INFO

namespace BOOT_REQ

def TWIN : Field := { slot := 0xe1, off := 0xc, lo := 0, width := 1, acc := .rwk, reset := 0 }
/-- BOOT_REQ (chapter 13). -/
def reg : Register := { name := "BOOT_REQ", slot := 0xe1, slotCount := 1, off := 0xc, offCount := 1, offStep := 0, wide := false, banked := false, fields := [TWIN] }
end BOOT_REQ

namespace BOOT_TIME

def US : Field := { slot := 0xe1, off := 0x10, lo := 0, width := 32, acc := .ro, reset := 0 }
/-- BOOT_TIME (chapter 13). -/
def reg : Register := { name := "BOOT_TIME", slot := 0xe1, slotCount := 1, off := 0x10, offCount := 1, offStep := 0, wide := false, banked := false, fields := [US] }
end BOOT_TIME

namespace FCU_CFG

def NEST : Field := { slot := 0x30, off := 0x0, lo := 0, width := 1, acc := .rwk, reset := 0 }
/-- FCU_CFG (chapter 14). -/
def reg : Register := { name := "FCU_CFG", slot := 0x30, slotCount := 1, off := 0x0, offCount := 1, offStep := 0, wide := false, banked := false, fields := [NEST] }
end FCU_CFG

namespace FCU_STATUS

def SAFE : Field := { slot := 0x30, off := 0x4, lo := 0, width := 1, acc := .ro, reset := 0 }
def ACTIVE : Field := { slot := 0x30, off := 0x4, lo := 8, width := 8, acc := .ro, reset := 0 }
def WINDOWS : Field := { slot := 0x30, off := 0x4, lo := 16, width := 8, acc := .ro, reset := 0 }
/-- FCU_STATUS (chapter 14). -/
def reg : Register := { name := "FCU_STATUS", slot := 0x30, slotCount := 1, off := 0x4, offCount := 1, offStep := 0, wide := false, banked := false, fields := [SAFE, ACTIVE, WINDOWS] }
end FCU_STATUS

namespace FCU_SAFE_SRC

def SRC : Field := { slot := 0x30, off := 0x8, lo := 0, width := 10, acc := .ro, reset := 0 }
def VALID : Field := { slot := 0x30, off := 0x8, lo := 31, width := 1, acc := .ro, reset := 0 }
/-- FCU_SAFE_SRC (chapter 14). -/
def reg : Register := { name := "FCU_SAFE_SRC", slot := 0x30, slotCount := 1, off := 0x8, offCount := 1, offStep := 0, wide := false, banked := false, fields := [SRC, VALID] }
end FCU_SAFE_SRC

namespace FCU_PIN

def PULSE : Field := { slot := 0x30, off := 0xc, lo := 0, width := 10, acc := .rwk, reset := 1, subs := [⟨0, 0, 1⟩, ⟨1001, 1023, 1000⟩] }
def CLASS : Field := { slot := 0x30, off := 0xc, lo := 12, width := 2, acc := .rwk, reset := 2 }
def HOLD : Field := { slot := 0x30, off := 0xc, lo := 16, width := 1, acc := .rw, reset := 0 }
def LEVEL : Field := { slot := 0x30, off := 0xc, lo := 17, width := 1, acc := .ro, reset := 1 }
/-- FCU_PIN (chapter 14). -/
def reg : Register := { name := "FCU_PIN", slot := 0x30, slotCount := 1, off := 0xc, offCount := 1, offStep := 0, wide := false, banked := false, fields := [PULSE, CLASS, HOLD, LEVEL] }
end FCU_PIN

namespace FCU_SEL

def SRC : Field := { slot := 0x30, off := 0x10, lo := 0, width := 10, acc := .rw, reset := 0 }
/-- FCU_SEL (chapter 14). -/
def reg : Register := { name := "FCU_SEL", slot := 0x30, slotCount := 1, off := 0x10, offCount := 1, offStep := 0, wide := false, banked := false, fields := [SRC] }
end FCU_SEL

namespace FCU_SRC_CFG

def CLASS : Field := { slot := 0x30, off := 0x14, lo := 0, width := 2, acc := .rwk, reset := 0 }
def REACTION : Field := { slot := 0x30, off := 0x14, lo := 2, width := 3, acc := .rwk, reset := 0 }
def LINE : Field := { slot := 0x30, off := 0x14, lo := 8, width := 6, acc := .rwk, reset := 0 }
def FIXED : Field := { slot := 0x30, off := 0x14, lo := 16, width := 1, acc := .ro, reset := 0 }
def REFUSED : Field := { slot := 0x30, off := 0x14, lo := 20, width := 1, acc := .ro, reset := 0 }
/-- FCU_SRC_CFG (chapter 14). -/
def reg : Register := { name := "FCU_SRC_CFG", slot := 0x30, slotCount := 1, off := 0x14, offCount := 1, offStep := 0, wide := false, banked := false, fields := [CLASS, REACTION, LINE, FIXED, REFUSED] }
end FCU_SRC_CFG

namespace FCU_CLR

def SRC : Field := { slot := 0x30, off := 0x18, lo := 0, width := 10, acc := .wo, reset := 0 }
def GO : Field := { slot := 0x30, off := 0x18, lo := 31, width := 1, acc := .wo, reset := 0 }
/-- FCU_CLR (chapter 14). -/
def reg : Register := { name := "FCU_CLR", slot := 0x30, slotCount := 1, off := 0x18, offCount := 1, offStep := 0, wide := false, banked := false, fields := [SRC, GO] }
end FCU_CLR

namespace FCU_INJ

def SRC : Field := { slot := 0x30, off := 0x1c, lo := 0, width := 10, acc := .rwk, reset := 0 }
def MODE : Field := { slot := 0x30, off := 0x1c, lo := 10, width := 2, acc := .rwk, reset := 0 }
def REACT : Field := { slot := 0x30, off := 0x1c, lo := 12, width := 1, acc := .rwk, reset := 0 }
def MASK : Field := { slot := 0x30, off := 0x1c, lo := 16, width := 7, acc := .rwk, reset := 0 }
def ERR : Field := { slot := 0x30, off := 0x1c, lo := 24, width := 2, acc := .ro, reset := 0 }
def GO : Field := { slot := 0x30, off := 0x1c, lo := 31, width := 1, acc := .wo, reset := 0 }
/-- FCU_INJ (chapter 14). -/
def reg : Register := { name := "FCU_INJ", slot := 0x30, slotCount := 1, off := 0x1c, offCount := 1, offStep := 0, wide := false, banked := false, fields := [SRC, MODE, REACT, MASK, ERR, GO] }
end FCU_INJ

namespace FCU_INJ_DETAIL

def DETAIL : Field := { slot := 0x30, off := 0x20, lo := 0, width := 32, acc := .rwk, reset := 0 }
/-- FCU_INJ_DETAIL (chapter 14). -/
def reg : Register := { name := "FCU_INJ_DETAIL", slot := 0x30, slotCount := 1, off := 0x20, offCount := 1, offStep := 0, wide := false, banked := false, fields := [DETAIL] }
end FCU_INJ_DETAIL

namespace FCU_REC

def DATA : Field := { slot := 0x30, off := 0x40, lo := 0, width := 32, acc := .ro, reset := 0, offStep := 4 }
/-- FCU_REC_w (chapter 14). -/
def reg : Register := { name := "FCU_REC_w", slot := 0x30, slotCount := 1, off := 0x40, offCount := 8, offStep := 4, wide := false, banked := false, fields := [DATA] }
end FCU_REC

namespace FCU_LIVE

def LIVE : Field := { slot := 0x30, off := 0x100, lo := 0, width := 32, acc := .ro, reset := 0, offStep := 4 }
/-- FCU_LIVE_w (chapter 14). -/
def reg : Register := { name := "FCU_LIVE_w", slot := 0x30, slotCount := 1, off := 0x100, offCount := 32, offStep := 4, wide := false, banked := false, fields := [LIVE] }
end FCU_LIVE

namespace FCU_STICKY

def STICKY : Field := { slot := 0x30, off := 0x180, lo := 0, width := 32, acc := .w1c, reset := 0, offStep := 4 }
/-- FCU_STICKY_w (chapter 14). -/
def reg : Register := { name := "FCU_STICKY_w", slot := 0x30, slotCount := 1, off := 0x180, offCount := 32, offStep := 4, wide := false, banked := false, fields := [STICKY] }
end FCU_STICKY

namespace KNL_STATUS

def SUPPLY : Field := { slot := 0xf0, off := 0x0, lo := 0, width := 2, acc := .ro, reset := 0 }
def VAULT_A : Field := { slot := 0xf0, off := 0x0, lo := 2, width := 1, acc := .ro, reset := 0 }
def VAULT_B : Field := { slot := 0xf0, off := 0x0, lo := 3, width := 1, acc := .ro, reset := 0 }
def ACTIVE : Field := { slot := 0xf0, off := 0x0, lo := 4, width := 1, acc := .ro, reset := 0 }
def LOCKED : Field := { slot := 0xf0, off := 0x0, lo := 5, width := 1, acc := .ro, reset := 0 }
def LATCHED : Field := { slot := 0xf0, off := 0x0, lo := 6, width := 1, acc := .ro, reset := 0 }
def POR : Field := { slot := 0xf0, off := 0x0, lo := 7, width := 1, acc := .ro, reset := 1 }
def RTC_VALID : Field := { slot := 0xf0, off := 0x0, lo := 8, width := 1, acc := .ro, reset := 0 }
def XTAL_OK : Field := { slot := 0xf0, off := 0x0, lo := 9, width := 1, acc := .ro, reset := 1 }
def CELL_STATE : Field := { slot := 0xf0, off := 0x0, lo := 10, width := 2, acc := .ro, reset := 0 }
def HOLDUP_OK : Field := { slot := 0xf0, off := 0x0, lo := 12, width := 1, acc := .ro, reset := 0 }
def EVQ_COUNT : Field := { slot := 0xf0, off := 0x0, lo := 13, width := 5, acc := .ro, reset := 0 }
def EVQ_LOST : Field := { slot := 0xf0, off := 0x0, lo := 18, width := 8, acc := .ro, reset := 0 }
def BUSY : Field := { slot := 0xf0, off := 0x0, lo := 31, width := 1, acc := .ro, reset := 0 }
/-- KNL_STATUS (chapter 15). -/
def reg : Register := { name := "KNL_STATUS", slot := 0xf0, slotCount := 1, off := 0x0, offCount := 1, offStep := 0, wide := false, banked := false, fields := [SUPPLY, VAULT_A, VAULT_B, ACTIVE, LOCKED, LATCHED, POR, RTC_VALID, XTAL_OK, CELL_STATE, HOLDUP_OK, EVQ_COUNT, EVQ_LOST, BUSY] }
end KNL_STATUS

namespace KNL_CTRL

def UNLOCK : Field := { slot := 0xf0, off := 0x4, lo := 0, width := 1, acc := .rwk, reset := 0 }
def CLR_LATCH : Field := { slot := 0xf0, off := 0x4, lo := 1, width := 1, acc := .rwk, reset := 0 }
def CLR_POR : Field := { slot := 0xf0, off := 0x4, lo := 2, width := 1, acc := .rwk, reset := 0 }
def EVQ_POP : Field := { slot := 0xf0, off := 0x4, lo := 3, width := 1, acc := .rwk, reset := 0 }
def ERR : Field := { slot := 0xf0, off := 0x4, lo := 8, width := 2, acc := .ro, reset := 0 }
/-- KNL_CTRL (chapter 15). -/
def reg : Register := { name := "KNL_CTRL", slot := 0xf0, slotCount := 1, off := 0x4, offCount := 1, offStep := 0, wide := false, banked := false, fields := [UNLOCK, CLR_LATCH, CLR_POR, EVQ_POP, ERR] }
end KNL_CTRL

namespace KNL_TEMP

def LOW : Field := { slot := 0xf0, off := 0x8, lo := 0, width := 9, acc := .rwk, reset := 447 }
def HIGH : Field := { slot := 0xf0, off := 0x8, lo := 16, width := 9, acc := .rwk, reset := 135 }
def REFUSED : Field := { slot := 0xf0, off := 0x8, lo := 31, width := 1, acc := .ro, reset := 0 }
/-- KNL_TEMP (chapter 15). -/
def reg : Register := { name := "KNL_TEMP", slot := 0xf0, slotCount := 1, off := 0x8, offCount := 1, offStep := 0, wide := false, banked := false, fields := [LOW, HIGH, REFUSED] }
end KNL_TEMP

namespace KNL_LOG

def INTERVAL : Field := { slot := 0xf0, off := 0xc, lo := 0, width := 11, acc := .rwk, reset := 60, subs := [⟨0, 0, 1⟩, ⟨1441, 2047, 1440⟩] }
/-- KNL_LOG (chapter 15). -/
def reg : Register := { name := "KNL_LOG", slot := 0xf0, slotCount := 1, off := 0xc, offCount := 1, offStep := 0, wide := false, banked := false, fields := [INTERVAL] }
end KNL_LOG

namespace KNL_VBAT

def VBAT : Field := { slot := 0xf0, off := 0x10, lo := 0, width := 12, acc := .ro, reset := 0 }
def VKEEP : Field := { slot := 0xf0, off := 0x10, lo := 16, width := 12, acc := .ro, reset := 0 }
/-- KNL_VBAT (chapter 15). -/
def reg : Register := { name := "KNL_VBAT", slot := 0xf0, slotCount := 1, off := 0x10, offCount := 1, offStep := 0, wide := false, banked := false, fields := [VBAT, VKEEP] }
end KNL_VBAT

namespace KNL_TRIM

def PPM10 : Field := { slot := 0xf0, off := 0x14, lo := 0, width := 16, acc := .rwk, reset := 0, subs := [⟨2001, 32767, 2000⟩, ⟨32768, 63535, 63536⟩] }
/-- KNL_TRIM (chapter 15). -/
def reg : Register := { name := "KNL_TRIM", slot := 0xf0, slotCount := 1, off := 0x14, offCount := 1, offStep := 0, wide := false, banked := false, fields := [PPM10] }
end KNL_TRIM

namespace KNL_RTC

def TIME : Field := { slot := 0xf0, off := 0x18, lo := 0, width := 64, acc := .ro, reset := 0 }
/-- KNL_RTC (chapter 15). -/
def reg : Register := { name := "KNL_RTC", slot := 0xf0, slotCount := 1, off := 0x18, offCount := 1, offStep := 0, wide := true, banked := false, fields := [TIME] }
end KNL_RTC

namespace KNL_RTC_SET

def TIME : Field := { slot := 0xf0, off := 0x20, lo := 0, width := 64, acc := .rwk, reset := 0 }
/-- KNL_RTC_SET (chapter 15). -/
def reg : Register := { name := "KNL_RTC_SET", slot := 0xf0, slotCount := 1, off := 0x20, offCount := 1, offStep := 0, wide := true, banked := false, fields := [TIME] }
end KNL_RTC_SET

namespace KNL_SEQ

def KSEQ : Field := { slot := 0xf0, off := 0x28, lo := 0, width := 32, acc := .ro, reset := 0 }
/-- KNL_SEQ (chapter 15). -/
def reg : Register := { name := "KNL_SEQ", slot := 0xf0, slotCount := 1, off := 0x28, offCount := 1, offStep := 0, wide := false, banked := false, fields := [KSEQ] }
end KNL_SEQ

namespace KNL_EVQ

def DATA : Field := { slot := 0xf0, off := 0x40, lo := 0, width := 32, acc := .ro, reset := 0, offStep := 4 }
/-- KNL_EVQ_w (chapter 15). -/
def reg : Register := { name := "KNL_EVQ_w", slot := 0xf0, slotCount := 1, off := 0x40, offCount := 4, offStep := 4, wide := false, banked := false, fields := [DATA] }
end KNL_EVQ

namespace KNL_MON

def RESP : Field := { slot := 0xf0, off := 0x100, lo := 0, width := 2, acc := .rwk, reset := 0, offStep := 4 }
def EN : Field := { slot := 0xf0, off := 0x100, lo := 2, width := 1, acc := .rwk, reset := 1, offStep := 4 }
def ALARM : Field := { slot := 0xf0, off := 0x100, lo := 3, width := 1, acc := .ro, reset := 0, offStep := 4 }
def ARMED : Field := { slot := 0xf0, off := 0x100, lo := 4, width := 1, acc := .ro, reset := 1, offStep := 4 }
def FIXED : Field := { slot := 0xf0, off := 0x100, lo := 8, width := 1, acc := .ro, reset := 0, offStep := 4 }
def REFUSED : Field := { slot := 0xf0, off := 0x100, lo := 9, width := 1, acc := .ro, reset := 0, offStep := 4 }
/-- KNL_MON_m (chapter 15). -/
def reg : Register := { name := "KNL_MON_m", slot := 0xf0, slotCount := 1, off := 0x100, offCount := 15, offStep := 4, wide := false, banked := false, fields := [RESP, EN, ALARM, ARMED, FIXED, REFUSED] }
end KNL_MON

namespace NFC_CTRL

def EN : Field := { slot := 0x100, off := 0x0, lo := 0, width := 1, acc := .rwk, reset := 0 }
def DETECT : Field := { slot := 0x100, off := 0x0, lo := 1, width := 1, acc := .rwk, reset := 1 }
def TXPWR : Field := { slot := 0x100, off := 0x0, lo := 2, width := 2, acc := .rwk, reset := 3 }
def RATE_MAX : Field := { slot := 0x100, off := 0x0, lo := 4, width := 2, acc := .rwk, reset := 3 }
def TYPE_B : Field := { slot := 0x100, off := 0x0, lo := 6, width := 1, acc := .rwk, reset := 1 }
/-- NFC_CTRL (chapter 16). -/
def reg : Register := { name := "NFC_CTRL", slot := 0x100, slotCount := 1, off := 0x0, offCount := 1, offStep := 0, wide := false, banked := false, fields := [EN, DETECT, TXPWR, RATE_MAX, TYPE_B] }
end NFC_CTRL

namespace NFC_DETECT

def PERIOD_MS : Field := { slot := 0x100, off := 0x4, lo := 0, width := 11, acc := .rwk, reset := 250, subs := [⟨0, 49, 50⟩, ⟨2001, 2047, 2000⟩] }
def THRESH : Field := { slot := 0x100, off := 0x4, lo := 16, width := 8, acc := .rwk, reset := 20, subs := [⟨0, 0, 1⟩] }
/-- NFC_DETECT (chapter 16). -/
def reg : Register := { name := "NFC_DETECT", slot := 0x100, slotCount := 1, off := 0x4, offCount := 1, offStep := 0, wide := false, banked := false, fields := [PERIOD_MS, THRESH] }
end NFC_DETECT

namespace NFC_STATUS

def STATE : Field := { slot := 0x100, off := 0x8, lo := 0, width := 3, acc := .ro, reset := 0 }
def ISO_DEP : Field := { slot := 0x100, off := 0x8, lo := 3, width := 1, acc := .ro, reset := 0 }
def TYPE : Field := { slot := 0x100, off := 0x8, lo := 4, width := 1, acc := .ro, reset := 0 }
def RATE : Field := { slot := 0x100, off := 0x8, lo := 5, width := 2, acc := .ro, reset := 0 }
def UID_LEN : Field := { slot := 0x100, off := 0x8, lo := 8, width := 4, acc := .ro, reset := 0 }
def FALSE_WAKE : Field := { slot := 0x100, off := 0x8, lo := 16, width := 16, acc := .rc, reset := 0 }
/-- NFC_STATUS (chapter 16). -/
def reg : Register := { name := "NFC_STATUS", slot := 0x100, slotCount := 1, off := 0x8, offCount := 1, offStep := 0, wide := false, banked := false, fields := [STATE, ISO_DEP, TYPE, RATE, UID_LEN, FALSE_WAKE] }
end NFC_STATUS

namespace NFC_CMD

def OP : Field := { slot := 0x100, off := 0xc, lo := 0, width := 3, acc := .rwk, reset := 0 }
def ERR : Field := { slot := 0x100, off := 0xc, lo := 8, width := 4, acc := .ro, reset := 0 }
def BUSY : Field := { slot := 0x100, off := 0xc, lo := 31, width := 1, acc := .ro, reset := 0 }
/-- NFC_CMD (chapter 16). -/
def reg : Register := { name := "NFC_CMD", slot := 0x100, slotCount := 1, off := 0xc, offCount := 1, offStep := 0, wide := false, banked := false, fields := [OP, ERR, BUSY] }
end NFC_CMD

namespace NFC_TXADDR

def ADDR : Field := { slot := 0x100, off := 0x10, lo := 0, width := 48, acc := .rwk, reset := 0 }
/-- NFC_TXADDR (chapter 16). -/
def reg : Register := { name := "NFC_TXADDR", slot := 0x100, slotCount := 1, off := 0x10, offCount := 1, offStep := 0, wide := true, banked := false, fields := [ADDR] }
end NFC_TXADDR

namespace NFC_RXADDR

def ADDR : Field := { slot := 0x100, off := 0x18, lo := 0, width := 48, acc := .rwk, reset := 0 }
/-- NFC_RXADDR (chapter 16). -/
def reg : Register := { name := "NFC_RXADDR", slot := 0x100, slotCount := 1, off := 0x18, offCount := 1, offStep := 0, wide := true, banked := false, fields := [ADDR] }
end NFC_RXADDR

namespace NFC_LEN

def TXLEN : Field := { slot := 0x100, off := 0x20, lo := 0, width := 16, acc := .rwk, reset := 0 }
def RXCAP : Field := { slot := 0x100, off := 0x20, lo := 16, width := 16, acc := .rwk, reset := 0 }
/-- NFC_LEN (chapter 16). -/
def reg : Register := { name := "NFC_LEN", slot := 0x100, slotCount := 1, off := 0x20, offCount := 1, offStep := 0, wide := false, banked := false, fields := [TXLEN, RXCAP] }
end NFC_LEN

namespace NFC_RXLEN

def LEN : Field := { slot := 0x100, off := 0x24, lo := 0, width := 16, acc := .ro, reset := 0 }
def SW : Field := { slot := 0x100, off := 0x24, lo := 16, width := 16, acc := .ro, reset := 0 }
/-- NFC_RXLEN (chapter 16). -/
def reg : Register := { name := "NFC_RXLEN", slot := 0x100, slotCount := 1, off := 0x24, offCount := 1, offStep := 0, wide := false, banked := false, fields := [LEN, SW] }
end NFC_RXLEN

namespace NFC_UID

def UID : Field := { slot := 0x100, off := 0x28, lo := 0, width := 64, acc := .ro, reset := 0 }
/-- NFC_UID (chapter 16). -/
def reg : Register := { name := "NFC_UID", slot := 0x100, slotCount := 1, off := 0x28, offCount := 1, offStep := 0, wide := true, banked := false, fields := [UID] }
end NFC_UID

namespace NFC_CKIN

def WINDOW_H : Field := { slot := 0x100, off := 0x30, lo := 0, width := 8, acc := .rwk, reset := 24, subs := [⟨0, 0, 1⟩] }
def PENDING : Field := { slot := 0x100, off := 0x30, lo := 8, width := 9, acc := .ro, reset := 0 }
/-- NFC_CKIN (chapter 16). -/
def reg : Register := { name := "NFC_CKIN", slot := 0x100, slotCount := 1, off := 0x30, offCount := 1, offStep := 0, wide := false, banked := false, fields := [WINDOW_H, PENDING] }
end NFC_CKIN

namespace COL_CMD

def OP : Field := { slot := 0x101, off := 0x0, lo := 0, width := 3, acc := .rwk, reset := 0 }
def PW : Field := { slot := 0x101, off := 0x0, lo := 4, width := 2, acc := .rwk, reset := 0 }
def ERR : Field := { slot := 0x101, off := 0x0, lo := 16, width := 4, acc := .ro, reset := 0 }
def BUSY : Field := { slot := 0x101, off := 0x0, lo := 31, width := 1, acc := .ro, reset := 0 }
/-- COL_CMD (chapter 16). -/
def reg : Register := { name := "COL_CMD", slot := 0x101, slotCount := 1, off := 0x0, offCount := 1, offStep := 0, wide := false, banked := false, fields := [OP, PW, ERR, BUSY] }
end COL_CMD

namespace COL_ADDR

def ADDR : Field := { slot := 0x101, off := 0x4, lo := 0, width := 16, acc := .rwk, reset := 0 }
def LEN : Field := { slot := 0x101, off := 0x4, lo := 16, width := 9, acc := .rwk, reset := 0 }
/-- COL_ADDR (chapter 16). -/
def reg : Register := { name := "COL_ADDR", slot := 0x101, slotCount := 1, off := 0x4, offCount := 1, offStep := 0, wide := false, banked := false, fields := [ADDR, LEN] }
end COL_ADDR

namespace COL_STATUS

def SESSION : Field := { slot := 0x101, off := 0x8, lo := 0, width := 1, acc := .ro, reset := 0 }
def KWRITE : Field := { slot := 0x101, off := 0x8, lo := 1, width := 1, acc := .ro, reset := 0 }
def SET : Field := { slot := 0x101, off := 0x8, lo := 2, width := 3, acc := .ro, reset := 0 }
def TRIES1 : Field := { slot := 0x101, off := 0x8, lo := 8, width := 4, acc := .ro, reset := 0 }
def TRIES2 : Field := { slot := 0x101, off := 0x8, lo := 12, width := 4, acc := .ro, reset := 0 }
def TRIES3 : Field := { slot := 0x101, off := 0x8, lo := 16, width := 4, acc := .ro, reset := 0 }
def PUBLIC_LOG : Field := { slot := 0x101, off := 0x8, lo := 20, width := 1, acc := .ro, reset := 0 }
def NO_FIELD_ADMIN : Field := { slot := 0x101, off := 0x8, lo := 21, width := 1, acc := .ro, reset := 0 }
/-- COL_STATUS (chapter 16). -/
def reg : Register := { name := "COL_STATUS", slot := 0x101, slotCount := 1, off := 0x8, offCount := 1, offStep := 0, wide := false, banked := false, fields := [SESSION, KWRITE, SET, TRIES1, TRIES2, TRIES3, PUBLIC_LOG, NO_FIELD_ADMIN] }
end COL_STATUS

namespace COL_WIN

def DATA : Field := { slot := 0x101, off := 0x100, lo := 0, width := 32, acc := .rwk, reset := 0, offStep := 4 }
/-- COL_WIN_w (chapter 16). -/
def reg : Register := { name := "COL_WIN_w", slot := 0x101, slotCount := 1, off := 0x100, offCount := 64, offStep := 4, wide := false, banked := false, fields := [DATA] }
end COL_WIN

namespace PNL_BTN

def PRES_LIVE : Field := { slot := 0x110, off := 0x0, lo := 0, width := 1, acc := .ro, reset := 0 }
def SERV_LIVE : Field := { slot := 0x110, off := 0x0, lo := 1, width := 1, acc := .ro, reset := 0 }
def PRES_STUCK : Field := { slot := 0x110, off := 0x0, lo := 2, width := 1, acc := .w1c, reset := 0 }
def SERV_STUCK : Field := { slot := 0x110, off := 0x0, lo := 3, width := 1, acc := .w1c, reset := 0 }
def PRES_CNT : Field := { slot := 0x110, off := 0x0, lo := 16, width := 8, acc := .ro, reset := 0 }
def SERV_CNT : Field := { slot := 0x110, off := 0x0, lo := 24, width := 8, acc := .ro, reset := 0 }
/-- PNL_BTN (chapter 17). -/
def reg : Register := { name := "PNL_BTN", slot := 0x110, slotCount := 1, off := 0x0, offCount := 1, offStep := 0, wide := false, banked := false, fields := [PRES_LIVE, SERV_LIVE, PRES_STUCK, SERV_STUCK, PRES_CNT, SERV_CNT] }
end PNL_BTN

namespace PNL_CFG

def DEB_MS : Field := { slot := 0x110, off := 0x4, lo := 0, width := 7, acc := .rwk, reset := 20, subs := [⟨0, 4, 5⟩, ⟨101, 127, 100⟩] }
def LONG_S : Field := { slot := 0x110, off := 0x4, lo := 8, width := 4, acc := .rw, reset := 5, subs := [⟨0, 1, 2⟩] }
def STUCK_S : Field := { slot := 0x110, off := 0x4, lo := 16, width := 6, acc := .rwk, reset := 10, subs := [⟨0, 4, 5⟩, ⟨61, 63, 60⟩] }
/-- PNL_CFG (chapter 17). -/
def reg : Register := { name := "PNL_CFG", slot := 0x110, slotCount := 1, off := 0x4, offCount := 1, offStep := 0, wide := false, banked := false, fields := [DEB_MS, LONG_S, STUCK_S] }
end PNL_CFG

namespace PNL_PRES_TIME

def TIME : Field := { slot := 0x110, off := 0x8, lo := 0, width := 64, acc := .ro, reset := 0 }
/-- PNL_PRES_TIME (chapter 17). -/
def reg : Register := { name := "PNL_PRES_TIME", slot := 0x110, slotCount := 1, off := 0x8, offCount := 1, offStep := 0, wide := true, banked := false, fields := [TIME] }
end PNL_PRES_TIME

namespace PNL_LED

def MODE : Field := { slot := 0x110, off := 0x10, lo := 0, width := 3, acc := .rw, reset := 0, offStep := 4, subs := [⟨5, 7, 0⟩] }
def BRIGHT : Field := { slot := 0x110, off := 0x10, lo := 8, width := 4, acc := .rw, reset := 15, offStep := 4, subs := [⟨0, 0, 1⟩] }
def HW : Field := { slot := 0x110, off := 0x10, lo := 31, width := 1, acc := .ro, reset := 0, offStep := 4 }
/-- PNL_LED_n (chapter 17). -/
def reg : Register := { name := "PNL_LED_n", slot := 0x110, slotCount := 1, off := 0x10, offCount := 4, offStep := 4, wide := false, banked := false, fields := [ MODE, BRIGHT, HW] }
end PNL_LED

namespace SC_CTRL

def EN : Field := { slot := 0x111, off := 0x0, lo := 0, width := 1, acc := .rw, reset := 1 }
def SPEED_MAX : Field := { slot := 0x111, off := 0x0, lo := 1, width := 2, acc := .rw, reset := 3 }
def WIDTH4 : Field := { slot := 0x111, off := 0x0, lo := 3, width := 1, acc := .rw, reset := 1 }
def V18 : Field := { slot := 0x111, off := 0x0, lo := 4, width := 1, acc := .rw, reset := 1 }
def AUTO_SLEEP : Field := { slot := 0x111, off := 0x0, lo := 5, width := 1, acc := .rw, reset := 1 }
def IDLE_MS : Field := { slot := 0x111, off := 0x0, lo := 8, width := 8, acc := .rw, reset := 100, subs := [⟨0, 0, 1⟩] }
/-- SC_CTRL (chapter 17). -/
def reg : Register := { name := "SC_CTRL", slot := 0x111, slotCount := 1, off := 0x0, offCount := 1, offStep := 0, wide := false, banked := false, fields := [EN, SPEED_MAX, WIDTH4, V18, AUTO_SLEEP, IDLE_MS] }
end SC_CTRL

namespace SC_STATUS

def PRESENT : Field := { slot := 0x111, off := 0x4, lo := 0, width := 1, acc := .ro, reset := 0 }
def POWER : Field := { slot := 0x111, off := 0x4, lo := 1, width := 1, acc := .ro, reset := 0 }
def STATE : Field := { slot := 0x111, off := 0x4, lo := 2, width := 3, acc := .ro, reset := 0 }
def MODE : Field := { slot := 0x111, off := 0x4, lo := 5, width := 2, acc := .ro, reset := 0 }
def WIDTH : Field := { slot := 0x111, off := 0x4, lo := 7, width := 1, acc := .ro, reset := 0 }
def SIG18 : Field := { slot := 0x111, off := 0x4, lo := 8, width := 1, acc := .ro, reset := 0 }
def TORN_SEEN : Field := { slot := 0x111, off := 0x4, lo := 9, width := 1, acc := .ro, reset := 0 }
def BUNDLES : Field := { slot := 0x111, off := 0x4, lo := 16, width := 16, acc := .ro, reset := 0 }
/-- SC_STATUS (chapter 17). -/
def reg : Register := { name := "SC_STATUS", slot := 0x111, slotCount := 1, off := 0x4, offCount := 1, offStep := 0, wide := false, banked := false, fields := [PRESENT, POWER, STATE, MODE, WIDTH, SIG18, TORN_SEEN, BUNDLES] }
end SC_STATUS

namespace SC_CMD

def OP : Field := { slot := 0x111, off := 0x8, lo := 0, width := 4, acc := .rwk, reset := 0 }
def ERR : Field := { slot := 0x111, off := 0x8, lo := 8, width := 4, acc := .ro, reset := 0 }
def BUSY : Field := { slot := 0x111, off := 0x8, lo := 31, width := 1, acc := .ro, reset := 0 }
/-- SC_CMD (chapter 17). -/
def reg : Register := { name := "SC_CMD", slot := 0x111, slotCount := 1, off := 0x8, offCount := 1, offStep := 0, wide := false, banked := false, fields := [OP, ERR, BUSY] }
end SC_CMD

namespace SC_LBA

def BLOCK : Field := { slot := 0x111, off := 0xc, lo := 0, width := 32, acc := .rwk, reset := 0 }
/-- SC_LBA (chapter 17). -/
def reg : Register := { name := "SC_LBA", slot := 0x111, slotCount := 1, off := 0xc, offCount := 1, offStep := 0, wide := false, banked := false, fields := [BLOCK] }
end SC_LBA

namespace SC_COUNT

def BLOCKS : Field := { slot := 0x111, off := 0x10, lo := 0, width := 16, acc := .rwk, reset := 0 }
/-- SC_COUNT (chapter 17). -/
def reg : Register := { name := "SC_COUNT", slot := 0x111, slotCount := 1, off := 0x10, offCount := 1, offStep := 0, wide := false, banked := false, fields := [BLOCKS] }
end SC_COUNT

namespace SC_BUF

def ADDR : Field := { slot := 0x111, off := 0x18, lo := 9, width := 39, acc := .rwk, reset := 0 }
/-- SC_BUF (chapter 17). -/
def reg : Register := { name := "SC_BUF", slot := 0x111, slotCount := 1, off := 0x18, offCount := 1, offStep := 0, wide := true, banked := false, fields := [ADDR] }
end SC_BUF

namespace SC_TMO

def POLL_S : Field := { slot := 0x111, off := 0x20, lo := 0, width := 4, acc := .rw, reset := 1, subs := [⟨0, 0, 1⟩] }
def ERASE_S : Field := { slot := 0x111, off := 0x20, lo := 8, width := 10, acc := .rw, reset := 180, subs := [⟨0, 9, 10⟩] }
/-- SC_TMO (chapter 17). -/
def reg : Register := { name := "SC_TMO", slot := 0x111, slotCount := 1, off := 0x20, offCount := 1, offStep := 0, wide := false, banked := false, fields := [POLL_S, ERASE_S] }
end SC_TMO

namespace SC_CAP

def BLOCKS : Field := { slot := 0x111, off := 0x24, lo := 0, width := 32, acc := .ro, reset := 0 }
/-- SC_CAP (chapter 17). -/
def reg : Register := { name := "SC_CAP", slot := 0x111, slotCount := 1, off := 0x24, offCount := 1, offStep := 0, wide := false, banked := false, fields := [BLOCKS] }
end SC_CAP

namespace SC_EVENTS

def TORN : Field := { slot := 0x111, off := 0x28, lo := 0, width := 8, acc := .rc, reset := 0 }
def CRC_RETRY : Field := { slot := 0x111, off := 0x28, lo := 8, width := 8, acc := .rc, reset := 0 }
def STEP_DOWN : Field := { slot := 0x111, off := 0x28, lo := 16, width := 8, acc := .rc, reset := 0 }
def REMOVED : Field := { slot := 0x111, off := 0x28, lo := 24, width := 8, acc := .rc, reset := 0 }
/-- SC_EVENTS (chapter 17). -/
def reg : Register := { name := "SC_EVENTS", slot := 0x111, slotCount := 1, off := 0x28, offCount := 1, offStep := 0, wide := false, banked := false, fields := [TORN, CRC_RETRY, STEP_DOWN, REMOVED] }
end SC_EVENTS

namespace MGT_CTRL

def EN : Field := { slot := 0x120, off := 0x0, lo := 0, width := 1, acc := .rwk, reset := 1 }
def UDP_EN : Field := { slot := 0x120, off := 0x0, lo := 1, width := 1, acc := .rwk, reset := 1 }
def RAW_EN : Field := { slot := 0x120, off := 0x0, lo := 2, width := 1, acc := .rwk, reset := 1 }
def PHY_ADDR : Field := { slot := 0x120, off := 0x0, lo := 8, width := 5, acc := .rwk, reset := 0 }
/-- MGT_CTRL (chapter 18). -/
def reg : Register := { name := "MGT_CTRL", slot := 0x120, slotCount := 1, off := 0x0, offCount := 1, offStep := 0, wide := false, banked := false, fields := [EN, UDP_EN, RAW_EN, PHY_ADDR] }
end MGT_CTRL

namespace MGT_STATUS

def LINK : Field := { slot := 0x120, off := 0x4, lo := 0, width := 1, acc := .ro, reset := 0 }
def SPEED : Field := { slot := 0x120, off := 0x4, lo := 1, width := 2, acc := .ro, reset := 0 }
def DUPLEX : Field := { slot := 0x120, off := 0x4, lo := 3, width := 1, acc := .ro, reset := 0 }
def SYNC : Field := { slot := 0x120, off := 0x4, lo := 4, width := 1, acc := .ro, reset := 0 }
def SESSIONS : Field := { slot := 0x120, off := 0x4, lo := 8, width := 5, acc := .ro, reset := 0 }
/-- MGT_STATUS (chapter 18). -/
def reg : Register := { name := "MGT_STATUS", slot := 0x120, slotCount := 1, off := 0x4, offCount := 1, offStep := 0, wide := false, banked := false, fields := [LINK, SPEED, DUPLEX, SYNC, SESSIONS] }
end MGT_STATUS

namespace MGT_MDIO

def DATA : Field := { slot := 0x120, off := 0x8, lo := 0, width := 16, acc := .rwk, reset := 0 }
def REG : Field := { slot := 0x120, off := 0x8, lo := 16, width := 5, acc := .rwk, reset := 0 }
def WRITE : Field := { slot := 0x120, off := 0x8, lo := 21, width := 1, acc := .rwk, reset := 0 }
def ERR : Field := { slot := 0x120, off := 0x8, lo := 30, width := 1, acc := .ro, reset := 0 }
def BUSY : Field := { slot := 0x120, off := 0x8, lo := 31, width := 1, acc := .ro, reset := 0 }
/-- MGT_MDIO (chapter 18). -/
def reg : Register := { name := "MGT_MDIO", slot := 0x120, slotCount := 1, off := 0x8, offCount := 1, offStep := 0, wide := false, banked := false, fields := [DATA, REG, WRITE, ERR, BUSY] }
end MGT_MDIO

namespace MGT_EVENTS

def DROPPED : Field := { slot := 0x120, off := 0xc, lo := 0, width := 16, acc := .rc, reset := 0 }
def AUTH_FAIL : Field := { slot := 0x120, off := 0xc, lo := 16, width := 8, acc := .rc, reset := 0 }
def HELLO_DROP : Field := { slot := 0x120, off := 0xc, lo := 24, width := 8, acc := .rc, reset := 0 }
/-- MGT_EVENTS (chapter 18). -/
def reg : Register := { name := "MGT_EVENTS", slot := 0x120, slotCount := 1, off := 0xc, offCount := 1, offStep := 0, wide := false, banked := false, fields := [DROPPED, AUTH_FAIL, HELLO_DROP] }
end MGT_EVENTS

namespace MGT_MAC

def ADDR : Field := { slot := 0x120, off := 0x10, lo := 0, width := 48, acc := .ro, reset := 0 }
/-- MGT_MAC (chapter 18). -/
def reg : Register := { name := "MGT_MAC", slot := 0x120, slotCount := 1, off := 0x10, offCount := 1, offStep := 0, wide := true, banked := false, fields := [ADDR] }
end MGT_MAC

namespace TRL_HEAD

def SEQ : Field := { slot := 0x130, off := 0x0, lo := 0, width := 64, acc := .ro, reset := 0 }
/-- TRL_HEAD (chapter 19). -/
def reg : Register := { name := "TRL_HEAD", slot := 0x130, slotCount := 1, off := 0x0, offCount := 1, offStep := 0, wide := true, banked := false, fields := [SEQ] }
end TRL_HEAD

namespace TRL_OLDEST

def SEQ : Field := { slot := 0x130, off := 0x8, lo := 0, width := 64, acc := .ro, reset := 0 }
/-- TRL_OLDEST (chapter 19). -/
def reg : Register := { name := "TRL_OLDEST", slot := 0x130, slotCount := 1, off := 0x8, offCount := 1, offStep := 0, wide := true, banked := false, fields := [SEQ] }
end TRL_OLDEST

namespace TRL_RING_BASE

def ADDR : Field := { slot := 0x130, off := 0x10, lo := 6, width := 42, acc := .ro, reset := 0 }
def ONDIE : Field := { slot := 0x130, off := 0x10, lo := 63, width := 1, acc := .ro, reset := 1 }
/-- TRL_RING_BASE (chapter 19). -/
def reg : Register := { name := "TRL_RING_BASE", slot := 0x130, slotCount := 1, off := 0x10, offCount := 1, offStep := 0, wide := true, banked := false, fields := [ADDR, ONDIE] }
end TRL_RING_BASE

namespace TRL_EVENTS

def LOST : Field := { slot := 0x130, off := 0x18, lo := 0, width := 16, acc := .rc, reset := 0 }
def JLOST : Field := { slot := 0x130, off := 0x18, lo := 16, width := 16, acc := .rc, reset := 0 }
/-- TRL_EVENTS (chapter 19). -/
def reg : Register := { name := "TRL_EVENTS", slot := 0x130, slotCount := 1, off := 0x18, offCount := 1, offStep := 0, wide := false, banked := false, fields := [LOST, JLOST] }
end TRL_EVENTS

namespace TRL_WR

def DATA : Field := { slot := 0x130, off := 0x20, lo := 0, width := 32, acc := .rw, reset := 0, offStep := 4 }
/-- TRL_WR_w (chapter 19). -/
def reg : Register := { name := "TRL_WR_w", slot := 0x130, slotCount := 1, off := 0x20, offCount := 9, offStep := 4, wide := false, banked := true, fields := [DATA] }
end TRL_WR

namespace TRL_WR_CMD

def EVENT : Field := { slot := 0x130, off := 0x44, lo := 0, width := 8, acc := .rw, reset := 0 }
def CRITICAL : Field := { slot := 0x130, off := 0x44, lo := 8, width := 1, acc := .rw, reset := 0 }
def GO : Field := { slot := 0x130, off := 0x44, lo := 31, width := 1, acc := .wo, reset := 0 }
/-- TRL_WR_CMD (chapter 19). -/
def reg : Register := { name := "TRL_WR_CMD", slot := 0x130, slotCount := 1, off := 0x44, offCount := 1, offStep := 0, wide := false, banked := true, fields := [EVENT, CRITICAL, GO] }
end TRL_WR_CMD

namespace TRL_SUB_BASE

def ADDR : Field := { slot := 0x130, off := 0x100, lo := 6, width := 42, acc := .rwk, reset := 0, offStep := 32 }
/-- TRL_SUB_BASE_n (chapter 19). -/
def reg : Register := { name := "TRL_SUB_BASE_n", slot := 0x130, slotCount := 1, off := 0x100, offCount := 16, offStep := 32, wide := true, banked := false, fields := [ADDR] }
end TRL_SUB_BASE

namespace TRL_SUB_CFG

def EN : Field := { slot := 0x130, off := 0x108, lo := 0, width := 1, acc := .rwk, reset := 0, offStep := 32 }
def CRIT_ONLY : Field := { slot := 0x130, off := 0x108, lo := 1, width := 1, acc := .rwk, reset := 0, offStep := 32 }
def SIZE_LOG2 : Field := { slot := 0x130, off := 0x108, lo := 4, width := 4, acc := .rwk, reset := 10, offStep := 32, subs := [⟨11, 15, 10⟩] }
def GROUPS : Field := { slot := 0x130, off := 0x108, lo := 16, width := 16, acc := .rwk, reset := 0, offStep := 32 }
/-- TRL_SUB_CFG_n (chapter 19). -/
def reg : Register := { name := "TRL_SUB_CFG_n", slot := 0x130, slotCount := 1, off := 0x108, offCount := 16, offStep := 32, wide := false, banked := false, fields := [EN, CRIT_ONLY, SIZE_LOG2, GROUPS] }
end TRL_SUB_CFG

namespace TRL_SUB_PTR

def TAIL : Field := { slot := 0x130, off := 0x10c, lo := 0, width := 16, acc := .ro, reset := 0, offStep := 32 }
def HEAD : Field := { slot := 0x130, off := 0x10c, lo := 16, width := 16, acc := .rw, reset := 0, offStep := 32 }
/-- TRL_SUB_PTR_n (chapter 19). -/
def reg : Register := { name := "TRL_SUB_PTR_n", slot := 0x130, slotCount := 1, off := 0x10c, offCount := 16, offStep := 32, wide := false, banked := false, fields := [TAIL, HEAD] }
end TRL_SUB_PTR

namespace TRL_SUB_LOST

def LOST : Field := { slot := 0x130, off := 0x110, lo := 0, width := 32, acc := .rc, reset := 0, offStep := 32 }
/-- TRL_SUB_LOST_n (chapter 19). -/
def reg : Register := { name := "TRL_SUB_LOST_n", slot := 0x130, slotCount := 1, off := 0x110, offCount := 16, offStep := 32, wide := false, banked := false, fields := [LOST] }
end TRL_SUB_LOST

namespace BRN_CFG

def SHARE_PCT : Field := { slot := 0x131, off := 0x0, lo := 0, width := 5, acc := .rw, reset := 5, subs := [⟨0, 0, 1⟩, ⟨21, 31, 20⟩] }
def PATROL_H : Field := { slot := 0x131, off := 0x0, lo := 8, width := 8, acc := .rw, reset := 24, subs := [⟨0, 0, 1⟩] }
def RETRAIN_STEP_C : Field := { slot := 0x131, off := 0x0, lo := 16, width := 5, acc := .rw, reset := 10, subs := [⟨0, 4, 5⟩, ⟨31, 31, 30⟩] }
def TELEMETRY_MS : Field := { slot := 0x131, off := 0x0, lo := 24, width := 7, acc := .rw, reset := 10, subs := [⟨0, 0, 1⟩] }
/-- BRN_CFG (chapter 19). -/
def reg : Register := { name := "BRN_CFG", slot := 0x131, slotCount := 1, off := 0x0, offCount := 1, offStep := 0, wide := false, banked := false, fields := [SHARE_PCT, PATROL_H, RETRAIN_STEP_C, TELEMETRY_MS] }
end BRN_CFG

namespace BRN_SCRUB

def SRAM_SCRUB_MS : Field := { slot := 0x131, off := 0x4, lo := 0, width := 14, acc := .rw, reset := 1000, subs := [⟨0, 99, 100⟩, ⟨10001, 16383, 10000⟩] }
/-- BRN_SCRUB (chapter 19). -/
def reg : Register := { name := "BRN_SCRUB", slot := 0x131, slotCount := 1, off := 0x4, offCount := 1, offStep := 0, wide := false, banked := false, fields := [SRAM_SCRUB_MS] }
end BRN_SCRUB

namespace BRN_STATUS

def LATE : Field := { slot := 0x131, off := 0x8, lo := 0, width := 12, acc := .ro, reset := 0 }
def USE_PCT : Field := { slot := 0x131, off := 0x8, lo := 16, width := 7, acc := .ro, reset := 0 }
/-- BRN_STATUS (chapter 19). -/
def reg : Register := { name := "BRN_STATUS", slot := 0x131, slotCount := 1, off := 0x8, offCount := 1, offStep := 0, wide := false, banked := false, fields := [LATE, USE_PCT] }
end BRN_STATUS

namespace TEL_TJ

def TJ : Field := { slot := 0x131, off := 0xc, lo := 0, width := 16, acc := .ro, reset := 0 }
def VALID : Field := { slot := 0x131, off := 0xc, lo := 16, width := 7, acc := .ro, reset := 0 }
/-- TEL_TJ (chapter 19). -/
def reg : Register := { name := "TEL_TJ", slot := 0x131, slotCount := 1, off := 0xc, offCount := 1, offStep := 0, wide := false, banked := false, fields := [TJ, VALID] }
end TEL_TJ

namespace CLK_STATUS

def PLL_LOCK : Field := { slot := 0x140, off := 0x0, lo := 0, width := 1, acc := .ro, reset := 0 }
def SEAL_RATE : Field := { slot := 0x140, off := 0x0, lo := 1, width := 1, acc := .ro, reset := 0 }
def MEM_960 : Field := { slot := 0x140, off := 0x0, lo := 2, width := 1, acc := .ro, reset := 0 }
def NREF_OK : Field := { slot := 0x140, off := 0x0, lo := 3, width := 1, acc := .ro, reset := 0 }
def SREF_OK : Field := { slot := 0x140, off := 0x0, lo := 4, width := 1, acc := .ro, reset := 0 }
def NFC_XTAL_OK : Field := { slot := 0x140, off := 0x0, lo := 5, width := 1, acc := .ro, reset := 0 }
def DRAM_MTS : Field := { slot := 0x140, off := 0x0, lo := 16, width := 13, acc := .ro, reset := 0 }
/-- CLK_STATUS (chapter 20). -/
def reg : Register := { name := "CLK_STATUS", slot := 0x140, slotCount := 1, off := 0x0, offCount := 1, offStep := 0, wide := false, banked := false, fields := [PLL_LOCK, SEAL_RATE, MEM_960, NREF_OK, SREF_OK, NFC_XTAL_OK, DRAM_MTS] }
end CLK_STATUS

namespace PWR_CTRL

def AUTO_SEAL : Field := { slot := 0x140, off := 0x4, lo := 0, width := 1, acc := .rwk, reset := 1 }
def SHUT_S : Field := { slot := 0x140, off := 0x4, lo := 8, width := 12, acc := .rwk, reset := 600, subs := [⟨0, 9, 10⟩] }
/-- PWR_CTRL (chapter 20). -/
def reg : Register := { name := "PWR_CTRL", slot := 0x140, slotCount := 1, off := 0x4, offCount := 1, offStep := 0, wide := false, banked := false, fields := [AUTO_SEAL, SHUT_S] }
end PWR_CTRL

namespace PWR_CMD

def OP : Field := { slot := 0x140, off := 0x8, lo := 0, width := 2, acc := .rwk, reset := 0 }
def ERR : Field := { slot := 0x140, off := 0x8, lo := 8, width := 4, acc := .ro, reset := 0 }
def FAIL_STEP : Field := { slot := 0x140, off := 0x8, lo := 12, width := 4, acc := .ro, reset := 0 }
def BUSY : Field := { slot := 0x140, off := 0x8, lo := 31, width := 1, acc := .ro, reset := 0 }
/-- PWR_CMD (chapter 20). -/
def reg : Register := { name := "PWR_CMD", slot := 0x140, slotCount := 1, off := 0x8, offCount := 1, offStep := 0, wide := false, banked := false, fields := [OP, ERR, FAIL_STEP, BUSY] }
end PWR_CMD

namespace PWR_AVS

def TARGET : Field := { slot := 0x140, off := 0xc, lo := 0, width := 8, acc := .rwk, reset := 75, subs := [⟨0, 64, 65⟩, ⟨86, 255, 85⟩] }
def NOW : Field := { slot := 0x140, off := 0xc, lo := 8, width := 8, acc := .ro, reset := 75 }
def NACK : Field := { slot := 0x140, off := 0xc, lo := 16, width := 1, acc := .ro, reset := 0 }
/-- PWR_AVS (chapter 20). -/
def reg : Register := { name := "PWR_AVS", slot := 0x140, slotCount := 1, off := 0xc, offCount := 1, offStep := 0, wide := false, banked := false, fields := [TARGET, NOW, NACK] }
end PWR_AVS

namespace RST_CAUSE

def COLD : Field := { slot := 0x141, off := 0x0, lo := 0, width := 1, acc := .w1c, reset := 1 }
def PIN : Field := { slot := 0x141, off := 0x0, lo := 1, width := 1, acc := .w1c, reset := 0 }
def SOFT : Field := { slot := 0x141, off := 0x0, lo := 2, width := 1, acc := .w1c, reset := 0 }
def WDT : Field := { slot := 0x141, off := 0x0, lo := 3, width := 1, acc := .w1c, reset := 0 }
def REF_LOSS : Field := { slot := 0x141, off := 0x0, lo := 4, width := 1, acc := .w1c, reset := 0 }
def PLL_UNLOCK : Field := { slot := 0x141, off := 0x0, lo := 5, width := 1, acc := .w1c, reset := 0 }
/-- RST_CAUSE (chapter 20). -/
def reg : Register := { name := "RST_CAUSE", slot := 0x141, slotCount := 1, off := 0x0, offCount := 1, offStep := 0, wide := false, banked := false, fields := [COLD, PIN, SOFT, WDT, REF_LOSS, PLL_UNLOCK] }
end RST_CAUSE

namespace RST_CMD

def MAIN : Field := { slot := 0x141, off := 0x4, lo := 0, width := 1, acc := .rwk, reset := 0 }
def PAIR : Field := { slot := 0x141, off := 0x4, lo := 1, width := 1, acc := .rwk, reset := 0 }
def PAIR_SEL : Field := { slot := 0x141, off := 0x4, lo := 8, width := 4, acc := .rwk, reset := 0 }
/-- RST_CMD (chapter 20). -/
def reg : Register := { name := "RST_CMD", slot := 0x141, slotCount := 1, off := 0x4, offCount := 1, offStep := 0, wide := false, banked := false, fields := [MAIN, PAIR, PAIR_SEL] }
end RST_CMD

namespace WDT_CTRL

def EN : Field := { slot := 0x141, off := 0x8, lo := 0, width := 1, acc := .w1s, reset := 0 }
def TIMEOUT_MS : Field := { slot := 0x141, off := 0x8, lo := 16, width := 16, acc := .rwk, reset := 2000, subs := [⟨0, 0, 1⟩] }
/-- WDT_CTRL (chapter 20). -/
def reg : Register := { name := "WDT_CTRL", slot := 0x141, slotCount := 1, off := 0x8, offCount := 1, offStep := 0, wide := false, banked := false, fields := [EN, TIMEOUT_MS] }
end WDT_CTRL

namespace WDT_KICK

def KEY : Field := { slot := 0x141, off := 0xc, lo := 0, width := 8, acc := .wo, reset := 0 }
/-- WDT_KICK (chapter 20). -/
def reg : Register := { name := "WDT_KICK", slot := 0x141, slotCount := 1, off := 0xc, offCount := 1, offStep := 0, wide := false, banked := false, fields := [KEY] }
end WDT_KICK

namespace ST_CMD

def KIND : Field := { slot := 0x142, off := 0x0, lo := 0, width := 3, acc := .rwk, reset := 0 }
def GO : Field := { slot := 0x142, off := 0x0, lo := 31, width := 1, acc := .rwk, reset := 0 }
/-- ST_CMD (chapter 20). -/
def reg : Register := { name := "ST_CMD", slot := 0x142, slotCount := 1, off := 0x0, offCount := 1, offStep := 0, wide := false, banked := false, fields := [KIND, GO] }
end ST_CMD

namespace ST_STATUS

def TESTED : Field := { slot := 0x142, off := 0x4, lo := 0, width := 8, acc := .ro, reset := 0 }
def FAILED : Field := { slot := 0x142, off := 0x4, lo := 8, width := 8, acc := .ro, reset := 0 }
def ABORTED : Field := { slot := 0x142, off := 0x4, lo := 16, width := 8, acc := .ro, reset := 0 }
def BUSY : Field := { slot := 0x142, off := 0x4, lo := 24, width := 1, acc := .ro, reset := 0 }
/-- ST_STATUS (chapter 20). -/
def reg : Register := { name := "ST_STATUS", slot := 0x142, slotCount := 1, off := 0x4, offCount := 1, offStep := 0, wide := false, banked := false, fields := [TESTED, FAILED, ABORTED, BUSY] }
end ST_STATUS

namespace DBG_STATUS

def OPEN : Field := { slot := 0x143, off := 0x0, lo := 0, width := 4, acc := .ro, reset := 0 }
def ERR : Field := { slot := 0x143, off := 0x0, lo := 8, width := 4, acc := .ro, reset := 0 }
/-- DBG_STATUS (chapter 20). -/
def reg : Register := { name := "DBG_STATUS", slot := 0x143, slotCount := 1, off := 0x0, offCount := 1, offStep := 0, wide := false, banked := false, fields := [OPEN, ERR] }
end DBG_STATUS

namespace DBG_NONCE

def DATA : Field := { slot := 0x143, off := 0x10, lo := 0, width := 32, acc := .ro, reset := 0, offStep := 4 }
/-- DBG_NONCE_w (chapter 20). -/
def reg : Register := { name := "DBG_NONCE_w", slot := 0x143, slotCount := 1, off := 0x10, offCount := 8, offStep := 4, wide := false, banked := false, fields := [DATA] }
end DBG_NONCE

end Reg

/-- Register headings, part 1. -/
def registers1 : List Register := [Reg.STU_CTRL.reg, Reg.STU_STATUS.reg, Reg.STU_ERR.reg, Reg.STU_QPOL.reg, Reg.STU_BLOCKS.reg, Reg.STG_CTRL.reg, Reg.STG_CHSTATE.reg, Reg.STG_EVENTS.reg, Reg.STG_FREE.reg, Reg.STG_RETIRED.reg, Reg.SHP_CTRL.reg, Reg.SHP_STATUS.reg, Reg.SHP_SEED.reg, Reg.SHP_CAPS.reg, Reg.SHP_PWRF.reg, Reg.SHP_FACT.reg, Reg.SHP_TEMP.reg, Reg.SHP_PWR.reg, Reg.SHP_PTIME0.reg, Reg.SHP_PTIME1.reg, Reg.SHP_POOL.reg, Reg.SHP_ST_CTRL.reg, Reg.SHP_ST_OUT.reg, Reg.SHP_CORE_REL.reg, Reg.SHP_MT_CMD.reg, Reg.SHP_EVENTS.reg, Reg.SHP_PLACED.reg, Reg.SHP_MT_WIN.reg, Reg.PCK_CTRL.reg, Reg.PCK_STATUS.reg, Reg.PCK_EPOCH_LEN.reg, Reg.PCK_SIGN_CFG.reg, Reg.PCK_SIGN_SLOTS.reg, Reg.PCK_QPOL.reg, Reg.PCK_REVERIFY.reg, Reg.PCK_EPOCH_NUM.reg, Reg.PCK_EVENTS.reg, Reg.PCK_HEALTHY.reg, Reg.PCK_POOL.reg, Reg.FT_CTRL.reg]

/-- Register headings, part 2. -/
def registers2 : List Register := [Reg.FT_TIMERS.reg, Reg.FT_GETTMO.reg, Reg.FT_STATUS.reg, Reg.FT_EVENTS.reg, Reg.RST_CFG.reg, Reg.RST_STATUS.reg, Reg.RST_EVENTS.reg, Reg.RPR_CMD.reg, Reg.RST_IDX_KEY.reg, Reg.SDB_STATUS.reg, Reg.SDB_CMD.reg, Reg.SDB_SLOTS.reg, Reg.SDB_LEN.reg, Reg.SDB_ATTR.reg, Reg.SDB_PRES.reg, Reg.SDB_EVENTS.reg, Reg.SDB_WIN.reg, Reg.TRNG_CTRL.reg, Reg.TRNG_STATUS.reg, Reg.TRNG_EVENTS.reg, Reg.AWL_CTRL.reg, Reg.AWL_RING_BASE.reg, Reg.AWL_RING_CFG.reg, Reg.AWL_RING_TAIL.reg, Reg.AWL_RING_HEAD.reg, Reg.AWL_ABORT.reg, Reg.AWL_STATUS.reg, Reg.AWL_QPOL.reg, Reg.AWL_EVENTS.reg, Reg.AWL_OPS.reg, Reg.AWL_UNIT.reg, Reg.MMU_TTBK.reg, Reg.MMU_TTBT.reg, Reg.MMU_CTRL.reg, Reg.MMU_WALKS.reg, Reg.CORE_STK_K.reg, Reg.CORE_STK_T.reg, Reg.CORE_GTBL_K.reg, Reg.CORE_GTBL_T.reg, Reg.CORE_STATE.reg]

/-- Register headings, part 3. -/
def registers3 : List Register := [Reg.CORE_LIMITS.reg, Reg.CORE_CTRL.reg, Reg.IC_CLAIM.reg, Reg.IC_EOI.reg, Reg.IC_RPRI.reg, Reg.CORE_SAVE.reg, Reg.IC_ROUTE.reg, Reg.IC_SWI.reg, Reg.AT_CMD.reg, Reg.AT_COMMIT.reg, Reg.AT_STATUS.reg, Reg.AT_EPOCH.reg, Reg.AT_WIN.reg, Reg.AT_VCNT.reg, Reg.AT_VPOP.reg, Reg.AT_VREC.reg, Reg.ECC_RPT_CFG.reg, Reg.ECC_COUNTS.reg, Reg.ECC_SPLIT_ADDR.reg, Reg.ECC_SPLIT_DATA.reg, Reg.ECC_SPLIT_CMD.reg, Reg.ECC_TEST.reg, Reg.ECC_FLIP_DATA.reg, Reg.ECC_INJ.reg, Reg.ECC_TRK_SEL.reg, Reg.ECC_TRK_WIN.reg, Reg.FLS_CTRL.reg, Reg.FLS_STATUS.reg, Reg.FLS_CMD.reg, Reg.FLS_LADDR.reg, Reg.FLS_LEN.reg, Reg.FLS_PADDR.reg, Reg.FLS_BUF.reg, Reg.FLS_MARGIN.reg, Reg.FLS_EVENTS.reg, Reg.FLS_SPARES.reg, Reg.BOOT_STATUS.reg, Reg.BOOT_GEN.reg, Reg.BOOT_INFO.reg, Reg.BOOT_REQ.reg]

/-- Register headings, part 4. -/
def registers4 : List Register := [Reg.BOOT_TIME.reg, Reg.FCU_CFG.reg, Reg.FCU_STATUS.reg, Reg.FCU_SAFE_SRC.reg, Reg.FCU_PIN.reg, Reg.FCU_SEL.reg, Reg.FCU_SRC_CFG.reg, Reg.FCU_CLR.reg, Reg.FCU_INJ.reg, Reg.FCU_INJ_DETAIL.reg, Reg.FCU_REC.reg, Reg.FCU_LIVE.reg, Reg.FCU_STICKY.reg, Reg.KNL_STATUS.reg, Reg.KNL_CTRL.reg, Reg.KNL_TEMP.reg, Reg.KNL_LOG.reg, Reg.KNL_VBAT.reg, Reg.KNL_TRIM.reg, Reg.KNL_RTC.reg, Reg.KNL_RTC_SET.reg, Reg.KNL_SEQ.reg, Reg.KNL_EVQ.reg, Reg.KNL_MON.reg, Reg.NFC_CTRL.reg, Reg.NFC_DETECT.reg, Reg.NFC_STATUS.reg, Reg.NFC_CMD.reg, Reg.NFC_TXADDR.reg, Reg.NFC_RXADDR.reg, Reg.NFC_LEN.reg, Reg.NFC_RXLEN.reg, Reg.NFC_UID.reg, Reg.NFC_CKIN.reg, Reg.COL_CMD.reg, Reg.COL_ADDR.reg, Reg.COL_STATUS.reg, Reg.COL_WIN.reg, Reg.PNL_BTN.reg, Reg.PNL_CFG.reg]

/-- Register headings, part 5. -/
def registers5 : List Register := [Reg.PNL_PRES_TIME.reg, Reg.PNL_LED.reg, Reg.SC_CTRL.reg, Reg.SC_STATUS.reg, Reg.SC_CMD.reg, Reg.SC_LBA.reg, Reg.SC_COUNT.reg, Reg.SC_BUF.reg, Reg.SC_TMO.reg, Reg.SC_CAP.reg, Reg.SC_EVENTS.reg, Reg.MGT_CTRL.reg, Reg.MGT_STATUS.reg, Reg.MGT_MDIO.reg, Reg.MGT_EVENTS.reg, Reg.MGT_MAC.reg, Reg.TRL_HEAD.reg, Reg.TRL_OLDEST.reg, Reg.TRL_RING_BASE.reg, Reg.TRL_EVENTS.reg, Reg.TRL_WR.reg, Reg.TRL_WR_CMD.reg, Reg.TRL_SUB_BASE.reg, Reg.TRL_SUB_CFG.reg, Reg.TRL_SUB_PTR.reg, Reg.TRL_SUB_LOST.reg, Reg.BRN_CFG.reg, Reg.BRN_SCRUB.reg, Reg.BRN_STATUS.reg, Reg.TEL_TJ.reg, Reg.CLK_STATUS.reg, Reg.PWR_CTRL.reg, Reg.PWR_CMD.reg, Reg.PWR_AVS.reg, Reg.RST_CAUSE.reg, Reg.RST_CMD.reg, Reg.WDT_CTRL.reg, Reg.WDT_KICK.reg, Reg.ST_CMD.reg, Reg.ST_STATUS.reg]

/-- Register headings, part 6. -/
def registers6 : List Register := [Reg.DBG_STATUS.reg, Reg.DBG_NONCE.reg]

/-- Every register of the chapters. -/
def registers : List Register := registers1 ++ registers2 ++ registers3 ++ registers4 ++ registers5 ++ registers6

end Sys2Proof.Machine
end

