-- ==== Sys2Proof/Machine/TypesCore.lean ====
section
/-!
DEFINITION. Types of the shared parts of the state: service states (R28), the fault collector's records and windows
(chapter 14), the Trail (chapter 19), memory and the access table (chapter 12).
-/

namespace Sys2Proof.Machine

/-- The two worlds of a core or of a register access. -/
inductive World where
  | tack | keeper
  deriving DecidableEq, Repr

/-- 0 for Tack world and 1 for Keeper world, as STATUS.W counts them. -/
def World.num : World → Nat
  | .tack => 0
  | .keeper => 1

/-- The other world. -/
def World.other : World → World
  | .tack => .keeper
  | .keeper => .tack

/-- The service states of Table 1-7 (R28). -/
inductive ServiceState where
  | dark | heel | seal
  deriving DecidableEq, Repr

/-- The states of a stitch unit (Table 3-8), a sponge core (Table 6-1) and an Awl unit (Table 9-10). -/
inductive UnitState where
  | offline | idle | busy | suspect | selfTest | quarantined
  deriving DecidableEq, Repr

/-- The units that a fault reaction acts on (Table 14-2, Table 14-6). -/
inductive UnitRef where
  | stitch (n : Nat) | sponge (j : Nat) | awl (u : Nat) | pair (p : Nat) | channel (c : Nat)
  | north (p : Nat) | south (p : Nat) | none
  deriving DecidableEq, Repr

/-- The kinds of unit that roll through self-test (R37, Table 20-7). -/
inductive UnitKind where
  | stitch | sponge | awl | pair
  deriving DecidableEq, Repr

/-- The central units built as two copies (R13). -/
inductive Central where
  | queueEngine | shepherd | saddlebag | collector | trail
  deriving DecidableEq, Repr

/-- A Trail record as its source stamps it (Table 19-1); SEQ is given at acceptance. -/
structure TrailRec where
  seq : Nat
  time : Nat
  typ : Nat
  origin : Nat
  critical : Bool
  world : Nat
  level : Nat
  conseq : Bool
  injected : Bool
  gap : Bool
  held : Bool
  source : Option Nat
  count : Nat
  body : List Byte
  deriving DecidableEq, Repr

/-- One source port of the arbiter (R580): the records it holds, oldest first with the time each was held from, and the
count of the records it dropped. -/
structure TrailPort where
  heldRecs : List (Nat × TrailRec) := []
  lost : Nat := 0
  deriving DecidableEq, Repr

/-- One subscription's hidden state (R587): copies not yet counted toward its interrupt, the time of the first of them, and
whether the next copy carries FLAGS.GAP. -/
structure SubState where
  uncounted : Nat := 0
  firstAt : Nat := 0
  gap : Bool := false
  deriving DecidableEq, Repr

/-- The Trail arbiter (chapter 19). `ports` is keyed by master ID + 128 × world; `ring` holds the 64 bytes of each slot of the
on-die ring, `dram` the SEQ of the record in each slot of the DRAM ring, whose bytes stand in memory; `journal` is TRAILJ, `uncommitted` the critical records accepted and not yet committed, with the time
each was accepted. -/
structure Trail where
  running : Bool
  nextSeq : Nat
  newest : Nat
  lastPort : Nat
  ports : Table TrailPort
  ring : Table (List Byte)
  dram : Table Nat
  onDie : Bool
  firstSeq : Nat
  uncommitted : List (Nat × TrailRec)
  journal : List (List Byte)
  subs : Table SubState
  deriving DecidableEq, Repr

/-- A source record of the collector (Table 14-5) with the configuration of its source (R467). -/
structure FaultRec where
  firstSeq : Nat := 0
  lastSeq : Nat := 0
  count : Nat := 0
  conseq : Nat := 0
  nested : Nat := 0
  live : Bool := false
  sticky : Bool := false
  lastConseq : Bool := false
  lastInjected : Bool := false
  trailPending : Bool := false
  rebuilt : Bool := false
  reaction : Nat := 0
  detail : Nat := 0
  window : Option Nat := none
  /-- time of the latest Trail record the source has written (R470) -/
  lastTrail : Option Nat := none
  /-- detections counted in the source's next Trail record (R470) -/
  merged : Nat := 0
  /-- the configuration that Keeper firmware has set, if any: class, reaction, LINE (R467) -/
  cfg : Option (Nat × Nat × Nat) := none
  deriving DecidableEq, Repr

/-- An open consequence window (R472). -/
structure Window where
  opener : Nat
  unit : UnitRef
  reaction : Nat
  openedAt : Nat
  deriving DecidableEq, Repr

/-- The fault collector (chapter 14). -/
structure Collector where
  running : Bool
  recs : Table FaultRec
  windows : List Window
  refused : Bool
  pulseEnd : Option Nat
  /-- pending CHECK injection: the source and the mask (R479) -/
  checkInj : Option (Nat × Nat)
  /-- the time of the last disagreement of each central unit's copies, by its LOCKSTEP source (R13) -/
  disagreed : Table Nat
  /-- the Awl unit kept for Smilia handshakes in the safe state (R476) -/
  mgmtAwl : Option Nat
  deriving DecidableEq, Repr

/-- Physical memory (R409): the bytes that differ from what an unlisted byte reads as, and the stored check bits of the
words whose stored check bits are not the encoding of their data (R412, R413), by word number (word address / 4). -/
structure Memory where
  cells : List Host.Cell
  codes : Table Nat
  deriving DecidableEq, Repr

/-- One entry of a repeat tracker (R419, R420). -/
structure TrackEntry where
  loc : Nat
  count : Nat
  hard : Bool
  first : Nat
  firstTime : Nat
  deriving DecidableEq, Repr

/-- A slot or region entry of the access table as its words hold it (Tables 12-5 and 12-6): a slot entry uses `w0`. -/
structure AtEntry where
  w0 : Nat
  w1 : Nat
  deriving DecidableEq, Repr

/-- The kinds of access of Table 12-8. -/
inductive AccessKind where
  | read | write | fetch | atomic | walk
  deriving DecidableEq, Repr

/-- A violation record (Table 12-8). -/
structure Violation where
  addr : Nat
  trailSeq : Nat
  who : Nat
  wher : Nat
  size : Nat
  epoch : Nat
  deriving DecidableEq, Repr

/-- The access table, the violation log and the code-control state (chapter 12). Entries are keyed by
target × 512 + index; tracker entries by unit × 256 + entry; used spare rows by cluster × 65,536 + macro. -/
structure Guards where
  active : Table AtEntry
  shadow : Table AtEntry
  /-- installed capacity of each DRAM channel in bytes (R409) -/
  installed : Table Nat
  violations : List Violation
  trackers : Table TrackEntry
  spareRows : Table Nat
  /-- rows remapped to spare rows: cluster and location, saved in the flash store (R421) -/
  remapped : List (Nat × Nat)
  /-- fenced macros, by cluster × 65,536 + macro (R421) -/
  fenced : List Nat
  /-- UE times per channel, persisting ADDR rows, device correction times and hard rows (R418) -/
  ueTimes : Table (List Nat)
  addrRows : Table (List (Nat × Nat))
  devBits : Table (List Nat)
  devRows : Table (List (Nat × Nat))
  entryStarted : Bool
  deriving DecidableEq, Repr

/-- Where an output goes. -/
inductive Dest where
  /-- a north session, by its ID -/
  | north (session : Nat)
  /-- an unprotected frame to the sender of a frame on a north MAC -/
  | northLink (mac : Nat)
  /-- a shelf's association -/
  | south (shelf : Nat)
  /-- a Tether port -/
  | tether (port : Nat)
  /-- a south lane: the symbols of a codeword (R230) -/
  | lane (lane : Nat)
  /-- the private key bus -/
  | keyBus (unit : UnitRef)
  /-- a Smilia session, by its ID -/
  | smilia (session : Nat)
  /-- an unprotected frame on the management MAC -/
  | mgmtLink
  /-- the card in the reader's field -/
  | nfcCard
  /-- the field reader at the Collar's antenna -/
  | fieldReader
  /-- the service card -/
  | serviceCard
  /-- the PHY's MDIO bus -/
  | mdio
  /-- the VDD_CORE regulator's bus -/
  | regulator
  /-- the TAP's data output -/
  | tap
  /-- a command in a core's world: a value a read returned -/
  | reader
  deriving DecidableEq, Repr

/-- One thing the block sends: where, the frame or message type code, its fields in the order of the chapter's layout, and
its bytes where it carries any. -/
structure Output where
  dest : Dest
  typ : Nat
  fields : List Nat
  bytes : List Byte := []
  deriving DecidableEq, Repr

end Sys2Proof.Machine
end

