-- ==== Sys2Proof/Machine/TypesWire.lean ====
section
/-! DEFINITION. What the north MACs and the network below Seal Transport give the block: addresses, MACsec channels, SecTAGs (R41 to R45). -/

namespace Sys2Proof.Machine

/-- The two ends of a path (R41, R68): the IP version, the peer's address and UDP port, and the north address it reaches. -/
structure Ends where
  v6 : Bool
  peer : Nat
  port : Nat
  north : Nat
  deriving DecidableEq, Repr

/-- A receive secure channel of a MAC (R43): its SCI and short SCI, and the packet number above every one received. -/
structure RxChannel where
  sci : Nat
  ssci : Nat
  next : Nat
  deriving DecidableEq, Repr

/-- What MKA installed in a north MAC (R43, R44): the SAK and its salt, the SCI and short SCI of the transmit channel with its next packet
number, and the receive channels. It stands in no register and no view, so no Tack-world access reads it. -/
structure MacSec where
  sak : Nat
  salt : Nat
  sci : Nat
  ssci : Nat
  txPn : Nat
  rx : List RxChannel
  deriving DecidableEq, Repr

/-- The SecTAG of an arriving frame and what it protects (R43): the SCI, the low 32 bits of the packet number, the addresses and SecTAG as sent,
the secure data as sent, and the ICV. -/
structure SecTag where
  sci : Nat
  pn : Nat
  aad : List Byte
  body : List Byte
  icv : Nat
  deriving DecidableEq, Repr

/-- A trust anchor (R640): a certificate, or a public key as a SubjectPublicKeyInfo. -/
inductive Anchor where
  | cert (der : List Byte)
  | key (spki : List Byte)
  deriving DecidableEq, Repr

/-- What a Smilia frame travels in (R550): a UDP datagram with its addresses and ports, or an Ethernet frame with its MAC addresses and EtherType. -/
inductive SmlNet where
  | udp (v6 : Bool) (src dst sport dport : Nat)
  | ether (src dst typ : Nat)
  deriving DecidableEq, Repr

end Sys2Proof.Machine
end

