-- ==== Sys2Proof/Machine/TypesData.lean ====
section
/-!
DEFINITION. Types of the data path: sessions, queues and objects (chapter 02), stitch-unit contexts (chapter 03), fragments and
staging (chapter 04), the media and shelf tables (chapter 05), manifest epochs (chapter 06), shelves, catalogue, restore and
repair (chapter 07).
-/

namespace Sys2Proof.Machine

/-- What a stitch-unit range works for: the sealing of an extent, or the unseal of an extent of a restore. -/
inductive Job where
  | seal (ext : Nat)
  | unseal (handle idx : Nat)
  deriving DecidableEq, Repr

/-- A value in three shares, whose XOR it is (R117). -/
structure Shares where
  a : Nat
  b : Nat
  c : Nat
  deriving DecidableEq, Repr

/-- What a pipeline of a context holds between two blocks, each value in three shares (R113, Table 3-7): the key, the round keys, H, the counter block
and the last round's AES state of the block before, and the GHASH accumulator; and the round-key mask bits drawn since the last refresh. -/
structure Pipe where
  key : Shares
  roundKeys : Shares
  h : Shares
  ctr : Shares
  aes : Shares
  acc : Shares
  drawn : List Nat
  deriving DecidableEq, Repr

/-- A mask generator (R118, R119): its 52 lanes, each a Keccak-f[400] state, and the blocks since its seed. -/
structure MaskGen where
  lanes : List Nat
  blocks : Nat
  deriving DecidableEq, Repr

/-- An extent context of a stitch unit (R113): the range descriptor, the two pipelines once the data key has been received, the next row to
release, the blocks of it already taken and the partial parity row over them. -/
structure StitchCtx where
  job : Job
  first : Nat
  rows : Nat
  next : Nat
  rerun : Bool
  pipes : Option (Pipe × Pipe)
  aborting : Bool := false
  taken : Nat := 0
  parity : List (List Byte) := []
  deriving DecidableEq, Repr

/-- Why a unit is in self-test (Tables 3-8, 6-1, 9-10). -/
inductive TestReason where
  | startup | rolling | suspect | release | commanded
  deriving DecidableEq, Repr

/-- How a self-test ends, in the code order of SELFTEST_RESULT: passed, failed in its logic or its memory part, or aborted (R38). -/
inductive TestEnd where
  | pass | logic | memory | aborted
  deriving DecidableEq, Repr

/-- The code of a result (R613). -/
def TestEnd.code : TestEnd → Nat
  | .pass => 0
  | .logic => 1
  | .memory => 2
  | .aborted => 3

/-- The hidden state of the stitch units. Contexts are keyed by unit × 4 + context; mask generators by unit × 2 + pipeline
(none before the first seed); queued holds re-run sub-ranges that wait behind a busy context 2, by
unit. -/
structure Stitch where
  ctxs : Table StitchCtx
  current : Table Nat
  mismatches : Table (List Nat)
  masks : Table MaskGen
  stalled : Table Nat
  held : Table Nat
  tests : Table TestReason
  queued : Table (List StitchCtx)
  deriving DecidableEq, Repr

/-- A run of staging pages (R143), as page numbers of its channel. -/
structure PageRun where
  start : Nat
  len : Nat
  deriving DecidableEq, Repr

/-- Where a fragment stands (R143 to R157, R251 to R254). -/
inductive FragPhase where
  | filling | held | lost | sent | durable | freed
  deriving DecidableEq, Repr

/-- The shadow of a hash job (R190): the last state that passed its compare, and the bytes absorbed by then. -/
structure Shadow where
  state : Nat
  bytes : Nat
  deriving DecidableEq, Repr

/-- A fragment of an extent (R143): its channel, page runs, header slot, the staging check of each page, the sponge's absorbed rows
and its core, its hash, its target, and its progress in the drain (R253). -/
structure Fragment where
  channel : Nat
  runs : List PageRun
  slot : Nat
  crcs : List Nat
  rows : Table (List Byte)
  core : Option Nat
  hash : Option Nat
  media : Nat
  shelf : Nat
  header : List Byte
  phase : FragPhase
  repaired : Bool
  xid : Nat
  sentAt : Nat
  timeouts : Nat
  mismatches : Nat
  /-- the fragment awaits a regenerated copy or a room on a channel (R151, R153) -/
  moving : Option Nat
  lastVerify : Nat
  /-- its hash job's shadow, and that the job has been moved and goes before its core's own (R190, R191) -/
  shadow : Option Shadow := none
  ahead : Bool := false
  deriving DecidableEq, Repr

/-- A fetched fragment: its channel, its pages there, its payload (R266). -/
structure FetchedFrag where
  channel : Nat
  runs : List PageRun
  payload : List Byte
  header : List Byte := []
  deriving DecidableEq, Repr

/-- The progress of an extent (Table 1-2). -/
inductive ExtPhase where
  | granted | admitted | sealed | staged | settled | aborted
  deriving DecidableEq, Repr

/-- The progress of one range of an extent. -/
inductive RangePhase where
  | waiting | running | done
  deriving DecidableEq, Repr

/-- A range of an extent (R100): its first row, its rows, its unit, its progress, its compared partial in shares, and its descriptor's segment field
(R109). -/
structure RangeRec where
  first : Nat
  rows : Nat
  unit : Nat
  phase : RangePhase
  rerun : Bool
  acc : Shares := { a := 0, b := 0, c := 0 }
  segment : Nat := 0
  deriving DecidableEq, Repr

/-- An extent (R80, R98, R144, R198). `len` is the length granted, cut to the true length once it is known. -/
structure Extent where
  obj : Nat
  idx : Nat
  queue : Nat
  len : Nat
  k : Nat
  m : Nat
  ext : Nat
  settle : Nat
  epoch : Nat
  slot : Nat
  notarised : Bool
  final : Option Bool
  phase : ExtPhase
  grantedAt : Nat
  held : Bool
  noPlace : Bool
  ranges : List RangeRec
  lead : Nat
  tag : Option Nat
  frags : Table Fragment
  trialGen : Nat
  placed : Bool
  generation : Nat
  sealTime : Nat
  stagedAt : Nat
  acked : List Nat
  hasLeaf : Option (Nat × Nat)
  ingest : Nat
  /-- fragments fetched back from shelves for a regeneration (R154) -/
  fetched : Table FetchedFrag := []
  /-- when the first byte arrived (R101) -/
  firstAt : Option Nat := none
  deriving DecidableEq, Repr

/-- The state of an object in the manifest index (Table 7-9); of an abort its reason, the opcode its STATUS answers and the detail (R87). -/
inductive ObjState where
  | openObj | ended | settled | aborted (reason op detail : Nat) | unrecoverable
  deriving DecidableEq, Repr

def ObjState.isAborted : ObjState → Bool
  | .aborted _ _ _ => true
  | _ => false

/-- An object (R78): its queue and queue sequence, its code, its length once known, what has been received of it, and what has been
answered of it. -/
structure Obj where
  ns : Nat
  queue : Nat
  seq : Nat
  first : Nat
  declared : Option Nat
  length : Option Nat
  k : Nat
  m : Nat
  ext : Nat
  settle : Nat
  epoch : Nat
  notarised : Bool
  state : ObjState
  stagedSent : Bool
  answered : Bool
  firstSettled : Option Nat
  granted : Nat
  aborting : Bool
  /-- when its last extent reached staging, and when its last record was released (R53, Table 2-3) -/
  stagedTime : Option Nat := none
  settledTime : Option Nat := none
  deriving DecidableEq, Repr

/-- The state of a stream context (Table 2-7). -/
inductive QueueState where
  | openQ | detached | closing
  deriving DecidableEq, Repr

/-- A stream context (Table 2-7), with the client's certificate (R76), the bytes held of the stream by offset (R75), the last
CREDIT_EXCEEDED (R81), and the fill-rate estimate (R101). A FREE context is not listed. -/
structure Queue where
  state : QueueState
  notarised : Bool
  staged : Bool
  unknownLen : Bool
  ns : Nat
  k : Nat
  m : Nat
  ext : Nat
  settle : Nat
  session : Nat
  slot : Nat
  tag : Nat
  nextSeq : Nat
  oldest : Nat
  contiguous : Nat
  credit : Nat
  open' : Option Nat
  lastActivity : Nat
  detachExpiry : Option Nat
  received : List (Nat × List Byte)
  client : Nat
  lastExceeded : Option Nat
  fillRate : Option Nat
  /-- the stream offset at which the next object begins (R78) -/
  nextOff : Nat
  deriving DecidableEq, Repr

/-- A path of a session or of an association (R68 to R71, R239): its link rate in Gbit/s, its port and, of a session, its ends, its state, and its round-trip estimates in
nanoseconds (R66). -/
structure Path where
  rate : Nat
  port : Nat
  confirmed : Bool
  failed : Bool
  srtt : Nat
  rttvar : Nat
  rto : Nat
  minRtt : Option Nat
  expiries : Nat
  lastProbe : Nat
  probe : Nat
  sentBytes : Nat := 0
  /-- a probe has been acknowledged (R71) -/
  probeAcked : Bool := false
  ends : Ends := { v6 := false, peer := 0, port := 0, north := 0 }
  deriving DecidableEq, Repr

/-- A frame sent and not yet acknowledged (R65): its path, when it was sent, what it carried, its RTO expiries. -/
structure SentFrame where
  path : Nat
  at' : Nat
  typ : Nat
  flags : Nat
  stream : Nat
  word : Nat
  payload : List Byte
  retx : Bool
  deriving DecidableEq, Repr

/-- The state of a session (Table 2-4; LISTEN is absence). -/
inductive SessState where
  | authWait | established | closed
  deriving DecidableEq, Repr

/-- A session (R58 to R71). -/
structure Session where
  state : SessState
  random : Nat
  features : Nat
  client : Nat
  rxKey : Nat
  txKey : Nat
  rxSalt : Nat
  txSalt : Nat
  prevKey : Option (Nat × Nat)
  keyGen : Nat
  th : List Byte
  txPn : Nat
  received : List (Nat × Nat)
  unacked : Nat
  firstUnacked : Option Nat
  sent : Table SentFrame
  auth : List (Nat × List Byte)
  helloAt : Nat
  lastFrame : Nat
  lastSent : Nat
  closedAt : Option Nat
  closeSent : Bool
  epochs : List Nat
  wantEpochs : List Nat
  paths : Table Path
  handles : List Nat
  /-- the SERVER_HELLO and AUTH payloads, for a repeated CLIENT_HELLO (Table 2-4) -/
  hello : List Byte
  ownAuth : List Byte
  /-- the keys are erased (Table 2-4) -/
  erased : Bool
  /-- the generation of the device's own key (R59) -/
  txGen : Nat
  deriving DecidableEq, Repr

/-- A CLIENT_HELLO whose second segment has not come (R52). -/
structure HalfHello where
  at' : Nat
  bytes : List Byte
  deriving DecidableEq, Repr

/-- The queue engine (chapter 02). Sessions by ID, queues by number, objects by object ID, extents by object ID × 2^32 + index;
half-received hellos by the sender's address and port; what MKA installed by MAC (R44); the contexts in the on-die cache, latest use first (R74); counters per namespace {next value, end of the reserved block}. -/
structure QueueEngine where
  sessions : Table Session
  nextSession : Option Nat
  halves : Table HalfHello
  helloTimes : List Nat
  queues : Table Queue
  objects : Table Obj
  extents : Table Extent
  counters : Table (Nat × Nat)
  counterTime : Table Nat
  lastCredit : Nat
  ingestUsed : Nat
  badHeaders : Nat
  tagFails : Nat
  helloDrops : Nat
  badAcks : Nat
  listDrops : Nat
  creditDrops : Nat
  halfDrops : Nat
  macsecDrops : Nat
  macsec : Table MacSec
  cachedCtxs : List Nat
  downMacs : List Nat
  settledObjects : Nat
  /-- bytes taken from clients and bytes restored to them (0x2004) -/
  bytesIn : Nat
  bytesOut : Nat
  deriving DecidableEq, Repr

/-- One channel's regions (Table 4-3), as page numbers of the channel, its DIMMs by position (serial number, bytes), and its retired pages (R158). -/
structure Channel where
  capacity : Nat
  metaPages : Nat
  restoreStart : Nat
  headerStart : Nat
  stagingStart : Nat
  pages : Nat
  dimms : List (Nat × Nat)
  retired : List Nat
  trained : Bool
  calibration : Nat
  prevCalibration : Nat
  deriving DecidableEq, Repr

/-- A page move in progress (R155, R157), of a fragment of an extent or of a repair (`ext` is then the repair's number). -/
structure PageMove where
  channel : Nat
  oldPage : Nat
  newPage : Nat
  repair : Bool
  ext : Nat
  frag : Nat
  deriving DecidableEq, Repr

/-- An item of the metadata region (R142): its channel c and its pages there, those of its mirror on channel c xor 1, and its length. -/
structure MetaItem where
  channel : Nat
  runs : List PageRun
  mirror : List PageRun
  len : Nat
  deriving DecidableEq, Repr

/-- The staging allocator (chapter 04): the channels, those lost since the last main-domain reset (R149), the page moves in progress, the retired
pages kept in flash by channel and DIMM position, with the DIMM's serial number and as pages of the DIMM (R158), per extent the selections of a
regeneration that failed (R152), and the metadata items, extent × 2 for its record and × 2 + 1 for its fragment descriptors (R142). Pages and
slots in use are those that fragments, fetches, items and moves name. -/
structure Staging where
  chans : Table Channel
  lost : List Nat
  moves : List PageMove
  savedRetired : Table (List (Nat × List Nat))
  failedSel : Table (List (List Nat))
  items : Table MetaItem
  /-- hard pages that wait for their extent to be staged or their fragment to be freed: channel and page (R155) -/
  later : List (Nat × Nat)
  deriving DecidableEq, Repr

/-- A media table entry (Table 5-1); CRC is computed when it is read. -/
structure Media where
  shelf : Nat := 0
  tray : Nat := 0
  state : Nat := 0
  removable : Bool := false
  checkedIn : Bool := false
  weight : Nat := 0
  capacity : Nat := 0
  allocated : Nat := 0
  free : Nat := 0
  wear : Nat := 0
  temp : Nat := 0
  fw : Nat := 0
  ft : Nat := 0
  tempTime : Nat := 0
  tagUid : Nat := 0
  changes : Nat := 0
  badCrc : Bool := false
  /-- the UID of the medium's last REPORT entry (R250) -/
  lastUid : Option Nat := none
  deriving DecidableEq, Repr

/-- The power states of Table 5-3. -/
inductive PState where
  | absent | off | waking | on | stopping | fault
  deriving DecidableEq, Repr

/-- The code of a power state (Table 5-2). -/
def PState.code : PState → Nat
  | .absent => 0
  | .off => 1
  | .waking => 2
  | .on => 3
  | .stopping => 4
  | .fault => 5

/-- A shelf table entry (Table 5-2), with the wake held in STOPPING, the wake request's time, when ON was entered, since when it is
idle (R181), the steps of the release from FAULT (Table 5-3), and the restores' wake requests (R179). -/
structure Shelf where
  group : Nat := 0
  pstate : PState := .absent
  enabled : Bool := false
  paths : Nat := 0
  pendingBytes : Nat := 0
  pstateTime : Nat := 0
  badCrc : Bool := false
  wakeHeld : Bool := false
  onSince : Nat := 0
  idleSince : Nat := 0
  wakingAt : Nat := 0
  clearedEnable : Bool := false
  releasing : Bool := false
  deriving DecidableEq, Repr

/-- The Shepherd (chapter 05). `wakes` lists the shelves that restores and repairs need, oldest request first; `due` the time each
unit falls due for test, by kind × 256 + unit; `asked` the pending request {time}; `last` the last completed test. -/
structure Shepherd where
  media : Table Media
  shelves : Table Shelf
  savedMedia : Table Media
  savedShelves : Table Shelf
  wakes : List Nat
  staging : Nat
  restore : Nat
  held : List Nat
  due : Table Nat
  asked : Table Nat
  deferred : List Nat
  overdue : List Nat
  dueAt : Option Nat
  lastSave : Nat
  ignoredReports : Nat
  hashPool : List Nat
  admittedIngest : Nat
  admittedRestore : Nat
  /-- MB/s that the sponge cores hash at the admitted rates (R186), and the night before which a core pair's test is not asked again (R187) -/
  admittedHash : Nat := 0
  notBefore : Table Nat := []
  /-- cartridge UIDs that wait for their medium, oldest first, with their time (R516) -/
  pendingTags : List (Nat × Nat)
  deriving DecidableEq, Repr

/-- A closed manifest epoch (R203 to R219): its kind, times, leaves (the extent record and its hash), header, root, signing and
verifying groups, the cores that took part in its failed signatures, its signature, and whether it is verified and released. -/
structure Epoch where
  notarised : Option Nat
  openTime : Nat
  closeTime : Nat
  leaves : List (Nat × List Byte)
  /-- the leaf hashes in leaf order -/
  hashes : List Nat
  header : List Byte
  root : Nat
  group : List Nat
  vgroup : List Nat
  spent : List Nat
  failures : Nat
  signature : Option Nat
  released : Bool
  logged : Bool
  deriving DecidableEq, Repr

/-- The Pack (chapter 06). Sponge-core states by core; `jobs` the fragments in progress per core; the open regular epoch; the
notarised objects that wait for a group; the closed epochs by number. -/
structure Pack where
  state : Table UnitState
  tests : Table TestReason
  mismatches : Table (List Nat)
  signing : List Nat
  slotOpen : Option Nat
  leaves : List (Nat × List Byte)
  /-- the slot length in force, in microseconds (R205) -/
  slotLen : Nat
  notarisedWaiting : List Nat
  epochs : Table Epoch
  nextEpoch : Nat
  blockEnd : Nat
  prevRoot : Nat
  genesis : Bool
  gap : Bool
  logHeaders : List (List Byte)
  stopped : Bool
  attestTimes : List Nat
  /-- the signing and the verifying group of the last attestation report (R217, R227) -/
  attestGroups : List Nat × List Nat
  deriving DecidableEq, Repr

/-- A DATA flit sent and not acknowledged (R232), with how often it was resent. -/
structure SentFlit where
  seq : Nat
  resends : Nat
  bytes : List Byte
  deriving DecidableEq, Repr

/-- A Tether link (R230 to R233): up or in bring-up, the next sequence number, the unacknowledged flits oldest first, the last flit
received in order, NAK, the time ACK last advanced, the time of the last flit sent, and INIT flits received in a row. -/
structure Tether where
  up : Bool
  tx : Nat
  unacked : List SentFlit
  rx : Option Nat
  nak : Bool
  ackAt : Nat
  sentAt : Nat
  inits : Nat
  downAt : Nat
  /-- payloads of DATA flits that wait for room in the window (R232) -/
  backlog : List (List Byte) := []
  /-- the message that the received stream has begun, and the whole messages not yet taken (R231) -/
  partial' : List Byte := []
  inbox : List (List Byte) := []
  /-- codewords sent: an alignment marker goes before every 16,384th (R230) -/
  codewords : Nat := 0
  deriving DecidableEq, Repr

/-- A message of an association not yet acknowledged (R239). -/
structure SouthMsg where
  path : Nat
  at' : Nat
  typ : Nat
  flags : Nat
  xid : Nat
  word : Nat
  payload : List Byte
  retx : Bool
  deriving DecidableEq, Repr

/-- What a GET, CAT_GET or LIST works for: a fragment of a restore, of a regeneration (R154), of a repair; an index block; the record
copies that name a medium to repair; the record copies of a rebuild. -/
inductive FetchFor where
  | restore (handle idx : Nat)
  | regen (ext : Nat)
  | repair (n : Nat)
  | block (key copy : Nat)
  | names (media : Nat)
  | rebuild
  deriving DecidableEq, Repr

/-- A request in progress: what it works for, the fragment, the medium and shelf asked, when it was sent, and what has come of its
answer stream. -/
structure Fetch where
  job : FetchFor
  op : Nat
  request : List Byte
  frag : Nat
  media : Nat
  shelf : Nat
  sent : Bool
  sentAt : Nat
  begun : Bool
  parts : List (Nat × List Byte)
  endAt : Option Nat
  channel : Nat
  runs : List PageRun
  deriving DecidableEq, Repr

/-- An association with a shelf (R237 to R240). -/
structure Assoc where
  complete : Bool
  random : Nat
  rxKey : Nat
  txKey : Nat
  rxSalt : Nat
  txSalt : Nat
  prevKey : Option (Nat × Nat)
  keyGen : Nat
  th : List Byte
  txSeq : Nat
  received : List (Nat × Nat)
  sent : Table SouthMsg
  auth : List (Nat × List Byte)
  at' : Nat
  typicalMs : Nat
  expectedMs : Nat
  lastAccepted : Nat
  unacked : Nat := 0
  firstUnacked : Option Nat := none
  limit : Nat
  used : Nat
  paths : Table Path
  nextXid : Nat
  txGen : Nat := 0
  deriving DecidableEq, Repr

/-- A catalogue directory entry (Table 7-8) with the version being written: the copies that have returned DURABLE and those that
have not (R259). Keyed by kind × 2^64 + group or run. -/
structure Catalogue where
  media : List Nat
  gapless : Bool
  version : Nat
  length : Nat
  writing : Option Nat
  waiting : Bool
  targets : List (Nat × Nat × Bool)
  body : List Byte
  writtenAt : Nat
  dirtySince : Option Nat
  deriving DecidableEq, Repr

/-- A locator of the manifest index (Table 7-9): epoch, leaf, and the record. -/
structure Locator where
  epoch : Nat
  leaf : Nat
  record : List Byte
  deriving DecidableEq, Repr

/-- An extent of a restore (R264 to R268): the record it follows, the candidates left to fetch, the fetches in the buffers, the
payloads available, the fragments used in failed selections, its ranges and the plaintext once the tag has passed. -/
structure RestoreExt where
  idx : Nat
  record : List Byte
  candidates : List Nat
  issued : Nat
  available : Table FetchedFrag
  bad : List Nat
  failedSel : List Nat
  retries : Nat
  selection : List Nat
  ranges : List RangeRec
  lead : Nat
  plain : Table (List Byte)
  verified : Bool
  taken : Bool
  start : Option Nat
  /-- the extent stands in staging and has no settled record (R94) -/
  staged : Bool := false
  deriving DecidableEq, Repr

/-- A restore (R93, R263): its session and handle number, the object, the range asked, the credit, what has been sent and
acknowledged, when it last made progress, and whether it is held for buffers (R637). -/
structure Restore where
  session : Nat
  handle : Nat
  obj : Nat
  from' : Nat
  upTo : Nat
  credit : Nat
  sent : Nat
  acked : Nat
  progress : Nat
  held : Bool
  exts : List RestoreExt
  k : Nat
  m : Nat
  ext : Nat
  epoch : Nat
  slot : Nat
  /-- RESTORE_END OK has gone out, and plaintext waits for its acknowledgement (R95) -/
  ended : Bool := false
  deriving DecidableEq, Repr

/-- The repair of one extent (R271 to R273): the medium left, whether it is an evacuation, the locator's record, the fragments to
replace, the survivors' candidates still to fetch and the payloads obtained, the new fragments, the media that hold the new record,
and whether it has settled. -/
structure Repair where
  media : Nat
  evacuate : Bool
  record : List Byte
  missing : List Nat
  candidates : List Nat
  available : Table FetchedFrag
  frags : Table Fragment
  newRecord : Option (List Byte)
  acked : List Nat
  hasLeaf : Bool
  failedSel : List Nat := []
  sealTime : Nat := 0
  unrecoverable : Bool := false
  deriving DecidableEq, Repr

/-- The requests that read the catalogue (R91, R92, R263). -/
inductive ReqKind where
  | restore | receipt | epoch
  deriving DecidableEq, Repr

/-- A request that waits for an index block or a segment run (R262, R263): a RESTORE_REQ with its offset and length, a RECEIPT_GET, or
an EPOCH_GET, whose number stands in `obj`. -/
structure WaitingReq where
  kind : ReqKind
  session : Nat
  tag : Nat
  obj : Nat
  offset : Nat
  length : Nat
  deriving DecidableEq, Repr

/-- The south side (chapter 07). -/
structure South where
  modes : List Nat
  tethers : Table Tether
  upPorts : List Nat
  assocs : Table Assoc
  pendingAssoc : Table Assoc
  fetches : Table Fetch
  catalogue : Table Catalogue
  locators : Table Locator
  restores : Table Restore
  repairs : Table Repair
  nextRepair : Nat
  evacuating : List Nat
  /-- the shutdown marker stands in the flash store (R611) -/
  shutMarker : Bool
  /-- the catalogue is to be rebuilt (R262) -/
  rebuildDue : Bool
  rebuild : Option (List Nat)
  rebuilt : Table (List Byte × List Nat)
  discarded : Nat
  badMsgs : Nat
  /-- when repair may issue its next fetch under REPAIR_PCT (R275) -/
  repairFreeAt : Nat := 0
  /-- index blocks and segment runs held in the caches (R214, R261), by their directory key -/
  cached : List Nat
  /-- RESTORE_REQ, RECEIPT_GET and EPOCH_GET commands that wait for an index block or a rebuild, oldest first -/
  waiting : List WaitingReq
  /-- PUTs whose fragment has left the record that they carried, by shelf × 2^64 + XID: the fragment key for their DELETE (R254) -/
  stale : Table (List Byte)
  /-- the south addresses that the operator assigns to each port (R234): port, IP version 6 or 4, address -/
  addrs : List (Nat × Bool × Nat)
  deriving DecidableEq, Repr

end Sys2Proof.Machine
end

