-- ==== Sys2Proof/Machine/TypesAwl.lean ====
section
/-! DEFINITION. Types of the Awl units and their dispatcher (chapter 09). -/

namespace Sys2Proof.Machine

/-- The fields of a descriptor that firmware writes and the LGE9120 reads (Table 9-1), and whether a reserved one is nonzero. -/
structure AwlDesc where
  opcode : Nat
  param : Nat
  flags : Nat
  nwords : Nat
  dstUse : Nat
  srcSlot : Nat
  dstSlot : Nat
  inLen : Nat
  inAddr : Nat
  outAddr : Nat
  outLen : Nat
  dirty : Bool
  deriving DecidableEq, Repr

/-- A descriptor in work: its ring index, its fields and input, whether it has been re-issued, and the units whose signature of it failed
verification (R337). -/
structure AwlJob where
  index : Nat
  desc : AwlDesc
  input : List Byte
  reissued : Bool
  failed : List Nat
  deriving DecidableEq, Repr

/-- What a command computes: its status and reason (Table 9-6), verdict, output bytes, the value for DST_SLOT, and its cycles. -/
structure AwlResult where
  status : Nat
  reason : Nat
  verdict : Bool
  out : List Byte
  store : Option Nat
  cycles : Nat
  deriving DecidableEq, Repr

/-- How far a run is: computing; a signature that waits for a verifying unit, is with unit `v`, or is checked by its own signer (R336); DONE, and
whether an abort came after that (R341). -/
inductive AwlStage where
  | running
  | signed (r : AwlResult)
  | verifying (r : AwlResult) (v : Nat)
  | selfCheck (r : AwlResult)
  | done (r : AwlResult) (sameUnit : Bool) (late : Bool)
  deriving DecidableEq, Repr

/-- What a unit holds: a descriptor's run, or the verification of a signer's signature. -/
inductive AwlRun where
  | job (j : AwlJob) (stage : AwlStage)
  | check (signer : Nat)
  deriving DecidableEq, Repr

/-- A word of an Awl unit's operand memory: 64 data bits, and the seven check bits of each 32-bit half (R328, R412). -/
structure OpWord where
  data : Nat
  codeLo : Nat
  codeHi : Nat
  deriving DecidableEq, Repr

/-- The Awl dispatcher and units (chapter 09): descriptors fetched and not started, the units' runs, the ring indices fetched or aborted before
their fetch and not yet passed by DONE with whether they have completed, completions not yet counted by AWL_DONE with the time of the first,
mismatch times, tests to end, the base and the size of the ring in force, and the operand memories by unit × 8,192 + word, an unlisted word
holding zeros (R328). -/
structure Awl where
  fetched : List AwlJob
  runs : Table AwlRun
  fetchedIdx : List (Nat × Bool)
  abortedIdx : List Nat
  irqs : Nat
  irqFirst : Nat
  mismatches : Table (List Nat)
  tests : Table TestReason
  base : Nat
  sizeLog : Nat
  operand : Table OpWord
  deriving DecidableEq, Repr

end Sys2Proof.Machine
end

