-- ==== Sys2Proof/Machine/TypesKeys.lean ====
section
/-! DEFINITION. Types of the Saddlebag, the key store, the vault key, escrow and the custody operations (chapter 08). -/

namespace Sys2Proof.Machine

/-- A key slot (R279): its 256-bit value and its 64-bit attributes (Table 8-3). An empty slot is not listed. -/
structure KeySlot where
  value : Nat
  attr : Nat
  deriving DecidableEq, Repr

/-- A key-store record (Table 8-6), with its BLOB as what it wraps: the slot's value, and the key it is wrapped under (R294, R295). -/
structure KeyRecord where
  fuse : Bool
  sysSlot : Nat
  ns : Nat
  epoch : Nat
  gen : Nat
  attr : Nat
  value : Nat
  under : Nat
  deriving DecidableEq, Repr

/-- A vault bank of the Kennel (Table 8-1): the vault key and its generation. -/
structure VaultBank where
  key : Nat
  gen : Nat
  deriving DecidableEq, Repr

/-- A share envelope (Table 8-9) with the badge and index it is for. -/
structure Envelope where
  index : Nat
  badge : Nat
  bytes : List Byte
  deriving DecidableEq, Repr

/-- A badge that has authenticated (R306): its key ID and its X25519 and ML-KEM-1024 public keys. -/
structure Badge where
  keyId : Nat
  x25519 : Nat
  mlkem : List Byte
  deriving DecidableEq, Repr

/-- An escrow set (R313). -/
structure EscrowSet where
  id : Nat
  gen : Nat
  t : Nat
  n : Nat
  vcv : Nat
  envelopes : List Envelope
  badges : List Badge
  deriving DecidableEq, Repr

/-- The custody operations (Table 8-8). -/
inductive CustodyKind where
  | enroll | escrowCreate | vaultRestore | vaultRotate | nsDestroy | manifestKeyChange | ownerRelease | nsCreate | nsRotate
  deriving DecidableEq, Repr

/-- The custody operation in progress (R309): its Smilia session, when it started, the set it names, t and n of a new set, its
namespace, the badges of the live set that have authenticated, the new badges, and the transient slots it has filled. -/
structure CustodyOp where
  kind : CustodyKind
  session : Nat
  start : Nat
  set : Nat
  t : Nat
  n : Nat
  ns : Nat
  live : List Nat
  fresh : List Badge
  filled : List Nat
  deriving DecidableEq, Repr

/-- The Saddlebag (chapter 08). `current` gives each namespace's current key epoch and slot, `resident` the slot and last use of each
resident namespace key by namespace × 2^32 + epoch (R286). -/
structure Saddlebag where
  slots : Table KeySlot
  current : Table (Nat × Nat)
  resident : Table (Nat × Nat)
  /-- the current key epoch of each existing namespace, as the flash journal holds it (R285, R288) -/
  nsEpoch : Table Nat
  /-- the device's certificate chain as it sends it, leaf first (R56, R301) -/
  chain : List (List Byte)
  /-- the key store in flash (R296), by SEQ, and the next SEQ -/
  store : Table KeyRecord
  nextSeq : Nat
  /-- the two vault banks and which is active (R297, R316) -/
  bankA : Option VaultBank
  bankB : Option VaultBank
  activeB : Bool
  /-- an uncommitted rotation (R316) -/
  rotating : Bool
  /-- the key IDs burned in the owner fuse rows (R302), oldest first, and whether an owner is enrolled -/
  ownerRows : List Nat
  enrolled : Bool
  /-- the escrow sets (R313) -/
  live : Option EscrowSet
  pendingSet : Option EscrowSet
  nextEscrow : Nat
  custody : Option CustodyOp
  /-- how the last custody operation ended (Table 8-11's codes) -/
  lastOutcome : Nat
  /-- lost macros of each bank (R284) -/
  lostMacros : Table (List Nat)
  /-- DRBG requests since the last reseed and its time (R300) -/
  drbgRequests : Nat
  drbgAt : Nat
  enrollNonce : Nat
  deriving DecidableEq, Repr

end Sys2Proof.Machine
end

