-- ==== Sys2Proof/Machine/TypesPair.lean ====
section
/-! DEFINITION. Types of the core pairs (chapters 10 and 11): their registers, multiplier queue, gate frames, translations and interrupts. -/

namespace Sys2Proof.Machine

/-- A core pair and a general register, by number (R345). -/
abbrev PairId := Fin 16
abbrev RegId := Fin 32

/-- The addressing modes of format M (Table 10-3). -/
inductive AddrMode where
  | disp (d : BitVec 14)
  | index (rb : RegId) (sh : BitVec 2)
  | postInc (step : BitVec 14)
  | preDec (step : BitVec 14)
  deriving DecidableEq, Repr

/-- A multiplier instruction in the queue: its completion cycle and the 128 bits that it writes into MHI:MLO (R359). -/
structure MulEntry where
  done : Nat
  value : BitVec 128
  deriving DecidableEq, Repr

/-- A frame of the gate return stack: the address after GATE, the caller's STATUS and its g31 (R401). -/
structure GateFrame where
  pc : Word
  status : Word
  sp : Word
  deriving DecidableEq, Repr

/-- A TLB entry (R379): its world, its ASID, its page table entry, the virtual page and the size of the page (log2 of bytes). -/
structure TlbEntry where
  world : World
  asid : BitVec 16
  entry : Nat
  page : Nat
  size : Nat
  deriving DecidableEq, Repr

/-- The special registers of which each world has its own copy (Table 10-1), and its ASID (R382). -/
structure WorldRegs where
  estatus : Word
  epc : Word
  cause : Word
  cause2 : Word
  badaddr : Word
  entry : Word
  timecmp : Word
  asid : BitVec 16
  deriving DecidableEq, Repr

/-- A core pair as software sees it (R345), and its hidden state. `pc` keeps the upper bits of its target for the check of R354. `cycle` counts
the CLK_CORE cycles since the pair's reset; `imAt` and `keeperAt` are the cycles at which IM was last set and Keeper world last entered (R400);
`mulLast` is the completion cycle of the last multiplier instruction (R359);
`mismatchAt` is the time and the cycle of the last lockstep mismatch (R407). -/
structure Pair where
  g : Vector Word 32
  pc : Word
  im : Bool
  sup : Bool
  world : World
  keeper : WorldRegs
  tack : WorldRegs
  estack : Word
  mlo : Word
  mhi : Word
  cycle : Nat
  mul : List MulEntry
  mulLast : Nat
  frames : List GateFrame
  tlb : List TlbEntry
  waiting : Bool
  imAt : Nat
  keeperAt : Nat
  mismatchAt : Option (Nat × Nat)
  shadowLost : Bool
  save : List Byte
  testing : Option TestReason
  deriving DecidableEq, Repr

/-- A claimed source: its number, the pair and world that claimed it, and the priority it was claimed at (R397). -/
structure Claim where
  source : Nat
  pair : Nat
  world : World
  prio : Nat
  deriving DecidableEq, Repr

/-- The core pairs, the lines they hold reserved by pair (R358), and the claimed interrupts. -/
structure Cores where
  pairs : Vector Pair 16
  reserved : Table Nat
  claims : List Claim
  deriving DecidableEq, Repr

/-- The per-world registers after a core pair reset (Table 10-1). -/
def WorldRegs.reset : WorldRegs :=
  { estatus := 0, epc := 0, cause := 0, cause2 := 0, badaddr := 0, entry := 0, timecmp := BitVec.allOnes 64, asid := 0 }

/-- A pair after a core pair reset (R346, R380): KS at the boot ROM, ESTACK as the boot ROM sets it (R411). -/
def Pair.reset (p : Nat) : Pair :=
  { g := Vector.replicate 32 0, pc := 0, im := true, sup := true, world := .keeper, keeper := WorldRegs.reset, tack := WorldRegs.reset,
    estack := BitVec.ofNat 64 (0x801000 + 0x10000 * p), mlo := 0, mhi := 0, cycle := 0, mul := [], mulLast := 0, frames := [], tlb := [],
    waiting := false, imAt := 0, keeperAt := 0, mismatchAt := none, shadowLost := false, save := [], testing := none }

/-- The cores after reset. -/
def Cores.reset : Cores := { pairs := Vector.ofFn (fun p => Pair.reset p.val), reserved := [], claims := [] }

end Sys2Proof.Machine
end

