-- ==== Sys2Proof/Machine/TypesChip.lean ====
section
/-! DEFINITION. Types of the flash, the boot and the chip's own state (chapters 13 and 20). -/

namespace Sys2Proof.Machine

/-- A physical block of the flash die (R438 to R443): its partition and mode while in use, whether it lies erased in a free pool, whether
it is retired or pinned, its erase count, its next unprogrammed page, its reads since it was programmed, and the times of its programming
and of its last scrub. -/
structure FlashBlock where
  part : Nat := 255
  slc : Bool := true
  free : Bool := true
  retired : Bool := false
  pinned : Bool := false
  erases : Nat := 0
  nextPage : Nat := 0
  reads : Nat := 0
  since : Nat := 0
  scrubbed : Nat := 0
  deriving DecidableEq, Repr

/-- A boot pointer record (Table 13-9); a CARRY keeps the type of the state it repeats. -/
structure PtrRec where
  carry : Bool
  typ : Nat
  twin : Nat
  attempts : Nat
  prev : Nat
  gen : Nat
  version : Nat
  svn : Nat
  hash : Nat
  deriving DecidableEq, Repr

/-- The flash controller (chapter 13): the bytes of the die by physical byte number, blocks by LUN × 4,096 + block, the logical map by
sector, the block being filled of each partition, open erase intents (block and journal SEQ), the 64-byte journal records and the pointer records
newest first, the pointer records in the in-use block, and the sectors marked for refresh. -/
structure Flash where
  cells : List Host.Cell
  blocks : Table FlashBlock
  map : Table Nat
  filling : Table Nat
  intents : List (Nat × Nat)
  journal : List (List Byte)
  nextSeq : Nat
  pointers : List PtrRec
  ptrUsed : Nat
  marked : List Nat
  deriving DecidableEq, Repr

/-- The fields of a boot image header (Table 13-8). -/
structure ImageHead where
  version : Nat
  svn : Nat
  len : Nat
  entry : Nat
  hash : Nat
  raiseSvn : Bool
  signer : List Byte
  deriving DecidableEq, Repr

/-- The watch over Tj for one of THERM_WARN and THERM_CRIT (R591): whether it is armed, samples in a row at or above its threshold, and since when
Tj has been 5 °C below it. -/
structure ThermWatch where
  armed : Bool
  high : Nat
  coolSince : Option Nat
  deriving DecidableEq, Repr

/-- The telemetry engine and the Burnisher beyond their registers (chapter 19): the last sample's sensor readings in m°C, the sensors excluded and
the valid samples each has had since, the offsets of sensor calibration in m°C, rails in mV, POWER_MW and CORE_MW, DIMM temperatures in m°C and
those at the last training by channel × 2 + DIMM, the watches, the times of the last sample and of the last Kennel reading, the last trim counts in
0.1 ppm, and the blocks that have a REFRESH_HELD record. -/
structure Telemetry where
  temps : List Int
  excluded : Table Nat
  offsets : Table Int
  rails : List Nat
  power : Nat
  core : Nat
  dimms : Table Int
  trained : Table Int
  warn : ThermWatch
  crit : ThermWatch
  last : Nat
  kennelAt : Nat
  trims : List Int
  refreshHeld : List Nat
  deriving DecidableEq, Repr

/-- One sample as the sensors give it (R589): the 64 die sensors in m°C, the eight rails in mV and mA, the DIMM sensors in m°C by channel × 2 +
DIMM, VBAT and VKEEP in mV. -/
structure Sample where
  temps : List Int
  rails : List Nat
  amps : List Nat
  dimms : List (Nat × Int)
  vbat : Nat
  vkeep : Nat
  deriving DecidableEq, Repr

end Sys2Proof.Machine
end

