-- ==== Sys2Proof/Machine/TypesPhys.lean ====
section
/-! DEFINITION. Types of the Kennel, the contactless reader, the Collar, the panel and the service card slot (chapters 15 to 17). -/

namespace Sys2Proof.Machine

/-- What the Kennel measures as an event falls: its die temperature in °C, VBAT and VKEEP in mV. -/
structure Reading where
  temp : Int
  vbat : Nat
  vkeep : Nat
  deriving DecidableEq, Repr

/-- A Kennel event record (Table 15-5). -/
structure KennelRec where
  seq : Nat
  event : Nat
  resp : Nat
  supply : Nat
  mainOn : Bool
  rtcValid : Bool
  vbat : Nat
  secs : Nat
  temp : Int
  deriving DecidableEq, Repr

/-- The Kennel beyond its registers (R482): whether it is DEAD, its queue of event records oldest first, the records the Collar has not
taken yet, the slew still to apply to the RTC in nanoseconds, a CELL_LOW not yet reported, and the time of the last sensor-log entry. -/
structure Kennel where
  dead : Bool
  queue : List KennelRec
  toCollar : List KennelRec
  slew : Int
  lowSeen : Bool
  lastLog : Nat
  deriving DecidableEq, Repr

/-- A copy of the Collar's security block (Table 16-6): POLICY, SET, the three TRIES and the three passwords. -/
structure SecBlock where
  gen : Nat
  policy : Nat
  set : Nat
  tries : List Nat
  pw : List (List Byte)
  deriving DecidableEq, Repr

/-- A Collar record (Table 16-7). -/
structure CollarRec where
  cseq : Nat
  typ : Nat
  body : List Byte
  time : Nat
  deriving DecidableEq, Repr

/-- One ring of Collar records: its valid records by slot. A slot not listed is invalid. -/
structure CollarRing where
  slots : Nat
  recs : Table CollarRec
  deriving DecidableEq, Repr

/-- A field session of the Collar (R527): whether its AID is selected, the passwords verified, and the time of the last command. -/
structure FieldSession where
  selected : Bool
  verified : List Nat
  last : Nat
  deriving DecidableEq, Repr

/-- The Collar (R517 to R527): its domain is powered by a field and scanned, its UID of this power-up, the two security copies (none for one that
is not valid), the rings, the session, a core operation turned away while a session was open, and the notes that wait for it to close. -/
structure Collar where
  scanned : Bool
  uid : Nat
  copyA : Option SecBlock
  copyB : Option SecBlock
  custody : CollarRing
  sensor : CollarRing
  session : Option FieldSession
  turned : Bool
  notes : List (Nat × List Byte)
  deriving DecidableEq, Repr

/-- A card in the reader's field: its UID or PUPI bytes in the order received, Type B, ISO-DEP, whether it answers a SELECT of the badge
application, and the highest rate it takes, coded as NFC_CTRL.RATE_MAX. -/
structure Card where
  uid : List Byte
  typeB : Bool
  isoDep : Bool
  badge : Bool
  rate : Nat
  deriving DecidableEq, Repr

/-- How a card answers an APDU (R514): not in time, not by the protocol, or with data, SW1 and SW2. -/
inductive CardAnswer where
  | timeout | protocol | data (bytes : List Byte) (sw1 sw2 : Nat)
  deriving DecidableEq, Repr

/-- M1 as sent (R306): its bytes, the ephemeral X25519 private key and the ephemeral ML-KEM seed. -/
structure BadgeHello where
  bytes : List Byte
  x25519 : Nat
  kem : Nat
  deriving DecidableEq, Repr

/-- What the reader does: nothing or detection pings, a carrier without a card, a card selected, held back by an external field, stopped. -/
inductive ReaderMode where
  | idle | carrier | active | extField | fault
  deriving DecidableEq, Repr

/-- The contactless reader beyond its registers: its mode, the selected card, whether ISO-DEP has been activated on it, the cards served since
the loop began and those halted, the UIDs tapped and not yet found absent, the time of the last command or tap, the last pings that found no card
(amplitude and phase in thousandths of a degree), M1 as sent to a badge, and the session keys with it (R306). -/
structure Reader where
  mode : ReaderMode
  card : Option Card
  active : Bool
  served : Nat
  halted : List (List Byte)
  tapped : List (List Byte)
  last : Nat
  pings : List (Nat × Int)
  hello : Option BadgeHello
  keys : Option (Nat × Nat)
  deriving DecidableEq, Repr

/-- The panel beyond its registers (R528 to R531): the times of the presses being held, buttons not released since they stuck, and the
presence presses that count and are not consumed, newest first, as times of the model's clock. -/
structure Panel where
  presAt : Option Nat
  servAt : Option Nat
  presBlocked : Bool
  servBlocked : Bool
  presses : List Nat
  deriving DecidableEq, Repr

/-- What INIT finds on a card (R533 to R535): whether it answers, is SDHC or SDXC, is locked, sets S18A and completes the voltage switch,
allows 4 bits; the modes it reports, the modes whose check, switch and verify pass, the modes whose tuning fails, and its blocks. -/
structure SdFacts where
  answers : Bool
  supported : Bool
  locked : Bool
  s18a : Bool
  switchOk : Bool
  width4 : Bool
  reported : List Nat
  switches : List Nat
  untuned : List Nat
  blocks : Nat
  deriving DecidableEq, Repr

/-- How a card's operation goes (R536, R537): to its end after a number of CRC repeats, to a CRC failure, to the card's own error, or it is
still under way. -/
inductive SdEnd where
  | ok (repeats : Nat) | crc | cardError | goesOn
  deriving DecidableEq, Repr

/-- What an operation of the slot that a removal interrupts had done (R541): nothing written, all of its busy periods ended, or neither. -/
inductive SdStage where
  | nothing | done | torn
  deriving DecidableEq, Repr

/-- A bundle as WALK reads it (R544): its header block, its commit block, and SHAKE256 over its blocks. -/
structure BundleSeen where
  header : List Byte
  commit : List Byte
  hash : Nat
  deriving DecidableEq, Repr

/-- The SD host beyond its registers: the time of its last command, the time card power went off, the card's blocks, and the operation under
way by OP. -/
structure SdHost where
  last : Nat
  offAt : Option Nat
  blocks : Nat
  running : Option Nat
  deriving DecidableEq, Repr

/-- A run of self-tests by command (R613): the units still to test, those under test with the time their test began, the units tested, failed and
aborted, and the records so far. A unit is named by its kind's code and its number. -/
structure TestRun where
  waiting : List (Nat × Nat)
  running : List ((Nat × Nat) × Nat)
  tested : Nat
  failed : Nat
  aborted : Nat
  records : List Byte
  deriving DecidableEq, Repr

/-- Where SHUTDOWN stands (R611): not asked for, running since a time, or past SHUT_S. -/
inductive ShutPhase where
  | off | running (start : Nat) | late
  deriving DecidableEq, Repr

/-- The chip (chapters 13 and 20): PWR_OK, a main-domain reset held for a lost clock, whether Keeper code runs, a boot that failed, the
header of the image booted, the debug nonce, when each open scope ends (TIME64 by scope bit) and whether Keeper scope keeps the vault key locked, the watchdog's
last kick, the TAP's instruction, pins and samples, the run of self-tests by command and the records of the last one, SHUTDOWN's progress, and the
regulator's writes in a row without an acknowledgement. -/
structure Chip where
  powerOk : Bool
  held : Bool
  booted : Bool
  bootFailed : Bool
  image : ImageHead
  nonce : List Byte
  notAfter : Table Nat
  debugLock : Bool
  kicked : Nat
  tapIr : Nat
  tapHighz : Bool
  tapPins : Nat
  tapSamples : Nat
  testRun : Option TestRun
  testResults : List Byte
  shut : ShutPhase
  avsFails : Nat
  deriving DecidableEq, Repr

end Sys2Proof.Machine
end

