-- ==== Sys2Proof/Machine/TypesSmilia.lean ====
section
/-! DEFINITION. Types of Smilia, its sessions, handles and subscriptions (chapter 18). -/

namespace Sys2Proof.Machine

/-- A message in reassembly (R552): the time of its first segment, its segments, and its end once LAST has come. -/
structure SmlBuf where
  since : Nat
  parts : List (Nat × List Byte)
  endAt : Option Nat
  deriving DecidableEq, Repr

/-- A snapshot of a DOMAIN entry under a read handle (R566). -/
structure SmlRead where
  idx : Nat
  sub : Nat
  content : List Byte
  lastUse : Nat
  deriving DecidableEq, Repr

/-- A write handle (R567): its session, its entry, the total length, the data placed so far, and its last use. -/
structure SmlWrite where
  session : Nat
  idx : Nat
  sub : Nat
  total : Nat
  parts : List (Nat × List Byte)
  lastUse : Nat
  deriving DecidableEq, Repr

/-- A subscription (R568): its entry (subindex 0xFF: every one), its minimum interval in ms, the time of its last NOTIFY, the value last seen of each
subindex, and the subindices whose change is held with the Trail number of it. -/
structure SmlSub where
  idx : Nat
  sub : Nat
  interval : Nat
  lastSent : Option Nat
  seen : Table (List Byte)
  held : Table Nat
  deriving DecidableEq, Repr

/-- A NOTIFY that is not yet acknowledged (R569): its number, subscription, payload, the time of its last send, and its resends. -/
structure SmlNote where
  number : Nat
  sub : Nat
  payload : List Byte
  sentAt : Nat
  resends : Nat
  deriving DecidableEq, Repr

/-- A response kept for a repeated REQ (R559): its opcode and payload. -/
structure SmlReply where
  req : Nat
  op : Nat
  payload : List Byte
  deriving DecidableEq, Repr

/-- A Smilia session (R553 to R559): its state and role, its carrier and peer, its keys and numbers, its handshake, the peer's key ID and the time of
establishment, requests in reassembly and answered, read handles, subscriptions and NOTIFYs, and its per-session entries. -/
structure SmlSession where
  state : SessState := .closed
  role : Nat := 0
  raw : Bool := false
  peer : Nat := 0
  /-- what its HELLO travelled in: its carrier and where replies go (R550) -/
  link : SmlNet := .ether 0 0 0
  random : Nat := 0
  rxKey : Nat := 0
  txKey : Nat := 0
  rxSalt : Nat := 0
  txSalt : Nat := 0
  prevKey : Option (Nat × Nat) := none
  keyGen : Nat := 0
  txGen : Nat := 0
  erased : Bool := false
  th : List Byte := []
  txSeq : Nat := 0
  received : List (Nat × Nat) := []
  helloAt : Nat := 0
  lastFrame : Nat := 0
  closedAt : Option Nat := none
  hello : List Byte := []
  ownAuth : List Byte := []
  keyId : Nat := 0
  since : Nat := 0
  topReq : Nat := 0
  bufs : Table SmlBuf := []
  replies : List SmlReply := []
  reads : Table SmlRead := []
  subs : Table SmlSub := []
  notes : List SmlNote := []
  nextNote : Nat := 0
  nsSelect : Nat := 0
  srcSelect : Nat := 0
  cursor : Nat := 0
  report : List Byte := []
  deriving DecidableEq, Repr

/-- Smilia and the management port beyond its registers: sessions by ID and the ID counter, hellos of which one part has come (by sender), the times of
recent HELLOs and of the last SML_HELLO_RATE, write handles, the next handle number, the last status of each CMD entry by its index, the time at which a
new management address takes effect, the addresses in force, the old ones with their end and the sessions that keep them (R548), and the time of
the last minute of VENDOR_WINDOW_MIN. -/
structure Smilia where
  sessions : Table SmlSession
  nextSession : Option Nat
  halves : Table SmlBuf
  helloTimes : List Nat
  lastRate : Option Nat
  writes : Table SmlWrite
  nextHandle : Nat
  status : Table Nat
  pendingAddr : Option Nat
  addr : List Nat
  oldAddr : Option (List Nat × Nat × List Nat)
  vendorTick : Nat
  deriving DecidableEq, Repr

end Sys2Proof.Machine
end

