-- ==== Sys2Proof/Machine/TypesOperand.lean ====
section
/-! DEFINITION. The operands of commands that carry more than numbers: a frame, a message or a card's answer as it arrives. -/

namespace Sys2Proof.Machine

/-- A Seal Transport frame as it arrives in an IP packet (R41 to R48): the MAC it came in by and its SecTAG, the addresses and UDP ports, the
32 bytes of its header (Table 2-1), its payload as the sender's key gives it, and its tag where it has one. -/
structure NorthIn where
  mac : Nat
  sec : Option SecTag
  v6 : Bool
  src : Nat
  dst : Nat
  sport : Nat
  dport : Nat
  header : List Byte
  payload : List Byte
  tag : Option Nat
  deriving DecidableEq, Repr

/-- The IP packet of a Fragment Transport message on an Ethernet port (R234): the addresses and UDP ports. -/
structure SouthNet where
  v6 : Bool
  src : Nat
  dst : Nat
  sport : Nat
  dport : Nat
  deriving DecidableEq, Repr

/-- A Fragment Transport message as it arrives (R234 to R236): the south port, its packet where the port is of an Ethernet mode (none out of a Tether
port's flit stream), the 32 bytes of its header (Table 7-3), its payload, and its tag where it has one. -/
structure SouthIn where
  port : Nat
  net : Option SouthNet
  header : List Byte
  payload : List Byte
  tag : Option Nat
  deriving DecidableEq, Repr

/-- An entry of a REPORT (Table 7-6). -/
structure ReportEntry where
  media : Nat
  state : Nat
  removable : Bool
  wear : Nat
  temp : Nat
  free : Nat
  uid : Nat
  deriving DecidableEq, Repr

/-- What a start-up meets (Table 13-10): the pairs that pass the quick core test, the LUNs that answer, the open intents whose blank check passes,
the twins of which a sector read returns poison (R461), the bundles on a service card with the bytes of each one's first section of TYPE 1 (R463,
R546), the access table that the ROM commits, the Awl units and sponge cores that fail their start-up self-test, whether each reference and the contactless
crystal are valid, the microseconds to the Keeper entry, and the certificate chain that Keeper firmware issues (R301). -/
structure BootIn where
  pairs : List Nat
  luns : Nat
  blank : List Nat
  ue : List Nat
  recovery : List (BundleSeen × List Byte)
  accessTable : List (Nat × AtEntry)
  awlFail : List Nat
  spongeFail : List Nat
  north : Bool
  south : Bool
  crystal : Bool
  us : Nat
  chain : List (List Byte)
  deriving DecidableEq, Repr

/-- A DIMM as its SPD gives it: serial number, bytes, greatest data rate in MT/s. -/
structure Dimm where
  serial : Nat
  bytes : Nat
  rate : Nat
  deriving DecidableEq, Repr

/-- What an entry to SEAL meets (Table 20-6): the channels that pass training with their DIMMs, the units that fail their start-up self-test, the
north MACs and south ports that come up, what MKA installs in the north MACs (R44), the south addresses that the operator assigns to each port (R234:
port, IP version, address), a step that fails for another reason (0: none), and the microseconds it takes. -/
structure SealIn where
  trained : List (Nat × List Dimm)
  stitchFail : List Nat
  spongeFail : List Nat
  awlFail : List Nat
  north : List Nat
  south : List Nat
  mka : Table MacSec
  southAddrs : List (Nat × Bool × Nat)
  failStep : Nat
  us : Nat
  deriving DecidableEq, Repr

/-- A Smilia frame as it arrives (R550, R551): what it travels in, the 28 bytes of its header (Table 18-1), its payload as the sender's key gives it,
and its tag where it has one. -/
structure SmlIn where
  net : SmlNet
  header : List Byte
  payload : List Byte
  tag : Option Nat
  deriving DecidableEq, Repr

/-- A section of a bundle (Table 17-3): its TYPE, the index of the DOMAIN entry it holds (R543 gives it no field), and its bytes. -/
structure BundleSection where
  typ : Nat
  idx : Nat
  bytes : List Byte
  deriving DecidableEq, Repr

/-- What the execution of a request meets outside the block: whether what it saves reaches the flash store (R565), how many signatures of an
attestation report fail verification (R219), the service card's chain as WALK reads it (R544) and how its operation ends, the sections read or to be
written, the public keys of the signers of a debug authorisation, whether a certificate is valid X.509 with
the key it should have, and the certificate that Keeper firmware issues (Table 8-7). -/
structure SmlFacts where
  saved : Bool
  fails : Nat
  seen : List BundleSeen
  sections : List BundleSection
  ended : SdEnd
  signers : List (List Byte)
  certOk : Bool
  cert : List Byte
  deriving DecidableEq, Repr

/-- A badge's M2 (R306): its bytes up to the signature, whether its certificate chains to the custody root and its signature verifies, its key ID, its
X25519 and ML-KEM-1024 public keys, its ephemeral X25519 key, its ciphertext to M1's key, and the encrypted ss_k ‖ ss_x of a restoration with its tag. -/
structure BadgeIn where
  bytes : List Byte
  chainOk : Bool
  sigOk : Bool
  keyId : Nat
  x25519 : Nat
  mlkem : List Byte
  eph : Nat
  kemCt : List Byte
  reply : List Byte
  replyTag : Nat
  deriving DecidableEq, Repr

/-- A debug authorisation as it arrives (R615): its header, the signers' public keys, and its signatures. -/
structure DebugIn where
  header : List Byte
  keys : List (List Byte)
  signatures : List Nat
  deriving DecidableEq, Repr

/-- A frame that the management MAC answers beside Smilia (R547). -/
inductive MgmtAsk where
  | arp | neighbour | icmpEcho | icmpv6Echo
  deriving DecidableEq, Repr

end Sys2Proof.Machine
end

