-- ==== Sys2Proof/Syntax.lean ====
section
/-!
DEFINITION. The commands of the block: one constructor per row of the table of operations and events, with the operands
the row carries. The docstring of a constructor is the row's own summary and its rule.
-/

namespace Sys2Proof

open Sys2Proof.Machine

/-- A command of the block. -/
inductive Instr where
  /-- The two copies of a central unit disagree, and the unit is re-executed from its last compared state. (R13) -/
  | centralRetry (unit : Central)
  /-- A source's arbiter port has held records for more than 100 µs, and TRAIL_BACKLOG is raised. (R19) -/
  | trailBacklog (port : Nat)
  /-- Seal service falls below the seal column of Table 1-8; new opens and extents are refused and draining continues. (R32) -/
  | sealSetLost
  /-- Draining and settling can no longer go on, and the device enters HEEL, keeping DRAM and state under R33. (R32) -/
  | heelAfterDrain
  /-- The missing units return and pass self-test, and SEAL is re-entered by running step 6 of Table 20-6 alone. (R33) -/
  | sealResumption
  /-- A complete CLIENT_HELLO is received, and the device assigns a session, derives keys and sends SERVER_HELLO and AUTH, or sends an unprotected RESET. (R60) -/
  | clientHello (f : NorthIn) (rate : Nat)
  /-- The second segment of a CLIENT_HELLO has not arrived within 100 ms, and the first segment is discarded. (R52) -/
  | clientHelloSegmentTimeout (sender : Nat)
  /-- The client's AUTH is received complete; it is verified (R634, R640) and the session is established or reset. (R60) -/
  | auth (f : NorthIn) (anchors : List Anchor) (admitted : Bool)
  /-- 2 s have passed since SERVER_HELLO without a valid AUTH; the keys are erased and the session closes. (R60) -/
  | authWaitTimeout (session : Nat)
  /-- A KEY_UPDATE is received, and the peer's next receive key is derived. (R59) -/
  | keyUpdate (f : NorthIn)
  /-- 3 × the maximum RTO has passed after a KEY_UPDATE, and the previous receive key is erased. (R59) -/
  | prevKeyErase (link id : Nat)
  /-- A CLOSE is received; open objects are aborted, queues are detached and CLOSE_ACK is sent. (R60) -/
  | close (f : NorthIn)
  /-- A CLOSE_ACK is received for a CLOSE that the device sent. (R60) -/
  | closeAck (f : NorthIn)
  /-- A KEEPALIVE is received and acknowledged. (R64) -/
  | keepalive (f : NorthIn)
  /-- A protected RESET whose tag checks is received, and the session closes. (R62) -/
  | reset (f : NorthIn)
  /-- No frame has arrived on any path for the session idle time-out; open objects are aborted and the session closes. (R60) -/
  | sessionIdleTimeout (session : Nat)
  /-- 3 × the maximum RTO has passed in CLOSED, and the session's resources are released. (R60) -/
  | sessionRelease (session : Nat)
  /-- An ACK is received and validated, and its ranges acknowledge frames. (R64) -/
  | ack (f : NorthIn)
  /-- 10 µs have passed since the first unacknowledged frame, and the device sends an ACK. (R64) -/
  | ackDelayTimer (south : Bool) (id : Nat)
  /-- A frame's RTO expires; the frame is retransmitted and the RTO doubles. (R65) -/
  | rtoExpiry (session pn : Nat)
  /-- The 10 ms reprobe timer of a failed path expires, and PATH_PROBE is sent on it. (R71) -/
  | pathReprobe (south : Bool) (id path : Nat)
  /-- A PATH_PROBE is received or acknowledged, and an acknowledged probe returns the path to use. (R71) -/
  | pathProbe (f : NorthIn) (acknowledged : Bool)
  /-- A PATH_ADD is received from a new address pair, and PATH_CONFIRM is sent on that path. (R68) -/
  | pathAdd (f : NorthIn)
  /-- The fault collector reports a fault of the north lane or port under a path, and within 30 µs the path is marked failed. (R70) -/
  | northPathFault (port : Nat)
  /-- The keepalive idle time passes, and a KEEPALIVE is sent. (R67) -/
  | keepaliveTimer (session : Nat)
  /-- A QUEUE_OPEN is checked against Table 2-11 and answered with QUEUE_OPENED or STATUS. (R73) -/
  | queueOpen (f : NorthIn)
  /-- A QUEUE_CLOSE is refused with OBJECT_OPEN, or answered QUEUE_CLOSED with the queue freed or detached. (R77) -/
  | queueClose (f : NorthIn)
  /-- An OBJ_BEGIN is received, and the device answers OBJ_ID with the object ID, queue sequence and key epoch. (R78) -/
  | objBegin (f : NorthIn)
  /-- A DATA frame is received, and its bytes are placed by offset in the queue's receive list. (R75) -/
  | data (f : NorthIn)
  /-- An OBJ_END is received, and the object ends or is aborted with LENGTH_MISMATCH. (R85) -/
  | objEnd (f : NorthIn)
  /-- An OBJ_ABORT before OBJ_END aborts the object under R87; after OBJ_END it is answered NO_OBJECT. (R88) -/
  | objAbort (f : NorthIn)
  /-- Ingest buffer room and the bounds of R23 and R31 allow it, and a waiting queue's credit limit is raised by one extent. (R82) -/
  | creditGrant (ingest restore : Nat)
  /-- An open object has a partly received extent and no DATA for the queue idle time-out, and it is aborted with STALLED. (R86) -/
  | queueIdleTimeout (queue : Nat)
  /-- The receipt hold of a DETACHED queue expires after its last settled receipt, and the queue returns to FREE. (R76) -/
  | receiptHoldExpiry (queue : Nat)
  /-- A RECEIPT_GET is received; the settled receipt is rebuilt from the manifest index, or NOT_SETTLED or NOT_FOUND is answered. (R92) -/
  | receiptGet (f : NorthIn)
  /-- An EPOCH_GET is received and answered with EPOCH, with EPOCH deferred until release, or with NOT_FOUND or UNRECOVERABLE. (R91) -/
  | epochGet (f : NorthIn)
  /-- A RESTORE_REQ is received, and RESTORE_BEGIN answers it under R263. (R93) -/
  | restoreReq (f : NorthIn)
  /-- A client CREDIT frame naming a restore handle raises that handle's object offset limit. (R93) -/
  | credit (f : NorthIn)
  /-- An extent's tag has verified and credit allows it, and restore DATA is sent in object-offset order. (R94) -/
  | restoreDataSend (handle : Nat)
  /-- A restore handle makes no progress for the restore idle time-out, and it ends STALLED with its buffers freed. (R96) -/
  | restoreIdleTimeout (handle : Nat)
  /-- The first 64 KiB of a range, or the whole of a shorter range, is present, and the range is handed to its stitch unit. (R102) -/
  | rangeHandover (obj idx range : Nat)
  /-- A stitch unit switches context at a block boundary because the next row is absent or a re-run range is waiting. (R113) -/
  | contextSwitch (unit : Nat)
  /-- A stitch unit compare fails; the unit stops, clears its contexts, raises STU_MISMATCH and goes to SUSPECT. (R125) -/
  | stuCompareFail (unit code : Nat)
  /-- A mask generator absorbs 256 fresh TRNG bits at start-up or after 2^16 blocks. (R119) -/
  | maskReseed (unit pipe : Nat)
  /-- A pipeline has stalled 100 µs waiting for reseed material; RESEED_LATE is reported and the range moves to another unit. (R119) -/
  | reseedLate (unit pipe : Nat)
  /-- A plaintext read returns poison; the unit stalls for the rebuild, or stops the range with INPUT_LOST. (R124) -/
  | plaintextPoison (unit : Nat) (rebuilt : Bool)
  /-- Every block and parity chunk of a row passes its compare, and the row is written to staging and offered to the Pack. (R121) -/
  | rowRelease (unit : Nat)
  /-- A range ends; its partial GHASH is compared and sent in shares to the lead unit. (R120) -/
  | rangeDone (unit : Nat)
  /-- The lead unit holds every partial, combines them into the tag and releases it after its compare. (R110) -/
  | tagCombine (obj idx : Nat)
  /-- An unsealed extent's tag is compared with the record; egress plaintext is released, or TAG_FAIL discards it. (R116) -/
  | unsealTagCheck (handle idx : Nat)
  /-- A stitch unit self-test ends, and the unit goes to IDLE or QUARANTINED. (R125) -/
  | stuSelftestDone (unit : Nat) (result : TestEnd) (signature : Nat)
  /-- STU_CTRL.EN is written, taking the unit OFFLINE or running its start-up self-test. (R125) -/
  | stuEnWrite (unit : Nat) (en : Bool)
  /-- STU_CTRL.ST_REQ asks the Shepherd for a self-test of the unit. (R37) -/
  | stReq (unit : Nat)
  /-- STU_CTRL.QREL is written from Keeper world, and a quarantined unit runs self-test. (R125) -/
  | stuQrel (unit : Nat) (world : World)
  /-- At a 10 ms evaluation a due unit's test is granted under R37 and the load condition, and new work to it stops. (R186) -/
  | rollingSelftestGrant (kind : UnitKind) (unit load : Nat)
  /-- The unit has not become IDLE within 20 ms of the test request, and the request is withdrawn. (R126) -/
  | rollingSelftestWithdraw (kind : UnitKind) (unit : Nat)
  /-- A due test is still not granted one interval after it fell due, and SELFTEST_DEFERRED is recorded. (R188) -/
  | selftestDeferred (kind : UnitKind) (unit : Nat)
  /-- A due test is still not granted four intervals after it fell due, and SHP_ST_OVERDUE is raised. (R188) -/
  | shpStOverdue (kind : UnitKind) (unit : Nat)
  /-- A DDR5 controller meets a channel-failure criterion and reports its channel failed. (R418) -/
  | channelFail (channel : Nat)
  /-- The drain reaches a missing fragment, and the missing fragments are decoded from k survivors, hashed and checked. (R152) -/
  | regeneration (obj idx : Nat)
  /-- A candidate channel gains room, and a held regenerated fragment is placed. (R153) -/
  | regenPlaceWait (obj idx : Nat)
  /-- Reads accepted before the run-list switch finish, and the old page is retired. (R157) -/
  | pageMoveDone (channel oldPage : Nat)
  /-- A channel's retraining ends, and held extents and waiting fragments proceed. (R148) -/
  | retrainEnd (channel : Nat)
  /-- An RC field is read, returning its value and then clearing it, with increments of the same cycle kept. (R6) -/
  | rcCounterRead (world : World) (slot off : Nat)
  /-- SHP_MT_CMD READ_MEDIA copies a media entry into SHP_MT_WIN. (R162) -/
  | readMedia (id : Nat)
  /-- SHP_MT_CMD WRITE_MEDIA applies the Tack-owned fields between decisions, saves them to flash and increments MT_GEN. (R163) -/
  | writeMedia (id : Nat) (world : World) (saved : Bool)
  /-- SHP_MT_CMD READ_SHELF copies a shelf entry into SHP_MT_WIN. (R162) -/
  | readShelf (id : Nat)
  /-- SHP_MT_CMD WRITE_SHELF applies a shelf entry and may release a shelf from FAULT. (R163) -/
  | writeShelf (id : Nat) (saved : Bool)
  /-- The Shepherd admits a held extent, allocates its staging and makes a trial placement. (R144) -/
  | extentAdmit (obj idx ingest restore : Nat)
  /-- At a new MT_GEN or every 1 ms, the walk for a held extent is run again. (R175) -/
  | placementRetry (obj idx : Nat)
  /-- An extent's fragment hashes complete; its placement is fixed and written to the record and the headers. (R176) -/
  | placementFix (obj idx : Nat)
  /-- At the 10 ms decision, at most one shelf is chosen to wake, and idle shelves are chosen to stop. (R179) -/
  | wakeDecision
  /-- WAKE_TMO elapses in WAKING; SHP_WAKE_FAIL is raised and the shelf enters FAULT. (R178) -/
  | wakeTimeout (shelf : Nat)
  /-- No south path has served a shelf for 1 s; SHP_SHELF_LOST is raised and the shelf enters FAULT. (R178) -/
  | shelfLost (shelf : Nat)
  /-- Every 10 s, the Shepherd saves its own fields of the media table to flash. (R163) -/
  | shepherdSave
  /-- Every 10 ms, FW and FT are recomputed. (R166) -/
  | factorRecompute
  /-- In the night window, SHP_CORE_ST_REQ names the core pair that is due, and DUE_ACT is set. (R187) -/
  | coreTestRequest (pair load : Nat)
  /-- Tack firmware writes the released pair number, and the pair's test starts once no context is scheduled on it. (R187) -/
  | shpCoreRel (pair : Nat) (scheduled : Bool)
  /-- No release has arrived within 10 s; the request is withdrawn and DUE_ACT is cleared. (R187) -/
  | coreReleaseTimeout
  /-- A write of the high word of SHP_SEED commits the new placement seed. (R169) -/
  | seedCommit (high : Nat) (world : World)
  /-- A sponge core's compare fails; the permutation is retried, or on a second failure the job moves and the core goes SUSPECT. (R191) -/
  | permutationMismatch (core : Nat) (retryPasses : Bool)
  /-- All P bytes of a fragment are absorbed, and its hash is delivered. (R196) -/
  | fragmentHashDone (obj idx frag : Nat)
  /-- A slot ends, and the open epoch closes when it holds a leaf and G + V signing-pool cores are idle. (R203) -/
  | epochSlotEnd
  /-- The first slot boundary of the new PCK_EPOCH_LEN comes, and the open epoch closes. (R205) -/
  | epochLenChange
  /-- A notarised object's last extent has settled and a signing group is free, and its notarised epoch closes. (R207) -/
  | notarisedEpochClose (obj : Nat)
  /-- A signing group finishes an SLH-DSA signature and passes it to its verifying group. (R217) -/
  | epochSignDone (epoch : Nat)
  /-- A verifying group finishes slh_verify; the signature is released, or discarded under R219. (R218) -/
  | epochVerifyDone (epoch : Nat) (pass : Bool)
  /-- A released epoch's header is appended to the manifest log, and its segment is queued for the shelves. (R214) -/
  | manifestLogAppend (epoch : Nat)
  /-- An idle core re-hashes a staged fragment older than AGE, and a mismatch makes the fragment lost. (R197) -/
  | reverifyDue (obj idx frag : Nat)
  /-- A nonce request from Keeper firmware is signed into an attestation report. (R225) -/
  | attestRequest (nonce : List Byte) (fails : Nat)
  /-- PCK_CTRL.QREL is written from Keeper world, and the quarantined core named by QCORE runs self-test. (R192) -/
  | pckQrel (core : Nat) (world : World)
  /-- A sponge core's self-test ends, and the core goes to IDLE or QUARANTINED. (R192) -/
  | pckSelftestDone (core : Nat) (result : TestEnd) (signature : Nat)
  /-- A Tether flit arrives; it is accepted in sequence, or discarded with NAK set. (R232) -/
  | flitReceive (port : Nat) (fec : Bool) (flit : List Byte)
  /-- ACK has not advanced for 2 µs, or a NAK arrives, and the sender resends from the oldest unacknowledged flit. (R232) -/
  | flitResendTimer (port : Nat)
  /-- 0.5 µs have passed since the last flit, and a flit carrying ACK is sent. (R232) -/
  | flitIdleSend (port : Nat)
  /-- A Tether link goes down because a flit was resent 8 times, a lane lost lock or deskew failed. (R233) -/
  | ftLinkDown (port : Nat) (locked : Bool) (skew : Nat)
  /-- The 10 ms bring-up retry of a down Tether link runs lock, deskew and the INIT exchange. (R233) -/
  | tetherBringupRetry (port : Nat) (locked : Bool) (skew : Nat)
  /-- A shelf ANNOUNCE opens an association, answered by ASSOC and AUTH, or by RESET NOT_AVAILABLE. (R237) -/
  | announce (m : SouthIn)
  /-- The shelf's AUTH is received; the association completes against the admission list, or it ends with AUTH_FAILED. (R238) -/
  | ftAuth (m : SouthIn)
  /-- A Fragment Transport KEY_UPDATE is received. (R237) -/
  | ftKeyUpdate (m : SouthIn)
  /-- A protected Fragment Transport RESET is received. (R237) -/
  | ftReset (m : SouthIn)
  /-- 2 s have passed after ASSOC without a completed handshake. (R237) -/
  | ftHandshakeTimeout (shelf : Nat)
  /-- A shelf's PATH_CONFIRM confirms a south path. (R239) -/
  | pathConfirm (m : SouthIn)
  /-- A Fragment Transport PATH_PROBE is received or acknowledged. (R239) -/
  | ftPathProbe (m : SouthIn) (acknowledged : Bool)
  /-- A Fragment Transport ACK is received. (R239) -/
  | ftAck (m : SouthIn)
  /-- A Fragment Transport RTO expires, and the message is retransmitted. (R239) -/
  | ftRtoExpiry (shelf seq : Nat)
  /-- A shelf CREDIT raises the association's byte limit for PUT_DATA and CAT_PUT. (R240) -/
  | ftCredit (m : SouthIn)
  /-- A DURABLE is received and acted on according to its outcome. (R253) -/
  | durable (m : SouthIn)
  /-- No DURABLE has arrived within DURABLE_S; the fragment is resent, or on a second expiry it is re-targeted. (R253) -/
  | durableTimeout (shelf xid : Nat)
  /-- GET_DATA bytes arrive into the restore buffers, and the fragment is checked under R137. (R266) -/
  | getData (m : SouthIn)
  /-- No GET_DATA has begun within GET_MS; the fragment is unavailable and the next candidate is fetched. (R266) -/
  | getTimeout (shelf xid : Nat)
  /-- A POWER_STATE report moves the shelf's PSTATE. (R249) -/
  | powerState (m : SouthIn)
  /-- A REPORT updates the media entries, sets FAILED states and handles tag UIDs. (R250) -/
  | report (m : SouthIn)
  /-- A STATUS is received from a shelf. (R241) -/
  | ftStatus (m : SouthIn)
  /-- For an ON shelf with credit, the next fragment in drain order is sent as PUT_BEGIN and PUT_DATA. (R251) -/
  | drainSend (shelf : Nat)
  /-- A new version of an index block or a segment run is written, on completion or on the 10 s or 1 s timers. (R259) -/
  | catalogueWrite (kind num : Nat) (timer : Bool)
  /-- At a new MT_GEN or every 1 s, a waiting catalogue version is ranked again for placement. (R260) -/
  | cataloguePlaceRetry (kind num : Nat)
  /-- At the first entry to SEAL after a stop that was not orderly, the catalogue is rebuilt from LIST answers. (R262) -/
  | catalogueRebuild
  /-- Restore-buffer pages are freed, and a held restore issues its further GETs. (R637) -/
  | restoreBufferWait (handle : Nat)
  /-- RPR_CMD OP = EVACUATE starts the evacuation of a READONLY medium. (R271) -/
  | evacuate (media : Nat)
  /-- RPR_CMD OP = CANCEL cancels an evacuation. (R271) -/
  | evacuateCancel (media : Nat)
  /-- A stitch unit's DK_REQ is checked against the slot, and DK is returned in shares, or EMPTY or ATTR. (R282) -/
  | dkReq (unit ctx failed : Nat)
  /-- A KEY_LOAD by a sponge core or an Awl unit returns the slot value in shares. (R282) -/
  | keyLoad (awl : Bool) (unit slot failed : Nat)
  /-- An Awl unit's KEY_STORE writes a value into a transient slot, or is refused. (R291) -/
  | keyStore (unit slot attr value failed : Nat)
  /-- A stitch unit sends its GHASH partial in shares to the lead unit. (R111) -/
  | ghashPartial (obj idx first : Nat)
  /-- The Saddlebag's CLEAR makes consumers clear a slot, or every VK-wrapped slot. (R291) -/
  | clear (all : Bool) (slot : Nat)
  /-- A missing (namespace, key epoch) is unwrapped into a free namespace slot, evicting under R287. (R286) -/
  | epochMapMissLoad (ns epoch bad : Nat)
  /-- A Saddlebag macro is lost and rebuilt from parity; a second loss reloads the PERSIST slots and clears the rest. (R284) -/
  | sdbMacroLost (bank ram : Nat)
  /-- SDB_CMD GEN fills DST with 256 DRBG bits and the attributes of SDB_ATTR. (R320) -/
  | gen (world : World)
  /-- SDB_CMD DERIVE fills DST with a KMAC256 derivation from SRC. (R320) -/
  | derive (world : World)
  /-- SDB_CMD WRAP writes a key-store record for DST. (R320) -/
  | wrap (world : World) (saved : Bool)
  /-- SDB_CMD LOAD unwraps a record into DST, or reports RECORD_BAD. (R295) -/
  | load (world : World) (bad : Nat)
  /-- SDB_CMD ZERO clears DST and its attributes and sends CLEAR. (R320) -/
  | zero (world : World)
  /-- SDB_CMD SET_ATTR clears USE bits or sets LOCKED, or refuses the change with ATTR. (R283) -/
  | setAttr (world : World)
  /-- SDB_CMD SEAL_GCM encrypts DST's value under key SRC into the window. (R320) -/
  | sealGcm (world : World)
  /-- SDB_CMD OPEN_GCM opens the window's ciphertext into DST, or reports TAG. (R320) -/
  | openGcm (world : World)
  /-- SDB_CMD VK_GEN places a new vault key in the inactive bank. (R320) -/
  | vkGen (world : World)
  /-- SDB_CMD VK_SPLIT shares VK into n share slots under threshold t. (R310) -/
  | vkSplit (world : World)
  /-- SDB_CMD VK_COMBINE combines t shares and installs VK when the VCV matches, or reports QUORUM. (R314) -/
  | vkCombine (world : World)
  /-- SDB_CMD VK_COMMIT commits a vault rotation. (R316) -/
  | vkCommit (world : World)
  /-- SDB_CMD NS_CURRENT makes DST the current namespace key once it is committed and the device is escrowed. (R288) -/
  | nsCurrent (world : World)
  /-- An entropy source fails a health test and is disabled; with fewer than two sources, TRNG_FAIL stops all output. (R299) -/
  | trngSourceFail (source : Nat) (proportion : Bool)
  /-- After 2^16 requests or 1 s, the CTR_DRBG reseeds from conditioned output. (R300) -/
  | drbgReseed
  /-- A badge's M2 arrives; it is verified and the badge session keys are derived. (R306) -/
  | badgeAuth (b : BadgeIn) (saved : Bool)
  /-- The badges have not all authenticated within QUORUM_S; the operation ends PRESENCE and its transient slots are cleared. (R308) -/
  | presenceTimeout
  /-- A write of AWL_RING_TAIL posts descriptors to the dispatcher. (R321) -/
  | awlRingTail (world : World) (tail : Nat)
  /-- The dispatcher checks a descriptor and hands it to a unit, or completes it with BAD_DESCRIPTOR or KEY. (R334) -/
  | awlDispatch
  /-- Awl MOD_ADD computes (a + b) mod p. (R326) -/
  | modAdd (unit : Nat)
  /-- Awl MOD_SUB computes (a − b) mod p. (R326) -/
  | modSub (unit : Nat)
  /-- Awl MOD_MUL computes a·b mod p. (R326) -/
  | modMul (unit : Nat)
  /-- Awl MOD_EXP computes a^e mod p. (R326) -/
  | modExp (unit : Nat)
  /-- Awl MOD_INV computes a^−1 mod p. (R326) -/
  | modInv (unit : Nat)
  /-- Awl MOD_RED reduces a 16n-word value mod p. (R326) -/
  | modRed (unit : Nat)
  /-- Awl MUL computes the full product a·b. (R326) -/
  | awlMul (unit : Nat)
  /-- Awl NTT transforms a polynomial. (R326) -/
  | ntt (unit : Nat)
  /-- Awl INTT applies the inverse transform. (R326) -/
  | intt (unit : Nat)
  /-- Awl POLY_MAC computes ĉ + â∘b̂. (R326) -/
  | polyMac (unit : Nat)
  /-- Awl EC_MUL computes d·Q. (R326) -/
  | ecMul (unit : Nat)
  /-- Awl EC_PUB derives a public key from a seed slot. (R326) -/
  | ecPub (unit : Nat)
  /-- Awl ECDSA_SIGN signs a hash; its output is released only after another unit verifies it. (R336) -/
  | ecdsaSign (unit : Nat)
  /-- Awl ECDSA_VERIFY checks a signature and sets VERDICT. (R326) -/
  | ecdsaVerify (unit : Nat)
  /-- Awl ED25519_VERIFY checks a signature with the cofactored equation. (R326) -/
  | ed25519Verify (unit : Nat)
  /-- Awl X25519_GEN creates a private key slot and returns its public u. (R326) -/
  | x25519Gen (unit : Nat)
  /-- Awl X25519 computes a shared secret into a slot. (R326) -/
  | x25519 (unit : Nat)
  /-- Awl MLKEM_KEYGEN generates an ML-KEM-1024 key pair. (R326) -/
  | mlkemKeygen (unit : Nat)
  /-- Awl MLKEM_ENCAPS encapsulates to ek and stores the shared secret. (R326) -/
  | mlkemEncaps (unit : Nat)
  /-- Awl MLKEM_DECAPS decapsulates, with implicit rejection. (R332) -/
  | mlkemDecaps (unit : Nat)
  /-- Awl MLDSA_PUB derives an ML-DSA public key. (R326) -/
  | mldsaPub (unit : Nat)
  /-- Awl MLDSA_SIGN signs a message, failing after 814 rejections. (R339) -/
  | mldsaSign (unit : Nat)
  /-- Awl MLDSA_VERIFY checks an ML-DSA signature. (R326) -/
  | mldsaVerify (unit : Nat)
  /-- A unit finishes; it writes its output, stores DST_SLOT and writes the completion record. (R335) -/
  | awlCompletion (unit : Nat)
  /-- COAL_N completions accumulate, or COAL_US expires, and AWL_DONE is raised. (R325) -/
  | awlDone
  /-- AWL_ABORT.GO submits an abort, and the outcome of Table 9-9 follows. (R340) -/
  | awlAbort (world : World) (index : Nat) (unclear : Bool)
  /-- A datapath mismatch or poison stops the operation; memory is cleared and the descriptor is re-issued. (R342) -/
  | awlMismatch (unit : Nat) (poison : Bool)
  /-- AWL_CTRL.QREL makes the quarantined unit named by QUNIT run self-test. (R344) -/
  | awlQrel (unit : Nat) (world : World)
  /-- An Awl unit self-test ends, and the unit goes to IDLE or QUARANTINED. (R344) -/
  | awlSelftestDone (unit : Nat) (result : TestEnd) (signature : Nat)
  /-- ADD: rd := ra + rb. (R352) -/
  | add (pair : PairId) (wait : Nat) (rd ra rb : RegId)
  /-- SUB: rd := ra − rb. (R352) -/
  | sub (pair : PairId) (wait : Nat) (rd ra rb : RegId)
  /-- AND: bitwise and. (R352) -/
  | andReg (pair : PairId) (wait : Nat) (rd ra rb : RegId)
  /-- OR: bitwise or. (R352) -/
  | orReg (pair : PairId) (wait : Nat) (rd ra rb : RegId)
  /-- XOR: bitwise xor. (R352) -/
  | xor (pair : PairId) (wait : Nat) (rd ra rb : RegId)
  /-- ANDN: ra and not rb. (R352) -/
  | andn (pair : PairId) (wait : Nat) (rd ra rb : RegId)
  /-- SLT: signed set-less-than. (R352) -/
  | slt (pair : PairId) (wait : Nat) (rd ra rb : RegId)
  /-- SLTU: unsigned set-less-than. (R352) -/
  | sltu (pair : PairId) (wait : Nat) (rd ra rb : RegId)
  /-- SLL: shift left by rb[5:0]. (R352) -/
  | sll (pair : PairId) (wait : Nat) (rd ra rb : RegId)
  /-- SRL: logical shift right. (R352) -/
  | srl (pair : PairId) (wait : Nat) (rd ra rb : RegId)
  /-- SRA: arithmetic shift right. (R352) -/
  | sra (pair : PairId) (wait : Nat) (rd ra rb : RegId)
  /-- ROR: rotate right. (R352) -/
  | ror (pair : PairId) (wait : Nat) (rd ra rb : RegId)
  /-- MOVEQZ: rd := ra if rb = 0. (R352) -/
  | moveqz (pair : PairId) (wait : Nat) (rd ra rb : RegId)
  /-- MOVNEZ: rd := ra if rb ≠ 0. (R352) -/
  | movnez (pair : PairId) (wait : Nat) (rd ra rb : RegId)
  /-- CLZ: count leading zero bits. (R352) -/
  | clz (pair : PairId) (wait : Nat) (rd ra : RegId)
  /-- POPC: count one bits. (R352) -/
  | popc (pair : PairId) (wait : Nat) (rd ra : RegId)
  /-- BSWAP: reverse the 8 bytes. (R352) -/
  | bswap (pair : PairId) (wait : Nat) (rd ra : RegId)
  /-- ADDI: add a sign-extended immediate. (R352) -/
  | addi (pair : PairId) (wait : Nat) (rd ra : RegId) (imm : BitVec 16)
  /-- ANDI: and with a zero-extended immediate. (R352) -/
  | andi (pair : PairId) (wait : Nat) (rd ra : RegId) (imm : BitVec 16)
  /-- ORI: or with a zero-extended immediate. (R352) -/
  | ori (pair : PairId) (wait : Nat) (rd ra : RegId) (imm : BitVec 16)
  /-- XORI: xor with a zero-extended immediate. (R352) -/
  | xori (pair : PairId) (wait : Nat) (rd ra : RegId) (imm : BitVec 16)
  /-- SLTI: signed compare with an immediate. (R352) -/
  | slti (pair : PairId) (wait : Nat) (rd ra : RegId) (imm : BitVec 16)
  /-- SLTIU: unsigned compare with an immediate. (R352) -/
  | sltiu (pair : PairId) (wait : Nat) (rd ra : RegId) (imm : BitVec 16)
  /-- MOVZ: load a shifted 16-bit immediate. (R352) -/
  | movz (pair : PairId) (wait : Nat) (rd : RegId) (hw : BitVec 2) (imm : BitVec 16)
  /-- MOVK: insert 16 bits, keeping the others. (R352) -/
  | movk (pair : PairId) (wait : Nat) (rd : RegId) (hw : BitVec 2) (imm : BitVec 16)
  /-- ADRP: page address relative to pc. (R352) -/
  | adrp (pair : PairId) (wait : Nat) (rd : RegId) (imm : BitVec 16)
  /-- SLLI: shift left by an immediate. (R352) -/
  | slli (pair : PairId) (wait : Nat) (rd ra : RegId) (sh : BitVec 6)
  /-- SRLI: logical shift right by an immediate. (R352) -/
  | srli (pair : PairId) (wait : Nat) (rd ra : RegId) (sh : BitVec 6)
  /-- SRAI: arithmetic shift right by an immediate. (R352) -/
  | srai (pair : PairId) (wait : Nat) (rd ra : RegId) (sh : BitVec 6)
  /-- MUL: a signed 128-bit product enters the multiplier queue. (R359) -/
  | mul (pair : PairId) (wait : Nat) (ra rb : RegId)
  /-- MULU: an unsigned 128-bit product enters the multiplier queue. (R359) -/
  | mulu (pair : PairId) (wait : Nat) (ra rb : RegId)
  /-- MADD: a signed multiply-accumulate into MHI:MLO. (R360) -/
  | madd (pair : PairId) (wait : Nat) (ra rb : RegId)
  /-- MADDU: an unsigned multiply-accumulate. (R360) -/
  | maddu (pair : PairId) (wait : Nat) (ra rb : RegId)
  /-- DIVQ: a signed quotient into MHI:MLO. (R362) -/
  | divq (pair : PairId) (wait : Nat) (ra rb : RegId)
  /-- DIVQU: an unsigned quotient. (R362) -/
  | divqu (pair : PairId) (wait : Nat) (ra rb : RegId)
  /-- REMD: a signed remainder. (R362) -/
  | remd (pair : PairId) (wait : Nat) (ra rb : RegId)
  /-- REMDU: an unsigned remainder. (R362) -/
  | remdu (pair : PairId) (wait : Nat) (ra rb : RegId)
  /-- MRDL: read MLO as completed at issue. (R359) -/
  | mrdl (pair : PairId) (wait : Nat) (rd : RegId)
  /-- MRDH: read MHI as completed at issue. (R359) -/
  | mrdh (pair : PairId) (wait : Nat) (rd : RegId)
  /-- MWR: write MLO and MHI as one multiplier write. (R359) -/
  | mwr (pair : PairId) (wait : Nat) (ra rb : RegId)
  /-- A queued multiplier instruction completes at c(i) and writes MLO and MHI. (R359) -/
  | multiplierComplete (pair : PairId)
  /-- LDB: load a sign-extended byte. (R356) -/
  | ldb (pair : PairId) (wait : Nat) (rt ra : RegId) (mode : AddrMode)
  /-- LDBU: load a zero-extended byte. (R356) -/
  | ldbu (pair : PairId) (wait : Nat) (rt ra : RegId) (mode : AddrMode)
  /-- LDH: load a sign-extended halfword. (R356) -/
  | ldh (pair : PairId) (wait : Nat) (rt ra : RegId) (mode : AddrMode)
  /-- LDHU: load a zero-extended halfword. (R356) -/
  | ldhu (pair : PairId) (wait : Nat) (rt ra : RegId) (mode : AddrMode)
  /-- LDW: load a sign-extended word. (R356) -/
  | ldw (pair : PairId) (wait : Nat) (rt ra : RegId) (mode : AddrMode)
  /-- LDWU: load a zero-extended word. (R356) -/
  | ldwu (pair : PairId) (wait : Nat) (rt ra : RegId) (mode : AddrMode)
  /-- LDD: load a doubleword. (R356) -/
  | ldd (pair : PairId) (wait : Nat) (rt ra : RegId) (mode : AddrMode)
  /-- STB: store a byte. (R356) -/
  | stb (pair : PairId) (wait : Nat) (rt ra : RegId) (mode : AddrMode)
  /-- STH: store a halfword. (R356) -/
  | sth (pair : PairId) (wait : Nat) (rt ra : RegId) (mode : AddrMode)
  /-- STW: store a word. (R356) -/
  | stw (pair : PairId) (wait : Nat) (rt ra : RegId) (mode : AddrMode)
  /-- STD: store a doubleword. (R356) -/
  | std (pair : PairId) (wait : Nat) (rt ra : RegId) (mode : AddrMode)
  /-- LLD: load and set a reservation on the line. (R358) -/
  | lld (pair : PairId) (wait : Nat) (rd ra : RegId)
  /-- SCD: store only if the reservation holds. (R358) -/
  | scd (pair : PairId) (wait : Nat) (rd ra rb : RegId)
  /-- SWAPD: atomic swap. (R352) -/
  | swapd (pair : PairId) (wait : Nat) (rd ra rb : RegId)
  /-- AADDD: atomic add. (R352) -/
  | aaddd (pair : PairId) (wait : Nat) (rd ra rb : RegId)
  /-- AANDD: atomic and. (R352) -/
  | aandd (pair : PairId) (wait : Nat) (rd ra rb : RegId)
  /-- AORD: atomic or. (R352) -/
  | aord (pair : PairId) (wait : Nat) (rd ra rb : RegId)
  /-- CASD: atomic compare and swap. (R352) -/
  | casd (pair : PairId) (wait : Nat) (rd ra rb : RegId)
  /-- FENCE: wait until every earlier access is acknowledged. (R357) -/
  | fence (pair : PairId) (wait : Nat)
  /-- FENCEI: fence, then refetch instructions. (R352) -/
  | fencei (pair : PairId) (wait : Nat)
  /-- BEQ: branch if equal. (R352) -/
  | beq (pair : PairId) (wait : Nat) (ra rb : RegId) (off : BitVec 16)
  /-- BNE: branch if not equal. (R352) -/
  | bne (pair : PairId) (wait : Nat) (ra rb : RegId) (off : BitVec 16)
  /-- BLT: signed branch if less. (R352) -/
  | blt (pair : PairId) (wait : Nat) (ra rb : RegId) (off : BitVec 16)
  /-- BGE: signed branch if greater or equal. (R352) -/
  | bge (pair : PairId) (wait : Nat) (ra rb : RegId) (off : BitVec 16)
  /-- BLTU: unsigned branch if less. (R352) -/
  | bltu (pair : PairId) (wait : Nat) (ra rb : RegId) (off : BitVec 16)
  /-- BGEU: unsigned branch if greater or equal. (R352) -/
  | bgeu (pair : PairId) (wait : Nat) (ra rb : RegId) (off : BitVec 16)
  /-- J: jump relative to pc. (R352) -/
  | j (pair : PairId) (wait : Nat) (off : BitVec 26)
  /-- JAL: jump and link into lk. (R352) -/
  | jal (pair : PairId) (wait : Nat) (off : BitVec 26)
  /-- JALR: register jump and link. (R352) -/
  | jalr (pair : PairId) (wait : Nat) (rd ra : RegId) (imm : BitVec 16)
  /-- BMOV: copy elements forward, one retire point per element. (R363) -/
  | bmov (pair : PairId) (wait elements : Nat) (rd ra rb : RegId) (size : BitVec 2)
  /-- BFILL: fill elements. (R363) -/
  | bfill (pair : PairId) (wait elements : Nat) (rd ra rb : RegId) (size : BitVec 2)
  /-- MACV: vector multiply-accumulate into MHI:MLO. (R363) -/
  | macv (pair : PairId) (wait elements : Nat) (rd ra rb : RegId) (unsigned : Bool)
  /-- SABS: sum of absolute byte differences into MLO. (R363) -/
  | sabs (pair : PairId) (wait elements : Nat) (rd ra rb : RegId)
  /-- MFS: read a special register. (R347) -/
  | mfs (pair : PairId) (wait : Nat) (rd : RegId) (sr : BitVec 8)
  /-- MTS: write a special register. (R347) -/
  | mts (pair : PairId) (wait : Nat) (ra : RegId) (sr : BitVec 8)
  /-- ERET: restore STATUS from ESTATUS and pc from EPC. (R387) -/
  | eret (pair : PairId) (wait : Nat)
  /-- GATE n calls stirrup gate n of the other world, after its checks. (R401) -/
  | gate (pair : PairId) (wait : Nat) (number : Fin 255)
  /-- GATE 255 returns from the innermost gate call. (R404) -/
  | gateReturn (pair : PairId) (wait : Nat)
  /-- TRAP raises a TRAP exception. (R352) -/
  | trap (pair : PairId) (wait : Nat) (number : BitVec 8)
  /-- BRK raises a BRK exception. (R352) -/
  | brk (pair : PairId) (wait : Nat)
  /-- WAIT stops issue until an interrupt routed to the core is pending. (R362) -/
  | wait (pair : PairId) (wait : Nat)
  /-- TLBINV mode 0 invalidates the entries for one page. (R379) -/
  | tlbinvPage (pair : PairId) (wait : Nat) (ra : RegId)
  /-- TLBINV mode 1 invalidates the non-G entries of one ASID. (R379) -/
  | tlbinvAsid (pair : PairId) (wait : Nat) (ra : RegId)
  /-- TLBINV mode 2 invalidates every entry of the running world. (R379) -/
  | tlbinvWorld (pair : PairId) (wait : Nat)
  /-- CFLUSH writes back and invalidates a line at every level. (R352) -/
  | cflush (pair : PairId) (wait : Nat) (ra : RegId)
  /-- DI returns IM and sets it. (R352) -/
  | di (pair : PairId) (wait : Nat) (rd : RegId)
  /-- EI clears IM. (R352) -/
  | ei (pair : PairId) (wait : Nat)
  /-- An unassigned or malformed instruction raises ILLEGAL and changes nothing. (R351) -/
  | illegalInstruction (pair : PairId) (wait : Nat)
  /-- A deliverable interrupt is taken at an instruction or element boundary while IM is 0. (R396) -/
  | interruptEntry (pair : PairId) (wait : Nat)
  /-- CYCLE reaches a world's TIMECMP, and its timer interrupt becomes pending. (R349) -/
  | timerInterrupt (pair : PairId) (world : World)
  /-- A core pair compare fails, and the pair restores from its shadow and re-executes. (R406) -/
  | lockstepMismatch (pair : PairId) (uncorrectable : Bool)
  /-- A read of IC_CLAIM claims the best deliverable source and raises the running priority. (R397) -/
  | icClaim (pair : PairId) (world : World)
  /-- A write of IC_EOI ends a source and lowers the running priority. (R397) -/
  | icEoi (pair : PairId) (world : World) (source : Nat)
  /-- A write of IC_SWI sets a software interrupt pending. (R394) -/
  | icSwi (world : World) (source : Nat)
  /-- IM or Keeper residency has been held past its limit while an interrupt is deliverable, and CORE_IM_HELD is raised. (R400) -/
  | coreImHeld (pair : PairId) (keeper : Bool)
  /-- CORE_CTRL.QREL makes a quarantined or halted pair run self-test. (R407) -/
  | coreQrel (pair : PairId) (world : World)
  /-- The Burnisher scrubs SRAM words, correcting and writing them back. (R592) -/
  | sramScrub (cluster ram row addr flips : Nat) (otherBad : Bool)
  /-- A tracker entry's window ends without a hard declaration, and the entry is cleared. (R419) -/
  | trackerWindowEnd (unit entry : Nat)
  /-- ECC_SPLIT_CMD.GO writes data with the chosen check bits where the region has TEST set. (R424) -/
  | splitWrite (pair : Nat) (world : World) (check : Nat)
  /-- A write of 1 to ECC_TEST.EN is accepted only in the situations of R425. (R425) -/
  | eccTestEnable (en armed : Bool) (flipChk : Nat) (world : World)
  /-- ECC_INJ makes a checker invert check bits on its next COUNT reads. (R426) -/
  | eccInj (checker mask count : Nat) (world : World)
  /-- AT_CMD READ_ACTIVE copies an active entry to AT_WIN. (R433) -/
  | readActive (pair : Nat) (world : World) (user : Bool) (target index : Nat)
  /-- AT_CMD READ_SHADOW copies a shadow entry to AT_WIN. (R433) -/
  | readShadow (pair : Nat) (world : World) (user : Bool) (target index : Nat)
  /-- AT_CMD WRITE_SHADOW writes AT_WIN into the shadow, unless the entry is LOCKED. (R433) -/
  | writeShadow (pair : Nat) (world : World) (user : Bool) (target index : Nat)
  /-- AT_COMMIT.GO validates the shadow and switches every guard, or reports BAD_ENTRY or BUSY. (R434) -/
  | atCommit (pair : Nat) (world : World) (user : Bool)
  /-- Every access of the old epoch finishes, and DONE becomes 1. (R434) -/
  | atDone
  /-- AT_VPOP removes the oldest violation record. (R437) -/
  | atVpop (pair : Nat) (world : World) (user : Bool)
  /-- Flash READ moves logical sectors to memory. (R446) -/
  | flsRead (world : World) (bad weak : List Nat)
  /-- Flash WRITE programs sectors and acknowledges them after the pair-safe program checks. (R444) -/
  | flsWrite (world : World) (fails : Nat)
  /-- Flash TRIM frees sectors. (R446) -/
  | trim (world : World)
  /-- Flash FLUSH completes every pending MLC commit, padding where needed. (R444) -/
  | flush (world : World)
  /-- Flash PREAD reads and decodes one physical page. (R446) -/
  | pread (world : World) (bad : List Nat)
  /-- Flash MREAD makes a margin read and reports MAXCORR. (R446) -/
  | mread (world : World) (maxcorr : Nat)
  /-- Flash BLANK blank-checks a block. (R446) -/
  | blank (world : World) (noisy : Bool)
  /-- Flash ERASE journals the intent, erases the block, blank-checks it and records ERASE_DONE. (R452) -/
  | flsErase (world : World) (fails : Nat)
  /-- Flash PIN marks blocks as holding mapped code. (R449) -/
  | pin (world : World)
  /-- Flash UNPIN removes the mark. (R446) -/
  | unpin (world : World)
  /-- PTR_SET checks the image in a twin and appends a SET record. (R459) -/
  | ptrSet (world : World) (ue : Bool)
  /-- PTR_CONFIRM appends CONFIRM for the trial twin and may raise the fused SVN. (R458) -/
  | ptrConfirm (world : World)
  /-- A FLASHWIN read misses, and a program or erase on its LUN is suspended to serve it. (R448) -/
  | windowMiss (byte : Nat) (busy undecodable : Bool)
  /-- A flash LUN does not answer. (R447) -/
  | flsLunLost (lun : Nat)
  /-- After a reset the boot ROM runs the steps of Table 13-10 to HEEL. (R462) -/
  | powerGoodBoot (x : BootIn)
  /-- A source detects, and the collector updates its record and starts its reaction within 0.5 µs. (R466) -/
  | faultDetection (src detail rebuilt : Nat)
  /-- A window closes when its unit reports ready or 100 µs have passed. (R473) -/
  | consequenceWindowClose (opener : Nat) (ready : Bool)
  /-- The FAULT_N pulse time expires, and the pin follows HOLD. (R477) -/
  | faultNPulseEnd
  /-- A write of FCU_PIN.HOLD drives or releases FAULT_N. (R478) -/
  | fcuHoldWrite (hold : Bool)
  /-- A PSEUDO injection takes a detection with LAST_INJECTED set, with or without the reaction. (R479) -/
  | fcuInjPseudo (src : Nat) (react : Bool) (world : World)
  /-- A CHECK injection flips check bits on the next read of a source record. (R479) -/
  | fcuInjCheck (src mask : Nat) (world : World)
  /-- FCU_CLR clears a source record. (R471) -/
  | fcuClr (src : Nat)
  /-- A class, reaction or line write is applied within the Allowed limits, or refused. (R467) -/
  | fcuSrcCfgWrite (cls react line : Nat) (world : World)
  /-- VDD_IO33 falls below 3.0 V, and the Kennel switches to VBAT or to hold-up. (R483) -/
  | vddIo33Loss (r : Reading)
  /-- VDD_IO33 has stayed above 3.1 V for 10 ms, and the Kennel returns to it. (R483) -/
  | vddIo33Return
  /-- BATSENSE opens or VBAT collapses, and the configured response runs, or ZEROIZE without main power. (R495) -/
  | cellRemoved (r : Reading)
  /-- The mean VBAT falls below 2.05 V, giving LOG with main power and ZEROIZE without. (R496) -/
  | cellEnd (r : Reading)
  /-- The mean VBAT falls below 2.4 V. (R487) -/
  | cellLow (r : Reading)
  /-- BATSENSE closes with VBAT at least 2.2 V. (R487) -/
  | cellInserted (r : Reading)
  /-- VBAT or VKEEP falls below 1.8 V, and the Kennel goes DEAD. (R486) -/
  | kennelDead
  /-- The Kennel powers on from DEAD with banks cleared and configuration at defaults. (R505) -/
  | kennelPor (mains : Bool) (r : Reading)
  /-- The die temperature is at or below LOW on two samples. (R487) -/
  | tempLow (r : Reading)
  /-- The die temperature is at or above HIGH on two samples. (R487) -/
  | tempHigh (r : Reading)
  /-- The Kennel supply stays above 3.9 V for 10 µs. (R487) -/
  | volt (r : Reading)
  /-- A supply step glitch is detected. (R487) -/
  | glitch (r : Reading)
  /-- The Kennel crystal stops or drifts, and the RTC runs on the RC oscillator. (R488) -/
  | clock (stopped : Bool) (r : Reading)
  /-- The shield mesh check fails, and the vault key is zeroized. (R487) -/
  | mesh (r : Reading)
  /-- LID_N reads high on two samples. (R487) -/
  | lid (r : Reading)
  /-- Tamper loop TAMP0 reads open. (R487) -/
  | loop0 (r : Reading)
  /-- Tamper loop TAMP1 reads open. (R487) -/
  | loop1 (r : Reading)
  /-- A monitor's condition has been absent for 1 s, and the monitor re-arms. (R487) -/
  | monitorRearm (m : Nat)
  /-- KNL_CTRL.UNLOCK releases LOCK, given presence and no alarm, and the keys are reloaded. (R494) -/
  | unlock (world : World)
  /-- KNL_CTRL.CLR_LATCH clears LATCHED, given presence and no alarm. (R494) -/
  | clrLatch (world : World)
  /-- KNL_CTRL.CLR_POR clears POR. (R505) -/
  | clrPor (world : World)
  /-- KNL_CTRL.EVQ_POP removes the oldest queued event record. (R500) -/
  | evqPop (world : World)
  /-- A KNL_RTC_SET write steps the RTC, or slews it in SEAL. (R503) -/
  | knlRtcSet (time : Nat) (world : World)
  /-- A KNL_TEMP write sets the thresholds, or is refused. (R489) -/
  | knlTempWrite (low high : Int) (world : World)
  /-- A KNL_MON_m write sets a monitor's response within Allowed, or is refused. (R493) -/
  | knlMonWrite (m resp : Nat) (en : Bool) (world : World)
  /-- KNL_TRIM sets the RTC rate correction. (R502) -/
  | knlTrimWrite (ppm10 : Int) (world : World)
  /-- The Kennel writes its next queued record to the Collar custody log once no field write is in progress. (R499) -/
  | kennelCollarWrite (vkeep bad : Nat)
  /-- Each KNL_LOG.INTERVAL, the Kennel writes a sensor-log entry to the Collar. (R499) -/
  | sensorLogInterval (least greatest : Int) (vbat : Nat)
  /-- The ping period elapses, and the reader pings the antenna and compares against its baseline. (R509) -/
  | detectionPing (amp : Nat) (phase : Int) (cards : List Card)
  /-- A pending check-in reaches its WINDOW_H life and is dropped. (R516) -/
  | pendingCheckinExpiry
  /-- No command arrives within 2 s after a tap, and the card is halted and the carrier switched off. (R511) -/
  | tapIdleTimeout
  /-- An external field is sensed, and the reader emits nothing and enters EXT_FIELD. (R507) -/
  | externalField
  /-- 1 s has passed since the external field went, and detection resumes. (R507) -/
  | extFieldGone
  /-- NFC_CMD POLL switches the carrier on and polls. (R514) -/
  | poll (world : World) (cards : List Card)
  /-- NFC_CMD EXCHANGE sends one APDU and stores the response. (R514) -/
  | exchange (world : World) (answer : CardAnswer)
  /-- NFC_CMD DESELECT sends S(DESELECT) or HLTA. (R514) -/
  | deselect (world : World)
  /-- NFC_CMD FIELD_OFF switches the carrier off. (R514) -/
  | fieldOff (world : World)
  /-- NFC_CMD NEXT halts the card and continues the anticollision loop. (R514) -/
  | nextCard (world : World) (cards : List Card)
  /-- The COLLAR domain powers up, chooses a random UID and scans both rings for their heads. (R522) -/
  | collarPowerUp (tornCustody tornSensor : Bool)
  /-- A REQA or WUPA from a field reader is answered once the scan and any record write have ended. (R518) -/
  | collarActivation
  /-- A SELECT of the Collar AID opens its command set. (R523) -/
  | collarSelect (aid : List Byte)
  /-- A field READ returns Collar memory that the policy allows. (R523) -/
  | collarRead (addr le : Nat)
  /-- GET_STATE returns the ring CSEQs, TRIES, SET and POLICY. (R523) -/
  | getState
  /-- VERIFY commits the attempt and then compares the password. (R524) -/
  | verify (n : Nat) (pw : List Byte) (energy lost : Bool)
  /-- APPEND_NOTE appends a FIELD_NOTE with the anti-tearing protocol. (R521) -/
  | appendNote (body : List Byte) (energy : Bool) (bad : Nat)
  /-- CHANGE_PW sets a password and appends PW_CHANGED. (R525) -/
  | changePw (n : Nat) (pw : List Byte) (energy : Bool)
  /-- RESET_TRIES unblocks PW1 or PW2 under PW3. (R525) -/
  | resetTries (n : Nat) (energy : Bool)
  /-- A field session closes by DESELECT, field loss or 2 s without a command, and COL_FREE is raised. (R527) -/
  | collarSessionEnd (fieldLost timeout : Bool)
  /-- COL_CMD READ reads Collar memory for the core. (R526) -/
  | colRead (world : World)
  /-- COL_CMD APPEND appends a CORE_NOTE. (R526) -/
  | colAppend (world : World) (bad : Nat)
  /-- COL_CMD SET_PW sets password n. (R526) -/
  | setPw (world : World) (pw : Nat)
  /-- COL_CMD UNBLOCK unblocks password n. (R526) -/
  | unblock (world : World) (pw : Nat)
  /-- COL_CMD SET_POLICY sets POLICY. (R526) -/
  | setPolicy (world : World)
  /-- A debounced PRESENCE_N press is recognised, stamped and recorded. (R529) -/
  | presencePress
  /-- A SERVICE_N press released within LONG_S raises PNL_SERVICE. (R530) -/
  | servicePress (held : Nat)
  /-- A debounced release of a button is recognised. (R528) -/
  | buttonRelease (service : Bool) (held : Nat)
  /-- SERVICE_N has been held for LONG_S, and EJECT starts. (R530) -/
  | longPress
  /-- An input has been held low for STUCK_S; STUCK is set and PNL_STUCK is raised. (R531) -/
  | pnlStuck (service : Bool)
  /-- SC_CMD INIT powers and identifies the card and raises its speed under R535. (R534) -/
  | initCard (world : World) (f : SdFacts)
  /-- SC_CMD READ reads blocks from the card. (R533) -/
  | scRead (world : World) (data : List Byte) (e : SdEnd)
  /-- SC_CMD WRITE writes blocks to the card, waiting out busy periods. (R537) -/
  | scWrite (world : World) (e : SdEnd)
  /-- SC_CMD ERASE erases a block range. (R534) -/
  | scErase (world : World) (e : SdEnd)
  /-- SC_CMD UNLOCK unlocks a locked card with a password. (R538) -/
  | scUnlock (world : World) (e : SdEnd)
  /-- SC_CMD SET_PWD sets the card password. (R538) -/
  | setPwd (world : World) (e : SdEnd)
  /-- SC_CMD CLR_PWD clears the card password. (R538) -/
  | clrPwd (world : World) (e : SdEnd)
  /-- SC_CMD FORCE_ERASE erases a locked card, given a presence press. (R538) -/
  | forceErase (world : World) (e : SdEnd)
  /-- SC_CMD SLEEP deselects the card and stops the clock. (R539) -/
  | sleep (world : World)
  /-- SC_CMD EJECT deselects the card and powers it off. (R540) -/
  | eject (world : World)
  /-- SC_CMD WALK classifies the bundle chain. (R544) -/
  | walk (world : World) (seen : List BundleSeen) (e : SdEnd)
  /-- IDLE_MS passes without a command, and the card sleeps. (R539) -/
  | autoSleep
  /-- The card's busy period exceeds its limit; the operation ends TIMEOUT and the card is powered off. (R537) -/
  | scBusyTimeout
  /-- An SC_CD_N removal edge stops the clock and powers the card down, ending the running operation. (R541) -/
  | cardRemoval (stage : SdStage)
  /-- SC_CD_N has read inserted for 100 ms; SC_CD is raised and INIT runs. (R542) -/
  | cardInsertion (f : SdFacts)
  /-- A card supply over-current lowers SC_PWR_EN. (R540) -/
  | scPwrFault
  /-- A Smilia HELLO starts a session handshake for a role. (R556) -/
  | hello (f : SmlIn)
  /-- The client's Smilia AUTH is verified and a role is granted, or the session ends with RESET ROLE or AUTH_FAILED. (R557) -/
  | smlAuth (f : SmlIn)
  /-- A Smilia KEY_UPDATE is received. (R555) -/
  | smlKeyUpdate (f : SmlIn)
  /-- A Smilia CLOSE is received. (R556) -/
  | smlClose (f : SmlIn)
  /-- A Smilia KEEPALIVE is answered with 0x87. (R554) -/
  | smlKeepalive (f : SmlIn)
  /-- A protected Smilia RESET is received. (R553) -/
  | smlReset (f : SmlIn)
  /-- A Smilia session reaches its idle time-out and closes. (R556) -/
  | smlIdleTimeout (session : Nat)
  /-- 1 s has passed in CLOSED, and the session is released. (R556) -/
  | smlRelease (session : Nat)
  /-- A READ is checked and answered with the entry's value. (R561) -/
  | smlRead (f : SmlIn)
  /-- A WRITE is checked, applied and recorded in the Trail. (R560) -/
  | smlWrite (f : SmlIn) (facts : SmlFacts)
  /-- A SEG_READ snapshots a DOMAIN entry or returns bytes of the snapshot. (R566) -/
  | segRead (f : SmlIn)
  /-- A SEG_BEGIN opens the entry's one write handle. (R567) -/
  | segBegin (f : SmlIn)
  /-- A SEG_WRITE places data at its offset. (R567) -/
  | segWrite (f : SmlIn)
  /-- A SEG_END checks completeness, hash and content, and applies or rejects the content whole. (R567) -/
  | segEnd (f : SmlIn) (facts : SmlFacts)
  /-- A SEG_ABORT discards a write handle. (R567) -/
  | segAbort (f : SmlIn)
  /-- A handle unused for 30 s expires. (R566) -/
  | handleExpiry (write : Bool) (session handle : Nat)
  /-- A SUBSCRIBE creates a change subscription, or returns the existing one. (R568) -/
  | subscribe (f : SmlIn)
  /-- An UNSUBSCRIBE ends a subscription. (R568) -/
  | unsubscribe (f : SmlIn)
  /-- The minimum interval ends, and a held change is sent as a COALESCED NOTIFY. (R568) -/
  | notifyIntervalEnd (session sub : Nat)
  /-- A NOTIFY_ACK acknowledges a notification. (R569) -/
  | notifyAck (f : SmlIn)
  /-- An unacknowledged NOTIFY is resent every 500 ms, and the subscription ends after 4 resends. (R569) -/
  | notifyResend (session number : Nat)
  /-- A message's segments have not all arrived within 1 s, and it is discarded. (R552) -/
  | reassemblyTimeout (hello : Bool) (session key : Nat)
  /-- 2 s after the OK, a new management address takes effect. (R548) -/
  | addressChangeEffect
  /-- 60 s later, existing sessions move to the new address. (R548) -/
  | oldAddressExpiry
  /-- VENDOR_WINDOW_MIN counts down each minute, and vendor-service sessions end at 0. (R571) -/
  | vendorWindowTick
  /-- The RESTORE_DEFAULTS command returns a range of entries to their defaults. (R562) -/
  | restoreDefaults (session nibble : Nat) (f : SmlFacts)
  /-- ENROLL burns the owner key ID and generates VK, the manifest key and the index key. (R302) -/
  | enroll (session : Nat) (content : List Byte) (f : SmlFacts)
  /-- ESCROW_CREATE creates an escrow set with badges. (R313) -/
  | escrowCreate (session t n : Nat) (f : SmlFacts)
  /-- VAULT_ROTATE generates and escrows a new vault key and re-wraps the records. (R316) -/
  | vaultRotate (session t n : Nat) (f : SmlFacts)
  /-- VAULT_RESTORE collects t shares from badges and restores VK. (R314) -/
  | vaultRestore (session set : Nat) (f : SmlFacts)
  /-- NS_CREATE makes a namespace's first key current at key epoch 1. (R572) -/
  | nsCreate (session ns : Nat) (f : SmlFacts)
  /-- NS_ROTATE makes a new key epoch current. (R289) -/
  | nsRotate (session ns : Nat) (f : SmlFacts)
  /-- NS_DESTROY removes every key epoch of a namespace and erases its records. (R290) -/
  | nsDestroy (session ns : Nat) (f : SmlFacts)
  /-- MANIFEST_KEY_CHANGE generates a new manifest key, and the next epoch carries GENESIS. (R304) -/
  | manifestKeyChange (session value : Nat) (f : SmlFacts)
  /-- OWNER_RELEASE zeroes VK and its records and unenrolls the device. (R304) -/
  | ownerRelease (session value : Nat) (f : SmlFacts)
  /-- ATTEST signs a report into the session's ATTEST_REPORT. (R576) -/
  | attest (session : Nat) (nonce : List Byte) (f : SmlFacts)
  /-- The SRC_CLEAR command clears a fault source record. (R471) -/
  | srcClear (session src : Nat) (f : SmlFacts)
  /-- The KNL_UNLOCK command requests the release of the Kennel LOCK. (R494) -/
  | knlUnlock (session value : Nat) (f : SmlFacts)
  /-- The KNL_CLR_LATCH command requests the clearing of LATCHED. (R494) -/
  | knlClrLatch (session value : Nat) (f : SmlFacts)
  /-- BUNDLE_EXPORT appends a bundle of kind 3, 5 or 6 to the card. (R545) -/
  | bundleExport (session kind : Nat) (f : SmlFacts)
  /-- BUNDLE_IMPORT checks and imports a committed bundle. (R546) -/
  | bundleImport (session number : Nat) (f : SmlFacts)
  /-- The SELFTEST command runs or requests self-tests of a unit kind. (R577) -/
  | selftest (session kind : Nat) (f : SmlFacts)
  /-- The FCU_INJECT command performs a fault injection under R480. (R577) -/
  | fcuInject (session injection detail : Nat) (f : SmlFacts)
  /-- The ECC_INJECT command performs a checker injection under R426. (R577) -/
  | eccInject (session injection : Nat) (f : SmlFacts)
  /-- A write of MGT_MDIO runs one MDIO frame to the PHY. (R547) -/
  | mgtMdio (reg data : Nat) (write : Bool) (world : World) (answer : Option Nat)
  /-- SGMII sync or the PHY link is lost. (R578) -/
  | mgtLinkDown (sync : Bool)
  /-- The arbiter accepts one record per cycle, assigns its SEQ and writes it to the ring. (R579) -/
  | trailRecordAccept
  /-- 10 µs after the first uncounted copy, the subscription interrupt is raised. (R587) -/
  | subInterrupt (sub : Nat)
  /-- A critical record is committed to TRAILJ within 5 ms, or TRL_FLASH_LAG is raised. (R585) -/
  | trailJournalCommit (stored : Bool)
  /-- TRL_WR_CMD.GO submits a firmware record to the world's port. (R588) -/
  | trlWr (pair : Nat) (world : World) (user : Bool) (event : Nat) (critical : Bool)
  /-- Every TELEMETRY_MS, the die sensors, rails and DIMM sensors are sampled. (R589) -/
  | telemetrySample (x : Sample)
  /-- The Burnisher patrols each channel's capacity each PATROL_H. (R592) -/
  | dramPatrolScrub (channel offset flips : Nat)
  /-- A block's read count or a marked sector triggers a refresh. (R592) -/
  | readDisturbRefresh (block : Nat) (bad : List Nat) (fails : Nat)
  /-- Valid flash pages are scrubbed on their 30-day or 7-day period. (R592) -/
  | flashReadScrub (block : Nat) (bad weak : List Nat)
  /-- A block's erase count runs 500 above its partition mean, and wear levelling moves it. (R592) -/
  | wearLevelling (block : Nat) (bad : List Nat) (fails : Nat)
  /-- Each channel is calibrated every 1 s. (R592) -/
  | ddrPeriodicCalibration (channel : Nat)
  /-- A DIMM's temperature moves by RETRAIN_STEP_C, and the channel is retrained for 2 ms. (R592) -/
  | ddrRetraining (channel : Nat)
  /-- Each sensor is calibrated hourly against its quadrant references. (R592) -/
  | sensorCalibration (sensor : Nat) (off : Int)
  /-- Every 10 min the crystal is counted against REFCLK, and KNL_TRIM is set. (R592) -/
  | kennelOscillatorTrim (ppm10 : Int) (refLost : Bool)
  /-- An activity has not completed its period within twice that period, and BRN_OVERRUN is raised. (R594) -/
  | brnOverrun (activity : Nat)
  /-- REFCLK is lost; CLK_REF_LOSS gives the safe state, and a main-domain reset is held. (R600) -/
  | refclkLoss
  /-- The root PLL unlocks, with CLK_PLL_UNLOCK and a held reset. (R600) -/
  | pllUnlock
  /-- REFCLK has been valid for 10 ms, and the clock-loss reset is released. (R600) -/
  | refclkRestore
  /-- Loss of the north or south reference stops its lanes and raises the port faults. (R601) -/
  | laneRefLoss (north : Bool)
  /-- The contactless crystal is lost, and the reader stops. (R601) -/
  | nfcXtalLoss
  /-- PWR_OK falls; flash programming and the engines stop and the MAIN domain is held in reset. (R605) -/
  | pwrOkFall (torn : List Nat)
  /-- PWR_OK rises, and a cold reset starts Table 13-10. (R606) -/
  | pwrOkRise
  /-- SYSRST_N held low for at least 1 µs causes a main-domain reset. (R606) -/
  | sysrst
  /-- RST_CMD.MAIN causes a main-domain reset. (R606) -/
  | rstMain (world : World)
  /-- RST_CMD.PAIR resets another core pair. (R606) -/
  | rstPair (issuer target : PairId) (world : World)
  /-- The watchdog count reaches TIMEOUT_MS, and a main-domain reset with cause WDT follows. (R608) -/
  | watchdogExpiry
  /-- A write of 0x5A to WDT_KICK restarts the watchdog count. (R608) -/
  | wdtKick (world : World) (key : Nat)
  /-- WDT_CTRL.EN starts the watchdog irreversibly. (R608) -/
  | wdtEnable (world : World)
  /-- PWR_CMD SEAL_ENTER, or AUTO_SEAL at arrival in HEEL, runs the steps of Table 20-6. (R609) -/
  | sealEnter (auto : Bool) (world : World) (x : SealIn)
  /-- PWR_CMD SHUTDOWN drains, releases, writes the catalogue, flushes, writes the marker and enters HEEL. (R611) -/
  | shutdown (goes : Bool) (world : World)
  /-- SHUT_S elapses before the marker is written, and SHUTDOWN ends INCOMPLETE. (R611) -/
  | shutdownTimeout
  /-- A write of PWR_AVS.TARGET sets the VDD_CORE target. (R604) -/
  | pwrAvs (target : Nat) (world : World)
  /-- Every 100 µs, a VOUT_COMMAND moves VDD_CORE by at most 10 mV toward the target. (R604) -/
  | avsStep (acknowledged : Bool)
  /-- ST_CMD.GO starts self-tests of a unit kind. (R613) -/
  | stCmd (issuer : PairId) (world : World) (kind : Nat)
  /-- The last unit of a commanded test completes; ST_STATUS and SELFTEST_RESULT are set and ST_DONE is raised. (R613) -/
  | stDone
  /-- A debug authorisation arriving by DBG_AUTH or 0x9004 is verified and opens its scopes, or is refused. (R616) -/
  | debugAuth (x : DebugIn)
  /-- NOT_AFTER passes, and master 92 is refused again. (R617) -/
  | debugExpiry
  /-- The TAP DBG_NONCE instruction shifts out the debug nonce. (R614) -/
  | dbgNonce
  /-- The TAP DBG_ACCESS instruction accesses memory as master 92 under an open scope. (R614) -/
  | dbgAccess (write : Bool) (addr len : Nat) (data : List Byte)
  /-- The TAP BYPASS instruction. (R614) -/
  | bypass
  /-- The TAP IDCODE instruction shifts out 0x1912_076B. (R614) -/
  | idcode
  /-- The TAP SAMPLE/PRELOAD instruction. (R614) -/
  | samplePreload (pins preload : Nat)
  /-- The TAP EXTEST instruction, under an open BSCAN scope. (R614) -/
  | extest (pins next : Nat)
  /-- The TAP CLAMP instruction, under an open BSCAN scope. (R614) -/
  | clamp
  /-- The TAP HIGHZ instruction, under an open BSCAN scope. (R614) -/
  | highz
  /-- TRST_N low resets the TAP controller. (R606) -/
  | testReset
  /-- A write to a register field without a row of its own takes effect according to its access code. (R5) -/
  | registerWrite (world : World) (slot off value : Nat)
  /-- VKEEP charges to within 100 mV of the Kennel's active supply, and KNL_STATUS.HOLDUP_OK is set. (R484) -/
  | holdupOk
  /-- SGMII sync and the PHY link return, the MAC follows the reported speed, and the level source MGT_LINK_DOWN stops. (R578) -/
  | mgtLinkUp (speed : Nat) (duplex : Bool)
  /-- An ARP, IPv6 neighbour discovery or ICMP/ICMPv6 echo request arrives at the management MAC and is answered. (R547) -/
  | arpNdEchoRequest (ask : MgmtAsk) (toUs : Bool) (body : List Byte)
  /-- 2 s pass after HELLO_REPLY without a valid Smilia AUTH, and the keys are erased and the session closes. (R556) -/
  | smlAuthWaitTimeout (session : Nat)
  /-- A core pair's self-test started by QREL or by the nightly release ends, and the pair returns to service or stays quarantined. (R407) -/
  | corePairSelftestDone (pair : PairId) (result : TestEnd) (signature : Nat)
  /-- The north or south SerDes reference becomes valid again, NREF_OK or SREF_OK is set, and its lanes may come back up. (R601) -/
  | laneRefReturn (north : Bool)
  /-- The contactless crystal runs again, NFC_XTAL_OK is set, and the reader can resume. (R601) -/
  | nfcXtalReturn
  deriving DecidableEq, Repr

end Sys2Proof
end

