-- ==== Sys2Proof/Machine/State.lean ====
section
/-!
DEFINITION. The state of the block: the queue of waiting commands, the model's clock and free-value counter, the outputs sent,
every register (one home for each field), and the hidden state of each unit, all plain data; and the state after reset.
-/

namespace Sys2Proof.Machine

/-- The reasons for which a command could stop with a fault. There are none: where the spec gives a command an effect the
model takes it, and where a command's precondition does not hold the state is unchanged (assumption 5). -/
inductive Fault where
  deriving DecidableEq, Repr

/-- The reasons for which a command has no meaning in this model. -/
inductive Refusal where
  /-- Raised by `exec`'s own arm alone, for a command whose meaning is not written; safe: the machine stops. -/
  | notModelled (mnemonic : String)
  deriving DecidableEq, Repr

structure State where
  /-- the commands that wait, first in, first out (the model's own) -/
  pending : List Instr
  /-- time since the start of the model's clock, in nanoseconds (the model's own, assumption 4) -/
  now : Nat
  /-- the real-time clock in nanoseconds since 1970 (R501) -/
  rtc : Nat
  /-- how many free values have been drawn (the model's own, assumption 2) -/
  draws : Nat
  /-- what the block has sent, the newest first (the model's own, assumption 6) -/
  out : List Output
  /-- service state (R28) -/
  svc : ServiceState
  /-- the present HEEL was entered under R32 and keeps DRAM and state (R33) -/
  heelRetains : Bool
  /-- every register field that differs from its reset value or has been written, by `Field.key` -/
  regs : Table Nat
  /-- the latched halves of 64-bit registers: the high word by 2 × address for reads, the low word by 2 × address + 1 for writes -/
  latch : Table Nat
  collector : Collector
  trail : Trail
  mem : Memory
  guards : Guards
  queue : QueueEngine
  stitch : Stitch
  staging : Staging
  shepherd : Shepherd
  pack : Pack
  south : South
  keys : Saddlebag
  awl : Awl
  cores : Cores
  flash : Flash
  kennel : Kennel
  collar : Collar
  reader : Reader
  panel : Panel
  sd : SdHost
  chip : Chip
  telemetry : Telemetry
  smilia : Smilia
  /-- dictionary entries without a register of their own, by (index × 256 + subindex) × 4096 + namespace (chapter 18) -/
  dict : Table Nat
  /-- the contents of DOMAIN entries, by the same key -/
  domains : Table (List Byte)
  deriving DecidableEq, Repr

/-- A record of a key that manufacture puts into the store under the fuse key (R301): system slot, attribute word, value. -/
def factoryRecord (slot attr value : Nat) : KeyRecord :=
  { fuse := true, sysSlot := slot, ns := 0, epoch := 0, gen := 0, attr := attr, value := value, under := Config.fuseKey.toNat }

/-- The key store as manufacture leaves it (Table 8-1): the identity key's two halves and the session signing key, VALID, PERSIST,
WRAPPER 1, of KIND 3, 4 and 5. -/
def factoryStore : Table KeyRecord :=
  [(1, factoryRecord 1 0x237 Config.identitySeed.toNat), (2, factoryRecord 2 0x247 Config.identityPrf.toNat), (3, factoryRecord 5 0x457 Config.sessionSeed.toNat)]

/-- The KENNEL_POR record of a new device (Table 15-7): record 0, from main power. -/
def kennelPor : KennelRec := { seq := 0, event := 14, resp := 0, supply := 0, mainOn := true, rtcValid := false, vbat := 0, secs := 0, temp := 0 }

/-- The Collar's security block as manufacture leaves it (R520). -/
def factorySec : SecBlock := { gen := 0, policy := 0, set := 0, tries := [8, 8, 8], pw := [List.replicate 8 0, List.replicate 8 0, List.replicate 8 0] }

/-- The machine after reset. -/
def State.reset : State where
  pending := []
  now := 0
  rtc := 0
  draws := 0
  out := []
  svc := .dark
  heelRetains := false
  regs := []
  latch := []
  collector := { running := false, recs := [], windows := [], refused := false, pulseEnd := none, checkInj := none, disagreed := [], mgmtAwl := none }
  trail := { running := false, nextSeq := 0, newest := 0, lastPort := 0, ports := [], ring := [], dram := [], onDie := true, firstSeq := 0, uncommitted := [], journal := [], subs := [] }
  mem := { cells := [], codes := [] }
  guards := { active := [], shadow := [], installed := [], violations := [], trackers := [], spareRows := [], remapped := [], fenced := [], ueTimes := [], addrRows := [], devBits := [], devRows := [], entryStarted := false }
  queue := { sessions := [], nextSession := none, halves := [], helloTimes := [], queues := [], objects := [], extents := [], counters := [], counterTime := [], lastCredit := 0, ingestUsed := 0, badHeaders := 0, tagFails := 0, helloDrops := 0, badAcks := 0, listDrops := 0, creditDrops := 0, halfDrops := 0, macsecDrops := 0, macsec := [], cachedCtxs := [], downMacs := [], settledObjects := 0, bytesIn := 0, bytesOut := 0 }
  stitch := { ctxs := [], current := [], mismatches := [], masks := [], stalled := [], held := [], tests := [], queued := [] }
  staging := { chans := [], lost := [], moves := [], savedRetired := [], failedSel := [], items := [], later := [] }
  shepherd := { media := [], shelves := [], savedMedia := [], savedShelves := [], wakes := [], staging := 0, restore := 0, held := [], due := [], asked := [], deferred := [], overdue := [], dueAt := none, lastSave := 0, ignoredReports := 0, hashPool := [], admittedIngest := 0, admittedRestore := 0, pendingTags := [] }
  pack := { state := [], tests := [], mismatches := [], signing := [], slotOpen := none, leaves := [], slotLen := 500, notarisedWaiting := [], epochs := [], nextEpoch := 1, blockEnd := 1, prevRoot := 0, genesis := true, gap := false, logHeaders := [], stopped := false, attestTimes := [], attestGroups := ([], []) }
  south := { modes := [], tethers := [], upPorts := [], assocs := [], pendingAssoc := [], fetches := [], catalogue := [], locators := [], restores := [], repairs := [], nextRepair := 0, evacuating := [], shutMarker := true, rebuildDue := false, rebuild := none, rebuilt := [], discarded := 0, badMsgs := 0, cached := [], waiting := [], stale := [], addrs := [] }
  keys := { slots := [], current := [], resident := [], nsEpoch := [], chain := [], store := factoryStore, nextSeq := 4, bankA := none, bankB := none, activeB := false, rotating := false, ownerRows := [], enrolled := false, live := none, pendingSet := none, nextEscrow := 1, custody := none, lastOutcome := 0, lostMacros := [], drbgRequests := 0, drbgAt := 0, enrollNonce := 0 }
  awl := { fetched := [], runs := [], fetchedIdx := [], abortedIdx := [], irqs := 0, irqFirst := 0, mismatches := [], tests := [], base := 0, sizeLog := 4, operand := [] }
  cores := Cores.reset
  flash := { cells := [], blocks := [], map := [], filling := [], intents := [], journal := [], nextSeq := 0, pointers := [{ carry := false, typ := 3, twin := 0, attempts := 0, prev := 0, gen := 1, version := 1, svn := 0, hash := 0 }], ptrUsed := 1, marked := [] }
  kennel := { dead := false, queue := [kennelPor], toCollar := [kennelPor], slew := 0, lowSeen := false, lastLog := 0 }
  collar := { scanned := false, uid := 0, copyA := some factorySec, copyB := none, custody := { slots := 512, recs := [] }, sensor := { slots := 1504, recs := [] }, session := none, turned := false, notes := [] }
  reader := { mode := .idle, card := none, active := false, served := 0, halted := [], tapped := [], last := 0, pings := [], hello := none, keys := none }
  panel := { presAt := none, servAt := none, presBlocked := false, servBlocked := false, presses := [] }
  sd := { last := 0, offAt := none, blocks := 0, running := none }
  chip := { powerOk := true, held := false, booted := false, bootFailed := false, image := { version := 0, svn := 0, len := 0, entry := 0, hash := 0, raiseSvn := false, signer := [] }, nonce := [], notAfter := [], debugLock := false, kicked := 0, tapIr := 1, tapHighz := false, tapPins := 0, tapSamples := 0, testRun := none, testResults := [], shut := .off, avsFails := 0 }
  telemetry := { temps := [], excluded := [], offsets := [], rails := [], power := 0, core := 0, dimms := [], trained := [], warn := { armed := true, high := 0, coolSince := none }, crit := { armed := true, high := 0, coolSince := none }, last := 0, kennelAt := 0, trims := [], refreshHeld := [] }
  smilia := { sessions := [], nextSession := none, halves := [], helloTimes := [], lastRate := none, writes := [], nextHandle := 1, status := [], pendingAddr := none, addr := [], oldAddr := none, vendorTick := 0 }
  dict := []
  domains := []

end Sys2Proof.Machine
end

