-- ==== Sys2Proof/Machine/Ops.lean ====
section
/-!
DEFINITION. The named operations that every command is written over: reading and writing register fields, drawing free values,
sending, the clock, the interrupt controller's pending bits (R394), and posting a record at a Trail port (R580).
-/

namespace Sys2Proof.Machine

/-- The outcome of a command that goes on. -/
def ok (s : State) : Host.Outcome State Fault Refusal := .next s

/-- The instance `i` of an indexed register's field (a slot index where the register has one, else an offset index), and `j`
its second index where it has both. -/
def Field.nth (f : Field) (i : Nat) (j : Nat := 0) : Field :=
  if f.slotStep = 0 then { f with off := f.off + f.offStep * i }
  else { f with slot := f.slot + f.slotStep * i, off := f.off + f.offStep * j }

/-- The copy of a banked field that world `w` has. -/
def Field.inWorld (f : Field) (w : World) : Field := { f with bank := w.num }

/-- The key of a field in the register table. -/
def Field.key (f : Field) : Nat := ((f.bank * 4096 + f.slot) * 65536 + f.off) * 64 + f.lo

/-- The reset value of a field: its Reset cell, but for the fields of IC_ROUTE_n that Table 11-4 fixes by source number and those of KNL_MON_m
that Table 15-2 gives. -/
def Field.resetValue (f : Field) : Nat :=
  if f.slot = 0xD0 ∧ f.off < 0x1000 then
    let n := f.off / 4
    if f.lo = 0 then (if n < 16 ∨ (32 ≤ n ∧ n < 48) ∨ n = 126 then 0 else 1)
    else if f.lo = 1 then (if n < 32 then n % 16 else 0)
    else if f.lo = 5 then (if 32 ≤ n ∧ n < 128 ∨ 512 ≤ n then 1 else 0)
    else f.reset
  else if f.slot = 0xF0 ∧ 0x100 ≤ f.off then
    let m := (f.off - 0x100) / 4
    if f.lo = 0 then [3, 2, 3, 3, 1, 3, 1, 2, 2, 1, 0, 0, 0, 3, 0].getD m 0
    else if f.lo = 8 then b2n (decide (m ∈ [5, 12, 13, 14]))
    else f.reset
  else f.reset

/-- The value of a field. -/
def State.rd (s : State) (f : Field) : Nat := (tget s.regs f.key).getD f.resetValue

/-- Store a value in a field, cut to its width. -/
def State.wr (s : State) (f : Field) (v : Nat) : State := { s with regs := tput s.regs f.key (v % 2 ^ f.width) }

/-- Add to a counter field, holding at its greatest value. -/
def State.bump (s : State) (f : Field) (n : Nat := 1) : State :=
  s.wr f (satAdd (2 ^ f.width - 1) (s.rd f) n)

/-- Add to a counter field that wraps. -/
def State.addTo (s : State) (f : Field) (n : Nat) : State := s.wr f (s.rd f + n)

/-- Whether a one-bit field is set. -/
def State.isSet (s : State) (f : Field) : Bool := s.rd f == 1

/-- Write a field from a truth value. -/
def State.flag (s : State) (f : Field) (b : Bool) : State := s.wr f (b2n b)

/-- Set bit `i` of a field to `b`. -/
def State.setBit (s : State) (f : Field) (i : Nat) (b : Bool) : State :=
  let v := s.rd f
  s.wr f (if bitOf v i = b then v else if b then v + 2 ^ i else v - 2 ^ i)

/-- Draw a free value of `w` bits. -/
def State.draw (s : State) (w : Nat) : Nat × State :=
  ((Config.freeValue w s.draws).toNat, { s with draws := s.draws + 1 })

/-- Send an output. -/
def State.send (s : State) (o : Output) : State := { s with out := o :: s.out }

/-- Send an output of numbers alone. -/
def State.emit (s : State) (d : Dest) (typ : Nat) (fields : List Nat) (bytes : List Byte := []) : State :=
  s.send { dest := d, typ := typ, fields := fields, bytes := bytes }

/-- Change the state of one unit. -/
def State.updCollector (s : State) (f : Collector → Collector) : State := { s with collector := f s.collector }
def State.updTrail (s : State) (f : Trail → Trail) : State := { s with trail := f s.trail }
def State.updKennel (s : State) (f : Kennel → Kennel) : State := { s with kennel := f s.kennel }
def State.updCollar (s : State) (f : Collar → Collar) : State := { s with collar := f s.collar }
def State.updPanel (s : State) (f : Panel → Panel) : State := { s with panel := f s.panel }
def State.updChip (s : State) (f : Chip → Chip) : State := { s with chip := f s.chip }
def State.updTelemetry (s : State) (f : Telemetry → Telemetry) : State := { s with telemetry := f s.telemetry }
def State.updSmilia (s : State) (f : Smilia → Smilia) : State := { s with smilia := f s.smilia }

/-- Enter a service state; `keep` says whether a HEEL keeps DRAM and state (R28, R33). -/
def State.enterService (s : State) (v : ServiceState) (keep : Bool) : State := { s with svc := v, heelRetains := keep }

/-- Set the real-time clock. -/
def State.setRtc (s : State) (t : Nat) : State := { s with rtc := t }

/-- Latch half of a 64-bit register (R7). -/
def State.setLatch (s : State) (k v : Nat) : State := { s with latch := tput s.latch k v }

/-- Let the clock run `d` nanoseconds; the RTC runs with it (R501), a slew under way at 500 ppm (R503). -/
def State.advance (s : State) (d : Nat) : State :=
  let step : Int := max (-(d / 2000 : Nat)) (min (d / 2000 : Nat) s.kennel.slew)
  { s with now := s.now + d, rtc := (((s.rtc + d : Nat) : Int) + step).toNat, kennel := { s.kennel with slew := s.kennel.slew - step } }

/-- Let the clock run up to time `t` where it lies ahead (assumption 4). -/
def State.advanceTo (s : State) (t : Nat) : State := s.advance (t - s.now)

/-- TIME64 of the device: seconds and a fraction of 32,768 ticks (R501). -/
def State.time64 (s : State) : Nat :=
  let sec := s.rtc / 1000000000
  let frac := s.rtc % 1000000000 * 32768 / 1000000000
  sec * 1000000000 + frac * 1000000000 / 32768

/-- One millisecond, one microsecond and one second of the model's clock. -/
def usec : Nat := 1000
def msec : Nat := 1000000
def second : Nat := 1000000000
def hour : Nat := 3600 * second

/-- The safe state holds (R476). -/
def State.safe (s : State) : Bool := s.isSet Reg.FCU_STATUS.SAFE

/-- The device is in SEAL and not in the safe state. -/
def State.inSeal (s : State) : Bool := s.svc == .seal && !s.safe

/-- The engines of seal service run: in SEAL, or in a HEEL that keeps them (R33), and not in the safe state. -/
def State.sealRuns (s : State) : Bool := (s.svc == .seal || s.heelRetains) && !s.safe

/-- The device is in HEEL or SEAL. -/
def State.lit (s : State) : Bool := s.svc != .dark

/-- Whether a source latches: sources 32 to 127 and 512 upward latch, 0 to 31 follow their level, the others as IC_ROUTE_n.MODE says (Table 11-4). -/
def State.sourceLatched (s : State) (n : Nat) : Bool :=
  if n < 32 then false else if n < 128 ∨ 512 ≤ n then true else s.isSet (Reg.IC_ROUTE.MODE.nth n)

/-- Make an interrupt source pending (R394). -/
def State.interrupt (s : State) (n : Nat) : State := s.flag (Reg.IC_ROUTE.PEND.nth n) true

/-- A level source stops asserting. -/
def State.deassert (s : State) (n : Nat) : State :=
  if s.sourceLatched n then s else s.flag (Reg.IC_ROUTE.PEND.nth n) false

/-- The defaults of the dictionary entries that have no register of their own (Tables 18-6 to 18-12). -/
def dictDefault (idx sub : Nat) : Nat :=
  match idx, sub with
  | 0x2000, 1 => 200
  | 0x2000, 2 => 50
  | 0x2000, 3 => 1000
  | 0x2000, 4 => 10000
  | 0x2000, 5 => 50
  | 0x2000, 6 => 600
  | 0x2000, 7 => 10
  | 0x2001, 0 => 0x1FF
  | 0x2003, 1 => 0xFFFF
  | 0x2101, 2 => 12
  | 0x2101, 3 => 4
  | 0x2101, 4 => 32
  | 0x2101, 5 => 8
  | 0x2101, 6 => 3
  | 0x2101, 7 => 0x1F
  | 0x2101, 10 => 1
  | 0x2101, 11 => 2 ^ 64 - 1
  | 0x8002, 0 => 7680
  | 0x8004, 2 => 115
  | 0x1100, 2 => 64
  | 0x1100, 4 => 24
  | 0x1200, 1 => 16
  | 0x1200, 2 => 60
  | 0x1200, 3 => 20
  | _, _ => 0

/-- What the dictionary keeps of its own is saved, but for VENDOR_WINDOW_MIN (Tables 18-6 to 18-12). -/
def dictSaved (idx : Nat) : Bool := idx != 0x1203

/-- The key of a dictionary entry of a namespace (0 for entries that are not per namespace). -/
def dictKey (idx sub ns : Nat) : Nat := (idx * 256 + sub) * 4096 + ns

/-- The value of a dictionary entry. -/
def State.dictVal (s : State) (idx sub : Nat) (ns : Nat := 0) : Nat := (tget s.dict (dictKey idx sub ns)).getD (dictDefault idx sub)

/-- Set a dictionary entry. -/
def State.setDict (s : State) (idx sub v : Nat) (ns : Nat := 0) : State := { s with dict := tput s.dict (dictKey idx sub ns) v }

/-- Drop the dictionary entries that satisfy `hit`. -/
def State.dropDict (s : State) (hit : Nat → Bool) : State :=
  { s with dict := tkeep s.dict (fun k _ => !hit k), domains := tkeep s.domains (fun k _ => !hit k) }

/-- The content of a DOMAIN entry. -/
def State.domain (s : State) (idx sub : Nat) (ns : Nat := 0) : List Byte := tgetD s.domains (dictKey idx sub ns) []

/-- The plain record of a source that stamps TIME now (R581). -/
def State.record (s : State) (typ origin : Nat) (critical : Bool) (body : List Byte) : TrailRec :=
  { seq := 0, time := s.time64, typ := typ, origin := origin, critical := critical, world := 0, level := 0, conseq := false, injected := false, gap := false, held := false, source := none, count := 1, body := body }

/-- Merge a record into the newest held one (R580). -/
def mergeRec (a b : TrailRec) : TrailRec := { a with count := satAdd 65535 a.count b.count }

/-- Set what a source port holds. -/
def State.putPort (s : State) (port : Nat) (q : TrailPort) : State := s.updTrail (fun t => { t with ports := tput t.ports port q })

/-- Hold a record at a source port: up to eight; a ninth of the newest's TYPE merges into it, another is dropped and counted (R580). -/
def State.post (s : State) (port : Nat) (r : TrailRec) : State :=
  let p := tgetD s.trail.ports port {}
  if p.heldRecs.length < 8 then s.putPort port { p with heldRecs := p.heldRecs ++ [(s.now, r)] }
  else match p.heldRecs.getLast? with
    | some (t, last) =>
      if last.typ = r.typ then s.putPort port { p with heldRecs := p.heldRecs.dropLast ++ [(t, mergeRec last r)] }
      else (s.putPort port { p with lost := p.lost + 1 }).bump Reg.TRL_EVENTS.LOST
    | none => s

/-- Write a record of a unit that is not a core: TYPE, master ID, CRITICAL, body. -/
def State.trailRec (s : State) (typ origin : Nat) (critical : Bool) (body : List Byte) : State :=
  s.post origin (s.record typ origin critical body)

/-- Master IDs of Table 12-4 that the model names. -/
def masterStitch (n : Nat) : Nat := 16 + n
def masterAwl (u : Nat) : Nat := 28 + u
def masterSponge (j : Nat) : Nat := 45 + j / 4
def masterQueue : Nat := 77
def masterShepherd : Nat := 78
def masterSaddlebag : Nat := 79
def masterFlash : Nat := 80
def masterSouth : Nat := 81
def masterRestore : Nat := 82
def masterTrail : Nat := 83
def masterCollector : Nat := 84
def masterBurnisher : Nat := 85
def masterTelemetry : Nat := 86
def masterAllocator : Nat := 87
def masterMgmt : Nat := 88
def masterCard : Nat := 89
def masterNfc : Nat := 90
def masterKennel : Nat := 91
def masterTap : Nat := 92
def masterTest : Nat := 94
def masterBoot : Nat := 95
def masterPanel : Nat := 96

/-- The STATE record of a change of service state (Table 19-2): 0 DARK, 1 HEEL, 2 SEAL, 3 safe. -/
def State.stateRecord (s : State) (before after : Nat) : State :=
  s.trailRec 0x0501 masterShepherd true [BitVec.ofNat 8 before, BitVec.ofNat 8 after]

/-- The code of a service state in the STATE record. -/
def State.svcCode (s : State) : Nat :=
  if s.safe then 3 else match s.svc with | .dark => 0 | .heel => 1 | .seal => 2

end Sys2Proof.Machine
end

