-- ==== Sys2Proof/Machine/CollectorBase.lean ====
section
/-!
DEFINITION. The fault collector without its unit actions (chapter 14): the catalogue of sources (Tables 14-1 and 14-3), the
dependency sets (Table 14-6), a detection's record, Trail record, notification and FAULT_N pulse.
-/

namespace Sys2Proof.Machine

/-- The defaults and limits of a source (Table 14-3): class, reaction, the reactions allowed, and whether it is fixed. -/
structure SourceSpec where
  cls : Nat
  react : Nat
  allowed : List Nat
  fixed : Bool := false
  deriving DecidableEq, Repr

/-- Reaction codes of Table 14-2. -/
def rLog : Nat := 0
def rNotify : Nat := 1
def rQuarantine : Nat := 2
def rUnitReset : Nat := 3
def rSafe : Nat := 4

/-- Source numbers of Table 14-3 by name. -/
def srcFcuLockstep : Nat := 0x000
def srcFcuNest : Nat := 0x001
def srcQeLockstep : Nat := 0x002
def srcShpLockstep : Nat := 0x003
def srcSdbLockstep : Nat := 0x004
def srcTrlLockstep : Nat := 0x005
def srcTrailBacklog : Nat := 0x006
def srcCentralRetry : Nat := 0x007
def srcFabTimeout : Nat := 0x008
def srcClkStop : Nat := 0x009
def srcFcuMemErr : Nat := 0x00A
def srcStu (n i : Nat) : Nat := 0x010 + 8 * n + i
def srcPckMismatch : Nat := 0x070
def srcPckSelftestFail : Nat := 0x071
def srcPckQuarantine : Nat := 0x072
def srcPckVerifyFail : Nat := 0x073
def srcPckSignFail : Nat := 0x074
def srcPckKeyBus : Nat := 0x075
def srcAwl (u i : Nat) : Nat := 0x080 + 8 * u + i
def srcCore (p i : Nat) : Nat := 0x100 + 4 * p + i
def srcMc (c i : Nat) : Nat := 0x140 + 4 * c + i
def srcEccUe (k : Nat) : Nat := 0x170 + k
def srcEccHard : Nat := 0x1A0
def srcEccSpareOut : Nat := 0x1A1
def srcAtViolation : Nat := 0x1A2
def srcStgChannelLost : Nat := 0x1B0
def srcStgCheckFail : Nat := 0x1B1
def srcStgRegenFail : Nat := 0x1B2
def srcStgRetireFull : Nat := 0x1B3
def srcShpNoPlacement : Nat := 0x1C0
def srcShpWakeFail : Nat := 0x1C1
def srcShpShelfLost : Nat := 0x1C2
def srcShpStOverdue : Nat := 0x1C3
def srcSdbMacroLost : Nat := 0x1D0
def srcSdbRecordBad : Nat := 0x1D1
def srcTrngSrcFail : Nat := 0x1D2
def srcTrngFail : Nat := 0x1D3
def srcFlsUe : Nat := 0x1E0
def srcFlsSpareLow : Nat := 0x1E1
def srcFlsLunLost : Nat := 0x1E2
def srcBootTwinFail : Nat := 0x1E3
def srcBootRevert : Nat := 0x1E4
def srcNpPortFail (p : Nat) : Nat := 0x200 + p
def srcFtLinkDown (p : Nat) : Nat := 0x220 + p
def srcFtAuthFail : Nat := 0x238
def srcFtPutFail : Nat := 0x239
def srcFtDurableTmo : Nat := 0x23A
def srcRstTagFail : Nat := 0x240
def srcRstUnrecoverable : Nat := 0x241
def srcRprAtRisk : Nat := 0x242
def srcClkRefLoss : Nat := 0x250
def srcClkPllUnlock : Nat := 0x251
def srcPwrRail : Nat := 0x252
def srcThermWarn : Nat := 0x253
def srcThermCrit : Nat := 0x254
def srcKnlAlarm : Nat := 0x255
def srcKnlCellLow : Nat := 0x256
def srcNfcTxFault : Nat := 0x280
def srcNfcXtalLoss : Nat := 0x281
def srcColTorn : Nat := 0x282
def srcColPwBlocked : Nat := 0x283
def srcColMemErr : Nat := 0x284
def srcPnlStuck : Nat := 0x2A0
def srcScTorn : Nat := 0x2A1
def srcScTimeout : Nat := 0x2A2
def srcScPwrFault : Nat := 0x2A3
def srcScTuneFail : Nat := 0x2A4
def srcMgtLinkDown : Nat := 0x2C0
def srcSmlAuthFail : Nat := 0x2C1
def srcSmlHelloRate : Nat := 0x2C2
def srcMgtPhyFault : Nat := 0x2C3
def srcSmlSaveFail : Nat := 0x2C4
def srcTrlFlashLag : Nat := 0x2E0
def srcTrlSubFault : Nat := 0x2E1
def srcTelSensorFail : Nat := 0x2E2
def srcBrnOverrun : Nat := 0x2E3

/-- A row with class, default reaction and allowed reactions. -/
def spec (c r : Nat) (a : List Nat) : Option SourceSpec := some { cls := c, react := r, allowed := a }

/-- A row whose Allowed column reads "fixed". -/
def specFixed (c r : Nat) : Option SourceSpec := some { cls := c, react := r, allowed := [], fixed := true }

/-- Rows of stitch units by index (Table 14-3). -/
def stitchSpec : Nat → Option SourceSpec
  | 0 => spec 1 0 [0, 1]
  | 1 => spec 1 0 [0, 1]
  | 2 => spec 1 1 [0, 1, 3]
  | 3 => spec 2 2 [2, 4]
  | 4 => spec 2 2 [2, 4]
  | 5 => spec 2 1 [1, 3, 4]
  | _ => none

/-- Rows of Awl units by index. -/
def awlSpec : Nat → Option SourceSpec
  | 0 => spec 1 0 [0, 1]
  | 1 => spec 2 2 [2, 4]
  | 2 => spec 2 2 [2, 4]
  | 3 => specFixed 2 2
  | 4 => spec 1 0 [0, 1]
  | 5 => spec 1 1 [0, 1]
  | 6 => spec 2 1 [1, 4]
  | _ => none

/-- Rows of core pairs by index. -/
def pairSpec : Nat → Option SourceSpec
  | 0 => spec 0 0 [0, 1]
  | 1 => specFixed 2 2
  | 2 => spec 2 2 [2, 4]
  | 3 => specFixed 0 0
  | _ => none

/-- Rows of DDR5 channels by index. -/
def channelSpec : Nat → Option SourceSpec
  | 0 => spec 1 1 [0, 1]
  | 1 => spec 1 1 [0, 1]
  | 2 => specFixed 2 2
  | 3 => spec 0 0 [0, 1]
  | _ => none

/-- The single sources of Table 14-3 and of chapters 16 to 19. -/
def singleSpec : Nat → Option SourceSpec
  | 0x000 => specFixed 3 4
  | 0x001 => specFixed 3 0
  | 0x002 => specFixed 3 4
  | 0x003 => specFixed 3 4
  | 0x004 => specFixed 3 4
  | 0x005 => specFixed 3 4
  | 0x006 => spec 1 1 [0, 1]
  | 0x007 => spec 0 0 [0, 1]
  | 0x008 => spec 1 1 [0, 1]
  | 0x009 => spec 2 1 [0, 1, 4]
  | 0x00A => specFixed 1 0
  | 0x070 => spec 1 0 [0, 1]
  | 0x071 => spec 2 2 [2, 4]
  | 0x072 => spec 2 2 [2, 4]
  | 0x073 => spec 1 1 [0, 1]
  | 0x074 => spec 3 4 [1, 4]
  | 0x075 => spec 1 0 [0, 1]
  | 0x1A0 => spec 0 0 [0, 1]
  | 0x1A1 => spec 2 1 [1]
  | 0x1A2 => spec 1 1 [0, 1]
  | 0x1B0 => spec 2 1 [1]
  | 0x1B1 => spec 1 0 [0, 1]
  | 0x1B2 => spec 3 1 [1]
  | 0x1B3 => spec 2 1 [1]
  | 0x1C0 => spec 2 1 [1]
  | 0x1C1 => spec 2 1 [1]
  | 0x1C2 => spec 2 1 [1]
  | 0x1C3 => spec 1 1 [0, 1]
  | 0x1D0 => spec 2 1 [1, 4]
  | 0x1D1 => spec 2 1 [1]
  | 0x1D2 => spec 1 1 [1]
  | 0x1D3 => spec 3 1 [1, 4]
  | 0x1E0 => spec 1 1 [0, 1]
  | 0x1E1 => spec 1 1 [1]
  | 0x1E2 => spec 2 1 [1, 4]
  | 0x1E3 => spec 2 1 [1]
  | 0x1E4 => spec 2 1 [1]
  | 0x238 => spec 1 1 [0, 1]
  | 0x239 => spec 1 1 [0, 1]
  | 0x23A => spec 1 1 [0, 1]
  | 0x240 => spec 1 1 [0, 1]
  | 0x241 => spec 3 1 [1]
  | 0x242 => spec 2 1 [1]
  | 0x250 => specFixed 3 4
  | 0x251 => specFixed 3 4
  | 0x252 => specFixed 3 4
  | 0x253 => spec 1 1 [1]
  | 0x254 => specFixed 3 4
  | 0x255 => spec 2 1 [1]
  | 0x256 => spec 1 1 [1]
  | _ => none

/-- The source numbers that chapters 16 to 19 assign in 0x280 to 0x2FF. -/
def lateSources : List Nat :=
  [0x280, 0x281, 0x282, 0x283, 0x284, 0x2A0, 0x2A1, 0x2A2, 0x2A3, 0x2A4, 0x2C0, 0x2C1, 0x2C2, 0x2C3, 0x2C4, 0x2E0, 0x2E1, 0x2E2, 0x2E3]

/-- The catalogue: the defaults and limits of a source number, none where Tables 14-1 and 14-3 assign none (R464, R467). -/
def sourceSpec (n : Nat) : Option SourceSpec :=
  if 0x010 ≤ n ∧ n < 0x070 then stitchSpec ((n - 0x010) % 8)
  else if 0x080 ≤ n ∧ n < 0x100 then awlSpec ((n - 0x080) % 8)
  else if 0x100 ≤ n ∧ n < 0x140 then pairSpec ((n - 0x100) % 4)
  else if 0x140 ≤ n ∧ n < 0x170 then channelSpec ((n - 0x140) % 4)
  else if 0x170 ≤ n ∧ n < 0x1A0 then spec 1 1 [0, 1]
  else if 0x200 ≤ n ∧ n < 0x210 then spec 2 1 [1, 3]
  else if 0x220 ≤ n ∧ n < 0x238 then spec 1 1 [1, 3]
  else if 0x3F0 ≤ n ∧ n < 0x400 then spec 0 0 [0, 1, 2, 3, 4]
  else if n ∈ lateSources then spec 1 0 [0, 1]
  else singleSpec n

/-- The level sources of R636; every other source is a pulse source. -/
def levelSource (n : Nat) : Bool :=
  n == srcTrailBacklog || n == srcFlsLunLost || n == srcFlsSpareLow || n == srcTrngFail || n == srcClkRefLoss
  || n == srcClkPllUnlock || n == srcPwrRail || n == srcThermWarn || n == srcThermCrit || n == srcPnlStuck
  || n == srcMgtLinkDown || (0x200 ≤ n && n < 0x210) || (0x220 ≤ n && n < 0x238)
  || (0x100 ≤ n && n < 0x140 && n % 4 == 3)

/-- The unit that a source and its DETAIL name (R465, Table 14-3). -/
def sourceUnit (n detail : Nat) : UnitRef :=
  if 0x010 ≤ n ∧ n < 0x070 then .stitch ((n - 0x010) / 8)
  else if 0x070 ≤ n ∧ n < 0x080 then .sponge (detail % 128)
  else if 0x080 ≤ n ∧ n < 0x100 then .awl ((n - 0x080) / 8)
  else if 0x100 ≤ n ∧ n < 0x140 then .pair ((n - 0x100) / 4)
  else if 0x140 ≤ n ∧ n < 0x170 then .channel ((n - 0x140) / 4)
  else if 0x200 ≤ n ∧ n < 0x210 then .north (n - 0x200)
  else if 0x220 ≤ n ∧ n < 0x238 then .south (n - 0x220)
  else .none

/-- The record of a source. -/
def State.faultRec (s : State) (n : Nat) : FaultRec := tgetD s.collector.recs n {}

/-- Change the record of a source. -/
def State.updRec (s : State) (n : Nat) (f : FaultRec → FaultRec) : State :=
  s.updCollector (fun c => { c with recs := tupd c.recs n {} f })

/-- The class, reaction and LINE in force for a source (R467): those that firmware has set, else the defaults; the default LINE is
the default class. FCU_NEST reacts as FCU_CFG.NEST says. -/
def State.sourceCfg (s : State) (n : Nat) : Nat × Nat × Nat :=
  if n = srcFcuNest then (3, if s.isSet Reg.FCU_CFG.NEST then rSafe else rLog, 3)
  else match (s.faultRec n).cfg, sourceSpec n with
    | some c, _ => c
    | none, some d => (d.cls, d.react, d.cls)
    | none, none => (0, 0, 0)

/-- The clock-gate number of a unit (Table 20-3). -/
def gateOf : UnitRef → Option Nat
  | .stitch n => some n
  | .sponge j => some (128 + j)
  | .awl u => some (16 + u)
  | .pair p => some (32 + p)
  | .channel c => some (48 + c)
  | .north p => some (64 + p)
  | .south p => some (80 + p)
  | .none => none

/-- Whether CLK_STOP names the gate of a unit. -/
def clkStopNames (u : UnitRef) (src detail : Nat) : Bool := src == srcClkStop && gateOf u == some detail

/-- Whether a source with its DETAIL lies in the dependency set of a reaction on a unit (Table 14-6). -/
def inDependencySet (react : Nat) (u : UnitRef) (src detail : Nat) : Bool :=
  if react = rSafe then true
  else if react < rQuarantine then false
  else (clkStopNames u src detail && (match u with | .channel _ => false | _ => true)) || match u with
    | .stitch n => (src == srcFabTimeout && (bitsOf detail 0 7 == masterStitch n || bitsOf detail 16 9 == 0x050 + n)) || (srcStu n 0 ≤ src && src ≤ srcStu n 5)
    | .sponge j => (src == srcFabTimeout && bitsOf detail 0 7 == masterSponge j) || ((src == srcPckMismatch || src == srcPckKeyBus) && detail % 128 == j)
    | .awl a => (src == srcFabTimeout && bitsOf detail 0 7 == masterAwl a) || (srcAwl a 0 ≤ src && src ≤ srcAwl a 6)
    | .pair p => (src == srcFabTimeout && bitsOf detail 0 7 == p) || src == srcCore p 0 || src == srcCore p 3 || (src == srcTrailBacklog && bitsOf detail 0 7 == p)
    | .channel c => (src == srcFabTimeout && bitsOf detail 8 6 == 16 + c) || src == srcMc c 0 || src == srcMc c 1 || (src == srcStgCheckFail && bitsOf detail 0 4 == c)
    | .north p => src == srcNpPortFail p
    | .south p => src == srcFtLinkDown p
    | .none => false

/-- The open window that makes a detection consequent, if any: the earliest-opened one that holds it and whose reaction is not
less severe (R472). -/
def State.suppressor (s : State) (src detail react : Nat) : Option Window :=
  s.collector.windows.find? (fun w => inDependencySet w.reaction w.unit src detail && decide (react ≤ w.reaction))

/-- The reaction of a source is running while its own window is open (R474). -/
def State.reactionRunning (s : State) (src : Nat) : Bool :=
  s.collector.windows.any (fun w => w.opener == src && w.reaction != rSafe)

/-- Drive FAULT_N low for the pulse time, starting it again in a pulse (R477). -/
def State.faultPulse (s : State) : State :=
  let units := s.rd Reg.FCU_PIN.PULSE
  (s.updCollector (fun c => { c with pulseEnd := some (s.now + units * 10 * usec) })).flag Reg.FCU_PIN.LEVEL false

/-- The body of a FAULT record (Table 19-2). -/
def faultBody (detail cls react : Nat) (by' : Option Nat) : List Byte :=
  leBytes 4 detail ++ leBytes 1 cls ++ leBytes 1 react ++ leBytes 2 (match by' with | some w => w + 32768 | none => 0)

/-- Write the Trail record of a detection, unless the source wrote one within the last 10 µs (R470). -/
def State.faultTrail (s : State) (src detail cls react : Nat) (sup : Option Nat) (injected : Bool) : State :=
  let r := s.faultRec src
  let recent : Bool := match r.lastTrail with | some t => decide (s.now < t + 10 * usec) | none => false
  if recent then s.updRec src (fun r => { r with merged := r.merged + 1 })
  else
    let body := faultBody detail cls react sup
    let base := s.record 0x0100 masterCollector (decide (2 ≤ cls)) body
    let tr := { base with conseq := sup.isSome, injected := injected, source := some src, count := satAdd 65535 1 r.merged }
    (s.post masterCollector tr).updRec src (fun r => { r with merged := 0, lastTrail := some s.now, trailPending := true })

/-- How a detection is injected (R479, R481): not at all, as a record with its notification alone, or with its reaction. -/
inductive Injection where
  | no | quiet | full
  deriving DecidableEq, Repr

/-- Take a detection up to its unit actions: the record, the Trail record, the notification and the FAULT_N pulse (R466, R469, R470,
R472, R474, R477, R479); a level source detects at its rising edge alone (R466). The second part says which reaction is to act on units. -/
def State.detectBase (s : State) (src detail : Nat) (inj : Injection := .no) : State × Option Nat :=
  if !s.collector.running || (sourceSpec src).isNone || (levelSource src && inj == .no && (s.faultRec src).live) then (s, none)
  else
    let (cls, react, line) := s.sourceCfg src
    let sup := s.suppressor src detail react
    let merged := s.reactionRunning src
    let stop := sup.isSome || merged
    let code := if stop then 7 else if inj = .quiet then rNotify else react
    let s := s.updRec src (fun r => { r with count := satAdd 65535 r.count 1, conseq := if sup.isSome then satAdd 65535 r.conseq 1 else r.conseq, sticky := true, live := if levelSource src && inj = .no then true else r.live, lastConseq := sup.isSome, lastInjected := inj != .no, detail := detail % 2 ^ 32, reaction := code, window := sup.map Window.opener })
    let s := s.faultTrail src detail cls code (sup.map Window.opener) (inj != .no)
    if stop then (s, none)
    else
      let s := if rNotify ≤ react || inj = .quiet then s.interrupt (64 + line) else s
      if inj = .quiet then (s, none)
      else
        let s := if s.rd Reg.FCU_PIN.CLASS ≤ cls then s.faultPulse else s
        (s, if rQuarantine ≤ react then some react else none)

/-- Take a detection whose reaction acts on no unit (LOG or NOTIFY in every configuration). -/
def State.note (s : State) (src detail : Nat) : State := (s.detectBase src detail).1

/-- A level source's condition ends: LIVE follows it (R636). -/
def State.fall (s : State) (src : Nat) : State := s.updRec src (fun r => { r with live := false })

/-- Open a consequence window (R472). -/
def State.openWindow (s : State) (src : Nat) (u : UnitRef) (react : Nat) : State :=
  s.updCollector (fun c => { c with windows := c.windows ++ [{ opener := src, unit := u, reaction := react, openedAt := s.now }] })

/-- Close the windows over a unit that has reported ready; a SAFE window stays (R473). -/
def State.closeWindows (s : State) (u : UnitRef) : State :=
  s.updCollector (fun c => { c with windows := c.windows.filter (fun w => w.reaction == rSafe || w.unit != u) })

end Sys2Proof.Machine
end

