-- ==== Sys2Proof/Machine/Memory.lean ====
section
/-!
DEFINITION. Memory as one list of cells in canonical form (R409): reading and writing bytes. An unlisted byte reads as 0: the spec
gives memory no contents after power-on (DESIGN CHOICE, assumption 8).
-/

namespace Sys2Proof.Machine

/-- The byte at an address. -/
def cellAt : List Host.Cell → Nat → Byte
  | [], _ => 0
  | (a, b) :: t, k => if a = k then b else cellAt t k

/-- Put a byte at an address, keeping the canonical form: a zero is not listed. -/
def cellPut : List Host.Cell → Nat → Byte → List Host.Cell
  | [], k, v => if v = 0 then [] else [(k, v)]
  | (a, b) :: t, k, v =>
    if k < a then (if v = 0 then (a, b) :: t else (k, v) :: (a, b) :: t)
    else if k = a then (if v = 0 then t else (k, v) :: t)
    else (a, b) :: cellPut t k v

/-- The canonical form: addresses strictly rising and no byte equal to what an unlisted address reads as. -/
def cellsWf (c : List Host.Cell) : Bool := rising c && c.all (fun p => p.2 != 0)

/-- The canonical form of memory: its cells', and rising keys of its codes. -/
def Memory.wf (m : Memory) : Bool := cellsWf m.cells && rising m.codes

/-- The bytes from an address. -/
def readCells (c : List Host.Cell) (a : Nat) : Nat → List Byte
  | 0 => []
  | n + 1 => cellAt c a :: readCells c (a + 1) n

/-- Write bytes from an address. -/
def writeCells : List Host.Cell → Nat → List Byte → List Host.Cell
  | c, _, [] => c
  | c, a, b :: bs => writeCells (cellPut c a b) (a + 1) bs

/-- The data bits of check bits c0 to c6 (Table 12-2). -/
def checkTerms : List (List Nat) :=
  [[0, 1, 2, 3, 4, 5, 6, 7, 8, 9, 10, 11, 12, 13, 14],
   [0, 1, 2, 3, 4, 15, 16, 17, 18, 19, 20, 21, 22, 23, 24],
   [0, 5, 6, 7, 8, 15, 16, 17, 18, 25, 26, 27, 28, 29, 30],
   [1, 5, 9, 10, 11, 15, 19, 20, 21, 25, 26, 27, 31],
   [2, 6, 9, 12, 13, 16, 19, 22, 23, 25, 28, 29, 31],
   [3, 7, 10, 12, 14, 17, 20, 22, 24, 26, 28, 30, 31],
   [4, 8, 11, 13, 14, 18, 21, 23, 24, 27, 29, 30]]

/-- The XOR of the bits of `d` whose numbers are listed. -/
def xorOf (d : Nat) (bits : List Nat) : Bool := bits.foldl (fun b i => xor b (bitOf d i)) false

/-- A number from its bits, the least significant first. -/
def ofBits : List Bool → Nat
  | [] => 0
  | b :: bs => b2n b + 2 * ofBits bs

/-- Check bits c0 to c6 of 32 data bits (R412). -/
def checkBits (d : Nat) : Nat := ofBits (checkTerms.map (xorOf d))

/-- An address lies in DRAM (Table 12-1). -/
def inDram (a : Nat) : Bool := decide (0x800000000000 ≤ a)

/-- The check bits of a word at an address: c0 to c6, and c7 of R413 in DRAM. -/
def encodeWord (a d : Nat) : Nat :=
  checkBits d + (if inDram a then 128 * b2n (xor (xorOf a (rangeFrom 2 37)) (xorOf d (List.range 32))) else 0)

/-- The column of data bit `i` in c0 to c6. -/
def eccColumn (i : Nat) : Nat := ofBits (checkTerms.map (fun t => decide (i ∈ t)))

/-- The outcomes of Table 12-3. -/
inductive EccOutcome where
  | clean | data (i : Nat) | check | addr | poison | ue
  deriving DecidableEq, Repr

/-- The outcome of a syndrome of `c0` to `c6` and, in DRAM, `c7` (Table 12-3). -/
def eccDecode (dram : Bool) (syn : Nat) : EccOutcome :=
  let low := syn % 128
  let s7 := bitOf syn 7
  if low = 0 then (if dram && s7 then .addr else .clean)
  else if low = 0x7F then (if !dram || s7 then .poison else .ue)
  else match (List.range 32).find? (fun i => eccColumn i == low) with
    | some i => if !dram || s7 then .data i else .ue
    | none => if low ∈ [1, 2, 4, 8, 16, 32, 64] then (if dram && s7 then .ue else .check) else .ue

/-- The check bits stored for a word whose code is `c`: none listed where they are the encoding of its data. -/
def putCode (codes : Table Nat) (a d c : Nat) : Table Nat := if c = encodeWord a d then tdel codes (a / 4) else tput codes (a / 4) c

/-- The 32 data bits stored at a word address. -/
def wordAt (cells : List Host.Cell) (a : Nat) : Nat := ofLe (readCells cells a 4)

/-- The check bits listed for the word at a word address; none where they are the encoding of its data. -/
def Memory.code (m : Memory) (a : Nat) : Option Nat := tget m.codes (a / 4)

/-- The outcome of reading the stored word at a word address (R414). -/
def Memory.outcome (m : Memory) (a : Nat) : EccOutcome :=
  match m.code a with
  | none => .clean
  | some c => eccDecode (inDram a) (c ^^^ encodeWord a (wordAt m.cells a))

/-- The data that a checker returns for a stored word: a correctable data bit inverted (Table 12-3). -/
def Memory.corrected (m : Memory) (a : Nat) : Nat :=
  match m.outcome a with
  | .data i => wordAt m.cells a ^^^ 2 ^ i
  | _ => wordAt m.cells a

/-- An outcome whose data are returned with poison. -/
def EccOutcome.poisons : EccOutcome → Bool
  | .addr | .poison | .ue => true
  | _ => false

/-- The listed word addresses that overlap a range of bytes. -/
def Memory.listed (m : Memory) (a n : Nat) : List Nat := (tkeys m.codes (fun k _ => decide (a < 4 * k + 4 ∧ 4 * k < a + n))).map (4 * ·)

/-- Store a word with given check bits unchanged. -/
def Memory.storeWord (m : Memory) (a d c : Nat) : Memory :=
  { cells := writeCells m.cells a (leBytes 4 d), codes := putCode m.codes a d c }

/-- Correct the correctable listed words of a range in place (R415). -/
def Memory.fix (m : Memory) (ws : List Nat) : Memory :=
  ws.foldl (fun m a => match m.outcome a with
    | .data _ | .check => m.storeWord a (m.corrected a) (encodeWord a (m.corrected a))
    | _ => m) m

/-- Write bytes: words take fresh check bits; a word written in part that reads with poison takes inverted check bits, so that it reads
back as POISON (R416). -/
def Memory.write (m : Memory) (a : Nat) (bs : List Byte) : Memory :=
  let listed := m.listed a bs.length
  let part := listed.filter (fun w => decide (w < a ∨ a + bs.length < w + 4))
  let keep := part.filter (fun w => (m.outcome w).poisons)
  let m := m.fix part
  let m : Memory := { cells := writeCells m.cells a bs, codes := listed.foldl (fun t w => tdel t (w / 4)) m.codes }
  keep.foldl (fun m w => m.storeWord w (wordAt m.cells w) (encodeWord w (wordAt m.cells w) ^^^ (if inDram w then 255 else 127))) m

/-- Read `n` bytes of memory as their checkers return them: correctable words corrected. -/
def State.readMem (s : State) (a n : Nat) : List Byte := readCells (s.mem.fix (s.mem.listed a n)).cells a n

/-- The word of the flip of R425. -/
def State.flipWord (s : State) : Nat := s.rd Reg.ECC_SPLIT_ADDR.ADDR * 4

/-- A write to a range is flipped: EN and ARMED are both 1 and it writes the word at ECC_SPLIT_ADDR (R425). -/
def State.flips (s : State) (a n : Nat) : Bool :=
  s.isSet Reg.ECC_TEST.EN && s.isSet Reg.ECC_TEST.ARMED && decide (a < s.flipWord + 4 ∧ s.flipWord < a + n)

/-- Drop the reservations of the lines that a write touches, but for the writing pair's own (R358). -/
def State.dropReserved (s : State) (a n : Nat) (own : Nat → Bool) : State :=
  { s with cores := { s.cores with reserved := tkeep s.cores.reserved (fun p l => own p || decide (a + n ≤ l ∨ l + 64 ≤ a)) } }

/-- Store a word with given check bits. -/
def State.putWord (s : State) (a d c : Nat) : State := { s with mem := s.mem.storeWord a d c }

/-- Write bytes with fresh check bits (R416). -/
def State.putFresh (s : State) (a : Nat) (bs : List Byte) : State := { s with mem := s.mem.write a bs }

/-- Write bytes to memory with fresh check bits, and flip the armed word (R425). -/
def State.storeMem (s : State) (a : Nat) (bs : List Byte) : State :=
  let t := s.putFresh a bs
  if s.flips a bs.length then
    let w := s.flipWord
    let d := wordAt t.mem.cells w
    let c := (t.mem.code w).getD (encodeWord w d)
    (t.putWord w (d ^^^ s.rd Reg.ECC_FLIP_DATA.FLIP) (c ^^^ (s.rd Reg.ECC_TEST.FLIP_CHK % (if inDram w then 256 else 128)))).flag Reg.ECC_TEST.ARMED false
  else t

/-- Write bytes as a master that is no core pair. -/
def State.writeMem (s : State) (a : Nat) (bs : List Byte) : State := (s.dropReserved a bs.length (fun _ => false)).storeMem a bs

/-- The base address of DRAM channel `c` (Table 12-1). -/
def dramBase (c : Nat) : Nat := 0x800000000000 + c * 0x8000000000

/-- The address of page `p` of channel `c`. -/
def pageAddr (c p : Nat) : Nat := dramBase c + p * 4096

/-- The numbers of the pages of a list of runs, in order. -/
def runPages (runs : List PageRun) : List Nat := runs.flatMap (fun r => rangeFrom r.start r.len)

/-- The address of payload byte `off` of a fragment held in runs on channel `c` (R143). -/
def payloadAddr (c : Nat) (runs : List PageRun) (off : Nat) : Nat :=
  pageAddr c ((runPages runs).getD (off / 4096) 0) + off % 4096

/-- Write payload bytes at an offset, page by page: `n` bounds the pages touched. -/
def State.writePayload (s : State) (c : Nat) (runs : List PageRun) : Nat → Nat → List Byte → State
  | 0, _, _ => s
  | _, _, [] => s
  | n + 1, off, bs =>
    let room := 4096 - off % 4096
    State.writePayload (s.writeMem (payloadAddr c runs off) (bs.take room)) c runs n (off + room) (bs.drop room)

/-- Read `len` payload bytes of a fragment. -/
def State.readPayload (s : State) (c : Nat) (runs : List PageRun) (len : Nat) : List Byte :=
  ((runPages runs).flatMap (fun p => s.readMem (pageAddr c p) 4096)).take len

/-- A word reads back with poison: its stored check bits say POISON, UE or ADDR (R414). -/
def State.wordMarked (s : State) (a : Nat) : Bool := (s.mem.outcome (a / 4 * 4)).poisons

/-- Whether a page holds a word that reads back with poison. -/
def State.pageMarked (s : State) (c p : Nat) : Bool := (s.mem.listed (pageAddr c p) 4096).any s.wordMarked

end Sys2Proof.Machine
end

