-- ==== Sys2Proof/Machine/Pairs.lean ====
section
/-!
DEFINITION. The registers of a core pair as instructions read and write them (R345 to R348), and what happens when a pair is lost (R393, R398,
R407, R408).
-/

namespace Sys2Proof.Machine

/-- Change a pair. -/
def State.updCores (s : State) (f : Cores → Cores) : State := { s with cores := f s.cores }
def State.updPair (s : State) (p : PairId) (f : Pair → Pair) : State :=
  s.updCores (fun c => { c with pairs := c.pairs.set p (f c.pairs[p]) })

/-- A pair's registers. -/
def State.core (s : State) (p : PairId) : Pair := s.cores.pairs[p]

/-- A general register: g0 reads as zero (R345). -/
def Pair.reg (q : Pair) (r : RegId) : Word := if r = 0 then 0 else q.g[r]

/-- Write a general register; a write of g0 is discarded (R345). -/
def Pair.setReg (q : Pair) (r : RegId) (v : Word) : Pair := if r = 0 then q else { q with g := q.g.set r v }

/-- The registers of a world. -/
def Pair.regsOf (q : Pair) (w : World) : WorldRegs := match w with | .keeper => q.keeper | .tack => q.tack
def Pair.setRegsOf (q : Pair) (w : World) (x : WorldRegs) : Pair :=
  match w with | .keeper => { q with keeper := x } | .tack => { q with tack := x }

/-- STATUS as a word: IM, LVL, WLD and the ASID of the running world. -/
def Pair.status (q : Pair) : Word :=
  BitVec.ofNat 64 (b2n q.im + 2 * b2n q.sup + 4 * q.world.num + 256 * (q.regsOf q.world).asid.toNat)

/-- The fields that STATUS and ESTATUS hold: IM, LVL, WLD and ASID; the reserved bits read zero. -/
def statusBits (w : World) (v : Word) : Word := v &&& (match w with | .keeper => 0xFFFF07 | .tack => 0xFFFF03)

/-- The world and level that a STATUS word names. -/
def statusWorld (v : Word) : World := if bitOf v.toNat 2 then .keeper else .tack
def statusSup (v : Word) : Bool := bitOf v.toNat 1

/-- Set IM; the cycle at which it was set is kept for R400. -/
def Pair.setIm (q : Pair) (b : Bool) : Pair := { q with im := b, imAt := if b && !q.im then q.cycle else q.imAt }

/-- Enter a world; the cycle at which Keeper world was entered is kept for R400. -/
def Pair.setWorld (q : Pair) (w : World) : Pair := { q with world := w, keeperAt := if w = .keeper && q.world != .keeper then q.cycle else q.keeperAt }

/-- Take on a STATUS word: IM, level, world and the ASID of that world. -/
def Pair.setStatus (q : Pair) (v : Word) : Pair :=
  let w := statusWorld v
  let q := (q.setWorld w).setIm (bitOf v.toNat 0)
  { q with sup := statusSup v }.setRegsOf w { q.regsOf w with asid := (v >>> 8).setWidth 16 }

/-- The save record (R407): g1 to g31, pc, STATUS, CYCLE, [0] VALID and [1] HALTED. -/
def Pair.record (q : Pair) (halted : Bool) : List Byte :=
  (q.g.toList.drop 1).flatMap (fun v => leBytes 8 v.toNat)
  ++ leBytes 8 q.pc.toNat ++ leBytes 8 q.status.toNat ++ leBytes 8 q.cycle ++ [BitVec.ofNat 8 (b2n (!q.shadowLost) + 2 * b2n halted)] ++ List.replicate 47 0

/-- A lost pair's claims end: its active sources become inactive (R398). -/
def State.dropClaims (s : State) (p : PairId) : State :=
  s.updCores (fun c => { c with claims := c.claims.filter (fun x => x.pair != p.val), reserved := tdel c.reserved p.val })

/-- A pair is quarantined (R393, R407): its save record is written, its claims end, and CORE_LOST_T, for a pair that had not halted CORE_LOST_K
too, is raised. -/
def State.losePair (s : State) (p : PairId) : State :=
  let st := s.rd (Reg.CORE_STATE.PSTATE.nth p)
  if st = 2 then s
  else
    let s := (s.updPair p (fun q => { q with save := q.record (st == 3), waiting := false, testing := none })).dropClaims p
    let s := (s.wr (Reg.CORE_STATE.PSTATE.nth p) 2).interrupt (32 + p)
    if st = 3 then s else s.interrupt (48 + p)

/-- Clear a pair's reservation. -/
def State.dropOwn (s : State) (p : PairId) : State := s.updCores (fun c => { c with reserved := tdel c.reserved p.val })

end Sys2Proof.Machine
end

