-- ==== Sys2Proof/Machine/Units.lean ====
section
/-!
DEFINITION. What happens to one unit when it is assigned work, cleared, quarantined or lost: stitch units (Table 3-8, R106, R129),
sponge cores (Table 6-1), DRAM channels (R149), and the states of Awl units and core pairs as the collector sets them. The fault
collector and the chapters' commands are written over these.
-/

namespace Sys2Proof.Machine

/-- State codes shared by Tables 3-8, 6-1 and 9-10. -/
def stOffline : Nat := 0
def stIdle : Nat := 1
def stBusy : Nat := 2
def stSuspect : Nat := 3
def stSelfTest : Nat := 4
def stQuarantined : Nat := 5

/-- Change the hidden state of the stitch units. -/
def State.updStitch (s : State) (f : Stitch → Stitch) : State := { s with stitch := f s.stitch }
def State.updQueue (s : State) (f : QueueEngine → QueueEngine) : State := { s with queue := f s.queue }
def State.updStaging (s : State) (f : Staging → Staging) : State := { s with staging := f s.staging }
def State.updShepherd (s : State) (f : Shepherd → Shepherd) : State := { s with shepherd := f s.shepherd }
def State.updPack (s : State) (f : Pack → Pack) : State := { s with pack := f s.pack }
def State.updAwl (s : State) (f : Awl → Awl) : State := { s with awl := f s.awl }
def State.updSouth (s : State) (f : South → South) : State := { s with south := f s.south }
def State.updKeys (s : State) (f : Saddlebag → Saddlebag) : State := { s with keys := f s.keys }

def State.updFlash (s : State) (f : Flash → Flash) : State := { s with flash := f s.flash }

/-- The record of a block. -/
def Flash.block (f : Flash) (k : Nat) : FlashBlock := tgetD f.blocks k {}

/-- The LUN of a block. -/
def lunOf (k : Nat) : Nat := k / 4096

/-- The 64 bytes of a journal record (Table 13-6). -/
def journalBytes (typ seq time : Nat) (body : List Byte) : List Byte :=
  let b := leBytes 2 typ ++ leBytes 2 64 ++ leBytes 4 0 ++ leBytes 8 seq ++ leBytes 8 time ++ padTo 36 body
  b ++ leBytes 4 (crc32c b)

/-- Append a record to the journal; at a new block of the streams every open intent is carried first (R451, R453). -/
def State.journal (s : State) (typ : Nat) (body : List Byte) : State :=
  let put (s : State) (typ : Nat) (body : List Byte) : State :=
    s.updFlash (fun f => { f with journal := journalBytes typ f.nextSeq s.time64 body :: f.journal, nextSeq := f.nextSeq + 1 })
  let s := if s.flash.nextSeq % 256 = 0 then
      s.flash.intents.foldl (fun s i => put s 0x0009 (leBytes 1 (lunOf i.1) ++ leBytes 1 (if (s.flash.block i.1).slc then 1 else 2) ++ leBytes 2 (i.1 % 4096) ++ leBytes 4 (s.flash.block i.1).erases ++ leBytes 8 i.2)) s
    else s
  put s typ body

/-- Stitch unit `n`'s state code. -/
def State.stu (s : State) (n : Nat) : Nat := s.rd (Reg.STU_STATUS.STATE.nth n)
def State.setStu (s : State) (n st : Nat) : State := s.wr (Reg.STU_STATUS.STATE.nth n) st

/-- Sponge core `j`'s state and its change. -/
def State.spg (s : State) (j : Nat) : UnitState := tgetD s.pack.state j .offline
def State.setSpg (s : State) (j : Nat) (u : UnitState) : State := s.updPack (fun p => { p with state := tput p.state j u })

/-- Awl unit `u`'s state code. -/
def State.awlState (s : State) (u : Nat) : Nat := s.rd (Reg.AWL_UNIT.STATE.nth u)
def State.setAwl (s : State) (u st : Nat) : State := s.wr (Reg.AWL_UNIT.STATE.nth u) st

/-- Core pair `p`'s PSTATE: 0 RUN, 1 RETRY, 2 QUARANTINED, 3 HALTED, 4 SELF_TEST (CORE_STATE). -/
def State.pstate (s : State) (p : Nat) : Nat := s.rd (Reg.CORE_STATE.PSTATE.nth p)

/-- The numbers of the stitch units, sponge cores, Awl units, pairs and channels. -/
def stitchUnits : List Nat := List.range 12
def spongeCores : List Nat := List.range 128
def awlUnits : List Nat := List.range 16
def pairs : List Nat := List.range 16
def channels : List Nat := List.range 12

/-- A unit is healthy: IDLE or BUSY. -/
def State.stuHealthy (s : State) (n : Nat) : Bool := s.stu n == stIdle || s.stu n == stBusy
def State.spgHealthy (s : State) (j : Nat) : Bool := s.spg j == .idle || s.spg j == .busy
def State.awlHealthy (s : State) (u : Nat) : Bool := s.awlState u == stIdle || s.awlState u == stBusy
def State.chanHealthy (s : State) (c : Nat) : Bool := bitOf (s.rd Reg.STG_CHSTATE.HEALTHY) c
def State.chanRetraining (s : State) (c : Nat) : Bool := bitOf (s.rd Reg.STG_CHSTATE.RETRAIN) c

/-- The key of a context. -/
def ctxKey (n c : Nat) : Nat := n * 4 + c

/-- The slot of a namespace key through the epoch map (R286): the current key's, or a resident one's. -/
def State.resolveSlot (s : State) (ns epoch : Nat) : Option Nat :=
  match tget s.keys.current ns with
  | some (e, sl) => if e = epoch then some sl else (tget s.keys.resident (ns * 2 ^ 32 + epoch)).map Prod.fst
  | none => (tget s.keys.resident (ns * 2 ^ 32 + epoch)).map Prod.fst

/-- A use of a resident key (R287). -/
def State.useKey (s : State) (ns epoch : Nat) : State :=
  s.updKeys (fun k => { k with resident := tmod k.resident (ns * 2 ^ 32 + epoch) (fun x => (x.1, s.now)) })

/-- The key store holds a namespace's key epoch. -/
def State.keyStored (s : State) (ns epoch : Nat) : Bool :=
  s.keys.store.any (fun r => r.2.sysSlot == 0 && r.2.ns == ns && r.2.epoch == epoch)

/-- The value of a key slot; zero where it is empty. -/
def State.slotValue (s : State) (i : Nat) : Nat := match tget s.keys.slots i with | some k => k.value | none => 0

/-- The vault key of the active bank (R297). -/
def State.bank (s : State) : Option VaultBank := if s.keys.activeB then s.keys.bankB else s.keys.bankA

/-- The vault key as the wrap engine may use it: none while LOCK is in force (Table 15-3) or a Keeper-scope debug authorisation is
open (R617). -/
def State.vault (s : State) : Option VaultBank :=
  if s.isSet Reg.KNL_STATUS.LOCKED || s.chip.debugLock then none else s.bank

/-- KEYED (SDB_STATUS). -/
def State.keyed (s : State) : Bool := s.bank.isSome

/-- ESCROWED: a live set exists for the active generation (R313). -/
def State.escrowed (s : State) : Bool :=
  match s.bank, s.keys.live with | some v, some e => e.gen == v.gen | _, _ => false

/-- An extent, an object, a queue, a session by their keys. -/
def State.extent (s : State) (e : Nat) : Option Extent := tget s.queue.extents e
def State.setExtent (s : State) (e : Nat) (x : Extent) : State := s.updQueue (fun q => { q with extents := tput q.extents e x })
def State.updExtent (s : State) (e : Nat) (f : Extent → Extent) : State := s.updQueue (fun q => { q with extents := tmod q.extents e f })
def State.object (s : State) (o : Nat) : Option Obj := tget s.queue.objects o
def State.setObject (s : State) (o : Nat) (x : Obj) : State := s.updQueue (fun q => { q with objects := tput q.objects o x })

/-- The key of an extent: its object ID and its index. -/
def extKey (obj idx : Nat) : Nat := obj * 2 ^ 32 + idx

/-- Fragment payload length P of an extent of `len` bytes at `k` (R98). -/
def payloadLen (len k : Nat) : Nat := 64 * ceilDiv len (64 * k)

/-- Rows of an extent (R98). -/
def rowCount (len k : Nat) : Nat := ceilDiv len (64 * k)

/-- The extent size of a size code: 1, 2, 4, 8, 16 MiB. -/
def extBytes (code : Nat) : Nat := 1048576 * 2 ^ (code - 1)

/-- What a job's ranges need of its extent: object, index, length, k, m, key epoch, namespace key slot. -/
structure JobInfo where
  obj : Nat
  idx : Nat
  len : Nat
  k : Nat
  m : Nat
  epoch : Nat
  slot : Nat
  deriving DecidableEq, Repr

/-- A number in a byte string, most significant first. -/
def beAt (bs : List Byte) (off n : Nat) : Nat := ofBe (slice bs off n)

/-- The fields of an extent record that a job needs (Table 6-4). -/
def recordInfo (r : List Byte) (slot : Nat) : JobInfo :=
  { obj := beAt r 8 16, idx := beAt r 24 8, len := beAt r 32 4, k := beAt r 40 1, m := beAt r 41 1, epoch := beAt r 36 4, slot := slot }

/-- The extent of a restore. -/
def Restore.ext? (r : Restore) (i : Nat) : Option RestoreExt := r.exts.find? (fun e => e.idx == i)

def State.jobInfo (s : State) (j : Job) : Option JobInfo :=
  match j with
  | .seal e => (s.extent e).map (fun x => { obj := x.obj, idx := x.idx, len := x.len, k := x.k, m := x.m, epoch := x.epoch, slot := x.slot })
  | .unseal h i => (tget s.south.restores h).bind (fun r => (r.ext? i).map (fun e => recordInfo e.record r.slot))

/-- Change the ranges of a job wherever it keeps them. -/
def State.updRanges (s : State) (j : Job) (f : List RangeRec → List RangeRec) : State :=
  match j with
  | .seal e => match s.extent e with
    | some x => s.setExtent e { x with ranges := f x.ranges }
    | none => s
  | .unseal h i => match tget s.south.restores h with
    | some r => s.updSouth (fun q => { q with restores := tput q.restores h { r with exts := r.exts.map (fun e => if e.idx = i then { e with ranges := f e.ranges } else e) } })
    | none => s

/-- The ranges of a job. -/
def State.jobRanges (s : State) (j : Job) : List RangeRec :=
  match j with
  | .seal e => match s.extent e with | some x => x.ranges | none => []
  | .unseal h i => match (tget s.south.restores h).bind (fun r => r.ext? i) with | some e => e.ranges | none => []

/-- The lead unit of a job, and its change (R103). -/
def State.setLead (s : State) (j : Job) (n : Nat) : State :=
  match j with
  | .seal e => match s.extent e with
    | some x => s.setExtent e { x with lead := n }
    | none => s
  | .unseal h i => match tget s.south.restores h with
    | some r => s.updSouth (fun q => { q with restores := tput q.restores h { r with exts := r.exts.map (fun e => if e.idx = i then { e with lead := n } else e) } })
    | none => s

def State.jobLead (s : State) (j : Job) : Nat :=
  match j with
  | .seal e => match s.extent e with | some x => x.lead | none => 0
  | .unseal h i => match (tget s.south.restores h).bind (fun r => r.ext? i) with | some e => e.lead | none => 0

/-- Plaintext bytes of a context not yet compared (the load of Table 5-4). -/
def State.ctxLoad (s : State) (c : StitchCtx) : Nat :=
  match s.jobInfo c.job with
  | some i => (c.first + c.rows - c.next) * 64 * i.k
  | none => 0

/-- The load of a unit: its contexts' (Table 5-4). -/
def State.stuLoad (s : State) (n : Nat) : Nat :=
  ((List.range 3).map (fun c => match tget s.stitch.ctxs (ctxKey n c) with | some x => s.ctxLoad x | none => 0)).sum

/-- A free normal context of a unit. -/
def State.freeCtx (s : State) (n : Nat) : Option Nat :=
  [0, 1].find? (fun c => (tget s.stitch.ctxs (ctxKey n c)).isNone)

/-- Whether a unit is a candidate for work (R182): healthy, enabled, and no rolling test asked of it. -/
def State.stuCandidate (s : State) (n : Nat) : Bool :=
  s.stuHealthy n && s.isSet (Reg.STU_CTRL.EN.nth n) && (tget s.shepherd.asked n).isNone

/-- The candidates for normal ranges, least loaded first, ties to the lower number (Table 5-4). -/
def State.stitchChoice (s : State) : List Nat :=
  sortBy s.stuLoad (stitchUnits.filter (fun n => s.stuCandidate n && (s.freeCtx n).isSome))

/-- Give a unit a context (Table 3-8: IDLE to BUSY). -/
def State.assign (s : State) (n c : Nat) (x : StitchCtx) : State :=
  let s := s.updStitch (fun t => { t with ctxs := tput t.ctxs (ctxKey n c) x, current := if (tget t.current n).isSome then t.current else tput t.current n c })
  ((s.setBit (Reg.STU_STATUS.CTX_BUSY.nth n) c true).setStu n stBusy).updRanges x.job
    (fun rs => rs.map (fun r => if r.first = x.first ∧ r.rows = x.rows then { r with unit := n, phase := .running } else r))

/-- A fresh context for a range. -/
def newCtx (j : Job) (r : RangeRec) : StitchCtx :=
  { job := j, first := r.first, rows := r.rows, next := r.first, rerun := r.rerun, pipes := none }

/-- Place one re-run sub-range (Table 5-4, R182): context 2 of the least-loaded healthy unit that has none of the range's others yet, else queued
behind the earliest-finishing one; once every unit has one, behind the earliest-finishing of all. -/
def State.placeRerun (s : State) (avoid : List Nat) (j : Job) (r : RangeRec) : State × List Nat :=
  let all := stitchUnits.filter s.stuCandidate
  let cands := if all.all avoid.contains then all else all.filter (fun n => decide (n ∉ avoid))
  let free := sortBy s.stuLoad (cands.filter (fun n => (tget s.stitch.ctxs (ctxKey n 2)).isNone))
  match free with
  | n :: _ => (s.assign n 2 (newCtx j r), n :: avoid)
  | [] =>
    let left (n : Nat) : Nat := (match tget s.stitch.ctxs (ctxKey n 2) with | some x => s.ctxLoad x | none => 0) + ((tgetD s.stitch.queued n []).map s.ctxLoad).sum
    match argMin left cands with
    | some n => ((s.updStitch (fun t => { t with queued := tput t.queued n (tgetD t.queued n [] ++ [newCtx j r]) })).updRanges j
        (fun rs => rs.map (fun g => if g.first = r.first ∧ g.rows = r.rows then { g with unit := n, phase := .running } else g)), n :: avoid)
    | none => (s, avoid)

/-- Cut a range into sub-ranges of whole rows, each of at most 4 MiB of plaintext (R35, R129). -/
def cutRange (k : Nat) : Nat → Nat → Nat → List RangeRec
  | 0, _, _ => []
  | _, _, 0 => []
  | fuel + 1, first, rows =>
    let most := max 1 (4194304 / (64 * k))
    let here := min most rows
    { first := first, rows := here, unit := 0, phase := .waiting, rerun := true } :: cutRange k fuel (first + here) (rows - here)

/-- Place one sub-range of a failed unit: a re-run by `placeRerun`, a range that had not begun on another unit's free context (R129). -/
def State.placeRange (s : State) (failed : Nat) (avoid : List Nat) (j : Job) (r : RangeRec) : State × List Nat :=
  if r.rerun then s.placeRerun avoid j r
  else match (s.stitchChoice.filter (fun n => n != failed)) with
    | n :: _ => match s.freeCtx n with
      | some c => (s.assign n c (newCtx j r), avoid)
      | none => (s, avoid)
    | [] => (s, avoid)

/-- The lead moves from a unit that no longer serves to the one that runs the job's first placed range (R129). -/
def State.fixLead (s : State) (j : Job) : State :=
  if s.stuHealthy (s.jobLead j) then s
  else match (s.jobRanges j).find? (fun r => r.phase == .running && s.stuHealthy r.unit) with
    | some r => s.setLead j r.unit
    | none => s

/-- Replace a failed unit's range by its sub-ranges and place them; the first sub-range's unit leads where the failed unit led (R129). -/
def State.rerun (s : State) (failed : Nat) (x : StitchCtx) : State :=
  match s.jobInfo x.job with
  | none => s
  | some info =>
    let started := decide (x.next ≠ x.first) || x.pipes.isSome
    let subs := if started then cutRange info.k 4096 x.first x.rows else [{ first := x.first, rows := x.rows, unit := 0, phase := .waiting, rerun := x.rerun }]
    let s := s.updRanges x.job (fun rs => rs.flatMap (fun r => if r.first = x.first ∧ r.rows = x.rows then subs else [r]))
    let wasLead := s.jobLead x.job == failed
    let s := (subs.foldl (fun st r => st.1.placeRange failed st.2 x.job r) (s, [failed])).1
    if wasLead then
      match (s.jobRanges x.job).find? (fun r => r.first == x.first && r.phase == .running) with
      | some r => s.setLead x.job r.unit
      | none => s.fixLead x.job
    else s

/-- Clear a unit's contexts and the re-runs queued behind it (R106); answers the contexts it held. -/
def State.clearCtxs (s : State) (n : Nat) : State × List StitchCtx :=
  let held := (List.range 3).filterMap (fun c => tget s.stitch.ctxs (ctxKey n c)) ++ tgetD s.stitch.queued n []
  let s := s.updStitch (fun t => { t with ctxs := t.ctxs.filter (fun kv => kv.1 / 4 != n), current := tdel t.current n, queued := tdel t.queued n, held := tdel t.held n })
  (s.wr (Reg.STU_STATUS.CTX_BUSY.nth n) 0, held)

/-- Stop a unit: clear its contexts, set its state, and re-run what it held (R129, R185). -/
def State.stopStitch (s : State) (n st : Nat) : State :=
  let (s, held) := s.clearCtxs n
  let s := s.setStu n st
  held.foldl (fun s x => s.rerun n x) s

/-- The bit of STU_ERR that a code of Table 3-9 sets. -/
def stuErr (code : Nat) : Option Field :=
  if 1 ≤ code ∧ code ≤ 3 then some Reg.STU_ERR.KEY
  else if 0x10 ≤ code ∧ code ≤ 0x12 then some Reg.STU_ERR.MISMATCH
  else if code = 0x20 then some Reg.STU_ERR.INPUT_LOST
  else if code = 0x30 then some Reg.STU_ERR.TAG_FAIL
  else if code = 0x40 then some Reg.STU_ERR.RESEED_LATE
  else if code = 0x60 then some Reg.STU_ERR.BAD_DESC
  else none

/-- Report an outcome code other than OK: LAST_ERR latches it, and its bit of STU_ERR is set (R127). -/
def State.stuCode (s : State) (n code : Nat) : State :=
  let s := s.wr (Reg.STU_STATUS.LAST_ERR.nth n) code
  match stuErr code with
  | some f => s.flag (f.nth n) true
  | none => s

/-- Fragments of an extent that a core hashes, over all extents: the jobs in progress of a core (Table 5-4). -/
def State.hashJobs (s : State) (j : Nat) : List (Nat × Nat) :=
  s.queue.extents.flatMap (fun kv => (kv.2.frags.filter (fun f => f.2.core == some j && f.2.hash.isNone)).map (fun f => (kv.1, f.1)))

/-- The cores of a pool: hashing or signing. -/
def State.inSigning (s : State) (j : Nat) : Bool := decide (j ∈ s.pack.signing)

/-- Whether a core holds a job of a signing or verifying group. -/
def State.groupJob (s : State) (j : Nat) : Bool :=
  s.pack.epochs.any (fun kv => !kv.2.released && (decide (j ∈ kv.2.group) || decide (j ∈ kv.2.vgroup)))

/-- A core is idle: healthy with no job. -/
def State.spgIdle (s : State) (j : Nat) : Bool := s.spg j == .idle

/-- The key of a unit in the Shepherd's schedule. -/
def dueKey (kind : UnitKind) (u : Nat) : Nat :=
  match kind with
  | .stitch => u
  | .sponge => 256 + u
  | .awl => 512 + u
  | .pair => 768 + u

/-- A unit of a kind is out for a rolling test (SHP_ST_OUT). -/
def State.kindOut (s : State) : UnitKind → Bool
  | .stitch => s.isSet Reg.SHP_ST_OUT.STU_ACT
  | .sponge => s.isSet Reg.SHP_ST_OUT.PACK_ACT
  | .awl => s.isSet Reg.SHP_ST_OUT.AWL_ACT
  | .pair => s.isSet Reg.SHP_ST_OUT.CORE_ACT

/-- Show a unit in rolling self-test, or none. -/
def State.setOut (s : State) (kind : UnitKind) (u : Nat) (act : Bool) : State :=
  match kind with
  | .stitch => (s.wr Reg.SHP_ST_OUT.STU u).flag Reg.SHP_ST_OUT.STU_ACT act
  | .sponge => (s.wr Reg.SHP_ST_OUT.PACK u).flag Reg.SHP_ST_OUT.PACK_ACT act
  | .awl => (s.wr Reg.SHP_ST_OUT.AWL u).flag Reg.SHP_ST_OUT.AWL_ACT act
  | .pair => (s.wr Reg.SHP_ST_OUT.CORE u).flag Reg.SHP_ST_OUT.CORE_ACT act

/-- Begin the rolling test of an IDLE unit (Tables 3-8, 6-1, 9-10: clear contexts; SELF_TEST). -/
def State.beginRolling (s : State) (kind : UnitKind) (u : Nat) : State :=
  match kind with
  | .stitch => ((((s.clearCtxs u).1).setStu u stSelfTest).updStitch (fun t => { t with tests := tput t.tests u .rolling })).setOut kind u true
  | .sponge => ((s.setSpg u .selfTest).updPack (fun p => { p with tests := tput p.tests u .rolling })).setOut kind u true
  | .awl => ((s.setAwl u stSelfTest).updAwl (fun a => { a with tests := tput a.tests u .rolling })).setOut kind u true
  | .pair => s

/-- Whether a unit is IDLE. -/
def State.unitIdle (s : State) (kind : UnitKind) (u : Nat) : Bool :=
  match kind with
  | .stitch => s.stu u == stIdle
  | .sponge => s.spg u == .idle
  | .awl => s.awlState u == stIdle
  | .pair => false

/-- A unit asked for a rolling test and now IDLE begins it (R126). -/
def State.settleTest (s : State) (kind : UnitKind) (u : Nat) : State :=
  if (tget s.shepherd.asked (dueKey kind u)).isSome && s.unitIdle kind u && !s.kindOut kind then s.beginRolling kind u else s

/-- Recompute BUSY or IDLE of a healthy core from the jobs it holds; an IDLE one begins a test asked of it (R126). -/
def State.settleCore (s : State) (j : Nat) : State :=
  if s.spgHealthy j then (s.setSpg j (if !(s.hashJobs j).isEmpty || s.groupJob j then .busy else .idle)).settleTest .sponge j else s

/-- The jobs in progress of a core: fragments that it hashes, and epochs whose groups it is in. -/
def State.coreJobs (s : State) (j : Nat) : Nat :=
  (s.hashJobs j).length + (s.pack.epochs.filter (fun kv => !kv.2.released && (decide (j ∈ kv.2.group) || decide (j ∈ kv.2.vgroup)))).length

/-- No test has been asked of a core, so that it may take new work (R126). -/
def State.unasked (s : State) (j : Nat) : Bool := (tget s.shepherd.asked (dueKey .sponge j)).isNone

/-- Where a moved job goes (R191): an idle core of the pool, else the one with the fewest jobs. -/
def State.moveTarget (s : State) (j : Nat) : Option Nat :=
  let pool := spongeCores.filter (fun i => i != j && s.spgHealthy i && s.unasked i && s.inSigning i == s.inSigning j)
  match pool.find? s.spgIdle with
  | some i => some i
  | none => argMin s.coreJobs pool

/-- Replace core `j` by core `i` in a group. -/
def swapCore (j i : Nat) (g : List Nat) : List Nat := if j ∈ g then (if i ∈ g then g.filter (· != j) else g.map (fun x => if x = j then i else x)) else g

/-- The core that takes over a group's job: another core of the same group (R191), the first healthy one of several. A group with none, which V = 1
allows, the spec gives no target: an idle core of the signing pool that takes no part in the epoch, else the job stays where it is (DESIGN CHOICE,
assumption 121). -/
def State.groupTarget (s : State) (j : Nat) (g barred : List Nat) : Option Nat :=
  match g.find? (fun i => i != j && s.spgHealthy i) with
  | some i => some i
  | none => if j ∈ g then s.pack.signing.find? (fun i => i != j && s.spgIdle i && s.unasked i && !barred.contains i) else none

/-- Move every job of a core to other cores (R191): a hash job goes on from its shadow ahead of its new core's own; with no other core of its pool it
waits in staging for one (Table 1-3). A core that leaves a group counts as having taken part (R218, R219). -/
def State.moveJobs (s : State) (j : Nat) : State :=
  let dst := s.moveTarget j
  let s := s.updQueue (fun q => { q with extents := tmap q.extents (fun _ x => { x with frags := tmap x.frags (fun _ f => if f.core = some j ∧ f.hash.isNone then { f with core := dst, ahead := dst.isSome } else f) }) })
  let s := match dst with | some i => s.settleCore i | none => s
  let move (g barred : List Nat) : List Nat := match s.groupTarget j g barred with | some i => swapCore j i g | none => g
  let s := s.updPack (fun p => { p with epochs := tmap p.epochs (fun _ e =>
    if e.released ∨ ¬(j ∈ e.group ∨ j ∈ e.vgroup) then e
    else { e with group := move e.group (e.vgroup ++ e.spent), vgroup := move e.vgroup (e.group ++ e.spent), spent := if j ∈ e.spent then e.spent else j :: e.spent }) })
  (s.pack.epochs.flatMap (fun kv => if kv.2.released then [] else kv.2.group ++ kv.2.vgroup)).eraseDups.foldl (fun s i => if s.spgIdle i then s.setSpg i .busy else s) s

/-- Take a core out of service with its jobs moved. -/
def State.stopSponge (s : State) (j : Nat) (u : UnitState) : State := (s.setSpg j u).moveJobs j

/-- A retraining is abandoned with its calibration restored (R39). -/
def State.abandonRetraining (s : State) (c : Nat) : State :=
  let s := s.updStaging (fun t => { t with chans := tmod t.chans c (fun ch => { ch with calibration := ch.prevCalibration }) })
  (s.setBit Reg.STG_CHSTATE.RETRAIN c false).note (srcMc c 3) c

/-- The channel that retrains, if any (one at a time, R39). -/
def State.retrainingChannel (s : State) : Option Nat := channels.find? s.chanRetraining

/-- A channel is lost (R149): its HEALTHY bit clears, every fragment and restore buffer on it is lost, and another channel's retraining is abandoned
(R39). It stays lost until a main-domain reset. -/
def State.loseChannel (s : State) (c : Nat) : State :=
  if !s.chanHealthy c then s
  else
    let s := match s.retrainingChannel with
      | some r => if r = c then s else s.abandonRetraining r
      | none => s
    let s := ((s.setBit Reg.STG_CHSTATE.HEALTHY c false).setBit Reg.STG_CHSTATE.RETRAIN c false)
    let lostFrag (f : Fragment) : Fragment :=
      if f.channel = c ∧ (f.phase = .filling ∨ f.phase = .held ∨ f.phase = .sent) then { f with phase := .lost } else f
    let s := s.updQueue (fun q => { q with extents := tmap q.extents (fun _ x => { x with frags := tmap x.frags (fun _ f => lostFrag f) }) })
    let s := s.updSouth (fun q => { q with
      restores := tmap q.restores (fun _ r => { r with exts := r.exts.map (fun e => if e.verified then e else { e with available := tkeep e.available (fun _ b => b.channel != c), bad := e.bad ++ tkeys e.available (fun _ b => b.channel == c) }) }),
      repairs := tmap q.repairs (fun _ r => { r with available := tkeep r.available (fun _ b => b.channel != c) }),
      fetches := tkeep q.fetches (fun _ f => f.channel != c) })
    let s := s.updStaging (fun t => { t with moves := t.moves.filter (fun m => m.channel != c), lost := if c ∈ t.lost then t.lost else t.lost ++ [c] })
    s.note srcStgChannelLost c


/-- Put a descriptor back at the front of the dispatcher's queue for another unit (R343). -/
def State.reissue (s : State) (j : AwlJob) : State :=
  (s.updAwl (fun a => { a with fetched := { j with reissued := true } :: a.fetched })).bump Reg.AWL_EVENTS.REISSUE

/-- The 64-bit words of operand memory, and a word with its check bits (R328). -/
def opWords : Nat := 8192
def OpWord.ofData (d : Nat) : OpWord := { data := d, codeLo := checkBits (d % 2 ^ 32), codeHi := checkBits (d / 2 ^ 32) }

/-- Write zero to all of a unit's operand memory (R333, R341, R342). -/
def State.clearOperand (s : State) (u : Nat) : State :=
  s.updAwl (fun a => { a with operand := tkeep a.operand (fun k _ => k / opWords != u) })

/-- Lay bytes from a word of a unit's operand memory on, least significant byte first; a word of zeros stays unlisted. -/
def State.layOperand (s : State) (u w : Nat) (bs : List Byte) : State :=
  (List.range (min (ceilDiv bs.length 8) (opWords - w))).foldl (fun s i =>
    let d := leField bs (8 * i) 8
    let k := u * opWords + w + i
    s.updAwl (fun a => { a with operand := if d = 0 then tdel a.operand k else tput a.operand k (OpWord.ofData d) })) s

/-- A unit that stops drops what it holds, its operand memory cleared (R342): a run is re-issued, a verification is placed anew, and the verifier
of a stopped signer goes idle. -/
def State.dropRun (s : State) (u : Nat) : State :=
  let s := s.clearOperand u
  match tget s.awl.runs u with
  | none => s
  | some (.check v) =>
    s.updAwl (fun a => { a with runs := tmod (tdel a.runs u) v (fun r => match r with | .job j (.verifying x _) => .job j (.signed x) | r => r) })
  | some (.job j stage) =>
    let s := (s.updAwl (fun a => { a with runs := tdel a.runs u })).reissue j
    match stage with
    | .verifying _ v => ((s.updAwl (fun a => { a with runs := tdel a.runs v })).clearOperand v).setAwl v stIdle
    | _ => s

/-- Take an Awl unit out of service (R185, R343). -/
def State.stopAwl (s : State) (u st : Nat) : State := (s.dropRun u).setAwl u st

/-- Quarantine a core pair (R407). -/
def State.stopPair (s : State) (p : Nat) : State := if h : p < 16 then s.losePair ⟨p, h⟩ else s

end Sys2Proof.Machine
end

