-- ==== Sys2Proof/Machine/Collector.lean ====
section
/-!
DEFINITION. The fault collector whole (chapter 14): a detection with the reaction it starts on units (R465, R466), the safe state
(R476), the consequence windows it opens and closes (R472, R473), and errors during a reaction (R474, R475).
-/

namespace Sys2Proof.Machine

/-- The unit of a QUARANTINE reaction is quarantined (Table 14-2); the window it opens closes when the unit reports ready
(Table 14-6), and at a ready report made at once it is closed at once. -/
def State.quarantineUnit (s : State) (u : UnitRef) : State :=
  match u with
  | .stitch n => s.stopStitch n stQuarantined
  | .sponge j => s.stopSponge j .quarantined
  | .awl a => s.stopAwl a stQuarantined
  | .pair p => s.stopPair p
  | .channel c => s.loseChannel c
  | _ => s

/-- The unit of a UNIT_RESET reaction returns to OFFLINE and its start-up self-test begins (Table 14-2). A port is taken down and
retrained. -/
def State.resetUnit (s : State) (u : UnitRef) : State :=
  match u with
  | .stitch n => (s.stopStitch n stOffline).updStitch (fun t => { t with tests := tput t.tests n .startup })
  | .sponge j => (s.stopSponge j .offline).updPack (fun p => { p with tests := tput p.tests j .startup })
  | .awl a => (s.stopAwl a stOffline).updAwl (fun x => { x with tests := tput x.tests a .startup })
  | .north p => s.updQueue (fun q => { q with downMacs := if p ∈ q.downMacs then q.downMacs else q.downMacs ++ [p] })
  | .south p => s.updSouth (fun q => { q with upPorts := q.upPorts.filter (· != p) })
  | _ => s

/-- The management Awl unit of a SAFE reaction: the lowest-numbered Awl unit in service, none when the source belongs to the
Saddlebag or to an Awl unit (R476). -/
def State.managementAwl (s : State) (src : Nat) : Option Nat :=
  if src = srcSdbLockstep ∨ src = srcSdbMacroLost ∨ (0x080 ≤ src ∧ src < 0x100) then none
  else awlUnits.find? s.awlHealthy

/-- The actions of the safe state (R476). -/
def State.enterSafe (s : State) (src : Nat) : State :=
  if s.safe then s
  else
    let before := s.svcCode
    let keep := s.managementAwl src
    let s := s.flag Reg.FCU_PIN.LEVEL false
    let s := stitchUnits.foldl (fun s n => if s.stu n = stQuarantined then s else ((s.clearCtxs n).1).setStu n stOffline) s
    let s := spongeCores.foldl (fun s j => if s.spg j = .quarantined then s else s.setSpg j .offline) s
    let s := awlUnits.foldl (fun s u => if some u = keep ∨ s.awlState u = stQuarantined then s else s.stopAwl u stOffline) s
    let s := match keep with | some u => s.stopAwl u stIdle | none => s
    let s := s.updAwl (fun a => { a with fetched := [], runs := [] })
    let s := s.updKeys (fun k => { k with slots := tkeep k.slots (fun i _ => i == 5 && keep.isSome), resident := [], current := [] })
    let s := s.updPack (fun p => { p with stopped := true })
    let s := s.updCollector (fun c => { c with mgmtAwl := keep })
    let s := (s.flag Reg.FCU_STATUS.SAFE true).wr Reg.FCU_SAFE_SRC.SRC src
    let s := s.flag Reg.FCU_SAFE_SRC.VALID true
    ((s.interrupt 126).interrupt 127).stateRecord before 3

/-- A detection with the reaction it starts (R466): the unit that the source and DETAIL name is quarantined, reset, or the safe state
is entered; a QUARANTINE, UNIT_RESET or SAFE reaction opens its window. -/
def State.detect (s : State) (src detail : Nat) (inj : Injection := .no) : State :=
  let unit := sourceUnit src detail
  match s.detectBase src detail inj with
  | (s, none) => s
  | (s, some react) =>
    if react = rSafe then
      let s := s.quarantineUnit unit
      (s.openWindow src unit rSafe).enterSafe src
    else if unit = .none then s
    else if react = rUnitReset then (s.openWindow src unit react).resetUnit unit
    else (s.openWindow src unit react).quarantineUnit unit

/-- A source detects (R466). -/
def State.raise (s : State) (src : Nat) (detail : Nat := 0) : State := s.detect src detail

/-- A reaction is running: a window of a reaction that is not SAFE is open, or a SAFE reaction is not complete. In this model a SAFE
reaction completes within its step. -/
def State.reacting (s : State) : Option Window := s.collector.windows.find? (fun w => w.reaction != rSafe)

/-- An error in the collector while a reaction is running (R475): merged and logged under MERGE, with REBUILT in the record the
damaged word belonged to; the safe state under SAFE. -/
def State.nestedError (s : State) (rebuilt : Nat) : State :=
  match s.reacting with
  | none => s
  | some w =>
    if s.isSet Reg.FCU_CFG.NEST then s.raise srcFcuNest w.opener
    else
      let s := s.updRec rebuilt (fun r => { r with rebuilt := true })
      let s := s.updRec w.opener (fun r => { r with nested := satAdd 65535 r.nested 1 })
      s.raise srcFcuNest w.opener

end Sys2Proof.Machine
end

