-- ==== Sys2Proof/Machine/Records.lean ====
section
/-!
DEFINITION. The structures of the data path as bytes: the extent record (Table 6-4), the fragment header (Table 4-2), the GCM inputs
(Tables 3-1 and 3-2), the inclusion proof (Table 6-5), the epoch header (Table 6-6); and the staging pages of a channel (R141 to
R145).
-/

namespace Sys2Proof.Machine

/-- The target of each fragment of an extent, in index order. -/
def Extent.fragList (x : Extent) : List (Nat × Fragment) := x.frags

/-- The extent record (Table 6-4). -/
def extentRecord (x : Extent) (final : Bool) : List Byte :=
  beBytes 4 0x4C474552 ++ [1, BitVec.ofNat 8 (b2n final + 2 * b2n x.notarised)] ++ beBytes 2 (x.obj / 2 ^ 116)
  ++ beBytes 16 x.obj ++ beBytes 8 x.idx ++ beBytes 4 x.len ++ beBytes 4 x.epoch
  ++ [BitVec.ofNat 8 x.k, BitVec.ofNat 8 x.m, BitVec.ofNat 8 x.ext, BitVec.ofNat 8 x.settle]
  ++ beBytes 16 (x.tag.getD 0) ++ beBytes 4 x.generation
  ++ x.frags.flatMap (fun f => beBytes 32 (f.2.hash.getD 0) ++ beBytes 2 f.2.media ++ [BitVec.ofNat 8 f.2.shelf, BitVec.ofNat 8 (b2n f.2.repaired)])

/-- The extent's own record, FINAL as far as it is known (R199). -/
def Extent.record (x : Extent) : List Byte := extentRecord x (x.final.getD false)

/-- The fragment header (Table 4-2). -/
def fragmentHeader (x : Extent) (i : Nat) (f : Fragment) : List Byte :=
  let body := beBytes 4 0x4C474652 ++ [1, 1, BitVec.ofNat 8 x.k, BitVec.ofNat 8 x.m, BitVec.ofNat 8 i, BitVec.ofNat 8 (b2n (x.k ≤ i) + 2 * b2n f.repaired), BitVec.ofNat 8 x.ext, 0]
    ++ beBytes 4 (payloadLen x.len x.k) ++ beBytes 16 x.obj ++ beBytes 8 x.idx ++ beBytes 4 x.len ++ beBytes 4 x.epoch
    ++ beBytes 2 f.media ++ [BitVec.ofNat 8 f.shelf, 0] ++ beBytes 4 x.generation ++ beBytes 8 x.sealTime
    ++ beBytes 32 (f.hash.getD 0) ++ beBytes 16 (x.tag.getD 0) ++ List.replicate 12 0
  body ++ beBytes 4 (crc32c body)

/-- The fields of record entry `i`: hash, medium, shelf, FFLAGS (Table 6-4). -/
def recHash (r : List Byte) (i : Nat) : Nat := beAt r (64 + 36 * i) 32
def recMedia (r : List Byte) (i : Nat) : Nat := beAt r (96 + 36 * i) 2
def recShelf (r : List Byte) (i : Nat) : Nat := beAt r (98 + 36 * i) 1 % 64
def recK (r : List Byte) : Nat := beAt r 40 1
def recM (r : List Byte) : Nat := beAt r 41 1
def recTag (r : List Byte) : Nat := beAt r 44 16
def recGen (r : List Byte) : Nat := beAt r 60 4
def recSettle (r : List Byte) : Nat := beAt r 43 1
def recLen (r : List Byte) : Nat := beAt r 32 4
def recFinal (r : List Byte) : Bool := bitOf (beAt r 5 1) 0

/-- Whether a header fetched from a shelf is what a record implies for fragment `i` (R137): its HCRC holds and every field but
MEDIA_ID, SHELF_ID, GENERATION, FLAGS[1] and SEAL_TIME agrees. -/
def headerMatches (h r : List Byte) (i : Nat) : Bool :=
  let body := h.take 124
  decide (h.length = 128) && beAt h 124 4 == crc32c body
  && beAt h 0 4 == 0x4C474652 && beAt h 4 1 == 1 && beAt h 5 1 == 1 && beAt h 6 1 == recK r && beAt h 7 1 == recM r
  && beAt h 8 1 == i && (beAt h 9 1 == b2n (recK r ≤ i) || beAt h 9 1 == b2n (recK r ≤ i) + 2) && beAt h 10 1 == beAt r 42 1 && beAt h 11 1 == 0
  && beAt h 12 4 == payloadLen (recLen r) (recK r) && beAt h 16 16 == beAt r 8 16 && beAt h 32 8 == beAt r 24 8
  && beAt h 40 4 == recLen r && beAt h 44 4 == beAt r 36 4 && beAt h 51 1 == 0
  && beAt h 64 32 == recHash r i && beAt h 96 16 == recTag r && beAt h 112 12 == 0

/-- The GCM IV of an extent as a 96-bit number (Table 3-1). -/
def extentIv (idx : Nat) : Nat := idx * 2 ^ 32

/-- The AAD of an extent (Table 3-2). -/
def extentAad (i : JobInfo) : List Byte :=
  beBytes 16 i.obj ++ beBytes 8 i.idx ++ beBytes 4 i.len ++ [BitVec.ofNat 8 i.k, BitVec.ofNat 8 i.m, 1, 0] ++ beBytes 4 i.epoch

/-- The tag of an extent from its ranges' partials (R110): `parts` gives each range's partial and its last block. -/
def combineTag (key : Nat) (i : JobInfo) (parts : List (Nat × Nat)) : Nat :=
  let h := gcmH key
  let c := ceilDiv i.len 16
  let pa := ghashFold h 0 (blocksOf 3 (padTo 48 (extentAad i)))
  let y := ghashMul pa (ghashPow h (c + 1))
  let y := parts.foldl (fun y p => y ^^^ ghashMul (BitVec.ofNat 128 p.1) (ghashPow h (c - p.2))) y
  let y := y ^^^ ghashMul (BitVec.ofNat 128 (288 * 2 ^ 64 + 8 * i.len)) h
  (Config.aes256 (BitVec.ofNat 256 key) (counterBlock (extentIv i.idx) 1) ^^^ y).toNat

/-- The last ciphertext block of a range of rows of an extent. -/
def lastBlock (i : JobInfo) (first rows : Nat) : Nat := min (4 * i.k * (first + rows)) (ceilDiv i.len 16) - 1

/-- The inclusion proof of a leaf (Table 6-5). -/
def inclusionProof (idx : Nat) (leaves : List Nat) : List Byte :=
  beBytes 4 idx ++ beBytes 4 leaves.length ++ (auditPath (leaves.length + 1) idx leaves).flatMap (beBytes 32)

/-- The leaf hash of a record (R202). -/
def leafHash (r : List Byte) : Nat := shakeDom 0x00 r

/-- The list H of healthy channels that do not retrain, ascending (R147). -/
def State.chanList (s : State) : List Nat := channels.filter (fun c => s.chanHealthy c && !s.chanRetraining c)

/-- The count of healthy channels, a retraining one included (R31, R148). -/
def State.chanCount (s : State) : Nat := (channels.filter s.chanHealthy).length

/-- R31: a code is protectable on `c` channels. -/
def spreadOk (k m c : Nat) : Bool := decide (0 < c ∧ ceilDiv (k + m) c ≤ m)

/-- The regions of a channel. -/
def State.chan (s : State) (c : Nat) : Option Channel := tget s.staging.chans c

/-- A fragment stands in staging: it is neither freed nor lost. -/
def Fragment.holds (f : Fragment) : Bool := f.phase == .filling || f.phase == .held || f.phase == .sent || f.phase == .durable

/-- A fragment has pages and a slot: those of a lost one stay its own until a regenerated copy replaces it (R145). -/
def Fragment.occupies (f : Fragment) : Bool := f.holds || f.phase == .lost

/-- The runs in use in the staging region of a channel: fragments', the copies of moves, retired pages. -/
def State.usedRuns (s : State) (c : Nat) : List PageRun :=
  (s.queue.extents.flatMap (fun kv => (kv.2.frags.filter (fun f => f.2.occupies && f.2.channel == c)).flatMap (fun f => f.2.runs)))
  ++ (s.south.repairs.flatMap (fun kv => (kv.2.frags.filter (fun f => f.2.occupies && f.2.channel == c)).flatMap (fun f => f.2.runs)))
  ++ ((s.staging.moves.filter (fun m => m.channel == c)).map (fun m => ({ start := m.oldPage, len := 1 } : PageRun)))
  ++ (match s.chan c with | some ch => ch.retired.map (fun p => { start := p, len := 1 }) | none => [])

/-- The runs in use in the restore buffer of a channel. -/
def State.usedRestore (s : State) (c : Nat) : List PageRun :=
  (s.south.fetches.flatMap (fun kv => if kv.2.channel = c then kv.2.runs else []))
  ++ (s.south.restores.flatMap (fun kv => kv.2.exts.flatMap (fun e => (e.available.filter (fun b => b.2.channel == c)).flatMap (fun b => b.2.runs))))
  ++ (s.south.repairs.flatMap (fun kv => (kv.2.available.filter (fun b => b.2.channel == c)).flatMap (fun b => b.2.runs)))
  ++ (s.queue.extents.flatMap (fun kv => (kv.2.fetched.filter (fun b => b.2.channel == c)).flatMap (fun b => b.2.runs)))

/-- A list of pages as runs of consecutive pages. -/
def packRuns : List Nat → List PageRun
  | [] => []
  | p :: ps =>
    match packRuns ps with
    | r :: rs => if r.start = p + 1 then { start := p, len := r.len + 1 } :: rs else { start := p, len := 1 } :: r :: rs
    | [] => [{ start := p, len := 1 }]

/-- The gaps between runs in a span of pages; the runs are in order of their start. -/
def gaps (upTo : Nat) : Nat → List PageRun → List PageRun
  | at', [] => if at' < upTo then [{ start := at', len := upTo - at' }] else []
  | at', r :: rs => (if at' < r.start then [{ start := at', len := min r.start upTo - at' }] else []) ++ gaps upTo (max at' (r.start + r.len)) rs

/-- Take `need` pages from gaps, the given order, in at most `fuel` runs (R143). -/
def takeRuns : Nat → Nat → List PageRun → Option (List PageRun)
  | _, 0, _ => some []
  | 0, _, _ => none
  | _, _, [] => none
  | fuel + 1, need, g :: gs =>
    if need ≤ g.len then some [{ start := g.start, len := need }]
    else (takeRuns fuel (need - g.len) gs).map (fun rs => g :: rs)

/-- The free runs of a span of pages given the runs in use. -/
def freeRuns (lo hi : Nat) (used : List PageRun) : List PageRun :=
  gaps hi lo (sortBy PageRun.start (used.filter (fun r => decide (lo ≤ r.start ∧ r.start < hi))))

/-- Allocate `n` pages of a span given the runs in use: the largest gaps first, the lower address on a tie, at most 8 runs (the choice
among free pages is the model's, assumption 9). -/
def allocPages (lo hi n : Nat) (used : List PageRun) : Option (List PageRun) :=
  let free := freeRuns lo hi used
  let big := (sortBy (fun g => hi - g.len) free)
  (takeRuns 8 n big)

/-- Header slots in use on a channel. -/
def State.usedSlots (s : State) (c : Nat) : List Nat :=
  (s.queue.extents.flatMap (fun kv => (kv.2.frags.filter (fun f => f.2.occupies && f.2.channel == c)).map (fun f => f.2.slot)))
  ++ (s.south.repairs.flatMap (fun kv => (kv.2.frags.filter (fun f => f.2.occupies && f.2.channel == c)).map (fun f => f.2.slot)))

/-- The lowest number not in a list. -/
def lowestFree : Nat → Nat → List Nat → Nat
  | 0, n, _ => n
  | fuel + 1, n, xs => if n ∈ xs then lowestFree fuel (n + 1) xs else n

/-- A free header slot of a channel, if any. -/
def State.freeSlot (s : State) (c : Nat) (ch : Channel) : Option Nat :=
  let used := s.usedSlots c
  let n := lowestFree (used.length + 1) 0 used
  if n < (ch.stagingStart - ch.headerStart) * 32 then some n else none

/-- The staging pages and the header slot for a fragment of `bytes` payload on a channel (R143, R144). -/
def State.allocFrag (s : State) (c bytes : Nat) : Option (List PageRun × Nat) :=
  (s.chan c).bind (fun ch => (allocPages ch.stagingStart ch.pages (ceilDiv bytes 4096) (s.usedRuns c)).bind (fun rs => (s.freeSlot c ch).map (fun sl => (rs, sl))))

/-- Free staging pages of a channel (STG_FREE_c). -/
def State.freePages (s : State) (c : Nat) : Nat :=
  match s.chan c with
  | some ch => ((freeRuns ch.stagingStart ch.pages (s.usedRuns c)).map PageRun.len).sum
  | none => 0

/-- Free staging pages of a channel lie below LOW_WMARK percent (R251, R179). -/
def State.lowWater (s : State) (c : Nat) : Bool :=
  match s.chan c with
  | some ch => decide (s.freePages c * 100 < (ch.pages - ch.stagingStart) * s.rd Reg.STG_CTRL.LOW_WMARK)
  | none => false

/-- The address of header slot `n` of a channel. -/
def slotAddr (c : Nat) (ch : Channel) (n : Nat) : Nat := pageAddr c ch.headerStart + 128 * n

/-- Divide a channel's pages into the regions of Table 4-3. -/
def divideChannel (capacity eighths : Nat) : Channel :=
  let total := capacity / 4096
  let rest := total - 2097152
  let restore := rest * eighths / 8
  let left := rest - restore
  let header := ceilDiv left 33
  { capacity := capacity, metaPages := 2097152, restoreStart := 2097152, headerStart := 2097152 + restore, stagingStart := 2097152 + restore + header, pages := total, dimms := [], retired := [], trained := true, calibration := 0, prevCalibration := 0 }

def State.setChan (s : State) (c : Nat) (x : Channel) : State := s.updStaging (fun t => { t with chans := tput t.chans c x })

/-- The first page of each DIMM of a channel: DIMM 0's bytes lie below DIMM 1's (DEDUCED, assumption 9). -/
def dimmStart (dimms : List (Nat × Nat)) (j : Nat) : Nat := ((dimms.take j).map (fun d => d.2 / 4096)).sum

/-- A channel's retired pages as pages of its DIMMs, with the serial numbers (R158). -/
def splitRetired (dimms : List (Nat × Nat)) (retired : List Nat) : List (Nat × List Nat) :=
  (List.range dimms.length).map (fun j =>
    ((dimms.getD j (0, 0)).1, (retired.filter (fun p => decide (dimmStart dimms j ≤ p) && (decide (p < dimmStart dimms (j + 1)) || j + 1 == dimms.length))).map (· - dimmStart dimms j)))

/-- The retired pages that a channel keeps: those of the DIMMs whose serial number and position are unchanged (R158). -/
def keptRetired (saved : List (Nat × List Nat)) (dimms : List (Nat × Nat)) : List Nat :=
  (List.range dimms.length).flatMap (fun j => match saved[j]?, dimms[j]? with
    | some r, some d => if r.1 = d.1 then r.2.map (· + dimmStart dimms j) else []
    | _, _ => [])

/-- Retire a page (R155, R158): it joins its channel's list, in flash with the DIMMs' serial numbers, and the Trail; past 4,096 pages the
channel counts as lost. -/
def State.retirePage (s : State) (c p : Nat) : State :=
  match s.chan c with
  | none => s
  | some ch =>
    if p ∈ ch.retired then s
    else if 4096 ≤ ch.retired.length then (s.note srcStgRetireFull c).loseChannel c
    else
      let ch := { ch with retired := ch.retired ++ [p] }
      ((s.setChan c ch).updStaging (fun t => { t with savedRetired := tput t.savedRetired c (splitRetired ch.dimms ch.retired) })).trailRec 0x0603 masterAllocator false (leBytes 1 c ++ leBytes 4 p)

/-- The fragment that a page move works for still occupies its pages. -/
def State.moveLive (s : State) (m : PageMove) : Bool :=
  let frags := if m.repair then (match tget s.south.repairs m.ext with | some r => r.frags | none => []) else (match s.extent m.ext with | some x => x.frags | none => [])
  match tget frags m.frag with
  | some f => f.occupies && f.channel == m.channel
  | none => false

/-- The moves of fragments that have been freed are abandoned and their pages retired (R157). -/
def State.endMoves (s : State) : State :=
  let dead := s.staging.moves.filter (fun m => !s.moveLive m)
  dead.foldl (fun s m => s.retirePage m.channel m.oldPage) (s.updStaging (fun t => { t with moves := t.moves.filter (fun m => !dead.contains m) }))

/-- A metadata item whose extent is still in work: its record awaits settlement, or fragments of it stand in staging. Another's pages are free. -/
def State.itemLive (s : State) (key : Nat) : Bool :=
  match s.extent (key / 2) with
  | some x => if key % 2 = 0 then x.phase == .admitted || x.phase == .sealed || x.phase == .staged else x.frags.any (fun f => f.2.occupies)
  | none => false

/-- The runs in use in the metadata region of a channel, items' and their mirrors', and on channels 0 and 1 the Trail's ring of 64 MiB (R585). -/
def State.usedMeta (s : State) (c : Nat) : List PageRun :=
  ((s.staging.items.filter (fun kv => s.itemLive kv.1)).flatMap (fun kv =>
    (if kv.2.channel = c then kv.2.runs else []) ++ (if kv.2.channel ^^^ 1 = c then kv.2.mirror else [])))
  ++ (if c < 2 then [{ start := 0, len := 16384 }] else [])
  ++ (match s.chan c with | some ch => ch.retired.map (fun p => { start := p, len := 1 }) | none => [])

/-- Free metadata pages of a healthy channel. -/
def State.allocMeta (s : State) (c bytes : Nat) : Option (List PageRun) :=
  if s.chanHealthy c then (s.chan c).bind (fun ch => allocPages 0 ch.metaPages (ceilDiv bytes 4096) (s.usedMeta c)) else none

/-- Write one copy of a metadata item. -/
def State.writeMeta (s : State) (c : Nat) (runs : List PageRun) (bytes : List Byte) : State :=
  s.writePayload c runs (bytes.length / 4096 + 2) 0 bytes

/-- Write a metadata item to the lowest healthy channel with room and to its mirror, both before the write is acknowledged; with the mirror's channel
lost, one copy alone (R142). Which channel of the twelve holds an item is the model's (DESIGN CHOICE, assumption 9). -/
def State.putMeta (s : State) (key : Nat) (bytes : List Byte) : State :=
  let s := s.updStaging (fun t => { t with items := tdel t.items key })
  match channels.findSome? (fun c => (s.allocMeta c bytes.length).map (fun r => (c, r))) with
  | none => s
  | some (c, runs) =>
    let mirror := (s.allocMeta (c ^^^ 1) bytes.length).getD []
    let s := s.writeMeta c runs bytes
    let s := if mirror.isEmpty then s else s.writeMeta (c ^^^ 1) mirror bytes
    s.updStaging (fun t => { t with items := tput t.items key { channel := c, runs := runs, mirror := mirror, len := bytes.length } })

/-- A metadata item as it is read: the copy on channel c, or the mirror where that channel is lost or the copy returns poison (R142). -/
def State.metaBytes (s : State) (key : Nat) : List Byte :=
  match tget s.staging.items key with
  | none => []
  | some i =>
    if s.chanHealthy i.channel ∧ !(runPages i.runs).any (s.pageMarked i.channel) then s.readPayload i.channel i.runs i.len
    else s.readPayload (i.channel ^^^ 1) i.mirror i.len

/-- A fragment descriptor (R143): channel, header slot, the runs, and each page's staging check. The spec gives its contents and no layout: this one
is the model's (DESIGN CHOICE, assumption 9). -/
def descriptorBytes (i : Nat) (f : Fragment) : List Byte :=
  leBytes 1 i ++ leBytes 1 f.channel ++ leBytes 1 f.runs.length ++ leBytes 1 0 ++ leBytes 4 f.slot
  ++ f.runs.flatMap (fun r => leBytes 4 r.start ++ leBytes 4 r.len) ++ f.crcs.flatMap (leBytes 4)

/-- File an extent's metadata: its record, as far as it is known, and the descriptors of its fragments in staging (Table 4-3, R142, R143). -/
def State.fileExtent (s : State) (e : Nat) : State :=
  match s.extent e with
  | none => s
  | some x => (s.putMeta (2 * e) x.record).putMeta (2 * e + 1) ((x.frags.filter (fun f => f.2.occupies)).flatMap (fun f => descriptorBytes f.1 f.2))

/-- A hard page of the metadata region is written anew from its mirror, or from itself where that is lost, on a free metadata page, and retired
(R155). -/
def State.rewriteMeta (s : State) (c p : Nat) : State :=
  let at' (kv : Nat × MetaItem) : List PageRun := if kv.2.channel = c then kv.2.runs else if kv.2.channel ^^^ 1 = c then kv.2.mirror else []
  let other (i : MetaItem) : List PageRun := if i.channel = c then i.mirror else i.runs
  match s.staging.items.find? (fun kv => s.itemLive kv.1 && decide (p ∈ runPages (at' kv))), s.allocMeta c 4096 with
  | some (key, i), some (r :: _) =>
    let j := (runPages (at' (key, i))).findIdx (· == p)
    let good := match (runPages (other i))[j]? with
      | some q => if s.chanHealthy (c ^^^ 1) then s.readMem (pageAddr (c ^^^ 1) q) 4096 else s.readMem (pageAddr c p) 4096
      | none => s.readMem (pageAddr c p) 4096
    let swap (rs : List PageRun) : List PageRun := packRuns ((runPages rs).map (fun q => if q = p then r.start else q))
    let s := s.writeMem (pageAddr c r.start) good
    let s := s.updStaging (fun t => { t with items := tput t.items key (if i.channel = c then { i with runs := swap i.runs } else { i with mirror := swap i.mirror }) })
    s.retirePage c p
  | _, _ => s.retirePage c p

end Sys2Proof.Machine
end

