-- ==== Sys2Proof/Machine/Placement.lean ====
section
/-!
DEFINITION. The Shepherd's arithmetic (chapter 05): factors and weights (R164 to R168), the hash and the score (R169 to R171), the
caps, the walk and its relaxation (R172 to R174), and placements over the media table.
-/

namespace Sys2Proof.Machine

/-- mix of R169. -/
def mix (x : Nat) : Nat :=
  let w := 2 ^ 64
  let x := x ^^^ (x / 2 ^ 31)
  let x := x * 0xA3B195C42F6D8E1B % w
  let x := x ^^^ (x / 2 ^ 29)
  let x := x * 0xC2E75A93D41F076D % w
  x ^^^ (x / 2 ^ 32)

/-- stripe_key of R169. -/
def stripeKey (seed oid xidx : Nat) : Nat :=
  let sk := mix (seed ^^^ bitsOf oid 64 64)
  let sk := mix (sk ^^^ bitsOf oid 0 64)
  mix (sk ^^^ xidx % 2 ^ 64)

/-- shash of R169. -/
def shash (sk lvl id : Nat) : Nat := mix (sk ^^^ (lvl * 2 ^ 56) ^^^ id)

/-- A lower bound of atanh(num / den) × 2^p for num / den at most 1/3: `fuel` terms, each cut downward. -/
def atanhLow : Nat → Nat → Nat → Nat → Nat → Nat
  | 0, _, _, _, _ => 0
  | fuel + 1, term, num, den, i => term / (2 * i + 1) + atanhLow fuel (term * (num * num) / (den * den)) num den (i + 1)

/-- Bounds of −ln(u) × 2^p for u = a / 2^54: the lower one and how far the upper one lies above it. With a = x × 2^b, 1/2 ≤ x < 1,
−ln(u) = (54 − b) ln 2 + 2 atanh((2^b − a) / (2^b + a)) and ln 2 = 2 atanh(1/3); each truncated series of n terms errs by less than
3 n + 2 units. -/
def lnBounds (p a : Nat) : Nat × Nat :=
  let n := p / 3 + 2
  let b := Nat.log2 a + 1
  let num := 2 ^ b - a
  let den := 2 ^ b + a
  let ln2 := 2 * atanhLow n (2 ^ p / 3) 1 3 0
  let lx := 2 * atanhLow n (2 ^ p * num / den) num den 0
  ((54 - b) * ln2 + lx, (2 * (54 - b) + 2) * (3 * n + 2))

/-- The floor of −ln(u) × 2^64, narrowed until the interval holds no integer (R170). -/
def narrowL : Nat → Nat → Nat → Nat
  | 0, p, a => (lnBounds p a).1 / 2 ^ (p - 64)
  | fuel + 1, p, a =>
    let (lo, gap) := lnBounds p a
    let l := lo / 2 ^ (p - 64)
    if (lo + gap) / 2 ^ (p - 64) = l then l else narrowL fuel (2 * p) a

/-- L of R170 from a candidate hash. -/
def scoreL (h : Nat) : Nat := narrowL 5 192 (2 * (h / 2 ^ 11) + 1)

/-- A candidate of a ranking: its ID, its weight and its L. -/
structure Cand where
  id : Nat
  weight : Nat
  l : Nat
  deriving DecidableEq, Repr

/-- Candidate a ranks before candidate b (R171). -/
def Cand.before (a b : Cand) : Bool :=
  decide (b.weight * a.l < a.weight * b.l) || (a.weight * b.l == b.weight * a.l && decide (a.id < b.id))

/-- Insert in rank order. -/
def rankInsert (x : Cand) : List Cand → List Cand
  | [] => [x]
  | y :: ys => if x.before y then x :: y :: ys else y :: rankInsert x ys

/-- The IDs in rank order. -/
def rank (cs : List Cand) : List Nat := (cs.foldl (fun acc c => rankInsert c acc) []).map Cand.id

/-- FW of R165, with WEAR_END taken above WEAR_KNEE where it is used (R635). -/
def State.wearFactor (s : State) (w : Nat) : Nat :=
  let knee := s.rd Reg.SHP_FACT.WEAR_KNEE
  let e := s.rd Reg.SHP_FACT.WEAR_END
  let e := if e ≤ knee then knee + 1 else e
  if w ≤ knee then 255 else if e ≤ w then 0 else 255 - (w - knee) * 255 / (e - knee)

/-- A two's complement number of `w` bits. -/
def signed (w v : Nat) : Int := if v < 2 ^ (w - 1) then v else (v : Int) - 2 ^ w

/-- FT of R166 from TEMP alone, with MAX taken above KNEE where it is used (R635). -/
def State.tempFactor (s : State) (t : Nat) : Nat :=
  let t := signed 16 t
  let knee := signed 8 (s.rd Reg.SHP_TEMP.KNEE)
  let mx := signed 8 (s.rd Reg.SHP_TEMP.MAX)
  let mx := if mx ≤ knee then knee + 1 else mx
  if t ≤ 16 * knee then 255 else if 16 * mx ≤ t then 0
  else 255 - ((t - 16 * knee) * 255 / (16 * (mx - knee))).toNat

/-- The media entry and shelf entry of a number. -/
def State.media (s : State) (d : Nat) : Media := tgetD s.shepherd.media d {}
def State.shelf (s : State) (h : Nat) : Shelf := tgetD s.shepherd.shelves h {}
def State.setMedia (s : State) (d : Nat) (x : Media) : State := s.updShepherd (fun p => { p with media := tput p.media d x })
/-- Write a media entry: CHANGES counts the write (R160). -/
def State.writeMedia (s : State) (d : Nat) (x : Media) : State := s.setMedia d { x with changes := (x.changes + 1) % 2 ^ 32 }

def State.setShelf (s : State) (h : Nat) (x : Shelf) : State := s.updShepherd (fun p => { p with shelves := tput p.shelves h x })

/-- FT at a decision: 1 when the last sample is more than 1 s old, unless a fresh reading excludes the medium (R166). -/
def State.mediaFt (s : State) (m : Media) : Nat := if m.tempTime + second < s.time64 then 1 else m.ft

/-- The power factor of a shelf (R164). -/
def State.powerFactor (s : State) (p : PState) : Nat :=
  match p with
  | .absent => 0
  | .fault => 0
  | .on => s.rd Reg.SHP_PWRF.ON
  | .waking => s.rd Reg.SHP_PWRF.WAKING
  | .off => s.rd Reg.SHP_PWRF.OFF
  | .stopping => s.rd Reg.SHP_PWRF.STOPPING

/-- The effective weight of a medium (R164). -/
def State.weight (s : State) (m : Media) : Nat :=
  m.weight * s.powerFactor (s.shelf m.shelf).pstate * m.fw * s.mediaFt m

/-- Eligibility of a medium for a payload of `p` bytes under a shelf mask (R167). -/
def State.eligible (s : State) (mask p : Nat) (m : Media) : Bool :=
  let h := s.shelf m.shelf
  m.state == 1 && h.enabled && h.pstate != .absent && h.pstate != .fault && (!m.removable || m.checkedIn)
  && decide (0 < s.weight m) && bitOf mask m.shelf
  && decide (p + 128 + m.capacity * s.rd Reg.SHP_POOL.RESERVE / 1000 ≤ min (m.capacity - m.allocated) m.free)

/-- The eligible media, ascending. -/
def State.eligibleMedia (s : State) (mask p : Nat) : List (Nat × Media) := s.shepherd.media.filter (fun kv => s.eligible mask p kv.2)

/-- The shelves with eligible media, with their weights WS (R168), in rank order under a stripe key. -/
def State.rankShelves (s : State) (sk : Nat) (em : List (Nat × Media)) : List Nat :=
  rank (((List.range 64).filter (fun h => em.any (fun kv => kv.2.shelf == h))).map (fun h =>
    { id := h, weight := ((em.filter (fun kv => kv.2.shelf == h)).map (fun kv => s.weight kv.2)).sum, l := scoreL (shash sk 1 h) }))

/-- The eligible media of a shelf in rank order. -/
def State.rankMedia (s : State) (sk : Nat) (em : List (Nat × Media)) (h : Nat) : List Nat :=
  rank ((em.filter (fun kv => kv.2.shelf == h)).map (fun kv => { id := kv.1, weight := s.weight kv.2, l := scoreL (shash sk 2 kv.1) }))

/-- A ranking: each shelf with its group and its media in rank order with their trays. -/
abbrev Ranking := List (Nat × Nat × List (Nat × Nat))

/-- The ranking of the eligible shelves and media (R171). -/
def State.ranking (s : State) (sk mask p : Nat) : Ranking :=
  let em := s.eligibleMedia mask p
  (s.rankShelves sk em).map (fun h => (h, (s.shelf h).group, (s.rankMedia sk em h).map (fun d => (d, (s.media d).tray))))

/-- What a walk has used: shelf, group, tray and medium of each fragment placed. -/
structure Taken where
  shelf : Nat
  group : Nat
  tray : Nat
  media : Nat
  deriving DecidableEq, Repr

/-- The first shelf and medium in rank order that the caps allow (R173). -/
def pickOne (cs cg ct : Nat) (used : List Taken) (r : Ranking) : Option Taken :=
  r.findSome? (fun (h, g, ds) =>
    if cs ≤ (used.filter (fun t => t.shelf == h)).length ∨ cg ≤ (used.filter (fun t => t.group == g)).length then none
    else (ds.find? (fun d => !(used.any (fun t => t.media == d.1)) && decide ((used.filter (fun t => t.shelf == h && t.tray == d.2)).length < ct))).map
      (fun d => { shelf := h, group := g, tray := d.2, media := d.1 }))

/-- walk of R173 for `n` fragments. -/
def walk (cs cg ct : Nat) (r : Ranking) : Nat → List Taken → Option (List Taken)
  | 0, used => some used
  | n + 1, used => match pickOne cs cg ct used r with
    | some t => walk cs cg ct r n (used ++ [t])
    | none => none

/-- The walk with relaxation (R174): the tray cap first, then the shelf cap; answers the placement and whether it was relaxed. -/
def relaxedWalk (n m cg : Nat) (r : Ranking) : Nat → Nat → Nat → Bool → Bool → Option (List Taken × Bool)
  | 0, _, _, _, _ => none
  | fuel + 1, cs, ct, relaxed, raisedCs =>
    match walk cs cg ct r n [] with
    | some t => some (t, relaxed)
    | none =>
      if ct < cs ∧ !raisedCs then relaxedWalk n m cg r fuel cs (ct + 1) true raisedCs
      else if cs < min cg m then relaxedWalk n m cg r fuel (cs + 1) ct true true
      else none

/-- The caps of a namespace and code (R172): shelf, group, tray. -/
def State.caps (s : State) (ns k m : Nat) : Nat × Nat × Nat :=
  let c := s.dictVal 0x2101 12 ns
  let pick (own dev : Nat) : Nat := if own = 0 then dev else own
  let clampCap (v : Nat) : Nat := if 8 < v ∧ v ≠ 15 then 8 else v
  let cs := clampCap (pick (c / 65536 % 256) (s.rd Reg.SHP_CAPS.SHELF))
  let cg := clampCap (pick (c / 256 % 256) (s.rd Reg.SHP_CAPS.GROUP))
  let ct := pick (c % 256) (s.rd Reg.SHP_CAPS.TRAY)
  let cg := if cg = 0 then m else if cg = 15 then k + m else cg
  let cs := if cs = 0 then max 1 (m / 2) else min cs 8
  let cs := min cs (min cg m)
  let ct := min (if ct = 0 then 1 else min ct 8) cs
  (cs, cg, ct)

/-- The namespace's shelf mask. -/
def State.shelfMask (s : State) (ns : Nat) : Nat := s.dictVal 0x2101 11 ns

/-- The seed of R169. -/
def State.seed (s : State) : Nat := s.rd Reg.SHP_SEED.SEED

/-- A placement of an extent by the walk and its relaxation (R173, R174). -/
def State.place (s : State) (obj idx k m p : Nat) : Option (List Taken × Bool) :=
  let ns := obj / 2 ^ 116
  let r := s.ranking (stripeKey s.seed obj idx) (s.shelfMask ns) p
  let (cs, cg, ct) := s.caps ns k m
  relaxedWalk (k + m) m cg r 64 cs ct false false

/-- Move allocation: add `bytes` to a medium's ALLOCATED and its shelf's PENDING (R175), or take them away. -/
def State.addAlloc (s : State) (d bytes : Nat) : State :=
  let m := s.media d
  let s := s.setMedia d { m with allocated := m.allocated + bytes, changes := (m.changes + 1) % 2 ^ 32 }
  let h := s.shelf m.shelf
  s.setShelf m.shelf { h with pendingBytes := h.pendingBytes + bytes }

def State.subAlloc (s : State) (d bytes : Nat) : State :=
  let m := s.media d
  s.setMedia d { m with allocated := m.allocated - bytes, changes := (m.changes + 1) % 2 ^ 32 }

/-- Bytes that are no longer pending on a shelf; its idle time starts when none are left (R181). -/
def State.subPending (s : State) (h bytes : Nat) : State :=
  let x := s.shelf h
  s.setShelf h { x with pendingBytes := x.pendingBytes - bytes, idleSince := s.now }

/-- Record a placement that needed relaxation (R174, Table 19-2). -/
def State.noteRelaxed (s : State) (obj idx : Nat) : State :=
  (s.bump Reg.SHP_EVENTS.RELAXED).trailRec 0x0505 masterShepherd false (leBytes 16 obj ++ leBytes 8 idx)

/-- Another medium for one fragment of a stripe (R177): the first that the walk gives with the other fragments counted against the caps
and `bad` excluded. -/
def State.retarget (s : State) (obj idx k m p : Nat) (others : List Nat) (bad : Nat) : Option Nat :=
  let ns := obj / 2 ^ 116
  let r := (s.ranking (stripeKey s.seed obj idx) (s.shelfMask ns) p).map (fun (h, g, ds) => (h, g, ds.filter (fun d => d.1 != bad)))
  let (cs, cg, ct) := s.caps ns k m
  let used := others.map (fun d => let x := s.media d; { shelf := x.shelf, group := (s.shelf x.shelf).group, tray := x.tray, media := d })
  (pickOne cs cg ct used r).map Taken.media

/-- The media of a catalogue version's copies (R260): shelves in rank order in distinct power groups while any remain, then further
shelves, then further media. -/
def State.placeCopies (s : State) (kind num bytes copies : Nat) : List Nat :=
  let r := s.ranking (stripeKey s.seed kind num) (2 ^ 64 - 1) (bytes - 128)
  let firsts := r.filterMap (fun (h, g, ds) => ds.head?.map (fun d => (h, g, d.1)))
  let distinct := firsts.foldl (fun acc x => if acc.any (fun y => y.2.1 == x.2.1) then acc else acc ++ [x]) ([] : List (Nat × Nat × Nat))
  let others := firsts.filter (fun x => !(distinct.any (fun y => y.1 == x.1)))
  let ones := (distinct ++ others).map (fun x => x.2.2)
  let rest := (r.flatMap (fun (_, _, ds) => ds.map Prod.fst)).filter (fun d => !(ones.contains d))
  (ones ++ rest).take copies

end Sys2Proof.Machine
end

