-- ==== Sys2Proof/Machine/SelfTest.lean ====
section
/-!
DEFINITION. Rolling self-test (R37, R126, R186 to R188): when tests fall due, the grant, the withdrawal, the records of lateness, and
the start of a unit's test.
-/

namespace Sys2Proof.Machine

/-- The unit kind's code in the SELFTEST records, that of ST_CMD.KIND (assumption 11). -/
def kindCode : UnitKind → Nat
  | .stitch => 1
  | .sponge => 2
  | .awl => 3
  | .pair => 4

/-- The interval per unit (Table 5-5). -/
def testInterval : UnitKind → Nat
  | .stitch => 600 * second
  | .sponge => 3600 * second
  | .awl => 1800 * second
  | .pair => 24 * hour

/-- A SELFTEST, SELFTEST_ABORT or SELFTEST_DEFERRED record (Table 19-2). -/
def State.testRecord (s : State) (typ : Nat) (kind : UnitKind) (u result signature : Nat) : State :=
  s.trailRec typ masterTest false (leBytes 1 (kindCode kind) ++ leBytes 1 u ++ leBytes 1 result ++ leBytes 8 signature)

/-- The enable bit of a kind (SHP_ST_CTRL). -/
def State.testEnabled (s : State) : UnitKind → Bool
  | .stitch => s.isSet Reg.SHP_ST_CTRL.STU
  | .sponge => s.isSet Reg.SHP_ST_CTRL.PACK
  | .awl => s.isSet Reg.SHP_ST_CTRL.AWL
  | .pair => s.isSet Reg.SHP_ST_CTRL.CORE

/-- The hour of day, UTC. -/
def State.hourOfDay (s : State) : Nat := s.rtc / hour % 24

/-- Inside the night window of SHP_ST_CTRL. -/
def State.nightWindow (s : State) : Bool :=
  let start := s.rd Reg.SHP_ST_CTRL.NIGHT_HOUR % 24
  decide ((s.hourOfDay + 24 - start) % 24 < s.rd Reg.SHP_ST_CTRL.NIGHT_LEN)

/-- The next start of a night window, after the present one where it is under way. -/
def State.nextNight (s : State) : Nat :=
  let into := (s.hourOfDay + 24 - s.rd Reg.SHP_ST_CTRL.NIGHT_HOUR % 24) % 24
  s.now + ((24 - into) * hour - s.rtc % hour)

/-- When a core pair's test falls due (Table 5-5): now in a night window, else at the start of the next. -/
def State.nightDue (s : State) : Nat := if s.nightWindow then s.now else s.nextNight

/-- The core pairs in service less one, and one more, carry the present work, `load` percent of each pair's time on the mean (R37). -/
def State.pairsCarry (s : State) (load : Nat) : Bool :=
  let n := ((List.range 16).filter (fun p => s.pstate p == 0)).length
  decide (2 ≤ n ∧ n * load ≤ (n - 2) * 100)

/-- The load condition of Table 5-5, from the admitted rates of R23: `load` is the mean busy signing-pool cores or Awl units over the last second. -/
def State.loadAllows (s : State) (kind : UnitKind) (load : Nat) : Bool :=
  match kind with
  | .stitch => decide (s.shepherd.admittedIngest + s.shepherd.admittedRestore + 2 * 204800 ≤ (stitchUnits.filter s.stuHealthy).length * 204800)
  | .sponge => decide (ceilDiv s.shepherd.admittedHash 18100 + load + 2 ≤ (spongeCores.filter s.spgHealthy).length)
  | .awl => decide (load + 2 ≤ (awlUnits.filter s.awlHealthy).length)
  | .pair => false

/-- A unit with no context left goes IDLE, or OFFLINE with EN clear, and begins a test asked of it (Table 3-8, R126). -/
def State.settleStitch (s : State) (n : Nat) : State :=
  if s.stu n = stBusy ∧ !(s.stitch.ctxs.any (fun kv => kv.1 / 4 == n)) then
    if s.isSet (Reg.STU_CTRL.EN.nth n) then (s.setStu n stIdle).settleTest .stitch n else s.setStu n stOffline
  else s

/-- Remove a context with its key material (R106); a re-run that waited behind context 2 takes its place, and another context runs. -/
def State.dropCtx (s : State) (n c : Nat) : State :=
  let s := (s.updStitch (fun t => { t with ctxs := tdel t.ctxs (ctxKey n c), current := if tget t.current n = some c then tdel t.current n else t.current })).setBit (Reg.STU_STATUS.CTX_BUSY.nth n) c false
  let s := match c, tgetD s.stitch.queued n [] with
    | 2, x :: xs => (s.updStitch (fun t => { t with queued := if xs.isEmpty then tdel t.queued n else tput t.queued n xs })).assign n 2 x
    | _, _ => s
  let s := match tget s.stitch.current n, [2, 0, 1].find? (fun c => (tget s.stitch.ctxs (ctxKey n c)).isSome) with
    | none, some c => s.updStitch (fun t => { t with current := tput t.current n c })
    | _, _ => s
  s.settleStitch n

/-- The contexts of jobs stop (R106, R123): one that its unit runs stops at its next row boundary; any other is cleared now and reports ABORTED. -/
def State.abortJobs (s : State) (mine : Job → Bool) : State :=
  let s := s.updStitch (fun t => { t with queued := tmap t.queued (fun _ cs => cs.filter (fun c => !mine c.job)) })
  (tkeys s.stitch.ctxs (fun _ c => mine c.job)).foldl (fun s i =>
    if tget s.stitch.current (i / 4) = some (i % 4) then s.updStitch (fun t => { t with ctxs := tmod t.ctxs i (fun c => { c with aborting := true }) })
    else (s.stuCode (i / 4) 0x50).dropCtx (i / 4) (i % 4)) s

/-- A unit falls due one interval from now; a core pair at the next night (R186). -/
def State.dueAgain (s : State) (kind : UnitKind) (u : Nat) : State :=
  s.updShepherd (fun p => { p with due := tput p.due (dueKey kind u) (if kind = .pair then s.nextNight else s.now + testInterval kind) })

/-- A unit returns to service in SEAL outside the schedule and falls due one interval later (R186). -/
def State.backInService (s : State) (kind : UnitKind) (u : Nat) : State := if s.sealRuns then s.dueAgain kind u else s

/-- The schedule forgets a request; the unit falls due one interval from now (R186). -/
def State.testEnded (s : State) (kind : UnitKind) (u : Nat) : State :=
  let key := dueKey kind u
  ((s.dueAgain kind u).updShepherd (fun p => { p with asked := tdel p.asked key, deferred := p.deferred.filter (· != key), overdue := p.overdue.filter (· != key) })).setOut kind u false

/-- The units of a kind in service carry the admitted load (R23, R38); of the Awl units one is idle. -/
def State.loadCarried (s : State) (kind : UnitKind) : Bool :=
  match kind with
  | .stitch => decide (s.shepherd.admittedIngest + s.shepherd.admittedRestore ≤ (stitchUnits.filter s.stuHealthy).length * 204800)
  | .sponge => decide (ceilDiv s.shepherd.admittedHash 18100 ≤ (spongeCores.filter s.spgHealthy).length)
  | .awl => awlUnits.any (fun u => s.awlState u == stIdle)
  | .pair => (List.range 16).any (fun p => s.pstate p == 0)

/-- A test may end by the abort of R38: it is a rolling one, and without its unit the others no longer carry the load. -/
def State.mayAbort (s : State) (kind : UnitKind) (why : TestReason) : Bool := why == .rolling && !s.loadCarried kind

/-- A sponge core to be tested is of the pool with more idle cores; of either where both have as many. -/
def State.fromFullerPool (s : State) (kind : UnitKind) (u : Nat) : Bool :=
  let idle (signing : Bool) : Nat := (spongeCores.filter (fun j => s.spgIdle j && s.inSigning j == signing)).length
  kind != .sponge || decide (idle (!s.inSigning u) ≤ idle (s.inSigning u))

/-- ROLLING_SELFTEST_GRANT: at a 10 ms evaluation, a due unit's test is granted: no unit of its kind out or asked, its kind enabled, the
load condition met; new work to it stops, and an IDLE unit begins at once (R37, R126, R186). -/
def execRollingSelftestGrant (kind : UnitKind) (unit load : Nat) (s : State) : Host.Outcome State Fault Refusal :=
  let key := dueKey kind unit
  let askedKind := s.shepherd.asked.any (fun kv => kv.1 / 256 == key / 256)
  let due : Bool := match tget s.shepherd.due key with | some t => decide (t ≤ s.now) | none => false
  let well : Bool := match kind with | .stitch => s.stuHealthy unit | .sponge => s.spgHealthy unit | .awl => s.awlHealthy unit | .pair => false
  if due && well && s.fromFullerPool kind unit && !askedKind && !s.kindOut kind && s.testEnabled kind && s.loadAllows kind load && !s.safe then
    ok ((s.updShepherd (fun p => { p with asked := tput p.asked key s.now })).settleTest kind unit)
  else ok s

/-- ROLLING_SELFTEST_WITHDRAW: 20 ms after the request the unit has not become IDLE; the request is withdrawn, and the unit is asked again
at its next scheduled test (R126). -/
def execRollingSelftestWithdraw (kind : UnitKind) (unit : Nat) (s : State) : Host.Outcome State Fault Refusal :=
  let key := dueKey kind unit
  match tget s.shepherd.asked key with
  | some t =>
    let s := s.advanceTo (t + 20 * msec)
    if s.kindOut kind then ok s
    else ok (s.updShepherd (fun p => { p with asked := tdel p.asked key, due := tupd p.due key 0 (· + testInterval kind) }))
  | none => ok s

/-- Begin a commanded test at once (R613). -/
def State.beginCommanded (s : State) (kind : UnitKind) (u : Nat) : State :=
  match kind with
  | .stitch => (((s.clearCtxs u).1).setStu u stSelfTest).updStitch (fun t => { t with tests := tput t.tests u .commanded })
  | .sponge => (s.setSpg u .selfTest).updPack (fun p => { p with tests := tput p.tests u .commanded })
  | .awl => (s.stopAwl u stSelfTest).updAwl (fun a => { a with tests := tput a.tests u .commanded })
  | .pair => (s.wr (Reg.CORE_STATE.PSTATE.nth u) 4).updPair (Fin.ofNat 16 u) (fun q => { q with testing := some .commanded })

/-- The unit kind of a code of ST_CMD.KIND. -/
def kindOf (n : Nat) : UnitKind := if n = 1 then .stitch else if n = 2 then .sponge else if n = 3 then .awl else .pair

/-- How many units of a kind are tested at a time by command (R613). -/
def testWidth (kind : Nat) : Nat := if kind = 1 ∨ kind = 4 then 4 else 256

/-- Start the waiting units of a commanded run that have room (R613): in HEEL at once; in SEAL each falls due for a rolling test. -/
def State.startTests (s : State) : State :=
  match s.chip.testRun with
  | none => s
  | some r =>
    let go := (r.waiting.filter (fun u => s.sealRuns || decide ((r.running.filter (fun x => x.1.1 == u.1)).length
      + ((r.waiting.filter (fun v => v.1 == u.1)).findIdx (fun v => v == u)) < testWidth u.1)))
    let s := s.updChip (fun c => { c with testRun := some { r with waiting := r.waiting.filter (fun u => !go.contains u), running := r.running ++ go.map (fun u => (u, s.now)) } })
    go.foldl (fun s u =>
      if s.sealRuns then s.updShepherd (fun p => { p with due := tput p.due (dueKey (kindOf u.1) u.2) s.now })
      else s.beginCommanded (kindOf u.1) u.2) s

/-- A record of SELFTEST_RESULT (R613): kind, unit, result, duration in µs, signature. -/
def resultRecord (kind u result us signature : Nat) : List Byte :=
  beBytes 1 kind ++ beBytes 1 u ++ beBytes 1 result ++ beBytes 1 0 ++ beBytes 4 us ++ beBytes 8 signature

/-- A unit's self-test has ended: its record in the Trail, and its part in a commanded run (R613). -/
def State.testOver (s : State) (kind : UnitKind) (u : Nat) (e : TestEnd) (signature : Nat) : State :=
  let s := s.testRecord (if e = .aborted then 0x0503 else 0x0502) kind u e.code signature
  match s.chip.testRun with
  | none => s
  | some r =>
    let key := (kindCode kind, u)
    match r.running.find? (fun x => x.1 == key) with
    | none => s
    | some (_, t) =>
      let rec' := resultRecord key.1 u e.code ((s.now - t) / usec) signature
      let r := { r with running := r.running.filter (fun x => x.1 != key), tested := r.tested + 1, failed := r.failed + b2n (e == .logic || e == .memory),
                        aborted := r.aborted + b2n (e == .aborted), records := r.records ++ rec' }
      (s.updChip (fun c => { c with testRun := some r })).startTests

/-- A due unit whose test has not been granted `n` intervals after it fell due. -/
def State.lateTest (s : State) (kind : UnitKind) (unit n : Nat) : Option State :=
  if (tget s.shepherd.asked (dueKey kind unit)).isSome then none
  else match tget s.shepherd.due (dueKey kind unit) with
  | some t => some (s.advanceTo (t + n * testInterval kind))
  | none => none

/-- SELFTEST_DEFERRED: one interval after it fell due a test is not granted; the Trail records it once (R188). -/
def execSelftestDeferred (kind : UnitKind) (unit : Nat) (s : State) : Host.Outcome State Fault Refusal :=
  let key := dueKey kind unit
  match s.lateTest kind unit 1 with
  | some s => if key ∈ s.shepherd.deferred then ok s else ok ((s.updShepherd (fun p => { p with deferred := p.deferred ++ [key] })).testRecord 0x0504 kind unit 0 0)
  | none => ok s

/-- SHP_ST_OVERDUE: four intervals after it fell due a test is not granted; SHP_ST_OVERDUE is raised once (R188). -/
def execShpStOverdue (kind : UnitKind) (unit : Nat) (s : State) : Host.Outcome State Fault Refusal :=
  let key := dueKey kind unit
  match s.lateTest kind unit 4 with
  | some s => if key ∈ s.shepherd.overdue then ok s else ok ((s.updShepherd (fun p => { p with overdue := p.overdue ++ [key] })).raise srcShpStOverdue (kindCode kind * 256 + unit))
  | none => ok s

/-- Mismatches of a unit within a window of hours, with the present one (STU_QPOL, PCK_QPOL, AWL_QPOL). -/
def recentTimes (now hours : Nat) (ts : List Nat) : List Nat := ts.filter (fun t => decide (now < t + max 1 hours * hour))

end Sys2Proof.Machine
end

