-- ==== Sys2Proof/Machine/Transport.lean ====
section
/-!
DEFINITION. Sending on sessions and associations (R46 to R50, R68, R69, R235, R236, R239), closing manifest epochs (R203 to R218),
receipts in queue sequence (R89 to R91), and the abort of an object (R87).
-/

namespace Sys2Proof.Machine

/-- Opcodes of Table 2-2 that the device sends. -/
def opServerHello : Nat := 0x02
def opAuth : Nat := 0x03
def opKeyUpdate : Nat := 0x04
def opClose : Nat := 0x05
def opCloseAck : Nat := 0x06
def opKeepalive : Nat := 0x07
def opReset : Nat := 0x08
def opPathConfirm : Nat := 0x11
def opPathProbe : Nat := 0x12
def opPathDown : Nat := 0x13
def opQueueOpened : Nat := 0x21
def opQueueClosed : Nat := 0x23
def opObjId : Nat := 0x31
def opData : Nat := 0x32
def opAck : Nat := 0x40
def opCredit : Nat := 0x41
def opReceiptStaged : Nat := 0x50
def opReceiptSettled : Nat := 0x51
def opEpoch : Nat := 0x54
def opRestoreBegin : Nat := 0x61
def opRestoreEnd : Nat := 0x62
def opStatus : Nat := 0x70

/-- Status codes of Table 2-9. -/
def cOk : Nat := 0
def cBadOpcode : Nat := 0x0101
def cBadField : Nat := 0x0102
def cAuthFailed : Nat := 0x0103
def cFeatureMismatch : Nat := 0x0104
def cSessionLimit : Nat := 0x0105
def cNotAvailable : Nat := 0x0106
def cNotAdmitted : Nat := 0x0201
def cUnkeyed : Nat := 0x0202
def cBadCode : Nat := 0x0203
def cChannelsShort : Nat := 0x0204
def cServiceDown : Nat := 0x0205
def cNoQueue : Nat := 0x0206
def cBadResume : Nat := 0x0207
def cCreditExceeded : Nat := 0x0301
def cObjectOpen : Nat := 0x0302
def cNoObject : Nat := 0x0303
def cLengthMismatch : Nat := 0x0304
def cStalled : Nat := 0x0305
def cTooLarge : Nat := 0x0306
def cAborted : Nat := 0x0307
def cNotFound : Nat := 0x0401
def cNotSettled : Nat := 0x0402
def cUnrecoverable : Nat := 0x0403
def cIntegrity : Nat := 0x0404
def cBadRange : Nat := 0x0405

/-- The frame header (Table 2-1). -/
def frameHeader (op flags sid pn stream path len word : Nat) : List Byte :=
  [1, BitVec.ofNat 8 op] ++ beBytes 2 flags ++ beBytes 4 sid ++ beBytes 8 pn ++ beBytes 4 stream ++ [BitVec.ofNat 8 path, 0] ++ beBytes 2 len ++ beBytes 8 word

/-- The path for the next frame: among confirmed, unfailed paths the one whose sent bytes are least for its link rate (R69; the order
of the spreading is the model's, assumption 10); path 0 when there is none. -/
def choosePath (ps : Table Path) : Nat :=
  match argMin (fun kv => kv.2.sentBytes * 1000 / max 1 kv.2.rate) (ps.filter (fun kv => kv.2.confirmed && !kv.2.failed)) with
  | some kv => kv.1
  | none => 0

def State.session (s : State) (sid : Nat) : Option Session := tget s.queue.sessions sid
def State.setSession (s : State) (sid : Nat) (x : Session) : State := s.updQueue (fun q => { q with sessions := tput q.sessions sid x })
def State.updSession (s : State) (sid : Nat) (f : Session → Session) : State := s.updQueue (fun q => { q with sessions := tmod q.sessions sid f })

/-- The UDP port of Seal Transport (R41). -/
def northPort : Nat := 47010

/-- A datagram leaves a north MAC (R41, R43): beside the frame's own fields go the MAC, the UDP ports, the two addresses and the IP version, and,
where the MAC has a SAK, the SCI and packet number of its SecTAG, which the transmit channel counts on. -/
def State.emitNorth (s : State) (d : Dest) (mac : Nat) (e : Ends) (op : Nat) (fields : List Nat) (bytes : List Byte) : State :=
  let link := [mac, northPort, e.port, e.north, e.peer, b2n e.v6]
  match tget s.queue.macsec mac with
  | none => s.emit d op (fields ++ link) bytes
  | some m => (s.updQueue (fun q => { q with macsec := tput q.macsec mac { m with txPn := m.txPn + 1 } })).emit d op (fields ++ link ++ [m.sci, m.txPn]) bytes

/-- The path that a session sends on where it has none of the number: no port and no ends. -/
def noPath : Path := { rate := 0, port := 0, confirmed := false, failed := false, srtt := 0, rttvar := 0, rto := 0, minRtt := none, expiries := 0, lastProbe := 0, probe := 0 }

/-- Send a protected frame under the session's present key, on a given path (R48, R49): its bytes as they go out, its number kept until
it is acknowledged (R64: an ACK is not). A session whose keys are erased sends none (Table 2-4). -/
def State.sendRaw (s : State) (sid path op flags stream word : Nat) (payload : List Byte) : State :=
  match s.session sid with
  | none => s
  | some x =>
    if x.erased then s else
    let fl := flags + 1
    let hdr := frameHeader op fl sid x.txPn stream path payload.length word
    let (ct, tag) := gcmSeal x.txKey (x.txSalt * 2 ^ 64 + x.txPn) hdr payload
    let fr : SentFrame := { path := path, at' := s.now, typ := op, flags := flags, stream := stream, word := word, payload := payload, retx := bitOf flags 2 }
    let x' := { x with txPn := x.txPn + 1, sent := if op = opAck then x.sent else tput x.sent x.txPn fr, lastSent := s.now, paths := tmod x.paths path (fun p => { p with sentBytes := p.sentBytes + payload.length + 48 }) }
    let p := tgetD x.paths path noPath
    (s.setSession sid x').emitNorth (.north sid) p.port p.ends op [fl, x.txPn, stream, path, word] (hdr ++ ct ++ beBytes 16 tag)

/-- The next key of R59. -/
def nextKey (key : Nat) (name : String) : Nat := kmac (beBytes 32 key) [] (ascii name)

/-- A frame number at which a key has carried 2^31 − 2 frames: the next one is KEY_UPDATE (R59). -/
def keyWornAt (n : Nat) : Bool := n % (2 ^ 31 - 1) == 2 ^ 31 - 2

/-- Send a protected frame, after a KEY_UPDATE where the key is worn (R59). -/
def State.sendOn (s : State) (sid path op flags stream word : Nat) (payload : List Byte) : State :=
  match s.session sid with
  | none => s
  | some x =>
    if keyWornAt x.txPn then
      ((s.sendRaw sid path opKeyUpdate 2 0 (x.txGen + 1) []).updSession sid (fun x => { x with txKey := nextKey x.txKey "LGE9120 ST update", txGen := x.txGen + 1 })).sendRaw sid path op flags stream word payload
    else s.sendRaw sid path op flags stream word payload

/-- Send a protected frame on the path that R69 chooses. FLAGS[1] LAST is set unless the frame is an inner segment. -/
def State.sendFrame (s : State) (sid op stream word : Nat) (payload : List Byte) (last : Bool := true) : State :=
  match s.session sid with
  | none => s
  | some x => s.sendOn sid (choosePath x.paths) op (2 * b2n last) stream word payload

/-- Send an unprotected frame to the ends of a CLIENT_HELLO (R48): a SERVER_HELLO segment, which takes the session's next packet number (R49), or,
with session 0, a RESET. -/
def State.sendPlain (s : State) (mac : Nat) (e : Ends) (op sid word : Nat) (payload : List Byte) (last : Bool := true) : State :=
  let pn := match s.session sid with | some x => x.txPn | none => 0
  (s.updSession sid (fun x => { x with txPn := x.txPn + 1, lastSent := s.now })).emitNorth (.northLink mac) mac e op [2 * b2n last, pn, 0, 0, word] (frameHeader op (2 * b2n last) sid pn 0 0 payload.length word ++ payload)

/-- Send STATUS (Table 2-3): the opcode answered, the code, detail, object ID. -/
def State.status (s : State) (sid answered code : Nat) (stream : Nat := 0) (word : Nat := 0) (detail : Nat := 0) (obj : Nat := 0) : State :=
  s.sendFrame sid opStatus stream word ([BitVec.ofNat 8 answered, 0] ++ beBytes 2 code ++ beBytes 4 detail ++ beBytes 16 obj)

/-- The greatest payload of a frame of a session that is not DATA (R50). -/
def Session.maxPayload (x : Session) : Nat := if bitOf x.features 6 then 1392 else 8224
def Session.maxData (x : Session) : Nat := if bitOf x.features 6 then 1392 else 8192
def Session.has (x : Session) (bit : Nat) : Bool := bitOf x.features bit

/-- Cut bytes into frames' payloads of at most `n` bytes. -/
def cutBytes (n : Nat) : Nat → List Byte → List (List Byte)
  | 0, _ => []
  | fuel + 1, bs => if bs.length ≤ n then [bs] else bs.take n :: cutBytes n fuel (bs.drop n)

/-- Send a message that may span frames, each but the last with LAST clear; WORD as given for every frame. -/
def State.sendLong (s : State) (sid op stream word : Nat) (pieces : List (List Byte)) : State :=
  (pieces.foldl (fun (st : State × Nat) p => (st.1.sendFrame sid op stream word p (decide (st.2 + 1 = pieces.length)), st.2 + 1)) (s, 0)).1

/-- Fragment Transport's message header (Table 7-3). -/
def southHeader (op flags shelf path len seq xid word : Nat) : List Byte :=
  [1, BitVec.ofNat 8 op] ++ beBytes 2 flags ++ [BitVec.ofNat 8 shelf, BitVec.ofNat 8 path] ++ beBytes 2 len ++ beBytes 8 seq ++ beBytes 8 xid ++ beBytes 8 word

/-- The association of a shelf; 64 above its ID, the one in the making whose AUTH is awaited (R237). -/
def State.assoc (s : State) (h : Nat) : Option Assoc := if h < 64 then tget s.south.assocs h else tget s.south.pendingAssoc (h - 64)
def State.setAssoc (s : State) (h : Nat) (a : Assoc) : State :=
  s.updSouth (fun q => if h < 64 then { q with assocs := tput q.assocs h a } else { q with pendingAssoc := tput q.pendingAssoc (h - 64) a })
def State.updAssoc (s : State) (h : Nat) (f : Assoc → Assoc) : State :=
  s.updSouth (fun q => if h < 64 then { q with assocs := tmod q.assocs h f } else { q with pendingAssoc := tmod q.pendingAssoc (h - 64) f })

/-- The port's quad runs a Tether mode (Table 7-1). -/
def State.tetherPort (s : State) (p : Nat) : Bool := decide (4 ≤ s.south.modes.getD (p / 4) 0 ∧ s.south.modes.getD (p / 4) 0 ≤ 6)

def State.tether (s : State) (p : Nat) : Option Tether := tget s.south.tethers p
def State.setTether (s : State) (p : Nat) (x : Tether) : State := s.updSouth (fun q => { q with tethers := tput q.tethers p x })

/-- A Tether flit (Table 7-2). -/
def flitBytes (typ seq ack : Nat) (payload : List Byte) : List Byte :=
  let body := [BitVec.ofNat 8 typ] ++ beBytes 2 seq ++ beBytes 2 ack ++ padTo 1276 payload
  body ++ beBytes 4 (crc32c body)

/-- The 10-bit symbols of bytes, the most significant first. -/
def symbolsOf (bs : List Byte) : List Nat := (List.range (bs.length * 8 / 10)).map (fun i => ofBe bs / 2 ^ (bs.length * 8 - 10 * (i + 1)) % 1024)

/-- The two codewords of a flit: its 514 payload symbols each with their 30 parity symbols of RS(544,514) (R229, R230). -/
def flitCodewords (bytes : List Byte) : List (List Nat) :=
  let s := symbolsOf bytes
  [s.take 514 ++ Config.rsParity (s.take 514), s.drop 514 ++ Config.rsParity (s.drop 514)]

/-- What lane `i` of `lanes` carries of a codeword: every `lanes`th symbol (R230). -/
def laneSymbols (lanes i : Nat) (codeword : List Nat) : List Nat :=
  (List.range (codeword.length / lanes)).map (fun j => codeword.getD (j * lanes + i) 0)

/-- Lanes of a port (Table 7-1). -/
def State.portLanes (s : State) (p : Nat) : Nat :=
  match s.south.modes.getD (p / 4) 0 with
  | 2 => 2
  | 3 => 4
  | 5 => 2
  | 6 => 4
  | _ => 1

/-- The rate of a port after FEC in Gbit/s (Table 7-1), a fraction dropped (DESIGN CHOICE, log entry 125: a link rate is a whole number). -/
def State.portRate (s : State) (p : Nat) : Nat := [0, 100, 200, 400, 106, 212, 425].getD (s.south.modes.getD (p / 4) 0) 0

/-- The ACK field of a flit: the last flit received in order, NAK, VALID. -/
def Tether.ackWord (t : Tether) : Nat := t.rx.getD 0 + 16384 * b2n t.nak + 32768 * b2n t.rx.isSome

/-- A flit's codewords go out over the port's lanes, each lane with an alignment marker before every 16,384th codeword (R230): the fields of a
lane's output are whether the marker stands there, and its symbols. -/
def State.sendLanes (s : State) (p : Nat) (t : Tether) (bytes : List Byte) : State :=
  let n := s.portLanes p
  (List.range n).foldl (fun s i =>
    ((flitCodewords bytes).foldl (fun (st : State × Nat) cw =>
      (st.1.emit (.lane (p + i)) 0 (b2n (decide ((t.codewords + st.2) % 16384 = 0)) :: laneSymbols n i cw), st.2 + 1)) (s, 0)).1) s

/-- Send a flit on a port. -/
def State.sendFlit (s : State) (p : Nat) (t : Tether) (typ seq : Nat) (payload : List Byte) : State :=
  let bytes := flitBytes typ seq t.ackWord payload
  ((s.setTether p { t with sentAt := s.now, codewords := t.codewords + 2 }).emit (.tether p) typ [seq, t.ackWord] bytes).sendLanes p t bytes

/-- Send DATA flits of a backlog while fewer than 256 are unacknowledged (R232). -/
def State.sendFlits (s : State) (p : Nat) : Nat → Tether → State
  | 0, t => s.setTether p t
  | n + 1, t =>
    match t.backlog with
    | [] => s.setTether p t
    | b :: bs =>
      if 256 ≤ t.unacked.length then s.setTether p t
      else
        let t := { t with backlog := bs, unacked := t.unacked ++ [{ seq := t.tx, resends := 0, bytes := b }], ackAt := if t.unacked.isEmpty then s.now else t.ackAt, tx := (t.tx + 1) % 4096, sentAt := s.now }
        State.sendFlits (s.sendFlit p t 1 ((t.tx + 4095) % 4096) b) p n { t with codewords := t.codewords + 2 }

/-- Put a message into the flit stream of a Tether port (R231): the rest of its last flit is fill. -/
def State.flitOut (s : State) (p : Nat) (msg : List Byte) : State :=
  match s.tether p with
  | some t => if t.up then s.sendFlits p 512 { t with backlog := t.backlog ++ cutBytes 1276 16 msg } else s
  | none => s

/-- The UDP port of Fragment Transport (R234). -/
def southPort : Nat := 47011

/-- The south address of a port for an IP version (R234). -/
def State.southAddr (s : State) (p : Nat) (v6 : Bool) : Nat :=
  match s.south.addrs.find? (fun a => a.1 == p && a.2.1 == v6) with
  | some a => a.2.2
  | none => 0

/-- A Fragment Transport message leaves by a port (R234): in the flit stream of a Tether port; else in a packet, whose UDP ports, addresses and IP
version follow the message's own fields. -/
def State.emitSouth (s : State) (h op p : Nat) (e : Ends) (fields : List Nat) (msg : List Byte) : State :=
  if s.tetherPort p then (s.emit (.south h) op (fields ++ [p]) msg).flitOut p msg
  else s.emit (.south h) op (fields ++ [p, southPort, southPort, s.southAddr p e.v6, e.peer, b2n e.v6]) msg

/-- Send a Fragment Transport message on a path of an association (R236): the tag covers header and payload; PUT_DATA and CAT_PUT use
credit (R240). -/
def State.sendSouthRaw (s : State) (h path op flags xid word : Nat) (payload : List Byte) : State :=
  match s.assoc h with
  | none => s
  | some a =>
    let hdr := southHeader op (flags + 1) (h % 64) path payload.length a.txSeq xid word
    let tag := gcmTag a.txKey (a.txSalt * 2 ^ 64 + a.txSeq) (hdr ++ payload) []
    let m : SouthMsg := { path := path, at' := s.now, typ := op, flags := flags, xid := xid, word := word, payload := payload, retx := bitOf flags 2 }
    let a' := { a with txSeq := a.txSeq + 1, sent := if op = 0x10 then a.sent else tput a.sent a.txSeq m, used := if (op = 0x21 ∨ op = 0x50) ∧ !bitOf flags 2 then a.used + payload.length else a.used, paths := tmod a.paths path (fun p => { p with sentBytes := p.sentBytes + payload.length + 48 }) }
    let msg := hdr ++ payload ++ beBytes 16 tag
    let p := tgetD a.paths path noPath
    (s.setAssoc h a').emitSouth (h % 64) op p.port p.ends [flags + 1, a.txSeq, path, xid, word] msg

/-- Send a Fragment Transport message on a path, after a KEY_UPDATE where the key is worn (R59, R237). -/
def State.sendSouthOn (s : State) (h path op flags xid word : Nat) (payload : List Byte) : State :=
  match s.assoc h with
  | none => s
  | some a =>
    if keyWornAt a.txSeq then
      ((s.sendSouthRaw h path 0x04 2 0 (a.txGen + 1) []).updAssoc h (fun a => { a with txKey := nextKey a.txKey "LGE9120 FT update", txGen := a.txGen + 1 })).sendSouthRaw h path op flags xid word payload
    else s.sendSouthRaw h path op flags xid word payload

/-- Send a Fragment Transport message on the path that R239 chooses. -/
def State.sendSouth (s : State) (h op xid word : Nat) (payload : List Byte) : State :=
  match s.assoc h with
  | none => s
  | some a => s.sendSouthOn h (choosePath a.paths) op 2 xid word payload

/-- A fresh transaction ID of an association. -/
def State.newXid (s : State) (h : Nat) : Nat × State :=
  match s.assoc h with
  | some a => (a.nextXid, s.updAssoc h (fun a => { a with nextXid := a.nextXid + 1 }))
  | none => (0, s)

/-- A fragment key (Table 7-6). -/
def fragmentKey (obj idx frag media gen : Nat) : List Byte :=
  beBytes 16 obj ++ beBytes 8 idx ++ [BitVec.ofNat 8 frag, 0] ++ beBytes 2 media ++ beBytes 4 gen

/-- Send DELETE for a fragment on a shelf (R254). -/
def State.sendDelete (s : State) (h obj idx frag media gen : Nat) : State :=
  let (xid, s) := s.newXid h
  s.sendSouth h 0x32 xid 0 (fragmentKey obj idx frag media gen)

/-- Signing-pool cores that are idle (R203) and asked for no test (R126). -/
def State.idleSigning (s : State) : List Nat := (sortBy id s.pack.signing).filter (fun j => s.spgIdle j && s.unasked j)

/-- V and G of R217 for a pool of `p` cores; GROUP is taken from 3 to 48, VGROUP from 1 to 8. -/
def State.vCores (s : State) (p : Nat) : Nat := max 1 (min (min 8 (max 1 (s.rd Reg.PCK_SIGN_CFG.VGROUP))) (p / 4))
def State.gCores (s : State) (p : Nat) : Nat := min (min 48 (max 3 (s.rd Reg.PCK_SIGN_CFG.GROUP))) (p - s.vCores p)

/-- The healthy cores of the signing pool. -/
def State.signingPool (s : State) : List Nat := (sortBy id s.pack.signing).filter s.spgHealthy

/-- The sizes of the groups for the present pool. -/
def State.groupSizes (s : State) : Nat × Nat :=
  let p := s.signingPool.length
  (s.gCores p, s.vCores p)

/-- A signing group and its verifying group are free (R203, R207). -/
def State.groupFree (s : State) : Bool :=
  let (g, v) := s.groupSizes
  decide (0 < g ∧ g + v ≤ s.idleSigning.length)

/-- The key ID of the manifest key (Table 6-6); the public key stands in the flash store (R216). -/
def State.manifestPublic (s : State) : List Byte := s.domain 0x4101 0
def State.manifestKeyId (s : State) : Nat := shakeDom 0x04 s.manifestPublic / 2 ^ 128

/-- Mark cores busy with a job. -/
def State.busyCores (s : State) (js : List Nat) : State := js.foldl (fun s j => if s.spgHealthy j then s.setSpg j .busy else s) s

/-- Reserve an epoch number: the next of the block, a new block recorded in the journal when the block is used up (R206). -/
def State.takeEpochNumber (s : State) : Nat × State :=
  let n := s.pack.nextEpoch
  let fresh := decide (s.pack.blockEnd ≤ n)
  let s := if fresh then s.journal 0x0004 (leBytes 8 n) else s
  (n, s.updPack (fun p => { p with nextEpoch := n + 1, blockEnd := if fresh then n + 65536 else p.blockEnd }))

/-- Give a closed epoch its groups (R217), apart from every core that failed it (R219), once enough cores are idle; one that has failed and finds fewer
than two such cores in the pool has failed for good. -/
def State.assignGroup (s : State) (n : Nat) (e : Epoch) : State :=
  if e.released || e.signature.isSome || !e.group.isEmpty || s.pack.stopped then s
  else
    let p := (s.signingPool.filter (fun j => !e.spent.contains j)).length
    let idle := s.idleSigning.filter (fun j => !e.spent.contains j)
    let (g, v) := (s.gCores p, s.vCores p)
    if 0 < e.failures ∧ p < 2 then (s.updPack (fun q => { q with stopped := true })).raise srcPckSignFail
    else if g = 0 ∨ idle.length < g + v then s
    else
      let group := idle.take g
      let vgroup := (idle.drop g).take v
      (s.updPack (fun q => { q with epochs := tput q.epochs n { e with group := group, vgroup := vgroup } })).busyCores (group ++ vgroup)

/-- Give groups to the closed epochs that wait, in number order. -/
def State.assignGroups (s : State) : State := s.pack.epochs.foldl (fun s kv => s.assignGroup kv.1 kv.2) s

/-- Close an epoch over leaves (R203, R207, R211): its number, its tree, its header and root, and the groups for its signature. -/
def State.closeEpoch (s : State) (obj : Option Nat) (openTime : Nat) (leaves : List (Nat × List Byte)) (len exts : Nat) : State :=
  let (n, s) := s.takeEpochNumber
  let p := s.pack
  let root := mth (leaves.map (fun l => leafHash l.2))
  let hdr := beBytes 4 0x4C474545 ++ [1, if obj.isSome then 2 else 1, 6, BitVec.ofNat 8 (b2n p.genesis + 2 * b2n p.gap)]
    ++ beBytes 8 Config.deviceInstance.toNat ++ beBytes 8 n ++ beBytes 8 openTime ++ beBytes 8 s.time64 ++ beBytes 4 leaves.length ++ beBytes 4 0
    ++ beBytes 16 s.manifestKeyId ++ beBytes 32 (if p.genesis then 0 else p.prevRoot) ++ beBytes 32 root
    ++ beBytes 16 (obj.getD 0) ++ beBytes 8 len ++ beBytes 4 exts ++ beBytes 4 0
  let e : Epoch := { notarised := obj, openTime := openTime, closeTime := s.time64, leaves := leaves, hashes := leaves.map (fun l => leafHash l.2), header := hdr, root := shakeDom 0x02 hdr, group := [], vgroup := [], spent := [], failures := 0, signature := none, released := false, logged := false }
  (s.updPack (fun p => { p with epochs := tput p.epochs n e, prevRoot := e.root, genesis := false, gap := false })).assignGroups

/-- Close the open regular epoch where it holds a leaf. -/
def State.closeRegular (s : State) : State :=
  match s.pack.leaves with
  | [] => s
  | ls => (s.updPack (fun p => { p with leaves := [], slotOpen := none })).closeEpoch none (s.pack.slotOpen.getD 0) ls 0 0

/-- The start of the present slot (R202). -/
def State.slotStart (s : State) : Nat :=
  let len := 1000 * max 50 s.pack.slotLen
  s.time64 / len * len

/-- A settled record enters the open regular epoch as a leaf (R202); at 65,536 leaves the epoch closes at once (R204). -/
def State.addLeaf (s : State) (ext : Nat) (record : List Byte) : State :=
  let s := s.updPack (fun p => { p with leaves := p.leaves ++ [(ext, record)], slotOpen := some (p.slotOpen.getD s.slotStart) })
  if s.pack.leaves.length = 65536 then s.closeRegular else s

/-- The locator of an extent (Table 7-9). -/
def State.locator (s : State) (e : Nat) : Option Locator := tget s.south.locators e

/-- Extents of an object of a given length. -/
def extentCount (len ext : Nat) : Nat := ceilDiv len (extBytes ext)

/-- The extents of an object, in index order, as far as they are listed. -/
def State.objExtents (s : State) (o : Nat) (n : Nat) : List Extent := (List.range n).filterMap (fun i => s.extent (extKey o i))

/-- The head of both receipts (Table 2-3). -/
def receiptHead (o : Nat) (x : Obj) (time : Nat) : List Byte :=
  let len := x.length.getD 0
  beBytes 16 o ++ beBytes 8 len ++ beBytes 4 (extentCount len x.ext) ++ [BitVec.ofNat 8 x.k, BitVec.ofNat 8 x.m, BitVec.ofNat 8 x.ext, BitVec.ofNat 8 x.settle] ++ beBytes 4 x.epoch ++ beBytes 8 time

/-- An object's extents have all reached staging (R8, R135). -/
def State.allStaged (s : State) (o : Nat) (x : Obj) : Bool :=
  match x.length with
  | none => false
  | some len =>
    let n := extentCount len x.ext
    let es := s.objExtents o n
    decide (es.length = n) && es.all (fun e => e.phase == .staged || e.phase == .settled)

/-- The released locators of an object, in extent order; none unless every extent has one (R9). -/
def State.allLocated (s : State) (o : Nat) (x : Obj) : Option (List Locator) :=
  match x.length with
  | none => none
  | some len =>
    let ls := (List.range (extentCount len x.ext)).filterMap (fun i => s.locator (extKey o i))
    if ls.length = extentCount len x.ext then some ls else none

/-- A receipt entry of proof kind 1 (R222). -/
def State.receiptEntry (s : State) (l : Locator) : List Byte :=
  let leaves := match tget s.pack.epochs l.epoch with | some e => e.hashes | none => []
  let proof := inclusionProof l.leaf leaves
  beBytes 8 l.epoch ++ beBytes 2 l.record.length ++ beBytes 2 proof.length ++ l.record ++ proof

/-- Gather entries into frames: no entry spans two frames (R90). -/
def gatherEntries (room : Nat) : List (List Byte) → List (List (List Byte)) → List (List (List Byte))
  | [], acc => acc
  | e :: es, acc =>
    match acc.getLast? with
    | some cur => if (cur.map List.length).sum + e.length ≤ room then gatherEntries room es (acc.dropLast ++ [cur ++ [e]]) else gatherEntries room es (acc ++ [[e]])
    | none => gatherEntries room es [[e]]

/-- The frames of a settled receipt (R90): head, proof kind, index of the first entry, entry count, entries. -/
def receiptFrames (head : List Byte) (kind room : Nat) (entries : List (List Byte)) : List (List Byte) :=
  let groups := match gatherEntries (room - 56) entries [] with | [] => [[]] | gs => gs
  (groups.foldl (fun (st : List (List Byte) × Nat) g =>
    (st.1 ++ [head ++ [BitVec.ofNat 8 kind, 0, 0, 0] ++ beBytes 4 st.2 ++ beBytes 4 g.length ++ g.flatten], st.2 + g.length)) ([], 0)).1

/-- The signed epoch root (R213). -/
def Epoch.signed (e : Epoch) : List Byte := e.header ++ beBytes 49856 (e.signature.getD 0)

/-- Send an EPOCH message for a released epoch (R91). -/
def State.sendEpoch (s : State) (sid n : Nat) : State :=
  match s.session sid, tget s.pack.epochs n with
  | some x, some e => (s.sendLong sid opEpoch 0 n (cutBytes x.maxPayload 64 e.signed)).updSession sid (fun x => { x with epochs := if n ∈ x.epochs then x.epochs else x.epochs ++ [n] })
  | _, _ => s

/-- The settled receipt of an object on a session, then the EPOCH messages it has not had (R90, R91). Two points are the model's (log entry 121):
where the notarised epoch of an object is not at hand its proof is of kind 1, and where the settled time is not known the time of sending stands in
its place. -/
def State.sendSettled (s : State) (sid stream word o : Nat) (x : Obj) (ls : List Locator) : State :=
  match s.session sid with
  | none => s
  | some ss =>
    let notar := if x.notarised then s.pack.epochs.find? (fun kv => kv.2.notarised == some o) else none
    let entries := match notar with
      | some kv => [beBytes 8 kv.1 ++ beBytes 2 160 ++ beBytes 2 0 ++ kv.2.header]
      | none => ls.map s.receiptEntry
    let kind := if notar.isSome then 2 else 1
    let s := s.sendLong sid opReceiptSettled stream word (receiptFrames (receiptHead o x (x.settledTime.getD s.time64)) kind ss.maxPayload entries)
    let names := match notar with | some kv => [kv.1] | none => ls.map Locator.epoch
    if ss.has 3 then names.foldl (fun s n => match s.session sid with | some y => if n ∈ y.epochs then s else s.sendEpoch sid n | none => s) s else s

def State.queue? (s : State) (n : Nat) : Option Queue := tget s.queue.queues n
/-- Store a stream context; it is then in the on-die cache, of the 65,536 contexts used last (R74). -/
def State.setQueue (s : State) (n : Nat) (x : Queue) : State :=
  s.updQueue (fun q => { q with queues := tput q.queues n x, cachedCtxs := (n :: q.cachedCtxs.filter (· != n)).take 65536 })

/-- Extents of a queue's open object that have reached staging (Table 2-7). -/
def State.stagedExtents (s : State) (q : Queue) : Nat :=
  match q.open' with
  | some o => (s.queue.extents.filter (fun kv => kv.2.obj == o && (kv.2.phase == .staged || kv.2.phase == .settled))).length
  | none => 0

/-- The code of a context's state (Table 2-7). -/
def QueueState.code : QueueState → Nat
  | .openQ => 1
  | .detached => 2
  | .closing => 3

/-- A time of the model's clock as TIME64. -/
def State.timeAt (s : State) (t : Nat) : Nat := s.time64 + (t - s.now) - (s.now - t)

/-- A stream context as its 256 bytes (Table 2-7), little-endian. -/
def State.contextBytes (s : State) (q : Queue) : List Byte :=
  let o := q.open'.bind s.object
  let num (f : Obj → Nat) : Nat := match o with | some x => f x | none => 0
  let ranges := (q.received.filter (fun g => decide (q.contiguous < g.1))).take 18
  leBytes 1 q.state.code ++ leBytes 1 (b2n q.notarised + 2 * b2n q.staged + 4 * b2n q.unknownLen) ++ leBytes 2 q.ns
    ++ leBytes 1 q.k ++ leBytes 1 q.m ++ leBytes 1 q.ext ++ leBytes 1 q.settle ++ leBytes 4 q.session ++ leBytes 2 q.slot ++ leBytes 2 0
    ++ leBytes 8 q.tag ++ leBytes 8 q.nextSeq ++ leBytes 8 q.oldest ++ leBytes 8 q.contiguous ++ leBytes 8 q.credit
    ++ leBytes 16 (q.open'.getD 0) ++ leBytes 8 (num Obj.first) ++ leBytes 8 (num (fun x => x.declared.getD (2 ^ 64 - 1)))
    ++ leBytes 4 (num Obj.epoch) ++ leBytes 4 (s.stagedExtents q) ++ leBytes 8 (s.timeAt q.lastActivity)
    ++ leBytes 8 (match q.detachExpiry with | some t => s.timeAt t | none => 0)
    ++ padTo 144 (ranges.flatMap (fun g => leBytes 4 (g.1 - q.contiguous) ++ leBytes 4 g.2.length))

/-- The objects of a queue not yet answered, in queue sequence. -/
def State.queueObjects (s : State) (n : Nat) : List (Nat × Obj) :=
  sortBy (fun kv => kv.2.seq) (s.queue.objects.filter (fun kv => kv.2.queue == n && !kv.2.answered))

/-- A queue reaches its client: its session is established and it is not detached. -/
def State.queueLive (s : State) (q : Queue) : Bool :=
  q.state != .detached && (match s.session q.session with | some x => x.state == .established | none => false)

/-- Stamp the objects of a queue whose last extent has reached staging, and whose last record has been released, with the time (Table 2-3). -/
def State.stampTimes (s : State) (n : Nat) : State :=
  (s.queueObjects n).foldl (fun s kv =>
    let o := kv.2
    let o := if o.stagedTime.isNone && s.allStaged kv.1 o then { o with stagedTime := some s.time64 } else o
    let o := if o.settledTime.isNone && o.state == .settled && (s.allLocated kv.1 o).isSome then { o with settledTime := some s.time64 } else o
    if o = kv.2 then s else s.setObject kv.1 o) s

/-- Send the staged receipts that are due, in queue sequence (R89). -/
def State.pumpStaged (s : State) (n : Nat) (q : Queue) : List (Nat × Obj) → State
  | [] => s
  | (o, x) :: rest =>
    match x.state with
    | .aborted _ _ _ => State.pumpStaged s n q rest
    | _ =>
      if x.stagedSent then State.pumpStaged s n q rest
      else if s.allStaged o x then
        let s := s.sendFrame q.session opReceiptStaged n x.seq (receiptHead o x (x.stagedTime.getD s.time64))
        State.pumpStaged (s.setObject o { x with stagedSent := true }) n q rest
      else s

/-- Send the settled receipts and abort statuses that are due, in queue sequence (R87, R89). -/
def State.pumpSettled (s : State) (n : Nat) : List (Nat × Obj) → State
  | [] => s
  | (o, x) :: rest =>
    match s.queue? n with
    | none => s
    | some q =>
      let answeredAt (s : State) : State :=
        (s.setObject o { (match s.object o with | some y => y | none => x) with answered := true }).setQueue n { q with oldest := x.seq + 1 }
      match x.state with
      | .aborted r op detail => State.pumpSettled (answeredAt (s.status q.session op r n x.seq detail o)) n rest
      | _ =>
        match s.allLocated o x with
        | some ls =>
          if (x.state = .settled ∨ x.state = .unrecoverable) ∧ (x.stagedSent ∨ !q.staged) then
            State.pumpSettled (answeredAt (s.sendSettled q.session n x.seq o x ls)) n rest
          else s
        | none => s

/-- Objects of a queue whose settled receipt is outstanding (R76). -/
def State.awaitsReceipt (s : State) (n : Nat) : Bool :=
  (s.queueObjects n).any (fun kv => match kv.2.state with | .openObj => true | .ended => true | _ => false)

/-- The receipt hold in nanoseconds (Table 2-6). -/
def State.receiptHold (s : State) : Nat := s.dictVal 0x2000 6 * second

/-- Send whatever receipts of a queue are due (R89). A detached queue holds them, and its hold starts at its last one (R76). -/
def State.pump (s : State) (n : Nat) : State :=
  let s := s.stampTimes n
  match s.queue? n with
  | none => s
  | some q =>
    if q.state = .detached then
      if q.detachExpiry.isNone ∧ !s.awaitsReceipt n then s.setQueue n { q with detachExpiry := some (s.now + s.receiptHold) } else s
    else if !s.queueLive q || s.safe then s
    else
      let s := if q.staged then s.pumpStaged n q (s.queueObjects n) else s
      s.pumpSettled n (s.queueObjects n)

/-- Free a fragment's pages and slot and take its allocation back where it has not drained (R87, R145). -/
def State.freeFragment (s : State) (bytes : Nat) (f : Fragment) : State :=
  if f.media = 65536 ∨ f.phase = .durable ∨ f.phase = .freed then s else (s.subAlloc f.media bytes).subPending f.shelf bytes

/-- Contexts that work for an extent stop (R123). -/
def State.abortContexts (s : State) (e : Nat) : State := s.abortJobs (fun j => j == .seal e)

/-- Insert a segment into ascending disjoint segments, merging those that touch (R75); bytes already held stay (R65). -/
def putSegment (a : Nat) (bs : List Byte) : List (Nat × List Byte) → List (Nat × List Byte)
  | [] => [(a, bs)]
  | (c, ds) :: t =>
    if a + bs.length < c then (a, bs) :: (c, ds) :: t
    else if c + ds.length < a then (c, ds) :: putSegment a bs t
    else putSegment (min a c) (bs.take (c - a) ++ ds ++ bs.drop (c + ds.length - a)) t

/-- Remove the bytes from `a` up to `b` from the segments. -/
def cutSegments (a b : Nat) (segs : List (Nat × List Byte)) : List (Nat × List Byte) :=
  segs.flatMap (fun (c, ds) =>
    let left := ds.take (a - c)
    let right := ds.drop (b - c)
    if c + ds.length ≤ a ∨ b ≤ c then [(c, ds)]
    else (if left.isEmpty then [] else [(c, left)]) ++ (if right.isEmpty then [] else [(max b c, right)]))

/-- The contiguous offset after the segments (R75). -/
def advanceTo' (contiguous : Nat) (segs : List (Nat × List Byte)) : Nat :=
  match segs.find? (fun (a, bs) => decide (a ≤ contiguous ∧ contiguous < a + bs.length)) with
  | some (a, bs) => a + bs.length
  | none => contiguous

/-- The stream offset of an extent's first byte. -/
def State.extentStart (s : State) (x : Extent) : Nat :=
  match s.object x.obj with
  | some o => o.first + x.idx * extBytes x.ext
  | none => 0

/-- The length of an extent is known: the object's end is, or every byte of the full extent has arrived (R80, R199). -/
def State.lenKnown (s : State) (x : Extent) : Bool :=
  x.final.isSome || (match tget s.queue.queues x.queue with | some q => decide (s.extentStart x + x.len ≤ q.contiguous) | none => true)

/-- Give an extent's ingest reservation back, and its plaintext (R15, R83). -/
def State.freeIngest (s : State) (e : Nat) : State :=
  match s.extent e with
  | some x =>
    let start := s.extentStart x
    let s := match tget s.queue.queues x.queue with
      | some q => if q.contiguous < start + x.len then s else s.updQueue (fun t => { t with queues := tput t.queues x.queue { q with received := cutSegments start (start + x.len) q.received } })
      | none => s
    (s.setExtent e { x with ingest := 0 }).updQueue (fun q => { q with ingestUsed := q.ingestUsed - x.ingest })
  | none => s

/-- A PUT in flight whose fragment has left the record: its DURABLE will be answered with DELETE (R254). -/
def State.makeStale (s : State) (f : Fragment) (x : Extent) (i : Nat) : State :=
  s.updSouth (fun q => { q with stale := tput q.stale (f.shelf * 2 ^ 64 + f.xid) (fragmentKey x.obj x.idx i f.media x.generation) })

/-- An extent of an aborted object that was sealed on is discarded (R87). -/
def State.discardExtent (s : State) (e : Nat) : State :=
  match s.extent e with
  | some x => (s.setExtent e { x with phase := .aborted }).freeIngest e
  | none => s

/-- The sponge cores at work on an extent's fragments. -/
def Extent.cores (x : Extent) : List Nat := (x.frags.filterMap (fun f => if f.2.hash.isNone then f.2.core else none)).eraseDups

/-- Abort an extent of an aborted object: its undrained fragments are freed, drained ones deleted, and its cores are free again (R87, R192, R254).
With `runOn` an extent granted and not yet sealed is left to be sealed, into no fragment, and is discarded with its tag. -/
def State.abortExtent (s : State) (runOn : Bool) (e : Nat) : State :=
  match s.extent e with
  | none => s
  | some x =>
    let keep := runOn && (x.phase == .granted || x.phase == .admitted)
    let bytes := payloadLen x.len x.k + 128
    let s := x.frags.foldl (fun s f => s.freeFragment bytes f.2) s
    let s := x.frags.foldl (fun s f => if f.2.phase = .durable then s.sendDelete f.2.shelf x.obj x.idx f.1 f.2.media x.generation else if f.2.phase = .sent then s.makeStale f.2 x f.1 else s) s
    let s := s.setExtent e (if keep then { x with held := false, final := some (x.final.getD true), frags := [] }
      else { x with phase := .aborted, held := false, frags := tmap x.frags (fun _ f => { f with phase := .freed, rows := [], core := none }) })
    let s := (x.cores.foldl (fun s j => s.settleCore j) s).endMoves
    let s := s.updShepherd (fun p => { p with held := p.held.filter (· != e) })
    if keep then s else (s.abortContexts e).freeIngest e

/-- Abort an object (R87): its effects on fragments, the manifest index, and the STATUS in its queue sequence position, which answers `op` with
`detail` (assumption 34). `runOn` keeps granted extents sealing, for a refusal under R31 or R32. The bytes granted to it count as received, and the
next object begins after them (assumption 16). -/
def State.abortObject (s : State) (o code : Nat) (runOn : Bool := false) (op : Nat := opData) (detail : Nat := 0) : State :=
  match s.object o with
  | none => s
  | some x =>
    match x.state with
    | .aborted _ _ _ => s
    | .settled => s
    | _ =>
      let n := (s.queue.extents.filter (fun kv => kv.2.obj == o)).map Prod.fst
      let s := n.foldl (fun s e => s.abortExtent runOn e) s
      let s := s.setObject o { x with state := .aborted code op detail }
      let s := s.updPack (fun p => { p with notarisedWaiting := p.notarisedWaiting.filter (· != o), leaves := p.leaves })
      let s := match s.queue? x.queue with
        | some q =>
          let upTo := x.first + x.granted
          let from' := max x.first q.contiguous
          let segs := if from' < upTo then putSegment from' (List.replicate (upTo - from') 0) q.received else q.received
          let q := { q with received := segs, contiguous := advanceTo' q.contiguous segs }
          let q := if q.contiguous < upTo then q else { q with received := cutSegments x.first upTo q.received }
          s.setQueue x.queue (if q.open' = some o then { q with open' := none, nextOff := upTo } else q)
        | none => s
      s.pump x.queue

/-- Bytes of a stream from the segments held (R75). -/
def readStream (segs : List (Nat × List Byte)) (off n : Nat) : Option (List Byte) :=
  segs.findSome? (fun (a, bs) => if a ≤ off ∧ off + n ≤ a + bs.length then some ((bs.drop (off - a)).take n) else none)

/-- Plaintext bytes of an extent that the ingest buffer holds (R15). -/
def State.extentPlain (s : State) (x : Extent) (off n : Nat) : Option (List Byte) :=
  (s.queue? x.queue).bind (fun q => readStream q.received (s.extentStart x + off) n)

end Sys2Proof.Machine
end

