-- ==== Sys2Proof/Machine/Paths.lean ====
section
/-!
DEFINITION. Packet numbers received and acknowledged (R49, R64, R65), the round-trip estimates of a path (R66), and path failure
(R70, R71), for sessions and associations alike.
-/

namespace Sys2Proof.Machine

/-- Insert a number into ascending disjoint ranges that do not touch. -/
def insertNum (n : Nat) : List (Nat × Nat) → List (Nat × Nat)
  | [] => [(n, n)]
  | (a, b) :: t =>
    if n + 1 < a then (n, n) :: (a, b) :: t
    else if n + 1 = a then (n, b) :: t
    else if n ≤ b then (a, b) :: t
    else if n = b + 1 then
      match t with
      | (c, d) :: u => if c = n + 1 then (a, d) :: u else (a, n) :: (c, d) :: u
      | [] => [(a, n)]
    else (a, b) :: insertNum n t

/-- A number lies in one of the ranges. -/
def inRanges (n : Nat) (rs : List (Nat × Nat)) : Bool := rs.any (fun r => decide (r.1 ≤ n ∧ n ≤ r.2))

/-- The gap and length pairs of descending ranges below `lo`. -/
def gapList : Nat → List (Nat × Nat) → List (Nat × Nat)
  | _, [] => []
  | lo, (a, b) :: t => (lo - b - 1, b + 1 - a) :: gapList a t

/-- The largest number, and the payload of an ACK of the received ranges (Table 2-3): at most 64 further ranges. -/
def ackFields (delay : Nat) (received : List (Nat × Nat)) : Nat × List Byte :=
  match received.reverse with
  | [] => (0, [])
  | (a, b) :: t =>
    let gs := (gapList a t).take 64
    (b, beBytes 4 delay ++ beBytes 2 gs.length ++ beBytes 2 0 ++ beBytes 4 (b + 1 - a) ++ gs.flatMap (fun g => beBytes 4 g.1 ++ beBytes 4 g.2))

/-- The ranges an ACK names, or none where R64 refuses it: a zero length or gap, or a range below number 0. -/
def ackedRanges (largest first : Nat) (gaps : List (Nat × Nat)) : Option (List (Nat × Nat)) :=
  if first = 0 ∨ largest + 1 < first then none
  else
    (gaps.foldl (fun (st : Option (List (Nat × Nat) × Nat)) g =>
      st.bind (fun (rs, lo) =>
        if g.1 = 0 ∨ g.2 = 0 ∨ lo < g.1 + g.2 then none
        else some (rs ++ [(lo - g.1 - g.2, lo - g.1 - 1)], lo - g.1 - g.2))) (some ([(largest + 1 - first, largest)], largest + 1 - first))).map Prod.fst

/-- The fields of an ACK's payload (Table 2-3): delay, first range length, the gap and length pairs; none where its length disagrees with the count of
at most 64, or a reserved byte is set. -/
def ackPayload (bs : List Byte) : Option (Nat × Nat × List (Nat × Nat)) :=
  let n := beAt bs 4 2
  if 64 < n ∨ bs.length ≠ 12 + 8 * n ∨ beAt bs 6 2 ≠ 0 then none
  else some (beAt bs 0 4, beAt bs 8 4, (List.range n).map (fun i => (beAt bs (12 + 8 * i) 4, beAt bs (16 + 8 * i) 4)))

/-- The distance of two numbers. -/
def absDiff (a b : Nat) : Nat := (a - b) + (b - a)

/-- A path's estimates after a round-trip sample less the reported delay (R66), with the RTO clamped to its floor and ceiling. -/
def Path.sample (p : Path) (raw delay floor ceiling : Nat) : Path :=
  let least := p.minRtt.getD raw
  let r := if raw < delay + least then raw else raw - delay
  let (srtt, var) := if p.minRtt.isNone then (r, r / 2) else ((7 * p.srtt + r) / 8, (3 * p.rttvar + absDiff p.srtt r) / 4)
  { p with srtt := srtt, rttvar := var, rto := max floor (min ceiling (srtt + 4 * var)), minRtt := some (min least raw), expiries := 0 }

/-- A path's RTO has expired once more (R66, Table 2-6). -/
def Path.expire (p : Path) (ceiling : Nat) : Path := { p with rto := min ceiling (2 * p.rto), expiries := p.expiries + 1 }

/-- RTO ceiling and reprobe time, fixed at 10 ms in both tables. -/
def rtoCeiling : Nat := 10 * msec

/-- A new path (Tables 2-6 and 7-4): its initial RTO in nanoseconds. -/
def newPath (rate port rto : Nat) (confirmed : Bool) : Path := { noPath with rate := rate, port := port, rto := rto, confirmed := confirmed }

/-- Add RETX to a frame's flags. -/
def withRetx (flags : Nat) : Nat := if bitOf flags 2 then flags else flags + 4

/-- The initial RTO and the RTO floor of Seal Transport, in nanoseconds (R67). -/
def State.northRto (s : State) : Nat := s.dictVal 0x2000 1 * usec
def State.northFloor (s : State) : Nat := s.dictVal 0x2000 2 * usec

/-- The initial RTO and the floor of Fragment Transport (Table 7-4). -/
def State.southRto (s : State) : Nat := s.rd Reg.FT_TIMERS.INIT_RTO * usec
def southFloor : Nat := 20 * usec

/-- Retransmit a frame of a session with RETX set, under a new number (R49, R65). A PATH_PROBE is not repeated: the next one takes its place
(R71); a PATH_CONFIRM goes on its own path (R68). -/
def State.resendFrame (s : State) (sid pn : Nat) : State :=
  match s.session sid with
  | none => s
  | some x => match tget x.sent pn with
    | none => s
    | some f =>
      let s := s.setSession sid { x with sent := tdel x.sent pn }
      if f.typ = opPathProbe then s
      else s.sendOn sid (if f.typ = opPathConfirm then f.path else choosePath x.paths) f.typ (withRetx f.flags) f.stream f.word f.payload

/-- Retransmit a message of an association. -/
def State.resendSouth (s : State) (h seq : Nat) : State :=
  match s.assoc h with
  | none => s
  | some a => match tget a.sent seq with
    | none => s
    | some m =>
      let s := s.updAssoc h (fun a => { a with sent := tdel a.sent seq })
      if m.typ = 0x08 then s
      else (s.bump Reg.FT_EVENTS.RESEND).sendSouthOn h (if m.typ = 0x06 then m.path else choosePath a.paths) m.typ (withRetx m.flags) m.xid m.word m.payload

/-- The live paths of a table. -/
def livePaths (ps : Table Path) : List Nat := tkeys ps (fun _ p => p.confirmed && !p.failed)

/-- Paths of a session fail at once (R70, R71): they are marked failed, PATH_DOWN for each goes out on every surviving path, and their
unacknowledged frames are retransmitted there. -/
def State.failPaths (s : State) (sid : Nat) (hit : List Nat) : State :=
  match s.session sid with
  | none => s
  | some x =>
    let failing := tkeys x.paths (fun i p => hit.contains i && !p.failed)
    let paths := tmap x.paths (fun i p => if failing.contains i then { p with failed := true, lastProbe := s.now, expiries := 0, probeAcked := false } else p)
    let live := livePaths paths
    let s := s.setSession sid { x with paths := paths }
    let s := failing.foldl (fun s i => live.foldl (fun s q => s.sendOn sid q opPathDown 2 0 i []) s) s
    if live.isEmpty then s
    else (tkeys x.sent (fun _ f => failing.contains f.path)).foldl (fun s pn => s.resendFrame sid pn) s

/-- A path of a session fails (R71). -/
def State.failPath (s : State) (sid path : Nat) : State := s.failPaths sid [path]

/-- Paths of an association fail at once (R239). -/
def State.failSouthPaths (s : State) (h : Nat) (hit : List Nat) : State :=
  match s.assoc h with
  | none => s
  | some a =>
    let failing := tkeys a.paths (fun i p => hit.contains i && !p.failed)
    let paths := tmap a.paths (fun i p => if failing.contains i then { p with failed := true, lastProbe := s.now, expiries := 0, probeAcked := false } else p)
    let live := livePaths paths
    let s := s.updAssoc h (fun a => { a with paths := paths })
    let s := failing.foldl (fun s i => live.foldl (fun s q => s.sendSouthOn h q 0x09 2 0 i []) s) s
    if live.isEmpty then s
    else (tkeys a.sent (fun _ m => failing.contains m.path)).foldl (fun s n => s.resendSouth h n) s

/-- Send an ACK on a session for what it has received (R64). -/
def State.sendAck (s : State) (sid : Nat) : State :=
  match s.session sid with
  | none => s
  | some x =>
    let (largest, payload) := ackFields (s.now - x.firstUnacked.getD s.now) x.received
    if x.received.isEmpty then s
    else (s.sendFrame sid opAck 0 largest payload).updSession sid (fun x => { x with unacked := 0, firstUnacked := none })

/-- Send an ACK on an association. -/
def State.sendSouthAck (s : State) (h : Nat) : State :=
  match s.assoc h with
  | none => s
  | some a =>
    let (largest, payload) := ackFields (s.now - a.firstUnacked.getD s.now) a.received
    if a.received.isEmpty then s
    else (s.sendSouth h 0x10 0 largest payload).updAssoc h (fun a => { a with unacked := 0, firstUnacked := none })

/-- The lost frames after an acknowledgement: those with a number at least 16 below an acknowledged one of their path (R65). -/
def lostBelow (acked : List (Nat × Nat)) (sent : List (Nat × Nat)) : List Nat :=
  (sent.filter (fun f => acked.any (fun a => a.2 == f.2 && decide (f.1 + 16 ≤ a.1)))).map Prod.fst

end Sys2Proof.Machine
end

