-- ==== Sys2Proof/Machine/StagingOps.lean ====
section
/-!
DEFINITION. Staging pages and lost fragments (R143 to R158): retirement of pages and their moves, fragments whose copy is bad, and the
placement of regenerated fragments.
-/

namespace Sys2Proof.Machine

/-- Change one fragment of an extent. -/
def State.updFrag (s : State) (e i : Nat) (f : Fragment → Fragment) : State :=
  match s.extent e with
  | some x => s.setExtent e { x with frags := tmod x.frags i f }
  | none => s

/-- Change one fragment of a repair. -/
def State.updRepairFrag (s : State) (n i : Nat) (f : Fragment → Fragment) : State :=
  s.updSouth (fun q => { q with repairs := tmod q.repairs n (fun r => { r with frags := tmod r.frags i f }) })

/-- The fragment that holds a page of the staging region: of an extent, or of a repair (then true), with its key and its index. -/
def State.pageFrag (s : State) (c p : Nat) : Option (Bool × Nat × Nat) :=
  let hit (frags : Table Fragment) : Option Nat := (frags.find? (fun f => f.2.occupies && f.2.channel == c && decide (p ∈ runPages f.2.runs))).map Prod.fst
  (s.queue.extents.findSome? (fun kv => (hit kv.2.frags).map (fun i => (false, kv.1, i)))) <|> (s.south.repairs.findSome? (fun kv => (hit kv.2.frags).map (fun i => (true, kv.1, i))))

/-- Change a fragment that `pageFrag` names. -/
def State.updHeld (s : State) (o : Bool × Nat × Nat) (f : Fragment → Fragment) : State :=
  if o.1 then s.updRepairFrag o.2.1 o.2.2 f else s.updFrag o.2.1 o.2.2 f

/-- The fragment that `pageFrag` names. -/
def State.heldFrag (s : State) (o : Bool × Nat × Nat) : Option Fragment :=
  if o.1 then (tget s.south.repairs o.2.1).bind (fun r => tget r.frags o.2.2) else (s.extent o.2.1).bind (fun x => tget x.frags o.2.2)

/-- The page belongs to a fetched fragment in the restore buffers. -/
def State.pageFetched (s : State) (c p : Nat) : Bool := (s.usedRestore c).any (fun r => decide (r.start ≤ p ∧ p < r.start + r.len))

/-- A fragment in staging becomes lost (R146, R156, R197). -/
def Fragment.lose (f : Fragment) : Fragment := if f.phase = .held ∨ f.phase = .sent ∨ f.phase = .filling then { f with phase := .lost } else f

/-- A fragment of an extent is lost: it waits to be regenerated. -/
def State.loseFrag (s : State) (e i : Nat) : State := s.updFrag e i Fragment.lose

/-- A hard page waits for its extent to be staged, for its fragment to be freed, or for a free page. -/
def State.laterPage (s : State) (c p : Nat) : State :=
  s.updStaging (fun t => { t with later := if (c, p) ∈ t.later then t.later else t.later ++ [(c, p)] })

/-- Copy a page of a channel to another. -/
def State.copyPage (s : State) (c p q : Nat) : State := s.writeMem (pageAddr c q) (s.readMem (pageAddr c p) 4096)

/-- Switch a fragment to new runs; the old page waits for reads in flight (R157). -/
def State.switchRuns (s : State) (o : Bool × Nat × Nat) (c p new : Nat) (runs : List PageRun) : State :=
  let s := s.updHeld o (fun f => { f with runs := runs })
  let s := s.updStaging (fun t => { t with moves := t.moves ++ [{ channel := c, oldPage := p, newPage := new, repair := o.1, ext := o.2.1, frag := o.2.2 }] })
  let s := s.bump Reg.STG_EVENTS.MOVED
  if o.1 then s else s.fileExtent o.2.1

/-- Move the content of a page of a fragment to a free page of its channel and switch the run list (R155); where that would leave the fragment in more
than the 8 runs of R143, all of its pages move to new runs. The old page waits for reads in flight (R157). A copy that returns poison makes the
fragment lost (R156). Without a free page the move waits. -/
def State.movePage (s : State) (o : Bool × Nat × Nat) (c p : Nat) : State :=
  match s.chan c, s.heldFrag o with
  | some ch, some f =>
    if s.pageMarked c p then (s.updHeld o Fragment.lose).retirePage c p
    else match allocPages ch.stagingStart ch.pages 1 (s.usedRuns c) with
      | some (r :: _) =>
        let runs := packRuns ((runPages f.runs).map (fun q => if q = p then r.start else q))
        if runs.length ≤ 8 then (s.copyPage c p r.start).switchRuns o c p r.start runs
        else match allocPages ch.stagingStart ch.pages (runPages f.runs).length (s.usedRuns c) with
          | some rs => (((runPages f.runs).zip (runPages rs)).foldl (fun (s : State) (q : Nat × Nat) => s.copyPage c q.1 q.2) s).switchRuns o c p ((runPages rs).getD ((runPages f.runs).findIdx (· == p)) 0) rs
          | none => s.laterPage c p
      | _ => s.laterPage c p
  | _, _ => s

/-- A page is declared hard (R155): what happens depends on its use. A page of the header area, which the rule does not name, is retired like a free
page, and its slots stay in use (DESIGN CHOICE, assumption 121). -/
def State.hardPage (s : State) (c p : Nat) : State :=
  match s.chan c with
  | none => s
  | some ch =>
    if p ∈ ch.retired then s
    else if p < ch.restoreStart then s.rewriteMeta c p
    else if p < ch.headerStart then (if s.pageFetched c p then s.laterPage c p else s.retirePage c p)
    else match s.pageFrag c p with
      | none => s.retirePage c p
      | some o =>
        let staged : Bool := o.1 || match s.extent o.2.1 with | some x => x.phase == .staged || x.phase == .settled | none => false
        if staged then s.movePage o c p else s.laterPage c p

/-- Fragments have been freed or staged: moves of freed ones end (R157), and the hard pages that wait are looked at again (R155). -/
def State.settleLater (s : State) : State :=
  let s := s.endMoves
  let ps := s.staging.later
  ps.foldl (fun s q => s.hardPage q.1 q.2) (s.updStaging (fun t => { t with later := [] }))

/-- The payload of a fragment in staging, page by page. -/
def State.fragPayload (s : State) (p : Nat) (f : Fragment) : List Byte := s.readPayload f.channel f.runs p

/-- The staging checks of a payload, one a page (R143). -/
def pageCrcs (bytes : List Byte) : List Nat := (cutBytes 4096 (bytes.length / 4096 + 1) bytes).map crc32c

/-- The pages of a fragment whose staging check fails or that return poison (R146, R156). -/
def State.badPages (s : State) (p : Nat) (f : Fragment) : List Nat :=
  let pages := runPages f.runs
  let crcs := pageCrcs (s.fragPayload p f)
  ((pages.zip (List.range pages.length)).filter (fun (q : Nat × Nat) => s.pageMarked f.channel q.1 || f.crcs.getD q.2 0 != crcs.getD q.2 0)).map Prod.fst

/-- DETAIL of STG_CHECK_FAIL (Table 14-3). -/
def checkDetail (c p : Nat) : Nat := c + 16 * p

/-- The fragments of an extent that can be read: on healthy channels and hashed, or fetched back. -/
def State.readable (s : State) (x : Extent) : List Nat :=
  sortBy id ((tkeys x.frags (fun _ f => f.holds && (f.phase != .filling || f.hash.isSome) && s.chanHealthy f.channel)) ++ (tkeys x.fetched (fun i _ => !(x.frags.any (fun f => f.1 == i && f.2.holds && s.chanHealthy f.2.channel)))))

/-- The payload of a readable fragment. -/
def State.readablePayload (s : State) (x : Extent) (i : Nat) : List Byte :=
  match tget x.frags i, tget x.fetched i with
  | some f, none => s.fragPayload (payloadLen x.len x.k) f
  | some f, some b => if f.holds && s.chanHealthy f.channel then s.fragPayload (payloadLen x.len x.k) f else b.payload
  | none, some b => b.payload
  | none, none => []

/-- The selection of R138 that avoids fragments of failed selections as long as k others can be had (R152, R268). -/
def selectAvoiding (k : Nat) (avail bad : List Nat) : Option (List Nat) :=
  match rsSelect k (avail.filter (fun i => decide (i ∉ bad))) with
  | some sel => some sel
  | none =>
    let good := sortBy id (avail.filter (fun i => decide (i ∉ bad)))
    let more := sortBy id (avail.filter (fun i => decide (i ∈ bad)))
    let sel := (good ++ more).take k
    if sel.length = k then some (sortBy id sel) else none

/-- The selections of k fragments that a regeneration may try, in order: that of R268 over the fragments of failed ones, then each run of k in
ascending index, cyclically (which one "different" means is the model's: DESIGN CHOICE, assumption 121). -/
def selections (k : Nat) (avail : List Nat) (tried : List (List Nat)) : List (List Nat) :=
  let a := sortBy id avail
  (selectAvoiding k avail tried.flatten).toList ++ (if k ≤ a.length then (List.range a.length).map (fun j => sortBy id ((a ++ a).drop j |>.take k)) else [])

/-- The selection of a regeneration: one that has not failed (R152), while there is one. -/
def nextSelection (k : Nat) (avail : List Nat) (tried : List (List Nat)) : Option (List Nat) :=
  let all := selections k avail tried
  match all.find? (fun sel => !tried.contains sel) with
  | some sel => some sel
  | none => all.head?

/-- The pages of a fragment that are found bad are retired, each with its STG_CHECK_FAIL (R146, R156). -/
def State.retireBad (s : State) (c : Nat) (pages : List Nat) : State :=
  pages.foldl (fun s p => (s.note srcStgCheckFail (checkDetail c p)).retirePage c p) s

/-- The fragments of a stripe on each channel. -/
def stripeCount (x : Extent) (c : Nat) : Nat := (x.frags.filter (fun f => f.2.holds && f.2.channel == c)).length

/-- The channel of R153 for one regenerated fragment: among channels of H with room and fewer than m fragments of the stripe, the one with
the fewest, the lowest-numbered on a tie. -/
def State.regenChannel (s : State) (m bytes : Nat) (count : Nat → Nat) : Option (Nat × List PageRun × Nat) :=
  let cands := s.chanList.filter (fun c => decide (count c < m))
  (sortBy count cands).findSome? (fun c => (s.allocFrag c bytes).map (fun (rs, sl) => (c, rs, sl)))

/-- Place one regenerated fragment of a stripe (R153). -/
def State.placeRegenOne (e p : Nat) (part : Nat × List Byte) (s : State) : Option State :=
  match s.extent e with
  | none => none
  | some x =>
    match s.regenChannel x.m p (stripeCount x) with
    | none => none
    | some (c, rs, sl) =>
      let s := s.writePayload c rs (p / 4096 + 2) 0 part.2
      let s := s.updFrag e part.1 (fun f => { f with channel := c, runs := rs, slot := sl, crcs := pageCrcs part.2, phase := .held, moving := none, lastVerify := s.now })
      let s := match tget x.frags part.1, s.chan c with
        | some f, some ch => if f.header.isEmpty then s else s.writeMem (slotAddr c ch sl) f.header
        | _, _ => s
      some ((s.bump Reg.STG_EVENTS.REGEN).fileExtent e)

/-- Place the regenerated fragments of a stripe in ascending index, all of them or none (R153). -/
def State.placeRegen (s : State) (e p : Nat) (parts : List (Nat × List Byte)) : Option State :=
  parts.foldl (fun o part => o.bind (State.placeRegenOne e p part)) (some s)

end Sys2Proof.Machine
end

