-- ==== Sys2Proof/Machine/Shelves.lean ====
section
/-!
DEFINITION. Shelves and what stands on them: power states and wakes (R178 to R181, R249), messages accepted from a shelf (R235, R236),
fragment headers, settlement (R252), re-targeting (R177), requests to shelves (R264, R637), the catalogue's directory (R256, R259),
and the start of repairs (R271, R274).
-/

namespace Sys2Proof.Machine

/-- The PSTATE change record: shelf and new state (the spec gives it no TYPE: DESIGN CHOICE, assumption 12). -/
def State.pstateRecord (s : State) (h : Nat) (p : PState) : State :=
  s.trailRec 0x0508 masterShepherd false [BitVec.ofNat 8 h, BitVec.ofNat 8 p.code]

/-- Move a shelf's power state (Table 5-3). -/
def State.setPstate (s : State) (h : Nat) (p : PState) : State :=
  let x := s.shelf h
  if x.pstate = p then s else s.setShelf h { x with pstate := p, pstateTime := s.time64, onSince := if p = .on then s.now else x.onSince, idleSince := if p = .on then s.now else x.idleSince, wakingAt := if p = .waking then s.now else x.wakingAt, wakeHeld := false }

/-- Send POWER: 1 up, 2 down (R249). -/
def State.sendPower (s : State) (h word : Nat) : State :=
  let (xid, s) := s.newXid h
  s.sendSouth h 0x40 xid word []

/-- Wake a shelf in OFF; in STOPPING the wake is held (Table 5-3). -/
def State.wake (s : State) (h : Nat) : State :=
  match (s.shelf h).pstate with
  | .off => (s.sendPower h 1).setPstate h .waking
  | .stopping => s.setShelf h { s.shelf h with wakeHeld := true }
  | _ => s

/-- A restore or repair needs a shelf (R179): its request joins the list, once, where the shelf is off. -/
def State.needShelf (s : State) (h : Nat) : State :=
  let p := (s.shelf h).pstate
  if (p = .off ∨ p = .stopping) ∧ h ∉ s.shepherd.wakes then s.updShepherd (fun q => { q with wakes := q.wakes ++ [h] }) else s

/-- A shelf is off while requests wait for it: a wake of it is needed again (R179). -/
def State.needAgain (s : State) (h : Nat) : State :=
  if s.south.fetches.any (fun kv => kv.2.shelf == h && !kv.2.sent && kv.2.op != 0x52) then s.needShelf h else s

/-- A catalogue copy has gone to a shelf and is not yet DURABLE. -/
def State.copyOut (s : State) (h : Nat) : Bool :=
  s.south.catalogue.any (fun kv => kv.2.targets.any (fun t => t.2.1 != 0 && !t.2.2 && (s.media t.1).shelf == h))

/-- A fetch or a durability acknowledgement of a shelf is outstanding (R180). -/
def State.outstanding (s : State) (h : Nat) : Bool :=
  s.copyOut h || s.south.fetches.any (fun kv => kv.2.shelf == h) || s.queue.extents.any (fun kv => kv.2.frags.any (fun f => f.2.phase == .sent && f.2.shelf == h))
  || s.south.repairs.any (fun kv => kv.2.frags.any (fun f => f.2.phase == .sent && f.2.shelf == h))

/-- The shelf's idle time starts again now (R181). -/
def State.touchShelf (s : State) (h : Nat) : State := s.setShelf h { s.shelf h with idleSince := s.now }

/-- An ON shelf is idle: nothing pending or outstanding (R180). -/
def State.shelfIdle (s : State) (h : Nat) : Bool :=
  (s.shelf h).pstate == .on && (s.shelf h).pendingBytes == 0 && !s.outstanding h

/-- The fields of a message's header (Table 7-3). -/
def SouthIn.version (m : SouthIn) : Nat := beAt m.header 0 1
def SouthIn.opcode (m : SouthIn) : Nat := beAt m.header 1 1
def SouthIn.flags (m : SouthIn) : Nat := beAt m.header 2 2
def SouthIn.shelf (m : SouthIn) : Nat := beAt m.header 4 1
def SouthIn.path (m : SouthIn) : Nat := beAt m.header 5 1
def SouthIn.len (m : SouthIn) : Nat := beAt m.header 6 2
def SouthIn.seq (m : SouthIn) : Nat := beAt m.header 8 8
def SouthIn.xid (m : SouthIn) : Nat := beAt m.header 16 8
def SouthIn.word (m : SouthIn) : Nat := beAt m.header 24 8
def SouthIn.prot (m : SouthIn) : Bool := bitOf m.flags 0
def SouthIn.last (m : SouthIn) : Bool := bitOf m.flags 1

/-- The message as bytes. -/
def SouthIn.bytes (m : SouthIn) : List Byte := m.header ++ m.payload ++ (match m.tag with | some t => beBytes 16 t | none => [])

/-- The ends that a message names: none of a Tether port. -/
def SouthIn.ends (m : SouthIn) : Ends :=
  match m.net with
  | some n => { v6 := n.v6, peer := n.src, port := n.sport, north := n.dst }
  | none => noPath.ends

/-- The header passes R235: VERSION, LENGTH, the reserved bits, the greatest payload; the tag stands there exactly where PROT says so. -/
def SouthIn.headerOk (m : SouthIn) : Bool :=
  m.header.length == 32 && m.version == 1 && m.len == m.payload.length && decide (m.flags < 8) && decide (m.shelf < 64) && decide (m.path < 32)
    && decide (m.len ≤ (if m.opcode = 0x31 then 8192 else 8224)) && m.tag.isSome == m.prot

/-- The opcodes that a shelf sends (Table 7-5). -/
def shelfOps : List Nat := [0x01, 0x03, 0x04, 0x05, 0x07, 0x08, 0x10, 0x11, 0x22, 0x31, 0x41, 0x42, 0x70]

/-- A packet on an Ethernet port is Fragment Transport's: both UDP ports are 47011 and its destination is an address of the port (R234). -/
def State.southPacket (s : State) (p : Nat) (n : SouthNet) : Bool :=
  n.sport == southPort && n.dport == southPort && s.south.addrs.contains (p, n.v6, n.dst)

/-- A message arrives (R231, R234, R235): out of a Tether port's stream, whose next message it is, or in a packet for an address of its Ethernet
port; a bad header is discarded and counted. -/
def State.takeMessage (s : State) (m : SouthIn) : State × Bool :=
  let checked (s : State) : State × Bool :=
    if m.headerOk then (s, true) else (s.updSouth (fun q => { q with badMsgs := q.badMsgs + 1 }), false)
  if s.safe || !s.south.upPorts.contains m.port then (s, false)
  else match m.net, s.tether m.port with
    | some n, none => if s.southPacket m.port n then checked s else (s, false)
    | none, some t => match t.inbox with
      | b :: rest => if b = m.bytes then checked (s.setTether m.port { t with inbox := rest }) else (s, false)
      | [] => (s, false)
    | _, _ => (s, false)

/-- A message's tag is that of AES-256-GCM over header and payload under a key of the association (R236). -/
def Assoc.tagUnder (a : Assoc) (key : Nat) (m : SouthIn) : Bool := m.tag == some (gcmTag key (a.rxSalt * 2 ^ 64 + m.seq) (m.header ++ m.payload) [])

/-- A message passes its tag check under the receive key, or under the one before while that still serves (R59, R236). -/
def State.southTagGood (s : State) (a : Assoc) (m : SouthIn) : Bool :=
  a.tagUnder a.rxKey m || (match a.prevKey with | some (k, until_) => decide (s.now < until_) && a.tagUnder k m | none => false)

/-- Send STATUS to a shelf: the opcode answered, the code (Table 7-5). -/
def State.southStatus (s : State) (h xid answered code : Nat) : State :=
  s.sendSouth h 0x70 xid code ([BitVec.ofNat 8 answered, 0, 0, 0] ++ beBytes 4 0)

/-- A message's number counts toward the acknowledgement; 8 of them send an ACK (R64, R239). -/
def State.acknowledgeSouth (s : State) (h seq : Nat) : State :=
  let s := s.updAssoc h (fun a => { a with received := insertNum seq a.received, unacked := a.unacked + 1, firstUnacked := some (a.firstUnacked.getD s.now) })
  match s.assoc h with
  | some b => if 8 ≤ b.unacked then s.sendSouthAck h else s
  | none => s

/-- A shelf in FAULT whose release is under way leaves it with a message accepted on its association (Table 5-3). -/
def State.releaseShelf (s : State) (h : Nat) : State :=
  let x := s.shelf h
  if x.pstate = .fault ∧ x.releasing then
    let s := s.setPstate h .off
    s.setShelf h { s.shelf h with releasing := false, clearedEnable := false }
  else s

/-- A message arrives on an association for the command `op` (R234 to R236): a malformed one or one whose tag fails is discarded and counted, one already
received is acknowledged again, and an opcode that no shelf sends is answered BAD_OPCODE (R241); one that is another command's is left to that
command (assumption 123). An accepted message counts for the shelf's silence, for its release from FAULT (Table 5-3), and, but for ACK, for the
acknowledgement (R239). -/
def State.acceptOn (s : State) (h : Nat) (m : SouthIn) (op : Nat) (ack : Bool := true) : State × Bool :=
  if m.opcode ≠ op ∧ m.opcode ∈ shelfOps then (s, false)
  else match s.takeMessage m with
    | (s, false) => (s, false)
    | (s, true) => match s.assoc h with
      | none => (s, false)
      | some a =>
        if !s.southTagGood a m then (s.bump Reg.FT_EVENTS.TAG_FAIL, false)
        else
          let s := s.updAssoc h (fun a => { a with lastAccepted := s.now })
          let s := if ack then s.acknowledgeSouth h m.seq else s
          if inRanges m.seq a.received then (s, false)
          else
            let s := if h < 64 then s.releaseShelf h else s
            if m.opcode ≠ op then ((if ack then s else s.acknowledgeSouth h m.seq).southStatus h m.xid m.opcode 0x0101, false)
            else (s, true)

/-- A message of a shelf arrives on its association. -/
def State.acceptSouth (s : State) (m : SouthIn) (op : Nat) (ack : Bool := true) : State × Bool := s.acceptOn m.shelf m op ack

/-- The association that a message's tag belongs to: the one in the making where its key gives the tag, else the shelf's own. -/
def State.southLink (s : State) (m : SouthIn) : Nat :=
  match s.assoc (m.shelf + 64) with
  | some a => if a.tagUnder a.rxKey m then m.shelf + 64 else m.shelf
  | none => m.shelf

/-- A payload that is not as Table 7-6 has it is answered BAD_FIELD (Table 7-7). -/
def State.southBadField (s : State) (m : SouthIn) : State := s.southStatus m.shelf m.xid m.opcode 0x0102

/-- Write a fragment's header from its extent into its slot (R134). -/
def State.writeHeader (s : State) (e i : Nat) : State :=
  match s.extent e with
  | none => s
  | some x => match tget x.frags i with
    | none => s
    | some f =>
      let h := fragmentHeader x i f
      let s := s.updFrag e i (fun f => { f with header := h })
      match s.chan f.channel with
      | some ch => if f.holds then s.writeMem (slotAddr f.channel ch f.slot) h else s
      | none => s

/-- The group of an object in the catalogue (R256) and the keys of the directory. -/
def groupOf (obj : Nat) : Nat := obj / 2 ^ 116 * 2 ^ 52 + bitsOf obj 12 52
def catKey (kind num : Nat) : Nat := kind * 2 ^ 64 + num

def emptyCatalogue : Catalogue :=
  { media := [], gapless := false, version := 0, length := 0, writing := none, waiting := false, targets := [], body := [], writtenAt := 0, dirtySince := none }

/-- A catalogue object has news that its written version lacks (R259). -/
def State.touchCatalogue (s : State) (kind num : Nat) : State :=
  s.updSouth (fun q => { q with catalogue := tupd q.catalogue (catKey kind num) emptyCatalogue (fun c => { c with dirtySince := some (c.dirtySince.getD s.now) }) })

def State.touchGroup (s : State) (obj : Nat) : State :=
  (s.touchCatalogue 1 (groupOf obj)).updSouth (fun q => { q with cached := if catKey 1 (groupOf obj) ∈ q.cached then q.cached else q.cached ++ [catKey 1 (groupOf obj)] })

/-- Media that have acknowledged an extent and count toward its settlement (R252). -/
def State.ackCount (s : State) (x : Extent) : Nat :=
  (x.frags.filter (fun f => f.2.phase == .durable && (s.media f.2.media).state == 1)).length

/-- Free the staging of fragments that have drained, once their extent has settled (R145). -/
def freeDurable (x : Extent) : Extent :=
  { x with frags := tmap x.frags (fun _ f => if f.phase = .durable then { f with phase := .freed, rows := [] } else f) }

/-- The manifest key stands in its slots (R216, R318). -/
def State.manifestReady (s : State) : Bool :=
  (tget s.keys.slots (s.rd Reg.PCK_SIGN_SLOTS.SEED_SLOT)).isSome && (tget s.keys.slots (s.rd Reg.PCK_SIGN_SLOTS.PRF_SLOT)).isSome

/-- An extent settles when its count reaches SETTLE while the manifest key is held (R252, R318): its record enters the open regular epoch
(R202), or, for a notarised object, waits for the object's last extent (R207). -/
def State.trySettle (s : State) (e : Nat) : State :=
  match s.extent e with
  | none => s
  | some x =>
    if x.phase ≠ .staged ∨ s.ackCount x < x.settle ∨ !s.manifestReady then s
    else
      let s := (s.setExtent e (freeDurable { x with phase := .settled })).settleLater
      let s := match s.object x.obj with
        | some o => s.setObject x.obj { o with firstSettled := some (o.firstSettled.getD s.time64) }
        | none => s
      if !x.notarised then s.addLeaf e x.record
      else match s.object x.obj with
        | some o =>
          let n := match o.length with | some l => extentCount l o.ext | none => 0
          let es := s.objExtents x.obj n
          if 0 < n ∧ es.length = n ∧ es.all (fun y => y.phase == .settled) ∧ x.obj ∉ s.pack.notarisedWaiting then
            s.updPack (fun p => { p with notarisedWaiting := p.notarisedWaiting ++ [x.obj] })
          else s
        | none => s

/-- The shelf and medium of a fragment still to drain. -/
def undrained (f : Fragment) : Bool := f.phase == .filling || f.phase == .held || f.phase == .lost || f.phase == .sent

/-- Re-target one undrained fragment of an extent whose record is in no epoch (R177). Where the walk gives no medium it keeps its target
and waits. -/
def State.retargetFrag (s : State) (e i : Nat) : State :=
  match s.extent e with
  | none => s
  | some x => match tget x.frags i with
    | none => s
    | some f =>
      let bytes := payloadLen x.len x.k
      let others := ((x.frags.filter (fun g => g.1 != i && g.2.media != 65536)).map (fun g => g.2.media))
      if f.media = 65536 ∨ !undrained f ∨ x.phase = .settled ∨ x.phase = .aborted then s
      else match s.retarget x.obj x.idx x.k x.m bytes others f.media with
        | none => s
        | some d =>
          let s := if f.phase = .sent then s.makeStale f x i else s
          let s := ((s.subAlloc f.media (bytes + 128)).subPending f.shelf (bytes + 128)).addAlloc d (bytes + 128)
          let s := s.updFrag e i (fun f => { f with media := d, shelf := (s.media d).shelf, phase := if f.phase = .sent then .held else f.phase, timeouts := 0, mismatches := 0 })
          let s := if f.header.isEmpty then s else s.writeHeader e i
          s.bump Reg.SHP_EVENTS.RETARGET

/-- The media of a record that can still serve: their fragments' indices (R264, R274). -/
def State.survivors (s : State) (r : List Byte) : List Nat :=
  (List.range (recK r + recM r)).filter (fun i =>
    let m := s.media (recMedia r i)
    m.state != 0 && m.state != 3 && m.state != 4 && (s.shelf m.shelf).pstate != .fault)

/-- The OFF and STOPPING shelves of R264 step 5, each with its fragments: the one with the most first, the lower ID on a tie. -/
def offOrder (shelfOf : Nat → Nat) : Nat → List Nat → List Nat
  | 0, _ => []
  | _, [] => []
  | n + 1, is =>
    let shelves := sortBy id ((is.map shelfOf).eraseDups)
    match argMin (fun h => is.length - (is.filter (fun i => shelfOf i == h)).length) shelves with
    | none => []
    | some h => (is.filter (fun i => shelfOf i == h)) ++ offOrder shelfOf n (is.filter (fun i => shelfOf i != h))

/-- The candidate list of R264 for a record; `staged` are the fragments still in staging. -/
def State.candidates (s : State) (r : List Byte) (staged : List Nat) : List Nat :=
  let left := (s.survivors r).filter (fun i => decide (i ∉ staged))
  let shelfOf (i : Nat) : Nat := (s.media (recMedia r i)).shelf
  let pst (i : Nat) : PState := (s.shelf (shelfOf i)).pstate
  let k := recK r
  let split (is : List Nat) : List Nat := is.filter (fun i => decide (i < k)) ++ is.filter (fun i => decide (k ≤ i))
  staged ++ split (left.filter (fun i => pst i == .on)) ++ split (left.filter (fun i => pst i == .waking))
    ++ offOrder shelfOf 64 (left.filter (fun i => pst i == .off || pst i == .stopping))

/-- Pages for a fetched fragment on the channel that R184 names, or the next of H with room (R637). -/
def State.allocRestore (s : State) (start bytes : Nat) : Option (Nat × List PageRun) :=
  let hs := s.chanList
  (List.range hs.length).findSome? (fun j =>
    let c := hs.getD ((start + j) % hs.length) 0
    (s.chan c).bind (fun ch => (allocPages ch.restoreStart ch.headerStart (ceilDiv bytes 4096) (s.usedRestore c ++ ch.retired.map (fun p => { start := p, len := 1 }))).map (fun rs => (c, rs))))

/-- The key of a request. -/
def fetchKey (h xid : Nat) : Nat := h * 2 ^ 64 + xid

/-- Send a request that waits, where its shelf is ON, or where it is answered by a stopped shelf too (LIST, R248). -/
def State.sendFetch (s : State) (key : Nat) : State :=
  match tget s.south.fetches key with
  | none => s
  | some f =>
    if f.sent ∨ ((s.shelf f.shelf).pstate ≠ .on ∧ f.op ≠ 0x52) then s
    else (s.updSouth (fun q => { q with fetches := tput q.fetches key { f with sent := true, sentAt := s.now } })).sendSouth f.shelf f.op (key % 2 ^ 64) 0 f.request

/-- Open a request to a shelf and send it when it can be. -/
def State.request (s : State) (job : FetchFor) (frag media h op : Nat) (body : List Byte) (channel : Nat) (runs : List PageRun) : State :=
  match s.assoc h with
  | none => s
  | some _ =>
    let (xid, s) := s.newXid h
    let f : Fetch := { job := job, op := op, request := body, frag := frag, media := media, shelf := h, sent := false, sentAt := s.now, begun := false, parts := [], endAt := none, channel := channel, runs := runs }
    (s.updSouth (fun q => { q with fetches := tput q.fetches (fetchKey h xid) f })).sendFetch (fetchKey h xid)

/-- GENERATION of the header of fragment `i` of a record: 0 unless it is REPAIRED, else taken to be the record's (assumption 13). -/
def fragGen (r : List Byte) (i : Nat) : Nat := if bitOf (beAt r (99 + 36 * i) 1) 0 then recGen r else 0

/-- Fetch fragment `i` of a record from the shelf that the media table now names for its medium (R17, R264); none without restore-buffer
pages (R637). -/
def State.fetchFrag (s : State) (job : FetchFor) (r : List Byte) (i start : Nat) : Option State :=
  let d := recMedia r i
  let h := (s.media d).shelf
  match s.allocRestore start (payloadLen (recLen r) (recK r)) with
  | none => none
  | some (c, runs) => some ((s.request job i d h 0x30 (fragmentKey (beAt r 8 16) (beAt r 24 8) i d (fragGen r i)) c runs).needShelf h)

/-- The extent keys and records that the index holds and that name a medium. -/
def State.namedBy (s : State) (d : Nat) : List (Nat × List Byte) :=
  (s.south.locators.filter (fun kv => (List.range (recK kv.2.record + recM kv.2.record)).any (fun i => recMedia kv.2.record i == d))).map (fun kv => (kv.1, kv.2.record))

/-- The key of a record's extent. -/
def recExt (r : List Byte) : Nat := extKey (beAt r 8 16) (beAt r 24 8)

/-- A record with some fragments placed anew, at the next GENERATION (R201). -/
def nextRecord (r : List Byte) (moved : List (Nat × Nat × Nat)) : List Byte :=
  r.take 60 ++ beBytes 4 (recGen r + 1) ++ (List.range (recK r + recM r)).flatMap (fun i =>
    match moved.find? (fun m => m.1 == i) with
    | some (_, d, h) => beBytes 32 (recHash r i) ++ beBytes 2 d ++ [BitVec.ofNat 8 h, 1]
    | none => slice r (64 + 36 * i) 36)

/-- The header of a repaired fragment (R273): REPAIRED set, the new GENERATION, its new place. -/
def repairedHeader (r : List Byte) (i d h sealTime : Nat) : List Byte :=
  let k := recK r
  let body := beBytes 4 0x4C474652 ++ [1, 1, BitVec.ofNat 8 k, BitVec.ofNat 8 (recM r), BitVec.ofNat 8 i, BitVec.ofNat 8 (b2n (k ≤ i) + 2), BitVec.ofNat 8 (beAt r 42 1), 0]
    ++ beBytes 4 (payloadLen (recLen r) k) ++ slice r 8 24 ++ beBytes 4 (recLen r) ++ beBytes 4 (beAt r 36 4)
    ++ beBytes 2 d ++ [BitVec.ofNat 8 h, 0] ++ beBytes 4 (recGen r + 1) ++ beBytes 8 sealTime
    ++ beBytes 32 (recHash r i) ++ beBytes 16 (recTag r) ++ List.replicate 12 0
  body ++ beBytes 4 (crc32c body)

/-- The targets of the missing fragments of a repair (R273): the walk of R173 with the other fragments counted and the bad medium
excluded. -/
def State.repairTargets (s : State) (r : List Byte) (placed : Table Fragment) (bad : Nat) (missing : List Nat) : Option (List (Nat × Nat × Nat)) :=
  missing.foldl (fun acc i => acc.bind (fun done =>
    let others := ((List.range (recK r + recM r)).filter (fun j => decide (j ∉ missing))).map (fun j => match tget placed j with | some f => f.media | none => recMedia r j) ++ done.map (fun m => m.2.1)
    (s.retarget (beAt r 8 16) (beAt r 24 8) (recK r) (recM r) (payloadLen (recLen r) (recK r)) others bad).map (fun d => done ++ [(i, d, (s.media d).shelf)]))) (some [])

/-- Mark an object UNRECOVERABLE (R274). -/
def State.markUnrecoverable (s : State) (obj : Nat) : State :=
  let s := match s.object obj with | some o => s.setObject obj { o with state := .unrecoverable } | none => s
  ((s.raise srcRstUnrecoverable).bump Reg.RST_EVENTS.UNRECOV).touchGroup obj

/-- Place one fragment of a repair into staging with its header (R273); the table is the repair's fragments so far. -/
def State.placeRepairOne (s : State) (n : Nat) (r : Repair) (moved : List (Nat × Nat × Nat)) (frags : Table Fragment) (part : Nat × List Byte) :
    Option (State × Table Fragment) :=
  let rec' := r.record
  let p := payloadLen (recLen rec') (recK rec')
  let count (c : Nat) : Nat := (frags.filter (fun f => f.2.channel == c)).length
  match s.regenChannel (recM rec') p count, moved.find? (fun m => m.1 == part.1) with
  | some (c, rs, sl), some (_, d, h) =>
    let hdr := repairedHeader rec' part.1 d h r.sealTime
    let s := s.writePayload c rs (p / 4096 + 2) 0 part.2
    let s := match s.chan c with | some ch => s.writeMem (slotAddr c ch sl) hdr | none => s
    let f : Fragment := { channel := c, runs := rs, slot := sl, crcs := pageCrcs part.2, rows := [], core := none, hash := some (recHash rec' part.1), media := d, shelf := h, header := hdr, phase := .held, repaired := true, xid := 0, sentAt := 0, timeouts := 0, mismatches := 0, moving := none, lastVerify := s.now }
    let frags := tput frags part.1 f
    let s := s.updSouth (fun q => { q with repairs := tput q.repairs n { r with frags := frags } })
    some (s.addAlloc d (p + 128), frags)
  | _, _ => none

/-- Place fragments whose payloads are at hand into staging for a repair, each with its header (R273): none where a target or room is
lacking. -/
def State.placeRepair (s : State) (n : Nat) (r : Repair) (parts : List (Nat × List Byte)) : Option State :=
  let rec' := r.record
  match s.repairTargets rec' r.frags r.media (parts.map Prod.fst) with
  | none => none
  | some moved =>
    match parts.foldl (fun o part => o.bind (fun st => st.1.placeRepairOne n r moved st.2 part)) (some (s, r.frags)) with
    | none => none
    | some (s, frags) =>
      let missing := r.missing.filter (fun i => !parts.any (fun part => part.1 == i))
      let made := nextRecord rec' (frags.map (fun (f : Nat × Fragment) => (f.1, f.2.media, f.2.shelf)))
      some (s.updSouth (fun q => { q with repairs := tput q.repairs n (if missing.isEmpty then { r with frags := frags, newRecord := some made, candidates := [], available := [], missing := [] } else { r with frags := frags, missing := missing }) }))

/-- Usable DRAM bandwidth in MB/s (Table 1-5, Table 1-9): 81 % of the peak of the present data rate at one DIMM a channel, 78 % at two;
each healthy channel gives a twelfth. -/
def State.usableBandwidth (s : State) : Nat :=
  let two := s.staging.chans.any (fun kv => decide (1 < kv.2.dimms.length))
  s.rd Reg.CLK_STATUS.DRAM_MTS * 8 * (if two then 78 else 81) * s.chanCount / 100

/-- Stitch capacity and the south ports' rate in Mbit/s (R270, Tables 5-5 and 7-1). -/
def State.stitchCapacity (s : State) : Nat := (stitchUnits.filter s.stuHealthy).length * 204800
def State.southCapacity (s : State) : Nat := (s.south.upPorts.map s.portRate).sum * 1000

/-- The admitted foreground load exceeds half of the stitch units' capacity, of the south bandwidth of either direction, or of the usable DRAM bandwidth
(R275). -/
def State.foregroundHeavy (s : State) : Bool :=
  let p := s.shepherd
  decide (s.stitchCapacity < 2 * (p.admittedIngest + p.admittedRestore) ∨ s.southCapacity < 2 * max (8 * p.admittedHash - p.admittedRestore) p.admittedRestore
    ∨ s.usableBandwidth * 1352 * 1000 < 2 * (3575 * 100 * (8 * p.admittedHash - p.admittedRestore) + 260 * 1352 * p.admittedRestore))

/-- Nanoseconds that a repair's fetch of `bytes` takes of REPAIR_PCT percent of the scarcest of the three capacities; none where there is no share
(R275; the spreading over time is the model's, assumption 126). -/
def State.repairShare (s : State) (bytes : Nat) : Option Nat :=
  let pct := s.rd Reg.RST_CFG.REPAIR_PCT
  let least := min (min s.stitchCapacity s.southCapacity) (s.usableBandwidth * 8000 / 2080)
  if pct * least = 0 then none else some (ceilDiv (bytes * 8 * 1000 * 100) (pct * least))

/-- A repair may issue its next fetch now (R275): the foreground load is low, or the extent has exactly k survivors, or the share allows it. -/
def State.repairMay (s : State) (r : Repair) : Bool :=
  !s.foregroundHeavy || (s.survivors r.record).length == recK r.record
    || ((s.repairShare (payloadLen (recLen r.record) (recK r.record))).isSome && decide (s.south.repairFreeAt ≤ s.now))

/-- A fetch of a repair counts against the share while the foreground load is high. -/
def State.repairSpend (s : State) (r : Repair) : State :=
  match s.repairShare (payloadLen (recLen r.record) (recK r.record)) with
  | some t => if s.foregroundHeavy && (s.survivors r.record).length != recK r.record then s.updSouth (fun q => { q with repairFreeAt := max s.now q.repairFreeAt + t }) else s
  | none => s

/-- Fetch further survivors of a repair up to k (R273), as far as REPAIR_PCT lets it (R275), each on the channel that the restore counter names (R147,
R184). -/
def State.pumpRepair (s : State) (n : Nat) : Nat → State
  | 0 => s
  | fuel + 1 =>
    match tget s.south.repairs n with
    | none => s
    | some r =>
      let k := if r.evacuate then r.missing.length else recK r.record
      let out := (s.south.fetches.filter (fun kv => kv.2.job == .repair n)).length
      if r.newRecord.isSome ∨ k ≤ r.available.length + out ∨ !s.repairMay r then s
      else match r.candidates with
        | [] => s
        | i :: rest =>
          match s.fetchFrag (.repair n) r.record i (s.shepherd.restore % max 1 s.chanList.length) with
          | none => s
          | some s => State.pumpRepair (((s.repairSpend r).updShepherd (fun p => { p with restore := p.restore + 1 })).updSouth (fun q => { q with repairs := tmod q.repairs n (fun r => { r with candidates := rest }) })) n fuel

/-- Every repair goes on as far as it may. -/
def State.pumpRepairs (s : State) : State := (s.south.repairs.map Prod.fst).foldl (fun s n => s.pumpRepair n 40) s

/-- A repair whose new fragments were lost in staging starts again from its record for those not yet durable (R273, R276). -/
def State.restartRepair (s : State) (n : Nat) : State :=
  match tget s.south.repairs n with
  | none => s
  | some r =>
    let p := payloadLen (recLen r.record) (recK r.record) + 128
    let gone := r.frags.filter (fun f => f.2.phase != .durable && f.2.phase != .freed)
    let s := gone.foldl (fun s f => (s.subAlloc f.2.media p).subPending f.2.shelf p) s
    (s.updSouth (fun q => { q with repairs := tput q.repairs n { r with frags := tkeep r.frags (fun _ f => f.phase == .durable || f.phase == .freed), missing := (r.missing ++ gone.map Prod.fst).eraseDups, candidates := s.candidates r.record [], newRecord := none } })).pumpRepair n 40

/-- The record that a repair of an extent starts from: the one that an earlier repair has settled and whose epoch is not yet released, else the
locator's. -/
def State.repairBase (s : State) (r : List Byte) : List Byte :=
  match s.south.repairs.find? (fun kv => recExt kv.2.record == recExt r && kv.2.hasLeaf) with
  | some kv => kv.2.newRecord.getD r
  | none => r

/-- Repair fragments of a settled extent from staging, without a decode (R255): they join the extent's repair that is under way, or begin one. -/
def State.repairStaged (s : State) (e : Nat) (is : List Nat) (r : List Byte) : State :=
  match s.extent e with
  | none => s
  | some x =>
    let is := is.filter (fun i => decide (i ∈ s.readable x))
    let d := match is with | i :: _ => recMedia r i | [] => 0
    let open' := s.south.repairs.find? (fun kv => recExt kv.2.record == e && !kv.2.hasLeaf)
    let fresh : Repair := { media := d, evacuate := false, record := s.repairBase r, missing := [], candidates := [], available := [], frags := [], newRecord := none, acked := [], hasLeaf := false, sealTime := x.sealTime }
    let (n, rep) := match open' with | some kv => kv | none => (s.south.nextRepair, fresh)
    if is.isEmpty then s
    else match s.placeRepair n { rep with media := d } (is.map (fun i => (i, s.readablePayload x i))) with
      | none => s
      | some s =>
        let s := s.updSouth (fun q => { q with nextRepair := max q.nextRepair (n + 1), repairs := tmod q.repairs n (fun y => { y with media := rep.media }) })
        let left := x.frags.filter (fun f => is.contains f.1 && undrained f.2)
        let s := left.foldl (fun s f => (if f.2.phase = .sent then s.makeStale f.2 x f.1 else s).subPending f.2.shelf (payloadLen x.len x.k + 128)) s
        s.updQueue (fun q => { q with extents := tmod q.extents e (fun x => { x with frags := tmap x.frags (fun i f => if i ∈ is ∧ undrained f then { f with phase := .freed, rows := [] } else f) }) })

/-- Start the repair of one extent from the record its locator holds (R271 to R274). Fragments still in staging are repaired from there first (R255,
R272). -/
def State.startRepair (s : State) (d : Nat) (evacuate : Bool) (r : List Byte) : State :=
  let e := recExt r
  let r := s.repairBase r
  let k := recK r
  let named := (List.range (k + recM r)).filter (fun i => recMedia r i == d)
  let inStaging := match s.extent e with | some x => named.filter (fun i => decide (i ∈ s.readable x)) | none => []
  if named.isEmpty then s
  else if !evacuate && !inStaging.isEmpty && inStaging.length == named.length then s.repairStaged e inStaging r
  else if s.south.repairs.any (fun kv => recExt kv.2.record == e && !kv.2.hasLeaf) then s
  else
    let alive := s.survivors r
    let missing := if evacuate then named else (List.range (k + recM r)).filter (fun i => decide (i ∉ alive) || recMedia r i == d)
    let left := alive.filter (fun i => recMedia r i != d)
    if !evacuate && left.length + inStaging.length < k then s.markUnrecoverable (beAt r 8 16)
    else
      let s := if !evacuate && left.length = k then s.raise srcRprAtRisk else s
      let n := s.south.nextRepair
      let sealTime := match s.extent e with | some x => x.sealTime | none => 0
      let rep : Repair := { media := d, evacuate := evacuate, record := r, missing := missing, candidates := if evacuate then named else s.candidates r [], available := [], frags := [], newRecord := none, acked := [], hasLeaf := false, sealTime := sealTime }
      let s := s.updSouth (fun q => { q with repairs := tput q.repairs n rep, nextRepair := n + 1 })
      (if evacuate then s else s.repairStaged e inStaging r).pumpRepair n 40

/-- A medium leaves ONLINE or its shelf enters FAULT: every undrained fragment on it is re-targeted, or, once its extent has settled,
repaired from staging (R177, R255). -/
def State.leaveMedium (s : State) (on : Fragment → Bool) : State :=
  let hit := s.queue.extents.flatMap (fun kv => (kv.2.frags.filter (fun f => undrained f.2 && f.2.media != 65536 && on f.2)).map (fun f => (kv.1, f.1)))
  hit.foldl (fun s (e, i) =>
    match s.extent e with
    | some x =>
      if x.phase = .settled then s.repairStaged e [i] (match s.locator e with | some l => l.record | none => x.record)
      else s.retargetFrag e i
    | none => s) s

/-- A shelf enters FAULT (Table 5-3): its fault is raised, undrained fragments leave it, its fetches end. -/
def State.faultShelf (s : State) (h src : Nat) : State :=
  let s := (s.setPstate h .fault).raise src h
  s.leaveMedium (fun f => f.shelf == h)

/-- A medium's STATE becomes FAILED (R250, R253, R271): its undrained fragments leave it, the affected extents are found in the index and
asked of every associated shelf by LIST, and their repairs start, fewest survivors first, then oldest SEAL_TIME (R272). -/
def State.failMedium (s : State) (d : Nat) (evacuate : Bool := false) : State :=
  let s := if evacuate then s else (s.setMedia d { s.media d with state := 3, changes := ((s.media d).changes + 1) % 2 ^ 32 }).leaveMedium (fun f => f.media == d)
  let shelves := tkeys s.south.assocs (fun _ a => a.complete)
  let list := beBytes 8 0 ++ beBytes 8 (2 ^ 64 - 1) ++ beBytes 2 d ++ List.replicate 6 0
  let s := shelves.foldl (fun s h => s.request (.names d) 0 d h 0x52 list 0 []) s
  let recs := s.namedBy d
  let sealOf (e : Nat) : Nat := match s.extent e with | some x => x.sealTime | none => 0
  let staged (e : Nat) : Bool := match s.extent e with | some x => !(s.readable x).isEmpty | none => false
  let order := sortBy (fun (q : Nat × List Byte) => (b2n (!staged q.1) * 64 + (s.survivors q.2).length) * 2 ^ 64 + sealOf q.1) recs
  order.foldl (fun s q => s.startRepair d evacuate q.2) s

end Sys2Proof.Machine
end

