-- ==== Sys2Proof/Machine/Masks.lean ====
section
/-!
DEFINITION. Masking in the stitch units (R105, R111, R114 to R120): values in three shares, the mask generators of 52 Keccak-f[400] lanes, and a
pipeline's step over one block. The spec gives no bit-by-bit schedule of the masked circuits: a share-wise value is computed here as the value
shared anew with the fresh bits of its refresh point, which output bit serves which point is the model's, and so is how a seed enters the lanes
(DESIGN CHOICE, assumption 127).
-/

namespace Sys2Proof.Machine

/-- Word (x, y) of a Keccak-f[400] state, at index x + 5y. -/
def kecWord (a : List Nat) (x y : Nat) : Nat := a.getD (x % 5 + 5 * (y % 5)) 0

def kecRot (v n : Nat) : Nat := (v * 2 ^ (n % 16) + v * 2 ^ (n % 16) / 65536) % 65536

/-- The rotation offsets of FIPS 202 by x + 5y. -/
def kecOffsets : List Nat := [0, 1, 62, 28, 27, 36, 44, 6, 55, 20, 3, 10, 43, 25, 39, 41, 45, 15, 21, 8, 18, 2, 61, 56, 14]

/-- The round constants of the 20 rounds of Keccak-f[400] (FIPS 202). -/
def kecConstants : List Nat :=
  [0x0001, 0x8082, 0x808A, 0x8000, 0x808B, 0x0001, 0x8081, 0x8009, 0x008A, 0x0088, 0x8009, 0x000A, 0x808B, 0x008B, 0x8089, 0x8003, 0x8002, 0x0080, 0x800A, 0x000A]

/-- A round: theta, rho and pi, chi, iota. -/
def kecRound (a : List Nat) (rc : Nat) : List Nat :=
  let par (x : Nat) : Nat := (List.range 5).foldl (fun v y => v ^^^ kecWord a x y) 0
  let th (x y : Nat) : Nat := kecWord a x y ^^^ par (x + 4) ^^^ kecRot (par (x + 1)) 1
  let b := (List.range 25).map (fun i => let x := (i % 5 + 3 * (i / 5)) % 5; let y := i % 5; kecRot (th x y) (kecOffsets.getD (x + 5 * y) 0))
  (List.range 25).map (fun i =>
    let x := i % 5
    let y := i / 5
    (kecWord b x y ^^^ ((65535 - kecWord b (x + 1) y) &&& kecWord b (x + 2) y)) ^^^ (if i = 0 then rc else 0))

/-- Keccak-f[400] of a state as a number, word (0, 0) in its low bits. -/
def keccak400 (s : Nat) : Nat :=
  let a := (List.range 25).map (fun i => s / 2 ^ (16 * i) % 65536)
  (kecConstants.foldl kecRound a).foldr (fun w v => w + 65536 * v) 0

/-- Absorb 256 bits of fresh TRNG output (R118, R119): each lane takes them with its own number and its pipeline's. -/
def MaskGen.absorb (g : Option MaskGen) (pipe seed : Nat) : MaskGen :=
  let old := match g with | some g => g.lanes | none => List.replicate 52 0
  { lanes := (List.range 52).map (fun l => keccak400 (old.getD l 0 ^^^ (seed % 2 ^ 256) ^^^ ((l + 64 * pipe) * 2 ^ 256))), blocks := 0 }

/-- A cycle of a mask generator: every lane is permuted. -/
def MaskGen.step (g : MaskGen) : MaskGen := { g with lanes := g.lanes.map keccak400 }

/-- The 16,640 bits that the lanes yield: 320 each, lane 0 in the low bits. -/
def MaskGen.out (g : MaskGen) : Nat := g.lanes.foldr (fun w v => w % 2 ^ 320 + 2 ^ 320 * v) 0

/-- Bits of a generator's output. -/
def maskBits (out lo n : Nat) : Nat := out / 2 ^ lo % 2 ^ n

/-- The value of three shares. -/
def Shares.value (x : Shares) : Nat := x.a ^^^ x.b ^^^ x.c

/-- A value of `w` bits split with `2 w` mask bits. -/
def shareOf (w v m : Nat) : Shares := { a := v ^^^ (m % 2 ^ w) ^^^ (m / 2 ^ w % 2 ^ w), b := m % 2 ^ w, c := m / 2 ^ w % 2 ^ w }

/-- Shares refreshed with `2 w` mask bits: the value stays. -/
def Shares.refresh (x : Shares) (w m : Nat) : Shares := { a := x.a ^^^ (m % 2 ^ w) ^^^ (m / 2 ^ w % 2 ^ w), b := x.b ^^^ (m % 2 ^ w), c := x.c ^^^ (m / 2 ^ w % 2 ^ w) }

/-- A product of GF(2^128) as a number. -/
def gmulNat (a b : Nat) : Nat := (ghashMul (BitVec.ofNat 128 a) (BitVec.ofNat 128 b)).toNat

/-- Domain-oriented multiplication in GF(2^128): each of the three pairs of cross-share products is refreshed with 128 fresh bits (Table 3-7). -/
def Shares.mul (x y : Shares) (m : Nat) : Shares :=
  let r0 := maskBits m 0 128
  let r1 := maskBits m 128 128
  let r2 := maskBits m 256 128
  { a := gmulNat x.a y.a ^^^ (gmulNat x.a y.b ^^^ r0) ^^^ (gmulNat x.a y.c ^^^ r1)
    b := gmulNat x.b y.b ^^^ (gmulNat x.b y.a ^^^ r0) ^^^ (gmulNat x.b y.c ^^^ r2)
    c := gmulNat x.c y.c ^^^ (gmulNat x.c y.a ^^^ r1) ^^^ (gmulNat x.c y.b ^^^ r2) }

/-- The compare of a masked value between the pipelines: zero in this form (R120). -/
def Shares.agree (p q : Shares) : Bool := ((p.a ^^^ q.a) ^^^ (p.b ^^^ q.b) ^^^ (p.c ^^^ q.c)) == 0

def noShares : Shares := { a := 0, b := 0, c := 0 }

/-- A pipeline at key load (R105, Table 3-7): the key's bus shares refreshed, its round keys and H in shares, nothing accumulated. -/
def Pipe.load (bus : Shares) (out : Nat) : Pipe :=
  let key := bus.refresh 256 (maskBits out 0 512)
  { key := key, roundKeys := shareOf 1920 (Config.aesRoundKeys (BitVec.ofNat 256 key.value)).toNat (maskBits out 512 3840),
    h := shareOf 128 (gcmH key.value).toNat (maskBits out 4352 256), ctr := noShares, aes := noShares, acc := noShares, drawn := [] }

/-- A pipeline over one block (Table 3-4, R117): the counter block is shared, the cipher's last round refreshed, the ciphertext block enters the
accumulator by a masked multiplication, and after 256 blocks the round keys are refreshed with the 15 bits drawn at each. -/
def Pipe.block (iv : Nat) (out : Nat) (p : Pipe) (q : Nat × BitVec 128) : Pipe :=
  let cb := counterBlock iv q.1
  let drawn := p.drawn ++ [maskBits out 16320 15]
  let full := decide (256 ≤ drawn.length)
  { p with
    ctr := shareOf 128 cb.toNat (maskBits out 15680 256)
    aes := shareOf 128 (Config.aes256 (BitVec.ofNat 256 p.key.value) cb).toNat (maskBits out 15424 256)
    acc := ({ p.acc with a := p.acc.a ^^^ q.2.toNat } : Shares).mul p.h (maskBits out 15936 384)
    roundKeys := if full then p.roundKeys.refresh 1920 (drawn.foldr (fun w v => w + 32768 * v) 0) else p.roundKeys
    drawn := if full then [] else drawn }

/-- A pipeline and its mask generator over blocks, each with its counter value. -/
def Pipe.run (iv : Nat) (pg : Pipe × MaskGen) (blocks : List (Nat × BitVec 128)) : Pipe × MaskGen :=
  blocks.foldl (fun (st : Pipe × MaskGen) q => let g := st.2.step; (Pipe.block iv g.out st.1 q, { g with blocks := g.blocks + 1 })) pg

/-- The data key of a context, once received. -/
def StitchCtx.key (x : StitchCtx) : Option Nat := x.pipes.map (fun p => p.1.key.value)

/-- The partial GHASH value of a context, in shares; and its value. -/
def StitchCtx.partial' (x : StitchCtx) : Shares := match x.pipes with | some p => p.1.acc | none => noShares
def StitchCtx.acc (x : StitchCtx) : Nat := x.partial'.value

/-- The two pipelines hold the same key and the same partial, as their compares find (R120). -/
def StitchCtx.agrees (x : StitchCtx) : Bool :=
  match x.pipes with
  | some p => p.1.key.agree p.2.key && p.1.h.agree p.2.h && p.1.acc.agree p.2.acc
  | none => true

/-- A mask generator of a unit, by unit × 2 + pipeline; one never seeded yields nothing. -/
def State.maskGen (s : State) (n pipe : Nat) : MaskGen := tgetD s.stitch.masks (n * 2 + pipe) { lanes := List.replicate 52 0, blocks := 65536 }

/-- The blocks a mask generator has served since its last seed; a generator never seeded serves none (R119). -/
def State.maskUsed (s : State) (n pipe : Nat) : Nat := (s.maskGen n pipe).blocks

/-- A unit's generator makes one output. -/
def State.stepMask (s : State) (n pipe : Nat) : State :=
  s.updStitch (fun t => { t with masks := tput t.masks (n * 2 + pipe) (s.maskGen n pipe).step })

/-- Load a key that the bus has brought into both pipelines, each with its own generator's bits (R105). -/
def State.loadPipes (s : State) (n : Nat) (bus : Shares) : (Pipe × Pipe) × State :=
  let s := (s.stepMask n 0).stepMask n 1
  ((Pipe.load bus (s.maskGen n 0).out, Pipe.load bus (s.maskGen n 1).out), s)

end Sys2Proof.Machine
end

