-- ==== Sys2Proof/Machine/Stitch.lean ====
section
/-! DEFINITION. The stitch units (chapter 03): ranges and contexts, rows and their release, compares, masks, tags, and unit states. -/

namespace Sys2Proof.Machine

/-- The running context of a unit: its number and content. -/
def State.running (s : State) (n : Nat) : Option (Nat × StitchCtx) :=
  (tget s.stitch.current n).bind (fun c => (tget s.stitch.ctxs (ctxKey n c)).map (fun x => (c, x)))

/-- The rows of an extent, split into `n` ranges: each but the last holds ceil(rows / n) rows (R100). -/
def planRanges (rows n : Nat) : List RangeRec :=
  let per := ceilDiv rows (max 1 n)
  ((List.range n).map (fun i => ({ first := i * per, rows := min per (rows - i * per), unit := 0, phase := .waiting, rerun := false } : RangeRec))).filter (fun r => decide (0 < r.rows))

/-- The fill-rate estimate of a session's paths: the sum of its confirmed paths' link rates over 8, in MB/s (R101). -/
def State.pathEstimate (s : State) (sid : Nat) : Nat :=
  match s.session sid with
  | some x => ((x.paths.filter (fun p => p.2.confirmed)).map (fun p => p.2.rate)).sum * 125
  | none => 0

/-- How many ranges an extent is processed in (R100). -/
def State.rangeCount (s : State) (len estimate : Nat) : Nat :=
  if 25600 < estimate then max 1 (min (ceilDiv len 1048576) s.stitchChoice.length) else 1

/-- The range's first 64 KiB, or the whole of a shorter range, is present (R102). -/
def State.rangePresent (s : State) (x : Extent) (r : RangeRec) : Bool :=
  let start := 64 * x.k * r.first
  let bytes := min (64 * x.k * r.rows) (x.len - start)
  (s.extentPlain x start (min 65536 bytes)).isSome

/-- A range descriptor that a unit refuses: its segment field is not zero (R109), or its rows are none or not the extent's (Table 3-9). -/
def badDescriptor (i : JobInfo) (r : RangeRec) : Bool := r.segment != 0 || r.rows == 0 || decide (rowCount i.len i.k < r.first + r.rows)

/-- RANGE_HANDOVER: the first 64 KiB of a range, or a whole shorter range, is present, and the range goes to its stitch unit (R102), once
the epoch map names its key (R286); the extent's ranges are planned at its first (R100), range 0's unit leads (R103). A bad descriptor is refused
(R109, R127). -/
def execRangeHandover (obj idx range : Nat) (s : State) : Host.Outcome State Fault Refusal :=
  let e := extKey obj idx
  match s.extent e with
  | none => ok s
  | some x =>
    if x.phase ≠ .admitted || !s.sealRuns then ok s
    else
      let est := match s.queue? x.queue with | some q => q.fillRate.getD (s.pathEstimate q.session) | none => 0
      let ns := x.obj / 2 ^ 116
      match s.resolveSlot ns x.epoch with
      | none => ok s
      | some slot =>
      let s := s.useKey ns x.epoch
      let x := { x with slot := slot }
      let x := if x.ranges.isEmpty then { x with ranges := planRanges (rowCount x.len x.k) (s.rangeCount x.len est) } else x
      match x.ranges[range]? with
      | none => ok s
      | some r =>
        let s := s.setExtent e x
        if r.phase ≠ .waiting || !s.rangePresent x r then ok s
        else
          let taken := x.ranges.filterMap (fun r => if r.phase = .waiting then none else some r.unit)
          let pool := s.stitchChoice
          let choice := match pool.filter (fun n => decide (n ∉ taken)) with | n :: _ => some n | [] => pool.head?
          if r.rerun then ok ((s.placeRerun [] (.seal e) r).1.fixLead (.seal e))
          else match choice with
            | none => ok s
            | some n => match s.freeCtx n with
              | none => ok s
              | some c =>
                if badDescriptor { obj := x.obj, idx := x.idx, len := x.len, k := x.k, m := x.m, epoch := x.epoch, slot := x.slot } r then ok ((s.stuCode n 0x60).raise (srcStu n 5))
                else
                  let s := s.assign n c (newCtx (.seal e) r)
                  ok (if range = 0 then s.setLead (.seal e) n else s.fixLead (.seal e))

/-- The input of a context's next row is present. -/
def State.rowPresent (s : State) (x : StitchCtx) : Bool :=
  match x.job, s.jobInfo x.job with
  | .seal e, some i => match s.extent e with
    | some y => (s.extentPlain y (64 * i.k * x.next) (min (64 * i.k) (i.len - 64 * i.k * x.next))).isSome
    | none => false
  | .unseal _ _, some _ => true
  | _, none => false

/-- A re-run waits in context 2 of a unit that runs another, with its next row present. -/
def State.rerunWaits (s : State) (n c : Nat) : Bool :=
  c != 2 && (match tget s.stitch.ctxs (ctxKey n 2) with | some y => s.rowPresent y | none => false)

/-- Bytes of the extent before a context's next block, and its blocks to the next 4 KiB boundary of plaintext (R113). -/
def ctxOffset (k : Nat) (x : StitchCtx) : Nat := 64 * k * x.next + 16 * x.taken
def toBoundary (off : Nat) : Nat := (4096 - off % 4096) / 16

/-- The running context stands at a 4 KiB boundary of plaintext. -/
def State.atBoundary (s : State) (x : StitchCtx) : Bool :=
  match s.jobInfo x.job with | some i => ctxOffset i.k x % 4096 == 0 | none => true

/-- The unit turns to a re-run that waits in context 2 once its running context stands at a 4 KiB boundary (R35, R113). -/
def State.precede (s : State) (n : Nat) : State :=
  match s.running n with
  | some (c, x) => if s.rerunWaits n c && s.atBoundary x then s.updStitch (fun t => { t with current := tput t.current n 2 }) else s
  | none => s

/-- CONTEXT_SWITCH: at a block boundary the unit turns to a re-run that waits in context 2, at a 4 KiB boundary of its running context, or leaves a
context whose next row is absent for another with work (R113). -/
def execContextSwitch (unit : Nat) (s : State) : Host.Outcome State Fault Refusal :=
  match s.running unit with
  | none => ok s
  | some (c, x) =>
    let there (d : Nat) : Bool := d != c && (match tget s.stitch.ctxs (ctxKey unit d) with | some y => s.rowPresent y | none => false)
    if s.rerunWaits unit c && (s.atBoundary x || !s.rowPresent x) then ok (s.updStitch (fun t => { t with current := tput t.current unit 2 }))
    else if s.rowPresent x then ok s
    else match [0, 1].find? there with
      | some d => ok (s.updStitch (fun t => { t with current := tput t.current unit d }))
      | none => ok s

/-- The mismatch count within the window, with a further mismatch now. -/
def State.countMismatch (s : State) (n : Nat) : State × Nat :=
  let ts := s.now :: recentTimes s.now (s.rd (Reg.STU_QPOL.WINDOW.nth n)) (tgetD s.stitch.mismatches n [])
  (((s.updStitch (fun t => { t with mismatches := tput t.mismatches n ts })).wr (Reg.STU_STATUS.MISMATCH_CNT.nth n) (min 255 ts.length)), ts.length)

/-- The ranges that a lead unit has done of jobs whose tag it still owes. -/
def State.owedRanges (s : State) (n : Nat) : List (Job × RangeRec) :=
  let mine (j : Job) (lead : Nat) (rs : List RangeRec) : List (Job × RangeRec) :=
    if lead = n ∧ rs.all (fun r => r.phase == .done) then (rs.filter (fun r => r.unit == n)).map (fun r => (j, r)) else []
  s.queue.extents.flatMap (fun kv => if kv.2.phase = .admitted then mine (.seal kv.1) kv.2.lead kv.2.ranges else [])
  ++ s.south.restores.flatMap (fun kv => kv.2.exts.flatMap (fun e => if e.verified then [] else mine (.unseal kv.1 e.idx) e.lead e.ranges))

/-- A compare fails (R125, R126, R129): the unit stops, its contexts are cleared and run again elsewhere, and, where the tag compare failed, so are the
ranges that it had done of that job; STU_MISMATCH is raised, and it goes to SUSPECT with its self-test beginning at once, or, the count at the limit,
to QUARANTINED. -/
def State.compareFail (s : State) (n code : Nat) : State :=
  let s := s.stuCode n code
  let (s, count) := s.countMismatch n
  let owed := if code = 0x12 then s.owedRanges n else []
  let s := s.stopStitch n stSuspect
  let s := owed.foldl (fun s (o : Job × RangeRec) => s.rerun n { newCtx o.1 o.2 with next := o.2.first + o.2.rows }) s
  let s := s.raise (srcStu n 0)
  if max 1 (s.rd (Reg.STU_QPOL.LIMIT.nth n)) ≤ count then ((s.updStitch (fun t => { t with tests := tdel t.tests n })).setStu n stQuarantined).raise (srcStu n 4)
  else s.updStitch (fun t => { t with tests := tput t.tests n .suspect })

/-- STU_COMPARE_FAIL: a compare fails: of a BUSY unit, or of the tag of a job that a unit without a context leads (R120, R125). -/
def execStuCompareFail (unit code : Nat) (s : State) : Host.Outcome State Fault Refusal :=
  if ¬(0x10 ≤ code ∧ code ≤ 0x12) ∨ ¬(s.stu unit = stBusy ∨ (code = 0x12 ∧ s.stu unit = stIdle ∧ s.owedRanges unit ≠ [])) then ok s
  else ok (s.compareFail unit code)

/-- MASK_RESEED: a generator absorbs 256 fresh TRNG bits, at start-up or after 2^16 blocks (R119). -/
def execMaskReseed (unit pipe : Nat) (s : State) : Host.Outcome State Fault Refusal :=
  if 12 ≤ unit ∨ 2 ≤ pipe ∨ s.isSet Reg.TRNG_STATUS.FAIL then ok s
  else
    let (seed, s) := s.draw 256
    ok (s.updStitch (fun t => { t with masks := tput t.masks (unit * 2 + pipe) (MaskGen.absorb (tget t.masks (unit * 2 + pipe)) pipe seed), stalled := tdel t.stalled (unit * 2 + pipe) }))

/-- RESEED_LATE: a pipeline has stalled 100 µs; RESEED_LATE is reported, STU_RESEED_LATE raised, and the range moves to another unit
(R119). -/
def execReseedLate (unit pipe : Nat) (s : State) : Host.Outcome State Fault Refusal :=
  match s.running unit with
  | none => ok s
  | some (c, x) =>
    if s.maskUsed unit pipe < 65536 then ok s
    else
      let s := s.advanceTo (tgetD s.stitch.stalled (unit * 2 + pipe) s.now + 100 * usec)
      let s := (s.stuCode unit 0x40).flag (Reg.STU_ERR.RESEED_LATE.nth unit) true
      ok (((s.dropCtx unit c).rerun unit x).raise (srcStu unit 2))

/-- PLAINTEXT_POISON: a plaintext read returns poison; rebuilt, it is processed; not rebuilt, the range stops with INPUT_LOST and the
object is aborted with INTEGRITY (R124). -/
def execPlaintextPoison (unit : Nat) (rebuilt : Bool) (s : State) : Host.Outcome State Fault Refusal :=
  match s.running unit with
  | some (c, { job := .seal e, .. }) =>
    if rebuilt then ok (s.flag (Reg.STU_ERR.POISON.nth unit) true)
    else
      let s := (s.stuCode unit 0x20).flag (Reg.STU_ERR.INPUT_LOST.nth unit) true
      let s := s.dropCtx unit c
      ok (match s.extent e with | some x => s.abortObject x.obj cIntegrity false opData 0x20 | none => s)
  | _ => ok s

/-- Rows of an extent that every earlier row's release allows the Pack to take: the contiguous prefix released (R122). -/
def State.prefixRows (s : State) (e : Nat) (ranges : List RangeRec) : Nat :=
  (sortBy RangeRec.first ranges).foldl (fun upTo r =>
    if r.first ≠ upTo then upTo
    else match r.phase with
      | .done => r.first + r.rows
      | _ => match s.stitch.ctxs.find? (fun kv => kv.2.job == .seal e && kv.2.first == r.first) with
        | some kv => kv.2.next
        | none => r.first) 0

/-- Bytes of rows in a unit's release buffer: rows that it has released of ranges which lie ahead of an earlier one, finished or not (R122). -/
def State.bufferUsed (s : State) (n : Nat) : Nat :=
  (s.queue.extents.map (fun kv =>
    if kv.2.phase = .admitted then
      let upTo := s.prefixRows kv.1 kv.2.ranges
      ((kv.2.ranges.filter (fun r => r.unit == n && decide (upTo < r.first))).map (fun r =>
        let rows := if r.phase = .done then r.rows else match s.stitch.ctxs.find? (fun c => c.2.job == .seal kv.1 && c.2.first == r.first) with | some c => c.2.next - c.2.first | none => 0
        rows * 64 * (kv.2.k + kv.2.m))).sum
    else 0)).sum

/-- The release buffer of a unit has room for another row of a context: 1 MiB of rows that lie ahead of an earlier range (R122). -/
def State.bufferRoom (s : State) (n e : Nat) (x : Extent) (c : StitchCtx) : Bool :=
  decide (s.prefixRows e x.ranges ≥ c.first) || decide (s.bufferUsed n + 64 * (x.k + x.m) ≤ 1048576)

/-- The rows that stand in order from row 0. -/
def rowsInOrder : Nat → Table (List Byte) → List Byte
  | n, (i, r) :: t => if i = n then r ++ rowsInOrder (n + 1) t else []
  | _, [] => []

/-- The shadow of a fragment's hash job (R190): the state after the last whole permutation over what its core has absorbed, of the domain byte and
the rows in order (R195, R196). -/
def shadowOf (rows : Table (List Byte)) : Option Shadow :=
  let bs : List Byte := 3 :: rowsInOrder 0 rows
  let n := bs.length / 136 * 136
  if n = 0 then none else some { state := (Config.keccakAbsorb (bs.take n)).toNat, bytes := n }

/-- Write a row's chunks: each to the staging of its fragment, if that holds, and to its sponge core (R121, R130, R150). -/
def State.putRow (s : State) (e q : Nat) (chunk : Nat → List Byte) : State :=
  match s.extent e with
  | none => s
  | some x =>
    let s := x.frags.foldl (fun s f => if f.2.phase = .filling then s.writePayload f.2.channel f.2.runs 2 (64 * q) (chunk f.1) else s) s
    s.setExtent e { x with frags := tmap x.frags (fun i f => if f.hash.isSome then f else
      let rows := tput f.rows q (chunk i)
      { f with rows := rows, shadow := if f.core.isSome then shadowOf rows else none }) }

/-- The blocks that both mask generators of a unit still serve (R119). -/
def State.maskRoom (s : State) (n : Nat) : Nat := 65536 - max (s.maskUsed n 0) (s.maskUsed n 1)

/-- A pipeline whose mask generator is used up stalls from now (R119). -/
def State.stall (s : State) (n : Nat) : State :=
  s.updStitch (fun t => { t with stalled := [0, 1].foldl (fun m p => if (tget m (n * 2 + p)).isSome ∨ s.maskUsed n p < 65536 then m else tput m (n * 2 + p) s.now) t.stalled })

/-- Take blocks of a context's next row through both pipelines (R113 to R115, R117, R118): `ct` is the row's ciphertext, `m` its parity chunks. -/
def State.takeBlocks (s : State) (n c : Nat) (x : StitchCtx) (iv k m : Nat) (ct : List Byte) (count : Nat) : State :=
  match x.pipes with
  | none => s
  | some (p, q) =>
    let blocks := ((blocksOf (ceilDiv ct.length 16) ct).drop x.taken).take count
    let qs := ((List.range blocks.length).map (fun j => 4 * k * x.next + 2 + x.taken + j)).zip blocks
    let (p, g) := Pipe.run iv (p, s.maskGen n 0) qs
    let (q, h) := Pipe.run iv (q, s.maskGen n 1) qs
    let upTo := padTo (64 * k) (ct.take (16 * (x.taken + count)))
    let data := (List.range k).map (fun i => slice upTo (64 * i) 64)
    let x := { x with pipes := some (p, q), taken := x.taken + count, parity := (List.range m).map (fun j => rsParity 64 j data) }
    s.updStitch (fun t => { t with ctxs := tput t.ctxs (ctxKey n c) x, masks := tput (tput t.masks (n * 2) g) (n * 2 + 1) h })

/-- A context goes on to its next row; STU_BLOCKS counts the blocks of the row released. -/
def State.nextRow (s : State) (n c blocks : Nat) : State :=
  (s.addTo (Reg.STU_BLOCKS.BLOCKS.nth n) blocks).updStitch (fun t => { t with ctxs := tmod t.ctxs (ctxKey n c) (fun y => { y with next := y.next + 1, taken := 0, parity := [] }) })

/-- The ciphertext of a row being sealed (R108). -/
def sealCipher (ext : Extent) (x : StitchCtx) (key : Nat) (pt : List Byte) : List Byte :=
  xorBytes pt (keystream key (extentIv ext.idx) (4 * ext.k * x.next + 2) pt.length)

/-- Release a sealed row: encrypt, encode, write, hash-accumulate (R98, R108, R121, R133). -/
def State.sealRow (s : State) (n c : Nat) (x : StitchCtx) (e : Nat) (ext : Extent) (key : Nat) (pt : List Byte) : State :=
  let k := ext.k
  let ct := sealCipher ext x key pt
  let blocks := ceilDiv pt.length 16
  let data := (List.range k).map (fun i => slice (padTo (64 * k) ct) (64 * i) 64)
  let s := s.takeBlocks n c x (extentIv ext.idx) k ext.m ct (blocks - x.taken)
  let s := if ext.phase = .aborted then s else s.putRow e x.next (rsFragment k 64 data)
  s.nextRow n c blocks

/-- A row's chunk of a fragment in the restore buffer: read from its pages, or, of one that stands in staging, from there (R115, R266). -/
def State.bufferChunk (s : State) (b : FetchedFrag) (row : Nat) : List Byte :=
  if b.runs.isEmpty then slice b.payload (64 * row) 64 else s.readMem (payloadAddr b.channel b.runs (64 * row)) 64

/-- The ciphertext of a row being unsealed: the surviving chunks decoded (R115). -/
def State.unsealCipher (s : State) (e : RestoreExt) (info : JobInfo) (row : Nat) : List Byte :=
  let data := rsDecode info.k 64 e.selection (fun i => match tget e.available i with | some b => s.bufferChunk b row | none => List.replicate 64 0)
  data.flatten.take (info.len - 64 * info.k * row)

/-- Release an unsealed row: decode, decrypt, hold the plaintext in the egress buffer (R115, R116). -/
def State.unsealRow (s : State) (n c : Nat) (x : StitchCtx) (h : Nat) (r : Restore) (e : RestoreExt) (info : JobInfo) (key : Nat) : State :=
  let k := info.k
  let ct := s.unsealCipher e info x.next
  let blocks := ceilDiv ct.length 16
  let pt := xorBytes ct (keystream key (extentIv info.idx) (4 * k * x.next + 2) ct.length)
  let s := s.takeBlocks n c x (extentIv info.idx) k 0 ct (blocks - x.taken)
  let s := s.updSouth (fun q => { q with restores := tput q.restores h { r with exts := r.exts.map (fun y => if y.idx = e.idx then { y with plain := tput y.plain x.next pt } else y) } })
  s.nextRow n c blocks

/-- The selected fragments of an unseal with a poisoned word in a row's chunk. -/
def State.poisonedFrags (s : State) (e : RestoreExt) (row : Nat) : List Nat :=
  e.selection.filter (fun i => match tget e.available i with
    | some b => !b.runs.isEmpty && (List.range 16).any (fun w => s.wordMarked (payloadAddr b.channel b.runs (64 * row) + 4 * w))
    | none => false)

/-- A fragment in the restore buffer returns poison: the unit never decrypts it (R124), and the fragment becomes unavailable like one of a lost
channel (R266): the extent's unseal begins again from what is left. The spec gives this case no outcome (DESIGN CHOICE, assumption 121). -/
def State.poisonFetched (s : State) (h : Nat) (r : Restore) (e : RestoreExt) (bad : List Nat) : State :=
  let s := s.abortJobs (fun j => j == .unseal h e.idx)
  s.updSouth (fun q => { q with restores := tput q.restores h { r with exts := r.exts.map (fun y => if y.idx = e.idx then { y with available := tkeep y.available (fun i _ => !bad.contains i), bad := y.bad ++ bad, selection := [], ranges := [], plain := [] } else y) } })

/-- The blocks that the running context takes now: the rest of its row, but only to the 4 KiB boundary where a re-run waits (R113), and no more than
the mask generators serve (R119). -/
def State.blocksNow (s : State) (n c : Nat) (info : JobInfo) (x : StitchCtx) (need : Nat) : Nat :=
  min (if s.rerunWaits n c then min need (toBoundary (ctxOffset info.k x)) else need) (s.maskRoom n)

/-- Part of a row is taken; a pipeline whose generator is used up stalls (R119). -/
def State.partRow (s : State) (n c : Nat) (x : StitchCtx) (iv k m : Nat) (ct : List Byte) (count : Nat) : State :=
  let s := s.takeBlocks n c x iv k m ct count
  if s.maskRoom n = 0 then s.stall n else s

/-- The running context's next row goes on as far as it can. -/
def State.workRow (s : State) (unit c : Nat) (x : StitchCtx) (info : JobInfo) (key : Nat) : State :=
  let size := min (64 * info.k) (info.len - 64 * info.k * x.next)
  let need := ceilDiv size 16 - x.taken
  let now := s.blocksNow unit c info x need
  match x.job with
  | .seal e => match s.extent e with
    | none => s
    | some ext => match s.extentPlain ext (64 * info.k * x.next) size with
      | none => s
      | some pt =>
        if !s.bufferRoom unit e ext x then s
        else if now < need then s.partRow unit c x (extentIv ext.idx) ext.k ext.m (sealCipher ext x key pt) now
        else s.sealRow unit c x e ext key pt
  | .unseal h i => match tget s.south.restores h with
    | none => s
    | some r => match r.ext? i with
      | none => s
      | some e =>
        let bad := s.poisonedFrags e x.next
        if !bad.isEmpty then s.poisonFetched h r e bad
        else if now < need then s.partRow unit c x (extentIv info.idx) info.k 0 (s.unsealCipher e info x.next) now
        else s.unsealRow unit c x h r e info key

/-- ROW_RELEASE: every block and parity chunk of the running context's next row passes its compare; the row is written to staging and
offered to the Pack, or its plaintext goes to the egress buffer (R116, R121). A re-run in context 2 goes first from a 4 KiB boundary on (R113). The row
waits while its input, the key or room in the release buffer is lacking, and stops at the block that no mask material is left for (R119); where the
pipelines' compared values differ the unit stops (R120); an aborted range stops here with ABORTED (R123). -/
def execRowRelease (unit : Nat) (s : State) : Host.Outcome State Fault Refusal :=
  let s := s.precede unit
  match s.running unit with
  | none => ok s
  | some (c, x) =>
    if x.aborting then ok ((s.stuCode unit 0x50).dropCtx unit c)
    else if x.first + x.rows ≤ x.next then ok s
    else match s.jobInfo x.job, x.key with
      | some info, some key => if x.agrees then ok (s.workRow unit c x info key) else ok (s.compareFail unit 0x10)
      | _, _ => ok s

/-- Send a range's partial to the lead unit over the private key bus, in its three shares refreshed before the transfer (R111, Table 3-7). -/
def State.sendPartial (s : State) (j : Job) (r : RangeRec) : State :=
  let s := s.stepMask r.unit 0
  let acc := r.acc.refresh 128 (maskBits (s.maskGen r.unit 0).out 0 256)
  let s := s.updRanges j (fun rs => rs.map (fun g => if g.first = r.first ∧ g.rows = r.rows then { g with acc := acc } else g))
  s.emit (.keyBus (.stitch (s.jobLead j))) 0x01 [r.unit, r.first, r.rows, acc.a, acc.b, acc.c]

/-- PARTIAL: a compared range's partial is sent in shares to the lead unit (R111). -/
def execGhashPartial (obj idx first : Nat) (s : State) : Host.Outcome State Fault Refusal :=
  let j := Job.seal (extKey obj idx)
  match (s.jobRanges j).find? (fun r => r.first == first && r.phase == .done) with
  | some r => ok (s.sendPartial j r)
  | none => ok s

/-- The data key of an extent, as the lead unit holds it (R104). -/
def dataKey (nsk : Nat) (obj epoch : Nat) : Nat := kmac (beBytes 32 nsk) (beBytes 16 obj ++ beBytes 4 epoch) (ascii "LGE9120 data key")

/-- The tag of an extent from its done ranges (R110). -/
def State.rangesTag (s : State) (info : JobInfo) (ranges : List RangeRec) : Option Nat :=
  (tget s.keys.slots info.slot).map (fun sl => combineTag (dataKey sl.value info.obj info.epoch) info (ranges.map (fun r => (r.acc.value, lastBlock info r.first r.rows))))

/-- TAG_COMBINE: the lead unit holds every partial, combines them into the tag, and releases it after its compare; the extent's
plaintext leaves the ingest buffer (R110, R112, R15, R83). -/
def execTagCombine (obj idx : Nat) (s : State) : Host.Outcome State Fault Refusal :=
  let e := extKey obj idx
  match s.extent e, s.jobInfo (.seal e) with
  | some x, some info =>
    if x.phase ≠ .admitted || x.ranges.isEmpty || !(x.ranges.all (fun r => r.phase == .done)) || x.final.isNone then ok s
    else match s.rangesTag info x.ranges with
      | some t => ok (if x.frags.isEmpty then s.discardExtent e else (s.setExtent e { x with tag := some t, phase := .sealed }).freeIngest e)
      | none => ok s
  | _, _ => ok s

/-- A unit whose self-test has passed returns to service, or stays OFFLINE out of SEAL or with EN clear (Table 3-8). -/
def State.stitchServe (s : State) (n : Nat) : State :=
  s.setStu n (if s.sealRuns && s.isSet (Reg.STU_CTRL.EN.nth n) then stIdle else stOffline)

/-- STU_SELFTEST_DONE: a self-test ends (Table 3-8): IDLE when it passes and the mismatch count is below its limit, QUARANTINED with
STU_SELFTEST_FAIL or STU_QUARANTINE raised when it does not, IDLE with the abort recorded when R38 aborts it. -/
def execStuSelftestDone (unit : Nat) (result : TestEnd) (signature : Nat) (s : State) : Host.Outcome State Fault Refusal :=
  match tget s.stitch.tests unit with
  | none => ok s
  | some why =>
    if result = .aborted ∧ !s.mayAbort .stitch why then ok s else
    let s := s.updStitch (fun t => { t with tests := tdel t.tests unit })
    let s := if why = .rolling then s.testEnded .stitch unit else s
    if result = .aborted then
      ok ((if s.stu unit = stSelfTest then ((s.clearCtxs unit).1).stitchServe unit else s).testOver .stitch unit result signature)
    else if result ≠ .pass then
      ok ((((s.testOver .stitch unit result signature).flag (Reg.STU_ERR.SELFTEST_FAIL.nth unit) true).setStu unit stQuarantined).raise (srcStu unit 3))
    else
      let s := s.testOver .stitch unit result signature
      let count := (recentTimes s.now (s.rd (Reg.STU_QPOL.WINDOW.nth unit)) (tgetD s.stitch.mismatches unit [])).length
      if why = .suspect ∧ max 1 (s.rd (Reg.STU_QPOL.LIMIT.nth unit)) ≤ count then ok ((s.setStu unit stQuarantined).raise (srcStu unit 4))
      else ok (if why = .rolling then s.stitchServe unit else (s.stitchServe unit).backInService .stitch unit)

/-- STU_EN_WRITE: STU_CTRL.EN is written: clear, an IDLE unit goes OFFLINE and a BUSY one finishes first; set on an OFFLINE unit in SEAL,
its start-up self-test runs (R125). -/
def execStuEnWrite (unit : Nat) (en : Bool) (s : State) : Host.Outcome State Fault Refusal :=
  if 12 ≤ unit then ok s
  else
    let s := s.flag (Reg.STU_CTRL.EN.nth unit) en
    if en then
      if s.stu unit = stOffline ∧ s.sealRuns then ok (s.updStitch (fun t => { t with tests := tput t.tests unit .startup })) else ok s
    else if s.stu unit = stIdle then ok (s.setStu unit stOffline) else ok s

/-- ST_REQ: STU_CTRL.ST_REQ asks the Shepherd for a self-test; the unit falls due now, and the grant follows R37. -/
def execStReq (unit : Nat) (s : State) : Host.Outcome State Fault Refusal :=
  if 12 ≤ unit then ok s else ok (s.updShepherd (fun p => { p with due := tput p.due unit s.now }))

/-- STU_QREL: written 1 from Keeper world, a QUARANTINED unit runs self-test (Table 3-8); from Tack world nothing happens (RWK). -/
def execStuQrel (unit : Nat) (world : World) (s : State) : Host.Outcome State Fault Refusal :=
  if world = .keeper ∧ unit < 12 ∧ s.stu unit = stQuarantined then
    ok ((s.setStu unit stSelfTest).updStitch (fun t => { t with tests := tput t.tests unit .release }))
  else ok s

end Sys2Proof.Machine
end

