-- ==== Sys2Proof/Machine/KeyOps.lean ====
section
/-!
DEFINITION. Restores' ends (R94, R96), and what the clearing of key slots does to their users (R106, R282, R290, R318).
-/

namespace Sys2Proof.Machine

/-- The key of a restore: its session and its handle. -/
def restoreKey (sid handle : Nat) : Nat := sid * 1024 + handle

/-- The STREAM of a restore handle (Table 2-1). -/
def handleStream (handle : Nat) : Nat := 2 ^ 31 + handle

/-- RESTORE_END (Table 2-3). -/
def State.sendRestoreEnd (s : State) (r : Restore) (status : Nat) : State :=
  s.sendFrame r.session opRestoreEnd (handleStream r.handle) r.sent (beBytes 2 status ++ beBytes 2 0)

/-- A restore's handle, egress space and restore buffers are freed, its ranges stopped, its fetches and the wakes that only it needs dropped (R96). -/
def State.dropRestore (s : State) (h : Nat) : State :=
  match tget s.south.restores h with
  | none => s
  | some r =>
    let mine (j : FetchFor) : Bool := match j with | .restore g _ => g == h | _ => false
    let left := s.south.fetches.filter (fun f => !mine f.2.job)
    let dropped := (s.south.fetches.filter (fun f => mine f.2.job)).map (fun f => f.2.shelf)
    let s := s.updSouth (fun q => { q with restores := tdel q.restores h, fetches := left })
    let s := s.updShepherd (fun p => { p with wakes := p.wakes.filter (fun g => !(dropped.contains g) || left.any (fun f => f.2.shelf == g && !f.2.sent)) })
    let s := s.updSession r.session (fun x => { x with handles := x.handles.filter (· != r.handle) })
    let mineJob (j : Job) : Bool := match j with | .unseal g _ => g == h | _ => false
    (s.abortJobs mineJob).settleLater

/-- A restore ends (R94): RESTORE_END with its status, where it has not gone out, and everything of the restore is freed. -/
def State.endRestore (s : State) (h status : Nat) : State :=
  match tget s.south.restores h with
  | none => s
  | some r => (if r.ended then s else s.sendRestoreEnd r status).dropRestore h

/-- The last byte of a restore has gone out (R94, R95): RESTORE_END OK, and what it holds stays until the client has acknowledged it. -/
def State.finishRestore (s : State) (h : Nat) : State :=
  match tget s.south.restores h with
  | none => s
  | some r => (s.sendRestoreEnd r cOk).updSouth (fun q => { q with restores := tput q.restores h { r with ended := true } })

/-- A range's key is gone (Table 3-9): a seal's object is aborted with UNKEYED, an unseal's restore ends UNKEYED. -/
def State.jobUnkeyed (s : State) (j : Job) : State :=
  match j with
  | .seal e => match s.extent e with | some x => s.abortObject x.obj cUnkeyed | none => s
  | .unseal h _ => s.endRestore h cUnkeyed

/-- Clear key slots (R291, R318): their consumers clear theirs, their map entries go, and ranges under them end KEY_EMPTY. -/
def State.clearSlots (s : State) (p : Nat → KeySlot → Bool) : State :=
  let gone := tkeys s.keys.slots p
  let hit (j : Job) : Bool := match s.jobInfo j with | some i => gone.contains i.slot | none => false
  let jobs := ((s.stitch.ctxs.filter (fun c => hit c.2.job)).map (fun c => c.2.job)).eraseDups
  let restores := tkeys s.south.restores (fun _ r =>
    (r.exts.any (fun e => !e.ranges.isEmpty) && gone.contains r.slot) || (match s.resolveSlot (r.obj / 2 ^ 116) r.epoch with | some i => gone.contains i | none => false))
  let s := s.updKeys (fun k => { k with slots := tkeep k.slots (fun i v => !p i v), current := tkeep k.current (fun _ v => !gone.contains v.2), resident := tkeep k.resident (fun _ v => !gone.contains v.1) })
  let held := tkeys s.stitch.ctxs (fun _ c => jobs.contains c.job)
  let s := held.foldl (fun s i => (s.stuCode (i / 4) 1).dropCtx (i / 4) (i % 4)) s
  let s := gone.foldl (fun s i => s.emit (.keyBus .none) 0x05 [i]) s
  let s := jobs.foldl (fun s j => s.jobUnkeyed j) s
  restores.foldl (fun s h => s.endRestore h cUnkeyed) s

end Sys2Proof.Machine
end

