-- ==== Sys2Proof/Machine/Catalogue.lean ====
section
/-!
DEFINITION. The catalogue (R256 to R263): index blocks and segment runs as bytes, their placement, and how they are fetched and read.
-/

namespace Sys2Proof.Machine

/-- The code of an object in an index block (Table 7-9). -/
def objCode : ObjState → Nat
  | .settled => 1
  | .aborted _ _ _ => 2
  | .unrecoverable => 4
  | _ => 3

/-- The locators of an object, in extent-index order. -/
def State.objLocators (s : State) (o : Nat) : List Locator :=
  (s.south.locators.filter (fun kv => kv.1 / 2 ^ 32 == o)).map (fun kv => kv.2)

/-- An object entry with its locators (Table 7-9). -/
def State.objEntry (s : State) (o : Nat) (x : Obj) : List Byte :=
  let ls := s.objLocators o
  beBytes 16 o ++ beBytes 8 (x.length.getD 0) ++ [BitVec.ofNat 8 (objCode x.state), BitVec.ofNat 8 x.k, BitVec.ofNat 8 x.m, BitVec.ofNat 8 x.ext] ++ beBytes 4 ls.length
    ++ ls.flatMap (fun l => beBytes 8 l.epoch ++ beBytes 4 l.leaf ++ beBytes 4 0 ++ l.record)

/-- Every counter value of a group is settled, aborted or skipped (R259). -/
def State.groupComplete (s : State) (g : Nat) : Bool :=
  let (next, _) := tgetD s.queue.counters (g / 2 ^ 52) (0, 0)
  decide ((g % 2 ^ 52 + 1) * 4096 ≤ next) && s.queue.objects.all (fun kv => groupOf kv.1 != g || objCode kv.2.state != 3)

/-- Every number of a run is released or skipped (R259). -/
def State.runComplete (s : State) (r : Nat) : Bool :=
  decide ((r + 1) * 4096 ≤ s.pack.nextEpoch) && s.pack.epochs.all (fun kv => kv.1 / 4096 != r || kv.2.released)

/-- The index key (R257): the slot that RST_IDX_KEY names. -/
def State.indexKey (s : State) : Nat := s.slotValue (s.rd Reg.RST_IDX_KEY.SLOT)

/-- An index block without its MAC, and with a MAC (R257). -/
def blockBytes (g version len count partial' mac : Nat) (entries : List Byte) : List Byte :=
  beBytes 4 0x4C474942 ++ [1, BitVec.ofNat 8 partial'] ++ beBytes 2 0 ++ beBytes 8 g ++ beBytes 4 version ++ beBytes 4 count ++ beBytes 8 len ++ beBytes 32 mac ++ entries

/-- A version of the index block of a group. -/
def State.indexBlock (s : State) (g version : Nat) : List Byte :=
  let os := s.queue.objects.filter (fun kv => groupOf kv.1 == g)
  let entries := os.flatMap (fun kv => s.objEntry kv.1 kv.2)
  let part := b2n (!s.groupComplete g)
  let len := 64 + entries.length
  let mac := kmac (beBytes 32 s.indexKey) (blockBytes g version len os.length part 0 entries) (ascii "LGE9120 index block")
  blockBytes g version len os.length part mac entries

/-- A segment of a run: header, signature, leaf hashes (R258). -/
def segment (e : Epoch) : List Byte := e.signed ++ e.hashes.flatMap (beBytes 32)

/-- A version of a segment run (R258). -/
def State.segmentRun (s : State) (r version : Nat) : List Byte :=
  let es := s.pack.epochs.filter (fun kv => kv.1 / 4096 == r && kv.2.released)
  let segs := es.map (fun kv => (kv.1, segment kv.2))
  let at' (n : Nat) : Nat :=
    if segs.any (fun q => q.1 == n) then 64 + 32768 + ((segs.filter (fun q => decide (q.1 < n))).map (fun q => q.2.length)).sum else 0
  let body := (rangeFrom (r * 4096) 4096).flatMap (fun n => beBytes 8 (at' n)) ++ segs.flatMap (fun q => q.2)
  beBytes 4 0x4C475352 ++ [1, BitVec.ofNat 8 (b2n (!s.runComplete r))] ++ beBytes 2 0 ++ beBytes 8 r ++ beBytes 4 version ++ beBytes 4 0 ++ beBytes 8 (64 + body.length) ++ List.replicate 32 0 ++ body

/-- The number of catalogue copies (RST_CFG.CAT_COPIES: 0 is treated as 1). -/
def State.catCopies (s : State) : Nat := max 1 (s.rd Reg.RST_CFG.CAT_COPIES)

/-- Place the copies of the version being written (R260); it waits where no medium is eligible. -/
def State.placeCatalogue (s : State) (kind num : Nat) (c : Catalogue) : State :=
  let ds := s.placeCopies kind num c.body.length s.catCopies
  s.updSouth (fun q => { q with catalogue := tput q.catalogue (catKey kind num) { c with waiting := ds.isEmpty, targets := ds.map (fun d => (d, 0, false)) } })

/-- Write a new version of an index block or a segment run where its written version lacks something (R259, R260). -/
def State.writeCatalogue (s : State) (kind num : Nat) : State :=
  match tget s.south.catalogue (catKey kind num) with
  | none => s
  | some c =>
    if c.writing.isSome ∨ c.dirtySince.isNone then s
    else
      let v := c.version + 1
      let body := if kind = 1 then s.indexBlock num v else s.segmentRun num v
      let done := if kind = 1 then s.groupComplete num else s.runComplete num
      s.placeCatalogue kind num { c with writing := some v, body := body, gapless := done, writtenAt := s.now, dirtySince := none }

/-- CATALOGUE_WRITE: a new version of an index block (`kind` 1) or a segment run (`kind` 2) is written, on completion, after a repair, or
on the 10 s or 1 s timer (R259, R260). -/
def execCatalogueWrite (kind num : Nat) (timer : Bool) (s : State) : Host.Outcome State Fault Refusal :=
  match tget s.south.catalogue (catKey kind num) with
  | none => ok s
  | some c =>
    let s := if timer then s.advanceTo (max c.writtenAt (c.dirtySince.getD s.now) + (if kind = 1 then 10 else 1) * second) else s
    if s.safe then ok s else ok (s.writeCatalogue kind num)

/-- CATALOGUE_PLACE_RETRY: at a new MT_GEN or every 1 s a waiting version is ranked again (R260). -/
def execCataloguePlaceRetry (kind num : Nat) (s : State) : Host.Outcome State Fault Refusal :=
  match tget s.south.catalogue (catKey kind num) with
  | some c => if c.waiting ∧ !s.safe then ok (s.placeCatalogue kind num c) else ok s
  | none => ok s

/-- The order in which the copies of a version are asked: shelves in ON, then WAKING, then OFF and STOPPING (R263). -/
def State.copyOrder (s : State) (c : Catalogue) : List Nat :=
  let st (d : Nat) : PState := (s.shelf (s.media d).shelf).pstate
  c.media.filter (fun d => st d == .on) ++ c.media.filter (fun d => st d == .waking) ++ c.media.filter (fun d => st d == .off || st d == .stopping)

/-- Ask for a version's copy by CAT_GET, from the `i`th of the order on; none where no copy is left. -/
def State.fetchBlock (s : State) (key i : Nat) : Option State :=
  if s.south.fetches.any (fun kv => match kv.2.job with | .block k _ => k == key | _ => false) then some s
  else match tget s.south.catalogue key with
    | none => none
    | some c => match (s.copyOrder c)[i]? with
      | none => none
      | some d =>
        let h := (s.media d).shelf
        let body := [BitVec.ofNat 8 (key / 2 ^ 64), 0] ++ beBytes 2 d ++ beBytes 4 c.version ++ beBytes 8 (key % 2 ^ 64) ++ beBytes 8 0 ++ beBytes 8 c.length
        some ((s.request (.block key i) 0 d h 0x51 body 0 []).needShelf h)

/-- Whether an index block or a segment run needs fetching: it has a written version and stands in no cache. -/
def State.blockMissing (s : State) (key : Nat) : Bool :=
  match tget s.south.catalogue key with
  | some c => decide (0 < c.version) && !s.south.cached.contains key
  | none => false

/-- Parse locators of an object entry. -/
def parseLocators (k m : Nat) : Nat → List Byte → List Locator × List Byte
  | 0, bs => ([], bs)
  | n + 1, bs =>
    let len := 64 + 36 * (k + m)
    let (ls, rest) := parseLocators k m n (bs.drop (16 + len))
    ({ epoch := beAt bs 0 8, leaf := beAt bs 8 4, record := slice bs 16 len } :: ls, rest)

/-- The state that an object code names. -/
def codeObj : Nat → ObjState
  | 1 => .settled
  | 2 => .aborted 0 0 0
  | 4 => .unrecoverable
  | _ => .ended

/-- An object as its index entry gives it; what an entry does not hold comes from its first record. -/
def indexObj (o len code k m ext : Nat) (ls : List Locator) : Obj :=
  let r := match ls.head? with | some l => l.record | none => []
  { ns := o / 2 ^ 116, queue := 2 ^ 18, seq := 0, first := 0, declared := some len, length := some len, k := k, m := m, ext := ext, settle := recSettle r, epoch := beAt r 36 4, notarised := bitOf (beAt r 5 1) 1, state := codeObj code, stagedSent := true, answered := true, firstSettled := none, granted := ls.length, aborting := false }

/-- Take in the object entries of a block. -/
def State.takeEntries (s : State) : Nat → List Byte → State
  | 0, _ => s
  | n + 1, bs =>
    let o := beAt bs 0 16
    let (ls, rest) := parseLocators (beAt bs 25 1) (beAt bs 26 1) (beAt bs 28 4) (bs.drop 32)
    let s := s.setObject o (indexObj o (beAt bs 16 8) (beAt bs 24 1) (beAt bs 25 1) (beAt bs 26 1) (beAt bs 27 1) ls)
    let s := s.updSouth (fun q => { q with locators := ls.foldl (fun t l => tput t (recExt l.record) l) q.locators })
    State.takeEntries s n rest

/-- A block that a shelf returned is good: its layout, its number, its MAC (R257). -/
def State.blockGood (s : State) (key : Nat) (bs : List Byte) : Bool :=
  let num := key % 2 ^ 64
  beAt bs 8 8 == num && beAt bs 4 1 == 1 && (if key / 2 ^ 64 = 1 then
    beAt bs 0 4 == 0x4C474942 && beAt bs 24 8 == bs.length && beAt bs 32 32 == kmac (beBytes 32 s.indexKey) (bs.take 32 ++ List.replicate 32 0 ++ bs.drop 64) (ascii "LGE9120 index block")
    else beAt bs 0 4 == 0x4C475352 && beAt bs 24 8 == bs.length)

/-- An epoch as its segment gives it. -/
def segmentEpoch (bs : List Byte) : Epoch :=
  let h := slice bs 0 160
  let n := beAt h 40 4
  { notarised := if beAt h 5 1 = 2 then some (beAt h 128 16) else none, openTime := beAt h 24 8, closeTime := beAt h 32 8, leaves := [], hashes := (List.range n).map (fun i => beAt bs (160 + 49856 + 32 * i) 32), header := h, root := shakeDom 0x02 h, group := [], vgroup := [], spent := [], failures := 0, signature := some (beAt bs 160 49856), released := true, logged := true }

/-- Take in the segments of a run. -/
def State.takeRun (s : State) (r : Nat) (bs : List Byte) : State :=
  (rangeFrom (r * 4096) 4096).foldl (fun s n =>
    let at' := beAt bs (64 + 8 * (n % 4096)) 8
    if at' = 0 ∨ (tget s.pack.epochs n).isSome then s
    else s.updPack (fun p => { p with epochs := tput p.epochs n (segmentEpoch (bs.drop at')) })) s

/-- Take in a good block or run, which is then cached. -/
def State.takeBlock (s : State) (key : Nat) (bs : List Byte) : State :=
  let s := if key / 2 ^ 64 = 1 then s.takeEntries (beAt bs 20 4) (bs.drop 64) else s.takeRun (key % 2 ^ 64) bs
  s.updSouth (fun q => { q with cached := if key ∈ q.cached then q.cached else q.cached ++ [key] })

end Sys2Proof.Machine
end

