-- ==== Sys2Proof/Machine/CollarBase.lean ====
section
/-!
DEFINITION. Collar memory (R519 to R522): its rings and their append protocol, the two copies of the security block, the bytes that a READ
returns, and the notes that other units write (R516).
-/

namespace Sys2Proof.Machine


/-- The main domain is powered and out of reset. -/
def State.mainOn (s : State) : Bool := s.chip.powerOk && !s.chip.held

/-- Raise a fault source where the main domain is powered. -/
def State.raiseMain (s : State) (src detail : Nat) : State := if s.mainOn then s.raise src detail else s

/-- The slot and record of a ring's highest valid CSEQ (R521). -/
def CollarRing.newest (r : CollarRing) : Option (Nat × CollarRec) :=
  r.recs.foldl (fun best kv => match best with
    | none => some kv
    | some b => if b.2.cseq < kv.2.cseq then some kv else some b) none

/-- The head slot, and the CSEQ of the next record (R521); a ring with no valid record starts at slot 0 and CSEQ 0 (assumption 26). -/
def CollarRing.head (r : CollarRing) : Nat := match r.newest with | some (i, _) => (i + 1) % r.slots | none => 0
def CollarRing.nextSeq (r : CollarRing) : Nat := match r.newest with | some (_, x) => x.cseq + 1 | none => 0

/-- Append a record (R521): `bad` readbacks fail; at two the slot stays invalid and the record goes to the next slot. -/
def CollarRing.append (r : CollarRing) (x : CollarRec) (bad : Nat) : CollarRing :=
  let h := r.head
  if bad < 2 then { r with recs := tput r.recs h x } else { r with recs := tput (tdel r.recs h) ((h + 1) % r.slots) x }

/-- TIME of a Collar record (Table 16-7). -/
def State.collarTime (s : State) : Nat :=
  if s.isSet Reg.KNL_STATUS.RTC_VALID && !s.kennel.dead then s.rtc / second % 2 ^ 32 else 0xFFFFFFFF

/-- Append a record to the custody ring, or to the sensor ring; the second failed readback raises COL_MEM_ERR (R521). -/
def State.collarAppend (s : State) (sensor : Bool) (typ : Nat) (body : List Byte) (bad : Nat := 0) : State :=
  let ring := if sensor then s.collar.sensor else s.collar.custody
  let x : CollarRec := { cseq := ring.nextSeq, typ := typ, body := padTo 16 body, time := s.collarTime }
  let ring' := ring.append x bad
  let s := s.updCollar (fun c => if sensor then { c with sensor := ring' } else { c with custody := ring' })
  if 2 ≤ bad then s.raiseMain srcColMemErr ring.head else s

/-- Record types of Table 16-7. -/
def crKennel : Nat := 1
def crSensor : Nat := 2
def crFieldNote : Nat := 3
def crCoreNote : Nat := 4
def crPwBlocked : Nat := 5
def crPwChanged : Nat := 6

/-- Write a CORE_NOTE of a code into the custody log (R516); while a field session is open it waits for the session's end (R527). -/
def State.coreNote (s : State) (code : Nat) (data : List Byte) : State :=
  if s.collar.session.isSome then s.updCollar (fun c => { c with notes := c.notes ++ [(code, data)] })
  else s.collarAppend false crCoreNote (leBytes 2 code ++ data)

/-- The governing copy of the security block (R520): the valid one with the higher GEN. -/
def State.security (s : State) : SecBlock :=
  match s.collar.copyA, s.collar.copyB with
  | some a, some b => if a.gen < b.gen then b else a
  | some a, none => a
  | none, some b => b
  | none, none => factorySec

/-- Write a changed security block to the other copy with GEN one higher (R520). -/
def State.putSecurity (s : State) (b : SecBlock) : State :=
  let old := s.security
  let aGoverns := s.collar.copyA == some old
  s.updCollar (fun c => if aGoverns then { c with copyB := some { b with gen := old.gen + 1 } } else { c with copyA := some { b with gen := old.gen + 1 } })

/-- The key ID of the identity key (Table 6-9). -/
def identityKeyId : List Byte := (beBytes 32 (shakeDom 0x04 Config.identityPublic)).take 16

/-- The identity block (Table 16-5). -/
def identityBlock : List Byte :=
  padTo 256 (leBytes 4 0x4C47434C ++ leBytes 1 1 ++ leBytes 3 0 ++ leBytes 2 512 ++ leBytes 2 1504 ++ leBytes 4 0 ++ leBytes 8 Config.deviceInstance.toNat ++ identityKeyId)

/-- The bytes of a security copy, its passwords as given (Table 16-6). -/
def SecBlock.bytes (b : SecBlock) (hide : Bool) : List Byte :=
  let head := leBytes 4 b.gen ++ leBytes 1 b.policy ++ leBytes 1 b.set ++ b.tries.flatMap (leBytes 1) ++ leBytes 3 0
  let tail := List.replicate 24 (0 : Byte)
  let crc := crc32c (padTo 60 (head ++ b.pw.flatten ++ tail))
  padTo 60 (head ++ (if hide then List.replicate 24 0 else b.pw.flatten) ++ tail) ++ leBytes 4 crc

/-- The bytes of a record (Table 16-7). -/
def CollarRec.bytes (r : CollarRec) : List Byte :=
  let b := leBytes 4 r.cseq ++ leBytes 1 r.typ ++ leBytes 3 0 ++ padTo 16 r.body ++ leBytes 4 r.time
  b ++ leBytes 4 (crc32c b)

/-- The bytes of a slot; an invalid one shows the marker of R521 and zeros (assumption 26). -/
def CollarRing.slotBytes (r : CollarRing) (i : Nat) : List Byte :=
  match tget r.recs i with
  | some x => x.bytes
  | none => leBytes 4 0xFFFFFFFF ++ List.replicate 28 0

/-- Byte `a` of Collar memory as the core reads it (Table 16-4). -/
def State.collarByte (s : State) (a : Nat) : Byte :=
  if a < 0x100 then identityBlock.getD a 0
  else if a < 0x200 then
    let copy := if a < 0x140 then s.collar.copyA else if a < 0x180 then s.collar.copyB else none
    match copy with | some b => (b.bytes true).getD (a % 0x40) 0 | none => 0
  else if a < 0x400 then 0
  else if a < 0x4400 then (s.collar.custody.slotBytes ((a - 0x400) / 32)).getD (a % 32) 0
  else (s.collar.sensor.slotBytes ((a - 0x4400) / 32)).getD (a % 32) 0

/-- Bytes of Collar memory. -/
def State.collarBytes (s : State) (a n : Nat) : List Byte := (rangeFrom a n).map s.collarByte

end Sys2Proof.Machine
end

