-- ==== Sys2Proof/Machine/Curves.lean ====
section
/-!
DEFINITION. The arithmetic of the Awl units (R326): modular operations, P-256 and P-384 (SP 800-186), Curve25519 and edwards25519 (RFC 7748, RFC
8032), and the number-theoretic transforms of FIPS 203 and FIPS 204.
-/

namespace Sys2Proof.Machine

/-- b^e mod p by squaring; `fuel` bounds the bits of e. -/
def powFuel (p b : Nat) : Nat → Nat → Nat
  | 0, _ => 1 % p
  | fuel + 1, e =>
    if e = 0 then 1 % p
    else
      let h := powFuel p b fuel (e / 2)
      if e % 2 = 1 then h * h % p * b % p else h * h % p

/-- b^e mod p. -/
def powMod (p b e : Nat) : Nat := powFuel p b (e.log2 + 1) e

/-- The steps of Euclid's algorithm on (r0, r1) with the cofactors of a (t0, t1). -/
def euclid : Nat → Int → Int → Int → Int → Int × Int
  | 0, r0, _, t0, _ => (r0, t0)
  | fuel + 1, r0, r1, t0, t1 => if r1 = 0 then (r0, t0) else euclid fuel r1 (r0 % r1) t1 (t0 - r0 / r1 * t1)

/-- a^−1 mod p, none where a and p share a factor. -/
def invMod (p a : Nat) : Option Nat :=
  let r := euclid (2 * (p.log2 + 2)) p (a % p : Nat) 0 1
  if r.1 = 1 then some (r.2 % (p : Int)).toNat else none

/-- Subtraction mod p of values below p. -/
def subMod (p a b : Nat) : Nat := (a + p - b % p) % p

/-- A prime curve in short Weierstrass form with a = −3: prime, b, order, base point, bytes of a coordinate. -/
structure Curve where
  p : Nat
  b : Nat
  n : Nat
  gx : Nat
  gy : Nat
  size : Nat
  deriving DecidableEq, Repr

/-- P-256 of SP 800-186. -/
def p256 : Curve where
  p := 2 ^ 256 - 2 ^ 224 + 2 ^ 192 + 2 ^ 96 - 1
  b := 0x5AC635D8AA3A93E7B3EBBD55769886BC651D06B0CC53B0F63BCE3C3E27D2604B
  n := 0xFFFFFFFF00000000FFFFFFFFFFFFFFFFBCE6FAADA7179E84F3B9CAC2FC632551
  gx := 0x6B17D1F2E12C4247F8BCE6E563A440F277037D812DEB33A0F4A13945D898C296
  gy := 0x4FE342E2FE1A7F9B8EE7EB4A7C0F9E162BCE33576B315ECECBB6406837BF51F5
  size := 32

/-- P-384 of SP 800-186. -/
def p384 : Curve where
  p := 2 ^ 384 - 2 ^ 128 - 2 ^ 96 + 2 ^ 32 - 1
  b := 0xB3312FA7E23EE7E4988E056BE3F82D19181D9C6EFE8141120314088F5013875AC656398D8A2ED19D2A85C8EDD3EC2AEF
  n := 0xFFFFFFFFFFFFFFFFFFFFFFFFFFFFFFFFFFFFFFFFFFFFFFFFC7634D81F4372DDF581A0DB248B0A77AECEC196ACCC52973
  gx := 0xAA87CA22BE8B05378EB1C71EF320AD746E1D3B628BA79B9859F741E082542A385502F25DBF55296C3A545E3872760AB7
  gy := 0x3617DE4A96262C6F5D9E98BF9292DC29F8F41DBD289A147CE9DA3113B5F0B8C00A60B1CE1D7E819D7A431D7C90EA0E5F
  size := 48

/-- The curve of a PARAM code (Table 9-2). -/
def curveOf (param : Nat) : Curve := if param = 2 then p384 else p256

/-- A point: none is the identity. -/
abbrev Point := Option (Nat × Nat)

/-- A point lies on the curve. -/
def Curve.on (c : Curve) (x y : Nat) : Bool := y * y % c.p == (x * x % c.p * x + 3 * (c.p - x % c.p) + c.b) % c.p

/-- The sum of two points. -/
def Curve.add (c : Curve) (u v : Point) : Point :=
  match u, v with
  | none, q => q
  | q, none => q
  | some (x1, y1), some (x2, y2) =>
    if x1 = x2 ∧ (y1 + y2) % c.p = 0 then none
    else
      let num := if x1 = x2 then 3 * (x1 * x1 % c.p + c.p - 1) else y2 + c.p - y1
      let den := if x1 = x2 then 2 * y1 else x2 + c.p - x1
      let l := num * powMod c.p (den % c.p) (c.p - 2) % c.p
      let x3 := (l * l + 2 * c.p - x1 - x2) % c.p
      some (x3, subMod c.p (l * (x1 + c.p - x3) % c.p) y1)

/-- Scalar multiplication by doubling and adding; `fuel` bounds the bits of d. -/
def Curve.mulFuel (c : Curve) (q : Point) : Nat → Nat → Point
  | 0, _ => none
  | fuel + 1, d =>
    let h := Curve.mulFuel c q fuel (d / 2)
    let h := c.add h h
    if d % 2 = 1 then c.add h q else h

/-- d·Q. -/
def Curve.mul (c : Curve) (d : Nat) (q : Point) : Point := c.mulFuel q (d.log2 + 1) d

/-- The base point. -/
def Curve.base (c : Curve) : Point := some (c.gx, c.gy)

/-- A point in SEC1 uncompressed form; the identity as zeros. -/
def Curve.bytes (c : Curve) : Point → List Byte
  | some (x, y) => beBytes 1 4 ++ beBytes c.size x ++ beBytes c.size y
  | none => List.replicate (2 * c.size + 1) 0

/-- The signature (r, s) of a hash under d with nonce k (FIPS 186-5). -/
def Curve.sign (c : Curve) (d k z : Nat) : Nat × Nat :=
  let r := match c.mul k c.base with | some (x, _) => x % c.n | none => 0
  (r, powMod c.n k (c.n - 2) * ((z + r * d) % c.n) % c.n)

/-- The check of a signature (FIPS 186-5). -/
def Curve.verify (c : Curve) (q : Point) (z r s : Nat) : Bool :=
  let w := powMod c.n s (c.n - 2)
  match c.add (c.mul (z * w % c.n) c.base) (c.mul (r * w % c.n) q) with
  | some (x, _) => x % c.n == r
  | none => false

/-- The prime 2^255 − 19. -/
def p25519 : Nat := 2 ^ 255 - 19

/-- The order of the base point of edwards25519. -/
def l25519 : Nat := 2 ^ 252 + 27742317777372353535851937790883648493

/-- x is a square mod 2^255 − 19. -/
def isSquare25519 (x : Nat) : Bool := let e := powMod p25519 (x % p25519) ((p25519 - 1) / 2); e == 1 || e == 0

/-- u lies on Curve25519, not on its twist. -/
def onCurve25519 (u : Nat) : Bool := isSquare25519 (u * u % p25519 * u + 486662 * u * u + u)

/-- One ladder step of RFC 7748. -/
def ladderStep (x1 : Nat) (st : Nat × Nat × Nat × Nat) : Nat × Nat × Nat × Nat :=
  let p := p25519
  let (x2, z2, x3, z3) := st
  let a := (x2 + z2) % p
  let aa := a * a % p
  let b := (x2 + p - z2) % p
  let bb := b * b % p
  let e := (aa + p - bb) % p
  let c := (x3 + z3) % p
  let d := (x3 + p - z3) % p
  let da := d * a % p
  let cb := c * b % p
  let s := da + cb
  let t := (da + p - cb) % p
  (aa * bb % p, e * ((aa + 121665 * e) % p) % p, s * s % p, x1 * (t * t % p) % p)

/-- The ladder over bits 254 to 0 of the scalar. -/
def ladder (k x1 : Nat) : Nat → Nat × Nat × Nat × Nat → Nat × Nat × Nat × Nat
  | 0, st => st
  | i + 1, st =>
    let (x2, z2, x3, z3) := st
    let next := if bitOf k i then
        let (a, b, c, d) := ladderStep x1 (x3, z3, x2, z2)
        (c, d, a, b)
      else ladderStep x1 (x2, z2, x3, z3)
    ladder k x1 i next

/-- An X25519 private key clamped (RFC 7748). -/
def clamp25519 (k : Nat) : Nat := k % 2 ^ 254 / 8 * 8 + 2 ^ 254

/-- X25519 of RFC 7748: scalar and u-coordinate as integers. -/
def x25519 (k u : Nat) : Nat :=
  let x1 := u % 2 ^ 255 % p25519
  let (x2, z2, _, _) := ladder (clamp25519 k) x1 255 (1, 0, x1, 1)
  x2 * powMod p25519 z2 (p25519 - 2) % p25519

/-- d of edwards25519: −121665 / 121666. -/
def d25519 : Nat := (p25519 - 121665) * powMod p25519 121666 (p25519 - 2) % p25519

/-- The sum of two points of edwards25519. -/
def edAdd (u v : Nat × Nat) : Nat × Nat :=
  let p := p25519
  let m := d25519 * (u.1 * v.1 % p) % p * (u.2 * v.2 % p) % p
  ((u.1 * v.2 + v.1 * u.2) % p * powMod p (1 + m) (p - 2) % p, (u.2 * v.2 + u.1 * v.1) % p * powMod p (1 + p - m) (p - 2) % p)

/-- Scalar multiplication on edwards25519; `fuel` bounds the bits of k. -/
def edMulFuel (q : Nat × Nat) : Nat → Nat → Nat × Nat
  | 0, _ => (0, 1)
  | fuel + 1, k =>
    let h := edMulFuel q fuel (k / 2)
    let h := edAdd h h
    if k % 2 = 1 then edAdd h q else h
def edMul (k : Nat) (q : Nat × Nat) : Nat × Nat := edMulFuel q (k.log2 + 1) k

/-- A square root mod 2^255 − 19 (RFC 8032), where there is one. -/
def sqrt25519 (a : Nat) : Option Nat :=
  let p := p25519
  let x := powMod p a ((p + 3) / 8)
  if x * x % p = a then some x
  else
    let y := x * powMod p 2 ((p - 1) / 4) % p
    if y * y % p = a then some y else none

/-- How a point of Ed25519 decodes (RFC 8032): not canonical, off the curve, or a point. -/
inductive EdPoint where
  | encoding | offCurve | point (x y : Nat)
  deriving DecidableEq, Repr

def edDecode (bs : List Byte) : EdPoint :=
  let v := ofLe (bs.take 32)
  let y := v % 2 ^ 255
  if p25519 ≤ y then .encoding
  else
    let p := p25519
    let num := (y * y + p - 1) % p
    let den := (d25519 * (y * y % p) + 1) % p
    match sqrt25519 (num * powMod p den (p - 2) % p) with
    | none => .offCurve
    | some x =>
      if x = 0 ∧ 2 ^ 255 ≤ v then .encoding
      else .point (if x % 2 = v / 2 ^ 255 % 2 then x else (p - x) % p) y

/-- The base point of edwards25519: y = 4/5, x even. -/
def edBase : Nat × Nat :=
  (15112221349535400772501151409588531511454012693041857206046113283949847762202, 46316835694926478169428394003475163141307993866256225615783033603165251855960)

/-- The eightfold of a point of edwards25519. -/
def edEight (q : Nat × Nat) : Nat × Nat := edMul 8 q

/-- The cofactored equation of Ed25519 for the key and R as encoded, S, the message, and the points decoded (RFC 8032). -/
def edEquation (key r : List Byte) (s : Nat) (msg : List Byte) (a b : Nat × Nat) : Bool :=
  let k := ofLe (beBytes 64 (Config.sha2 512 (r ++ key ++ msg))) % l25519
  edEight (edMul s edBase) == edAdd (edEight b) (edEight (edMul k a))

/-- The bits of `i` reversed over `n` bits. -/
def bitRev : Nat → Nat → Nat
  | 0, _ => 0
  | n + 1, i => (i % 2) * 2 ^ n + bitRev n (i / 2)

/-- The modulus, root of unity and number of blocks of an NTT ring (Table 9-2): 0x07 as in ML-KEM, 0x08 as in ML-DSA. -/
def ringQ (param : Nat) : Nat := if param = 7 then 3329 else 8380417
def ringZeta (param : Nat) : Nat := if param = 7 then 17 else 1753
def ringLayers (param : Nat) : Nat := if param = 7 then 7 else 8

/-- The root of block `i`: ζ^(2·BitRev(i) + 1). -/
def ringRoot (param i : Nat) : Nat := powMod (ringQ param) (ringZeta param) (2 * bitRev (ringLayers param) i + 1)

/-- Evaluate the polynomial of every `step`th coefficient from `from'` at a root. -/
def evalAt (q root : Nat) (cs : List Nat) : Nat := cs.foldr (fun c acc => (c + root * acc) % q) 0

/-- The coefficients of one residue class of the index. -/
def everyNth (step from' : Nat) (f : List Nat) : List Nat := (List.range (256 / step)).map (fun j => f.getD (step * j + from') 0)

/-- Coefficients per block: 2 in ML-KEM's ring, 1 in ML-DSA's. -/
def ringStep (param : Nat) : Nat := if param = 7 then 2 else 1

/-- NTT(f): block i holds f mod (X^step − root i). -/
def nttOf (param : Nat) (f : List Nat) : List Nat :=
  let st := ringStep param
  (List.range 256).map (fun k => evalAt (ringQ param) (ringRoot param (k / st)) (everyNth st (k % st) f))

/-- The inverse transform. -/
def inttOf (param : Nat) (f : List Nat) : List Nat :=
  let q := ringQ param
  let st := ringStep param
  let blocks := 256 / st
  let scale := powMod q blocks (q - 2)
  (List.range 256).map (fun k =>
    scale * ((List.range blocks).map (fun i => f.getD (st * i + k % st) 0 * powMod q (powMod q (ringRoot param i) (q - 2)) (k / st) % q)).sum % q)

/-- ĉ + â∘b̂. -/
def polyMac (param : Nat) (a b c : List Nat) : List Nat :=
  let q := ringQ param
  (List.range 256).map (fun k =>
    let at' (f : List Nat) (i : Nat) : Nat := f.getD i 0
    if param = 7 then
      let e := k / 2 * 2
      if k % 2 = 0 then (at' c k + at' a e * at' b e + at' a (e + 1) * at' b (e + 1) % q * ringRoot param (k / 2)) % q
      else (at' c k + at' a e * at' b (e + 1) + at' a (e + 1) * at' b e) % q
    else (at' c k + at' a k * at' b k) % q)

end Sys2Proof.Machine
end

