-- ==== Sys2Proof/Machine/Certificate.lean ====
section
/-!
DEFINITION. Certificates and the AUTH message (R56, R301, R634, R640): X.509 in DER, the algorithms that may sign, the chain up to its trust
anchor, and the signature of AUTH. The object identifiers are those registered for the algorithms (PRESUMED, log entry 124).
-/

namespace Sys2Proof.Machine

/-- An element of DER: its tag, its content, and all of its bytes. -/
structure Tlv where
  tag : Nat
  body : List Byte
  whole : List Byte
  deriving DecidableEq, Repr

/-- The length octets of DER: the length, and what follows them. -/
def derLength : List Byte → Option (Nat × List Byte)
  | [] => none
  | b :: bs =>
    let n := b.toNat % 128
    if b.toNat < 128 then some (b.toNat, bs)
    else if n = 0 ∨ 4 < n ∨ bs.length < n ∨ ofBe (bs.take n) < 128 then none
    else some (ofBe (bs.take n), bs.drop n)

/-- The element at the head of the bytes, and what follows it. -/
def derHead : List Byte → Option (Tlv × List Byte)
  | [] => none
  | t :: bs => match derLength bs with
    | none => none
    | some (n, rest) =>
      if rest.length < n then none
      else some ({ tag := t.toNat, body := rest.take n, whole := t :: bs.take (bs.length - rest.length + n) }, rest.drop n)

/-- The elements that fill the bytes. -/
def derList : Nat → List Byte → Option (List Tlv)
  | _, [] => some []
  | 0, _ => none
  | fuel + 1, bs => (derHead bs).bind (fun (t, rest) => (derList fuel rest).map (t :: ·))

/-- The elements of a constructed element of a tag. -/
def Tlv.parts (t : Tlv) (tag : Nat) : Option (List Tlv) := if t.tag = tag then derList t.body.length t.body else none

/-- The kinds of key and signature of R56 and R640; an SLH-DSA-SHAKE one by its code of Table 6-7. -/
inductive KeyKind where
  | p256 | p384 | ed25519 | mldsa65 | mldsa87
  | slh (param : Nat)
  deriving DecidableEq, Repr

/-- SIG_KIND (Table 2-12); 0 for a kind that signs no AUTH. -/
def KeyKind.code : KeyKind → Nat
  | .p256 => 1
  | .p384 => 2
  | .ed25519 => 3
  | .mldsa65 => 4
  | .mldsa87 => 5
  | .slh _ => 0

/-- A public key. -/
structure PublicKey where
  kind : KeyKind
  bytes : List Byte
  deriving DecidableEq, Repr

/-- The arc 2.16.840.1.101.3.4.3 of the algorithms of FIPS 204 and FIPS 205. -/
def nistArc : List Byte := [0x60, 0x86, 0x48, 0x01, 0x65, 0x03, 0x04, 0x03]

/-- The kind that a last arc of it names: 18 and 19 ML-DSA-65 and -87, 26 to 31 SLH-DSA-SHAKE. -/
def nistKind (n : Nat) : Option KeyKind :=
  if n = 18 then some .mldsa65 else if n = 19 then some .mldsa87 else if 26 ≤ n ∧ n ≤ 31 then some (.slh (n - 25)) else none

/-- The kind of an algorithm identifier of a public key. -/
def keyAlgorithm (parts : List Tlv) : Option KeyKind :=
  match parts with
  | [o] =>
    if o.tag ≠ 6 then none
    else if o.body = [0x2B, 0x65, 0x70] then some .ed25519
    else if o.body.take 8 = nistArc ∧ o.body.length = 9 then nistKind (beAt o.body 8 1)
    else none
  | [o, p] =>
    if o.tag ≠ 6 ∨ p.tag ≠ 6 ∨ o.body ≠ [0x2A, 0x86, 0x48, 0xCE, 0x3D, 0x02, 0x01] then none
    else if p.body = [0x2A, 0x86, 0x48, 0xCE, 0x3D, 0x03, 0x01, 0x07] then some .p256
    else if p.body = [0x2B, 0x81, 0x04, 0x00, 0x22] then some .p384
    else none
  | _ => none

/-- The kind of key that an algorithm identifier of a signature asks for. -/
def signatureAlgorithm (parts : List Tlv) : Option KeyKind :=
  match parts with
  | [o] =>
    if o.body = [0x2A, 0x86, 0x48, 0xCE, 0x3D, 0x04, 0x03, 0x02] then some .p256
    else if o.body = [0x2A, 0x86, 0x48, 0xCE, 0x3D, 0x04, 0x03, 0x03] then some .p384
    else keyAlgorithm [o]
  | _ => none

/-- Days from 1970-01-01 to a date of the Gregorian calendar, from year 1970 on. -/
def daysFrom (y m d : Nat) : Nat :=
  let y' := if m ≤ 2 then y - 1 else y
  let shifted := (m + 9) % 12
  365 * y' + y' / 4 - y' / 100 + y' / 400 + (153 * shifted + 2) / 5 + d - 719469

/-- Two decimal digits. -/
def twoDigits (bs : List Byte) (i : Nat) : Nat := 10 * (beAt bs i 1 - 48) + (beAt bs (i + 1) 1 - 48)

/-- A UTCTime or GeneralizedTime as TIME64 (R3: nanoseconds since 1970). -/
def derTime (t : Tlv) : Option Nat :=
  let at' (year : Nat) (bs : List Byte) : Nat :=
    ((daysFrom year (twoDigits bs 0) (twoDigits bs 2) * 24 + twoDigits bs 4) * 60 + twoDigits bs 6) * 60 + twoDigits bs 8
  if t.tag = 0x17 ∧ t.body.length = 13 then
    let yy := twoDigits t.body 0
    some (at' (if 50 ≤ yy then 1900 + yy else 2000 + yy) (t.body.drop 2) * 1000000000)
  else if t.tag = 0x18 ∧ t.body.length = 15 then
    some (at' (100 * twoDigits t.body 0 + twoDigits t.body 2) (t.body.drop 4) * 1000000000)
  else none

/-- A certificate: the bytes signed, the kind and bytes of its signature, its names, its validity as TIME64, its key, and its
subjectKeyIdentifier. -/
structure Cert where
  whole : List Byte
  tbs : List Byte
  sigKind : KeyKind
  sig : List Byte
  issuer : List Byte
  subject : List Byte
  notBefore : Nat
  notAfter : Nat
  key : PublicKey
  ski : Option (List Byte)
  deriving DecidableEq, Repr

/-- The bits of a BIT STRING of whole bytes. -/
def bitString (t : Tlv) : Option (List Byte) :=
  match t.body with
  | z :: bs => if t.tag = 3 ∧ z = 0 then some bs else none
  | [] => none

/-- The subjectKeyIdentifier (2.5.29.14) among the extensions. -/
def findSki (exts : List Tlv) : Option (List Byte) :=
  exts.findSome? (fun x => match x.parts 0x30 with
    | some (o :: more) => if o.tag = 6 ∧ o.body = [0x55, 0x1D, 0x0E] then
        (more.getLast?.bind (fun v => if v.tag = 4 then derHead v.body else none)).bind (fun k => if k.1.tag = 4 then some k.1.body else none)
      else none
    | _ => none)

/-- A SubjectPublicKeyInfo. -/
def publicKey (t : Tlv) : Option PublicKey :=
  match t.parts 0x30 with
  | some [alg, bits] => match (alg.parts 0x30).bind keyAlgorithm, bitString bits with
    | some k, some b => some { kind := k, bytes := b }
    | _, _ => none
  | _ => none

/-- The fields of a TBSCertificate after its optional version. -/
def tbsFields (parts : List Tlv) : List Tlv :=
  match parts with
  | v :: rest => if v.tag = 0xA0 then rest else parts
  | [] => []

/-- A certificate from its DER (RFC 5280). -/
def parseCert (bs : List Byte) : Option Cert :=
  match (derHead bs).bind (fun h => if h.2.isEmpty then h.1.parts 0x30 else none) with
  | some [tbs, alg, sig] => match (tbs.parts 0x30).map tbsFields, (alg.parts 0x30).bind signatureAlgorithm, bitString sig with
    | some (_ :: _ :: issuer :: validity :: subject :: spki :: more), some kind, some sg =>
      match (validity.parts 0x30).map (fun ts => ts.map derTime), publicKey spki with
      | some [some nb, some na], some key =>
        let exts := ((more.find? (fun t => t.tag == 0xA3)).bind (fun t => derHead t.body)).bind (fun h => h.1.parts 0x30)
        some { whole := bs, tbs := tbs.whole, sigKind := kind, sig := sg, issuer := issuer.whole, subject := subject.whole, notBefore := nb, notAfter := na, key := key, ski := exts.bind findSki }
      | _, _ => none
    | _, _, _ => none
  | _ => none

/-- The key ID of a certificate: the first 16 bytes of its subjectKeyIdentifier (R305; DEDUCED for clients and shelves, log entry 124). -/
def Cert.keyId (c : Cert) : Option Nat := c.ski.bind (fun k => if 16 ≤ k.length then some (ofBe (k.take 16)) else none)

/-- An ECDSA signature holds over a message: P-256 with SHA-256, P-384 with SHA-384 (R634). -/
def ecdsaGood (c : Curve) (key msg : List Byte) (r t : Nat) : Bool :=
  let x := beAt key 1 c.size
  let y := beAt key (1 + c.size) c.size
  key.length == 2 * c.size + 1 && beAt key 0 1 == 4 && decide (x < c.p ∧ y < c.p) && c.on x y && decide (0 < r ∧ r < c.n ∧ 0 < t ∧ t < c.n)
    && c.verify (some (x, y)) (Config.sha2 (8 * c.size) msg) r t

/-- An Ed25519 signature R ‖ S holds over a message (RFC 8032, with the checks of Table 9-5). -/
def edGood (key msg sig : List Byte) : Bool :=
  match edDecode key, edDecode (sig.take 32) with
  | .point ax ay, .point rx ry =>
    key.length == 32 && sig.length == 64 && decide (leField sig 32 32 < l25519) && edEight (ax, ay) != (0, 1)
      && edEquation (key.take 32) (sig.take 32) (leField sig 32 32) msg (ax, ay) (rx, ry)
  | _, _ => false

/-- Bytes of an SLH-DSA-SHAKE public key and signature (Table 6-7). -/
def slhSizes (param : Nat) : Nat × Nat :=
  ((if param ≤ 2 then 32 else if param ≤ 4 then 48 else 64), [0, 7856, 17088, 16224, 35664, 29792, 49856].getD param 0)

/-- A signature in the encoding of R634 holds over a message under a key. -/
def PublicKey.verifies (k : PublicKey) (msg sig : List Byte) : Bool :=
  match k.kind with
  | .p256 => sig.length == 64 && ecdsaGood p256 k.bytes msg (beAt sig 0 32) (beAt sig 32 32)
  | .p384 => sig.length == 96 && ecdsaGood p384 k.bytes msg (beAt sig 0 48) (beAt sig 48 48)
  | .ed25519 => edGood k.bytes msg sig
  | .mldsa65 => k.bytes.length == 1952 && sig.length == 3309 && Config.mldsaVerify 65 k.bytes [] msg sig
  | .mldsa87 => k.bytes.length == 2592 && sig.length == 4627 && Config.mldsaVerify 87 k.bytes [] msg sig
  | .slh p => k.bytes.length == (slhSizes p).1 && sig.length == (slhSizes p).2 && Config.slhVerify p k.bytes [] msg (ofBe sig)

/-- An ECDSA signature of a certificate, whose r and s are two DER integers, as r ‖ s. -/
def plainSig (kind : KeyKind) (sig : List Byte) : List Byte :=
  let both (n : Nat) : List Byte := match (derHead sig).bind (fun h => h.1.parts 0x30) with
    | some [r, t] => beBytes n (ofBe r.body) ++ beBytes n (ofBe t.body)
    | _ => []
  match kind with
  | .p256 => both 32
  | .p384 => both 48
  | _ => sig

/-- A certificate's signature holds under its issuer's key, in that issuer's algorithm (R640). -/
def Cert.signedBy (c : Cert) (k : PublicKey) : Bool := c.sigKind == k.kind && k.verifies c.tbs (plainSig c.sigKind c.sig)

/-- The public key of an anchor. -/
def Anchor.publicKey : Anchor → Option PublicKey
  | .cert der => (parseCert der).map Cert.key
  | .key spki => (derHead spki).bind (fun h => Machine.publicKey h.1)

/-- A chain's last certificate ends at an anchor: its signature holds under the anchor's key (a self-signed anchor verifies like any other issuer),
or it is the anchor itself, of another issuer. -/
def endsAt (anchors : List Anchor) (last : Cert) : Bool :=
  anchors.any (fun a => (match a.publicKey with | some k => last.signedBy k | none => false) || (a == .cert last.whole && last.issuer != last.subject))

/-- Each certificate's signature holds under the key of the one that follows it, and the last ends at an anchor. -/
def chainSigned (anchors : List Anchor) : List Cert → Bool
  | [] => false
  | [c] => endsAt anchors c
  | c :: d :: rest => c.signedBy d.key && chainSigned anchors (d :: rest)

/-- Each certificate but the last verifies under the key of the one that follows it. -/
def linksSigned : List Cert → Bool
  | c :: d :: rest => c.signedBy d.key && linksSigned (d :: rest)
  | _ => true

/-- TIME lies in the validity of every certificate verified, where RTC_VALID is 1 (R640). -/
def State.inValidity (s : State) (cs : List Cert) : Bool :=
  !s.isSet Reg.KNL_STATUS.RTC_VALID || cs.all (fun c => decide (c.notBefore ≤ s.time64 ∧ s.time64 ≤ c.notAfter))

/-- A chain up to one of the anchors is good (R640). -/
def State.chainGood (s : State) (anchors : List Anchor) (cs : List Cert) : Bool := chainSigned anchors cs && s.inValidity cs

/-- An AUTH message (Table 2-12): SIG_KIND, the certificates from the leaf up, the signature. -/
structure AuthMsg where
  kind : Nat
  certs : List (List Byte)
  sig : List Byte
  deriving DecidableEq, Repr

/-- Walk the certificates of an AUTH payload: `n` of them, and the bytes after them. -/
def takeCerts : Nat → List Byte → Option (List (List Byte) × List Byte)
  | 0, bs => some ([], bs)
  | n + 1, bs =>
    let len := beAt bs 0 4
    if bs.length < 4 + len then none else (takeCerts n (bs.drop (4 + len))).map (fun r => ((bs.drop 4).take len :: r.1, r.2))

/-- An AUTH payload by its layout (R634): CERTS from 1 to 8, a known SIG_KIND, the reserved bytes 0, lengths that agree. -/
def parseAuth (bs : List Byte) : Option AuthMsg :=
  let n := beAt bs 0 1
  let kind := beAt bs 1 1
  if bs.length < 8 ∨ n = 0 ∨ 8 < n ∨ kind = 0 ∨ 5 < kind ∨ beAt bs 2 2 ≠ 0 then none
  else match takeCerts n (bs.drop 8) with
    | some (cs, sig) => if sig.length = beAt bs 4 4 then some { kind := kind, certs := cs, sig := sig } else none
    | none => none

/-- The certificates of an AUTH whose leaf key is of SIG_KIND and whose signature holds over the string and TH (R56, R634, R640). -/
def AuthMsg.signed (m : AuthMsg) (name : String) (th : List Byte) : Option (List Cert) :=
  match m.certs.map parseCert with
  | some leaf :: rest => if leaf.key.kind.code = m.kind ∧ leaf.key.verifies (ascii name ++ th) m.sig then some (leaf :: rest.filterMap id) else none
  | _ => none

/-- Every certificate of an AUTH parses. -/
def AuthMsg.whole (m : AuthMsg) : Bool := m.certs.all (fun c => (parseCert c).isSome)

end Sys2Proof.Machine
end

