-- ==== Sys2Proof/Machine/Handshake.lean ====
section
/-!
DEFINITION. The handshake that Seal Transport, Fragment Transport and Smilia share (R54 to R57, R634): ephemeral keys, the derived key
material, the AUTH payload's layout, and the device's own AUTH.
-/

namespace Sys2Proof.Machine

/-- The base point of X25519. -/
def x25519Base : Nat := 9

/-- The device's half of a handshake: its random, its X25519 public key, the ML-KEM ciphertext, and the key material of R54, or none where
the shared X25519 secret is zero (R55). -/
structure Share where
  random : Nat
  pub : Nat
  ciphertext : List Byte
  shared : Option (Nat × Nat)
  deriving DecidableEq, Repr

/-- The number whose big-endian bytes are the little-endian 32 bytes of an X25519 value (RFC 7748), and the other way. -/
def swap32 (n : Nat) : Nat := ofBe (leBytes 32 n)

/-- Draw the device's random and ephemeral secrets, and answer the peer's X25519 and ML-KEM keys. -/
def State.share (s : State) (peer : Nat) (ek : List Byte) : Share × State :=
  let (random, s) := s.draw 256
  let (scalar, s) := s.draw 256
  let (m, s) := s.draw 256
  let (ssk, ct) := Config.mlkemEncaps ek m
  let ssx := swap32 (x25519 scalar (swap32 peer))
  ({ random := random % 2 ^ 256, pub := swap32 (x25519 scalar x25519Base), ciphertext := padTo 1568 ct, shared := if ssx = 0 then none else some (ssk % 2 ^ 256, ssx % 2 ^ 256) }, s)

/-- The 72 bytes of key material of R54 from the shared secrets, the transcript and the protocol's string. -/
def keyMaterial (ssk ssx : Nat) (th : List Byte) (name : String) : List Byte :=
  beBytes 72 (Config.kmac256 (beBytes 32 ssk ++ beBytes 32 ssx) th 576 (ascii name) % 2 ^ 576)

/-- TH over the two hello payloads (R54). -/
def transcript (a b : List Byte) : List Byte := beBytes 64 (Config.shake256 (a ++ b) 512 % 2 ^ 512)

/-- Segments of a message in order put together from an offset, up to the first gap (R52, R634). -/
def joinSegments : Nat → List (Nat × List Byte) → List Byte
  | _, [] => []
  | at', (o, b) :: rest => if o = at' then b ++ joinSegments (at' + b.length) rest else []

/-- The bytes up to the last segment, where every segment is there. -/
def joined (segs : List (Nat × List Byte)) : List Byte :=
  joinSegments 0 (sortBy Prod.fst segs)

/-- A message held in segments is complete up to the end of its last segment. -/
def complete (segs : List (Nat × List Byte)) (endAt : Nat) : Bool := (joined segs).length == endAt

/-- The segments of an AUTH with one more: WORD gives its offset, LAST closes the message (R634). -/
def authSegments (held : List (Nat × List Byte)) (offset : Nat) (last : Bool) (data : List Byte) : List (Nat × List Byte) :=
  let segs := if held.any (fun g => g.1 == offset && !g.2.isEmpty) then held else held ++ [(offset, data)]
  if last then segs ++ [(offset + data.length, [])] else segs

/-- The message that the segments make, once the last is there and none is lacking. -/
def authMessage (segs : List (Nat × List Byte)) : Option (List Byte) :=
  (segs.find? (fun g => g.2.isEmpty)).bind (fun g =>
    let body := segs.filter (fun g => !g.2.isEmpty)
    if complete body g.1 then some (joined body) else none)

/-- The device's AUTH payload (R56, R634): its chain and an ML-DSA-87 signature, 4,627 bytes, by the session signing key of slot 5 over
the string and TH. -/
def State.deviceAuth (s : State) (name : String) (th : List Byte) : List Byte × State :=
  let (rnd, s) := s.draw 256
  let sig := Config.mldsaSign 87 (s.slotValue 5) rnd [] (ascii name ++ th)
  ([BitVec.ofNat 8 s.keys.chain.length, 5, 0, 0] ++ beBytes 4 4627 ++ s.keys.chain.flatMap (fun c => beBytes 4 c.length ++ c) ++ beBytes 4627 sig, s)

/-- An Awl unit is in service (R639). -/
def State.awlServes (s : State) : Bool := awlUnits.any s.awlHealthy

end Sys2Proof.Machine
end

