-- ==== Sys2Proof/Machine/Shepherd.lean ====
section
/-! DEFINITION. The Shepherd's commands (chapter 05): its tables, admission and placement, shelf power, core-pair tests. -/

namespace Sys2Proof.Machine

/-- A media table entry as it is read (Table 5-1). -/
def mediaEntry (d : Nat) (m : Media) : List Byte :=
  let body := leBytes 2 d ++ [BitVec.ofNat 8 m.shelf, BitVec.ofNat 8 m.tray, BitVec.ofNat 8 m.state, BitVec.ofNat 8 (b2n m.removable + 2 * b2n m.checkedIn)]
    ++ leBytes 2 m.weight ++ leBytes 8 m.capacity ++ leBytes 8 m.allocated ++ leBytes 8 m.free ++ leBytes 2 m.wear ++ leBytes 2 m.temp
    ++ [BitVec.ofNat 8 m.fw, BitVec.ofNat 8 m.ft, 0, 0] ++ leBytes 8 m.tempTime ++ leBytes 8 m.tagUid ++ leBytes 4 m.changes
  body ++ leBytes 4 (crc32c body)

/-- Media of a shelf that meet R167 but for the shelf mask, with P taken as 0 (ELIGIBLE of Table 5-2). -/
def State.eligibleCount (s : State) (h : Nat) : Nat :=
  ((s.eligibleMedia (2 ^ 64 - 1) 0).filter (fun kv => kv.2.shelf == h)).length

/-- A shelf table entry as it is read (Table 5-2). -/
def State.shelfEntry (s : State) (h : Nat) : List Byte :=
  let x := s.shelf h
  let body := [BitVec.ofNat 8 h, BitVec.ofNat 8 x.group, BitVec.ofNat 8 x.pstate.code, BitVec.ofNat 8 (b2n x.enabled)] ++ leBytes 4 x.paths
    ++ leBytes 8 x.pendingBytes ++ leBytes 8 x.pstateTime ++ leBytes 2 (s.eligibleCount h) ++ [0, 0]
  body ++ leBytes 4 (crc32c body)

/-- Put bytes into SHP_MT_WIN, from word 0. -/
def State.toWindow (s : State) (bs : List Byte) : State :=
  (List.range (bs.length / 4)).foldl (fun s w => s.wr (Reg.SHP_MT_WIN.DATA.nth w) (ofLe (slice bs (4 * w) 4))) s

/-- The bytes that SHP_MT_WIN holds. -/
def State.fromWindow (s : State) : List Byte := (List.range 16).flatMap (fun w => leBytes 4 (s.rd (Reg.SHP_MT_WIN.DATA.nth w)))

/-- A little-endian number in a byte string. -/
def leAt (bs : List Byte) (off n : Nat) : Nat := ofLe (slice bs off n)

/-- Begin a table operation: its ID; end it with ERR. -/
def State.tableCmd (s : State) (id err : Nat) : State := (s.wr Reg.SHP_MT_CMD.ID id).wr Reg.SHP_MT_CMD.ERR err

/-- READ_MEDIA: a media entry is copied into SHP_MT_WIN; an entry that fails its CRC answers CRC (R162). -/
def execReadMedia (id : Nat) (s : State) : Host.Outcome State Fault Refusal :=
  let m := s.media (id % 65536)
  if m.badCrc then ok (s.tableCmd id 5) else ok ((s.toWindow (mediaEntry (id % 65536) m)).tableCmd id 0)

/-- READ_SHELF: a shelf entry is copied into words 0 to 7 of SHP_MT_WIN (R162). -/
def execReadShelf (id : Nat) (s : State) : Host.Outcome State Fault Refusal :=
  let h := id % 64
  if (s.shelf h).badCrc then ok (s.tableCmd id 5) else ok ((s.toWindow (s.shelfEntry h)).tableCmd id 0)

/-- The factors of a medium, computed anew (R165, R166). -/
def State.factors (s : State) (m : Media) : Media :=
  { m with fw := s.wearFactor m.wear, ft := if m.tempTime + second < s.time64 then 1 else s.tempFactor m.temp }

/-- A written media entry is well formed: its ID and its STATE, and, a DESIGN CHOICE (assumption 121), its reserved bits zero; R162 names
no other value that is refused with BAD_FIELD. -/
def mediaOk (d : Nat) (w : List Byte) : Bool :=
  leAt w 0 2 == d && decide (leAt w 2 1 < 64) && decide (leAt w 4 1 ≤ 4) && decide (leAt w 5 1 < 4)

/-- Why a media write is refused: BAD_FIELD, DENIED (R163), or not at all. -/
def State.mediaRefusal (s : State) (d : Nat) (w : List Byte) : Nat :=
  if !mediaOk d w then 2 else if leAt w 4 1 = 4 ∧ (s.media d).allocated ≠ 0 then 4 else 0

/-- Apply the fields of a media write that its world owns (R162); the shelves that the medium leaves are acted on (R177, R271). -/
def State.applyMedia (s : State) (d : Nat) (w : List Byte) (world : World) : State :=
  let m := s.media d
  let keeper := decide (world = .keeper)
  let m' : Media := { m with
    shelf := leAt w 2 1, tray := leAt w 3 1, state := leAt w 4 1, removable := bitOf (leAt w 5 1) 0
    checkedIn := if keeper then bitOf (leAt w 5 1) 1 else m.checkedIn
    weight := leAt w 6 2, capacity := leAt w 8 8
    tagUid := if keeper then leAt w 0x30 8 else m.tagUid
    changes := (m.changes + 1) % 2 ^ 32, badCrc := false }
  let m' := s.factors m'
  let s := (s.setMedia d m').updShepherd (fun p => { p with savedMedia := tput p.savedMedia d m' })
  if m'.state = 3 ∧ m.state ≠ 3 then s.failMedium d
  else if m.state = 1 ∧ m'.state ≠ 1 then s.leaveMedium (fun f => f.media == d)
  else s

/-- WRITE_MEDIA: the entry in SHP_MT_WIN is applied between two decisions, saved to flash, and MT_GEN advances (R162, R163). -/
def execWriteMedia (id : Nat) (world : World) (saved : Bool) (s : State) : Host.Outcome State Fault Refusal :=
  let d := id % 65536
  let w := s.fromWindow
  let err := s.mediaRefusal d w
  if err ≠ 0 then ok (s.tableCmd id err)
  else if !saved then ok (s.tableCmd id 3)
  else ok (((s.applyMedia d w world).addTo Reg.SHP_STATUS.MT_GEN 1).tableCmd id 0)

/-- A written shelf entry is well formed. -/
def shelfOk (h : Nat) (w : List Byte) : Bool :=
  leAt w 0 1 == h && decide (leAt w 1 1 < 16) && decide (leAt w 3 1 < 2) && decide (leAt w 4 4 < 2 ^ 24)

/-- Apply a shelf entry; FLAGS.ENABLED clear and later set again readies a shelf in FAULT for release (Table 5-3). -/
def State.applyShelf (s : State) (h : Nat) (w : List Byte) : State :=
  let x := s.shelf h
  let en := bitOf (leAt w 3 1) 0
  let fault := x.pstate == .fault
  let x' : Shelf := { x with group := leAt w 1 1, enabled := en, paths := leAt w 4 4, badCrc := false
                             clearedEnable := if fault then (x.clearedEnable || !en) else false
                             releasing := fault && en && (x.clearedEnable || x.releasing) }
  (s.setShelf h x').updShepherd (fun p => { p with savedShelves := tput p.savedShelves h x' })

/-- WRITE_SHELF: the shelf entry in SHP_MT_WIN is applied and saved; it may release a shelf from FAULT (R163, R178). An ID of 64 or more
answers BAD_ID here, and READ_SHELF takes its ID modulo 64: a DESIGN CHOICE (assumption 121), R162 gives no range. -/
def execWriteShelf (id : Nat) (saved : Bool) (s : State) : Host.Outcome State Fault Refusal :=
  let h := id % 64
  let w := s.fromWindow
  if 64 ≤ id then ok (s.tableCmd id 1)
  else if !shelfOk h w then ok (s.tableCmd id 2)
  else if !saved then ok (s.tableCmd id 3)
  else ok (((s.applyShelf h w).addTo Reg.SHP_STATUS.MT_GEN 1).tableCmd id 0)

/-- The bound of R23 as integers: ingest I and restore R in Mbit/s, F = (k + m) (P + 128) / L exactly. -/
def State.rateAllows (s : State) (k m ext ingest restore : Nat) : Bool :=
  let len := extBytes ext
  decide (3575000 * ((k + m) * (payloadLen len k + 128)) * ingest + 2600 * 1352 * restore * len ≤ s.usableBandwidth * 13520000 * len)

/-- The cores of the hashing pool. -/
def State.hashPool (s : State) : List Nat := spongeCores.filter (fun j => s.spgHealthy j && !s.inSigning j)

/-- The size of the hashing pool for the present healthy cores (R183). -/
def State.hashWant (s : State) : Nat :=
  let n := (spongeCores.filter s.spgHealthy).length
  if n < 8 then 0 else min (s.rd Reg.SHP_POOL.HASH_CORES) (n - 4)

/-- The pool that hashes (R183, Table 5-4): the hashing pool without the cores that are to leave it, or the signing pool while there is none. -/
def State.hashers (s : State) : List Nat :=
  if s.hashPool.isEmpty then spongeCores.filter s.spgHealthy else s.hashPool.take (max 1 s.hashWant)

/-- The cores that may take a fragment hash: fewer than 32 fragments each, no test asked (R126, Table 5-4). -/
def State.hashCores (s : State) : List Nat :=
  s.hashers.filter (fun j => (tget s.shepherd.asked (dueKey .sponge j)).isNone && decide ((s.hashJobs j).length < 32))

/-- Give a fragment that has no core one (Table 5-4): the fewest fragments first, and another core than the stripe's other fragments have while the
pool holds k + m. With none that can serve, the fragment waits in staging (Table 1-3). -/
def State.giveCore (s : State) (e i : Nat) : State :=
  match s.extent e with
  | none => s
  | some x => match tget x.frags i with
    | none => s
    | some f =>
      let used := x.frags.filterMap (fun g => g.2.core)
      let distinct := decide (x.k + x.m ≤ s.hashers.length)
      match argMin (fun j => (s.hashJobs j).length) (s.hashCores.filter (fun j => !(distinct && used.contains j))) with
      | some j => if f.core.isSome || f.hash.isSome then s else (s.updFrag e i (fun f => { f with core := some j })).settleCore j
      | none => s

/-- Give every fragment of the extents being sealed that waits for a core one, oldest grant first. -/
def State.giveCores (s : State) : State :=
  (s.queue.extents.filter (fun kv => kv.2.phase == .admitted || kv.2.phase == .sealed)).foldl (fun s kv =>
    (kv.2.frags.filter (fun f => f.2.core.isNone && f.2.hash.isNone && f.2.phase == .filling)).foldl (fun s f => s.giveCore kv.1 f.1) s) s

/-- Allocate the staging of every fragment of a stripe from channel index `start` of H (R144, R147); none when any cannot be placed. -/
def State.allocStripe (s : State) (e p start : Nat) (h : List Nat) : Nat → Nat → Option State
  | 0, _ => some s
  | n + 1, f =>
    let c := h.getD ((start + f) % h.length) 0
    match s.extent e, s.allocFrag c p with
    | some x, some (rs, sl) =>
      let fr : Fragment := { channel := c, runs := rs, slot := sl, crcs := [], rows := [], core := none, hash := none, media := 65536, shelf := 0, header := [], phase := .filling, repaired := false, xid := 0, sentAt := 0, timeouts := 0, mismatches := 0, moving := none, lastVerify := s.now }
      State.allocStripe (s.setExtent e { x with frags := tput x.frags f fr }) e p start h n (f + 1)
    | _, _ => none

/-- Give the fragments of an extent their targets, with their allocation (R175); `old` allocations of changed targets move (R176). -/
def State.assignTargets (s : State) (e bytes : Nat) (targets : List Taken) : State :=
  ((List.range targets.length).foldl (fun (s : State) i =>
    match s.extent e, targets[i]? with
    | some x, some t =>
      match tget x.frags i with
      | some f =>
        if f.media = t.media ∧ f.shelf = t.shelf then s
        else
          let s := if f.media = 65536 then s else (s.subAlloc f.media bytes).subPending f.shelf bytes
          (s.addAlloc t.media bytes).updFrag e i (fun f => { f with media := t.media, shelf := t.shelf })
      | none => s
    | _, _ => s) s)

/-- Note an extent's hold for lack of a placement, raising SHP_NO_PLACEMENT once (R175). -/
def State.holdPlacement (s : State) (e : Nat) (x : Extent) : State :=
  let s := s.setExtent e { x with noPlace := true, held := true }
  if x.noPlace then s else (s.updShepherd (fun p => { p with held := p.held ++ [e] })).raise srcShpNoPlacement

/-- An extent of the namespace is held for lack of a placement (R175). -/
def State.nsHeld (s : State) (ns e : Nat) : Bool :=
  s.queue.extents.any (fun kv => kv.1 != e && kv.2.noPlace && kv.2.phase == .granted && kv.2.obj / 2 ^ 116 == ns)

/-- Admit an extent (R144, R147, R148, R175): staging for every fragment, a trial placement, and sponge cores as far as there are any (Table 1-3);
nothing is kept where staging or placement fails. -/
def State.takeIn (s : State) (e : Nat) (x : Extent) : State :=
  let p := payloadLen x.len x.k
  let h := s.chanList
  if !spreadOk x.k x.m h.length then s.setExtent e { x with held := true }
  else
    let start := s.shepherd.staging % h.length
    let dead : Bool := match s.object x.obj with | some o => o.state.isAborted | none => false
    if dead then s.setExtent e { x with phase := .admitted, held := false, noPlace := false }
    else match s.allocStripe e p start h (x.k + x.m) 0 with
    | none => s.setExtent e { x with held := true }
    | some s' => match s.place x.obj x.idx x.k x.m p with
      | none => s.holdPlacement e x
      | some (targets, relaxed) =>
        let s := s'.updShepherd (fun q => { q with staging := (start + x.k + x.m) % h.length, held := q.held.filter (· != e) })
        let s := s.assignTargets e (p + 128) targets
        let s := if relaxed then s.noteRelaxed x.obj x.idx else s
        let s := match s.extent e with
          | some y => s.setExtent e { y with phase := .admitted, held := false, noPlace := false, trialGen := s.rd Reg.SHP_STATUS.MT_GEN }
          | none => s
        s.giveCores.fileExtent e

/-- An extent may be admitted now: SEAL, SHP_CTRL.EN, no held extent of its namespace before it. -/
def State.admissible (s : State) (e : Nat) (x : Extent) : Bool :=
  x.phase == .granted && s.inSeal && s.isSet Reg.SHP_CTRL.EN && !s.nsHeld (x.obj / 2 ^ 116) e

/-- The admitted rates (R23): ingest and restore in Mbit/s, and what the sponge cores hash at them in MB/s (R186). -/
def State.admitRates (s : State) (x : Extent) (ingest restore : Nat) : State :=
  let len := extBytes x.ext
  s.updShepherd (fun p => { p with admittedIngest := ingest, admittedRestore := restore
                                   admittedHash := ceilDiv ((x.k + x.m) * (payloadLen len x.k + 128) * ingest + restore * len) (8 * len) })

/-- EXTENT_ADMIT: the Shepherd admits a granted extent within R23 (`ingest` and `restore` are the projected rates in Mbit/s), allocates its
staging and makes a trial placement (R144, R175, R184). -/
def execExtentAdmit (obj idx ingest restore : Nat) (s : State) : Host.Outcome State Fault Refusal :=
  let e := extKey obj idx
  match s.extent e with
  | none => ok s
  | some x =>
    if !s.admissible e x then ok s
    else if !s.rateAllows x.k x.m x.ext ingest restore then ok (s.setExtent e { x with held := true })
    else ok ((s.admitRates x ingest restore).takeIn e x)

/-- A placement is fixed (R176, R198): headers written, the extent staged (R135), its staged receipt pumped. -/
def State.fixExtent (s : State) (e : Nat) (x : Extent) : State :=
  let n := x.frags.map Prod.fst
  let s := s.setExtent e { x with phase := .staged, placed := true, noPlace := false, held := false, sealTime := s.time64, stagedAt := s.now, frags := tmap x.frags (fun _ f => { f with phase := .held, rows := [], lastVerify := s.now }) }
  let s := s.updShepherd (fun p => { p with held := p.held.filter (· != e) })
  let s := n.foldl (fun s i => s.writeHeader e i) s
  let s := s.addTo Reg.SHP_PLACED.PLACED 1
  let s := (s.fileExtent e).settleLater
  s.pump x.queue

/-- Fix a sealed extent's placement: the trial stands at an unchanged MT_GEN, else the walk runs again (R176). -/
def State.fixPlacement (s : State) (e : Nat) (x : Extent) : State :=
  let p := payloadLen x.len x.k
  let gen := s.rd Reg.SHP_STATUS.MT_GEN
  if x.trialGen = gen then s.fixExtent e x
  else match s.place x.obj x.idx x.k x.m p with
    | none => s.holdPlacement e x
    | some (targets, relaxed) =>
      let s := s.assignTargets e (p + 128) targets
      let s := if relaxed then s.noteRelaxed x.obj x.idx else s
      match s.extent e with
      | some y => s.fixExtent e { y with trialGen := gen }
      | none => s

/-- An extent's tag and fragment hashes are complete, FINAL is known (R199), and no fragment is missing from staging (R150). -/
def readyToFix (x : Extent) : Bool :=
  x.phase == .sealed && x.final.isSome && x.tag.isSome && !x.frags.isEmpty && x.frags.all (fun f => f.2.hash.isSome && f.2.phase == .filling)

/-- PLACEMENT_FIX: an extent's fragment hashes complete; its placement is fixed and written to the record and the headers, and the extent
is staged (R135, R176, R198). -/
def execPlacementFix (obj idx : Nat) (s : State) : Host.Outcome State Fault Refusal :=
  let e := extKey obj idx
  match s.extent e with
  | none => ok s
  | some x => if readyToFix x && !s.safe then ok (s.fixPlacement e x) else ok s

/-- PLACEMENT_RETRY: at a new MT_GEN or every 1 ms the walk for a held extent is run again, its trial or its fix (R175, R176). -/
def execPlacementRetry (obj idx : Nat) (s : State) : Host.Outcome State Fault Refusal :=
  let e := extKey obj idx
  match s.extent e with
  | none => ok s
  | some x =>
    if !x.noPlace then ok s
    else if readyToFix x && !s.safe then ok (s.fixPlacement e x)
    else if s.admissible e x && s.rateAllows x.k x.m x.ext s.shepherd.admittedIngest s.shepherd.admittedRestore then ok (s.takeIn e x)
    else ok s

/-- Shelves in WAKING, counting a held wake; and those in WAKING or ON (R179). -/
def State.wakingCount (s : State) : Nat := (s.shepherd.shelves.filter (fun h => h.2.pstate == .waking || h.2.wakeHeld)).length
def State.onCount (s : State) : Nat := (s.shepherd.shelves.filter (fun h => h.2.pstate == .waking || h.2.pstate == .on || h.2.wakeHeld)).length

/-- A shelf may be chosen to wake: OFF, or STOPPING with no wake held. -/
def State.wakeable (s : State) (h : Nat) : Bool :=
  let x := s.shelf h
  x.pstate == .off || (x.pstate == .stopping && !x.wakeHeld)

/-- A catalogue copy waits for a shelf, and the time of the oldest (R260). -/
def State.copyWaits (s : State) (h : Nat) : Option Nat :=
  ((s.south.catalogue.filter (fun kv => kv.2.targets.any (fun t => (s.media t.1).shelf == h && !t.2.2))).map (fun kv => kv.2.writtenAt)).min?

/-- The time since which the oldest fragment or copy pending for a shelf has been staged. -/
def State.oldestPending (s : State) (h : Nat) : Option Nat :=
  let frags := s.queue.extents.filterMap (fun kv => if kv.2.frags.any (fun f => f.2.shelf == h && undrained f.2 && f.2.phase != .filling) then some kv.2.stagedAt else none)
  let reps := s.south.repairs.flatMap (fun kv => kv.2.frags.filterMap (fun f => if f.2.shelf = h ∧ f.2.phase = .held then some f.2.lastVerify else none))
  ((frags ++ reps) ++ (s.copyWaits h).toList).min?

/-- The second rule of R179 asks to wake a shelf. -/
def State.pendingWake (s : State) (h : Nat) : Bool :=
  let x := s.shelf h
  let any := decide (0 < x.pendingBytes) || (s.copyWaits h).isSome
  let old := s.chip.shut != .off || match s.oldestPending h with | some t => decide (t + s.rd Reg.SHP_PTIME0.WAKE_AGE * second < s.now) | none => false
  s.wakeable h && any && (decide (s.rd Reg.SHP_PWR.WAKE_GB * 1000000000 ≤ x.pendingBytes) || old || channels.any s.lowWater)

/-- The shelf that R179 would wake. -/
def State.wakeChoice (s : State) : Option Nat :=
  match s.shepherd.wakes.find? s.wakeable with
  | some h => some h
  | none => argMin (fun h => 2 ^ 70 - (s.shelf h).pendingBytes) ((s.shepherd.shelves.map Prod.fst).filter s.pendingWake)

/-- Stop a shelf: POWER down (R249). -/
def State.stopShelf (s : State) (h : Nat) : State := (s.sendPower h 2).setPstate h .stopping

/-- ON shelves that may be stopped: idle and ON for MIN_ON (R180). -/
def State.stoppable (s : State) : List Nat :=
  (s.shepherd.shelves.map Prod.fst).filter (fun h => s.shelfIdle h && decide ((s.shelf h).onSince + s.rd Reg.SHP_PTIME0.MIN_ON * second ≤ s.now))

/-- WAKE_DECISION: at the 10 ms decision at most one shelf is chosen to wake, one idle shelf is stopped where MAX_ON holds a wake back, and
shelves idle for IDLE_OFF are stopped (R179 to R181). Repairs that REPAIR_PCT held back go on as far as it lets them (R275; assumption 126). -/
def execWakeDecision (s : State) : Host.Outcome State Fault Refusal :=
  if s.safe || !s.lit then ok s
  else
    let s := s.updShepherd (fun p => { p with wakes := p.wakes.filter (fun h => (s.shelf h).pstate != .on && (s.shelf h).pstate != .fault) })
    let s := s.pumpRepairs
    let full := decide (s.rd Reg.SHP_PWR.MAX_ON ≤ s.onCount)
    let s := match s.wakeChoice with
      | none => s
      | some h =>
        if full then
          match argMin (fun h => (s.shelf h).idleSince) s.stoppable with
          | some g => s.stopShelf g
          | none => s
        else if s.wakingCount < s.rd Reg.SHP_PWR.MAX_WAKING then s.wake h
        else s
    let idle := s.stoppable.filter (fun h => decide ((s.shelf h).idleSince + s.rd Reg.SHP_PTIME1.IDLE_OFF * second ≤ s.now))
    ok (idle.foldl (fun s h => s.stopShelf h) s)

/-- WAKE_TIMEOUT: WAKE_TMO elapses in WAKING; SHP_WAKE_FAIL is raised and the shelf enters FAULT (R178). -/
def execWakeTimeout (shelf : Nat) (s : State) : Host.Outcome State Fault Refusal :=
  if (s.shelf shelf).pstate = .waking then
    ok ((s.advanceTo ((s.shelf shelf).wakingAt + s.rd Reg.SHP_PTIME1.WAKE_TMO * second)).faultShelf shelf srcShpWakeFail)
  else ok s

/-- SHELF_LOST: no south path has served a shelf for 1 s; SHP_SHELF_LOST is raised and the shelf enters FAULT (R178). -/
def execShelfLost (shelf : Nat) (s : State) : Host.Outcome State Fault Refusal :=
  if (s.shelf shelf).pstate = .absent then ok s
  else
    let s := match s.assoc shelf with | some a => s.advanceTo (a.lastAccepted + second) | none => s
    ok (s.faultShelf shelf srcShpShelfLost)

/-- Save the Shepherd's own fields of the media and shelf tables (R163), once the tables have been read from flash. -/
def State.saveTables (s : State) : State :=
  s.updShepherd (fun p => if p.media.isEmpty && p.shelves.isEmpty then { p with lastSave := s.now }
    else { p with savedMedia := p.media, savedShelves := p.shelves, lastSave := s.now })

/-- SHEPHERD_SAVE: every 10 s the Shepherd saves its own fields of the media table to flash (R163). -/
def execShepherdSave (s : State) : Host.Outcome State Fault Refusal :=
  ok (s.advanceTo (s.shepherd.lastSave + 10 * second)).saveTables

/-- FACTOR_RECOMPUTE: every 10 ms FW and FT are computed anew (R165, R166). -/
def execFactorRecompute (s : State) : Host.Outcome State Fault Refusal :=
  ok (s.updShepherd (fun p => { p with media := tmap p.media (fun _ m => let y := s.factors m; if y = m then m else { y with changes := (m.changes + 1) % 2 ^ 32 }) }))

/-- The interrupt source of SHP_CORE_ST_REQ (assumption 14). -/
def srcCoreStReq : Nat := 128 + Config.coreTestSource.val

/-- CORE_TEST_REQUEST: in the night window, with the mean core load below LOAD_PCT, SHP_CORE_ST_REQ names the pair that is due and DUE_ACT
is set (R187): the pair's test is due and not put off to the next night, and the other pairs less one carry the load (R37). -/
def execCoreTestRequest (pair load : Nat) (s : State) : Host.Outcome State Fault Refusal :=
  let due : Bool := match tget s.shepherd.due (dueKey .pair pair) with | some t => decide (t ≤ s.now) | none => false
  let later : Bool := match tget s.shepherd.notBefore pair with | some t => decide (s.now < t) | none => false
  if !due ∨ later ∨ !s.pairsCarry load ∨ 16 ≤ pair ∨ !s.nightWindow ∨ !s.testEnabled .pair ∨ s.kindOut .pair ∨ s.isSet Reg.SHP_ST_OUT.DUE_ACT ∨ s.pstate pair ≠ 0 ∨ s.rd Reg.SHP_ST_CTRL.LOAD_PCT ≤ load ∨ s.safe then ok s
  else ok ((((s.wr Reg.SHP_ST_OUT.CORE_DUE pair).flag Reg.SHP_ST_OUT.DUE_ACT true).updShepherd (fun p => { p with dueAt := some s.now })).interrupt srcCoreStReq)

/-- SHP_CORE_REL: the released pair's number is written; the pair's test starts once no context is scheduled on it (R187); a write of
another number, or with no request pending, is ignored. A pair released with a context still scheduled stays released, with no timeout any more, and the
command stands once more where that context has left it. -/
def execShpCoreRel (pair : Nat) (scheduled : Bool) (s : State) : Host.Outcome State Fault Refusal :=
  if !s.isSet Reg.SHP_ST_OUT.DUE_ACT ∨ s.rd Reg.SHP_ST_OUT.CORE_DUE ≠ pair then ok s
  else if scheduled then ok (s.updShepherd (fun p => { p with dueAt := none }))
  else
    let s := (s.flag Reg.SHP_ST_OUT.DUE_ACT false).updShepherd (fun p => { p with dueAt := none, asked := tput p.asked (dueKey .pair pair) s.now })
    ok ((s.wr (Reg.CORE_STATE.PSTATE.nth pair) 4).setOut .pair pair true)

/-- CORE_RELEASE_TIMEOUT: no release within 10 s; the request is withdrawn and DUE_ACT cleared (R187). -/
def execCoreReleaseTimeout (s : State) : Host.Outcome State Fault Refusal :=
  match s.shepherd.dueAt with
  | some t =>
    let s := (s.advanceTo (t + 10 * second)).flag Reg.SHP_ST_OUT.DUE_ACT false
    ok (s.updShepherd (fun p => { p with dueAt := none, notBefore := tput p.notBefore (s.rd Reg.SHP_ST_OUT.CORE_DUE) s.nextNight }))
  | none => ok s

/-- The half of a 64-bit register that an earlier write of its low word holds. -/
def State.lowHalf (s : State) (f : Field) : Nat := tgetD s.latch (2 * (f.slot * 65536 + f.off) + 1) 0

/-- SEED_COMMIT: a write of the high word of SHP_SEED from Keeper world commits both words (R169, SHP_SEED). -/
def execSeedCommit (high : Nat) (world : World) (s : State) : Host.Outcome State Fault Refusal :=
  if world = .keeper then ok (s.wr Reg.SHP_SEED.SEED (high % 2 ^ 32 * 2 ^ 32 + s.lowHalf Reg.SHP_SEED.SEED)) else ok s

end Sys2Proof.Machine
end

