-- ==== Sys2Proof/Machine/South.lean ====
section
/-! DEFINITION. The south side's commands (chapter 07): Tether links, associations, shelf power and reports, drain and durability. -/

namespace Sys2Proof.Machine

/-- A Tether link goes down (R233): its flits are dropped, PORT_UP clears, the paths over the port fail (R239), FT_LINK_DOWN is raised. -/
def State.portDown (s : State) (p : Nat) : State :=
  let s := match s.tether p with
    | some t => s.setTether p { t with up := false, inits := 0, unacked := [], backlog := [], nak := false, partial' := [], downAt := s.now }
    | none => s
  let s := s.updSouth (fun q => { q with upPorts := q.upPorts.filter (· != p) })
  let s := s.south.assocs.foldl (fun s kv => s.failSouthPaths kv.1 (tkeys kv.2.paths (fun _ x => x.port == p))) s
  s.raise (srcFtLinkDown p) p

/-- Resend every unacknowledged flit, oldest first; a flit resent 8 times takes the link down (R232, R233). -/
def State.resendFlits (s : State) (p : Nat) (t : Tether) : State :=
  let flits := t.unacked.map (fun f => { f with resends := f.resends + 1 })
  if flits.any (fun f => decide (8 ≤ f.resends)) then s.portDown p
  else
    let s := s.setTether p { t with unacked := flits, ackAt := s.now }
    let s := (flits.foldl (fun s f => match s.tether p with | some t => s.sendFlit p t 1 f.seq f.bytes | none => s) s)
    s.bump Reg.FT_EVENTS.RESEND flits.length

/-- Drop the flits that an ACK covers. -/
def dropAcked (ack : Nat) (fs : List SentFlit) : List SentFlit :=
  if fs.any (fun f => f.seq == ack) then (fs.dropWhile (fun f => f.seq != ack)).drop 1 else fs

/-- The messages that the bytes of a stream hold, and the begun one (R231): each runs over its header, LENGTH payload bytes and its tag; where a
VERSION byte would stand, a zero byte makes the rest fill. -/
def flitMessages : Nat → List Byte → List (List Byte) × List Byte
  | 0, bs => ([], bs)
  | fuel + 1, bs =>
    let n := 32 + beAt bs 6 2 + 16 * (beAt bs 2 2 % 2)
    if beAt bs 0 1 = 0 then ([], [])
    else if bs.length < 32 ∨ bs.length < n then ([], bs)
    else
      let (ms, rest) := flitMessages fuel (bs.drop n)
      (bs.take n :: ms, rest)

/-- The fields of a flit (Table 7-2). -/
def flitType (f : List Byte) : Nat := beAt f 0 1
def flitSeq (f : List Byte) : Nat := beAt f 1 2 % 4096
def flitAck (f : List Byte) : Nat := beAt f 3 2

/-- A flit passes its checks (R232): its FEC decode, its CRC, and a TYPE that is not reserved (assumption 125). -/
def flitGood (fec : Bool) (f : List Byte) : Bool :=
  fec && f.length == 1285 && crc32c (f.take 1281) == beAt f 1281 4 && decide (1 ≤ flitType f ∧ flitType f ≤ 3)

/-- A good DATA flit's bytes join the stream of the port (R231). -/
def Tether.takeData (t : Tether) (f : List Byte) : Tether :=
  let (ms, rest) := flitMessages 80 (t.partial' ++ slice f 5 1276)
  { t with rx := some (flitSeq f), nak := false, partial' := rest, inbox := t.inbox ++ ms }

/-- FLIT_RECEIVE: a flit arrives, and `fec` says that its FEC decode passed: in sequence it is accepted, otherwise it is discarded with NAK set; ACK
releases flits sent, NAK resends them; 16 INIT or IDLE flits in a row bring a link up (R230 to R233). -/
def execFlitReceive (port : Nat) (fec : Bool) (flit : List Byte) (s : State) : Host.Outcome State Fault Refusal :=
  match s.tether port with
  | none => ok s
  | some t =>
    let good := flitGood fec flit
    let seq := flitSeq flit
    if !t.up then
      if !good ∨ flitType flit = 1 then ok (s.setTether port { t with inits := 0 })
      else if 15 ≤ t.inits then
        let t := { t with up := true, inits := 0, rx := some ((seq + 4095) % 4096), ackAt := s.now, partial' := [] }
        ok (((s.updSouth (fun q => { q with upPorts := q.upPorts ++ [port] })).fall (srcFtLinkDown port)).sendFlit port t 2 t.tx [])
      else ok (s.setTether port { t with inits := t.inits + 1 })
    else
      let next := match t.rx with | some r => (r + 1) % 4096 | none => 0
      if !good ∨ seq ≠ next then ok (s.setTether port { t with nak := true })
      else
        let t := if flitType flit = 1 then t.takeData flit else { t with nak := false }
        let left := if bitOf (flitAck flit) 15 then dropAcked (flitAck flit % 4096) t.unacked else t.unacked
        let t := { t with unacked := left, ackAt := if left.length < t.unacked.length then s.now else t.ackAt }
        let s := s.sendFlits port 512 t
        match s.tether port with
        | some t => ok (if bitOf (flitAck flit) 14 then s.resendFlits port t else s)
        | none => ok s

/-- FLIT_RESEND_TIMER: ACK has not advanced for 2 µs; the sender resends from the oldest unacknowledged flit (R232). -/
def execFlitResendTimer (port : Nat) (s : State) : Host.Outcome State Fault Refusal :=
  match s.tether port with
  | some t => if t.up ∧ t.unacked ≠ [] then ok ((s.advanceTo (t.ackAt + 2 * usec)).resendFlits port t) else ok s
  | none => ok s

/-- FLIT_IDLE_SEND: 0.5 µs after the last flit one that carries ACK is sent: IDLE, or INIT with VALID clear while the link is down (R232,
R233). -/
def execFlitIdleSend (port : Nat) (s : State) : Host.Outcome State Fault Refusal :=
  match s.tether port with
  | some t =>
    let s := s.advanceTo (t.sentAt + 500)
    if t.up then ok (s.sendFlit port t 2 t.tx []) else ok (s.sendFlit port { t with rx := none, nak := false } 3 t.tx [])
  | none => ok s

/-- The receiver has every lane of a port in lock and the lanes within 64 ns of each other (R230, R233). -/
def lanesLocked (locked : Bool) (skew : Nat) : Bool := locked && decide (skew ≤ 64)

/-- FT_LINK_DOWN: what the receiver of a port finds: with a lane out of lock, or the lanes more than 64 ns apart, the link goes down (R230, R233). -/
def execFtLinkDown (port : Nat) (locked : Bool) (skew : Nat) (s : State) : Host.Outcome State Fault Refusal :=
  if port ∈ s.south.upPorts ∧ !lanesLocked locked skew then ok (s.portDown port) else ok s

/-- TETHER_BRINGUP_RETRY: every 10 ms a down Tether link runs lock and deskew again; with both it sends INIT (R233). -/
def execTetherBringupRetry (port : Nat) (locked : Bool) (skew : Nat) (s : State) : Host.Outcome State Fault Refusal :=
  match s.tether port with
  | some t =>
    if t.up then ok s
    else
      let s := s.advanceTo (t.downAt + 10 * msec)
      let t := { t with downAt := s.now, rx := none, nak := false }
      if lanesLocked locked skew then ok (s.sendFlit port t 3 t.tx []) else ok (s.setTether port { t with inits := 0 })
  | none => ok s

/-- Send an unprotected message to the ends of an ANNOUNCE (R236). -/
def State.southPlain (s : State) (port h : Nat) (e : Ends) (op word : Nat) (payload : List Byte) : State :=
  s.emitSouth h op port e [2, 0, 0, 0, word] (southHeader op 2 h 0 payload.length 0 0 word ++ payload)

/-- The answer to an ANNOUNCE whose key exchange gave shared secrets: an association in the making with its keys, ASSOC and the pieces of
AUTH (R237). -/
def State.openAssoc (s : State) (m : SouthIn) (sh : Share) (ssk ssx : Nat) : State :=
  let h := m.shelf
  let answer := beBytes 32 sh.random ++ beBytes 32 sh.pub ++ sh.ciphertext
  let th := transcript m.payload answer
  let km := keyMaterial ssk ssx th "LGE9120 fragment transport"
  let a : Assoc := { complete := false, random := beAt m.payload 8 32, rxKey := beAt km 0 32, txKey := beAt km 32 32, rxSalt := beAt km 64 4, txSalt := beAt km 68 4, prevKey := none, keyGen := 0, th := th, txSeq := 0, received := [], sent := [], auth := [], at' := s.now, typicalMs := beAt m.payload 4 4, expectedMs := 0, lastAccepted := s.now, limit := 0, used := 0, paths := [(0, { newPath (s.portRate m.port) m.port s.southRto true with ends := m.ends })], nextXid := (match s.assoc h with | some b => b.nextXid | none => 1) }
  let s := (s.setAssoc (h + 64) a).southPlain m.port h m.ends 0x02 0 answer
  let (auth, s) := s.deviceAuth "LGE9120 FT device" th
  let pieces := cutBytes 8224 64 auth
  (pieces.foldl (fun (st : State × Nat) p => (st.1.sendSouthOn (h + 64) 0 0x03 (2 * b2n (decide (st.2 + p.length = auth.length))) 0 st.2 p, st.2 + p.length)) (s, 0)).1

/-- An ANNOUNCE has the layout of Table 7-6 and is unprotected (R236); its header and its payload name one shelf. -/
def SouthIn.announceOk (m : SouthIn) : Bool :=
  !m.prot && m.last && m.len == 1640 && beAt m.payload 0 1 == m.shelf && decide (beAt m.payload 1 1 < 2)
    && decide (1 ≤ beAt m.payload 2 2 ∧ beAt m.payload 2 2 ≤ 4096)

/-- ANNOUNCE: a shelf opens an association, answered by ASSOC and AUTH; without an Awl unit by an unprotected RESET NOT_AVAILABLE (R237,
R639); a peer key that gives a zero secret by AUTH_FAILED (R55). -/
def execAnnounce (m : SouthIn) (s : State) : Host.Outcome State Fault Refusal :=
  if m.opcode ≠ 0x01 then ok s
  else match s.takeMessage m with
    | (s, false) => ok s
    | (s, true) =>
      if !m.announceOk then ok (s.updSouth (fun q => { q with badMsgs := q.badMsgs + 1 }))
      else if !s.awlServes then ok (s.southPlain m.port m.shelf m.ends 0x05 0x0106 [])
      else
        let (sh, s) := s.share (beAt m.payload 40 32) (slice m.payload 72 1568)
        match sh.shared with
        | none => ok (s.southPlain m.port m.shelf m.ends 0x05 0x0103 [])
        | some (ssk, ssx) => ok (s.openAssoc m sh ssk ssx)

/-- The shelf admission list binds a key ID to a shelf (R238, R573). -/
def State.shelfAdmits (s : State) (h keyId : Nat) : Bool :=
  let l := s.domain 0x3012 0
  (List.range (l.length / 24)).any (fun i => beAt l (24 * i) 1 == h && beAt l (24 * i + 8) 16 == keyId)

/-- Add a path from each further port of a shelf's PATHS mask (R239), to the address of its first path. -/
def State.addPaths (s : State) (h : Nat) : State :=
  match s.assoc h with
  | none => s
  | some a =>
    let e := (tgetD a.paths 0 noPath).ends
    let ports := (List.range 24).filter (fun p => bitOf (s.shelf h).paths p && !(a.paths.any (fun x => x.2.port == p)) && decide (p ∈ s.south.upPorts))
    (ports.foldl (fun (st : State × Nat) p =>
      ((st.1.updAssoc h (fun a => { a with paths := tput a.paths st.2 { newPath (s.portRate p) p st.1.southRto false with ends := { e with north := s.southAddr p e.v6 } } })).sendSouthOn h st.2 0x06 2 0 (s.portRate p) [], st.2 + 1)) (s, a.paths.length)).1

/-- A shelf's association completes (R238): it replaces an older one, the shelf moves to OFF unless it is in FAULT, a held wake is sent,
requests that wait need a wake (R179), and unacknowledged PUTs and unanswered GETs wait for READY. -/
def State.associate (s : State) (h : Nat) (a : Assoc) : State :=
  let s := s.updSouth (fun q => { q with assocs := tput q.assocs h { a with complete := true, auth := [] }, pendingAssoc := tdel q.pendingAssoc h
                                         fetches := tmap q.fetches (fun _ f => if f.shelf = h ∧ !f.begun then { f with sent := false } else f)
                                         repairs := tmap q.repairs (fun _ r => { r with frags := tmap r.frags (fun _ f => if f.shelf = h ∧ f.phase = .sent then { f with phase := .held, moving := some 1 } else f) }) })
  let s := s.updQueue (fun q => { q with extents := tmap q.extents (fun _ x => { x with frags := tmap x.frags (fun _ f => if f.shelf = h ∧ f.phase = .sent then { f with phase := .held, moving := some 1 } else f) }) })
  let p := (s.shelf h).pstate
  let held := (s.shelf h).wakeHeld
  let s := if p = .fault then s else s.setPstate h .off
  let s := if p = .fault then s else if held then s.wake h else s.needAgain h
  s.addPaths h

/-- The shelf that an AUTH proves: its layout holds, its leaf's key signs "LGE9120 FT shelf" and TH, and the admission list binds that key to the
shelf (R238, R634, R640). A shelf has a key there and no anchor: the leaf alone decides. -/
def State.shelfProved (s : State) (h : Nat) (th msg : List Byte) : Bool :=
  match (parseAuth msg).bind (fun m => m.signed "LGE9120 FT shelf" th) with
  | some (leaf :: _) => match leaf.keyId with
    | some k => s.shelfAdmits h k
    | none => false
  | _ => false

/-- FT_AUTH: a segment of the shelf's AUTH arrives; complete, it is checked against its layout, its signature and the admission list, and
the association completes or ends with AUTH_FAILED and FT_AUTH_FAIL (R238, R634, R640). -/
def execFtAuth (m : SouthIn) (s : State) : Host.Outcome State Fault Refusal :=
  let h := m.shelf + 64
  let (s, go) := s.acceptOn h m 0x03
  match s.assoc h with
  | none => ok s
  | some a =>
    if !go then ok s
    else
      let a := { a with auth := authSegments a.auth m.word m.last m.payload }
      let s := s.setAssoc h a
      match authMessage a.auth with
      | none => ok s
      | some msg =>
        if s.shelfProved m.shelf a.th msg then ok (s.associate m.shelf a)
        else ok (((s.sendSouth h 0x05 0 0x0103 []).updSouth (fun q => { q with pendingAssoc := tdel q.pendingAssoc m.shelf })).raise srcFtAuthFail m.shelf)

/-- FT_KEY_UPDATE: the shelf's next key is derived; its previous one serves 3 × the maximum RTO more (R59, R237). -/
def execFtKeyUpdate (m : SouthIn) (s : State) : Host.Outcome State Fault Refusal :=
  let (s, go) := s.acceptSouth m 0x04
  let fresh := match s.assoc m.shelf with | some a => m.word == a.keyGen + 1 | none => false
  if go && !m.payload.isEmpty then ok (s.southBadField m)
  else if go && fresh then ok (s.updAssoc m.shelf (fun a => { a with prevKey := some (a.rxKey, s.now + 3 * rtoCeiling), rxKey := nextKey a.rxKey "LGE9120 FT update", keyGen := m.word }))
  else ok s

/-- FT_RESET: a protected RESET ends the association, or the handshake it answers (R62, R237). -/
def execFtReset (m : SouthIn) (s : State) : Host.Outcome State Fault Refusal :=
  let h := s.southLink m
  let (s, go) := s.acceptOn h m 0x05
  if !go then ok s
  else if h < 64 then ok (s.updSouth (fun q => { q with assocs := tdel q.assocs h }))
  else ok (s.updSouth (fun q => { q with pendingAssoc := tdel q.pendingAssoc (h - 64) }))

/-- FT_HANDSHAKE_TIMEOUT: 2 s after ASSOC without a completed handshake it ends (R237). -/
def execFtHandshakeTimeout (shelf : Nat) (s : State) : Host.Outcome State Fault Refusal :=
  match tget s.south.pendingAssoc shelf with
  | some a => ok ((s.advanceTo (a.at' + 2 * second)).updSouth (fun q => { q with pendingAssoc := tdel q.pendingAssoc shelf }))
  | none => ok s

/-- PATH_CONFIRM: the shelf confirms a path at a link rate (R68, R239). -/
def execPathConfirm (m : SouthIn) (s : State) : Host.Outcome State Fault Refusal :=
  let (s, go) := s.acceptSouth m 0x07
  if !go then ok s
  else if !m.payload.isEmpty then ok (s.southBadField m)
  else ok (s.updAssoc m.shelf (fun a => { a with paths := tmod a.paths m.path (fun p => { p with confirmed := true, rate := m.word }) }))

/-- FT_PATH_PROBE: a PATH_PROBE of the shelf is received; or the device's own probe of a failed path has been acknowledged, and the path
returns to use (R71, R239). -/
def execFtPathProbe (m : SouthIn) (acknowledged : Bool) (s : State) : Host.Outcome State Fault Refusal :=
  if acknowledged then
    match s.assoc m.shelf with
    | some a =>
      match tget a.paths m.path with
      | some p =>
        if p.failed ∧ p.probeAcked then
          ok (s.updAssoc m.shelf (fun a => { a with paths := tput a.paths m.path { p with failed := false, expiries := 0, probeAcked := false } }))
        else ok s
      | none => ok s
    | none => ok s
  else ok (s.acceptSouth m 0x08).1

/-- FT_ACK: an ACK of the shelf is validated; its ranges acknowledge messages, give a round-trip sample, and show messages lost (R64 to
R66, R239). -/
def execFtAck (m : SouthIn) (s : State) : Host.Outcome State Fault Refusal :=
  let h := s.southLink m
  let (s, go) := s.acceptOn h m 0x10 false
  match s.assoc h with
  | none => ok s
  | some a =>
    if !go then ok s
    else match (ackPayload m.payload).bind (fun p => (ackedRanges m.word p.2.1 p.2.2).map (fun rs => (p.1, rs))) with
      | none => ok (s.updSouth (fun q => { q with badMsgs := q.badMsgs + 1 }))
      | some (delay, rs) =>
        let hit := a.sent.filter (fun f => inRanges f.1 rs)
        let a' := { a with sent := tkeep a.sent (fun n _ => !inRanges n rs) }
        let a' := match tget a.sent m.word with
          | some f => { a' with paths := tmod a'.paths f.path (fun p => p.sample (s.now - f.at') delay southFloor rtoCeiling) }
          | none => a'
        let a' := { a' with paths := tmap a'.paths (fun i p => if p.failed && hit.any (fun f => f.2.typ == 0x08 && f.2.path == i) then { p with probeAcked := true } else p) }
        let s := s.setAssoc h a'
        let lost := lostBelow (hit.map (fun f => (f.1, f.2.path))) (a'.sent.map (fun f => (f.1, f.2.path)))
        ok (lost.foldl (fun s n => s.resendSouth h n) s)

/-- FT_RTO_EXPIRY: a message's RTO expires (`shelf` 64 above its ID: of an association in the making); it is retransmitted, the RTO doubles, and at the third expiry in a row its path fails (R65,
R66, R71, R239). -/
def execFtRtoExpiry (shelf seq : Nat) (s : State) : Host.Outcome State Fault Refusal :=
  match s.assoc shelf with
  | none => ok s
  | some a => match tget a.sent seq with
    | none => ok s
    | some f => match tget a.paths f.path with
      | none => ok (s.resendSouth shelf seq)
      | some p =>
        let s := s.advanceTo (f.at' + p.rto)
        let p := p.expire rtoCeiling
        let s := s.updAssoc shelf (fun a => { a with paths := tput a.paths f.path p })
        ok ((if 3 ≤ p.expiries then s.failSouthPaths shelf [f.path] else s).resendSouth shelf seq)

/-- FT_CREDIT: the shelf's CREDIT raises the byte limit of PUT_DATA and CAT_PUT (R240). -/
def execFtCredit (m : SouthIn) (s : State) : Host.Outcome State Fault Refusal :=
  let (s, go) := s.acceptSouth m 0x11
  if !go then ok s
  else if !m.payload.isEmpty then ok (s.southBadField m)
  else ok (s.updAssoc m.shelf (fun a => { a with limit := max a.limit m.word }))

/-- A shelf is READY: its waiting PUTs may go again and its requests are sent (R238, R264, Table 5-3). -/
def State.shelfReady (s : State) (h : Nat) : State :=
  let free (f : Fragment) : Fragment := if f.shelf = h ∧ f.moving = some 1 then { f with moving := none } else f
  let s := s.updQueue (fun q => { q with extents := tmap q.extents (fun _ x => { x with frags := tmap x.frags (fun _ f => free f) }) })
  let s := s.updSouth (fun q => { q with repairs := tmap q.repairs (fun _ r => { r with frags := tmap r.frags (fun _ f => free f) }) })
  let s := s.updShepherd (fun p => { p with wakes := p.wakes.filter (· != h) })
  (tkeys s.south.fetches (fun _ f => f.shelf == h && !f.sent)).foldl (fun s k => s.sendFetch k) s

/-- POWER_STATE: a shelf's report moves its PSTATE (Table 5-3, R249): READY to ON, STOPPED to OFF or, with a wake held, to WAKING, WAKING
and STOPPING as named, FAULT as a wake that failed; a change without a row of Table 5-3 is recorded. A shelf in FAULT stays there. A shelf that stops
while requests wait for it needs a wake (R179). -/
def execPowerState (m : SouthIn) (s : State) : Host.Outcome State Fault Refusal :=
  let (s, go) := s.acceptSouth m 0x41
  let h := m.shelf
  let p := (s.shelf h).pstate
  let code := beAt m.payload 0 1
  let expectedMs := beAt m.payload 4 4
  if !go then ok s
  else if m.len ≠ 8 ∨ beAt m.payload 1 3 ≠ 0 ∨ code = 0 ∨ 5 < code ∨ (code ≠ 2 ∧ expectedMs ≠ 0) then ok (s.southBadField m)
  else if p = .absent ∨ p = .fault then ok s
  else
    let s := s.updAssoc h (fun a => { a with expectedMs := expectedMs, at' := s.now })
    match code with
    | 3 =>
      if p = .on then ok s
      else
        let s := (s.setPstate h .on).shelfReady h
        ok (if p = .waking then s else s.pstateRecord h .on)
    | 1 =>
      let held := (s.shelf h).wakeHeld
      let s := if p = .off then s else s.setPstate h .off
      let s := if p = .stopping ∨ p = .off then s else s.pstateRecord h .off
      ok (if held then s.wake h else s.needAgain h)
    | 2 => if p = .waking then ok s else ok ((s.setPstate h .waking).pstateRecord h .waking)
    | 4 => if p = .stopping then ok s else ok ((s.setPstate h .stopping).pstateRecord h .stopping)
    | 5 => ok (s.faultShelf h srcShpWakeFail)
    | _ => ok s

/-- Check a medium in with a tag (R516): TAG_UID and CHECKED_IN, the Trail, and a CORE_NOTE. -/
def State.checkIn (s : State) (d uid : Nat) : State :=
  let x := s.media d
  let s := s.setMedia d { x with tagUid := uid, checkedIn := true, changes := (x.changes + 1) % 2 ^ 32 }
  (s.trailRec 0x0304 masterShepherd true (leBytes 8 uid ++ leBytes 2 d)).coreNote 1 (leBytes 8 uid)

/-- The tag of a REPORT entry (R250, R516). -/
def State.reportTag (s : State) (r : ReportEntry) : State :=
  let x := s.media r.media
  let s := if r.uid = x.tagUid then s
    else if r.removable ∧ s.shepherd.pendingTags.any (fun t => t.1 == r.uid) then
      (s.updShepherd (fun p => { p with pendingTags := p.pendingTags.filter (fun t => t.1 != r.uid) })).checkIn r.media r.uid
    else
      let s := s.setMedia r.media { x with checkedIn := false }
      if x.lastUid = some r.uid then s
      else s.trailRec 0x0307 masterShepherd true (leBytes 2 r.media ++ leBytes 8 x.tagUid ++ leBytes 8 r.uid)
  s.setMedia r.media { s.media r.media with lastUid := some r.uid }

/-- One entry of a REPORT (R250). -/
def State.reportEntry (s : State) (h : Nat) (r : ReportEntry) : State :=
  match tget s.shepherd.media r.media with
  | none => s.updShepherd (fun p => { p with ignoredReports := p.ignoredReports + 1 })
  | some x =>
    if x.shelf ≠ h then s.updShepherd (fun p => { p with ignoredReports := p.ignoredReports + 1 })
    else
      let y := s.factors { x with free := r.free, wear := r.wear, temp := r.temp % 65536, tempTime := s.time64, changes := (x.changes + 1) % 2 ^ 32 }
      let s := (s.setMedia r.media y).reportTag r
      if r.state = 3 ∧ x.state ≠ 3 then s.failMedium r.media else s

/-- The entries of a REPORT's payload (Table 7-6); none where it is not as the table has it. -/
def reportEntries (bs : List Byte) : Option (List ReportEntry) :=
  let n := beAt bs 0 2
  let es := (List.range n).map (fun i =>
    let o := 8 + 24 * i
    ({ media := beAt bs o 2, state := beAt bs (o + 2) 1, removable := beAt bs (o + 3) 1 == 1, wear := beAt bs (o + 4) 2, temp := beAt bs (o + 6) 2, free := beAt bs (o + 8) 8, uid := beAt bs (o + 16) 8 } : ReportEntry))
  if bs.length = 8 + 24 * n ∧ beAt bs 2 6 = 0 ∧ (List.range n).all (fun i => decide (beAt bs (10 + 24 * i) 1 < 4 ∧ beAt bs (11 + 24 * i) 1 < 2)) then some es else none

/-- REPORT: a shelf's report updates its media entries, sets FAILED states, and handles tag UIDs (R250). -/
def execReport (m : SouthIn) (s : State) : Host.Outcome State Fault Refusal :=
  let (s, go) := s.acceptSouth m 0x42
  if !go then ok s
  else match reportEntries m.payload with
    | some es => ok (es.foldl (fun s r => s.reportEntry m.shelf r) s)
    | none => ok (s.southBadField m)

/-- What a PUT in flight belongs to: a fragment of an extent or of a repair, a catalogue copy, or nothing current any more. -/
inductive PutOwner where
  | ext (e i : Nat)
  | repair (n i : Nat)
  | copy (key media : Nat)
  | stale (body : List Byte)
  | none
  deriving DecidableEq, Repr

/-- The owner of a PUT by its shelf and XID. -/
def State.putOwner (s : State) (h xid : Nat) : PutOwner :=
  match s.queue.extents.findSome? (fun kv => (kv.2.frags.find? (fun f => f.2.phase == .sent && f.2.shelf == h && f.2.xid == xid)).map (fun f => (kv.1, f.1))) with
  | some (e, i) => .ext e i
  | none => match s.south.repairs.findSome? (fun kv => (kv.2.frags.find? (fun f => f.2.phase == .sent && f.2.shelf == h && f.2.xid == xid)).map (fun f => (kv.1, f.1))) with
    | some (n, i) => .repair n i
    | none => match s.south.catalogue.findSome? (fun kv => (kv.2.targets.find? (fun t => t.2.1 == xid && (s.media t.1).shelf == h && !t.2.2)).map (fun t => (kv.1, t.1))) with
      | some (k, d) => .copy k d
      | none => match tget s.south.stale (fetchKey h xid) with
        | some b => .stale b
        | none => .none

/-- The fragment of an owner. -/
def State.ownedFrag (s : State) : PutOwner → Option Fragment
  | .ext e i => (s.extent e).bind (fun x => tget x.frags i)
  | .repair n i => (tget s.south.repairs n).bind (fun r => tget r.frags i)
  | _ => none

/-- Change the fragment of an owner. -/
def State.updOwned (s : State) (o : PutOwner) (f : Fragment → Fragment) : State :=
  match o with
  | .ext e i => s.updFrag e i f
  | .repair n i => s.updRepairFrag n i f
  | _ => s

/-- The recorded hash of an owner's fragment. -/
def State.ownedBytes (s : State) : PutOwner → Nat
  | .ext e _ => match s.extent e with | some x => payloadLen x.len x.k + 128 | none => 0
  | .repair n _ => match tget s.south.repairs n with | some r => payloadLen (recLen r.record) (recK r.record) + 128 | none => 0
  | _ => 0

/-- A repair's new record settles when SETTLE media hold it (R273): it enters the open regular epoch (R201). -/
def State.settleRepair (s : State) (n : Nat) : State :=
  match tget s.south.repairs n with
  | none => s
  | some r => match r.newRecord with
    | none => s
    | some rec' =>
      let held := (r.frags.filter (fun (f : Nat × Fragment) => (f.2.phase == .durable || f.2.phase == .freed) && (s.media f.2.media).state == 1)).length
      if r.hasLeaf ∨ held < recSettle rec' ∨ !s.manifestReady then s
      else
        let s := s.updSouth (fun q => { q with repairs := tput q.repairs n { r with hasLeaf := true, frags := tmap r.frags (fun _ f => if f.phase = .durable then { f with phase := .freed } else f) } })
        s.addLeaf (recExt rec') rec'

/-- A fragment must go to another medium (R177), or, once its extent has settled, be repaired from staging (R255). -/
def State.moveAway (s : State) (o : PutOwner) : State :=
  match o with
  | .ext e i => match s.extent e, (s.extent e).bind (fun x => tget x.frags i) with
    | some x, some _ =>
      if x.phase = .settled then s.repairStaged e [i] (match s.locator e with | some l => l.record | none => x.record)
      else s.retargetFrag e i
    | _, _ => s
  | .repair n i => match tget s.south.repairs n, s.ownedFrag (.repair n i) with
    | some r, some f =>
      let others := ((List.range (recK r.record + recM r.record)).filter (fun j => j != i)).map (fun j => match tget r.frags j with | some g => g.media | none => recMedia r.record j)
      let p := payloadLen (recLen r.record) (recK r.record)
      match s.retarget (beAt r.record 8 16) (beAt r.record 24 8) (recK r.record) (recM r.record) p others f.media with
      | some d =>
        let h := (s.media d).shelf
        let hdr := repairedHeader r.record i d h r.sealTime
        let s := (((s.subAlloc f.media (p + 128)).subPending f.shelf (p + 128)).addAlloc d (p + 128)).updRepairFrag n i (fun f => { f with media := d, shelf := h, header := hdr, phase := .held, timeouts := 0, mismatches := 0 })
        let s := match tget s.south.repairs n with
          | some r => s.updSouth (fun q => { q with repairs := tput q.repairs n { r with newRecord := some (nextRecord r.record (r.frags.map (fun (f : Nat × Fragment) => (f.1, f.2.media, f.2.shelf)))) } })
          | none => s
        s.bump Reg.SHP_EVENTS.RETARGET
      | none => s
    | _, _ => s
  | _ => s

/-- A good DURABLE of a fragment (R252, R253). -/
def State.durableGood (s : State) (o : PutOwner) (f : Fragment) : State :=
  let s := ((s.updOwned o (fun f => { f with phase := .durable })).subPending f.shelf (s.ownedBytes o)).touchShelf f.shelf
  match o with
  | .ext e _ =>
    let s := s.trySettle e
    (match s.extent e with
      | some x => if x.phase = .settled then (s.setExtent e (freeDurable x)).settleLater else s
      | none => s)
  | .repair n _ => s.settleRepair n
  | _ => s

/-- The directory entry takes the version whose copies are all durable, and the previous version is deleted (R259). -/
def State.finishCatalogue (s : State) (key : Nat) : State :=
  match tget s.south.catalogue key with
  | none => s
  | some c => match c.writing with
    | none => s
    | some v =>
      if c.targets.isEmpty ∨ !(c.targets.all (fun t => t.2.2)) then s
      else
        let old := c.media
        let c' := { c with media := c.targets.map (fun t => t.1), version := v, length := c.body.length, writing := none, targets := [], body := [], waiting := false }
        let s := s.updSouth (fun q => { q with catalogue := tput q.catalogue key c' })
        if c.version = 0 then s
        else old.foldl (fun s d =>
          let h := (s.media d).shelf
          let (xid, s) := s.newXid h
          s.sendSouth h 0x32 xid 0 ([BitVec.ofNat 8 (key / 2 ^ 64), 0] ++ beBytes 2 d ++ beBytes 4 c.version ++ beBytes 8 (key % 2 ^ 64))) s

/-- A DURABLE of a fragment in flight, by its outcome (R253). -/
def State.durableOutcome (s : State) (o : PutOwner) (f : Fragment) (status hash : Nat) : State :=
  let again (s : State) : State := s.updOwned o (fun f => { f with phase := .held })
  let mismatch : State :=
    if f.mismatches = 0 then again (s.updOwned o (fun f => { f with mismatches := 1 }))
    else ((again s).raise srcFtPutFail f.shelf).moveAway o
  match status with
  | 0 => if some hash = f.hash then s.durableGood o f else mismatch
  | 0x0505 => mismatch
  | 0x0502 => ((again s).failMedium f.media).moveAway o
  | 0x0503 => ((again s).writeMedia f.media { s.media f.media with free := 0 }).moveAway o
  | 0x0501 => ((again s).writeMedia f.media { s.media f.media with free := 0 }).moveAway o
  | 0x0504 => s.updOwned o (fun f => { f with phase := .held, moving := some 1 })
  | _ => s

/-- DURABLE: a durability acknowledgement is acted on by its outcome (R252 to R254, R259). -/
def execDurable (m : SouthIn) (s : State) : Host.Outcome State Fault Refusal :=
  let (s, go) := s.acceptSouth m 0x22
  let media := beAt m.payload 0 2
  let status := beAt m.payload 2 2
  let hash := beAt m.payload 8 32
  if !go then ok s
  else if m.len ≠ 40 ∨ beAt m.payload 4 4 ≠ 0 then ok (s.southBadField m)
  else match s.putOwner m.shelf m.xid with
    | .copy key d =>
      let s := s.touchShelf m.shelf
      if status = 0 ∧ media = d then
        ok ((s.updSouth (fun q => { q with catalogue := tmod q.catalogue key (fun c => { c with targets := c.targets.map (fun t => if t.1 = d then (t.1, t.2.1, true) else t) }) })).finishCatalogue key)
      else ok (s.updSouth (fun q => { q with catalogue := tmod q.catalogue key (fun c => { c with targets := c.targets.map (fun t => if t.1 = d then (t.1, 0, false) else t) }) }))
    | .stale body =>
      let s := s.updSouth (fun q => { q with stale := tdel q.stale (fetchKey m.shelf m.xid) })
      let (xid, s) := s.newXid m.shelf
      ok (s.sendSouth m.shelf 0x32 xid 0 body)
    | .none => ok s
    | o => match s.ownedFrag o with
      | some f => ok (s.durableOutcome o f status hash)
      | none => ok s

/-- DURABLE_TIMEOUT: no DURABLE within DURABLE_S; the fragment is resent, and on a second expiry FT_DURABLE_TMO is raised and it is
re-targeted (R253). -/
def execDurableTimeout (shelf xid : Nat) (s : State) : Host.Outcome State Fault Refusal :=
  let o := s.putOwner shelf xid
  match s.ownedFrag o with
  | none => ok s
  | some f =>
    let s := (s.advanceTo (f.sentAt + s.rd Reg.FT_TIMERS.DURABLE_S * second)).updOwned o (fun f => { f with phase := .held, timeouts := f.timeouts + 1 })
    if f.timeouts = 0 then ok s else ok ((s.raise srcFtDurableTmo shelf).moveAway o)

/-- A fragment that may drain now to a shelf (R251): held, its channel not retraining, not waiting for READY. -/
def State.drainable (s : State) (h : Nat) (f : Fragment) : Bool :=
  f.phase == .held && f.shelf == h && f.moving.isNone && !s.chanRetraining f.channel && s.chanHealthy f.channel && (s.media f.media).state == 1

/-- The order of R251: low-water channels first, then the oldest SEAL_TIME, the lower extent index, the lower fragment index. -/
def State.drainKey (s : State) (f : Fragment) (sealTime idx i : Nat) : Nat :=
  ((b2n (!s.lowWater f.channel) * 2 ^ 64 + sealTime) * 2 ^ 64 + idx) * 64 + i

/-- The next fragment in drain order for a shelf. -/
def State.nextDrain (s : State) (h : Nat) : Option PutOwner :=
  let exts := s.queue.extents.flatMap (fun kv => if kv.2.phase = .staged ∨ kv.2.phase = .settled then (kv.2.frags.filter (fun f => s.drainable h f.2)).map (fun f => (s.drainKey f.2 kv.2.sealTime kv.2.idx f.1, PutOwner.ext kv.1 f.1)) else [])
  let reps := s.south.repairs.flatMap (fun kv => (kv.2.frags.filter (fun f => s.drainable h f.2)).map (fun f => (s.drainKey f.2 kv.2.sealTime (beAt kv.2.record 24 8) f.1, PutOwner.repair kv.1 f.1)))
  (argMin Prod.fst (exts ++ reps)).map Prod.snd

/-- The catalogue copy that goes first to a shelf (R251): its key and medium. -/
def State.nextCopy (s : State) (h : Nat) : Option (Nat × Nat) :=
  s.south.catalogue.findSome? (fun kv => (kv.2.targets.find? (fun t => t.2.1 == 0 && !t.2.2 && (s.media t.1).shelf == h)).map (fun t => (kv.1, t.1)))

/-- Credit of an association covers `n` further bytes (R240). -/
def State.creditFor (s : State) (h n : Nat) : Bool := match s.assoc h with | some a => decide (a.used + n ≤ a.limit) | none => false

/-- Send a catalogue copy in CAT_PUT messages (R251, Table 7-5). -/
def State.sendCopy (s : State) (h key d : Nat) : State :=
  match tget s.south.catalogue key with
  | none => s
  | some c =>
    let v := c.writing.getD 0
    let head := [BitVec.ofNat 8 (key / 2 ^ 64), 0] ++ beBytes 2 d ++ beBytes 4 v ++ beBytes 8 (key % 2 ^ 64)
    let pieces := cutBytes 8208 (c.body.length / 8208 + 1) c.body
    if !s.creditFor h (c.body.length + 16 * pieces.length) then s
    else
      let (xid, s) := s.newXid h
      let s := s.updSouth (fun q => { q with catalogue := tmod q.catalogue key (fun c => { c with targets := c.targets.map (fun t => if t.1 = d then (d, xid, false) else t) }) })
      (pieces.foldl (fun (st : State × Nat) p => (st.1.sendSouth h 0x50 xid st.2 (head ++ p), st.2 + p.length)) (s, 0)).1

/-- Send a fragment as PUT_BEGIN and PUT_DATA (R251): its header, the record copy of R200, its payload. -/
def State.sendPut (s : State) (h : Nat) (o : PutOwner) (f : Fragment) (record payload : List Byte) : State :=
  if !s.creditFor h payload.length then s
  else
    let (xid, s) := s.newXid h
    let s := s.sendSouth h 0x20 xid (128 + payload.length) (f.header ++ record)
    let s := ((cutBytes 8192 (payload.length / 8192 + 1) payload).foldl (fun (st : State × Nat) p => (st.1.sendSouth h 0x21 xid st.2 p, st.2 + p.length)) (s, 0)).1
    s.updOwned o (fun f => { f with phase := .sent, xid := xid, sentAt := s.now })

end Sys2Proof.Machine
end

