-- ==== Sys2Proof/Machine/Restore.lean ====
section
/-! DEFINITION. Restores, repairs' fetches, evacuation and the rebuild of the catalogue (chapter 07), and the ends of ranges (R120). -/

namespace Sys2Proof.Machine

/-- Change one extent of a restore. -/
def State.updRestoreExt (s : State) (h i : Nat) (f : RestoreExt → RestoreExt) : State :=
  s.updSouth (fun q => { q with restores := tmod q.restores h (fun r => { r with exts := r.exts.map (fun e => if e.idx = i then f e else e) }) })

def State.restore (s : State) (h : Nat) : Option Restore := tget s.south.restores h

/-- RST_CFG.SPARE, 3 taken as 2. -/
def State.spare (s : State) : Nat := min 2 (s.rd Reg.RST_CFG.SPARE)

/-- Fetches outstanding for an extent of a restore. -/
def State.outFetches (s : State) (h i : Nat) : Nat := (s.south.fetches.filter (fun f => f.2.job == .restore h i)).length

/-- Egress space in use: the extents whose unseal has started and whose plaintext the client has not acknowledged (R95). -/
def State.egressUsed (s : State) : Nat :=
  (s.south.restores.map (fun r => ((r.2.exts.filter (fun e => !e.ranges.isEmpty && !e.taken)).map (fun e => recLen e.record)).sum)).sum

/-- Place the waiting ranges of an unseal on units, range 0's unit leading (R102, R103). -/
def State.placeUnseal (s : State) (h i : Nat) : State :=
  let j := Job.unseal h i
  (s.jobRanges j).foldl (fun s r =>
    if r.phase ≠ .waiting then s
    else
      let taken := (s.jobRanges j).filterMap (fun q => if q.phase = .waiting then none else some q.unit)
      let pool := s.stitchChoice
      match (match pool.filter (fun n => !taken.contains n) with | n :: _ => some n | [] => pool.head?) with
      | none => s
      | some n => match s.freeCtx n with
        | none => s
        | some c =>
          let s := s.assign n c (newCtx j r)
          if r.first = 0 then s.setLead j n else s) s

/-- Start the decode of an extent once k fragments are available (R267): the selection of R138, or after a failed one that of R268. -/
def State.startDecode (s : State) (h : Nat) (r : Restore) (e : RestoreExt) : State :=
  let k := recK e.record
  let avail := e.available.map Prod.fst
  let fresh := avail.filter (fun i => !e.failedSel.contains i)
  let ready := if e.failedSel.isEmpty then decide (k ≤ avail.length) else decide (k ≤ fresh.length) || (e.candidates.isEmpty && s.outFetches h e.idx == 0 && decide (k ≤ avail.length))
  let before := r.exts.all (fun y => decide (e.idx ≤ y.idx) || !y.ranges.isEmpty)
  let room := decide (s.egressUsed + recLen e.record ≤ 16777216)
  match s.resolveSlot (r.obj / 2 ^ 116) r.epoch, (if e.failedSel.isEmpty then rsSelect k avail else selectAvoiding k avail e.failedSel) with
  | some slot, some sel =>
    if !e.ranges.isEmpty || !ready || !before || !room || s.safe then s
    else
      let s := if sel.any (fun i => decide (k ≤ i)) then s.bump Reg.RST_EVENTS.DEGRADED else s
      let len := recLen e.record
      let n := s.rangeCount len (s.pathEstimate r.session)
      let s := (s.useKey (r.obj / 2 ^ 116) r.epoch).updSouth (fun q => { q with restores := tmod q.restores h (fun r => { r with slot := slot }) })
      (s.updRestoreExt h e.idx (fun y => { y with selection := sel, ranges := planRanges (rowCount len k) n })).placeUnseal h e.idx
  | _, _ => s

/-- Take a candidate that stands in staging as available (R264). -/
def State.takeStaged (s : State) (h i f : Nat) (x : Extent) : State :=
  let fr := match tget x.frags f with | some g => g.channel | none => 0
  s.updRestoreExt h i (fun e => { e with available := tput e.available f { channel := fr, runs := [], payload := s.readablePayload x f } })

/-- Fetch the next candidates of an extent until k + SPARE fragments are had or asked for (R264, R266), k further ones after a failed
selection (R268); without room in the restore buffers the restore is held (R637). -/
def State.pumpExt (s : State) (h i : Nat) : Nat → State
  | 0 => s
  | fuel + 1 =>
    match s.restore h with
    | none => s
    | some r => match r.ext? i with
      | none => s
      | some e =>
        let k := recK e.record
        let good := if e.failedSel.isEmpty then e.available.length else (e.available.filter (fun a => !e.failedSel.contains a.1)).length
        let want := if e.failedSel.isEmpty then k + s.spare else k
        if e.verified ∨ !e.ranges.isEmpty ∨ want ≤ good + s.outFetches h i then s
        else match e.candidates with
          | [] => s
          | f :: rest =>
            let staged : Option Extent := match s.extent (recExt e.record) with | some x => if f ∈ s.readable x then some x else none | none => none
            match staged with
            | some x => State.pumpExt ((s.updRestoreExt h i (fun e => { e with candidates := rest })).takeStaged h i f x) h i fuel
            | none =>
              let c := max 1 s.chanList.length
              let start := e.start.getD (s.shepherd.restore % c)
              match s.fetchFrag (.restore h i) e.record f (start + e.issued) with
              | none => s.updSouth (fun q => { q with restores := tmod q.restores h (fun r => { r with held := true }) })
              | some s =>
                let s := s.updShepherd (fun p => { p with restore := p.restore + 1 })
                State.pumpExt (s.updRestoreExt h i (fun e => { e with candidates := rest, issued := e.issued + 1, start := some start })) h i fuel

/-- An extent that can no longer have k fragments ends its restore UNRECOVERABLE (R266). -/
def State.checkExt (s : State) (h i : Nat) : State :=
  match s.restore h with
  | none => s
  | some r => match r.ext? i with
    | none => s
    | some e =>
      if e.verified ∨ !e.ranges.isEmpty ∨ !e.candidates.isEmpty ∨ s.outFetches h i ≠ 0 ∨ recK e.record ≤ e.available.length then s
      else ((s.raise srcRstUnrecoverable).bump Reg.RST_EVENTS.UNRECOV).endRestore h cUnrecoverable

/-- Let a restore go on: fetches, decodes, waiting ranges, in extent order. -/
def State.pumpRestore (s : State) (h : Nat) : State :=
  match s.restore h with
  | none => s
  | some r =>
    let s := s.updSouth (fun q => { q with restores := tmod q.restores h (fun r => { r with held := false }) })
    (r.exts.map (fun e => e.idx)).foldl (fun s i =>
      let s := (s.pumpExt h i 64).checkExt h i
      match s.restore h with
      | some r => match r.ext? i with
        | some e => if e.ranges.isEmpty then s.startDecode h r e else s.placeUnseal h i
        | none => s
      | none => s) s

/-- Let every restore go on. -/
def State.pumpRestores (s : State) : State := (s.south.restores.map Prod.fst).foldl (fun s h => s.pumpRestore h) s

/-- RANGE_DONE: a range ends; its partial passes the compare and goes to the lead unit; the key material of its context is cleared
(R106, R120). -/
def execRangeDone (unit : Nat) (s : State) : Host.Outcome State Fault Refusal :=
  match s.running unit with
  | none => ok s
  | some (c, x) =>
    if x.next < x.first + x.rows then ok s
    else if !x.agrees then ok (s.compareFail unit 0x12)
    else
      let s := s.updRanges x.job (fun rs => rs.map (fun r => if r.first = x.first ∧ r.rows = x.rows then { r with phase := .done, acc := x.partial', unit := unit } else r))
      let s := match (s.jobRanges x.job).find? (fun r => r.first == x.first) with | some r => s.sendPartial x.job r | none => s
      let s := s.dropCtx unit c
      match x.job with
      | .seal e => match s.extent e with
        | some y => ok (if y.phase = .aborted ∧ !(y.ranges.any (fun r => r.phase == .running)) then s.freeIngest e else s)
        | none => ok s
      | .unseal h _ => ok (s.pumpRestore h)

/-- Restore-buffer pages have been freed: the restores that wait for room go on (R637). -/
def State.pumpHeld (s : State) : State := (tkeys s.south.restores (fun _ r => r.held)).foldl (fun s h => s.pumpRestore h) s

/-- UNSEAL_TAG_CHECK: every range of an extent is done and the lead unit compares the tag with the record (R116): equal, the plaintext may
be sent and the restore buffers are freed (R145); else the plaintext is discarded and another selection is taken, or the restore ends
INTEGRITY (R268). -/
def execUnsealTagCheck (handle idx : Nat) (s : State) : Host.Outcome State Fault Refusal :=
  match s.restore handle with
  | none => ok s
  | some r => match r.ext? idx, s.jobInfo (.unseal handle idx) with
    | some e, some info =>
      if e.verified ∨ e.ranges.isEmpty ∨ !(e.ranges.all (fun g => g.phase == .done)) then ok s
      else match s.rangesTag info e.ranges with
        | none => ok s
        | some t =>
          if t = recTag e.record then
            ok ((s.updRestoreExt handle idx (fun e => { e with verified := true, available := [], candidates := [] })).settleLater.pumpHeld)
          else
            let s := ((s.stuCode e.lead 0x30).bump Reg.RST_EVENTS.TAG_FAIL).raise srcRstTagFail
            if s.rd Reg.RST_CFG.TAG_RETRIES ≤ e.retries then ok (s.endRestore handle cIntegrity)
            else
              ok ((s.updRestoreExt handle idx (fun e => { e with plain := [], ranges := [], retries := e.retries + 1, failedSel := e.failedSel ++ e.selection.filter (fun i => !e.failedSel.contains i), selection := [] })).pumpRestore handle)
    | _, _ => ok s

/-- Index of a wait in nanoseconds until a shelf is READY: the remaining time of a WAKING one, the typical time and 10 ms of another
(R265). -/
def State.wakeWait (s : State) (h : Nat) : Nat :=
  match s.assoc h with
  | none => 0
  | some a =>
    match (s.shelf h).pstate with
    | .waking => (if 0 < a.expectedMs then a.at' + a.expectedMs * msec else (s.shelf h).wakingAt + a.typicalMs * msec) - s.now
    | .on => 0
    | _ => (a.typicalMs + 10) * msec

/-- The expected wait of R265 in microseconds, given the shelves that the restore needs. -/
def State.expectedWait (s : State) (needs : List Nat) : Nat :=
  let waking := (s.shepherd.shelves.filter (fun kv => kv.2.pstate == .waking)).map Prod.fst
  let wakes := s.shepherd.wakes.filter (fun h => !waking.contains h)
  let own := needs.eraseDups.filter (fun h => !waking.contains h && !wakes.contains h)
  ((waking ++ wakes ++ own).map s.wakeWait).sum / usec

/-- RESTORE_BEGIN (Table 2-3). -/
def State.restoreBegin (s : State) (sid tag handle status len wait : Nat) : State :=
  s.sendFrame sid opRestoreBegin 0 tag (beBytes 4 handle ++ beBytes 2 status ++ beBytes 2 0 ++ beBytes 8 len ++ beBytes 4 wait)

/-- The record that a restore of an extent follows: its locator's, else that of the staged extent (R94, R264). -/
def State.restoreRecord (s : State) (e : Nat) : Option (List Byte) :=
  match s.locator e with
  | some l => some l.record
  | none => (s.extent e).bind (fun x => if x.phase = .staged ∨ x.phase = .settled then some x.record else none)

/-- An extent of a new restore with its candidates (R264). -/
def State.newRestoreExt (s : State) (e : Nat) (record : List Byte) : RestoreExt :=
  let staged := match s.extent e with | some x => if x.phase = .staged ∨ x.phase = .settled then s.readable x else [] | none => []
  { idx := e % 2 ^ 32, record := record, candidates := s.candidates record staged, issued := 0, available := [], bad := [], failedSel := [], retries := 0, selection := [], ranges := [], lead := 0, plain := [], verified := false, taken := false, start := none, staged := (s.locator e).isNone }

/-- The shelves in OFF or STOPPING among the first candidates of an extent. -/
def State.neededShelves (s : State) (e : RestoreExt) : List Nat :=
  ((e.candidates.take (recK e.record + s.spare)).map (fun i => (s.media (recMedia e.record i)).shelf)).filter (fun h => (s.shelf h).pstate == .off || (s.shelf h).pstate == .stopping)

/-- Answer a RESTORE_REQ whose index block is at hand (R263). -/
def State.beginRestore (s : State) (w : WaitingReq) : State :=
  let refuse (c len : Nat) : State := s.restoreBegin w.session w.tag 0 c len 0
  match s.object w.obj, s.session w.session with
  | some x, some ss =>
    let len := x.length.getD 0
    let n := if w.length = 0 then len - w.offset else w.length
    if !ss.has 5 && (w.offset != 0 || decide (n < len)) then s.status w.session 0x60 cBadOpcode 0 w.tag 0 w.obj
    else match x.state with
    | .aborted _ _ _ => refuse cNotFound 0
    | .unrecoverable => if len < w.offset + n ∨ len ≤ w.offset then refuse cBadRange len else refuse cUnrecoverable len
    | _ =>
      if !(s.allLocated w.obj x).isSome && !s.allStaged w.obj x then refuse cNotSettled 0
      else if len < w.offset + n ∨ (len ≤ w.offset ∧ 0 < len) then refuse cBadRange len
      else if !s.keyStored x.ns x.epoch then refuse cUnkeyed len
      else
        let size := extBytes x.ext
        let first := w.offset / size
        let count := if n = 0 then 0 else (w.offset + n - 1) / size + 1 - first
        let recs := (rangeFrom first count).filterMap (fun i => (s.restoreRecord (extKey w.obj i)).map (fun r => s.newRestoreExt (extKey w.obj i) r))
        let handle := lowestFree 1025 0 ss.handles
        if 1024 ≤ handle then refuse cSessionLimit len
        else
          let key := restoreKey w.session handle
          let r : Restore := { session := w.session, handle := handle, obj := w.obj, from' := w.offset, upTo := w.offset + n, credit := 0, sent := w.offset, acked := w.offset, progress := s.now, held := false, exts := recs, k := x.k, m := x.m, ext := x.ext, epoch := x.epoch, slot := (s.resolveSlot x.ns x.epoch).getD 0 }
          let s := (s.updSession w.session (fun y => { y with handles := y.handles ++ [handle] })).updSouth (fun q => { q with restores := tput q.restores key r })
          let s := s.restoreBegin w.session w.tag handle cOk len (s.expectedWait (recs.flatMap s.neededShelves))
          if n = 0 then s.endRestore key cOk else s.pumpRestore key
  | _, _ => refuse cNotFound 0

/-- Answer a RECEIPT_GET whose index block is at hand (R92); the epochs that it names must be held, else their runs are fetched. -/
def State.serveReceipt (s : State) (w : WaitingReq) : Option State :=
  match s.object w.obj with
  | none => some (s.status w.session 0x52 cNotFound 0 w.tag 0 w.obj)
  | some x =>
    match x.state, s.allLocated w.obj x with
    | .aborted _ _ _, _ => some (s.status w.session 0x52 cNotFound 0 w.tag 0 w.obj)
    | .settled, some ls | .unrecoverable, some ls =>
      if ls.all (fun l => (tget s.pack.epochs l.epoch).isSome || !s.blockMissing (catKey 2 (l.epoch / 4096))) then some (s.sendSettled w.session 0 w.tag w.obj x ls) else none
    | _, _ => some (s.status w.session 0x52 cNotSettled 0 w.tag 0 w.obj)

/-- The directory keys that a request still needs. -/
def State.neededBlocks (s : State) (w : WaitingReq) : List Nat :=
  match w.kind with
  | .epoch => if (tget s.pack.epochs w.obj).isSome then [] else [catKey 2 (w.obj / 4096)].filter s.blockMissing
  | .restore => [catKey 1 (groupOf w.obj)].filter s.blockMissing
  | .receipt =>
    let g := [catKey 1 (groupOf w.obj)].filter s.blockMissing
    if !g.isEmpty then g
    else match s.object w.obj with
      | some x => match s.allLocated w.obj x with
        | some ls => ((ls.filter (fun l => (tget s.pack.epochs l.epoch).isNone)).map (fun l => catKey 2 (l.epoch / 4096))).eraseDups.filter s.blockMissing
        | none => []
      | none => []

/-- The group of a request is being rebuilt (R262). -/
def State.rebuilding (s : State) (w : WaitingReq) : Bool :=
  match s.south.rebuild with
  | some gs => w.kind != .epoch && gs.contains (groupOf w.obj)
  | none => false

/-- A request whose block no shelf can return (R91; for the other requests the spec names no answer: assumption 15). -/
def State.noBlock (s : State) (w : WaitingReq) : State :=
  match w.kind with
  | .epoch => s.status w.session 0x53 cUnrecoverable 0 w.obj
  | .restore => s.restoreBegin w.session w.tag 0 cUnrecoverable 0 0
  | .receipt => s.status w.session 0x52 cUnrecoverable 0 w.tag 0 w.obj

/-- Answer an EPOCH_GET (R91). -/
def State.serveEpoch (s : State) (sid n : Nat) : State :=
  match tget s.pack.epochs n with
  | some e => if e.released then s.sendEpoch sid n else s.updSession sid (fun x => { x with wantEpochs := if n ∈ x.wantEpochs then x.wantEpochs else x.wantEpochs ++ [n] })
  | none => s.status sid 0x53 cNotFound 0 n

/-- Serve a request of the catalogue, or let it wait for what it needs (R91 to R93, R262, R263). -/
def State.serve (s : State) (w : WaitingReq) : State :=
  let wait (s : State) : State := s.updSouth (fun q => { q with waiting := q.waiting ++ [w] })
  if s.rebuilding w then wait s
  else match s.neededBlocks w with
    | [] => match w.kind with
      | .epoch => s.serveEpoch w.session w.obj
      | .restore => s.beginRestore w
      | .receipt => (s.serveReceipt w).getD s
    | ks => match ks.foldl (fun (acc : Option State) k => acc.bind (fun s => s.fetchBlock k 0)) (some s) with
      | some s => wait s
      | none => s.noBlock w

/-- Serve the requests that wait again. -/
def State.serveWaiting (s : State) : State :=
  s.south.waiting.foldl (fun s w => s.serve w) (s.updSouth (fun q => { q with waiting := [] }))

/-- Entries of a LIST answer: fragment index, medium, record (R241). -/
def parseList : Nat → List Byte → List (Nat × Nat × List Byte)
  | 0, _ => []
  | _, [] => []
  | n + 1, bs =>
    let len := beAt bs 0 2
    (beAt bs 2 1, beAt bs 4 2, slice bs 8 len) :: parseList n (bs.drop (8 + len))

/-- The extents that a medium's LIST names start their repairs (R271): the index's record where the group is at hand, else the copy's. -/
def State.takeNames (s : State) (d : Nat) (bs : List Byte) : State :=
  (parseList bs.length bs).foldl (fun s q =>
    let r := q.2.2
    let use : Option (List Byte) := match s.locator (recExt r) with
      | some l => some l.record
      | none => if s.blockMissing (catKey 1 (groupOf (beAt r 8 16))) then some r else none
    match use with
    | some r => if (List.range (recK r + recM r)).any (fun i => recMedia r i == d) then s.startRepair d (s.south.evacuating.contains d) r else s
    | none => s) s

/-- Take a LIST answer of a rebuild: per extent the record of highest GENERATION and the media that hold it (R262). -/
def State.takeRebuild (s : State) (bs : List Byte) : State :=
  match s.south.rebuild with
  | none => s
  | some gs =>
    (parseList bs.length bs).foldl (fun s (_, d, r) =>
      if !gs.contains (groupOf (beAt r 8 16)) then s
      else
        let e := recExt r
        let next := match tget s.south.rebuilt e with
          | none => (r, [d])
          | some (old, ds) => if recGen old < recGen r then (r, [d]) else if recGen old = recGen r then (old, if d ∈ ds then ds else ds ++ [d]) else (old, ds)
        s.updSouth (fun q => { q with rebuilt := tput q.rebuilt e next })) s

/-- Where a leaf hash stands in a released epoch. -/
def State.findLeaf (s : State) (h : Nat) : Option (Nat × Nat) :=
  s.pack.epochs.findSome? (fun kv => if kv.2.released ∧ h ∈ kv.2.hashes then some (kv.1, kv.2.hashes.idxOf h) else none)

/-- An object of a rebuild (R262, steps 3 and 4): SETTLED when its extents are all settled up to one with FINAL, else ABORTED with its
fragments deleted. -/
def State.rebuildObject (s : State) (o : Nat) (exts : List (Nat × List Byte × List Nat)) : State :=
  let settledExt (q : Nat × List Byte × List Nat) : Bool := (s.findLeaf (leafHash q.2.1)).isSome || decide (recSettle q.2.1 ≤ q.2.2.length)
  let good := exts.all settledExt && exts.map (fun q => q.1 % 2 ^ 32) == List.range exts.length && (match exts.getLast? with | some q => recFinal q.2.1 | none => false)
  let s := exts.foldl (fun s q =>
    match s.findLeaf (leafHash q.2.1) with
    | some (n, i) => s.updSouth (fun t => { t with locators := tput t.locators q.1 { epoch := n, leaf := i, record := q.2.1 } })
    | none => if recSettle q.2.1 ≤ q.2.2.length then s.addLeaf q.1 q.2.1 else s) s
  let r := match exts.head? with | some q => q.2.1 | none => []
  let len := (exts.map (fun q => recLen q.2.1)).sum
  let x := indexObj o len (if good then 1 else 2) (recK r) (recM r) (beAt r 42 1) [{ epoch := 0, leaf := 0, record := r }]
  let s := s.setObject o { x with granted := exts.length }
  let s := if good then s else exts.foldl (fun s q => (List.range (recK q.2.1 + recM q.2.1)).foldl (fun s i =>
    let d := recMedia q.2.1 i
    s.sendDelete (s.media d).shelf o (q.1 % 2 ^ 32) i d (fragGen q.2.1 i)) s) s
  s.touchGroup o

/-- A rebuild ends once every LIST and every segment run that it asked for has come (R262). -/
def State.finishRebuild (s : State) : State :=
  let waits := s.south.fetches.any (fun f => f.2.job == .rebuild || (match f.2.job with | .block k _ => decide (2 ^ 65 ≤ k) | _ => false))
  match s.south.rebuild with
  | none => s
  | some gs =>
    if waits then s
    else
      let objs := (s.south.rebuilt.map (fun kv => kv.1 / 2 ^ 32)).eraseDups
      let s := objs.foldl (fun s o => s.rebuildObject o (s.south.rebuilt.filter (fun kv => kv.1 / 2 ^ 32 == o))) s
      let s := gs.foldl (fun s g => s.touchCatalogue 1 g) s
      let keys := gs.map (catKey 1)
      (s.updSouth (fun q => { q with rebuild := none, rebuilt := [], rebuildDue := false, cached := q.cached ++ keys.filter (fun k => !q.cached.contains k) })).serveWaiting

/-- The groups that a rebuild must look at (R262): a written version that is PARTIAL, or assigned counters with none. -/
def State.affectedGroups (s : State) : List Nat :=
  let part := (s.south.catalogue.filter (fun kv => kv.1 / 2 ^ 64 == 1 && decide (0 < kv.2.version) && !kv.2.gapless)).map (fun kv => kv.1 % 2 ^ 64)
  let none' := s.queue.counters.flatMap (fun kv => ((List.range (ceilDiv kv.2.2 4096)).map (fun j => kv.1 * 2 ^ 52 + j)).filter (fun g =>
    match tget s.south.catalogue (catKey 1 g) with | some c => c.version == 0 | none => true))
  part ++ none'

/-- The start of a rebuild's window T0 on the model's clock: the earliest write of a PARTIAL version, or the time a counter block of a
group without one was reserved. -/
def State.rebuildFrom (s : State) (gs : List Nat) : Nat :=
  (gs.map (fun g => match tget s.south.catalogue (catKey 1 g) with
    | some c => if 0 < c.version then c.writtenAt else tgetD s.queue.counterTime g 0
    | none => tgetD s.queue.counterTime g 0)).min?.getD s.now

/-- CATALOGUE_REBUILD: at the first entry to SEAL after a stop that was not orderly, the affected groups are found and every associated
shelf is asked by LIST (R262). -/
def execCatalogueRebuild (s : State) : Host.Outcome State Fault Refusal :=
  if !s.south.rebuildDue ∨ s.south.rebuild.isSome ∨ !s.inSeal then ok s
  else
    let gs := s.affectedGroups
    let t0 := s.rebuildFrom gs
    let back := s.now - (t0 - 60 * second)
    let body := beBytes 8 (s.time64 - back) ++ beBytes 8 s.time64 ++ beBytes 2 0xFFFF ++ List.replicate 6 0
    let s := s.updSouth (fun q => { q with rebuild := some gs, rebuilt := [] })
    let runs := (s.south.catalogue.filter (fun kv => kv.1 / 2 ^ 64 == 2 && s.blockMissing kv.1 && decide (t0 ≤ kv.2.writtenAt + 60 * second))).map Prod.fst
    let s := runs.foldl (fun s k => (s.fetchBlock k 0).getD s) s
    let s := (tkeys s.south.assocs (fun _ a => a.complete)).foldl (fun s h => (s.request .rebuild 0 65535 h 0x52 body 0 []).needShelf h) s
    ok s.finishRebuild

/-- A fragment for a repair has come: with k of them the missing ones are decoded, hashed and placed (R152, R273); an evacuation copies. -/
def State.repairArrived (s : State) (n : Nat) : State :=
  match tget s.south.repairs n with
  | none => s
  | some r =>
    let rec' := r.record
    let k := recK rec'
    let p := payloadLen (recLen rec') k
    if r.newRecord.isSome then s
    else if r.evacuate then
      if r.available.length < r.missing.length then s
      else (s.placeRepair n r (r.available.map (fun a => (a.1, a.2.payload)))).getD s
    else match selectAvoiding k (r.available.map Prod.fst) r.failedSel with
      | none => s
      | some sel =>
        let pay (i : Nat) : List Byte := match tget r.available i with | some b => b.payload | none => []
        let data := rsDecode k p sel pay
        let parts := r.missing.map (fun i => (i, rsFragment k p data i))
        match parts.find? (fun q => shakeDom 0x03 q.2 != recHash rec' q.1) with
        | some _ => ((s.note srcStgCheckFail 0).updSouth (fun q => { q with repairs := tmod q.repairs n (fun r => { r with failedSel := r.failedSel ++ sel }) })).pumpRepair n 40
        | none => (s.placeRepair n r parts).getD s

/-- A fetch brings nothing (R264, R266, R273): the fragment is unavailable and the next candidate is fetched; the next copy of a block is
asked for. -/
def State.failFetch (s : State) (key : Nat) : State :=
  match tget s.south.fetches key with
  | none => s
  | some f =>
    let s := (s.updSouth (fun q => { q with fetches := tdel q.fetches key })).touchShelf f.shelf
    match f.job with
    | .restore h i => (s.updRestoreExt h i (fun e => { e with bad := e.bad ++ [f.frag] })).pumpRestore h
    | .repair n =>
      let s := s.pumpRepair n 40
      match tget s.south.repairs n with
      | some r =>
        let out := s.south.fetches.any (fun g => g.2.job == .repair n)
        if r.newRecord.isNone && r.candidates.isEmpty && !out && !r.evacuate && decide (r.available.length < recK r.record) && !r.unrecoverable then
          (s.updSouth (fun q => { q with repairs := tput q.repairs n { r with unrecoverable := true } })).markUnrecoverable (beAt r.record 8 16)
        else s
      | none => s
    | .regen _ => s
    | .block k i => match s.fetchBlock k (i + 1) with
      | some s => s
      | none =>
        let (hit, rest) := s.south.waiting.partition (fun w => (s.neededBlocks w).contains k)
        (hit.foldl (fun s w => s.noBlock w) (s.updSouth (fun q => { q with waiting := rest }))).finishRebuild
    | .names _ => s
    | .rebuild => s.finishRebuild

/-- The record that a fetched fragment is checked against (R137, R266). -/
def State.fetchRecord (s : State) (j : FetchFor) : List Byte :=
  match j with
  | .restore h i => match (s.restore h).bind (fun r => r.ext? i) with | some e => e.record | none => []
  | .repair n => match tget s.south.repairs n with | some r => r.record | none => []
  | .regen e => match s.extent e with | some x => x.record | none => []
  | _ => []

/-- A whole fragment has come (R137, R266): its header and its payload are checked, and it becomes available. -/
def State.takeFragment (s : State) (key : Nat) (f : Fetch) (bs : List Byte) : State :=
  let r := s.fetchRecord f.job
  let hdr := bs.take 128
  let pay := bs.drop 128
  if !headerMatches hdr r f.frag || decide (pay.length ≠ payloadLen (recLen r) (recK r)) || shakeDom 0x03 pay != recHash r f.frag then
    (s.updSouth (fun q => { q with discarded := q.discarded + 1 })).failFetch key
  else
    let b : FetchedFrag := { channel := f.channel, runs := f.runs, payload := pay, header := hdr }
    let s := (s.updSouth (fun q => { q with fetches := tdel q.fetches key })).touchShelf f.shelf
    match f.job with
    | .restore h i => (s.updRestoreExt h i (fun e => { e with available := tput e.available f.frag b })).pumpRestore h
    | .repair n => (s.updSouth (fun q => { q with repairs := tmod q.repairs n (fun r => { r with available := tput r.available f.frag b }) })).repairArrived n
    | .regen e => match s.extent e with
      | some x => s.setExtent e { x with fetched := tput x.fetched f.frag b }
      | none => s
    | _ => s

/-- A whole answer has come. -/
def State.takeAnswer (s : State) (key : Nat) (f : Fetch) (bs : List Byte) : State :=
  let s := s.touchShelf f.shelf
  match f.job with
  | .block k _ => if s.blockGood k bs then (((s.updSouth (fun q => { q with fetches := tdel q.fetches key })).takeBlock k bs).serveWaiting).finishRebuild else s.failFetch key
  | .names d => (s.updSouth (fun q => { q with fetches := tdel q.fetches key })).takeNames d bs
  | .rebuild => ((s.updSouth (fun q => { q with fetches := tdel q.fetches key })).takeRebuild bs).finishRebuild
  | _ => s.takeFragment key f bs

/-- GET_DATA: bytes of an answer stream arrive, a fragment's payload into the restore buffers; a whole fragment is checked, and with k
fragments the extent's decode starts (R266, R267). -/
def execGetData (m : SouthIn) (s : State) : Host.Outcome State Fault Refusal :=
  let (s, go) := s.acceptSouth m 0x31
  let offset := m.word
  let data := m.payload
  let key := fetchKey m.shelf m.xid
  match tget s.south.fetches key with
  | none => ok s
  | some f =>
    if !go ∨ f.parts.any (fun g => g.1 == offset) then ok s
    else
      let f := { f with begun := true, parts := f.parts ++ [(offset, data)], endAt := if m.last then some (offset + data.length) else f.endAt }
      let s := s.updSouth (fun q => { q with fetches := tput q.fetches key f })
      let body := data.drop (128 - offset)
      let s := if f.runs.isEmpty ∨ !s.chanHealthy f.channel then s else s.writePayload f.channel f.runs (body.length / 4096 + 2) (max offset 128 - 128) body
      match f.endAt with
      | some n => if complete f.parts n then ok (s.takeAnswer key f (joined f.parts)) else ok s
      | none => ok s

/-- GET_TIMEOUT: no GET_DATA has begun within GET_MS; the fragment is unavailable and the next candidate is fetched (R266). -/
def execGetTimeout (shelf xid : Nat) (s : State) : Host.Outcome State Fault Refusal :=
  let key := fetchKey shelf xid
  match tget s.south.fetches key with
  | some f => if f.sent ∧ !f.begun then ok ((s.advanceTo (f.sentAt + max 10 (s.rd Reg.FT_GETTMO.GET_MS) * msec)).failFetch key) else ok s
  | none => ok s

/-- FT_STATUS: a STATUS of a shelf answers a request: other than OK, the request brings nothing (R241, R266). -/
def execFtStatus (m : SouthIn) (s : State) : Host.Outcome State Fault Refusal :=
  let (s, go) := s.acceptSouth m 0x70
  if !go then ok s
  else if m.len ≠ 8 ∨ beAt m.payload 1 3 ≠ 0 then ok (s.southBadField m)
  else if m.word ≠ 0 then ok (s.failFetch (fetchKey m.shelf m.xid)) else ok s

/-- RESTORE_BUFFER_WAIT: restore-buffer pages are free again and a held restore goes on (R637). -/
def execRestoreBufferWait (handle : Nat) (s : State) : Host.Outcome State Fault Refusal :=
  match s.restore handle with
  | some r => if r.held then ok (s.pumpRestore handle) else ok s
  | none => ok s

/-- EVACUATE: RPR_CMD OP = EVACUATE starts the evacuation of a READONLY medium (R271); ERR tells a medium that is unknown or not READONLY. -/
def execEvacuate (media : Nat) (s : State) : Host.Outcome State Fault Refusal :=
  let d := media % 65536
  let s := s.wr Reg.RPR_CMD.MEDIA d
  match tget s.shepherd.media d with
  | none => ok (s.wr Reg.RPR_CMD.ERR 1)
  | some x =>
    if x.state ≠ 2 then ok (s.wr Reg.RPR_CMD.ERR 2)
    else if d ∈ s.south.evacuating then ok (s.wr Reg.RPR_CMD.ERR 0)
    else ok (((s.wr Reg.RPR_CMD.ERR 0).updSouth (fun q => { q with evacuating := q.evacuating ++ [d] })).failMedium d true)

/-- Give up a repair that has not settled: its fragments in staging are freed, those on shelves deleted (R254, R276). -/
def State.dropRepair (s : State) (n : Nat) : State :=
  match tget s.south.repairs n with
  | none => s
  | some r =>
    let p := payloadLen (recLen r.record) (recK r.record) + 128
    let gen := recGen r.record + 1
    let s := r.frags.foldl (fun s f =>
      if f.2.phase = .durable ∨ f.2.phase = .freed then s.sendDelete f.2.shelf (beAt r.record 8 16) (beAt r.record 24 8) f.1 f.2.media gen
      else (s.subAlloc f.2.media p).subPending f.2.shelf p) s
    s.updSouth (fun q => { q with repairs := tdel q.repairs n, fetches := tkeep q.fetches (fun _ f => f.job != .repair n) })

/-- EVACUATE_CANCEL: RPR_CMD OP = CANCEL ends an evacuation; its repairs that have not settled are given up (R271). -/
def execEvacuateCancel (media : Nat) (s : State) : Host.Outcome State Fault Refusal :=
  let d := media % 65536
  let s := s.wr Reg.RPR_CMD.MEDIA d
  if (tget s.shepherd.media d).isNone then ok (s.wr Reg.RPR_CMD.ERR 1)
  else
    let mine := tkeys s.south.repairs (fun _ r => r.evacuate && r.media == d && !r.hasLeaf)
    ok (mine.foldl (fun s n => s.dropRepair n) ((s.wr Reg.RPR_CMD.ERR 0).updSouth (fun q => { q with evacuating := q.evacuating.filter (· != d) })))

/-- The plaintext of a restore extent from row-keyed pieces. -/
def RestoreExt.bytes (e : RestoreExt) : List Byte := e.plain.flatMap (fun p => p.2)

/-- RESTORE_DATA_SEND: the next bytes of a restore go out where their extent's tag has verified and credit allows (R93, R94); after the
last byte RESTORE_END OK closes the handle, and the plaintext stays until it is acknowledged (R95). -/
def execRestoreDataSend (handle : Nat) (s : State) : Host.Outcome State Fault Refusal :=
  match s.restore handle with
  | none => ok s
  | some r => match s.session r.session with
    | none => ok s
    | some ss =>
      let size := extBytes r.ext
      match r.ext? (r.sent / size) with
      | none => ok s
      | some e =>
        let n := min (min (min r.credit r.upTo - r.sent) ss.maxData) (size - r.sent % size)
        if !e.verified ∨ n = 0 ∨ r.ended ∨ s.safe ∨ ss.state ≠ .established then ok s
        else
          let data := slice e.bytes (r.sent % size) n
          let s := (s.sendFrame r.session opData (handleStream r.handle) r.sent data).updQueue (fun q => { q with bytesOut := q.bytesOut + data.length })
          let s := s.updSouth (fun q => { q with restores := tmod q.restores handle (fun r => { r with sent := r.sent + n }) })
          ok (if r.sent + n = r.upTo then s.finishRestore handle else s)

/-- The restore idle time-out in nanoseconds (Table 2-6). -/
def State.restoreIdle (s : State) : Nat := s.dictVal 0x2000 7 * second

/-- RESTORE_IDLE_TIMEOUT: a handle that holds plaintext, or an extent that waits for egress space, has made no progress for the restore
idle time-out; it ends STALLED with its buffers freed (R96). -/
def execRestoreIdleTimeout (handle : Nat) (s : State) : Host.Outcome State Fault Refusal :=
  match s.restore handle with
  | none => ok s
  | some r =>
    let holds := r.exts.any (fun e => (!e.ranges.isEmpty && !e.taken) || (e.ranges.isEmpty && decide (recK e.record ≤ e.available.length) && decide (16777216 < s.egressUsed + recLen e.record)))
    if !holds then ok s else ok ((s.advanceTo (r.progress + s.restoreIdle)).endRestore handle cStalled)

end Sys2Proof.Machine
end

