-- ==== Sys2Proof/Machine/Staging.lean ====
section
/-! DEFINITION. Staging's commands (chapter 04): channel failure, regeneration, page moves, and the end of a retraining. -/

namespace Sys2Proof.Machine

/-- Objects whose code no longer passes R31 on the healthy channels and which still need an extent granted: those open, and those ended with bytes not
yet granted (R31, R87). -/
def State.shortObjects (s : State) : List Nat :=
  (s.queue.objects.filter (fun kv => !spreadOk kv.2.k kv.2.m s.chanCount
    && (kv.2.state == .openObj || (kv.2.state == .ended && (match kv.2.length with | some l => decide (kv.2.granted < l) | none => false))))).map Prod.fst

/-- What follows the loss of a channel beyond its own fragments: objects below R31 are refused further extents, repairs and restores with parts lost
go on from others (R31, R149, R156, R266, R276). Nothing changes where no channel has been lost. -/
def State.afterLoss (s : State) : State :=
  let s := if s.staging.lost.isEmpty then s else s.shortObjects.foldl (fun s o => s.abortObject o cChannelsShort true) s
  let hit := tkeys s.south.repairs (fun _ r => r.frags.any (fun f => f.2.phase == .lost || (f.2.channel ∈ s.staging.lost && (f.2.phase == .held || f.2.phase == .sent))))
  let s := hit.foldl (fun s n => s.restartRepair n) s
  if s.staging.lost.isEmpty then s else s.pumpRepairs.pumpRestores

/-- A DDR5 controller reports its channel failed (R418): MC_CH_FAIL quarantines it, which loses the channel (R149) and abandons a retraining in
progress on another one (R39). -/
def State.channelFailed (s : State) (channel : Nat) : State :=
  if 12 ≤ channel ∨ !s.chanHealthy channel then s
  else
    ((s.raise (srcMc channel 2) channel).loseChannel channel).afterLoss

/-- CHANNEL_FAIL: a DDR5 controller meets a criterion of R418 that the model does not count itself (training, calibration, lock, parity). -/
def execChannelFail (channel : Nat) (s : State) : Host.Outcome State Fault Refusal := ok (s.channelFailed channel)

/-- What a regeneration of an extent needs (R152): a healthy stitch unit for each of its ranges of at most 4 MiB, and a core that may hash. The model
takes the whole regeneration in one step (assumption 128). -/
def State.canRegenerate (s : State) (x : Extent) : Bool :=
  decide (ceilDiv x.len 4194304 ≤ (stitchUnits.filter s.stuHealthy).length) && stitchUnits.any s.stuHealthy && !s.hashCores.isEmpty && !s.safe

/-- Fewer than k fragments can be read (R154): STG_REGEN_FAIL is raised, the acknowledged ones are fetched back, each on the channel that the restore
counter names (R147, R184), and without enough of them the object is lost: aborted with UNRECOVERABLE (assumption 39). Of an extent not yet staged
the spec gives no outcome: the model aborts its object in the same way, without STG_REGEN_FAIL (DESIGN CHOICE, assumption 121). -/
def State.regenShort (s : State) (e : Nat) (x : Extent) (avail : List Nat) : State :=
  let s := if x.phase = .sealed then s else s.raise srcStgRegenFail
  let asked := (s.south.fetches.filter (fun f => f.2.job == .regen e)).map (fun f => f.2.frag)
  let r := match s.locator e with | some l => l.record | none => x.record
  let drained := tkeys x.frags (fun i f => (f.phase == .durable || f.phase == .freed) && f.media != 65536 && !avail.contains i)
  let more := drained.filter (fun i => !asked.contains i && (s.survivors r).contains i)
  if avail.length + asked.length + more.length < x.k then s.abortObject x.obj cUnrecoverable
  else more.foldl (fun s i => match s.fetchFrag (.regen e) r i (s.shepherd.restore % max 1 s.chanList.length) with
    | some s => s.updShepherd (fun p => { p with restore := p.restore + 1 })
    | none => s) s

/-- Regenerate the missing fragments of an extent in one pass (R152, R153). -/
def State.regenerate (s : State) (e : Nat) (x : Extent) : State :=
  let p := payloadLen x.len x.k
  let missing := tkeys x.frags (fun _ f => f.phase == .lost)
  let avail := s.readable x
  match nextSelection x.k avail (tgetD s.staging.failedSel e []) with
  | none => s.regenShort e x avail
  | some sel =>
    let data := rsDecode x.k p sel (s.readablePayload x)
    let parts := missing.map (fun i => (i, rsFragment x.k p data i))
    match parts.find? (fun q => some (shakeDom 0x03 q.2) != (tget x.frags q.1).bind Fragment.hash) with
    | some (i, _) =>
      let detail := match tget x.frags i with | some f => checkDetail f.channel ((runPages f.runs).headD 0) | none => 0
      (s.note srcStgCheckFail detail).updStaging (fun t => { t with failedSel := tupd t.failedSel e [] (fun l => l ++ [sel]) })
    | none => match s.placeRegen e p parts with
      | none => missing.foldl (fun s i => s.updFrag e i (fun f => { f with moving := some 0 })) s
      | some s =>
        let s := if x.phase = .sealed then missing.foldl (fun s i => s.updFrag e i (fun f => { f with phase := .filling })) s else s
        let s := s.updStaging (fun t => { t with failedSel := tdel t.failedSel e })
        match s.extent e with
        | some y => s.setExtent e { y with fetched := [] }
        | none => s

/-- The missing fragments of an extent may be regenerated now: its hashes are recorded and it is not aborted (R150, R151). -/
def regenDue (x : Extent) : Bool :=
  (x.phase == .sealed || x.phase == .staged || x.phase == .settled) && x.frags.any (fun f => f.2.phase == .lost)
  && x.frags.all (fun f => f.2.hash.isSome)

/-- PAGE_MOVE_DONE: the reads accepted before a run-list switch have finished, and the old page is retired (R157). -/
def execPageMoveDone (channel oldPage : Nat) (s : State) : Host.Outcome State Fault Refusal :=
  if s.staging.moves.any (fun m => m.channel == channel && m.oldPage == oldPage) then
    ok ((s.updStaging (fun t => { t with moves := t.moves.filter (fun m => m.channel != channel || m.oldPage != oldPage) })).retirePage channel oldPage).afterLoss
  else ok s

/-- RETRAIN_END: a channel's retraining ends; the channel joins H again, and held extents and waiting fragments may proceed (R148). -/
def execRetrainEnd (channel : Nat) (s : State) : Host.Outcome State Fault Refusal :=
  if 12 ≤ channel ∨ !s.chanRetraining channel then ok s
  else
    let s := s.setBit Reg.STG_CHSTATE.RETRAIN channel false
    let s := match s.chan channel with | some ch => s.setChan channel { ch with prevCalibration := ch.calibration, trained := true } | none => s
    ok (s.updQueue (fun q => { q with extents := tmap q.extents (fun _ x => if x.phase = .granted ∧ !x.noPlace then { x with held := false } else x) })).pumpRestores

end Sys2Proof.Machine
end

