-- ==== Sys2Proof/Machine/Ecc.lean ====
section
/-!
DEFINITION. The memory checkers at work (chapter 12): counting, repeat tracking, sparing, the channel-failure counts of R418, the
injection of R426, and the reading of memory through its checker; the scrubs of SRAM and DRAM are written over these.
-/

namespace Sys2Proof.Machine

/-- Change the guards' and trackers' state. -/
def State.updGuards (s : State) (f : Guards → Guards) : State := { s with guards := f s.guards }

/-- The checker of an address, numbered as ECC_INJ.CHECKER: a DDR5 controller, or the cluster of SYSRAM or RSRAM (Table 14-4). -/
def checkerOf (a : Nat) : Option Nat :=
  if inDram a then (if a < dramBase 12 then some ((a - dramBase 0) / 0x8000000000) else none)
  else if 0x4000000 ≤ a ∧ a < 0x5000000 then some 61
  else if 0x800000 ≤ a ∧ a < 0x900000 then some 62
  else none

/-- Window of repeat tracking in nanoseconds, and the threshold (ECC_RPT_CFG). -/
def State.trackWindow (s : State) : Nat := max 1 (s.rd Reg.ECC_RPT_CFG.WINDOW_H) * hour
def State.trackThresh (s : State) : Nat := max 2 (s.rd Reg.ECC_RPT_CFG.THRESH)

/-- Tracker `u`'s entries by their entry number, and an entry's change. -/
def State.trackEntry (s : State) (u e : Nat) : Option TrackEntry := tget s.guards.trackers (u * 256 + e)
def State.putEntry (s : State) (u e : Nat) (x : TrackEntry) : State := s.updGuards (fun g => { g with trackers := tput g.trackers (u * 256 + e) x })

/-- The entry of a location in a tracker. -/
def State.findEntry (s : State) (u loc : Nat) : Option Nat :=
  (List.range 256).find? (fun e => match s.trackEntry u e with | some x => x.loc == loc | none => false)

/-- Where a new location goes (R420): a free entry, else the one with the oldest first correction that is not hard. -/
def State.entryRoom (s : State) (u : Nat) : Option Nat :=
  match (List.range 256).find? (fun e => (s.trackEntry u e).isNone) with
  | some e => some e
  | none => argMin (fun e => match s.trackEntry u e with | some x => x.firstTime | none => 0)
      ((List.range 256).filter (fun e => match s.trackEntry u e with | some x => !x.hard | none => false))

/-- Which masters a checker's Trail records name (assumption 22): the DRAM calibration engine for a controller, the Burnisher for a
cluster. -/
def trackMaster (u : Nat) : Nat := if u < 16 then 93 else masterBurnisher

/-- Make a tracker entry for a location, reusing one where the tracker is full and recording the eviction (R420). -/
def State.newEntry (s : State) (u loc : Nat) (hard : Bool) : State :=
  match s.entryRoom u with
  | none => s
  | some e =>
    let s := match s.trackEntry u e with
      | some old => s.trailRec 0x0601 (trackMaster u) false (leBytes 1 u ++ leBytes 8 old.loc)
      | none => s
    s.putEntry u e { loc := loc, count := 1, hard := hard, first := s.rtc / second, firstTime := s.now }

/-- The words of a mapped SRAM cluster whose stored check bits are not their encoding and whose place (row and macro) meets `p`. -/
def State.badSram (s : State) (k : Nat) (p : Nat → Bool) : List Nat :=
  (tkeys s.mem.codes (fun w _ => checkerOf (4 * w) == some (16 + k) && p (Config.sramPlace (4 * w)).toNat)).map (4 * ·)

/-- Copy SRAM words to another row or memory, corrected (R421): every correctable word takes its corrected data and fresh check bits. -/
def State.copyCorrected (s : State) (ws : List Nat) : State := { s with mem := s.mem.fix ws }

/-- A hard SRAM row (R421): its words are copied, corrected, to a spare row of its macro and remapped, or the macro is fenced and its words
are rebuilt, corrected, in the memory that its owner keeps them in from then on (Table 1-10). The memories that are not mapped hold their
contents in State whatever macro served them, so a fenced macro of theirs loses nothing (R422). -/
def State.spareRow (s : State) (k loc : Nat) : State :=
  let m := k * 65536 + loc % 65536
  let used := tgetD s.guards.spareRows m 0
  if used < 2 then
    (s.copyCorrected (s.badSram k (fun l => l == loc))).updGuards (fun g => { g with spareRows := tput g.spareRows m (used + 1), remapped := (k, loc) :: g.remapped })
  else if m ∈ s.guards.fenced then s
  else
    ((s.copyCorrected (s.badSram k (fun l => l % 65536 == loc % 65536))).updGuards (fun g => { g with fenced := m :: g.fenced })).note srcEccSpareOut m

/-- The entries of a list of times and rows within a window, with one more. -/
def recentRows (now window row : Nat) (l : List (Nat × Nat)) : List (Nat × Nat) :=
  (now, row) :: l.filter (fun p => decide (now < p.1 + window) && p.2 != row)

/-- A hard row of the DRAM device that serves a bit (R418): 16 distinct rows within 24 h fail the channel. -/
def State.deviceRow (s : State) (c dev a : Nat) : State :=
  let l := recentRows s.now (24 * hour) (Config.dramRow a) (tgetD s.guards.devRows (c * 16 + dev) [])
  let s := s.updGuards (fun g => { g with devRows := tput g.devRows (c * 16 + dev) l })
  if 16 ≤ l.length then s.channelFailed c else s

/-- What follows a hard declaration (R419, R421, R423): ECC_HARD; a page of the seal-service space is retired according to its use, a page
outside it is named in DETAIL; an SRAM row is spared. -/
def State.declareHard (s : State) (u loc : Nat) (dev : Option Nat) : State :=
  let s := s.bump Reg.ECC_COUNTS.HARD
  if u < 16 then
    let p := (loc - dramBase u) / 4096
    let s := s.note srcEccHard (loc / 4096)
    let s := match dev with | some d => s.deviceRow u d loc | none => s
    match s.chan u with
    | some ch => if p < ch.pages then (s.hardPage u p).afterLoss else s
    | none => s
  else (s.note srcEccHard loc).spareRow (u - 16) loc

/-- A correction at a location (R419): its entry counts it, and at THRESH within the window the location is hard. -/
def State.track (s : State) (u loc : Nat) (dev : Option Nat) : State :=
  match s.findEntry u loc with
  | none => s.newEntry u loc false
  | some e =>
    match s.trackEntry u e with
    | none => s
    | some x =>
      if x.hard then s.putEntry u e { x with count := satAdd 255 x.count 1 }
      else if x.firstTime + s.trackWindow < s.now then s.putEntry u e { loc := loc, count := 1, hard := false, first := s.rtc / second, firstTime := s.now }
      else if s.trackThresh ≤ x.count + 1 then (s.putEntry u e { x with count := satAdd 255 x.count 1, hard := true }).declareHard u loc dev
      else s.putEntry u e { x with count := satAdd 255 x.count 1 }

/-- A location declared hard at once (R417). -/
def State.hardAtOnce (s : State) (u loc : Nat) : State :=
  match s.findEntry u loc with
  | none => (s.newEntry u loc true).declareHard u loc none
  | some e =>
    match s.trackEntry u e with
    | some x => if x.hard then s else (s.putEntry u e { x with hard := true }).declareHard u loc none
    | none => s

/-- The DRAM device that serves a data or check bit (R418). -/
def deviceOf : EccOutcome → Nat → Option Nat
  | .data i, _ => some (i / 4)
  | .check, syn => (List.range 8).find? (fun j => syn == 2 ^ j) |>.map (fun j => (32 + j) / 4)
  | _, _ => none

/-- A corrected bit of a DRAM device: 64 within 1 s fail the channel (R418). -/
def State.deviceBit (s : State) (c : Nat) (dev : Option Nat) : State :=
  match dev with
  | none => s
  | some d =>
    let l := s.now :: (tgetD s.guards.devBits (c * 16 + d) []).filter (fun t => decide (s.now < t + second))
    let s := s.updGuards (fun g => { g with devBits := tput g.devBits (c * 16 + d) l })
    if 64 ≤ l.length then s.channelFailed c else s

/-- A correction at a checker (R415, R419): counted, tracked, and held against its DRAM device. -/
def State.corrects (s : State) (u loc : Nat) (o : EccOutcome) (syn : Nat) : State :=
  let s := s.bump Reg.ECC_COUNTS.CE
  let dev := if u < 16 then deviceOf o syn else none
  let s := s.track u loc dev
  if u < 16 then s.deviceBit u dev else s

/-- DETAIL of a memory source: the word address divided by 4 in DRAM and in mapped SRAM (assumption 23). -/
def wordDetail (a : Nat) : Nat := a / 4 % 2 ^ 32

/-- An uncorrectable outcome (R414): counted and raised; 2 within 10 ms on a channel fail it (R418). An injected one is recorded and
notified alone (R481). -/
def State.uncorrectable (s : State) (u detail : Nat) (injected : Bool) : State :=
  let s := s.bump Reg.ECC_COUNTS.UE
  let src := if u < 16 then srcMc u 0 else srcEccUe (u - 16)
  if injected then s.detect src detail .quiet
  else
    let s := s.raise src detail
    if u < 16 then
      let l := s.now :: (tgetD s.guards.ueTimes u []).filter (fun t => decide (s.now < t + 10 * msec))
      let s := s.updGuards (fun g => { g with ueTimes := tput g.ueTimes u l })
      if 2 ≤ l.length then s.channelFailed u else s
    else s

/-- An ADDR outcome that persists after the re-read (R417, R418). -/
def State.addrError (s : State) (c a : Nat) (injected : Bool) : State :=
  if injected then s.detect (srcMc c 1) (wordDetail a) .quiet
  else
    let s := (s.raise (srcMc c 1) (wordDetail a)).hardAtOnce c a
    let l := recentRows s.now (24 * hour) (Config.dramRow a) (tgetD s.guards.addrRows c [])
    let s := s.updGuards (fun g => { g with addrRows := tput g.addrRows c l })
    if 16 ≤ l.length then s.channelFailed c else s

/-- The record of an ADDR outcome whose re-read succeeded (R417). -/
def State.rereadRecord (s : State) (a outcome : Nat) : State := s.trailRec 0x0602 93 false (leBytes 8 a ++ leBytes 1 outcome)

/-- The mask that ECC_INJ puts on the next read of a checker, 0 where none; the read is counted (R426). -/
def State.injection (s : State) (u : Nat) : Nat × State :=
  let n := s.rd Reg.ECC_INJ.COUNT
  if s.rd Reg.ECC_INJ.CHECKER = u ∧ 0 < n then (s.rd Reg.ECC_INJ.MASK, s.wr Reg.ECC_INJ.COUNT (n - 1)) else (0, s)

/-- The tracked location of a word: its address in DRAM, its macro and row in SRAM. -/
def locOf (u a : Nat) : Nat := if u < 16 then a else (Config.sramPlace a).toNat

/-- Store the corrected word with fresh check bits (R415). -/
def State.writeBack (s : State) (a d : Nat) : State := s.putWord a d (encodeWord a d)

/-- The syndrome of a stored word under an injected mask. -/
def State.syndrome (s : State) (a mask : Nat) : Nat :=
  let d := wordAt s.mem.cells a
  ((s.mem.code a).getD (encodeWord a d) ^^^ encodeWord a d) ^^^ (if inDram a then mask else mask % 128)

/-- Act on the outcome of one decoded read of a word: the data, whether with poison, and the state after (Table 12-3). -/
def State.actOn (s : State) (u a mask : Nat) (o : EccOutcome) : (Nat × Bool) × State :=
  let d := wordAt s.mem.cells a
  let inj := mask != 0
  match o with
  | .clean => ((d, false), s)
  | .data i =>
    if inj then ((d ^^^ 2 ^ i, false), s.bump Reg.ECC_COUNTS.CE)
    else ((d ^^^ 2 ^ i, false), (s.writeBack a (d ^^^ 2 ^ i)).corrects u (locOf u a) o 0)
  | .check =>
    if inj then ((d, false), s.bump Reg.ECC_COUNTS.CE)
    else ((d, false), (s.writeBack a d).corrects u (locOf u a) o (s.syndrome a 0))
  | .addr => ((d, true), s.addrError u a inj)
  | .poison => ((d, true), s)
  | .ue => ((d, true), s.uncorrectable u (wordDetail a) inj)

/-- Read a word through its checker (R414 to R417, R426): an ADDR outcome is read again once. -/
def State.checkWord (s : State) (a : Nat) : (Nat × Bool) × State :=
  match checkerOf a with
  | none => ((wordAt s.mem.cells a, false), s)
  | some u =>
    let (mask, s) := s.injection u
    match eccDecode (inDram a) (s.syndrome a mask) with
    | .addr =>
      let (mask2, s) := s.injection u
      let o := eccDecode (inDram a) (s.syndrome a mask2)
      let r := s.actOn u a mask2 o
      if o = .addr then (r.1, (s.actOn u a (mask ||| mask2) o).2)
      else if r.1.2 then r
      else (r.1, r.2.rereadRecord a (if o = .clean then 0 else 1))
    | o => s.actOn u a mask o

/-- Read a list of words through their checkers: whether any returned poison. -/
def State.checkWords (s : State) : List Nat → Bool × State
  | [] => (false, s)
  | a :: as =>
    let ((_, p), s) := s.checkWord a
    let (q, s) := State.checkWords s as
    (p || q, s)

/-- The words of a range that need their checker looked at one by one: those listed, and the first ones while an injection lasts. -/
def State.touched (s : State) (a n : Nat) : List Nat :=
  let listed := s.mem.listed a n
  let inj := if checkerOf a = some (s.rd Reg.ECC_INJ.CHECKER) then (List.range (min (s.rd Reg.ECC_INJ.COUNT) (ceilDiv (a % 4 + n) 4))).map (fun i => a / 4 * 4 + 4 * i) else []
  inj ++ listed.filter (fun w => decide (w ∉ inj))

/-- Read bytes through their checkers: the bytes, whether with poison, and the state after. -/
def State.readChecked (s : State) (a n : Nat) : (List Byte × Bool) × State :=
  let bytes := s.readMem a n
  let (p, s) := s.checkWords (s.touched a n)
  ((bytes, p), s)

/-- Read a page through its checker: the page, where it returned poison. -/
def State.touchPage (s : State) (c p : Nat) : Option Nat × State :=
  let read := s.checkWords (s.touched (pageAddr c p) 4096)
  (if read.1 then some p else none, read.2)

/-- Read the pages of a fragment through their checkers: the first one that returned poison. -/
def State.touchPages (s : State) (c : Nat) (pages : List Nat) : Option Nat × State :=
  pages.foldl (fun st p => if st.1.isSome then st else st.2.touchPage c p) (none, s)

/-- SRAM clusters whose banks carry a parity macro (R422): the ingest and egress buffers and the context cache. -/
def parityCluster (k : Nat) : Bool := decide (20 ≤ k ∧ k < 32)

/-- Act on the syndrome that the flips of a word of an unmapped memory give (Table 12-3, R421, R422): a bank with a parity macro rebuilds
an uncorrectable word where no other word at its address is bad. -/
def State.scrubHidden (s : State) (k loc flips : Nat) (otherBad : Bool) : State :=
  let u := 16 + k
  let (mask, s) := s.injection u
  let syn := checkBits (flips % 2 ^ 32) ^^^ (flips / 2 ^ 32 % 128) ^^^ (mask % 128)
  let o := eccDecode false syn
  let rebuilt := parityCluster k && !otherBad
  match o with
  | .clean => s
  | .data _ | .check => if mask ≠ 0 then s.bump Reg.ECC_COUNTS.CE else s.corrects u loc o syn
  | .addr | .poison => s
  | .ue => if rebuilt then s else s.uncorrectable u loc (mask != 0)

/-- Bit errors arise in a stored word: its data and check bits are XORed with the flips (data in the low 32 bits). -/
def State.upset (s : State) (a flips : Nat) : State :=
  if flips = 0 then s
  else
    let d := wordAt s.mem.cells a
    let c := (s.mem.code a).getD (encodeWord a d)
    s.putWord a (d ^^^ flips % 2 ^ 32) (c ^^^ flips / 2 ^ 32 % (if inDram a then 256 else 128))

/-- SRAM_SCRUB: the Burnisher scrubs a word of an SRAM cluster in which the bits of `flips` have upset (R592): a word of SYSRAM (45) or
RSRAM (46) by its address, a word of an unmapped memory by its macro and row. -/
def execSramScrub (cluster ram row addr flips : Nat) (otherBad : Bool) (s : State) : Host.Outcome State Fault Refusal :=
  if 48 ≤ cluster ∨ !s.lit then ok s
  else if cluster = 45 ∨ cluster = 46 then
    if checkerOf addr = some (16 + cluster) then ok (((s.upset (addr / 4 * 4) flips).checkWord (addr / 4 * 4)).2) else ok s
  else
    let loc := ram % 65536 + row % 65536 * 65536
    if cluster * 65536 + ram % 65536 ∈ s.guards.fenced then ok s else ok (s.scrubHidden cluster loc flips otherBad)

/-- TRACKER_WINDOW_END: the window of a tracker entry ends without a hard declaration, and the entry is cleared (R419). -/
def execTrackerWindowEnd (unit entry : Nat) (s : State) : Host.Outcome State Fault Refusal :=
  if 64 ≤ unit ∨ 256 ≤ entry then ok s
  else match s.trackEntry unit entry with
    | some x =>
      if x.hard then ok s
      else ok ((s.advanceTo (x.firstTime + s.trackWindow)).updGuards (fun g => { g with trackers := tdel g.trackers (unit * 256 + entry) }))
    | none => ok s

/-- ECC_INJ: firmware sets the checker, the mask and the count of reads to affect (R426); RWK, so a write from Tack world leaves it. -/
def execEccInj (checker mask count : Nat) (world : World) (s : State) : Host.Outcome State Fault Refusal :=
  if world = .tack then ok s
  else ok (((s.wr Reg.ECC_INJ.CHECKER checker).wr Reg.ECC_INJ.MASK mask).wr Reg.ECC_INJ.COUNT count)

/-- The situations of R425 in which a write of 1 to ECC_TEST.EN is accepted. -/
def State.testAllowed (s : State) : Bool :=
  s.isSet Reg.AT_STATUS.BOOT || bitOf (s.rd Reg.DBG_STATUS.OPEN) 1 || (s.svc == .heel && !s.guards.entryStarted)

/-- ECC_TEST_ENABLE: a write of ECC_TEST (R425): EN is set only in the situations of R425; ARMED is set by a 1 and clears with EN. -/
def execEccTestEnable (en armed : Bool) (flipChk : Nat) (world : World) (s : State) : Host.Outcome State Fault Refusal :=
  if world = .tack then ok s
  else
    let on := en && (s.isSet Reg.ECC_TEST.EN || s.testAllowed)
    let clears := s.isSet Reg.ECC_TEST.EN && !on
    let s := (s.flag Reg.ECC_TEST.EN on).wr Reg.ECC_TEST.FLIP_CHK flipChk
    ok (s.flag Reg.ECC_TEST.ARMED (!clears && (armed || s.isSet Reg.ECC_TEST.ARMED)))

end Sys2Proof.Machine
end

