-- ==== Sys2Proof/Machine/Guards.lean ====
section
/-!
DEFINITION. The access guards (chapter 12): the targets of the address map, the entry that governs a byte, the fixed rules, the check of an
access, the violation log, and the commands that edit and commit the access table.
-/

namespace Sys2Proof.Machine

/-- One access as a guard sees it (R427): its master, its world and level (supervisor or user), its kind, first byte and length. -/
structure AccessReq where
  master : Nat
  world : World
  user : Bool
  kind : AccessKind
  addr : Nat
  len : Nat
  deriving DecidableEq, Repr

/-- Base and size of a target (Table 12-1); a channel's size is its installed capacity (R409). -/
def State.targetSpan (s : State) (t : Nat) : Option (Nat × Nat) :=
  if t = 0 then some (0, 0x40000)
  else if t = 1 then some (0x800000, 0x100000)
  else if t = 2 then some (0x2000000, 0x2000000)
  else if t = 3 then some (0x4000000, 0x1000000)
  else if t = 4 then some (0x100000000, 0x1000000000)
  else if 16 ≤ t ∧ t < 28 then some (dramBase (t - 16), min 0x8000000000 (tgetD s.guards.installed (t - 16) 0))
  else none

/-- The targets of the address map. -/
def targets : List Nat := [0, 1, 2, 3, 4, 16, 17, 18, 19, 20, 21, 22, 23, 24, 25, 26, 27]

/-- A byte lies in a target. -/
def State.inTarget (s : State) (t a : Nat) : Bool :=
  match s.targetSpan t with | some (b, n) => decide (b ≤ a ∧ a < b + n) | none => false

/-- The target of a byte (R409). -/
def State.targetOf (s : State) (a : Nat) : Option Nat := targets.find? (fun t => s.inTarget t a)

/-- The peripheral slot of an address in PERIPH (R410). -/
def slotOf (a : Nat) : Nat := (a - 0x2000000) / 0x10000

/-- A unit occupies a peripheral slot: a register heading lies in it. -/
def slotOccupied (slot : Nat) : Bool := registers.any (fun r => decide (r.slot ≤ slot ∧ slot < r.slot + r.slotCount))

/-- An entry of the active table or of the shadow. -/
def entryKey (t i : Nat) : Nat := t * 512 + i
def State.activeEntry (s : State) (t i : Nat) : AtEntry := tgetD s.guards.active (entryKey t i) ⟨0, 0⟩
def State.shadowEntry (s : State) (t i : Nat) : AtEntry := tgetD s.guards.shadow (entryKey t i) ⟨0, 0⟩

/-- How many entries a target has (Table 12-1). -/
def entryCount (t : Nat) : Nat := if t = 2 then 512 else if t ∈ targets then 32 else 0

/-- V, LOCK and RIGHTS of an entry (Tables 12-5 and 12-6). -/
def AtEntry.valid (e : AtEntry) (t : Nat) : Bool := if t = 2 then bitOf e.w0 40 else bitOf e.w0 0
def AtEntry.locked (e : AtEntry) (t : Nat) : Bool := if t = 2 then bitOf e.w0 41 else bitOf e.w0 1
def AtEntry.rights (e : AtEntry) (t : Nat) : Nat := if t = 2 then bitsOf e.w0 0 40 else bitsOf e.w1 0 40
def AtEntry.sizeLog (e : AtEntry) : Nat := bitsOf e.w0 4 6
def AtEntry.base (e : AtEntry) : Nat := bitsOf e.w0 12 36 * 4096
def AtEntry.test (e : AtEntry) : Bool := bitOf e.w0 2

/-- A region entry contains a byte. -/
def AtEntry.covers (e : AtEntry) (a : Nat) : Bool := decide (e.base ≤ a ∧ a < e.base + 2 ^ e.sizeLog)

/-- The entry that governs a byte of a target (R429): the lowest-numbered valid region, or the slot's own entry. -/
def State.governing (s : State) (t a : Nat) : Option Nat :=
  if t = 2 then (if (s.activeEntry 2 (slotOf a)).valid 2 then some (slotOf a) else none)
  else (List.range 32).find? (fun i => (s.activeEntry t i).valid t && (s.activeEntry t i).covers a)

/-- The group of a master that is not a core pair (Table 12-4). -/
def masterGroup (m : Nat) : Option Nat :=
  if 16 ≤ m ∧ m < 28 ∨ m = 77 ∨ m = 78 ∨ m = 87 then some 0
  else if 45 ≤ m ∧ m < 77 then some 1
  else if 28 ≤ m ∧ m < 45 then some 2
  else if m = 81 ∨ m = 82 then some 3
  else if m = 79 ∨ m = 80 ∨ m = 91 ∨ m = 95 then some 4
  else if m = 88 ∨ m = 89 ∨ m = 90 then some 5
  else if 83 ≤ m ∧ m ≤ 86 ∨ m = 93 ∨ m = 94 then some 6
  else if m = 92 then some 7
  else none

/-- The world that a master other than a core pair reports; its level is supervisor (Table 12-4). -/
def masterWorld (m : Nat) : World := match masterGroup m with | some 1 | some 2 | some 4 | some 7 => .keeper | _ => .tack

/-- An access by a unit, as its guard reports it. -/
def unitAccess (m : Nat) (k : AccessKind) (a n : Nat) : AccessReq := { master := m, world := masterWorld m, user := false, kind := k, addr := a, len := n }

/-- The context of a core access: 0 KS, 1 KU, 2 TS, 3 TU (Table 12-5). -/
def AccessReq.context (r : AccessReq) : Nat := 2 * (1 - r.world.num) + b2n r.user

/-- The access needs a read right, and a write right (R430). -/
def AccessKind.reads : AccessKind → Bool
  | .write => false
  | _ => true
def AccessKind.writes : AccessKind → Bool
  | .write | .atomic => true
  | _ => false

/-- Rights as an entry grants them to an access (R430). -/
def rightsAllow (rights : Nat) (r : AccessReq) : Bool :=
  let rd := if r.master < 16 then bitOf rights (2 * r.context) else match masterGroup r.master with | some g => bitOf rights (8 + g) | none => false
  let wr := if r.master < 16 then bitOf rights (2 * r.context + 1) else match masterGroup r.master with | some g => bitOf rights (16 + g) | none => false
  (if r.master < 16 then bitOf rights (24 + r.master) else true) && (!r.kind.reads || rd) && (!r.kind.writes || wr)

/-- An entry gives a Tack context a right: Tack memory, for the debug scopes of R617. -/
def tackMemory (rights : Nat) : Bool := bitsOf rights 4 4 != 0

/-- The test access port may make an access under its open scopes (Table 12-7, R617): KEEPER admits any memory that group DEBUG may use,
TACK that of Tack alone. -/
def State.debugAdmits (s : State) (rights : Nat) : Bool :=
  let o := s.rd Reg.DBG_STATUS.OPEN
  bitOf o 3 || (bitOf o 2 && tackMemory rights)

/-- The fixed rules of Table 12-7 for one byte of a target: true where the access is refused whatever the table holds. -/
def fixedRefusal (t a : Nat) (r : AccessReq) : Bool :=
  if t = 0 ∨ t = 4 then r.kind.writes
  else if t = 1 then
    if (a - 0x800000) % 0x10000 < 0x1000 then r.master != (a - 0x800000) / 0x10000 else true
  else if t = 2 then
    (slotOf a == 0x020 && r.kind.writes && !(decide (r.master < 16) && r.context == 0))
    || !(decide (r.kind = .read ∨ r.kind = .write) && r.len == 4 && r.addr % 4 == 0) || !slotOccupied (slotOf a)
  else false

/-- One byte is allowed for an access of target `t` (R429 to R432). -/
def State.byteAllowed (s : State) (t : Nat) (r : AccessReq) (a : Nat) : Bool :=
  if !s.inTarget t a ∨ fixedRefusal t a r ∨ 96 ≤ r.master then false
  else if s.isSet Reg.AT_STATUS.BOOT then (decide (r.master < 16) && r.context == 0) || masterGroup r.master == some 4
  else match s.governing t a with
    | none => false
    | some i =>
      let rights := (s.activeEntry t i).rights t
      rightsAllow rights r && (r.master != masterTap || s.debugAdmits rights)

/-- The bytes of an access that stand for all of it: its first byte and the first of each further 4 KiB (every rule holds over whole
4 KiB blocks). -/
def AccessReq.probes (r : AccessReq) : List Nat :=
  r.addr :: ((List.range (r.len / 4096 + 1)).map (fun i => (r.addr / 4096 + 1 + i) * 4096)).filter (fun a => decide (a < r.addr + r.len))

/-- The first forbidden byte of an access, none where it is allowed (R430, R436). -/
def State.forbidden (s : State) (r : AccessReq) : Option Nat :=
  match s.targetOf r.addr with
  | none => some r.addr
  | some t => r.probes.find? (fun a => !s.byteAllowed t r a)

/-- KIND of Table 12-8. -/
def AccessKind.code : AccessKind → Nat
  | .read => 1
  | .write => 2
  | .fetch => 3
  | .atomic => 4
  | .walk => 5

/-- WHO and WHERE of Table 12-8. -/
def AccessReq.who (r : AccessReq) : Nat := r.master + 256 * r.world.num + 512 * b2n (!r.user) + 1024 * r.kind.code
def State.whereField (s : State) (r : AccessReq) : Nat :=
  match s.targetOf r.addr with
  | none => 0x3F * 512 + 32768
  | some t => match s.governing t r.addr with
    | some i => i + t * 512
    | none => t * 512 + 32768

/-- Record a refusal (R437): the violation log, the Trail and AT_VIOLATION. -/
def State.violation (s : State) (r : AccessReq) (a : Nat) : State :=
  let v : Violation := { addr := a, trailSeq := 0, who := r.who, wher := s.whereField r, size := r.len % 65536, epoch := s.rd Reg.AT_EPOCH.EPOCH }
  let s := if s.guards.violations.length < 32 then s.updGuards (fun g => { g with violations := g.violations ++ [v] }) else s.bump Reg.AT_VCNT.LOST
  let rec' := { s.record 0x0200 r.master false (leBytes 8 v.addr ++ leBytes 2 v.who ++ leBytes 2 v.wher ++ leBytes 2 v.size ++ leBytes 2 0 ++ leBytes 4 v.epoch) with world := r.world.num, level := b2n (!r.user) }
  (s.post r.master rec').raise srcAtViolation (v.who + 65536 * v.wher)

/-- Check an access at its guard: true where it is admitted; a refusal is recorded (R436, R437). -/
def State.guard (s : State) (r : AccessReq) : Bool × State :=
  match s.forbidden r with
  | none => (true, s)
  | some a => (false, s.violation r a)

/-- A register write of slot 0x020 from a core pair's context, as its guard checks it (Table 12-7). -/
def tableWrite (pair : Nat) (world : World) (user : Bool) (off : Nat) : AccessReq :=
  { master := pair % 16, world := world, user := user, kind := .write, addr := 0x2200000 + off, len := 4 }

/-- Run an operation of the access table where the guard of slot 0x020 admits the write. -/
def State.tableOp (s : State) (pair : Nat) (world : World) (user : Bool) (off : Nat) (f : State → State) : State :=
  match s.guard (tableWrite pair world user off) with
  | (true, s) => f s
  | (false, s) => s

/-- The 32-bit words of an entry in AT_WIN. -/
def State.showEntry (s : State) (t : Nat) (e : AtEntry) : State :=
  let s := (s.wr (Reg.AT_WIN.DATA.nth 0) (bitsOf e.w0 0 32)).wr (Reg.AT_WIN.DATA.nth 1) (bitsOf e.w0 32 32)
  if t = 2 then s else (s.wr (Reg.AT_WIN.DATA.nth 2) (bitsOf e.w1 0 32)).wr (Reg.AT_WIN.DATA.nth 3) (bitsOf e.w1 32 32)

/-- The entry that AT_WIN holds for a target. -/
def State.winEntry (s : State) (t : Nat) : AtEntry :=
  let w (i : Nat) : Nat := s.rd (Reg.AT_WIN.DATA.nth i)
  { w0 := w 0 + 2 ^ 32 * w 1, w1 := if t = 2 then 0 else w 2 + 2 ^ 32 * w 3 }

/-- Name the entry of AT_CMD and run its operation, or answer BAD_INDEX. -/
def State.atCmd (s : State) (t i : Nat) (f : State → State) : State :=
  let s := (s.wr Reg.AT_CMD.INDEX i).wr Reg.AT_CMD.TARGET t
  if entryCount t ≤ i then s.wr Reg.AT_CMD.ERR 1 else f (s.wr Reg.AT_CMD.ERR 0)

/-- READ_ACTIVE: AT_CMD copies an active entry to AT_WIN (R433). -/
def execReadActive (pair : Nat) (world : World) (user : Bool) (target index : Nat) (s : State) : Host.Outcome State Fault Refusal :=
  ok (s.tableOp pair world user 0 (fun s => s.atCmd target index (fun s => s.showEntry target (s.activeEntry target index))))

/-- READ_SHADOW: AT_CMD copies a shadow entry to AT_WIN (R433). -/
def execReadShadow (pair : Nat) (world : World) (user : Bool) (target index : Nat) (s : State) : Host.Outcome State Fault Refusal :=
  ok (s.tableOp pair world user 0 (fun s => s.atCmd target index (fun s => s.showEntry target (s.shadowEntry target index))))

/-- WRITE_SHADOW: AT_CMD copies AT_WIN to the shadow, or answers LOCKED where the active copy has LOCK set (R433). -/
def execWriteShadow (pair : Nat) (world : World) (user : Bool) (target index : Nat) (s : State) : Host.Outcome State Fault Refusal :=
  ok (s.tableOp pair world user 0 (fun s => s.atCmd target index (fun s =>
    if (s.activeEntry target index).locked target then s.wr Reg.AT_CMD.ERR 2
    else s.updGuards (fun g => { g with shadow := tput g.shadow (entryKey target index) (s.winEntry target) }))))

/-- An entry passes the validation of R434. -/
def State.entryOk (s : State) (t : Nat) (e : AtEntry) : Bool :=
  if t = 2 then bitsOf e.w0 42 22 == 0
  else
    bitOf e.w0 3 == false && bitsOf e.w0 10 2 == 0 && bitsOf e.w0 48 16 == 0 && bitsOf e.w1 40 24 == 0
    && (!e.valid t || (decide (12 ≤ e.sizeLog ∧ e.sizeLog ≤ 39) && e.base % 2 ^ e.sizeLog == 0
      && (match s.targetSpan t with | some (b, n) => decide (b ≤ e.base ∧ e.base + 2 ^ e.sizeLog ≤ b + n) | none => false)))

/-- The first entry of the shadow that fails validation, by its key. -/
def State.badEntry (s : State) : Option Nat := tfirst s.guards.shadow (fun k e => !s.entryOk (k / 512) e)

/-- AT_COMMIT: GO validates the shadow (R434): BUSY while the last switch is not done, BAD_ENTRY with the entry's name, or the switch of
every guard, with AT_EPOCH one higher and DONE 0. -/
def execAtCommit (pair : Nat) (world : World) (user : Bool) (s : State) : Host.Outcome State Fault Refusal :=
  ok (s.tableOp pair world user 4 (fun s =>
    if !s.isSet Reg.AT_STATUS.DONE then s.wr Reg.AT_STATUS.ERR 2
    else match s.badEntry with
      | some k => ((s.wr Reg.AT_STATUS.ERR 1).wr Reg.AT_STATUS.ERR_INDEX (k % 512)).wr Reg.AT_STATUS.ERR_TARGET (k / 512)
      | none =>
        let s := ((s.updGuards (fun g => { g with active := g.shadow })).addTo Reg.AT_EPOCH.EPOCH 1).flag Reg.AT_STATUS.BOOT false
        (s.wr Reg.AT_STATUS.ERR 0).flag Reg.AT_STATUS.DONE false))

/-- AT_DONE: every access of the old epoch has finished (R434). -/
def execAtDone (s : State) : Host.Outcome State Fault Refusal := ok (s.flag Reg.AT_STATUS.DONE true)

/-- AT_VPOP: POP removes the oldest violation record (R437). -/
def execAtVpop (pair : Nat) (world : World) (user : Bool) (s : State) : Host.Outcome State Fault Refusal :=
  ok (s.tableOp pair world user 0x24 (fun s => s.updGuards (fun g => { g with violations := g.violations.drop 1 })))

/-- A split write may go to an address (R424): a word of SYSRAM, of an RSRAM emergency stack or of an installed DRAM channel. -/
def State.splitTarget (s : State) (a : Nat) : Bool :=
  match s.targetOf a with
  | some t => t == 3 || (t == 1 && (a - 0x800000) % 0x10000 < 0x1000) || decide (16 ≤ t)
  | none => false

/-- The region that governs a byte has TEST set (R424). -/
def State.testRegion (s : State) (a : Nat) : Bool :=
  match s.targetOf a with
  | some t => match s.governing t a with | some i => (s.activeEntry t i).test | none => false
  | none => false

/-- SPLIT_WRITE: GO stores ECC_SPLIT_DATA with CHECK unchanged at ECC_SPLIT_ADDR (R424), checked as an access by the issuing pair in KS. The
fields are RWK: a write from Tack world has no effect. -/
def execSplitWrite (pair : Nat) (world : World) (check : Nat) (s : State) : Host.Outcome State Fault Refusal :=
  if world = .tack then ok s
  else
    let s := s.wr Reg.ECC_SPLIT_CMD.CHECK check
    let a := s.flipWord
    if !s.splitTarget a then ok (s.wr Reg.ECC_SPLIT_CMD.ERR 2)
    else match s.guard { master := pair % 16, world := .keeper, user := false, kind := .write, addr := a, len := 4 } with
      | (false, s) => ok (s.wr Reg.ECC_SPLIT_CMD.ERR 1)
      | (true, s) =>
        if !s.testRegion a then ok (s.wr Reg.ECC_SPLIT_CMD.ERR 1)
        else
          let c := if inDram a then check % 256 else check % 128
          ok ((s.putWord a (s.rd Reg.ECC_SPLIT_DATA.DATA) c).wr Reg.ECC_SPLIT_CMD.ERR 0)

end Sys2Proof.Machine
end

