-- ==== Sys2Proof/Machine/Flash.lean ====
section
/-!
DEFINITION. The flash controller (chapter 13): partitions, the logical map, programming in pair-safe commits, the journal, erases with
their intents, the boot pointer, and the operations of FLS_CMD.
-/

namespace Sys2Proof.Machine

/-- A partition of Table 13-2: SLC or MLC mode, its LUNs, its blocks and its size in sectors. -/
structure Partition where
  slc : Bool
  luns : List Nat
  blocks : Nat
  sectors : Nat
  deriving DecidableEq, Repr

/-- The partitions in table order: BOOT0, BOOT1, PTR, FIXED, KEYS, JOURNAL, TRAILJ, KCODE, INTENT1 to INTENT3, MEDIA, MLOG, CATDIR, SPILL,
STORE, TACK. -/
def partitions : List Partition :=
  [⟨true, [0], 64, 65536⟩, ⟨true, [0], 64, 65536⟩, ⟨true, [0], 2, 2048⟩, ⟨true, [0], 8, 8192⟩, ⟨true, [0], 12, 12288⟩,
   ⟨true, [0], 64, 65536⟩, ⟨true, [0], 4, 4096⟩, ⟨true, [0], 256, 262144⟩, ⟨true, [1], 4, 4096⟩, ⟨true, [2], 4, 4096⟩,
   ⟨true, [3], 4, 4096⟩, ⟨false, [1, 2, 3], 8, 16384⟩, ⟨false, [1, 2, 3], 2048, 4194304⟩, ⟨false, [0, 1, 2, 3], 3072, 6291456⟩,
   ⟨false, [0, 1, 2, 3], 1024, 2097152⟩, ⟨false, [0, 1, 2, 3], 1024, 2097152⟩, ⟨false, [0, 1, 2, 3], 760, 1556480⟩]

/-- Numbers of the partitions that the model names. -/
def partBoot0 : Nat := 0
def partBoot1 : Nat := 1
def partPtr : Nat := 2
def partFixed : Nat := 3
def partJournal : Nat := 5
def partKcode : Nat := 7
def partStore : Nat := 15
def partTack : Nat := 16

/-- The first sector of a partition: the partitions follow in table order (R439). -/
def partStart (p : Nat) : Nat := ((partitions.take p).map Partition.sectors).sum

/-- The partition of a sector. -/
def partOf (sec : Nat) : Option Nat := (List.range partitions.length).find? (fun p => decide (partStart p ≤ sec ∧ sec < partStart p + ((partitions[p]?).map Partition.sectors).getD 0))

/-- Partitions that firmware may read, and may write (assumption 24: the others belong to units, which reach them by internal queues). -/
def readableParts : List Nat := [0, 1, 3, 7, 15, 16]
def writableParts : List Nat := [0, 1, 7, 15, 16]

/-- Blocks per LUN, and the spare blocks of each LUN (Tables 13-1 and 13-2). -/
def lunBlocks : Nat := 2176
def lunSpares (l : Nat) : Nat := if l = 0 then 64 else 60

/-- The number of a block, and the physical sector of a page's first sector. -/
def blockKey (lun b : Nat) : Nat := lun * 4096 + b
def pageSector (blk page : Nat) : Nat := (blk * 512 + page) * 4

def Flash.updBlock (f : Flash) (k : Nat) (g : FlashBlock → FlashBlock) : Flash := { f with blocks := tupd f.blocks k {} g }

/-- Pages per block by its mode. -/
def FlashBlock.pages (b : FlashBlock) : Nat := if b.slc then 256 else 512

/-- Blocks in use by a partition. -/
def Flash.inUse (f : Flash) (p : Nat) : Nat := (tkeys f.blocks (fun _ b => !b.free && !b.retired && b.part == p)).length

/-- SLC blocks in use beyond their partitions' own: taken from the reserve of 38 (Table 13-2). -/
def Flash.reserveUsed (f : Flash) : Nat :=
  ((List.range 8).map (fun p => f.inUse p - ((partitions[p]?).map Partition.blocks).getD 0)).sum

/-- The lowest-numbered free block of a LUN that is not a spare (assumption 25: which free block is taken). -/
def Flash.freeIn (f : Flash) (lun : Nat) : Option Nat :=
  ((List.range lunBlocks).find? (fun b => (f.block (blockKey lun b)).free && !(f.block (blockKey lun b)).retired)).map (blockKey lun)

/-- A free block for a partition, from those of its LUNs that serve; none where it and its reserve are full (R447). -/
def Flash.freeBlock (f : Flash) (ok : Nat → Bool) (p : Nat) : Option Nat :=
  match partitions[p]? with
  | none => none
  | some q =>
    if f.inUse p < q.blocks ∨ (q.slc ∧ p < 8 ∧ f.reserveUsed < 38) then (q.luns.filter ok).findSome? f.freeIn else none

/-- A LUN serves: it answers and is enabled (R447). -/
def State.lunServes (s : State) (l : Nat) : Bool := bitOf (s.rd Reg.FLS_STATUS.LUN_OK) l && (l == 0 || bitOf (s.rd Reg.FLS_CTRL.LUN_EN) l)

/-- The block that a partition is filling, with room for one more commit, or a fresh one. -/
def State.fillBlock (s : State) (p : Nat) : Option (Nat × State) :=
  let fresh : Option (Nat × State) := (s.flash.freeBlock s.lunServes p).map (fun k =>
    let slc := ((partitions[p]?).map Partition.slc).getD true
    (k, s.updFlash (fun f => ({ f with filling := tput f.filling p k }).updBlock k (fun b => { b with part := p, slc := slc, free := false, nextPage := 0, reads := 0, since := s.now, scrubbed := s.now }))))
  match tget s.flash.filling p with
  | some k =>
    let b := s.flash.block k
    if !b.retired && b.nextPage < b.pages && s.lunServes (lunOf k) then some (k, s) else fresh
  | none => fresh

/-- Sectors in one commit: a page in SLC, a wordline's two pages in MLC (R444). -/
def commitSectors (slc : Bool) : Nat := if slc then 4 else 8

/-- Program one commit of a partition: its sectors go to consecutive physical sectors of the block being filled; an upper page without
data is padded, so the next commit starts on a fresh wordline (R444). -/
def State.programCommit (s : State) (p : Nat) (items : List (Nat × List Byte)) : Option State :=
  match s.fillBlock p with
  | none => none
  | some (k, s) =>
    let b := s.flash.block k
    let base := pageSector k b.nextPage
    let write (f : Flash) (x : Nat × (Nat × List Byte)) : Flash :=
      { f with cells := writeCells f.cells ((base + x.1) * 4096) (padTo 4096 x.2.2), map := tput f.map x.2.1 (base + x.1), marked := f.marked.filter (· != x.2.1) }
    some (s.updFlash (fun f => (((List.range items.length).zip items).foldl write f).updBlock k (fun b => { b with nextPage := b.nextPage + (if b.slc then 1 else 2) })))

/-- Cut a list into pieces of `n` (at most `fuel` of them). -/
def cutList {α : Type} (n : Nat) : Nat → List α → List (List α)
  | 0, _ => []
  | _, [] => []
  | fuel + 1, xs => xs.take n :: cutList n fuel (xs.drop n)

/-- Program a list of sectors in commits. -/
def State.programAll (s : State) (p : Nat) (items : List (Nat × List Byte)) : Option State :=
  let slc := ((partitions[p]?).map Partition.slc).getD true
  (cutList (commitSectors slc) (items.length + 1) items).foldl (fun o c => o.bind (fun s => s.programCommit p c)) (some s)

/-- The bytes of a physical sector. -/
def Flash.physical (f : Flash) (ps : Nat) : List Byte := readCells f.cells (ps * 4096) 4096

/-- The bytes of a logical sector: zeros where it was never written or was trimmed (R440). -/
def Flash.sector (f : Flash) (sec : Nat) : List Byte :=
  match tget f.map sec with | some ps => f.physical ps | none => List.replicate 4096 0

/-- The block of a physical sector, and the logical sectors that lie in a block. -/
def sectorBlock (ps : Nat) : Nat := ps / 2048
def Flash.validIn (f : Flash) (k : Nat) : List Nat := tkeys f.map (fun _ ps => sectorBlock ps == k)

/-- The body of ERASE_INTENT (Table 13-7). -/
def eraseBody (k : Nat) (b : FlashBlock) : List Byte :=
  leBytes 1 (lunOf k) ++ leBytes 1 (if b.slc then 1 else 2) ++ leBytes 2 (k % 4096) ++ leBytes 4 b.erases

/-- Spare blocks left on a LUN, and its retired blocks (FLS_SPARES). -/
def Flash.retiredOn (f : Flash) (l : Nat) : Nat := (tkeys f.blocks (fun k b => lunOf k == l && b.retired)).length
def Flash.sparesLeft (f : Flash) (l : Nat) : Nat := lunSpares l - f.retiredOn l

/-- Retire a block after its valid sectors have moved (R443): BLOCK_RETIRED; fewer than 8 spares raise FLS_SPARE_LOW. -/
def State.retireBlock (s : State) (k reason : Nat) : State :=
  let b := s.flash.block k
  let items := (s.flash.validIn k).map (fun sec => (sec, s.flash.sector sec))
  let s := s.updFlash (fun f => f.updBlock k (fun b => { b with retired := true, free := false, pinned := false }))
  let s := (s.programAll b.part items).getD s
  let s := (s.journal 0x0007 (leBytes 1 (lunOf k) ++ leBytes 1 0 ++ leBytes 2 (k % 4096) ++ leBytes 1 reason)).bump Reg.FLS_EVENTS.RETIRED
  if s.flash.sparesLeft (lunOf k) < 8 then s.note srcFlsSpareLow (lunOf k) else s

/-- The first `n` programs of a write fail their check: each block is retired and the data goes to another (R443). -/
def State.failPrograms (s : State) (p : Nat) : Nat → State
  | 0 => s
  | n + 1 =>
    match s.fillBlock p with
    | none => s
    | some (k, s) => State.failPrograms ((s.updFlash (fun f => f.updBlock k (fun b => { b with nextPage := b.nextPage + (if b.slc then 1 else 2) }))).retireBlock k 1) p n

/-- Record an undecodable sector (R441). -/
def State.flashUe (s : State) (detail : Nat) : State := (s.bump Reg.FLS_EVENTS.UE).raise srcFlsUe detail

/-- Reads of the blocks that hold sectors count toward read disturb (Table 19-3). -/
def State.countReads (s : State) (secs : List Nat) : State :=
  let ks := (secs.filterMap (fun sec => (tget s.flash.map sec).map sectorBlock))
  s.updFlash (fun f => ks.foldl (fun f k => f.updBlock k (fun b => { b with reads := b.reads + 1 })) f)

/-- FLS_CMD.ERR codes (R447). -/
def fOk : Nat := 0
def fBadArg : Nat := 1
def fSelfErase : Nat := 2
def fUe : Nat := 3
def fProgramFail : Nat := 4
def fEraseFail : Nat := 5
def fFull : Nat := 6
def fNoIntent : Nat := 7
def fAccess : Nat := 8
def fLunLost : Nat := 9
def fBadImage : Nat := 10
def fNotTrial : Nat := 11

/-- End an FLS_CMD operation with a code. -/
def State.flsEnd (s : State) (code : Nat) : State := s.wr Reg.FLS_CMD.ERR code

/-- Start an FLS_CMD operation: OP is RWK, and the controller answers while LUN 0 or another LUN does. -/
def State.flsCmd (s : State) (world : World) (op : Nat) (f : State → State) : State :=
  if world = .tack ∨ s.rd Reg.FLS_STATUS.LUN_OK = 0 then s else f (s.wr Reg.FLS_CMD.OP op)

/-- The sectors that FLS_LADDR and FLS_LEN name. -/
def State.flsSectors (s : State) : List Nat := rangeFrom (s.rd Reg.FLS_LADDR.SECTOR) (s.rd Reg.FLS_LEN.SECTORS)

/-- The partition of the named sectors, where they lie in one of those allowed (R447). -/
def State.flsPart (s : State) (allowed : List Nat) : Option Nat :=
  let a := s.rd Reg.FLS_LADDR.SECTOR
  let n := s.rd Reg.FLS_LEN.SECTORS
  if n = 0 then none
  else match partOf a, partOf (a + n - 1) with
    | some p, some q => if p = q ∧ p ∈ allowed then some p else none
    | _, _ => none

/-- The buffer at FLS_BUF. -/
def State.flsBuf (s : State) : Nat := s.rd Reg.FLS_BUF.ADDR * 4096

/-- Check a long transfer of a master at its guards in accesses of 256 bytes (R427); the first refused one is recorded. -/
def State.guardRange (s : State) (m : Nat) (k : AccessKind) (a n : Nat) : Bool × State :=
  match s.forbidden (unitAccess m k a n) with
  | none => (true, s)
  | some b =>
    let piece := a + (b - a) / 256 * 256
    (false, s.violation (unitAccess m k piece (min 256 (a + n - piece))) b)

/-- Write a word with all check bits inverted, so that it reads back as POISON (R416). -/
def State.poisonWord (s : State) (w : Nat) : State :=
  let d := wordAt s.mem.cells w
  s.putWord w d (encodeWord w d ^^^ (if inDram w then 255 else 127))

/-- Poison the words of a range. -/
def State.poisonRange (s : State) (a n : Nat) : State :=
  (List.range (ceilDiv n 4)).foldl (fun s i => s.poisonWord (a / 4 * 4 + 4 * i)) s

/-- Every mapped sector of a list lies on a LUN that serves. -/
def State.sectorsServe (s : State) (secs : List Nat) : Bool :=
  secs.all (fun sec => match tget s.flash.map sec with | some ps => s.lunServes (lunOf (sectorBlock ps)) | none => true)

/-- FLS_READ: READ moves logical sectors to the buffer (R446). `bad` are the sectors, counted from the first, that no retry decodes: they
reach the buffer with poison and raise FLS_UE; `weak` needed more than 60 corrections and are marked for refresh (R441). -/
def execFlsRead (world : World) (bad weak : List Nat) (s : State) : Host.Outcome State Fault Refusal :=
  ok (s.flsCmd world 0x01 (fun s =>
    let secs := s.flsSectors
    match s.flsPart readableParts with
    | none => s.flsEnd fBadArg
    | some _ =>
      if !s.sectorsServe secs then s.flsEnd fLunLost
      else
        let a := s.flsBuf
        match s.guardRange masterFlash .write a (4096 * secs.length) with
        | (false, s) => s.flsEnd fAccess
        | (true, s) =>
          let s := s.writeMem a (secs.flatMap s.flash.sector)
          let first := s.rd Reg.FLS_LADDR.SECTOR
          let bads := bad.filter (fun i => decide (i < secs.length) && (tget s.flash.map (first + i)).isSome)
          let s := bads.foldl (fun s i => (s.poisonRange (a + 4096 * i) 4096).flashUe (first + i)) s
          let s := (s.countReads secs).updFlash (fun f => { f with marked := f.marked ++ ((weak.filter (fun i => decide (i < secs.length))).map (first + ·)).filter (fun x => !f.marked.contains x) })
          s.flsEnd (if bads.isEmpty then fOk else fUe)))

/-- The newest pointer record, the active twin, the open trial (R456, R457). -/
def Flash.pointer (f : Flash) : Option PtrRec := f.pointers.head?
def Flash.activeTwin (f : Flash) : Nat :=
  match f.pointers.find? (fun r => r.typ == 3 || r.typ == 4) with | some r => r.twin | none => 0
def Flash.trial (f : Flash) : Bool := match f.pointer with | some r => r.typ == 1 || r.typ == 2 | none => false

/-- A twin's blocks may not be programmed or erased (R449): the active twin's, and both while a trial is open. -/
def Flash.twinProtected (f : Flash) (p : Nat) : Bool := (p == partBoot0 || p == partBoot1) && (f.trial || f.activeTwin == p)

/-- FLS_WRITE: WRITE programs the buffer's sectors in pair-safe commits and is complete when they are acknowledged (R442 to R444). `fails`
programs fail their check, each retiring its block. -/
def execFlsWrite (world : World) (fails : Nat) (s : State) : Host.Outcome State Fault Refusal :=
  ok (s.flsCmd world 0x02 (fun s =>
    let secs := s.flsSectors
    match s.flsPart writableParts with
    | none => s.flsEnd fBadArg
    | some p =>
      if s.flash.twinProtected p then s.flsEnd fSelfErase
      else if !((((partitions[p]?).map Partition.luns).getD []).any s.lunServes) then s.flsEnd fLunLost
      else match s.guardRange masterFlash .read s.flsBuf (4096 * secs.length) with
        | (false, s) => s.flsEnd fAccess
        | (true, s) =>
          match s.readChecked s.flsBuf (4096 * secs.length) with
          | ((_, true), s) => s.flsEnd fUe
          | ((bytes, false), s) =>
            let s := s.failPrograms p fails
            match s.fillBlock p with
            | none => s.flsEnd (if fails = 0 then fFull else fProgramFail)
            | some _ =>
              match s.programAll p ((List.range secs.length).map (fun i => (secs.getD i 0, slice bytes (4096 * i) 4096))) with
              | some s => s.flsEnd fOk
              | none => s.flsEnd fFull))

/-- TRIM: sectors are freed, and read as zeros (R440, R446). -/
def execTrim (world : World) (s : State) : Host.Outcome State Fault Refusal :=
  ok (s.flsCmd world 0x03 (fun s =>
    match s.flsPart writableParts with
    | none => s.flsEnd fBadArg
    | some _ =>
      let a := s.rd Reg.FLS_LADDR.SECTOR
      let n := s.rd Reg.FLS_LEN.SECTORS
      (s.updFlash (fun f => { f with map := tkeep f.map (fun k _ => !(decide (a ≤ k ∧ k < a + n))), marked := f.marked.filter (fun k => !(decide (a ≤ k ∧ k < a + n))) })).flsEnd fOk))

/-- FLUSH: every pending MLC commit is completed (R444, R446). A WRITE of this model ends with its own commits padded and checked, so none is
pending. -/
def execFlush (world : World) (s : State) : Host.Outcome State Fault Refusal := ok (s.flsCmd world 0x04 (fun s => s.flsEnd fOk))

/-- The block and page of FLS_PADDR, where they exist. -/
def State.flsBlock (s : State) : Option Nat :=
  if s.rd Reg.FLS_PADDR.BLOCK < lunBlocks then some (blockKey (s.rd Reg.FLS_PADDR.LUN) (s.rd Reg.FLS_PADDR.BLOCK)) else none

/-- PREAD: one physical page, decoded, to the buffer (R446); a page not programmed since its erase decodes to nothing. -/
def execPread (world : World) (bad : List Nat) (s : State) : Host.Outcome State Fault Refusal :=
  ok (s.flsCmd world 0x10 (fun s =>
    match s.flsBlock with
    | none => s.flsEnd fBadArg
    | some k =>
      if !s.lunServes (lunOf k) then s.flsEnd fLunLost
      else
        let page := s.rd Reg.FLS_PADDR.PAGE
        let a := s.flsBuf
        match s.guardRange masterFlash .write a 16384 with
        | (false, s) => s.flsEnd fAccess
        | (true, s) =>
          let blank := decide ((s.flash.block k).nextPage ≤ page) || (s.flash.block k).free
          let base := pageSector k page
          let s := s.writeMem a ((List.range 4).flatMap (fun i => s.flash.physical (base + i)))
          let bads := (List.range 4).filter (fun i => blank || decide (i ∈ bad))
          let s := bads.foldl (fun s i => (s.poisonRange (a + 4096 * i) 4096).flashUe (base + i)) s
          (s.updFlash (fun f => f.updBlock k (fun b => { b with reads := b.reads + 1 }))).flsEnd (if bads.isEmpty then fOk else fUe)))

/-- MREAD: a margin read at FLS_MARGIN's reference and offset, whose largest corrections per codeword go to MAXCORR (R446). -/
def execMread (world : World) (maxcorr : Nat) (s : State) : Host.Outcome State Fault Refusal :=
  ok (s.flsCmd world 0x11 (fun s =>
    match s.flsBlock with
    | none => s.flsEnd fBadArg
    | some k =>
      if !s.lunServes (lunOf k) then s.flsEnd fLunLost
      else ((s.wr Reg.FLS_MARGIN.MAXCORR maxcorr).updFlash (fun f => f.updBlock k (fun b => { b with reads := b.reads + 1 }))).flsEnd fOk))

/-- BLANK: the block of FLS_PADDR is checked at the erase-verify margin (R442, R446). `noisy` is whether a codeword of the erased block shows
more than 4 zero bits. The spec names no outcome code for a block that fails: a free value. -/
def execBlank (world : World) (noisy : Bool) (s : State) : Host.Outcome State Fault Refusal :=
  ok (s.flsCmd world 0x12 (fun s =>
    match s.flsBlock with
    | none => s.flsEnd fBadArg
    | some k =>
      if !s.lunServes (lunOf k) then s.flsEnd fLunLost
      else if (s.flash.block k).nextPage = 0 ∧ !noisy then s.flsEnd fOk
      else let (v, s) := s.draw 4; s.flsEnd v))

/-- Erase a block (R452): the intent, the erase and its blank check, tried `fails` times without success, and ERASE_DONE. Three failures
retire the block (R443). -/
def State.eraseBlock (s : State) (k fails : Nat) : State × Bool :=
  let b := s.flash.block k
  let intent := s.flash.nextSeq
  let s := s.journal 0x0001 (eraseBody k b)
  let wipe (f : Flash) : Flash := { f with cells := f.cells.filter (fun c => c.1 / 4096 / 2048 != k), filling := tkeep f.filling (fun _ v => v != k) }
  let s := s.updFlash (fun f => (wipe f).updBlock k (fun b => { b with erases := b.erases + min 3 (fails + 1), nextPage := 0, reads := 0 }))
  if 3 ≤ fails then ((s.updFlash (fun f => f.updBlock k (fun b => { b with free := true }))).retireBlock k 2, false)
  else
    let s := s.journal 0x0002 (eraseBody k (s.flash.block k) ++ leBytes 8 intent)
    (s.updFlash (fun f => f.updBlock k (fun b => { b with free := true, part := 255 })), true)

/-- A LUN can take the erase intent of a block (R452): an INTENT area for blocks of LUN 0, the JOURNAL for the others. -/
def State.intentLun (s : State) (k : Nat) : Bool := if lunOf k = 0 then [1, 2, 3].any s.lunServes else s.lunServes 0

/-- A block is protected (R449): pinned, or of a protected twin. -/
def Flash.blockProtected (f : Flash) (k : Nat) : Bool := (f.block k).pinned || (!(f.block k).free && f.twinProtected (f.block k).part)

/-- FLS_ERASE: ERASE of a block holding no valid sector, with journaled intent (R449, R452); `fails` blank checks fail. -/
def execFlsErase (world : World) (fails : Nat) (s : State) : Host.Outcome State Fault Refusal :=
  ok (s.flsCmd world 0x13 (fun s =>
    match s.flsBlock with
    | none => s.flsEnd fBadArg
    | some k =>
      if !s.lunServes (lunOf k) then s.flsEnd fLunLost
      else if s.flash.blockProtected k then s.flsEnd fSelfErase
      else if !(s.flash.validIn k).isEmpty ∨ (s.flash.block k).retired then s.flsEnd fBadArg
      else if !s.intentLun k then s.flsEnd fNoIntent
      else match s.eraseBlock k fails with
        | (s, true) => s.flsEnd fOk
        | (s, false) => s.flsEnd fEraseFail))

/-- The blocks that hold a list of sectors. -/
def Flash.blocksOf (f : Flash) (secs : List Nat) : List Nat := (secs.filterMap (fun sec => (tget f.map sec).map sectorBlock)).eraseDups

/-- Refresh FLS_STATUS.PINNED. -/
def State.countPinned (s : State) : State := s.wr Reg.FLS_STATUS.PINNED (tkeys s.flash.blocks (fun _ b => b.pinned)).length

/-- PIN: the blocks that hold the sectors are marked as holding mapped code (R446, R449). -/
def execPin (world : World) (s : State) : Host.Outcome State Fault Refusal :=
  ok (s.flsCmd world 0x20 (fun s =>
    match s.flsPart readableParts with
    | none => s.flsEnd fBadArg
    | some _ =>
      let ks := s.flash.blocksOf s.flsSectors
      ((s.updFlash (fun f => ks.foldl (fun f k => f.updBlock k (fun b => { b with pinned := true })) f)).countPinned).flsEnd fOk))

/-- UNPIN: the mark is removed, but never from the blocks of the twin booted from (R449). -/
def execUnpin (world : World) (s : State) : Host.Outcome State Fault Refusal :=
  ok (s.flsCmd world 0x21 (fun s =>
    match s.flsPart readableParts with
    | none => s.flsEnd fBadArg
    | some _ =>
      let booted := s.rd Reg.BOOT_STATUS.TWIN
      let ks := (s.flash.blocksOf s.flsSectors).filter (fun k => s.isSet Reg.BOOT_STATUS.RECOVERY || (s.flash.block k).part != booted)
      ((s.updFlash (fun f => ks.foldl (fun f k => f.updBlock k (fun b => { b with pinned := false })) f)).countPinned).flsEnd fOk))

/-- Append a boot pointer record (R456): a full block of PTR is left for the other, erased, which starts with a CARRY of the newest state. -/
def State.appendPtr (s : State) (r : PtrRec) : State :=
  let gen (f : Flash) : Nat := match f.pointer with | some q => (q.gen + 1) % 2 ^ 32 | none => 1
  let s := if 256 ≤ s.flash.ptrUsed then
      match s.flash.pointer with
      | some q =>
        let s := s.journal 0x0001 (leBytes 1 0 ++ leBytes 1 1 ++ leBytes 2 partPtr ++ leBytes 4 0)
        let s := s.journal 0x0002 (leBytes 1 0 ++ leBytes 1 1 ++ leBytes 2 partPtr ++ leBytes 4 0 ++ leBytes 8 (s.flash.nextSeq - 1))
        s.updFlash (fun f => { f with pointers := { q with carry := true, gen := gen f } :: f.pointers, ptrUsed := 1 })
      | none => s
    else s
  let s := s.updFlash (fun f => { f with pointers := { r with gen := gen f } :: f.pointers, ptrUsed := f.ptrUsed + 1 })
  s.wr Reg.BOOT_GEN.GEN (match s.flash.pointer with | some q => q.gen | none => 0)

/-- Key IDs of public keys in fuses and lists: the first 16 bytes of SHAKE256 with domain 0x04 (R460). -/
def keyIdOf (pk : List Byte) : Nat := shakeDom 0x04 pk / 2 ^ 128

/-- Bytes of a twin from an offset on (R454). -/
def Flash.twinBytes (f : Flash) (t off n : Nat) : List Byte :=
  (((rangeFrom (partStart t + off / 4096) (ceilDiv (off % 4096 + n) 4096)).flatMap f.sector).drop (off % 4096)).take n

/-- Read a boot image header (Table 13-8), and whether its fields are valid for a KIND and its reserved bits and bytes zero (R461). -/
def parseImage (b : List Byte) : ImageHead :=
  { version := beAt b 8 4, svn := beAt b 12 4, len := beAt b 16 8, entry := beAt b 24 8, hash := beAt b 32 32, raiseSvn := beAt b 7 1 % 2 == 1, signer := slice b 64 64 }
def imageFieldsOk (kind : Nat) (b : List Byte) : Bool :=
  beAt b 0 4 == 0x4C474249 && beAt b 4 1 == 1 && beAt b 5 1 == kind && beAt b 6 1 == 5 && decide (beAt b 7 1 < 2) && decide (beAt b 12 4 ≤ 64)
  && decide (beAt b 16 8 ≤ 268369920) && decide (beAt b 24 8 < beAt b 16 8) && beAt b 24 8 % 4 == 0 && b.length == 160 && (slice b 128 32).all (· == 0)

/-- The signer rule (R460). -/
def State.signerOk (s : State) (pk : List Byte) : Bool :=
  if s.keys.enrolled then s.keys.ownerRows.getLast? == some (keyIdOf pk) else keyIdOf pk == Config.imageKeyId.toNat

/-- The check of an image of a KIND (R455, R460, R461), read by offset and length: 0, or the first failing condition in the code order of BOOT_STATUS.
`ptrHash` is the pointer record's IMAGE_HASH where one is asked of it, and `ue` whether a sector read returned poison. -/
def State.imageCheck (s : State) (kind : Nat) (read : Nat → Nat → List Byte) (ptrHash : Option Nat) (ue : Bool) : Nat :=
  let head := read 0 160
  let h := parseImage head
  if !imageFieldsOk kind head then 2
  else if !s.signerOk h.signer then 3
  else if !Config.slhVerify 5 h.signer (ascii "LGE9120 image") head (ofBe (read 160 29792)) then 4
  else if h.svn < s.rd Reg.BOOT_INFO.MIN_SVN then 5
  else if shakeDom 0x05 (read 0x10000 h.len) ≠ h.hash ∨ ptrHash.any (· != h.hash) then 6
  else if ue then 7
  else 0

/-- The header of a twin's image, and the check of it under a pointer record's IMAGE_HASH, where there is one. -/
def State.twinHead (s : State) (t : Nat) : ImageHead := parseImage (s.flash.twinBytes t 0 160)
def State.twinCheck (s : State) (t : Nat) (ptrHash : Option Nat) (ue : Bool) : Nat := s.imageCheck 1 (s.flash.twinBytes t) ptrHash ue

/-- PTR_SET: the image in the twin of BOOT_REQ is checked (R461; `ue`, a sector read returned poison), and a SET record is appended (R458,
R459). -/
def execPtrSet (world : World) (ue : Bool) (s : State) : Host.Outcome State Fault Refusal :=
  ok (s.flsCmd world 0x30 (fun s =>
    let t := s.rd Reg.BOOT_REQ.TWIN
    let image := s.twinHead t
    let fail := s.twinCheck t none ue
    if s.flash.trial then s.flsEnd fSelfErase
    else if s.flash.activeTwin = t then s.flsEnd fBadArg
    else if fail ≠ 0 then (s.wr (if t = 0 then Reg.BOOT_STATUS.FAIL0 else Reg.BOOT_STATUS.FAIL1) fail).flsEnd fBadImage
    else (s.appendPtr { carry := false, typ := 1, twin := t, attempts := 0, prev := s.flash.activeTwin, gen := 0, version := image.version, svn := image.svn, hash := image.hash }).flsEnd fOk))

/-- PTR_CONFIRM: the trial image that runs is made active (R458); with RAISE_SVN in its header the fused minimum SVN rises to its SVN. -/
def execPtrConfirm (world : World) (s : State) : Host.Outcome State Fault Refusal :=
  ok (s.flsCmd world 0x31 (fun s =>
    match s.flash.pointer with
    | some q =>
      if s.flash.trial ∧ s.isSet Reg.BOOT_STATUS.TRIAL then
        let s := s.appendPtr { q with carry := false, typ := 3, attempts := 0 }
        let s := if s.chip.image.raiseSvn ∧ s.rd Reg.BOOT_INFO.MIN_SVN < q.svn then s.wr Reg.BOOT_INFO.MIN_SVN q.svn else s
        s.flsEnd fOk
      else s.flsEnd fNotTrial
    | none => s.flsEnd fNotTrial))

/-- WINDOW_MISS: a read of FLASHWIN byte `a` misses the read buffer (R448): `busy` is whether its LUN is programming or erasing, which is
suspended; `undecodable` whether no retry decodes its sector (R441). -/
def execWindowMiss (byte : Nat) (busy undecodable : Bool) (s : State) : Host.Outcome State Fault Refusal :=
  let sec := byte / 4096
  if s.rd Reg.FLS_STATUS.LUN_OK = 0 ∨ !s.sectorsServe [sec] then ok s
  else
    let s := if busy then s.bump Reg.FLS_EVENTS.SUSPENDS else s
    let s := s.countReads [sec]
    if undecodable ∧ (tget s.flash.map sec).isSome then ok (s.flashUe sec) else ok s

/-- FLS_LUN_LOST: a LUN does not answer (R447). -/
def execFlsLunLost (lun : Nat) (s : State) : Host.Outcome State Fault Refusal :=
  if 4 ≤ lun ∨ !bitOf (s.rd Reg.FLS_STATUS.LUN_OK) lun then ok s
  else ok ((s.setBit Reg.FLS_STATUS.LUN_OK lun false).raise srcFlsLunLost lun)

end Sys2Proof.Machine
end

