-- ==== Sys2Proof/Machine/Collect.lean ====
section
/-! DEFINITION. The fault collector's commands (chapter 14): detections from outside the model's own units, window and pulse ends, injection,
clearing and configuration. -/

namespace Sys2Proof.Machine

/-- FAULT_DETECTION: a source detects with a DETAIL (R466). A damaged word in the collector while a reaction runs is a nested error, with
REBUILT in the record of `rebuilt` (R475); a channel failure has its effects on staging (R149). -/
def execFaultDetection (src detail rebuilt : Nat) (s : State) : Host.Outcome State Fault Refusal :=
  if src = srcFcuMemErr ∧ s.reacting.isSome then ok ((s.raise src detail).nestedError rebuilt)
  else if 0x140 ≤ src ∧ src < 0x170 ∧ (src - 0x140) % 4 = 2 then ok (s.channelFailed ((src - 0x140) / 4))
  else ok (s.raise src detail)

/-- CONSEQUENCE_WINDOW_CLOSE: a window closes because its unit has reported ready, or 100 µs after it opened; a SAFE window never (R473). -/
def execConsequenceWindowClose (opener : Nat) (ready : Bool) (s : State) : Host.Outcome State Fault Refusal :=
  match s.collector.windows.find? (fun w => w.opener == opener && w.reaction != rSafe) with
  | none => ok s
  | some w =>
    let s := if ready then s else s.advanceTo (w.openedAt + 100 * usec)
    ok (s.updCollector (fun c => { c with windows := c.windows.erase w }))

/-- The level of FAULT_N between pulses (R476 to R478): low in the safe state and while HOLD is 1. -/
def State.restLevel (s : State) : Bool := !s.safe && !s.isSet Reg.FCU_PIN.HOLD

/-- FAULT_N_PULSE_END: the pulse time expires, and the pin follows HOLD (R477). -/
def execFaultNPulseEnd (s : State) : Host.Outcome State Fault Refusal :=
  match s.collector.pulseEnd with
  | none => ok s
  | some t =>
    let s := s.advanceTo t
    ok ((s.updCollector (fun c => { c with pulseEnd := none })).flag Reg.FCU_PIN.LEVEL s.restLevel)

/-- FCU_HOLD_WRITE: a write of HOLD (R478): 1 drives the pin low, 0 releases it unless a pulse runs or the safe state holds. -/
def execFcuHoldWrite (hold : Bool) (s : State) : Host.Outcome State Fault Refusal :=
  let s := s.flag Reg.FCU_PIN.HOLD hold
  ok (s.flag Reg.FCU_PIN.LEVEL (s.collector.pulseEnd.isNone && s.restLevel))

/-- Run the injection that FCU_INJ holds (R479, R480): PSEUDO takes a detection, CHECK arms the next read of the record. -/
def State.fcuInject (s : State) : State :=
  let src := s.rd Reg.FCU_INJ.SRC
  let mode := s.rd Reg.FCU_INJ.MODE
  let free := decide (mode = 0 ∧ 0x3F0 ≤ src)
  if 1 < mode ∨ !(free || s.testAllowed) then s.wr Reg.FCU_INJ.ERR 1
  else if mode = 0 then (s.wr Reg.FCU_INJ.ERR 0).detect src (s.rd Reg.FCU_INJ_DETAIL.DETAIL) (if s.isSet Reg.FCU_INJ.REACT then .full else .quiet) |>.afterLoss
  else (s.updCollector (fun c => { c with checkInj := some (src, s.rd Reg.FCU_INJ.MASK) })).wr Reg.FCU_INJ.ERR 0

/-- A write of FCU_INJ's fields, RWK. -/
def State.injFields (s : State) (world : World) (src mode : Nat) (react : Bool) (mask : Nat) : State :=
  if world = .tack then s
  else (((s.wr Reg.FCU_INJ.SRC src).wr Reg.FCU_INJ.MODE mode).flag Reg.FCU_INJ.REACT react).wr Reg.FCU_INJ.MASK mask

/-- FCU_INJ_PSEUDO: a PSEUDO injection (R479, R480). -/
def execFcuInjPseudo (src : Nat) (react : Bool) (world : World) (s : State) : Host.Outcome State Fault Refusal :=
  ok ((s.injFields world src 0 react 0).fcuInject)

/-- FCU_INJ_CHECK: a CHECK injection (R479, R480). -/
def execFcuInjCheck (src mask : Nat) (world : World) (s : State) : Host.Outcome State Fault Refusal :=
  ok ((s.injFields world src 1 false mask).fcuInject)

/-- The next read of a source record under a CHECK injection (R479): weight 1 gives a correction, weight 2 FCU_MEM_ERR, nested while a
reaction runs. -/
def State.readRecord (s : State) (src : Nat) : State :=
  match s.collector.checkInj with
  | some (n, mask) =>
    if n ≠ src then s
    else
      let s := s.updCollector (fun c => { c with checkInj := none })
      match eccDecode false mask with
      | .clean => s
      | .data _ | .check => s.bump Reg.ECC_COUNTS.CE
      | _ =>
        let s := (s.bump Reg.ECC_COUNTS.UE).detect srcFcuMemErr src .quiet
        if s.reacting.isSome then s.nestedError src else s
  | none => s

/-- Clear a source record (R471). -/
def State.clearRecord (s : State) (src : Nat) : State :=
  if (tget s.collector.recs src).isNone then s
  else s.updRec src (fun r => { r with count := 0, conseq := 0, nested := 0, sticky := false, window := none, firstSeq := 0 })

/-- FCU_CLR: GO clears the record of SRC (R471). -/
def execFcuClr (src : Nat) (s : State) : Host.Outcome State Fault Refusal := ok (s.clearRecord src)

/-- A configuration is within a source's limits (R467). -/
def State.cfgAllowed (s : State) (src cls react line : Nat) : Bool :=
  match sourceSpec src with
  | none => false
  | some d =>
    decide (line < 62 ∧ cls < 4) &&
    (if d.fixed then (let (c, r, _) := s.sourceCfg src; c == cls && r == react) else d.allowed.contains react)

/-- Set a source's configuration, or leave it and set REFUSED (R467). -/
def State.setSourceCfg (s : State) (src cls react line : Nat) : State :=
  if s.cfgAllowed src cls react line then
    let s := s.updRec src (fun r => { r with cfg := some (cls, react, line) })
    s.updCollector (fun c => { c with refused := false })
  else s.updCollector (fun c => { c with refused := true })

/-- FCU_SRC_CFG_WRITE: a write of the class, reaction and LINE of the source that FCU_SEL names (R467); RWK. -/
def execFcuSrcCfgWrite (cls react line : Nat) (world : World) (s : State) : Host.Outcome State Fault Refusal :=
  if world = .tack then ok s else ok (s.setSourceCfg (s.rd Reg.FCU_SEL.SRC) cls react line)

end Sys2Proof.Machine
end

