-- ==== Sys2Proof/Machine/Drain.lean ====
section
/-!
DEFINITION. The commands that read staged fragments through their memory checkers: the drain (R146, R251) and regeneration (R150 to R154).
-/

namespace Sys2Proof.Machine

/-- Read a fragment that a regeneration would use; one that returns poison is lost and its bad pages retired (R146). -/
def State.touchSurvivor (e : Nat) (s : State) (i : Nat) : State :=
  match (s.extent e).bind (fun x => tget x.frags i) with
  | some f =>
    if f.holds && s.chanHealthy f.channel then
      match s.touchPages f.channel (runPages f.runs) with
      | (some p, s) => (s.loseFrag e i).retireBad f.channel (p :: (runPages f.runs).filter (fun q => q != p && s.pageMarked f.channel q))
      | (none, s) => s
    else s
  | none => s

/-- Regenerate after the survivors have passed their checkers. -/
def State.regenerateChecked (s : State) (e : Nat) : State :=
  match s.extent e with
  | none => s
  | some x =>
    let s := (s.readable x).foldl (State.touchSurvivor e) s
    match s.extent e with
    | some x => (s.regenerate e x).afterLoss
    | none => s

/-- REGENERATION: the drain, or the staging of an extent, reaches its missing fragments; they are decoded from k survivors, hashed,
checked and placed (R150 to R154). -/
def execRegeneration (obj idx : Nat) (s : State) : Host.Outcome State Fault Refusal :=
  let e := extKey obj idx
  match s.extent e with
  | some x => if regenDue x && s.canRegenerate x then ok (s.regenerateChecked e) else ok s
  | none => ok s

/-- REGEN_PLACE_WAIT: a candidate channel gains room, and a stripe whose regeneration waited starts again (R153). -/
def execRegenPlaceWait (obj idx : Nat) (s : State) : Host.Outcome State Fault Refusal :=
  let e := extKey obj idx
  match s.extent e with
  | some x => if regenDue x && s.canRegenerate x && x.frags.any (fun f => f.2.phase == .lost && f.2.moving == some 0) then ok (s.regenerateChecked e) else ok s
  | none => ok s

/-- DRAIN_SEND: for an ON shelf with credit, the next catalogue copy or fragment in drain order is sent; every page that fails its
staging check or returns poison is retired, and the fragment is lost (R146, R156, R251). -/
def execDrainSend (shelf : Nat) (s : State) : Host.Outcome State Fault Refusal :=
  if (s.shelf shelf).pstate ≠ .on ∨ s.safe ∨ !s.lit then ok s
  else match s.nextCopy shelf with
    | some (key, d) => ok (s.sendCopy shelf key d)
    | none => match s.nextDrain shelf with
      | none => ok s
      | some o => match s.ownedFrag o with
        | none => ok s
        | some f =>
          let p := s.ownedBytes o - 128
          let (poisoned, s) := s.touchPages f.channel (runPages f.runs)
          let bad := poisoned.toList ++ (s.badPages p f).filter (fun q => some q != poisoned)
          if !bad.isEmpty then
            let s := match o with | .ext e i => s.loseFrag e i | .repair n _ => s.restartRepair n | _ => s
            ok (s.retireBad f.channel bad).afterLoss
          else
            let record := match o with
              | .ext e _ => (match s.extent e with | some x => x.record | none => [])
              | .repair n _ => (match tget s.south.repairs n with | some r => r.newRecord.getD r.record | none => [])
              | _ => []
            ok (s.sendPut shelf o f record (s.fragPayload p f))

end Sys2Proof.Machine
end

