-- ==== Sys2Proof/Machine/Pack.lean ====
section
/-! DEFINITION. The Pack's commands (chapter 06): sponge cores, fragment hashes, epochs, their signatures and release. -/

namespace Sys2Proof.Machine

/-- A core holds no work (R183). -/
def State.coreFree (s : State) (j : Nat) : Bool := (s.hashJobs j).isEmpty && !s.groupJob j

/-- Move cores between the pools until the hashing pool has its size (R183): it grows by the lowest-numbered free signing cores and
its highest-numbered cores leave it, each once it is free. -/
def State.movePools (s : State) : State :=
  let s := s.updPack (fun p => { p with signing := p.signing.filter (fun j => s.spgHealthy j) })
  let have' := s.hashPool
  let want := s.hashWant
  if have'.length < want then
    let more := ((sortBy id s.pack.signing).filter s.coreFree).take (want - have'.length)
    s.updPack (fun p => { p with signing := p.signing.filter (fun j => !more.contains j) })
  else
    let less := (have'.drop want).filter s.coreFree
    s.updPack (fun p => { p with signing := sortBy id (p.signing ++ less) })

/-- The pools at an entry to SEAL (R183): the hashing pool takes the lowest-numbered healthy cores; a core with work stays where it is. -/
def State.formPools (s : State) : State :=
  let well := spongeCores.filter s.spgHealthy
  let keep := well.take s.hashWant
  s.updPack (fun p => { p with signing := well.filter (fun j => if s.coreFree j then decide (j ∉ keep) else decide (j ∈ p.signing)) })

/-- The pools find their sizes, and fragments that wait for a core get one. -/
def State.balancePools (s : State) : State := s.movePools.giveCores

/-- A core joins: a returning one enters the signing pool, then the pools find their sizes (R183). -/
def State.joinPool (s : State) (j : Nat) : State :=
  (s.updPack (fun p => { p with signing := if j ∈ p.signing then p.signing else sortBy id (p.signing ++ [j]) })).balancePools

/-- A core whose self-test has passed serves (Table 6-1). -/
def State.spongeServe (s : State) (j : Nat) : State :=
  if s.lit && !s.safe then ((s.setSpg j .idle).joinPool j).assignGroups else s.setSpg j .offline

/-- A core stops with its jobs moved, and the pools find their sizes. -/
def State.dropSponge (s : State) (j : Nat) (u : UnitState) : State := ((s.stopSponge j u).updPack (fun p => { p with signing := p.signing.filter (· != j) })).balancePools

/-- Mismatches of a core within its window, with one now. -/
def State.countSponge (s : State) (j : Nat) : State × Nat :=
  let ts := s.now :: recentTimes s.now (s.rd Reg.PCK_QPOL.WINDOW) (tgetD s.pack.mismatches j [])
  (s.updPack (fun p => { p with mismatches := tput p.mismatches j ts }), ts.length)

/-- PERMUTATION_MISMATCH: a compare fails and the permutation is retried; where the retry fails too, the jobs move, PCK_MISMATCH is
raised and the core goes SUSPECT with its self-test at once, or is quarantined at the limit (R191, R192). -/
def execPermutationMismatch (core : Nat) (retryPasses : Bool) (s : State) : Host.Outcome State Fault Refusal :=
  if 128 ≤ core ∨ s.spg core ≠ .busy then ok s
  else
    let s := s.bump Reg.PCK_EVENTS.RETRY
    if retryPasses then ok s
    else
      let (s, count) := s.countSponge core
      let s := (s.dropSponge core .suspect).raise srcPckMismatch core
      if max 1 (s.rd Reg.PCK_QPOL.LIMIT) ≤ count then ok (((s.updPack (fun p => { p with tests := tdel p.tests core })).dropSponge core .quarantined).raise srcPckQuarantine core)
      else ok (s.updPack (fun p => { p with tests := tput p.tests core .suspect }))

/-- A core serves a moved job of another fragment, whose rows are all there, ahead of this one (R191). -/
def State.waitsAhead (s : State) (e i : Nat) (f : Fragment) : Bool :=
  !f.ahead && s.queue.extents.any (fun kv => kv.2.frags.any (fun g => (kv.1 != e || g.1 != i) && g.2.core == f.core && g.2.ahead && g.2.hash.isNone && g.2.rows.length == rowCount kv.2.len kv.2.k))

/-- FRAGMENT_HASH_DONE: every row of a fragment is absorbed; its hash is delivered, with the staging checks of its pages (R143, R196), and its job's
shadow is cleared (Table 6-1). -/
def execFragmentHashDone (obj idx frag : Nat) (s : State) : Host.Outcome State Fault Refusal :=
  let e := extKey obj idx
  match s.extent e, (s.extent e).bind (fun x => tget x.frags frag) with
  | some x, some f =>
    if f.hash.isSome ∨ f.core.isNone ∨ x.phase = .aborted ∨ x.ranges.isEmpty ∨ f.rows.length ≠ rowCount x.len x.k ∨ s.waitsAhead e frag f then ok s
    else
      let payload := f.rows.flatMap (fun r => r.2)
      let s := s.updFrag e frag (fun f => { f with hash := some (shakeDom 0x03 payload), crcs := pageCrcs payload, rows := [], core := none, shadow := none, ahead := false })
      ok (match f.core with | some j => (s.settleCore j).balancePools | none => s)
  | _, _ => ok s

/-- The length of the present slot in nanoseconds. -/
def State.slotNs (s : State) : Nat := 1000 * max 50 s.pack.slotLen

/-- EPOCH_SLOT_END: a slot ends; the open regular epoch closes when it holds a leaf and G + V signing-pool cores are idle, else it stays
open (R203). -/
def execEpochSlotEnd (s : State) : Host.Outcome State Fault Refusal :=
  let s := s.advance (s.slotStart + s.slotNs - s.time64)
  if s.groupFree && s.manifestReady && !s.safe then ok s.closeRegular else ok s

/-- PCK_EPOCH_LEN as it is in force (R202): 50 µs to 1 s. -/
def State.lenWritten (s : State) : Nat := min 1000000 (max 50 (s.rd Reg.PCK_EPOCH_LEN.LEN_US))

/-- EPOCH_LEN_CHANGE: the first slot boundary of the new length comes; the open epoch closes and the length takes effect (R205). -/
def execEpochLenChange (s : State) : Host.Outcome State Fault Refusal :=
  let len := s.lenWritten
  if len = s.pack.slotLen then ok s
  else
    let ns := 1000 * len
    let s := s.advance ((s.time64 / ns + 1) * ns - s.time64)
    ok (s.closeRegular.updPack (fun p => { p with slotLen := len }))

/-- Close the notarised epoch of an object (R207): its records in extent-index order. -/
def State.closeNotarised (s : State) (o : Nat) (x : Obj) : State :=
  let len := x.length.getD 0
  let n := extentCount len x.ext
  let leaves := (s.objExtents o n).map (fun y => (extKey o y.idx, y.record))
  (s.updPack (fun p => { p with notarisedWaiting := p.notarisedWaiting.filter (· != o) })).closeEpoch (some o) (x.firstSettled.getD s.time64) leaves len n

/-- NOTARISED_EPOCH_CLOSE: a notarised object's last extent has settled and a signing group is free (R207). -/
def execNotarisedEpochClose (obj : Nat) (s : State) : Host.Outcome State Fault Refusal :=
  match s.object obj with
  | some x => if obj ∈ s.pack.notarisedWaiting ∧ s.groupFree ∧ s.manifestReady ∧ !s.safe then ok (s.closeNotarised obj x) else ok s
  | none => ok s

/-- The context strings of the Pack's signatures (R216, R225). -/
def ctxEpoch : List Byte := ascii "LGE9120 epoch"
def ctxAttest : List Byte := ascii "LGE9120 attest"

/-- Free cores that hold no job any more (Table 6-1). -/
def State.freeCores (s : State) (js : List Nat) : State := (js.foldl (fun s j => s.settleCore j) s).balancePools

/-- EPOCH_SIGN_DONE: a signing group finishes an SLH-DSA signature of the header with fresh opt_rand and passes it to its verifying group
(R216, R217). -/
def execEpochSignDone (epoch : Nat) (s : State) : Host.Outcome State Fault Refusal :=
  match tget s.pack.epochs epoch with
  | none => ok s
  | some e =>
    if e.group.isEmpty ∨ e.signature.isSome ∨ e.released ∨ !s.manifestReady ∨ s.safe then ok s
    else
      let (rnd, s) := s.draw 256
      let sig := Config.slhSign 6 (s.slotValue (s.rd Reg.PCK_SIGN_SLOTS.SEED_SLOT)) (s.slotValue (s.rd Reg.PCK_SIGN_SLOTS.PRF_SLOT)) s.manifestPublic rnd ctxEpoch e.header
      let s := s.updPack (fun p => { p with epochs := tput p.epochs epoch { e with signature := some (sig % 2 ^ 398848), spent := e.spent ++ e.group.filter (fun j => !e.spent.contains j), group := [] } })
      ok (s.freeCores e.group).assignGroups

/-- The highest number up to which every epoch is released or skipped (R218). -/
def epochUpTo (next : Nat) (es : Table Epoch) : Nat → Nat → Nat
  | 0, c => c
  | fuel + 1, c =>
    if next ≤ c + 1 then c
    else match tget es (c + 1) with
      | some e => if e.released then epochUpTo next es fuel (c + 1) else c
      | none => epochUpTo next es fuel (c + 1)

/-- A repair whose record is released: ALLOCATED of the media left falls by each fragment moved, and an evacuation deletes the old fragments (R273). -/
def State.repairReleased (s : State) (n : Nat) (r : Repair) : State :=
  let p := payloadLen (recLen r.record) (recK r.record) + 128
  let moved := (r.frags.map Prod.fst).filter (fun i => recMedia r.record i == r.media)
  let s := r.frags.foldl (fun s f => s.subAlloc (recMedia r.record f.1) p) s
  let s := if r.evacuate then moved.foldl (fun s i => s.sendDelete (s.media r.media).shelf (beAt r.record 8 16) (beAt r.record 24 8) i r.media (fragGen r.record i)) s else s
  let more := match r.newRecord with
    | some rec' => ((List.range (recK rec' + recM rec')).map (recMedia rec')).filter (fun d => (s.media d).state == 3)
    | none => []
  let s := s.updSouth (fun q => { q with repairs := tdel q.repairs n })
  match r.newRecord with
  | some rec' => more.eraseDups.foldl (fun s d => s.startRepair d false rec') s
  | none => s

/-- The locators of a released epoch (R257): each leaf's record, where none of a higher generation stands. -/
def State.locate (s : State) (n : Nat) (leaves : List (Nat × List Byte)) : State :=
  (leaves.foldl (fun (st : State × Nat) l =>
    let keep := match st.1.locator l.1 with | some old => decide (recGen l.2 < recGen old.record) | none => false
    ((if keep then st.1 else st.1.updSouth (fun q => { q with locators := tput q.locators l.1 { epoch := n, leaf := st.2, record := l.2 } })).touchGroup (l.1 / 2 ^ 32), st.2 + 1)) (s, 0)).1

/-- An object whose extents all stand in released epochs is settled (R90). -/
def State.settleObject (s : State) (o : Nat) : State :=
  match s.object o with
  | none => s
  | some x =>
    if x.state = .ended ∧ (s.allLocated o x).isSome then
      ((s.setObject o { x with state := .settled }).updQueue (fun q => { q with settledObjects := q.settledObjects + 1 })).touchGroup o
    else s

/-- A signature is released (R218): locators, settled objects, PCK_EPOCH_NUM, the receipts and EPOCH messages that waited. -/
def State.releaseEpoch (s : State) (n : Nat) (e : Epoch) : State :=
  let s := s.updPack (fun p => { p with epochs := tput p.epochs n { e with released := true, vgroup := [] } })
  let s := (s.freeCores e.vgroup).assignGroups
  let s := s.locate n e.leaves
  let objs := (e.leaves.map (fun l => l.1 / 2 ^ 32)).eraseDups
  let s := objs.foldl (fun s o => s.settleObject o) s
  let s := s.touchCatalogue 2 (n / 4096)
  let s := s.wr Reg.PCK_EPOCH_NUM.EPOCH (epochUpTo s.pack.nextEpoch s.pack.epochs 65600 (s.rd Reg.PCK_EPOCH_NUM.EPOCH))
  let done := s.south.repairs.filter (fun kv => kv.2.hasLeaf && (match kv.2.newRecord with | some r => e.leaves.any (fun l => l.2 == r) | none => false))
  let s := done.foldl (fun s kv => s.repairReleased kv.1 kv.2) s
  let want := s.queue.sessions.filter (fun kv => kv.2.wantEpochs.contains n)
  let s := want.foldl (fun s kv => (s.sendEpoch kv.1 n).updSession kv.1 (fun x => { x with wantEpochs := x.wantEpochs.filter (· != n) })) s
  let queues := (objs.filterMap (fun o => (s.object o).map Obj.queue)).eraseDups
  queues.foldl (fun s q => s.pump q) s

/-- A verification has failed (R219): the signature is discarded and PCK_VERIFY_FAIL raised; another group signs again; at the third
failure, or with too few other cores, PCK_SIGN_FAIL is raised and no further signature is released. -/
def State.verifyFailed (s : State) (n : Nat) (e : Epoch) : State :=
  let e' := { e with signature := none, failures := e.failures + 1, spent := e.spent ++ e.vgroup.filter (fun j => !e.spent.contains j), vgroup := [] }
  let s := s.updPack (fun p => { p with epochs := tput p.epochs n e' })
  let s := ((s.freeCores e.vgroup).bump Reg.PCK_EVENTS.VERIFY_FAIL).raise srcPckVerifyFail
  let left := (s.signingPool.filter (fun j => !e'.spent.contains j)).length
  if 3 ≤ e'.failures ∨ left < 2 then (s.updPack (fun p => { p with stopped := true })).raise srcPckSignFail else s.assignGroups

/-- EPOCH_VERIFY_DONE: a verifying group finishes slh_verify; the signature is released (R218), or discarded (R219). -/
def execEpochVerifyDone (epoch : Nat) (pass : Bool) (s : State) : Host.Outcome State Fault Refusal :=
  match tget s.pack.epochs epoch with
  | none => ok s
  | some e =>
    if e.signature.isNone ∨ e.released ∨ s.pack.stopped ∨ s.safe then ok s
    else if pass then ok (s.releaseEpoch epoch e)
    else ok (s.verifyFailed epoch e)

/-- The manifest log in the flash store: 25 headers to a page of 4 KiB (R214), the pages in the order written. -/
def manifestLog (headers : List (List Byte)) : List (List Byte) :=
  (List.range (ceilDiv headers.length 25)).map (fun n => padTo 4096 ((headers.drop (25 * n)).take 25).flatten)

/-- The DRAM cache of signed roots (R214): of the epochs released and logged, the 65,536 of the highest numbers. -/
def cacheEpochs (es : Table Epoch) : Table Epoch :=
  let old := tkeys es (fun _ e => e.released && e.logged)
  let drop := old.take (old.length - 65536)
  if drop.isEmpty then es else tkeep es (fun n _ => !drop.contains n)

/-- MANIFEST_LOG_APPEND: a released epoch's header joins the manifest log, and its segment waits for the shelves (R214). -/
def execManifestLogAppend (epoch : Nat) (s : State) : Host.Outcome State Fault Refusal :=
  match tget s.pack.epochs epoch with
  | none => ok s
  | some e =>
    if !e.released ∨ e.logged then ok s
    else ok ((s.updPack (fun p => { p with logHeaders := p.logHeaders ++ [e.header], epochs := cacheEpochs (tput p.epochs epoch { e with logged := true }) })).touchCatalogue 2 (epoch / 4096))

/-- PCK_REVERIFY.AGE in seconds, 60 at least. -/
def State.reverifyAge (s : State) : Nat := max 60 (s.rd Reg.PCK_REVERIFY.AGE)

/-- A fragment stands in staging with its hash, so that it is re-verified (R197). -/
def verifiable (f : Fragment) : Bool := f.phase == .held || f.phase == .sent || f.phase == .durable

/-- The staged fragments of an index of an extent: its own, and those that repairs of it have placed, the longest unverified first. -/
def State.stagedCopies (s : State) (e i : Nat) : List (Bool × Nat × Nat) :=
  let own := match (s.extent e).bind (fun x => tget x.frags i) with | some f => if verifiable f then [(f.lastVerify, false, e, i)] else [] | none => []
  let reps := s.south.repairs.filterMap (fun kv => if recExt kv.2.record = e then (match tget kv.2.frags i with | some f => if verifiable f then some (f.lastVerify, true, kv.1, i) else none | none => none) else none)
  (sortBy Prod.fst (own ++ reps)).map Prod.snd

/-- The payload length of the extent that a staged fragment belongs to. -/
def State.heldPayload (s : State) (o : Bool × Nat × Nat) : Nat :=
  if o.1 then (match tget s.south.repairs o.2.1 with | some r => payloadLen (recLen r.record) (recK r.record) | none => 0)
  else (match s.extent o.2.1 with | some x => payloadLen x.len x.k | none => 0)

/-- REVERIFY_DUE: an idle core hashes a staged fragment older than AGE again; a mismatch raises STG_CHECK_FAIL and makes it lost (R197). One that its
shelf has acknowledged needs no other copy, and only the fault is raised (DESIGN CHOICE, assumption 121). -/
def execReverifyDue (obj idx frag : Nat) (s : State) : Host.Outcome State Fault Refusal :=
  match s.stagedCopies (extKey obj idx) frag with
  | [] => ok s
  | o :: _ => match s.heldFrag o with
    | none => ok s
    | some f =>
      if !s.isSet Reg.PCK_CTRL.REVERIFY_EN ∨ !s.chanHealthy f.channel ∨ s.chanRetraining f.channel ∨ !(spongeCores.any s.spgIdle) ∨ s.safe then ok s
      else
        let s := s.advanceTo (f.lastVerify + s.reverifyAge * second)
        let payload := s.fragPayload (s.heldPayload o) f
        let (poisoned, s) := s.touchPages f.channel (runPages f.runs)
        if poisoned.isNone ∧ some (shakeDom 0x03 payload) = f.hash then ok (s.updHeld o (fun f => { f with lastVerify := s.now }))
        else
          let detail := checkDetail f.channel ((runPages f.runs).headD 0)
          ok (((s.bump Reg.PCK_EVENTS.REVERIFY_FAIL).updHeld o Fragment.lose).note srcStgCheckFail detail).afterLoss

/-- PCK_QREL: QREL written 1 from Keeper world; the core that QCORE names, if QUARANTINED, runs self-test (Table 6-1). -/
def execPckQrel (core : Nat) (world : World) (s : State) : Host.Outcome State Fault Refusal :=
  if world = .tack ∨ 128 ≤ core then ok s
  else
    let s := s.wr Reg.PCK_CTRL.QCORE core
    if s.spg core = .quarantined then ok ((s.setSpg core .selfTest).updPack (fun p => { p with tests := tput p.tests core .release })) else ok s

/-- PCK_SELFTEST_DONE: a core's self-test ends (Table 6-1): in service when it passes and the mismatch count is below its limit,
QUARANTINED with its fault raised when not, IDLE where R38 aborts it. -/
def execPckSelftestDone (core : Nat) (result : TestEnd) (signature : Nat) (s : State) : Host.Outcome State Fault Refusal :=
  match tget s.pack.tests core with
  | none => ok s
  | some why =>
    if result = .aborted ∧ !s.mayAbort .sponge why then ok s else
    let s := s.updPack (fun p => { p with tests := tdel p.tests core })
    let s := if why = .rolling then s.testEnded .sponge core else s
    if result = .aborted then
      ok ((if s.spg core = .selfTest then s.spongeServe core else s).testOver .sponge core result signature)
    else if result ≠ .pass then ok (((s.testOver .sponge core result signature).dropSponge core .quarantined).raise srcPckSelftestFail core)
    else
      let s := s.testOver .sponge core result signature
      let count := (recentTimes s.now (s.rd Reg.PCK_QPOL.WINDOW) (tgetD s.pack.mismatches core [])).length
      if why = .suspect ∧ max 1 (s.rd Reg.PCK_QPOL.LIMIT) ≤ count then ok ((s.dropSponge core .quarantined).raise srcPckQuarantine core)
      else ok (if why = .rolling then s.spongeServe core else (s.spongeServe core).backInService .sponge core)

end Sys2Proof.Machine
end

