-- ==== Sys2Proof/Machine/NorthWire.lean ====
section
/-!
DEFINITION. What a datagram must pass before a session sees it: the north MACs' MACsec (R43 to R45), the addresses and the UDP port (R41, R42),
the frame's header (R46, R47) and its tag (R48).
-/

namespace Sys2Proof.Machine

/-- The queue engine runs: from the entry to SEAL, also in a HEEL that keeps its state (R33), not in the safe state (R476). -/
def State.engineRuns (s : State) : Bool := (s.svc == .seal || s.heelRetains) && !s.safe

/-- The fields of a frame's header (Table 2-1). -/
def NorthIn.version (f : NorthIn) : Nat := beAt f.header 0 1
def NorthIn.opcode (f : NorthIn) : Nat := beAt f.header 1 1
def NorthIn.flags (f : NorthIn) : Nat := beAt f.header 2 2
def NorthIn.session (f : NorthIn) : Nat := beAt f.header 4 4
def NorthIn.pn (f : NorthIn) : Nat := beAt f.header 8 8
def NorthIn.stream (f : NorthIn) : Nat := beAt f.header 16 4
def NorthIn.path (f : NorthIn) : Nat := beAt f.header 20 1
def NorthIn.len (f : NorthIn) : Nat := beAt f.header 22 2
def NorthIn.word (f : NorthIn) : Nat := beAt f.header 24 8
def NorthIn.prot (f : NorthIn) : Bool := bitOf f.flags 0
def NorthIn.last (f : NorthIn) : Bool := bitOf f.flags 1

/-- The two ends that a frame names. -/
def NorthIn.ends (f : NorthIn) : Ends := { v6 := f.v6, peer := f.src, port := f.sport, north := f.dst }

/-- The header passes R47: VERSION, LENGTH against the datagram, and the bits that Table 2-1 calls reserved; the tag stands there exactly where
PROT says so. -/
def NorthIn.headerOk (f : NorthIn) : Bool :=
  f.header.length == 32 && f.version == 1 && f.len == f.payload.length && decide (f.flags < 8) && decide (f.path < 16) && beAt f.header 21 1 == 0
    && f.tag.isSome == f.prot

/-- The MAC requires MACsec (R45). -/
def State.macsecRequired (s : State) (mac : Nat) : Bool := bitOf (s.dictVal 0x2003 1) mac

/-- The extended packet number of a SecTAG's low 32 bits, near the next one expected (IEEE 802.1AE-2018; PRESUMED, log entry 122). -/
def RxChannel.extend (c : RxChannel) (low : Nat) : Nat :=
  (c.next / 2 ^ 32 + b2n (decide (2 ^ 31 ≤ c.next % 2 ^ 32 ∧ low < 2 ^ 31))) * 2 ^ 32 + low

/-- A SecTAG is taken by a MAC's channels (R43): its SCI names a receive channel, the packet number lies in the replay window, and the ICV is that
of GCM-AES-XPN-256 under the installed SAK, whose IV is the salt with the short SCI and the extended packet number added bit by bit (IEEE
802.1AE-2018; PRESUMED, log entry 122). The channel's next number follows. -/
def MacSec.take (m : MacSec) (window : Nat) (t : SecTag) : Option MacSec :=
  match m.rx.find? (fun c => c.sci == t.sci) with
  | none => none
  | some c =>
    let pn := c.extend (t.pn % 2 ^ 32)
    if pn + window < c.next ∨ gcmTag m.sak (m.salt ^^^ (c.ssci * 2 ^ 64 + pn)) t.aad t.body ≠ t.icv then none
    else some { m with rx := m.rx.map (fun d => if d.sci = t.sci then { d with next := max d.next (pn + 1) } else d) }

/-- MACsec on reception (R45): a frame without a SecTAG passes where the MAC does not require one; one whose SecTAG or ICV is not valid is
discarded and counted. -/
def State.macsecTake (s : State) (mac : Nat) (sec : Option SecTag) : State × Bool :=
  let drop := (s.updQueue (fun q => { q with macsecDrops := q.macsecDrops + 1 }), false)
  match sec with
  | none => if s.macsecRequired mac then drop else (s, true)
  | some t => match (tget s.queue.macsec mac).bind (fun m => m.take (s.dictVal 0x2003 2) t) with
    | some m => (s.updQueue (fun q => { q with macsec := tput q.macsec mac m }), true)
    | none => drop

/-- An address is one of the north addresses of a MAC (R42, R572). -/
def State.northAddr (s : State) (mac : Nat) (v6 : Bool) (a : Nat) : Bool :=
  let l := s.domain 0x2002 0
  (List.range (l.length / 20)).any (fun i =>
    beAt l (20 * i) 1 == mac && beAt l (20 * i + 1) 1 == (if v6 then 6 else 4) && beAt l (20 * i + 4) 16 == a)

/-- A datagram arrives (R41 to R45, R47): on a MAC with MACsec in order, for a north address of that MAC and port 47010, with a good header. Another
port or address is none of Seal Transport's, and nothing is counted. -/
def State.takeDatagram (s : State) (f : NorthIn) : State × Bool :=
  if !s.engineRuns then (s, false)
  else match s.macsecTake f.mac f.sec with
    | (s, false) => (s, false)
    | (s, true) =>
      if f.dport ≠ northPort ∨ !s.northAddr f.mac f.v6 f.dst then (s, false)
      else if !f.headerOk then (s.updQueue (fun q => { q with badHeaders := q.badHeaders + 1 }), false)
      else (s, true)

/-- A frame's tag is that of AES-256-GCM under a key of its session: the header is the AAD, the IV the peer's salt and the PN (R48). -/
def Session.tagUnder (x : Session) (key : Nat) (f : NorthIn) : Bool := f.tag == some (gcmSeal key (x.rxSalt * 2 ^ 64 + f.pn) f.header f.payload).2

/-- A frame passes its tag check under the session's receive key, or under the one before while that still serves (R48, R59). -/
def State.tagGood (s : State) (x : Session) (f : NorthIn) : Bool :=
  !x.erased && (x.tagUnder x.rxKey f || (match x.prevKey with | some (k, until_) => decide (s.now < until_) && x.tagUnder k f | none => false))

end Sys2Proof.Machine
end

