-- ==== Sys2Proof/Machine/Session.lean ====
section
/-!
DEFINITION. Seal Transport's sessions (chapter 02, R41 to R72): what an arriving frame must pass, the handshake, the session state
machine of Table 2-4, acknowledgement and loss, paths, and the timers of Table 2-6.
-/

namespace Sys2Proof.Machine

/-- Opcodes of Table 2-2 that a client sends. -/
def opPathAdd : Nat := 0x10
def opQueueOpen : Nat := 0x20
def opQueueClose : Nat := 0x22
def opObjBegin : Nat := 0x30
def opObjEnd : Nat := 0x33
def opObjAbort : Nat := 0x34
def opReceiptGet : Nat := 0x52
def opEpochGet : Nat := 0x53
def opRestoreReq : Nat := 0x60

/-- The opcodes that AUTH_WAIT processes (Table 2-4). -/
def waitsFor (op : Nat) : Bool := op == opAuth || op == opAck || op == opKeepalive || op == opClose || op == opReset

/-- The opcodes that a client sends (Table 2-2). -/
def clientOps : List Nat :=
  [0x01, opAuth, opKeyUpdate, opClose, opCloseAck, opKeepalive, opReset, opPathAdd, opPathProbe, opQueueOpen, opQueueClose, opObjBegin, opData,
   opObjEnd, opObjAbort, opAck, opCredit, opReceiptGet, opEpochGet, opRestoreReq]

/-- Count a frame toward the acknowledgement; 8 of them send an ACK (R64). -/
def State.countUnacked (s : State) (sid : Nat) : State :=
  let s := s.updSession sid (fun x => { x with unacked := x.unacked + 1, firstUnacked := some (x.firstUnacked.getD s.now) })
  match s.session sid with
  | some x => if 8 ≤ x.unacked then s.sendAck sid else s
  | none => s

/-- A frame's packet number is among those to acknowledge (R64). -/
def State.acknowledge (s : State) (sid pn : Nat) : State :=
  (s.updSession sid (fun x => { x with received := insertNum pn x.received })).countUnacked sid

/-- The greatest payload of a frame (R50). -/
def Session.payloadLimit (x : Session) (op : Nat) : Nat := if op = opData then x.maxData else x.maxPayload

/-- A frame arrives for the command `op`: the datagram (R41 to R47), the tag (R48), the session's state (Table 2-4), the packet number (R49) and the
acknowledgement (R64). The second part says whether its opcode is to be processed. `ack` is false where the frame is not acknowledged or, for DATA,
where that is settled with its place (R75). An opcode that no client sends is answered BAD_OPCODE (R51); one that is another command's is left to
that command (assumption 123). -/
def State.acceptNorth (s : State) (f : NorthIn) (op : Nat) (ack : Bool := true) : State × Bool :=
  if f.opcode ≠ op ∧ f.opcode ∈ clientOps then (s, false)
  else match s.takeDatagram f with
    | (s, false) => (s, false)
    | (s, true) => match s.session f.session with
      | none => (s.updQueue (fun q => { q with tagFails := q.tagFails + 1 }), false)
      | some x =>
        if !s.tagGood x f then (s.updQueue (fun q => { q with tagFails := q.tagFails + 1 }), false)
        else if x.payloadLimit f.opcode < f.payload.length then (s.updQueue (fun q => { q with badHeaders := q.badHeaders + 1 }), false)
        else if x.state = .closed then
          (if op = opClose ∧ f.opcode = op then s.sendFrame f.session opCloseAck 0 0 [] else s, false)
        else
          let s := s.updSession f.session (fun x => { x with lastFrame := s.now })
          let s := if ack then s.acknowledge f.session f.pn else s
          if inRanges f.pn x.received then (if !ack && f.opcode == opData then s.acknowledge f.session f.pn else s, false)
          else if f.opcode ≠ op ∨ (x.state = .authWait ∧ !waitsFor op) then
            (((if ack then s else s.acknowledge f.session f.pn)).status f.session f.opcode cBadOpcode, false)
          else (s, true)

/-- A free context: the lowest queue number not in use (DESIGN CHOICE, log entry 121: the spec names no order), of the 2^18 that STREAM can name
(Table 2-1). -/
def State.freeQueue (s : State) : Option Nat :=
  let n := lowestFree (s.queue.queues.length + 1) 0 (s.queue.queues.map Prod.fst)
  if n < 2 ^ 18 then some n else none

/-- A queue returns to FREE; what it still owed is owed no more. -/
def State.freeQueueCtx (s : State) (n : Nat) : State :=
  s.updQueue (fun q => { q with queues := tdel q.queues n, objects := tmap q.objects (fun _ x => if x.queue = n then { x with answered := true } else x) })

/-- A queue leaves its session (R76): FREE without settled receipts outstanding, else DETACHED. -/
def State.detachQueue (s : State) (n : Nat) : State :=
  match s.queue? n with
  | none => s
  | some q =>
    if s.awaitsReceipt n || (s.queueObjects n).any (fun kv => kv.2.state == .settled) then
      (s.setQueue n { q with state := .detached, session := 0, detachExpiry := none }).pump n
    else s.freeQueueCtx n

/-- The queues of a session. -/
def State.sessionQueues (s : State) (sid : Nat) : List Nat := tkeys s.queue.queues (fun _ q => q.session == sid && q.state != .detached)

/-- The session closes: its keys are erased where the table says so; of an established one the open objects are aborted and the queues
detached (Table 2-4; the reason of these aborts is the model's, assumption 18). -/
def State.closeSession (s : State) (sid : Nat) (erase : Bool) : State :=
  let qs := s.sessionQueues sid
  let s := qs.foldl (fun s n => match s.queue? n with | some q => (match q.open' with | some o => s.abortObject o cAborted | none => s) | none => s) s
  let s := qs.foldl (fun s n => s.detachQueue n) s
  s.updSession sid (fun x =>
    let x := { x with state := .closed, closedAt := some s.now, wantEpochs := [] }
    if erase then { x with erased := true, unacked := 0, firstUnacked := none, rxKey := 0, txKey := 0, rxSalt := 0, txSalt := 0, prevKey := none, sent := [] } else x)

/-- The session ID counter's next free value (R61). -/
def nextSessionId (used : Table Session) : Nat → Nat → Nat
  | 0, n => n
  | fuel + 1, n => if n = 0 ∨ (tget used n).isSome then nextSessionId used fuel ((n + 1) % 2 ^ 32) else n

/-- A session ID, from the counter that starts at a random value (R61). -/
def State.takeSessionId (s : State) : Nat × State :=
  let (start, s) := match s.queue.nextSession with
    | some n => (n, s)
    | none => let (r, s) := s.draw 32; (r % 2 ^ 32, s)
  let n := nextSessionId s.queue.sessions (s.queue.sessions.length + 2) start
  (n, s.updQueue (fun q => { q with nextSession := some ((n + 1) % 2 ^ 32) }))

/-- Send a hello payload in its two segments (R52), and an AUTH payload in as many as it needs. -/
def State.sendHello (s : State) (mac : Nat) (e : Ends) (sid : Nat) (hello auth : List Byte) : State :=
  let s := (s.sendPlain mac e opServerHello sid 0 (hello.take 1024) false).sendPlain mac e opServerHello sid 1024 (hello.drop 1024) true
  let n := match s.session sid with | some x => x.maxPayload | none => 1392
  ((cutBytes n 64 auth).foldl (fun (st : State × Nat) p => (st.1.sendFrame sid opAuth 0 st.2 p (decide (st.2 + p.length = auth.length)), st.2 + p.length)) (s, 0)).1

/-- The session of a CLIENT_HELLO whose shared secrets are agreed (Table 2-4): its path 0 has the hello's ends (R68); SERVER_HELLO and the device's AUTH
are sent. -/
def State.beginSession (s : State) (mac : Nat) (e : Ends) (rate : Nat) (hello pub ciphertext : List Byte) (random ssk ssx : Nat) : State :=
  let (sid, s) := s.takeSessionId
  let features := (beAt hello 0 16) &&& 0x1FF &&& s.dictVal 0x2001 0
  let answer := beBytes 16 features ++ beBytes 32 random ++ beBytes 4 sid ++ pub ++ ciphertext
  let th := transcript hello answer
  let km := keyMaterial ssk ssx th "LGE9120 seal transport"
  let (auth, s) := s.deviceAuth "LGE9120 ST device" th
  let x : Session := { state := .authWait, random := beAt hello 16 32, features := features, client := 0, rxKey := beAt km 0 32, txKey := beAt km 32 32, rxSalt := beAt km 64 4, txSalt := beAt km 68 4, prevKey := none, keyGen := 0, th := th, txPn := 0, received := [], unacked := 0, firstUnacked := none, sent := [], auth := [], helloAt := s.now, lastFrame := s.now, lastSent := s.now, closedAt := none, closeSent := false, epochs := [], wantEpochs := [], paths := [(0, { newPath rate mac s.northRto true with ends := e })], handles := [], hello := answer, ownAuth := auth, erased := false, txGen := 0 }
  (s.setSession sid x).sendHello mac e sid answer auth

/-- A complete CLIENT_HELLO (Table 2-4): a session, the SERVER_HELLO of its session once more, or an unprotected RESET. -/
def State.takeHello (s : State) (mac : Nat) (e : Ends) (rate : Nat) (hello : List Byte) : State :=
  match s.queue.sessions.find? (fun kv => kv.2.state == .authWait && kv.2.random == beAt hello 16 32) with
  | some (sid, x) => s.sendHello mac e sid x.hello x.ownAuth
  | none =>
    if !s.awlServes then s.sendPlain mac e opReset 0 cNotAvailable []
    else if !bitOf (beAt hello 0 16) 0 then s.sendPlain mac e opReset 0 cFeatureMismatch []
    else if 16384 ≤ s.queue.sessions.length then s.sendPlain mac e opReset 0 cSessionLimit []
    else
      let (sh, s) := s.share (beAt hello 48 32) (slice hello 80 1568)
      match sh.shared with
      | none => s.sendPlain mac e opReset 0 cAuthFailed []
      | some (ssk, ssx) => s.beginSession mac e rate hello (beBytes 32 sh.pub) sh.ciphertext sh.random ssk ssx

/-- The sender of a hello: its address and UDP port. -/
def NorthIn.sender (f : NorthIn) : Nat := (f.src * 65536 + f.sport) * 2 + b2n f.v6

/-- CLIENT_HELLO: a segment of a CLIENT_HELLO arrives on a MAC whose path runs at `rate` Gbit/s (R52), unprotected and of session 0; beyond 2,000 in a
second it is discarded and counted (R58); the complete hello is answered by Table 2-4. -/
def execClientHello (f : NorthIn) (rate : Nat) (s : State) : Host.Outcome State Fault Refusal :=
  if f.opcode ≠ 1 then ok s
  else match s.takeDatagram f with
    | (s, false) => ok s
    | (s, true) =>
      let data := f.payload
      if f.prot ∨ f.session ≠ 0 ∨ !((f.word = 0 ∧ data.length = 1024 ∧ !f.last) ∨ (f.word = 1024 ∧ data.length = 624 ∧ f.last)) then
        ok (s.updQueue (fun q => { q with badHeaders := q.badHeaders + 1 }))
      else
        let times := s.queue.helloTimes.filter (fun t => decide (s.now < t + second))
        if 2000 ≤ times.length then ok (s.updQueue (fun q => { q with helloDrops := q.helloDrops + 1, helloTimes := times }))
        else
          let s := s.updQueue (fun q => { q with helloTimes := times ++ [s.now] })
          let key (o : Nat) : Nat := 2 * f.sender + b2n (o != 0)
          match tget s.queue.halves (key (1024 - f.word)) with
          | some h =>
            let s := s.updQueue (fun q => { q with halves := tdel q.halves (key (1024 - f.word)) })
            ok (s.takeHello f.mac f.ends rate (if f.word = 0 then data ++ h.bytes else h.bytes ++ data))
          | none => ok (s.updQueue (fun q => { q with halves := tput q.halves (key f.word) { at' := s.now, bytes := data } }))

/-- CLIENT_HELLO_SEGMENT_TIMEOUT: the second segment has not arrived within 100 ms, and the first is discarded (R52). -/
def execClientHelloSegmentTimeout (sender : Nat) (s : State) : Host.Outcome State Fault Refusal :=
  match s.queue.halves.find? (fun kv => kv.1 / 2 == sender) with
  | some (k, h) => ok ((s.advanceTo (h.at' + 100 * msec)).updQueue (fun q => { q with halves := tdel q.halves k, halfDrops := q.halfDrops + 1 }))
  | none => ok s

/-- What a client's AUTH says: its leaf's key ID, where the message has the layout of R634, is signed over "LGE9120 ST client" and TH, and its chain
is good up to an anchor of Tack firmware's client table (R56, R640). -/
def State.clientOf (s : State) (anchors : List Anchor) (th msg : List Byte) : Option Nat :=
  (parseAuth msg).bind (fun m => (m.signed "LGE9120 ST client" th).bind (fun cs =>
    if m.whole && s.chainGood anchors cs then cs.head?.bind Cert.keyId else none))

/-- AUTH: a segment of the client's AUTH arrives; complete, its layout, its signature, its chain up to one of the `anchors` of Tack firmware's client
table and its admission by that table (`admitted`) establish the session for its certificate, or end it with AUTH_FAILED (R57, R60, R634, R640). -/
def execAuth (f : NorthIn) (anchors : List Anchor) (admitted : Bool) (s : State) : Host.Outcome State Fault Refusal :=
  let (s, go) := s.acceptNorth f opAuth
  match s.session f.session with
  | none => ok s
  | some x =>
    if !go ∨ x.state ≠ .authWait then ok s
    else
      let segs := authSegments x.auth f.word f.last f.payload
      let s := s.setSession f.session { x with auth := segs }
      match authMessage segs with
      | none => ok s
      | some msg => match s.clientOf anchors x.th msg, admitted with
        | some client, true => ok ((s.updSession f.session (fun x => { x with state := .established, client := client, auth := [] })).status f.session opAuth cOk)
        | _, _ => ok ((s.sendFrame f.session opReset 0 cAuthFailed []).closeSession f.session true)

/-- AUTH_WAIT_TIMEOUT: 2 s since SERVER_HELLO without a valid AUTH: the keys are erased and the session closes (Table 2-4). The 2 s run from the
first SERVER_HELLO, also where it was sent again (DESIGN CHOICE, log entry 121). -/
def execAuthWaitTimeout (session : Nat) (s : State) : Host.Outcome State Fault Refusal :=
  match s.session session with
  | some x => if x.state = .authWait then ok ((s.advanceTo (x.helloAt + 2 * second)).closeSession session true) else ok s
  | none => ok s

/-- KEY_UPDATE: the client's next key is derived; its previous one serves 3 × the maximum RTO more (R59). WORD is the new generation; one already
taken has no further effect. -/
def execKeyUpdate (f : NorthIn) (s : State) : Host.Outcome State Fault Refusal :=
  let (s, go) := s.acceptNorth f opKeyUpdate
  match s.session f.session with
  | some x =>
    if go ∧ f.word = x.keyGen + 1 then
      ok (s.setSession f.session { x with prevKey := some (x.rxKey, s.now + 3 * rtoCeiling), rxKey := nextKey x.rxKey "LGE9120 ST update", keyGen := f.word })
    else ok s
  | none => ok s

/-- PREV_KEY_ERASE: 3 × the maximum RTO after a KEY_UPDATE the previous receive key of a session (`link` 0), of an association (1), or of a Smilia
session (2) is erased (R59, R237, R555). -/
def execPrevKeyErase (link id : Nat) (s : State) : Host.Outcome State Fault Refusal :=
  if link = 2 then
    match (tget s.smilia.sessions id).bind SmlSession.prevKey with
    | some (_, t) => ok ((s.advanceTo t).updSmilia (fun m => { m with sessions := tmod m.sessions id (fun x => { x with prevKey := none }) }))
    | none => ok s
  else if link = 1 then
    match (s.assoc id).bind Assoc.prevKey with
    | some (_, t) => ok ((s.advanceTo t).updAssoc id (fun a => { a with prevKey := none }))
    | none => ok s
  else
    match (s.session id).bind Session.prevKey with
    | some (_, t) => ok ((s.advanceTo t).updSession id (fun x => { x with prevKey := none }))
    | none => ok s

/-- CLOSE: open objects are aborted, queues detached, and CLOSE_ACK is sent (Table 2-4). -/
def execClose (f : NorthIn) (s : State) : Host.Outcome State Fault Refusal :=
  let (s, go) := s.acceptNorth f opClose
  match s.session f.session with
  | some x =>
    if !go then ok s
    else if x.state = .authWait then ok ((s.sendFrame f.session opCloseAck 0 0 []).closeSession f.session true)
    else
      let s := s.closeSession f.session false
      ok (s.sendFrame f.session opCloseAck 0 0 [])
  | none => ok s

/-- CLOSE_ACK: it answers a CLOSE that the device sent, and the session closes. -/
def execCloseAck (f : NorthIn) (s : State) : Host.Outcome State Fault Refusal :=
  let (s, go) := s.acceptNorth f opCloseAck
  match s.session f.session with
  | some x => if go ∧ x.closeSent then ok (s.closeSession f.session false) else ok s
  | none => ok s

/-- KEEPALIVE: received and acknowledged (R64). -/
def execKeepalive (f : NorthIn) (s : State) : Host.Outcome State Fault Refusal := ok (s.acceptNorth f opKeepalive).1

/-- RESET: a protected RESET closes the session (R62, Table 2-4). -/
def execReset (f : NorthIn) (s : State) : Host.Outcome State Fault Refusal :=
  let (s, go) := s.acceptNorth f opReset
  match s.session f.session with
  | some x => if go then ok (s.closeSession f.session (x.state == .authWait)) else ok s
  | none => ok s

/-- SESSION_IDLE_TIMEOUT: no frame on any path for the session idle time-out (Table 2-6): the session closes. -/
def execSessionIdleTimeout (session : Nat) (s : State) : Host.Outcome State Fault Refusal :=
  match s.session session with
  | some x => if x.state = .established then ok ((s.advanceTo (x.lastFrame + s.dictVal 0x2000 4 * msec)).closeSession session false) else ok s
  | none => ok s

/-- SESSION_RELEASE: 3 × the maximum RTO in CLOSED: the session's resources are released (Table 2-4), its restore handles with them. -/
def execSessionRelease (session : Nat) (s : State) : Host.Outcome State Fault Refusal :=
  match s.session session with
  | some x =>
    match x.closedAt with
    | some t =>
      let s := (s.advanceTo (t + 3 * rtoCeiling)).updQueue (fun q => { q with sessions := tdel q.sessions session })
      let s := (tkeys s.south.restores (fun _ r => r.session == session)).foldl (fun s h => s.endRestore h cOk) s
      ok (s.updSouth (fun q => { q with waiting := q.waiting.filter (fun w => w.session != session) }))
    | none => ok s
  | none => ok s

/-- What the client has acknowledged of a restore's DATA: everything sent below the first DATA frame still unacknowledged (R95, R96). -/
def State.restoreAcked (s : State) (h : Nat) (r : Restore) : State :=
  match s.session r.session with
  | none => s
  | some x =>
    let open' := (x.sent.filter (fun f => f.2.typ == opData && f.2.stream == handleStream r.handle)).map (fun f => f.2.word)
    let upTo := open'.min?.getD r.sent
    if upTo ≤ r.acked then s
    else
      let size := extBytes r.ext
      let done (e : RestoreExt) : Bool := decide (min ((e.idx + 1) * size) r.upTo ≤ upTo)
      let s := s.updSouth (fun q => { q with restores := tput q.restores h { r with acked := upTo, progress := s.now, exts := r.exts.map (fun e => if e.verified && done e then { e with taken := true, plain := [] } else e) } })
      if r.ended && upTo == r.upTo then s.dropRestore h else s

/-- ACK: the acknowledgement is validated; its ranges acknowledge frames, give a round-trip sample, show frames lost, and free the egress
buffer (R64 to R66, R95). -/
def execAck (f : NorthIn) (s : State) : Host.Outcome State Fault Refusal :=
  let (s, go) := s.acceptNorth f opAck false
  match s.session f.session with
  | none => ok s
  | some x =>
    if !go then ok s
    else match (ackPayload f.payload).bind (fun a => (ackedRanges f.word a.2.1 a.2.2).map (fun rs => (a.1, rs))) with
      | none => ok (s.updQueue (fun q => { q with badAcks := q.badAcks + 1 }))
      | some (delay, rs) =>
        let hit := x.sent.filter (fun g => inRanges g.1 rs)
        let x' := { x with sent := tkeep x.sent (fun n _ => !inRanges n rs) }
        let x' := match tget x.sent f.word with
          | some g => { x' with paths := tmod x'.paths g.path (fun p => p.sample (s.now - g.at') delay s.northFloor rtoCeiling) }
          | none => x'
        let x' := { x' with paths := tmap x'.paths (fun i p => if p.failed && hit.any (fun g => g.2.typ == opPathProbe && g.2.path == i) then { p with probeAcked := true } else p) }
        let s := s.setSession f.session x'
        let lost := lostBelow (hit.map (fun g => (g.1, g.2.path))) (x'.sent.map (fun g => (g.1, g.2.path)))
        let s := lost.foldl (fun s n => s.resendFrame f.session n) s
        let mine := s.south.restores.filter (fun kv => kv.2.session == f.session)
        ok (mine.foldl (fun s kv => s.restoreAcked kv.1 kv.2) s).pumpRestores

/-- ACK_DELAY_TIMER: 10 µs after the first unacknowledged frame the device sends an ACK, on a session or on an association (R64, R239). -/
def execAckDelayTimer (south : Bool) (id : Nat) (s : State) : Host.Outcome State Fault Refusal :=
  if south then
    match (s.assoc id).bind Assoc.firstUnacked with
    | some t => ok ((s.advanceTo (t + 10 * usec)).sendSouthAck id)
    | none => ok s
  else
    match (s.session id).bind Session.firstUnacked with
    | some t => ok ((s.advanceTo (t + 10 * usec)).sendAck id)
    | none => ok s

/-- RTO_EXPIRY: a frame's RTO expires; it is retransmitted, the RTO doubles, and at the third expiry in a row its path fails (R65, R66,
R71). -/
def execRtoExpiry (session pn : Nat) (s : State) : Host.Outcome State Fault Refusal :=
  match s.session session with
  | none => ok s
  | some x => match tget x.sent pn with
    | none => ok s
    | some f => match tget x.paths f.path with
      | none => ok (s.resendFrame session pn)
      | some p =>
        let s := s.advanceTo (f.at' + p.rto)
        let p := p.expire rtoCeiling
        let s := s.updSession session (fun x => { x with paths := tput x.paths f.path p })
        ok ((if 3 ≤ p.expiries then s.failPath session f.path else s).resendFrame session pn)

/-- PATH_REPROBE: every 10 ms a failed path of a session, or of an association, is probed (R71, R239). -/
def execPathReprobe (south : Bool) (id path : Nat) (s : State) : Host.Outcome State Fault Refusal :=
  let probed (p : Path) (now : Nat) : Path := { p with lastProbe := now, probe := p.probe + 1, probeAcked := false }
  if south then
    match (s.assoc id).bind (fun a => tget a.paths path) with
    | some p =>
      if !p.failed then ok s
      else
        let s := s.advanceTo (p.lastProbe + 10 * msec)
        ok ((s.updAssoc id (fun a => { a with paths := tput a.paths path (probed p s.now) })).sendSouthOn id path 0x08 2 0 (p.probe + 1) [])
    | none => ok s
  else
    match (s.session id).bind (fun x => tget x.paths path) with
    | some p =>
      if !p.failed then ok s
      else
        let s := s.advanceTo (p.lastProbe + 10 * msec)
        ok ((s.updSession id (fun x => { x with paths := tput x.paths path (probed p s.now) })).sendOn id path opPathProbe 2 0 (p.probe + 1) [])
    | none => ok s

/-- A north port works again: its fault's condition ends (R636). -/
def State.northUp (s : State) (mac : Nat) : State :=
  if mac ∈ s.queue.downMacs then ((s.updQueue (fun q => { q with downMacs := q.downMacs.filter (· != mac) })).fall (srcNpPortFail mac)).closeWindows (.north mac) else s

/-- PATH_PROBE: a probe of the client is received; or the device's own probe of a failed path has been acknowledged, and the path returns to
use (R71). -/
def execPathProbe (f : NorthIn) (acknowledged : Bool) (s : State) : Host.Outcome State Fault Refusal :=
  if acknowledged then
    match (s.session f.session).bind (fun x => tget x.paths f.path) with
    | some p =>
      if p.failed ∧ p.probeAcked then
        ok ((s.updSession f.session (fun x => { x with paths := tput x.paths f.path { p with failed := false, expiries := 0, probeAcked := false } })).northUp p.port)
      else ok s
    | none => ok s
  else ok (s.acceptNorth f opPathProbe).1

/-- A path over a pair of client and north address (R68). -/
def Path.over (p : Path) (e : Ends) : Bool := p.ends.v6 == e.v6 && p.ends.peer == e.peer && p.ends.north == e.north

/-- PATH_ADD: a client adds a path from a new pair of addresses, with an unused index; WORD is its link rate, and PATH_CONFIRM answers on it (R68).
It needs MULTIPATH (R51). A repeated PATH_ADD is confirmed again; an index in use over another pair, or a pair in use under another index, answers
BAD_FIELD (DESIGN CHOICE, log entry 19). -/
def execPathAdd (f : NorthIn) (s : State) : Host.Outcome State Fault Refusal :=
  let (s, go) := s.acceptNorth f opPathAdd
  match s.session f.session with
  | none => ok s
  | some x =>
    if !go then ok s
    else if !x.has 1 then ok (s.status f.session opPathAdd cBadOpcode)
    else match tget x.paths f.path with
      | some p => if p.over f.ends then ok (s.sendOn f.session f.path opPathConfirm 2 0 p.rate []) else ok (s.status f.session opPathAdd cBadField)
      | none =>
        if x.paths.any (fun kv => kv.2.over f.ends) then ok (s.status f.session opPathAdd cBadField)
        else
          let s := s.setSession f.session { x with paths := tput x.paths f.path { newPath f.word f.mac s.northRto true with ends := f.ends } }
          ok (s.sendOn f.session f.path opPathConfirm 2 0 f.word [])

/-- NORTH_PATH_FAULT: a fault of the north lane or port under paths: they are failed, with PATH_DOWN and retransmission on the surviving ones
(R70). -/
def execNorthPathFault (port : Nat) (s : State) : Host.Outcome State Fault Refusal :=
  if 16 ≤ port then ok s
  else
    let s := (s.raise (srcNpPortFail port)).updQueue (fun q => { q with downMacs := if port ∈ q.downMacs then q.downMacs else q.downMacs ++ [port] })
    ok (s.queue.sessions.foldl (fun s kv => s.failPaths kv.1 (tkeys kv.2.paths (fun _ p => p.port == port))) s)

/-- KEEPALIVE_TIMER: no frame sent or received for the keepalive time: a KEEPALIVE is sent (Table 2-6). -/
def execKeepaliveTimer (session : Nat) (s : State) : Host.Outcome State Fault Refusal :=
  match s.session session with
  | some x =>
    if x.state = .established ∧ s.engineRuns then ok ((s.advanceTo (max x.lastFrame x.lastSent + s.dictVal 0x2000 3 * msec)).sendFrame session opKeepalive 0 0 [])
    else ok s
  | none => ok s

end Sys2Proof.Machine
end

