-- ==== Sys2Proof/Machine/Queue.lean ====
section
/-!
DEFINITION. Queues, objects, credits, receipts and restore requests of Seal Transport (chapter 02, R73 to R93).
-/

namespace Sys2Proof.Machine

/-- The seal column of Table 1-8 holds: one stitch unit, 8 sponge cores, 2 DRAM channels, a north and a south port. -/
def State.sealColumn (s : State) : Bool :=
  stitchUnits.any s.stuHealthy && decide (8 ≤ (spongeCores.filter s.spgHealthy).length) && decide (2 ≤ s.chanCount)
  && (List.range 16).any (fun p => !s.queue.downMacs.contains p) && !s.south.upPorts.isEmpty

/-- What can fail of the heel column of Table 1-8 holds: one Awl unit, one core pair, LUN 0, which holds the SLC region. -/
def State.heelSet (s : State) : Bool :=
  awlUnits.any s.awlHealthy && (List.range 16).any (fun p => s.pstate p == 0) && bitOf (s.rd Reg.FLS_STATUS.LUN_OK) 0

/-- Both columns of Table 1-8 hold (R29). -/
def State.sealSet (s : State) : Bool := s.heelSet && s.sealColumn

/-- New opens and extents are accepted (R32). -/
def State.sealService (s : State) : Bool := s.inSeal && s.sealColumn

/-- New opens and objects are accepted: not during SHUTDOWN (R611). -/
def State.accepting (s : State) : Bool := s.sealService && s.chip.shut == .off

/-- The client's certificate is admitted to a namespace (R572). -/
def State.nsAdmits (s : State) (ns client : Nat) : Bool :=
  let l := s.domain 0x2102 0 ns
  (List.range (l.length / 16)).any (fun i => beAt l (16 * i) 16 == client)

/-- The namespace has a current key (R286). -/
def State.nsKeyed (s : State) (ns : Nat) : Bool := s.keyed && (tget s.keys.current ns).isSome

/-- A QUEUE_OPEN's code as resolved from the namespace policy (R73): k, m, extent size code, settle threshold. -/
structure Code where
  k : Nat
  m : Nat
  ext : Nat
  settle : Nat
  deriving DecidableEq, Repr

/-- Resolve a QUEUE_OPEN's fields of 0 (R73, R572). -/
def State.resolveCode (s : State) (ns k m ext settle : Nat) : Code :=
  let pick (v sub : Nat) : Nat := if v = 0 then s.dictVal 0x2101 sub ns else v
  let k := pick k 2
  let m := pick m 3
  let def' := s.dictVal 0x2101 8 ns
  { k := k, m := m, ext := pick ext 6, settle := if settle ≠ 0 then settle else if def' = 0 then k + m else def' }

/-- Check 6 of Table 2-11. -/
def State.codeAllowed (s : State) (ns : Nat) (small : Bool) (c : Code) : Bool :=
  decide (2 ≤ c.k ∧ c.k ≤ 32 ∧ 1 ≤ c.m ∧ c.m ≤ 8 ∧ c.k + c.m ≤ 36 ∧ c.k ≤ s.dictVal 0x2101 4 ns ∧ c.m ≤ s.dictVal 0x2101 5 ns ∧ c.k + 1 ≤ c.settle ∧ c.settle ≤ c.k + c.m)
  && decide (1 ≤ c.ext ∧ c.ext ≤ 5) && bitOf (s.dictVal 0x2101 7 ns) (c.ext - 1) && (!small || decide (c.k + c.m ≤ 20))

/-- The first check of Table 2-11 that a QUEUE_OPEN of a new queue fails, if any. -/
def State.openRefused (s : State) (x : Session) (ns : Nat) (c : Code) : Option Nat :=
  if !s.accepting then some cServiceDown
  else if !s.nsAdmits ns x.client || s.dictVal 0x2101 1 ns == 0 then some cNotAdmitted
  else if !s.nsKeyed ns then some cUnkeyed
  else if !s.codeAllowed ns (x.has 6) c then some cBadCode
  else if !spreadOk c.k c.m s.chanCount then some cChannelsShort
  else if s.freeQueue.isNone then some cNoQueue
  else none

/-- Send QUEUE_OPENED (Table 2-3). -/
def State.sendOpened (s : State) (sid tag n : Nat) (q : Queue) : State :=
  s.sendFrame sid opQueueOpened n tag (beBytes 4 n ++ beBytes 8 q.tag ++ [BitVec.ofNat 8 q.k, BitVec.ofNat 8 q.m, BitVec.ofNat 8 q.ext, BitVec.ofNat 8 q.settle] ++ [BitVec.ofNat 8 (b2n q.notarised + 2 * b2n q.staged), 0, 0, 0] ++ beBytes 8 q.nextSeq)

/-- QUEUE_OPEN with RESUME: checks 1 and 2 of Table 2-11, and the queue is reattached with its held receipts (R73, R76). Whether it may declare no
length, and whether it has staged receipts, follows the features of the session that resumes it (DESIGN CHOICE, assumption 121: the spec is silent). -/
def State.resumeQueue (s : State) (sid : Nat) (x : Session) (tag n resumeTag : Nat) : State :=
  match s.queue? n with
  | none => s.status sid opQueueOpen cBadResume 0 tag
  | some q =>
    if !(x.has 8) ∨ q.state ≠ .detached ∨ q.client ≠ x.client ∨ q.tag ≠ resumeTag then s.status sid opQueueOpen cBadResume 0 tag
    else if !s.nsAdmits q.ns x.client then s.status sid opQueueOpen cNotAdmitted 0 tag
    else
      let q := { q with state := .openQ, session := sid, detachExpiry := none, staged := q.staged && x.has 2, unknownLen := x.has 7, lastActivity := s.now }
      ((s.setQueue n q).sendOpened sid tag n q).pump n

/-- A new queue (R73, R74). -/
def State.newQueue (s : State) (sid : Nat) (x : Session) (tag ns : Nat) (c : Code) (n : Nat) : State :=
  let (resume, s) := s.draw 64
  let q : Queue := { state := .openQ, notarised := s.dictVal 0x2101 9 ns == 1, staged := s.dictVal 0x2101 10 ns == 1 && x.has 2, unknownLen := x.has 7, ns := ns, k := c.k, m := c.m, ext := c.ext, settle := c.settle, session := sid, slot := (match tget s.keys.current ns with | some (_, sl) => sl | none => 0), tag := resume % 2 ^ 64, nextSeq := 0, oldest := 0, contiguous := 0, credit := 0, open' := none, lastActivity := s.now, detachExpiry := none, received := [], client := x.client, lastExceeded := none, fillRate := none, nextOff := 0 }
  (s.setQueue n q).sendOpened sid tag n q

/-- QUEUE_OPEN: checked in the order of Table 2-11 and answered with QUEUE_OPENED or STATUS (R73). -/
def execQueueOpen (f : NorthIn) (s : State) : Host.Outcome State Fault Refusal :=
  let (s, go) := s.acceptNorth f opQueueOpen
  let tag := f.word
  let byte (i : Nat) : Nat := beAt f.payload i 1
  let ns := beAt f.payload 0 2
  let resume := bitOf (beAt f.payload 6 2) 0
  match s.session f.session with
  | none => ok s
  | some x =>
    if !go then ok s
    else if f.len ≠ 20 ∨ 1 < beAt f.payload 6 2 ∨ 4096 ≤ ns then ok (s.status f.session opQueueOpen cBadField 0 tag)
    else if resume then ok (s.resumeQueue f.session x tag (beAt f.payload 8 4) (beAt f.payload 12 8))
    else
      let c := s.resolveCode ns (byte 2) (byte 3) (byte 4) (byte 5)
      match s.openRefused x ns c, s.freeQueue with
      | some e, _ => ok (s.status f.session opQueueOpen e 0 tag)
      | none, some n => ok (s.newQueue f.session x tag ns c n)
      | none, none => ok s

/-- The queue that a frame's STREAM names, where it is open in the frame's session. -/
def State.frameQueue (s : State) (f : NorthIn) : Option Queue :=
  match s.queue? f.stream with
  | some q => if q.session = f.session ∧ q.state = .openQ then some q else none
  | none => none

/-- A frame that names no open queue of its session is answered BAD_FIELD: its STREAM is out of range (the model's reading, assumption 19). -/
def State.noQueueStatus (s : State) (f : NorthIn) (op : Nat) : State := s.status f.session op cBadField f.stream

/-- QUEUE_CLOSE: refused with OBJECT_OPEN, or answered QUEUE_CLOSED with the queue freed or detached (R77). -/
def execQueueClose (f : NorthIn) (s : State) : Host.Outcome State Fault Refusal :=
  let (s, go) := s.acceptNorth f opQueueClose
  if !go then ok s
  else match s.frameQueue f with
    | none => ok (s.noQueueStatus f opQueueClose)
    | some q =>
      if !f.payload.isEmpty then ok (s.status f.session opQueueClose cBadField f.stream)
      else if q.open'.isSome then ok (s.status f.session opQueueClose cObjectOpen f.stream)
      else ok ((s.sendFrame f.session opQueueClosed f.stream 0 []).detachQueue f.stream)

/-- Take the next object counter value of a namespace: a block of 2^20 is recorded before its first value is assigned (R79), with the time
each of its groups was reserved (R262). -/
def State.takeCounter (s : State) (ns : Nat) : Nat × State :=
  let (next, stop') := tgetD s.queue.counters ns (0, 0)
  if next < stop' then (next, s.updQueue (fun q => { q with counters := tput q.counters ns (next + 1, stop') }))
  else
    let groups := rangeFrom (ns * 2 ^ 52 + next / 4096) 256
    let s := s.journal 0x0003 (leBytes 2 ns ++ leBytes 10 next)
    (next, s.updQueue (fun q => { q with counters := tput q.counters ns (next + 1, next + 2 ^ 20), counterTime := groups.foldl (fun t g => tput t g s.now) q.counterTime }))

/-- An object ID: namespace, device instance, counter. -/
def objectId (ns counter : Nat) : Nat := ns * 2 ^ 116 + Config.deviceInstance.toNat * 2 ^ 80 + counter

/-- The length that declares none (Table 2-5). -/
def unknownLength : Nat := 2 ^ 64 - 1

/-- Why an OBJ_BEGIN is refused, if it is (R31, R32, R78, R80, R318; the codes of a wrong offset and of an unknown length that was not
negotiated are the model's, assumption 19). -/
def State.beginRefused (s : State) (q : Queue) (word declared : Nat) : Option Nat :=
  if q.open'.isSome then some cObjectOpen
  else if word ≠ q.nextOff ∨ (declared = unknownLength ∧ !q.unknownLen) then some cBadField
  else if declared ≠ unknownLength ∧ 2 ^ 48 < declared then some cTooLarge
  else if !s.accepting then some cServiceDown
  else if !s.nsKeyed q.ns then some cUnkeyed
  else if !spreadOk q.k q.m s.chanCount then some cChannelsShort
  else none

/-- OBJ_BEGIN: an object begins at the queue's next stream offset, answered by OBJ_ID with its ID, queue sequence and key epoch (R78, R79). -/
def execObjBegin (f : NorthIn) (s : State) : Host.Outcome State Fault Refusal :=
  let (s, go) := s.acceptNorth f opObjBegin
  let word := f.word
  let declared := beAt f.payload 0 8
  if !go then ok s
  else if f.len ≠ 8 then ok (s.status f.session opObjBegin cBadField f.stream word)
  else match s.frameQueue f with
    | none => ok (s.noQueueStatus f opObjBegin)
    | some q => match s.beginRefused q word declared with
      | some e => ok (s.status f.session opObjBegin e f.stream word)
      | none =>
        let (c, s) := s.takeCounter q.ns
        let o := objectId q.ns c
        let epoch := match tget s.keys.current q.ns with | some (e, _) => e | none => 0
        let x : Obj := { ns := q.ns, queue := f.stream, seq := q.nextSeq, first := word, declared := if declared = unknownLength then none else some declared, length := none, k := q.k, m := q.m, ext := q.ext, settle := q.settle, epoch := epoch, notarised := q.notarised, state := .openObj, stagedSent := false, answered := false, firstSettled := none, granted := 0, aborting := false }
        let s := (s.setObject o x).setQueue f.stream { q with nextSeq := q.nextSeq + 1, open' := some o, lastActivity := s.now }
        ok (s.sendFrame f.session opObjId f.stream word (beBytes 16 o ++ beBytes 8 x.seq ++ beBytes 4 epoch))

/-- The bytes of an object that are known: declared, or ended at. -/
def Obj.total (x : Obj) : Option Nat := match x.length with | some n => some n | none => x.declared

/-- Extents of a queue not yet handed away: granted to objects that are not aborted. -/
def State.queueExtents (s : State) (n : Nat) : List (Nat × Extent) :=
  s.queue.extents.filter (fun kv => kv.2.queue == n && kv.2.phase != .aborted)

/-- The highest stream offset received of a queue: the end of its last segment, or its contiguous offset. -/
def Queue.top (q : Queue) : Nat := max q.contiguous ((q.received.map (fun g => g.1 + g.2.length)).max?.getD 0)

/-- An extent's bytes are complete: its fill rate, in bytes a microsecond × 1,000, is the queue's (R101). -/
def State.noteFill (s : State) (n : Nat) (x : Extent) (len : Nat) : State :=
  match s.queue? n, x.firstAt with
  | some q, some t => if t < s.now then s.setQueue n { q with fillRate := some (len * 1000 / (s.now - t)) } else s
  | _, _ => s

/-- What new bytes of a queue tell of its extents: the first byte's arrival, that an extent is not the last (R199), and the fill rate of
one that is complete (R101). -/
def State.noteArrival (s : State) (n off upTo before : Nat) : State :=
  match s.queue? n with
  | none => s
  | some q =>
    (s.queueExtents n).foldl (fun (s : State) (kv : Nat × Extent) =>
      let start := s.extentStart kv.2
      let stop := start + kv.2.len
      let x := if kv.2.firstAt.isNone ∧ off < stop ∧ start < upTo then { kv.2 with firstAt := some s.now } else kv.2
      let x := if x.final.isNone ∧ stop < q.top then { x with final := some false } else x
      let s := s.setExtent kv.1 x
      if before < stop ∧ stop ≤ q.contiguous then s.noteFill n x x.len else s) s

/-- The ranges of a queue above its contiguous offset (R75). -/
def Queue.ranges (contiguous : Nat) (segs : List (Nat × List Byte)) : Nat := (segs.filter (fun g => decide (contiguous < g.1))).length

/-- DATA bytes at or above the credit limit are discarded and counted, with one STATUS a millisecond at most (R81). -/
def State.exceeded (s : State) (f : NorthIn) (q : Queue) (n : Nat) : State :=
  let s := s.updQueue (fun t => { t with creditDrops := t.creditDrops + n })
  let due := match q.lastExceeded with | some t => decide (t + msec ≤ s.now) | none => true
  if due then (s.setQueue f.stream { q with lastExceeded := some s.now }).status f.session opData cCreditExceeded f.stream else s

/-- DATA: its bytes below the credit limit are placed by offset in the receive list (R75, R81), and its frame is acknowledged; a nineteenth range is
not taken and its frame not acknowledged. Any DATA of the queue ends its idle time (R86). -/
def execData (f : NorthIn) (s : State) : Host.Outcome State Fault Refusal :=
  let (s, go) := s.acceptNorth f opData false
  let offset := f.word
  let data := f.payload
  if !go then ok s
  else match s.frameQueue f with
    | none => ok ((s.acknowledge f.session f.pn).noQueueStatus f opData)
    | some q =>
      let q := { q with lastActivity := s.now }
      let s := s.setQueue f.stream q
      let excess := offset + data.length - max offset q.credit
      let s := if 0 < excess then s.exceeded f q excess else s
      let q := match s.queue? f.stream with | some p => p | none => q
      let data := data.take (data.length - excess)
      let start := max offset q.contiguous
      let data := data.drop (start - offset)
      if data.isEmpty then ok (s.acknowledge f.session f.pn)
      else
        let segs := putSegment start data q.received
        let contiguous := advanceTo' q.contiguous segs
        if 18 < Queue.ranges contiguous segs then
          ok (s.updQueue (fun t => { t with listDrops := t.listDrops + 1 }))
        else
          let s := s.acknowledge f.session f.pn
          let s := (s.setQueue f.stream { q with received := segs, contiguous := contiguous }).updQueue (fun t => { t with bytesIn := t.bytesIn + data.length })
          ok (s.noteArrival f.stream start (start + data.length) q.contiguous)

/-- Cut ranges, by their first row and their rows, at a row. -/
def cutRows (rows first n : Nat) : Nat := min n (rows - first)

/-- An extent that its units have begun ends at `l` bytes (R83): its ranges and their contexts end at its last row, and its fragments keep the pages,
and their media the space, of their true size. -/
def State.cutRunning (s : State) (e : Nat) (x : Extent) (l : Nat) : State :=
  let rows := rowCount l x.k
  let p := payloadLen l x.k
  let more := payloadLen x.len x.k - p
  let s := s.updStitch (fun t => { t with
    ctxs := tmap t.ctxs (fun _ c => if c.job = .seal e then { c with rows := cutRows rows c.first c.rows } else c)
    queued := tmap t.queued (fun _ cs => cs.filterMap (fun c => if c.job ≠ .seal e then some c else if rows ≤ c.first then none else some { c with rows := cutRows rows c.first c.rows })) })
  let past := tkeys s.stitch.ctxs (fun _ c => c.job == .seal e && decide (rows ≤ c.first))
  let s := past.foldl (fun s i => s.dropCtx (i / 4) (i % 4)) s
  let s := x.frags.foldl (fun s f => if f.2.media = 65536 ∨ more = 0 then s else (s.subAlloc f.2.media more).subPending f.2.shelf more) s
  s.setExtent e { x with len := l
                         ranges := (x.ranges.filter (fun r => decide (r.first < rows))).map (fun r => { r with rows := cutRows rows r.first r.rows })
                         frags := tmap x.frags (fun _ f => { f with runs := (takeRuns 10 (ceilDiv p 4096) f.runs).getD f.runs }) }

/-- Cut an object's extents at its end (R80, R83): those beyond it go, the last takes its true length, the unused reservation returns, and the fill
rate of one that its end completes is noted (R101). -/
def State.cutExtents (s : State) (o : Nat) (x : Obj) (len : Nat) : State :=
  let n := extentCount len x.ext
  (s.queue.extents.filter (fun kv => kv.2.obj == o)).foldl (fun s kv =>
    let e := kv.2
    if n ≤ e.idx then
      (s.abortExtent false kv.1).updQueue (fun q => { q with extents := tdel q.extents kv.1 })
    else
      let l := min e.len (len - e.idx * extBytes x.ext)
      let spare := min e.ingest (e.len - l)
      let start := s.extentStart e
      let open' := match s.queue? e.queue with | some q => decide (q.contiguous < start + e.len ∧ start + l ≤ q.contiguous) | none => false
      let s := if open' then s.noteFill e.queue e l else s
      ((if l = e.len then s else s.cutRunning kv.1 e l).updExtent kv.1 (fun e => { e with ingest := e.ingest - spare, final := some (e.idx + 1 == n) })).updQueue (fun q => { q with ingestUsed := q.ingestUsed - spare })) s

/-- OBJ_END: the object ends at the stream offset after its last byte, or is aborted with LENGTH_MISMATCH or TOO_LARGE (R80, R85). Where no length was
declared, a WORD below the bytes already received is a LENGTH_MISMATCH too (DESIGN CHOICE, assumption 121: the spec names no outcome). -/
def execObjEnd (f : NorthIn) (s : State) : Host.Outcome State Fault Refusal :=
  let (s, go) := s.acceptNorth f opObjEnd
  let word := f.word
  if !go then ok s
  else if !f.payload.isEmpty then ok (s.status f.session opObjEnd cBadField f.stream word)
  else match s.frameQueue f with
    | none => ok (s.noQueueStatus f opObjEnd)
    | some q => match q.open' with
      | none => ok (s.status f.session opObjEnd cNoObject f.stream word)
      | some o => match s.object o with
        | none => ok s
        | some x =>
          let len := word - x.first
          let wrong := match x.declared with | some d => d != len || decide (word < x.first) | none => decide (word < max x.first q.top)
          if wrong then ok (s.abortObject o cLengthMismatch false opObjEnd)
          else if 2 ^ 48 < len then ok (s.abortObject o cTooLarge false opObjEnd)
          else
            let s := s.cutExtents o x len
            let s := s.setObject o { x with length := some len, state := .ended, granted := min x.granted len }
            let s := s.setQueue f.stream { q with open' := none, nextOff := word, credit := min q.credit word }
            ok ((s.settleObject o).pump f.stream)

/-- OBJ_ABORT: before OBJ_END the object is aborted; after it, or where WORD is not the open object's first byte, NO_OBJECT answers (R87, R88). -/
def execObjAbort (f : NorthIn) (s : State) : Host.Outcome State Fault Refusal :=
  let (s, go) := s.acceptNorth f opObjAbort
  let word := f.word
  if !go then ok s
  else if !f.payload.isEmpty then ok (s.status f.session opObjAbort cBadField f.stream word)
  else match s.frameQueue f with
    | none => ok (s.noQueueStatus f opObjAbort)
    | some q => match q.open' with
      | none => ok (s.status f.session opObjAbort cNoObject f.stream word)
      | some o => match s.object o with
        | none => ok s
        | some x => if x.first = word then ok (s.abortObject o cAborted false opObjAbort) else ok (s.status f.session opObjAbort cNoObject f.stream word)

/-- The object of a queue that wants an extent next: its oldest that is live and not wholly granted. -/
def State.wantsExtent (s : State) (n : Nat) : Option (Nat × Obj) :=
  ((sortBy (fun kv => kv.2.seq) (s.queue.objects.filter (fun kv => kv.2.queue == n && (kv.2.state == .openObj || kv.2.state == .ended)))).find? (fun kv =>
    match kv.2.total with | some t => decide (kv.2.granted < t) | none => true))

/-- Extents of a queue granted and not fully received (R82). -/
def State.inFlight (s : State) (n : Nat) (q : Queue) : Nat :=
  ((s.queueExtents n).filter (fun kv => decide (q.contiguous < s.extentStart kv.2 + kv.2.len))).length

/-- A queue waits for credit: an object of it wants an extent, two are not in flight, and none of its extents is held (R82, R144). -/
def State.waitsCredit (s : State) (n : Nat) (q : Queue) : Bool :=
  q.state == .openQ && (s.wantsExtent n).isSome && decide (s.inFlight n q < 2) && !((s.queueExtents n).any (fun kv => kv.2.held))

/-- The next queue in round-robin order that waits for credit (R82). -/
def State.nextCredit (s : State) : Option (Nat × Queue) :=
  let ws := s.queue.queues.filter (fun kv => s.waitsCredit kv.1 kv.2)
  match ws.find? (fun kv => decide (s.queue.lastCredit < kv.1)) with
  | some w => some w
  | none => ws.head?

/-- The ingest buffer's size (R83). -/
def ingestBytes : Nat := 72 * 1048576

/-- CREDIT_GRANT: the next queue that waits is granted one extent, where the ingest buffer has room and R23 (`ingest` and `restore` are the
projected rates in Mbit/s) and R31 allow it (R82). -/
def execCreditGrant (ingest restore : Nat) (s : State) : Host.Outcome State Fault Refusal :=
  if !s.sealService then ok s
  else match s.nextCredit with
    | none => ok s
    | some (n, q) => match s.wantsExtent n with
      | none => ok s
      | some (o, x) =>
        let size := match x.total with | some t => min (extBytes x.ext) (t - x.granted) | none => extBytes x.ext
        if ingestBytes < s.queue.ingestUsed + size ∨ !s.rateAllows x.k x.m x.ext ingest restore ∨ !spreadOk x.k x.m s.chanCount then ok s
        else
          let idx := x.granted / extBytes x.ext
          let final := x.total.map (fun t => x.granted + size == t)
          let e : Extent := { obj := o, idx := idx, queue := n, len := size, k := x.k, m := x.m, ext := x.ext, settle := x.settle, epoch := x.epoch, slot := q.slot, notarised := x.notarised, final := final, phase := .granted, grantedAt := s.now, held := false, noPlace := false, ranges := [], lead := 0, tag := none, frags := [], trialGen := 0, placed := false, generation := 0, sealTime := 0, stagedAt := 0, acked := [], hasLeaf := none, ingest := size }
          let s := (s.setExtent (extKey o idx) e).setObject o { x with granted := x.granted + size }
          let limit := x.first + x.granted + size
          let s := s.updQueue (fun t => { t with lastCredit := n, ingestUsed := t.ingestUsed + size })
          if q.credit < limit then ok ((s.setQueue n { q with credit := limit }).sendFrame q.session opCredit n limit []) else ok s

/-- An extent is partly received, or full and not known to be the last or not (R86, R199). -/
def State.partly (s : State) (q : Queue) (x : Extent) : Bool :=
  x.firstAt.isSome && (decide (q.contiguous < s.extentStart x + x.len) || x.final.isNone)

/-- QUEUE_IDLE_TIMEOUT: an open object with a partly received extent has had no DATA for the queue idle time-out: aborted with STALLED
(R86). -/
def execQueueIdleTimeout (queue : Nat) (s : State) : Host.Outcome State Fault Refusal :=
  match s.queue? queue with
  | none => ok s
  | some q => match q.open' with
    | none => ok s
    | some o =>
      if (s.queueExtents queue).any (fun kv => kv.2.obj == o && s.partly q kv.2) then
        ok ((s.advanceTo (q.lastActivity + s.dictVal 0x2000 5 * msec)).abortObject o cStalled)
      else ok s

/-- RECEIPT_HOLD_EXPIRY: the receipt hold of a DETACHED queue has expired after its last settled receipt: it returns to FREE (R76). -/
def execReceiptHoldExpiry (queue : Nat) (s : State) : Host.Outcome State Fault Refusal :=
  match s.queue? queue with
  | none => ok s
  | some q => match q.detachExpiry with
    | some t => if q.state = .detached then ok ((s.advanceTo t).freeQueueCtx queue) else ok s
    | none => ok s

/-- RECEIPT_GET: the settled receipt of an object is rebuilt from the manifest index, or refused (R92). -/
def execReceiptGet (f : NorthIn) (s : State) : Host.Outcome State Fault Refusal :=
  let (s, go) := s.acceptNorth f opReceiptGet
  let tag := f.word
  let obj := beAt f.payload 0 16
  match s.session f.session with
  | none => ok s
  | some x =>
    if !go then ok s
    else if f.len ≠ 16 then ok (s.status f.session opReceiptGet cBadField 0 tag)
    else if !s.nsAdmits (obj / 2 ^ 116) x.client then ok (s.status f.session opReceiptGet cNotAdmitted 0 tag 0 obj)
    else ok (s.serve { kind := .receipt, session := f.session, tag := tag, obj := obj, offset := 0, length := 0 })

/-- EPOCH_GET: answered with EPOCH, with EPOCH once the epoch is released, or with NOT_FOUND or UNRECOVERABLE (R91). -/
def execEpochGet (f : NorthIn) (s : State) : Host.Outcome State Fault Refusal :=
  let (s, go) := s.acceptNorth f opEpochGet
  if !go then ok s
  else if !f.payload.isEmpty then ok (s.status f.session opEpochGet cBadField 0 f.word)
  else ok (s.serve { kind := .epoch, session := f.session, tag := 0, obj := f.word, offset := 0, length := 0 })

/-- A RESTORE_REQ asks for part of an object. -/
def State.partRange (s : State) (obj offset length : Nat) : Bool :=
  offset != 0 || (length != 0 && (match s.object obj with | some x => x.length != some length | none => false))

/-- RESTORE_REQ: answered with RESTORE_BEGIN (R93, R263); it needs RESTORE, and RANGE_RESTORE for part of an object (R51). -/
def execRestoreReq (f : NorthIn) (s : State) : Host.Outcome State Fault Refusal :=
  let (s, go) := s.acceptNorth f opRestoreReq
  let tag := f.word
  let obj := beAt f.payload 0 16
  let offset := beAt f.payload 16 8
  let length := beAt f.payload 24 8
  match s.session f.session with
  | none => ok s
  | some x =>
    if !go then ok s
    else if f.len ≠ 32 then ok (s.status f.session opRestoreReq cBadField 0 tag)
    else if !x.has 4 || (!x.has 5 && s.partRange obj offset length) then ok (s.status f.session opRestoreReq cBadOpcode 0 tag)
    else if !s.nsAdmits (obj / 2 ^ 116) x.client then ok (s.restoreBegin f.session tag 0 cNotAdmitted 0 0)
    else ok (s.serve { kind := .restore, session := f.session, tag := tag, obj := obj, offset := offset, length := length })

/-- CREDIT: a restore handle's object offset limit rises (R93). -/
def execCredit (f : NorthIn) (s : State) : Host.Outcome State Fault Refusal :=
  let (s, go) := s.acceptNorth f opCredit
  let limit := f.word
  if !go then ok s
  else if !f.payload.isEmpty ∨ f.stream < 2 ^ 31 then ok (s.status f.session opCredit cBadField f.stream)
  else
    let h := restoreKey f.session (f.stream % 1024)
    ok (s.updSouth (fun q => { q with restores := tmod q.restores h (fun r => if r.credit < limit then { r with credit := limit, progress := s.now } else r) }))

end Sys2Proof.Machine
end

