-- ==== Sys2Proof/Machine/Keys.lean ====
section
/-!
DEFINITION. The Saddlebag (chapter 08): the private key bus (R282, R291, R292), the epoch map and its loader (R286, R287), lost macros
(R284), the commands of Table 8-11 (R320), and the random numbers (R298 to R300).
-/

namespace Sys2Proof.Machine

/-- The fields of an attribute word (Table 8-3). -/
def attrKind (a : Nat) : Nat := bitsOf a 4 4
def attrNs (a : Nat) : Nat := bitsOf a 16 12
def attrEpoch (a : Nat) : Nat := bitsOf a 32 32
def attrPersist (a : Nat) : Bool := bitOf a 1
def attrFuse (a : Nat) : Bool := bitOf a 2
def attrLocked (a : Nat) : Bool := bitOf a 3

/-- An attribute word's reserved bits are 0 and its KIND is assigned (Table 8-3). -/
def attrLegal (a : Nat) : Bool := bitsOf a 13 3 == 0 && bitsOf a 28 4 == 0 && decide (attrKind a ≤ 8)

/-- A word with bit `i` set. -/
def withBit (a i : Nat) : Nat := if bitOf a i then a else a + 2 ^ i

/-- A slot is in the transient area, or in the namespace area (Table 8-2). -/
def transientSlot (i : Nat) : Bool := decide (0x100 ≤ i ∧ i < 0x1000)
def namespaceSlot (i : Nat) : Bool := decide (0x1000 ≤ i ∧ i < 0x10000)

/-- A slot holds a VK-wrapped key: backed by a record under the vault key. -/
def vaultWrapped (k : KeySlot) : Bool := attrPersist k.attr && !attrFuse k.attr

def State.slot (s : State) (i : Nat) : Option KeySlot := if i = 0 then none else tget s.keys.slots i

/-- Fill a slot, VALID set. -/
def State.fillSlot (s : State) (i value attr : Nat) : State :=
  s.updKeys (fun k => { k with slots := tput k.slots i { value := value % 2 ^ 256, attr := withBit (attr % 2 ^ 64) 0 } })

/-- A value in three shares with fresh randomness, as the key bus carries it (R292). -/
def State.busShares (s : State) (value : Nat) : Shares × State :=
  let (a, s) := s.draw 256
  let (b, s) := s.draw 256
  ({ a := a, b := b, c := value ^^^ a ^^^ b }, s)

/-- Send a value on the key bus (R292). -/
def State.sendShares (s : State) (u : UnitRef) (slot value : Nat) : State :=
  let (x, s) := s.busShares value
  s.emit (.keyBus u) 0x00 [slot, x.a, x.b, x.c]

/-- The key-bus fault source of an engine (R292). -/
def busFault (u : UnitRef) : Nat × Nat :=
  match u with
  | .stitch n => (srcStu n 1, n)
  | .awl a => (srcAwl a 4, a)
  | .sponge j => (srcPckKeyBus, j)
  | _ => (srcPckKeyBus, 0)

/-- A failed check of a key-bus transaction: the first is repeated and counted, the second raises the requester's key-bus fault (R292); the
second part says whether the transaction goes through. -/
def State.busChecks (s : State) (u : UnitRef) (failed : Nat) : State × Bool :=
  if failed = 0 then (s, true)
  else
    let s := s.bump Reg.SDB_EVENTS.BUS_RETRY
    if failed = 1 then (s, true) else let (src, d) := busFault u; (s.raise src d, false)

/-- The request of DK_REQ is granted by the slot's attributes (R282). -/
def dkAllowed (k : KeySlot) (obj epoch : Nat) : Bool :=
  attrKind k.attr == 0 && bitOf k.attr 8 && attrNs k.attr == obj / 2 ^ 116 && attrEpoch k.attr == epoch

/-- DK_REQ: a stitch unit's request is checked against the slot, and DK is returned in shares, which each pipeline shares anew (R105), or EMPTY or ATTR (R282); `failed` counts the
transactions whose check failed (R292): two move the range to another unit. -/
def execDkReq (unit ctx failed : Nat) (s : State) : Host.Outcome State Fault Refusal :=
  match tget s.stitch.ctxs (ctxKey unit ctx) with
  | none => ok s
  | some x =>
    if x.pipes.isSome ∨ 3 ≤ ctx ∨ s.safe then ok s
    else match s.jobInfo x.job with
      | none => ok s
      | some info =>
        match s.busChecks (.stitch unit) failed with
        | (s, false) => ok (((s.stuCode unit 3).dropCtx unit ctx).rerun unit x)
        | (s, true) => match s.slot info.slot with
          | none => ok (((s.stuCode unit 1).dropCtx unit ctx).jobUnkeyed x.job)
          | some k =>
            if dkAllowed k info.obj info.epoch then
              let dk := dataKey k.value info.obj info.epoch
              let (sh, s) := s.busShares dk
              let (pipes, s) := (s.emit (.keyBus (.stitch unit)) 0x00 [info.slot, sh.a, sh.b, sh.c]).loadPipes unit sh
              ok (s.updStitch (fun t => { t with ctxs := tput t.ctxs (ctxKey unit ctx) { x with pipes := some pipes } }))
            else ok (((s.stuCode unit 2).dropCtx unit ctx).jobUnkeyed x.job)

/-- The key bus serves a request: always, but in the safe state for slot 5 and the management Awl unit alone (R476). -/
def State.busServes (s : State) (u : UnitRef) (slot : Nat) : Bool :=
  !s.safe || (slot == 5 && s.collector.mgmtAwl.isSome && (match u, s.collector.mgmtAwl with | .awl a, some m => a == m | _, _ => false))

/-- What a KEY_LOAD answers: the value, EMPTY (1) or ATTR (2) (R282). -/
def State.keyLoad (s : State) (u : UnitRef) (slot : Nat) : Except Nat Nat :=
  match s.slot slot with
  | none => .error 1
  | some k =>
    let use := match u with | .sponge _ => bitOf k.attr 9 | .awl _ => bitOf k.attr 10 | _ => false
    if use then .ok k.value else .error 2

/-- KEY_LOAD: a sponge core or an Awl unit loads a slot's value in shares (R282, R291). -/
def execKeyLoad (awl : Bool) (unit slot failed : Nat) (s : State) : Host.Outcome State Fault Refusal :=
  let u : UnitRef := if awl then .awl unit else .sponge unit
  if !s.busServes u slot ∨ 65536 ≤ slot then ok s
  else match s.busChecks u failed with
    | (s, false) => ok s
    | (s, true) => match s.keyLoad u slot with
      | .ok v => ok (s.sendShares u slot v)
      | .error e => ok (s.emit (.keyBus u) e [slot])

/-- What a KEY_STORE answers (Table 8-4). -/
def State.keyStoreOk (s : State) (slot : Nat) : Bool := transientSlot slot && (s.slot slot).isNone

/-- KEY_STORE: an Awl unit writes a value and its attributes into an empty transient slot, or is refused with ATTR (R291). -/
def execKeyStore (unit slot attr value failed : Nat) (s : State) : Host.Outcome State Fault Refusal :=
  if s.safe ∧ s.collector.mgmtAwl ≠ some unit then ok s
  else match s.busChecks (.awl unit) failed with
    | (s, false) => ok s
    | (s, true) =>
      if s.keyStoreOk slot then ok ((s.fillSlot slot value attr).emit (.keyBus (.awl unit)) 0x00 [slot])
      else ok (s.emit (.keyBus (.awl unit)) 2 [slot])

/-- CLEAR: consumers clear a slot, or every VK-wrapped slot (R291, R318). -/
def execClear (all : Bool) (slot : Nat) (s : State) : Host.Outcome State Fault Refusal :=
  ok (s.clearSlots (fun i k => if all then vaultWrapped k else i == slot))

/-- The key that a record must be wrapped under now (Table 8-6): FK, or the vault key of the record's generation. -/
def State.wrapKey (s : State) (r : KeyRecord) : Option Nat :=
  if r.fuse then some Config.fuseKey.toNat
  else match s.vault with
    | some v => if v.gen % 2 ^ 32 = r.gen then some v.key else none
    | none => none

/-- A record unwraps: it was wrapped under that key (R295). -/
def State.unwraps (s : State) (r : KeyRecord) : Bool := s.wrapKey r == some r.under

/-- The newest record that satisfies `p` and unwraps. -/
def State.findRecord (s : State) (p : KeyRecord → Bool) : Option KeyRecord :=
  ((s.keys.store.filter (fun kv => p kv.2 && s.unwraps kv.2)).getLast?).map Prod.snd

/-- Record copies that fail to unwrap (R295): each is counted and raises SDB_RECORD_BAD. -/
def State.recordBad (s : State) : Nat → State
  | 0 => s
  | n + 1 => State.recordBad ((s.bump Reg.SDB_EVENTS.RECORD_BAD).raise srcSdbRecordBad) n

/-- A slot is pinned: a range, a stream context or a restore names it (R287). -/
def State.pinned (s : State) (i : Nat) : Bool :=
  s.stitch.ctxs.any (fun c => match s.jobInfo c.2.job with | some j => j.slot == i | none => false)
  || s.queue.queues.any (fun q => q.2.slot == i) || s.queue.extents.any (fun x => x.2.slot == i && x.2.phase == .admitted)
  || s.south.restores.any (fun r => r.2.slot == i)

/-- A free slot of the namespace area, evicting the least recently used key that is neither current nor pinned (R287). -/
def State.namespaceRoom (s : State) : Option (Nat × State) :=
  let used := (s.keys.slots.map Prod.fst).filter namespaceSlot
  if used.length < 0xF000 then some (lowestFree (used.length + 1) 0x1000 used, s)
  else
    let current := s.keys.current.map (fun c => c.2.2)
    match argMin (fun kv => kv.2.2) (s.keys.resident.filter (fun kv => !current.contains kv.2.1 && !s.pinned kv.2.1)) with
    | some (key, sl, _) => some (sl, s.updKeys (fun k => { k with slots := tdel k.slots sl, resident := tdel k.resident key }))
    | none => none

/-- Load a namespace key's record into a slot and the epoch map (R286). -/
def State.loadNamespace (s : State) (ns epoch : Nat) : Option State :=
  match s.findRecord (fun r => r.sysSlot == 0 && r.ns == ns && r.epoch == epoch), s.namespaceRoom with
  | some r, some (sl, s) =>
    some (((s.fillSlot sl r.value r.attr).updKeys (fun k => { k with resident := tput k.resident (ns * 2 ^ 32 + epoch) (sl, s.now) })).bump Reg.SDB_EVENTS.LOADS)
  | _, _ => none

/-- EPOCH_MAP_MISS_LOAD: a missing key is read from the key store, unwrapped into a free namespace slot and entered in the map (R286, R287);
`bad` counts the record's copies that fail (R295). What waited for it goes on. -/
def execEpochMapMissLoad (ns epoch bad : Nat) (s : State) : Host.Outcome State Fault Refusal :=
  if (s.resolveSlot ns epoch).isSome ∨ !s.keyed then ok s
  else
    let s := s.recordBad (min bad 2)
    if 2 ≤ bad then ok s
    else match s.loadNamespace ns epoch with
      | some s => ok s.pumpRestores
      | none => ok s

/-- Load the current key of every existing namespace (R286). -/
def State.loadCurrent (s : State) : State :=
  s.keys.nsEpoch.foldl (fun s kv =>
    let (ns, e) := kv
    if (tget s.keys.current ns).isSome then s
    else match s.findRecord (fun r => r.sysSlot == 0 && r.ns == ns && r.epoch == e), s.namespaceRoom with
      | some r, some (sl, s) => (s.fillSlot sl r.value r.attr).updKeys (fun k => { k with current := tput k.current ns (e, sl) })
      | _, _ => s) s

/-- Load every system key whose record unwraps (R286, R314). -/
def State.loadSystem (s : State) : State :=
  s.keys.store.foldl (fun s kv =>
    if kv.2.sysSlot ≠ 0 && s.unwraps kv.2 then s.fillSlot kv.2.sysSlot kv.2.value kv.2.attr else s) s

/-- Load all keys that VK protects, and settle what waited for them (R286, R314, R318, R494). -/
def State.loadKeys (s : State) : State :=
  let s := s.loadSystem.loadCurrent
  let s := (s.queue.extents.map Prod.fst).foldl (fun s e => s.trySettle e) s
  s.assignGroups.pumpRestores

/-- The slots of a bank of macros (R284). -/
def inBank (bank i : Nat) : Bool := Config.slotBank i == bank

/-- The bank's PERSIST slots whose record unwraps. -/
def State.reloadable (s : State) (i : Nat) (k : KeySlot) : Bool :=
  attrPersist k.attr && (s.findRecord (fun r => if namespaceSlot i then r.sysSlot == 0 && r.ns == attrNs k.attr && r.epoch == attrEpoch k.attr else r.sysSlot == i)).isSome

/-- SDB_MACRO_LOST: a macro is lost and rebuilt from parity; a second one of the same bank raises SDB_MACRO_LOST, its PERSIST slots are
reloaded from the key store and the others cleared (R284). -/
def execSdbMacroLost (bank ram : Nat) (s : State) : Host.Outcome State Fault Refusal :=
  let lost := tgetD s.keys.lostMacros bank []
  if ram ∈ lost then ok s
  else
    let s := s.updKeys (fun k => { k with lostMacros := tput k.lostMacros bank (ram :: lost) })
    if lost.isEmpty then ok s
    else
      let s := s.raise srcSdbMacroLost bank
      ok (s.clearSlots (fun i k => inBank bank i && !s.reloadable i k))

/-- Bytes of the Saddlebag's window. -/
def State.sdbWin (s : State) (off n : Nat) : List Byte :=
  slice ((rangeFrom (off / 4) (ceilDiv (off % 4 + n) 4)).flatMap (fun w => leBytes 4 (s.rd (Reg.SDB_WIN.DATA.nth w)))) (off % 4) n

/-- Write bytes into the window from a byte offset. -/
def State.setSdbWin (s : State) (off : Nat) (bs : List Byte) : State :=
  let first := off / 4
  let words := ceilDiv (off % 4 + bs.length) 4
  let old := s.sdbWin (4 * first) (4 * words)
  let new := old.take (off % 4) ++ bs ++ old.drop (off % 4 + bs.length)
  (List.range words).foldl (fun s i => s.wr (Reg.SDB_WIN.DATA.nth (first + i)) (ofLe (slice new (4 * i) 4))) s

/-- Outcome codes of R320. -/
def eOk : Nat := 0
def eEmpty : Nat := 1
def eAttr : Nat := 2
def eNoVault : Nat := 3
def eRecordBad : Nat := 4
def eFull : Nat := 5
def ePresence : Nat := 6
def eQuorum : Nat := 7
def eTag : Nat := 8
def eBadArg : Nat := 9
def eFlashFail : Nat := 10
def eBusy : Nat := 11

/-- Run a command of Table 8-11 from Keeper world: OP, its effect, its outcome in ERR (R320). A write from Tack world starts nothing. -/
def State.sdbRun (s : State) (world : World) (op : Nat) (f : State → State × Nat) : Host.Outcome State Fault Refusal :=
  match world with
  | .tack => ok s
  | .keeper =>
    let (s, e) := f (s.wr Reg.SDB_CMD.OP op)
    ok (s.wr Reg.SDB_CMD.ERR e)

def State.dst (s : State) : Nat := s.rd Reg.SDB_SLOTS.DST
def State.src (s : State) : Nat := s.rd Reg.SDB_SLOTS.SRC

/-- A command may fill DST: not slot 0, and empty (R280, R283). -/
def State.dstRefused (s : State) : Option Nat :=
  if s.dst = 0 then some eEmpty else if (s.slot s.dst).isSome then some eAttr else none

/-- The DRBG generates (R299). -/
def State.drbgOk (s : State) : Bool := !s.isSet Reg.TRNG_STATUS.FAIL

/-- GEN: DST takes 256 DRBG bits, reseeded before, with the attributes of SDB_ATTR (R299, R300, R320). -/
def execGen (world : World) (s : State) : Host.Outcome State Fault Refusal :=
  s.sdbRun world 0x01 (fun s =>
    let attr := s.rd Reg.SDB_ATTR.ATTR
    match s.dstRefused with
    | some e => (s, e)
    | none =>
      if !s.drbgOk ∨ !attrLegal attr then (s, eBadArg)
      else
        let (v, s) := s.draw 256
        ((s.fillSlot s.dst v attr).updKeys (fun k => { k with drbgRequests := 0, drbgAt := s.now }), eOk))

/-- The key bytes of DERIVE (Table 8-11): SRC, or SRC and the slot after it. -/
def State.deriveKey (s : State) : Except Nat (List Byte) :=
  let one (i : Nat) : Except Nat (List Byte) := match s.slot i with
    | none => .error eEmpty
    | some k => if bitOf k.attr 11 then .ok (beBytes 32 k.value) else .error eAttr
  if s.isSet Reg.SDB_LEN.PAIR then (one s.src).bind (fun a => (one (s.src + 1)).bind (fun b => .ok (a ++ b))) else one s.src

/-- DERIVE: DST takes KMAC256 of the window's bytes under the source key, with the attributes of SDB_ATTR (R320; where its attributes come
from is the model's, assumption 20). -/
def execDerive (world : World) (s : State) : Host.Outcome State Fault Refusal :=
  s.sdbRun world 0x02 (fun s =>
    let len := s.rd Reg.SDB_LEN.LEN
    let slen := s.rd Reg.SDB_LEN.SLEN
    let attr := s.rd Reg.SDB_ATTR.ATTR
    match s.dstRefused, s.deriveKey with
    | some e, _ => (s, e)
    | none, .error e => (s, e)
    | none, .ok key =>
      if 2048 < len + slen ∨ !attrLegal attr then (s, eBadArg)
      else (s.fillSlot s.dst (kmac key (s.sdbWin 0 len) (s.sdbWin len slen)) attr, eOk))

/-- Write a record for a key (R294, R296): its SEQ is never reused. -/
def State.putRecord (s : State) (slot : Nat) (k : KeySlot) (gen under : Nat) : State :=
  let attr := withBit k.attr 1
  let sys := if namespaceSlot slot then 0 else slot
  let r : KeyRecord := { fuse := attrFuse k.attr, sysSlot := sys, ns := attrNs k.attr, epoch := if namespaceSlot slot then attrEpoch k.attr else 0, gen := gen, attr := attr, value := k.value, under := under }
  (s.updKeys (fun t => { t with store := tput t.store t.nextSeq r, nextSeq := t.nextSeq + 1, slots := tput t.slots slot { k with attr := attr } }))

/-- The key store's capacity (R296). -/
def storeRecords : Nat := 131072

/-- WRAP a slot into the key store (R294, R296); `saved` is whether the flash took the record. A transient key is never stored
(Table 8-1). -/
def State.wrap (s : State) (slot : Nat) (saved : Bool) : State × Nat :=
  match s.slot slot with
  | none => (s, eEmpty)
  | some k =>
    if transientSlot slot then (s, eAttr)
    else
      let under := if attrFuse k.attr then some (0, Config.fuseKey.toNat) else s.vault.map (fun v => (v.gen, v.key))
      match under with
      | none => (s, eNoVault)
      | some (gen, key) =>
        if storeRecords ≤ s.keys.store.length then (s, eFull)
        else if !saved then (s, eFlashFail)
        else (s.putRecord slot k gen key, eOk)

/-- WRAP: a key-store record is written for DST (R320). -/
def execWrap (world : World) (saved : Bool) (s : State) : Host.Outcome State Fault Refusal :=
  s.sdbRun world 0x03 (fun s => s.wrap s.dst saved)

/-- LOAD: the record whose SEQ stands in the window is unwrapped into DST (R295, R320); `bad` counts its copies that fail. -/
def execLoad (world : World) (bad : Nat) (s : State) : Host.Outcome State Fault Refusal :=
  s.sdbRun world 0x04 (fun s =>
    match s.dstRefused, tget s.keys.store (ofLe (s.sdbWin 0 8)) with
    | some e, _ => (s, e)
    | none, none => (s, eBadArg)
    | none, some r =>
      match s.wrapKey r with
      | none => (s, eNoVault)
      | some key =>
        let fails := if key = r.under then min bad 2 else 2
        let s := s.recordBad fails
        if 2 ≤ fails then (s, eRecordBad) else (s.fillSlot s.dst r.value r.attr, eOk))

/-- ZERO: DST and its attributes are cleared, and CLEAR is sent (R320). -/
def execZero (world : World) (s : State) : Host.Outcome State Fault Refusal :=
  s.sdbRun world 0x05 (fun s => if (s.slot s.dst).isNone then (s, eEmpty) else (s.clearSlots (fun i _ => i == s.dst), eOk))

/-- A change that SET_ATTR may make (R283): only USE bits cleared, and LOCKED set. -/
def attrChange (old new : Nat) : Bool :=
  (new &&& 0x1F00 ||| (old &&& 0x1F00)) == (old &&& 0x1F00) && (old &&& 8 ||| (new &&& 8)) == (new &&& 8)
  && old - (old &&& 0x1F08) == new - (new &&& 0x1F08)

/-- SET_ATTR: USE bits are cleared or LOCKED is set, or the change is refused with ATTR (R283). -/
def execSetAttr (world : World) (s : State) : Host.Outcome State Fault Refusal :=
  s.sdbRun world 0x06 (fun s =>
    match s.slot s.dst with
    | none => (s, eEmpty)
    | some k =>
      let attr := withBit (s.rd Reg.SDB_ATTR.ATTR) 0
      if attrLocked k.attr ∨ !attrChange k.attr attr then (s, eAttr)
      else (s.updKeys (fun t => { t with slots := tput t.slots s.dst { k with attr := attr } }), eOk))

/-- A slot used as a key of SEAL_GCM or OPEN_GCM. -/
def State.gcmKey (s : State) : Except Nat Nat :=
  match s.slot s.src with
  | none => .error eEmpty
  | some k => if bitOf k.attr 12 then .ok k.value else .error eAttr

/-- SEAL_GCM: DST's value is encrypted under key SRC into the window (R320). The window's first 12 bytes are the IV, the further ones up to
LEN the AAD, and ciphertext and tag follow (the layout is the model's, assumption 21). -/
def execSealGcm (world : World) (s : State) : Host.Outcome State Fault Refusal :=
  s.sdbRun world 0x07 (fun s =>
    let len := s.rd Reg.SDB_LEN.LEN
    match s.slot s.dst, s.gcmKey with
    | none, _ => (s, eEmpty)
    | some _, .error e => (s, e)
    | some k, .ok key =>
      if len < 12 ∨ 2000 < len then (s, eBadArg)
      else
        let (ct, tag) := gcmSeal key (ofBe (s.sdbWin 0 12)) (s.sdbWin 12 (len - 12)) (beBytes 32 k.value)
        (s.setSdbWin len (ct ++ beBytes 16 tag), eOk))

/-- OPEN_GCM: the window's ciphertext is opened under key SRC into DST, or TAG is reported (R320). -/
def execOpenGcm (world : World) (s : State) : Host.Outcome State Fault Refusal :=
  s.sdbRun world 0x08 (fun s =>
    let len := s.rd Reg.SDB_LEN.LEN
    let attr := s.rd Reg.SDB_ATTR.ATTR
    match s.dstRefused, s.gcmKey with
    | some e, _ => (s, e)
    | none, .error e => (s, e)
    | none, .ok key =>
      if len < 60 ∨ 2048 < len ∨ !attrLegal attr then (s, eBadArg)
      else match gcmOpen key (ofBe (s.sdbWin 0 12)) (s.sdbWin 12 (len - 60)) (s.sdbWin (len - 48) 32) (ofBe (s.sdbWin (len - 16) 16)) with
        | some pt => (s.fillSlot s.dst (ofBe pt) attr, eOk)
        | none => (s, eTag))

/-- The custody operation in progress is one of these. -/
def State.inCustody (s : State) (ks : List CustodyKind) : Bool := match s.keys.custody with | some c => ks.contains c.kind | none => false

/-- The bank that is not active. -/
def State.inactiveBank (s : State) : Option VaultBank := if s.keys.activeB then s.keys.bankA else s.keys.bankB

/-- Write the bank that is not active. -/
def State.setInactive (s : State) (b : Option VaultBank) : State :=
  s.updKeys (fun k => if k.activeB then { k with bankA := b } else { k with bankB := b })

/-- A new vault key in the inactive bank (R316): its generation is one above the active one. -/
def State.newVault (s : State) : State :=
  let (v, s) := s.draw 256
  let gen := match s.bank with | some b => b.gen + 1 | none => 1
  s.setInactive (some { key := v % 2 ^ 256, gen := gen })

/-- VK_GEN: a new vault key in the inactive bank, inside the operation that uses it alone (R320). -/
def execVkGen (world : World) (s : State) : Host.Outcome State Fault Refusal :=
  s.sdbRun world 0x10 (fun s =>
    if !s.inCustody [.enroll, .vaultRotate] then (s, ePresence)
    else if !s.drbgOk then (s, eBadArg)
    else (s.newVault.updKeys (fun k => { k with rotating := k.rotating || s.inCustody [.vaultRotate] }), eOk))

/-- Draw `n` coefficients of 32 bytes. -/
def State.drawMany (s : State) : Nat → List (List Byte) × State
  | 0 => ([], s)
  | n + 1 =>
    let (v, s) := s.draw 256
    let (vs, s) := State.drawMany s n
    (beBytes 32 (v % 2 ^ 256) :: vs, s)

/-- f(x) of R310 byte by byte, from the value and its coefficients, lowest first. -/
def shamirAt (x : Byte) (value : List Byte) (cs : List (List Byte)) : List Byte :=
  ((cs.foldl (fun (st : List Byte × Byte) c => (xorBytes st.1 (gfScale st.2 c), gfMul st.2 x)) (value, x))).1

/-- The attribute word of share `i`. -/
def shareAttr (i : Nat) : Nat := 1 + 7 * 16 + i * 2 ^ 32

/-- The vault key that an operation shares: the new one in a rotation, else the active one. -/
def State.sharedVault (s : State) : Option VaultBank := if s.inCustody [.vaultRotate] then s.inactiveBank else s.vault

/-- Split a key into shares 1 to n under threshold t (R310). -/
def State.split (s : State) (key t n : Nat) : List (List Byte) × State :=
  let (cs, s) := s.drawMany (t - 1)
  ((List.range n).map (fun i => shamirAt (BitVec.ofNat 8 (i + 1)) (beBytes 32 key) cs), s)

/-- VK_SPLIT: VK is shared into n slots from DST under threshold t (R310, R320). -/
def execVkSplit (world : World) (s : State) : Host.Outcome State Fault Refusal :=
  s.sdbRun world 0x11 (fun s =>
    let t := ofLe (s.sdbWin 0 1)
    let n := ofLe (s.sdbWin 1 1)
    if !s.inCustody [.escrowCreate, .vaultRotate] then (s, ePresence)
    else match s.sharedVault with
      | none => (s, eNoVault)
      | some v =>
        if t < 2 ∨ n < t ∨ 16 < n ∨ !s.drbgOk then (s, eBadArg)
        else if !((List.range n).all (fun i => s.keyStoreOk (s.dst + i))) then (s, eAttr)
        else
          let (shares, s) := s.split v.key t n
          let s := ((List.range n).zip shares).foldl (fun s p => s.fillSlot (s.dst + p.1) (ofBe p.2) (shareAttr (p.1 + 1))) s
          (s.updKeys (fun k => { k with custody := k.custody.map (fun c => { c with filled := c.filled ++ (List.range n).map (· + s.dst) }) }), eOk))

/-- The Lagrange coefficient of x among the indices (R314). -/
def lagrange (x : Byte) (xs : List Byte) : Byte := (xs.filter (· != x)).foldl (fun acc y => gfMul acc (gfMul y (gfInv (y ^^^ x)))) 1

/-- Combine shares (R314). -/
def combineShares (shares : List (Nat × List Byte)) : List Byte :=
  let xs := shares.map (fun p => BitVec.ofNat 8 p.1)
  gfSum 32 (shares.map (fun p => gfScale (lagrange (BitVec.ofNat 8 p.1) xs) p.2))

/-- The vault check value of a key (R311). -/
def vaultCheck (key : Nat) : Nat := (Config.aes256 (BitVec.ofNat 256 key) (blockOf (ascii "LGE9120 vault ck"))).toNat

/-- The slots that hold shares. -/
def State.clearShares (s : State) : State := s.clearSlots (fun _ k => attrKind k.attr == 7)

/-- Install the vault key that shares combine to where its check value matches the set (R314): it becomes active, KEYED sets, and the keys
are loaded. -/
def State.combineInto (s : State) (set : EscrowSet) (shares : List (Nat × List Byte)) : State × Nat :=
  let v := ofBe (combineShares shares)
  let s := s.clearShares
  if vaultCheck v = set.vcv then
    let s := (s.setInactive (some { key := v, gen := set.gen })).updKeys (fun k => { k with activeB := !k.activeB })
    let s := s.setInactive none
    (s.loadKeys, eOk)
  else (s, eQuorum)

/-- The escrow set that the operation in progress names. -/
def State.custodySet (s : State) : Option EscrowSet :=
  match s.keys.custody, s.keys.live with
  | some c, some e => if c.set = e.id then some e else none
  | _, _ => none

/-- VK_COMBINE: t shares from SRC are combined, and VK is installed where the VCV matches; else QUORUM (R314, R320). -/
def execVkCombine (world : World) (s : State) : Host.Outcome State Fault Refusal :=
  s.sdbRun world 0x12 (fun s =>
    if !s.inCustody [.vaultRestore] then (s, ePresence)
    else match s.custodySet with
      | none => (s, eBadArg)
      | some set =>
        let slots := (List.range set.t).map (fun i => s.slot (s.src + i))
        if slots.any Option.isNone then (s, eEmpty)
        else
          let ks := slots.filterMap id
          if ks.any (fun k => attrKind k.attr != 7) then (s, eAttr)
          else s.combineInto set (ks.map (fun k => (attrEpoch k.attr, beBytes 32 k.value))))

/-- Write a record under the new generation for every VK-wrapped record of the active one (R316). -/
def State.rewrapAll (s : State) (new : VaultBank) : State :=
  let old := match s.bank with | some v => v.gen | none => 0
  s.keys.store.foldl (fun s kv =>
    if kv.2.fuse || kv.2.gen != old then s
    else s.updKeys (fun t => { t with store := tput t.store t.nextSeq { kv.2 with gen := new.gen, under := new.key }, nextSeq := t.nextSeq + 1 })) s

/-- Every VK-wrapped record of the active generation has one under the new one. -/
def State.rewrapped (s : State) (new : VaultBank) : Bool :=
  let old := match s.bank with | some v => v.gen | none => 0
  s.keys.store.all (fun kv => kv.2.fuse || kv.2.gen != old
    || s.keys.store.any (fun r => r.2.gen == new.gen && r.2.sysSlot == kv.2.sysSlot && r.2.ns == kv.2.ns && r.2.epoch == kv.2.epoch))

/-- Commit a rotation (R316): the new bank active, the old one zeroed, the old generation's records and set deleted. -/
def State.commitRotation (s : State) (new : VaultBank) : State :=
  let s := s.updKeys (fun k => { k with activeB := !k.activeB, rotating := false, live := k.pendingSet, pendingSet := none, store := tkeep k.store (fun _ r => r.fuse || r.gen == new.gen) })
  (s.setInactive none).journal 0x0006 (leBytes 4 new.gen)

/-- VK_COMMIT: a rotation whose escrow set and records are complete is committed (R316, R320). -/
def execVkCommit (world : World) (s : State) : Host.Outcome State Fault Refusal :=
  s.sdbRun world 0x13 (fun s =>
    if !s.inCustody [.vaultRotate] then (s, ePresence)
    else match s.inactiveBank, s.keys.pendingSet with
      | none, _ => (s, eNoVault)
      | some _, none => (s, eBadArg)
      | some b, some e => if e.gen = b.gen ∧ s.rewrapped b then (s.commitRotation b, eOk) else (s, eBadArg))

/-- Make a slot's key current (R288, R289): the record committed, the device escrowed; the key it replaces stays resident. -/
def State.makeCurrent (s : State) (slot : Nat) (k : KeySlot) : State × Nat :=
  let ns := attrNs k.attr
  let e := attrEpoch k.attr
  if attrKind k.attr ≠ 0 ∨ !namespaceSlot slot then (s, eAttr)
  else if e = 0 ∨ !s.keyStored ns e ∨ !s.escrowed then (s, eBadArg)
  else
    let old := tget s.keys.current ns
    let seq := (tkeys s.keys.store (fun _ r => r.sysSlot == 0 && r.ns == ns && r.epoch == e)).foldl max 0
    let s := s.journal 0x0005 (leBytes 2 ns ++ leBytes 4 e ++ leBytes 8 seq)
    let s := s.updKeys (fun t => { t with current := tput t.current ns (e, slot), nsEpoch := tput t.nsEpoch ns e, resident := (match old with
      | some (f, sl) => if f = e then t.resident else tput t.resident (ns * 2 ^ 32 + f) (sl, s.now)
      | none => t.resident) })
    (s, eOk)

/-- NS_CURRENT: DST becomes the current key of its namespace (R288, R320). -/
def execNsCurrent (world : World) (s : State) : Host.Outcome State Fault Refusal :=
  s.sdbRun world 0x14 (fun s => match s.slot s.dst with | none => (s, eEmpty) | some k => s.makeCurrent s.dst k)

/-- How many entropy sources are enabled and passing. -/
def State.goodSources (s : State) : Nat := ((List.range 4).filter (fun i => bitOf (s.rd Reg.TRNG_STATUS.SRC_OK) i)).length

/-- TRNG_STATUS after a change of its sources (R299): with fewer than two, FAIL, TRNG_FAIL, and no DRBG output; the level source falls when
two serve again. -/
def State.settleTrng (s : State) : State :=
  if s.goodSources < 2 then ((s.flag Reg.TRNG_STATUS.FAIL true).flag Reg.TRNG_STATUS.DRBG_OK false).raise srcTrngFail
  else ((s.flag Reg.TRNG_STATUS.FAIL false).flag Reg.TRNG_STATUS.DRBG_OK true).fall srcTrngFail

/-- TRNG_SOURCE_FAIL: a source fails its repetition count test or its adaptive proportion test and is disabled (R298, R299). -/
def execTrngSourceFail (source : Nat) (proportion : Bool) (s : State) : Host.Outcome State Fault Refusal :=
  if 4 ≤ source ∨ !bitOf (s.rd Reg.TRNG_STATUS.SRC_OK) source then ok s
  else
    let s := s.bump (if proportion then Reg.TRNG_EVENTS.APT_FAIL else Reg.TRNG_EVENTS.RCT_FAIL)
    ok (((s.setBit Reg.TRNG_STATUS.SRC_OK source false).raise srcTrngSrcFail source).settleTrng)

/-- DRBG_RESEED: after 2^16 requests, or a second, the CTR_DRBG reseeds (R300); without two sources there is nothing to reseed from. -/
def execDrbgReseed (s : State) : Host.Outcome State Fault Refusal :=
  if !s.drbgOk then ok s
  else
    let s := if 65536 ≤ s.keys.drbgRequests then s else s.advanceTo (s.keys.drbgAt + second)
    ok ((s.draw 256).2.updKeys (fun k => { k with drbgRequests := 0, drbgAt := s.now }))

end Sys2Proof.Machine
end

