-- ==== Sys2Proof/Machine/Kennel.lean ====
section
/-!
DEFINITION. The Kennel (chapter 15): its supply states (Table 15-1), its monitors and responses (R487 to R492), its event queue (R497, R498),
the presence rule shared with the custody operations (R308, R529), and the writes of its registers.
-/

namespace Sys2Proof.Machine

/-- The Kennel has main power: it runs from VDD_IO33 (R483). -/
def State.mainPower (s : State) : Bool := s.rd Reg.KNL_STATUS.SUPPLY == 0

/-- The dictionary index of a custody operation's entry (Table 18-9). -/
def CustodyKind.index : CustodyKind → Nat
  | .enroll => 0x4010
  | .escrowCreate => 0x4012
  | .vaultRestore => 0x4013
  | .vaultRotate => 0x4014
  | .nsCreate => 0x4015
  | .nsRotate => 0x4016
  | .nsDestroy => 0x4017
  | .manifestKeyChange => 0x4018
  | .ownerRelease => 0x4019

/-- End the custody operation in progress with a code of R320 (R308, R315): its transient slots are cleared, OP_END is recorded, and its CMD entry
shows OK or FAILED (R562). -/
def State.endCustody (s : State) (code : Nat) : State :=
  match s.keys.custody with
  | none => s
  | some c =>
    let s := s.clearSlots (fun i _ => c.filled.contains i)
    let s := if code = 0 then s else s.updKeys (fun k => { k with pendingSet := none })
    let s := s.updSmilia (fun m => { m with status := tput m.status c.kind.index (if code = 0 then 0 else 0x020F) })
    (s.updKeys (fun k => { k with custody := none, lastOutcome := code })).trailRec 0x0306 masterSaddlebag true (leBytes 1 code)

/-- The main domain's part of a zeroization (R315, R318): every VK-wrapped slot is cleared, and a custody operation ends NO_VAULT. -/
def State.vaultGone (s : State) : State := (s.clearSlots (fun _ k => vaultWrapped k)).endCustody eNoVault

/-- Both banks are zeroized (Table 15-3); an uncommitted rotation is lost with them (R317). -/
def State.zeroize (s : State) : State :=
  let s := s.updKeys (fun k => { k with bankA := none, bankB := none, activeB := false, rotating := false, pendingSet := none })
  let s := s.flag Reg.KNL_STATUS.LOCKED false
  if s.mainPower && s.mainOn then s.vaultGone else s

/-- Queue an event record (R498): a full queue drops the oldest record whose response was LOG, else the oldest, and counts it. -/
def State.kennelQueue (s : State) (r : KennelRec) : State :=
  let q := s.kennel.queue
  if q.length < 16 then s.updKennel (fun k => { k with queue := q ++ [r], toCollar := k.toCollar ++ [r] })
  else
    let q' := match q.find? (fun x => x.resp == 0) with | some x => q.erase x | none => q.drop 1
    (s.updKennel (fun k => { k with queue := q' ++ [r], toCollar := k.toCollar ++ [r] })).bump Reg.KNL_STATUS.EVQ_LOST

/-- The least response of events 9, 11 and 13 without main power, where it is fixed (Table 15-2). -/
def State.response (s : State) (m : Nat) : Nat :=
  if (m = 9 ∨ m = 11) ∧ !s.mainPower then 3 else s.rd (Reg.KNL_MON.RESP.nth m)

/-- An event and its response (R490, R491): zeroization, then the flags, then the record, then the signals to the main domain; the Collar
write follows when the Collar is free. -/
def State.kennelEvent (s : State) (m : Nat) (r : Reading) : State :=
  let resp := s.response m
  let s := if resp = 3 then s.zeroize else s
  let s := if 1 ≤ resp then s.flag Reg.KNL_STATUS.LATCHED true else s
  let s := if resp = 2 then
      let s := s.flag Reg.KNL_STATUS.LOCKED true
      if s.mainPower && s.mainOn then s.clearSlots (fun _ k => vaultWrapped k) else s
    else s
  let seq := s.rd Reg.KNL_SEQ.KSEQ
  let s := s.kennelQueue { seq := seq, event := m, resp := resp, supply := s.rd Reg.KNL_STATUS.SUPPLY, mainOn := s.mainOn, rtcValid := s.isSet Reg.KNL_STATUS.RTC_VALID, vbat := r.vbat % 65536, secs := s.rtc / second, temp := r.temp }
  let s := s.addTo Reg.KNL_SEQ.KSEQ 1
  if s.mainPower && s.mainOn then
    let s := s.interrupt 200
    if 1 ≤ resp then s.raise srcKnlAlarm m else s
  else s

/-- The bytes of an event record (Table 15-5). -/
def KennelRec.bytes (r : KennelRec) : List Byte :=
  leBytes 4 r.seq ++ leBytes 1 r.event
  ++ leBytes 1 (r.resp % 4 + 4 * (r.supply % 4) + 16 * b2n r.mainOn + 32 * b2n r.rtcValid)
  ++ leBytes 2 r.vbat ++ leBytes 6 r.secs ++ leBytes 1 (r.temp + 100).toNat ++ leBytes 1 0

/-- A monitor's condition is met (R487): while enabled and armed it fires once; otherwise only ALARM shows the condition. -/
def State.monitor (s : State) (m : Nat) (r : Reading) : State :=
  if s.kennel.dead ∨ !s.isSet (Reg.KNL_MON.EN.nth m) then s
  else
    let fires := s.isSet (Reg.KNL_MON.ARMED.nth m)
    let s := (s.flag (Reg.KNL_MON.ALARM.nth m) true).flag (Reg.KNL_MON.ARMED.nth m) false
    let s := (s.wr Reg.KNL_VBAT.VBAT r.vbat).wr Reg.KNL_VBAT.VKEEP r.vkeep
    if fires then s.kennelEvent m r else s

/-- A signed field of 9 or 16 bits as an integer. -/
def signedOf (w v : Nat) : Int := if v < 2 ^ (w - 1) then (v : Int) else (v : Int) - (2 ^ w : Nat)

/-- CELL_STATE codes of KNL_STATUS. -/
def cellOk : Nat := 0
def cellLow : Nat := 1
def cellEnd : Nat := 2
def cellAbsent : Nat := 3

/-- VDD_IO33_LOSS: VDD_IO33 falls below 3.0 V (Table 15-1): to VBAT, or with the cell absent or at its end NO_BACKUP and hold-up. -/
def execVddIo33Loss (r : Reading) (s : State) : Host.Outcome State Fault Refusal :=
  if s.kennel.dead ∨ !s.mainPower then ok s
  else if s.rd Reg.KNL_STATUS.CELL_STATE < cellEnd then ok (s.wr Reg.KNL_STATUS.SUPPLY 1)
  else ok ((s.wr Reg.KNL_STATUS.SUPPLY 2).kennelEvent 13 r)

/-- VDD_IO33_RETURN: VDD_IO33 has stayed above 3.1 V for 10 ms (R483). -/
def execVddIo33Return (s : State) : Host.Outcome State Fault Refusal :=
  if s.kennel.dead then ok s else ok (s.wr Reg.KNL_STATUS.SUPPLY 0)

/-- The supply is lost below 1.8 V: the latches lose what they hold (Table 15-1). -/
def State.kennelDies (s : State) : State :=
  let s := s.updKeys (fun k => { k with bankA := none, bankB := none, activeB := false, rotating := false })
  s.updKennel (fun k => { k with dead := true, queue := [], toCollar := [] })

/-- CELL_REMOVED: BATSENSE opens or VBAT collapses (R495, R496); on the cell alone the domain goes to hold-up, or without hold-up it dies at
once (Table 15-7). -/
def execCellRemoved (r : Reading) (s : State) : Host.Outcome State Fault Refusal :=
  if s.kennel.dead ∨ s.rd Reg.KNL_STATUS.CELL_STATE = cellAbsent then ok s
  else
    let s := s.wr Reg.KNL_STATUS.CELL_STATE cellAbsent
    if s.rd Reg.KNL_STATUS.SUPPLY = 1 then
      if s.isSet Reg.KNL_STATUS.HOLDUP_OK then ok ((s.wr Reg.KNL_STATUS.SUPPLY 2).monitor 9 r) else ok s.kennelDies
    else ok (s.monitor 9 r)

/-- CELL_END: the mean VBAT falls below 2.05 V (R496). -/
def execCellEnd (r : Reading) (s : State) : Host.Outcome State Fault Refusal :=
  if s.kennel.dead ∨ s.rd Reg.KNL_STATUS.CELL_STATE = cellAbsent then ok s
  else ok ((s.wr Reg.KNL_STATUS.CELL_STATE cellEnd).monitor 11 r)

/-- CELL_LOW: the mean VBAT falls below 2.4 V; KNL_CELL_LOW is raised with main power, else at the first main power-up after it. -/
def execCellLow (r : Reading) (s : State) : Host.Outcome State Fault Refusal :=
  if s.kennel.dead ∨ cellEnd ≤ s.rd Reg.KNL_STATUS.CELL_STATE then ok s
  else
    let s := (s.wr Reg.KNL_STATUS.CELL_STATE cellLow).monitor 10 r
    if s.mainPower && s.mainOn then ok (s.raise srcKnlCellLow) else ok (s.updKennel (fun k => { k with lowSeen := true }))

/-- CELL_INSERTED: BATSENSE closes with VBAT at least 2.2 V (Table 15-2). -/
def execCellInserted (r : Reading) (s : State) : Host.Outcome State Fault Refusal :=
  if s.kennel.dead ∨ s.rd Reg.KNL_STATUS.CELL_STATE ≠ cellAbsent ∨ r.vbat < 2200 then ok s
  else ok ((s.wr Reg.KNL_STATUS.CELL_STATE cellOk).monitor 12 r)

/-- KENNEL_DEAD: VBAT or VKEEP falls below 1.8 V without main power (R486, Table 15-1). -/
def execKennelDead (s : State) : Host.Outcome State Fault Refusal := if s.mainPower then ok s else ok s.kennelDies

/-- The registers of the Kennel at their defaults: those of slot 0x0F0. -/
def State.kennelDefaults (s : State) : State :=
  { s with regs := tkeep s.regs (fun k _ => k / 64 / 65536 % 4096 != 0xF0) }

/-- TEMP_LOW: the die temperature is at or below LOW on two samples (R487). -/
def execTempLow (r : Reading) (s : State) : Host.Outcome State Fault Refusal :=
  if r.temp ≤ signedOf 9 (s.rd Reg.KNL_TEMP.LOW) then ok (s.monitor 0 r) else ok s

/-- TEMP_HIGH: the die temperature is at or above HIGH on two samples (R487). -/
def execTempHigh (r : Reading) (s : State) : Host.Outcome State Fault Refusal :=
  if signedOf 9 (s.rd Reg.KNL_TEMP.HIGH) ≤ r.temp then ok (s.monitor 1 r) else ok s

/-- VOLT: the Kennel supply stays above 3.9 V for 10 µs (R487). -/
def execVolt (r : Reading) (s : State) : Host.Outcome State Fault Refusal := ok (s.monitor 2 r)

/-- GLITCH: a supply step glitch (R487). -/
def execGlitch (r : Reading) (s : State) : Host.Outcome State Fault Refusal := ok (s.monitor 3 r)

/-- CLOCK: the crystal stops or drifts, and the RTC runs on the RC oscillator (R488). -/
def execClock (stopped : Bool) (r : Reading) (s : State) : Host.Outcome State Fault Refusal :=
  if s.kennel.dead then ok s else ok ((if stopped then s.flag Reg.KNL_STATUS.XTAL_OK false else s).monitor 4 r)

/-- MESH: the shield mesh check fails (R487). -/
def execMesh (r : Reading) (s : State) : Host.Outcome State Fault Refusal := ok (s.monitor 5 r)

/-- LID: LID_N reads high on two samples (R487). -/
def execLid (r : Reading) (s : State) : Host.Outcome State Fault Refusal := ok (s.monitor 6 r)

/-- LOOP0: TAMP0 reads open (R487). -/
def execLoop0 (r : Reading) (s : State) : Host.Outcome State Fault Refusal := ok (s.monitor 7 r)

/-- LOOP1: TAMP1 reads open (R487). -/
def execLoop1 (r : Reading) (s : State) : Host.Outcome State Fault Refusal := ok (s.monitor 8 r)

/-- MONITOR_REARM: a monitor's condition has been absent for 1 s (R487). -/
def execMonitorRearm (m : Nat) (s : State) : Host.Outcome State Fault Refusal :=
  if 15 ≤ m ∨ s.kennel.dead then ok s
  else
    let s := (s.flag (Reg.KNL_MON.ALARM.nth m) false).flag (Reg.KNL_MON.ARMED.nth m) true
    ok (if m = 4 then s.flag Reg.KNL_STATUS.XTAL_OK true else s)

/-- The newest unconsumed presence press that counts, within SDB_PRES.WINDOW_S (R308, R529). -/
def State.pressNow (s : State) : Option Nat :=
  s.panel.presses.head?.bind (fun t => if s.now ≤ t + s.rd Reg.SDB_PRES.WINDOW_S * second then some t else none)

/-- Consume the newest press. -/
def State.usePress (s : State) : State := s.updPanel (fun p => { p with presses := p.presses.drop 1 })

/-- A monitor is in alarm. -/
def State.inAlarm (s : State) : Bool := (List.range 15).any (fun m => s.isSet (Reg.KNL_MON.ALARM.nth m))

/-- A write of UNLOCK or CLR_LATCH under R494: refused with NO_PRESENCE or ALARM_ACTIVE, else the press is consumed. -/
def State.kennelRelease (s : State) (f : State → State) : State :=
  if s.pressNow.isNone then s.wr Reg.KNL_CTRL.ERR 1
  else if s.inAlarm then s.wr Reg.KNL_CTRL.ERR 2
  else f (s.usePress.wr Reg.KNL_CTRL.ERR 0)

/-- Release LOCK: with main power the keys are reloaded (R494). -/
def State.unlock (s : State) : State :=
  s.kennelRelease (fun s =>
    let s := s.flag Reg.KNL_STATUS.LOCKED false
    if s.mainPower && s.keyed && s.mainOn then s.loadKeys else s)

/-- Clear LATCHED (R494). -/
def State.clearLatch (s : State) : State := s.kennelRelease (fun s => s.flag Reg.KNL_STATUS.LATCHED false)

/-- UNLOCK: KNL_CTRL.UNLOCK releases LOCK, given presence and no alarm (R494); RWK. -/
def execUnlock (world : World) (s : State) : Host.Outcome State Fault Refusal := if world = .tack then ok s else ok s.unlock

/-- CLR_LATCH: KNL_CTRL.CLR_LATCH clears LATCHED, given presence and no alarm (R494). -/
def execClrLatch (world : World) (s : State) : Host.Outcome State Fault Refusal := if world = .tack then ok s else ok s.clearLatch

/-- CLR_POR: KNL_CTRL.CLR_POR clears POR (R505). -/
def execClrPor (world : World) (s : State) : Host.Outcome State Fault Refusal :=
  if world = .tack then ok s else ok (s.flag Reg.KNL_STATUS.POR false)

/-- EVQ_POP: the oldest queued record is removed (R500); the pop of the last clears EVQ_LOST. -/
def execEvqPop (world : World) (s : State) : Host.Outcome State Fault Refusal :=
  if world = .tack then ok s
  else
    let last := s.kennel.queue.length == 1
    let s := s.updKennel (fun k => { k with queue := k.queue.drop 1 })
    ok (if last then s.wr Reg.KNL_STATUS.EVQ_LOST 0 else s)

/-- KNL_RTC_SET: a write from Keeper world steps the RTC where RTC_VALID is 0 or the device is not in SEAL, and slews it in SEAL (R503). -/
def execKnlRtcSet (time : Nat) (world : World) (s : State) : Host.Outcome State Fault Refusal :=
  if world = .tack then ok s
  else
    let s := s.wr Reg.KNL_RTC_SET.TIME time
    let t : Nat := time % 2 ^ 64
    if !s.isSet Reg.KNL_STATUS.RTC_VALID ∨ s.svc ≠ .seal then
      ok (((s.setRtc t).updKennel (fun k => { k with slew := 0 })).flag Reg.KNL_STATUS.RTC_VALID true)
    else ok (s.updKennel (fun k => { k with slew := (t : Int) - (s.rtc : Int) }))

/-- KNL_TEMP_WRITE: thresholds in °C, or REFUSED where LOW is at least HIGH or one lies outside the range (R489). -/
def execKnlTempWrite (low high : Int) (world : World) (s : State) : Host.Outcome State Fault Refusal :=
  if world = .tack then ok s
  else if high ≤ low ∨ low < -80 ∨ 150 < high then ok (s.flag Reg.KNL_TEMP.REFUSED true)
  else ok (((s.wr Reg.KNL_TEMP.LOW (low % 512).toNat).wr Reg.KNL_TEMP.HIGH (high % 512).toNat).flag Reg.KNL_TEMP.REFUSED false)

/-- The responses allowed to a monitor (Table 15-2); none where it is fixed. -/
def monAllowed (m : Nat) : List Nat :=
  [[2, 3], [1, 2, 3], [2, 3], [2, 3], [0, 1, 2], [], [0, 1, 2, 3], [0, 1, 2, 3], [0, 1, 2, 3], [0, 1, 2, 3], [0, 1], [0, 1], [], [], []].getD m []

/-- A write of a monitor's response and enable is within its limits (R493, KNL_MON_m). -/
def State.monOk (s : State) (m resp : Nat) (en : Bool) : Bool :=
  ((monAllowed m).contains resp || ((monAllowed m).isEmpty && resp == s.rd (Reg.KNL_MON.RESP.nth m))) && (en || decide (m ∉ [5, 9, 12, 13, 14]))

/-- Set a monitor's response and enable, or REFUSED (R493). -/
def State.setMonitor (s : State) (m resp : Nat) (en : Bool) : State :=
  if 15 ≤ m then s
  else if s.monOk m resp en then ((s.wr (Reg.KNL_MON.RESP.nth m) resp).flag (Reg.KNL_MON.EN.nth m) en).flag (Reg.KNL_MON.REFUSED.nth m) false
  else s.flag (Reg.KNL_MON.REFUSED.nth m) true

/-- KNL_MON_WRITE: a monitor's response is set within Allowed, or the write is refused (R493). -/
def execKnlMonWrite (m resp : Nat) (en : Bool) (world : World) (s : State) : Host.Outcome State Fault Refusal :=
  if world = .tack then ok s else ok (s.setMonitor m resp en)

/-- KNL_TRIM_WRITE: the RTC rate correction in 0.1 ppm, clamped to ±2,000 (R502). -/
def execKnlTrimWrite (ppm10 : Int) (world : World) (s : State) : Host.Outcome State Fault Refusal :=
  if world = .tack then ok s else ok (s.wr Reg.KNL_TRIM.PPM10 ((max (-2000) (min 2000 ppm10)) % 65536).toNat)

/-- KENNEL_COLLAR_WRITE: the Kennel's next record is written to the Collar custody log (R499); on hold-up alone only while VKEEP is at least
2.0 V (R486); `bad` readbacks fail (R521). -/
def execKennelCollarWrite (vkeep bad : Nat) (s : State) : Host.Outcome State Fault Refusal :=
  match s.kennel.toCollar with
  | [] => ok s
  | r :: rest =>
    if s.kennel.dead ∨ (s.rd Reg.KNL_STATUS.SUPPLY = 2 ∧ vkeep < 2000) then ok s
    else ok ((s.updKennel (fun k => { k with toCollar := rest })).collarAppend false crKennel r.bytes bad)

/-- SENSOR_LOG_INTERVAL: each KNL_LOG.INTERVAL the least and greatest temperature and the lowest VBAT go to the Collar's sensor ring (R499,
Table 16-8). -/
def execSensorLogInterval (least greatest : Int) (vbat : Nat) (s : State) : Host.Outcome State Fault Refusal :=
  if s.kennel.dead then ok s
  else
    let mins := max 1 (s.rd Reg.KNL_LOG.INTERVAL)
    let s := s.advanceTo (s.kennel.lastLog + mins * 60 * second)
    let state := 4 * s.rd Reg.KNL_STATUS.SUPPLY + 16 * b2n s.mainOn + 32 * b2n (s.isSet Reg.KNL_STATUS.RTC_VALID)
    let body := leBytes 6 (s.rtc / second) ++ leBytes 1 (least + 100).toNat ++ leBytes 1 (greatest + 100).toNat ++ leBytes 2 vbat ++ leBytes 2 mins ++ leBytes 1 state
    ok ((s.updKennel (fun k => { k with lastLog := s.now })).collarAppend true crSensor body)

/-- HOLDUP_OK: VKEEP has charged to within 100 mV of the Kennel's active supply (R484). -/
def execHoldupOk (s : State) : Host.Outcome State Fault Refusal :=
  if s.kennel.dead then ok s else ok (s.flag Reg.KNL_STATUS.HOLDUP_OK true)

end Sys2Proof.Machine
end

