-- ==== Sys2Proof/Machine/Collar.lean ====
section
/-!
DEFINITION. The Collar's commands (chapter 16): its power-up and field sessions, the field commands of Table 16-9, and the core's access through
COL_CMD (R526, R527).
-/

namespace Sys2Proof.Machine

/-- Status words of Table 16-10. -/
def swDone : Nat := 0x9000
def swRefused : Nat := 0x6982
def swBlocked : Nat := 0x6983
def swLength : Nat := 0x6700
def swRange : Nat := 0x6A82
def swParam : Nat := 0x6A86
def swWrite : Nat := 0x6581

/-- The Collar answers a field command: data and status word. -/
def State.fieldAnswer (s : State) (sw : Nat) (data : List Byte := []) : State := s.emit .fieldReader 0x90 [sw] data

/-- COLLAR_POWER_UP: the COLLAR domain powers up, chooses a UID with first byte 0x08, and scans its rings (R517, R522); a head slot that holds an
invalid record (`tornCustody`, `tornSensor`) raises COL_TORN with its slot (R521). -/
def execCollarPowerUp (tornCustody tornSensor : Bool) (s : State) : Host.Outcome State Fault Refusal :=
  let (v, s) := s.draw 24
  let s := s.updCollar (fun c => { c with scanned := true, uid := 0x08000000 + v % 2 ^ 24, session := none })
  let s := s.flag Reg.COL_STATUS.SESSION false
  let s := if tornCustody then (s.updCollar (fun c => { c with custody := { c.custody with recs := tdel c.custody.recs c.custody.head } })).raiseMain srcColTorn s.collar.custody.head else s
  ok (if tornSensor then (s.updCollar (fun c => { c with sensor := { c.sensor with recs := tdel c.sensor.recs c.sensor.head } })).raiseMain srcColTorn s.collar.sensor.head else s)

/-- The reader's own carrier is on: the front end isolates the Collar (R506). -/
def State.carrierOn (s : State) : Bool := s.reader.mode == .carrier || s.reader.mode == .active

/-- COLLAR_ACTIVATION: a REQA or WUPA from a field reader, its anticollision and its RATS are answered once the scan has ended; the field
session opens with the ATS (R517, R518, R527). -/
def execCollarActivation (s : State) : Host.Outcome State Fault Refusal :=
  if !s.collar.scanned ∨ s.carrierOn then ok s
  else
    let s := s.updCollar (fun c => { c with session := some { selected := false, verified := [], last := s.now } })
    ok ((s.flag Reg.COL_STATUS.SESSION true).emit .fieldReader 0x01 [s.collar.uid, 0x20, 8, 4, 0])

/-- Run a field command in an open session (R527): `f` sees the session. -/
def State.fieldCommand (s : State) (f : FieldSession → State → State) : State :=
  match s.collar.session with
  | none => s
  | some x => f x (s.updCollar (fun c => { c with session := some { x with last := s.now } }))

/-- A command of the Collar application: answered INS not supported before the SELECT of its AID (R523). -/
def State.appCommand (s : State) (f : FieldSession → State → State) : State :=
  s.fieldCommand (fun x s => if x.selected then f x s else s.fieldAnswer 0x6D00)

/-- COLLAR_SELECT: a SELECT; the Collar's AID opens its command set (R523). -/
def execCollarSelect (aid : List Byte) (s : State) : Host.Outcome State Fault Refusal :=
  ok (s.fieldCommand (fun x s =>
    if aid = [0xF0, 0x4C, 0x47, 0x43, 0x4F, 0x4C, 0x01] then
      (s.updCollar (fun c => { c with session := some { x with selected := true, last := s.now } })).fieldAnswer swDone
    else s.fieldAnswer swRange))

/-- The field may read a byte (Table 16-4). -/
def State.fieldMay (s : State) (x : FieldSession) (a : Nat) : Bool :=
  if a < 0x100 then true else if a < 0x200 then false else if a < 0x400 then true
  else x.verified.contains 1 || bitOf s.security.policy 0

/-- COLLAR_READ: READ of Le bytes from an address, Le 0 meaning 256 (R523). -/
def execCollarRead (addr le : Nat) (s : State) : Host.Outcome State Fault Refusal :=
  ok (s.appCommand (fun x s =>
    let n := if le = 0 then 256 else le
    if 256 < n then s.fieldAnswer swLength
    else if 65536 < addr + n ∨ !(rangeFrom addr n).all (s.fieldMay x) then s.fieldAnswer swRange
    else s.fieldAnswer swDone (s.collarBytes addr n)))

/-- GET_STATE: the next CSEQs of the rings, TRIES, SET and POLICY (R523). -/
def execGetState (s : State) : Host.Outcome State Fault Refusal :=
  ok (s.appCommand (fun _ s =>
    let b := s.security
    s.fieldAnswer swDone (leBytes 4 s.collar.custody.nextSeq ++ leBytes 4 s.collar.sensor.nextSeq ++ b.tries.flatMap (leBytes 1) ++ leBytes 1 b.set ++ leBytes 1 b.policy ++ leBytes 3 0)))

/-- TRIES of password `n`, and a block with it changed. -/
def SecBlock.triesOf (b : SecBlock) (n : Nat) : Nat := b.tries.getD (n - 1) 0
def SecBlock.setTries (b : SecBlock) (n v : Nat) : SecBlock := { b with tries := b.tries.set (n - 1) v }

/-- VERIFY of password `n` (R524): the attempt is committed first, then compared; the one that takes TRIES to 0 appends PW_BLOCKED and raises
COL_PW_BLOCKED. `energy` is whether the supply margin allows the writes (R522); `lost` whether the field goes after the attempt is spent. -/
def execVerify (n : Nat) (pw : List Byte) (energy lost : Bool) (s : State) : Host.Outcome State Fault Refusal :=
  ok (s.appCommand (fun x s =>
    let b := s.security
    if n = 0 ∨ 3 < n then s.fieldAnswer swParam
    else if pw.length ≠ 8 then s.fieldAnswer swLength
    else if !bitOf b.set (n - 1) then s.fieldAnswer swRefused
    else if b.triesOf n = 0 then s.fieldAnswer swBlocked
    else if !energy then s.fieldAnswer swWrite
    else
      let left := b.triesOf n - 1
      let s := s.putSecurity (b.setTries n left)
      let s := if left = 0 then (s.collarAppend false crPwBlocked (leBytes 1 n)).raiseMain srcColPwBlocked n else s
      if lost then (s.updCollar (fun c => { c with session := none })).flag Reg.COL_STATUS.SESSION false
      else if b.pw.getD (n - 1) [] = pw then
        let s := s.putSecurity (s.security.setTries n 8)
        (s.updCollar (fun c => { c with session := some { x with verified := if n ∈ x.verified then x.verified else n :: x.verified, last := s.now } })).fieldAnswer swDone
      else s.fieldAnswer (0x63C0 + left)))

/-- APPEND_NOTE: a FIELD_NOTE under PW2 (R521, R523); `bad` readbacks fail. -/
def execAppendNote (body : List Byte) (energy : Bool) (bad : Nat) (s : State) : Host.Outcome State Fault Refusal :=
  ok (s.appCommand (fun x s =>
    if body.length ≠ 16 then s.fieldAnswer swLength
    else if !x.verified.contains 2 then s.fieldAnswer swRefused
    else if !energy then s.fieldAnswer swWrite
    else
      let seq := s.collar.custody.nextSeq
      (s.collarAppend false crFieldNote body bad).fieldAnswer swDone (leBytes 4 seq)))

/-- Set password `n`: SET, TRIES 8 and PW_CHANGED with its source (R525). -/
def State.setPassword (s : State) (n : Nat) (pw : List Byte) (source : Nat) : State :=
  let b := s.security
  let set := if bitOf b.set (n - 1) then b.set else b.set + 2 ^ (n - 1)
  let s := s.putSecurity ({ b with set := set, pw := b.pw.set (n - 1) (padTo 8 pw) }.setTries n 8)
  s.collarAppend false crPwChanged (leBytes 1 n ++ leBytes 1 source)

/-- An administrative field command may run: PW3 verified and NO_FIELD_ADMIN clear. -/
def State.fieldAdmin (s : State) (x : FieldSession) : Bool := x.verified.contains 3 && !bitOf s.security.policy 1

/-- CHANGE_PW: a new password from the field under PW3 (R525). -/
def execChangePw (n : Nat) (pw : List Byte) (energy : Bool) (s : State) : Host.Outcome State Fault Refusal :=
  ok (s.appCommand (fun x s =>
    if n = 0 ∨ 3 < n then s.fieldAnswer swParam
    else if pw.length ≠ 8 then s.fieldAnswer swLength
    else if !s.fieldAdmin x then s.fieldAnswer swRefused
    else if !energy then s.fieldAnswer swWrite
    else (s.setPassword n pw 1).fieldAnswer swDone))

/-- RESET_TRIES: PW1 or PW2 is unblocked under PW3 (R525). -/
def execResetTries (n : Nat) (energy : Bool) (s : State) : Host.Outcome State Fault Refusal :=
  ok (s.appCommand (fun x s =>
    if n ≠ 1 ∧ n ≠ 2 then s.fieldAnswer swParam
    else if !s.fieldAdmin x then s.fieldAnswer swRefused
    else if !energy then s.fieldAnswer swWrite
    else (s.putSecurity (s.security.setTries n 8)).fieldAnswer swDone))

/-- How a field session ends (R527). -/
def State.endField (s : State) (powered : Bool) : State :=
  let turned := s.collar.turned
  let notes := s.collar.notes
  let s := (s.updCollar (fun c => { c with session := none, turned := false, notes := [], scanned := powered })).flag Reg.COL_STATUS.SESSION false
  let s := notes.foldl (fun s n => s.coreNote n.1 n.2) s
  if turned && s.mainOn then s.interrupt 212 else s

/-- COLLAR_SESSION_END: a field session closes by S(DESELECT), by loss of the field, or after 2 s without a command; COL_FREE follows a core
operation turned away (R527). -/
def execCollarSessionEnd (fieldLost timeout : Bool) (s : State) : Host.Outcome State Fault Refusal :=
  match s.collar.session with
  | none => ok s
  | some x =>
    let s := if timeout then s.advanceTo (x.last + 2 * second) else s
    ok (s.endField (!fieldLost))

/-- Run a core operation of COL_CMD (R526, R527): COLLAR_BUSY while a field session is open. -/
def State.colCmd (s : State) (world : World) (op pw : Nat) (f : State → State × Nat) : State :=
  if world = .tack then s
  else
    let s := (s.wr Reg.COL_CMD.OP op).wr Reg.COL_CMD.PW pw
    if s.collar.session.isSome then (s.updCollar (fun c => { c with turned := true })).wr Reg.COL_CMD.ERR 1
    else
      let (s, e) := f s
      s.wr Reg.COL_CMD.ERR e

/-- Bytes of COL_WIN, and their writing. -/
def State.colWin (s : State) (n : Nat) : List Byte := ((List.range (ceilDiv n 4)).flatMap (fun w => leBytes 4 (s.rd (Reg.COL_WIN.DATA.nth w)))).take n
def State.setColWin (s : State) (bs : List Byte) : State :=
  (List.range (ceilDiv bs.length 4)).foldl (fun s w => s.wr (Reg.COL_WIN.DATA.nth w) (ofLe (slice bs (4 * w) 4))) s

/-- COL_READ: READ of Collar memory for the core, passwords reading zero (R526). -/
def execColRead (world : World) (s : State) : Host.Outcome State Fault Refusal :=
  ok (s.colCmd world 1 (s.rd Reg.COL_CMD.PW) (fun s =>
    let a := s.rd Reg.COL_ADDR.ADDR
    let n := s.rd Reg.COL_ADDR.LEN
    if n = 0 ∨ 256 < n ∨ 65536 < a + n then (s, 2) else (s.setColWin (s.collarBytes a n), 0)))

/-- COL_APPEND: APPEND of a CORE_NOTE from COL_WIN (R526); `bad` readbacks fail. -/
def execColAppend (world : World) (bad : Nat) (s : State) : Host.Outcome State Fault Refusal :=
  ok (s.colCmd world 2 (s.rd Reg.COL_CMD.PW) (fun s => (s.collarAppend false crCoreNote (s.colWin 16) bad, if 2 ≤ bad then 3 else 0)))

/-- SET_PW: password `pw` is set from COL_WIN (R526). -/
def execSetPw (world : World) (pw : Nat) (s : State) : Host.Outcome State Fault Refusal :=
  ok (s.colCmd world 3 pw (fun s => if pw = 0 ∨ 3 < pw then (s, 2) else (s.setPassword pw (s.colWin 8) 2, 0)))

/-- UNBLOCK: password `pw` is unblocked (R525, R526). -/
def execUnblock (world : World) (pw : Nat) (s : State) : Host.Outcome State Fault Refusal :=
  ok (s.colCmd world 4 pw (fun s => if pw = 0 ∨ 3 < pw then (s, 2) else (s.putSecurity (s.security.setTries pw 8), 0)))

/-- SET_POLICY: POLICY is set from byte 0 of COL_WIN (R526). -/
def execSetPolicy (world : World) (s : State) : Host.Outcome State Fault Refusal :=
  ok (s.colCmd world 5 (s.rd Reg.COL_CMD.PW) (fun s => (s.putSecurity { s.security with policy := ofLe (s.colWin 1) % 4 }, 0)))

end Sys2Proof.Machine
end

