-- ==== Sys2Proof/Machine/Reader.lean ====
section
/-!
DEFINITION. The contactless reader (chapter 16): detection pings and polls (R509 to R511), the choice of one card by anticollision (R512), UIDs
(R513), taps, badges and cartridges (R515, R516), and the operations of NFC_CMD (Table 16-3).
-/

namespace Sys2Proof.Machine

def State.updReader (s : State) (f : Reader → Reader) : State := { s with reader := f s.reader }

/-- NFC_STATUS.STATE: 0 OFF, 1 DETECT, 2 POLL, 3 ACTIVE, 4 EXT_FIELD, 5 FAULT. -/
def State.nfcState (s : State) : Nat :=
  match s.reader.mode with
  | .idle => b2n (s.isSet Reg.NFC_CTRL.EN && s.isSet Reg.NFC_CTRL.DETECT)
  | .carrier => 2
  | .active => 3
  | .extField => 4
  | .fault => 5

/-- The reader may emit a carrier. -/
def State.nfcServes (s : State) : Bool := s.lit && s.mainOn && s.isSet Reg.NFC_CTRL.EN

/-- The value of UID or PUPI bytes (R513); ten bytes do not fit it. -/
def uidValue (c : Card) : Nat := ofBe c.uid % 2 ^ 56 + (if c.typeB then 2 ^ 63 else 0)

/-- The bits of a byte in the order they are sent, least significant first. -/
def sentBits (b : Byte) : List Bool := (List.range 8).map (fun i => bitOf b.toNat i)

/-- The UID bits of a cascade level as sent: the cascade tag 0x88 stands before three UID bytes where more levels follow. -/
def levelBits (uid : List Byte) (level : Nat) : List Bool :=
  let rest := uid.drop (3 * level)
  let bytes := if rest.length ≤ 4 then rest else (0x88 : Byte) :: rest.take 3
  bytes.flatMap sentBits

/-- One step of R512 at a bit position: where the answers collide, a 1 is appended, so that only cards with a 1 there go on. -/
def resolveBit (level i : Nat) (cs : List Card) : List Card :=
  let ones := cs.filter (fun c => (levelBits c.uid level).getD i false)
  if ones.isEmpty then cs else ones

/-- The card that anticollision over three cascade levels of 32 bits selects (R512). -/
def resolveA (cs : List Card) : Option Card :=
  ((rangeFrom 0 96).foldl (fun cs i => resolveBit (i / 32) (i % 32) cs) cs).head?

/-- What a poll finds. -/
inductive PollEnd where
  | noCard | collisionB | found (c : Card)
  deriving DecidableEq, Repr

/-- A poll among cards that answer: Type A first, then Type B with one slot where TYPE_B is set (R508, R510). -/
def State.findCard (s : State) (cs : List Card) : PollEnd :=
  match resolveA (cs.filter (fun c => !c.typeB)) with
  | some c => .found c
  | none =>
    match (if s.isSet Reg.NFC_CTRL.TYPE_B then cs.filter (fun c => c.typeB) else []) with
    | [] => .noCard
    | [c] => .found c
    | _ => .collisionB

/-- Show the selected card in NFC_STATUS and NFC_UID; a UID of ten bytes leaves NFC_UID free (R513 gives it no value). -/
def State.showCard (s : State) (c : Card) : State :=
  let s := ((s.flag Reg.NFC_STATUS.ISO_DEP c.isoDep).flag Reg.NFC_STATUS.TYPE c.typeB).wr Reg.NFC_STATUS.UID_LEN c.uid.length
  let s := s.wr Reg.NFC_STATUS.RATE 0
  if c.uid.length ≤ 7 then s.wr Reg.NFC_UID.UID (uidValue c)
  else
    let (v, s) := s.draw 64
    s.wr Reg.NFC_UID.UID v

/-- Drop the selected card. -/
def State.dropCard (s : State) (mode : ReaderMode) : State :=
  let s := ((s.flag Reg.NFC_STATUS.ISO_DEP false).flag Reg.NFC_STATUS.TYPE false).wr Reg.NFC_STATUS.UID_LEN 0
  s.updReader (fun r => { r with mode := mode, card := none, active := false, hello := none, keys := none })

/-- Halt the selected card: S(DESELECT) or HLTA; the carrier stays on. -/
def State.haltCard (s : State) : State :=
  match s.reader.card with
  | none => s
  | some c => (s.updReader (fun r => { r with halted := r.halted ++ [c.uid] })).dropCard .carrier

/-- NFC_CMD error codes. -/
def nOk : Nat := 0
def nNoCard : Nat := 1
def nCollisionB : Nat := 2
def nTimeout : Nat := 3
def nProtocol : Nat := 4
def nAccess : Nat := 5
def nExtField : Nat := 6
def nUidTooLong : Nat := 7
def nRxOverflow : Nat := 8

/-- The number of pending check-ins that are held (R516). -/
def pendingLimit : Nat := 256

/-- A cartridge tag with UID `u` is tapped (R516): its medium is checked in, or the tag waits, the oldest dropped from a full list. -/
def State.cartridgeTap (s : State) (u : Nat) : State :=
  match tfirst s.shepherd.media (fun _ m => m.removable && m.tagUid == u) with
  | some d => s.checkIn d u
  | none => s.updShepherd (fun p =>
      let rest := p.pendingTags.filter (fun t => t.1 != u)
      let rest := if pendingLimit ≤ rest.length then rest.drop 1 else rest
      { p with pendingTags := rest ++ [(u, s.now)] })

/-- M1 (R306): a challenge, an ephemeral X25519 public key and an ephemeral ML-KEM-1024 encapsulation key, sent with CLA 0x80 and INS 0x10
(R515). -/
def State.sendM1 (s : State) : State :=
  let (c, s) := s.draw 256
  let (x, s) := s.draw 256
  let (k, s) := s.draw 512
  let m1 := beBytes 32 c ++ leBytes 32 (x25519 x 9) ++ Config.mlkemPublic k
  (s.updReader (fun r => { r with active := true, hello := some { bytes := m1, x25519 := x, kem := k } })).emit .nfcCard 0x8010 [] m1

/-- The AID of the badge application (R515). -/
def badgeAid : List Byte := [0xF0, 0x4C, 0x47, 0x42, 0x44, 0x01]

/-- Handle a tap (R515): SELECT of the badge application to an ISO-DEP card, then M1 to a badge in a custody operation, BADGE_SEEN and the
deselect of a badge outside one, else a cartridge. The second part is the code that NFC_CMD.ERR shows. -/
def State.serveTap (s : State) (c : Card) : State × Nat :=
  let s := if c.isoDep then s.emit .nfcCard 0xA4 [] badgeAid else s
  if c.isoDep && c.badge then
    if s.keys.custody.isSome then (s.sendM1, nOk)
    else ((s.trailRec 0x0303 masterNfc true (leBytes 8 (uidValue c))).haltCard, nOk)
  else if 7 < c.uid.length then (s, nUidTooLong)
  else (s.cartridgeTap (uidValue c), nOk)

/-- A card is selected; NFC_TAP is raised for a UID that has been found absent since its last tap (R511). -/
def State.selectCard (s : State) (c : Card) : State × Nat :=
  let new := !s.reader.tapped.contains c.uid
  let s := (s.showCard c).updReader (fun r => { r with mode := .active, card := some c, active := false, served := r.served + 1, last := s.now, hello := none, keys := none })
  if new then ((s.updReader (fun r => { r with tapped := r.tapped ++ [c.uid] })).interrupt 211).serveTap c
  else (s, nOk)

/-- Switch the carrier on and poll with WUPA, and WUPB (R510, R512): all cards in the field answer. -/
def State.pollField (s : State) (cards : List Card) : State × Nat :=
  let s := s.updReader (fun r => { r with served := 0, halted := [], tapped := r.tapped.filter (fun u => cards.any (fun c => c.uid == u)) })
  match s.findCard cards with
  | .noCard => ((s.bump Reg.NFC_STATUS.FALSE_WAKE).dropCard .idle |>.updReader (fun r => { r with pings := [] }), nNoCard)
  | .collisionB => (s.dropCard .idle, nCollisionB)
  | .found c => s.selectCard c

/-- The mean of a baseline of 16 pings. -/
def pingMean (ps : List (Nat × Int)) : Nat × Int := ((ps.map Prod.fst).sum / 16, (ps.map Prod.snd).sum / 16)

/-- A ping differs from the baseline: its amplitude by more than THRESH per mille, or its phase by more than 2° (R509). -/
def State.pingDiffers (s : State) (amp : Nat) (phase : Int) : Bool :=
  let (a, p) := pingMean s.reader.pings
  let thresh := max 1 (s.rd Reg.NFC_DETECT.THRESH)
  decide (thresh * a < 1000 * (if amp ≤ a then a - amp else amp - a)) || decide (2000 < (phase - p).natAbs)

/-- DETECTION_PING: a ping every PERIOD_MS (R509): it enters the baseline, or starts a poll (R510) among the cards in the field. -/
def execDetectionPing (amp : Nat) (phase : Int) (cards : List Card) (s : State) : Host.Outcome State Fault Refusal :=
  if !s.nfcServes ∨ !s.isSet Reg.NFC_CTRL.DETECT ∨ s.reader.mode ≠ .idle then ok s
  else
    let s := s.advance (max 50 (min 2000 (s.rd Reg.NFC_DETECT.PERIOD_MS)) * msec)
    if s.reader.pings.length < 16 then ok (s.updReader (fun r => { r with pings := r.pings ++ [(amp, phase)] }))
    else if s.pingDiffers amp phase then ok (s.pollField cards).1
    else ok (s.updReader (fun r => { r with pings := r.pings.drop 1 ++ [(amp, phase)] }))

/-- The life of a pending check-in (R516). -/
def State.checkinLife (s : State) : Nat := max 1 (s.rd Reg.NFC_CKIN.WINDOW_H) * hour

/-- PENDING_CHECKIN_EXPIRY: the oldest pending check-in reaches its life and is dropped (R516). -/
def execPendingCheckinExpiry (s : State) : Host.Outcome State Fault Refusal :=
  match s.shepherd.pendingTags with
  | [] => ok s
  | (_, t) :: rest => ok ((s.advanceTo (t + s.checkinLife)).updShepherd (fun p => { p with pendingTags := rest }))

/-- TAP_IDLE_TIMEOUT: no command within 2 s (R511): the card is halted, the carrier switched off and detection resumes. -/
def execTapIdleTimeout (s : State) : Host.Outcome State Fault Refusal :=
  if s.reader.mode = .active ∨ s.reader.mode = .carrier then ok (((s.advanceTo (s.reader.last + 2 * second)).haltCard).dropCard .idle) else ok s

/-- EXTERNAL_FIELD: before a ping or a carrier an external field is sensed (R507): nothing is emitted. -/
def execExternalField (s : State) : Host.Outcome State Fault Refusal :=
  if s.nfcServes ∧ s.reader.mode = .idle then ok (s.updReader (fun r => { r with mode := .extField })) else ok s

/-- EXT_FIELD_GONE: the external field has been gone for 1 s, and the reader resumes (R507). -/
def execExtFieldGone (s : State) : Host.Outcome State Fault Refusal :=
  if s.reader.mode = .extField then ok (s.updReader (fun r => { r with mode := .idle })) else ok s

/-- Run an operation of NFC_CMD from Keeper world (R514): its outcome in ERR, and NFC_DONE. The reader that is disabled, stopped or held back
emits nothing: it finds no card, or answers EXT_FIELD. -/
def State.nfcCmd (s : State) (world : World) (op : Nat) (f : State → State × Nat) : State :=
  if world = .tack then s
  else
    let s := (s.wr Reg.NFC_CMD.OP op).updReader (fun r => { r with last := s.now })
    let (s, e) := if s.reader.mode = .extField then (s, nExtField) else if !s.nfcServes ∨ s.reader.mode = .fault then (s, nNoCard) else f s
    (s.wr Reg.NFC_CMD.ERR e).interrupt 210

/-- POLL: the carrier is switched on and the field polled (R510, R512). -/
def execPoll (world : World) (cards : List Card) (s : State) : Host.Outcome State Fault Refusal := ok (s.nfcCmd world 1 (fun s => s.pollField cards))

/-- Activate ISO-DEP on the selected card where that has not been done: RATS, and PPS to the highest rate of both sides. -/
def State.activate (s : State) (c : Card) : State :=
  if s.reader.active then s
  else (s.wr Reg.NFC_STATUS.RATE (min (s.rd Reg.NFC_CTRL.RATE_MAX) c.rate)).updReader (fun r => { r with active := true })

/-- The card's answer goes to the receive buffer (R514). -/
def State.nfcAnswer (s : State) (a : CardAnswer) : State × Nat :=
  match a with
  | .timeout => (s, nTimeout)
  | .protocol => (s, nProtocol)
  | .data bs sw1 sw2 =>
    if s.rd Reg.NFC_LEN.RXCAP < bs.length then (s, nRxOverflow)
    else
      let rx := s.rd Reg.NFC_RXADDR.ADDR
      match (if bs.isEmpty then (true, s) else s.guardRange masterNfc .write rx bs.length) with
      | (false, s) => (s, nAccess)
      | (true, s) => (((s.writeMem rx bs).wr Reg.NFC_RXLEN.LEN bs.length).wr Reg.NFC_RXLEN.SW (sw2 % 256 + 256 * (sw1 % 256)), nOk)

/-- EXCHANGE: the bytes at NFC_TXADDR go to the card as one APDU, and its answer to NFC_RXADDR (R514). -/
def execExchange (world : World) (answer : CardAnswer) (s : State) : Host.Outcome State Fault Refusal :=
  ok (s.nfcCmd world 2 (fun s =>
    match s.reader.card with
    | none => (s, nNoCard)
    | some c =>
      if !c.isoDep then (s, nProtocol)
      else
        let tx := s.rd Reg.NFC_TXADDR.ADDR
        let n := s.rd Reg.NFC_LEN.TXLEN
        match (if n = 0 then (true, s) else s.guardRange masterNfc .read tx n) with
        | (false, s) => (s, nAccess)
        | (true, s) => (((s.activate c).emit .nfcCard 0 [] (s.readMem tx n)).nfcAnswer answer)))

/-- DESELECT: S(DESELECT) or HLTA (R514). -/
def execDeselect (world : World) (s : State) : Host.Outcome State Fault Refusal :=
  ok (s.nfcCmd world 3 (fun s => if s.reader.card.isNone then (s, nNoCard) else (s.haltCard, nOk)))

/-- FIELD_OFF: the carrier is switched off and the card's state dropped (R514). -/
def execFieldOff (world : World) (s : State) : Host.Outcome State Fault Refusal := ok (s.nfcCmd world 4 (fun s => (s.dropCard .idle, nOk)))

/-- NEXT: the card is halted and REQA finds one not yet served; the loop ends when none answers, or after 16 cards (R512, R514). -/
def execNextCard (world : World) (cards : List Card) (s : State) : Host.Outcome State Fault Refusal :=
  ok (s.nfcCmd world 5 (fun s =>
    if s.reader.mode ≠ .active ∧ s.reader.mode ≠ .carrier then (s, nNoCard)
    else
      let s := s.haltCard
      match (if s.reader.served < 16 then s.findCard (cards.filter (fun c => !s.reader.halted.contains c.uid)) else .noCard) with
      | .noCard => (s.dropCard .idle, nNoCard)
      | .collisionB => (s, nCollisionB)
      | .found c => s.selectCard c))

end Sys2Proof.Machine
end

