-- ==== Sys2Proof/Machine/SdCard.lean ====
section
/-!
DEFINITION. The SD host (R533 to R544): power and INIT, the operations of SC_CMD, busy periods, removal and insertion, and the walk of the bundle
chain.
-/

namespace Sys2Proof.Machine

def State.updSd (s : State) (f : SdHost → SdHost) : State := { s with sd := f s.sd }

/-- SC_CMD error codes. -/
def sdOk : Nat := 0
def sdNoCard : Nat := 1
def sdUnsupported : Nat := 2
def sdTimeout : Nat := 3
def sdCrc : Nat := 4
def sdLocked : Nat := 5
def sdTorn : Nat := 6
def sdRemoved : Nat := 7
def sdAccess : Nat := 8
def sdPresence : Nat := 9
def sdCardError : Nat := 10
def sdBadArg : Nat := 11

/-- SC_STATUS.STATE codes. -/
def scEmpty : Nat := 0
def scOff : Nat := 1
def scInit : Nat := 2
def scReady : Nat := 3
def scBusy : Nat := 4
def scSleep : Nat := 5
def scLocked : Nat := 6
def scFault : Nat := 7

def State.scState (s : State) : Nat := s.rd Reg.SC_STATUS.STATE

/-- The panel and the slot work: in HEEL and SEAL, with the main domain running. -/
def State.panelServes (s : State) : Bool := s.lit && s.mainOn

/-- Card power goes off (R540, R541): the slot shows `state`. -/
def State.cardOff (s : State) (state : Nat) : State :=
  let s := ((s.flag Reg.SC_STATUS.POWER false).wr Reg.SC_STATUS.STATE state).wr Reg.SC_STATUS.MODE 0
  let s := ((s.flag Reg.SC_STATUS.WIDTH false).flag Reg.SC_STATUS.SIG18 false).wr Reg.SC_CAP.BLOCKS 0
  s.updSd (fun d => { d with offAt := some s.now, blocks := 0 })

/-- End an operation: its code in ERR, BUSY clear, SC_DONE. -/
def State.sdEnd (s : State) (e : Nat) : State :=
  let s := ((s.wr Reg.SC_CMD.ERR e).flag Reg.SC_CMD.BUSY false).interrupt 222
  s.updSd (fun d => { d with running := none, last := s.now })

/-- Step down from mode `m` until check, switch, verify and tuning pass (R535); default speed needs none. -/
def State.raiseSpeed (s : State) (f : SdFacts) : Nat → State
  | 0 => s.wr Reg.SC_STATUS.MODE 0
  | m + 1 =>
    if !f.switches.contains (m + 1) then State.raiseSpeed (s.bump Reg.SC_EVENTS.STEP_DOWN) f m
    else if 2 ≤ m + 1 ∧ f.untuned.contains (m + 1) then State.raiseSpeed ((s.raise srcScTuneFail).bump Reg.SC_EVENTS.STEP_DOWN) f m
    else s.wr Reg.SC_STATUS.MODE (m + 1)

/-- The highest mode that SPEED_MAX, the signalling voltage and the card's report allow (R535). -/
def startMode (f : SdFacts) (cap : Nat) : Nat := (f.reported.filter (fun m => decide (m ≤ cap))).foldl max 0

/-- Card power comes on, no sooner than 50 ms after it went off (R540). -/
def State.cardOn (s : State) : State :=
  let s := match s.sd.offAt with | some t => s.advanceTo (t + 50 * msec) | none => s
  ((s.flag Reg.SC_STATUS.POWER true).wr Reg.SC_STATUS.STATE scInit).advance msec

/-- INIT of R534: identification, voltage switch, bus width and speed; the code it ends with. -/
def State.initSlot (s : State) (f : SdFacts) : State × Nat :=
  let s := s.cardOn
  if !f.answers then ((s.advance second).cardOff scOff, sdTimeout)
  else if !f.supported then (s.cardOff scOff, sdUnsupported)
  else
    let wants := s.isSet Reg.SC_CTRL.V18 && f.s18a
    let s := if wants && !f.switchOk then (s.cardOff scOff).cardOn else s
    let v18 := wants && f.switchOk
    let s := (s.flag Reg.SC_STATUS.SIG18 v18).updSd (fun d => { d with blocks := f.blocks })
    if f.locked then (s.wr Reg.SC_STATUS.STATE scLocked, sdLocked)
    else
      let s := s.flag Reg.SC_STATUS.WIDTH (s.isSet Reg.SC_CTRL.WIDTH4 && f.width4)
      let s := s.raiseSpeed f (startMode f (min (s.rd Reg.SC_CTRL.SPEED_MAX) (if v18 then 3 else 1)))
      ((s.wr Reg.SC_CAP.BLOCKS f.blocks).wr Reg.SC_STATUS.STATE scReady, sdOk)

/-- Start an operation of SC_CMD from Keeper world: ignored while BUSY; `f` gives the code it ends with, none while it goes on. -/
def State.sdCmd (s : State) (world : World) (op : Nat) (f : State → State × Option Nat) : State :=
  if world = .tack ∨ s.isSet Reg.SC_CMD.BUSY ∨ !s.panelServes then s
  else
    let s := (s.wr Reg.SC_CMD.OP op).updSd (fun d => { d with last := s.now })
    match f s with
    | (s, some e) => s.sdEnd e
    | (s, none) => ((s.flag Reg.SC_CMD.BUSY true).wr Reg.SC_STATUS.STATE scBusy).updSd (fun d => { d with running := some op })

/-- An operation that needs a card in service (R538, R539): a sleeping card is woken, a locked one refuses. -/
def State.withCard (s : State) (f : State → State × Option Nat) : State × Option Nat :=
  if !s.isSet Reg.SC_STATUS.PRESENT ∨ !s.isSet Reg.SC_STATUS.POWER then (s, some sdNoCard)
  else if s.scState = scLocked then (s, some sdLocked)
  else f (if s.scState = scSleep then (s.wr Reg.SC_STATUS.STATE scReady).advance msec else s)

/-- The CRC repeats an operation may take (R536): one, and for a read at SDR50 or SDR104 another after a new tuning. -/
def State.crcLimit (s : State) (read : Bool) : Nat := if read && decide (2 ≤ s.rd Reg.SC_STATUS.MODE) then 2 else 1

/-- How an operation ends. -/
def State.sdOutcome (s : State) (read : Bool) : SdEnd → State × Option Nat
  | .ok n => (s.bump Reg.SC_EVENTS.CRC_RETRY (min n (s.crcLimit read)), some sdOk)
  | .crc => (s.bump Reg.SC_EVENTS.CRC_RETRY (s.crcLimit read), some sdCrc)
  | .cardError => (s, some sdCardError)
  | .goesOn => (s, none)

def State.scBuf (s : State) : Nat := s.rd Reg.SC_BUF.ADDR * 512
def State.scCount (s : State) : Nat := s.rd Reg.SC_COUNT.BLOCKS
def State.scFirst (s : State) : Nat := s.rd Reg.SC_LBA.BLOCK

/-- The block range of READ, WRITE or ERASE: none of length 0 (BAD_ARG), none past the card's end (the card refuses it). -/
def State.scRange (s : State) (f : State → State × Option Nat) : State × Option Nat :=
  if s.scCount = 0 then (s, some sdBadArg) else if s.sd.blocks < s.scFirst + s.scCount then (s, some sdCardError) else f s

/-- INIT (R534); `f` is what the card shows. -/
def execInitCard (world : World) (f : SdFacts) (s : State) : Host.Outcome State Fault Refusal :=
  ok (s.sdCmd world 1 (fun s =>
    if !s.isSet Reg.SC_STATUS.PRESENT then (s, some sdNoCard)
    else if s.scState = scLocked then (s, some sdLocked)
    else let (s, e) := s.initSlot f; (s, some e)))

/-- READ: blocks go from the card to the buffer (R533, R536); `data` is what has arrived. -/
def execScRead (world : World) (data : List Byte) (e : SdEnd) (s : State) : Host.Outcome State Fault Refusal :=
  ok (s.sdCmd world 2 (fun s => s.withCard (fun s => s.scRange (fun s =>
    let n := 512 * s.scCount
    match s.guardRange masterCard .write s.scBuf n with
    | (false, s) => (s, some sdAccess)
    | (true, s) => ((s.emit .serviceCard 18 [s.scFirst, s.scCount]).writeMem s.scBuf (match e with | .ok _ => padTo n data | _ => data.take n)).sdOutcome true e))))

/-- WRITE: blocks go from the buffer to the card (R533, R537). -/
def execScWrite (world : World) (e : SdEnd) (s : State) : Host.Outcome State Fault Refusal :=
  ok (s.sdCmd world 3 (fun s => s.withCard (fun s => s.scRange (fun s =>
    let n := 512 * s.scCount
    match s.guardRange masterCard .read s.scBuf n with
    | (false, s) => (s, some sdAccess)
    | (true, s) => (s.emit .serviceCard 25 [s.scFirst, s.scCount] (s.readMem s.scBuf n)).sdOutcome false e))))

/-- ERASE: a block range is erased (R534). -/
def execScErase (world : World) (e : SdEnd) (s : State) : Host.Outcome State Fault Refusal :=
  ok (s.sdCmd world 4 (fun s => s.withCard (fun s => s.scRange (fun s => (s.emit .serviceCard 38 [s.scFirst, s.scCount]).sdOutcome false e))))

/-- Send CMD42 of a kind with the password of SC_BUF, 1 to 16 bytes (R538). -/
def State.password (s : State) (kind : Nat) (f : State → State × Option Nat) : State × Option Nat :=
  let n := s.scCount % 32
  if n = 0 ∨ 16 < n then (s, some sdBadArg)
  else match s.guardRange masterCard .read s.scBuf n with
    | (false, s) => (s, some sdAccess)
    | (true, s) => f (s.emit .serviceCard 42 [kind, n] (s.readMem s.scBuf n))

/-- The card is unlocked and serves. -/
def State.cardFree (s : State) : State := (s.wr Reg.SC_STATUS.STATE scReady).wr Reg.SC_CAP.BLOCKS s.sd.blocks

/-- The outcome of an operation that unlocks the card. -/
def State.unlockOutcome (s : State) (e : SdEnd) : State × Option Nat :=
  match e with
  | .ok n => (s.cardFree).sdOutcome false (.ok n)
  | _ => s.sdOutcome false e

/-- The slot holds a powered card. -/
def State.cardPowered (s : State) : Bool := s.isSet Reg.SC_STATUS.PRESENT && s.isSet Reg.SC_STATUS.POWER

/-- UNLOCK: a locked card is unlocked with a password; one still locked stays LOCKED and reports CARD_ERROR (R538). -/
def execScUnlock (world : World) (e : SdEnd) (s : State) : Host.Outcome State Fault Refusal :=
  ok (s.sdCmd world 5 (fun s => if !s.cardPowered then (s, some sdNoCard) else s.password 0 (fun s => s.unlockOutcome e)))

/-- SET_PWD: the card's password is set (R538). -/
def execSetPwd (world : World) (e : SdEnd) (s : State) : Host.Outcome State Fault Refusal :=
  ok (s.sdCmd world 6 (fun s => s.withCard (fun s => s.password 1 (fun s => s.sdOutcome false e))))

/-- CLR_PWD: the card's password is cleared (R538). -/
def execClrPwd (world : World) (e : SdEnd) (s : State) : Host.Outcome State Fault Refusal :=
  ok (s.sdCmd world 7 (fun s => s.withCard (fun s => s.password 2 (fun s => s.sdOutcome false e))))

/-- FORCE_ERASE: given a presence press, which it consumes, the card's data and password are erased; else PRESENCE (R538). -/
def execForceErase (world : World) (e : SdEnd) (s : State) : Host.Outcome State Fault Refusal :=
  ok (s.sdCmd world 8 (fun s =>
    if !s.cardPowered then (s, some sdNoCard)
    else if s.pressNow.isNone then (s, some sdPresence)
    else (s.usePress.emit .serviceCard 42 [8, 0]).unlockOutcome e))

/-- SLEEP: the card is deselected and its clock stopped (R539). -/
def execSleep (world : World) (s : State) : Host.Outcome State Fault Refusal :=
  ok (s.sdCmd world 9 (fun s => s.withCard (fun s => (s.wr Reg.SC_STATUS.STATE scSleep, some sdOk))))

/-- EJECT of R540: the card is deselected, its clock stopped and its power lowered. -/
def State.eject (s : State) : State × Option Nat :=
  if !s.cardPowered then (s, some sdOk) else if s.scState = scLocked then (s, some sdLocked) else (s.cardOff scOff, some sdOk)

/-- EJECT: the card is deselected and powered off (R540). -/
def execEject (world : World) (s : State) : Host.Outcome State Fault Refusal := ok (s.sdCmd world 10 State.eject)

/-- A block's CRC-32C stands in its last four bytes (Table 17-3). -/
def blockCrcOk (b : List Byte) : Bool := ofBe (slice b 508 4) == crc32c (padTo 508 b)

/-- A header is valid (R544); BLOCKS of it. -/
def BundleSeen.headerOk (b : BundleSeen) : Bool := ofBe (slice b.header 0 4) == 0x4C475342 && blockCrcOk b.header
def BundleSeen.blocks (b : BundleSeen) : Nat := ofBe (slice b.header 24 4)

/-- A commit block is valid (R543, R544). -/
def BundleSeen.commitOk (b : BundleSeen) : Bool :=
  ofBe (slice b.commit 0 4) == 0x4C475343 && blockCrcOk b.commit && ofBe (slice b.commit 4 4) == b.blocks && ofBe (slice b.commit 8 32) == b.hash && decide (b.blocks ≤ 2 ^ 24)

/-- Walk the chain (R544): the committed bundles in order, whether it ends in a TORN one, and the block where the next bundle starts. -/
def walkChain : List BundleSeen → Nat → List (Nat × BundleSeen) × Bool × Nat
  | [], at' => ([], false, at')
  | b :: rest, at' =>
    if !b.headerOk then ([], false, at')
    else if !b.commitOk then ([], true, at')
    else
      let r := walkChain rest (ceilDiv (at' + b.blocks) 2048 * 2048)
      ((at', b) :: r.1, r.2.1, r.2.2)

/-- WALK: the bundle chain is classified (R544). -/
def execWalk (world : World) (seen : List BundleSeen) (e : SdEnd) (s : State) : Host.Outcome State Fault Refusal :=
  ok (s.sdCmd world 11 (fun s => s.withCard (fun s =>
    match e with
    | .ok n =>
      let r := walkChain seen 2048
      ((s.wr Reg.SC_STATUS.BUNDLES (min 65535 r.1.length)).flag Reg.SC_STATUS.TORN_SEEN r.2.1).sdOutcome true (.ok n)
    | _ => s.sdOutcome true e)))

/-- AUTO_SLEEP: IDLE_MS passes without a command, and the card sleeps (R539). -/
def execAutoSleep (s : State) : Host.Outcome State Fault Refusal :=
  if !s.panelServes ∨ !s.isSet Reg.SC_CTRL.AUTO_SLEEP ∨ s.scState ≠ scReady then ok s
  else ok ((s.advanceTo (s.sd.last + max 1 (s.rd Reg.SC_CTRL.IDLE_MS) * msec)).wr Reg.SC_STATUS.STATE scSleep)

/-- The longest busy period of an operation (R537). -/
def State.busyLimit (s : State) (op : Nat) : Nat :=
  500 * msec + (if op = 4 ∨ op = 8 then max 10 (s.rd Reg.SC_TMO.ERASE_S) else max 1 (s.rd Reg.SC_TMO.POLL_S)) * second

/-- SC_BUSY_TIMEOUT: a write's or CMD42's busy period passes its limit (R537): TIMEOUT, SC_TIMEOUT, and the card is powered off. -/
def execScBusyTimeout (s : State) : Host.Outcome State Fault Refusal :=
  match s.sd.running with
  | none => ok s
  | some op =>
    if op = 2 ∨ op = 11 then ok s
    else ok ((((s.advanceTo (s.sd.last + s.busyLimit op)).raise srcScTimeout).cardOff scOff).sdEnd sdTimeout)

/-- The outcome of the operation that a removal interrupts (R541). -/
def State.removalOutcome (s : State) (op : Nat) (stage : SdStage) : State :=
  if op = 2 ∨ op = 11 ∨ stage = .nothing then s.sdEnd sdRemoved
  else if (op = 3 ∨ op = 4) ∧ stage = .done then s.sdEnd sdOk
  else ((s.bump Reg.SC_EVENTS.TORN).raise srcScTorn).sdEnd sdTorn

/-- CARD_REMOVAL: the first edge toward removal (R541): clock, lines and power go within 200 µs, and a running operation ends. -/
def execCardRemoval (stage : SdStage) (s : State) : Host.Outcome State Fault Refusal :=
  if !s.panelServes then ok s
  else
    let s := ((s.bump Reg.SC_EVENTS.REMOVED).cardOff scEmpty).flag Reg.SC_STATUS.PRESENT false
    match s.sd.running with
    | some op => ok (s.removalOutcome op stage)
    | none => ok s

/-- CARD_INSERTION: SC_CD_N has read inserted for 100 ms (R542): SC_CD, and INIT where SC_CTRL.EN is set. -/
def execCardInsertion (f : SdFacts) (s : State) : Host.Outcome State Fault Refusal :=
  if !s.panelServes ∨ s.isSet Reg.SC_STATUS.PRESENT then ok s
  else
    let s := (((s.advance (100 * msec)).flag Reg.SC_STATUS.PRESENT true).wr Reg.SC_STATUS.STATE scOff).interrupt 223
    if s.isSet Reg.SC_CTRL.EN then let (s, e) := s.initSlot f; ok (s.sdEnd e) else ok s

/-- SC_PWR_FAULT: a card supply over-current lowers SC_PWR_EN (R540); a running operation ends CARD_ERROR. -/
def execScPwrFault (s : State) : Host.Outcome State Fault Refusal :=
  if !s.isSet Reg.SC_STATUS.POWER then ok s
  else
    let s := (s.raise srcScPwrFault).cardOff scFault
    if s.sd.running.isSome then ok (s.sdEnd sdCardError) else ok s

end Sys2Proof.Machine
end

