-- ==== Sys2Proof/Machine/Panel.lean ====
section
/-!
DEFINITION. The panel's buttons and LEDs (R528 to R532).
-/

namespace Sys2Proof.Machine


/-- DEB_MS, LONG_S and STUCK_S as they act, in nanoseconds. -/
def State.debounce (s : State) : Nat := max 5 (min 100 (s.rd Reg.PNL_CFG.DEB_MS)) * msec
def State.longPress (s : State) : Nat := max 2 (s.rd Reg.PNL_CFG.LONG_S) * second
def State.stuckLimit (s : State) : Nat := max 5 (min 60 (s.rd Reg.PNL_CFG.STUCK_S)) * second

/-- A press is recognised after DEB_MS of low samples: it takes the time of the first (R528). A presence press is stamped, counted, recorded and
raises PNL_PRESENCE (R529). -/
def State.recognise (s : State) (service : Bool) : State :=
  let first := s.now
  let time := s.time64
  let s := s.advance s.debounce
  if service then
    ((s.flag Reg.PNL_BTN.SERV_LIVE true).addTo Reg.PNL_BTN.SERV_CNT 1).updPanel (fun p => { p with servAt := some first })
  else
    let s := ((s.flag Reg.PNL_BTN.PRES_LIVE true).addTo Reg.PNL_BTN.PRES_CNT 1).wr Reg.PNL_PRES_TIME.TIME time
    ((s.updPanel (fun p => { p with presAt := some first })).trailRec 0x0301 masterPanel true (leBytes 8 time)).interrupt 220

/-- The button is held, or blocked by R531. -/
def State.pressed (s : State) (service : Bool) : Option Nat := if service then s.panel.servAt else s.panel.presAt
def State.blocked (s : State) (service : Bool) : Bool := if service then s.panel.servBlocked else s.panel.presBlocked

/-- PRESENCE_PRESS: a debounced press of PRESENCE_N (R528, R529). -/
def execPresencePress (s : State) : Host.Outcome State Fault Refusal :=
  if !s.panelServes ∨ s.panel.presAt.isSome ∨ s.panel.presBlocked then ok s else ok (s.recognise false)

/-- A button is released: high for DEB_MS (R528). -/
def State.releaseButton (s : State) (service : Bool) : State :=
  let s := s.advance s.debounce
  let s := if service then (s.flag Reg.PNL_BTN.SERV_LIVE false).updPanel (fun p => { p with servAt := none, servBlocked := false })
    else (s.flag Reg.PNL_BTN.PRES_LIVE false).updPanel (fun p => { p with presAt := none, presBlocked := false })
  if s.panel.presBlocked || s.panel.servBlocked then s else s.fall srcPnlStuck

/-- SERVICE_PRESS: a press of SERVICE_N that is released within LONG_S raises PNL_SERVICE (R530); `held` is its time low in milliseconds. -/
def execServicePress (held : Nat) (s : State) : Host.Outcome State Fault Refusal :=
  if !s.panelServes ∨ s.panel.servAt.isSome ∨ s.panel.servBlocked ∨ s.longPress ≤ held * msec then ok s
  else
    let s := s.recognise true
    ok (((s.advanceTo (s.panel.servAt.getD 0 + held * msec)).releaseButton true).interrupt 221)

/-- BUTTON_RELEASE: a debounced release (R528); a presence press that ended within STUCK_S counts (R529). `held` is its time low in
milliseconds. -/
def execButtonRelease (service : Bool) (held : Nat) (s : State) : Host.Outcome State Fault Refusal :=
  if !s.panelServes then ok s
  else match s.pressed service with
    | none => ok s
    | some t =>
      let counts := !service && !s.panel.presBlocked && decide (held * msec ≤ s.stuckLimit)
      let s := (s.advanceTo (t + held * msec)).releaseButton service
      ok (if counts then s.updPanel (fun p => { p with presses := t :: p.presses }) else s)

/-- LONG_PRESS: SERVICE_N has been held for LONG_S, and EJECT starts (R530); it completes an operation under way first (R540). -/
def execLongPress (s : State) : Host.Outcome State Fault Refusal :=
  if !s.panelServes ∨ s.panel.servBlocked ∨ s.panel.servAt.isSome then ok s
  else
    let s := s.recognise true
    let s := s.advanceTo (s.panel.servAt.getD 0 + s.longPress)
    let s := if s.sd.running.isSome then (s.sdEnd sdOk).wr Reg.SC_STATUS.STATE scReady else s
    match s.eject with
    | (s, some e) => ok (s.sdEnd e)
    | (s, none) => ok s

/-- PNL_STUCK: an input has been low for STUCK_S (R531). -/
def execPnlStuck (service : Bool) (s : State) : Host.Outcome State Fault Refusal :=
  if !s.panelServes ∨ s.blocked service then ok s
  else
    let s := if (s.pressed service).isSome then s else s.recognise service
    let s := s.advanceTo ((s.pressed service).getD 0 + s.stuckLimit)
    let s := s.flag (if service then Reg.PNL_BTN.SERV_STUCK else Reg.PNL_BTN.PRES_STUCK) true
    ok ((s.updPanel (fun p => if service then { p with servBlocked := true } else { p with presBlocked := true })).raise srcPnlStuck (b2n service))

/-- PNL_LED_n.HW: a pattern of Table 17-1 owns the LED (R532). -/
def State.ledOwned (s : State) (n : Nat) : Bool :=
  s.chip.bootFailed || (n == 3 && s.safe) || (n == 2 && s.isSet Reg.SC_STATUS.POWER)

end Sys2Proof.Machine
end

