-- ==== Sys2Proof/Machine/Trail.lean ====
section
/-!
DEFINITION. The Trail arbiter (chapter 19): the order it accepts records in (R579, R580, R582), the rings (R585), subscriptions (R587), the flash
journal of critical records (R585), firmware's records (R588), and attestation reports, which name the Trail record of their own (R225).
-/

namespace Sys2Proof.Machine


/-- Slots of the DRAM ring and of the on-die ring (R585). -/
def dramRingSlots : Nat := 1048576
def dieRingSlots : Nat := 8192

/-- The DRAM ring is in use: in SEAL, with either copy of channel 0's metadata region reachable (R142, R585). -/
def State.dramRing (s : State) : Bool := s.svc == .seal && (s.chanHealthy 0 || s.chanHealthy 1)

/-- The 64 bytes of a record (Table 19-1). -/
def TrailRec.bytes (r : TrailRec) : List Byte :=
  let flags := b2n r.critical + 2 * r.world + 4 * r.level + 8 * b2n r.conseq + 16 * b2n r.injected + 32 * b2n r.gap + 64 * b2n r.held
  let b := leBytes 8 r.seq ++ leBytes 8 r.time ++ leBytes 2 r.typ ++ leBytes 1 r.origin ++ leBytes 1 flags
    ++ leBytes 2 (match r.source with | some n => n + 32768 | none => 0) ++ leBytes 2 r.count ++ padTo 36 r.body
  b ++ leBytes 4 (crc32c b)

/-- The size in records of a subscription's ring (R587). -/
def State.subSize (s : State) (n : Nat) : Nat := 2 ^ (min 10 (s.rd (Reg.TRL_SUB_CFG.SIZE_LOG2.nth n)) + 6)

/-- A subscription copies a record: enabled, its group's bit set, critical where CRIT_ONLY is (R587). -/
def State.subWants (s : State) (n : Nat) (r : TrailRec) : Bool :=
  s.isSet (Reg.TRL_SUB_CFG.EN.nth n) && decide (r.typ / 256 < 16) && bitOf (s.rd (Reg.TRL_SUB_CFG.GROUPS.nth n)) (r.typ / 256)
  && (r.critical || !s.isSet (Reg.TRL_SUB_CFG.CRIT_ONLY.nth n))

/-- Records copied and not consumed. The pointers count to 65,536, so a ring of that size is full one record short (assumption 27). -/
def State.subFull (s : State) (n : Nat) : Bool :=
  decide (min (s.subSize n) 65535 ≤ (s.rd (Reg.TRL_SUB_PTR.TAIL.nth n) + 65536 - s.rd (Reg.TRL_SUB_PTR.HEAD.nth n)) % 65536)

/-- Copy a record to a subscription (R587): a full ring loses it; a refused copy ends the subscription. -/
def State.subCopy (s : State) (r : TrailRec) (n : Nat) : State :=
  if !s.subWants n r then s
  else
    let x := tgetD s.trail.subs n {}
    let put (x : SubState) (s : State) : State := s.updTrail (fun t => { t with subs := tput t.subs n x })
    if s.subFull n then (put { x with gap := true } s).bump (Reg.TRL_SUB_LOST.LOST.nth n)
    else
      let tail := s.rd (Reg.TRL_SUB_PTR.TAIL.nth n)
      let a := s.rd (Reg.TRL_SUB_BASE.ADDR.nth n) * 64 + 64 * (tail % s.subSize n)
      match s.guard (unitAccess masterTrail .write a 64) with
      | (false, s) =>
        let s := s.flag (Reg.TRL_SUB_CFG.EN.nth n) false
        (s.trailRec 0x0804 masterTrail false (leBytes 2 n ++ leBytes 4 (s.rd (Reg.TRL_SUB_LOST.LOST.nth n)))).raise srcTrlSubFault n
      | (true, s) =>
        let s := (s.writeMem a { r with gap := r.gap || x.gap }.bytes).addTo (Reg.TRL_SUB_PTR.TAIL.nth n) 1
        put { uncounted := x.uncounted + 1, firstAt := if x.uncounted = 0 then s.now else x.firstAt, gap := false } s

/-- What the acceptance of a record shows elsewhere: its SEQ in the source record (Table 14-5) and in the violation log (Table 12-8). -/
def State.showSeq (s : State) (r : TrailRec) : State :=
  if r.typ = 0x0100 then
    match r.source with
    | some n => s.updRec n (fun x => { x with firstSeq := if x.firstSeq = 0 then r.seq else x.firstSeq, lastSeq := r.seq, trailPending := false })
    | none => s
  else if r.typ = 0x0200 then
    let set : List Violation → List Violation := fun vs =>
      match vs.findIdx? (fun v => v.trailSeq == 0 && leBytes 8 v.addr == r.body.take 8 && leBytes 2 v.who == slice r.body 8 2) with
      | some i => vs.modify i (fun v => { v with trailSeq := r.seq })
      | none => vs
    s.updGuards (fun g => { g with violations := set g.violations })
  else s

/-- The SEQ in the bytes of a record. -/
def recSeq (b : List Byte) : Nat := leField b 0 8

/-- Write a record's bytes to its slot of the DRAM ring, in one aligned access to each copy of the metadata region that is reachable: the ring begins
with the region on channel 0 and its mirror on channel 1 (R142, R585; the place is assumption 49). -/
def State.writeSlot (s : State) (slot : Nat) (bs : List Byte) : State :=
  [0, 1].foldl (fun s c => if s.chanHealthy c then s.writeMem (dramBase c + 64 * slot) bs else s) s

/-- Put a record into its slot of the DRAM ring. -/
def State.putDram (s : State) (bs : List Byte) : State :=
  let slot := recSeq bs % dramRingSlots
  (s.writeSlot slot bs).updTrail (fun t => { t with dram := tput t.dram slot (recSeq bs) })

/-- The channel whose copy of the DRAM ring is read, and the records of the ring in use in SEQ order. -/
def State.ringChannel (s : State) : Nat := if s.chanHealthy 0 then 0 else 1
def State.ringRecords (s : State) : List (List Byte) :=
  if s.dramRing then (sortBy (fun kv => kv.2) s.trail.dram).map (fun kv => s.readMem (dramBase s.ringChannel + 64 * kv.1) 64)
  else sortBy recSeq (s.trail.ring.map Prod.snd)

/-- Give a record the next SEQ and write it to the ring in use, the journal's queue and the subscriptions (R579, R585, R587). -/
def State.accept (s : State) (r : TrailRec) : State :=
  let r := { r with seq := s.trail.nextSeq }
  let dram := s.dramRing
  let s := s.updTrail (fun t => { t with
    nextSeq := r.seq + 1, newest := r.seq, onDie := !dram,
    ring := if dram then t.ring else tput t.ring (r.seq % dieRingSlots) r.bytes,
    uncommitted := if r.critical then t.uncommitted ++ [(s.now, r)] else t.uncommitted })
  let s := if dram then s.putDram r.bytes else s
  (List.range 16).foldl (fun s n => s.subCopy r n) (s.showSeq r)

/-- The ports that hold a record, in the order the arbiter looks at them: from the one after the last it served (R579). -/
def Trail.waiting (t : Trail) : List Nat :=
  let ks := tkeys t.ports (fun _ p => !p.heldRecs.isEmpty)
  ks.filter (fun k => decide (t.lastPort < k)) ++ ks.filter (fun k => decide (k ≤ t.lastPort))

/-- The head of a port is critical. -/
def Trail.headCritical (t : Trail) (k : Nat) : Bool :=
  match (tgetD t.ports k {}).heldRecs with | (_, r) :: _ => r.critical | [] => false

/-- The port served next (R579): critical records first, then round robin. -/
def Trail.chosen (t : Trail) : Option Nat :=
  match t.waiting.find? t.headCritical with
  | some k => some k
  | none => t.waiting.head?

/-- The body of a TRAIL_LOST record (Table 19-2). -/
def lostBody (port n : Nat) : List Byte := leBytes 2 port ++ leBytes 4 n

/-- Serve a port: its oldest record is accepted, HELD where it waited longer than 100 µs; a count of dropped records goes into a TRAIL_LOST record
(R580). -/
def State.servePort (s : State) (k : Nat) : State :=
  let p := tgetD s.trail.ports k {}
  match p.heldRecs with
  | [] => s
  | (t, r) :: rest =>
    let late := decide (t + 100 * usec < s.now)
    let s := s.updTrail (fun x => { x with lastPort := k, ports := tput x.ports k { heldRecs := rest, lost := 0 } })
    let s := s.accept { r with held := late }
    if p.lost = 0 then s else s.post k (s.record 0x0803 (k % 128) false (lostBody k p.lost))

/-- The plain record of the arbiter's own. -/
def State.ownRecord (s : State) (typ : Nat) (critical : Bool) (body : List Byte) : TrailRec := s.record typ masterTrail critical body

/-- Accept one record: a TRAIL_MARK where the next SEQ is a multiple of 2^32 (R582), else one that waits. -/
def State.acceptOne (s : State) : State :=
  if s.trail.nextSeq % 2 ^ 32 = 0 then s.accept (s.ownRecord 0x0802 true [])
  else match s.trail.chosen with | some k => s.servePort k | none => s

/-- TRAIL_RECORD_ACCEPT: in one cycle the arbiter accepts at most one record (R579). -/
def execTrailRecordAccept (s : State) : Host.Outcome State Fault Refusal :=
  if !s.trail.running ∨ s.trail.chosen.isNone then ok s else ok s.acceptOne

/-- Let the arbiter run until a port holds nothing, at most `fuel` cycles. -/
def State.acceptUntil (s : State) (k : Nat) : Nat → State
  | 0 => s
  | fuel + 1 => if (tgetD s.trail.ports k {}).heldRecs.isEmpty ∨ !s.trail.running then s else State.acceptUntil s.acceptOne k fuel

/-- Post a record and let the arbiter run until it is accepted; its SEQ is the newest. -/
def State.recordNow (s : State) (typ origin : Nat) (critical : Bool) (body : List Byte) : Nat × State :=
  let s := s.trailRec typ origin critical body
  let s := s.acceptUntil origin (2 + (s.trail.ports.map (fun p => 2 * p.2.heldRecs.length)).sum)
  (s.trail.newest, s)

/-- Copy the on-die ring to the DRAM ring in SEQ order (R585). -/
def State.trailToDram (s : State) : State :=
  (sortBy recSeq (s.trail.ring.map Prod.snd)).foldl (fun s b => s.putDram b) s

/-- The arbiter's first SEQ of a start (R582), from the newest journalled record. -/
def firstSeqAfter (journal : List (List Byte)) : Nat :=
  match journal.getLast? with | some b => (recSeq b / 2 ^ 32 + 2) * 2 ^ 32 | none => 0

/-- TRL_OLDEST: the oldest record of the ring in use. -/
def State.trailOldest (s : State) : Nat :=
  match (if s.dramRing then s.trail.dram.map Prod.snd else s.trail.ring.map (fun kv => recSeq kv.2)) with | [] => s.trail.newest | x :: xs => xs.foldl min x

/-- SUB_INTERRUPT: 10 µs after the first copy not yet counted, a subscription's interrupt is raised (R587). -/
def execSubInterrupt (sub : Nat) (s : State) : Host.Outcome State Fault Refusal :=
  match tget s.trail.subs sub with
  | none => ok s
  | some x =>
    if x.uncounted = 0 ∨ 16 ≤ sub then ok s
    else ok (((s.advanceTo (x.firstAt + 10 * usec)).updTrail (fun t => { t with subs := tput t.subs sub { x with uncounted := 0 } })).interrupt (240 + sub))

/-- Records that TRAILJ keeps (R585). -/
def journalRecords : Nat := 65536

/-- TRAIL_JOURNAL_COMMIT: the oldest accepted critical record is committed to TRAILJ within 5 ms (R585); one that cannot be is counted, written up
as lost from port 0xFF, and raises TRL_FLASH_LAG. -/
def execTrailJournalCommit (stored : Bool) (s : State) : Host.Outcome State Fault Refusal :=
  match s.trail.uncommitted with
  | [] => ok s
  | (t, r) :: rest =>
    let s := s.updTrail (fun x => { x with uncommitted := rest })
    if stored then ok (s.updTrail (fun x => { x with journal := (x.journal ++ [r.bytes]).drop (x.journal.length + 1 - journalRecords) }))
    else ok ((((s.advanceTo (t + 5 * msec)).bump Reg.TRL_EVENTS.JLOST).trailRec 0x0803 masterTrail false (lostBody 0xFF 1)).raise srcTrlFlashLag)

/-- The port of a world's firmware records, beside those of the masters (R588). -/
def worldPort (w : World) : Nat := 128 + 128 * w.num

/-- TRL_WR: TRL_WR_CMD.GO submits a firmware record to the world's port: group 0x09 from Keeper firmware, which may set CRITICAL, and 0x0A from
Tack firmware (R588). -/
def execTrlWr (pair : Nat) (world : World) (user : Bool) (event : Nat) (critical : Bool) (s : State) : Host.Outcome State Fault Refusal :=
  let s := (s.wr (Reg.TRL_WR_CMD.EVENT.inWorld world) event).flag (Reg.TRL_WR_CMD.CRITICAL.inWorld world) critical
  let body := (List.range 9).flatMap (fun w => leBytes 4 (s.rd ((Reg.TRL_WR.DATA.nth w).inWorld world)))
  let group := if world = .keeper then 0x09 else 0x0A
  let r := s.record (group * 256 + event % 256) (pair % 16) (critical && world == .keeper) body
  ok (s.post (worldPort world) { r with world := world.num, level := b2n (!user) })

/-- The numbers of quarantined units as a bit map. -/
def bitMap (ns : List Nat) (p : Nat → Bool) : Nat := ns.foldl (fun acc n => if p n then acc + 2 ^ n else acc) 0

/-- The attestation report (Table 6-9). -/
def State.attestReport (s : State) (nonce : List Byte) (seq : Nat) : List Byte :=
  let flags := b2n s.keyed + 2 * b2n s.keys.enrolled + 4 * b2n s.chip.debugLock + 8 * b2n (s.isSet Reg.KNL_STATUS.LATCHED) + 16 * b2n s.inSeal
  let n := s.rd Reg.PCK_EPOCH_NUM.EPOCH
  let root := match tget s.pack.epochs n with
    | some e => e.root
    | none => match s.pack.logHeaders.find? (fun h => beAt h 16 8 == n) with | some h => shakeDom 0x02 h | none => 0
  let owner := if s.keys.enrolled then s.keys.ownerRows.getLastD 0 else 0
  beBytes 4 0x4C474154 ++ beBytes 1 1 ++ beBytes 1 5 ++ beBytes 2 flags ++ beBytes 8 Config.deviceInstance.toNat ++ identityKeyId ++ padTo 32 nonce
  ++ beBytes 8 s.time64 ++ beBytes 8 seq ++ beBytes 4 Config.romId.toNat ++ beBytes 4 s.chip.image.version ++ beBytes 32 s.chip.image.hash
  ++ beBytes 32 Config.tackHash.toNat ++ beBytes 16 owner ++ beBytes 8 n ++ beBytes 32 root
  ++ beBytes 2 (bitMap stitchUnits (fun u => s.stu u == stQuarantined)) ++ beBytes 2 (bitMap awlUnits (fun u => s.awlState u == stQuarantined))
  ++ beBytes 2 (bitMap (List.range 16) (fun p => s.rd (Reg.CORE_STATE.PSTATE.nth p) == 2)) ++ beBytes 2 0
  ++ leBytes 16 (bitMap spongeCores (fun j => s.spg j == .quarantined)) ++ beBytes 8 0

/-- A report may be signed: two sponge cores pass (R227) and both halves of the identity key are loaded. -/
def State.canAttest (s : State) : Bool :=
  decide (2 ≤ (spongeCores.filter s.spgHealthy).length) && (s.slot 1).isSome && (s.slot 2).isSome && !s.pack.stopped

/-- Wait for a place within 20 reports in a second (R226). -/
def State.attestTurn (s : State) : State :=
  let recent := s.pack.attestTimes.filter (fun t => decide (s.now < t + second))
  let s := if 20 ≤ recent.length then s.advanceTo (recent.getD 19 0 + second) else s
  s.updPack (fun p => { p with attestTimes := s.now :: recent.take 19 })

/-- The groups of a report's signature from the cores that have not failed it (R217, R225): in HEEL one core each (R227). -/
def State.attestGroup (s : State) (spent : List Nat) : List Nat × List Nat :=
  let pool := (if s.inSeal then s.signingPool else spongeCores.filter s.spgHealthy).filter (fun j => !spent.contains j)
  let (g, v) := if s.inSeal then (s.gCores pool.length, s.vCores pool.length) else (1, 1)
  (pool.take g, (pool.drop g).take v)

/-- A signature whose verification fails is discarded and made again on cores that have not failed (R219): the cores of the attempts so far, and the
signature that stands, or with too few cores none. -/
def State.attestFails (s : State) (spent : List Nat) : Nat → State × Bool
  | 0 =>
    let (g, v) := s.attestGroup spent
    (s.updPack (fun p => { p with attestGroups := (g, v) }), !g.isEmpty && !v.isEmpty)
  | n + 1 =>
    let (g, v) := s.attestGroup spent
    if g.isEmpty || v.isEmpty then (s, false)
    else State.attestFails ((s.bump Reg.PCK_EVENTS.VERIFY_FAIL).raise srcPckVerifyFail) (spent ++ g ++ v) n

/-- Sign an attestation report (R225 to R227), `fails` of whose signatures fail verification: the report and its signature, none where it is refused
or the Pack stops. Its Trail record is of TYPE 0x0509, a type of the model's own (assumption 12). -/
def State.attest (s : State) (nonce : List Byte) (fails : Nat) : Option (List Byte) × State :=
  if !s.canAttest then (none, s)
  else
    let (s, signed) := (s.attestTurn).attestFails [] (min fails 3)
    if 3 ≤ fails ∨ !signed then (none, (s.updPack (fun p => { p with stopped := true })).raise srcPckSignFail)
    else
      let (seq, s) := s.recordNow 0x0509 (masterSponge 0) false (padTo 32 nonce)
      let report := s.attestReport nonce seq
      let (rnd, s) := s.draw 256
      let sig := Config.slhSign 5 (s.slotValue 1) (s.slotValue 2) Config.identityPublic rnd ctxAttest report
      (some (report ++ beBytes 29792 sig), s)

/-- ATTEST_REQUEST: Keeper firmware requests a report directly (R225); the report or the refusal goes back to it. -/
def execAttestRequest (nonce : List Byte) (fails : Nat) (s : State) : Host.Outcome State Fault Refusal :=
  match s.attest nonce fails with
  | (some r, s) => ok (s.emit .reader 0x0000 [] r)
  | (none, s) => ok (s.emit .reader 0x020E [])

end Sys2Proof.Machine
end

