-- ==== Sys2Proof/Machine/Burnisher.lean ====
section
/-!
DEFINITION. Telemetry (R589 to R591) and the Burnisher's activities (R592 to R594).
-/

namespace Sys2Proof.Machine


/-- The median of readings: the mean of the two in the middle of an even number (R590 names no other). -/
def medianOf (xs : List Int) : Int :=
  let ys := xs.foldl (fun acc x => acc.filter (· ≤ x) ++ x :: acc.filter (fun y => x < y)) []
  let n := ys.length
  (ys.getD ((n - 1) / 2) 0 + ys.getD (n / 2) 0) / 2

/-- A sensor's reading with its calibration offset. -/
def Telemetry.reading (t : Telemetry) (temps : List Int) (i : Nat) : Int := temps.getD i 0 + tgetD t.offsets i 0

/-- The readings of a quadrant of 16 (R589). -/
def Telemetry.quadrant (t : Telemetry) (temps : List Int) (q : Nat) : List Int := (rangeFrom (16 * q) 16).map (t.reading temps)

/-- A reading is valid: from −60 °C to +150 °C and within 15 °C of its quadrant's median (R590). -/
def Telemetry.valid (t : Telemetry) (temps : List Int) (i : Nat) : Bool :=
  let x := t.reading temps i
  decide (-60000 ≤ x ∧ x ≤ 150000) && decide ((x - medianOf (t.quadrant temps (i / 16))).natAbs ≤ 15000)

/-- A sensor after a sample (R590): an invalid reading excludes it, once with TEL_SENSOR_FAIL; 100 valid samples in a row bring it back. -/
def State.sensorSample (s : State) (temps : List Int) (i : Nat) : State :=
  match s.telemetry.valid temps i, tget s.telemetry.excluded i with
  | true, none => s
  | true, some n =>
    if 99 ≤ n then s.updTelemetry (fun t => { t with excluded := tdel t.excluded i })
    else s.updTelemetry (fun t => { t with excluded := tput t.excluded i (n + 1) })
  | false, some _ => s.updTelemetry (fun t => { t with excluded := tput t.excluded i 0 })
  | false, none => (s.updTelemetry (fun t => { t with excluded := tput t.excluded i 0 })).raise srcTelSensorFail i

/-- The greatest of a list. -/
def maxOf : List Int → Option Int
  | [] => none
  | x :: xs => some (xs.foldl max x)

/-- Tj: the hottest valid sensor; a quadrant with none counts as the hottest other quadrant plus 10 °C (R590). -/
def Telemetry.tj (t : Telemetry) : Option Int :=
  let hot (q : Nat) : Option Int := maxOf (((rangeFrom (16 * q) 16).filter (fun i => (tget t.excluded i).isNone)).map (t.reading t.temps))
  let qs := (List.range 4).map hot
  match maxOf (qs.filterMap id) with
  | none => none
  | some m => some (if qs.any Option.isNone then m + 10000 else m)

/-- A watch after a sample (R591), and whether its source is raised. -/
def ThermWatch.sample (w : ThermWatch) (now : Nat) (tj limit : Int) : ThermWatch × Bool :=
  let high := if limit ≤ tj then w.high + 1 else 0
  let cool := if tj ≤ limit - 5000 then some (w.coolSince.getD now) else none
  let cooled : Bool := match cool with | some t => decide (t + second ≤ now) | none => false
  if w.armed then ({ w with high := high, coolSince := cool, armed := !(decide (2 ≤ high)) }, decide (2 ≤ high))
  else ({ high := high, coolSince := cool, armed := cooled }, false)

/-- THERM_WARN and THERM_CRIT after a sample (R591). -/
def State.thermWatch (s : State) (tj : Int) : State :=
  let (w, warns) := s.telemetry.warn.sample s.now tj (1000 * s.dictVal 0x8004 2)
  let (c, crits) := s.telemetry.crit.sample s.now tj 130000
  let s := s.updTelemetry (fun t => { t with warn := w, crit := c })
  let s := if warns then s.raise srcThermWarn else s
  if crits then s.raise srcThermCrit else s

/-- Show Tj and the number of valid sensors in TEL_TJ. -/
def State.showTj (s : State) : State :=
  let s := s.wr Reg.TEL_TJ.VALID (64 - s.telemetry.excluded.length)
  match s.telemetry.tj with
  | none => s
  | some tj => (s.wr Reg.TEL_TJ.TJ ((tj * 16 / 1000) % 65536).toNat).thermWatch tj

/-- TELEMETRY_SAMPLE: every TELEMETRY_MS the sensors, rails and DIMM sensors are sampled, and once a second VBAT and VKEEP (R589). -/
def execTelemetrySample (x : Sample) (s : State) : Host.Outcome State Fault Refusal :=
  if !s.lit then ok s
  else
    let s := s.advanceTo (s.telemetry.last + max 1 (min 100 (s.rd Reg.BRN_CFG.TELEMETRY_MS)) * msec)
    let power := ((x.rails.zip x.amps).map (fun p => p.1 * p.2 / 1000))
    let s := s.updTelemetry (fun t => { t with temps := x.temps, rails := x.rails, power := power.sum, core := power.headD 0, last := s.now, dimms := x.dimms.foldl (fun d p => tput d p.1 p.2) t.dimms })
    let s := (List.range 64).foldl (fun s i => s.sensorSample x.temps i) s
    let s := if s.telemetry.kennelAt + second ≤ s.now then
        ((s.wr Reg.KNL_VBAT.VBAT x.vbat).wr Reg.KNL_VBAT.VKEEP x.vkeep).updTelemetry (fun t => { t with kennelAt := s.now })
      else s
    ok s.showTj

/-- A Burnisher activity of a channel may run: the channel serves and is not retraining (Table 19-4), outside the safe state. -/
def State.channelQuiet (s : State) (c : Nat) : Bool := decide (c < 12) && s.chanHealthy c && !s.chanRetraining c && !s.safe

/-- DRAM_PATROL_SCRUB: the patrol reads a word of a channel in which the bits of `flips` have upset; its checker corrects and writes back, or
acts on the uncorrectable error (R592, R415, R418). -/
def execDramPatrolScrub (channel offset flips : Nat) (s : State) : Host.Outcome State Fault Refusal :=
  if !s.channelQuiet channel ∨ tgetD s.guards.installed channel 0 ≤ offset then ok s
  else
    let a := dramBase channel + offset / 4 * 4
    ok ((s.upset a flips).checkWord a).2

/-- Write REFRESH_HELD once for a block (R594). -/
def State.holdRefresh (s : State) (k : Nat) : State :=
  if k ∈ s.telemetry.refreshHeld then s
  else (s.updTelemetry (fun t => { t with refreshHeld := t.refreshHeld ++ [k] })).trailRec 0x0507 masterBurnisher false (leBytes 4 k)

/-- Move the valid sectors of a block to fresh pages and erase it (R592, R452); `bad` sectors do not decode and stay, with FLS_UE (R441);
`fails` blank checks fail. -/
def State.relocate (s : State) (k : Nat) (bad : List Nat) (fails : Nat) : State :=
  let secs := s.flash.validIn k
  let s := (secs.filter (bad.contains ·)).foldl (fun s x => s.flashUe x) s
  let items := (secs.filter (fun x => !bad.contains x)).map (fun x => (x, s.flash.sector x))
  let s := s.updFlash (fun f => { f with filling := tkeep f.filling (fun _ v => v != k) })
  match s.programAll (s.flash.block k).part items with
  | none => s
  | some s => if (s.flash.validIn k).isEmpty && s.intentLun k then (s.eraseBlock k fails).1 else s

/-- The block is in use on a LUN that serves, and the Burnisher runs beyond its safe-state activities. -/
def State.flashQuiet (s : State) (k : Nat) : Bool :=
  s.lit && !s.safe && s.lunServes (lunOf k) && !(s.flash.block k).free && !(s.flash.block k).retired

/-- A block is due for a refresh: 200,000 reads in SLC or 50,000 in MLC since it was programmed, or a marked sector (R592, R441). -/
def State.refreshDue (s : State) (k : Nat) : Bool :=
  let b := s.flash.block k
  decide ((if b.slc then 200000 else 50000) ≤ b.reads) || (s.flash.validIn k).any (fun x => s.flash.marked.contains x)

/-- READ_DISTURB_REFRESH: a block due for refresh is rewritten elsewhere; a protected block gets a REFRESH_HELD record instead (R592, R594). -/
def execReadDisturbRefresh (block : Nat) (bad : List Nat) (fails : Nat) (s : State) : Host.Outcome State Fault Refusal :=
  if !s.flashQuiet block ∨ !s.refreshDue block then ok s
  else if s.flash.blockProtected block then ok (s.holdRefresh block)
  else ok (s.relocate block bad fails)

/-- FLASH_READ_SCRUB: every valid page of a block is read, SLC each 30 days and MLC each 7 (R592): sectors of many corrections are marked, those
that no retry decodes raise FLS_UE (R441). -/
def execFlashReadScrub (block : Nat) (bad weak : List Nat) (s : State) : Host.Outcome State Fault Refusal :=
  if !s.flashQuiet block then ok s
  else
    let b := s.flash.block block
    let s := s.advanceTo (b.scrubbed + (if b.slc then 30 else 7) * 24 * hour)
    let secs := s.flash.validIn block
    let s := (s.countReads secs).updFlash (fun f => ({ f with marked := f.marked ++ (secs.filter (fun x => weak.contains x && !f.marked.contains x)) }).updBlock block (fun b => { b with scrubbed := s.now }))
    let s := (secs.filter (bad.contains ·)).foldl (fun s x => s.flashUe x) s
    if s.flash.blockProtected block ∧ secs.any (weak.contains ·) then ok (s.holdRefresh block) else ok s

/-- The mean erase count of a partition's blocks. -/
def Flash.meanErases (f : Flash) (p : Nat) : Nat :=
  let bs := f.blocks.filter (fun kv => !kv.2.free && !kv.2.retired && kv.2.part == p)
  (bs.map (fun kv => kv.2.erases)).sum / max 1 bs.length

/-- WEAR_LEVELLING: a block whose erase count is more than 500 above its partition's mean is moved (R592). -/
def execWearLevelling (block : Nat) (bad : List Nat) (fails : Nat) (s : State) : Host.Outcome State Fault Refusal :=
  if !s.flashQuiet block ∨ s.flash.blockProtected block then ok s
  else if s.flash.meanErases (s.flash.block block).part + 500 < (s.flash.block block).erases then ok (s.relocate block bad fails)
  else ok s

/-- DDR_PERIODIC_CALIBRATION: each channel is calibrated every second for 1 µs (R592); nothing but its timing changes. -/
def execDdrPeriodicCalibration (channel : Nat) (s : State) : Host.Outcome State Fault Refusal :=
  if s.channelQuiet channel then ok (s.advance usec) else ok s

/-- The two DIMM places of a channel, by channel × 2 + DIMM. -/
def dimmsOf (c : Nat) : List Nat := [2 * c, 2 * c + 1]

/-- A DIMM's temperature lies RETRAIN_STEP_C or more from its value at the last training (R592). -/
def State.retrainDue (s : State) (c : Nat) : Bool :=
  let step := max 5 (min 30 (s.rd Reg.BRN_CFG.RETRAIN_STEP_C))
  (dimmsOf c).any (fun d => match tget s.telemetry.dimms d, tget s.telemetry.trained d with
    | some x, some t => decide (1000 * step ≤ (x - t).natAbs)
    | _, _ => false)

/-- DDR_RETRAINING: a channel's DIMM temperature has moved by RETRAIN_STEP_C, and it is retrained, only while every other channel is healthy and
none retrains (R39, R148, R592); RETRAIN_END ends it. -/
def execDdrRetraining (channel : Nat) (s : State) : Host.Outcome State Fault Refusal :=
  if !s.channelQuiet channel ∨ !s.retrainDue channel ∨ s.retrainingChannel.isSome ∨ !channels.all s.chanHealthy then ok s
  else
    let (v, s) := s.draw 64
    let s := s.updTelemetry (fun t => { t with trained := (dimmsOf channel).foldl (fun m d => match tget t.dimms d with | some x => tput m d x | none => m) t.trained })
    let s := match s.chan channel with | some ch => s.setChan channel { ch with calibration := v } | none => s
    ok (s.setBit Reg.STG_CHSTATE.RETRAIN channel true)

/-- SENSOR_CALIBRATION: a sensor is compared with its quadrant's references (R592): an offset of at most 4 °C is corrected, a larger one excludes
the sensor under R590. `off` is reference less sensor in m°C. -/
def execSensorCalibration (sensor : Nat) (off : Int) (s : State) : Host.Outcome State Fault Refusal :=
  if 64 ≤ sensor ∨ !s.lit then ok s
  else if off.natAbs ≤ 4000 then ok (s.updTelemetry (fun t => { t with offsets := if off = 0 then tdel t.offsets sensor else tput t.offsets sensor off }))
  else if (tget s.telemetry.excluded sensor).isSome then ok s
  else ok ((s.updTelemetry (fun t => { t with excluded := tput t.excluded sensor 0 })).raise srcTelSensorFail sensor)

/-- KENNEL_OSCILLATOR_TRIM: every 10 min the crystal is counted against REFCLK, and KNL_TRIM takes the mean of the last six counts; a count that
loses REFCLK is discarded (R592, Table 19-4). `ppm10` is the count's correction in 0.1 ppm. -/
def execKennelOscillatorTrim (ppm10 : Int) (refLost : Bool) (s : State) : Host.Outcome State Fault Refusal :=
  if !s.mainPower ∨ s.kennel.dead ∨ !s.mainOn ∨ refLost then ok s
  else
    let counts := (ppm10 :: s.telemetry.trims).take 6
    let mean : Int := counts.sum / (counts.length : Int)
    ok ((s.updTelemetry (fun t => { t with trims := counts })).wr Reg.KNL_TRIM.PPM10 ((max (-2000) (min 2000 mean)) % 65536).toNat)

/-- BRN_OVERRUN: an activity has not completed its period within twice that period (R594). -/
def execBrnOverrun (activity : Nat) (s : State) : Host.Outcome State Fault Refusal :=
  if activity = 0 ∨ 12 < activity ∨ !s.lit then ok s
  else ok ((s.setBit Reg.BRN_STATUS.LATE (activity - 1) true).raise srcBrnOverrun activity)

end Sys2Proof.Machine
end

