-- ==== Sys2Proof/Machine/Awl.lean ====
section
/-!
DEFINITION. The Awl dispatcher (chapter 09): the descriptor ring, the checks before a start, the choice of units, completion and delivery,
verification by a second unit, abort, mismatches and self-test.
-/

namespace Sys2Proof.Machine

/-- The dispatcher's master ID (Table 12-4). -/
def masterDispatcher : Nat := 44

/-- STATUS codes of Table 9-6. -/
def awDone : Nat := 0
def awInvalid : Nat := 1
def awAborted : Nat := 2
def awBadDescriptor : Nat := 3
def awKey : Nat := 4
def awBusError : Nat := 5
def awSignFail : Nat := 6
def awNoUnit : Nat := 7

/-- Descriptors in the ring, and a descriptor's address. -/
def State.awlRing (s : State) : Nat := 2 ^ max 4 (min 12 s.awl.sizeLog)
def State.descAddr (s : State) (i : Nat) : Nat := s.awl.base + 64 * i

/-- Read a descriptor's fields (Table 9-1). -/
def parseDesc (b : List Byte) : AwlDesc :=
  { opcode := leField b 0 1, param := leField b 1 1, flags := leField b 2 2, nwords := leField b 4 2, dstUse := leField b 6 1,
    srcSlot := leField b 8 2, dstSlot := leField b 10 2, inLen := leField b 12 4, inAddr := leField b 16 8 % 2 ^ 48, outAddr := leField b 24 8 % 2 ^ 48,
    outLen := leField b 32 4,
    dirty := leField b 2 2 / 4 != 0 || leField b 6 1 / 32 != 0 || leField b 7 1 != 0 || leField b 22 2 != 0 || leField b 30 2 != 0 || leField b 36 4 != 0 }

/-- The PARAM codes of an opcode (Table 9-3); none for an opcode that is not assigned. -/
def awlParams (op : Nat) : List Nat :=
  if 1 ≤ op ∧ op ≤ 7 then [0]
  else if op = 0x10 ∨ op = 0x11 ∨ op = 0x12 then [7, 8]
  else if 0x20 ≤ op ∧ op ≤ 0x23 then [1, 2]
  else if 0x24 ≤ op ∧ op ≤ 0x26 then [3]
  else if 0x30 ≤ op ∧ op ≤ 0x32 then [4]
  else if 0x38 ≤ op ∧ op ≤ 0x3A then [5, 6]
  else []

/-- Bytes of an ML-DSA public key and signature, of a curve's coordinate and point. -/
def dsaPk (param : Nat) : Nat := if param = 5 then 1952 else 2592
def dsaSig (param : Nat) : Nat := if param = 5 then 3309 else 4627
def coord (param : Nat) : Nat := (curveOf param).size
def pointLen (param : Nat) : Nat := 2 * coord param + 1

/-- The most bytes of a message. -/
def awlMessage : Nat := 1048576

/-- The length of an ML-DSA input agrees with the context length it holds. -/
def dsaLenOk (param tail : Nat) (input : List Byte) (len : Nat) : Bool :=
  let head := dsaPk param + 1 + leField input (dsaPk param) 1
  decide (dsaPk param + 1 ≤ len ∧ head + tail ≤ len ∧ len ≤ head + tail + awlMessage)

/-- NWORDS and IN_LEN are those of the command (Table 9-3, R326). -/
def awlLengthOk (d : AwlDesc) (input : List Byte) : Bool :=
  let n := d.nwords
  let fixed (k : Nat) : Bool := n == 0 && d.inLen == k
  if 1 ≤ d.opcode ∧ d.opcode ≤ 7 then
    decide (1 ≤ n ∧ n ≤ 256) && d.inLen == 8 * n * (if d.opcode = 5 ∨ d.opcode = 7 then 2 else 3)
  else if d.opcode = 0x10 ∨ d.opcode = 0x11 then fixed 1024
  else if d.opcode = 0x12 then fixed 3072
  else if d.opcode = 0x20 then fixed (pointLen d.param + coord d.param)
  else if d.opcode = 0x22 then fixed (coord d.param + pointLen d.param)
  else if d.opcode = 0x23 then fixed (pointLen d.param + 3 * coord d.param)
  else if d.opcode = 0x24 then n == 0 && decide (96 ≤ d.inLen ∧ d.inLen ≤ 96 + awlMessage)
  else if d.opcode = 0x26 then fixed 32
  else if d.opcode = 0x31 ∨ d.opcode = 0x32 then fixed 1568
  else if d.opcode = 0x39 then n == 0 && dsaLenOk d.param 0 input d.inLen
  else if d.opcode = 0x3A then n == 0 && dsaLenOk d.param (dsaSig d.param) input d.inLen
  else fixed 0

/-- Bytes of output (Table 9-3). -/
def awlOutput (d : AwlDesc) : Nat :=
  if d.opcode = 7 then 16 * d.nwords
  else if 1 ≤ d.opcode ∧ d.opcode ≤ 6 then 8 * d.nwords
  else if 0x10 ≤ d.opcode ∧ d.opcode ≤ 0x12 then 1024
  else if d.opcode = 0x20 ∨ d.opcode = 0x21 then pointLen d.param
  else if d.opcode = 0x22 then 2 * coord d.param
  else if d.opcode = 0x25 then 32
  else if d.opcode = 0x30 ∨ d.opcode = 0x31 then 1568
  else if d.opcode = 0x38 then dsaPk d.param
  else if d.opcode = 0x39 then dsaSig d.param
  else 0

/-- The KIND of the source slot and of the destination slot (Table 9-3). -/
def awlSrcKind (op : Nat) : Option Nat :=
  if op = 0x21 ∨ op = 0x22 ∨ op = 0x38 ∨ op = 0x39 then some 5 else if op = 0x26 then some 6 else if op = 0x32 then some 8 else none
def awlDstKind (op : Nat) : Option Nat :=
  if op = 0x25 then some 6 else if op = 0x26 ∨ op = 0x30 ∨ op = 0x31 ∨ op = 0x32 then some 8 else none

/-- The source slot of a command may be read (R334, R329). -/
def State.awlKeyCheck (s : State) (d : AwlDesc) : Option Nat :=
  match awlSrcKind d.opcode with
  | none => none
  | some k => match s.slot d.srcSlot with
    | none => some 0x20
    | some x => if !bitOf x.attr 10 then some 0x21 else if attrKind x.attr ≠ k then some 0x22 else none

/-- The dispatcher's checks (R334): STATUS and REASON of the first that fails. -/
def State.awlRejects (s : State) (d : AwlDesc) (input : List Byte) : Option (Nat × Nat) :=
  if (awlParams d.opcode).isEmpty then some (awBadDescriptor, 0x10)
  else if !(awlParams d.opcode).contains d.param then some (awBadDescriptor, 0x11)
  else if !awlLengthOk d input then some (awBadDescriptor, 0x12)
  else if d.outLen < awlOutput d then some (awBadDescriptor, 0x13)
  else if d.dirty ∨ ((awlSrcKind d.opcode).isNone ∧ d.srcSlot ≠ 0) ∨ ((awlDstKind d.opcode).isNone ∧ d.dstSlot ≠ 0) then some (awBadDescriptor, 0x14)
  else (s.awlKeyCheck d).map (fun r => (awKey, r))

/-- A result without output. -/
def bareResult (status reason : Nat) : AwlResult := { status := status, reason := reason, verdict := false, out := [], store := none, cycles := 0 }

/-- DONE after a completion: the oldest ring index not complete (R325). -/
def State.settleDone (s : State) : State :=
  let s := s.updAwl (fun a => { a with fetchedIdx := a.fetchedIdx.dropWhile Prod.snd })
  s.wr Reg.AWL_RING_HEAD.DONE (match s.awl.fetchedIdx with | (i, _) :: _ => i | [] => s.rd Reg.AWL_RING_HEAD.HEAD)

/-- Write a descriptor's completion record (R322), and count it (R325). -/
def State.completeJob (s : State) (index flags unit : Nat) (r : AwlResult) (sameUnit late reissued : Bool) (written : Nat) : State :=
  let a := s.descAddr index + 0x30
  let body := leBytes 1 r.status ++ leBytes 1 r.reason ++ leBytes 1 (unit % 16 + 16 * b2n sameUnit + 32 * b2n late + 64 * b2n reissued)
    ++ leBytes 1 (b2n r.verdict) ++ leBytes 4 written ++ leBytes 4 r.cycles ++ leBytes 4 0
  let s := match s.guard (unitAccess masterDispatcher .write a 16) with | (true, s) => s.writeMem a body | (false, s) => s
  let s := (s.updAwl (fun a => { a with fetchedIdx := a.fetchedIdx.map (fun x => if x.1 = index then (index, true) else x) })).addTo Reg.AWL_OPS.OPS 1
  let s := if r.status = awInvalid then s.bump Reg.AWL_EVENTS.INVALID else s
  let s := if r.status = awDone then s else (s.wr (Reg.AWL_UNIT.LAST_STATUS.nth unit) r.status).wr (Reg.AWL_UNIT.LAST_REASON.nth unit) r.reason
  let s := if bitOf flags 0 then s.updAwl (fun a => { a with irqs := a.irqs + 1, irqFirst := if a.irqs = 0 then s.now else a.irqFirst }) else s
  s.settleDone

/-- Words of operand memory where the results, the output slots and the secrets begin (Table 9-4). -/
def opResult : Nat := 768
def opSecret : Nat := 1280

/-- The first word and the bytes of each input in the view of its command (Table 9-4): p or the curve prime in register 0, a, Q or the peer point
in register 1, b, e or the scalar in register 2, polynomials and lattice inputs from slot 0. What Table 9-4 does not place stands in the working
space: a DESIGN CHOICE (assumption 121). -/
def operandPlan (d : AwlDesc) (input : List Byte) : List (Nat × List Byte) :=
  let n := 8 * d.nwords
  let c := coord d.param
  let pt := pointLen d.param
  if 1 ≤ d.opcode ∧ d.opcode ≤ 5 then [(0, slice input 0 n), (256, slice input n n), (512, slice input (2 * n) n)]
  else if d.opcode = 6 then [(0, slice input 0 n), (256, slice input n (2 * n))]
  else if d.opcode = 7 then [(256, slice input 0 n), (512, slice input n n)]
  else if 0x10 ≤ d.opcode ∧ d.opcode ≤ 0x12 then [(0, input.take 3072)]
  else if d.opcode = 0x20 then [(0, leBytes c (curveOf d.param).p), (256, slice input 0 pt), (512, slice input pt c)]
  else if d.opcode = 0x21 then [(0, leBytes c (curveOf d.param).p)]
  else if d.opcode = 0x22 then [(0, leBytes c (curveOf d.param).p), (256, slice input c pt), (opSecret + 256, slice input 0 c)]
  else if d.opcode = 0x23 then [(0, leBytes c (curveOf d.param).p), (256, slice input 0 pt), (opSecret + 256, slice input pt (3 * c))]
  else if d.opcode = 0x24 then [(0, leBytes 32 (2 ^ 255 - 19)), (256, slice input 0 32), (opSecret + 256, slice input 32 64)]
  else if d.opcode = 0x26 then [(0, leBytes 32 (2 ^ 255 - 19)), (256, slice input 0 32)]
  else if d.opcode = 0x31 ∨ d.opcode = 0x32 then [(0, slice input 0 1568)]
  else if d.opcode = 0x39 ∨ d.opcode = 0x3A then [(0, slice input 0 (dsaPk d.param))]
  else []

/-- Load a command's inputs into a unit's operand memory. -/
def State.loadInputs (s : State) (u : Nat) (d : AwlDesc) (input : List Byte) : State :=
  (operandPlan d input).foldl (fun s p => s.layOperand u p.1 p.2) s

/-- A unit may take work (R182). -/
def State.awlCandidate (s : State) (u : Nat) : Bool := s.awlState u == stIdle && (tget s.shepherd.asked (dueKey .awl u)).isNone

/-- A unit goes idle; a rolling test that waits for it begins. -/
def State.awlIdle (s : State) (u : Nat) : State := (s.setAwl u stIdle).settleTest .awl u

/-- Change the stage of a unit's run. -/
def State.setStage (s : State) (u : Nat) (st : AwlStage) : State :=
  s.updAwl (fun a => { a with runs := tmod a.runs u (fun r => match r with | .job j _ => .job j st | x => x) })

/-- Give a signature that waits to a verifying unit (R336): the lowest idle healthy unit but the signer, or the signer itself where it is the
only healthy one. -/
def State.placeVerify (s : State) (u : Nat) : State :=
  match tget s.awl.runs u with
  | some (.job j (.signed r)) =>
    match awlUnits.find? (fun v => v != u && s.awlCandidate v) with
    | some v =>
      let s := ((s.setStage u (.verifying r v)).updAwl (fun a => { a with runs := tput a.runs v (.check u) })).setAwl v stBusy
      (s.loadInputs v j.desc j.input).layOperand v opResult (r.out.take 4096)
    | none =>
      if awlUnits.any (fun v => v != u && s.awlHealthy v) then s
      else (((s.clearOperand u).loadInputs u j.desc j.input).layOperand u opResult (r.out.take 4096)).setStage u (.selfCheck r)
  | _ => s

/-- Start a descriptor on a unit: its inputs are loaded into operand memory. -/
def State.startJob (s : State) (j : AwlJob) (u : Nat) : State :=
  ((s.updAwl (fun a => { a with fetched := a.fetched.drop 1, runs := tput a.runs u (.job j .running) })).setAwl u stBusy).loadInputs u j.desc j.input

/-- Every descriptor fetched before this one has completed (R323). -/
def State.fenceOpen (s : State) (j : AwlJob) : Bool := (s.awl.fetchedIdx.takeWhile (fun x => x.1 != j.index)).all Prod.snd

/-- Start the first waiting descriptor where a unit takes it; with no healthy unit that has not failed for it, it completes with NO_UNIT
(R343). The second part says whether anything was done. -/
def State.startNext (s : State) : State × Bool :=
  match s.awl.fetched with
  | [] => (s, false)
  | j :: rest =>
    if bitOf j.desc.flags 1 && !s.fenceOpen j then (s, false)
    else if !(awlUnits.any (fun u => s.awlHealthy u && !j.failed.contains u)) then
      ((s.updAwl (fun a => { a with fetched := rest })).completeJob j.index j.desc.flags 0 (bareResult awNoUnit 0) false false j.reissued 0, true)
    else match awlUnits.find? (fun u => s.awlCandidate u && !j.failed.contains u) with
      | some u => (s.startJob j u, true)
      | none => (s, false)

/-- Fetch the next descriptor of the ring and check it (R321, R334). -/
def State.fetchDesc (s : State) : State :=
  let i := s.rd Reg.AWL_RING_HEAD.HEAD
  if !s.isSet Reg.AWL_CTRL.EN ∨ i = s.rd Reg.AWL_RING_TAIL.TAIL % s.awlRing then s
  else
    let s := s.wr Reg.AWL_RING_HEAD.HEAD ((i + 1) % s.awlRing)
    if i ∈ s.awl.abortedIdx then
      (s.updAwl (fun a => { a with abortedIdx := a.abortedIdx.filter (· != i), fetchedIdx := a.fetchedIdx ++ [(i, true)] })).settleDone
    else
      let s := (s.updAwl (fun a => { a with fetchedIdx := a.fetchedIdx ++ [(i, false)] })).settleDone
      match s.guardRange masterDispatcher .read (s.descAddr i) 64 with
      | (false, s) => s.completeJob i 0 0 (bareResult awBusError 0x30) false false false 0
      | (true, s) =>
        let ((bytes, bad), s) := s.readChecked (s.descAddr i) 64
        let d := parseDesc bytes
        if bad then s.completeJob i 0 0 (bareResult awBusError 0x31) false false false 0
        else match (if d.inLen = 0 then (true, s) else s.guardRange masterDispatcher .read d.inAddr (min d.inLen (awlMessage + 8192))) with
          | (false, s) => s.completeJob i d.flags 0 (bareResult awBusError 0x30) false false false 0
          | (true, s) =>
            let ((input, bad), s) := s.readChecked d.inAddr (min d.inLen (awlMessage + 8192))
            if bad then s.completeJob i d.flags 0 (bareResult awBusError 0x31) false false false 0
            else match s.awlRejects d input with
              | some (st, re) => s.completeJob i d.flags 0 (bareResult st re) false false false 0
              | none => s.updAwl (fun a => { a with fetched := a.fetched ++ [{ index := i, desc := d, input := input, reissued := false, failed := [] }] })

/-- AWL_RING_TAIL: posted descriptors (R321). -/
def execAwlRingTail (world : World) (tail : Nat) (s : State) : Host.Outcome State Fault Refusal :=
  if world = .tack then ok s else ok (s.wr Reg.AWL_RING_TAIL.TAIL tail)

/-- AWL_DISPATCH: the dispatcher places a signature that waits for its verification, else starts the first waiting descriptor, else fetches and
checks the next one (R321, R334, R336). -/
def execAwlDispatch (s : State) : Host.Outcome State Fault Refusal :=
  let waits := awlUnits.find? (fun u => match tget s.awl.runs u with
    | some (.job _ (.signed _)) => awlUnits.any (fun v => v != u && s.awlCandidate v) || !(awlUnits.any (fun v => v != u && s.awlHealthy v))
    | _ => false)
  match waits with
  | some u => ok (s.placeVerify u)
  | none =>
    match s.startNext with
    | (s, true) => ok s
    | (s, false) => ok s.fetchDesc

/-- Deliver a DONE run (R335): the output first, then DST_SLOT; what is refused changes the status. The second part is the bytes written. -/
def State.deliver (s : State) (u : Nat) (j : AwlJob) (r : AwlResult) : State × AwlResult × Nat :=
  match (if r.out.isEmpty then (true, s) else s.guardRange (masterAwl u) .write j.desc.outAddr r.out.length) with
  | (false, s) => (s, { r with status := awBusError, reason := 0x30, verdict := false }, 0)
  | (true, s) =>
    let s := if r.out.isEmpty then s else s.writeMem j.desc.outAddr r.out
    match r.store, awlDstKind j.desc.opcode with
    | some v, some kind =>
      if s.keyStoreOk j.desc.dstSlot && (!s.safe || s.collector.mgmtAwl == some u) then
        (s.fillSlot j.desc.dstSlot v (1 + 16 * kind + 256 * (j.desc.dstUse % 32)), r, r.out.length)
      else (s, { r with status := awKey, reason := 0x23 }, r.out.length)
    | _, _ => (s, r, r.out.length)

/-- AWL_COMPLETION: a unit finishes: it delivers its result and the completion record is written (R335, R322, Table 9-10). -/
def execAwlCompletion (unit : Nat) (s : State) : Host.Outcome State Fault Refusal :=
  match tget s.awl.runs unit with
  | some (.job j (.done r same late)) =>
    let (s, r, written) := s.deliver unit j r
    let s := (s.updAwl (fun a => { a with runs := tdel a.runs unit })).clearOperand unit
    ok ((s.completeJob j.index j.desc.flags unit r same late j.reissued written).awlIdle unit)
  | _ => ok s

/-- AWL_DONE: COAL_N completions have accumulated, or COAL_US has passed since the first (R325). -/
def execAwlDone (s : State) : Host.Outcome State Fault Refusal :=
  if s.awl.irqs = 0 then ok s
  else
    let s := if max 1 (s.rd Reg.AWL_CTRL.COAL_N) ≤ s.awl.irqs then s else s.advanceTo (s.awl.irqFirst + s.rd Reg.AWL_CTRL.COAL_US * usec)
    ok ((s.updAwl (fun a => { a with irqs := 0 })).interrupt (128 + Config.awlDoneSource.val))

/-- Mismatches of a unit within AWL_QPOL.WINDOW. -/
def State.awlMismatches (s : State) (u : Nat) : List Nat := recentTimes s.now (s.rd Reg.AWL_QPOL.WINDOW) (tgetD s.awl.mismatches u [])

/-- A unit goes SUSPECT and starts its self-test at once (R344). -/
def State.awlSuspect (s : State) (u : Nat) : State :=
  (s.setAwl u stSuspect).updAwl (fun a => { a with tests := tput a.tests u .suspect })

/-- A stop of R342 counts: the unit is SUSPECT, or quarantined at its limit (Table 9-10). -/
def State.awlStop (s : State) (u : Nat) : State :=
  let ts := s.now :: s.awlMismatches u
  let s := (s.updAwl (fun a => { a with mismatches := tput a.mismatches u ts })).wr (Reg.AWL_UNIT.MISMATCH_CNT.nth u) (min 255 ts.length)
  let s := (s.dropRun u).awlSuspect u
  if max 1 (s.rd Reg.AWL_QPOL.LIMIT) ≤ ts.length then ((s.updAwl (fun a => { a with tests := tdel a.tests u })).stopAwl u stQuarantined).raise (srcAwl u 2) u else s

/-- The verification of a signature ends (R336, R337): the signature is DONE, or it is discarded and the signer SUSPECT, and the descriptor is
signed again, or fails at the third. -/
def State.verifyEnd (s : State) (signer : Nat) (same pass : Bool) : State :=
  match tget s.awl.runs signer with
  | some (.job j stage) =>
    let r : Option AwlResult := match stage with | .verifying r _ => some r | .selfCheck r => some r | _ => none
    match r with
    | none => s
    | some r =>
      if pass then
        let s := s.setStage signer (.done r same false)
        if same then (s.bump Reg.AWL_EVENTS.SAME_UNIT).trailRec 0x0506 masterDispatcher false (leBytes 1 (kindCode .awl) ++ leBytes 1 signer) else s
      else
        let s := ((s.updAwl (fun a => { a with runs := tdel a.runs signer })).clearOperand signer).raise (srcAwl signer 5) signer
        let failed := signer :: j.failed
        let s := if s.awlState signer = stQuarantined ∨ s.awlState signer = stOffline then s else s.awlSuspect signer
        if 3 ≤ failed.length then (s.raise (srcAwl signer 6) signer).completeJob j.index j.desc.flags signer (bareResult awSignFail 0) same false j.reissued 0
        else s.updAwl (fun a => { a with fetched := { j with failed := failed } :: a.fetched })
  | _ => s

/-- The operand memory's clearing after an abort (R341): where three passes leave it unclear, AWL_CLEAR_FAIL and QUARANTINED. -/
def State.clearUnit (s : State) (u : Nat) (fails : Bool) : State :=
  if fails then (s.setAwl u stQuarantined).raise (srcAwl u 3) u else (s.clearOperand u).awlIdle u

/-- The unit that holds a descriptor. -/
def State.unitOf (s : State) (index : Nat) : Option (Nat × AwlJob × AwlStage) :=
  s.awl.runs.findSome? (fun kv => match kv.2 with | .job j st => if j.index = index then some (kv.1, j, st) else none | _ => none)

/-- An accepted abort (Table 9-9); `unclear` is whether the operand memory stays unclear after three passes. -/
def State.abortJob (s : State) (index : Nat) (unclear : Bool) : State :=
  let aborted (s : State) (flags unit : Nat) (re : Bool) : State := s.completeJob index flags unit (bareResult awAborted 0) false false re 0
  match s.unitOf index with
  | some (u, j, .done r same _) => (s.setStage u (.done r same true)).bump Reg.AWL_EVENTS.ABORT_LATE |>.updAwl (fun a => { a with runs := a.runs.map (fun kv => if kv.1 = u then (u, .job j (.done r same true)) else kv) })
  | some (u, j, st) =>
    let s := s.updAwl (fun a => { a with runs := tdel a.runs u })
    let s := match st with
      | .verifying _ v => ((s.updAwl (fun a => { a with runs := tdel a.runs v })).clearUnit v false)
      | _ => s
    aborted (s.clearUnit u unclear) j.desc.flags u j.reissued
  | none =>
    match s.awl.fetched.find? (fun j => j.index == index) with
    | some j => aborted (s.updAwl (fun a => { a with fetched := a.fetched.filter (fun k => k.index != index) })) j.desc.flags 0 j.reissued
    | none =>
      let flags := leField (s.readMem (s.descAddr index) 4) 2 2
      aborted (s.updAwl (fun a => { a with abortedIdx := a.abortedIdx ++ [index] })) flags 0 false

/-- A ring index lies from DONE up to the tail and has not completed (R340). -/
def State.abortable (s : State) (index : Nat) : Bool :=
  let n := s.awlRing
  let done := s.rd Reg.AWL_RING_HEAD.DONE % n
  decide (index < n) && decide ((index + n - done) % n < (s.rd Reg.AWL_RING_TAIL.TAIL % n + n - done) % n)
  && !s.awl.abortedIdx.contains index && !s.awl.fetchedIdx.contains (index, true)

/-- AWL_ABORT: GO submits the abort of a ring index (R340, R341). -/
def execAwlAbort (world : World) (index : Nat) (unclear : Bool) (s : State) : Host.Outcome State Fault Refusal :=
  if world = .tack then ok s
  else
    let s := s.wr Reg.AWL_ABORT.INDEX index
    let i := index % 4096
    if s.abortable i then ok ((s.wr Reg.AWL_ABORT.ERR 0).abortJob i unclear) else ok (s.wr Reg.AWL_ABORT.ERR 1)

/-- AWL_MISMATCH: a datapath mismatch, or a word returned with poison, stops a unit's operation (R342); it is re-issued (R343). -/
def execAwlMismatch (unit : Nat) (poison : Bool) (s : State) : Host.Outcome State Fault Refusal :=
  if 16 ≤ unit ∨ s.awlState unit ≠ stBusy then ok s
  else
    let s := s.awlStop unit
    ok (if poison then s.raise (srcEccUe (16 + unit / 4)) unit else s.raise (srcAwl unit 0) unit)

/-- AWL_QREL: QREL written 1 from Keeper world; the unit that QUNIT names, if QUARANTINED, runs self-test (Table 9-10). -/
def execAwlQrel (unit : Nat) (world : World) (s : State) : Host.Outcome State Fault Refusal :=
  if world = .tack ∨ 16 ≤ unit then ok s
  else
    let s := s.wr Reg.AWL_CTRL.QUNIT unit
    if s.awlState unit = stQuarantined then ok ((s.setAwl unit stSelfTest).updAwl (fun a => { a with tests := tput a.tests unit .release })) else ok s

/-- A unit whose self-test has passed serves in HEEL and in SEAL (R343), OFFLINE in the safe state. -/
def State.awlServe (s : State) (u : Nat) : State := if s.lit && !s.safe then s.setAwl u stIdle else s.setAwl u stOffline

/-- AWL_SELFTEST_DONE: an Awl unit's self-test ends (Table 9-10). -/
def execAwlSelftestDone (unit : Nat) (result : TestEnd) (signature : Nat) (s : State) : Host.Outcome State Fault Refusal :=
  match tget s.awl.tests unit with
  | none => ok s
  | some why =>
    if result = .aborted ∧ !s.mayAbort .awl why then ok s else
    let s := s.updAwl (fun a => { a with tests := tdel a.tests unit })
    let s := if why = .rolling then s.testEnded .awl unit else s
    if result = .aborted then
      ok ((if s.awlState unit = stSelfTest then s.awlServe unit else s).testOver .awl unit result signature)
    else if result ≠ .pass then ok (((s.testOver .awl unit result signature).stopAwl unit stQuarantined).raise (srcAwl unit 1) unit)
    else
      let s := s.testOver .awl unit result signature
      if why = .suspect ∧ max 1 (s.rd Reg.AWL_QPOL.LIMIT) ≤ (s.awlMismatches unit).length then ok ((s.stopAwl unit stQuarantined).raise (srcAwl unit 2) unit)
      else ok (if why = .rolling then s.awlServe unit else (s.awlServe unit).backInService .awl unit)

end Sys2Proof.Machine
end

