-- ==== Sys2Proof/Machine/AwlOps.lean ====
section
/-!
DEFINITION. The commands of the Awl units (Table 9-3): the input checks of Table 9-5, the value each computes, its cycles (Tables 9-7 and 9-8),
and the verification of a signature by a second unit (R336).
-/

namespace Sys2Proof.Machine

/-- Reason codes of INVALID_INPUT (Table 9-6). -/
def rZero : Nat := 1
def rRange : Nat := 2
def rOffCurve : Nat := 3
def rSmallOrder : Nat := 4
def rZeroSecret : Nat := 5
def rNotInvertible : Nat := 6
def rEncoding : Nat := 7
def rModulus : Nat := 8

/-- CLK_ENG cycles of a time in units of 10 ns. -/
def engCycles (centi : Nat) : Nat := 16 * centi

/-- The reasons of the checks that failed. -/
def failing (checks : List (Bool × Nat)) : List Nat := (checks.filter (fun c => !c.1)).map Prod.snd

/-- A command's result after its input checks: INVALID_INPUT with the lowest failed code, else DONE (R333). -/
def checked (cycles : Nat) (failed : List Nat) (r : AwlResult) : AwlResult :=
  match failed with
  | [] => { r with cycles := cycles }
  | c :: cs => { bareResult awInvalid (cs.foldl min c) with cycles := cycles }

/-- DONE with output bytes; with a verdict; with output bytes and a value for DST_SLOT. -/
def outResult (out : List Byte) : AwlResult := { bareResult awDone 0 with out := out }
def verdictResult (v : Bool) : AwlResult := { bareResult awDone 0 with verdict := v }
def storeResult (out : List Byte) (v : Nat) : AwlResult := { bareResult awDone 0 with out := out, store := some v }

/-- The `i`th operand of `len` bytes, least significant first. -/
def leOperand (input : List Byte) (len i : Nat) : Nat := leField input (len * i) len

/-- The modulus check of R327. -/
def modulusOk (n p : Nat) : Bool := p % 2 == 1 && decide (3 ≤ p) && decide (2 ^ (64 * (n - 1)) ≤ p)

/-- MOD_ADD, MOD_SUB, MOD_MUL and MOD_EXP on p, a and b; `both` is whether b is checked. -/
def modOp (j : AwlJob) (cycles : Nat) (both : Bool) (f : Nat → Nat → Nat → Nat) : AwlResult :=
  let n := j.desc.nwords
  let p := leOperand j.input (8 * n) 0
  let a := leOperand j.input (8 * n) 1
  let b := leOperand j.input (8 * n) 2
  checked cycles (failing [(modulusOk n p, rModulus), (decide (a < p) && (!both || decide (b < p)), rRange)]) (outResult (leBytes (8 * n) (f p a b)))

/-- MOD_INV on p and a. -/
def modInvOp (j : AwlJob) : AwlResult :=
  let n := j.desc.nwords
  let p := leOperand j.input (8 * n) 0
  let a := leOperand j.input (8 * n) 1
  checked (128 * n * (n + 8) + 400)
    (failing [(modulusOk n p, rModulus), (decide (a < p), rRange), (a != 0, rZero), (Nat.gcd a p == 1, rNotInvertible)])
    (outResult (leBytes (8 * n) ((invMod p a).getD 0)))

/-- MOD_RED on p and a 16n-byte a. -/
def modRedOp (j : AwlJob) : AwlResult :=
  let n := j.desc.nwords
  let p := leOperand j.input (8 * n) 0
  let a := leField j.input (8 * n) (16 * n)
  checked (ceilDiv (n * n) 2 + n + 20) (failing [(modulusOk n p, rModulus), (decide (a < p * 2 ^ (64 * n)), rRange)]) (outResult (leBytes (8 * n) (a % p)))

/-- MUL of a and b. -/
def mulOp (j : AwlJob) : AwlResult :=
  let n := j.desc.nwords
  checked (ceilDiv (n * n) 4 + 16) [] (outResult (leBytes (16 * n) (leOperand j.input (8 * n) 0 * leOperand j.input (8 * n) 1)))

/-- A polynomial of 256 coefficients of 32 bits, and its bytes. -/
def polyAt (input : List Byte) (i : Nat) : List Nat := (List.range 256).map (fun k => leField input (1024 * i + 4 * k) 4)
def polyBytes (f : List Nat) : List Byte := (f.map (leBytes 4)).flatten

/-- A polynomial command over `count` inputs. -/
def polyOp (j : AwlJob) (count cycles : Nat) (f : List (List Nat) → List Nat) : AwlResult :=
  let ps := (List.range count).map (polyAt j.input)
  checked cycles (failing [(ps.all (fun p => p.all (fun c => decide (c < ringQ j.desc.param))), rRange)]) (outResult (polyBytes (f ps)))

/-- A point of the input in SEC1 uncompressed form, with the checks of Table 9-5 that it fails: coordinates below the prime, on the curve,
not the identity. -/
def pointAt (c : Curve) (bs : List Byte) : Point × List Nat :=
  let head := beAt bs 0 1
  let x := beAt bs 1 c.size
  let y := beAt bs (1 + c.size) c.size
  if bs.all (· == 0) then (none, [rSmallOrder])
  else (some (x, y), failing [(decide (x < c.p ∧ y < c.p), rRange), (head == 4 && c.on x y, rOffCurve)])

/-- A scalar lies from 1 to N − 1. -/
def scalarChecks (n d : Nat) : List Nat := failing [(d != 0, rZero), (decide (d < n), rRange)]

/-- P-256's or P-384's figure of Table 9-8. -/
def byCurve (j : AwlJob) (p256us p384us : Nat) : Nat := engCycles (100 * (if j.desc.param = 2 then p384us else p256us))

/-- EC_MUL: d·Q. -/
def ecMulOp (j : AwlJob) : AwlResult :=
  let c := curveOf j.desc.param
  let (q, bad) := pointAt c (j.input.take (2 * c.size + 1))
  let d := beAt j.input (2 * c.size + 1) c.size
  checked (byCurve j 72 190) (bad ++ scalarChecks c.n d) (outResult (c.bytes (c.mul d q)))

/-- The ECDSA private scalar of a seed (R330). -/
def ecdsaScalar (param seed : Nat) : Nat :=
  let bits := if param = 2 then 512 else 384
  Config.shake256 (beBytes 32 seed ++ ascii "LGE9120 ECDSA") bits % 2 ^ bits % ((curveOf param).n - 1) + 1

/-- EC_PUB: the public key of a seed. -/
def ecPubOp (j : AwlJob) (seed : Nat) : AwlResult :=
  let c := curveOf j.desc.param
  checked (byCurve j 40 105) [] (outResult (c.bytes (c.mul (ecdsaScalar j.desc.param seed) c.base)))

/-- ECDSA_SIGN: the signature of a hash under a seed, with 32 bytes of extra input (R331). -/
def ecdsaSignOp (j : AwlJob) (seed extra : Nat) : AwlResult :=
  let c := curveOf j.desc.param
  let hash := j.input.take c.size
  let (_, bad) := pointAt c (slice j.input c.size (2 * c.size + 1))
  let d := ecdsaScalar j.desc.param seed
  let (r, t) := c.sign d (Config.rfc6979 (8 * c.size) d hash (beBytes 32 extra)) (ofBe hash)
  checked (byCurve j 80 205) (if bad.isEmpty then [] else [rOffCurve]) (outResult (beBytes c.size r ++ beBytes c.size t))

/-- ECDSA_VERIFY: Q, hash, r ‖ s. -/
def ecdsaVerifyOp (j : AwlJob) : AwlResult :=
  let c := curveOf j.desc.param
  let p := 2 * c.size + 1
  let (q, bad) := pointAt c (j.input.take p)
  let r := beAt j.input (p + c.size) c.size
  let t := beAt j.input (p + 2 * c.size) c.size
  checked (byCurve j 95 250) (bad ++ scalarChecks c.n r ++ scalarChecks c.n t) (verdictResult (c.verify q (beAt j.input p c.size) r t))

/-- The checks that a decoded point fails. -/
def edChecks : EdPoint → List Nat
  | .encoding => [rEncoding]
  | .offCurve => [rOffCurve]
  | .point _ _ => []

/-- ED25519_VERIFY: A, R ‖ S and the message, by the cofactored equation (R326). -/
def ed25519VerifyOp (j : AwlJob) : AwlResult :=
  let a := edDecode (j.input.take 32)
  let r := edDecode (slice j.input 32 32)
  let big := leField j.input 64 32
  let msg := j.input.drop 96
  let order := match a with | .point x y => failing [(edEight (x, y) != (0, 1), rSmallOrder)] | _ => []
  let verdict := match a, r with
    | .point ax ay, .point rx ry => edEquation (j.input.take 32) (slice j.input 32 32) big msg (ax, ay) (rx, ry)
    | _, _ => false
  checked (engCycles (11000 + 5 * ceilDiv msg.length 128)) (edChecks a ++ edChecks r ++ order ++ failing [(decide (big < l25519), rRange)]) (verdictResult verdict)

/-- X25519_GEN: a private key drawn, and its public u. -/
def x25519GenOp (key : Nat) : AwlResult := checked (engCycles 4000) [] (storeResult (leBytes 32 (x25519 (swap32 key) x25519Base)) key)

/-- X25519 of the peer's u. -/
def x25519Op (j : AwlJob) (key : Nat) : AwlResult :=
  let u := ofLe (j.input.take 32)
  let z := x25519 (swap32 key) u
  checked (engCycles 6000) (failing [(decide (u < p25519), rRange), (onCurve25519 u, rOffCurve), (z != 0, rZeroSecret)]) (storeResult [] (swap32 z))

/-- The seed d ‖ z of ML-KEM (R330). -/
def mlkemSeed (seed : Nat) : Nat := Config.shake256 (beBytes 32 seed ++ ascii "LGE9120 ML-KEM") 512 % 2 ^ 512

/-- MLKEM_KEYGEN: the seed drawn, and its encapsulation key. -/
def mlkemKeygenOp (seed : Nat) : AwlResult := checked (engCycles 1400) [] (storeResult (padTo 1568 (Config.mlkemPublic (mlkemSeed seed))) seed)

/-- The 12-bit coefficients of an encapsulation key are below q (FIPS 203). -/
def ekModulus (ek : List Byte) : Bool :=
  (List.range 512).all (fun i => let v := leField ek (3 * i) 3; decide (v % 4096 < 3329 ∧ v / 4096 < 3329))

/-- MLKEM_ENCAPS to ek with randomness m. -/
def mlkemEncapsOp (j : AwlJob) (m : Nat) : AwlResult :=
  let (ss, ct) := Config.mlkemEncaps (j.input.take 1568) m
  checked (engCycles 1600) (failing [(ekModulus j.input, rRange)]) (storeResult (padTo 1568 ct) (ss % 2 ^ 256))

/-- MLKEM_DECAPS of c, a rejection key where c fails its check (R332). -/
def mlkemDecapsOp (j : AwlJob) (seed : Nat) : AwlResult :=
  checked (engCycles 1900) [] (storeResult [] (Config.mlkemDecaps (mlkemSeed seed) (j.input.take 1568) % 2 ^ 256))

/-- The set of an ML-DSA PARAM code, and the figure of its set. -/
def dsaSet (param : Nat) : Nat := if param = 5 then 65 else 87
def byDsa (j : AwlJob) (a b : Nat) : Nat := if j.desc.param = 5 then a else b

/-- The context and message of an ML-DSA input that ends in `tail` bytes of signature. -/
def dsaContext (j : AwlJob) : List Byte := slice j.input (dsaPk j.desc.param + 1) (leField j.input (dsaPk j.desc.param) 1)
def dsaMessage (j : AwlJob) (tail : Nat) : List Byte :=
  let head := dsaPk j.desc.param + 1 + leField j.input (dsaPk j.desc.param) 1
  slice j.input head (j.input.length - tail - head)

/-- Message absorption of Table 9-8, in units of 10 ns. -/
def absorb (msg : List Byte) : Nat := 4 * ceilDiv msg.length 136

/-- MLDSA_PUB: the public key of a seed. -/
def mldsaPubOp (j : AwlJob) (seed : Nat) : AwlResult :=
  checked (engCycles (byDsa j 3000 4500)) [] (outResult (padTo (dsaPk j.desc.param) (Config.mldsaPublic (dsaSet j.desc.param) seed)))

/-- MLDSA_SIGN with hedging randomness: SIGN_FAIL at 814 rejected iterations (R339). -/
def mldsaSignOp (j : AwlJob) (seed rnd : Nat) : AwlResult :=
  let set := dsaSet j.desc.param
  let msg := dsaMessage j 0
  let n := Config.mldsaRejections set seed rnd (dsaContext j) msg
  let time (i : Nat) : Nat := engCycles (byDsa j 1200 1600 + byDsa j 2500 3600 * i + absorb msg)
  if 814 ≤ n then { bareResult awSignFail 0 with cycles := time 814 }
  else checked (time (n + 1)) [] (outResult (beBytes (dsaSig j.desc.param) (Config.mldsaSign set seed rnd (dsaContext j) msg)))

/-- The hint of one polynomial: its positions rise strictly. -/
def hintRises : List Nat → Bool
  | a :: b :: rest => decide (a < b) && hintRises (b :: rest)
  | _ => true

/-- The hint encoding of FIPS 204: counts that do not fall and are at most ω, positions that rise, zeros after the last. -/
def hintOk (omega k : Nat) (y : List Nat) : Bool :=
  let ends := (List.range k).map (fun i => y.getD (omega + i) 0)
  let starts := 0 :: ends
  (List.range k).all (fun i =>
    let a := starts.getD i 0
    let b := ends.getD i 0
    decide (a ≤ b ∧ b ≤ omega) && hintRises ((y.take b).drop a))
  && ((y.take omega).drop (ends.getLastD 0)).all (· == 0)

/-- A signature is well formed: its hint encoding is valid. -/
def dsaWellFormed (param : Nat) (sig : List Byte) : Bool :=
  let (omega, k) := if param = 5 then (55, 6) else (75, 8)
  hintOk omega k ((sig.drop (sig.length - (omega + k))).map BitVec.toNat)

/-- MLDSA_VERIFY: pk, context, message, σ. -/
def mldsaVerifyOp (j : AwlJob) : AwlResult :=
  let n := dsaSig j.desc.param
  let sig := j.input.drop (j.input.length - n)
  let msg := dsaMessage j n
  checked (engCycles (byDsa j 4500 7000 + absorb msg)) (failing [(dsaWellFormed j.desc.param sig, rEncoding)])
    (verdictResult (Config.mldsaVerify (dsaSet j.desc.param) (j.input.take (dsaPk j.desc.param)) (dsaContext j) msg sig))

/-- The job that a unit computes, where it is one of that opcode. -/
def State.awlJob (s : State) (unit opcode : Nat) : Option AwlJob :=
  match tget s.awl.runs unit with
  | some (.job j .running) => if j.desc.opcode = opcode then some j else none
  | _ => none

/-- A unit's computation ends: DONE waits for delivery with its result in operand memory (Table 9-4), but a signature for its verification
(R335, R336); after any other end the operand memory is cleared (R333). -/
def State.awlEnds (s : State) (unit : Nat) (signs : Bool) (r : AwlResult) : State :=
  let s := if r.status = awDone then s.layOperand unit opResult (r.out.take 4096) else s.clearOperand unit
  if signs ∧ r.status = awDone then (s.setStage unit (.signed r)).placeVerify unit else s.setStage unit (.done r false false)

/-- Run a command without a key or randomness. -/
def State.awlRun (s : State) (unit opcode : Nat) (f : AwlJob → AwlResult) : State :=
  match s.awlJob unit opcode with
  | some j => s.awlEnds unit false (f j)
  | none => s

/-- Run a command with 256 random bits from the CTR_DRBG (R331). -/
def State.awlRandom (s : State) (unit opcode : Nat) (f : AwlJob → Nat → AwlResult) : State :=
  match s.awlJob unit opcode with
  | some j => let (r, s) := s.draw 256; (s.layOperand unit opSecret (beBytes 32 (r % 2 ^ 256))).awlEnds unit false (f j (r % 2 ^ 256))
  | none => s

/-- The secret that KEY_LOAD of SRC_SLOT gives, or the reason of status KEY (R329). -/
def State.awlSecret (s : State) (unit : Nat) (d : AwlDesc) : Except Nat Nat :=
  if !s.busServes (.awl unit) d.srcSlot then .error 0x20
  else match s.awlKeyCheck d, s.keyLoad (.awl unit) d.srcSlot with
    | some r, _ => .error r
    | none, .ok v => .ok v
    | none, .error _ => .error 0x21

/-- Run a command on the secret of SRC_SLOT and, for a signature, 256 random bits; SIGN_FAIL raises AWL_SIGN_FAIL (R339). -/
def State.awlKeyed (s : State) (unit opcode : Nat) (signs : Bool) (f : AwlJob → Nat → Nat → AwlResult) : State :=
  match s.awlJob unit opcode with
  | none => s
  | some j => match s.awlSecret unit j.desc with
    | .error r => s.awlEnds unit false (bareResult awKey r)
    | .ok seed =>
      let (rnd, s) := if signs then s.draw 256 else (0, s)
      let s := (s.layOperand unit opSecret (beBytes 32 (seed % 2 ^ 256))).layOperand unit 512
        (if j.desc.opcode = 0x21 ∨ j.desc.opcode = 0x22 then leBytes (coord j.desc.param) (ecdsaScalar j.desc.param seed)
         else if opcode = 0x26 then beBytes 32 (seed % 2 ^ 256) else [])
      let r := f j seed (rnd % 2 ^ 256)
      let s := s.awlEnds unit signs r
      if r.status = awSignFail then s.raise (srcAwl unit 6) unit else s

/-- The verification of a waiting signature: by another unit, or by the signer itself (R336); `ok'` checks the signature of a job. -/
def State.awlVerifies (s : State) (unit signOp : Nat) (ok' : AwlJob → List Byte → Bool) : Option State :=
  match tget s.awl.runs unit with
  | some (.check signer) =>
    match tget s.awl.runs signer with
    | some (.job j (.verifying r _)) =>
      if j.desc.opcode = signOp then
        let s := ((s.updAwl (fun a => { a with runs := tdel a.runs unit })).clearOperand unit).awlIdle unit
        some (s.verifyEnd signer false (ok' j r.out))
      else none
    | _ => none
  | some (.job j (.selfCheck r)) => if j.desc.opcode = signOp then some (s.verifyEnd unit true (ok' j r.out)) else none
  | _ => none

/-- The ECDSA signature of a job verifies against its own public key. -/
def ecdsaOwn (j : AwlJob) (sig : List Byte) : Bool :=
  let c := curveOf j.desc.param
  let (q, bad) := pointAt c (slice j.input c.size (2 * c.size + 1))
  let r := beAt sig 0 c.size
  let t := beAt sig c.size c.size
  bad.isEmpty && (scalarChecks c.n r).isEmpty && (scalarChecks c.n t).isEmpty && c.verify q (beAt j.input 0 c.size) r t

/-- The ML-DSA signature of a job verifies against its own public key. -/
def mldsaOwn (j : AwlJob) (sig : List Byte) : Bool :=
  dsaWellFormed j.desc.param sig && Config.mldsaVerify (dsaSet j.desc.param) (j.input.take (dsaPk j.desc.param)) (dsaContext j) (dsaMessage j 0) sig

/-- MOD_ADD: (a + b) mod p. -/
def execModAdd (unit : Nat) (s : State) : Host.Outcome State Fault Refusal :=
  ok (s.awlRun unit 0x01 (fun j => modOp j (j.desc.nwords + 12) true (fun p a b => (a + b) % p)))

/-- MOD_SUB: (a − b) mod p. -/
def execModSub (unit : Nat) (s : State) : Host.Outcome State Fault Refusal :=
  ok (s.awlRun unit 0x02 (fun j => modOp j (j.desc.nwords + 12) true subMod))

/-- MOD_MUL: a·b mod p. -/
def execModMul (unit : Nat) (s : State) : Host.Outcome State Fault Refusal :=
  ok (s.awlRun unit 0x03 (fun j => modOp j (ceilDiv (j.desc.nwords * j.desc.nwords) 2 + 20) true (fun p a b => a * b % p)))

/-- MOD_EXP: a^e mod p. -/
def execModExp (unit : Nat) (s : State) : Host.Outcome State Fault Refusal :=
  ok (s.awlRun unit 0x04 (fun j => modOp j (128 * j.desc.nwords * (ceilDiv (j.desc.nwords * j.desc.nwords) 2 + 20) + 200) false powMod))

/-- MOD_INV: a^−1 mod p. -/
def execModInv (unit : Nat) (s : State) : Host.Outcome State Fault Refusal := ok (s.awlRun unit 0x05 modInvOp)

/-- MOD_RED: a mod p. -/
def execModRed (unit : Nat) (s : State) : Host.Outcome State Fault Refusal := ok (s.awlRun unit 0x06 modRedOp)

/-- AWL_MUL: the full product. -/
def execAwlMul (unit : Nat) (s : State) : Host.Outcome State Fault Refusal := ok (s.awlRun unit 0x07 mulOp)

/-- NTT of a polynomial. -/
def execNtt (unit : Nat) (s : State) : Host.Outcome State Fault Refusal :=
  ok (s.awlRun unit 0x10 (fun j => polyOp j 1 288 (fun ps => nttOf j.desc.param (ps.getD 0 []))))

/-- INTT: the inverse transform. -/
def execIntt (unit : Nat) (s : State) : Host.Outcome State Fault Refusal :=
  ok (s.awlRun unit 0x11 (fun j => polyOp j 1 320 (fun ps => inttOf j.desc.param (ps.getD 0 []))))

/-- POLY_MAC: ĉ + â∘b̂. -/
def execPolyMac (unit : Nat) (s : State) : Host.Outcome State Fault Refusal :=
  ok (s.awlRun unit 0x12 (fun j => polyOp j 3 80 (fun ps => polyMac j.desc.param (ps.getD 0 []) (ps.getD 1 []) (ps.getD 2 []))))

/-- EC_MUL: d·Q. -/
def execEcMul (unit : Nat) (s : State) : Host.Outcome State Fault Refusal := ok (s.awlRun unit 0x20 ecMulOp)

/-- EC_PUB: the public key of a seed slot. -/
def execEcPub (unit : Nat) (s : State) : Host.Outcome State Fault Refusal := ok (s.awlKeyed unit 0x21 false (fun j seed _ => ecPubOp j seed))

/-- ECDSA_SIGN: a hash is signed; the output waits for its verification (R336). -/
def execEcdsaSign (unit : Nat) (s : State) : Host.Outcome State Fault Refusal := ok (s.awlKeyed unit 0x22 true ecdsaSignOp)

/-- ECDSA_VERIFY: a signature is checked: a descriptor's, or one that waits for its release. -/
def execEcdsaVerify (unit : Nat) (s : State) : Host.Outcome State Fault Refusal :=
  match s.awlVerifies unit 0x22 ecdsaOwn with
  | some t => ok t
  | none => ok (s.awlRun unit 0x23 ecdsaVerifyOp)

/-- ED25519_VERIFY: a signature is checked by the cofactored equation. -/
def execEd25519Verify (unit : Nat) (s : State) : Host.Outcome State Fault Refusal := ok (s.awlRun unit 0x24 ed25519VerifyOp)

/-- X25519_GEN: a private key slot and its public u. -/
def execX25519Gen (unit : Nat) (s : State) : Host.Outcome State Fault Refusal := ok (s.awlRandom unit 0x25 (fun _ r => x25519GenOp r))

/-- X25519: a shared secret into a slot. -/
def execX25519 (unit : Nat) (s : State) : Host.Outcome State Fault Refusal := ok (s.awlKeyed unit 0x26 false (fun j k _ => x25519Op j k))

/-- MLKEM_KEYGEN: an ML-KEM-1024 key pair. -/
def execMlkemKeygen (unit : Nat) (s : State) : Host.Outcome State Fault Refusal := ok (s.awlRandom unit 0x30 (fun _ r => mlkemKeygenOp r))

/-- MLKEM_ENCAPS: a shared secret encapsulated to ek. -/
def execMlkemEncaps (unit : Nat) (s : State) : Host.Outcome State Fault Refusal := ok (s.awlRandom unit 0x31 mlkemEncapsOp)

/-- MLKEM_DECAPS: a shared secret decapsulated, with implicit rejection (R332). -/
def execMlkemDecaps (unit : Nat) (s : State) : Host.Outcome State Fault Refusal := ok (s.awlKeyed unit 0x32 false (fun j k _ => mlkemDecapsOp j k))

/-- MLDSA_PUB: the public key of a seed slot. -/
def execMldsaPub (unit : Nat) (s : State) : Host.Outcome State Fault Refusal := ok (s.awlKeyed unit 0x38 false (fun j k _ => mldsaPubOp j k))

/-- MLDSA_SIGN: a message is signed; the output waits for its verification; SIGN_FAIL at 814 rejections (R339). -/
def execMldsaSign (unit : Nat) (s : State) : Host.Outcome State Fault Refusal := ok (s.awlKeyed unit 0x39 true mldsaSignOp)

/-- MLDSA_VERIFY: a signature is checked: a descriptor's, or one that waits for its release. -/
def execMldsaVerify (unit : Nat) (s : State) : Host.Outcome State Fault Refusal :=
  match s.awlVerifies unit 0x39 mldsaOwn with
  | some t => ok t
  | none => ok (s.awlRun unit 0x3A mldsaVerifyOp)

end Sys2Proof.Machine
end

