-- ==== Sys2Proof/Machine/Interrupts.lean ====
section
/-!
DEFINITION. The interrupt controller (R394 to R400): what is pending and deliverable, the claim and the end of a source, software interrupts, and
the commands over them.
-/

namespace Sys2Proof.Machine

/-- The pair of a number. -/
def pairOf (n : Nat) : PairId := Fin.ofNat 16 n

/-- A timer is pending: CYCLE has reached TIMECMP (R349). -/
def Pair.timerOn (q : Pair) (w : World) : Bool := decide ((q.regsOf w).timecmp.toNat ≤ q.cycle)

/-- A source is pending: a timer by its level, another by its PEND bit (R394). -/
def State.sourcePending (s : State) (n : Nat) : Bool :=
  if n < 16 then (s.core (pairOf n)).timerOn .tack
  else if n < 32 then (s.core (pairOf (n - 16))).timerOn .keeper
  else s.isSet (Reg.IC_ROUTE.PEND.nth n)

/-- A pair is in service: neither quarantined, halted nor in self-test. -/
def State.inService (s : State) (p : Nat) : Bool := decide (s.rd (Reg.CORE_STATE.PSTATE.nth p) ≤ 1)

/-- A pair is quarantined or halted. -/
def State.pairLost (s : State) (p : Nat) : Bool := let st := s.rd (Reg.CORE_STATE.PSTATE.nth p); st == 2 || st == 3

/-- The world of a source, and the pair it is delivered to: its route's, or the lowest-numbered pair in service where that one is lost (R398). -/
def State.sourceWorld (s : State) (n : Nat) : World := if s.isSet (Reg.IC_ROUTE.WORLD.nth n) then .keeper else .tack
def State.sourcePair (s : State) (n : Nat) : Option Nat :=
  let p := s.rd (Reg.IC_ROUTE.PAIR.nth n)
  if s.pairLost p then pairs.find? s.inService else some p

/-- A source is active: claimed and not ended. -/
def State.sourceActive (s : State) (n : Nat) : Bool := s.cores.claims.any (fun c => c.source == n)

/-- The running priority of a world on a pair: the highest still active, or none (R397). -/
def State.runningPriority (s : State) (p : Nat) (w : World) : Option Nat :=
  (s.cores.claims.filter (fun c => c.pair == p && c.world == w)).foldl (fun m c => match m with | none => some c.prio | some x => some (max x c.prio)) none

/-- The priority of a source. -/
def State.sourcePrio (s : State) (n : Nat) : Nat := s.rd (Reg.IC_ROUTE.PRIO.nth n)

/-- A source is deliverable to a pair and world (R395). -/
def State.deliverable (s : State) (p : Nat) (w : World) (n : Nat) : Bool :=
  s.sourcePending n && s.isSet (Reg.IC_ROUTE.EN.nth n) && !s.sourceActive n && s.sourceWorld n == w && s.sourcePair n == some p
  && (match s.runningPriority p w with | none => true | some x => decide (x < s.sourcePrio n))

/-- The best deliverable source: the highest priority, the lower number on a tie (R395). -/
def State.bestSource (s : State) (ok' : Nat → Bool) : Option Nat :=
  argMin (fun n => 15 - s.sourcePrio n) ((List.range 1024).filter ok')

/-- The best source of a world on a pair. -/
def State.best (s : State) (p : Nat) (w : World) : Option Nat := s.bestSource (s.deliverable p w)

/-- A delivery to another pair than the route's sets MOVED (R398). -/
def State.delivered (s : State) (p n : Nat) : State :=
  if s.rd (Reg.IC_ROUTE.PAIR.nth n) = p then s else s.flag (Reg.IC_ROUTE.MOVED.nth n) true

/-- A read of IC_CLAIM: the best source becomes active, a latched one stops pending, and the running priority rises (R397). The answer is the
register's value. -/
def State.claim (s : State) (p : Nat) (w : World) : Nat × State :=
  match s.best p w with
  | none => (0, s)
  | some n =>
    let prio := s.sourcePrio n
    let s := s.updCores (fun c => { c with claims := { source := n, pair := p, world := w, prio := prio } :: c.claims })
    let s := if s.sourceLatched n then s.flag (Reg.IC_ROUTE.PEND.nth n) false else s
    (n + 4096 * prio + 2 ^ 31, s.delivered p n)

/-- A write of IC_EOI ends a source that is active for the world and pair (R397). -/
def State.endOfInterrupt (s : State) (p : Nat) (w : World) (n : Nat) : State :=
  s.updCores (fun c => { c with claims := c.claims.filter (fun x => !(x.source == n && x.pair == p && x.world == w)) })

/-- A write of IC_SWI: only sources 512 to 1,023, and from Tack world only those with WORLD = 0 (IC_SWI). -/
def State.softInterrupt (s : State) (w : World) (n : Nat) : State :=
  if 512 ≤ n ∧ n < 1024 ∧ (w = .keeper ∨ s.sourceWorld n = .tack) then s.interrupt n else s

/-- IC_CLAIM: a read of IC_CLAIM claims the best deliverable source of the world (R397). -/
def execIcClaim (pair : PairId) (world : World) (s : State) : Host.Outcome State Fault Refusal :=
  let (v, s) := s.claim pair.val world
  ok (s.emit .reader 0xC0 [v])

/-- IC_EOI: a write of IC_EOI ends a source (R397). -/
def execIcEoi (pair : PairId) (world : World) (source : Nat) (s : State) : Host.Outcome State Fault Refusal := ok (s.endOfInterrupt pair.val world (source % 1024))

/-- IC_SWI: a write of IC_SWI sets a software interrupt pending (R394). -/
def execIcSwi (world : World) (source : Nat) (s : State) : Host.Outcome State Fault Refusal := ok (s.softInterrupt world (source % 1024))

/-- TIMER_INTERRUPT: a pair's CYCLE reaches a world's TIMECMP (R349): its timer is pending from then on. -/
def execTimerInterrupt (pair : PairId) (world : World) (s : State) : Host.Outcome State Fault Refusal :=
  if s.inService pair.val then ok (s.updPair pair (fun q => { q with cycle := max q.cycle (q.regsOf world).timecmp.toNat })) else ok s

/-- An interrupt is deliverable to a pair: of a world, or of either. -/
def State.anyDeliverable (s : State) (p : Nat) (w : World) : Bool := (List.range 1024).any (s.deliverable p w)

/-- CLK_CORE cycles of a microsecond: 2,400 at the seal rate, 1,200 at the heel rate (Table 20-2). -/
def State.coreCycles (s : State) (us : Nat) : Nat := us * (if s.svc == .seal || s.heelRetains then 2400 else 1200)

/-- CORE_IM_HELD: IM has stayed 1 for longer than IM_US while an interrupt is deliverable, or Keeper world has run for longer than KHOLD_US
while a Tack-routed one is (R400); the source is a level source, which falls when the condition has ended. -/
def execCoreImHeld (pair : PairId) (keeper : Bool) (s : State) : Host.Outcome State Fault Refusal :=
  let p := pair.val
  let q := s.core pair
  let limit := if keeper then s.rd (Reg.CORE_LIMITS.KHOLD_US.nth p) else s.rd (Reg.CORE_LIMITS.IM_US.nth p)
  let holds : Bool := if keeper then q.world == .keeper && s.anyDeliverable p .tack else q.im && (s.anyDeliverable p .tack || s.anyDeliverable p .keeper)
  let since := if keeper then q.keeperAt else q.imAt
  if s.inService p && holds && limit != 0 then
    ok ((s.updPair pair (fun q => { q with cycle := max q.cycle (since + s.coreCycles limit + 1) })).raise (srcCore p 3) p)
  else ok (s.fall (srcCore p 3))

end Sys2Proof.Machine
end

