-- ==== Sys2Proof/Machine/Central.lean ====
section
/-! DEFINITION. The central units (R13), the backlog of a Trail port (R19), and the loss of the seal set (R32, R33). -/

namespace Sys2Proof.Machine

/-- The fault source of a central unit (Table 14-3). -/
def Central.source : Central → Nat
  | .queueEngine => srcQeLockstep
  | .shepherd => srcShpLockstep
  | .saddlebag => srcSdbLockstep
  | .collector => srcFcuLockstep
  | .trail => srcTrlLockstep

/-- CENTRAL_RETRY: the two copies of a central unit disagree. The unit is executed again from its last compared state within 2 µs, which
CENTRAL_RETRY reports; a second disagreement within 1 ms raises the unit's own source (R13). -/
def execCentralRetry (unit : Central) (s : State) : Host.Outcome State Fault Refusal :=
  let src := unit.source
  let again : Bool := match tget s.collector.disagreed src with | some t => decide (s.now < t + msec) | none => false
  let s := s.updCollector (fun c => { c with disagreed := tput c.disagreed src s.now })
  ok (if again then s.raise src else s.raise srcCentralRetry src)

/-- The master that a port's TRAIL_BACKLOG names, with its world (Table 14-3): the origin of the oldest record of a firmware port. -/
def TrailPort.master (p : TrailPort) (k : Nat) : Nat :=
  if k < 128 then k
  else match p.heldRecs.head? with
    | some (_, r) => r.origin % 128 + 256 * ((k - 128) / 128)
    | none => 256 * ((k - 128) / 128)

/-- TRAIL_BACKLOG: a port has held records for more than 100 µs (R19). -/
def execTrailBacklog (port : Nat) (s : State) : Host.Outcome State Fault Refusal :=
  match tget s.trail.ports port with
  | none => ok s
  | some p => match p.heldRecs.head? with
    | none => ok s
    | some (t, _) => ok ((s.advanceTo (t + 100 * usec + 1)).raise srcTrailBacklog (p.master port))

/-- The device may be in SEAL: the seal column of Table 1-8 serves and the vault key may be used (R32, R318, R617). -/
def State.sealMay (s : State) : Bool := s.sealColumn && s.vault.isSome

/-- SEAL_SET_LOST: the seal column is lost in SEAL: opens and extents are refused from then on, and the objects open are aborted, their queues
staying OPEN (R32, R33, R87). -/
def execSealSetLost (s : State) : Host.Outcome State Fault Refusal :=
  if !s.inSeal ∨ s.sealMay then ok s
  else
    let code := if s.keyed then cServiceDown else cUnkeyed
    let hit := tkeys s.queue.objects (fun _ x => x.state == .openObj)
    ok (hit.foldl (fun s o => s.abortObject o code true) s)

/-- Draining and settling can go on (R32): a channel, a south port, and 2 sponge cores serve. -/
def State.drainServes (s : State) : Bool :=
  decide (1 ≤ s.chanCount) && !s.south.upPorts.isEmpty && decide (2 ≤ (spongeCores.filter s.spgHealthy).length)

/-- Nothing is left to drain. -/
def State.drained (s : State) : Bool :=
  s.queue.extents.all (fun kv => kv.2.frags.all (fun f => !undrained f.2)) && s.south.repairs.all (fun kv => kv.2.frags.all (fun f => !undrained f.2))

/-- Nothing is left to settle: no open epoch, no object that waits for one, every closed epoch released. -/
def State.settledAll (s : State) : Bool :=
  s.pack.leaves.isEmpty && s.pack.notarisedWaiting.isEmpty && s.pack.epochs.all (fun kv => kv.2.released)

/-- HEEL_AFTER_DRAIN: draining and settling cannot go on, or have nothing left to do, and the device enters HEEL with its clocks, its DRAM and its
state kept (R32, R33). -/
def execHeelAfterDrain (s : State) : Host.Outcome State Fault Refusal :=
  if !s.inSeal ∨ s.sealMay then ok s
  else if s.drainServes ∧ !(s.drained ∧ (s.settledAll ∨ !s.manifestReady)) then ok s
  else ok ((s.saveTables.enterService .heel true).stateRecord 2 1)

/-- The times at which the units of a kind in service fall due (R186). -/
def dueTimes (now : Nat) (kind : UnitKind) (units : List Nat) : List (Nat × Nat) :=
  let u := units.length
  (units.zip (List.range u)).map (fun x => (dueKey kind x.1, now + testInterval kind * (x.2 + 1) / u))

/-- Step 6 of Table 20-6: the Shepherd, the queue engine and the Pack's pools start, the STATE record is written, and the device is in SEAL. -/
def State.startSeal (s : State) : State :=
  let plan := dueTimes s.now .stitch (stitchUnits.filter s.stuHealthy) ++ dueTimes s.now .sponge (spongeCores.filter s.spgHealthy)
    ++ dueTimes s.now .awl (awlUnits.filter s.awlHealthy)
  let plan := plan ++ ((List.range 16).filter (fun p => s.pstate p == 0)).map (fun p => (dueKey .pair p, s.nightDue))
  let s := s.updShepherd (fun p => { p with staging := 0, restore := 0, notBefore := [], due := plan.foldl (fun t x => tput t x.1 x.2) [], asked := [], deferred := [], overdue := [] })
  let s := s.enterService .seal false
  (((s.trailToDram).stateRecord 1 2).formPools.balancePools).assignGroups

/-- SEAL_RESUMPTION: the missing units have returned and passed their tests; SEAL is re-entered by step 6 alone (R32, R33). -/
def execSealResumption (s : State) : Host.Outcome State Fault Refusal :=
  if s.svc ≠ .heel ∨ !s.heelRetains ∨ s.safe ∨ s.chip.shut ≠ .off ∨ !s.sealMay ∨ !s.sealSet then ok s else ok s.startSeal

end Sys2Proof.Machine
end

