-- ==== Sys2Proof/Machine/Reset.lean ====
section
/-!
DEFINITION. The resets (Table 20-5, R605 to R608): what a main-domain reset clears and what it keeps, the clock losses that hold one (R600), the
watchdog, and the reset of one pair.
-/

namespace Sys2Proof.Machine


/-- The register fields that a main-domain reset keeps: the Kennel's, RST_CAUSE, and the fused minimum SVN. -/
def keptField (key : Nat) : Bool :=
  let slot := key / 64 / 65536 % 4096
  slot == 0xF0 || key == Reg.RST_CAUSE.COLD.key || key == Reg.RST_CAUSE.PIN.key || key == Reg.RST_CAUSE.SOFT.key || key == Reg.RST_CAUSE.WDT.key
  || key == Reg.RST_CAUSE.REF_LOSS.key || key == Reg.RST_CAUSE.PLL_UNLOCK.key || key == Reg.BOOT_INFO.MIN_SVN.key

/-- The queue engine after a main-domain reset: each namespace goes on from its next block (R79). -/
def QueueEngine.restart (q : QueueEngine) : QueueEngine :=
  { State.reset.queue with counters := tmap q.counters (fun _ c => (c.2, c.2)), counterTime := q.counterTime }

/-- The Pack after a main-domain reset: epoch numbers go on from the next block (R206), chained to the last header of the manifest log (R215). -/
def Pack.restart (p : Pack) : Pack :=
  let last := p.logHeaders.getLast?
  { State.reset.pack with
    nextEpoch := p.blockEnd, blockEnd := p.blockEnd, genesis := p.genesis, logHeaders := p.logHeaders
    prevRoot := match last with | some h => shakeDom 0x02 h | none => 0
    gap := match last with | some h => decide (beAt h 16 8 + 1 ≠ p.blockEnd) | none => !p.genesis }

/-- The south side after a main-domain reset: the catalogue directory of the flash store stays (R261). -/
def South.restart (q : South) : South :=
  { State.reset.south with
    catalogue := tmap q.catalogue (fun _ c => { c with writing := none, waiting := false, targets := [], dirtySince := none })
    shutMarker := q.shutMarker, rebuildDue := q.rebuildDue, nextRepair := q.nextRepair }

/-- The Saddlebag after a main-domain reset: the slots are empty; the key store, the vault banks and the escrow sets stay (R313, R317). -/
def Saddlebag.restart (k : Saddlebag) : Saddlebag :=
  { k with slots := [], current := [], resident := [], chain := [], custody := none, lostMacros := [], drbgRequests := 0, drbgAt := 0
           pendingSet := if k.rotating then k.pendingSet else none }

/-- The MAIN, IO, SERDES, DDR and NFC domains are in reset (R606): only the Kennel, the Collar, the fuses, the flash and RST_CAUSE keep what they
hold. -/
def State.clearMain (s : State) : State :=
  { State.reset with
    pending := s.pending, now := s.now, rtc := s.rtc, draws := s.draws, out := s.out
    regs := tkeep s.regs (fun k _ => keptField k)
    trail := { State.reset.trail with journal := s.trail.journal }
    guards := { State.reset.guards with spareRows := s.guards.spareRows, remapped := s.guards.remapped }
    queue := s.queue.restart
    staging := { State.reset.staging with savedRetired := s.staging.savedRetired }
    shepherd := { State.reset.shepherd with savedMedia := s.shepherd.savedMedia, savedShelves := s.shepherd.savedShelves }
    pack := s.pack.restart, south := s.south.restart, keys := s.keys.restart
    flash := { s.flash with blocks := tmap s.flash.blocks (fun _ b => { b with pinned := false }) }
    kennel := s.kennel, collar := s.collar
    chip := { State.reset.chip with powerOk := s.chip.powerOk, held := s.chip.held, nonce := s.chip.nonce, tapIr := s.chip.tapIr, tapHighz := s.chip.tapHighz,
                                    tapPins := s.chip.tapPins, tapSamples := s.chip.tapSamples }
    dict := tkeep s.dict (fun k _ => dictSaved (k / 4096 / 256))
    domains := tkeep s.domains (fun k _ => dictSaved (k / 4096 / 256)) }

/-- A main-domain reset with its cause (R606, R607): at least 100 µs; one asked for while a reset is held only adds its bit. -/
def State.mainReset (s : State) (cause : Field) : State :=
  if s.chip.held then s.flag cause true else (s.clearMain.flag cause true).advance (100 * usec)

/-- A held main-domain reset (R600). -/
def State.holdReset (s : State) (src : Nat) (cause : Field) : State :=
  if !s.chip.powerOk then s
  else if s.chip.held then s.flag cause true
  else
    let s := s.raise src
    (s.clearMain.flag cause true).updChip (fun c => { c with held := true })

/-- REFCLK_LOSS: CLK_REF_LOSS gives the safe state, and a main-domain reset is held (R600). -/
def execRefclkLoss (s : State) : Host.Outcome State Fault Refusal := ok (s.holdReset srcClkRefLoss Reg.RST_CAUSE.REF_LOSS)

/-- PLL_UNLOCK: CLK_PLL_UNLOCK gives the safe state, and a main-domain reset is held (R600). -/
def execPllUnlock (s : State) : Host.Outcome State Fault Refusal := ok (s.holdReset srcClkPllUnlock Reg.RST_CAUSE.PLL_UNLOCK)

/-- REFCLK_RESTORE: REFCLK has been valid for 10 ms, and the held reset is released (R600). -/
def execRefclkRestore (s : State) : Host.Outcome State Fault Refusal :=
  if s.chip.held ∧ s.chip.powerOk then ok ((s.advance (10 * msec)).updChip (fun c => { c with held := false })) else ok s

/-- LANE_REF_LOSS: the north or south reference is lost: its lanes stop, and each port that it serves raises its fault (R601). -/
def execLaneRefLoss (north : Bool) (s : State) : Host.Outcome State Fault Refusal :=
  if !s.lit then ok s
  else if north then
    let s := s.flag Reg.CLK_STATUS.NREF_OK false
    let ports := (List.range 16).filter (fun p => !s.queue.downMacs.contains p)
    let s := ports.foldl (fun s p => (s.raise (srcNpPortFail p)).updQueue (fun q => { q with downMacs := q.downMacs ++ [p] })) s
    let hit := s.queue.sessions.flatMap (fun kv => (tkeys kv.2.paths (fun _ p => ports.contains p.port)).map (fun i => (kv.1, i)))
    ok (hit.foldl (fun s h => s.failPath h.1 h.2) s)
  else ok (s.south.upPorts.foldl State.portDown (s.flag Reg.CLK_STATUS.SREF_OK false))

/-- LANE_REF_RETURN: the reference is valid again, and its lanes may come back up (R601). -/
def execLaneRefReturn (north : Bool) (s : State) : Host.Outcome State Fault Refusal :=
  if !s.mainOn then ok s else ok (s.flag (if north then Reg.CLK_STATUS.NREF_OK else Reg.CLK_STATUS.SREF_OK) true)

/-- NFC_XTAL_LOSS: the contactless crystal is lost: NFC_XTAL_LOSS is raised and the reader stops (R601). -/
def execNfcXtalLoss (s : State) : Host.Outcome State Fault Refusal :=
  if !s.lit then ok s
  else ok (((s.flag Reg.CLK_STATUS.NFC_XTAL_OK false).updReader (fun r => { r with mode := .fault, card := none, active := false })).raise srcNfcXtalLoss)

/-- NFC_XTAL_RETURN: the crystal runs again, and the reader can resume (R601). -/
def execNfcXtalReturn (s : State) : Host.Outcome State Fault Refusal :=
  if !s.mainOn then ok s
  else
    let s := s.flag Reg.CLK_STATUS.NFC_XTAL_OK true
    if s.reader.mode = .fault then ok ((s.updReader (fun r => { r with mode := .idle })).fall srcNfcXtalLoss) else ok s

/-- An erase of a block that PWR_OK_FALL cuts short: its intent stays open (R453). -/
def State.cutErase (s : State) (k : Nat) : State :=
  if (s.flash.block k).retired || s.flash.blockProtected k || !(s.flash.validIn k).isEmpty || s.svc == .dark then s
  else
    let intent := s.flash.nextSeq
    (s.journal 0x0001 (eraseBody k (s.flash.block k))).updFlash (fun f => { (f.updBlock k (fun b => { b with free := false })) with intents := f.intents ++ [(k, intent)] })

/-- PWR_OK_FALL: PWR_OK falls: the engines stop and the MAIN domain is held in reset (R605). `torn` are the blocks whose erase was under way: the
intent stays open (R453). -/
def execPwrOkFall (torn : List Nat) (s : State) : Host.Outcome State Fault Refusal :=
  if !s.chip.powerOk then ok s
  else
    let s := (torn.foldl State.cutErase s).clearMain
    let c := State.reset.chip
    ok (s.updChip (fun _ => { c with powerOk := false }))

/-- PWR_OK_RISE: PWR_OK rises: a cold reset sets RST_CAUSE to COLD alone (R606, R607); start-up follows as POWER_GOOD_BOOT. -/
def execPwrOkRise (s : State) : Host.Outcome State Fault Refusal :=
  if s.chip.powerOk then ok s
  else
    let s := s.clearMain.updChip (fun c => { c with powerOk := true, held := false })
    let s := (s.flag Reg.RST_CAUSE.COLD true).flag Reg.RST_CAUSE.PIN false
    let s := (s.flag Reg.RST_CAUSE.SOFT false).flag Reg.RST_CAUSE.WDT false
    ok ((s.flag Reg.RST_CAUSE.REF_LOSS false).flag Reg.RST_CAUSE.PLL_UNLOCK false)

/-- SYSRST: SYSRST_N low for at least 1 µs; it is ignored while PWR_OK is low (R606, R607). -/
def execSysrst (s : State) : Host.Outcome State Fault Refusal := if s.chip.powerOk then ok (s.mainReset Reg.RST_CAUSE.PIN) else ok s

/-- RST_MAIN: RST_CMD.MAIN written 1 from Keeper world (R606). -/
def execRstMain (world : World) (s : State) : Host.Outcome State Fault Refusal :=
  if world = .keeper ∧ s.mainOn then ok (s.mainReset Reg.RST_CAUSE.SOFT) else ok s

/-- RST_PAIR: RST_CMD.PAIR written 1 from Keeper world resets another pair: its registers and caches, not its save record (R606). -/
def execRstPair (issuer target : PairId) (world : World) (s : State) : Host.Outcome State Fault Refusal :=
  if world = .tack ∨ issuer = target ∨ !s.mainOn then ok s
  else
    let s := s.wr Reg.RST_CMD.PAIR_SEL target
    ok ((s.updPair target (fun q => { Pair.reset target.val with save := q.save, testing := q.testing })).dropOwn target)

/-- The watchdog's time-out: 0 is treated as 1 (WDT_CTRL). -/
def State.wdtTimeout (s : State) : Nat := max 1 (s.rd Reg.WDT_CTRL.TIMEOUT_MS) * msec

/-- CORE_QREL: QREL written 1 from Keeper world: a quarantined or halted pair runs self-test (CORE_CTRL). -/
def execCoreQrel (pair : PairId) (world : World) (s : State) : Host.Outcome State Fault Refusal :=
  if world = .keeper ∧ s.pairLost pair then
    ok ((s.wr (Reg.CORE_STATE.PSTATE.nth pair) 4).updPair pair (fun q => { q with testing := some .release }))
  else ok s

/-- WATCHDOG_EXPIRY: the count reaches TIMEOUT_MS, and a main-domain reset with cause WDT follows (R608). -/
def execWatchdogExpiry (s : State) : Host.Outcome State Fault Refusal :=
  if s.isSet Reg.WDT_CTRL.EN ∧ s.chip.booted ∧ s.mainOn then ok ((s.advanceTo (s.chip.kicked + s.wdtTimeout)).mainReset Reg.RST_CAUSE.WDT) else ok s

/-- WDT_KICK: 0x5A from Keeper world restarts the count; other values are ignored (R608). -/
def execWdtKick (world : World) (key : Nat) (s : State) : Host.Outcome State Fault Refusal :=
  if world = .keeper ∧ key % 256 = 0x5A then ok (s.updChip (fun c => { c with kicked := s.now })) else ok s

/-- WDT_ENABLE: WDT_CTRL.EN written 1 starts the watchdog; a write from Tack world has no effect (R608). -/
def execWdtEnable (world : World) (s : State) : Host.Outcome State Fault Refusal :=
  if world = .tack ∨ s.isSet Reg.WDT_CTRL.EN then ok s else ok ((s.flag Reg.WDT_CTRL.EN true).updChip (fun c => { c with kicked := s.now }))

end Sys2Proof.Machine
end

