-- ==== Sys2Proof/Machine/Power.lean ====
section
/-!
DEFINITION. Entry to SEAL (Table 20-6, R609), orderly shutdown (R611), the VDD_CORE target (R604), and self-test by command (R613).
-/

namespace Sys2Proof.Machine

/-- Step 1's condition: the system keys and every namespace's current key stand in their slots (R286). -/
def State.keysLoaded (s : State) : Bool :=
  [3, 4, 6].all (fun i => (s.slot i).isSome) && s.keys.nsEpoch.all (fun kv => (tget s.keys.current kv.1).isSome)

/-- The data rate (R597): the highest that every DIMM, the DIMM count and DRAM_RATE_MAX allow. -/
def dataRate (trained : List (Nat × List Dimm)) (limit : Nat) : Option Nat :=
  let two := trained.any (fun c => decide (2 ≤ c.2.length))
  [7680, 7200, 6400, 5600, 4800].find? (fun r => decide (r ≤ limit) && (!two || decide (r ≤ 6400)) && trained.all (fun c => c.2.all (fun d => decide (r ≤ d.rate))))

/-- A channel that has passed training (R141, R158): its regions laid out and its retired pages kept. One that is lost stays lost (R149). -/
def State.trainChannel (s : State) (c : Nat) (found : List Dimm) : State :=
  let bytes := (found.map Dimm.bytes).sum
  let dimms := found.map (fun d => (d.serial, d.bytes))
  let retired := keptRetired (tgetD s.staging.savedRetired c []) dimms
  let ch := { divideChannel bytes (max 1 (min 4 (s.rd Reg.STG_CTRL.RESTORE_EIGHTHS))) with dimms := dimms, retired := retired }
  if c ∈ s.staging.lost then s
  else
    let s := s.updStaging (fun t => { t with chans := tput t.chans c ch, savedRetired := tput t.savedRetired c (splitRetired dimms retired) })
    (s.updGuards (fun g => { g with installed := tput g.installed c bytes })).setBit Reg.STG_CHSTATE.HEALTHY c true

/-- The start-up self-tests of step 3c: a unit that fails is quarantined and raises its fault, another one serves (Tables 3-8, 6-1, 9-10). -/
def State.startUnits (s : State) (x : SealIn) : State :=
  let s := stitchUnits.foldl (fun s n =>
    if s.stu n ≠ stOffline ∨ !s.isSet (Reg.STU_CTRL.EN.nth n) then s
    else if x.stitchFail.contains n then ((s.flag (Reg.STU_ERR.SELFTEST_FAIL.nth n) true).setStu n stQuarantined).raise (srcStu n 3)
    else s.setStu n stIdle) s
  let s := spongeCores.foldl (fun s j =>
    if s.spg j = .quarantined ∨ s.spg j = .busy then s
    else if x.spongeFail.contains j then (s.dropSponge j .quarantined).raise srcPckSelftestFail j
    else s.setSpg j .idle) s
  awlUnits.foldl (fun s u =>
    if s.awlState u = stQuarantined ∨ s.awlState u = stBusy then s
    else if x.awlFail.contains u then (s.stopAwl u stQuarantined).raise (srcAwl u 1) u
    else s.setAwl u stIdle) s

/-- The ports of a quad in a mode, by lowest lane (Table 7-1). -/
def quadPorts (quad mode : Nat) : List Nat :=
  let lanes := rangeFrom (4 * quad) 4
  if mode = 1 ∨ mode = 4 then lanes
  else if mode = 2 ∨ mode = 5 then lanes.filter (fun p => p % 2 == 0)
  else if mode = 3 ∨ mode = 6 then lanes.take 1
  else []

/-- Step 3d: the quad modes of FT_CTRL come into force (R229), and the lanes that lock come up (R230, R233);
the operator's south addresses (R234) and what MKA installs (R44) are in place. -/
def State.startLanes (s : State) (x : SealIn) : State :=
  let modes := [Reg.FT_CTRL.QMODE0, Reg.FT_CTRL.QMODE1, Reg.FT_CTRL.QMODE2, Reg.FT_CTRL.QMODE3, Reg.FT_CTRL.QMODE4, Reg.FT_CTRL.QMODE5].map s.rd
  let ports := ((List.range 6).zip modes).flatMap (fun q => (quadPorts q.1 q.2).map (fun p => (p, q.2)))
  let up := (ports.map Prod.fst).filter (fun p => x.south.contains p)
  let link (p : Nat) : Tether := { up := up.contains p, tx := 0, unacked := [], rx := none, nak := false, ackAt := s.now, sentAt := s.now, inits := 0, downAt := s.now }
  let tethers := (ports.filter (fun q => decide (4 ≤ q.2))).foldl (fun t q => tput t q.1 (link q.1)) []
  let s := s.updSouth (fun q => { q with modes := modes, tethers := tethers, upPorts := up, addrs := x.southAddrs })
  s.updQueue (fun q => { q with downMacs := (List.range 16).filter (fun p => !x.north.contains p), macsec := x.mka })

/-- Step 4: every DRAM word is written with zero and its check bits. -/
def State.eraseDram (s : State) : State :=
  { s with mem := { cells := s.mem.cells.filter (fun c => !inDram c.1), codes := tkeep s.mem.codes (fun w _ => !inDram (4 * w)) } }

/-- Step 5: the media and shelf tables and the catalogue directory are loaded, the first counter and epoch blocks are recorded (R79, R206), the
catalogue is to be rebuilt after a stop without the shutdown marker (R262), and the marker is erased (R611). -/
def State.loadTables (s : State) : State :=
  let s := s.updShepherd (fun p => { p with media := p.savedMedia, shelves := p.savedShelves })
  let s := s.updQueue (fun q => { q with counters := tmap q.counters (fun _ c => (c.2, c.2)) })
  let n := s.pack.blockEnd
  let s := s.journal 0x0004 (leBytes 8 n)
  let p := s.pack.restart
  let s := s.updPack (fun q => { q with nextEpoch := n, blockEnd := n + 65536, prevRoot := p.prevRoot, gap := p.gap })
  let s := s.wr Reg.PCK_EPOCH_NUM.EPOCH (n - 1)
  s.updSouth (fun q => { q with rebuildDue := q.rebuildDue || !q.shutMarker, shutMarker := false })

/-- The state outside SEAL without R33: heel clocks, no DRAM, stitch units OFFLINE, south links down, and no work of the data path. -/
def State.leaveSeal (s : State) : State :=
  let s := (((s.flag Reg.CLK_STATUS.SEAL_RATE false).flag Reg.CLK_STATUS.MEM_960 false).wr Reg.CLK_STATUS.DRAM_MTS 0)
  let s := (s.wr Reg.STG_CHSTATE.HEALTHY 0).wr Reg.STG_CHSTATE.RETRAIN 0
  let s := stitchUnits.foldl (fun s n => if s.stu n = stQuarantined then s else ((s.clearCtxs n).1).setStu n stOffline) s
  let s := s.updQueue QueueEngine.restart
  let s := s.updStaging (fun t => { State.reset.staging with savedRetired := t.savedRetired, lost := t.lost })
  let s := s.updSouth South.restart
  s.enterService s.svc false

/-- A command of PWR_CMD ends. -/
def State.pwrEnd (s : State) (err step : Nat) : State := (s.wr Reg.PWR_CMD.ERR err).wr Reg.PWR_CMD.FAIL_STEP step

/-- Entry fails at a step: the device stays in HEEL and PWR_DONE is raised (R609). -/
def State.entryFails (s : State) (step : Nat) : State := ((s.leaveSeal.pwrEnd 3 step)).interrupt 261

/-- The steps of Table 20-6. -/
def State.enterSeal (s : State) (x : SealIn) : State :=
  let s := (s.updGuards (fun g => { g with entryStarted := true })).flag Reg.ECC_TEST.EN false
  let s := s.loadKeys
  if x.failStep = 1 ∨ !s.keysLoaded then s.entryFails 1
  else
    let s := s.flag Reg.CLK_STATUS.SEAL_RATE true
    if x.failStep = 2 then s.entryFails 2
    else
      let trained := x.trained.filter (fun c => decide (c.1 < 12) && !c.2.isEmpty)
      let s := (trained.foldl (fun s c => s.trainChannel c.1 c.2) s).startUnits x
      let s := s.startLanes x
      match dataRate trained (s.dictVal 0x8002 0) with
      | none => s.entryFails 3
      | some rate =>
        let s := (s.wr Reg.CLK_STATUS.DRAM_MTS rate).flag Reg.CLK_STATUS.MEM_960 (decide (6400 < rate))
        if x.failStep = 3 ∨ !s.sealSet then s.entryFails 3
        else
          let s := s.eraseDram
          if x.failStep = 4 then s.entryFails 4
          else if x.failStep = 5 then s.entryFails 5
          else
            let s := s.loadTables
            if x.failStep = 6 then s.entryFails 6
            else
              let n := spongeCores.filter s.spgHealthy
              let s := s.updPack (fun p => { p with signing := n.drop s.hashWant })
              let s := s.updTelemetry (fun t => { t with trained := t.dimms })
              (s.startSeal.pwrEnd 0 0).interrupt 261

/-- The resumption of R33 by SEAL_ENTER: the returning units' self-tests and step 6. -/
def State.resumeSeal (s : State) (x : SealIn) : State :=
  let s := s.startUnits x
  if !s.sealSet ∨ x.failStep = 3 then (s.pwrEnd 3 3).interrupt 261
  else if x.failStep = 6 then (s.pwrEnd 3 6).interrupt 261
  else (s.startSeal.pwrEnd 0 0).interrupt 261

/-- SEAL_ENTER: PWR_CMD.OP is written SEAL_ENTER from Keeper world, or HEEL has been reached with AUTO_SEAL set (R609). It needs HEEL, the vault key
and no Keeper-scope debug authorisation. -/
def execSealEnter (auto : Bool) (world : World) (x : SealIn) (s : State) : Host.Outcome State Fault Refusal :=
  let busy : Bool := match s.chip.shut with | .running _ => true | _ => false
  if !s.mainOn ∨ !s.chip.booted ∨ busy then ok s
  else if auto ∧ (!s.isSet Reg.PWR_CTRL.AUTO_SEAL ∨ s.svc ≠ .heel) then ok s
  else if !auto ∧ world = .tack then ok s
  else
    let s := if auto then s else s.wr Reg.PWR_CMD.OP 1
    if s.svc ≠ .heel ∨ s.safe then ok (s.pwrEnd 5 0)
    else if !s.keyed then ok (s.pwrEnd 1 0)
    else if s.chip.debugLock ∨ bitOf (s.rd Reg.DBG_STATUS.OPEN) 3 then ok (s.pwrEnd 2 0)
    else
      let s := (s.updChip (fun c => { c with shut := .off })).advance (x.us * usec)
      ok (if s.heelRetains then (s.flag Reg.ECC_TEST.EN false).resumeSeal x else s.enterSeal x)

/-- Steps 2 to 7 of R611 as far as they have come: once nothing is left to drain and every epoch is released, each catalogue block and run that
changed is written; once those copies are DURABLE the flash is flushed, the marker written, and HEEL entered. -/
def State.shutProgress (s : State) : State :=
  match s.chip.shut with
  | .running _ =>
    if !s.queue.objects.all (fun kv => kv.2.state != .openObj) ∨ !s.drained ∨ !s.settledAll then s
    else
      let s := (s.south.catalogue.map Prod.fst).foldl (fun s k => s.writeCatalogue (k / 2 ^ 64) (k % 2 ^ 64)) s
      if !s.south.catalogue.all (fun kv => kv.2.dirtySince.isNone && kv.2.writing.isNone) then s
      else
        let s := (s.updSouth (fun q => { q with shutMarker := true })).saveTables.leaveSeal
        let s := (s.enterService .heel s.heelRetains).stateRecord 2 1
        (s.pwrEnd 0 0).updChip (fun c => { c with shut := .off })
  | _ => s

/-- SHUTDOWN: PWR_CMD.OP is written SHUTDOWN from Keeper world, or (`goes`) its sequence goes on (R611). It needs the engines of seal service. -/
def execShutdown (goes : Bool) (world : World) (s : State) : Host.Outcome State Fault Refusal :=
  if goes then ok s.shutProgress
  else
    let busy : Bool := match s.chip.shut with | .running _ => true | _ => false
    if world = .tack ∨ busy ∨ !s.mainOn then ok s
    else
      let s := s.wr Reg.PWR_CMD.OP 2
      if !s.sealRuns then ok (s.pwrEnd 5 0)
      else ok ((s.pwrEnd 0 0).updChip (fun c => { c with shut := .running s.now })).shutProgress

/-- SHUTDOWN_TIMEOUT: SHUT_S passes before the marker is written: INCOMPLETE, and the device goes on as R32 states (R611). -/
def execShutdownTimeout (s : State) : Host.Outcome State Fault Refusal :=
  match s.chip.shut with
  | .running t => ok (((s.advanceTo (t + max 10 (s.rd Reg.PWR_CTRL.SHUT_S) * second)).pwrEnd 4 0).updChip (fun c => { c with shut := .late }))
  | _ => ok s

/-- PWR_AVS: TARGET is written from Keeper world, clamped to 0.65 V to 0.85 V (R604). -/
def execPwrAvs (target : Nat) (world : World) (s : State) : Host.Outcome State Fault Refusal :=
  if world = .tack ∨ !s.mainOn then ok s else ok (s.wr Reg.PWR_AVS.TARGET (max 65 (min 85 (target % 256))))

/-- AVS_STEP: a VOUT_COMMAND moves VDD_CORE by at most 10 mV toward the target, 100 µs after the last; one not acknowledged is sent again, and three
in a row end the changes (R604). -/
def execAvsStep (acknowledged : Bool) (s : State) : Host.Outcome State Fault Refusal :=
  let v := s.rd Reg.PWR_AVS.NOW
  let goal := s.rd Reg.PWR_AVS.TARGET
  if !s.mainOn ∨ !s.chip.booted ∨ s.isSet Reg.PWR_AVS.NACK ∨ (v = goal ∧ s.chip.avsFails = 0) then ok s
  else
    let new := if s.chip.avsFails ≠ 0 then v else if v < goal then v + 1 else v - 1
    let s := (((s.advance (100 * usec)).wr Reg.PWR_AVS.NOW new).emit .regulator 0x21 [10 * new])
    let fails := if acknowledged then 0 else s.chip.avsFails + 1
    ok ((s.updChip (fun c => { c with avsFails := fails })).flag Reg.PWR_AVS.NACK (decide (3 ≤ fails)))

/-- The units of a kind's code (ST_CMD.KIND). -/
def unitsOf (kind : Nat) : List Nat :=
  if kind = 1 then stitchUnits else if kind = 2 then spongeCores else if kind = 3 then awlUnits else if kind = 4 then pairs else []

/-- A unit can be tested by command: it is in service or OFFLINE, and not the pair that issued the command (R613). -/
def State.testable (s : State) (issuer : Option Nat) (u : Nat × Nat) : Bool :=
  if u.1 = 1 then s.stuHealthy u.2 || s.stu u.2 == stOffline || s.stu u.2 == stSelfTest
  else if u.1 = 2 then s.spgHealthy u.2 || s.spg u.2 == .offline || s.spg u.2 == .selfTest
  else if u.1 = 3 then s.awlHealthy u.2 || s.awlState u.2 == stOffline || s.awlState u.2 == stSelfTest
  else s.pstate u.2 != 2 && issuer != some u.2

/-- The end of a commanded run (R613): ST_STATUS, SELFTEST_RESULT and ST_DONE, and SELFTEST's outcome (R562). -/
def State.endTestRun (s : State) : State :=
  match s.chip.testRun with
  | none => s
  | some r =>
    if !r.waiting.isEmpty ∨ !r.running.isEmpty then s
    else
      let s := (((s.wr Reg.ST_STATUS.TESTED (min 255 r.tested)).wr Reg.ST_STATUS.FAILED (min 255 r.failed)).wr Reg.ST_STATUS.ABORTED (min 255 r.aborted))
      let s := if 65536 ≤ tgetD s.smilia.status 0x9000 0 then s.updSmilia (fun m => { m with status := tput m.status 0x9000 0 }) else s
      (s.updChip (fun c => { c with testRun := none, testResults := r.records })).interrupt 260

/-- Start a run of self-tests of a kind, 0 for all (R613): in HEEL at once, in SEAL by rolling tests. False where one is running. -/
def State.runTests (s : State) (issuer : Option Nat) (kind : Nat) : State × Bool :=
  if s.chip.testRun.isSome ∨ !s.lit ∨ s.safe then (s, false)
  else
    let kinds := if kind = 0 then [1, 2, 3, 4] else [kind]
    let all := kinds.flatMap (fun k => (unitsOf k).map (fun u => (k, u)))
    let go := all.filter (s.testable issuer)
    let records := (all.filter (fun u => !s.testable issuer u)).flatMap (fun u => resultRecord u.1 u.2 4 0 0)
    (((s.updChip (fun c => { c with testRun := some { waiting := go, running := [], tested := 0, failed := 0, aborted := 0, records := records } })).startTests), true)

/-- ST_CMD: GO is written 1 from Keeper world with a kind (R613); a second command while one runs changes nothing. -/
def execStCmd (issuer : PairId) (world : World) (kind : Nat) (s : State) : Host.Outcome State Fault Refusal :=
  if world = .tack ∨ s.chip.testRun.isSome then ok s
  else ok ((s.wr Reg.ST_CMD.KIND kind).runTests (some issuer.val) (kind % 8)).1

/-- ST_DONE: the last unit of a commanded run has been tested (R613). -/
def execStDone (s : State) : Host.Outcome State Fault Refusal := ok s.endTestRun

end Sys2Proof.Machine
end

