-- ==== Sys2Proof/Machine/Regs.lean ====
section
/-!
DEFINITION. Registers as a read or a write of a peripheral slot reaches them (R5 to R7, R635): the register and field at an address, the fields
whose value other state holds, the two halves of a 64-bit register, and the write of a field that has no command of its own.
-/

namespace Sys2Proof.Machine

/-- A register at an address: its heading, its instance by slot and by offset, and whether the high word of a 64-bit one is meant. -/
structure RegPlace where
  reg : Register
  i : Nat
  j : Nat
  high : Bool
  deriving DecidableEq, Repr

/-- A register heading at an address of a slot, if it lies there. -/
def Register.place (r : Register) (slot off : Nat) : Option RegPlace :=
  let d := off - r.off
  let step := if r.offStep = 0 then 8 else r.offStep
  let j := if r.offStep = 0 then 0 else d / step
  let e := d - j * step
  if slot < r.slot ∨ r.slot + r.slotCount ≤ slot ∨ off < r.off ∨ r.offCount ≤ j then none
  else if e = 0 then some { reg := r, i := slot - r.slot, j := j, high := false }
  else if e = 4 ∧ r.wide then some { reg := r, i := slot - r.slot, j := j, high := true }
  else none

/-- The register at an address. -/
def regAt (slot off : Nat) : Option RegPlace := registers.findSome? (fun r => r.place slot off)

/-- The instance of a field at a place, of a world where the register is banked. -/
def RegPlace.field (x : RegPlace) (w : World) (f : Field) : Field :=
  let g := if f.slotStep = 0 then f.nth x.j else f.nth x.i x.j
  if x.reg.banked then g.inWorld w else g

/-- The key under which the halves of a 64-bit register are latched. -/
def RegPlace.latchKey (x : RegPlace) (slot off : Nat) : Nat := 2 * (slot * 65536 + (if x.high then off - 4 else off))

/-- The word `w` of bytes. -/
def wordOf (bs : List Byte) (w : Nat) : Nat := leField bs (4 * w) 4

/-- A number from the truth values of `n` numbers from `base`. -/
def bitsFrom (base n : Nat) (p : Nat → Bool) : Nat := ofBits ((rangeFrom base n).map p)

/-- The bytes of a violation record (Table 12-8). -/
def Violation.bytes (v : Violation) : List Byte :=
  leBytes 8 v.addr ++ leBytes 8 v.trailSeq ++ leBytes 2 v.who ++ leBytes 2 v.wher ++ leBytes 2 v.size ++ leBytes 2 0 ++ leBytes 4 v.epoch ++ leBytes 4 0

/-- The bytes of a tracker entry (R420). -/
def TrackEntry.bytes (e : TrackEntry) : List Byte := leBytes 8 e.loc ++ leBytes 1 e.count ++ leBytes 1 (1 + 2 * b2n e.hard) ++ leBytes 2 0 ++ leBytes 4 e.first

/-- The bytes of a source record (Table 14-5). -/
def FaultRec.bytes (r : FaultRec) : List Byte :=
  let flags := b2n r.live + 2 * b2n r.sticky + 4 * b2n r.lastConseq + 8 * b2n r.lastInjected + 16 * b2n r.trailPending + 32 * b2n r.rebuilt
  leBytes 8 r.firstSeq ++ leBytes 8 r.lastSeq ++ leBytes 2 r.count ++ leBytes 2 r.conseq ++ leBytes 2 r.nested ++ leBytes 1 flags ++ leBytes 1 r.reaction
  ++ leBytes 4 r.detail ++ leBytes 2 (match r.window with | some w => w % 1024 + 32768 | none => 0) ++ leBytes 2 0

/-- Repairs of extents that have exactly k surviving fragments (R274). -/
def State.atRisk (s : State) : Nat :=
  (s.south.repairs.filter (fun kv => !kv.2.evacuate && kv.2.missing.length == recM kv.2.record)).length

/-- Media in repair or evacuation (RST_STATUS). -/
def State.repairMedia (s : State) : Nat := ((s.south.repairs.map (fun kv => kv.2.media)) ++ s.south.evacuating).eraseDups.length

/-- The source that FCU_SEL names, and its configuration (R467). -/
def State.selected (s : State) : Nat := s.rd Reg.FCU_SEL.SRC
def State.selFixed (s : State) : Bool := match sourceSpec s.selected with | some d => d.fixed | none => false

/-- The word of the oldest record of a list, zero where there is none. -/
def oldestWord (bs : Option (List Byte)) (w : Nat) : Nat := match bs with | some b => wordOf b w | none => 0

/-- The fields whose value other state holds, with the value of an instance (by slot and offset index, and the world that reads). -/
def views1 : List (Field × (State → Nat → Nat → World → Nat)) :=
  [(Reg.STG_FREE.FREE, fun s _ j _ => s.freePages j),
   (Reg.STU_STATUS.MISMATCH_CNT, fun s i _ _ => min 255 (recentTimes s.now (s.rd (Reg.STU_QPOL.WINDOW.nth i)) (tgetD s.stitch.mismatches i [])).length),
   (Reg.AWL_UNIT.MISMATCH_CNT, fun s _ j _ => min 255 (recentTimes s.now (s.rd Reg.AWL_QPOL.WINDOW) (tgetD s.awl.mismatches j [])).length),
   (Reg.STG_RETIRED.COUNT, fun s _ j _ => match s.chan j with | some c => c.retired.length | none => ((tgetD s.staging.savedRetired j []).map (fun d => d.2.length)).sum),
   (Reg.SHP_STATUS.WAITING, fun s _ _ _ => min 255 s.shepherd.held.length),
   (Reg.PCK_STATUS.HASH_POOL, fun s _ _ _ => s.hashPool.length),
   (Reg.PCK_STATUS.SIGN_POOL, fun s _ _ _ => s.pack.signing.length),
   (Reg.PCK_STATUS.HEALTHY, fun s _ _ _ => (spongeCores.filter s.spgHealthy).length),
   (Reg.PCK_STATUS.BACKLOG, fun s _ _ _ => min 255 (s.pack.epochs.filter (fun e => !e.2.released)).length),
   (Reg.PCK_HEALTHY.CORES, fun s _ j _ => bitsFrom (32 * j) 32 s.spgHealthy),
   (Reg.PCK_POOL.SIGN, fun s _ j _ => bitsFrom (32 * j) 32 (fun k => s.pack.signing.contains k)),
   (Reg.FT_STATUS.ASSOC, fun s _ _ _ => s.south.assocs.length),
   (Reg.FT_STATUS.PORT_UP, fun s _ _ _ => bitsFrom 0 24 (fun p => s.south.upPorts.contains p)),
   (Reg.RST_STATUS.REPAIR_MEDIA, fun s _ _ _ => min 255 s.repairMedia),
   (Reg.RST_STATUS.AT_RISK, fun s _ _ _ => min (2 ^ 24 - 1) s.atRisk),
   (Reg.SDB_STATUS.ENROLLED, fun s _ _ _ => b2n s.keys.enrolled),
   (Reg.SDB_STATUS.KEYED, fun s _ _ _ => b2n s.keyed),
   (Reg.SDB_STATUS.ESCROWED, fun s _ _ _ => b2n s.escrowed),
   (Reg.SDB_STATUS.ROTATING, fun s _ _ _ => b2n s.keys.rotating),
   (Reg.SDB_STATUS.CUSTODY_OP, fun s _ _ _ => b2n s.keys.custody.isSome),
   (Reg.SDB_STATUS.VAULT_GEN, fun s _ _ _ => match s.bank with | some v => v.gen | none => 0),
   (Reg.AWL_STATUS.HEALTHY, fun s _ _ _ => bitsFrom 0 16 s.awlHealthy),
   (Reg.AWL_STATUS.QUEUED, fun s _ _ _ => min 255 s.awl.fetched.length)]

def views2 : List (Field × (State → Nat → Nat → World → Nat)) :=
  [(Reg.CORE_STATE.GDEPTH, fun s i _ _ => (s.core (pairOf i)).frames.length),
   (Reg.IC_RPRI.PRIO, fun s i _ w => (s.runningPriority i w).getD 31),
   (Reg.CORE_SAVE.DATA, fun s i j w => let b := (s.core (pairOf i)).save; if w = .tack ∧ bitOf (leField b 256 8) 2 then 0 else wordOf b j),
   (Reg.IC_ROUTE.PEND, fun s _ j _ => b2n (s.sourcePending j)),
   (Reg.IC_ROUTE.ACTIVE, fun s _ j _ => b2n (s.sourceActive j)),
   (Reg.AT_VCNT.HELD, fun s _ _ _ => s.guards.violations.length),
   (Reg.AT_VREC.DATA, fun s _ j _ => oldestWord (s.guards.violations.head?.map Violation.bytes) j),
   (Reg.ECC_TRK_WIN.DATA, fun s _ j _ => oldestWord ((tget s.guards.trackers (s.rd Reg.ECC_TRK_SEL.UNIT * 256 + s.rd Reg.ECC_TRK_SEL.ENTRY)).map TrackEntry.bytes) j),
   (Reg.FLS_STATUS.OPEN_INTENTS, fun s _ _ _ => s.flash.intents.length),
   (Reg.FLS_SPARES.LEFT, fun s _ j _ => s.flash.sparesLeft j),
   (Reg.FLS_SPARES.RETIRED, fun s _ j _ => s.flash.retiredOn j),
   (Reg.FCU_STATUS.ACTIVE, fun s _ _ _ => min 255 (s.collector.windows.filter (fun w => w.reaction != rSafe)).length),
   (Reg.FCU_STATUS.WINDOWS, fun s _ _ _ => min 255 s.collector.windows.length),
   (Reg.FCU_SRC_CFG.CLASS, fun s _ _ _ => (s.sourceCfg s.selected).1),
   (Reg.FCU_SRC_CFG.REACTION, fun s _ _ _ => (s.sourceCfg s.selected).2.1),
   (Reg.FCU_SRC_CFG.LINE, fun s _ _ _ => (s.sourceCfg s.selected).2.2),
   (Reg.FCU_SRC_CFG.FIXED, fun s _ _ _ => b2n s.selFixed),
   (Reg.FCU_SRC_CFG.REFUSED, fun s _ _ _ => b2n s.collector.refused),
   (Reg.FCU_REC.DATA, fun s _ j _ => wordOf (s.faultRec s.selected).bytes j),
   (Reg.FCU_LIVE.LIVE, fun s _ j _ => bitsFrom (32 * j) 32 (fun n => (s.faultRec n).live)),
   (Reg.FCU_STICKY.STICKY, fun s _ j _ => bitsFrom (32 * j) 32 (fun n => (s.faultRec n).sticky))]

def views3 : List (Field × (State → Nat → Nat → World → Nat)) :=
  [(Reg.KNL_STATUS.VAULT_A, fun s _ _ _ => b2n s.keys.bankA.isSome),
   (Reg.KNL_STATUS.VAULT_B, fun s _ _ _ => b2n s.keys.bankB.isSome),
   (Reg.KNL_STATUS.ACTIVE, fun s _ _ _ => b2n s.keys.activeB),
   (Reg.KNL_STATUS.EVQ_COUNT, fun s _ _ _ => s.kennel.queue.length),
   (Reg.KNL_RTC.TIME, fun s _ _ _ => s.time64),
   (Reg.KNL_EVQ.DATA, fun s _ j _ => oldestWord (s.kennel.queue.head?.map KennelRec.bytes) j),
   (Reg.NFC_STATUS.STATE, fun s _ _ _ => s.nfcState),
   (Reg.NFC_CKIN.PENDING, fun s _ _ _ => s.shepherd.pendingTags.length),
   (Reg.COL_STATUS.SESSION, fun s _ _ _ => b2n s.collar.session.isSome),
   (Reg.COL_STATUS.SET, fun s _ _ _ => s.security.set),
   (Reg.COL_STATUS.TRIES1, fun s _ _ _ => s.security.triesOf 1),
   (Reg.COL_STATUS.TRIES2, fun s _ _ _ => s.security.triesOf 2),
   (Reg.COL_STATUS.TRIES3, fun s _ _ _ => s.security.triesOf 3),
   (Reg.COL_STATUS.PUBLIC_LOG, fun s _ _ _ => b2n (bitOf s.security.policy 0)),
   (Reg.COL_STATUS.NO_FIELD_ADMIN, fun s _ _ _ => b2n (bitOf s.security.policy 1)),
   (Reg.PNL_LED.HW, fun s _ j _ => b2n (s.ledOwned j)),
   (Reg.MGT_STATUS.SESSIONS, fun s _ _ _ => (s.smilia.sessions.filter (fun kv => kv.2.state == .established)).length),
   (Reg.MGT_MAC.ADDR, fun _ _ _ _ => Config.macAddress.toNat),
   (Reg.TRL_HEAD.SEQ, fun s _ _ _ => s.trail.newest),
   (Reg.TRL_OLDEST.SEQ, fun s _ _ _ => s.trailOldest),
   (Reg.TRL_RING_BASE.ADDR, fun s _ _ _ => if s.dramRing then dramBase s.ringChannel / 64 else Config.trailRing.toNat),
   (Reg.TRL_RING_BASE.ONDIE, fun s _ _ _ => b2n (!s.dramRing)),
   (Reg.PWR_CMD.BUSY, fun s _ _ _ => match s.chip.shut with | .running _ => 1 | _ => 0),
   (Reg.ST_CMD.GO, fun s _ _ _ => b2n s.chip.testRun.isSome),
   (Reg.ST_STATUS.BUSY, fun s _ _ _ => b2n s.chip.testRun.isSome),
   (Reg.DBG_NONCE.DATA, fun s _ j _ => ofBe (slice s.chip.nonce (4 * j) 4))]

/-- Every view. -/
def views : List (Field × (State → Nat → Nat → World → Nat)) := views1 ++ views2 ++ views3

/-- The value of a field at a place, as a read in a world returns it: a WO field reads zero. -/
def State.fieldAt (s : State) (x : RegPlace) (w : World) (f : Field) : Nat :=
  if f.acc = .wo then 0
  else match views.find? (fun v => v.1 == f) with
    | some v => v.2 s x.i x.j w % 2 ^ f.width
    | none => s.rd (x.field w f)

/-- The value of a register at a place. -/
def State.regValue (s : State) (x : RegPlace) (w : World) : Nat := (x.reg.fields.map (fun f => s.fieldAt x w f * 2 ^ f.lo)).sum

/-- The clear of a register's RC fields after their read (R5, R6). -/
def State.clearRead (s : State) (x : RegPlace) (w : World) : State :=
  x.reg.fields.foldl (fun s f => if f.acc = .rc then s.wr (x.field w f) 0 else s) s

/-- Read 32 bits of a slot: the low word of a 64-bit register latches its high word; IC_CLAIM claims (R397); a read of FCU_REC meets a CHECK
injection (R479); the highest background share is a free value from 0 to 100. -/
def State.readReg (s : State) (w : World) (slot off : Nat) : Nat × State :=
  match regAt slot off with
  | none => (0, s)
  | some x =>
    if x.high then (tgetD s.latch (x.latchKey slot off) 0, s)
    else if x.reg.name = "IC_CLAIM" then s.claim x.i w
    else if x.reg.name = "BRN_STATUS" then
      let (v, s) := s.draw 7
      (s.rd Reg.BRN_STATUS.LATE + 65536 * (v % 101), s)
    else
      let v := s.regValue x w
      let s := if x.reg.name = "FCU_REC_w" then s.readRecord s.selected else s.clearRead x w
      (v % 2 ^ 32, if x.reg.wide then s.setLatch (x.latchKey slot off) (v / 2 ^ 32) else s)

/-- The fields that a command of the table writes: a plain write of their register leaves them. -/
def ownFields : List Field :=
  [Reg.STU_CTRL.EN, Reg.STU_CTRL.ST_REQ, Reg.STU_CTRL.QREL, Reg.SHP_SEED.SEED, Reg.SHP_CORE_REL.PAIR, Reg.SHP_MT_CMD.OP, Reg.PCK_CTRL.QREL,
   Reg.RPR_CMD.OP, Reg.SDB_CMD.OP, Reg.AWL_CTRL.QREL, Reg.AWL_RING_TAIL.TAIL, Reg.AWL_ABORT.GO, Reg.CORE_CTRL.QREL, Reg.IC_EOI.SRC, Reg.IC_SWI.SRC,
   Reg.AT_CMD.OP, Reg.AT_COMMIT.GO, Reg.AT_VPOP.POP, Reg.ECC_SPLIT_CMD.GO, Reg.ECC_TEST.EN, Reg.ECC_TEST.ARMED, Reg.ECC_TEST.FLIP_CHK, Reg.FLS_CMD.OP,
   Reg.FCU_PIN.HOLD, Reg.FCU_SRC_CFG.CLASS, Reg.FCU_SRC_CFG.REACTION, Reg.FCU_SRC_CFG.LINE, Reg.FCU_CLR.SRC, Reg.FCU_CLR.GO, Reg.FCU_INJ.GO,
   Reg.KNL_CTRL.UNLOCK, Reg.KNL_CTRL.CLR_LATCH, Reg.KNL_CTRL.CLR_POR, Reg.KNL_CTRL.EVQ_POP, Reg.KNL_TEMP.LOW, Reg.KNL_TEMP.HIGH, Reg.KNL_TRIM.PPM10,
   Reg.KNL_RTC_SET.TIME, Reg.KNL_MON.RESP, Reg.KNL_MON.EN, Reg.NFC_CMD.OP, Reg.COL_CMD.OP, Reg.SC_CMD.OP, Reg.MGT_MDIO.DATA, Reg.MGT_MDIO.REG,
   Reg.MGT_MDIO.WRITE, Reg.TRL_WR_CMD.GO, Reg.PWR_CMD.OP, Reg.PWR_AVS.TARGET, Reg.RST_CMD.MAIN, Reg.RST_CMD.PAIR, Reg.RST_CMD.PAIR_SEL, Reg.WDT_CTRL.EN,
   Reg.WDT_KICK.KEY, Reg.ST_CMD.GO]

/-- A value as a field stores it (R635). -/
def Field.stored (f : Field) (v : Nat) : Nat := match f.subs.find? (fun b => decide (b.lo ≤ v ∧ v ≤ b.hi)) with | some b => b.val | none => v

/-- The fields of IC_ROUTE_n that Table 11-4 fixes. -/
def routeFixed (f : Field) (n : Nat) : Bool :=
  if f = Reg.IC_ROUTE.WORLD then decide (n < 32 ∨ n = 126 ∨ n = 127)
  else if f = Reg.IC_ROUTE.PAIR then decide (n < 32)
  else if f = Reg.IC_ROUTE.MODE then decide (n < 128 ∨ 512 ≤ n)
  else false

/-- A write of a world reaches a field: RWK fields take it from Keeper world alone, as do those that their register says so of. -/
def State.mayWrite (s : State) (x : RegPlace) (w : World) (f : Field) : Bool :=
  if x.reg.name = "TRL_SUB_BASE_n" ∨ x.reg.name = "TRL_SUB_CFG_n" then w == .keeper || decide (8 ≤ x.j)
  else if f = Reg.CORE_STATE.ES_BUSY_K then w == .keeper
  else if f = Reg.IC_ROUTE.PRIO ∨ f = Reg.IC_ROUTE.EN then w == .keeper || s.sourceWorld x.j == .tack
  else if f.slot = Reg.IC_ROUTE.WORLD.slot ∧ routeFixed f x.j then false
  else if f = Reg.WDT_CTRL.TIMEOUT_MS then w == .keeper && !s.isSet Reg.WDT_CTRL.EN
  else f.acc != .rwk || w == .keeper

/-- What follows a write of a field: LUN 0 stays enabled (FLS_CTRL); a write of PAIR clears MOVED; an entropy source enabled anew counts as
passing (R299); the hashing pool takes its size (R183). -/
def State.afterWrite (s : State) (x : RegPlace) (f : Field) : State :=
  if f = Reg.FLS_CTRL.LUN_EN then s.setBit f 0 true
  else if f = Reg.IC_ROUTE.PAIR then s.flag (Reg.IC_ROUTE.MOVED.nth x.j) false
  else if f = Reg.TRNG_CTRL.SRC_EN then (s.wr Reg.TRNG_STATUS.SRC_OK (s.rd f)).settleTrng
  else if f = Reg.SHP_POOL.HASH_CORES then s.balancePools
  else s

/-- Clear STICKY of the sources of a word (FCU_STICKY_w). -/
def State.clearSticky (s : State) (w v : Nat) : State :=
  s.updCollector (fun c => { c with recs := tmap c.recs (fun n r => if n / 32 = w ∧ bitOf v (n % 32) then { r with sticky := false } else r) })

/-- Write a value to a field by its access code (R5). -/
def State.writeField (s : State) (x : RegPlace) (w : World) (v : Nat) (f : Field) : State :=
  let new := bitsOf v f.lo f.width
  let g := x.field w f
  if f ∈ ownFields ∨ !s.mayWrite x w f then s
  else match f.acc with
    | .ro | .rc | .wo => s
    | .rw | .rwk => (s.wr g (f.stored new)).afterWrite x f
    | .w1s => s.wr g (s.rd g ||| new)
    | .w1c => if f = Reg.FCU_STICKY.STICKY then s.clearSticky x.j new else s.wr g (s.rd g - (s.rd g &&& new))

/-- The descriptor ring takes a new base and size only while EN is 0 (AWL_RING_BASE, AWL_RING_CFG). -/
def State.settleRing (s : State) : State :=
  if s.isSet Reg.AWL_CTRL.EN then s else s.updAwl (fun a => { a with base := s.rd Reg.AWL_RING_BASE.BASE, sizeLog := s.rd Reg.AWL_RING_CFG.SIZE_LOG2 })

/-- Write 32 bits of a slot: the low word of a 64-bit register is latched and the high word commits both. -/
def State.writeReg (s : State) (w : World) (slot off v : Nat) : State :=
  match regAt slot off with
  | none => s
  | some x =>
    if x.reg.name = "IC_EOI" then s.endOfInterrupt x.i w (v % 1024)
    else if x.reg.name = "IC_SWI" then s.softInterrupt w (v % 1024)
    else if x.reg.wide ∧ !x.high then s.setLatch (x.latchKey slot off + 1) (v % 2 ^ 32)
    else
      let full := if x.reg.wide then v % 2 ^ 32 * 2 ^ 32 + tgetD s.latch (x.latchKey slot off + 1) 0 else v % 2 ^ 32
      (x.reg.fields.foldl (fun s f => s.writeField x w full f) s).settleRing

/-- REGISTER_WRITE: a 32-bit write takes effect on the fields without a command of their own, by their access codes (R5, R7, R635). -/
def execRegisterWrite (world : World) (slot off value : Nat) (s : State) : Host.Outcome State Fault Refusal := ok (s.writeReg world slot off value)

/-- RC_COUNTER_READ: a register is read; its RC fields are cleared (R6). The increments of the same cycle come after the clear in this model's
order of commands, so none is lost. -/
def execRcCounterRead (world : World) (slot off : Nat) (s : State) : Host.Outcome State Fault Refusal :=
  let (v, s) := s.readReg world slot off
  ok (s.emit .reader 0x00 [slot, off, v])

end Sys2Proof.Machine
end

