-- ==== Sys2Proof/Machine/RegActions.lean ====
section
/-!
DEFINITION. What a store to a register starts (R5): the operations and fields that have a row of their own in the table, run by a core pair's store or
a debug write as that row runs them.
-/

namespace Sys2Proof.Machine

/-- The state after a meaning, where it answers a next state. -/
def State.after (s : State) (f : State → Host.Outcome State Fault Refusal) : State := match f s with | .next t => t | _ => s

/-- Run a meaning where a bit that was written is 1. -/
def State.onBit (s : State) (b : Nat) (f : State → Host.Outcome State Fault Refusal) : State := if b = 0 then s else s.after f

/-- A signed field of `n` bits. -/
def signedField (n v : Nat) : Int := (BitVec.ofNat n v).toInt

/-- The operation of SHP_MT_CMD or of RPR_CMD that OP names. -/
def State.tableAction (s : State) (w : World) (id op : Nat) : State :=
  match op with
  | 1 => s.after (execReadMedia id)
  | 2 => s.after (execWriteMedia id w true)
  | 3 => s.after (execReadShelf (id % 64))
  | 4 => s.after (execWriteShelf (id % 64) true)
  | _ => s
def State.repairAction (s : State) (id op : Nat) : State :=
  match op with
  | 1 => s.after (execEvacuate id)
  | 2 => s.after (execEvacuateCancel id)
  | _ => s

/-- The command of SDB_CMD that OP names (Table 8-11). -/
def State.sdbAction (s : State) (w : World) (op : Nat) : State :=
  match op with
  | 0x01 => s.after (execGen w)
  | 0x02 => s.after (execDerive w)
  | 0x03 => s.after (execWrap w true)
  | 0x04 => s.after (execLoad w 0)
  | 0x05 => s.after (execZero w)
  | 0x06 => s.after (execSetAttr w)
  | 0x07 => s.after (execSealGcm w)
  | 0x08 => s.after (execOpenGcm w)
  | 0x10 => s.after (execVkGen w)
  | 0x11 => s.after (execVkSplit w)
  | 0x12 => s.after (execVkCombine w)
  | 0x13 => s.after (execVkCommit w)
  | 0x14 => s.after (execNsCurrent w)
  | _ => s

/-- The operation of FLS_CMD that OP names (Table 13-4); the largest correction of a margin read is a free value. -/
def State.flsAction (s : State) (w : World) (op : Nat) : State :=
  match op with
  | 0x01 => s.after (execFlsRead w [] [])
  | 0x02 => s.after (execFlsWrite w 0)
  | 0x03 => s.after (execTrim w)
  | 0x04 => s.after (execFlush w)
  | 0x10 => s.after (execPread w [])
  | 0x11 => let (v, s) := s.draw Reg.FLS_MARGIN.MAXCORR.width; s.after (execMread w v)
  | 0x12 => s.after (execBlank w false)
  | 0x13 => s.after (execFlsErase w 0)
  | 0x20 => s.after (execPin w)
  | 0x21 => s.after (execUnpin w)
  | 0x30 => s.after (execPtrSet w false)
  | 0x31 => s.after (execPtrConfirm w)
  | _ => s

/-- The operation of COL_CMD that OP names. -/
def State.colAction (s : State) (w : World) (op pw : Nat) : State :=
  match op with
  | 1 => s.after (execColRead w)
  | 2 => s.after (execColAppend w 0)
  | 3 => s.after (execSetPw w pw)
  | 4 => s.after (execUnblock w pw)
  | 5 => s.after (execSetPolicy w)
  | _ => s

/-- The operation of AT_CMD that OP names (R433). -/
def State.atAction (s : State) (p : Nat) (w : World) (user : Bool) (target index op : Nat) : State :=
  match op with
  | 1 => s.after (execReadActive p w user target index)
  | 2 => s.after (execReadShadow p w user target index)
  | 3 => s.after (execWriteShadow p w user target index)
  | _ => s

/-- A write of an operation that waits for what comes from outside the block: OP is stored from Keeper world, and the row's command runs it. -/
def State.waitAction (s : State) (w : World) (f : Field) (op : Nat) : State := if w = .keeper then s.wr f op else s

/-- The operation of NFC_CMD, SC_CMD or PWR_CMD that OP names: those that need nothing from outside run at once. -/
def State.nfcAction (s : State) (w : World) (op : Nat) : State :=
  match op with
  | 3 => s.after (execDeselect w)
  | 4 => s.after (execFieldOff w)
  | _ => s.waitAction w Reg.NFC_CMD.OP op
def State.scAction (s : State) (w : World) (op : Nat) : State :=
  match op with
  | 9 => s.after (execSleep w)
  | 10 => s.after (execEject w)
  | _ => if s.isSet Reg.SC_CMD.BUSY then s else s.waitAction w Reg.SC_CMD.OP op
def State.pwrAction (s : State) (w : World) (op : Nat) : State :=
  if op = 2 then s.after (execShutdown false w) else if op = 1 then s.waitAction w Reg.PWR_CMD.OP op else s

/-- What a write of `v` to a register of slots 0x020 to 0x0DF starts, by the register's name. -/
def State.startLow (s : State) (p : Nat) (w : World) (user : Bool) (x : RegPlace) (v : Nat) : State :=
  let g (f : Field) : Nat := bitsOf v f.lo f.width
  match x.reg.name with
  | "STU_CTRL" =>
    let s := s.after (execStuEnWrite x.i (g Reg.STU_CTRL.EN == 1))
    (s.onBit (g Reg.STU_CTRL.ST_REQ) (execStReq x.i)).onBit (g Reg.STU_CTRL.QREL) (execStuQrel x.i w)
  | "SHP_SEED" => if w = .keeper then s.wr Reg.SHP_SEED.SEED v else s
  | "SHP_CORE_REL" => s.after (execShpCoreRel (g Reg.SHP_CORE_REL.PAIR) false)
  | "SHP_MT_CMD" => s.tableAction w (g Reg.SHP_MT_CMD.ID) (g Reg.SHP_MT_CMD.OP)
  | "PCK_CTRL" => s.onBit (g Reg.PCK_CTRL.QREL) (execPckQrel (g Reg.PCK_CTRL.QCORE) w)
  | "RPR_CMD" => s.repairAction (g Reg.RPR_CMD.MEDIA) (g Reg.RPR_CMD.OP)
  | "SDB_CMD" => s.sdbAction w (g Reg.SDB_CMD.OP)
  | "AWL_CTRL" => s.onBit (g Reg.AWL_CTRL.QREL) (execAwlQrel (g Reg.AWL_CTRL.QUNIT) w)
  | "AWL_RING_TAIL" => s.after (execAwlRingTail w (g Reg.AWL_RING_TAIL.TAIL))
  | "AWL_ABORT" => s.onBit (g Reg.AWL_ABORT.GO) (execAwlAbort w (g Reg.AWL_ABORT.INDEX) false)
  | "CORE_CTRL" => s.onBit (g Reg.CORE_CTRL.QREL) (execCoreQrel (pairOf x.i) w)
  | "AT_CMD" => s.atAction p w user (g Reg.AT_CMD.TARGET) (g Reg.AT_CMD.INDEX) (g Reg.AT_CMD.OP)
  | "AT_COMMIT" => s.onBit (g Reg.AT_COMMIT.GO) (execAtCommit p w user)
  | "AT_VPOP" => s.onBit (g Reg.AT_VPOP.POP) (execAtVpop p w user)
  | "ECC_SPLIT_CMD" => s.onBit (g Reg.ECC_SPLIT_CMD.GO) (execSplitWrite p w (g Reg.ECC_SPLIT_CMD.CHECK))
  | "ECC_TEST" => s.after (execEccTestEnable (g Reg.ECC_TEST.EN == 1) (g Reg.ECC_TEST.ARMED == 1) (g Reg.ECC_TEST.FLIP_CHK) w)
  | "FCU_PIN" => s.after (execFcuHoldWrite (g Reg.FCU_PIN.HOLD == 1))
  | "FCU_SRC_CFG" => s.after (execFcuSrcCfgWrite (g Reg.FCU_SRC_CFG.CLASS) (g Reg.FCU_SRC_CFG.REACTION) (g Reg.FCU_SRC_CFG.LINE) w)
  | "FCU_CLR" => s.onBit (g Reg.FCU_CLR.GO) (execFcuClr (g Reg.FCU_CLR.SRC))
  | "FCU_INJ" => s.onBit (g Reg.FCU_INJ.GO) (fun s => ok s.fcuInject)
  | _ => s

/-- What a write of `v` to a register of slots 0x0E0 to 0x142 starts, by the register's name. -/
def State.startHigh (s : State) (p : Nat) (w : World) (user : Bool) (x : RegPlace) (v : Nat) : State :=
  let g (f : Field) : Nat := bitsOf v f.lo f.width
  match x.reg.name with
  | "FLS_CMD" => s.flsAction w (g Reg.FLS_CMD.OP)
  | "KNL_CTRL" =>
    ((s.onBit (g Reg.KNL_CTRL.UNLOCK) (execUnlock w)).onBit (g Reg.KNL_CTRL.CLR_LATCH) (execClrLatch w)).onBit (g Reg.KNL_CTRL.CLR_POR) (execClrPor w)
      |>.onBit (g Reg.KNL_CTRL.EVQ_POP) (execEvqPop w)
  | "KNL_TEMP" => s.after (execKnlTempWrite (signedField 9 (g Reg.KNL_TEMP.LOW)) (signedField 9 (g Reg.KNL_TEMP.HIGH)) w)
  | "KNL_TRIM" => s.after (execKnlTrimWrite (signedField 16 (g Reg.KNL_TRIM.PPM10)) w)
  | "KNL_RTC_SET" => s.after (execKnlRtcSet v w)
  | "KNL_MON_n" => s.after (execKnlMonWrite x.j (g Reg.KNL_MON.RESP) (g Reg.KNL_MON.EN == 1) w)
  | "NFC_CMD" => s.nfcAction w (g Reg.NFC_CMD.OP)
  | "COL_CMD" => s.colAction w (g Reg.COL_CMD.OP) (g Reg.COL_CMD.PW)
  | "SC_CMD" => s.scAction w (g Reg.SC_CMD.OP)
  | "MGT_MDIO" => ((s.waitAction w Reg.MGT_MDIO.REG (g Reg.MGT_MDIO.REG)).waitAction w Reg.MGT_MDIO.WRITE (g Reg.MGT_MDIO.WRITE)).waitAction w Reg.MGT_MDIO.DATA (g Reg.MGT_MDIO.DATA)
  | "TRL_WR_CMD" => s.onBit (g Reg.TRL_WR_CMD.GO) (execTrlWr p w user (g Reg.TRL_WR_CMD.EVENT) (g Reg.TRL_WR_CMD.CRITICAL == 1))
  | "PWR_CMD" => s.pwrAction w (g Reg.PWR_CMD.OP)
  | "PWR_AVS" => s.after (execPwrAvs (g Reg.PWR_AVS.TARGET) w)
  | "RST_CMD" =>
    let s := s.waitAction w Reg.RST_CMD.PAIR_SEL (g Reg.RST_CMD.PAIR_SEL)
    (s.onBit (g Reg.RST_CMD.PAIR) (execRstPair (pairOf p) (pairOf (g Reg.RST_CMD.PAIR_SEL)) w)).onBit (g Reg.RST_CMD.MAIN) (execRstMain w)
  | "WDT_CTRL" => s.onBit (g Reg.WDT_CTRL.EN) (execWdtEnable w)
  | "WDT_KICK" => s.after (execWdtKick w (g Reg.WDT_KICK.KEY))
  | "ST_CMD" => s.onBit (g Reg.ST_CMD.GO) (execStCmd (pairOf p) w (g Reg.ST_CMD.KIND))
  | _ => s

/-- The value that a 32-bit store gives a register: with a 64-bit one the latched low word, and none before the high word comes. -/
def State.written (s : State) (x : RegPlace) (slot off v : Nat) : Option Nat :=
  if x.reg.wide then (if x.high then some (v % 2 ^ 32 * 2 ^ 32 + tgetD s.latch (x.latchKey slot off + 1) 0) else none) else some (v % 2 ^ 32)

/-- A core pair's 32-bit store to a register (R5): its plain fields take the value, and what the write starts runs as its own row runs it. A store
brings nothing from outside: an operation started so meets no failure there, and one that needs an answer from outside (a card's, the PHY's, the
entry to SEAL) keeps its OP until its row's command brings it (assumption 48). -/
def State.storeReg (s : State) (p : Nat) (w : World) (user : Bool) (slot off v : Nat) : State :=
  let t := s.writeReg w slot off v
  match regAt slot off with
  | none => t
  | some x => match s.written x slot off v with
    | some full => (t.startLow p w user x full).startHigh p w user x full
    | none => t

end Sys2Proof.Machine
end

