-- ==== Sys2Proof/Machine/CoreBase.lean ====
section
/-!
DEFINITION. What every instruction of a core pair rests on (chapters 10 and 11): translation (R372 to R379), memory accesses (R354 to R358), taking
an exception (R383 to R393), and issuing an instruction: its cycle, its fetch, and the multiplier results that have completed by then (R359).
-/

namespace Sys2Proof.Machine

/-- An exception as it is met: CODE, KIND, DETAIL and ARG of CAUSE, and BADADDR (Table 11-3). -/
structure CoreExc where
  code : Nat
  kind : Nat := 0
  detail : Nat := 0
  arg : Nat := 0
  bad : Word := 0
  deriving DecidableEq, Repr

/-- Cause codes (Table 11-3). -/
def cInterrupt : Nat := 0x01
def cIllegal : Nat := 0x02
def cPriv : Nat := 0x03
def cAddr : Nat := 0x04
def cAlign : Nat := 0x05
def cPageNp : Nat := 0x06
def cPageBad : Nat := 0x07
def cPagePerm : Nat := 0x08
def cBusErr : Nat := 0x09
def cTrap : Nat := 0x0A
def cBrk : Nat := 0x0B
def cGateBad : Nat := 0x0C
def cGateArg : Nat := 0x0D
def cGateDepth : Nat := 0x0E
def cStackLost : Nat := 0x0F

/-- The CAUSE word of an exception. -/
def causeWord (e : CoreExc) (user xworld : Bool) (src prio : Nat) : Word :=
  BitVec.ofNat 64 (e.code % 256 + 256 * (e.kind % 8) + 4096 * b2n user + 8192 * b2n xworld + 65536 * (e.arg % 256) + 2 ^ 24 * (e.detail % 16)
    + 2 ^ 32 * (src % 1024) + 2 ^ 44 * (prio % 16))

/-- A field of a 64-bit word. -/
def wordBits (v : Word) (lo width : Nat) : Nat := bitsOf v.toNat lo width

/-- An entry grants a kind of access at a level (R376). -/
def entryPermits (e : Nat) (k : AccessKind) (user : Bool) : Bool :=
  (!k.reads || k == .fetch || k == .walk || bitOf e 2) && (!k.writes || bitOf e 3) && (k != .fetch || bitOf e 4) && (!user || bitOf e 5)
  && (user || k != .fetch || !bitOf e 5)

/-- A leaf entry at a level is well formed for an address (R375). -/
def leafOk (e level : Nat) (va : Word) : Bool :=
  bitsOf e 48 14 == 0 && bitsOf e 8 2 != 3 && !(bitOf e 3 && !bitOf e 2) && decide (2 ≤ level)
  && (level != 2 || bitsOf e 12 9 == 0) && (level != 3 || !bitOf e 7 || bitsOf e 12 4 == wordBits va 12 4)

/-- A table entry at a level is well formed. -/
def tableOk (e level : Nat) : Bool := bitsOf e 48 14 == 0 && decide (level < 3)

/-- The index of a level (Table 10-11). -/
def walkIndex (level : Nat) (va : Word) : Nat := wordBits va (39 - 9 * level) 9

/-- An address is canonical while paging is enabled (R354). -/
def canonical (va : Word) : Bool := let hi := wordBits va 47 17; hi == 0 || hi == 2 ^ 17 - 1

/-- Paging is enabled for a world on a pair, and the root of its translation. -/
def State.paging (s : State) (p : PairId) (w : World) : Bool :=
  s.isSet (match w with | .keeper => Reg.MMU_CTRL.PGK.nth p | .tack => Reg.MMU_CTRL.PGT.nth p)
def State.tableRoot (s : State) (p : PairId) (w : World) : Nat :=
  4096 * s.rd (match w with | .keeper => Reg.MMU_TTBK.BASE.nth p | .tack => Reg.MMU_TTBT.BASE.nth p)

/-- A DRAM channel that is not trained, or lost, answers no access (R149). -/
def State.answers (s : State) (a : Nat) : Bool := !inDram a || s.chanHealthy ((a - 0x800000000000) / 0x8000000000)

/-- An access is not answered within 100 µs: FAB_TIMEOUT (Table 14-3). -/
def State.unanswered (s : State) (m a : Nat) : State :=
  s.raise srcFabTimeout (m + 256 * (s.targetOf a).getD 0 + 65536 * (if s.targetOf a = some 2 then slotOf a else 0))

/-- An access of a pair, as its guard checks it (R381). -/
def coreAccess (p : PairId) (w : World) (user : Bool) (k : AccessKind) (a n : Nat) : AccessReq :=
  { master := p.val, world := w, user := user, kind := k, addr := a, len := n }

/-- Pass the guard and reach the target: BUS_ERR with DETAIL 0 where the access is refused (R436), 2 where nothing answers. -/
def State.reach (s : State) (r : AccessReq) : Except CoreExc Unit × State :=
  let bad := (s.forbidden r).getD r.addr
  match s.guard r with
  | (false, s) => (.error { code := cBusErr, kind := r.kind.code, detail := 0, bad := BitVec.ofNat 64 bad }, s)
  | (true, s) =>
    if s.answers r.addr then (.ok (), s)
    else (.error { code := cBusErr, kind := r.kind.code, detail := 2, bad := BitVec.ofNat 64 r.addr }, s.unanswered r.master r.addr)

/-- Read a page table entry: one aligned 64-bit read under the walk's rights (R373, R378). -/
def State.readEntry (s : State) (p : PairId) (w : World) (user : Bool) (a : Nat) (va : Word) : Except CoreExc Nat × State :=
  match s.reach (coreAccess p w user .walk a 8) with
  | (.error e, s) => (.error { e with bad := va }, s)
  | (.ok _, s) =>
    let ((bs, poisoned), s) := s.readChecked a 8
    if poisoned then (.error { code := cBusErr, kind := 5, detail := 1, bad := va }, s) else (.ok (ofLe bs), s)

/-- Walk the levels from a table: the leaf entry and the size of its page (Table 10-11, R375). -/
def State.walk (s : State) (p : PairId) (w : World) (user : Bool) (k : AccessKind) (va : Word) : List Nat → Nat → Except CoreExc (Nat × Nat) × State
  | [], _ => (.error { code := cPageBad, kind := k.code, bad := va }, s)
  | level :: rest, table =>
    match s.readEntry p w user (table + 8 * walkIndex level va) va with
    | (.error e, s) => (.error e, s)
    | (.ok e, s) =>
      if !bitOf e 0 then (.error { code := cPageNp, kind := k.code, bad := va }, s)
      else if bitOf e 1 then
        if leafOk e level va then (.ok (e, if level = 2 then 21 else 12), s) else (.error { code := cPageBad, kind := k.code, bad := va }, s)
      else if tableOk e level then State.walk s p w user k va rest (4096 * bitsOf e 12 36)
      else (.error { code := cPageBad, kind := k.code, bad := va }, s)

/-- A TLB entry matches an address of a world and ASID (R379). -/
def TlbEntry.hits (t : TlbEntry) (w : World) (asid : BitVec 16) (va : Word) : Bool :=
  t.world == w && (bitOf t.entry 6 || t.asid == asid) && va.toNat / 2 ^ t.size == t.page

/-- The physical address that an entry gives. -/
def TlbEntry.physical (t : TlbEntry) (va : Word) : Nat := 4096 * bitsOf t.entry 12 36 / 2 ^ t.size * 2 ^ t.size + va.toNat % 2 ^ t.size

/-- Entries of the second-level TLB (FEAT3). -/
def tlbEntries : Nat := 1024

/-- The translation of an address: from the TLB, or by a walk whose leaf the TLB then holds (R372, R373, R379). -/
def State.lookup (s : State) (p : PairId) (w : World) (user : Bool) (k : AccessKind) (va : Word) : Except CoreExc TlbEntry × State :=
  let asid := ((s.core p).regsOf w).asid
  match (s.core p).tlb.find? (fun t => t.hits w asid va) with
  | some t => (.ok t, s)
  | none =>
    let s := s.bump (Reg.MMU_WALKS.WALKS.nth p)
    match s.walk p w user k va [0, 1, 2, 3] (s.tableRoot p w) with
    | (.error e, s) => (.error e, s)
    | (.ok (e, size), s) =>
      let t : TlbEntry := { world := w, asid := asid, entry := e, page := va.toNat / 2 ^ size, size := size }
      (.ok t, s.updPair p (fun q => { q with tlb := (t :: q.tlb).take tlbEntries }))

/-- Translate an address for an access of a world and level (R354, R372 to R376). -/
def State.translate (s : State) (p : PairId) (w : World) (user : Bool) (k : AccessKind) (va : Word) : Except CoreExc Nat × State :=
  let refuse (c : Nat) : CoreExc := { code := c, kind := k.code, bad := va }
  if !s.paging p w then (if va.toNat < 2 ^ 48 then (.ok va.toNat, s) else (.error (refuse cAddr), s))
  else if !canonical va then (.error (refuse cAddr), s)
  else match s.lookup p w user k va with
    | (.error e, s) => (.error e, s)
    | (.ok t, s) => if entryPermits t.entry k user then (.ok (t.physical va), s) else (.error (refuse cPagePerm), s)

/-- Translate an address and pass its guard: the physical address (R389 item 6). -/
def State.approach (s : State) (p : PairId) (w : World) (user : Bool) (k : AccessKind) (va : Word) (n : Nat) : Except CoreExc Nat × State :=
  match s.translate p w user k va with
  | (.error e, s) => (.error e, s)
  | (.ok a, s) => match s.reach (coreAccess p w user k a n) with
    | (.error e, s) => (.error e, s)
    | (.ok _, s) => (.ok a, s)

/-- The bytes of a register of PERIPH. -/
def State.fetchPeriph (s : State) (w : World) (a n : Nat) : List Byte × State :=
  let read := s.readReg w (slotOf a) (a % 0x10000)
  (leBytes n read.1, read.2)

/-- The bytes of the flash window, and whether the access found no sector to read. -/
def State.fetchFlash (s : State) (a n : Nat) : List Byte × Bool :=
  let sec := (a - 0x100000000) / 4096
  if s.sectorsServe [sec] then (slice (s.flash.sector sec) (a % 4096) n, false) else (List.replicate n 0, true)

/-- The bytes at a physical address that a guard has admitted, and whether they came with poison: a register of PERIPH, the flash window, or
memory through its checker. -/
def State.fetchBytes (s : State) (w : World) (a n : Nat) : (List Byte × Bool) × State :=
  match s.targetOf a with
  | some 2 => let read := s.fetchPeriph w a n; ((read.1, false), read.2)
  | some 4 => (s.fetchFlash a n, s)
  | _ => s.readChecked a n

/-- Write bytes at a physical address that a guard has admitted; a pair's own write leaves its reservation (R358). -/
def State.putBytes (s : State) (p : PairId) (w : World) (a : Nat) (bs : List Byte) : State :=
  match s.targetOf a with
  | some 2 => s.storeReg p.val w (!(s.core p).sup) (slotOf a) ((a - 0x2000000) % 0x10000) (ofLe bs)
  | _ => (s.dropReserved a bs.length (fun k => k == p.val)).storeMem a bs

/-- Read at a virtual address as the running context: poison raises BUS_ERR (Table 11-3). -/
def State.loadBytes (s : State) (p : PairId) (k : AccessKind) (va : Word) (n : Nat) : Except CoreExc (Nat × List Byte) × State :=
  let q := s.core p
  match s.approach p q.world (!q.sup) k va n with
  | (.error e, s) => (.error e, s)
  | (.ok a, s) =>
    let ((bs, poisoned), s) := s.fetchBytes q.world a n
    if poisoned then (.error { code := cBusErr, kind := k.code, detail := 1, bad := va }, s) else (.ok (a, bs), s)

/-- Write at a virtual address as the running context. -/
def State.storeBytes (s : State) (p : PairId) (k : AccessKind) (va : Word) (bs : List Byte) : Except CoreExc Unit × State :=
  let q := s.core p
  match s.approach p q.world (!q.sup) k va bs.length with
  | (.error e, s) => (.error e, s)
  | (.ok a, s) => (.ok (), s.putBytes p q.world a bs)

/-- The multiplier results that have completed by the present cycle are written (R359). -/
def Pair.settle (q : Pair) : Pair :=
  match (q.mul.filter (fun e => decide (e.done ≤ q.cycle))).getLast? with
  | none => q
  | some e => { q with mlo := e.value.setWidth 64, mhi := (e.value >>> 64).setWidth 64, mul := q.mul.filter (fun e => decide (q.cycle < e.done)) }

/-- Wait until the multiplier queue is empty (R361). -/
def Pair.drain (q : Pair) : Pair := ({ q with cycle := if q.mul.isEmpty then q.cycle else max q.cycle q.mulLast }).settle

/-- The stack base at entry to a world (R384). -/
def State.stackBase (s : State) (p : PairId) (w : World) : Word :=
  let q := s.core p
  if q.sup && q.world == w then q.reg 31
  else match q.frames.find? (fun f => statusWorld f.status == w && statusSup f.status) with
    | some f => f.sp
    | none => BitVec.ofNat 64 (8 * (match w with | .keeper => s.rd (Reg.CORE_STK_K.TOP.nth p) | .tack => s.rd (Reg.CORE_STK_T.TOP.nth p)))

/-- Write the words of a frame in order; words written before a failure stay (R386). `phys` writes by physical address (R391). -/
def State.pushWords (s : State) (p : PairId) (w : World) (phys : Bool) : Word → List Word → Bool × State
  | _, [] => (true, s)
  | a, v :: vs =>
    let step := if phys then
        match s.reach (coreAccess p w false .write a.toNat 8) with
        | (.ok _, s) => (Except.ok a.toNat, s)
        | (.error e, s) => (.error e, s)
      else s.approach p w false .write a 8
    match step with
    | (.error _, s) => (false, s)
    | (.ok pa, s) => State.pushWords (s.putBytes p w pa (leBytes 8 v.toNat)) p w phys (a + 8) vs

/-- A pair halts (R391, R393). -/
def State.haltPair (s : State) (p : PairId) : State :=
  (s.wr (Reg.CORE_STATE.PSTATE.nth p) 3).raise (srcCore p 2) p

/-- The emergency stack of a world is in use. -/
def esBusy (p : PairId) (w : World) : Field := match w with | .keeper => Reg.CORE_STATE.ES_BUSY_K.nth p | .tack => Reg.CORE_STATE.ES_BUSY_T.nth p

/-- The end of an entry: the saved registers, the status and the pc (R385). -/
def Pair.entered (q : Pair) (w : World) (ret cause cause2 bad fa : Word) : Pair :=
  let r := q.regsOf w
  let x : WorldRegs := { r with estatus := statusBits w q.status, epc := ret, cause := cause, cause2 := cause2, badaddr := bad }
  let q1 := q.setRegsOf w x
  let q2 : Pair := if q.world = w then q1 else { q1 with mlo := 0, mhi := 0 }
  let q3 := (q2.setWorld w).setIm true
  { (q3.setReg 31 fa) with sup := true, pc := x.entry, waiting := false }

/-- TAKING AN EXCEPTION (R384 to R391): the frame goes on the stack of world `w`, or on the emergency stack where the push fails, or the pair halts;
`ret` is the return address. FAULTS counts the translation faults (MMU_WALKS). -/
def State.enterExc (s : State) (p : PairId) (w : World) (e : CoreExc) (ret : Word) (src prio : Nat) : State :=
  let s := if e.code = cPageNp ∨ e.code = cPageBad ∨ e.code = cPagePerm ∨ (e.code = cBusErr ∧ e.kind = 5) then s.bump (Reg.MMU_WALKS.FAULTS.nth p) else s
  let s := s.updPair p Pair.drain
  let q := s.core p
  let cause := causeWord e (!q.sup) (q.world != w) src prio
  let fa := s.stackBase p w - 64
  let cyc := BitVec.ofNat 64 q.cycle
  let pushed := if fa.toNat % 8 = 0 then s.pushWords p w false fa [ret, q.status, cause, 0, e.bad, q.reg 31, cyc, 0] else (false, s)
  match pushed with
  | (true, s) => (s.dropOwn p).updPair p (fun q => q.entered w ret cause 0 e.bad fa)
  | (false, s) =>
    let top := (s.core p).estack - (match w with | .keeper => 0 | .tack => 2048)
    let ea := top - 64
    let lost := causeWord { code := cStackLost } (!q.sup) (q.world != w) 0 0
    if s.isSet (esBusy p w) then s.haltPair p
    else match s.pushWords p w true ea [ret, q.status, lost, cause, fa, q.reg 31, cyc, e.bad] with
      | (false, s) => s.haltPair p
      | (true, s) => ((s.flag (esBusy p w) true).dropOwn p).updPair p (fun q => q.entered w ret lost cause fa ea)

/-- A synchronous exception of the instruction at pc: it enters the world that runs, and returns to that instruction (R383, R385). -/
def State.raiseExc (s : State) (p : PairId) (e : CoreExc) : State := s.enterExc p (s.core p).world e (s.core p).pc 0 0

/-- An interrupt routed to the pair is pending (R362). -/
def State.routedPending (s : State) (p : PairId) : Bool :=
  (List.range 1024).any (fun n => s.sourcePending n && s.isSet (Reg.IC_ROUTE.EN.nth n) && !s.sourceActive n && s.sourcePair n == some p.val)

/-- A pair issues instructions: it is in service, powered and out of reset, and does not wait for an interrupt (R362, R393). -/
def State.issues (s : State) (p : PairId) : Bool :=
  s.mainOn && s.pstate p == 0 && (!(s.core p).waiting || s.routedPending p)

/-- The fetch at pc: its alignment, translation, rights and poison (R389 item 1). -/
def State.fetchCheck (s : State) (p : PairId) : Except CoreExc Unit × State :=
  let pc := (s.core p).pc
  if pc.toNat % 4 ≠ 0 then (.error { code := cAlign, kind := 3, bad := pc }, s)
  else match s.loadBytes p .fetch pc 4 with
    | (.error e, s) => (.error e, s)
    | (.ok _, s) => (.ok (), s)

/-- Time passes on a pair: `n` cycles, with the multiplier results that complete in them (R359). -/
def State.tick (s : State) (p : PairId) (n : Nat) : State := s.updPair p (fun q => ({ q with cycle := q.cycle + n, waiting := false }).settle)

/-- ISSUING AN INSTRUCTION on a pair after `wait` cycles: nothing where the pair does not issue; the exception of its fetch; else what it does. -/
def State.issue (s : State) (p : PairId) (wait : Nat) (f : State → State) : State :=
  if !s.issues p then s
  else match (s.tick p wait).fetchCheck p with
    | (.error e, s) => s.raiseExc p e
    | (.ok _, s) => f s

/-- The instruction retires in `cost` cycles with a change of the pair's registers, and pc moves past it. -/
def State.retire (s : State) (p : PairId) (cost : Nat) (f : Pair → Pair) : State :=
  s.updPair p (fun q => let r := f q; { r with pc := q.pc + 4, cycle := r.cycle + cost })

/-- An instruction that computes one register from the others (Table 10-4). -/
def State.compute (s : State) (p : PairId) (wait : Nat) (rd : RegId) (f : Pair → Word) : State :=
  s.issue p wait (fun s => s.retire p 1 (fun q => q.setReg rd (f q)))

/-- A privileged instruction: PRIV at user level (R351). -/
def State.privileged (s : State) (p : PairId) (wait : Nat) (f : State → State) : State :=
  s.issue p wait (fun s => if (s.core p).sup then f s else s.raiseExc p { code := cPriv })

end Sys2Proof.Machine
end

