-- ==== Sys2Proof/Machine/Debug.lean ====
section
/-!
DEFINITION. Test access and debug authorisation (R614 to R617): the check of an authorisation, the opening and the end of its scopes, and the
instructions of the test access port (Table 20-8).
-/

namespace Sys2Proof.Machine

/-- Bytes of an authorisation's header, and of an SLH-DSA-SHAKE-256s signature. -/
def debugHeaderBytes : Nat := 128
def slhBytes : Nat := 29792

/-- Codes of DBG_STATUS.ERR. -/
def dbgHeader : Nat := 1
def dbgInstance : Nat := 2
def dbgNonce : Nat := 3
def dbgExpired : Nat := 4
def dbgSigner : Nat := 5
def dbgSignature : Nat := 6
def dbgPresence : Nat := 7
def dbgBusy : Nat := 8

/-- SCOPE, SIGS, NOT_AFTER and the signers of a header (Table 20-9). -/
def DebugIn.scope (x : DebugIn) : Nat := beAt x.header 5 1
def DebugIn.sigs (x : DebugIn) : Nat := beAt x.header 6 1
def DebugIn.notAfter (x : DebugIn) : Nat := beAt x.header 16 8
def DebugIn.signers (x : DebugIn) : List Nat := [beAt x.header 56 16, beAt x.header 72 16].take x.sigs

/-- The header is valid (Table 20-9). -/
def DebugIn.headerOk (x : DebugIn) : Bool :=
  x.header.length == debugHeaderBytes && beAt x.header 0 4 == 0x4C474441 && beAt x.header 4 1 == 1 && decide (x.scope < 16)
  && (x.sigs == 1 || x.sigs == 2) && beAt x.header 7 1 == 0 && beAt x.header 88 40 == 0 && (x.sigs == 2 || beAt x.header 72 16 == 0)
  && x.keys.length == x.sigs && x.signatures.length == x.sigs

/-- Each signer's key ID matches its signature: the key of that ID verifies it over the header (R615, R616). -/
def DebugIn.signed (x : DebugIn) : Bool :=
  (x.signers.zip (x.keys.zip x.signatures)).all (fun g => g.1 == keyIdOf g.2.1 && Config.slhVerify 5 g.2.1 (ascii "LGE9120 debug") x.header g.2.2)

/-- The signers satisfy Table 20-10 for every scope. -/
def State.signersOk (s : State) (x : DebugIn) : Bool :=
  let service := x.signers.contains Config.serviceKeyId.toNat
  if !s.keys.enrolled then service || x.scope == 0
  else
    let owner := match s.keys.ownerRows.getLast? with | some o => x.signers.contains o | none => false
    (x.scope % 4 == 0 || owner || service) && (!bitOf x.scope 2 || owner) && (!bitOf x.scope 3 || (owner && service))

/-- The first failing condition of R616, in the rule's order; 0 where all hold. In the safe state the units that would verify a signature are
stopped (R476). -/
def State.debugError (s : State) (x : DebugIn) : Nat :=
  if !x.headerOk then dbgHeader
  else if beAt x.header 8 8 ≠ Config.deviceInstance.toNat then dbgInstance
  else if slice x.header 24 32 ≠ s.chip.nonce then dbgNonce
  else if x.notAfter ≤ s.time64 ∨ !s.isSet Reg.KNL_STATUS.RTC_VALID then dbgExpired
  else if s.safe ∨ !x.signed then dbgSignature
  else if !s.signersOk x then dbgSigner
  else if s.keys.enrolled ∧ s.pressNow.isNone then dbgPresence
  else if s.keys.custody.isSome then dbgBusy
  else 0

/-- A fresh debug nonce of 32 DRBG bytes (R616). -/
def State.newNonce (s : State) : State :=
  let (v, s) := s.draw 256
  s.updChip (fun c => { c with nonce := beBytes 32 v })

/-- Before KEEPER opens, the main-domain actions of a LOCK response (R617, Table 15-3). -/
def State.lockVault (s : State) : State := (s.clearSlots (fun _ k => vaultWrapped k)).updChip (fun c => { c with debugLock := true })

/-- Open the scopes of an accepted authorisation (R617). -/
def State.openScopes (s : State) (x : DebugIn) : State :=
  let s := if bitOf x.scope 3 then s.lockVault else s
  let bits := (List.range 4).filter (bitOf x.scope)
  let s := s.updChip (fun c => { c with notAfter := bits.foldl (fun t i => tput t i x.notAfter) c.notAfter })
  s.wr Reg.DBG_STATUS.OPEN (s.rd Reg.DBG_STATUS.OPEN ||| x.scope)

/-- Verify an authorisation (R616): its scopes open or nothing changes but DBG_STATUS.ERR, with a Trail record, and the nonce is replaced. True where
it is accepted. -/
def State.debugAuth (s : State) (x : DebugIn) : State × Bool :=
  let e := s.debugError x
  let s := if e = 0 then (if s.keys.enrolled then s.usePress else s).openScopes x else s
  let s := (s.wr Reg.DBG_STATUS.ERR e).trailRec 0x050A masterTap true [BitVec.ofNat 8 x.scope, BitVec.ofNat 8 e]
  (s.newNonce, e == 0)

/-- DEBUG_AUTH: an authorisation arrives through the TAP's DBG_AUTH, and Keeper firmware verifies it (R615, R616); one that arrives through 0x9004 does
so at its SEG_END. -/
def execDebugAuth (x : DebugIn) (s : State) : Host.Outcome State Fault Refusal :=
  if !s.mainOn ∨ !s.chip.booted then ok s else ok ((s.updChip (fun c => { c with tapIr := 0x11 })).debugAuth x).1

/-- DEBUG_EXPIRY: the next NOT_AFTER passes, and its scopes close (R617); what opening KEEPER did lasts until the next main-domain reset. -/
def execDebugExpiry (s : State) : Host.Outcome State Fault Refusal :=
  match argMin Prod.snd s.chip.notAfter with
  | none => ok s
  | some (_, t) =>
    let s := s.advance (t + 30518 - s.rtc)
    let gone := tkeys s.chip.notAfter (fun _ u => u == t)
    let s := s.updChip (fun c => { c with notAfter := tkeep c.notAfter (fun _ u => u != t) })
    ok (gone.foldl (fun s i => s.setBit Reg.DBG_STATUS.OPEN i false) s)

/-- Load a TAP instruction; one that is not available acts as BYPASS (Table 20-8). The port works while PWR_OK is high. -/
def State.tapInstr (s : State) (code : Nat) (available : Bool) (f : State → State) : State :=
  if !s.chip.powerOk then s
  else if available then f (s.updChip (fun c => { c with tapIr := code, tapHighz := false }))
  else (s.updChip (fun c => { c with tapIr := 0xFF, tapHighz := false })).emit .tap 0xFF [0]

/-- Scope BSCAN is open. -/
def State.bscanOpen (s : State) : Bool := bitOf (s.rd Reg.DBG_STATUS.OPEN) 0

/-- BYPASS: one bit of 0 stands between TDI and TDO (IEEE 1149.1). -/
def execBypass (s : State) : Host.Outcome State Fault Refusal := ok (s.tapInstr 0xFF true (fun s => s.emit .tap 0xFF [0]))

/-- IDCODE: 0x1912_076B is shifted out (R614). -/
def execIdcode (s : State) : Host.Outcome State Fault Refusal := ok (s.tapInstr 0x01 true (fun s => s.emit .tap 0x01 [0x1912076B]))

/-- SAMPLE/PRELOAD: the pins are sampled and shifted out, and the boundary cells preloaded. -/
def execSamplePreload (pins preload : Nat) (s : State) : Host.Outcome State Fault Refusal :=
  ok (s.tapInstr 0x02 true (fun s => (s.updChip (fun c => { c with tapSamples := pins, tapPins := preload })).emit .tap 0x02 [pins]))

/-- EXTEST, under scope BSCAN: the boundary cells drive the pins, the inputs are sampled and shifted out, and new values loaded. -/
def execExtest (pins next : Nat) (s : State) : Host.Outcome State Fault Refusal :=
  ok (s.tapInstr 0x03 s.bscanOpen (fun s => (s.updChip (fun c => { c with tapSamples := pins, tapPins := next })).emit .tap 0x03 [pins]))

/-- CLAMP, under scope BSCAN: the boundary cells drive the pins, with the bypass bit between TDI and TDO. -/
def execClamp (s : State) : Host.Outcome State Fault Refusal := ok (s.tapInstr 0x04 s.bscanOpen (fun s => s.emit .tap 0x04 [0]))

/-- HIGHZ, under scope BSCAN: the outputs float, with the bypass bit between TDI and TDO. -/
def execHighz (s : State) : Host.Outcome State Fault Refusal :=
  ok (s.tapInstr 0x05 s.bscanOpen (fun s => (s.updChip (fun c => { c with tapHighz := true })).emit .tap 0x05 [0]))

/-- DBG_NONCE: the 32-byte debug nonce is shifted out (Table 20-8). -/
def execDbgNonce (s : State) : Host.Outcome State Fault Refusal := ok (s.tapInstr 0x10 true (fun s => s.emit .tap 0x10 [] s.chip.nonce))

/-- DBG_ACCESS, under scope TACK or KEEPER: a read of `len` bytes, or a write of `data`, as master 92 through the guard (R617, Table 12-7); a refused
access is recorded by the guard and moves nothing. -/
def execDbgAccess (write : Bool) (addr len : Nat) (data : List Byte) (s : State) : Host.Outcome State Fault Refusal :=
  let o := s.rd Reg.DBG_STATUS.OPEN
  ok (s.tapInstr 0x12 (bitOf o 2 || bitOf o 3) (fun s =>
    let n := if write then data.length else len
    if !s.mainOn ∨ n = 0 then s
    else match s.guard (unitAccess masterTap (if write then .write else .read) addr n) with
      | (false, s) => s.emit .tap 0x12 [0]
      | (true, s) =>
        if write then
          (if s.targetOf addr = some 2 then s.storeReg 0 .keeper false (slotOf addr) ((addr - 0x2000000) % 0x10000) (ofLe data) else s.writeMem addr data).emit .tap 0x12 [1]
        else
          let ((bs, poisoned), s) := s.fetchBytes .keeper addr n
          s.emit .tap 0x12 [1, b2n poisoned] bs))

/-- TEST_RESET: TRST_N low resets the TAP controller: IDCODE is selected and the pins are the chip's own again (R606, IEEE 1149.1). -/
def execTestReset (s : State) : Host.Outcome State Fault Refusal :=
  ok (if s.chip.powerOk then s.updChip (fun c => { c with tapIr := 0x01, tapHighz := false }) else s)

end Sys2Proof.Machine
end

