-- ==== Sys2Proof/Machine/Dictionary.lean ====
section
/-!
DEFINITION. The object dictionary (Tables 18-6 to 18-12): its types (Table 18-5), and each entry with its access, its roles, its range and its home: a
register field, other state of the machine, a session, or the dictionary itself.
-/

namespace Sys2Proof.Machine

/-- Status codes of Table 18-4. -/
def xOk : Nat := 0x0000
def xRunning : Nat := 0x0001
def xBadOpcode : Nat := 0x0101
def xBadField : Nat := 0x0102
def xAuthFailed : Nat := 0x0103
def xSessionLimit : Nat := 0x0105
def xNoEntry : Nat := 0x0201
def xNoSub : Nat := 0x0202
def xRole : Nat := 0x0203
def xReadOnly : Nat := 0x0204
def xWriteOnly : Nat := 0x0205
def xType : Nat := 0x0206
def xRange : Nat := 0x0207
def xState : Nat := 0x0208
def xBusy : Nat := 0x0209
def xPresence : Nat := 0x020A
def xStale : Nat := 0x020B
def xHash : Nat := 0x020C
def xInvalid : Nat := 0x020D
def xNotAvailable : Nat := 0x020E
def xFailed : Nat := 0x020F
def xTooMany : Nat := 0x0210

/-- The types of Table 18-5; OCTETS and STRING with their length. -/
inductive DictType where
  | bool | u8 | u16 | u32 | u64 | i32 | i64 | time64
  | octets (n : Nat)
  | string (n : Nat)
  | slot | domain
  deriving DecidableEq, Repr

def DictType.code : DictType → Nat
  | .bool => 1
  | .u8 => 2
  | .u16 => 3
  | .u32 => 4
  | .u64 => 5
  | .i32 => 6
  | .i64 => 7
  | .time64 => 8
  | .octets _ => 9
  | .string _ => 10
  | .slot => 11
  | .domain => 12

/-- Bytes of a value; for STRING the greatest number. -/
def DictType.len : DictType → Nat
  | .bool | .u8 => 1
  | .u16 | .slot => 2
  | .u32 | .i32 => 4
  | .u64 | .i64 | .time64 => 8
  | .octets n | .string n => n
  | .domain => 0

/-- A value's bytes read as the number its type means. -/
def DictType.value (t : DictType) (v : Nat) : Int :=
  match t with
  | .i32 => signedOf 32 v
  | .i64 => signedOf 64 v
  | _ => v

/-- Access kinds (Table 0-5, R562). -/
inductive DictAccess where
  | ro | rw | wo | cmd
  deriving DecidableEq, Repr

/-- Role sets of the Roles column: O, P, C and V. -/
def rO : Nat := 1
def rP : Nat := 2
def rC : Nat := 4
def rV : Nat := 8

/-- A role may do what a role set lists: its own letter, or O, which stands for every role (R570, Table 18-4a; an operator's ATTEST shows it). -/
def roleMay (role set : Nat) : Bool := bitOf set 0 || (decide (1 ≤ role) && bitOf set (role - 1))

/-- What a write of an entry does beyond keeping its value (Tables 18-6 to 18-12). -/
inductive DictEffect where
  /-- Nothing. -/
  | keep
  /-- The register field that the entry mirrors takes it. -/
  | field (f : Field)
  /-- The session takes it. -/
  | session (set : SmlSession → Nat → SmlSession)
  /-- The management address changes after two seconds. -/
  | address
  /-- The vendor window begins to count. -/
  | vendorWindow
  /-- The cores are shared out again. -/
  | hashCores
  /-- The self-test enables. -/
  | testEnables
  /-- One part of the selected source's configuration. -/
  | source (set : Nat × Nat × Nat → Nat → Nat × Nat × Nat)
  /-- A monitor's response. -/
  | monitor (m : Nat)
  /-- The alarm pin's HOLD. -/
  | pinHold
  /-- The time. -/
  | time

/-- An entry of the catalogue: its place, type, access, roles, range, and whether it is saved; its value as the bits of its encoding; what a write does
beyond keeping the value; whether the dictionary keeps the value; and a further reason to refuse a value, 0 for none. -/
structure DictEntry where
  idx : Nat
  sub : Nat
  typ : DictType
  acc : DictAccess
  rd : Nat
  wr : Nat
  lo : Int := 0
  hi : Int := 0
  saved : Bool := false
  kept : Bool := false
  get : State → SmlSession → Nat
  put : DictEffect := .keep
  why : State → SmlSession → Nat → Nat := fun _ _ _ => 0

/-- The instance of an entry that a session's selection names: the namespace of 0x2101 and 0x2102, the source of 0x5011. -/
def dictInst (x : SmlSession) (idx : Nat) : Nat := if idx = 0x2101 ∨ idx = 0x2102 then x.nsSelect else if idx = 0x5011 then x.srcSelect else 0

/-- A read-only entry. -/
def ro (idx sub : Nat) (t : DictType) (rd : Nat) (get : State → SmlSession → Nat) : DictEntry :=
  { idx := idx, sub := sub, typ := t, acc := .ro, rd := rd, wr := 0, get := get }

/-- An entry that the dictionary itself holds. -/
def own (idx sub : Nat) (t : DictType) (rd wr : Nat) (lo hi : Int) (saved : Bool := true) : DictEntry :=
  { idx := idx, sub := sub, typ := t, acc := .rw, rd := rd, wr := wr, lo := lo, hi := hi, saved := saved, kept := true
    get := fun s x => s.dictVal idx sub (dictInst x idx) }

/-- An entry that mirrors a register field. -/
def mirror (idx sub : Nat) (t : DictType) (rd wr : Nat) (f : Field) (lo hi : Int) (saved : Bool := true) : DictEntry :=
  { idx := idx, sub := sub, typ := t, acc := .rw, rd := rd, wr := wr, lo := lo, hi := hi, saved := saved, kept := saved
    get := fun s _ => s.rd f, put := .field f }

/-- A signed 32-bit entry that mirrors a signed register field. -/
def mirrorSigned (idx sub : Nat) (rd wr : Nat) (f : Field) (lo hi : Int) : DictEntry :=
  { idx := idx, sub := sub, typ := .i32, acc := .rw, rd := rd, wr := wr, lo := lo, hi := hi, saved := true, kept := true
    get := fun s _ => (signedOf f.width (s.rd f) % 2 ^ 32).toNat, put := .field f }

/-- A command entry with the type of its argument. -/
def cmdEntry (idx : Nat) (t : DictType) (wr : Nat) (lo hi : Int) : DictEntry :=
  { idx := idx, sub := 0, typ := t, acc := .cmd, rd := wr, wr := wr, lo := lo, hi := hi, get := fun s _ => tgetD s.smilia.status idx 0 }

/-- A DOMAIN entry. -/
def domainEntry (idx : Nat) (acc : DictAccess) (rd wr : Nat) (saved : Bool) : DictEntry :=
  { idx := idx, sub := 0, typ := .domain, acc := acc, rd := rd, wr := wr, saved := saved, get := fun _ _ => 0 }

/-- A value of `w` bits that a session keeps. -/
def sessionEntry (idx : Nat) (t : DictType) (hi : Int) (get : SmlSession → Nat) (set : SmlSession → Nat → SmlSession) : DictEntry :=
  { idx := idx, sub := 0, typ := t, acc := .rw, rd := rO, wr := rO, lo := 0, hi := hi, get := fun _ x => get x
    put := .session set }

/-- A refusal where a condition fails. -/
def refuseUnless (c : Bool) (e : Nat) : Nat := if c then 0 else e

/-- SERVICE_STATE (0x1006). -/
def State.serviceCode (s : State) : Nat := if s.safe then 3 else if s.svc = .seal then 2 else 1

/-- A counter of a unit that the present state lacks reads zero (R549). -/
def State.sealCounter (s : State) (v : Nat) : Nat := if s.sealRuns then v else 0

/-- A whole register as Keeper firmware reads it, without the effects of a read. -/
def State.wholeReg (s : State) (slot off : Nat) : Nat := match regAt slot off with | some x => s.regValue x .keeper % 2 ^ 32 | none => 0

/-- A write of an address entry waits two seconds from its response (R548). -/
def State.addrChange (s : State) : State := s.updSmilia (fun m => { m with pendingAddr := some (s.now + 2 * second) })

/-- An entry of the management address (0x1100). -/
def addrEntry (sub : Nat) (t : DictType) (lo hi : Int) : DictEntry := { own 0x1100 sub t rO rP lo hi with put := .address }

/-- UDP_EN and RAW_EN: the register holds what is in force, and takes a new value with the address (R548, MGT_CTRL). -/
def addrSwitch (sub : Nat) (f : Field) : DictEntry :=
  { mirror 0x1100 sub .bool rO rP f 0 1 with get := fun s _ => (tget s.dict (dictKey 0x1100 sub 0)).getD f.resetValue, put := .address }

/-- Table 18-6. -/
def catalogue1 : List DictEntry :=
  [ro 0x1000 0 (.string 16) rO (fun _ _ => 0),
   ro 0x1001 0 .u64 rO (fun _ _ => Config.deviceInstance.toNat),
   ro 0x1002 0 .u32 rO (fun _ _ => Config.romId.toNat),
   ro 0x1003 0 .u32 rO (fun s _ => s.chip.image.version),
   domainEntry 0x1004 .ro rO 0 false,
   domainEntry 0x1005 .ro rO 0 false,
   ro 0x1006 0 .u8 rO (fun s _ => s.serviceCode),
   cmdEntry 0x1010 .u8 rP 1 10,
   addrEntry 1 (.octets 16) 0 (2 ^ 128 - 1),
   addrEntry 2 .u8 0 128,
   addrEntry 3 (.octets 4) 0 (2 ^ 32 - 1),
   addrEntry 4 .u8 0 32,
   addrEntry 5 .u16 0 4094,
   addrSwitch 6 Reg.MGT_CTRL.UDP_EN,
   addrSwitch 7 Reg.MGT_CTRL.RAW_EN,
   own 0x1200 1 .u8 rO rP 1 16,
   own 0x1200 2 .u16 rO rP 10 3600,
   own 0x1200 3 .u8 rO rP 1 100,
   domainEntry 0x1201 .rw rP rP true,
   domainEntry 0x1202 .ro rP 0 false,
   { own 0x1203 0 .u16 rO rP 0 1440 false with put := .vendorWindow }]

/-- A policy entry of the selected namespace (0x2101). -/
def policy (sub : Nat) (t : DictType) (hi : Int) : DictEntry := own 0x2101 sub t rO rP 0 hi

/-- The caps of a namespace lie in the ranges of SHP_CAPS, or are zero (R572). -/
def capsOk (v : Nat) : Bool := decide (v / 65536 ≤ 8) && (decide (v / 256 % 256 ≤ 8) || v / 256 % 256 == 15) && decide (v % 256 ≤ 8)

/-- Table 18-7. -/
def catalogue2 : List DictEntry :=
  [own 0x2000 1 .u32 rO rP 50 10000, own 0x2000 2 .u32 rO rP 20 1000, own 0x2000 3 .u32 rO rP 10 60000, own 0x2000 4 .u32 rO rP 100 600000,
   own 0x2000 5 .u32 rO rP 1 10000, own 0x2000 6 .u32 rO rP 0 86400, own 0x2000 7 .u32 rO rP 1 600,
   { own 0x2001 0 (.octets 16) rO rP 0 (2 ^ 128 - 1) with why := fun _ _ v => refuseUnless (bitOf v 0) xRange },
   domainEntry 0x2002 .rw rO rP true,
   own 0x2003 1 .u16 rO rP 0 65535, own 0x2003 2 .u32 rO rP 0 (2 ^ 30),
   ro 0x2004 1 .u32 rO (fun s _ => s.sealCounter (s.queue.sessions.filter (fun kv => kv.2.state == .established)).length),
   ro 0x2004 2 .u32 rO (fun s _ => s.sealCounter (s.queue.queues.filter (fun kv => kv.2.state == .openQ)).length),
   ro 0x2004 3 .u64 rO (fun s _ => s.sealCounter s.queue.bytesIn),
   ro 0x2004 4 .u64 rO (fun s _ => s.sealCounter s.queue.bytesOut),
   ro 0x2004 5 .u64 rO (fun s _ => s.sealCounter s.queue.settledObjects),
   sessionEntry 0x2100 .u16 4095 SmlSession.nsSelect (fun x v => { x with nsSelect := v }),
   { policy 1 .bool 1 with why := fun s x v => refuseUnless (v == 0 || (tget s.keys.nsEpoch x.nsSelect).isSome) xState },
   policy 2 .u8 255, policy 3 .u8 255, policy 4 .u8 255, policy 5 .u8 255, policy 6 .u8 255, policy 7 .u8 255, policy 8 .u8 255,
   policy 9 .bool 1, policy 10 .bool 1, policy 11 (.octets 8) (2 ^ 64 - 1),
   { policy 12 (.octets 3) (2 ^ 24 - 1) with why := fun _ _ v => refuseUnless (capsOk v) xRange },
   { ro 0x2101 13 .u32 rO (fun s x => tgetD s.keys.nsEpoch x.nsSelect 0) with wr := rP },
   domainEntry 0x2102 .rw rP rP true]

/-- The four enables of SHP_ST_CTRL as one value (0x3007.01). -/
def testEnables : List Field := [Reg.SHP_ST_CTRL.STU, Reg.SHP_ST_CTRL.PACK, Reg.SHP_ST_CTRL.AWL, Reg.SHP_ST_CTRL.CORE]

/-- Table 18-8. -/
def catalogue3 : List DictEntry :=
  [mirror 0x3000 0 .bool rO rP Reg.SHP_CTRL.EN 0 1 false,
   mirror 0x3001 0 .u64 rP rP Reg.SHP_SEED.SEED 0 (2 ^ 64 - 1),
   mirror 0x3002 1 .u8 rO rP Reg.SHP_CAPS.SHELF 0 8,
   { mirror 0x3002 2 .u8 rO rP Reg.SHP_CAPS.GROUP 0 15 with why := fun _ _ v => refuseUnless (decide (v ≤ 8) || v == 15) xRange },
   mirror 0x3002 3 .u8 rO rP Reg.SHP_CAPS.TRAY 1 8,
   mirror 0x3003 1 .u8 rO rP Reg.SHP_PWRF.ON 0 255, mirror 0x3003 2 .u8 rO rP Reg.SHP_PWRF.WAKING 0 255,
   mirror 0x3003 3 .u8 rO rP Reg.SHP_PWRF.OFF 0 255, mirror 0x3003 4 .u8 rO rP Reg.SHP_PWRF.STOPPING 0 255,
   mirror 0x3004 1 .u16 rO rP Reg.SHP_FACT.WEAR_KNEE 0 1023,
   { mirror 0x3004 2 .u16 rO rP Reg.SHP_FACT.WEAR_END 0 1023 with why := fun s _ v => refuseUnless (decide (s.rd Reg.SHP_FACT.WEAR_KNEE < v)) xRange },
   mirrorSigned 0x3004 3 rO rP Reg.SHP_TEMP.KNEE (-128) 127,
   { mirrorSigned 0x3004 4 rO rP Reg.SHP_TEMP.MAX (-128) 127 with
     why := fun s _ v => refuseUnless (decide (signedOf 8 (s.rd Reg.SHP_TEMP.KNEE) < signedOf 32 v)) xRange },
   mirror 0x3005 1 .u8 rO rP Reg.SHP_PWR.MAX_ON 1 64, mirror 0x3005 2 .u8 rO rP Reg.SHP_PWR.MAX_WAKING 1 15,
   mirror 0x3005 3 .u16 rO rP Reg.SHP_PWR.WAKE_GB 1 65535, mirror 0x3005 4 .u16 rO rP Reg.SHP_PTIME0.WAKE_AGE 1 4095,
   mirror 0x3005 5 .u16 rO rP Reg.SHP_PTIME0.MIN_ON 0 4095, mirror 0x3005 6 .u16 rO rP Reg.SHP_PTIME1.IDLE_OFF 1 4095,
   mirror 0x3005 7 .u16 rO rP Reg.SHP_PTIME1.WAKE_TMO 10 4095,
   { mirror 0x3006 1 .u8 rO rP Reg.SHP_POOL.HASH_CORES 8 120 with put := .hashCores },
   mirror 0x3006 2 .u16 rO rP Reg.SHP_POOL.RESERVE 0 500,
   { own 0x3007 1 .u8 rO rP 0 15 with
     get := fun s _ => ofBits (testEnables.map s.isSet)
     put := .testEnables },
   mirror 0x3007 2 .u8 rO rP Reg.SHP_ST_CTRL.NIGHT_HOUR 0 23, mirror 0x3007 3 .u8 rO rP Reg.SHP_ST_CTRL.NIGHT_LEN 1 15,
   mirror 0x3007 4 .u8 rO rP Reg.SHP_ST_CTRL.LOAD_PCT 0 255,
   domainEntry 0x3010 .rw rO rP true, domainEntry 0x3011 .rw rO rP true, domainEntry 0x3012 .rw rO rP true,
   ro 0x3013 1 .u64 rO (fun s _ => s.sealCounter (s.rd Reg.SHP_PLACED.PLACED)),
   ro 0x3013 2 .u32 rO (fun s _ => s.sealCounter (s.rd Reg.SHP_EVENTS.RELAXED)),
   ro 0x3013 3 .u32 rO (fun s _ => s.sealCounter (s.rd Reg.SHP_EVENTS.RETARGET))]

/-- OWNER_KEY_ID (0x4003): the highest owner fuse row that is not released (R460), zero without one. -/
def State.ownerKeyId (s : State) : Nat := if s.keys.enrolled then s.keys.ownerRows.getLastD 0 else 0

/-- Table 18-9. -/
def catalogue4 : List DictEntry :=
  [ro 0x4000 1 .bool rO (fun s _ => b2n s.keys.enrolled), ro 0x4000 2 .bool rO (fun s _ => b2n s.keyed), ro 0x4000 3 .bool rO (fun s _ => b2n s.escrowed),
   ro 0x4000 4 .u32 rO (fun s _ => (match s.bank with | some v => v.gen | none => 0)),
   ro 0x4000 5 .u8 rO (fun s _ => b2n s.keys.custody.isSome), ro 0x4000 6 .u16 rO (fun s _ => s.keys.lastOutcome),
   domainEntry 0x4001 .ro rO 0 true, domainEntry 0x4002 .ro rO 0 true,
   ro 0x4003 0 (.octets 16) rO (fun s _ => s.ownerKeyId),
   cmdEntry 0x4010 .domain rO 0 0,
   ro 0x4011 0 (.octets 32) rO (fun s _ => s.keys.enrollNonce),
   cmdEntry 0x4012 (.octets 2) rC 0 65535, cmdEntry 0x4014 (.octets 2) rC 0 65535,
   cmdEntry 0x4013 .u32 rC 0 (2 ^ 32 - 1),
   cmdEntry 0x4015 .u16 rP 0 4095, cmdEntry 0x4016 .u16 rP 0 4095, cmdEntry 0x4017 .u16 rC 0 4095,
   cmdEntry 0x4018 .bool rP 0 1, cmdEntry 0x4019 .bool rC 0 1,
   domainEntry 0x4020 .ro rC 0 true, domainEntry 0x4021 .rw rO rC true,
   mirror 0x4022 1 .u16 rO rC Reg.SDB_PRES.WINDOW_S 10 600, mirror 0x4022 2 .u16 rO rC Reg.SDB_PRES.QUORUM_S 60 1023,
   cmdEntry 0x4030 (.octets 32) rO 0 (2 ^ 256 - 1),
   domainEntry 0x4031 .ro rO 0 false]

/-- One part of a source's configuration (0x5011), kept within its limits (R467). -/
def sourceEntry (sub : Nat) (get : Nat × Nat × Nat → Nat) (set : Nat × Nat × Nat → Nat → Nat × Nat × Nat) : DictEntry :=
  { own 0x5011 sub .u8 rO rP 0 255 with
    get := fun s x => get (s.sourceCfg x.srcSelect)
    put := .source set
    why := fun s x v => let (c, r, l) := set (s.sourceCfg x.srcSelect) v; refuseUnless (s.cfgAllowed x.srcSelect c r l) xRange }

/-- A monitor's response (0x5022), within Table 15-2. -/
def monitorEntry (m : Nat) : DictEntry :=
  { own 0x5022 (m + 1) .u8 rO rC 0 3 with
    get := fun s _ => s.rd (Reg.KNL_MON.RESP.nth m)
    put := .monitor m
    why := fun s _ v => refuseUnless (s.monOk m v (s.isSet (Reg.KNL_MON.EN.nth m))) xRange }

/-- Table 18-10. -/
def catalogue5 : List DictEntry :=
  [ro 0x5000 1 .bool rO (fun s _ => b2n s.safe), ro 0x5000 2 .u16 rO (fun s _ => s.rd Reg.FCU_SAFE_SRC.SRC),
   ro 0x5000 3 .u8 rO (fun s _ => min 255 (s.collector.windows.filter (fun w => w.reaction != rSafe)).length),
   mirror 0x5001 0 .u8 rO rP Reg.FCU_CFG.NEST 0 1,
   mirror 0x5002 1 .u16 rO rP Reg.FCU_PIN.PULSE 1 1000, mirror 0x5002 2 .u8 rO rP Reg.FCU_PIN.CLASS 0 3,
   { mirror 0x5002 3 .bool rO rP Reg.FCU_PIN.HOLD 0 1 false with
     put := .pinHold },
   sessionEntry 0x5010 .u16 1023 SmlSession.srcSelect (fun x v => { x with srcSelect := v }),
   sourceEntry 1 (fun c => c.1) (fun c v => (v, c.2.1, c.2.2)), sourceEntry 2 (fun c => c.2.1) (fun c v => (c.1, v, c.2.2)),
   sourceEntry 3 (fun c => c.2.2) (fun c v => (c.1, c.2.1, v)),
   ro 0x5012 0 (.octets 32) rO (fun s x => ofBe (s.faultRec x.srcSelect).bytes),
   cmdEntry 0x5013 .u16 rP 0 1023,
   domainEntry 0x5014 .ro rO 0 false,
   ro 0x5020 0 .u32 rO (fun s _ => s.wholeReg 0xF0 0),
   { mirrorSigned 0x5021 1 rO rC Reg.KNL_TEMP.LOW (-80) 150 with why := fun s _ v => refuseUnless (decide (signedOf 32 v < signedOf 9 (s.rd Reg.KNL_TEMP.HIGH))) xRange },
   { mirrorSigned 0x5021 2 rO rC Reg.KNL_TEMP.HIGH (-80) 150 with why := fun s _ v => refuseUnless (decide (signedOf 9 (s.rd Reg.KNL_TEMP.LOW) < signedOf 32 v)) xRange },
   mirror 0x5023 0 .u16 rO rC Reg.KNL_LOG.INTERVAL 1 1440,
   cmdEntry 0x5024 .bool rC 0 1, cmdEntry 0x5025 .bool rC 0 1]
  ++ (List.range 15).map monitorEntry

/-- A signed number of m°C as its 32 bits. -/
def i32Bits (v : Int) : Nat := (v % 2 ^ 32).toNat

/-- Table 18-11. -/
def catalogue6 : List DictEntry :=
  (List.range 64).map (fun i => ro 0x6000 (i + 1) .i32 rO (fun s _ => i32Bits (s.telemetry.reading s.telemetry.temps i)))
  ++ [ro 0x6001 1 .u32 rO (fun s _ => s.telemetry.power), ro 0x6001 2 .u32 rO (fun s _ => s.telemetry.core),
   ro 0x6002 1 .u8 rO (fun s _ => (s.staging.chans.map (fun c => c.2.dimms.length)).foldl max 0),
   ro 0x6002 2 .u16 rO (fun s _ => s.rd Reg.CLK_STATUS.DRAM_MTS), ro 0x6002 3 .u16 rO (fun s _ => s.rd Reg.STG_CHSTATE.HEALTHY),
   ro 0x6002 4 .u64 rO (fun s _ => (channels.map s.freePages).sum),
   mirror 0x6010 1 .u8 rO rP Reg.BRN_CFG.SHARE_PCT 1 20, mirror 0x6010 2 .u8 rO rP Reg.BRN_CFG.PATROL_H 1 168,
   mirror 0x6010 3 .u16 rO rP Reg.BRN_SCRUB.SRAM_SCRUB_MS 100 10000, mirror 0x6010 4 .u16 rO rP Reg.PCK_REVERIFY.AGE 60 65535,
   mirror 0x6010 5 .u8 rO rP Reg.RST_CFG.REPAIR_PCT 1 100, mirror 0x6010 6 .u8 rO rP Reg.BRN_CFG.RETRAIN_STEP_C 5 30,
   mirror 0x6010 7 .u8 rO rP Reg.BRN_CFG.TELEMETRY_MS 1 100,
   mirror 0x7000 1 .u8 rO rP Reg.PNL_CFG.DEB_MS 5 100, mirror 0x7000 2 .u8 rO rP Reg.PNL_CFG.LONG_S 2 15, mirror 0x7000 3 .u8 rO rP Reg.PNL_CFG.STUCK_S 5 60]
  ++ (List.range 4).map (fun n => mirror 0x7001 (n + 1) .u8 rO rP (Reg.PNL_LED.MODE.nth n) 0 4 false)
  ++ [mirror 0x7002 1 .bool rO rP Reg.NFC_CTRL.EN 0 1, mirror 0x7002 2 .bool rO rP Reg.NFC_CTRL.DETECT 0 1, mirror 0x7002 3 .u8 rO rP Reg.NFC_CTRL.TXPWR 0 3,
   mirror 0x7002 4 .u8 rO rP Reg.NFC_CTRL.RATE_MAX 0 3, mirror 0x7002 5 .bool rO rP Reg.NFC_CTRL.TYPE_B 0 1,
   mirror 0x7002 6 .u16 rO rP Reg.NFC_DETECT.PERIOD_MS 50 2000, mirror 0x7002 7 .u8 rO rP Reg.NFC_DETECT.THRESH 1 255,
   mirror 0x7002 8 .u8 rO rP Reg.NFC_CKIN.WINDOW_H 1 255,
   ro 0x7003 0 .u32 rO (fun s _ => s.wholeReg 0x101 8),
   domainEntry 0x7004 .ro rP 0 false,
   mirror 0x7005 1 .bool rO rP Reg.SC_CTRL.EN 0 1, mirror 0x7005 2 .u8 rO rP Reg.SC_CTRL.SPEED_MAX 0 3, mirror 0x7005 3 .bool rO rP Reg.SC_CTRL.WIDTH4 0 1,
   mirror 0x7005 4 .bool rO rP Reg.SC_CTRL.V18 0 1, mirror 0x7005 5 .bool rO rP Reg.SC_CTRL.AUTO_SLEEP 0 1, mirror 0x7005 6 .u8 rO rP Reg.SC_CTRL.IDLE_MS 1 255,
   mirror 0x7005 7 .u8 rO rP Reg.SC_TMO.POLL_S 1 15, mirror 0x7005 8 .u16 rO rP Reg.SC_TMO.ERASE_S 10 1023,
   ro 0x7006 1 .u8 rO (fun s _ => s.rd Reg.SC_STATUS.STATE), ro 0x7006 2 .u16 rO (fun s _ => s.rd Reg.SC_STATUS.BUNDLES),
   ro 0x7006 3 .bool rO (fun s _ => s.rd Reg.SC_STATUS.TORN_SEEN), ro 0x7006 4 .u32 rO (fun s _ => s.rd Reg.SC_CAP.BLOCKS),
   cmdEntry 0x7007 .u8 rP 3 6, cmdEntry 0x7008 .u16 rP 0 65535]

/-- Set the RTC as KNL_RTC_SET does (R503). -/
def State.setTime (s : State) (t : Nat) : State :=
  if !s.isSet Reg.KNL_STATUS.RTC_VALID ∨ s.svc ≠ .seal then
    ((s.setRtc t).updKennel (fun k => { k with slew := 0 })).flag Reg.KNL_STATUS.RTC_VALID true
  else s.updKennel (fun k => { k with slew := (t : Int) - (s.rtc : Int) })

/-- Table 18-12. -/
def catalogue7 : List DictEntry :=
  [{ idx := 0x8000, sub := 0, typ := .time64, acc := .rw, rd := rO, wr := rP, hi := 2 ^ 64 - 1, get := fun s _ => s.time64, put := .time },
   ro 0x8001 0 .i32 rO (fun s _ => i32Bits (signedOf 16 (s.rd Reg.KNL_TRIM.PPM10))),
   own 0x8002 0 .u16 rO rP 4800 7680]
  ++ (List.range 8).map (fun i => ro 0x8003 (i + 1) .u16 rO (fun s _ => s.telemetry.rails.getD i 0))
  ++ [{ ro 0x8004 1 .i32 rO (fun s _ => i32Bits ((s.telemetry.tj.getD 0) / 1000)) with wr := rP }, own 0x8004 2 .i32 rO rP 90 125,
   { ro 0x8004 3 .i32 rO (fun _ _ => 130) with wr := rP },
   ro 0x8005 1 .u16 rO (fun s _ => s.rd Reg.KNL_VBAT.VBAT), ro 0x8005 2 .u16 rO (fun s _ => s.rd Reg.KNL_VBAT.VKEEP),
   ro 0x8005 3 .u8 rO (fun s _ => s.rd Reg.KNL_STATUS.CELL_STATE),
   cmdEntry 0x9000 .u8 rP 0 4,
   domainEntry 0x9001 .ro rO 0 false,
   cmdEntry 0x9002 (.octets 8) (rP + rV) 0 (2 ^ 64 - 1), cmdEntry 0x9003 (.octets 4) rV 0 (2 ^ 32 - 1),
   domainEntry 0x9004 .wo 0 rV false,
   ro 0xA000 0 .u64 rO (fun s _ => s.trail.newest), ro 0xA001 0 .u64 rO (fun s _ => s.trailOldest),
   sessionEntry 0xA002 .u64 (2 ^ 64 - 1) SmlSession.cursor (fun x v => { x with cursor := v }),
   domainEntry 0xA003 .ro rO 0 false,
   ro 0xF000 0 (.octets 32) rV (fun s _ => ofBe s.chip.nonce)]

/-- Every entry of the dictionary (R570). -/
def dictionary : List DictEntry := catalogue1 ++ catalogue2 ++ catalogue3 ++ catalogue4 ++ catalogue5 ++ catalogue6 ++ catalogue7

/-- The entry at an index and a subindex. -/
def dictEntry (idx sub : Nat) : Option DictEntry := dictionary.find? (fun e => e.idx == idx && e.sub == sub)

/-- The subindices of an index. -/
def dictSubs (idx : Nat) : List Nat := (dictionary.filter (fun e => e.idx == idx)).map DictEntry.sub

/-- Checks 1 to 3 of R561, for a role and a role set chosen from the entry: the entry, or the first that fails. -/
def dictFind (role idx sub : Nat) (set : DictEntry → Nat) : Except Nat DictEntry :=
  if (dictSubs idx).isEmpty ∨ (0xF000 ≤ idx ∧ role ≠ 4) then .error xNoEntry
  else match dictEntry idx sub with
    | none => .error xNoSub
    | some e => if roleMay role (set e) then .ok e else .error xRole

/-- The value of an entry as its bytes (R563). -/
def State.entryValue (s : State) (x : SmlSession) (e : DictEntry) : List Byte :=
  match e.acc, e.typ with
  | .cmd, _ => beBytes 4 (e.get s x)
  | _, .string _ => ascii "LGE9120"
  | _, t => beBytes t.len (e.get s x)

/-- The TYPE code that goes with an entry's value: a CMD entry reads as a U32 (R562). -/
def DictEntry.typeCode (e : DictEntry) : Nat := if e.acc = .cmd then 4 else e.typ.code

/-- Apply a value as a session writes it. -/
def State.applyEffect (s : State) (e : DictEffect) (sid v : Nat) : State :=
  match e with
  | .keep => s
  | .field f => s.wr f v
  | .session set => s.updSmilia (fun m => { m with sessions := tmod m.sessions sid (fun x => set x v) })
  | .address => s.addrChange
  | .vendorWindow => s.updSmilia (fun m => { m with vendorTick := s.now })
  | .hashCores => (s.wr Reg.SHP_POOL.HASH_CORES v).balancePools
  | .testEnables => ((List.range 4).zip testEnables).foldl (fun s f => s.flag f.2 (bitOf v f.1)) s
  | .source set =>
    let src := (tgetD s.smilia.sessions sid {}).srcSelect
    let (c, r, l) := set (s.sourceCfg src) v
    s.setSourceCfg src c r l
  | .monitor m => s.setMonitor m v (s.isSet (Reg.KNL_MON.EN.nth m))
  | .pinHold => let s := s.flag Reg.FCU_PIN.HOLD (v == 1); s.flag Reg.FCU_PIN.LEVEL (s.collector.pulseEnd.isNone && s.restLevel)
  | .time => s.setTime v

/-- Keep a value of the dictionary, and apply it. -/
def State.putDict (s : State) (sid : Nat) (e : DictEntry) (v : Nat) : State :=
  let x := tgetD s.smilia.sessions sid {}
  let s := if e.kept then s.setDict e.idx e.sub v (dictInst x e.idx) else s
  s.applyEffect e.put sid v

/-- A write of a value fails one of the checks 6 and 7 of R561, or another of the entry's own; 0 where it passes. -/
def State.valueRefusal (s : State) (x : SmlSession) (e : DictEntry) (bs : List Byte) : Nat :=
  if e.typ = .domain ∨ bs.length ≠ e.typ.len then xType
  else
    let v := ofBe bs
    let w := e.why s x v
    if w = xState then xState
    else if e.typ.value v < e.lo ∨ e.hi < e.typ.value v then xRange
    else w

/-- Apply what is saved of the entries that mirror other state (R565); `only` chooses the indices. The instance of a source's configuration stands in its
key. -/
def State.applySaved (s : State) (only : Nat → Bool) : State :=
  s.dict.foldl (fun s kv =>
    let idx := kv.1 / 4096 / 256
    let sub := kv.1 / 4096 % 256
    if !only idx then s
    else match dictEntry idx sub with
      | none => s
      | some e =>
        if !e.saved ∨ idx = 0x1100 then s
        else if idx = 0x5011 then
          let (c, r, l) := s.sourceCfg (kv.1 % 4096)
          s.setSourceCfg (kv.1 % 4096) (if sub = 1 then kv.2 else c) (if sub = 2 then kv.2 else r) (if sub = 3 then kv.2 else l)
        else s.applyEffect e.put 0 kv.2) s

/-- The addresses that the dictionary holds: 0x1100.01 to .05. -/
def State.dictAddr (s : State) : List Nat := (rangeFrom 1 5).map (fun i => s.dictVal 0x1100 i)

/-- Put the dictionary's addresses and carriers in force (R548). -/
def State.takeAddr (s : State) : State :=
  let s := s.flag Reg.MGT_CTRL.UDP_EN ((tget s.dict (dictKey 0x1100 6 0)).getD 1 == 1)
  let s := s.flag Reg.MGT_CTRL.RAW_EN ((tget s.dict (dictKey 0x1100 7 0)).getD 1 == 1)
  s.updSmilia (fun m => { m with addr := s.dictAddr, pendingAddr := none })

/-- Kennel entries: what KENNEL_POR loses and Keeper firmware applies again (R565). -/
def kennelIndex (idx : Nat) : Bool := idx == 0x5021 || idx == 0x5022 || idx == 0x5023

/-- KENNEL_POR: VDD_IO33 or VBAT above 2.2 V after DEAD (Table 15-1): banks and latches cleared, configuration at defaults, RTC_VALID 0, KSEQ 0,
the KENNEL_POR event; then Keeper firmware applies the saved Kennel entries again (R565). -/
def execKennelPor (mains : Bool) (r : Reading) (s : State) : Host.Outcome State Fault Refusal :=
  if !s.kennel.dead then ok s
  else
    let s := s.kennelDefaults.updKeys (fun k => { k with bankA := none, bankB := none, activeB := false, rotating := false })
    let s := (s.setRtc 0).updKennel (fun _ => { dead := false, queue := [], toCollar := [], slew := 0, lowSeen := false, lastLog := s.now })
    let s := (s.wr Reg.KNL_STATUS.SUPPLY (if mains then 0 else 1)).wr Reg.KNL_STATUS.CELL_STATE (if 2200 ≤ r.vbat then cellOk else cellAbsent)
    let s := s.kennelEvent 14 r
    ok (if s.lit && s.mainOn then s.applySaved kennelIndex else s)

end Sys2Proof.Machine
end

