-- ==== Sys2Proof/Machine/SmlBase.lean ====
section
/-!
DEFINITION. Smilia's frames (R547 to R554), what an arriving frame must pass, reassembly and the answers kept (R552, R559), the bytes of DOMAIN entries
(R566), and change notifications (R568, R569).
-/

namespace Sys2Proof.Machine


/-- A Smilia session by its ID. -/
def State.sml (s : State) (sid : Nat) : Option SmlSession := tget s.smilia.sessions sid
def State.setSml (s : State) (sid : Nat) (x : SmlSession) : State := s.updSmilia (fun m => { m with sessions := tput m.sessions sid x })
def State.updSml (s : State) (sid : Nat) (f : SmlSession → SmlSession) : State := s.updSmilia (fun m => { m with sessions := tmod m.sessions sid f })

/-- Opcodes of Table 18-2. -/
def smHello : Nat := 0x01
def smHelloReply : Nat := 0x02
def smAuth : Nat := 0x03
def smKeyUpdate : Nat := 0x04
def smClose : Nat := 0x05
def smCloseAck : Nat := 0x06
def smKeepalive : Nat := 0x07
def smReset : Nat := 0x08
def smRead : Nat := 0x10
def smWrite : Nat := 0x11
def smSegRead : Nat := 0x12
def smSegBegin : Nat := 0x13
def smSegWrite : Nat := 0x14
def smSegEnd : Nat := 0x15
def smSegAbort : Nat := 0x16
def smSubscribe : Nat := 0x20
def smUnsubscribe : Nat := 0x21
def smNotify : Nat := 0x30
def smNotifyAck : Nat := 0x31

/-- The fields of a frame's header (Table 18-1). -/
def SmlIn.version (f : SmlIn) : Nat := beAt f.header 0 1
def SmlIn.opcode (f : SmlIn) : Nat := beAt f.header 1 1
def SmlIn.flags (f : SmlIn) : Nat := beAt f.header 2 2
def SmlIn.session (f : SmlIn) : Nat := beAt f.header 4 4
def SmlIn.seq (f : SmlIn) : Nat := beAt f.header 8 8
def SmlIn.req (f : SmlIn) : Nat := beAt f.header 16 4
def SmlIn.offset (f : SmlIn) : Nat := beAt f.header 20 4
def SmlIn.len (f : SmlIn) : Nat := beAt f.header 24 2
def SmlIn.prot (f : SmlIn) : Bool := bitOf f.flags 0
def SmlIn.last (f : SmlIn) : Bool := bitOf f.flags 1

/-- The UDP port and the EtherType of Smilia (R550). -/
def smlPort : Nat := 47020
def smlEtherType : Nat := 0x88B5

/-- Raw Ethernet carries the frame. -/
def SmlNet.raw : SmlNet → Bool
  | .udp _ _ _ _ _ => false
  | .ether _ _ _ => true

/-- The sender of a frame as one number. -/
def SmlNet.sender : SmlNet → Nat
  | .udp v6 src _ sport _ => ((src * 65536 + sport) * 2 + b2n v6) * 2
  | .ether src _ _ => 2 * src + 1

/-- The device's address of an IP version in a list of management addresses (0x1100: IPv6 address, prefix, IPv4 address, mask, VLAN). -/
def mgmtAddr (addrs : List Nat) (v6 : Bool) : Nat := addrs.getD (if v6 then 0 else 2) 0

/-- A frame comes to the address in force, or with `old` to the one before it (R547, R548, R550); raw Ethernet has one address. -/
def State.smlToUs (s : State) (old : Bool) : SmlNet → Bool
  | .ether _ dst typ => typ == smlEtherType && dst == Config.macAddress.toNat
  | .udp v6 _ dst _ dport =>
    let a := match s.smilia.oldAddr with | some (was, _, _) => if old then mgmtAddr was v6 else mgmtAddr s.smilia.addr v6 | none => mgmtAddr s.smilia.addr v6
    dport == smlPort && dst == a && a != 0

/-- The carrier of a frame is enabled (MGT_CTRL). -/
def State.smlCarrier (s : State) (n : SmlNet) : Bool := s.isSet (if n.raw then Reg.MGT_CTRL.RAW_EN else Reg.MGT_CTRL.UDP_EN)

/-- The header passes R47 and R552 (R553): VERSION, LENGTH against the frame, the reserved bits, the greatest payload; the tag stands there exactly
where PROT says so. -/
def SmlIn.headerOk (f : SmlIn) : Bool :=
  f.header.length == 28 && f.version == 1 && f.len == f.payload.length && decide (f.flags < 8) && beAt f.header 26 2 == 0 && decide (f.len ≤ 1400)
    && f.tag.isSome == f.prot

/-- The opcodes that a client sends (Table 18-2). -/
def smlClientOps : List Nat := [0x01, 0x03, 0x04, 0x05, 0x07, 0x08, 0x10, 0x11, 0x12, 0x13, 0x14, 0x15, 0x16, 0x20, 0x21, 0x31]

/-- The fields that say where a frame goes (R550): the UDP ports, the addresses and the IP version, or the EtherType and the MAC addresses. -/
def State.smlLink (s : State) (n : SmlNet) (old : Bool) : List Nat :=
  match n with
  | .udp v6 src _ sport _ =>
    let own := match s.smilia.oldAddr with | some (was, _, _) => if old then mgmtAddr was v6 else mgmtAddr s.smilia.addr v6 | none => mgmtAddr s.smilia.addr v6
    [smlPort, sport, own, src, b2n v6]
  | .ether src _ _ => [smlEtherType, Config.macAddress.toNat, src]

/-- The frame header (Table 18-1). -/
def smlHeader (op flags sid seq req off len : Nat) : List Byte :=
  [1, BitVec.ofNat 8 op] ++ beBytes 2 flags ++ beBytes 4 sid ++ beBytes 8 seq ++ beBytes 4 req ++ beBytes 4 off ++ beBytes 2 len ++ [0, 0]

/-- The session is answered at the address in force before the last change (R548); raw Ethernet has no such address. -/
def State.atOld (s : State) (sid : Nat) : Bool := match s.smilia.oldAddr with | some (_, _, ids) => ids.contains sid | none => false

/-- The management port receives and sends (MGT_CTRL.EN), in HEEL and SEAL and in the safe state (R549). -/
def State.mgmtServes (s : State) : Bool := s.lit && s.mainOn && s.isSet Reg.MGT_CTRL.EN

/-- Send one protected frame under the session's present key (R553): its bytes, and where it goes. -/
def State.smlRaw (s : State) (sid op flags req off : Nat) (payload : List Byte) : State :=
  match s.sml sid with
  | none => s
  | some x =>
    let fl := flags + 1
    let hdr := smlHeader op fl sid x.txSeq req off payload.length
    let (ct, tag) := gcmSeal x.txKey (x.txSalt * 2 ^ 64 + x.txSeq) hdr payload
    (s.setSml sid { x with txSeq := x.txSeq + 1 }).emit (.smilia sid) op ([fl, x.txSeq, req, off] ++ s.smlLink x.link (s.atOld sid)) (hdr ++ ct ++ beBytes 16 tag)

/-- Send a protected frame, after a KEY_UPDATE where the key is worn (R555, R59). -/
def State.smlFrame (s : State) (sid op flags req off : Nat) (payload : List Byte) : State :=
  match s.sml sid with
  | none => s
  | some x =>
    if !s.mgmtServes then s
    else if keyWornAt x.txSeq then
      ((s.smlRaw sid smKeyUpdate 2 0 0 (beBytes 4 (x.txGen + 1))).updSml sid (fun x => { x with txKey := nextKey x.txKey "LGE9120 SM update", txGen := x.txGen + 1 })).smlRaw sid op flags req off payload
    else s.smlRaw sid op flags req off payload

/-- Send a message in segments of at most 1,400 bytes (R552). -/
def State.smlSend (s : State) (sid op req : Nat) (msg : List Byte) (retx : Bool := false) : State :=
  ((cutBytes 1400 64 msg).foldl (fun (st : State × Nat) p =>
    (st.1.smlFrame sid op (2 * b2n (decide (st.2 + p.length = msg.length)) + 4 * b2n retx) req st.2 p, st.2 + p.length)) (s, 0)).1

/-- Send an unprotected message: HELLO_REPLY, or a RESET that answers a HELLO (R553). -/
def State.smlPlain (s : State) (n : SmlNet) (op sid : Nat) (msg : List Byte) : State :=
  if !s.mgmtServes then s
  else ((cutBytes 1400 64 msg).foldl (fun (st : State × Nat) p =>
    let fl := 2 * b2n (decide (st.2 + p.length = msg.length))
    (st.1.emit .mgmtLink op ([fl, 0, 0, st.2] ++ s.smlLink n false) (smlHeader op fl sid 0 0 st.2 p.length ++ p), st.2 + p.length)) (s, 0)).1

/-- An unprotected RESET with a status (Table 18-2). -/
def State.plainReset (s : State) (n : SmlNet) (code : Nat) : State := s.smlPlain n smReset 0 (beBytes 2 code ++ [0, 0])

/-- A frame is discarded and counted (MGT_EVENTS.DROPPED). -/
def State.dropMgmt (s : State) : State := s.bump Reg.MGT_EVENTS.DROPPED

/-- A frame's tag is that of AES-256-GCM under a key of its session: the header is the AAD, the IV the peer's salt and SEQ (R48, R553). -/
def SmlSession.tagUnder (x : SmlSession) (key : Nat) (f : SmlIn) : Bool := f.tag == some (gcmSeal key (x.rxSalt * 2 ^ 64 + f.seq) f.header f.payload).2

/-- A frame passes its tag check under the session's receive key, or under the one before while that still serves (R48, R59, R553). -/
def State.smlTagGood (s : State) (x : SmlSession) (f : SmlIn) : Bool :=
  !x.erased && (x.tagUnder x.rxKey f || (match x.prevKey with | some (k, until_) => decide (s.now < until_) && x.tagUnder k f | none => false))

/-- The opcodes that AUTH_WAIT processes (Table 2-4). -/
def smlWaitsFor (op : Nat) : Bool := op == smAuth || op == smKeepalive || op == smClose || op == smReset

/-- Answer a request: its opcode with bit 7 set, under its REQ (R554). -/
def State.smlReply (s : State) (sid op req : Nat) (payload : List Byte) : State := s.smlSend sid (op + 0x80) req payload

/-- A protected frame arrives for the command `op` (R547 to R553): its carrier, header, session, address and tag, its SEQ (a repeated one has no further effect), and the
session's state (Table 2-4 under R556); an opcode that no client sends is answered BAD_OPCODE, and one that is another command's is left to it
(assumption 123). The second part is the session where its opcode is to be processed. -/
def State.acceptSml (s : State) (f : SmlIn) (op : Nat) : State × Option SmlSession :=
  if !s.mgmtServes ∨ (f.opcode ≠ op ∧ f.opcode ∈ smlClientOps) then (s, none)
  else if !f.headerOk ∨ !f.prot ∨ !s.smlCarrier f.net then (s.dropMgmt, none)
  else match s.sml f.session with
    | none => (s.dropMgmt, none)
    | some x =>
      if x.raw ≠ f.net.raw ∨ !s.smlToUs (s.atOld f.session) f.net ∨ !s.smlTagGood x f then (s.dropMgmt, none)
      else if x.state = .closed then (if op = smClose ∧ f.opcode = op then s.smlSend f.session smCloseAck 0 [] else s, none)
      else if inRanges f.seq x.received then (s, none)
      else
        let x := { x with received := insertNum f.seq x.received, lastFrame := s.now }
        let s := s.setSml f.session x
        if f.opcode ≠ op ∨ (x.state = .authWait ∧ !smlWaitsFor op) then (s.smlReply f.session (f.opcode % 128) f.req (beBytes 2 xBadOpcode), none)
        else (s, some x)

/-- The session closes (R556): its handles, subscriptions and messages go, and its keys where Table 2-4 erases them. -/
def State.closeSml (s : State) (sid : Nat) (erase : Bool) : State :=
  let s := s.updSmilia (fun m => { m with writes := tkeep m.writes (fun _ w => w.session != sid) })
  s.updSml sid (fun x =>
    let x := { x with state := .closed, closedAt := some s.now, bufs := [], replies := [], reads := [], subs := [], notes := [], report := [] }
    if erase then { x with erased := true, rxKey := 0, txKey := 0, rxSalt := 0, txSalt := 0, prevKey := none } else x)

/-- Put a segment of a message into its buffer (R552, R65: one that repeats an offset changes nothing); the message's bytes where it is complete. -/
def takeSegment (now : Nat) (b : Option SmlBuf) (off : Nat) (last : Bool) (data : List Byte) : SmlBuf × Option (List Byte) :=
  let b := b.getD { since := now, parts := [], endAt := none }
  let parts := if b.parts.any (fun p => p.1 == off) then b.parts else b.parts ++ [(off, data)]
  let endAt := if last then some (off + data.length) else b.endAt
  ({ b with parts := parts, endAt := endAt }, match endAt with | some n => if complete parts n then some (joined parts) else none | none => none)

/-- The greatest message (R552). -/
def smlLongest : Nat := 65536

/-- A segment of a message of an established session: it goes into the reassembly buffer under its REQ, of at most four (R552); a longer message is
discarded. The second part is the message where it is complete. -/
def State.assemble (s : State) (sid key off : Nat) (last : Bool) (data : List Byte) : State × Option (List Byte) :=
  match s.sml sid with
  | none => (s, none)
  | some x =>
    let held := tget x.bufs key
    if smlLongest < off + data.length then (s.setSml sid { x with bufs := tdel x.bufs key }, none)
    else match takeSegment s.now held off last data with
      | (_, some msg) => (s.setSml sid { x with bufs := tdel x.bufs key }, some msg)
      | (b, none) =>
        if held.isNone && decide (4 ≤ x.bufs.length) then (s, none)
        else (s.setSml sid { x with bufs := tput x.bufs key b }, none)

/-- What a session's ADMISSION, SESSIONS and such lists read as: one session of 0x1202 (R571). -/
def sessionRow (sid : Nat) (x : SmlSession) : List Byte := beBytes 4 sid ++ beBytes 1 x.role ++ [0, 0, 0] ++ beBytes 16 x.keyId ++ beBytes 8 x.since

/-- The Trail records that a read of 0xA003 covers: up to 1,024 from the session's cursor, or from the oldest held (R577). -/
def State.trailFrom (s : State) (cursor : Nat) : List (List Byte) :=
  let from_ := max cursor s.trailOldest
  (s.ringRecords.filter (fun b => decide (from_ ≤ recSeq b))).take 1024

/-- The live escrow set as 0x4020 exports it: its envelopes in index order, then each badge's key ID and public keys (R313; this order is the model's). -/
def EscrowSet.bytes (e : EscrowSet) : List Byte :=
  e.envelopes.flatMap Envelope.bytes ++ e.badges.flatMap (fun b => beBytes 16 b.keyId ++ leBytes 32 b.x25519 ++ padTo 1568 b.mlkem)

/-- The sticky bits of all sources as a bitmap of 128 bytes (0x5014). -/
def State.stickyMap (s : State) : List Byte :=
  (List.range 128).map (fun i => BitVec.ofNat 8 (ofBits ((List.range 8).map (fun b => (s.faultRec (8 * i + b)).sticky))))

/-- The content of a DOMAIN entry as a session reads it (R563, R566). -/
def State.domainBytes (s : State) (x : SmlSession) (idx : Nat) : List Byte :=
  match idx with
  | 0x1004 => s.keys.chain.getD 1 []
  | 0x1005 => s.keys.chain.getD 0 []
  | 0x1202 => (s.smilia.sessions.filter (fun kv => kv.2.state == .established)).flatMap (fun kv => sessionRow kv.1 kv.2)
  | 0x3010 => s.shepherd.media.flatMap (fun kv => mediaEntry kv.1 kv.2)
  | 0x3011 => s.shepherd.shelves.flatMap (fun kv => s.shelfEntry kv.1)
  | 0x4020 => (match s.keys.live with | some e => e.bytes | none => [])
  | 0x4031 => x.report
  | 0x5014 => s.stickyMap
  | 0x7004 => s.collarBytes 0 65536
  | 0x9001 => s.chip.testResults
  | 0xA003 => (s.trailFrom x.cursor).flatten
  | _ => s.domain idx 0 (dictInst x idx)

/-- What a subscription compares: an entry's value, or a DOMAIN entry's content. -/
def State.watched (s : State) (x : SmlSession) (e : DictEntry) : List Byte :=
  if e.typ = .domain ∧ e.acc ≠ .cmd then s.domainBytes x e.idx else s.entryValue x e

/-- The FLAGS of a NOTIFY. -/
def nfCoalesced : Nat := 1
def nfDomain : Nat := 2
def nfEnded : Nat := 4

/-- Send a NOTIFY of a subscription's entry (Table 18-3) and wait for its acknowledgement (R569). -/
def State.notify (s : State) (sid n : Nat) (e : DictEntry) (flags seq : Nat) : State :=
  match s.sml sid with
  | none => s
  | some x =>
    let dom := decide (e.typ = .domain ∧ e.acc ≠ .cmd)
    let payload := beBytes 4 x.nextNote ++ beBytes 2 n ++ [BitVec.ofNat 8 (flags + if dom then nfDomain else 0), BitVec.ofNat 8 e.typeCode] ++ beBytes 2 e.idx
      ++ [BitVec.ofNat 8 e.sub, 0] ++ beBytes 8 seq ++ (if dom then [] else s.entryValue x e)
    let note : SmlNote := { number := x.nextNote, sub := n, payload := payload, sentAt := s.now, resends := 0 }
    (s.setSml sid { x with nextNote := (x.nextNote + 1) % 2 ^ 32, notes := x.notes ++ [note], subs := tmod x.subs n (fun u => { u with lastSent := some s.now }) }).smlSend sid smNotify 0 payload

/-- The entries of a subscription. -/
def SmlSub.entries (u : SmlSub) : List DictEntry :=
  if u.sub = 0xFF then (dictSubs u.idx).filterMap (fun k => dictEntry u.idx k) else (dictEntry u.idx u.sub).toList

/-- Look at one entry of a subscription (R568): a change is notified, or held within the minimum interval after the last NOTIFY; `seq` is the Trail
number of the change. -/
def State.watchEntry (s : State) (sid n seq : Nat) (e : DictEntry) : State :=
  match s.sml sid with
  | none => s
  | some x =>
    match tget x.subs n with
    | none => s
    | some u =>
      let v := s.watched x e
      if tget u.seen e.sub = some v then s
      else
        let quiet : Bool := match u.lastSent with | some t => decide (s.now < t + u.interval * msec) | none => false
        let u : SmlSub := { u with seen := tput u.seen e.sub v, held := if quiet then tput u.held e.sub seq else tdel u.held e.sub }
        let s := s.setSml sid { x with subs := tput x.subs n u }
        if quiet then s else s.notify sid n e 0 seq

/-- Look at every subscription for changes (R568); the changes that this finds carry the Trail number `seq`. -/
def State.scan (s : State) (seq : Nat) : State :=
  if !s.mgmtServes then s
  else
    let all := (s.smilia.sessions.filter (fun kv => kv.2.state == .established)).flatMap (fun kv => kv.2.subs.flatMap (fun u => u.2.entries.map (fun e => (kv.1, u.1, e))))
    all.foldl (fun s w => s.watchEntry w.1 w.2.1 seq w.2.2) s

/-- Execute a request and answer it (R559 to R561): REQ 0 is refused, a REQ 32 or more below the highest is discarded, one answered before is answered
from the store, and a complete message is executed once. `run` gives the response and the Trail number of the change it made. -/
def State.smlRequest (s : State) (f : SmlIn) (op : Nat) (run : State → SmlSession → List Byte → State × List Byte × Nat) : State :=
  match s.acceptSml f op with
  | (s, none) => s
  | (s, some x) =>
    if x.state ≠ .established then s
    else if f.req = 0 then s.smlReply f.session op 0 (beBytes 2 xBadField)
    else if f.req + 32 ≤ x.topReq then s
    else match x.replies.find? (fun r => r.req == f.req) with
      | some r => if f.last then s.smlSend f.session r.op r.req r.payload true else s
      | none =>
        let s := s.setSml f.session { x with topReq := max x.topReq f.req }
        match s.assemble f.session f.req f.offset f.last f.payload with
        | (s, none) => s
        | (s, some msg) =>
          let s := s.scan 0
          let (s, answer, seq) := run s ((s.sml f.session).getD x) msg
          let reply : SmlReply := { req := f.req, op := op + 0x80, payload := answer }
          let s := s.updSml f.session (fun x => if x.state = .closed then x else
            { x with replies := (x.replies ++ [reply]).filter (fun r => decide (x.topReq < r.req + 32)) })
          (s.smlReply f.session op f.req answer).scan seq

end Sys2Proof.Machine
end

