-- ==== Sys2Proof/Machine/Custody.lean ====
section
/-!
DEFINITION. The custody operations (Table 8-8, R302 to R316): what each needs, badges and their authentication (R306, R309), escrow envelopes (R312),
restoration (R314), and what each operation does when its badges are complete.
-/

namespace Sys2Proof.Machine

/-- The device state that an operation needs (Table 8-8); a namespace operation also needs its namespace to exist, or for NS_CREATE not to (R572). -/
def State.custodyMay (s : State) (k : CustodyKind) (ns : Nat) : Bool :=
  let here := (tget s.keys.nsEpoch ns).isSome
  !s.safe && (match k with
    | .enroll => !s.keys.enrolled
    | .escrowCreate => s.keys.enrolled && (s.keys.live.isNone || s.keyed)
    | .vaultRestore => s.keys.enrolled && !s.keyed
    | .vaultRotate => s.keyed && s.escrowed
    | .nsDestroy => s.keyed && here
    | .manifestKeyChange => s.keyed
    | .ownerRelease => s.keys.enrolled
    | .nsCreate => s.keyed && s.escrowed && !here
    | .nsRotate => s.keyed && s.escrowed && here)

/-- The operation needs a presence press (Table 8-8). -/
def CustodyKind.presence (k : CustodyKind) : Bool := k != .nsCreate && k != .nsRotate

/-- Badges of the live or named set that the operation needs. -/
def State.liveNeeded (s : State) (c : CustodyOp) : Nat :=
  match c.kind with
  | .escrowCreate | .vaultRestore | .vaultRotate | .nsDestroy | .ownerRelease => (s.keys.live.map EscrowSet.t).getD 0
  | .enroll | .manifestKeyChange | .nsCreate | .nsRotate => 0

/-- New badges that the operation needs. -/
def CustodyOp.freshNeeded (c : CustodyOp) : Nat := if c.kind = .escrowCreate ∨ c.kind = .vaultRotate then c.n else 0

/-- The badges of the operation are complete. -/
def State.badgesDone (s : State) (c : CustodyOp) : Bool := decide (s.liveNeeded c ≤ c.live.length ∧ c.freshNeeded ≤ c.fresh.length)

/-- Start a custody operation (R308): its press consumed, OP_START recorded with the low byte of its index (the code is the model's) and the role. -/
def State.beginCustody (s : State) (k : CustodyKind) (sid role set t n ns : Nat) : State :=
  let s := if k.presence then s.usePress else s
  let op : CustodyOp := { kind := k, session := sid, start := s.now, set := set, t := t, n := n, ns := ns, live := [], fresh := [], filled := [] }
  (s.updKeys (fun q => { q with custody := some op })).trailRec 0x0305 masterSaddlebag true [BitVec.ofNat 8 k.index, BitVec.ofNat 8 role]

def State.updCustody (s : State) (f : CustodyOp → CustodyOp) : State := s.updKeys (fun q => { q with custody := q.custody.map f })

/-- Fill the lowest free transient slot for the operation. -/
def State.fillTransient (s : State) (value attr : Nat) : State :=
  let used := (s.keys.slots.map Prod.fst).filter transientSlot
  let i := lowestFree (used.length + 1) 0x100 used
  if transientSlot i then (s.fillSlot i value attr).updCustody (fun c => { c with filled := c.filled ++ [i] }) else s

/-- Attribute words of the keys that Keeper firmware generates (Tables 8-1 and 8-3). -/
def manifestSeedAttr : Nat := 3 * 16 + 2 ^ 9
def manifestPrfAttr : Nat := 4 * 16 + 2 ^ 9
def indexKeyAttr : Nat := 2 * 16 + 2 ^ 9
def namespaceAttr (ns e : Nat) : Nat := 2 ^ 8 + ns * 2 ^ 16 + e * 2 ^ 32
def secretAttr : Nat := 8 * 16 + 2 ^ 11

/-- GEN and WRAP of each slot in turn, until one fails (R299, R300, R320). -/
def State.genWrapped (s : State) (saved : Bool) : List (Nat × Nat) → State × Nat
  | [] => (s, eOk)
  | (slot, attr) :: rest =>
    if !s.drbgOk then (s, eBadArg)
    else
      let (v, s) := s.draw 256
      let s := (s.fillSlot slot v attr).updKeys (fun k => { k with drbgRequests := 0, drbgAt := s.now })
      let (s, e) := s.wrap slot saved
      if e = eOk then State.genWrapped s saved rest else (s, e)

/-- Drop records of the key store. -/
def State.dropRecords (s : State) (p : KeyRecord → Bool) : State := s.updKeys (fun k => { k with store := tkeep k.store (fun _ r => !p r) })

/-- A new key epoch of a namespace: generated, wrapped and made current (R288, R289). -/
def State.newEpoch (s : State) (ns e : Nat) (saved : Bool) : State × Nat :=
  if 2 ^ 32 ≤ e then (s, eBadArg)
  else match s.namespaceRoom with
    | none => (s, eFull)
    | some (sl, s) =>
      let (s, r) := s.genWrapped saved [(sl, namespaceAttr ns e)]
      let (s, r) := if r = eOk then (match s.slot sl with | some k => s.makeCurrent sl k | none => (s, eEmpty)) else (s, r)
      if r = eOk then (s, eOk) else (s.clearSlots (fun i _ => i == sl), r)

/-- NS_DESTROY (R290): the namespace's slots, map entries and records go, and ENABLED becomes 0 (R572). -/
def State.destroyNs (s : State) (ns : Nat) : State :=
  let s := s.clearSlots (fun i k => namespaceSlot i && attrKind k.attr == 0 && attrNs k.attr == ns)
  let s := s.dropRecords (fun r => r.sysSlot == 0 && r.ns == ns)
  (s.updKeys (fun k => { k with nsEpoch := tdel k.nsEpoch ns, current := tdel k.current ns, resident := tkeep k.resident (fun i _ => i / 2 ^ 32 != ns) })).setDict 0x2101 1 0 ns

/-- Set a DOMAIN entry's content. -/
def State.setDomain (s : State) (idx : Nat) (bs : List Byte) (inst : Nat := 0) : State := { s with domains := tput s.domains (dictKey idx 0 inst) bs }

/-- The manifest key's public key and certificate take their place in the flash store (R216, Table 8-7), and the next epoch carries GENESIS (R302,
R304). -/
def State.issueManifest (s : State) (cert : List Byte) : State :=
  let (pkSeed, s) := s.draw 256
  ((s.setDomain 0x4101 (Config.slhPublic 6 (s.slotValue 3) pkSeed)).setDomain 0x4001 cert).updPack (fun p => { p with genesis := true })

/-- A manifest key change (R304): the old key is zeroed. -/
def State.changeManifest (s : State) (saved : Bool) (cert : List Byte) : State × Nat :=
  if s.vault.isNone then (s, eNoVault)
  else if !s.drbgOk then (s, eBadArg)
  else if !saved then (s, eFlashFail)
  else
    let s := (s.clearSlots (fun i _ => i == 3 || i == 4)).dropRecords (fun r => r.sysSlot == 3 || r.sysSlot == 4)
    let (s, e) := s.genWrapped saved [(3, manifestSeedAttr), (4, manifestPrfAttr)]
    if e = eOk then (s.issueManifest cert, eOk) else (s, e)

/-- OWNER_RELEASE (R304): the vault key, what it protects and the escrow sets go, and the device is unenrolled; its namespaces exist no more. -/
def State.releaseOwner (s : State) : State :=
  let gone := s.keys.nsEpoch.map Prod.fst
  let s := s.clearSlots (fun _ k => vaultWrapped k)
  let s := (s.dropRecords (fun r => !r.fuse)).updKeys (fun k => { k with
    bankA := none, bankB := none, activeB := false, rotating := false, live := none, pendingSet := none, enrolled := false, nsEpoch := [], current := [], resident := [] })
  let s := gone.foldl (fun s ns => s.setDict 0x2101 1 0 ns) (s.flag Reg.KNL_STATUS.LOCKED false)
  (((s.setDomain 0x4001 []).setDomain 0x4002 []).setDomain 0x4101 []).updPack (fun p => { p with genesis := true })

/-- The envelope of share `i` for a badge (R312, Table 8-9). -/
def State.envelope (s : State) (c : CustodyOp) (id : Nat) (v : VaultBank) (i : Nat) (b : Badge) (share : List Byte) : Envelope × State :=
  let (m, s) := s.draw 256
  let (scalar, s) := s.draw 256
  let (ssk, ct) := Config.mlkemEncaps b.mlkem m
  let head := beBytes 4 0x4C475345 ++ [1, BitVec.ofNat 8 i, BitVec.ofNat 8 c.t, BitVec.ofNat 8 c.n] ++ beBytes 8 Config.deviceInstance.toNat
    ++ beBytes 4 id ++ beBytes 4 v.gen ++ beBytes 16 b.keyId ++ beBytes 16 (vaultCheck v.key) ++ beBytes 8 0
  let aad := head ++ leBytes 32 (x25519 scalar 9) ++ padTo 1568 ct
  let key := kmac (beBytes 32 ssk ++ leBytes 32 (x25519 scalar b.x25519)) head (ascii "LGE9120 share envelope")
  let (enc, tag) := gcmSeal key 0 aad share
  ({ index := i, badge := b.keyId, bytes := aad ++ enc ++ beBytes 16 tag }, s)

/-- Share a vault key for the operation's new badges: the pending set (R310 to R313). -/
def State.escrow (s : State) (c : CustodyOp) (v : VaultBank) : State :=
  let id := s.keys.nextEscrow
  let (shares, s) := s.split v.key c.t c.n
  let s := ((rangeFrom 1 c.n).zip shares).foldl (fun s p => s.fillTransient (ofBe p.2) (shareAttr p.1)) s
  let (envs, s) := ((rangeFrom 1 c.n).zip (c.fresh.zip shares)).foldl (fun (st : List Envelope × State) p =>
    let (e, s) := st.2.envelope c id v p.1 p.2.1 p.2.2
    (st.1 ++ [e], s)) ([], s)
  let set : EscrowSet := { id := id, gen := v.gen, t := c.t, n := c.n, vcv := vaultCheck v.key, envelopes := envs, badges := c.fresh }
  s.updKeys (fun k => { k with pendingSet := some set, nextEscrow := id + 1 })

/-- The escrow sets reach the flash store only where it takes them; else the operation ends FLASH_FAIL. -/
def State.finishEscrow (s : State) (c : CustodyOp) (saved : Bool) : State × Nat :=
  match s.vault with
  | none => (s, eNoVault)
  | some v =>
    if !s.drbgOk then (s, eBadArg)
    else if !saved then (s, eFlashFail)
    else ((s.escrow c v).updKeys (fun k => { k with live := k.pendingSet, pendingSet := none }), eOk)

/-- A rotation with its badges complete (R316): the new key, its escrow set, the records under it, the commit. -/
def State.finishRotate (s : State) (c : CustodyOp) (saved : Bool) : State × Nat :=
  if s.vault.isNone then (s, eNoVault)
  else if !s.drbgOk then (s, eBadArg)
  else if !saved then (s, eFlashFail)
  else
    let s := if s.keys.rotating && s.inactiveBank.isSome then s else s.newVault
    match s.inactiveBank with
    | none => (s, eNoVault)
    | some b => (((s.escrow c b).rewrapAll b).commitRotation b, eOk)

/-- The shares that a restoration has opened: their indices and bytes. -/
def State.openShares (s : State) (c : CustodyOp) : List (Nat × List Byte) :=
  (c.filled.filterMap s.slot).filterMap (fun k => if attrKind k.attr = 7 then some (attrEpoch k.attr, beBytes 32 k.value) else none)

/-- What an operation does once its badges are complete, and the code it ends with (R320). -/
def State.custodyEffect (s : State) (c : CustodyOp) (saved : Bool) (cert : List Byte) : State × Nat :=
  match c.kind with
  | .enroll => (s, eOk)
  | .escrowCreate => s.finishEscrow c saved
  | .vaultRestore => (match s.keys.live with | some set => s.combineInto set (s.openShares c) | none => (s, eBadArg))
  | .vaultRotate => s.finishRotate c saved
  | .nsDestroy => if saved then (s.destroyNs c.ns, eOk) else (s, eFlashFail)
  | .manifestKeyChange => s.changeManifest saved cert
  | .ownerRelease => if saved then (s.releaseOwner, eOk) else (s, eFlashFail)
  | .nsCreate => s.newEpoch c.ns 1 saved
  | .nsRotate => s.newEpoch c.ns (tgetD s.keys.nsEpoch c.ns 0 + 1) saved

/-- Complete the operation where its badges are complete; the code where it ended. -/
def State.tryComplete (s : State) (saved : Bool) (cert : List Byte) : State × Option Nat :=
  match s.keys.custody with
  | none => (s, none)
  | some c =>
    if s.badgesDone c then
      let (s, e) := s.custodyEffect c saved cert
      (s.endCustody e, some e)
    else (s, none)

/-- The signed text of ENROLL (R302, R575). -/
def State.enrollText (s : State) : List Byte := ascii "LGE9120 enroll" ++ beBytes 8 Config.deviceInstance.toNat ++ beBytes 32 s.keys.enrollNonce

/-- The parts of the ENROLL argument (R575): public key, signature, custody root certificate, ADMISSION list. -/
def enrollKey (bs : List Byte) : List Byte := slice bs 0 64
def enrollSig (bs : List Byte) : Nat := beAt bs 64 29792
def enrollCertLen (bs : List Byte) : Nat := beAt bs 29856 4
def enrollCert (bs : List Byte) : List Byte := (bs.drop 29860).take (enrollCertLen bs)
def enrollList (bs : List Byte) : List Byte := bs.drop (29860 + enrollCertLen bs)

/-- A new ENROLL_NONCE (R575, Table 18-9). -/
def State.newEnrollNonce (s : State) : State :=
  let (v, s) := s.draw 256
  s.updKeys (fun k => { k with enrollNonce := v % 2 ^ 256 })

/-- The steps of R302: the owner row burned, VK with generation 1, the manifest key and the index key wrapped, the manifest certificate, ENROLLED; the
first ADMISSION list and the seed of 0x3001 with them. A step that fails leaves the device unenrolled and unkeyed. -/
def State.enrollSteps (s : State) (bs : List Byte) (saved : Bool) (cert : List Byte) : State × Nat :=
  if 8 ≤ s.keys.ownerRows.length then (s, eFull)
  else
    let s := s.updKeys (fun k => { k with ownerRows := k.ownerRows ++ [keyIdOf (enrollKey bs)] })
    if !s.drbgOk then (s, eBadArg)
    else
      let (v, s) := s.draw 256
      let s := s.updKeys (fun k => { k with bankA := some { key := v % 2 ^ 256, gen := 1 }, bankB := none, activeB := false, rotating := false, live := none, pendingSet := none })
      let (s, e) := s.genWrapped saved [(3, manifestSeedAttr), (4, manifestPrfAttr), (6, indexKeyAttr)]
      if e ≠ eOk then ((s.clearSlots (fun _ k => vaultWrapped k)).updKeys (fun k => { k with bankA := none, store := tkeep k.store (fun _ r => r.fuse) }), e)
      else
        let (seed, s) := s.draw 64
        let s := ((s.issueManifest cert).setDomain 0x4002 (enrollCert bs)).setDomain 0x1201 (enrollList bs)
        let s := (s.setDict 0x3001 0 (seed % 2 ^ 64)).wr Reg.SHP_SEED.SEED (seed % 2 ^ 64)
        (s.updKeys (fun k => { k with enrolled := true }), eOk)

/-- A badge's session keys (R306): device to badge, badge to device. -/
def badgeKeys (h : BadgeHello) (b : BadgeIn) : Nat × Nat :=
  let tb := beBytes 64 (Config.shake256 (ascii "LGE9120 badge transcript" ++ h.bytes ++ b.bytes) 512 % 2 ^ 512)
  let ss := beBytes 32 (Config.mlkemDecaps h.kem b.kemCt) ++ leBytes 32 (x25519 h.x25519 b.eph)
  let km := Config.kmac256 ss tb 512 (ascii "LGE9120 badge session") % 2 ^ 512
  (km / 2 ^ 256, km % 2 ^ 256)

/-- A key ID stands on the custody revocation list (R305, 0x4021). -/
def State.revoked (s : State) (id : Nat) : Bool :=
  let l := s.domain 0x4021 0
  (List.range (l.length / 16)).any (fun i => beAt l (16 * i) 16 == id)

/-- Open ENC_SHARE of an envelope with ss_k ‖ ss_x (R312, R314). -/
def openShare (env ss : List Byte) : Option (List Byte) :=
  gcmOpen (kmac ss (env.take 64) (ascii "LGE9120 share envelope")) 0 (env.take 1664) (slice env 1664 32) (beAt env 1696 16)

/-- A badge's part of a restoration (R314): EPH_X25519 and KEM_CT go to it, its answer is opened into two slots, and the share into a third; a badge
without an envelope, or whose answer or envelope fails its TAG, counts toward nothing. -/
def State.restoreShare (s : State) (keys : Nat × Nat) (b : BadgeIn) : State × Nat :=
  match (s.keys.live.bind (fun e => e.envelopes.find? (fun v => v.badge == b.keyId))) with
  | none => (s, eTag)
  | some env =>
    let (ct, tag) := gcmSeal keys.1 0 [] (slice env.bytes 64 1600)
    let s := s.emit .nfcCard 0x8012 [] (ct ++ beBytes 16 tag)
    match gcmOpen keys.2 0 [] b.reply b.replyTag with
    | none => (s, eTag)
    | some ss =>
      match openShare env.bytes (padTo 64 ss) with
      | none => (s, eTag)
      | some share =>
        let s := (s.fillTransient (ofBe (slice ss 0 32)) secretAttr).fillTransient (ofBe (slice ss 32 32)) secretAttr
        ((s.fillTransient (ofBe share) (shareAttr env.index)).updCustody (fun c => { c with live := c.live ++ [b.keyId] }), eOk)

/-- Count an authenticated badge toward the operation (Table 8-8, R309): once, first of the live set, then as a new one. -/
def State.countBadge (s : State) (c : CustodyOp) (keys : Nat × Nat) (b : BadgeIn) : State × Nat :=
  if c.live.contains b.keyId || c.fresh.any (fun g => g.keyId == b.keyId) then (s, eOk)
  else if c.kind = .vaultRestore then s.restoreShare keys b
  else if c.live.length < s.liveNeeded c then
    if (s.keys.live.map EscrowSet.badges).getD [] |>.any (fun g => g.keyId == b.keyId) then (s.updCustody (fun c => { c with live := c.live ++ [b.keyId] }), eOk)
    else (s, eOk)
  else if c.fresh.length < c.freshNeeded then
    (s.updCustody (fun c => { c with fresh := c.fresh ++ [{ keyId := b.keyId, x25519 := b.x25519, mlkem := b.mlkem }] }), eOk)
  else (s, eOk)

/-- BADGE_AUTH: M2 arrives (R306): a badge whose chain, signature and revocation status pass authenticates; the record names its key ID and outcome
(R309; the code of a refused badge, BAD_ARG, is the model's), the Collar is told, and the operation goes on, to its end where its badges are complete.
`saved` is whether the flash store takes what the completion writes. -/
def execBadgeAuth (b : BadgeIn) (saved : Bool) (s : State) : Host.Outcome State Fault Refusal :=
  match s.keys.custody, s.reader.hello with
  | some c, some h =>
    if s.reader.card.isNone ∨ !s.nfcServes then ok s
    else
      let s := s.updReader (fun r => { r with hello := none, last := s.now })
      let good := b.chainOk && b.sigOk && !s.revoked b.keyId
      let keys := badgeKeys h b
      let (s, e) := if good then
          let s := s.updReader (fun r => { r with keys := some keys })
          let s := (s.fillTransient (Config.mlkemDecaps h.kem b.kemCt) secretAttr).fillTransient (swap32 (x25519 h.x25519 b.eph)) secretAttr
          s.countBadge c keys b
        else (s, eBadArg)
      let s := (s.trailRec 0x0302 masterSaddlebag true (beBytes 16 b.keyId ++ leBytes 1 e)).coreNote 2 (beBytes 8 (b.keyId / 2 ^ 64) ++ leBytes 1 e)
      ok (s.tryComplete saved []).1
  | _, _ => ok s

/-- PRESENCE_TIMEOUT: the badges have not all authenticated within QUORUM_S of the start: the operation ends PRESENCE (R308). -/
def execPresenceTimeout (s : State) : Host.Outcome State Fault Refusal :=
  match s.keys.custody with
  | none => ok s
  | some c => ok ((s.advanceTo (c.start + max 60 (s.rd Reg.SDB_PRES.QUORUM_S) * second)).endCustody ePresence)

end Sys2Proof.Machine
end

