-- ==== Sys2Proof/Machine/Commands.lean ====
section
/-!
DEFINITION. The actions of the dictionary's CMD entries (R562, R571 to R577), writes of values and of DOMAIN contents with their own checks (R561,
R565, R567), and the Trail record of every change (R560).
-/

namespace Sys2Proof.Machine

/-- How a write ends: status, DETAIL and the SEQ of its Trail record (Table 18-3). -/
structure SmlDone where
  status : Nat
  detail : Nat := 0
  seq : Nat := 0
  deriving DecidableEq, Repr

/-- The DICT_CHANGE record of a change (R560, Table 19-2), and its SEQ. -/
def State.dictChange (s : State) (sid role : Nat) (e : DictEntry) (value : List Byte) : Nat × State :=
  s.recordNow 0x0701 masterMgmt (e.saved || decide (0x4000 ≤ e.idx ∧ e.idx < 0x5000))
    (leBytes 2 e.idx ++ [BitVec.ofNat 8 e.sub, BitVec.ofNat 8 role] ++ leBytes 4 sid ++ leBytes 2 value.length ++ value.take 16)

/-- A commit to the flash store fails (R565): FAILED, with a DETAIL that the spec does not give, and SML_SAVE_FAIL; the value stays. -/
def State.saveFails (s : State) : State × SmlDone :=
  let (d, s) := s.draw 32
  (s.raise srcSmlSaveFail, { status := xFailed, detail := d % 2 ^ 32 })

/-- The vendor window is closed: vendor-service sessions end (R571). -/
def State.endVendor (s : State) : State :=
  if s.dictVal 0x1203 0 ≠ 0 then s
  else (tkeys s.smilia.sessions (fun _ x => x.role == 4 && x.state == .established)).foldl (fun s sid => (s.smlSend sid smClose 0 []).closeSml sid false) s

/-- Write a checked value (R560, R565). -/
def State.writeValue (s : State) (sid : Nat) (x : SmlSession) (e : DictEntry) (bs : List Byte) (f : SmlFacts) : State × SmlDone :=
  if e.saved && !f.saved then s.saveFails
  else
    let (seq, s) := ((s.putDict sid e (ofBe bs)).endVendor).dictChange sid x.role e bs
    (s, { status := xOk, seq := seq })

/-- The entries of a list of fixed size. -/
def entriesOf (size : Nat) (bs : List Byte) : List (List Byte) := (List.range (bs.length / size)).map (fun i => slice bs (size * i) size)

/-- The first byte offset at which a list of entries fails: one too many, one that `good` refuses after those before it, or a part of one. -/
def failingEntry (size most : Nat) (bs : List Byte) (good : List (List Byte) → List Byte → Bool) : Option Nat :=
  if most * size < bs.length then some (most * size)
  else
    let es := entriesOf size bs
    match (List.range es.length).find? (fun i => !good (es.take i) (es.getD i [])) with
    | some i => some (i * size)
    | none => if bs.length % size ≠ 0 then some (bs.length / size * size) else none

/-- The check of an ADMISSION list (R571). -/
def badAdmission (bs : List Byte) : Option Nat :=
  match failingEntry 20 256 bs (fun before e => (beAt e 16 1 == 1 || beAt e 16 1 == 2) && beAt e 17 3 == 0 && !before.any (fun b => b.take 16 == e.take 16)) with
  | some i => some i
  | none => if (entriesOf 20 bs).any (fun e => beAt e 16 1 == 2) then none else some bs.length

/-- The signatures after a debug authorisation's header (R615). -/
def debugSigs (bs : List Byte) : List Nat :=
  (List.range ((bs.length - debugHeaderBytes) / slhBytes)).map (fun i => beAt bs (debugHeaderBytes + slhBytes * i) slhBytes)

/-- A DOMAIN entry's own check (R571 to R573, R305): the failing byte offset. -/
def State.badDomain (s : State) (idx : Nat) (bs : List Byte) : Option Nat :=
  match idx with
  | 0x1201 => badAdmission bs
  | 0x2002 => failingEntry 20 64 bs (fun _ e => decide (beAt e 0 1 < 16) && (beAt e 1 1 == 4 || beAt e 1 1 == 6) && beAt e 2 2 == 0)
  | 0x2102 => failingEntry 16 1024 bs (fun _ _ => true)
  | 0x3010 => failingEntry 64 65536 bs (fun _ e => s.mediaRefusal (leAt e 0 2) e == 0)
  | 0x3011 => failingEntry 32 64 bs (fun _ e => decide (leAt e 0 1 < 64) && shelfOk (leAt e 0 1) e)
  | 0x3012 => failingEntry 24 64 bs (fun before e => decide (beAt e 0 1 < 64) && beAt e 1 7 == 0 && !before.any (fun b => b.take 1 == e.take 1))
  | 0x4021 => failingEntry 16 1024 bs (fun _ _ => true)
  | _ => none

/-- Apply a DOMAIN content that has passed its check as one change (R567, R573). -/
def State.applyDomain (s : State) (x : SmlSession) (idx : Nat) (bs : List Byte) : State :=
  match idx with
  | 0x3010 => ((entriesOf 64 bs).foldl (fun s e => s.applyMedia (leAt e 0 2) e .keeper) s).addTo Reg.SHP_STATUS.MT_GEN 1
  | 0x3011 => ((entriesOf 32 bs).foldl (fun s e => s.applyShelf (leAt e 0 1) e) s).addTo Reg.SHP_STATUS.MT_GEN 1
  | _ => s.setDomain idx bs (dictInst x idx)

/-- A content written to a DOMAIN entry (R567's third check and what follows it); DEBUG_AUTH goes to the verification of R616. -/
def State.writeDomain (s : State) (sid : Nat) (x : SmlSession) (e : DictEntry) (bs : List Byte) (f : SmlFacts) : State × SmlDone :=
  if e.idx = 0x9004 then
    if bs.length < debugHeaderBytes ∨ (bs.length - debugHeaderBytes) % slhBytes ≠ 0 then (s, { status := xInvalid, detail := bs.length })
    else
      let (s, good) := s.debugAuth { header := bs.take debugHeaderBytes, keys := f.signers, signatures := debugSigs bs }
      let (seq, s) := s.dictChange sid x.role e bs
      (s, if good then { status := xOk, seq := seq } else { status := xFailed, detail := s.rd Reg.DBG_STATUS.ERR, seq := seq })
  else match s.badDomain e.idx bs with
    | some off => (s, { status := xInvalid, detail := off })
    | none =>
      if e.saved && !f.saved then s.saveFails
      else
        let (seq, s) := (s.applyDomain x e.idx bs).dictChange sid x.role e bs
        (s, { status := xOk, seq := seq })

/-- The first failing byte offset of an ENROLL argument's layout (R575). -/
def badEnroll (bs : List Byte) : Option Nat :=
  if bs.length < 29860 then some bs.length
  else if bs.length < 29860 + enrollCertLen bs ∨ enrollCertLen bs = 0 then some 29856
  else (badAdmission (enrollList bs)).map (· + (29860 + enrollCertLen bs))

/-- Keep a CMD entry's last status, or that it runs (R562). -/
def State.cmdStatus (s : State) (idx st : Nat) : State :=
  s.updSmilia (fun m => { m with status := tput m.status idx (if st = xRunning then st + 65536 else st) })

/-- ENROLL (R302, R575): its layout, presence, its signature and certificate, then the steps of R302. What it verifies under the owner key is a
signature of the signed text without a context. -/
def State.enroll (s : State) (sid : Nat) (x : SmlSession) (e : DictEntry) (bs : List Byte) (f : SmlFacts) : State × SmlDone :=
  if !s.custodyMay .enroll 0 then (s, { status := xState })
  else match badEnroll bs with
    | some off => (s, { status := xInvalid, detail := off })
    | none =>
      if s.pressNow.isNone then (s, { status := xPresence })
      else if s.keys.custody.isSome then (s, { status := xBusy })
      else if !f.certOk ∨ !Config.slhVerify 5 (enrollKey bs) [] s.enrollText (enrollSig bs) then
        ((s.newEnrollNonce).cmdStatus e.idx xAuthFailed, { status := xAuthFailed })
      else
        let s := s.beginCustody .enroll sid x.role 0 0 0 0
        let (s, code) := s.enrollSteps bs f.saved f.cert
        let s := (s.endCustody code).newEnrollNonce
        let (seq, s) := s.dictChange sid x.role e bs
        (s, { status := if code = eOk then xOk else xFailed, detail := code, seq := seq })

/-- Start a custody operation that a CMD entry commands, and run it at once where it needs no badge (R574). -/
def State.runCustody (s : State) (k : CustodyKind) (sid role set t n ns : Nat) (f : SmlFacts) : State × Nat × Nat :=
  match (s.beginCustody k sid role set t n ns).tryComplete f.saved f.cert with
  | (s, none) => (s, xRunning, 0)
  | (s, some e) => (s, if e = eOk then xOk else xFailed, e)

/-- Entries that RESTORE_DEFAULTS leaves: TIME and SEED, which have no fixed default, and ADMISSION, which ENROLL sets. -/
def restorable (idx : Nat) : Bool := idx != 0x8000 && idx != 0x3001 && idx != 0x1201

/-- Empty the media table and the shelf table: media without allocated bytes, and shelves without media, take an empty entry and go. -/
def State.emptyTables (s : State) : State :=
  let ds := tkeys s.shepherd.media (fun _ m => m.allocated == 0)
  let s := ds.foldl (fun s d => s.applyMedia d (mediaEntry d {}) .keeper) s
  let s := s.updShepherd (fun p => { p with media := tkeep p.media (fun d _ => !ds.contains d), savedMedia := tkeep p.savedMedia (fun d _ => !ds.contains d) })
  let hs := tkeys s.shepherd.shelves (fun h _ => !s.shepherd.media.any (fun m => m.2.shelf == h))
  let s := hs.foldl (fun s h => s.applyShelf h (leBytes 32 h)) s
  s.addTo Reg.SHP_STATUS.MT_GEN 1

/-- RESTORE_DEFAULTS of the range whose high nibble is `n`. -/
def State.restoreDefaults (s : State) (sid n : Nat) : State :=
  let hit (k : Nat) : Bool := k / 4096 / 256 / 4096 == n && restorable (k / 4096 / 256)
  let srcs := (tkeys s.dict (fun k _ => k / 4096 / 256 == 0x5011 && n == 5)).map (· % 4096)
  let s := s.dropDict hit
  let s := (dictionary.filter (fun e => e.idx / 4096 == n && e.acc == .rw && e.typ != .domain && restorable e.idx && e.idx != 0x5011)).foldl
    (fun s e => s.applyEffect e.put sid (e.get State.reset {})) s
  let s := srcs.foldl (fun s i => let (c, r, l) := State.reset.sourceCfg i; s.setSourceCfg i c r l) s
  (if n = 3 then s.emptyTables else s).endVendor

/-- A block of zeros, and bytes filled up to whole blocks. -/
def wholeBlocks (bs : List Byte) : List Byte := padTo (ceilDiv bs.length 512 * 512) bs

/-- A header or commit block with its CRC (Table 17-3). -/
def crcBlock (bs : List Byte) : List Byte := padTo 508 bs ++ beBytes 4 (crc32c (padTo 508 bs))

/-- The header block of a bundle of sections that start at the given blocks. -/
def State.bundleHeader (s : State) (kind blocks : Nat) (secs : List (Nat × BundleSection)) : List Byte :=
  crcBlock (padTo 64 (beBytes 4 0x4C475342 ++ [1, BitVec.ofNat 8 kind, BitVec.ofNat 8 secs.length, 0] ++ beBytes 8 Config.deviceInstance.toNat
    ++ beBytes 8 s.time64 ++ beBytes 4 blocks)
    ++ secs.flatMap (fun p => beBytes 2 p.2.typ ++ [0, 0] ++ beBytes 4 p.1 ++ beBytes 8 p.2.bytes.length ++ beBytes 8 0))

/-- The first block of each section, from block 1 of its bundle. -/
def sectionStarts : List BundleSection → Nat → List (Nat × BundleSection)
  | [], _ => []
  | b :: rest, i => (i, b) :: sectionStarts rest (i + ceilDiv b.bytes.length 512)

/-- What a bundle of a kind holds: a Trail export every record held, another what Keeper firmware puts into it. -/
def State.exportSections (s : State) (kind : Nat) (f : SmlFacts) : List BundleSection :=
  if kind = 5 then [{ typ := 3, idx := 0, bytes := s.ringRecords.flatten }]
  else f.sections

/-- BUNDLE_EXPORT (R545): a zero block beyond the new bundle, its header and sections, then its commit block. -/
def State.exportBundle (s : State) (kind : Nat) (f : SmlFacts) : State × Nat × Nat :=
  match s.withCard (fun s =>
    let (_, _, start) := walkChain f.seen 2048
    let secs := s.exportSections kind f
    let body := secs.flatMap (fun b => wholeBlocks b.bytes)
    let blocks := 2 + body.length / 512
    let next := ceilDiv (start + blocks) 2048 * 2048
    if secs.isEmpty ∨ 16 < secs.length ∨ 2 ^ 24 < blocks then (s, some sdBadArg)
    else if s.sd.blocks < start + blocks then (s, some sdCardError)
    else
      let front := s.bundleHeader kind blocks (sectionStarts secs 1) ++ body
      let hash := Config.shake256 (ascii "LGE9120 bundle" ++ front) 256 % 2 ^ 256
      let s := if next < s.sd.blocks then s.emit .serviceCard 25 [next, 1] (List.replicate 512 0) else s
      let s := s.emit .serviceCard 25 [start, blocks - 1] front
      let s := s.emit .serviceCard 25 [start + blocks - 1, 1] (crcBlock (beBytes 4 0x4C475343 ++ beBytes 4 blocks ++ beBytes 32 hash))
      match f.ended with
      | .ok n => (((s.bump Reg.SC_STATUS.BUNDLES).flag Reg.SC_STATUS.TORN_SEEN false).bump Reg.SC_EVENTS.CRC_RETRY n, some sdOk)
      | .goesOn => (s, some sdTimeout)
      | e => s.sdOutcome false e) with
  | (s, some e) => if e = sdOk then (s, xOk, 0) else (s, xFailed, e)
  | (s, none) => (s, xFailed, sdTimeout)

/-- A section that an import uses passes its own check (R546): an image that of R461, a DOMAIN content that of its entry, which the role may write. -/
def State.sectionGood (s : State) (role : Nat) (b : BundleSection) : Bool :=
  if b.typ = 1 then s.imageCheck 1 (slice b.bytes) none false == 0 && !s.flash.trial
  else if b.typ = 2 then
    match dictEntry b.idx 0 with
    | some e => e.typ == .domain && e.acc == .rw && roleMay role e.wr && (s.badDomain b.idx b.bytes).isNone
    | none => false
  else true

/-- Import a section: an image is programmed into the twin that is not active, a DOMAIN content is applied. -/
def State.importSection (s : State) (sid : Nat) (x : SmlSession) (f : SmlFacts) (b : BundleSection) : State :=
  if b.typ = 1 then
    let p := 1 - s.flash.activeTwin
    let pieces := cutBytes 4096 (b.bytes.length / 4096 + 1) b.bytes
    (s.programAll p ((List.range pieces.length).zip pieces |>.map (fun q => (partStart p + q.1, q.2)))).getD s
  else if b.typ = 2 then (match dictEntry b.idx 0 with | some e => (s.writeDomain sid x e b.bytes f).1 | none => s)
  else s

/-- BUNDLE_IMPORT (R546): the bundle of that number is committed and every section it uses passes, or nothing changes. -/
def State.importBundle (s : State) (sid : Nat) (x : SmlSession) (n : Nat) (f : SmlFacts) : State × Nat × Nat :=
  match s.withCard (fun s => match f.ended with
    | .ok _ =>
      let (found, _, _) := walkChain f.seen 2048
      if n = 0 ∨ found.length < n then (s, some sdBadArg) else s.sdOutcome true f.ended
    | _ => s.sdOutcome true f.ended) with
  | (s, some 0) =>
    if !(f.sections.all (s.sectionGood x.role)) then (s, xFailed, sdBadArg)
    else if !f.saved then (let (s, d) := s.saveFails; (s, d.status, d.detail))
    else (f.sections.foldl (fun s b => s.importSection sid x f b) s, xOk, 0)
  | (s, some e) => (s, xFailed, e)
  | (s, none) => (s, xFailed, sdTimeout)

/-- ATTEST (R576): the session's previous report goes; the new one and its signature come, or NOT_AVAILABLE (R227). -/
def State.attestFor (s : State) (sid : Nat) (nonce : List Byte) (fails : Nat) : State × Nat × Nat :=
  let s := s.updSml sid (fun x => { x with report := [] })
  if !s.canAttest then (s, xNotAvailable, 0)
  else match s.attest nonce fails with
    | (some r, s) => (s.updSml sid (fun x => { x with report := r }), xOk, 0)
    | (none, s) => let (d, s) := s.draw 32; (s, xFailed, d % 2 ^ 32)

/-- KNL_UNLOCK and KNL_CLR_LATCH answer PRESENCE or STATE for the two errors of KNL_CTRL.ERR. -/
def State.kennelAnswer (s : State) : State × Nat × Nat :=
  (s, if s.rd Reg.KNL_CTRL.ERR = 1 then xPresence else if s.rd Reg.KNL_CTRL.ERR = 2 then xState else xOk, 0)

/-- FCU_INJECT performs what a write of FCU_INJ_DETAIL and FCU_INJ does (R480); a refused one FAILED with the code DENIED. -/
def State.injectFor (s : State) (v : Nat) : State × Nat × Nat :=
  let w := v / 2 ^ 32
  let part (g : Field) : Nat := bitsOf w g.lo g.width
  let s := s.wr Reg.FCU_INJ_DETAIL.DETAIL (v % 2 ^ 32)
  let s := (s.injFields .keeper (part Reg.FCU_INJ.SRC) (part Reg.FCU_INJ.MODE) (part Reg.FCU_INJ.REACT == 1) (part Reg.FCU_INJ.MASK)).fcuInject
  if s.rd Reg.FCU_INJ.ERR = 0 then (s, xOk, 0) else (s, xFailed, s.rd Reg.FCU_INJ.ERR)

/-- ECC_INJECT writes ECC_INJ (R426). -/
def State.eccInjectFor (s : State) (v : Nat) : State :=
  let part (g : Field) : Nat := bitsOf v g.lo g.width
  ((s.wr Reg.ECC_INJ.CHECKER (part Reg.ECC_INJ.CHECKER)).wr Reg.ECC_INJ.MASK (part Reg.ECC_INJ.MASK)).wr Reg.ECC_INJ.COUNT (part Reg.ECC_INJ.COUNT)

/-- SELFTEST (R577, R613): the run has started, or there was nothing to test. -/
def State.selfTestFor (s : State) (kind : Nat) : State × Nat × Nat :=
  let (s, _) := s.runTests none kind
  let s := s.endTestRun
  (s, if s.chip.testRun.isSome then xRunning else xOk, 0)

/-- What a CMD entry's action does: status and DETAIL (R562). -/
def State.action (s : State) (sid : Nat) (x : SmlSession) (idx v : Nat) (arg : List Byte) (f : SmlFacts) : State × Nat × Nat :=
  match idx with
  | 0x1010 => if f.saved then (s.restoreDefaults sid v, xOk, 0) else let (s, d) := s.saveFails; (s, d.status, d.detail)
  | 0x4012 => s.runCustody .escrowCreate sid x.role 0 (v / 256) (v % 256) 0 f
  | 0x4013 => if (s.keys.live.map EscrowSet.id) = some v then s.runCustody .vaultRestore sid x.role v 0 0 0 f else (s, xFailed, eBadArg)
  | 0x4014 => s.runCustody .vaultRotate sid x.role 0 (v / 256) (v % 256) 0 f
  | 0x4015 => s.runCustody .nsCreate sid x.role 0 0 0 v f
  | 0x4016 => s.runCustody .nsRotate sid x.role 0 0 0 v f
  | 0x4017 => s.runCustody .nsDestroy sid x.role 0 0 0 v f
  | 0x4018 => s.runCustody .manifestKeyChange sid x.role 0 0 0 0 f
  | 0x4019 => s.runCustody .ownerRelease sid x.role 0 0 0 0 f
  | 0x4030 => s.attestFor sid arg f.fails
  | 0x5013 => (s.clearRecord v, xOk, 0)
  | 0x5024 => s.unlock.kennelAnswer
  | 0x5025 => s.clearLatch.kennelAnswer
  | 0x7007 => s.exportBundle v f
  | 0x7008 => s.importBundle sid x v f
  | 0x9000 => s.selfTestFor v
  | 0x9002 => s.injectFor v
  | 0x9003 => (s.eccInjectFor v, xOk, 0)
  | _ => (s, xNoEntry, 0)

/-- The custody operation that an entry commands. -/
def custodyOf (idx : Nat) : Option CustodyKind :=
  [CustodyKind.escrowCreate, .vaultRestore, .vaultRotate, .nsCreate, .nsRotate, .nsDestroy, .manifestKeyChange, .ownerRelease].find? (fun k => k.index == idx)

/-- Entries whose effect needs a unit that the safe state stops (R549, R476). -/
def needsUnits (idx : Nat) : Bool :=
  (decide (0x3000 ≤ idx ∧ idx < 0x3013)) || decide (0x4010 ≤ idx ∧ idx < 0x401A) || idx == 0x4030 || idx == 0x9000

/-- Why a command is refused (R561, checks 3 and 5 to 8, then BUSY of R562): 0 where it may start. -/
def State.cmdRefusal (s : State) (x : SmlSession) (e : DictEntry) (arg : List Byte) : Nat :=
  let v := ofBe arg
  let k := custodyOf e.idx
  if (e.idx = 0x7007 ∧ arg.length = 1 ∧ v = 4) ∨ (e.idx = 0x9002 ∧ arg.length = 8 ∧ x.role = 2 ∧ !(decide (0x3F0 ≤ v / 2 ^ 32 % 1024) && v / 2 ^ 42 % 4 == 0)) then xRole
  else if s.safe && needsUnits e.idx then xState
  else if (match k with | some k => !s.custodyMay k v | none => false) then xState
  else if e.typ = .domain ∨ arg.length ≠ e.typ.len then xType
  else if (v : Int) < e.lo ∨ e.hi < (v : Int) then xRange
  else if e.idx = 0x1010 ∧ v = 4 then xRange
  else if (e.idx = 0x4012 ∨ e.idx = 0x4014) ∧ !(decide (2 ≤ v / 256 ∧ v / 256 ≤ v % 256 ∧ v % 256 ≤ 16)) then xRange
  else if (match k with | some k => k.presence | none => false) && s.pressNow.isNone then xPresence
  else if 65536 ≤ tgetD s.smilia.status e.idx 0 ∨ (k.isSome && s.keys.custody.isSome) ∨ (e.idx = 0x9000 ∧ s.chip.testRun.isSome)
    ∨ ((e.idx = 0x7007 ∨ e.idx = 0x7008) ∧ s.isSet Reg.SC_CMD.BUSY) then xBusy
  else 0

/-- Run the command of a CMD entry (R562): it is refused, or its action runs, is recorded, and its status is kept. -/
def State.command (s : State) (sid : Nat) (x : SmlSession) (e : DictEntry) (arg : List Byte) (f : SmlFacts) : State × SmlDone :=
  let r := s.cmdRefusal x e arg
  if r ≠ 0 then (s, { status := r })
  else
    let (s, st, d) := s.action sid x e.idx (ofBe arg) arg f
    if st = xPresence ∨ st = xState then (s, { status := st })
    else
      let (seq, s) := s.dictChange sid x.role e arg
      (s.cmdStatus e.idx st, { status := st, detail := d, seq := seq })

/-- A command that an established session gives, from the check of its role on, with its answer and the changes it makes notified; the frames of the
WRITE that carries it are SML_WRITE's. -/
def State.order (s : State) (sid idx : Nat) (arg : List Byte) (f : SmlFacts) : State :=
  match s.sml sid with
  | none => s
  | some x =>
    if x.state ≠ .established ∨ !s.mgmtServes then s
    else
      let s := s.scan 0
      let (s, d) : State × SmlDone := match dictFind x.role idx 0 DictEntry.wr with
        | .error st => (s, { status := st })
        | .ok e => if e.typ = .domain then s.enroll sid x e arg f else s.command sid x e arg f
      (s.emit (.smilia sid) (smWrite + 0x80) [d.status, d.detail, d.seq]).scan d.seq

/-- RESTORE_DEFAULTS: the entries of a range return to their defaults. -/
def execRestoreDefaults (session nibble : Nat) (f : SmlFacts) (s : State) : Host.Outcome State Fault Refusal := ok (s.order session 0x1010 (beBytes 1 nibble) f)

/-- ENROLL: an owner enrolls (R302, R575). -/
def execEnroll (session : Nat) (content : List Byte) (f : SmlFacts) (s : State) : Host.Outcome State Fault Refusal := ok (s.order session 0x4010 content f)

/-- ESCROW_CREATE: an escrow set of n badges under threshold t is begun (R310 to R313). -/
def execEscrowCreate (session t n : Nat) (f : SmlFacts) (s : State) : Host.Outcome State Fault Refusal := ok (s.order session 0x4012 (beBytes 1 t ++ beBytes 1 n) f)

/-- VAULT_ROTATE: a rotation of the vault key is begun (R316). -/
def execVaultRotate (session t n : Nat) (f : SmlFacts) (s : State) : Host.Outcome State Fault Refusal := ok (s.order session 0x4014 (beBytes 1 t ++ beBytes 1 n) f)

/-- VAULT_RESTORE: a restoration from the named escrow set is begun (R314). -/
def execVaultRestore (session set : Nat) (f : SmlFacts) (s : State) : Host.Outcome State Fault Refusal := ok (s.order session 0x4013 (beBytes 4 set) f)

/-- NS_CREATE: a namespace's first key is made current at key epoch 1 (R572). -/
def execNsCreate (session ns : Nat) (f : SmlFacts) (s : State) : Host.Outcome State Fault Refusal := ok (s.order session 0x4015 (beBytes 2 ns) f)

/-- NS_ROTATE: a namespace's next key epoch is made current (R289). -/
def execNsRotate (session ns : Nat) (f : SmlFacts) (s : State) : Host.Outcome State Fault Refusal := ok (s.order session 0x4016 (beBytes 2 ns) f)

/-- NS_DESTROY: every key epoch of a namespace goes, once t badges of the live set have authenticated (R290). -/
def execNsDestroy (session ns : Nat) (f : SmlFacts) (s : State) : Host.Outcome State Fault Refusal := ok (s.order session 0x4017 (beBytes 2 ns) f)

/-- MANIFEST_KEY_CHANGE: a new manifest key; the next epoch carries GENESIS (R304). -/
def execManifestKeyChange (session value : Nat) (f : SmlFacts) (s : State) : Host.Outcome State Fault Refusal := ok (s.order session 0x4018 (beBytes 1 value) f)

/-- OWNER_RELEASE: the device is unenrolled, once t badges of the live set have authenticated (R304). -/
def execOwnerRelease (session value : Nat) (f : SmlFacts) (s : State) : Host.Outcome State Fault Refusal := ok (s.order session 0x4019 (beBytes 1 value) f)

/-- ATTEST: a report is signed into the session's ATTEST_REPORT (R576). -/
def execAttest (session : Nat) (nonce : List Byte) (f : SmlFacts) (s : State) : Host.Outcome State Fault Refusal := ok (s.order session 0x4030 nonce f)

/-- SRC_CLEAR: a source record is cleared (R471). -/
def execSrcClear (session src : Nat) (f : SmlFacts) (s : State) : Host.Outcome State Fault Refusal := ok (s.order session 0x5013 (beBytes 2 src) f)

/-- KNL_UNLOCK: the release of LOCK is requested (R494). -/
def execKnlUnlock (session value : Nat) (f : SmlFacts) (s : State) : Host.Outcome State Fault Refusal := ok (s.order session 0x5024 (beBytes 1 value) f)

/-- KNL_CLR_LATCH: the clearing of LATCHED is requested (R494). -/
def execKnlClrLatch (session value : Nat) (f : SmlFacts) (s : State) : Host.Outcome State Fault Refusal := ok (s.order session 0x5025 (beBytes 1 value) f)

/-- BUNDLE_EXPORT: a bundle is appended to the card (R545). -/
def execBundleExport (session kind : Nat) (f : SmlFacts) (s : State) : Host.Outcome State Fault Refusal := ok (s.order session 0x7007 (beBytes 1 kind) f)

/-- BUNDLE_IMPORT: a committed bundle is imported (R546). -/
def execBundleImport (session number : Nat) (f : SmlFacts) (s : State) : Host.Outcome State Fault Refusal := ok (s.order session 0x7008 (beBytes 2 number) f)

/-- SELFTEST: self-tests of a unit kind run in HEEL, or are requested as rolling tests in SEAL (R577). -/
def execSelftest (session kind : Nat) (f : SmlFacts) (s : State) : Host.Outcome State Fault Refusal := ok (s.order session 0x9000 (beBytes 1 kind) f)

/-- FCU_INJECT: a fault injection under R480; the operator role reaches FCU_TEST0 to FCU_TEST15 (R577). -/
def execFcuInject (session injection detail : Nat) (f : SmlFacts) (s : State) : Host.Outcome State Fault Refusal :=
  ok (s.order session 0x9002 (beBytes 4 injection ++ beBytes 4 detail) f)

/-- ECC_INJECT: a checker injection (R426). -/
def execEccInject (session injection : Nat) (f : SmlFacts) (s : State) : Host.Outcome State Fault Refusal := ok (s.order session 0x9003 (beBytes 4 injection) f)

end Sys2Proof.Machine
end

