-- ==== Sys2Proof/Machine/CoreAlu.lean ====
section
/-! DEFINITION. The arithmetic instructions of a core (Table 10-4, opcodes 0x00 to 0x0C). `wait` is how many cycles issue stalls before the instruction. -/

namespace Sys2Proof.Machine

/-- A truth value as a word. -/
def boolWord (b : Bool) : Word := if b then 1 else 0

/-- The shift amount in bits [5:0] of a register. -/
def shiftBy (v : Word) : Nat := v.toNat % 64

/-- Leading zero bits, 0 to 64. -/
def leadingZeros (v : Word) : Nat := if v = 0 then 64 else 63 - v.toNat.log2

/-- One bits. -/
def oneBits (v : Word) : Nat := ((List.range 64).filter (fun i => v.getLsbD i)).length

/-- The 8 bytes reversed. -/
def swapBytes (v : Word) : Word := BitVec.ofNat 64 (ofBe (leBytes 8 v.toNat))

/-- The 64-bit value with the halfword `hw` replaced. -/
def insertHalf (v : Word) (hw : BitVec 2) (imm : BitVec 16) : Word :=
  let sh := 16 * hw.toNat
  (v &&& ~~~((0xFFFF : Word) <<< sh)) ||| (imm.setWidth 64 <<< sh)

/-- ADD (R352). -/
def execAdd (pair : PairId) (wait : Nat) (rd ra rb : RegId) (s : State) : Host.Outcome State Fault Refusal := ok (s.compute pair wait rd (fun q => q.reg ra + q.reg rb))

/-- SUB (R352). -/
def execSub (pair : PairId) (wait : Nat) (rd ra rb : RegId) (s : State) : Host.Outcome State Fault Refusal := ok (s.compute pair wait rd (fun q => q.reg ra - q.reg rb))

/-- AND (R352). -/
def execAndReg (pair : PairId) (wait : Nat) (rd ra rb : RegId) (s : State) : Host.Outcome State Fault Refusal := ok (s.compute pair wait rd (fun q => q.reg ra &&& q.reg rb))

/-- OR (R352). -/
def execOrReg (pair : PairId) (wait : Nat) (rd ra rb : RegId) (s : State) : Host.Outcome State Fault Refusal := ok (s.compute pair wait rd (fun q => q.reg ra ||| q.reg rb))

/-- XOR (R352). -/
def execXor (pair : PairId) (wait : Nat) (rd ra rb : RegId) (s : State) : Host.Outcome State Fault Refusal := ok (s.compute pair wait rd (fun q => q.reg ra ^^^ q.reg rb))

/-- ANDN (R352). -/
def execAndn (pair : PairId) (wait : Nat) (rd ra rb : RegId) (s : State) : Host.Outcome State Fault Refusal := ok (s.compute pair wait rd (fun q => q.reg ra &&& ~~~(q.reg rb)))

/-- SLT (R352). -/
def execSlt (pair : PairId) (wait : Nat) (rd ra rb : RegId) (s : State) : Host.Outcome State Fault Refusal := ok (s.compute pair wait rd (fun q => boolWord ((q.reg ra).slt (q.reg rb))))

/-- SLTU (R352). -/
def execSltu (pair : PairId) (wait : Nat) (rd ra rb : RegId) (s : State) : Host.Outcome State Fault Refusal := ok (s.compute pair wait rd (fun q => boolWord ((q.reg ra).ult (q.reg rb))))

/-- SLL (R352). -/
def execSll (pair : PairId) (wait : Nat) (rd ra rb : RegId) (s : State) : Host.Outcome State Fault Refusal := ok (s.compute pair wait rd (fun q => q.reg ra <<< shiftBy (q.reg rb)))

/-- SRL (R352). -/
def execSrl (pair : PairId) (wait : Nat) (rd ra rb : RegId) (s : State) : Host.Outcome State Fault Refusal := ok (s.compute pair wait rd (fun q => q.reg ra >>> shiftBy (q.reg rb)))

/-- SRA (R352). -/
def execSra (pair : PairId) (wait : Nat) (rd ra rb : RegId) (s : State) : Host.Outcome State Fault Refusal := ok (s.compute pair wait rd (fun q => (q.reg ra).sshiftRight (shiftBy (q.reg rb))))

/-- ROR (R352). -/
def execRor (pair : PairId) (wait : Nat) (rd ra rb : RegId) (s : State) : Host.Outcome State Fault Refusal := ok (s.compute pair wait rd (fun q => (q.reg ra).rotateRight (shiftBy (q.reg rb))))

/-- MOVEQZ: rd keeps its value unless rb is zero (R352). -/
def execMoveqz (pair : PairId) (wait : Nat) (rd ra rb : RegId) (s : State) : Host.Outcome State Fault Refusal := ok (s.compute pair wait rd (fun q => if q.reg rb = 0 then q.reg ra else q.reg rd))

/-- MOVNEZ: rd keeps its value where rb is zero (R352). -/
def execMovnez (pair : PairId) (wait : Nat) (rd ra rb : RegId) (s : State) : Host.Outcome State Fault Refusal := ok (s.compute pair wait rd (fun q => if q.reg rb = 0 then q.reg rd else q.reg ra))

/-- CLZ (R352). -/
def execClz (pair : PairId) (wait : Nat) (rd ra : RegId) (s : State) : Host.Outcome State Fault Refusal := ok (s.compute pair wait rd (fun q => BitVec.ofNat 64 (leadingZeros (q.reg ra))))

/-- POPC (R352). -/
def execPopc (pair : PairId) (wait : Nat) (rd ra : RegId) (s : State) : Host.Outcome State Fault Refusal := ok (s.compute pair wait rd (fun q => BitVec.ofNat 64 (oneBits (q.reg ra))))

/-- BSWAP (R352). -/
def execBswap (pair : PairId) (wait : Nat) (rd ra : RegId) (s : State) : Host.Outcome State Fault Refusal := ok (s.compute pair wait rd (fun q => swapBytes (q.reg ra)))

/-- ADDI (R352). -/
def execAddi (pair : PairId) (wait : Nat) (rd ra : RegId) (imm : BitVec 16) (s : State) : Host.Outcome State Fault Refusal := ok (s.compute pair wait rd (fun q => q.reg ra + imm.signExtend 64))

/-- ANDI (R352). -/
def execAndi (pair : PairId) (wait : Nat) (rd ra : RegId) (imm : BitVec 16) (s : State) : Host.Outcome State Fault Refusal := ok (s.compute pair wait rd (fun q => q.reg ra &&& imm.setWidth 64))

/-- ORI (R352). -/
def execOri (pair : PairId) (wait : Nat) (rd ra : RegId) (imm : BitVec 16) (s : State) : Host.Outcome State Fault Refusal := ok (s.compute pair wait rd (fun q => q.reg ra ||| imm.setWidth 64))

/-- XORI (R352). -/
def execXori (pair : PairId) (wait : Nat) (rd ra : RegId) (imm : BitVec 16) (s : State) : Host.Outcome State Fault Refusal := ok (s.compute pair wait rd (fun q => q.reg ra ^^^ imm.setWidth 64))

/-- SLTI (R352). -/
def execSlti (pair : PairId) (wait : Nat) (rd ra : RegId) (imm : BitVec 16) (s : State) : Host.Outcome State Fault Refusal := ok (s.compute pair wait rd (fun q => boolWord ((q.reg ra).slt (imm.signExtend 64))))

/-- SLTIU (R352). -/
def execSltiu (pair : PairId) (wait : Nat) (rd ra : RegId) (imm : BitVec 16) (s : State) : Host.Outcome State Fault Refusal := ok (s.compute pair wait rd (fun q => boolWord ((q.reg ra).ult (imm.signExtend 64))))

/-- MOVZ (R352). -/
def execMovz (pair : PairId) (wait : Nat) (rd : RegId) (hw : BitVec 2) (imm : BitVec 16) (s : State) : Host.Outcome State Fault Refusal := ok (s.compute pair wait rd (fun _ => insertHalf 0 hw imm))

/-- MOVK (R352). -/
def execMovk (pair : PairId) (wait : Nat) (rd : RegId) (hw : BitVec 2) (imm : BitVec 16) (s : State) : Host.Outcome State Fault Refusal := ok (s.compute pair wait rd (fun q => insertHalf (q.reg rd) hw imm))

/-- ADRP (R352). -/
def execAdrp (pair : PairId) (wait : Nat) (rd : RegId) (imm : BitVec 16) (s : State) : Host.Outcome State Fault Refusal := ok (s.compute pair wait rd (fun q => (q.pc &&& ~~~(0xFFF : Word)) + (imm.signExtend 64 <<< 12)))

/-- SLLI (R352). -/
def execSlli (pair : PairId) (wait : Nat) (rd ra : RegId) (sh : BitVec 6) (s : State) : Host.Outcome State Fault Refusal := ok (s.compute pair wait rd (fun q => q.reg ra <<< sh.toNat))

/-- SRLI (R352). -/
def execSrli (pair : PairId) (wait : Nat) (rd ra : RegId) (sh : BitVec 6) (s : State) : Host.Outcome State Fault Refusal := ok (s.compute pair wait rd (fun q => q.reg ra >>> sh.toNat))

/-- SRAI (R352). -/
def execSrai (pair : PairId) (wait : Nat) (rd ra : RegId) (sh : BitVec 6) (s : State) : Host.Outcome State Fault Refusal := ok (s.compute pair wait rd (fun q => (q.reg ra).sshiftRight sh.toNat))

end Sys2Proof.Machine
end

