-- ==== Sys2Proof/Machine/CoreFlow.lean ====
section
/-! DEFINITION. Branches and jumps (Table 10-4, R353), TRAP and BRK, and the instruction that is no instruction (R351). -/

namespace Sys2Proof.Machine

/-- A branch: 2 cycles where it is taken, 1 where it is not (R353). -/
def State.branch (s : State) (p : PairId) (wait : Nat) (off : BitVec 16) (cond : Pair → Bool) : State :=
  s.issue p wait (fun s => s.updPair p (fun q =>
    if cond q then { q with pc := q.pc + (off.signExtend 64 <<< 2), cycle := q.cycle + 2 } else { q with pc := q.pc + 4, cycle := q.cycle + 1 }))

/-- BEQ (R352). -/
def execBeq (pair : PairId) (wait : Nat) (ra rb : RegId) (off : BitVec 16) (s : State) : Host.Outcome State Fault Refusal := ok (s.branch pair wait off (fun q => q.reg ra == q.reg rb))

/-- BNE (R352). -/
def execBne (pair : PairId) (wait : Nat) (ra rb : RegId) (off : BitVec 16) (s : State) : Host.Outcome State Fault Refusal := ok (s.branch pair wait off (fun q => q.reg ra != q.reg rb))

/-- BLT (R352). -/
def execBlt (pair : PairId) (wait : Nat) (ra rb : RegId) (off : BitVec 16) (s : State) : Host.Outcome State Fault Refusal := ok (s.branch pair wait off (fun q => (q.reg ra).slt (q.reg rb)))

/-- BGE (R352). -/
def execBge (pair : PairId) (wait : Nat) (ra rb : RegId) (off : BitVec 16) (s : State) : Host.Outcome State Fault Refusal := ok (s.branch pair wait off (fun q => !(q.reg ra).slt (q.reg rb)))

/-- BLTU (R352). -/
def execBltu (pair : PairId) (wait : Nat) (ra rb : RegId) (off : BitVec 16) (s : State) : Host.Outcome State Fault Refusal := ok (s.branch pair wait off (fun q => (q.reg ra).ult (q.reg rb)))

/-- BGEU (R352). -/
def execBgeu (pair : PairId) (wait : Nat) (ra rb : RegId) (off : BitVec 16) (s : State) : Host.Outcome State Fault Refusal := ok (s.branch pair wait off (fun q => !(q.reg ra).ult (q.reg rb)))

/-- J (R352). -/
def execJ (pair : PairId) (wait : Nat) (off : BitVec 26) (s : State) : Host.Outcome State Fault Refusal :=
  ok (s.issue pair wait (fun s => s.updPair pair (fun q => { q with pc := q.pc + (off.signExtend 64 <<< 2), cycle := q.cycle + 2 })))

/-- JAL: lk, which is g30, takes the address after it (R345, R352). -/
def execJal (pair : PairId) (wait : Nat) (off : BitVec 26) (s : State) : Host.Outcome State Fault Refusal :=
  ok (s.issue pair wait (fun s => s.updPair pair (fun q => { (q.setReg 30 (q.pc + 4)) with pc := q.pc + (off.signExtend 64 <<< 2), cycle := q.cycle + 2 })))

/-- JALR: ALIGN where the target is not a multiple of 4, and then rd keeps its value (R352). -/
def execJalr (pair : PairId) (wait : Nat) (rd ra : RegId) (imm : BitVec 16) (s : State) : Host.Outcome State Fault Refusal :=
  ok (s.issue pair wait (fun s =>
    let t := (s.core pair).reg ra + imm.signExtend 64
    if t.toNat % 4 ≠ 0 then s.raiseExc pair { code := cAlign, kind := 3, bad := t }
    else s.updPair pair (fun q => { (q.setReg rd (q.pc + 4)) with pc := t, cycle := q.cycle + 2 })))

/-- TRAP: the exception returns to the instruction after it (R352, R385). -/
def execTrap (pair : PairId) (wait : Nat) (number : BitVec 8) (s : State) : Host.Outcome State Fault Refusal :=
  ok (s.issue pair wait (fun s => let q := s.core pair; s.enterExc pair q.world { code := cTrap, arg := number.toNat } (q.pc + 4) 0 0))

/-- BRK: the exception returns to the instruction after it (R352, R385). -/
def execBrk (pair : PairId) (wait : Nat) (s : State) : Host.Outcome State Fault Refusal :=
  ok (s.issue pair wait (fun s => let q := s.core pair; s.enterExc pair q.world { code := cBrk } (q.pc + 4) 0 0))

/-- ILLEGAL_INSTRUCTION: a word that is no instruction, or a malformed one (R351). -/
def execIllegalInstruction (pair : PairId) (wait : Nat) (s : State) : Host.Outcome State Fault Refusal :=
  ok (s.issue pair wait (fun s => s.raiseExc pair { code := cIllegal }))

end Sys2Proof.Machine
end

