-- ==== Sys2Proof/Machine/CoreMem.lean ====
section
/-! DEFINITION. Loads, stores, the reservation pair, the atomics and the fences of a core (R354 to R358, Tables 10-3 and 10-4). -/

namespace Sys2Proof.Machine

/-- The address of an access (Table 10-3). -/
def AddrMode.address (m : AddrMode) (q : Pair) (ra : RegId) : Word :=
  match m with
  | .disp d => q.reg ra + d.signExtend 64
  | .index rb sh => q.reg ra + (q.reg rb <<< sh.toNat)
  | .postInc _ => q.reg ra
  | .preDec step => q.reg ra - step.setWidth 64

/-- The base update of a mode (Table 10-3). -/
def AddrMode.rebase (m : AddrMode) (q : Pair) (ra : RegId) : Pair :=
  match m with
  | .disp _ => q
  | .index _ _ => q
  | .postInc step => q.setReg ra (q.reg ra + step.signExtend 64)
  | .preDec step => q.setReg ra (q.reg ra - step.setWidth 64)

/-- The mode updates its base. -/
def AddrMode.updates : AddrMode → Bool
  | .postInc _ | .preDec _ => true
  | .disp _ | .index _ _ => false

/-- A form that R356 names as illegal. -/
def AddrMode.illegal (m : AddrMode) (rt ra : RegId) (load : Bool) : Bool := m.updates && (ra == 0 || (load && rt == ra))

/-- The exception of a misaligned access (R355). -/
def misaligned (k : AccessKind) (a : Word) : CoreExc := { code := cAlign, kind := k.code, bad := a }

/-- Zero extension and sign extension of an element of `n` bytes. -/
def zextBytes (bs : List Byte) : Word := BitVec.ofNat 64 (ofLe bs)
def sextBytes (bs : List Byte) : Word := let n := 8 * bs.length; BitVec.ofInt 64 (Int.bmod (ofLe bs) (2 ^ n))

/-- A load of `n` bytes (R354 to R356). -/
def State.load (s : State) (p : PairId) (wait n : Nat) (rt ra : RegId) (m : AddrMode) (ext : List Byte → Word) : State :=
  s.issue p wait (fun s =>
    let a := m.address (s.core p) ra
    if m.illegal rt ra true then s.raiseExc p { code := cIllegal }
    else if a.toNat % n ≠ 0 then s.raiseExc p (misaligned .read a)
    else match s.loadBytes p .read a n with
      | (.error e, s) => s.raiseExc p e
      | (.ok (_, bs), s) => s.retire p 1 (fun q => (m.rebase q ra).setReg rt (ext bs)))

/-- A store of the low `n` bytes of rt (R354 to R356). -/
def State.store (s : State) (p : PairId) (wait n : Nat) (rt ra : RegId) (m : AddrMode) : State :=
  s.issue p wait (fun s =>
    let a := m.address (s.core p) ra
    if m.illegal rt ra false then s.raiseExc p { code := cIllegal }
    else if a.toNat % n ≠ 0 then s.raiseExc p (misaligned .write a)
    else match s.storeBytes p .write a (leBytes n ((s.core p).reg rt).toNat) with
      | (.error e, s) => s.raiseExc p e
      | (.ok _, s) => s.retire p 1 (fun q => m.rebase q ra))

/-- An atomic doubleword access at ra: rd takes the old value, and memory the new one where there is one. -/
def State.atomic (s : State) (p : PairId) (wait : Nat) (rd ra : RegId) (f : Pair → Word → Option Word) : State :=
  s.issue p wait (fun s =>
    let q := s.core p
    let a := q.reg ra
    if a.toNat % 8 ≠ 0 then s.raiseExc p (misaligned .atomic a)
    else match s.loadBytes p .atomic a 8 with
      | (.error e, s) => s.raiseExc p e
      | (.ok (pa, bs), s) =>
        let old := zextBytes bs
        let s := match f q old with | some v => s.putBytes p q.world pa (leBytes 8 v.toNat) | none => s
        s.retire p 1 (fun q => q.setReg rd old))

/-- The line of 64 bytes that holds a physical address (R358). -/
def lineOf (a : Nat) : Nat := a / 64 * 64

/-- LDB (R356). -/
def execLdb (pair : PairId) (wait : Nat) (rt ra : RegId) (mode : AddrMode) (s : State) : Host.Outcome State Fault Refusal := ok (s.load pair wait 1 rt ra mode sextBytes)

/-- LDBU (R356). -/
def execLdbu (pair : PairId) (wait : Nat) (rt ra : RegId) (mode : AddrMode) (s : State) : Host.Outcome State Fault Refusal := ok (s.load pair wait 1 rt ra mode zextBytes)

/-- LDH (R356). -/
def execLdh (pair : PairId) (wait : Nat) (rt ra : RegId) (mode : AddrMode) (s : State) : Host.Outcome State Fault Refusal := ok (s.load pair wait 2 rt ra mode sextBytes)

/-- LDHU (R356). -/
def execLdhu (pair : PairId) (wait : Nat) (rt ra : RegId) (mode : AddrMode) (s : State) : Host.Outcome State Fault Refusal := ok (s.load pair wait 2 rt ra mode zextBytes)

/-- LDW (R356). -/
def execLdw (pair : PairId) (wait : Nat) (rt ra : RegId) (mode : AddrMode) (s : State) : Host.Outcome State Fault Refusal := ok (s.load pair wait 4 rt ra mode sextBytes)

/-- LDWU (R356). -/
def execLdwu (pair : PairId) (wait : Nat) (rt ra : RegId) (mode : AddrMode) (s : State) : Host.Outcome State Fault Refusal := ok (s.load pair wait 4 rt ra mode zextBytes)

/-- LDD (R356). -/
def execLdd (pair : PairId) (wait : Nat) (rt ra : RegId) (mode : AddrMode) (s : State) : Host.Outcome State Fault Refusal := ok (s.load pair wait 8 rt ra mode zextBytes)

/-- STB (R356). -/
def execStb (pair : PairId) (wait : Nat) (rt ra : RegId) (mode : AddrMode) (s : State) : Host.Outcome State Fault Refusal := ok (s.store pair wait 1 rt ra mode)

/-- STH (R356). -/
def execSth (pair : PairId) (wait : Nat) (rt ra : RegId) (mode : AddrMode) (s : State) : Host.Outcome State Fault Refusal := ok (s.store pair wait 2 rt ra mode)

/-- STW (R356). -/
def execStw (pair : PairId) (wait : Nat) (rt ra : RegId) (mode : AddrMode) (s : State) : Host.Outcome State Fault Refusal := ok (s.store pair wait 4 rt ra mode)

/-- STD (R356). -/
def execStd (pair : PairId) (wait : Nat) (rt ra : RegId) (mode : AddrMode) (s : State) : Host.Outcome State Fault Refusal := ok (s.store pair wait 8 rt ra mode)

/-- LLD: load and set the reservation on the line (R358). -/
def execLld (pair : PairId) (wait : Nat) (rd ra : RegId) (s : State) : Host.Outcome State Fault Refusal :=
  ok (s.issue pair wait (fun s =>
    let a := (s.core pair).reg ra
    if a.toNat % 8 ≠ 0 then s.raiseExc pair (misaligned .read a)
    else match s.loadBytes pair .read a 8 with
      | (.error e, s) => s.raiseExc pair e
      | (.ok (pa, bs), s) =>
        (s.updCores (fun c => { c with reserved := tput c.reserved pair.val (lineOf pa) })).retire pair 1 (fun q => q.setReg rd (zextBytes bs))))

/-- SCD: store only where the reservation covers the line; the reservation ends either way (R358). -/
def execScd (pair : PairId) (wait : Nat) (rd ra rb : RegId) (s : State) : Host.Outcome State Fault Refusal :=
  ok (s.issue pair wait (fun s =>
    let q := s.core pair
    let a := q.reg ra
    if a.toNat % 8 ≠ 0 then s.raiseExc pair (misaligned .write a)
    else match s.approach pair q.world (!q.sup) .write a 8 with
      | (.error e, s) => s.raiseExc pair e
      | (.ok pa, s) =>
        let holds := tget s.cores.reserved pair.val == some (lineOf pa)
        let s := s.dropOwn pair
        let s := if holds then s.putBytes pair q.world pa (leBytes 8 (q.reg rb).toNat) else s
        s.retire pair 1 (fun q => q.setReg rd (boolWord (!holds)))))

/-- SWAPD (R352). -/
def execSwapd (pair : PairId) (wait : Nat) (rd ra rb : RegId) (s : State) : Host.Outcome State Fault Refusal := ok (s.atomic pair wait rd ra (fun q _ => some (q.reg rb)))

/-- AADDD (R352). -/
def execAaddd (pair : PairId) (wait : Nat) (rd ra rb : RegId) (s : State) : Host.Outcome State Fault Refusal := ok (s.atomic pair wait rd ra (fun q old => some (old + q.reg rb)))

/-- AANDD (R352). -/
def execAandd (pair : PairId) (wait : Nat) (rd ra rb : RegId) (s : State) : Host.Outcome State Fault Refusal := ok (s.atomic pair wait rd ra (fun q old => some (old &&& q.reg rb)))

/-- AORD (R352). -/
def execAord (pair : PairId) (wait : Nat) (rd ra rb : RegId) (s : State) : Host.Outcome State Fault Refusal := ok (s.atomic pair wait rd ra (fun q old => some (old ||| q.reg rb)))

/-- CASD: memory takes rb where the old value equals rd (R352). -/
def execCasd (pair : PairId) (wait : Nat) (rd ra rb : RegId) (s : State) : Host.Outcome State Fault Refusal := ok (s.atomic pair wait rd ra (fun q old => if old = q.reg rd then some (q.reg rb) else none))

/-- FENCE: every earlier access has completed at its target when the next command of the model runs (R357). -/
def execFence (pair : PairId) (wait : Nat) (s : State) : Host.Outcome State Fault Refusal := ok (s.issue pair wait (fun s => s.retire pair 1 (fun q => q)))

/-- FENCEI: FENCE; the instructions that follow are fetched afresh (R352). -/
def execFencei (pair : PairId) (wait : Nat) (s : State) : Host.Outcome State Fault Refusal := ok (s.issue pair wait (fun s => s.retire pair 1 (fun q => q)))

/-- CFLUSH: writes back and invalidates a line at every level; no cache stands in the model (assumption 28). -/
def execCflush (pair : PairId) (wait : Nat) (ra : RegId) (s : State) : Host.Outcome State Fault Refusal :=
  ok (s.privileged pair wait (fun s => let _ := (s.core pair).reg ra; s.retire pair 1 (fun q => q)))

end Sys2Proof.Machine
end

