-- ==== Sys2Proof/Machine/CoreMul.lean ====
section
/-! DEFINITION. The multiplier (R359 to R362, Table 10-5): its queue of four, the products and quotients, and the reads of MLO and MHI. -/

namespace Sys2Proof.Machine

/-- Multiplier instructions that the queue holds. -/
def mulQueue : Nat := 4

/-- Latencies (Table 10-5). -/
def latMul : Nat := 4
def latMadd : Nat := 5
def latDiv : Nat := 40
def latMwr : Nat := 1

/-- What the previous multiplier instruction wrote, whatever has completed (R360). -/
def Pair.accumulator (q : Pair) : BitVec 128 := match q.mul.getLast? with | some e => e.value | none => q.mhi ++ q.mlo

/-- A multiplier instruction waits to issue until the queue has room. -/
def Pair.mulRoom (q : Pair) : Pair :=
  if q.mul.length < mulQueue then q else match q.mul.head? with | some e => ({ q with cycle := max q.cycle e.done }).settle | none => q

/-- Enter a multiplier instruction of latency `lat` into the queue: it completes at max(issue + L, the one before it + 1) (R359). -/
def Pair.multiply (q : Pair) (lat : Nat) (f : Pair → BitVec 128) : Pair :=
  let q := q.mulRoom
  let done := max (q.cycle + lat) (q.mulLast + 1)
  { q with mul := q.mul ++ [{ done := done, value := f q }], mulLast := done }

/-- A multiplier instruction. -/
def State.mulOp (s : State) (p : PairId) (wait lat : Nat) (f : Pair → BitVec 128) : State := s.issue p wait (fun s => s.retire p 1 (fun q => q.multiply lat f))

/-- The exact products, 128 bits. -/
def prodS (a b : Word) : BitVec 128 := a.signExtend 128 * b.signExtend 128
def prodU (a b : Word) : BitVec 128 := a.setWidth 128 * b.setWidth 128

/-- Quotients and remainders as 128-bit values, with their corners (R362). -/
def quotS (a b : Word) : BitVec 128 := if b = 0 then BitVec.allOnes 128 else BitVec.ofInt 128 (a.toInt.tdiv b.toInt)
def quotU (a b : Word) : BitVec 128 := if b = 0 then BitVec.allOnes 128 else BitVec.ofNat 128 (a.toNat / b.toNat)
def remS (a b : Word) : BitVec 128 := if b = 0 then a.signExtend 128 else BitVec.ofInt 128 (a.toInt.tmod b.toInt)
def remU (a b : Word) : BitVec 128 := if b = 0 then a.setWidth 128 else BitVec.ofNat 128 (a.toNat % b.toNat)

/-- MUL (R359). -/
def execMul (pair : PairId) (wait : Nat) (ra rb : RegId) (s : State) : Host.Outcome State Fault Refusal := ok (s.mulOp pair wait latMul (fun q => prodS (q.reg ra) (q.reg rb)))

/-- MULU (R359). -/
def execMulu (pair : PairId) (wait : Nat) (ra rb : RegId) (s : State) : Host.Outcome State Fault Refusal := ok (s.mulOp pair wait latMul (fun q => prodU (q.reg ra) (q.reg rb)))

/-- MADD (R360). -/
def execMadd (pair : PairId) (wait : Nat) (ra rb : RegId) (s : State) : Host.Outcome State Fault Refusal := ok (s.mulOp pair wait latMadd (fun q => q.accumulator + prodS (q.reg ra) (q.reg rb)))

/-- MADDU (R360). -/
def execMaddu (pair : PairId) (wait : Nat) (ra rb : RegId) (s : State) : Host.Outcome State Fault Refusal := ok (s.mulOp pair wait latMadd (fun q => q.accumulator + prodU (q.reg ra) (q.reg rb)))

/-- DIVQ (R362). -/
def execDivq (pair : PairId) (wait : Nat) (ra rb : RegId) (s : State) : Host.Outcome State Fault Refusal := ok (s.mulOp pair wait latDiv (fun q => quotS (q.reg ra) (q.reg rb)))

/-- DIVQU (R362). -/
def execDivqu (pair : PairId) (wait : Nat) (ra rb : RegId) (s : State) : Host.Outcome State Fault Refusal := ok (s.mulOp pair wait latDiv (fun q => quotU (q.reg ra) (q.reg rb)))

/-- REMD (R362). -/
def execRemd (pair : PairId) (wait : Nat) (ra rb : RegId) (s : State) : Host.Outcome State Fault Refusal := ok (s.mulOp pair wait latDiv (fun q => remS (q.reg ra) (q.reg rb)))

/-- REMDU (R362). -/
def execRemdu (pair : PairId) (wait : Nat) (ra rb : RegId) (s : State) : Host.Outcome State Fault Refusal := ok (s.mulOp pair wait latDiv (fun q => remU (q.reg ra) (q.reg rb)))

/-- MWR: MLO := ra and MHI := rb, as one multiplier write (R359). -/
def execMwr (pair : PairId) (wait : Nat) (ra rb : RegId) (s : State) : Host.Outcome State Fault Refusal := ok (s.mulOp pair wait latMwr (fun q => q.reg rb ++ q.reg ra))

/-- MRDL: MLO as the completed multiplier instructions have left it (R359). -/
def execMrdl (pair : PairId) (wait : Nat) (rd : RegId) (s : State) : Host.Outcome State Fault Refusal := ok (s.compute pair wait rd (fun q => q.mlo))

/-- MRDH: MHI as the completed multiplier instructions have left it (R359). -/
def execMrdh (pair : PairId) (wait : Nat) (rd : RegId) (s : State) : Host.Outcome State Fault Refusal := ok (s.compute pair wait rd (fun q => q.mhi))

/-- MULTIPLIER_COMPLETE: the oldest queued multiplier instruction completes at c(i) and writes MLO and MHI (R359). -/
def execMultiplierComplete (pair : PairId) (s : State) : Host.Outcome State Fault Refusal :=
  match (s.core pair).mul.head? with
  | some e => ok (s.updPair pair (fun q => ({ q with cycle := max q.cycle e.done }).settle))
  | none => ok s

end Sys2Proof.Machine
end

