-- ==== Sys2Proof/Machine/CoreLong.lean ====
section
/-!
DEFINITION. The long instructions (R363 to R370, Table 10-7). A command runs up to `elements` elements: an interrupt stops the instruction at an
element boundary, and the next command of the same instruction goes on with the remaining count.
-/

namespace Sys2Proof.Machine

/-- Three registers that differ, none g0 (R364). -/
def threeRegs (rd ra rb : RegId) : Bool := rd != 0 && ra != 0 && rb != 0 && rd != ra && rd != rb && ra != rb

/-- The registers of BFILL (R364). -/
def fillRegs (rd ra rb : RegId) : Bool := rd != 0 && rb != 0 && rd != rb && ra != rd && ra != rb

/-- Elements run until the count is zero, an element fails, or `n` have been done (R367, R369). -/
def State.elements (p : PairId) (rb : RegId) (elt : State → Except CoreExc Unit × State) : Nat → State → Except CoreExc Unit × State
  | 0, s => (.ok (), s)
  | n + 1, s =>
    if (s.core p).reg rb = 0 then (.ok (), s)
    else match elt s with
      | (.error e, s) => (.error e, s)
      | (.ok _, s) => State.elements p rb elt n (s.updPair p (fun q => { (q.setReg rb (q.reg rb - 1)) with cycle := q.cycle + 1 }))

/-- A long instruction: its registers (R364), the count of zero (R365), the alignment (R366), the elements, and pc past it once the count is zero.
`addrs` are the addresses to align, with their kinds. -/
def State.longOp (s : State) (p : PairId) (wait n size : Nat) (rb : RegId) (legal : Bool) (addrs : List (AccessKind × RegId)) (drains : Bool)
    (elt : State → Except CoreExc Unit × State) : State :=
  s.issue p wait (fun s =>
    let q := s.core p
    if !legal then s.raiseExc p { code := cIllegal }
    else if q.reg rb = 0 then s.retire p 1 (fun q => q)
    else match addrs.find? (fun x => (q.reg x.2).toNat % size != 0) with
      | some (k, r) => s.raiseExc p (misaligned k (q.reg r))
      | none =>
        let s := if drains then s.updPair p Pair.drain else s
        match State.elements p rb elt n s with
        | (.error e, s) => s.raiseExc p e
        | (.ok _, s) => if (s.core p).reg rb = 0 then s.retire p 0 (fun q => q) else s)

/-- Advance an address register. -/
def Pair.step (q : Pair) (r : RegId) (n : Nat) : Pair := q.setReg r (q.reg r + BitVec.ofNat 64 n)

/-- Read the elements of two vectors at rd and ra, and change the pair with them. -/
def State.twoVectors (s : State) (p : PairId) (rd ra : RegId) (f : Pair → Word → Word → Pair) : Except CoreExc Unit × State :=
  match s.loadBytes p .read ((s.core p).reg rd) 8 with
  | (.error e, s) => (.error e, s)
  | (.ok (_, x), s) => match s.loadBytes p .read ((s.core p).reg ra) 8 with
    | (.error e, s) => (.error e, s)
    | (.ok (_, y), s) => (.ok (), s.updPair p (fun q => ((f q (zextBytes x) (zextBytes y)).step rd 8).step ra 8))

/-- The sum of the 8 absolute differences of unsigned bytes. -/
def sumDiffs (x y : Word) : Nat := ((leBytes 8 x.toNat).zip (leBytes 8 y.toNat)).foldl (fun n b => n + ((b.1.toNat - b.2.toNat) + (b.2.toNat - b.1.toNat))) 0

/-- BMOV: the source is read, and checked, before the destination (R363, R369). -/
def execBmov (pair : PairId) (wait elements : Nat) (rd ra rb : RegId) (size : BitVec 2) (s : State) : Host.Outcome State Fault Refusal :=
  let n := 2 ^ size.toNat
  ok (s.longOp pair wait elements n rb (threeRegs rd ra rb) [(.write, rd), (.read, ra)] false (fun s =>
    match s.loadBytes pair .read ((s.core pair).reg ra) n with
    | (.error e, s) => (.error e, s)
    | (.ok (_, bs), s) => match s.storeBytes pair .write ((s.core pair).reg rd) bs with
      | (.error e, s) => (.error e, s)
      | (.ok _, s) => (.ok (), s.updPair pair (fun q => (q.step rd n).step ra n))))

/-- BFILL (R363). -/
def execBfill (pair : PairId) (wait elements : Nat) (rd ra rb : RegId) (size : BitVec 2) (s : State) : Host.Outcome State Fault Refusal :=
  let n := 2 ^ size.toNat
  ok (s.longOp pair wait elements n rb (fillRegs rd ra rb) [(.write, rd)] false (fun s =>
    match s.storeBytes pair .write ((s.core pair).reg rd) (leBytes n ((s.core pair).reg ra).toNat) with
    | (.error e, s) => (.error e, s)
    | (.ok _, s) => (.ok (), s.updPair pair (fun q => q.step rd n))))

/-- MACV: it waits for the multiplier queue to empty before its first element (R360, R363). -/
def execMacv (pair : PairId) (wait elements : Nat) (rd ra rb : RegId) (unsigned : Bool) (s : State) : Host.Outcome State Fault Refusal :=
  ok (s.longOp pair wait elements 8 rb (threeRegs rd ra rb) [(.read, rd), (.read, ra)] true (fun s =>
    s.twoVectors pair rd ra (fun q x y =>
      let acc := q.accumulator + (if unsigned then prodU x y else prodS x y)
      { q with mlo := acc.setWidth 64, mhi := (acc >>> 64).setWidth 64 })))

/-- SABS (R363). -/
def execSabs (pair : PairId) (wait elements : Nat) (rd ra rb : RegId) (s : State) : Host.Outcome State Fault Refusal :=
  ok (s.longOp pair wait elements 8 rb (threeRegs rd ra rb) [(.read, rd), (.read, ra)] true (fun s =>
    s.twoVectors pair rd ra (fun q x y => { q with mlo := q.mlo + BitVec.ofNat 64 (sumDiffs x y) })))

end Sys2Proof.Machine
end

