-- ==== Sys2Proof/Machine/CoreSys.lean ====
section
/-!
DEFINITION. The system instructions of a core: the special registers (Table 10-1), ERET, the stirrup gates (R401 to R404), WAIT, TLBINV, the mask,
interrupt entry (R396), and lockstep (R406 to R408).
-/

namespace Sys2Proof.Machine

/-- Who may read and who may write a special register in the running context (Table 10-1); none for a number that the table does not have. -/
def specialRights (sr : Nat) (w : World) (sup : Bool) : Option (Bool × Bool) :=
  if sr = 0x00 then some (true, sup)
  else if sr = 0x01 ∨ sr = 0x02 ∨ sr = 0x06 ∨ sr = 0x0B then some (sup, sup)
  else if 0x03 ≤ sr ∧ sr ≤ 0x05 then some (sup, false)
  else if sr = 0x07 then some (sup && w == .keeper, sup && w == .keeper)
  else if sr = 0x08 ∨ sr = 0x09 then some (true, true)
  else if sr = 0x0A ∨ (0x10 ≤ sr ∧ sr ≤ 0x13) then some (true, false)
  else none

/-- FEAT0 to FEAT3 (Table 10-9). -/
def feature (p n : Nat) : Word :=
  match n with
  | 0 => BitVec.ofNat 64 (1 + 2 ^ 16 * 0x3F + 2 ^ 24 * 255)
  | 1 => BitVec.ofNat 64 (p % 16 + 2 ^ 8 * 15 + 2 ^ 16 * 48 + 2 ^ 24 * 48 + 2 ^ 32 * 16)
  | 2 => BitVec.ofNat 64 (64 + 2 ^ 8 * 64 + 2 ^ 16 * 1024 + 2 ^ 32 * 32 + 2 ^ 48 * 6)
  | _ => BitVec.ofNat 64 (4 + 2 ^ 8 * 5 + 2 ^ 16 * 40 + 2 ^ 24 * 48 + 2 ^ 32 * 1024)

/-- The value of a special register; a per-world one's copy is that of the running world (R347). -/
def Pair.special (q : Pair) (p sr : Nat) : Word :=
  let r := q.regsOf q.world
  match sr with
  | 0x00 => q.status
  | 0x01 => r.estatus
  | 0x02 => r.epc
  | 0x03 => r.cause
  | 0x04 => r.cause2
  | 0x05 => r.badaddr
  | 0x06 => r.entry
  | 0x07 => q.estack
  | 0x08 => q.mlo
  | 0x09 => q.mhi
  | 0x0A => BitVec.ofNat 64 q.cycle
  | 0x0B => r.timecmp
  | n => feature p (n - 0x10)

/-- Write a special register: of STATUS only IM and ASID, of ESTATUS the fields it has (R348). -/
def Pair.setSpecial (q : Pair) (sr : Nat) (v : Word) : Pair :=
  let w := q.world
  let r := q.regsOf w
  match sr with
  | 0x00 => (q.setRegsOf w { r with asid := (v >>> 8).setWidth 16 }).setIm (v.getLsbD 0)
  | 0x01 => q.setRegsOf w { r with estatus := statusBits w v }
  | 0x02 => q.setRegsOf w { r with epc := v }
  | 0x06 => q.setRegsOf w { r with entry := v }
  | 0x07 => { q with estack := v }
  | 0x08 => { q with mlo := v }
  | 0x09 => { q with mhi := v }
  | 0x0B => q.setRegsOf w { r with timecmp := v }
  | _ => q

/-- MFS: ILLEGAL for a number that Table 10-1 does not have, PRIV where the context may not read (R347). -/
def execMfs (pair : PairId) (wait : Nat) (rd : RegId) (sr : BitVec 8) (s : State) : Host.Outcome State Fault Refusal :=
  ok (s.issue pair wait (fun s =>
    let q := s.core pair
    match specialRights sr.toNat q.world q.sup with
    | none => s.raiseExc pair { code := cIllegal }
    | some (rd', _) => if rd' then s.retire pair 1 (fun q => q.setReg rd (q.special pair.val sr.toNat)) else s.raiseExc pair { code := cPriv }))

/-- MTS: ILLEGAL for a number that Table 10-1 does not have, PRIV where the context may not write (R347). -/
def execMts (pair : PairId) (wait : Nat) (ra : RegId) (sr : BitVec 8) (s : State) : Host.Outcome State Fault Refusal :=
  ok (s.issue pair wait (fun s =>
    let q := s.core pair
    match specialRights sr.toNat q.world q.sup with
    | none => s.raiseExc pair { code := cIllegal }
    | some (_, wr') => if wr' then s.retire pair 1 (fun q => q.setSpecial sr.toNat (q.reg ra)) else s.raiseExc pair { code := cPriv }))

/-- Clear MLO and MHI where the world has changed (R387). -/
def Pair.clearMul (q : Pair) (changed : Bool) : Pair := if changed then { q with mlo := 0, mhi := 0 } else q

/-- RETURN FROM EXCEPTION: STATUS from ESTATUS, pc from EPC; a change of world clears MLO and MHI; the reservation ends (R358, R387). -/
def State.eret (s : State) (p : PairId) : State :=
  (s.dropOwn p).updPair p (fun q =>
    let r := q.regsOf q.world
    let q1 := (q.setStatus r.estatus).clearMul (statusWorld r.estatus != q.world)
    { q1 with pc := r.epc, cycle := q.cycle + 1 })

/-- ERET (R387). -/
def execEret (pair : PairId) (wait : Nat) (s : State) : Host.Outcome State Fault Refusal := ok (s.privileged pair wait (fun s => s.eret pair))

/-- A gate descriptor (Table 11-5), and whether it is VALID and well formed. -/
structure GateDesc where
  entry : Nat
  flags : Nat
  nargs : Nat
  nbuf : Nat
  checks : List (Nat × Nat × Nat × Nat)
  reserved : Nat
  deriving DecidableEq, Repr

def gateDesc (bs : List Byte) : GateDesc :=
  let u (o n : Nat) := ofLe (slice bs o n)
  { entry := u 0 8, flags := u 8 2, nargs := u 10 1, nbuf := u 11 1, reserved := u 12 4,
    checks := (List.range 4).map (fun i => (u (16 + 4 * i) 1, u (17 + 4 * i) 1, u (18 + 4 * i) 1, u (19 + 4 * i) 1)) }

def GateDesc.valid (d : GateDesc) : Bool :=
  bitOf d.flags 0 && decide (d.flags < 8) && d.reserved == 0 && d.entry % 4 == 0 && decide (d.nargs ≤ 8) && decide (d.nbuf ≤ 4)
  && d.checks.all (fun c => decide (c.2.2.1 < 4))
  && (d.checks.take d.nbuf).all (fun c => decide (1 ≤ c.1 ∧ c.1 ≤ 8 ∧ 1 ≤ c.2.1 ∧ c.2.1 ≤ 8 ∧ 1 ≤ c.2.2.2 ∧ c.2.2.2 ≤ 16))

/-- A byte of a page lets the caller make an access of a kind: it translates with the right, and the access table grants it. -/
def State.pageAllows (s : State) (p : PairId) (w : World) (user : Bool) (va : Word) (k : AccessKind) : Bool × State :=
  match s.translate p w user k va with
  | (.error _, s) => (false, s)
  | (.ok a, s) => ((s.forbidden (coreAccess p w user k a 1)).isNone, s)

/-- A page translates at all, where no right is needed. -/
def State.pageMapped (s : State) (p : PairId) (w : World) (user : Bool) (va : Word) : Bool × State :=
  if !s.paging p w then (true, s) else match s.lookup p w user .read va with | (.error _, s) => (false, s) | (.ok _, s) => (true, s)

/-- The pages of a buffer, from the pointer on: the first byte of the first that fails (R402). -/
def State.pagesFail (p : PairId) (w : World) (user : Bool) (rights : Nat) : List Word → State → Option Word × State
  | [], s => (none, s)
  | va :: vs, s =>
    let (a, s) := if bitOf rights 0 then s.pageAllows p w user va .read else s.pageMapped p w user va
    if !a then (some va, s)
    else
      let (b, s) := if bitOf rights 1 then s.pageAllows p w user va .write else (true, s)
      if b then State.pagesFail p w user rights vs s else (some va, s)

/-- A range of a buffer check is one range of canonical addresses (R402). -/
def State.rangeOk (s : State) (p : PairId) (w : World) (ptr len : Nat) : Bool :=
  let last := ptr + len - 1
  decide (last < 2 ^ 64)
  && (if s.paging p w then canonical (BitVec.ofNat 64 ptr) && canonical (BitVec.ofNat 64 last) else decide (last < 2 ^ 48))

/-- One buffer check (R402): the failing byte where it fails. -/
def State.bufferCheck (s : State) (p : PairId) (c : Nat × Nat × Nat × Nat) : Option Word × State :=
  let q := s.core p
  let ptr := (q.reg (Fin.ofNat 32 c.1)).toNat
  let len := (q.reg (Fin.ofNat 32 c.2.1)).toNat
  if len = 0 then (none, s)
  else if c.2.2.2 * 4096 < len ∨ !s.rangeOk p q.world ptr len then (some (BitVec.ofNat 64 ptr), s)
  else
    let firstPage := ptr / 4096
    let pages := (List.range ((ptr + len - 1) / 4096 - firstPage)).map (fun i => BitVec.ofNat 64 ((firstPage + 1 + i) * 4096))
    State.pagesFail p q.world (!q.sup) c.2.2.1 (BitVec.ofNat 64 ptr :: pages) s

/-- The buffer checks in order: the index and the byte of the first that fails. -/
def State.bufferChecks (p : PairId) : List (Nat × Nat × Nat × Nat) → Nat → State → Option (Nat × Word) × State
  | [], _, s => (none, s)
  | c :: cs, i, s => match s.bufferCheck p c with
    | (some a, s) => (some (i, a), s)
    | (none, s) => State.bufferChecks p cs (i + 1) s

/-- Clear the registers from `lo` to `hi`. -/
def Pair.clearRegs (q : Pair) (lo hi : Nat) : Pair := { q with g := Vector.ofFn (fun r : Fin 32 => if lo ≤ r.val ∧ r.val ≤ hi then 0 else q.g[r]) }

/-- The table of a world's gates (CORE_GTBL). -/
def State.gateTable (s : State) (p : PairId) (w : World) : Nat :=
  32 * s.rd (match w with | .keeper => Reg.CORE_GTBL_K.BASE.nth p | .tack => Reg.CORE_GTBL_T.BASE.nth p)

/-- Read descriptor `n` of a world's gate table, with the supervisor rights of that world (R401). -/
def State.readGate (s : State) (p : PairId) (w : World) (n : Nat) : Option GateDesc × State :=
  let a := s.gateTable p w + 32 * n
  match s.reach (coreAccess p w false .read a 32) with
  | (.error _, s) => (none, s)
  | (.ok _, s) => let ((bs, poisoned), s) := s.fetchBytes w a 32; (if poisoned then none else some (gateDesc bs), s)

/-- The call itself: the return frame, the cleared registers, and the entry (R401 items 4 to 6). -/
def State.gateEnter (s : State) (p : PairId) (w : World) (d : GateDesc) : State :=
  let base := s.stackBase p w
  (s.dropOwn p).updPair p (fun q =>
    let q := { q with frames := { pc := q.pc + 4, status := q.status, sp := q.reg 31 } :: q.frames }
    let q := ({ q.drain with mlo := 0, mhi := 0 }).clearRegs (d.nargs + 1) 30
    let q := ((q.setWorld w).setIm true).setReg 31 base
    { q with sup := true, pc := BitVec.ofNat 64 d.entry, cycle := q.cycle + 1 })

/-- GATE n, 0 to 254 (R401, R402). -/
def execGate (pair : PairId) (wait : Nat) (number : Fin 255) (s : State) : Host.Outcome State Fault Refusal :=
  ok (s.issue pair wait (fun s =>
    let q := s.core pair
    let w := q.world.other
    let bad (d : Nat) : CoreExc := { code := cGateBad, detail := d, arg := number.val }
    if s.gateTable pair w = 0 then s.raiseExc pair (bad 0)
    else match s.readGate pair w number.val with
      | (none, s) => s.raiseExc pair (bad 2)
      | (some d, s) =>
        if !d.valid then s.raiseExc pair (bad 0)
        else if !(if q.sup then bitOf d.flags 1 else bitOf d.flags 2) then s.raiseExc pair (bad 1)
        else match State.bufferChecks pair (d.checks.take d.nbuf) 0 s with
          | (some (i, a), s) => s.raiseExc pair { code := cGateArg, detail := i, arg := number.val, bad := a }
          | (none, s) =>
            if 8 ≤ q.frames.length then s.raiseExc pair { code := cGateDepth, arg := number.val } else s.gateEnter pair w d))

/-- GATE_RETURN: GATE 255 (R404). -/
def execGateReturn (pair : PairId) (wait : Nat) (s : State) : Host.Outcome State Fault Refusal :=
  ok (s.issue pair wait (fun s =>
    let q := s.core pair
    if !q.sup then s.raiseExc pair { code := cGateBad, detail := 3, arg := 255 }
    else match q.frames with
      | [] => s.raiseExc pair { code := cGateDepth, detail := 1, arg := 255 }
      | f :: fs =>
        if statusWorld f.status = q.world then s.raiseExc pair { code := cGateDepth, detail := 1, arg := 255 }
        else (s.dropOwn pair).updPair pair (fun q =>
          let q := ({ q.drain with mlo := 0, mhi := 0, frames := fs }).clearRegs 9 30
          let q := (q.setStatus f.status).setReg 31 f.sp
          { q with pc := f.pc, cycle := q.cycle + 1 })))

/-- WAIT: issue stops until an interrupt routed to the core is pending, whatever IM is (R362). -/
def execWait (pair : PairId) (wait : Nat) (s : State) : Host.Outcome State Fault Refusal :=
  ok (s.privileged pair wait (fun s => let w := !s.routedPending pair; s.retire pair 1 (fun q => { q with waiting := w })))

/-- TLBINV over the entries of the running world that satisfy `f` (R379). -/
def State.tlbInv (s : State) (p : PairId) (wait : Nat) (f : Pair → TlbEntry → Bool) : State :=
  s.privileged p wait (fun s => s.retire p 1 (fun q => { q with tlb := q.tlb.filter (fun t => !(t.world == q.world && f q t)) }))

/-- TLBINV mode 0: the page at ra, for the ASID of STATUS and for G entries (Table 10-12). -/
def execTlbinvPage (pair : PairId) (wait : Nat) (ra : RegId) (s : State) : Host.Outcome State Fault Refusal :=
  ok (s.tlbInv pair wait (fun q t => t.hits q.world (q.regsOf q.world).asid (q.reg ra)))

/-- TLBINV mode 1: the non-G entries of ASID ra[15:0] (Table 10-12). -/
def execTlbinvAsid (pair : PairId) (wait : Nat) (ra : RegId) (s : State) : Host.Outcome State Fault Refusal :=
  ok (s.tlbInv pair wait (fun q t => !bitOf t.entry 6 && t.asid == (q.reg ra).setWidth 16))

/-- TLBINV mode 2: every entry of the running world (Table 10-12). -/
def execTlbinvWorld (pair : PairId) (wait : Nat) (s : State) : Host.Outcome State Fault Refusal := ok (s.tlbInv pair wait (fun _ _ => true))

/-- DI: rd takes IM, and IM is set (R352). -/
def execDi (pair : PairId) (wait : Nat) (rd : RegId) (s : State) : Host.Outcome State Fault Refusal :=
  ok (s.privileged pair wait (fun s => s.retire pair 1 (fun q => (q.setReg rd (BitVec.ofNat 64 (b2n q.im))).setIm true)))

/-- EI: IM is cleared (R352). -/
def execEi (pair : PairId) (wait : Nat) (s : State) : Host.Outcome State Fault Refusal := ok (s.privileged pair wait (fun s => s.retire pair 1 (fun q => q.setIm false)))

/-- INTERRUPT_ENTRY: at a boundary, with IM 0, the best deliverable interrupt is taken: a Keeper-routed one in either world, a Tack-routed one in
Tack world (R395, R396). -/
def execInterruptEntry (pair : PairId) (wait : Nat) (s : State) : Host.Outcome State Fault Refusal :=
  if !s.issues pair then ok s
  else
    let s := s.tick pair wait
    let q := s.core pair
    let allowed (n : Nat) : Bool := s.deliverable pair.val .keeper n || (q.world == .tack && s.deliverable pair.val .tack n)
    match (if q.im then none else s.bestSource allowed) with
    | none => ok s
    | some n => ok ((s.enterExc pair (s.sourceWorld n) { code := cInterrupt } q.pc n (s.sourcePrio n)).delivered pair.val n)

/-- LOCKSTEP_MISMATCH: the pair restores from its shadow and re-executes: its state is unchanged, and CORE_MISMATCH is logged (R406). A second
mismatch within 1 ms quarantines the pair (R407); an uncorrectable shadow halts it (R408). -/
def execLockstepMismatch (pair : PairId) (uncorrectable : Bool) (s : State) : Host.Outcome State Fault Refusal :=
  if !s.mainOn ∨ s.pstate pair ≠ 0 then ok s
  else
    let q := s.core pair
    let second : Bool := match q.mismatchAt with | some (t, c) => decide (s.now < t + msec ∧ q.cycle < c + s.coreCycles 1000) | none => false
    let now := s.now
    let s := (s.updPair pair (fun q => { q with mismatchAt := some (now, q.cycle) })).raise (srcCore pair 0) pair
    if uncorrectable then ok ((s.updPair pair (fun q => { q with shadowLost := true })).haltPair pair)
    else
      let s := s.bump (Reg.CORE_STATE.RETRIES.nth pair)
      if second then ok ((s.losePair pair).raise (srcCore pair 1) pair) else ok s

/-- CORE_PAIR_SELFTEST_DONE: a pair's self-test ends; a pair that passes leaves it as after a core pair reset, with its save record kept; one that
fails is quarantined (R407, R607). -/
def execCorePairSelftestDone (pair : PairId) (result : TestEnd) (signature : Nat) (s : State) : Host.Outcome State Fault Refusal :=
  let p := pair.val
  if s.pstate p ≠ 4 then ok s
  else
    let nightly := s.isSet Reg.SHP_ST_OUT.CORE_ACT && s.rd Reg.SHP_ST_OUT.CORE == p
    if result = .aborted ∧ !nightly then ok s else
    let s := if nightly then s.testEnded .pair p else s
    let s := s.testOver .pair p result signature
    if result = .pass ∨ result = .aborted then
      let s := (s.wr (Reg.CORE_STATE.PSTATE.nth pair) 0).updPair pair (fun q => { Pair.reset p with save := q.save })
      ok (if nightly then s else s.backInService .pair p)
    else
      ok (((s.wr (Reg.CORE_STATE.PSTATE.nth pair) 2).updPair pair (fun q => { q with testing := none })).raise (srcCore pair 1) pair)

end Sys2Proof.Machine
end

