-- ==== Sys2Proof/Machine/Smilia.lean ====
section
/-!
DEFINITION. Smilia (chapter 18): the handshake and the session's life (R555 to R558), reads, writes and DOMAIN transfers (R560 to R567), subscriptions
(R568, R569), management addresses (R548), and the management port (R547, R578).
-/

namespace Sys2Proof.Machine

/-- Bytes of the HELLO payload (Table 18-2). -/
def smlHelloBytes : Nat := 1648

/-- A session ID, from the counter that starts at a random value (R61 under R556). -/
def State.takeSmlId (s : State) : Nat × State :=
  let (start, s) := match s.smilia.nextSession with
    | some n => (n, s)
    | none => let (r, s) := s.draw 32; (r % 2 ^ 32, s)
  let used := tkeys s.smilia.sessions (fun _ _ => true)
  let n := ((List.range (used.length + 2)).map (fun i => (start + i) % 2 ^ 32)).find? (fun n => n != 0 && !used.contains n) |>.getD 1
  (n, s.updSmilia (fun m => { m with nextSession := some ((n + 1) % 2 ^ 32) }))

/-- The Awl units that a handshake needs serve: in the safe state the management unit (R476, R549). -/
def State.smlAwl (s : State) : Bool := if s.safe then s.collector.mgmtAwl.isSome else s.awlServes

/-- A handshake ends AUTH_FAILED or ROLE (Table 18-13, MGT_EVENTS). -/
def State.authFails (s : State) : State := (s.bump Reg.MGT_EVENTS.AUTH_FAIL).raise srcSmlAuthFail

/-- The answer to a HELLO whose key exchange gave shared secrets: a session in AUTH_WAIT with its keys, HELLO_REPLY and AUTH (R555, R556). -/
def State.openSmlSession (s : State) (n : SmlNet) (hello : List Byte) (sh : Share) (ssk ssx : Nat) : State :=
  let (sid, s) := s.takeSmlId
  let answer := beBytes 16 0 ++ beBytes 32 sh.random ++ beBytes 4 sid ++ beBytes 32 sh.pub ++ sh.ciphertext
  let th := transcript hello answer
  let km := keyMaterial ssk ssx th "LGE9120 smilia"
  let (auth, s) := s.deviceAuth "LGE9120 SM device" th
  let x : SmlSession := { state := .authWait, role := beAt hello 0 1, raw := n.raw, peer := n.sender, link := n, random := beAt hello 16 32, rxKey := beAt km 0 32, txKey := beAt km 32 32,
                          rxSalt := beAt km 64 4, txSalt := beAt km 68 4, th := th, helloAt := s.now, lastFrame := s.now, hello := answer, ownAuth := auth }
  ((s.setSml sid x).smlPlain n smHelloReply sid answer).smlSend sid smAuth 0 auth

/-- A complete HELLO (R555, R556): a session in AUTH_WAIT, or an unprotected RESET. -/
def State.takeSmlHello (s : State) (n : SmlNet) (hello : List Byte) : State :=
  let random := beAt hello 16 32
  match s.smilia.sessions.find? (fun kv => kv.2.state == .authWait && kv.2.random == random) with
  | some (sid, x) => (s.smlPlain n smHelloReply sid x.hello).smlSend sid smAuth 0 x.ownAuth
  | none =>
    if !s.smlAwl then s.plainReset n xNotAvailable
    else if s.dictVal 0x1200 1 ≤ s.smilia.sessions.length then s.plainReset n xSessionLimit
    else
      let (sh, s) := s.share (beAt hello 48 32) (slice hello 80 1568)
      match sh.shared with
      | none => (s.plainReset n xAuthFailed).authFails
      | some (ssk, ssx) => s.openSmlSession n hello sh ssk ssx

/-- A HELLO is within the rate of R558, or it is discarded, counted, and reported at most once a second. -/
def State.helloRate (s : State) : State × Bool :=
  let times := s.smilia.helloTimes.filter (fun t => decide (s.now < t + second))
  if times.length < s.dictVal 0x1200 3 then (s.updSmilia (fun m => { m with helloTimes := times ++ [s.now] }), true)
  else
    let s := (s.updSmilia (fun m => { m with helloTimes := times })).bump Reg.MGT_EVENTS.HELLO_DROP
    match s.smilia.lastRate with
    | some t => if s.now < t + second then (s, false) else ((s.updSmilia (fun m => { m with lastRate := some s.now })).raise srcSmlHelloRate, false)
    | none => ((s.updSmilia (fun m => { m with lastRate := some s.now })).raise srcSmlHelloRate, false)

/-- HELLO: an unprotected segment of a HELLO arrives at the address in force; a complete one within the rate starts a handshake (R550, R555, R556,
R558). -/
def execHello (f : SmlIn) (s : State) : Host.Outcome State Fault Refusal :=
  let sender := f.net.sender
  if !s.mgmtServes ∨ f.opcode ≠ 0x01 then ok s
  else if !f.headerOk ∨ f.prot ∨ f.session ≠ 0 ∨ !s.smlToUs false f.net ∨ !s.smlCarrier f.net ∨ smlHelloBytes < f.offset + f.payload.length then ok s.dropMgmt
  else match takeSegment s.now (tget s.smilia.halves sender) f.offset f.last f.payload with
    | (b, none) => ok (s.updSmilia (fun m => { m with halves := tput m.halves sender b }))
    | (_, some hello) =>
      let s := s.updSmilia (fun m => { m with halves := tdel m.halves sender })
      if hello.length ≠ smlHelloBytes ∨ beAt hello 1 15 ≠ 0 then ok s.dropMgmt
      else match s.helloRate with
        | (s, false) => ok s
        | (s, true) => ok (s.takeSmlHello f.net hello)

/-- The role that ADMISSION gives a key ID, 0 for none. -/
def State.admitted (s : State) (keyId : Nat) : Nat :=
  match (entriesOf 20 (s.domain 0x1201 0)).find? (fun e => beAt e 0 16 == keyId) with | some e => beAt e 16 1 | none => 0

/-- A role may be granted to a certificate (R557, Table 18-4a); `anchored` is whether its chain reaches the anchor of role 3 or 4. -/
def State.grants (s : State) (role keyId : Nat) (anchored : Bool) : Bool :=
  !s.revoked keyId && (
    if role = 1 then !s.keys.enrolled || decide (1 ≤ s.admitted keyId)
    else if role = 2 then s.keys.enrolled && s.admitted keyId == 2
    else if role = 3 then s.keys.enrolled && anchored
    else if role = 4 then s.keys.enrolled && anchored && s.dictVal 0x1203 0 != 0
    else false)

/-- The anchor of a role that a chain grants (Table 18-4a): the enrolled custody root, or the service CA key. -/
def State.roleAnchor (s : State) (role : Nat) : List Anchor :=
  if role = 3 then [.cert (s.domain 0x4002 0)] else if role = 4 then [.key Config.serviceKey] else []

/-- What a client's AUTH says (R555, R557, R640): its leaf's key ID, and whether its chain reaches the anchor of the role, where the message has the
layout of R634 and is signed over "LGE9120 SM client" and TH. A role that the admission list grants, or none needs, rests on the leaf alone; the links
of another chain must verify up to its last certificate. -/
def State.smlClient (s : State) (role : Nat) (th msg : List Byte) : Option (Nat × Bool) :=
  (parseAuth msg).bind (fun m => (m.signed "LGE9120 SM client" th).bind (fun cs =>
    match cs.head?.bind Cert.keyId with
    | none => none
    | some k =>
      if role = 1 ∨ role = 2 then some (k, false)
      else if m.whole && linksSigned cs && s.inValidity cs then some (k, chainSigned (s.roleAnchor role) cs)
      else none))

/-- SML_AUTH: a segment of the client's AUTH arrives; complete, it establishes the session with its role, or ends it with RESET ROLE or AUTH_FAILED
(R556, R557, R640). -/
def execSmlAuth (f : SmlIn) (s : State) : Host.Outcome State Fault Refusal :=
  match s.acceptSml f smAuth with
  | (s, none) => ok s
  | (s, some x) =>
    if x.state ≠ .authWait then ok s
    else match s.assemble f.session 0 f.offset f.last f.payload with
      | (s, none) => ok s
      | (s, some msg) =>
        let refuse (code : Nat) : State := ((s.smlSend f.session smReset 0 (beBytes 2 code ++ [0, 0])).closeSml f.session true).authFails
        match s.smlClient x.role x.th msg with
        | none => ok (refuse xAuthFailed)
        | some (keyId, anchored) =>
          if !s.grants x.role keyId anchored then ok (refuse xRole)
          else ok ((s.updSml f.session (fun x => { x with state := .established, keyId := keyId, since := s.time64 })).smlReply f.session smAuth 0 (beBytes 2 xOk))

/-- SML_AUTH_WAIT_TIMEOUT: 2 s since HELLO_REPLY without a valid AUTH: the keys are erased and the session closes (Table 2-4). -/
def execSmlAuthWaitTimeout (session : Nat) (s : State) : Host.Outcome State Fault Refusal :=
  match s.sml session with
  | some x => if x.state = .authWait then ok ((s.advanceTo (x.helloAt + 2 * second)).closeSml session true) else ok s
  | none => ok s

/-- SML_KEY_UPDATE: the client's next key is derived, and its previous one serves 3 × the maximum RTO more (R555, R59). -/
def execSmlKeyUpdate (f : SmlIn) (s : State) : Host.Outcome State Fault Refusal :=
  match s.acceptSml f smKeyUpdate with
  | (s, none) => ok s
  | (s, some x) =>
    let generation := beAt f.payload 0 4
    if f.len ≠ 4 then ok (s.smlReply f.session smKeyUpdate f.req (beBytes 2 xBadField))
    else if generation = x.keyGen + 1 then
      ok (s.setSml f.session { x with prevKey := some (x.rxKey, s.now + 3 * rtoCeiling), rxKey := nextKey x.rxKey "LGE9120 SM update", keyGen := generation })
    else ok s

/-- SML_CLOSE: CLOSE_ACK is sent and the session closes (Table 2-4). -/
def execSmlClose (f : SmlIn) (s : State) : Host.Outcome State Fault Refusal :=
  match s.acceptSml f smClose with
  | (s, none) => ok s
  | (s, some x) => ok ((s.smlSend f.session smCloseAck 0 []).closeSml f.session (x.state == .authWait))

/-- SML_KEEPALIVE: answered with 0x87 (R554). -/
def execSmlKeepalive (f : SmlIn) (s : State) : Host.Outcome State Fault Refusal :=
  match s.acceptSml f smKeepalive with
  | (s, none) => ok s
  | (s, some _) => ok (s.smlReply f.session smKeepalive f.req (beBytes 2 xOk))

/-- SML_RESET: a protected RESET closes the session (R62, Table 2-4). -/
def execSmlReset (f : SmlIn) (s : State) : Host.Outcome State Fault Refusal :=
  match s.acceptSml f smReset with
  | (s, none) => ok s
  | (s, some x) => ok (s.closeSml f.session (x.state == .authWait))

/-- SML_IDLE_TIMEOUT: no frame for the time of 0x1200.02: the session closes (R556). -/
def execSmlIdleTimeout (session : Nat) (s : State) : Host.Outcome State Fault Refusal :=
  match s.sml session with
  | some x => if x.state = .established then ok ((s.advanceTo (x.lastFrame + s.dictVal 0x1200 2 * second)).closeSml session false) else ok s
  | none => ok s

/-- SML_RELEASE: 1 s in CLOSED: the session is released (R556). -/
def execSmlRelease (session : Nat) (s : State) : Host.Outcome State Fault Refusal :=
  match (s.sml session).bind SmlSession.closedAt with
  | some t => ok ((s.advanceTo (t + second)).updSmilia (fun m => { m with
      sessions := tdel m.sessions session, oldAddr := m.oldAddr.map (fun o => (o.1, o.2.1, o.2.2.filter (· != session))) }))
  | none => ok s

/-- A response whose status is all it says: its fixed fields are zero. -/
def bare (n st : Nat) : List Byte := padTo n (beBytes 2 st)

/-- READ (R561 to R563). A read of SRC_RECORD reads the source's record. -/
def State.readRequest (s : State) (x : SmlSession) (p : List Byte) : State × List Byte × Nat :=
  if p.length ≠ 4 ∨ beAt p 3 1 ≠ 0 then (s, bare 4 xBadField, 0)
  else match dictFind x.role (beAt p 0 2) (beAt p 2 1) DictEntry.rd with
    | .error st => (s, bare 4 st, 0)
    | .ok e =>
      if e.acc = .wo then (s, bare 4 xWriteOnly, 0)
      else if e.acc ≠ .cmd ∧ e.typ = .domain then (s, bare 4 xType, 0)
      else
        let v := s.entryValue x e
        (if e.idx = 0x5012 then s.readRecord x.srcSelect else s, beBytes 2 xOk ++ [BitVec.ofNat 8 e.typeCode, 0] ++ v, 0)

/-- SML_READ: a READ is checked and answered (R561). -/
def execSmlRead (f : SmlIn) (s : State) : Host.Outcome State Fault Refusal := ok (s.smlRequest f smRead (fun s x p => s.readRequest x p))

/-- The response of WRITE and SEG_END (Table 18-3). -/
def SmlDone.bytes (d : SmlDone) : List Byte := beBytes 2 d.status ++ [0, 0] ++ beBytes 4 d.detail ++ beBytes 8 d.seq

/-- WRITE (R560 to R565): a value, or the argument of a command. -/
def State.writeRequest (s : State) (sid : Nat) (x : SmlSession) (p : List Byte) (f : SmlFacts) : State × SmlDone :=
  if p.length < 4 ∨ beAt p 3 1 ≠ 0 then (s, { status := xBadField })
  else match dictFind x.role (beAt p 0 2) (beAt p 2 1) DictEntry.wr with
    | .error st => (s, { status := st })
    | .ok e =>
      let v := p.drop 4
      if e.acc = .ro then (s, { status := xReadOnly })
      else if e.acc = .cmd then s.command sid x e v f
      else if s.safe && needsUnits e.idx then (s, { status := xState })
      else
        let r := s.valueRefusal x e v
        if r ≠ 0 then (s, { status := r }) else s.writeValue sid x e v f

/-- SML_WRITE: a WRITE is checked, applied and recorded (R560, R561). -/
def execSmlWrite (f : SmlIn) (facts : SmlFacts) (s : State) : Host.Outcome State Fault Refusal :=
  ok (s.smlRequest f smWrite (fun s x p => let (s, d) := s.writeRequest f.session x p facts; (s, d.bytes, d.seq)))

/-- A new handle: a number that no open handle has (R566, R567). -/
def State.takeHandle (s : State) : Nat × State :=
  (s.smilia.nextHandle, s.updSmilia (fun m => { m with nextHandle := if m.nextHandle + 1 < 2 ^ 32 then m.nextHandle + 1 else 1 }))

/-- The response of SEG_READ with bytes of a snapshot. -/
def segAnswer (h off most : Nat) (content : List Byte) : List Byte :=
  beBytes 2 xOk ++ [0, 0] ++ beBytes 4 h ++ beBytes 8 content.length ++ beBytes 8 off ++ (content.drop off).take most

/-- SEG_READ (R566): a snapshot under a new handle, or bytes of one. -/
def State.segReadRequest (s : State) (sid : Nat) (x : SmlSession) (p : List Byte) : State × List Byte × Nat :=
  let idx := beAt p 0 2
  let h := beAt p 4 4
  let off := beAt p 8 8
  let most := beAt p 16 2
  if p.length ≠ 20 ∨ beAt p 3 1 ≠ 0 ∨ beAt p 18 2 ≠ 0 ∨ most = 0 ∨ 1376 < most then (s, bare 24 xBadField, 0)
  else match dictFind x.role idx (beAt p 2 1) DictEntry.rd with
    | .error st => (s, bare 24 st, 0)
    | .ok e =>
      if e.acc = .wo then (s, bare 24 xWriteOnly, 0)
      else if e.typ ≠ .domain ∨ e.acc = .cmd then (s, bare 24 xType, 0)
      else if h = 0 then
        if 4 ≤ x.reads.length then (s, bare 24 xTooMany, 0)
        else
          let (h, s) := s.takeHandle
          let content := s.domainBytes x idx
          let r : SmlRead := { idx := idx, sub := e.sub, content := content, lastUse := s.now }
          (s.updSml sid (fun x => { x with reads := tput x.reads h r }), segAnswer h off most content, 0)
      else match tget x.reads h with
        | some r =>
          if r.idx = idx ∧ r.sub = e.sub then (s.updSml sid (fun x => { x with reads := tput x.reads h { r with lastUse := s.now } }), segAnswer h off most r.content, 0)
          else (s, bare 24 xStale, 0)
        | none => (s, bare 24 xStale, 0)

/-- SEG_READ: a snapshot of a DOMAIN entry is taken, or bytes of one returned (R566). -/
def execSegRead (f : SmlIn) (s : State) : Host.Outcome State Fault Refusal :=
  ok (s.smlRequest f smSegRead (fun s x p => s.segReadRequest f.session x p))

/-- SEG_BEGIN (R567): the entry's one write handle. -/
def State.segBeginRequest (s : State) (sid : Nat) (x : SmlSession) (p : List Byte) : State × List Byte × Nat :=
  let total := beAt p 4 8
  if p.length ≠ 12 ∨ beAt p 3 1 ≠ 0 then (s, bare 8 xBadField, 0)
  else match dictFind x.role (beAt p 0 2) (beAt p 2 1) DictEntry.wr with
    | .error st => (s, bare 8 st, 0)
    | .ok e =>
      if e.acc = .ro then (s, bare 8 xReadOnly, 0)
      else if (s.safe && needsUnits e.idx) || (e.acc == .cmd && !s.custodyMay .enroll 0) then (s, bare 8 xState, 0)
      else if e.typ ≠ .domain then (s, bare 8 xType, 0)
      else if 2 ^ 32 ≤ total then (s, bare 8 xRange, 0)
      else if s.smilia.writes.any (fun w => w.2.idx == e.idx && w.2.sub == e.sub) then (s, bare 8 xBusy, 0)
      else
        let (h, s) := s.takeHandle
        let w : SmlWrite := { session := sid, idx := e.idx, sub := e.sub, total := total, parts := [], lastUse := s.now }
        (s.updSmilia (fun m => { m with writes := tput m.writes h w }), beBytes 2 xOk ++ [0, 0] ++ beBytes 4 h, 0)

/-- SEG_BEGIN: a write handle is opened (R567). -/
def execSegBegin (f : SmlIn) (s : State) : Host.Outcome State Fault Refusal :=
  ok (s.smlRequest f smSegBegin (fun s x p => s.segBeginRequest f.session x p))

/-- An open write handle of a session. -/
def State.writeHandle (s : State) (sid h : Nat) : Option SmlWrite := (tget s.smilia.writes h).bind (fun w => if w.session = sid then some w else none)

/-- SEG_WRITE (R567): data at its offset; bytes beyond the total length are refused. -/
def State.segWriteRequest (s : State) (sid : Nat) (p : List Byte) : State × List Byte × Nat :=
  let h := beAt p 0 4
  let off := beAt p 8 8
  let d := p.drop 16
  if p.length < 16 ∨ beAt p 4 4 ≠ 0 ∨ 1384 < d.length then (s, bare 8 xBadField, 0)
  else match s.writeHandle sid h with
    | none => (s, bare 8 xStale, 0)
    | some w =>
      if w.total < off + d.length then (s, bare 8 xBadField, 0)
      else
        let w := { w with parts := w.parts ++ [(off, d)], lastUse := s.now }
        (s.updSmilia (fun m => { m with writes := tput m.writes h w }), beBytes 2 xOk ++ [0, 0] ++ beBytes 4 h, 0)

/-- SEG_WRITE: data is placed at its offset (R567). -/
def execSegWrite (f : SmlIn) (s : State) : Host.Outcome State Fault Refusal :=
  ok (s.smlRequest f smSegWrite (fun s _ p => s.segWriteRequest f.session p))

/-- How far from offset 0 the parts received cover a content without a gap. -/
def covered (parts : List (Nat × List Byte)) : Nat :=
  (sortBy Prod.fst parts).foldl (fun reach p => if p.1 ≤ reach then max reach (p.1 + p.2.length) else reach) 0

/-- The content: each part over those before it. -/
def overlay (total : Nat) (parts : List (Nat × List Byte)) : List Byte :=
  parts.foldl (fun bs p => (bs.take p.1 ++ p.2 ++ bs.drop (p.1 + p.2.length)).take total) (List.replicate total 0)

/-- SEG_END (R567): the three checks in order, then the whole content as one change; the handle closes. -/
def State.segEndRequest (s : State) (sid : Nat) (x : SmlSession) (p : List Byte) (f : SmlFacts) : State × SmlDone :=
  let h := beAt p 0 4
  if p.length ≠ 40 ∨ beAt p 4 4 ≠ 0 then (s, { status := xBadField })
  else match s.writeHandle sid h with
    | none => (s, { status := xStale })
    | some w =>
      let s := s.updSmilia (fun m => { m with writes := tdel m.writes h })
      if covered w.parts < w.total then (s, { status := xType })
      else
        let bs := overlay w.total w.parts
        if Config.shake256 bs 256 % 2 ^ 256 ≠ beAt p 8 32 then (s, { status := xHash })
        else match dictEntry w.idx w.sub with
          | none => (s, { status := xNoEntry })
          | some e => if e.acc = .cmd then s.enroll sid x e bs f else s.writeDomain sid x e bs f

/-- SEG_END: completeness, hash and content are checked, and the content is applied or rejected whole (R567). -/
def execSegEnd (f : SmlIn) (facts : SmlFacts) (s : State) : Host.Outcome State Fault Refusal :=
  ok (s.smlRequest f smSegEnd (fun s x p => let (s, d) := s.segEndRequest f.session x p facts; (s, d.bytes, d.seq)))

/-- SEG_ABORT: a write handle is discarded (R567). -/
def execSegAbort (f : SmlIn) (s : State) : Host.Outcome State Fault Refusal :=
  ok (s.smlRequest f smSegAbort (fun s _ p =>
    if p.length ≠ 4 then (s, beBytes 2 xBadField, 0)
    else if (s.writeHandle f.session (beAt p 0 4)).isNone then (s, beBytes 2 xStale, 0)
    else (s.updSmilia (fun m => { m with writes := tdel m.writes (beAt p 0 4) }), beBytes 2 xOk, 0)))

/-- HANDLE_EXPIRY: a read handle of a session, or a write handle, has not been used for 30 s (R566, R567). -/
def execHandleExpiry (write : Bool) (session handle : Nat) (s : State) : Host.Outcome State Fault Refusal :=
  if write then
    match s.writeHandle session handle with
    | some w => ok ((s.advanceTo (w.lastUse + 30 * second)).updSmilia (fun m => { m with writes := tdel m.writes handle }))
    | none => ok s
  else
    match (s.sml session).bind (fun x => tget x.reads handle) with
    | some r => ok ((s.advanceTo (r.lastUse + 30 * second)).updSml session (fun x => { x with reads := tdel x.reads handle }))
    | none => ok s

/-- SUBSCRIBE (R568, R569): a new subscription, or the existing one of the same entry. -/
def State.subscribeRequest (s : State) (sid : Nat) (x : SmlSession) (p : List Byte) : State × List Byte × Nat :=
  let idx := beAt p 0 2
  let sub := beAt p 2 1
  let ms := beAt p 4 2
  if p.length ≠ 8 ∨ beAt p 3 1 ≠ 0 ∨ beAt p 6 2 ≠ 0 ∨ ms < 10 ∨ 60000 < ms then (s, bare 4 xBadField, 0)
  else match dictFind x.role idx (if sub = 0xFF then (dictSubs idx).headD 0 else sub) DictEntry.rd with
    | .error st => (s, bare 4 st, 0)
    | .ok e =>
      if e.acc = .wo then (s, bare 4 xWriteOnly, 0)
      else match tfirst x.subs (fun _ u => u.idx == idx && u.sub == sub) with
        | some n => (s, beBytes 2 xOk ++ beBytes 2 n, 0)
        | none =>
          if 64 ≤ x.subs.length then (s, bare 4 xTooMany, 0)
          else
            let n := lowestFree (x.subs.length + 1) 1 (x.subs.map Prod.fst)
            let u : SmlSub := { idx := idx, sub := sub, interval := ms, lastSent := none, seen := [], held := [] }
            let u := { u with seen := u.entries.foldl (fun t e => tput t e.sub (s.watched x e)) [] }
            (s.updSml sid (fun x => { x with subs := tput x.subs n u }), beBytes 2 xOk ++ beBytes 2 n, 0)

/-- SUBSCRIBE: a change subscription is created, or the existing one returned (R568, R569). -/
def execSubscribe (f : SmlIn) (s : State) : Host.Outcome State Fault Refusal :=
  ok (s.smlRequest f smSubscribe (fun s x p => s.subscribeRequest f.session x p))

/-- A subscription goes, with its unacknowledged NOTIFYs. -/
def SmlSession.unsubscribe (x : SmlSession) (n : Nat) : SmlSession := { x with subs := tdel x.subs n, notes := x.notes.filter (fun m => m.sub != n) }

/-- UNSUBSCRIBE: a subscription ends (R568). -/
def execUnsubscribe (f : SmlIn) (s : State) : Host.Outcome State Fault Refusal :=
  ok (s.smlRequest f smUnsubscribe (fun s x p =>
    if p.length ≠ 4 ∨ beAt p 2 2 ≠ 0 then (s, beBytes 2 xBadField, 0)
    else if (tget x.subs (beAt p 0 2)).isNone then (s, beBytes 2 xStale, 0)
    else (s.updSml f.session (fun x => x.unsubscribe (beAt p 0 2)), beBytes 2 xOk, 0)))

/-- NOTIFY_INTERVAL_END: a subscription's minimum interval ends, and what is held goes out with COALESCED and its latest value (R568). -/
def execNotifyIntervalEnd (session sub : Nat) (s : State) : Host.Outcome State Fault Refusal :=
  match (s.sml session).bind (fun x => tget x.subs sub) with
  | none => ok s
  | some u =>
    match u.lastSent with
    | none => ok s
    | some t =>
      if u.held.isEmpty then ok s
      else
        let s := (s.advanceTo (t + u.interval * msec)).updSml session (fun x => { x with subs := tmod x.subs sub (fun u => { u with held := [] }) })
        ok (u.held.foldl (fun s h => match dictEntry u.idx h.1 with | some e => s.notify session sub e nfCoalesced h.2 | none => s) s)

/-- NOTIFY_ACK: a NOTIFY is acknowledged (R569). -/
def execNotifyAck (f : SmlIn) (s : State) : Host.Outcome State Fault Refusal :=
  match s.acceptSml f smNotifyAck with
  | (s, none) => ok s
  | (s, some _) =>
    if f.len ≠ 4 then ok s else ok (s.updSml f.session (fun x => { x with notes := x.notes.filter (fun m => m.number != beAt f.payload 0 4) }))

/-- The last NOTIFY of a subscription, with ENDED (R569); it waits for no acknowledgement. -/
def State.notifyEnded (s : State) (sid n : Nat) : State :=
  match s.sml sid with
  | none => s
  | some x =>
    match tget x.subs n with
    | none => s
    | some u =>
      let typ := match u.entries.head? with | some e => e.typeCode | none => 0
      let payload := beBytes 4 x.nextNote ++ beBytes 2 n ++ [BitVec.ofNat 8 nfEnded, BitVec.ofNat 8 typ] ++ beBytes 2 u.idx ++ [BitVec.ofNat 8 u.sub, 0] ++ beBytes 8 0
      (s.setSml sid { x.unsubscribe n with nextNote := (x.nextNote + 1) % 2 ^ 32 }).smlSend sid smNotify 0 payload

/-- NOTIFY_RESEND: 500 ms without an acknowledgement: the NOTIFY is sent again, four times at most; then its subscription ends (R569). -/
def execNotifyResend (session number : Nat) (s : State) : Host.Outcome State Fault Refusal :=
  match (s.sml session).bind (fun x => x.notes.find? (fun m => m.number == number)) with
  | none => ok s
  | some m =>
    let s := s.advanceTo (m.sentAt + 500 * msec)
    if m.resends < 4 then
      ok ((s.updSml session (fun x => { x with notes := x.notes.map (fun k => if k.number = number then { k with sentAt := s.now, resends := k.resends + 1 } else k) })).smlSend session smNotify 0 m.payload true)
    else ok (s.notifyEnded session m.sub)

/-- REASSEMBLY_TIMEOUT: 1 s after its first segment a message that is not complete is discarded (R552): a HELLO by its sender, another by its session
and REQ. -/
def execReassemblyTimeout (hello : Bool) (session key : Nat) (s : State) : Host.Outcome State Fault Refusal :=
  if hello then
    match tget s.smilia.halves key with
    | some b => ok ((s.advanceTo (b.since + second)).updSmilia (fun m => { m with halves := tdel m.halves key }))
    | none => ok s
  else
    match (s.sml session).bind (fun x => tget x.bufs key) with
    | some b => ok ((s.advanceTo (b.since + second)).updSml session (fun x => { x with bufs := tdel x.bufs key }))
    | none => ok s

/-- ADDRESS_CHANGE_EFFECT: 2 s after the OK the new management address is in force; the sessions that exist are answered at the old one for 60 s more
(R548). -/
def execAddressChangeEffect (s : State) : Host.Outcome State Fault Refusal :=
  match s.smilia.pendingAddr with
  | none => ok s
  | some t =>
    let s := s.advanceTo t
    let old := s.smilia.addr
    ok (s.takeAddr.updSmilia (fun m => { m with oldAddr := some (old, s.now + 60 * second, tkeys m.sessions (fun _ _ => true)) }))

/-- OLD_ADDRESS_EXPIRY: 60 s later the sessions move to the new address (R548). -/
def execOldAddressExpiry (s : State) : Host.Outcome State Fault Refusal :=
  match s.smilia.oldAddr with
  | some (_, t, _) => ok ((s.advanceTo t).updSmilia (fun m => { m with oldAddr := none }))
  | none => ok s

/-- VENDOR_WINDOW_TICK: a minute passes, VENDOR_WINDOW_MIN counts down, and at 0 vendor-service sessions end (R571). -/
def execVendorWindowTick (s : State) : Host.Outcome State Fault Refusal :=
  let v := s.dictVal 0x1203 0
  if v = 0 then ok s
  else
    let s := (s.advanceTo (s.smilia.vendorTick + 60 * second)).setDict 0x1203 0 (v - 1)
    ok (s.updSmilia (fun m => { m with vendorTick := s.now })).endVendor

/-- MGT_MDIO: a write of the register from Keeper world runs one MDIO frame to the PHY (R547): `answer` is what the PHY drives, none where it does not
answer within 1 ms (R578). -/
def execMgtMdio (reg data : Nat) (write : Bool) (world : World) (answer : Option Nat) (s : State) : Host.Outcome State Fault Refusal :=
  if world = .tack then ok s
  else
    let s := ((s.wr Reg.MGT_MDIO.REG reg).flag Reg.MGT_MDIO.WRITE write).wr Reg.MGT_MDIO.DATA data
    let s := s.emit .mdio (if write then 1 else 2) [s.rd Reg.MGT_CTRL.PHY_ADDR, reg % 32, if write then data % 65536 else 0]
    match answer with
    | some v => ok ((if write then s else s.wr Reg.MGT_MDIO.DATA v).flag Reg.MGT_MDIO.ERR false)
    | none => ok (((s.advance msec).flag Reg.MGT_MDIO.ERR true).raise srcMgtPhyFault)

/-- MGT_LINK_DOWN: SGMII sync (`sync`) or the PHY link is lost (R578). -/
def execMgtLinkDown (sync : Bool) (s : State) : Host.Outcome State Fault Refusal :=
  if !s.lit ∨ !s.mainOn then ok s
  else
    let s := s.flag Reg.MGT_STATUS.LINK false
    ok (((if sync then s.flag Reg.MGT_STATUS.SYNC false else s).raise srcMgtLinkDown).interrupt 230)

/-- MGT_LINK_UP: SGMII sync and the PHY link return; the MAC follows the speed and duplex that the PHY reports (R578). -/
def execMgtLinkUp (speed : Nat) (duplex : Bool) (s : State) : Host.Outcome State Fault Refusal :=
  if !s.lit ∨ !s.mainOn then ok s
  else
    let s := (((s.flag Reg.MGT_STATUS.SYNC true).flag Reg.MGT_STATUS.LINK true).wr Reg.MGT_STATUS.SPEED speed).flag Reg.MGT_STATUS.DUPLEX duplex
    ok ((s.fall srcMgtLinkDown).interrupt 230)

/-- The protocol that an answer belongs to: an EtherType, or an IP protocol number. -/
def MgmtAsk.code : MgmtAsk → Nat
  | .arp => 0x0806
  | .neighbour => 0x86DD
  | .icmpEcho => 0x0001
  | .icmpv6Echo => 0x003A

/-- ARP_ND_ECHO_REQUEST: a request for the device's address arrives and is answered (R547), those of IPv4 while it is on; another frame is discarded and
counted. -/
def execArpNdEchoRequest (ask : MgmtAsk) (toUs : Bool) (body : List Byte) (s : State) : Host.Outcome State Fault Refusal :=
  if !s.mgmtServes then ok s
  else if !toUs ∨ ((ask = .arp ∨ ask = .icmpEcho) ∧ s.smilia.addr.getD 2 0 = 0) then ok s.dropMgmt
  else ok (s.emit .mgmtLink ask.code s.smilia.addr body)

end Sys2Proof.Machine
end

