-- ==== Sys2Proof/Machine/Boot.lean ====
section
/-!
DEFINITION. Start-up to heel mode (Table 13-10): the open intents (R453), the twin that boots (R457, R458, R461, R463), and the state in which Keeper
firmware leaves the LGE9120 in HEEL.
-/

namespace Sys2Proof.Machine

/-- The newest record that makes a twin active: the pointer's last CONFIRM, or REVERT, for it. -/
def Flash.confirmOf (f : Flash) (t : Nat) : Option PtrRec := f.pointers.find? (fun r => (r.typ == 3 || r.typ == 4) && r.twin == t)

/-- The first failing condition of R461 of a twin's image under a pointer record, in the code order of BOOT_STATUS; 0 where it passes. -/
def State.imageFail (s : State) (x : BootIn) (r : Option PtrRec) (t : Nat) : Nat :=
  match r with
  | none => 1
  | some r => s.twinCheck t (some r.hash) (x.ue.contains t)

/-- Record the first failing condition of a twin tried. -/
def State.recordFail (s : State) (t f : Nat) : State := s.wr (if t = 0 then Reg.BOOT_STATUS.FAIL0 else Reg.BOOT_STATUS.FAIL1) f

/-- Resolve the open erase intents (R453): a block that passes its blank check is done, another is erased again; one whose LUN does not answer keeps
its intent. -/
def State.recoverIntents (s : State) (blank : List Nat) : State :=
  s.flash.intents.foldl (fun s i =>
    let k := i.1
    if !s.lunServes (lunOf k) then s
    else
      let s := s.updFlash (fun f => { f with intents := f.intents.filter (· != i) })
      if k ∈ blank then
        (s.journal 0x0002 (eraseBody k (s.flash.block k) ++ leBytes 8 i.2)).updFlash (fun f => f.updBlock k (fun b => { b with free := true, part := 255, nextPage := 0 }))
      else (s.eraseBlock k 0).1) s

/-- Boot the active twin, or the other under its own last CONFIRM with BOOT_TWIN_FAIL raised (R463). -/
def State.bootActive (s : State) (x : BootIn) : Option (Nat × Nat) × State :=
  let a := s.flash.activeTwin
  let fa := s.imageFail x (s.flash.confirmOf a) a
  let s := s.recordFail a fa
  if fa = 0 then (some (a, 0), s)
  else
    let s := s.raise srcBootTwinFail a
    let b := 1 - a
    let fb := s.imageFail x (s.flash.confirmOf b) b
    let s := s.recordFail b fb
    (if fb = 0 then some (b, 0) else none, s)

/-- Append a REVERT to PREV_TWIN and raise BOOT_REVERT (R458). -/
def State.revert (s : State) (r : PtrRec) : State :=
  let c := (s.flash.confirmOf r.prev).getD { r with version := 0, svn := 0, hash := 0 }
  (s.appendPtr { c with carry := false, typ := 4, twin := r.prev, attempts := 0, prev := r.prev }).raise srcBootRevert

/-- The twin to boot with its trial attempt, 0 without a trial (R458, R463). -/
def State.chooseTwin (s : State) (x : BootIn) : Option (Nat × Nat) × State :=
  if !s.lunServes 0 then (none, s)
  else match s.flash.pointer with
    | none => s.bootActive x
    | some r =>
      if !s.flash.trial then s.bootActive x
      else
        let n := if r.typ = 2 then r.attempts else 0
        if 3 ≤ n then (s.revert r).bootActive x
        else
          let s := s.appendPtr { r with carry := false, typ := 2, attempts := n + 1 }
          let f := s.imageFail x (some r) r.twin
          let s := s.recordFail r.twin f
          if f = 0 then (some (r.twin, n + 1), s) else (s.revert r).bootActive x

/-- The window address of an image byte of a twin (R454). -/
def twinAddress (t off : Nat) : Nat := 0x100000000 + partStart t * 4096 + 0x10000 + off

/-- The Keeper image runs (Table 13-10, step 9): FK-wrapped keys loaded, the access table committed, and the boot pair at the entry. -/
def State.enterKeeper (s : State) (x : BootIn) (boot : PairId) (t : ImageHead) (entry : Nat) : State :=
  let s := s.keys.store.foldl (fun s kv => if kv.2.fuse then s.fillSlot kv.2.sysSlot kv.2.value kv.2.attr else s) s
  let table := x.accessTable.foldl (fun m kv => tput m kv.1 kv.2) []
  let s := ((s.updGuards (fun g => { g with active := table, shadow := table })).addTo Reg.AT_EPOCH.EPOCH 1).flag Reg.AT_STATUS.BOOT false
  let s := (s.updPair boot (fun q => { q with pc := BitVec.ofNat 64 entry })).wr Reg.BOOT_TIME.US x.us
  s.updChip (fun c => { c with booted := true, image := t })

end Sys2Proof.Machine
end

