-- ==== Sys2Proof/Machine/Startup.lean ====
section
/-!
DEFINITION. The start-up to HEEL (Table 13-10, R462, R463) with the saved values of the dictionary (R565), and the resumption of a rotation (R317).
-/

namespace Sys2Proof.Machine

/-- A start-up that finds both banks resumes the rotation (R317): with its escrow set complete it re-wraps and commits; without one, which needs badges, the
new bank is dropped and the rotation must be commanded again. -/
def State.resumeRotation (s : State) : State :=
  if !s.keys.rotating then s
  else match s.inactiveBank, s.keys.pendingSet with
    | some b, some e => if e.gen = b.gen then (s.rewrapAll b).commitRotation b else (s.setInactive none).updKeys (fun k => { k with rotating := false, pendingSet := none })
    | _, _ => (s.setInactive none).updKeys (fun k => { k with rotating := false, pendingSet := none })

/-- HEEL (Table 13-10, step 10): the Awl units and sponge cores that pass serve; HEEL needs LUN 0 and one Awl unit (R29, Table 1-8).
Keeper firmware applies every saved value of the dictionary (R565) before Smilia answers. -/
def State.reachHeel (s : State) (x : BootIn) : State :=
  if !s.lunServes 0 || awlUnits.all (fun u => x.awlFail.contains u) then s
  else
    let s := (s.enterService .heel s.heelRetains).stateRecord 0 1
    let s := awlUnits.foldl (fun s u => if x.awlFail.contains u then (s.stopAwl u stQuarantined).raise (srcAwl u 1) u else s.setAwl u stIdle) s
    let s := spongeCores.foldl (fun s j => if x.spongeFail.contains j then s.setSpg j .quarantined else s.setSpg j .idle) s
    let s := (spongeCores.filter (fun j => x.spongeFail.contains j)).foldl (fun s j => s.raise srcPckSelftestFail j) s
    let n := (spongeCores.filter s.spgHealthy)
    let s := (s.updPack (fun p => { p with signing := n.drop s.hashWant })).updKeys (fun k => { k with chain := x.chain })
    let s := s.updShepherd (fun p => { p with media := p.savedMedia, shelves := p.savedShelves })
    (s.resumeRotation.applySaved (fun _ => true)).takeAddr

/-- Steps 1 to 7 of Table 13-10: the pairs that fail their test, the clocks, the LUNs that answer, the collector, the random source, the open erase
intents, and the reader's crystal (R462). -/
def State.bootUnits (s : State) (x : BootIn) : State :=
  let s := (s.advance (x.us * usec)).flag Reg.CLK_STATUS.PLL_LOCK true
  let s := ((s.flag Reg.CLK_STATUS.NREF_OK x.north).flag Reg.CLK_STATUS.SREF_OK x.south).flag Reg.CLK_STATUS.NFC_XTAL_OK x.crystal
  let s := pairs.foldl (fun s p => if x.pairs.contains p then s else s.wr (Reg.CORE_STATE.PSTATE.nth p) 2) s
  let s := s.wr Reg.FLS_STATUS.LUN_OK x.luns
  let s := s.updCollector (fun c => { c with running := true })
  let s := (s.wr Reg.TRNG_STATUS.SRC_OK (s.rd Reg.TRNG_CTRL.SRC_EN)).flag Reg.TRNG_STATUS.DRBG_OK true
  (s.recoverIntents x.blank).updReader (fun r => if x.crystal then r else { r with mode := .fault })

/-- The recovery image on a service card (R463, R546): the first section of TYPE 1 of the first committed bundle of KIND 0x02 whose INSTANCE is 0 or
the device's. -/
def BootIn.recoveryImage (x : BootIn) : Option (List Byte) :=
  let committed := x.recovery.take (walkChain (x.recovery.map Prod.fst) 2048).1.length
  (committed.find? (fun b => beAt b.1.header 5 1 == 2 && (beAt b.1.header 8 8 % 2 ^ 36 == 0 || beAt b.1.header 8 8 % 2 ^ 36 == Config.deviceInstance.toNat))).map Prod.snd

/-- Steps 8 and 9: the key slots of the signing, and the image that was chosen, or the recovery image where none passes (R463). -/
def State.bootImage (s : State) (x : BootIn) (boot : PairId) (choice : Option (Nat × Nat)) : State :=
  let s := ((s.wr Reg.PCK_SIGN_SLOTS.SEED_SLOT 3).wr Reg.PCK_SIGN_SLOTS.PRF_SLOT 4).wr Reg.RST_IDX_KEY.SLOT 6
  match choice with
  | some (t, n) =>
    let s := ((s.wr Reg.BOOT_STATUS.TWIN t).flag Reg.BOOT_STATUS.TRIAL (n != 0)).wr Reg.BOOT_STATUS.ATTEMPT n
    let s := (s.updFlash (fun f => { f with blocks := tmap f.blocks (fun _ b => if b.part = t ∧ !b.free then { b with pinned := true } else b) })).countPinned
    let h := s.twinHead t
    s.enterKeeper x boot h (twinAddress t h.entry)
  | none => match x.recoveryImage with
    | some b =>
      let h := parseImage (b.take 160)
      if s.imageCheck 2 (slice b) none false = 0 then
        ((s.flag Reg.BOOT_STATUS.RECOVERY true).writeMem 0x4000000 ((slice b 0x10000 h.len).take 12582912)).enterKeeper x boot h (0x4000000 + h.entry)
      else s
    | none => s

/-- Step 10: Keeper firmware runs: the Trail with the boot record, the nonces, a low cell seen without main power, and HEEL. -/
def State.bootDone (s : State) (x : BootIn) : State :=
  let s := s.updTrail (fun t => { t with running := true, nextSeq := firstSeqAfter t.journal })
  let body := leBytes 4 (s.rd Reg.BOOT_STATUS.TWIN + 2 * s.rd Reg.BOOT_STATUS.TRIAL + 4 * s.rd Reg.BOOT_STATUS.ATTEMPT + 16 * s.rd Reg.BOOT_STATUS.RECOVERY
    + 256 * s.rd Reg.BOOT_STATUS.FAIL0 + 65536 * s.rd Reg.BOOT_STATUS.FAIL1) ++ leBytes 4 (s.rd Reg.BOOT_GEN.GEN)
  let s := s.accept (s.ownRecord 0x0801 true body)
  let (nonce, s) := s.draw 256
  let (enroll, s) := s.draw 256
  let s := (s.updChip (fun c => { c with nonce := beBytes 32 nonce })).updKeys (fun k => { k with enrollNonce := enroll })
  let s := if s.kennel.lowSeen then (s.updKennel (fun k => { k with lowSeen := false })).raise srcKnlCellLow else s
  s.reachHeel x

/-- POWER_GOOD_BOOT: after a reset the boot ROM runs the steps of Table 13-10 to HEEL (R462); with no image that passes it stops in DARK (R463). -/
def execPowerGoodBoot (x : BootIn) (s : State) : Host.Outcome State Fault Refusal :=
  if !s.mainOn ∨ s.chip.booted ∨ s.chip.bootFailed then ok s
  else match (pairs.filter (fun p => x.pairs.contains p)) with
    | [] => ok (s.updChip (fun c => { c with bootFailed := true }))
    | boot :: _ =>
      let (choice, s) := (s.bootUnits x).chooseTwin x
      let s := s.bootImage x (pairOf boot) choice
      if s.chip.booted then ok (s.bootDone x) else ok ((s.flag Reg.FCU_PIN.LEVEL false).updChip (fun c => { c with bootFailed := true }))

end Sys2Proof.Machine
end

