-- ==== Sys2Proof/Machine/Dispatch.lean ====
section
/-! DEFINITION. The dispatch of the commands: one arm per constructor. -/

namespace Sys2Proof.Machine

/-- The effect of a command on everything but the queue. -/
def exec (i : Instr) (s : State) : Host.Outcome State Fault Refusal :=
  match i with
  | .centralRetry unit => Sys2Proof.Machine.execCentralRetry unit s
  | .trailBacklog port => Sys2Proof.Machine.execTrailBacklog port s
  | .sealSetLost => Sys2Proof.Machine.execSealSetLost s
  | .heelAfterDrain => Sys2Proof.Machine.execHeelAfterDrain s
  | .sealResumption => Sys2Proof.Machine.execSealResumption s
  | .clientHello f rate => Sys2Proof.Machine.execClientHello f rate s
  | .clientHelloSegmentTimeout sender => Sys2Proof.Machine.execClientHelloSegmentTimeout sender s
  | .auth f anchors admitted => Sys2Proof.Machine.execAuth f anchors admitted s
  | .authWaitTimeout session => Sys2Proof.Machine.execAuthWaitTimeout session s
  | .keyUpdate f => Sys2Proof.Machine.execKeyUpdate f s
  | .prevKeyErase link id => Sys2Proof.Machine.execPrevKeyErase link id s
  | .close f => Sys2Proof.Machine.execClose f s
  | .closeAck f => Sys2Proof.Machine.execCloseAck f s
  | .keepalive f => Sys2Proof.Machine.execKeepalive f s
  | .reset f => Sys2Proof.Machine.execReset f s
  | .sessionIdleTimeout session => Sys2Proof.Machine.execSessionIdleTimeout session s
  | .sessionRelease session => Sys2Proof.Machine.execSessionRelease session s
  | .ack f => Sys2Proof.Machine.execAck f s
  | .ackDelayTimer south id => Sys2Proof.Machine.execAckDelayTimer south id s
  | .rtoExpiry session pn => Sys2Proof.Machine.execRtoExpiry session pn s
  | .pathReprobe south id path => Sys2Proof.Machine.execPathReprobe south id path s
  | .pathProbe f acknowledged => Sys2Proof.Machine.execPathProbe f acknowledged s
  | .pathAdd f => Sys2Proof.Machine.execPathAdd f s
  | .northPathFault port => Sys2Proof.Machine.execNorthPathFault port s
  | .keepaliveTimer session => Sys2Proof.Machine.execKeepaliveTimer session s
  | .queueOpen f => Sys2Proof.Machine.execQueueOpen f s
  | .queueClose f => Sys2Proof.Machine.execQueueClose f s
  | .objBegin f => Sys2Proof.Machine.execObjBegin f s
  | .data f => Sys2Proof.Machine.execData f s
  | .objEnd f => Sys2Proof.Machine.execObjEnd f s
  | .objAbort f => Sys2Proof.Machine.execObjAbort f s
  | .creditGrant ingest restore => Sys2Proof.Machine.execCreditGrant ingest restore s
  | .queueIdleTimeout queue => Sys2Proof.Machine.execQueueIdleTimeout queue s
  | .receiptHoldExpiry queue => Sys2Proof.Machine.execReceiptHoldExpiry queue s
  | .receiptGet f => Sys2Proof.Machine.execReceiptGet f s
  | .epochGet f => Sys2Proof.Machine.execEpochGet f s
  | .restoreReq f => Sys2Proof.Machine.execRestoreReq f s
  | .credit f => Sys2Proof.Machine.execCredit f s
  | .restoreDataSend handle => Sys2Proof.Machine.execRestoreDataSend handle s
  | .restoreIdleTimeout handle => Sys2Proof.Machine.execRestoreIdleTimeout handle s
  | .rangeHandover obj idx range => Sys2Proof.Machine.execRangeHandover obj idx range s
  | .contextSwitch unit => Sys2Proof.Machine.execContextSwitch unit s
  | .stuCompareFail unit code => Sys2Proof.Machine.execStuCompareFail unit code s
  | .maskReseed unit pipe => Sys2Proof.Machine.execMaskReseed unit pipe s
  | .reseedLate unit pipe => Sys2Proof.Machine.execReseedLate unit pipe s
  | .plaintextPoison unit rebuilt => Sys2Proof.Machine.execPlaintextPoison unit rebuilt s
  | .rowRelease unit => Sys2Proof.Machine.execRowRelease unit s
  | .rangeDone unit => Sys2Proof.Machine.execRangeDone unit s
  | .tagCombine obj idx => Sys2Proof.Machine.execTagCombine obj idx s
  | .unsealTagCheck handle idx => Sys2Proof.Machine.execUnsealTagCheck handle idx s
  | .stuSelftestDone unit result signature => Sys2Proof.Machine.execStuSelftestDone unit result signature s
  | .stuEnWrite unit en => Sys2Proof.Machine.execStuEnWrite unit en s
  | .stReq unit => Sys2Proof.Machine.execStReq unit s
  | .stuQrel unit world => Sys2Proof.Machine.execStuQrel unit world s
  | .rollingSelftestGrant kind unit load => Sys2Proof.Machine.execRollingSelftestGrant kind unit load s
  | .rollingSelftestWithdraw kind unit => Sys2Proof.Machine.execRollingSelftestWithdraw kind unit s
  | .selftestDeferred kind unit => Sys2Proof.Machine.execSelftestDeferred kind unit s
  | .shpStOverdue kind unit => Sys2Proof.Machine.execShpStOverdue kind unit s
  | .channelFail channel => Sys2Proof.Machine.execChannelFail channel s
  | .regeneration obj idx => Sys2Proof.Machine.execRegeneration obj idx s
  | .regenPlaceWait obj idx => Sys2Proof.Machine.execRegenPlaceWait obj idx s
  | .pageMoveDone channel oldPage => Sys2Proof.Machine.execPageMoveDone channel oldPage s
  | .retrainEnd channel => Sys2Proof.Machine.execRetrainEnd channel s
  | .rcCounterRead world slot off => Sys2Proof.Machine.execRcCounterRead world slot off s
  | .readMedia id => Sys2Proof.Machine.execReadMedia id s
  | .writeMedia id world saved => Sys2Proof.Machine.execWriteMedia id world saved s
  | .readShelf id => Sys2Proof.Machine.execReadShelf id s
  | .writeShelf id saved => Sys2Proof.Machine.execWriteShelf id saved s
  | .extentAdmit obj idx ingest restore => Sys2Proof.Machine.execExtentAdmit obj idx ingest restore s
  | .placementRetry obj idx => Sys2Proof.Machine.execPlacementRetry obj idx s
  | .placementFix obj idx => Sys2Proof.Machine.execPlacementFix obj idx s
  | .wakeDecision => Sys2Proof.Machine.execWakeDecision s
  | .wakeTimeout shelf => Sys2Proof.Machine.execWakeTimeout shelf s
  | .shelfLost shelf => Sys2Proof.Machine.execShelfLost shelf s
  | .shepherdSave => Sys2Proof.Machine.execShepherdSave s
  | .factorRecompute => Sys2Proof.Machine.execFactorRecompute s
  | .coreTestRequest pair load => Sys2Proof.Machine.execCoreTestRequest pair load s
  | .shpCoreRel pair scheduled => Sys2Proof.Machine.execShpCoreRel pair scheduled s
  | .coreReleaseTimeout => Sys2Proof.Machine.execCoreReleaseTimeout s
  | .seedCommit high world => Sys2Proof.Machine.execSeedCommit high world s
  | .permutationMismatch core retryPasses => Sys2Proof.Machine.execPermutationMismatch core retryPasses s
  | .fragmentHashDone obj idx frag => Sys2Proof.Machine.execFragmentHashDone obj idx frag s
  | .epochSlotEnd => Sys2Proof.Machine.execEpochSlotEnd s
  | .epochLenChange => Sys2Proof.Machine.execEpochLenChange s
  | .notarisedEpochClose obj => Sys2Proof.Machine.execNotarisedEpochClose obj s
  | .epochSignDone epoch => Sys2Proof.Machine.execEpochSignDone epoch s
  | .epochVerifyDone epoch pass => Sys2Proof.Machine.execEpochVerifyDone epoch pass s
  | .manifestLogAppend epoch => Sys2Proof.Machine.execManifestLogAppend epoch s
  | .reverifyDue obj idx frag => Sys2Proof.Machine.execReverifyDue obj idx frag s
  | .attestRequest nonce fails => Sys2Proof.Machine.execAttestRequest nonce fails s
  | .pckQrel core world => Sys2Proof.Machine.execPckQrel core world s
  | .pckSelftestDone core result signature => Sys2Proof.Machine.execPckSelftestDone core result signature s
  | .flitReceive port fec flit => Sys2Proof.Machine.execFlitReceive port fec flit s
  | .flitResendTimer port => Sys2Proof.Machine.execFlitResendTimer port s
  | .flitIdleSend port => Sys2Proof.Machine.execFlitIdleSend port s
  | .ftLinkDown port locked skew => Sys2Proof.Machine.execFtLinkDown port locked skew s
  | .tetherBringupRetry port locked skew => Sys2Proof.Machine.execTetherBringupRetry port locked skew s
  | .announce m => Sys2Proof.Machine.execAnnounce m s
  | .ftAuth m => Sys2Proof.Machine.execFtAuth m s
  | .ftKeyUpdate m => Sys2Proof.Machine.execFtKeyUpdate m s
  | .ftReset m => Sys2Proof.Machine.execFtReset m s
  | .ftHandshakeTimeout shelf => Sys2Proof.Machine.execFtHandshakeTimeout shelf s
  | .pathConfirm m => Sys2Proof.Machine.execPathConfirm m s
  | .ftPathProbe m acknowledged => Sys2Proof.Machine.execFtPathProbe m acknowledged s
  | .ftAck m => Sys2Proof.Machine.execFtAck m s
  | .ftRtoExpiry shelf seq => Sys2Proof.Machine.execFtRtoExpiry shelf seq s
  | .ftCredit m => Sys2Proof.Machine.execFtCredit m s
  | .durable m => Sys2Proof.Machine.execDurable m s
  | .durableTimeout shelf xid => Sys2Proof.Machine.execDurableTimeout shelf xid s
  | .getData m => Sys2Proof.Machine.execGetData m s
  | .getTimeout shelf xid => Sys2Proof.Machine.execGetTimeout shelf xid s
  | .powerState m => Sys2Proof.Machine.execPowerState m s
  | .report m => Sys2Proof.Machine.execReport m s
  | .ftStatus m => Sys2Proof.Machine.execFtStatus m s
  | .drainSend shelf => Sys2Proof.Machine.execDrainSend shelf s
  | .catalogueWrite kind num timer => Sys2Proof.Machine.execCatalogueWrite kind num timer s
  | .cataloguePlaceRetry kind num => Sys2Proof.Machine.execCataloguePlaceRetry kind num s
  | .catalogueRebuild => Sys2Proof.Machine.execCatalogueRebuild s
  | .restoreBufferWait handle => Sys2Proof.Machine.execRestoreBufferWait handle s
  | .evacuate media => Sys2Proof.Machine.execEvacuate media s
  | .evacuateCancel media => Sys2Proof.Machine.execEvacuateCancel media s
  | .dkReq unit ctx failed => Sys2Proof.Machine.execDkReq unit ctx failed s
  | .keyLoad awl unit slot failed => Sys2Proof.Machine.execKeyLoad awl unit slot failed s
  | .keyStore unit slot attr value failed => Sys2Proof.Machine.execKeyStore unit slot attr value failed s
  | .ghashPartial obj idx first => Sys2Proof.Machine.execGhashPartial obj idx first s
  | .clear all slot => Sys2Proof.Machine.execClear all slot s
  | .epochMapMissLoad ns epoch bad => Sys2Proof.Machine.execEpochMapMissLoad ns epoch bad s
  | .sdbMacroLost bank ram => Sys2Proof.Machine.execSdbMacroLost bank ram s
  | .gen world => Sys2Proof.Machine.execGen world s
  | .derive world => Sys2Proof.Machine.execDerive world s
  | .wrap world saved => Sys2Proof.Machine.execWrap world saved s
  | .load world bad => Sys2Proof.Machine.execLoad world bad s
  | .zero world => Sys2Proof.Machine.execZero world s
  | .setAttr world => Sys2Proof.Machine.execSetAttr world s
  | .sealGcm world => Sys2Proof.Machine.execSealGcm world s
  | .openGcm world => Sys2Proof.Machine.execOpenGcm world s
  | .vkGen world => Sys2Proof.Machine.execVkGen world s
  | .vkSplit world => Sys2Proof.Machine.execVkSplit world s
  | .vkCombine world => Sys2Proof.Machine.execVkCombine world s
  | .vkCommit world => Sys2Proof.Machine.execVkCommit world s
  | .nsCurrent world => Sys2Proof.Machine.execNsCurrent world s
  | .trngSourceFail source proportion => Sys2Proof.Machine.execTrngSourceFail source proportion s
  | .drbgReseed => Sys2Proof.Machine.execDrbgReseed s
  | .badgeAuth b saved => Sys2Proof.Machine.execBadgeAuth b saved s
  | .presenceTimeout => Sys2Proof.Machine.execPresenceTimeout s
  | .awlRingTail world tail => Sys2Proof.Machine.execAwlRingTail world tail s
  | .awlDispatch => Sys2Proof.Machine.execAwlDispatch s
  | .modAdd unit => Sys2Proof.Machine.execModAdd unit s
  | .modSub unit => Sys2Proof.Machine.execModSub unit s
  | .modMul unit => Sys2Proof.Machine.execModMul unit s
  | .modExp unit => Sys2Proof.Machine.execModExp unit s
  | .modInv unit => Sys2Proof.Machine.execModInv unit s
  | .modRed unit => Sys2Proof.Machine.execModRed unit s
  | .awlMul unit => Sys2Proof.Machine.execAwlMul unit s
  | .ntt unit => Sys2Proof.Machine.execNtt unit s
  | .intt unit => Sys2Proof.Machine.execIntt unit s
  | .polyMac unit => Sys2Proof.Machine.execPolyMac unit s
  | .ecMul unit => Sys2Proof.Machine.execEcMul unit s
  | .ecPub unit => Sys2Proof.Machine.execEcPub unit s
  | .ecdsaSign unit => Sys2Proof.Machine.execEcdsaSign unit s
  | .ecdsaVerify unit => Sys2Proof.Machine.execEcdsaVerify unit s
  | .ed25519Verify unit => Sys2Proof.Machine.execEd25519Verify unit s
  | .x25519Gen unit => Sys2Proof.Machine.execX25519Gen unit s
  | .x25519 unit => Sys2Proof.Machine.execX25519 unit s
  | .mlkemKeygen unit => Sys2Proof.Machine.execMlkemKeygen unit s
  | .mlkemEncaps unit => Sys2Proof.Machine.execMlkemEncaps unit s
  | .mlkemDecaps unit => Sys2Proof.Machine.execMlkemDecaps unit s
  | .mldsaPub unit => Sys2Proof.Machine.execMldsaPub unit s
  | .mldsaSign unit => Sys2Proof.Machine.execMldsaSign unit s
  | .mldsaVerify unit => Sys2Proof.Machine.execMldsaVerify unit s
  | .awlCompletion unit => Sys2Proof.Machine.execAwlCompletion unit s
  | .awlDone => Sys2Proof.Machine.execAwlDone s
  | .awlAbort world index unclear => Sys2Proof.Machine.execAwlAbort world index unclear s
  | .awlMismatch unit poison => Sys2Proof.Machine.execAwlMismatch unit poison s
  | .awlQrel unit world => Sys2Proof.Machine.execAwlQrel unit world s
  | .awlSelftestDone unit result signature => Sys2Proof.Machine.execAwlSelftestDone unit result signature s
  | .add pair wait rd ra rb => Sys2Proof.Machine.execAdd pair wait rd ra rb s
  | .sub pair wait rd ra rb => Sys2Proof.Machine.execSub pair wait rd ra rb s
  | .andReg pair wait rd ra rb => Sys2Proof.Machine.execAndReg pair wait rd ra rb s
  | .orReg pair wait rd ra rb => Sys2Proof.Machine.execOrReg pair wait rd ra rb s
  | .xor pair wait rd ra rb => Sys2Proof.Machine.execXor pair wait rd ra rb s
  | .andn pair wait rd ra rb => Sys2Proof.Machine.execAndn pair wait rd ra rb s
  | .slt pair wait rd ra rb => Sys2Proof.Machine.execSlt pair wait rd ra rb s
  | .sltu pair wait rd ra rb => Sys2Proof.Machine.execSltu pair wait rd ra rb s
  | .sll pair wait rd ra rb => Sys2Proof.Machine.execSll pair wait rd ra rb s
  | .srl pair wait rd ra rb => Sys2Proof.Machine.execSrl pair wait rd ra rb s
  | .sra pair wait rd ra rb => Sys2Proof.Machine.execSra pair wait rd ra rb s
  | .ror pair wait rd ra rb => Sys2Proof.Machine.execRor pair wait rd ra rb s
  | .moveqz pair wait rd ra rb => Sys2Proof.Machine.execMoveqz pair wait rd ra rb s
  | .movnez pair wait rd ra rb => Sys2Proof.Machine.execMovnez pair wait rd ra rb s
  | .clz pair wait rd ra => Sys2Proof.Machine.execClz pair wait rd ra s
  | .popc pair wait rd ra => Sys2Proof.Machine.execPopc pair wait rd ra s
  | .bswap pair wait rd ra => Sys2Proof.Machine.execBswap pair wait rd ra s
  | .addi pair wait rd ra imm => Sys2Proof.Machine.execAddi pair wait rd ra imm s
  | .andi pair wait rd ra imm => Sys2Proof.Machine.execAndi pair wait rd ra imm s
  | .ori pair wait rd ra imm => Sys2Proof.Machine.execOri pair wait rd ra imm s
  | .xori pair wait rd ra imm => Sys2Proof.Machine.execXori pair wait rd ra imm s
  | .slti pair wait rd ra imm => Sys2Proof.Machine.execSlti pair wait rd ra imm s
  | .sltiu pair wait rd ra imm => Sys2Proof.Machine.execSltiu pair wait rd ra imm s
  | .movz pair wait rd hw imm => Sys2Proof.Machine.execMovz pair wait rd hw imm s
  | .movk pair wait rd hw imm => Sys2Proof.Machine.execMovk pair wait rd hw imm s
  | .adrp pair wait rd imm => Sys2Proof.Machine.execAdrp pair wait rd imm s
  | .slli pair wait rd ra sh => Sys2Proof.Machine.execSlli pair wait rd ra sh s
  | .srli pair wait rd ra sh => Sys2Proof.Machine.execSrli pair wait rd ra sh s
  | .srai pair wait rd ra sh => Sys2Proof.Machine.execSrai pair wait rd ra sh s
  | .mul pair wait ra rb => Sys2Proof.Machine.execMul pair wait ra rb s
  | .mulu pair wait ra rb => Sys2Proof.Machine.execMulu pair wait ra rb s
  | .madd pair wait ra rb => Sys2Proof.Machine.execMadd pair wait ra rb s
  | .maddu pair wait ra rb => Sys2Proof.Machine.execMaddu pair wait ra rb s
  | .divq pair wait ra rb => Sys2Proof.Machine.execDivq pair wait ra rb s
  | .divqu pair wait ra rb => Sys2Proof.Machine.execDivqu pair wait ra rb s
  | .remd pair wait ra rb => Sys2Proof.Machine.execRemd pair wait ra rb s
  | .remdu pair wait ra rb => Sys2Proof.Machine.execRemdu pair wait ra rb s
  | .mrdl pair wait rd => Sys2Proof.Machine.execMrdl pair wait rd s
  | .mrdh pair wait rd => Sys2Proof.Machine.execMrdh pair wait rd s
  | .mwr pair wait ra rb => Sys2Proof.Machine.execMwr pair wait ra rb s
  | .multiplierComplete pair => Sys2Proof.Machine.execMultiplierComplete pair s
  | .ldb pair wait rt ra mode => Sys2Proof.Machine.execLdb pair wait rt ra mode s
  | .ldbu pair wait rt ra mode => Sys2Proof.Machine.execLdbu pair wait rt ra mode s
  | .ldh pair wait rt ra mode => Sys2Proof.Machine.execLdh pair wait rt ra mode s
  | .ldhu pair wait rt ra mode => Sys2Proof.Machine.execLdhu pair wait rt ra mode s
  | .ldw pair wait rt ra mode => Sys2Proof.Machine.execLdw pair wait rt ra mode s
  | .ldwu pair wait rt ra mode => Sys2Proof.Machine.execLdwu pair wait rt ra mode s
  | .ldd pair wait rt ra mode => Sys2Proof.Machine.execLdd pair wait rt ra mode s
  | .stb pair wait rt ra mode => Sys2Proof.Machine.execStb pair wait rt ra mode s
  | .sth pair wait rt ra mode => Sys2Proof.Machine.execSth pair wait rt ra mode s
  | .stw pair wait rt ra mode => Sys2Proof.Machine.execStw pair wait rt ra mode s
  | .std pair wait rt ra mode => Sys2Proof.Machine.execStd pair wait rt ra mode s
  | .lld pair wait rd ra => Sys2Proof.Machine.execLld pair wait rd ra s
  | .scd pair wait rd ra rb => Sys2Proof.Machine.execScd pair wait rd ra rb s
  | .swapd pair wait rd ra rb => Sys2Proof.Machine.execSwapd pair wait rd ra rb s
  | .aaddd pair wait rd ra rb => Sys2Proof.Machine.execAaddd pair wait rd ra rb s
  | .aandd pair wait rd ra rb => Sys2Proof.Machine.execAandd pair wait rd ra rb s
  | .aord pair wait rd ra rb => Sys2Proof.Machine.execAord pair wait rd ra rb s
  | .casd pair wait rd ra rb => Sys2Proof.Machine.execCasd pair wait rd ra rb s
  | .fence pair wait => Sys2Proof.Machine.execFence pair wait s
  | .fencei pair wait => Sys2Proof.Machine.execFencei pair wait s
  | .beq pair wait ra rb off => Sys2Proof.Machine.execBeq pair wait ra rb off s
  | .bne pair wait ra rb off => Sys2Proof.Machine.execBne pair wait ra rb off s
  | .blt pair wait ra rb off => Sys2Proof.Machine.execBlt pair wait ra rb off s
  | .bge pair wait ra rb off => Sys2Proof.Machine.execBge pair wait ra rb off s
  | .bltu pair wait ra rb off => Sys2Proof.Machine.execBltu pair wait ra rb off s
  | .bgeu pair wait ra rb off => Sys2Proof.Machine.execBgeu pair wait ra rb off s
  | .j pair wait off => Sys2Proof.Machine.execJ pair wait off s
  | .jal pair wait off => Sys2Proof.Machine.execJal pair wait off s
  | .jalr pair wait rd ra imm => Sys2Proof.Machine.execJalr pair wait rd ra imm s
  | .bmov pair wait elements rd ra rb size => Sys2Proof.Machine.execBmov pair wait elements rd ra rb size s
  | .bfill pair wait elements rd ra rb size => Sys2Proof.Machine.execBfill pair wait elements rd ra rb size s
  | .macv pair wait elements rd ra rb unsigned => Sys2Proof.Machine.execMacv pair wait elements rd ra rb unsigned s
  | .sabs pair wait elements rd ra rb => Sys2Proof.Machine.execSabs pair wait elements rd ra rb s
  | .mfs pair wait rd sr => Sys2Proof.Machine.execMfs pair wait rd sr s
  | .mts pair wait ra sr => Sys2Proof.Machine.execMts pair wait ra sr s
  | .eret pair wait => Sys2Proof.Machine.execEret pair wait s
  | .gate pair wait number => Sys2Proof.Machine.execGate pair wait number s
  | .gateReturn pair wait => Sys2Proof.Machine.execGateReturn pair wait s
  | .trap pair wait number => Sys2Proof.Machine.execTrap pair wait number s
  | .brk pair wait => Sys2Proof.Machine.execBrk pair wait s
  | .wait pair wait => Sys2Proof.Machine.execWait pair wait s
  | .tlbinvPage pair wait ra => Sys2Proof.Machine.execTlbinvPage pair wait ra s
  | .tlbinvAsid pair wait ra => Sys2Proof.Machine.execTlbinvAsid pair wait ra s
  | .tlbinvWorld pair wait => Sys2Proof.Machine.execTlbinvWorld pair wait s
  | .cflush pair wait ra => Sys2Proof.Machine.execCflush pair wait ra s
  | .di pair wait rd => Sys2Proof.Machine.execDi pair wait rd s
  | .ei pair wait => Sys2Proof.Machine.execEi pair wait s
  | .illegalInstruction pair wait => Sys2Proof.Machine.execIllegalInstruction pair wait s
  | .interruptEntry pair wait => Sys2Proof.Machine.execInterruptEntry pair wait s
  | .timerInterrupt pair world => Sys2Proof.Machine.execTimerInterrupt pair world s
  | .lockstepMismatch pair uncorrectable => Sys2Proof.Machine.execLockstepMismatch pair uncorrectable s
  | .icClaim pair world => Sys2Proof.Machine.execIcClaim pair world s
  | .icEoi pair world source => Sys2Proof.Machine.execIcEoi pair world source s
  | .icSwi world source => Sys2Proof.Machine.execIcSwi world source s
  | .coreImHeld pair keeper => Sys2Proof.Machine.execCoreImHeld pair keeper s
  | .coreQrel pair world => Sys2Proof.Machine.execCoreQrel pair world s
  | .sramScrub cluster ram row addr flips otherBad => Sys2Proof.Machine.execSramScrub cluster ram row addr flips otherBad s
  | .trackerWindowEnd unit entry => Sys2Proof.Machine.execTrackerWindowEnd unit entry s
  | .splitWrite pair world check => Sys2Proof.Machine.execSplitWrite pair world check s
  | .eccTestEnable en armed flipChk world => Sys2Proof.Machine.execEccTestEnable en armed flipChk world s
  | .eccInj checker mask count world => Sys2Proof.Machine.execEccInj checker mask count world s
  | .readActive pair world user target index => Sys2Proof.Machine.execReadActive pair world user target index s
  | .readShadow pair world user target index => Sys2Proof.Machine.execReadShadow pair world user target index s
  | .writeShadow pair world user target index => Sys2Proof.Machine.execWriteShadow pair world user target index s
  | .atCommit pair world user => Sys2Proof.Machine.execAtCommit pair world user s
  | .atDone => Sys2Proof.Machine.execAtDone s
  | .atVpop pair world user => Sys2Proof.Machine.execAtVpop pair world user s
  | .flsRead world bad weak => Sys2Proof.Machine.execFlsRead world bad weak s
  | .flsWrite world fails => Sys2Proof.Machine.execFlsWrite world fails s
  | .trim world => Sys2Proof.Machine.execTrim world s
  | .flush world => Sys2Proof.Machine.execFlush world s
  | .pread world bad => Sys2Proof.Machine.execPread world bad s
  | .mread world maxcorr => Sys2Proof.Machine.execMread world maxcorr s
  | .blank world noisy => Sys2Proof.Machine.execBlank world noisy s
  | .flsErase world fails => Sys2Proof.Machine.execFlsErase world fails s
  | .pin world => Sys2Proof.Machine.execPin world s
  | .unpin world => Sys2Proof.Machine.execUnpin world s
  | .ptrSet world ue => Sys2Proof.Machine.execPtrSet world ue s
  | .ptrConfirm world => Sys2Proof.Machine.execPtrConfirm world s
  | .windowMiss byte busy undecodable => Sys2Proof.Machine.execWindowMiss byte busy undecodable s
  | .flsLunLost lun => Sys2Proof.Machine.execFlsLunLost lun s
  | .powerGoodBoot x => Sys2Proof.Machine.execPowerGoodBoot x s
  | .faultDetection src detail rebuilt => Sys2Proof.Machine.execFaultDetection src detail rebuilt s
  | .consequenceWindowClose opener ready => Sys2Proof.Machine.execConsequenceWindowClose opener ready s
  | .faultNPulseEnd => Sys2Proof.Machine.execFaultNPulseEnd s
  | .fcuHoldWrite hold => Sys2Proof.Machine.execFcuHoldWrite hold s
  | .fcuInjPseudo src react world => Sys2Proof.Machine.execFcuInjPseudo src react world s
  | .fcuInjCheck src mask world => Sys2Proof.Machine.execFcuInjCheck src mask world s
  | .fcuClr src => Sys2Proof.Machine.execFcuClr src s
  | .fcuSrcCfgWrite cls react line world => Sys2Proof.Machine.execFcuSrcCfgWrite cls react line world s
  | .vddIo33Loss r => Sys2Proof.Machine.execVddIo33Loss r s
  | .vddIo33Return => Sys2Proof.Machine.execVddIo33Return s
  | .cellRemoved r => Sys2Proof.Machine.execCellRemoved r s
  | .cellEnd r => Sys2Proof.Machine.execCellEnd r s
  | .cellLow r => Sys2Proof.Machine.execCellLow r s
  | .cellInserted r => Sys2Proof.Machine.execCellInserted r s
  | .kennelDead => Sys2Proof.Machine.execKennelDead s
  | .kennelPor mains r => Sys2Proof.Machine.execKennelPor mains r s
  | .tempLow r => Sys2Proof.Machine.execTempLow r s
  | .tempHigh r => Sys2Proof.Machine.execTempHigh r s
  | .volt r => Sys2Proof.Machine.execVolt r s
  | .glitch r => Sys2Proof.Machine.execGlitch r s
  | .clock stopped r => Sys2Proof.Machine.execClock stopped r s
  | .mesh r => Sys2Proof.Machine.execMesh r s
  | .lid r => Sys2Proof.Machine.execLid r s
  | .loop0 r => Sys2Proof.Machine.execLoop0 r s
  | .loop1 r => Sys2Proof.Machine.execLoop1 r s
  | .monitorRearm m => Sys2Proof.Machine.execMonitorRearm m s
  | .unlock world => Sys2Proof.Machine.execUnlock world s
  | .clrLatch world => Sys2Proof.Machine.execClrLatch world s
  | .clrPor world => Sys2Proof.Machine.execClrPor world s
  | .evqPop world => Sys2Proof.Machine.execEvqPop world s
  | .knlRtcSet time world => Sys2Proof.Machine.execKnlRtcSet time world s
  | .knlTempWrite low high world => Sys2Proof.Machine.execKnlTempWrite low high world s
  | .knlMonWrite m resp en world => Sys2Proof.Machine.execKnlMonWrite m resp en world s
  | .knlTrimWrite ppm10 world => Sys2Proof.Machine.execKnlTrimWrite ppm10 world s
  | .kennelCollarWrite vkeep bad => Sys2Proof.Machine.execKennelCollarWrite vkeep bad s
  | .sensorLogInterval least greatest vbat => Sys2Proof.Machine.execSensorLogInterval least greatest vbat s
  | .detectionPing amp phase cards => Sys2Proof.Machine.execDetectionPing amp phase cards s
  | .pendingCheckinExpiry => Sys2Proof.Machine.execPendingCheckinExpiry s
  | .tapIdleTimeout => Sys2Proof.Machine.execTapIdleTimeout s
  | .externalField => Sys2Proof.Machine.execExternalField s
  | .extFieldGone => Sys2Proof.Machine.execExtFieldGone s
  | .poll world cards => Sys2Proof.Machine.execPoll world cards s
  | .exchange world answer => Sys2Proof.Machine.execExchange world answer s
  | .deselect world => Sys2Proof.Machine.execDeselect world s
  | .fieldOff world => Sys2Proof.Machine.execFieldOff world s
  | .nextCard world cards => Sys2Proof.Machine.execNextCard world cards s
  | .collarPowerUp tornCustody tornSensor => Sys2Proof.Machine.execCollarPowerUp tornCustody tornSensor s
  | .collarActivation => Sys2Proof.Machine.execCollarActivation s
  | .collarSelect aid => Sys2Proof.Machine.execCollarSelect aid s
  | .collarRead addr le => Sys2Proof.Machine.execCollarRead addr le s
  | .getState => Sys2Proof.Machine.execGetState s
  | .verify n pw energy lost => Sys2Proof.Machine.execVerify n pw energy lost s
  | .appendNote body energy bad => Sys2Proof.Machine.execAppendNote body energy bad s
  | .changePw n pw energy => Sys2Proof.Machine.execChangePw n pw energy s
  | .resetTries n energy => Sys2Proof.Machine.execResetTries n energy s
  | .collarSessionEnd fieldLost timeout => Sys2Proof.Machine.execCollarSessionEnd fieldLost timeout s
  | .colRead world => Sys2Proof.Machine.execColRead world s
  | .colAppend world bad => Sys2Proof.Machine.execColAppend world bad s
  | .setPw world pw => Sys2Proof.Machine.execSetPw world pw s
  | .unblock world pw => Sys2Proof.Machine.execUnblock world pw s
  | .setPolicy world => Sys2Proof.Machine.execSetPolicy world s
  | .presencePress => Sys2Proof.Machine.execPresencePress s
  | .servicePress held => Sys2Proof.Machine.execServicePress held s
  | .buttonRelease service held => Sys2Proof.Machine.execButtonRelease service held s
  | .longPress => Sys2Proof.Machine.execLongPress s
  | .pnlStuck service => Sys2Proof.Machine.execPnlStuck service s
  | .initCard world f => Sys2Proof.Machine.execInitCard world f s
  | .scRead world data e => Sys2Proof.Machine.execScRead world data e s
  | .scWrite world e => Sys2Proof.Machine.execScWrite world e s
  | .scErase world e => Sys2Proof.Machine.execScErase world e s
  | .scUnlock world e => Sys2Proof.Machine.execScUnlock world e s
  | .setPwd world e => Sys2Proof.Machine.execSetPwd world e s
  | .clrPwd world e => Sys2Proof.Machine.execClrPwd world e s
  | .forceErase world e => Sys2Proof.Machine.execForceErase world e s
  | .sleep world => Sys2Proof.Machine.execSleep world s
  | .eject world => Sys2Proof.Machine.execEject world s
  | .walk world seen e => Sys2Proof.Machine.execWalk world seen e s
  | .autoSleep => Sys2Proof.Machine.execAutoSleep s
  | .scBusyTimeout => Sys2Proof.Machine.execScBusyTimeout s
  | .cardRemoval stage => Sys2Proof.Machine.execCardRemoval stage s
  | .cardInsertion f => Sys2Proof.Machine.execCardInsertion f s
  | .scPwrFault => Sys2Proof.Machine.execScPwrFault s
  | .hello f => Sys2Proof.Machine.execHello f s
  | .smlAuth f => Sys2Proof.Machine.execSmlAuth f s
  | .smlKeyUpdate f => Sys2Proof.Machine.execSmlKeyUpdate f s
  | .smlClose f => Sys2Proof.Machine.execSmlClose f s
  | .smlKeepalive f => Sys2Proof.Machine.execSmlKeepalive f s
  | .smlReset f => Sys2Proof.Machine.execSmlReset f s
  | .smlIdleTimeout session => Sys2Proof.Machine.execSmlIdleTimeout session s
  | .smlRelease session => Sys2Proof.Machine.execSmlRelease session s
  | .smlRead f => Sys2Proof.Machine.execSmlRead f s
  | .smlWrite f facts => Sys2Proof.Machine.execSmlWrite f facts s
  | .segRead f => Sys2Proof.Machine.execSegRead f s
  | .segBegin f => Sys2Proof.Machine.execSegBegin f s
  | .segWrite f => Sys2Proof.Machine.execSegWrite f s
  | .segEnd f facts => Sys2Proof.Machine.execSegEnd f facts s
  | .segAbort f => Sys2Proof.Machine.execSegAbort f s
  | .handleExpiry write session handle => Sys2Proof.Machine.execHandleExpiry write session handle s
  | .subscribe f => Sys2Proof.Machine.execSubscribe f s
  | .unsubscribe f => Sys2Proof.Machine.execUnsubscribe f s
  | .notifyIntervalEnd session sub => Sys2Proof.Machine.execNotifyIntervalEnd session sub s
  | .notifyAck f => Sys2Proof.Machine.execNotifyAck f s
  | .notifyResend session number => Sys2Proof.Machine.execNotifyResend session number s
  | .reassemblyTimeout hello session key => Sys2Proof.Machine.execReassemblyTimeout hello session key s
  | .addressChangeEffect => Sys2Proof.Machine.execAddressChangeEffect s
  | .oldAddressExpiry => Sys2Proof.Machine.execOldAddressExpiry s
  | .vendorWindowTick => Sys2Proof.Machine.execVendorWindowTick s
  | .restoreDefaults session nibble f => Sys2Proof.Machine.execRestoreDefaults session nibble f s
  | .enroll session content f => Sys2Proof.Machine.execEnroll session content f s
  | .escrowCreate session t n f => Sys2Proof.Machine.execEscrowCreate session t n f s
  | .vaultRotate session t n f => Sys2Proof.Machine.execVaultRotate session t n f s
  | .vaultRestore session set f => Sys2Proof.Machine.execVaultRestore session set f s
  | .nsCreate session ns f => Sys2Proof.Machine.execNsCreate session ns f s
  | .nsRotate session ns f => Sys2Proof.Machine.execNsRotate session ns f s
  | .nsDestroy session ns f => Sys2Proof.Machine.execNsDestroy session ns f s
  | .manifestKeyChange session value f => Sys2Proof.Machine.execManifestKeyChange session value f s
  | .ownerRelease session value f => Sys2Proof.Machine.execOwnerRelease session value f s
  | .attest session nonce f => Sys2Proof.Machine.execAttest session nonce f s
  | .srcClear session src f => Sys2Proof.Machine.execSrcClear session src f s
  | .knlUnlock session value f => Sys2Proof.Machine.execKnlUnlock session value f s
  | .knlClrLatch session value f => Sys2Proof.Machine.execKnlClrLatch session value f s
  | .bundleExport session kind f => Sys2Proof.Machine.execBundleExport session kind f s
  | .bundleImport session number f => Sys2Proof.Machine.execBundleImport session number f s
  | .selftest session kind f => Sys2Proof.Machine.execSelftest session kind f s
  | .fcuInject session injection detail f => Sys2Proof.Machine.execFcuInject session injection detail f s
  | .eccInject session injection f => Sys2Proof.Machine.execEccInject session injection f s
  | .mgtMdio reg data write world answer => Sys2Proof.Machine.execMgtMdio reg data write world answer s
  | .mgtLinkDown sync => Sys2Proof.Machine.execMgtLinkDown sync s
  | .trailRecordAccept => Sys2Proof.Machine.execTrailRecordAccept s
  | .subInterrupt sub => Sys2Proof.Machine.execSubInterrupt sub s
  | .trailJournalCommit stored => Sys2Proof.Machine.execTrailJournalCommit stored s
  | .trlWr pair world user event critical => Sys2Proof.Machine.execTrlWr pair world user event critical s
  | .telemetrySample x => Sys2Proof.Machine.execTelemetrySample x s
  | .dramPatrolScrub channel offset flips => Sys2Proof.Machine.execDramPatrolScrub channel offset flips s
  | .readDisturbRefresh block bad fails => Sys2Proof.Machine.execReadDisturbRefresh block bad fails s
  | .flashReadScrub block bad weak => Sys2Proof.Machine.execFlashReadScrub block bad weak s
  | .wearLevelling block bad fails => Sys2Proof.Machine.execWearLevelling block bad fails s
  | .ddrPeriodicCalibration channel => Sys2Proof.Machine.execDdrPeriodicCalibration channel s
  | .ddrRetraining channel => Sys2Proof.Machine.execDdrRetraining channel s
  | .sensorCalibration sensor off => Sys2Proof.Machine.execSensorCalibration sensor off s
  | .kennelOscillatorTrim ppm10 refLost => Sys2Proof.Machine.execKennelOscillatorTrim ppm10 refLost s
  | .brnOverrun activity => Sys2Proof.Machine.execBrnOverrun activity s
  | .refclkLoss => Sys2Proof.Machine.execRefclkLoss s
  | .pllUnlock => Sys2Proof.Machine.execPllUnlock s
  | .refclkRestore => Sys2Proof.Machine.execRefclkRestore s
  | .laneRefLoss north => Sys2Proof.Machine.execLaneRefLoss north s
  | .nfcXtalLoss => Sys2Proof.Machine.execNfcXtalLoss s
  | .pwrOkFall torn => Sys2Proof.Machine.execPwrOkFall torn s
  | .pwrOkRise => Sys2Proof.Machine.execPwrOkRise s
  | .sysrst => Sys2Proof.Machine.execSysrst s
  | .rstMain world => Sys2Proof.Machine.execRstMain world s
  | .rstPair issuer target world => Sys2Proof.Machine.execRstPair issuer target world s
  | .watchdogExpiry => Sys2Proof.Machine.execWatchdogExpiry s
  | .wdtKick world key => Sys2Proof.Machine.execWdtKick world key s
  | .wdtEnable world => Sys2Proof.Machine.execWdtEnable world s
  | .sealEnter auto world x => Sys2Proof.Machine.execSealEnter auto world x s
  | .shutdown goes world => Sys2Proof.Machine.execShutdown goes world s
  | .shutdownTimeout => Sys2Proof.Machine.execShutdownTimeout s
  | .pwrAvs target world => Sys2Proof.Machine.execPwrAvs target world s
  | .avsStep acknowledged => Sys2Proof.Machine.execAvsStep acknowledged s
  | .stCmd issuer world kind => Sys2Proof.Machine.execStCmd issuer world kind s
  | .stDone => Sys2Proof.Machine.execStDone s
  | .debugAuth x => Sys2Proof.Machine.execDebugAuth x s
  | .debugExpiry => Sys2Proof.Machine.execDebugExpiry s
  | .dbgNonce => Sys2Proof.Machine.execDbgNonce s
  | .dbgAccess write addr len data => Sys2Proof.Machine.execDbgAccess write addr len data s
  | .bypass => Sys2Proof.Machine.execBypass s
  | .idcode => Sys2Proof.Machine.execIdcode s
  | .samplePreload pins preload => Sys2Proof.Machine.execSamplePreload pins preload s
  | .extest pins next => Sys2Proof.Machine.execExtest pins next s
  | .clamp => Sys2Proof.Machine.execClamp s
  | .highz => Sys2Proof.Machine.execHighz s
  | .testReset => Sys2Proof.Machine.execTestReset s
  | .registerWrite world slot off value => Sys2Proof.Machine.execRegisterWrite world slot off value s
  | .holdupOk => Sys2Proof.Machine.execHoldupOk s
  | .mgtLinkUp speed duplex => Sys2Proof.Machine.execMgtLinkUp speed duplex s
  | .arpNdEchoRequest ask toUs body => Sys2Proof.Machine.execArpNdEchoRequest ask toUs body s
  | .smlAuthWaitTimeout session => Sys2Proof.Machine.execSmlAuthWaitTimeout session s
  | .corePairSelftestDone pair result signature => Sys2Proof.Machine.execCorePairSelftestDone pair result signature s
  | .laneRefReturn north => Sys2Proof.Machine.execLaneRefReturn north s
  | .nfcXtalReturn => Sys2Proof.Machine.execNfcXtalReturn s

end Sys2Proof.Machine
end

