-- ==== Sys2Proof/Machine/Step.lean ====
section
/-!
DEFINITION. One step of the block: the command at the front of the queue is executed on the state with the queue's rest; on an empty
queue the block looks for changes of subscribed dictionary entries that it has not yet notified (R570), and otherwise idles
(DESIGN CHOICE, assumption 29).
-/

namespace Sys2Proof.Machine

/-- One step. -/
def step (s : State) : Host.Outcome State Fault Refusal :=
  match s.pending with
  | c :: rest => exec c { s with pending := rest }
  | [] => .next (s.scan 0)

/-- The state with the command that a word spells at the front of its queue: no row of the table gives bits, so no word spells one. -/
def State.withFetchWord (s : State) (_nbits _w : Nat) : State := s

end Sys2Proof.Machine
end

