-- ==== Sys2Proof/Safety.lean ====
section
/-!
DEFINITION. What counts as a safe run, and the terms in which statements speak of a whole state: the parts of the state, two states that agree
on a part, and the canonical form of the state's sparse tables.
-/

namespace Sys2Proof.Machine

/-- The parts of the state. -/
inductive Part where
  /-- the service state -/
  | svc
  /-- whether HEEL keeps DRAM and state -/
  | heelRetains
  /-- the real-time clock -/
  | rtc
  /-- the register fields -/
  | regs
  /-- the latched halves of 64-bit registers -/
  | latch
  /-- the fault collector -/
  | collector
  /-- the Trail -/
  | trail
  /-- memory: every byte and check bit -/
  | mem
  /-- the access table, checkers and trackers -/
  | guards
  /-- the queue engine -/
  | queue
  /-- the stitch units -/
  | stitch
  /-- the staging memory -/
  | staging
  /-- the Shepherd -/
  | shepherd
  /-- the Pack -/
  | pack
  /-- the south side -/
  | south
  /-- the Saddlebag and its key store -/
  | keys
  /-- the Awl units -/
  | awl
  /-- the core pairs -/
  | cores
  /-- the flash -/
  | flash
  /-- the Kennel -/
  | kennel
  /-- the Collar -/
  | collar
  /-- the contactless reader -/
  | reader
  /-- the panel -/
  | panel
  /-- the service card slot -/
  | sd
  /-- the chip: power, reset, debug and self-test -/
  | chip
  /-- the telemetry -/
  | telemetry
  /-- Smilia -/
  | smilia
  /-- the dictionary entries of its own -/
  | dict
  /-- the contents of DOMAIN entries -/
  | domains
  /-- what has been sent -/
  | out
  /-- the count of free values -/
  | draws
  /-- the model's clock -/
  | now
  deriving DecidableEq, Repr

/-- Two states agree on a part. -/
def Part.same : Part → State → State → Prop
  | .svc, s, t => t.svc = s.svc
  | .heelRetains, s, t => t.heelRetains = s.heelRetains
  | .rtc, s, t => t.rtc = s.rtc
  | .regs, s, t => t.regs = s.regs
  | .latch, s, t => t.latch = s.latch
  | .collector, s, t => t.collector = s.collector
  | .trail, s, t => t.trail = s.trail
  | .mem, s, t => t.mem = s.mem
  | .guards, s, t => t.guards = s.guards
  | .queue, s, t => t.queue = s.queue
  | .stitch, s, t => t.stitch = s.stitch
  | .staging, s, t => t.staging = s.staging
  | .shepherd, s, t => t.shepherd = s.shepherd
  | .pack, s, t => t.pack = s.pack
  | .south, s, t => t.south = s.south
  | .keys, s, t => t.keys = s.keys
  | .awl, s, t => t.awl = s.awl
  | .cores, s, t => t.cores = s.cores
  | .flash, s, t => t.flash = s.flash
  | .kennel, s, t => t.kennel = s.kennel
  | .collar, s, t => t.collar = s.collar
  | .reader, s, t => t.reader = s.reader
  | .panel, s, t => t.panel = s.panel
  | .sd, s, t => t.sd = s.sd
  | .chip, s, t => t.chip = s.chip
  | .telemetry, s, t => t.telemetry = s.telemetry
  | .smilia, s, t => t.smilia = s.smilia
  | .dict, s, t => t.dict = s.dict
  | .domains, s, t => t.domains = s.domains
  | .out, s, t => t.out = s.out
  | .draws, s, t => t.draws = s.draws
  | .now, s, t => t.now = s.now

/-- Two states have the same commands waiting, and agree on every part that is not listed. -/
def State.agreeBut (ps : List Part) (s t : State) : Prop := t.pending = s.pending ∧ ∀ p : Part, p ∉ ps → p.same s t

/-- The canonical form: memory lists its cells by rising address and lists no byte equal to what an unlisted one reads as; the register, latch
and dictionary tables list each key once, rising. Equal contents are then equal data. -/
def State.tidy (s : State) : Bool := s.mem.wf && rising s.regs && rising s.latch && rising s.dict && rising s.domains

/-- What an invariant of the block must hold of: every state with it steps to states with it. -/
def StepKeeps (inv : State → Prop) : Prop := ∀ s t : State, inv s → step s = .next t → inv t

/-- A run of `n` steps is safe: no step stops with a fault or a refusal. -/
def State.safeRun : Nat → State → Prop
  | 0, _ => True
  | n + 1, s => ∃ t, step s = .next t ∧ State.safeRun n t

/-- `u` is the state in which an instruction of pair `p` takes its effect, `wait` cycles after `s`: the pair issues, and the fetch at pc goes through
(R362, R389). -/
def State.fetches (s : State) (p : PairId) (wait : Nat) (u : State) : Prop := s.issues p = true ∧ (s.tick p wait).fetchCheck p = (.ok (), u)

/-- Between `u` and `t` a pair takes the value `q`, and nothing else in the machine changes: no other pair, no reservation, no claim. -/
def State.setsPair (u t : State) (p : PairId) (q : Pair) : Prop :=
  State.agreeBut [.cores] u t ∧ t.core p = q ∧ (∀ r : PairId, r ≠ p → t.core r = u.core r) ∧ t.cores.reserved = u.cores.reserved ∧ t.cores.claims = u.cores.claims

/-- An instruction of one cycle retires: register `rd` takes `v`, pc moves past it, and nothing else changes. -/
def State.writesReg (u t : State) (p : PairId) (rd : RegId) (v : Word) : Prop :=
  u.setsPair t p { (u.core p).setReg rd v with pc := (u.core p).pc + 4, cycle := (u.core p).cycle + 1 }

/-- A jump or branch retires: pc takes `pc`, after `cost` cycles, and nothing else changes. -/
def State.jumpsTo (u t : State) (p : PairId) (pc : Word) (cost : Nat) : Prop :=
  u.setsPair t p { u.core p with pc := pc, cycle := (u.core p).cycle + cost }

/-- A multiplier instruction of latency `lat` issues: where four are queued it first waits for the oldest; its result completes at the later of `lat`
cycles from its issue and one cycle after the one before it; nothing else changes (R359). -/
def State.multiplies (u t : State) (p : PairId) (lat : Nat) (v : BitVec 128) : Prop :=
  let q := (u.core p).mulRoom
  u.setsPair t p { q with mul := q.mul ++ [{ done := max (q.cycle + lat) (q.mulLast + 1), value := v }], mulLast := max (q.cycle + lat) (q.mulLast + 1),
                          pc := (u.core p).pc + 4, cycle := q.cycle + 1 }

/-- A load retires: the mode's base update and then register `rt`, pc past it, one cycle; nothing else changes from `v`, the state after the access. -/
def State.loads (v t : State) (p : PairId) (m : AddrMode) (rt ra : RegId) (x : Word) : Prop :=
  v.setsPair t p { (m.rebase (v.core p) ra).setReg rt x with pc := (v.core p).pc + 4, cycle := (v.core p).cycle + 1 }

/-- A store retires in the same way. -/
def State.stores (v t : State) (p : PairId) (m : AddrMode) (ra : RegId) : Prop :=
  v.setsPair t p { m.rebase (v.core p) ra with pc := (v.core p).pc + 4, cycle := (v.core p).cycle + 1 }

/-- The pair has entered an exception in world `w` (R385): `v` is the state once its frame has been written at `fa`. It runs in that world as supervisor,
masked, at ENTRY, with the return address in EPC, the status it had in ESTATUS, and CAUSE, CAUSE2 and BADADDR as given; its reservation is gone, and a
change of world has cleared MLO and MHI. -/
def State.entersAt (v t : State) (p : PairId) (w : World) (ret cause cause2 bad fa : Word) : Prop :=
  v.agreeBut [.cores] t ∧ (∀ r : PairId, r ≠ p → t.core r = v.core r) ∧ tget t.cores.reserved p.val = none ∧
  (t.core p).world = w ∧ (t.core p).sup = true ∧ (t.core p).im = true ∧ (t.core p).pc = ((v.core p).regsOf w).entry ∧ (t.core p).reg 31 = fa ∧
  ((t.core p).regsOf w).epc = ret ∧ ((t.core p).regsOf w).estatus = statusBits w (v.core p).status ∧ ((t.core p).regsOf w).cause = cause ∧
  ((t.core p).regsOf w).cause2 = cause2 ∧ ((t.core p).regsOf w).badaddr = bad ∧ (t.core p).regsOf w.other = (v.core p).regsOf w.other ∧
  (∀ r : RegId, r ≠ 31 → (t.core p).reg r = (v.core p).reg r) ∧
  (w ≠ (v.core p).world → (t.core p).mlo = 0 ∧ (t.core p).mhi = 0) ∧ (w = (v.core p).world → (t.core p).mlo = (v.core p).mlo ∧ (t.core p).mhi = (v.core p).mhi)

/-- The frame of an exception with cause word `cause` goes to the stack of world `w` and gives `v` (R384 to R386, Table 11-2). -/
def State.pushesFrame (u v : State) (p : PairId) (w : World) (ret cause bad : Word) : Prop :=
  let u1 := u.updPair p Pair.drain
  let q := u1.core p
  (u1.stackBase p w).toNat % 8 = 0 ∧
  u1.pushWords p w false (u1.stackBase p w - 64) [ret, q.status, cause, 0, bad, q.reg 31, BitVec.ofNat 64 q.cycle, 0] = (true, v)

/-- An Awl unit's computation on its job `j` ends with the result `r`, which waits for its delivery with its output in operand memory, or with
that memory cleared, and nothing else changes (R333, R335). -/
def State.awlFinishes (s t : State) (unit : Nat) (j : AwlJob) (r : AwlResult) : Prop :=
  s.agreeBut [.awl] t ∧ t.awl = { s.awl with
    runs := tput s.awl.runs unit (.job j (.done r false false))
    operand := (if r.status = awDone then s.layOperand unit opResult (r.out.take 4096) else s.clearOperand unit).awl.operand }

/-- An Awl unit's computation ends DONE with output bytes. -/
def State.awlOutputs (s t : State) (unit : Nat) (j : AwlJob) (out : List Byte) : Prop :=
  ∃ r : AwlResult, s.awlFinishes t unit j r ∧ r.status = awDone ∧ r.reason = 0 ∧ r.out = out ∧ r.store = none

/-- A Smilia request arrives whole in an established session, for the first time, and is to be executed (R552, R559): `v` is the state after the changes
before it have been notified, `x` the session there, and `msg` the request's bytes. -/
def State.takesRequest (s : State) (f : SmlIn) (op : Nat) (v : State) (x : SmlSession) (msg : List Byte) : Prop :=
  ∃ (u w : State) (y : SmlSession), s.acceptSml f op = (u, some y) ∧ y.state = .established ∧ f.req ≠ 0 ∧ y.topReq < f.req + 32 ∧
    y.replies.find? (fun r => r.req == f.req) = none ∧
    (u.setSml f.session { y with topReq := max y.topReq f.req }).assemble f.session f.req f.offset f.last f.payload = (w, some msg) ∧
    v = w.scan 0 ∧ x = (v.sml f.session).getD y

/-- A Smilia request is answered (R554, R559): its answer is kept and sent, and the changes it made are notified with the Trail number `seq`. -/
def State.answersRequest (s : State) (f : SmlIn) (op : Nat) (answer : List Byte) (seq : Nat) : State :=
  let s := s.updSml f.session (fun x => if x.state = .closed then x else
    { x with replies := (x.replies ++ [({ req := f.req, op := op + 0x80, payload := answer } : SmlReply)]).filter (fun r => decide (x.topReq < r.req + 32)) })
  (s.smlReply f.session op f.req answer).scan seq

/-- An established session commands a CMD entry that its role may write (R561, R562): `u` is the state after the changes before it have been notified. -/
def State.commands (s : State) (sid idx : Nat) (x : SmlSession) (e : DictEntry) (u : State) : Prop :=
  s.sml sid = some x ∧ x.state = .established ∧ s.mgmtServes = true ∧ u = s.scan 0 ∧ dictFind x.role idx 0 DictEntry.wr = .ok e

/-- A command is answered with how it ended, and its changes are notified. -/
def State.answersCommand (s : State) (sid : Nat) (d : SmlDone) : State := (s.emit (.smilia sid) (smWrite + 0x80) [d.status, d.detail, d.seq]).scan d.seq

/-- A command has acted and ends with status and DETAIL: its DICT_CHANGE record, the entry's last status, the answer (R560, R562). -/
def State.endsCommand (s : State) (sid : Nat) (x : SmlSession) (e : DictEntry) (arg : List Byte) (st d : Nat) : State :=
  let r := s.dictChange sid x.role e arg
  (r.2.cmdStatus e.idx st).answersCommand sid { status := st, detail := d, seq := r.1 }

end Sys2Proof.Machine
end

