-- ==== Sys2Proof/Machine/Touched.lean ====
section
/-!
DEFINITION. What each command may touch at most: the parts of the state that its meaning and the operations it uses can write. Every other part it
leaves as it was; the queue of waiting commands no command touches.
-/

namespace Sys2Proof.Machine

/-- The parts that a command may touch. -/
def touched : Instr → List Part
  | .centralRetry _ => [.regs, .collector, .trail, .queue, .stitch, .staging, .pack, .south, .keys, .awl, .cores]
  | .trailBacklog _ => [.rtc, .regs, .collector, .trail, .queue, .stitch, .staging, .pack, .south, .keys, .awl, .cores, .kennel, .now]
  | .sealSetLost => [.regs, .collector, .trail, .queue, .stitch, .staging, .shepherd, .pack, .south, .awl, .out]
  | .heelAfterDrain => [.svc, .heelRetains, .regs, .trail, .shepherd]
  | .sealResumption => [.svc, .heelRetains, .regs, .collector, .trail, .mem, .queue, .stitch, .staging, .shepherd, .pack, .south, .keys, .awl, .cores]
  | .clientHello _ _ => [.queue, .out, .draws]
  | .clientHelloSegmentTimeout _ => [.rtc, .queue, .kennel, .now]
  | .auth _ _ _ => [.regs, .collector, .trail, .queue, .stitch, .staging, .shepherd, .pack, .south, .awl, .out]
  | .authWaitTimeout _ => [.rtc, .regs, .collector, .trail, .queue, .stitch, .staging, .shepherd, .pack, .south, .awl, .kennel, .out, .now]
  | .keyUpdate _ => [.queue, .out]
  | .prevKeyErase _ _ => [.rtc, .queue, .south, .kennel, .smilia, .now]
  | .close _ => [.regs, .collector, .trail, .queue, .stitch, .staging, .shepherd, .pack, .south, .awl, .out]
  | .closeAck _ => [.regs, .collector, .trail, .queue, .stitch, .staging, .shepherd, .pack, .south, .awl, .out]
  | .keepalive _ => [.queue, .out]
  | .reset _ => [.regs, .collector, .trail, .queue, .stitch, .staging, .shepherd, .pack, .south, .awl, .out]
  | .sessionIdleTimeout _ => [.rtc, .regs, .collector, .trail, .queue, .stitch, .staging, .shepherd, .pack, .south, .awl, .kennel, .out, .now]
  | .sessionRelease _ => [.rtc, .regs, .collector, .trail, .mem, .queue, .stitch, .staging, .shepherd, .pack, .south, .awl, .cores, .kennel, .out, .now]
  | .ack _ => [.regs, .collector, .trail, .mem, .queue, .stitch, .staging, .shepherd, .pack, .south, .keys, .awl, .cores, .out]
  | .ackDelayTimer _ _ => [.rtc, .queue, .south, .kennel, .out, .now]
  | .rtoExpiry _ _ => [.rtc, .queue, .kennel, .out, .now]
  | .pathReprobe _ _ _ => [.rtc, .queue, .south, .kennel, .out, .now]
  | .pathProbe _ _ => [.collector, .queue, .out]
  | .pathAdd _ => [.queue, .out]
  | .northPathFault _ => [.regs, .collector, .trail, .queue, .stitch, .staging, .pack, .south, .keys, .awl, .cores, .out]
  | .keepaliveTimer _ => [.rtc, .queue, .kennel, .out, .now]
  | .queueOpen _ => [.queue, .out, .draws]
  | .queueClose _ => [.queue, .out]
  | .objBegin _ => [.queue, .flash, .out]
  | .data _ => [.queue, .out]
  | .objEnd _ => [.regs, .collector, .trail, .queue, .stitch, .staging, .shepherd, .pack, .south, .awl, .out]
  | .objAbort _ => [.regs, .collector, .trail, .queue, .stitch, .staging, .shepherd, .pack, .south, .awl, .out]
  | .creditGrant _ _ => [.queue, .out]
  | .queueIdleTimeout _ => [.rtc, .regs, .collector, .trail, .queue, .stitch, .staging, .shepherd, .pack, .south, .awl, .kennel, .out, .now]
  | .receiptHoldExpiry _ => [.rtc, .queue, .kennel, .now]
  | .receiptGet _ => [.regs, .collector, .trail, .mem, .queue, .stitch, .staging, .shepherd, .pack, .south, .keys, .awl, .cores, .out]
  | .epochGet _ => [.regs, .collector, .trail, .mem, .queue, .stitch, .staging, .shepherd, .pack, .south, .keys, .awl, .cores, .out]
  | .restoreReq _ => [.regs, .collector, .trail, .mem, .queue, .stitch, .staging, .shepherd, .pack, .south, .keys, .awl, .cores, .out]
  | .credit _ => [.queue, .south, .out]
  | .restoreDataSend _ => [.queue, .south, .out]
  | .restoreIdleTimeout _ => [.rtc, .regs, .collector, .trail, .mem, .queue, .stitch, .staging, .shepherd, .pack, .south, .awl, .cores, .kennel, .out, .now]
  | .rangeHandover _ _ _ => [.regs, .collector, .trail, .queue, .stitch, .staging, .pack, .south, .keys, .awl, .cores]
  | .contextSwitch _ => [.stitch]
  | .stuCompareFail _ _ => [.regs, .collector, .trail, .queue, .stitch, .staging, .pack, .south, .keys, .awl, .cores]
  | .maskReseed _ _ => [.stitch, .draws]
  | .reseedLate _ _ => [.rtc, .regs, .collector, .trail, .queue, .stitch, .staging, .pack, .south, .keys, .awl, .cores, .kennel, .now]
  | .plaintextPoison _ _ => [.regs, .collector, .trail, .queue, .stitch, .staging, .shepherd, .pack, .south, .awl, .out]
  | .rowRelease _ => [.regs, .collector, .trail, .mem, .queue, .stitch, .staging, .pack, .south, .keys, .awl, .cores]
  | .rangeDone _ => [.regs, .collector, .trail, .mem, .queue, .stitch, .staging, .shepherd, .pack, .south, .keys, .awl, .cores, .out]
  | .tagCombine _ _ => [.queue]
  | .unsealTagCheck _ _ => [.regs, .collector, .trail, .mem, .queue, .stitch, .staging, .shepherd, .pack, .south, .keys, .awl, .cores, .out]
  | .stuSelftestDone _ _ _ => [.regs, .collector, .trail, .queue, .stitch, .staging, .shepherd, .pack, .south, .keys, .awl, .cores, .chip]
  | .stuEnWrite _ _ => [.regs, .stitch]
  | .stReq _ => [.shepherd]
  | .stuQrel _ _ => [.regs, .stitch]
  | .rollingSelftestGrant _ _ _ => [.regs, .stitch, .shepherd, .pack, .awl]
  | .rollingSelftestWithdraw _ _ => [.rtc, .shepherd, .kennel, .now]
  | .selftestDeferred _ _ => [.rtc, .regs, .trail, .shepherd, .kennel, .now]
  | .shpStOverdue _ _ => [.rtc, .regs, .collector, .trail, .queue, .stitch, .staging, .shepherd, .pack, .south, .keys, .awl, .cores, .kennel, .now]
  | .channelFail _ => [.regs, .collector, .trail, .mem, .queue, .stitch, .staging, .shepherd, .pack, .south, .keys, .awl, .cores, .out]
  | .regeneration _ _ => [.regs, .collector, .trail, .mem, .guards, .queue, .stitch, .staging, .shepherd, .pack, .south, .keys, .awl, .cores, .out]
  | .regenPlaceWait _ _ => [.regs, .collector, .trail, .mem, .guards, .queue, .stitch, .staging, .shepherd, .pack, .south, .keys, .awl, .cores, .out]
  | .pageMoveDone _ _ => [.regs, .collector, .trail, .mem, .queue, .stitch, .staging, .shepherd, .pack, .south, .keys, .awl, .cores, .out]
  | .retrainEnd _ => [.regs, .collector, .trail, .mem, .queue, .stitch, .staging, .shepherd, .pack, .south, .keys, .awl, .cores, .out]
  | .rcCounterRead _ _ _ => [.regs, .latch, .collector, .trail, .queue, .stitch, .staging, .pack, .south, .keys, .awl, .cores, .out, .draws]
  | .readMedia _ => [.regs]
  | .writeMedia _ _ _ => [.regs, .collector, .trail, .mem, .queue, .stitch, .staging, .shepherd, .pack, .south, .keys, .awl, .cores, .out]
  | .readShelf _ => [.regs]
  | .writeShelf _ _ => [.regs, .shepherd]
  | .extentAdmit _ _ _ _ => [.regs, .collector, .trail, .mem, .queue, .stitch, .staging, .shepherd, .pack, .south, .keys, .awl, .cores]
  | .placementRetry _ _ => [.regs, .collector, .trail, .mem, .queue, .stitch, .staging, .shepherd, .pack, .south, .keys, .awl, .cores, .out]
  | .placementFix _ _ => [.regs, .collector, .trail, .mem, .queue, .stitch, .staging, .shepherd, .pack, .south, .keys, .awl, .cores, .out]
  | .wakeDecision => [.shepherd, .south, .out]
  | .wakeTimeout _ => [.rtc, .regs, .collector, .trail, .mem, .queue, .stitch, .staging, .shepherd, .pack, .south, .keys, .awl, .cores, .kennel, .now]
  | .shelfLost _ => [.rtc, .regs, .collector, .trail, .mem, .queue, .stitch, .staging, .shepherd, .pack, .south, .keys, .awl, .cores, .kennel, .now]
  | .shepherdSave => [.rtc, .shepherd, .kennel, .now]
  | .factorRecompute => [.shepherd]
  | .coreTestRequest _ _ => [.regs, .shepherd]
  | .shpCoreRel _ _ => [.regs, .shepherd]
  | .coreReleaseTimeout => [.rtc, .regs, .shepherd, .kennel, .now]
  | .seedCommit _ _ => [.regs]
  | .permutationMismatch _ _ => [.regs, .collector, .trail, .queue, .stitch, .staging, .pack, .south, .keys, .awl, .cores]
  | .fragmentHashDone _ _ _ => [.regs, .queue, .stitch, .pack, .awl]
  | .epochSlotEnd => [.rtc, .regs, .collector, .trail, .queue, .stitch, .staging, .pack, .south, .keys, .awl, .cores, .flash, .kennel, .now]
  | .epochLenChange => [.rtc, .regs, .collector, .trail, .queue, .stitch, .staging, .pack, .south, .keys, .awl, .cores, .flash, .kennel, .now]
  | .notarisedEpochClose _ => [.regs, .collector, .trail, .queue, .stitch, .staging, .pack, .south, .keys, .awl, .cores, .flash]
  | .epochSignDone _ => [.regs, .collector, .trail, .queue, .stitch, .staging, .pack, .south, .keys, .awl, .cores, .draws]
  | .epochVerifyDone _ _ => [.regs, .collector, .trail, .mem, .queue, .stitch, .staging, .shepherd, .pack, .south, .keys, .awl, .cores, .out]
  | .manifestLogAppend _ => [.pack, .south]
  | .reverifyDue _ _ _ => [.rtc, .regs, .collector, .trail, .mem, .guards, .queue, .stitch, .staging, .shepherd, .pack, .south, .keys, .awl, .cores, .kennel, .out, .now]
  | .attestRequest _ _ => [.rtc, .regs, .collector, .trail, .mem, .guards, .queue, .stitch, .staging, .pack, .south, .keys, .awl, .cores, .kennel, .out, .draws, .now]
  | .pckQrel _ _ => [.regs, .pack]
  | .pckSelftestDone _ _ _ => [.regs, .collector, .trail, .queue, .stitch, .staging, .shepherd, .pack, .south, .keys, .awl, .cores, .chip]
  | .flitReceive _ _ _ => [.regs, .collector, .trail, .queue, .stitch, .staging, .pack, .south, .keys, .awl, .cores, .out]
  | .flitResendTimer _ => [.rtc, .regs, .collector, .trail, .queue, .stitch, .staging, .pack, .south, .keys, .awl, .cores, .kennel, .out, .now]
  | .flitIdleSend _ => [.rtc, .south, .kennel, .out, .now]
  | .ftLinkDown _ _ _ => [.regs, .collector, .trail, .queue, .stitch, .staging, .pack, .south, .keys, .awl, .cores, .out]
  | .tetherBringupRetry _ _ _ => [.rtc, .south, .kennel, .out, .now]
  | .announce _ => [.south, .out, .draws]
  | .ftAuth _ => [.regs, .collector, .trail, .queue, .stitch, .staging, .shepherd, .pack, .south, .keys, .awl, .cores, .out]
  | .ftKeyUpdate _ => [.regs, .shepherd, .south, .out]
  | .ftReset _ => [.regs, .shepherd, .south, .out]
  | .ftHandshakeTimeout _ => [.rtc, .south, .kennel, .now]
  | .pathConfirm _ => [.regs, .shepherd, .south, .out]
  | .ftPathProbe _ _ => [.regs, .shepherd, .south, .out]
  | .ftAck _ => [.regs, .shepherd, .south, .out]
  | .ftRtoExpiry _ _ => [.rtc, .regs, .south, .kennel, .out, .now]
  | .ftCredit _ => [.regs, .shepherd, .south, .out]
  | .durable _ => [.regs, .collector, .trail, .mem, .queue, .stitch, .staging, .shepherd, .pack, .south, .keys, .awl, .cores, .flash, .out]
  | .durableTimeout _ _ => [.rtc, .regs, .collector, .trail, .mem, .queue, .stitch, .staging, .shepherd, .pack, .south, .keys, .awl, .cores, .kennel, .now]
  | .getData _ => [.regs, .collector, .trail, .mem, .queue, .stitch, .staging, .shepherd, .pack, .south, .keys, .awl, .cores, .flash, .out]
  | .getTimeout _ _ => [.rtc, .regs, .collector, .trail, .mem, .queue, .stitch, .staging, .shepherd, .pack, .south, .keys, .awl, .cores, .flash, .kennel, .out, .now]
  | .powerState _ => [.regs, .collector, .trail, .mem, .queue, .stitch, .staging, .shepherd, .pack, .south, .keys, .awl, .cores, .out]
  | .report _ => [.regs, .collector, .trail, .mem, .queue, .stitch, .staging, .shepherd, .pack, .south, .keys, .awl, .cores, .collar, .out]
  | .ftStatus _ => [.regs, .collector, .trail, .mem, .queue, .stitch, .staging, .shepherd, .pack, .south, .keys, .awl, .cores, .flash, .out]
  | .drainSend _ => [.regs, .collector, .trail, .mem, .guards, .queue, .stitch, .staging, .shepherd, .pack, .south, .keys, .awl, .cores, .out]
  | .catalogueWrite _ _ _ => [.rtc, .south, .kennel, .now]
  | .cataloguePlaceRetry _ _ => [.south]
  | .catalogueRebuild => [.regs, .collector, .trail, .mem, .queue, .stitch, .staging, .shepherd, .pack, .south, .keys, .awl, .cores, .flash, .out]
  | .restoreBufferWait _ => [.regs, .collector, .trail, .mem, .queue, .stitch, .staging, .shepherd, .pack, .south, .keys, .awl, .cores, .out]
  | .evacuate _ => [.regs, .collector, .trail, .mem, .queue, .stitch, .staging, .shepherd, .pack, .south, .keys, .awl, .cores, .out]
  | .evacuateCancel _ => [.regs, .shepherd, .south, .out]
  | .dkReq _ _ _ => [.regs, .collector, .trail, .mem, .queue, .stitch, .staging, .shepherd, .pack, .south, .keys, .awl, .cores, .out, .draws]
  | .keyLoad _ _ _ _ => [.regs, .collector, .trail, .queue, .stitch, .staging, .pack, .south, .keys, .awl, .cores, .out, .draws]
  | .keyStore _ _ _ _ _ => [.regs, .collector, .trail, .queue, .stitch, .staging, .pack, .south, .keys, .awl, .cores, .out]
  | .ghashPartial _ _ _ => [.queue, .stitch, .south, .out]
  | .clear _ _ => [.regs, .collector, .trail, .mem, .queue, .stitch, .staging, .shepherd, .pack, .south, .keys, .awl, .cores, .out]
  | .epochMapMissLoad _ _ _ => [.regs, .collector, .trail, .mem, .queue, .stitch, .staging, .shepherd, .pack, .south, .keys, .awl, .cores, .out]
  | .sdbMacroLost _ _ => [.regs, .collector, .trail, .mem, .queue, .stitch, .staging, .shepherd, .pack, .south, .keys, .awl, .cores, .out]
  | .gen _ => [.regs, .keys, .draws]
  | .derive _ => [.regs, .keys]
  | .wrap _ _ => [.regs, .keys]
  | .load _ _ => [.regs, .collector, .trail, .queue, .stitch, .staging, .pack, .south, .keys, .awl, .cores]
  | .zero _ => [.regs, .collector, .trail, .mem, .queue, .stitch, .staging, .shepherd, .pack, .south, .keys, .awl, .cores, .out]
  | .setAttr _ => [.regs, .keys]
  | .sealGcm _ => [.regs]
  | .openGcm _ => [.regs, .keys]
  | .vkGen _ => [.regs, .keys, .draws]
  | .vkSplit _ => [.regs, .keys, .draws]
  | .vkCombine _ => [.regs, .collector, .trail, .mem, .queue, .stitch, .staging, .shepherd, .pack, .south, .keys, .awl, .cores, .flash, .out]
  | .vkCommit _ => [.regs, .keys, .flash]
  | .nsCurrent _ => [.regs, .keys, .flash]
  | .trngSourceFail _ _ => [.regs, .collector, .trail, .queue, .stitch, .staging, .pack, .south, .keys, .awl, .cores]
  | .drbgReseed => [.rtc, .keys, .kennel, .draws, .now]
  | .badgeAuth _ _ => [.regs, .collector, .trail, .mem, .queue, .stitch, .staging, .shepherd, .pack, .south, .keys, .awl, .cores, .flash, .collar, .reader, .smilia, .dict, .domains, .out, .draws]
  | .presenceTimeout => [.rtc, .regs, .collector, .trail, .mem, .queue, .stitch, .staging, .shepherd, .pack, .south, .keys, .awl, .cores, .kennel, .smilia, .out, .now]
  | .awlRingTail _ _ => [.regs]
  | .awlDispatch => [.regs, .collector, .trail, .mem, .guards, .queue, .stitch, .staging, .shepherd, .pack, .south, .keys, .awl, .cores, .out]
  | .modAdd _ => [.regs, .awl]
  | .modSub _ => [.regs, .awl]
  | .modMul _ => [.regs, .awl]
  | .modExp _ => [.regs, .awl]
  | .modInv _ => [.regs, .awl]
  | .modRed _ => [.regs, .awl]
  | .awlMul _ => [.regs, .awl]
  | .ntt _ => [.regs, .awl]
  | .intt _ => [.regs, .awl]
  | .polyMac _ => [.regs, .awl]
  | .ecMul _ => [.regs, .awl]
  | .ecPub _ => [.regs, .collector, .trail, .queue, .stitch, .staging, .pack, .south, .keys, .awl, .cores, .draws]
  | .ecdsaSign _ => [.regs, .collector, .trail, .queue, .stitch, .staging, .pack, .south, .keys, .awl, .cores, .draws]
  | .ecdsaVerify _ => [.regs, .collector, .trail, .mem, .guards, .queue, .stitch, .staging, .pack, .south, .keys, .awl, .cores]
  | .ed25519Verify _ => [.regs, .awl]
  | .x25519Gen _ => [.regs, .awl, .draws]
  | .x25519 _ => [.regs, .collector, .trail, .queue, .stitch, .staging, .pack, .south, .keys, .awl, .cores, .draws]
  | .mlkemKeygen _ => [.regs, .awl, .draws]
  | .mlkemEncaps _ => [.regs, .awl, .draws]
  | .mlkemDecaps _ => [.regs, .collector, .trail, .queue, .stitch, .staging, .pack, .south, .keys, .awl, .cores, .draws]
  | .mldsaPub _ => [.regs, .collector, .trail, .queue, .stitch, .staging, .pack, .south, .keys, .awl, .cores, .draws]
  | .mldsaSign _ => [.regs, .collector, .trail, .queue, .stitch, .staging, .pack, .south, .keys, .awl, .cores, .draws]
  | .mldsaVerify _ => [.regs, .collector, .trail, .mem, .guards, .queue, .stitch, .staging, .pack, .south, .keys, .awl, .cores]
  | .awlCompletion _ => [.regs, .collector, .trail, .mem, .guards, .queue, .stitch, .staging, .pack, .south, .keys, .awl, .cores]
  | .awlDone => [.rtc, .regs, .awl, .kennel, .now]
  | .awlAbort _ _ _ => [.regs, .collector, .trail, .mem, .guards, .queue, .stitch, .staging, .pack, .south, .keys, .awl, .cores]
  | .awlMismatch _ _ => [.regs, .collector, .trail, .queue, .stitch, .staging, .pack, .south, .keys, .awl, .cores]
  | .awlQrel _ _ => [.regs, .awl]
  | .awlSelftestDone _ _ _ => [.regs, .collector, .trail, .queue, .stitch, .staging, .shepherd, .pack, .south, .keys, .awl, .cores, .chip]
  | .add _ _ _ _ _ => [.svc, .heelRetains, .rtc, .regs, .latch, .collector, .trail, .mem, .guards, .queue, .stitch, .staging, .shepherd, .pack, .south, .keys, .awl, .cores, .flash, .kennel, .collar, .reader, .panel, .sd, .chip, .telemetry, .smilia, .dict, .domains, .out, .draws, .now]
  | .sub _ _ _ _ _ => [.svc, .heelRetains, .rtc, .regs, .latch, .collector, .trail, .mem, .guards, .queue, .stitch, .staging, .shepherd, .pack, .south, .keys, .awl, .cores, .flash, .kennel, .collar, .reader, .panel, .sd, .chip, .telemetry, .smilia, .dict, .domains, .out, .draws, .now]
  | .andReg _ _ _ _ _ => [.svc, .heelRetains, .rtc, .regs, .latch, .collector, .trail, .mem, .guards, .queue, .stitch, .staging, .shepherd, .pack, .south, .keys, .awl, .cores, .flash, .kennel, .collar, .reader, .panel, .sd, .chip, .telemetry, .smilia, .dict, .domains, .out, .draws, .now]
  | .orReg _ _ _ _ _ => [.svc, .heelRetains, .rtc, .regs, .latch, .collector, .trail, .mem, .guards, .queue, .stitch, .staging, .shepherd, .pack, .south, .keys, .awl, .cores, .flash, .kennel, .collar, .reader, .panel, .sd, .chip, .telemetry, .smilia, .dict, .domains, .out, .draws, .now]
  | .xor _ _ _ _ _ => [.svc, .heelRetains, .rtc, .regs, .latch, .collector, .trail, .mem, .guards, .queue, .stitch, .staging, .shepherd, .pack, .south, .keys, .awl, .cores, .flash, .kennel, .collar, .reader, .panel, .sd, .chip, .telemetry, .smilia, .dict, .domains, .out, .draws, .now]
  | .andn _ _ _ _ _ => [.svc, .heelRetains, .rtc, .regs, .latch, .collector, .trail, .mem, .guards, .queue, .stitch, .staging, .shepherd, .pack, .south, .keys, .awl, .cores, .flash, .kennel, .collar, .reader, .panel, .sd, .chip, .telemetry, .smilia, .dict, .domains, .out, .draws, .now]
  | .slt _ _ _ _ _ => [.svc, .heelRetains, .rtc, .regs, .latch, .collector, .trail, .mem, .guards, .queue, .stitch, .staging, .shepherd, .pack, .south, .keys, .awl, .cores, .flash, .kennel, .collar, .reader, .panel, .sd, .chip, .telemetry, .smilia, .dict, .domains, .out, .draws, .now]
  | .sltu _ _ _ _ _ => [.svc, .heelRetains, .rtc, .regs, .latch, .collector, .trail, .mem, .guards, .queue, .stitch, .staging, .shepherd, .pack, .south, .keys, .awl, .cores, .flash, .kennel, .collar, .reader, .panel, .sd, .chip, .telemetry, .smilia, .dict, .domains, .out, .draws, .now]
  | .sll _ _ _ _ _ => [.svc, .heelRetains, .rtc, .regs, .latch, .collector, .trail, .mem, .guards, .queue, .stitch, .staging, .shepherd, .pack, .south, .keys, .awl, .cores, .flash, .kennel, .collar, .reader, .panel, .sd, .chip, .telemetry, .smilia, .dict, .domains, .out, .draws, .now]
  | .srl _ _ _ _ _ => [.svc, .heelRetains, .rtc, .regs, .latch, .collector, .trail, .mem, .guards, .queue, .stitch, .staging, .shepherd, .pack, .south, .keys, .awl, .cores, .flash, .kennel, .collar, .reader, .panel, .sd, .chip, .telemetry, .smilia, .dict, .domains, .out, .draws, .now]
  | .sra _ _ _ _ _ => [.svc, .heelRetains, .rtc, .regs, .latch, .collector, .trail, .mem, .guards, .queue, .stitch, .staging, .shepherd, .pack, .south, .keys, .awl, .cores, .flash, .kennel, .collar, .reader, .panel, .sd, .chip, .telemetry, .smilia, .dict, .domains, .out, .draws, .now]
  | .ror _ _ _ _ _ => [.svc, .heelRetains, .rtc, .regs, .latch, .collector, .trail, .mem, .guards, .queue, .stitch, .staging, .shepherd, .pack, .south, .keys, .awl, .cores, .flash, .kennel, .collar, .reader, .panel, .sd, .chip, .telemetry, .smilia, .dict, .domains, .out, .draws, .now]
  | .moveqz _ _ _ _ _ => [.svc, .heelRetains, .rtc, .regs, .latch, .collector, .trail, .mem, .guards, .queue, .stitch, .staging, .shepherd, .pack, .south, .keys, .awl, .cores, .flash, .kennel, .collar, .reader, .panel, .sd, .chip, .telemetry, .smilia, .dict, .domains, .out, .draws, .now]
  | .movnez _ _ _ _ _ => [.svc, .heelRetains, .rtc, .regs, .latch, .collector, .trail, .mem, .guards, .queue, .stitch, .staging, .shepherd, .pack, .south, .keys, .awl, .cores, .flash, .kennel, .collar, .reader, .panel, .sd, .chip, .telemetry, .smilia, .dict, .domains, .out, .draws, .now]
  | .clz _ _ _ _ => [.svc, .heelRetains, .rtc, .regs, .latch, .collector, .trail, .mem, .guards, .queue, .stitch, .staging, .shepherd, .pack, .south, .keys, .awl, .cores, .flash, .kennel, .collar, .reader, .panel, .sd, .chip, .telemetry, .smilia, .dict, .domains, .out, .draws, .now]
  | .popc _ _ _ _ => [.svc, .heelRetains, .rtc, .regs, .latch, .collector, .trail, .mem, .guards, .queue, .stitch, .staging, .shepherd, .pack, .south, .keys, .awl, .cores, .flash, .kennel, .collar, .reader, .panel, .sd, .chip, .telemetry, .smilia, .dict, .domains, .out, .draws, .now]
  | .bswap _ _ _ _ => [.svc, .heelRetains, .rtc, .regs, .latch, .collector, .trail, .mem, .guards, .queue, .stitch, .staging, .shepherd, .pack, .south, .keys, .awl, .cores, .flash, .kennel, .collar, .reader, .panel, .sd, .chip, .telemetry, .smilia, .dict, .domains, .out, .draws, .now]
  | .addi _ _ _ _ _ => [.svc, .heelRetains, .rtc, .regs, .latch, .collector, .trail, .mem, .guards, .queue, .stitch, .staging, .shepherd, .pack, .south, .keys, .awl, .cores, .flash, .kennel, .collar, .reader, .panel, .sd, .chip, .telemetry, .smilia, .dict, .domains, .out, .draws, .now]
  | .andi _ _ _ _ _ => [.svc, .heelRetains, .rtc, .regs, .latch, .collector, .trail, .mem, .guards, .queue, .stitch, .staging, .shepherd, .pack, .south, .keys, .awl, .cores, .flash, .kennel, .collar, .reader, .panel, .sd, .chip, .telemetry, .smilia, .dict, .domains, .out, .draws, .now]
  | .ori _ _ _ _ _ => [.svc, .heelRetains, .rtc, .regs, .latch, .collector, .trail, .mem, .guards, .queue, .stitch, .staging, .shepherd, .pack, .south, .keys, .awl, .cores, .flash, .kennel, .collar, .reader, .panel, .sd, .chip, .telemetry, .smilia, .dict, .domains, .out, .draws, .now]
  | .xori _ _ _ _ _ => [.svc, .heelRetains, .rtc, .regs, .latch, .collector, .trail, .mem, .guards, .queue, .stitch, .staging, .shepherd, .pack, .south, .keys, .awl, .cores, .flash, .kennel, .collar, .reader, .panel, .sd, .chip, .telemetry, .smilia, .dict, .domains, .out, .draws, .now]
  | .slti _ _ _ _ _ => [.svc, .heelRetains, .rtc, .regs, .latch, .collector, .trail, .mem, .guards, .queue, .stitch, .staging, .shepherd, .pack, .south, .keys, .awl, .cores, .flash, .kennel, .collar, .reader, .panel, .sd, .chip, .telemetry, .smilia, .dict, .domains, .out, .draws, .now]
  | .sltiu _ _ _ _ _ => [.svc, .heelRetains, .rtc, .regs, .latch, .collector, .trail, .mem, .guards, .queue, .stitch, .staging, .shepherd, .pack, .south, .keys, .awl, .cores, .flash, .kennel, .collar, .reader, .panel, .sd, .chip, .telemetry, .smilia, .dict, .domains, .out, .draws, .now]
  | .movz _ _ _ _ _ => [.svc, .heelRetains, .rtc, .regs, .latch, .collector, .trail, .mem, .guards, .queue, .stitch, .staging, .shepherd, .pack, .south, .keys, .awl, .cores, .flash, .kennel, .collar, .reader, .panel, .sd, .chip, .telemetry, .smilia, .dict, .domains, .out, .draws, .now]
  | .movk _ _ _ _ _ => [.svc, .heelRetains, .rtc, .regs, .latch, .collector, .trail, .mem, .guards, .queue, .stitch, .staging, .shepherd, .pack, .south, .keys, .awl, .cores, .flash, .kennel, .collar, .reader, .panel, .sd, .chip, .telemetry, .smilia, .dict, .domains, .out, .draws, .now]
  | .adrp _ _ _ _ => [.svc, .heelRetains, .rtc, .regs, .latch, .collector, .trail, .mem, .guards, .queue, .stitch, .staging, .shepherd, .pack, .south, .keys, .awl, .cores, .flash, .kennel, .collar, .reader, .panel, .sd, .chip, .telemetry, .smilia, .dict, .domains, .out, .draws, .now]
  | .slli _ _ _ _ _ => [.svc, .heelRetains, .rtc, .regs, .latch, .collector, .trail, .mem, .guards, .queue, .stitch, .staging, .shepherd, .pack, .south, .keys, .awl, .cores, .flash, .kennel, .collar, .reader, .panel, .sd, .chip, .telemetry, .smilia, .dict, .domains, .out, .draws, .now]
  | .srli _ _ _ _ _ => [.svc, .heelRetains, .rtc, .regs, .latch, .collector, .trail, .mem, .guards, .queue, .stitch, .staging, .shepherd, .pack, .south, .keys, .awl, .cores, .flash, .kennel, .collar, .reader, .panel, .sd, .chip, .telemetry, .smilia, .dict, .domains, .out, .draws, .now]
  | .srai _ _ _ _ _ => [.svc, .heelRetains, .rtc, .regs, .latch, .collector, .trail, .mem, .guards, .queue, .stitch, .staging, .shepherd, .pack, .south, .keys, .awl, .cores, .flash, .kennel, .collar, .reader, .panel, .sd, .chip, .telemetry, .smilia, .dict, .domains, .out, .draws, .now]
  | .mul _ _ _ _ => [.svc, .heelRetains, .rtc, .regs, .latch, .collector, .trail, .mem, .guards, .queue, .stitch, .staging, .shepherd, .pack, .south, .keys, .awl, .cores, .flash, .kennel, .collar, .reader, .panel, .sd, .chip, .telemetry, .smilia, .dict, .domains, .out, .draws, .now]
  | .mulu _ _ _ _ => [.svc, .heelRetains, .rtc, .regs, .latch, .collector, .trail, .mem, .guards, .queue, .stitch, .staging, .shepherd, .pack, .south, .keys, .awl, .cores, .flash, .kennel, .collar, .reader, .panel, .sd, .chip, .telemetry, .smilia, .dict, .domains, .out, .draws, .now]
  | .madd _ _ _ _ => [.svc, .heelRetains, .rtc, .regs, .latch, .collector, .trail, .mem, .guards, .queue, .stitch, .staging, .shepherd, .pack, .south, .keys, .awl, .cores, .flash, .kennel, .collar, .reader, .panel, .sd, .chip, .telemetry, .smilia, .dict, .domains, .out, .draws, .now]
  | .maddu _ _ _ _ => [.svc, .heelRetains, .rtc, .regs, .latch, .collector, .trail, .mem, .guards, .queue, .stitch, .staging, .shepherd, .pack, .south, .keys, .awl, .cores, .flash, .kennel, .collar, .reader, .panel, .sd, .chip, .telemetry, .smilia, .dict, .domains, .out, .draws, .now]
  | .divq _ _ _ _ => [.svc, .heelRetains, .rtc, .regs, .latch, .collector, .trail, .mem, .guards, .queue, .stitch, .staging, .shepherd, .pack, .south, .keys, .awl, .cores, .flash, .kennel, .collar, .reader, .panel, .sd, .chip, .telemetry, .smilia, .dict, .domains, .out, .draws, .now]
  | .divqu _ _ _ _ => [.svc, .heelRetains, .rtc, .regs, .latch, .collector, .trail, .mem, .guards, .queue, .stitch, .staging, .shepherd, .pack, .south, .keys, .awl, .cores, .flash, .kennel, .collar, .reader, .panel, .sd, .chip, .telemetry, .smilia, .dict, .domains, .out, .draws, .now]
  | .remd _ _ _ _ => [.svc, .heelRetains, .rtc, .regs, .latch, .collector, .trail, .mem, .guards, .queue, .stitch, .staging, .shepherd, .pack, .south, .keys, .awl, .cores, .flash, .kennel, .collar, .reader, .panel, .sd, .chip, .telemetry, .smilia, .dict, .domains, .out, .draws, .now]
  | .remdu _ _ _ _ => [.svc, .heelRetains, .rtc, .regs, .latch, .collector, .trail, .mem, .guards, .queue, .stitch, .staging, .shepherd, .pack, .south, .keys, .awl, .cores, .flash, .kennel, .collar, .reader, .panel, .sd, .chip, .telemetry, .smilia, .dict, .domains, .out, .draws, .now]
  | .mrdl _ _ _ => [.svc, .heelRetains, .rtc, .regs, .latch, .collector, .trail, .mem, .guards, .queue, .stitch, .staging, .shepherd, .pack, .south, .keys, .awl, .cores, .flash, .kennel, .collar, .reader, .panel, .sd, .chip, .telemetry, .smilia, .dict, .domains, .out, .draws, .now]
  | .mrdh _ _ _ => [.svc, .heelRetains, .rtc, .regs, .latch, .collector, .trail, .mem, .guards, .queue, .stitch, .staging, .shepherd, .pack, .south, .keys, .awl, .cores, .flash, .kennel, .collar, .reader, .panel, .sd, .chip, .telemetry, .smilia, .dict, .domains, .out, .draws, .now]
  | .mwr _ _ _ _ => [.svc, .heelRetains, .rtc, .regs, .latch, .collector, .trail, .mem, .guards, .queue, .stitch, .staging, .shepherd, .pack, .south, .keys, .awl, .cores, .flash, .kennel, .collar, .reader, .panel, .sd, .chip, .telemetry, .smilia, .dict, .domains, .out, .draws, .now]
  | .multiplierComplete _ => [.cores]
  | .ldb _ _ _ _ _ => [.svc, .heelRetains, .rtc, .regs, .latch, .collector, .trail, .mem, .guards, .queue, .stitch, .staging, .shepherd, .pack, .south, .keys, .awl, .cores, .flash, .kennel, .collar, .reader, .panel, .sd, .chip, .telemetry, .smilia, .dict, .domains, .out, .draws, .now]
  | .ldbu _ _ _ _ _ => [.svc, .heelRetains, .rtc, .regs, .latch, .collector, .trail, .mem, .guards, .queue, .stitch, .staging, .shepherd, .pack, .south, .keys, .awl, .cores, .flash, .kennel, .collar, .reader, .panel, .sd, .chip, .telemetry, .smilia, .dict, .domains, .out, .draws, .now]
  | .ldh _ _ _ _ _ => [.svc, .heelRetains, .rtc, .regs, .latch, .collector, .trail, .mem, .guards, .queue, .stitch, .staging, .shepherd, .pack, .south, .keys, .awl, .cores, .flash, .kennel, .collar, .reader, .panel, .sd, .chip, .telemetry, .smilia, .dict, .domains, .out, .draws, .now]
  | .ldhu _ _ _ _ _ => [.svc, .heelRetains, .rtc, .regs, .latch, .collector, .trail, .mem, .guards, .queue, .stitch, .staging, .shepherd, .pack, .south, .keys, .awl, .cores, .flash, .kennel, .collar, .reader, .panel, .sd, .chip, .telemetry, .smilia, .dict, .domains, .out, .draws, .now]
  | .ldw _ _ _ _ _ => [.svc, .heelRetains, .rtc, .regs, .latch, .collector, .trail, .mem, .guards, .queue, .stitch, .staging, .shepherd, .pack, .south, .keys, .awl, .cores, .flash, .kennel, .collar, .reader, .panel, .sd, .chip, .telemetry, .smilia, .dict, .domains, .out, .draws, .now]
  | .ldwu _ _ _ _ _ => [.svc, .heelRetains, .rtc, .regs, .latch, .collector, .trail, .mem, .guards, .queue, .stitch, .staging, .shepherd, .pack, .south, .keys, .awl, .cores, .flash, .kennel, .collar, .reader, .panel, .sd, .chip, .telemetry, .smilia, .dict, .domains, .out, .draws, .now]
  | .ldd _ _ _ _ _ => [.svc, .heelRetains, .rtc, .regs, .latch, .collector, .trail, .mem, .guards, .queue, .stitch, .staging, .shepherd, .pack, .south, .keys, .awl, .cores, .flash, .kennel, .collar, .reader, .panel, .sd, .chip, .telemetry, .smilia, .dict, .domains, .out, .draws, .now]
  | .stb _ _ _ _ _ => [.svc, .heelRetains, .rtc, .regs, .latch, .collector, .trail, .mem, .guards, .queue, .stitch, .staging, .shepherd, .pack, .south, .keys, .awl, .cores, .flash, .kennel, .collar, .reader, .panel, .sd, .chip, .telemetry, .smilia, .dict, .domains, .out, .draws, .now]
  | .sth _ _ _ _ _ => [.svc, .heelRetains, .rtc, .regs, .latch, .collector, .trail, .mem, .guards, .queue, .stitch, .staging, .shepherd, .pack, .south, .keys, .awl, .cores, .flash, .kennel, .collar, .reader, .panel, .sd, .chip, .telemetry, .smilia, .dict, .domains, .out, .draws, .now]
  | .stw _ _ _ _ _ => [.svc, .heelRetains, .rtc, .regs, .latch, .collector, .trail, .mem, .guards, .queue, .stitch, .staging, .shepherd, .pack, .south, .keys, .awl, .cores, .flash, .kennel, .collar, .reader, .panel, .sd, .chip, .telemetry, .smilia, .dict, .domains, .out, .draws, .now]
  | .std _ _ _ _ _ => [.svc, .heelRetains, .rtc, .regs, .latch, .collector, .trail, .mem, .guards, .queue, .stitch, .staging, .shepherd, .pack, .south, .keys, .awl, .cores, .flash, .kennel, .collar, .reader, .panel, .sd, .chip, .telemetry, .smilia, .dict, .domains, .out, .draws, .now]
  | .lld _ _ _ _ => [.svc, .heelRetains, .rtc, .regs, .latch, .collector, .trail, .mem, .guards, .queue, .stitch, .staging, .shepherd, .pack, .south, .keys, .awl, .cores, .flash, .kennel, .collar, .reader, .panel, .sd, .chip, .telemetry, .smilia, .dict, .domains, .out, .draws, .now]
  | .scd _ _ _ _ _ => [.svc, .heelRetains, .rtc, .regs, .latch, .collector, .trail, .mem, .guards, .queue, .stitch, .staging, .shepherd, .pack, .south, .keys, .awl, .cores, .flash, .kennel, .collar, .reader, .panel, .sd, .chip, .telemetry, .smilia, .dict, .domains, .out, .draws, .now]
  | .swapd _ _ _ _ _ => [.svc, .heelRetains, .rtc, .regs, .latch, .collector, .trail, .mem, .guards, .queue, .stitch, .staging, .shepherd, .pack, .south, .keys, .awl, .cores, .flash, .kennel, .collar, .reader, .panel, .sd, .chip, .telemetry, .smilia, .dict, .domains, .out, .draws, .now]
  | .aaddd _ _ _ _ _ => [.svc, .heelRetains, .rtc, .regs, .latch, .collector, .trail, .mem, .guards, .queue, .stitch, .staging, .shepherd, .pack, .south, .keys, .awl, .cores, .flash, .kennel, .collar, .reader, .panel, .sd, .chip, .telemetry, .smilia, .dict, .domains, .out, .draws, .now]
  | .aandd _ _ _ _ _ => [.svc, .heelRetains, .rtc, .regs, .latch, .collector, .trail, .mem, .guards, .queue, .stitch, .staging, .shepherd, .pack, .south, .keys, .awl, .cores, .flash, .kennel, .collar, .reader, .panel, .sd, .chip, .telemetry, .smilia, .dict, .domains, .out, .draws, .now]
  | .aord _ _ _ _ _ => [.svc, .heelRetains, .rtc, .regs, .latch, .collector, .trail, .mem, .guards, .queue, .stitch, .staging, .shepherd, .pack, .south, .keys, .awl, .cores, .flash, .kennel, .collar, .reader, .panel, .sd, .chip, .telemetry, .smilia, .dict, .domains, .out, .draws, .now]
  | .casd _ _ _ _ _ => [.svc, .heelRetains, .rtc, .regs, .latch, .collector, .trail, .mem, .guards, .queue, .stitch, .staging, .shepherd, .pack, .south, .keys, .awl, .cores, .flash, .kennel, .collar, .reader, .panel, .sd, .chip, .telemetry, .smilia, .dict, .domains, .out, .draws, .now]
  | .fence _ _ => [.svc, .heelRetains, .rtc, .regs, .latch, .collector, .trail, .mem, .guards, .queue, .stitch, .staging, .shepherd, .pack, .south, .keys, .awl, .cores, .flash, .kennel, .collar, .reader, .panel, .sd, .chip, .telemetry, .smilia, .dict, .domains, .out, .draws, .now]
  | .fencei _ _ => [.svc, .heelRetains, .rtc, .regs, .latch, .collector, .trail, .mem, .guards, .queue, .stitch, .staging, .shepherd, .pack, .south, .keys, .awl, .cores, .flash, .kennel, .collar, .reader, .panel, .sd, .chip, .telemetry, .smilia, .dict, .domains, .out, .draws, .now]
  | .beq _ _ _ _ _ => [.svc, .heelRetains, .rtc, .regs, .latch, .collector, .trail, .mem, .guards, .queue, .stitch, .staging, .shepherd, .pack, .south, .keys, .awl, .cores, .flash, .kennel, .collar, .reader, .panel, .sd, .chip, .telemetry, .smilia, .dict, .domains, .out, .draws, .now]
  | .bne _ _ _ _ _ => [.svc, .heelRetains, .rtc, .regs, .latch, .collector, .trail, .mem, .guards, .queue, .stitch, .staging, .shepherd, .pack, .south, .keys, .awl, .cores, .flash, .kennel, .collar, .reader, .panel, .sd, .chip, .telemetry, .smilia, .dict, .domains, .out, .draws, .now]
  | .blt _ _ _ _ _ => [.svc, .heelRetains, .rtc, .regs, .latch, .collector, .trail, .mem, .guards, .queue, .stitch, .staging, .shepherd, .pack, .south, .keys, .awl, .cores, .flash, .kennel, .collar, .reader, .panel, .sd, .chip, .telemetry, .smilia, .dict, .domains, .out, .draws, .now]
  | .bge _ _ _ _ _ => [.svc, .heelRetains, .rtc, .regs, .latch, .collector, .trail, .mem, .guards, .queue, .stitch, .staging, .shepherd, .pack, .south, .keys, .awl, .cores, .flash, .kennel, .collar, .reader, .panel, .sd, .chip, .telemetry, .smilia, .dict, .domains, .out, .draws, .now]
  | .bltu _ _ _ _ _ => [.svc, .heelRetains, .rtc, .regs, .latch, .collector, .trail, .mem, .guards, .queue, .stitch, .staging, .shepherd, .pack, .south, .keys, .awl, .cores, .flash, .kennel, .collar, .reader, .panel, .sd, .chip, .telemetry, .smilia, .dict, .domains, .out, .draws, .now]
  | .bgeu _ _ _ _ _ => [.svc, .heelRetains, .rtc, .regs, .latch, .collector, .trail, .mem, .guards, .queue, .stitch, .staging, .shepherd, .pack, .south, .keys, .awl, .cores, .flash, .kennel, .collar, .reader, .panel, .sd, .chip, .telemetry, .smilia, .dict, .domains, .out, .draws, .now]
  | .j _ _ _ => [.svc, .heelRetains, .rtc, .regs, .latch, .collector, .trail, .mem, .guards, .queue, .stitch, .staging, .shepherd, .pack, .south, .keys, .awl, .cores, .flash, .kennel, .collar, .reader, .panel, .sd, .chip, .telemetry, .smilia, .dict, .domains, .out, .draws, .now]
  | .jal _ _ _ => [.svc, .heelRetains, .rtc, .regs, .latch, .collector, .trail, .mem, .guards, .queue, .stitch, .staging, .shepherd, .pack, .south, .keys, .awl, .cores, .flash, .kennel, .collar, .reader, .panel, .sd, .chip, .telemetry, .smilia, .dict, .domains, .out, .draws, .now]
  | .jalr _ _ _ _ _ => [.svc, .heelRetains, .rtc, .regs, .latch, .collector, .trail, .mem, .guards, .queue, .stitch, .staging, .shepherd, .pack, .south, .keys, .awl, .cores, .flash, .kennel, .collar, .reader, .panel, .sd, .chip, .telemetry, .smilia, .dict, .domains, .out, .draws, .now]
  | .bmov _ _ _ _ _ _ _ => [.svc, .heelRetains, .rtc, .regs, .latch, .collector, .trail, .mem, .guards, .queue, .stitch, .staging, .shepherd, .pack, .south, .keys, .awl, .cores, .flash, .kennel, .collar, .reader, .panel, .sd, .chip, .telemetry, .smilia, .dict, .domains, .out, .draws, .now]
  | .bfill _ _ _ _ _ _ _ => [.svc, .heelRetains, .rtc, .regs, .latch, .collector, .trail, .mem, .guards, .queue, .stitch, .staging, .shepherd, .pack, .south, .keys, .awl, .cores, .flash, .kennel, .collar, .reader, .panel, .sd, .chip, .telemetry, .smilia, .dict, .domains, .out, .draws, .now]
  | .macv _ _ _ _ _ _ _ => [.svc, .heelRetains, .rtc, .regs, .latch, .collector, .trail, .mem, .guards, .queue, .stitch, .staging, .shepherd, .pack, .south, .keys, .awl, .cores, .flash, .kennel, .collar, .reader, .panel, .sd, .chip, .telemetry, .smilia, .dict, .domains, .out, .draws, .now]
  | .sabs _ _ _ _ _ _ => [.svc, .heelRetains, .rtc, .regs, .latch, .collector, .trail, .mem, .guards, .queue, .stitch, .staging, .shepherd, .pack, .south, .keys, .awl, .cores, .flash, .kennel, .collar, .reader, .panel, .sd, .chip, .telemetry, .smilia, .dict, .domains, .out, .draws, .now]
  | .mfs _ _ _ _ => [.svc, .heelRetains, .rtc, .regs, .latch, .collector, .trail, .mem, .guards, .queue, .stitch, .staging, .shepherd, .pack, .south, .keys, .awl, .cores, .flash, .kennel, .collar, .reader, .panel, .sd, .chip, .telemetry, .smilia, .dict, .domains, .out, .draws, .now]
  | .mts _ _ _ _ => [.svc, .heelRetains, .rtc, .regs, .latch, .collector, .trail, .mem, .guards, .queue, .stitch, .staging, .shepherd, .pack, .south, .keys, .awl, .cores, .flash, .kennel, .collar, .reader, .panel, .sd, .chip, .telemetry, .smilia, .dict, .domains, .out, .draws, .now]
  | .eret _ _ => [.svc, .heelRetains, .rtc, .regs, .latch, .collector, .trail, .mem, .guards, .queue, .stitch, .staging, .shepherd, .pack, .south, .keys, .awl, .cores, .flash, .kennel, .collar, .reader, .panel, .sd, .chip, .telemetry, .smilia, .dict, .domains, .out, .draws, .now]
  | .gate _ _ _ => [.svc, .heelRetains, .rtc, .regs, .latch, .collector, .trail, .mem, .guards, .queue, .stitch, .staging, .shepherd, .pack, .south, .keys, .awl, .cores, .flash, .kennel, .collar, .reader, .panel, .sd, .chip, .telemetry, .smilia, .dict, .domains, .out, .draws, .now]
  | .gateReturn _ _ => [.svc, .heelRetains, .rtc, .regs, .latch, .collector, .trail, .mem, .guards, .queue, .stitch, .staging, .shepherd, .pack, .south, .keys, .awl, .cores, .flash, .kennel, .collar, .reader, .panel, .sd, .chip, .telemetry, .smilia, .dict, .domains, .out, .draws, .now]
  | .trap _ _ _ => [.svc, .heelRetains, .rtc, .regs, .latch, .collector, .trail, .mem, .guards, .queue, .stitch, .staging, .shepherd, .pack, .south, .keys, .awl, .cores, .flash, .kennel, .collar, .reader, .panel, .sd, .chip, .telemetry, .smilia, .dict, .domains, .out, .draws, .now]
  | .brk _ _ => [.svc, .heelRetains, .rtc, .regs, .latch, .collector, .trail, .mem, .guards, .queue, .stitch, .staging, .shepherd, .pack, .south, .keys, .awl, .cores, .flash, .kennel, .collar, .reader, .panel, .sd, .chip, .telemetry, .smilia, .dict, .domains, .out, .draws, .now]
  | .wait _ _ => [.svc, .heelRetains, .rtc, .regs, .latch, .collector, .trail, .mem, .guards, .queue, .stitch, .staging, .shepherd, .pack, .south, .keys, .awl, .cores, .flash, .kennel, .collar, .reader, .panel, .sd, .chip, .telemetry, .smilia, .dict, .domains, .out, .draws, .now]
  | .tlbinvPage _ _ _ => [.svc, .heelRetains, .rtc, .regs, .latch, .collector, .trail, .mem, .guards, .queue, .stitch, .staging, .shepherd, .pack, .south, .keys, .awl, .cores, .flash, .kennel, .collar, .reader, .panel, .sd, .chip, .telemetry, .smilia, .dict, .domains, .out, .draws, .now]
  | .tlbinvAsid _ _ _ => [.svc, .heelRetains, .rtc, .regs, .latch, .collector, .trail, .mem, .guards, .queue, .stitch, .staging, .shepherd, .pack, .south, .keys, .awl, .cores, .flash, .kennel, .collar, .reader, .panel, .sd, .chip, .telemetry, .smilia, .dict, .domains, .out, .draws, .now]
  | .tlbinvWorld _ _ => [.svc, .heelRetains, .rtc, .regs, .latch, .collector, .trail, .mem, .guards, .queue, .stitch, .staging, .shepherd, .pack, .south, .keys, .awl, .cores, .flash, .kennel, .collar, .reader, .panel, .sd, .chip, .telemetry, .smilia, .dict, .domains, .out, .draws, .now]
  | .cflush _ _ _ => [.svc, .heelRetains, .rtc, .regs, .latch, .collector, .trail, .mem, .guards, .queue, .stitch, .staging, .shepherd, .pack, .south, .keys, .awl, .cores, .flash, .kennel, .collar, .reader, .panel, .sd, .chip, .telemetry, .smilia, .dict, .domains, .out, .draws, .now]
  | .di _ _ _ => [.svc, .heelRetains, .rtc, .regs, .latch, .collector, .trail, .mem, .guards, .queue, .stitch, .staging, .shepherd, .pack, .south, .keys, .awl, .cores, .flash, .kennel, .collar, .reader, .panel, .sd, .chip, .telemetry, .smilia, .dict, .domains, .out, .draws, .now]
  | .ei _ _ => [.svc, .heelRetains, .rtc, .regs, .latch, .collector, .trail, .mem, .guards, .queue, .stitch, .staging, .shepherd, .pack, .south, .keys, .awl, .cores, .flash, .kennel, .collar, .reader, .panel, .sd, .chip, .telemetry, .smilia, .dict, .domains, .out, .draws, .now]
  | .illegalInstruction _ _ => [.svc, .heelRetains, .rtc, .regs, .latch, .collector, .trail, .mem, .guards, .queue, .stitch, .staging, .shepherd, .pack, .south, .keys, .awl, .cores, .flash, .kennel, .collar, .reader, .panel, .sd, .chip, .telemetry, .smilia, .dict, .domains, .out, .draws, .now]
  | .interruptEntry _ _ => [.svc, .heelRetains, .rtc, .regs, .latch, .collector, .trail, .mem, .guards, .queue, .stitch, .staging, .shepherd, .pack, .south, .keys, .awl, .cores, .flash, .kennel, .collar, .reader, .panel, .sd, .chip, .telemetry, .smilia, .dict, .domains, .out, .draws, .now]
  | .timerInterrupt _ _ => [.cores]
  | .lockstepMismatch _ _ => [.regs, .collector, .trail, .queue, .stitch, .staging, .pack, .south, .keys, .awl, .cores]
  | .icClaim _ _ => [.regs, .cores, .out]
  | .icEoi _ _ _ => [.cores]
  | .icSwi _ _ => [.regs]
  | .coreImHeld _ _ => [.regs, .collector, .trail, .queue, .stitch, .staging, .pack, .south, .keys, .awl, .cores]
  | .coreQrel _ _ => [.regs, .cores]
  | .sramScrub _ _ _ _ _ _ => [.regs, .collector, .trail, .mem, .guards, .queue, .stitch, .staging, .shepherd, .pack, .south, .keys, .awl, .cores, .out]
  | .trackerWindowEnd _ _ => [.rtc, .guards, .kennel, .now]
  | .splitWrite _ _ _ => [.regs, .collector, .trail, .mem, .guards, .queue, .stitch, .staging, .pack, .south, .keys, .awl, .cores]
  | .eccTestEnable _ _ _ _ => [.regs]
  | .eccInj _ _ _ _ => [.regs]
  | .readActive _ _ _ _ _ => [.regs, .collector, .trail, .guards, .queue, .stitch, .staging, .pack, .south, .keys, .awl, .cores]
  | .readShadow _ _ _ _ _ => [.regs, .collector, .trail, .guards, .queue, .stitch, .staging, .pack, .south, .keys, .awl, .cores]
  | .writeShadow _ _ _ _ _ => [.regs, .collector, .trail, .guards, .queue, .stitch, .staging, .pack, .south, .keys, .awl, .cores]
  | .atCommit _ _ _ => [.regs, .collector, .trail, .guards, .queue, .stitch, .staging, .pack, .south, .keys, .awl, .cores]
  | .atDone => [.regs]
  | .atVpop _ _ _ => [.regs, .collector, .trail, .guards, .queue, .stitch, .staging, .pack, .south, .keys, .awl, .cores]
  | .flsRead _ _ _ => [.regs, .collector, .trail, .mem, .guards, .queue, .stitch, .staging, .pack, .south, .keys, .awl, .cores, .flash]
  | .flsWrite _ _ => [.regs, .collector, .trail, .mem, .guards, .queue, .stitch, .staging, .shepherd, .pack, .south, .keys, .awl, .cores, .flash, .out]
  | .trim _ => [.regs, .flash]
  | .flush _ => [.regs]
  | .pread _ _ => [.regs, .collector, .trail, .mem, .guards, .queue, .stitch, .staging, .pack, .south, .keys, .awl, .cores, .flash]
  | .mread _ _ => [.regs, .flash]
  | .blank _ _ => [.regs, .draws]
  | .flsErase _ _ => [.regs, .collector, .trail, .flash]
  | .pin _ => [.regs, .flash]
  | .unpin _ => [.regs, .flash]
  | .ptrSet _ _ => [.regs, .flash]
  | .ptrConfirm _ => [.regs, .flash]
  | .windowMiss _ _ _ => [.regs, .collector, .trail, .queue, .stitch, .staging, .pack, .south, .keys, .awl, .cores, .flash]
  | .flsLunLost _ => [.regs, .collector, .trail, .queue, .stitch, .staging, .pack, .south, .keys, .awl, .cores]
  | .powerGoodBoot _ => [.svc, .heelRetains, .rtc, .regs, .collector, .trail, .mem, .guards, .queue, .stitch, .staging, .shepherd, .pack, .south, .keys, .awl, .cores, .flash, .kennel, .reader, .chip, .smilia, .draws, .now]
  | .faultDetection _ _ _ => [.regs, .collector, .trail, .mem, .queue, .stitch, .staging, .shepherd, .pack, .south, .keys, .awl, .cores, .out]
  | .consequenceWindowClose _ _ => [.rtc, .collector, .kennel, .now]
  | .faultNPulseEnd => [.rtc, .regs, .collector, .kennel, .now]
  | .fcuHoldWrite _ => [.regs]
  | .fcuInjPseudo _ _ _ => [.regs, .collector, .trail, .mem, .queue, .stitch, .staging, .shepherd, .pack, .south, .keys, .awl, .cores, .out]
  | .fcuInjCheck _ _ _ => [.regs, .collector, .trail, .mem, .queue, .stitch, .staging, .shepherd, .pack, .south, .keys, .awl, .cores, .out]
  | .fcuClr _ => [.collector]
  | .fcuSrcCfgWrite _ _ _ _ => [.collector]
  | .vddIo33Loss _ => [.regs, .collector, .trail, .mem, .queue, .stitch, .staging, .shepherd, .pack, .south, .keys, .awl, .cores, .kennel, .smilia, .out]
  | .vddIo33Return => [.regs]
  | .cellRemoved _ => [.regs, .collector, .trail, .mem, .queue, .stitch, .staging, .shepherd, .pack, .south, .keys, .awl, .cores, .kennel, .smilia, .out]
  | .cellEnd _ => [.regs, .collector, .trail, .mem, .queue, .stitch, .staging, .shepherd, .pack, .south, .keys, .awl, .cores, .kennel, .smilia, .out]
  | .cellLow _ => [.regs, .collector, .trail, .mem, .queue, .stitch, .staging, .shepherd, .pack, .south, .keys, .awl, .cores, .kennel, .smilia, .out]
  | .cellInserted _ => [.regs, .collector, .trail, .mem, .queue, .stitch, .staging, .shepherd, .pack, .south, .keys, .awl, .cores, .kennel, .smilia, .out]
  | .kennelDead => [.keys, .kennel]
  | .kennelPor _ _ => [.rtc, .regs, .collector, .trail, .mem, .queue, .stitch, .staging, .shepherd, .pack, .south, .keys, .awl, .cores, .kennel, .smilia, .out]
  | .tempLow _ => [.regs, .collector, .trail, .mem, .queue, .stitch, .staging, .shepherd, .pack, .south, .keys, .awl, .cores, .kennel, .smilia, .out]
  | .tempHigh _ => [.regs, .collector, .trail, .mem, .queue, .stitch, .staging, .shepherd, .pack, .south, .keys, .awl, .cores, .kennel, .smilia, .out]
  | .volt _ => [.regs, .collector, .trail, .mem, .queue, .stitch, .staging, .shepherd, .pack, .south, .keys, .awl, .cores, .kennel, .smilia, .out]
  | .glitch _ => [.regs, .collector, .trail, .mem, .queue, .stitch, .staging, .shepherd, .pack, .south, .keys, .awl, .cores, .kennel, .smilia, .out]
  | .clock _ _ => [.regs, .collector, .trail, .mem, .queue, .stitch, .staging, .shepherd, .pack, .south, .keys, .awl, .cores, .kennel, .smilia, .out]
  | .mesh _ => [.regs, .collector, .trail, .mem, .queue, .stitch, .staging, .shepherd, .pack, .south, .keys, .awl, .cores, .kennel, .smilia, .out]
  | .lid _ => [.regs, .collector, .trail, .mem, .queue, .stitch, .staging, .shepherd, .pack, .south, .keys, .awl, .cores, .kennel, .smilia, .out]
  | .loop0 _ => [.regs, .collector, .trail, .mem, .queue, .stitch, .staging, .shepherd, .pack, .south, .keys, .awl, .cores, .kennel, .smilia, .out]
  | .loop1 _ => [.regs, .collector, .trail, .mem, .queue, .stitch, .staging, .shepherd, .pack, .south, .keys, .awl, .cores, .kennel, .smilia, .out]
  | .monitorRearm _ => [.regs]
  | .unlock _ => [.regs, .collector, .trail, .mem, .queue, .stitch, .staging, .shepherd, .pack, .south, .keys, .awl, .cores, .flash, .panel, .out]
  | .clrLatch _ => [.regs, .panel]
  | .clrPor _ => [.regs]
  | .evqPop _ => [.regs, .kennel]
  | .knlRtcSet _ _ => [.rtc, .regs, .kennel]
  | .knlTempWrite _ _ _ => [.regs]
  | .knlMonWrite _ _ _ _ => [.regs]
  | .knlTrimWrite _ _ => [.regs]
  | .kennelCollarWrite _ _ => [.regs, .collector, .trail, .queue, .stitch, .staging, .pack, .south, .keys, .awl, .cores, .kennel, .collar]
  | .sensorLogInterval _ _ _ => [.rtc, .regs, .collector, .trail, .queue, .stitch, .staging, .pack, .south, .keys, .awl, .cores, .kennel, .collar, .now]
  | .detectionPing _ _ _ => [.rtc, .regs, .collector, .trail, .queue, .stitch, .staging, .shepherd, .pack, .south, .keys, .awl, .cores, .kennel, .collar, .reader, .out, .draws, .now]
  | .pendingCheckinExpiry => [.rtc, .shepherd, .kennel, .now]
  | .tapIdleTimeout => [.rtc, .regs, .kennel, .reader, .now]
  | .externalField => [.reader]
  | .extFieldGone => [.reader]
  | .poll _ _ => [.regs, .collector, .trail, .queue, .stitch, .staging, .shepherd, .pack, .south, .keys, .awl, .cores, .collar, .reader, .out, .draws]
  | .exchange _ _ => [.regs, .collector, .trail, .mem, .guards, .queue, .stitch, .staging, .pack, .south, .keys, .awl, .cores, .reader, .out]
  | .deselect _ => [.regs, .reader]
  | .fieldOff _ => [.regs, .reader]
  | .nextCard _ _ => [.regs, .collector, .trail, .queue, .stitch, .staging, .shepherd, .pack, .south, .keys, .awl, .cores, .collar, .reader, .out, .draws]
  | .collarPowerUp _ _ => [.regs, .collector, .trail, .queue, .stitch, .staging, .pack, .south, .keys, .awl, .cores, .collar, .draws]
  | .collarActivation => [.regs, .collar, .out]
  | .collarSelect _ => [.collar, .out]
  | .collarRead _ _ => [.collar, .out]
  | .getState => [.collar, .out]
  | .verify _ _ _ _ => [.regs, .collector, .trail, .queue, .stitch, .staging, .pack, .south, .keys, .awl, .cores, .collar, .out]
  | .appendNote _ _ _ => [.regs, .collector, .trail, .queue, .stitch, .staging, .pack, .south, .keys, .awl, .cores, .collar, .out]
  | .changePw _ _ _ => [.regs, .collector, .trail, .queue, .stitch, .staging, .pack, .south, .keys, .awl, .cores, .collar, .out]
  | .resetTries _ _ => [.collar, .out]
  | .collarSessionEnd _ _ => [.rtc, .regs, .collector, .trail, .queue, .stitch, .staging, .pack, .south, .keys, .awl, .cores, .kennel, .collar, .now]
  | .colRead _ => [.regs, .collar]
  | .colAppend _ _ => [.regs, .collector, .trail, .queue, .stitch, .staging, .pack, .south, .keys, .awl, .cores, .collar]
  | .setPw _ _ => [.regs, .collector, .trail, .queue, .stitch, .staging, .pack, .south, .keys, .awl, .cores, .collar]
  | .unblock _ _ => [.regs, .collar]
  | .setPolicy _ => [.regs, .collar]
  | .presencePress => [.rtc, .regs, .trail, .kennel, .panel, .now]
  | .servicePress _ => [.rtc, .regs, .collector, .trail, .kennel, .panel, .now]
  | .buttonRelease _ _ => [.rtc, .regs, .collector, .kennel, .panel, .now]
  | .longPress => [.rtc, .regs, .trail, .kennel, .panel, .sd, .now]
  | .pnlStuck _ => [.rtc, .regs, .collector, .trail, .queue, .stitch, .staging, .pack, .south, .keys, .awl, .cores, .kennel, .panel, .now]
  | .initCard _ _ => [.rtc, .regs, .collector, .trail, .queue, .stitch, .staging, .pack, .south, .keys, .awl, .cores, .kennel, .sd, .now]
  | .scRead _ _ _ => [.rtc, .regs, .collector, .trail, .mem, .guards, .queue, .stitch, .staging, .pack, .south, .keys, .awl, .cores, .kennel, .sd, .out, .now]
  | .scWrite _ _ => [.rtc, .regs, .collector, .trail, .guards, .queue, .stitch, .staging, .pack, .south, .keys, .awl, .cores, .kennel, .sd, .out, .now]
  | .scErase _ _ => [.rtc, .regs, .kennel, .sd, .out, .now]
  | .scUnlock _ _ => [.regs, .collector, .trail, .guards, .queue, .stitch, .staging, .pack, .south, .keys, .awl, .cores, .sd, .out]
  | .setPwd _ _ => [.rtc, .regs, .collector, .trail, .guards, .queue, .stitch, .staging, .pack, .south, .keys, .awl, .cores, .kennel, .sd, .out, .now]
  | .clrPwd _ _ => [.rtc, .regs, .collector, .trail, .guards, .queue, .stitch, .staging, .pack, .south, .keys, .awl, .cores, .kennel, .sd, .out, .now]
  | .forceErase _ _ => [.regs, .panel, .sd, .out]
  | .sleep _ => [.rtc, .regs, .kennel, .sd, .now]
  | .eject _ => [.regs, .sd]
  | .walk _ _ _ => [.rtc, .regs, .kennel, .sd, .now]
  | .autoSleep => [.rtc, .regs, .kennel, .now]
  | .scBusyTimeout => [.rtc, .regs, .collector, .trail, .queue, .stitch, .staging, .pack, .south, .keys, .awl, .cores, .kennel, .sd, .now]
  | .cardRemoval _ => [.regs, .collector, .trail, .queue, .stitch, .staging, .pack, .south, .keys, .awl, .cores, .sd]
  | .cardInsertion _ => [.rtc, .regs, .collector, .trail, .queue, .stitch, .staging, .pack, .south, .keys, .awl, .cores, .kennel, .sd, .now]
  | .scPwrFault => [.regs, .collector, .trail, .queue, .stitch, .staging, .pack, .south, .keys, .awl, .cores, .sd]
  | .hello _ => [.regs, .collector, .trail, .queue, .stitch, .staging, .pack, .south, .keys, .awl, .cores, .smilia, .out, .draws]
  | .smlAuth _ => [.regs, .collector, .trail, .queue, .stitch, .staging, .pack, .south, .keys, .awl, .cores, .smilia, .out]
  | .smlKeyUpdate _ => [.regs, .smilia, .out]
  | .smlClose _ => [.regs, .smilia, .out]
  | .smlKeepalive _ => [.regs, .smilia, .out]
  | .smlReset _ => [.regs, .smilia, .out]
  | .smlIdleTimeout _ => [.rtc, .kennel, .smilia, .now]
  | .smlRelease _ => [.rtc, .kennel, .smilia, .now]
  | .smlRead _ => [.regs, .collector, .trail, .queue, .stitch, .staging, .pack, .south, .keys, .awl, .cores, .smilia, .out]
  | .smlWrite _ _ => [.rtc, .regs, .collector, .trail, .mem, .guards, .queue, .stitch, .staging, .shepherd, .pack, .south, .keys, .awl, .cores, .flash, .kennel, .panel, .chip, .smilia, .dict, .domains, .out, .draws, .now]
  | .segRead _ => [.regs, .smilia, .out]
  | .segBegin _ => [.regs, .smilia, .out]
  | .segWrite _ => [.regs, .smilia, .out]
  | .segEnd _ _ => [.regs, .collector, .trail, .mem, .guards, .queue, .stitch, .staging, .shepherd, .pack, .south, .keys, .awl, .cores, .panel, .chip, .smilia, .dict, .domains, .out, .draws]
  | .segAbort _ => [.regs, .smilia, .out]
  | .handleExpiry _ _ _ => [.rtc, .kennel, .smilia, .now]
  | .subscribe _ => [.regs, .smilia, .out]
  | .unsubscribe _ => [.regs, .smilia, .out]
  | .notifyIntervalEnd _ _ => [.rtc, .kennel, .smilia, .out, .now]
  | .notifyAck _ => [.regs, .smilia, .out]
  | .notifyResend _ _ => [.rtc, .kennel, .smilia, .out, .now]
  | .reassemblyTimeout _ _ _ => [.rtc, .kennel, .smilia, .now]
  | .addressChangeEffect => [.rtc, .regs, .kennel, .smilia, .now]
  | .oldAddressExpiry => [.rtc, .kennel, .smilia, .now]
  | .vendorWindowTick => [.rtc, .kennel, .smilia, .dict, .out, .now]
  | .restoreDefaults _ _ _ => [.rtc, .regs, .collector, .trail, .mem, .guards, .queue, .stitch, .staging, .shepherd, .pack, .south, .keys, .awl, .cores, .flash, .kennel, .panel, .chip, .smilia, .dict, .domains, .out, .draws, .now]
  | .enroll _ _ _ => [.rtc, .regs, .collector, .trail, .mem, .guards, .queue, .stitch, .staging, .shepherd, .pack, .south, .keys, .awl, .cores, .flash, .kennel, .panel, .chip, .smilia, .dict, .domains, .out, .draws, .now]
  | .escrowCreate _ _ _ _ => [.rtc, .regs, .collector, .trail, .mem, .guards, .queue, .stitch, .staging, .shepherd, .pack, .south, .keys, .awl, .cores, .flash, .kennel, .panel, .chip, .smilia, .dict, .domains, .out, .draws, .now]
  | .vaultRotate _ _ _ _ => [.rtc, .regs, .collector, .trail, .mem, .guards, .queue, .stitch, .staging, .shepherd, .pack, .south, .keys, .awl, .cores, .flash, .kennel, .panel, .chip, .smilia, .dict, .domains, .out, .draws, .now]
  | .vaultRestore _ _ _ => [.rtc, .regs, .collector, .trail, .mem, .guards, .queue, .stitch, .staging, .shepherd, .pack, .south, .keys, .awl, .cores, .flash, .kennel, .panel, .chip, .smilia, .dict, .domains, .out, .draws, .now]
  | .nsCreate _ _ _ => [.rtc, .regs, .collector, .trail, .mem, .guards, .queue, .stitch, .staging, .shepherd, .pack, .south, .keys, .awl, .cores, .flash, .kennel, .panel, .chip, .smilia, .dict, .domains, .out, .draws, .now]
  | .nsRotate _ _ _ => [.rtc, .regs, .collector, .trail, .mem, .guards, .queue, .stitch, .staging, .shepherd, .pack, .south, .keys, .awl, .cores, .flash, .kennel, .panel, .chip, .smilia, .dict, .domains, .out, .draws, .now]
  | .nsDestroy _ _ _ => [.rtc, .regs, .collector, .trail, .mem, .guards, .queue, .stitch, .staging, .shepherd, .pack, .south, .keys, .awl, .cores, .flash, .kennel, .panel, .chip, .smilia, .dict, .domains, .out, .draws, .now]
  | .manifestKeyChange _ _ _ => [.rtc, .regs, .collector, .trail, .mem, .guards, .queue, .stitch, .staging, .shepherd, .pack, .south, .keys, .awl, .cores, .flash, .kennel, .panel, .chip, .smilia, .dict, .domains, .out, .draws, .now]
  | .ownerRelease _ _ _ => [.rtc, .regs, .collector, .trail, .mem, .guards, .queue, .stitch, .staging, .shepherd, .pack, .south, .keys, .awl, .cores, .flash, .kennel, .panel, .chip, .smilia, .dict, .domains, .out, .draws, .now]
  | .attest _ _ _ => [.rtc, .regs, .collector, .trail, .mem, .guards, .queue, .stitch, .staging, .shepherd, .pack, .south, .keys, .awl, .cores, .flash, .kennel, .panel, .chip, .smilia, .dict, .domains, .out, .draws, .now]
  | .srcClear _ _ _ => [.rtc, .regs, .collector, .trail, .mem, .guards, .queue, .stitch, .staging, .shepherd, .pack, .south, .keys, .awl, .cores, .flash, .kennel, .panel, .chip, .smilia, .dict, .domains, .out, .draws, .now]
  | .knlUnlock _ _ _ => [.rtc, .regs, .collector, .trail, .mem, .guards, .queue, .stitch, .staging, .shepherd, .pack, .south, .keys, .awl, .cores, .flash, .kennel, .panel, .chip, .smilia, .dict, .domains, .out, .draws, .now]
  | .knlClrLatch _ _ _ => [.rtc, .regs, .collector, .trail, .mem, .guards, .queue, .stitch, .staging, .shepherd, .pack, .south, .keys, .awl, .cores, .flash, .kennel, .panel, .chip, .smilia, .dict, .domains, .out, .draws, .now]
  | .bundleExport _ _ _ => [.rtc, .regs, .collector, .trail, .mem, .guards, .queue, .stitch, .staging, .shepherd, .pack, .south, .keys, .awl, .cores, .flash, .kennel, .panel, .chip, .smilia, .dict, .domains, .out, .draws, .now]
  | .bundleImport _ _ _ => [.rtc, .regs, .collector, .trail, .mem, .guards, .queue, .stitch, .staging, .shepherd, .pack, .south, .keys, .awl, .cores, .flash, .kennel, .panel, .chip, .smilia, .dict, .domains, .out, .draws, .now]
  | .selftest _ _ _ => [.rtc, .regs, .collector, .trail, .mem, .guards, .queue, .stitch, .staging, .shepherd, .pack, .south, .keys, .awl, .cores, .flash, .kennel, .panel, .chip, .smilia, .dict, .domains, .out, .draws, .now]
  | .fcuInject _ _ _ _ => [.rtc, .regs, .collector, .trail, .mem, .guards, .queue, .stitch, .staging, .shepherd, .pack, .south, .keys, .awl, .cores, .flash, .kennel, .panel, .chip, .smilia, .dict, .domains, .out, .draws, .now]
  | .eccInject _ _ _ => [.rtc, .regs, .collector, .trail, .mem, .guards, .queue, .stitch, .staging, .shepherd, .pack, .south, .keys, .awl, .cores, .flash, .kennel, .panel, .chip, .smilia, .dict, .domains, .out, .draws, .now]
  | .mgtMdio _ _ _ _ _ => [.rtc, .regs, .collector, .trail, .queue, .stitch, .staging, .pack, .south, .keys, .awl, .cores, .kennel, .out, .now]
  | .mgtLinkDown _ => [.regs, .collector, .trail, .queue, .stitch, .staging, .pack, .south, .keys, .awl, .cores]
  | .trailRecordAccept => [.regs, .collector, .trail, .mem, .guards, .queue, .stitch, .staging, .pack, .south, .keys, .awl, .cores]
  | .subInterrupt _ => [.rtc, .regs, .trail, .kennel, .now]
  | .trailJournalCommit _ => [.rtc, .regs, .collector, .trail, .queue, .stitch, .staging, .pack, .south, .keys, .awl, .cores, .kennel, .now]
  | .trlWr _ _ _ _ _ => [.regs, .trail]
  | .telemetrySample _ => [.rtc, .regs, .collector, .trail, .queue, .stitch, .staging, .pack, .south, .keys, .awl, .cores, .kennel, .telemetry, .now]
  | .dramPatrolScrub _ _ _ => [.regs, .collector, .trail, .mem, .guards, .queue, .stitch, .staging, .shepherd, .pack, .south, .keys, .awl, .cores, .out]
  | .readDisturbRefresh _ _ _ => [.regs, .collector, .trail, .queue, .stitch, .staging, .pack, .south, .keys, .awl, .cores, .flash, .telemetry]
  | .flashReadScrub _ _ _ => [.rtc, .regs, .collector, .trail, .queue, .stitch, .staging, .pack, .south, .keys, .awl, .cores, .flash, .kennel, .telemetry, .now]
  | .wearLevelling _ _ _ => [.regs, .collector, .trail, .queue, .stitch, .staging, .pack, .south, .keys, .awl, .cores, .flash]
  | .ddrPeriodicCalibration _ => [.rtc, .kennel, .now]
  | .ddrRetraining _ => [.regs, .staging, .telemetry, .draws]
  | .sensorCalibration _ _ => [.regs, .collector, .trail, .queue, .stitch, .staging, .pack, .south, .keys, .awl, .cores, .telemetry]
  | .kennelOscillatorTrim _ _ => [.regs, .telemetry]
  | .brnOverrun _ => [.regs, .collector, .trail, .queue, .stitch, .staging, .pack, .south, .keys, .awl, .cores]
  | .refclkLoss => [.svc, .heelRetains, .regs, .latch, .collector, .trail, .mem, .guards, .queue, .stitch, .staging, .shepherd, .pack, .south, .keys, .awl, .cores, .flash, .reader, .panel, .sd, .chip, .telemetry, .smilia, .dict, .domains]
  | .pllUnlock => [.svc, .heelRetains, .regs, .latch, .collector, .trail, .mem, .guards, .queue, .stitch, .staging, .shepherd, .pack, .south, .keys, .awl, .cores, .flash, .reader, .panel, .sd, .chip, .telemetry, .smilia, .dict, .domains]
  | .refclkRestore => [.rtc, .kennel, .chip, .now]
  | .laneRefLoss _ => [.regs, .collector, .trail, .queue, .stitch, .staging, .pack, .south, .keys, .awl, .cores, .out]
  | .nfcXtalLoss => [.regs, .collector, .trail, .queue, .stitch, .staging, .pack, .south, .keys, .awl, .cores, .reader]
  | .pwrOkFall _ => [.svc, .heelRetains, .regs, .latch, .collector, .trail, .mem, .guards, .queue, .stitch, .staging, .shepherd, .pack, .south, .keys, .awl, .cores, .flash, .reader, .panel, .sd, .chip, .telemetry, .smilia, .dict, .domains]
  | .pwrOkRise => [.svc, .heelRetains, .regs, .latch, .collector, .trail, .mem, .guards, .queue, .stitch, .staging, .shepherd, .pack, .south, .keys, .awl, .cores, .flash, .reader, .panel, .sd, .chip, .telemetry, .smilia, .dict, .domains]
  | .sysrst => [.svc, .heelRetains, .rtc, .regs, .latch, .collector, .trail, .mem, .guards, .queue, .stitch, .staging, .shepherd, .pack, .south, .keys, .awl, .cores, .flash, .kennel, .reader, .panel, .sd, .chip, .telemetry, .smilia, .dict, .domains, .now]
  | .rstMain _ => [.svc, .heelRetains, .rtc, .regs, .latch, .collector, .trail, .mem, .guards, .queue, .stitch, .staging, .shepherd, .pack, .south, .keys, .awl, .cores, .flash, .kennel, .reader, .panel, .sd, .chip, .telemetry, .smilia, .dict, .domains, .now]
  | .rstPair _ _ _ => [.regs, .cores]
  | .watchdogExpiry => [.svc, .heelRetains, .rtc, .regs, .latch, .collector, .trail, .mem, .guards, .queue, .stitch, .staging, .shepherd, .pack, .south, .keys, .awl, .cores, .flash, .kennel, .reader, .panel, .sd, .chip, .telemetry, .smilia, .dict, .domains, .now]
  | .wdtKick _ _ => [.chip]
  | .wdtEnable _ => [.regs, .chip]
  | .sealEnter _ _ _ => [.svc, .heelRetains, .rtc, .regs, .collector, .trail, .mem, .guards, .queue, .stitch, .staging, .shepherd, .pack, .south, .keys, .awl, .cores, .flash, .kennel, .chip, .telemetry, .out, .now]
  | .shutdown _ _ => [.svc, .heelRetains, .regs, .trail, .queue, .stitch, .staging, .shepherd, .south, .chip]
  | .shutdownTimeout => [.rtc, .regs, .kennel, .chip, .now]
  | .pwrAvs _ _ => [.regs]
  | .avsStep _ => [.rtc, .regs, .kennel, .chip, .out, .now]
  | .stCmd _ _ _ => [.regs, .stitch, .shepherd, .pack, .awl, .cores, .chip]
  | .stDone => [.regs, .chip, .smilia]
  | .debugAuth _ => [.regs, .collector, .trail, .mem, .queue, .stitch, .staging, .shepherd, .pack, .south, .keys, .awl, .cores, .panel, .chip, .out, .draws]
  | .debugExpiry => [.rtc, .regs, .kennel, .chip, .now]
  | .dbgNonce => [.chip, .out]
  | .dbgAccess _ _ _ _ => [.svc, .heelRetains, .rtc, .regs, .latch, .collector, .trail, .mem, .guards, .queue, .stitch, .staging, .shepherd, .pack, .south, .keys, .awl, .cores, .flash, .kennel, .collar, .reader, .panel, .sd, .chip, .telemetry, .smilia, .dict, .domains, .out, .draws, .now]
  | .bypass => [.chip, .out]
  | .idcode => [.chip, .out]
  | .samplePreload _ _ => [.chip, .out]
  | .extest _ _ => [.chip, .out]
  | .clamp => [.chip, .out]
  | .highz => [.chip, .out]
  | .testReset => [.chip]
  | .registerWrite _ _ _ _ => [.regs, .latch, .collector, .trail, .queue, .stitch, .staging, .pack, .south, .keys, .awl, .cores]
  | .holdupOk => [.regs]
  | .mgtLinkUp _ _ => [.regs, .collector]
  | .arpNdEchoRequest _ _ _ => [.regs, .out]
  | .smlAuthWaitTimeout _ => [.rtc, .kennel, .smilia, .now]
  | .corePairSelftestDone _ _ _ => [.regs, .collector, .trail, .queue, .stitch, .staging, .shepherd, .pack, .south, .keys, .awl, .cores, .chip]
  | .laneRefReturn _ => [.regs]
  | .nfcXtalReturn => [.regs, .collector, .reader]

end Sys2Proof.Machine
end

