-- ==== Sys2Proof/Certificates/Slice0/Obligations.lean ====
section
/-!
DEFINITION. The statements for the provers. A command's completion statement gives, under hypotheses on the state and the operands alone, the next state
that exec answers; commands of one shape stand in one statement.
-/

open Sys2Proof Sys2Proof.Machine

/-- A step executes the command at the front of the queue on the state with the queue's rest. For every state whose queue of waiting commands begins with
c, one step answers what exec answers for c on the state in which c has left the queue. Rests on 01_architecture.md. -/
def Obligations.StepRunsTheCommandInFront : Prop :=
  ∀ (c : Instr) (rest : List Instr) (s : State), s.pending = c :: rest → step s = exec c { s with pending := rest }

/-- On an empty queue a step only looks for changes to notify; without the management port it changes nothing. With no command waiting a step scans the
subscriptions and nothing else; where the management port does not serve it leaves the state as it is. That a step on an empty queue does this is the
model's choice (log entry 29). Rests on 18_smilia_object_dictionary.md. -/
def Obligations.EmptyQueueOnlyNotifies : Prop :=
  ∀ s : State, s.pending = [] → step s = .next (s.scan 0) ∧ (s.mgmtServes = false → step s = .next s)

/-- The state after reset is in canonical form, cold and empty, with every pair in Keeper world, supervisor and masked. State.reset has the canonical form
that every step keeps; nothing waits, nothing has been sent, memory lists nothing (log entry 8), the chip has not booted, no reservation, claim or
session exists, the device is unenrolled, and every pair is in Keeper world at supervisor level with IM set and empty queues. Rests on
20_clocks_power_reset.md, 11_worlds_and_exceptions.md. -/
def Obligations.ResetLeavesTheColdBlock : Prop :=
  State.reset.tidy = true ∧ State.reset.pending = [] ∧ State.reset.out = [] ∧ State.reset.mem.cells = [] ∧ State.reset.chip.booted = false ∧
  State.reset.cores.reserved = [] ∧ State.reset.cores.claims = [] ∧ State.reset.queue.sessions = [] ∧ State.reset.keys.enrolled = false ∧
  (∀ p : PairId, (State.reset.core p).sup = true ∧ (State.reset.core p).im = true ∧ (State.reset.core p).world = .keeper ∧ (State.reset.core p).frames = [] ∧ (State.reset.core p).mul = [])

/-- Every step, from every state in canonical form, answers a state in canonical form. Canonical form: memory's cells have strictly rising addresses and
list no byte equal to what an unlisted byte reads as, its check bits have rising addresses, and the tables of register fields, latches, dictionary
values and DOMAIN contents have rising keys, each once. Equal contents are then equal data. Rests on 12_memory_ecc_access.md. -/
def Obligations.EveryStepKeepsTheCanonicalForm : Prop :=
  StepKeeps (fun s => s.tidy = true)

/-- Every command leaves every part of the state as it was except those listed for it. For every command and every state: a next state agrees with the
state before it on the queue and on every part that the command's list does not name, and a command whose list does not name memory leaves what every
read of memory returns unchanged. The lists are the frame of each command by parts. Rests on 01_architecture.md, 02_seal_transport.md,
08_keys_and_custodians.md, 10_muaraba_isa.md, 14_fault_collector.md, 18_smilia_object_dictionary.md. -/
def Obligations.CommandsTouchOnlyTheirParts : Prop :=
  ∀ (c : Instr) (s t : State), exec c s = .next t → s.agreeBut (touched c) t ∧ (Part.mem ∉ touched c → ∀ a n : Nat, t.readMem a n = s.readMem a n)

/-- A step takes exactly the front command from the queue, and never turns back the clock, the free-value counter or what was sent. After every step the
queue is the tail of the queue before it, the model's clock and its counter of free values are not less, and what has been sent is the earlier list
with new messages in front. The clock and the counter are the model's own fields (log entries 2 and 4). Rests on 20_clocks_power_reset.md,
19_trail_and_background.md. -/
def Obligations.StepsNeverTurnBack : Prop :=
  ∀ s t : State, step s = .next t → t.pending = s.pending.tail ∧ s.now ≤ t.now ∧ s.draws ≤ t.draws ∧ ∃ l : List Output, t.out = l ++ s.out

/-- Every command completes on every state, so no run stops. exec answers a next state for every command and every state, with neither a fault nor a
refusal, and every run of any length from any state is safe. That a command whose precondition fails leaves the state as it is rather than stopping is
the model's choice (log entry 5). Rests on 00_scope.md. -/
def Obligations.EveryRunIsSafe : Prop :=
  (∀ (c : Instr) (s : State), ∃ t, exec c s = .next t) ∧ ∀ (n : Nat) (s : State), s.safeRun n

/-- A main-domain reset keeps the Kennel, the Collar, the key store, the vault banks and the kept register fields, and clears the rest. After the clearing
that every main-domain reset does, the Kennel, the Collar, the flash's key store and both vault banks are as before; the key slots are empty; cores,
memory, stitch units, Awl units, Smilia, reader, panel and card slot are as at reset; and exactly the kept register fields have their values. Rests on
20_clocks_power_reset.md, Table 20-5. -/
def Obligations.MainResetKeepsKennelCollarAndFlash : Prop :=
  ∀ s : State, s.clearMain.kennel = s.kennel ∧ s.clearMain.collar = s.collar ∧ s.clearMain.keys.store = s.keys.store ∧ s.clearMain.keys.bankA = s.keys.bankA ∧ s.clearMain.keys.bankB = s.keys.bankB ∧
    s.clearMain.keys.slots = [] ∧ s.clearMain.cores = State.reset.cores ∧ s.clearMain.mem = State.reset.mem ∧ s.clearMain.stitch = State.reset.stitch ∧ s.clearMain.awl = State.reset.awl ∧
    s.clearMain.smilia = State.reset.smilia ∧ s.clearMain.reader = State.reset.reader ∧ s.clearMain.panel = State.reset.panel ∧ s.clearMain.sd = State.reset.sd ∧ s.clearMain.chip.booted = false ∧
    (∀ k : Nat, keptField k = true → tget s.clearMain.regs k = tget s.regs k) ∧ (∀ k : Nat, keptField k = false → tget s.clearMain.regs k = none)

/-- Register and immediate arithmetic instructions complete with the result of Table 10-3 and change nothing else. Where the pair issues and the fetch at
pc goes through, each of these instructions answers a next state in which its destination takes the stated value (a write of g0 is discarded), pc
moves past it, one cycle passes, and nothing else in the machine changes. Rests on 10_muaraba_isa.md, Table 10-3. -/
def Obligations.ArithmeticInstructionsComplete : Prop :=
  (∀ (s u : State) (p : PairId) (wait : Nat) (rd ra rb : RegId), s.fetches p wait u →
    let a := (u.core p).reg ra
    let b := (u.core p).reg rb
    let d := (u.core p).reg rd
    (∃ t, exec (.add p wait rd ra rb) s = .next t ∧ u.writesReg t p rd (a + b)) ∧
    (∃ t, exec (.sub p wait rd ra rb) s = .next t ∧ u.writesReg t p rd (a - b)) ∧
    (∃ t, exec (.andReg p wait rd ra rb) s = .next t ∧ u.writesReg t p rd (a &&& b)) ∧
    (∃ t, exec (.orReg p wait rd ra rb) s = .next t ∧ u.writesReg t p rd (a ||| b)) ∧
    (∃ t, exec (.xor p wait rd ra rb) s = .next t ∧ u.writesReg t p rd (a ^^^ b)) ∧
    (∃ t, exec (.andn p wait rd ra rb) s = .next t ∧ u.writesReg t p rd (a &&& ~~~b)) ∧
    (∃ t, exec (.slt p wait rd ra rb) s = .next t ∧ u.writesReg t p rd (if a.toInt < b.toInt then 1 else 0)) ∧
    (∃ t, exec (.sltu p wait rd ra rb) s = .next t ∧ u.writesReg t p rd (if a.toNat < b.toNat then 1 else 0)) ∧
    (∃ t, exec (.sll p wait rd ra rb) s = .next t ∧ u.writesReg t p rd (a <<< (b.toNat % 64))) ∧
    (∃ t, exec (.srl p wait rd ra rb) s = .next t ∧ u.writesReg t p rd (a >>> (b.toNat % 64))) ∧
    (∃ t, exec (.sra p wait rd ra rb) s = .next t ∧ u.writesReg t p rd (a.sshiftRight (b.toNat % 64))) ∧
    (∃ t, exec (.ror p wait rd ra rb) s = .next t ∧ u.writesReg t p rd (a.rotateRight (b.toNat % 64))) ∧
    (∃ t, exec (.moveqz p wait rd ra rb) s = .next t ∧ u.writesReg t p rd (if b = 0 then a else d)) ∧
    (∃ t, exec (.movnez p wait rd ra rb) s = .next t ∧ u.writesReg t p rd (if b = 0 then d else a)) ∧
    (∃ t, exec (.clz p wait rd ra) s = .next t ∧ u.writesReg t p rd (BitVec.ofNat 64 (leadingZeros a))) ∧
    (∃ t, exec (.popc p wait rd ra) s = .next t ∧ u.writesReg t p rd (BitVec.ofNat 64 (oneBits a))) ∧
    (∃ t, exec (.bswap p wait rd ra) s = .next t ∧ u.writesReg t p rd (swapBytes a))) ∧
  (∀ (s u : State) (p : PairId) (wait : Nat) (rd ra : RegId) (imm : BitVec 16) (hw : BitVec 2) (sh : BitVec 6), s.fetches p wait u →
    let a := (u.core p).reg ra
    let d := (u.core p).reg rd
    (∃ t, exec (.addi p wait rd ra imm) s = .next t ∧ u.writesReg t p rd (a + imm.signExtend 64)) ∧
    (∃ t, exec (.andi p wait rd ra imm) s = .next t ∧ u.writesReg t p rd (a &&& imm.setWidth 64)) ∧
    (∃ t, exec (.ori p wait rd ra imm) s = .next t ∧ u.writesReg t p rd (a ||| imm.setWidth 64)) ∧
    (∃ t, exec (.xori p wait rd ra imm) s = .next t ∧ u.writesReg t p rd (a ^^^ imm.setWidth 64)) ∧
    (∃ t, exec (.slti p wait rd ra imm) s = .next t ∧ u.writesReg t p rd (if a.toInt < imm.toInt then 1 else 0)) ∧
    (∃ t, exec (.sltiu p wait rd ra imm) s = .next t ∧ u.writesReg t p rd (if a.toNat < (imm.signExtend 64).toNat then 1 else 0)) ∧
    (∃ t, exec (.movz p wait rd hw imm) s = .next t ∧ u.writesReg t p rd (imm.setWidth 64 <<< (16 * hw.toNat))) ∧
    (∃ t, exec (.movk p wait rd hw imm) s = .next t ∧ u.writesReg t p rd (insertHalf d hw imm)) ∧
    (∃ t, exec (.adrp p wait rd imm) s = .next t ∧
      u.writesReg t p rd (BitVec.ofNat 64 ((u.core p).pc.toNat / 4096 * 4096) + imm.signExtend 64 * 4096)) ∧
    (∃ t, exec (.slli p wait rd ra sh) s = .next t ∧ u.writesReg t p rd (a <<< sh.toNat)) ∧
    (∃ t, exec (.srli p wait rd ra sh) s = .next t ∧ u.writesReg t p rd (a >>> sh.toNat)) ∧
    (∃ t, exec (.srai p wait rd ra sh) s = .next t ∧ u.writesReg t p rd (a.sshiftRight sh.toNat)))

/-- Multiplier instructions enter the queue with their value and latency, and a read returns what has completed by then. Each multiplier instruction
answers a next state in which the queue has one more entry, with the product, sum, quotient or remainder and with its completion cycle; nothing else
changes. A result is written to MHI:MLO exactly when its cycle has come, and the reads return the value written by then. Rests on 10_muaraba_isa.md,
The multiplier. -/
def Obligations.MultiplierInstructionsComplete : Prop :=
  (∀ (s u : State) (p : PairId) (wait : Nat) (ra rb : RegId), s.fetches p wait u →
    let a := (u.core p).reg ra
    let b := (u.core p).reg rb
    let acc := (u.core p).mulRoom.accumulator
    (∃ t, exec (.mul p wait ra rb) s = .next t ∧ u.multiplies t p 4 (BitVec.ofInt 128 (a.toInt * b.toInt))) ∧
    (∃ t, exec (.mulu p wait ra rb) s = .next t ∧ u.multiplies t p 4 (BitVec.ofNat 128 (a.toNat * b.toNat))) ∧
    (∃ t, exec (.madd p wait ra rb) s = .next t ∧ u.multiplies t p 5 (acc + BitVec.ofInt 128 (a.toInt * b.toInt))) ∧
    (∃ t, exec (.maddu p wait ra rb) s = .next t ∧ u.multiplies t p 5 (acc + BitVec.ofNat 128 (a.toNat * b.toNat))) ∧
    (∃ t, exec (.divq p wait ra rb) s = .next t ∧
      u.multiplies t p 40 (if b = 0 then BitVec.allOnes 128 else BitVec.ofInt 128 (a.toInt.tdiv b.toInt))) ∧
    (∃ t, exec (.divqu p wait ra rb) s = .next t ∧
      u.multiplies t p 40 (if b = 0 then BitVec.allOnes 128 else BitVec.ofNat 128 (a.toNat / b.toNat))) ∧
    (∃ t, exec (.remd p wait ra rb) s = .next t ∧
      u.multiplies t p 40 (if b = 0 then a.signExtend 128 else BitVec.ofInt 128 (a.toInt.tmod b.toInt))) ∧
    (∃ t, exec (.remdu p wait ra rb) s = .next t ∧
      u.multiplies t p 40 (if b = 0 then a.setWidth 128 else BitVec.ofNat 128 (a.toNat % b.toNat))) ∧
    (∃ t, exec (.mwr p wait ra rb) s = .next t ∧ u.multiplies t p 1 (b ++ a)) ∧
    (∀ rd : RegId, (∃ t, exec (.mrdl p wait rd) s = .next t ∧ u.writesReg t p rd (u.core p).mlo) ∧
      (∃ t, exec (.mrdh p wait rd) s = .next t ∧ u.writesReg t p rd (u.core p).mhi))) ∧
  (∀ (s : State) (p : PairId) (e : MulEntry) (es : List MulEntry), (s.core p).mul = e :: es →
    (∀ x ∈ es, e.done < x.done ∧ (s.core p).cycle < x.done) →
    ∃ t, exec (.multiplierComplete p) s = .next t ∧
      s.setsPair t p { s.core p with cycle := max (s.core p).cycle e.done, mlo := e.value.extractLsb' 0 64, mhi := e.value.extractLsb' 64 64, mul := es })

/-- Branches and jumps complete with the stated pc and link, taken or not, and change nothing else. Each branch goes to its target where its condition
holds and past itself where not; jumps and calls set pc and their link register; nothing else in the machine changes. Rests on 10_muaraba_isa.md. -/
def Obligations.BranchesAndJumpsComplete : Prop :=
  ∀ (s u : State) (p : PairId) (wait : Nat) (rd ra rb : RegId) (off : BitVec 16), s.fetches p wait u →
    let a := (u.core p).reg ra
    let b := (u.core p).reg rb
    let pc := (u.core p).pc
    let target (c : Prop) [Decidable c] : Word := if c then pc + off.signExtend 64 * 4 else pc + 4
    let cost (c : Prop) [Decidable c] : Nat := if c then 2 else 1
    (∃ t, exec (.beq p wait ra rb off) s = .next t ∧ u.jumpsTo t p (target (a = b)) (cost (a = b))) ∧
    (∃ t, exec (.bne p wait ra rb off) s = .next t ∧ u.jumpsTo t p (target (a ≠ b)) (cost (a ≠ b))) ∧
    (∃ t, exec (.blt p wait ra rb off) s = .next t ∧ u.jumpsTo t p (target (a.toInt < b.toInt)) (cost (a.toInt < b.toInt))) ∧
    (∃ t, exec (.bge p wait ra rb off) s = .next t ∧ u.jumpsTo t p (target (b.toInt ≤ a.toInt)) (cost (b.toInt ≤ a.toInt))) ∧
    (∃ t, exec (.bltu p wait ra rb off) s = .next t ∧ u.jumpsTo t p (target (a.toNat < b.toNat)) (cost (a.toNat < b.toNat))) ∧
    (∃ t, exec (.bgeu p wait ra rb off) s = .next t ∧ u.jumpsTo t p (target (b.toNat ≤ a.toNat)) (cost (b.toNat ≤ a.toNat))) ∧
    (∀ long : BitVec 26, (∃ t, exec (.j p wait long) s = .next t ∧ u.jumpsTo t p (pc + long.signExtend 64 * 4) 2) ∧
      (∃ t, exec (.jal p wait long) s = .next t ∧
        u.setsPair t p { (u.core p).setReg 30 (pc + 4) with pc := pc + long.signExtend 64 * 4, cycle := (u.core p).cycle + 2 })) ∧
    ((a + off.signExtend 64).toNat % 4 = 0 → ∃ t, exec (.jalr p wait rd ra off) s = .next t ∧
      u.setsPair t p { (u.core p).setReg rd (pc + 4) with pc := a + off.signExtend 64, cycle := (u.core p).cycle + 2 }) ∧
    (∃ t, exec (.fence p wait) s = .next t ∧ u.jumpsTo t p (pc + 4) 1) ∧
    (∃ t, exec (.fencei p wait) s = .next t ∧ u.jumpsTo t p (pc + 4) 1) ∧
    ((u.core p).sup = true → ∃ t, exec (.cflush p wait ra) s = .next t ∧ u.jumpsTo t p (pc + 4) 1)

/-- Aligned loads and stores complete: the extended value loaded, the bytes stored, and the base register of the mode updated. For every legal addressing
mode, where the address is aligned and the access goes through, each load answers a next state whose destination takes the extended bytes and whose
base register takes the mode's update, each store one whose memory takes the register's bytes through the store operation; pc and cycle move on. Rests
on 10_muaraba_isa.md. -/
def Obligations.LoadsAndStoresComplete : Prop :=
  (∀ (s u v : State) (p : PairId) (wait : Nat) (rt ra : RegId) (m : AddrMode) (pa : Nat) (bs : List Byte), s.fetches p wait u →
    let a := m.address (u.core p) ra
    m.illegal rt ra true = false →
    (u.loadBytes p .read a 1 = (.ok (pa, bs), v) →
      (∃ t, exec (.ldb p wait rt ra m) s = .next t ∧ v.loads t p m rt ra (sextBytes bs)) ∧
      (∃ t, exec (.ldbu p wait rt ra m) s = .next t ∧ v.loads t p m rt ra (zextBytes bs))) ∧
    (a.toNat % 2 = 0 → u.loadBytes p .read a 2 = (.ok (pa, bs), v) →
      (∃ t, exec (.ldh p wait rt ra m) s = .next t ∧ v.loads t p m rt ra (sextBytes bs)) ∧
      (∃ t, exec (.ldhu p wait rt ra m) s = .next t ∧ v.loads t p m rt ra (zextBytes bs))) ∧
    (a.toNat % 4 = 0 → u.loadBytes p .read a 4 = (.ok (pa, bs), v) →
      (∃ t, exec (.ldw p wait rt ra m) s = .next t ∧ v.loads t p m rt ra (sextBytes bs)) ∧
      (∃ t, exec (.ldwu p wait rt ra m) s = .next t ∧ v.loads t p m rt ra (zextBytes bs))) ∧
    (a.toNat % 8 = 0 → u.loadBytes p .read a 8 = (.ok (pa, bs), v) →
      (∃ t, exec (.ldd p wait rt ra m) s = .next t ∧ v.loads t p m rt ra (zextBytes bs)))) ∧
  (∀ (s u v : State) (p : PairId) (wait : Nat) (rt ra : RegId) (m : AddrMode) (pa : Nat), s.fetches p wait u →
    let q := u.core p
    let a := m.address q ra
    let x := (q.reg rt).toNat
    m.illegal rt ra false = false →
    (u.approach p q.world (!q.sup) .write a 1 = (.ok pa, v) →
      ∃ t, exec (.stb p wait rt ra m) s = .next t ∧ (v.putBytes p q.world pa (leBytes 1 x)).stores t p m ra) ∧
    (a.toNat % 2 = 0 → u.approach p q.world (!q.sup) .write a 2 = (.ok pa, v) →
      ∃ t, exec (.sth p wait rt ra m) s = .next t ∧ (v.putBytes p q.world pa (leBytes 2 x)).stores t p m ra) ∧
    (a.toNat % 4 = 0 → u.approach p q.world (!q.sup) .write a 4 = (.ok pa, v) →
      ∃ t, exec (.stw p wait rt ra m) s = .next t ∧ (v.putBytes p q.world pa (leBytes 4 x)).stores t p m ra) ∧
    (a.toNat % 8 = 0 → u.approach p q.world (!q.sup) .write a 8 = (.ok pa, v) →
      ∃ t, exec (.std p wait rt ra m) s = .next t ∧ (v.putBytes p q.world pa (leBytes 8 x)).stores t p m ra))

/-- A store to memory changes no byte of it outside the bytes stored; one to a register is the register store. The store operation of the cores to an
address of memory, and the write of memory, leave every byte outside the stored range reading as before, outside the armed flip of the error-
correction test; the core operation at a register address is the store to that register. Rests on 10_muaraba_isa.md, 12_memory_ecc_access.md. -/
def Obligations.StoreChangesOnlyItsBytes : Prop :=
  ∀ (s : State) (a : Nat) (bs : List Byte), s.mem.wf = true → s.flips a bs.length = false →
    (∀ i : Nat, i < bs.length → (s.storeMem a bs).readMem (a + i) 1 = [bs.getD i 0]) ∧
    (∀ x : Nat, x < a ∨ a + bs.length ≤ x → (s.storeMem a bs).readMem x 1 = s.readMem x 1 ∧ (s.writeMem a bs).readMem x 1 = s.readMem x 1 ∧
      (∀ (p : PairId) (w : World), s.targetOf a ≠ some 2 → (s.putBytes p w a bs).readMem x 1 = s.readMem x 1)) ∧
    (∀ (p : PairId) (w : World), s.targetOf a = some 2 → s.putBytes p w a bs = s.storeReg p.val w (!(s.core p).sup) (slotOf a) ((a - 0x2000000) % 0x10000) (ofLe bs)) ∧
    s.agreeBut [.mem] (s.storeMem a bs) ∧ s.agreeBut [.mem, .cores] (s.writeMem a bs)

/-- Atomic instructions and the load-reserve and store-conditional pair complete, with the reservation as stated. Each atomic returns the old double word
and stores the stated new one; LLD sets the pair's reservation on the line it reads; SCD stores and answers success only where the reservation covers
the line, and clears it in every case. Rests on 10_muaraba_isa.md. -/
def Obligations.AtomicsAndReservationComplete : Prop :=
  ∀ (s u v : State) (p : PairId) (wait : Nat) (rd ra rb : RegId) (pa : Nat) (bs : List Byte), s.fetches p wait u →
    let q := u.core p
    let a := q.reg ra
    let b := q.reg rb
    let old := zextBytes bs
    let put (x : Word) : State := v.putBytes p q.world pa (leBytes 8 x.toNat)
    a.toNat % 8 = 0 →
    (u.loadBytes p .atomic a 8 = (.ok (pa, bs), v) →
      (∃ t, exec (.swapd p wait rd ra rb) s = .next t ∧ (put b).writesReg t p rd old) ∧
      (∃ t, exec (.aaddd p wait rd ra rb) s = .next t ∧ (put (old + b)).writesReg t p rd old) ∧
      (∃ t, exec (.aandd p wait rd ra rb) s = .next t ∧ (put (old &&& b)).writesReg t p rd old) ∧
      (∃ t, exec (.aord p wait rd ra rb) s = .next t ∧ (put (old ||| b)).writesReg t p rd old) ∧
      (∃ t, exec (.casd p wait rd ra rb) s = .next t ∧ (if old = q.reg rd then put b else v).writesReg t p rd old)) ∧
    (u.loadBytes p .read a 8 = (.ok (pa, bs), v) →
      ∃ t, exec (.lld p wait rd ra) s = .next t ∧ tget t.cores.reserved p.val = some (pa / 64 * 64) ∧ (t.core p).reg rd = (if rd = 0 then 0 else old) ∧
        (t.core p).pc = (v.core p).pc + 4 ∧ v.agreeBut [.cores] t ∧ (∀ r : PairId, r ≠ p → t.core r = v.core r)) ∧
    (u.approach p q.world (!q.sup) .write a 8 = (.ok pa, v) → tget v.cores.reserved p.val = some (pa / 64 * 64) → v.targetOf pa ≠ some 2 →
      ∃ t, exec (.scd p wait rd ra rb) s = .next t ∧ (t.core p).reg rd = 0 ∧ tget t.cores.reserved p.val = none ∧
        (t.core p).pc = (v.core p).pc + 4 ∧ t.mem = (v.storeMem pa (leBytes 8 b.toNat)).mem) ∧
    (u.approach p q.world (!q.sup) .write a 8 = (.ok pa, v) → tget v.cores.reserved p.val ≠ some (pa / 64 * 64) →
      ∃ t, exec (.scd p wait rd ra rb) s = .next t ∧ (t.core p).reg rd = (if rd = 0 then 0 else 1) ∧ tget t.cores.reserved p.val = none ∧
        (t.core p).pc = (v.core p).pc + 4 ∧ v.agreeBut [.cores] t)

/-- Long instructions complete an element: bytes moved, filled, accumulated or differenced, registers advanced. With legal registers, aligned addresses
and accesses that go through, an element of each long instruction has its effect, the count and address registers advance, and with the last element
pc moves past the instruction. Rests on 10_muaraba_isa.md, Table 10-7. -/
def Obligations.LongInstructionsComplete : Prop :=
  ∀ (s u v : State) (p : PairId) (wait : Nat) (rd ra rb : RegId), s.fetches p wait u →
    let q := u.core p
    (fillRegs rd ra rb = true → q.reg rb = 0 → ∀ (n : Nat) (size : BitVec 2),
      ∃ t, exec (.bfill p wait n rd ra rb size) s = .next t ∧ u.jumpsTo t p (q.pc + 4) 1) ∧
    (fillRegs rd ra rb = true → ∀ (size : BitVec 2), (q.reg rb).toNat = 1 → (q.reg rd).toNat % 2 ^ size.toNat = 0 →
      u.storeBytes p .write (q.reg rd) (leBytes (2 ^ size.toNat) (q.reg ra).toNat) = (.ok (), v) → (v.core p).reg rb = 1 →
      ∃ t, exec (.bfill p wait 1 rd ra rb size) s = .next t ∧
        v.setsPair t p { ((v.core p).setReg rd ((v.core p).reg rd + BitVec.ofNat 64 (2 ^ size.toNat))).setReg rb 0 with
          pc := (v.core p).pc + 4, cycle := (v.core p).cycle + 1 }) ∧
    (threeRegs rd ra rb = true → ∀ (x : State) (pa : Nat) (bs : List Byte) (size : BitVec 2), (q.reg rb).toNat = 1 →
      (q.reg rd).toNat % 2 ^ size.toNat = 0 → (q.reg ra).toNat % 2 ^ size.toNat = 0 →
      u.loadBytes p .read (q.reg ra) (2 ^ size.toNat) = (.ok (pa, bs), x) → x.storeBytes p .write ((x.core p).reg rd) bs = (.ok (), v) → (v.core p).reg rb = 1 →
      ∃ t, exec (.bmov p wait 1 rd ra rb size) s = .next t ∧ v.agreeBut [.cores] t ∧ (t.core p).reg rb = 0 ∧ (t.core p).pc = (v.core p).pc + 4 ∧
        (t.core p).reg rd = (v.core p).reg rd + BitVec.ofNat 64 (2 ^ size.toNat) ∧ (t.core p).reg ra = (v.core p).reg ra + BitVec.ofNat 64 (2 ^ size.toNat)) ∧
    (threeRegs rd ra rb = true → ∀ (x : State) (pa pb : Nat) (xs ys : List Byte), (q.reg rb).toNat = 1 → q.mul = [] →
      (q.reg rd).toNat % 8 = 0 → (q.reg ra).toNat % 8 = 0 → u.loadBytes p .read (q.reg rd) 8 = (.ok (pa, xs), x) →
      x.loadBytes p .read ((x.core p).reg ra) 8 = (.ok (pb, ys), v) → (v.core p).mul = [] → (v.core p).reg rb = 1 →
      let a := zextBytes xs
      let b := zextBytes ys
      let acc : BitVec 128 := (v.core p).mhi ++ (v.core p).mlo
      (∃ t, exec (.macv p wait 1 rd ra rb false) s = .next t ∧ v.agreeBut [.cores] t ∧ (t.core p).mhi ++ (t.core p).mlo = acc + BitVec.ofInt 128 (a.toInt * b.toInt) ∧
        (t.core p).reg rb = 0 ∧ (t.core p).pc = (v.core p).pc + 4) ∧
      (∃ t, exec (.macv p wait 1 rd ra rb true) s = .next t ∧ v.agreeBut [.cores] t ∧ (t.core p).mhi ++ (t.core p).mlo = acc + BitVec.ofNat 128 (a.toNat * b.toNat) ∧
        (t.core p).reg rb = 0 ∧ (t.core p).pc = (v.core p).pc + 4) ∧
      (∃ t, exec (.sabs p wait 1 rd ra rb) s = .next t ∧ v.agreeBut [.cores] t ∧ (t.core p).mlo = (v.core p).mlo + BitVec.ofNat 64 (sumDiffs a b) ∧
        (t.core p).mhi = (v.core p).mhi ∧ (t.core p).reg rb = 0 ∧ (t.core p).pc = (v.core p).pc + 4))

/-- A long instruction whose count is zero completes as a no-op. For each of the four long instructions with legal registers and a count of zero, exec
answers a next state in which pc is past the instruction and one cycle has passed; no other register, no memory and no address check is involved:
everything else is as before. States R365. -/
def Obligations.LongInstructionOfCountZeroDoesNothing : Prop :=
  ∀ (s u : State) (p : PairId) (wait n : Nat) (rd ra rb : RegId) (size : BitVec 2) (un : Bool), s.fetches p wait u → (u.core p).reg rb = 0 →
    (fillRegs rd ra rb = true → ∃ t, exec (.bfill p wait n rd ra rb size) s = .next t ∧ u.jumpsTo t p ((u.core p).pc + 4) 1) ∧
    (threeRegs rd ra rb = true → (∃ t, exec (.bmov p wait n rd ra rb size) s = .next t ∧ u.jumpsTo t p ((u.core p).pc + 4) 1) ∧
      (∃ t, exec (.macv p wait n rd ra rb un) s = .next t ∧ u.jumpsTo t p ((u.core p).pc + 4) 1) ∧
      (∃ t, exec (.sabs p wait n rd ra rb) s = .next t ∧ u.jumpsTo t p ((u.core p).pc + 4) 1))

/-- Reads and writes of special registers, and the system instructions at supervisor level, have their effect and no other. MFS writes the special
register's value to its destination and MTS the source to the special register, for every special register that the running world and level may read
or write; DI, EI, WAIT and TLBINV in its three modes have their stated effect on the pair alone. Rests on 10_muaraba_isa.md,
11_worlds_and_exceptions.md. -/
def Obligations.SpecialRegisterInstructionsComplete : Prop :=
  ∀ (s u : State) (p : PairId) (wait : Nat) (rd ra : RegId) (sr : BitVec 8), s.fetches p wait u →
    let q := u.core p
    (∀ wr, specialRights sr.toNat q.world q.sup = some (true, wr) →
      ∃ t, exec (.mfs p wait rd sr) s = .next t ∧ u.writesReg t p rd (q.special p.val sr.toNat)) ∧
    (∀ r, specialRights sr.toNat q.world q.sup = some (r, true) →
      ∃ t, exec (.mts p wait ra sr) s = .next t ∧
        u.setsPair t p { q.setSpecial sr.toNat (q.reg ra) with pc := q.pc + 4, cycle := q.cycle + 1 }) ∧
    (q.sup = true →
      (∃ t, exec (.di p wait rd) s = .next t ∧ (t.core p).im = true ∧ (t.core p).reg rd = (if rd = 0 then 0 else if q.im then 1 else 0) ∧
        (t.core p).pc = q.pc + 4 ∧ u.agreeBut [.cores] t) ∧
      (∃ t, exec (.ei p wait) s = .next t ∧ u.setsPair t p { q with im := false, pc := q.pc + 4, cycle := q.cycle + 1 }) ∧
      (∃ t, exec (.wait p wait) s = .next t ∧ u.setsPair t p { q with waiting := !u.routedPending p, pc := q.pc + 4, cycle := q.cycle + 1 }) ∧
      (∃ t, exec (.tlbinvPage p wait ra) s = .next t ∧
        u.setsPair t p { q with tlb := q.tlb.filter (fun e => !(e.world == q.world && e.hits q.world (q.regsOf q.world).asid (q.reg ra))), pc := q.pc + 4, cycle := q.cycle + 1 }) ∧
      (∃ t, exec (.tlbinvAsid p wait ra) s = .next t ∧
        u.setsPair t p { q with tlb := q.tlb.filter (fun e => !(e.world == q.world && (!bitOf e.entry 6 && e.asid == (q.reg ra).setWidth 16))), pc := q.pc + 4, cycle := q.cycle + 1 }) ∧
      (∃ t, exec (.tlbinvWorld p wait) s = .next t ∧
        u.setsPair t p { q with tlb := q.tlb.filter (fun e => e.world != q.world), pc := q.pc + 4, cycle := q.cycle + 1 }))

/-- ERET restores STATUS and pc only; a gate call and a gate return change the world as their descriptors and frames say. ERET takes pc and STATUS from
the world's saved registers, keeps every general register, drops the reservation, and clears the accumulator where the world changes. A gate call that
passes its checks enters the other world at the descriptor's entry with the caller's frame pushed and every register that is no argument cleared; the
return undoes it. Rests on 11_worlds_and_exceptions.md. -/
def Obligations.ReturnFromExceptionAndGatesComplete : Prop :=
  (∀ (s u : State) (p : PairId) (wait : Nat), s.fetches p wait u → (u.core p).sup = true →
    let q := u.core p
    (∃ t, exec (.eret p wait) s = .next t ∧ u.agreeBut [.cores] t ∧ (∀ r : PairId, r ≠ p → t.core r = u.core r) ∧ tget t.cores.reserved p.val = none ∧
      let st := (q.regsOf q.world).estatus
      (t.core p).pc = (q.regsOf q.world).epc ∧ (t.core p).world = statusWorld st ∧ (t.core p).sup = bitOf st.toNat 1 ∧ (t.core p).im = bitOf st.toNat 0 ∧
      ((t.core p).regsOf (statusWorld st)).asid = (st >>> 8).setWidth 16 ∧ (∀ r : RegId, (t.core p).reg r = q.reg r) ∧
      (statusWorld st ≠ q.world → (t.core p).mlo = 0 ∧ (t.core p).mhi = 0) ∧
      (statusWorld st = q.world → (t.core p).mlo = q.mlo ∧ (t.core p).mhi = q.mhi)) ∧
    (∀ (f : GateFrame) (fs : List GateFrame), q.frames = f :: fs → statusWorld f.status ≠ q.world →
      ∃ t, exec (.gateReturn p wait) s = .next t ∧ u.agreeBut [.cores] t ∧ tget t.cores.reserved p.val = none ∧
        (t.core p).pc = f.pc ∧ (t.core p).frames = fs ∧ (t.core p).world = statusWorld f.status ∧ (t.core p).sup = bitOf f.status.toNat 1 ∧
        (t.core p).im = bitOf f.status.toNat 0 ∧ (t.core p).reg 31 = f.sp ∧ (∀ r : RegId, 9 ≤ r.val → r.val ≤ 30 → (t.core p).reg r = 0) ∧
        (∀ r : RegId, r.val ≤ 8 → (t.core p).reg r = q.reg r) ∧ (t.core p).mlo = 0 ∧ (t.core p).mhi = 0)) ∧
  (∀ (s u v x : State) (p : PairId) (wait : Nat) (n : Fin 255) (d : GateDesc), s.fetches p wait u →
    let q := u.core p
    let w := q.world.other
    u.gateTable p w ≠ 0 → u.readGate p w n.val = (some d, v) → d.valid = true → (if q.sup then bitOf d.flags 1 else bitOf d.flags 2) = true →
    State.bufferChecks p (d.checks.take d.nbuf) 0 v = (none, x) → q.frames.length < 8 →
    ∃ t, exec (.gate p wait n) s = .next t ∧ x.agreeBut [.cores] t ∧ tget t.cores.reserved p.val = none ∧
      (t.core p).pc = BitVec.ofNat 64 d.entry ∧ (t.core p).world = w ∧ (t.core p).sup = true ∧ (t.core p).im = true ∧
      (t.core p).frames = { pc := (x.core p).pc + 4, status := (x.core p).status, sp := (x.core p).reg 31 } :: (x.core p).frames ∧
      (t.core p).reg 31 = x.stackBase p w ∧ (∀ r : RegId, r.val ≤ d.nargs → (t.core p).reg r = (x.core p).reg r) ∧
      (∀ r : RegId, d.nargs < r.val → r.val ≤ 30 → (t.core p).reg r = 0) ∧ (t.core p).mlo = 0 ∧ (t.core p).mhi = 0)

/-- TRAP, BRK, an illegal instruction and an interrupt enter their handler with the state saved as stated. Where the exception frame can be written, each
of these enters the handler of its world: supervisor level, masked, at ENTRY, with the return address, status and cause saved, g31 at the frame, the
reservation gone, and every other register kept. An interrupt enters with its source and priority in the cause and its source claimed. Rests on
11_worlds_and_exceptions.md. -/
def Obligations.TrapsAndInterruptsEnterTheirHandler : Prop :=
  ∀ (s u v : State) (p : PairId) (wait : Nat), 
    let q := u.core p
    let fa := (u.updPair p Pair.drain).stackBase p q.world - 64
    (s.fetches p wait u → ∀ n : BitVec 8, let cause := causeWord { code := 0x0A, arg := n.toNat } (!q.sup) false 0 0
      u.pushesFrame v p q.world (q.pc + 4) cause 0 → ∃ t, exec (.trap p wait n) s = .next t ∧ v.entersAt t p q.world (q.pc + 4) cause 0 0 fa) ∧
    (s.fetches p wait u → let cause := causeWord { code := 0x0B } (!q.sup) false 0 0
      u.pushesFrame v p q.world (q.pc + 4) cause 0 → ∃ t, exec (.brk p wait) s = .next t ∧ v.entersAt t p q.world (q.pc + 4) cause 0 0 fa) ∧
    (s.fetches p wait u → let cause := causeWord { code := 0x02 } (!q.sup) false 0 0
      u.pushesFrame v p q.world q.pc cause 0 → ∃ t, exec (.illegalInstruction p wait) s = .next t ∧ v.entersAt t p q.world q.pc cause 0 0 fa) ∧
    (s.issues p = true → u = s.tick p wait → q.im = false → ∀ n : Nat,
      u.bestSource (fun n => u.deliverable p.val .keeper n || (q.world == .tack && u.deliverable p.val .tack n)) = some n →
      let w := u.sourceWorld n
      let cause := causeWord { code := 0x01 } (!q.sup) (q.world != w) n (u.sourcePrio n)
      u.pushesFrame v p w q.pc cause 0 →
      ∃ t0, exec (.interruptEntry p wait) s = .next (t0.delivered p.val n) ∧ v.entersAt t0 p w q.pc cause 0 0 ((u.updPair p Pair.drain).stackBase p w - 64))

/-- At user level ERET, DI, EI, WAIT and TLBINV have no effect of their own and enter the PRIV exception. At user level each of these privileged
instructions, once fetched, enters the exception PRIV of the running world with the instruction's own address as return address, where the frame can
be written. Rests on 10_muaraba_isa.md, 11_worlds_and_exceptions.md. -/
def Obligations.PrivilegedInstructionsTrapAtUserLevel : Prop :=
  ∀ (s u v : State) (p : PairId) (wait : Nat) (rd : RegId) (i : Instr), s.fetches p wait u → (u.core p).sup = false →
    (i = .eret p wait ∨ i = .di p wait rd ∨ i = .ei p wait ∨ i = .wait p wait ∨ i = .tlbinvPage p wait rd ∨ i = .tlbinvAsid p wait rd ∨ i = .tlbinvWorld p wait) →
    u.pushesFrame v p (u.core p).world (u.core p).pc (causeWord { code := cPriv } true false 0 0) 0 →
    ∃ t, exec i s = .next t ∧ v.entersAt t p (u.core p).world (u.core p).pc (causeWord { code := cPriv } true false 0 0) 0 0 ((u.updPair p Pair.drain).stackBase p (u.core p).world - 64)

/-- A source is deliverable under the five conditions of R395; the highest priority goes first, the lower number on a tie. A source is deliverable to a
pair and world exactly where it is pending and enabled, not active, routed to that pair and world, and of a priority above every claim that the world
has there. The source chosen is deliverable, and every other deliverable source has a lower priority, or the same and a greater number; where none is
chosen none is deliverable; a claim makes the chosen source active. States R395. -/
def Obligations.DeliverableSourcesAndTheirOrder : Prop :=
  ∀ (s : State) (p : PairId) (w : World),
    (∀ n : Nat, s.deliverable p.val w n = true ↔ (s.sourcePending n = true ∧ s.isSet (Reg.IC_ROUTE.EN.nth n) = true ∧ s.sourceActive n = false ∧ s.sourceWorld n = w ∧ s.sourcePair n = some p.val ∧
      ∀ c ∈ s.cores.claims, c.pair = p.val → c.world = w → c.prio < s.sourcePrio n)) ∧
    (∀ n : Nat, s.best p.val w = some n → n < 1024 ∧ s.deliverable p.val w n = true ∧
      ∀ m : Nat, m < 1024 → s.deliverable p.val w m = true → min 15 (s.sourcePrio m) < min 15 (s.sourcePrio n) ∨ (min 15 (s.sourcePrio m) = min 15 (s.sourcePrio n) ∧ n ≤ m)) ∧
    (s.best p.val w = none → ∀ m : Nat, m < 1024 → s.deliverable p.val w m = false) ∧
    (∀ n : Nat, s.best p.val w = some n → ∃ t, exec (.icClaim p w) s = .next t ∧ s.sourceActive n = false ∧ t.sourceActive n = true)

/-- Interrupt controller commands and the supervision of pairs complete with their effect on claims, pending bits and pairs. A claim answers the best
source and records it, an end of interrupt drops it, a software interrupt pends its source, a timer reaches its comparison; mismatches, held masks,
releases and pair self-tests have the stated effect on the pair and its register. Rests on 11_worlds_and_exceptions.md. -/
def Obligations.InterruptAndPairCommandsComplete : Prop :=
  (∀ (s : State) (p : PairId) (w : World),
    (∀ n : Nat, s.best p.val w = some n →
      ∃ t, exec (.icClaim p w) s = .next t ∧ t.out = { dest := .reader, typ := 0xC0, fields := [n + 4096 * s.sourcePrio n + 2 ^ 31] } :: s.out ∧
        t.cores.claims = { source := n, pair := p.val, world := w, prio := s.sourcePrio n } :: s.cores.claims ∧ t.cores.pairs = s.cores.pairs) ∧
    (∀ n : Nat, n < 1024 → ∃ t, exec (.icEoi p w n) s = .next t ∧ s.agreeBut [.cores] t ∧ t.cores.pairs = s.cores.pairs ∧
      t.cores.claims = s.cores.claims.filter (fun c => !(c.source == n && c.pair == p.val && c.world == w))) ∧
    (∀ n : Nat, 512 ≤ n → n < 1024 → w = .keeper ∨ s.sourceWorld n = .tack →
      ∃ t, exec (.icSwi w n) s = .next t ∧ s.agreeBut [.regs] t ∧ t.rd (Reg.IC_ROUTE.PEND.nth n) = 1) ∧
    (s.inService p.val = true → ∃ t, exec (.timerInterrupt p w) s = .next t ∧
      s.setsPair t p { s.core p with cycle := max (s.core p).cycle ((s.core p).regsOf w).timecmp.toNat } ∧ (t.core p).timerOn w = true)) ∧
  (∀ (s : State) (p : PairId),
    let q := s.core p
    (s.inService p.val = true → q.im = true → s.anyDeliverable p.val .tack = true ∨ s.anyDeliverable p.val .keeper = true →
      s.rd (Reg.CORE_LIMITS.IM_US.nth p) ≠ 0 → ∀ u : State,
      s.setsPair u p { q with cycle := max q.cycle (q.imAt + s.coreCycles (s.rd (Reg.CORE_LIMITS.IM_US.nth p)) + 1) } →
      ∃ t, exec (.coreImHeld p false) s = .next t ∧ t = u.raise (srcCore p 3) p.val) ∧
    (s.inService p.val = true → q.world = .keeper → s.anyDeliverable p.val .tack = true → s.rd (Reg.CORE_LIMITS.KHOLD_US.nth p) ≠ 0 → ∀ u : State,
      s.setsPair u p { q with cycle := max q.cycle (q.keeperAt + s.coreCycles (s.rd (Reg.CORE_LIMITS.KHOLD_US.nth p)) + 1) } →
      ∃ t, exec (.coreImHeld p true) s = .next t ∧ t = u.raise (srcCore p 3) p.val) ∧
    (s.mainOn = true → s.pstate p = 0 → q.mismatchAt = none → ∀ u : State, s.setsPair u p { q with mismatchAt := some (s.now, q.cycle) } →
      (∃ t, exec (.lockstepMismatch p false) s = .next t ∧ t = (u.raise (srcCore p 0) p.val).bump (Reg.CORE_STATE.RETRIES.nth p)) ∧
      (∃ t, exec (.lockstepMismatch p true) s = .next t ∧
        t = ((u.raise (srcCore p 0) p.val).updPair p (fun q => { q with shadowLost := true })).haltPair p)) ∧
    (s.pairLost p.val = true → ∃ t, exec (.coreQrel p .keeper) s = .next t ∧ t.rd (Reg.CORE_STATE.PSTATE.nth p) = 4 ∧
      (t.core p).testing = some .release ∧ s.agreeBut [.cores, .regs] t) ∧
    (s.pstate p = 4 → s.rd Reg.SHP_ST_OUT.CORE_ACT = 0 → ∀ sig : Nat, ∃ t, exec (.corePairSelftestDone p .pass sig) s = .next t ∧
      t.rd (Reg.CORE_STATE.PSTATE.nth p) = 0 ∧ t.core p = { Pair.reset p.val with save := ((s.testOver .pair p.val .pass sig).core p).save }))

/-- HELLO segments, AUTH, KEY_UPDATE and the time-outs of a handshake complete with the session, keys and answers stated. A first HELLO segment is kept;
the second one answers a handshake in progress again, or opens a session in AUTH_WAIT with its keys and sends SERVER_HELLO and AUTH, or where the
shared secret is zero a RESET. An AUTH segment is kept; the last one establishes the session where the signature, the chain and the admission hold,
and else closes it with AUTH_FAILED. KEY_UPDATE takes the next key; the time-outs act at their time. Rests on 02_seal_transport.md. -/
def Obligations.SessionHandshakeCommandsComplete : Prop :=
  (∀ (s u : State) (f : NorthIn) (rate : Nat),
    let recent := u.queue.helloTimes.filter (fun t => decide (u.now < t + second))
    f.opcode = 1 → s.takeDatagram f = (u, true) → f.prot = false → f.session = 0 → recent.length < 2000 →
    (f.word = 0 → f.payload.length = 1024 → f.last = false → tget u.queue.halves (2 * f.sender + 1) = none →
      ∃ t, exec (.clientHello f rate) s = .next t ∧ u.agreeBut [.queue] t ∧
        tget t.queue.halves (2 * f.sender) = some { at' := u.now, bytes := f.payload } ∧ t.queue.helloTimes = recent ++ [u.now]) ∧
    (f.word = 1024 → f.payload.length = 624 → f.last = true → ∀ (h : HalfHello) (v : State) (hello : List Byte), tget u.queue.halves (2 * f.sender) = some h →
      v = u.updQueue (fun q => { q with helloTimes := recent ++ [u.now], halves := tdel q.halves (2 * f.sender) }) → hello = h.bytes ++ f.payload →
      (∀ (sid : Nat) (x : Session), v.queue.sessions.find? (fun kv => kv.2.state == .authWait && kv.2.random == beAt hello 16 32) = some (sid, x) →
        ∃ t, exec (.clientHello f rate) s = .next t ∧ t = v.sendHello f.mac f.ends sid x.hello x.ownAuth) ∧
      (v.queue.sessions.find? (fun kv => kv.2.state == .authWait && kv.2.random == beAt hello 16 32) = none → v.awlServes = true →
        bitOf (beAt hello 0 16) 0 = true → v.queue.sessions.length < 16384 → ∀ (sh : Share) (w : State), v.share (beAt hello 48 32) (slice hello 80 1568) = (sh, w) →
        ∃ t, exec (.clientHello f rate) s = .next t ∧ match sh.shared with
          | some (ssk, ssx) => ∃ (sid : Nat) (y : Session) (z : State), z.session sid = some y ∧ y.state = .authWait ∧ y.random = beAt hello 16 32 ∧
              y.features = (beAt hello 0 16 &&& 0x1FF &&& v.dictVal 0x2001 0) ∧ y.th = transcript hello y.hello ∧
              y.rxKey = beAt (keyMaterial ssk ssx y.th "LGE9120 seal transport") 0 32 ∧ y.txKey = beAt (keyMaterial ssk ssx y.th "LGE9120 seal transport") 32 32 ∧
              t = z.sendHello f.mac f.ends sid y.hello y.ownAuth
          | none => t = w.sendPlain f.mac f.ends opReset 0 cAuthFailed []))) ∧
  (∀ (s u v : State) (f : NorthIn) (x : Session) (sender sid : Nat) (segs : List (Nat × List Byte)) (anchors : List Anchor) (admitted : Bool),
    (∀ (k : Nat) (h : HalfHello), s.queue.halves.find? (fun kv => kv.1 / 2 == sender) = some (k, h) →
      ∃ t, exec (.clientHelloSegmentTimeout sender) s = .next t ∧ tget t.queue.halves k = none ∧ t.queue.halfDrops = s.queue.halfDrops + 1 ∧
        t.now = max s.now (h.at' + 100 * msec)) ∧
    (s.acceptNorth f opAuth = (u, true) → u.session f.session = some x → x.state = .authWait → segs = authSegments x.auth f.word f.last f.payload →
      v = u.setSession f.session { x with auth := segs } →
      (authMessage segs = none → ∃ t, exec (.auth f anchors admitted) s = .next t ∧ t = v) ∧
      (∀ msg : List Byte, authMessage segs = some msg → ∃ t, exec (.auth f anchors true) s = .next t ∧ match v.clientOf anchors x.th msg with
        | some client => ∃ w : State, w.session f.session = some { x with state := .established, client := client, auth := [] } ∧ v.agreeBut [.queue] w ∧ t = w.status f.session opAuth cOk
        | none => t = (v.sendFrame f.session opReset 0 cAuthFailed []).closeSession f.session true) ∧
      (∀ msg : List Byte, authMessage segs = some msg → ∃ t, exec (.auth f anchors false) s = .next t ∧ t = (v.sendFrame f.session opReset 0 cAuthFailed []).closeSession f.session true)) ∧
    (s.session sid = some x → x.state = .authWait →
      ∃ t, exec (.authWaitTimeout sid) s = .next t ∧ t = (s.advanceTo (x.helloAt + 2 * second)).closeSession sid true) ∧
    (s.acceptNorth f opKeyUpdate = (u, true) → u.session f.session = some x → f.word = x.keyGen + 1 →
      ∃ t, exec (.keyUpdate f) s = .next t ∧ u.agreeBut [.queue] t ∧
        t.session f.session = some { x with prevKey := some (x.rxKey, u.now + 3 * rtoCeiling), rxKey := nextKey x.rxKey "LGE9120 ST update", keyGen := x.keyGen + 1 }) ∧
    (s.session sid = some x → ∀ k e, x.prevKey = some (k, e) →
      ∃ t, exec (.prevKeyErase 0 sid) s = .next t ∧ t.session sid = some { x with prevKey := none } ∧ t.now = max s.now e))

/-- Closing, resetting and timing out a session ends it as Table 2-4 states, with its keys erased where stated. CLOSE, CLOSE_ACK, RESET and the time-outs
answer a next state in which the session is closed or released; a session closed with erasure holds no keys. Rests on 02_seal_transport.md, Table 2-4. -/
def Obligations.SessionCloseCommandsComplete : Prop :=
  (∀ (s u : State) (f : NorthIn) (x : Session) (sid : Nat),
    (s.acceptNorth f opClose = (u, true) → u.session f.session = some x → x.state ≠ .authWait →
      ∃ t, exec (.close f) s = .next t ∧ t = (u.closeSession f.session false).sendFrame f.session opCloseAck 0 0 []) ∧
    (s.acceptNorth f opClose = (u, true) → u.session f.session = some x → x.state = .authWait →
      ∃ t, exec (.close f) s = .next t ∧ t = (u.sendFrame f.session opCloseAck 0 0 []).closeSession f.session true) ∧
    (s.acceptNorth f opCloseAck = (u, true) → u.session f.session = some x → x.closeSent = true →
      ∃ t, exec (.closeAck f) s = .next t ∧ t = u.closeSession f.session false) ∧
    (f.opcode = opKeepalive → s.takeDatagram f = (u, true) → u.session f.session = some x → u.tagGood x f = true → f.payload.length ≤ x.maxPayload → x.state ≠ .closed →
      inRanges f.pn x.received = false → x.unacked + 1 < 8 → ∃ t, exec (.keepalive f) s = .next t ∧ u.agreeBut [.queue] t ∧
        t.session f.session = some { x with received := insertNum f.pn x.received, lastFrame := u.now, unacked := x.unacked + 1, firstUnacked := some (x.firstUnacked.getD u.now) }) ∧
    (s.acceptNorth f opReset = (u, true) → u.session f.session = some x →
      ∃ t, exec (.reset f) s = .next t ∧ t = u.closeSession f.session (x.state == .authWait)) ∧
    (s.session sid = some x → x.state = .established →
      ∃ t, exec (.sessionIdleTimeout sid) s = .next t ∧ t = (s.advanceTo (x.lastFrame + s.dictVal 0x2000 4 * msec)).closeSession sid false) ∧
    (s.session sid = some x → ∀ c, x.closedAt = some c → s.south.restores.all (fun kv => kv.2.session != sid) = true →
      ∃ t, exec (.sessionRelease sid) s = .next t ∧ t.session sid = none ∧ t.south.waiting = s.south.waiting.filter (fun w => w.session != sid) ∧
        t.now = max s.now (c + 3 * rtoCeiling))) ∧
  (∀ (s : State) (sid : Nat) (x : Session), s.session sid = some x → s.sessionQueues sid = [] →
    (∃ y, (s.closeSession sid true).session sid = some y ∧ y.state = .closed ∧ y.closedAt = some s.now ∧ y.erased = true ∧ y.rxKey = 0 ∧ y.txKey = 0 ∧
      y.rxSalt = 0 ∧ y.txSalt = 0 ∧ y.prevKey = none ∧ y.sent = [] ∧ s.agreeBut [.queue] (s.closeSession sid true)) ∧
    (∃ y, (s.closeSession sid false).session sid = some y ∧ y.state = .closed ∧ y.closedAt = some s.now ∧ y.rxKey = x.rxKey ∧ y.txKey = x.txKey ∧
      s.agreeBut [.queue] (s.closeSession sid false)))

/-- Acknowledgements, retransmissions, probes and path commands complete with their effect on the path. The commands of acknowledgement, loss and path
supervision answer a next state with the stated path, counters and frames. Rests on 02_seal_transport.md. -/
def Obligations.AcknowledgementAndPathCommandsComplete : Prop :=
  ∀ (s u : State) (f : NorthIn) (x : Session) (sid pn path : Nat) (p : Path),
    (s.acceptNorth f opAck false = (u, true) → u.session f.session = some x → (∀ delay first gaps, ackPayload f.payload = some (delay, first, gaps) → ackedRanges f.word first gaps = none) →
      ∃ t, exec (.ack f) s = .next t ∧ u.agreeBut [.queue] t ∧
        t.queue.badAcks = u.queue.badAcks + 1) ∧
    (s.acceptNorth f opAck false = (u, true) → u.session f.session = some x → u.south.restores = [] →
      ∀ delay first gaps rs, ackPayload f.payload = some (delay, first, gaps) → ackedRanges f.word first gaps = some rs → x.sent.all (fun g => inRanges g.1 rs) = true →
      ∃ t v : State, exec (.ack f) s = .next t ∧ (∃ y, v.session f.session = some y ∧ y.sent = []) ∧ u.agreeBut [.queue] v ∧
        t = v.pumpRestores) ∧
    (s.session sid = some x → ∀ t0, x.firstUnacked = some t0 →
      ∃ t, exec (.ackDelayTimer false sid) s = .next t ∧ t = (s.advanceTo (t0 + 10 * usec)).sendAck sid) ∧
    (s.session sid = some x → ∀ g, tget x.sent pn = some g → tget x.paths g.path = some p → p.expiries = 0 →
      ∃ t v : State, exec (.rtoExpiry sid pn) s = .next t ∧ (∃ y, v.session sid = some y ∧ tget y.paths g.path = some (p.expire rtoCeiling)) ∧
        v.now = max s.now (g.at' + p.rto) ∧ t = v.resendFrame sid pn) ∧
    (s.session sid = some x → tget x.paths path = some p → p.failed = true →
      ∃ t v : State, exec (.pathReprobe false sid path) s = .next t ∧
        (∃ y, v.session sid = some y ∧ tget y.paths path = some { p with lastProbe := v.now, probe := p.probe + 1, probeAcked := false }) ∧
        v.now = max s.now (p.lastProbe + 10 * msec) ∧ t = v.sendOn sid path opPathProbe 2 0 (p.probe + 1) []) ∧
    (s.session f.session = some x → tget x.paths f.path = some p → p.failed = true → p.probeAcked = true →
      ∃ t v : State, exec (.pathProbe f true) s = .next t ∧
        (∃ y, v.session f.session = some y ∧ tget y.paths f.path = some { p with failed := false, expiries := 0, probeAcked := false }) ∧ t = v.northUp p.port) ∧
    (s.acceptNorth f opPathAdd = (u, true) → u.session f.session = some x → x.has 1 = true → tget x.paths f.path = none → x.paths.any (fun kv => kv.2.over f.ends) = false →
      ∃ t v : State, exec (.pathAdd f) s = .next t ∧
        v.session f.session = some { x with paths := tput x.paths f.path { newPath f.word f.mac u.northRto true with ends := f.ends } } ∧ u.agreeBut [.queue] v ∧
        t = v.sendOn f.session f.path opPathConfirm 2 0 f.word []) ∧
    (∀ port, port < 16 → u = s.raise (srcNpPortFail port) → u.queue.sessions = [] →
      ∃ t, exec (.northPathFault port) s = .next t ∧ port ∈ t.queue.downMacs ∧ u.agreeBut [.queue] t) ∧
    (s.session sid = some x → x.state = .established → s.engineRuns = true →
      ∃ t, exec (.keepaliveTimer sid) s = .next t ∧ t = (s.advanceTo (max x.lastFrame x.lastSent + s.dictVal 0x2000 3 * msec)).sendFrame sid opKeepalive 0 0 [])

/-- Queue commands complete: a queue opens, closes and times out, and its state is as stated. The commands on queues of a session answer a next state with
the queue's stated state and answer. Rests on 02_seal_transport.md, 01_architecture.md. -/
def Obligations.QueueContextCommandsComplete : Prop :=
  ∀ (s u : State) (f : NorthIn) (x : Session) (q : Queue) (n : Nat),
    (s.acceptNorth f opQueueOpen = (u, true) → u.session f.session = some x → f.len = 20 → beAt f.payload 6 2 = 0 → ∀ ns : Nat, ns = beAt f.payload 0 2 → ns < 4096 →
      u.openRefused x ns (u.resolveCode ns (beAt f.payload 2 1) (beAt f.payload 3 1) (beAt f.payload 4 1) (beAt f.payload 5 1)) = none →
      u.freeQueue = some n → ∃ t v w : State, exec (.queueOpen f) s = .next t ∧ v = (u.draw 64).2 ∧ v.agreeBut [.queue] w ∧
        t = w.sendOpened f.session f.word n ((w.queue? n).getD q) ∧ ∃ y, w.queue? n = some y ∧ y.state = .openQ ∧ y.ns = ns ∧ y.session = f.session ∧ y.client = x.client ∧
        y.credit = 0 ∧ y.contiguous = 0 ∧ y.nextSeq = 0 ∧ y.open' = none) ∧
    (s.acceptNorth f opQueueOpen = (u, true) → u.session f.session = some x → f.len = 20 → beAt f.payload 6 2 = 1 → beAt f.payload 0 2 < 4096 → u.queue? (beAt f.payload 8 4) = some q →
      x.has 8 = true → q.state = .detached → q.client = x.client → q.tag = beAt f.payload 12 8 → u.nsAdmits q.ns x.client = true → ∀ r : Queue,
      r = { q with state := .openQ, session := f.session, detachExpiry := none, staged := q.staged && x.has 2, unknownLen := x.has 7, lastActivity := u.now } →
      ∃ t, exec (.queueOpen f) s = .next t ∧ t = ((u.setQueue (beAt f.payload 8 4) r).sendOpened f.session f.word (beAt f.payload 8 4) r).pump (beAt f.payload 8 4)) ∧
    (s.acceptNorth f opQueueClose = (u, true) → u.frameQueue f = some q → f.payload = [] → q.open' = none →
      ∃ t, exec (.queueClose f) s = .next t ∧ t = (u.sendFrame f.session opQueueClosed f.stream 0 []).detachQueue f.stream) ∧
    (∀ o : Nat, s.acceptNorth f opQueueClose = (u, true) → u.frameQueue f = some q → f.payload = [] → q.open' = some o →
      ∃ t, exec (.queueClose f) s = .next t ∧ t = u.status f.session opQueueClose cObjectOpen f.stream) ∧
    (s.queue? n = some q → ∀ o : Nat, q.open' = some o → (s.queueExtents n).any (fun kv => kv.2.obj == o && s.partly q kv.2) = true →
      ∃ t, exec (.queueIdleTimeout n) s = .next t ∧ t = (s.advanceTo (q.lastActivity + s.dictVal 0x2000 5 * msec)).abortObject o cStalled) ∧
    (s.queue? n = some q → ∀ e : Nat, q.detachExpiry = some e → q.state = .detached →
      ∃ t, exec (.receiptHoldExpiry n) s = .next t ∧ t.queue? n = none ∧ s.agreeBut [.queue, .now, .rtc, .kennel] t ∧ t.now = max s.now e)

/-- Object and extent commands and the requests of a client complete with their effect on the object and its answer. Opening, filling, ending and aborting
an object, and each request, answer a next state with the stated object, credit and answer. Rests on 02_seal_transport.md, 01_architecture.md. -/
def Obligations.ObjectAndRequestCommandsComplete : Prop :=
  (∀ (s u : State) (f : NorthIn) (q : Queue) (x : Obj) (o : Nat),
    (s.acceptNorth f opObjBegin = (u, true) → u.frameQueue f = some q → f.len = 8 → u.beginRefused q f.word (beAt f.payload 0 8) = none →
      ∃ t v : State, exec (.objBegin f) s = .next t ∧
        v.queue? f.stream = some { q with nextSeq := q.nextSeq + 1, open' := some (objectId q.ns (u.takeCounter q.ns).1), lastActivity := v.now } ∧
        (∃ y, v.object (objectId q.ns (u.takeCounter q.ns).1) = some y ∧ y.state = .openObj ∧ y.first = f.word ∧ y.seq = q.nextSeq ∧ y.queue = f.stream ∧ y.granted = 0) ∧
        (u.takeCounter q.ns).2.agreeBut [.queue] v ∧ ∃ bytes, t = v.sendFrame f.session opObjId f.stream f.word bytes) ∧
    (∀ e : Nat, s.acceptNorth f opObjBegin = (u, true) → u.frameQueue f = some q → f.len = 8 → u.beginRefused q f.word (beAt f.payload 0 8) = some e →
      ∃ t, exec (.objBegin f) s = .next t ∧ t = u.status f.session opObjBegin e f.stream f.word) ∧
    (s.acceptNorth f opData false = (u, true) → u.frameQueue f = some q → u.queueExtents f.stream = [] → ∀ data : List Byte, data = f.payload → data ≠ [] → f.word = q.contiguous →
      q.contiguous + data.length ≤ q.credit → putSegment q.contiguous data q.received = [(q.contiguous, data)] → ∀ v : State,
      v = (u.setQueue f.stream { q with lastActivity := u.now }).acknowledge f.session f.pn → ∃ t, exec (.data f) s = .next t ∧ v.agreeBut [.queue] t ∧ t.queue.bytesIn = v.queue.bytesIn + data.length ∧
        t.queue? f.stream = some { q with received := [(q.contiguous, data)], contiguous := q.contiguous + data.length, lastActivity := u.now }) ∧
    (s.acceptNorth f opObjEnd = (u, true) → u.frameQueue f = some q → q.open' = some o → u.object o = some x → f.payload = [] → ∀ word : Nat, word = f.word → x.first ≤ word →
      (x.declared = some (word - x.first) ∨ x.declared = none ∧ q.top ≤ word) →
      word - x.first ≤ 2 ^ 48 → ∃ t v : State, exec (.objEnd f) s = .next t ∧ t = (v.settleObject o).pump f.stream ∧
        v.object o = some { x with length := some (word - x.first), state := .ended, granted := min x.granted (word - x.first) } ∧
        v.queue? f.stream = some { q with open' := none, nextOff := word, credit := min q.credit word } ∧ (u.cutExtents o x (word - x.first)).agreeBut [.queue] v) ∧
    (s.acceptNorth f opObjEnd = (u, true) → u.frameQueue f = some q → q.open' = some o → u.object o = some x → f.payload = [] → ∀ d : Nat, x.declared = some d → x.first ≤ f.word → d ≠ f.word - x.first →
      ∃ t, exec (.objEnd f) s = .next t ∧ t = u.abortObject o cLengthMismatch false opObjEnd) ∧
    (s.acceptNorth f opObjAbort = (u, true) → u.frameQueue f = some q → q.open' = some o → u.object o = some x → f.payload = [] → x.first = f.word →
      ∃ t, exec (.objAbort f) s = .next t ∧ t = u.abortObject o cAborted false opObjAbort) ∧
    (s.sealService = true → ∀ n : Nat, s.nextCredit = some (n, q) → s.wantsExtent n = some (o, x) → x.total = none → s.queue.ingestUsed + extBytes x.ext ≤ 72 * 1048576 →
      ∀ ingest restore : Nat, s.rateAllows x.k x.m x.ext ingest restore = true → spreadOk x.k x.m s.chanCount = true → q.credit < x.first + x.granted + extBytes x.ext →
      ∃ t v : State, exec (.creditGrant ingest restore) s = .next t ∧ v.object o = some { x with granted := x.granted + extBytes x.ext } ∧ s.agreeBut [.queue] v ∧
        v.queue? n = some { q with credit := x.first + x.granted + extBytes x.ext } ∧ v.queue.ingestUsed = s.queue.ingestUsed + extBytes x.ext ∧
        (∃ e, v.extent (extKey o (x.granted / extBytes x.ext)) = some e ∧ e.phase = .granted ∧ e.len = extBytes x.ext) ∧
        t = v.sendFrame q.session opCredit n (x.first + x.granted + extBytes x.ext) [])) ∧
  (∀ (s u : State) (f : NorthIn) (x : Session) (obj : Nat),
    (s.acceptNorth f opReceiptGet = (u, true) → u.session f.session = some x → f.len = 16 → obj = beAt f.payload 0 16 → u.nsAdmits (obj / 2 ^ 116) x.client = true →
      ∃ t, exec (.receiptGet f) s = .next t ∧ t = u.serve { kind := .receipt, session := f.session, tag := f.word, obj := obj, offset := 0, length := 0 }) ∧
    (s.acceptNorth f opReceiptGet = (u, true) → u.session f.session = some x → f.len = 16 → obj = beAt f.payload 0 16 → u.nsAdmits (obj / 2 ^ 116) x.client = false →
      ∃ t, exec (.receiptGet f) s = .next t ∧ t = u.status f.session opReceiptGet cNotAdmitted 0 f.word 0 obj) ∧
    (s.acceptNorth f opEpochGet = (u, true) → f.payload = [] → ∃ t, exec (.epochGet f) s = .next t ∧
      t = u.serve { kind := .epoch, session := f.session, tag := 0, obj := f.word, offset := 0, length := 0 }) ∧
    (s.acceptNorth f opRestoreReq = (u, true) → u.session f.session = some x → f.len = 32 → obj = beAt f.payload 0 16 → x.has 4 = true →
      (x.has 5 = true ∨ u.partRange obj (beAt f.payload 16 8) (beAt f.payload 24 8) = false) → u.nsAdmits (obj / 2 ^ 116) x.client = true →
      ∃ t, exec (.restoreReq f) s = .next t ∧
        t = u.serve { kind := .restore, session := f.session, tag := f.word, obj := obj, offset := beAt f.payload 16 8, length := beAt f.payload 24 8 }) ∧
    (s.acceptNorth f opCredit = (u, true) → f.payload = [] → 2 ^ 31 ≤ f.stream → ∀ (r : Restore) (limit : Nat), limit = f.word → tget u.south.restores (restoreKey f.session (f.stream % 1024)) = some r → r.credit < limit →
      ∃ t, exec (.credit f) s = .next t ∧ u.agreeBut [.south] t ∧
        tget t.south.restores (restoreKey f.session (f.stream % 1024)) = some { r with credit := limit, progress := u.now }))

/-- Restores, evacuations, regenerations and drains proceed as stated. The commands of a restore, of an evacuation, of a regeneration and of the drain
answer a next state with the stated jobs, fragments and answers. Rests on 07_shelves_drain_restore.md. -/
def Obligations.RestoreEvacuationAndDrainCommandsComplete : Prop :=
  (∀ (s u : State) (m : SouthIn) (r : Restore) (x : Session) (e : RestoreExt) (handle idx unit : Nat),
    (s.restore handle = some r → s.session r.session = some x → r.ext? (r.sent / extBytes r.ext) = some e → e.verified = true → s.safe = false → r.ended = false → x.state = .established →
      ∀ n : Nat, n = min (min (min r.credit r.upTo - r.sent) x.maxData) (extBytes r.ext - r.sent % extBytes r.ext) → n ≠ 0 → r.sent + n ≠ r.upTo →
      ∃ t v : State, exec (.restoreDataSend handle) s = .next t ∧ v = s.sendFrame r.session opData (handleStream r.handle) r.sent (slice e.bytes (r.sent % extBytes r.ext) n) ∧
        v.agreeBut [.queue, .south] t ∧ t.south.restores = tmod v.south.restores handle (fun r => { r with sent := r.sent + n })) ∧
    (s.restore handle = some r → s.session r.session = some x → r.ext? (r.sent / extBytes r.ext) = some e → e.verified = true → s.safe = false → r.ended = false → x.state = .established →
      ∀ n : Nat, n = min (min (min r.credit r.upTo - r.sent) x.maxData) (extBytes r.ext - r.sent % extBytes r.ext) → n ≠ 0 → r.sent + n = r.upTo →
      ∃ t v w : State, exec (.restoreDataSend handle) s = .next t ∧ v = s.sendFrame r.session opData (handleStream r.handle) r.sent (slice e.bytes (r.sent % extBytes r.ext) n) ∧
        v.agreeBut [.queue, .south] w ∧ w.south.restores = tmod v.south.restores handle (fun r => { r with sent := r.sent + n }) ∧ t = w.finishRestore handle) ∧
    (s.restore handle = some r → r.exts.any (fun e => !e.ranges.isEmpty && !e.taken) = true →
      ∃ t, exec (.restoreIdleTimeout handle) s = .next t ∧ t = (s.advanceTo (r.progress + s.dictVal 0x2000 7 * second)).endRestore handle cStalled) ∧
    (s.restore handle = some r → r.held = true → ∃ t, exec (.restoreBufferWait handle) s = .next t ∧ t = s.pumpRestore handle) ∧
    (∀ (c : Nat) (y : StitchCtx) (g : RangeRec) (v : State), s.running unit = some (c, y) → y.next = y.first + y.rows → y.agrees = true → y.job = .unseal handle idx →
      v = s.updRanges y.job (fun rs => rs.map (fun g => if g.first = y.first ∧ g.rows = y.rows then { g with phase := .done, acc := y.partial', unit := unit } else g)) →
      (v.jobRanges y.job).find? (fun g => g.first == y.first) = some g →
      ∃ t, exec (.rangeDone unit) s = .next t ∧ t = ((v.sendPartial y.job g).dropCtx unit c).pumpRestore handle) ∧
    (s.restore handle = some r → r.ext? idx = some e → ∀ i : JobInfo, s.jobInfo (.unseal handle idx) = some i → e.verified = false → e.ranges ≠ [] →
      e.ranges.all (fun g => g.phase == .done) = true → s.rangesTag i e.ranges = some (recTag e.record) →
      ∃ t, exec (.unsealTagCheck handle idx) s = .next t ∧ t = (s.updRestoreExt handle idx (fun e => { e with verified := true, available := [], candidates := [] })).settleLater.pumpHeld) ∧
    (s.restore handle = some r → r.ext? idx = some e → ∀ (i : JobInfo) (tag : Nat), s.jobInfo (.unseal handle idx) = some i → e.verified = false → e.ranges ≠ [] →
      e.ranges.all (fun g => g.phase == .done) = true → s.rangesTag i e.ranges = some tag → tag ≠ recTag e.record →
      u = ((s.stuCode e.lead 0x30).bump Reg.RST_EVENTS.TAG_FAIL).raise srcRstTagFail → u.rd Reg.RST_CFG.TAG_RETRIES ≤ e.retries →
      ∃ t, exec (.unsealTagCheck handle idx) s = .next t ∧ t = u.endRestore handle cIntegrity) ∧
    (s.acceptSouth m 0x31 = (u, true) → ∀ f : Fetch, tget u.south.fetches (fetchKey m.shelf m.xid) = some f → f.parts = [] → f.runs = [] → m.last = false → f.endAt = none →
      ∃ t, exec (.getData m) s = .next t ∧ u.agreeBut [.south] t ∧
        tget t.south.fetches (fetchKey m.shelf m.xid) = some { f with begun := true, parts := [(m.word, m.payload)] }) ∧
    (∀ (shelf xid : Nat) (f : Fetch), tget s.south.fetches (fetchKey shelf xid) = some f → f.sent = true → f.begun = false →
      ∃ t, exec (.getTimeout shelf xid) s = .next t ∧ t = (s.advanceTo (f.sentAt + max 10 (s.rd Reg.FT_GETTMO.GET_MS) * msec)).failFetch (fetchKey shelf xid)) ∧
    (s.acceptSouth m 0x70 = (u, true) → m.len = 8 → beAt m.payload 1 3 = 0 → m.word ≠ 0 → ∃ t, exec (.ftStatus m) s = .next t ∧ t = u.failFetch (fetchKey m.shelf m.xid)) ∧
    (s.acceptSouth m 0x70 = (u, true) → m.len = 8 → beAt m.payload 1 3 = 0 → m.word = 0 → ∃ t, exec (.ftStatus m) s = .next t ∧ t = u) ∧
    (s.south.rebuildDue = true → s.south.rebuild = none → s.inSeal = true → s.south.catalogue = [] → tkeys s.south.assocs (fun _ a => a.complete) = [] →
      ∃ t, exec .catalogueRebuild s = .next t ∧ t = (s.updSouth (fun q => { q with rebuild := some s.affectedGroups, rebuilt := [] })).finishRebuild)) ∧
  (∀ (s : State) (m obj idx shelf : Nat),
    (m < 65536 → tget s.shepherd.media m = none → ∃ t, exec (.evacuate m) s = .next t ∧ s.agreeBut [.regs] t ∧ t.rd Reg.RPR_CMD.MEDIA = m ∧ t.rd Reg.RPR_CMD.ERR = 1) ∧
    (m < 65536 → ∀ x : Media, tget s.shepherd.media m = some x → x.state ≠ 2 → ∃ t, exec (.evacuate m) s = .next t ∧ s.agreeBut [.regs] t ∧ t.rd Reg.RPR_CMD.ERR = 2) ∧
    (m < 65536 → ∀ x : Media, tget s.shepherd.media m = some x → x.state = 2 → m ∉ s.south.evacuating → ∃ t v : State, exec (.evacuate m) s = .next t ∧
      s.agreeBut [.regs, .south] v ∧ v.south.evacuating = s.south.evacuating ++ [m] ∧ v.rd Reg.RPR_CMD.ERR = 0 ∧ v.rd Reg.RPR_CMD.MEDIA = m ∧ t = v.failMedium m true) ∧
    (m < 65536 → ∀ x : Media, tget s.shepherd.media m = some x → s.south.repairs = [] → ∃ t, exec (.evacuateCancel m) s = .next t ∧ s.agreeBut [.regs, .south] t ∧
      t.south.evacuating = s.south.evacuating.filter (· != m) ∧ t.rd Reg.RPR_CMD.ERR = 0) ∧
    (∀ x : Extent, s.extent (extKey obj idx) = some x → regenDue x = true → s.canRegenerate x = true →
      ∃ t, exec (.regeneration obj idx) s = .next t ∧ t = s.regenerateChecked (extKey obj idx)) ∧
    (∀ x : Extent, s.extent (extKey obj idx) = some x → regenDue x = true → s.canRegenerate x = true → x.frags.any (fun f => f.2.phase == .lost && f.2.moving == some 0) = true →
      ∃ t, exec (.regenPlaceWait obj idx) s = .next t ∧ t = s.regenerateChecked (extKey obj idx)) ∧
    ((s.shelf shelf).pstate = .on → s.safe = false → s.svc ≠ .dark → ∀ key d : Nat, s.nextCopy shelf = some (key, d) →
      ∃ t, exec (.drainSend shelf) s = .next t ∧ t = s.sendCopy shelf key d) ∧
    ((s.shelf shelf).pstate = .on → s.safe = false → s.svc ≠ .dark → s.nextCopy shelf = none → ∀ (e i : Nat) (x : Extent) (f : Fragment), s.nextDrain shelf = some (.ext e i) →
      s.extent e = some x → tget x.frags i = some f → (s.touchPages f.channel (runPages f.runs)).1 = none →
      (s.touchPages f.channel (runPages f.runs)).2.badPages (s.ownedBytes (.ext e i) - 128) f = [] → (s.touchPages f.channel (runPages f.runs)).2.extent e = some x →
      ∃ t v : State, exec (.drainSend shelf) s = .next t ∧ v = (s.touchPages f.channel (runPages f.runs)).2 ∧
        t = v.sendPut shelf (.ext e i) f x.record (v.fragPayload (s.ownedBytes (.ext e i) - 128) f)))

/-- Stitch unit commands complete: unit states, contexts, comparisons and completed ranges as stated. The commands on stitch units and on their work
answer a next state with the stated unit state, context, stripe and record. Rests on 03_stitch_units.md. -/
def Obligations.StitchCommandsComplete : Prop :=
  (∀ (s : State) (n : Nat), n < 12 →
    (∀ (code count : Nat) (v w : State), s.stu n = stBusy → 0x10 ≤ code → code ≤ 0x12 → (s.stuCode n code).countMismatch n = (v, count) → (code = 0x12 → v.owedRanges n = []) →
      w = (v.stopStitch n stSuspect).raise (srcStu n 0) →
      (count < max 1 (w.rd (Reg.STU_QPOL.LIMIT.nth n)) → ∃ t, exec (.stuCompareFail n code) s = .next t ∧ w.agreeBut [.stitch] t ∧ tget t.stitch.tests n = some .suspect) ∧
      (max 1 (w.rd (Reg.STU_QPOL.LIMIT.nth n)) ≤ count → ∃ t, exec (.stuCompareFail n code) s = .next t ∧
        t = ((w.updStitch (fun q => { q with tests := tdel q.tests n })).setStu n stQuarantined).raise (srcStu n 4))) ∧
    (∀ (sig : Nat) (why : TestReason), tget s.stitch.tests n = some why → why ≠ .rolling → ∃ t v : State, exec (.stuSelftestDone n .logic sig) s = .next t ∧
      s.agreeBut [.stitch] v ∧ tget v.stitch.tests n = none ∧
      t = (((v.testOver .stitch n .logic sig).flag (Reg.STU_ERR.SELFTEST_FAIL.nth n) true).setStu n stQuarantined).raise (srcStu n 3)) ∧
    (∀ sig : Nat, tget s.stitch.tests n = some .startup → ∃ t v : State, exec (.stuSelftestDone n .pass sig) s = .next t ∧ s.agreeBut [.stitch] v ∧ tget v.stitch.tests n = none ∧
      t = ((v.testOver .stitch n .pass sig).stitchServe n).backInService .stitch n) ∧
    (s.stu n = stOffline → s.sealRuns = true → ∃ t, exec (.stuEnWrite n true) s = .next t ∧ s.agreeBut [.regs, .stitch] t ∧ t.rd (Reg.STU_CTRL.EN.nth n) = 1 ∧
      tget t.stitch.tests n = some .startup) ∧
    (s.stu n = stIdle → ∃ t, exec (.stuEnWrite n false) s = .next t ∧ s.agreeBut [.regs] t ∧ t.rd (Reg.STU_CTRL.EN.nth n) = 0 ∧ t.stu n = stOffline) ∧
    (s.stu n = stBusy → ∃ t, exec (.stuEnWrite n false) s = .next t ∧ s.agreeBut [.regs] t ∧ t.rd (Reg.STU_CTRL.EN.nth n) = 0 ∧ t.stu n = stBusy) ∧
    (∃ t, exec (.stReq n) s = .next t ∧ s.agreeBut [.shepherd] t ∧ tget t.shepherd.due n = some s.now) ∧
    (s.stu n = stQuarantined → ∃ t, exec (.stuQrel n .keeper) s = .next t ∧ s.agreeBut [.regs, .stitch] t ∧ t.stu n = stSelfTest ∧ tget t.stitch.tests n = some .release) ∧
    (∃ t, exec (.stuQrel n .tack) s = .next t ∧ t = s)) ∧
  (∀ (s : State) (n c obj idx : Nat) (y : StitchCtx) (x : Extent),
    (s.extent (extKey obj idx) = some x → x.phase = .admitted → s.sealRuns = true → ∀ (k range unit cx : Nat) (r : RangeRec), s.resolveSlot (x.obj / 2 ^ 116) x.epoch = some k →
      x.ranges[range]? = some r → r.phase = .waiting → r.rerun = false → badDescriptor { obj := x.obj, idx := x.idx, len := x.len, k := x.k, m := x.m, epoch := x.epoch, slot := k } r = false → range ≠ 0 → ∀ v : State, v = (s.useKey (x.obj / 2 ^ 116) x.epoch).setExtent (extKey obj idx) { x with slot := k } →
      v.rangePresent { x with slot := k } r = true →
      (v.stitchChoice).filter (fun n => decide (n ∉ x.ranges.filterMap (fun r => if r.phase = .waiting then none else some r.unit))) = [unit] → v.freeCtx unit = some cx →
      ∃ t, exec (.rangeHandover obj idx range) s = .next t ∧ t = (v.assign unit cx (newCtx (.seal (extKey obj idx)) r)).fixLead (.seal (extKey obj idx))) ∧
    (s.running n = some (c, y) → s.rerunWaits n c = true → (s.atBoundary y = true ∨ s.rowPresent y = false) →
      ∃ t, exec (.contextSwitch n) s = .next t ∧ s.agreeBut [.stitch] t ∧ tget t.stitch.current n = some 2) ∧
    (s.running n = some (c, y) → s.rerunWaits n c = false → s.rowPresent y = false → c = 0 → ∀ z, tget s.stitch.ctxs (ctxKey n 1) = some z → s.rowPresent z = true →
      ∃ t, exec (.contextSwitch n) s = .next t ∧ s.agreeBut [.stitch] t ∧ tget t.stitch.current n = some 1) ∧
    (∀ pipe : Nat, n < 12 → pipe < 2 → s.isSet Reg.TRNG_STATUS.FAIL = false → ∃ t, exec (.maskReseed n pipe) s = .next t ∧ s.agreeBut [.stitch, .draws] t ∧
      tget t.stitch.masks (n * 2 + pipe) = some (MaskGen.absorb (tget s.stitch.masks (n * 2 + pipe)) pipe (s.draw 256).1) ∧
      t.maskUsed n pipe = 0 ∧ tget t.stitch.stalled (n * 2 + pipe) = none ∧ t.draws = s.draws + 1) ∧
    (∀ pipe : Nat, s.running n = some (c, y) → 65536 ≤ s.maskUsed n pipe → ∃ t, exec (.reseedLate n pipe) s = .next t ∧
      t = ((((((s.advanceTo (tgetD s.stitch.stalled (n * 2 + pipe) s.now + 100 * usec)).stuCode n 0x40).flag (Reg.STU_ERR.RESEED_LATE.nth n) true).dropCtx n c).rerun n y).raise (srcStu n 2))) ∧
    (s.running n = some (c, y) → ∀ e : Nat, y.job = .seal e →
      (∃ t, exec (.plaintextPoison n true) s = .next t ∧ s.agreeBut [.regs] t ∧ t.rd (Reg.STU_ERR.POISON.nth n) = 1) ∧
      (∀ v : State, v = ((s.stuCode n 0x20).flag (Reg.STU_ERR.INPUT_LOST.nth n) true).dropCtx n c → ∀ z, v.extent e = some z →
        ∃ t, exec (.plaintextPoison n false) s = .next t ∧ t = v.abortObject z.obj cIntegrity false opData 0x20)) ∧
    (∀ u : State, s.precede n = u → u.running n = some (c, y) →
      (y.aborting = true → ∃ t, exec (.rowRelease n) s = .next t ∧ t = (u.stuCode n 0x50).dropCtx n c) ∧
      (∀ (i : JobInfo) (key e need : Nat) (pt : List Byte), y.aborting = false → y.next < y.first + y.rows → u.jobInfo y.job = some i → y.key = some key → y.agrees = true →
        y.job = .seal e → u.extent e = some x → u.extentPlain x (64 * i.k * y.next) (min (64 * i.k) (i.len - 64 * i.k * y.next)) = some pt → u.bufferRoom n e x y = true →
        need = ceilDiv (min (64 * i.k) (i.len - 64 * i.k * y.next)) 16 - y.taken → need ≤ u.blocksNow n c i y need →
        ∃ t, exec (.rowRelease n) s = .next t ∧ t = u.sealRow n c y e x key pt)) ∧
    (∀ (first : Nat) (r : RangeRec) (acc : Shares), (s.jobRanges (.seal (extKey obj idx))).find? (fun r => r.first == first && r.phase == .done) = some r →
      acc = r.acc.refresh 128 (maskBits ((s.stepMask r.unit 0).maskGen r.unit 0).out 0 256) →
      ∃ t v : State, exec (.ghashPartial obj idx first) s = .next t ∧ s.agreeBut [.stitch, .queue] v ∧
        t = v.emit (.keyBus (.stitch (v.jobLead (.seal (extKey obj idx))))) 0x01 [r.unit, r.first, r.rows, acc.a, acc.b, acc.c]) ∧
    (∀ (i : JobInfo) (tag : Nat), s.extent (extKey obj idx) = some x → s.jobInfo (.seal (extKey obj idx)) = some i → x.phase = .admitted → x.frags ≠ [] → x.ranges ≠ [] →
      x.ranges.all (fun r => r.phase == .done) = true → x.final ≠ none → s.rangesTag i x.ranges = some tag →
      ∃ t, exec (.tagCombine obj idx) s = .next t ∧ t = (s.setExtent (extKey obj idx) { x with tag := some tag, phase := .sealed }).freeIngest (extKey obj idx)))

/-- Self-test scheduling and the Shepherd's commands complete as stated. The commands of the rolling self-tests, of units taken out and returned, of media
and of check-in answer a next state with the stated tables, registers and records. Rests on 05_shepherd_placement.md, 20_clocks_power_reset.md. -/
def Obligations.SelfTestAndShepherdCommandsComplete : Prop :=
  (∀ (s : State) (kind : UnitKind) (unit : Nat),
    (∀ (due load : Nat), tget s.shepherd.due (dueKey kind unit) = some due → due ≤ s.now →
      (kind = .stitch ∧ s.stuHealthy unit = true ∨ kind = .sponge ∧ s.spgHealthy unit = true ∨ kind = .awl ∧ s.awlHealthy unit = true) → s.fromFullerPool kind unit = true →
      s.shepherd.asked.any (fun kv => kv.1 / 256 == dueKey kind unit / 256) = false → s.kindOut kind = false → s.testEnabled kind = true → s.loadAllows kind load = true → s.safe = false →
      ∃ t v : State, exec (.rollingSelftestGrant kind unit load) s = .next t ∧ s.agreeBut [.shepherd] v ∧ tget v.shepherd.asked (dueKey kind unit) = some s.now ∧
        t = v.settleTest kind unit) ∧
    (∀ at' due : Nat, tget s.shepherd.asked (dueKey kind unit) = some at' → s.kindOut kind = false → tget s.shepherd.due (dueKey kind unit) = some due →
      ∃ t, exec (.rollingSelftestWithdraw kind unit) s = .next t ∧ s.agreeBut [.shepherd, .now, .rtc, .kennel] t ∧ t.now = max s.now (at' + 20 * msec) ∧
        tget t.shepherd.asked (dueKey kind unit) = none ∧ tget t.shepherd.due (dueKey kind unit) = some (due + testInterval kind)) ∧
    (∀ v : State, s.lateTest kind unit 1 = some v → dueKey kind unit ∉ v.shepherd.deferred → ∃ t w : State, exec (.selftestDeferred kind unit) s = .next t ∧
      v.agreeBut [.shepherd] w ∧ w.shepherd.deferred = v.shepherd.deferred ++ [dueKey kind unit] ∧ t = w.testRecord 0x0504 kind unit 0 0) ∧
    (∀ v : State, s.lateTest kind unit 4 = some v → dueKey kind unit ∉ v.shepherd.overdue → ∃ t w : State, exec (.shpStOverdue kind unit) s = .next t ∧
      v.agreeBut [.shepherd] w ∧ w.shepherd.overdue = v.shepherd.overdue ++ [dueKey kind unit] ∧ t = w.raise srcShpStOverdue (kindCode kind * 256 + unit)) ∧
    (∀ load : Nat, unit < 16 → s.nightWindow = true → s.testEnabled .pair = true → s.kindOut .pair = false → s.isSet Reg.SHP_ST_OUT.DUE_ACT = false → s.pstate unit = 0 → ∀ d : Nat,
      tget s.shepherd.due (dueKey .pair unit) = some d → d ≤ s.now → (∀ n : Nat, tget s.shepherd.notBefore unit = some n → n ≤ s.now) → s.pairsCarry load = true → load < s.rd Reg.SHP_ST_CTRL.LOAD_PCT → s.safe = false → ∃ t v : State, exec (.coreTestRequest unit load) s = .next t ∧ s.agreeBut [.regs, .shepherd] v ∧
        v.rd Reg.SHP_ST_OUT.CORE_DUE = unit ∧ v.rd Reg.SHP_ST_OUT.DUE_ACT = 1 ∧ v.shepherd.dueAt = some s.now ∧ t = v.interrupt srcCoreStReq) ∧
    (∀ p : Nat, p < 16 → s.isSet Reg.SHP_ST_OUT.DUE_ACT = true → s.rd Reg.SHP_ST_OUT.CORE_DUE = p → ∃ t v : State, exec (.shpCoreRel p false) s = .next t ∧
      s.agreeBut [.regs, .shepherd] v ∧ v.rd Reg.SHP_ST_OUT.DUE_ACT = 0 ∧ v.shepherd.dueAt = none ∧ v.rd (Reg.CORE_STATE.PSTATE.nth p) = 4 ∧
      tget v.shepherd.asked (dueKey .pair p) = some s.now ∧ t = v.setOut .pair p true) ∧
    (∀ p : Nat, s.isSet Reg.SHP_ST_OUT.DUE_ACT = true → s.rd Reg.SHP_ST_OUT.CORE_DUE = p → ∃ t, exec (.shpCoreRel p true) s = .next t ∧ s.agreeBut [.shepherd] t ∧ t.shepherd.dueAt = none) ∧
    (∀ d : Nat, s.shepherd.dueAt = some d → ∃ t, exec .coreReleaseTimeout s = .next t ∧ s.agreeBut [.regs, .shepherd, .now, .rtc, .kennel] t ∧
      t.rd Reg.SHP_ST_OUT.DUE_ACT = 0 ∧ t.shepherd.dueAt = none ∧ t.now = max s.now (d + 10 * second) ∧
      (tget t.shepherd.notBefore (s.rd Reg.SHP_ST_OUT.CORE_DUE)).isSome = true)) ∧
  (∀ (s : State) (id obj idx : Nat) (x : Extent) (world : World),
    (id < 65536 → (s.media id).badCrc = false → ∃ t, exec (.readMedia id) s = .next t ∧ t = (s.toWindow (mediaEntry id (s.media id))).tableCmd id 0) ∧
    (id < 65536 → (s.media id).badCrc = true → ∃ t, exec (.readMedia id) s = .next t ∧ t = s.tableCmd id 5) ∧
    (id < 64 → (s.shelf id).badCrc = false → ∃ t, exec (.readShelf id) s = .next t ∧ t = (s.toWindow (s.shelfEntry id)).tableCmd id 0) ∧
    (id < 65536 → s.mediaRefusal id s.fromWindow = 0 → ∃ t, exec (.writeMedia id world true) s = .next t ∧
      t = ((s.applyMedia id s.fromWindow world).addTo Reg.SHP_STATUS.MT_GEN 1).tableCmd id 0) ∧
    (id < 64 → shelfOk id s.fromWindow = true → ∃ t, exec (.writeShelf id true) s = .next t ∧ t = ((s.applyShelf id s.fromWindow).addTo Reg.SHP_STATUS.MT_GEN 1).tableCmd id 0) ∧
    (∀ ingest restore : Nat, s.extent (extKey obj idx) = some x → s.admissible (extKey obj idx) x = true → s.rateAllows x.k x.m x.ext ingest restore = true →
      ∃ t v : State, exec (.extentAdmit obj idx ingest restore) s = .next t ∧ v = s.admitRates x ingest restore ∧ s.agreeBut [.shepherd] v ∧ v.shepherd.admittedIngest = ingest ∧ v.shepherd.admittedRestore = restore ∧
        t = v.takeIn (extKey obj idx) x) ∧
    (∀ ingest restore : Nat, s.extent (extKey obj idx) = some x → s.admissible (extKey obj idx) x = true → s.rateAllows x.k x.m x.ext ingest restore = false →
      ∃ t, exec (.extentAdmit obj idx ingest restore) s = .next t ∧ s.agreeBut [.queue] t ∧ t.extent (extKey obj idx) = some { x with held := true }) ∧
    (s.extent (extKey obj idx) = some x → readyToFix x = true → s.safe = false → ∃ t, exec (.placementFix obj idx) s = .next t ∧ t = s.fixPlacement (extKey obj idx) x) ∧
    (s.extent (extKey obj idx) = some x → x.noPlace = true → readyToFix x = false → s.admissible (extKey obj idx) x = true →
      s.rateAllows x.k x.m x.ext s.shepherd.admittedIngest s.shepherd.admittedRestore = true →
      ∃ t, exec (.placementRetry obj idx) s = .next t ∧ t = s.takeIn (extKey obj idx) x) ∧
    (∀ v : State, s.safe = false → s.svc ≠ .dark → v = (s.updShepherd (fun p => { p with wakes := p.wakes.filter (fun h => (s.shelf h).pstate != .on && (s.shelf h).pstate != .fault) })).pumpRepairs →
      v.wakeChoice = some id → v.onCount < v.rd Reg.SHP_PWR.MAX_ON → v.wakingCount < v.rd Reg.SHP_PWR.MAX_WAKING → (v.wake id).stoppable = [] →
      ∃ t, exec .wakeDecision s = .next t ∧ t = v.wake id) ∧
    ((s.shelf id).pstate = .waking → ∃ t, exec (.wakeTimeout id) s = .next t ∧
      t = (s.advanceTo ((s.shelf id).wakingAt + s.rd Reg.SHP_PTIME1.WAKE_TMO * second)).faultShelf id srcShpWakeFail) ∧
    (∀ a : Assoc, (s.shelf id).pstate ≠ .absent → s.assoc id = some a → ∃ t, exec (.shelfLost id) s = .next t ∧ t = (s.advanceTo (a.lastAccepted + second)).faultShelf id srcShpShelfLost) ∧
    (∃ t, exec .shepherdSave s = .next t ∧ t = (s.advanceTo (s.shepherd.lastSave + 10 * second)).saveTables) ∧
    (∃ t, exec .factorRecompute s = .next t ∧ s.agreeBut [.shepherd] t ∧ t.shepherd.media = tmap s.shepherd.media (fun _ m => if s.factors m = m then m else { s.factors m with changes := (m.changes + 1) % 2 ^ 32 })) ∧
    (∀ high : Nat, (∃ t, exec (.seedCommit high .keeper) s = .next t ∧ s.agreeBut [.regs] t ∧
      t.rd Reg.SHP_SEED.SEED = (high % 2 ^ 32 * 2 ^ 32 + s.lowHalf Reg.SHP_SEED.SEED) % 2 ^ 64) ∧ (∃ t, exec (.seedCommit high .tack) s = .next t ∧ t = s)))

/-- Staging channels and error correction: losses, returns, training, retirements and checker commands complete as stated. The commands of DRAM channels,
staging fragments and of the checkers and their test registers answer a next state with the stated channel, page, word and counters. Rests on
04_erasure_and_staging.md, 12_memory_ecc_access.md. -/
def Obligations.ChannelAndErrorCorrectionCommandsComplete : Prop :=
  (∀ (s : State) (c page : Nat) (ch : Channel),
    (∃ t, exec (.channelFail c) s = .next t ∧ t = s.channelFailed c) ∧
    (∀ m : PageMove, m ∈ s.staging.moves → m.channel = c → m.oldPage = page → ∃ t v : State, exec (.pageMoveDone c page) s = .next t ∧ s.agreeBut [.staging] v ∧
      v.staging.moves = s.staging.moves.filter (fun m => m.channel != c || m.oldPage != page) ∧ t = v.retirePage c page) ∧
    (c < 12 → s.chanRetraining c = true → s.chan c = some ch → ∃ t v : State, exec (.retrainEnd c) s = .next t ∧ s.agreeBut [.regs, .staging, .queue] v ∧
      v.chanRetraining c = false ∧ v.chan c = some { ch with prevCalibration := ch.calibration, trained := true } ∧
      v.queue.extents = tmap s.queue.extents (fun _ x => if x.phase = .granted ∧ !x.noPlace then { x with held := false } else x) ∧ t = v.pumpRestores)) ∧
  (∀ (s : State) (a flips : Nat),
    (s.svc ≠ .dark → checkerOf a = some (16 + 45) → ∃ t, exec (.sramScrub 45 0 0 a flips false) s = .next t ∧ t = ((s.upset (a / 4 * 4) flips).checkWord (a / 4 * 4)).2) ∧
    (∀ c ram row : Nat, c < 45 → ram < 65536 → row < 65536 → s.svc ≠ .dark → c * 65536 + ram ∉ s.guards.fenced → ∀ bad : Bool, ∃ t, exec (.sramScrub c ram row a flips bad) s = .next t ∧
      t = s.scrubHidden c (ram + row * 65536) flips bad) ∧
    (∀ (u e : Nat) (x : TrackEntry), u < 64 → e < 256 → s.trackEntry u e = some x → x.hard = false → ∃ t, exec (.trackerWindowEnd u e) s = .next t ∧ s.agreeBut [.guards, .now, .rtc, .kennel] t ∧
      t.trackEntry u e = none ∧ t.now = max s.now (x.firstTime + s.trackWindow)) ∧
    (∀ (u e : Nat) (x : TrackEntry), u < 64 → e < 256 → s.trackEntry u e = some x → x.hard = true → ∃ t, exec (.trackerWindowEnd u e) s = .next t ∧ t = s) ∧
    (∀ c m n : Nat, c < 64 → m < 256 → n < 256 → ∃ t, exec (.eccInj c m n .keeper) s = .next t ∧ s.agreeBut [.regs] t ∧ t.rd Reg.ECC_INJ.CHECKER = c ∧ t.rd Reg.ECC_INJ.MASK = m ∧ t.rd Reg.ECC_INJ.COUNT = n) ∧
    (∀ c m n : Nat, ∃ t, exec (.eccInj c m n .tack) s = .next t ∧ t = s) ∧
    (∀ f : Nat, f < 256 → s.testAllowed = true → ∃ t, exec (.eccTestEnable true true f .keeper) s = .next t ∧ s.agreeBut [.regs] t ∧ t.rd Reg.ECC_TEST.EN = 1 ∧ t.rd Reg.ECC_TEST.ARMED = 1 ∧
      t.rd Reg.ECC_TEST.FLIP_CHK = f) ∧
    (∀ f : Nat, f < 256 → s.testAllowed = false → s.rd Reg.ECC_TEST.EN = 0 → ∃ t, exec (.eccTestEnable true false f .keeper) s = .next t ∧ s.agreeBut [.regs] t ∧ t.rd Reg.ECC_TEST.EN = 0 ∧
      t.rd Reg.ECC_TEST.FLIP_CHK = f) ∧
    (∀ (p c : Nat) (v : State), v = s.wr Reg.ECC_SPLIT_CMD.CHECK c → a = v.flipWord → v.splitTarget a = true → v.testRegion a = true → inDram a = true → c < 256 →
      v.forbidden { master := p % 16, world := .keeper, user := false, kind := .write, addr := a, len := 4 } = none →
      ∃ t w : State, exec (.splitWrite p .keeper c) s = .next t ∧ w = v.putWord a (v.rd Reg.ECC_SPLIT_DATA.DATA) c ∧ w.agreeBut [.regs] t ∧ t.rd Reg.ECC_SPLIT_CMD.ERR = 0) ∧
    (∀ (p c : Nat) (v : State), v = s.wr Reg.ECC_SPLIT_CMD.CHECK c → v.splitTarget v.flipWord = false → ∃ t, exec (.splitWrite p .keeper c) s = .next t ∧ s.agreeBut [.regs] t ∧ t.rd Reg.ECC_SPLIT_CMD.ERR = 2) ∧
    (∀ p c : Nat, ∃ t, exec (.splitWrite p .tack c) s = .next t ∧ t = s))

/-- The Pack's commands complete: epochs close, hash, sign and settle as stated. The commands of epochs, hashing, signing and manifests answer a next
state with the stated epoch and records. Rests on 06_pack_and_manifests.md. -/
def Obligations.PackCommandsComplete : Prop :=
  ∀ (s : State) (core obj idx n : Nat) (x : Extent) (f : Fragment) (e : Epoch),
    (core < 128 → s.spg core = .busy → ∃ t, exec (.permutationMismatch core true) s = .next t ∧ t = s.bump Reg.PCK_EVENTS.RETRY) ∧
    (∀ v w : State, ∀ count : Nat, core < 128 → s.spg core = .busy → (s.bump Reg.PCK_EVENTS.RETRY).countSponge core = (v, count) → w = (v.dropSponge core .suspect).raise srcPckMismatch core →
      count < max 1 (w.rd Reg.PCK_QPOL.LIMIT) → ∃ t, exec (.permutationMismatch core false) s = .next t ∧ w.agreeBut [.pack] t ∧ tget t.pack.tests core = some .suspect) ∧
    (∀ v w : State, ∀ count : Nat, core < 128 → s.spg core = .busy → (s.bump Reg.PCK_EVENTS.RETRY).countSponge core = (v, count) → w = (v.dropSponge core .suspect).raise srcPckMismatch core →
      max 1 (w.rd Reg.PCK_QPOL.LIMIT) ≤ count → ∃ t, exec (.permutationMismatch core false) s = .next t ∧
        t = ((w.updPack (fun p => { p with tests := tdel p.tests core })).dropSponge core .quarantined).raise srcPckQuarantine core) ∧
    (∀ j : Nat, s.extent (extKey obj idx) = some x → tget x.frags n = some f → f.hash = none → f.core = some j → x.phase ≠ .aborted → x.ranges ≠ [] → f.rows.length = rowCount x.len x.k →
      s.waitsAhead (extKey obj idx) n f = false → ∃ t v : State, exec (.fragmentHashDone obj idx n) s = .next t ∧ s.agreeBut [.queue] v ∧ (∃ y, v.extent (extKey obj idx) = some y ∧
        tget y.frags n = some { f with hash := some (shakeDom 0x03 (f.rows.flatMap (fun r => r.2))), crcs := pageCrcs (f.rows.flatMap (fun r => r.2)), rows := [], core := none, shadow := none, ahead := false }) ∧ t = (v.settleCore j).balancePools) ∧
    (∀ v : State, v = s.advance (s.slotStart + s.slotNs - s.time64) → v.groupFree = true → v.manifestReady = true → v.safe = false →
      ∃ t, exec .epochSlotEnd s = .next t ∧ t = v.closeRegular) ∧
    (∀ v : State, v = s.advance (s.slotStart + s.slotNs - s.time64) → v.groupFree = false → ∃ t, exec .epochSlotEnd s = .next t ∧ t = v) ∧
    (∀ v : State, s.lenWritten ≠ s.pack.slotLen → v = (s.advance ((s.time64 / (1000 * s.lenWritten) + 1) * (1000 * s.lenWritten) - s.time64)).closeRegular →
      ∃ t, exec .epochLenChange s = .next t ∧ v.agreeBut [.pack] t ∧ t.pack.slotLen = s.lenWritten) ∧
    (∀ y : Obj, s.object obj = some y → obj ∈ s.pack.notarisedWaiting → s.groupFree = true → s.manifestReady = true → s.safe = false →
      ∃ t, exec (.notarisedEpochClose obj) s = .next t ∧ t = s.closeNotarised obj y) ∧
    (∀ (j : Nat) (v w : State) (rnd : Nat), tget s.pack.epochs n = some e → e.group = [j] → e.signature = none → e.released = false → s.manifestReady = true → s.safe = false →
      s.draw 256 = (rnd, v) → ∃ t w : State, exec (.epochSignDone n) s = .next t ∧ v.agreeBut [.pack] w ∧
      (∃ y, tget w.pack.epochs n = some y ∧ y.group = [] ∧ y.header = e.header ∧ y.signature = some (Config.slhSign 6 (v.slotValue (v.rd Reg.PCK_SIGN_SLOTS.SEED_SLOT))
        (v.slotValue (v.rd Reg.PCK_SIGN_SLOTS.PRF_SLOT)) v.manifestPublic rnd ctxEpoch e.header % 2 ^ 398848)) ∧ t = (w.freeCores [j]).assignGroups) ∧
    (tget s.pack.epochs n = some e → e.signature ≠ none → e.released = false → s.pack.stopped = false → s.safe = false →
      (∃ t, exec (.epochVerifyDone n true) s = .next t ∧ t = s.releaseEpoch n e) ∧ (∃ t, exec (.epochVerifyDone n false) s = .next t ∧ t = s.verifyFailed n e)) ∧
    (tget s.pack.epochs n = some e → e.released = true → e.logged = false → ∃ t v : State, exec (.manifestLogAppend n) s = .next t ∧ s.agreeBut [.pack] v ∧
      v.pack.logHeaders = s.pack.logHeaders ++ [e.header] ∧ v.pack.epochs = cacheEpochs (tput s.pack.epochs n { e with logged := true }) ∧ t = v.touchCatalogue 2 (n / 4096)) ∧
    (∀ (v w : State) (o : Bool × Nat × Nat) (os : List (Bool × Nat × Nat)), s.stagedCopies (extKey obj idx) n = o :: os → s.heldFrag o = some f → s.isSet Reg.PCK_CTRL.REVERIFY_EN = true →
      s.chanHealthy f.channel = true → s.chanRetraining f.channel = false → spongeCores.any s.spgIdle = true → s.safe = false → v = s.advanceTo (f.lastVerify + s.reverifyAge * second) →
      v.touchPages f.channel (runPages f.runs) = (none, w) → some (shakeDom 0x03 (v.fragPayload (v.heldPayload o) f)) = f.hash →
      ∃ t, exec (.reverifyDue obj idx n) s = .next t ∧ t = w.updHeld o (fun f => { f with lastVerify := w.now })) ∧
    (core < 128 → s.spg core = .quarantined → ∃ t, exec (.pckQrel core .keeper) s = .next t ∧ s.agreeBut [.regs, .pack] t ∧ t.rd Reg.PCK_CTRL.QCORE = core ∧
      t.spg core = .selfTest ∧ tget t.pack.tests core = some .release) ∧
    (∃ t, exec (.pckQrel core .tack) s = .next t ∧ t = s) ∧
    (∀ sig : Nat, tget s.pack.tests core = some .startup → (∃ t v : State, exec (.pckSelftestDone core .pass sig) s = .next t ∧ s.agreeBut [.pack] v ∧ tget v.pack.tests core = none ∧
      t = ((v.testOver .sponge core .pass sig).spongeServe core).backInService .sponge core) ∧ (∃ t v : State, exec (.pckSelftestDone core .logic sig) s = .next t ∧ s.agreeBut [.pack] v ∧
      tget v.pack.tests core = none ∧ t = ((v.testOver .sponge core .logic sig).dropSponge core .quarantined).raise srcPckSelftestFail core))

/-- Tether links train, lose and regain their lanes and exchange flits as stated. The commands of a Tether link answer a next state with the stated link
state, counters and flits. Rests on 07_shelves_drain_restore.md. -/
def Obligations.TetherLinkCommandsComplete : Prop :=
  ∀ (s : State) (p : Nat) (t : Tether), s.tether p = some t →
    (∀ flit : List Byte, flitGood true flit = true →
      (t.up = false → flitType flit ≠ 1 → t.inits < 15 → ∃ v, exec (.flitReceive p true flit) s = .next v ∧ s.agreeBut [.south] v ∧ v.tether p = some { t with inits := t.inits + 1 }) ∧
      (t.up = false → flitType flit ≠ 1 → t.inits = 15 → ∃ v w : State, exec (.flitReceive p true flit) s = .next v ∧ s.agreeBut [.south] w ∧ w.south.upPorts = s.south.upPorts ++ [p] ∧
        v = (w.fall (srcFtLinkDown p)).sendFlit p { t with up := true, inits := 0, rx := some ((flitSeq flit + 4095) % 4096), ackAt := s.now, partial' := [] } 2 t.tx []) ∧
      (t.up = true → t.rx ≠ none → flitSeq flit ≠ (t.rx.getD 0 + 1) % 4096 → ∃ v, exec (.flitReceive p true flit) s = .next v ∧ s.agreeBut [.south] v ∧ v.tether p = some { t with nak := true }) ∧
      (t.up = true → flitType flit = 1 → flitSeq flit = (t.rx.getD 4095 + 1) % 4096 → t.unacked = [] → t.backlog = [] → bitOf (flitAck flit) 14 = false →
        ∃ v, exec (.flitReceive p true flit) s = .next v ∧ s.agreeBut [.south] v ∧ v.tether p = some (t.takeData flit))) ∧
    (∀ flit : List Byte, t.up = true → ∃ v, exec (.flitReceive p false flit) s = .next v ∧ s.agreeBut [.south] v ∧ v.tether p = some { t with nak := true }) ∧
    (t.up = true → t.unacked ≠ [] → ∃ v, exec (.flitResendTimer p) s = .next v ∧ v = (s.advanceTo (t.ackAt + 2 * usec)).resendFlits p t) ∧
    (t.up = true → ∃ v, exec (.flitIdleSend p) s = .next v ∧ v = (s.advanceTo (t.sentAt + 500)).sendFlit p t 2 t.tx []) ∧
    (t.up = false → ∃ v, exec (.flitIdleSend p) s = .next v ∧ v = (s.advanceTo (t.sentAt + 500)).sendFlit p { t with rx := none, nak := false } 3 t.tx []) ∧
    (∀ (locked : Bool) (skew : Nat), p ∈ s.south.upPorts → (locked = false ∨ 64 < skew) → ∃ v, exec (.ftLinkDown p locked skew) s = .next v ∧ v = s.portDown p) ∧
    (∀ (locked : Bool) (skew : Nat), t.up = false → (locked = false ∨ 64 < skew) → ∃ v, exec (.tetherBringupRetry p locked skew) s = .next v ∧ s.agreeBut [.south, .now, .rtc, .kennel] v ∧ v.now = max s.now (t.downAt + 10 * msec) ∧
      v.tether p = some { t with downAt := v.now, rx := none, nak := false, inits := 0 }) ∧
    (∀ skew : Nat, t.up = false → skew ≤ 64 → ∃ v, exec (.tetherBringupRetry p true skew) s = .next v ∧ v = (s.advanceTo (t.downAt + 10 * msec)).sendFlit p { t with downAt := max s.now (t.downAt + 10 * msec), rx := none, nak := false } 3 t.tx [])

/-- Shelf associations, their reports and the catalogue complete as stated. Announcing, authenticating, closing and timing out an association, the reports
of shelves and the catalogue's commands answer a next state with the stated association, medium and record. Rests on 07_shelves_drain_restore.md. -/
def Obligations.ShelfCommandsComplete : Prop :=
  (∀ (s u : State) (m : SouthIn) (a : Assoc) (h : Nat),
    (∀ (sh : Share) (v : State), m.opcode = 0x01 → s.takeMessage m = (u, true) → m.announceOk = true → u.awlServes = true →
      u.share (beAt m.payload 40 32) (slice m.payload 72 1568) = (sh, v) → ∃ t, exec (.announce m) s = .next t ∧ match sh.shared with
        | some (ssk, ssx) => t = v.openAssoc m sh ssk ssx
        | none => t = v.southPlain m.port m.shelf m.ends 0x05 0x0103 []) ∧
    (∀ (segs : List (Nat × List Byte)) (v : State), s.acceptOn (m.shelf + 64) m 0x03 = (u, true) → u.assoc (m.shelf + 64) = some a → segs = authSegments a.auth m.word m.last m.payload →
      v = u.setAssoc (m.shelf + 64) { a with auth := segs } →
      (authMessage segs = none → ∃ t, exec (.ftAuth m) s = .next t ∧ t = v) ∧
      (∀ msg : List Byte, authMessage segs = some msg → ∃ t, exec (.ftAuth m) s = .next t ∧
        t = if v.shelfProved m.shelf a.th msg then v.associate m.shelf { a with auth := segs }
            else ((v.sendSouth (m.shelf + 64) 0x05 0 0x0103 []).updSouth (fun q => { q with pendingAssoc := tdel q.pendingAssoc m.shelf })).raise srcFtAuthFail m.shelf)) ∧
    (s.acceptSouth m 0x04 = (u, true) → u.assoc m.shelf = some a → m.payload = [] → m.word = a.keyGen + 1 → ∃ t, exec (.ftKeyUpdate m) s = .next t ∧ u.agreeBut [.south] t ∧
      t.assoc m.shelf = some { a with prevKey := some (a.rxKey, u.now + 3 * rtoCeiling), rxKey := nextKey a.rxKey "LGE9120 FT update", keyGen := a.keyGen + 1 }) ∧
    (s.acceptOn (s.southLink m) m 0x05 = (u, true) → ∃ t, exec (.ftReset m) s = .next t ∧ u.agreeBut [.south] t ∧ t.assoc (s.southLink m) = none) ∧
    (tget s.south.pendingAssoc h = some a → ∃ t, exec (.ftHandshakeTimeout h) s = .next t ∧ s.agreeBut [.south, .now, .rtc, .kennel] t ∧ tget t.south.pendingAssoc h = none ∧
      t.now = max s.now (a.at' + 2 * second)) ∧
    (∀ (rate : Nat) (p : Path), s.acceptSouth m 0x07 = (u, true) → m.payload = [] → rate = m.word → u.assoc m.shelf = some a → tget a.paths m.path = some p → ∃ t, exec (.pathConfirm m) s = .next t ∧
      u.agreeBut [.south] t ∧ ∃ b, t.assoc m.shelf = some b ∧ tget b.paths m.path = some { p with confirmed := true, rate := rate }) ∧
    (∀ p : Path, s.assoc m.shelf = some a → tget a.paths m.path = some p → p.failed = true → p.probeAcked = true → ∃ t, exec (.ftPathProbe m true) s = .next t ∧ s.agreeBut [.south] t ∧
      ∃ b, t.assoc m.shelf = some b ∧ tget b.paths m.path = some { p with failed := false, expiries := 0, probeAcked := false }) ∧
    (∃ t, exec (.ftPathProbe m false) s = .next t ∧ t = (s.acceptSouth m 0x08).1) ∧
    (s.acceptOn (s.southLink m) m 0x10 false = (u, true) → u.assoc (s.southLink m) = some a →
      (∀ delay first gaps, ackPayload m.payload = some (delay, first, gaps) → ackedRanges m.word first gaps = none) →
      ∃ t, exec (.ftAck m) s = .next t ∧ u.agreeBut [.south] t ∧ t.south.badMsgs = u.south.badMsgs + 1) ∧
    (∀ (delay first : Nat) (gaps rs : List (Nat × Nat)), s.acceptOn (s.southLink m) m 0x10 false = (u, true) → u.assoc (s.southLink m) = some a →
      ackPayload m.payload = some (delay, first, gaps) → ackedRanges m.word first gaps = some rs → a.sent.all (fun f => inRanges f.1 rs) = true →
      ∃ t, exec (.ftAck m) s = .next t ∧ u.agreeBut [.south] t ∧ ∃ b, t.assoc (s.southLink m) = some b ∧ b.sent = []) ∧
    (∀ (seq : Nat) (f : SouthMsg) (p : Path), s.assoc h = some a → tget a.sent seq = some f → tget a.paths f.path = some p → p.expiries = 0 → ∃ t v : State, exec (.ftRtoExpiry h seq) s = .next t ∧
      v.now = max s.now (f.at' + p.rto) ∧ (∃ b, v.assoc h = some b ∧ tget b.paths f.path = some (p.expire rtoCeiling)) ∧ t = v.resendSouth h seq) ∧
    (∀ limit : Nat, s.acceptSouth m 0x11 = (u, true) → m.payload = [] → limit = m.word → u.assoc m.shelf = some a → a.limit ≤ limit → ∃ t, exec (.ftCredit m) s = .next t ∧ u.agreeBut [.south] t ∧
      t.assoc m.shelf = some { a with limit := limit })) ∧
  (∀ (s u : State) (m : SouthIn) (a : Assoc),
    (s.acceptSouth m 0x41 = (u, true) → u.assoc m.shelf = some a → m.len = 8 → beAt m.payload 0 4 = 3 * 2 ^ 24 → beAt m.payload 4 4 = 0 → (u.shelf m.shelf).pstate = .waking →
      ∃ t v : State, exec (.powerState m) s = .next t ∧ u.agreeBut [.south] v ∧ v.assoc m.shelf = some { a with expectedMs := 0, at' := u.now } ∧ t = (v.setPstate m.shelf .on).shelfReady m.shelf) ∧
    (∀ ms : Nat, s.acceptSouth m 0x41 = (u, true) → u.assoc m.shelf = some a → m.len = 8 → beAt m.payload 0 4 = 2 * 2 ^ 24 → beAt m.payload 4 4 = ms → (u.shelf m.shelf).pstate = .waking →
      ∃ t, exec (.powerState m) s = .next t ∧ u.agreeBut [.south] t ∧ t.assoc m.shelf = some { a with expectedMs := ms, at' := u.now }) ∧
    (s.acceptSouth m 0x41 = (u, true) → m.len = 8 → beAt m.payload 0 4 = 3 * 2 ^ 24 → beAt m.payload 4 4 = 0 → (u.shelf m.shelf).pstate = .absent → ∃ t, exec (.powerState m) s = .next t ∧ t = u) ∧
    (∀ es : List ReportEntry, s.acceptSouth m 0x42 = (u, true) → reportEntries m.payload = some es → ∃ t, exec (.report m) s = .next t ∧ t = es.foldl (fun v e => v.reportEntry m.shelf e) u) ∧
    (∀ (o : PutOwner) (f : Fragment), s.acceptSouth m 0x22 = (u, true) → m.len = 40 → beAt m.payload 4 4 = 0 → u.putOwner m.shelf m.xid = o → u.ownedFrag o = some f →
      ∃ t, exec (.durable m) s = .next t ∧ t = u.durableOutcome o f (beAt m.payload 2 2) (beAt m.payload 8 32)) ∧
    (∀ (h xid : Nat) (f : Fragment), s.ownedFrag (s.putOwner h xid) = some f → f.timeouts = 0 → ∃ t, exec (.durableTimeout h xid) s = .next t ∧
      t = (s.advanceTo (f.sentAt + s.rd Reg.FT_TIMERS.DURABLE_S * second)).updOwned (s.putOwner h xid) (fun f => { f with phase := .held, timeouts := f.timeouts + 1 })) ∧
    (∀ (h xid : Nat) (f : Fragment), s.ownedFrag (s.putOwner h xid) = some f → f.timeouts = 1 → ∃ t v : State, exec (.durableTimeout h xid) s = .next t ∧
      v = (s.advanceTo (f.sentAt + s.rd Reg.FT_TIMERS.DURABLE_S * second)).updOwned (s.putOwner h xid) (fun f => { f with phase := .held, timeouts := f.timeouts + 1 }) ∧
      t = (v.raise srcFtDurableTmo h).moveAway (s.putOwner h xid)) ∧
    (∀ (kind num : Nat) (c : Catalogue), tget s.south.catalogue (catKey kind num) = some c → s.safe = false → ∃ t, exec (.catalogueWrite kind num false) s = .next t ∧
      t = s.writeCatalogue kind num) ∧
    (∀ (kind num : Nat) (c : Catalogue), tget s.south.catalogue (catKey kind num) = some c → s.safe = false → c.waiting = true → ∃ t, exec (.cataloguePlaceRetry kind num) s = .next t ∧
      t = s.placeCatalogue kind num c))

/-- Key bus transfers, the random source and the commands that fill a key slot complete as stated. A key bus transfer, a health test, a reseed and each
command that fills a slot answer a next state with the slot's stated value and attribute and error code 0. Rests on 08_keys_and_custodians.md. -/
def Obligations.KeyBusAndKeySlotCommandsComplete : Prop :=
  (∀ (s : State) (unit ctx slot : Nat) (x : StitchCtx) (i : JobInfo) (k : KeySlot),
    (tget s.stitch.ctxs (ctxKey unit ctx) = some x → x.pipes = none → ctx < 3 → s.safe = false → s.jobInfo x.job = some i → s.slot i.slot = some k → dkAllowed k i.obj i.epoch = true →
      ∃ (t v w : State) (sh : Shares) (p : Pipe × Pipe), exec (.dkReq unit ctx 0) s = .next t ∧ s.busShares (dataKey k.value i.obj i.epoch) = (sh, v) ∧
        sh.a ^^^ sh.b ^^^ sh.c = dataKey k.value i.obj i.epoch ∧ (v.emit (.keyBus (.stitch unit)) 0x00 [i.slot, sh.a, sh.b, sh.c]).loadPipes unit sh = (p, w) ∧
        w.agreeBut [.stitch] t ∧ t.stitch = { w.stitch with ctxs := tput w.stitch.ctxs (ctxKey unit ctx) { x with pipes := some p } } ∧ t.draws = s.draws + 2) ∧
    (tget s.stitch.ctxs (ctxKey unit ctx) = some x → x.pipes = none → ctx < 3 → s.safe = false → s.jobInfo x.job = some i → s.slot i.slot = some k → dkAllowed k i.obj i.epoch = false →
      ∃ t, exec (.dkReq unit ctx 0) s = .next t ∧ t = ((s.stuCode unit 2).dropCtx unit ctx).jobUnkeyed x.job) ∧
    (tget s.stitch.ctxs (ctxKey unit ctx) = some x → x.pipes = none → ctx < 3 → s.safe = false → s.jobInfo x.job = some i → s.slot i.slot = none →
      ∃ t, exec (.dkReq unit ctx 0) s = .next t ∧ t = ((s.stuCode unit 1).dropCtx unit ctx).jobUnkeyed x.job) ∧
    (∀ v : Nat, slot < 65536 → s.safe = false → s.keyLoad (.awl unit) slot = .ok v → ∃ t, exec (.keyLoad true unit slot 0) s = .next t ∧ t = s.sendShares (.awl unit) slot v) ∧
    (∀ e : Nat, slot < 65536 → s.safe = false → s.keyLoad (.sponge unit) slot = .error e → ∃ t, exec (.keyLoad false unit slot 0) s = .next t ∧ t = s.emit (.keyBus (.sponge unit)) e [slot]) ∧
    (∀ attr value : Nat, s.safe = false → s.keyStoreOk slot = true → ∃ t, exec (.keyStore unit slot attr value 0) s = .next t ∧ s.agreeBut [.keys, .out] t ∧
      t.keys.slots = tput s.keys.slots slot { value := value % 2 ^ 256, attr := withBit (attr % 2 ^ 64) 0 } ∧
      t.out = { dest := .keyBus (.awl unit), typ := 0x00, fields := [slot] } :: s.out) ∧
    (∀ attr value : Nat, s.safe = false → s.keyStoreOk slot = false → ∃ t, exec (.keyStore unit slot attr value 0) s = .next t ∧ s.agreeBut [.out] t ∧
      t.out = { dest := .keyBus (.awl unit), typ := 2, fields := [slot] } :: s.out) ∧
    (∃ t, exec (.clear false slot) s = .next t ∧ t = s.clearSlots (fun i _ => i == slot)) ∧
    (∀ (ns epoch : Nat) (v : State), s.resolveSlot ns epoch = none → s.keyed = true → s.loadNamespace ns epoch = some v → ∃ t, exec (.epochMapMissLoad ns epoch 0) s = .next t ∧ t = v.pumpRestores) ∧
    (∀ bank ram : Nat, tget s.keys.lostMacros bank = none → ∃ t, exec (.sdbMacroLost bank ram) s = .next t ∧ s.agreeBut [.keys] t ∧ tget t.keys.lostMacros bank = some [ram]) ∧
    (∀ bank ram other : Nat, tget s.keys.lostMacros bank = some [other] → ram ≠ other → ∃ t v : State, exec (.sdbMacroLost bank ram) s = .next t ∧ s.agreeBut [.keys] v ∧
      tget v.keys.lostMacros bank = some [ram, other] ∧ t = (v.raise srcSdbMacroLost bank).clearSlots (fun i k => inBank bank i && !(v.raise srcSdbMacroLost bank).reloadable i k)) ∧
    (∀ source : Nat, source < 4 → bitOf (s.rd Reg.TRNG_STATUS.SRC_OK) source = true → ∃ t, exec (.trngSourceFail source true) s = .next t ∧
      t = (((s.bump Reg.TRNG_EVENTS.APT_FAIL).setBit Reg.TRNG_STATUS.SRC_OK source false).raise srcTrngSrcFail source).settleTrng) ∧
    (s.drbgOk = true → ∃ t, exec .drbgReseed s = .next t ∧ t.keys.drbgRequests = 0 ∧ t.keys.drbgAt = t.now ∧ t.draws = s.draws + 1 ∧
      s.agreeBut [.keys, .draws, .now, .rtc, .kennel] t)) ∧
  (∀ (s v : State) (a : Nat), v.dstRefused = none → a = v.rd Reg.SDB_ATTR.ATTR →
    (v = s.wr Reg.SDB_CMD.OP 0x01 → v.drbgOk = true → attrLegal a = true → ∃ t, exec (.gen .keeper) s = .next t ∧ s.agreeBut [.regs, .keys, .draws] t ∧
      t.slot v.dst = some { value := (v.draw 256).1 % 2 ^ 256, attr := withBit (a % 2 ^ 64) 0 } ∧ t.rd Reg.SDB_CMD.ERR = 0 ∧ t.keys.drbgAt = s.now) ∧
    (∀ key : List Byte, v = s.wr Reg.SDB_CMD.OP 0x02 → v.deriveKey = .ok key → attrLegal a = true → v.rd Reg.SDB_LEN.LEN + v.rd Reg.SDB_LEN.SLEN ≤ 2048 → ∃ t, exec (.derive .keeper) s = .next t ∧
      s.agreeBut [.regs, .keys] t ∧ t.rd Reg.SDB_CMD.ERR = 0 ∧
      t.slot v.dst = some { value := kmac key (v.sdbWin 0 (v.rd Reg.SDB_LEN.LEN)) (v.sdbWin (v.rd Reg.SDB_LEN.LEN) (v.rd Reg.SDB_LEN.SLEN)) % 2 ^ 256, attr := withBit (a % 2 ^ 64) 0 }) ∧
    (∀ r : KeyRecord, v = s.wr Reg.SDB_CMD.OP 0x04 → tget v.keys.store (ofLe (v.sdbWin 0 8)) = some r → v.wrapKey r = some r.under → ∃ t, exec (.load .keeper 0) s = .next t ∧
      s.agreeBut [.regs, .keys] t ∧ t.rd Reg.SDB_CMD.ERR = 0 ∧ t.slot v.dst = some { value := r.value % 2 ^ 256, attr := withBit (r.attr % 2 ^ 64) 0 }) ∧
    (∀ (key n : Nat) (pt : List Byte), v = s.wr Reg.SDB_CMD.OP 0x08 → v.gcmKey = .ok key → attrLegal a = true → n = v.rd Reg.SDB_LEN.LEN → 60 ≤ n → n ≤ 2048 →
      gcmOpen key (ofBe (v.sdbWin 0 12)) (v.sdbWin 12 (n - 60)) (v.sdbWin (n - 48) 32) (ofBe (v.sdbWin (n - 16) 16)) = some pt → ∃ t, exec (.openGcm .keeper) s = .next t ∧
      s.agreeBut [.regs, .keys] t ∧ t.rd Reg.SDB_CMD.ERR = 0 ∧ t.slot v.dst = some { value := ofBe pt % 2 ^ 256, attr := withBit (a % 2 ^ 64) 0 }))

/-- Wrapping, unwrapping, sharing, combining and zeroing keys complete as stated. The Saddlebag's commands on records, vault keys, shares and slots answer
a next state with the stated slots, records, banks and error code. Rests on 08_keys_and_custodians.md. -/
def Obligations.KeyAndCustodyUnitCommandsComplete : Prop :=
  ∀ (s v : State) (k : KeySlot),
    (v = s.wr Reg.SDB_CMD.OP 0x03 → ∃ t, exec (.wrap .keeper true) s = .next t ∧ t = (v.wrap v.dst true).1.wr Reg.SDB_CMD.ERR (v.wrap v.dst true).2) ∧
    (v = s.wr Reg.SDB_CMD.OP 0x05 → v.slot v.dst = some k → ∃ t, exec (.zero .keeper) s = .next t ∧ t = (v.clearSlots (fun i _ => i == v.dst)).wr Reg.SDB_CMD.ERR eOk) ∧
    (v = s.wr Reg.SDB_CMD.OP 0x06 → v.slot v.dst = some k → attrLocked k.attr = false → attrChange k.attr (withBit (v.rd Reg.SDB_ATTR.ATTR) 0) = true → ∃ t, exec (.setAttr .keeper) s = .next t ∧
      s.agreeBut [.regs, .keys] t ∧ t.slot v.dst = some { k with attr := withBit (v.rd Reg.SDB_ATTR.ATTR) 0 } ∧ t.rd Reg.SDB_CMD.ERR = eOk) ∧
    (v = s.wr Reg.SDB_CMD.OP 0x06 → v.slot v.dst = some k → attrLocked k.attr = true → ∃ t, exec (.setAttr .keeper) s = .next t ∧ s.agreeBut [.regs] t ∧ t.rd Reg.SDB_CMD.ERR = eAttr) ∧
    (∀ (key n : Nat) (ct : List Byte) (tag : Nat), v = s.wr Reg.SDB_CMD.OP 0x07 → v.slot v.dst = some k → v.gcmKey = .ok key → n = v.rd Reg.SDB_LEN.LEN → 12 ≤ n → n ≤ 2000 →
      gcmSeal key (ofBe (v.sdbWin 0 12)) (v.sdbWin 12 (n - 12)) (beBytes 32 k.value) = (ct, tag) →
      ∃ t, exec (.sealGcm .keeper) s = .next t ∧ t = (v.setSdbWin n (ct ++ beBytes 16 tag)).wr Reg.SDB_CMD.ERR eOk) ∧
    (v = s.wr Reg.SDB_CMD.OP 0x10 → v.inCustody [.enroll, .vaultRotate] = true → v.drbgOk = true → ∃ t w : State, exec (.vkGen .keeper) s = .next t ∧ v.newVault.agreeBut [.keys] w ∧
      w.inactiveBank = v.newVault.inactiveBank ∧ t = w.wr Reg.SDB_CMD.ERR eOk) ∧
    (v = s.wr Reg.SDB_CMD.OP 0x10 → v.inCustody [.enroll, .vaultRotate] = false → ∃ t, exec (.vkGen .keeper) s = .next t ∧ s.agreeBut [.regs] t ∧ t.rd Reg.SDB_CMD.ERR = ePresence) ∧
    (∀ (w : State) (b : VaultBank) (t0 n : Nat) (shares : List (List Byte)), v = s.wr Reg.SDB_CMD.OP 0x11 → v.inCustody [.escrowCreate, .vaultRotate] = true → v.sharedVault = some b →
      t0 = ofLe (v.sdbWin 0 1) → n = ofLe (v.sdbWin 1 1) → 2 ≤ t0 → t0 ≤ n → n ≤ 16 → v.drbgOk = true → (List.range n).all (fun i => v.keyStoreOk (v.dst + i)) = true →
      v.split b.key t0 n = (shares, w) → ∃ t x : State, exec (.vkSplit .keeper) s = .next t ∧
        x = ((List.range n).zip shares).foldl (fun s p => s.fillSlot (w.dst + p.1) (ofBe p.2) (shareAttr (p.1 + 1))) w ∧ x.agreeBut [.regs, .keys] t ∧
        t.keys.slots = x.keys.slots ∧ t.rd Reg.SDB_CMD.ERR = eOk) ∧
    (∀ (e : EscrowSet) (ks : List KeySlot), v = s.wr Reg.SDB_CMD.OP 0x12 → v.inCustody [.vaultRestore] = true → v.custodySet = some e →
      (List.range e.t).map (fun i => v.slot (v.src + i)) = ks.map some → ks.all (fun k => attrKind k.attr == 7) = true → ∃ t, exec (.vkCombine .keeper) s = .next t ∧
        t = (v.combineInto e (ks.map (fun k => (attrEpoch k.attr, beBytes 32 k.value)))).1.wr Reg.SDB_CMD.ERR (v.combineInto e (ks.map (fun k => (attrEpoch k.attr, beBytes 32 k.value)))).2) ∧
    (∀ (b : VaultBank) (e : EscrowSet), v = s.wr Reg.SDB_CMD.OP 0x13 → v.inCustody [.vaultRotate] = true → v.inactiveBank = some b → v.keys.pendingSet = some e → e.gen = b.gen →
      v.rewrapped b = true → ∃ t, exec (.vkCommit .keeper) s = .next t ∧ t = (v.commitRotation b).wr Reg.SDB_CMD.ERR eOk) ∧
    (v = s.wr Reg.SDB_CMD.OP 0x14 → v.slot v.dst = some k → ∃ t, exec (.nsCurrent .keeper) s = .next t ∧ t = (v.makeCurrent v.dst k).1.wr Reg.SDB_CMD.ERR (v.makeCurrent v.dst k).2)

/-- Awl computations of modular, polynomial and public-key kind finish with the stated output bytes. Where the job of a unit holds operands in range, each
of these computations ends DONE with the bytes of the stated result. Rests on 09_awl_units.md. -/
def Obligations.ArithmeticAwlCommandsComplete : Prop :=
  (∀ (s : State) (u n p a b : Nat) (j : AwlJob), n = j.desc.nwords → p = leOperand j.input (8 * n) 0 → a = leOperand j.input (8 * n) 1 → b = leOperand j.input (8 * n) 2 →
    (s.awlJob u 0x01 = some j → modulusOk n p = true → a < p → b < p → ∃ t, exec (.modAdd u) s = .next t ∧ s.awlOutputs t u j (leBytes (8 * n) ((a + b) % p))) ∧
    (s.awlJob u 0x02 = some j → modulusOk n p = true → a < p → b < p → ∃ t, exec (.modSub u) s = .next t ∧ s.awlOutputs t u j (leBytes (8 * n) (subMod p a b))) ∧
    (s.awlJob u 0x03 = some j → modulusOk n p = true → a < p → b < p → ∃ t, exec (.modMul u) s = .next t ∧ s.awlOutputs t u j (leBytes (8 * n) (a * b % p))) ∧
    (s.awlJob u 0x04 = some j → modulusOk n p = true → a < p → ∃ t, exec (.modExp u) s = .next t ∧ s.awlOutputs t u j (leBytes (8 * n) (powMod p a b))) ∧
    (s.awlJob u 0x05 = some j → modulusOk n p = true → a < p → a ≠ 0 → Nat.gcd a p = 1 → ∃ t, exec (.modInv u) s = .next t ∧ s.awlOutputs t u j (leBytes (8 * n) ((invMod p a).getD 0))) ∧
    (s.awlJob u 0x06 = some j → modulusOk n p = true → leField j.input (8 * n) (16 * n) < p * 2 ^ (64 * n) →
      ∃ t, exec (.modRed u) s = .next t ∧ s.awlOutputs t u j (leBytes (8 * n) (leField j.input (8 * n) (16 * n) % p))) ∧
    (s.awlJob u 0x07 = some j → ∃ t, exec (.awlMul u) s = .next t ∧ s.awlOutputs t u j (leBytes (16 * n) (p * a))) ∧
    (s.awlJob u 0x01 = some j → modulusOk n p = false → ∃ t r, exec (.modAdd u) s = .next t ∧ s.awlFinishes t u j r ∧ r.status = awInvalid ∧ r.out = [])) ∧
  (∀ (s : State) (u : Nat) (j : AwlJob) (p q r : List Nat), p = polyAt j.input 0 → q = polyAt j.input 1 → r = polyAt j.input 2 →
    (s.awlJob u 0x10 = some j → p.all (fun c => decide (c < ringQ j.desc.param)) = true → ∃ t, exec (.ntt u) s = .next t ∧ s.awlOutputs t u j (polyBytes (nttOf j.desc.param p))) ∧
    (s.awlJob u 0x11 = some j → p.all (fun c => decide (c < ringQ j.desc.param)) = true → ∃ t, exec (.intt u) s = .next t ∧ s.awlOutputs t u j (polyBytes (inttOf j.desc.param p))) ∧
    (s.awlJob u 0x12 = some j → [p, q, r].all (fun p => p.all (fun c => decide (c < ringQ j.desc.param))) = true →
      ∃ t, exec (.polyMac u) s = .next t ∧ s.awlOutputs t u j (polyBytes (polyMac j.desc.param p q r))) ∧
    (s.awlJob u 0x20 = some j → ∃ t, exec (.ecMul u) s = .next t ∧ s.awlFinishes t u j (ecMulOp j)) ∧
    (s.awlJob u 0x23 = some j → ∃ t, exec (.ecdsaVerify u) s = .next t ∧ s.awlFinishes t u j (ecdsaVerifyOp j)) ∧
    (s.awlJob u 0x24 = some j → ∃ t, exec (.ed25519Verify u) s = .next t ∧ s.awlFinishes t u j (ed25519VerifyOp j)) ∧
    (s.awlJob u 0x3A = some j → ∃ t, exec (.mldsaVerify u) s = .next t ∧ s.awlFinishes t u j (mldsaVerifyOp j)) ∧
    (∀ (v : State) (x : Nat), s.draw 256 = (x, v) → s.awlJob u 0x25 = some j → ∃ t, exec (.x25519Gen u) s = .next t ∧ (v.layOperand u opSecret (beBytes 32 (x % 2 ^ 256))).awlFinishes t u j (x25519GenOp (x % 2 ^ 256))) ∧
    (∀ (v : State) (x : Nat), s.draw 256 = (x, v) → s.awlJob u 0x30 = some j → ∃ t, exec (.mlkemKeygen u) s = .next t ∧ (v.layOperand u opSecret (beBytes 32 (x % 2 ^ 256))).awlFinishes t u j (mlkemKeygenOp (x % 2 ^ 256))) ∧
    (∀ (v : State) (x : Nat), s.draw 256 = (x, v) → s.awlJob u 0x31 = some j → ∃ t, exec (.mlkemEncaps u) s = .next t ∧ (v.layOperand u opSecret (beBytes 32 (x % 2 ^ 256))).awlFinishes t u j (mlkemEncapsOp j (x % 2 ^ 256))))

/-- Awl computations with a private key finish with the stated result or store. Where the key slot holds a key that may be used so, each of these
computations ends with the stated output or stored value. Rests on 09_awl_units.md. -/
def Obligations.PrivateKeyAwlCommandsComplete : Prop :=
  ∀ (s : State) (u seed : Nat) (j : AwlJob) (laid : State → List Byte → State), s.awlSecret u j.desc = .ok seed →
    (∀ (v : State) (scalar : List Byte), laid v scalar = (v.layOperand u opSecret (beBytes 32 (seed % 2 ^ 256))).layOperand u 512 scalar) →
    (s.awlJob u 0x21 = some j → ∃ t, exec (.ecPub u) s = .next t ∧
      (laid s (leBytes (coord j.desc.param) (ecdsaScalar j.desc.param seed))).awlOutputs t u j ((curveOf j.desc.param).bytes ((curveOf j.desc.param).mul (ecdsaScalar j.desc.param seed) (curveOf j.desc.param).base))) ∧
    (s.awlJob u 0x26 = some j → ∃ t, exec (.x25519 u) s = .next t ∧ (laid s (beBytes 32 (seed % 2 ^ 256))).awlFinishes t u j (x25519Op j seed)) ∧
    (s.awlJob u 0x32 = some j → ∃ t, exec (.mlkemDecaps u) s = .next t ∧ (laid s []).awlFinishes t u j (mlkemDecapsOp j seed)) ∧
    (s.awlJob u 0x38 = some j → ∃ t, exec (.mldsaPub u) s = .next t ∧ (laid s []).awlFinishes t u j (mldsaPubOp j seed)) ∧
    (∀ (v : State) (x : Nat) (r : AwlResult), s.draw 256 = (x, v) → s.awlJob u 0x22 = some j → r = ecdsaSignOp j seed (x % 2 ^ 256) → ∃ t, exec (.ecdsaSign u) s = .next t ∧
      (r.status = awDone → ∃ w : State, v.agreeBut [.awl] w ∧ tget w.awl.runs u = some (.job j (.signed r)) ∧ t = w.placeVerify u) ∧
      (r.status = awSignFail → ∃ w : State, (laid v (leBytes (coord j.desc.param) (ecdsaScalar j.desc.param seed))).awlFinishes w u j r ∧ t = w.raise (srcAwl u 6) u) ∧
      (r.status ≠ awDone → r.status ≠ awSignFail → (laid v (leBytes (coord j.desc.param) (ecdsaScalar j.desc.param seed))).awlFinishes t u j r)) ∧
    (∀ (v : State) (x : Nat) (r : AwlResult), s.draw 256 = (x, v) → s.awlJob u 0x39 = some j → r = mldsaSignOp j seed (x % 2 ^ 256) → ∃ t, exec (.mldsaSign u) s = .next t ∧
      (r.status = awDone → ∃ w : State, v.agreeBut [.awl] w ∧ tget w.awl.runs u = some (.job j (.signed r)) ∧ t = w.placeVerify u) ∧
      (r.status = awSignFail → ∃ w : State, (laid v []).awlFinishes w u j r ∧ t = w.raise (srcAwl u 6) u) ∧
      (r.status ≠ awDone → r.status ≠ awSignFail → (laid v []).awlFinishes t u j r))

/-- The Awl dispatcher and its units' supervision complete as stated. Descriptor fetch, assignment, delivery, time-outs and unit supervision answer a next
state with the stated ring, unit and status words. Rests on 09_awl_units.md. -/
def Obligations.AwlControlCommandsComplete : Prop :=
  ∀ (s : State) (u i : Nat) (j : AwlJob),
    (∀ n : Nat, n < 4096 → ∃ t, exec (.awlRingTail .keeper n) s = .next t ∧ s.agreeBut [.regs] t ∧ t.rd Reg.AWL_RING_TAIL.TAIL = n) ∧
    (∃ t, exec (.awlRingTail .tack i) s = .next t ∧ t = s) ∧
    (s.awl.runs = [] → s.awl.fetched = [] → ∃ t, exec .awlDispatch s = .next t ∧ t = s.fetchDesc) ∧
    (s.awl.runs = [] → s.awl.fetched = [j] → bitOf j.desc.flags 1 = false → j.failed = [] → awlUnits.find? (fun u => s.awlCandidate u) = some u → s.awlHealthy u = true →
      ∃ t, exec .awlDispatch s = .next t ∧ t = s.startJob j u) ∧
    (∀ (r r' : AwlResult) (same late : Bool) (v : State) (n : Nat), tget s.awl.runs u = some (.job j (.done r same late)) → s.deliver u j r = (v, r', n) →
      ∃ t w : State, exec (.awlCompletion u) s = .next t ∧ v.agreeBut [.awl] w ∧ tget w.awl.runs u = none ∧
        t = (w.completeJob j.index j.desc.flags u r' same late j.reissued n).awlIdle u) ∧
    (0 < s.awl.irqs → s.awl.irqs < s.rd Reg.AWL_CTRL.COAL_N → ∃ t v : State, exec .awlDone s = .next t ∧ v.awl.irqs = 0 ∧ v.now = max s.now (s.awl.irqFirst + s.rd Reg.AWL_CTRL.COAL_US * usec) ∧
      s.agreeBut [.awl, .now, .rtc, .kennel] v ∧ t = v.interrupt (128 + Config.awlDoneSource.val)) ∧
    (∀ v : State, i < 4096 → v = s.wr Reg.AWL_ABORT.INDEX i → v.abortable i = true → ∃ t, exec (.awlAbort .keeper i false) s = .next t ∧ t = (v.wr Reg.AWL_ABORT.ERR 0).abortJob i false) ∧
    (∀ v : State, i < 4096 → v = s.wr Reg.AWL_ABORT.INDEX i → v.abortable i = false → ∃ t, exec (.awlAbort .keeper i false) s = .next t ∧ t = v.wr Reg.AWL_ABORT.ERR 1) ∧
    (u < 16 → s.awlState u = stBusy → (∃ t, exec (.awlMismatch u false) s = .next t ∧ t = (s.awlStop u).raise (srcAwl u 0) u) ∧
      (∃ t, exec (.awlMismatch u true) s = .next t ∧ t = (s.awlStop u).raise (srcEccUe (16 + u / 4)) u)) ∧
    (u < 16 → s.awlState u = stQuarantined → ∃ t, exec (.awlQrel u .keeper) s = .next t ∧ s.agreeBut [.regs, .awl] t ∧ t.awlState u = stSelfTest ∧ t.rd Reg.AWL_CTRL.QUNIT = u ∧
      tget t.awl.tests u = some .release) ∧
    (∀ sig : Nat, tget s.awl.tests u = some .startup → (∃ t v : State, exec (.awlSelftestDone u .pass sig) s = .next t ∧ s.agreeBut [.awl] v ∧ tget v.awl.tests u = none ∧
      t = ((v.testOver .awl u .pass sig).awlServe u).backInService .awl u) ∧ (∃ t v : State, exec (.awlSelftestDone u .logic sig) s = .next t ∧ s.agreeBut [.awl] v ∧ tget v.awl.tests u = none ∧
      t = ((v.testOver .awl u .logic sig).stopAwl u stQuarantined).raise (srcAwl u 1) u))

/-- Access-table commands complete: entries are staged, committed and dropped as stated. The commands on the access table answer a next state with the
stated entries, error code and generation. Rests on 12_memory_ecc_access.md. -/
def Obligations.AccessTableCommandsComplete : Prop :=
  ∀ (s v : State) (p i n : Nat) (w : World) (user : Bool), i < entryCount n → v = ((s.wr Reg.AT_CMD.INDEX i).wr Reg.AT_CMD.TARGET n).wr Reg.AT_CMD.ERR 0 →
    (s.forbidden (tableWrite p w user 0) = none → ∃ t, exec (.readActive p w user n i) s = .next t ∧ t = v.showEntry n (s.activeEntry n i)) ∧
    (s.forbidden (tableWrite p w user 0) = none → ∃ t, exec (.readShadow p w user n i) s = .next t ∧ t = v.showEntry n (s.shadowEntry n i)) ∧
    (s.forbidden (tableWrite p w user 0) = none → (s.activeEntry n i).locked n = false → ∃ t, exec (.writeShadow p w user n i) s = .next t ∧ s.agreeBut [.regs, .guards] t ∧
      t.shadowEntry n i = v.winEntry n ∧ t.rd Reg.AT_CMD.ERR = 0) ∧
    (s.forbidden (tableWrite p w user 0) = none → (s.activeEntry n i).locked n = true → ∃ t, exec (.writeShadow p w user n i) s = .next t ∧ s.agreeBut [.regs] t ∧ t.rd Reg.AT_CMD.ERR = 2) ∧
    (s.forbidden (tableWrite p w user 4) = none → s.isSet Reg.AT_STATUS.DONE = true → s.badEntry = none → ∃ t, exec (.atCommit p w user) s = .next t ∧ s.agreeBut [.regs, .guards] t ∧
      t.guards.active = s.guards.shadow ∧ t.rd Reg.AT_EPOCH.EPOCH = (s.rd Reg.AT_EPOCH.EPOCH + 1) % 2 ^ 32 ∧ t.rd Reg.AT_STATUS.DONE = 0 ∧ t.rd Reg.AT_STATUS.ERR = 0 ∧ t.rd Reg.AT_STATUS.BOOT = 0) ∧
    (s.forbidden (tableWrite p w user 4) = none → s.isSet Reg.AT_STATUS.DONE = true → ∀ k : Nat, s.badEntry = some k → ∃ t, exec (.atCommit p w user) s = .next t ∧ s.agreeBut [.regs] t ∧
      t.rd Reg.AT_STATUS.ERR = 1) ∧
    (s.forbidden (tableWrite p w user 4) = none → s.isSet Reg.AT_STATUS.DONE = false → ∃ t, exec (.atCommit p w user) s = .next t ∧ s.agreeBut [.regs] t ∧ t.rd Reg.AT_STATUS.ERR = 2) ∧
    (∃ t, exec .atDone s = .next t ∧ s.agreeBut [.regs] t ∧ t.rd Reg.AT_STATUS.DONE = 1) ∧
    (s.forbidden (tableWrite p w user 0x24) = none → ∃ t, exec (.atVpop p w user) s = .next t ∧ s.agreeBut [.guards] t ∧ t.guards.violations = s.guards.violations.drop 1) ∧
    (∀ a : Nat, s.forbidden (tableWrite p w user 0) = some a → ∃ t, exec (.writeShadow p w user n i) s = .next t ∧ t = s.violation (tableWrite p w user 0) a)

/-- Flash commands complete: sectors, blocks and the boot pointer change as stated. Reads, writes, discards, erases, block and pointer commands of the
flash engine answer a next state with the stated mapping, cells, journal and error code. Rests on 13_flash_and_boot.md. -/
def Obligations.FlashCommandsComplete : Prop :=
  (∀ (s v : State) (p : Nat), s.rd Reg.FLS_STATUS.LUN_OK ≠ 0 →
    (v = s.wr Reg.FLS_CMD.OP 0x01 → v.flsPart readableParts = some p → v.sectorsServe v.flsSectors = true → v.forbidden (unitAccess masterFlash .write v.flsBuf (4096 * v.flsSectors.length)) = none →
      ∃ t w x : State, exec (.flsRead .keeper [] []) s = .next t ∧ w = v.writeMem v.flsBuf (v.flsSectors.flatMap v.flash.sector) ∧ x = w.countReads v.flsSectors ∧ x.agreeBut [.regs] t ∧
        t.rd Reg.FLS_CMD.ERR = 0) ∧
    (v = s.wr Reg.FLS_CMD.OP 0x01 → v.flsPart readableParts = none → ∃ t, exec (.flsRead .keeper [] []) s = .next t ∧ s.agreeBut [.regs] t ∧ t.rd Reg.FLS_CMD.ERR = 1) ∧
    (∀ (bytes : List Byte) (w x y : State) (k : Nat), v = s.wr Reg.FLS_CMD.OP 0x02 → v.flsPart writableParts = some p → v.flash.twinProtected p = false →
      (((partitions[p]?).map Partition.luns).getD []).any v.lunServes = true → v.forbidden (unitAccess masterFlash .read v.flsBuf (4096 * v.flsSectors.length)) = none →
      v.readChecked v.flsBuf (4096 * v.flsSectors.length) = ((bytes, false), w) → w.fillBlock p = some (k, x) →
      w.programAll p ((List.range v.flsSectors.length).map (fun i => (v.flsSectors.getD i 0, slice bytes (4096 * i) 4096))) = some y →
      ∃ t, exec (.flsWrite .keeper 0) s = .next t ∧ y.agreeBut [.regs] t ∧ t.rd Reg.FLS_CMD.ERR = 0) ∧
    (v = s.wr Reg.FLS_CMD.OP 0x02 → v.flsPart writableParts = some p → v.flash.twinProtected p = true → ∃ t, exec (.flsWrite .keeper 0) s = .next t ∧ s.agreeBut [.regs] t ∧ t.rd Reg.FLS_CMD.ERR = 2) ∧
    (v = s.wr Reg.FLS_CMD.OP 0x03 → v.flsPart writableParts = some p → ∃ t, exec (.trim .keeper) s = .next t ∧ s.agreeBut [.regs, .flash] t ∧ t.rd Reg.FLS_CMD.ERR = 0 ∧
      t.flash.map = tkeep s.flash.map (fun k _ => !(decide (v.rd Reg.FLS_LADDR.SECTOR ≤ k ∧ k < v.rd Reg.FLS_LADDR.SECTOR + v.rd Reg.FLS_LEN.SECTORS)))) ∧
    (∃ t, exec (.flush .keeper) s = .next t ∧ s.agreeBut [.regs] t ∧ t.rd Reg.FLS_CMD.OP = 0x04 ∧ t.rd Reg.FLS_CMD.ERR = 0) ∧
    (∃ t, exec (.flush .tack) s = .next t ∧ t = s) ∧
    (v = s.wr Reg.FLS_CMD.OP 0x20 → v.flsPart readableParts = some p → ∃ t x : State, exec (.pin .keeper) s = .next t ∧
      x = v.updFlash (fun f => (v.flash.blocksOf v.flsSectors).foldl (fun f k => f.updBlock k (fun b => { b with pinned := true })) f) ∧ x.agreeBut [.regs] t ∧ t.rd Reg.FLS_CMD.ERR = 0) ∧
    (v = s.wr Reg.FLS_CMD.OP 0x21 → v.flsPart readableParts = some p → v.isSet Reg.BOOT_STATUS.RECOVERY = true → ∃ t x : State, exec (.unpin .keeper) s = .next t ∧
      x = v.updFlash (fun f => (v.flash.blocksOf v.flsSectors).foldl (fun f k => f.updBlock k (fun b => { b with pinned := false })) f) ∧ x.agreeBut [.regs] t ∧ t.rd Reg.FLS_CMD.ERR = 0)) ∧
  (∀ (s v : State) (k : Nat), s.rd Reg.FLS_STATUS.LUN_OK ≠ 0 →
    (∀ a page : Nat, v = s.wr Reg.FLS_CMD.OP 0x10 → v.flsBlock = some k → v.lunServes (lunOf k) = true → a = v.flsBuf → page = v.rd Reg.FLS_PADDR.PAGE → v.forbidden (unitAccess masterFlash .write a 16384) = none →
      (v.flash.block k).free = false → page < (v.flash.block k).nextPage → ∃ t x : State, exec (.pread .keeper []) s = .next t ∧
        x = (v.writeMem a ((List.range 4).flatMap (fun i => v.flash.physical (pageSector k page + i)))).updFlash (fun f => f.updBlock k (fun b => { b with reads := b.reads + 1 })) ∧
        x.agreeBut [.regs] t ∧ t.rd Reg.FLS_CMD.ERR = 0) ∧
    (∀ m : Nat, m < 128 → v = s.wr Reg.FLS_CMD.OP 0x11 → v.flsBlock = some k → v.lunServes (lunOf k) = true → ∃ t x : State, exec (.mread .keeper m) s = .next t ∧
      x = v.updFlash (fun f => f.updBlock k (fun b => { b with reads := b.reads + 1 })) ∧ x.agreeBut [.regs] t ∧ t.rd Reg.FLS_MARGIN.MAXCORR = m ∧ t.rd Reg.FLS_CMD.ERR = 0) ∧
    (v = s.wr Reg.FLS_CMD.OP 0x12 → v.flsBlock = some k → v.lunServes (lunOf k) = true → (v.flash.block k).nextPage = 0 → ∃ t, exec (.blank .keeper false) s = .next t ∧ s.agreeBut [.regs] t ∧
      t.rd Reg.FLS_CMD.ERR = 0) ∧
    (∀ x : State, v = s.wr Reg.FLS_CMD.OP 0x13 → v.flsBlock = some k → v.lunServes (lunOf k) = true → v.flash.blockProtected k = false → v.flash.validIn k = [] → (v.flash.block k).retired = false →
      v.intentLun k = true → v.eraseBlock k 0 = (x, true) → ∃ t, exec (.flsErase .keeper 0) s = .next t ∧ x.agreeBut [.regs] t ∧ t.rd Reg.FLS_CMD.ERR = 0) ∧
    (v = s.wr Reg.FLS_CMD.OP 0x13 → v.flsBlock = some k → v.lunServes (lunOf k) = true → v.flash.blockProtected k = true → ∃ t, exec (.flsErase .keeper 0) s = .next t ∧ s.agreeBut [.regs] t ∧
      t.rd Reg.FLS_CMD.ERR = 2) ∧
    (∀ (i : ImageHead) (tw f : Nat) (ue : Bool), v = s.wr Reg.FLS_CMD.OP 0x30 → tw = v.rd Reg.BOOT_REQ.TWIN → i = v.twinHead tw → f = v.twinCheck tw none ue → v.flash.trial = false →
      v.flash.activeTwin ≠ tw → ∃ t, exec (.ptrSet .keeper ue) s = .next t ∧
        (f = 0 → ∃ x : State, x = v.appendPtr { carry := false, typ := 1, twin := tw, attempts := 0, prev := v.flash.activeTwin, gen := 0, version := i.version, svn := i.svn, hash := i.hash } ∧
          x.agreeBut [.regs] t ∧ t.rd Reg.FLS_CMD.ERR = 0) ∧
        (f ≠ 0 → s.agreeBut [.regs] t ∧ t.rd Reg.FLS_CMD.ERR = 10 ∧ t = (v.wr (if tw = 0 then Reg.BOOT_STATUS.FAIL0 else Reg.BOOT_STATUS.FAIL1) f).flsEnd 10)) ∧
    (∀ (q : PtrRec) (x : State), v = s.wr Reg.FLS_CMD.OP 0x31 → v.flash.pointer = some q → v.flash.trial = true → v.isSet Reg.BOOT_STATUS.TRIAL = true →
      x = v.appendPtr { q with carry := false, typ := 3, attempts := 0 } → ∃ t, exec (.ptrConfirm .keeper) s = .next t ∧ x.agreeBut [.regs] t ∧ t.rd Reg.FLS_CMD.ERR = 0 ∧
        t = (if x.chip.image.raiseSvn = true ∧ x.rd Reg.BOOT_INFO.MIN_SVN < q.svn then x.wr Reg.BOOT_INFO.MIN_SVN q.svn else x).flsEnd 0) ∧
    (v = s.wr Reg.FLS_CMD.OP 0x31 → v.flash.pointer = none → ∃ t, exec (.ptrConfirm .keeper) s = .next t ∧ s.agreeBut [.regs] t ∧ t.rd Reg.FLS_CMD.ERR = 11) ∧
    (∀ b : Nat, s.sectorsServe [b / 4096] = true → ∃ t, exec (.windowMiss b false false) s = .next t ∧ t = s.countReads [b / 4096]) ∧
    (∀ l : Nat, l < 4 → bitOf (s.rd Reg.FLS_STATUS.LUN_OK) l = true → ∃ t, exec (.flsLunLost l) s = .next t ∧ t = (s.setBit Reg.FLS_STATUS.LUN_OK l false).raise srcFlsLunLost l))

/-- Start-up runs to the booted state, or ends in boot failure, as stated. POWER_GOOD_BOOT answers the state after the start-up self-tests, the choice of
an image and its start, or a boot failure. Rests on 13_flash_and_boot.md, 20_clocks_power_reset.md. -/
def Obligations.BootCommandCompletes : Prop :=
  ∀ (s v : State) (x : BootIn) (p : Nat) (rest : List Nat), s.mainOn = true → s.chip.booted = false → s.chip.bootFailed = false → pairs.filter (fun p => x.pairs.contains p) = p :: rest →
    (∀ tw n : Nat, (s.bootUnits x).chooseTwin x = (some (tw, n), v) → ∃ t w : State, exec (.powerGoodBoot x) s = .next t ∧ w.chip.booted = true ∧ w.chip.image = w.twinHead tw ∧
      w.rd Reg.BOOT_STATUS.TWIN = tw % 2 ∧ (w.core (pairOf p)).pc = BitVec.ofNat 64 (twinAddress tw (w.twinHead tw).entry) ∧ t = w.bootDone x) ∧
    (∀ (b : List Byte) (h : ImageHead) (u : State), (s.bootUnits x).chooseTwin x = (none, v) → x.recoveryImage = some b → h = parseImage (b.take 160) → v.chip.booted = false →
      u = ((v.wr Reg.PCK_SIGN_SLOTS.SEED_SLOT 3).wr Reg.PCK_SIGN_SLOTS.PRF_SLOT 4).wr Reg.RST_IDX_KEY.SLOT 6 → ∃ t, exec (.powerGoodBoot x) s = .next t ∧
        (u.imageCheck 2 (slice b) none false = 0 → ∃ w : State, w.chip.booted = true ∧ w.chip.image = h ∧ w.rd Reg.BOOT_STATUS.RECOVERY = 1 ∧
          (w.core (pairOf p)).pc = BitVec.ofNat 64 (0x4000000 + h.entry) ∧ t = w.bootDone x) ∧
        (u.imageCheck 2 (slice b) none false ≠ 0 → t.chip.bootFailed = true ∧ t.rd Reg.FCU_PIN.LEVEL = 0 ∧ v.agreeBut [.regs, .chip] t)) ∧
    ((s.bootUnits x).chooseTwin x = (none, v) → x.recoveryImage = none → v.chip.booted = false → ∃ t, exec (.powerGoodBoot x) s = .next t ∧ t.chip.bootFailed = true ∧
      t.rd Reg.FCU_PIN.LEVEL = 0 ∧ v.agreeBut [.regs, .chip] t)

/-- The fault collector's commands complete: detections, windows, holds and counters as stated. The commands of detection, reaction, windows, lines and
configuration answer a next state with the stated record, register and pin. Rests on 14_fault_collector.md. -/
def Obligations.FaultCollectorCommandsComplete : Prop :=
  ∀ (s : State) (src : Nat),
    (∀ d n : Nat, src < 0x140 → src ≠ srcFcuMemErr → ∃ t, exec (.faultDetection src d n) s = .next t ∧ t = s.raise src d) ∧
    (∀ c d n : Nat, c < 12 → ∃ t, exec (.faultDetection (0x140 + 4 * c + 2) d n) s = .next t ∧ t = s.channelFailed c) ∧
    (∀ (d n : Nat) (w : Window), s.reacting = some w → ∃ t, exec (.faultDetection srcFcuMemErr d n) s = .next t ∧ t = (s.raise srcFcuMemErr d).nestedError n) ∧
    (∀ w : Window, s.collector.windows = [w] → w.opener = src → w.reaction ≠ rSafe → ∃ t, exec (.consequenceWindowClose src true) s = .next t ∧ s.agreeBut [.collector] t ∧ t.collector.windows = []) ∧
    (∀ w : Window, s.collector.windows = [w] → w.opener = src → w.reaction ≠ rSafe → ∃ t, exec (.consequenceWindowClose src false) s = .next t ∧ t.collector.windows = [] ∧
      t.now = max s.now (w.openedAt + 100 * usec)) ∧
    (∀ (e : Nat) (v : State), s.collector.pulseEnd = some e → v = s.advanceTo e → ∃ t, exec .faultNPulseEnd s = .next t ∧ v.agreeBut [.collector, .regs] t ∧ t.collector.pulseEnd = none ∧
      t.rd Reg.FCU_PIN.LEVEL = b2n v.restLevel) ∧
    (∃ t, exec (.fcuHoldWrite true) s = .next t ∧ s.agreeBut [.regs] t ∧ t.rd Reg.FCU_PIN.HOLD = 1 ∧ t.rd Reg.FCU_PIN.LEVEL = 0) ∧
    (∀ v : State, v = s.flag Reg.FCU_PIN.HOLD false → s.collector.pulseEnd = none → v.safe = false → ∃ t, exec (.fcuHoldWrite false) s = .next t ∧ s.agreeBut [.regs] t ∧ t.rd Reg.FCU_PIN.HOLD = 0 ∧
      t.rd Reg.FCU_PIN.LEVEL = 1) ∧
    (∀ (react : Bool) (v : State), v = s.injFields .keeper src 0 react 0 → ∃ t, exec (.fcuInjPseudo src react .keeper) s = .next t ∧ t = v.fcuInject) ∧
    (∀ (m : Nat) (v : State), src < 1024 → v = s.injFields .keeper src 1 false m → v.testAllowed = true → ∃ t, exec (.fcuInjCheck src m .keeper) s = .next t ∧ s.agreeBut [.regs, .collector] t ∧
      t.collector.checkInj = some (src, v.rd Reg.FCU_INJ.MASK) ∧ t.rd Reg.FCU_INJ.ERR = 0) ∧
    (∀ (m : Nat) (v : State), v = s.injFields .keeper src 1 false m → v.testAllowed = false → ∃ t, exec (.fcuInjCheck src m .keeper) s = .next t ∧ s.agreeBut [.regs] t ∧ t.rd Reg.FCU_INJ.ERR = 1) ∧
    (∀ r : FaultRec, tget s.collector.recs src = some r → ∃ t, exec (.fcuClr src) s = .next t ∧ s.agreeBut [.collector] t ∧
      tget t.collector.recs src = some { r with count := 0, conseq := 0, nested := 0, sticky := false, window := none, firstSeq := 0 }) ∧
    (∀ c r l : Nat, src = s.rd Reg.FCU_SEL.SRC → s.cfgAllowed src c r l = false → ∃ t, exec (.fcuSrcCfgWrite c r l .keeper) s = .next t ∧ s.agreeBut [.collector] t ∧ t.collector.refused = true ∧
      t.collector.recs = s.collector.recs) ∧
    (∀ c r l : Nat, src = s.rd Reg.FCU_SEL.SRC → s.cfgAllowed src c r l = true → ∃ t, exec (.fcuSrcCfgWrite c r l .keeper) s = .next t ∧ s.agreeBut [.collector] t ∧ t.collector.refused = false ∧
      (∃ y, tget t.collector.recs src = some y ∧ y.cfg = some (c, r, l)))

/-- Fault injections act where they are accepted and otherwise only set ERR to DENIED. PSEUDO acts for FCU_TEST0 to FCU_TEST15 always and for another
source, as CHECK does for every source, only where the test conditions hold; every other request sets ERR to DENIED beside the request's own fields.
That DENIED is code 1 follows the register's table. Rests on 14_fault_collector.md, Injection. -/
def Obligations.InjectionsAreAcceptedOrDenied : Prop :=
  ∀ (s v : State) (src mask : Nat) (react : Bool), src < 1024 → mask < 128 →
    (v = s.injFields .keeper src 0 react 0 → (0x3F0 ≤ src ∨ v.testAllowed = true) → ∃ t, exec (.fcuInjPseudo src react .keeper) s = .next t ∧
      t = (v.wr Reg.FCU_INJ.ERR 0).detect src (s.rd Reg.FCU_INJ_DETAIL.DETAIL) (if react then .full else .quiet)) ∧
    (v = s.injFields .keeper src 0 react 0 → src < 0x3F0 → v.testAllowed = false → ∃ t, exec (.fcuInjPseudo src react .keeper) s = .next t ∧ t = v.wr Reg.FCU_INJ.ERR 1) ∧
    (v = s.injFields .keeper src 1 false mask → v.testAllowed = true → ∃ t, exec (.fcuInjCheck src mask .keeper) s = .next t ∧
      t = (v.updCollector (fun c => { c with checkInj := some (src, mask) })).wr Reg.FCU_INJ.ERR 0) ∧
    (v = s.injFields .keeper src 1 false mask → v.testAllowed = false → ∃ t, exec (.fcuInjCheck src mask .keeper) s = .next t ∧ t = v.wr Reg.FCU_INJ.ERR 1)

/-- Clearing a source record zeroes its counters and sticky state and leaves LIVE and LAST_SEQ. FCU_CLR on a record that exists sets COUNT, CONSEQ,
NESTED, STICKY, WINDOW and FIRST_SEQ to zero, keeps LIVE and LAST_SEQ, and changes no other record and nothing outside the collector. The order within
one cycle is not stated here: commands come one after another. Rests on 14_fault_collector.md. -/
def Obligations.ClearingARecordLeavesLiveAndLastSeq : Prop :=
  ∀ (s : State) (src : Nat) (r : FaultRec), tget s.collector.recs src = some r → ∃ t, exec (.fcuClr src) s = .next t ∧ s.agreeBut [.collector] t ∧
    (t.faultRec src).count = 0 ∧ (t.faultRec src).conseq = 0 ∧ (t.faultRec src).nested = 0 ∧ (t.faultRec src).sticky = false ∧ (t.faultRec src).window = none ∧ (t.faultRec src).firstSeq = 0 ∧
    (t.faultRec src).live = (s.faultRec src).live ∧ (t.faultRec src).lastSeq = (s.faultRec src).lastSeq ∧ (∀ k : Nat, k ≠ src → tget t.collector.recs k = tget s.collector.recs k)

/-- Kennel commands complete: supply, cell, monitors, responses and controls as stated. The commands of the Kennel's supply and cell, of its monitors and
tamper responses, and of its control register answer a next state with the stated status, event and banks. Rests on 15_kennel_and_tamper.md. -/
def Obligations.KennelCommandsComplete : Prop :=
  (∀ (s : State) (r : Reading), s.kennel.dead = false →
    (s.rd Reg.KNL_STATUS.SUPPLY = 0 → s.rd Reg.KNL_STATUS.CELL_STATE < cellEnd → ∃ t, exec (.vddIo33Loss r) s = .next t ∧ s.agreeBut [.regs] t ∧ t.rd Reg.KNL_STATUS.SUPPLY = 1) ∧
    (s.rd Reg.KNL_STATUS.SUPPLY = 0 → cellEnd ≤ s.rd Reg.KNL_STATUS.CELL_STATE → ∃ t, exec (.vddIo33Loss r) s = .next t ∧ t = (s.wr Reg.KNL_STATUS.SUPPLY 2).kennelEvent 13 r) ∧
    (∃ t, exec .vddIo33Return s = .next t ∧ s.agreeBut [.regs] t ∧ t.rd Reg.KNL_STATUS.SUPPLY = 0) ∧
    (s.rd Reg.KNL_STATUS.CELL_STATE ≠ cellAbsent → s.rd Reg.KNL_STATUS.SUPPLY = 0 → ∃ t, exec (.cellRemoved r) s = .next t ∧ t = (s.wr Reg.KNL_STATUS.CELL_STATE cellAbsent).monitor 9 r) ∧
    (s.rd Reg.KNL_STATUS.CELL_STATE ≠ cellAbsent → s.rd Reg.KNL_STATUS.SUPPLY = 1 → s.isSet Reg.KNL_STATUS.HOLDUP_OK = false → ∃ t, exec (.cellRemoved r) s = .next t ∧ t.kennel.dead = true ∧
      t.keys.bankA = none ∧ t.keys.bankB = none ∧ t.kennel.queue = [] ∧ t.rd Reg.KNL_STATUS.CELL_STATE = cellAbsent) ∧
    (s.rd Reg.KNL_STATUS.CELL_STATE ≠ cellAbsent → ∃ t, exec (.cellEnd r) s = .next t ∧ t = (s.wr Reg.KNL_STATUS.CELL_STATE cellEnd).monitor 11 r) ∧
    (s.rd Reg.KNL_STATUS.CELL_STATE < cellEnd → ∀ v : State, v = (s.wr Reg.KNL_STATUS.CELL_STATE cellLow).monitor 10 r → v.mainPower = true → v.mainOn = true →
      ∃ t, exec (.cellLow r) s = .next t ∧ t = v.raise srcKnlCellLow) ∧
    (s.rd Reg.KNL_STATUS.CELL_STATE < cellEnd → ∀ v : State, v = (s.wr Reg.KNL_STATUS.CELL_STATE cellLow).monitor 10 r → v.mainPower = false →
      ∃ t, exec (.cellLow r) s = .next t ∧ v.agreeBut [.kennel] t ∧ t.kennel.lowSeen = true) ∧
    (s.rd Reg.KNL_STATUS.CELL_STATE = cellAbsent → 2200 ≤ r.vbat → ∃ t, exec (.cellInserted r) s = .next t ∧ t = (s.wr Reg.KNL_STATUS.CELL_STATE cellOk).monitor 12 r) ∧
    (s.rd Reg.KNL_STATUS.SUPPLY ≠ 0 → ∃ t, exec .kennelDead s = .next t ∧ s.agreeBut [.keys, .kennel] t ∧ t.kennel.dead = true ∧ t.keys.bankA = none ∧ t.keys.bankB = none ∧ t.kennel.queue = [] ∧
      t.kennel.toCollar = []) ∧
    (∃ t, exec .holdupOk s = .next t ∧ s.agreeBut [.regs] t ∧ t.rd Reg.KNL_STATUS.HOLDUP_OK = 1)) ∧
  (∀ (s : State) (r : Reading), s.kennel.dead = false →
    (r.temp ≤ signedOf 9 (s.rd Reg.KNL_TEMP.LOW) → ∃ t, exec (.tempLow r) s = .next t ∧ t = s.monitor 0 r) ∧
    (signedOf 9 (s.rd Reg.KNL_TEMP.LOW) < r.temp → ∃ t, exec (.tempLow r) s = .next t ∧ t = s) ∧
    (signedOf 9 (s.rd Reg.KNL_TEMP.HIGH) ≤ r.temp → ∃ t, exec (.tempHigh r) s = .next t ∧ t = s.monitor 1 r) ∧
    (∃ t, exec (.volt r) s = .next t ∧ t = s.monitor 2 r) ∧
    (∃ t, exec (.glitch r) s = .next t ∧ t = s.monitor 3 r) ∧
    (∃ t v : State, exec (.clock true r) s = .next t ∧ s.agreeBut [.regs] v ∧ v.rd Reg.KNL_STATUS.XTAL_OK = 0 ∧ t = v.monitor 4 r) ∧
    (∃ t, exec (.mesh r) s = .next t ∧ t = s.monitor 5 r) ∧
    (∃ t, exec (.lid r) s = .next t ∧ t = s.monitor 6 r) ∧
    (∃ t, exec (.loop0 r) s = .next t ∧ t = s.monitor 7 r) ∧
    (∃ t, exec (.loop1 r) s = .next t ∧ t = s.monitor 8 r) ∧
    (∀ m : Nat, m < 15 → ∃ t, exec (.monitorRearm m) s = .next t ∧ s.agreeBut [.regs] t ∧ t.rd (Reg.KNL_MON.ARMED.nth m) = 1 ∧ t.rd (Reg.KNL_MON.ALARM.nth m) = 0) ∧
    (∀ m : Nat, m < 15 → s.isSet (Reg.KNL_MON.EN.nth m) = false → s.monitor m r = s) ∧
    (∀ m : Nat, m < 15 → s.isSet (Reg.KNL_MON.EN.nth m) = true → s.isSet (Reg.KNL_MON.ARMED.nth m) = false → s.agreeBut [.regs] (s.monitor m r) ∧ (s.monitor m r).rd (Reg.KNL_MON.ALARM.nth m) = 1)) ∧
  (∀ (s : State),
    (∃ t, exec (.unlock .keeper) s = .next t ∧ t = s.unlock) ∧
    (∃ t, exec (.unlock .tack) s = .next t ∧ t = s) ∧
    (∃ t, exec (.clrLatch .keeper) s = .next t ∧ t = s.clearLatch) ∧
    (∃ t, exec (.clrPor .keeper) s = .next t ∧ s.agreeBut [.regs] t ∧ t.rd Reg.KNL_STATUS.POR = 0) ∧
    (∀ (x : KennelRec) (rest : List KennelRec), s.kennel.queue = x :: rest → rest ≠ [] → ∃ t, exec (.evqPop .keeper) s = .next t ∧ s.agreeBut [.kennel] t ∧ t.kennel.queue = rest) ∧
    (∀ x : KennelRec, s.kennel.queue = [x] → ∃ t, exec (.evqPop .keeper) s = .next t ∧ s.agreeBut [.kennel, .regs] t ∧ t.kennel.queue = [] ∧ t.rd Reg.KNL_STATUS.EVQ_LOST = 0) ∧
    (∀ n : Nat, n < 2 ^ 64 → s.svc ≠ .seal → ∃ t, exec (.knlRtcSet n .keeper) s = .next t ∧ s.agreeBut [.regs, .rtc, .kennel] t ∧ t.rtc = n ∧ t.kennel.slew = 0 ∧ t.rd Reg.KNL_STATUS.RTC_VALID = 1) ∧
    (∀ n : Nat, n < 2 ^ 64 → s.svc = .seal → s.isSet Reg.KNL_STATUS.RTC_VALID = true → ∃ t, exec (.knlRtcSet n .keeper) s = .next t ∧ s.agreeBut [.regs, .kennel] t ∧ t.kennel.slew = (n : Int) - s.rtc) ∧
    (∀ lo hi : Int, -80 ≤ lo → lo < hi → hi ≤ 150 → ∃ t, exec (.knlTempWrite lo hi .keeper) s = .next t ∧ s.agreeBut [.regs] t ∧ signedOf 9 (t.rd Reg.KNL_TEMP.LOW) = lo ∧
      signedOf 9 (t.rd Reg.KNL_TEMP.HIGH) = hi ∧ t.rd Reg.KNL_TEMP.REFUSED = 0) ∧
    (∀ lo hi : Int, hi ≤ lo → ∃ t, exec (.knlTempWrite lo hi .keeper) s = .next t ∧ s.agreeBut [.regs] t ∧ t.rd Reg.KNL_TEMP.LOW = s.rd Reg.KNL_TEMP.LOW ∧ t.rd Reg.KNL_TEMP.REFUSED = 1) ∧
    (∀ (m resp : Nat) (en : Bool), m < 15 → resp < 4 → s.monOk m resp en = true → ∃ t, exec (.knlMonWrite m resp en .keeper) s = .next t ∧ s.agreeBut [.regs] t ∧
      t.rd (Reg.KNL_MON.RESP.nth m) = resp ∧ t.rd (Reg.KNL_MON.EN.nth m) = b2n en ∧ t.rd (Reg.KNL_MON.REFUSED.nth m) = 0) ∧
    (∀ (m resp : Nat) (en : Bool), m < 15 → s.monOk m resp en = false → ∃ t, exec (.knlMonWrite m resp en .keeper) s = .next t ∧ s.agreeBut [.regs] t ∧
      t.rd (Reg.KNL_MON.RESP.nth m) = s.rd (Reg.KNL_MON.RESP.nth m) ∧ t.rd (Reg.KNL_MON.REFUSED.nth m) = 1) ∧
    (∀ ppm : Int, ∃ t, exec (.knlTrimWrite ppm .keeper) s = .next t ∧ s.agreeBut [.regs] t ∧ signedOf 16 (t.rd Reg.KNL_TRIM.PPM10) = max (-2000) (min 2000 ppm)) ∧
    (∀ (x : KennelRec) (rest : List KennelRec) (vkeep bad : Nat), s.kennel.dead = false → s.kennel.toCollar = x :: rest → 2000 ≤ vkeep → ∃ t v : State,
      exec (.kennelCollarWrite vkeep bad) s = .next t ∧ s.agreeBut [.kennel] v ∧ v.kennel.toCollar = rest ∧ t = v.collarAppend false crKennel x.bytes bad) ∧
    (∀ (lo hi : Int) (vb : Nat), s.kennel.dead = false → ∃ t v : State, ∃ body : List Byte, exec (.sensorLogInterval lo hi vb) s = .next t ∧ s.agreeBut [.kennel, .now, .rtc] v ∧
      v.kennel.lastLog = v.now ∧ v.now = max s.now (s.kennel.lastLog + max 1 (s.rd Reg.KNL_LOG.INTERVAL) * 60 * second) ∧ t = v.collarAppend true crSensor body))

/-- The contactless reader's commands complete as stated. Detection pings, polls, exchanges, deselection and field control answer a next state with the
stated reader state, registers and interrupt. Rests on 16_contactless_collar.md. -/
def Obligations.ReaderCommandsComplete : Prop :=
  ∀ (s v : State) (c : Card) (cards : List Card),
    (∀ (amp : Nat) (ph : Int), s.nfcServes = true → s.isSet Reg.NFC_CTRL.DETECT = true → s.reader.mode = .idle → s.reader.pings.length < 16 → ∃ t, exec (.detectionPing amp ph cards) s = .next t ∧
      s.agreeBut [.reader, .now, .rtc, .kennel] t ∧ t.reader.pings = s.reader.pings ++ [(amp, ph)]) ∧
    (∀ (amp : Nat) (ph : Int), s.nfcServes = true → s.isSet Reg.NFC_CTRL.DETECT = true → s.reader.mode = .idle → 16 ≤ s.reader.pings.length → s.pingDiffers amp ph = true →
      v = s.advance (max 50 (min 2000 (s.rd Reg.NFC_DETECT.PERIOD_MS)) * msec) → ∃ t, exec (.detectionPing amp ph cards) s = .next t ∧ t = (v.pollField cards).1) ∧
    (∀ (u e : Nat) (rest : List (Nat × Nat)), s.shepherd.pendingTags = (u, e) :: rest → ∃ t, exec .pendingCheckinExpiry s = .next t ∧ s.agreeBut [.shepherd, .now, .rtc, .kennel] t ∧
      t.shepherd.pendingTags = rest ∧ t.now = max s.now (e + s.checkinLife)) ∧
    (s.reader.mode = .active → ∃ t, exec .tapIdleTimeout s = .next t ∧ t = ((s.advanceTo (s.reader.last + 2 * second)).haltCard).dropCard .idle ∧ t.reader.mode = .idle ∧ t.reader.card = none) ∧
    (s.nfcServes = true → s.reader.mode = .idle → ∃ t, exec .externalField s = .next t ∧ s.agreeBut [.reader] t ∧ t.reader.mode = .extField) ∧
    (s.reader.mode = .extField → ∃ t, exec .extFieldGone s = .next t ∧ s.agreeBut [.reader] t ∧ t.reader.mode = .idle) ∧
    (v = (s.wr Reg.NFC_CMD.OP 1).updReader (fun r => { r with last := s.now }) → v.reader.mode ≠ .extField → v.reader.mode ≠ .fault → v.nfcServes = true → ∃ t, exec (.poll .keeper cards) s = .next t ∧
      t = ((v.pollField cards).1.wr Reg.NFC_CMD.ERR (v.pollField cards).2).interrupt 210) ∧
    (∀ answer : CardAnswer, v = (s.wr Reg.NFC_CMD.OP 2).updReader (fun r => { r with last := s.now }) → v.reader.mode = .active → v.nfcServes = true → v.reader.card = some c → c.isoDep = true →
      v.rd Reg.NFC_LEN.TXLEN ≠ 0 → v.forbidden (unitAccess masterNfc .read (v.rd Reg.NFC_TXADDR.ADDR) (v.rd Reg.NFC_LEN.TXLEN)) = none → ∀ w : State,
      w = (v.activate c).emit .nfcCard 0 [] (v.readMem (v.rd Reg.NFC_TXADDR.ADDR) (v.rd Reg.NFC_LEN.TXLEN)) → ∃ t, exec (.exchange .keeper answer) s = .next t ∧
      t = ((w.nfcAnswer answer).1.wr Reg.NFC_CMD.ERR (w.nfcAnswer answer).2).interrupt 210) ∧
    (v = (s.wr Reg.NFC_CMD.OP 3).updReader (fun r => { r with last := s.now }) → v.reader.mode = .active → v.nfcServes = true → v.reader.card = some c → ∃ t, exec (.deselect .keeper) s = .next t ∧
      t = (v.haltCard.wr Reg.NFC_CMD.ERR nOk).interrupt 210) ∧
    (v = (s.wr Reg.NFC_CMD.OP 4).updReader (fun r => { r with last := s.now }) → v.reader.mode = .active → v.nfcServes = true → ∃ t, exec (.fieldOff .keeper) s = .next t ∧
      t = ((v.dropCard .idle).wr Reg.NFC_CMD.ERR nOk).interrupt 210) ∧
    (v = (s.wr Reg.NFC_CMD.OP 5).updReader (fun r => { r with last := s.now }) → v.reader.mode = .active → v.nfcServes = true → ∀ w : State, w = v.haltCard → w.reader.served < 16 →
      w.findCard (cards.filter (fun c => !w.reader.halted.contains c.uid)) = .found c → ∃ t, exec (.nextCard .keeper cards) s = .next t ∧
      t = ((w.selectCard c).1.wr Reg.NFC_CMD.ERR (w.selectCard c).2).interrupt 210) ∧
    (s.reader.mode = .extField → ∃ t, exec (.poll .keeper cards) s = .next t ∧ t = (((s.wr Reg.NFC_CMD.OP 1).updReader (fun r => { r with last := s.now })).wr Reg.NFC_CMD.ERR nExtField).interrupt 210)

/-- Collar commands from the field and from the core complete as stated. Activation, selection, reads, password commands, notes and the core's commands on
the Collar answer a next state with the stated memory, tries and answer. Rests on 16_contactless_collar.md. -/
def Obligations.CollarCommandsComplete : Prop :=
  (∀ (s v : State) (x : FieldSession) (n : Nat) (pw : List Byte),
    (∃ t, exec (.collarPowerUp false false) s = .next t ∧ s.agreeBut [.regs, .collar, .draws] t ∧ t.collar.scanned = true ∧ t.collar.session = none ∧ t.rd Reg.COL_STATUS.SESSION = 0 ∧
      0x08000000 ≤ t.collar.uid ∧ t.collar.uid < 0x09000000) ∧
    (s.collar.scanned = true → s.carrierOn = false → ∃ t, exec .collarActivation s = .next t ∧ s.agreeBut [.regs, .collar, .out] t ∧ t.rd Reg.COL_STATUS.SESSION = 1 ∧
      t.collar.session = some { selected := false, verified := [], last := s.now }) ∧
    (s.collar.session = some x → ∃ t, exec (.collarSelect [0xF0, 0x4C, 0x47, 0x43, 0x4F, 0x4C, 0x01]) s = .next t ∧ s.agreeBut [.collar, .out] t ∧
      t.collar.session = some { x with selected := true, last := s.now } ∧ t.out = { dest := .fieldReader, typ := 0x90, fields := [swDone] } :: s.out) ∧
    (v = s.updCollar (fun c => { c with session := some { x with last := s.now } }) → s.collar.session = some x → x.selected = true →
      (∀ a : Nat, 0 < n → n ≤ 256 → a + n ≤ 65536 → (rangeFrom a n).all (v.fieldMay x) = true → ∃ t, exec (.collarRead a n) s = .next t ∧ t = v.fieldAnswer swDone (v.collarBytes a n)) ∧
      (∃ t bytes, exec .getState s = .next t ∧ t = v.fieldAnswer swDone bytes ∧ bytes.take 8 = leBytes 4 s.collar.custody.nextSeq ++ leBytes 4 s.collar.sensor.nextSeq) ∧
      (1 ≤ n → n ≤ 3 → pw.length = 8 → bitOf v.security.set (n - 1) = true → v.security.triesOf n = 0 → ∃ t, exec (.verify n pw true false) s = .next t ∧ t = v.fieldAnswer swBlocked) ∧
      (∀ w : State, 1 ≤ n → n ≤ 3 → pw.length = 8 → bitOf v.security.set (n - 1) = true → 2 ≤ v.security.triesOf n → v.security.pw.getD (n - 1) [] = pw → n ∉ x.verified →
        w = v.putSecurity (v.security.setTries n (v.security.triesOf n - 1)) → ∃ t z : State, exec (.verify n pw true false) s = .next t ∧
        z = (w.putSecurity (w.security.setTries n 8)).updCollar (fun c => { c with session := some { x with verified := n :: x.verified, last := s.now } }) ∧ t = z.fieldAnswer swDone) ∧
      (∀ w : State, 1 ≤ n → n ≤ 3 → pw.length = 8 → bitOf v.security.set (n - 1) = true → 2 ≤ v.security.triesOf n → v.security.pw.getD (n - 1) [] ≠ pw →
        w = v.putSecurity (v.security.setTries n (v.security.triesOf n - 1)) → ∃ t, exec (.verify n pw true false) s = .next t ∧ t = w.fieldAnswer (0x63C0 + (v.security.triesOf n - 1))) ∧
      (pw.length = 16 → 2 ∈ x.verified → ∃ t, exec (.appendNote pw true 0) s = .next t ∧ t = (v.collarAppend false crFieldNote pw 0).fieldAnswer swDone (leBytes 4 s.collar.custody.nextSeq)) ∧
      (1 ≤ n → n ≤ 3 → pw.length = 8 → v.fieldAdmin x = true → ∃ t, exec (.changePw n pw true) s = .next t ∧ t = (v.setPassword n pw 1).fieldAnswer swDone) ∧
      (1 ≤ n → n ≤ 2 → v.fieldAdmin x = true → ∃ t, exec (.resetTries n true) s = .next t ∧ t = (v.putSecurity (v.security.setTries n 8)).fieldAnswer swDone)) ∧
    (s.collar.session = some x → (∃ t, exec (.collarSessionEnd true false) s = .next t ∧ t = s.endField false) ∧
      (∃ t, exec (.collarSessionEnd false true) s = .next t ∧ t = (s.advanceTo (x.last + 2 * second)).endField true))) ∧
  (∀ (s v : State) (n : Nat), s.collar.session = none →
    (v = (s.wr Reg.COL_CMD.OP 1).wr Reg.COL_CMD.PW (s.rd Reg.COL_CMD.PW) → 0 < v.rd Reg.COL_ADDR.LEN → v.rd Reg.COL_ADDR.LEN ≤ 256 → v.rd Reg.COL_ADDR.ADDR + v.rd Reg.COL_ADDR.LEN ≤ 65536 →
      ∃ t, exec (.colRead .keeper) s = .next t ∧ t = (v.setColWin (v.collarBytes (v.rd Reg.COL_ADDR.ADDR) (v.rd Reg.COL_ADDR.LEN))).wr Reg.COL_CMD.ERR 0) ∧
    (v = (s.wr Reg.COL_CMD.OP 2).wr Reg.COL_CMD.PW (s.rd Reg.COL_CMD.PW) → ∃ t, exec (.colAppend .keeper 0) s = .next t ∧ t = (v.collarAppend false crCoreNote (v.colWin 16) 0).wr Reg.COL_CMD.ERR 0) ∧
    (v = (s.wr Reg.COL_CMD.OP 3).wr Reg.COL_CMD.PW n → 1 ≤ n → n ≤ 3 → ∃ t, exec (.setPw .keeper n) s = .next t ∧ t = (v.setPassword n (v.colWin 8) 2).wr Reg.COL_CMD.ERR 0) ∧
    (v = (s.wr Reg.COL_CMD.OP 4).wr Reg.COL_CMD.PW n → 1 ≤ n → n ≤ 3 → ∃ t, exec (.unblock .keeper n) s = .next t ∧ t = (v.putSecurity (v.security.setTries n 8)).wr Reg.COL_CMD.ERR 0) ∧
    (v = (s.wr Reg.COL_CMD.OP 5).wr Reg.COL_CMD.PW (s.rd Reg.COL_CMD.PW) → ∃ t, exec (.setPolicy .keeper) s = .next t ∧
      t = (v.putSecurity { v.security with policy := ofLe (v.colWin 1) % 4 }).wr Reg.COL_CMD.ERR 0) ∧
    (∃ t, exec (.setPolicy .tack) s = .next t ∧ t = s))

/-- Presses, releases and the service card's operations complete as stated. Each press, release and stuck input, and each operation, time-out, removal and
insertion of the service card, answers a next state with the stated registers, records, interrupts and card traffic. Rests on
17_panel_and_service_card.md. -/
def Obligations.PanelAndServiceCardCommandsComplete : Prop :=
  (∀ (s u v : State) (n p : Nat), s.panelServes = true →
    (s.panel.presAt = none → s.panel.presBlocked = false → v = s.advance s.debounce → ∃ t, exec .presencePress s = .next t ∧
      t = (((((v.flag Reg.PNL_BTN.PRES_LIVE true).addTo Reg.PNL_BTN.PRES_CNT 1).wr Reg.PNL_PRES_TIME.TIME s.time64).updPanel
        (fun q => { q with presAt := some s.now })).trailRec 0x0301 masterPanel true (leBytes 8 s.time64)).interrupt 220) ∧
    (s.panel.servAt = none → s.panel.servBlocked = false → n * msec < s.longPress → v = s.recognise true → ∃ t, exec (.servicePress n) s = .next t ∧
      t = ((v.advanceTo (s.now + n * msec)).releaseButton true).interrupt 221) ∧
    (s.panel.servAt = some p → v = s.advanceTo (p + n * msec) → ∃ t, exec (.buttonRelease true n) s = .next t ∧ t = v.releaseButton true) ∧
    (s.panel.presAt = some p → s.panel.presBlocked = false → n * msec ≤ s.stuckLimit → v = s.advanceTo (p + n * msec) → ∃ t, exec (.buttonRelease false n) s = .next t ∧
      t = (v.releaseButton false).updPanel (fun q => { q with presses := p :: q.presses })) ∧
    (s.panel.presAt = some p → s.panel.presBlocked = true → v = s.advanceTo (p + n * msec) → ∃ t, exec (.buttonRelease false n) s = .next t ∧ t = v.releaseButton false) ∧
    (s.panel.servAt = none → s.panel.servBlocked = false → v = (s.recognise true).advanceTo (s.now + (s.recognise true).longPress) → v.sd.running = none → v.cardPowered = true →
      v.scState ≠ scLocked → ∃ t, exec .longPress s = .next t ∧ t = (v.cardOff scOff).sdEnd sdOk) ∧
    (s.panel.presBlocked = false → s.panel.presAt = some p → v = s.advanceTo (p + s.stuckLimit) → ∃ t, exec (.pnlStuck false) s = .next t ∧
      t = ((v.flag Reg.PNL_BTN.PRES_STUCK true).updPanel (fun q => { q with presBlocked := true })).raise srcPnlStuck 0) ∧
    (s.panel.servBlocked = false → s.panel.servAt = none → u = s.recognise true → v = u.advanceTo (s.now + u.stuckLimit) → ∃ t, exec (.pnlStuck true) s = .next t ∧
      t = ((v.flag Reg.PNL_BTN.SERV_STUCK true).updPanel (fun q => { q with servBlocked := true })).raise srcPnlStuck 1)) ∧
  (∀ (s v w : State) (f : SdFacts) (n op : Nat) (data : List Byte) (seen : List BundleSeen) (started : Nat → State), s.panelServes = true → s.isSet Reg.SC_CMD.BUSY = false →
    started = (fun o => (s.wr Reg.SC_CMD.OP o).updSd (fun d => { d with last := s.now })) →
    (v = started 1 → v.isSet Reg.SC_STATUS.PRESENT = true → v.scState ≠ scLocked → ∃ t, exec (.initCard .keeper f) s = .next t ∧ t = (v.initSlot f).1.sdEnd (v.initSlot f).2) ∧
    (v = started 2 → v.cardPowered = true → v.scState ≠ scLocked → v.scState ≠ scSleep → v.scCount ≠ 0 → v.scFirst + v.scCount ≤ v.sd.blocks → v.guardRange masterCard .write v.scBuf (512 * v.scCount) = (true, w) →
      ∃ t, exec (.scRead .keeper data (.ok 0)) s = .next t ∧ t = (((w.emit .serviceCard 18 [w.scFirst, w.scCount]).writeMem w.scBuf (padTo (512 * v.scCount) data)).bump Reg.SC_EVENTS.CRC_RETRY 0).sdEnd sdOk) ∧
    (v = started 3 → v.cardPowered = true → v.scState ≠ scLocked → v.scState ≠ scSleep → v.scCount ≠ 0 → v.scFirst + v.scCount ≤ v.sd.blocks → v.guardRange masterCard .read v.scBuf (512 * v.scCount) = (true, w) →
      ∃ t, exec (.scWrite .keeper (.ok 0)) s = .next t ∧ t = ((w.emit .serviceCard 25 [w.scFirst, w.scCount] (w.readMem w.scBuf (512 * v.scCount))).bump Reg.SC_EVENTS.CRC_RETRY 0).sdEnd sdOk) ∧
    (v = started 4 → v.cardPowered = true → v.scState ≠ scLocked → v.scState ≠ scSleep → v.scCount ≠ 0 → v.scFirst + v.scCount ≤ v.sd.blocks → ∃ t, exec (.scErase .keeper (.ok 0)) s = .next t ∧
      t = ((v.emit .serviceCard 38 [v.scFirst, v.scCount]).bump Reg.SC_EVENTS.CRC_RETRY 0).sdEnd sdOk) ∧
    (n = v.scCount % 32 → 1 ≤ n → n ≤ 16 → v.cardPowered = true → v.guardRange masterCard .read v.scBuf n = (true, w) →
      (v = started 5 → ∃ t, exec (.scUnlock .keeper (.ok 0)) s = .next t ∧ t = (((w.emit .serviceCard 42 [0, n] (w.readMem w.scBuf n)).cardFree).bump Reg.SC_EVENTS.CRC_RETRY 0).sdEnd sdOk) ∧
      (v = started 6 → v.scState ≠ scLocked → v.scState ≠ scSleep → ∃ t, exec (.setPwd .keeper (.ok 0)) s = .next t ∧ t = ((w.emit .serviceCard 42 [1, n] (w.readMem w.scBuf n)).bump Reg.SC_EVENTS.CRC_RETRY 0).sdEnd sdOk) ∧
      (v = started 7 → v.scState ≠ scLocked → v.scState ≠ scSleep → ∃ t, exec (.clrPwd .keeper (.ok 0)) s = .next t ∧ t = ((w.emit .serviceCard 42 [2, n] (w.readMem w.scBuf n)).bump Reg.SC_EVENTS.CRC_RETRY 0).sdEnd sdOk)) ∧
    (v = started 8 → v.cardPowered = true →
      (v.pressNow = none → ∃ t, exec (.forceErase .keeper (.ok 0)) s = .next t ∧ t = v.sdEnd sdPresence) ∧
      (v.pressNow ≠ none → ∃ t, exec (.forceErase .keeper (.ok 0)) s = .next t ∧ t = (((v.usePress.emit .serviceCard 42 [8, 0]).cardFree).bump Reg.SC_EVENTS.CRC_RETRY 0).sdEnd sdOk)) ∧
    (v = started 9 → v.cardPowered = true → v.scState ≠ scLocked → v.scState ≠ scSleep → ∃ t, exec (.sleep .keeper) s = .next t ∧ t = (v.wr Reg.SC_STATUS.STATE scSleep).sdEnd sdOk) ∧
    (v = started 10 → v.cardPowered = true → v.scState ≠ scLocked → ∃ t, exec (.eject .keeper) s = .next t ∧ t = (v.cardOff scOff).sdEnd sdOk) ∧
    (v = started 11 → v.cardPowered = true → v.scState ≠ scLocked → v.scState ≠ scSleep → ∃ t, exec (.walk .keeper seen (.ok 0)) s = .next t ∧
      t = (((v.wr Reg.SC_STATUS.BUNDLES (min 65535 (walkChain seen 2048).1.length)).flag Reg.SC_STATUS.TORN_SEEN (walkChain seen 2048).2.1).bump Reg.SC_EVENTS.CRC_RETRY 0).sdEnd sdOk) ∧
    (s.isSet Reg.SC_CTRL.AUTO_SLEEP = true → s.scState = scReady → ∃ t, exec .autoSleep s = .next t ∧
      t = (s.advanceTo (s.sd.last + max 1 (s.rd Reg.SC_CTRL.IDLE_MS) * msec)).wr Reg.SC_STATUS.STATE scSleep) ∧
    (s.sd.running = some op → op ≠ 2 → op ≠ 11 → v = s.advanceTo (s.sd.last + s.busyLimit op) → ∃ t, exec .scBusyTimeout s = .next t ∧ t = ((v.raise srcScTimeout).cardOff scOff).sdEnd sdTimeout) ∧
    (v = ((s.bump Reg.SC_EVENTS.REMOVED).cardOff scEmpty).flag Reg.SC_STATUS.PRESENT false → v.sd.running = none → ∃ t, exec (.cardRemoval .nothing) s = .next t ∧ t = v) ∧
    (v = ((s.bump Reg.SC_EVENTS.REMOVED).cardOff scEmpty).flag Reg.SC_STATUS.PRESENT false → v.sd.running = some 3 → ∃ t, exec (.cardRemoval .torn) s = .next t ∧
      t = ((v.bump Reg.SC_EVENTS.TORN).raise srcScTorn).sdEnd sdTorn) ∧
    (s.isSet Reg.SC_STATUS.PRESENT = false → v = (((s.advance (100 * msec)).flag Reg.SC_STATUS.PRESENT true).wr Reg.SC_STATUS.STATE scOff).interrupt 223 → v.isSet Reg.SC_CTRL.EN = true →
      ∃ t, exec (.cardInsertion f) s = .next t ∧ t = (v.initSlot f).1.sdEnd (v.initSlot f).2) ∧
    (s.isSet Reg.SC_STATUS.POWER = true → v = (s.raise srcScPwrFault).cardOff scFault → v.sd.running = none → ∃ t, exec .scPwrFault s = .next t ∧ t = v))

/-- A button held for STUCK_S sets its flag and raises PNL_STUCK, and no press of it is recognised until it has been released. An input held low for
STUCK_S sets PNL_BTN's stuck flag of that button and raises source 0x2A0; while it is blocked a presence press, a service press and a long press of it
change nothing; a release, which takes the debounce time, unblocks it. States R531. -/
def Obligations.StuckButtonIsNotRecognisedUntilReleased : Prop :=
  ∀ (s v : State) (t0 n : Nat) (b : Bool), s.panelServes = true →
    (s.blocked b = false → s.pressed b = some t0 → v = s.advanceTo (t0 + s.stuckLimit) → ∃ t, exec (.pnlStuck b) s = .next t ∧ t.blocked b = true ∧
      t = ((v.flag (if b then Reg.PNL_BTN.SERV_STUCK else Reg.PNL_BTN.PRES_STUCK) true).updPanel (fun q => if b then { q with servBlocked := true } else { q with presBlocked := true })).raise 0x2A0 (b2n b)) ∧
    (s.panel.presBlocked = true → ∃ t, exec .presencePress s = .next t ∧ t = s) ∧
    (s.panel.servBlocked = true → (∃ t, exec (.servicePress n) s = .next t ∧ t = s) ∧ (∃ t, exec .longPress s = .next t ∧ t = s)) ∧
    (s.pressed b = some t0 → ∃ t, exec (.buttonRelease b n) s = .next t ∧ t.blocked b = false ∧ t.pressed b = none ∧ s.now + s.debounce ≤ t.now)

/-- Smilia handshakes, key updates, closes and time-outs complete as stated. A whole HELLO within the rate and limits opens a session; AUTH establishes it
with its role or refuses it; the other session commands answer a next state with the stated session and answer. Rests on
18_smilia_object_dictionary.md. -/
def Obligations.ManagementSessionCommandsComplete : Prop :=
  ∀ (s u v : State) (f : SmlIn) (x : SmlSession) (sid n : Nat) (msg : List Byte),
    (s.mgmtServes = true → f.opcode = 1 → f.headerOk = true → f.prot = false → f.session = 0 → s.smlToUs false f.net = true → s.smlCarrier f.net = true → f.offset + f.payload.length ≤ smlHelloBytes →
      (∀ b : SmlBuf, takeSegment s.now (tget s.smilia.halves f.net.sender) f.offset f.last f.payload = (b, none) →
        ∃ t, exec (.hello f) s = .next t ∧ t = s.updSmilia (fun m => { m with halves := tput m.halves f.net.sender b })) ∧
      (∀ (b : SmlBuf) (sh : Share), takeSegment s.now (tget s.smilia.halves f.net.sender) f.offset f.last f.payload = (b, some msg) → msg.length = smlHelloBytes → beAt msg 1 15 = 0 →
        (s.updSmilia (fun m => { m with halves := tdel m.halves f.net.sender })).helloRate = (u, true) →
        u.smilia.sessions.find? (fun kv => kv.2.state == .authWait && kv.2.random == beAt msg 16 32) = none → u.smlAwl = true → u.smilia.sessions.length < u.dictVal 0x1200 1 →
        u.share (beAt msg 48 32) (slice msg 80 1568) = (sh, v) → ∃ t, exec (.hello f) s = .next t ∧ match sh.shared with
          | some (ssk, ssx) => t = v.openSmlSession f.net msg sh ssk ssx
          | none => t = (v.plainReset f.net xAuthFailed).authFails)) ∧
    (s.acceptSml f smAuth = (u, some x) → x.state = .authWait → u.assemble f.session 0 f.offset f.last f.payload = (v, none) → ∃ t, exec (.smlAuth f) s = .next t ∧ t = v) ∧
    (s.acceptSml f smAuth = (u, some x) → x.state = .authWait → u.assemble f.session 0 f.offset f.last f.payload = (v, some msg) → ∃ t, exec (.smlAuth f) s = .next t ∧
      match v.smlClient x.role x.th msg with
      | none => t = ((v.smlSend f.session smReset 0 (beBytes 2 xAuthFailed ++ [0, 0])).closeSml f.session true).authFails
      | some (key, anchored) =>
        if v.grants x.role key anchored = true then
          t = (v.updSml f.session (fun z => { z with state := .established, keyId := key, since := v.time64 })).smlReply f.session smAuth 0 (beBytes 2 xOk)
        else t = ((v.smlSend f.session smReset 0 (beBytes 2 xRole ++ [0, 0])).closeSml f.session true).authFails) ∧
    (s.sml sid = some x → x.state = .authWait → ∃ t, exec (.smlAuthWaitTimeout sid) s = .next t ∧ t = (s.advanceTo (x.helloAt + 2 * second)).closeSml sid true) ∧
    (s.acceptSml f smKeyUpdate = (u, some x) → f.len = 4 → beAt f.payload 0 4 = x.keyGen + 1 → ∃ t, exec (.smlKeyUpdate f) s = .next t ∧
      t = u.setSml f.session { x with prevKey := some (x.rxKey, u.now + 3 * rtoCeiling), rxKey := nextKey x.rxKey "LGE9120 SM update", keyGen := x.keyGen + 1 }) ∧
    (s.acceptSml f smClose = (u, some x) → ∃ t, exec (.smlClose f) s = .next t ∧ t = (u.smlSend f.session smCloseAck 0 []).closeSml f.session (x.state == .authWait)) ∧
    (s.acceptSml f smKeepalive = (u, some x) → ∃ t, exec (.smlKeepalive f) s = .next t ∧ t = u.smlReply f.session smKeepalive f.req (beBytes 2 xOk)) ∧
    (s.acceptSml f smReset = (u, some x) → ∃ t, exec (.smlReset f) s = .next t ∧ t = u.closeSml f.session (x.state == .authWait)) ∧
    (s.sml sid = some x → x.state = .established → ∃ t, exec (.smlIdleTimeout sid) s = .next t ∧ t = (s.advanceTo (x.lastFrame + s.dictVal 0x1200 2 * second)).closeSml sid false) ∧
    (s.sml sid = some x → x.closedAt = some n → ∃ t, exec (.smlRelease sid) s = .next t ∧ s.agreeBut [.smilia, .now, .rtc, .kennel] t ∧ t.sml sid = none ∧ t.now = max s.now (n + second) ∧
      (∀ k : Nat, k ≠ sid → t.sml k = s.sml k)) ∧
    (∀ b : SmlBuf, tget s.smilia.halves n = some b → ∃ t, exec (.reassemblyTimeout true sid n) s = .next t ∧
      t = (s.advanceTo (b.since + second)).updSmilia (fun m => { m with halves := tdel m.halves n })) ∧
    (∀ b : SmlBuf, s.sml sid = some x → tget x.bufs n = some b → ∃ t, exec (.reassemblyTimeout false sid n) s = .next t ∧
      t = (s.advanceTo (b.since + second)).updSml sid (fun z => { z with bufs := tdel z.bufs n }))

/-- Smilia reads, writes and segmented transfers complete with their answer. A fresh whole request of an established session is executed once, answered
and kept: values read, values written and recorded, snapshots and write handles opened, filled, ended, aborted and expired. Rests on
18_smilia_object_dictionary.md. -/
def Obligations.DictionaryRequestsComplete : Prop :=
  ∀ (s v w : State) (f : SmlIn) (x : SmlSession) (e : DictEntry) (h n off sid : Nat) (msg : List Byte) (g : SmlFacts) (hd : SmlWrite) (rd : SmlRead),
    (s.takesRequest f smRead v x msg → msg.length = 4 → beAt msg 3 1 = 0 → dictFind x.role (beAt msg 0 2) (beAt msg 2 1) DictEntry.rd = .ok e → e.acc ≠ .wo → e.typ ≠ .domain → e.idx ≠ 0x5012 →
      ∃ t, exec (.smlRead f) s = .next t ∧ t = v.answersRequest f smRead (beBytes 2 xOk ++ [BitVec.ofNat 8 e.typeCode, 0] ++ v.entryValue x e) 0) ∧
    (s.takesRequest f smWrite v x msg → 4 ≤ msg.length → beAt msg 3 1 = 0 → dictFind x.role (beAt msg 0 2) (beAt msg 2 1) DictEntry.wr = .ok e → e.acc = .rw → (v.safe && needsUnits e.idx) = false →
      v.valueRefusal x e (msg.drop 4) = 0 → (!e.saved || g.saved) = true → w = (v.putDict f.session e (ofBe (msg.drop 4))).endVendor → ∃ t, exec (.smlWrite f g) s = .next t ∧
      t = (w.dictChange f.session x.role e (msg.drop 4)).2.answersRequest f smWrite
        (SmlDone.bytes { status := xOk, detail := 0, seq := (w.dictChange f.session x.role e (msg.drop 4)).1 }) (w.dictChange f.session x.role e (msg.drop 4)).1) ∧
    (s.takesRequest f smSegRead v x msg → msg.length = 20 → beAt msg 3 1 = 0 → beAt msg 18 2 = 0 → n = beAt msg 16 2 → 0 < n → n ≤ 1376 → off = beAt msg 8 8 →
      dictFind x.role (beAt msg 0 2) (beAt msg 2 1) DictEntry.rd = .ok e → e.acc ≠ .wo → e.acc ≠ .cmd → e.typ = .domain →
      (beAt msg 4 4 = 0 → x.reads.length < 4 → v.takeHandle = (h, w) → ∃ t, exec (.segRead f) s = .next t ∧
        t = (w.updSml f.session (fun z => { z with reads := tput z.reads h { idx := beAt msg 0 2, sub := e.sub, content := w.domainBytes x (beAt msg 0 2), lastUse := w.now } })).answersRequest f smSegRead
          (segAnswer h off n (w.domainBytes x (beAt msg 0 2))) 0) ∧
      (h = beAt msg 4 4 → h ≠ 0 → tget x.reads h = some rd → rd.idx = beAt msg 0 2 → rd.sub = e.sub → ∃ t, exec (.segRead f) s = .next t ∧
        t = (v.updSml f.session (fun z => { z with reads := tput z.reads h { rd with lastUse := v.now } })).answersRequest f smSegRead (segAnswer h off n rd.content) 0)) ∧
    (s.takesRequest f smSegBegin v x msg → msg.length = 12 → beAt msg 3 1 = 0 → dictFind x.role (beAt msg 0 2) (beAt msg 2 1) DictEntry.wr = .ok e → e.acc = .rw → (v.safe && needsUnits e.idx) = false →
      e.typ = .domain → beAt msg 4 8 < 2 ^ 32 → v.smilia.writes.any (fun q => q.2.idx == e.idx && q.2.sub == e.sub) = false → v.takeHandle = (h, w) → ∃ t, exec (.segBegin f) s = .next t ∧
      t = (w.updSmilia (fun m => { m with writes := tput m.writes h { session := f.session, idx := e.idx, sub := e.sub, total := beAt msg 4 8, parts := [], lastUse := w.now } })).answersRequest f smSegBegin
        (beBytes 2 xOk ++ [0, 0] ++ beBytes 4 h) 0) ∧
    (s.takesRequest f smSegWrite v x msg → h = beAt msg 0 4 → 16 ≤ msg.length → beAt msg 4 4 = 0 → msg.length ≤ 1400 → v.writeHandle f.session h = some hd → off = beAt msg 8 8 → off + (msg.length - 16) ≤ hd.total →
      ∃ t, exec (.segWrite f) s = .next t ∧ t = (v.updSmilia (fun m => { m with writes := tput m.writes h { hd with parts := hd.parts ++ [(off, msg.drop 16)], lastUse := v.now } })).answersRequest f smSegWrite
        (beBytes 2 xOk ++ [0, 0] ++ beBytes 4 h) 0) ∧
    (s.takesRequest f smSegEnd v x msg → h = beAt msg 0 4 → msg.length = 40 → beAt msg 4 4 = 0 → v.writeHandle f.session h = some hd → w = v.updSmilia (fun m => { m with writes := tdel m.writes h }) →
      (covered hd.parts < hd.total → ∃ t, exec (.segEnd f g) s = .next t ∧ t = w.answersRequest f smSegEnd (SmlDone.bytes { status := xType }) 0) ∧
      (hd.total ≤ covered hd.parts → Config.shake256 (overlay hd.total hd.parts) 256 % 2 ^ 256 = beAt msg 8 32 → dictEntry hd.idx hd.sub = some e → e.acc ≠ .cmd →
        ∃ t, exec (.segEnd f g) s = .next t ∧ t = (w.writeDomain f.session x e (overlay hd.total hd.parts) g).1.answersRequest f smSegEnd
          (w.writeDomain f.session x e (overlay hd.total hd.parts) g).2.bytes (w.writeDomain f.session x e (overlay hd.total hd.parts) g).2.seq)) ∧
    (s.takesRequest f smSegAbort v x msg → msg.length = 4 → v.writeHandle f.session (beAt msg 0 4) = some hd → ∃ t, exec (.segAbort f) s = .next t ∧
      t = (v.updSmilia (fun m => { m with writes := tdel m.writes (beAt msg 0 4) })).answersRequest f smSegAbort (beBytes 2 xOk) 0) ∧
    (s.writeHandle sid h = some hd → ∃ t, exec (.handleExpiry true sid h) s = .next t ∧ t = (s.advanceTo (hd.lastUse + 30 * second)).updSmilia (fun m => { m with writes := tdel m.writes h })) ∧
    (s.sml sid = some x → tget x.reads h = some rd → ∃ t, exec (.handleExpiry false sid h) s = .next t ∧
      t = (s.advanceTo (rd.lastUse + 30 * second)).updSml sid (fun z => { z with reads := tdel z.reads h }))

/-- Subscriptions, notifications and the management port's commands complete as stated. Subscribing, unsubscribing, coalescing, acknowledging and
resending notifications, address changes, MDIO frames, link events and answered requests answer the stated next state. Rests on
18_smilia_object_dictionary.md. -/
def Obligations.SubscriptionAndPortCommandsComplete : Prop :=
  (∀ (s v w : State) (f : SmlIn) (x : SmlSession) (e : DictEntry) (n sid num t0 : Nat) (msg : List Byte) (q : SmlSub) (m : SmlNote),
    (s.takesRequest f smSubscribe v x msg → msg.length = 8 → beAt msg 3 1 = 0 → beAt msg 6 2 = 0 → 10 ≤ beAt msg 4 2 → beAt msg 4 2 ≤ 60000 →
      dictFind x.role (beAt msg 0 2) (if beAt msg 2 1 = 0xFF then (dictSubs (beAt msg 0 2)).headD 0 else beAt msg 2 1) DictEntry.rd = .ok e → e.acc ≠ .wo →
      (tfirst x.subs (fun _ k => k.idx == beAt msg 0 2 && k.sub == beAt msg 2 1) = some n → ∃ t, exec (.subscribe f) s = .next t ∧ t = v.answersRequest f smSubscribe (beBytes 2 xOk ++ beBytes 2 n) 0) ∧
      (tfirst x.subs (fun _ k => k.idx == beAt msg 0 2 && k.sub == beAt msg 2 1) = none → x.subs.length < 64 → n = lowestFree (x.subs.length + 1) 1 (x.subs.map Prod.fst) →
        q = { idx := beAt msg 0 2, sub := beAt msg 2 1, interval := beAt msg 4 2, lastSent := none, seen := [], held := [] } → ∃ t, exec (.subscribe f) s = .next t ∧
        t = (v.updSml f.session (fun z => { z with subs := tput z.subs n { q with seen := q.entries.foldl (fun p k => tput p k.sub (v.watched x k)) [] } })).answersRequest f smSubscribe (beBytes 2 xOk ++ beBytes 2 n) 0)) ∧
    (s.takesRequest f smUnsubscribe v x msg → msg.length = 4 → beAt msg 2 2 = 0 → tget x.subs (beAt msg 0 2) = some q → ∃ t, exec (.unsubscribe f) s = .next t ∧
      t = (v.updSml f.session (fun z => z.unsubscribe (beAt msg 0 2))).answersRequest f smUnsubscribe (beBytes 2 xOk) 0) ∧
    (s.sml sid = some x → tget x.subs n = some q → q.lastSent = some t0 → q.held ≠ [] →
      w = (s.advanceTo (t0 + q.interval * msec)).updSml sid (fun z => { z with subs := tmod z.subs n (fun k => { k with held := [] }) }) → ∃ t, exec (.notifyIntervalEnd sid n) s = .next t ∧
      t = q.held.foldl (fun a h => match dictEntry q.idx h.1 with | some k => a.notify sid n k nfCoalesced h.2 | none => a) w) ∧
    (s.acceptSml f smNotifyAck = (v, some x) → f.len = 4 → num = beAt f.payload 0 4 → ∃ t, exec (.notifyAck f) s = .next t ∧ t = v.updSml f.session (fun z => { z with notes := z.notes.filter (fun k => k.number != num) })) ∧
    (s.sml sid = some x → x.notes.find? (fun k => k.number == num) = some m → w = s.advanceTo (m.sentAt + 500 * msec) →
      (m.resends < 4 → ∃ t, exec (.notifyResend sid num) s = .next t ∧
        t = (w.updSml sid (fun z => { z with notes := z.notes.map (fun k => if k.number = num then { k with sentAt := w.now, resends := k.resends + 1 } else k) })).smlSend sid smNotify 0 m.payload true) ∧
      (4 ≤ m.resends → ∃ t, exec (.notifyResend sid num) s = .next t ∧ t = w.notifyEnded sid m.sub))) ∧
  (∀ (s v : State) (n reg data : Nat) (b : Bool) (answer old : List Nat) (ask : MgmtAsk) (body : List Byte),
    (s.smilia.pendingAddr = some n → v = s.advanceTo n → ∃ t, exec .addressChangeEffect s = .next t ∧
      t = v.takeAddr.updSmilia (fun m => { m with oldAddr := some (v.smilia.addr, v.takeAddr.now + 60 * second, tkeys m.sessions (fun _ _ => true)) })) ∧
    (s.smilia.oldAddr = some (old, n, answer) → ∃ t, exec .oldAddressExpiry s = .next t ∧ t = (s.advanceTo n).updSmilia (fun m => { m with oldAddr := none })) ∧
    (s.dictVal 0x1203 0 = n + 1 → v = (s.advanceTo (s.smilia.vendorTick + 60 * second)).setDict 0x1203 0 n → ∃ t, exec .vendorWindowTick s = .next t ∧
      t = (v.updSmilia (fun m => { m with vendorTick := v.now })).endVendor) ∧
    (v = (((s.wr Reg.MGT_MDIO.REG reg).flag Reg.MGT_MDIO.WRITE b).wr Reg.MGT_MDIO.DATA data).emit .mdio (if b then 1 else 2) [s.rd Reg.MGT_CTRL.PHY_ADDR, reg % 32, if b then data % 65536 else 0] →
      (∃ t, exec (.mgtMdio reg data b .keeper (some n)) s = .next t ∧ t = (if b then v else v.wr Reg.MGT_MDIO.DATA n).flag Reg.MGT_MDIO.ERR false) ∧
      (∃ t, exec (.mgtMdio reg data b .keeper none) s = .next t ∧ t = ((v.advance msec).flag Reg.MGT_MDIO.ERR true).raise srcMgtPhyFault)) ∧
    (s.lit = true → s.mainOn = true → v = s.flag Reg.MGT_STATUS.LINK false → ∃ t, exec (.mgtLinkDown b) s = .next t ∧
      t = ((if b then v.flag Reg.MGT_STATUS.SYNC false else v).raise srcMgtLinkDown).interrupt 230) ∧
    (s.lit = true → s.mainOn = true → ∃ t, exec (.mgtLinkUp n b) s = .next t ∧
      t = (((((s.flag Reg.MGT_STATUS.SYNC true).flag Reg.MGT_STATUS.LINK true).wr Reg.MGT_STATUS.SPEED n).flag Reg.MGT_STATUS.DUPLEX b).fall srcMgtLinkDown).interrupt 230) ∧
    (s.mgmtServes = true → (ask = .neighbour ∨ ask = .icmpv6Echo ∨ s.smilia.addr.getD 2 0 ≠ 0) → ∃ t, exec (.arpNdEchoRequest ask true body) s = .next t ∧ s.agreeBut [.out] t ∧
      t.out = { dest := .mgmtLink, typ := ask.code, fields := s.smilia.addr, bytes := body } :: s.out) ∧
    (s.mgmtServes = true → ∃ t, exec (.arpNdEchoRequest ask false body) s = .next t ∧ t = s.dropMgmt))

/-- Commands of the dictionary run, are recorded and answered, or are refused with their status. A command that an established session may give and that
is not refused has its action, a DICT_CHANGE record and its answer; a refused one only its status. Rests on 18_smilia_object_dictionary.md. -/
def Obligations.DictionaryCommandsComplete : Prop :=
  ∀ (s u v : State) (x : SmlSession) (e : DictEntry) (f : SmlFacts) (sid n : Nat) (nonce report : List Byte),
    (s.commands sid 0x1010 x e u → e.typ ≠ .domain → u.cmdRefusal x e (beBytes 1 n) = 0 → f.saved = true → e.idx = 0x1010 → ∃ t, exec (.restoreDefaults sid n f) s = .next t ∧
      t = (u.restoreDefaults sid (ofBe (beBytes 1 n))).endsCommand sid x e (beBytes 1 n) xOk 0) ∧
    (s.commands sid 0x4030 x e u → e.typ ≠ .domain → u.cmdRefusal x e nonce = 0 → e.idx = 0x4030 → (u.updSml sid (fun y => { y with report := [] })).canAttest = true →
      (u.updSml sid (fun y => { y with report := [] })).attest nonce f.fails = (some report, v) → ∃ t, exec (.attest sid nonce f) s = .next t ∧
      t = (v.updSml sid (fun y => { y with report := report })).endsCommand sid x e nonce xOk 0) ∧
    (s.commands sid 0x5013 x e u → e.typ ≠ .domain → u.cmdRefusal x e (beBytes 2 n) = 0 → e.idx = 0x5013 → ∃ t, exec (.srcClear sid n f) s = .next t ∧
      t = (u.clearRecord (ofBe (beBytes 2 n))).endsCommand sid x e (beBytes 2 n) xOk 0) ∧
    (s.commands sid 0x5024 x e u → e.typ ≠ .domain → u.cmdRefusal x e (beBytes 1 n) = 0 → e.idx = 0x5024 → u.unlock.rd Reg.KNL_CTRL.ERR = 0 → ∃ t, exec (.knlUnlock sid n f) s = .next t ∧
      t = u.unlock.endsCommand sid x e (beBytes 1 n) xOk 0) ∧
    (s.commands sid 0x5025 x e u → e.typ ≠ .domain → u.cmdRefusal x e (beBytes 1 n) = 0 → e.idx = 0x5025 → u.clearLatch.rd Reg.KNL_CTRL.ERR = 0 → ∃ t, exec (.knlClrLatch sid n f) s = .next t ∧
      t = u.clearLatch.endsCommand sid x e (beBytes 1 n) xOk 0) ∧
    (s.commands sid 0x7007 x e u → e.typ ≠ .domain → u.cmdRefusal x e (beBytes 1 n) = 0 → e.idx = 0x7007 → u.exportBundle (ofBe (beBytes 1 n)) f = (v, xOk, 0) → ∃ t, exec (.bundleExport sid n f) s = .next t ∧
      t = v.endsCommand sid x e (beBytes 1 n) xOk 0) ∧
    (s.commands sid 0x7008 x e u → e.typ ≠ .domain → u.cmdRefusal x e (beBytes 2 n) = 0 → e.idx = 0x7008 → u.importBundle sid x (ofBe (beBytes 2 n)) f = (v, xOk, 0) → ∃ t, exec (.bundleImport sid n f) s = .next t ∧
      t = v.endsCommand sid x e (beBytes 2 n) xOk 0) ∧
    (s.commands sid 0x9000 x e u → e.typ ≠ .domain → u.cmdRefusal x e (beBytes 1 n) = 0 → e.idx = 0x9000 → v = (u.runTests none (ofBe (beBytes 1 n))).1.endTestRun → ∃ t, exec (.selftest sid n f) s = .next t ∧
      t = v.endsCommand sid x e (beBytes 1 n) (if v.chip.testRun.isSome then xRunning else xOk) 0) ∧
    (∀ m : Nat, s.commands sid 0x9002 x e u → e.typ ≠ .domain → u.cmdRefusal x e (beBytes 4 n ++ beBytes 4 m) = 0 → e.idx = 0x9002 → u.injectFor (ofBe (beBytes 4 n ++ beBytes 4 m)) = (v, xOk, 0) →
      ∃ t, exec (.fcuInject sid n m f) s = .next t ∧ t = v.endsCommand sid x e (beBytes 4 n ++ beBytes 4 m) xOk 0) ∧
    (s.commands sid 0x9003 x e u → e.typ ≠ .domain → u.cmdRefusal x e (beBytes 4 n) = 0 → e.idx = 0x9003 → ∃ t, exec (.eccInject sid n f) s = .next t ∧
      t = (u.eccInjectFor (ofBe (beBytes 4 n))).endsCommand sid x e (beBytes 4 n) xOk 0) ∧
    (s.commands sid 0x5013 x e u → e.typ ≠ .domain → u.cmdRefusal x e (beBytes 2 n) ≠ 0 → ∃ t, exec (.srcClear sid n f) s = .next t ∧
      t = u.answersCommand sid { status := u.cmdRefusal x e (beBytes 2 n) })

/-- Custody operations begin, take badges, end and time out as stated. ENROLL and each custody command begin or complete their operation with its record
and answer; a badge authenticates or is refused with its record; a time-out ends the operation. Rests on 08_keys_and_custodians.md,
18_smilia_object_dictionary.md. -/
def Obligations.CustodyCommandsComplete : Prop :=
  ∀ (s u v : State) (x : SmlSession) (e : DictEntry) (f : SmlFacts) (sid n k : Nat) (arg : List Byte),
    (∀ bs : List Byte, s.commands sid 0x4010 x e u → e.typ = .domain → u.custodyMay .enroll 0 = true → badEnroll bs = none → u.pressNow ≠ none → u.keys.custody = none → f.certOk = true →
      (u.beginCustody .enroll sid x.role 0 0 0 0).enrollSteps bs f.saved f.cert = (v, k) → ∃ t, exec (.enroll sid bs f) s = .next t ∧
        (Config.slhVerify 5 (enrollKey bs) [] u.enrollText (enrollSig bs) = true →
          t = ((((v.endCustody k).newEnrollNonce).dictChange sid x.role e bs).2).answersCommand sid
            { status := if k = eOk then xOk else xFailed, detail := k, seq := (((v.endCustody k).newEnrollNonce).dictChange sid x.role e bs).1 }) ∧
        (Config.slhVerify 5 (enrollKey bs) [] u.enrollText (enrollSig bs) = false → t = (u.newEnrollNonce.cmdStatus e.idx xAuthFailed).answersCommand sid { status := xAuthFailed })) ∧
    (u.cmdRefusal x e arg = 0 → e.typ ≠ .domain →
      (s.commands sid 0x4012 x e u → e.idx = 0x4012 → arg = beBytes 1 k ++ beBytes 1 n → ∃ t, exec (.escrowCreate sid k n f) s = .next t ∧
        t = (u.beginCustody .escrowCreate sid x.role 0 (ofBe arg / 256) (ofBe arg % 256) 0).endsCommand sid x e arg xRunning 0) ∧
      (s.commands sid 0x4014 x e u → e.idx = 0x4014 → arg = beBytes 1 k ++ beBytes 1 n → ∃ t, exec (.vaultRotate sid k n f) s = .next t ∧
        t = (u.beginCustody .vaultRotate sid x.role 0 (ofBe arg / 256) (ofBe arg % 256) 0).endsCommand sid x e arg xRunning 0) ∧
      (∀ set : EscrowSet, s.commands sid 0x4013 x e u → e.idx = 0x4013 → arg = beBytes 4 n → u.keys.live = some set → set.id = ofBe arg → 0 < set.t → ∃ t, exec (.vaultRestore sid n f) s = .next t ∧
        t = (u.beginCustody .vaultRestore sid x.role (ofBe arg) 0 0 0).endsCommand sid x e arg xRunning 0) ∧
      (∀ set : EscrowSet, s.commands sid 0x4017 x e u → e.idx = 0x4017 → arg = beBytes 2 n → u.keys.live = some set → 0 < set.t → ∃ t, exec (.nsDestroy sid n f) s = .next t ∧
        t = (u.beginCustody .nsDestroy sid x.role 0 0 0 (ofBe arg)).endsCommand sid x e arg xRunning 0) ∧
      (s.commands sid 0x4019 x e u → e.idx = 0x4019 → arg = beBytes 1 n → u.keys.live = none → f.saved = true → ∃ t, exec (.ownerRelease sid n f) s = .next t ∧
        t = (((u.beginCustody .ownerRelease sid x.role 0 0 0 0).releaseOwner).endCustody eOk).endsCommand sid x e arg xOk eOk) ∧
      (s.commands sid 0x4015 x e u → e.idx = 0x4015 → arg = beBytes 2 n → (u.beginCustody .nsCreate sid x.role 0 0 0 (ofBe arg)).newEpoch (ofBe arg) 1 f.saved = (v, eOk) →
        ∃ t, exec (.nsCreate sid n f) s = .next t ∧ t = (v.endCustody eOk).endsCommand sid x e arg xOk eOk) ∧
      (s.commands sid 0x4016 x e u → e.idx = 0x4016 → arg = beBytes 2 n →
        (u.beginCustody .nsRotate sid x.role 0 0 0 (ofBe arg)).newEpoch (ofBe arg) (tgetD u.keys.nsEpoch (ofBe arg) 0 + 1) f.saved = (v, eOk) →
        ∃ t, exec (.nsRotate sid n f) s = .next t ∧ t = (v.endCustody eOk).endsCommand sid x e arg xOk eOk) ∧
      (s.commands sid 0x4018 x e u → e.idx = 0x4018 → arg = beBytes 1 n → (u.beginCustody .manifestKeyChange sid x.role 0 0 0 0).changeManifest f.saved f.cert = (v, eOk) →
        ∃ t, exec (.manifestKeyChange sid n f) s = .next t ∧ t = (v.endCustody eOk).endsCommand sid x e arg xOk eOk)) ∧
    (∀ (c : CustodyOp) (h : BadgeHello) (b : BadgeIn), s.keys.custody = some c → s.reader.hello = some h → s.reader.card ≠ none → s.nfcServes = true →
      u = s.updReader (fun r => { r with hello := none, last := s.now }) →
      ((b.chainOk && b.sigOk && !u.revoked b.keyId) = false → v = (u.trailRec 0x0302 masterSaddlebag true (beBytes 16 b.keyId ++ leBytes 1 eBadArg)).coreNote 2 (beBytes 8 (b.keyId / 2 ^ 64) ++ leBytes 1 eBadArg) →
        ∃ t, exec (.badgeAuth b f.saved) s = .next t ∧ t = (v.tryComplete f.saved []).1) ∧
      (∀ w : State, (b.chainOk && b.sigOk && !u.revoked b.keyId) = true →
        w = ((u.updReader (fun r => { r with keys := some (badgeKeys h b) })).fillTransient (Config.mlkemDecaps h.kem b.kemCt) secretAttr).fillTransient (swap32 (x25519 h.x25519 b.eph)) secretAttr →
        w.countBadge c (badgeKeys h b) b = (v, k) → ∃ t, exec (.badgeAuth b f.saved) s = .next t ∧
        t = (((v.trailRec 0x0302 masterSaddlebag true (beBytes 16 b.keyId ++ leBytes 1 k)).coreNote 2 (beBytes 8 (b.keyId / 2 ^ 64) ++ leBytes 1 k)).tryComplete f.saved []).1)) ∧
    (∀ c : CustodyOp, s.keys.custody = some c → ∃ t, exec .presenceTimeout s = .next t ∧
      t = (s.advanceTo (c.start + max 60 (s.rd Reg.SDB_PRES.QUORUM_S) * second)).endCustody ePresence)

/-- Trail commands complete: records accepted, committed, reported late and attested as stated. Accepting, reporting a backlog, counting copies,
committing critical records, firmware records and requested reports answer the stated next state. Rests on 19_trail_and_background.md. -/
def Obligations.TrailCommandsComplete : Prop :=
  ∀ (s u : State) (n t0 : Nat) (p : TrailPort) (r : TrailRec) (x : SubState) (rest : List (Nat × TrailRec)) (nonce report : List Byte),
    (s.trail.running = true → s.trail.chosen ≠ none → ∃ t, exec .trailRecordAccept s = .next t ∧ t = s.acceptOne) ∧
    (∀ recs : List (Nat × TrailRec), tget s.trail.ports n = some p → p.heldRecs = (t0, r) :: recs → ∃ t, exec (.trailBacklog n) s = .next t ∧
      t = (s.advanceTo (t0 + 100 * usec + 1)).raise srcTrailBacklog (p.master n)) ∧
    (n < 16 → tget s.trail.subs n = some x → x.uncounted ≠ 0 → ∃ t, exec (.subInterrupt n) s = .next t ∧
      t = ((s.advanceTo (x.firstAt + 10 * usec)).updTrail (fun q => { q with subs := tput q.subs n { x with uncounted := 0 } })).interrupt (240 + n)) ∧
    (s.trail.uncommitted = (t0, r) :: rest →
      (∃ t, exec (.trailJournalCommit true) s = .next t ∧ s.agreeBut [.trail] t ∧ t.trail.uncommitted = rest ∧
        t.trail.journal = (s.trail.journal ++ [r.bytes]).drop (s.trail.journal.length + 1 - journalRecords) ∧ t.trail.ring = s.trail.ring ∧ t.trail.dram = s.trail.dram ∧ t.trail.nextSeq = s.trail.nextSeq) ∧
      (u = (s.updTrail (fun q => { q with uncommitted := rest })).advanceTo (t0 + 5 * msec) → ∃ t, exec (.trailJournalCommit false) s = .next t ∧
        t = ((u.bump Reg.TRL_EVENTS.JLOST).trailRec 0x0803 masterTrail false (lostBody 0xFF 1)).raise srcTrlFlashLag)) ∧
    (∀ (w : World) (user crit : Bool), u = (s.wr (Reg.TRL_WR_CMD.EVENT.inWorld w) n).flag (Reg.TRL_WR_CMD.CRITICAL.inWorld w) crit → ∀ pair : Nat, ∃ t, exec (.trlWr pair w user n crit) s = .next t ∧
      t = u.post (worldPort w) { u.record ((if w = .keeper then 0x09 else 0x0A) * 256 + n % 256) (pair % 16) (crit && w == .keeper)
        ((List.range 9).flatMap (fun k => leBytes 4 (u.rd ((Reg.TRL_WR.DATA.nth k).inWorld w)))) with world := w.num, level := b2n (!user) }) ∧
    (s.attest nonce n = (some report, u) → ∃ t, exec (.attestRequest nonce n) s = .next t ∧ t = u.emit .reader 0x0000 [] report) ∧
    (s.attest nonce n = (none, u) → ∃ t, exec (.attestRequest nonce n) s = .next t ∧ t = u.emit .reader 0x020E [])

/-- The Burnisher's activities complete as stated. Telemetry, scrubs, refreshes, wear levelling, calibration, retraining, trim and overruns answer the
stated next state. Rests on 19_trail_and_background.md. -/
def Obligations.BackgroundCommandsComplete : Prop :=
  ∀ (s u v : State) (k ch off n : Nat) (bad weak : List Nat) (i : Int),
    (s.flashQuiet k = true → s.refreshDue k = true → s.flash.blockProtected k = true → ∃ t, exec (.readDisturbRefresh k bad n) s = .next t ∧ t = s.holdRefresh k) ∧
    (s.flashQuiet k = true → s.refreshDue k = true → s.flash.blockProtected k = false → ∃ t, exec (.readDisturbRefresh k bad n) s = .next t ∧ t = s.relocate k bad n) ∧
    (s.flashQuiet k = true → s.flash.blockProtected k = false → s.flash.meanErases (s.flash.block k).part + 500 < (s.flash.block k).erases → ∃ t, exec (.wearLevelling k bad n) s = .next t ∧ t = s.relocate k bad n) ∧
    (s.flashQuiet k = true → u = s.advanceTo ((s.flash.block k).scrubbed + (if (s.flash.block k).slc then 30 else 7) * 24 * hour) → ∃ t, exec (.flashReadScrub k [] []) s = .next t ∧
      t = (u.countReads (u.flash.validIn k)).updFlash (fun f => f.updBlock k (fun b => { b with scrubbed := u.now }))) ∧
    (s.channelQuiet ch = true → off < tgetD s.guards.installed ch 0 → ∃ t, exec (.dramPatrolScrub ch off n) s = .next t ∧ t = ((s.upset (dramBase ch + off / 4 * 4) n).checkWord (dramBase ch + off / 4 * 4)).2) ∧
    (s.channelQuiet ch = true → ∃ t, exec (.ddrPeriodicCalibration ch) s = .next t ∧ t = s.advance usec) ∧
    (s.channelQuiet ch = true → s.retrainDue ch = true → s.retrainingChannel = none → channels.all s.chanHealthy = true → ∃ t, exec (.ddrRetraining ch) s = .next t ∧
      bitOf (t.rd Reg.STG_CHSTATE.RETRAIN) ch = true ∧ t.now = s.now ∧ t.mem = s.mem) ∧
    (n < 64 → s.lit = true →
      (i ≠ 0 → i.natAbs ≤ 4000 → ∃ t, exec (.sensorCalibration n i) s = .next t ∧ s.agreeBut [.telemetry] t ∧ tget t.telemetry.offsets n = some i) ∧
      (4000 < i.natAbs → tget s.telemetry.excluded n = none → ∃ t, exec (.sensorCalibration n i) s = .next t ∧ t = (s.updTelemetry (fun q => { q with excluded := tput q.excluded n 0 })).raise srcTelSensorFail n)) ∧
    (s.mainPower = true → s.kennel.dead = false → s.mainOn = true → ∃ t, exec (.kennelOscillatorTrim i false) s = .next t ∧ s.agreeBut [.regs, .telemetry] t ∧ t.telemetry.trims = (i :: s.telemetry.trims).take 6 ∧
      t.rd Reg.KNL_TRIM.PPM10 = ((max (-2000) (min 2000 (((i :: s.telemetry.trims).take 6).sum / (((i :: s.telemetry.trims).take 6).length : Int)))) % 65536).toNat) ∧
    (1 ≤ n → n ≤ 12 → s.lit = true → ∃ t, exec (.brnOverrun n) s = .next t ∧ t = (s.setBit Reg.BRN_STATUS.LATE (n - 1) true).raise srcBrnOverrun n) ∧
    (∀ x : Sample, s.lit = true → u = s.advanceTo (s.telemetry.last + max 1 (min 100 (s.rd Reg.BRN_CFG.TELEMETRY_MS)) * msec) →
      v = (List.range 64).foldl (fun a j => a.sensorSample x.temps j) (u.updTelemetry (fun q => { q with temps := x.temps, rails := x.rails, power := ((x.rails.zip x.amps).map (fun p => p.1 * p.2 / 1000)).sum, core := ((x.rails.zip x.amps).map (fun p => p.1 * p.2 / 1000)).headD 0, last := u.now, dimms := x.dimms.foldl (fun d p => tput d p.1 p.2) q.dimms })) →
      v.now < v.telemetry.kennelAt + second → ∃ t, exec (.telemetrySample x) s = .next t ∧ t = v.showTj)

/-- Resets, the watchdog and the power-good pin complete as stated. Each reset with its cause, the watchdog's enable, kick and expiry, the reset of
another pair and both edges of PWR_OK answer the stated next state. Rests on 20_clocks_power_reset.md. -/
def Obligations.ResetCommandsComplete : Prop :=
  ∀ (s : State) (p q : PairId) (k : Nat) (torn : List Nat),
    (s.chip.powerOk = true → s.chip.held = false →
      (∃ t, exec .refclkLoss s = .next t ∧ t = ((s.raise srcClkRefLoss).clearMain.flag Reg.RST_CAUSE.REF_LOSS true).updChip (fun c => { c with held := true })) ∧
      (∃ t, exec .pllUnlock s = .next t ∧ t = ((s.raise srcClkPllUnlock).clearMain.flag Reg.RST_CAUSE.PLL_UNLOCK true).updChip (fun c => { c with held := true })) ∧
      (∃ t, exec .sysrst s = .next t ∧ t = (s.clearMain.flag Reg.RST_CAUSE.PIN true).advance (100 * usec))) ∧
    (s.chip.powerOk = true → s.chip.held = true → ∃ t, exec .refclkRestore s = .next t ∧ t = (s.advance (10 * msec)).updChip (fun c => { c with held := false })) ∧
    (s.mainOn = true → s.chip.held = false → ∃ t, exec (.rstMain .keeper) s = .next t ∧ t = (s.clearMain.flag Reg.RST_CAUSE.SOFT true).advance (100 * usec)) ∧
    (s.isSet Reg.WDT_CTRL.EN = true → s.chip.booted = true → s.mainOn = true → s.chip.held = false → ∃ t, exec .watchdogExpiry s = .next t ∧
      t = ((s.advanceTo (s.chip.kicked + s.wdtTimeout)).clearMain.flag Reg.RST_CAUSE.WDT true).advance (100 * usec)) ∧
    (∃ t, exec (.wdtKick .keeper 0x5A) s = .next t ∧ s.agreeBut [.chip] t ∧ t.chip = { s.chip with kicked := s.now }) ∧
    (k % 256 ≠ 0x5A → ∃ t, exec (.wdtKick .keeper k) s = .next t ∧ t = s) ∧
    (s.isSet Reg.WDT_CTRL.EN = false → ∃ t, exec (.wdtEnable .keeper) s = .next t ∧ s.agreeBut [.regs, .chip] t ∧ t.isSet Reg.WDT_CTRL.EN = true ∧ t.chip.kicked = s.now) ∧
    (s.mainOn = true → p ≠ q → ∃ t, exec (.rstPair p q .keeper) s = .next t ∧ t.core q = { Pair.reset q.val with save := (s.core q).save, testing := (s.core q).testing } ∧
      (∀ r : PairId, r ≠ q → t.core r = s.core r)) ∧
    (s.chip.powerOk = true → ∃ t, exec (.pwrOkFall torn) s = .next t ∧ t = ((torn.foldl State.cutErase s).clearMain).updChip (fun _ => { State.reset.chip with powerOk := false })) ∧
    (s.chip.powerOk = false → ∃ t, exec .pwrOkRise s = .next t ∧ t.chip.powerOk = true ∧ t.chip.held = false ∧ t.rd Reg.RST_CAUSE.COLD = 1 ∧ t.rd Reg.RST_CAUSE.PIN = 0 ∧ t.rd Reg.RST_CAUSE.SOFT = 0 ∧
      t.rd Reg.RST_CAUSE.WDT = 0 ∧ t.rd Reg.RST_CAUSE.REF_LOSS = 0 ∧ t.rd Reg.RST_CAUSE.PLL_UNLOCK = 0 ∧ t.mem = State.reset.mem ∧ t.collar = s.collar ∧ t.kennel = s.kennel)

/-- Clock references, supply steps, entering and leaving seal service and central units complete as stated. Reference losses and returns, the core
supply's target and steps, SEAL_ENTER, SHUTDOWN and its time-out, self-test commands, central disagreements and the loss and return of the seal set
answer the stated next state. Rests on 20_clocks_power_reset.md, 01_architecture.md. -/
def Obligations.ClockAndServiceCommandsComplete : Prop :=
  ∀ (s u v : State) (n t0 : Nat) (p : PairId) (x : SealIn) (c : Central) (port : Nat) (hit : List (Nat × Nat)),
    (s.lit = true → u = s.flag Reg.CLK_STATUS.SREF_OK false → ∃ t, exec (.laneRefLoss false) s = .next t ∧ t = s.south.upPorts.foldl State.portDown u) ∧
    (s.lit = true → s.queue.downMacs = List.range 16 → u = s.flag Reg.CLK_STATUS.NREF_OK false → ∃ t, exec (.laneRefLoss true) s = .next t ∧ t = u) ∧
    (s.mainOn = true → (∃ t, exec (.laneRefReturn true) s = .next t ∧ t = s.flag Reg.CLK_STATUS.NREF_OK true) ∧ (∃ t, exec (.laneRefReturn false) s = .next t ∧ t = s.flag Reg.CLK_STATUS.SREF_OK true)) ∧
    (s.lit = true → ∃ t, exec .nfcXtalLoss s = .next t ∧
      t = ((s.flag Reg.CLK_STATUS.NFC_XTAL_OK false).updReader (fun r => { r with mode := .fault, card := none, active := false })).raise srcNfcXtalLoss) ∧
    (s.mainOn = true → s.reader.mode = .fault → ∃ t, exec .nfcXtalReturn s = .next t ∧ t = ((s.flag Reg.CLK_STATUS.NFC_XTAL_OK true).updReader (fun r => { r with mode := .idle })).fall srcNfcXtalLoss) ∧
    (s.mainOn = true → ∃ t, exec (.pwrAvs n .keeper) s = .next t ∧ s.agreeBut [.regs] t ∧ t.rd Reg.PWR_AVS.TARGET = max 65 (min 85 (n % 256))) ∧
    (s.mainOn = true → s.chip.booted = true → s.isSet Reg.PWR_AVS.NACK = false → s.chip.avsFails = 0 → s.rd Reg.PWR_AVS.NOW < s.rd Reg.PWR_AVS.TARGET → n = s.rd Reg.PWR_AVS.NOW + 1 → ∃ t, exec (.avsStep true) s = .next t ∧
      t = ((((s.advance (100 * usec)).wr Reg.PWR_AVS.NOW n).emit .regulator 0x21 [10 * n]).updChip (fun q => { q with avsFails := 0 })).flag Reg.PWR_AVS.NACK false) ∧
    (s.mainOn = true → s.chip.booted = true → (∀ b : Nat, s.chip.shut ≠ .running b) → s.svc = .heel → s.safe = false → s.keyed = false → ∃ t, exec (.sealEnter false .keeper x) s = .next t ∧
      t = (s.wr Reg.PWR_CMD.OP 1).pwrEnd 1 0) ∧
    (s.mainOn = true → s.chip.booted = true → (∀ b : Nat, s.chip.shut ≠ .running b) → s.svc = .heel → s.safe = false → s.keyed = true → s.chip.debugLock = false → bitOf (s.rd Reg.DBG_STATUS.OPEN) 3 = false → s.heelRetains = false →
      u = ((s.wr Reg.PWR_CMD.OP 1).updChip (fun q => { q with shut := .off })).advance (x.us * usec) → ∃ t, exec (.sealEnter false .keeper x) s = .next t ∧ t = u.enterSeal x) ∧
    (s.mainOn = true → (∀ b : Nat, s.chip.shut ≠ .running b) → u = s.wr Reg.PWR_CMD.OP 2 → u.sealRuns = true → ∃ t, exec (.shutdown false .keeper) s = .next t ∧
      t = ((u.pwrEnd 0 0).updChip (fun q => { q with shut := .running u.now })).shutProgress) ∧
    (s.chip.shut = .running t0 → ∃ t, exec .shutdownTimeout s = .next t ∧
      t = ((s.advanceTo (t0 + max 10 (s.rd Reg.PWR_CTRL.SHUT_S) * second)).pwrEnd 4 0).updChip (fun q => { q with shut := .late })) ∧
    (s.chip.testRun = none → ∃ t, exec (.stCmd p .keeper n) s = .next t ∧ t = ((s.wr Reg.ST_CMD.KIND n).runTests (some p.val) (n % 8)).1) ∧
    (∃ t, exec .stDone s = .next t ∧ t = s.endTestRun) ∧
    (u = s.updCollector (fun q => { q with disagreed := tput q.disagreed c.source s.now }) →
      (tget s.collector.disagreed c.source = none → ∃ t, exec (.centralRetry c) s = .next t ∧ t = u.raise srcCentralRetry c.source) ∧
      (tget s.collector.disagreed c.source = some t0 → s.now < t0 + msec → ∃ t, exec (.centralRetry c) s = .next t ∧ t = u.raise c.source)) ∧
    (s.inSeal = true → s.sealMay = false →
      (∃ t, exec .sealSetLost s = .next t ∧ t = (tkeys s.queue.objects (fun _ o => o.state == .openObj)).foldl (fun a o => a.abortObject o (if s.keyed then cServiceDown else cUnkeyed) true) s) ∧
      (s.drainServes = false → ∃ t, exec .heelAfterDrain s = .next t ∧ t = (s.saveTables.enterService .heel true).stateRecord 2 1)) ∧
    (s.svc = .heel → s.heelRetains = true → s.safe = false → s.chip.shut = .off → s.sealMay = true → s.sealSet = true → ∃ t, exec .sealResumption s = .next t ∧ t = s.startSeal)

/-- The test access port, register reads and writes and the Kennel's power-on complete as stated. Each TAP instruction, an authorisation and its expiry, a
plain register write, a register read and KENNEL_POR answer the stated next state. Rests on 20_clocks_power_reset.md, 00_scope.md,
15_kennel_and_tamper.md. -/
def Obligations.DebugAndRegisterCommandsComplete : Prop :=
  ∀ (s u : State) (n m a : Nat) (x : DebugIn) (bs : List Byte) (w : World) (r : Reading), u = s.updChip (fun c => { c with tapHighz := false }) →
    (s.mainOn = true → s.chip.booted = true → ∃ t, exec (.debugAuth x) s = .next t ∧ t = ((s.updChip (fun c => { c with tapIr := 0x11 })).debugAuth x).1) ∧
    (s.chip.notAfter = [(n, m)] → ∃ t, exec .debugExpiry s = .next t ∧ t = ((s.advance (m + 30518 - s.rtc)).updChip (fun c => { c with notAfter := [] })).setBit Reg.DBG_STATUS.OPEN n false) ∧
    (s.chip.powerOk = true →
      (∃ t, exec .dbgNonce s = .next t ∧ t = (u.updChip (fun c => { c with tapIr := 0x10 })).emit .tap 0x10 [] s.chip.nonce) ∧
      (∃ t, exec .bypass s = .next t ∧ t = (u.updChip (fun c => { c with tapIr := 0xFF })).emit .tap 0xFF [0]) ∧
      (∃ t, exec .idcode s = .next t ∧ t = (u.updChip (fun c => { c with tapIr := 0x01 })).emit .tap 0x01 [0x1912076B]) ∧
      (∃ t, exec (.samplePreload n m) s = .next t ∧ t = (u.updChip (fun c => { c with tapIr := 0x02, tapSamples := n, tapPins := m })).emit .tap 0x02 [n]) ∧
      (s.bscanOpen = true →
        (∃ t, exec (.extest n m) s = .next t ∧ t = (u.updChip (fun c => { c with tapIr := 0x03, tapSamples := n, tapPins := m })).emit .tap 0x03 [n]) ∧
        (∃ t, exec .clamp s = .next t ∧ t = (u.updChip (fun c => { c with tapIr := 0x04 })).emit .tap 0x04 [0]) ∧
        (∃ t, exec .highz s = .next t ∧ t = (s.updChip (fun c => { c with tapIr := 0x05, tapHighz := true })).emit .tap 0x05 [0])) ∧
      (s.bscanOpen = false → ∃ t, exec (.extest n m) s = .next t ∧ t = (u.updChip (fun c => { c with tapIr := 0xFF })).emit .tap 0xFF [0]) ∧
      (∃ t, exec .testReset s = .next t ∧ s.agreeBut [.chip] t ∧ t.chip = { s.chip with tapIr := 0x01, tapHighz := false }) ∧
      (∀ v : State, bitOf (s.rd Reg.DBG_STATUS.OPEN) 2 = true → s.mainOn = true → 0 < n → (u.updChip (fun c => { c with tapIr := 0x12 })).guard (unitAccess masterTap .read a n) = (true, v) →
        ∃ t, exec (.dbgAccess false a n bs) s = .next t ∧ t = (v.fetchBytes .keeper a n).2.emit .tap 0x12 [1, b2n (v.fetchBytes .keeper a n).1.2] (v.fetchBytes .keeper a n).1.1) ∧
      (∀ v : State, bitOf (s.rd Reg.DBG_STATUS.OPEN) 2 = true → s.mainOn = true → bs ≠ [] →
        (u.updChip (fun c => { c with tapIr := 0x12 })).guard (unitAccess masterTap .write a bs.length) = (true, v) → v.targetOf a ≠ some 2 →
        ∃ t, exec (.dbgAccess true a n bs) s = .next t ∧ t = (v.writeMem a bs).emit .tap 0x12 [1])) ∧
    (∃ t, exec (.registerWrite w n m a) s = .next t ∧ t = s.writeReg w n m a) ∧
    (∃ t, exec (.rcCounterRead w n m) s = .next t ∧ t = (s.readReg w n m).2.emit .reader 0x00 [n, m, (s.readReg w n m).1]) ∧
    (∀ (b : Bool) (v : State), s.kennel.dead = true → (s.lit && s.mainOn) = false →
      v = (s.kennelDefaults.updKeys (fun k => { k with bankA := none, bankB := none, activeB := false, rotating := false })).setRtc 0 → ∃ t, exec (.kennelPor b r) s = .next t ∧
      t = (((v.updKennel (fun _ => { dead := false, queue := [], toCollar := [], slew := 0, lowSeen := false, lastLog := v.now })).wr Reg.KNL_STATUS.SUPPLY (if b then 0 else 1)).wr Reg.KNL_STATUS.CELL_STATE
        (if 2200 ≤ r.vbat then cellOk else cellAbsent)).kennelEvent 14 r)
end

