-- ==== Sys2Proof/Decode.lean ====
section
/-!
DEFINITION. The command that a word spells. No row of the table of operations and events gives a command bits: commands reach the block as
register writes, frames, messages, pins and events, so no word spells one.
-/

namespace Sys2Proof

/-- The command that the low `nbits` bits of `w` spell: none. -/
def decodeTableWord (_nbits _w : Nat) : Option Instr := none

end Sys2Proof
end

