-- ==== Sys2Proof/Laws/Accept.lean ====
section
/-!
SUPPORT. When a frame or message that arrives is taken, and in which state: one lemma for each of the three acceptance operations (R41 to R49, R234 to
R239, R547 to R553); and that a flit as the link builds it is good (R232).
-/

namespace Sys2Proof.Machine

/-- A datagram without a SecTAG is taken and changes nothing where the engine runs, its MAC requires no MACsec, and its port, address and header are
Seal Transport's. -/
theorem takeDatagram_takes {s : State} {f : NorthIn} (he : s.engineRuns = true) (hs : f.sec = none) (hm : s.macsecRequired f.mac = false)
    (hp : f.dport = northPort) (ha : s.northAddr f.mac f.v6 f.dst = true) (hh : f.headerOk = true) : s.takeDatagram f = (s, true) := by
  simp [State.takeDatagram, State.macsecTake, he, hs, hm, hp, ha, hh]

/-- A frame whose tag is that of the session's receive key passes the tag check. -/
theorem tagGood_of {s : State} {x : Session} {f : NorthIn} (he : x.erased = false) (ht : f.tag = some (gcmSeal x.rxKey (x.rxSalt * 2 ^ 64 + f.pn) f.header f.payload).2) :
    s.tagGood x f = true := by
  simp [State.tagGood, Session.tagUnder, he, ht]

/-- A frame of a session that takes it is taken: the session's time of the last frame, and the acknowledgement of its number. -/
theorem acceptNorth_takes {s : State} {f : NorthIn} {op : Nat} {ack : Bool} {x : Session} (ho : f.opcode = op) (hd : s.takeDatagram f = (s, true))
    (hx : s.session f.session = some x) (ht : s.tagGood x f = true) (hl : f.payload.length ≤ x.payloadLimit op) (hc : x.state ≠ .closed)
    (hr : inRanges f.pn x.received = false) (hw : x.state = .authWait → waitsFor op = true) :
    s.acceptNorth f op ack = ((if ack = true then (s.updSession f.session (fun y => { y with lastFrame := s.now })).acknowledge f.session f.pn
      else s.updSession f.session (fun y => { y with lastFrame := s.now })), true) := by
  subst ho
  have : ¬ (x.payloadLimit f.opcode < f.payload.length) := Nat.not_lt.mpr hl
  have hw' : x.state = .authWait → ¬ (waitsFor f.opcode = false) := fun h => by simp [hw h]
  cases ack <;> simp [State.acceptNorth, hd, hx, ht, this, hc, hr] <;> exact hw

/-- A message in a packet of an Ethernet port is taken and changes nothing. -/
theorem takeMessage_takes {s : State} {m : SouthIn} {n : SouthNet} (hs : s.safe = false) (hu : s.south.upPorts.contains m.port = true) (hn : m.net = some n)
    (ht : s.tether m.port = none) (hp : s.southPacket m.port n = true) (hh : m.headerOk = true) : s.takeMessage m = (s, true) := by
  simp only [State.takeMessage, hs, hu, hn, ht, hp, hh]; simp

/-- A message of an association that takes it is taken: the time of the last one, the acknowledgement of its number, and a release of its shelf. -/
theorem acceptOn_takes {s : State} {h : Nat} {m : SouthIn} {op : Nat} {ack : Bool} {a : Assoc} {u : State} (ho : m.opcode = op) (hm : s.takeMessage m = (s, true))
    (ha : s.assoc h = some a) (ht : m.tag = some (gcmTag a.rxKey (a.rxSalt * 2 ^ 64 + m.seq) (m.header ++ m.payload) [])) (hr : inRanges m.seq a.received = false)
    (hu : u = (if ack = true then (s.updAssoc h (fun a => { a with lastAccepted := s.now })).acknowledgeSouth h m.seq else s.updAssoc h (fun a => { a with lastAccepted := s.now }))) :
    s.acceptOn h m op ack = (if h < 64 then u.releaseShelf h else u, true) := by
  subst ho hu
  have hg : s.southTagGood a m = true := by simp [State.southTagGood, Assoc.tagUnder, ht]
  simp only [State.acceptOn, hm, ha, hg, hr]
  by_cases h64 : h < 64 <;> simp [h64]

/-- A Smilia frame whose tag is that of the session's receive key passes the tag check. -/
theorem smlTagGood_of {s : State} {x : SmlSession} {f : SmlIn} (he : x.erased = false) (ht : f.tag = some (gcmSeal x.rxKey (x.rxSalt * 2 ^ 64 + f.seq) f.header f.payload).2) :
    s.smlTagGood x f = true := by
  simp [State.smlTagGood, SmlSession.tagUnder, he, ht]

/-- A Smilia frame of a session that takes it is taken: its SEQ is received and its time kept. -/
theorem acceptSml_takes {s : State} {f : SmlIn} {op : Nat} {x : SmlSession} (hm : s.mgmtServes = true) (ho : f.opcode = op) (hh : f.headerOk = true) (hp : f.prot = true)
    (hc : s.smlCarrier f.net = true) (hx : s.sml f.session = some x) (hr : x.raw = f.net.raw) (hu : s.smlToUs (s.atOld f.session) f.net = true) (ht : s.smlTagGood x f = true)
    (hs : x.state ≠ .closed) (hq : inRanges f.seq x.received = false) (hw : x.state = .authWait → smlWaitsFor op = true) :
    s.acceptSml f op = (s.setSml f.session { x with received := insertNum f.seq x.received, lastFrame := s.now },
      some { x with received := insertNum f.seq x.received, lastFrame := s.now }) := by
  subst ho
  simp [State.acceptSml, hm, hh, hp, hc, hx, hr, hu, ht, hs, hq]
  intro h
  simpa using hw h

/-- Four bytes of a number below 2^32 give it back. -/
theorem ofBe_beBytes4 (v : Nat) (h : v < 2 ^ 32) : ofBe (beBytes 4 v) = v := by
  simp [ofBe, beBytes, leBytes, ofLe, BitVec.toNat_ofNat]; omega

/-- A string of the length asked is not padded. -/
theorem padTo_self {n : Nat} {l : List Byte} (h : l.length = n) : padTo n l = l := by simp [padTo, h, List.take_of_length_le]

/-- A flit as the link sends it passes the checks of R232 at the other end. -/
theorem flitGood_flitBytes (typ seq ack : Nat) (p : List Byte) (h1 : 1 ≤ typ) (h2 : typ ≤ 3) : flitGood true (flitBytes typ seq ack p) = true := by
  have hb : ([BitVec.ofNat 8 typ] ++ beBytes 2 seq ++ beBytes 2 ack ++ padTo 1276 p).length = 1281 := by
    simp [beBytes, leBytes, padTo]; omega
  have hc : (beBytes 4 (crc32c ([BitVec.ofNat 8 typ] ++ beBytes 2 seq ++ beBytes 2 ack ++ padTo 1276 p))).length = 4 := by simp [beBytes, leBytes]
  have ht : flitType (flitBytes typ seq ack p) = typ := by
    simp [flitType, flitBytes, beAt, slice, padTo, ofBe, ofLe]; omega
  have hk : beAt (flitBytes typ seq ack p) 1281 4 = crc32c ([BitVec.ofNat 8 typ] ++ beBytes 2 seq ++ beBytes 2 ack ++ padTo 1276 p) := by
    unfold beAt slice flitBytes
    rw [List.drop_left' hb]
    rw [padTo_self hc]
    exact ofBe_beBytes4 _ (BitVec.isLt _)
  have hl : (flitBytes typ seq ack p).length = 1285 := by unfold flitBytes; simp only [List.length_append, hc] at *; omega
  have hx : (flitBytes typ seq ack p).take 1281 = [BitVec.ofNat 8 typ] ++ beBytes 2 seq ++ beBytes 2 ack ++ padTo 1276 p := by unfold flitBytes; rw [List.take_left' hb]
  simp [flitGood, ht, hk, hl, hx, h1, h2]

end Sys2Proof.Machine
end

