-- ==== Sys2Proof/Laws/Tables.lean ====
section
/-! SUPPORT. The table operations keep the keys rising, and reading a key after a write gives what was written. -/

namespace Sys2Proof.Machine

/-- Rising keys, said of every two entries. -/
theorem rising_iff {α : Type} (t : Table α) : rising t = true ↔ t.Pairwise (fun a b => a.1 < b.1) := by
  induction t with
  | nil => simp [rising]
  | cons x t ih =>
    cases t with
    | nil => simp [rising]
    | cons y t =>
      obtain ⟨a, v⟩ := x
      obtain ⟨b, w⟩ := y
      simp only [rising, Bool.and_eq_true, decide_eq_true_eq, ih, List.pairwise_cons]
      constructor
      · rintro ⟨h, k1, k2⟩
        refine ⟨fun z hz => ?_, k1, k2⟩
        rcases List.mem_cons.1 hz with rfl | hz
        · exact h
        · exact Nat.lt_trans h (k1 z hz)
      · rintro ⟨h, k⟩
        exact ⟨h _ (List.mem_cons_self ..), k⟩

theorem rising_tkeep {α : Type} {t : Table α} {p : Nat → α → Bool} (h : rising t = true) : rising (tkeep t p) = true := by
  rw [rising_iff] at *
  exact h.filter _

theorem mem_tput {α : Type} {t : Table α} {k : Nat} {v : α} {x : Nat × α} (h : x ∈ tput t k v) : x = (k, v) ∨ x ∈ t := by
  induction t with
  | nil => simpa [tput] using h
  | cons y t ih =>
    obtain ⟨a, w⟩ := y
    unfold tput at h
    split at h
    · rcases List.mem_cons.1 h with h | h
      · exact .inl h
      · exact .inr h
    · split at h
      · rcases List.mem_cons.1 h with h | h
        · exact .inl h
        · exact .inr (List.mem_cons_of_mem _ h)
      · rcases List.mem_cons.1 h with h | h
        · exact .inr (h ▸ List.mem_cons_self ..)
        · exact (ih h).imp id (List.mem_cons_of_mem _)

theorem rising_tput {α : Type} {t : Table α} {k : Nat} {v : α} (h : rising t = true) : rising (tput t k v) = true := by
  rw [rising_iff] at *
  induction t with
  | nil => simp [tput]
  | cons y t ih =>
    obtain ⟨a, w⟩ := y
    have hp := List.pairwise_cons.1 h
    unfold tput
    split
    · refine List.pairwise_cons.2 ⟨fun z hz => ?_, h⟩
      rcases List.mem_cons.1 hz with rfl | hz
      · assumption
      · exact Nat.lt_trans ‹k < a› (hp.1 z hz)
    · split
      · subst ‹k = a›
        exact List.pairwise_cons.2 ⟨hp.1, hp.2⟩
      · refine List.pairwise_cons.2 ⟨fun z hz => ?_, ih hp.2⟩
        rcases mem_tput hz with rfl | hz
        · show a < k
          omega
        · exact hp.1 z hz

theorem rising_tdel {α : Type} {t : Table α} {k : Nat} (h : rising t = true) : rising (tdel t k) = true := by
  rw [rising_iff] at *
  exact h.filter _

theorem tget_filter {α : Type} (t : Table α) (f : Nat → Bool) (j : Nat) : tget (t.filter (fun kv => f kv.1)) j = if f j then tget t j else none := by
  induction t with
  | nil => simp [tget]
  | cons x t ih =>
    obtain ⟨a, v⟩ := x
    by_cases hf : f a = true
    · simp only [List.filter_cons, hf, if_true, tget]
      by_cases ha : a = j
      · subst ha; simp [hf]
      · simp only [ha, if_false, ih]
    · simp only [List.filter_cons, hf, tget, if_false, Bool.false_eq_true]
      by_cases ha : a = j
      · subst ha; simp [hf, ih]
      · simp only [ha, if_false, ih]

theorem tget_tdel_self {α : Type} (t : Table α) (k : Nat) : tget (tdel t k) k = none := by
  unfold tdel; rw [tget_filter t (fun a => a != k)]; simp

theorem tget_tdel_ne {α : Type} (t : Table α) {k j : Nat} (h : j ≠ k) : tget (tdel t k) j = tget t j := by
  unfold tdel; rw [tget_filter t (fun a => a != k)]; simp [h]

theorem tget_tput_self {α : Type} (t : Table α) (k : Nat) (v : α) : tget (tput t k v) k = some v := by
  induction t with
  | nil => simp [tput, tget]
  | cons y t ih =>
    obtain ⟨a, w⟩ := y
    unfold tput
    split
    · simp [tget]
    · split
      · simp [tget]
      · unfold tget
        rw [if_neg (by omega)]
        exact ih

theorem tget_tput_ne {α : Type} (t : Table α) {k j : Nat} (v : α) (h : j ≠ k) : tget (tput t k v) j = tget t j := by
  induction t with
  | nil => simp [tput, tget, Ne.symm h]
  | cons y t ih =>
    obtain ⟨a, w⟩ := y
    unfold tput
    split
    · simp [tget, Ne.symm h]
    · split
      · subst ‹k = a›
        simp [tget, Ne.symm h]
      · simp only [tget, ih]

end Sys2Proof.Machine
end

