-- ==== Sys2Proof/Laws/State.lean ====
section
/-! SUPPORT. What each field of the state is after each of the basic updates, and what a register field, a pair and the outputs read as. -/

namespace Sys2Proof.Machine

variable (s : State)

section
variable (f : Collector → Collector)
@[simp] theorem State.updCollector_pending : (s.updCollector f).pending = s.pending := rfl
@[simp] theorem State.updCollector_now : (s.updCollector f).now = s.now := rfl
@[simp] theorem State.updCollector_rtc : (s.updCollector f).rtc = s.rtc := rfl
@[simp] theorem State.updCollector_draws : (s.updCollector f).draws = s.draws := rfl
@[simp] theorem State.updCollector_out : (s.updCollector f).out = s.out := rfl
@[simp] theorem State.updCollector_svc : (s.updCollector f).svc = s.svc := rfl
@[simp] theorem State.updCollector_heelRetains : (s.updCollector f).heelRetains = s.heelRetains := rfl
@[simp] theorem State.updCollector_regs : (s.updCollector f).regs = s.regs := rfl
@[simp] theorem State.updCollector_latch : (s.updCollector f).latch = s.latch := rfl
@[simp] theorem State.updCollector_collector : (s.updCollector f).collector = f s.collector := rfl
@[simp] theorem State.updCollector_trail : (s.updCollector f).trail = s.trail := rfl
@[simp] theorem State.updCollector_mem : (s.updCollector f).mem = s.mem := rfl
@[simp] theorem State.updCollector_guards : (s.updCollector f).guards = s.guards := rfl
@[simp] theorem State.updCollector_queue : (s.updCollector f).queue = s.queue := rfl
@[simp] theorem State.updCollector_stitch : (s.updCollector f).stitch = s.stitch := rfl
@[simp] theorem State.updCollector_staging : (s.updCollector f).staging = s.staging := rfl
@[simp] theorem State.updCollector_shepherd : (s.updCollector f).shepherd = s.shepherd := rfl
@[simp] theorem State.updCollector_pack : (s.updCollector f).pack = s.pack := rfl
@[simp] theorem State.updCollector_south : (s.updCollector f).south = s.south := rfl
@[simp] theorem State.updCollector_keys : (s.updCollector f).keys = s.keys := rfl
@[simp] theorem State.updCollector_awl : (s.updCollector f).awl = s.awl := rfl
@[simp] theorem State.updCollector_cores : (s.updCollector f).cores = s.cores := rfl
@[simp] theorem State.updCollector_flash : (s.updCollector f).flash = s.flash := rfl
@[simp] theorem State.updCollector_kennel : (s.updCollector f).kennel = s.kennel := rfl
@[simp] theorem State.updCollector_collar : (s.updCollector f).collar = s.collar := rfl
@[simp] theorem State.updCollector_reader : (s.updCollector f).reader = s.reader := rfl
@[simp] theorem State.updCollector_panel : (s.updCollector f).panel = s.panel := rfl
@[simp] theorem State.updCollector_sd : (s.updCollector f).sd = s.sd := rfl
@[simp] theorem State.updCollector_chip : (s.updCollector f).chip = s.chip := rfl
@[simp] theorem State.updCollector_telemetry : (s.updCollector f).telemetry = s.telemetry := rfl
@[simp] theorem State.updCollector_smilia : (s.updCollector f).smilia = s.smilia := rfl
@[simp] theorem State.updCollector_dict : (s.updCollector f).dict = s.dict := rfl
@[simp] theorem State.updCollector_domains : (s.updCollector f).domains = s.domains := rfl
@[simp] theorem State.updCollector_rd (g : Field) : (s.updCollector f).rd g = s.rd g := rfl
@[simp] theorem State.updCollector_core (r : PairId) : (s.updCollector f).core r = s.core r := rfl
end

section
variable (f : Trail → Trail)
@[simp] theorem State.updTrail_pending : (s.updTrail f).pending = s.pending := rfl
@[simp] theorem State.updTrail_now : (s.updTrail f).now = s.now := rfl
@[simp] theorem State.updTrail_rtc : (s.updTrail f).rtc = s.rtc := rfl
@[simp] theorem State.updTrail_draws : (s.updTrail f).draws = s.draws := rfl
@[simp] theorem State.updTrail_out : (s.updTrail f).out = s.out := rfl
@[simp] theorem State.updTrail_svc : (s.updTrail f).svc = s.svc := rfl
@[simp] theorem State.updTrail_heelRetains : (s.updTrail f).heelRetains = s.heelRetains := rfl
@[simp] theorem State.updTrail_regs : (s.updTrail f).regs = s.regs := rfl
@[simp] theorem State.updTrail_latch : (s.updTrail f).latch = s.latch := rfl
@[simp] theorem State.updTrail_collector : (s.updTrail f).collector = s.collector := rfl
@[simp] theorem State.updTrail_trail : (s.updTrail f).trail = f s.trail := rfl
@[simp] theorem State.updTrail_mem : (s.updTrail f).mem = s.mem := rfl
@[simp] theorem State.updTrail_guards : (s.updTrail f).guards = s.guards := rfl
@[simp] theorem State.updTrail_queue : (s.updTrail f).queue = s.queue := rfl
@[simp] theorem State.updTrail_stitch : (s.updTrail f).stitch = s.stitch := rfl
@[simp] theorem State.updTrail_staging : (s.updTrail f).staging = s.staging := rfl
@[simp] theorem State.updTrail_shepherd : (s.updTrail f).shepherd = s.shepherd := rfl
@[simp] theorem State.updTrail_pack : (s.updTrail f).pack = s.pack := rfl
@[simp] theorem State.updTrail_south : (s.updTrail f).south = s.south := rfl
@[simp] theorem State.updTrail_keys : (s.updTrail f).keys = s.keys := rfl
@[simp] theorem State.updTrail_awl : (s.updTrail f).awl = s.awl := rfl
@[simp] theorem State.updTrail_cores : (s.updTrail f).cores = s.cores := rfl
@[simp] theorem State.updTrail_flash : (s.updTrail f).flash = s.flash := rfl
@[simp] theorem State.updTrail_kennel : (s.updTrail f).kennel = s.kennel := rfl
@[simp] theorem State.updTrail_collar : (s.updTrail f).collar = s.collar := rfl
@[simp] theorem State.updTrail_reader : (s.updTrail f).reader = s.reader := rfl
@[simp] theorem State.updTrail_panel : (s.updTrail f).panel = s.panel := rfl
@[simp] theorem State.updTrail_sd : (s.updTrail f).sd = s.sd := rfl
@[simp] theorem State.updTrail_chip : (s.updTrail f).chip = s.chip := rfl
@[simp] theorem State.updTrail_telemetry : (s.updTrail f).telemetry = s.telemetry := rfl
@[simp] theorem State.updTrail_smilia : (s.updTrail f).smilia = s.smilia := rfl
@[simp] theorem State.updTrail_dict : (s.updTrail f).dict = s.dict := rfl
@[simp] theorem State.updTrail_domains : (s.updTrail f).domains = s.domains := rfl
@[simp] theorem State.updTrail_rd (g : Field) : (s.updTrail f).rd g = s.rd g := rfl
@[simp] theorem State.updTrail_core (r : PairId) : (s.updTrail f).core r = s.core r := rfl
end

section
variable (f : Kennel → Kennel)
@[simp] theorem State.updKennel_pending : (s.updKennel f).pending = s.pending := rfl
@[simp] theorem State.updKennel_now : (s.updKennel f).now = s.now := rfl
@[simp] theorem State.updKennel_rtc : (s.updKennel f).rtc = s.rtc := rfl
@[simp] theorem State.updKennel_draws : (s.updKennel f).draws = s.draws := rfl
@[simp] theorem State.updKennel_out : (s.updKennel f).out = s.out := rfl
@[simp] theorem State.updKennel_svc : (s.updKennel f).svc = s.svc := rfl
@[simp] theorem State.updKennel_heelRetains : (s.updKennel f).heelRetains = s.heelRetains := rfl
@[simp] theorem State.updKennel_regs : (s.updKennel f).regs = s.regs := rfl
@[simp] theorem State.updKennel_latch : (s.updKennel f).latch = s.latch := rfl
@[simp] theorem State.updKennel_collector : (s.updKennel f).collector = s.collector := rfl
@[simp] theorem State.updKennel_trail : (s.updKennel f).trail = s.trail := rfl
@[simp] theorem State.updKennel_mem : (s.updKennel f).mem = s.mem := rfl
@[simp] theorem State.updKennel_guards : (s.updKennel f).guards = s.guards := rfl
@[simp] theorem State.updKennel_queue : (s.updKennel f).queue = s.queue := rfl
@[simp] theorem State.updKennel_stitch : (s.updKennel f).stitch = s.stitch := rfl
@[simp] theorem State.updKennel_staging : (s.updKennel f).staging = s.staging := rfl
@[simp] theorem State.updKennel_shepherd : (s.updKennel f).shepherd = s.shepherd := rfl
@[simp] theorem State.updKennel_pack : (s.updKennel f).pack = s.pack := rfl
@[simp] theorem State.updKennel_south : (s.updKennel f).south = s.south := rfl
@[simp] theorem State.updKennel_keys : (s.updKennel f).keys = s.keys := rfl
@[simp] theorem State.updKennel_awl : (s.updKennel f).awl = s.awl := rfl
@[simp] theorem State.updKennel_cores : (s.updKennel f).cores = s.cores := rfl
@[simp] theorem State.updKennel_flash : (s.updKennel f).flash = s.flash := rfl
@[simp] theorem State.updKennel_kennel : (s.updKennel f).kennel = f s.kennel := rfl
@[simp] theorem State.updKennel_collar : (s.updKennel f).collar = s.collar := rfl
@[simp] theorem State.updKennel_reader : (s.updKennel f).reader = s.reader := rfl
@[simp] theorem State.updKennel_panel : (s.updKennel f).panel = s.panel := rfl
@[simp] theorem State.updKennel_sd : (s.updKennel f).sd = s.sd := rfl
@[simp] theorem State.updKennel_chip : (s.updKennel f).chip = s.chip := rfl
@[simp] theorem State.updKennel_telemetry : (s.updKennel f).telemetry = s.telemetry := rfl
@[simp] theorem State.updKennel_smilia : (s.updKennel f).smilia = s.smilia := rfl
@[simp] theorem State.updKennel_dict : (s.updKennel f).dict = s.dict := rfl
@[simp] theorem State.updKennel_domains : (s.updKennel f).domains = s.domains := rfl
@[simp] theorem State.updKennel_rd (g : Field) : (s.updKennel f).rd g = s.rd g := rfl
@[simp] theorem State.updKennel_core (r : PairId) : (s.updKennel f).core r = s.core r := rfl
end

section
variable (f : Collar → Collar)
@[simp] theorem State.updCollar_pending : (s.updCollar f).pending = s.pending := rfl
@[simp] theorem State.updCollar_now : (s.updCollar f).now = s.now := rfl
@[simp] theorem State.updCollar_rtc : (s.updCollar f).rtc = s.rtc := rfl
@[simp] theorem State.updCollar_draws : (s.updCollar f).draws = s.draws := rfl
@[simp] theorem State.updCollar_out : (s.updCollar f).out = s.out := rfl
@[simp] theorem State.updCollar_svc : (s.updCollar f).svc = s.svc := rfl
@[simp] theorem State.updCollar_heelRetains : (s.updCollar f).heelRetains = s.heelRetains := rfl
@[simp] theorem State.updCollar_regs : (s.updCollar f).regs = s.regs := rfl
@[simp] theorem State.updCollar_latch : (s.updCollar f).latch = s.latch := rfl
@[simp] theorem State.updCollar_collector : (s.updCollar f).collector = s.collector := rfl
@[simp] theorem State.updCollar_trail : (s.updCollar f).trail = s.trail := rfl
@[simp] theorem State.updCollar_mem : (s.updCollar f).mem = s.mem := rfl
@[simp] theorem State.updCollar_guards : (s.updCollar f).guards = s.guards := rfl
@[simp] theorem State.updCollar_queue : (s.updCollar f).queue = s.queue := rfl
@[simp] theorem State.updCollar_stitch : (s.updCollar f).stitch = s.stitch := rfl
@[simp] theorem State.updCollar_staging : (s.updCollar f).staging = s.staging := rfl
@[simp] theorem State.updCollar_shepherd : (s.updCollar f).shepherd = s.shepherd := rfl
@[simp] theorem State.updCollar_pack : (s.updCollar f).pack = s.pack := rfl
@[simp] theorem State.updCollar_south : (s.updCollar f).south = s.south := rfl
@[simp] theorem State.updCollar_keys : (s.updCollar f).keys = s.keys := rfl
@[simp] theorem State.updCollar_awl : (s.updCollar f).awl = s.awl := rfl
@[simp] theorem State.updCollar_cores : (s.updCollar f).cores = s.cores := rfl
@[simp] theorem State.updCollar_flash : (s.updCollar f).flash = s.flash := rfl
@[simp] theorem State.updCollar_kennel : (s.updCollar f).kennel = s.kennel := rfl
@[simp] theorem State.updCollar_collar : (s.updCollar f).collar = f s.collar := rfl
@[simp] theorem State.updCollar_reader : (s.updCollar f).reader = s.reader := rfl
@[simp] theorem State.updCollar_panel : (s.updCollar f).panel = s.panel := rfl
@[simp] theorem State.updCollar_sd : (s.updCollar f).sd = s.sd := rfl
@[simp] theorem State.updCollar_chip : (s.updCollar f).chip = s.chip := rfl
@[simp] theorem State.updCollar_telemetry : (s.updCollar f).telemetry = s.telemetry := rfl
@[simp] theorem State.updCollar_smilia : (s.updCollar f).smilia = s.smilia := rfl
@[simp] theorem State.updCollar_dict : (s.updCollar f).dict = s.dict := rfl
@[simp] theorem State.updCollar_domains : (s.updCollar f).domains = s.domains := rfl
@[simp] theorem State.updCollar_rd (g : Field) : (s.updCollar f).rd g = s.rd g := rfl
@[simp] theorem State.updCollar_core (r : PairId) : (s.updCollar f).core r = s.core r := rfl
end

section
variable (f : Panel → Panel)
@[simp] theorem State.updPanel_pending : (s.updPanel f).pending = s.pending := rfl
@[simp] theorem State.updPanel_now : (s.updPanel f).now = s.now := rfl
@[simp] theorem State.updPanel_rtc : (s.updPanel f).rtc = s.rtc := rfl
@[simp] theorem State.updPanel_draws : (s.updPanel f).draws = s.draws := rfl
@[simp] theorem State.updPanel_out : (s.updPanel f).out = s.out := rfl
@[simp] theorem State.updPanel_svc : (s.updPanel f).svc = s.svc := rfl
@[simp] theorem State.updPanel_heelRetains : (s.updPanel f).heelRetains = s.heelRetains := rfl
@[simp] theorem State.updPanel_regs : (s.updPanel f).regs = s.regs := rfl
@[simp] theorem State.updPanel_latch : (s.updPanel f).latch = s.latch := rfl
@[simp] theorem State.updPanel_collector : (s.updPanel f).collector = s.collector := rfl
@[simp] theorem State.updPanel_trail : (s.updPanel f).trail = s.trail := rfl
@[simp] theorem State.updPanel_mem : (s.updPanel f).mem = s.mem := rfl
@[simp] theorem State.updPanel_guards : (s.updPanel f).guards = s.guards := rfl
@[simp] theorem State.updPanel_queue : (s.updPanel f).queue = s.queue := rfl
@[simp] theorem State.updPanel_stitch : (s.updPanel f).stitch = s.stitch := rfl
@[simp] theorem State.updPanel_staging : (s.updPanel f).staging = s.staging := rfl
@[simp] theorem State.updPanel_shepherd : (s.updPanel f).shepherd = s.shepherd := rfl
@[simp] theorem State.updPanel_pack : (s.updPanel f).pack = s.pack := rfl
@[simp] theorem State.updPanel_south : (s.updPanel f).south = s.south := rfl
@[simp] theorem State.updPanel_keys : (s.updPanel f).keys = s.keys := rfl
@[simp] theorem State.updPanel_awl : (s.updPanel f).awl = s.awl := rfl
@[simp] theorem State.updPanel_cores : (s.updPanel f).cores = s.cores := rfl
@[simp] theorem State.updPanel_flash : (s.updPanel f).flash = s.flash := rfl
@[simp] theorem State.updPanel_kennel : (s.updPanel f).kennel = s.kennel := rfl
@[simp] theorem State.updPanel_collar : (s.updPanel f).collar = s.collar := rfl
@[simp] theorem State.updPanel_reader : (s.updPanel f).reader = s.reader := rfl
@[simp] theorem State.updPanel_panel : (s.updPanel f).panel = f s.panel := rfl
@[simp] theorem State.updPanel_sd : (s.updPanel f).sd = s.sd := rfl
@[simp] theorem State.updPanel_chip : (s.updPanel f).chip = s.chip := rfl
@[simp] theorem State.updPanel_telemetry : (s.updPanel f).telemetry = s.telemetry := rfl
@[simp] theorem State.updPanel_smilia : (s.updPanel f).smilia = s.smilia := rfl
@[simp] theorem State.updPanel_dict : (s.updPanel f).dict = s.dict := rfl
@[simp] theorem State.updPanel_domains : (s.updPanel f).domains = s.domains := rfl
@[simp] theorem State.updPanel_rd (g : Field) : (s.updPanel f).rd g = s.rd g := rfl
@[simp] theorem State.updPanel_core (r : PairId) : (s.updPanel f).core r = s.core r := rfl
end

section
variable (f : Chip → Chip)
@[simp] theorem State.updChip_pending : (s.updChip f).pending = s.pending := rfl
@[simp] theorem State.updChip_now : (s.updChip f).now = s.now := rfl
@[simp] theorem State.updChip_rtc : (s.updChip f).rtc = s.rtc := rfl
@[simp] theorem State.updChip_draws : (s.updChip f).draws = s.draws := rfl
@[simp] theorem State.updChip_out : (s.updChip f).out = s.out := rfl
@[simp] theorem State.updChip_svc : (s.updChip f).svc = s.svc := rfl
@[simp] theorem State.updChip_heelRetains : (s.updChip f).heelRetains = s.heelRetains := rfl
@[simp] theorem State.updChip_regs : (s.updChip f).regs = s.regs := rfl
@[simp] theorem State.updChip_latch : (s.updChip f).latch = s.latch := rfl
@[simp] theorem State.updChip_collector : (s.updChip f).collector = s.collector := rfl
@[simp] theorem State.updChip_trail : (s.updChip f).trail = s.trail := rfl
@[simp] theorem State.updChip_mem : (s.updChip f).mem = s.mem := rfl
@[simp] theorem State.updChip_guards : (s.updChip f).guards = s.guards := rfl
@[simp] theorem State.updChip_queue : (s.updChip f).queue = s.queue := rfl
@[simp] theorem State.updChip_stitch : (s.updChip f).stitch = s.stitch := rfl
@[simp] theorem State.updChip_staging : (s.updChip f).staging = s.staging := rfl
@[simp] theorem State.updChip_shepherd : (s.updChip f).shepherd = s.shepherd := rfl
@[simp] theorem State.updChip_pack : (s.updChip f).pack = s.pack := rfl
@[simp] theorem State.updChip_south : (s.updChip f).south = s.south := rfl
@[simp] theorem State.updChip_keys : (s.updChip f).keys = s.keys := rfl
@[simp] theorem State.updChip_awl : (s.updChip f).awl = s.awl := rfl
@[simp] theorem State.updChip_cores : (s.updChip f).cores = s.cores := rfl
@[simp] theorem State.updChip_flash : (s.updChip f).flash = s.flash := rfl
@[simp] theorem State.updChip_kennel : (s.updChip f).kennel = s.kennel := rfl
@[simp] theorem State.updChip_collar : (s.updChip f).collar = s.collar := rfl
@[simp] theorem State.updChip_reader : (s.updChip f).reader = s.reader := rfl
@[simp] theorem State.updChip_panel : (s.updChip f).panel = s.panel := rfl
@[simp] theorem State.updChip_sd : (s.updChip f).sd = s.sd := rfl
@[simp] theorem State.updChip_chip : (s.updChip f).chip = f s.chip := rfl
@[simp] theorem State.updChip_telemetry : (s.updChip f).telemetry = s.telemetry := rfl
@[simp] theorem State.updChip_smilia : (s.updChip f).smilia = s.smilia := rfl
@[simp] theorem State.updChip_dict : (s.updChip f).dict = s.dict := rfl
@[simp] theorem State.updChip_domains : (s.updChip f).domains = s.domains := rfl
@[simp] theorem State.updChip_rd (g : Field) : (s.updChip f).rd g = s.rd g := rfl
@[simp] theorem State.updChip_core (r : PairId) : (s.updChip f).core r = s.core r := rfl
end

section
variable (f : Telemetry → Telemetry)
@[simp] theorem State.updTelemetry_pending : (s.updTelemetry f).pending = s.pending := rfl
@[simp] theorem State.updTelemetry_now : (s.updTelemetry f).now = s.now := rfl
@[simp] theorem State.updTelemetry_rtc : (s.updTelemetry f).rtc = s.rtc := rfl
@[simp] theorem State.updTelemetry_draws : (s.updTelemetry f).draws = s.draws := rfl
@[simp] theorem State.updTelemetry_out : (s.updTelemetry f).out = s.out := rfl
@[simp] theorem State.updTelemetry_svc : (s.updTelemetry f).svc = s.svc := rfl
@[simp] theorem State.updTelemetry_heelRetains : (s.updTelemetry f).heelRetains = s.heelRetains := rfl
@[simp] theorem State.updTelemetry_regs : (s.updTelemetry f).regs = s.regs := rfl
@[simp] theorem State.updTelemetry_latch : (s.updTelemetry f).latch = s.latch := rfl
@[simp] theorem State.updTelemetry_collector : (s.updTelemetry f).collector = s.collector := rfl
@[simp] theorem State.updTelemetry_trail : (s.updTelemetry f).trail = s.trail := rfl
@[simp] theorem State.updTelemetry_mem : (s.updTelemetry f).mem = s.mem := rfl
@[simp] theorem State.updTelemetry_guards : (s.updTelemetry f).guards = s.guards := rfl
@[simp] theorem State.updTelemetry_queue : (s.updTelemetry f).queue = s.queue := rfl
@[simp] theorem State.updTelemetry_stitch : (s.updTelemetry f).stitch = s.stitch := rfl
@[simp] theorem State.updTelemetry_staging : (s.updTelemetry f).staging = s.staging := rfl
@[simp] theorem State.updTelemetry_shepherd : (s.updTelemetry f).shepherd = s.shepherd := rfl
@[simp] theorem State.updTelemetry_pack : (s.updTelemetry f).pack = s.pack := rfl
@[simp] theorem State.updTelemetry_south : (s.updTelemetry f).south = s.south := rfl
@[simp] theorem State.updTelemetry_keys : (s.updTelemetry f).keys = s.keys := rfl
@[simp] theorem State.updTelemetry_awl : (s.updTelemetry f).awl = s.awl := rfl
@[simp] theorem State.updTelemetry_cores : (s.updTelemetry f).cores = s.cores := rfl
@[simp] theorem State.updTelemetry_flash : (s.updTelemetry f).flash = s.flash := rfl
@[simp] theorem State.updTelemetry_kennel : (s.updTelemetry f).kennel = s.kennel := rfl
@[simp] theorem State.updTelemetry_collar : (s.updTelemetry f).collar = s.collar := rfl
@[simp] theorem State.updTelemetry_reader : (s.updTelemetry f).reader = s.reader := rfl
@[simp] theorem State.updTelemetry_panel : (s.updTelemetry f).panel = s.panel := rfl
@[simp] theorem State.updTelemetry_sd : (s.updTelemetry f).sd = s.sd := rfl
@[simp] theorem State.updTelemetry_chip : (s.updTelemetry f).chip = s.chip := rfl
@[simp] theorem State.updTelemetry_telemetry : (s.updTelemetry f).telemetry = f s.telemetry := rfl
@[simp] theorem State.updTelemetry_smilia : (s.updTelemetry f).smilia = s.smilia := rfl
@[simp] theorem State.updTelemetry_dict : (s.updTelemetry f).dict = s.dict := rfl
@[simp] theorem State.updTelemetry_domains : (s.updTelemetry f).domains = s.domains := rfl
@[simp] theorem State.updTelemetry_rd (g : Field) : (s.updTelemetry f).rd g = s.rd g := rfl
@[simp] theorem State.updTelemetry_core (r : PairId) : (s.updTelemetry f).core r = s.core r := rfl
end

section
variable (f : Smilia → Smilia)
@[simp] theorem State.updSmilia_pending : (s.updSmilia f).pending = s.pending := rfl
@[simp] theorem State.updSmilia_now : (s.updSmilia f).now = s.now := rfl
@[simp] theorem State.updSmilia_rtc : (s.updSmilia f).rtc = s.rtc := rfl
@[simp] theorem State.updSmilia_draws : (s.updSmilia f).draws = s.draws := rfl
@[simp] theorem State.updSmilia_out : (s.updSmilia f).out = s.out := rfl
@[simp] theorem State.updSmilia_svc : (s.updSmilia f).svc = s.svc := rfl
@[simp] theorem State.updSmilia_heelRetains : (s.updSmilia f).heelRetains = s.heelRetains := rfl
@[simp] theorem State.updSmilia_regs : (s.updSmilia f).regs = s.regs := rfl
@[simp] theorem State.updSmilia_latch : (s.updSmilia f).latch = s.latch := rfl
@[simp] theorem State.updSmilia_collector : (s.updSmilia f).collector = s.collector := rfl
@[simp] theorem State.updSmilia_trail : (s.updSmilia f).trail = s.trail := rfl
@[simp] theorem State.updSmilia_mem : (s.updSmilia f).mem = s.mem := rfl
@[simp] theorem State.updSmilia_guards : (s.updSmilia f).guards = s.guards := rfl
@[simp] theorem State.updSmilia_queue : (s.updSmilia f).queue = s.queue := rfl
@[simp] theorem State.updSmilia_stitch : (s.updSmilia f).stitch = s.stitch := rfl
@[simp] theorem State.updSmilia_staging : (s.updSmilia f).staging = s.staging := rfl
@[simp] theorem State.updSmilia_shepherd : (s.updSmilia f).shepherd = s.shepherd := rfl
@[simp] theorem State.updSmilia_pack : (s.updSmilia f).pack = s.pack := rfl
@[simp] theorem State.updSmilia_south : (s.updSmilia f).south = s.south := rfl
@[simp] theorem State.updSmilia_keys : (s.updSmilia f).keys = s.keys := rfl
@[simp] theorem State.updSmilia_awl : (s.updSmilia f).awl = s.awl := rfl
@[simp] theorem State.updSmilia_cores : (s.updSmilia f).cores = s.cores := rfl
@[simp] theorem State.updSmilia_flash : (s.updSmilia f).flash = s.flash := rfl
@[simp] theorem State.updSmilia_kennel : (s.updSmilia f).kennel = s.kennel := rfl
@[simp] theorem State.updSmilia_collar : (s.updSmilia f).collar = s.collar := rfl
@[simp] theorem State.updSmilia_reader : (s.updSmilia f).reader = s.reader := rfl
@[simp] theorem State.updSmilia_panel : (s.updSmilia f).panel = s.panel := rfl
@[simp] theorem State.updSmilia_sd : (s.updSmilia f).sd = s.sd := rfl
@[simp] theorem State.updSmilia_chip : (s.updSmilia f).chip = s.chip := rfl
@[simp] theorem State.updSmilia_telemetry : (s.updSmilia f).telemetry = s.telemetry := rfl
@[simp] theorem State.updSmilia_smilia : (s.updSmilia f).smilia = f s.smilia := rfl
@[simp] theorem State.updSmilia_dict : (s.updSmilia f).dict = s.dict := rfl
@[simp] theorem State.updSmilia_domains : (s.updSmilia f).domains = s.domains := rfl
@[simp] theorem State.updSmilia_rd (g : Field) : (s.updSmilia f).rd g = s.rd g := rfl
@[simp] theorem State.updSmilia_core (r : PairId) : (s.updSmilia f).core r = s.core r := rfl
end

section
variable (f : Cores → Cores)
@[simp] theorem State.updCores_pending : (s.updCores f).pending = s.pending := rfl
@[simp] theorem State.updCores_now : (s.updCores f).now = s.now := rfl
@[simp] theorem State.updCores_rtc : (s.updCores f).rtc = s.rtc := rfl
@[simp] theorem State.updCores_draws : (s.updCores f).draws = s.draws := rfl
@[simp] theorem State.updCores_out : (s.updCores f).out = s.out := rfl
@[simp] theorem State.updCores_svc : (s.updCores f).svc = s.svc := rfl
@[simp] theorem State.updCores_heelRetains : (s.updCores f).heelRetains = s.heelRetains := rfl
@[simp] theorem State.updCores_regs : (s.updCores f).regs = s.regs := rfl
@[simp] theorem State.updCores_latch : (s.updCores f).latch = s.latch := rfl
@[simp] theorem State.updCores_collector : (s.updCores f).collector = s.collector := rfl
@[simp] theorem State.updCores_trail : (s.updCores f).trail = s.trail := rfl
@[simp] theorem State.updCores_mem : (s.updCores f).mem = s.mem := rfl
@[simp] theorem State.updCores_guards : (s.updCores f).guards = s.guards := rfl
@[simp] theorem State.updCores_queue : (s.updCores f).queue = s.queue := rfl
@[simp] theorem State.updCores_stitch : (s.updCores f).stitch = s.stitch := rfl
@[simp] theorem State.updCores_staging : (s.updCores f).staging = s.staging := rfl
@[simp] theorem State.updCores_shepherd : (s.updCores f).shepherd = s.shepherd := rfl
@[simp] theorem State.updCores_pack : (s.updCores f).pack = s.pack := rfl
@[simp] theorem State.updCores_south : (s.updCores f).south = s.south := rfl
@[simp] theorem State.updCores_keys : (s.updCores f).keys = s.keys := rfl
@[simp] theorem State.updCores_awl : (s.updCores f).awl = s.awl := rfl
@[simp] theorem State.updCores_cores : (s.updCores f).cores = f s.cores := rfl
@[simp] theorem State.updCores_flash : (s.updCores f).flash = s.flash := rfl
@[simp] theorem State.updCores_kennel : (s.updCores f).kennel = s.kennel := rfl
@[simp] theorem State.updCores_collar : (s.updCores f).collar = s.collar := rfl
@[simp] theorem State.updCores_reader : (s.updCores f).reader = s.reader := rfl
@[simp] theorem State.updCores_panel : (s.updCores f).panel = s.panel := rfl
@[simp] theorem State.updCores_sd : (s.updCores f).sd = s.sd := rfl
@[simp] theorem State.updCores_chip : (s.updCores f).chip = s.chip := rfl
@[simp] theorem State.updCores_telemetry : (s.updCores f).telemetry = s.telemetry := rfl
@[simp] theorem State.updCores_smilia : (s.updCores f).smilia = s.smilia := rfl
@[simp] theorem State.updCores_dict : (s.updCores f).dict = s.dict := rfl
@[simp] theorem State.updCores_domains : (s.updCores f).domains = s.domains := rfl
@[simp] theorem State.updCores_rd (g : Field) : (s.updCores f).rd g = s.rd g := rfl
end

section
variable (f : Guards → Guards)
@[simp] theorem State.updGuards_pending : (s.updGuards f).pending = s.pending := rfl
@[simp] theorem State.updGuards_now : (s.updGuards f).now = s.now := rfl
@[simp] theorem State.updGuards_rtc : (s.updGuards f).rtc = s.rtc := rfl
@[simp] theorem State.updGuards_draws : (s.updGuards f).draws = s.draws := rfl
@[simp] theorem State.updGuards_out : (s.updGuards f).out = s.out := rfl
@[simp] theorem State.updGuards_svc : (s.updGuards f).svc = s.svc := rfl
@[simp] theorem State.updGuards_heelRetains : (s.updGuards f).heelRetains = s.heelRetains := rfl
@[simp] theorem State.updGuards_regs : (s.updGuards f).regs = s.regs := rfl
@[simp] theorem State.updGuards_latch : (s.updGuards f).latch = s.latch := rfl
@[simp] theorem State.updGuards_collector : (s.updGuards f).collector = s.collector := rfl
@[simp] theorem State.updGuards_trail : (s.updGuards f).trail = s.trail := rfl
@[simp] theorem State.updGuards_mem : (s.updGuards f).mem = s.mem := rfl
@[simp] theorem State.updGuards_guards : (s.updGuards f).guards = f s.guards := rfl
@[simp] theorem State.updGuards_queue : (s.updGuards f).queue = s.queue := rfl
@[simp] theorem State.updGuards_stitch : (s.updGuards f).stitch = s.stitch := rfl
@[simp] theorem State.updGuards_staging : (s.updGuards f).staging = s.staging := rfl
@[simp] theorem State.updGuards_shepherd : (s.updGuards f).shepherd = s.shepherd := rfl
@[simp] theorem State.updGuards_pack : (s.updGuards f).pack = s.pack := rfl
@[simp] theorem State.updGuards_south : (s.updGuards f).south = s.south := rfl
@[simp] theorem State.updGuards_keys : (s.updGuards f).keys = s.keys := rfl
@[simp] theorem State.updGuards_awl : (s.updGuards f).awl = s.awl := rfl
@[simp] theorem State.updGuards_cores : (s.updGuards f).cores = s.cores := rfl
@[simp] theorem State.updGuards_flash : (s.updGuards f).flash = s.flash := rfl
@[simp] theorem State.updGuards_kennel : (s.updGuards f).kennel = s.kennel := rfl
@[simp] theorem State.updGuards_collar : (s.updGuards f).collar = s.collar := rfl
@[simp] theorem State.updGuards_reader : (s.updGuards f).reader = s.reader := rfl
@[simp] theorem State.updGuards_panel : (s.updGuards f).panel = s.panel := rfl
@[simp] theorem State.updGuards_sd : (s.updGuards f).sd = s.sd := rfl
@[simp] theorem State.updGuards_chip : (s.updGuards f).chip = s.chip := rfl
@[simp] theorem State.updGuards_telemetry : (s.updGuards f).telemetry = s.telemetry := rfl
@[simp] theorem State.updGuards_smilia : (s.updGuards f).smilia = s.smilia := rfl
@[simp] theorem State.updGuards_dict : (s.updGuards f).dict = s.dict := rfl
@[simp] theorem State.updGuards_domains : (s.updGuards f).domains = s.domains := rfl
@[simp] theorem State.updGuards_rd (g : Field) : (s.updGuards f).rd g = s.rd g := rfl
@[simp] theorem State.updGuards_core (r : PairId) : (s.updGuards f).core r = s.core r := rfl
end

section
variable (f : Stitch → Stitch)
@[simp] theorem State.updStitch_pending : (s.updStitch f).pending = s.pending := rfl
@[simp] theorem State.updStitch_now : (s.updStitch f).now = s.now := rfl
@[simp] theorem State.updStitch_rtc : (s.updStitch f).rtc = s.rtc := rfl
@[simp] theorem State.updStitch_draws : (s.updStitch f).draws = s.draws := rfl
@[simp] theorem State.updStitch_out : (s.updStitch f).out = s.out := rfl
@[simp] theorem State.updStitch_svc : (s.updStitch f).svc = s.svc := rfl
@[simp] theorem State.updStitch_heelRetains : (s.updStitch f).heelRetains = s.heelRetains := rfl
@[simp] theorem State.updStitch_regs : (s.updStitch f).regs = s.regs := rfl
@[simp] theorem State.updStitch_latch : (s.updStitch f).latch = s.latch := rfl
@[simp] theorem State.updStitch_collector : (s.updStitch f).collector = s.collector := rfl
@[simp] theorem State.updStitch_trail : (s.updStitch f).trail = s.trail := rfl
@[simp] theorem State.updStitch_mem : (s.updStitch f).mem = s.mem := rfl
@[simp] theorem State.updStitch_guards : (s.updStitch f).guards = s.guards := rfl
@[simp] theorem State.updStitch_queue : (s.updStitch f).queue = s.queue := rfl
@[simp] theorem State.updStitch_stitch : (s.updStitch f).stitch = f s.stitch := rfl
@[simp] theorem State.updStitch_staging : (s.updStitch f).staging = s.staging := rfl
@[simp] theorem State.updStitch_shepherd : (s.updStitch f).shepherd = s.shepherd := rfl
@[simp] theorem State.updStitch_pack : (s.updStitch f).pack = s.pack := rfl
@[simp] theorem State.updStitch_south : (s.updStitch f).south = s.south := rfl
@[simp] theorem State.updStitch_keys : (s.updStitch f).keys = s.keys := rfl
@[simp] theorem State.updStitch_awl : (s.updStitch f).awl = s.awl := rfl
@[simp] theorem State.updStitch_cores : (s.updStitch f).cores = s.cores := rfl
@[simp] theorem State.updStitch_flash : (s.updStitch f).flash = s.flash := rfl
@[simp] theorem State.updStitch_kennel : (s.updStitch f).kennel = s.kennel := rfl
@[simp] theorem State.updStitch_collar : (s.updStitch f).collar = s.collar := rfl
@[simp] theorem State.updStitch_reader : (s.updStitch f).reader = s.reader := rfl
@[simp] theorem State.updStitch_panel : (s.updStitch f).panel = s.panel := rfl
@[simp] theorem State.updStitch_sd : (s.updStitch f).sd = s.sd := rfl
@[simp] theorem State.updStitch_chip : (s.updStitch f).chip = s.chip := rfl
@[simp] theorem State.updStitch_telemetry : (s.updStitch f).telemetry = s.telemetry := rfl
@[simp] theorem State.updStitch_smilia : (s.updStitch f).smilia = s.smilia := rfl
@[simp] theorem State.updStitch_dict : (s.updStitch f).dict = s.dict := rfl
@[simp] theorem State.updStitch_domains : (s.updStitch f).domains = s.domains := rfl
@[simp] theorem State.updStitch_rd (g : Field) : (s.updStitch f).rd g = s.rd g := rfl
@[simp] theorem State.updStitch_core (r : PairId) : (s.updStitch f).core r = s.core r := rfl
end

section
variable (f : QueueEngine → QueueEngine)
@[simp] theorem State.updQueue_pending : (s.updQueue f).pending = s.pending := rfl
@[simp] theorem State.updQueue_now : (s.updQueue f).now = s.now := rfl
@[simp] theorem State.updQueue_rtc : (s.updQueue f).rtc = s.rtc := rfl
@[simp] theorem State.updQueue_draws : (s.updQueue f).draws = s.draws := rfl
@[simp] theorem State.updQueue_out : (s.updQueue f).out = s.out := rfl
@[simp] theorem State.updQueue_svc : (s.updQueue f).svc = s.svc := rfl
@[simp] theorem State.updQueue_heelRetains : (s.updQueue f).heelRetains = s.heelRetains := rfl
@[simp] theorem State.updQueue_regs : (s.updQueue f).regs = s.regs := rfl
@[simp] theorem State.updQueue_latch : (s.updQueue f).latch = s.latch := rfl
@[simp] theorem State.updQueue_collector : (s.updQueue f).collector = s.collector := rfl
@[simp] theorem State.updQueue_trail : (s.updQueue f).trail = s.trail := rfl
@[simp] theorem State.updQueue_mem : (s.updQueue f).mem = s.mem := rfl
@[simp] theorem State.updQueue_guards : (s.updQueue f).guards = s.guards := rfl
@[simp] theorem State.updQueue_queue : (s.updQueue f).queue = f s.queue := rfl
@[simp] theorem State.updQueue_stitch : (s.updQueue f).stitch = s.stitch := rfl
@[simp] theorem State.updQueue_staging : (s.updQueue f).staging = s.staging := rfl
@[simp] theorem State.updQueue_shepherd : (s.updQueue f).shepherd = s.shepherd := rfl
@[simp] theorem State.updQueue_pack : (s.updQueue f).pack = s.pack := rfl
@[simp] theorem State.updQueue_south : (s.updQueue f).south = s.south := rfl
@[simp] theorem State.updQueue_keys : (s.updQueue f).keys = s.keys := rfl
@[simp] theorem State.updQueue_awl : (s.updQueue f).awl = s.awl := rfl
@[simp] theorem State.updQueue_cores : (s.updQueue f).cores = s.cores := rfl
@[simp] theorem State.updQueue_flash : (s.updQueue f).flash = s.flash := rfl
@[simp] theorem State.updQueue_kennel : (s.updQueue f).kennel = s.kennel := rfl
@[simp] theorem State.updQueue_collar : (s.updQueue f).collar = s.collar := rfl
@[simp] theorem State.updQueue_reader : (s.updQueue f).reader = s.reader := rfl
@[simp] theorem State.updQueue_panel : (s.updQueue f).panel = s.panel := rfl
@[simp] theorem State.updQueue_sd : (s.updQueue f).sd = s.sd := rfl
@[simp] theorem State.updQueue_chip : (s.updQueue f).chip = s.chip := rfl
@[simp] theorem State.updQueue_telemetry : (s.updQueue f).telemetry = s.telemetry := rfl
@[simp] theorem State.updQueue_smilia : (s.updQueue f).smilia = s.smilia := rfl
@[simp] theorem State.updQueue_dict : (s.updQueue f).dict = s.dict := rfl
@[simp] theorem State.updQueue_domains : (s.updQueue f).domains = s.domains := rfl
@[simp] theorem State.updQueue_rd (g : Field) : (s.updQueue f).rd g = s.rd g := rfl
@[simp] theorem State.updQueue_core (r : PairId) : (s.updQueue f).core r = s.core r := rfl
end

section
variable (f : Staging → Staging)
@[simp] theorem State.updStaging_pending : (s.updStaging f).pending = s.pending := rfl
@[simp] theorem State.updStaging_now : (s.updStaging f).now = s.now := rfl
@[simp] theorem State.updStaging_rtc : (s.updStaging f).rtc = s.rtc := rfl
@[simp] theorem State.updStaging_draws : (s.updStaging f).draws = s.draws := rfl
@[simp] theorem State.updStaging_out : (s.updStaging f).out = s.out := rfl
@[simp] theorem State.updStaging_svc : (s.updStaging f).svc = s.svc := rfl
@[simp] theorem State.updStaging_heelRetains : (s.updStaging f).heelRetains = s.heelRetains := rfl
@[simp] theorem State.updStaging_regs : (s.updStaging f).regs = s.regs := rfl
@[simp] theorem State.updStaging_latch : (s.updStaging f).latch = s.latch := rfl
@[simp] theorem State.updStaging_collector : (s.updStaging f).collector = s.collector := rfl
@[simp] theorem State.updStaging_trail : (s.updStaging f).trail = s.trail := rfl
@[simp] theorem State.updStaging_mem : (s.updStaging f).mem = s.mem := rfl
@[simp] theorem State.updStaging_guards : (s.updStaging f).guards = s.guards := rfl
@[simp] theorem State.updStaging_queue : (s.updStaging f).queue = s.queue := rfl
@[simp] theorem State.updStaging_stitch : (s.updStaging f).stitch = s.stitch := rfl
@[simp] theorem State.updStaging_staging : (s.updStaging f).staging = f s.staging := rfl
@[simp] theorem State.updStaging_shepherd : (s.updStaging f).shepherd = s.shepherd := rfl
@[simp] theorem State.updStaging_pack : (s.updStaging f).pack = s.pack := rfl
@[simp] theorem State.updStaging_south : (s.updStaging f).south = s.south := rfl
@[simp] theorem State.updStaging_keys : (s.updStaging f).keys = s.keys := rfl
@[simp] theorem State.updStaging_awl : (s.updStaging f).awl = s.awl := rfl
@[simp] theorem State.updStaging_cores : (s.updStaging f).cores = s.cores := rfl
@[simp] theorem State.updStaging_flash : (s.updStaging f).flash = s.flash := rfl
@[simp] theorem State.updStaging_kennel : (s.updStaging f).kennel = s.kennel := rfl
@[simp] theorem State.updStaging_collar : (s.updStaging f).collar = s.collar := rfl
@[simp] theorem State.updStaging_reader : (s.updStaging f).reader = s.reader := rfl
@[simp] theorem State.updStaging_panel : (s.updStaging f).panel = s.panel := rfl
@[simp] theorem State.updStaging_sd : (s.updStaging f).sd = s.sd := rfl
@[simp] theorem State.updStaging_chip : (s.updStaging f).chip = s.chip := rfl
@[simp] theorem State.updStaging_telemetry : (s.updStaging f).telemetry = s.telemetry := rfl
@[simp] theorem State.updStaging_smilia : (s.updStaging f).smilia = s.smilia := rfl
@[simp] theorem State.updStaging_dict : (s.updStaging f).dict = s.dict := rfl
@[simp] theorem State.updStaging_domains : (s.updStaging f).domains = s.domains := rfl
@[simp] theorem State.updStaging_rd (g : Field) : (s.updStaging f).rd g = s.rd g := rfl
@[simp] theorem State.updStaging_core (r : PairId) : (s.updStaging f).core r = s.core r := rfl
end

section
variable (f : Shepherd → Shepherd)
@[simp] theorem State.updShepherd_pending : (s.updShepherd f).pending = s.pending := rfl
@[simp] theorem State.updShepherd_now : (s.updShepherd f).now = s.now := rfl
@[simp] theorem State.updShepherd_rtc : (s.updShepherd f).rtc = s.rtc := rfl
@[simp] theorem State.updShepherd_draws : (s.updShepherd f).draws = s.draws := rfl
@[simp] theorem State.updShepherd_out : (s.updShepherd f).out = s.out := rfl
@[simp] theorem State.updShepherd_svc : (s.updShepherd f).svc = s.svc := rfl
@[simp] theorem State.updShepherd_heelRetains : (s.updShepherd f).heelRetains = s.heelRetains := rfl
@[simp] theorem State.updShepherd_regs : (s.updShepherd f).regs = s.regs := rfl
@[simp] theorem State.updShepherd_latch : (s.updShepherd f).latch = s.latch := rfl
@[simp] theorem State.updShepherd_collector : (s.updShepherd f).collector = s.collector := rfl
@[simp] theorem State.updShepherd_trail : (s.updShepherd f).trail = s.trail := rfl
@[simp] theorem State.updShepherd_mem : (s.updShepherd f).mem = s.mem := rfl
@[simp] theorem State.updShepherd_guards : (s.updShepherd f).guards = s.guards := rfl
@[simp] theorem State.updShepherd_queue : (s.updShepherd f).queue = s.queue := rfl
@[simp] theorem State.updShepherd_stitch : (s.updShepherd f).stitch = s.stitch := rfl
@[simp] theorem State.updShepherd_staging : (s.updShepherd f).staging = s.staging := rfl
@[simp] theorem State.updShepherd_shepherd : (s.updShepherd f).shepherd = f s.shepherd := rfl
@[simp] theorem State.updShepherd_pack : (s.updShepherd f).pack = s.pack := rfl
@[simp] theorem State.updShepherd_south : (s.updShepherd f).south = s.south := rfl
@[simp] theorem State.updShepherd_keys : (s.updShepherd f).keys = s.keys := rfl
@[simp] theorem State.updShepherd_awl : (s.updShepherd f).awl = s.awl := rfl
@[simp] theorem State.updShepherd_cores : (s.updShepherd f).cores = s.cores := rfl
@[simp] theorem State.updShepherd_flash : (s.updShepherd f).flash = s.flash := rfl
@[simp] theorem State.updShepherd_kennel : (s.updShepherd f).kennel = s.kennel := rfl
@[simp] theorem State.updShepherd_collar : (s.updShepherd f).collar = s.collar := rfl
@[simp] theorem State.updShepherd_reader : (s.updShepherd f).reader = s.reader := rfl
@[simp] theorem State.updShepherd_panel : (s.updShepherd f).panel = s.panel := rfl
@[simp] theorem State.updShepherd_sd : (s.updShepherd f).sd = s.sd := rfl
@[simp] theorem State.updShepherd_chip : (s.updShepherd f).chip = s.chip := rfl
@[simp] theorem State.updShepherd_telemetry : (s.updShepherd f).telemetry = s.telemetry := rfl
@[simp] theorem State.updShepherd_smilia : (s.updShepherd f).smilia = s.smilia := rfl
@[simp] theorem State.updShepherd_dict : (s.updShepherd f).dict = s.dict := rfl
@[simp] theorem State.updShepherd_domains : (s.updShepherd f).domains = s.domains := rfl
@[simp] theorem State.updShepherd_rd (g : Field) : (s.updShepherd f).rd g = s.rd g := rfl
@[simp] theorem State.updShepherd_core (r : PairId) : (s.updShepherd f).core r = s.core r := rfl
end

section
variable (f : Pack → Pack)
@[simp] theorem State.updPack_pending : (s.updPack f).pending = s.pending := rfl
@[simp] theorem State.updPack_now : (s.updPack f).now = s.now := rfl
@[simp] theorem State.updPack_rtc : (s.updPack f).rtc = s.rtc := rfl
@[simp] theorem State.updPack_draws : (s.updPack f).draws = s.draws := rfl
@[simp] theorem State.updPack_out : (s.updPack f).out = s.out := rfl
@[simp] theorem State.updPack_svc : (s.updPack f).svc = s.svc := rfl
@[simp] theorem State.updPack_heelRetains : (s.updPack f).heelRetains = s.heelRetains := rfl
@[simp] theorem State.updPack_regs : (s.updPack f).regs = s.regs := rfl
@[simp] theorem State.updPack_latch : (s.updPack f).latch = s.latch := rfl
@[simp] theorem State.updPack_collector : (s.updPack f).collector = s.collector := rfl
@[simp] theorem State.updPack_trail : (s.updPack f).trail = s.trail := rfl
@[simp] theorem State.updPack_mem : (s.updPack f).mem = s.mem := rfl
@[simp] theorem State.updPack_guards : (s.updPack f).guards = s.guards := rfl
@[simp] theorem State.updPack_queue : (s.updPack f).queue = s.queue := rfl
@[simp] theorem State.updPack_stitch : (s.updPack f).stitch = s.stitch := rfl
@[simp] theorem State.updPack_staging : (s.updPack f).staging = s.staging := rfl
@[simp] theorem State.updPack_shepherd : (s.updPack f).shepherd = s.shepherd := rfl
@[simp] theorem State.updPack_pack : (s.updPack f).pack = f s.pack := rfl
@[simp] theorem State.updPack_south : (s.updPack f).south = s.south := rfl
@[simp] theorem State.updPack_keys : (s.updPack f).keys = s.keys := rfl
@[simp] theorem State.updPack_awl : (s.updPack f).awl = s.awl := rfl
@[simp] theorem State.updPack_cores : (s.updPack f).cores = s.cores := rfl
@[simp] theorem State.updPack_flash : (s.updPack f).flash = s.flash := rfl
@[simp] theorem State.updPack_kennel : (s.updPack f).kennel = s.kennel := rfl
@[simp] theorem State.updPack_collar : (s.updPack f).collar = s.collar := rfl
@[simp] theorem State.updPack_reader : (s.updPack f).reader = s.reader := rfl
@[simp] theorem State.updPack_panel : (s.updPack f).panel = s.panel := rfl
@[simp] theorem State.updPack_sd : (s.updPack f).sd = s.sd := rfl
@[simp] theorem State.updPack_chip : (s.updPack f).chip = s.chip := rfl
@[simp] theorem State.updPack_telemetry : (s.updPack f).telemetry = s.telemetry := rfl
@[simp] theorem State.updPack_smilia : (s.updPack f).smilia = s.smilia := rfl
@[simp] theorem State.updPack_dict : (s.updPack f).dict = s.dict := rfl
@[simp] theorem State.updPack_domains : (s.updPack f).domains = s.domains := rfl
@[simp] theorem State.updPack_rd (g : Field) : (s.updPack f).rd g = s.rd g := rfl
@[simp] theorem State.updPack_core (r : PairId) : (s.updPack f).core r = s.core r := rfl
end

section
variable (f : South → South)
@[simp] theorem State.updSouth_pending : (s.updSouth f).pending = s.pending := rfl
@[simp] theorem State.updSouth_now : (s.updSouth f).now = s.now := rfl
@[simp] theorem State.updSouth_rtc : (s.updSouth f).rtc = s.rtc := rfl
@[simp] theorem State.updSouth_draws : (s.updSouth f).draws = s.draws := rfl
@[simp] theorem State.updSouth_out : (s.updSouth f).out = s.out := rfl
@[simp] theorem State.updSouth_svc : (s.updSouth f).svc = s.svc := rfl
@[simp] theorem State.updSouth_heelRetains : (s.updSouth f).heelRetains = s.heelRetains := rfl
@[simp] theorem State.updSouth_regs : (s.updSouth f).regs = s.regs := rfl
@[simp] theorem State.updSouth_latch : (s.updSouth f).latch = s.latch := rfl
@[simp] theorem State.updSouth_collector : (s.updSouth f).collector = s.collector := rfl
@[simp] theorem State.updSouth_trail : (s.updSouth f).trail = s.trail := rfl
@[simp] theorem State.updSouth_mem : (s.updSouth f).mem = s.mem := rfl
@[simp] theorem State.updSouth_guards : (s.updSouth f).guards = s.guards := rfl
@[simp] theorem State.updSouth_queue : (s.updSouth f).queue = s.queue := rfl
@[simp] theorem State.updSouth_stitch : (s.updSouth f).stitch = s.stitch := rfl
@[simp] theorem State.updSouth_staging : (s.updSouth f).staging = s.staging := rfl
@[simp] theorem State.updSouth_shepherd : (s.updSouth f).shepherd = s.shepherd := rfl
@[simp] theorem State.updSouth_pack : (s.updSouth f).pack = s.pack := rfl
@[simp] theorem State.updSouth_south : (s.updSouth f).south = f s.south := rfl
@[simp] theorem State.updSouth_keys : (s.updSouth f).keys = s.keys := rfl
@[simp] theorem State.updSouth_awl : (s.updSouth f).awl = s.awl := rfl
@[simp] theorem State.updSouth_cores : (s.updSouth f).cores = s.cores := rfl
@[simp] theorem State.updSouth_flash : (s.updSouth f).flash = s.flash := rfl
@[simp] theorem State.updSouth_kennel : (s.updSouth f).kennel = s.kennel := rfl
@[simp] theorem State.updSouth_collar : (s.updSouth f).collar = s.collar := rfl
@[simp] theorem State.updSouth_reader : (s.updSouth f).reader = s.reader := rfl
@[simp] theorem State.updSouth_panel : (s.updSouth f).panel = s.panel := rfl
@[simp] theorem State.updSouth_sd : (s.updSouth f).sd = s.sd := rfl
@[simp] theorem State.updSouth_chip : (s.updSouth f).chip = s.chip := rfl
@[simp] theorem State.updSouth_telemetry : (s.updSouth f).telemetry = s.telemetry := rfl
@[simp] theorem State.updSouth_smilia : (s.updSouth f).smilia = s.smilia := rfl
@[simp] theorem State.updSouth_dict : (s.updSouth f).dict = s.dict := rfl
@[simp] theorem State.updSouth_domains : (s.updSouth f).domains = s.domains := rfl
@[simp] theorem State.updSouth_rd (g : Field) : (s.updSouth f).rd g = s.rd g := rfl
@[simp] theorem State.updSouth_core (r : PairId) : (s.updSouth f).core r = s.core r := rfl
end

section
variable (f : Saddlebag → Saddlebag)
@[simp] theorem State.updKeys_pending : (s.updKeys f).pending = s.pending := rfl
@[simp] theorem State.updKeys_now : (s.updKeys f).now = s.now := rfl
@[simp] theorem State.updKeys_rtc : (s.updKeys f).rtc = s.rtc := rfl
@[simp] theorem State.updKeys_draws : (s.updKeys f).draws = s.draws := rfl
@[simp] theorem State.updKeys_out : (s.updKeys f).out = s.out := rfl
@[simp] theorem State.updKeys_svc : (s.updKeys f).svc = s.svc := rfl
@[simp] theorem State.updKeys_heelRetains : (s.updKeys f).heelRetains = s.heelRetains := rfl
@[simp] theorem State.updKeys_regs : (s.updKeys f).regs = s.regs := rfl
@[simp] theorem State.updKeys_latch : (s.updKeys f).latch = s.latch := rfl
@[simp] theorem State.updKeys_collector : (s.updKeys f).collector = s.collector := rfl
@[simp] theorem State.updKeys_trail : (s.updKeys f).trail = s.trail := rfl
@[simp] theorem State.updKeys_mem : (s.updKeys f).mem = s.mem := rfl
@[simp] theorem State.updKeys_guards : (s.updKeys f).guards = s.guards := rfl
@[simp] theorem State.updKeys_queue : (s.updKeys f).queue = s.queue := rfl
@[simp] theorem State.updKeys_stitch : (s.updKeys f).stitch = s.stitch := rfl
@[simp] theorem State.updKeys_staging : (s.updKeys f).staging = s.staging := rfl
@[simp] theorem State.updKeys_shepherd : (s.updKeys f).shepherd = s.shepherd := rfl
@[simp] theorem State.updKeys_pack : (s.updKeys f).pack = s.pack := rfl
@[simp] theorem State.updKeys_south : (s.updKeys f).south = s.south := rfl
@[simp] theorem State.updKeys_keys : (s.updKeys f).keys = f s.keys := rfl
@[simp] theorem State.updKeys_awl : (s.updKeys f).awl = s.awl := rfl
@[simp] theorem State.updKeys_cores : (s.updKeys f).cores = s.cores := rfl
@[simp] theorem State.updKeys_flash : (s.updKeys f).flash = s.flash := rfl
@[simp] theorem State.updKeys_kennel : (s.updKeys f).kennel = s.kennel := rfl
@[simp] theorem State.updKeys_collar : (s.updKeys f).collar = s.collar := rfl
@[simp] theorem State.updKeys_reader : (s.updKeys f).reader = s.reader := rfl
@[simp] theorem State.updKeys_panel : (s.updKeys f).panel = s.panel := rfl
@[simp] theorem State.updKeys_sd : (s.updKeys f).sd = s.sd := rfl
@[simp] theorem State.updKeys_chip : (s.updKeys f).chip = s.chip := rfl
@[simp] theorem State.updKeys_telemetry : (s.updKeys f).telemetry = s.telemetry := rfl
@[simp] theorem State.updKeys_smilia : (s.updKeys f).smilia = s.smilia := rfl
@[simp] theorem State.updKeys_dict : (s.updKeys f).dict = s.dict := rfl
@[simp] theorem State.updKeys_domains : (s.updKeys f).domains = s.domains := rfl
@[simp] theorem State.updKeys_rd (g : Field) : (s.updKeys f).rd g = s.rd g := rfl
@[simp] theorem State.updKeys_core (r : PairId) : (s.updKeys f).core r = s.core r := rfl
end

section
variable (f : Flash → Flash)
@[simp] theorem State.updFlash_pending : (s.updFlash f).pending = s.pending := rfl
@[simp] theorem State.updFlash_now : (s.updFlash f).now = s.now := rfl
@[simp] theorem State.updFlash_rtc : (s.updFlash f).rtc = s.rtc := rfl
@[simp] theorem State.updFlash_draws : (s.updFlash f).draws = s.draws := rfl
@[simp] theorem State.updFlash_out : (s.updFlash f).out = s.out := rfl
@[simp] theorem State.updFlash_svc : (s.updFlash f).svc = s.svc := rfl
@[simp] theorem State.updFlash_heelRetains : (s.updFlash f).heelRetains = s.heelRetains := rfl
@[simp] theorem State.updFlash_regs : (s.updFlash f).regs = s.regs := rfl
@[simp] theorem State.updFlash_latch : (s.updFlash f).latch = s.latch := rfl
@[simp] theorem State.updFlash_collector : (s.updFlash f).collector = s.collector := rfl
@[simp] theorem State.updFlash_trail : (s.updFlash f).trail = s.trail := rfl
@[simp] theorem State.updFlash_mem : (s.updFlash f).mem = s.mem := rfl
@[simp] theorem State.updFlash_guards : (s.updFlash f).guards = s.guards := rfl
@[simp] theorem State.updFlash_queue : (s.updFlash f).queue = s.queue := rfl
@[simp] theorem State.updFlash_stitch : (s.updFlash f).stitch = s.stitch := rfl
@[simp] theorem State.updFlash_staging : (s.updFlash f).staging = s.staging := rfl
@[simp] theorem State.updFlash_shepherd : (s.updFlash f).shepherd = s.shepherd := rfl
@[simp] theorem State.updFlash_pack : (s.updFlash f).pack = s.pack := rfl
@[simp] theorem State.updFlash_south : (s.updFlash f).south = s.south := rfl
@[simp] theorem State.updFlash_keys : (s.updFlash f).keys = s.keys := rfl
@[simp] theorem State.updFlash_awl : (s.updFlash f).awl = s.awl := rfl
@[simp] theorem State.updFlash_cores : (s.updFlash f).cores = s.cores := rfl
@[simp] theorem State.updFlash_flash : (s.updFlash f).flash = f s.flash := rfl
@[simp] theorem State.updFlash_kennel : (s.updFlash f).kennel = s.kennel := rfl
@[simp] theorem State.updFlash_collar : (s.updFlash f).collar = s.collar := rfl
@[simp] theorem State.updFlash_reader : (s.updFlash f).reader = s.reader := rfl
@[simp] theorem State.updFlash_panel : (s.updFlash f).panel = s.panel := rfl
@[simp] theorem State.updFlash_sd : (s.updFlash f).sd = s.sd := rfl
@[simp] theorem State.updFlash_chip : (s.updFlash f).chip = s.chip := rfl
@[simp] theorem State.updFlash_telemetry : (s.updFlash f).telemetry = s.telemetry := rfl
@[simp] theorem State.updFlash_smilia : (s.updFlash f).smilia = s.smilia := rfl
@[simp] theorem State.updFlash_dict : (s.updFlash f).dict = s.dict := rfl
@[simp] theorem State.updFlash_domains : (s.updFlash f).domains = s.domains := rfl
@[simp] theorem State.updFlash_rd (g : Field) : (s.updFlash f).rd g = s.rd g := rfl
@[simp] theorem State.updFlash_core (r : PairId) : (s.updFlash f).core r = s.core r := rfl
end

section
variable (f : Awl → Awl)
@[simp] theorem State.updAwl_pending : (s.updAwl f).pending = s.pending := rfl
@[simp] theorem State.updAwl_now : (s.updAwl f).now = s.now := rfl
@[simp] theorem State.updAwl_rtc : (s.updAwl f).rtc = s.rtc := rfl
@[simp] theorem State.updAwl_draws : (s.updAwl f).draws = s.draws := rfl
@[simp] theorem State.updAwl_out : (s.updAwl f).out = s.out := rfl
@[simp] theorem State.updAwl_svc : (s.updAwl f).svc = s.svc := rfl
@[simp] theorem State.updAwl_heelRetains : (s.updAwl f).heelRetains = s.heelRetains := rfl
@[simp] theorem State.updAwl_regs : (s.updAwl f).regs = s.regs := rfl
@[simp] theorem State.updAwl_latch : (s.updAwl f).latch = s.latch := rfl
@[simp] theorem State.updAwl_collector : (s.updAwl f).collector = s.collector := rfl
@[simp] theorem State.updAwl_trail : (s.updAwl f).trail = s.trail := rfl
@[simp] theorem State.updAwl_mem : (s.updAwl f).mem = s.mem := rfl
@[simp] theorem State.updAwl_guards : (s.updAwl f).guards = s.guards := rfl
@[simp] theorem State.updAwl_queue : (s.updAwl f).queue = s.queue := rfl
@[simp] theorem State.updAwl_stitch : (s.updAwl f).stitch = s.stitch := rfl
@[simp] theorem State.updAwl_staging : (s.updAwl f).staging = s.staging := rfl
@[simp] theorem State.updAwl_shepherd : (s.updAwl f).shepherd = s.shepherd := rfl
@[simp] theorem State.updAwl_pack : (s.updAwl f).pack = s.pack := rfl
@[simp] theorem State.updAwl_south : (s.updAwl f).south = s.south := rfl
@[simp] theorem State.updAwl_keys : (s.updAwl f).keys = s.keys := rfl
@[simp] theorem State.updAwl_awl : (s.updAwl f).awl = f s.awl := rfl
@[simp] theorem State.updAwl_cores : (s.updAwl f).cores = s.cores := rfl
@[simp] theorem State.updAwl_flash : (s.updAwl f).flash = s.flash := rfl
@[simp] theorem State.updAwl_kennel : (s.updAwl f).kennel = s.kennel := rfl
@[simp] theorem State.updAwl_collar : (s.updAwl f).collar = s.collar := rfl
@[simp] theorem State.updAwl_reader : (s.updAwl f).reader = s.reader := rfl
@[simp] theorem State.updAwl_panel : (s.updAwl f).panel = s.panel := rfl
@[simp] theorem State.updAwl_sd : (s.updAwl f).sd = s.sd := rfl
@[simp] theorem State.updAwl_chip : (s.updAwl f).chip = s.chip := rfl
@[simp] theorem State.updAwl_telemetry : (s.updAwl f).telemetry = s.telemetry := rfl
@[simp] theorem State.updAwl_smilia : (s.updAwl f).smilia = s.smilia := rfl
@[simp] theorem State.updAwl_dict : (s.updAwl f).dict = s.dict := rfl
@[simp] theorem State.updAwl_domains : (s.updAwl f).domains = s.domains := rfl
@[simp] theorem State.updAwl_rd (g : Field) : (s.updAwl f).rd g = s.rd g := rfl
@[simp] theorem State.updAwl_core (r : PairId) : (s.updAwl f).core r = s.core r := rfl
end

section
variable (f : Reader → Reader)
@[simp] theorem State.updReader_pending : (s.updReader f).pending = s.pending := rfl
@[simp] theorem State.updReader_now : (s.updReader f).now = s.now := rfl
@[simp] theorem State.updReader_rtc : (s.updReader f).rtc = s.rtc := rfl
@[simp] theorem State.updReader_draws : (s.updReader f).draws = s.draws := rfl
@[simp] theorem State.updReader_out : (s.updReader f).out = s.out := rfl
@[simp] theorem State.updReader_svc : (s.updReader f).svc = s.svc := rfl
@[simp] theorem State.updReader_heelRetains : (s.updReader f).heelRetains = s.heelRetains := rfl
@[simp] theorem State.updReader_regs : (s.updReader f).regs = s.regs := rfl
@[simp] theorem State.updReader_latch : (s.updReader f).latch = s.latch := rfl
@[simp] theorem State.updReader_collector : (s.updReader f).collector = s.collector := rfl
@[simp] theorem State.updReader_trail : (s.updReader f).trail = s.trail := rfl
@[simp] theorem State.updReader_mem : (s.updReader f).mem = s.mem := rfl
@[simp] theorem State.updReader_guards : (s.updReader f).guards = s.guards := rfl
@[simp] theorem State.updReader_queue : (s.updReader f).queue = s.queue := rfl
@[simp] theorem State.updReader_stitch : (s.updReader f).stitch = s.stitch := rfl
@[simp] theorem State.updReader_staging : (s.updReader f).staging = s.staging := rfl
@[simp] theorem State.updReader_shepherd : (s.updReader f).shepherd = s.shepherd := rfl
@[simp] theorem State.updReader_pack : (s.updReader f).pack = s.pack := rfl
@[simp] theorem State.updReader_south : (s.updReader f).south = s.south := rfl
@[simp] theorem State.updReader_keys : (s.updReader f).keys = s.keys := rfl
@[simp] theorem State.updReader_awl : (s.updReader f).awl = s.awl := rfl
@[simp] theorem State.updReader_cores : (s.updReader f).cores = s.cores := rfl
@[simp] theorem State.updReader_flash : (s.updReader f).flash = s.flash := rfl
@[simp] theorem State.updReader_kennel : (s.updReader f).kennel = s.kennel := rfl
@[simp] theorem State.updReader_collar : (s.updReader f).collar = s.collar := rfl
@[simp] theorem State.updReader_reader : (s.updReader f).reader = f s.reader := rfl
@[simp] theorem State.updReader_panel : (s.updReader f).panel = s.panel := rfl
@[simp] theorem State.updReader_sd : (s.updReader f).sd = s.sd := rfl
@[simp] theorem State.updReader_chip : (s.updReader f).chip = s.chip := rfl
@[simp] theorem State.updReader_telemetry : (s.updReader f).telemetry = s.telemetry := rfl
@[simp] theorem State.updReader_smilia : (s.updReader f).smilia = s.smilia := rfl
@[simp] theorem State.updReader_dict : (s.updReader f).dict = s.dict := rfl
@[simp] theorem State.updReader_domains : (s.updReader f).domains = s.domains := rfl
@[simp] theorem State.updReader_rd (g : Field) : (s.updReader f).rd g = s.rd g := rfl
@[simp] theorem State.updReader_core (r : PairId) : (s.updReader f).core r = s.core r := rfl
end

section
variable (f : SdHost → SdHost)
@[simp] theorem State.updSd_pending : (s.updSd f).pending = s.pending := rfl
@[simp] theorem State.updSd_now : (s.updSd f).now = s.now := rfl
@[simp] theorem State.updSd_rtc : (s.updSd f).rtc = s.rtc := rfl
@[simp] theorem State.updSd_draws : (s.updSd f).draws = s.draws := rfl
@[simp] theorem State.updSd_out : (s.updSd f).out = s.out := rfl
@[simp] theorem State.updSd_svc : (s.updSd f).svc = s.svc := rfl
@[simp] theorem State.updSd_heelRetains : (s.updSd f).heelRetains = s.heelRetains := rfl
@[simp] theorem State.updSd_regs : (s.updSd f).regs = s.regs := rfl
@[simp] theorem State.updSd_latch : (s.updSd f).latch = s.latch := rfl
@[simp] theorem State.updSd_collector : (s.updSd f).collector = s.collector := rfl
@[simp] theorem State.updSd_trail : (s.updSd f).trail = s.trail := rfl
@[simp] theorem State.updSd_mem : (s.updSd f).mem = s.mem := rfl
@[simp] theorem State.updSd_guards : (s.updSd f).guards = s.guards := rfl
@[simp] theorem State.updSd_queue : (s.updSd f).queue = s.queue := rfl
@[simp] theorem State.updSd_stitch : (s.updSd f).stitch = s.stitch := rfl
@[simp] theorem State.updSd_staging : (s.updSd f).staging = s.staging := rfl
@[simp] theorem State.updSd_shepherd : (s.updSd f).shepherd = s.shepherd := rfl
@[simp] theorem State.updSd_pack : (s.updSd f).pack = s.pack := rfl
@[simp] theorem State.updSd_south : (s.updSd f).south = s.south := rfl
@[simp] theorem State.updSd_keys : (s.updSd f).keys = s.keys := rfl
@[simp] theorem State.updSd_awl : (s.updSd f).awl = s.awl := rfl
@[simp] theorem State.updSd_cores : (s.updSd f).cores = s.cores := rfl
@[simp] theorem State.updSd_flash : (s.updSd f).flash = s.flash := rfl
@[simp] theorem State.updSd_kennel : (s.updSd f).kennel = s.kennel := rfl
@[simp] theorem State.updSd_collar : (s.updSd f).collar = s.collar := rfl
@[simp] theorem State.updSd_reader : (s.updSd f).reader = s.reader := rfl
@[simp] theorem State.updSd_panel : (s.updSd f).panel = s.panel := rfl
@[simp] theorem State.updSd_sd : (s.updSd f).sd = f s.sd := rfl
@[simp] theorem State.updSd_chip : (s.updSd f).chip = s.chip := rfl
@[simp] theorem State.updSd_telemetry : (s.updSd f).telemetry = s.telemetry := rfl
@[simp] theorem State.updSd_smilia : (s.updSd f).smilia = s.smilia := rfl
@[simp] theorem State.updSd_dict : (s.updSd f).dict = s.dict := rfl
@[simp] theorem State.updSd_domains : (s.updSd f).domains = s.domains := rfl
@[simp] theorem State.updSd_rd (g : Field) : (s.updSd f).rd g = s.rd g := rfl
@[simp] theorem State.updSd_core (r : PairId) : (s.updSd f).core r = s.core r := rfl
end

section
variable (f : Field) (v : Nat)
@[simp] theorem State.wr_pending : (s.wr f v).pending = s.pending := rfl
@[simp] theorem State.wr_now : (s.wr f v).now = s.now := rfl
@[simp] theorem State.wr_rtc : (s.wr f v).rtc = s.rtc := rfl
@[simp] theorem State.wr_draws : (s.wr f v).draws = s.draws := rfl
@[simp] theorem State.wr_out : (s.wr f v).out = s.out := rfl
@[simp] theorem State.wr_svc : (s.wr f v).svc = s.svc := rfl
@[simp] theorem State.wr_heelRetains : (s.wr f v).heelRetains = s.heelRetains := rfl
@[simp] theorem State.wr_regs : (s.wr f v).regs = tput s.regs f.key (v % 2 ^ f.width) := rfl
@[simp] theorem State.wr_latch : (s.wr f v).latch = s.latch := rfl
@[simp] theorem State.wr_collector : (s.wr f v).collector = s.collector := rfl
@[simp] theorem State.wr_trail : (s.wr f v).trail = s.trail := rfl
@[simp] theorem State.wr_mem : (s.wr f v).mem = s.mem := rfl
@[simp] theorem State.wr_guards : (s.wr f v).guards = s.guards := rfl
@[simp] theorem State.wr_queue : (s.wr f v).queue = s.queue := rfl
@[simp] theorem State.wr_stitch : (s.wr f v).stitch = s.stitch := rfl
@[simp] theorem State.wr_staging : (s.wr f v).staging = s.staging := rfl
@[simp] theorem State.wr_shepherd : (s.wr f v).shepherd = s.shepherd := rfl
@[simp] theorem State.wr_pack : (s.wr f v).pack = s.pack := rfl
@[simp] theorem State.wr_south : (s.wr f v).south = s.south := rfl
@[simp] theorem State.wr_keys : (s.wr f v).keys = s.keys := rfl
@[simp] theorem State.wr_awl : (s.wr f v).awl = s.awl := rfl
@[simp] theorem State.wr_cores : (s.wr f v).cores = s.cores := rfl
@[simp] theorem State.wr_flash : (s.wr f v).flash = s.flash := rfl
@[simp] theorem State.wr_kennel : (s.wr f v).kennel = s.kennel := rfl
@[simp] theorem State.wr_collar : (s.wr f v).collar = s.collar := rfl
@[simp] theorem State.wr_reader : (s.wr f v).reader = s.reader := rfl
@[simp] theorem State.wr_panel : (s.wr f v).panel = s.panel := rfl
@[simp] theorem State.wr_sd : (s.wr f v).sd = s.sd := rfl
@[simp] theorem State.wr_chip : (s.wr f v).chip = s.chip := rfl
@[simp] theorem State.wr_telemetry : (s.wr f v).telemetry = s.telemetry := rfl
@[simp] theorem State.wr_smilia : (s.wr f v).smilia = s.smilia := rfl
@[simp] theorem State.wr_dict : (s.wr f v).dict = s.dict := rfl
@[simp] theorem State.wr_domains : (s.wr f v).domains = s.domains := rfl
@[simp] theorem State.wr_core (r : PairId) : (s.wr f v).core r = s.core r := rfl
end

section
variable (f : Field) (b : Bool)
@[simp] theorem State.flag_pending : (s.flag f b).pending = s.pending := rfl
@[simp] theorem State.flag_now : (s.flag f b).now = s.now := rfl
@[simp] theorem State.flag_rtc : (s.flag f b).rtc = s.rtc := rfl
@[simp] theorem State.flag_draws : (s.flag f b).draws = s.draws := rfl
@[simp] theorem State.flag_out : (s.flag f b).out = s.out := rfl
@[simp] theorem State.flag_svc : (s.flag f b).svc = s.svc := rfl
@[simp] theorem State.flag_heelRetains : (s.flag f b).heelRetains = s.heelRetains := rfl
@[simp] theorem State.flag_regs : (s.flag f b).regs = tput s.regs f.key (b2n b % 2 ^ f.width) := rfl
@[simp] theorem State.flag_latch : (s.flag f b).latch = s.latch := rfl
@[simp] theorem State.flag_collector : (s.flag f b).collector = s.collector := rfl
@[simp] theorem State.flag_trail : (s.flag f b).trail = s.trail := rfl
@[simp] theorem State.flag_mem : (s.flag f b).mem = s.mem := rfl
@[simp] theorem State.flag_guards : (s.flag f b).guards = s.guards := rfl
@[simp] theorem State.flag_queue : (s.flag f b).queue = s.queue := rfl
@[simp] theorem State.flag_stitch : (s.flag f b).stitch = s.stitch := rfl
@[simp] theorem State.flag_staging : (s.flag f b).staging = s.staging := rfl
@[simp] theorem State.flag_shepherd : (s.flag f b).shepherd = s.shepherd := rfl
@[simp] theorem State.flag_pack : (s.flag f b).pack = s.pack := rfl
@[simp] theorem State.flag_south : (s.flag f b).south = s.south := rfl
@[simp] theorem State.flag_keys : (s.flag f b).keys = s.keys := rfl
@[simp] theorem State.flag_awl : (s.flag f b).awl = s.awl := rfl
@[simp] theorem State.flag_cores : (s.flag f b).cores = s.cores := rfl
@[simp] theorem State.flag_flash : (s.flag f b).flash = s.flash := rfl
@[simp] theorem State.flag_kennel : (s.flag f b).kennel = s.kennel := rfl
@[simp] theorem State.flag_collar : (s.flag f b).collar = s.collar := rfl
@[simp] theorem State.flag_reader : (s.flag f b).reader = s.reader := rfl
@[simp] theorem State.flag_panel : (s.flag f b).panel = s.panel := rfl
@[simp] theorem State.flag_sd : (s.flag f b).sd = s.sd := rfl
@[simp] theorem State.flag_chip : (s.flag f b).chip = s.chip := rfl
@[simp] theorem State.flag_telemetry : (s.flag f b).telemetry = s.telemetry := rfl
@[simp] theorem State.flag_smilia : (s.flag f b).smilia = s.smilia := rfl
@[simp] theorem State.flag_dict : (s.flag f b).dict = s.dict := rfl
@[simp] theorem State.flag_domains : (s.flag f b).domains = s.domains := rfl
@[simp] theorem State.flag_core (r : PairId) : (s.flag f b).core r = s.core r := rfl
end

section
variable (f : Field) (n : Nat)
@[simp] theorem State.bump_pending : (s.bump f n).pending = s.pending := rfl
@[simp] theorem State.bump_now : (s.bump f n).now = s.now := rfl
@[simp] theorem State.bump_rtc : (s.bump f n).rtc = s.rtc := rfl
@[simp] theorem State.bump_draws : (s.bump f n).draws = s.draws := rfl
@[simp] theorem State.bump_out : (s.bump f n).out = s.out := rfl
@[simp] theorem State.bump_svc : (s.bump f n).svc = s.svc := rfl
@[simp] theorem State.bump_heelRetains : (s.bump f n).heelRetains = s.heelRetains := rfl
@[simp] theorem State.bump_latch : (s.bump f n).latch = s.latch := rfl
@[simp] theorem State.bump_collector : (s.bump f n).collector = s.collector := rfl
@[simp] theorem State.bump_trail : (s.bump f n).trail = s.trail := rfl
@[simp] theorem State.bump_mem : (s.bump f n).mem = s.mem := rfl
@[simp] theorem State.bump_guards : (s.bump f n).guards = s.guards := rfl
@[simp] theorem State.bump_queue : (s.bump f n).queue = s.queue := rfl
@[simp] theorem State.bump_stitch : (s.bump f n).stitch = s.stitch := rfl
@[simp] theorem State.bump_staging : (s.bump f n).staging = s.staging := rfl
@[simp] theorem State.bump_shepherd : (s.bump f n).shepherd = s.shepherd := rfl
@[simp] theorem State.bump_pack : (s.bump f n).pack = s.pack := rfl
@[simp] theorem State.bump_south : (s.bump f n).south = s.south := rfl
@[simp] theorem State.bump_keys : (s.bump f n).keys = s.keys := rfl
@[simp] theorem State.bump_awl : (s.bump f n).awl = s.awl := rfl
@[simp] theorem State.bump_cores : (s.bump f n).cores = s.cores := rfl
@[simp] theorem State.bump_flash : (s.bump f n).flash = s.flash := rfl
@[simp] theorem State.bump_kennel : (s.bump f n).kennel = s.kennel := rfl
@[simp] theorem State.bump_collar : (s.bump f n).collar = s.collar := rfl
@[simp] theorem State.bump_reader : (s.bump f n).reader = s.reader := rfl
@[simp] theorem State.bump_panel : (s.bump f n).panel = s.panel := rfl
@[simp] theorem State.bump_sd : (s.bump f n).sd = s.sd := rfl
@[simp] theorem State.bump_chip : (s.bump f n).chip = s.chip := rfl
@[simp] theorem State.bump_telemetry : (s.bump f n).telemetry = s.telemetry := rfl
@[simp] theorem State.bump_smilia : (s.bump f n).smilia = s.smilia := rfl
@[simp] theorem State.bump_dict : (s.bump f n).dict = s.dict := rfl
@[simp] theorem State.bump_domains : (s.bump f n).domains = s.domains := rfl
@[simp] theorem State.bump_core (r : PairId) : (s.bump f n).core r = s.core r := rfl
end

section
variable (f : Field) (n : Nat)
@[simp] theorem State.addTo_pending : (s.addTo f n).pending = s.pending := rfl
@[simp] theorem State.addTo_now : (s.addTo f n).now = s.now := rfl
@[simp] theorem State.addTo_rtc : (s.addTo f n).rtc = s.rtc := rfl
@[simp] theorem State.addTo_draws : (s.addTo f n).draws = s.draws := rfl
@[simp] theorem State.addTo_out : (s.addTo f n).out = s.out := rfl
@[simp] theorem State.addTo_svc : (s.addTo f n).svc = s.svc := rfl
@[simp] theorem State.addTo_heelRetains : (s.addTo f n).heelRetains = s.heelRetains := rfl
@[simp] theorem State.addTo_latch : (s.addTo f n).latch = s.latch := rfl
@[simp] theorem State.addTo_collector : (s.addTo f n).collector = s.collector := rfl
@[simp] theorem State.addTo_trail : (s.addTo f n).trail = s.trail := rfl
@[simp] theorem State.addTo_mem : (s.addTo f n).mem = s.mem := rfl
@[simp] theorem State.addTo_guards : (s.addTo f n).guards = s.guards := rfl
@[simp] theorem State.addTo_queue : (s.addTo f n).queue = s.queue := rfl
@[simp] theorem State.addTo_stitch : (s.addTo f n).stitch = s.stitch := rfl
@[simp] theorem State.addTo_staging : (s.addTo f n).staging = s.staging := rfl
@[simp] theorem State.addTo_shepherd : (s.addTo f n).shepherd = s.shepherd := rfl
@[simp] theorem State.addTo_pack : (s.addTo f n).pack = s.pack := rfl
@[simp] theorem State.addTo_south : (s.addTo f n).south = s.south := rfl
@[simp] theorem State.addTo_keys : (s.addTo f n).keys = s.keys := rfl
@[simp] theorem State.addTo_awl : (s.addTo f n).awl = s.awl := rfl
@[simp] theorem State.addTo_cores : (s.addTo f n).cores = s.cores := rfl
@[simp] theorem State.addTo_flash : (s.addTo f n).flash = s.flash := rfl
@[simp] theorem State.addTo_kennel : (s.addTo f n).kennel = s.kennel := rfl
@[simp] theorem State.addTo_collar : (s.addTo f n).collar = s.collar := rfl
@[simp] theorem State.addTo_reader : (s.addTo f n).reader = s.reader := rfl
@[simp] theorem State.addTo_panel : (s.addTo f n).panel = s.panel := rfl
@[simp] theorem State.addTo_sd : (s.addTo f n).sd = s.sd := rfl
@[simp] theorem State.addTo_chip : (s.addTo f n).chip = s.chip := rfl
@[simp] theorem State.addTo_telemetry : (s.addTo f n).telemetry = s.telemetry := rfl
@[simp] theorem State.addTo_smilia : (s.addTo f n).smilia = s.smilia := rfl
@[simp] theorem State.addTo_dict : (s.addTo f n).dict = s.dict := rfl
@[simp] theorem State.addTo_domains : (s.addTo f n).domains = s.domains := rfl
@[simp] theorem State.addTo_core (r : PairId) : (s.addTo f n).core r = s.core r := rfl
end

section
variable (f : Field) (i : Nat) (b : Bool)
@[simp] theorem State.setBit_pending : (s.setBit f i b).pending = s.pending := rfl
@[simp] theorem State.setBit_now : (s.setBit f i b).now = s.now := rfl
@[simp] theorem State.setBit_rtc : (s.setBit f i b).rtc = s.rtc := rfl
@[simp] theorem State.setBit_draws : (s.setBit f i b).draws = s.draws := rfl
@[simp] theorem State.setBit_out : (s.setBit f i b).out = s.out := rfl
@[simp] theorem State.setBit_svc : (s.setBit f i b).svc = s.svc := rfl
@[simp] theorem State.setBit_heelRetains : (s.setBit f i b).heelRetains = s.heelRetains := rfl
@[simp] theorem State.setBit_latch : (s.setBit f i b).latch = s.latch := rfl
@[simp] theorem State.setBit_collector : (s.setBit f i b).collector = s.collector := rfl
@[simp] theorem State.setBit_trail : (s.setBit f i b).trail = s.trail := rfl
@[simp] theorem State.setBit_mem : (s.setBit f i b).mem = s.mem := rfl
@[simp] theorem State.setBit_guards : (s.setBit f i b).guards = s.guards := rfl
@[simp] theorem State.setBit_queue : (s.setBit f i b).queue = s.queue := rfl
@[simp] theorem State.setBit_stitch : (s.setBit f i b).stitch = s.stitch := rfl
@[simp] theorem State.setBit_staging : (s.setBit f i b).staging = s.staging := rfl
@[simp] theorem State.setBit_shepherd : (s.setBit f i b).shepherd = s.shepherd := rfl
@[simp] theorem State.setBit_pack : (s.setBit f i b).pack = s.pack := rfl
@[simp] theorem State.setBit_south : (s.setBit f i b).south = s.south := rfl
@[simp] theorem State.setBit_keys : (s.setBit f i b).keys = s.keys := rfl
@[simp] theorem State.setBit_awl : (s.setBit f i b).awl = s.awl := rfl
@[simp] theorem State.setBit_cores : (s.setBit f i b).cores = s.cores := rfl
@[simp] theorem State.setBit_flash : (s.setBit f i b).flash = s.flash := rfl
@[simp] theorem State.setBit_kennel : (s.setBit f i b).kennel = s.kennel := rfl
@[simp] theorem State.setBit_collar : (s.setBit f i b).collar = s.collar := rfl
@[simp] theorem State.setBit_reader : (s.setBit f i b).reader = s.reader := rfl
@[simp] theorem State.setBit_panel : (s.setBit f i b).panel = s.panel := rfl
@[simp] theorem State.setBit_sd : (s.setBit f i b).sd = s.sd := rfl
@[simp] theorem State.setBit_chip : (s.setBit f i b).chip = s.chip := rfl
@[simp] theorem State.setBit_telemetry : (s.setBit f i b).telemetry = s.telemetry := rfl
@[simp] theorem State.setBit_smilia : (s.setBit f i b).smilia = s.smilia := rfl
@[simp] theorem State.setBit_dict : (s.setBit f i b).dict = s.dict := rfl
@[simp] theorem State.setBit_domains : (s.setBit f i b).domains = s.domains := rfl
@[simp] theorem State.setBit_core (r : PairId) : (s.setBit f i b).core r = s.core r := rfl
end

section
variable (n : Nat)
@[simp] theorem State.interrupt_pending : (s.interrupt n).pending = s.pending := rfl
@[simp] theorem State.interrupt_now : (s.interrupt n).now = s.now := rfl
@[simp] theorem State.interrupt_rtc : (s.interrupt n).rtc = s.rtc := rfl
@[simp] theorem State.interrupt_draws : (s.interrupt n).draws = s.draws := rfl
@[simp] theorem State.interrupt_out : (s.interrupt n).out = s.out := rfl
@[simp] theorem State.interrupt_svc : (s.interrupt n).svc = s.svc := rfl
@[simp] theorem State.interrupt_heelRetains : (s.interrupt n).heelRetains = s.heelRetains := rfl
@[simp] theorem State.interrupt_latch : (s.interrupt n).latch = s.latch := rfl
@[simp] theorem State.interrupt_collector : (s.interrupt n).collector = s.collector := rfl
@[simp] theorem State.interrupt_trail : (s.interrupt n).trail = s.trail := rfl
@[simp] theorem State.interrupt_mem : (s.interrupt n).mem = s.mem := rfl
@[simp] theorem State.interrupt_guards : (s.interrupt n).guards = s.guards := rfl
@[simp] theorem State.interrupt_queue : (s.interrupt n).queue = s.queue := rfl
@[simp] theorem State.interrupt_stitch : (s.interrupt n).stitch = s.stitch := rfl
@[simp] theorem State.interrupt_staging : (s.interrupt n).staging = s.staging := rfl
@[simp] theorem State.interrupt_shepherd : (s.interrupt n).shepherd = s.shepherd := rfl
@[simp] theorem State.interrupt_pack : (s.interrupt n).pack = s.pack := rfl
@[simp] theorem State.interrupt_south : (s.interrupt n).south = s.south := rfl
@[simp] theorem State.interrupt_keys : (s.interrupt n).keys = s.keys := rfl
@[simp] theorem State.interrupt_awl : (s.interrupt n).awl = s.awl := rfl
@[simp] theorem State.interrupt_cores : (s.interrupt n).cores = s.cores := rfl
@[simp] theorem State.interrupt_flash : (s.interrupt n).flash = s.flash := rfl
@[simp] theorem State.interrupt_kennel : (s.interrupt n).kennel = s.kennel := rfl
@[simp] theorem State.interrupt_collar : (s.interrupt n).collar = s.collar := rfl
@[simp] theorem State.interrupt_reader : (s.interrupt n).reader = s.reader := rfl
@[simp] theorem State.interrupt_panel : (s.interrupt n).panel = s.panel := rfl
@[simp] theorem State.interrupt_sd : (s.interrupt n).sd = s.sd := rfl
@[simp] theorem State.interrupt_chip : (s.interrupt n).chip = s.chip := rfl
@[simp] theorem State.interrupt_telemetry : (s.interrupt n).telemetry = s.telemetry := rfl
@[simp] theorem State.interrupt_smilia : (s.interrupt n).smilia = s.smilia := rfl
@[simp] theorem State.interrupt_dict : (s.interrupt n).dict = s.dict := rfl
@[simp] theorem State.interrupt_domains : (s.interrupt n).domains = s.domains := rfl
@[simp] theorem State.interrupt_core (r : PairId) : (s.interrupt n).core r = s.core r := rfl
end

section
variable (w : Nat)
@[simp] theorem State.draw_pending : (s.draw w).2.pending = s.pending := rfl
@[simp] theorem State.draw_now : (s.draw w).2.now = s.now := rfl
@[simp] theorem State.draw_rtc : (s.draw w).2.rtc = s.rtc := rfl
@[simp] theorem State.draw_draws : (s.draw w).2.draws = s.draws + 1 := rfl
@[simp] theorem State.draw_out : (s.draw w).2.out = s.out := rfl
@[simp] theorem State.draw_svc : (s.draw w).2.svc = s.svc := rfl
@[simp] theorem State.draw_heelRetains : (s.draw w).2.heelRetains = s.heelRetains := rfl
@[simp] theorem State.draw_regs : (s.draw w).2.regs = s.regs := rfl
@[simp] theorem State.draw_latch : (s.draw w).2.latch = s.latch := rfl
@[simp] theorem State.draw_collector : (s.draw w).2.collector = s.collector := rfl
@[simp] theorem State.draw_trail : (s.draw w).2.trail = s.trail := rfl
@[simp] theorem State.draw_mem : (s.draw w).2.mem = s.mem := rfl
@[simp] theorem State.draw_guards : (s.draw w).2.guards = s.guards := rfl
@[simp] theorem State.draw_queue : (s.draw w).2.queue = s.queue := rfl
@[simp] theorem State.draw_stitch : (s.draw w).2.stitch = s.stitch := rfl
@[simp] theorem State.draw_staging : (s.draw w).2.staging = s.staging := rfl
@[simp] theorem State.draw_shepherd : (s.draw w).2.shepherd = s.shepherd := rfl
@[simp] theorem State.draw_pack : (s.draw w).2.pack = s.pack := rfl
@[simp] theorem State.draw_south : (s.draw w).2.south = s.south := rfl
@[simp] theorem State.draw_keys : (s.draw w).2.keys = s.keys := rfl
@[simp] theorem State.draw_awl : (s.draw w).2.awl = s.awl := rfl
@[simp] theorem State.draw_cores : (s.draw w).2.cores = s.cores := rfl
@[simp] theorem State.draw_flash : (s.draw w).2.flash = s.flash := rfl
@[simp] theorem State.draw_kennel : (s.draw w).2.kennel = s.kennel := rfl
@[simp] theorem State.draw_collar : (s.draw w).2.collar = s.collar := rfl
@[simp] theorem State.draw_reader : (s.draw w).2.reader = s.reader := rfl
@[simp] theorem State.draw_panel : (s.draw w).2.panel = s.panel := rfl
@[simp] theorem State.draw_sd : (s.draw w).2.sd = s.sd := rfl
@[simp] theorem State.draw_chip : (s.draw w).2.chip = s.chip := rfl
@[simp] theorem State.draw_telemetry : (s.draw w).2.telemetry = s.telemetry := rfl
@[simp] theorem State.draw_smilia : (s.draw w).2.smilia = s.smilia := rfl
@[simp] theorem State.draw_dict : (s.draw w).2.dict = s.dict := rfl
@[simp] theorem State.draw_domains : (s.draw w).2.domains = s.domains := rfl
@[simp] theorem State.draw_rd (g : Field) : (s.draw w).2.rd g = s.rd g := rfl
@[simp] theorem State.draw_core (r : PairId) : (s.draw w).2.core r = s.core r := rfl
end

section
variable (o : Output)
@[simp] theorem State.send_pending : (s.send o).pending = s.pending := rfl
@[simp] theorem State.send_now : (s.send o).now = s.now := rfl
@[simp] theorem State.send_rtc : (s.send o).rtc = s.rtc := rfl
@[simp] theorem State.send_draws : (s.send o).draws = s.draws := rfl
@[simp] theorem State.send_out : (s.send o).out = o :: s.out := rfl
@[simp] theorem State.send_svc : (s.send o).svc = s.svc := rfl
@[simp] theorem State.send_heelRetains : (s.send o).heelRetains = s.heelRetains := rfl
@[simp] theorem State.send_regs : (s.send o).regs = s.regs := rfl
@[simp] theorem State.send_latch : (s.send o).latch = s.latch := rfl
@[simp] theorem State.send_collector : (s.send o).collector = s.collector := rfl
@[simp] theorem State.send_trail : (s.send o).trail = s.trail := rfl
@[simp] theorem State.send_mem : (s.send o).mem = s.mem := rfl
@[simp] theorem State.send_guards : (s.send o).guards = s.guards := rfl
@[simp] theorem State.send_queue : (s.send o).queue = s.queue := rfl
@[simp] theorem State.send_stitch : (s.send o).stitch = s.stitch := rfl
@[simp] theorem State.send_staging : (s.send o).staging = s.staging := rfl
@[simp] theorem State.send_shepherd : (s.send o).shepherd = s.shepherd := rfl
@[simp] theorem State.send_pack : (s.send o).pack = s.pack := rfl
@[simp] theorem State.send_south : (s.send o).south = s.south := rfl
@[simp] theorem State.send_keys : (s.send o).keys = s.keys := rfl
@[simp] theorem State.send_awl : (s.send o).awl = s.awl := rfl
@[simp] theorem State.send_cores : (s.send o).cores = s.cores := rfl
@[simp] theorem State.send_flash : (s.send o).flash = s.flash := rfl
@[simp] theorem State.send_kennel : (s.send o).kennel = s.kennel := rfl
@[simp] theorem State.send_collar : (s.send o).collar = s.collar := rfl
@[simp] theorem State.send_reader : (s.send o).reader = s.reader := rfl
@[simp] theorem State.send_panel : (s.send o).panel = s.panel := rfl
@[simp] theorem State.send_sd : (s.send o).sd = s.sd := rfl
@[simp] theorem State.send_chip : (s.send o).chip = s.chip := rfl
@[simp] theorem State.send_telemetry : (s.send o).telemetry = s.telemetry := rfl
@[simp] theorem State.send_smilia : (s.send o).smilia = s.smilia := rfl
@[simp] theorem State.send_dict : (s.send o).dict = s.dict := rfl
@[simp] theorem State.send_domains : (s.send o).domains = s.domains := rfl
@[simp] theorem State.send_rd (g : Field) : (s.send o).rd g = s.rd g := rfl
@[simp] theorem State.send_core (r : PairId) : (s.send o).core r = s.core r := rfl
end

section
variable (d : Dest) (k : Nat) (l : List Nat) (b : List Byte)
@[simp] theorem State.emit_pending : (s.emit d k l b).pending = s.pending := rfl
@[simp] theorem State.emit_now : (s.emit d k l b).now = s.now := rfl
@[simp] theorem State.emit_rtc : (s.emit d k l b).rtc = s.rtc := rfl
@[simp] theorem State.emit_draws : (s.emit d k l b).draws = s.draws := rfl
@[simp] theorem State.emit_out : (s.emit d k l b).out = { dest := d, typ := k, fields := l, bytes := b } :: s.out := rfl
@[simp] theorem State.emit_svc : (s.emit d k l b).svc = s.svc := rfl
@[simp] theorem State.emit_heelRetains : (s.emit d k l b).heelRetains = s.heelRetains := rfl
@[simp] theorem State.emit_regs : (s.emit d k l b).regs = s.regs := rfl
@[simp] theorem State.emit_latch : (s.emit d k l b).latch = s.latch := rfl
@[simp] theorem State.emit_collector : (s.emit d k l b).collector = s.collector := rfl
@[simp] theorem State.emit_trail : (s.emit d k l b).trail = s.trail := rfl
@[simp] theorem State.emit_mem : (s.emit d k l b).mem = s.mem := rfl
@[simp] theorem State.emit_guards : (s.emit d k l b).guards = s.guards := rfl
@[simp] theorem State.emit_queue : (s.emit d k l b).queue = s.queue := rfl
@[simp] theorem State.emit_stitch : (s.emit d k l b).stitch = s.stitch := rfl
@[simp] theorem State.emit_staging : (s.emit d k l b).staging = s.staging := rfl
@[simp] theorem State.emit_shepherd : (s.emit d k l b).shepherd = s.shepherd := rfl
@[simp] theorem State.emit_pack : (s.emit d k l b).pack = s.pack := rfl
@[simp] theorem State.emit_south : (s.emit d k l b).south = s.south := rfl
@[simp] theorem State.emit_keys : (s.emit d k l b).keys = s.keys := rfl
@[simp] theorem State.emit_awl : (s.emit d k l b).awl = s.awl := rfl
@[simp] theorem State.emit_cores : (s.emit d k l b).cores = s.cores := rfl
@[simp] theorem State.emit_flash : (s.emit d k l b).flash = s.flash := rfl
@[simp] theorem State.emit_kennel : (s.emit d k l b).kennel = s.kennel := rfl
@[simp] theorem State.emit_collar : (s.emit d k l b).collar = s.collar := rfl
@[simp] theorem State.emit_reader : (s.emit d k l b).reader = s.reader := rfl
@[simp] theorem State.emit_panel : (s.emit d k l b).panel = s.panel := rfl
@[simp] theorem State.emit_sd : (s.emit d k l b).sd = s.sd := rfl
@[simp] theorem State.emit_chip : (s.emit d k l b).chip = s.chip := rfl
@[simp] theorem State.emit_telemetry : (s.emit d k l b).telemetry = s.telemetry := rfl
@[simp] theorem State.emit_smilia : (s.emit d k l b).smilia = s.smilia := rfl
@[simp] theorem State.emit_dict : (s.emit d k l b).dict = s.dict := rfl
@[simp] theorem State.emit_domains : (s.emit d k l b).domains = s.domains := rfl
@[simp] theorem State.emit_rd (g : Field) : (s.emit d k l b).rd g = s.rd g := rfl
@[simp] theorem State.emit_core (r : PairId) : (s.emit d k l b).core r = s.core r := rfl
end

section
variable (v : ServiceState) (k : Bool)
@[simp] theorem State.enterService_pending : (s.enterService v k).pending = s.pending := rfl
@[simp] theorem State.enterService_now : (s.enterService v k).now = s.now := rfl
@[simp] theorem State.enterService_rtc : (s.enterService v k).rtc = s.rtc := rfl
@[simp] theorem State.enterService_draws : (s.enterService v k).draws = s.draws := rfl
@[simp] theorem State.enterService_out : (s.enterService v k).out = s.out := rfl
@[simp] theorem State.enterService_svc : (s.enterService v k).svc = v := rfl
@[simp] theorem State.enterService_heelRetains : (s.enterService v k).heelRetains = k := rfl
@[simp] theorem State.enterService_regs : (s.enterService v k).regs = s.regs := rfl
@[simp] theorem State.enterService_latch : (s.enterService v k).latch = s.latch := rfl
@[simp] theorem State.enterService_collector : (s.enterService v k).collector = s.collector := rfl
@[simp] theorem State.enterService_trail : (s.enterService v k).trail = s.trail := rfl
@[simp] theorem State.enterService_mem : (s.enterService v k).mem = s.mem := rfl
@[simp] theorem State.enterService_guards : (s.enterService v k).guards = s.guards := rfl
@[simp] theorem State.enterService_queue : (s.enterService v k).queue = s.queue := rfl
@[simp] theorem State.enterService_stitch : (s.enterService v k).stitch = s.stitch := rfl
@[simp] theorem State.enterService_staging : (s.enterService v k).staging = s.staging := rfl
@[simp] theorem State.enterService_shepherd : (s.enterService v k).shepherd = s.shepherd := rfl
@[simp] theorem State.enterService_pack : (s.enterService v k).pack = s.pack := rfl
@[simp] theorem State.enterService_south : (s.enterService v k).south = s.south := rfl
@[simp] theorem State.enterService_keys : (s.enterService v k).keys = s.keys := rfl
@[simp] theorem State.enterService_awl : (s.enterService v k).awl = s.awl := rfl
@[simp] theorem State.enterService_cores : (s.enterService v k).cores = s.cores := rfl
@[simp] theorem State.enterService_flash : (s.enterService v k).flash = s.flash := rfl
@[simp] theorem State.enterService_kennel : (s.enterService v k).kennel = s.kennel := rfl
@[simp] theorem State.enterService_collar : (s.enterService v k).collar = s.collar := rfl
@[simp] theorem State.enterService_reader : (s.enterService v k).reader = s.reader := rfl
@[simp] theorem State.enterService_panel : (s.enterService v k).panel = s.panel := rfl
@[simp] theorem State.enterService_sd : (s.enterService v k).sd = s.sd := rfl
@[simp] theorem State.enterService_chip : (s.enterService v k).chip = s.chip := rfl
@[simp] theorem State.enterService_telemetry : (s.enterService v k).telemetry = s.telemetry := rfl
@[simp] theorem State.enterService_smilia : (s.enterService v k).smilia = s.smilia := rfl
@[simp] theorem State.enterService_dict : (s.enterService v k).dict = s.dict := rfl
@[simp] theorem State.enterService_domains : (s.enterService v k).domains = s.domains := rfl
@[simp] theorem State.enterService_rd (g : Field) : (s.enterService v k).rd g = s.rd g := rfl
@[simp] theorem State.enterService_core (r : PairId) : (s.enterService v k).core r = s.core r := rfl
end

section
variable (t : Nat)
@[simp] theorem State.setRtc_pending : (s.setRtc t).pending = s.pending := rfl
@[simp] theorem State.setRtc_now : (s.setRtc t).now = s.now := rfl
@[simp] theorem State.setRtc_rtc : (s.setRtc t).rtc = t := rfl
@[simp] theorem State.setRtc_draws : (s.setRtc t).draws = s.draws := rfl
@[simp] theorem State.setRtc_out : (s.setRtc t).out = s.out := rfl
@[simp] theorem State.setRtc_svc : (s.setRtc t).svc = s.svc := rfl
@[simp] theorem State.setRtc_heelRetains : (s.setRtc t).heelRetains = s.heelRetains := rfl
@[simp] theorem State.setRtc_regs : (s.setRtc t).regs = s.regs := rfl
@[simp] theorem State.setRtc_latch : (s.setRtc t).latch = s.latch := rfl
@[simp] theorem State.setRtc_collector : (s.setRtc t).collector = s.collector := rfl
@[simp] theorem State.setRtc_trail : (s.setRtc t).trail = s.trail := rfl
@[simp] theorem State.setRtc_mem : (s.setRtc t).mem = s.mem := rfl
@[simp] theorem State.setRtc_guards : (s.setRtc t).guards = s.guards := rfl
@[simp] theorem State.setRtc_queue : (s.setRtc t).queue = s.queue := rfl
@[simp] theorem State.setRtc_stitch : (s.setRtc t).stitch = s.stitch := rfl
@[simp] theorem State.setRtc_staging : (s.setRtc t).staging = s.staging := rfl
@[simp] theorem State.setRtc_shepherd : (s.setRtc t).shepherd = s.shepherd := rfl
@[simp] theorem State.setRtc_pack : (s.setRtc t).pack = s.pack := rfl
@[simp] theorem State.setRtc_south : (s.setRtc t).south = s.south := rfl
@[simp] theorem State.setRtc_keys : (s.setRtc t).keys = s.keys := rfl
@[simp] theorem State.setRtc_awl : (s.setRtc t).awl = s.awl := rfl
@[simp] theorem State.setRtc_cores : (s.setRtc t).cores = s.cores := rfl
@[simp] theorem State.setRtc_flash : (s.setRtc t).flash = s.flash := rfl
@[simp] theorem State.setRtc_kennel : (s.setRtc t).kennel = s.kennel := rfl
@[simp] theorem State.setRtc_collar : (s.setRtc t).collar = s.collar := rfl
@[simp] theorem State.setRtc_reader : (s.setRtc t).reader = s.reader := rfl
@[simp] theorem State.setRtc_panel : (s.setRtc t).panel = s.panel := rfl
@[simp] theorem State.setRtc_sd : (s.setRtc t).sd = s.sd := rfl
@[simp] theorem State.setRtc_chip : (s.setRtc t).chip = s.chip := rfl
@[simp] theorem State.setRtc_telemetry : (s.setRtc t).telemetry = s.telemetry := rfl
@[simp] theorem State.setRtc_smilia : (s.setRtc t).smilia = s.smilia := rfl
@[simp] theorem State.setRtc_dict : (s.setRtc t).dict = s.dict := rfl
@[simp] theorem State.setRtc_domains : (s.setRtc t).domains = s.domains := rfl
@[simp] theorem State.setRtc_rd (g : Field) : (s.setRtc t).rd g = s.rd g := rfl
@[simp] theorem State.setRtc_core (r : PairId) : (s.setRtc t).core r = s.core r := rfl
end

section
variable (k v : Nat)
@[simp] theorem State.setLatch_pending : (s.setLatch k v).pending = s.pending := rfl
@[simp] theorem State.setLatch_now : (s.setLatch k v).now = s.now := rfl
@[simp] theorem State.setLatch_rtc : (s.setLatch k v).rtc = s.rtc := rfl
@[simp] theorem State.setLatch_draws : (s.setLatch k v).draws = s.draws := rfl
@[simp] theorem State.setLatch_out : (s.setLatch k v).out = s.out := rfl
@[simp] theorem State.setLatch_svc : (s.setLatch k v).svc = s.svc := rfl
@[simp] theorem State.setLatch_heelRetains : (s.setLatch k v).heelRetains = s.heelRetains := rfl
@[simp] theorem State.setLatch_regs : (s.setLatch k v).regs = s.regs := rfl
@[simp] theorem State.setLatch_latch : (s.setLatch k v).latch = tput s.latch k v := rfl
@[simp] theorem State.setLatch_collector : (s.setLatch k v).collector = s.collector := rfl
@[simp] theorem State.setLatch_trail : (s.setLatch k v).trail = s.trail := rfl
@[simp] theorem State.setLatch_mem : (s.setLatch k v).mem = s.mem := rfl
@[simp] theorem State.setLatch_guards : (s.setLatch k v).guards = s.guards := rfl
@[simp] theorem State.setLatch_queue : (s.setLatch k v).queue = s.queue := rfl
@[simp] theorem State.setLatch_stitch : (s.setLatch k v).stitch = s.stitch := rfl
@[simp] theorem State.setLatch_staging : (s.setLatch k v).staging = s.staging := rfl
@[simp] theorem State.setLatch_shepherd : (s.setLatch k v).shepherd = s.shepherd := rfl
@[simp] theorem State.setLatch_pack : (s.setLatch k v).pack = s.pack := rfl
@[simp] theorem State.setLatch_south : (s.setLatch k v).south = s.south := rfl
@[simp] theorem State.setLatch_keys : (s.setLatch k v).keys = s.keys := rfl
@[simp] theorem State.setLatch_awl : (s.setLatch k v).awl = s.awl := rfl
@[simp] theorem State.setLatch_cores : (s.setLatch k v).cores = s.cores := rfl
@[simp] theorem State.setLatch_flash : (s.setLatch k v).flash = s.flash := rfl
@[simp] theorem State.setLatch_kennel : (s.setLatch k v).kennel = s.kennel := rfl
@[simp] theorem State.setLatch_collar : (s.setLatch k v).collar = s.collar := rfl
@[simp] theorem State.setLatch_reader : (s.setLatch k v).reader = s.reader := rfl
@[simp] theorem State.setLatch_panel : (s.setLatch k v).panel = s.panel := rfl
@[simp] theorem State.setLatch_sd : (s.setLatch k v).sd = s.sd := rfl
@[simp] theorem State.setLatch_chip : (s.setLatch k v).chip = s.chip := rfl
@[simp] theorem State.setLatch_telemetry : (s.setLatch k v).telemetry = s.telemetry := rfl
@[simp] theorem State.setLatch_smilia : (s.setLatch k v).smilia = s.smilia := rfl
@[simp] theorem State.setLatch_dict : (s.setLatch k v).dict = s.dict := rfl
@[simp] theorem State.setLatch_domains : (s.setLatch k v).domains = s.domains := rfl
@[simp] theorem State.setLatch_rd (g : Field) : (s.setLatch k v).rd g = s.rd g := rfl
@[simp] theorem State.setLatch_core (r : PairId) : (s.setLatch k v).core r = s.core r := rfl
end

section
variable (d : Nat)
@[simp] theorem State.advance_pending : (s.advance d).pending = s.pending := rfl
@[simp] theorem State.advance_now : (s.advance d).now = s.now + d := rfl
@[simp] theorem State.advance_draws : (s.advance d).draws = s.draws := rfl
@[simp] theorem State.advance_out : (s.advance d).out = s.out := rfl
@[simp] theorem State.advance_svc : (s.advance d).svc = s.svc := rfl
@[simp] theorem State.advance_heelRetains : (s.advance d).heelRetains = s.heelRetains := rfl
@[simp] theorem State.advance_regs : (s.advance d).regs = s.regs := rfl
@[simp] theorem State.advance_latch : (s.advance d).latch = s.latch := rfl
@[simp] theorem State.advance_collector : (s.advance d).collector = s.collector := rfl
@[simp] theorem State.advance_trail : (s.advance d).trail = s.trail := rfl
@[simp] theorem State.advance_mem : (s.advance d).mem = s.mem := rfl
@[simp] theorem State.advance_guards : (s.advance d).guards = s.guards := rfl
@[simp] theorem State.advance_queue : (s.advance d).queue = s.queue := rfl
@[simp] theorem State.advance_stitch : (s.advance d).stitch = s.stitch := rfl
@[simp] theorem State.advance_staging : (s.advance d).staging = s.staging := rfl
@[simp] theorem State.advance_shepherd : (s.advance d).shepherd = s.shepherd := rfl
@[simp] theorem State.advance_pack : (s.advance d).pack = s.pack := rfl
@[simp] theorem State.advance_south : (s.advance d).south = s.south := rfl
@[simp] theorem State.advance_keys : (s.advance d).keys = s.keys := rfl
@[simp] theorem State.advance_awl : (s.advance d).awl = s.awl := rfl
@[simp] theorem State.advance_cores : (s.advance d).cores = s.cores := rfl
@[simp] theorem State.advance_flash : (s.advance d).flash = s.flash := rfl
@[simp] theorem State.advance_collar : (s.advance d).collar = s.collar := rfl
@[simp] theorem State.advance_reader : (s.advance d).reader = s.reader := rfl
@[simp] theorem State.advance_panel : (s.advance d).panel = s.panel := rfl
@[simp] theorem State.advance_sd : (s.advance d).sd = s.sd := rfl
@[simp] theorem State.advance_chip : (s.advance d).chip = s.chip := rfl
@[simp] theorem State.advance_telemetry : (s.advance d).telemetry = s.telemetry := rfl
@[simp] theorem State.advance_smilia : (s.advance d).smilia = s.smilia := rfl
@[simp] theorem State.advance_dict : (s.advance d).dict = s.dict := rfl
@[simp] theorem State.advance_domains : (s.advance d).domains = s.domains := rfl
@[simp] theorem State.advance_rd (g : Field) : (s.advance d).rd g = s.rd g := rfl
@[simp] theorem State.advance_core (r : PairId) : (s.advance d).core r = s.core r := rfl
end

section
variable (t : Nat)
@[simp] theorem State.advanceTo_pending : (s.advanceTo t).pending = s.pending := rfl
@[simp] theorem State.advanceTo_now : (s.advanceTo t).now = s.now + (t - s.now) := rfl
@[simp] theorem State.advanceTo_draws : (s.advanceTo t).draws = s.draws := rfl
@[simp] theorem State.advanceTo_out : (s.advanceTo t).out = s.out := rfl
@[simp] theorem State.advanceTo_svc : (s.advanceTo t).svc = s.svc := rfl
@[simp] theorem State.advanceTo_heelRetains : (s.advanceTo t).heelRetains = s.heelRetains := rfl
@[simp] theorem State.advanceTo_regs : (s.advanceTo t).regs = s.regs := rfl
@[simp] theorem State.advanceTo_latch : (s.advanceTo t).latch = s.latch := rfl
@[simp] theorem State.advanceTo_collector : (s.advanceTo t).collector = s.collector := rfl
@[simp] theorem State.advanceTo_trail : (s.advanceTo t).trail = s.trail := rfl
@[simp] theorem State.advanceTo_mem : (s.advanceTo t).mem = s.mem := rfl
@[simp] theorem State.advanceTo_guards : (s.advanceTo t).guards = s.guards := rfl
@[simp] theorem State.advanceTo_queue : (s.advanceTo t).queue = s.queue := rfl
@[simp] theorem State.advanceTo_stitch : (s.advanceTo t).stitch = s.stitch := rfl
@[simp] theorem State.advanceTo_staging : (s.advanceTo t).staging = s.staging := rfl
@[simp] theorem State.advanceTo_shepherd : (s.advanceTo t).shepherd = s.shepherd := rfl
@[simp] theorem State.advanceTo_pack : (s.advanceTo t).pack = s.pack := rfl
@[simp] theorem State.advanceTo_south : (s.advanceTo t).south = s.south := rfl
@[simp] theorem State.advanceTo_keys : (s.advanceTo t).keys = s.keys := rfl
@[simp] theorem State.advanceTo_awl : (s.advanceTo t).awl = s.awl := rfl
@[simp] theorem State.advanceTo_cores : (s.advanceTo t).cores = s.cores := rfl
@[simp] theorem State.advanceTo_flash : (s.advanceTo t).flash = s.flash := rfl
@[simp] theorem State.advanceTo_collar : (s.advanceTo t).collar = s.collar := rfl
@[simp] theorem State.advanceTo_reader : (s.advanceTo t).reader = s.reader := rfl
@[simp] theorem State.advanceTo_panel : (s.advanceTo t).panel = s.panel := rfl
@[simp] theorem State.advanceTo_sd : (s.advanceTo t).sd = s.sd := rfl
@[simp] theorem State.advanceTo_chip : (s.advanceTo t).chip = s.chip := rfl
@[simp] theorem State.advanceTo_telemetry : (s.advanceTo t).telemetry = s.telemetry := rfl
@[simp] theorem State.advanceTo_smilia : (s.advanceTo t).smilia = s.smilia := rfl
@[simp] theorem State.advanceTo_dict : (s.advanceTo t).dict = s.dict := rfl
@[simp] theorem State.advanceTo_domains : (s.advanceTo t).domains = s.domains := rfl
@[simp] theorem State.advanceTo_rd (g : Field) : (s.advanceTo t).rd g = s.rd g := rfl
@[simp] theorem State.advanceTo_core (r : PairId) : (s.advanceTo t).core r = s.core r := rfl
end

section
variable (i j v n : Nat)
@[simp] theorem State.setDict_pending : (s.setDict i j v n).pending = s.pending := rfl
@[simp] theorem State.setDict_now : (s.setDict i j v n).now = s.now := rfl
@[simp] theorem State.setDict_rtc : (s.setDict i j v n).rtc = s.rtc := rfl
@[simp] theorem State.setDict_draws : (s.setDict i j v n).draws = s.draws := rfl
@[simp] theorem State.setDict_out : (s.setDict i j v n).out = s.out := rfl
@[simp] theorem State.setDict_svc : (s.setDict i j v n).svc = s.svc := rfl
@[simp] theorem State.setDict_heelRetains : (s.setDict i j v n).heelRetains = s.heelRetains := rfl
@[simp] theorem State.setDict_regs : (s.setDict i j v n).regs = s.regs := rfl
@[simp] theorem State.setDict_latch : (s.setDict i j v n).latch = s.latch := rfl
@[simp] theorem State.setDict_collector : (s.setDict i j v n).collector = s.collector := rfl
@[simp] theorem State.setDict_trail : (s.setDict i j v n).trail = s.trail := rfl
@[simp] theorem State.setDict_mem : (s.setDict i j v n).mem = s.mem := rfl
@[simp] theorem State.setDict_guards : (s.setDict i j v n).guards = s.guards := rfl
@[simp] theorem State.setDict_queue : (s.setDict i j v n).queue = s.queue := rfl
@[simp] theorem State.setDict_stitch : (s.setDict i j v n).stitch = s.stitch := rfl
@[simp] theorem State.setDict_staging : (s.setDict i j v n).staging = s.staging := rfl
@[simp] theorem State.setDict_shepherd : (s.setDict i j v n).shepherd = s.shepherd := rfl
@[simp] theorem State.setDict_pack : (s.setDict i j v n).pack = s.pack := rfl
@[simp] theorem State.setDict_south : (s.setDict i j v n).south = s.south := rfl
@[simp] theorem State.setDict_keys : (s.setDict i j v n).keys = s.keys := rfl
@[simp] theorem State.setDict_awl : (s.setDict i j v n).awl = s.awl := rfl
@[simp] theorem State.setDict_cores : (s.setDict i j v n).cores = s.cores := rfl
@[simp] theorem State.setDict_flash : (s.setDict i j v n).flash = s.flash := rfl
@[simp] theorem State.setDict_kennel : (s.setDict i j v n).kennel = s.kennel := rfl
@[simp] theorem State.setDict_collar : (s.setDict i j v n).collar = s.collar := rfl
@[simp] theorem State.setDict_reader : (s.setDict i j v n).reader = s.reader := rfl
@[simp] theorem State.setDict_panel : (s.setDict i j v n).panel = s.panel := rfl
@[simp] theorem State.setDict_sd : (s.setDict i j v n).sd = s.sd := rfl
@[simp] theorem State.setDict_chip : (s.setDict i j v n).chip = s.chip := rfl
@[simp] theorem State.setDict_telemetry : (s.setDict i j v n).telemetry = s.telemetry := rfl
@[simp] theorem State.setDict_smilia : (s.setDict i j v n).smilia = s.smilia := rfl
@[simp] theorem State.setDict_dict : (s.setDict i j v n).dict = tput s.dict (dictKey i j n) v := rfl
@[simp] theorem State.setDict_domains : (s.setDict i j v n).domains = s.domains := rfl
@[simp] theorem State.setDict_rd (g : Field) : (s.setDict i j v n).rd g = s.rd g := rfl
@[simp] theorem State.setDict_core (r : PairId) : (s.setDict i j v n).core r = s.core r := rfl
end

section
variable (i : Nat) (b : List Byte) (n : Nat)
@[simp] theorem State.setDomain_pending : (s.setDomain i b n).pending = s.pending := rfl
@[simp] theorem State.setDomain_now : (s.setDomain i b n).now = s.now := rfl
@[simp] theorem State.setDomain_rtc : (s.setDomain i b n).rtc = s.rtc := rfl
@[simp] theorem State.setDomain_draws : (s.setDomain i b n).draws = s.draws := rfl
@[simp] theorem State.setDomain_out : (s.setDomain i b n).out = s.out := rfl
@[simp] theorem State.setDomain_svc : (s.setDomain i b n).svc = s.svc := rfl
@[simp] theorem State.setDomain_heelRetains : (s.setDomain i b n).heelRetains = s.heelRetains := rfl
@[simp] theorem State.setDomain_regs : (s.setDomain i b n).regs = s.regs := rfl
@[simp] theorem State.setDomain_latch : (s.setDomain i b n).latch = s.latch := rfl
@[simp] theorem State.setDomain_collector : (s.setDomain i b n).collector = s.collector := rfl
@[simp] theorem State.setDomain_trail : (s.setDomain i b n).trail = s.trail := rfl
@[simp] theorem State.setDomain_mem : (s.setDomain i b n).mem = s.mem := rfl
@[simp] theorem State.setDomain_guards : (s.setDomain i b n).guards = s.guards := rfl
@[simp] theorem State.setDomain_queue : (s.setDomain i b n).queue = s.queue := rfl
@[simp] theorem State.setDomain_stitch : (s.setDomain i b n).stitch = s.stitch := rfl
@[simp] theorem State.setDomain_staging : (s.setDomain i b n).staging = s.staging := rfl
@[simp] theorem State.setDomain_shepherd : (s.setDomain i b n).shepherd = s.shepherd := rfl
@[simp] theorem State.setDomain_pack : (s.setDomain i b n).pack = s.pack := rfl
@[simp] theorem State.setDomain_south : (s.setDomain i b n).south = s.south := rfl
@[simp] theorem State.setDomain_keys : (s.setDomain i b n).keys = s.keys := rfl
@[simp] theorem State.setDomain_awl : (s.setDomain i b n).awl = s.awl := rfl
@[simp] theorem State.setDomain_cores : (s.setDomain i b n).cores = s.cores := rfl
@[simp] theorem State.setDomain_flash : (s.setDomain i b n).flash = s.flash := rfl
@[simp] theorem State.setDomain_kennel : (s.setDomain i b n).kennel = s.kennel := rfl
@[simp] theorem State.setDomain_collar : (s.setDomain i b n).collar = s.collar := rfl
@[simp] theorem State.setDomain_reader : (s.setDomain i b n).reader = s.reader := rfl
@[simp] theorem State.setDomain_panel : (s.setDomain i b n).panel = s.panel := rfl
@[simp] theorem State.setDomain_sd : (s.setDomain i b n).sd = s.sd := rfl
@[simp] theorem State.setDomain_chip : (s.setDomain i b n).chip = s.chip := rfl
@[simp] theorem State.setDomain_telemetry : (s.setDomain i b n).telemetry = s.telemetry := rfl
@[simp] theorem State.setDomain_smilia : (s.setDomain i b n).smilia = s.smilia := rfl
@[simp] theorem State.setDomain_dict : (s.setDomain i b n).dict = s.dict := rfl
@[simp] theorem State.setDomain_domains : (s.setDomain i b n).domains = tput s.domains (dictKey i 0 n) b := rfl
@[simp] theorem State.setDomain_rd (g : Field) : (s.setDomain i b n).rd g = s.rd g := rfl
@[simp] theorem State.setDomain_core (r : PairId) : (s.setDomain i b n).core r = s.core r := rfl
end

section
variable (p : Nat) (q : TrailPort)
@[simp] theorem State.putPort_pending : (s.putPort p q).pending = s.pending := rfl
@[simp] theorem State.putPort_now : (s.putPort p q).now = s.now := rfl
@[simp] theorem State.putPort_rtc : (s.putPort p q).rtc = s.rtc := rfl
@[simp] theorem State.putPort_draws : (s.putPort p q).draws = s.draws := rfl
@[simp] theorem State.putPort_out : (s.putPort p q).out = s.out := rfl
@[simp] theorem State.putPort_svc : (s.putPort p q).svc = s.svc := rfl
@[simp] theorem State.putPort_heelRetains : (s.putPort p q).heelRetains = s.heelRetains := rfl
@[simp] theorem State.putPort_regs : (s.putPort p q).regs = s.regs := rfl
@[simp] theorem State.putPort_latch : (s.putPort p q).latch = s.latch := rfl
@[simp] theorem State.putPort_collector : (s.putPort p q).collector = s.collector := rfl
@[simp] theorem State.putPort_mem : (s.putPort p q).mem = s.mem := rfl
@[simp] theorem State.putPort_guards : (s.putPort p q).guards = s.guards := rfl
@[simp] theorem State.putPort_queue : (s.putPort p q).queue = s.queue := rfl
@[simp] theorem State.putPort_stitch : (s.putPort p q).stitch = s.stitch := rfl
@[simp] theorem State.putPort_staging : (s.putPort p q).staging = s.staging := rfl
@[simp] theorem State.putPort_shepherd : (s.putPort p q).shepherd = s.shepherd := rfl
@[simp] theorem State.putPort_pack : (s.putPort p q).pack = s.pack := rfl
@[simp] theorem State.putPort_south : (s.putPort p q).south = s.south := rfl
@[simp] theorem State.putPort_keys : (s.putPort p q).keys = s.keys := rfl
@[simp] theorem State.putPort_awl : (s.putPort p q).awl = s.awl := rfl
@[simp] theorem State.putPort_cores : (s.putPort p q).cores = s.cores := rfl
@[simp] theorem State.putPort_flash : (s.putPort p q).flash = s.flash := rfl
@[simp] theorem State.putPort_kennel : (s.putPort p q).kennel = s.kennel := rfl
@[simp] theorem State.putPort_collar : (s.putPort p q).collar = s.collar := rfl
@[simp] theorem State.putPort_reader : (s.putPort p q).reader = s.reader := rfl
@[simp] theorem State.putPort_panel : (s.putPort p q).panel = s.panel := rfl
@[simp] theorem State.putPort_sd : (s.putPort p q).sd = s.sd := rfl
@[simp] theorem State.putPort_chip : (s.putPort p q).chip = s.chip := rfl
@[simp] theorem State.putPort_telemetry : (s.putPort p q).telemetry = s.telemetry := rfl
@[simp] theorem State.putPort_smilia : (s.putPort p q).smilia = s.smilia := rfl
@[simp] theorem State.putPort_dict : (s.putPort p q).dict = s.dict := rfl
@[simp] theorem State.putPort_domains : (s.putPort p q).domains = s.domains := rfl
@[simp] theorem State.putPort_rd (g : Field) : (s.putPort p q).rd g = s.rd g := rfl
@[simp] theorem State.putPort_core (r : PairId) : (s.putPort p q).core r = s.core r := rfl
end

section
variable (a d c : Nat)
@[simp] theorem State.putWord_pending : (s.putWord a d c).pending = s.pending := rfl
@[simp] theorem State.putWord_now : (s.putWord a d c).now = s.now := rfl
@[simp] theorem State.putWord_rtc : (s.putWord a d c).rtc = s.rtc := rfl
@[simp] theorem State.putWord_draws : (s.putWord a d c).draws = s.draws := rfl
@[simp] theorem State.putWord_out : (s.putWord a d c).out = s.out := rfl
@[simp] theorem State.putWord_svc : (s.putWord a d c).svc = s.svc := rfl
@[simp] theorem State.putWord_heelRetains : (s.putWord a d c).heelRetains = s.heelRetains := rfl
@[simp] theorem State.putWord_regs : (s.putWord a d c).regs = s.regs := rfl
@[simp] theorem State.putWord_latch : (s.putWord a d c).latch = s.latch := rfl
@[simp] theorem State.putWord_collector : (s.putWord a d c).collector = s.collector := rfl
@[simp] theorem State.putWord_trail : (s.putWord a d c).trail = s.trail := rfl
@[simp] theorem State.putWord_mem : (s.putWord a d c).mem = s.mem.storeWord a d c := rfl
@[simp] theorem State.putWord_guards : (s.putWord a d c).guards = s.guards := rfl
@[simp] theorem State.putWord_queue : (s.putWord a d c).queue = s.queue := rfl
@[simp] theorem State.putWord_stitch : (s.putWord a d c).stitch = s.stitch := rfl
@[simp] theorem State.putWord_staging : (s.putWord a d c).staging = s.staging := rfl
@[simp] theorem State.putWord_shepherd : (s.putWord a d c).shepherd = s.shepherd := rfl
@[simp] theorem State.putWord_pack : (s.putWord a d c).pack = s.pack := rfl
@[simp] theorem State.putWord_south : (s.putWord a d c).south = s.south := rfl
@[simp] theorem State.putWord_keys : (s.putWord a d c).keys = s.keys := rfl
@[simp] theorem State.putWord_awl : (s.putWord a d c).awl = s.awl := rfl
@[simp] theorem State.putWord_cores : (s.putWord a d c).cores = s.cores := rfl
@[simp] theorem State.putWord_flash : (s.putWord a d c).flash = s.flash := rfl
@[simp] theorem State.putWord_kennel : (s.putWord a d c).kennel = s.kennel := rfl
@[simp] theorem State.putWord_collar : (s.putWord a d c).collar = s.collar := rfl
@[simp] theorem State.putWord_reader : (s.putWord a d c).reader = s.reader := rfl
@[simp] theorem State.putWord_panel : (s.putWord a d c).panel = s.panel := rfl
@[simp] theorem State.putWord_sd : (s.putWord a d c).sd = s.sd := rfl
@[simp] theorem State.putWord_chip : (s.putWord a d c).chip = s.chip := rfl
@[simp] theorem State.putWord_telemetry : (s.putWord a d c).telemetry = s.telemetry := rfl
@[simp] theorem State.putWord_smilia : (s.putWord a d c).smilia = s.smilia := rfl
@[simp] theorem State.putWord_dict : (s.putWord a d c).dict = s.dict := rfl
@[simp] theorem State.putWord_domains : (s.putWord a d c).domains = s.domains := rfl
@[simp] theorem State.putWord_rd (g : Field) : (s.putWord a d c).rd g = s.rd g := rfl
@[simp] theorem State.putWord_core (r : PairId) : (s.putWord a d c).core r = s.core r := rfl
end

section
variable (a : Nat) (b : List Byte)
@[simp] theorem State.putFresh_pending : (s.putFresh a b).pending = s.pending := rfl
@[simp] theorem State.putFresh_now : (s.putFresh a b).now = s.now := rfl
@[simp] theorem State.putFresh_rtc : (s.putFresh a b).rtc = s.rtc := rfl
@[simp] theorem State.putFresh_draws : (s.putFresh a b).draws = s.draws := rfl
@[simp] theorem State.putFresh_out : (s.putFresh a b).out = s.out := rfl
@[simp] theorem State.putFresh_svc : (s.putFresh a b).svc = s.svc := rfl
@[simp] theorem State.putFresh_heelRetains : (s.putFresh a b).heelRetains = s.heelRetains := rfl
@[simp] theorem State.putFresh_regs : (s.putFresh a b).regs = s.regs := rfl
@[simp] theorem State.putFresh_latch : (s.putFresh a b).latch = s.latch := rfl
@[simp] theorem State.putFresh_collector : (s.putFresh a b).collector = s.collector := rfl
@[simp] theorem State.putFresh_trail : (s.putFresh a b).trail = s.trail := rfl
@[simp] theorem State.putFresh_mem : (s.putFresh a b).mem = s.mem.write a b := rfl
@[simp] theorem State.putFresh_guards : (s.putFresh a b).guards = s.guards := rfl
@[simp] theorem State.putFresh_queue : (s.putFresh a b).queue = s.queue := rfl
@[simp] theorem State.putFresh_stitch : (s.putFresh a b).stitch = s.stitch := rfl
@[simp] theorem State.putFresh_staging : (s.putFresh a b).staging = s.staging := rfl
@[simp] theorem State.putFresh_shepherd : (s.putFresh a b).shepherd = s.shepherd := rfl
@[simp] theorem State.putFresh_pack : (s.putFresh a b).pack = s.pack := rfl
@[simp] theorem State.putFresh_south : (s.putFresh a b).south = s.south := rfl
@[simp] theorem State.putFresh_keys : (s.putFresh a b).keys = s.keys := rfl
@[simp] theorem State.putFresh_awl : (s.putFresh a b).awl = s.awl := rfl
@[simp] theorem State.putFresh_cores : (s.putFresh a b).cores = s.cores := rfl
@[simp] theorem State.putFresh_flash : (s.putFresh a b).flash = s.flash := rfl
@[simp] theorem State.putFresh_kennel : (s.putFresh a b).kennel = s.kennel := rfl
@[simp] theorem State.putFresh_collar : (s.putFresh a b).collar = s.collar := rfl
@[simp] theorem State.putFresh_reader : (s.putFresh a b).reader = s.reader := rfl
@[simp] theorem State.putFresh_panel : (s.putFresh a b).panel = s.panel := rfl
@[simp] theorem State.putFresh_sd : (s.putFresh a b).sd = s.sd := rfl
@[simp] theorem State.putFresh_chip : (s.putFresh a b).chip = s.chip := rfl
@[simp] theorem State.putFresh_telemetry : (s.putFresh a b).telemetry = s.telemetry := rfl
@[simp] theorem State.putFresh_smilia : (s.putFresh a b).smilia = s.smilia := rfl
@[simp] theorem State.putFresh_dict : (s.putFresh a b).dict = s.dict := rfl
@[simp] theorem State.putFresh_domains : (s.putFresh a b).domains = s.domains := rfl
@[simp] theorem State.putFresh_rd (g : Field) : (s.putFresh a b).rd g = s.rd g := rfl
@[simp] theorem State.putFresh_core (r : PairId) : (s.putFresh a b).core r = s.core r := rfl
end

section
variable (p : PairId) (f : Pair → Pair)
@[simp] theorem State.updPair_pending : (s.updPair p f).pending = s.pending := rfl
@[simp] theorem State.updPair_now : (s.updPair p f).now = s.now := rfl
@[simp] theorem State.updPair_rtc : (s.updPair p f).rtc = s.rtc := rfl
@[simp] theorem State.updPair_draws : (s.updPair p f).draws = s.draws := rfl
@[simp] theorem State.updPair_out : (s.updPair p f).out = s.out := rfl
@[simp] theorem State.updPair_svc : (s.updPair p f).svc = s.svc := rfl
@[simp] theorem State.updPair_heelRetains : (s.updPair p f).heelRetains = s.heelRetains := rfl
@[simp] theorem State.updPair_regs : (s.updPair p f).regs = s.regs := rfl
@[simp] theorem State.updPair_latch : (s.updPair p f).latch = s.latch := rfl
@[simp] theorem State.updPair_collector : (s.updPair p f).collector = s.collector := rfl
@[simp] theorem State.updPair_trail : (s.updPair p f).trail = s.trail := rfl
@[simp] theorem State.updPair_mem : (s.updPair p f).mem = s.mem := rfl
@[simp] theorem State.updPair_guards : (s.updPair p f).guards = s.guards := rfl
@[simp] theorem State.updPair_queue : (s.updPair p f).queue = s.queue := rfl
@[simp] theorem State.updPair_stitch : (s.updPair p f).stitch = s.stitch := rfl
@[simp] theorem State.updPair_staging : (s.updPair p f).staging = s.staging := rfl
@[simp] theorem State.updPair_shepherd : (s.updPair p f).shepherd = s.shepherd := rfl
@[simp] theorem State.updPair_pack : (s.updPair p f).pack = s.pack := rfl
@[simp] theorem State.updPair_south : (s.updPair p f).south = s.south := rfl
@[simp] theorem State.updPair_keys : (s.updPair p f).keys = s.keys := rfl
@[simp] theorem State.updPair_awl : (s.updPair p f).awl = s.awl := rfl
@[simp] theorem State.updPair_flash : (s.updPair p f).flash = s.flash := rfl
@[simp] theorem State.updPair_kennel : (s.updPair p f).kennel = s.kennel := rfl
@[simp] theorem State.updPair_collar : (s.updPair p f).collar = s.collar := rfl
@[simp] theorem State.updPair_reader : (s.updPair p f).reader = s.reader := rfl
@[simp] theorem State.updPair_panel : (s.updPair p f).panel = s.panel := rfl
@[simp] theorem State.updPair_sd : (s.updPair p f).sd = s.sd := rfl
@[simp] theorem State.updPair_chip : (s.updPair p f).chip = s.chip := rfl
@[simp] theorem State.updPair_telemetry : (s.updPair p f).telemetry = s.telemetry := rfl
@[simp] theorem State.updPair_smilia : (s.updPair p f).smilia = s.smilia := rfl
@[simp] theorem State.updPair_dict : (s.updPair p f).dict = s.dict := rfl
@[simp] theorem State.updPair_domains : (s.updPair p f).domains = s.domains := rfl
@[simp] theorem State.updPair_rd (g : Field) : (s.updPair p f).rd g = s.rd g := rfl
end

/-- A field reads as what was last written to it, cut to its width. -/
theorem State.rd_wr_self (f : Field) (v : Nat) : (s.wr f v).rd f = v % 2 ^ f.width := by
  unfold State.rd
  rw [State.wr_regs, tget_tput_self]
  rfl

/-- A write of another field does not change a field. -/
theorem State.rd_wr_ne {f g : Field} (v : Nat) (h : g.key ≠ f.key) : (s.wr f v).rd g = s.rd g := by
  unfold State.rd
  rw [State.wr_regs, tget_tput_ne _ _ h]

@[simp] theorem State.advanceTo_past {t : Nat} (h : t ≤ s.now) : (s.advanceTo t).now = s.now := by
  rw [State.advanceTo_now]; omega

/-- The clock does not run back: it stands at the later of the two times. -/
theorem State.advanceTo_max (t : Nat) : (s.advanceTo t).now = max s.now t := by
  rw [State.advanceTo_now]; omega

end Sys2Proof.Machine
end

