-- ==== Sys2Proof/Laws/Frame.lean ====
section
/-!
SUPPORT. What every shared operation of the model keeps, said once: `Upd m s t` says that `t` comes from `s` by operations that touch only the
parts in the mask `m`, leave the queue alone, never turn the clock, the free-value counter or the outputs back, and keep the canonical form.
-/

namespace Sys2Proof.Machine

/-- The number of a part in a mask. -/
def Part.idx : Part → Nat
  | .svc => 0
  | .heelRetains => 1
  | .rtc => 2
  | .regs => 3
  | .latch => 4
  | .collector => 5
  | .trail => 6
  | .mem => 7
  | .guards => 8
  | .queue => 9
  | .stitch => 10
  | .staging => 11
  | .shepherd => 12
  | .pack => 13
  | .south => 14
  | .keys => 15
  | .awl => 16
  | .cores => 17
  | .flash => 18
  | .kennel => 19
  | .collar => 20
  | .reader => 21
  | .panel => 22
  | .sd => 23
  | .chip => 24
  | .telemetry => 25
  | .smilia => 26
  | .dict => 27
  | .domains => 28
  | .out => 29
  | .draws => 30
  | .now => 31

/-- `t` comes from `s` by operations that touch the parts of the mask alone. -/
structure Upd (m : Nat) (s t : State) : Prop where
  pending : t.pending = s.pending
  now : s.now ≤ t.now
  draws : s.draws ≤ t.draws
  out : ∃ l, t.out = l ++ s.out
  tidy : s.tidy = true → t.tidy = true
  part : ∀ p : Part, m.testBit p.idx = false → p.same s t

theorem Part.same_refl (p : Part) (s : State) : p.same s s := by cases p <;> rfl

theorem Part.same_trans {p : Part} {s t u : State} (h : p.same s t) (k : p.same t u) : p.same s u := by
  cases p <;> exact Eq.trans k h

theorem Upd.refl {m : Nat} {s : State} : Upd m s s := ⟨rfl, Nat.le_refl _, Nat.le_refl _, ⟨[], rfl⟩, id, fun p _ => p.same_refl s⟩

theorem Upd.trans {m : Nat} {s t u : State} (h : Upd m s t) (k : Upd m t u) : Upd m s u where
  pending := k.pending.trans h.pending
  now := Nat.le_trans h.now k.now
  draws := Nat.le_trans h.draws k.draws
  out := by
    obtain ⟨l, hl⟩ := h.out
    obtain ⟨r, hr⟩ := k.out
    exact ⟨r ++ l, by rw [hr, hl, List.append_assoc]⟩
  tidy := fun x => k.tidy (h.tidy x)
  part := fun p hp => Part.same_trans (h.part p hp) (k.part p hp)

theorem testBit_of_land {m n i : Nat} (h : Nat.land m n = m) (hi : n.testBit i = false) : m.testBit i = false := by
  have := congrArg (fun x => Nat.testBit x i) h
  simp only [show Nat.land m n = m &&& n from rfl, Nat.testBit_and, hi, Bool.and_false] at this
  exact this.symm

theorem landTrans {a b m : Nat} (h : Nat.land a b = a) (k : Nat.land b m = b) : Nat.land a m = a := by
  rw [← h]
  show a &&& b &&& m = a &&& b
  rw [Nat.and_assoc, show b &&& m = b from k]

theorem Upd.mono {m n : Nat} {s t : State} (h : Upd m s t) (hm : Nat.land m n = m) : Upd n s t :=
  ⟨h.pending, h.now, h.draws, h.out, h.tidy, fun p hp => h.part p (testBit_of_land hm hp)⟩

/-- One more operation. -/
theorem Upd.via {m n : Nat} {s t u : State} (k : Upd m t u) (hm : Nat.land m n = m) (h : Upd n s t) : Upd n s u := h.trans (k.mono hm)

/-- An operation that answers a state and a value. -/
structure Upd1 {α : Type} (m : Nat) (s : State) (p : State × α) : Prop where
  state : Upd m s p.1

/-- An operation that answers a value and a state. -/
structure Upd2 {α : Type} (m : Nat) (s : State) (p : α × State) : Prop where
  state : Upd m s p.2

/-- An operation that may answer a state. -/
structure UpdOpt (m : Nat) (s : State) (o : Option State) : Prop where
  some : ∀ t, o = some t → Upd m s t

/-- An operation that may answer a value and a state. -/
structure UpdOpt2 {α : Type} (m : Nat) (s : State) (o : Option (α × State)) : Prop where
  some : ∀ v t, o = some (v, t) → Upd m s t

/-- An operation that may answer a state and a value. -/
structure UpdOpt1 {α : Type} (m : Nat) (s : State) (o : Option (State × α)) : Prop where
  some : ∀ t v, o = some (t, v) → Upd m s t

/-- The outcome of a command. -/
structure UpdO (m : Nat) (s : State) (o : Host.Outcome State Fault Refusal) : Prop where
  next : ∀ t, o = .next t → Upd m s t

theorem Upd.fst {α : Type} {m : Nat} {s : State} {p : State × α} (k : Upd1 m s p) : Upd m s p.1 := k.state

theorem Upd.snd {α : Type} {m : Nat} {s : State} {p : α × State} (k : Upd2 m s p) : Upd m s p.2 := k.state

theorem Upd.fstOf {α : Type} {m : Nat} {s x : State} {v : α} {p : State × α} (k : Upd1 m s p) (h : p = (x, v)) : Upd m s x := by
  subst h; exact k.state

theorem Upd.sndOf {α : Type} {m : Nat} {s x : State} {v : α} {p : α × State} (k : Upd2 m s p) (h : p = (v, x)) : Upd m s x := by
  subst h; exact k.state

theorem Upd.someOf {m : Nat} {s x : State} {o : Option State} (k : UpdOpt m s o) (h : o = some x) : Upd m s x := k.some x h

theorem Upd.someOf2 {α : Type} {m : Nat} {s x : State} {v : α} {o : Option (α × State)} (k : UpdOpt2 m s o) (h : o = some (v, x)) : Upd m s x := k.some v x h

theorem Upd.fstOf' {α : Type} {m : Nat} {s x : State} {v : α} {p : State × α} (h : p = (x, v)) (k : Upd1 m s p) : Upd m s x := Upd.fstOf k h

theorem Upd.sndOf' {α : Type} {m : Nat} {s x : State} {v : α} {p : α × State} (h : p = (v, x)) (k : Upd2 m s p) : Upd m s x := Upd.sndOf k h

theorem Upd.someOf' {m : Nat} {s x : State} {o : Option State} (h : o = some x) (k : UpdOpt m s o) : Upd m s x := Upd.someOf k h

theorem Upd.someOf2' {α : Type} {m : Nat} {s x : State} {v : α} {o : Option (α × State)} (h : o = some (v, x)) (k : UpdOpt2 m s o) : Upd m s x := k.some v x h

theorem UpdO.of {m : Nat} {s x : State} {o : Host.Outcome State Fault Refusal} (h : o = .next x) (k : UpdO m s o) : Upd m s x := k.next x h

theorem Upd1.mk' {α : Type} {m : Nat} {s x : State} {v : α} (h : Upd m s x) : Upd1 m s (x, v) := ⟨h⟩

theorem Upd2.mk' {α : Type} {m : Nat} {s x : State} {v : α} (h : Upd m s x) : Upd2 m s (v, x) := ⟨h⟩

theorem UpdOpt.mk' {m : Nat} {s x : State} (h : Upd m s x) : UpdOpt m s (Option.some x) := ⟨fun _ ht => Option.some.inj ht ▸ h⟩

theorem UpdOpt.none {m : Nat} {s : State} : UpdOpt m s Option.none := ⟨fun _ ht => nomatch ht⟩

theorem UpdOpt2.mk' {α : Type} {m : Nat} {s x : State} {v : α} (h : Upd m s x) : UpdOpt2 m s (Option.some (v, x)) := ⟨fun _ _ ht => by cases ht; exact h⟩

theorem UpdOpt2.none {α : Type} {m : Nat} {s : State} : UpdOpt2 (α := α) m s Option.none := ⟨fun _ _ ht => nomatch ht⟩

theorem UpdOpt1.mk' {α : Type} {m : Nat} {s x : State} {v : α} (h : Upd m s x) : UpdOpt1 m s (Option.some (x, v)) := ⟨fun _ _ ht => by cases ht; exact h⟩

theorem UpdOpt1.none {α : Type} {m : Nat} {s : State} : UpdOpt1 (α := α) m s Option.none := ⟨fun _ _ ht => nomatch ht⟩

theorem UpdOpt1.via {α : Type} {m n : Nat} {s t : State} {o : Option (State × α)} (k : UpdOpt1 m t o) (hm : Nat.land m n = m) (h : Upd n s t) :
    UpdOpt1 n s o := ⟨fun u v hu => (k.some u v hu).via hm h⟩

theorem Upd.someOf1' {α : Type} {m : Nat} {s x : State} {v : α} {o : Option (State × α)} (h : o = some (x, v)) (k : UpdOpt1 m s o) : Upd m s x := k.some x v h

theorem UpdO.mk' {m : Nat} {s x : State} (h : Upd m s x) : UpdO m s (Machine.ok x) := ⟨fun _ ht => by cases ht; exact h⟩

theorem Upd1.via {α : Type} {m n : Nat} {s t : State} {p : State × α} (k : Upd1 m t p) (hm : Nat.land m n = m) (h : Upd n s t) : Upd1 n s p :=
  ⟨Upd.via k.state hm h⟩

theorem Upd2.via {α : Type} {m n : Nat} {s t : State} {p : α × State} (k : Upd2 m t p) (hm : Nat.land m n = m) (h : Upd n s t) : Upd2 n s p :=
  ⟨Upd.via k.state hm h⟩

theorem UpdOpt.via {m n : Nat} {s t : State} {o : Option State} (k : UpdOpt m t o) (hm : Nat.land m n = m) (h : Upd n s t) : UpdOpt n s o :=
  ⟨fun u hu => (k.some u hu).via hm h⟩

theorem UpdOpt2.via {α : Type} {m n : Nat} {s t : State} {o : Option (α × State)} (k : UpdOpt2 m t o) (hm : Nat.land m n = m) (h : Upd n s t) :
    UpdOpt2 n s o := ⟨fun v u hu => (k.some v u hu).via hm h⟩

theorem UpdO.via {m n : Nat} {s t : State} {o : Host.Outcome State Fault Refusal} (k : UpdO m t o) (hm : Nat.land m n = m) (h : Upd n s t) : UpdO n s o :=
  ⟨fun u hu => (k.next u hu).via hm h⟩

theorem Upd.cut (m : Nat) (s : State) {P : Prop} (u : State) (h : Upd m s u) (k : Upd m s u → P) : P := k h

theorem Upd1.cut {α : Type} (m : Nat) (s : State) {P : Prop} (u : State × α) (h : Upd1 m s u) (k : Upd m s u.1 → P) : P := k h.state

theorem Upd2.cut {α : Type} (m : Nat) (s : State) {P : Prop} (u : α × State) (h : Upd2 m s u) (k : Upd m s u.2 → P) : P := k h.state

theorem Upd.foldl {α : Type} {m : Nat} {s t : State} {f : State → α → State} {l : List α} (h : Upd m s t) (k : ∀ u x, Upd m s u → Upd m s (f u x)) :
    Upd m s (l.foldl f t) := by
  induction l generalizing t with
  | nil => exact h
  | cons x l ih => exact ih (k t x h)

theorem Upd1.foldl {α β : Type} {m : Nat} {s : State} {t : State × β} {f : State × β → α → State × β} {l : List α} (h : Upd1 m s t)
    (k : ∀ u x, Upd1 m s u → Upd1 m s (f u x)) : Upd1 m s (l.foldl f t) := by
  induction l generalizing t with
  | nil => exact h
  | cons x l ih => exact ih (k t x h)

theorem Upd2.foldl {α β : Type} {m : Nat} {s : State} {t : β × State} {f : β × State → α → β × State} {l : List α} (h : Upd2 m s t)
    (k : ∀ u x, Upd2 m s u → Upd2 m s (f u x)) : Upd2 m s (l.foldl f t) := by
  induction l generalizing t with
  | nil => exact h
  | cons x l ih => exact ih (k t x h)

theorem UpdOpt.foldBind {α : Type} {m : Nat} {s : State} {f : α → State → Option State} {l : List α} {o : Option State} (h : UpdOpt m s o)
    (k : ∀ x u, Upd m s u → UpdOpt m s (f x u)) : UpdOpt m s (l.foldl (fun o x => o.bind (f x)) o) := by
  induction l generalizing o with
  | nil => exact h
  | cons x l ih =>
    refine ih ?_
    cases o with
    | none => exact UpdOpt.none
    | some u => exact k x u (h.some u rfl)

theorem UpdOpt1.foldBind {α β : Type} {m : Nat} {s : State} {f : α → State × β → Option (State × β)} {l : List α} {o : Option (State × β)}
    (h : UpdOpt1 m s o) (k : ∀ x u, Upd m s u.1 → UpdOpt1 m s (f x u)) : UpdOpt1 m s (l.foldl (fun o x => o.bind (f x)) o) := by
  induction l generalizing o with
  | nil => exact h
  | cons x l ih =>
    refine ih ?_
    cases o with
    | none => exact UpdOpt1.none
    | some u => exact k x u (h.some u.1 u.2 rfl)

theorem Upd.getD {m : Nat} {s t : State} {o : Option State} (h : UpdOpt m s o) (k : Upd m s t) : Upd m s (o.getD t) := by
  cases o with
  | none => exact k
  | some u => exact h.some u rfl

/-- An update of one part that is no clock, counter or list of outputs. -/
theorem Upd.put {m : Nat} {s t u : State} (k : Part) (h : Upd m s t) (hk : m.testBit k.idx = true) (h1 : u.pending = t.pending) (h2 : u.now = t.now)
    (h3 : u.draws = t.draws) (h4 : u.out = t.out) (h5 : t.tidy = true → u.tidy = true) (h6 : ∀ p, p ≠ k → p.same t u) : Upd m s u :=
  h.trans ⟨h1, Nat.le_of_eq h2.symm, Nat.le_of_eq h3.symm, ⟨[], by rw [h4]; rfl⟩, h5, fun p hp => h6 p (by rintro rfl; rw [hk] at hp; cases hp)⟩

theorem Upd.put_svc {m : Nat} {s t : State} {x} (h : Upd m s t) (hk : m.testBit 0 = true) : Upd m s { t with svc := x } :=
  h.put .svc hk rfl rfl rfl rfl id (fun p hp => by cases p <;> first | rfl | exact absurd rfl hp)

theorem Upd.put_heelRetains {m : Nat} {s t : State} {x} (h : Upd m s t) (hk : m.testBit 1 = true) : Upd m s { t with heelRetains := x } :=
  h.put .heelRetains hk rfl rfl rfl rfl id (fun p hp => by cases p <;> first | rfl | exact absurd rfl hp)

theorem Upd.put_rtc {m : Nat} {s t : State} {x} (h : Upd m s t) (hk : m.testBit 2 = true) : Upd m s { t with rtc := x } :=
  h.put .rtc hk rfl rfl rfl rfl id (fun p hp => by cases p <;> first | rfl | exact absurd rfl hp)

theorem Upd.put_regs {m : Nat} {s t : State} {x} (h : Upd m s t) (hk : m.testBit 3 = true) (hw : rising t.regs = true → rising x = true) : Upd m s { t with regs := x } :=
  h.put .regs hk rfl rfl rfl rfl (by
    unfold State.tidy
    simp only [Bool.and_eq_true]
    rintro ⟨⟨⟨⟨a, b⟩, c⟩, d⟩, e⟩
    exact ⟨⟨⟨⟨a, (hw b)⟩, c⟩, d⟩, e⟩) (fun p hp => by cases p <;> first | rfl | exact absurd rfl hp)

theorem Upd.put_latch {m : Nat} {s t : State} {x} (h : Upd m s t) (hk : m.testBit 4 = true) (hw : rising t.latch = true → rising x = true) : Upd m s { t with latch := x } :=
  h.put .latch hk rfl rfl rfl rfl (by
    unfold State.tidy
    simp only [Bool.and_eq_true]
    rintro ⟨⟨⟨⟨a, b⟩, c⟩, d⟩, e⟩
    exact ⟨⟨⟨⟨a, b⟩, (hw c)⟩, d⟩, e⟩) (fun p hp => by cases p <;> first | rfl | exact absurd rfl hp)

theorem Upd.put_collector {m : Nat} {s t : State} {x} (h : Upd m s t) (hk : m.testBit 5 = true) : Upd m s { t with collector := x } :=
  h.put .collector hk rfl rfl rfl rfl id (fun p hp => by cases p <;> first | rfl | exact absurd rfl hp)

theorem Upd.put_trail {m : Nat} {s t : State} {x} (h : Upd m s t) (hk : m.testBit 6 = true) : Upd m s { t with trail := x } :=
  h.put .trail hk rfl rfl rfl rfl id (fun p hp => by cases p <;> first | rfl | exact absurd rfl hp)

theorem Upd.put_mem {m : Nat} {s t : State} {x} (h : Upd m s t) (hk : m.testBit 7 = true) (hw : t.mem.wf = true → x.wf = true) : Upd m s { t with mem := x } :=
  h.put .mem hk rfl rfl rfl rfl (by
    unfold State.tidy
    simp only [Bool.and_eq_true]
    rintro ⟨⟨⟨⟨a, b⟩, c⟩, d⟩, e⟩
    exact ⟨⟨⟨⟨(hw a), b⟩, c⟩, d⟩, e⟩) (fun p hp => by cases p <;> first | rfl | exact absurd rfl hp)

theorem Upd.put_guards {m : Nat} {s t : State} {x} (h : Upd m s t) (hk : m.testBit 8 = true) : Upd m s { t with guards := x } :=
  h.put .guards hk rfl rfl rfl rfl id (fun p hp => by cases p <;> first | rfl | exact absurd rfl hp)

theorem Upd.put_queue {m : Nat} {s t : State} {x} (h : Upd m s t) (hk : m.testBit 9 = true) : Upd m s { t with queue := x } :=
  h.put .queue hk rfl rfl rfl rfl id (fun p hp => by cases p <;> first | rfl | exact absurd rfl hp)

theorem Upd.put_stitch {m : Nat} {s t : State} {x} (h : Upd m s t) (hk : m.testBit 10 = true) : Upd m s { t with stitch := x } :=
  h.put .stitch hk rfl rfl rfl rfl id (fun p hp => by cases p <;> first | rfl | exact absurd rfl hp)

theorem Upd.put_staging {m : Nat} {s t : State} {x} (h : Upd m s t) (hk : m.testBit 11 = true) : Upd m s { t with staging := x } :=
  h.put .staging hk rfl rfl rfl rfl id (fun p hp => by cases p <;> first | rfl | exact absurd rfl hp)

theorem Upd.put_shepherd {m : Nat} {s t : State} {x} (h : Upd m s t) (hk : m.testBit 12 = true) : Upd m s { t with shepherd := x } :=
  h.put .shepherd hk rfl rfl rfl rfl id (fun p hp => by cases p <;> first | rfl | exact absurd rfl hp)

theorem Upd.put_pack {m : Nat} {s t : State} {x} (h : Upd m s t) (hk : m.testBit 13 = true) : Upd m s { t with pack := x } :=
  h.put .pack hk rfl rfl rfl rfl id (fun p hp => by cases p <;> first | rfl | exact absurd rfl hp)

theorem Upd.put_south {m : Nat} {s t : State} {x} (h : Upd m s t) (hk : m.testBit 14 = true) : Upd m s { t with south := x } :=
  h.put .south hk rfl rfl rfl rfl id (fun p hp => by cases p <;> first | rfl | exact absurd rfl hp)

theorem Upd.put_keys {m : Nat} {s t : State} {x} (h : Upd m s t) (hk : m.testBit 15 = true) : Upd m s { t with keys := x } :=
  h.put .keys hk rfl rfl rfl rfl id (fun p hp => by cases p <;> first | rfl | exact absurd rfl hp)

theorem Upd.put_awl {m : Nat} {s t : State} {x} (h : Upd m s t) (hk : m.testBit 16 = true) : Upd m s { t with awl := x } :=
  h.put .awl hk rfl rfl rfl rfl id (fun p hp => by cases p <;> first | rfl | exact absurd rfl hp)

theorem Upd.put_cores {m : Nat} {s t : State} {x} (h : Upd m s t) (hk : m.testBit 17 = true) : Upd m s { t with cores := x } :=
  h.put .cores hk rfl rfl rfl rfl id (fun p hp => by cases p <;> first | rfl | exact absurd rfl hp)

theorem Upd.put_flash {m : Nat} {s t : State} {x} (h : Upd m s t) (hk : m.testBit 18 = true) : Upd m s { t with flash := x } :=
  h.put .flash hk rfl rfl rfl rfl id (fun p hp => by cases p <;> first | rfl | exact absurd rfl hp)

theorem Upd.put_kennel {m : Nat} {s t : State} {x} (h : Upd m s t) (hk : m.testBit 19 = true) : Upd m s { t with kennel := x } :=
  h.put .kennel hk rfl rfl rfl rfl id (fun p hp => by cases p <;> first | rfl | exact absurd rfl hp)

theorem Upd.put_collar {m : Nat} {s t : State} {x} (h : Upd m s t) (hk : m.testBit 20 = true) : Upd m s { t with collar := x } :=
  h.put .collar hk rfl rfl rfl rfl id (fun p hp => by cases p <;> first | rfl | exact absurd rfl hp)

theorem Upd.put_reader {m : Nat} {s t : State} {x} (h : Upd m s t) (hk : m.testBit 21 = true) : Upd m s { t with reader := x } :=
  h.put .reader hk rfl rfl rfl rfl id (fun p hp => by cases p <;> first | rfl | exact absurd rfl hp)

theorem Upd.put_panel {m : Nat} {s t : State} {x} (h : Upd m s t) (hk : m.testBit 22 = true) : Upd m s { t with panel := x } :=
  h.put .panel hk rfl rfl rfl rfl id (fun p hp => by cases p <;> first | rfl | exact absurd rfl hp)

theorem Upd.put_sd {m : Nat} {s t : State} {x} (h : Upd m s t) (hk : m.testBit 23 = true) : Upd m s { t with sd := x } :=
  h.put .sd hk rfl rfl rfl rfl id (fun p hp => by cases p <;> first | rfl | exact absurd rfl hp)

theorem Upd.put_chip {m : Nat} {s t : State} {x} (h : Upd m s t) (hk : m.testBit 24 = true) : Upd m s { t with chip := x } :=
  h.put .chip hk rfl rfl rfl rfl id (fun p hp => by cases p <;> first | rfl | exact absurd rfl hp)

theorem Upd.put_telemetry {m : Nat} {s t : State} {x} (h : Upd m s t) (hk : m.testBit 25 = true) : Upd m s { t with telemetry := x } :=
  h.put .telemetry hk rfl rfl rfl rfl id (fun p hp => by cases p <;> first | rfl | exact absurd rfl hp)

theorem Upd.put_smilia {m : Nat} {s t : State} {x} (h : Upd m s t) (hk : m.testBit 26 = true) : Upd m s { t with smilia := x } :=
  h.put .smilia hk rfl rfl rfl rfl id (fun p hp => by cases p <;> first | rfl | exact absurd rfl hp)

theorem Upd.put_dict {m : Nat} {s t : State} {x} (h : Upd m s t) (hk : m.testBit 27 = true) (hw : rising t.dict = true → rising x = true) : Upd m s { t with dict := x } :=
  h.put .dict hk rfl rfl rfl rfl (by
    unfold State.tidy
    simp only [Bool.and_eq_true]
    rintro ⟨⟨⟨⟨a, b⟩, c⟩, d⟩, e⟩
    exact ⟨⟨⟨⟨a, b⟩, c⟩, (hw d)⟩, e⟩) (fun p hp => by cases p <;> first | rfl | exact absurd rfl hp)

theorem Upd.put_domains {m : Nat} {s t : State} {x} (h : Upd m s t) (hk : m.testBit 28 = true) (hw : rising t.domains = true → rising x = true) : Upd m s { t with domains := x } :=
  h.put .domains hk rfl rfl rfl rfl (by
    unfold State.tidy
    simp only [Bool.and_eq_true]
    rintro ⟨⟨⟨⟨a, b⟩, c⟩, d⟩, e⟩
    exact ⟨⟨⟨⟨a, b⟩, c⟩, d⟩, (hw e)⟩) (fun p hp => by cases p <;> first | rfl | exact absurd rfl hp)

theorem Upd.put_out {m : Nat} {s t : State} {o : Output} (h : Upd m s t) (hk : m.testBit 29 = true) : Upd m s { t with out := o :: t.out } :=
  h.trans ⟨rfl, Nat.le_refl _, Nat.le_refl _, ⟨[o], rfl⟩, id, fun p hp => by cases p <;> first | rfl | (exact absurd hk (by simp_all [Part.idx]))⟩

theorem Upd.put_draws {m : Nat} {s t : State} (h : Upd m s t) (hk : m.testBit 30 = true) : Upd m s { t with draws := t.draws + 1 } :=
  h.trans ⟨rfl, Nat.le_refl _, Nat.le_succ _, ⟨[], rfl⟩, id, fun p hp => by cases p <;> first | rfl | (exact absurd hk (by simp_all [Part.idx]))⟩

/-- The parts of a list cover a mask. -/
def Part.cover (ps : List Part) (m : Nat) : Bool :=
  [Part.svc, .heelRetains, .rtc, .regs, .latch, .collector, .trail, .mem, .guards, .queue, .stitch, .staging, .shepherd, .pack, .south, .keys, .awl, .cores,
   .flash, .kennel, .collar, .reader, .panel, .sd, .chip, .telemetry, .smilia, .dict, .domains, .out, .draws, .now].all (fun p => ps.contains p || !m.testBit p.idx)

theorem Upd.agreeBut {m : Nat} {s t : State} {ps : List Part} (h : Upd m s t) (hc : Part.cover ps m = true) : s.agreeBut ps t := by
  refine ⟨h.pending, fun p hp => h.part p ?_⟩
  have := List.all_eq_true.1 hc p (by cases p <;> simp)
  simpa [hp] using this

end Sys2Proof.Machine
end

