-- ==== Sys2Proof/Laws/Memory.lean ====
section
/-! SUPPORT. Memory: every operation keeps the canonical form, and a read after a write gives what was written, elsewhere what was there. -/

namespace Sys2Proof.Machine

theorem cellsWf_iff (c : List Host.Cell) : cellsWf c = true ↔ c.Pairwise (fun a b => a.1 < b.1) ∧ ∀ x ∈ c, x.2 ≠ 0 := by
  unfold cellsWf
  rw [Bool.and_eq_true, rising_iff]
  simp

theorem mem_cellPut {c : List Host.Cell} {k : Nat} {v : Byte} {x : Host.Cell} (h : x ∈ cellPut c k v) : (x = (k, v) ∧ v ≠ 0) ∨ x ∈ c := by
  induction c with
  | nil =>
    unfold cellPut at h
    split at h
    · cases h
    · exact .inl ⟨by simpa using h, ‹_›⟩
  | cons y t ih =>
    obtain ⟨a, w⟩ := y
    unfold cellPut at h
    split at h
    · split at h
      · exact .inr h
      · rcases List.mem_cons.1 h with h | h
        · exact .inl ⟨h, ‹_›⟩
        · exact .inr h
    · split at h
      · split at h
        · exact .inr (List.mem_cons_of_mem _ h)
        · rcases List.mem_cons.1 h with h | h
          · exact .inl ⟨h, ‹_›⟩
          · exact .inr (List.mem_cons_of_mem _ h)
      · rcases List.mem_cons.1 h with h | h
        · exact .inr (h ▸ List.mem_cons_self ..)
        · exact (ih h).imp id (List.mem_cons_of_mem _)

theorem cellPut_wf {c : List Host.Cell} {k : Nat} {v : Byte} (h : cellsWf c = true) : cellsWf (cellPut c k v) = true := by
  rw [cellsWf_iff] at *
  refine ⟨?_, fun x hx => ?_⟩
  · have hr := h.1
    clear h
    induction c with
    | nil => unfold cellPut; split <;> simp
    | cons y t ih =>
      obtain ⟨a, w⟩ := y
      have hp := List.pairwise_cons.1 hr
      unfold cellPut
      split
      · split
        · exact hr
        · refine List.pairwise_cons.2 ⟨fun z hz => ?_, hr⟩
          rcases List.mem_cons.1 hz with rfl | hz
          · assumption
          · exact Nat.lt_trans ‹k < a› (hp.1 z hz)
      · split
        · split
          · exact hp.2
          · subst ‹k = a›
            exact List.pairwise_cons.2 ⟨hp.1, hp.2⟩
        · refine List.pairwise_cons.2 ⟨fun z hz => ?_, ih hp.2⟩
          rcases mem_cellPut hz with ⟨rfl, _⟩ | hz
          · show a < k
            omega
          · exact hp.1 z hz
  · rcases mem_cellPut hx with ⟨rfl, hv⟩ | hx
    · exact hv
    · exact h.2 x hx

theorem writeCells_wf {bs : List Byte} {c : List Host.Cell} {a : Nat} (h : cellsWf c = true) : cellsWf (writeCells c a bs) = true := by
  induction bs generalizing c a with
  | nil => exact h
  | cons b bs ih => exact ih (cellPut_wf h)

theorem cellAt_eq_zero {c : List Host.Cell} {j : Nat} (h : ∀ x ∈ c, j ≠ x.1) : cellAt c j = 0 := by
  induction c with
  | nil => rfl
  | cons y t ih =>
    unfold cellAt
    rw [if_neg (fun e => h y (List.mem_cons_self ..) e.symm)]
    exact ih (fun x hx => h x (List.mem_cons_of_mem _ hx))

/-- A read after a write of one byte. -/
theorem cellAt_cellPut {c : List Host.Cell} (k j : Nat) (v : Byte) (h : cellsWf c = true) : cellAt (cellPut c k v) j = if j = k then v else cellAt c j := by
  have hr := ((cellsWf_iff c).1 h).1
  clear h
  induction c with
  | nil =>
    unfold cellPut
    split
    · subst ‹v = 0›
      simp [cellAt]
    · simp [cellAt, eq_comm]
  | cons y t ih =>
    obtain ⟨a, w⟩ := y
    have hp := List.pairwise_cons.1 hr
    have far : ∀ i, i ≤ a → cellAt t i = 0 := fun i hi => cellAt_eq_zero (fun x hx => Nat.ne_of_lt (Nat.lt_of_le_of_lt hi (hp.1 x hx)))
    unfold cellPut
    split
    · split
      · subst ‹v = 0›
        by_cases hj : j = k
        · subst hj
          have : ¬ a = j := by omega
          simp [cellAt, this, far j (by omega)]
        · simp [hj]
      · simp [cellAt, eq_comm]
    · split
      · subst ‹k = a›
        split
        · subst ‹v = 0›
          by_cases hj : j = k
          · subst hj
            simp [far j (Nat.le_refl _)]
          · have : ¬ k = j := fun e => hj e.symm
            simp [cellAt, hj, this]
        · by_cases hj : j = k
          · subst hj
            simp [cellAt]
          · have : ¬ k = j := fun e => hj e.symm
            simp [cellAt, hj, this]
      · by_cases ha : a = j
        · subst ha
          have : ¬ a = k := by omega
          simp [cellAt, this]
        · simp only [cellAt, if_neg ha]
          exact ih hp.2

/-- A read after a write of bytes: inside them the byte written, outside what was there. -/
theorem cellAt_writeCells {bs : List Byte} {c : List Host.Cell} (a j : Nat) (h : cellsWf c = true) :
    cellAt (writeCells c a bs) j = if a ≤ j ∧ j < a + bs.length then bs.getD (j - a) 0 else cellAt c j := by
  induction bs generalizing c a with
  | nil => rw [if_neg (by simp only [List.length_nil]; omega)]; rfl
  | cons b bs ih =>
    show cellAt (writeCells (cellPut c a b) (a + 1) bs) j = _
    rw [ih (a + 1) (cellPut_wf h), cellAt_cellPut a j b h]
    by_cases h1 : a + 1 ≤ j ∧ j < a + 1 + bs.length
    · rw [if_pos h1, if_pos (by simp; omega)]
      have : j - a = (j - (a + 1)) + 1 := by omega
      rw [this, List.getD_cons_succ]
    · rw [if_neg h1]
      by_cases h2 : j = a
      · subst h2
        rw [if_pos rfl, if_pos (by simp)]
        simp
      · rw [if_neg h2, if_neg (by simp; omega)]

theorem putCode_rising {t : Table Nat} {a d c : Nat} (h : rising t = true) : rising (putCode t a d c) = true := by
  unfold putCode
  split
  · exact rising_tdel h
  · exact rising_tput h

theorem Memory.wf_mk {c : List Host.Cell} {t : Table Nat} : Memory.wf { cells := c, codes := t } = true ↔ cellsWf c = true ∧ rising t = true := by
  simp [Memory.wf]

theorem Memory.storeWord_wf {m : Memory} {a d c : Nat} (h : m.wf = true) : (m.storeWord a d c).wf = true := by
  have := Memory.wf_mk.1 h
  exact Memory.wf_mk.2 ⟨writeCells_wf this.1, putCode_rising this.2⟩

theorem foldl_wf {α : Type} {f : Memory → α → Memory} (hf : ∀ m x, m.wf = true → (f m x).wf = true) {l : List α} {m : Memory} (h : m.wf = true) :
    (l.foldl f m).wf = true := by
  induction l generalizing m with
  | nil => exact h
  | cons x l ih => exact ih (hf m x h)

theorem Memory.fix_wf {m : Memory} {ws : List Nat} (h : m.wf = true) : (m.fix ws).wf = true := by
  refine foldl_wf (fun m a hm => ?_) h
  split
  · exact Memory.storeWord_wf hm
  · exact Memory.storeWord_wf hm
  · exact hm

theorem foldl_tdel_rising {ws : List Nat} {t : Table Nat} (h : rising t = true) : rising (ws.foldl (fun t w => tdel t (w / 4)) t) = true := by
  induction ws generalizing t with
  | nil => exact h
  | cons w ws ih => exact ih (rising_tdel h)

theorem Memory.write_wf {m : Memory} {a : Nat} {bs : List Byte} (h : m.wf = true) : (m.write a bs).wf = true := by
  unfold Memory.write
  refine foldl_wf (fun m w hm => Memory.storeWord_wf hm) ?_
  have h1 := Memory.wf_mk.1 (Memory.fix_wf (ws := (m.listed a bs.length).filter (fun w => decide (w < a ∨ a + bs.length < w + 4))) h)
  exact Memory.wf_mk.2 ⟨writeCells_wf h1.1, foldl_tdel_rising h1.2⟩

/-- Memory after reset has the canonical form. -/
theorem State.reset_mem_wf : State.reset.mem.wf = true := rfl

theorem erase_wf {m : Memory} (h : m.wf = true) :
    Memory.wf { cells := m.cells.filter (fun c => !inDram c.1), codes := tkeep m.codes (fun w _ => !inDram (4 * w)) } = true := by
  have h1 := Memory.wf_mk.1 h
  have h2 := (cellsWf_iff _).1 h1.1
  exact Memory.wf_mk.2 ⟨(cellsWf_iff _).2 ⟨h2.1.filter _, fun x hx => h2.2 x (List.mem_filter.1 hx).1⟩, rising_tkeep h1.2⟩

end Sys2Proof.Machine
end

