-- ==== Sys2Proof/Laws/UpdOps.lean ====
section
/-! SUPPORT. What each operation of Machine/Ops.lean touches and keeps. -/

namespace Sys2Proof.Machine

theorem State.wr_upd {s f v} : Upd 8 s (State.wr s f v) := Upd.refl.put_regs (by decide) rising_tput

theorem State.bump_upd {s x1 x2} : Upd 8 s (State.bump s x1 x2) := by
  unfold State.bump
  repeat' (first
    | with_reducible exact Upd.refl
    | (with_reducible apply Upd.via; with_reducible apply State.wr_upd; decide))

theorem State.addTo_upd {s x1 x2} : Upd 8 s (State.addTo s x1 x2) := by
  unfold State.addTo
  repeat' (first
    | with_reducible exact Upd.refl
    | (with_reducible apply Upd.via; with_reducible apply State.wr_upd; decide))

theorem State.flag_upd {s x1 x2} : Upd 8 s (State.flag s x1 x2) := by
  unfold State.flag
  repeat' (first
    | with_reducible exact Upd.refl
    | (with_reducible apply Upd.via; with_reducible apply State.wr_upd; decide))

theorem State.setBit_upd {s x1 x2 x3} : Upd 8 s (State.setBit s x1 x2 x3) := by
  unfold State.setBit
  repeat' (first
    | with_reducible exact Upd.refl
    | (intro u; clear_value u)
    | lift_lets
    | (with_reducible apply Upd.via; with_reducible apply State.wr_upd; decide))

theorem State.draw_upd {s w} : Upd2 1073741824 s (State.draw s w) := ⟨(Upd.refl : Upd 1073741824 s s).put_draws (by decide)⟩

theorem State.send_upd {s o} : Upd 536870912 s (State.send s o) := Upd.refl.put_out (by decide)

theorem State.emit_upd {s x1 x2 x3 x4} : Upd 536870912 s (State.emit s x1 x2 x3 x4) := by
  unfold State.emit
  repeat' (first
    | with_reducible exact Upd.refl
    | (with_reducible apply Upd.via; with_reducible apply State.send_upd; decide))

theorem State.updCollector_upd {s f} : Upd 32 s (State.updCollector s f) := Upd.refl.put_collector (by decide)

theorem State.updTrail_upd {s f} : Upd 64 s (State.updTrail s f) := Upd.refl.put_trail (by decide)

theorem State.updKennel_upd {s f} : Upd 524288 s (State.updKennel s f) := Upd.refl.put_kennel (by decide)

theorem State.updCollar_upd {s f} : Upd 1048576 s (State.updCollar s f) := Upd.refl.put_collar (by decide)

theorem State.updPanel_upd {s f} : Upd 4194304 s (State.updPanel s f) := Upd.refl.put_panel (by decide)

theorem State.updChip_upd {s f} : Upd 16777216 s (State.updChip s f) := Upd.refl.put_chip (by decide)

theorem State.updTelemetry_upd {s f} : Upd 33554432 s (State.updTelemetry s f) := Upd.refl.put_telemetry (by decide)

theorem State.updSmilia_upd {s f} : Upd 67108864 s (State.updSmilia s f) := Upd.refl.put_smilia (by decide)

theorem State.enterService_upd {s v k} : Upd 3 s (State.enterService s v k) := (Upd.refl.put_svc (x := v) (by decide)).put_heelRetains (by decide)

theorem State.setRtc_upd {s t} : Upd 4 s (State.setRtc s t) := Upd.refl.put_rtc (by decide)

theorem State.setLatch_upd {s k v} : Upd 16 s (State.setLatch s k v) := Upd.refl.put_latch (by decide) rising_tput

theorem State.advance_upd {s d} : Upd 2148007940 s (State.advance s d) :=
  ⟨rfl, Nat.le_add_right .., Nat.le_refl _, ⟨[], rfl⟩, id, fun p hp => by cases p <;> first | rfl | cases hp⟩

theorem State.advanceTo_upd {s x1} : Upd 2148007940 s (State.advanceTo s x1) := by
  unfold State.advanceTo
  repeat' (first
    | with_reducible exact Upd.refl
    | (with_reducible apply Upd.via; with_reducible apply State.advance_upd; decide))

theorem State.interrupt_upd {s x1} : Upd 8 s (State.interrupt s x1) := by
  unfold State.interrupt
  repeat' (first
    | with_reducible exact Upd.refl
    | (with_reducible apply Upd.via; with_reducible apply State.flag_upd; decide))

theorem State.deassert_upd {s x1} : Upd 8 s (State.deassert s x1) := by
  unfold State.deassert
  repeat' (first
    | with_reducible exact Upd.refl
    | (with_reducible apply Upd.via; with_reducible apply State.flag_upd; decide)
    | split)

theorem State.setDict_upd {s x1 x2 x3 x4} : Upd 134217728 s (State.setDict s x1 x2 x3 x4) := Upd.refl.put_dict (by decide) rising_tput

theorem State.dropDict_upd {s h} : Upd 402653184 s (State.dropDict s h) :=
  (Upd.refl.put_dict (x := tkeep s.dict (fun k _ => !h k)) (by decide) rising_tkeep).put_domains (by decide) rising_tkeep

theorem State.putPort_upd {s x1 x2} : Upd 64 s (State.putPort s x1 x2) := by
  unfold State.putPort
  repeat' (first
    | with_reducible exact Upd.refl
    | (with_reducible apply Upd.via; with_reducible apply State.updTrail_upd; decide))

theorem State.post_upd {s x1 x2} : Upd 72 s (State.post s x1 x2) := by
  unfold State.post
  repeat' (first
    | with_reducible exact Upd.refl
    | (intro u; clear_value u)
    | lift_lets
    | (with_reducible apply Upd.via; with_reducible apply State.bump_upd; decide)
    | (with_reducible apply Upd.via; with_reducible apply State.putPort_upd; decide)
    | split)

theorem State.trailRec_upd {s x1 x2 x3 x4} : Upd 72 s (State.trailRec s x1 x2 x3 x4) := by
  unfold State.trailRec
  repeat' (first
    | with_reducible exact Upd.refl
    | (with_reducible apply Upd.via; with_reducible apply State.post_upd; decide))

theorem State.stateRecord_upd {s x1 x2} : Upd 72 s (State.stateRecord s x1 x2) := by
  unfold State.stateRecord
  repeat' (first
    | with_reducible exact Upd.refl
    | (with_reducible apply Upd.via; with_reducible apply State.trailRec_upd; decide))

end Sys2Proof.Machine
end

