-- ==== Sys2Proof/Laws/UpdCollectorBase.lean ====
section
/-! SUPPORT. What each operation of Machine/CollectorBase.lean touches and keeps. -/

namespace Sys2Proof.Machine

theorem State.updRec_upd {s x1 x2} : Upd 32 s (State.updRec s x1 x2) := by
  unfold State.updRec
  repeat' (first
    | with_reducible exact Upd.refl
    | (with_reducible apply Upd.via; with_reducible apply State.updCollector_upd; decide))

theorem State.faultPulse_upd {s} : Upd 40 s (State.faultPulse s) := by
  unfold State.faultPulse
  repeat' (first
    | with_reducible exact Upd.refl
    | (intro u; clear_value u)
    | lift_lets
    | (with_reducible apply Upd.via; with_reducible apply State.flag_upd; decide)
    | (with_reducible apply Upd.via; with_reducible apply State.updCollector_upd; decide))

theorem State.faultTrail_upd {s x1 x2 x3 x4 x5 x6} : Upd 104 s (State.faultTrail s x1 x2 x3 x4 x5 x6) := by
  unfold State.faultTrail
  repeat' (first
    | with_reducible exact Upd.refl
    | (intro u; clear_value u)
    | lift_lets
    | (with_reducible apply Upd.via; with_reducible apply State.updRec_upd; decide)
    | (with_reducible apply Upd.via; with_reducible apply State.post_upd; decide)
    | split)

theorem State.detectBase_upd {s x1 x2 x3} : Upd1 104 s (State.detectBase s x1 x2 x3) := by
  unfold State.detectBase
  repeat' (first
    | with_reducible exact Upd.refl
    | (intro u; clear_value u)
    | lift_lets
    | split
    | (with_reducible apply Upd.via; with_reducible apply State.updRec_upd; decide)
    | (with_reducible apply Upd.via; with_reducible apply State.faultPulse_upd; decide)
    | (with_reducible apply Upd.via; with_reducible apply State.faultTrail_upd; decide)
    | (with_reducible apply Upd.via; with_reducible apply State.interrupt_upd; decide)
    | with_reducible refine Upd1.mk' ?_)

theorem State.note_upd {s x1 x2} : Upd 104 s (State.note s x1 x2) := by
  unfold State.note
  repeat' (first
    | with_reducible exact Upd.refl
    | (with_reducible apply Upd.via; with_reducible apply Upd.fst State.detectBase_upd; decide))

theorem State.fall_upd {s x1} : Upd 32 s (State.fall s x1) := by
  unfold State.fall
  repeat' (first
    | with_reducible exact Upd.refl
    | (with_reducible apply Upd.via; with_reducible apply State.updRec_upd; decide))

theorem State.openWindow_upd {s x1 x2 x3} : Upd 32 s (State.openWindow s x1 x2 x3) := by
  unfold State.openWindow
  repeat' (first
    | with_reducible exact Upd.refl
    | (with_reducible apply Upd.via; with_reducible apply State.updCollector_upd; decide))

theorem State.closeWindows_upd {s x1} : Upd 32 s (State.closeWindows s x1) := by
  unfold State.closeWindows
  repeat' (first
    | with_reducible exact Upd.refl
    | (with_reducible apply Upd.via; with_reducible apply State.updCollector_upd; decide))

end Sys2Proof.Machine
end

