-- ==== Sys2Proof/Laws/UpdPairs.lean ====
section
/-! SUPPORT. What each operation of Machine/Pairs.lean touches and keeps. -/

namespace Sys2Proof.Machine

theorem State.updCores_upd {s f} : Upd 131072 s (State.updCores s f) := Upd.refl.put_cores (by decide)

theorem State.updPair_upd {s x1 x2} : Upd 131072 s (State.updPair s x1 x2) := by
  unfold State.updPair
  repeat' (first
    | with_reducible exact Upd.refl
    | (with_reducible apply Upd.via; with_reducible apply State.updCores_upd; decide))

theorem State.dropClaims_upd {s x1} : Upd 131072 s (State.dropClaims s x1) := by
  unfold State.dropClaims
  repeat' (first
    | with_reducible exact Upd.refl
    | (with_reducible apply Upd.via; with_reducible apply State.updCores_upd; decide))

theorem State.losePair_upd {s x1} : Upd 131080 s (State.losePair s x1) := by
  unfold State.losePair
  repeat' (first
    | with_reducible exact Upd.refl
    | with_reducible assumption
    | (intro u; refine Upd.cut 131080 s u ?_ (fun _ => ?_); subst u; rotate_left; clear_value u; rotate_right)
    | (intro u; clear_value u)
    | lift_lets
    | (with_reducible apply Upd.via; with_reducible apply State.wr_upd; decide)
    | (with_reducible apply Upd.via; with_reducible apply State.interrupt_upd; decide)
    | (with_reducible apply Upd.via; with_reducible apply State.updPair_upd; decide)
    | (with_reducible apply Upd.via; with_reducible apply State.dropClaims_upd; decide)
    | split)

theorem State.dropOwn_upd {s x1} : Upd 131072 s (State.dropOwn s x1) := by
  unfold State.dropOwn
  repeat' (first
    | with_reducible exact Upd.refl
    | (with_reducible apply Upd.via; with_reducible apply State.updCores_upd; decide))

end Sys2Proof.Machine
end

