-- ==== Sys2Proof/Laws/UpdUnits.lean ====
section
/-! SUPPORT. What each operation of Machine/Units.lean touches and keeps. -/

namespace Sys2Proof.Machine

theorem State.updStitch_upd {s f} : Upd 1024 s (State.updStitch s f) := Upd.refl.put_stitch (by decide)

theorem State.updQueue_upd {s f} : Upd 512 s (State.updQueue s f) := Upd.refl.put_queue (by decide)

theorem State.updStaging_upd {s f} : Upd 2048 s (State.updStaging s f) := Upd.refl.put_staging (by decide)

theorem State.updShepherd_upd {s f} : Upd 4096 s (State.updShepherd s f) := Upd.refl.put_shepherd (by decide)

theorem State.updPack_upd {s f} : Upd 8192 s (State.updPack s f) := Upd.refl.put_pack (by decide)

theorem State.updAwl_upd {s f} : Upd 65536 s (State.updAwl s f) := Upd.refl.put_awl (by decide)

theorem State.updSouth_upd {s f} : Upd 16384 s (State.updSouth s f) := Upd.refl.put_south (by decide)

theorem State.updKeys_upd {s f} : Upd 32768 s (State.updKeys s f) := Upd.refl.put_keys (by decide)

theorem State.updFlash_upd {s f} : Upd 262144 s (State.updFlash s f) := Upd.refl.put_flash (by decide)

theorem State.journal_upd {s x1 x2} : Upd 262144 s (State.journal s x1 x2) := by
  unfold State.journal
  dsimp only
  repeat' (first
    | with_reducible exact Upd.refl
    | with_reducible assumption
    | with_reducible refine Upd.foldl ?_ (fun _ _ _ => ?_)
    | (with_reducible apply Upd.via; with_reducible apply State.updFlash_upd; decide)
    | split)

theorem State.setStu_upd {s x1 x2} : Upd 8 s (State.setStu s x1 x2) := by
  unfold State.setStu
  repeat' (first
    | with_reducible exact Upd.refl
    | (with_reducible apply Upd.via; with_reducible apply State.wr_upd; decide))

theorem State.setSpg_upd {s x1 x2} : Upd 8192 s (State.setSpg s x1 x2) := by
  unfold State.setSpg
  repeat' (first
    | with_reducible exact Upd.refl
    | (with_reducible apply Upd.via; with_reducible apply State.updPack_upd; decide))

theorem State.setAwl_upd {s x1 x2} : Upd 8 s (State.setAwl s x1 x2) := by
  unfold State.setAwl
  repeat' (first
    | with_reducible exact Upd.refl
    | (with_reducible apply Upd.via; with_reducible apply State.wr_upd; decide))

theorem State.useKey_upd {s x1 x2} : Upd 32768 s (State.useKey s x1 x2) := by
  unfold State.useKey
  repeat' (first
    | with_reducible exact Upd.refl
    | (with_reducible apply Upd.via; with_reducible apply State.updKeys_upd; decide))

theorem State.setExtent_upd {s x1 x2} : Upd 512 s (State.setExtent s x1 x2) := by
  unfold State.setExtent
  repeat' (first
    | with_reducible exact Upd.refl
    | (with_reducible apply Upd.via; with_reducible apply State.updQueue_upd; decide))

theorem State.updExtent_upd {s x1 x2} : Upd 512 s (State.updExtent s x1 x2) := by
  unfold State.updExtent
  repeat' (first
    | with_reducible exact Upd.refl
    | (with_reducible apply Upd.via; with_reducible apply State.updQueue_upd; decide))

theorem State.setObject_upd {s x1 x2} : Upd 512 s (State.setObject s x1 x2) := by
  unfold State.setObject
  repeat' (first
    | with_reducible exact Upd.refl
    | (with_reducible apply Upd.via; with_reducible apply State.updQueue_upd; decide))

theorem State.updRanges_upd {s x1 x2} : Upd 16896 s (State.updRanges s x1 x2) := by
  unfold State.updRanges
  repeat' (first
    | with_reducible exact Upd.refl
    | (with_reducible apply Upd.via; with_reducible apply State.updSouth_upd; decide)
    | (with_reducible apply Upd.via; with_reducible apply State.setExtent_upd; decide)
    | split)

theorem State.setLead_upd {s x1 x2} : Upd 16896 s (State.setLead s x1 x2) := by
  unfold State.setLead
  repeat' (first
    | with_reducible exact Upd.refl
    | (with_reducible apply Upd.via; with_reducible apply State.updSouth_upd; decide)
    | (with_reducible apply Upd.via; with_reducible apply State.setExtent_upd; decide)
    | split)

theorem State.assign_upd {s x1 x2 x3} : Upd 17928 s (State.assign s x1 x2 x3) := by
  unfold State.assign
  repeat' (first
    | with_reducible exact Upd.refl
    | with_reducible assumption
    | (intro u; refine Upd.cut 17928 s u ?_ (fun _ => ?_); subst u; rotate_left; clear_value u; rotate_right)
    | lift_lets
    | (with_reducible apply Upd.via; with_reducible apply State.setBit_upd; decide)
    | (with_reducible apply Upd.via; with_reducible apply State.updStitch_upd; decide)
    | (with_reducible apply Upd.via; with_reducible apply State.setStu_upd; decide)
    | (with_reducible apply Upd.via; with_reducible apply State.updRanges_upd; decide))

theorem State.placeRerun_upd {s x1 x2 x3} : Upd1 17928 s (State.placeRerun s x1 x2 x3) := by
  unfold State.placeRerun
  dsimp only
  repeat' (first
    | with_reducible exact Upd.refl
    | (with_reducible apply Upd.via; with_reducible apply State.updStitch_upd; decide)
    | (with_reducible apply Upd.via; with_reducible apply State.updRanges_upd; decide)
    | (with_reducible apply Upd.via; with_reducible apply State.assign_upd; decide)
    | with_reducible refine Upd1.mk' ?_
    | split)

theorem State.placeRange_upd {s x1 x2 x3 x4} : Upd1 17928 s (State.placeRange s x1 x2 x3 x4) := by
  unfold State.placeRange
  repeat' (first
    | with_reducible exact Upd.refl
    | (with_reducible apply Upd.via; with_reducible apply State.assign_upd; decide)
    | (with_reducible apply Upd.via; with_reducible apply Upd.fst State.placeRerun_upd; decide)
    | with_reducible refine Upd1.mk' ?_
    | split)

theorem State.fixLead_upd {s x1} : Upd 16896 s (State.fixLead s x1) := by
  unfold State.fixLead
  repeat' (first
    | with_reducible exact Upd.refl
    | (with_reducible apply Upd.via; with_reducible apply State.setLead_upd; decide)
    | split)

theorem State.rerun_upd {s x1 x2} : Upd 17928 s (State.rerun s x1 x2) := by
  unfold State.rerun
  repeat' (first
    | with_reducible exact Upd.refl
    | with_reducible assumption
    | (intro u; refine Upd.cut 17928 s u ?_ (fun _ => ?_); subst u; rotate_left; clear_value u; rotate_right)
    | (intro u; clear_value u)
    | lift_lets
    | with_reducible refine Upd.fst (Upd1.foldl ?_ (fun _ _ _ => ?_))
    | split
    | (with_reducible apply Upd.via; with_reducible apply State.updRanges_upd; decide)
    | (with_reducible apply Upd.via; with_reducible apply State.setLead_upd; decide)
    | (with_reducible apply Upd.via; with_reducible apply State.fixLead_upd; decide)
    | (with_reducible apply Upd1.via; with_reducible apply State.placeRange_upd; decide)
    | with_reducible refine Upd1.mk' ?_
    | with_reducible exact Upd.fst (by assumption))

theorem State.clearCtxs_upd {s x1} : Upd1 1032 s (State.clearCtxs s x1) := by
  unfold State.clearCtxs
  repeat' (first
    | with_reducible exact Upd.refl
    | with_reducible assumption
    | (intro u; refine Upd.cut 1032 s u ?_ (fun _ => ?_); subst u; rotate_left; clear_value u; rotate_right)
    | (intro u; clear_value u)
    | lift_lets
    | (with_reducible apply Upd.via; with_reducible apply State.wr_upd; decide)
    | (with_reducible apply Upd.via; with_reducible apply State.updStitch_upd; decide)
    | with_reducible refine Upd1.mk' ?_)

theorem State.stopStitch_upd {s x1 x2} : Upd 17928 s (State.stopStitch s x1 x2) := by
  unfold State.stopStitch
  repeat' (first
    | with_reducible exact Upd.refl
    | with_reducible assumption
    | lift_lets
    | with_reducible refine Upd.foldl ?_ (fun _ _ _ => ?_)
    | (with_reducible apply Upd.via; with_reducible apply State.setStu_upd; decide)
    | (with_reducible apply Upd.via; with_reducible apply State.rerun_upd; decide)
    | (with_reducible apply Upd.via; with_reducible apply Upd.fst State.clearCtxs_upd; decide))

theorem State.stuCode_upd {s x1 x2} : Upd 8 s (State.stuCode s x1 x2) := by
  unfold State.stuCode
  repeat' (first
    | with_reducible exact Upd.refl
    | with_reducible assumption
    | (intro u; refine Upd.cut 8 s u ?_ (fun _ => ?_); subst u; rotate_left; clear_value u; rotate_right)
    | lift_lets
    | (with_reducible apply Upd.via; with_reducible apply State.wr_upd; decide)
    | (with_reducible apply Upd.via; with_reducible apply State.flag_upd; decide)
    | split)

theorem State.setOut_upd {s x1 x2 x3} : Upd 8 s (State.setOut s x1 x2 x3) := by
  unfold State.setOut
  repeat' (first
    | with_reducible exact Upd.refl
    | (with_reducible apply Upd.via; with_reducible apply State.wr_upd; decide)
    | (with_reducible apply Upd.via; with_reducible apply State.flag_upd; decide)
    | split)

theorem State.beginRolling_upd {s x1 x2} : Upd 74760 s (State.beginRolling s x1 x2) := by
  unfold State.beginRolling
  repeat' (first
    | with_reducible exact Upd.refl
    | split
    | (with_reducible apply Upd.via; with_reducible apply State.updStitch_upd; decide)
    | (with_reducible apply Upd.via; with_reducible apply State.updPack_upd; decide)
    | (with_reducible apply Upd.via; with_reducible apply State.updAwl_upd; decide)
    | (with_reducible apply Upd.via; with_reducible apply State.setStu_upd; decide)
    | (with_reducible apply Upd.via; with_reducible apply State.setSpg_upd; decide)
    | (with_reducible apply Upd.via; with_reducible apply State.setAwl_upd; decide)
    | (with_reducible apply Upd.via; with_reducible apply Upd.fst State.clearCtxs_upd; decide)
    | (with_reducible apply Upd.via; with_reducible apply State.setOut_upd; decide))

theorem State.settleTest_upd {s x1 x2} : Upd 74760 s (State.settleTest s x1 x2) := by
  unfold State.settleTest
  repeat' (first
    | with_reducible exact Upd.refl
    | (with_reducible apply Upd.via; with_reducible apply State.beginRolling_upd; decide)
    | split)

theorem State.settleCore_upd {s x1} : Upd 74760 s (State.settleCore s x1) := by
  unfold State.settleCore
  repeat' (first
    | with_reducible exact Upd.refl
    | (with_reducible apply Upd.via; with_reducible apply State.setSpg_upd; decide)
    | (with_reducible apply Upd.via; with_reducible apply State.settleTest_upd; decide)
    | split)

theorem State.moveJobs_upd {s x1} : Upd 75272 s (State.moveJobs s x1) := by
  unfold State.moveJobs
  dsimp only
  repeat' (first
    | with_reducible exact Upd.refl
    | with_reducible assumption
    | with_reducible refine Upd.foldl ?_ (fun _ _ _ => ?_)
    | (with_reducible apply Upd.via; with_reducible apply State.updQueue_upd; decide)
    | (with_reducible apply Upd.via; with_reducible apply State.updPack_upd; decide)
    | (with_reducible apply Upd.via; with_reducible apply State.setSpg_upd; decide)
    | (with_reducible apply Upd.via; with_reducible apply State.settleCore_upd; decide)
    | split)

theorem State.stopSponge_upd {s x1 x2} : Upd 75272 s (State.stopSponge s x1 x2) := by
  unfold State.stopSponge
  repeat' (first
    | with_reducible exact Upd.refl
    | (with_reducible apply Upd.via; with_reducible apply State.setSpg_upd; decide)
    | (with_reducible apply Upd.via; with_reducible apply State.moveJobs_upd; decide))

theorem State.abandonRetraining_upd {s x1} : Upd 2152 s (State.abandonRetraining s x1) := by
  unfold State.abandonRetraining
  repeat' (first
    | with_reducible exact Upd.refl
    | with_reducible assumption
    | (intro u; refine Upd.cut 2152 s u ?_ (fun _ => ?_); subst u; rotate_left; clear_value u; rotate_right)
    | lift_lets
    | (with_reducible apply Upd.via; with_reducible apply State.note_upd; decide)
    | (with_reducible apply Upd.via; with_reducible apply State.setBit_upd; decide)
    | (with_reducible apply Upd.via; with_reducible apply State.updStaging_upd; decide))

theorem State.loseChannel_upd {s x1} : Upd 19048 s (State.loseChannel s x1) := by
  unfold State.loseChannel
  dsimp only
  repeat' (first
    | with_reducible exact Upd.refl
    | (with_reducible apply Upd.via; with_reducible apply State.note_upd; decide)
    | (with_reducible apply Upd.via; with_reducible apply State.setBit_upd; decide)
    | (with_reducible apply Upd.via; with_reducible apply State.updQueue_upd; decide)
    | (with_reducible apply Upd.via; with_reducible apply State.updStaging_upd; decide)
    | (with_reducible apply Upd.via; with_reducible apply State.updSouth_upd; decide)
    | (with_reducible apply Upd.via; with_reducible apply State.abandonRetraining_upd; decide)
    | split)

theorem State.reissue_upd {s x1} : Upd 65544 s (State.reissue s x1) := by
  unfold State.reissue
  repeat' (first
    | with_reducible exact Upd.refl
    | (with_reducible apply Upd.via; with_reducible apply State.bump_upd; decide)
    | (with_reducible apply Upd.via; with_reducible apply State.updAwl_upd; decide))

theorem State.clearOperand_upd {s x1} : Upd 65536 s (State.clearOperand s x1) := by
  unfold State.clearOperand
  repeat' (first
    | with_reducible exact Upd.refl
    | (with_reducible apply Upd.via; with_reducible apply State.updAwl_upd; decide))

theorem State.layOperand_upd {s x1 x2 x3} : Upd 65536 s (State.layOperand s x1 x2 x3) := by
  unfold State.layOperand
  repeat' (first
    | with_reducible exact Upd.refl
    | with_reducible assumption
    | (intro u; clear_value u)
    | lift_lets
    | with_reducible refine Upd.foldl ?_ (fun _ _ _ => ?_)
    | (with_reducible apply Upd.via; with_reducible apply State.updAwl_upd; decide))

theorem State.dropRun_upd {s x1} : Upd 65544 s (State.dropRun s x1) := by
  unfold State.dropRun
  repeat' (first
    | with_reducible exact Upd.refl
    | with_reducible assumption
    | (intro u; refine Upd.cut 65544 s u ?_ (fun _ => ?_); subst u; rotate_left; clear_value u; rotate_right)
    | lift_lets
    | (with_reducible apply Upd.via; with_reducible apply State.updAwl_upd; decide)
    | (with_reducible apply Upd.via; with_reducible apply State.setAwl_upd; decide)
    | (with_reducible apply Upd.via; with_reducible apply State.reissue_upd; decide)
    | (with_reducible apply Upd.via; with_reducible apply State.clearOperand_upd; decide)
    | split
    | dsimp only)

theorem State.stopAwl_upd {s x1 x2} : Upd 65544 s (State.stopAwl s x1 x2) := by
  unfold State.stopAwl
  repeat' (first
    | with_reducible exact Upd.refl
    | (with_reducible apply Upd.via; with_reducible apply State.setAwl_upd; decide)
    | (with_reducible apply Upd.via; with_reducible apply State.dropRun_upd; decide))

theorem State.stopPair_upd {s x1} : Upd 131080 s (State.stopPair s x1) := by
  unfold State.stopPair
  repeat' (first
    | with_reducible exact Upd.refl
    | (with_reducible apply Upd.via; with_reducible apply State.losePair_upd; decide)
    | split)

end Sys2Proof.Machine
end

