-- ==== Sys2Proof/Laws/UpdCollector.lean ====
section
/-! SUPPORT. What each operation of Machine/Collector.lean touches and keeps. -/

namespace Sys2Proof.Machine

theorem State.quarantineUnit_upd {s x1} : Upd 224872 s (State.quarantineUnit s x1) := by
  unfold State.quarantineUnit
  repeat' (first
    | with_reducible exact Upd.refl
    | (with_reducible apply Upd.via; with_reducible apply State.stopStitch_upd; decide)
    | (with_reducible apply Upd.via; with_reducible apply State.stopSponge_upd; decide)
    | (with_reducible apply Upd.via; with_reducible apply State.loseChannel_upd; decide)
    | (with_reducible apply Upd.via; with_reducible apply State.stopAwl_upd; decide)
    | (with_reducible apply Upd.via; with_reducible apply State.stopPair_upd; decide)
    | split)

theorem State.resetUnit_upd {s x1} : Upd 91656 s (State.resetUnit s x1) := by
  unfold State.resetUnit
  repeat' (first
    | with_reducible exact Upd.refl
    | (with_reducible apply Upd.via; with_reducible apply State.updStitch_upd; decide)
    | (with_reducible apply Upd.via; with_reducible apply State.updQueue_upd; decide)
    | (with_reducible apply Upd.via; with_reducible apply State.updPack_upd; decide)
    | (with_reducible apply Upd.via; with_reducible apply State.updAwl_upd; decide)
    | (with_reducible apply Upd.via; with_reducible apply State.updSouth_upd; decide)
    | (with_reducible apply Upd.via; with_reducible apply State.stopStitch_upd; decide)
    | (with_reducible apply Upd.via; with_reducible apply State.stopSponge_upd; decide)
    | (with_reducible apply Upd.via; with_reducible apply State.stopAwl_upd; decide)
    | split)

theorem State.enterSafe_upd {s x1} : Upd 107624 s (State.enterSafe s x1) := by
  unfold State.enterSafe
  repeat' (first
    | with_reducible exact Upd.refl
    | with_reducible assumption
    | (intro u; refine Upd.cut 107624 s u ?_ (fun _ => ?_); subst u; rotate_left; clear_value u; rotate_right)
    | (intro u; clear_value u)
    | lift_lets
    | with_reducible refine Upd.foldl ?_ (fun _ _ _ => ?_)
    | split
    | (with_reducible apply Upd.via; with_reducible apply State.wr_upd; decide)
    | (with_reducible apply Upd.via; with_reducible apply State.flag_upd; decide)
    | (with_reducible apply Upd.via; with_reducible apply State.updCollector_upd; decide)
    | (with_reducible apply Upd.via; with_reducible apply State.interrupt_upd; decide)
    | (with_reducible apply Upd.via; with_reducible apply State.stateRecord_upd; decide)
    | (with_reducible apply Upd.via; with_reducible apply State.updPack_upd; decide)
    | (with_reducible apply Upd.via; with_reducible apply State.updAwl_upd; decide)
    | (with_reducible apply Upd.via; with_reducible apply State.updKeys_upd; decide)
    | (with_reducible apply Upd.via; with_reducible apply State.setStu_upd; decide)
    | (with_reducible apply Upd.via; with_reducible apply State.setSpg_upd; decide)
    | (with_reducible apply Upd.via; with_reducible apply Upd.fst State.clearCtxs_upd; decide)
    | (with_reducible apply Upd.via; with_reducible apply State.stopAwl_upd; decide))

theorem State.detect_upd {s x1 x2 x3} : Upd 257640 s (State.detect s x1 x2 x3) := by
  unfold State.detect
  repeat' (first
    | with_reducible exact Upd.refl
    | (intro u; clear_value u)
    | lift_lets
    | (with_reducible apply Upd.via; with_reducible apply State.quarantineUnit_upd; decide)
    | (with_reducible apply Upd.via; with_reducible apply State.resetUnit_upd; decide)
    | (with_reducible apply Upd.via; with_reducible apply State.enterSafe_upd; decide)
    | (with_reducible apply Upd.via; with_reducible apply State.openWindow_upd; decide)
    | (with_reducible apply Upd1.via; with_reducible apply State.detectBase_upd; decide)
    | split
    | (with_reducible apply Upd.fstOf'; with_reducible assumption)
    | dsimp only)

theorem State.raise_upd {s x1 x2} : Upd 257640 s (State.raise s x1 x2) := by
  unfold State.raise
  repeat' (first
    | with_reducible exact Upd.refl
    | (with_reducible apply Upd.via; with_reducible apply State.detect_upd; decide))

theorem State.nestedError_upd {s x1} : Upd 257640 s (State.nestedError s x1) := by
  unfold State.nestedError
  repeat' (first
    | with_reducible exact Upd.refl
    | with_reducible assumption
    | (intro u; refine Upd.cut 257640 s u ?_ (fun _ => ?_); subst u; rotate_left; clear_value u; rotate_right)
    | lift_lets
    | (with_reducible apply Upd.via; with_reducible apply State.raise_upd; decide)
    | (with_reducible apply Upd.via; with_reducible apply State.updRec_upd; decide)
    | split)

end Sys2Proof.Machine
end

