-- ==== Sys2Proof/Laws/UpdMemory.lean ====
section
/-! SUPPORT. What each operation of Machine/Memory.lean touches and keeps. -/

namespace Sys2Proof.Machine

theorem State.dropReserved_upd {s a n f} : Upd 131072 s (State.dropReserved s a n f) := Upd.refl.put_cores (by decide)

theorem State.putWord_upd {s a d c} : Upd 128 s (State.putWord s a d c) := Upd.refl.put_mem (by decide) Memory.storeWord_wf

theorem State.putFresh_upd {s a bs} : Upd 128 s (State.putFresh s a bs) := Upd.refl.put_mem (by decide) Memory.write_wf

theorem State.storeMem_upd {s x1 x2} : Upd 136 s (State.storeMem s x1 x2) := by
  unfold State.storeMem
  repeat' (first
    | with_reducible exact Upd.refl
    | with_reducible assumption
    | (intro u; refine Upd.cut 136 s u ?_ (fun _ => ?_); subst u; rotate_left; clear_value u; rotate_right)
    | (intro u; clear_value u)
    | lift_lets
    | (with_reducible apply Upd.via; with_reducible apply State.putWord_upd; decide)
    | (with_reducible apply Upd.via; with_reducible apply State.putFresh_upd; decide)
    | (with_reducible apply Upd.via; with_reducible apply State.flag_upd; decide)
    | split)

theorem State.writeMem_upd {s x1 x2} : Upd 131208 s (State.writeMem s x1 x2) := by
  unfold State.writeMem
  repeat' (first
    | with_reducible exact Upd.refl
    | (with_reducible apply Upd.via; with_reducible apply State.dropReserved_upd; decide)
    | (with_reducible apply Upd.via; with_reducible apply State.storeMem_upd; decide))

theorem State.writePayload_upd {s x1 x2 x3 x4 x5} : Upd 131208 s (State.writePayload s x1 x2 x3 x4 x5) := by
  fun_induction State.writePayload s x1 x2 x3 x4 x5
  all_goals repeat' (first
    | with_reducible exact Upd.refl
    | lift_lets
    | (with_reducible apply Upd.via; with_reducible apply State.writeMem_upd; decide)
    | with_reducible refine Upd.via (by assumption) (by decide) ?_)

end Sys2Proof.Machine
end

