-- ==== Sys2Proof/Laws/UpdRecords.lean ====
section
/-! SUPPORT. What each operation of Machine/Records.lean touches and keeps. -/

namespace Sys2Proof.Machine

theorem State.setChan_upd {s x1 x2} : Upd 2048 s (State.setChan s x1 x2) := by
  unfold State.setChan
  repeat' (first
    | with_reducible exact Upd.refl
    | (with_reducible apply Upd.via; with_reducible apply State.updStaging_upd; decide))

theorem State.retirePage_upd {s x1 x2} : Upd 19048 s (State.retirePage s x1 x2) := by
  unfold State.retirePage
  repeat' (first
    | with_reducible exact Upd.refl
    | (intro u; clear_value u)
    | lift_lets
    | (with_reducible apply Upd.via; with_reducible apply State.note_upd; decide)
    | (with_reducible apply Upd.via; with_reducible apply State.trailRec_upd; decide)
    | (with_reducible apply Upd.via; with_reducible apply State.setChan_upd; decide)
    | (with_reducible apply Upd.via; with_reducible apply State.updStaging_upd; decide)
    | (with_reducible apply Upd.via; with_reducible apply State.loseChannel_upd; decide)
    | split)

theorem State.endMoves_upd {s} : Upd 19048 s (State.endMoves s) := by
  unfold State.endMoves
  repeat' (first
    | with_reducible exact Upd.refl
    | with_reducible assumption
    | (intro u; clear_value u)
    | lift_lets
    | with_reducible refine Upd.foldl ?_ (fun _ _ _ => ?_)
    | (with_reducible apply Upd.via; with_reducible apply State.retirePage_upd; decide)
    | (with_reducible apply Upd.via; with_reducible apply State.updStaging_upd; decide))

theorem State.writeMeta_upd {s x1 x2 x3} : Upd 131208 s (State.writeMeta s x1 x2 x3) := by
  unfold State.writeMeta
  repeat' (first
    | with_reducible exact Upd.refl
    | (with_reducible apply Upd.via; with_reducible apply State.writePayload_upd; decide))

theorem State.putMeta_upd {s x1 x2} : Upd 133256 s (State.putMeta s x1 x2) := by
  unfold State.putMeta
  repeat' (first
    | with_reducible exact Upd.refl
    | with_reducible assumption
    | (intro u; refine Upd.cut 133256 s u ?_ (fun _ => ?_); subst u; rotate_left; clear_value u; rotate_right)
    | lift_lets
    | (with_reducible apply Upd.via; with_reducible apply State.writeMeta_upd; decide)
    | (with_reducible apply Upd.via; with_reducible apply State.updStaging_upd; decide)
    | split
    | dsimp only)

theorem State.fileExtent_upd {s x1} : Upd 133256 s (State.fileExtent s x1) := by
  unfold State.fileExtent
  repeat' (first
    | with_reducible exact Upd.refl
    | (with_reducible apply Upd.via; with_reducible apply State.putMeta_upd; decide)
    | split)

theorem State.rewriteMeta_upd {s x1 x2} : Upd 150248 s (State.rewriteMeta s x1 x2) := by
  unfold State.rewriteMeta
  dsimp only
  repeat' (first
    | with_reducible exact Upd.refl
    | (with_reducible apply Upd.via; with_reducible apply State.writeMem_upd; decide)
    | (with_reducible apply Upd.via; with_reducible apply State.retirePage_upd; decide)
    | (with_reducible apply Upd.via; with_reducible apply State.updStaging_upd; decide)
    | split)

end Sys2Proof.Machine
end

