-- ==== Sys2Proof/Laws/UpdPlacement.lean ====
section
/-! SUPPORT. What each operation of Machine/Placement.lean touches and keeps. -/

namespace Sys2Proof.Machine

theorem State.setMedia_upd {s x1 x2} : Upd 4096 s (State.setMedia s x1 x2) := by
  unfold State.setMedia
  repeat' (first
    | with_reducible exact Upd.refl
    | (with_reducible apply Upd.via; with_reducible apply State.updShepherd_upd; decide))

theorem State.writeMedia_upd {s x1 x2} : Upd 4096 s (State.writeMedia s x1 x2) := by
  unfold State.writeMedia
  repeat' (first
    | with_reducible exact Upd.refl
    | (with_reducible apply Upd.via; with_reducible apply State.setMedia_upd; decide))

theorem State.setShelf_upd {s x1 x2} : Upd 4096 s (State.setShelf s x1 x2) := by
  unfold State.setShelf
  repeat' (first
    | with_reducible exact Upd.refl
    | (with_reducible apply Upd.via; with_reducible apply State.updShepherd_upd; decide))

theorem State.addAlloc_upd {s x1 x2} : Upd 4096 s (State.addAlloc s x1 x2) := by
  unfold State.addAlloc
  repeat' (first
    | with_reducible exact Upd.refl
    | with_reducible assumption
    | (intro u; refine Upd.cut 4096 s u ?_ (fun _ => ?_); subst u; rotate_left; clear_value u; rotate_right)
    | (intro u; clear_value u)
    | lift_lets
    | (with_reducible apply Upd.via; with_reducible apply State.setMedia_upd; decide)
    | (with_reducible apply Upd.via; with_reducible apply State.setShelf_upd; decide))

theorem State.subAlloc_upd {s x1 x2} : Upd 4096 s (State.subAlloc s x1 x2) := by
  unfold State.subAlloc
  repeat' (first
    | with_reducible exact Upd.refl
    | (intro u; clear_value u)
    | lift_lets
    | (with_reducible apply Upd.via; with_reducible apply State.setMedia_upd; decide))

theorem State.subPending_upd {s x1 x2} : Upd 4096 s (State.subPending s x1 x2) := by
  unfold State.subPending
  repeat' (first
    | with_reducible exact Upd.refl
    | (intro u; clear_value u)
    | lift_lets
    | (with_reducible apply Upd.via; with_reducible apply State.setShelf_upd; decide))

theorem State.noteRelaxed_upd {s x1 x2} : Upd 72 s (State.noteRelaxed s x1 x2) := by
  unfold State.noteRelaxed
  repeat' (first
    | with_reducible exact Upd.refl
    | (with_reducible apply Upd.via; with_reducible apply State.bump_upd; decide)
    | (with_reducible apply Upd.via; with_reducible apply State.trailRec_upd; decide))

end Sys2Proof.Machine
end

