-- ==== Sys2Proof/Laws/UpdSelfTest.lean ====
section
/-! SUPPORT. What each operation of Machine/SelfTest.lean touches and keeps. -/

namespace Sys2Proof.Machine

theorem State.testRecord_upd {s x1 x2 x3 x4 x5} : Upd 72 s (State.testRecord s x1 x2 x3 x4 x5) := by
  unfold State.testRecord
  repeat' (first
    | with_reducible exact Upd.refl
    | (with_reducible apply Upd.via; with_reducible apply State.trailRec_upd; decide))

theorem State.settleStitch_upd {s x1} : Upd 74760 s (State.settleStitch s x1) := by
  unfold State.settleStitch
  repeat' (first
    | with_reducible exact Upd.refl
    | (with_reducible apply Upd.via; with_reducible apply State.setStu_upd; decide)
    | (with_reducible apply Upd.via; with_reducible apply State.settleTest_upd; decide)
    | split)

theorem State.dropCtx_upd {s x1 x2} : Upd 91656 s (State.dropCtx s x1 x2) := by
  unfold State.dropCtx
  repeat' (first
    | with_reducible exact Upd.refl
    | with_reducible assumption
    | (intro u; refine Upd.cut 91656 s u ?_ (fun _ => ?_); subst u; rotate_left; clear_value u; rotate_right)
    | lift_lets
    | (with_reducible apply Upd.via; with_reducible apply State.setBit_upd; decide)
    | (with_reducible apply Upd.via; with_reducible apply State.settleStitch_upd; decide)
    | (with_reducible apply Upd.via; with_reducible apply State.updStitch_upd; decide)
    | (with_reducible apply Upd.via; with_reducible apply State.assign_upd; decide)
    | split)

theorem State.abortJobs_upd {s x1} : Upd 91656 s (State.abortJobs s x1) := by
  unfold State.abortJobs
  repeat' (first
    | with_reducible exact Upd.refl
    | with_reducible assumption
    | (intro u; refine Upd.cut 91656 s u ?_ (fun _ => ?_); subst u; rotate_left; clear_value u; rotate_right)
    | lift_lets
    | with_reducible refine Upd.foldl ?_ (fun _ _ _ => ?_)
    | (with_reducible apply Upd.via; with_reducible apply State.dropCtx_upd; decide)
    | (with_reducible apply Upd.via; with_reducible apply State.updStitch_upd; decide)
    | (with_reducible apply Upd.via; with_reducible apply State.stuCode_upd; decide)
    | split)

theorem State.dueAgain_upd {s x1 x2} : Upd 4096 s (State.dueAgain s x1 x2) := by
  unfold State.dueAgain
  repeat' (first
    | with_reducible exact Upd.refl
    | (with_reducible apply Upd.via; with_reducible apply State.updShepherd_upd; decide))

theorem State.backInService_upd {s x1 x2} : Upd 4096 s (State.backInService s x1 x2) := by
  unfold State.backInService
  repeat' (first
    | with_reducible exact Upd.refl
    | (with_reducible apply Upd.via; with_reducible apply State.dueAgain_upd; decide)
    | split)

theorem State.testEnded_upd {s x1 x2} : Upd 4104 s (State.testEnded s x1 x2) := by
  unfold State.testEnded
  repeat' (first
    | with_reducible exact Upd.refl
    | (intro u; clear_value u)
    | lift_lets
    | (with_reducible apply Upd.via; with_reducible apply State.dueAgain_upd; decide)
    | (with_reducible apply Upd.via; with_reducible apply State.updShepherd_upd; decide)
    | (with_reducible apply Upd.via; with_reducible apply State.setOut_upd; decide))

theorem execRollingSelftestGrant_upd {x0 x1 x2 s} : UpdO 78856 s (execRollingSelftestGrant x0 x1 x2 s) := by
  unfold execRollingSelftestGrant
  repeat' (first
    | with_reducible exact Upd.refl
    | (intro u; clear_value u)
    | lift_lets
    | (with_reducible apply Upd.via; with_reducible apply State.updShepherd_upd; decide)
    | (with_reducible apply Upd.via; with_reducible apply State.settleTest_upd; decide)
    | with_reducible refine UpdO.mk' ?_
    | split)

theorem execRollingSelftestWithdraw_upd {x0 x1 s} : UpdO 2148012036 s (execRollingSelftestWithdraw x0 x1 s) := by
  unfold execRollingSelftestWithdraw
  repeat' (first
    | with_reducible exact Upd.refl
    | with_reducible assumption
    | (intro u; refine Upd.cut 2148012036 s u ?_ (fun _ => ?_); subst u; rotate_left; clear_value u; rotate_right)
    | (intro u; clear_value u)
    | lift_lets
    | (with_reducible apply Upd.via; with_reducible apply State.advanceTo_upd; decide)
    | (with_reducible apply Upd.via; with_reducible apply State.updShepherd_upd; decide)
    | with_reducible refine UpdO.mk' ?_
    | split)

theorem State.beginCommanded_upd {s x1 x2} : Upd 205832 s (State.beginCommanded s x1 x2) := by
  unfold State.beginCommanded
  repeat' (first
    | with_reducible exact Upd.refl
    | split
    | (with_reducible apply Upd.via; with_reducible apply State.wr_upd; decide)
    | (with_reducible apply Upd.via; with_reducible apply State.updPair_upd; decide)
    | (with_reducible apply Upd.via; with_reducible apply State.updStitch_upd; decide)
    | (with_reducible apply Upd.via; with_reducible apply State.updPack_upd; decide)
    | (with_reducible apply Upd.via; with_reducible apply State.updAwl_upd; decide)
    | (with_reducible apply Upd.via; with_reducible apply State.setStu_upd; decide)
    | (with_reducible apply Upd.via; with_reducible apply State.setSpg_upd; decide)
    | (with_reducible apply Upd.via; with_reducible apply Upd.fst State.clearCtxs_upd; decide)
    | (with_reducible apply Upd.via; with_reducible apply State.stopAwl_upd; decide))

theorem State.startTests_upd {s} : Upd 16987144 s (State.startTests s) := by
  unfold State.startTests
  repeat' (first
    | with_reducible exact Upd.refl
    | with_reducible assumption
    | (intro u; refine Upd.cut 16987144 s u ?_ (fun _ => ?_); subst u; rotate_left; clear_value u; rotate_right)
    | (intro u; clear_value u)
    | lift_lets
    | with_reducible refine Upd.foldl ?_ (fun _ _ _ => ?_)
    | (with_reducible apply Upd.via; with_reducible apply State.updChip_upd; decide)
    | (with_reducible apply Upd.via; with_reducible apply State.beginCommanded_upd; decide)
    | (with_reducible apply Upd.via; with_reducible apply State.updShepherd_upd; decide)
    | split)

theorem State.testOver_upd {s x1 x2 x3 x4} : Upd 16987208 s (State.testOver s x1 x2 x3 x4) := by
  unfold State.testOver
  repeat' (first
    | with_reducible exact Upd.refl
    | with_reducible assumption
    | (intro u; refine Upd.cut 16987208 s u ?_ (fun _ => ?_); subst u; rotate_left; clear_value u; rotate_right)
    | (intro u; clear_value u)
    | lift_lets
    | (with_reducible apply Upd.via; with_reducible apply State.updChip_upd; decide)
    | (with_reducible apply Upd.via; with_reducible apply State.testRecord_upd; decide)
    | (with_reducible apply Upd.via; with_reducible apply State.startTests_upd; decide)
    | split)

theorem State.lateTest_upd {s x1 x2 x3} : UpdOpt 2148007940 s (State.lateTest s x1 x2 x3) := by
  unfold State.lateTest
  repeat' (first
    | with_reducible exact Upd.refl
    | exact UpdOpt.none
    | with_reducible refine UpdOpt.mk' ?_
    | (with_reducible apply Upd.via; with_reducible apply State.advanceTo_upd; decide)
    | split)

theorem execSelftestDeferred_upd {x0 x1 s} : UpdO 2148012108 s (execSelftestDeferred x0 x1 s) := by
  unfold execSelftestDeferred
  repeat' (first
    | with_reducible exact Upd.refl
    | (intro u; clear_value u)
    | lift_lets
    | (with_reducible apply Upd.via; with_reducible apply State.testRecord_upd; decide)
    | (with_reducible apply Upd.via; with_reducible apply State.updShepherd_upd; decide)
    | (with_reducible apply UpdOpt.via; with_reducible apply State.lateTest_upd; decide)
    | with_reducible refine UpdO.mk' ?_
    | split
    | (with_reducible apply Upd.someOf'; with_reducible assumption))

theorem execShpStOverdue_upd {x0 x1 s} : UpdO 2148269676 s (execShpStOverdue x0 x1 s) := by
  unfold execShpStOverdue
  repeat' (first
    | with_reducible exact Upd.refl
    | (intro u; clear_value u)
    | lift_lets
    | (with_reducible apply Upd.via; with_reducible apply State.raise_upd; decide)
    | (with_reducible apply Upd.via; with_reducible apply State.updShepherd_upd; decide)
    | (with_reducible apply UpdOpt.via; with_reducible apply State.lateTest_upd; decide)
    | with_reducible refine UpdO.mk' ?_
    | split
    | (with_reducible apply Upd.someOf'; with_reducible assumption))

end Sys2Proof.Machine
end

