-- ==== Sys2Proof/Laws/UpdTransport.lean ====
section
/-! SUPPORT. What each operation of Machine/Transport.lean touches and keeps. -/

namespace Sys2Proof.Machine

theorem State.setSession_upd {s x1 x2} : Upd 512 s (State.setSession s x1 x2) := by
  unfold State.setSession
  repeat' (first
    | with_reducible exact Upd.refl
    | (with_reducible apply Upd.via; with_reducible apply State.updQueue_upd; decide))

theorem State.updSession_upd {s x1 x2} : Upd 512 s (State.updSession s x1 x2) := by
  unfold State.updSession
  repeat' (first
    | with_reducible exact Upd.refl
    | (with_reducible apply Upd.via; with_reducible apply State.updQueue_upd; decide))

theorem State.emitNorth_upd {s x1 x2 x3 x4 x5 x6} : Upd 536871424 s (State.emitNorth s x1 x2 x3 x4 x5 x6) := by
  unfold State.emitNorth
  repeat' (first
    | with_reducible exact Upd.refl
    | (intro u; clear_value u)
    | lift_lets
    | (with_reducible apply Upd.via; with_reducible apply State.emit_upd; decide)
    | (with_reducible apply Upd.via; with_reducible apply State.updQueue_upd; decide)
    | split)

theorem State.sendRaw_upd {s x1 x2 x3 x4 x5 x6 x7} : Upd 536871424 s (State.sendRaw s x1 x2 x3 x4 x5 x6 x7) := by
  unfold State.sendRaw
  repeat' (first
    | with_reducible exact Upd.refl
    | (intro u; clear_value u)
    | lift_lets
    | (with_reducible apply Upd.via; with_reducible apply State.setSession_upd; decide)
    | (with_reducible apply Upd.via; with_reducible apply State.emitNorth_upd; decide)
    | split)

theorem State.sendOn_upd {s x1 x2 x3 x4 x5 x6 x7} : Upd 536871424 s (State.sendOn s x1 x2 x3 x4 x5 x6 x7) := by
  unfold State.sendOn
  repeat' (first
    | with_reducible exact Upd.refl
    | (with_reducible apply Upd.via; with_reducible apply State.updSession_upd; decide)
    | (with_reducible apply Upd.via; with_reducible apply State.sendRaw_upd; decide)
    | split)

theorem State.sendFrame_upd {s x1 x2 x3 x4 x5 x6} : Upd 536871424 s (State.sendFrame s x1 x2 x3 x4 x5 x6) := by
  unfold State.sendFrame
  repeat' (first
    | with_reducible exact Upd.refl
    | (with_reducible apply Upd.via; with_reducible apply State.sendOn_upd; decide)
    | split)

theorem State.sendPlain_upd {s x1 x2 x3 x4 x5 x6 x7} : Upd 536871424 s (State.sendPlain s x1 x2 x3 x4 x5 x6 x7) := by
  unfold State.sendPlain
  repeat' (first
    | with_reducible exact Upd.refl
    | (intro u; clear_value u)
    | lift_lets
    | (with_reducible apply Upd.via; with_reducible apply State.updSession_upd; decide)
    | (with_reducible apply Upd.via; with_reducible apply State.emitNorth_upd; decide))

theorem State.status_upd {s x1 x2 x3 x4 x5 x6 x7} : Upd 536871424 s (State.status s x1 x2 x3 x4 x5 x6 x7) := by
  unfold State.status
  repeat' (first
    | with_reducible exact Upd.refl
    | (with_reducible apply Upd.via; with_reducible apply State.sendFrame_upd; decide))

theorem State.sendLong_upd {s x1 x2 x3 x4 x5} : Upd 536871424 s (State.sendLong s x1 x2 x3 x4 x5) := by
  unfold State.sendLong
  repeat' (first
    | with_reducible exact Upd.refl
    | with_reducible refine Upd.fst (Upd1.foldl ?_ (fun _ _ _ => ?_))
    | (with_reducible apply Upd.via; with_reducible apply State.sendFrame_upd; decide)
    | with_reducible refine Upd1.mk' ?_
    | with_reducible exact Upd.fst (by assumption))

theorem State.setAssoc_upd {s x1 x2} : Upd 16384 s (State.setAssoc s x1 x2) := by
  unfold State.setAssoc
  repeat' (first
    | with_reducible exact Upd.refl
    | (with_reducible apply Upd.via; with_reducible apply State.updSouth_upd; decide))

theorem State.updAssoc_upd {s x1 x2} : Upd 16384 s (State.updAssoc s x1 x2) := by
  unfold State.updAssoc
  repeat' (first
    | with_reducible exact Upd.refl
    | (with_reducible apply Upd.via; with_reducible apply State.updSouth_upd; decide))

theorem State.setTether_upd {s x1 x2} : Upd 16384 s (State.setTether s x1 x2) := by
  unfold State.setTether
  repeat' (first
    | with_reducible exact Upd.refl
    | (with_reducible apply Upd.via; with_reducible apply State.updSouth_upd; decide))

theorem State.sendLanes_upd {s x1 x2 x3} : Upd 536870912 s (State.sendLanes s x1 x2 x3) := by
  unfold State.sendLanes
  repeat' (first
    | with_reducible exact Upd.refl
    | with_reducible assumption
    | (intro u; clear_value u)
    | lift_lets
    | with_reducible refine Upd.foldl ?_ (fun _ _ _ => ?_)
    | with_reducible refine Upd.fst (Upd1.foldl ?_ (fun _ _ _ => ?_))
    | (with_reducible apply Upd.via; with_reducible apply State.emit_upd; decide)
    | with_reducible refine Upd1.mk' ?_
    | with_reducible exact Upd.fst (by assumption))

theorem State.sendFlit_upd {s x1 x2 x3 x4 x5} : Upd 536887296 s (State.sendFlit s x1 x2 x3 x4 x5) := by
  unfold State.sendFlit
  repeat' (first
    | with_reducible exact Upd.refl
    | (intro u; clear_value u)
    | lift_lets
    | (with_reducible apply Upd.via; with_reducible apply State.emit_upd; decide)
    | (with_reducible apply Upd.via; with_reducible apply State.setTether_upd; decide)
    | (with_reducible apply Upd.via; with_reducible apply State.sendLanes_upd; decide))

theorem State.sendFlits_upd {s x1 x2 x3} : Upd 536887296 s (State.sendFlits s x1 x2 x3) := by
  fun_induction State.sendFlits s x1 x2 x3
  all_goals repeat' (first
    | with_reducible exact Upd.refl
    | lift_lets
    | (with_reducible apply Upd.via; with_reducible apply State.setTether_upd; decide)
    | (with_reducible apply Upd.via; with_reducible apply State.sendFlit_upd; decide)
    | with_reducible refine Upd.via (by assumption) (by decide) ?_)

theorem State.flitOut_upd {s x1 x2} : Upd 536887296 s (State.flitOut s x1 x2) := by
  unfold State.flitOut
  repeat' (first
    | with_reducible exact Upd.refl
    | (with_reducible apply Upd.via; with_reducible apply State.sendFlits_upd; decide)
    | split)

theorem State.emitSouth_upd {s x1 x2 x3 x4 x5 x6} : Upd 536887296 s (State.emitSouth s x1 x2 x3 x4 x5 x6) := by
  unfold State.emitSouth
  repeat' (first
    | with_reducible exact Upd.refl
    | (with_reducible apply Upd.via; with_reducible apply State.emit_upd; decide)
    | (with_reducible apply Upd.via; with_reducible apply State.flitOut_upd; decide)
    | split)

theorem State.sendSouthRaw_upd {s x1 x2 x3 x4 x5 x6 x7} : Upd 536887296 s (State.sendSouthRaw s x1 x2 x3 x4 x5 x6 x7) := by
  unfold State.sendSouthRaw
  repeat' (first
    | with_reducible exact Upd.refl
    | (intro u; clear_value u)
    | lift_lets
    | (with_reducible apply Upd.via; with_reducible apply State.setAssoc_upd; decide)
    | (with_reducible apply Upd.via; with_reducible apply State.emitSouth_upd; decide)
    | split)

theorem State.sendSouthOn_upd {s x1 x2 x3 x4 x5 x6 x7} : Upd 536887296 s (State.sendSouthOn s x1 x2 x3 x4 x5 x6 x7) := by
  unfold State.sendSouthOn
  repeat' (first
    | with_reducible exact Upd.refl
    | (with_reducible apply Upd.via; with_reducible apply State.updAssoc_upd; decide)
    | (with_reducible apply Upd.via; with_reducible apply State.sendSouthRaw_upd; decide)
    | split)

theorem State.sendSouth_upd {s x1 x2 x3 x4 x5} : Upd 536887296 s (State.sendSouth s x1 x2 x3 x4 x5) := by
  unfold State.sendSouth
  repeat' (first
    | with_reducible exact Upd.refl
    | (with_reducible apply Upd.via; with_reducible apply State.sendSouthOn_upd; decide)
    | split)

theorem State.newXid_upd {s x1} : Upd2 16384 s (State.newXid s x1) := by
  unfold State.newXid
  repeat' (first
    | with_reducible exact Upd.refl
    | (with_reducible apply Upd.via; with_reducible apply State.updAssoc_upd; decide)
    | with_reducible refine Upd2.mk' ?_
    | split)

theorem State.sendDelete_upd {s x1 x2 x3 x4 x5 x6} : Upd 536887296 s (State.sendDelete s x1 x2 x3 x4 x5 x6) := by
  unfold State.sendDelete
  repeat' (first
    | with_reducible exact Upd.refl
    | lift_lets
    | (with_reducible apply Upd.via; with_reducible apply State.sendSouth_upd; decide)
    | (with_reducible apply Upd.via; with_reducible apply Upd.snd State.newXid_upd; decide))

theorem State.busyCores_upd {s x1} : Upd 8192 s (State.busyCores s x1) := by
  unfold State.busyCores
  repeat' (first
    | with_reducible exact Upd.refl
    | with_reducible assumption
    | with_reducible refine Upd.foldl ?_ (fun _ _ _ => ?_)
    | (with_reducible apply Upd.via; with_reducible apply State.setSpg_upd; decide)
    | split)

theorem State.takeEpochNumber_upd {s} : Upd2 270336 s (State.takeEpochNumber s) := by
  unfold State.takeEpochNumber
  repeat' (first
    | with_reducible exact Upd.refl
    | with_reducible assumption
    | (intro u; refine Upd.cut 270336 s u ?_ (fun _ => ?_); subst u; rotate_left; clear_value u; rotate_right)
    | (intro u; clear_value u)
    | lift_lets
    | (with_reducible apply Upd.via; with_reducible apply State.updPack_upd; decide)
    | (with_reducible apply Upd.via; with_reducible apply State.journal_upd; decide)
    | with_reducible refine Upd2.mk' ?_
    | split)

theorem State.assignGroup_upd {s x1 x2} : Upd 257640 s (State.assignGroup s x1 x2) := by
  unfold State.assignGroup
  repeat' (first
    | with_reducible exact Upd.refl
    | (intro u; clear_value u)
    | lift_lets
    | (with_reducible apply Upd.via; with_reducible apply State.raise_upd; decide)
    | (with_reducible apply Upd.via; with_reducible apply State.busyCores_upd; decide)
    | (with_reducible apply Upd.via; with_reducible apply State.updPack_upd; decide)
    | split
    | dsimp only)

theorem State.assignGroups_upd {s} : Upd 257640 s (State.assignGroups s) := by
  unfold State.assignGroups
  repeat' (first
    | with_reducible exact Upd.refl
    | with_reducible assumption
    | with_reducible refine Upd.foldl ?_ (fun _ _ _ => ?_)
    | (with_reducible apply Upd.via; with_reducible apply State.assignGroup_upd; decide))

theorem State.closeEpoch_upd {s x1 x2 x3 x4 x5} : Upd 519784 s (State.closeEpoch s x1 x2 x3 x4 x5) := by
  unfold State.closeEpoch
  repeat' (first
    | with_reducible exact Upd.refl
    | (intro u; clear_value u)
    | lift_lets
    | (with_reducible apply Upd.via; with_reducible apply Upd.snd State.takeEpochNumber_upd; decide)
    | (with_reducible apply Upd.via; with_reducible apply State.assignGroups_upd; decide)
    | (with_reducible apply Upd.via; with_reducible apply State.updPack_upd; decide))

theorem State.closeRegular_upd {s} : Upd 519784 s (State.closeRegular s) := by
  unfold State.closeRegular
  repeat' (first
    | with_reducible exact Upd.refl
    | (with_reducible apply Upd.via; with_reducible apply State.closeEpoch_upd; decide)
    | (with_reducible apply Upd.via; with_reducible apply State.updPack_upd; decide)
    | split)

theorem State.addLeaf_upd {s x1 x2} : Upd 519784 s (State.addLeaf s x1 x2) := by
  unfold State.addLeaf
  repeat' (first
    | with_reducible exact Upd.refl
    | with_reducible assumption
    | (intro u; refine Upd.cut 519784 s u ?_ (fun _ => ?_); subst u; rotate_left; clear_value u; rotate_right)
    | lift_lets
    | (with_reducible apply Upd.via; with_reducible apply State.closeRegular_upd; decide)
    | (with_reducible apply Upd.via; with_reducible apply State.updPack_upd; decide)
    | split)

theorem State.sendEpoch_upd {s x1 x2} : Upd 536871424 s (State.sendEpoch s x1 x2) := by
  unfold State.sendEpoch
  repeat' (first
    | with_reducible exact Upd.refl
    | (with_reducible apply Upd.via; with_reducible apply State.updSession_upd; decide)
    | (with_reducible apply Upd.via; with_reducible apply State.sendLong_upd; decide)
    | split)

theorem State.sendSettled_upd {s x1 x2 x3 x4 x5 x6} : Upd 536871424 s (State.sendSettled s x1 x2 x3 x4 x5 x6) := by
  unfold State.sendSettled
  repeat' (first
    | with_reducible exact Upd.refl
    | with_reducible assumption
    | (intro u; refine Upd.cut 536871424 s u ?_ (fun _ => ?_); subst u; rotate_left; clear_value u; rotate_right)
    | (intro u; clear_value u)
    | lift_lets
    | with_reducible refine Upd.foldl ?_ (fun _ _ _ => ?_)
    | (with_reducible apply Upd.via; with_reducible apply State.sendLong_upd; decide)
    | (with_reducible apply Upd.via; with_reducible apply State.sendEpoch_upd; decide)
    | split)

theorem State.setQueue_upd {s x1 x2} : Upd 512 s (State.setQueue s x1 x2) := by
  unfold State.setQueue
  repeat' (first
    | with_reducible exact Upd.refl
    | (with_reducible apply Upd.via; with_reducible apply State.updQueue_upd; decide))

theorem State.stampTimes_upd {s x1} : Upd 512 s (State.stampTimes s x1) := by
  unfold State.stampTimes
  repeat' (first
    | with_reducible exact Upd.refl
    | with_reducible assumption
    | (intro u; clear_value u)
    | lift_lets
    | with_reducible refine Upd.foldl ?_ (fun _ _ _ => ?_)
    | (with_reducible apply Upd.via; with_reducible apply State.setObject_upd; decide)
    | split)

theorem State.pumpStaged_upd {s x1 x2 x3} : Upd 536871424 s (State.pumpStaged s x1 x2 x3) := by
  fun_induction State.pumpStaged s x1 x2 x3
  all_goals repeat' (first
    | with_reducible exact Upd.refl
    | with_reducible assumption
    | lift_lets
    | (with_reducible apply Upd.via; with_reducible apply State.sendFrame_upd; decide)
    | (with_reducible apply Upd.via; with_reducible apply State.setObject_upd; decide)
    | with_reducible refine Upd.via (by assumption) (by decide) ?_)

theorem State.pumpSettled_upd {s x1 x2} : Upd 536871424 s (State.pumpSettled s x1 x2) := by
  fun_induction State.pumpSettled s x1 x2
  all_goals repeat' (first
    | with_reducible exact Upd.refl
    | (with_reducible apply Upd.via; with_reducible apply State.status_upd; decide)
    | (with_reducible apply Upd.via; with_reducible apply State.sendSettled_upd; decide)
    | (with_reducible apply Upd.via; with_reducible apply State.setQueue_upd; decide)
    | (with_reducible apply Upd.via; with_reducible apply State.setObject_upd; decide)
    | with_reducible refine Upd.via (by assumption) (by decide) ?_)

theorem State.pump_upd {s x1} : Upd 536871424 s (State.pump s x1) := by
  unfold State.pump
  repeat' (first
    | with_reducible exact Upd.refl
    | with_reducible assumption
    | (intro u; refine Upd.cut 536871424 s u ?_ (fun _ => ?_); subst u; rotate_left; clear_value u; rotate_right)
    | lift_lets
    | (with_reducible apply Upd.via; with_reducible apply State.setQueue_upd; decide)
    | (with_reducible apply Upd.via; with_reducible apply State.stampTimes_upd; decide)
    | (with_reducible apply Upd.via; with_reducible apply State.pumpStaged_upd; decide)
    | (with_reducible apply Upd.via; with_reducible apply State.pumpSettled_upd; decide)
    | split)

theorem State.freeFragment_upd {s x1 x2} : Upd 4096 s (State.freeFragment s x1 x2) := by
  unfold State.freeFragment
  repeat' (first
    | with_reducible exact Upd.refl
    | (with_reducible apply Upd.via; with_reducible apply State.subAlloc_upd; decide)
    | (with_reducible apply Upd.via; with_reducible apply State.subPending_upd; decide)
    | split)

theorem State.abortContexts_upd {s x1} : Upd 91656 s (State.abortContexts s x1) := by
  unfold State.abortContexts
  repeat' (first
    | with_reducible exact Upd.refl
    | (with_reducible apply Upd.via; with_reducible apply State.abortJobs_upd; decide))

theorem State.freeIngest_upd {s x1} : Upd 512 s (State.freeIngest s x1) := by
  unfold State.freeIngest
  repeat' (first
    | with_reducible exact Upd.refl
    | with_reducible assumption
    | (intro u; refine Upd.cut 512 s u ?_ (fun _ => ?_); subst u; rotate_left; clear_value u; rotate_right)
    | (intro u; clear_value u)
    | lift_lets
    | (with_reducible apply Upd.via; with_reducible apply State.updQueue_upd; decide)
    | (with_reducible apply Upd.via; with_reducible apply State.setExtent_upd; decide)
    | split)

theorem State.makeStale_upd {s x1 x2 x3} : Upd 16384 s (State.makeStale s x1 x2 x3) := by
  unfold State.makeStale
  repeat' (first
    | with_reducible exact Upd.refl
    | (with_reducible apply Upd.via; with_reducible apply State.updSouth_upd; decide))

theorem State.discardExtent_upd {s x1} : Upd 512 s (State.discardExtent s x1) := by
  unfold State.discardExtent
  repeat' (first
    | with_reducible exact Upd.refl
    | (with_reducible apply Upd.via; with_reducible apply State.freeIngest_upd; decide)
    | (with_reducible apply Upd.via; with_reducible apply State.setExtent_upd; decide)
    | split)

theorem State.abortExtent_upd {s x1 x2} : Upd 536968808 s (State.abortExtent s x1 x2) := by
  unfold State.abortExtent
  repeat' (first
    | with_reducible exact Upd.refl
    | with_reducible assumption
    | (intro u; refine Upd.cut 536968808 s u ?_ (fun _ => ?_); subst u; rotate_left; clear_value u; rotate_right)
    | (intro u; clear_value u)
    | lift_lets
    | with_reducible refine Upd.foldl ?_ (fun _ _ _ => ?_)
    | (with_reducible apply Upd.via; with_reducible apply State.endMoves_upd; decide)
    | (with_reducible apply Upd.via; with_reducible apply State.sendDelete_upd; decide)
    | (with_reducible apply Upd.via; with_reducible apply State.freeFragment_upd; decide)
    | (with_reducible apply Upd.via; with_reducible apply State.abortContexts_upd; decide)
    | (with_reducible apply Upd.via; with_reducible apply State.freeIngest_upd; decide)
    | (with_reducible apply Upd.via; with_reducible apply State.makeStale_upd; decide)
    | (with_reducible apply Upd.via; with_reducible apply State.updShepherd_upd; decide)
    | (with_reducible apply Upd.via; with_reducible apply State.setExtent_upd; decide)
    | (with_reducible apply Upd.via; with_reducible apply State.settleCore_upd; decide)
    | split)

theorem State.abortObject_upd {s x1 x2 x3 x4 x5} : Upd 536968808 s (State.abortObject s x1 x2 x3 x4 x5) := by
  unfold State.abortObject
  repeat' (first
    | with_reducible exact Upd.refl
    | with_reducible assumption
    | (intro u; refine Upd.cut 536968808 s u ?_ (fun _ => ?_); subst u; rotate_left; clear_value u; rotate_right)
    | (intro u; clear_value u)
    | lift_lets
    | with_reducible refine Upd.foldl ?_ (fun _ _ _ => ?_)
    | (with_reducible apply Upd.via; with_reducible apply State.setQueue_upd; decide)
    | (with_reducible apply Upd.via; with_reducible apply State.pump_upd; decide)
    | (with_reducible apply Upd.via; with_reducible apply State.abortExtent_upd; decide)
    | (with_reducible apply Upd.via; with_reducible apply State.updPack_upd; decide)
    | (with_reducible apply Upd.via; with_reducible apply State.setObject_upd; decide)
    | split)

end Sys2Proof.Machine
end

