-- ==== Sys2Proof/Laws/UpdPaths.lean ====
section
/-! SUPPORT. What each operation of Machine/Paths.lean touches and keeps. -/

namespace Sys2Proof.Machine

theorem State.resendFrame_upd {s x1 x2} : Upd 536871424 s (State.resendFrame s x1 x2) := by
  unfold State.resendFrame
  repeat' (first
    | with_reducible exact Upd.refl
    | with_reducible assumption
    | (intro u; refine Upd.cut 536871424 s u ?_ (fun _ => ?_); subst u; rotate_left; clear_value u; rotate_right)
    | lift_lets
    | (with_reducible apply Upd.via; with_reducible apply State.setSession_upd; decide)
    | (with_reducible apply Upd.via; with_reducible apply State.sendOn_upd; decide)
    | split)

theorem State.resendSouth_upd {s x1 x2} : Upd 536887304 s (State.resendSouth s x1 x2) := by
  unfold State.resendSouth
  repeat' (first
    | with_reducible exact Upd.refl
    | with_reducible assumption
    | (intro u; refine Upd.cut 536887304 s u ?_ (fun _ => ?_); subst u; rotate_left; clear_value u; rotate_right)
    | lift_lets
    | (with_reducible apply Upd.via; with_reducible apply State.bump_upd; decide)
    | (with_reducible apply Upd.via; with_reducible apply State.updAssoc_upd; decide)
    | (with_reducible apply Upd.via; with_reducible apply State.sendSouthOn_upd; decide)
    | split)

theorem State.failPaths_upd {s x1 x2} : Upd 536871424 s (State.failPaths s x1 x2) := by
  unfold State.failPaths
  repeat' (first
    | with_reducible exact Upd.refl
    | with_reducible assumption
    | (intro u; refine Upd.cut 536871424 s u ?_ (fun _ => ?_); subst u; rotate_left; clear_value u; rotate_right)
    | (intro u; clear_value u)
    | lift_lets
    | with_reducible refine Upd.foldl ?_ (fun _ _ _ => ?_)
    | (with_reducible apply Upd.via; with_reducible apply State.resendFrame_upd; decide)
    | (with_reducible apply Upd.via; with_reducible apply State.setSession_upd; decide)
    | (with_reducible apply Upd.via; with_reducible apply State.sendOn_upd; decide)
    | split)

theorem State.failPath_upd {s x1 x2} : Upd 536871424 s (State.failPath s x1 x2) := by
  unfold State.failPath
  repeat' (first
    | with_reducible exact Upd.refl
    | (with_reducible apply Upd.via; with_reducible apply State.failPaths_upd; decide))

theorem State.failSouthPaths_upd {s x1 x2} : Upd 536887304 s (State.failSouthPaths s x1 x2) := by
  unfold State.failSouthPaths
  repeat' (first
    | with_reducible exact Upd.refl
    | with_reducible assumption
    | (intro u; refine Upd.cut 536887304 s u ?_ (fun _ => ?_); subst u; rotate_left; clear_value u; rotate_right)
    | (intro u; clear_value u)
    | lift_lets
    | with_reducible refine Upd.foldl ?_ (fun _ _ _ => ?_)
    | (with_reducible apply Upd.via; with_reducible apply State.resendSouth_upd; decide)
    | (with_reducible apply Upd.via; with_reducible apply State.updAssoc_upd; decide)
    | (with_reducible apply Upd.via; with_reducible apply State.sendSouthOn_upd; decide)
    | split)

theorem State.sendAck_upd {s x1} : Upd 536871424 s (State.sendAck s x1) := by
  unfold State.sendAck
  repeat' (first
    | with_reducible exact Upd.refl
    | lift_lets
    | (with_reducible apply Upd.via; with_reducible apply State.updSession_upd; decide)
    | (with_reducible apply Upd.via; with_reducible apply State.sendFrame_upd; decide)
    | split)

theorem State.sendSouthAck_upd {s x1} : Upd 536887296 s (State.sendSouthAck s x1) := by
  unfold State.sendSouthAck
  repeat' (first
    | with_reducible exact Upd.refl
    | lift_lets
    | (with_reducible apply Upd.via; with_reducible apply State.updAssoc_upd; decide)
    | (with_reducible apply Upd.via; with_reducible apply State.sendSouth_upd; decide)
    | split)

end Sys2Proof.Machine
end

