-- ==== Sys2Proof/Laws/UpdStagingOps.lean ====
section
/-! SUPPORT. What each operation of Machine/StagingOps.lean touches and keeps. -/

namespace Sys2Proof.Machine

theorem State.updFrag_upd {s x1 x2 x3} : Upd 512 s (State.updFrag s x1 x2 x3) := by
  unfold State.updFrag
  repeat' (first
    | with_reducible exact Upd.refl
    | (with_reducible apply Upd.via; with_reducible apply State.setExtent_upd; decide)
    | split)

theorem State.updRepairFrag_upd {s x1 x2 x3} : Upd 16384 s (State.updRepairFrag s x1 x2 x3) := by
  unfold State.updRepairFrag
  repeat' (first
    | with_reducible exact Upd.refl
    | (with_reducible apply Upd.via; with_reducible apply State.updSouth_upd; decide))

theorem State.updHeld_upd {s x1 x2} : Upd 16896 s (State.updHeld s x1 x2) := by
  unfold State.updHeld
  repeat' (first
    | with_reducible exact Upd.refl
    | (with_reducible apply Upd.via; with_reducible apply State.updFrag_upd; decide)
    | (with_reducible apply Upd.via; with_reducible apply State.updRepairFrag_upd; decide)
    | split)

theorem State.loseFrag_upd {s x1 x2} : Upd 512 s (State.loseFrag s x1 x2) := by
  unfold State.loseFrag
  repeat' (first
    | with_reducible exact Upd.refl
    | (with_reducible apply Upd.via; with_reducible apply State.updFrag_upd; decide))

theorem State.laterPage_upd {s x1 x2} : Upd 2048 s (State.laterPage s x1 x2) := by
  unfold State.laterPage
  repeat' (first
    | with_reducible exact Upd.refl
    | (with_reducible apply Upd.via; with_reducible apply State.updStaging_upd; decide))

theorem State.copyPage_upd {s x1 x2 x3} : Upd 131208 s (State.copyPage s x1 x2 x3) := by
  unfold State.copyPage
  repeat' (first
    | with_reducible exact Upd.refl
    | (with_reducible apply Upd.via; with_reducible apply State.writeMem_upd; decide))

theorem State.switchRuns_upd {s x1 x2 x3 x4 x5} : Upd 150152 s (State.switchRuns s x1 x2 x3 x4 x5) := by
  unfold State.switchRuns
  repeat' (first
    | with_reducible exact Upd.refl
    | with_reducible assumption
    | (intro u; refine Upd.cut 150152 s u ?_ (fun _ => ?_); subst u; rotate_left; clear_value u; rotate_right)
    | lift_lets
    | (with_reducible apply Upd.via; with_reducible apply State.bump_upd; decide)
    | (with_reducible apply Upd.via; with_reducible apply State.fileExtent_upd; decide)
    | (with_reducible apply Upd.via; with_reducible apply State.updHeld_upd; decide)
    | (with_reducible apply Upd.via; with_reducible apply State.updStaging_upd; decide)
    | split)

theorem State.movePage_upd {s x1 x2 x3} : Upd 150248 s (State.movePage s x1 x2 x3) := by
  unfold State.movePage
  repeat' (first
    | with_reducible exact Upd.refl
    | with_reducible assumption
    | lift_lets
    | with_reducible refine Upd.foldl ?_ (fun _ _ _ => ?_)
    | (with_reducible apply Upd.via; with_reducible apply State.retirePage_upd; decide)
    | (with_reducible apply Upd.via; with_reducible apply State.updHeld_upd; decide)
    | (with_reducible apply Upd.via; with_reducible apply State.laterPage_upd; decide)
    | (with_reducible apply Upd.via; with_reducible apply State.copyPage_upd; decide)
    | (with_reducible apply Upd.via; with_reducible apply State.switchRuns_upd; decide)
    | split
    | dsimp only)

theorem State.hardPage_upd {s x1 x2} : Upd 150248 s (State.hardPage s x1 x2) := by
  unfold State.hardPage
  repeat' (first
    | with_reducible exact Upd.refl
    | (intro u; clear_value u)
    | lift_lets
    | (with_reducible apply Upd.via; with_reducible apply State.retirePage_upd; decide)
    | (with_reducible apply Upd.via; with_reducible apply State.rewriteMeta_upd; decide)
    | (with_reducible apply Upd.via; with_reducible apply State.laterPage_upd; decide)
    | (with_reducible apply Upd.via; with_reducible apply State.movePage_upd; decide)
    | split)

theorem State.settleLater_upd {s} : Upd 150248 s (State.settleLater s) := by
  unfold State.settleLater
  repeat' (first
    | with_reducible exact Upd.refl
    | with_reducible assumption
    | (intro u; refine Upd.cut 150248 s u ?_ (fun _ => ?_); subst u; rotate_left; clear_value u; rotate_right)
    | (intro u; clear_value u)
    | lift_lets
    | with_reducible refine Upd.foldl ?_ (fun _ _ _ => ?_)
    | (with_reducible apply Upd.via; with_reducible apply State.endMoves_upd; decide)
    | (with_reducible apply Upd.via; with_reducible apply State.hardPage_upd; decide)
    | (with_reducible apply Upd.via; with_reducible apply State.updStaging_upd; decide))

theorem State.retireBad_upd {s x1 x2} : Upd 19048 s (State.retireBad s x1 x2) := by
  unfold State.retireBad
  repeat' (first
    | with_reducible exact Upd.refl
    | with_reducible assumption
    | with_reducible refine Upd.foldl ?_ (fun _ _ _ => ?_)
    | (with_reducible apply Upd.via; with_reducible apply State.note_upd; decide)
    | (with_reducible apply Upd.via; with_reducible apply State.retirePage_upd; decide))

theorem State.placeRegenOne_upd {x0 x1 x2 s} : UpdOpt 133768 s (State.placeRegenOne x0 x1 x2 s) := by
  unfold State.placeRegenOne
  repeat' (first
    | with_reducible exact Upd.refl
    | lift_lets
    | exact UpdOpt.none
    | with_reducible refine UpdOpt.mk' ?_
    | (with_reducible apply Upd.via; with_reducible apply State.writeMem_upd; decide)
    | (with_reducible apply Upd.via; with_reducible apply State.writePayload_upd; decide)
    | (with_reducible apply Upd.via; with_reducible apply State.bump_upd; decide)
    | (with_reducible apply Upd.via; with_reducible apply State.fileExtent_upd; decide)
    | (with_reducible apply Upd.via; with_reducible apply State.updFrag_upd; decide)
    | split
    | dsimp only)

theorem State.placeRegen_upd {s x1 x2 x3} : UpdOpt 133768 s (State.placeRegen s x1 x2 x3) := by
  unfold State.placeRegen
  repeat' (first
    | with_reducible exact Upd.refl
    | with_reducible assumption
    | with_reducible refine UpdOpt.mk' ?_
    | (with_reducible apply UpdOpt.via; with_reducible apply State.placeRegenOne_upd; decide)
    | with_reducible refine UpdOpt.foldBind ?_ (fun _ _ _ => ?_))

end Sys2Proof.Machine
end

