-- ==== Sys2Proof/Laws/UpdShelves.lean ====
section
/-! SUPPORT. What each operation of Machine/Shelves.lean touches and keeps. -/

namespace Sys2Proof.Machine

theorem State.pstateRecord_upd {s x1 x2} : Upd 72 s (State.pstateRecord s x1 x2) := by
  unfold State.pstateRecord
  repeat' (first
    | with_reducible exact Upd.refl
    | (with_reducible apply Upd.via; with_reducible apply State.trailRec_upd; decide))

theorem State.setPstate_upd {s x1 x2} : Upd 4096 s (State.setPstate s x1 x2) := by
  unfold State.setPstate
  repeat' (first
    | with_reducible exact Upd.refl
    | (intro u; clear_value u)
    | lift_lets
    | (with_reducible apply Upd.via; with_reducible apply State.setShelf_upd; decide)
    | split)

theorem State.sendPower_upd {s x1 x2} : Upd 536887296 s (State.sendPower s x1 x2) := by
  unfold State.sendPower
  repeat' (first
    | with_reducible exact Upd.refl
    | lift_lets
    | (with_reducible apply Upd.via; with_reducible apply State.sendSouth_upd; decide)
    | (with_reducible apply Upd.via; with_reducible apply Upd.snd State.newXid_upd; decide))

theorem State.wake_upd {s x1} : Upd 536891392 s (State.wake s x1) := by
  unfold State.wake
  repeat' (first
    | with_reducible exact Upd.refl
    | (with_reducible apply Upd.via; with_reducible apply State.setShelf_upd; decide)
    | (with_reducible apply Upd.via; with_reducible apply State.setPstate_upd; decide)
    | (with_reducible apply Upd.via; with_reducible apply State.sendPower_upd; decide)
    | split)

theorem State.needShelf_upd {s x1} : Upd 4096 s (State.needShelf s x1) := by
  unfold State.needShelf
  repeat' (first
    | with_reducible exact Upd.refl
    | (intro u; clear_value u)
    | lift_lets
    | (with_reducible apply Upd.via; with_reducible apply State.updShepherd_upd; decide)
    | split)

theorem State.needAgain_upd {s x1} : Upd 4096 s (State.needAgain s x1) := by
  unfold State.needAgain
  repeat' (first
    | with_reducible exact Upd.refl
    | (with_reducible apply Upd.via; with_reducible apply State.needShelf_upd; decide)
    | split)

theorem State.touchShelf_upd {s x1} : Upd 4096 s (State.touchShelf s x1) := by
  unfold State.touchShelf
  repeat' (first
    | with_reducible exact Upd.refl
    | (with_reducible apply Upd.via; with_reducible apply State.setShelf_upd; decide))

theorem State.takeMessage_upd {s x1} : Upd1 16384 s (State.takeMessage s x1) := by
  unfold State.takeMessage
  dsimp only
  repeat' (first
    | with_reducible exact Upd.refl
    | (with_reducible apply Upd.via; with_reducible apply State.setTether_upd; decide)
    | (with_reducible apply Upd.via; with_reducible apply State.updSouth_upd; decide)
    | with_reducible refine Upd1.mk' ?_
    | split)

theorem State.southStatus_upd {s x1 x2 x3 x4} : Upd 536887296 s (State.southStatus s x1 x2 x3 x4) := by
  unfold State.southStatus
  repeat' (first
    | with_reducible exact Upd.refl
    | (with_reducible apply Upd.via; with_reducible apply State.sendSouth_upd; decide))

theorem State.acknowledgeSouth_upd {s x1 x2} : Upd 536887296 s (State.acknowledgeSouth s x1 x2) := by
  unfold State.acknowledgeSouth
  repeat' (first
    | with_reducible exact Upd.refl
    | with_reducible assumption
    | (intro u; refine Upd.cut 536887296 s u ?_ (fun _ => ?_); subst u; rotate_left; clear_value u; rotate_right)
    | lift_lets
    | (with_reducible apply Upd.via; with_reducible apply State.sendSouthAck_upd; decide)
    | (with_reducible apply Upd.via; with_reducible apply State.updAssoc_upd; decide)
    | split)

theorem State.releaseShelf_upd {s x1} : Upd 4096 s (State.releaseShelf s x1) := by
  unfold State.releaseShelf
  repeat' (first
    | with_reducible exact Upd.refl
    | with_reducible assumption
    | (intro u; refine Upd.cut 4096 s u ?_ (fun _ => ?_); subst u; rotate_left; clear_value u; rotate_right)
    | (intro u; clear_value u)
    | lift_lets
    | (with_reducible apply Upd.via; with_reducible apply State.setShelf_upd; decide)
    | (with_reducible apply Upd.via; with_reducible apply State.setPstate_upd; decide)
    | split)

theorem State.acceptOn_upd {s x1 x2 x3 x4} : Upd1 536891400 s (State.acceptOn s x1 x2 x3 x4) := by
  unfold State.acceptOn
  repeat' (first
    | with_reducible exact Upd.refl
    | with_reducible assumption
    | (intro u; refine Upd.cut 536891400 s u ?_ (fun _ => ?_); subst u; rotate_left; clear_value u; rotate_right)
    | lift_lets
    | (with_reducible apply Upd.via; with_reducible apply State.bump_upd; decide)
    | (with_reducible apply Upd.via; with_reducible apply State.southStatus_upd; decide)
    | (with_reducible apply Upd.via; with_reducible apply State.acknowledgeSouth_upd; decide)
    | (with_reducible apply Upd.via; with_reducible apply State.releaseShelf_upd; decide)
    | (with_reducible apply Upd.via; with_reducible apply State.updAssoc_upd; decide)
    | (with_reducible apply Upd1.via; with_reducible apply State.takeMessage_upd; decide)
    | with_reducible refine Upd1.mk' ?_
    | split
    | (with_reducible apply Upd.fstOf'; with_reducible assumption))

theorem State.acceptSouth_upd {s x1 x2 x3} : Upd1 536891400 s (State.acceptSouth s x1 x2 x3) := by
  unfold State.acceptSouth
  repeat' (first
    | with_reducible exact Upd.refl
    | (with_reducible apply Upd1.via; with_reducible apply State.acceptOn_upd; decide))

theorem State.southBadField_upd {s x1} : Upd 536887296 s (State.southBadField s x1) := by
  unfold State.southBadField
  repeat' (first
    | with_reducible exact Upd.refl
    | (with_reducible apply Upd.via; with_reducible apply State.southStatus_upd; decide))

theorem State.writeHeader_upd {s x1 x2} : Upd 131720 s (State.writeHeader s x1 x2) := by
  unfold State.writeHeader
  repeat' (first
    | with_reducible exact Upd.refl
    | with_reducible assumption
    | (intro u; refine Upd.cut 131720 s u ?_ (fun _ => ?_); subst u; rotate_left; clear_value u; rotate_right)
    | (intro u; clear_value u)
    | lift_lets
    | (with_reducible apply Upd.via; with_reducible apply State.writeMem_upd; decide)
    | (with_reducible apply Upd.via; with_reducible apply State.updFrag_upd; decide)
    | split)

theorem State.touchCatalogue_upd {s x1 x2} : Upd 16384 s (State.touchCatalogue s x1 x2) := by
  unfold State.touchCatalogue
  repeat' (first
    | with_reducible exact Upd.refl
    | (with_reducible apply Upd.via; with_reducible apply State.updSouth_upd; decide))

theorem State.touchGroup_upd {s x1} : Upd 16384 s (State.touchGroup s x1) := by
  unfold State.touchGroup
  repeat' (first
    | with_reducible exact Upd.refl
    | (with_reducible apply Upd.via; with_reducible apply State.touchCatalogue_upd; decide)
    | (with_reducible apply Upd.via; with_reducible apply State.updSouth_upd; decide))

theorem State.trySettle_upd {s x1} : Upd 519912 s (State.trySettle s x1) := by
  unfold State.trySettle
  repeat' (first
    | with_reducible exact Upd.refl
    | with_reducible assumption
    | (intro u; refine Upd.cut 519912 s u ?_ (fun _ => ?_); subst u; rotate_left; clear_value u; rotate_right)
    | (intro u; clear_value u)
    | lift_lets
    | (with_reducible apply Upd.via; with_reducible apply State.settleLater_upd; decide)
    | (with_reducible apply Upd.via; with_reducible apply State.addLeaf_upd; decide)
    | (with_reducible apply Upd.via; with_reducible apply State.updPack_upd; decide)
    | (with_reducible apply Upd.via; with_reducible apply State.setExtent_upd; decide)
    | (with_reducible apply Upd.via; with_reducible apply State.setObject_upd; decide)
    | split)

theorem State.retargetFrag_upd {s x1 x2} : Upd 152200 s (State.retargetFrag s x1 x2) := by
  unfold State.retargetFrag
  repeat' (first
    | with_reducible exact Upd.refl
    | with_reducible assumption
    | (intro u; refine Upd.cut 152200 s u ?_ (fun _ => ?_); subst u; rotate_left; clear_value u; rotate_right)
    | (intro u; clear_value u)
    | lift_lets
    | split
    | (with_reducible apply Upd.via; with_reducible apply State.bump_upd; decide)
    | (with_reducible apply Upd.via; with_reducible apply State.addAlloc_upd; decide)
    | (with_reducible apply Upd.via; with_reducible apply State.subAlloc_upd; decide)
    | (with_reducible apply Upd.via; with_reducible apply State.subPending_upd; decide)
    | (with_reducible apply Upd.via; with_reducible apply State.writeHeader_upd; decide)
    | (with_reducible apply Upd.via; with_reducible apply State.updFrag_upd; decide)
    | (with_reducible apply Upd.via; with_reducible apply State.makeStale_upd; decide))

theorem State.sendFetch_upd {s x1} : Upd 536887296 s (State.sendFetch s x1) := by
  unfold State.sendFetch
  repeat' (first
    | with_reducible exact Upd.refl
    | (with_reducible apply Upd.via; with_reducible apply State.sendSouth_upd; decide)
    | (with_reducible apply Upd.via; with_reducible apply State.updSouth_upd; decide)
    | split)

theorem State.request_upd {s x1 x2 x3 x4 x5 x6 x7 x8} : Upd 536887296 s (State.request s x1 x2 x3 x4 x5 x6 x7 x8) := by
  unfold State.request
  repeat' (first
    | with_reducible exact Upd.refl
    | lift_lets
    | (with_reducible apply Upd.via; with_reducible apply State.sendFetch_upd; decide)
    | (with_reducible apply Upd.via; with_reducible apply Upd.snd State.newXid_upd; decide)
    | (with_reducible apply Upd.via; with_reducible apply State.updSouth_upd; decide)
    | split)

theorem State.fetchFrag_upd {s x1 x2 x3 x4} : UpdOpt 536891392 s (State.fetchFrag s x1 x2 x3 x4) := by
  unfold State.fetchFrag
  repeat' (first
    | with_reducible exact Upd.refl
    | (intro u; clear_value u)
    | lift_lets
    | exact UpdOpt.none
    | with_reducible refine UpdOpt.mk' ?_
    | (with_reducible apply Upd.via; with_reducible apply State.needShelf_upd; decide)
    | (with_reducible apply Upd.via; with_reducible apply State.request_upd; decide)
    | split)

theorem State.markUnrecoverable_upd {s x1} : Upd 257640 s (State.markUnrecoverable s x1) := by
  unfold State.markUnrecoverable
  repeat' (first
    | with_reducible exact Upd.refl
    | with_reducible assumption
    | (intro u; refine Upd.cut 257640 s u ?_ (fun _ => ?_); subst u; rotate_left; clear_value u; rotate_right)
    | lift_lets
    | (with_reducible apply Upd.via; with_reducible apply State.raise_upd; decide)
    | (with_reducible apply Upd.via; with_reducible apply State.bump_upd; decide)
    | (with_reducible apply Upd.via; with_reducible apply State.touchGroup_upd; decide)
    | (with_reducible apply Upd.via; with_reducible apply State.setObject_upd; decide)
    | split)

theorem State.placeRepairOne_upd {s x1 x2 x3 x4 x5} : UpdOpt1 151688 s (State.placeRepairOne s x1 x2 x3 x4 x5) := by
  unfold State.placeRepairOne
  dsimp only
  repeat' (first
    | with_reducible exact Upd.refl
    | exact UpdOpt1.none
    | with_reducible refine UpdOpt1.mk' ?_
    | (with_reducible apply Upd.via; with_reducible apply State.writeMem_upd; decide)
    | (with_reducible apply Upd.via; with_reducible apply State.writePayload_upd; decide)
    | (with_reducible apply Upd.via; with_reducible apply State.addAlloc_upd; decide)
    | (with_reducible apply Upd.via; with_reducible apply State.updSouth_upd; decide)
    | split)

theorem State.placeRepair_upd {s x1 x2 x3} : UpdOpt 151688 s (State.placeRepair s x1 x2 x3) := by
  unfold State.placeRepair
  repeat' (first
    | with_reducible exact Upd.refl
    | with_reducible assumption
    | (intro u; clear_value u)
    | lift_lets
    | exact UpdOpt.none
    | with_reducible refine UpdOpt.mk' ?_
    | with_reducible refine UpdOpt1.mk' ?_
    | split
    | (with_reducible apply UpdOpt1.via; with_reducible apply State.placeRepairOne_upd; decide)
    | (with_reducible apply Upd.via; with_reducible apply State.updSouth_upd; decide)
    | (with_reducible apply Upd.someOf1'; with_reducible assumption)
    | with_reducible refine UpdOpt1.foldBind ?_ (fun _ _ _ => ?_))

theorem State.repairSpend_upd {s x1} : Upd 16384 s (State.repairSpend s x1) := by
  unfold State.repairSpend
  repeat' (first
    | with_reducible exact Upd.refl
    | (with_reducible apply Upd.via; with_reducible apply State.updSouth_upd; decide)
    | split)

theorem State.pumpRepair_upd {s x1 x2} : Upd 536891392 s (State.pumpRepair s x1 x2) := by
  fun_induction State.pumpRepair s x1 x2
  all_goals repeat' (first
    | with_reducible exact Upd.refl
    | lift_lets
    | (with_reducible apply Upd.via; with_reducible apply State.repairSpend_upd; decide)
    | (with_reducible apply Upd.via; with_reducible apply State.updShepherd_upd; decide)
    | (with_reducible apply Upd.via; with_reducible apply State.updSouth_upd; decide)
    | (with_reducible apply UpdOpt.via; with_reducible apply State.fetchFrag_upd; decide)
    | (with_reducible apply Upd.someOf'; with_reducible assumption)
    | with_reducible refine Upd.via (by assumption) (by decide) ?_)

theorem State.pumpRepairs_upd {s} : Upd 536891392 s (State.pumpRepairs s) := by
  unfold State.pumpRepairs
  repeat' (first
    | with_reducible exact Upd.refl
    | with_reducible assumption
    | with_reducible refine Upd.foldl ?_ (fun _ _ _ => ?_)
    | (with_reducible apply Upd.via; with_reducible apply State.pumpRepair_upd; decide))

theorem State.restartRepair_upd {s x1} : Upd 536891392 s (State.restartRepair s x1) := by
  unfold State.restartRepair
  repeat' (first
    | with_reducible exact Upd.refl
    | with_reducible assumption
    | (intro u; refine Upd.cut 536891392 s u ?_ (fun _ => ?_); subst u; rotate_left; clear_value u; rotate_right)
    | (intro u; clear_value u)
    | lift_lets
    | with_reducible refine Upd.foldl ?_ (fun _ _ _ => ?_)
    | (with_reducible apply Upd.via; with_reducible apply State.subAlloc_upd; decide)
    | (with_reducible apply Upd.via; with_reducible apply State.subPending_upd; decide)
    | (with_reducible apply Upd.via; with_reducible apply State.pumpRepair_upd; decide)
    | (with_reducible apply Upd.via; with_reducible apply State.updSouth_upd; decide)
    | split)

theorem State.repairStaged_upd {s x1 x2 x3} : Upd 152200 s (State.repairStaged s x1 x2 x3) := by
  unfold State.repairStaged
  repeat' (first
    | with_reducible exact Upd.refl
    | with_reducible assumption
    | (intro u; refine Upd.cut 152200 s u ?_ (fun _ => ?_); subst u; rotate_left; clear_value u; rotate_right)
    | (intro u; clear_value u)
    | lift_lets
    | with_reducible refine Upd.foldl ?_ (fun _ _ _ => ?_)
    | (with_reducible apply Upd.via; with_reducible apply State.subPending_upd; decide)
    | (with_reducible apply Upd.via; with_reducible apply State.makeStale_upd; decide)
    | (with_reducible apply Upd.via; with_reducible apply State.updQueue_upd; decide)
    | (with_reducible apply Upd.via; with_reducible apply State.updSouth_upd; decide)
    | (with_reducible apply UpdOpt.via; with_reducible apply State.placeRepair_upd; decide)
    | split
    | (with_reducible apply Upd.someOf'; with_reducible assumption))

theorem State.startRepair_upd {s x1 x2 x3} : Upd 537132776 s (State.startRepair s x1 x2 x3) := by
  unfold State.startRepair
  repeat' (first
    | with_reducible exact Upd.refl
    | with_reducible assumption
    | (intro u; refine Upd.cut 537132776 s u ?_ (fun _ => ?_); subst u; rotate_left; clear_value u; rotate_right)
    | (intro u; clear_value u)
    | lift_lets
    | (with_reducible apply Upd.via; with_reducible apply State.raise_upd; decide)
    | (with_reducible apply Upd.via; with_reducible apply State.markUnrecoverable_upd; decide)
    | (with_reducible apply Upd.via; with_reducible apply State.pumpRepair_upd; decide)
    | (with_reducible apply Upd.via; with_reducible apply State.repairStaged_upd; decide)
    | (with_reducible apply Upd.via; with_reducible apply State.updSouth_upd; decide)
    | split)

theorem State.leaveMedium_upd {s x1} : Upd 152200 s (State.leaveMedium s x1) := by
  unfold State.leaveMedium
  repeat' (first
    | with_reducible exact Upd.refl
    | with_reducible assumption
    | (intro u; clear_value u)
    | lift_lets
    | with_reducible refine Upd.foldl ?_ (fun _ _ _ => ?_)
    | split
    | (with_reducible apply Upd.via; with_reducible apply State.retargetFrag_upd; decide)
    | (with_reducible apply Upd.via; with_reducible apply State.repairStaged_upd; decide))

theorem State.faultShelf_upd {s x1 x2} : Upd 261864 s (State.faultShelf s x1 x2) := by
  unfold State.faultShelf
  repeat' (first
    | with_reducible exact Upd.refl
    | with_reducible assumption
    | (intro u; refine Upd.cut 261864 s u ?_ (fun _ => ?_); subst u; rotate_left; clear_value u; rotate_right)
    | lift_lets
    | (with_reducible apply Upd.via; with_reducible apply State.raise_upd; decide)
    | (with_reducible apply Upd.via; with_reducible apply State.setPstate_upd; decide)
    | (with_reducible apply Upd.via; with_reducible apply State.leaveMedium_upd; decide))

theorem State.failMedium_upd {s x1 x2} : Upd 537132776 s (State.failMedium s x1 x2) := by
  unfold State.failMedium
  dsimp only
  repeat' (first
    | with_reducible exact Upd.refl
    | with_reducible assumption
    | with_reducible refine Upd.foldl ?_ (fun _ _ _ => ?_)
    | (with_reducible apply Upd.via; with_reducible apply State.setMedia_upd; decide)
    | (with_reducible apply Upd.via; with_reducible apply State.request_upd; decide)
    | (with_reducible apply Upd.via; with_reducible apply State.startRepair_upd; decide)
    | (with_reducible apply Upd.via; with_reducible apply State.leaveMedium_upd; decide)
    | split)

end Sys2Proof.Machine
end

