-- ==== Sys2Proof/Laws/UpdCatalogue.lean ====
section
/-! SUPPORT. What each operation of Machine/Catalogue.lean touches and keeps. -/

namespace Sys2Proof.Machine

theorem State.placeCatalogue_upd {s x1 x2 x3} : Upd 16384 s (State.placeCatalogue s x1 x2 x3) := by
  unfold State.placeCatalogue
  repeat' (first
    | with_reducible exact Upd.refl
    | (intro u; clear_value u)
    | lift_lets
    | (with_reducible apply Upd.via; with_reducible apply State.updSouth_upd; decide))

theorem State.writeCatalogue_upd {s x1 x2} : Upd 16384 s (State.writeCatalogue s x1 x2) := by
  unfold State.writeCatalogue
  repeat' (first
    | with_reducible exact Upd.refl
    | (intro u; clear_value u)
    | lift_lets
    | (with_reducible apply Upd.via; with_reducible apply State.placeCatalogue_upd; decide)
    | split)

theorem execCatalogueWrite_upd {x0 x1 x2 s} : UpdO 2148024324 s (execCatalogueWrite x0 x1 x2 s) := by
  unfold execCatalogueWrite
  repeat' (first
    | with_reducible exact Upd.refl
    | with_reducible assumption
    | (intro u; refine Upd.cut 2148024324 s u ?_ (fun _ => ?_); subst u; rotate_left; clear_value u; rotate_right)
    | lift_lets
    | (with_reducible apply Upd.via; with_reducible apply State.writeCatalogue_upd; decide)
    | (with_reducible apply Upd.via; with_reducible apply State.advanceTo_upd; decide)
    | with_reducible refine UpdO.mk' ?_
    | split)

theorem execCataloguePlaceRetry_upd {x0 x1 s} : UpdO 16384 s (execCataloguePlaceRetry x0 x1 s) := by
  unfold execCataloguePlaceRetry
  repeat' (first
    | with_reducible exact Upd.refl
    | (with_reducible apply Upd.via; with_reducible apply State.placeCatalogue_upd; decide)
    | with_reducible refine UpdO.mk' ?_
    | split)

theorem State.fetchBlock_upd {s x1 x2} : UpdOpt 536891392 s (State.fetchBlock s x1 x2) := by
  unfold State.fetchBlock
  repeat' (first
    | with_reducible exact Upd.refl
    | (intro u; clear_value u)
    | lift_lets
    | exact UpdOpt.none
    | with_reducible refine UpdOpt.mk' ?_
    | (with_reducible apply Upd.via; with_reducible apply State.needShelf_upd; decide)
    | (with_reducible apply Upd.via; with_reducible apply State.request_upd; decide)
    | split)

theorem State.takeEntries_upd {s x1 x2} : Upd 16896 s (State.takeEntries s x1 x2) := by
  fun_induction State.takeEntries s x1 x2
  all_goals repeat' (first
    | with_reducible exact Upd.refl
    | lift_lets
    | (with_reducible apply Upd.via; with_reducible apply State.updSouth_upd; decide)
    | (with_reducible apply Upd.via; with_reducible apply State.setObject_upd; decide)
    | with_reducible refine Upd.via (by assumption) (by decide) ?_)

theorem State.takeRun_upd {s x1 x2} : Upd 8192 s (State.takeRun s x1 x2) := by
  unfold State.takeRun
  repeat' (first
    | with_reducible exact Upd.refl
    | with_reducible assumption
    | (intro u; clear_value u)
    | lift_lets
    | with_reducible refine Upd.foldl ?_ (fun _ _ _ => ?_)
    | split
    | (with_reducible apply Upd.via; with_reducible apply State.updPack_upd; decide))

theorem State.takeBlock_upd {s x1 x2} : Upd 25088 s (State.takeBlock s x1 x2) := by
  unfold State.takeBlock
  repeat' (first
    | with_reducible exact Upd.refl
    | with_reducible assumption
    | (intro u; refine Upd.cut 25088 s u ?_ (fun _ => ?_); subst u; rotate_left; clear_value u; rotate_right)
    | lift_lets
    | split
    | (with_reducible apply Upd.via; with_reducible apply State.takeEntries_upd; decide)
    | (with_reducible apply Upd.via; with_reducible apply State.takeRun_upd; decide)
    | (with_reducible apply Upd.via; with_reducible apply State.updSouth_upd; decide))

end Sys2Proof.Machine
end

