-- ==== Sys2Proof/Laws/UpdKeyOps.lean ====
section
/-! SUPPORT. What each operation of Machine/KeyOps.lean touches and keeps. -/

namespace Sys2Proof.Machine

theorem State.sendRestoreEnd_upd {s x1 x2} : Upd 536871424 s (State.sendRestoreEnd s x1 x2) := by
  unfold State.sendRestoreEnd
  repeat' (first
    | with_reducible exact Upd.refl
    | (with_reducible apply Upd.via; with_reducible apply State.sendFrame_upd; decide))

theorem State.dropRestore_upd {s x1} : Upd 229096 s (State.dropRestore s x1) := by
  unfold State.dropRestore
  dsimp only
  repeat' (first
    | with_reducible exact Upd.refl
    | (with_reducible apply Upd.via; with_reducible apply State.abortJobs_upd; decide)
    | (with_reducible apply Upd.via; with_reducible apply State.settleLater_upd; decide)
    | (with_reducible apply Upd.via; with_reducible apply State.updSession_upd; decide)
    | (with_reducible apply Upd.via; with_reducible apply State.updShepherd_upd; decide)
    | (with_reducible apply Upd.via; with_reducible apply State.updSouth_upd; decide)
    | split)

theorem State.endRestore_upd {s x1 x2} : Upd 537100008 s (State.endRestore s x1 x2) := by
  unfold State.endRestore
  repeat' (first
    | with_reducible exact Upd.refl
    | split
    | (with_reducible apply Upd.via; with_reducible apply State.sendRestoreEnd_upd; decide)
    | (with_reducible apply Upd.via; with_reducible apply State.dropRestore_upd; decide))

theorem State.finishRestore_upd {s x1} : Upd 536887808 s (State.finishRestore s x1) := by
  unfold State.finishRestore
  repeat' (first
    | with_reducible exact Upd.refl
    | (with_reducible apply Upd.via; with_reducible apply State.sendRestoreEnd_upd; decide)
    | (with_reducible apply Upd.via; with_reducible apply State.updSouth_upd; decide)
    | split)

theorem State.jobUnkeyed_upd {s x1} : Upd 537100008 s (State.jobUnkeyed s x1) := by
  unfold State.jobUnkeyed
  repeat' (first
    | with_reducible exact Upd.refl
    | (with_reducible apply Upd.via; with_reducible apply State.endRestore_upd; decide)
    | (with_reducible apply Upd.via; with_reducible apply State.abortObject_upd; decide)
    | split)

theorem State.clearSlots_upd {s x1} : Upd 537132776 s (State.clearSlots s x1) := by
  unfold State.clearSlots
  dsimp only
  repeat' (first
    | with_reducible exact Upd.refl
    | with_reducible assumption
    | with_reducible refine Upd.foldl ?_ (fun _ _ _ => ?_)
    | (with_reducible apply Upd.via; with_reducible apply State.endRestore_upd; decide)
    | (with_reducible apply Upd.via; with_reducible apply State.jobUnkeyed_upd; decide)
    | (with_reducible apply Upd.via; with_reducible apply State.emit_upd; decide)
    | (with_reducible apply Upd.via; with_reducible apply State.dropCtx_upd; decide)
    | (with_reducible apply Upd.via; with_reducible apply State.updKeys_upd; decide)
    | (with_reducible apply Upd.via; with_reducible apply State.stuCode_upd; decide))

end Sys2Proof.Machine
end

