-- ==== Sys2Proof/Laws/UpdMasks.lean ====
section
/-! SUPPORT. What each operation of Machine/Masks.lean touches and keeps. -/

namespace Sys2Proof.Machine

theorem State.stepMask_upd {s x1 x2} : Upd 1024 s (State.stepMask s x1 x2) := by
  unfold State.stepMask
  repeat' (first
    | with_reducible exact Upd.refl
    | (with_reducible apply Upd.via; with_reducible apply State.updStitch_upd; decide))

theorem State.loadPipes_upd {s x1 x2} : Upd2 1024 s (State.loadPipes s x1 x2) := by
  unfold State.loadPipes
  repeat' (first
    | with_reducible exact Upd.refl
    | with_reducible assumption
    | (intro u; refine Upd.cut 1024 s u ?_ (fun _ => ?_); subst u; rotate_left; clear_value u; rotate_right)
    | lift_lets
    | (with_reducible apply Upd.via; with_reducible apply State.stepMask_upd; decide)
    | with_reducible refine Upd2.mk' ?_)

end Sys2Proof.Machine
end

