-- ==== Sys2Proof/Laws/UpdStitch.lean ====
section
/-! SUPPORT. What each operation of Machine/Stitch.lean touches and keeps. -/

namespace Sys2Proof.Machine

theorem execRangeHandover_upd {x0 x1 x2 s} : UpdO 257640 s (execRangeHandover x0 x1 x2 s) := by
  unfold execRangeHandover
  repeat' (first
    | with_reducible exact Upd.refl
    | with_reducible assumption
    | (intro u; refine Upd.cut 257640 s u ?_ (fun _ => ?_); subst u; rotate_left; clear_value u; rotate_right)
    | (intro u; clear_value u)
    | lift_lets
    | (with_reducible apply Upd.via; with_reducible apply State.raise_upd; decide)
    | (with_reducible apply Upd.via; with_reducible apply State.useKey_upd; decide)
    | (with_reducible apply Upd.via; with_reducible apply State.setExtent_upd; decide)
    | (with_reducible apply Upd.via; with_reducible apply State.setLead_upd; decide)
    | (with_reducible apply Upd.via; with_reducible apply State.assign_upd; decide)
    | (with_reducible apply Upd.via; with_reducible apply Upd.fst State.placeRerun_upd; decide)
    | (with_reducible apply Upd.via; with_reducible apply State.fixLead_upd; decide)
    | (with_reducible apply Upd.via; with_reducible apply State.stuCode_upd; decide)
    | with_reducible refine UpdO.mk' ?_
    | split)

theorem State.precede_upd {s x1} : Upd 1024 s (State.precede s x1) := by
  unfold State.precede
  repeat' (first
    | with_reducible exact Upd.refl
    | (with_reducible apply Upd.via; with_reducible apply State.updStitch_upd; decide)
    | split)

theorem execContextSwitch_upd {x0 s} : UpdO 1024 s (execContextSwitch x0 s) := by
  unfold execContextSwitch
  dsimp only
  repeat' (first
    | with_reducible exact Upd.refl
    | (with_reducible apply Upd.via; with_reducible apply State.updStitch_upd; decide)
    | with_reducible refine UpdO.mk' ?_
    | split)

theorem State.countMismatch_upd {s x1} : Upd1 1032 s (State.countMismatch s x1) := by
  unfold State.countMismatch
  repeat' (first
    | with_reducible exact Upd.refl
    | (intro u; clear_value u)
    | lift_lets
    | (with_reducible apply Upd.via; with_reducible apply State.wr_upd; decide)
    | (with_reducible apply Upd.via; with_reducible apply State.updStitch_upd; decide)
    | with_reducible refine Upd1.mk' ?_)

theorem State.compareFail_upd {s x1 x2} : Upd 257640 s (State.compareFail s x1 x2) := by
  unfold State.compareFail
  repeat' (first
    | with_reducible exact Upd.refl
    | with_reducible assumption
    | (intro u; refine Upd.cut 257640 s u ?_ (fun _ => ?_); subst u; rotate_left; clear_value u; rotate_right)
    | (intro u; clear_value u)
    | lift_lets
    | with_reducible refine Upd.foldl ?_ (fun _ _ _ => ?_)
    | (with_reducible apply Upd.via; with_reducible apply State.raise_upd; decide)
    | (with_reducible apply Upd.via; with_reducible apply Upd.fst State.countMismatch_upd; decide)
    | (with_reducible apply Upd.via; with_reducible apply State.updStitch_upd; decide)
    | (with_reducible apply Upd.via; with_reducible apply State.setStu_upd; decide)
    | (with_reducible apply Upd.via; with_reducible apply State.rerun_upd; decide)
    | (with_reducible apply Upd.via; with_reducible apply State.stopStitch_upd; decide)
    | (with_reducible apply Upd.via; with_reducible apply State.stuCode_upd; decide)
    | split
    | dsimp only)

theorem execStuCompareFail_upd {x0 x1 s} : UpdO 257640 s (execStuCompareFail x0 x1 s) := by
  unfold execStuCompareFail
  repeat' (first
    | with_reducible exact Upd.refl
    | split
    | (with_reducible apply Upd.via; with_reducible apply State.compareFail_upd; decide)
    | with_reducible refine UpdO.mk' ?_)

theorem execMaskReseed_upd {x0 x1 s} : UpdO 1073742848 s (execMaskReseed x0 x1 s) := by
  unfold execMaskReseed
  repeat' (first
    | with_reducible exact Upd.refl
    | lift_lets
    | (with_reducible apply Upd.via; with_reducible apply Upd.snd State.draw_upd; decide)
    | (with_reducible apply Upd.via; with_reducible apply State.updStitch_upd; decide)
    | with_reducible refine UpdO.mk' ?_
    | split)

theorem execReseedLate_upd {x0 x1 s} : UpdO 2148265580 s (execReseedLate x0 x1 s) := by
  unfold execReseedLate
  repeat' (first
    | with_reducible exact Upd.refl
    | with_reducible assumption
    | (intro u; refine Upd.cut 2148265580 s u ?_ (fun _ => ?_); subst u; rotate_left; clear_value u; rotate_right)
    | lift_lets
    | (with_reducible apply Upd.via; with_reducible apply State.raise_upd; decide)
    | (with_reducible apply Upd.via; with_reducible apply State.flag_upd; decide)
    | (with_reducible apply Upd.via; with_reducible apply State.advanceTo_upd; decide)
    | (with_reducible apply Upd.via; with_reducible apply State.dropCtx_upd; decide)
    | (with_reducible apply Upd.via; with_reducible apply State.rerun_upd; decide)
    | (with_reducible apply Upd.via; with_reducible apply State.stuCode_upd; decide)
    | with_reducible refine UpdO.mk' ?_
    | split)

theorem execPlaintextPoison_upd {x0 x1 s} : UpdO 536968808 s (execPlaintextPoison x0 x1 s) := by
  unfold execPlaintextPoison
  repeat' (first
    | with_reducible exact Upd.refl
    | with_reducible assumption
    | (intro u; refine Upd.cut 536968808 s u ?_ (fun _ => ?_); subst u; rotate_left; clear_value u; rotate_right)
    | lift_lets
    | (with_reducible apply Upd.via; with_reducible apply State.flag_upd; decide)
    | (with_reducible apply Upd.via; with_reducible apply State.dropCtx_upd; decide)
    | (with_reducible apply Upd.via; with_reducible apply State.abortObject_upd; decide)
    | (with_reducible apply Upd.via; with_reducible apply State.stuCode_upd; decide)
    | with_reducible refine UpdO.mk' ?_
    | split
    | dsimp only)

theorem State.putRow_upd {s x1 x2 x3} : Upd 131720 s (State.putRow s x1 x2 x3) := by
  unfold State.putRow
  repeat' (first
    | with_reducible exact Upd.refl
    | with_reducible assumption
    | (intro u; refine Upd.cut 131720 s u ?_ (fun _ => ?_); subst u; rotate_left; clear_value u; rotate_right)
    | lift_lets
    | with_reducible refine Upd.foldl ?_ (fun _ _ _ => ?_)
    | (with_reducible apply Upd.via; with_reducible apply State.writePayload_upd; decide)
    | (with_reducible apply Upd.via; with_reducible apply State.setExtent_upd; decide)
    | split)

theorem State.stall_upd {s x1} : Upd 1024 s (State.stall s x1) := by
  unfold State.stall
  repeat' (first
    | with_reducible exact Upd.refl
    | (with_reducible apply Upd.via; with_reducible apply State.updStitch_upd; decide))

theorem State.takeBlocks_upd {s x1 x2 x3 x4 x5 x6 x7 x8} : Upd 1024 s (State.takeBlocks s x1 x2 x3 x4 x5 x6 x7 x8) := by
  unfold State.takeBlocks
  repeat' (first
    | with_reducible exact Upd.refl
    | (intro u; clear_value u)
    | lift_lets
    | (with_reducible apply Upd.via; with_reducible apply State.updStitch_upd; decide)
    | split)

theorem State.nextRow_upd {s x1 x2 x3} : Upd 1032 s (State.nextRow s x1 x2 x3) := by
  unfold State.nextRow
  repeat' (first
    | with_reducible exact Upd.refl
    | (with_reducible apply Upd.via; with_reducible apply State.addTo_upd; decide)
    | (with_reducible apply Upd.via; with_reducible apply State.updStitch_upd; decide))

theorem State.sealRow_upd {s x1 x2 x3 x4 x5 x6 x7} : Upd 132744 s (State.sealRow s x1 x2 x3 x4 x5 x6 x7) := by
  unfold State.sealRow
  repeat' (first
    | with_reducible exact Upd.refl
    | with_reducible assumption
    | (intro u; refine Upd.cut 132744 s u ?_ (fun _ => ?_); subst u; rotate_left; clear_value u; rotate_right)
    | (intro u; clear_value u)
    | lift_lets
    | (with_reducible apply Upd.via; with_reducible apply State.putRow_upd; decide)
    | (with_reducible apply Upd.via; with_reducible apply State.takeBlocks_upd; decide)
    | (with_reducible apply Upd.via; with_reducible apply State.nextRow_upd; decide)
    | split)

theorem State.unsealRow_upd {s x1 x2 x3 x4 x5 x6 x7 x8} : Upd 17416 s (State.unsealRow s x1 x2 x3 x4 x5 x6 x7 x8) := by
  unfold State.unsealRow
  repeat' (first
    | with_reducible exact Upd.refl
    | with_reducible assumption
    | (intro u; refine Upd.cut 17416 s u ?_ (fun _ => ?_); subst u; rotate_left; clear_value u; rotate_right)
    | (intro u; clear_value u)
    | lift_lets
    | (with_reducible apply Upd.via; with_reducible apply State.takeBlocks_upd; decide)
    | (with_reducible apply Upd.via; with_reducible apply State.nextRow_upd; decide)
    | (with_reducible apply Upd.via; with_reducible apply State.updSouth_upd; decide))

theorem State.poisonFetched_upd {s x1 x2 x3 x4} : Upd 91656 s (State.poisonFetched s x1 x2 x3 x4) := by
  unfold State.poisonFetched
  repeat' (first
    | with_reducible exact Upd.refl
    | with_reducible assumption
    | (intro u; refine Upd.cut 91656 s u ?_ (fun _ => ?_); subst u; rotate_left; clear_value u; rotate_right)
    | lift_lets
    | (with_reducible apply Upd.via; with_reducible apply State.abortJobs_upd; decide)
    | (with_reducible apply Upd.via; with_reducible apply State.updSouth_upd; decide))

theorem State.partRow_upd {s x1 x2 x3 x4 x5 x6 x7 x8} : Upd 1024 s (State.partRow s x1 x2 x3 x4 x5 x6 x7 x8) := by
  unfold State.partRow
  repeat' (first
    | with_reducible exact Upd.refl
    | with_reducible assumption
    | (intro u; refine Upd.cut 1024 s u ?_ (fun _ => ?_); subst u; rotate_left; clear_value u; rotate_right)
    | lift_lets
    | (with_reducible apply Upd.via; with_reducible apply State.stall_upd; decide)
    | (with_reducible apply Upd.via; with_reducible apply State.takeBlocks_upd; decide)
    | split)

theorem State.workRow_upd {s x1 x2 x3 x4 x5} : Upd 222856 s (State.workRow s x1 x2 x3 x4 x5) := by
  unfold State.workRow
  repeat' (first
    | with_reducible exact Upd.refl
    | (intro u; clear_value u)
    | lift_lets
    | (with_reducible apply Upd.via; with_reducible apply State.sealRow_upd; decide)
    | (with_reducible apply Upd.via; with_reducible apply State.unsealRow_upd; decide)
    | (with_reducible apply Upd.via; with_reducible apply State.poisonFetched_upd; decide)
    | (with_reducible apply Upd.via; with_reducible apply State.partRow_upd; decide)
    | split)

theorem execRowRelease_upd {x0 s} : UpdO 257768 s (execRowRelease x0 s) := by
  unfold execRowRelease
  repeat' (first
    | with_reducible exact Upd.refl
    | with_reducible assumption
    | (intro u; refine Upd.cut 257768 s u ?_ (fun _ => ?_); subst u; rotate_left; clear_value u; rotate_right)
    | lift_lets
    | split
    | (with_reducible apply Upd.via; with_reducible apply State.dropCtx_upd; decide)
    | (with_reducible apply Upd.via; with_reducible apply State.precede_upd; decide)
    | (with_reducible apply Upd.via; with_reducible apply State.compareFail_upd; decide)
    | (with_reducible apply Upd.via; with_reducible apply State.workRow_upd; decide)
    | (with_reducible apply Upd.via; with_reducible apply State.stuCode_upd; decide)
    | with_reducible refine UpdO.mk' ?_)

theorem State.sendPartial_upd {s x1 x2} : Upd 536888832 s (State.sendPartial s x1 x2) := by
  unfold State.sendPartial
  repeat' (first
    | with_reducible exact Upd.refl
    | with_reducible assumption
    | (intro u; refine Upd.cut 536888832 s u ?_ (fun _ => ?_); subst u; rotate_left; clear_value u; rotate_right)
    | (intro u; clear_value u)
    | lift_lets
    | (with_reducible apply Upd.via; with_reducible apply State.stepMask_upd; decide)
    | (with_reducible apply Upd.via; with_reducible apply State.emit_upd; decide)
    | (with_reducible apply Upd.via; with_reducible apply State.updRanges_upd; decide))

theorem execGhashPartial_upd {x0 x1 x2 s} : UpdO 536888832 s (execGhashPartial x0 x1 x2 s) := by
  unfold execGhashPartial
  repeat' (first
    | with_reducible exact Upd.refl
    | (intro u; clear_value u)
    | lift_lets
    | (with_reducible apply Upd.via; with_reducible apply State.sendPartial_upd; decide)
    | with_reducible refine UpdO.mk' ?_
    | split)

theorem execTagCombine_upd {x0 x1 s} : UpdO 512 s (execTagCombine x0 x1 s) := by
  unfold execTagCombine
  repeat' (first
    | with_reducible exact Upd.refl
    | (intro u; clear_value u)
    | lift_lets
    | (with_reducible apply Upd.via; with_reducible apply State.freeIngest_upd; decide)
    | (with_reducible apply Upd.via; with_reducible apply State.discardExtent_upd; decide)
    | (with_reducible apply Upd.via; with_reducible apply State.setExtent_upd; decide)
    | with_reducible refine UpdO.mk' ?_
    | split)

theorem State.stitchServe_upd {s x1} : Upd 8 s (State.stitchServe s x1) := by
  unfold State.stitchServe
  repeat' (first
    | with_reducible exact Upd.refl
    | (with_reducible apply Upd.via; with_reducible apply State.setStu_upd; decide))

theorem execStuSelftestDone_upd {x0 x1 x2 s} : UpdO 17038952 s (execStuSelftestDone x0 x1 x2 s) := by
  unfold execStuSelftestDone
  repeat' (first
    | with_reducible exact Upd.refl
    | with_reducible assumption
    | (intro u; refine Upd.cut 17038952 s u ?_ (fun _ => ?_); subst u; rotate_left; clear_value u; rotate_right)
    | (intro u; clear_value u)
    | lift_lets
    | split
    | (with_reducible apply Upd.via; with_reducible apply State.raise_upd; decide)
    | (with_reducible apply Upd.via; with_reducible apply State.flag_upd; decide)
    | (with_reducible apply Upd.via; with_reducible apply State.backInService_upd; decide)
    | (with_reducible apply Upd.via; with_reducible apply State.testEnded_upd; decide)
    | (with_reducible apply Upd.via; with_reducible apply State.testOver_upd; decide)
    | (with_reducible apply Upd.via; with_reducible apply State.stitchServe_upd; decide)
    | (with_reducible apply Upd.via; with_reducible apply State.updStitch_upd; decide)
    | (with_reducible apply Upd.via; with_reducible apply State.setStu_upd; decide)
    | (with_reducible apply Upd.via; with_reducible apply Upd.fst State.clearCtxs_upd; decide)
    | with_reducible refine UpdO.mk' ?_)

theorem execStuEnWrite_upd {x0 x1 s} : UpdO 1032 s (execStuEnWrite x0 x1 s) := by
  unfold execStuEnWrite
  repeat' (first
    | with_reducible exact Upd.refl
    | with_reducible assumption
    | (intro u; refine Upd.cut 1032 s u ?_ (fun _ => ?_); subst u; rotate_left; clear_value u; rotate_right)
    | lift_lets
    | (with_reducible apply Upd.via; with_reducible apply State.flag_upd; decide)
    | (with_reducible apply Upd.via; with_reducible apply State.updStitch_upd; decide)
    | (with_reducible apply Upd.via; with_reducible apply State.setStu_upd; decide)
    | with_reducible refine UpdO.mk' ?_
    | split)

theorem execStReq_upd {x0 s} : UpdO 4096 s (execStReq x0 s) := by
  unfold execStReq
  repeat' (first
    | with_reducible exact Upd.refl
    | (with_reducible apply Upd.via; with_reducible apply State.updShepherd_upd; decide)
    | with_reducible refine UpdO.mk' ?_
    | split)

theorem execStuQrel_upd {x0 x1 s} : UpdO 1032 s (execStuQrel x0 x1 s) := by
  unfold execStuQrel
  repeat' (first
    | with_reducible exact Upd.refl
    | (with_reducible apply Upd.via; with_reducible apply State.updStitch_upd; decide)
    | (with_reducible apply Upd.via; with_reducible apply State.setStu_upd; decide)
    | with_reducible refine UpdO.mk' ?_
    | split)

end Sys2Proof.Machine
end

