-- ==== Sys2Proof/Laws/UpdRestore.lean ====
section
/-! SUPPORT. What each operation of Machine/Restore.lean touches and keeps. -/

namespace Sys2Proof.Machine

theorem State.updRestoreExt_upd {s x1 x2 x3} : Upd 16384 s (State.updRestoreExt s x1 x2 x3) := by
  unfold State.updRestoreExt
  repeat' (first
    | with_reducible exact Upd.refl
    | (with_reducible apply Upd.via; with_reducible apply State.updSouth_upd; decide))

theorem State.placeUnseal_upd {s x1 x2} : Upd 17928 s (State.placeUnseal s x1 x2) := by
  unfold State.placeUnseal
  repeat' (first
    | with_reducible exact Upd.refl
    | with_reducible assumption
    | (intro u; refine Upd.cut 17928 s u ?_ (fun _ => ?_); subst u; rotate_left; clear_value u; rotate_right)
    | (intro u; clear_value u)
    | lift_lets
    | with_reducible refine Upd.foldl ?_ (fun _ _ _ => ?_)
    | (with_reducible apply Upd.via; with_reducible apply State.setLead_upd; decide)
    | (with_reducible apply Upd.via; with_reducible apply State.assign_upd; decide)
    | split)

theorem State.startDecode_upd {s x1 x2 x3} : Upd 50696 s (State.startDecode s x1 x2 x3) := by
  unfold State.startDecode
  repeat' (first
    | with_reducible exact Upd.refl
    | with_reducible assumption
    | (intro u; refine Upd.cut 50696 s u ?_ (fun _ => ?_); subst u; rotate_left; clear_value u; rotate_right)
    | (intro u; clear_value u)
    | lift_lets
    | (with_reducible apply Upd.via; with_reducible apply State.bump_upd; decide)
    | (with_reducible apply Upd.via; with_reducible apply State.updRestoreExt_upd; decide)
    | (with_reducible apply Upd.via; with_reducible apply State.placeUnseal_upd; decide)
    | (with_reducible apply Upd.via; with_reducible apply State.updSouth_upd; decide)
    | (with_reducible apply Upd.via; with_reducible apply State.useKey_upd; decide)
    | split)

theorem State.takeStaged_upd {s x1 x2 x3 x4} : Upd 16384 s (State.takeStaged s x1 x2 x3 x4) := by
  unfold State.takeStaged
  repeat' (first
    | with_reducible exact Upd.refl
    | (intro u; clear_value u)
    | lift_lets
    | (with_reducible apply Upd.via; with_reducible apply State.updRestoreExt_upd; decide))

theorem State.pumpExt_upd {s x1 x2 x3} : Upd 536891392 s (State.pumpExt s x1 x2 x3) := by
  fun_induction State.pumpExt s x1 x2 x3
  all_goals repeat' (first
    | with_reducible exact Upd.refl
    | lift_lets
    | (with_reducible apply Upd.via; with_reducible apply State.updRestoreExt_upd; decide)
    | (with_reducible apply Upd.via; with_reducible apply State.takeStaged_upd; decide)
    | (with_reducible apply Upd.via; with_reducible apply State.updShepherd_upd; decide)
    | (with_reducible apply Upd.via; with_reducible apply State.updSouth_upd; decide)
    | (with_reducible apply UpdOpt.via; with_reducible apply State.fetchFrag_upd; decide)
    | (with_reducible apply Upd.someOf'; with_reducible assumption)
    | with_reducible refine Upd.via (by assumption) (by decide) ?_)

theorem State.checkExt_upd {s x1 x2} : Upd 537132776 s (State.checkExt s x1 x2) := by
  unfold State.checkExt
  repeat' (first
    | with_reducible exact Upd.refl
    | (with_reducible apply Upd.via; with_reducible apply State.raise_upd; decide)
    | (with_reducible apply Upd.via; with_reducible apply State.endRestore_upd; decide)
    | (with_reducible apply Upd.via; with_reducible apply State.bump_upd; decide)
    | split)

theorem State.pumpRestore_upd {s x1} : Upd 537132776 s (State.pumpRestore s x1) := by
  unfold State.pumpRestore
  repeat' (first
    | with_reducible exact Upd.refl
    | with_reducible assumption
    | (intro u; refine Upd.cut 537132776 s u ?_ (fun _ => ?_); subst u; rotate_left; clear_value u; rotate_right)
    | lift_lets
    | with_reducible refine Upd.foldl ?_ (fun _ _ _ => ?_)
    | (with_reducible apply Upd.via; with_reducible apply State.placeUnseal_upd; decide)
    | (with_reducible apply Upd.via; with_reducible apply State.startDecode_upd; decide)
    | (with_reducible apply Upd.via; with_reducible apply State.pumpExt_upd; decide)
    | (with_reducible apply Upd.via; with_reducible apply State.checkExt_upd; decide)
    | (with_reducible apply Upd.via; with_reducible apply State.updSouth_upd; decide)
    | split)

theorem State.pumpRestores_upd {s} : Upd 537132776 s (State.pumpRestores s) := by
  unfold State.pumpRestores
  repeat' (first
    | with_reducible exact Upd.refl
    | with_reducible assumption
    | with_reducible refine Upd.foldl ?_ (fun _ _ _ => ?_)
    | (with_reducible apply Upd.via; with_reducible apply State.pumpRestore_upd; decide))

theorem execRangeDone_upd {x0 s} : UpdO 537132776 s (execRangeDone x0 s) := by
  unfold execRangeDone
  repeat' (first
    | with_reducible exact Upd.refl
    | with_reducible assumption
    | (intro u; refine Upd.cut 537132776 s u ?_ (fun _ => ?_); subst u; rotate_left; clear_value u; rotate_right)
    | lift_lets
    | (with_reducible apply Upd.via; with_reducible apply State.pumpRestore_upd; decide)
    | (with_reducible apply Upd.via; with_reducible apply State.dropCtx_upd; decide)
    | (with_reducible apply Upd.via; with_reducible apply State.compareFail_upd; decide)
    | (with_reducible apply Upd.via; with_reducible apply State.sendPartial_upd; decide)
    | (with_reducible apply Upd.via; with_reducible apply State.freeIngest_upd; decide)
    | (with_reducible apply Upd.via; with_reducible apply State.updRanges_upd; decide)
    | with_reducible refine UpdO.mk' ?_
    | split)

theorem State.pumpHeld_upd {s} : Upd 537132776 s (State.pumpHeld s) := by
  unfold State.pumpHeld
  repeat' (first
    | with_reducible exact Upd.refl
    | with_reducible assumption
    | with_reducible refine Upd.foldl ?_ (fun _ _ _ => ?_)
    | (with_reducible apply Upd.via; with_reducible apply State.pumpRestore_upd; decide))

theorem execUnsealTagCheck_upd {x0 x1 s} : UpdO 537132776 s (execUnsealTagCheck x0 x1 s) := by
  unfold execUnsealTagCheck
  repeat' (first
    | with_reducible exact Upd.refl
    | lift_lets
    | (with_reducible apply Upd.via; with_reducible apply State.raise_upd; decide)
    | (with_reducible apply Upd.via; with_reducible apply State.endRestore_upd; decide)
    | (with_reducible apply Upd.via; with_reducible apply State.bump_upd; decide)
    | (with_reducible apply Upd.via; with_reducible apply State.updRestoreExt_upd; decide)
    | (with_reducible apply Upd.via; with_reducible apply State.pumpRestore_upd; decide)
    | (with_reducible apply Upd.via; with_reducible apply State.pumpHeld_upd; decide)
    | (with_reducible apply Upd.via; with_reducible apply State.settleLater_upd; decide)
    | (with_reducible apply Upd.via; with_reducible apply State.stuCode_upd; decide)
    | with_reducible refine UpdO.mk' ?_
    | split
    | dsimp only)

theorem State.restoreBegin_upd {s x1 x2 x3 x4 x5 x6} : Upd 536871424 s (State.restoreBegin s x1 x2 x3 x4 x5 x6) := by
  unfold State.restoreBegin
  repeat' (first
    | with_reducible exact Upd.refl
    | (with_reducible apply Upd.via; with_reducible apply State.sendFrame_upd; decide))

theorem State.beginRestore_upd {s x1} : Upd 537132776 s (State.beginRestore s x1) := by
  unfold State.beginRestore
  dsimp only
  repeat' (first
    | with_reducible exact Upd.refl
    | (with_reducible apply Upd.via; with_reducible apply State.endRestore_upd; decide)
    | (with_reducible apply Upd.via; with_reducible apply State.pumpRestore_upd; decide)
    | (with_reducible apply Upd.via; with_reducible apply State.restoreBegin_upd; decide)
    | (with_reducible apply Upd.via; with_reducible apply State.updSession_upd; decide)
    | (with_reducible apply Upd.via; with_reducible apply State.status_upd; decide)
    | (with_reducible apply Upd.via; with_reducible apply State.updSouth_upd; decide)
    | with_reducible refine iteInduction (motive := Upd 537132776 s) (fun _ => ?_) (fun _ => ?_)
    | split)

theorem State.serveReceipt_upd {s x1} : UpdOpt 536871424 s (State.serveReceipt s x1) := by
  unfold State.serveReceipt
  repeat' (first
    | with_reducible exact Upd.refl
    | exact UpdOpt.none
    | with_reducible refine UpdOpt.mk' ?_
    | (with_reducible apply Upd.via; with_reducible apply State.status_upd; decide)
    | (with_reducible apply Upd.via; with_reducible apply State.sendSettled_upd; decide)
    | split)

theorem State.noBlock_upd {s x1} : Upd 536871424 s (State.noBlock s x1) := by
  unfold State.noBlock
  repeat' (first
    | with_reducible exact Upd.refl
    | (with_reducible apply Upd.via; with_reducible apply State.restoreBegin_upd; decide)
    | (with_reducible apply Upd.via; with_reducible apply State.status_upd; decide)
    | split)

theorem State.serveEpoch_upd {s x1 x2} : Upd 536871424 s (State.serveEpoch s x1 x2) := by
  unfold State.serveEpoch
  repeat' (first
    | with_reducible exact Upd.refl
    | (with_reducible apply Upd.via; with_reducible apply State.updSession_upd; decide)
    | (with_reducible apply Upd.via; with_reducible apply State.status_upd; decide)
    | (with_reducible apply Upd.via; with_reducible apply State.sendEpoch_upd; decide)
    | split)

theorem State.serve_upd {s x1} : Upd 537132776 s (State.serve s x1) := by
  unfold State.serve
  dsimp only
  repeat' (first
    | with_reducible exact Upd.refl
    | with_reducible assumption
    | with_reducible refine UpdOpt.mk' ?_
    | split
    | (with_reducible apply Upd.via; with_reducible apply State.beginRestore_upd; decide)
    | (with_reducible apply Upd.via; with_reducible apply State.noBlock_upd; decide)
    | (with_reducible apply Upd.via; with_reducible apply State.serveEpoch_upd; decide)
    | (with_reducible apply Upd.via; with_reducible apply State.updSouth_upd; decide)
    | (with_reducible apply UpdOpt.via; with_reducible apply State.fetchBlock_upd; decide)
    | (with_reducible apply UpdOpt.via; with_reducible apply State.serveReceipt_upd; decide)
    | (with_reducible apply Upd.someOf'; with_reducible assumption)
    | with_reducible refine UpdOpt.foldBind ?_ (fun _ _ _ => ?_)
    | with_reducible refine Upd.getD ?_ ?_)

theorem State.serveWaiting_upd {s} : Upd 537132776 s (State.serveWaiting s) := by
  unfold State.serveWaiting
  repeat' (first
    | with_reducible exact Upd.refl
    | with_reducible assumption
    | with_reducible refine Upd.foldl ?_ (fun _ _ _ => ?_)
    | (with_reducible apply Upd.via; with_reducible apply State.serve_upd; decide)
    | (with_reducible apply Upd.via; with_reducible apply State.updSouth_upd; decide))

theorem State.takeNames_upd {s x1 x2} : Upd 537132776 s (State.takeNames s x1 x2) := by
  unfold State.takeNames
  repeat' (first
    | with_reducible exact Upd.refl
    | with_reducible assumption
    | (intro u; clear_value u)
    | lift_lets
    | with_reducible refine Upd.foldl ?_ (fun _ _ _ => ?_)
    | (with_reducible apply Upd.via; with_reducible apply State.startRepair_upd; decide)
    | split)

theorem State.takeRebuild_upd {s x1} : Upd 16384 s (State.takeRebuild s x1) := by
  unfold State.takeRebuild
  repeat' (first
    | with_reducible exact Upd.refl
    | with_reducible assumption
    | (intro u; clear_value u)
    | lift_lets
    | with_reducible refine Upd.foldl ?_ (fun _ _ _ => ?_)
    | (with_reducible apply Upd.via; with_reducible apply State.updSouth_upd; decide)
    | split)

theorem State.rebuildObject_upd {s x1 x2} : Upd 537390696 s (State.rebuildObject s x1 x2) := by
  unfold State.rebuildObject
  dsimp only
  repeat' (first
    | with_reducible exact Upd.refl
    | with_reducible assumption
    | with_reducible refine Upd.foldl ?_ (fun _ _ _ => ?_)
    | split
    | (with_reducible apply Upd.via; with_reducible apply State.touchGroup_upd; decide)
    | (with_reducible apply Upd.via; with_reducible apply State.sendDelete_upd; decide)
    | (with_reducible apply Upd.via; with_reducible apply State.addLeaf_upd; decide)
    | (with_reducible apply Upd.via; with_reducible apply State.updSouth_upd; decide)
    | (with_reducible apply Upd.via; with_reducible apply State.setObject_upd; decide))

theorem State.finishRebuild_upd {s} : Upd 537394920 s (State.finishRebuild s) := by
  unfold State.finishRebuild
  repeat' (first
    | with_reducible exact Upd.refl
    | with_reducible assumption
    | (intro u; refine Upd.cut 537394920 s u ?_ (fun _ => ?_); subst u; rotate_left; clear_value u; rotate_right)
    | (intro u; clear_value u)
    | lift_lets
    | with_reducible refine Upd.foldl ?_ (fun _ _ _ => ?_)
    | split
    | (with_reducible apply Upd.via; with_reducible apply State.serveWaiting_upd; decide)
    | (with_reducible apply Upd.via; with_reducible apply State.rebuildObject_upd; decide)
    | (with_reducible apply Upd.via; with_reducible apply State.touchCatalogue_upd; decide)
    | (with_reducible apply Upd.via; with_reducible apply State.updSouth_upd; decide))

theorem execCatalogueRebuild_upd {s} : UpdO 537394920 s (execCatalogueRebuild s) := by
  unfold execCatalogueRebuild
  repeat' (first
    | with_reducible exact Upd.refl
    | with_reducible assumption
    | (intro u; refine Upd.cut 537394920 s u ?_ (fun _ => ?_); subst u; rotate_left; clear_value u; rotate_right)
    | (intro u; clear_value u)
    | lift_lets
    | with_reducible refine Upd.foldl ?_ (fun _ _ _ => ?_)
    | (with_reducible apply Upd.via; with_reducible apply State.finishRebuild_upd; decide)
    | (with_reducible apply Upd.via; with_reducible apply State.needShelf_upd; decide)
    | (with_reducible apply Upd.via; with_reducible apply State.request_upd; decide)
    | (with_reducible apply Upd.via; with_reducible apply State.updSouth_upd; decide)
    | (with_reducible apply UpdOpt.via; with_reducible apply State.fetchBlock_upd; decide)
    | with_reducible refine UpdO.mk' ?_
    | split
    | with_reducible refine Upd.getD ?_ ?_)

theorem State.repairArrived_upd {s x1} : Upd 537022696 s (State.repairArrived s x1) := by
  unfold State.repairArrived
  dsimp only
  repeat' (first
    | with_reducible exact Upd.refl
    | (with_reducible apply Upd.via; with_reducible apply State.note_upd; decide)
    | (with_reducible apply Upd.via; with_reducible apply State.pumpRepair_upd; decide)
    | (with_reducible apply Upd.via; with_reducible apply State.updSouth_upd; decide)
    | (with_reducible apply UpdOpt.via; with_reducible apply State.placeRepair_upd; decide)
    | split
    | with_reducible refine Upd.getD ?_ ?_)

theorem State.failFetch_upd {s x1} : Upd 537394920 s (State.failFetch s x1) := by
  unfold State.failFetch
  repeat' (first
    | with_reducible exact Upd.refl
    | with_reducible assumption
    | (intro u; refine Upd.cut 537394920 s u ?_ (fun _ => ?_); subst u; rotate_left; clear_value u; rotate_right)
    | (intro u; clear_value u)
    | lift_lets
    | with_reducible refine Upd.foldl ?_ (fun _ _ _ => ?_)
    | (with_reducible apply Upd.via; with_reducible apply State.updRestoreExt_upd; decide)
    | (with_reducible apply Upd.via; with_reducible apply State.pumpRestore_upd; decide)
    | (with_reducible apply Upd.via; with_reducible apply State.noBlock_upd; decide)
    | (with_reducible apply Upd.via; with_reducible apply State.finishRebuild_upd; decide)
    | (with_reducible apply Upd.via; with_reducible apply State.touchShelf_upd; decide)
    | (with_reducible apply Upd.via; with_reducible apply State.markUnrecoverable_upd; decide)
    | (with_reducible apply Upd.via; with_reducible apply State.pumpRepair_upd; decide)
    | (with_reducible apply Upd.via; with_reducible apply State.updSouth_upd; decide)
    | (with_reducible apply UpdOpt.via; with_reducible apply State.fetchBlock_upd; decide)
    | split
    | (with_reducible apply Upd.someOf'; with_reducible assumption))

theorem State.takeFragment_upd {s x1 x2 x3} : Upd 537394920 s (State.takeFragment s x1 x2 x3) := by
  unfold State.takeFragment
  repeat' (first
    | with_reducible exact Upd.refl
    | with_reducible assumption
    | (intro u; refine Upd.cut 537394920 s u ?_ (fun _ => ?_); subst u; rotate_left; clear_value u; rotate_right)
    | (intro u; clear_value u)
    | lift_lets
    | (with_reducible apply Upd.via; with_reducible apply State.updRestoreExt_upd; decide)
    | (with_reducible apply Upd.via; with_reducible apply State.pumpRestore_upd; decide)
    | (with_reducible apply Upd.via; with_reducible apply State.repairArrived_upd; decide)
    | (with_reducible apply Upd.via; with_reducible apply State.failFetch_upd; decide)
    | (with_reducible apply Upd.via; with_reducible apply State.touchShelf_upd; decide)
    | (with_reducible apply Upd.via; with_reducible apply State.updSouth_upd; decide)
    | (with_reducible apply Upd.via; with_reducible apply State.setExtent_upd; decide)
    | split)

theorem State.takeAnswer_upd {s x1 x2 x3} : Upd 537394920 s (State.takeAnswer s x1 x2 x3) := by
  unfold State.takeAnswer
  repeat' (first
    | with_reducible exact Upd.refl
    | with_reducible assumption
    | (intro u; refine Upd.cut 537394920 s u ?_ (fun _ => ?_); subst u; rotate_left; clear_value u; rotate_right)
    | lift_lets
    | (with_reducible apply Upd.via; with_reducible apply State.takeBlock_upd; decide)
    | (with_reducible apply Upd.via; with_reducible apply State.serveWaiting_upd; decide)
    | (with_reducible apply Upd.via; with_reducible apply State.takeNames_upd; decide)
    | (with_reducible apply Upd.via; with_reducible apply State.takeRebuild_upd; decide)
    | (with_reducible apply Upd.via; with_reducible apply State.finishRebuild_upd; decide)
    | (with_reducible apply Upd.via; with_reducible apply State.failFetch_upd; decide)
    | (with_reducible apply Upd.via; with_reducible apply State.takeFragment_upd; decide)
    | (with_reducible apply Upd.via; with_reducible apply State.touchShelf_upd; decide)
    | (with_reducible apply Upd.via; with_reducible apply State.updSouth_upd; decide)
    | split)

theorem execGetData_upd {x0 s} : UpdO 537394920 s (execGetData x0 s) := by
  unfold execGetData
  repeat' (first
    | with_reducible exact Upd.refl
    | with_reducible assumption
    | (intro u; refine Upd.cut 537394920 s u ?_ (fun _ => ?_); subst u; rotate_left; clear_value u; rotate_right)
    | (intro u; clear_value u)
    | lift_lets
    | (with_reducible apply Upd.via; with_reducible apply State.writePayload_upd; decide)
    | (with_reducible apply Upd.via; with_reducible apply State.takeAnswer_upd; decide)
    | (with_reducible apply Upd.via; with_reducible apply State.updSouth_upd; decide)
    | (with_reducible apply Upd1.via; with_reducible apply State.acceptSouth_upd; decide)
    | with_reducible refine UpdO.mk' ?_
    | split
    | (with_reducible apply Upd.fstOf'; with_reducible assumption))

theorem execGetTimeout_upd {x0 x1 s} : UpdO 2685402860 s (execGetTimeout x0 x1 s) := by
  unfold execGetTimeout
  repeat' (first
    | with_reducible exact Upd.refl
    | (intro u; clear_value u)
    | lift_lets
    | (with_reducible apply Upd.via; with_reducible apply State.advanceTo_upd; decide)
    | (with_reducible apply Upd.via; with_reducible apply State.failFetch_upd; decide)
    | with_reducible refine UpdO.mk' ?_
    | split)

theorem execFtStatus_upd {x0 s} : UpdO 537394920 s (execFtStatus x0 s) := by
  unfold execFtStatus
  repeat' (first
    | with_reducible exact Upd.refl
    | lift_lets
    | (with_reducible apply Upd.via; with_reducible apply State.failFetch_upd; decide)
    | (with_reducible apply Upd.via; with_reducible apply State.southBadField_upd; decide)
    | (with_reducible apply Upd1.via; with_reducible apply State.acceptSouth_upd; decide)
    | with_reducible refine UpdO.mk' ?_
    | split
    | (with_reducible apply Upd.fstOf'; with_reducible assumption))

theorem execRestoreBufferWait_upd {x0 s} : UpdO 537132776 s (execRestoreBufferWait x0 s) := by
  unfold execRestoreBufferWait
  repeat' (first
    | with_reducible exact Upd.refl
    | (with_reducible apply Upd.via; with_reducible apply State.pumpRestore_upd; decide)
    | with_reducible refine UpdO.mk' ?_
    | split)

theorem execEvacuate_upd {x0 s} : UpdO 537132776 s (execEvacuate x0 s) := by
  unfold execEvacuate
  repeat' (first
    | with_reducible exact Upd.refl
    | with_reducible assumption
    | (intro u; refine Upd.cut 537132776 s u ?_ (fun _ => ?_); subst u; rotate_left; clear_value u; rotate_right)
    | (intro u; clear_value u)
    | lift_lets
    | (with_reducible apply Upd.via; with_reducible apply State.wr_upd; decide)
    | (with_reducible apply Upd.via; with_reducible apply State.failMedium_upd; decide)
    | (with_reducible apply Upd.via; with_reducible apply State.updSouth_upd; decide)
    | with_reducible refine UpdO.mk' ?_
    | split)

theorem State.dropRepair_upd {s x1} : Upd 536891392 s (State.dropRepair s x1) := by
  unfold State.dropRepair
  repeat' (first
    | with_reducible exact Upd.refl
    | with_reducible assumption
    | (intro u; refine Upd.cut 536891392 s u ?_ (fun _ => ?_); subst u; rotate_left; clear_value u; rotate_right)
    | (intro u; clear_value u)
    | lift_lets
    | with_reducible refine Upd.foldl ?_ (fun _ _ _ => ?_)
    | (with_reducible apply Upd.via; with_reducible apply State.subAlloc_upd; decide)
    | (with_reducible apply Upd.via; with_reducible apply State.subPending_upd; decide)
    | (with_reducible apply Upd.via; with_reducible apply State.sendDelete_upd; decide)
    | (with_reducible apply Upd.via; with_reducible apply State.updSouth_upd; decide)
    | split)

theorem execEvacuateCancel_upd {x0 s} : UpdO 536891400 s (execEvacuateCancel x0 s) := by
  unfold execEvacuateCancel
  repeat' (first
    | with_reducible exact Upd.refl
    | with_reducible assumption
    | (intro u; refine Upd.cut 536891400 s u ?_ (fun _ => ?_); subst u; rotate_left; clear_value u; rotate_right)
    | (intro u; clear_value u)
    | lift_lets
    | with_reducible refine Upd.foldl ?_ (fun _ _ _ => ?_)
    | (with_reducible apply Upd.via; with_reducible apply State.wr_upd; decide)
    | (with_reducible apply Upd.via; with_reducible apply State.dropRepair_upd; decide)
    | (with_reducible apply Upd.via; with_reducible apply State.updSouth_upd; decide)
    | with_reducible refine UpdO.mk' ?_
    | split)

theorem execRestoreDataSend_upd {x0 s} : UpdO 536887808 s (execRestoreDataSend x0 s) := by
  unfold execRestoreDataSend
  repeat' (first
    | with_reducible exact Upd.refl
    | with_reducible assumption
    | (intro u; refine Upd.cut 536887808 s u ?_ (fun _ => ?_); subst u; rotate_left; clear_value u; rotate_right)
    | (intro u; clear_value u)
    | lift_lets
    | (with_reducible apply Upd.via; with_reducible apply State.finishRestore_upd; decide)
    | (with_reducible apply Upd.via; with_reducible apply State.sendFrame_upd; decide)
    | (with_reducible apply Upd.via; with_reducible apply State.updQueue_upd; decide)
    | (with_reducible apply Upd.via; with_reducible apply State.updSouth_upd; decide)
    | with_reducible refine UpdO.mk' ?_
    | split)

theorem execRestoreIdleTimeout_upd {x0 s} : UpdO 2685107948 s (execRestoreIdleTimeout x0 s) := by
  unfold execRestoreIdleTimeout
  repeat' (first
    | with_reducible exact Upd.refl
    | (intro u; clear_value u)
    | lift_lets
    | (with_reducible apply Upd.via; with_reducible apply State.endRestore_upd; decide)
    | (with_reducible apply Upd.via; with_reducible apply State.advanceTo_upd; decide)
    | with_reducible refine UpdO.mk' ?_
    | split)

end Sys2Proof.Machine
end

