-- ==== Sys2Proof/Laws/UpdStaging.lean ====
section
/-! SUPPORT. What each operation of Machine/Staging.lean touches and keeps. -/

namespace Sys2Proof.Machine

theorem State.afterLoss_upd {s} : Upd 537132776 s (State.afterLoss s) := by
  unfold State.afterLoss
  repeat' (first
    | with_reducible exact Upd.refl
    | with_reducible assumption
    | (intro u; refine Upd.cut 537132776 s u ?_ (fun _ => ?_); subst u; rotate_left; clear_value u; rotate_right)
    | (intro u; clear_value u)
    | lift_lets
    | with_reducible refine Upd.foldl ?_ (fun _ _ _ => ?_)
    | (with_reducible apply Upd.via; with_reducible apply State.pumpRestores_upd; decide)
    | (with_reducible apply Upd.via; with_reducible apply State.pumpRepairs_upd; decide)
    | (with_reducible apply Upd.via; with_reducible apply State.restartRepair_upd; decide)
    | (with_reducible apply Upd.via; with_reducible apply State.abortObject_upd; decide)
    | split)

theorem State.channelFailed_upd {s x1} : Upd 537132776 s (State.channelFailed s x1) := by
  unfold State.channelFailed
  repeat' (first
    | with_reducible exact Upd.refl
    | split
    | (with_reducible apply Upd.via; with_reducible apply State.raise_upd; decide)
    | (with_reducible apply Upd.via; with_reducible apply State.afterLoss_upd; decide)
    | (with_reducible apply Upd.via; with_reducible apply State.loseChannel_upd; decide))

theorem execChannelFail_upd {x0 s} : UpdO 537132776 s (execChannelFail x0 s) := by
  unfold execChannelFail
  repeat' (first
    | with_reducible exact Upd.refl
    | (with_reducible apply Upd.via; with_reducible apply State.channelFailed_upd; decide)
    | with_reducible refine UpdO.mk' ?_)

theorem State.regenShort_upd {s x1 x2 x3} : Upd 537132648 s (State.regenShort s x1 x2 x3) := by
  unfold State.regenShort
  repeat' (first
    | with_reducible exact Upd.refl
    | with_reducible assumption
    | (intro u; refine Upd.cut 537132648 s u ?_ (fun _ => ?_); subst u; rotate_left; clear_value u; rotate_right)
    | (intro u; clear_value u)
    | lift_lets
    | with_reducible refine Upd.foldl ?_ (fun _ _ _ => ?_)
    | (with_reducible apply Upd.via; with_reducible apply State.raise_upd; decide)
    | (with_reducible apply Upd.via; with_reducible apply State.abortObject_upd; decide)
    | (with_reducible apply Upd.via; with_reducible apply State.updShepherd_upd; decide)
    | (with_reducible apply UpdOpt.via; with_reducible apply State.fetchFrag_upd; decide)
    | split
    | (with_reducible apply Upd.someOf'; with_reducible assumption))

theorem State.regenerate_upd {s x1 x2} : Upd 537132776 s (State.regenerate s x1 x2) := by
  unfold State.regenerate
  repeat' (first
    | with_reducible exact Upd.refl
    | with_reducible assumption
    | (intro u; refine Upd.cut 537132776 s u ?_ (fun _ => ?_); subst u; rotate_left; clear_value u; rotate_right)
    | (intro u; clear_value u)
    | lift_lets
    | with_reducible refine Upd.foldl ?_ (fun _ _ _ => ?_)
    | (with_reducible apply Upd.via; with_reducible apply State.note_upd; decide)
    | (with_reducible apply Upd.via; with_reducible apply State.regenShort_upd; decide)
    | (with_reducible apply Upd.via; with_reducible apply State.updFrag_upd; decide)
    | (with_reducible apply Upd.via; with_reducible apply State.updStaging_upd; decide)
    | (with_reducible apply Upd.via; with_reducible apply State.setExtent_upd; decide)
    | (with_reducible apply UpdOpt.via; with_reducible apply State.placeRegen_upd; decide)
    | split
    | (with_reducible apply Upd.someOf'; with_reducible assumption)
    | dsimp only)

theorem execPageMoveDone_upd {x0 x1 s} : UpdO 537132776 s (execPageMoveDone x0 x1 s) := by
  unfold execPageMoveDone
  repeat' (first
    | with_reducible exact Upd.refl
    | (with_reducible apply Upd.via; with_reducible apply State.retirePage_upd; decide)
    | (with_reducible apply Upd.via; with_reducible apply State.afterLoss_upd; decide)
    | (with_reducible apply Upd.via; with_reducible apply State.updStaging_upd; decide)
    | with_reducible refine UpdO.mk' ?_
    | split)

theorem execRetrainEnd_upd {x0 s} : UpdO 537132776 s (execRetrainEnd x0 s) := by
  unfold execRetrainEnd
  repeat' (first
    | with_reducible exact Upd.refl
    | with_reducible assumption
    | (intro u; refine Upd.cut 537132776 s u ?_ (fun _ => ?_); subst u; rotate_left; clear_value u; rotate_right)
    | lift_lets
    | (with_reducible apply Upd.via; with_reducible apply State.setBit_upd; decide)
    | (with_reducible apply Upd.via; with_reducible apply State.setChan_upd; decide)
    | (with_reducible apply Upd.via; with_reducible apply State.pumpRestores_upd; decide)
    | (with_reducible apply Upd.via; with_reducible apply State.updQueue_upd; decide)
    | with_reducible refine UpdO.mk' ?_
    | split)

end Sys2Proof.Machine
end

