-- ==== Sys2Proof/Laws/UpdEcc.lean ====
section
/-! SUPPORT. What each operation of Machine/Ecc.lean touches and keeps. -/

namespace Sys2Proof.Machine

theorem State.updGuards_upd {s f} : Upd 256 s (State.updGuards s f) := Upd.refl.put_guards (by decide)

theorem State.putEntry_upd {s x1 x2 x3} : Upd 256 s (State.putEntry s x1 x2 x3) := by
  unfold State.putEntry
  repeat' (first
    | with_reducible exact Upd.refl
    | (with_reducible apply Upd.via; with_reducible apply State.updGuards_upd; decide))

theorem State.newEntry_upd {s x1 x2 x3} : Upd 328 s (State.newEntry s x1 x2 x3) := by
  unfold State.newEntry
  repeat' (first
    | with_reducible exact Upd.refl
    | with_reducible assumption
    | (intro u; refine Upd.cut 328 s u ?_ (fun _ => ?_); subst u; rotate_left; clear_value u; rotate_right)
    | lift_lets
    | (with_reducible apply Upd.via; with_reducible apply State.putEntry_upd; decide)
    | (with_reducible apply Upd.via; with_reducible apply State.trailRec_upd; decide)
    | split)

theorem State.copyCorrected_upd {s ws} : Upd 128 s (State.copyCorrected s ws) := Upd.refl.put_mem (by decide) Memory.fix_wf

theorem State.spareRow_upd {s x1 x2} : Upd 488 s (State.spareRow s x1 x2) := by
  unfold State.spareRow
  repeat' (first
    | with_reducible exact Upd.refl
    | (intro u; clear_value u)
    | lift_lets
    | (with_reducible apply Upd.via; with_reducible apply State.note_upd; decide)
    | (with_reducible apply Upd.via; with_reducible apply State.updGuards_upd; decide)
    | (with_reducible apply Upd.via; with_reducible apply State.copyCorrected_upd; decide)
    | split)

theorem State.deviceRow_upd {s x1 x2 x3} : Upd 537133032 s (State.deviceRow s x1 x2 x3) := by
  unfold State.deviceRow
  repeat' (first
    | with_reducible exact Upd.refl
    | with_reducible assumption
    | (intro u; refine Upd.cut 537133032 s u ?_ (fun _ => ?_); subst u; rotate_left; clear_value u; rotate_right)
    | (intro u; clear_value u)
    | lift_lets
    | (with_reducible apply Upd.via; with_reducible apply State.updGuards_upd; decide)
    | (with_reducible apply Upd.via; with_reducible apply State.channelFailed_upd; decide)
    | split)

theorem State.declareHard_upd {s x1 x2 x3} : Upd 537133032 s (State.declareHard s x1 x2 x3) := by
  unfold State.declareHard
  repeat' (first
    | with_reducible exact Upd.refl
    | with_reducible assumption
    | (intro u; refine Upd.cut 537133032 s u ?_ (fun _ => ?_); subst u; rotate_left; clear_value u; rotate_right)
    | (intro u; clear_value u)
    | lift_lets
    | (with_reducible apply Upd.via; with_reducible apply State.note_upd; decide)
    | (with_reducible apply Upd.via; with_reducible apply State.spareRow_upd; decide)
    | (with_reducible apply Upd.via; with_reducible apply State.deviceRow_upd; decide)
    | (with_reducible apply Upd.via; with_reducible apply State.bump_upd; decide)
    | (with_reducible apply Upd.via; with_reducible apply State.afterLoss_upd; decide)
    | (with_reducible apply Upd.via; with_reducible apply State.hardPage_upd; decide)
    | split)

theorem State.track_upd {s x1 x2 x3} : Upd 537133032 s (State.track s x1 x2 x3) := by
  unfold State.track
  repeat' (first
    | with_reducible exact Upd.refl
    | (with_reducible apply Upd.via; with_reducible apply State.putEntry_upd; decide)
    | (with_reducible apply Upd.via; with_reducible apply State.newEntry_upd; decide)
    | (with_reducible apply Upd.via; with_reducible apply State.declareHard_upd; decide)
    | split)

theorem State.hardAtOnce_upd {s x1 x2} : Upd 537133032 s (State.hardAtOnce s x1 x2) := by
  unfold State.hardAtOnce
  repeat' (first
    | with_reducible exact Upd.refl
    | (with_reducible apply Upd.via; with_reducible apply State.putEntry_upd; decide)
    | (with_reducible apply Upd.via; with_reducible apply State.newEntry_upd; decide)
    | (with_reducible apply Upd.via; with_reducible apply State.declareHard_upd; decide)
    | split)

theorem State.deviceBit_upd {s x1 x2} : Upd 537133032 s (State.deviceBit s x1 x2) := by
  unfold State.deviceBit
  repeat' (first
    | with_reducible exact Upd.refl
    | with_reducible assumption
    | (intro u; refine Upd.cut 537133032 s u ?_ (fun _ => ?_); subst u; rotate_left; clear_value u; rotate_right)
    | (intro u; clear_value u)
    | lift_lets
    | (with_reducible apply Upd.via; with_reducible apply State.updGuards_upd; decide)
    | (with_reducible apply Upd.via; with_reducible apply State.channelFailed_upd; decide)
    | split)

theorem State.corrects_upd {s x1 x2 x3 x4} : Upd 537133032 s (State.corrects s x1 x2 x3 x4) := by
  unfold State.corrects
  repeat' (first
    | with_reducible exact Upd.refl
    | with_reducible assumption
    | (intro u; refine Upd.cut 537133032 s u ?_ (fun _ => ?_); subst u; rotate_left; clear_value u; rotate_right)
    | (intro u; clear_value u)
    | lift_lets
    | (with_reducible apply Upd.via; with_reducible apply State.track_upd; decide)
    | (with_reducible apply Upd.via; with_reducible apply State.deviceBit_upd; decide)
    | (with_reducible apply Upd.via; with_reducible apply State.bump_upd; decide)
    | split)

theorem State.uncorrectable_upd {s x1 x2 x3} : Upd 537133032 s (State.uncorrectable s x1 x2 x3) := by
  unfold State.uncorrectable
  repeat' (first
    | with_reducible exact Upd.refl
    | with_reducible assumption
    | (intro u; refine Upd.cut 537133032 s u ?_ (fun _ => ?_); subst u; rotate_left; clear_value u; rotate_right)
    | (intro u; clear_value u)
    | lift_lets
    | (with_reducible apply Upd.via; with_reducible apply State.detect_upd; decide)
    | (with_reducible apply Upd.via; with_reducible apply State.raise_upd; decide)
    | (with_reducible apply Upd.via; with_reducible apply State.updGuards_upd; decide)
    | (with_reducible apply Upd.via; with_reducible apply State.bump_upd; decide)
    | (with_reducible apply Upd.via; with_reducible apply State.channelFailed_upd; decide)
    | split)

theorem State.addrError_upd {s x1 x2 x3} : Upd 537133032 s (State.addrError s x1 x2 x3) := by
  unfold State.addrError
  repeat' (first
    | with_reducible exact Upd.refl
    | with_reducible assumption
    | (intro u; refine Upd.cut 537133032 s u ?_ (fun _ => ?_); subst u; rotate_left; clear_value u; rotate_right)
    | (intro u; clear_value u)
    | lift_lets
    | (with_reducible apply Upd.via; with_reducible apply State.detect_upd; decide)
    | (with_reducible apply Upd.via; with_reducible apply State.raise_upd; decide)
    | (with_reducible apply Upd.via; with_reducible apply State.updGuards_upd; decide)
    | (with_reducible apply Upd.via; with_reducible apply State.hardAtOnce_upd; decide)
    | (with_reducible apply Upd.via; with_reducible apply State.channelFailed_upd; decide)
    | split)

theorem State.rereadRecord_upd {s x1 x2} : Upd 72 s (State.rereadRecord s x1 x2) := by
  unfold State.rereadRecord
  repeat' (first
    | with_reducible exact Upd.refl
    | (with_reducible apply Upd.via; with_reducible apply State.trailRec_upd; decide))

theorem State.injection_upd {s x1} : Upd2 8 s (State.injection s x1) := by
  unfold State.injection
  repeat' (first
    | with_reducible exact Upd.refl
    | (intro u; clear_value u)
    | lift_lets
    | (with_reducible apply Upd.via; with_reducible apply State.wr_upd; decide)
    | with_reducible refine Upd2.mk' ?_
    | split)

theorem State.writeBack_upd {s x1 x2} : Upd 128 s (State.writeBack s x1 x2) := by
  unfold State.writeBack
  repeat' (first
    | with_reducible exact Upd.refl
    | (with_reducible apply Upd.via; with_reducible apply State.putWord_upd; decide))

theorem State.actOn_upd {s x1 x2 x3 x4} : Upd2 537133032 s (State.actOn s x1 x2 x3 x4) := by
  unfold State.actOn
  repeat' (first
    | with_reducible exact Upd.refl
    | (intro u; clear_value u)
    | lift_lets
    | (with_reducible apply Upd.via; with_reducible apply State.corrects_upd; decide)
    | (with_reducible apply Upd.via; with_reducible apply State.uncorrectable_upd; decide)
    | (with_reducible apply Upd.via; with_reducible apply State.addrError_upd; decide)
    | (with_reducible apply Upd.via; with_reducible apply State.writeBack_upd; decide)
    | (with_reducible apply Upd.via; with_reducible apply State.bump_upd; decide)
    | with_reducible refine Upd2.mk' ?_
    | split)

theorem State.checkWord_upd {s x1} : Upd2 537133032 s (State.checkWord s x1) := by
  unfold State.checkWord
  repeat' (first
    | with_reducible exact Upd.refl
    | with_reducible assumption
    | (intro u; refine Upd2.cut 537133032 s u ?_ (fun _ => ?_); subst u; rotate_left; clear_value u; rotate_right)
    | (intro u; clear_value u)
    | lift_lets
    | (with_reducible apply Upd.via; with_reducible apply State.rereadRecord_upd; decide)
    | (with_reducible apply Upd.via; with_reducible apply Upd.snd State.actOn_upd; decide)
    | (with_reducible apply Upd2.via; with_reducible apply State.injection_upd; decide)
    | (with_reducible apply Upd2.via; with_reducible apply State.actOn_upd; decide)
    | with_reducible refine Upd2.mk' ?_
    | split
    | (with_reducible apply Upd.sndOf'; with_reducible assumption))

theorem State.checkWords_upd {s x1} : Upd2 537133032 s (State.checkWords s x1) := by
  fun_induction State.checkWords s x1
  all_goals repeat' (first
    | with_reducible exact Upd.refl
    | lift_lets
    | (with_reducible apply Upd2.via; with_reducible apply State.checkWord_upd; decide)
    | with_reducible refine Upd2.mk' ?_
    | (with_reducible apply Upd.sndOf'; with_reducible assumption)
    | with_reducible refine Upd.via (Upd.snd (by assumption)) (by decide) ?_)

theorem State.readChecked_upd {s x1 x2} : Upd2 537133032 s (State.readChecked s x1 x2) := by
  unfold State.readChecked
  repeat' (first
    | with_reducible exact Upd.refl
    | (intro u; clear_value u)
    | lift_lets
    | (with_reducible apply Upd.via; with_reducible apply Upd.snd State.checkWords_upd; decide)
    | with_reducible refine Upd2.mk' ?_)

theorem State.touchPage_upd {s c p} : Upd2 537133032 s (State.touchPage s c p) := Upd2.mk' (Upd.snd State.checkWords_upd)

theorem State.touchPages_upd {s x1 x2} : Upd2 537133032 s (State.touchPages s x1 x2) := by
  unfold State.touchPages
  repeat' (first
    | with_reducible exact Upd.refl
    | with_reducible assumption
    | with_reducible refine Upd2.foldl ?_ (fun _ _ _ => ?_)
    | split
    | (with_reducible apply Upd2.via; with_reducible apply State.touchPage_upd; decide)
    | with_reducible refine Upd2.mk' ?_
    | with_reducible exact Upd.snd (by assumption))

theorem State.scrubHidden_upd {s x1 x2 x3 x4} : Upd 537133032 s (State.scrubHidden s x1 x2 x3 x4) := by
  unfold State.scrubHidden
  repeat' (first
    | with_reducible exact Upd.refl
    | (intro u; clear_value u)
    | lift_lets
    | (with_reducible apply Upd.via; with_reducible apply State.corrects_upd; decide)
    | (with_reducible apply Upd.via; with_reducible apply State.uncorrectable_upd; decide)
    | (with_reducible apply Upd.via; with_reducible apply Upd.snd State.injection_upd; decide)
    | (with_reducible apply Upd.via; with_reducible apply State.bump_upd; decide)
    | split
    | dsimp only)

theorem State.upset_upd {s x1 x2} : Upd 128 s (State.upset s x1 x2) := by
  unfold State.upset
  repeat' (first
    | with_reducible exact Upd.refl
    | (intro u; clear_value u)
    | lift_lets
    | (with_reducible apply Upd.via; with_reducible apply State.putWord_upd; decide)
    | split)

theorem execSramScrub_upd {x0 x1 x2 x3 x4 x5 s} : UpdO 537133032 s (execSramScrub x0 x1 x2 x3 x4 x5 s) := by
  unfold execSramScrub
  repeat' (first
    | with_reducible exact Upd.refl
    | (intro u; clear_value u)
    | lift_lets
    | (with_reducible apply Upd.via; with_reducible apply Upd.snd State.checkWord_upd; decide)
    | (with_reducible apply Upd.via; with_reducible apply State.scrubHidden_upd; decide)
    | (with_reducible apply Upd.via; with_reducible apply State.upset_upd; decide)
    | with_reducible refine UpdO.mk' ?_
    | split)

theorem execTrackerWindowEnd_upd {x0 x1 s} : UpdO 2148008196 s (execTrackerWindowEnd x0 x1 s) := by
  unfold execTrackerWindowEnd
  repeat' (first
    | with_reducible exact Upd.refl
    | (with_reducible apply Upd.via; with_reducible apply State.updGuards_upd; decide)
    | (with_reducible apply Upd.via; with_reducible apply State.advanceTo_upd; decide)
    | with_reducible refine UpdO.mk' ?_
    | split)

theorem execEccInj_upd {x0 x1 x2 x3 s} : UpdO 8 s (execEccInj x0 x1 x2 x3 s) := by
  unfold execEccInj
  repeat' (first
    | with_reducible exact Upd.refl
    | (with_reducible apply Upd.via; with_reducible apply State.wr_upd; decide)
    | with_reducible refine UpdO.mk' ?_
    | split)

theorem execEccTestEnable_upd {x0 x1 x2 x3 s} : UpdO 8 s (execEccTestEnable x0 x1 x2 x3 s) := by
  unfold execEccTestEnable
  repeat' (first
    | with_reducible exact Upd.refl
    | with_reducible assumption
    | (intro u; refine Upd.cut 8 s u ?_ (fun _ => ?_); subst u; rotate_left; clear_value u; rotate_right)
    | (intro u; clear_value u)
    | lift_lets
    | (with_reducible apply Upd.via; with_reducible apply State.wr_upd; decide)
    | (with_reducible apply Upd.via; with_reducible apply State.flag_upd; decide)
    | with_reducible refine UpdO.mk' ?_
    | split)

end Sys2Proof.Machine
end

