-- ==== Sys2Proof/Laws/UpdGuards.lean ====
section
/-! SUPPORT. What each operation of Machine/Guards.lean touches and keeps. -/

namespace Sys2Proof.Machine

theorem State.violation_upd {s x1 x2} : Upd 257896 s (State.violation s x1 x2) := by
  unfold State.violation
  repeat' (first
    | with_reducible exact Upd.refl
    | with_reducible assumption
    | (intro u; refine Upd.cut 257896 s u ?_ (fun _ => ?_); subst u; rotate_left; clear_value u; rotate_right)
    | (intro u; clear_value u)
    | lift_lets
    | (with_reducible apply Upd.via; with_reducible apply State.raise_upd; decide)
    | (with_reducible apply Upd.via; with_reducible apply State.updGuards_upd; decide)
    | (with_reducible apply Upd.via; with_reducible apply State.bump_upd; decide)
    | (with_reducible apply Upd.via; with_reducible apply State.post_upd; decide)
    | split)

theorem State.guard_upd {s x1} : Upd2 257896 s (State.guard s x1) := by
  unfold State.guard
  repeat' (first
    | with_reducible exact Upd.refl
    | (with_reducible apply Upd.via; with_reducible apply State.violation_upd; decide)
    | with_reducible refine Upd2.mk' ?_
    | split)

theorem State.tableOp_upd {m t s x1 x2 x3 x4 x5} (h : Upd m t s) (hm : Nat.land 257896 m = 257896) (hb : ∀ u, Upd m t u → Upd m t (x5 u)) :
    Upd m t (State.tableOp s x1 x2 x3 x4 x5) := by
  unfold State.tableOp
  repeat' (first
    | with_reducible assumption
    | with_reducible refine hb _ ?_
    | split
    | (with_reducible apply Upd2.via; with_reducible apply State.guard_upd; exact landTrans (by decide) hm)
    | (with_reducible apply Upd.sndOf'; with_reducible assumption))

theorem State.showEntry_upd {s x1 x2} : Upd 8 s (State.showEntry s x1 x2) := by
  unfold State.showEntry
  repeat' (first
    | with_reducible exact Upd.refl
    | with_reducible assumption
    | (intro u; refine Upd.cut 8 s u ?_ (fun _ => ?_); subst u; rotate_left; clear_value u; rotate_right)
    | lift_lets
    | (with_reducible apply Upd.via; with_reducible apply State.wr_upd; decide)
    | split)

theorem State.atCmd_upd {m t s x1 x2 x3} (h : Upd m t s) (hm : Nat.land 8 m = 8) (hb : ∀ u, Upd m t u → Upd m t (x3 u)) :
    Upd m t (State.atCmd s x1 x2 x3) := by
  unfold State.atCmd
  repeat' (first
    | with_reducible assumption
    | (intro u; refine Upd.cut m t u ?_ (fun _ => ?_); subst u; rotate_left; clear_value u; rotate_right)
    | lift_lets
    | with_reducible refine hb _ ?_
    | split
    | (with_reducible apply Upd.via; with_reducible apply State.wr_upd; exact landTrans (by decide) hm))

theorem execReadActive_upd {x0 x1 x2 x3 x4 s} : UpdO 257896 s (execReadActive x0 x1 x2 x3 x4 s) := by
  unfold execReadActive
  repeat' (first
    | with_reducible exact Upd.refl
    | with_reducible assumption
    | (with_reducible apply Upd.via; with_reducible apply State.showEntry_upd; decide)
    | with_reducible refine State.atCmd_upd ?_ (by decide) (fun _ _ => ?_)
    | with_reducible refine State.tableOp_upd ?_ (by decide) (fun _ _ => ?_)
    | with_reducible refine UpdO.mk' ?_)

theorem execReadShadow_upd {x0 x1 x2 x3 x4 s} : UpdO 257896 s (execReadShadow x0 x1 x2 x3 x4 s) := by
  unfold execReadShadow
  repeat' (first
    | with_reducible exact Upd.refl
    | with_reducible assumption
    | (with_reducible apply Upd.via; with_reducible apply State.showEntry_upd; decide)
    | with_reducible refine State.atCmd_upd ?_ (by decide) (fun _ _ => ?_)
    | with_reducible refine State.tableOp_upd ?_ (by decide) (fun _ _ => ?_)
    | with_reducible refine UpdO.mk' ?_)

theorem execWriteShadow_upd {x0 x1 x2 x3 x4 s} : UpdO 257896 s (execWriteShadow x0 x1 x2 x3 x4 s) := by
  unfold execWriteShadow
  repeat' (first
    | with_reducible exact Upd.refl
    | with_reducible assumption
    | (with_reducible apply Upd.via; with_reducible apply State.updGuards_upd; decide)
    | (with_reducible apply Upd.via; with_reducible apply State.wr_upd; decide)
    | with_reducible refine State.atCmd_upd ?_ (by decide) (fun _ _ => ?_)
    | with_reducible refine State.tableOp_upd ?_ (by decide) (fun _ _ => ?_)
    | with_reducible refine UpdO.mk' ?_
    | split)

theorem execAtCommit_upd {x0 x1 x2 s} : UpdO 257896 s (execAtCommit x0 x1 x2 s) := by
  unfold execAtCommit
  repeat' (first
    | with_reducible exact Upd.refl
    | with_reducible assumption
    | (intro u; refine Upd.cut 257896 s u ?_ (fun _ => ?_); subst u; rotate_left; clear_value u; rotate_right)
    | lift_lets
    | (with_reducible apply Upd.via; with_reducible apply State.updGuards_upd; decide)
    | (with_reducible apply Upd.via; with_reducible apply State.wr_upd; decide)
    | (with_reducible apply Upd.via; with_reducible apply State.addTo_upd; decide)
    | (with_reducible apply Upd.via; with_reducible apply State.flag_upd; decide)
    | with_reducible refine State.tableOp_upd ?_ (by decide) (fun _ _ => ?_)
    | with_reducible refine UpdO.mk' ?_
    | split)

theorem execAtDone_upd {s} : UpdO 8 s (execAtDone s) := by
  unfold execAtDone
  repeat' (first
    | with_reducible exact Upd.refl
    | (with_reducible apply Upd.via; with_reducible apply State.flag_upd; decide)
    | with_reducible refine UpdO.mk' ?_)

theorem execAtVpop_upd {x0 x1 x2 s} : UpdO 257896 s (execAtVpop x0 x1 x2 s) := by
  unfold execAtVpop
  repeat' (first
    | with_reducible exact Upd.refl
    | with_reducible assumption
    | (with_reducible apply Upd.via; with_reducible apply State.updGuards_upd; decide)
    | with_reducible refine State.tableOp_upd ?_ (by decide) (fun _ _ => ?_)
    | with_reducible refine UpdO.mk' ?_)

theorem execSplitWrite_upd {x0 x1 x2 s} : UpdO 258024 s (execSplitWrite x0 x1 x2 s) := by
  unfold execSplitWrite
  repeat' (first
    | with_reducible exact Upd.refl
    | with_reducible assumption
    | (intro u; refine Upd.cut 258024 s u ?_ (fun _ => ?_); subst u; rotate_left; clear_value u; rotate_right)
    | (intro u; clear_value u)
    | lift_lets
    | (with_reducible apply Upd.via; with_reducible apply State.putWord_upd; decide)
    | (with_reducible apply Upd.via; with_reducible apply State.wr_upd; decide)
    | (with_reducible apply Upd2.via; with_reducible apply State.guard_upd; decide)
    | with_reducible refine UpdO.mk' ?_
    | split
    | (with_reducible apply Upd.sndOf'; with_reducible assumption))

end Sys2Proof.Machine
end

