-- ==== Sys2Proof/Laws/UpdFlash.lean ====
section
/-! SUPPORT. What each operation of Machine/Flash.lean touches and keeps. -/

namespace Sys2Proof.Machine

theorem State.fillBlock_upd {s x1} : UpdOpt2 262144 s (State.fillBlock s x1) := by
  have fresh : ∀ (o : Option Nat) (g : Nat → Flash → Flash), UpdOpt2 262144 s (o.map (fun k => (k, s.updFlash (g k)))) := by
    intro o g
    cases o with
    | none => exact UpdOpt2.none
    | some k => exact UpdOpt2.mk' State.updFlash_upd
  unfold State.fillBlock
  dsimp only
  split
  · split
    · exact UpdOpt2.mk' Upd.refl
    · apply fresh
  · apply fresh

theorem State.programCommit_upd {s x1 x2} : UpdOpt 262144 s (State.programCommit s x1 x2) := by
  unfold State.programCommit
  dsimp only
  repeat' (first
    | with_reducible exact Upd.refl
    | exact UpdOpt.none
    | with_reducible refine UpdOpt.mk' ?_
    | (with_reducible apply Upd.via; with_reducible apply State.updFlash_upd; decide)
    | (with_reducible apply UpdOpt2.via; with_reducible apply State.fillBlock_upd; decide)
    | split
    | (with_reducible apply Upd.someOf2'; with_reducible assumption))

theorem State.programAll_upd {s x1 x2} : UpdOpt 262144 s (State.programAll s x1 x2) := by
  unfold State.programAll
  exact UpdOpt.foldBind (UpdOpt.mk' Upd.refl) (fun x u h => UpdOpt.via State.programCommit_upd (by decide) h)

theorem State.retireBlock_upd {s x1 x2} : Upd 262248 s (State.retireBlock s x1 x2) := by
  unfold State.retireBlock
  repeat' (first
    | with_reducible exact Upd.refl
    | with_reducible assumption
    | (intro u; refine Upd.cut 262248 s u ?_ (fun _ => ?_); subst u; rotate_left; clear_value u; rotate_right)
    | (intro u; clear_value u)
    | lift_lets
    | (with_reducible apply Upd.via; with_reducible apply State.note_upd; decide)
    | (with_reducible apply Upd.via; with_reducible apply State.bump_upd; decide)
    | (with_reducible apply Upd.via; with_reducible apply State.updFlash_upd; decide)
    | (with_reducible apply Upd.via; with_reducible apply State.journal_upd; decide)
    | (with_reducible apply UpdOpt.via; with_reducible apply State.programAll_upd; decide)
    | split
    | with_reducible refine Upd.getD ?_ ?_)

theorem State.failPrograms_upd {s x1 x2} : Upd 262248 s (State.failPrograms s x1 x2) := by
  fun_induction State.failPrograms s x1 x2
  all_goals repeat' (first
    | with_reducible exact Upd.refl
    | (with_reducible apply Upd.via; with_reducible apply State.retireBlock_upd; decide)
    | (with_reducible apply Upd.via; with_reducible apply State.updFlash_upd; decide)
    | (with_reducible apply UpdOpt2.via; with_reducible apply State.fillBlock_upd; decide)
    | (with_reducible apply Upd.someOf2'; with_reducible assumption)
    | with_reducible refine Upd.via (by assumption) (by decide) ?_)

theorem State.flashUe_upd {s x1} : Upd 257640 s (State.flashUe s x1) := by
  unfold State.flashUe
  repeat' (first
    | with_reducible exact Upd.refl
    | (with_reducible apply Upd.via; with_reducible apply State.raise_upd; decide)
    | (with_reducible apply Upd.via; with_reducible apply State.bump_upd; decide))

theorem State.countReads_upd {s x1} : Upd 262144 s (State.countReads s x1) := by
  unfold State.countReads
  repeat' (first
    | with_reducible exact Upd.refl
    | (intro u; clear_value u)
    | lift_lets
    | (with_reducible apply Upd.via; with_reducible apply State.updFlash_upd; decide))

theorem State.flsEnd_upd {s x1} : Upd 8 s (State.flsEnd s x1) := by
  unfold State.flsEnd
  repeat' (first
    | with_reducible exact Upd.refl
    | (with_reducible apply Upd.via; with_reducible apply State.wr_upd; decide))

theorem State.flsCmd_upd {m t s x1 x2 x3} (h : Upd m t s) (hm : Nat.land 8 m = 8) (hb : ∀ u, Upd m t u → Upd m t (x3 u)) :
    Upd m t (State.flsCmd s x1 x2 x3) := by
  unfold State.flsCmd
  repeat' (first
    | with_reducible assumption
    | with_reducible refine hb _ ?_
    | split
    | (with_reducible apply Upd.via; with_reducible apply State.wr_upd; exact landTrans (by decide) hm))

theorem State.guardRange_upd {s x1 x2 x3 x4} : Upd2 257896 s (State.guardRange s x1 x2 x3 x4) := by
  unfold State.guardRange
  repeat' (first
    | with_reducible exact Upd.refl
    | (intro u; clear_value u)
    | lift_lets
    | (with_reducible apply Upd.via; with_reducible apply State.violation_upd; decide)
    | with_reducible refine Upd2.mk' ?_
    | split)

theorem State.poisonWord_upd {s x1} : Upd 128 s (State.poisonWord s x1) := by
  unfold State.poisonWord
  repeat' (first
    | with_reducible exact Upd.refl
    | (intro u; clear_value u)
    | lift_lets
    | (with_reducible apply Upd.via; with_reducible apply State.putWord_upd; decide))

theorem State.poisonRange_upd {s x1 x2} : Upd 128 s (State.poisonRange s x1 x2) := by
  unfold State.poisonRange
  repeat' (first
    | with_reducible exact Upd.refl
    | with_reducible assumption
    | with_reducible refine Upd.foldl ?_ (fun _ _ _ => ?_)
    | (with_reducible apply Upd.via; with_reducible apply State.poisonWord_upd; decide))

theorem execFlsRead_upd {x0 x1 x2 s} : UpdO 520168 s (execFlsRead x0 x1 x2 s) := by
  unfold execFlsRead
  repeat' (first
    | with_reducible exact Upd.refl
    | with_reducible assumption
    | (intro u; refine Upd.cut 520168 s u ?_ (fun _ => ?_); subst u; rotate_left; clear_value u; rotate_right)
    | (intro u; clear_value u)
    | lift_lets
    | with_reducible refine Upd.foldl ?_ (fun _ _ _ => ?_)
    | (with_reducible apply Upd.via; with_reducible apply State.flashUe_upd; decide)
    | (with_reducible apply Upd.via; with_reducible apply State.countReads_upd; decide)
    | (with_reducible apply Upd.via; with_reducible apply State.flsEnd_upd; decide)
    | (with_reducible apply Upd.via; with_reducible apply State.poisonRange_upd; decide)
    | (with_reducible apply Upd.via; with_reducible apply State.writeMem_upd; decide)
    | (with_reducible apply Upd.via; with_reducible apply State.updFlash_upd; decide)
    | (with_reducible apply Upd2.via; with_reducible apply State.guardRange_upd; decide)
    | with_reducible refine State.flsCmd_upd ?_ (by decide) (fun _ _ => ?_)
    | with_reducible refine UpdO.mk' ?_
    | split
    | (with_reducible apply Upd.sndOf'; with_reducible assumption))

theorem execFlsWrite_upd {x0 x1 s} : UpdO 537395176 s (execFlsWrite x0 x1 s) := by
  unfold execFlsWrite
  repeat' (first
    | with_reducible exact Upd.refl
    | with_reducible assumption
    | (intro u; refine Upd.cut 537395176 s u ?_ (fun _ => ?_); subst u; rotate_left; clear_value u; rotate_right)
    | (intro u; clear_value u)
    | lift_lets
    | (with_reducible apply Upd.via; with_reducible apply State.failPrograms_upd; decide)
    | (with_reducible apply Upd.via; with_reducible apply State.flsEnd_upd; decide)
    | (with_reducible apply Upd2.via; with_reducible apply State.readChecked_upd; decide)
    | (with_reducible apply Upd2.via; with_reducible apply State.guardRange_upd; decide)
    | (with_reducible apply UpdOpt.via; with_reducible apply State.programAll_upd; decide)
    | with_reducible refine State.flsCmd_upd ?_ (by decide) (fun _ _ => ?_)
    | with_reducible refine UpdO.mk' ?_
    | split
    | (with_reducible apply Upd.sndOf'; with_reducible assumption)
    | (with_reducible apply Upd.someOf'; with_reducible assumption))

theorem execTrim_upd {x0 s} : UpdO 262152 s (execTrim x0 s) := by
  unfold execTrim
  repeat' (first
    | with_reducible exact Upd.refl
    | with_reducible assumption
    | (intro u; clear_value u)
    | lift_lets
    | (with_reducible apply Upd.via; with_reducible apply State.flsEnd_upd; decide)
    | (with_reducible apply Upd.via; with_reducible apply State.updFlash_upd; decide)
    | with_reducible refine State.flsCmd_upd ?_ (by decide) (fun _ _ => ?_)
    | with_reducible refine UpdO.mk' ?_
    | split)

theorem execFlush_upd {x0 s} : UpdO 8 s (execFlush x0 s) := by
  unfold execFlush
  repeat' (first
    | with_reducible exact Upd.refl
    | with_reducible assumption
    | (with_reducible apply Upd.via; with_reducible apply State.flsEnd_upd; decide)
    | with_reducible refine State.flsCmd_upd ?_ (by decide) (fun _ _ => ?_)
    | with_reducible refine UpdO.mk' ?_)

theorem execPread_upd {x0 x1 s} : UpdO 520168 s (execPread x0 x1 s) := by
  unfold execPread
  repeat' (first
    | with_reducible exact Upd.refl
    | with_reducible assumption
    | (intro u; refine Upd.cut 520168 s u ?_ (fun _ => ?_); subst u; rotate_left; clear_value u; rotate_right)
    | (intro u; clear_value u)
    | lift_lets
    | with_reducible refine Upd.foldl ?_ (fun _ _ _ => ?_)
    | (with_reducible apply Upd.via; with_reducible apply State.flashUe_upd; decide)
    | (with_reducible apply Upd.via; with_reducible apply State.flsEnd_upd; decide)
    | (with_reducible apply Upd.via; with_reducible apply State.poisonRange_upd; decide)
    | (with_reducible apply Upd.via; with_reducible apply State.writeMem_upd; decide)
    | (with_reducible apply Upd.via; with_reducible apply State.updFlash_upd; decide)
    | (with_reducible apply Upd2.via; with_reducible apply State.guardRange_upd; decide)
    | with_reducible refine State.flsCmd_upd ?_ (by decide) (fun _ _ => ?_)
    | with_reducible refine UpdO.mk' ?_
    | split
    | (with_reducible apply Upd.sndOf'; with_reducible assumption))

theorem execMread_upd {x0 x1 s} : UpdO 262152 s (execMread x0 x1 s) := by
  unfold execMread
  repeat' (first
    | with_reducible exact Upd.refl
    | with_reducible assumption
    | (with_reducible apply Upd.via; with_reducible apply State.flsEnd_upd; decide)
    | (with_reducible apply Upd.via; with_reducible apply State.wr_upd; decide)
    | (with_reducible apply Upd.via; with_reducible apply State.updFlash_upd; decide)
    | with_reducible refine State.flsCmd_upd ?_ (by decide) (fun _ _ => ?_)
    | with_reducible refine UpdO.mk' ?_
    | split)

theorem execBlank_upd {x0 x1 s} : UpdO 1073741832 s (execBlank x0 x1 s) := by
  unfold execBlank
  repeat' (first
    | with_reducible exact Upd.refl
    | with_reducible assumption
    | lift_lets
    | (with_reducible apply Upd.via; with_reducible apply State.flsEnd_upd; decide)
    | (with_reducible apply Upd.via; with_reducible apply Upd.snd State.draw_upd; decide)
    | with_reducible refine State.flsCmd_upd ?_ (by decide) (fun _ _ => ?_)
    | with_reducible refine UpdO.mk' ?_
    | split)

theorem State.eraseBlock_upd {s x1 x2} : Upd1 262248 s (State.eraseBlock s x1 x2) := by
  unfold State.eraseBlock
  dsimp only
  repeat' (first
    | with_reducible exact Upd.refl
    | split
    | (with_reducible apply Upd.via; with_reducible apply State.retireBlock_upd; decide)
    | (with_reducible apply Upd.via; with_reducible apply State.updFlash_upd; decide)
    | (with_reducible apply Upd.via; with_reducible apply State.journal_upd; decide)
    | with_reducible refine Upd1.mk' ?_)

theorem execFlsErase_upd {x0 x1 s} : UpdO 262248 s (execFlsErase x0 x1 s) := by
  unfold execFlsErase
  repeat' (first
    | with_reducible exact Upd.refl
    | with_reducible assumption
    | (with_reducible apply Upd.via; with_reducible apply State.flsEnd_upd; decide)
    | (with_reducible apply Upd1.via; with_reducible apply State.eraseBlock_upd; decide)
    | with_reducible refine State.flsCmd_upd ?_ (by decide) (fun _ _ => ?_)
    | with_reducible refine UpdO.mk' ?_
    | split
    | (with_reducible apply Upd.fstOf'; with_reducible assumption))

theorem State.countPinned_upd {s} : Upd 8 s (State.countPinned s) := by
  unfold State.countPinned
  repeat' (first
    | with_reducible exact Upd.refl
    | (with_reducible apply Upd.via; with_reducible apply State.wr_upd; decide))

theorem execPin_upd {x0 s} : UpdO 262152 s (execPin x0 s) := by
  unfold execPin
  repeat' (first
    | with_reducible exact Upd.refl
    | with_reducible assumption
    | (intro u; clear_value u)
    | lift_lets
    | (with_reducible apply Upd.via; with_reducible apply State.flsEnd_upd; decide)
    | (with_reducible apply Upd.via; with_reducible apply State.countPinned_upd; decide)
    | (with_reducible apply Upd.via; with_reducible apply State.updFlash_upd; decide)
    | with_reducible refine State.flsCmd_upd ?_ (by decide) (fun _ _ => ?_)
    | with_reducible refine UpdO.mk' ?_
    | split)

theorem execUnpin_upd {x0 s} : UpdO 262152 s (execUnpin x0 s) := by
  unfold execUnpin
  repeat' (first
    | with_reducible exact Upd.refl
    | with_reducible assumption
    | (intro u; clear_value u)
    | lift_lets
    | (with_reducible apply Upd.via; with_reducible apply State.flsEnd_upd; decide)
    | (with_reducible apply Upd.via; with_reducible apply State.countPinned_upd; decide)
    | (with_reducible apply Upd.via; with_reducible apply State.updFlash_upd; decide)
    | with_reducible refine State.flsCmd_upd ?_ (by decide) (fun _ _ => ?_)
    | with_reducible refine UpdO.mk' ?_
    | split)

theorem State.appendPtr_upd {s x1} : Upd 262152 s (State.appendPtr s x1) := by
  unfold State.appendPtr
  dsimp only
  repeat' (first
    | with_reducible exact Upd.refl
    | (with_reducible apply Upd.via; with_reducible apply State.wr_upd; decide)
    | (with_reducible apply Upd.via; with_reducible apply State.updFlash_upd; decide)
    | (with_reducible apply Upd.via; with_reducible apply State.journal_upd; decide)
    | split)

theorem execPtrSet_upd {x0 x1 s} : UpdO 262152 s (execPtrSet x0 x1 s) := by
  unfold execPtrSet
  repeat' (first
    | with_reducible exact Upd.refl
    | with_reducible assumption
    | (intro u; clear_value u)
    | lift_lets
    | (with_reducible apply Upd.via; with_reducible apply State.flsEnd_upd; decide)
    | (with_reducible apply Upd.via; with_reducible apply State.appendPtr_upd; decide)
    | (with_reducible apply Upd.via; with_reducible apply State.wr_upd; decide)
    | with_reducible refine State.flsCmd_upd ?_ (by decide) (fun _ _ => ?_)
    | with_reducible refine UpdO.mk' ?_
    | split)

theorem execPtrConfirm_upd {x0 s} : UpdO 262152 s (execPtrConfirm x0 s) := by
  unfold execPtrConfirm
  repeat' (first
    | with_reducible exact Upd.refl
    | with_reducible assumption
    | (intro u; refine Upd.cut 262152 s u ?_ (fun _ => ?_); subst u; rotate_left; clear_value u; rotate_right)
    | lift_lets
    | (with_reducible apply Upd.via; with_reducible apply State.flsEnd_upd; decide)
    | (with_reducible apply Upd.via; with_reducible apply State.appendPtr_upd; decide)
    | (with_reducible apply Upd.via; with_reducible apply State.wr_upd; decide)
    | with_reducible refine State.flsCmd_upd ?_ (by decide) (fun _ _ => ?_)
    | with_reducible refine UpdO.mk' ?_
    | split)

theorem execWindowMiss_upd {x0 x1 x2 s} : UpdO 519784 s (execWindowMiss x0 x1 x2 s) := by
  unfold execWindowMiss
  repeat' (first
    | with_reducible exact Upd.refl
    | with_reducible assumption
    | (intro u; refine Upd.cut 519784 s u ?_ (fun _ => ?_); subst u; rotate_left; clear_value u; rotate_right)
    | (intro u; clear_value u)
    | lift_lets
    | (with_reducible apply Upd.via; with_reducible apply State.flashUe_upd; decide)
    | (with_reducible apply Upd.via; with_reducible apply State.countReads_upd; decide)
    | (with_reducible apply Upd.via; with_reducible apply State.bump_upd; decide)
    | with_reducible refine UpdO.mk' ?_
    | split)

theorem execFlsLunLost_upd {x0 s} : UpdO 257640 s (execFlsLunLost x0 s) := by
  unfold execFlsLunLost
  repeat' (first
    | with_reducible exact Upd.refl
    | (with_reducible apply Upd.via; with_reducible apply State.raise_upd; decide)
    | (with_reducible apply Upd.via; with_reducible apply State.setBit_upd; decide)
    | with_reducible refine UpdO.mk' ?_
    | split)

end Sys2Proof.Machine
end

