-- ==== Sys2Proof/Laws/UpdKeys.lean ====
section
/-! SUPPORT. What each operation of Machine/Keys.lean touches and keeps. -/

namespace Sys2Proof.Machine

theorem State.fillSlot_upd {s x1 x2 x3} : Upd 32768 s (State.fillSlot s x1 x2 x3) := by
  unfold State.fillSlot
  repeat' (first
    | with_reducible exact Upd.refl
    | (with_reducible apply Upd.via; with_reducible apply State.updKeys_upd; decide))

theorem State.busShares_upd {s x1} : Upd2 1073741824 s (State.busShares s x1) := by
  unfold State.busShares
  repeat' (first
    | with_reducible exact Upd.refl
    | lift_lets
    | (with_reducible apply Upd.via; with_reducible apply Upd.snd State.draw_upd; decide)
    | with_reducible refine Upd2.mk' ?_)

theorem State.sendShares_upd {s x1 x2 x3} : Upd 1610612736 s (State.sendShares s x1 x2 x3) := by
  unfold State.sendShares
  repeat' (first
    | with_reducible exact Upd.refl
    | lift_lets
    | (with_reducible apply Upd.via; with_reducible apply Upd.snd State.busShares_upd; decide)
    | (with_reducible apply Upd.via; with_reducible apply State.emit_upd; decide))

theorem State.busChecks_upd {s x1 x2} : Upd1 257640 s (State.busChecks s x1 x2) := by
  unfold State.busChecks
  repeat' (first
    | with_reducible exact Upd.refl
    | with_reducible assumption
    | (intro u; refine Upd.cut 257640 s u ?_ (fun _ => ?_); subst u; rotate_left; clear_value u; rotate_right)
    | lift_lets
    | (with_reducible apply Upd.via; with_reducible apply State.raise_upd; decide)
    | (with_reducible apply Upd.via; with_reducible apply State.bump_upd; decide)
    | with_reducible refine Upd1.mk' ?_
    | split)

theorem execDkReq_upd {x0 x1 x2 s} : UpdO 1610874600 s (execDkReq x0 x1 x2 s) := by
  unfold execDkReq
  repeat' (first
    | with_reducible exact Upd.refl
    | (intro u; clear_value u)
    | lift_lets
    | (with_reducible apply Upd.via; with_reducible apply State.jobUnkeyed_upd; decide)
    | (with_reducible apply Upd.via; with_reducible apply Upd.snd State.busShares_upd; decide)
    | (with_reducible apply Upd.via; with_reducible apply Upd.snd State.loadPipes_upd; decide)
    | (with_reducible apply Upd.via; with_reducible apply State.emit_upd; decide)
    | (with_reducible apply Upd.via; with_reducible apply State.dropCtx_upd; decide)
    | (with_reducible apply Upd.via; with_reducible apply State.updStitch_upd; decide)
    | (with_reducible apply Upd.via; with_reducible apply State.rerun_upd; decide)
    | (with_reducible apply Upd.via; with_reducible apply State.stuCode_upd; decide)
    | (with_reducible apply Upd1.via; with_reducible apply State.busChecks_upd; decide)
    | with_reducible refine UpdO.mk' ?_
    | split
    | (with_reducible apply Upd.fstOf'; with_reducible assumption))

theorem execKeyLoad_upd {x0 x1 x2 x3 s} : UpdO 1610870376 s (execKeyLoad x0 x1 x2 x3 s) := by
  unfold execKeyLoad
  repeat' (first
    | with_reducible exact Upd.refl
    | (intro u; clear_value u)
    | lift_lets
    | (with_reducible apply Upd.via; with_reducible apply State.sendShares_upd; decide)
    | (with_reducible apply Upd.via; with_reducible apply State.emit_upd; decide)
    | (with_reducible apply Upd1.via; with_reducible apply State.busChecks_upd; decide)
    | with_reducible refine UpdO.mk' ?_
    | split
    | (with_reducible apply Upd.fstOf'; with_reducible assumption))

theorem execKeyStore_upd {x0 x1 x2 x3 x4 s} : UpdO 537128552 s (execKeyStore x0 x1 x2 x3 x4 s) := by
  unfold execKeyStore
  repeat' (first
    | with_reducible exact Upd.refl
    | (with_reducible apply Upd.via; with_reducible apply State.fillSlot_upd; decide)
    | (with_reducible apply Upd.via; with_reducible apply State.emit_upd; decide)
    | (with_reducible apply Upd1.via; with_reducible apply State.busChecks_upd; decide)
    | with_reducible refine UpdO.mk' ?_
    | split
    | (with_reducible apply Upd.fstOf'; with_reducible assumption))

theorem execClear_upd {x0 x1 s} : UpdO 537132776 s (execClear x0 x1 s) := by
  unfold execClear
  repeat' (first
    | with_reducible exact Upd.refl
    | (with_reducible apply Upd.via; with_reducible apply State.clearSlots_upd; decide)
    | with_reducible refine UpdO.mk' ?_)

theorem State.recordBad_upd {s x1} : Upd 257640 s (State.recordBad s x1) := by
  fun_induction State.recordBad s x1
  all_goals repeat' (first
    | with_reducible exact Upd.refl
    | (with_reducible apply Upd.via; with_reducible apply State.raise_upd; decide)
    | (with_reducible apply Upd.via; with_reducible apply State.bump_upd; decide)
    | with_reducible refine Upd.via (by assumption) (by decide) ?_)

theorem State.namespaceRoom_upd {s} : UpdOpt2 32768 s (State.namespaceRoom s) := by
  unfold State.namespaceRoom
  repeat' (first
    | with_reducible exact Upd.refl
    | (intro u; clear_value u)
    | lift_lets
    | exact UpdOpt2.none
    | with_reducible refine UpdOpt2.mk' ?_
    | (with_reducible apply Upd.via; with_reducible apply State.updKeys_upd; decide)
    | split)

theorem State.loadNamespace_upd {s x1 x2} : UpdOpt 32776 s (State.loadNamespace s x1 x2) := by
  unfold State.loadNamespace
  repeat' (first
    | with_reducible exact Upd.refl
    | exact UpdOpt.none
    | with_reducible refine UpdOpt.mk' ?_
    | (with_reducible apply Upd.via; with_reducible apply State.fillSlot_upd; decide)
    | (with_reducible apply Upd.via; with_reducible apply State.bump_upd; decide)
    | (with_reducible apply Upd.via; with_reducible apply State.updKeys_upd; decide)
    | (with_reducible apply UpdOpt2.via; with_reducible apply State.namespaceRoom_upd; decide)
    | split
    | (with_reducible apply Upd.someOf2'; with_reducible assumption))

theorem execEpochMapMissLoad_upd {x0 x1 x2 s} : UpdO 537132776 s (execEpochMapMissLoad x0 x1 x2 s) := by
  unfold execEpochMapMissLoad
  repeat' (first
    | with_reducible exact Upd.refl
    | with_reducible assumption
    | (intro u; refine Upd.cut 537132776 s u ?_ (fun _ => ?_); subst u; rotate_left; clear_value u; rotate_right)
    | lift_lets
    | (with_reducible apply Upd.via; with_reducible apply State.recordBad_upd; decide)
    | (with_reducible apply Upd.via; with_reducible apply State.pumpRestores_upd; decide)
    | (with_reducible apply UpdOpt.via; with_reducible apply State.loadNamespace_upd; decide)
    | with_reducible refine UpdO.mk' ?_
    | split
    | (with_reducible apply Upd.someOf'; with_reducible assumption))

theorem State.loadCurrent_upd {s} : Upd 32768 s (State.loadCurrent s) := by
  unfold State.loadCurrent
  repeat' (first
    | with_reducible exact Upd.refl
    | with_reducible assumption
    | lift_lets
    | with_reducible refine Upd.foldl ?_ (fun _ _ _ => ?_)
    | (with_reducible apply Upd.via; with_reducible apply State.fillSlot_upd; decide)
    | (with_reducible apply Upd.via; with_reducible apply State.updKeys_upd; decide)
    | (with_reducible apply UpdOpt2.via; with_reducible apply State.namespaceRoom_upd; decide)
    | split
    | (with_reducible apply Upd.someOf2'; with_reducible assumption))

theorem State.loadSystem_upd {s} : Upd 32768 s (State.loadSystem s) := by
  unfold State.loadSystem
  repeat' (first
    | with_reducible exact Upd.refl
    | with_reducible assumption
    | with_reducible refine Upd.foldl ?_ (fun _ _ _ => ?_)
    | (with_reducible apply Upd.via; with_reducible apply State.fillSlot_upd; decide)
    | split)

theorem State.loadKeys_upd {s} : Upd 537394920 s (State.loadKeys s) := by
  unfold State.loadKeys
  repeat' (first
    | with_reducible exact Upd.refl
    | with_reducible assumption
    | (intro u; refine Upd.cut 537394920 s u ?_ (fun _ => ?_); subst u; rotate_left; clear_value u; rotate_right)
    | lift_lets
    | with_reducible refine Upd.foldl ?_ (fun _ _ _ => ?_)
    | (with_reducible apply Upd.via; with_reducible apply State.loadCurrent_upd; decide)
    | (with_reducible apply Upd.via; with_reducible apply State.loadSystem_upd; decide)
    | (with_reducible apply Upd.via; with_reducible apply State.pumpRestores_upd; decide)
    | (with_reducible apply Upd.via; with_reducible apply State.trySettle_upd; decide)
    | (with_reducible apply Upd.via; with_reducible apply State.assignGroups_upd; decide))

theorem execSdbMacroLost_upd {x0 x1 s} : UpdO 537132776 s (execSdbMacroLost x0 x1 s) := by
  unfold execSdbMacroLost
  repeat' (first
    | with_reducible exact Upd.refl
    | with_reducible assumption
    | (intro u; refine Upd.cut 537132776 s u ?_ (fun _ => ?_); subst u; rotate_left; clear_value u; rotate_right)
    | (intro u; clear_value u)
    | lift_lets
    | (with_reducible apply Upd.via; with_reducible apply State.raise_upd; decide)
    | (with_reducible apply Upd.via; with_reducible apply State.clearSlots_upd; decide)
    | (with_reducible apply Upd.via; with_reducible apply State.updKeys_upd; decide)
    | with_reducible refine UpdO.mk' ?_
    | split)

theorem State.setSdbWin_upd {s x1 x2} : Upd 8 s (State.setSdbWin s x1 x2) := by
  unfold State.setSdbWin
  repeat' (first
    | with_reducible exact Upd.refl
    | with_reducible assumption
    | (intro u; clear_value u)
    | lift_lets
    | with_reducible refine Upd.foldl ?_ (fun _ _ _ => ?_)
    | (with_reducible apply Upd.via; with_reducible apply State.wr_upd; decide))

theorem State.sdbRun_upd {m t s x1 x2 x3} (h : Upd m t s) (hm : Nat.land 8 m = 8) (hb : ∀ u, Upd m t u → Upd1 m t (x3 u)) :
    UpdO m t (State.sdbRun s x1 x2 x3) := by
  unfold State.sdbRun
  repeat' (first
    | with_reducible assumption
    | lift_lets
    | with_reducible refine hb _ ?_
    | split
    | (with_reducible apply Upd.via; with_reducible apply State.wr_upd; exact landTrans (by decide) hm)
    | with_reducible refine UpdO.mk' ?_
    | (with_reducible apply Upd.fstOf'; with_reducible assumption))

theorem execGen_upd {x0 s} : UpdO 1073774600 s (execGen x0 s) := by
  unfold execGen
  repeat' (first
    | with_reducible exact Upd.refl
    | with_reducible assumption
    | (intro u; clear_value u)
    | lift_lets
    | (with_reducible apply Upd.via; with_reducible apply State.fillSlot_upd; decide)
    | (with_reducible apply Upd.via; with_reducible apply Upd.snd State.draw_upd; decide)
    | (with_reducible apply Upd.via; with_reducible apply State.updKeys_upd; decide)
    | with_reducible refine State.sdbRun_upd ?_ (by decide) (fun _ _ => ?_)
    | with_reducible refine Upd1.mk' ?_
    | split)

theorem execDerive_upd {x0 s} : UpdO 32776 s (execDerive x0 s) := by
  unfold execDerive
  repeat' (first
    | with_reducible exact Upd.refl
    | with_reducible assumption
    | (intro u; clear_value u)
    | lift_lets
    | (with_reducible apply Upd.via; with_reducible apply State.fillSlot_upd; decide)
    | with_reducible refine State.sdbRun_upd ?_ (by decide) (fun _ _ => ?_)
    | with_reducible refine Upd1.mk' ?_
    | split)

theorem State.putRecord_upd {s x1 x2 x3 x4} : Upd 32768 s (State.putRecord s x1 x2 x3 x4) := by
  unfold State.putRecord
  repeat' (first
    | with_reducible exact Upd.refl
    | (intro u; clear_value u)
    | lift_lets
    | (with_reducible apply Upd.via; with_reducible apply State.updKeys_upd; decide))

theorem State.wrap_upd {s x1 x2} : Upd1 32768 s (State.wrap s x1 x2) := by
  unfold State.wrap
  repeat' (first
    | with_reducible exact Upd.refl
    | (intro u; clear_value u)
    | lift_lets
    | (with_reducible apply Upd.via; with_reducible apply State.putRecord_upd; decide)
    | with_reducible refine Upd1.mk' ?_
    | split)

theorem execWrap_upd {x0 x1 s} : UpdO 32776 s (execWrap x0 x1 s) := by
  unfold execWrap
  repeat' (first
    | with_reducible exact Upd.refl
    | with_reducible assumption
    | (with_reducible apply Upd1.via; with_reducible apply State.wrap_upd; decide)
    | with_reducible refine State.sdbRun_upd ?_ (by decide) (fun _ _ => ?_))

theorem execLoad_upd {x0 x1 s} : UpdO 257640 s (execLoad x0 x1 s) := by
  unfold execLoad
  repeat' (first
    | with_reducible exact Upd.refl
    | with_reducible assumption
    | (intro u; refine Upd.cut 257640 s u ?_ (fun _ => ?_); subst u; rotate_left; clear_value u; rotate_right)
    | (intro u; clear_value u)
    | lift_lets
    | (with_reducible apply Upd.via; with_reducible apply State.fillSlot_upd; decide)
    | (with_reducible apply Upd.via; with_reducible apply State.recordBad_upd; decide)
    | with_reducible refine State.sdbRun_upd ?_ (by decide) (fun _ _ => ?_)
    | with_reducible refine Upd1.mk' ?_
    | split)

theorem execZero_upd {x0 s} : UpdO 537132776 s (execZero x0 s) := by
  unfold execZero
  repeat' (first
    | with_reducible exact Upd.refl
    | with_reducible assumption
    | (with_reducible apply Upd.via; with_reducible apply State.clearSlots_upd; decide)
    | with_reducible refine State.sdbRun_upd ?_ (by decide) (fun _ _ => ?_)
    | with_reducible refine Upd1.mk' ?_
    | split)

theorem execSetAttr_upd {x0 s} : UpdO 32776 s (execSetAttr x0 s) := by
  unfold execSetAttr
  repeat' (first
    | with_reducible exact Upd.refl
    | with_reducible assumption
    | (intro u; clear_value u)
    | lift_lets
    | (with_reducible apply Upd.via; with_reducible apply State.updKeys_upd; decide)
    | with_reducible refine State.sdbRun_upd ?_ (by decide) (fun _ _ => ?_)
    | with_reducible refine Upd1.mk' ?_
    | split)

theorem execSealGcm_upd {x0 s} : UpdO 8 s (execSealGcm x0 s) := by
  unfold execSealGcm
  repeat' (first
    | with_reducible exact Upd.refl
    | with_reducible assumption
    | (intro u; clear_value u)
    | lift_lets
    | (with_reducible apply Upd.via; with_reducible apply State.setSdbWin_upd; decide)
    | with_reducible refine State.sdbRun_upd ?_ (by decide) (fun _ _ => ?_)
    | with_reducible refine Upd1.mk' ?_
    | split)

theorem execOpenGcm_upd {x0 s} : UpdO 32776 s (execOpenGcm x0 s) := by
  unfold execOpenGcm
  repeat' (first
    | with_reducible exact Upd.refl
    | with_reducible assumption
    | (intro u; clear_value u)
    | lift_lets
    | (with_reducible apply Upd.via; with_reducible apply State.fillSlot_upd; decide)
    | with_reducible refine State.sdbRun_upd ?_ (by decide) (fun _ _ => ?_)
    | with_reducible refine Upd1.mk' ?_
    | split)

theorem State.setInactive_upd {s x1} : Upd 32768 s (State.setInactive s x1) := by
  unfold State.setInactive
  repeat' (first
    | with_reducible exact Upd.refl
    | (with_reducible apply Upd.via; with_reducible apply State.updKeys_upd; decide))

theorem State.newVault_upd {s} : Upd 1073774592 s (State.newVault s) := by
  unfold State.newVault
  repeat' (first
    | with_reducible exact Upd.refl
    | lift_lets
    | (with_reducible apply Upd.via; with_reducible apply State.setInactive_upd; decide)
    | (with_reducible apply Upd.via; with_reducible apply Upd.snd State.draw_upd; decide))

theorem execVkGen_upd {x0 s} : UpdO 1073774600 s (execVkGen x0 s) := by
  unfold execVkGen
  repeat' (first
    | with_reducible exact Upd.refl
    | with_reducible assumption
    | (with_reducible apply Upd.via; with_reducible apply State.newVault_upd; decide)
    | (with_reducible apply Upd.via; with_reducible apply State.updKeys_upd; decide)
    | with_reducible refine State.sdbRun_upd ?_ (by decide) (fun _ _ => ?_)
    | with_reducible refine Upd1.mk' ?_
    | split)

theorem State.drawMany_upd {s x1} : Upd2 1073741824 s (State.drawMany s x1) := by
  fun_induction State.drawMany s x1
  all_goals repeat' (first
    | with_reducible exact Upd.refl
    | lift_lets
    | (with_reducible apply Upd2.via; with_reducible apply State.draw_upd; decide)
    | with_reducible refine Upd2.mk' ?_
    | (with_reducible apply Upd.sndOf'; with_reducible assumption)
    | with_reducible refine Upd.via (Upd.snd (by assumption)) (by decide) ?_)

theorem State.split_upd {s x1 x2 x3} : Upd2 1073741824 s (State.split s x1 x2 x3) := by
  unfold State.split
  repeat' (first
    | with_reducible exact Upd.refl
    | lift_lets
    | (with_reducible apply Upd.via; with_reducible apply Upd.snd State.drawMany_upd; decide)
    | with_reducible refine Upd2.mk' ?_)

theorem execVkSplit_upd {x0 s} : UpdO 1073774600 s (execVkSplit x0 s) := by
  unfold execVkSplit
  repeat' (first
    | with_reducible exact Upd.refl
    | with_reducible assumption
    | (intro u; clear_value u)
    | lift_lets
    | with_reducible refine Upd.foldl ?_ (fun _ _ _ => ?_)
    | (with_reducible apply Upd.via; with_reducible apply State.fillSlot_upd; decide)
    | (with_reducible apply Upd.via; with_reducible apply Upd.snd State.split_upd; decide)
    | (with_reducible apply Upd.via; with_reducible apply State.updKeys_upd; decide)
    | with_reducible refine State.sdbRun_upd ?_ (by decide) (fun _ _ => ?_)
    | with_reducible refine Upd1.mk' ?_
    | split)

theorem State.clearShares_upd {s} : Upd 537132776 s (State.clearShares s) := by
  unfold State.clearShares
  repeat' (first
    | with_reducible exact Upd.refl
    | (with_reducible apply Upd.via; with_reducible apply State.clearSlots_upd; decide))

theorem State.combineInto_upd {s x1 x2} : Upd1 537394920 s (State.combineInto s x1 x2) := by
  unfold State.combineInto
  repeat' (first
    | with_reducible exact Upd.refl
    | with_reducible assumption
    | (intro u; refine Upd.cut 537394920 s u ?_ (fun _ => ?_); subst u; rotate_left; clear_value u; rotate_right)
    | (intro u; clear_value u)
    | lift_lets
    | (with_reducible apply Upd.via; with_reducible apply State.loadKeys_upd; decide)
    | (with_reducible apply Upd.via; with_reducible apply State.setInactive_upd; decide)
    | (with_reducible apply Upd.via; with_reducible apply State.clearShares_upd; decide)
    | (with_reducible apply Upd.via; with_reducible apply State.updKeys_upd; decide)
    | with_reducible refine Upd1.mk' ?_
    | split)

theorem execVkCombine_upd {x0 s} : UpdO 537394920 s (execVkCombine x0 s) := by
  unfold execVkCombine
  repeat' (first
    | with_reducible exact Upd.refl
    | with_reducible assumption
    | (intro u; clear_value u)
    | lift_lets
    | (with_reducible apply Upd.via; with_reducible apply Upd.fst State.combineInto_upd; decide)
    | with_reducible refine State.sdbRun_upd ?_ (by decide) (fun _ _ => ?_)
    | with_reducible refine Upd1.mk' ?_
    | split)

theorem State.rewrapAll_upd {s x1} : Upd 32768 s (State.rewrapAll s x1) := by
  unfold State.rewrapAll
  repeat' (first
    | with_reducible exact Upd.refl
    | with_reducible assumption
    | (intro u; clear_value u)
    | lift_lets
    | with_reducible refine Upd.foldl ?_ (fun _ _ _ => ?_)
    | (with_reducible apply Upd.via; with_reducible apply State.updKeys_upd; decide)
    | split)

theorem State.commitRotation_upd {s x1} : Upd 294912 s (State.commitRotation s x1) := by
  unfold State.commitRotation
  repeat' (first
    | with_reducible exact Upd.refl
    | with_reducible assumption
    | (intro u; refine Upd.cut 294912 s u ?_ (fun _ => ?_); subst u; rotate_left; clear_value u; rotate_right)
    | lift_lets
    | (with_reducible apply Upd.via; with_reducible apply State.setInactive_upd; decide)
    | (with_reducible apply Upd.via; with_reducible apply State.updKeys_upd; decide)
    | (with_reducible apply Upd.via; with_reducible apply State.journal_upd; decide))

theorem execVkCommit_upd {x0 s} : UpdO 294920 s (execVkCommit x0 s) := by
  unfold execVkCommit
  repeat' (first
    | with_reducible exact Upd.refl
    | with_reducible assumption
    | (with_reducible apply Upd.via; with_reducible apply State.commitRotation_upd; decide)
    | with_reducible refine State.sdbRun_upd ?_ (by decide) (fun _ _ => ?_)
    | with_reducible refine Upd1.mk' ?_
    | split)

theorem State.makeCurrent_upd {s x1 x2} : Upd1 294912 s (State.makeCurrent s x1 x2) := by
  unfold State.makeCurrent
  repeat' (first
    | with_reducible exact Upd.refl
    | with_reducible assumption
    | (intro u; refine Upd.cut 294912 s u ?_ (fun _ => ?_); subst u; rotate_left; clear_value u; rotate_right)
    | (intro u; clear_value u)
    | lift_lets
    | (with_reducible apply Upd.via; with_reducible apply State.updKeys_upd; decide)
    | (with_reducible apply Upd.via; with_reducible apply State.journal_upd; decide)
    | with_reducible refine Upd1.mk' ?_
    | split)

theorem execNsCurrent_upd {x0 s} : UpdO 294920 s (execNsCurrent x0 s) := by
  unfold execNsCurrent
  repeat' (first
    | with_reducible exact Upd.refl
    | with_reducible assumption
    | (with_reducible apply Upd.via; with_reducible apply Upd.fst State.makeCurrent_upd; decide)
    | with_reducible refine State.sdbRun_upd ?_ (by decide) (fun _ _ => ?_)
    | with_reducible refine Upd1.mk' ?_
    | split)

theorem State.settleTrng_upd {s} : Upd 257640 s (State.settleTrng s) := by
  unfold State.settleTrng
  repeat' (first
    | with_reducible exact Upd.refl
    | (with_reducible apply Upd.via; with_reducible apply State.raise_upd; decide)
    | (with_reducible apply Upd.via; with_reducible apply State.fall_upd; decide)
    | (with_reducible apply Upd.via; with_reducible apply State.flag_upd; decide)
    | split)

theorem execTrngSourceFail_upd {x0 x1 s} : UpdO 257640 s (execTrngSourceFail x0 x1 s) := by
  unfold execTrngSourceFail
  repeat' (first
    | with_reducible exact Upd.refl
    | with_reducible assumption
    | (intro u; refine Upd.cut 257640 s u ?_ (fun _ => ?_); subst u; rotate_left; clear_value u; rotate_right)
    | lift_lets
    | (with_reducible apply Upd.via; with_reducible apply State.raise_upd; decide)
    | (with_reducible apply Upd.via; with_reducible apply State.settleTrng_upd; decide)
    | (with_reducible apply Upd.via; with_reducible apply State.bump_upd; decide)
    | (with_reducible apply Upd.via; with_reducible apply State.setBit_upd; decide)
    | with_reducible refine UpdO.mk' ?_
    | split)

theorem execDrbgReseed_upd {s} : UpdO 3221782532 s (execDrbgReseed s) := by
  unfold execDrbgReseed
  repeat' (first
    | with_reducible exact Upd.refl
    | with_reducible assumption
    | (intro u; refine Upd.cut 3221782532 s u ?_ (fun _ => ?_); subst u; rotate_left; clear_value u; rotate_right)
    | lift_lets
    | (with_reducible apply Upd.via; with_reducible apply Upd.snd State.draw_upd; decide)
    | (with_reducible apply Upd.via; with_reducible apply State.advanceTo_upd; decide)
    | (with_reducible apply Upd.via; with_reducible apply State.updKeys_upd; decide)
    | with_reducible refine UpdO.mk' ?_
    | split)

end Sys2Proof.Machine
end

