-- ==== Sys2Proof/Laws/UpdAwl.lean ====
section
/-! SUPPORT. What each operation of Machine/Awl.lean touches and keeps. -/

namespace Sys2Proof.Machine

theorem State.settleDone_upd {s} : Upd 65544 s (State.settleDone s) := by
  unfold State.settleDone
  repeat' (first
    | with_reducible exact Upd.refl
    | with_reducible assumption
    | (intro u; refine Upd.cut 65544 s u ?_ (fun _ => ?_); subst u; rotate_left; clear_value u; rotate_right)
    | lift_lets
    | (with_reducible apply Upd.via; with_reducible apply State.wr_upd; decide)
    | (with_reducible apply Upd.via; with_reducible apply State.updAwl_upd; decide))

theorem State.completeJob_upd {s x1 x2 x3 x4 x5 x6 x7 x8} : Upd 258024 s (State.completeJob s x1 x2 x3 x4 x5 x6 x7 x8) := by
  unfold State.completeJob
  repeat' (first
    | with_reducible exact Upd.refl
    | with_reducible assumption
    | (intro u; refine Upd.cut 258024 s u ?_ (fun _ => ?_); subst u; rotate_left; clear_value u; rotate_right)
    | (intro u; clear_value u)
    | lift_lets
    | (with_reducible apply Upd.via; with_reducible apply State.settleDone_upd; decide)
    | (with_reducible apply Upd.via; with_reducible apply State.writeMem_upd; decide)
    | (with_reducible apply Upd.via; with_reducible apply State.wr_upd; decide)
    | (with_reducible apply Upd.via; with_reducible apply State.bump_upd; decide)
    | (with_reducible apply Upd.via; with_reducible apply State.addTo_upd; decide)
    | (with_reducible apply Upd.via; with_reducible apply State.updAwl_upd; decide)
    | (with_reducible apply Upd2.via; with_reducible apply State.guard_upd; decide)
    | split
    | (with_reducible apply Upd.sndOf'; with_reducible assumption))

theorem State.loadInputs_upd {s x1 x2 x3} : Upd 65536 s (State.loadInputs s x1 x2 x3) := by
  unfold State.loadInputs
  repeat' (first
    | with_reducible exact Upd.refl
    | with_reducible assumption
    | with_reducible refine Upd.foldl ?_ (fun _ _ _ => ?_)
    | (with_reducible apply Upd.via; with_reducible apply State.layOperand_upd; decide))

theorem State.awlIdle_upd {s x1} : Upd 74760 s (State.awlIdle s x1) := by
  unfold State.awlIdle
  repeat' (first
    | with_reducible exact Upd.refl
    | (with_reducible apply Upd.via; with_reducible apply State.setAwl_upd; decide)
    | (with_reducible apply Upd.via; with_reducible apply State.settleTest_upd; decide))

theorem State.setStage_upd {s x1 x2} : Upd 65536 s (State.setStage s x1 x2) := by
  unfold State.setStage
  repeat' (first
    | with_reducible exact Upd.refl
    | (with_reducible apply Upd.via; with_reducible apply State.updAwl_upd; decide))

theorem State.placeVerify_upd {s x1} : Upd 65544 s (State.placeVerify s x1) := by
  unfold State.placeVerify
  repeat' (first
    | with_reducible exact Upd.refl
    | with_reducible assumption
    | (intro u; refine Upd.cut 65544 s u ?_ (fun _ => ?_); subst u; rotate_left; clear_value u; rotate_right)
    | lift_lets
    | (with_reducible apply Upd.via; with_reducible apply State.loadInputs_upd; decide)
    | (with_reducible apply Upd.via; with_reducible apply State.setStage_upd; decide)
    | (with_reducible apply Upd.via; with_reducible apply State.updAwl_upd; decide)
    | (with_reducible apply Upd.via; with_reducible apply State.setAwl_upd; decide)
    | (with_reducible apply Upd.via; with_reducible apply State.clearOperand_upd; decide)
    | (with_reducible apply Upd.via; with_reducible apply State.layOperand_upd; decide)
    | split)

theorem State.startJob_upd {s x1 x2} : Upd 65544 s (State.startJob s x1 x2) := by
  unfold State.startJob
  repeat' (first
    | with_reducible exact Upd.refl
    | (with_reducible apply Upd.via; with_reducible apply State.loadInputs_upd; decide)
    | (with_reducible apply Upd.via; with_reducible apply State.updAwl_upd; decide)
    | (with_reducible apply Upd.via; with_reducible apply State.setAwl_upd; decide))

theorem State.startNext_upd {s} : Upd1 258024 s (State.startNext s) := by
  unfold State.startNext
  repeat' (first
    | with_reducible exact Upd.refl
    | (with_reducible apply Upd.via; with_reducible apply State.completeJob_upd; decide)
    | (with_reducible apply Upd.via; with_reducible apply State.startJob_upd; decide)
    | (with_reducible apply Upd.via; with_reducible apply State.updAwl_upd; decide)
    | with_reducible refine Upd1.mk' ?_
    | split)

theorem State.fetchDesc_upd {s} : Upd 537133032 s (State.fetchDesc s) := by
  unfold State.fetchDesc
  repeat' (first
    | with_reducible exact Upd.refl
    | with_reducible assumption
    | (intro u; refine Upd.cut 537133032 s u ?_ (fun _ => ?_); subst u; rotate_left; clear_value u; rotate_right)
    | (intro u; clear_value u)
    | lift_lets
    | split
    | (with_reducible apply Upd.via; with_reducible apply State.settleDone_upd; decide)
    | (with_reducible apply Upd.via; with_reducible apply State.completeJob_upd; decide)
    | (with_reducible apply Upd.via; with_reducible apply Upd.snd State.readChecked_upd; decide)
    | (with_reducible apply Upd.via; with_reducible apply State.wr_upd; decide)
    | (with_reducible apply Upd.via; with_reducible apply State.updAwl_upd; decide)
    | (with_reducible apply Upd2.via; with_reducible apply State.guardRange_upd; decide)
    | with_reducible refine Upd2.mk' ?_
    | (with_reducible apply Upd.sndOf'; with_reducible assumption)
    | dsimp only)

theorem execAwlRingTail_upd {x0 x1 s} : UpdO 8 s (execAwlRingTail x0 x1 s) := by
  unfold execAwlRingTail
  repeat' (first
    | with_reducible exact Upd.refl
    | (with_reducible apply Upd.via; with_reducible apply State.wr_upd; decide)
    | with_reducible refine UpdO.mk' ?_
    | split)

theorem execAwlDispatch_upd {s} : UpdO 537133032 s (execAwlDispatch s) := by
  unfold execAwlDispatch
  repeat' (first
    | with_reducible exact Upd.refl
    | (intro u; clear_value u)
    | lift_lets
    | split
    | (with_reducible apply Upd.via; with_reducible apply State.placeVerify_upd; decide)
    | (with_reducible apply Upd.via; with_reducible apply State.fetchDesc_upd; decide)
    | (with_reducible apply Upd1.via; with_reducible apply State.startNext_upd; decide)
    | with_reducible refine UpdO.mk' ?_
    | (with_reducible apply Upd.fstOf'; with_reducible assumption))

theorem State.deliver_upd {s x1 x2 x3} : Upd1 258024 s (State.deliver s x1 x2 x3) := by
  unfold State.deliver
  repeat' (first
    | with_reducible exact Upd.refl
    | with_reducible assumption
    | (intro u; refine Upd.cut 258024 s u ?_ (fun _ => ?_); subst u; rotate_left; clear_value u; rotate_right)
    | lift_lets
    | split
    | (with_reducible apply Upd.via; with_reducible apply State.fillSlot_upd; decide)
    | (with_reducible apply Upd.via; with_reducible apply State.writeMem_upd; decide)
    | (with_reducible apply Upd2.via; with_reducible apply State.guardRange_upd; decide)
    | with_reducible refine Upd1.mk' ?_
    | with_reducible refine Upd2.mk' ?_
    | (with_reducible apply Upd.sndOf'; with_reducible assumption))

theorem execAwlCompletion_upd {x0 s} : UpdO 258024 s (execAwlCompletion x0 s) := by
  unfold execAwlCompletion
  repeat' (first
    | with_reducible exact Upd.refl
    | lift_lets
    | (with_reducible apply Upd.via; with_reducible apply State.completeJob_upd; decide)
    | (with_reducible apply Upd.via; with_reducible apply State.awlIdle_upd; decide)
    | (with_reducible apply Upd.via; with_reducible apply Upd.fst State.deliver_upd; decide)
    | (with_reducible apply Upd.via; with_reducible apply State.updAwl_upd; decide)
    | (with_reducible apply Upd.via; with_reducible apply State.clearOperand_upd; decide)
    | with_reducible refine UpdO.mk' ?_
    | split)

theorem execAwlDone_upd {s} : UpdO 2148073484 s (execAwlDone s) := by
  unfold execAwlDone
  repeat' (first
    | with_reducible exact Upd.refl
    | with_reducible assumption
    | (intro u; refine Upd.cut 2148073484 s u ?_ (fun _ => ?_); subst u; rotate_left; clear_value u; rotate_right)
    | lift_lets
    | (with_reducible apply Upd.via; with_reducible apply State.advanceTo_upd; decide)
    | (with_reducible apply Upd.via; with_reducible apply State.interrupt_upd; decide)
    | (with_reducible apply Upd.via; with_reducible apply State.updAwl_upd; decide)
    | with_reducible refine UpdO.mk' ?_
    | split)

theorem State.awlSuspect_upd {s x1} : Upd 65544 s (State.awlSuspect s x1) := by
  unfold State.awlSuspect
  repeat' (first
    | with_reducible exact Upd.refl
    | (with_reducible apply Upd.via; with_reducible apply State.updAwl_upd; decide)
    | (with_reducible apply Upd.via; with_reducible apply State.setAwl_upd; decide))

theorem State.awlStop_upd {s x1} : Upd 257640 s (State.awlStop s x1) := by
  unfold State.awlStop
  repeat' (first
    | with_reducible exact Upd.refl
    | with_reducible assumption
    | (intro u; refine Upd.cut 257640 s u ?_ (fun _ => ?_); subst u; rotate_left; clear_value u; rotate_right)
    | (intro u; clear_value u)
    | lift_lets
    | (with_reducible apply Upd.via; with_reducible apply State.awlSuspect_upd; decide)
    | (with_reducible apply Upd.via; with_reducible apply State.raise_upd; decide)
    | (with_reducible apply Upd.via; with_reducible apply State.wr_upd; decide)
    | (with_reducible apply Upd.via; with_reducible apply State.updAwl_upd; decide)
    | (with_reducible apply Upd.via; with_reducible apply State.dropRun_upd; decide)
    | (with_reducible apply Upd.via; with_reducible apply State.stopAwl_upd; decide)
    | split)

theorem State.verifyEnd_upd {s x1 x2 x3} : Upd 258024 s (State.verifyEnd s x1 x2 x3) := by
  unfold State.verifyEnd
  repeat' (first
    | with_reducible exact Upd.refl
    | with_reducible assumption
    | (intro u; refine Upd.cut 258024 s u ?_ (fun _ => ?_); subst u; rotate_left; clear_value u; rotate_right)
    | lift_lets
    | (with_reducible apply Upd.via; with_reducible apply State.completeJob_upd; decide)
    | (with_reducible apply Upd.via; with_reducible apply State.setStage_upd; decide)
    | (with_reducible apply Upd.via; with_reducible apply State.awlSuspect_upd; decide)
    | (with_reducible apply Upd.via; with_reducible apply State.raise_upd; decide)
    | (with_reducible apply Upd.via; with_reducible apply State.bump_upd; decide)
    | (with_reducible apply Upd.via; with_reducible apply State.trailRec_upd; decide)
    | (with_reducible apply Upd.via; with_reducible apply State.updAwl_upd; decide)
    | (with_reducible apply Upd.via; with_reducible apply State.clearOperand_upd; decide)
    | split
    | dsimp only)

theorem State.clearUnit_upd {s x1 x2} : Upd 257640 s (State.clearUnit s x1 x2) := by
  unfold State.clearUnit
  repeat' (first
    | with_reducible exact Upd.refl
    | (with_reducible apply Upd.via; with_reducible apply State.awlIdle_upd; decide)
    | (with_reducible apply Upd.via; with_reducible apply State.raise_upd; decide)
    | (with_reducible apply Upd.via; with_reducible apply State.setAwl_upd; decide)
    | (with_reducible apply Upd.via; with_reducible apply State.clearOperand_upd; decide)
    | split)

theorem State.abortJob_upd {s x1 x2} : Upd 258024 s (State.abortJob s x1 x2) := by
  unfold State.abortJob
  dsimp only
  repeat' (first
    | with_reducible exact Upd.refl
    | (with_reducible apply Upd.via; with_reducible apply State.completeJob_upd; decide)
    | (with_reducible apply Upd.via; with_reducible apply State.setStage_upd; decide)
    | (with_reducible apply Upd.via; with_reducible apply State.clearUnit_upd; decide)
    | (with_reducible apply Upd.via; with_reducible apply State.bump_upd; decide)
    | (with_reducible apply Upd.via; with_reducible apply State.updAwl_upd; decide)
    | split)

theorem execAwlAbort_upd {x0 x1 x2 s} : UpdO 258024 s (execAwlAbort x0 x1 x2 s) := by
  unfold execAwlAbort
  repeat' (first
    | with_reducible exact Upd.refl
    | with_reducible assumption
    | (intro u; refine Upd.cut 258024 s u ?_ (fun _ => ?_); subst u; rotate_left; clear_value u; rotate_right)
    | (intro u; clear_value u)
    | lift_lets
    | (with_reducible apply Upd.via; with_reducible apply State.abortJob_upd; decide)
    | (with_reducible apply Upd.via; with_reducible apply State.wr_upd; decide)
    | with_reducible refine UpdO.mk' ?_
    | split)

theorem execAwlMismatch_upd {x0 x1 s} : UpdO 257640 s (execAwlMismatch x0 x1 s) := by
  unfold execAwlMismatch
  repeat' (first
    | with_reducible exact Upd.refl
    | with_reducible assumption
    | (intro u; refine Upd.cut 257640 s u ?_ (fun _ => ?_); subst u; rotate_left; clear_value u; rotate_right)
    | lift_lets
    | (with_reducible apply Upd.via; with_reducible apply State.awlStop_upd; decide)
    | (with_reducible apply Upd.via; with_reducible apply State.raise_upd; decide)
    | with_reducible refine UpdO.mk' ?_
    | split)

theorem execAwlQrel_upd {x0 x1 s} : UpdO 65544 s (execAwlQrel x0 x1 s) := by
  unfold execAwlQrel
  repeat' (first
    | with_reducible exact Upd.refl
    | with_reducible assumption
    | (intro u; refine Upd.cut 65544 s u ?_ (fun _ => ?_); subst u; rotate_left; clear_value u; rotate_right)
    | lift_lets
    | (with_reducible apply Upd.via; with_reducible apply State.wr_upd; decide)
    | (with_reducible apply Upd.via; with_reducible apply State.updAwl_upd; decide)
    | (with_reducible apply Upd.via; with_reducible apply State.setAwl_upd; decide)
    | with_reducible refine UpdO.mk' ?_
    | split)

theorem State.awlServe_upd {s x1} : Upd 8 s (State.awlServe s x1) := by
  unfold State.awlServe
  repeat' (first
    | with_reducible exact Upd.refl
    | (with_reducible apply Upd.via; with_reducible apply State.setAwl_upd; decide)
    | split)

theorem execAwlSelftestDone_upd {x0 x1 x2 s} : UpdO 17038952 s (execAwlSelftestDone x0 x1 x2 s) := by
  unfold execAwlSelftestDone
  repeat' (first
    | with_reducible exact Upd.refl
    | with_reducible assumption
    | (intro u; refine Upd.cut 17038952 s u ?_ (fun _ => ?_); subst u; rotate_left; clear_value u; rotate_right)
    | lift_lets
    | (with_reducible apply Upd.via; with_reducible apply State.awlServe_upd; decide)
    | (with_reducible apply Upd.via; with_reducible apply State.raise_upd; decide)
    | (with_reducible apply Upd.via; with_reducible apply State.backInService_upd; decide)
    | (with_reducible apply Upd.via; with_reducible apply State.testEnded_upd; decide)
    | (with_reducible apply Upd.via; with_reducible apply State.testOver_upd; decide)
    | (with_reducible apply Upd.via; with_reducible apply State.updAwl_upd; decide)
    | (with_reducible apply Upd.via; with_reducible apply State.stopAwl_upd; decide)
    | with_reducible refine UpdO.mk' ?_
    | split)

end Sys2Proof.Machine
end

