-- ==== Sys2Proof/Laws/UpdCollarBase.lean ====
section
/-! SUPPORT. What each operation of Machine/CollarBase.lean touches and keeps. -/

namespace Sys2Proof.Machine

theorem State.raiseMain_upd {s x1 x2} : Upd 257640 s (State.raiseMain s x1 x2) := by
  unfold State.raiseMain
  repeat' (first
    | with_reducible exact Upd.refl
    | (with_reducible apply Upd.via; with_reducible apply State.raise_upd; decide)
    | split)

theorem State.collarAppend_upd {s x1 x2 x3 x4} : Upd 1306216 s (State.collarAppend s x1 x2 x3 x4) := by
  unfold State.collarAppend
  repeat' (first
    | with_reducible exact Upd.refl
    | with_reducible assumption
    | (intro u; refine Upd.cut 1306216 s u ?_ (fun _ => ?_); subst u; rotate_left; clear_value u; rotate_right)
    | (intro u; clear_value u)
    | lift_lets
    | (with_reducible apply Upd.via; with_reducible apply State.raiseMain_upd; decide)
    | (with_reducible apply Upd.via; with_reducible apply State.updCollar_upd; decide)
    | split)

theorem State.coreNote_upd {s x1 x2} : Upd 1306216 s (State.coreNote s x1 x2) := by
  unfold State.coreNote
  repeat' (first
    | with_reducible exact Upd.refl
    | (with_reducible apply Upd.via; with_reducible apply State.collarAppend_upd; decide)
    | (with_reducible apply Upd.via; with_reducible apply State.updCollar_upd; decide)
    | split)

theorem State.putSecurity_upd {s x1} : Upd 1048576 s (State.putSecurity s x1) := by
  unfold State.putSecurity
  repeat' (first
    | with_reducible exact Upd.refl
    | (intro u; clear_value u)
    | lift_lets
    | (with_reducible apply Upd.via; with_reducible apply State.updCollar_upd; decide))

end Sys2Proof.Machine
end

