-- ==== Sys2Proof/Laws/UpdCollar.lean ====
section
/-! SUPPORT. What each operation of Machine/Collar.lean touches and keeps. -/

namespace Sys2Proof.Machine

theorem State.fieldAnswer_upd {s x1 x2} : Upd 536870912 s (State.fieldAnswer s x1 x2) := by
  unfold State.fieldAnswer
  repeat' (first
    | with_reducible exact Upd.refl
    | (with_reducible apply Upd.via; with_reducible apply State.emit_upd; decide))

theorem execCollarPowerUp_upd {x0 x1 s} : UpdO 1075048040 s (execCollarPowerUp x0 x1 s) := by
  unfold execCollarPowerUp
  repeat' (first
    | with_reducible exact Upd.refl
    | lift_lets
    | (with_reducible apply Upd.via; with_reducible apply State.raiseMain_upd; decide)
    | (with_reducible apply Upd.via; with_reducible apply State.flag_upd; decide)
    | (with_reducible apply Upd.via; with_reducible apply Upd.snd State.draw_upd; decide)
    | (with_reducible apply Upd.via; with_reducible apply State.updCollar_upd; decide)
    | with_reducible refine UpdO.mk' ?_
    | split)

theorem execCollarActivation_upd {s} : UpdO 537919496 s (execCollarActivation s) := by
  unfold execCollarActivation
  repeat' (first
    | with_reducible exact Upd.refl
    | with_reducible assumption
    | (intro u; refine Upd.cut 537919496 s u ?_ (fun _ => ?_); subst u; rotate_left; clear_value u; rotate_right)
    | lift_lets
    | (with_reducible apply Upd.via; with_reducible apply State.flag_upd; decide)
    | (with_reducible apply Upd.via; with_reducible apply State.emit_upd; decide)
    | (with_reducible apply Upd.via; with_reducible apply State.updCollar_upd; decide)
    | with_reducible refine UpdO.mk' ?_
    | split)

theorem State.fieldCommand_upd {m t s x1} (h : Upd m t s) (hm : Nat.land 1048576 m = 1048576) (hb : ∀ a u, Upd m t u → Upd m t (x1 a u)) :
    Upd m t (State.fieldCommand s x1) := by
  unfold State.fieldCommand
  repeat' (first
    | with_reducible assumption
    | with_reducible refine hb _ _ ?_
    | split
    | (with_reducible apply Upd.via; with_reducible apply State.updCollar_upd; exact landTrans (by decide) hm))

theorem State.appCommand_upd {m t s x1} (h : Upd m t s) (hm : Nat.land 537919488 m = 537919488) (hb : ∀ a u, Upd m t u → Upd m t (x1 a u)) :
    Upd m t (State.appCommand s x1) := by
  unfold State.appCommand
  repeat' (first
    | with_reducible assumption
    | with_reducible refine hb _ _ ?_
    | (with_reducible apply Upd.via; with_reducible apply State.fieldAnswer_upd; exact landTrans (by decide) hm)
    | with_reducible refine State.fieldCommand_upd ?_ (landTrans (by decide) hm) (fun _ _ _ => ?_)
    | split)

theorem execCollarSelect_upd {x0 s} : UpdO 537919488 s (execCollarSelect x0 s) := by
  unfold execCollarSelect
  repeat' (first
    | with_reducible exact Upd.refl
    | with_reducible assumption
    | (with_reducible apply Upd.via; with_reducible apply State.fieldAnswer_upd; decide)
    | (with_reducible apply Upd.via; with_reducible apply State.updCollar_upd; decide)
    | with_reducible refine State.fieldCommand_upd ?_ (by decide) (fun _ _ _ => ?_)
    | with_reducible refine UpdO.mk' ?_
    | split)

theorem execCollarRead_upd {x0 x1 s} : UpdO 537919488 s (execCollarRead x0 x1 s) := by
  unfold execCollarRead
  repeat' (first
    | with_reducible exact Upd.refl
    | with_reducible assumption
    | (intro u; clear_value u)
    | lift_lets
    | (with_reducible apply Upd.via; with_reducible apply State.fieldAnswer_upd; decide)
    | with_reducible refine State.appCommand_upd ?_ (by decide) (fun _ _ _ => ?_)
    | with_reducible refine UpdO.mk' ?_
    | split)

theorem execGetState_upd {s} : UpdO 537919488 s (execGetState s) := by
  unfold execGetState
  repeat' (first
    | with_reducible exact Upd.refl
    | with_reducible assumption
    | (intro u; clear_value u)
    | lift_lets
    | (with_reducible apply Upd.via; with_reducible apply State.fieldAnswer_upd; decide)
    | with_reducible refine State.appCommand_upd ?_ (by decide) (fun _ _ _ => ?_)
    | with_reducible refine UpdO.mk' ?_)

theorem execVerify_upd {x0 x1 x2 x3 s} : UpdO 538177128 s (execVerify x0 x1 x2 x3 s) := by
  unfold execVerify
  repeat' (first
    | with_reducible exact Upd.refl
    | with_reducible assumption
    | (intro u; refine Upd.cut 538177128 s u ?_ (fun _ => ?_); subst u; rotate_left; clear_value u; rotate_right)
    | (intro u; clear_value u)
    | lift_lets
    | (with_reducible apply Upd.via; with_reducible apply State.fieldAnswer_upd; decide)
    | (with_reducible apply Upd.via; with_reducible apply State.raiseMain_upd; decide)
    | (with_reducible apply Upd.via; with_reducible apply State.collarAppend_upd; decide)
    | (with_reducible apply Upd.via; with_reducible apply State.putSecurity_upd; decide)
    | (with_reducible apply Upd.via; with_reducible apply State.flag_upd; decide)
    | (with_reducible apply Upd.via; with_reducible apply State.updCollar_upd; decide)
    | with_reducible refine State.appCommand_upd ?_ (by decide) (fun _ _ _ => ?_)
    | with_reducible refine UpdO.mk' ?_
    | split)

theorem execAppendNote_upd {x0 x1 x2 s} : UpdO 538177128 s (execAppendNote x0 x1 x2 s) := by
  unfold execAppendNote
  repeat' (first
    | with_reducible exact Upd.refl
    | with_reducible assumption
    | (intro u; clear_value u)
    | lift_lets
    | (with_reducible apply Upd.via; with_reducible apply State.fieldAnswer_upd; decide)
    | (with_reducible apply Upd.via; with_reducible apply State.collarAppend_upd; decide)
    | with_reducible refine State.appCommand_upd ?_ (by decide) (fun _ _ _ => ?_)
    | with_reducible refine UpdO.mk' ?_
    | split)

theorem State.setPassword_upd {s x1 x2 x3} : Upd 1306216 s (State.setPassword s x1 x2 x3) := by
  unfold State.setPassword
  repeat' (first
    | with_reducible exact Upd.refl
    | with_reducible assumption
    | (intro u; refine Upd.cut 1306216 s u ?_ (fun _ => ?_); subst u; rotate_left; clear_value u; rotate_right)
    | (intro u; clear_value u)
    | lift_lets
    | (with_reducible apply Upd.via; with_reducible apply State.collarAppend_upd; decide)
    | (with_reducible apply Upd.via; with_reducible apply State.putSecurity_upd; decide))

theorem execChangePw_upd {x0 x1 x2 s} : UpdO 538177128 s (execChangePw x0 x1 x2 s) := by
  unfold execChangePw
  repeat' (first
    | with_reducible exact Upd.refl
    | with_reducible assumption
    | (with_reducible apply Upd.via; with_reducible apply State.fieldAnswer_upd; decide)
    | (with_reducible apply Upd.via; with_reducible apply State.setPassword_upd; decide)
    | with_reducible refine State.appCommand_upd ?_ (by decide) (fun _ _ _ => ?_)
    | with_reducible refine UpdO.mk' ?_
    | split)

theorem execResetTries_upd {x0 x1 s} : UpdO 537919488 s (execResetTries x0 x1 s) := by
  unfold execResetTries
  repeat' (first
    | with_reducible exact Upd.refl
    | with_reducible assumption
    | (with_reducible apply Upd.via; with_reducible apply State.fieldAnswer_upd; decide)
    | (with_reducible apply Upd.via; with_reducible apply State.putSecurity_upd; decide)
    | with_reducible refine State.appCommand_upd ?_ (by decide) (fun _ _ _ => ?_)
    | with_reducible refine UpdO.mk' ?_
    | split)

theorem State.endField_upd {s x1} : Upd 1306216 s (State.endField s x1) := by
  unfold State.endField
  repeat' (first
    | with_reducible exact Upd.refl
    | with_reducible assumption
    | (intro u; refine Upd.cut 1306216 s u ?_ (fun _ => ?_); subst u; rotate_left; clear_value u; rotate_right)
    | (intro u; clear_value u)
    | lift_lets
    | with_reducible refine Upd.foldl ?_ (fun _ _ _ => ?_)
    | (with_reducible apply Upd.via; with_reducible apply State.coreNote_upd; decide)
    | (with_reducible apply Upd.via; with_reducible apply State.flag_upd; decide)
    | (with_reducible apply Upd.via; with_reducible apply State.updCollar_upd; decide)
    | (with_reducible apply Upd.via; with_reducible apply State.interrupt_upd; decide)
    | split)

theorem execCollarSessionEnd_upd {x0 x1 s} : UpdO 2149314156 s (execCollarSessionEnd x0 x1 s) := by
  unfold execCollarSessionEnd
  repeat' (first
    | with_reducible exact Upd.refl
    | with_reducible assumption
    | (intro u; refine Upd.cut 2149314156 s u ?_ (fun _ => ?_); subst u; rotate_left; clear_value u; rotate_right)
    | lift_lets
    | (with_reducible apply Upd.via; with_reducible apply State.endField_upd; decide)
    | (with_reducible apply Upd.via; with_reducible apply State.advanceTo_upd; decide)
    | with_reducible refine UpdO.mk' ?_
    | split)

theorem State.colCmd_upd {m t s x1 x2 x3 x4} (h : Upd m t s) (hm : Nat.land 1048584 m = 1048584) (hb : ∀ u, Upd m t u → Upd1 m t (x4 u)) :
    Upd m t (State.colCmd s x1 x2 x3 x4) := by
  unfold State.colCmd
  repeat' (first
    | with_reducible assumption
    | (intro u; refine Upd.cut m t u ?_ (fun _ => ?_); subst u; rotate_left; clear_value u; rotate_right)
    | lift_lets
    | with_reducible refine hb _ ?_
    | split
    | (with_reducible apply Upd.via; with_reducible apply State.wr_upd; exact landTrans (by decide) hm)
    | (with_reducible apply Upd.via; with_reducible apply State.updCollar_upd; exact landTrans (by decide) hm)
    | (with_reducible apply Upd.fstOf'; with_reducible assumption))

theorem State.setColWin_upd {s x1} : Upd 8 s (State.setColWin s x1) := by
  unfold State.setColWin
  repeat' (first
    | with_reducible exact Upd.refl
    | with_reducible assumption
    | with_reducible refine Upd.foldl ?_ (fun _ _ _ => ?_)
    | (with_reducible apply Upd.via; with_reducible apply State.wr_upd; decide))

theorem execColRead_upd {x0 s} : UpdO 1048584 s (execColRead x0 s) := by
  unfold execColRead
  repeat' (first
    | with_reducible exact Upd.refl
    | with_reducible assumption
    | (intro u; clear_value u)
    | lift_lets
    | (with_reducible apply Upd.via; with_reducible apply State.setColWin_upd; decide)
    | with_reducible refine State.colCmd_upd ?_ (by decide) (fun _ _ => ?_)
    | with_reducible refine Upd1.mk' ?_
    | with_reducible refine UpdO.mk' ?_
    | split)

theorem execColAppend_upd {x0 x1 s} : UpdO 1306216 s (execColAppend x0 x1 s) := by
  unfold execColAppend
  repeat' (first
    | with_reducible exact Upd.refl
    | with_reducible assumption
    | (with_reducible apply Upd.via; with_reducible apply State.collarAppend_upd; decide)
    | with_reducible refine State.colCmd_upd ?_ (by decide) (fun _ _ => ?_)
    | with_reducible refine Upd1.mk' ?_
    | with_reducible refine UpdO.mk' ?_)

theorem execSetPw_upd {x0 x1 s} : UpdO 1306216 s (execSetPw x0 x1 s) := by
  unfold execSetPw
  repeat' (first
    | with_reducible exact Upd.refl
    | with_reducible assumption
    | (with_reducible apply Upd.via; with_reducible apply State.setPassword_upd; decide)
    | with_reducible refine State.colCmd_upd ?_ (by decide) (fun _ _ => ?_)
    | with_reducible refine Upd1.mk' ?_
    | with_reducible refine UpdO.mk' ?_
    | split)

theorem execUnblock_upd {x0 x1 s} : UpdO 1048584 s (execUnblock x0 x1 s) := by
  unfold execUnblock
  repeat' (first
    | with_reducible exact Upd.refl
    | with_reducible assumption
    | (with_reducible apply Upd.via; with_reducible apply State.putSecurity_upd; decide)
    | with_reducible refine State.colCmd_upd ?_ (by decide) (fun _ _ => ?_)
    | with_reducible refine Upd1.mk' ?_
    | with_reducible refine UpdO.mk' ?_
    | split)

theorem execSetPolicy_upd {x0 s} : UpdO 1048584 s (execSetPolicy x0 s) := by
  unfold execSetPolicy
  repeat' (first
    | with_reducible exact Upd.refl
    | with_reducible assumption
    | (with_reducible apply Upd.via; with_reducible apply State.putSecurity_upd; decide)
    | with_reducible refine State.colCmd_upd ?_ (by decide) (fun _ _ => ?_)
    | with_reducible refine Upd1.mk' ?_
    | with_reducible refine UpdO.mk' ?_)

end Sys2Proof.Machine
end

