-- ==== Sys2Proof/Laws/UpdCollect.lean ====
section
/-! SUPPORT. What each operation of Machine/Collect.lean touches and keeps. -/

namespace Sys2Proof.Machine

theorem execFaultDetection_upd {x0 x1 x2 s} : UpdO 537132776 s (execFaultDetection x0 x1 x2 s) := by
  unfold execFaultDetection
  repeat' (first
    | with_reducible exact Upd.refl
    | (with_reducible apply Upd.via; with_reducible apply State.raise_upd; decide)
    | (with_reducible apply Upd.via; with_reducible apply State.nestedError_upd; decide)
    | (with_reducible apply Upd.via; with_reducible apply State.channelFailed_upd; decide)
    | with_reducible refine UpdO.mk' ?_
    | split)

theorem execConsequenceWindowClose_upd {x0 x1 s} : UpdO 2148007972 s (execConsequenceWindowClose x0 x1 s) := by
  unfold execConsequenceWindowClose
  repeat' (first
    | with_reducible exact Upd.refl
    | with_reducible assumption
    | (intro u; refine Upd.cut 2148007972 s u ?_ (fun _ => ?_); subst u; rotate_left; clear_value u; rotate_right)
    | lift_lets
    | (with_reducible apply Upd.via; with_reducible apply State.updCollector_upd; decide)
    | (with_reducible apply Upd.via; with_reducible apply State.advanceTo_upd; decide)
    | with_reducible refine UpdO.mk' ?_
    | split)

theorem execFaultNPulseEnd_upd {s} : UpdO 2148007980 s (execFaultNPulseEnd s) := by
  unfold execFaultNPulseEnd
  repeat' (first
    | with_reducible exact Upd.refl
    | with_reducible assumption
    | (intro u; refine Upd.cut 2148007980 s u ?_ (fun _ => ?_); subst u; rotate_left; clear_value u; rotate_right)
    | lift_lets
    | (with_reducible apply Upd.via; with_reducible apply State.flag_upd; decide)
    | (with_reducible apply Upd.via; with_reducible apply State.updCollector_upd; decide)
    | (with_reducible apply Upd.via; with_reducible apply State.advanceTo_upd; decide)
    | with_reducible refine UpdO.mk' ?_
    | split)

theorem execFcuHoldWrite_upd {x0 s} : UpdO 8 s (execFcuHoldWrite x0 s) := by
  unfold execFcuHoldWrite
  repeat' (first
    | with_reducible exact Upd.refl
    | with_reducible assumption
    | (intro u; refine Upd.cut 8 s u ?_ (fun _ => ?_); subst u; rotate_left; clear_value u; rotate_right)
    | lift_lets
    | (with_reducible apply Upd.via; with_reducible apply State.flag_upd; decide)
    | with_reducible refine UpdO.mk' ?_)

theorem State.fcuInject_upd {s} : Upd 537132776 s (State.fcuInject s) := by
  unfold State.fcuInject
  repeat' (first
    | with_reducible exact Upd.refl
    | (intro u; clear_value u)
    | lift_lets
    | (with_reducible apply Upd.via; with_reducible apply State.detect_upd; decide)
    | (with_reducible apply Upd.via; with_reducible apply State.wr_upd; decide)
    | (with_reducible apply Upd.via; with_reducible apply State.updCollector_upd; decide)
    | (with_reducible apply Upd.via; with_reducible apply State.afterLoss_upd; decide)
    | split)

theorem State.injFields_upd {s x1 x2 x3 x4 x5} : Upd 8 s (State.injFields s x1 x2 x3 x4 x5) := by
  unfold State.injFields
  repeat' (first
    | with_reducible exact Upd.refl
    | (with_reducible apply Upd.via; with_reducible apply State.wr_upd; decide)
    | (with_reducible apply Upd.via; with_reducible apply State.flag_upd; decide)
    | split)

theorem execFcuInjPseudo_upd {x0 x1 x2 s} : UpdO 537132776 s (execFcuInjPseudo x0 x1 x2 s) := by
  unfold execFcuInjPseudo
  repeat' (first
    | with_reducible exact Upd.refl
    | (with_reducible apply Upd.via; with_reducible apply State.fcuInject_upd; decide)
    | (with_reducible apply Upd.via; with_reducible apply State.injFields_upd; decide)
    | with_reducible refine UpdO.mk' ?_)

theorem execFcuInjCheck_upd {x0 x1 x2 s} : UpdO 537132776 s (execFcuInjCheck x0 x1 x2 s) := by
  unfold execFcuInjCheck
  repeat' (first
    | with_reducible exact Upd.refl
    | (with_reducible apply Upd.via; with_reducible apply State.fcuInject_upd; decide)
    | (with_reducible apply Upd.via; with_reducible apply State.injFields_upd; decide)
    | with_reducible refine UpdO.mk' ?_)

theorem State.readRecord_upd {s x1} : Upd 257640 s (State.readRecord s x1) := by
  unfold State.readRecord
  repeat' (first
    | with_reducible exact Upd.refl
    | with_reducible assumption
    | (intro u; refine Upd.cut 257640 s u ?_ (fun _ => ?_); subst u; rotate_left; clear_value u; rotate_right)
    | lift_lets
    | (with_reducible apply Upd.via; with_reducible apply State.detect_upd; decide)
    | (with_reducible apply Upd.via; with_reducible apply State.nestedError_upd; decide)
    | (with_reducible apply Upd.via; with_reducible apply State.bump_upd; decide)
    | (with_reducible apply Upd.via; with_reducible apply State.updCollector_upd; decide)
    | split)

theorem State.clearRecord_upd {s x1} : Upd 32 s (State.clearRecord s x1) := by
  unfold State.clearRecord
  repeat' (first
    | with_reducible exact Upd.refl
    | (with_reducible apply Upd.via; with_reducible apply State.updRec_upd; decide)
    | split)

theorem execFcuClr_upd {x0 s} : UpdO 32 s (execFcuClr x0 s) := by
  unfold execFcuClr
  repeat' (first
    | with_reducible exact Upd.refl
    | (with_reducible apply Upd.via; with_reducible apply State.clearRecord_upd; decide)
    | with_reducible refine UpdO.mk' ?_)

theorem State.setSourceCfg_upd {s x1 x2 x3 x4} : Upd 32 s (State.setSourceCfg s x1 x2 x3 x4) := by
  unfold State.setSourceCfg
  repeat' (first
    | with_reducible exact Upd.refl
    | with_reducible assumption
    | (intro u; refine Upd.cut 32 s u ?_ (fun _ => ?_); subst u; rotate_left; clear_value u; rotate_right)
    | lift_lets
    | (with_reducible apply Upd.via; with_reducible apply State.updRec_upd; decide)
    | (with_reducible apply Upd.via; with_reducible apply State.updCollector_upd; decide)
    | split)

theorem execFcuSrcCfgWrite_upd {x0 x1 x2 x3 s} : UpdO 32 s (execFcuSrcCfgWrite x0 x1 x2 x3 s) := by
  unfold execFcuSrcCfgWrite
  repeat' (first
    | with_reducible exact Upd.refl
    | (with_reducible apply Upd.via; with_reducible apply State.setSourceCfg_upd; decide)
    | with_reducible refine UpdO.mk' ?_
    | split)

end Sys2Proof.Machine
end

