-- ==== Sys2Proof/Laws/UpdKennel.lean ====
section
/-! SUPPORT. What each operation of Machine/Kennel.lean touches and keeps. -/

namespace Sys2Proof.Machine

theorem State.endCustody_upd {s x1} : Upd 604241640 s (State.endCustody s x1) := by
  unfold State.endCustody
  repeat' (first
    | with_reducible exact Upd.refl
    | with_reducible assumption
    | (intro u; refine Upd.cut 604241640 s u ?_ (fun _ => ?_); subst u; rotate_left; clear_value u; rotate_right)
    | lift_lets
    | (with_reducible apply Upd.via; with_reducible apply State.clearSlots_upd; decide)
    | (with_reducible apply Upd.via; with_reducible apply State.updSmilia_upd; decide)
    | (with_reducible apply Upd.via; with_reducible apply State.trailRec_upd; decide)
    | (with_reducible apply Upd.via; with_reducible apply State.updKeys_upd; decide)
    | split)

theorem State.vaultGone_upd {s} : Upd 604241640 s (State.vaultGone s) := by
  unfold State.vaultGone
  repeat' (first
    | with_reducible exact Upd.refl
    | (with_reducible apply Upd.via; with_reducible apply State.endCustody_upd; decide)
    | (with_reducible apply Upd.via; with_reducible apply State.clearSlots_upd; decide))

theorem State.zeroize_upd {s} : Upd 604241640 s (State.zeroize s) := by
  unfold State.zeroize
  repeat' (first
    | with_reducible exact Upd.refl
    | with_reducible assumption
    | (intro u; refine Upd.cut 604241640 s u ?_ (fun _ => ?_); subst u; rotate_left; clear_value u; rotate_right)
    | lift_lets
    | (with_reducible apply Upd.via; with_reducible apply State.vaultGone_upd; decide)
    | (with_reducible apply Upd.via; with_reducible apply State.flag_upd; decide)
    | (with_reducible apply Upd.via; with_reducible apply State.updKeys_upd; decide)
    | split)

theorem State.kennelQueue_upd {s x1} : Upd 524296 s (State.kennelQueue s x1) := by
  unfold State.kennelQueue
  repeat' (first
    | with_reducible exact Upd.refl
    | (intro u; clear_value u)
    | lift_lets
    | (with_reducible apply Upd.via; with_reducible apply State.bump_upd; decide)
    | (with_reducible apply Upd.via; with_reducible apply State.updKennel_upd; decide)
    | split)

theorem State.kennelEvent_upd {s x1 x2} : Upd 604765928 s (State.kennelEvent s x1 x2) := by
  unfold State.kennelEvent
  repeat' (first
    | with_reducible exact Upd.refl
    | with_reducible assumption
    | (intro u; refine Upd.cut 604765928 s u ?_ (fun _ => ?_); subst u; rotate_left; clear_value u; rotate_right)
    | (intro u; clear_value u)
    | lift_lets
    | (with_reducible apply Upd.via; with_reducible apply State.raise_upd; decide)
    | (with_reducible apply Upd.via; with_reducible apply State.zeroize_upd; decide)
    | (with_reducible apply Upd.via; with_reducible apply State.kennelQueue_upd; decide)
    | (with_reducible apply Upd.via; with_reducible apply State.clearSlots_upd; decide)
    | (with_reducible apply Upd.via; with_reducible apply State.addTo_upd; decide)
    | (with_reducible apply Upd.via; with_reducible apply State.flag_upd; decide)
    | (with_reducible apply Upd.via; with_reducible apply State.interrupt_upd; decide)
    | split)

theorem State.monitor_upd {s x1 x2} : Upd 604765928 s (State.monitor s x1 x2) := by
  unfold State.monitor
  repeat' (first
    | with_reducible exact Upd.refl
    | with_reducible assumption
    | (intro u; refine Upd.cut 604765928 s u ?_ (fun _ => ?_); subst u; rotate_left; clear_value u; rotate_right)
    | (intro u; clear_value u)
    | lift_lets
    | split
    | (with_reducible apply Upd.via; with_reducible apply State.kennelEvent_upd; decide)
    | (with_reducible apply Upd.via; with_reducible apply State.wr_upd; decide)
    | (with_reducible apply Upd.via; with_reducible apply State.flag_upd; decide))

theorem execVddIo33Loss_upd {x0 s} : UpdO 604765928 s (execVddIo33Loss x0 s) := by
  unfold execVddIo33Loss
  repeat' (first
    | with_reducible exact Upd.refl
    | (with_reducible apply Upd.via; with_reducible apply State.kennelEvent_upd; decide)
    | (with_reducible apply Upd.via; with_reducible apply State.wr_upd; decide)
    | with_reducible refine UpdO.mk' ?_
    | split)

theorem execVddIo33Return_upd {s} : UpdO 8 s (execVddIo33Return s) := by
  unfold execVddIo33Return
  repeat' (first
    | with_reducible exact Upd.refl
    | (with_reducible apply Upd.via; with_reducible apply State.wr_upd; decide)
    | with_reducible refine UpdO.mk' ?_
    | split)

theorem State.kennelDies_upd {s} : Upd 557056 s (State.kennelDies s) := by
  unfold State.kennelDies
  repeat' (first
    | with_reducible exact Upd.refl
    | with_reducible assumption
    | (intro u; refine Upd.cut 557056 s u ?_ (fun _ => ?_); subst u; rotate_left; clear_value u; rotate_right)
    | lift_lets
    | (with_reducible apply Upd.via; with_reducible apply State.updKennel_upd; decide)
    | (with_reducible apply Upd.via; with_reducible apply State.updKeys_upd; decide))

theorem execCellRemoved_upd {x0 s} : UpdO 604765928 s (execCellRemoved x0 s) := by
  unfold execCellRemoved
  repeat' (first
    | with_reducible exact Upd.refl
    | with_reducible assumption
    | (intro u; refine Upd.cut 604765928 s u ?_ (fun _ => ?_); subst u; rotate_left; clear_value u; rotate_right)
    | lift_lets
    | (with_reducible apply Upd.via; with_reducible apply State.monitor_upd; decide)
    | (with_reducible apply Upd.via; with_reducible apply State.kennelDies_upd; decide)
    | (with_reducible apply Upd.via; with_reducible apply State.wr_upd; decide)
    | with_reducible refine UpdO.mk' ?_
    | split)

theorem execCellEnd_upd {x0 s} : UpdO 604765928 s (execCellEnd x0 s) := by
  unfold execCellEnd
  repeat' (first
    | with_reducible exact Upd.refl
    | (with_reducible apply Upd.via; with_reducible apply State.monitor_upd; decide)
    | (with_reducible apply Upd.via; with_reducible apply State.wr_upd; decide)
    | with_reducible refine UpdO.mk' ?_
    | split)

theorem execCellLow_upd {x0 s} : UpdO 604765928 s (execCellLow x0 s) := by
  unfold execCellLow
  repeat' (first
    | with_reducible exact Upd.refl
    | with_reducible assumption
    | (intro u; refine Upd.cut 604765928 s u ?_ (fun _ => ?_); subst u; rotate_left; clear_value u; rotate_right)
    | lift_lets
    | (with_reducible apply Upd.via; with_reducible apply State.raise_upd; decide)
    | (with_reducible apply Upd.via; with_reducible apply State.monitor_upd; decide)
    | (with_reducible apply Upd.via; with_reducible apply State.wr_upd; decide)
    | (with_reducible apply Upd.via; with_reducible apply State.updKennel_upd; decide)
    | with_reducible refine UpdO.mk' ?_
    | split)

theorem execCellInserted_upd {x0 s} : UpdO 604765928 s (execCellInserted x0 s) := by
  unfold execCellInserted
  repeat' (first
    | with_reducible exact Upd.refl
    | (with_reducible apply Upd.via; with_reducible apply State.monitor_upd; decide)
    | (with_reducible apply Upd.via; with_reducible apply State.wr_upd; decide)
    | with_reducible refine UpdO.mk' ?_
    | split)

theorem execKennelDead_upd {s} : UpdO 557056 s (execKennelDead s) := by
  unfold execKennelDead
  repeat' (first
    | with_reducible exact Upd.refl
    | (with_reducible apply Upd.via; with_reducible apply State.kennelDies_upd; decide)
    | with_reducible refine UpdO.mk' ?_
    | split)

theorem State.kennelDefaults_upd {s} : Upd 8 s (State.kennelDefaults s) := Upd.refl.put_regs (by decide) rising_tkeep

theorem execTempLow_upd {x0 s} : UpdO 604765928 s (execTempLow x0 s) := by
  unfold execTempLow
  repeat' (first
    | with_reducible exact Upd.refl
    | (with_reducible apply Upd.via; with_reducible apply State.monitor_upd; decide)
    | with_reducible refine UpdO.mk' ?_
    | split)

theorem execTempHigh_upd {x0 s} : UpdO 604765928 s (execTempHigh x0 s) := by
  unfold execTempHigh
  repeat' (first
    | with_reducible exact Upd.refl
    | (with_reducible apply Upd.via; with_reducible apply State.monitor_upd; decide)
    | with_reducible refine UpdO.mk' ?_
    | split)

theorem execVolt_upd {x0 s} : UpdO 604765928 s (execVolt x0 s) := by
  unfold execVolt
  repeat' (first
    | with_reducible exact Upd.refl
    | (with_reducible apply Upd.via; with_reducible apply State.monitor_upd; decide)
    | with_reducible refine UpdO.mk' ?_)

theorem execGlitch_upd {x0 s} : UpdO 604765928 s (execGlitch x0 s) := by
  unfold execGlitch
  repeat' (first
    | with_reducible exact Upd.refl
    | (with_reducible apply Upd.via; with_reducible apply State.monitor_upd; decide)
    | with_reducible refine UpdO.mk' ?_)

theorem execClock_upd {x0 x1 s} : UpdO 604765928 s (execClock x0 x1 s) := by
  unfold execClock
  repeat' (first
    | with_reducible exact Upd.refl
    | (with_reducible apply Upd.via; with_reducible apply State.monitor_upd; decide)
    | (with_reducible apply Upd.via; with_reducible apply State.flag_upd; decide)
    | with_reducible refine UpdO.mk' ?_
    | split)

theorem execMesh_upd {x0 s} : UpdO 604765928 s (execMesh x0 s) := by
  unfold execMesh
  repeat' (first
    | with_reducible exact Upd.refl
    | (with_reducible apply Upd.via; with_reducible apply State.monitor_upd; decide)
    | with_reducible refine UpdO.mk' ?_)

theorem execLid_upd {x0 s} : UpdO 604765928 s (execLid x0 s) := by
  unfold execLid
  repeat' (first
    | with_reducible exact Upd.refl
    | (with_reducible apply Upd.via; with_reducible apply State.monitor_upd; decide)
    | with_reducible refine UpdO.mk' ?_)

theorem execLoop0_upd {x0 s} : UpdO 604765928 s (execLoop0 x0 s) := by
  unfold execLoop0
  repeat' (first
    | with_reducible exact Upd.refl
    | (with_reducible apply Upd.via; with_reducible apply State.monitor_upd; decide)
    | with_reducible refine UpdO.mk' ?_)

theorem execLoop1_upd {x0 s} : UpdO 604765928 s (execLoop1 x0 s) := by
  unfold execLoop1
  repeat' (first
    | with_reducible exact Upd.refl
    | (with_reducible apply Upd.via; with_reducible apply State.monitor_upd; decide)
    | with_reducible refine UpdO.mk' ?_)

theorem execMonitorRearm_upd {x0 s} : UpdO 8 s (execMonitorRearm x0 s) := by
  unfold execMonitorRearm
  repeat' (first
    | with_reducible exact Upd.refl
    | with_reducible assumption
    | (intro u; refine Upd.cut 8 s u ?_ (fun _ => ?_); subst u; rotate_left; clear_value u; rotate_right)
    | lift_lets
    | (with_reducible apply Upd.via; with_reducible apply State.flag_upd; decide)
    | with_reducible refine UpdO.mk' ?_
    | split)

theorem State.usePress_upd {s} : Upd 4194304 s (State.usePress s) := by
  unfold State.usePress
  repeat' (first
    | with_reducible exact Upd.refl
    | (with_reducible apply Upd.via; with_reducible apply State.updPanel_upd; decide))

theorem State.kennelRelease_upd {m t s x1} (h : Upd m t s) (hm : Nat.land 4194312 m = 4194312) (hb : ∀ u, Upd m t u → Upd m t (x1 u)) :
    Upd m t (State.kennelRelease s x1) := by
  unfold State.kennelRelease
  repeat' (first
    | with_reducible assumption
    | with_reducible refine hb _ ?_
    | split
    | (with_reducible apply Upd.via; with_reducible apply State.usePress_upd; exact landTrans (by decide) hm)
    | (with_reducible apply Upd.via; with_reducible apply State.wr_upd; exact landTrans (by decide) hm))

theorem State.unlock_upd {s} : Upd 541589224 s (State.unlock s) := by
  unfold State.unlock
  repeat' (first
    | with_reducible exact Upd.refl
    | with_reducible assumption
    | (intro u; refine Upd.cut 541589224 s u ?_ (fun _ => ?_); subst u; rotate_left; clear_value u; rotate_right)
    | lift_lets
    | (with_reducible apply Upd.via; with_reducible apply State.loadKeys_upd; decide)
    | (with_reducible apply Upd.via; with_reducible apply State.flag_upd; decide)
    | with_reducible refine State.kennelRelease_upd ?_ (by decide) (fun _ _ => ?_)
    | split)

theorem State.clearLatch_upd {s} : Upd 4194312 s (State.clearLatch s) := by
  unfold State.clearLatch
  repeat' (first
    | with_reducible exact Upd.refl
    | with_reducible assumption
    | (with_reducible apply Upd.via; with_reducible apply State.flag_upd; decide)
    | with_reducible refine State.kennelRelease_upd ?_ (by decide) (fun _ _ => ?_))

theorem execUnlock_upd {x0 s} : UpdO 541589224 s (execUnlock x0 s) := by
  unfold execUnlock
  repeat' (first
    | with_reducible exact Upd.refl
    | (with_reducible apply Upd.via; with_reducible apply State.unlock_upd; decide)
    | with_reducible refine UpdO.mk' ?_
    | split)

theorem execClrLatch_upd {x0 s} : UpdO 4194312 s (execClrLatch x0 s) := by
  unfold execClrLatch
  repeat' (first
    | with_reducible exact Upd.refl
    | (with_reducible apply Upd.via; with_reducible apply State.clearLatch_upd; decide)
    | with_reducible refine UpdO.mk' ?_
    | split)

theorem execClrPor_upd {x0 s} : UpdO 8 s (execClrPor x0 s) := by
  unfold execClrPor
  repeat' (first
    | with_reducible exact Upd.refl
    | (with_reducible apply Upd.via; with_reducible apply State.flag_upd; decide)
    | with_reducible refine UpdO.mk' ?_
    | split)

theorem execEvqPop_upd {x0 s} : UpdO 524296 s (execEvqPop x0 s) := by
  unfold execEvqPop
  repeat' (first
    | with_reducible exact Upd.refl
    | with_reducible assumption
    | (intro u; refine Upd.cut 524296 s u ?_ (fun _ => ?_); subst u; rotate_left; clear_value u; rotate_right)
    | (intro u; clear_value u)
    | lift_lets
    | (with_reducible apply Upd.via; with_reducible apply State.wr_upd; decide)
    | (with_reducible apply Upd.via; with_reducible apply State.updKennel_upd; decide)
    | with_reducible refine UpdO.mk' ?_
    | split)

theorem execKnlRtcSet_upd {x0 x1 s} : UpdO 524300 s (execKnlRtcSet x0 x1 s) := by
  unfold execKnlRtcSet
  repeat' (first
    | with_reducible exact Upd.refl
    | with_reducible assumption
    | (intro u; refine Upd.cut 524300 s u ?_ (fun _ => ?_); subst u; rotate_left; clear_value u; rotate_right)
    | (intro u; clear_value u)
    | lift_lets
    | (with_reducible apply Upd.via; with_reducible apply State.wr_upd; decide)
    | (with_reducible apply Upd.via; with_reducible apply State.flag_upd; decide)
    | (with_reducible apply Upd.via; with_reducible apply State.updKennel_upd; decide)
    | (with_reducible apply Upd.via; with_reducible apply State.setRtc_upd; decide)
    | with_reducible refine UpdO.mk' ?_
    | split)

theorem execKnlTempWrite_upd {x0 x1 x2 s} : UpdO 8 s (execKnlTempWrite x0 x1 x2 s) := by
  unfold execKnlTempWrite
  repeat' (first
    | with_reducible exact Upd.refl
    | (with_reducible apply Upd.via; with_reducible apply State.wr_upd; decide)
    | (with_reducible apply Upd.via; with_reducible apply State.flag_upd; decide)
    | with_reducible refine UpdO.mk' ?_
    | split)

theorem State.setMonitor_upd {s x1 x2 x3} : Upd 8 s (State.setMonitor s x1 x2 x3) := by
  unfold State.setMonitor
  repeat' (first
    | with_reducible exact Upd.refl
    | (with_reducible apply Upd.via; with_reducible apply State.wr_upd; decide)
    | (with_reducible apply Upd.via; with_reducible apply State.flag_upd; decide)
    | split)

theorem execKnlMonWrite_upd {x0 x1 x2 x3 s} : UpdO 8 s (execKnlMonWrite x0 x1 x2 x3 s) := by
  unfold execKnlMonWrite
  repeat' (first
    | with_reducible exact Upd.refl
    | (with_reducible apply Upd.via; with_reducible apply State.setMonitor_upd; decide)
    | with_reducible refine UpdO.mk' ?_
    | split)

theorem execKnlTrimWrite_upd {x0 x1 s} : UpdO 8 s (execKnlTrimWrite x0 x1 s) := by
  unfold execKnlTrimWrite
  repeat' (first
    | with_reducible exact Upd.refl
    | (with_reducible apply Upd.via; with_reducible apply State.wr_upd; decide)
    | with_reducible refine UpdO.mk' ?_
    | split)

theorem execKennelCollarWrite_upd {x0 x1 s} : UpdO 1830504 s (execKennelCollarWrite x0 x1 s) := by
  unfold execKennelCollarWrite
  repeat' (first
    | with_reducible exact Upd.refl
    | (with_reducible apply Upd.via; with_reducible apply State.collarAppend_upd; decide)
    | (with_reducible apply Upd.via; with_reducible apply State.updKennel_upd; decide)
    | with_reducible refine UpdO.mk' ?_
    | split)

theorem execSensorLogInterval_upd {x0 x1 x2 s} : UpdO 2149314156 s (execSensorLogInterval x0 x1 x2 s) := by
  unfold execSensorLogInterval
  repeat' (first
    | with_reducible exact Upd.refl
    | with_reducible assumption
    | (intro u; refine Upd.cut 2149314156 s u ?_ (fun _ => ?_); subst u; rotate_left; clear_value u; rotate_right)
    | (intro u; clear_value u)
    | lift_lets
    | (with_reducible apply Upd.via; with_reducible apply State.collarAppend_upd; decide)
    | (with_reducible apply Upd.via; with_reducible apply State.updKennel_upd; decide)
    | (with_reducible apply Upd.via; with_reducible apply State.advanceTo_upd; decide)
    | with_reducible refine UpdO.mk' ?_
    | split)

theorem execHoldupOk_upd {s} : UpdO 8 s (execHoldupOk s) := by
  unfold execHoldupOk
  repeat' (first
    | with_reducible exact Upd.refl
    | (with_reducible apply Upd.via; with_reducible apply State.flag_upd; decide)
    | with_reducible refine UpdO.mk' ?_
    | split)

end Sys2Proof.Machine
end

