-- ==== Sys2Proof/Laws/UpdShepherd.lean ====
section
/-! SUPPORT. What each operation of Machine/Shepherd.lean touches and keeps. -/

namespace Sys2Proof.Machine

theorem State.toWindow_upd {s x1} : Upd 8 s (State.toWindow s x1) := by
  unfold State.toWindow
  repeat' (first
    | with_reducible exact Upd.refl
    | with_reducible assumption
    | with_reducible refine Upd.foldl ?_ (fun _ _ _ => ?_)
    | (with_reducible apply Upd.via; with_reducible apply State.wr_upd; decide))

theorem State.tableCmd_upd {s x1 x2} : Upd 8 s (State.tableCmd s x1 x2) := by
  unfold State.tableCmd
  repeat' (first
    | with_reducible exact Upd.refl
    | (with_reducible apply Upd.via; with_reducible apply State.wr_upd; decide))

theorem execReadMedia_upd {x0 s} : UpdO 8 s (execReadMedia x0 s) := by
  unfold execReadMedia
  repeat' (first
    | with_reducible exact Upd.refl
    | (intro u; clear_value u)
    | lift_lets
    | (with_reducible apply Upd.via; with_reducible apply State.toWindow_upd; decide)
    | (with_reducible apply Upd.via; with_reducible apply State.tableCmd_upd; decide)
    | with_reducible refine UpdO.mk' ?_
    | split)

theorem execReadShelf_upd {x0 s} : UpdO 8 s (execReadShelf x0 s) := by
  unfold execReadShelf
  repeat' (first
    | with_reducible exact Upd.refl
    | (intro u; clear_value u)
    | lift_lets
    | (with_reducible apply Upd.via; with_reducible apply State.toWindow_upd; decide)
    | (with_reducible apply Upd.via; with_reducible apply State.tableCmd_upd; decide)
    | with_reducible refine UpdO.mk' ?_
    | split)

theorem State.applyMedia_upd {s x1 x2 x3} : Upd 537132776 s (State.applyMedia s x1 x2 x3) := by
  unfold State.applyMedia
  repeat' (first
    | with_reducible exact Upd.refl
    | with_reducible assumption
    | (intro u; refine Upd.cut 537132776 s u ?_ (fun _ => ?_); subst u; rotate_left; clear_value u; rotate_right)
    | (intro u; clear_value u)
    | lift_lets
    | split
    | (with_reducible apply Upd.via; with_reducible apply State.setMedia_upd; decide)
    | (with_reducible apply Upd.via; with_reducible apply State.leaveMedium_upd; decide)
    | (with_reducible apply Upd.via; with_reducible apply State.failMedium_upd; decide)
    | (with_reducible apply Upd.via; with_reducible apply State.updShepherd_upd; decide))

theorem execWriteMedia_upd {x0 x1 x2 s} : UpdO 537132776 s (execWriteMedia x0 x1 x2 s) := by
  unfold execWriteMedia
  repeat' (first
    | with_reducible exact Upd.refl
    | (intro u; clear_value u)
    | lift_lets
    | split
    | (with_reducible apply Upd.via; with_reducible apply State.addTo_upd; decide)
    | (with_reducible apply Upd.via; with_reducible apply State.tableCmd_upd; decide)
    | (with_reducible apply Upd.via; with_reducible apply State.applyMedia_upd; decide)
    | with_reducible refine UpdO.mk' ?_)

theorem State.applyShelf_upd {s x1 x2} : Upd 4096 s (State.applyShelf s x1 x2) := by
  unfold State.applyShelf
  repeat' (first
    | with_reducible exact Upd.refl
    | (intro u; clear_value u)
    | lift_lets
    | (with_reducible apply Upd.via; with_reducible apply State.setShelf_upd; decide)
    | (with_reducible apply Upd.via; with_reducible apply State.updShepherd_upd; decide))

theorem execWriteShelf_upd {x0 x1 s} : UpdO 4104 s (execWriteShelf x0 x1 s) := by
  unfold execWriteShelf
  repeat' (first
    | with_reducible exact Upd.refl
    | (intro u; clear_value u)
    | lift_lets
    | (with_reducible apply Upd.via; with_reducible apply State.addTo_upd; decide)
    | (with_reducible apply Upd.via; with_reducible apply State.tableCmd_upd; decide)
    | (with_reducible apply Upd.via; with_reducible apply State.applyShelf_upd; decide)
    | with_reducible refine UpdO.mk' ?_
    | split)

theorem State.giveCore_upd {s x1 x2} : Upd 75272 s (State.giveCore s x1 x2) := by
  unfold State.giveCore
  repeat' (first
    | with_reducible exact Upd.refl
    | (intro u; clear_value u)
    | lift_lets
    | (with_reducible apply Upd.via; with_reducible apply State.updFrag_upd; decide)
    | (with_reducible apply Upd.via; with_reducible apply State.settleCore_upd; decide)
    | split)

theorem State.giveCores_upd {s} : Upd 75272 s (State.giveCores s) := by
  unfold State.giveCores
  repeat' (first
    | with_reducible exact Upd.refl
    | with_reducible assumption
    | with_reducible refine Upd.foldl ?_ (fun _ _ _ => ?_)
    | (with_reducible apply Upd.via; with_reducible apply State.giveCore_upd; decide))

theorem State.allocStripe_upd {s x1 x2 x3 x4 x5 x6} : UpdOpt 512 s (State.allocStripe s x1 x2 x3 x4 x5 x6) := by
  fun_induction State.allocStripe s x1 x2 x3 x4 x5 x6
  all_goals repeat' (first
    | with_reducible exact Upd.refl
    | lift_lets
    | exact UpdOpt.none
    | with_reducible refine UpdOpt.mk' ?_
    | (with_reducible apply Upd.via; with_reducible apply State.setExtent_upd; decide)
    | with_reducible refine UpdOpt.via (by assumption) (by decide) ?_)

theorem State.assignTargets_upd {s x1 x2 x3} : Upd 4608 s (State.assignTargets s x1 x2 x3) := by
  unfold State.assignTargets
  repeat' (first
    | with_reducible exact Upd.refl
    | with_reducible assumption
    | (intro u; refine Upd.cut 4608 s u ?_ (fun _ => ?_); subst u; rotate_left; clear_value u; rotate_right)
    | lift_lets
    | with_reducible refine Upd.foldl ?_ (fun _ _ _ => ?_)
    | (with_reducible apply Upd.via; with_reducible apply State.addAlloc_upd; decide)
    | (with_reducible apply Upd.via; with_reducible apply State.subAlloc_upd; decide)
    | (with_reducible apply Upd.via; with_reducible apply State.subPending_upd; decide)
    | (with_reducible apply Upd.via; with_reducible apply State.updFrag_upd; decide)
    | split)

theorem State.holdPlacement_upd {s x1 x2} : Upd 261736 s (State.holdPlacement s x1 x2) := by
  unfold State.holdPlacement
  repeat' (first
    | with_reducible exact Upd.refl
    | with_reducible assumption
    | (intro u; refine Upd.cut 261736 s u ?_ (fun _ => ?_); subst u; rotate_left; clear_value u; rotate_right)
    | lift_lets
    | (with_reducible apply Upd.via; with_reducible apply State.raise_upd; decide)
    | (with_reducible apply Upd.via; with_reducible apply State.updShepherd_upd; decide)
    | (with_reducible apply Upd.via; with_reducible apply State.setExtent_upd; decide)
    | split)

theorem State.takeIn_upd {s x1 x2} : Upd 261864 s (State.takeIn s x1 x2) := by
  unfold State.takeIn
  repeat' (first
    | with_reducible exact Upd.refl
    | with_reducible assumption
    | (intro u; refine Upd.cut 261864 s u ?_ (fun _ => ?_); subst u; rotate_left; clear_value u; rotate_right)
    | (intro u; clear_value u)
    | lift_lets
    | (with_reducible apply Upd.via; with_reducible apply State.noteRelaxed_upd; decide)
    | (with_reducible apply Upd.via; with_reducible apply State.fileExtent_upd; decide)
    | (with_reducible apply Upd.via; with_reducible apply State.giveCores_upd; decide)
    | (with_reducible apply Upd.via; with_reducible apply State.assignTargets_upd; decide)
    | (with_reducible apply Upd.via; with_reducible apply State.holdPlacement_upd; decide)
    | (with_reducible apply Upd.via; with_reducible apply State.updShepherd_upd; decide)
    | (with_reducible apply Upd.via; with_reducible apply State.setExtent_upd; decide)
    | (with_reducible apply UpdOpt.via; with_reducible apply State.allocStripe_upd; decide)
    | split
    | (with_reducible apply Upd.someOf'; with_reducible assumption)
    | dsimp only)

theorem State.admitRates_upd {s x1 x2 x3} : Upd 4096 s (State.admitRates s x1 x2 x3) := by
  unfold State.admitRates
  repeat' (first
    | with_reducible exact Upd.refl
    | (intro u; clear_value u)
    | lift_lets
    | (with_reducible apply Upd.via; with_reducible apply State.updShepherd_upd; decide))

theorem execExtentAdmit_upd {x0 x1 x2 x3 s} : UpdO 261864 s (execExtentAdmit x0 x1 x2 x3 s) := by
  unfold execExtentAdmit
  repeat' (first
    | with_reducible exact Upd.refl
    | (intro u; clear_value u)
    | lift_lets
    | (with_reducible apply Upd.via; with_reducible apply State.takeIn_upd; decide)
    | (with_reducible apply Upd.via; with_reducible apply State.admitRates_upd; decide)
    | (with_reducible apply Upd.via; with_reducible apply State.setExtent_upd; decide)
    | with_reducible refine UpdO.mk' ?_
    | split)

theorem State.fixExtent_upd {s x1 x2} : Upd 537025256 s (State.fixExtent s x1 x2) := by
  unfold State.fixExtent
  repeat' (first
    | with_reducible exact Upd.refl
    | with_reducible assumption
    | (intro u; refine Upd.cut 537025256 s u ?_ (fun _ => ?_); subst u; rotate_left; clear_value u; rotate_right)
    | (intro u; clear_value u)
    | lift_lets
    | with_reducible refine Upd.foldl ?_ (fun _ _ _ => ?_)
    | (with_reducible apply Upd.via; with_reducible apply State.addTo_upd; decide)
    | (with_reducible apply Upd.via; with_reducible apply State.fileExtent_upd; decide)
    | (with_reducible apply Upd.via; with_reducible apply State.writeHeader_upd; decide)
    | (with_reducible apply Upd.via; with_reducible apply State.settleLater_upd; decide)
    | (with_reducible apply Upd.via; with_reducible apply State.pump_upd; decide)
    | (with_reducible apply Upd.via; with_reducible apply State.updShepherd_upd; decide)
    | (with_reducible apply Upd.via; with_reducible apply State.setExtent_upd; decide))

theorem State.fixPlacement_upd {s x1 x2} : Upd 537132776 s (State.fixPlacement s x1 x2) := by
  unfold State.fixPlacement
  repeat' (first
    | with_reducible exact Upd.refl
    | (intro u; clear_value u)
    | lift_lets
    | (with_reducible apply Upd.via; with_reducible apply State.noteRelaxed_upd; decide)
    | (with_reducible apply Upd.via; with_reducible apply State.assignTargets_upd; decide)
    | (with_reducible apply Upd.via; with_reducible apply State.holdPlacement_upd; decide)
    | (with_reducible apply Upd.via; with_reducible apply State.fixExtent_upd; decide)
    | split
    | dsimp only)

theorem execPlacementFix_upd {x0 x1 s} : UpdO 537132776 s (execPlacementFix x0 x1 s) := by
  unfold execPlacementFix
  repeat' (first
    | with_reducible exact Upd.refl
    | (intro u; clear_value u)
    | lift_lets
    | (with_reducible apply Upd.via; with_reducible apply State.fixPlacement_upd; decide)
    | with_reducible refine UpdO.mk' ?_
    | split)

theorem execPlacementRetry_upd {x0 x1 s} : UpdO 537132776 s (execPlacementRetry x0 x1 s) := by
  unfold execPlacementRetry
  repeat' (first
    | with_reducible exact Upd.refl
    | (intro u; clear_value u)
    | lift_lets
    | (with_reducible apply Upd.via; with_reducible apply State.takeIn_upd; decide)
    | (with_reducible apply Upd.via; with_reducible apply State.fixPlacement_upd; decide)
    | with_reducible refine UpdO.mk' ?_
    | split)

theorem State.stopShelf_upd {s x1} : Upd 536891392 s (State.stopShelf s x1) := by
  unfold State.stopShelf
  repeat' (first
    | with_reducible exact Upd.refl
    | (with_reducible apply Upd.via; with_reducible apply State.setPstate_upd; decide)
    | (with_reducible apply Upd.via; with_reducible apply State.sendPower_upd; decide))

theorem execWakeDecision_upd {s} : UpdO 536891392 s (execWakeDecision s) := by
  unfold execWakeDecision
  repeat' (first
    | with_reducible exact Upd.refl
    | with_reducible assumption
    | (intro u; refine Upd.cut 536891392 s u ?_ (fun _ => ?_); subst u; rotate_left; clear_value u; rotate_right)
    | (intro u; clear_value u)
    | lift_lets
    | with_reducible refine Upd.foldl ?_ (fun _ _ _ => ?_)
    | (with_reducible apply Upd.via; with_reducible apply State.wake_upd; decide)
    | (with_reducible apply Upd.via; with_reducible apply State.pumpRepairs_upd; decide)
    | (with_reducible apply Upd.via; with_reducible apply State.stopShelf_upd; decide)
    | (with_reducible apply Upd.via; with_reducible apply State.updShepherd_upd; decide)
    | with_reducible refine UpdO.mk' ?_
    | split)

theorem execWakeTimeout_upd {x0 s} : UpdO 2148269804 s (execWakeTimeout x0 s) := by
  unfold execWakeTimeout
  repeat' (first
    | with_reducible exact Upd.refl
    | (with_reducible apply Upd.via; with_reducible apply State.advanceTo_upd; decide)
    | (with_reducible apply Upd.via; with_reducible apply State.faultShelf_upd; decide)
    | with_reducible refine UpdO.mk' ?_
    | split)

theorem execShelfLost_upd {x0 s} : UpdO 2148269804 s (execShelfLost x0 s) := by
  unfold execShelfLost
  repeat' (first
    | with_reducible exact Upd.refl
    | with_reducible assumption
    | (intro u; refine Upd.cut 2148269804 s u ?_ (fun _ => ?_); subst u; rotate_left; clear_value u; rotate_right)
    | lift_lets
    | (with_reducible apply Upd.via; with_reducible apply State.advanceTo_upd; decide)
    | (with_reducible apply Upd.via; with_reducible apply State.faultShelf_upd; decide)
    | with_reducible refine UpdO.mk' ?_
    | split)

theorem State.saveTables_upd {s} : Upd 4096 s (State.saveTables s) := by
  unfold State.saveTables
  repeat' (first
    | with_reducible exact Upd.refl
    | (with_reducible apply Upd.via; with_reducible apply State.updShepherd_upd; decide))

theorem execShepherdSave_upd {s} : UpdO 2148012036 s (execShepherdSave s) := by
  unfold execShepherdSave
  repeat' (first
    | with_reducible exact Upd.refl
    | (with_reducible apply Upd.via; with_reducible apply State.advanceTo_upd; decide)
    | (with_reducible apply Upd.via; with_reducible apply State.saveTables_upd; decide)
    | with_reducible refine UpdO.mk' ?_)

theorem execFactorRecompute_upd {s} : UpdO 4096 s (execFactorRecompute s) := by
  unfold execFactorRecompute
  repeat' (first
    | with_reducible exact Upd.refl
    | lift_lets
    | (with_reducible apply Upd.via; with_reducible apply State.updShepherd_upd; decide)
    | with_reducible refine UpdO.mk' ?_)

theorem execCoreTestRequest_upd {x0 x1 s} : UpdO 4104 s (execCoreTestRequest x0 x1 s) := by
  unfold execCoreTestRequest
  repeat' (first
    | with_reducible exact Upd.refl
    | (intro u; clear_value u)
    | lift_lets
    | (with_reducible apply Upd.via; with_reducible apply State.wr_upd; decide)
    | (with_reducible apply Upd.via; with_reducible apply State.flag_upd; decide)
    | (with_reducible apply Upd.via; with_reducible apply State.interrupt_upd; decide)
    | (with_reducible apply Upd.via; with_reducible apply State.updShepherd_upd; decide)
    | with_reducible refine UpdO.mk' ?_
    | split)

theorem execShpCoreRel_upd {x0 x1 s} : UpdO 4104 s (execShpCoreRel x0 x1 s) := by
  unfold execShpCoreRel
  repeat' (first
    | with_reducible exact Upd.refl
    | with_reducible assumption
    | (intro u; refine Upd.cut 4104 s u ?_ (fun _ => ?_); subst u; rotate_left; clear_value u; rotate_right)
    | lift_lets
    | (with_reducible apply Upd.via; with_reducible apply State.wr_upd; decide)
    | (with_reducible apply Upd.via; with_reducible apply State.flag_upd; decide)
    | (with_reducible apply Upd.via; with_reducible apply State.updShepherd_upd; decide)
    | (with_reducible apply Upd.via; with_reducible apply State.setOut_upd; decide)
    | with_reducible refine UpdO.mk' ?_
    | split)

theorem execCoreReleaseTimeout_upd {s} : UpdO 2148012044 s (execCoreReleaseTimeout s) := by
  unfold execCoreReleaseTimeout
  repeat' (first
    | with_reducible exact Upd.refl
    | with_reducible assumption
    | (intro u; refine Upd.cut 2148012044 s u ?_ (fun _ => ?_); subst u; rotate_left; clear_value u; rotate_right)
    | lift_lets
    | (with_reducible apply Upd.via; with_reducible apply State.flag_upd; decide)
    | (with_reducible apply Upd.via; with_reducible apply State.advanceTo_upd; decide)
    | (with_reducible apply Upd.via; with_reducible apply State.updShepherd_upd; decide)
    | with_reducible refine UpdO.mk' ?_
    | split)

theorem execSeedCommit_upd {x0 x1 s} : UpdO 8 s (execSeedCommit x0 x1 s) := by
  unfold execSeedCommit
  repeat' (first
    | with_reducible exact Upd.refl
    | (with_reducible apply Upd.via; with_reducible apply State.wr_upd; decide)
    | with_reducible refine UpdO.mk' ?_
    | split)

end Sys2Proof.Machine
end

