-- ==== Sys2Proof/Laws/UpdPack.lean ====
section
/-! SUPPORT. What each operation of Machine/Pack.lean touches and keeps. -/

namespace Sys2Proof.Machine

theorem State.movePools_upd {s} : Upd 8192 s (State.movePools s) := by
  unfold State.movePools
  repeat' (first
    | with_reducible exact Upd.refl
    | with_reducible assumption
    | (intro u; refine Upd.cut 8192 s u ?_ (fun _ => ?_); subst u; rotate_left; clear_value u; rotate_right)
    | (intro u; clear_value u)
    | lift_lets
    | (with_reducible apply Upd.via; with_reducible apply State.updPack_upd; decide)
    | split)

theorem State.formPools_upd {s} : Upd 8192 s (State.formPools s) := by
  unfold State.formPools
  repeat' (first
    | with_reducible exact Upd.refl
    | (intro u; clear_value u)
    | lift_lets
    | (with_reducible apply Upd.via; with_reducible apply State.updPack_upd; decide))

theorem State.balancePools_upd {s} : Upd 75272 s (State.balancePools s) := by
  unfold State.balancePools
  repeat' (first
    | with_reducible exact Upd.refl
    | (with_reducible apply Upd.via; with_reducible apply State.movePools_upd; decide)
    | (with_reducible apply Upd.via; with_reducible apply State.giveCores_upd; decide))

theorem State.joinPool_upd {s x1} : Upd 75272 s (State.joinPool s x1) := by
  unfold State.joinPool
  repeat' (first
    | with_reducible exact Upd.refl
    | (with_reducible apply Upd.via; with_reducible apply State.balancePools_upd; decide)
    | (with_reducible apply Upd.via; with_reducible apply State.updPack_upd; decide))

theorem State.spongeServe_upd {s x1} : Upd 257640 s (State.spongeServe s x1) := by
  unfold State.spongeServe
  repeat' (first
    | with_reducible exact Upd.refl
    | (with_reducible apply Upd.via; with_reducible apply State.joinPool_upd; decide)
    | (with_reducible apply Upd.via; with_reducible apply State.assignGroups_upd; decide)
    | (with_reducible apply Upd.via; with_reducible apply State.setSpg_upd; decide)
    | split)

theorem State.dropSponge_upd {s x1 x2} : Upd 75272 s (State.dropSponge s x1 x2) := by
  unfold State.dropSponge
  repeat' (first
    | with_reducible exact Upd.refl
    | (with_reducible apply Upd.via; with_reducible apply State.balancePools_upd; decide)
    | (with_reducible apply Upd.via; with_reducible apply State.updPack_upd; decide)
    | (with_reducible apply Upd.via; with_reducible apply State.stopSponge_upd; decide))

theorem State.countSponge_upd {s x1} : Upd1 8192 s (State.countSponge s x1) := by
  unfold State.countSponge
  repeat' (first
    | with_reducible exact Upd.refl
    | (intro u; clear_value u)
    | lift_lets
    | (with_reducible apply Upd.via; with_reducible apply State.updPack_upd; decide)
    | with_reducible refine Upd1.mk' ?_)

theorem execPermutationMismatch_upd {x0 x1 s} : UpdO 257640 s (execPermutationMismatch x0 x1 s) := by
  unfold execPermutationMismatch
  repeat' (first
    | with_reducible exact Upd.refl
    | with_reducible assumption
    | (intro u; refine Upd.cut 257640 s u ?_ (fun _ => ?_); subst u; rotate_left; clear_value u; rotate_right)
    | lift_lets
    | split
    | (with_reducible apply Upd.via; with_reducible apply State.raise_upd; decide)
    | (with_reducible apply Upd.via; with_reducible apply State.bump_upd; decide)
    | (with_reducible apply Upd.via; with_reducible apply State.dropSponge_upd; decide)
    | (with_reducible apply Upd.via; with_reducible apply Upd.fst State.countSponge_upd; decide)
    | (with_reducible apply Upd.via; with_reducible apply State.updPack_upd; decide)
    | with_reducible refine UpdO.mk' ?_
    | dsimp only)

theorem execFragmentHashDone_upd {x0 x1 x2 s} : UpdO 75272 s (execFragmentHashDone x0 x1 x2 s) := by
  unfold execFragmentHashDone
  repeat' (first
    | with_reducible exact Upd.refl
    | with_reducible assumption
    | (intro u; refine Upd.cut 75272 s u ?_ (fun _ => ?_); subst u; rotate_left; clear_value u; rotate_right)
    | (intro u; clear_value u)
    | lift_lets
    | (with_reducible apply Upd.via; with_reducible apply State.balancePools_upd; decide)
    | (with_reducible apply Upd.via; with_reducible apply State.updFrag_upd; decide)
    | (with_reducible apply Upd.via; with_reducible apply State.settleCore_upd; decide)
    | with_reducible refine UpdO.mk' ?_
    | split)

theorem execEpochSlotEnd_upd {s} : UpdO 2148527724 s (execEpochSlotEnd s) := by
  unfold execEpochSlotEnd
  repeat' (first
    | with_reducible exact Upd.refl
    | with_reducible assumption
    | (intro u; refine Upd.cut 2148527724 s u ?_ (fun _ => ?_); subst u; rotate_left; clear_value u; rotate_right)
    | lift_lets
    | (with_reducible apply Upd.via; with_reducible apply State.advance_upd; decide)
    | (with_reducible apply Upd.via; with_reducible apply State.closeRegular_upd; decide)
    | with_reducible refine UpdO.mk' ?_
    | split)

theorem execEpochLenChange_upd {s} : UpdO 2148527724 s (execEpochLenChange s) := by
  unfold execEpochLenChange
  repeat' (first
    | with_reducible exact Upd.refl
    | with_reducible assumption
    | (intro u; refine Upd.cut 2148527724 s u ?_ (fun _ => ?_); subst u; rotate_left; clear_value u; rotate_right)
    | (intro u; clear_value u)
    | lift_lets
    | (with_reducible apply Upd.via; with_reducible apply State.advance_upd; decide)
    | (with_reducible apply Upd.via; with_reducible apply State.closeRegular_upd; decide)
    | (with_reducible apply Upd.via; with_reducible apply State.updPack_upd; decide)
    | with_reducible refine UpdO.mk' ?_
    | split)

theorem State.closeNotarised_upd {s x1 x2} : Upd 519784 s (State.closeNotarised s x1 x2) := by
  unfold State.closeNotarised
  repeat' (first
    | with_reducible exact Upd.refl
    | (intro u; clear_value u)
    | lift_lets
    | (with_reducible apply Upd.via; with_reducible apply State.closeEpoch_upd; decide)
    | (with_reducible apply Upd.via; with_reducible apply State.updPack_upd; decide))

theorem execNotarisedEpochClose_upd {x0 s} : UpdO 519784 s (execNotarisedEpochClose x0 s) := by
  unfold execNotarisedEpochClose
  repeat' (first
    | with_reducible exact Upd.refl
    | (with_reducible apply Upd.via; with_reducible apply State.closeNotarised_upd; decide)
    | with_reducible refine UpdO.mk' ?_
    | split)

theorem State.freeCores_upd {s x1} : Upd 75272 s (State.freeCores s x1) := by
  unfold State.freeCores
  repeat' (first
    | with_reducible exact Upd.refl
    | with_reducible assumption
    | with_reducible refine Upd.foldl ?_ (fun _ _ _ => ?_)
    | (with_reducible apply Upd.via; with_reducible apply State.balancePools_upd; decide)
    | (with_reducible apply Upd.via; with_reducible apply State.settleCore_upd; decide))

theorem execEpochSignDone_upd {x0 s} : UpdO 1073999464 s (execEpochSignDone x0 s) := by
  unfold execEpochSignDone
  repeat' (first
    | with_reducible exact Upd.refl
    | lift_lets
    | (with_reducible apply Upd.via; with_reducible apply Upd.snd State.draw_upd; decide)
    | (with_reducible apply Upd.via; with_reducible apply State.freeCores_upd; decide)
    | (with_reducible apply Upd.via; with_reducible apply State.assignGroups_upd; decide)
    | (with_reducible apply Upd.via; with_reducible apply State.updPack_upd; decide)
    | with_reducible refine UpdO.mk' ?_
    | split)

theorem State.repairReleased_upd {s x1 x2} : Upd 537132776 s (State.repairReleased s x1 x2) := by
  unfold State.repairReleased
  repeat' (first
    | with_reducible exact Upd.refl
    | with_reducible assumption
    | (intro u; refine Upd.cut 537132776 s u ?_ (fun _ => ?_); subst u; rotate_left; clear_value u; rotate_right)
    | (intro u; clear_value u)
    | lift_lets
    | with_reducible refine Upd.foldl ?_ (fun _ _ _ => ?_)
    | (with_reducible apply Upd.via; with_reducible apply State.subAlloc_upd; decide)
    | (with_reducible apply Upd.via; with_reducible apply State.startRepair_upd; decide)
    | (with_reducible apply Upd.via; with_reducible apply State.sendDelete_upd; decide)
    | (with_reducible apply Upd.via; with_reducible apply State.updSouth_upd; decide)
    | split)

theorem State.locate_upd {s x1 x2} : Upd 16384 s (State.locate s x1 x2) := by
  unfold State.locate
  repeat' (first
    | with_reducible exact Upd.refl
    | (intro u; clear_value u)
    | lift_lets
    | with_reducible refine Upd.fst (Upd1.foldl ?_ (fun _ _ _ => ?_))
    | split
    | (with_reducible apply Upd.via; with_reducible apply State.touchGroup_upd; decide)
    | (with_reducible apply Upd.via; with_reducible apply State.updSouth_upd; decide)
    | with_reducible refine Upd1.mk' ?_
    | with_reducible exact Upd.fst (by assumption))

theorem State.settleObject_upd {s x1} : Upd 16896 s (State.settleObject s x1) := by
  unfold State.settleObject
  repeat' (first
    | with_reducible exact Upd.refl
    | (with_reducible apply Upd.via; with_reducible apply State.touchGroup_upd; decide)
    | (with_reducible apply Upd.via; with_reducible apply State.updQueue_upd; decide)
    | (with_reducible apply Upd.via; with_reducible apply State.setObject_upd; decide)
    | split)

theorem State.releaseEpoch_upd {s x1 x2} : Upd 537132776 s (State.releaseEpoch s x1 x2) := by
  unfold State.releaseEpoch
  repeat' (first
    | with_reducible exact Upd.refl
    | with_reducible assumption
    | (intro u; refine Upd.cut 537132776 s u ?_ (fun _ => ?_); subst u; rotate_left; clear_value u; rotate_right)
    | (intro u; clear_value u)
    | lift_lets
    | with_reducible refine Upd.foldl ?_ (fun _ _ _ => ?_)
    | (with_reducible apply Upd.via; with_reducible apply State.wr_upd; decide)
    | (with_reducible apply Upd.via; with_reducible apply State.freeCores_upd; decide)
    | (with_reducible apply Upd.via; with_reducible apply State.repairReleased_upd; decide)
    | (with_reducible apply Upd.via; with_reducible apply State.locate_upd; decide)
    | (with_reducible apply Upd.via; with_reducible apply State.settleObject_upd; decide)
    | (with_reducible apply Upd.via; with_reducible apply State.touchCatalogue_upd; decide)
    | (with_reducible apply Upd.via; with_reducible apply State.updSession_upd; decide)
    | (with_reducible apply Upd.via; with_reducible apply State.assignGroups_upd; decide)
    | (with_reducible apply Upd.via; with_reducible apply State.sendEpoch_upd; decide)
    | (with_reducible apply Upd.via; with_reducible apply State.pump_upd; decide)
    | (with_reducible apply Upd.via; with_reducible apply State.updPack_upd; decide))

theorem State.verifyFailed_upd {s x1 x2} : Upd 257640 s (State.verifyFailed s x1 x2) := by
  unfold State.verifyFailed
  repeat' (first
    | with_reducible exact Upd.refl
    | with_reducible assumption
    | (intro u; refine Upd.cut 257640 s u ?_ (fun _ => ?_); subst u; rotate_left; clear_value u; rotate_right)
    | (intro u; clear_value u)
    | lift_lets
    | (with_reducible apply Upd.via; with_reducible apply State.raise_upd; decide)
    | (with_reducible apply Upd.via; with_reducible apply State.bump_upd; decide)
    | (with_reducible apply Upd.via; with_reducible apply State.freeCores_upd; decide)
    | (with_reducible apply Upd.via; with_reducible apply State.assignGroups_upd; decide)
    | (with_reducible apply Upd.via; with_reducible apply State.updPack_upd; decide)
    | split)

theorem execEpochVerifyDone_upd {x0 x1 s} : UpdO 537132776 s (execEpochVerifyDone x0 x1 s) := by
  unfold execEpochVerifyDone
  repeat' (first
    | with_reducible exact Upd.refl
    | (with_reducible apply Upd.via; with_reducible apply State.releaseEpoch_upd; decide)
    | (with_reducible apply Upd.via; with_reducible apply State.verifyFailed_upd; decide)
    | with_reducible refine UpdO.mk' ?_
    | split)

theorem execManifestLogAppend_upd {x0 s} : UpdO 24576 s (execManifestLogAppend x0 s) := by
  unfold execManifestLogAppend
  repeat' (first
    | with_reducible exact Upd.refl
    | (with_reducible apply Upd.via; with_reducible apply State.touchCatalogue_upd; decide)
    | (with_reducible apply Upd.via; with_reducible apply State.updPack_upd; decide)
    | with_reducible refine UpdO.mk' ?_
    | split)

theorem execReverifyDue_upd {x0 x1 x2 s} : UpdO 2685140972 s (execReverifyDue x0 x1 x2 s) := by
  unfold execReverifyDue
  repeat' (first
    | with_reducible exact Upd.refl
    | with_reducible assumption
    | (intro u; refine Upd.cut 2685140972 s u ?_ (fun _ => ?_); subst u; rotate_left; clear_value u; rotate_right)
    | (intro u; clear_value u)
    | lift_lets
    | (with_reducible apply Upd.via; with_reducible apply State.note_upd; decide)
    | (with_reducible apply Upd.via; with_reducible apply State.bump_upd; decide)
    | (with_reducible apply Upd.via; with_reducible apply State.advanceTo_upd; decide)
    | (with_reducible apply Upd.via; with_reducible apply State.afterLoss_upd; decide)
    | (with_reducible apply Upd.via; with_reducible apply State.updHeld_upd; decide)
    | (with_reducible apply Upd2.via; with_reducible apply State.touchPages_upd; decide)
    | with_reducible refine UpdO.mk' ?_
    | split
    | (with_reducible apply Upd.sndOf'; with_reducible assumption))

theorem execPckQrel_upd {x0 x1 s} : UpdO 8200 s (execPckQrel x0 x1 s) := by
  unfold execPckQrel
  repeat' (first
    | with_reducible exact Upd.refl
    | with_reducible assumption
    | (intro u; refine Upd.cut 8200 s u ?_ (fun _ => ?_); subst u; rotate_left; clear_value u; rotate_right)
    | lift_lets
    | (with_reducible apply Upd.via; with_reducible apply State.wr_upd; decide)
    | (with_reducible apply Upd.via; with_reducible apply State.updPack_upd; decide)
    | (with_reducible apply Upd.via; with_reducible apply State.setSpg_upd; decide)
    | with_reducible refine UpdO.mk' ?_
    | split)

theorem execPckSelftestDone_upd {x0 x1 x2 s} : UpdO 17038952 s (execPckSelftestDone x0 x1 x2 s) := by
  unfold execPckSelftestDone
  repeat' (first
    | with_reducible exact Upd.refl
    | with_reducible assumption
    | (intro u; refine Upd.cut 17038952 s u ?_ (fun _ => ?_); subst u; rotate_left; clear_value u; rotate_right)
    | (intro u; clear_value u)
    | lift_lets
    | split
    | (with_reducible apply Upd.via; with_reducible apply State.raise_upd; decide)
    | (with_reducible apply Upd.via; with_reducible apply State.spongeServe_upd; decide)
    | (with_reducible apply Upd.via; with_reducible apply State.dropSponge_upd; decide)
    | (with_reducible apply Upd.via; with_reducible apply State.backInService_upd; decide)
    | (with_reducible apply Upd.via; with_reducible apply State.testEnded_upd; decide)
    | (with_reducible apply Upd.via; with_reducible apply State.testOver_upd; decide)
    | (with_reducible apply Upd.via; with_reducible apply State.updPack_upd; decide)
    | with_reducible refine UpdO.mk' ?_)

end Sys2Proof.Machine
end

