-- ==== Sys2Proof/Laws/UpdTrail.lean ====
section
/-! SUPPORT. What each operation of Machine/Trail.lean touches and keeps. -/

namespace Sys2Proof.Machine

theorem State.subCopy_upd {s x1 x2} : Upd 258024 s (State.subCopy s x1 x2) := by
  unfold State.subCopy
  dsimp only
  repeat' (first
    | with_reducible exact Upd.refl
    | split
    | (with_reducible apply Upd.via; with_reducible apply State.raise_upd; decide)
    | (with_reducible apply Upd.via; with_reducible apply State.writeMem_upd; decide)
    | (with_reducible apply Upd.via; with_reducible apply State.bump_upd; decide)
    | (with_reducible apply Upd.via; with_reducible apply State.addTo_upd; decide)
    | (with_reducible apply Upd.via; with_reducible apply State.flag_upd; decide)
    | (with_reducible apply Upd.via; with_reducible apply State.updTrail_upd; decide)
    | (with_reducible apply Upd.via; with_reducible apply State.trailRec_upd; decide)
    | (with_reducible apply Upd2.via; with_reducible apply State.guard_upd; decide)
    | (with_reducible apply Upd.sndOf'; with_reducible assumption))

theorem State.showSeq_upd {s x1} : Upd 288 s (State.showSeq s x1) := by
  unfold State.showSeq
  repeat' (first
    | with_reducible exact Upd.refl
    | (intro u; clear_value u)
    | lift_lets
    | (with_reducible apply Upd.via; with_reducible apply State.updRec_upd; decide)
    | (with_reducible apply Upd.via; with_reducible apply State.updGuards_upd; decide)
    | split)

theorem State.writeSlot_upd {s x1 x2} : Upd 131208 s (State.writeSlot s x1 x2) := by
  unfold State.writeSlot
  repeat' (first
    | with_reducible exact Upd.refl
    | with_reducible assumption
    | with_reducible refine Upd.foldl ?_ (fun _ _ _ => ?_)
    | (with_reducible apply Upd.via; with_reducible apply State.writeMem_upd; decide)
    | split)

theorem State.putDram_upd {s x1} : Upd 131272 s (State.putDram s x1) := by
  unfold State.putDram
  repeat' (first
    | with_reducible exact Upd.refl
    | (intro u; clear_value u)
    | lift_lets
    | (with_reducible apply Upd.via; with_reducible apply State.updTrail_upd; decide)
    | (with_reducible apply Upd.via; with_reducible apply State.writeSlot_upd; decide))

theorem State.accept_upd {s x1} : Upd 258024 s (State.accept s x1) := by
  unfold State.accept
  repeat' (first
    | with_reducible exact Upd.refl
    | with_reducible assumption
    | (intro u; refine Upd.cut 258024 s u ?_ (fun _ => ?_); subst u; rotate_left; clear_value u; rotate_right)
    | (intro u; clear_value u)
    | lift_lets
    | with_reducible refine Upd.foldl ?_ (fun _ _ _ => ?_)
    | split
    | (with_reducible apply Upd.via; with_reducible apply State.updTrail_upd; decide)
    | (with_reducible apply Upd.via; with_reducible apply State.subCopy_upd; decide)
    | (with_reducible apply Upd.via; with_reducible apply State.showSeq_upd; decide)
    | (with_reducible apply Upd.via; with_reducible apply State.putDram_upd; decide))

theorem State.servePort_upd {s x1} : Upd 258024 s (State.servePort s x1) := by
  unfold State.servePort
  repeat' (first
    | with_reducible exact Upd.refl
    | (intro u; clear_value u)
    | lift_lets
    | split
    | (with_reducible apply Upd.via; with_reducible apply State.updTrail_upd; decide)
    | (with_reducible apply Upd.via; with_reducible apply State.post_upd; decide)
    | (with_reducible apply Upd.via; with_reducible apply State.accept_upd; decide)
    | dsimp only)

theorem State.acceptOne_upd {s} : Upd 258024 s (State.acceptOne s) := by
  unfold State.acceptOne
  repeat' (first
    | with_reducible exact Upd.refl
    | split
    | (with_reducible apply Upd.via; with_reducible apply State.accept_upd; decide)
    | (with_reducible apply Upd.via; with_reducible apply State.servePort_upd; decide))

theorem execTrailRecordAccept_upd {s} : UpdO 258024 s (execTrailRecordAccept s) := by
  unfold execTrailRecordAccept
  repeat' (first
    | with_reducible exact Upd.refl
    | (with_reducible apply Upd.via; with_reducible apply State.acceptOne_upd; decide)
    | with_reducible refine UpdO.mk' ?_
    | split)

theorem State.acceptUntil_upd {s x1 x2} : Upd 258024 s (State.acceptUntil s x1 x2) := by
  fun_induction State.acceptUntil s x1 x2
  all_goals repeat' (first
    | with_reducible exact Upd.refl
    | (with_reducible apply Upd.via; with_reducible apply State.acceptOne_upd; decide)
    | with_reducible refine Upd.via (by assumption) (by decide) ?_)

theorem State.recordNow_upd {s x1 x2 x3 x4} : Upd2 258024 s (State.recordNow s x1 x2 x3 x4) := by
  unfold State.recordNow
  repeat' (first
    | with_reducible exact Upd.refl
    | with_reducible assumption
    | (intro u; refine Upd.cut 258024 s u ?_ (fun _ => ?_); subst u; rotate_left; clear_value u; rotate_right)
    | lift_lets
    | (with_reducible apply Upd.via; with_reducible apply State.trailRec_upd; decide)
    | (with_reducible apply Upd.via; with_reducible apply State.acceptUntil_upd; decide)
    | with_reducible refine Upd2.mk' ?_)

theorem State.trailToDram_upd {s} : Upd 131272 s (State.trailToDram s) := by
  unfold State.trailToDram
  repeat' (first
    | with_reducible exact Upd.refl
    | with_reducible assumption
    | with_reducible refine Upd.foldl ?_ (fun _ _ _ => ?_)
    | (with_reducible apply Upd.via; with_reducible apply State.putDram_upd; decide))

theorem execSubInterrupt_upd {x0 s} : UpdO 2148008012 s (execSubInterrupt x0 s) := by
  unfold execSubInterrupt
  repeat' (first
    | with_reducible exact Upd.refl
    | (with_reducible apply Upd.via; with_reducible apply State.updTrail_upd; decide)
    | (with_reducible apply Upd.via; with_reducible apply State.advanceTo_upd; decide)
    | (with_reducible apply Upd.via; with_reducible apply State.interrupt_upd; decide)
    | with_reducible refine UpdO.mk' ?_
    | split)

theorem execTrailJournalCommit_upd {x0 s} : UpdO 2148265580 s (execTrailJournalCommit x0 s) := by
  unfold execTrailJournalCommit
  repeat' (first
    | with_reducible exact Upd.refl
    | with_reducible assumption
    | (intro u; refine Upd.cut 2148265580 s u ?_ (fun _ => ?_); subst u; rotate_left; clear_value u; rotate_right)
    | lift_lets
    | (with_reducible apply Upd.via; with_reducible apply State.raise_upd; decide)
    | (with_reducible apply Upd.via; with_reducible apply State.bump_upd; decide)
    | (with_reducible apply Upd.via; with_reducible apply State.updTrail_upd; decide)
    | (with_reducible apply Upd.via; with_reducible apply State.advanceTo_upd; decide)
    | (with_reducible apply Upd.via; with_reducible apply State.trailRec_upd; decide)
    | with_reducible refine UpdO.mk' ?_
    | split)

theorem execTrlWr_upd {x0 x1 x2 x3 x4 s} : UpdO 72 s (execTrlWr x0 x1 x2 x3 x4 s) := by
  unfold execTrlWr
  repeat' (first
    | with_reducible exact Upd.refl
    | with_reducible assumption
    | (intro u; refine Upd.cut 72 s u ?_ (fun _ => ?_); subst u; rotate_left; clear_value u; rotate_right)
    | (intro u; clear_value u)
    | lift_lets
    | (with_reducible apply Upd.via; with_reducible apply State.wr_upd; decide)
    | (with_reducible apply Upd.via; with_reducible apply State.flag_upd; decide)
    | (with_reducible apply Upd.via; with_reducible apply State.post_upd; decide)
    | with_reducible refine UpdO.mk' ?_)

theorem State.attestTurn_upd {s} : Upd 2148016132 s (State.attestTurn s) := by
  unfold State.attestTurn
  repeat' (first
    | with_reducible exact Upd.refl
    | with_reducible assumption
    | (intro u; refine Upd.cut 2148016132 s u ?_ (fun _ => ?_); subst u; rotate_left; clear_value u; rotate_right)
    | (intro u; clear_value u)
    | lift_lets
    | (with_reducible apply Upd.via; with_reducible apply State.advanceTo_upd; decide)
    | (with_reducible apply Upd.via; with_reducible apply State.updPack_upd; decide)
    | split)

theorem State.attestFails_upd {s x1 x2} : Upd1 257640 s (State.attestFails s x1 x2) := by
  fun_induction State.attestFails s x1 x2
  all_goals repeat' (first
    | with_reducible exact Upd.refl
    | lift_lets
    | (with_reducible apply Upd.via; with_reducible apply State.raise_upd; decide)
    | (with_reducible apply Upd.via; with_reducible apply State.bump_upd; decide)
    | (with_reducible apply Upd.via; with_reducible apply State.updPack_upd; decide)
    | with_reducible refine Upd1.mk' ?_
    | with_reducible refine Upd.via (Upd.fst (by assumption)) (by decide) ?_)

theorem State.attest_upd {s x1 x2} : Upd2 3222007788 s (State.attest s x1 x2) := by
  unfold State.attest
  repeat' (first
    | with_reducible exact Upd.refl
    | lift_lets
    | (with_reducible apply Upd.via; with_reducible apply State.raise_upd; decide)
    | (with_reducible apply Upd.via; with_reducible apply Upd.snd State.draw_upd; decide)
    | (with_reducible apply Upd.via; with_reducible apply Upd.snd State.recordNow_upd; decide)
    | (with_reducible apply Upd.via; with_reducible apply State.attestTurn_upd; decide)
    | (with_reducible apply Upd.via; with_reducible apply State.updPack_upd; decide)
    | (with_reducible apply Upd1.via; with_reducible apply State.attestFails_upd; decide)
    | with_reducible refine Upd2.mk' ?_
    | split
    | (with_reducible apply Upd.fstOf'; with_reducible assumption))

theorem execAttestRequest_upd {x0 x1 s} : UpdO 3758878700 s (execAttestRequest x0 x1 s) := by
  unfold execAttestRequest
  repeat' (first
    | with_reducible exact Upd.refl
    | (with_reducible apply Upd.via; with_reducible apply State.emit_upd; decide)
    | (with_reducible apply Upd2.via; with_reducible apply State.attest_upd; decide)
    | with_reducible refine UpdO.mk' ?_
    | split
    | (with_reducible apply Upd.sndOf'; with_reducible assumption))

end Sys2Proof.Machine
end

