-- ==== Sys2Proof/Laws/UpdCentral.lean ====
section
/-! SUPPORT. What each operation of Machine/Central.lean touches and keeps. -/

namespace Sys2Proof.Machine

theorem execCentralRetry_upd {x0 s} : UpdO 257640 s (execCentralRetry x0 s) := by
  unfold execCentralRetry
  repeat' (first
    | with_reducible exact Upd.refl
    | with_reducible assumption
    | (intro u; refine Upd.cut 257640 s u ?_ (fun _ => ?_); subst u; rotate_left; clear_value u; rotate_right)
    | (intro u; clear_value u)
    | lift_lets
    | (with_reducible apply Upd.via; with_reducible apply State.raise_upd; decide)
    | (with_reducible apply Upd.via; with_reducible apply State.updCollector_upd; decide)
    | with_reducible refine UpdO.mk' ?_
    | split)

theorem execTrailBacklog_upd {x0 s} : UpdO 2148265580 s (execTrailBacklog x0 s) := by
  unfold execTrailBacklog
  repeat' (first
    | with_reducible exact Upd.refl
    | (with_reducible apply Upd.via; with_reducible apply State.raise_upd; decide)
    | (with_reducible apply Upd.via; with_reducible apply State.advanceTo_upd; decide)
    | with_reducible refine UpdO.mk' ?_
    | split)

theorem execSealSetLost_upd {s} : UpdO 536968808 s (execSealSetLost s) := by
  unfold execSealSetLost
  repeat' (first
    | with_reducible exact Upd.refl
    | with_reducible assumption
    | (intro u; clear_value u)
    | lift_lets
    | with_reducible refine Upd.foldl ?_ (fun _ _ _ => ?_)
    | (with_reducible apply Upd.via; with_reducible apply State.abortObject_upd; decide)
    | with_reducible refine UpdO.mk' ?_
    | split)

theorem execHeelAfterDrain_upd {s} : UpdO 4171 s (execHeelAfterDrain s) := by
  unfold execHeelAfterDrain
  repeat' (first
    | with_reducible exact Upd.refl
    | split
    | (with_reducible apply Upd.via; with_reducible apply State.enterService_upd; decide)
    | (with_reducible apply Upd.via; with_reducible apply State.stateRecord_upd; decide)
    | (with_reducible apply Upd.via; with_reducible apply State.saveTables_upd; decide)
    | with_reducible refine UpdO.mk' ?_)

theorem State.startSeal_upd {s} : Upd 261867 s (State.startSeal s) := by
  unfold State.startSeal
  repeat' (first
    | with_reducible exact Upd.refl
    | with_reducible assumption
    | (intro u; refine Upd.cut 261867 s u ?_ (fun _ => ?_); subst u; rotate_left; clear_value u; rotate_right)
    | (intro u; clear_value u)
    | lift_lets
    | (with_reducible apply Upd.via; with_reducible apply State.enterService_upd; decide)
    | (with_reducible apply Upd.via; with_reducible apply State.stateRecord_upd; decide)
    | (with_reducible apply Upd.via; with_reducible apply State.formPools_upd; decide)
    | (with_reducible apply Upd.via; with_reducible apply State.balancePools_upd; decide)
    | (with_reducible apply Upd.via; with_reducible apply State.trailToDram_upd; decide)
    | (with_reducible apply Upd.via; with_reducible apply State.assignGroups_upd; decide)
    | (with_reducible apply Upd.via; with_reducible apply State.updShepherd_upd; decide))

theorem execSealResumption_upd {s} : UpdO 261867 s (execSealResumption s) := by
  unfold execSealResumption
  repeat' (first
    | with_reducible exact Upd.refl
    | (with_reducible apply Upd.via; with_reducible apply State.startSeal_upd; decide)
    | with_reducible refine UpdO.mk' ?_
    | split)

end Sys2Proof.Machine
end

