-- ==== Sys2Proof/Laws/UpdPower.lean ====
section
/-! SUPPORT. What each operation of Machine/Power.lean touches and keeps. -/

namespace Sys2Proof.Machine

theorem State.trainChannel_upd {s x1 x2} : Upd 2312 s (State.trainChannel s x1 x2) := by
  unfold State.trainChannel
  repeat' (first
    | with_reducible exact Upd.refl
    | with_reducible assumption
    | (intro u; refine Upd.cut 2312 s u ?_ (fun _ => ?_); subst u; rotate_left; clear_value u; rotate_right)
    | (intro u; clear_value u)
    | lift_lets
    | (with_reducible apply Upd.via; with_reducible apply State.updGuards_upd; decide)
    | (with_reducible apply Upd.via; with_reducible apply State.setBit_upd; decide)
    | (with_reducible apply Upd.via; with_reducible apply State.updStaging_upd; decide)
    | split)

theorem State.startUnits_upd {s x1} : Upd 257640 s (State.startUnits s x1) := by
  unfold State.startUnits
  repeat' (first
    | with_reducible exact Upd.refl
    | with_reducible assumption
    | (intro u; refine Upd.cut 257640 s u ?_ (fun _ => ?_); subst u; rotate_left; clear_value u; rotate_right)
    | lift_lets
    | with_reducible refine Upd.foldl ?_ (fun _ _ _ => ?_)
    | split
    | (with_reducible apply Upd.via; with_reducible apply State.raise_upd; decide)
    | (with_reducible apply Upd.via; with_reducible apply State.flag_upd; decide)
    | (with_reducible apply Upd.via; with_reducible apply State.dropSponge_upd; decide)
    | (with_reducible apply Upd.via; with_reducible apply State.setStu_upd; decide)
    | (with_reducible apply Upd.via; with_reducible apply State.setSpg_upd; decide)
    | (with_reducible apply Upd.via; with_reducible apply State.setAwl_upd; decide)
    | (with_reducible apply Upd.via; with_reducible apply State.stopAwl_upd; decide))

theorem State.startLanes_upd {s x1} : Upd 16896 s (State.startLanes s x1) := by
  unfold State.startLanes
  dsimp only
  repeat' (first
    | with_reducible exact Upd.refl
    | (with_reducible apply Upd.via; with_reducible apply State.updQueue_upd; decide)
    | (with_reducible apply Upd.via; with_reducible apply State.updSouth_upd; decide))

theorem State.eraseDram_upd {s} : Upd 128 s (State.eraseDram s) := Upd.refl.put_mem (by decide) erase_wf

theorem State.loadTables_upd {s} : Upd 291336 s (State.loadTables s) := by
  unfold State.loadTables
  repeat' (first
    | with_reducible exact Upd.refl
    | with_reducible assumption
    | (intro u; refine Upd.cut 291336 s u ?_ (fun _ => ?_); subst u; rotate_left; clear_value u; rotate_right)
    | (intro u; clear_value u)
    | lift_lets
    | (with_reducible apply Upd.via; with_reducible apply State.wr_upd; decide)
    | (with_reducible apply Upd.via; with_reducible apply State.updQueue_upd; decide)
    | (with_reducible apply Upd.via; with_reducible apply State.updShepherd_upd; decide)
    | (with_reducible apply Upd.via; with_reducible apply State.updPack_upd; decide)
    | (with_reducible apply Upd.via; with_reducible apply State.updSouth_upd; decide)
    | (with_reducible apply Upd.via; with_reducible apply State.journal_upd; decide))

theorem State.leaveSeal_upd {s} : Upd 19979 s (State.leaveSeal s) := by
  unfold State.leaveSeal
  repeat' (first
    | with_reducible exact Upd.refl
    | with_reducible assumption
    | (intro u; refine Upd.cut 19979 s u ?_ (fun _ => ?_); subst u; rotate_left; clear_value u; rotate_right)
    | (intro u; clear_value u)
    | lift_lets
    | with_reducible refine Upd.foldl ?_ (fun _ _ _ => ?_)
    | split
    | (with_reducible apply Upd.via; with_reducible apply State.wr_upd; decide)
    | (with_reducible apply Upd.via; with_reducible apply State.flag_upd; decide)
    | (with_reducible apply Upd.via; with_reducible apply State.enterService_upd; decide)
    | (with_reducible apply Upd.via; with_reducible apply State.updQueue_upd; decide)
    | (with_reducible apply Upd.via; with_reducible apply State.updStaging_upd; decide)
    | (with_reducible apply Upd.via; with_reducible apply State.updSouth_upd; decide)
    | (with_reducible apply Upd.via; with_reducible apply State.setStu_upd; decide)
    | (with_reducible apply Upd.via; with_reducible apply Upd.fst State.clearCtxs_upd; decide))

theorem State.pwrEnd_upd {s x1 x2} : Upd 8 s (State.pwrEnd s x1 x2) := by
  unfold State.pwrEnd
  repeat' (first
    | with_reducible exact Upd.refl
    | (with_reducible apply Upd.via; with_reducible apply State.wr_upd; decide))

theorem State.entryFails_upd {s x1} : Upd 19979 s (State.entryFails s x1) := by
  unfold State.entryFails
  repeat' (first
    | with_reducible exact Upd.refl
    | (with_reducible apply Upd.via; with_reducible apply State.interrupt_upd; decide)
    | (with_reducible apply Upd.via; with_reducible apply State.leaveSeal_upd; decide)
    | (with_reducible apply Upd.via; with_reducible apply State.pwrEnd_upd; decide))

theorem State.enterSeal_upd {s x1} : Upd 570949611 s (State.enterSeal s x1) := by
  unfold State.enterSeal
  repeat' (first
    | with_reducible exact Upd.refl
    | with_reducible assumption
    | (intro u; refine Upd.cut 570949611 s u ?_ (fun _ => ?_); subst u; rotate_left; clear_value u; rotate_right)
    | (intro u; clear_value u)
    | lift_lets
    | with_reducible refine Upd.foldl ?_ (fun _ _ _ => ?_)
    | split
    | (with_reducible apply Upd.via; with_reducible apply State.startSeal_upd; decide)
    | (with_reducible apply Upd.via; with_reducible apply State.updGuards_upd; decide)
    | (with_reducible apply Upd.via; with_reducible apply State.loadKeys_upd; decide)
    | (with_reducible apply Upd.via; with_reducible apply State.wr_upd; decide)
    | (with_reducible apply Upd.via; with_reducible apply State.flag_upd; decide)
    | (with_reducible apply Upd.via; with_reducible apply State.updTelemetry_upd; decide)
    | (with_reducible apply Upd.via; with_reducible apply State.interrupt_upd; decide)
    | (with_reducible apply Upd.via; with_reducible apply State.trainChannel_upd; decide)
    | (with_reducible apply Upd.via; with_reducible apply State.startUnits_upd; decide)
    | (with_reducible apply Upd.via; with_reducible apply State.startLanes_upd; decide)
    | (with_reducible apply Upd.via; with_reducible apply State.eraseDram_upd; decide)
    | (with_reducible apply Upd.via; with_reducible apply State.loadTables_upd; decide)
    | (with_reducible apply Upd.via; with_reducible apply State.pwrEnd_upd; decide)
    | (with_reducible apply Upd.via; with_reducible apply State.entryFails_upd; decide)
    | (with_reducible apply Upd.via; with_reducible apply State.updPack_upd; decide))

theorem State.resumeSeal_upd {s x1} : Upd 261867 s (State.resumeSeal s x1) := by
  unfold State.resumeSeal
  repeat' (first
    | with_reducible exact Upd.refl
    | with_reducible assumption
    | (intro u; refine Upd.cut 261867 s u ?_ (fun _ => ?_); subst u; rotate_left; clear_value u; rotate_right)
    | lift_lets
    | split
    | (with_reducible apply Upd.via; with_reducible apply State.startSeal_upd; decide)
    | (with_reducible apply Upd.via; with_reducible apply State.interrupt_upd; decide)
    | (with_reducible apply Upd.via; with_reducible apply State.startUnits_upd; decide)
    | (with_reducible apply Upd.via; with_reducible apply State.pwrEnd_upd; decide))

theorem execSealEnter_upd {x0 x1 x2 s} : UpdO 2735734767 s (execSealEnter x0 x1 x2 s) := by
  unfold execSealEnter
  repeat' (first
    | with_reducible exact Upd.refl
    | with_reducible assumption
    | (intro u; refine Upd.cut 2735734767 s u ?_ (fun _ => ?_); subst u; rotate_left; clear_value u; rotate_right)
    | (intro u; clear_value u)
    | lift_lets
    | split
    | (with_reducible apply Upd.via; with_reducible apply State.wr_upd; decide)
    | (with_reducible apply Upd.via; with_reducible apply State.flag_upd; decide)
    | (with_reducible apply Upd.via; with_reducible apply State.updChip_upd; decide)
    | (with_reducible apply Upd.via; with_reducible apply State.advance_upd; decide)
    | (with_reducible apply Upd.via; with_reducible apply State.pwrEnd_upd; decide)
    | (with_reducible apply Upd.via; with_reducible apply State.enterSeal_upd; decide)
    | (with_reducible apply Upd.via; with_reducible apply State.resumeSeal_upd; decide)
    | with_reducible refine UpdO.mk' ?_)

theorem State.shutProgress_upd {s} : Upd 16801355 s (State.shutProgress s) := by
  unfold State.shutProgress
  repeat' (first
    | with_reducible exact Upd.refl
    | with_reducible assumption
    | (intro u; refine Upd.cut 16801355 s u ?_ (fun _ => ?_); subst u; rotate_left; clear_value u; rotate_right)
    | lift_lets
    | with_reducible refine Upd.foldl ?_ (fun _ _ _ => ?_)
    | split
    | (with_reducible apply Upd.via; with_reducible apply State.writeCatalogue_upd; decide)
    | (with_reducible apply Upd.via; with_reducible apply State.updChip_upd; decide)
    | (with_reducible apply Upd.via; with_reducible apply State.enterService_upd; decide)
    | (with_reducible apply Upd.via; with_reducible apply State.stateRecord_upd; decide)
    | (with_reducible apply Upd.via; with_reducible apply State.leaveSeal_upd; decide)
    | (with_reducible apply Upd.via; with_reducible apply State.pwrEnd_upd; decide)
    | (with_reducible apply Upd.via; with_reducible apply State.saveTables_upd; decide)
    | (with_reducible apply Upd.via; with_reducible apply State.updSouth_upd; decide))

theorem execShutdown_upd {x0 x1 s} : UpdO 16801355 s (execShutdown x0 x1 s) := by
  unfold execShutdown
  repeat' (first
    | with_reducible exact Upd.refl
    | with_reducible assumption
    | (intro u; refine Upd.cut 16801355 s u ?_ (fun _ => ?_); subst u; rotate_left; clear_value u; rotate_right)
    | (intro u; clear_value u)
    | lift_lets
    | (with_reducible apply Upd.via; with_reducible apply State.wr_upd; decide)
    | (with_reducible apply Upd.via; with_reducible apply State.updChip_upd; decide)
    | (with_reducible apply Upd.via; with_reducible apply State.pwrEnd_upd; decide)
    | (with_reducible apply Upd.via; with_reducible apply State.shutProgress_upd; decide)
    | with_reducible refine UpdO.mk' ?_
    | split)

theorem execShutdownTimeout_upd {s} : UpdO 2164785164 s (execShutdownTimeout s) := by
  unfold execShutdownTimeout
  repeat' (first
    | with_reducible exact Upd.refl
    | (with_reducible apply Upd.via; with_reducible apply State.updChip_upd; decide)
    | (with_reducible apply Upd.via; with_reducible apply State.advanceTo_upd; decide)
    | (with_reducible apply Upd.via; with_reducible apply State.pwrEnd_upd; decide)
    | with_reducible refine UpdO.mk' ?_
    | split)

theorem execPwrAvs_upd {x0 x1 s} : UpdO 8 s (execPwrAvs x0 x1 s) := by
  unfold execPwrAvs
  repeat' (first
    | with_reducible exact Upd.refl
    | (with_reducible apply Upd.via; with_reducible apply State.wr_upd; decide)
    | with_reducible refine UpdO.mk' ?_
    | split)

theorem execAvsStep_upd {x0 s} : UpdO 2701656076 s (execAvsStep x0 s) := by
  unfold execAvsStep
  repeat' (first
    | with_reducible exact Upd.refl
    | with_reducible assumption
    | (intro u; refine Upd.cut 2701656076 s u ?_ (fun _ => ?_); subst u; rotate_left; clear_value u; rotate_right)
    | (intro u; clear_value u)
    | lift_lets
    | (with_reducible apply Upd.via; with_reducible apply State.wr_upd; decide)
    | (with_reducible apply Upd.via; with_reducible apply State.flag_upd; decide)
    | (with_reducible apply Upd.via; with_reducible apply State.emit_upd; decide)
    | (with_reducible apply Upd.via; with_reducible apply State.updChip_upd; decide)
    | (with_reducible apply Upd.via; with_reducible apply State.advance_upd; decide)
    | with_reducible refine UpdO.mk' ?_
    | split)

theorem State.endTestRun_upd {s} : Upd 83886088 s (State.endTestRun s) := by
  unfold State.endTestRun
  repeat' (first
    | with_reducible exact Upd.refl
    | with_reducible assumption
    | (intro u; refine Upd.cut 83886088 s u ?_ (fun _ => ?_); subst u; rotate_left; clear_value u; rotate_right)
    | lift_lets
    | (with_reducible apply Upd.via; with_reducible apply State.wr_upd; decide)
    | (with_reducible apply Upd.via; with_reducible apply State.updChip_upd; decide)
    | (with_reducible apply Upd.via; with_reducible apply State.updSmilia_upd; decide)
    | (with_reducible apply Upd.via; with_reducible apply State.interrupt_upd; decide)
    | split)

theorem State.runTests_upd {s x1 x2} : Upd1 16987144 s (State.runTests s x1 x2) := by
  unfold State.runTests
  repeat' (first
    | with_reducible exact Upd.refl
    | (intro u; clear_value u)
    | lift_lets
    | (with_reducible apply Upd.via; with_reducible apply State.updChip_upd; decide)
    | (with_reducible apply Upd.via; with_reducible apply State.startTests_upd; decide)
    | with_reducible refine Upd1.mk' ?_
    | split)

theorem execStCmd_upd {x0 x1 x2 s} : UpdO 16987144 s (execStCmd x0 x1 x2 s) := by
  unfold execStCmd
  repeat' (first
    | with_reducible exact Upd.refl
    | (with_reducible apply Upd.via; with_reducible apply State.wr_upd; decide)
    | (with_reducible apply Upd.via; with_reducible apply Upd.fst State.runTests_upd; decide)
    | with_reducible refine UpdO.mk' ?_
    | split)

theorem execStDone_upd {s} : UpdO 83886088 s (execStDone s) := by
  unfold execStDone
  repeat' (first
    | with_reducible exact Upd.refl
    | (with_reducible apply Upd.via; with_reducible apply State.endTestRun_upd; decide)
    | with_reducible refine UpdO.mk' ?_)

end Sys2Proof.Machine
end

