-- ==== Sys2Proof/Laws/UpdHandshake.lean ====
section
/-! SUPPORT. What each operation of Machine/Handshake.lean touches and keeps. -/

namespace Sys2Proof.Machine

theorem State.share_upd {s x1 x2} : Upd2 1073741824 s (State.share s x1 x2) := by
  unfold State.share
  repeat' (first
    | with_reducible exact Upd.refl
    | lift_lets
    | (with_reducible apply Upd.via; with_reducible apply Upd.snd State.draw_upd; decide)
    | with_reducible refine Upd2.mk' ?_)

theorem State.deviceAuth_upd {s x1 x2} : Upd2 1073741824 s (State.deviceAuth s x1 x2) := by
  unfold State.deviceAuth
  repeat' (first
    | with_reducible exact Upd.refl
    | lift_lets
    | (with_reducible apply Upd.via; with_reducible apply Upd.snd State.draw_upd; decide)
    | with_reducible refine Upd2.mk' ?_)

end Sys2Proof.Machine
end

