-- ==== Sys2Proof/Laws/UpdSouth.lean ====
section
/-! SUPPORT. What each operation of Machine/South.lean touches and keeps. -/

namespace Sys2Proof.Machine

theorem State.portDown_upd {s x1} : Upd 537128552 s (State.portDown s x1) := by
  unfold State.portDown
  repeat' (first
    | with_reducible exact Upd.refl
    | with_reducible assumption
    | (intro u; refine Upd.cut 537128552 s u ?_ (fun _ => ?_); subst u; rotate_left; clear_value u; rotate_right)
    | lift_lets
    | with_reducible refine Upd.foldl ?_ (fun _ _ _ => ?_)
    | (with_reducible apply Upd.via; with_reducible apply State.raise_upd; decide)
    | (with_reducible apply Upd.via; with_reducible apply State.failSouthPaths_upd; decide)
    | (with_reducible apply Upd.via; with_reducible apply State.setTether_upd; decide)
    | (with_reducible apply Upd.via; with_reducible apply State.updSouth_upd; decide)
    | split)

theorem State.resendFlits_upd {s x1 x2} : Upd 537128552 s (State.resendFlits s x1 x2) := by
  unfold State.resendFlits
  repeat' (first
    | with_reducible exact Upd.refl
    | with_reducible assumption
    | lift_lets
    | with_reducible refine Upd.foldl ?_ (fun _ _ _ => ?_)
    | (with_reducible apply Upd.via; with_reducible apply State.bump_upd; decide)
    | (with_reducible apply Upd.via; with_reducible apply State.portDown_upd; decide)
    | (with_reducible apply Upd.via; with_reducible apply State.setTether_upd; decide)
    | (with_reducible apply Upd.via; with_reducible apply State.sendFlit_upd; decide)
    | split
    | dsimp only)

theorem execFlitReceive_upd {x0 x1 x2 s} : UpdO 537128552 s (execFlitReceive x0 x1 x2 s) := by
  unfold execFlitReceive
  repeat' (first
    | with_reducible exact Upd.refl
    | with_reducible assumption
    | (intro u; refine Upd.cut 537128552 s u ?_ (fun _ => ?_); subst u; rotate_left; clear_value u; rotate_right)
    | (intro u; clear_value u)
    | lift_lets
    | (with_reducible apply Upd.via; with_reducible apply State.fall_upd; decide)
    | (with_reducible apply Upd.via; with_reducible apply State.resendFlits_upd; decide)
    | (with_reducible apply Upd.via; with_reducible apply State.setTether_upd; decide)
    | (with_reducible apply Upd.via; with_reducible apply State.sendFlit_upd; decide)
    | (with_reducible apply Upd.via; with_reducible apply State.sendFlits_upd; decide)
    | (with_reducible apply Upd.via; with_reducible apply State.updSouth_upd; decide)
    | with_reducible refine UpdO.mk' ?_
    | split)

theorem execFlitResendTimer_upd {x0 s} : UpdO 2685136492 s (execFlitResendTimer x0 s) := by
  unfold execFlitResendTimer
  repeat' (first
    | with_reducible exact Upd.refl
    | (with_reducible apply Upd.via; with_reducible apply State.advanceTo_upd; decide)
    | (with_reducible apply Upd.via; with_reducible apply State.resendFlits_upd; decide)
    | with_reducible refine UpdO.mk' ?_
    | split)

theorem execFlitIdleSend_upd {x0 s} : UpdO 2684895236 s (execFlitIdleSend x0 s) := by
  unfold execFlitIdleSend
  repeat' (first
    | with_reducible exact Upd.refl
    | with_reducible assumption
    | (intro u; refine Upd.cut 2684895236 s u ?_ (fun _ => ?_); subst u; rotate_left; clear_value u; rotate_right)
    | lift_lets
    | (with_reducible apply Upd.via; with_reducible apply State.advanceTo_upd; decide)
    | (with_reducible apply Upd.via; with_reducible apply State.sendFlit_upd; decide)
    | with_reducible refine UpdO.mk' ?_
    | split)

theorem execFtLinkDown_upd {x0 x1 x2 s} : UpdO 537128552 s (execFtLinkDown x0 x1 x2 s) := by
  unfold execFtLinkDown
  repeat' (first
    | with_reducible exact Upd.refl
    | (with_reducible apply Upd.via; with_reducible apply State.portDown_upd; decide)
    | with_reducible refine UpdO.mk' ?_
    | split)

theorem execTetherBringupRetry_upd {x0 x1 x2 s} : UpdO 2684895236 s (execTetherBringupRetry x0 x1 x2 s) := by
  unfold execTetherBringupRetry
  repeat' (first
    | with_reducible exact Upd.refl
    | with_reducible assumption
    | (intro u; refine Upd.cut 2684895236 s u ?_ (fun _ => ?_); subst u; rotate_left; clear_value u; rotate_right)
    | (intro u; clear_value u)
    | lift_lets
    | (with_reducible apply Upd.via; with_reducible apply State.advanceTo_upd; decide)
    | (with_reducible apply Upd.via; with_reducible apply State.setTether_upd; decide)
    | (with_reducible apply Upd.via; with_reducible apply State.sendFlit_upd; decide)
    | with_reducible refine UpdO.mk' ?_
    | split)

theorem State.southPlain_upd {s x1 x2 x3 x4 x5 x6} : Upd 536887296 s (State.southPlain s x1 x2 x3 x4 x5 x6) := by
  unfold State.southPlain
  repeat' (first
    | with_reducible exact Upd.refl
    | (with_reducible apply Upd.via; with_reducible apply State.emitSouth_upd; decide))

theorem State.openAssoc_upd {s x1 x2 x3 x4} : Upd 1610629120 s (State.openAssoc s x1 x2 x3 x4) := by
  unfold State.openAssoc
  repeat' (first
    | with_reducible exact Upd.refl
    | with_reducible assumption
    | (intro u; refine Upd.cut 1610629120 s u ?_ (fun _ => ?_); subst u; rotate_left; clear_value u; rotate_right)
    | (intro u; clear_value u)
    | lift_lets
    | with_reducible refine Upd.fst (Upd1.foldl ?_ (fun _ _ _ => ?_))
    | (with_reducible apply Upd.via; with_reducible apply Upd.snd State.deviceAuth_upd; decide)
    | (with_reducible apply Upd.via; with_reducible apply State.southPlain_upd; decide)
    | (with_reducible apply Upd.via; with_reducible apply State.setAssoc_upd; decide)
    | (with_reducible apply Upd.via; with_reducible apply State.sendSouthOn_upd; decide)
    | with_reducible refine Upd1.mk' ?_
    | with_reducible exact Upd.fst (by assumption))

theorem execAnnounce_upd {x0 s} : UpdO 1610629120 s (execAnnounce x0 s) := by
  unfold execAnnounce
  repeat' (first
    | with_reducible exact Upd.refl
    | lift_lets
    | split
    | (with_reducible apply Upd.via; with_reducible apply State.southPlain_upd; decide)
    | (with_reducible apply Upd.via; with_reducible apply State.openAssoc_upd; decide)
    | (with_reducible apply Upd.via; with_reducible apply State.updSouth_upd; decide)
    | (with_reducible apply Upd1.via; with_reducible apply State.takeMessage_upd; decide)
    | (with_reducible apply Upd2.via; with_reducible apply State.share_upd; decide)
    | with_reducible refine UpdO.mk' ?_
    | (with_reducible apply Upd.fstOf'; with_reducible assumption)
    | (with_reducible apply Upd.sndOf'; with_reducible assumption))

theorem State.addPaths_upd {s x1} : Upd 536887296 s (State.addPaths s x1) := by
  unfold State.addPaths
  repeat' (first
    | with_reducible exact Upd.refl
    | (intro u; clear_value u)
    | lift_lets
    | with_reducible refine Upd.fst (Upd1.foldl ?_ (fun _ _ _ => ?_))
    | split
    | (with_reducible apply Upd.via; with_reducible apply State.updAssoc_upd; decide)
    | (with_reducible apply Upd.via; with_reducible apply State.sendSouthOn_upd; decide)
    | with_reducible refine Upd1.mk' ?_
    | with_reducible exact Upd.fst (by assumption))

theorem State.associate_upd {s x1 x2} : Upd 536891904 s (State.associate s x1 x2) := by
  unfold State.associate
  repeat' (first
    | with_reducible exact Upd.refl
    | with_reducible assumption
    | (intro u; refine Upd.cut 536891904 s u ?_ (fun _ => ?_); subst u; rotate_left; clear_value u; rotate_right)
    | (intro u; clear_value u)
    | lift_lets
    | (with_reducible apply Upd.via; with_reducible apply State.setPstate_upd; decide)
    | (with_reducible apply Upd.via; with_reducible apply State.wake_upd; decide)
    | (with_reducible apply Upd.via; with_reducible apply State.needAgain_upd; decide)
    | (with_reducible apply Upd.via; with_reducible apply State.addPaths_upd; decide)
    | (with_reducible apply Upd.via; with_reducible apply State.updQueue_upd; decide)
    | (with_reducible apply Upd.via; with_reducible apply State.updSouth_upd; decide)
    | split)

theorem execFtAuth_upd {x0 s} : UpdO 537132648 s (execFtAuth x0 s) := by
  unfold execFtAuth
  repeat' (first
    | with_reducible exact Upd.refl
    | with_reducible assumption
    | (intro u; refine Upd.cut 537132648 s u ?_ (fun _ => ?_); subst u; rotate_left; clear_value u; rotate_right)
    | (intro u; clear_value u)
    | lift_lets
    | (with_reducible apply Upd.via; with_reducible apply State.raise_upd; decide)
    | (with_reducible apply Upd.via; with_reducible apply State.associate_upd; decide)
    | (with_reducible apply Upd.via; with_reducible apply State.setAssoc_upd; decide)
    | (with_reducible apply Upd.via; with_reducible apply State.sendSouth_upd; decide)
    | (with_reducible apply Upd.via; with_reducible apply State.updSouth_upd; decide)
    | (with_reducible apply Upd1.via; with_reducible apply State.acceptOn_upd; decide)
    | with_reducible refine UpdO.mk' ?_
    | split
    | (with_reducible apply Upd.fstOf'; with_reducible assumption))

theorem execFtKeyUpdate_upd {x0 s} : UpdO 536891400 s (execFtKeyUpdate x0 s) := by
  unfold execFtKeyUpdate
  repeat' (first
    | with_reducible exact Upd.refl
    | lift_lets
    | (with_reducible apply Upd.via; with_reducible apply Upd.fst State.acceptSouth_upd; decide)
    | (with_reducible apply Upd.via; with_reducible apply State.southBadField_upd; decide)
    | (with_reducible apply Upd.via; with_reducible apply State.updAssoc_upd; decide)
    | with_reducible refine UpdO.mk' ?_
    | split
    | dsimp only)

theorem execFtReset_upd {x0 s} : UpdO 536891400 s (execFtReset x0 s) := by
  unfold execFtReset
  repeat' (first
    | with_reducible exact Upd.refl
    | (intro u; clear_value u)
    | lift_lets
    | (with_reducible apply Upd.via; with_reducible apply State.updSouth_upd; decide)
    | (with_reducible apply Upd1.via; with_reducible apply State.acceptOn_upd; decide)
    | with_reducible refine UpdO.mk' ?_
    | split
    | (with_reducible apply Upd.fstOf'; with_reducible assumption))

theorem execFtHandshakeTimeout_upd {x0 s} : UpdO 2148024324 s (execFtHandshakeTimeout x0 s) := by
  unfold execFtHandshakeTimeout
  repeat' (first
    | with_reducible exact Upd.refl
    | (with_reducible apply Upd.via; with_reducible apply State.advanceTo_upd; decide)
    | (with_reducible apply Upd.via; with_reducible apply State.updSouth_upd; decide)
    | with_reducible refine UpdO.mk' ?_
    | split)

theorem execPathConfirm_upd {x0 s} : UpdO 536891400 s (execPathConfirm x0 s) := by
  unfold execPathConfirm
  repeat' (first
    | with_reducible exact Upd.refl
    | lift_lets
    | (with_reducible apply Upd.via; with_reducible apply State.southBadField_upd; decide)
    | (with_reducible apply Upd.via; with_reducible apply State.updAssoc_upd; decide)
    | (with_reducible apply Upd1.via; with_reducible apply State.acceptSouth_upd; decide)
    | with_reducible refine UpdO.mk' ?_
    | split
    | (with_reducible apply Upd.fstOf'; with_reducible assumption))

theorem execFtPathProbe_upd {x0 x1 s} : UpdO 536891400 s (execFtPathProbe x0 x1 s) := by
  unfold execFtPathProbe
  repeat' (first
    | with_reducible exact Upd.refl
    | (with_reducible apply Upd.via; with_reducible apply Upd.fst State.acceptSouth_upd; decide)
    | (with_reducible apply Upd.via; with_reducible apply State.updAssoc_upd; decide)
    | with_reducible refine UpdO.mk' ?_
    | split)

theorem execFtAck_upd {x0 s} : UpdO 536891400 s (execFtAck x0 s) := by
  unfold execFtAck
  repeat' (first
    | with_reducible exact Upd.refl
    | with_reducible assumption
    | (intro u; refine Upd.cut 536891400 s u ?_ (fun _ => ?_); subst u; rotate_left; clear_value u; rotate_right)
    | (intro u; clear_value u)
    | lift_lets
    | with_reducible refine Upd.foldl ?_ (fun _ _ _ => ?_)
    | (with_reducible apply Upd.via; with_reducible apply State.resendSouth_upd; decide)
    | (with_reducible apply Upd.via; with_reducible apply State.setAssoc_upd; decide)
    | (with_reducible apply Upd.via; with_reducible apply State.updSouth_upd; decide)
    | (with_reducible apply Upd1.via; with_reducible apply State.acceptOn_upd; decide)
    | with_reducible refine UpdO.mk' ?_
    | split
    | (with_reducible apply Upd.fstOf'; with_reducible assumption))

theorem execFtRtoExpiry_upd {x0 x1 s} : UpdO 2684895244 s (execFtRtoExpiry x0 x1 s) := by
  unfold execFtRtoExpiry
  repeat' (first
    | with_reducible exact Upd.refl
    | with_reducible assumption
    | (intro u; refine Upd.cut 2684895244 s u ?_ (fun _ => ?_); subst u; rotate_left; clear_value u; rotate_right)
    | (intro u; clear_value u)
    | lift_lets
    | (with_reducible apply Upd.via; with_reducible apply State.advanceTo_upd; decide)
    | (with_reducible apply Upd.via; with_reducible apply State.resendSouth_upd; decide)
    | (with_reducible apply Upd.via; with_reducible apply State.failSouthPaths_upd; decide)
    | (with_reducible apply Upd.via; with_reducible apply State.updAssoc_upd; decide)
    | with_reducible refine UpdO.mk' ?_
    | split)

theorem execFtCredit_upd {x0 s} : UpdO 536891400 s (execFtCredit x0 s) := by
  unfold execFtCredit
  repeat' (first
    | with_reducible exact Upd.refl
    | lift_lets
    | (with_reducible apply Upd.via; with_reducible apply State.southBadField_upd; decide)
    | (with_reducible apply Upd.via; with_reducible apply State.updAssoc_upd; decide)
    | (with_reducible apply Upd1.via; with_reducible apply State.acceptSouth_upd; decide)
    | with_reducible refine UpdO.mk' ?_
    | split
    | (with_reducible apply Upd.fstOf'; with_reducible assumption))

theorem State.shelfReady_upd {s x1} : Upd 536891904 s (State.shelfReady s x1) := by
  unfold State.shelfReady
  dsimp only
  repeat' (first
    | with_reducible exact Upd.refl
    | with_reducible assumption
    | with_reducible refine Upd.foldl ?_ (fun _ _ _ => ?_)
    | (with_reducible apply Upd.via; with_reducible apply State.sendFetch_upd; decide)
    | (with_reducible apply Upd.via; with_reducible apply State.updQueue_upd; decide)
    | (with_reducible apply Upd.via; with_reducible apply State.updShepherd_upd; decide)
    | (with_reducible apply Upd.via; with_reducible apply State.updSouth_upd; decide))

theorem execPowerState_upd {x0 s} : UpdO 537132776 s (execPowerState x0 s) := by
  unfold execPowerState
  repeat' (first
    | with_reducible exact Upd.refl
    | (intro u; clear_value u)
    | lift_lets
    | (with_reducible apply Upd.via; with_reducible apply State.pstateRecord_upd; decide)
    | (with_reducible apply Upd.via; with_reducible apply State.setPstate_upd; decide)
    | (with_reducible apply Upd.via; with_reducible apply State.wake_upd; decide)
    | (with_reducible apply Upd.via; with_reducible apply State.needAgain_upd; decide)
    | (with_reducible apply Upd.via; with_reducible apply Upd.fst State.acceptSouth_upd; decide)
    | (with_reducible apply Upd.via; with_reducible apply State.southBadField_upd; decide)
    | (with_reducible apply Upd.via; with_reducible apply State.faultShelf_upd; decide)
    | (with_reducible apply Upd.via; with_reducible apply State.shelfReady_upd; decide)
    | (with_reducible apply Upd.via; with_reducible apply State.updAssoc_upd; decide)
    | with_reducible refine UpdO.mk' ?_
    | split
    | dsimp only)

theorem State.checkIn_upd {s x1 x2} : Upd 1310312 s (State.checkIn s x1 x2) := by
  unfold State.checkIn
  repeat' (first
    | with_reducible exact Upd.refl
    | with_reducible assumption
    | (intro u; refine Upd.cut 1310312 s u ?_ (fun _ => ?_); subst u; rotate_left; clear_value u; rotate_right)
    | (intro u; clear_value u)
    | lift_lets
    | (with_reducible apply Upd.via; with_reducible apply State.coreNote_upd; decide)
    | (with_reducible apply Upd.via; with_reducible apply State.trailRec_upd; decide)
    | (with_reducible apply Upd.via; with_reducible apply State.setMedia_upd; decide))

theorem State.reportTag_upd {s x1} : Upd 1310312 s (State.reportTag s x1) := by
  unfold State.reportTag
  repeat' (first
    | with_reducible exact Upd.refl
    | with_reducible assumption
    | (intro u; refine Upd.cut 1310312 s u ?_ (fun _ => ?_); subst u; rotate_left; clear_value u; rotate_right)
    | (intro u; clear_value u)
    | lift_lets
    | (with_reducible apply Upd.via; with_reducible apply State.trailRec_upd; decide)
    | (with_reducible apply Upd.via; with_reducible apply State.setMedia_upd; decide)
    | (with_reducible apply Upd.via; with_reducible apply State.checkIn_upd; decide)
    | (with_reducible apply Upd.via; with_reducible apply State.updShepherd_upd; decide)
    | split)

theorem State.reportEntry_upd {s x1 x2} : Upd 538181352 s (State.reportEntry s x1 x2) := by
  unfold State.reportEntry
  repeat' (first
    | with_reducible exact Upd.refl
    | with_reducible assumption
    | (intro u; refine Upd.cut 538181352 s u ?_ (fun _ => ?_); subst u; rotate_left; clear_value u; rotate_right)
    | (intro u; clear_value u)
    | lift_lets
    | split
    | (with_reducible apply Upd.via; with_reducible apply State.setMedia_upd; decide)
    | (with_reducible apply Upd.via; with_reducible apply State.failMedium_upd; decide)
    | (with_reducible apply Upd.via; with_reducible apply State.reportTag_upd; decide)
    | (with_reducible apply Upd.via; with_reducible apply State.updShepherd_upd; decide))

theorem execReport_upd {x0 s} : UpdO 538181352 s (execReport x0 s) := by
  unfold execReport
  repeat' (first
    | with_reducible exact Upd.refl
    | with_reducible assumption
    | lift_lets
    | with_reducible refine Upd.foldl ?_ (fun _ _ _ => ?_)
    | split
    | (with_reducible apply Upd.via; with_reducible apply State.southBadField_upd; decide)
    | (with_reducible apply Upd.via; with_reducible apply State.reportEntry_upd; decide)
    | (with_reducible apply Upd1.via; with_reducible apply State.acceptSouth_upd; decide)
    | with_reducible refine UpdO.mk' ?_
    | (with_reducible apply Upd.fstOf'; with_reducible assumption))

theorem State.updOwned_upd {s x1 x2} : Upd 16896 s (State.updOwned s x1 x2) := by
  unfold State.updOwned
  repeat' (first
    | with_reducible exact Upd.refl
    | (with_reducible apply Upd.via; with_reducible apply State.updFrag_upd; decide)
    | (with_reducible apply Upd.via; with_reducible apply State.updRepairFrag_upd; decide)
    | split)

theorem State.settleRepair_upd {s x1} : Upd 519784 s (State.settleRepair s x1) := by
  unfold State.settleRepair
  repeat' (first
    | with_reducible exact Upd.refl
    | with_reducible assumption
    | (intro u; refine Upd.cut 519784 s u ?_ (fun _ => ?_); subst u; rotate_left; clear_value u; rotate_right)
    | (intro u; clear_value u)
    | lift_lets
    | (with_reducible apply Upd.via; with_reducible apply State.addLeaf_upd; decide)
    | (with_reducible apply Upd.via; with_reducible apply State.updSouth_upd; decide)
    | split)

theorem State.moveAway_upd {s x1} : Upd 152200 s (State.moveAway s x1) := by
  unfold State.moveAway
  repeat' (first
    | with_reducible exact Upd.refl
    | lift_lets
    | split
    | (with_reducible apply Upd.via; with_reducible apply State.bump_upd; decide)
    | (with_reducible apply Upd.via; with_reducible apply State.addAlloc_upd; decide)
    | (with_reducible apply Upd.via; with_reducible apply State.subAlloc_upd; decide)
    | (with_reducible apply Upd.via; with_reducible apply State.subPending_upd; decide)
    | (with_reducible apply Upd.via; with_reducible apply State.retargetFrag_upd; decide)
    | (with_reducible apply Upd.via; with_reducible apply State.repairStaged_upd; decide)
    | (with_reducible apply Upd.via; with_reducible apply State.updRepairFrag_upd; decide)
    | (with_reducible apply Upd.via; with_reducible apply State.updSouth_upd; decide)
    | dsimp only)

theorem State.durableGood_upd {s x1 x2} : Upd 524008 s (State.durableGood s x1 x2) := by
  unfold State.durableGood
  repeat' (first
    | with_reducible exact Upd.refl
    | with_reducible assumption
    | (intro u; refine Upd.cut 524008 s u ?_ (fun _ => ?_); subst u; rotate_left; clear_value u; rotate_right)
    | lift_lets
    | (with_reducible apply Upd.via; with_reducible apply State.subPending_upd; decide)
    | (with_reducible apply Upd.via; with_reducible apply State.touchShelf_upd; decide)
    | (with_reducible apply Upd.via; with_reducible apply State.trySettle_upd; decide)
    | (with_reducible apply Upd.via; with_reducible apply State.updOwned_upd; decide)
    | (with_reducible apply Upd.via; with_reducible apply State.settleRepair_upd; decide)
    | (with_reducible apply Upd.via; with_reducible apply State.settleLater_upd; decide)
    | (with_reducible apply Upd.via; with_reducible apply State.setExtent_upd; decide)
    | split)

theorem State.finishCatalogue_upd {s x1} : Upd 536887296 s (State.finishCatalogue s x1) := by
  unfold State.finishCatalogue
  repeat' (first
    | with_reducible exact Upd.refl
    | with_reducible assumption
    | (intro u; refine Upd.cut 536887296 s u ?_ (fun _ => ?_); subst u; rotate_left; clear_value u; rotate_right)
    | (intro u; clear_value u)
    | lift_lets
    | with_reducible refine Upd.foldl ?_ (fun _ _ _ => ?_)
    | (with_reducible apply Upd.via; with_reducible apply State.sendSouth_upd; decide)
    | (with_reducible apply Upd.via; with_reducible apply Upd.snd State.newXid_upd; decide)
    | (with_reducible apply Upd.via; with_reducible apply State.updSouth_upd; decide)
    | split)

theorem State.durableOutcome_upd {s x1 x2 x3 x4} : Upd 537394920 s (State.durableOutcome s x1 x2 x3 x4) := by
  unfold State.durableOutcome
  dsimp only
  repeat' (first
    | with_reducible exact Upd.refl
    | split
    | (with_reducible apply Upd.via; with_reducible apply State.raise_upd; decide)
    | (with_reducible apply Upd.via; with_reducible apply State.writeMedia_upd; decide)
    | (with_reducible apply Upd.via; with_reducible apply State.failMedium_upd; decide)
    | (with_reducible apply Upd.via; with_reducible apply State.updOwned_upd; decide)
    | (with_reducible apply Upd.via; with_reducible apply State.moveAway_upd; decide)
    | (with_reducible apply Upd.via; with_reducible apply State.durableGood_upd; decide))

theorem execDurable_upd {x0 s} : UpdO 537394920 s (execDurable x0 s) := by
  unfold execDurable
  repeat' (first
    | with_reducible exact Upd.refl
    | (intro u; clear_value u)
    | lift_lets
    | (with_reducible apply Upd.via; with_reducible apply State.touchShelf_upd; decide)
    | (with_reducible apply Upd.via; with_reducible apply Upd.fst State.acceptSouth_upd; decide)
    | (with_reducible apply Upd.via; with_reducible apply State.southBadField_upd; decide)
    | (with_reducible apply Upd.via; with_reducible apply State.finishCatalogue_upd; decide)
    | (with_reducible apply Upd.via; with_reducible apply State.durableOutcome_upd; decide)
    | (with_reducible apply Upd.via; with_reducible apply State.sendSouth_upd; decide)
    | (with_reducible apply Upd.via; with_reducible apply Upd.snd State.newXid_upd; decide)
    | (with_reducible apply Upd.via; with_reducible apply State.updSouth_upd; decide)
    | with_reducible refine UpdO.mk' ?_
    | split
    | dsimp only)

theorem execDurableTimeout_upd {x0 x1 s} : UpdO 2148269804 s (execDurableTimeout x0 x1 s) := by
  unfold execDurableTimeout
  repeat' (first
    | with_reducible exact Upd.refl
    | with_reducible assumption
    | (intro u; refine Upd.cut 2148269804 s u ?_ (fun _ => ?_); subst u; rotate_left; clear_value u; rotate_right)
    | (intro u; clear_value u)
    | lift_lets
    | (with_reducible apply Upd.via; with_reducible apply State.raise_upd; decide)
    | (with_reducible apply Upd.via; with_reducible apply State.advanceTo_upd; decide)
    | (with_reducible apply Upd.via; with_reducible apply State.updOwned_upd; decide)
    | (with_reducible apply Upd.via; with_reducible apply State.moveAway_upd; decide)
    | with_reducible refine UpdO.mk' ?_
    | split)

theorem State.sendCopy_upd {s x1 x2 x3} : Upd 536887296 s (State.sendCopy s x1 x2 x3) := by
  unfold State.sendCopy
  repeat' (first
    | with_reducible exact Upd.refl
    | (intro u; clear_value u)
    | lift_lets
    | with_reducible refine Upd.fst (Upd1.foldl ?_ (fun _ _ _ => ?_))
    | split
    | (with_reducible apply Upd.via; with_reducible apply State.sendSouth_upd; decide)
    | (with_reducible apply Upd.via; with_reducible apply Upd.snd State.newXid_upd; decide)
    | (with_reducible apply Upd.via; with_reducible apply State.updSouth_upd; decide)
    | with_reducible refine Upd1.mk' ?_
    | with_reducible exact Upd.fst (by assumption))

theorem State.sendPut_upd {s x1 x2 x3 x4 x5} : Upd 536887808 s (State.sendPut s x1 x2 x3 x4 x5) := by
  unfold State.sendPut
  repeat' (first
    | with_reducible exact Upd.refl
    | with_reducible assumption
    | (intro u; refine Upd.cut 536887808 s u ?_ (fun _ => ?_); subst u; rotate_left; clear_value u; rotate_right)
    | lift_lets
    | with_reducible refine Upd.fst (Upd1.foldl ?_ (fun _ _ _ => ?_))
    | split
    | (with_reducible apply Upd.via; with_reducible apply State.updOwned_upd; decide)
    | (with_reducible apply Upd.via; with_reducible apply State.sendSouth_upd; decide)
    | (with_reducible apply Upd2.via; with_reducible apply State.newXid_upd; decide)
    | with_reducible refine Upd1.mk' ?_
    | with_reducible exact Upd.fst (by assumption)
    | (with_reducible apply Upd.sndOf'; with_reducible assumption))

end Sys2Proof.Machine
end

