-- ==== Sys2Proof/Laws/UpdReader.lean ====
section
/-! SUPPORT. What each operation of Machine/Reader.lean touches and keeps. -/

namespace Sys2Proof.Machine

theorem State.updReader_upd {s f} : Upd 2097152 s (State.updReader s f) := Upd.refl.put_reader (by decide)

theorem State.showCard_upd {s x1} : Upd 1073741832 s (State.showCard s x1) := by
  unfold State.showCard
  repeat' (first
    | with_reducible exact Upd.refl
    | with_reducible assumption
    | (intro u; refine Upd.cut 1073741832 s u ?_ (fun _ => ?_); subst u; rotate_left; clear_value u; rotate_right)
    | lift_lets
    | (with_reducible apply Upd.via; with_reducible apply State.wr_upd; decide)
    | (with_reducible apply Upd.via; with_reducible apply State.flag_upd; decide)
    | (with_reducible apply Upd.via; with_reducible apply Upd.snd State.draw_upd; decide)
    | split)

theorem State.dropCard_upd {s x1} : Upd 2097160 s (State.dropCard s x1) := by
  unfold State.dropCard
  repeat' (first
    | with_reducible exact Upd.refl
    | with_reducible assumption
    | (intro u; refine Upd.cut 2097160 s u ?_ (fun _ => ?_); subst u; rotate_left; clear_value u; rotate_right)
    | lift_lets
    | (with_reducible apply Upd.via; with_reducible apply State.wr_upd; decide)
    | (with_reducible apply Upd.via; with_reducible apply State.flag_upd; decide)
    | (with_reducible apply Upd.via; with_reducible apply State.updReader_upd; decide))

theorem State.haltCard_upd {s} : Upd 2097160 s (State.haltCard s) := by
  unfold State.haltCard
  repeat' (first
    | with_reducible exact Upd.refl
    | (with_reducible apply Upd.via; with_reducible apply State.updReader_upd; decide)
    | (with_reducible apply Upd.via; with_reducible apply State.dropCard_upd; decide)
    | split)

theorem State.cartridgeTap_upd {s x1} : Upd 1310312 s (State.cartridgeTap s x1) := by
  unfold State.cartridgeTap
  repeat' (first
    | with_reducible exact Upd.refl
    | (with_reducible apply Upd.via; with_reducible apply State.checkIn_upd; decide)
    | (with_reducible apply Upd.via; with_reducible apply State.updShepherd_upd; decide)
    | split)

theorem State.sendM1_upd {s} : Upd 1612709888 s (State.sendM1 s) := by
  unfold State.sendM1
  repeat' (first
    | with_reducible exact Upd.refl
    | lift_lets
    | (with_reducible apply Upd.via; with_reducible apply Upd.snd State.draw_upd; decide)
    | (with_reducible apply Upd.via; with_reducible apply State.emit_upd; decide)
    | (with_reducible apply Upd.via; with_reducible apply State.updReader_upd; decide))

theorem State.serveTap_upd {s x1} : Upd1 1614020200 s (State.serveTap s x1) := by
  unfold State.serveTap
  repeat' (first
    | with_reducible exact Upd.refl
    | with_reducible assumption
    | (intro u; refine Upd.cut 1614020200 s u ?_ (fun _ => ?_); subst u; rotate_left; clear_value u; rotate_right)
    | lift_lets
    | split
    | (with_reducible apply Upd.via; with_reducible apply State.emit_upd; decide)
    | (with_reducible apply Upd.via; with_reducible apply State.trailRec_upd; decide)
    | (with_reducible apply Upd.via; with_reducible apply State.haltCard_upd; decide)
    | (with_reducible apply Upd.via; with_reducible apply State.cartridgeTap_upd; decide)
    | (with_reducible apply Upd.via; with_reducible apply State.sendM1_upd; decide)
    | with_reducible refine Upd1.mk' ?_)

theorem State.selectCard_upd {s x1} : Upd1 1614020200 s (State.selectCard s x1) := by
  unfold State.selectCard
  repeat' (first
    | with_reducible exact Upd.refl
    | with_reducible assumption
    | (intro u; refine Upd.cut 1614020200 s u ?_ (fun _ => ?_); subst u; rotate_left; clear_value u; rotate_right)
    | (intro u; clear_value u)
    | lift_lets
    | (with_reducible apply Upd.via; with_reducible apply State.interrupt_upd; decide)
    | (with_reducible apply Upd.via; with_reducible apply State.updReader_upd; decide)
    | (with_reducible apply Upd.via; with_reducible apply State.showCard_upd; decide)
    | (with_reducible apply Upd.via; with_reducible apply Upd.fst State.serveTap_upd; decide)
    | with_reducible refine Upd1.mk' ?_
    | split)

theorem State.pollField_upd {s x1} : Upd1 1614020200 s (State.pollField s x1) := by
  unfold State.pollField
  repeat' (first
    | with_reducible exact Upd.refl
    | with_reducible assumption
    | (intro u; refine Upd.cut 1614020200 s u ?_ (fun _ => ?_); subst u; rotate_left; clear_value u; rotate_right)
    | lift_lets
    | split
    | (with_reducible apply Upd.via; with_reducible apply State.bump_upd; decide)
    | (with_reducible apply Upd.via; with_reducible apply State.updReader_upd; decide)
    | (with_reducible apply Upd.via; with_reducible apply State.dropCard_upd; decide)
    | (with_reducible apply Upd1.via; with_reducible apply State.selectCard_upd; decide)
    | with_reducible refine Upd1.mk' ?_)

theorem execDetectionPing_upd {x0 x1 x2 s} : UpdO 3762028140 s (execDetectionPing x0 x1 x2 s) := by
  unfold execDetectionPing
  repeat' (first
    | with_reducible exact Upd.refl
    | with_reducible assumption
    | (intro u; refine Upd.cut 3762028140 s u ?_ (fun _ => ?_); subst u; rotate_left; clear_value u; rotate_right)
    | lift_lets
    | split
    | (with_reducible apply Upd.via; with_reducible apply State.advance_upd; decide)
    | (with_reducible apply Upd.via; with_reducible apply State.updReader_upd; decide)
    | (with_reducible apply Upd.via; with_reducible apply Upd.fst State.pollField_upd; decide)
    | with_reducible refine UpdO.mk' ?_)

theorem execPendingCheckinExpiry_upd {s} : UpdO 2148012036 s (execPendingCheckinExpiry s) := by
  unfold execPendingCheckinExpiry
  repeat' (first
    | with_reducible exact Upd.refl
    | (with_reducible apply Upd.via; with_reducible apply State.advanceTo_upd; decide)
    | (with_reducible apply Upd.via; with_reducible apply State.updShepherd_upd; decide)
    | with_reducible refine UpdO.mk' ?_
    | split)

theorem execTapIdleTimeout_upd {s} : UpdO 2150105100 s (execTapIdleTimeout s) := by
  unfold execTapIdleTimeout
  repeat' (first
    | with_reducible exact Upd.refl
    | (with_reducible apply Upd.via; with_reducible apply State.advanceTo_upd; decide)
    | (with_reducible apply Upd.via; with_reducible apply State.dropCard_upd; decide)
    | (with_reducible apply Upd.via; with_reducible apply State.haltCard_upd; decide)
    | with_reducible refine UpdO.mk' ?_
    | split)

theorem execExternalField_upd {s} : UpdO 2097152 s (execExternalField s) := by
  unfold execExternalField
  repeat' (first
    | with_reducible exact Upd.refl
    | (with_reducible apply Upd.via; with_reducible apply State.updReader_upd; decide)
    | with_reducible refine UpdO.mk' ?_
    | split)

theorem execExtFieldGone_upd {s} : UpdO 2097152 s (execExtFieldGone s) := by
  unfold execExtFieldGone
  repeat' (first
    | with_reducible exact Upd.refl
    | (with_reducible apply Upd.via; with_reducible apply State.updReader_upd; decide)
    | with_reducible refine UpdO.mk' ?_
    | split)

theorem State.nfcCmd_upd {m t s x1 x2 x3} (h : Upd m t s) (hm : Nat.land 2097160 m = 2097160) (hb : ∀ u, Upd m t u → Upd1 m t (x3 u)) :
    Upd m t (State.nfcCmd s x1 x2 x3) := by
  unfold State.nfcCmd
  repeat' (first
    | with_reducible assumption
    | (intro u; refine Upd.cut m t u ?_ (fun _ => ?_); subst u; rotate_left; clear_value u; rotate_right)
    | lift_lets
    | with_reducible refine hb _ ?_
    | split
    | (with_reducible apply Upd.via; with_reducible apply State.wr_upd; exact landTrans (by decide) hm)
    | (with_reducible apply Upd.via; with_reducible apply State.interrupt_upd; exact landTrans (by decide) hm)
    | (with_reducible apply Upd.via; with_reducible apply State.updReader_upd; exact landTrans (by decide) hm)
    | with_reducible refine Upd1.mk' ?_
    | (with_reducible apply Upd.fstOf'; with_reducible assumption))

theorem execPoll_upd {x0 x1 s} : UpdO 1614020200 s (execPoll x0 x1 s) := by
  unfold execPoll
  repeat' (first
    | with_reducible exact Upd.refl
    | with_reducible assumption
    | (with_reducible apply Upd1.via; with_reducible apply State.pollField_upd; decide)
    | with_reducible refine State.nfcCmd_upd ?_ (by decide) (fun _ _ => ?_)
    | with_reducible refine UpdO.mk' ?_)

theorem State.activate_upd {s x1} : Upd 2097160 s (State.activate s x1) := by
  unfold State.activate
  repeat' (first
    | with_reducible exact Upd.refl
    | (with_reducible apply Upd.via; with_reducible apply State.wr_upd; decide)
    | (with_reducible apply Upd.via; with_reducible apply State.updReader_upd; decide)
    | split)

theorem State.nfcAnswer_upd {s x1} : Upd1 258024 s (State.nfcAnswer s x1) := by
  unfold State.nfcAnswer
  repeat' (first
    | with_reducible exact Upd.refl
    | (intro u; clear_value u)
    | lift_lets
    | split
    | (with_reducible apply Upd.via; with_reducible apply State.writeMem_upd; decide)
    | (with_reducible apply Upd.via; with_reducible apply State.wr_upd; decide)
    | (with_reducible apply Upd2.via; with_reducible apply State.guardRange_upd; decide)
    | with_reducible refine Upd1.mk' ?_
    | with_reducible refine Upd2.mk' ?_
    | (with_reducible apply Upd.sndOf'; with_reducible assumption))

theorem execExchange_upd {x0 x1 s} : UpdO 539226088 s (execExchange x0 x1 s) := by
  unfold execExchange
  repeat' (first
    | with_reducible exact Upd.refl
    | with_reducible assumption
    | (intro u; clear_value u)
    | lift_lets
    | (with_reducible apply Upd.via; with_reducible apply Upd.snd State.guardRange_upd; decide)
    | (with_reducible apply Upd.via; with_reducible apply State.emit_upd; decide)
    | (with_reducible apply Upd.via; with_reducible apply State.activate_upd; decide)
    | (with_reducible apply Upd.via; with_reducible apply Upd.fst State.nfcAnswer_upd; decide)
    | with_reducible refine State.nfcCmd_upd ?_ (by decide) (fun _ _ => ?_)
    | with_reducible refine Upd1.mk' ?_
    | with_reducible refine Upd2.mk' ?_
    | with_reducible refine UpdO.mk' ?_
    | split
    | (with_reducible apply Upd.sndOf'; with_reducible assumption))

theorem execDeselect_upd {x0 s} : UpdO 2097160 s (execDeselect x0 s) := by
  unfold execDeselect
  repeat' (first
    | with_reducible exact Upd.refl
    | with_reducible assumption
    | (with_reducible apply Upd.via; with_reducible apply State.haltCard_upd; decide)
    | with_reducible refine State.nfcCmd_upd ?_ (by decide) (fun _ _ => ?_)
    | with_reducible refine Upd1.mk' ?_
    | with_reducible refine UpdO.mk' ?_
    | split)

theorem execFieldOff_upd {x0 s} : UpdO 2097160 s (execFieldOff x0 s) := by
  unfold execFieldOff
  repeat' (first
    | with_reducible exact Upd.refl
    | with_reducible assumption
    | (with_reducible apply Upd.via; with_reducible apply State.dropCard_upd; decide)
    | with_reducible refine State.nfcCmd_upd ?_ (by decide) (fun _ _ => ?_)
    | with_reducible refine Upd1.mk' ?_
    | with_reducible refine UpdO.mk' ?_)

theorem execNextCard_upd {x0 x1 s} : UpdO 1614020200 s (execNextCard x0 x1 s) := by
  unfold execNextCard
  repeat' (first
    | with_reducible exact Upd.refl
    | with_reducible assumption
    | (intro u; refine Upd.cut 1614020200 s u ?_ (fun _ => ?_); subst u; rotate_left; clear_value u; rotate_right)
    | lift_lets
    | (with_reducible apply Upd.via; with_reducible apply State.dropCard_upd; decide)
    | (with_reducible apply Upd.via; with_reducible apply State.haltCard_upd; decide)
    | (with_reducible apply Upd.via; with_reducible apply Upd.fst State.selectCard_upd; decide)
    | with_reducible refine State.nfcCmd_upd ?_ (by decide) (fun _ _ => ?_)
    | with_reducible refine Upd1.mk' ?_
    | with_reducible refine UpdO.mk' ?_
    | split)

end Sys2Proof.Machine
end

