-- ==== Sys2Proof/Laws/UpdInterrupts.lean ====
section
/-! SUPPORT. What each operation of Machine/Interrupts.lean touches and keeps. -/

namespace Sys2Proof.Machine

theorem State.delivered_upd {s x1 x2} : Upd 8 s (State.delivered s x1 x2) := by
  unfold State.delivered
  repeat' (first
    | with_reducible exact Upd.refl
    | (with_reducible apply Upd.via; with_reducible apply State.flag_upd; decide)
    | split)

theorem State.claim_upd {s x1 x2} : Upd2 131080 s (State.claim s x1 x2) := by
  unfold State.claim
  repeat' (first
    | with_reducible exact Upd.refl
    | with_reducible assumption
    | (intro u; refine Upd.cut 131080 s u ?_ (fun _ => ?_); subst u; rotate_left; clear_value u; rotate_right)
    | (intro u; clear_value u)
    | lift_lets
    | split
    | (with_reducible apply Upd.via; with_reducible apply State.delivered_upd; decide)
    | (with_reducible apply Upd.via; with_reducible apply State.flag_upd; decide)
    | (with_reducible apply Upd.via; with_reducible apply State.updCores_upd; decide)
    | with_reducible refine Upd2.mk' ?_)

theorem State.endOfInterrupt_upd {s x1 x2 x3} : Upd 131072 s (State.endOfInterrupt s x1 x2 x3) := by
  unfold State.endOfInterrupt
  repeat' (first
    | with_reducible exact Upd.refl
    | (with_reducible apply Upd.via; with_reducible apply State.updCores_upd; decide))

theorem State.softInterrupt_upd {s x1 x2} : Upd 8 s (State.softInterrupt s x1 x2) := by
  unfold State.softInterrupt
  repeat' (first
    | with_reducible exact Upd.refl
    | (with_reducible apply Upd.via; with_reducible apply State.interrupt_upd; decide)
    | split)

theorem execIcClaim_upd {x0 x1 s} : UpdO 537001992 s (execIcClaim x0 x1 s) := by
  unfold execIcClaim
  repeat' (first
    | with_reducible exact Upd.refl
    | lift_lets
    | split
    | (with_reducible apply Upd.via; with_reducible apply State.emit_upd; decide)
    | (with_reducible apply Upd2.via; with_reducible apply State.claim_upd; decide)
    | with_reducible refine UpdO.mk' ?_
    | (with_reducible apply Upd.sndOf'; with_reducible assumption))

theorem execIcEoi_upd {x0 x1 x2 s} : UpdO 131072 s (execIcEoi x0 x1 x2 s) := by
  unfold execIcEoi
  repeat' (first
    | with_reducible exact Upd.refl
    | (with_reducible apply Upd.via; with_reducible apply State.endOfInterrupt_upd; decide)
    | with_reducible refine UpdO.mk' ?_)

theorem execIcSwi_upd {x0 x1 s} : UpdO 8 s (execIcSwi x0 x1 s) := by
  unfold execIcSwi
  repeat' (first
    | with_reducible exact Upd.refl
    | (with_reducible apply Upd.via; with_reducible apply State.softInterrupt_upd; decide)
    | with_reducible refine UpdO.mk' ?_)

theorem execTimerInterrupt_upd {x0 x1 s} : UpdO 131072 s (execTimerInterrupt x0 x1 s) := by
  unfold execTimerInterrupt
  repeat' (first
    | with_reducible exact Upd.refl
    | (with_reducible apply Upd.via; with_reducible apply State.updPair_upd; decide)
    | with_reducible refine UpdO.mk' ?_
    | split)

theorem execCoreImHeld_upd {x0 x1 s} : UpdO 257640 s (execCoreImHeld x0 x1 s) := by
  unfold execCoreImHeld
  repeat' (first
    | with_reducible exact Upd.refl
    | (intro u; clear_value u)
    | lift_lets
    | (with_reducible apply Upd.via; with_reducible apply State.raise_upd; decide)
    | (with_reducible apply Upd.via; with_reducible apply State.fall_upd; decide)
    | (with_reducible apply Upd.via; with_reducible apply State.updPair_upd; decide)
    | with_reducible refine UpdO.mk' ?_
    | split)

end Sys2Proof.Machine
end

