-- ==== Sys2Proof/Laws/UpdRegs.lean ====
section
/-! SUPPORT. What each operation of Machine/Regs.lean touches and keeps. -/

namespace Sys2Proof.Machine

theorem State.clearRead_upd {s x1 x2} : Upd 8 s (State.clearRead s x1 x2) := by
  unfold State.clearRead
  repeat' (first
    | with_reducible exact Upd.refl
    | with_reducible assumption
    | with_reducible refine Upd.foldl ?_ (fun _ _ _ => ?_)
    | (with_reducible apply Upd.via; with_reducible apply State.wr_upd; decide)
    | split)

theorem State.readReg_upd {s x1 x2 x3} : Upd2 1073999480 s (State.readReg s x1 x2 x3) := by
  unfold State.readReg
  repeat' (first
    | with_reducible exact Upd.refl
    | with_reducible assumption
    | (intro u; refine Upd.cut 1073999480 s u ?_ (fun _ => ?_); subst u; rotate_left; clear_value u; rotate_right)
    | (intro u; clear_value u)
    | lift_lets
    | split
    | (with_reducible apply Upd.via; with_reducible apply State.readRecord_upd; decide)
    | (with_reducible apply Upd.via; with_reducible apply State.setLatch_upd; decide)
    | (with_reducible apply Upd.via; with_reducible apply State.clearRead_upd; decide)
    | (with_reducible apply Upd2.via; with_reducible apply State.claim_upd; decide)
    | (with_reducible apply Upd2.via; with_reducible apply State.draw_upd; decide)
    | with_reducible refine Upd2.mk' ?_
    | (with_reducible apply Upd.sndOf'; with_reducible assumption))

theorem State.afterWrite_upd {s x1 x2} : Upd 257640 s (State.afterWrite s x1 x2) := by
  unfold State.afterWrite
  repeat' (first
    | with_reducible exact Upd.refl
    | (with_reducible apply Upd.via; with_reducible apply State.settleTrng_upd; decide)
    | (with_reducible apply Upd.via; with_reducible apply State.wr_upd; decide)
    | (with_reducible apply Upd.via; with_reducible apply State.flag_upd; decide)
    | (with_reducible apply Upd.via; with_reducible apply State.setBit_upd; decide)
    | (with_reducible apply Upd.via; with_reducible apply State.balancePools_upd; decide)
    | split)

theorem State.clearSticky_upd {s x1 x2} : Upd 32 s (State.clearSticky s x1 x2) := by
  unfold State.clearSticky
  repeat' (first
    | with_reducible exact Upd.refl
    | (with_reducible apply Upd.via; with_reducible apply State.updCollector_upd; decide))

theorem State.writeField_upd {s x1 x2 x3 x4} : Upd 257640 s (State.writeField s x1 x2 x3 x4) := by
  unfold State.writeField
  repeat' (first
    | with_reducible exact Upd.refl
    | (intro u; clear_value u)
    | lift_lets
    | (with_reducible apply Upd.via; with_reducible apply State.wr_upd; decide)
    | (with_reducible apply Upd.via; with_reducible apply State.afterWrite_upd; decide)
    | (with_reducible apply Upd.via; with_reducible apply State.clearSticky_upd; decide)
    | split)

theorem State.settleRing_upd {s} : Upd 65536 s (State.settleRing s) := by
  unfold State.settleRing
  repeat' (first
    | with_reducible exact Upd.refl
    | (with_reducible apply Upd.via; with_reducible apply State.updAwl_upd; decide)
    | split)

theorem State.writeReg_upd {s x1 x2 x3 x4} : Upd 257656 s (State.writeReg s x1 x2 x3 x4) := by
  unfold State.writeReg
  repeat' (first
    | with_reducible exact Upd.refl
    | with_reducible assumption
    | (intro u; clear_value u)
    | lift_lets
    | with_reducible refine Upd.foldl ?_ (fun _ _ _ => ?_)
    | (with_reducible apply Upd.via; with_reducible apply State.endOfInterrupt_upd; decide)
    | (with_reducible apply Upd.via; with_reducible apply State.softInterrupt_upd; decide)
    | (with_reducible apply Upd.via; with_reducible apply State.setLatch_upd; decide)
    | (with_reducible apply Upd.via; with_reducible apply State.writeField_upd; decide)
    | (with_reducible apply Upd.via; with_reducible apply State.settleRing_upd; decide)
    | split)

theorem execRegisterWrite_upd {x0 x1 x2 x3 s} : UpdO 257656 s (execRegisterWrite x0 x1 x2 x3 s) := by
  unfold execRegisterWrite
  repeat' (first
    | with_reducible exact Upd.refl
    | (with_reducible apply Upd.via; with_reducible apply State.writeReg_upd; decide)
    | with_reducible refine UpdO.mk' ?_)

theorem execRcCounterRead_upd {x0 x1 x2 s} : UpdO 1610870392 s (execRcCounterRead x0 x1 x2 s) := by
  unfold execRcCounterRead
  repeat' (first
    | with_reducible exact Upd.refl
    | lift_lets
    | (with_reducible apply Upd.via; with_reducible apply State.emit_upd; decide)
    | (with_reducible apply Upd.via; with_reducible apply Upd.snd State.readReg_upd; decide)
    | with_reducible refine UpdO.mk' ?_)

end Sys2Proof.Machine
end

