-- ==== Sys2Proof/Laws/UpdReset.lean ====
section
/-! SUPPORT. What each operation of Machine/Reset.lean touches and keeps. -/

namespace Sys2Proof.Machine

theorem State.clearMain_upd {s} : Upd 535298043 s (State.clearMain s) :=
  ⟨rfl, Nat.le_refl _, Nat.le_refl _, ⟨[], rfl⟩, fun h => by
    unfold State.tidy at *
    simp only [Bool.and_eq_true, State.clearMain] at *
    obtain ⟨⟨⟨⟨_, b⟩, _⟩, d⟩, e⟩ := h
    exact ⟨⟨⟨⟨rfl, rising_tkeep b⟩, rfl⟩, rising_tkeep d⟩, rising_tkeep e⟩, fun p hp => by cases p <;> first | rfl | cases hp⟩

theorem State.mainReset_upd {s x1} : Upd 2683305983 s (State.mainReset s x1) := by
  unfold State.mainReset
  repeat' (first
    | with_reducible exact Upd.refl
    | (with_reducible apply Upd.via; with_reducible apply State.flag_upd; decide)
    | (with_reducible apply Upd.via; with_reducible apply State.advance_upd; decide)
    | (with_reducible apply Upd.via; with_reducible apply State.clearMain_upd; decide)
    | split)

theorem State.holdReset_upd {s x1 x2} : Upd 535298043 s (State.holdReset s x1 x2) := by
  unfold State.holdReset
  repeat' (first
    | with_reducible exact Upd.refl
    | with_reducible assumption
    | (intro u; refine Upd.cut 535298043 s u ?_ (fun _ => ?_); subst u; rotate_left; clear_value u; rotate_right)
    | lift_lets
    | (with_reducible apply Upd.via; with_reducible apply State.raise_upd; decide)
    | (with_reducible apply Upd.via; with_reducible apply State.flag_upd; decide)
    | (with_reducible apply Upd.via; with_reducible apply State.updChip_upd; decide)
    | (with_reducible apply Upd.via; with_reducible apply State.clearMain_upd; decide)
    | split)

theorem execRefclkLoss_upd {s} : UpdO 535298043 s (execRefclkLoss s) := by
  unfold execRefclkLoss
  repeat' (first
    | with_reducible exact Upd.refl
    | (with_reducible apply Upd.via; with_reducible apply State.holdReset_upd; decide)
    | with_reducible refine UpdO.mk' ?_)

theorem execPllUnlock_upd {s} : UpdO 535298043 s (execPllUnlock s) := by
  unfold execPllUnlock
  repeat' (first
    | with_reducible exact Upd.refl
    | (with_reducible apply Upd.via; with_reducible apply State.holdReset_upd; decide)
    | with_reducible refine UpdO.mk' ?_)

theorem execRefclkRestore_upd {s} : UpdO 2164785156 s (execRefclkRestore s) := by
  unfold execRefclkRestore
  repeat' (first
    | with_reducible exact Upd.refl
    | (with_reducible apply Upd.via; with_reducible apply State.updChip_upd; decide)
    | (with_reducible apply Upd.via; with_reducible apply State.advance_upd; decide)
    | with_reducible refine UpdO.mk' ?_
    | split)

theorem execLaneRefLoss_upd {x0 s} : UpdO 537128552 s (execLaneRefLoss x0 s) := by
  unfold execLaneRefLoss
  repeat' (first
    | with_reducible exact Upd.refl
    | with_reducible assumption
    | (intro u; refine Upd.cut 537128552 s u ?_ (fun _ => ?_); subst u; rotate_left; clear_value u; rotate_right)
    | (intro u; clear_value u)
    | lift_lets
    | with_reducible refine Upd.foldl ?_ (fun _ _ _ => ?_)
    | split
    | (with_reducible apply Upd.via; with_reducible apply State.raise_upd; decide)
    | (with_reducible apply Upd.via; with_reducible apply State.flag_upd; decide)
    | (with_reducible apply Upd.via; with_reducible apply State.failPath_upd; decide)
    | (with_reducible apply Upd.via; with_reducible apply State.portDown_upd; decide)
    | (with_reducible apply Upd.via; with_reducible apply State.updQueue_upd; decide)
    | with_reducible refine UpdO.mk' ?_)

theorem execLaneRefReturn_upd {x0 s} : UpdO 8 s (execLaneRefReturn x0 s) := by
  unfold execLaneRefReturn
  repeat' (first
    | with_reducible exact Upd.refl
    | (with_reducible apply Upd.via; with_reducible apply State.flag_upd; decide)
    | with_reducible refine UpdO.mk' ?_
    | split)

theorem execNfcXtalLoss_upd {s} : UpdO 2354792 s (execNfcXtalLoss s) := by
  unfold execNfcXtalLoss
  repeat' (first
    | with_reducible exact Upd.refl
    | (with_reducible apply Upd.via; with_reducible apply State.raise_upd; decide)
    | (with_reducible apply Upd.via; with_reducible apply State.flag_upd; decide)
    | (with_reducible apply Upd.via; with_reducible apply State.updReader_upd; decide)
    | with_reducible refine UpdO.mk' ?_
    | split)

theorem execNfcXtalReturn_upd {s} : UpdO 2097192 s (execNfcXtalReturn s) := by
  unfold execNfcXtalReturn
  repeat' (first
    | with_reducible exact Upd.refl
    | with_reducible assumption
    | (intro u; refine Upd.cut 2097192 s u ?_ (fun _ => ?_); subst u; rotate_left; clear_value u; rotate_right)
    | lift_lets
    | (with_reducible apply Upd.via; with_reducible apply State.fall_upd; decide)
    | (with_reducible apply Upd.via; with_reducible apply State.flag_upd; decide)
    | (with_reducible apply Upd.via; with_reducible apply State.updReader_upd; decide)
    | with_reducible refine UpdO.mk' ?_
    | split)

theorem State.cutErase_upd {s x1} : Upd 262144 s (State.cutErase s x1) := by
  unfold State.cutErase
  repeat' (first
    | with_reducible exact Upd.refl
    | (intro u; clear_value u)
    | lift_lets
    | (with_reducible apply Upd.via; with_reducible apply State.updFlash_upd; decide)
    | (with_reducible apply Upd.via; with_reducible apply State.journal_upd; decide)
    | split)

theorem execPwrOkFall_upd {x0 s} : UpdO 535298043 s (execPwrOkFall x0 s) := by
  unfold execPwrOkFall
  repeat' (first
    | with_reducible exact Upd.refl
    | with_reducible assumption
    | (intro u; refine Upd.cut 535298043 s u ?_ (fun _ => ?_); subst u; rotate_left; clear_value u; rotate_right)
    | (intro u; clear_value u)
    | lift_lets
    | with_reducible refine Upd.foldl ?_ (fun _ _ _ => ?_)
    | (with_reducible apply Upd.via; with_reducible apply State.updChip_upd; decide)
    | (with_reducible apply Upd.via; with_reducible apply State.clearMain_upd; decide)
    | (with_reducible apply Upd.via; with_reducible apply State.cutErase_upd; decide)
    | with_reducible refine UpdO.mk' ?_
    | split)

theorem execPwrOkRise_upd {s} : UpdO 535298043 s (execPwrOkRise s) := by
  unfold execPwrOkRise
  repeat' (first
    | with_reducible exact Upd.refl
    | with_reducible assumption
    | (intro u; refine Upd.cut 535298043 s u ?_ (fun _ => ?_); subst u; rotate_left; clear_value u; rotate_right)
    | lift_lets
    | (with_reducible apply Upd.via; with_reducible apply State.flag_upd; decide)
    | (with_reducible apply Upd.via; with_reducible apply State.updChip_upd; decide)
    | (with_reducible apply Upd.via; with_reducible apply State.clearMain_upd; decide)
    | with_reducible refine UpdO.mk' ?_
    | split)

theorem execSysrst_upd {s} : UpdO 2683305983 s (execSysrst s) := by
  unfold execSysrst
  repeat' (first
    | with_reducible exact Upd.refl
    | (with_reducible apply Upd.via; with_reducible apply State.mainReset_upd; decide)
    | with_reducible refine UpdO.mk' ?_
    | split)

theorem execRstMain_upd {x0 s} : UpdO 2683305983 s (execRstMain x0 s) := by
  unfold execRstMain
  repeat' (first
    | with_reducible exact Upd.refl
    | (with_reducible apply Upd.via; with_reducible apply State.mainReset_upd; decide)
    | with_reducible refine UpdO.mk' ?_
    | split)

theorem execRstPair_upd {x0 x1 x2 s} : UpdO 131080 s (execRstPair x0 x1 x2 s) := by
  unfold execRstPair
  repeat' (first
    | with_reducible exact Upd.refl
    | with_reducible assumption
    | (intro u; refine Upd.cut 131080 s u ?_ (fun _ => ?_); subst u; rotate_left; clear_value u; rotate_right)
    | (intro u; clear_value u)
    | lift_lets
    | (with_reducible apply Upd.via; with_reducible apply State.wr_upd; decide)
    | (with_reducible apply Upd.via; with_reducible apply State.updPair_upd; decide)
    | (with_reducible apply Upd.via; with_reducible apply State.dropOwn_upd; decide)
    | with_reducible refine UpdO.mk' ?_
    | split)

theorem execCoreQrel_upd {x0 x1 s} : UpdO 131080 s (execCoreQrel x0 x1 s) := by
  unfold execCoreQrel
  repeat' (first
    | with_reducible exact Upd.refl
    | (with_reducible apply Upd.via; with_reducible apply State.wr_upd; decide)
    | (with_reducible apply Upd.via; with_reducible apply State.updPair_upd; decide)
    | with_reducible refine UpdO.mk' ?_
    | split)

theorem execWatchdogExpiry_upd {s} : UpdO 2683305983 s (execWatchdogExpiry s) := by
  unfold execWatchdogExpiry
  repeat' (first
    | with_reducible exact Upd.refl
    | (with_reducible apply Upd.via; with_reducible apply State.advanceTo_upd; decide)
    | (with_reducible apply Upd.via; with_reducible apply State.mainReset_upd; decide)
    | with_reducible refine UpdO.mk' ?_
    | split)

theorem execWdtKick_upd {x0 x1 s} : UpdO 16777216 s (execWdtKick x0 x1 s) := by
  unfold execWdtKick
  repeat' (first
    | with_reducible exact Upd.refl
    | (with_reducible apply Upd.via; with_reducible apply State.updChip_upd; decide)
    | with_reducible refine UpdO.mk' ?_
    | split)

theorem execWdtEnable_upd {x0 s} : UpdO 16777224 s (execWdtEnable x0 s) := by
  unfold execWdtEnable
  repeat' (first
    | with_reducible exact Upd.refl
    | (with_reducible apply Upd.via; with_reducible apply State.flag_upd; decide)
    | (with_reducible apply Upd.via; with_reducible apply State.updChip_upd; decide)
    | with_reducible refine UpdO.mk' ?_
    | split)

end Sys2Proof.Machine
end

