-- ==== Sys2Proof/Laws/UpdSdCard.lean ====
section
/-! SUPPORT. What each operation of Machine/SdCard.lean touches and keeps. -/

namespace Sys2Proof.Machine

theorem State.updSd_upd {s f} : Upd 8388608 s (State.updSd s f) := Upd.refl.put_sd (by decide)

theorem State.cardOff_upd {s x1} : Upd 8388616 s (State.cardOff s x1) := by
  unfold State.cardOff
  repeat' (first
    | with_reducible exact Upd.refl
    | with_reducible assumption
    | (intro u; refine Upd.cut 8388616 s u ?_ (fun _ => ?_); subst u; rotate_left; clear_value u; rotate_right)
    | lift_lets
    | (with_reducible apply Upd.via; with_reducible apply State.wr_upd; decide)
    | (with_reducible apply Upd.via; with_reducible apply State.flag_upd; decide)
    | (with_reducible apply Upd.via; with_reducible apply State.updSd_upd; decide))

theorem State.sdEnd_upd {s x1} : Upd 8388616 s (State.sdEnd s x1) := by
  unfold State.sdEnd
  repeat' (first
    | with_reducible exact Upd.refl
    | with_reducible assumption
    | (intro u; refine Upd.cut 8388616 s u ?_ (fun _ => ?_); subst u; rotate_left; clear_value u; rotate_right)
    | lift_lets
    | (with_reducible apply Upd.via; with_reducible apply State.wr_upd; decide)
    | (with_reducible apply Upd.via; with_reducible apply State.flag_upd; decide)
    | (with_reducible apply Upd.via; with_reducible apply State.interrupt_upd; decide)
    | (with_reducible apply Upd.via; with_reducible apply State.updSd_upd; decide))

theorem State.raiseSpeed_upd {s x1 x2} : Upd 257640 s (State.raiseSpeed s x1 x2) := by
  fun_induction State.raiseSpeed s x1 x2
  all_goals repeat' (first
    | with_reducible exact Upd.refl
    | (with_reducible apply Upd.via; with_reducible apply State.raise_upd; decide)
    | (with_reducible apply Upd.via; with_reducible apply State.wr_upd; decide)
    | (with_reducible apply Upd.via; with_reducible apply State.bump_upd; decide)
    | with_reducible refine Upd.via (by assumption) (by decide) ?_)

theorem State.cardOn_upd {s} : Upd 2148007948 s (State.cardOn s) := by
  unfold State.cardOn
  repeat' (first
    | with_reducible exact Upd.refl
    | with_reducible assumption
    | (intro u; refine Upd.cut 2148007948 s u ?_ (fun _ => ?_); subst u; rotate_left; clear_value u; rotate_right)
    | lift_lets
    | (with_reducible apply Upd.via; with_reducible apply State.wr_upd; decide)
    | (with_reducible apply Upd.via; with_reducible apply State.flag_upd; decide)
    | (with_reducible apply Upd.via; with_reducible apply State.advance_upd; decide)
    | (with_reducible apply Upd.via; with_reducible apply State.advanceTo_upd; decide)
    | split)

theorem State.initSlot_upd {s x1} : Upd1 2156654188 s (State.initSlot s x1) := by
  unfold State.initSlot
  repeat' (first
    | with_reducible exact Upd.refl
    | with_reducible assumption
    | (intro u; refine Upd.cut 2156654188 s u ?_ (fun _ => ?_); subst u; rotate_left; clear_value u; rotate_right)
    | (intro u; clear_value u)
    | lift_lets
    | split
    | (with_reducible apply Upd.via; with_reducible apply State.wr_upd; decide)
    | (with_reducible apply Upd.via; with_reducible apply State.flag_upd; decide)
    | (with_reducible apply Upd.via; with_reducible apply State.advance_upd; decide)
    | (with_reducible apply Upd.via; with_reducible apply State.updSd_upd; decide)
    | (with_reducible apply Upd.via; with_reducible apply State.cardOff_upd; decide)
    | (with_reducible apply Upd.via; with_reducible apply State.raiseSpeed_upd; decide)
    | (with_reducible apply Upd.via; with_reducible apply State.cardOn_upd; decide)
    | with_reducible refine Upd1.mk' ?_)

theorem State.sdCmd_upd {m t s x1 x2 x3} (h : Upd m t s) (hm : Nat.land 8388616 m = 8388616) (hb : ∀ u, Upd m t u → Upd1 m t (x3 u)) :
    Upd m t (State.sdCmd s x1 x2 x3) := by
  unfold State.sdCmd
  repeat' (first
    | with_reducible assumption
    | (intro u; refine Upd.cut m t u ?_ (fun _ => ?_); subst u; rotate_left; clear_value u; rotate_right)
    | lift_lets
    | with_reducible refine hb _ ?_
    | split
    | (with_reducible apply Upd.via; with_reducible apply State.wr_upd; exact landTrans (by decide) hm)
    | (with_reducible apply Upd.via; with_reducible apply State.flag_upd; exact landTrans (by decide) hm)
    | (with_reducible apply Upd.via; with_reducible apply State.updSd_upd; exact landTrans (by decide) hm)
    | (with_reducible apply Upd.via; with_reducible apply State.sdEnd_upd; exact landTrans (by decide) hm)
    | (with_reducible apply Upd.fstOf'; with_reducible assumption))

theorem State.withCard_upd {m t s x1} (h : Upd m t s) (hm : Nat.land 2148007948 m = 2148007948) (hb : ∀ u, Upd m t u → Upd1 m t (x1 u)) :
    Upd1 m t (State.withCard s x1) := by
  unfold State.withCard
  repeat' (first
    | with_reducible assumption
    | with_reducible refine hb _ ?_
    | split
    | (with_reducible apply Upd.via; with_reducible apply State.wr_upd; exact landTrans (by decide) hm)
    | (with_reducible apply Upd.via; with_reducible apply State.advance_upd; exact landTrans (by decide) hm)
    | with_reducible refine Upd1.mk' ?_)

theorem State.sdOutcome_upd {s x1 x2} : Upd1 8 s (State.sdOutcome s x1 x2) := by
  unfold State.sdOutcome
  repeat' (first
    | with_reducible exact Upd.refl
    | (with_reducible apply Upd.via; with_reducible apply State.bump_upd; decide)
    | with_reducible refine Upd1.mk' ?_
    | split)

theorem State.scRange_upd {m t s x1} (h : Upd m t s) (hm : Nat.land 0 m = 0) (hb : ∀ u, Upd m t u → Upd1 m t (x1 u)) :
    Upd1 m t (State.scRange s x1) := by
  unfold State.scRange
  repeat' (first
    | with_reducible assumption
    | with_reducible refine hb _ ?_
    | split
    | with_reducible refine Upd1.mk' ?_)

theorem execInitCard_upd {x0 x1 s} : UpdO 2156654188 s (execInitCard x0 x1 s) := by
  unfold execInitCard
  repeat' (first
    | with_reducible exact Upd.refl
    | with_reducible assumption
    | lift_lets
    | (with_reducible apply Upd.via; with_reducible apply Upd.fst State.initSlot_upd; decide)
    | with_reducible refine State.sdCmd_upd ?_ (by decide) (fun _ _ => ?_)
    | with_reducible refine Upd1.mk' ?_
    | with_reducible refine UpdO.mk' ?_
    | split)

theorem execScRead_upd {x0 x1 x2 s} : UpdO 2693525484 s (execScRead x0 x1 x2 s) := by
  unfold execScRead
  repeat' (first
    | with_reducible exact Upd.refl
    | with_reducible assumption
    | (intro u; clear_value u)
    | lift_lets
    | (with_reducible apply Upd.via; with_reducible apply State.writeMem_upd; decide)
    | (with_reducible apply Upd.via; with_reducible apply State.emit_upd; decide)
    | (with_reducible apply Upd.via; with_reducible apply Upd.fst State.sdOutcome_upd; decide)
    | (with_reducible apply Upd2.via; with_reducible apply State.guardRange_upd; decide)
    | with_reducible refine State.scRange_upd ?_ (by decide) (fun _ _ => ?_)
    | with_reducible refine State.withCard_upd ?_ (by decide) (fun _ _ => ?_)
    | with_reducible refine State.sdCmd_upd ?_ (by decide) (fun _ _ => ?_)
    | with_reducible refine Upd1.mk' ?_
    | with_reducible refine UpdO.mk' ?_
    | split
    | (with_reducible apply Upd.sndOf'; with_reducible assumption))

theorem execScWrite_upd {x0 x1 s} : UpdO 2693525356 s (execScWrite x0 x1 s) := by
  unfold execScWrite
  repeat' (first
    | with_reducible exact Upd.refl
    | with_reducible assumption
    | (intro u; clear_value u)
    | lift_lets
    | (with_reducible apply Upd.via; with_reducible apply State.emit_upd; decide)
    | (with_reducible apply Upd.via; with_reducible apply Upd.fst State.sdOutcome_upd; decide)
    | (with_reducible apply Upd2.via; with_reducible apply State.guardRange_upd; decide)
    | with_reducible refine State.scRange_upd ?_ (by decide) (fun _ _ => ?_)
    | with_reducible refine State.withCard_upd ?_ (by decide) (fun _ _ => ?_)
    | with_reducible refine State.sdCmd_upd ?_ (by decide) (fun _ _ => ?_)
    | with_reducible refine Upd1.mk' ?_
    | with_reducible refine UpdO.mk' ?_
    | split
    | (with_reducible apply Upd.sndOf'; with_reducible assumption))

theorem execScErase_upd {x0 x1 s} : UpdO 2693267468 s (execScErase x0 x1 s) := by
  unfold execScErase
  repeat' (first
    | with_reducible exact Upd.refl
    | with_reducible assumption
    | (with_reducible apply Upd.via; with_reducible apply State.emit_upd; decide)
    | (with_reducible apply Upd1.via; with_reducible apply State.sdOutcome_upd; decide)
    | with_reducible refine State.scRange_upd ?_ (by decide) (fun _ _ => ?_)
    | with_reducible refine State.withCard_upd ?_ (by decide) (fun _ _ => ?_)
    | with_reducible refine State.sdCmd_upd ?_ (by decide) (fun _ _ => ?_)
    | with_reducible refine UpdO.mk' ?_)

theorem State.password_upd {m t s x1 x2} (h : Upd m t s) (hm : Nat.land 537128808 m = 537128808) (hb : ∀ u, Upd m t u → Upd1 m t (x2 u)) :
    Upd1 m t (State.password s x1 x2) := by
  unfold State.password
  repeat' (first
    | with_reducible assumption
    | (intro u; clear_value u)
    | lift_lets
    | with_reducible refine hb _ ?_
    | split
    | (with_reducible apply Upd.via; with_reducible apply State.emit_upd; exact landTrans (by decide) hm)
    | (with_reducible apply Upd2.via; with_reducible apply State.guardRange_upd; exact landTrans (by decide) hm)
    | with_reducible refine Upd1.mk' ?_
    | (with_reducible apply Upd.sndOf'; with_reducible assumption))

theorem State.cardFree_upd {s} : Upd 8 s (State.cardFree s) := by
  unfold State.cardFree
  repeat' (first
    | with_reducible exact Upd.refl
    | (with_reducible apply Upd.via; with_reducible apply State.wr_upd; decide))

theorem State.unlockOutcome_upd {s x1} : Upd1 8 s (State.unlockOutcome s x1) := by
  unfold State.unlockOutcome
  repeat' (first
    | with_reducible exact Upd.refl
    | (with_reducible apply Upd.via; with_reducible apply Upd.fst State.sdOutcome_upd; decide)
    | (with_reducible apply Upd.via; with_reducible apply State.cardFree_upd; decide)
    | with_reducible refine Upd1.mk' ?_
    | split)

theorem execScUnlock_upd {x0 x1 s} : UpdO 545517416 s (execScUnlock x0 x1 s) := by
  unfold execScUnlock
  repeat' (first
    | with_reducible exact Upd.refl
    | with_reducible assumption
    | (with_reducible apply Upd1.via; with_reducible apply State.unlockOutcome_upd; decide)
    | with_reducible refine Upd.fst (State.password_upd ?_ (by decide) (fun _ _ => ?_))
    | with_reducible refine State.sdCmd_upd ?_ (by decide) (fun _ _ => ?_)
    | with_reducible refine Upd1.mk' ?_
    | with_reducible refine UpdO.mk' ?_
    | split)

theorem execSetPwd_upd {x0 x1 s} : UpdO 2693525356 s (execSetPwd x0 x1 s) := by
  unfold execSetPwd
  repeat' (first
    | with_reducible exact Upd.refl
    | with_reducible assumption
    | (with_reducible apply Upd1.via; with_reducible apply State.sdOutcome_upd; decide)
    | with_reducible refine State.password_upd ?_ (by decide) (fun _ _ => ?_)
    | with_reducible refine State.withCard_upd ?_ (by decide) (fun _ _ => ?_)
    | with_reducible refine State.sdCmd_upd ?_ (by decide) (fun _ _ => ?_)
    | with_reducible refine UpdO.mk' ?_)

theorem execClrPwd_upd {x0 x1 s} : UpdO 2693525356 s (execClrPwd x0 x1 s) := by
  unfold execClrPwd
  repeat' (first
    | with_reducible exact Upd.refl
    | with_reducible assumption
    | (with_reducible apply Upd1.via; with_reducible apply State.sdOutcome_upd; decide)
    | with_reducible refine State.password_upd ?_ (by decide) (fun _ _ => ?_)
    | with_reducible refine State.withCard_upd ?_ (by decide) (fun _ _ => ?_)
    | with_reducible refine State.sdCmd_upd ?_ (by decide) (fun _ _ => ?_)
    | with_reducible refine UpdO.mk' ?_)

theorem execForceErase_upd {x0 x1 s} : UpdO 549453832 s (execForceErase x0 x1 s) := by
  unfold execForceErase
  repeat' (first
    | with_reducible exact Upd.refl
    | with_reducible assumption
    | (with_reducible apply Upd.via; with_reducible apply State.usePress_upd; decide)
    | (with_reducible apply Upd.via; with_reducible apply State.emit_upd; decide)
    | (with_reducible apply Upd.via; with_reducible apply Upd.fst State.unlockOutcome_upd; decide)
    | with_reducible refine State.sdCmd_upd ?_ (by decide) (fun _ _ => ?_)
    | with_reducible refine Upd1.mk' ?_
    | with_reducible refine UpdO.mk' ?_
    | split)

theorem execSleep_upd {x0 s} : UpdO 2156396556 s (execSleep x0 s) := by
  unfold execSleep
  repeat' (first
    | with_reducible exact Upd.refl
    | with_reducible assumption
    | (with_reducible apply Upd.via; with_reducible apply State.wr_upd; decide)
    | with_reducible refine State.withCard_upd ?_ (by decide) (fun _ _ => ?_)
    | with_reducible refine State.sdCmd_upd ?_ (by decide) (fun _ _ => ?_)
    | with_reducible refine Upd1.mk' ?_
    | with_reducible refine UpdO.mk' ?_)

theorem State.eject_upd {s} : Upd1 8388616 s (State.eject s) := by
  unfold State.eject
  repeat' (first
    | with_reducible exact Upd.refl
    | split
    | (with_reducible apply Upd.via; with_reducible apply State.cardOff_upd; decide)
    | with_reducible refine Upd1.mk' ?_)

theorem execEject_upd {x0 s} : UpdO 8388616 s (execEject x0 s) := by
  unfold execEject
  repeat' (first
    | with_reducible exact Upd.refl
    | with_reducible assumption
    | (with_reducible apply Upd1.via; with_reducible apply State.eject_upd; decide)
    | with_reducible refine State.sdCmd_upd ?_ (by decide) (fun _ _ => ?_)
    | with_reducible refine UpdO.mk' ?_)

theorem execWalk_upd {x0 x1 x2 s} : UpdO 2156396556 s (execWalk x0 x1 x2 s) := by
  unfold execWalk
  repeat' (first
    | with_reducible exact Upd.refl
    | with_reducible assumption
    | (intro u; clear_value u)
    | lift_lets
    | (with_reducible apply Upd.via; with_reducible apply State.wr_upd; decide)
    | (with_reducible apply Upd.via; with_reducible apply State.flag_upd; decide)
    | (with_reducible apply Upd.via; with_reducible apply Upd.fst State.sdOutcome_upd; decide)
    | with_reducible refine State.withCard_upd ?_ (by decide) (fun _ _ => ?_)
    | with_reducible refine State.sdCmd_upd ?_ (by decide) (fun _ _ => ?_)
    | with_reducible refine Upd1.mk' ?_
    | with_reducible refine UpdO.mk' ?_
    | split)

theorem execAutoSleep_upd {s} : UpdO 2148007948 s (execAutoSleep s) := by
  unfold execAutoSleep
  repeat' (first
    | with_reducible exact Upd.refl
    | (with_reducible apply Upd.via; with_reducible apply State.wr_upd; decide)
    | (with_reducible apply Upd.via; with_reducible apply State.advanceTo_upd; decide)
    | with_reducible refine UpdO.mk' ?_
    | split)

theorem execScBusyTimeout_upd {s} : UpdO 2156654188 s (execScBusyTimeout s) := by
  unfold execScBusyTimeout
  repeat' (first
    | with_reducible exact Upd.refl
    | split
    | (with_reducible apply Upd.via; with_reducible apply State.raise_upd; decide)
    | (with_reducible apply Upd.via; with_reducible apply State.advanceTo_upd; decide)
    | (with_reducible apply Upd.via; with_reducible apply State.cardOff_upd; decide)
    | (with_reducible apply Upd.via; with_reducible apply State.sdEnd_upd; decide)
    | with_reducible refine UpdO.mk' ?_)

theorem State.removalOutcome_upd {s x1 x2} : Upd 8646248 s (State.removalOutcome s x1 x2) := by
  unfold State.removalOutcome
  repeat' (first
    | with_reducible exact Upd.refl
    | split
    | (with_reducible apply Upd.via; with_reducible apply State.raise_upd; decide)
    | (with_reducible apply Upd.via; with_reducible apply State.bump_upd; decide)
    | (with_reducible apply Upd.via; with_reducible apply State.sdEnd_upd; decide))

theorem execCardRemoval_upd {x0 s} : UpdO 8646248 s (execCardRemoval x0 s) := by
  unfold execCardRemoval
  repeat' (first
    | with_reducible exact Upd.refl
    | with_reducible assumption
    | (intro u; refine Upd.cut 8646248 s u ?_ (fun _ => ?_); subst u; rotate_left; clear_value u; rotate_right)
    | lift_lets
    | split
    | (with_reducible apply Upd.via; with_reducible apply State.bump_upd; decide)
    | (with_reducible apply Upd.via; with_reducible apply State.flag_upd; decide)
    | (with_reducible apply Upd.via; with_reducible apply State.cardOff_upd; decide)
    | (with_reducible apply Upd.via; with_reducible apply State.removalOutcome_upd; decide)
    | with_reducible refine UpdO.mk' ?_)

theorem execCardInsertion_upd {x0 s} : UpdO 2156654188 s (execCardInsertion x0 s) := by
  unfold execCardInsertion
  repeat' (first
    | with_reducible exact Upd.refl
    | with_reducible assumption
    | (intro u; refine Upd.cut 2156654188 s u ?_ (fun _ => ?_); subst u; rotate_left; clear_value u; rotate_right)
    | lift_lets
    | (with_reducible apply Upd.via; with_reducible apply State.wr_upd; decide)
    | (with_reducible apply Upd.via; with_reducible apply State.flag_upd; decide)
    | (with_reducible apply Upd.via; with_reducible apply State.advance_upd; decide)
    | (with_reducible apply Upd.via; with_reducible apply State.interrupt_upd; decide)
    | (with_reducible apply Upd.via; with_reducible apply State.sdEnd_upd; decide)
    | (with_reducible apply Upd.via; with_reducible apply Upd.fst State.initSlot_upd; decide)
    | with_reducible refine UpdO.mk' ?_
    | split)

theorem execScPwrFault_upd {s} : UpdO 8646248 s (execScPwrFault s) := by
  unfold execScPwrFault
  repeat' (first
    | with_reducible exact Upd.refl
    | with_reducible assumption
    | (intro u; refine Upd.cut 8646248 s u ?_ (fun _ => ?_); subst u; rotate_left; clear_value u; rotate_right)
    | lift_lets
    | split
    | (with_reducible apply Upd.via; with_reducible apply State.raise_upd; decide)
    | (with_reducible apply Upd.via; with_reducible apply State.cardOff_upd; decide)
    | (with_reducible apply Upd.via; with_reducible apply State.sdEnd_upd; decide)
    | with_reducible refine UpdO.mk' ?_)

end Sys2Proof.Machine
end

