-- ==== Sys2Proof/Laws/UpdRegActions.lean ====
section
/-! SUPPORT. What each operation of Machine/RegActions.lean touches and keeps. -/

namespace Sys2Proof.Machine

theorem State.after_upd {m t s f} (h : Upd m t s) (hm : Nat.land 0 m = 0) (hb : ∀ u, Upd m t u → UpdO m t (f u)) : Upd m t (State.after s f) := by
  unfold State.after
  split
  · exact UpdO.of ‹_› (hb s h)
  · exact h

theorem State.onBit_upd {m t s b f} (h : Upd m t s) (hm : Nat.land 0 m = 0) (hb : ∀ u, Upd m t u → UpdO m t (f u)) : Upd m t (State.onBit s b f) := by
  unfold State.onBit
  split
  · exact h
  · exact State.after_upd h hm hb

theorem State.tableAction_upd {s x1 x2 x3} : Upd 537132776 s (State.tableAction s x1 x2 x3) := by
  unfold State.tableAction
  repeat' (first
    | with_reducible exact Upd.refl
    | with_reducible assumption
    | (with_reducible apply UpdO.via; with_reducible apply execReadMedia_upd; decide)
    | (with_reducible apply UpdO.via; with_reducible apply execReadShelf_upd; decide)
    | (with_reducible apply UpdO.via; with_reducible apply execWriteMedia_upd; decide)
    | (with_reducible apply UpdO.via; with_reducible apply execWriteShelf_upd; decide)
    | with_reducible refine State.after_upd ?_ (by decide) (fun _ _ => ?_)
    | split)

theorem State.repairAction_upd {s x1 x2} : Upd 537132776 s (State.repairAction s x1 x2) := by
  unfold State.repairAction
  repeat' (first
    | with_reducible exact Upd.refl
    | with_reducible assumption
    | (with_reducible apply UpdO.via; with_reducible apply execEvacuate_upd; decide)
    | (with_reducible apply UpdO.via; with_reducible apply execEvacuateCancel_upd; decide)
    | with_reducible refine State.after_upd ?_ (by decide) (fun _ _ => ?_)
    | split)

theorem State.sdbAction_upd {s x1 x2} : Upd 1611136744 s (State.sdbAction s x1 x2) := by
  unfold State.sdbAction
  repeat' (first
    | with_reducible exact Upd.refl
    | with_reducible assumption
    | (with_reducible apply UpdO.via; with_reducible apply execGen_upd; decide)
    | (with_reducible apply UpdO.via; with_reducible apply execDerive_upd; decide)
    | (with_reducible apply UpdO.via; with_reducible apply execWrap_upd; decide)
    | (with_reducible apply UpdO.via; with_reducible apply execLoad_upd; decide)
    | (with_reducible apply UpdO.via; with_reducible apply execZero_upd; decide)
    | (with_reducible apply UpdO.via; with_reducible apply execSetAttr_upd; decide)
    | (with_reducible apply UpdO.via; with_reducible apply execSealGcm_upd; decide)
    | (with_reducible apply UpdO.via; with_reducible apply execOpenGcm_upd; decide)
    | (with_reducible apply UpdO.via; with_reducible apply execVkGen_upd; decide)
    | (with_reducible apply UpdO.via; with_reducible apply execVkSplit_upd; decide)
    | (with_reducible apply UpdO.via; with_reducible apply execVkCombine_upd; decide)
    | (with_reducible apply UpdO.via; with_reducible apply execVkCommit_upd; decide)
    | (with_reducible apply UpdO.via; with_reducible apply execNsCurrent_upd; decide)
    | with_reducible refine State.after_upd ?_ (by decide) (fun _ _ => ?_)
    | split)

theorem State.flsAction_upd {s x1 x2} : Upd 1611137000 s (State.flsAction s x1 x2) := by
  unfold State.flsAction
  repeat' (first
    | with_reducible exact Upd.refl
    | with_reducible assumption
    | lift_lets
    | (with_reducible apply Upd.via; with_reducible apply Upd.snd State.draw_upd; decide)
    | (with_reducible apply UpdO.via; with_reducible apply execFlsRead_upd; decide)
    | (with_reducible apply UpdO.via; with_reducible apply execFlsWrite_upd; decide)
    | (with_reducible apply UpdO.via; with_reducible apply execTrim_upd; decide)
    | (with_reducible apply UpdO.via; with_reducible apply execFlush_upd; decide)
    | (with_reducible apply UpdO.via; with_reducible apply execPread_upd; decide)
    | (with_reducible apply UpdO.via; with_reducible apply execMread_upd; decide)
    | (with_reducible apply UpdO.via; with_reducible apply execBlank_upd; decide)
    | (with_reducible apply UpdO.via; with_reducible apply execFlsErase_upd; decide)
    | (with_reducible apply UpdO.via; with_reducible apply execPin_upd; decide)
    | (with_reducible apply UpdO.via; with_reducible apply execUnpin_upd; decide)
    | (with_reducible apply UpdO.via; with_reducible apply execPtrSet_upd; decide)
    | (with_reducible apply UpdO.via; with_reducible apply execPtrConfirm_upd; decide)
    | with_reducible refine State.after_upd ?_ (by decide) (fun _ _ => ?_)
    | split)

theorem State.colAction_upd {s x1 x2 x3} : Upd 1306216 s (State.colAction s x1 x2 x3) := by
  unfold State.colAction
  repeat' (first
    | with_reducible exact Upd.refl
    | with_reducible assumption
    | (with_reducible apply UpdO.via; with_reducible apply execColRead_upd; decide)
    | (with_reducible apply UpdO.via; with_reducible apply execColAppend_upd; decide)
    | (with_reducible apply UpdO.via; with_reducible apply execSetPw_upd; decide)
    | (with_reducible apply UpdO.via; with_reducible apply execUnblock_upd; decide)
    | (with_reducible apply UpdO.via; with_reducible apply execSetPolicy_upd; decide)
    | with_reducible refine State.after_upd ?_ (by decide) (fun _ _ => ?_)
    | split)

theorem State.atAction_upd {s x1 x2 x3 x4 x5 x6} : Upd 257896 s (State.atAction s x1 x2 x3 x4 x5 x6) := by
  unfold State.atAction
  repeat' (first
    | with_reducible exact Upd.refl
    | with_reducible assumption
    | (with_reducible apply UpdO.via; with_reducible apply execReadActive_upd; decide)
    | (with_reducible apply UpdO.via; with_reducible apply execReadShadow_upd; decide)
    | (with_reducible apply UpdO.via; with_reducible apply execWriteShadow_upd; decide)
    | with_reducible refine State.after_upd ?_ (by decide) (fun _ _ => ?_)
    | split)

theorem State.waitAction_upd {s x1 x2 x3} : Upd 8 s (State.waitAction s x1 x2 x3) := by
  unfold State.waitAction
  repeat' (first
    | with_reducible exact Upd.refl
    | (with_reducible apply Upd.via; with_reducible apply State.wr_upd; decide)
    | split)

theorem State.nfcAction_upd {s x1 x2} : Upd 2097160 s (State.nfcAction s x1 x2) := by
  unfold State.nfcAction
  repeat' (first
    | with_reducible exact Upd.refl
    | with_reducible assumption
    | (with_reducible apply Upd.via; with_reducible apply State.waitAction_upd; decide)
    | (with_reducible apply UpdO.via; with_reducible apply execDeselect_upd; decide)
    | (with_reducible apply UpdO.via; with_reducible apply execFieldOff_upd; decide)
    | with_reducible refine State.after_upd ?_ (by decide) (fun _ _ => ?_)
    | split)

theorem State.scAction_upd {s x1 x2} : Upd 2156396556 s (State.scAction s x1 x2) := by
  unfold State.scAction
  repeat' (first
    | with_reducible exact Upd.refl
    | with_reducible assumption
    | (with_reducible apply Upd.via; with_reducible apply State.waitAction_upd; decide)
    | (with_reducible apply UpdO.via; with_reducible apply execSleep_upd; decide)
    | (with_reducible apply UpdO.via; with_reducible apply execEject_upd; decide)
    | with_reducible refine State.after_upd ?_ (by decide) (fun _ _ => ?_)
    | split)

theorem State.pwrAction_upd {s x1 x2} : Upd 16801355 s (State.pwrAction s x1 x2) := by
  unfold State.pwrAction
  repeat' (first
    | with_reducible exact Upd.refl
    | with_reducible assumption
    | (with_reducible apply Upd.via; with_reducible apply State.waitAction_upd; decide)
    | (with_reducible apply UpdO.via; with_reducible apply execShutdown_upd; decide)
    | with_reducible refine State.after_upd ?_ (by decide) (fun _ _ => ?_)
    | split)

theorem State.startLow_upd {s x1 x2 x3 x4 x5} : Upd 1611137000 s (State.startLow s x1 x2 x3 x4 x5) := by
  unfold State.startLow
  dsimp only
  repeat' (first
    | with_reducible exact Upd.refl
    | with_reducible assumption
    | (with_reducible apply Upd.via; with_reducible apply State.fcuInject_upd; decide)
    | (with_reducible apply Upd.via; with_reducible apply State.wr_upd; decide)
    | (with_reducible apply Upd.via; with_reducible apply State.tableAction_upd; decide)
    | (with_reducible apply Upd.via; with_reducible apply State.repairAction_upd; decide)
    | (with_reducible apply Upd.via; with_reducible apply State.sdbAction_upd; decide)
    | (with_reducible apply Upd.via; with_reducible apply State.atAction_upd; decide)
    | (with_reducible apply UpdO.via; with_reducible apply execAwlRingTail_upd; decide)
    | (with_reducible apply UpdO.via; with_reducible apply execAwlAbort_upd; decide)
    | (with_reducible apply UpdO.via; with_reducible apply execAwlQrel_upd; decide)
    | (with_reducible apply UpdO.via; with_reducible apply execFcuHoldWrite_upd; decide)
    | (with_reducible apply UpdO.via; with_reducible apply execFcuClr_upd; decide)
    | (with_reducible apply UpdO.via; with_reducible apply execFcuSrcCfgWrite_upd; decide)
    | (with_reducible apply UpdO.via; with_reducible apply execEccTestEnable_upd; decide)
    | (with_reducible apply UpdO.via; with_reducible apply execAtCommit_upd; decide)
    | (with_reducible apply UpdO.via; with_reducible apply execAtVpop_upd; decide)
    | (with_reducible apply UpdO.via; with_reducible apply execSplitWrite_upd; decide)
    | (with_reducible apply UpdO.via; with_reducible apply execPckQrel_upd; decide)
    | (with_reducible apply UpdO.via; with_reducible apply execCoreQrel_upd; decide)
    | (with_reducible apply UpdO.via; with_reducible apply execShpCoreRel_upd; decide)
    | (with_reducible apply UpdO.via; with_reducible apply execStuEnWrite_upd; decide)
    | (with_reducible apply UpdO.via; with_reducible apply execStReq_upd; decide)
    | (with_reducible apply UpdO.via; with_reducible apply execStuQrel_upd; decide)
    | with_reducible refine State.onBit_upd ?_ (by decide) (fun _ _ => ?_)
    | with_reducible refine State.after_upd ?_ (by decide) (fun _ _ => ?_)
    | with_reducible refine UpdO.mk' ?_
    | split)

theorem State.startHigh_upd {s x1 x2 x3 x4 x5} : Upd 4294967295 s (State.startHigh s x1 x2 x3 x4 x5) := by
  unfold State.startHigh
  dsimp only
  repeat' (first
    | with_reducible exact Upd.refl
    | with_reducible assumption
    | (with_reducible apply Upd.via; with_reducible apply State.flsAction_upd; decide)
    | (with_reducible apply Upd.via; with_reducible apply State.colAction_upd; decide)
    | (with_reducible apply Upd.via; with_reducible apply State.waitAction_upd; decide)
    | (with_reducible apply Upd.via; with_reducible apply State.nfcAction_upd; decide)
    | (with_reducible apply Upd.via; with_reducible apply State.scAction_upd; decide)
    | (with_reducible apply Upd.via; with_reducible apply State.pwrAction_upd; decide)
    | (with_reducible apply UpdO.via; with_reducible apply execUnlock_upd; decide)
    | (with_reducible apply UpdO.via; with_reducible apply execClrLatch_upd; decide)
    | (with_reducible apply UpdO.via; with_reducible apply execClrPor_upd; decide)
    | (with_reducible apply UpdO.via; with_reducible apply execEvqPop_upd; decide)
    | (with_reducible apply UpdO.via; with_reducible apply execKnlRtcSet_upd; decide)
    | (with_reducible apply UpdO.via; with_reducible apply execKnlTempWrite_upd; decide)
    | (with_reducible apply UpdO.via; with_reducible apply execKnlMonWrite_upd; decide)
    | (with_reducible apply UpdO.via; with_reducible apply execKnlTrimWrite_upd; decide)
    | (with_reducible apply UpdO.via; with_reducible apply execPwrAvs_upd; decide)
    | (with_reducible apply UpdO.via; with_reducible apply execStCmd_upd; decide)
    | (with_reducible apply UpdO.via; with_reducible apply execRstMain_upd; decide)
    | (with_reducible apply UpdO.via; with_reducible apply execRstPair_upd; decide)
    | (with_reducible apply UpdO.via; with_reducible apply execWdtKick_upd; decide)
    | (with_reducible apply UpdO.via; with_reducible apply execWdtEnable_upd; decide)
    | (with_reducible apply UpdO.via; with_reducible apply execTrlWr_upd; decide)
    | with_reducible refine State.after_upd ?_ (by decide) (fun _ _ => ?_)
    | with_reducible refine State.onBit_upd ?_ (by decide) (fun _ _ => ?_)
    | split)

theorem State.storeReg_upd {s x1 x2 x3 x4 x5 x6} : Upd 4294967295 s (State.storeReg s x1 x2 x3 x4 x5 x6) := by
  unfold State.storeReg
  repeat' (first
    | with_reducible exact Upd.refl
    | with_reducible assumption
    | (intro u; refine Upd.cut 4294967295 s u ?_ (fun _ => ?_); subst u; rotate_left; clear_value u; rotate_right)
    | lift_lets
    | (with_reducible apply Upd.via; with_reducible apply State.startLow_upd; decide)
    | (with_reducible apply Upd.via; with_reducible apply State.startHigh_upd; decide)
    | (with_reducible apply Upd.via; with_reducible apply State.writeReg_upd; decide)
    | split)

end Sys2Proof.Machine
end

