-- ==== Sys2Proof/Laws/UpdCoreBase.lean ====
section
/-! SUPPORT. What each operation of Machine/CoreBase.lean touches and keeps. -/

namespace Sys2Proof.Machine

theorem State.unanswered_upd {s x1 x2} : Upd 257640 s (State.unanswered s x1 x2) := by
  unfold State.unanswered
  repeat' (first
    | with_reducible exact Upd.refl
    | (with_reducible apply Upd.via; with_reducible apply State.raise_upd; decide))

theorem State.reach_upd {s x1} : Upd2 257896 s (State.reach s x1) := by
  unfold State.reach
  repeat' (first
    | with_reducible exact Upd.refl
    | (intro u; clear_value u)
    | lift_lets
    | (with_reducible apply Upd.via; with_reducible apply State.unanswered_upd; decide)
    | (with_reducible apply Upd2.via; with_reducible apply State.guard_upd; decide)
    | with_reducible refine Upd2.mk' ?_
    | split
    | (with_reducible apply Upd.sndOf'; with_reducible assumption))

theorem State.readEntry_upd {s x1 x2 x3 x4 x5} : Upd2 537133032 s (State.readEntry s x1 x2 x3 x4 x5) := by
  unfold State.readEntry
  repeat' (first
    | with_reducible exact Upd.refl
    | lift_lets
    | (with_reducible apply Upd2.via; with_reducible apply State.reach_upd; decide)
    | (with_reducible apply Upd2.via; with_reducible apply State.readChecked_upd; decide)
    | with_reducible refine Upd2.mk' ?_
    | split
    | (with_reducible apply Upd.sndOf'; with_reducible assumption))

theorem State.walk_upd {s x1 x2 x3 x4 x5 x6 x7} : Upd2 537133032 s (State.walk s x1 x2 x3 x4 x5 x6 x7) := by
  fun_induction State.walk s x1 x2 x3 x4 x5 x6 x7
  all_goals repeat' (first
    | with_reducible exact Upd.refl
    | split
    | (with_reducible apply Upd2.via; with_reducible apply State.readEntry_upd; decide)
    | with_reducible refine Upd2.mk' ?_
    | (with_reducible apply Upd.sndOf'; with_reducible assumption)
    | with_reducible refine Upd.via (Upd.snd (by assumption)) (by decide) ?_)

theorem State.lookup_upd {s x1 x2 x3 x4 x5} : Upd2 537133032 s (State.lookup s x1 x2 x3 x4 x5) := by
  unfold State.lookup
  repeat' (first
    | with_reducible exact Upd.refl
    | with_reducible assumption
    | (intro u; refine Upd.cut 537133032 s u ?_ (fun _ => ?_); subst u; rotate_left; clear_value u; rotate_right)
    | (intro u; clear_value u)
    | lift_lets
    | (with_reducible apply Upd.via; with_reducible apply State.bump_upd; decide)
    | (with_reducible apply Upd.via; with_reducible apply State.updPair_upd; decide)
    | (with_reducible apply Upd2.via; with_reducible apply State.walk_upd; decide)
    | with_reducible refine Upd2.mk' ?_
    | split
    | (with_reducible apply Upd.sndOf'; with_reducible assumption)
    | dsimp only)

theorem State.translate_upd {s x1 x2 x3 x4 x5} : Upd2 537133032 s (State.translate s x1 x2 x3 x4 x5) := by
  unfold State.translate
  dsimp only
  repeat' (first
    | with_reducible exact Upd.refl
    | (with_reducible apply Upd2.via; with_reducible apply State.lookup_upd; decide)
    | with_reducible refine Upd2.mk' ?_
    | split
    | (with_reducible apply Upd.sndOf'; with_reducible assumption))

theorem State.approach_upd {s x1 x2 x3 x4 x5 x6} : Upd2 537133032 s (State.approach s x1 x2 x3 x4 x5 x6) := by
  unfold State.approach
  repeat' (first
    | with_reducible exact Upd.refl
    | (with_reducible apply Upd2.via; with_reducible apply State.reach_upd; decide)
    | (with_reducible apply Upd2.via; with_reducible apply State.translate_upd; decide)
    | with_reducible refine Upd2.mk' ?_
    | split
    | (with_reducible apply Upd.sndOf'; with_reducible assumption))

theorem State.fetchPeriph_upd {s w a n} : Upd2 1073999480 s (State.fetchPeriph s w a n) := Upd2.mk' ((Upd.snd State.readReg_upd).mono (by decide))

theorem State.fetchBytes_upd {s w a n} : Upd2 1610874872 s (State.fetchBytes s w a n) := by
  unfold State.fetchBytes
  split
  · exact Upd2.mk' ((Upd.snd State.fetchPeriph_upd).mono (by decide))
  · exact Upd2.mk' Upd.refl
  · exact Upd2.via State.readChecked_upd (by decide) Upd.refl

theorem State.putBytes_upd {s x1 x2 x3 x4} : Upd 4294967295 s (State.putBytes s x1 x2 x3 x4) := by
  unfold State.putBytes
  repeat' (first
    | with_reducible exact Upd.refl
    | (with_reducible apply Upd.via; with_reducible apply State.dropReserved_upd; decide)
    | (with_reducible apply Upd.via; with_reducible apply State.storeMem_upd; decide)
    | (with_reducible apply Upd.via; with_reducible apply State.storeReg_upd; decide)
    | split)

theorem State.loadBytes_upd {s x1 x2 x3 x4} : Upd2 1610874872 s (State.loadBytes s x1 x2 x3 x4) := by
  unfold State.loadBytes
  repeat' (first
    | with_reducible exact Upd.refl
    | (intro u; clear_value u)
    | lift_lets
    | (with_reducible apply Upd2.via; with_reducible apply State.approach_upd; decide)
    | (with_reducible apply Upd2.via; with_reducible apply State.fetchBytes_upd; decide)
    | with_reducible refine Upd2.mk' ?_
    | split
    | (with_reducible apply Upd.sndOf'; with_reducible assumption))

theorem State.storeBytes_upd {s x1 x2 x3 x4} : Upd2 4294967295 s (State.storeBytes s x1 x2 x3 x4) := by
  unfold State.storeBytes
  repeat' (first
    | with_reducible exact Upd.refl
    | (intro u; clear_value u)
    | lift_lets
    | (with_reducible apply Upd.via; with_reducible apply State.putBytes_upd; decide)
    | (with_reducible apply Upd2.via; with_reducible apply State.approach_upd; decide)
    | with_reducible refine Upd2.mk' ?_
    | split
    | (with_reducible apply Upd.sndOf'; with_reducible assumption))

theorem State.pushWords_upd {s x1 x2 x3 x4 x5} : Upd2 4294967295 s (State.pushWords s x1 x2 x3 x4 x5) := by
  fun_induction State.pushWords s x1 x2 x3 x4 x5
  all_goals repeat' (first
    | with_reducible exact Upd.refl
    | lift_lets
    | split
    | (with_reducible apply Upd.via; with_reducible apply Upd.snd State.approach_upd; decide)
    | (with_reducible apply Upd.via; with_reducible apply State.putBytes_upd; decide)
    | (with_reducible apply Upd2.via; with_reducible apply State.reach_upd; decide)
    | with_reducible refine Upd2.mk' ?_
    | (with_reducible apply Upd.sndOf'; with_reducible assumption)
    | with_reducible refine Upd.via (Upd.snd (by assumption)) (by decide) ?_)

theorem State.haltPair_upd {s x1} : Upd 257640 s (State.haltPair s x1) := by
  unfold State.haltPair
  repeat' (first
    | with_reducible exact Upd.refl
    | (with_reducible apply Upd.via; with_reducible apply State.raise_upd; decide)
    | (with_reducible apply Upd.via; with_reducible apply State.wr_upd; decide))

theorem State.enterExc_upd {s x1 x2 x3 x4 x5 x6} : Upd 4294967295 s (State.enterExc s x1 x2 x3 x4 x5 x6) := by
  unfold State.enterExc
  repeat' (first
    | with_reducible exact Upd.refl
    | with_reducible assumption
    | (intro u; refine Upd.cut 4294967295 s u ?_ (fun _ => ?_); subst u; rotate_left; clear_value u; rotate_right)
    | (intro u; refine Upd2.cut 4294967295 s u ?_ (fun _ => ?_); subst u; rotate_left; clear_value u; rotate_right)
    | (intro u; clear_value u)
    | lift_lets
    | (with_reducible apply Upd.via; with_reducible apply Upd.snd State.pushWords_upd; decide)
    | (with_reducible apply Upd.via; with_reducible apply State.haltPair_upd; decide)
    | (with_reducible apply Upd.via; with_reducible apply State.bump_upd; decide)
    | (with_reducible apply Upd.via; with_reducible apply State.flag_upd; decide)
    | (with_reducible apply Upd.via; with_reducible apply State.updPair_upd; decide)
    | (with_reducible apply Upd.via; with_reducible apply State.dropOwn_upd; decide)
    | (with_reducible apply Upd2.via; with_reducible apply State.pushWords_upd; decide)
    | with_reducible refine Upd2.mk' ?_
    | split
    | (with_reducible apply Upd.sndOf'; with_reducible assumption))

theorem State.raiseExc_upd {s x1 x2} : Upd 4294967295 s (State.raiseExc s x1 x2) := by
  unfold State.raiseExc
  repeat' (first
    | with_reducible exact Upd.refl
    | (with_reducible apply Upd.via; with_reducible apply State.enterExc_upd; decide))

theorem State.fetchCheck_upd {s x1} : Upd2 1610874872 s (State.fetchCheck s x1) := by
  unfold State.fetchCheck
  repeat' (first
    | with_reducible exact Upd.refl
    | (intro u; clear_value u)
    | lift_lets
    | (with_reducible apply Upd2.via; with_reducible apply State.loadBytes_upd; decide)
    | with_reducible refine Upd2.mk' ?_
    | split
    | (with_reducible apply Upd.sndOf'; with_reducible assumption))

theorem State.tick_upd {s x1 x2} : Upd 131072 s (State.tick s x1 x2) := by
  unfold State.tick
  repeat' (first
    | with_reducible exact Upd.refl
    | (with_reducible apply Upd.via; with_reducible apply State.updPair_upd; decide))

theorem State.issue_upd {m t s x1 x2 x3} (h : Upd m t s) (hm : Nat.land 4294967295 m = 4294967295) (hb : ∀ u, Upd m t u → Upd m t (x3 u)) :
    Upd m t (State.issue s x1 x2 x3) := by
  unfold State.issue
  repeat' (first
    | with_reducible assumption
    | with_reducible refine hb _ ?_
    | split
    | (with_reducible apply Upd.via; with_reducible apply State.raiseExc_upd; exact landTrans (by decide) hm)
    | (with_reducible apply Upd.via; with_reducible apply State.tick_upd; exact landTrans (by decide) hm)
    | (with_reducible apply Upd2.via; with_reducible apply State.fetchCheck_upd; exact landTrans (by decide) hm)
    | (with_reducible apply Upd.sndOf'; with_reducible assumption))

theorem State.retire_upd {s x1 x2 x3} : Upd 131072 s (State.retire s x1 x2 x3) := by
  unfold State.retire
  repeat' (first
    | with_reducible exact Upd.refl
    | (with_reducible apply Upd.via; with_reducible apply State.updPair_upd; decide))

theorem State.compute_upd {s x1 x2 x3 x4} : Upd 4294967295 s (State.compute s x1 x2 x3 x4) := by
  unfold State.compute
  repeat' (first
    | with_reducible exact Upd.refl
    | with_reducible assumption
    | (with_reducible apply Upd.via; with_reducible apply State.retire_upd; decide)
    | with_reducible refine State.issue_upd ?_ (by decide) (fun _ _ => ?_))

theorem State.privileged_upd {m t s x1 x2 x3} (h : Upd m t s) (hm : Nat.land 4294967295 m = 4294967295) (hb : ∀ u, Upd m t u → Upd m t (x3 u)) :
    Upd m t (State.privileged s x1 x2 x3) := by
  unfold State.privileged
  repeat' (first
    | with_reducible assumption
    | with_reducible refine hb _ ?_
    | (with_reducible apply Upd.via; with_reducible apply State.raiseExc_upd; exact landTrans (by decide) hm)
    | with_reducible refine State.issue_upd ?_ (landTrans (by decide) hm) (fun _ _ => ?_)
    | split)

end Sys2Proof.Machine
end

