-- ==== Sys2Proof/Laws/UpdCoreSys.lean ====
section
/-! SUPPORT. What each operation of Machine/CoreSys.lean touches and keeps. -/

namespace Sys2Proof.Machine

theorem execMfs_upd {x0 x1 x2 x3 s} : UpdO 4294967295 s (execMfs x0 x1 x2 x3 s) := by
  unfold execMfs
  repeat' (first
    | with_reducible exact Upd.refl
    | with_reducible assumption
    | (intro u; clear_value u)
    | lift_lets
    | (with_reducible apply Upd.via; with_reducible apply State.raiseExc_upd; decide)
    | (with_reducible apply Upd.via; with_reducible apply State.retire_upd; decide)
    | with_reducible refine State.issue_upd ?_ (by decide) (fun _ _ => ?_)
    | with_reducible refine UpdO.mk' ?_
    | split)

theorem execMts_upd {x0 x1 x2 x3 s} : UpdO 4294967295 s (execMts x0 x1 x2 x3 s) := by
  unfold execMts
  repeat' (first
    | with_reducible exact Upd.refl
    | with_reducible assumption
    | (intro u; clear_value u)
    | lift_lets
    | (with_reducible apply Upd.via; with_reducible apply State.raiseExc_upd; decide)
    | (with_reducible apply Upd.via; with_reducible apply State.retire_upd; decide)
    | with_reducible refine State.issue_upd ?_ (by decide) (fun _ _ => ?_)
    | with_reducible refine UpdO.mk' ?_
    | split)

theorem State.eret_upd {s x1} : Upd 131072 s (State.eret s x1) := by
  unfold State.eret
  repeat' (first
    | with_reducible exact Upd.refl
    | lift_lets
    | (with_reducible apply Upd.via; with_reducible apply State.updPair_upd; decide)
    | (with_reducible apply Upd.via; with_reducible apply State.dropOwn_upd; decide))

theorem execEret_upd {x0 x1 s} : UpdO 4294967295 s (execEret x0 x1 s) := by
  unfold execEret
  repeat' (first
    | with_reducible exact Upd.refl
    | with_reducible assumption
    | (with_reducible apply Upd.via; with_reducible apply State.eret_upd; decide)
    | with_reducible refine State.privileged_upd ?_ (by decide) (fun _ _ => ?_)
    | with_reducible refine UpdO.mk' ?_)

theorem State.pageAllows_upd {s x1 x2 x3 x4 x5} : Upd2 537133032 s (State.pageAllows s x1 x2 x3 x4 x5) := by
  unfold State.pageAllows
  repeat' (first
    | with_reducible exact Upd.refl
    | (with_reducible apply Upd2.via; with_reducible apply State.translate_upd; decide)
    | with_reducible refine Upd2.mk' ?_
    | split
    | (with_reducible apply Upd.sndOf'; with_reducible assumption))

theorem State.pageMapped_upd {s x1 x2 x3 x4} : Upd2 537133032 s (State.pageMapped s x1 x2 x3 x4) := by
  unfold State.pageMapped
  repeat' (first
    | with_reducible exact Upd.refl
    | (with_reducible apply Upd2.via; with_reducible apply State.lookup_upd; decide)
    | with_reducible refine Upd2.mk' ?_
    | split
    | (with_reducible apply Upd.sndOf'; with_reducible assumption))

theorem State.pagesFail_upd {x0 x1 x2 x3 x4 s} : Upd2 537133032 s (State.pagesFail x0 x1 x2 x3 x4 s) := by
  fun_induction State.pagesFail x0 x1 x2 x3 x4 s
  all_goals repeat' (first
    | with_reducible exact Upd.refl
    | lift_lets
    | split
    | (with_reducible apply Upd2.via; with_reducible apply State.pageAllows_upd; decide)
    | (with_reducible apply Upd2.via; with_reducible apply State.pageMapped_upd; decide)
    | with_reducible refine Upd2.mk' ?_
    | (with_reducible apply Upd.sndOf'; with_reducible assumption)
    | with_reducible refine Upd.via (Upd.snd (by assumption)) (by decide) ?_)

theorem State.bufferCheck_upd {s x1 x2} : Upd2 537133032 s (State.bufferCheck s x1 x2) := by
  unfold State.bufferCheck
  repeat' (first
    | with_reducible exact Upd.refl
    | (intro u; clear_value u)
    | lift_lets
    | (with_reducible apply Upd.via; with_reducible apply Upd.snd State.pagesFail_upd; decide)
    | with_reducible refine Upd2.mk' ?_
    | split)

theorem State.bufferChecks_upd {x0 x1 x2 s} : Upd2 537133032 s (State.bufferChecks x0 x1 x2 s) := by
  fun_induction State.bufferChecks x0 x1 x2 s
  all_goals repeat' (first
    | with_reducible exact Upd.refl
    | (with_reducible apply Upd2.via; with_reducible apply State.bufferCheck_upd; decide)
    | with_reducible refine Upd2.mk' ?_
    | (with_reducible apply Upd.sndOf'; with_reducible assumption)
    | with_reducible refine Upd.via (Upd.snd (by assumption)) (by decide) ?_)

theorem State.readGate_upd {s x1 x2 x3} : Upd2 1610874872 s (State.readGate s x1 x2 x3) := by
  unfold State.readGate
  repeat' (first
    | with_reducible exact Upd.refl
    | (intro u; clear_value u)
    | lift_lets
    | (with_reducible apply Upd.via; with_reducible apply Upd.snd State.fetchBytes_upd; decide)
    | (with_reducible apply Upd2.via; with_reducible apply State.reach_upd; decide)
    | with_reducible refine Upd2.mk' ?_
    | split
    | (with_reducible apply Upd.sndOf'; with_reducible assumption))

theorem State.gateEnter_upd {s x1 x2 x3} : Upd 131072 s (State.gateEnter s x1 x2 x3) := by
  unfold State.gateEnter
  repeat' (first
    | with_reducible exact Upd.refl
    | (intro u; clear_value u)
    | lift_lets
    | (with_reducible apply Upd.via; with_reducible apply State.updPair_upd; decide)
    | (with_reducible apply Upd.via; with_reducible apply State.dropOwn_upd; decide))

theorem execGate_upd {x0 x1 x2 s} : UpdO 4294967295 s (execGate x0 x1 x2 s) := by
  unfold execGate
  dsimp only
  repeat' (first
    | with_reducible exact Upd.refl
    | with_reducible assumption
    | (with_reducible apply Upd.via; with_reducible apply State.raiseExc_upd; decide)
    | (with_reducible apply Upd.via; with_reducible apply State.gateEnter_upd; decide)
    | (with_reducible apply Upd2.via; with_reducible apply State.bufferChecks_upd; decide)
    | (with_reducible apply Upd2.via; with_reducible apply State.readGate_upd; decide)
    | with_reducible refine State.issue_upd ?_ (by decide) (fun _ _ => ?_)
    | with_reducible refine UpdO.mk' ?_
    | split
    | (with_reducible apply Upd.sndOf'; with_reducible assumption))

theorem execGateReturn_upd {x0 x1 s} : UpdO 4294967295 s (execGateReturn x0 x1 s) := by
  unfold execGateReturn
  repeat' (first
    | with_reducible exact Upd.refl
    | with_reducible assumption
    | (intro u; clear_value u)
    | lift_lets
    | (with_reducible apply Upd.via; with_reducible apply State.raiseExc_upd; decide)
    | (with_reducible apply Upd.via; with_reducible apply State.updPair_upd; decide)
    | (with_reducible apply Upd.via; with_reducible apply State.dropOwn_upd; decide)
    | with_reducible refine State.issue_upd ?_ (by decide) (fun _ _ => ?_)
    | with_reducible refine UpdO.mk' ?_
    | split)

theorem execWait_upd {x0 x1 s} : UpdO 4294967295 s (execWait x0 x1 s) := by
  unfold execWait
  repeat' (first
    | with_reducible exact Upd.refl
    | with_reducible assumption
    | (intro u; clear_value u)
    | lift_lets
    | (with_reducible apply Upd.via; with_reducible apply State.retire_upd; decide)
    | with_reducible refine State.privileged_upd ?_ (by decide) (fun _ _ => ?_)
    | with_reducible refine UpdO.mk' ?_)

theorem State.tlbInv_upd {s x1 x2 x3} : Upd 4294967295 s (State.tlbInv s x1 x2 x3) := by
  unfold State.tlbInv
  repeat' (first
    | with_reducible exact Upd.refl
    | with_reducible assumption
    | (with_reducible apply Upd.via; with_reducible apply State.retire_upd; decide)
    | with_reducible refine State.privileged_upd ?_ (by decide) (fun _ _ => ?_))

theorem execTlbinvPage_upd {x0 x1 x2 s} : UpdO 4294967295 s (execTlbinvPage x0 x1 x2 s) := by
  unfold execTlbinvPage
  repeat' (first
    | with_reducible exact Upd.refl
    | (with_reducible apply Upd.via; with_reducible apply State.tlbInv_upd; decide)
    | with_reducible refine UpdO.mk' ?_)

theorem execTlbinvAsid_upd {x0 x1 x2 s} : UpdO 4294967295 s (execTlbinvAsid x0 x1 x2 s) := by
  unfold execTlbinvAsid
  repeat' (first
    | with_reducible exact Upd.refl
    | (with_reducible apply Upd.via; with_reducible apply State.tlbInv_upd; decide)
    | with_reducible refine UpdO.mk' ?_)

theorem execTlbinvWorld_upd {x0 x1 s} : UpdO 4294967295 s (execTlbinvWorld x0 x1 s) := by
  unfold execTlbinvWorld
  repeat' (first
    | with_reducible exact Upd.refl
    | (with_reducible apply Upd.via; with_reducible apply State.tlbInv_upd; decide)
    | with_reducible refine UpdO.mk' ?_)

theorem execDi_upd {x0 x1 x2 s} : UpdO 4294967295 s (execDi x0 x1 x2 s) := by
  unfold execDi
  repeat' (first
    | with_reducible exact Upd.refl
    | with_reducible assumption
    | (with_reducible apply Upd.via; with_reducible apply State.retire_upd; decide)
    | with_reducible refine State.privileged_upd ?_ (by decide) (fun _ _ => ?_)
    | with_reducible refine UpdO.mk' ?_)

theorem execEi_upd {x0 x1 s} : UpdO 4294967295 s (execEi x0 x1 s) := by
  unfold execEi
  repeat' (first
    | with_reducible exact Upd.refl
    | with_reducible assumption
    | (with_reducible apply Upd.via; with_reducible apply State.retire_upd; decide)
    | with_reducible refine State.privileged_upd ?_ (by decide) (fun _ _ => ?_)
    | with_reducible refine UpdO.mk' ?_)

theorem execInterruptEntry_upd {x0 x1 s} : UpdO 4294967295 s (execInterruptEntry x0 x1 s) := by
  unfold execInterruptEntry
  dsimp only
  repeat' (first
    | with_reducible exact Upd.refl
    | split
    | (with_reducible apply Upd.via; with_reducible apply State.enterExc_upd; decide)
    | (with_reducible apply Upd.via; with_reducible apply State.tick_upd; decide)
    | (with_reducible apply Upd.via; with_reducible apply State.delivered_upd; decide)
    | with_reducible refine UpdO.mk' ?_)

theorem execLockstepMismatch_upd {x0 x1 s} : UpdO 257640 s (execLockstepMismatch x0 x1 s) := by
  unfold execLockstepMismatch
  repeat' (first
    | with_reducible exact Upd.refl
    | with_reducible assumption
    | (intro u; refine Upd.cut 257640 s u ?_ (fun _ => ?_); subst u; rotate_left; clear_value u; rotate_right)
    | (intro u; clear_value u)
    | lift_lets
    | split
    | (with_reducible apply Upd.via; with_reducible apply State.raise_upd; decide)
    | (with_reducible apply Upd.via; with_reducible apply State.haltPair_upd; decide)
    | (with_reducible apply Upd.via; with_reducible apply State.bump_upd; decide)
    | (with_reducible apply Upd.via; with_reducible apply State.updPair_upd; decide)
    | (with_reducible apply Upd.via; with_reducible apply State.losePair_upd; decide)
    | with_reducible refine UpdO.mk' ?_)

theorem execCorePairSelftestDone_upd {x0 x1 x2 s} : UpdO 17038952 s (execCorePairSelftestDone x0 x1 x2 s) := by
  unfold execCorePairSelftestDone
  repeat' (first
    | with_reducible exact Upd.refl
    | with_reducible assumption
    | (intro u; refine Upd.cut 17038952 s u ?_ (fun _ => ?_); subst u; rotate_left; clear_value u; rotate_right)
    | (intro u; clear_value u)
    | lift_lets
    | split
    | (with_reducible apply Upd.via; with_reducible apply State.raise_upd; decide)
    | (with_reducible apply Upd.via; with_reducible apply State.wr_upd; decide)
    | (with_reducible apply Upd.via; with_reducible apply State.updPair_upd; decide)
    | (with_reducible apply Upd.via; with_reducible apply State.backInService_upd; decide)
    | (with_reducible apply Upd.via; with_reducible apply State.testEnded_upd; decide)
    | (with_reducible apply Upd.via; with_reducible apply State.testOver_upd; decide)
    | with_reducible refine UpdO.mk' ?_)

end Sys2Proof.Machine
end

