-- ==== Sys2Proof/Laws/UpdCustody.lean ====
section
/-! SUPPORT. What each operation of Machine/Custody.lean touches and keeps. -/

namespace Sys2Proof.Machine

theorem State.beginCustody_upd {s x1 x2 x3 x4 x5 x6 x7} : Upd 4227144 s (State.beginCustody s x1 x2 x3 x4 x5 x6 x7) := by
  unfold State.beginCustody
  repeat' (first
    | with_reducible exact Upd.refl
    | with_reducible assumption
    | (intro u; refine Upd.cut 4227144 s u ?_ (fun _ => ?_); subst u; rotate_left; clear_value u; rotate_right)
    | (intro u; clear_value u)
    | lift_lets
    | (with_reducible apply Upd.via; with_reducible apply State.usePress_upd; decide)
    | (with_reducible apply Upd.via; with_reducible apply State.trailRec_upd; decide)
    | (with_reducible apply Upd.via; with_reducible apply State.updKeys_upd; decide)
    | split)

theorem State.updCustody_upd {s x1} : Upd 32768 s (State.updCustody s x1) := by
  unfold State.updCustody
  repeat' (first
    | with_reducible exact Upd.refl
    | (with_reducible apply Upd.via; with_reducible apply State.updKeys_upd; decide))

theorem State.fillTransient_upd {s x1 x2} : Upd 32768 s (State.fillTransient s x1 x2) := by
  unfold State.fillTransient
  repeat' (first
    | with_reducible exact Upd.refl
    | (intro u; clear_value u)
    | lift_lets
    | (with_reducible apply Upd.via; with_reducible apply State.updCustody_upd; decide)
    | (with_reducible apply Upd.via; with_reducible apply State.fillSlot_upd; decide)
    | split)

theorem State.genWrapped_upd {s x1 x2} : Upd1 1073774592 s (State.genWrapped s x1 x2) := by
  fun_induction State.genWrapped s x1 x2
  all_goals repeat' (first
    | with_reducible exact Upd.refl
    | lift_lets
    | (with_reducible apply Upd.via; with_reducible apply State.fillSlot_upd; decide)
    | (with_reducible apply Upd.via; with_reducible apply State.updKeys_upd; decide)
    | (with_reducible apply Upd1.via; with_reducible apply State.wrap_upd; decide)
    | (with_reducible apply Upd2.via; with_reducible apply State.draw_upd; decide)
    | with_reducible refine Upd1.mk' ?_
    | (with_reducible apply Upd.fstOf'; with_reducible assumption)
    | (with_reducible apply Upd.sndOf'; with_reducible assumption)
    | with_reducible refine Upd.via (Upd.fst (by assumption)) (by decide) ?_)

theorem State.dropRecords_upd {s x1} : Upd 32768 s (State.dropRecords s x1) := by
  unfold State.dropRecords
  repeat' (first
    | with_reducible exact Upd.refl
    | (with_reducible apply Upd.via; with_reducible apply State.updKeys_upd; decide))

theorem State.newEpoch_upd {s x1 x2 x3} : Upd1 1611136744 s (State.newEpoch s x1 x2 x3) := by
  unfold State.newEpoch
  repeat' (first
    | with_reducible exact Upd.refl
    | lift_lets
    | split
    | (with_reducible apply Upd.via; with_reducible apply State.clearSlots_upd; decide)
    | (with_reducible apply Upd1.via; with_reducible apply State.genWrapped_upd; decide)
    | (with_reducible apply Upd1.via; with_reducible apply State.makeCurrent_upd; decide)
    | (with_reducible apply UpdOpt2.via; with_reducible apply State.namespaceRoom_upd; decide)
    | with_reducible refine Upd1.mk' ?_
    | (with_reducible apply Upd.fstOf'; with_reducible assumption)
    | (with_reducible apply Upd.someOf2'; with_reducible assumption))

theorem State.destroyNs_upd {s x1} : Upd 671350504 s (State.destroyNs s x1) := by
  unfold State.destroyNs
  repeat' (first
    | with_reducible exact Upd.refl
    | with_reducible assumption
    | (intro u; refine Upd.cut 671350504 s u ?_ (fun _ => ?_); subst u; rotate_left; clear_value u; rotate_right)
    | lift_lets
    | (with_reducible apply Upd.via; with_reducible apply State.dropRecords_upd; decide)
    | (with_reducible apply Upd.via; with_reducible apply State.clearSlots_upd; decide)
    | (with_reducible apply Upd.via; with_reducible apply State.setDict_upd; decide)
    | (with_reducible apply Upd.via; with_reducible apply State.updKeys_upd; decide))

theorem State.setDomain_upd {s x1 x2 x3} : Upd 268435456 s (State.setDomain s x1 x2 x3) := Upd.refl.put_domains (by decide) rising_tput

theorem State.issueManifest_upd {s x1} : Upd 1342185472 s (State.issueManifest s x1) := by
  unfold State.issueManifest
  repeat' (first
    | with_reducible exact Upd.refl
    | lift_lets
    | (with_reducible apply Upd.via; with_reducible apply State.setDomain_upd; decide)
    | (with_reducible apply Upd.via; with_reducible apply Upd.snd State.draw_upd; decide)
    | (with_reducible apply Upd.via; with_reducible apply State.updPack_upd; decide))

theorem State.changeManifest_upd {s x1 x2} : Upd1 1879310056 s (State.changeManifest s x1 x2) := by
  unfold State.changeManifest
  repeat' (first
    | with_reducible exact Upd.refl
    | with_reducible assumption
    | (intro u; refine Upd.cut 1879310056 s u ?_ (fun _ => ?_); subst u; rotate_left; clear_value u; rotate_right)
    | lift_lets
    | (with_reducible apply Upd.via; with_reducible apply State.dropRecords_upd; decide)
    | (with_reducible apply Upd.via; with_reducible apply State.issueManifest_upd; decide)
    | (with_reducible apply Upd.via; with_reducible apply State.clearSlots_upd; decide)
    | (with_reducible apply Upd1.via; with_reducible apply State.genWrapped_upd; decide)
    | with_reducible refine Upd1.mk' ?_
    | split
    | (with_reducible apply Upd.fstOf'; with_reducible assumption))

theorem State.releaseOwner_upd {s} : Upd 939785960 s (State.releaseOwner s) := by
  unfold State.releaseOwner
  repeat' (first
    | with_reducible exact Upd.refl
    | with_reducible assumption
    | (intro u; refine Upd.cut 939785960 s u ?_ (fun _ => ?_); subst u; rotate_left; clear_value u; rotate_right)
    | (intro u; clear_value u)
    | lift_lets
    | with_reducible refine Upd.foldl ?_ (fun _ _ _ => ?_)
    | (with_reducible apply Upd.via; with_reducible apply State.dropRecords_upd; decide)
    | (with_reducible apply Upd.via; with_reducible apply State.setDomain_upd; decide)
    | (with_reducible apply Upd.via; with_reducible apply State.clearSlots_upd; decide)
    | (with_reducible apply Upd.via; with_reducible apply State.flag_upd; decide)
    | (with_reducible apply Upd.via; with_reducible apply State.setDict_upd; decide)
    | (with_reducible apply Upd.via; with_reducible apply State.updPack_upd; decide)
    | (with_reducible apply Upd.via; with_reducible apply State.updKeys_upd; decide))

theorem State.envelope_upd {s x1 x2 x3 x4 x5 x6} : Upd2 1073741824 s (State.envelope s x1 x2 x3 x4 x5 x6) := by
  unfold State.envelope
  repeat' (first
    | with_reducible exact Upd.refl
    | (intro u; clear_value u)
    | lift_lets
    | (with_reducible apply Upd.via; with_reducible apply Upd.snd State.draw_upd; decide)
    | with_reducible refine Upd2.mk' ?_)

theorem State.escrow_upd {s x1 x2} : Upd 1073774592 s (State.escrow s x1 x2) := by
  unfold State.escrow
  repeat' (first
    | with_reducible exact Upd.refl
    | with_reducible assumption
    | (intro u; refine Upd.cut 1073774592 s u ?_ (fun _ => ?_); subst u; rotate_left; clear_value u; rotate_right)
    | (intro u; clear_value u)
    | lift_lets
    | with_reducible refine Upd.foldl ?_ (fun _ _ _ => ?_)
    | with_reducible refine Upd.snd (Upd2.foldl ?_ (fun _ _ _ => ?_))
    | split
    | (with_reducible apply Upd.via; with_reducible apply State.fillTransient_upd; decide)
    | (with_reducible apply Upd.via; with_reducible apply State.updKeys_upd; decide)
    | (with_reducible apply Upd2.via; with_reducible apply State.envelope_upd; decide)
    | (with_reducible apply Upd2.via; with_reducible apply State.split_upd; decide)
    | with_reducible refine Upd2.mk' ?_
    | with_reducible exact Upd.snd (by assumption)
    | (with_reducible apply Upd.sndOf'; with_reducible assumption))

theorem State.finishEscrow_upd {s x1 x2} : Upd1 1073774592 s (State.finishEscrow s x1 x2) := by
  unfold State.finishEscrow
  repeat' (first
    | with_reducible exact Upd.refl
    | (with_reducible apply Upd.via; with_reducible apply State.escrow_upd; decide)
    | (with_reducible apply Upd.via; with_reducible apply State.updKeys_upd; decide)
    | with_reducible refine Upd1.mk' ?_
    | split)

theorem State.finishRotate_upd {s x1 x2} : Upd1 1074036736 s (State.finishRotate s x1 x2) := by
  unfold State.finishRotate
  repeat' (first
    | with_reducible exact Upd.refl
    | with_reducible assumption
    | (intro u; refine Upd.cut 1074036736 s u ?_ (fun _ => ?_); subst u; rotate_left; clear_value u; rotate_right)
    | lift_lets
    | (with_reducible apply Upd.via; with_reducible apply State.escrow_upd; decide)
    | (with_reducible apply Upd.via; with_reducible apply State.newVault_upd; decide)
    | (with_reducible apply Upd.via; with_reducible apply State.rewrapAll_upd; decide)
    | (with_reducible apply Upd.via; with_reducible apply State.commitRotation_upd; decide)
    | with_reducible refine Upd1.mk' ?_
    | split)

theorem State.custodyEffect_upd {s x1 x2 x3} : Upd1 2013789928 s (State.custodyEffect s x1 x2 x3) := by
  unfold State.custodyEffect
  repeat' (first
    | with_reducible exact Upd.refl
    | (with_reducible apply Upd.via; with_reducible apply Upd.fst State.newEpoch_upd; decide)
    | (with_reducible apply Upd.via; with_reducible apply State.destroyNs_upd; decide)
    | (with_reducible apply Upd.via; with_reducible apply Upd.fst State.changeManifest_upd; decide)
    | (with_reducible apply Upd.via; with_reducible apply State.releaseOwner_upd; decide)
    | (with_reducible apply Upd.via; with_reducible apply Upd.fst State.finishEscrow_upd; decide)
    | (with_reducible apply Upd.via; with_reducible apply Upd.fst State.finishRotate_upd; decide)
    | (with_reducible apply Upd.via; with_reducible apply Upd.fst State.combineInto_upd; decide)
    | with_reducible refine Upd1.mk' ?_
    | split)

theorem State.tryComplete_upd {s x1 x2} : Upd1 2080898792 s (State.tryComplete s x1 x2) := by
  unfold State.tryComplete
  repeat' (first
    | with_reducible exact Upd.refl
    | lift_lets
    | (with_reducible apply Upd.via; with_reducible apply Upd.fst State.custodyEffect_upd; decide)
    | (with_reducible apply Upd.via; with_reducible apply State.endCustody_upd; decide)
    | with_reducible refine Upd1.mk' ?_
    | split)

theorem State.newEnrollNonce_upd {s} : Upd 1073774592 s (State.newEnrollNonce s) := by
  unfold State.newEnrollNonce
  repeat' (first
    | with_reducible exact Upd.refl
    | lift_lets
    | (with_reducible apply Upd.via; with_reducible apply Upd.snd State.draw_upd; decide)
    | (with_reducible apply Upd.via; with_reducible apply State.updKeys_upd; decide))

theorem State.enrollSteps_upd {s x1 x2 x3} : Upd1 2013527784 s (State.enrollSteps s x1 x2 x3) := by
  unfold State.enrollSteps
  repeat' (first
    | with_reducible exact Upd.refl
    | with_reducible assumption
    | (intro u; refine Upd.cut 2013527784 s u ?_ (fun _ => ?_); subst u; rotate_left; clear_value u; rotate_right)
    | lift_lets
    | (with_reducible apply Upd.via; with_reducible apply State.setDomain_upd; decide)
    | (with_reducible apply Upd.via; with_reducible apply State.issueManifest_upd; decide)
    | (with_reducible apply Upd.via; with_reducible apply State.clearSlots_upd; decide)
    | (with_reducible apply Upd.via; with_reducible apply State.wr_upd; decide)
    | (with_reducible apply Upd.via; with_reducible apply Upd.snd State.draw_upd; decide)
    | (with_reducible apply Upd.via; with_reducible apply State.setDict_upd; decide)
    | (with_reducible apply Upd.via; with_reducible apply State.updKeys_upd; decide)
    | (with_reducible apply Upd1.via; with_reducible apply State.genWrapped_upd; decide)
    | (with_reducible apply Upd2.via; with_reducible apply State.draw_upd; decide)
    | with_reducible refine Upd1.mk' ?_
    | split
    | (with_reducible apply Upd.fstOf'; with_reducible assumption)
    | (with_reducible apply Upd.sndOf'; with_reducible assumption))

theorem State.restoreShare_upd {s x1 x2} : Upd1 536903680 s (State.restoreShare s x1 x2) := by
  unfold State.restoreShare
  repeat' (first
    | with_reducible exact Upd.refl
    | with_reducible assumption
    | (intro u; refine Upd.cut 536903680 s u ?_ (fun _ => ?_); subst u; rotate_left; clear_value u; rotate_right)
    | lift_lets
    | split
    | (with_reducible apply Upd.via; with_reducible apply State.updCustody_upd; decide)
    | (with_reducible apply Upd.via; with_reducible apply State.fillTransient_upd; decide)
    | (with_reducible apply Upd.via; with_reducible apply State.emit_upd; decide)
    | with_reducible refine Upd1.mk' ?_)

theorem State.countBadge_upd {s x1 x2 x3} : Upd1 536903680 s (State.countBadge s x1 x2 x3) := by
  unfold State.countBadge
  repeat' (first
    | with_reducible exact Upd.refl
    | (with_reducible apply Upd.via; with_reducible apply State.updCustody_upd; decide)
    | (with_reducible apply Upd.via; with_reducible apply Upd.fst State.restoreShare_upd; decide)
    | with_reducible refine Upd1.mk' ?_
    | split)

theorem execBadgeAuth_upd {x0 x1 s} : UpdO 2084044520 s (execBadgeAuth x0 x1 s) := by
  unfold execBadgeAuth
  repeat' (first
    | with_reducible exact Upd.refl
    | with_reducible assumption
    | (intro u; refine Upd.cut 2084044520 s u ?_ (fun _ => ?_); subst u; rotate_left; clear_value u; rotate_right)
    | (intro u; clear_value u)
    | lift_lets
    | (with_reducible apply Upd.via; with_reducible apply State.coreNote_upd; decide)
    | (with_reducible apply Upd.via; with_reducible apply State.fillTransient_upd; decide)
    | (with_reducible apply Upd.via; with_reducible apply Upd.fst State.tryComplete_upd; decide)
    | (with_reducible apply Upd.via; with_reducible apply Upd.fst State.countBadge_upd; decide)
    | (with_reducible apply Upd.via; with_reducible apply State.trailRec_upd; decide)
    | (with_reducible apply Upd.via; with_reducible apply State.updReader_upd; decide)
    | with_reducible refine UpdO.mk' ?_
    | split)

theorem execPresenceTimeout_upd {s} : UpdO 2752249580 s (execPresenceTimeout s) := by
  unfold execPresenceTimeout
  repeat' (first
    | with_reducible exact Upd.refl
    | (with_reducible apply Upd.via; with_reducible apply State.endCustody_upd; decide)
    | (with_reducible apply Upd.via; with_reducible apply State.advanceTo_upd; decide)
    | with_reducible refine UpdO.mk' ?_
    | split)

end Sys2Proof.Machine
end

