-- ==== Sys2Proof/Laws/UpdDebug.lean ====
section
/-! SUPPORT. What each operation of Machine/Debug.lean touches and keeps. -/

namespace Sys2Proof.Machine

theorem State.newNonce_upd {s} : Upd 1090519040 s (State.newNonce s) := by
  unfold State.newNonce
  repeat' (first
    | with_reducible exact Upd.refl
    | lift_lets
    | (with_reducible apply Upd.via; with_reducible apply Upd.snd State.draw_upd; decide)
    | (with_reducible apply Upd.via; with_reducible apply State.updChip_upd; decide))

theorem State.lockVault_upd {s} : Upd 553909992 s (State.lockVault s) := by
  unfold State.lockVault
  repeat' (first
    | with_reducible exact Upd.refl
    | (with_reducible apply Upd.via; with_reducible apply State.clearSlots_upd; decide)
    | (with_reducible apply Upd.via; with_reducible apply State.updChip_upd; decide))

theorem State.openScopes_upd {s x1} : Upd 553909992 s (State.openScopes s x1) := by
  unfold State.openScopes
  repeat' (first
    | with_reducible exact Upd.refl
    | with_reducible assumption
    | (intro u; refine Upd.cut 553909992 s u ?_ (fun _ => ?_); subst u; rotate_left; clear_value u; rotate_right)
    | (intro u; clear_value u)
    | lift_lets
    | (with_reducible apply Upd.via; with_reducible apply State.lockVault_upd; decide)
    | (with_reducible apply Upd.via; with_reducible apply State.wr_upd; decide)
    | (with_reducible apply Upd.via; with_reducible apply State.updChip_upd; decide)
    | split)

theorem State.debugAuth_upd {s x1} : Upd1 1631846120 s (State.debugAuth s x1) := by
  unfold State.debugAuth
  repeat' (first
    | with_reducible exact Upd.refl
    | with_reducible assumption
    | (intro u; refine Upd.cut 1631846120 s u ?_ (fun _ => ?_); subst u; rotate_left; clear_value u; rotate_right)
    | (intro u; clear_value u)
    | lift_lets
    | (with_reducible apply Upd.via; with_reducible apply State.newNonce_upd; decide)
    | (with_reducible apply Upd.via; with_reducible apply State.openScopes_upd; decide)
    | (with_reducible apply Upd.via; with_reducible apply State.usePress_upd; decide)
    | (with_reducible apply Upd.via; with_reducible apply State.wr_upd; decide)
    | (with_reducible apply Upd.via; with_reducible apply State.trailRec_upd; decide)
    | with_reducible refine Upd1.mk' ?_
    | split)

theorem execDebugAuth_upd {x0 s} : UpdO 1631846120 s (execDebugAuth x0 s) := by
  unfold execDebugAuth
  repeat' (first
    | with_reducible exact Upd.refl
    | (with_reducible apply Upd.via; with_reducible apply Upd.fst State.debugAuth_upd; decide)
    | (with_reducible apply Upd.via; with_reducible apply State.updChip_upd; decide)
    | with_reducible refine UpdO.mk' ?_
    | split)

theorem execDebugExpiry_upd {s} : UpdO 2164785164 s (execDebugExpiry s) := by
  unfold execDebugExpiry
  repeat' (first
    | with_reducible exact Upd.refl
    | with_reducible assumption
    | (intro u; refine Upd.cut 2164785164 s u ?_ (fun _ => ?_); subst u; rotate_left; clear_value u; rotate_right)
    | (intro u; clear_value u)
    | lift_lets
    | with_reducible refine Upd.foldl ?_ (fun _ _ _ => ?_)
    | (with_reducible apply Upd.via; with_reducible apply State.setBit_upd; decide)
    | (with_reducible apply Upd.via; with_reducible apply State.updChip_upd; decide)
    | (with_reducible apply Upd.via; with_reducible apply State.advance_upd; decide)
    | with_reducible refine UpdO.mk' ?_
    | split)

theorem State.tapInstr_upd {m t s x1 x2 x3} (h : Upd m t s) (hm : Nat.land 553648128 m = 553648128) (hb : ∀ u, Upd m t u → Upd m t (x3 u)) :
    Upd m t (State.tapInstr s x1 x2 x3) := by
  unfold State.tapInstr
  repeat' (first
    | with_reducible assumption
    | with_reducible refine hb _ ?_
    | split
    | (with_reducible apply Upd.via; with_reducible apply State.emit_upd; exact landTrans (by decide) hm)
    | (with_reducible apply Upd.via; with_reducible apply State.updChip_upd; exact landTrans (by decide) hm))

theorem execBypass_upd {s} : UpdO 553648128 s (execBypass s) := by
  unfold execBypass
  repeat' (first
    | with_reducible exact Upd.refl
    | with_reducible assumption
    | (with_reducible apply Upd.via; with_reducible apply State.emit_upd; decide)
    | with_reducible refine State.tapInstr_upd ?_ (by decide) (fun _ _ => ?_)
    | with_reducible refine UpdO.mk' ?_)

theorem execIdcode_upd {s} : UpdO 553648128 s (execIdcode s) := by
  unfold execIdcode
  repeat' (first
    | with_reducible exact Upd.refl
    | with_reducible assumption
    | (with_reducible apply Upd.via; with_reducible apply State.emit_upd; decide)
    | with_reducible refine State.tapInstr_upd ?_ (by decide) (fun _ _ => ?_)
    | with_reducible refine UpdO.mk' ?_)

theorem execSamplePreload_upd {x0 x1 s} : UpdO 553648128 s (execSamplePreload x0 x1 s) := by
  unfold execSamplePreload
  repeat' (first
    | with_reducible exact Upd.refl
    | with_reducible assumption
    | (with_reducible apply Upd.via; with_reducible apply State.emit_upd; decide)
    | (with_reducible apply Upd.via; with_reducible apply State.updChip_upd; decide)
    | with_reducible refine State.tapInstr_upd ?_ (by decide) (fun _ _ => ?_)
    | with_reducible refine UpdO.mk' ?_)

theorem execExtest_upd {x0 x1 s} : UpdO 553648128 s (execExtest x0 x1 s) := by
  unfold execExtest
  repeat' (first
    | with_reducible exact Upd.refl
    | with_reducible assumption
    | (with_reducible apply Upd.via; with_reducible apply State.emit_upd; decide)
    | (with_reducible apply Upd.via; with_reducible apply State.updChip_upd; decide)
    | with_reducible refine State.tapInstr_upd ?_ (by decide) (fun _ _ => ?_)
    | with_reducible refine UpdO.mk' ?_)

theorem execClamp_upd {s} : UpdO 553648128 s (execClamp s) := by
  unfold execClamp
  repeat' (first
    | with_reducible exact Upd.refl
    | with_reducible assumption
    | (with_reducible apply Upd.via; with_reducible apply State.emit_upd; decide)
    | with_reducible refine State.tapInstr_upd ?_ (by decide) (fun _ _ => ?_)
    | with_reducible refine UpdO.mk' ?_)

theorem execHighz_upd {s} : UpdO 553648128 s (execHighz s) := by
  unfold execHighz
  repeat' (first
    | with_reducible exact Upd.refl
    | with_reducible assumption
    | (with_reducible apply Upd.via; with_reducible apply State.emit_upd; decide)
    | (with_reducible apply Upd.via; with_reducible apply State.updChip_upd; decide)
    | with_reducible refine State.tapInstr_upd ?_ (by decide) (fun _ _ => ?_)
    | with_reducible refine UpdO.mk' ?_)

theorem execDbgNonce_upd {s} : UpdO 553648128 s (execDbgNonce s) := by
  unfold execDbgNonce
  repeat' (first
    | with_reducible exact Upd.refl
    | with_reducible assumption
    | (with_reducible apply Upd.via; with_reducible apply State.emit_upd; decide)
    | with_reducible refine State.tapInstr_upd ?_ (by decide) (fun _ _ => ?_)
    | with_reducible refine UpdO.mk' ?_)

theorem execDbgAccess_upd {x0 x1 x2 x3 s} : UpdO 4294967295 s (execDbgAccess x0 x1 x2 x3 s) := by
  unfold execDbgAccess
  repeat' (first
    | with_reducible exact Upd.refl
    | with_reducible assumption
    | (intro u; clear_value u)
    | lift_lets
    | (with_reducible apply Upd.via; with_reducible apply Upd.snd State.fetchBytes_upd; decide)
    | (with_reducible apply Upd.via; with_reducible apply State.writeMem_upd; decide)
    | (with_reducible apply Upd.via; with_reducible apply State.emit_upd; decide)
    | (with_reducible apply Upd.via; with_reducible apply State.storeReg_upd; decide)
    | (with_reducible apply Upd2.via; with_reducible apply State.guard_upd; decide)
    | with_reducible refine State.tapInstr_upd ?_ (by decide) (fun _ _ => ?_)
    | with_reducible refine UpdO.mk' ?_
    | split
    | (with_reducible apply Upd.sndOf'; with_reducible assumption))

theorem execTestReset_upd {s} : UpdO 16777216 s (execTestReset s) := by
  unfold execTestReset
  repeat' (first
    | with_reducible exact Upd.refl
    | (with_reducible apply Upd.via; with_reducible apply State.updChip_upd; decide)
    | with_reducible refine UpdO.mk' ?_
    | split)

end Sys2Proof.Machine
end

