-- ==== Sys2Proof/Laws/UpdDictionary.lean ====
section
/-! SUPPORT. What each operation of Machine/Dictionary.lean touches and keeps. -/

namespace Sys2Proof.Machine

theorem State.addrChange_upd {s} : Upd 67108864 s (State.addrChange s) := by
  unfold State.addrChange
  repeat' (first
    | with_reducible exact Upd.refl
    | (with_reducible apply Upd.via; with_reducible apply State.updSmilia_upd; decide))

theorem State.setTime_upd {s x1} : Upd 524300 s (State.setTime s x1) := by
  unfold State.setTime
  repeat' (first
    | with_reducible exact Upd.refl
    | split
    | (with_reducible apply Upd.via; with_reducible apply State.flag_upd; decide)
    | (with_reducible apply Upd.via; with_reducible apply State.updKennel_upd; decide)
    | (with_reducible apply Upd.via; with_reducible apply State.setRtc_upd; decide))

theorem State.applyEffect_upd {s x1 x2 x3} : Upd 67708460 s (State.applyEffect s x1 x2 x3) := by
  unfold State.applyEffect
  repeat' (first
    | with_reducible exact Upd.refl
    | with_reducible assumption
    | (intro u; refine Upd.cut 67708460 s u ?_ (fun _ => ?_); subst u; rotate_left; clear_value u; rotate_right)
    | (intro u; clear_value u)
    | lift_lets
    | with_reducible refine Upd.foldl ?_ (fun _ _ _ => ?_)
    | (with_reducible apply Upd.via; with_reducible apply State.setSourceCfg_upd; decide)
    | (with_reducible apply Upd.via; with_reducible apply State.addrChange_upd; decide)
    | (with_reducible apply Upd.via; with_reducible apply State.setTime_upd; decide)
    | (with_reducible apply Upd.via; with_reducible apply State.setMonitor_upd; decide)
    | (with_reducible apply Upd.via; with_reducible apply State.wr_upd; decide)
    | (with_reducible apply Upd.via; with_reducible apply State.flag_upd; decide)
    | (with_reducible apply Upd.via; with_reducible apply State.updSmilia_upd; decide)
    | (with_reducible apply Upd.via; with_reducible apply State.balancePools_upd; decide)
    | split)

theorem State.putDict_upd {s x1 x2 x3} : Upd 201926188 s (State.putDict s x1 x2 x3) := by
  unfold State.putDict
  repeat' (first
    | with_reducible exact Upd.refl
    | with_reducible assumption
    | (intro u; refine Upd.cut 201926188 s u ?_ (fun _ => ?_); subst u; rotate_left; clear_value u; rotate_right)
    | (intro u; clear_value u)
    | lift_lets
    | (with_reducible apply Upd.via; with_reducible apply State.applyEffect_upd; decide)
    | (with_reducible apply Upd.via; with_reducible apply State.setDict_upd; decide)
    | split)

theorem State.applySaved_upd {s x1} : Upd 67708460 s (State.applySaved s x1) := by
  unfold State.applySaved
  repeat' (first
    | with_reducible exact Upd.refl
    | with_reducible assumption
    | (intro u; clear_value u)
    | lift_lets
    | with_reducible refine Upd.foldl ?_ (fun _ _ _ => ?_)
    | (with_reducible apply Upd.via; with_reducible apply State.setSourceCfg_upd; decide)
    | (with_reducible apply Upd.via; with_reducible apply State.applyEffect_upd; decide)
    | split)

theorem State.takeAddr_upd {s} : Upd 67108872 s (State.takeAddr s) := by
  unfold State.takeAddr
  repeat' (first
    | with_reducible exact Upd.refl
    | with_reducible assumption
    | (intro u; refine Upd.cut 67108872 s u ?_ (fun _ => ?_); subst u; rotate_left; clear_value u; rotate_right)
    | lift_lets
    | (with_reducible apply Upd.via; with_reducible apply State.flag_upd; decide)
    | (with_reducible apply Upd.via; with_reducible apply State.updSmilia_upd; decide))

theorem execKennelPor_upd {x0 x1 s} : UpdO 604765932 s (execKennelPor x0 x1 s) := by
  unfold execKennelPor
  repeat' (first
    | with_reducible exact Upd.refl
    | with_reducible assumption
    | (intro u; refine Upd.cut 604765932 s u ?_ (fun _ => ?_); subst u; rotate_left; clear_value u; rotate_right)
    | lift_lets
    | split
    | (with_reducible apply Upd.via; with_reducible apply State.applySaved_upd; decide)
    | (with_reducible apply Upd.via; with_reducible apply State.kennelEvent_upd; decide)
    | (with_reducible apply Upd.via; with_reducible apply State.kennelDefaults_upd; decide)
    | (with_reducible apply Upd.via; with_reducible apply State.wr_upd; decide)
    | (with_reducible apply Upd.via; with_reducible apply State.updKennel_upd; decide)
    | (with_reducible apply Upd.via; with_reducible apply State.setRtc_upd; decide)
    | (with_reducible apply Upd.via; with_reducible apply State.updKeys_upd; decide)
    | with_reducible refine UpdO.mk' ?_)

end Sys2Proof.Machine
end

