-- ==== Sys2Proof/Laws/UpdSmlBase.lean ====
section
/-! SUPPORT. What each operation of Machine/SmlBase.lean touches and keeps. -/

namespace Sys2Proof.Machine

theorem State.setSml_upd {s x1 x2} : Upd 67108864 s (State.setSml s x1 x2) := by
  unfold State.setSml
  repeat' (first
    | with_reducible exact Upd.refl
    | (with_reducible apply Upd.via; with_reducible apply State.updSmilia_upd; decide))

theorem State.updSml_upd {s x1 x2} : Upd 67108864 s (State.updSml s x1 x2) := by
  unfold State.updSml
  repeat' (first
    | with_reducible exact Upd.refl
    | (with_reducible apply Upd.via; with_reducible apply State.updSmilia_upd; decide))

theorem State.smlRaw_upd {s x1 x2 x3 x4 x5 x6} : Upd 603979776 s (State.smlRaw s x1 x2 x3 x4 x5 x6) := by
  unfold State.smlRaw
  repeat' (first
    | with_reducible exact Upd.refl
    | (intro u; clear_value u)
    | lift_lets
    | (with_reducible apply Upd.via; with_reducible apply State.emit_upd; decide)
    | (with_reducible apply Upd.via; with_reducible apply State.setSml_upd; decide)
    | split)

theorem State.smlFrame_upd {s x1 x2 x3 x4 x5 x6} : Upd 603979776 s (State.smlFrame s x1 x2 x3 x4 x5 x6) := by
  unfold State.smlFrame
  repeat' (first
    | with_reducible exact Upd.refl
    | (with_reducible apply Upd.via; with_reducible apply State.updSml_upd; decide)
    | (with_reducible apply Upd.via; with_reducible apply State.smlRaw_upd; decide)
    | split)

theorem State.smlSend_upd {s x1 x2 x3 x4 x5} : Upd 603979776 s (State.smlSend s x1 x2 x3 x4 x5) := by
  unfold State.smlSend
  repeat' (first
    | with_reducible exact Upd.refl
    | with_reducible refine Upd.fst (Upd1.foldl ?_ (fun _ _ _ => ?_))
    | (with_reducible apply Upd.via; with_reducible apply State.smlFrame_upd; decide)
    | with_reducible refine Upd1.mk' ?_
    | with_reducible exact Upd.fst (by assumption))

theorem State.smlPlain_upd {s x1 x2 x3 x4} : Upd 536870912 s (State.smlPlain s x1 x2 x3 x4) := by
  unfold State.smlPlain
  repeat' (first
    | with_reducible exact Upd.refl
    | (intro u; clear_value u)
    | lift_lets
    | with_reducible refine Upd.fst (Upd1.foldl ?_ (fun _ _ _ => ?_))
    | split
    | (with_reducible apply Upd.via; with_reducible apply State.emit_upd; decide)
    | with_reducible refine Upd1.mk' ?_
    | with_reducible exact Upd.fst (by assumption))

theorem State.plainReset_upd {s x1 x2} : Upd 536870912 s (State.plainReset s x1 x2) := by
  unfold State.plainReset
  repeat' (first
    | with_reducible exact Upd.refl
    | (with_reducible apply Upd.via; with_reducible apply State.smlPlain_upd; decide))

theorem State.dropMgmt_upd {s} : Upd 8 s (State.dropMgmt s) := by
  unfold State.dropMgmt
  repeat' (first
    | with_reducible exact Upd.refl
    | (with_reducible apply Upd.via; with_reducible apply State.bump_upd; decide))

theorem State.smlReply_upd {s x1 x2 x3 x4} : Upd 603979776 s (State.smlReply s x1 x2 x3 x4) := by
  unfold State.smlReply
  repeat' (first
    | with_reducible exact Upd.refl
    | (with_reducible apply Upd.via; with_reducible apply State.smlSend_upd; decide))

theorem State.acceptSml_upd {s x1 x2} : Upd1 603979784 s (State.acceptSml s x1 x2) := by
  unfold State.acceptSml
  repeat' (first
    | with_reducible exact Upd.refl
    | with_reducible assumption
    | (intro u; refine Upd.cut 603979784 s u ?_ (fun _ => ?_); subst u; rotate_left; clear_value u; rotate_right)
    | (intro u; clear_value u)
    | lift_lets
    | (with_reducible apply Upd.via; with_reducible apply State.setSml_upd; decide)
    | (with_reducible apply Upd.via; with_reducible apply State.smlSend_upd; decide)
    | (with_reducible apply Upd.via; with_reducible apply State.dropMgmt_upd; decide)
    | (with_reducible apply Upd.via; with_reducible apply State.smlReply_upd; decide)
    | with_reducible refine Upd1.mk' ?_
    | split)

theorem State.closeSml_upd {s x1 x2} : Upd 67108864 s (State.closeSml s x1 x2) := by
  unfold State.closeSml
  repeat' (first
    | with_reducible exact Upd.refl
    | with_reducible assumption
    | (intro u; refine Upd.cut 67108864 s u ?_ (fun _ => ?_); subst u; rotate_left; clear_value u; rotate_right)
    | lift_lets
    | (with_reducible apply Upd.via; with_reducible apply State.updSmilia_upd; decide)
    | (with_reducible apply Upd.via; with_reducible apply State.updSml_upd; decide))

theorem State.assemble_upd {s x1 x2 x3 x4 x5} : Upd1 67108864 s (State.assemble s x1 x2 x3 x4 x5) := by
  unfold State.assemble
  repeat' (first
    | with_reducible exact Upd.refl
    | (intro u; clear_value u)
    | lift_lets
    | (with_reducible apply Upd.via; with_reducible apply State.setSml_upd; decide)
    | with_reducible refine Upd1.mk' ?_
    | split)

theorem State.notify_upd {s x1 x2 x3 x4 x5} : Upd 603979776 s (State.notify s x1 x2 x3 x4 x5) := by
  unfold State.notify
  repeat' (first
    | with_reducible exact Upd.refl
    | (intro u; clear_value u)
    | lift_lets
    | (with_reducible apply Upd.via; with_reducible apply State.setSml_upd; decide)
    | (with_reducible apply Upd.via; with_reducible apply State.smlSend_upd; decide)
    | split)

theorem State.watchEntry_upd {s x1 x2 x3 x4} : Upd 603979776 s (State.watchEntry s x1 x2 x3 x4) := by
  unfold State.watchEntry
  repeat' (first
    | with_reducible exact Upd.refl
    | with_reducible assumption
    | (intro u; refine Upd.cut 603979776 s u ?_ (fun _ => ?_); subst u; rotate_left; clear_value u; rotate_right)
    | (intro u; clear_value u)
    | lift_lets
    | (with_reducible apply Upd.via; with_reducible apply State.setSml_upd; decide)
    | (with_reducible apply Upd.via; with_reducible apply State.notify_upd; decide)
    | split)

theorem State.scan_upd {s x1} : Upd 603979776 s (State.scan s x1) := by
  unfold State.scan
  repeat' (first
    | with_reducible exact Upd.refl
    | with_reducible assumption
    | (intro u; clear_value u)
    | lift_lets
    | with_reducible refine Upd.foldl ?_ (fun _ _ _ => ?_)
    | (with_reducible apply Upd.via; with_reducible apply State.watchEntry_upd; decide)
    | split)

theorem State.smlRequest_upd {m t s x1 x2 x3} (h : Upd m t s) (hm : Nat.land 603979784 m = 603979784) (hb : ∀ u a b, Upd m t u → Upd1 m t (x3 u a b)) :
    Upd m t (State.smlRequest s x1 x2 x3) := by
  unfold State.smlRequest
  repeat' (first
    | with_reducible assumption
    | (intro u; refine Upd.cut m t u ?_ (fun _ => ?_); subst u; rotate_left; clear_value u; rotate_right)
    | lift_lets
    | split
    | (with_reducible apply Upd.via; with_reducible apply State.setSml_upd; exact landTrans (by decide) hm)
    | (with_reducible apply Upd.via; with_reducible apply State.updSml_upd; exact landTrans (by decide) hm)
    | (with_reducible apply Upd.via; with_reducible apply State.smlSend_upd; exact landTrans (by decide) hm)
    | (with_reducible apply Upd.via; with_reducible apply State.smlReply_upd; exact landTrans (by decide) hm)
    | (with_reducible apply Upd.via; with_reducible apply State.scan_upd; exact landTrans (by decide) hm)
    | (with_reducible apply Upd1.via; with_reducible apply State.acceptSml_upd; exact landTrans (by decide) hm)
    | (with_reducible apply Upd1.via; with_reducible apply State.assemble_upd; exact landTrans (by decide) hm)
    | with_reducible refine Upd.fst (hb _ _ _ ?_)
    | (with_reducible apply Upd.fstOf'; with_reducible assumption)
    | dsimp only)

end Sys2Proof.Machine
end

