-- ==== Sys2Proof/Laws/UpdCommands.lean ====
section
/-! SUPPORT. What each operation of Machine/Commands.lean touches and keeps. -/

namespace Sys2Proof.Machine

theorem State.dictChange_upd {s x1 x2 x3 x4} : Upd2 258024 s (State.dictChange s x1 x2 x3 x4) := by
  unfold State.dictChange
  repeat' (first
    | with_reducible exact Upd.refl
    | (with_reducible apply Upd2.via; with_reducible apply State.recordNow_upd; decide))

theorem State.saveFails_upd {s} : Upd1 1073999464 s (State.saveFails s) := by
  unfold State.saveFails
  repeat' (first
    | with_reducible exact Upd.refl
    | lift_lets
    | (with_reducible apply Upd.via; with_reducible apply State.raise_upd; decide)
    | (with_reducible apply Upd.via; with_reducible apply Upd.snd State.draw_upd; decide)
    | with_reducible refine Upd1.mk' ?_)

theorem State.endVendor_upd {s} : Upd 603979776 s (State.endVendor s) := by
  unfold State.endVendor
  repeat' (first
    | with_reducible exact Upd.refl
    | with_reducible assumption
    | with_reducible refine Upd.foldl ?_ (fun _ _ _ => ?_)
    | (with_reducible apply Upd.via; with_reducible apply State.smlSend_upd; decide)
    | (with_reducible apply Upd.via; with_reducible apply State.closeSml_upd; decide)
    | split)

theorem State.writeValue_upd {s x1 x2 x3 x4 x5} : Upd1 1812721644 s (State.writeValue s x1 x2 x3 x4 x5) := by
  unfold State.writeValue
  repeat' (first
    | with_reducible exact Upd.refl
    | lift_lets
    | (with_reducible apply Upd.via; with_reducible apply Upd.snd State.dictChange_upd; decide)
    | (with_reducible apply Upd.via; with_reducible apply Upd.fst State.saveFails_upd; decide)
    | (with_reducible apply Upd.via; with_reducible apply State.endVendor_upd; decide)
    | (with_reducible apply Upd.via; with_reducible apply State.putDict_upd; decide)
    | with_reducible refine Upd1.mk' ?_
    | split)

theorem State.applyDomain_upd {s x1 x2 x3} : Upd 805568232 s (State.applyDomain s x1 x2 x3) := by
  unfold State.applyDomain
  repeat' (first
    | with_reducible exact Upd.refl
    | with_reducible assumption
    | with_reducible refine Upd.foldl ?_ (fun _ _ _ => ?_)
    | (with_reducible apply Upd.via; with_reducible apply State.setDomain_upd; decide)
    | (with_reducible apply Upd.via; with_reducible apply State.addTo_upd; decide)
    | (with_reducible apply Upd.via; with_reducible apply State.applyMedia_upd; decide)
    | (with_reducible apply Upd.via; with_reducible apply State.applyShelf_upd; decide)
    | split)

theorem State.writeDomain_upd {s x1 x2 x3 x4 x5} : Upd1 1900281832 s (State.writeDomain s x1 x2 x3 x4 x5) := by
  unfold State.writeDomain
  repeat' (first
    | with_reducible exact Upd.refl
    | lift_lets
    | (with_reducible apply Upd.via; with_reducible apply Upd.snd State.dictChange_upd; decide)
    | (with_reducible apply Upd.via; with_reducible apply Upd.fst State.saveFails_upd; decide)
    | (with_reducible apply Upd.via; with_reducible apply State.applyDomain_upd; decide)
    | (with_reducible apply Upd.via; with_reducible apply Upd.fst State.debugAuth_upd; decide)
    | with_reducible refine Upd1.mk' ?_
    | split)

theorem State.cmdStatus_upd {s x1 x2} : Upd 67108864 s (State.cmdStatus s x1 x2) := by
  unfold State.cmdStatus
  repeat' (first
    | with_reducible exact Upd.refl
    | (with_reducible apply Upd.via; with_reducible apply State.updSmilia_upd; decide))

theorem State.enroll_upd {s x1 x2 x3 x4 x5} : Upd1 2084831208 s (State.enroll s x1 x2 x3 x4 x5) := by
  unfold State.enroll
  repeat' (first
    | with_reducible exact Upd.refl
    | with_reducible assumption
    | (intro u; refine Upd.cut 2084831208 s u ?_ (fun _ => ?_); subst u; rotate_left; clear_value u; rotate_right)
    | lift_lets
    | (with_reducible apply Upd.via; with_reducible apply Upd.snd State.dictChange_upd; decide)
    | (with_reducible apply Upd.via; with_reducible apply State.cmdStatus_upd; decide)
    | (with_reducible apply Upd.via; with_reducible apply State.beginCustody_upd; decide)
    | (with_reducible apply Upd.via; with_reducible apply State.newEnrollNonce_upd; decide)
    | (with_reducible apply Upd.via; with_reducible apply Upd.fst State.enrollSteps_upd; decide)
    | (with_reducible apply Upd.via; with_reducible apply State.endCustody_upd; decide)
    | with_reducible refine Upd1.mk' ?_
    | split)

theorem State.runCustody_upd {s x1 x2 x3 x4 x5 x6 x7 x8} : Upd1 2085093096 s (State.runCustody s x1 x2 x3 x4 x5 x6 x7 x8) := by
  unfold State.runCustody
  repeat' (first
    | with_reducible exact Upd.refl
    | (with_reducible apply Upd.via; with_reducible apply State.beginCustody_upd; decide)
    | (with_reducible apply Upd1.via; with_reducible apply State.tryComplete_upd; decide)
    | with_reducible refine Upd1.mk' ?_
    | split
    | (with_reducible apply Upd.fstOf'; with_reducible assumption))

theorem State.emptyTables_upd {s} : Upd 537132776 s (State.emptyTables s) := by
  unfold State.emptyTables
  repeat' (first
    | with_reducible exact Upd.refl
    | with_reducible assumption
    | (intro u; refine Upd.cut 537132776 s u ?_ (fun _ => ?_); subst u; rotate_left; clear_value u; rotate_right)
    | (intro u; clear_value u)
    | lift_lets
    | with_reducible refine Upd.foldl ?_ (fun _ _ _ => ?_)
    | (with_reducible apply Upd.via; with_reducible apply State.addTo_upd; decide)
    | (with_reducible apply Upd.via; with_reducible apply State.applyMedia_upd; decide)
    | (with_reducible apply Upd.via; with_reducible apply State.applyShelf_upd; decide)
    | (with_reducible apply Upd.via; with_reducible apply State.updShepherd_upd; decide))

theorem State.restoreDefaults_upd {s x1 x2} : Upd 1007419116 s (State.restoreDefaults s x1 x2) := by
  unfold State.restoreDefaults
  dsimp only
  repeat' (first
    | with_reducible exact Upd.refl
    | with_reducible assumption
    | with_reducible refine Upd.foldl ?_ (fun _ _ _ => ?_)
    | (with_reducible apply Upd.via; with_reducible apply State.setSourceCfg_upd; decide)
    | (with_reducible apply Upd.via; with_reducible apply State.endVendor_upd; decide)
    | (with_reducible apply Upd.via; with_reducible apply State.emptyTables_upd; decide)
    | (with_reducible apply Upd.via; with_reducible apply State.applyEffect_upd; decide)
    | (with_reducible apply Upd.via; with_reducible apply State.dropDict_upd; decide)
    | split)

theorem State.exportBundle_upd {s x1 x2} : Upd1 2684878860 s (State.exportBundle s x1 x2) := by
  unfold State.exportBundle
  repeat' (first
    | with_reducible exact Upd.refl
    | with_reducible assumption
    | (intro u; clear_value u)
    | lift_lets
    | (with_reducible apply Upd.via; with_reducible apply State.bump_upd; decide)
    | (with_reducible apply Upd.via; with_reducible apply State.flag_upd; decide)
    | (with_reducible apply Upd.via; with_reducible apply State.emit_upd; decide)
    | (with_reducible apply Upd.via; with_reducible apply Upd.fst State.sdOutcome_upd; decide)
    | with_reducible refine State.withCard_upd ?_ (by decide) (fun _ _ => ?_)
    | with_reducible refine Upd1.mk' ?_
    | split
    | (with_reducible apply Upd.fstOf'; with_reducible assumption))

theorem State.importSection_upd {s x1 x2 x3 x4} : Upd 1900543976 s (State.importSection s x1 x2 x3 x4) := by
  unfold State.importSection
  repeat' (first
    | with_reducible exact Upd.refl
    | (intro u; clear_value u)
    | lift_lets
    | (with_reducible apply Upd.via; with_reducible apply Upd.fst State.writeDomain_upd; decide)
    | (with_reducible apply UpdOpt.via; with_reducible apply State.programAll_upd; decide)
    | split
    | with_reducible refine Upd.getD ?_ ?_)

theorem State.importBundle_upd {s x1 x2 x3 x4} : Upd1 4048551916 s (State.importBundle s x1 x2 x3 x4) := by
  unfold State.importBundle
  repeat' (first
    | with_reducible exact Upd.refl
    | with_reducible assumption
    | lift_lets
    | with_reducible refine Upd.foldl ?_ (fun _ _ _ => ?_)
    | (with_reducible apply Upd.via; with_reducible apply Upd.fst State.saveFails_upd; decide)
    | (with_reducible apply Upd.via; with_reducible apply State.importSection_upd; decide)
    | (with_reducible apply Upd.via; with_reducible apply Upd.fst State.sdOutcome_upd; decide)
    | with_reducible refine State.withCard_upd ?_ (by decide) (fun _ _ => ?_)
    | with_reducible refine Upd1.mk' ?_
    | split
    | (with_reducible apply Upd.fstOf'; with_reducible assumption))

theorem State.attestFor_upd {s x1 x2 x3} : Upd1 3289116652 s (State.attestFor s x1 x2 x3) := by
  unfold State.attestFor
  repeat' (first
    | with_reducible exact Upd.refl
    | with_reducible assumption
    | (intro u; refine Upd.cut 3289116652 s u ?_ (fun _ => ?_); subst u; rotate_left; clear_value u; rotate_right)
    | lift_lets
    | (with_reducible apply Upd.via; with_reducible apply Upd.snd State.draw_upd; decide)
    | (with_reducible apply Upd.via; with_reducible apply State.updSml_upd; decide)
    | (with_reducible apply Upd2.via; with_reducible apply State.attest_upd; decide)
    | with_reducible refine Upd1.mk' ?_
    | split
    | (with_reducible apply Upd.sndOf'; with_reducible assumption))

theorem State.kennelAnswer_upd {s} : Upd1 0 s (State.kennelAnswer s) := by
  unfold State.kennelAnswer
  repeat' (first
    | with_reducible exact Upd.refl
    | with_reducible refine Upd1.mk' ?_)

theorem State.injectFor_upd {s x1} : Upd1 537132776 s (State.injectFor s x1) := by
  unfold State.injectFor
  dsimp only
  repeat' (first
    | with_reducible exact Upd.refl
    | (with_reducible apply Upd.via; with_reducible apply State.fcuInject_upd; decide)
    | (with_reducible apply Upd.via; with_reducible apply State.injFields_upd; decide)
    | (with_reducible apply Upd.via; with_reducible apply State.wr_upd; decide)
    | with_reducible refine Upd1.mk' ?_
    | split)

theorem State.eccInjectFor_upd {s x1} : Upd 8 s (State.eccInjectFor s x1) := by
  unfold State.eccInjectFor
  dsimp only
  repeat' (first
    | with_reducible exact Upd.refl
    | (with_reducible apply Upd.via; with_reducible apply State.wr_upd; decide))

theorem State.selfTestFor_upd {s x1} : Upd1 84096008 s (State.selfTestFor s x1) := by
  unfold State.selfTestFor
  repeat' (first
    | with_reducible exact Upd.refl
    | lift_lets
    | (with_reducible apply Upd.via; with_reducible apply State.endTestRun_upd; decide)
    | (with_reducible apply Upd.via; with_reducible apply Upd.fst State.runTests_upd; decide)
    | with_reducible refine Upd1.mk' ?_)

theorem State.action_upd {s x1 x2 x3 x4 x5 x6} : Upd1 4249878508 s (State.action s x1 x2 x3 x4 x5 x6) := by
  unfold State.action
  repeat' (first
    | with_reducible exact Upd.refl
    | lift_lets
    | split
    | (with_reducible apply Upd.via; with_reducible apply State.clearRecord_upd; decide)
    | (with_reducible apply Upd.via; with_reducible apply State.restoreDefaults_upd; decide)
    | (with_reducible apply Upd.via; with_reducible apply State.eccInjectFor_upd; decide)
    | (with_reducible apply Upd.via; with_reducible apply State.unlock_upd; decide)
    | (with_reducible apply Upd.via; with_reducible apply State.clearLatch_upd; decide)
    | (with_reducible apply Upd1.via; with_reducible apply State.saveFails_upd; decide)
    | (with_reducible apply Upd1.via; with_reducible apply State.runCustody_upd; decide)
    | (with_reducible apply Upd1.via; with_reducible apply State.exportBundle_upd; decide)
    | (with_reducible apply Upd1.via; with_reducible apply State.importBundle_upd; decide)
    | (with_reducible apply Upd1.via; with_reducible apply State.attestFor_upd; decide)
    | (with_reducible apply Upd1.via; with_reducible apply State.kennelAnswer_upd; decide)
    | (with_reducible apply Upd1.via; with_reducible apply State.injectFor_upd; decide)
    | (with_reducible apply Upd1.via; with_reducible apply State.selfTestFor_upd; decide)
    | with_reducible refine Upd1.mk' ?_
    | (with_reducible apply Upd.fstOf'; with_reducible assumption))

theorem State.command_upd {s x1 x2 x3 x4 x5} : Upd1 4249878508 s (State.command s x1 x2 x3 x4 x5) := by
  unfold State.command
  repeat' (first
    | with_reducible exact Upd.refl
    | (intro u; clear_value u)
    | lift_lets
    | (with_reducible apply Upd.via; with_reducible apply Upd.snd State.dictChange_upd; decide)
    | (with_reducible apply Upd.via; with_reducible apply State.cmdStatus_upd; decide)
    | (with_reducible apply Upd1.via; with_reducible apply State.action_upd; decide)
    | with_reducible refine Upd1.mk' ?_
    | split
    | (with_reducible apply Upd.fstOf'; with_reducible assumption))

theorem State.order_upd {s x1 x2 x3 x4} : Upd 4249878508 s (State.order s x1 x2 x3 x4) := by
  unfold State.order
  repeat' (first
    | with_reducible exact Upd.refl
    | with_reducible assumption
    | (intro u; refine Upd.cut 4249878508 s u ?_ (fun _ => ?_); subst u; rotate_left; clear_value u; rotate_right)
    | lift_lets
    | (with_reducible apply Upd.via; with_reducible apply Upd.fst State.enroll_upd; decide)
    | (with_reducible apply Upd.via; with_reducible apply Upd.fst State.command_upd; decide)
    | (with_reducible apply Upd.via; with_reducible apply State.emit_upd; decide)
    | (with_reducible apply Upd.via; with_reducible apply State.scan_upd; decide)
    | split)

theorem execRestoreDefaults_upd {x0 x1 x2 s} : UpdO 4249878508 s (execRestoreDefaults x0 x1 x2 s) := by
  unfold execRestoreDefaults
  repeat' (first
    | with_reducible exact Upd.refl
    | (with_reducible apply Upd.via; with_reducible apply State.order_upd; decide)
    | with_reducible refine UpdO.mk' ?_)

theorem execEnroll_upd {x0 x1 x2 s} : UpdO 4249878508 s (execEnroll x0 x1 x2 s) := by
  unfold execEnroll
  repeat' (first
    | with_reducible exact Upd.refl
    | (with_reducible apply Upd.via; with_reducible apply State.order_upd; decide)
    | with_reducible refine UpdO.mk' ?_)

theorem execEscrowCreate_upd {x0 x1 x2 x3 s} : UpdO 4249878508 s (execEscrowCreate x0 x1 x2 x3 s) := by
  unfold execEscrowCreate
  repeat' (first
    | with_reducible exact Upd.refl
    | (with_reducible apply Upd.via; with_reducible apply State.order_upd; decide)
    | with_reducible refine UpdO.mk' ?_)

theorem execVaultRotate_upd {x0 x1 x2 x3 s} : UpdO 4249878508 s (execVaultRotate x0 x1 x2 x3 s) := by
  unfold execVaultRotate
  repeat' (first
    | with_reducible exact Upd.refl
    | (with_reducible apply Upd.via; with_reducible apply State.order_upd; decide)
    | with_reducible refine UpdO.mk' ?_)

theorem execVaultRestore_upd {x0 x1 x2 s} : UpdO 4249878508 s (execVaultRestore x0 x1 x2 s) := by
  unfold execVaultRestore
  repeat' (first
    | with_reducible exact Upd.refl
    | (with_reducible apply Upd.via; with_reducible apply State.order_upd; decide)
    | with_reducible refine UpdO.mk' ?_)

theorem execNsCreate_upd {x0 x1 x2 s} : UpdO 4249878508 s (execNsCreate x0 x1 x2 s) := by
  unfold execNsCreate
  repeat' (first
    | with_reducible exact Upd.refl
    | (with_reducible apply Upd.via; with_reducible apply State.order_upd; decide)
    | with_reducible refine UpdO.mk' ?_)

theorem execNsRotate_upd {x0 x1 x2 s} : UpdO 4249878508 s (execNsRotate x0 x1 x2 s) := by
  unfold execNsRotate
  repeat' (first
    | with_reducible exact Upd.refl
    | (with_reducible apply Upd.via; with_reducible apply State.order_upd; decide)
    | with_reducible refine UpdO.mk' ?_)

theorem execNsDestroy_upd {x0 x1 x2 s} : UpdO 4249878508 s (execNsDestroy x0 x1 x2 s) := by
  unfold execNsDestroy
  repeat' (first
    | with_reducible exact Upd.refl
    | (with_reducible apply Upd.via; with_reducible apply State.order_upd; decide)
    | with_reducible refine UpdO.mk' ?_)

theorem execManifestKeyChange_upd {x0 x1 x2 s} : UpdO 4249878508 s (execManifestKeyChange x0 x1 x2 s) := by
  unfold execManifestKeyChange
  repeat' (first
    | with_reducible exact Upd.refl
    | (with_reducible apply Upd.via; with_reducible apply State.order_upd; decide)
    | with_reducible refine UpdO.mk' ?_)

theorem execOwnerRelease_upd {x0 x1 x2 s} : UpdO 4249878508 s (execOwnerRelease x0 x1 x2 s) := by
  unfold execOwnerRelease
  repeat' (first
    | with_reducible exact Upd.refl
    | (with_reducible apply Upd.via; with_reducible apply State.order_upd; decide)
    | with_reducible refine UpdO.mk' ?_)

theorem execAttest_upd {x0 x1 x2 s} : UpdO 4249878508 s (execAttest x0 x1 x2 s) := by
  unfold execAttest
  repeat' (first
    | with_reducible exact Upd.refl
    | (with_reducible apply Upd.via; with_reducible apply State.order_upd; decide)
    | with_reducible refine UpdO.mk' ?_)

theorem execSrcClear_upd {x0 x1 x2 s} : UpdO 4249878508 s (execSrcClear x0 x1 x2 s) := by
  unfold execSrcClear
  repeat' (first
    | with_reducible exact Upd.refl
    | (with_reducible apply Upd.via; with_reducible apply State.order_upd; decide)
    | with_reducible refine UpdO.mk' ?_)

theorem execKnlUnlock_upd {x0 x1 x2 s} : UpdO 4249878508 s (execKnlUnlock x0 x1 x2 s) := by
  unfold execKnlUnlock
  repeat' (first
    | with_reducible exact Upd.refl
    | (with_reducible apply Upd.via; with_reducible apply State.order_upd; decide)
    | with_reducible refine UpdO.mk' ?_)

theorem execKnlClrLatch_upd {x0 x1 x2 s} : UpdO 4249878508 s (execKnlClrLatch x0 x1 x2 s) := by
  unfold execKnlClrLatch
  repeat' (first
    | with_reducible exact Upd.refl
    | (with_reducible apply Upd.via; with_reducible apply State.order_upd; decide)
    | with_reducible refine UpdO.mk' ?_)

theorem execBundleExport_upd {x0 x1 x2 s} : UpdO 4249878508 s (execBundleExport x0 x1 x2 s) := by
  unfold execBundleExport
  repeat' (first
    | with_reducible exact Upd.refl
    | (with_reducible apply Upd.via; with_reducible apply State.order_upd; decide)
    | with_reducible refine UpdO.mk' ?_)

theorem execBundleImport_upd {x0 x1 x2 s} : UpdO 4249878508 s (execBundleImport x0 x1 x2 s) := by
  unfold execBundleImport
  repeat' (first
    | with_reducible exact Upd.refl
    | (with_reducible apply Upd.via; with_reducible apply State.order_upd; decide)
    | with_reducible refine UpdO.mk' ?_)

theorem execSelftest_upd {x0 x1 x2 s} : UpdO 4249878508 s (execSelftest x0 x1 x2 s) := by
  unfold execSelftest
  repeat' (first
    | with_reducible exact Upd.refl
    | (with_reducible apply Upd.via; with_reducible apply State.order_upd; decide)
    | with_reducible refine UpdO.mk' ?_)

theorem execFcuInject_upd {x0 x1 x2 x3 s} : UpdO 4249878508 s (execFcuInject x0 x1 x2 x3 s) := by
  unfold execFcuInject
  repeat' (first
    | with_reducible exact Upd.refl
    | (with_reducible apply Upd.via; with_reducible apply State.order_upd; decide)
    | with_reducible refine UpdO.mk' ?_)

theorem execEccInject_upd {x0 x1 x2 s} : UpdO 4249878508 s (execEccInject x0 x1 x2 s) := by
  unfold execEccInject
  repeat' (first
    | with_reducible exact Upd.refl
    | (with_reducible apply Upd.via; with_reducible apply State.order_upd; decide)
    | with_reducible refine UpdO.mk' ?_)

end Sys2Proof.Machine
end

