-- ==== Sys2Proof/Laws/UpdSmilia.lean ====
section
/-! SUPPORT. What each operation of Machine/Smilia.lean touches and keeps. -/

namespace Sys2Proof.Machine

theorem State.takeSmlId_upd {s} : Upd2 1140850688 s (State.takeSmlId s) := by
  unfold State.takeSmlId
  repeat' (first
    | with_reducible exact Upd.refl
    | lift_lets
    | (with_reducible apply Upd.via; with_reducible apply Upd.snd State.draw_upd; decide)
    | (with_reducible apply Upd.via; with_reducible apply State.updSmilia_upd; decide)
    | with_reducible refine Upd2.mk' ?_
    | split)

theorem State.authFails_upd {s} : Upd 257640 s (State.authFails s) := by
  unfold State.authFails
  repeat' (first
    | with_reducible exact Upd.refl
    | (with_reducible apply Upd.via; with_reducible apply State.raise_upd; decide)
    | (with_reducible apply Upd.via; with_reducible apply State.bump_upd; decide))

theorem State.openSmlSession_upd {s x1 x2 x3 x4 x5} : Upd 1677721600 s (State.openSmlSession s x1 x2 x3 x4 x5) := by
  unfold State.openSmlSession
  repeat' (first
    | with_reducible exact Upd.refl
    | lift_lets
    | (with_reducible apply Upd.via; with_reducible apply Upd.snd State.deviceAuth_upd; decide)
    | (with_reducible apply Upd.via; with_reducible apply Upd.snd State.takeSmlId_upd; decide)
    | (with_reducible apply Upd.via; with_reducible apply State.setSml_upd; decide)
    | (with_reducible apply Upd.via; with_reducible apply State.smlSend_upd; decide)
    | (with_reducible apply Upd.via; with_reducible apply State.smlPlain_upd; decide))

theorem State.takeSmlHello_upd {s x1 x2} : Upd 1677979240 s (State.takeSmlHello s x1 x2) := by
  unfold State.takeSmlHello
  repeat' (first
    | with_reducible exact Upd.refl
    | (intro u; clear_value u)
    | lift_lets
    | split
    | (with_reducible apply Upd.via; with_reducible apply State.authFails_upd; decide)
    | (with_reducible apply Upd.via; with_reducible apply State.openSmlSession_upd; decide)
    | (with_reducible apply Upd.via; with_reducible apply State.smlSend_upd; decide)
    | (with_reducible apply Upd.via; with_reducible apply State.smlPlain_upd; decide)
    | (with_reducible apply Upd.via; with_reducible apply State.plainReset_upd; decide)
    | (with_reducible apply Upd2.via; with_reducible apply State.share_upd; decide)
    | (with_reducible apply Upd.sndOf'; with_reducible assumption))

theorem State.helloRate_upd {s} : Upd1 67366504 s (State.helloRate s) := by
  unfold State.helloRate
  repeat' (first
    | with_reducible exact Upd.refl
    | with_reducible assumption
    | (intro u; refine Upd.cut 67366504 s u ?_ (fun _ => ?_); subst u; rotate_left; clear_value u; rotate_right)
    | (intro u; clear_value u)
    | lift_lets
    | (with_reducible apply Upd.via; with_reducible apply State.raise_upd; decide)
    | (with_reducible apply Upd.via; with_reducible apply State.bump_upd; decide)
    | (with_reducible apply Upd.via; with_reducible apply State.updSmilia_upd; decide)
    | with_reducible refine Upd1.mk' ?_
    | split)

theorem execHello_upd {x0 s} : UpdO 1677979240 s (execHello x0 s) := by
  unfold execHello
  repeat' (first
    | with_reducible exact Upd.refl
    | with_reducible assumption
    | (intro u; refine Upd.cut 1677979240 s u ?_ (fun _ => ?_); subst u; rotate_left; clear_value u; rotate_right)
    | (intro u; clear_value u)
    | lift_lets
    | split
    | (with_reducible apply Upd.via; with_reducible apply State.updSmilia_upd; decide)
    | (with_reducible apply Upd.via; with_reducible apply State.takeSmlHello_upd; decide)
    | (with_reducible apply Upd.via; with_reducible apply State.dropMgmt_upd; decide)
    | (with_reducible apply Upd1.via; with_reducible apply State.helloRate_upd; decide)
    | with_reducible refine UpdO.mk' ?_
    | (with_reducible apply Upd.fstOf'; with_reducible assumption))

theorem execSmlAuth_upd {x0 s} : UpdO 604237416 s (execSmlAuth x0 s) := by
  unfold execSmlAuth
  dsimp only
  repeat' (first
    | with_reducible exact Upd.refl
    | split
    | (with_reducible apply Upd.via; with_reducible apply State.authFails_upd; decide)
    | (with_reducible apply Upd.via; with_reducible apply State.updSml_upd; decide)
    | (with_reducible apply Upd.via; with_reducible apply State.smlSend_upd; decide)
    | (with_reducible apply Upd.via; with_reducible apply State.smlReply_upd; decide)
    | (with_reducible apply Upd.via; with_reducible apply State.closeSml_upd; decide)
    | (with_reducible apply Upd1.via; with_reducible apply State.acceptSml_upd; decide)
    | (with_reducible apply Upd1.via; with_reducible apply State.assemble_upd; decide)
    | with_reducible refine UpdO.mk' ?_
    | (with_reducible apply Upd.fstOf'; with_reducible assumption))

theorem execSmlAuthWaitTimeout_upd {x0 s} : UpdO 2215116804 s (execSmlAuthWaitTimeout x0 s) := by
  unfold execSmlAuthWaitTimeout
  repeat' (first
    | with_reducible exact Upd.refl
    | (with_reducible apply Upd.via; with_reducible apply State.advanceTo_upd; decide)
    | (with_reducible apply Upd.via; with_reducible apply State.closeSml_upd; decide)
    | with_reducible refine UpdO.mk' ?_
    | split)

theorem execSmlKeyUpdate_upd {x0 s} : UpdO 603979784 s (execSmlKeyUpdate x0 s) := by
  unfold execSmlKeyUpdate
  repeat' (first
    | with_reducible exact Upd.refl
    | (intro u; clear_value u)
    | lift_lets
    | (with_reducible apply Upd.via; with_reducible apply State.setSml_upd; decide)
    | (with_reducible apply Upd.via; with_reducible apply State.smlReply_upd; decide)
    | (with_reducible apply Upd1.via; with_reducible apply State.acceptSml_upd; decide)
    | with_reducible refine UpdO.mk' ?_
    | split
    | (with_reducible apply Upd.fstOf'; with_reducible assumption))

theorem execSmlClose_upd {x0 s} : UpdO 603979784 s (execSmlClose x0 s) := by
  unfold execSmlClose
  repeat' (first
    | with_reducible exact Upd.refl
    | (with_reducible apply Upd.via; with_reducible apply State.smlSend_upd; decide)
    | (with_reducible apply Upd.via; with_reducible apply State.closeSml_upd; decide)
    | (with_reducible apply Upd1.via; with_reducible apply State.acceptSml_upd; decide)
    | with_reducible refine UpdO.mk' ?_
    | split
    | (with_reducible apply Upd.fstOf'; with_reducible assumption))

theorem execSmlKeepalive_upd {x0 s} : UpdO 603979784 s (execSmlKeepalive x0 s) := by
  unfold execSmlKeepalive
  repeat' (first
    | with_reducible exact Upd.refl
    | (with_reducible apply Upd.via; with_reducible apply State.smlReply_upd; decide)
    | (with_reducible apply Upd1.via; with_reducible apply State.acceptSml_upd; decide)
    | with_reducible refine UpdO.mk' ?_
    | split
    | (with_reducible apply Upd.fstOf'; with_reducible assumption))

theorem execSmlReset_upd {x0 s} : UpdO 603979784 s (execSmlReset x0 s) := by
  unfold execSmlReset
  repeat' (first
    | with_reducible exact Upd.refl
    | (with_reducible apply Upd.via; with_reducible apply State.closeSml_upd; decide)
    | (with_reducible apply Upd1.via; with_reducible apply State.acceptSml_upd; decide)
    | with_reducible refine UpdO.mk' ?_
    | split
    | (with_reducible apply Upd.fstOf'; with_reducible assumption))

theorem execSmlIdleTimeout_upd {x0 s} : UpdO 2215116804 s (execSmlIdleTimeout x0 s) := by
  unfold execSmlIdleTimeout
  repeat' (first
    | with_reducible exact Upd.refl
    | (with_reducible apply Upd.via; with_reducible apply State.advanceTo_upd; decide)
    | (with_reducible apply Upd.via; with_reducible apply State.closeSml_upd; decide)
    | with_reducible refine UpdO.mk' ?_
    | split)

theorem execSmlRelease_upd {x0 s} : UpdO 2215116804 s (execSmlRelease x0 s) := by
  unfold execSmlRelease
  repeat' (first
    | with_reducible exact Upd.refl
    | (with_reducible apply Upd.via; with_reducible apply State.updSmilia_upd; decide)
    | (with_reducible apply Upd.via; with_reducible apply State.advanceTo_upd; decide)
    | with_reducible refine UpdO.mk' ?_
    | split)

theorem State.readRequest_upd {s x1 x2} : Upd1 257640 s (State.readRequest s x1 x2) := by
  unfold State.readRequest
  repeat' (first
    | with_reducible exact Upd.refl
    | (intro u; clear_value u)
    | lift_lets
    | (with_reducible apply Upd.via; with_reducible apply State.readRecord_upd; decide)
    | with_reducible refine Upd1.mk' ?_
    | split)

theorem execSmlRead_upd {x0 s} : UpdO 604237416 s (execSmlRead x0 s) := by
  unfold execSmlRead
  repeat' (first
    | with_reducible exact Upd.refl
    | with_reducible assumption
    | (with_reducible apply Upd1.via; with_reducible apply State.readRequest_upd; decide)
    | with_reducible refine State.smlRequest_upd ?_ (by decide) (fun _ _ _ _ => ?_)
    | with_reducible refine UpdO.mk' ?_)

theorem State.writeRequest_upd {s x1 x2 x3 x4} : Upd1 4249878508 s (State.writeRequest s x1 x2 x3 x4) := by
  unfold State.writeRequest
  repeat' (first
    | with_reducible exact Upd.refl
    | (intro u; clear_value u)
    | lift_lets
    | (with_reducible apply Upd.via; with_reducible apply Upd.fst State.writeValue_upd; decide)
    | (with_reducible apply Upd.via; with_reducible apply Upd.fst State.command_upd; decide)
    | with_reducible refine Upd1.mk' ?_
    | split)

theorem execSmlWrite_upd {x0 x1 s} : UpdO 4249878508 s (execSmlWrite x0 x1 s) := by
  unfold execSmlWrite
  repeat' (first
    | with_reducible exact Upd.refl
    | with_reducible assumption
    | lift_lets
    | (with_reducible apply Upd.via; with_reducible apply Upd.fst State.writeRequest_upd; decide)
    | with_reducible refine State.smlRequest_upd ?_ (by decide) (fun _ _ _ _ => ?_)
    | with_reducible refine Upd1.mk' ?_
    | with_reducible refine UpdO.mk' ?_)

theorem State.takeHandle_upd {s} : Upd2 67108864 s (State.takeHandle s) := by
  unfold State.takeHandle
  repeat' (first
    | with_reducible exact Upd.refl
    | (with_reducible apply Upd.via; with_reducible apply State.updSmilia_upd; decide)
    | with_reducible refine Upd2.mk' ?_)

theorem State.segReadRequest_upd {s x1 x2 x3} : Upd1 67108864 s (State.segReadRequest s x1 x2 x3) := by
  unfold State.segReadRequest
  repeat' (first
    | with_reducible exact Upd.refl
    | (intro u; clear_value u)
    | lift_lets
    | (with_reducible apply Upd.via; with_reducible apply Upd.snd State.takeHandle_upd; decide)
    | (with_reducible apply Upd.via; with_reducible apply State.updSml_upd; decide)
    | with_reducible refine Upd1.mk' ?_
    | split)

theorem execSegRead_upd {x0 s} : UpdO 603979784 s (execSegRead x0 s) := by
  unfold execSegRead
  repeat' (first
    | with_reducible exact Upd.refl
    | with_reducible assumption
    | (with_reducible apply Upd1.via; with_reducible apply State.segReadRequest_upd; decide)
    | with_reducible refine State.smlRequest_upd ?_ (by decide) (fun _ _ _ _ => ?_)
    | with_reducible refine UpdO.mk' ?_)

theorem State.segBeginRequest_upd {s x1 x2 x3} : Upd1 67108864 s (State.segBeginRequest s x1 x2 x3) := by
  unfold State.segBeginRequest
  repeat' (first
    | with_reducible exact Upd.refl
    | (intro u; clear_value u)
    | lift_lets
    | (with_reducible apply Upd.via; with_reducible apply State.updSmilia_upd; decide)
    | (with_reducible apply Upd.via; with_reducible apply Upd.snd State.takeHandle_upd; decide)
    | with_reducible refine Upd1.mk' ?_
    | split)

theorem execSegBegin_upd {x0 s} : UpdO 603979784 s (execSegBegin x0 s) := by
  unfold execSegBegin
  repeat' (first
    | with_reducible exact Upd.refl
    | with_reducible assumption
    | (with_reducible apply Upd1.via; with_reducible apply State.segBeginRequest_upd; decide)
    | with_reducible refine State.smlRequest_upd ?_ (by decide) (fun _ _ _ _ => ?_)
    | with_reducible refine UpdO.mk' ?_)

theorem State.segWriteRequest_upd {s x1 x2} : Upd1 67108864 s (State.segWriteRequest s x1 x2) := by
  unfold State.segWriteRequest
  repeat' (first
    | with_reducible exact Upd.refl
    | (intro u; clear_value u)
    | lift_lets
    | (with_reducible apply Upd.via; with_reducible apply State.updSmilia_upd; decide)
    | with_reducible refine Upd1.mk' ?_
    | split)

theorem execSegWrite_upd {x0 s} : UpdO 603979784 s (execSegWrite x0 s) := by
  unfold execSegWrite
  repeat' (first
    | with_reducible exact Upd.refl
    | with_reducible assumption
    | (with_reducible apply Upd1.via; with_reducible apply State.segWriteRequest_upd; decide)
    | with_reducible refine State.smlRequest_upd ?_ (by decide) (fun _ _ _ _ => ?_)
    | with_reducible refine UpdO.mk' ?_)

theorem State.segEndRequest_upd {s x1 x2 x3 x4} : Upd1 2101608424 s (State.segEndRequest s x1 x2 x3 x4) := by
  unfold State.segEndRequest
  repeat' (first
    | with_reducible exact Upd.refl
    | with_reducible assumption
    | (intro u; refine Upd.cut 2101608424 s u ?_ (fun _ => ?_); subst u; rotate_left; clear_value u; rotate_right)
    | (intro u; clear_value u)
    | lift_lets
    | (with_reducible apply Upd.via; with_reducible apply Upd.fst State.writeDomain_upd; decide)
    | (with_reducible apply Upd.via; with_reducible apply Upd.fst State.enroll_upd; decide)
    | (with_reducible apply Upd.via; with_reducible apply State.updSmilia_upd; decide)
    | with_reducible refine Upd1.mk' ?_
    | split)

theorem execSegEnd_upd {x0 x1 s} : UpdO 2101608424 s (execSegEnd x0 x1 s) := by
  unfold execSegEnd
  repeat' (first
    | with_reducible exact Upd.refl
    | with_reducible assumption
    | lift_lets
    | (with_reducible apply Upd.via; with_reducible apply Upd.fst State.segEndRequest_upd; decide)
    | with_reducible refine State.smlRequest_upd ?_ (by decide) (fun _ _ _ _ => ?_)
    | with_reducible refine Upd1.mk' ?_
    | with_reducible refine UpdO.mk' ?_)

theorem execSegAbort_upd {x0 s} : UpdO 603979784 s (execSegAbort x0 s) := by
  unfold execSegAbort
  repeat' (first
    | with_reducible exact Upd.refl
    | with_reducible assumption
    | (with_reducible apply Upd.via; with_reducible apply State.updSmilia_upd; decide)
    | with_reducible refine State.smlRequest_upd ?_ (by decide) (fun _ _ _ _ => ?_)
    | with_reducible refine Upd1.mk' ?_
    | with_reducible refine UpdO.mk' ?_
    | split)

theorem execHandleExpiry_upd {x0 x1 x2 s} : UpdO 2215116804 s (execHandleExpiry x0 x1 x2 s) := by
  unfold execHandleExpiry
  repeat' (first
    | with_reducible exact Upd.refl
    | (with_reducible apply Upd.via; with_reducible apply State.updSmilia_upd; decide)
    | (with_reducible apply Upd.via; with_reducible apply State.advanceTo_upd; decide)
    | (with_reducible apply Upd.via; with_reducible apply State.updSml_upd; decide)
    | with_reducible refine UpdO.mk' ?_
    | split)

theorem State.subscribeRequest_upd {s x1 x2 x3} : Upd1 67108864 s (State.subscribeRequest s x1 x2 x3) := by
  unfold State.subscribeRequest
  repeat' (first
    | with_reducible exact Upd.refl
    | (intro u; clear_value u)
    | lift_lets
    | (with_reducible apply Upd.via; with_reducible apply State.updSml_upd; decide)
    | with_reducible refine Upd1.mk' ?_
    | split)

theorem execSubscribe_upd {x0 s} : UpdO 603979784 s (execSubscribe x0 s) := by
  unfold execSubscribe
  repeat' (first
    | with_reducible exact Upd.refl
    | with_reducible assumption
    | (with_reducible apply Upd1.via; with_reducible apply State.subscribeRequest_upd; decide)
    | with_reducible refine State.smlRequest_upd ?_ (by decide) (fun _ _ _ _ => ?_)
    | with_reducible refine UpdO.mk' ?_)

theorem execUnsubscribe_upd {x0 s} : UpdO 603979784 s (execUnsubscribe x0 s) := by
  unfold execUnsubscribe
  repeat' (first
    | with_reducible exact Upd.refl
    | with_reducible assumption
    | (with_reducible apply Upd.via; with_reducible apply State.updSml_upd; decide)
    | with_reducible refine State.smlRequest_upd ?_ (by decide) (fun _ _ _ _ => ?_)
    | with_reducible refine Upd1.mk' ?_
    | with_reducible refine UpdO.mk' ?_
    | split)

theorem execNotifyIntervalEnd_upd {x0 x1 s} : UpdO 2751987716 s (execNotifyIntervalEnd x0 x1 s) := by
  unfold execNotifyIntervalEnd
  repeat' (first
    | with_reducible exact Upd.refl
    | with_reducible assumption
    | (intro u; refine Upd.cut 2751987716 s u ?_ (fun _ => ?_); subst u; rotate_left; clear_value u; rotate_right)
    | lift_lets
    | with_reducible refine Upd.foldl ?_ (fun _ _ _ => ?_)
    | (with_reducible apply Upd.via; with_reducible apply State.advanceTo_upd; decide)
    | (with_reducible apply Upd.via; with_reducible apply State.updSml_upd; decide)
    | (with_reducible apply Upd.via; with_reducible apply State.notify_upd; decide)
    | with_reducible refine UpdO.mk' ?_
    | split)

theorem execNotifyAck_upd {x0 s} : UpdO 603979784 s (execNotifyAck x0 s) := by
  unfold execNotifyAck
  repeat' (first
    | with_reducible exact Upd.refl
    | (with_reducible apply Upd.via; with_reducible apply State.updSml_upd; decide)
    | (with_reducible apply Upd1.via; with_reducible apply State.acceptSml_upd; decide)
    | with_reducible refine UpdO.mk' ?_
    | split
    | (with_reducible apply Upd.fstOf'; with_reducible assumption))

theorem State.notifyEnded_upd {s x1 x2} : Upd 603979776 s (State.notifyEnded s x1 x2) := by
  unfold State.notifyEnded
  repeat' (first
    | with_reducible exact Upd.refl
    | (intro u; clear_value u)
    | lift_lets
    | (with_reducible apply Upd.via; with_reducible apply State.setSml_upd; decide)
    | (with_reducible apply Upd.via; with_reducible apply State.smlSend_upd; decide)
    | split)

theorem execNotifyResend_upd {x0 x1 s} : UpdO 2751987716 s (execNotifyResend x0 x1 s) := by
  unfold execNotifyResend
  repeat' (first
    | with_reducible exact Upd.refl
    | with_reducible assumption
    | (intro u; refine Upd.cut 2751987716 s u ?_ (fun _ => ?_); subst u; rotate_left; clear_value u; rotate_right)
    | lift_lets
    | (with_reducible apply Upd.via; with_reducible apply State.advanceTo_upd; decide)
    | (with_reducible apply Upd.via; with_reducible apply State.notifyEnded_upd; decide)
    | (with_reducible apply Upd.via; with_reducible apply State.updSml_upd; decide)
    | (with_reducible apply Upd.via; with_reducible apply State.smlSend_upd; decide)
    | with_reducible refine UpdO.mk' ?_
    | split)

theorem execReassemblyTimeout_upd {x0 x1 x2 s} : UpdO 2215116804 s (execReassemblyTimeout x0 x1 x2 s) := by
  unfold execReassemblyTimeout
  repeat' (first
    | with_reducible exact Upd.refl
    | (with_reducible apply Upd.via; with_reducible apply State.updSmilia_upd; decide)
    | (with_reducible apply Upd.via; with_reducible apply State.advanceTo_upd; decide)
    | (with_reducible apply Upd.via; with_reducible apply State.updSml_upd; decide)
    | with_reducible refine UpdO.mk' ?_
    | split)

theorem execAddressChangeEffect_upd {s} : UpdO 2215116812 s (execAddressChangeEffect s) := by
  unfold execAddressChangeEffect
  repeat' (first
    | with_reducible exact Upd.refl
    | with_reducible assumption
    | (intro u; refine Upd.cut 2215116812 s u ?_ (fun _ => ?_); subst u; rotate_left; clear_value u; rotate_right)
    | (intro u; clear_value u)
    | lift_lets
    | (with_reducible apply Upd.via; with_reducible apply State.takeAddr_upd; decide)
    | (with_reducible apply Upd.via; with_reducible apply State.updSmilia_upd; decide)
    | (with_reducible apply Upd.via; with_reducible apply State.advanceTo_upd; decide)
    | with_reducible refine UpdO.mk' ?_
    | split)

theorem execOldAddressExpiry_upd {s} : UpdO 2215116804 s (execOldAddressExpiry s) := by
  unfold execOldAddressExpiry
  repeat' (first
    | with_reducible exact Upd.refl
    | (with_reducible apply Upd.via; with_reducible apply State.updSmilia_upd; decide)
    | (with_reducible apply Upd.via; with_reducible apply State.advanceTo_upd; decide)
    | with_reducible refine UpdO.mk' ?_
    | split)

theorem execVendorWindowTick_upd {s} : UpdO 2886205444 s (execVendorWindowTick s) := by
  unfold execVendorWindowTick
  repeat' (first
    | with_reducible exact Upd.refl
    | with_reducible assumption
    | (intro u; refine Upd.cut 2886205444 s u ?_ (fun _ => ?_); subst u; rotate_left; clear_value u; rotate_right)
    | (intro u; clear_value u)
    | lift_lets
    | (with_reducible apply Upd.via; with_reducible apply State.endVendor_upd; decide)
    | (with_reducible apply Upd.via; with_reducible apply State.updSmilia_upd; decide)
    | (with_reducible apply Upd.via; with_reducible apply State.advanceTo_upd; decide)
    | (with_reducible apply Upd.via; with_reducible apply State.setDict_upd; decide)
    | with_reducible refine UpdO.mk' ?_
    | split)

theorem execMgtMdio_upd {x0 x1 x2 x3 x4 s} : UpdO 2685136492 s (execMgtMdio x0 x1 x2 x3 x4 s) := by
  unfold execMgtMdio
  repeat' (first
    | with_reducible exact Upd.refl
    | with_reducible assumption
    | (intro u; refine Upd.cut 2685136492 s u ?_ (fun _ => ?_); subst u; rotate_left; clear_value u; rotate_right)
    | lift_lets
    | (with_reducible apply Upd.via; with_reducible apply State.raise_upd; decide)
    | (with_reducible apply Upd.via; with_reducible apply State.wr_upd; decide)
    | (with_reducible apply Upd.via; with_reducible apply State.flag_upd; decide)
    | (with_reducible apply Upd.via; with_reducible apply State.emit_upd; decide)
    | (with_reducible apply Upd.via; with_reducible apply State.advance_upd; decide)
    | with_reducible refine UpdO.mk' ?_
    | split)

theorem execMgtLinkDown_upd {x0 s} : UpdO 257640 s (execMgtLinkDown x0 s) := by
  unfold execMgtLinkDown
  repeat' (first
    | with_reducible exact Upd.refl
    | with_reducible assumption
    | (intro u; refine Upd.cut 257640 s u ?_ (fun _ => ?_); subst u; rotate_left; clear_value u; rotate_right)
    | lift_lets
    | (with_reducible apply Upd.via; with_reducible apply State.raise_upd; decide)
    | (with_reducible apply Upd.via; with_reducible apply State.flag_upd; decide)
    | (with_reducible apply Upd.via; with_reducible apply State.interrupt_upd; decide)
    | with_reducible refine UpdO.mk' ?_
    | split)

theorem execMgtLinkUp_upd {x0 x1 s} : UpdO 40 s (execMgtLinkUp x0 x1 s) := by
  unfold execMgtLinkUp
  repeat' (first
    | with_reducible exact Upd.refl
    | with_reducible assumption
    | (intro u; refine Upd.cut 40 s u ?_ (fun _ => ?_); subst u; rotate_left; clear_value u; rotate_right)
    | lift_lets
    | (with_reducible apply Upd.via; with_reducible apply State.fall_upd; decide)
    | (with_reducible apply Upd.via; with_reducible apply State.wr_upd; decide)
    | (with_reducible apply Upd.via; with_reducible apply State.flag_upd; decide)
    | (with_reducible apply Upd.via; with_reducible apply State.interrupt_upd; decide)
    | with_reducible refine UpdO.mk' ?_
    | split)

theorem execArpNdEchoRequest_upd {x0 x1 x2 s} : UpdO 536870920 s (execArpNdEchoRequest x0 x1 x2 s) := by
  unfold execArpNdEchoRequest
  repeat' (first
    | with_reducible exact Upd.refl
    | (with_reducible apply Upd.via; with_reducible apply State.emit_upd; decide)
    | (with_reducible apply Upd.via; with_reducible apply State.dropMgmt_upd; decide)
    | with_reducible refine UpdO.mk' ?_
    | split)

end Sys2Proof.Machine
end

