-- ==== Sys2Proof/Laws/Core.lean ====
section
/-!
SUPPORT. What the shared frames of commands do, said once: an instruction that issues and is fetched, its retirement, multiplier instructions, branches,
loads, stores, atomics and exception entry; an operation of the SD host, a Smilia request, and a command of the dictionary.
-/

namespace Sys2Proof.Machine

theorem issue_run {s u : State} {p : PairId} {w : Nat} (h : s.fetches p w u) (f : State → State) : s.issue p w f = f u := by
  unfold State.issue; rw [h.1, h.2]; rfl

theorem setsPair_updPair (u : State) (p : PairId) (f : Pair → Pair) : u.setsPair (u.updPair p f) p (f (u.core p)) := by
  refine ⟨⟨rfl, fun q hq => ?_⟩, ?_, ?_, rfl, rfl⟩
  · cases q <;> first | rfl | exact absurd (List.mem_singleton.2 rfl) hq
  · simp [State.core, State.updPair, State.updCores]
  · intro r hr
    simp only [State.core, State.updPair, State.updCores]
    exact Vector.getElem_set_ne _ _ (fun h => hr (Fin.ext h.symm))

theorem setsPair_of {u t : State} {p : PairId} {q : Pair} (f : Pair → Pair) (ht : t = u.updPair p f) (hq : f (u.core p) = q) : u.setsPair t p q := by
  subst ht hq; exact setsPair_updPair u p f

theorem writesReg_retire (u : State) (p : PairId) (rd : RegId) (f : Pair → Word) :
    u.writesReg (u.retire p 1 (fun q => q.setReg rd (f q))) p rd (f (u.core p)) := by
  refine setsPair_of (fun q => { q.setReg rd (f q) with pc := q.pc + 4, cycle := q.cycle + 1 }) ?_ rfl
  unfold State.retire
  congr 1
  funext q
  unfold Pair.setReg
  split <;> rfl

theorem compute_run {s u : State} {p : PairId} {w : Nat} (h : s.fetches p w u) (rd : RegId) (f : Pair → Word) (v : Word) (hv : f (u.core p) = v):
    ∃ t, ok (s.compute p w rd f) = .next t ∧ u.writesReg t p rd v := by
  refine ⟨_, rfl, ?_⟩
  unfold State.compute
  rw [issue_run h, ← hv]
  exact writesReg_retire u p rd f

theorem mul_run {s u : State} {p : PairId} {w : Nat} (h : s.fetches p w u) (lat : Nat) (f : Pair → BitVec 128) (v : BitVec 128) (hv : f (u.core p).mulRoom = v) :
    ∃ t, ok (s.mulOp p w lat f) = .next t ∧ u.multiplies t p lat v := by
  refine ⟨_, rfl, setsPair_of _ (by unfold State.mulOp; rw [issue_run h]; rfl) ?_⟩
  subst hv; rfl

theorem reg_settle (q : Pair) (r : RegId) : q.settle.reg r = q.reg r := by unfold Pair.settle; split <;> rfl

theorem reg_mulRoom (q : Pair) (r : RegId) : q.mulRoom.reg r = q.reg r := by
  unfold Pair.mulRoom; split
  · rfl
  · split
    · rw [reg_settle]; rfl
    · rfl

theorem prodS_eq (a b : Word) : prodS a b = BitVec.ofInt 128 (a.toInt * b.toInt) := by
  unfold prodS
  apply BitVec.eq_of_toInt_eq
  rw [BitVec.toInt_mul, BitVec.toInt_ofInt, BitVec.toInt_signExtend_of_le (by decide), BitVec.toInt_signExtend_of_le (by decide)]

theorem prodU_eq (a b : Word) : prodU a b = BitVec.ofNat 128 (a.toNat * b.toNat) := by
  unfold prodU
  apply BitVec.eq_of_toNat_eq
  have := a.isLt; have := b.isLt
  simp

theorem branch_run {s u : State} {p : PairId} {w : Nat} (h : s.fetches p w u) (off : BitVec 16) (f : Pair → Bool) (c : Prop) [Decidable c] (hc : (f (u.core p) = true) ↔ c) :
    ∃ t, ok (s.branch p w off f) = .next t ∧ u.jumpsTo t p (if c then (u.core p).pc + off.signExtend 64 * 4 else (u.core p).pc + 4) (if c then 2 else 1) := by
  refine ⟨_, rfl, setsPair_of _ (by unfold State.branch; rw [issue_run h]) ?_⟩
  have e : ∀ x : Word, x <<< 2 = x * 4 := by intro x; apply BitVec.eq_of_toNat_eq; simp [BitVec.toNat_shiftLeft, Nat.shiftLeft_eq]
  by_cases hh : c
  · simp only [hc.2 hh, hh, if_true, e]
  · have : f (u.core p) = false := by rw [Bool.eq_false_iff]; exact fun h => hh (hc.1 h)
    simp only [this, hh, if_false]; simp

theorem load_run {s u v : State} {p : PairId} {w : Nat} (h : s.fetches p w u) {n : Nat} {rt ra : RegId} {m : AddrMode} {pa : Nat} {bs : List Byte} (hm : m.illegal rt ra true = false)
   (ha : (m.address (u.core p) ra).toNat % n = 0) (hl : u.loadBytes p .read (m.address (u.core p) ra) n = (.ok (pa, bs), v)) (ext : List Byte → Word) :
   ∃ t, ok (s.load p w n rt ra m ext) = .next t ∧ v.loads t p m rt ra (ext bs) := by
  refine ⟨_, rfl, setsPair_of (fun q => let r := (m.rebase q ra).setReg rt (ext bs); { r with pc := q.pc + 4, cycle := r.cycle + 1 }) ?_ ?_⟩
  · unfold State.load; rw [issue_run h]; simp only [hm, ha, hl]; rfl
  · have : ∀ q : Pair, ∀ r x, (q.setReg r x).cycle = q.cycle := by intro q r x; unfold Pair.setReg; split <;> rfl
    have h2 : ((m.rebase (v.core p) ra)).cycle = (v.core p).cycle := by cases m <;> first | rfl | exact this _ _ _
    simp only [this, h2]

theorem store_run {s u v : State} {p : PairId} {w : Nat} (h : s.fetches p w u) {n : Nat} {rt ra : RegId} {m : AddrMode} {pa : Nat} (hm : m.illegal rt ra false = false)
   (ha : (m.address (u.core p) ra).toNat % n = 0) (hl : u.approach p (u.core p).world (!(u.core p).sup) .write (m.address (u.core p) ra) n = (.ok pa, v)) :
   ∃ t, ok (s.store p w n rt ra m) = .next t ∧ (v.putBytes p (u.core p).world pa (leBytes n ((u.core p).reg rt).toNat)).stores t p m ra := by
  have hlen : ∀ k x, (leBytes k x).length = k := by intro k; induction k <;> simp_all [leBytes]
  refine ⟨_, rfl, setsPair_of (fun q => let r := (m.rebase q ra); { r with pc := q.pc + 4, cycle := r.cycle + 1 }) ?_ ?_⟩
  · unfold State.store; rw [issue_run h]; simp only [hm, ha, State.storeBytes, hlen, hl]; rfl
  · have : ∀ q : Pair, ∀ r x, (q.setReg r x).cycle = q.cycle := by intro q r x; unfold Pair.setReg; split <;> rfl
    have h2 : ∀ q : Pair, ((m.rebase q ra)).cycle = q.cycle := by intro q; cases m <;> first | rfl | exact this _ _ _
    simp only [h2]

theorem atomic_run {s u v : State} {p : PairId} {w : Nat} (h : s.fetches p w u) {rd ra : RegId} {pa : Nat} {bs : List Byte} (ha : ((u.core p).reg ra).toNat % 8 = 0)
   (hl : u.loadBytes p .atomic ((u.core p).reg ra) 8 = (.ok (pa, bs), v)) (f : Pair → Word → Option Word) (u1 : State)
   (hu : (match f (u.core p) (zextBytes bs) with | some x => v.putBytes p (u.core p).world pa (leBytes 8 x.toNat) | none => v) = u1) :
   ∃ t, ok (s.atomic p w rd ra f) = .next t ∧ u1.writesReg t p rd (zextBytes bs) := by
  refine ⟨_, rfl, ?_⟩
  unfold State.atomic; rw [issue_run h]; simp only [ha, hl]; rw [← hu]
  exact writesReg_retire _ p rd (fun _ => zextBytes bs)

theorem reg_setReg (q : Pair) (r r' : RegId) (x : Word) : (q.setReg r x).reg r' = if r' = r ∧ r ≠ 0 then x else q.reg r' := by
  unfold Pair.setReg Pair.reg
  by_cases h : r = 0
  · subst h; simp
  · simp only [h, if_false]
    by_cases h2 : r' = 0
    · subst h2; simp [Ne.symm h]
    · simp only [h2, if_false]
      by_cases h3 : r' = r
      · subst h3; simp [h2]
      · simp only [h3, false_and, if_false]
        exact Vector.getElem_set_ne _ _ (fun e => h3 (Fin.ext e.symm))

theorem core_updPair (u : State) (p : PairId) (f : Pair → Pair) : (u.updPair p f).core p = f (u.core p) := (setsPair_updPair u p f).2.1

theorem enterExc_ok {u v : State} {p : PairId} {w : World} {e : CoreExc} {ret : Word} {src prio : Nat}
   (he : e.code ≠ cPageNp ∧ e.code ≠ cPageBad ∧ e.code ≠ cPagePerm ∧ e.code ≠ cBusErr)
   (hp : u.pushesFrame v p w ret (causeWord e (!(u.core p).sup) ((u.core p).world != w) src prio) e.bad) :
   u.enterExc p w e ret src prio = (v.dropOwn p).updPair p (fun q => q.entered w ret (causeWord e (!(u.core p).sup) ((u.core p).world != w) src prio) 0 e.bad
     ((u.updPair p Pair.drain).stackBase p w - 64)) := by
  obtain ⟨h8, hpush⟩ := hp
  have hd : ((u.updPair p Pair.drain).core p).sup = (u.core p).sup ∧ ((u.updPair p Pair.drain).core p).world = (u.core p).world := by
    rw [core_updPair]; unfold Pair.drain Pair.settle; constructor <;> split <;> rfl
  have h8' : ((u.updPair p Pair.drain).stackBase p w - 64).toNat % 8 = 0 := by
    generalize (u.updPair p Pair.drain).stackBase p w = b at *
    have := b.isLt
    simp [BitVec.toNat_sub]; omega
  unfold State.enterExc
  simp only [he.1, he.2.1, he.2.2.1, he.2.2.2, false_or, false_and, if_false, h8', if_true, hd.1, hd.2, hpush]

theorem entered_entersAt (v : State) (p : PairId) (w : World) (ret cw bad fa : Word) :
    v.entersAt ((v.dropOwn p).updPair p (fun q => q.entered w ret cw 0 bad fa)) p w ret cw 0 bad fa := by
  have S := setsPair_updPair (v.dropOwn p) p (fun q => q.entered w ret cw 0 bad fa)
  have hc : ((v.dropOwn p).updPair p (fun q => q.entered w ret cw 0 bad fa)).core p = (v.core p).entered w ret cw 0 bad fa := core_updPair _ _ _
  refine ⟨⟨rfl, fun q hq => ?_⟩, fun r hr => S.2.2.1 r hr, ?_, ?_⟩
  · cases q <;> first | rfl | exact absurd (List.mem_singleton.2 rfl) hq
  · rw [S.2.2.2.1]; exact tget_tdel_self _ _
  · rw [hc]
    generalize (v.core p) = q
    have R : ∀ r : RegId, (q.entered w ret cw 0 bad fa).reg r = if r = 31 then fa else q.reg r := by
      intro r
      unfold Pair.entered
      show Pair.reg (Pair.setReg _ 31 fa) r = _
      rw [reg_setReg]
      by_cases h : r = 31
      · subst h; simp
      · simp [h]; unfold Pair.reg; split <;> cases w <;> cases hw : q.world <;> simp [Pair.setRegsOf, Pair.setWorld, Pair.setIm] <;> (repeat' split) <;> rfl
    refine ⟨?_, rfl, ?_, ?_, (R 31).trans (if_pos rfl), ?_, ?_, ?_, ?_, ?_, ?_, fun r hr => (R r).trans (if_neg hr), ?_, ?_⟩
    all_goals (cases w <;> cases hw : q.world <;> simp [Pair.entered, Pair.setRegsOf, Pair.regsOf, Pair.setWorld, Pair.setIm, Pair.setReg, World.other, hw] <;> (try (repeat' split) <;> rfl))

theorem sdCmd_ends {s w : State} {op e : Nat} {f : State → State × Option Nat} (h1 : s.panelServes = true) (h2 : s.isSet Reg.SC_CMD.BUSY = false)
   (hf : f ((s.wr Reg.SC_CMD.OP op).updSd (fun d => { d with last := s.now })) = (w, some e)) : s.sdCmd .keeper op f = w.sdEnd e := by
  simp only [State.sdCmd, h1, h2, hf]; simp

theorem smlRequest_takes {s v w : State} {x : SmlSession} {msg a : List Byte} {f : SmlIn} {op n : Nat} {run : State → SmlSession → List Byte → State × List Byte × Nat} (h : s.takesRequest f op v x msg)
   (hr : run v x msg = (w, a, n)) : s.smlRequest f op run = w.answersRequest f op a n := by
  obtain ⟨u, w', y, h1, h2, h3, h4, h5, h6, rfl, rfl⟩ := h
  have h7 : ¬ (f.req + 32 ≤ y.topReq) := by omega
  unfold State.smlRequest State.answersRequest
  rw [h1]
  dsimp only
  rw [if_neg (not_not_intro h2), if_neg h3, if_neg h7, h5]
  dsimp only
  rw [h6]
  dsimp only
  rw [hr]

theorem order_runs {s u v : State} {x : SmlSession} {e : DictEntry} {arg : List Byte} {f : SmlFacts} {sid idx st d : Nat} (h : s.commands sid idx x e u) (ht : e.typ ≠ .domain)
   (hr : u.cmdRefusal x e arg = 0) (ha : u.action sid x e.idx (ofBe arg) arg f = (v, st, d)) (h1 : st ≠ xPresence) (h2 : st ≠ xState) : s.order sid idx arg f = v.endsCommand sid x e arg st d := by
  obtain ⟨h3, h4, h5, rfl, h6⟩ := h
  simp only [State.order, h3, h4, h5, h6, ht, State.command, hr, ha]; simp [State.endsCommand, State.answersCommand, h1, h2]

theorem order_refuses {s u : State} {x : SmlSession} {e : DictEntry} {arg : List Byte} {f : SmlFacts} {sid idx : Nat} (h : s.commands sid idx x e u) (ht : e.typ ≠ .domain)
   (hr : u.cmdRefusal x e arg ≠ 0) : s.order sid idx arg f = u.answersCommand sid { status := u.cmdRefusal x e arg } := by
  obtain ⟨h3, h4, h5, rfl, h6⟩ := h
  simp only [State.order, h3, h4, h5, h6, ht, State.command, hr]; simp [State.answersCommand, hr]

theorem order_enroll {s u : State} {x : SmlSession} {e : DictEntry} {arg : List Byte} {f : SmlFacts} {sid idx : Nat} (h : s.commands sid idx x e u) (ht : e.typ = .domain)
    : s.order sid idx arg f = (u.enroll sid x e arg f).1.answersCommand sid (u.enroll sid x e arg f).2 := by
  obtain ⟨h3, h4, h5, rfl, h6⟩ := h
  simp only [State.order, h3, h4, h5, h6, ht]; simp [State.answersCommand]

end Sys2Proof.Machine
end

