-- ==== Sys2Proof/Laws/UpdAwlOps.lean ====
section
/-! SUPPORT. What each operation of Machine/AwlOps.lean touches and keeps. -/

namespace Sys2Proof.Machine

theorem State.awlEnds_upd {s x1 x2 x3} : Upd 65544 s (State.awlEnds s x1 x2 x3) := by
  unfold State.awlEnds
  repeat' (first
    | with_reducible exact Upd.refl
    | with_reducible assumption
    | (intro u; refine Upd.cut 65544 s u ?_ (fun _ => ?_); subst u; rotate_left; clear_value u; rotate_right)
    | lift_lets
    | (with_reducible apply Upd.via; with_reducible apply State.setStage_upd; decide)
    | (with_reducible apply Upd.via; with_reducible apply State.placeVerify_upd; decide)
    | (with_reducible apply Upd.via; with_reducible apply State.clearOperand_upd; decide)
    | (with_reducible apply Upd.via; with_reducible apply State.layOperand_upd; decide)
    | split)

theorem State.awlRun_upd {s x1 x2 x3} : Upd 65544 s (State.awlRun s x1 x2 x3) := by
  unfold State.awlRun
  repeat' (first
    | with_reducible exact Upd.refl
    | (with_reducible apply Upd.via; with_reducible apply State.awlEnds_upd; decide)
    | split)

theorem State.awlRandom_upd {s x1 x2 x3} : Upd 1073807368 s (State.awlRandom s x1 x2 x3) := by
  unfold State.awlRandom
  repeat' (first
    | with_reducible exact Upd.refl
    | lift_lets
    | (with_reducible apply Upd.via; with_reducible apply State.awlEnds_upd; decide)
    | (with_reducible apply Upd.via; with_reducible apply Upd.snd State.draw_upd; decide)
    | (with_reducible apply Upd.via; with_reducible apply State.layOperand_upd; decide)
    | split)

theorem State.awlKeyed_upd {s x1 x2 x3 x4} : Upd 1073999464 s (State.awlKeyed s x1 x2 x3 x4) := by
  unfold State.awlKeyed
  repeat' (first
    | with_reducible exact Upd.refl
    | lift_lets
    | (with_reducible apply Upd.via; with_reducible apply State.awlEnds_upd; decide)
    | (with_reducible apply Upd.via; with_reducible apply State.raise_upd; decide)
    | (with_reducible apply Upd.via; with_reducible apply Upd.snd State.draw_upd; decide)
    | (with_reducible apply Upd.via; with_reducible apply State.layOperand_upd; decide)
    | split
    | dsimp only)

theorem State.awlVerifies_upd {s x1 x2 x3} : UpdOpt 258024 s (State.awlVerifies s x1 x2 x3) := by
  unfold State.awlVerifies
  repeat' (first
    | with_reducible exact Upd.refl
    | with_reducible assumption
    | (intro u; refine Upd.cut 258024 s u ?_ (fun _ => ?_); subst u; rotate_left; clear_value u; rotate_right)
    | lift_lets
    | exact UpdOpt.none
    | with_reducible refine UpdOpt.mk' ?_
    | (with_reducible apply Upd.via; with_reducible apply State.awlIdle_upd; decide)
    | (with_reducible apply Upd.via; with_reducible apply State.verifyEnd_upd; decide)
    | (with_reducible apply Upd.via; with_reducible apply State.updAwl_upd; decide)
    | (with_reducible apply Upd.via; with_reducible apply State.clearOperand_upd; decide)
    | split)

theorem execModAdd_upd {x0 s} : UpdO 65544 s (execModAdd x0 s) := by
  unfold execModAdd
  repeat' (first
    | with_reducible exact Upd.refl
    | (with_reducible apply Upd.via; with_reducible apply State.awlRun_upd; decide)
    | with_reducible refine UpdO.mk' ?_)

theorem execModSub_upd {x0 s} : UpdO 65544 s (execModSub x0 s) := by
  unfold execModSub
  repeat' (first
    | with_reducible exact Upd.refl
    | (with_reducible apply Upd.via; with_reducible apply State.awlRun_upd; decide)
    | with_reducible refine UpdO.mk' ?_)

theorem execModMul_upd {x0 s} : UpdO 65544 s (execModMul x0 s) := by
  unfold execModMul
  repeat' (first
    | with_reducible exact Upd.refl
    | (with_reducible apply Upd.via; with_reducible apply State.awlRun_upd; decide)
    | with_reducible refine UpdO.mk' ?_)

theorem execModExp_upd {x0 s} : UpdO 65544 s (execModExp x0 s) := by
  unfold execModExp
  repeat' (first
    | with_reducible exact Upd.refl
    | (with_reducible apply Upd.via; with_reducible apply State.awlRun_upd; decide)
    | with_reducible refine UpdO.mk' ?_)

theorem execModInv_upd {x0 s} : UpdO 65544 s (execModInv x0 s) := by
  unfold execModInv
  repeat' (first
    | with_reducible exact Upd.refl
    | (with_reducible apply Upd.via; with_reducible apply State.awlRun_upd; decide)
    | with_reducible refine UpdO.mk' ?_)

theorem execModRed_upd {x0 s} : UpdO 65544 s (execModRed x0 s) := by
  unfold execModRed
  repeat' (first
    | with_reducible exact Upd.refl
    | (with_reducible apply Upd.via; with_reducible apply State.awlRun_upd; decide)
    | with_reducible refine UpdO.mk' ?_)

theorem execAwlMul_upd {x0 s} : UpdO 65544 s (execAwlMul x0 s) := by
  unfold execAwlMul
  repeat' (first
    | with_reducible exact Upd.refl
    | (with_reducible apply Upd.via; with_reducible apply State.awlRun_upd; decide)
    | with_reducible refine UpdO.mk' ?_)

theorem execNtt_upd {x0 s} : UpdO 65544 s (execNtt x0 s) := by
  unfold execNtt
  repeat' (first
    | with_reducible exact Upd.refl
    | (with_reducible apply Upd.via; with_reducible apply State.awlRun_upd; decide)
    | with_reducible refine UpdO.mk' ?_)

theorem execIntt_upd {x0 s} : UpdO 65544 s (execIntt x0 s) := by
  unfold execIntt
  repeat' (first
    | with_reducible exact Upd.refl
    | (with_reducible apply Upd.via; with_reducible apply State.awlRun_upd; decide)
    | with_reducible refine UpdO.mk' ?_)

theorem execPolyMac_upd {x0 s} : UpdO 65544 s (execPolyMac x0 s) := by
  unfold execPolyMac
  repeat' (first
    | with_reducible exact Upd.refl
    | (with_reducible apply Upd.via; with_reducible apply State.awlRun_upd; decide)
    | with_reducible refine UpdO.mk' ?_)

theorem execEcMul_upd {x0 s} : UpdO 65544 s (execEcMul x0 s) := by
  unfold execEcMul
  repeat' (first
    | with_reducible exact Upd.refl
    | (with_reducible apply Upd.via; with_reducible apply State.awlRun_upd; decide)
    | with_reducible refine UpdO.mk' ?_)

theorem execEcPub_upd {x0 s} : UpdO 1073999464 s (execEcPub x0 s) := by
  unfold execEcPub
  repeat' (first
    | with_reducible exact Upd.refl
    | (with_reducible apply Upd.via; with_reducible apply State.awlKeyed_upd; decide)
    | with_reducible refine UpdO.mk' ?_)

theorem execEcdsaSign_upd {x0 s} : UpdO 1073999464 s (execEcdsaSign x0 s) := by
  unfold execEcdsaSign
  repeat' (first
    | with_reducible exact Upd.refl
    | (with_reducible apply Upd.via; with_reducible apply State.awlKeyed_upd; decide)
    | with_reducible refine UpdO.mk' ?_)

theorem execEcdsaVerify_upd {x0 s} : UpdO 258024 s (execEcdsaVerify x0 s) := by
  unfold execEcdsaVerify
  repeat' (first
    | with_reducible exact Upd.refl
    | (with_reducible apply Upd.via; with_reducible apply State.awlRun_upd; decide)
    | (with_reducible apply UpdOpt.via; with_reducible apply State.awlVerifies_upd; decide)
    | with_reducible refine UpdO.mk' ?_
    | split
    | (with_reducible apply Upd.someOf'; with_reducible assumption))

theorem execEd25519Verify_upd {x0 s} : UpdO 65544 s (execEd25519Verify x0 s) := by
  unfold execEd25519Verify
  repeat' (first
    | with_reducible exact Upd.refl
    | (with_reducible apply Upd.via; with_reducible apply State.awlRun_upd; decide)
    | with_reducible refine UpdO.mk' ?_)

theorem execX25519Gen_upd {x0 s} : UpdO 1073807368 s (execX25519Gen x0 s) := by
  unfold execX25519Gen
  repeat' (first
    | with_reducible exact Upd.refl
    | (with_reducible apply Upd.via; with_reducible apply State.awlRandom_upd; decide)
    | with_reducible refine UpdO.mk' ?_)

theorem execX25519_upd {x0 s} : UpdO 1073999464 s (execX25519 x0 s) := by
  unfold execX25519
  repeat' (first
    | with_reducible exact Upd.refl
    | (with_reducible apply Upd.via; with_reducible apply State.awlKeyed_upd; decide)
    | with_reducible refine UpdO.mk' ?_)

theorem execMlkemKeygen_upd {x0 s} : UpdO 1073807368 s (execMlkemKeygen x0 s) := by
  unfold execMlkemKeygen
  repeat' (first
    | with_reducible exact Upd.refl
    | (with_reducible apply Upd.via; with_reducible apply State.awlRandom_upd; decide)
    | with_reducible refine UpdO.mk' ?_)

theorem execMlkemEncaps_upd {x0 s} : UpdO 1073807368 s (execMlkemEncaps x0 s) := by
  unfold execMlkemEncaps
  repeat' (first
    | with_reducible exact Upd.refl
    | (with_reducible apply Upd.via; with_reducible apply State.awlRandom_upd; decide)
    | with_reducible refine UpdO.mk' ?_)

theorem execMlkemDecaps_upd {x0 s} : UpdO 1073999464 s (execMlkemDecaps x0 s) := by
  unfold execMlkemDecaps
  repeat' (first
    | with_reducible exact Upd.refl
    | (with_reducible apply Upd.via; with_reducible apply State.awlKeyed_upd; decide)
    | with_reducible refine UpdO.mk' ?_)

theorem execMldsaPub_upd {x0 s} : UpdO 1073999464 s (execMldsaPub x0 s) := by
  unfold execMldsaPub
  repeat' (first
    | with_reducible exact Upd.refl
    | (with_reducible apply Upd.via; with_reducible apply State.awlKeyed_upd; decide)
    | with_reducible refine UpdO.mk' ?_)

theorem execMldsaSign_upd {x0 s} : UpdO 1073999464 s (execMldsaSign x0 s) := by
  unfold execMldsaSign
  repeat' (first
    | with_reducible exact Upd.refl
    | (with_reducible apply Upd.via; with_reducible apply State.awlKeyed_upd; decide)
    | with_reducible refine UpdO.mk' ?_)

theorem execMldsaVerify_upd {x0 s} : UpdO 258024 s (execMldsaVerify x0 s) := by
  unfold execMldsaVerify
  repeat' (first
    | with_reducible exact Upd.refl
    | (with_reducible apply Upd.via; with_reducible apply State.awlRun_upd; decide)
    | (with_reducible apply UpdOpt.via; with_reducible apply State.awlVerifies_upd; decide)
    | with_reducible refine UpdO.mk' ?_
    | split
    | (with_reducible apply Upd.someOf'; with_reducible assumption))

end Sys2Proof.Machine
end

