-- ==== Sys2Proof/Laws/UpdBoot.lean ====
section
/-! SUPPORT. What each operation of Machine/Boot.lean touches and keeps. -/

namespace Sys2Proof.Machine

theorem State.recordFail_upd {s x1 x2} : Upd 8 s (State.recordFail s x1 x2) := by
  unfold State.recordFail
  repeat' (first
    | with_reducible exact Upd.refl
    | (with_reducible apply Upd.via; with_reducible apply State.wr_upd; decide))

theorem State.recoverIntents_upd {s x1} : Upd 262248 s (State.recoverIntents s x1) := by
  unfold State.recoverIntents
  repeat' (first
    | with_reducible exact Upd.refl
    | with_reducible assumption
    | (intro u; refine Upd.cut 262248 s u ?_ (fun _ => ?_); subst u; rotate_left; clear_value u; rotate_right)
    | (intro u; clear_value u)
    | lift_lets
    | with_reducible refine Upd.foldl ?_ (fun _ _ _ => ?_)
    | (with_reducible apply Upd.via; with_reducible apply Upd.fst State.eraseBlock_upd; decide)
    | (with_reducible apply Upd.via; with_reducible apply State.updFlash_upd; decide)
    | (with_reducible apply Upd.via; with_reducible apply State.journal_upd; decide)
    | split)

theorem State.bootActive_upd {s x1} : Upd2 257640 s (State.bootActive s x1) := by
  unfold State.bootActive
  repeat' (first
    | with_reducible exact Upd.refl
    | with_reducible assumption
    | (intro u; refine Upd.cut 257640 s u ?_ (fun _ => ?_); subst u; rotate_left; clear_value u; rotate_right)
    | (intro u; clear_value u)
    | lift_lets
    | (with_reducible apply Upd.via; with_reducible apply State.recordFail_upd; decide)
    | (with_reducible apply Upd.via; with_reducible apply State.raise_upd; decide)
    | with_reducible refine Upd2.mk' ?_
    | split)

theorem State.revert_upd {s x1} : Upd 519784 s (State.revert s x1) := by
  unfold State.revert
  repeat' (first
    | with_reducible exact Upd.refl
    | (intro u; clear_value u)
    | lift_lets
    | (with_reducible apply Upd.via; with_reducible apply State.raise_upd; decide)
    | (with_reducible apply Upd.via; with_reducible apply State.appendPtr_upd; decide))

theorem State.chooseTwin_upd {s x1} : Upd2 519784 s (State.chooseTwin s x1) := by
  unfold State.chooseTwin
  repeat' (first
    | with_reducible exact Upd.refl
    | with_reducible assumption
    | (intro u; refine Upd.cut 519784 s u ?_ (fun _ => ?_); subst u; rotate_left; clear_value u; rotate_right)
    | (intro u; clear_value u)
    | lift_lets
    | split
    | (with_reducible apply Upd.via; with_reducible apply State.recordFail_upd; decide)
    | (with_reducible apply Upd.via; with_reducible apply State.revert_upd; decide)
    | (with_reducible apply Upd.via; with_reducible apply State.appendPtr_upd; decide)
    | (with_reducible apply Upd2.via; with_reducible apply State.bootActive_upd; decide)
    | with_reducible refine Upd2.mk' ?_)

theorem State.enterKeeper_upd {s x1 x2 x3 x4} : Upd 16941320 s (State.enterKeeper s x1 x2 x3 x4) := by
  unfold State.enterKeeper
  repeat' (first
    | with_reducible exact Upd.refl
    | with_reducible assumption
    | (intro u; refine Upd.cut 16941320 s u ?_ (fun _ => ?_); subst u; rotate_left; clear_value u; rotate_right)
    | (intro u; clear_value u)
    | lift_lets
    | with_reducible refine Upd.foldl ?_ (fun _ _ _ => ?_)
    | (with_reducible apply Upd.via; with_reducible apply State.updGuards_upd; decide)
    | (with_reducible apply Upd.via; with_reducible apply State.fillSlot_upd; decide)
    | (with_reducible apply Upd.via; with_reducible apply State.wr_upd; decide)
    | (with_reducible apply Upd.via; with_reducible apply State.addTo_upd; decide)
    | (with_reducible apply Upd.via; with_reducible apply State.flag_upd; decide)
    | (with_reducible apply Upd.via; with_reducible apply State.updChip_upd; decide)
    | (with_reducible apply Upd.via; with_reducible apply State.updPair_upd; decide)
    | split)

end Sys2Proof.Machine
end

