-- ==== Sys2Proof/Laws/UpdBurnisher.lean ====
section
/-! SUPPORT. What each operation of Machine/Burnisher.lean touches and keeps. -/

namespace Sys2Proof.Machine

theorem State.sensorSample_upd {s x1 x2} : Upd 33812072 s (State.sensorSample s x1 x2) := by
  unfold State.sensorSample
  repeat' (first
    | with_reducible exact Upd.refl
    | (with_reducible apply Upd.via; with_reducible apply State.raise_upd; decide)
    | (with_reducible apply Upd.via; with_reducible apply State.updTelemetry_upd; decide)
    | split)

theorem State.thermWatch_upd {s x1} : Upd 33812072 s (State.thermWatch s x1) := by
  unfold State.thermWatch
  repeat' (first
    | with_reducible exact Upd.refl
    | lift_lets
    | (with_reducible apply Upd.via; with_reducible apply State.raise_upd; decide)
    | (with_reducible apply Upd.via; with_reducible apply State.updTelemetry_upd; decide)
    | split
    | dsimp only)

theorem State.showTj_upd {s} : Upd 33812072 s (State.showTj s) := by
  unfold State.showTj
  repeat' (first
    | with_reducible exact Upd.refl
    | with_reducible assumption
    | (intro u; refine Upd.cut 33812072 s u ?_ (fun _ => ?_); subst u; rotate_left; clear_value u; rotate_right)
    | lift_lets
    | (with_reducible apply Upd.via; with_reducible apply State.thermWatch_upd; decide)
    | (with_reducible apply Upd.via; with_reducible apply State.wr_upd; decide)
    | split)

theorem execTelemetrySample_upd {x0 s} : UpdO 2181820012 s (execTelemetrySample x0 s) := by
  unfold execTelemetrySample
  repeat' (first
    | with_reducible exact Upd.refl
    | with_reducible assumption
    | (intro u; refine Upd.cut 2181820012 s u ?_ (fun _ => ?_); subst u; rotate_left; clear_value u; rotate_right)
    | (intro u; clear_value u)
    | lift_lets
    | with_reducible refine Upd.foldl ?_ (fun _ _ _ => ?_)
    | (with_reducible apply Upd.via; with_reducible apply State.sensorSample_upd; decide)
    | (with_reducible apply Upd.via; with_reducible apply State.showTj_upd; decide)
    | (with_reducible apply Upd.via; with_reducible apply State.wr_upd; decide)
    | (with_reducible apply Upd.via; with_reducible apply State.updTelemetry_upd; decide)
    | (with_reducible apply Upd.via; with_reducible apply State.advanceTo_upd; decide)
    | with_reducible refine UpdO.mk' ?_
    | split)

theorem execDramPatrolScrub_upd {x0 x1 x2 s} : UpdO 537133032 s (execDramPatrolScrub x0 x1 x2 s) := by
  unfold execDramPatrolScrub
  repeat' (first
    | with_reducible exact Upd.refl
    | (intro u; clear_value u)
    | lift_lets
    | (with_reducible apply Upd.via; with_reducible apply Upd.snd State.checkWord_upd; decide)
    | (with_reducible apply Upd.via; with_reducible apply State.upset_upd; decide)
    | with_reducible refine UpdO.mk' ?_
    | split)

theorem State.holdRefresh_upd {s x1} : Upd 33554504 s (State.holdRefresh s x1) := by
  unfold State.holdRefresh
  repeat' (first
    | with_reducible exact Upd.refl
    | (with_reducible apply Upd.via; with_reducible apply State.updTelemetry_upd; decide)
    | (with_reducible apply Upd.via; with_reducible apply State.trailRec_upd; decide)
    | split)

theorem State.relocate_upd {s x1 x2 x3} : Upd 519784 s (State.relocate s x1 x2 x3) := by
  unfold State.relocate
  repeat' (first
    | with_reducible exact Upd.refl
    | with_reducible assumption
    | (intro u; refine Upd.cut 519784 s u ?_ (fun _ => ?_); subst u; rotate_left; clear_value u; rotate_right)
    | (intro u; clear_value u)
    | lift_lets
    | with_reducible refine Upd.foldl ?_ (fun _ _ _ => ?_)
    | (with_reducible apply Upd.via; with_reducible apply State.flashUe_upd; decide)
    | (with_reducible apply Upd.via; with_reducible apply Upd.fst State.eraseBlock_upd; decide)
    | (with_reducible apply Upd.via; with_reducible apply State.updFlash_upd; decide)
    | (with_reducible apply UpdOpt.via; with_reducible apply State.programAll_upd; decide)
    | split
    | (with_reducible apply Upd.someOf'; with_reducible assumption))

theorem execReadDisturbRefresh_upd {x0 x1 x2 s} : UpdO 34074216 s (execReadDisturbRefresh x0 x1 x2 s) := by
  unfold execReadDisturbRefresh
  repeat' (first
    | with_reducible exact Upd.refl
    | (with_reducible apply Upd.via; with_reducible apply State.holdRefresh_upd; decide)
    | (with_reducible apply Upd.via; with_reducible apply State.relocate_upd; decide)
    | with_reducible refine UpdO.mk' ?_
    | split)

theorem execFlashReadScrub_upd {x0 x1 x2 s} : UpdO 2182082156 s (execFlashReadScrub x0 x1 x2 s) := by
  unfold execFlashReadScrub
  repeat' (first
    | with_reducible exact Upd.refl
    | with_reducible assumption
    | (intro u; refine Upd.cut 2182082156 s u ?_ (fun _ => ?_); subst u; rotate_left; clear_value u; rotate_right)
    | (intro u; clear_value u)
    | lift_lets
    | with_reducible refine Upd.foldl ?_ (fun _ _ _ => ?_)
    | (with_reducible apply Upd.via; with_reducible apply State.holdRefresh_upd; decide)
    | (with_reducible apply Upd.via; with_reducible apply State.flashUe_upd; decide)
    | (with_reducible apply Upd.via; with_reducible apply State.countReads_upd; decide)
    | (with_reducible apply Upd.via; with_reducible apply State.advanceTo_upd; decide)
    | (with_reducible apply Upd.via; with_reducible apply State.updFlash_upd; decide)
    | with_reducible refine UpdO.mk' ?_
    | split)

theorem execWearLevelling_upd {x0 x1 x2 s} : UpdO 519784 s (execWearLevelling x0 x1 x2 s) := by
  unfold execWearLevelling
  repeat' (first
    | with_reducible exact Upd.refl
    | (with_reducible apply Upd.via; with_reducible apply State.relocate_upd; decide)
    | with_reducible refine UpdO.mk' ?_
    | split)

theorem execDdrPeriodicCalibration_upd {x0 s} : UpdO 2148007940 s (execDdrPeriodicCalibration x0 s) := by
  unfold execDdrPeriodicCalibration
  repeat' (first
    | with_reducible exact Upd.refl
    | (with_reducible apply Upd.via; with_reducible apply State.advance_upd; decide)
    | with_reducible refine UpdO.mk' ?_
    | split)

theorem execDdrRetraining_upd {x0 s} : UpdO 1107298312 s (execDdrRetraining x0 s) := by
  unfold execDdrRetraining
  repeat' (first
    | with_reducible exact Upd.refl
    | lift_lets
    | (with_reducible apply Upd.via; with_reducible apply State.setBit_upd; decide)
    | (with_reducible apply Upd.via; with_reducible apply Upd.snd State.draw_upd; decide)
    | (with_reducible apply Upd.via; with_reducible apply State.updTelemetry_upd; decide)
    | (with_reducible apply Upd.via; with_reducible apply State.setChan_upd; decide)
    | with_reducible refine UpdO.mk' ?_
    | split)

theorem execSensorCalibration_upd {x0 x1 s} : UpdO 33812072 s (execSensorCalibration x0 x1 s) := by
  unfold execSensorCalibration
  repeat' (first
    | with_reducible exact Upd.refl
    | (with_reducible apply Upd.via; with_reducible apply State.raise_upd; decide)
    | (with_reducible apply Upd.via; with_reducible apply State.updTelemetry_upd; decide)
    | with_reducible refine UpdO.mk' ?_
    | split)

theorem execKennelOscillatorTrim_upd {x0 x1 s} : UpdO 33554440 s (execKennelOscillatorTrim x0 x1 s) := by
  unfold execKennelOscillatorTrim
  repeat' (first
    | with_reducible exact Upd.refl
    | (intro u; clear_value u)
    | lift_lets
    | (with_reducible apply Upd.via; with_reducible apply State.wr_upd; decide)
    | (with_reducible apply Upd.via; with_reducible apply State.updTelemetry_upd; decide)
    | with_reducible refine UpdO.mk' ?_
    | split)

theorem execBrnOverrun_upd {x0 s} : UpdO 257640 s (execBrnOverrun x0 s) := by
  unfold execBrnOverrun
  repeat' (first
    | with_reducible exact Upd.refl
    | (with_reducible apply Upd.via; with_reducible apply State.raise_upd; decide)
    | (with_reducible apply Upd.via; with_reducible apply State.setBit_upd; decide)
    | with_reducible refine UpdO.mk' ?_
    | split)

end Sys2Proof.Machine
end

