-- ==== Sys2Proof/Laws/UpdCoreAlu.lean ====
section
/-! SUPPORT. What each operation of Machine/CoreAlu.lean touches and keeps. -/

namespace Sys2Proof.Machine

theorem execAdd_upd {x0 x1 x2 x3 x4 s} : UpdO 4294967295 s (execAdd x0 x1 x2 x3 x4 s) := by
  unfold execAdd
  repeat' (first
    | with_reducible exact Upd.refl
    | (with_reducible apply Upd.via; with_reducible apply State.compute_upd; decide)
    | with_reducible refine UpdO.mk' ?_)

theorem execSub_upd {x0 x1 x2 x3 x4 s} : UpdO 4294967295 s (execSub x0 x1 x2 x3 x4 s) := by
  unfold execSub
  repeat' (first
    | with_reducible exact Upd.refl
    | (with_reducible apply Upd.via; with_reducible apply State.compute_upd; decide)
    | with_reducible refine UpdO.mk' ?_)

theorem execAndReg_upd {x0 x1 x2 x3 x4 s} : UpdO 4294967295 s (execAndReg x0 x1 x2 x3 x4 s) := by
  unfold execAndReg
  repeat' (first
    | with_reducible exact Upd.refl
    | (with_reducible apply Upd.via; with_reducible apply State.compute_upd; decide)
    | with_reducible refine UpdO.mk' ?_)

theorem execOrReg_upd {x0 x1 x2 x3 x4 s} : UpdO 4294967295 s (execOrReg x0 x1 x2 x3 x4 s) := by
  unfold execOrReg
  repeat' (first
    | with_reducible exact Upd.refl
    | (with_reducible apply Upd.via; with_reducible apply State.compute_upd; decide)
    | with_reducible refine UpdO.mk' ?_)

theorem execXor_upd {x0 x1 x2 x3 x4 s} : UpdO 4294967295 s (execXor x0 x1 x2 x3 x4 s) := by
  unfold execXor
  repeat' (first
    | with_reducible exact Upd.refl
    | (with_reducible apply Upd.via; with_reducible apply State.compute_upd; decide)
    | with_reducible refine UpdO.mk' ?_)

theorem execAndn_upd {x0 x1 x2 x3 x4 s} : UpdO 4294967295 s (execAndn x0 x1 x2 x3 x4 s) := by
  unfold execAndn
  repeat' (first
    | with_reducible exact Upd.refl
    | (with_reducible apply Upd.via; with_reducible apply State.compute_upd; decide)
    | with_reducible refine UpdO.mk' ?_)

theorem execSlt_upd {x0 x1 x2 x3 x4 s} : UpdO 4294967295 s (execSlt x0 x1 x2 x3 x4 s) := by
  unfold execSlt
  repeat' (first
    | with_reducible exact Upd.refl
    | (with_reducible apply Upd.via; with_reducible apply State.compute_upd; decide)
    | with_reducible refine UpdO.mk' ?_)

theorem execSltu_upd {x0 x1 x2 x3 x4 s} : UpdO 4294967295 s (execSltu x0 x1 x2 x3 x4 s) := by
  unfold execSltu
  repeat' (first
    | with_reducible exact Upd.refl
    | (with_reducible apply Upd.via; with_reducible apply State.compute_upd; decide)
    | with_reducible refine UpdO.mk' ?_)

theorem execSll_upd {x0 x1 x2 x3 x4 s} : UpdO 4294967295 s (execSll x0 x1 x2 x3 x4 s) := by
  unfold execSll
  repeat' (first
    | with_reducible exact Upd.refl
    | (with_reducible apply Upd.via; with_reducible apply State.compute_upd; decide)
    | with_reducible refine UpdO.mk' ?_)

theorem execSrl_upd {x0 x1 x2 x3 x4 s} : UpdO 4294967295 s (execSrl x0 x1 x2 x3 x4 s) := by
  unfold execSrl
  repeat' (first
    | with_reducible exact Upd.refl
    | (with_reducible apply Upd.via; with_reducible apply State.compute_upd; decide)
    | with_reducible refine UpdO.mk' ?_)

theorem execSra_upd {x0 x1 x2 x3 x4 s} : UpdO 4294967295 s (execSra x0 x1 x2 x3 x4 s) := by
  unfold execSra
  repeat' (first
    | with_reducible exact Upd.refl
    | (with_reducible apply Upd.via; with_reducible apply State.compute_upd; decide)
    | with_reducible refine UpdO.mk' ?_)

theorem execRor_upd {x0 x1 x2 x3 x4 s} : UpdO 4294967295 s (execRor x0 x1 x2 x3 x4 s) := by
  unfold execRor
  repeat' (first
    | with_reducible exact Upd.refl
    | (with_reducible apply Upd.via; with_reducible apply State.compute_upd; decide)
    | with_reducible refine UpdO.mk' ?_)

theorem execMoveqz_upd {x0 x1 x2 x3 x4 s} : UpdO 4294967295 s (execMoveqz x0 x1 x2 x3 x4 s) := by
  unfold execMoveqz
  repeat' (first
    | with_reducible exact Upd.refl
    | (with_reducible apply Upd.via; with_reducible apply State.compute_upd; decide)
    | with_reducible refine UpdO.mk' ?_)

theorem execMovnez_upd {x0 x1 x2 x3 x4 s} : UpdO 4294967295 s (execMovnez x0 x1 x2 x3 x4 s) := by
  unfold execMovnez
  repeat' (first
    | with_reducible exact Upd.refl
    | (with_reducible apply Upd.via; with_reducible apply State.compute_upd; decide)
    | with_reducible refine UpdO.mk' ?_)

theorem execClz_upd {x0 x1 x2 x3 s} : UpdO 4294967295 s (execClz x0 x1 x2 x3 s) := by
  unfold execClz
  repeat' (first
    | with_reducible exact Upd.refl
    | (with_reducible apply Upd.via; with_reducible apply State.compute_upd; decide)
    | with_reducible refine UpdO.mk' ?_)

theorem execPopc_upd {x0 x1 x2 x3 s} : UpdO 4294967295 s (execPopc x0 x1 x2 x3 s) := by
  unfold execPopc
  repeat' (first
    | with_reducible exact Upd.refl
    | (with_reducible apply Upd.via; with_reducible apply State.compute_upd; decide)
    | with_reducible refine UpdO.mk' ?_)

theorem execBswap_upd {x0 x1 x2 x3 s} : UpdO 4294967295 s (execBswap x0 x1 x2 x3 s) := by
  unfold execBswap
  repeat' (first
    | with_reducible exact Upd.refl
    | (with_reducible apply Upd.via; with_reducible apply State.compute_upd; decide)
    | with_reducible refine UpdO.mk' ?_)

theorem execAddi_upd {x0 x1 x2 x3 x4 s} : UpdO 4294967295 s (execAddi x0 x1 x2 x3 x4 s) := by
  unfold execAddi
  repeat' (first
    | with_reducible exact Upd.refl
    | (with_reducible apply Upd.via; with_reducible apply State.compute_upd; decide)
    | with_reducible refine UpdO.mk' ?_)

theorem execAndi_upd {x0 x1 x2 x3 x4 s} : UpdO 4294967295 s (execAndi x0 x1 x2 x3 x4 s) := by
  unfold execAndi
  repeat' (first
    | with_reducible exact Upd.refl
    | (with_reducible apply Upd.via; with_reducible apply State.compute_upd; decide)
    | with_reducible refine UpdO.mk' ?_)

theorem execOri_upd {x0 x1 x2 x3 x4 s} : UpdO 4294967295 s (execOri x0 x1 x2 x3 x4 s) := by
  unfold execOri
  repeat' (first
    | with_reducible exact Upd.refl
    | (with_reducible apply Upd.via; with_reducible apply State.compute_upd; decide)
    | with_reducible refine UpdO.mk' ?_)

theorem execXori_upd {x0 x1 x2 x3 x4 s} : UpdO 4294967295 s (execXori x0 x1 x2 x3 x4 s) := by
  unfold execXori
  repeat' (first
    | with_reducible exact Upd.refl
    | (with_reducible apply Upd.via; with_reducible apply State.compute_upd; decide)
    | with_reducible refine UpdO.mk' ?_)

theorem execSlti_upd {x0 x1 x2 x3 x4 s} : UpdO 4294967295 s (execSlti x0 x1 x2 x3 x4 s) := by
  unfold execSlti
  repeat' (first
    | with_reducible exact Upd.refl
    | (with_reducible apply Upd.via; with_reducible apply State.compute_upd; decide)
    | with_reducible refine UpdO.mk' ?_)

theorem execSltiu_upd {x0 x1 x2 x3 x4 s} : UpdO 4294967295 s (execSltiu x0 x1 x2 x3 x4 s) := by
  unfold execSltiu
  repeat' (first
    | with_reducible exact Upd.refl
    | (with_reducible apply Upd.via; with_reducible apply State.compute_upd; decide)
    | with_reducible refine UpdO.mk' ?_)

theorem execMovz_upd {x0 x1 x2 x3 x4 s} : UpdO 4294967295 s (execMovz x0 x1 x2 x3 x4 s) := by
  unfold execMovz
  repeat' (first
    | with_reducible exact Upd.refl
    | (with_reducible apply Upd.via; with_reducible apply State.compute_upd; decide)
    | with_reducible refine UpdO.mk' ?_)

theorem execMovk_upd {x0 x1 x2 x3 x4 s} : UpdO 4294967295 s (execMovk x0 x1 x2 x3 x4 s) := by
  unfold execMovk
  repeat' (first
    | with_reducible exact Upd.refl
    | (with_reducible apply Upd.via; with_reducible apply State.compute_upd; decide)
    | with_reducible refine UpdO.mk' ?_)

theorem execAdrp_upd {x0 x1 x2 x3 s} : UpdO 4294967295 s (execAdrp x0 x1 x2 x3 s) := by
  unfold execAdrp
  repeat' (first
    | with_reducible exact Upd.refl
    | (with_reducible apply Upd.via; with_reducible apply State.compute_upd; decide)
    | with_reducible refine UpdO.mk' ?_)

theorem execSlli_upd {x0 x1 x2 x3 x4 s} : UpdO 4294967295 s (execSlli x0 x1 x2 x3 x4 s) := by
  unfold execSlli
  repeat' (first
    | with_reducible exact Upd.refl
    | (with_reducible apply Upd.via; with_reducible apply State.compute_upd; decide)
    | with_reducible refine UpdO.mk' ?_)

theorem execSrli_upd {x0 x1 x2 x3 x4 s} : UpdO 4294967295 s (execSrli x0 x1 x2 x3 x4 s) := by
  unfold execSrli
  repeat' (first
    | with_reducible exact Upd.refl
    | (with_reducible apply Upd.via; with_reducible apply State.compute_upd; decide)
    | with_reducible refine UpdO.mk' ?_)

theorem execSrai_upd {x0 x1 x2 x3 x4 s} : UpdO 4294967295 s (execSrai x0 x1 x2 x3 x4 s) := by
  unfold execSrai
  repeat' (first
    | with_reducible exact Upd.refl
    | (with_reducible apply Upd.via; with_reducible apply State.compute_upd; decide)
    | with_reducible refine UpdO.mk' ?_)

end Sys2Proof.Machine
end

