-- ==== Sys2Proof/Laws/UpdCoreFlow.lean ====
section
/-! SUPPORT. What each operation of Machine/CoreFlow.lean touches and keeps. -/

namespace Sys2Proof.Machine

theorem State.branch_upd {s x1 x2 x3 x4} : Upd 4294967295 s (State.branch s x1 x2 x3 x4) := by
  unfold State.branch
  repeat' (first
    | with_reducible exact Upd.refl
    | with_reducible assumption
    | (with_reducible apply Upd.via; with_reducible apply State.updPair_upd; decide)
    | with_reducible refine State.issue_upd ?_ (by decide) (fun _ _ => ?_))

theorem execBeq_upd {x0 x1 x2 x3 x4 s} : UpdO 4294967295 s (execBeq x0 x1 x2 x3 x4 s) := by
  unfold execBeq
  repeat' (first
    | with_reducible exact Upd.refl
    | (with_reducible apply Upd.via; with_reducible apply State.branch_upd; decide)
    | with_reducible refine UpdO.mk' ?_)

theorem execBne_upd {x0 x1 x2 x3 x4 s} : UpdO 4294967295 s (execBne x0 x1 x2 x3 x4 s) := by
  unfold execBne
  repeat' (first
    | with_reducible exact Upd.refl
    | (with_reducible apply Upd.via; with_reducible apply State.branch_upd; decide)
    | with_reducible refine UpdO.mk' ?_)

theorem execBlt_upd {x0 x1 x2 x3 x4 s} : UpdO 4294967295 s (execBlt x0 x1 x2 x3 x4 s) := by
  unfold execBlt
  repeat' (first
    | with_reducible exact Upd.refl
    | (with_reducible apply Upd.via; with_reducible apply State.branch_upd; decide)
    | with_reducible refine UpdO.mk' ?_)

theorem execBge_upd {x0 x1 x2 x3 x4 s} : UpdO 4294967295 s (execBge x0 x1 x2 x3 x4 s) := by
  unfold execBge
  repeat' (first
    | with_reducible exact Upd.refl
    | (with_reducible apply Upd.via; with_reducible apply State.branch_upd; decide)
    | with_reducible refine UpdO.mk' ?_)

theorem execBltu_upd {x0 x1 x2 x3 x4 s} : UpdO 4294967295 s (execBltu x0 x1 x2 x3 x4 s) := by
  unfold execBltu
  repeat' (first
    | with_reducible exact Upd.refl
    | (with_reducible apply Upd.via; with_reducible apply State.branch_upd; decide)
    | with_reducible refine UpdO.mk' ?_)

theorem execBgeu_upd {x0 x1 x2 x3 x4 s} : UpdO 4294967295 s (execBgeu x0 x1 x2 x3 x4 s) := by
  unfold execBgeu
  repeat' (first
    | with_reducible exact Upd.refl
    | (with_reducible apply Upd.via; with_reducible apply State.branch_upd; decide)
    | with_reducible refine UpdO.mk' ?_)

theorem execJ_upd {x0 x1 x2 s} : UpdO 4294967295 s (execJ x0 x1 x2 s) := by
  unfold execJ
  repeat' (first
    | with_reducible exact Upd.refl
    | with_reducible assumption
    | (with_reducible apply Upd.via; with_reducible apply State.updPair_upd; decide)
    | with_reducible refine State.issue_upd ?_ (by decide) (fun _ _ => ?_)
    | with_reducible refine UpdO.mk' ?_)

theorem execJal_upd {x0 x1 x2 s} : UpdO 4294967295 s (execJal x0 x1 x2 s) := by
  unfold execJal
  repeat' (first
    | with_reducible exact Upd.refl
    | with_reducible assumption
    | (with_reducible apply Upd.via; with_reducible apply State.updPair_upd; decide)
    | with_reducible refine State.issue_upd ?_ (by decide) (fun _ _ => ?_)
    | with_reducible refine UpdO.mk' ?_)

theorem execJalr_upd {x0 x1 x2 x3 x4 s} : UpdO 4294967295 s (execJalr x0 x1 x2 x3 x4 s) := by
  unfold execJalr
  repeat' (first
    | with_reducible exact Upd.refl
    | with_reducible assumption
    | (intro u; clear_value u)
    | lift_lets
    | (with_reducible apply Upd.via; with_reducible apply State.raiseExc_upd; decide)
    | (with_reducible apply Upd.via; with_reducible apply State.updPair_upd; decide)
    | with_reducible refine State.issue_upd ?_ (by decide) (fun _ _ => ?_)
    | with_reducible refine UpdO.mk' ?_
    | split)

theorem execTrap_upd {x0 x1 x2 s} : UpdO 4294967295 s (execTrap x0 x1 x2 s) := by
  unfold execTrap
  repeat' (first
    | with_reducible exact Upd.refl
    | with_reducible assumption
    | (intro u; clear_value u)
    | lift_lets
    | (with_reducible apply Upd.via; with_reducible apply State.enterExc_upd; decide)
    | with_reducible refine State.issue_upd ?_ (by decide) (fun _ _ => ?_)
    | with_reducible refine UpdO.mk' ?_)

theorem execBrk_upd {x0 x1 s} : UpdO 4294967295 s (execBrk x0 x1 s) := by
  unfold execBrk
  repeat' (first
    | with_reducible exact Upd.refl
    | with_reducible assumption
    | (intro u; clear_value u)
    | lift_lets
    | (with_reducible apply Upd.via; with_reducible apply State.enterExc_upd; decide)
    | with_reducible refine State.issue_upd ?_ (by decide) (fun _ _ => ?_)
    | with_reducible refine UpdO.mk' ?_)

theorem execIllegalInstruction_upd {x0 x1 s} : UpdO 4294967295 s (execIllegalInstruction x0 x1 s) := by
  unfold execIllegalInstruction
  repeat' (first
    | with_reducible exact Upd.refl
    | with_reducible assumption
    | (with_reducible apply Upd.via; with_reducible apply State.raiseExc_upd; decide)
    | with_reducible refine State.issue_upd ?_ (by decide) (fun _ _ => ?_)
    | with_reducible refine UpdO.mk' ?_)

end Sys2Proof.Machine
end

