-- ==== Sys2Proof/Laws/UpdCoreLong.lean ====
section
/-! SUPPORT. What each operation of Machine/CoreLong.lean touches and keeps. -/

namespace Sys2Proof.Machine

theorem State.elements_upd {m t p rb elt n s} (h : Upd m t s) (hm : Nat.land 131072 m = 131072) (hb : ∀ u, Upd m t u → Upd2 m t (elt u)) :
    Upd2 m t (State.elements p rb elt n s) := by
  induction n generalizing s with
  | zero => exact Upd2.mk' h
  | succ n ih =>
    unfold State.elements
    split
    · exact Upd2.mk' h
    · split
      · exact Upd2.mk' (Upd.sndOf (hb s h) ‹_›)
      · exact ih (Upd.via State.updPair_upd (landTrans (by decide) hm) (Upd.sndOf (hb s h) ‹_›))

theorem State.longOp_upd {m t s x1 x2 x3 x4 x5 x6 x7 x8 x9} (h : Upd m t s) (hm : Nat.land 4294967295 m = 4294967295) (hb : ∀ u, Upd m t u → Upd2 m t (x9 u)) :
    Upd m t (State.longOp s x1 x2 x3 x4 x5 x6 x7 x8 x9) := by
  unfold State.longOp
  repeat' (first
    | with_reducible assumption
    | (intro u; refine Upd.cut m t u ?_ (fun _ => ?_); subst u; rotate_left; clear_value u; rotate_right)
    | (intro u; clear_value u)
    | lift_lets
    | with_reducible refine hb _ ?_
    | (with_reducible apply Upd.via; with_reducible apply State.raiseExc_upd; exact landTrans (by decide) hm)
    | (with_reducible apply Upd.via; with_reducible apply State.retire_upd; exact landTrans (by decide) hm)
    | (with_reducible apply Upd.via; with_reducible apply State.updPair_upd; exact landTrans (by decide) hm)
    | with_reducible refine State.elements_upd ?_ (landTrans (by decide) hm) (fun _ _ => ?_)
    | with_reducible refine State.issue_upd ?_ (landTrans (by decide) hm) (fun _ _ => ?_)
    | split
    | (with_reducible apply Upd.sndOf'; with_reducible assumption))

theorem State.twoVectors_upd {s x1 x2 x3 x4} : Upd2 1610874872 s (State.twoVectors s x1 x2 x3 x4) := by
  unfold State.twoVectors
  repeat' (first
    | with_reducible exact Upd.refl
    | (with_reducible apply Upd.via; with_reducible apply State.updPair_upd; decide)
    | (with_reducible apply Upd2.via; with_reducible apply State.loadBytes_upd; decide)
    | with_reducible refine Upd2.mk' ?_
    | split
    | (with_reducible apply Upd.sndOf'; with_reducible assumption))

theorem execBmov_upd {x0 x1 x2 x3 x4 x5 x6 s} : UpdO 4294967295 s (execBmov x0 x1 x2 x3 x4 x5 x6 s) := by
  unfold execBmov
  repeat' (first
    | with_reducible exact Upd.refl
    | with_reducible assumption
    | (intro u; clear_value u)
    | lift_lets
    | (with_reducible apply Upd.via; with_reducible apply State.updPair_upd; decide)
    | (with_reducible apply Upd2.via; with_reducible apply State.loadBytes_upd; decide)
    | (with_reducible apply Upd2.via; with_reducible apply State.storeBytes_upd; decide)
    | with_reducible refine State.longOp_upd ?_ (by decide) (fun _ _ => ?_)
    | with_reducible refine Upd2.mk' ?_
    | with_reducible refine UpdO.mk' ?_
    | split
    | (with_reducible apply Upd.sndOf'; with_reducible assumption))

theorem execBfill_upd {x0 x1 x2 x3 x4 x5 x6 s} : UpdO 4294967295 s (execBfill x0 x1 x2 x3 x4 x5 x6 s) := by
  unfold execBfill
  repeat' (first
    | with_reducible exact Upd.refl
    | with_reducible assumption
    | (intro u; clear_value u)
    | lift_lets
    | (with_reducible apply Upd.via; with_reducible apply State.updPair_upd; decide)
    | (with_reducible apply Upd2.via; with_reducible apply State.storeBytes_upd; decide)
    | with_reducible refine State.longOp_upd ?_ (by decide) (fun _ _ => ?_)
    | with_reducible refine Upd2.mk' ?_
    | with_reducible refine UpdO.mk' ?_
    | split
    | (with_reducible apply Upd.sndOf'; with_reducible assumption))

theorem execMacv_upd {x0 x1 x2 x3 x4 x5 x6 s} : UpdO 4294967295 s (execMacv x0 x1 x2 x3 x4 x5 x6 s) := by
  unfold execMacv
  repeat' (first
    | with_reducible exact Upd.refl
    | with_reducible assumption
    | lift_lets
    | (with_reducible apply Upd2.via; with_reducible apply State.twoVectors_upd; decide)
    | with_reducible refine State.longOp_upd ?_ (by decide) (fun _ _ => ?_)
    | with_reducible refine UpdO.mk' ?_)

theorem execSabs_upd {x0 x1 x2 x3 x4 x5 s} : UpdO 4294967295 s (execSabs x0 x1 x2 x3 x4 x5 s) := by
  unfold execSabs
  repeat' (first
    | with_reducible exact Upd.refl
    | with_reducible assumption
    | (with_reducible apply Upd2.via; with_reducible apply State.twoVectors_upd; decide)
    | with_reducible refine State.longOp_upd ?_ (by decide) (fun _ _ => ?_)
    | with_reducible refine UpdO.mk' ?_)

end Sys2Proof.Machine
end

