-- ==== Sys2Proof/Laws/UpdCoreMem.lean ====
section
/-! SUPPORT. What each operation of Machine/CoreMem.lean touches and keeps. -/

namespace Sys2Proof.Machine

theorem State.load_upd {s x1 x2 x3 x4 x5 x6 x7} : Upd 4294967295 s (State.load s x1 x2 x3 x4 x5 x6 x7) := by
  unfold State.load
  repeat' (first
    | with_reducible exact Upd.refl
    | with_reducible assumption
    | (intro u; clear_value u)
    | lift_lets
    | (with_reducible apply Upd.via; with_reducible apply State.raiseExc_upd; decide)
    | (with_reducible apply Upd.via; with_reducible apply State.retire_upd; decide)
    | (with_reducible apply Upd2.via; with_reducible apply State.loadBytes_upd; decide)
    | with_reducible refine State.issue_upd ?_ (by decide) (fun _ _ => ?_)
    | split
    | (with_reducible apply Upd.sndOf'; with_reducible assumption))

theorem State.store_upd {s x1 x2 x3 x4 x5 x6} : Upd 4294967295 s (State.store s x1 x2 x3 x4 x5 x6) := by
  unfold State.store
  repeat' (first
    | with_reducible exact Upd.refl
    | with_reducible assumption
    | (intro u; clear_value u)
    | lift_lets
    | (with_reducible apply Upd.via; with_reducible apply State.raiseExc_upd; decide)
    | (with_reducible apply Upd.via; with_reducible apply State.retire_upd; decide)
    | (with_reducible apply Upd2.via; with_reducible apply State.storeBytes_upd; decide)
    | with_reducible refine State.issue_upd ?_ (by decide) (fun _ _ => ?_)
    | split
    | (with_reducible apply Upd.sndOf'; with_reducible assumption))

theorem State.atomic_upd {s x1 x2 x3 x4 x5} : Upd 4294967295 s (State.atomic s x1 x2 x3 x4 x5) := by
  unfold State.atomic
  repeat' (first
    | with_reducible exact Upd.refl
    | with_reducible assumption
    | (intro u; clear_value u)
    | lift_lets
    | (with_reducible apply Upd.via; with_reducible apply State.putBytes_upd; decide)
    | (with_reducible apply Upd.via; with_reducible apply State.raiseExc_upd; decide)
    | (with_reducible apply Upd.via; with_reducible apply State.retire_upd; decide)
    | (with_reducible apply Upd2.via; with_reducible apply State.loadBytes_upd; decide)
    | with_reducible refine State.issue_upd ?_ (by decide) (fun _ _ => ?_)
    | split
    | (with_reducible apply Upd.sndOf'; with_reducible assumption)
    | dsimp only)

theorem execLdb_upd {x0 x1 x2 x3 x4 s} : UpdO 4294967295 s (execLdb x0 x1 x2 x3 x4 s) := by
  unfold execLdb
  repeat' (first
    | with_reducible exact Upd.refl
    | (with_reducible apply Upd.via; with_reducible apply State.load_upd; decide)
    | with_reducible refine UpdO.mk' ?_)

theorem execLdbu_upd {x0 x1 x2 x3 x4 s} : UpdO 4294967295 s (execLdbu x0 x1 x2 x3 x4 s) := by
  unfold execLdbu
  repeat' (first
    | with_reducible exact Upd.refl
    | (with_reducible apply Upd.via; with_reducible apply State.load_upd; decide)
    | with_reducible refine UpdO.mk' ?_)

theorem execLdh_upd {x0 x1 x2 x3 x4 s} : UpdO 4294967295 s (execLdh x0 x1 x2 x3 x4 s) := by
  unfold execLdh
  repeat' (first
    | with_reducible exact Upd.refl
    | (with_reducible apply Upd.via; with_reducible apply State.load_upd; decide)
    | with_reducible refine UpdO.mk' ?_)

theorem execLdhu_upd {x0 x1 x2 x3 x4 s} : UpdO 4294967295 s (execLdhu x0 x1 x2 x3 x4 s) := by
  unfold execLdhu
  repeat' (first
    | with_reducible exact Upd.refl
    | (with_reducible apply Upd.via; with_reducible apply State.load_upd; decide)
    | with_reducible refine UpdO.mk' ?_)

theorem execLdw_upd {x0 x1 x2 x3 x4 s} : UpdO 4294967295 s (execLdw x0 x1 x2 x3 x4 s) := by
  unfold execLdw
  repeat' (first
    | with_reducible exact Upd.refl
    | (with_reducible apply Upd.via; with_reducible apply State.load_upd; decide)
    | with_reducible refine UpdO.mk' ?_)

theorem execLdwu_upd {x0 x1 x2 x3 x4 s} : UpdO 4294967295 s (execLdwu x0 x1 x2 x3 x4 s) := by
  unfold execLdwu
  repeat' (first
    | with_reducible exact Upd.refl
    | (with_reducible apply Upd.via; with_reducible apply State.load_upd; decide)
    | with_reducible refine UpdO.mk' ?_)

theorem execLdd_upd {x0 x1 x2 x3 x4 s} : UpdO 4294967295 s (execLdd x0 x1 x2 x3 x4 s) := by
  unfold execLdd
  repeat' (first
    | with_reducible exact Upd.refl
    | (with_reducible apply Upd.via; with_reducible apply State.load_upd; decide)
    | with_reducible refine UpdO.mk' ?_)

theorem execStb_upd {x0 x1 x2 x3 x4 s} : UpdO 4294967295 s (execStb x0 x1 x2 x3 x4 s) := by
  unfold execStb
  repeat' (first
    | with_reducible exact Upd.refl
    | (with_reducible apply Upd.via; with_reducible apply State.store_upd; decide)
    | with_reducible refine UpdO.mk' ?_)

theorem execSth_upd {x0 x1 x2 x3 x4 s} : UpdO 4294967295 s (execSth x0 x1 x2 x3 x4 s) := by
  unfold execSth
  repeat' (first
    | with_reducible exact Upd.refl
    | (with_reducible apply Upd.via; with_reducible apply State.store_upd; decide)
    | with_reducible refine UpdO.mk' ?_)

theorem execStw_upd {x0 x1 x2 x3 x4 s} : UpdO 4294967295 s (execStw x0 x1 x2 x3 x4 s) := by
  unfold execStw
  repeat' (first
    | with_reducible exact Upd.refl
    | (with_reducible apply Upd.via; with_reducible apply State.store_upd; decide)
    | with_reducible refine UpdO.mk' ?_)

theorem execStd_upd {x0 x1 x2 x3 x4 s} : UpdO 4294967295 s (execStd x0 x1 x2 x3 x4 s) := by
  unfold execStd
  repeat' (first
    | with_reducible exact Upd.refl
    | (with_reducible apply Upd.via; with_reducible apply State.store_upd; decide)
    | with_reducible refine UpdO.mk' ?_)

theorem execLld_upd {x0 x1 x2 x3 s} : UpdO 4294967295 s (execLld x0 x1 x2 x3 s) := by
  unfold execLld
  repeat' (first
    | with_reducible exact Upd.refl
    | with_reducible assumption
    | (intro u; clear_value u)
    | lift_lets
    | (with_reducible apply Upd.via; with_reducible apply State.raiseExc_upd; decide)
    | (with_reducible apply Upd.via; with_reducible apply State.retire_upd; decide)
    | (with_reducible apply Upd.via; with_reducible apply State.updCores_upd; decide)
    | (with_reducible apply Upd2.via; with_reducible apply State.loadBytes_upd; decide)
    | with_reducible refine State.issue_upd ?_ (by decide) (fun _ _ => ?_)
    | with_reducible refine UpdO.mk' ?_
    | split
    | (with_reducible apply Upd.sndOf'; with_reducible assumption))

theorem execScd_upd {x0 x1 x2 x3 x4 s} : UpdO 4294967295 s (execScd x0 x1 x2 x3 x4 s) := by
  unfold execScd
  repeat' (first
    | with_reducible exact Upd.refl
    | with_reducible assumption
    | (intro u; refine Upd.cut 4294967295 s u ?_ (fun _ => ?_); subst u; rotate_left; clear_value u; rotate_right)
    | (intro u; clear_value u)
    | lift_lets
    | (with_reducible apply Upd.via; with_reducible apply State.putBytes_upd; decide)
    | (with_reducible apply Upd.via; with_reducible apply State.raiseExc_upd; decide)
    | (with_reducible apply Upd.via; with_reducible apply State.retire_upd; decide)
    | (with_reducible apply Upd.via; with_reducible apply State.dropOwn_upd; decide)
    | (with_reducible apply Upd2.via; with_reducible apply State.approach_upd; decide)
    | with_reducible refine State.issue_upd ?_ (by decide) (fun _ _ => ?_)
    | with_reducible refine UpdO.mk' ?_
    | split
    | (with_reducible apply Upd.sndOf'; with_reducible assumption))

theorem execSwapd_upd {x0 x1 x2 x3 x4 s} : UpdO 4294967295 s (execSwapd x0 x1 x2 x3 x4 s) := by
  unfold execSwapd
  repeat' (first
    | with_reducible exact Upd.refl
    | (with_reducible apply Upd.via; with_reducible apply State.atomic_upd; decide)
    | with_reducible refine UpdO.mk' ?_)

theorem execAaddd_upd {x0 x1 x2 x3 x4 s} : UpdO 4294967295 s (execAaddd x0 x1 x2 x3 x4 s) := by
  unfold execAaddd
  repeat' (first
    | with_reducible exact Upd.refl
    | (with_reducible apply Upd.via; with_reducible apply State.atomic_upd; decide)
    | with_reducible refine UpdO.mk' ?_)

theorem execAandd_upd {x0 x1 x2 x3 x4 s} : UpdO 4294967295 s (execAandd x0 x1 x2 x3 x4 s) := by
  unfold execAandd
  repeat' (first
    | with_reducible exact Upd.refl
    | (with_reducible apply Upd.via; with_reducible apply State.atomic_upd; decide)
    | with_reducible refine UpdO.mk' ?_)

theorem execAord_upd {x0 x1 x2 x3 x4 s} : UpdO 4294967295 s (execAord x0 x1 x2 x3 x4 s) := by
  unfold execAord
  repeat' (first
    | with_reducible exact Upd.refl
    | (with_reducible apply Upd.via; with_reducible apply State.atomic_upd; decide)
    | with_reducible refine UpdO.mk' ?_)

theorem execCasd_upd {x0 x1 x2 x3 x4 s} : UpdO 4294967295 s (execCasd x0 x1 x2 x3 x4 s) := by
  unfold execCasd
  repeat' (first
    | with_reducible exact Upd.refl
    | (with_reducible apply Upd.via; with_reducible apply State.atomic_upd; decide)
    | with_reducible refine UpdO.mk' ?_)

theorem execFence_upd {x0 x1 s} : UpdO 4294967295 s (execFence x0 x1 s) := by
  unfold execFence
  repeat' (first
    | with_reducible exact Upd.refl
    | with_reducible assumption
    | (with_reducible apply Upd.via; with_reducible apply State.retire_upd; decide)
    | with_reducible refine State.issue_upd ?_ (by decide) (fun _ _ => ?_)
    | with_reducible refine UpdO.mk' ?_)

theorem execFencei_upd {x0 x1 s} : UpdO 4294967295 s (execFencei x0 x1 s) := by
  unfold execFencei
  repeat' (first
    | with_reducible exact Upd.refl
    | with_reducible assumption
    | (with_reducible apply Upd.via; with_reducible apply State.retire_upd; decide)
    | with_reducible refine State.issue_upd ?_ (by decide) (fun _ _ => ?_)
    | with_reducible refine UpdO.mk' ?_)

theorem execCflush_upd {x0 x1 x2 s} : UpdO 4294967295 s (execCflush x0 x1 x2 s) := by
  unfold execCflush
  repeat' (first
    | with_reducible exact Upd.refl
    | with_reducible assumption
    | (intro u; clear_value u)
    | lift_lets
    | (with_reducible apply Upd.via; with_reducible apply State.retire_upd; decide)
    | with_reducible refine State.privileged_upd ?_ (by decide) (fun _ _ => ?_)
    | with_reducible refine UpdO.mk' ?_)

end Sys2Proof.Machine
end

