-- ==== Sys2Proof/Laws/UpdCoreMul.lean ====
section
/-! SUPPORT. What each operation of Machine/CoreMul.lean touches and keeps. -/

namespace Sys2Proof.Machine

theorem State.mulOp_upd {s x1 x2 x3 x4} : Upd 4294967295 s (State.mulOp s x1 x2 x3 x4) := by
  unfold State.mulOp
  repeat' (first
    | with_reducible exact Upd.refl
    | with_reducible assumption
    | (with_reducible apply Upd.via; with_reducible apply State.retire_upd; decide)
    | with_reducible refine State.issue_upd ?_ (by decide) (fun _ _ => ?_))

theorem execMul_upd {x0 x1 x2 x3 s} : UpdO 4294967295 s (execMul x0 x1 x2 x3 s) := by
  unfold execMul
  repeat' (first
    | with_reducible exact Upd.refl
    | (with_reducible apply Upd.via; with_reducible apply State.mulOp_upd; decide)
    | with_reducible refine UpdO.mk' ?_)

theorem execMulu_upd {x0 x1 x2 x3 s} : UpdO 4294967295 s (execMulu x0 x1 x2 x3 s) := by
  unfold execMulu
  repeat' (first
    | with_reducible exact Upd.refl
    | (with_reducible apply Upd.via; with_reducible apply State.mulOp_upd; decide)
    | with_reducible refine UpdO.mk' ?_)

theorem execMadd_upd {x0 x1 x2 x3 s} : UpdO 4294967295 s (execMadd x0 x1 x2 x3 s) := by
  unfold execMadd
  repeat' (first
    | with_reducible exact Upd.refl
    | (with_reducible apply Upd.via; with_reducible apply State.mulOp_upd; decide)
    | with_reducible refine UpdO.mk' ?_)

theorem execMaddu_upd {x0 x1 x2 x3 s} : UpdO 4294967295 s (execMaddu x0 x1 x2 x3 s) := by
  unfold execMaddu
  repeat' (first
    | with_reducible exact Upd.refl
    | (with_reducible apply Upd.via; with_reducible apply State.mulOp_upd; decide)
    | with_reducible refine UpdO.mk' ?_)

theorem execDivq_upd {x0 x1 x2 x3 s} : UpdO 4294967295 s (execDivq x0 x1 x2 x3 s) := by
  unfold execDivq
  repeat' (first
    | with_reducible exact Upd.refl
    | (with_reducible apply Upd.via; with_reducible apply State.mulOp_upd; decide)
    | with_reducible refine UpdO.mk' ?_)

theorem execDivqu_upd {x0 x1 x2 x3 s} : UpdO 4294967295 s (execDivqu x0 x1 x2 x3 s) := by
  unfold execDivqu
  repeat' (first
    | with_reducible exact Upd.refl
    | (with_reducible apply Upd.via; with_reducible apply State.mulOp_upd; decide)
    | with_reducible refine UpdO.mk' ?_)

theorem execRemd_upd {x0 x1 x2 x3 s} : UpdO 4294967295 s (execRemd x0 x1 x2 x3 s) := by
  unfold execRemd
  repeat' (first
    | with_reducible exact Upd.refl
    | (with_reducible apply Upd.via; with_reducible apply State.mulOp_upd; decide)
    | with_reducible refine UpdO.mk' ?_)

theorem execRemdu_upd {x0 x1 x2 x3 s} : UpdO 4294967295 s (execRemdu x0 x1 x2 x3 s) := by
  unfold execRemdu
  repeat' (first
    | with_reducible exact Upd.refl
    | (with_reducible apply Upd.via; with_reducible apply State.mulOp_upd; decide)
    | with_reducible refine UpdO.mk' ?_)

theorem execMwr_upd {x0 x1 x2 x3 s} : UpdO 4294967295 s (execMwr x0 x1 x2 x3 s) := by
  unfold execMwr
  repeat' (first
    | with_reducible exact Upd.refl
    | (with_reducible apply Upd.via; with_reducible apply State.mulOp_upd; decide)
    | with_reducible refine UpdO.mk' ?_)

theorem execMrdl_upd {x0 x1 x2 s} : UpdO 4294967295 s (execMrdl x0 x1 x2 s) := by
  unfold execMrdl
  repeat' (first
    | with_reducible exact Upd.refl
    | (with_reducible apply Upd.via; with_reducible apply State.compute_upd; decide)
    | with_reducible refine UpdO.mk' ?_)

theorem execMrdh_upd {x0 x1 x2 s} : UpdO 4294967295 s (execMrdh x0 x1 x2 s) := by
  unfold execMrdh
  repeat' (first
    | with_reducible exact Upd.refl
    | (with_reducible apply Upd.via; with_reducible apply State.compute_upd; decide)
    | with_reducible refine UpdO.mk' ?_)

theorem execMultiplierComplete_upd {x0 s} : UpdO 131072 s (execMultiplierComplete x0 s) := by
  unfold execMultiplierComplete
  repeat' (first
    | with_reducible exact Upd.refl
    | (with_reducible apply Upd.via; with_reducible apply State.updPair_upd; decide)
    | with_reducible refine UpdO.mk' ?_
    | split)

end Sys2Proof.Machine
end

