-- ==== Sys2Proof/Laws/UpdDrain.lean ====
section
/-! SUPPORT. What each operation of Machine/Drain.lean touches and keeps. -/

namespace Sys2Proof.Machine

theorem State.touchSurvivor_upd {x0 s x2} : Upd 537133032 s (State.touchSurvivor x0 s x2) := by
  unfold State.touchSurvivor
  repeat' (first
    | with_reducible exact Upd.refl
    | (with_reducible apply Upd.via; with_reducible apply State.loseFrag_upd; decide)
    | (with_reducible apply Upd.via; with_reducible apply State.retireBad_upd; decide)
    | (with_reducible apply Upd2.via; with_reducible apply State.touchPages_upd; decide)
    | split
    | (with_reducible apply Upd.sndOf'; with_reducible assumption))

theorem State.regenerateChecked_upd {s x1} : Upd 537133032 s (State.regenerateChecked s x1) := by
  unfold State.regenerateChecked
  repeat' (first
    | with_reducible exact Upd.refl
    | with_reducible assumption
    | (intro u; refine Upd.cut 537133032 s u ?_ (fun _ => ?_); subst u; rotate_left; clear_value u; rotate_right)
    | lift_lets
    | with_reducible refine Upd.foldl ?_ (fun _ _ _ => ?_)
    | (with_reducible apply Upd.via; with_reducible apply State.touchSurvivor_upd; decide)
    | (with_reducible apply Upd.via; with_reducible apply State.afterLoss_upd; decide)
    | (with_reducible apply Upd.via; with_reducible apply State.regenerate_upd; decide)
    | split)

theorem execRegeneration_upd {x0 x1 s} : UpdO 537133032 s (execRegeneration x0 x1 s) := by
  unfold execRegeneration
  repeat' (first
    | with_reducible exact Upd.refl
    | (intro u; clear_value u)
    | lift_lets
    | (with_reducible apply Upd.via; with_reducible apply State.regenerateChecked_upd; decide)
    | with_reducible refine UpdO.mk' ?_
    | split)

theorem execRegenPlaceWait_upd {x0 x1 s} : UpdO 537133032 s (execRegenPlaceWait x0 x1 s) := by
  unfold execRegenPlaceWait
  repeat' (first
    | with_reducible exact Upd.refl
    | (intro u; clear_value u)
    | lift_lets
    | (with_reducible apply Upd.via; with_reducible apply State.regenerateChecked_upd; decide)
    | with_reducible refine UpdO.mk' ?_
    | split)

theorem execDrainSend_upd {x0 s} : UpdO 537133032 s (execDrainSend x0 s) := by
  unfold execDrainSend
  repeat' (first
    | with_reducible exact Upd.refl
    | with_reducible assumption
    | (intro u; refine Upd.cut 537133032 s u ?_ (fun _ => ?_); subst u; rotate_left; clear_value u; rotate_right)
    | (intro u; clear_value u)
    | lift_lets
    | (with_reducible apply Upd.via; with_reducible apply State.restartRepair_upd; decide)
    | (with_reducible apply Upd.via; with_reducible apply State.sendCopy_upd; decide)
    | (with_reducible apply Upd.via; with_reducible apply State.sendPut_upd; decide)
    | (with_reducible apply Upd.via; with_reducible apply State.afterLoss_upd; decide)
    | (with_reducible apply Upd.via; with_reducible apply State.loseFrag_upd; decide)
    | (with_reducible apply Upd.via; with_reducible apply State.retireBad_upd; decide)
    | (with_reducible apply Upd2.via; with_reducible apply State.touchPages_upd; decide)
    | with_reducible refine UpdO.mk' ?_
    | split
    | (with_reducible apply Upd.sndOf'; with_reducible assumption))

end Sys2Proof.Machine
end

