-- ==== Sys2Proof/Laws/UpdNorthWire.lean ====
section
/-! SUPPORT. What each operation of Machine/NorthWire.lean touches and keeps. -/

namespace Sys2Proof.Machine

theorem State.macsecTake_upd {s x1 x2} : Upd1 512 s (State.macsecTake s x1 x2) := by
  unfold State.macsecTake
  repeat' (first
    | with_reducible exact Upd.refl
    | with_reducible assumption
    | (intro u; refine Upd1.cut 512 s u ?_ (fun _ => ?_); subst u; rotate_left; clear_value u; rotate_right)
    | lift_lets
    | (with_reducible apply Upd.via; with_reducible apply State.updQueue_upd; decide)
    | with_reducible refine Upd1.mk' ?_
    | split)

theorem State.takeDatagram_upd {s x1} : Upd1 512 s (State.takeDatagram s x1) := by
  unfold State.takeDatagram
  repeat' (first
    | with_reducible exact Upd.refl
    | (with_reducible apply Upd.via; with_reducible apply State.updQueue_upd; decide)
    | (with_reducible apply Upd1.via; with_reducible apply State.macsecTake_upd; decide)
    | with_reducible refine Upd1.mk' ?_
    | split
    | (with_reducible apply Upd.fstOf'; with_reducible assumption))

end Sys2Proof.Machine
end

