-- ==== Sys2Proof/Laws/UpdPanel.lean ====
section
/-! SUPPORT. What each operation of Machine/Panel.lean touches and keeps. -/

namespace Sys2Proof.Machine

theorem State.recognise_upd {s x1} : Upd 2152202316 s (State.recognise s x1) := by
  unfold State.recognise
  repeat' (first
    | with_reducible exact Upd.refl
    | with_reducible assumption
    | (intro u; refine Upd.cut 2152202316 s u ?_ (fun _ => ?_); subst u; rotate_left; clear_value u; rotate_right)
    | (intro u; clear_value u)
    | lift_lets
    | (with_reducible apply Upd.via; with_reducible apply State.wr_upd; decide)
    | (with_reducible apply Upd.via; with_reducible apply State.addTo_upd; decide)
    | (with_reducible apply Upd.via; with_reducible apply State.flag_upd; decide)
    | (with_reducible apply Upd.via; with_reducible apply State.updPanel_upd; decide)
    | (with_reducible apply Upd.via; with_reducible apply State.advance_upd; decide)
    | (with_reducible apply Upd.via; with_reducible apply State.interrupt_upd; decide)
    | (with_reducible apply Upd.via; with_reducible apply State.trailRec_upd; decide)
    | split)

theorem execPresencePress_upd {s} : UpdO 2152202316 s (execPresencePress s) := by
  unfold execPresencePress
  repeat' (first
    | with_reducible exact Upd.refl
    | (with_reducible apply Upd.via; with_reducible apply State.recognise_upd; decide)
    | with_reducible refine UpdO.mk' ?_
    | split)

theorem State.releaseButton_upd {s x1} : Upd 2152202284 s (State.releaseButton s x1) := by
  unfold State.releaseButton
  repeat' (first
    | with_reducible exact Upd.refl
    | with_reducible assumption
    | (intro u; refine Upd.cut 2152202284 s u ?_ (fun _ => ?_); subst u; rotate_left; clear_value u; rotate_right)
    | lift_lets
    | (with_reducible apply Upd.via; with_reducible apply State.fall_upd; decide)
    | (with_reducible apply Upd.via; with_reducible apply State.flag_upd; decide)
    | (with_reducible apply Upd.via; with_reducible apply State.updPanel_upd; decide)
    | (with_reducible apply Upd.via; with_reducible apply State.advance_upd; decide)
    | split)

theorem execServicePress_upd {x0 s} : UpdO 2152202348 s (execServicePress x0 s) := by
  unfold execServicePress
  repeat' (first
    | with_reducible exact Upd.refl
    | with_reducible assumption
    | (intro u; refine Upd.cut 2152202348 s u ?_ (fun _ => ?_); subst u; rotate_left; clear_value u; rotate_right)
    | lift_lets
    | (with_reducible apply Upd.via; with_reducible apply State.advanceTo_upd; decide)
    | (with_reducible apply Upd.via; with_reducible apply State.interrupt_upd; decide)
    | (with_reducible apply Upd.via; with_reducible apply State.recognise_upd; decide)
    | (with_reducible apply Upd.via; with_reducible apply State.releaseButton_upd; decide)
    | with_reducible refine UpdO.mk' ?_
    | split)

theorem execButtonRelease_upd {x0 x1 s} : UpdO 2152202284 s (execButtonRelease x0 x1 s) := by
  unfold execButtonRelease
  repeat' (first
    | with_reducible exact Upd.refl
    | with_reducible assumption
    | (intro u; refine Upd.cut 2152202284 s u ?_ (fun _ => ?_); subst u; rotate_left; clear_value u; rotate_right)
    | (intro u; clear_value u)
    | lift_lets
    | (with_reducible apply Upd.via; with_reducible apply State.updPanel_upd; decide)
    | (with_reducible apply Upd.via; with_reducible apply State.advanceTo_upd; decide)
    | (with_reducible apply Upd.via; with_reducible apply State.releaseButton_upd; decide)
    | with_reducible refine UpdO.mk' ?_
    | split)

theorem execLongPress_upd {s} : UpdO 2160590924 s (execLongPress s) := by
  unfold execLongPress
  repeat' (first
    | with_reducible exact Upd.refl
    | with_reducible assumption
    | (intro u; refine Upd.cut 2160590924 s u ?_ (fun _ => ?_); subst u; rotate_left; clear_value u; rotate_right)
    | lift_lets
    | (with_reducible apply Upd.via; with_reducible apply State.wr_upd; decide)
    | (with_reducible apply Upd.via; with_reducible apply State.advanceTo_upd; decide)
    | (with_reducible apply Upd.via; with_reducible apply State.recognise_upd; decide)
    | (with_reducible apply Upd.via; with_reducible apply State.sdEnd_upd; decide)
    | (with_reducible apply Upd1.via; with_reducible apply State.eject_upd; decide)
    | with_reducible refine UpdO.mk' ?_
    | split
    | (with_reducible apply Upd.fstOf'; with_reducible assumption))

theorem execPnlStuck_upd {x0 s} : UpdO 2152459884 s (execPnlStuck x0 s) := by
  unfold execPnlStuck
  repeat' (first
    | with_reducible exact Upd.refl
    | with_reducible assumption
    | (intro u; refine Upd.cut 2152459884 s u ?_ (fun _ => ?_); subst u; rotate_left; clear_value u; rotate_right)
    | lift_lets
    | (with_reducible apply Upd.via; with_reducible apply State.raise_upd; decide)
    | (with_reducible apply Upd.via; with_reducible apply State.flag_upd; decide)
    | (with_reducible apply Upd.via; with_reducible apply State.updPanel_upd; decide)
    | (with_reducible apply Upd.via; with_reducible apply State.advanceTo_upd; decide)
    | (with_reducible apply Upd.via; with_reducible apply State.recognise_upd; decide)
    | with_reducible refine UpdO.mk' ?_
    | split)

end Sys2Proof.Machine
end

