-- ==== Sys2Proof/Laws/UpdSession.lean ====
section
/-! SUPPORT. What each operation of Machine/Session.lean touches and keeps. -/

namespace Sys2Proof.Machine

theorem State.countUnacked_upd {s x1} : Upd 536871424 s (State.countUnacked s x1) := by
  unfold State.countUnacked
  repeat' (first
    | with_reducible exact Upd.refl
    | with_reducible assumption
    | (intro u; refine Upd.cut 536871424 s u ?_ (fun _ => ?_); subst u; rotate_left; clear_value u; rotate_right)
    | lift_lets
    | (with_reducible apply Upd.via; with_reducible apply State.sendAck_upd; decide)
    | (with_reducible apply Upd.via; with_reducible apply State.updSession_upd; decide)
    | split)

theorem State.acknowledge_upd {s x1 x2} : Upd 536871424 s (State.acknowledge s x1 x2) := by
  unfold State.acknowledge
  repeat' (first
    | with_reducible exact Upd.refl
    | (with_reducible apply Upd.via; with_reducible apply State.countUnacked_upd; decide)
    | (with_reducible apply Upd.via; with_reducible apply State.updSession_upd; decide))

theorem State.acceptNorth_upd {s x1 x2 x3} : Upd1 536871424 s (State.acceptNorth s x1 x2 x3) := by
  unfold State.acceptNorth
  repeat' (first
    | with_reducible exact Upd.refl
    | with_reducible assumption
    | (intro u; refine Upd.cut 536871424 s u ?_ (fun _ => ?_); subst u; rotate_left; clear_value u; rotate_right)
    | lift_lets
    | (with_reducible apply Upd.via; with_reducible apply State.acknowledge_upd; decide)
    | (with_reducible apply Upd.via; with_reducible apply State.updSession_upd; decide)
    | (with_reducible apply Upd.via; with_reducible apply State.sendFrame_upd; decide)
    | (with_reducible apply Upd.via; with_reducible apply State.status_upd; decide)
    | (with_reducible apply Upd.via; with_reducible apply State.updQueue_upd; decide)
    | (with_reducible apply Upd1.via; with_reducible apply State.takeDatagram_upd; decide)
    | with_reducible refine Upd1.mk' ?_
    | split
    | (with_reducible apply Upd.fstOf'; with_reducible assumption))

theorem State.freeQueueCtx_upd {s x1} : Upd 512 s (State.freeQueueCtx s x1) := by
  unfold State.freeQueueCtx
  repeat' (first
    | with_reducible exact Upd.refl
    | (with_reducible apply Upd.via; with_reducible apply State.updQueue_upd; decide))

theorem State.detachQueue_upd {s x1} : Upd 536871424 s (State.detachQueue s x1) := by
  unfold State.detachQueue
  repeat' (first
    | with_reducible exact Upd.refl
    | (with_reducible apply Upd.via; with_reducible apply State.freeQueueCtx_upd; decide)
    | (with_reducible apply Upd.via; with_reducible apply State.setQueue_upd; decide)
    | (with_reducible apply Upd.via; with_reducible apply State.pump_upd; decide)
    | split)

theorem State.closeSession_upd {s x1 x2} : Upd 536968808 s (State.closeSession s x1 x2) := by
  unfold State.closeSession
  repeat' (first
    | with_reducible exact Upd.refl
    | with_reducible assumption
    | (intro u; refine Upd.cut 536968808 s u ?_ (fun _ => ?_); subst u; rotate_left; clear_value u; rotate_right)
    | (intro u; clear_value u)
    | lift_lets
    | with_reducible refine Upd.foldl ?_ (fun _ _ _ => ?_)
    | (with_reducible apply Upd.via; with_reducible apply State.detachQueue_upd; decide)
    | (with_reducible apply Upd.via; with_reducible apply State.updSession_upd; decide)
    | (with_reducible apply Upd.via; with_reducible apply State.abortObject_upd; decide)
    | split)

theorem State.takeSessionId_upd {s} : Upd2 1073742336 s (State.takeSessionId s) := by
  unfold State.takeSessionId
  repeat' (first
    | with_reducible exact Upd.refl
    | lift_lets
    | (with_reducible apply Upd.via; with_reducible apply Upd.snd State.draw_upd; decide)
    | (with_reducible apply Upd.via; with_reducible apply State.updQueue_upd; decide)
    | with_reducible refine Upd2.mk' ?_
    | split)

theorem State.sendHello_upd {s x1 x2 x3 x4 x5} : Upd 536871424 s (State.sendHello s x1 x2 x3 x4 x5) := by
  unfold State.sendHello
  repeat' (first
    | with_reducible exact Upd.refl
    | with_reducible assumption
    | (intro u; refine Upd.cut 536871424 s u ?_ (fun _ => ?_); subst u; rotate_left; clear_value u; rotate_right)
    | (intro u; clear_value u)
    | lift_lets
    | with_reducible refine Upd.fst (Upd1.foldl ?_ (fun _ _ _ => ?_))
    | (with_reducible apply Upd.via; with_reducible apply State.sendFrame_upd; decide)
    | (with_reducible apply Upd.via; with_reducible apply State.sendPlain_upd; decide)
    | with_reducible refine Upd1.mk' ?_
    | with_reducible exact Upd.fst (by assumption))

theorem State.beginSession_upd {s x1 x2 x3 x4 x5 x6 x7 x8 x9} : Upd 1610613248 s (State.beginSession s x1 x2 x3 x4 x5 x6 x7 x8 x9) := by
  unfold State.beginSession
  repeat' (first
    | with_reducible exact Upd.refl
    | lift_lets
    | (with_reducible apply Upd.via; with_reducible apply Upd.snd State.deviceAuth_upd; decide)
    | (with_reducible apply Upd.via; with_reducible apply Upd.snd State.takeSessionId_upd; decide)
    | (with_reducible apply Upd.via; with_reducible apply State.sendHello_upd; decide)
    | (with_reducible apply Upd.via; with_reducible apply State.setSession_upd; decide))

theorem State.takeHello_upd {s x1 x2 x3 x4} : Upd 1610613248 s (State.takeHello s x1 x2 x3 x4) := by
  unfold State.takeHello
  repeat' (first
    | with_reducible exact Upd.refl
    | lift_lets
    | split
    | (with_reducible apply Upd.via; with_reducible apply State.sendHello_upd; decide)
    | (with_reducible apply Upd.via; with_reducible apply State.beginSession_upd; decide)
    | (with_reducible apply Upd.via; with_reducible apply State.sendPlain_upd; decide)
    | (with_reducible apply Upd2.via; with_reducible apply State.share_upd; decide)
    | (with_reducible apply Upd.sndOf'; with_reducible assumption))

theorem execClientHello_upd {x0 x1 s} : UpdO 1610613248 s (execClientHello x0 x1 s) := by
  unfold execClientHello
  dsimp only
  repeat' (first
    | with_reducible exact Upd.refl
    | split
    | (with_reducible apply Upd.via; with_reducible apply State.takeHello_upd; decide)
    | (with_reducible apply Upd.via; with_reducible apply State.updQueue_upd; decide)
    | (with_reducible apply Upd1.via; with_reducible apply State.takeDatagram_upd; decide)
    | with_reducible refine UpdO.mk' ?_
    | (with_reducible apply Upd.fstOf'; with_reducible assumption))

theorem execClientHelloSegmentTimeout_upd {x0 s} : UpdO 2148008452 s (execClientHelloSegmentTimeout x0 s) := by
  unfold execClientHelloSegmentTimeout
  repeat' (first
    | with_reducible exact Upd.refl
    | (with_reducible apply Upd.via; with_reducible apply State.advanceTo_upd; decide)
    | (with_reducible apply Upd.via; with_reducible apply State.updQueue_upd; decide)
    | with_reducible refine UpdO.mk' ?_
    | split)

theorem execAuth_upd {x0 x1 x2 s} : UpdO 536968808 s (execAuth x0 x1 x2 s) := by
  unfold execAuth
  repeat' (first
    | with_reducible exact Upd.refl
    | with_reducible assumption
    | (intro u; refine Upd.cut 536968808 s u ?_ (fun _ => ?_); subst u; rotate_left; clear_value u; rotate_right)
    | (intro u; clear_value u)
    | lift_lets
    | (with_reducible apply Upd.via; with_reducible apply State.closeSession_upd; decide)
    | (with_reducible apply Upd.via; with_reducible apply State.setSession_upd; decide)
    | (with_reducible apply Upd.via; with_reducible apply State.updSession_upd; decide)
    | (with_reducible apply Upd.via; with_reducible apply State.sendFrame_upd; decide)
    | (with_reducible apply Upd.via; with_reducible apply State.status_upd; decide)
    | (with_reducible apply Upd1.via; with_reducible apply State.acceptNorth_upd; decide)
    | with_reducible refine UpdO.mk' ?_
    | split
    | (with_reducible apply Upd.fstOf'; with_reducible assumption))

theorem execAuthWaitTimeout_upd {x0 s} : UpdO 2684976748 s (execAuthWaitTimeout x0 s) := by
  unfold execAuthWaitTimeout
  repeat' (first
    | with_reducible exact Upd.refl
    | (with_reducible apply Upd.via; with_reducible apply State.advanceTo_upd; decide)
    | (with_reducible apply Upd.via; with_reducible apply State.closeSession_upd; decide)
    | with_reducible refine UpdO.mk' ?_
    | split)

theorem execKeyUpdate_upd {x0 s} : UpdO 536871424 s (execKeyUpdate x0 s) := by
  unfold execKeyUpdate
  repeat' (first
    | with_reducible exact Upd.refl
    | lift_lets
    | (with_reducible apply Upd.via; with_reducible apply State.setSession_upd; decide)
    | (with_reducible apply Upd1.via; with_reducible apply State.acceptNorth_upd; decide)
    | with_reducible refine UpdO.mk' ?_
    | split
    | (with_reducible apply Upd.fstOf'; with_reducible assumption))

theorem execPrevKeyErase_upd {x0 x1 s} : UpdO 2215133700 s (execPrevKeyErase x0 x1 s) := by
  unfold execPrevKeyErase
  repeat' (first
    | with_reducible exact Upd.refl
    | (with_reducible apply Upd.via; with_reducible apply State.updSmilia_upd; decide)
    | (with_reducible apply Upd.via; with_reducible apply State.advanceTo_upd; decide)
    | (with_reducible apply Upd.via; with_reducible apply State.updSession_upd; decide)
    | (with_reducible apply Upd.via; with_reducible apply State.updAssoc_upd; decide)
    | with_reducible refine UpdO.mk' ?_
    | split)

theorem execClose_upd {x0 s} : UpdO 536968808 s (execClose x0 s) := by
  unfold execClose
  repeat' (first
    | with_reducible exact Upd.refl
    | lift_lets
    | (with_reducible apply Upd.via; with_reducible apply Upd.fst State.acceptNorth_upd; decide)
    | (with_reducible apply Upd.via; with_reducible apply State.closeSession_upd; decide)
    | (with_reducible apply Upd.via; with_reducible apply State.sendFrame_upd; decide)
    | with_reducible refine UpdO.mk' ?_
    | split
    | dsimp only)

theorem execCloseAck_upd {x0 s} : UpdO 536968808 s (execCloseAck x0 s) := by
  unfold execCloseAck
  repeat' (first
    | with_reducible exact Upd.refl
    | lift_lets
    | (with_reducible apply Upd.via; with_reducible apply State.closeSession_upd; decide)
    | (with_reducible apply Upd1.via; with_reducible apply State.acceptNorth_upd; decide)
    | with_reducible refine UpdO.mk' ?_
    | split
    | (with_reducible apply Upd.fstOf'; with_reducible assumption))

theorem execKeepalive_upd {x0 s} : UpdO 536871424 s (execKeepalive x0 s) := by
  unfold execKeepalive
  repeat' (first
    | with_reducible exact Upd.refl
    | (with_reducible apply Upd.via; with_reducible apply Upd.fst State.acceptNorth_upd; decide)
    | with_reducible refine UpdO.mk' ?_)

theorem execReset_upd {x0 s} : UpdO 536968808 s (execReset x0 s) := by
  unfold execReset
  repeat' (first
    | with_reducible exact Upd.refl
    | lift_lets
    | (with_reducible apply Upd.via; with_reducible apply State.closeSession_upd; decide)
    | (with_reducible apply Upd1.via; with_reducible apply State.acceptNorth_upd; decide)
    | with_reducible refine UpdO.mk' ?_
    | split
    | (with_reducible apply Upd.fstOf'; with_reducible assumption))

theorem execSessionIdleTimeout_upd {x0 s} : UpdO 2684976748 s (execSessionIdleTimeout x0 s) := by
  unfold execSessionIdleTimeout
  repeat' (first
    | with_reducible exact Upd.refl
    | (with_reducible apply Upd.via; with_reducible apply State.advanceTo_upd; decide)
    | (with_reducible apply Upd.via; with_reducible apply State.closeSession_upd; decide)
    | with_reducible refine UpdO.mk' ?_
    | split)

theorem execSessionRelease_upd {x0 s} : UpdO 2685107948 s (execSessionRelease x0 s) := by
  unfold execSessionRelease
  repeat' (first
    | with_reducible exact Upd.refl
    | with_reducible assumption
    | (intro u; refine Upd.cut 2685107948 s u ?_ (fun _ => ?_); subst u; rotate_left; clear_value u; rotate_right)
    | lift_lets
    | with_reducible refine Upd.foldl ?_ (fun _ _ _ => ?_)
    | (with_reducible apply Upd.via; with_reducible apply State.endRestore_upd; decide)
    | (with_reducible apply Upd.via; with_reducible apply State.advanceTo_upd; decide)
    | (with_reducible apply Upd.via; with_reducible apply State.updQueue_upd; decide)
    | (with_reducible apply Upd.via; with_reducible apply State.updSouth_upd; decide)
    | with_reducible refine UpdO.mk' ?_
    | split)

theorem State.restoreAcked_upd {s x1 x2} : Upd 229096 s (State.restoreAcked s x1 x2) := by
  unfold State.restoreAcked
  dsimp only
  repeat' (first
    | with_reducible exact Upd.refl
    | (with_reducible apply Upd.via; with_reducible apply State.dropRestore_upd; decide)
    | (with_reducible apply Upd.via; with_reducible apply State.updSouth_upd; decide)
    | split)

theorem execAck_upd {x0 s} : UpdO 537132776 s (execAck x0 s) := by
  unfold execAck
  repeat' (first
    | with_reducible exact Upd.refl
    | with_reducible assumption
    | (intro u; refine Upd.cut 537132776 s u ?_ (fun _ => ?_); subst u; rotate_left; clear_value u; rotate_right)
    | (intro u; clear_value u)
    | lift_lets
    | with_reducible refine Upd.foldl ?_ (fun _ _ _ => ?_)
    | (with_reducible apply Upd.via; with_reducible apply State.resendFrame_upd; decide)
    | (with_reducible apply Upd.via; with_reducible apply State.pumpRestores_upd; decide)
    | (with_reducible apply Upd.via; with_reducible apply State.restoreAcked_upd; decide)
    | (with_reducible apply Upd.via; with_reducible apply State.setSession_upd; decide)
    | (with_reducible apply Upd.via; with_reducible apply State.updQueue_upd; decide)
    | (with_reducible apply Upd1.via; with_reducible apply State.acceptNorth_upd; decide)
    | with_reducible refine UpdO.mk' ?_
    | split
    | (with_reducible apply Upd.fstOf'; with_reducible assumption))

theorem execAckDelayTimer_upd {x0 x1 s} : UpdO 2684895748 s (execAckDelayTimer x0 x1 s) := by
  unfold execAckDelayTimer
  repeat' (first
    | with_reducible exact Upd.refl
    | (with_reducible apply Upd.via; with_reducible apply State.advanceTo_upd; decide)
    | (with_reducible apply Upd.via; with_reducible apply State.sendAck_upd; decide)
    | (with_reducible apply Upd.via; with_reducible apply State.sendSouthAck_upd; decide)
    | with_reducible refine UpdO.mk' ?_
    | split)

theorem execRtoExpiry_upd {x0 x1 s} : UpdO 2684879364 s (execRtoExpiry x0 x1 s) := by
  unfold execRtoExpiry
  repeat' (first
    | with_reducible exact Upd.refl
    | with_reducible assumption
    | (intro u; refine Upd.cut 2684879364 s u ?_ (fun _ => ?_); subst u; rotate_left; clear_value u; rotate_right)
    | (intro u; clear_value u)
    | lift_lets
    | (with_reducible apply Upd.via; with_reducible apply State.advanceTo_upd; decide)
    | (with_reducible apply Upd.via; with_reducible apply State.resendFrame_upd; decide)
    | (with_reducible apply Upd.via; with_reducible apply State.failPath_upd; decide)
    | (with_reducible apply Upd.via; with_reducible apply State.updSession_upd; decide)
    | with_reducible refine UpdO.mk' ?_
    | split)

theorem execPathReprobe_upd {x0 x1 x2 s} : UpdO 2684895748 s (execPathReprobe x0 x1 x2 s) := by
  unfold execPathReprobe
  dsimp only
  repeat' (first
    | with_reducible exact Upd.refl
    | (with_reducible apply Upd.via; with_reducible apply State.advanceTo_upd; decide)
    | (with_reducible apply Upd.via; with_reducible apply State.updSession_upd; decide)
    | (with_reducible apply Upd.via; with_reducible apply State.sendOn_upd; decide)
    | (with_reducible apply Upd.via; with_reducible apply State.updAssoc_upd; decide)
    | (with_reducible apply Upd.via; with_reducible apply State.sendSouthOn_upd; decide)
    | with_reducible refine UpdO.mk' ?_
    | split)

theorem State.northUp_upd {s x1} : Upd 544 s (State.northUp s x1) := by
  unfold State.northUp
  repeat' (first
    | with_reducible exact Upd.refl
    | (with_reducible apply Upd.via; with_reducible apply State.fall_upd; decide)
    | (with_reducible apply Upd.via; with_reducible apply State.closeWindows_upd; decide)
    | (with_reducible apply Upd.via; with_reducible apply State.updQueue_upd; decide)
    | split)

theorem execPathProbe_upd {x0 x1 s} : UpdO 536871456 s (execPathProbe x0 x1 s) := by
  unfold execPathProbe
  repeat' (first
    | with_reducible exact Upd.refl
    | (with_reducible apply Upd.via; with_reducible apply Upd.fst State.acceptNorth_upd; decide)
    | (with_reducible apply Upd.via; with_reducible apply State.northUp_upd; decide)
    | (with_reducible apply Upd.via; with_reducible apply State.updSession_upd; decide)
    | with_reducible refine UpdO.mk' ?_
    | split)

theorem execPathAdd_upd {x0 s} : UpdO 536871424 s (execPathAdd x0 s) := by
  unfold execPathAdd
  repeat' (first
    | with_reducible exact Upd.refl
    | lift_lets
    | (with_reducible apply Upd.via; with_reducible apply Upd.fst State.acceptNorth_upd; decide)
    | (with_reducible apply Upd.via; with_reducible apply State.setSession_upd; decide)
    | (with_reducible apply Upd.via; with_reducible apply State.sendOn_upd; decide)
    | (with_reducible apply Upd.via; with_reducible apply State.status_upd; decide)
    | with_reducible refine UpdO.mk' ?_
    | split
    | dsimp only)

theorem execNorthPathFault_upd {x0 s} : UpdO 537128552 s (execNorthPathFault x0 s) := by
  unfold execNorthPathFault
  repeat' (first
    | with_reducible exact Upd.refl
    | with_reducible assumption
    | (intro u; refine Upd.cut 537128552 s u ?_ (fun _ => ?_); subst u; rotate_left; clear_value u; rotate_right)
    | lift_lets
    | with_reducible refine Upd.foldl ?_ (fun _ _ _ => ?_)
    | (with_reducible apply Upd.via; with_reducible apply State.raise_upd; decide)
    | (with_reducible apply Upd.via; with_reducible apply State.failPaths_upd; decide)
    | (with_reducible apply Upd.via; with_reducible apply State.updQueue_upd; decide)
    | with_reducible refine UpdO.mk' ?_
    | split)

theorem execKeepaliveTimer_upd {x0 s} : UpdO 2684879364 s (execKeepaliveTimer x0 s) := by
  unfold execKeepaliveTimer
  repeat' (first
    | with_reducible exact Upd.refl
    | (with_reducible apply Upd.via; with_reducible apply State.advanceTo_upd; decide)
    | (with_reducible apply Upd.via; with_reducible apply State.sendFrame_upd; decide)
    | with_reducible refine UpdO.mk' ?_
    | split)

end Sys2Proof.Machine
end

