-- ==== Sys2Proof/Laws/UpdQueue.lean ====
section
/-! SUPPORT. What each operation of Machine/Queue.lean touches and keeps. -/

namespace Sys2Proof.Machine

theorem State.sendOpened_upd {s x1 x2 x3 x4} : Upd 536871424 s (State.sendOpened s x1 x2 x3 x4) := by
  unfold State.sendOpened
  repeat' (first
    | with_reducible exact Upd.refl
    | (with_reducible apply Upd.via; with_reducible apply State.sendFrame_upd; decide))

theorem State.resumeQueue_upd {s x1 x2 x3 x4 x5} : Upd 536871424 s (State.resumeQueue s x1 x2 x3 x4 x5) := by
  unfold State.resumeQueue
  repeat' (first
    | with_reducible exact Upd.refl
    | (intro u; clear_value u)
    | lift_lets
    | (with_reducible apply Upd.via; with_reducible apply State.sendOpened_upd; decide)
    | (with_reducible apply Upd.via; with_reducible apply State.status_upd; decide)
    | (with_reducible apply Upd.via; with_reducible apply State.setQueue_upd; decide)
    | (with_reducible apply Upd.via; with_reducible apply State.pump_upd; decide)
    | split)

theorem State.newQueue_upd {s x1 x2 x3 x4 x5 x6} : Upd 1610613248 s (State.newQueue s x1 x2 x3 x4 x5 x6) := by
  unfold State.newQueue
  repeat' (first
    | with_reducible exact Upd.refl
    | lift_lets
    | (with_reducible apply Upd.via; with_reducible apply Upd.snd State.draw_upd; decide)
    | (with_reducible apply Upd.via; with_reducible apply State.sendOpened_upd; decide)
    | (with_reducible apply Upd.via; with_reducible apply State.setQueue_upd; decide))

theorem execQueueOpen_upd {x0 s} : UpdO 1610613248 s (execQueueOpen x0 s) := by
  unfold execQueueOpen
  dsimp only
  repeat' (first
    | with_reducible exact Upd.refl
    | (with_reducible apply Upd.via; with_reducible apply State.resumeQueue_upd; decide)
    | (with_reducible apply Upd.via; with_reducible apply State.newQueue_upd; decide)
    | (with_reducible apply Upd.via; with_reducible apply Upd.fst State.acceptNorth_upd; decide)
    | (with_reducible apply Upd.via; with_reducible apply State.status_upd; decide)
    | with_reducible refine UpdO.mk' ?_
    | split)

theorem State.noQueueStatus_upd {s x1 x2} : Upd 536871424 s (State.noQueueStatus s x1 x2) := by
  unfold State.noQueueStatus
  repeat' (first
    | with_reducible exact Upd.refl
    | (with_reducible apply Upd.via; with_reducible apply State.status_upd; decide))

theorem execQueueClose_upd {x0 s} : UpdO 536871424 s (execQueueClose x0 s) := by
  unfold execQueueClose
  repeat' (first
    | with_reducible exact Upd.refl
    | lift_lets
    | split
    | (with_reducible apply Upd.via; with_reducible apply State.noQueueStatus_upd; decide)
    | (with_reducible apply Upd.via; with_reducible apply State.detachQueue_upd; decide)
    | (with_reducible apply Upd.via; with_reducible apply State.sendFrame_upd; decide)
    | (with_reducible apply Upd.via; with_reducible apply State.status_upd; decide)
    | (with_reducible apply Upd1.via; with_reducible apply State.acceptNorth_upd; decide)
    | with_reducible refine UpdO.mk' ?_
    | (with_reducible apply Upd.fstOf'; with_reducible assumption))

theorem State.takeCounter_upd {s x1} : Upd2 262656 s (State.takeCounter s x1) := by
  unfold State.takeCounter
  repeat' (first
    | with_reducible exact Upd.refl
    | lift_lets
    | (with_reducible apply Upd.via; with_reducible apply State.updQueue_upd; decide)
    | (with_reducible apply Upd.via; with_reducible apply State.journal_upd; decide)
    | with_reducible refine Upd2.mk' ?_
    | split)

theorem execObjBegin_upd {x0 s} : UpdO 537133568 s (execObjBegin x0 s) := by
  unfold execObjBegin
  repeat' (first
    | with_reducible exact Upd.refl
    | (intro u; clear_value u)
    | lift_lets
    | (with_reducible apply Upd.via; with_reducible apply State.noQueueStatus_upd; decide)
    | (with_reducible apply Upd.via; with_reducible apply Upd.snd State.takeCounter_upd; decide)
    | (with_reducible apply Upd.via; with_reducible apply State.sendFrame_upd; decide)
    | (with_reducible apply Upd.via; with_reducible apply State.status_upd; decide)
    | (with_reducible apply Upd.via; with_reducible apply State.setQueue_upd; decide)
    | (with_reducible apply Upd.via; with_reducible apply State.setObject_upd; decide)
    | (with_reducible apply Upd1.via; with_reducible apply State.acceptNorth_upd; decide)
    | with_reducible refine UpdO.mk' ?_
    | split
    | (with_reducible apply Upd.fstOf'; with_reducible assumption))

theorem State.noteFill_upd {s x1 x2 x3} : Upd 512 s (State.noteFill s x1 x2 x3) := by
  unfold State.noteFill
  repeat' (first
    | with_reducible exact Upd.refl
    | (with_reducible apply Upd.via; with_reducible apply State.setQueue_upd; decide)
    | split)

theorem State.noteArrival_upd {s x1 x2 x3 x4} : Upd 512 s (State.noteArrival s x1 x2 x3 x4) := by
  unfold State.noteArrival
  repeat' (first
    | with_reducible exact Upd.refl
    | with_reducible assumption
    | (intro u; refine Upd.cut 512 s u ?_ (fun _ => ?_); subst u; rotate_left; clear_value u; rotate_right)
    | (intro u; clear_value u)
    | lift_lets
    | with_reducible refine Upd.foldl ?_ (fun _ _ _ => ?_)
    | (with_reducible apply Upd.via; with_reducible apply State.noteFill_upd; decide)
    | (with_reducible apply Upd.via; with_reducible apply State.setExtent_upd; decide)
    | split)

theorem State.exceeded_upd {s x1 x2 x3} : Upd 536871424 s (State.exceeded s x1 x2 x3) := by
  unfold State.exceeded
  repeat' (first
    | with_reducible exact Upd.refl
    | with_reducible assumption
    | (intro u; refine Upd.cut 536871424 s u ?_ (fun _ => ?_); subst u; rotate_left; clear_value u; rotate_right)
    | (intro u; clear_value u)
    | lift_lets
    | (with_reducible apply Upd.via; with_reducible apply State.status_upd; decide)
    | (with_reducible apply Upd.via; with_reducible apply State.setQueue_upd; decide)
    | (with_reducible apply Upd.via; with_reducible apply State.updQueue_upd; decide)
    | split)

theorem execData_upd {x0 s} : UpdO 536871424 s (execData x0 s) := by
  unfold execData
  repeat' (first
    | with_reducible exact Upd.refl
    | with_reducible assumption
    | (intro u; refine Upd.cut 536871424 s u ?_ (fun _ => ?_); subst u; rotate_left; clear_value u; rotate_right)
    | (intro u; clear_value u)
    | lift_lets
    | (with_reducible apply Upd.via; with_reducible apply State.noQueueStatus_upd; decide)
    | (with_reducible apply Upd.via; with_reducible apply State.noteArrival_upd; decide)
    | (with_reducible apply Upd.via; with_reducible apply State.exceeded_upd; decide)
    | (with_reducible apply Upd.via; with_reducible apply State.acknowledge_upd; decide)
    | (with_reducible apply Upd.via; with_reducible apply State.setQueue_upd; decide)
    | (with_reducible apply Upd.via; with_reducible apply State.updQueue_upd; decide)
    | (with_reducible apply Upd1.via; with_reducible apply State.acceptNorth_upd; decide)
    | with_reducible refine UpdO.mk' ?_
    | split
    | (with_reducible apply Upd.fstOf'; with_reducible assumption))

theorem State.cutRunning_upd {s x1 x2 x3} : Upd 95752 s (State.cutRunning s x1 x2 x3) := by
  unfold State.cutRunning
  repeat' (first
    | with_reducible exact Upd.refl
    | with_reducible assumption
    | (intro u; clear_value u)
    | lift_lets
    | with_reducible refine Upd.foldl ?_ (fun _ _ _ => ?_)
    | (with_reducible apply Upd.via; with_reducible apply State.subAlloc_upd; decide)
    | (with_reducible apply Upd.via; with_reducible apply State.subPending_upd; decide)
    | (with_reducible apply Upd.via; with_reducible apply State.dropCtx_upd; decide)
    | (with_reducible apply Upd.via; with_reducible apply State.updStitch_upd; decide)
    | (with_reducible apply Upd.via; with_reducible apply State.setExtent_upd; decide)
    | split)

theorem State.cutExtents_upd {s x1 x2 x3} : Upd 536968808 s (State.cutExtents s x1 x2 x3) := by
  unfold State.cutExtents
  repeat' (first
    | with_reducible exact Upd.refl
    | with_reducible assumption
    | (intro u; refine Upd.cut 536968808 s u ?_ (fun _ => ?_); subst u; rotate_left; clear_value u; rotate_right)
    | (intro u; clear_value u)
    | lift_lets
    | with_reducible refine Upd.foldl ?_ (fun _ _ _ => ?_)
    | (with_reducible apply Upd.via; with_reducible apply State.noteFill_upd; decide)
    | (with_reducible apply Upd.via; with_reducible apply State.cutRunning_upd; decide)
    | (with_reducible apply Upd.via; with_reducible apply State.abortExtent_upd; decide)
    | (with_reducible apply Upd.via; with_reducible apply State.updQueue_upd; decide)
    | (with_reducible apply Upd.via; with_reducible apply State.updExtent_upd; decide)
    | split)

theorem execObjEnd_upd {x0 s} : UpdO 536968808 s (execObjEnd x0 s) := by
  unfold execObjEnd
  repeat' (first
    | with_reducible exact Upd.refl
    | with_reducible assumption
    | (intro u; refine Upd.cut 536968808 s u ?_ (fun _ => ?_); subst u; rotate_left; clear_value u; rotate_right)
    | (intro u; clear_value u)
    | lift_lets
    | (with_reducible apply Upd.via; with_reducible apply State.settleObject_upd; decide)
    | (with_reducible apply Upd.via; with_reducible apply State.noQueueStatus_upd; decide)
    | (with_reducible apply Upd.via; with_reducible apply State.cutExtents_upd; decide)
    | (with_reducible apply Upd.via; with_reducible apply State.status_upd; decide)
    | (with_reducible apply Upd.via; with_reducible apply State.setQueue_upd; decide)
    | (with_reducible apply Upd.via; with_reducible apply State.pump_upd; decide)
    | (with_reducible apply Upd.via; with_reducible apply State.abortObject_upd; decide)
    | (with_reducible apply Upd.via; with_reducible apply State.setObject_upd; decide)
    | (with_reducible apply Upd1.via; with_reducible apply State.acceptNorth_upd; decide)
    | with_reducible refine UpdO.mk' ?_
    | split
    | (with_reducible apply Upd.fstOf'; with_reducible assumption))

theorem execObjAbort_upd {x0 s} : UpdO 536968808 s (execObjAbort x0 s) := by
  unfold execObjAbort
  repeat' (first
    | with_reducible exact Upd.refl
    | (intro u; clear_value u)
    | lift_lets
    | (with_reducible apply Upd.via; with_reducible apply State.noQueueStatus_upd; decide)
    | (with_reducible apply Upd.via; with_reducible apply State.status_upd; decide)
    | (with_reducible apply Upd.via; with_reducible apply State.abortObject_upd; decide)
    | (with_reducible apply Upd1.via; with_reducible apply State.acceptNorth_upd; decide)
    | with_reducible refine UpdO.mk' ?_
    | split
    | (with_reducible apply Upd.fstOf'; with_reducible assumption))

theorem execCreditGrant_upd {x0 x1 s} : UpdO 536871424 s (execCreditGrant x0 x1 s) := by
  unfold execCreditGrant
  repeat' (first
    | with_reducible exact Upd.refl
    | with_reducible assumption
    | (intro u; refine Upd.cut 536871424 s u ?_ (fun _ => ?_); subst u; rotate_left; clear_value u; rotate_right)
    | (intro u; clear_value u)
    | lift_lets
    | (with_reducible apply Upd.via; with_reducible apply State.sendFrame_upd; decide)
    | (with_reducible apply Upd.via; with_reducible apply State.setQueue_upd; decide)
    | (with_reducible apply Upd.via; with_reducible apply State.updQueue_upd; decide)
    | (with_reducible apply Upd.via; with_reducible apply State.setExtent_upd; decide)
    | (with_reducible apply Upd.via; with_reducible apply State.setObject_upd; decide)
    | with_reducible refine UpdO.mk' ?_
    | split)

theorem execQueueIdleTimeout_upd {x0 s} : UpdO 2684976748 s (execQueueIdleTimeout x0 s) := by
  unfold execQueueIdleTimeout
  repeat' (first
    | with_reducible exact Upd.refl
    | (with_reducible apply Upd.via; with_reducible apply State.advanceTo_upd; decide)
    | (with_reducible apply Upd.via; with_reducible apply State.abortObject_upd; decide)
    | with_reducible refine UpdO.mk' ?_
    | split)

theorem execReceiptHoldExpiry_upd {x0 s} : UpdO 2148008452 s (execReceiptHoldExpiry x0 s) := by
  unfold execReceiptHoldExpiry
  repeat' (first
    | with_reducible exact Upd.refl
    | (with_reducible apply Upd.via; with_reducible apply State.advanceTo_upd; decide)
    | (with_reducible apply Upd.via; with_reducible apply State.freeQueueCtx_upd; decide)
    | with_reducible refine UpdO.mk' ?_
    | split)

theorem execReceiptGet_upd {x0 s} : UpdO 537132776 s (execReceiptGet x0 s) := by
  unfold execReceiptGet
  repeat' (first
    | with_reducible exact Upd.refl
    | (intro u; clear_value u)
    | lift_lets
    | (with_reducible apply Upd.via; with_reducible apply State.serve_upd; decide)
    | (with_reducible apply Upd.via; with_reducible apply State.status_upd; decide)
    | (with_reducible apply Upd1.via; with_reducible apply State.acceptNorth_upd; decide)
    | with_reducible refine UpdO.mk' ?_
    | split
    | (with_reducible apply Upd.fstOf'; with_reducible assumption))

theorem execEpochGet_upd {x0 s} : UpdO 537132776 s (execEpochGet x0 s) := by
  unfold execEpochGet
  repeat' (first
    | with_reducible exact Upd.refl
    | lift_lets
    | (with_reducible apply Upd.via; with_reducible apply State.serve_upd; decide)
    | (with_reducible apply Upd.via; with_reducible apply State.status_upd; decide)
    | (with_reducible apply Upd1.via; with_reducible apply State.acceptNorth_upd; decide)
    | with_reducible refine UpdO.mk' ?_
    | split
    | (with_reducible apply Upd.fstOf'; with_reducible assumption))

theorem execRestoreReq_upd {x0 s} : UpdO 537132776 s (execRestoreReq x0 s) := by
  unfold execRestoreReq
  repeat' (first
    | with_reducible exact Upd.refl
    | (intro u; clear_value u)
    | lift_lets
    | (with_reducible apply Upd.via; with_reducible apply State.restoreBegin_upd; decide)
    | (with_reducible apply Upd.via; with_reducible apply State.serve_upd; decide)
    | (with_reducible apply Upd.via; with_reducible apply State.status_upd; decide)
    | (with_reducible apply Upd1.via; with_reducible apply State.acceptNorth_upd; decide)
    | with_reducible refine UpdO.mk' ?_
    | split
    | (with_reducible apply Upd.fstOf'; with_reducible assumption))

theorem execCredit_upd {x0 s} : UpdO 536887808 s (execCredit x0 s) := by
  unfold execCredit
  repeat' (first
    | with_reducible exact Upd.refl
    | (intro u; clear_value u)
    | lift_lets
    | (with_reducible apply Upd.via; with_reducible apply State.status_upd; decide)
    | (with_reducible apply Upd.via; with_reducible apply State.updSouth_upd; decide)
    | (with_reducible apply Upd1.via; with_reducible apply State.acceptNorth_upd; decide)
    | with_reducible refine UpdO.mk' ?_
    | split
    | (with_reducible apply Upd.fstOf'; with_reducible assumption))

end Sys2Proof.Machine
end

