-- ==== Sys2Proof/Laws/UpdStartup.lean ====
section
/-! SUPPORT. What each operation of Machine/Startup.lean touches and keeps. -/

namespace Sys2Proof.Machine

theorem State.resumeRotation_upd {s} : Upd 294912 s (State.resumeRotation s) := by
  unfold State.resumeRotation
  repeat' (first
    | with_reducible exact Upd.refl
    | (with_reducible apply Upd.via; with_reducible apply State.setInactive_upd; decide)
    | (with_reducible apply Upd.via; with_reducible apply State.rewrapAll_upd; decide)
    | (with_reducible apply Upd.via; with_reducible apply State.commitRotation_upd; decide)
    | (with_reducible apply Upd.via; with_reducible apply State.updKeys_upd; decide)
    | split)

theorem State.reachHeel_upd {s x1} : Upd 68157039 s (State.reachHeel s x1) := by
  unfold State.reachHeel
  repeat' (first
    | with_reducible exact Upd.refl
    | with_reducible assumption
    | (intro u; refine Upd.cut 68157039 s u ?_ (fun _ => ?_); subst u; rotate_left; clear_value u; rotate_right)
    | (intro u; clear_value u)
    | lift_lets
    | with_reducible refine Upd.foldl ?_ (fun _ _ _ => ?_)
    | split
    | (with_reducible apply Upd.via; with_reducible apply State.raise_upd; decide)
    | (with_reducible apply Upd.via; with_reducible apply State.applySaved_upd; decide)
    | (with_reducible apply Upd.via; with_reducible apply State.takeAddr_upd; decide)
    | (with_reducible apply Upd.via; with_reducible apply State.enterService_upd; decide)
    | (with_reducible apply Upd.via; with_reducible apply State.stateRecord_upd; decide)
    | (with_reducible apply Upd.via; with_reducible apply State.resumeRotation_upd; decide)
    | (with_reducible apply Upd.via; with_reducible apply State.updShepherd_upd; decide)
    | (with_reducible apply Upd.via; with_reducible apply State.updPack_upd; decide)
    | (with_reducible apply Upd.via; with_reducible apply State.updKeys_upd; decide)
    | (with_reducible apply Upd.via; with_reducible apply State.setSpg_upd; decide)
    | (with_reducible apply Upd.via; with_reducible apply State.setAwl_upd; decide)
    | (with_reducible apply Upd.via; with_reducible apply State.stopAwl_upd; decide))

theorem State.bootUnits_upd {s x1} : Upd 2150367340 s (State.bootUnits s x1) := by
  unfold State.bootUnits
  repeat' (first
    | with_reducible exact Upd.refl
    | with_reducible assumption
    | (intro u; refine Upd.cut 2150367340 s u ?_ (fun _ => ?_); subst u; rotate_left; clear_value u; rotate_right)
    | lift_lets
    | with_reducible refine Upd.foldl ?_ (fun _ _ _ => ?_)
    | (with_reducible apply Upd.via; with_reducible apply State.recoverIntents_upd; decide)
    | (with_reducible apply Upd.via; with_reducible apply State.wr_upd; decide)
    | (with_reducible apply Upd.via; with_reducible apply State.flag_upd; decide)
    | (with_reducible apply Upd.via; with_reducible apply State.updCollector_upd; decide)
    | (with_reducible apply Upd.via; with_reducible apply State.advance_upd; decide)
    | (with_reducible apply Upd.via; with_reducible apply State.updReader_upd; decide)
    | split)

theorem State.bootImage_upd {s x1 x2 x3} : Upd 17203592 s (State.bootImage s x1 x2 x3) := by
  unfold State.bootImage
  repeat' (first
    | with_reducible exact Upd.refl
    | with_reducible assumption
    | (intro u; refine Upd.cut 17203592 s u ?_ (fun _ => ?_); subst u; rotate_left; clear_value u; rotate_right)
    | (intro u; clear_value u)
    | lift_lets
    | (with_reducible apply Upd.via; with_reducible apply State.enterKeeper_upd; decide)
    | (with_reducible apply Upd.via; with_reducible apply State.countPinned_upd; decide)
    | (with_reducible apply Upd.via; with_reducible apply State.writeMem_upd; decide)
    | (with_reducible apply Upd.via; with_reducible apply State.wr_upd; decide)
    | (with_reducible apply Upd.via; with_reducible apply State.flag_upd; decide)
    | (with_reducible apply Upd.via; with_reducible apply State.updFlash_upd; decide)
    | split)

theorem State.bootDone_upd {s x1} : Upd 1158676463 s (State.bootDone s x1) := by
  unfold State.bootDone
  repeat' (first
    | with_reducible exact Upd.refl
    | with_reducible assumption
    | (intro u; refine Upd.cut 1158676463 s u ?_ (fun _ => ?_); subst u; rotate_left; clear_value u; rotate_right)
    | (intro u; clear_value u)
    | lift_lets
    | (with_reducible apply Upd.via; with_reducible apply State.raise_upd; decide)
    | (with_reducible apply Upd.via; with_reducible apply Upd.snd State.draw_upd; decide)
    | (with_reducible apply Upd.via; with_reducible apply State.updTrail_upd; decide)
    | (with_reducible apply Upd.via; with_reducible apply State.updKennel_upd; decide)
    | (with_reducible apply Upd.via; with_reducible apply State.updChip_upd; decide)
    | (with_reducible apply Upd.via; with_reducible apply State.reachHeel_upd; decide)
    | (with_reducible apply Upd.via; with_reducible apply State.accept_upd; decide)
    | (with_reducible apply Upd.via; with_reducible apply State.updKeys_upd; decide)
    | split)

theorem execPowerGoodBoot_upd {x0 s} : UpdO 3308257263 s (execPowerGoodBoot x0 s) := by
  unfold execPowerGoodBoot
  repeat' (first
    | with_reducible exact Upd.refl
    | with_reducible assumption
    | (intro u; refine Upd.cut 3308257263 s u ?_ (fun _ => ?_); subst u; rotate_left; clear_value u; rotate_right)
    | lift_lets
    | split
    | (with_reducible apply Upd.via; with_reducible apply State.flag_upd; decide)
    | (with_reducible apply Upd.via; with_reducible apply State.updChip_upd; decide)
    | (with_reducible apply Upd.via; with_reducible apply State.bootUnits_upd; decide)
    | (with_reducible apply Upd.via; with_reducible apply State.bootImage_upd; decide)
    | (with_reducible apply Upd.via; with_reducible apply State.bootDone_upd; decide)
    | (with_reducible apply Upd2.via; with_reducible apply State.chooseTwin_upd; decide)
    | with_reducible refine UpdO.mk' ?_
    | (with_reducible apply Upd.sndOf'; with_reducible assumption))

end Sys2Proof.Machine
end

