-- ==== Sys2Proof/Laws/Exec.lean ====
section
/-!
SUPPORT. What one command may touch and what it keeps, said once for every command: `exec_upd`. The masks number the parts as `Part.idx` does.
-/

namespace Sys2Proof.Machine

/-- The mask of the parts that a command may touch. -/
def maskOf : Instr → Nat
  | .centralRetry _ => 257640
  | .trailBacklog _ => 2148265580
  | .sealSetLost => 536968808
  | .heelAfterDrain => 4171
  | .sealResumption => 261867
  | .clientHello _ _ => 1610613248
  | .clientHelloSegmentTimeout _ => 2148008452
  | .auth _ _ _ => 536968808
  | .authWaitTimeout _ => 2684976748
  | .keyUpdate _ => 536871424
  | .prevKeyErase _ _ => 2215133700
  | .close _ => 536968808
  | .closeAck _ => 536968808
  | .keepalive _ => 536871424
  | .reset _ => 536968808
  | .sessionIdleTimeout _ => 2684976748
  | .sessionRelease _ => 2685107948
  | .ack _ => 537132776
  | .ackDelayTimer _ _ => 2684895748
  | .rtoExpiry _ _ => 2684879364
  | .pathReprobe _ _ _ => 2684895748
  | .pathProbe _ _ => 536871456
  | .pathAdd _ => 536871424
  | .northPathFault _ => 537128552
  | .keepaliveTimer _ => 2684879364
  | .queueOpen _ => 1610613248
  | .queueClose _ => 536871424
  | .objBegin _ => 537133568
  | .data _ => 536871424
  | .objEnd _ => 536968808
  | .objAbort _ => 536968808
  | .creditGrant _ _ => 536871424
  | .queueIdleTimeout _ => 2684976748
  | .receiptHoldExpiry _ => 2148008452
  | .receiptGet _ => 537132776
  | .epochGet _ => 537132776
  | .restoreReq _ => 537132776
  | .credit _ => 536887808
  | .restoreDataSend _ => 536887808
  | .restoreIdleTimeout _ => 2685107948
  | .rangeHandover _ _ _ => 257640
  | .contextSwitch _ => 1024
  | .stuCompareFail _ _ => 257640
  | .maskReseed _ _ => 1073742848
  | .reseedLate _ _ => 2148265580
  | .plaintextPoison _ _ => 536968808
  | .rowRelease _ => 257768
  | .rangeDone _ => 537132776
  | .tagCombine _ _ => 512
  | .unsealTagCheck _ _ => 537132776
  | .stuSelftestDone _ _ _ => 17038952
  | .stuEnWrite _ _ => 1032
  | .stReq _ => 4096
  | .stuQrel _ _ => 1032
  | .rollingSelftestGrant _ _ _ => 78856
  | .rollingSelftestWithdraw _ _ => 2148012036
  | .selftestDeferred _ _ => 2148012108
  | .shpStOverdue _ _ => 2148269676
  | .channelFail _ => 537132776
  | .regeneration _ _ => 537133032
  | .regenPlaceWait _ _ => 537133032
  | .pageMoveDone _ _ => 537132776
  | .retrainEnd _ => 537132776
  | .rcCounterRead _ _ _ => 1610870392
  | .readMedia _ => 8
  | .writeMedia _ _ _ => 537132776
  | .readShelf _ => 8
  | .writeShelf _ _ => 4104
  | .extentAdmit _ _ _ _ => 261864
  | .placementRetry _ _ => 537132776
  | .placementFix _ _ => 537132776
  | .wakeDecision => 536891392
  | .wakeTimeout _ => 2148269804
  | .shelfLost _ => 2148269804
  | .shepherdSave => 2148012036
  | .factorRecompute => 4096
  | .coreTestRequest _ _ => 4104
  | .shpCoreRel _ _ => 4104
  | .coreReleaseTimeout => 2148012044
  | .seedCommit _ _ => 8
  | .permutationMismatch _ _ => 257640
  | .fragmentHashDone _ _ _ => 75272
  | .epochSlotEnd => 2148527724
  | .epochLenChange => 2148527724
  | .notarisedEpochClose _ => 519784
  | .epochSignDone _ => 1073999464
  | .epochVerifyDone _ _ => 537132776
  | .manifestLogAppend _ => 24576
  | .reverifyDue _ _ _ => 2685140972
  | .attestRequest _ _ => 3758878700
  | .pckQrel _ _ => 8200
  | .pckSelftestDone _ _ _ => 17038952
  | .flitReceive _ _ _ => 537128552
  | .flitResendTimer _ => 2685136492
  | .flitIdleSend _ => 2684895236
  | .ftLinkDown _ _ _ => 537128552
  | .tetherBringupRetry _ _ _ => 2684895236
  | .announce _ => 1610629120
  | .ftAuth _ => 537132648
  | .ftKeyUpdate _ => 536891400
  | .ftReset _ => 536891400
  | .ftHandshakeTimeout _ => 2148024324
  | .pathConfirm _ => 536891400
  | .ftPathProbe _ _ => 536891400
  | .ftAck _ => 536891400
  | .ftRtoExpiry _ _ => 2684895244
  | .ftCredit _ => 536891400
  | .durable _ => 537394920
  | .durableTimeout _ _ => 2148269804
  | .getData _ => 537394920
  | .getTimeout _ _ => 2685402860
  | .powerState _ => 537132776
  | .report _ => 538181352
  | .ftStatus _ => 537394920
  | .drainSend _ => 537133032
  | .catalogueWrite _ _ _ => 2148024324
  | .cataloguePlaceRetry _ _ => 16384
  | .catalogueRebuild => 537394920
  | .restoreBufferWait _ => 537132776
  | .evacuate _ => 537132776
  | .evacuateCancel _ => 536891400
  | .dkReq _ _ _ => 1610874600
  | .keyLoad _ _ _ _ => 1610870376
  | .keyStore _ _ _ _ _ => 537128552
  | .ghashPartial _ _ _ => 536888832
  | .clear _ _ => 537132776
  | .epochMapMissLoad _ _ _ => 537132776
  | .sdbMacroLost _ _ => 537132776
  | .gen _ => 1073774600
  | .derive _ => 32776
  | .wrap _ _ => 32776
  | .load _ _ => 257640
  | .zero _ => 537132776
  | .setAttr _ => 32776
  | .sealGcm _ => 8
  | .openGcm _ => 32776
  | .vkGen _ => 1073774600
  | .vkSplit _ => 1073774600
  | .vkCombine _ => 537394920
  | .vkCommit _ => 294920
  | .nsCurrent _ => 294920
  | .trngSourceFail _ _ => 257640
  | .drbgReseed => 3221782532
  | .badgeAuth _ _ => 2084044520
  | .presenceTimeout => 2752249580
  | .awlRingTail _ _ => 8
  | .awlDispatch => 537133032
  | .modAdd _ => 65544
  | .modSub _ => 65544
  | .modMul _ => 65544
  | .modExp _ => 65544
  | .modInv _ => 65544
  | .modRed _ => 65544
  | .awlMul _ => 65544
  | .ntt _ => 65544
  | .intt _ => 65544
  | .polyMac _ => 65544
  | .ecMul _ => 65544
  | .ecPub _ => 1073999464
  | .ecdsaSign _ => 1073999464
  | .ecdsaVerify _ => 258024
  | .ed25519Verify _ => 65544
  | .x25519Gen _ => 1073807368
  | .x25519 _ => 1073999464
  | .mlkemKeygen _ => 1073807368
  | .mlkemEncaps _ => 1073807368
  | .mlkemDecaps _ => 1073999464
  | .mldsaPub _ => 1073999464
  | .mldsaSign _ => 1073999464
  | .mldsaVerify _ => 258024
  | .awlCompletion _ => 258024
  | .awlDone => 2148073484
  | .awlAbort _ _ _ => 258024
  | .awlMismatch _ _ => 257640
  | .awlQrel _ _ => 65544
  | .awlSelftestDone _ _ _ => 17038952
  | .add _ _ _ _ _ => 4294967295
  | .sub _ _ _ _ _ => 4294967295
  | .andReg _ _ _ _ _ => 4294967295
  | .orReg _ _ _ _ _ => 4294967295
  | .xor _ _ _ _ _ => 4294967295
  | .andn _ _ _ _ _ => 4294967295
  | .slt _ _ _ _ _ => 4294967295
  | .sltu _ _ _ _ _ => 4294967295
  | .sll _ _ _ _ _ => 4294967295
  | .srl _ _ _ _ _ => 4294967295
  | .sra _ _ _ _ _ => 4294967295
  | .ror _ _ _ _ _ => 4294967295
  | .moveqz _ _ _ _ _ => 4294967295
  | .movnez _ _ _ _ _ => 4294967295
  | .clz _ _ _ _ => 4294967295
  | .popc _ _ _ _ => 4294967295
  | .bswap _ _ _ _ => 4294967295
  | .addi _ _ _ _ _ => 4294967295
  | .andi _ _ _ _ _ => 4294967295
  | .ori _ _ _ _ _ => 4294967295
  | .xori _ _ _ _ _ => 4294967295
  | .slti _ _ _ _ _ => 4294967295
  | .sltiu _ _ _ _ _ => 4294967295
  | .movz _ _ _ _ _ => 4294967295
  | .movk _ _ _ _ _ => 4294967295
  | .adrp _ _ _ _ => 4294967295
  | .slli _ _ _ _ _ => 4294967295
  | .srli _ _ _ _ _ => 4294967295
  | .srai _ _ _ _ _ => 4294967295
  | .mul _ _ _ _ => 4294967295
  | .mulu _ _ _ _ => 4294967295
  | .madd _ _ _ _ => 4294967295
  | .maddu _ _ _ _ => 4294967295
  | .divq _ _ _ _ => 4294967295
  | .divqu _ _ _ _ => 4294967295
  | .remd _ _ _ _ => 4294967295
  | .remdu _ _ _ _ => 4294967295
  | .mrdl _ _ _ => 4294967295
  | .mrdh _ _ _ => 4294967295
  | .mwr _ _ _ _ => 4294967295
  | .multiplierComplete _ => 131072
  | .ldb _ _ _ _ _ => 4294967295
  | .ldbu _ _ _ _ _ => 4294967295
  | .ldh _ _ _ _ _ => 4294967295
  | .ldhu _ _ _ _ _ => 4294967295
  | .ldw _ _ _ _ _ => 4294967295
  | .ldwu _ _ _ _ _ => 4294967295
  | .ldd _ _ _ _ _ => 4294967295
  | .stb _ _ _ _ _ => 4294967295
  | .sth _ _ _ _ _ => 4294967295
  | .stw _ _ _ _ _ => 4294967295
  | .std _ _ _ _ _ => 4294967295
  | .lld _ _ _ _ => 4294967295
  | .scd _ _ _ _ _ => 4294967295
  | .swapd _ _ _ _ _ => 4294967295
  | .aaddd _ _ _ _ _ => 4294967295
  | .aandd _ _ _ _ _ => 4294967295
  | .aord _ _ _ _ _ => 4294967295
  | .casd _ _ _ _ _ => 4294967295
  | .fence _ _ => 4294967295
  | .fencei _ _ => 4294967295
  | .beq _ _ _ _ _ => 4294967295
  | .bne _ _ _ _ _ => 4294967295
  | .blt _ _ _ _ _ => 4294967295
  | .bge _ _ _ _ _ => 4294967295
  | .bltu _ _ _ _ _ => 4294967295
  | .bgeu _ _ _ _ _ => 4294967295
  | .j _ _ _ => 4294967295
  | .jal _ _ _ => 4294967295
  | .jalr _ _ _ _ _ => 4294967295
  | .bmov _ _ _ _ _ _ _ => 4294967295
  | .bfill _ _ _ _ _ _ _ => 4294967295
  | .macv _ _ _ _ _ _ _ => 4294967295
  | .sabs _ _ _ _ _ _ => 4294967295
  | .mfs _ _ _ _ => 4294967295
  | .mts _ _ _ _ => 4294967295
  | .eret _ _ => 4294967295
  | .gate _ _ _ => 4294967295
  | .gateReturn _ _ => 4294967295
  | .trap _ _ _ => 4294967295
  | .brk _ _ => 4294967295
  | .wait _ _ => 4294967295
  | .tlbinvPage _ _ _ => 4294967295
  | .tlbinvAsid _ _ _ => 4294967295
  | .tlbinvWorld _ _ => 4294967295
  | .cflush _ _ _ => 4294967295
  | .di _ _ _ => 4294967295
  | .ei _ _ => 4294967295
  | .illegalInstruction _ _ => 4294967295
  | .interruptEntry _ _ => 4294967295
  | .timerInterrupt _ _ => 131072
  | .lockstepMismatch _ _ => 257640
  | .icClaim _ _ => 537001992
  | .icEoi _ _ _ => 131072
  | .icSwi _ _ => 8
  | .coreImHeld _ _ => 257640
  | .coreQrel _ _ => 131080
  | .sramScrub _ _ _ _ _ _ => 537133032
  | .trackerWindowEnd _ _ => 2148008196
  | .splitWrite _ _ _ => 258024
  | .eccTestEnable _ _ _ _ => 8
  | .eccInj _ _ _ _ => 8
  | .readActive _ _ _ _ _ => 257896
  | .readShadow _ _ _ _ _ => 257896
  | .writeShadow _ _ _ _ _ => 257896
  | .atCommit _ _ _ => 257896
  | .atDone => 8
  | .atVpop _ _ _ => 257896
  | .flsRead _ _ _ => 520168
  | .flsWrite _ _ => 537395176
  | .trim _ => 262152
  | .flush _ => 8
  | .pread _ _ => 520168
  | .mread _ _ => 262152
  | .blank _ _ => 1073741832
  | .flsErase _ _ => 262248
  | .pin _ => 262152
  | .unpin _ => 262152
  | .ptrSet _ _ => 262152
  | .ptrConfirm _ => 262152
  | .windowMiss _ _ _ => 519784
  | .flsLunLost _ => 257640
  | .powerGoodBoot _ => 3308257263
  | .faultDetection _ _ _ => 537132776
  | .consequenceWindowClose _ _ => 2148007972
  | .faultNPulseEnd => 2148007980
  | .fcuHoldWrite _ => 8
  | .fcuInjPseudo _ _ _ => 537132776
  | .fcuInjCheck _ _ _ => 537132776
  | .fcuClr _ => 32
  | .fcuSrcCfgWrite _ _ _ _ => 32
  | .vddIo33Loss _ => 604765928
  | .vddIo33Return => 8
  | .cellRemoved _ => 604765928
  | .cellEnd _ => 604765928
  | .cellLow _ => 604765928
  | .cellInserted _ => 604765928
  | .kennelDead => 557056
  | .kennelPor _ _ => 604765932
  | .tempLow _ => 604765928
  | .tempHigh _ => 604765928
  | .volt _ => 604765928
  | .glitch _ => 604765928
  | .clock _ _ => 604765928
  | .mesh _ => 604765928
  | .lid _ => 604765928
  | .loop0 _ => 604765928
  | .loop1 _ => 604765928
  | .monitorRearm _ => 8
  | .unlock _ => 541589224
  | .clrLatch _ => 4194312
  | .clrPor _ => 8
  | .evqPop _ => 524296
  | .knlRtcSet _ _ => 524300
  | .knlTempWrite _ _ _ => 8
  | .knlMonWrite _ _ _ _ => 8
  | .knlTrimWrite _ _ => 8
  | .kennelCollarWrite _ _ => 1830504
  | .sensorLogInterval _ _ _ => 2149314156
  | .detectionPing _ _ _ => 3762028140
  | .pendingCheckinExpiry => 2148012036
  | .tapIdleTimeout => 2150105100
  | .externalField => 2097152
  | .extFieldGone => 2097152
  | .poll _ _ => 1614020200
  | .exchange _ _ => 539226088
  | .deselect _ => 2097160
  | .fieldOff _ => 2097160
  | .nextCard _ _ => 1614020200
  | .collarPowerUp _ _ => 1075048040
  | .collarActivation => 537919496
  | .collarSelect _ => 537919488
  | .collarRead _ _ => 537919488
  | .getState => 537919488
  | .verify _ _ _ _ => 538177128
  | .appendNote _ _ _ => 538177128
  | .changePw _ _ _ => 538177128
  | .resetTries _ _ => 537919488
  | .collarSessionEnd _ _ => 2149314156
  | .colRead _ => 1048584
  | .colAppend _ _ => 1306216
  | .setPw _ _ => 1306216
  | .unblock _ _ => 1048584
  | .setPolicy _ => 1048584
  | .presencePress => 2152202316
  | .servicePress _ => 2152202348
  | .buttonRelease _ _ => 2152202284
  | .longPress => 2160590924
  | .pnlStuck _ => 2152459884
  | .initCard _ _ => 2156654188
  | .scRead _ _ _ => 2693525484
  | .scWrite _ _ => 2693525356
  | .scErase _ _ => 2693267468
  | .scUnlock _ _ => 545517416
  | .setPwd _ _ => 2693525356
  | .clrPwd _ _ => 2693525356
  | .forceErase _ _ => 549453832
  | .sleep _ => 2156396556
  | .eject _ => 8388616
  | .walk _ _ _ => 2156396556
  | .autoSleep => 2148007948
  | .scBusyTimeout => 2156654188
  | .cardRemoval _ => 8646248
  | .cardInsertion _ => 2156654188
  | .scPwrFault => 8646248
  | .hello _ => 1677979240
  | .smlAuth _ => 604237416
  | .smlKeyUpdate _ => 603979784
  | .smlClose _ => 603979784
  | .smlKeepalive _ => 603979784
  | .smlReset _ => 603979784
  | .smlIdleTimeout _ => 2215116804
  | .smlRelease _ => 2215116804
  | .smlRead _ => 604237416
  | .smlWrite _ _ => 4249878508
  | .segRead _ => 603979784
  | .segBegin _ => 603979784
  | .segWrite _ => 603979784
  | .segEnd _ _ => 2101608424
  | .segAbort _ => 603979784
  | .handleExpiry _ _ _ => 2215116804
  | .subscribe _ => 603979784
  | .unsubscribe _ => 603979784
  | .notifyIntervalEnd _ _ => 2751987716
  | .notifyAck _ => 603979784
  | .notifyResend _ _ => 2751987716
  | .reassemblyTimeout _ _ _ => 2215116804
  | .addressChangeEffect => 2215116812
  | .oldAddressExpiry => 2215116804
  | .vendorWindowTick => 2886205444
  | .restoreDefaults _ _ _ => 4249878508
  | .enroll _ _ _ => 4249878508
  | .escrowCreate _ _ _ _ => 4249878508
  | .vaultRotate _ _ _ _ => 4249878508
  | .vaultRestore _ _ _ => 4249878508
  | .nsCreate _ _ _ => 4249878508
  | .nsRotate _ _ _ => 4249878508
  | .nsDestroy _ _ _ => 4249878508
  | .manifestKeyChange _ _ _ => 4249878508
  | .ownerRelease _ _ _ => 4249878508
  | .attest _ _ _ => 4249878508
  | .srcClear _ _ _ => 4249878508
  | .knlUnlock _ _ _ => 4249878508
  | .knlClrLatch _ _ _ => 4249878508
  | .bundleExport _ _ _ => 4249878508
  | .bundleImport _ _ _ => 4249878508
  | .selftest _ _ _ => 4249878508
  | .fcuInject _ _ _ _ => 4249878508
  | .eccInject _ _ _ => 4249878508
  | .mgtMdio _ _ _ _ _ => 2685136492
  | .mgtLinkDown _ => 257640
  | .trailRecordAccept => 258024
  | .subInterrupt _ => 2148008012
  | .trailJournalCommit _ => 2148265580
  | .trlWr _ _ _ _ _ => 72
  | .telemetrySample _ => 2181820012
  | .dramPatrolScrub _ _ _ => 537133032
  | .readDisturbRefresh _ _ _ => 34074216
  | .flashReadScrub _ _ _ => 2182082156
  | .wearLevelling _ _ _ => 519784
  | .ddrPeriodicCalibration _ => 2148007940
  | .ddrRetraining _ => 1107298312
  | .sensorCalibration _ _ => 33812072
  | .kennelOscillatorTrim _ _ => 33554440
  | .brnOverrun _ => 257640
  | .refclkLoss => 535298043
  | .pllUnlock => 535298043
  | .refclkRestore => 2164785156
  | .laneRefLoss _ => 537128552
  | .nfcXtalLoss => 2354792
  | .pwrOkFall _ => 535298043
  | .pwrOkRise => 535298043
  | .sysrst => 2683305983
  | .rstMain _ => 2683305983
  | .rstPair _ _ _ => 131080
  | .watchdogExpiry => 2683305983
  | .wdtKick _ _ => 16777216
  | .wdtEnable _ => 16777224
  | .sealEnter _ _ _ => 2735734767
  | .shutdown _ _ => 16801355
  | .shutdownTimeout => 2164785164
  | .pwrAvs _ _ => 8
  | .avsStep _ => 2701656076
  | .stCmd _ _ _ => 16987144
  | .stDone => 83886088
  | .debugAuth _ => 1631846120
  | .debugExpiry => 2164785164
  | .dbgNonce => 553648128
  | .dbgAccess _ _ _ _ => 4294967295
  | .bypass => 553648128
  | .idcode => 553648128
  | .samplePreload _ _ => 553648128
  | .extest _ _ => 553648128
  | .clamp => 553648128
  | .highz => 553648128
  | .testReset => 16777216
  | .registerWrite _ _ _ _ => 257656
  | .holdupOk => 8
  | .mgtLinkUp _ _ => 40
  | .arpNdEchoRequest _ _ _ => 536870920
  | .smlAuthWaitTimeout _ => 2215116804
  | .corePairSelftestDone _ _ _ => 17038952
  | .laneRefReturn _ => 8
  | .nfcXtalReturn => 2097192

/-- What a command touches and keeps. -/
theorem exec_upd (c : Instr) (s : State) : UpdO (maskOf c) s (exec c s) := by
  cases c with
  | centralRetry x0 => exact (execCentralRetry_upd : UpdO 257640 s (execCentralRetry x0 s))
  | trailBacklog x0 => exact (execTrailBacklog_upd : UpdO 2148265580 s (execTrailBacklog x0 s))
  | sealSetLost => exact (execSealSetLost_upd : UpdO 536968808 s (execSealSetLost s))
  | heelAfterDrain => exact (execHeelAfterDrain_upd : UpdO 4171 s (execHeelAfterDrain s))
  | sealResumption => exact (execSealResumption_upd : UpdO 261867 s (execSealResumption s))
  | clientHello x0 x1 => exact (execClientHello_upd : UpdO 1610613248 s (execClientHello x0 x1 s))
  | clientHelloSegmentTimeout x0 => exact (execClientHelloSegmentTimeout_upd : UpdO 2148008452 s (execClientHelloSegmentTimeout x0 s))
  | auth x0 x1 x2 => exact (execAuth_upd : UpdO 536968808 s (execAuth x0 x1 x2 s))
  | authWaitTimeout x0 => exact (execAuthWaitTimeout_upd : UpdO 2684976748 s (execAuthWaitTimeout x0 s))
  | keyUpdate x0 => exact (execKeyUpdate_upd : UpdO 536871424 s (execKeyUpdate x0 s))
  | prevKeyErase x0 x1 => exact (execPrevKeyErase_upd : UpdO 2215133700 s (execPrevKeyErase x0 x1 s))
  | close x0 => exact (execClose_upd : UpdO 536968808 s (execClose x0 s))
  | closeAck x0 => exact (execCloseAck_upd : UpdO 536968808 s (execCloseAck x0 s))
  | keepalive x0 => exact (execKeepalive_upd : UpdO 536871424 s (execKeepalive x0 s))
  | reset x0 => exact (execReset_upd : UpdO 536968808 s (execReset x0 s))
  | sessionIdleTimeout x0 => exact (execSessionIdleTimeout_upd : UpdO 2684976748 s (execSessionIdleTimeout x0 s))
  | sessionRelease x0 => exact (execSessionRelease_upd : UpdO 2685107948 s (execSessionRelease x0 s))
  | ack x0 => exact (execAck_upd : UpdO 537132776 s (execAck x0 s))
  | ackDelayTimer x0 x1 => exact (execAckDelayTimer_upd : UpdO 2684895748 s (execAckDelayTimer x0 x1 s))
  | rtoExpiry x0 x1 => exact (execRtoExpiry_upd : UpdO 2684879364 s (execRtoExpiry x0 x1 s))
  | pathReprobe x0 x1 x2 => exact (execPathReprobe_upd : UpdO 2684895748 s (execPathReprobe x0 x1 x2 s))
  | pathProbe x0 x1 => exact (execPathProbe_upd : UpdO 536871456 s (execPathProbe x0 x1 s))
  | pathAdd x0 => exact (execPathAdd_upd : UpdO 536871424 s (execPathAdd x0 s))
  | northPathFault x0 => exact (execNorthPathFault_upd : UpdO 537128552 s (execNorthPathFault x0 s))
  | keepaliveTimer x0 => exact (execKeepaliveTimer_upd : UpdO 2684879364 s (execKeepaliveTimer x0 s))
  | queueOpen x0 => exact (execQueueOpen_upd : UpdO 1610613248 s (execQueueOpen x0 s))
  | queueClose x0 => exact (execQueueClose_upd : UpdO 536871424 s (execQueueClose x0 s))
  | objBegin x0 => exact (execObjBegin_upd : UpdO 537133568 s (execObjBegin x0 s))
  | data x0 => exact (execData_upd : UpdO 536871424 s (execData x0 s))
  | objEnd x0 => exact (execObjEnd_upd : UpdO 536968808 s (execObjEnd x0 s))
  | objAbort x0 => exact (execObjAbort_upd : UpdO 536968808 s (execObjAbort x0 s))
  | creditGrant x0 x1 => exact (execCreditGrant_upd : UpdO 536871424 s (execCreditGrant x0 x1 s))
  | queueIdleTimeout x0 => exact (execQueueIdleTimeout_upd : UpdO 2684976748 s (execQueueIdleTimeout x0 s))
  | receiptHoldExpiry x0 => exact (execReceiptHoldExpiry_upd : UpdO 2148008452 s (execReceiptHoldExpiry x0 s))
  | receiptGet x0 => exact (execReceiptGet_upd : UpdO 537132776 s (execReceiptGet x0 s))
  | epochGet x0 => exact (execEpochGet_upd : UpdO 537132776 s (execEpochGet x0 s))
  | restoreReq x0 => exact (execRestoreReq_upd : UpdO 537132776 s (execRestoreReq x0 s))
  | credit x0 => exact (execCredit_upd : UpdO 536887808 s (execCredit x0 s))
  | restoreDataSend x0 => exact (execRestoreDataSend_upd : UpdO 536887808 s (execRestoreDataSend x0 s))
  | restoreIdleTimeout x0 => exact (execRestoreIdleTimeout_upd : UpdO 2685107948 s (execRestoreIdleTimeout x0 s))
  | rangeHandover x0 x1 x2 => exact (execRangeHandover_upd : UpdO 257640 s (execRangeHandover x0 x1 x2 s))
  | contextSwitch x0 => exact (execContextSwitch_upd : UpdO 1024 s (execContextSwitch x0 s))
  | stuCompareFail x0 x1 => exact (execStuCompareFail_upd : UpdO 257640 s (execStuCompareFail x0 x1 s))
  | maskReseed x0 x1 => exact (execMaskReseed_upd : UpdO 1073742848 s (execMaskReseed x0 x1 s))
  | reseedLate x0 x1 => exact (execReseedLate_upd : UpdO 2148265580 s (execReseedLate x0 x1 s))
  | plaintextPoison x0 x1 => exact (execPlaintextPoison_upd : UpdO 536968808 s (execPlaintextPoison x0 x1 s))
  | rowRelease x0 => exact (execRowRelease_upd : UpdO 257768 s (execRowRelease x0 s))
  | rangeDone x0 => exact (execRangeDone_upd : UpdO 537132776 s (execRangeDone x0 s))
  | tagCombine x0 x1 => exact (execTagCombine_upd : UpdO 512 s (execTagCombine x0 x1 s))
  | unsealTagCheck x0 x1 => exact (execUnsealTagCheck_upd : UpdO 537132776 s (execUnsealTagCheck x0 x1 s))
  | stuSelftestDone x0 x1 x2 => exact (execStuSelftestDone_upd : UpdO 17038952 s (execStuSelftestDone x0 x1 x2 s))
  | stuEnWrite x0 x1 => exact (execStuEnWrite_upd : UpdO 1032 s (execStuEnWrite x0 x1 s))
  | stReq x0 => exact (execStReq_upd : UpdO 4096 s (execStReq x0 s))
  | stuQrel x0 x1 => exact (execStuQrel_upd : UpdO 1032 s (execStuQrel x0 x1 s))
  | rollingSelftestGrant x0 x1 x2 => exact (execRollingSelftestGrant_upd : UpdO 78856 s (execRollingSelftestGrant x0 x1 x2 s))
  | rollingSelftestWithdraw x0 x1 => exact (execRollingSelftestWithdraw_upd : UpdO 2148012036 s (execRollingSelftestWithdraw x0 x1 s))
  | selftestDeferred x0 x1 => exact (execSelftestDeferred_upd : UpdO 2148012108 s (execSelftestDeferred x0 x1 s))
  | shpStOverdue x0 x1 => exact (execShpStOverdue_upd : UpdO 2148269676 s (execShpStOverdue x0 x1 s))
  | channelFail x0 => exact (execChannelFail_upd : UpdO 537132776 s (execChannelFail x0 s))
  | regeneration x0 x1 => exact (execRegeneration_upd : UpdO 537133032 s (execRegeneration x0 x1 s))
  | regenPlaceWait x0 x1 => exact (execRegenPlaceWait_upd : UpdO 537133032 s (execRegenPlaceWait x0 x1 s))
  | pageMoveDone x0 x1 => exact (execPageMoveDone_upd : UpdO 537132776 s (execPageMoveDone x0 x1 s))
  | retrainEnd x0 => exact (execRetrainEnd_upd : UpdO 537132776 s (execRetrainEnd x0 s))
  | rcCounterRead x0 x1 x2 => exact (execRcCounterRead_upd : UpdO 1610870392 s (execRcCounterRead x0 x1 x2 s))
  | readMedia x0 => exact (execReadMedia_upd : UpdO 8 s (execReadMedia x0 s))
  | writeMedia x0 x1 x2 => exact (execWriteMedia_upd : UpdO 537132776 s (execWriteMedia x0 x1 x2 s))
  | readShelf x0 => exact (execReadShelf_upd : UpdO 8 s (execReadShelf x0 s))
  | writeShelf x0 x1 => exact (execWriteShelf_upd : UpdO 4104 s (execWriteShelf x0 x1 s))
  | extentAdmit x0 x1 x2 x3 => exact (execExtentAdmit_upd : UpdO 261864 s (execExtentAdmit x0 x1 x2 x3 s))
  | placementRetry x0 x1 => exact (execPlacementRetry_upd : UpdO 537132776 s (execPlacementRetry x0 x1 s))
  | placementFix x0 x1 => exact (execPlacementFix_upd : UpdO 537132776 s (execPlacementFix x0 x1 s))
  | wakeDecision => exact (execWakeDecision_upd : UpdO 536891392 s (execWakeDecision s))
  | wakeTimeout x0 => exact (execWakeTimeout_upd : UpdO 2148269804 s (execWakeTimeout x0 s))
  | shelfLost x0 => exact (execShelfLost_upd : UpdO 2148269804 s (execShelfLost x0 s))
  | shepherdSave => exact (execShepherdSave_upd : UpdO 2148012036 s (execShepherdSave s))
  | factorRecompute => exact (execFactorRecompute_upd : UpdO 4096 s (execFactorRecompute s))
  | coreTestRequest x0 x1 => exact (execCoreTestRequest_upd : UpdO 4104 s (execCoreTestRequest x0 x1 s))
  | shpCoreRel x0 x1 => exact (execShpCoreRel_upd : UpdO 4104 s (execShpCoreRel x0 x1 s))
  | coreReleaseTimeout => exact (execCoreReleaseTimeout_upd : UpdO 2148012044 s (execCoreReleaseTimeout s))
  | seedCommit x0 x1 => exact (execSeedCommit_upd : UpdO 8 s (execSeedCommit x0 x1 s))
  | permutationMismatch x0 x1 => exact (execPermutationMismatch_upd : UpdO 257640 s (execPermutationMismatch x0 x1 s))
  | fragmentHashDone x0 x1 x2 => exact (execFragmentHashDone_upd : UpdO 75272 s (execFragmentHashDone x0 x1 x2 s))
  | epochSlotEnd => exact (execEpochSlotEnd_upd : UpdO 2148527724 s (execEpochSlotEnd s))
  | epochLenChange => exact (execEpochLenChange_upd : UpdO 2148527724 s (execEpochLenChange s))
  | notarisedEpochClose x0 => exact (execNotarisedEpochClose_upd : UpdO 519784 s (execNotarisedEpochClose x0 s))
  | epochSignDone x0 => exact (execEpochSignDone_upd : UpdO 1073999464 s (execEpochSignDone x0 s))
  | epochVerifyDone x0 x1 => exact (execEpochVerifyDone_upd : UpdO 537132776 s (execEpochVerifyDone x0 x1 s))
  | manifestLogAppend x0 => exact (execManifestLogAppend_upd : UpdO 24576 s (execManifestLogAppend x0 s))
  | reverifyDue x0 x1 x2 => exact (execReverifyDue_upd : UpdO 2685140972 s (execReverifyDue x0 x1 x2 s))
  | attestRequest x0 x1 => exact (execAttestRequest_upd : UpdO 3758878700 s (execAttestRequest x0 x1 s))
  | pckQrel x0 x1 => exact (execPckQrel_upd : UpdO 8200 s (execPckQrel x0 x1 s))
  | pckSelftestDone x0 x1 x2 => exact (execPckSelftestDone_upd : UpdO 17038952 s (execPckSelftestDone x0 x1 x2 s))
  | flitReceive x0 x1 x2 => exact (execFlitReceive_upd : UpdO 537128552 s (execFlitReceive x0 x1 x2 s))
  | flitResendTimer x0 => exact (execFlitResendTimer_upd : UpdO 2685136492 s (execFlitResendTimer x0 s))
  | flitIdleSend x0 => exact (execFlitIdleSend_upd : UpdO 2684895236 s (execFlitIdleSend x0 s))
  | ftLinkDown x0 x1 x2 => exact (execFtLinkDown_upd : UpdO 537128552 s (execFtLinkDown x0 x1 x2 s))
  | tetherBringupRetry x0 x1 x2 => exact (execTetherBringupRetry_upd : UpdO 2684895236 s (execTetherBringupRetry x0 x1 x2 s))
  | announce x0 => exact (execAnnounce_upd : UpdO 1610629120 s (execAnnounce x0 s))
  | ftAuth x0 => exact (execFtAuth_upd : UpdO 537132648 s (execFtAuth x0 s))
  | ftKeyUpdate x0 => exact (execFtKeyUpdate_upd : UpdO 536891400 s (execFtKeyUpdate x0 s))
  | ftReset x0 => exact (execFtReset_upd : UpdO 536891400 s (execFtReset x0 s))
  | ftHandshakeTimeout x0 => exact (execFtHandshakeTimeout_upd : UpdO 2148024324 s (execFtHandshakeTimeout x0 s))
  | pathConfirm x0 => exact (execPathConfirm_upd : UpdO 536891400 s (execPathConfirm x0 s))
  | ftPathProbe x0 x1 => exact (execFtPathProbe_upd : UpdO 536891400 s (execFtPathProbe x0 x1 s))
  | ftAck x0 => exact (execFtAck_upd : UpdO 536891400 s (execFtAck x0 s))
  | ftRtoExpiry x0 x1 => exact (execFtRtoExpiry_upd : UpdO 2684895244 s (execFtRtoExpiry x0 x1 s))
  | ftCredit x0 => exact (execFtCredit_upd : UpdO 536891400 s (execFtCredit x0 s))
  | durable x0 => exact (execDurable_upd : UpdO 537394920 s (execDurable x0 s))
  | durableTimeout x0 x1 => exact (execDurableTimeout_upd : UpdO 2148269804 s (execDurableTimeout x0 x1 s))
  | getData x0 => exact (execGetData_upd : UpdO 537394920 s (execGetData x0 s))
  | getTimeout x0 x1 => exact (execGetTimeout_upd : UpdO 2685402860 s (execGetTimeout x0 x1 s))
  | powerState x0 => exact (execPowerState_upd : UpdO 537132776 s (execPowerState x0 s))
  | report x0 => exact (execReport_upd : UpdO 538181352 s (execReport x0 s))
  | ftStatus x0 => exact (execFtStatus_upd : UpdO 537394920 s (execFtStatus x0 s))
  | drainSend x0 => exact (execDrainSend_upd : UpdO 537133032 s (execDrainSend x0 s))
  | catalogueWrite x0 x1 x2 => exact (execCatalogueWrite_upd : UpdO 2148024324 s (execCatalogueWrite x0 x1 x2 s))
  | cataloguePlaceRetry x0 x1 => exact (execCataloguePlaceRetry_upd : UpdO 16384 s (execCataloguePlaceRetry x0 x1 s))
  | catalogueRebuild => exact (execCatalogueRebuild_upd : UpdO 537394920 s (execCatalogueRebuild s))
  | restoreBufferWait x0 => exact (execRestoreBufferWait_upd : UpdO 537132776 s (execRestoreBufferWait x0 s))
  | evacuate x0 => exact (execEvacuate_upd : UpdO 537132776 s (execEvacuate x0 s))
  | evacuateCancel x0 => exact (execEvacuateCancel_upd : UpdO 536891400 s (execEvacuateCancel x0 s))
  | dkReq x0 x1 x2 => exact (execDkReq_upd : UpdO 1610874600 s (execDkReq x0 x1 x2 s))
  | keyLoad x0 x1 x2 x3 => exact (execKeyLoad_upd : UpdO 1610870376 s (execKeyLoad x0 x1 x2 x3 s))
  | keyStore x0 x1 x2 x3 x4 => exact (execKeyStore_upd : UpdO 537128552 s (execKeyStore x0 x1 x2 x3 x4 s))
  | ghashPartial x0 x1 x2 => exact (execGhashPartial_upd : UpdO 536888832 s (execGhashPartial x0 x1 x2 s))
  | clear x0 x1 => exact (execClear_upd : UpdO 537132776 s (execClear x0 x1 s))
  | epochMapMissLoad x0 x1 x2 => exact (execEpochMapMissLoad_upd : UpdO 537132776 s (execEpochMapMissLoad x0 x1 x2 s))
  | sdbMacroLost x0 x1 => exact (execSdbMacroLost_upd : UpdO 537132776 s (execSdbMacroLost x0 x1 s))
  | gen x0 => exact (execGen_upd : UpdO 1073774600 s (execGen x0 s))
  | derive x0 => exact (execDerive_upd : UpdO 32776 s (execDerive x0 s))
  | wrap x0 x1 => exact (execWrap_upd : UpdO 32776 s (execWrap x0 x1 s))
  | load x0 x1 => exact (execLoad_upd : UpdO 257640 s (execLoad x0 x1 s))
  | zero x0 => exact (execZero_upd : UpdO 537132776 s (execZero x0 s))
  | setAttr x0 => exact (execSetAttr_upd : UpdO 32776 s (execSetAttr x0 s))
  | sealGcm x0 => exact (execSealGcm_upd : UpdO 8 s (execSealGcm x0 s))
  | openGcm x0 => exact (execOpenGcm_upd : UpdO 32776 s (execOpenGcm x0 s))
  | vkGen x0 => exact (execVkGen_upd : UpdO 1073774600 s (execVkGen x0 s))
  | vkSplit x0 => exact (execVkSplit_upd : UpdO 1073774600 s (execVkSplit x0 s))
  | vkCombine x0 => exact (execVkCombine_upd : UpdO 537394920 s (execVkCombine x0 s))
  | vkCommit x0 => exact (execVkCommit_upd : UpdO 294920 s (execVkCommit x0 s))
  | nsCurrent x0 => exact (execNsCurrent_upd : UpdO 294920 s (execNsCurrent x0 s))
  | trngSourceFail x0 x1 => exact (execTrngSourceFail_upd : UpdO 257640 s (execTrngSourceFail x0 x1 s))
  | drbgReseed => exact (execDrbgReseed_upd : UpdO 3221782532 s (execDrbgReseed s))
  | badgeAuth x0 x1 => exact (execBadgeAuth_upd : UpdO 2084044520 s (execBadgeAuth x0 x1 s))
  | presenceTimeout => exact (execPresenceTimeout_upd : UpdO 2752249580 s (execPresenceTimeout s))
  | awlRingTail x0 x1 => exact (execAwlRingTail_upd : UpdO 8 s (execAwlRingTail x0 x1 s))
  | awlDispatch => exact (execAwlDispatch_upd : UpdO 537133032 s (execAwlDispatch s))
  | modAdd x0 => exact (execModAdd_upd : UpdO 65544 s (execModAdd x0 s))
  | modSub x0 => exact (execModSub_upd : UpdO 65544 s (execModSub x0 s))
  | modMul x0 => exact (execModMul_upd : UpdO 65544 s (execModMul x0 s))
  | modExp x0 => exact (execModExp_upd : UpdO 65544 s (execModExp x0 s))
  | modInv x0 => exact (execModInv_upd : UpdO 65544 s (execModInv x0 s))
  | modRed x0 => exact (execModRed_upd : UpdO 65544 s (execModRed x0 s))
  | awlMul x0 => exact (execAwlMul_upd : UpdO 65544 s (execAwlMul x0 s))
  | ntt x0 => exact (execNtt_upd : UpdO 65544 s (execNtt x0 s))
  | intt x0 => exact (execIntt_upd : UpdO 65544 s (execIntt x0 s))
  | polyMac x0 => exact (execPolyMac_upd : UpdO 65544 s (execPolyMac x0 s))
  | ecMul x0 => exact (execEcMul_upd : UpdO 65544 s (execEcMul x0 s))
  | ecPub x0 => exact (execEcPub_upd : UpdO 1073999464 s (execEcPub x0 s))
  | ecdsaSign x0 => exact (execEcdsaSign_upd : UpdO 1073999464 s (execEcdsaSign x0 s))
  | ecdsaVerify x0 => exact (execEcdsaVerify_upd : UpdO 258024 s (execEcdsaVerify x0 s))
  | ed25519Verify x0 => exact (execEd25519Verify_upd : UpdO 65544 s (execEd25519Verify x0 s))
  | x25519Gen x0 => exact (execX25519Gen_upd : UpdO 1073807368 s (execX25519Gen x0 s))
  | x25519 x0 => exact (execX25519_upd : UpdO 1073999464 s (execX25519 x0 s))
  | mlkemKeygen x0 => exact (execMlkemKeygen_upd : UpdO 1073807368 s (execMlkemKeygen x0 s))
  | mlkemEncaps x0 => exact (execMlkemEncaps_upd : UpdO 1073807368 s (execMlkemEncaps x0 s))
  | mlkemDecaps x0 => exact (execMlkemDecaps_upd : UpdO 1073999464 s (execMlkemDecaps x0 s))
  | mldsaPub x0 => exact (execMldsaPub_upd : UpdO 1073999464 s (execMldsaPub x0 s))
  | mldsaSign x0 => exact (execMldsaSign_upd : UpdO 1073999464 s (execMldsaSign x0 s))
  | mldsaVerify x0 => exact (execMldsaVerify_upd : UpdO 258024 s (execMldsaVerify x0 s))
  | awlCompletion x0 => exact (execAwlCompletion_upd : UpdO 258024 s (execAwlCompletion x0 s))
  | awlDone => exact (execAwlDone_upd : UpdO 2148073484 s (execAwlDone s))
  | awlAbort x0 x1 x2 => exact (execAwlAbort_upd : UpdO 258024 s (execAwlAbort x0 x1 x2 s))
  | awlMismatch x0 x1 => exact (execAwlMismatch_upd : UpdO 257640 s (execAwlMismatch x0 x1 s))
  | awlQrel x0 x1 => exact (execAwlQrel_upd : UpdO 65544 s (execAwlQrel x0 x1 s))
  | awlSelftestDone x0 x1 x2 => exact (execAwlSelftestDone_upd : UpdO 17038952 s (execAwlSelftestDone x0 x1 x2 s))
  | add x0 x1 x2 x3 x4 => exact (execAdd_upd : UpdO 4294967295 s (execAdd x0 x1 x2 x3 x4 s))
  | sub x0 x1 x2 x3 x4 => exact (execSub_upd : UpdO 4294967295 s (execSub x0 x1 x2 x3 x4 s))
  | andReg x0 x1 x2 x3 x4 => exact (execAndReg_upd : UpdO 4294967295 s (execAndReg x0 x1 x2 x3 x4 s))
  | orReg x0 x1 x2 x3 x4 => exact (execOrReg_upd : UpdO 4294967295 s (execOrReg x0 x1 x2 x3 x4 s))
  | xor x0 x1 x2 x3 x4 => exact (execXor_upd : UpdO 4294967295 s (execXor x0 x1 x2 x3 x4 s))
  | andn x0 x1 x2 x3 x4 => exact (execAndn_upd : UpdO 4294967295 s (execAndn x0 x1 x2 x3 x4 s))
  | slt x0 x1 x2 x3 x4 => exact (execSlt_upd : UpdO 4294967295 s (execSlt x0 x1 x2 x3 x4 s))
  | sltu x0 x1 x2 x3 x4 => exact (execSltu_upd : UpdO 4294967295 s (execSltu x0 x1 x2 x3 x4 s))
  | sll x0 x1 x2 x3 x4 => exact (execSll_upd : UpdO 4294967295 s (execSll x0 x1 x2 x3 x4 s))
  | srl x0 x1 x2 x3 x4 => exact (execSrl_upd : UpdO 4294967295 s (execSrl x0 x1 x2 x3 x4 s))
  | sra x0 x1 x2 x3 x4 => exact (execSra_upd : UpdO 4294967295 s (execSra x0 x1 x2 x3 x4 s))
  | ror x0 x1 x2 x3 x4 => exact (execRor_upd : UpdO 4294967295 s (execRor x0 x1 x2 x3 x4 s))
  | moveqz x0 x1 x2 x3 x4 => exact (execMoveqz_upd : UpdO 4294967295 s (execMoveqz x0 x1 x2 x3 x4 s))
  | movnez x0 x1 x2 x3 x4 => exact (execMovnez_upd : UpdO 4294967295 s (execMovnez x0 x1 x2 x3 x4 s))
  | clz x0 x1 x2 x3 => exact (execClz_upd : UpdO 4294967295 s (execClz x0 x1 x2 x3 s))
  | popc x0 x1 x2 x3 => exact (execPopc_upd : UpdO 4294967295 s (execPopc x0 x1 x2 x3 s))
  | bswap x0 x1 x2 x3 => exact (execBswap_upd : UpdO 4294967295 s (execBswap x0 x1 x2 x3 s))
  | addi x0 x1 x2 x3 x4 => exact (execAddi_upd : UpdO 4294967295 s (execAddi x0 x1 x2 x3 x4 s))
  | andi x0 x1 x2 x3 x4 => exact (execAndi_upd : UpdO 4294967295 s (execAndi x0 x1 x2 x3 x4 s))
  | ori x0 x1 x2 x3 x4 => exact (execOri_upd : UpdO 4294967295 s (execOri x0 x1 x2 x3 x4 s))
  | xori x0 x1 x2 x3 x4 => exact (execXori_upd : UpdO 4294967295 s (execXori x0 x1 x2 x3 x4 s))
  | slti x0 x1 x2 x3 x4 => exact (execSlti_upd : UpdO 4294967295 s (execSlti x0 x1 x2 x3 x4 s))
  | sltiu x0 x1 x2 x3 x4 => exact (execSltiu_upd : UpdO 4294967295 s (execSltiu x0 x1 x2 x3 x4 s))
  | movz x0 x1 x2 x3 x4 => exact (execMovz_upd : UpdO 4294967295 s (execMovz x0 x1 x2 x3 x4 s))
  | movk x0 x1 x2 x3 x4 => exact (execMovk_upd : UpdO 4294967295 s (execMovk x0 x1 x2 x3 x4 s))
  | adrp x0 x1 x2 x3 => exact (execAdrp_upd : UpdO 4294967295 s (execAdrp x0 x1 x2 x3 s))
  | slli x0 x1 x2 x3 x4 => exact (execSlli_upd : UpdO 4294967295 s (execSlli x0 x1 x2 x3 x4 s))
  | srli x0 x1 x2 x3 x4 => exact (execSrli_upd : UpdO 4294967295 s (execSrli x0 x1 x2 x3 x4 s))
  | srai x0 x1 x2 x3 x4 => exact (execSrai_upd : UpdO 4294967295 s (execSrai x0 x1 x2 x3 x4 s))
  | mul x0 x1 x2 x3 => exact (execMul_upd : UpdO 4294967295 s (execMul x0 x1 x2 x3 s))
  | mulu x0 x1 x2 x3 => exact (execMulu_upd : UpdO 4294967295 s (execMulu x0 x1 x2 x3 s))
  | madd x0 x1 x2 x3 => exact (execMadd_upd : UpdO 4294967295 s (execMadd x0 x1 x2 x3 s))
  | maddu x0 x1 x2 x3 => exact (execMaddu_upd : UpdO 4294967295 s (execMaddu x0 x1 x2 x3 s))
  | divq x0 x1 x2 x3 => exact (execDivq_upd : UpdO 4294967295 s (execDivq x0 x1 x2 x3 s))
  | divqu x0 x1 x2 x3 => exact (execDivqu_upd : UpdO 4294967295 s (execDivqu x0 x1 x2 x3 s))
  | remd x0 x1 x2 x3 => exact (execRemd_upd : UpdO 4294967295 s (execRemd x0 x1 x2 x3 s))
  | remdu x0 x1 x2 x3 => exact (execRemdu_upd : UpdO 4294967295 s (execRemdu x0 x1 x2 x3 s))
  | mrdl x0 x1 x2 => exact (execMrdl_upd : UpdO 4294967295 s (execMrdl x0 x1 x2 s))
  | mrdh x0 x1 x2 => exact (execMrdh_upd : UpdO 4294967295 s (execMrdh x0 x1 x2 s))
  | mwr x0 x1 x2 x3 => exact (execMwr_upd : UpdO 4294967295 s (execMwr x0 x1 x2 x3 s))
  | multiplierComplete x0 => exact (execMultiplierComplete_upd : UpdO 131072 s (execMultiplierComplete x0 s))
  | ldb x0 x1 x2 x3 x4 => exact (execLdb_upd : UpdO 4294967295 s (execLdb x0 x1 x2 x3 x4 s))
  | ldbu x0 x1 x2 x3 x4 => exact (execLdbu_upd : UpdO 4294967295 s (execLdbu x0 x1 x2 x3 x4 s))
  | ldh x0 x1 x2 x3 x4 => exact (execLdh_upd : UpdO 4294967295 s (execLdh x0 x1 x2 x3 x4 s))
  | ldhu x0 x1 x2 x3 x4 => exact (execLdhu_upd : UpdO 4294967295 s (execLdhu x0 x1 x2 x3 x4 s))
  | ldw x0 x1 x2 x3 x4 => exact (execLdw_upd : UpdO 4294967295 s (execLdw x0 x1 x2 x3 x4 s))
  | ldwu x0 x1 x2 x3 x4 => exact (execLdwu_upd : UpdO 4294967295 s (execLdwu x0 x1 x2 x3 x4 s))
  | ldd x0 x1 x2 x3 x4 => exact (execLdd_upd : UpdO 4294967295 s (execLdd x0 x1 x2 x3 x4 s))
  | stb x0 x1 x2 x3 x4 => exact (execStb_upd : UpdO 4294967295 s (execStb x0 x1 x2 x3 x4 s))
  | sth x0 x1 x2 x3 x4 => exact (execSth_upd : UpdO 4294967295 s (execSth x0 x1 x2 x3 x4 s))
  | stw x0 x1 x2 x3 x4 => exact (execStw_upd : UpdO 4294967295 s (execStw x0 x1 x2 x3 x4 s))
  | std x0 x1 x2 x3 x4 => exact (execStd_upd : UpdO 4294967295 s (execStd x0 x1 x2 x3 x4 s))
  | lld x0 x1 x2 x3 => exact (execLld_upd : UpdO 4294967295 s (execLld x0 x1 x2 x3 s))
  | scd x0 x1 x2 x3 x4 => exact (execScd_upd : UpdO 4294967295 s (execScd x0 x1 x2 x3 x4 s))
  | swapd x0 x1 x2 x3 x4 => exact (execSwapd_upd : UpdO 4294967295 s (execSwapd x0 x1 x2 x3 x4 s))
  | aaddd x0 x1 x2 x3 x4 => exact (execAaddd_upd : UpdO 4294967295 s (execAaddd x0 x1 x2 x3 x4 s))
  | aandd x0 x1 x2 x3 x4 => exact (execAandd_upd : UpdO 4294967295 s (execAandd x0 x1 x2 x3 x4 s))
  | aord x0 x1 x2 x3 x4 => exact (execAord_upd : UpdO 4294967295 s (execAord x0 x1 x2 x3 x4 s))
  | casd x0 x1 x2 x3 x4 => exact (execCasd_upd : UpdO 4294967295 s (execCasd x0 x1 x2 x3 x4 s))
  | fence x0 x1 => exact (execFence_upd : UpdO 4294967295 s (execFence x0 x1 s))
  | fencei x0 x1 => exact (execFencei_upd : UpdO 4294967295 s (execFencei x0 x1 s))
  | beq x0 x1 x2 x3 x4 => exact (execBeq_upd : UpdO 4294967295 s (execBeq x0 x1 x2 x3 x4 s))
  | bne x0 x1 x2 x3 x4 => exact (execBne_upd : UpdO 4294967295 s (execBne x0 x1 x2 x3 x4 s))
  | blt x0 x1 x2 x3 x4 => exact (execBlt_upd : UpdO 4294967295 s (execBlt x0 x1 x2 x3 x4 s))
  | bge x0 x1 x2 x3 x4 => exact (execBge_upd : UpdO 4294967295 s (execBge x0 x1 x2 x3 x4 s))
  | bltu x0 x1 x2 x3 x4 => exact (execBltu_upd : UpdO 4294967295 s (execBltu x0 x1 x2 x3 x4 s))
  | bgeu x0 x1 x2 x3 x4 => exact (execBgeu_upd : UpdO 4294967295 s (execBgeu x0 x1 x2 x3 x4 s))
  | j x0 x1 x2 => exact (execJ_upd : UpdO 4294967295 s (execJ x0 x1 x2 s))
  | jal x0 x1 x2 => exact (execJal_upd : UpdO 4294967295 s (execJal x0 x1 x2 s))
  | jalr x0 x1 x2 x3 x4 => exact (execJalr_upd : UpdO 4294967295 s (execJalr x0 x1 x2 x3 x4 s))
  | bmov x0 x1 x2 x3 x4 x5 x6 => exact (execBmov_upd : UpdO 4294967295 s (execBmov x0 x1 x2 x3 x4 x5 x6 s))
  | bfill x0 x1 x2 x3 x4 x5 x6 => exact (execBfill_upd : UpdO 4294967295 s (execBfill x0 x1 x2 x3 x4 x5 x6 s))
  | macv x0 x1 x2 x3 x4 x5 x6 => exact (execMacv_upd : UpdO 4294967295 s (execMacv x0 x1 x2 x3 x4 x5 x6 s))
  | sabs x0 x1 x2 x3 x4 x5 => exact (execSabs_upd : UpdO 4294967295 s (execSabs x0 x1 x2 x3 x4 x5 s))
  | mfs x0 x1 x2 x3 => exact (execMfs_upd : UpdO 4294967295 s (execMfs x0 x1 x2 x3 s))
  | mts x0 x1 x2 x3 => exact (execMts_upd : UpdO 4294967295 s (execMts x0 x1 x2 x3 s))
  | eret x0 x1 => exact (execEret_upd : UpdO 4294967295 s (execEret x0 x1 s))
  | gate x0 x1 x2 => exact (execGate_upd : UpdO 4294967295 s (execGate x0 x1 x2 s))
  | gateReturn x0 x1 => exact (execGateReturn_upd : UpdO 4294967295 s (execGateReturn x0 x1 s))
  | trap x0 x1 x2 => exact (execTrap_upd : UpdO 4294967295 s (execTrap x0 x1 x2 s))
  | brk x0 x1 => exact (execBrk_upd : UpdO 4294967295 s (execBrk x0 x1 s))
  | wait x0 x1 => exact (execWait_upd : UpdO 4294967295 s (execWait x0 x1 s))
  | tlbinvPage x0 x1 x2 => exact (execTlbinvPage_upd : UpdO 4294967295 s (execTlbinvPage x0 x1 x2 s))
  | tlbinvAsid x0 x1 x2 => exact (execTlbinvAsid_upd : UpdO 4294967295 s (execTlbinvAsid x0 x1 x2 s))
  | tlbinvWorld x0 x1 => exact (execTlbinvWorld_upd : UpdO 4294967295 s (execTlbinvWorld x0 x1 s))
  | cflush x0 x1 x2 => exact (execCflush_upd : UpdO 4294967295 s (execCflush x0 x1 x2 s))
  | di x0 x1 x2 => exact (execDi_upd : UpdO 4294967295 s (execDi x0 x1 x2 s))
  | ei x0 x1 => exact (execEi_upd : UpdO 4294967295 s (execEi x0 x1 s))
  | illegalInstruction x0 x1 => exact (execIllegalInstruction_upd : UpdO 4294967295 s (execIllegalInstruction x0 x1 s))
  | interruptEntry x0 x1 => exact (execInterruptEntry_upd : UpdO 4294967295 s (execInterruptEntry x0 x1 s))
  | timerInterrupt x0 x1 => exact (execTimerInterrupt_upd : UpdO 131072 s (execTimerInterrupt x0 x1 s))
  | lockstepMismatch x0 x1 => exact (execLockstepMismatch_upd : UpdO 257640 s (execLockstepMismatch x0 x1 s))
  | icClaim x0 x1 => exact (execIcClaim_upd : UpdO 537001992 s (execIcClaim x0 x1 s))
  | icEoi x0 x1 x2 => exact (execIcEoi_upd : UpdO 131072 s (execIcEoi x0 x1 x2 s))
  | icSwi x0 x1 => exact (execIcSwi_upd : UpdO 8 s (execIcSwi x0 x1 s))
  | coreImHeld x0 x1 => exact (execCoreImHeld_upd : UpdO 257640 s (execCoreImHeld x0 x1 s))
  | coreQrel x0 x1 => exact (execCoreQrel_upd : UpdO 131080 s (execCoreQrel x0 x1 s))
  | sramScrub x0 x1 x2 x3 x4 x5 => exact (execSramScrub_upd : UpdO 537133032 s (execSramScrub x0 x1 x2 x3 x4 x5 s))
  | trackerWindowEnd x0 x1 => exact (execTrackerWindowEnd_upd : UpdO 2148008196 s (execTrackerWindowEnd x0 x1 s))
  | splitWrite x0 x1 x2 => exact (execSplitWrite_upd : UpdO 258024 s (execSplitWrite x0 x1 x2 s))
  | eccTestEnable x0 x1 x2 x3 => exact (execEccTestEnable_upd : UpdO 8 s (execEccTestEnable x0 x1 x2 x3 s))
  | eccInj x0 x1 x2 x3 => exact (execEccInj_upd : UpdO 8 s (execEccInj x0 x1 x2 x3 s))
  | readActive x0 x1 x2 x3 x4 => exact (execReadActive_upd : UpdO 257896 s (execReadActive x0 x1 x2 x3 x4 s))
  | readShadow x0 x1 x2 x3 x4 => exact (execReadShadow_upd : UpdO 257896 s (execReadShadow x0 x1 x2 x3 x4 s))
  | writeShadow x0 x1 x2 x3 x4 => exact (execWriteShadow_upd : UpdO 257896 s (execWriteShadow x0 x1 x2 x3 x4 s))
  | atCommit x0 x1 x2 => exact (execAtCommit_upd : UpdO 257896 s (execAtCommit x0 x1 x2 s))
  | atDone => exact (execAtDone_upd : UpdO 8 s (execAtDone s))
  | atVpop x0 x1 x2 => exact (execAtVpop_upd : UpdO 257896 s (execAtVpop x0 x1 x2 s))
  | flsRead x0 x1 x2 => exact (execFlsRead_upd : UpdO 520168 s (execFlsRead x0 x1 x2 s))
  | flsWrite x0 x1 => exact (execFlsWrite_upd : UpdO 537395176 s (execFlsWrite x0 x1 s))
  | trim x0 => exact (execTrim_upd : UpdO 262152 s (execTrim x0 s))
  | flush x0 => exact (execFlush_upd : UpdO 8 s (execFlush x0 s))
  | pread x0 x1 => exact (execPread_upd : UpdO 520168 s (execPread x0 x1 s))
  | mread x0 x1 => exact (execMread_upd : UpdO 262152 s (execMread x0 x1 s))
  | blank x0 x1 => exact (execBlank_upd : UpdO 1073741832 s (execBlank x0 x1 s))
  | flsErase x0 x1 => exact (execFlsErase_upd : UpdO 262248 s (execFlsErase x0 x1 s))
  | pin x0 => exact (execPin_upd : UpdO 262152 s (execPin x0 s))
  | unpin x0 => exact (execUnpin_upd : UpdO 262152 s (execUnpin x0 s))
  | ptrSet x0 x1 => exact (execPtrSet_upd : UpdO 262152 s (execPtrSet x0 x1 s))
  | ptrConfirm x0 => exact (execPtrConfirm_upd : UpdO 262152 s (execPtrConfirm x0 s))
  | windowMiss x0 x1 x2 => exact (execWindowMiss_upd : UpdO 519784 s (execWindowMiss x0 x1 x2 s))
  | flsLunLost x0 => exact (execFlsLunLost_upd : UpdO 257640 s (execFlsLunLost x0 s))
  | powerGoodBoot x0 => exact (execPowerGoodBoot_upd : UpdO 3308257263 s (execPowerGoodBoot x0 s))
  | faultDetection x0 x1 x2 => exact (execFaultDetection_upd : UpdO 537132776 s (execFaultDetection x0 x1 x2 s))
  | consequenceWindowClose x0 x1 => exact (execConsequenceWindowClose_upd : UpdO 2148007972 s (execConsequenceWindowClose x0 x1 s))
  | faultNPulseEnd => exact (execFaultNPulseEnd_upd : UpdO 2148007980 s (execFaultNPulseEnd s))
  | fcuHoldWrite x0 => exact (execFcuHoldWrite_upd : UpdO 8 s (execFcuHoldWrite x0 s))
  | fcuInjPseudo x0 x1 x2 => exact (execFcuInjPseudo_upd : UpdO 537132776 s (execFcuInjPseudo x0 x1 x2 s))
  | fcuInjCheck x0 x1 x2 => exact (execFcuInjCheck_upd : UpdO 537132776 s (execFcuInjCheck x0 x1 x2 s))
  | fcuClr x0 => exact (execFcuClr_upd : UpdO 32 s (execFcuClr x0 s))
  | fcuSrcCfgWrite x0 x1 x2 x3 => exact (execFcuSrcCfgWrite_upd : UpdO 32 s (execFcuSrcCfgWrite x0 x1 x2 x3 s))
  | vddIo33Loss x0 => exact (execVddIo33Loss_upd : UpdO 604765928 s (execVddIo33Loss x0 s))
  | vddIo33Return => exact (execVddIo33Return_upd : UpdO 8 s (execVddIo33Return s))
  | cellRemoved x0 => exact (execCellRemoved_upd : UpdO 604765928 s (execCellRemoved x0 s))
  | cellEnd x0 => exact (execCellEnd_upd : UpdO 604765928 s (execCellEnd x0 s))
  | cellLow x0 => exact (execCellLow_upd : UpdO 604765928 s (execCellLow x0 s))
  | cellInserted x0 => exact (execCellInserted_upd : UpdO 604765928 s (execCellInserted x0 s))
  | kennelDead => exact (execKennelDead_upd : UpdO 557056 s (execKennelDead s))
  | kennelPor x0 x1 => exact (execKennelPor_upd : UpdO 604765932 s (execKennelPor x0 x1 s))
  | tempLow x0 => exact (execTempLow_upd : UpdO 604765928 s (execTempLow x0 s))
  | tempHigh x0 => exact (execTempHigh_upd : UpdO 604765928 s (execTempHigh x0 s))
  | volt x0 => exact (execVolt_upd : UpdO 604765928 s (execVolt x0 s))
  | glitch x0 => exact (execGlitch_upd : UpdO 604765928 s (execGlitch x0 s))
  | clock x0 x1 => exact (execClock_upd : UpdO 604765928 s (execClock x0 x1 s))
  | mesh x0 => exact (execMesh_upd : UpdO 604765928 s (execMesh x0 s))
  | lid x0 => exact (execLid_upd : UpdO 604765928 s (execLid x0 s))
  | loop0 x0 => exact (execLoop0_upd : UpdO 604765928 s (execLoop0 x0 s))
  | loop1 x0 => exact (execLoop1_upd : UpdO 604765928 s (execLoop1 x0 s))
  | monitorRearm x0 => exact (execMonitorRearm_upd : UpdO 8 s (execMonitorRearm x0 s))
  | unlock x0 => exact (execUnlock_upd : UpdO 541589224 s (execUnlock x0 s))
  | clrLatch x0 => exact (execClrLatch_upd : UpdO 4194312 s (execClrLatch x0 s))
  | clrPor x0 => exact (execClrPor_upd : UpdO 8 s (execClrPor x0 s))
  | evqPop x0 => exact (execEvqPop_upd : UpdO 524296 s (execEvqPop x0 s))
  | knlRtcSet x0 x1 => exact (execKnlRtcSet_upd : UpdO 524300 s (execKnlRtcSet x0 x1 s))
  | knlTempWrite x0 x1 x2 => exact (execKnlTempWrite_upd : UpdO 8 s (execKnlTempWrite x0 x1 x2 s))
  | knlMonWrite x0 x1 x2 x3 => exact (execKnlMonWrite_upd : UpdO 8 s (execKnlMonWrite x0 x1 x2 x3 s))
  | knlTrimWrite x0 x1 => exact (execKnlTrimWrite_upd : UpdO 8 s (execKnlTrimWrite x0 x1 s))
  | kennelCollarWrite x0 x1 => exact (execKennelCollarWrite_upd : UpdO 1830504 s (execKennelCollarWrite x0 x1 s))
  | sensorLogInterval x0 x1 x2 => exact (execSensorLogInterval_upd : UpdO 2149314156 s (execSensorLogInterval x0 x1 x2 s))
  | detectionPing x0 x1 x2 => exact (execDetectionPing_upd : UpdO 3762028140 s (execDetectionPing x0 x1 x2 s))
  | pendingCheckinExpiry => exact (execPendingCheckinExpiry_upd : UpdO 2148012036 s (execPendingCheckinExpiry s))
  | tapIdleTimeout => exact (execTapIdleTimeout_upd : UpdO 2150105100 s (execTapIdleTimeout s))
  | externalField => exact (execExternalField_upd : UpdO 2097152 s (execExternalField s))
  | extFieldGone => exact (execExtFieldGone_upd : UpdO 2097152 s (execExtFieldGone s))
  | poll x0 x1 => exact (execPoll_upd : UpdO 1614020200 s (execPoll x0 x1 s))
  | exchange x0 x1 => exact (execExchange_upd : UpdO 539226088 s (execExchange x0 x1 s))
  | deselect x0 => exact (execDeselect_upd : UpdO 2097160 s (execDeselect x0 s))
  | fieldOff x0 => exact (execFieldOff_upd : UpdO 2097160 s (execFieldOff x0 s))
  | nextCard x0 x1 => exact (execNextCard_upd : UpdO 1614020200 s (execNextCard x0 x1 s))
  | collarPowerUp x0 x1 => exact (execCollarPowerUp_upd : UpdO 1075048040 s (execCollarPowerUp x0 x1 s))
  | collarActivation => exact (execCollarActivation_upd : UpdO 537919496 s (execCollarActivation s))
  | collarSelect x0 => exact (execCollarSelect_upd : UpdO 537919488 s (execCollarSelect x0 s))
  | collarRead x0 x1 => exact (execCollarRead_upd : UpdO 537919488 s (execCollarRead x0 x1 s))
  | getState => exact (execGetState_upd : UpdO 537919488 s (execGetState s))
  | verify x0 x1 x2 x3 => exact (execVerify_upd : UpdO 538177128 s (execVerify x0 x1 x2 x3 s))
  | appendNote x0 x1 x2 => exact (execAppendNote_upd : UpdO 538177128 s (execAppendNote x0 x1 x2 s))
  | changePw x0 x1 x2 => exact (execChangePw_upd : UpdO 538177128 s (execChangePw x0 x1 x2 s))
  | resetTries x0 x1 => exact (execResetTries_upd : UpdO 537919488 s (execResetTries x0 x1 s))
  | collarSessionEnd x0 x1 => exact (execCollarSessionEnd_upd : UpdO 2149314156 s (execCollarSessionEnd x0 x1 s))
  | colRead x0 => exact (execColRead_upd : UpdO 1048584 s (execColRead x0 s))
  | colAppend x0 x1 => exact (execColAppend_upd : UpdO 1306216 s (execColAppend x0 x1 s))
  | setPw x0 x1 => exact (execSetPw_upd : UpdO 1306216 s (execSetPw x0 x1 s))
  | unblock x0 x1 => exact (execUnblock_upd : UpdO 1048584 s (execUnblock x0 x1 s))
  | setPolicy x0 => exact (execSetPolicy_upd : UpdO 1048584 s (execSetPolicy x0 s))
  | presencePress => exact (execPresencePress_upd : UpdO 2152202316 s (execPresencePress s))
  | servicePress x0 => exact (execServicePress_upd : UpdO 2152202348 s (execServicePress x0 s))
  | buttonRelease x0 x1 => exact (execButtonRelease_upd : UpdO 2152202284 s (execButtonRelease x0 x1 s))
  | longPress => exact (execLongPress_upd : UpdO 2160590924 s (execLongPress s))
  | pnlStuck x0 => exact (execPnlStuck_upd : UpdO 2152459884 s (execPnlStuck x0 s))
  | initCard x0 x1 => exact (execInitCard_upd : UpdO 2156654188 s (execInitCard x0 x1 s))
  | scRead x0 x1 x2 => exact (execScRead_upd : UpdO 2693525484 s (execScRead x0 x1 x2 s))
  | scWrite x0 x1 => exact (execScWrite_upd : UpdO 2693525356 s (execScWrite x0 x1 s))
  | scErase x0 x1 => exact (execScErase_upd : UpdO 2693267468 s (execScErase x0 x1 s))
  | scUnlock x0 x1 => exact (execScUnlock_upd : UpdO 545517416 s (execScUnlock x0 x1 s))
  | setPwd x0 x1 => exact (execSetPwd_upd : UpdO 2693525356 s (execSetPwd x0 x1 s))
  | clrPwd x0 x1 => exact (execClrPwd_upd : UpdO 2693525356 s (execClrPwd x0 x1 s))
  | forceErase x0 x1 => exact (execForceErase_upd : UpdO 549453832 s (execForceErase x0 x1 s))
  | sleep x0 => exact (execSleep_upd : UpdO 2156396556 s (execSleep x0 s))
  | eject x0 => exact (execEject_upd : UpdO 8388616 s (execEject x0 s))
  | walk x0 x1 x2 => exact (execWalk_upd : UpdO 2156396556 s (execWalk x0 x1 x2 s))
  | autoSleep => exact (execAutoSleep_upd : UpdO 2148007948 s (execAutoSleep s))
  | scBusyTimeout => exact (execScBusyTimeout_upd : UpdO 2156654188 s (execScBusyTimeout s))
  | cardRemoval x0 => exact (execCardRemoval_upd : UpdO 8646248 s (execCardRemoval x0 s))
  | cardInsertion x0 => exact (execCardInsertion_upd : UpdO 2156654188 s (execCardInsertion x0 s))
  | scPwrFault => exact (execScPwrFault_upd : UpdO 8646248 s (execScPwrFault s))
  | hello x0 => exact (execHello_upd : UpdO 1677979240 s (execHello x0 s))
  | smlAuth x0 => exact (execSmlAuth_upd : UpdO 604237416 s (execSmlAuth x0 s))
  | smlKeyUpdate x0 => exact (execSmlKeyUpdate_upd : UpdO 603979784 s (execSmlKeyUpdate x0 s))
  | smlClose x0 => exact (execSmlClose_upd : UpdO 603979784 s (execSmlClose x0 s))
  | smlKeepalive x0 => exact (execSmlKeepalive_upd : UpdO 603979784 s (execSmlKeepalive x0 s))
  | smlReset x0 => exact (execSmlReset_upd : UpdO 603979784 s (execSmlReset x0 s))
  | smlIdleTimeout x0 => exact (execSmlIdleTimeout_upd : UpdO 2215116804 s (execSmlIdleTimeout x0 s))
  | smlRelease x0 => exact (execSmlRelease_upd : UpdO 2215116804 s (execSmlRelease x0 s))
  | smlRead x0 => exact (execSmlRead_upd : UpdO 604237416 s (execSmlRead x0 s))
  | smlWrite x0 x1 => exact (execSmlWrite_upd : UpdO 4249878508 s (execSmlWrite x0 x1 s))
  | segRead x0 => exact (execSegRead_upd : UpdO 603979784 s (execSegRead x0 s))
  | segBegin x0 => exact (execSegBegin_upd : UpdO 603979784 s (execSegBegin x0 s))
  | segWrite x0 => exact (execSegWrite_upd : UpdO 603979784 s (execSegWrite x0 s))
  | segEnd x0 x1 => exact (execSegEnd_upd : UpdO 2101608424 s (execSegEnd x0 x1 s))
  | segAbort x0 => exact (execSegAbort_upd : UpdO 603979784 s (execSegAbort x0 s))
  | handleExpiry x0 x1 x2 => exact (execHandleExpiry_upd : UpdO 2215116804 s (execHandleExpiry x0 x1 x2 s))
  | subscribe x0 => exact (execSubscribe_upd : UpdO 603979784 s (execSubscribe x0 s))
  | unsubscribe x0 => exact (execUnsubscribe_upd : UpdO 603979784 s (execUnsubscribe x0 s))
  | notifyIntervalEnd x0 x1 => exact (execNotifyIntervalEnd_upd : UpdO 2751987716 s (execNotifyIntervalEnd x0 x1 s))
  | notifyAck x0 => exact (execNotifyAck_upd : UpdO 603979784 s (execNotifyAck x0 s))
  | notifyResend x0 x1 => exact (execNotifyResend_upd : UpdO 2751987716 s (execNotifyResend x0 x1 s))
  | reassemblyTimeout x0 x1 x2 => exact (execReassemblyTimeout_upd : UpdO 2215116804 s (execReassemblyTimeout x0 x1 x2 s))
  | addressChangeEffect => exact (execAddressChangeEffect_upd : UpdO 2215116812 s (execAddressChangeEffect s))
  | oldAddressExpiry => exact (execOldAddressExpiry_upd : UpdO 2215116804 s (execOldAddressExpiry s))
  | vendorWindowTick => exact (execVendorWindowTick_upd : UpdO 2886205444 s (execVendorWindowTick s))
  | restoreDefaults x0 x1 x2 => exact (execRestoreDefaults_upd : UpdO 4249878508 s (execRestoreDefaults x0 x1 x2 s))
  | enroll x0 x1 x2 => exact (execEnroll_upd : UpdO 4249878508 s (execEnroll x0 x1 x2 s))
  | escrowCreate x0 x1 x2 x3 => exact (execEscrowCreate_upd : UpdO 4249878508 s (execEscrowCreate x0 x1 x2 x3 s))
  | vaultRotate x0 x1 x2 x3 => exact (execVaultRotate_upd : UpdO 4249878508 s (execVaultRotate x0 x1 x2 x3 s))
  | vaultRestore x0 x1 x2 => exact (execVaultRestore_upd : UpdO 4249878508 s (execVaultRestore x0 x1 x2 s))
  | nsCreate x0 x1 x2 => exact (execNsCreate_upd : UpdO 4249878508 s (execNsCreate x0 x1 x2 s))
  | nsRotate x0 x1 x2 => exact (execNsRotate_upd : UpdO 4249878508 s (execNsRotate x0 x1 x2 s))
  | nsDestroy x0 x1 x2 => exact (execNsDestroy_upd : UpdO 4249878508 s (execNsDestroy x0 x1 x2 s))
  | manifestKeyChange x0 x1 x2 => exact (execManifestKeyChange_upd : UpdO 4249878508 s (execManifestKeyChange x0 x1 x2 s))
  | ownerRelease x0 x1 x2 => exact (execOwnerRelease_upd : UpdO 4249878508 s (execOwnerRelease x0 x1 x2 s))
  | attest x0 x1 x2 => exact (execAttest_upd : UpdO 4249878508 s (execAttest x0 x1 x2 s))
  | srcClear x0 x1 x2 => exact (execSrcClear_upd : UpdO 4249878508 s (execSrcClear x0 x1 x2 s))
  | knlUnlock x0 x1 x2 => exact (execKnlUnlock_upd : UpdO 4249878508 s (execKnlUnlock x0 x1 x2 s))
  | knlClrLatch x0 x1 x2 => exact (execKnlClrLatch_upd : UpdO 4249878508 s (execKnlClrLatch x0 x1 x2 s))
  | bundleExport x0 x1 x2 => exact (execBundleExport_upd : UpdO 4249878508 s (execBundleExport x0 x1 x2 s))
  | bundleImport x0 x1 x2 => exact (execBundleImport_upd : UpdO 4249878508 s (execBundleImport x0 x1 x2 s))
  | selftest x0 x1 x2 => exact (execSelftest_upd : UpdO 4249878508 s (execSelftest x0 x1 x2 s))
  | fcuInject x0 x1 x2 x3 => exact (execFcuInject_upd : UpdO 4249878508 s (execFcuInject x0 x1 x2 x3 s))
  | eccInject x0 x1 x2 => exact (execEccInject_upd : UpdO 4249878508 s (execEccInject x0 x1 x2 s))
  | mgtMdio x0 x1 x2 x3 x4 => exact (execMgtMdio_upd : UpdO 2685136492 s (execMgtMdio x0 x1 x2 x3 x4 s))
  | mgtLinkDown x0 => exact (execMgtLinkDown_upd : UpdO 257640 s (execMgtLinkDown x0 s))
  | trailRecordAccept => exact (execTrailRecordAccept_upd : UpdO 258024 s (execTrailRecordAccept s))
  | subInterrupt x0 => exact (execSubInterrupt_upd : UpdO 2148008012 s (execSubInterrupt x0 s))
  | trailJournalCommit x0 => exact (execTrailJournalCommit_upd : UpdO 2148265580 s (execTrailJournalCommit x0 s))
  | trlWr x0 x1 x2 x3 x4 => exact (execTrlWr_upd : UpdO 72 s (execTrlWr x0 x1 x2 x3 x4 s))
  | telemetrySample x0 => exact (execTelemetrySample_upd : UpdO 2181820012 s (execTelemetrySample x0 s))
  | dramPatrolScrub x0 x1 x2 => exact (execDramPatrolScrub_upd : UpdO 537133032 s (execDramPatrolScrub x0 x1 x2 s))
  | readDisturbRefresh x0 x1 x2 => exact (execReadDisturbRefresh_upd : UpdO 34074216 s (execReadDisturbRefresh x0 x1 x2 s))
  | flashReadScrub x0 x1 x2 => exact (execFlashReadScrub_upd : UpdO 2182082156 s (execFlashReadScrub x0 x1 x2 s))
  | wearLevelling x0 x1 x2 => exact (execWearLevelling_upd : UpdO 519784 s (execWearLevelling x0 x1 x2 s))
  | ddrPeriodicCalibration x0 => exact (execDdrPeriodicCalibration_upd : UpdO 2148007940 s (execDdrPeriodicCalibration x0 s))
  | ddrRetraining x0 => exact (execDdrRetraining_upd : UpdO 1107298312 s (execDdrRetraining x0 s))
  | sensorCalibration x0 x1 => exact (execSensorCalibration_upd : UpdO 33812072 s (execSensorCalibration x0 x1 s))
  | kennelOscillatorTrim x0 x1 => exact (execKennelOscillatorTrim_upd : UpdO 33554440 s (execKennelOscillatorTrim x0 x1 s))
  | brnOverrun x0 => exact (execBrnOverrun_upd : UpdO 257640 s (execBrnOverrun x0 s))
  | refclkLoss => exact (execRefclkLoss_upd : UpdO 535298043 s (execRefclkLoss s))
  | pllUnlock => exact (execPllUnlock_upd : UpdO 535298043 s (execPllUnlock s))
  | refclkRestore => exact (execRefclkRestore_upd : UpdO 2164785156 s (execRefclkRestore s))
  | laneRefLoss x0 => exact (execLaneRefLoss_upd : UpdO 537128552 s (execLaneRefLoss x0 s))
  | nfcXtalLoss => exact (execNfcXtalLoss_upd : UpdO 2354792 s (execNfcXtalLoss s))
  | pwrOkFall x0 => exact (execPwrOkFall_upd : UpdO 535298043 s (execPwrOkFall x0 s))
  | pwrOkRise => exact (execPwrOkRise_upd : UpdO 535298043 s (execPwrOkRise s))
  | sysrst => exact (execSysrst_upd : UpdO 2683305983 s (execSysrst s))
  | rstMain x0 => exact (execRstMain_upd : UpdO 2683305983 s (execRstMain x0 s))
  | rstPair x0 x1 x2 => exact (execRstPair_upd : UpdO 131080 s (execRstPair x0 x1 x2 s))
  | watchdogExpiry => exact (execWatchdogExpiry_upd : UpdO 2683305983 s (execWatchdogExpiry s))
  | wdtKick x0 x1 => exact (execWdtKick_upd : UpdO 16777216 s (execWdtKick x0 x1 s))
  | wdtEnable x0 => exact (execWdtEnable_upd : UpdO 16777224 s (execWdtEnable x0 s))
  | sealEnter x0 x1 x2 => exact (execSealEnter_upd : UpdO 2735734767 s (execSealEnter x0 x1 x2 s))
  | shutdown x0 x1 => exact (execShutdown_upd : UpdO 16801355 s (execShutdown x0 x1 s))
  | shutdownTimeout => exact (execShutdownTimeout_upd : UpdO 2164785164 s (execShutdownTimeout s))
  | pwrAvs x0 x1 => exact (execPwrAvs_upd : UpdO 8 s (execPwrAvs x0 x1 s))
  | avsStep x0 => exact (execAvsStep_upd : UpdO 2701656076 s (execAvsStep x0 s))
  | stCmd x0 x1 x2 => exact (execStCmd_upd : UpdO 16987144 s (execStCmd x0 x1 x2 s))
  | stDone => exact (execStDone_upd : UpdO 83886088 s (execStDone s))
  | debugAuth x0 => exact (execDebugAuth_upd : UpdO 1631846120 s (execDebugAuth x0 s))
  | debugExpiry => exact (execDebugExpiry_upd : UpdO 2164785164 s (execDebugExpiry s))
  | dbgNonce => exact (execDbgNonce_upd : UpdO 553648128 s (execDbgNonce s))
  | dbgAccess x0 x1 x2 x3 => exact (execDbgAccess_upd : UpdO 4294967295 s (execDbgAccess x0 x1 x2 x3 s))
  | bypass => exact (execBypass_upd : UpdO 553648128 s (execBypass s))
  | idcode => exact (execIdcode_upd : UpdO 553648128 s (execIdcode s))
  | samplePreload x0 x1 => exact (execSamplePreload_upd : UpdO 553648128 s (execSamplePreload x0 x1 s))
  | extest x0 x1 => exact (execExtest_upd : UpdO 553648128 s (execExtest x0 x1 s))
  | clamp => exact (execClamp_upd : UpdO 553648128 s (execClamp s))
  | highz => exact (execHighz_upd : UpdO 553648128 s (execHighz s))
  | testReset => exact (execTestReset_upd : UpdO 16777216 s (execTestReset s))
  | registerWrite x0 x1 x2 x3 => exact (execRegisterWrite_upd : UpdO 257656 s (execRegisterWrite x0 x1 x2 x3 s))
  | holdupOk => exact (execHoldupOk_upd : UpdO 8 s (execHoldupOk s))
  | mgtLinkUp x0 x1 => exact (execMgtLinkUp_upd : UpdO 40 s (execMgtLinkUp x0 x1 s))
  | arpNdEchoRequest x0 x1 x2 => exact (execArpNdEchoRequest_upd : UpdO 536870920 s (execArpNdEchoRequest x0 x1 x2 s))
  | smlAuthWaitTimeout x0 => exact (execSmlAuthWaitTimeout_upd : UpdO 2215116804 s (execSmlAuthWaitTimeout x0 s))
  | corePairSelftestDone x0 x1 x2 => exact (execCorePairSelftestDone_upd : UpdO 17038952 s (execCorePairSelftestDone x0 x1 x2 s))
  | laneRefReturn x0 => exact (execLaneRefReturn_upd : UpdO 8 s (execLaneRefReturn x0 s))
  | nfcXtalReturn => exact (execNfcXtalReturn_upd : UpdO 2097192 s (execNfcXtalReturn s))

end Sys2Proof.Machine
end

