-- ==== Sys2Proof/WellFormed.lean ====
section
/-!
DEFINITION. Which commands are well formed: every operand lies in the range that its field, register or unit count gives it (Tables 1-1,
2-1, 7-3 and 18-1 and the registers' widths). The meanings are total: they take ill-formed operands too (assumption 5).
-/

namespace Sys2Proof

open Sys2Proof.Machine

/-- A number below a bound. -/
def below (n b : Nat) : Bool := decide (n < b)

/-- A number fits `w` bits. -/
def fits (n w : Nat) : Bool := decide (n < 2 ^ w)

/-- A signed number within a bound. -/
def within (n : Int) (b : Nat) : Bool := decide (-(b : Int) ≤ n ∧ n ≤ b)

/-- A list of at most so many elements. -/
def upTo {α : Type} (l : List α) (n : Nat) : Bool := decide (l.length ≤ n)

/-- An optional tag is of 128 bits. -/
def tagFits (t : Option Nat) : Bool := t.all (fun t => fits t 128)

/-- A Seal Transport frame as it arrives fits its packet (Table 2-1, R41, R50). -/
def Machine.NorthIn.wf (f : NorthIn) : Bool :=
  below f.mac 16 && fits f.src 128 && fits f.dst 128 && fits f.sport 16 && fits f.dport 16 && upTo f.header 32 && upTo f.payload 65535 && tagFits f.tag

/-- A Fragment Transport message as it arrives fits its packet or its stream (Table 7-3). -/
def Machine.SouthIn.wf (m : SouthIn) : Bool :=
  below m.port 24 && m.net.all (fun n => fits n.src 128 && fits n.dst 128 && fits n.sport 16 && fits n.dport 16) && upTo m.header 32 && upTo m.payload 65535
    && tagFits m.tag

/-- What a Smilia frame travels in has addresses and ports of their widths (R550). -/
def Machine.SmlNet.wf : SmlNet → Bool
  | .udp _ src dst sport dport => fits src 128 && fits dst 128 && fits sport 16 && fits dport 16
  | .ether src dst typ => fits src 48 && fits dst 48 && fits typ 16

/-- A Smilia frame as it arrives fits its packet (Table 18-1). -/
def Machine.SmlIn.wf (f : SmlIn) : Bool := f.net.wf && upTo f.header 28 && upTo f.payload 65535 && tagFits f.tag

/-- What the Kennel measures fits its record (Table 15-5). -/
def Machine.Reading.wf (r : Reading) : Bool := within r.temp 128 && fits r.vbat 16 && fits r.vkeep 16

/-- An entry of a REPORT fits its fields (Table 7-6). -/
def Machine.ReportEntry.wf (e : ReportEntry) : Bool := fits e.media 16 && below e.state 256 && below e.wear 256 && fits e.uid 128

/-- A start-up names core pairs, LUNs, Awl units and sponge cores that exist (Table 1-1). -/
def Machine.BootIn.wf (x : BootIn) : Bool := x.pairs.all (below · 16) && below x.luns 256 && x.awlFail.all (below · 16) && x.spongeFail.all (below · 128)

/-- An entry to SEAL names channels, units and ports that exist (Table 1-1). -/
def Machine.SealIn.wf (x : SealIn) : Bool :=
  x.trained.all (fun c => below c.1 12) && x.stitchFail.all (below · 12) && x.spongeFail.all (below · 128) && x.awlFail.all (below · 16)
  && x.north.all (below · 16) && x.south.all (below · 24) && x.mka.all (fun m => below m.1 16)
  && x.southAddrs.all (fun a => below a.1 24 && fits a.2.2 128)

/-- A command is well formed. -/
def Instr.wf : Instr → Bool
  | .centralRetry .. => true
  | .trailBacklog port => below port 512
  | .sealSetLost => true
  | .heelAfterDrain => true
  | .sealResumption => true
  | .clientHello f rate => f.wf && fits rate 32
  | .clientHelloSegmentTimeout sender => fits sender 176
  | .auth f anchors _ => f.wf && upTo anchors 65536
  | .authWaitTimeout session => fits session 32
  | .keyUpdate f => f.wf
  | .prevKeyErase link id => below link 2 && fits id 32
  | .close f => f.wf
  | .closeAck f => f.wf
  | .keepalive f => f.wf
  | .reset f => f.wf
  | .sessionIdleTimeout session => fits session 32
  | .sessionRelease session => fits session 32
  | .ack f => f.wf
  | .ackDelayTimer _ id => fits id 32
  | .rtoExpiry session pn => fits session 32 && fits pn 64
  | .pathReprobe _ id path => fits id 32 && below path 32
  | .pathProbe f _ => f.wf
  | .pathAdd f => f.wf
  | .northPathFault port => below port 16
  | .keepaliveTimer session => fits session 32
  | .queueOpen f => f.wf
  | .queueClose f => f.wf
  | .objBegin f => f.wf
  | .data f => f.wf
  | .objEnd f => f.wf
  | .objAbort f => f.wf
  | .creditGrant ingest restore => fits ingest 64 && fits restore 64
  | .queueIdleTimeout queue => below queue 262144
  | .receiptHoldExpiry queue => below queue 262144
  | .receiptGet f => f.wf
  | .epochGet f => f.wf
  | .restoreReq f => f.wf
  | .credit f => f.wf
  | .restoreDataSend handle => below handle 65536
  | .restoreIdleTimeout handle => below handle 65536
  | .rangeHandover obj idx range => fits obj 64 && fits idx 32 && fits range 32
  | .contextSwitch unit => below unit 12
  | .stuCompareFail unit code => below unit 12 && below code 256
  | .maskReseed unit pipe => below unit 12 && below pipe 256
  | .reseedLate unit pipe => below unit 12 && below pipe 256
  | .plaintextPoison unit _ => below unit 12
  | .rowRelease unit => below unit 12
  | .rangeDone unit => below unit 12
  | .tagCombine obj idx => fits obj 64 && fits idx 32
  | .unsealTagCheck handle idx => below handle 65536 && fits idx 32
  | .stuSelftestDone unit _ signature => below unit 12 && fits signature 32
  | .stuEnWrite unit _ => below unit 12
  | .stReq unit => below unit 12
  | .stuQrel unit _ => below unit 12
  | .rollingSelftestGrant _ unit load' => below unit 128 && fits load' 32
  | .rollingSelftestWithdraw _ unit => below unit 128
  | .selftestDeferred _ unit => below unit 128
  | .shpStOverdue _ unit => below unit 128
  | .channelFail channel => below channel 12
  | .regeneration obj idx => fits obj 64 && fits idx 32
  | .regenPlaceWait obj idx => fits obj 64 && fits idx 32
  | .pageMoveDone channel oldPage => below channel 12 && fits oldPage 32
  | .retrainEnd channel => below channel 12
  | .rcCounterRead _ slot off => below slot 65536 && below off 65536
  | .readMedia id => below id 1024
  | .writeMedia id _ _ => below id 1024
  | .readShelf id => below id 64
  | .writeShelf id _ => below id 64
  | .extentAdmit obj idx ingest restore => fits obj 64 && fits idx 32 && fits ingest 64 && fits restore 64
  | .placementRetry obj idx => fits obj 64 && fits idx 32
  | .placementFix obj idx => fits obj 64 && fits idx 32
  | .wakeDecision => true
  | .wakeTimeout shelf => below shelf 64
  | .shelfLost shelf => below shelf 64
  | .shepherdSave => true
  | .factorRecompute => true
  | .coreTestRequest pair load' => below pair 16 && fits load' 32
  | .shpCoreRel pair _ => below pair 16
  | .coreReleaseTimeout => true
  | .seedCommit high _ => fits high 32
  | .permutationMismatch core _ => below core 128
  | .fragmentHashDone obj idx frag => fits obj 64 && fits idx 32 && below frag 256
  | .epochSlotEnd => true
  | .epochLenChange => true
  | .notarisedEpochClose obj => fits obj 64
  | .epochSignDone epoch => fits epoch 64
  | .epochVerifyDone epoch _ => fits epoch 64
  | .manifestLogAppend epoch => fits epoch 64
  | .reverifyDue obj idx frag => fits obj 64 && fits idx 32 && below frag 256
  | .attestRequest nonce fails => upTo nonce 32 && below fails 256
  | .pckQrel core _ => below core 128
  | .pckSelftestDone core _ signature => below core 128 && fits signature 32
  | .flitReceive port _ flit => below port 24 && upTo flit 1285
  | .flitResendTimer port => below port 24
  | .flitIdleSend port => below port 24
  | .ftLinkDown port _ skew => below port 24 && fits skew 32
  | .tetherBringupRetry port _ skew => below port 24 && fits skew 32
  | .announce m => m.wf
  | .ftAuth m => m.wf
  | .ftKeyUpdate m => m.wf
  | .ftReset m => m.wf
  | .ftHandshakeTimeout shelf => below shelf 64
  | .pathConfirm m => m.wf
  | .ftPathProbe m _ => m.wf
  | .ftAck m => m.wf
  | .ftRtoExpiry shelf seq => below shelf 64 && fits seq 64
  | .ftCredit m => m.wf
  | .durable m => m.wf
  | .durableTimeout shelf xid => below shelf 64 && fits xid 64
  | .getData m => m.wf
  | .getTimeout shelf xid => below shelf 64 && fits xid 64
  | .powerState m => m.wf
  | .report m => m.wf
  | .ftStatus m => m.wf
  | .drainSend shelf => below shelf 64
  | .catalogueWrite kind num _ => below kind 256 && fits num 32
  | .cataloguePlaceRetry kind num => below kind 256 && fits num 32
  | .catalogueRebuild => true
  | .restoreBufferWait handle => below handle 65536
  | .evacuate media => below media 1024
  | .evacuateCancel media => below media 1024
  | .dkReq unit ctx failed => below unit 12 && below ctx 3 && below failed 256
  | .keyLoad _ unit slot failed => below unit 16 && below slot 65536 && below failed 256
  | .keyStore unit slot attr value failed => below unit 16 && below slot 65536 && fits attr 32 && fits value 512 && below failed 256
  | .ghashPartial obj idx first => fits obj 64 && fits idx 32 && fits first 32
  | .clear _ slot => below slot 65536
  | .epochMapMissLoad ns epoch bad => below ns 4096 && fits epoch 64 && fits bad 32
  | .sdbMacroLost bank ram => below bank 4096 && below ram 65536
  | .gen .. => true
  | .derive .. => true
  | .wrap .. => true
  | .load _ bad => fits bad 32
  | .zero .. => true
  | .setAttr .. => true
  | .sealGcm .. => true
  | .openGcm .. => true
  | .vkGen .. => true
  | .vkSplit .. => true
  | .vkCombine .. => true
  | .vkCommit .. => true
  | .nsCurrent .. => true
  | .trngSourceFail source _ => below source 4
  | .drbgReseed => true
  | .badgeAuth .. => true
  | .presenceTimeout => true
  | .awlRingTail _ tail => below tail 65536
  | .awlDispatch => true
  | .modAdd unit => below unit 16
  | .modSub unit => below unit 16
  | .modMul unit => below unit 16
  | .modExp unit => below unit 16
  | .modInv unit => below unit 16
  | .modRed unit => below unit 16
  | .awlMul unit => below unit 16
  | .ntt unit => below unit 16
  | .intt unit => below unit 16
  | .polyMac unit => below unit 16
  | .ecMul unit => below unit 16
  | .ecPub unit => below unit 16
  | .ecdsaSign unit => below unit 16
  | .ecdsaVerify unit => below unit 16
  | .ed25519Verify unit => below unit 16
  | .x25519Gen unit => below unit 16
  | .x25519 unit => below unit 16
  | .mlkemKeygen unit => below unit 16
  | .mlkemEncaps unit => below unit 16
  | .mlkemDecaps unit => below unit 16
  | .mldsaPub unit => below unit 16
  | .mldsaSign unit => below unit 16
  | .mldsaVerify unit => below unit 16
  | .awlCompletion unit => below unit 16
  | .awlDone => true
  | .awlAbort _ index _ => below index 65536
  | .awlMismatch unit _ => below unit 16
  | .awlQrel unit _ => below unit 16
  | .awlSelftestDone unit _ signature => below unit 16 && fits signature 32
  | .add .. => true
  | .sub .. => true
  | .andReg .. => true
  | .orReg .. => true
  | .xor .. => true
  | .andn .. => true
  | .slt .. => true
  | .sltu .. => true
  | .sll .. => true
  | .srl .. => true
  | .sra .. => true
  | .ror .. => true
  | .moveqz .. => true
  | .movnez .. => true
  | .clz .. => true
  | .popc .. => true
  | .bswap .. => true
  | .addi .. => true
  | .andi .. => true
  | .ori .. => true
  | .xori .. => true
  | .slti .. => true
  | .sltiu .. => true
  | .movz .. => true
  | .movk .. => true
  | .adrp .. => true
  | .slli .. => true
  | .srli .. => true
  | .srai .. => true
  | .mul .. => true
  | .mulu .. => true
  | .madd .. => true
  | .maddu .. => true
  | .divq .. => true
  | .divqu .. => true
  | .remd .. => true
  | .remdu .. => true
  | .mrdl .. => true
  | .mrdh .. => true
  | .mwr .. => true
  | .multiplierComplete .. => true
  | .ldb .. => true
  | .ldbu .. => true
  | .ldh .. => true
  | .ldhu .. => true
  | .ldw .. => true
  | .ldwu .. => true
  | .ldd .. => true
  | .stb .. => true
  | .sth .. => true
  | .stw .. => true
  | .std .. => true
  | .lld .. => true
  | .scd .. => true
  | .swapd .. => true
  | .aaddd .. => true
  | .aandd .. => true
  | .aord .. => true
  | .casd .. => true
  | .fence .. => true
  | .fencei .. => true
  | .beq .. => true
  | .bne .. => true
  | .blt .. => true
  | .bge .. => true
  | .bltu .. => true
  | .bgeu .. => true
  | .j .. => true
  | .jal .. => true
  | .jalr .. => true
  | .bmov _ _ elements _ _ _ _ => fits elements 16
  | .bfill _ _ elements _ _ _ _ => fits elements 16
  | .macv _ _ elements _ _ _ _ => fits elements 16
  | .sabs _ _ elements _ _ _ => fits elements 16
  | .mfs .. => true
  | .mts .. => true
  | .eret .. => true
  | .gate .. => true
  | .gateReturn .. => true
  | .trap .. => true
  | .brk .. => true
  | .wait .. => true
  | .tlbinvPage .. => true
  | .tlbinvAsid .. => true
  | .tlbinvWorld .. => true
  | .cflush .. => true
  | .di .. => true
  | .ei .. => true
  | .illegalInstruction .. => true
  | .interruptEntry .. => true
  | .timerInterrupt .. => true
  | .lockstepMismatch .. => true
  | .icClaim .. => true
  | .icEoi _ _ source => below source 1024
  | .icSwi _ source => below source 1024
  | .coreImHeld .. => true
  | .coreQrel .. => true
  | .sramScrub cluster ram row addr flips _ => below cluster 256 && below ram 65536 && fits row 32 && fits addr 64 && fits flips 40
  | .trackerWindowEnd unit entry => fits unit 16 && below entry 256
  | .splitWrite pair _ check => below pair 16 && fits check 32
  | .eccTestEnable _ _ flipChk _ => below flipChk 256
  | .eccInj checker mask count _ => below checker 1024 && fits mask 40 && fits count 16
  | .readActive pair _ _ target index => below pair 16 && fits target 16 && fits index 16
  | .readShadow pair _ _ target index => below pair 16 && fits target 16 && below index 65536
  | .writeShadow pair _ _ target index => below pair 16 && fits target 16 && below index 65536
  | .atCommit pair _ _ => below pair 16
  | .atDone => true
  | .atVpop pair _ _ => below pair 16
  | .flsRead _ bad weak => upTo bad 65536 && upTo weak 65536
  | .flsWrite _ fails => below fails 256
  | .trim .. => true
  | .flush .. => true
  | .pread _ bad => upTo bad 65536
  | .mread _ maxcorr => below maxcorr 256
  | .blank .. => true
  | .flsErase _ fails => below fails 256
  | .pin .. => true
  | .unpin .. => true
  | .ptrSet .. => true
  | .ptrConfirm .. => true
  | .windowMiss byte _ _ => fits byte 32
  | .flsLunLost lun => below lun 8
  | .powerGoodBoot x => x.wf
  | .faultDetection src detail rebuilt => below src 1024 && fits detail 32 && fits rebuilt 32
  | .consequenceWindowClose opener _ => below opener 1024
  | .faultNPulseEnd => true
  | .fcuHoldWrite .. => true
  | .fcuInjPseudo src _ _ => below src 1024
  | .fcuInjCheck src mask _ => below src 1024 && fits mask 40
  | .fcuClr src => below src 1024
  | .fcuSrcCfgWrite cls react line _ => below cls 4 && below react 16 && below line 64
  | .vddIo33Loss r => r.wf
  | .vddIo33Return => true
  | .cellRemoved r => r.wf
  | .cellEnd r => r.wf
  | .cellLow r => r.wf
  | .cellInserted r => r.wf
  | .kennelDead => true
  | .kennelPor _ r => r.wf
  | .tempLow r => r.wf
  | .tempHigh r => r.wf
  | .volt r => r.wf
  | .glitch r => r.wf
  | .clock _ r => r.wf
  | .mesh r => r.wf
  | .lid r => r.wf
  | .loop0 r => r.wf
  | .loop1 r => r.wf
  | .monitorRearm m => below m 15
  | .unlock .. => true
  | .clrLatch .. => true
  | .clrPor .. => true
  | .evqPop .. => true
  | .knlRtcSet time _ => fits time 64
  | .knlTempWrite low high _ => within low 128 && within high 128
  | .knlMonWrite m resp _ _ => below m 15 && below resp 4
  | .knlTrimWrite ppm10 _ => within ppm10 32768
  | .kennelCollarWrite vkeep bad => fits vkeep 16 && fits bad 32
  | .sensorLogInterval least greatest vbat => within least 128 && within greatest 128 && fits vbat 16
  | .detectionPing amp phase cards => fits amp 16 && within phase 360000 && upTo cards 64
  | .pendingCheckinExpiry => true
  | .tapIdleTimeout => true
  | .externalField => true
  | .extFieldGone => true
  | .poll _ cards => upTo cards 64
  | .exchange .. => true
  | .deselect .. => true
  | .fieldOff .. => true
  | .nextCard _ cards => upTo cards 64
  | .collarPowerUp .. => true
  | .collarActivation => true
  | .collarSelect aid => upTo aid 16
  | .collarRead addr le => fits addr 16 && fits le 16
  | .getState => true
  | .verify n pw _ _ => below n 256 && upTo pw 8
  | .appendNote body _ bad => upTo body 1500 && fits bad 32
  | .changePw n pw _ => below n 256 && upTo pw 8
  | .resetTries n _ => below n 256
  | .collarSessionEnd .. => true
  | .colRead .. => true
  | .colAppend _ bad => fits bad 32
  | .setPw _ pw => below pw 4
  | .unblock _ pw => below pw 4
  | .setPolicy .. => true
  | .presencePress => true
  | .servicePress held => fits held 32
  | .buttonRelease _ held => fits held 32
  | .longPress => true
  | .pnlStuck .. => true
  | .initCard .. => true
  | .scRead _ data' _ => upTo data' 65536
  | .scWrite .. => true
  | .scErase .. => true
  | .scUnlock .. => true
  | .setPwd .. => true
  | .clrPwd .. => true
  | .forceErase .. => true
  | .sleep .. => true
  | .eject .. => true
  | .walk .. => true
  | .autoSleep => true
  | .scBusyTimeout => true
  | .cardRemoval .. => true
  | .cardInsertion .. => true
  | .scPwrFault => true
  | .hello f => f.wf
  | .smlAuth f => f.wf
  | .smlKeyUpdate f => f.wf
  | .smlClose f => f.wf
  | .smlKeepalive f => f.wf
  | .smlReset f => f.wf
  | .smlIdleTimeout session => fits session 32
  | .smlRelease session => fits session 32
  | .smlRead f => f.wf
  | .smlWrite f _ => f.wf
  | .segRead f => f.wf
  | .segBegin f => f.wf
  | .segWrite f => f.wf
  | .segEnd f _ => f.wf
  | .segAbort f => f.wf
  | .handleExpiry _ session handle => fits session 32 && below handle 65536
  | .subscribe f => f.wf
  | .unsubscribe f => f.wf
  | .notifyIntervalEnd session sub' => fits session 32 && fits sub' 32
  | .notifyAck f => f.wf
  | .notifyResend session number => fits session 32 && fits number 32
  | .reassemblyTimeout _ session key => fits session 32 && fits key 200
  | .addressChangeEffect => true
  | .oldAddressExpiry => true
  | .vendorWindowTick => true
  | .restoreDefaults session nibble _ => fits session 32 && below nibble 16
  | .enroll session content _ => fits session 32 && upTo content 65536
  | .escrowCreate session t n _ => fits session 32 && below t 256 && below n 256
  | .vaultRotate session t n _ => fits session 32 && below t 256 && below n 256
  | .vaultRestore session set _ => fits session 32 && fits set 64
  | .nsCreate session ns _ => fits session 32 && fits ns 64
  | .nsRotate session ns _ => fits session 32 && fits ns 64
  | .nsDestroy session ns _ => fits session 32 && fits ns 64
  | .manifestKeyChange session value _ => fits session 32 && fits value 64
  | .ownerRelease session value _ => fits session 32 && fits value 64
  | .attest session nonce _ => fits session 32 && upTo nonce 32
  | .srcClear session src _ => fits session 32 && fits src 64
  | .knlUnlock session value _ => fits session 32 && fits value 64
  | .knlClrLatch session value _ => fits session 32 && fits value 64
  | .bundleExport session kind _ => fits session 32 && fits kind 64
  | .bundleImport session number _ => fits session 32 && fits number 32
  | .selftest session kind _ => fits session 32 && fits kind 64
  | .fcuInject session injection detail _ => fits session 32 && fits injection 32 && fits detail 32
  | .eccInject session injection _ => fits session 32 && fits injection 32
  | .mgtMdio reg data' _ _ answer => below reg 32 && fits data' 16 && (answer.all (fun v => fits v 16))
  | .mgtLinkDown .. => true
  | .trailRecordAccept => true
  | .subInterrupt sub' => below sub' 16
  | .trailJournalCommit .. => true
  | .trlWr pair _ _ event _ => below pair 16 && fits event 16
  | .telemetrySample .. => true
  | .dramPatrolScrub channel offset flips => below channel 12 && fits offset 64 && fits flips 40
  | .readDisturbRefresh block bad fails => fits block 16 && upTo bad 65536 && below fails 256
  | .flashReadScrub block bad weak => fits block 16 && upTo bad 65536 && upTo weak 65536
  | .wearLevelling block bad fails => fits block 16 && upTo bad 65536 && below fails 256
  | .ddrPeriodicCalibration channel => below channel 12
  | .ddrRetraining channel => below channel 12
  | .sensorCalibration sensor off => below sensor 64 && within off 65536
  | .kennelOscillatorTrim ppm10 _ => within ppm10 32768
  | .brnOverrun activity => fits activity 32
  | .refclkLoss => true
  | .pllUnlock => true
  | .refclkRestore => true
  | .laneRefLoss .. => true
  | .nfcXtalLoss => true
  | .pwrOkFall torn => upTo torn 65536
  | .pwrOkRise => true
  | .sysrst => true
  | .rstMain .. => true
  | .rstPair .. => true
  | .watchdogExpiry => true
  | .wdtKick _ key => fits key 32
  | .wdtEnable .. => true
  | .sealEnter _ _ x => x.wf
  | .shutdown .. => true
  | .shutdownTimeout => true
  | .pwrAvs target _ => fits target 16
  | .avsStep .. => true
  | .stCmd _ _ kind => below kind 256
  | .stDone => true
  | .debugAuth .. => true
  | .debugExpiry => true
  | .dbgNonce => true
  | .dbgAccess _ addr len data' => fits addr 64 && below len 4097 && upTo data' 65536
  | .bypass => true
  | .idcode => true
  | .samplePreload pins preload => fits pins 1024 && fits preload 1024
  | .extest pins next => fits pins 1024 && fits next 1024
  | .clamp => true
  | .highz => true
  | .testReset => true
  | .registerWrite _ slot off value => below slot 65536 && below off 65536 && fits value 32
  | .holdupOk => true
  | .mgtLinkUp speed _ => below speed 8
  | .arpNdEchoRequest _ _ body => upTo body 1500
  | .smlAuthWaitTimeout session => fits session 32
  | .corePairSelftestDone _ _ signature => fits signature 32
  | .laneRefReturn .. => true
  | .nfcXtalReturn => true

end Sys2Proof
end

