-- ==== Sys2Proof/Tests/Slice0.lean ====
section
/-!
SUPPORT. The model's own tests: WellFormed refuses ill-formed commands; and for the statements of Obligations.lean a concrete state and operands that meet
the hypotheses of a clause together (`test_meets_<statement>_<clause>`).
-/

open Sys2Proof Sys2Proof.Machine

namespace Sys2Proof.Tests

/-- Operands of the tests. -/
def zReading : Reading := { temp := 25, vbat := 3000, vkeep := 3000 }
def zFacts : SmlFacts := { saved := true, fails := 0, seen := [], sections := [], ended := .ok 0, signers := [], certOk := true, cert := [] }
def zSd : SdFacts := { answers := true, supported := true, locked := false, s18a := true, switchOk := true, width4 := true, reported := [0], switches := [], untuned := [], blocks := 65536 }
def zEntry : ReportEntry := { media := 0, state := 0, removable := false, wear := 0, temp := 0, free := 0, uid := 0 }
def zBadge : BadgeIn := { bytes := [], chainOk := true, sigOk := true, keyId := 1, x25519 := 9, mlkem := [], eph := 9, kemCt := [], reply := [], replyTag := 0 }
def zBoot : BootIn := { pairs := [0], luns := 15, blank := [], ue := [], recovery := [], accessTable := [], awlFail := [], spongeFail := [], north := true, south := true, crystal := true, us := 0, chain := [] }
def zSeal : SealIn := { trained := [], stitchFail := [], spongeFail := [], awlFail := [], north := [], south := [], mka := [], southAddrs := [], failStep := 0, us := 0 }
def zCard : Card := { uid := [1, 2, 3, 4], typeB := false, isoDep := true, badge := true, rate := 0 }
def zDebug : DebugIn := { header := [], keys := [], signatures := [] }
def zSample : Sample := { temps := [], rails := [], amps := [], dimms := [], vbat := 3000, vkeep := 3000 }
def zFrameN : NorthIn := { mac := 0, sec := none, v6 := false, src := 1, dst := 2, sport := 1, dport := 47010, header := [], payload := [], tag := none }
def zFrameS : SouthIn := { port := 0, net := none, header := [], payload := [], tag := none }
def zFrameM : SmlIn := { net := .ether 0 0 0, header := [], payload := [], tag := none }

/-- The value of an answer, or the given one. -/
def okOf {ε α : Type} (x : Except ε α) (d : α) : α := match x with | .ok a => a | .error _ => d
theorem okOf_eq {ε α : Type} {x : Except ε α} {d : α} (h : (match x with | .ok _ => true | .error _ => false) = true) : x = .ok (okOf x d) := by
  cases x with
  | ok a => rfl
  | error e => cases h
/-- A pair is that of its parts. -/
theorem zEta {α β : Type} (x : α × β) : x = (x.1, x.2) := rfl
theorem zSnd {α β : Type} {x : α × β} {b : β} (h : x.2 = b) : x = (x.1, b) := by cases x; cases h; rfl
/-- A bundle of one block on a card, with its commit block. -/
def zSeen (kind : Nat) : BundleSeen := { header := crcBlock (beBytes 4 0x4C475342 ++ [1, BitVec.ofNat 8 kind] ++ List.replicate 18 0 ++ beBytes 4 2), commit := crcBlock (beBytes 4 0x4C475343 ++ beBytes 4 2 ++ beBytes 32 0), hash := 0 }
/-- The block in SEAL after its start-up. -/
def zLit : State := { State.reset with svc := .seal, chip := { State.reset.chip with powerOk := true, booted := true } }
/-- The block in HEEL after its start-up. -/
def zHeel : State := { State.reset with svc := .heel, chip := { State.reset.chip with powerOk := true, booted := true } }

def zPath : Path := { rate := 0, port := 0, confirmed := true, failed := false, srtt := 0, rttvar := 0, rto := 1, minRtt := none, expiries := 0, lastProbe := 0, probe := 0 }
def zSent : SentFrame := { path := 0, at' := 0, typ := 0, flags := 0, stream := 0, word := 0, payload := [], retx := false }
def zSess : Session := { state := .established, random := 0, features := 511, client := 0, rxKey := 0, txKey := 0, rxSalt := 0, txSalt := 0, prevKey := some (0, 0), keyGen := 0, th := [], txPn := 0, received := [], unacked := 0, firstUnacked := none, sent := [(0, zSent)], auth := [], helloAt := 0, lastFrame := 0, lastSent := 0, closedAt := some 0, closeSent := false, epochs := [0], wantEpochs := [], paths := [(0, zPath)], handles := [], hello := [], ownAuth := [], erased := false, txGen := 0 }
def zQueue : Queue := { state := .openQ, notarised := false, staged := false, unknownLen := false, ns := 0, k := 1, m := 1, ext := 20, settle := 0, session := 0, slot := 0, tag := 0, nextSeq := 0, oldest := 0, contiguous := 0, credit := 0, open' := some 0, lastActivity := 0, detachExpiry := none, received := [], client := 0, lastExceeded := none, fillRate := none, nextOff := 0 }
def zObj : Obj := { ns := 0, queue := 0, seq := 0, first := 0, declared := none, length := none, k := 1, m := 1, ext := 20, settle := 0, epoch := 0, notarised := false, state := .openObj, stagedSent := false, answered := false, firstSettled := none, granted := 0, aborting := false }
def zFrag : Fragment := { channel := 0, runs := [], slot := 0, crcs := [], rows := [], core := none, hash := none, media := 0, shelf := 0, header := [], phase := .held, repaired := false, xid := 0, sentAt := 0, timeouts := 0, mismatches := 0, moving := none, lastVerify := 0 }
def zRange : RangeRec := { first := 0, rows := 1, unit := 0, phase := .running, rerun := false }
def zExt : Extent := { obj := 0, idx := 0, queue := 0, len := 1, k := 1, m := 1, ext := 20, settle := 0, epoch := 0, slot := 0, notarised := false, final := none, phase := .admitted, grantedAt := 0, held := false, noPlace := false, ranges := [zRange], lead := 0, tag := none, frags := [(0, zFrag), (1, zFrag)], trialGen := 0, placed := false, generation := 0, sealTime := 0, stagedAt := 0, acked := [], hasLeaf := none, ingest := 0 }
def zCtx : StitchCtx := { job := (.seal 0), first := 0, rows := 1, next := 0, rerun := false, pipes := none }
def zChan : Channel := { capacity := 65536, metaPages := 0, restoreStart := 0, headerStart := 0, stagingStart := 0, pages := 16, dimms := [], retired := [], trained := true, calibration := 0, prevCalibration := 0 }
def zMove : PageMove := { channel := 0, oldPage := 0, newPage := 0, repair := false, ext := 0, frag := 0 }
def zTether : Tether := { up := true, tx := 0, unacked := [], rx := some 0, nak := false, ackAt := 0, sentAt := 0, inits := 0, downAt := 0 }
def zAssoc : Assoc := { complete := true, random := 0, rxKey := 0, txKey := 0, rxSalt := 0, txSalt := 0, prevKey := none, keyGen := 0, th := [], txSeq := 0, received := [], sent := [], auth := [], at' := 0, typicalMs := 0, expectedMs := 0, lastAccepted := 0, limit := 1, used := 0, paths := [(0, zPath)], nextXid := 0 }
def zFetch : Fetch := { job := .rebuild, op := 0, request := [], frag := 0, media := 0, shelf := 0, sent := false, sentAt := 0, begun := false, parts := [], endAt := none, channel := 0, runs := [] }
def zCat : Catalogue := { media := [0], gapless := false, version := 0, length := 0, writing := none, waiting := false, targets := [], body := [], writtenAt := 0, dirtySince := none }
def zLoc : Locator := { epoch := 0, leaf := 0, record := [] }
def zShares : Shares := { a := 0, b := 0, c := 0 }
def zPipe : Pipe := { key := { a := 0, b := 0, c := 0 }, roundKeys := { a := 0, b := 0, c := 0 }, h := { a := 0, b := 0, c := 0 }, ctr := { a := 0, b := 0, c := 0 }, aes := { a := 0, b := 0, c := 0 }, acc := { a := 0, b := 0, c := 0 }, drawn := [] }
def zRx : RestoreExt := { idx := 0, record := [], candidates := [], issued := 0, available := [], bad := [], failedSel := [], retries := 0, selection := [], ranges := [], lead := 0, plain := [], verified := false, taken := false, start := none }
def zKnl : KennelRec := { seq := 0, event := 0, resp := 0, supply := 0, mainOn := false, rtcValid := false, vbat := 0, secs := 0, temp := 0 }
def zPtr : PtrRec := { carry := false, typ := 0, twin := 0, attempts := 0, prev := 0, gen := 0, version := 0, svn := 0, hash := 0 }
def zFs : FieldSession := { selected := true, verified := [1, 2, 3], last := 0 }
def zSec : SecBlock := { gen := 0, policy := 0, set := 0, tries := [], pw := [] }
def zRes : AwlResult := { status := 0, reason := 0, verdict := false, out := [], store := none, cycles := 0 }
def zKr : KeyRecord := { fuse := false, sysSlot := 0, ns := 0, epoch := 0, gen := 0, attr := 0, value := 0, under := 0 }
def zEs : EscrowSet := { id := 0, gen := 0, t := 0, n := 0, vcv := 0, envelopes := [], badges := [] }
def zFlit : SentFlit := { seq := 0, resends := 0, bytes := [] }
def zMsg : SouthMsg := { path := 0, at' := 0, typ := 0, flags := 0, xid := 0, word := 0, payload := [], retx := false }
def zTrk : TrackEntry := { loc := 0, count := 0, hard := false, first := 0, firstTime := 0 }
def zRest : Restore := { session := 0, handle := 0, obj := 0, from' := 0, upTo := 0, credit := 0, sent := 0, acked := 0, progress := 0, held := false, exts := [], k := 1, m := 1, ext := 20, epoch := 0, slot := 0 }
def zRep : Repair := { media := 0, evacuate := false, record := [], missing := [], candidates := [], available := [], frags := [], newRecord := none, acked := [], hasLeaf := false }
def zEpoch : Epoch := { notarised := none, openTime := 0, closeTime := 0, leaves := [], hashes := [], header := [], root := 0, group := [], vgroup := [], spent := [], failures := 0, signature := none, released := false, logged := false }
def zSlot : KeySlot := { value := 0, attr := 0 }
def zCust : CustodyOp := { kind := .enroll, session := 0, start := 0, set := 0, t := 0, n := 0, ns := 0, live := [], fresh := [], filled := [] }
def zDesc : AwlDesc := { opcode := 1, param := 0, flags := 0, nwords := 1, dstUse := 0, srcSlot := 0, dstSlot := 0, inLen := 0, inAddr := 0, outAddr := 0, outLen := 0, dirty := false }
def zJob : AwlJob := { index := 0, desc := zDesc, input := [], reissued := false, failed := [] }
def zRep0 : FaultRec := {  }
def zWin : Window := { opener := 0, unit := (.stitch 0), reaction := 0, openedAt := 0 }
def zSmlS : SmlSession := { state := .established, role := 1, closedAt := some 0, bufs := [(0, { since := 0, parts := [], endAt := none })], reads := [(0, { idx := 0, sub := 0, content := [], lastUse := 0 })], subs := [(0, { idx := 0, sub := 0, interval := 10, lastSent := some 0, seen := [], held := [(0, 0)] })], notes := [{ number := 0, sub := 0, payload := [], sentAt := 0, resends := 0 }] }
def zHost : BadgeHello := { bytes := [], x25519 := 0, kem := 0 }
def zBlock : FlashBlock := { free := false, nextPage := 1 }
def zRec : TrailRec := { seq := 0, time := 0, typ := 0, origin := 0, critical := true, world := 0, level := 0, conseq := false, injected := false, gap := false, held := false, source := none, count := 0, body := [] }
def zFull : State := { zLit with
  domains := [(dictKey 0x2002 0 0, [0, 4, 0, 0] ++ beBytes 16 2), (dictKey 0x2102 0 0, beBytes 16 0)]
  dict := [(dictKey 0x2003 1 0, 0), (dictKey 0x2101 1 0, 1)]
  queue := { State.reset.queue with sessions := [(0, zSess)], queues := [(0, zQueue)], objects := [(0, zObj)], extents := [(0, zExt)], halves := [(0, { at' := 0, bytes := [] })] }
  stitch := { State.reset.stitch with ctxs := [(0, zCtx)], tests := [(0, .startup)] }
  staging := { State.reset.staging with chans := [(0, zChan)], moves := [zMove] }
  shepherd := { State.reset.shepherd with media := [(0, {})], shelves := [(0, { pstate := .on })], due := [(0, 0)], asked := [(0, 0)] }
  pack := { State.reset.pack with tests := [(0, .startup)], epochs := [(0, zEpoch)] }
  south := { State.reset.south with tethers := [(0, zTether)], upPorts := [0, 1], addrs := [(1, false, 2)], assocs := [(0, zAssoc)], pendingAssoc := [(0, zAssoc)], fetches := [(0, zFetch)], catalogue := [(0, zCat)], locators := [(0, zLoc)], restores := [(0, zRest)], repairs := [(0, zRep)] }
  keys := { State.reset.keys with slots := [(0, zSlot)], custody := some zCust, enrolled := true }
  awl := { State.reset.awl with runs := [(0, .job zJob .running)], tests := [(0, .startup)] }
  reader := { State.reset.reader with card := some zCard, hello := some zHost, mode := .active }
  panel := { State.reset.panel with presAt := some 0, servAt := some 0 }
  collector := { State.reset.collector with recs := [(0, zRep0)], windows := [zWin], pulseEnd := some 0, running := true }
  smilia := { State.reset.smilia with sessions := [(0, zSmlS)], halves := [(0, { since := 0, parts := [], endAt := none })], writes := [(0, { session := 0, idx := 0, sub := 0, total := 0, parts := [], lastUse := 0 })], pendingAddr := some 0, addr := [0, 0, 5], oldAddr := some ([], 0, []) }
  trail := { State.reset.trail with running := true, subs := [(0, { uncounted := 1 })], ports := [(0, { heldRecs := [(0, zRec)] })], uncommitted := [(0, zRec)] }
  sd := { State.reset.sd with running := some 1, offAt := some 0 } }
/-- The same with twelve channels, a stitch unit, twelve sponge cores, an Awl unit and the flash in service, and namespace 0 keyed. -/
def zRun : State := (((({ zFull with
  staging := { zFull.staging with chans := (List.range 12).map (fun c => (c, zChan)) }
  pack := { zFull.pack with state := (List.range 12).map (fun j => (j, .idle)) }
  keys := { zFull.keys with bankA := some { key := 0, gen := 1 }, current := [(0, (1, 0))], nsEpoch := [(0, 1)] } }).wr Reg.STG_CHSTATE.HEALTHY 0xFFF).wr
  (Reg.STU_STATUS.STATE.nth 0) 1).wr Reg.FLS_STATUS.LUN_OK 15).setAwl 0 stIdle
/-- The state with the frame of an exception on its stack. -/
def zPushed (u : State) (p : PairId) (w : World) (ret cause bad : Word) : State :=
  let v := u.updPair p Pair.drain
  (v.pushWords p w false (v.stackBase p w - 64) [ret, (v.core p).status, cause, 0, bad, (v.core p).reg 31, BitVec.ofNat 64 (v.core p).cycle, 0]).2
/-- `zRun` with another pair 0. -/
def zP (f : Pair → Pair) : State := zRun.updPair 0 f
/-- `zRun` with another session. -/
def zWith (x : Session) : State := zRun.updQueue (fun q => { q with sessions := [(0, x)] })
/-- `zRun` with another queue. -/
def zQ (x : Queue) : State := zRun.updQueue (fun q => { q with queues := [(0, x)] })
/-- `zRun` with another object. -/
def zO (x : Obj) : State := zRun.updQueue (fun q => { q with objects := [(0, x)] })
/-- `zRun` with another extent. -/
def zE (x : Extent) : State := zRun.updQueue (fun q => { q with extents := [(0, x)] })
/-- `zRun` with another restore. -/
def zR (r : Restore) : State := zRun.updSouth (fun q => { q with restores := [(0, r)] })
/-- A restore with an extent. -/
def zRE (e : RestoreExt) : Restore := { zRest with exts := [e] }
/-- `zRun` with contexts in stitch unit 0, which is busy with context 0, and another restore. -/
def zC (cs : List (Nat × StitchCtx)) (r : Restore := zRest) : State :=
  ((zR r).updStitch (fun q => { q with ctxs := cs, current := [(0, 0)], masks := [(0, { lanes := List.replicate 52 0, blocks := 0 }), (1, { lanes := List.replicate 52 0, blocks := 0 })] })).wr (Reg.STU_STATUS.STATE.nth 0) stBusy
/-- `zRun` with another association of shelf 0, another tether of port 0, and another fragment of extent 0. -/
def zA (a : Assoc) : State := zRun.updSouth (fun q => { q with assocs := [(0, a)], pendingAssoc := [] })
def zT (t : Tether) : State := zRun.updSouth (fun q => { q with tethers := [(0, t)] })
def zF (f : Fragment) : State := zE { zExt with frags := [(0, f)] }
/-- `zRun` with a signing pool of eight cores. -/
def zSign : State := zRun.updPack (fun q => { q with signing := List.range 8 })
/-- `zRun` with a job of an opcode in Awl unit 0, and with another key in slot 1. -/
def zJ (op : Nat) (input : List Byte := []) : State := zRun.updAwl (fun q => { q with runs := [(0, .job { zJob with desc := { zDesc with opcode := op }, input := input } .running)] })
def zK (attr : Nat) : State := ((zRun.updKeys (fun q => { q with slots := [(1, { value := 0, attr := attr })] })).wr Reg.SDB_SLOTS.DST 1).wr Reg.SDB_SLOTS.SRC 1
/-- `zRun` with a sector named in the flash registers and the buffer in system memory; with the reader on; and with a field session and a security block. -/
def zFl (sector : Nat) : State := ((zRun.wr Reg.FLS_LADDR.SECTOR sector).wr Reg.FLS_LEN.SECTORS 1).wr Reg.FLS_BUF.ADDR 0x4000
def zNf (m : ReaderMode) : State := ((zRun.wr Reg.NFC_CTRL.EN 1).wr Reg.NFC_CTRL.DETECT 1).updReader (fun r => { r with mode := m })
def zCl (tries : Nat := 10) (x : FieldSession := zFs) : State := zRun.updCollar (fun c => { c with session := some x, copyA := some { zSec with set := 7, tries := List.replicate 3 tries, pw := List.replicate 3 (List.replicate 8 0) } })
/-- `zRun` with a session of a role alone, a fresh press and no custody operation; with a card in the slot, its buffer in system memory; and in HEEL. -/
def zAdm (role : Nat) : State := (((zRun.updSmilia (fun m => { m with sessions := [(0, { zSmlS with role := role })] })).updKeys (fun k => { k with custody := none })).updPanel (fun p => { p with presses := [0] })).wr Reg.SDB_PRES.WINDOW_S 30
def zSc : State :=
  let s := ((((((zRun.wr Reg.AT_STATUS.BOOT 0).wr Reg.SC_STATUS.PRESENT 1).wr Reg.SC_STATUS.POWER 1).wr Reg.SC_STATUS.STATE 3).wr Reg.SC_BUF.ADDR 0x20000).wr Reg.SC_COUNT.BLOCKS 16).updSd (fun d => { d with running := none, blocks := 65536 })
  { s with guards := { s.guards with active := [(3 * 512, { w0 := 1 + 24 * 16 + 0x4000 * 4096, w1 := 2 ^ 40 - 1 })] } }
/-- `zRun` with source 600 pending for a world of pair 0. -/
def zIrq (w : Nat) : State := ((((zRun.wr (Reg.IC_ROUTE.EN.nth 600) 1).wr (Reg.IC_ROUTE.PEND.nth 600) 1).wr (Reg.IC_ROUTE.PRIO.nth 600) 5).wr (Reg.IC_ROUTE.WORLD.nth 600) w).wr (Reg.IC_ROUTE.PAIR.nth 600) 0
/-- The same for the Keeper, with the mask clear. -/
def zEntry1 : State := (zIrq 1).updPair 0 (fun q => { q.setReg 31 0x4001000 with im := false })
/-- Pair 0 in user mode, with the boot ROM and system memory open to it. -/
def zUser : State :=
  let s := ((zP (fun q => { q with sup := false })).wr Reg.AT_STATUS.BOOT 0).wr (Reg.CORE_STK_K.TOP.nth 0) 0x800200
  { s with guards := { s.guards with active := [(0, { w0 := 1 + 18 * 16, w1 := 2 ^ 40 - 1 }), (3 * 512, { w0 := 1 + 24 * 16 + 0x4000 * 4096, w1 := 2 ^ 40 - 1 })] } }
/-- `zRun` with the gates of the Tack in system memory, gate 0 valid. -/
def zGate : State := { (zRun.wr Reg.AT_STATUS.BOOT 0).wr (Reg.CORE_GTBL_T.BASE.nth 0) 0x200000 with guards := zUser.guards }.storeMem 0x4000000 ([0, 0, 0, 0, 0, 0, 0, 0, 7, 0] ++ List.replicate 22 0)


/-- A Seal Transport frame of session 0 with packet number 0, with its tag under the key of `x`. -/
def zNorth (x : Session) (op : Nat) (word : Nat := 0) (payload : List Byte := []) (flags : Nat := 3) (stream : Nat := 0) : NorthIn :=
  let h := beBytes 1 1 ++ beBytes 1 op ++ beBytes 2 flags ++ beBytes 4 0 ++ beBytes 8 0 ++ beBytes 4 stream ++ beBytes 1 0 ++ [0] ++ beBytes 2 payload.length ++ beBytes 8 word
  { mac := 0, sec := none, v6 := false, src := 1, dst := 2, sport := 1, dport := northPort, header := h, payload := payload,
    tag := if flags % 2 = 1 then some (gcmSeal x.rxKey (x.rxSalt * 2 ^ 64 + 0) h payload).2 else none }
/-- The state that takes such a frame. -/
def zTaken (s : State) (f : NorthIn) (ack : Bool := true) : State :=
  if ack then (s.updSession f.session (fun y => { y with lastFrame := s.now })).acknowledge f.session f.pn else s.updSession f.session (fun y => { y with lastFrame := s.now })
theorem zTakes {s : State} {f : NorthIn} {op : Nat} {ack : Bool} (x : Session) (he : s.engineRuns = true := by decide +kernel) (hs : f.sec = none := by rfl) (hm : s.macsecRequired f.mac = false := by decide +kernel)
    (hp : f.dport = northPort := by rfl) (ha : s.northAddr f.mac f.v6 f.dst = true := by decide +kernel) (hh : f.headerOk = true := by decide +kernel) (ho : f.opcode = op := by decide +kernel)
    (hx : s.session f.session = some x := by decide +kernel) (hz : x.erased = false := by rfl) (ht : f.tag = some (gcmSeal x.rxKey (x.rxSalt * 2 ^ 64 + f.pn) f.header f.payload).2 := by rfl)
    (hl : f.payload.length ≤ x.payloadLimit op := by decide +kernel) (hc : x.state ≠ .closed := by decide +kernel) (hr : inRanges f.pn x.received = false := by decide +kernel)
    (hw : x.state = .authWait → waitsFor op = true := by decide +kernel) : s.acceptNorth f op ack = (zTaken s f ack, true) := by
  simpa [zTaken] using acceptNorth_takes (ack := ack) ho (takeDatagram_takes he hs hm hp ha hh) hx (tagGood_of hz ht) hl hc hr hw
/-- A Fragment Transport message of shelf 0 with sequence number 0 in a packet on port 1, with its tag under the key of `a`. -/
def zSouth (a : Assoc) (op : Nat) (xid : Nat := 0) (word : Nat := 0) (payload : List Byte := []) (flags : Nat := 3) : SouthIn :=
  let h := beBytes 1 1 ++ beBytes 1 op ++ beBytes 2 flags ++ beBytes 1 0 ++ beBytes 1 0 ++ beBytes 2 payload.length ++ beBytes 8 0 ++ beBytes 8 xid ++ beBytes 8 word
  { port := 1, net := some { v6 := false, src := 1, dst := 2, sport := southPort, dport := southPort }, header := h, payload := payload,
    tag := if flags % 2 = 1 then some (gcmTag a.rxKey (a.rxSalt * 2 ^ 64 + 0) (h ++ payload) []) else none }
/-- The state that takes such a message. -/
def zBrought (s : State) (h : Nat) (m : SouthIn) (ack : Bool) : State :=
  let u := if ack then (s.updAssoc h (fun a => { a with lastAccepted := s.now })).acknowledgeSouth h m.seq else s.updAssoc h (fun a => { a with lastAccepted := s.now })
  if h < 64 then u.releaseShelf h else u
theorem zBrings {s : State} {h : Nat} {m : SouthIn} {op : Nat} {ack : Bool} (a : Assoc) {n : SouthNet} (hn : m.net = some n := by rfl) (hs : s.safe = false := by decide +kernel)
    (hu : s.south.upPorts.contains m.port = true := by decide +kernel) (ht : s.tether m.port = none := by decide +kernel) (hp : s.southPacket m.port n = true := by decide +kernel) (hh : m.headerOk = true := by decide +kernel)
    (ho : m.opcode = op := by decide +kernel) (ha : s.assoc h = some a := by decide +kernel) (hg : m.tag = some (gcmTag a.rxKey (a.rxSalt * 2 ^ 64 + m.seq) (m.header ++ m.payload) []) := by rfl)
    (hr : inRanges m.seq a.received = false := by decide +kernel) : s.acceptOn h m op ack = (zBrought s h m ack, true) := by
  simpa [zBrought] using acceptOn_takes ho (takeMessage_takes hs hu hn ht hp hh) ha hg hr rfl
/-- A Smilia frame of session 0 with SEQ 0, with its tag under the key of `x`. -/
def zSml (x : SmlSession) (op : Nat) (req : Nat := 1) (payload : List Byte := []) (flags : Nat := 3) : SmlIn :=
  let h := beBytes 1 1 ++ beBytes 1 op ++ beBytes 2 flags ++ beBytes 4 0 ++ beBytes 8 0 ++ beBytes 4 req ++ beBytes 4 0 ++ beBytes 2 payload.length ++ beBytes 2 0
  { net := .udp false 1 5 1 smlPort, header := h, payload := payload, tag := if flags % 2 = 1 then some (gcmSeal x.rxKey (x.rxSalt * 2 ^ 64 + 0) h payload).2 else none }
/-- The session and the state that take such a frame. -/
def zHeard (s : State) (x : SmlSession) (f : SmlIn) : SmlSession := { x with received := insertNum f.seq x.received, lastFrame := s.now }
theorem zHears {s : State} {f : SmlIn} {op : Nat} (x : SmlSession) (hm : s.mgmtServes = true := by decide +kernel) (ho : f.opcode = op := by decide +kernel) (hh : f.headerOk = true := by decide +kernel)
    (hp : f.prot = true := by decide +kernel) (hc : s.smlCarrier f.net = true := by decide +kernel) (hx : s.sml f.session = some x := by decide +kernel) (hr : x.raw = f.net.raw := by rfl)
    (hu : s.smlToUs (s.atOld f.session) f.net = true := by decide +kernel) (hz : x.erased = false := by rfl) (ht : f.tag = some (gcmSeal x.rxKey (x.rxSalt * 2 ^ 64 + f.seq) f.header f.payload).2 := by rfl)
    (hs : x.state ≠ .closed := by decide +kernel) (hq : inRanges f.seq x.received = false := by decide +kernel) (hw : x.state = .authWait → smlWaitsFor op = true := by decide +kernel) :
    s.acceptSml f op = (s.setSml f.session (zHeard s x f), some (zHeard s x f)) :=
  acceptSml_takes hm ho hh hp hc hx hr hu (smlTagGood_of hz ht) hs hq hw

/-- Ill-formed terms, each with one operand out of its range, are refused. -/
theorem test_wf_refuses_1 : ([
  .clientHello { zFrameN with mac := 16 } 0,
  .clientHello zFrameN (2 ^ 32),
  .clientHelloSegmentTimeout (2 ^ 176),
  .auth { zFrameN with mac := 16 } [] false,
  .authWaitTimeout (2 ^ 32),
  .keyUpdate { zFrameN with mac := 16 },
  .prevKeyErase 2 0,
  .prevKeyErase 0 (2 ^ 32),
  .close { zFrameN with mac := 16 },
  .closeAck { zFrameN with mac := 16 },
  .keepalive { zFrameN with mac := 16 },
  .reset { zFrameN with mac := 16 },
  .sessionIdleTimeout (2 ^ 32),
  .sessionRelease (2 ^ 32),
  .ack { zFrameN with mac := 16 },
  .ackDelayTimer false (2 ^ 32),
  .rtoExpiry (2 ^ 32) 0,
  .rtoExpiry 0 (2 ^ 64),
  .pathReprobe false (2 ^ 32) 0,
  .pathReprobe false 0 32,
  .pathProbe { zFrameN with mac := 16 } false,
  .pathAdd { zFrameN with mac := 16 },
  .northPathFault 16,
  .keepaliveTimer (2 ^ 32),
  .queueOpen { zFrameN with mac := 16 },
  .queueClose { zFrameN with mac := 16 },
  .objBegin { zFrameN with mac := 16 },
  .data { zFrameN with mac := 16 },
  .objEnd { zFrameN with mac := 16 },
  .objAbort { zFrameN with mac := 16 }] : List Instr).all (fun c => !c.wf) = true := by decide

/-- Ill-formed terms, each with one operand out of its range, are refused. -/
theorem test_wf_refuses_2 : ([
  .creditGrant (2 ^ 64) 0,
  .creditGrant 0 (2 ^ 64),
  .queueIdleTimeout 262144,
  .receiptHoldExpiry 262144,
  .receiptGet { zFrameN with mac := 16 },
  .epochGet { zFrameN with mac := 16 },
  .restoreReq { zFrameN with mac := 16 },
  .credit { zFrameN with mac := 16 },
  .restoreDataSend 65536,
  .restoreIdleTimeout 65536,
  .rangeHandover (2 ^ 64) 0 0,
  .rangeHandover 0 (2 ^ 32) 0,
  .rangeHandover 0 0 (2 ^ 32),
  .contextSwitch 12,
  .stuCompareFail 12 0,
  .stuCompareFail 0 256,
  .maskReseed 12 0,
  .maskReseed 0 256,
  .reseedLate 12 0,
  .reseedLate 0 256,
  .plaintextPoison 12 false,
  .rowRelease 12,
  .rangeDone 12,
  .tagCombine (2 ^ 64) 0,
  .tagCombine 0 (2 ^ 32),
  .unsealTagCheck 65536 0,
  .unsealTagCheck 0 (2 ^ 32),
  .stuSelftestDone 12 .pass 0,
  .stuSelftestDone 0 .pass (2 ^ 32),
  .stuEnWrite 12 false] : List Instr).all (fun c => !c.wf) = true := by decide

/-- Ill-formed terms, each with one operand out of its range, are refused. -/
theorem test_wf_refuses_3 : ([
  .stReq 12,
  .stuQrel 12 .keeper,
  .rollingSelftestGrant .stitch 128 0,
  .rollingSelftestGrant .stitch 0 (2 ^ 32),
  .rollingSelftestWithdraw .stitch 128,
  .selftestDeferred .stitch 128,
  .shpStOverdue .stitch 128,
  .channelFail 12,
  .regeneration (2 ^ 64) 0,
  .regeneration 0 (2 ^ 32),
  .regenPlaceWait (2 ^ 64) 0,
  .regenPlaceWait 0 (2 ^ 32),
  .pageMoveDone 12 0,
  .pageMoveDone 0 (2 ^ 32),
  .retrainEnd 12,
  .rcCounterRead .keeper 65536 0,
  .rcCounterRead .keeper 0 65536,
  .readMedia 1024,
  .writeMedia 1024 .keeper false,
  .readShelf 64,
  .writeShelf 64 false,
  .extentAdmit (2 ^ 64) 0 0 0,
  .extentAdmit 0 (2 ^ 32) 0 0,
  .extentAdmit 0 0 (2 ^ 64) 0,
  .extentAdmit 0 0 0 (2 ^ 64),
  .placementRetry (2 ^ 64) 0,
  .placementRetry 0 (2 ^ 32),
  .placementFix (2 ^ 64) 0,
  .placementFix 0 (2 ^ 32),
  .wakeTimeout 64] : List Instr).all (fun c => !c.wf) = true := by decide

/-- Ill-formed terms, each with one operand out of its range, are refused. -/
theorem test_wf_refuses_4 : ([
  .shelfLost 64,
  .coreTestRequest 16 0,
  .coreTestRequest 0 (2 ^ 32),
  .shpCoreRel 16 false,
  .seedCommit (2 ^ 32) .keeper,
  .permutationMismatch 128 false,
  .fragmentHashDone (2 ^ 64) 0 0,
  .fragmentHashDone 0 (2 ^ 32) 0,
  .fragmentHashDone 0 0 256,
  .notarisedEpochClose (2 ^ 64),
  .epochSignDone (2 ^ 64),
  .epochVerifyDone (2 ^ 64) false,
  .manifestLogAppend (2 ^ 64),
  .reverifyDue (2 ^ 64) 0 0,
  .reverifyDue 0 (2 ^ 32) 0,
  .reverifyDue 0 0 256,
  .attestRequest (List.replicate 33 0) 0,
  .attestRequest [] 256,
  .pckQrel 128 .keeper,
  .pckSelftestDone 128 .pass 0,
  .pckSelftestDone 0 .pass (2 ^ 32),
  .flitReceive 24 false [],
  .flitResendTimer 24,
  .flitIdleSend 24,
  .ftLinkDown 24 false 0,
  .ftLinkDown 0 false (2 ^ 32),
  .tetherBringupRetry 24 false 0,
  .tetherBringupRetry 0 false (2 ^ 32),
  .announce { zFrameS with port := 24 },
  .ftAuth { zFrameS with port := 24 }] : List Instr).all (fun c => !c.wf) = true := by decide

/-- Ill-formed terms, each with one operand out of its range, are refused. -/
theorem test_wf_refuses_5 : ([
  .ftKeyUpdate { zFrameS with port := 24 },
  .ftReset { zFrameS with port := 24 },
  .ftHandshakeTimeout 64,
  .pathConfirm { zFrameS with port := 24 },
  .ftPathProbe { zFrameS with port := 24 } false,
  .ftAck { zFrameS with port := 24 },
  .ftRtoExpiry 64 0,
  .ftRtoExpiry 0 (2 ^ 64),
  .ftCredit { zFrameS with port := 24 },
  .durable { zFrameS with port := 24 },
  .durableTimeout 64 0,
  .durableTimeout 0 (2 ^ 64),
  .getData { zFrameS with port := 24 },
  .getTimeout 64 0,
  .getTimeout 0 (2 ^ 64),
  .powerState { zFrameS with port := 24 },
  .report { zFrameS with port := 24 },
  .ftStatus { zFrameS with port := 24 },
  .drainSend 64,
  .catalogueWrite 256 0 false,
  .catalogueWrite 0 (2 ^ 32) false,
  .cataloguePlaceRetry 256 0,
  .cataloguePlaceRetry 0 (2 ^ 32),
  .restoreBufferWait 65536,
  .evacuate 1024,
  .evacuateCancel 1024,
  .dkReq 12 0 0,
  .dkReq 0 3 0,
  .dkReq 0 0 256,
  .keyLoad false 16 0 0] : List Instr).all (fun c => !c.wf) = true := by decide

/-- Ill-formed terms, each with one operand out of its range, are refused. -/
theorem test_wf_refuses_6 : ([
  .keyLoad false 0 65536 0,
  .keyLoad false 0 0 256,
  .ghashPartial (2 ^ 64) 0 0,
  .ghashPartial 0 (2 ^ 32) 0,
  .ghashPartial 0 0 (2 ^ 32),
  .clear false 65536,
  .epochMapMissLoad 4096 0 0,
  .epochMapMissLoad 0 (2 ^ 64) 0,
  .epochMapMissLoad 0 0 (2 ^ 32),
  .sdbMacroLost 4096 0,
  .sdbMacroLost 0 65536,
  .load .keeper (2 ^ 32),
  .trngSourceFail 4 false,
  .awlRingTail .keeper 65536,
  .modAdd 16,
  .modSub 16,
  .modMul 16,
  .modExp 16,
  .modInv 16,
  .modRed 16,
  .awlMul 16,
  .ntt 16,
  .intt 16,
  .polyMac 16,
  .ecMul 16,
  .ecPub 16,
  .ecdsaSign 16,
  .ecdsaVerify 16,
  .ed25519Verify 16,
  .x25519Gen 16] : List Instr).all (fun c => !c.wf) = true := by decide

/-- Ill-formed terms, each with one operand out of its range, are refused. -/
theorem test_wf_refuses_7 : ([
  .x25519 16,
  .mlkemKeygen 16,
  .mlkemEncaps 16,
  .mlkemDecaps 16,
  .mldsaPub 16,
  .mldsaSign 16,
  .mldsaVerify 16,
  .awlCompletion 16,
  .awlAbort .keeper 65536 false,
  .awlMismatch 16 false,
  .awlQrel 16 .keeper,
  .awlSelftestDone 16 .pass 0,
  .awlSelftestDone 0 .pass (2 ^ 32),
  .bmov 0 0 (2 ^ 16) 0 0 0 0,
  .bfill 0 0 (2 ^ 16) 0 0 0 0,
  .macv 0 0 (2 ^ 16) 0 0 0 false,
  .sabs 0 0 (2 ^ 16) 0 0 0,
  .icEoi 0 .keeper 1024,
  .icSwi .keeper 1024,
  .sramScrub 256 0 0 0 0 false,
  .sramScrub 0 65536 0 0 0 false,
  .sramScrub 0 0 (2 ^ 32) 0 0 false,
  .sramScrub 0 0 0 (2 ^ 64) 0 false,
  .sramScrub 0 0 0 0 (2 ^ 40) false,
  .trackerWindowEnd (2 ^ 16) 0,
  .trackerWindowEnd 0 256,
  .splitWrite 16 .keeper 0,
  .splitWrite 0 .keeper (2 ^ 32),
  .eccTestEnable false false 256 .keeper,
  .eccInj 1024 0 0 .keeper] : List Instr).all (fun c => !c.wf) = true := by decide

/-- Ill-formed terms, each with one operand out of its range, are refused. -/
theorem test_wf_refuses_8 : ([
  .eccInj 0 (2 ^ 40) 0 .keeper,
  .eccInj 0 0 (2 ^ 16) .keeper,
  .readActive 16 .keeper false 0 0,
  .readActive 0 .keeper false (2 ^ 16) 0,
  .readActive 0 .keeper false 0 (2 ^ 16),
  .readShadow 16 .keeper false 0 0,
  .readShadow 0 .keeper false (2 ^ 16) 0,
  .readShadow 0 .keeper false 0 65536,
  .writeShadow 16 .keeper false 0 0,
  .writeShadow 0 .keeper false (2 ^ 16) 0,
  .writeShadow 0 .keeper false 0 65536,
  .atCommit 16 .keeper false,
  .atVpop 16 .keeper false,
  .flsWrite .keeper 256,
  .mread .keeper 256,
  .flsErase .keeper 256,
  .windowMiss (2 ^ 32) false false,
  .flsLunLost 8,
  .powerGoodBoot { zBoot with luns := 256 },
  .faultDetection 1024 0 0,
  .faultDetection 0 (2 ^ 32) 0,
  .faultDetection 0 0 (2 ^ 32),
  .consequenceWindowClose 1024 false,
  .fcuInjPseudo 1024 false .keeper,
  .fcuInjCheck 1024 0 .keeper,
  .fcuInjCheck 0 (2 ^ 40) .keeper,
  .fcuClr 1024,
  .fcuSrcCfgWrite 4 0 0 .keeper,
  .fcuSrcCfgWrite 0 16 0 .keeper,
  .fcuSrcCfgWrite 0 0 64 .keeper] : List Instr).all (fun c => !c.wf) = true := by decide

/-- Ill-formed terms, each with one operand out of its range, are refused. -/
theorem test_wf_refuses_9 : ([
  .vddIo33Loss { zReading with vbat := 65536 },
  .cellRemoved { zReading with vbat := 65536 },
  .cellEnd { zReading with vbat := 65536 },
  .cellLow { zReading with vbat := 65536 },
  .cellInserted { zReading with vbat := 65536 },
  .kennelPor false { zReading with vbat := 65536 },
  .tempLow { zReading with vbat := 65536 },
  .tempHigh { zReading with vbat := 65536 },
  .volt { zReading with vbat := 65536 },
  .glitch { zReading with vbat := 65536 },
  .clock false { zReading with vbat := 65536 },
  .mesh { zReading with vbat := 65536 },
  .lid { zReading with vbat := 65536 },
  .loop0 { zReading with vbat := 65536 },
  .loop1 { zReading with vbat := 65536 },
  .monitorRearm 15,
  .knlRtcSet (2 ^ 64) .keeper,
  .knlTempWrite (129) 0 .keeper,
  .knlTempWrite 0 (129) .keeper,
  .knlMonWrite 15 0 false .keeper,
  .knlMonWrite 0 4 false .keeper,
  .knlTrimWrite (32769) .keeper,
  .kennelCollarWrite (2 ^ 16) 0,
  .kennelCollarWrite 0 (2 ^ 32),
  .sensorLogInterval (129) 0 0,
  .sensorLogInterval 0 (129) 0,
  .sensorLogInterval 0 0 (2 ^ 16),
  .detectionPing (2 ^ 16) 0 [],
  .detectionPing 0 (360001) [],
  .detectionPing 0 0 (List.replicate 65 zCard)] : List Instr).all (fun c => !c.wf) = true := by decide

/-- Ill-formed terms, each with one operand out of its range, are refused. -/
theorem test_wf_refuses_10 : ([
  .poll .keeper (List.replicate 65 zCard),
  .nextCard .keeper (List.replicate 65 zCard),
  .collarSelect (List.replicate 17 0),
  .collarRead (2 ^ 16) 0,
  .collarRead 0 (2 ^ 16),
  .verify 256 [] false false,
  .verify 0 (List.replicate 9 0) false false,
  .appendNote [] false (2 ^ 32),
  .changePw 256 [] false,
  .changePw 0 (List.replicate 9 0) false,
  .resetTries 256 false,
  .colAppend .keeper (2 ^ 32),
  .setPw .keeper 4,
  .unblock .keeper 4,
  .servicePress (2 ^ 32),
  .buttonRelease false (2 ^ 32),
  .hello { zFrameM with header := List.replicate 29 0 },
  .smlAuth { zFrameM with header := List.replicate 29 0 },
  .smlKeyUpdate { zFrameM with header := List.replicate 29 0 },
  .smlClose { zFrameM with header := List.replicate 29 0 },
  .smlKeepalive { zFrameM with header := List.replicate 29 0 },
  .smlReset { zFrameM with header := List.replicate 29 0 },
  .smlIdleTimeout (2 ^ 32),
  .smlRelease (2 ^ 32),
  .smlRead { zFrameM with header := List.replicate 29 0 },
  .smlWrite { zFrameM with header := List.replicate 29 0 } zFacts,
  .segRead { zFrameM with header := List.replicate 29 0 },
  .segBegin { zFrameM with header := List.replicate 29 0 },
  .segWrite { zFrameM with header := List.replicate 29 0 },
  .segEnd { zFrameM with header := List.replicate 29 0 } zFacts] : List Instr).all (fun c => !c.wf) = true := by decide

/-- Ill-formed terms, each with one operand out of its range, are refused. -/
theorem test_wf_refuses_11 : ([
  .segAbort { zFrameM with header := List.replicate 29 0 },
  .handleExpiry false (2 ^ 32) 0,
  .handleExpiry false 0 65536,
  .subscribe { zFrameM with header := List.replicate 29 0 },
  .unsubscribe { zFrameM with header := List.replicate 29 0 },
  .notifyIntervalEnd (2 ^ 32) 0,
  .notifyIntervalEnd 0 (2 ^ 32),
  .notifyAck { zFrameM with header := List.replicate 29 0 },
  .notifyResend (2 ^ 32) 0,
  .notifyResend 0 (2 ^ 32),
  .reassemblyTimeout false (2 ^ 32) 0,
  .reassemblyTimeout false 0 (2 ^ 200),
  .restoreDefaults (2 ^ 32) 0 zFacts,
  .restoreDefaults 0 16 zFacts,
  .enroll (2 ^ 32) [] zFacts,
  .escrowCreate (2 ^ 32) 0 0 zFacts,
  .escrowCreate 0 256 0 zFacts,
  .escrowCreate 0 0 256 zFacts,
  .vaultRotate (2 ^ 32) 0 0 zFacts,
  .vaultRotate 0 256 0 zFacts,
  .vaultRotate 0 0 256 zFacts,
  .vaultRestore (2 ^ 32) 0 zFacts,
  .vaultRestore 0 (2 ^ 64) zFacts,
  .nsCreate (2 ^ 32) 0 zFacts,
  .nsCreate 0 (2 ^ 64) zFacts,
  .nsRotate (2 ^ 32) 0 zFacts,
  .nsRotate 0 (2 ^ 64) zFacts,
  .nsDestroy (2 ^ 32) 0 zFacts,
  .nsDestroy 0 (2 ^ 64) zFacts,
  .manifestKeyChange (2 ^ 32) 0 zFacts] : List Instr).all (fun c => !c.wf) = true := by decide

/-- Ill-formed terms, each with one operand out of its range, are refused. -/
theorem test_wf_refuses_12 : ([
  .manifestKeyChange 0 (2 ^ 64) zFacts,
  .ownerRelease (2 ^ 32) 0 zFacts,
  .ownerRelease 0 (2 ^ 64) zFacts,
  .attest (2 ^ 32) [] zFacts,
  .attest 0 (List.replicate 33 0) zFacts,
  .srcClear (2 ^ 32) 0 zFacts,
  .srcClear 0 (2 ^ 64) zFacts,
  .knlUnlock (2 ^ 32) 0 zFacts,
  .knlUnlock 0 (2 ^ 64) zFacts,
  .knlClrLatch (2 ^ 32) 0 zFacts,
  .knlClrLatch 0 (2 ^ 64) zFacts,
  .bundleExport (2 ^ 32) 0 zFacts,
  .bundleExport 0 (2 ^ 64) zFacts,
  .bundleImport (2 ^ 32) 0 zFacts,
  .bundleImport 0 (2 ^ 32) zFacts,
  .selftest (2 ^ 32) 0 zFacts,
  .selftest 0 (2 ^ 64) zFacts,
  .fcuInject (2 ^ 32) 0 0 zFacts,
  .fcuInject 0 (2 ^ 32) 0 zFacts,
  .fcuInject 0 0 (2 ^ 32) zFacts,
  .eccInject (2 ^ 32) 0 zFacts,
  .eccInject 0 (2 ^ 32) zFacts,
  .mgtMdio 32 0 false .keeper none,
  .mgtMdio 0 (2 ^ 16) false .keeper none,
  .mgtMdio 0 0 false .keeper (some 65536),
  .subInterrupt 16,
  .trlWr 16 .keeper false 0 false,
  .trlWr 0 .keeper false (2 ^ 16) false,
  .dramPatrolScrub 12 0 0,
  .dramPatrolScrub 0 (2 ^ 64) 0] : List Instr).all (fun c => !c.wf) = true := by decide

/-- Ill-formed terms, each with one operand out of its range, are refused. -/
theorem test_wf_refuses_13 : ([
  .dramPatrolScrub 0 0 (2 ^ 40),
  .readDisturbRefresh (2 ^ 16) [] 0,
  .readDisturbRefresh 0 [] 256,
  .flashReadScrub (2 ^ 16) [] [],
  .wearLevelling (2 ^ 16) [] 0,
  .wearLevelling 0 [] 256,
  .ddrPeriodicCalibration 12,
  .ddrRetraining 12,
  .sensorCalibration 64 0,
  .sensorCalibration 0 (65537),
  .kennelOscillatorTrim (32769) false,
  .brnOverrun (2 ^ 32),
  .wdtKick .keeper (2 ^ 32),
  .sealEnter false .keeper { zSeal with north := [16] },
  .pwrAvs (2 ^ 16) .keeper,
  .stCmd 0 .keeper 256,
  .dbgAccess false (2 ^ 64) 0 [],
  .dbgAccess false 0 4097 [],
  .registerWrite .keeper 65536 0 0,
  .registerWrite .keeper 0 65536 0,
  .registerWrite .keeper 0 0 (2 ^ 32),
  .mgtLinkUp 8 false,
  .smlAuthWaitTimeout (2 ^ 32),
  .corePairSelftestDone 0 .pass (2 ^ 32)] : List Instr).all (fun c => !c.wf) = true := by decide

/-- An operand longer than its field admits is refused. -/
theorem test_wf_refuses_long_lists :
    (∀ l : List Anchor, 65536 < l.length → (Instr.auth zFrameN l false).wf = false) ∧
    (∀ l : List Byte, 1285 < l.length → (Instr.flitReceive 0 false l).wf = false) ∧
    (∀ l : List Nat, 65536 < l.length → (Instr.flsRead .keeper l []).wf = false) ∧
    (∀ l : List Nat, 65536 < l.length → (Instr.flsRead .keeper [] l).wf = false) ∧
    (∀ l : List Nat, 65536 < l.length → (Instr.pread .keeper l).wf = false) ∧
    (∀ l : List Byte, 1500 < l.length → (Instr.appendNote l false 0).wf = false) ∧
    (∀ l : List Byte, 65536 < l.length → (Instr.scRead .keeper l (.ok 0)).wf = false) ∧
    (∀ l : List Byte, 65536 < l.length → (Instr.enroll 0 l zFacts).wf = false) ∧
    (∀ l : List Nat, 65536 < l.length → (Instr.readDisturbRefresh 0 l 0).wf = false) ∧
    (∀ l : List Nat, 65536 < l.length → (Instr.flashReadScrub 0 l []).wf = false) ∧
    (∀ l : List Nat, 65536 < l.length → (Instr.flashReadScrub 0 [] l).wf = false) ∧
    (∀ l : List Nat, 65536 < l.length → (Instr.wearLevelling 0 l 0).wf = false) ∧
    (∀ l : List Nat, 65536 < l.length → (Instr.pwrOkFall l).wf = false) ∧
    (∀ l : List Byte, 65536 < l.length → (Instr.dbgAccess false 0 0 l).wf = false) ∧
    (∀ l : List Byte, 1500 < l.length → (Instr.arpNdEchoRequest .arp false l).wf = false) := by
  refine ⟨?_, ?_, ?_, ?_, ?_, ?_, ?_, ?_, ?_, ?_, ?_, ?_, ?_, ?_, ?_⟩ <;> (intro l h; have := Nat.not_le.2 h; simp [Instr.wf, upTo, this])

/-- The other operands of a command with a wide number. -/
theorem test_wf_refuses_beside_wide_numbers : (Instr.trailBacklog 512).wf = false ∧ (Instr.keyStore 16 0 0 0 0).wf = false ∧ (Instr.keyStore 0 65536 0 0 0).wf = false ∧ (Instr.keyStore 0 0 (2 ^ 32) 0 0).wf = false ∧ (Instr.keyStore 0 0 0 0 256).wf = false := by
  simp [Instr.wf, fits, below]

/-- A number wider than its field is refused. -/
theorem test_wf_refuses_wide_numbers :
    (∀ n : Nat, 2 ^ 512 ≤ n → (Instr.keyStore 0 0 0 n 0).wf = false) ∧
    (∀ n : Nat, 2 ^ 1024 ≤ n → (Instr.samplePreload n 0).wf = false) ∧
    (∀ n : Nat, 2 ^ 1024 ≤ n → (Instr.samplePreload 0 n).wf = false) ∧
    (∀ n : Nat, 2 ^ 1024 ≤ n → (Instr.extest n 0).wf = false) ∧
    (∀ n : Nat, 2 ^ 1024 ≤ n → (Instr.extest 0 n).wf = false) := by
  refine ⟨?_, ?_, ?_, ?_, ?_⟩ <;> (intro n h; have := Nat.not_lt.2 h; simp only [Instr.wf, fits, this, decide_false, Bool.false_and, Bool.and_false])

/-- Each field of a frame, a reading, a report, a start-up and an entry to SEAL out of its range is refused. -/
theorem test_wf_refuses_frames :
    [{ zFrameN with mac := 16 }, { zFrameN with src := 2 ^ 128 }, { zFrameN with dst := 2 ^ 128 }, { zFrameN with sport := 65536 }, { zFrameN with dport := 65536 }, { zFrameN with header := List.replicate 33 0 }, { zFrameN with tag := some (2 ^ 128) }].all (fun f => !f.wf) = true ∧
    [{ zFrameS with port := 24 }, { zFrameS with net := some { v6 := false, src := 2 ^ 128, dst := 0, sport := 0, dport := 0 } }, { zFrameS with header := List.replicate 33 0 }, { zFrameS with tag := some (2 ^ 128) }].all (fun f => !f.wf) = true ∧
    [{ zFrameM with net := .ether (2 ^ 48) 0 0 }, { zFrameM with net := .udp false 0 0 65536 0 }, { zFrameM with header := List.replicate 29 0 }, { zFrameM with tag := some (2 ^ 128) }].all (fun f => !f.wf) = true ∧
    [{ zReading with temp := 129 }, { zReading with temp := -129 }, { zReading with vbat := 65536 }, { zReading with vkeep := 65536 }].all (fun f => !f.wf) = true ∧
    [{ zEntry with media := 65536 }, { zEntry with state := 256 }, { zEntry with wear := 256 }, { zEntry with uid := 2 ^ 128 }].all (fun f => !f.wf) = true ∧
    [{ zBoot with pairs := [16] }, { zBoot with luns := 256 }, { zBoot with awlFail := [16] }, { zBoot with spongeFail := [128] }].all (fun f => !f.wf) = true ∧
    [{ zSeal with trained := [(12, [])] }, { zSeal with stitchFail := [12] }, { zSeal with spongeFail := [128] }, { zSeal with awlFail := [16] }, { zSeal with north := [16] }, { zSeal with south := [24] }, { zSeal with southAddrs := [(24, false, 0)] }].all (fun f => !f.wf) = true := by
  decide

/-- Well-formed terms of each shape of operand are accepted. -/
theorem test_wf_accepts : ([.trailBacklog 511, .close zFrameN, .smlClose zFrameM, .trap 15 0 255, .scRead .tack [] (.ok 1)] : List Instr).all (fun c => c.wf) = true := by decide

set_option Elab.async false

/-! Hypotheses of StepRunsTheCommandInFront. -/

theorem test_meets_StepRunsTheCommandInFront_0 : ∃ (c : Instr) (rest : List Instr) (s : State), s.pending = c :: rest :=
  ⟨.atDone, [.atDone], { State.reset with pending := [.atDone, .atDone] }, rfl⟩

/-! Hypotheses of EmptyQueueOnlyNotifies. -/

theorem test_meets_EmptyQueueOnlyNotifies_0 : ∃ (s : State), s.pending = [] :=
  ⟨State.reset, (by decide)⟩

theorem test_meets_EmptyQueueOnlyNotifies_1 : ∃ (s : State), s.pending = [] ∧ s.mgmtServes = false :=
  ⟨State.reset, (by decide), (by decide)⟩

/-! Hypotheses of CommandsTouchOnlyTheirParts. -/

theorem test_meets_CommandsTouchOnlyTheirParts_0 : ∃ (c : Instr) (s t : State), exec c s = .next t :=
  ⟨.atDone, State.reset, _, rfl⟩

theorem test_meets_CommandsTouchOnlyTheirParts_1 : ∃ (c : Instr) (s t : State), exec c s = .next t ∧ Part.mem ∉ touched c :=
  ⟨.atDone, State.reset, _, rfl, by decide⟩

/-! Hypotheses of StepsNeverTurnBack. -/

theorem test_meets_StepsNeverTurnBack_0 : ∃ (s t : State), step s = .next t :=
  ⟨State.reset, _, rfl⟩

/-! Hypotheses of MainResetKeepsKennelCollarAndFlash. -/

theorem test_meets_MainResetKeepsKennelCollarAndFlash_0 : ∃ (k : Nat), keptField k = true :=
  ⟨Reg.RST_CAUSE.COLD.key, (by decide +kernel)⟩

theorem test_meets_MainResetKeepsKennelCollarAndFlash_1 : ∃ (k : Nat), keptField k = false :=
  ⟨0, (by decide)⟩

/-! Hypotheses of ArithmeticInstructionsComplete. -/

theorem test_meets_ArithmeticInstructionsComplete_0 : ∃ (s : State) (u : State) (p : PairId) (wait : Nat), s.fetches p wait u :=
  ⟨State.reset, (((State.reset).tick (0) (0)).fetchCheck (0)).2, 0, 0, ⟨by decide, Prod.ext (by rfl) rfl⟩⟩

/-! Hypotheses of MultiplierInstructionsComplete. -/

theorem test_meets_MultiplierInstructionsComplete_0 : ∃ (s : State) (u : State) (p : PairId) (wait : Nat), s.fetches p wait u :=
  ⟨State.reset, (((State.reset).tick (0) (0)).fetchCheck (0)).2, 0, 0, ⟨by decide, Prod.ext (by rfl) rfl⟩⟩

theorem test_meets_MultiplierInstructionsComplete_1 : ∃ (s : State) (p : PairId) (e : MulEntry) (es : List MulEntry), (s.core p).mul = e :: es ∧ (∀ x ∈ es, e.done < x.done ∧ (s.core p).cycle < x.done) :=
  ⟨(zP (fun q => { q with mul := [{ done := 1, value := 0 }] })), (0 : PairId), ((((zP (fun q => { q with mul := [{ done := 1, value := 0 }] }))).core ((0 : PairId))).mul).head (by decide +kernel), ((((zP (fun q => { q with mul := [{ done := 1, value := 0 }] }))).core ((0 : PairId))).mul).tail, (List.cons_head_tail (by decide +kernel)).symm, (by decide +kernel)⟩

/-! Hypotheses of BranchesAndJumpsComplete. -/

theorem test_meets_BranchesAndJumpsComplete_0 : ∃ (s : State) (u : State) (p : PairId) (wait : Nat), s.fetches p wait u :=
  ⟨State.reset, (((State.reset).tick (0) (0)).fetchCheck (0)).2, 0, 0, ⟨by decide, Prod.ext (by rfl) rfl⟩⟩

theorem test_meets_BranchesAndJumpsComplete_1 : ∃ (s : State) (u : State) (p : PairId) (wait : Nat) (ra : RegId) (off : BitVec 16), s.fetches p wait u ∧ (((u.core p).reg ra) + off.signExtend 64).toNat % 4 = 0 :=
  ⟨State.reset, (((State.reset).tick (0) (0)).fetchCheck (0)).2, 0, 0, 0, 0, ⟨by decide, Prod.ext (by rfl) rfl⟩, (by decide)⟩

theorem test_meets_BranchesAndJumpsComplete_2 : ∃ (s : State) (u : State) (p : PairId) (wait : Nat), s.fetches p wait u ∧ (u.core p).sup = true :=
  ⟨State.reset, (((State.reset).tick (0) (0)).fetchCheck (0)).2, 0, 0, ⟨by decide, Prod.ext (by rfl) rfl⟩, (by decide)⟩

/-! Hypotheses of LoadsAndStoresComplete. -/

theorem test_meets_LoadsAndStoresComplete_0 : ∃ (s : State) (u : State) (v : State) (p : PairId) (wait : Nat) (rt : RegId) (ra : RegId) (m : AddrMode) (pa : Nat) (bs : List Byte), s.fetches p wait u ∧ m.illegal rt ra true = false ∧ u.loadBytes p .read (m.address (u.core p) ra) 1 = (.ok (pa, bs), v) :=
  ⟨(zP (fun q => q.setReg 1 0x4000000)), ((((zP (fun q => q.setReg 1 0x4000000))).tick ((0 : PairId)) (0)).fetchCheck ((0 : PairId))).2, ((((((zP (fun q => q.setReg 1 0x4000000))).tick ((0 : PairId)) (0)).fetchCheck ((0 : PairId))).2).loadBytes ((0 : PairId)) .read (((AddrMode.disp 0)).address ((((((zP (fun q => q.setReg 1 0x4000000))).tick ((0 : PairId)) (0)).fetchCheck ((0 : PairId))).2).core ((0 : PairId))) (1)) 1).2, (0 : PairId), 0, (0 : RegId), 1, (AddrMode.disp 0), (okOf ((((((zP (fun q => q.setReg 1 0x4000000))).tick ((0 : PairId)) (0)).fetchCheck ((0 : PairId))).2).loadBytes ((0 : PairId)) .read (((AddrMode.disp 0)).address ((((((zP (fun q => q.setReg 1 0x4000000))).tick ((0 : PairId)) (0)).fetchCheck ((0 : PairId))).2).core ((0 : PairId))) (1)) 1).1 (0, [])).1, (okOf ((((((zP (fun q => q.setReg 1 0x4000000))).tick ((0 : PairId)) (0)).fetchCheck ((0 : PairId))).2).loadBytes ((0 : PairId)) .read (((AddrMode.disp 0)).address ((((((zP (fun q => q.setReg 1 0x4000000))).tick ((0 : PairId)) (0)).fetchCheck ((0 : PairId))).2).core ((0 : PairId))) (1)) 1).1 (0, [])).2, ⟨by decide +kernel, Prod.ext (by rfl) rfl⟩, (by decide +kernel), Prod.ext (okOf_eq (d := (0, [])) (by decide +kernel)) rfl⟩

theorem test_meets_LoadsAndStoresComplete_1 : ∃ (s : State) (u : State) (v : State) (p : PairId) (wait : Nat) (rt : RegId) (ra : RegId) (m : AddrMode) (pa : Nat) (bs : List Byte), s.fetches p wait u ∧ m.illegal rt ra true = false ∧ (m.address (u.core p) ra).toNat % 2 = 0 ∧ u.loadBytes p .read (m.address (u.core p) ra) 2 = (.ok (pa, bs), v) :=
  ⟨(zP (fun q => q.setReg 1 0x4000000)), ((((zP (fun q => q.setReg 1 0x4000000))).tick ((0 : PairId)) (0)).fetchCheck ((0 : PairId))).2, ((((((zP (fun q => q.setReg 1 0x4000000))).tick ((0 : PairId)) (0)).fetchCheck ((0 : PairId))).2).loadBytes ((0 : PairId)) .read (((AddrMode.disp 0)).address ((((((zP (fun q => q.setReg 1 0x4000000))).tick ((0 : PairId)) (0)).fetchCheck ((0 : PairId))).2).core ((0 : PairId))) (1)) 2).2, (0 : PairId), 0, (0 : RegId), 1, (AddrMode.disp 0), (okOf ((((((zP (fun q => q.setReg 1 0x4000000))).tick ((0 : PairId)) (0)).fetchCheck ((0 : PairId))).2).loadBytes ((0 : PairId)) .read (((AddrMode.disp 0)).address ((((((zP (fun q => q.setReg 1 0x4000000))).tick ((0 : PairId)) (0)).fetchCheck ((0 : PairId))).2).core ((0 : PairId))) (1)) 2).1 (0, [])).1, (okOf ((((((zP (fun q => q.setReg 1 0x4000000))).tick ((0 : PairId)) (0)).fetchCheck ((0 : PairId))).2).loadBytes ((0 : PairId)) .read (((AddrMode.disp 0)).address ((((((zP (fun q => q.setReg 1 0x4000000))).tick ((0 : PairId)) (0)).fetchCheck ((0 : PairId))).2).core ((0 : PairId))) (1)) 2).1 (0, [])).2, ⟨by decide +kernel, Prod.ext (by rfl) rfl⟩, (by decide +kernel), (by decide +kernel), Prod.ext (okOf_eq (d := (0, [])) (by decide +kernel)) rfl⟩

theorem test_meets_LoadsAndStoresComplete_2 : ∃ (s : State) (u : State) (v : State) (p : PairId) (wait : Nat) (rt : RegId) (ra : RegId) (m : AddrMode) (pa : Nat) (bs : List Byte), s.fetches p wait u ∧ m.illegal rt ra true = false ∧ (m.address (u.core p) ra).toNat % 4 = 0 ∧ u.loadBytes p .read (m.address (u.core p) ra) 4 = (.ok (pa, bs), v) :=
  ⟨(zP (fun q => q.setReg 1 0x4000000)), ((((zP (fun q => q.setReg 1 0x4000000))).tick ((0 : PairId)) (0)).fetchCheck ((0 : PairId))).2, ((((((zP (fun q => q.setReg 1 0x4000000))).tick ((0 : PairId)) (0)).fetchCheck ((0 : PairId))).2).loadBytes ((0 : PairId)) .read (((AddrMode.disp 0)).address ((((((zP (fun q => q.setReg 1 0x4000000))).tick ((0 : PairId)) (0)).fetchCheck ((0 : PairId))).2).core ((0 : PairId))) (1)) 4).2, (0 : PairId), 0, (0 : RegId), 1, (AddrMode.disp 0), (okOf ((((((zP (fun q => q.setReg 1 0x4000000))).tick ((0 : PairId)) (0)).fetchCheck ((0 : PairId))).2).loadBytes ((0 : PairId)) .read (((AddrMode.disp 0)).address ((((((zP (fun q => q.setReg 1 0x4000000))).tick ((0 : PairId)) (0)).fetchCheck ((0 : PairId))).2).core ((0 : PairId))) (1)) 4).1 (0, [])).1, (okOf ((((((zP (fun q => q.setReg 1 0x4000000))).tick ((0 : PairId)) (0)).fetchCheck ((0 : PairId))).2).loadBytes ((0 : PairId)) .read (((AddrMode.disp 0)).address ((((((zP (fun q => q.setReg 1 0x4000000))).tick ((0 : PairId)) (0)).fetchCheck ((0 : PairId))).2).core ((0 : PairId))) (1)) 4).1 (0, [])).2, ⟨by decide +kernel, Prod.ext (by rfl) rfl⟩, (by decide +kernel), (by decide +kernel), Prod.ext (okOf_eq (d := (0, [])) (by decide +kernel)) rfl⟩

theorem test_meets_LoadsAndStoresComplete_3 : ∃ (s : State) (u : State) (v : State) (p : PairId) (wait : Nat) (rt : RegId) (ra : RegId) (m : AddrMode) (pa : Nat) (bs : List Byte), s.fetches p wait u ∧ m.illegal rt ra true = false ∧ (m.address (u.core p) ra).toNat % 8 = 0 ∧ u.loadBytes p .read (m.address (u.core p) ra) 8 = (.ok (pa, bs), v) :=
  ⟨(zP (fun q => q.setReg 1 0x4000000)), ((((zP (fun q => q.setReg 1 0x4000000))).tick ((0 : PairId)) (0)).fetchCheck ((0 : PairId))).2, ((((((zP (fun q => q.setReg 1 0x4000000))).tick ((0 : PairId)) (0)).fetchCheck ((0 : PairId))).2).loadBytes ((0 : PairId)) .read (((AddrMode.disp 0)).address ((((((zP (fun q => q.setReg 1 0x4000000))).tick ((0 : PairId)) (0)).fetchCheck ((0 : PairId))).2).core ((0 : PairId))) (1)) 8).2, (0 : PairId), 0, (0 : RegId), 1, (AddrMode.disp 0), (okOf ((((((zP (fun q => q.setReg 1 0x4000000))).tick ((0 : PairId)) (0)).fetchCheck ((0 : PairId))).2).loadBytes ((0 : PairId)) .read (((AddrMode.disp 0)).address ((((((zP (fun q => q.setReg 1 0x4000000))).tick ((0 : PairId)) (0)).fetchCheck ((0 : PairId))).2).core ((0 : PairId))) (1)) 8).1 (0, [])).1, (okOf ((((((zP (fun q => q.setReg 1 0x4000000))).tick ((0 : PairId)) (0)).fetchCheck ((0 : PairId))).2).loadBytes ((0 : PairId)) .read (((AddrMode.disp 0)).address ((((((zP (fun q => q.setReg 1 0x4000000))).tick ((0 : PairId)) (0)).fetchCheck ((0 : PairId))).2).core ((0 : PairId))) (1)) 8).1 (0, [])).2, ⟨by decide +kernel, Prod.ext (by rfl) rfl⟩, (by decide +kernel), (by decide +kernel), Prod.ext (okOf_eq (d := (0, [])) (by decide +kernel)) rfl⟩

theorem test_meets_LoadsAndStoresComplete_4 : ∃ (s : State) (u : State) (v : State) (p : PairId) (wait : Nat) (rt : RegId) (ra : RegId) (m : AddrMode) (pa : Nat), s.fetches p wait u ∧ m.illegal rt ra false = false ∧ u.approach p (u.core p).world (!(u.core p).sup) .write (m.address (u.core p) ra) 1 = (.ok pa, v) :=
  ⟨(zP (fun q => q.setReg 1 0x4000000)), ((((zP (fun q => q.setReg 1 0x4000000))).tick ((0 : PairId)) (0)).fetchCheck ((0 : PairId))).2, ((((((zP (fun q => q.setReg 1 0x4000000))).tick ((0 : PairId)) (0)).fetchCheck ((0 : PairId))).2).approach ((0 : PairId)) ((((((zP (fun q => q.setReg 1 0x4000000))).tick ((0 : PairId)) (0)).fetchCheck ((0 : PairId))).2).core ((0 : PairId))).world (!((((((zP (fun q => q.setReg 1 0x4000000))).tick ((0 : PairId)) (0)).fetchCheck ((0 : PairId))).2).core ((0 : PairId))).sup) .write (((AddrMode.disp 0)).address ((((((zP (fun q => q.setReg 1 0x4000000))).tick ((0 : PairId)) (0)).fetchCheck ((0 : PairId))).2).core ((0 : PairId))) (1)) 1).2, (0 : PairId), 0, (0 : RegId), 1, (AddrMode.disp 0), okOf ((((((zP (fun q => q.setReg 1 0x4000000))).tick ((0 : PairId)) (0)).fetchCheck ((0 : PairId))).2).approach ((0 : PairId)) ((((((zP (fun q => q.setReg 1 0x4000000))).tick ((0 : PairId)) (0)).fetchCheck ((0 : PairId))).2).core ((0 : PairId))).world (!((((((zP (fun q => q.setReg 1 0x4000000))).tick ((0 : PairId)) (0)).fetchCheck ((0 : PairId))).2).core ((0 : PairId))).sup) .write (((AddrMode.disp 0)).address ((((((zP (fun q => q.setReg 1 0x4000000))).tick ((0 : PairId)) (0)).fetchCheck ((0 : PairId))).2).core ((0 : PairId))) (1)) 1).1 0, ⟨by decide +kernel, Prod.ext (by rfl) rfl⟩, (by decide +kernel), Prod.ext (okOf_eq (by decide +kernel)) rfl⟩

theorem test_meets_LoadsAndStoresComplete_5 : ∃ (s : State) (u : State) (v : State) (p : PairId) (wait : Nat) (rt : RegId) (ra : RegId) (m : AddrMode) (pa : Nat), s.fetches p wait u ∧ m.illegal rt ra false = false ∧ (m.address (u.core p) ra).toNat % 2 = 0 ∧ u.approach p (u.core p).world (!(u.core p).sup) .write (m.address (u.core p) ra) 2 = (.ok pa, v) :=
  ⟨(zP (fun q => q.setReg 1 0x4000000)), ((((zP (fun q => q.setReg 1 0x4000000))).tick ((0 : PairId)) (0)).fetchCheck ((0 : PairId))).2, ((((((zP (fun q => q.setReg 1 0x4000000))).tick ((0 : PairId)) (0)).fetchCheck ((0 : PairId))).2).approach ((0 : PairId)) ((((((zP (fun q => q.setReg 1 0x4000000))).tick ((0 : PairId)) (0)).fetchCheck ((0 : PairId))).2).core ((0 : PairId))).world (!((((((zP (fun q => q.setReg 1 0x4000000))).tick ((0 : PairId)) (0)).fetchCheck ((0 : PairId))).2).core ((0 : PairId))).sup) .write (((AddrMode.disp 0)).address ((((((zP (fun q => q.setReg 1 0x4000000))).tick ((0 : PairId)) (0)).fetchCheck ((0 : PairId))).2).core ((0 : PairId))) (1)) 2).2, (0 : PairId), 0, (0 : RegId), 1, (AddrMode.disp 0), okOf ((((((zP (fun q => q.setReg 1 0x4000000))).tick ((0 : PairId)) (0)).fetchCheck ((0 : PairId))).2).approach ((0 : PairId)) ((((((zP (fun q => q.setReg 1 0x4000000))).tick ((0 : PairId)) (0)).fetchCheck ((0 : PairId))).2).core ((0 : PairId))).world (!((((((zP (fun q => q.setReg 1 0x4000000))).tick ((0 : PairId)) (0)).fetchCheck ((0 : PairId))).2).core ((0 : PairId))).sup) .write (((AddrMode.disp 0)).address ((((((zP (fun q => q.setReg 1 0x4000000))).tick ((0 : PairId)) (0)).fetchCheck ((0 : PairId))).2).core ((0 : PairId))) (1)) 2).1 0, ⟨by decide +kernel, Prod.ext (by rfl) rfl⟩, (by decide +kernel), (by decide +kernel), Prod.ext (okOf_eq (by decide +kernel)) rfl⟩

theorem test_meets_LoadsAndStoresComplete_6 : ∃ (s : State) (u : State) (v : State) (p : PairId) (wait : Nat) (rt : RegId) (ra : RegId) (m : AddrMode) (pa : Nat), s.fetches p wait u ∧ m.illegal rt ra false = false ∧ (m.address (u.core p) ra).toNat % 4 = 0 ∧ u.approach p (u.core p).world (!(u.core p).sup) .write (m.address (u.core p) ra) 4 = (.ok pa, v) :=
  ⟨(zP (fun q => q.setReg 1 0x4000000)), ((((zP (fun q => q.setReg 1 0x4000000))).tick ((0 : PairId)) (0)).fetchCheck ((0 : PairId))).2, ((((((zP (fun q => q.setReg 1 0x4000000))).tick ((0 : PairId)) (0)).fetchCheck ((0 : PairId))).2).approach ((0 : PairId)) ((((((zP (fun q => q.setReg 1 0x4000000))).tick ((0 : PairId)) (0)).fetchCheck ((0 : PairId))).2).core ((0 : PairId))).world (!((((((zP (fun q => q.setReg 1 0x4000000))).tick ((0 : PairId)) (0)).fetchCheck ((0 : PairId))).2).core ((0 : PairId))).sup) .write (((AddrMode.disp 0)).address ((((((zP (fun q => q.setReg 1 0x4000000))).tick ((0 : PairId)) (0)).fetchCheck ((0 : PairId))).2).core ((0 : PairId))) (1)) 4).2, (0 : PairId), 0, (0 : RegId), 1, (AddrMode.disp 0), okOf ((((((zP (fun q => q.setReg 1 0x4000000))).tick ((0 : PairId)) (0)).fetchCheck ((0 : PairId))).2).approach ((0 : PairId)) ((((((zP (fun q => q.setReg 1 0x4000000))).tick ((0 : PairId)) (0)).fetchCheck ((0 : PairId))).2).core ((0 : PairId))).world (!((((((zP (fun q => q.setReg 1 0x4000000))).tick ((0 : PairId)) (0)).fetchCheck ((0 : PairId))).2).core ((0 : PairId))).sup) .write (((AddrMode.disp 0)).address ((((((zP (fun q => q.setReg 1 0x4000000))).tick ((0 : PairId)) (0)).fetchCheck ((0 : PairId))).2).core ((0 : PairId))) (1)) 4).1 0, ⟨by decide +kernel, Prod.ext (by rfl) rfl⟩, (by decide +kernel), (by decide +kernel), Prod.ext (okOf_eq (by decide +kernel)) rfl⟩

theorem test_meets_LoadsAndStoresComplete_7 : ∃ (s : State) (u : State) (v : State) (p : PairId) (wait : Nat) (rt : RegId) (ra : RegId) (m : AddrMode) (pa : Nat), s.fetches p wait u ∧ m.illegal rt ra false = false ∧ (m.address (u.core p) ra).toNat % 8 = 0 ∧ u.approach p (u.core p).world (!(u.core p).sup) .write (m.address (u.core p) ra) 8 = (.ok pa, v) :=
  ⟨(zP (fun q => q.setReg 1 0x4000000)), ((((zP (fun q => q.setReg 1 0x4000000))).tick ((0 : PairId)) (0)).fetchCheck ((0 : PairId))).2, ((((((zP (fun q => q.setReg 1 0x4000000))).tick ((0 : PairId)) (0)).fetchCheck ((0 : PairId))).2).approach ((0 : PairId)) ((((((zP (fun q => q.setReg 1 0x4000000))).tick ((0 : PairId)) (0)).fetchCheck ((0 : PairId))).2).core ((0 : PairId))).world (!((((((zP (fun q => q.setReg 1 0x4000000))).tick ((0 : PairId)) (0)).fetchCheck ((0 : PairId))).2).core ((0 : PairId))).sup) .write (((AddrMode.disp 0)).address ((((((zP (fun q => q.setReg 1 0x4000000))).tick ((0 : PairId)) (0)).fetchCheck ((0 : PairId))).2).core ((0 : PairId))) (1)) 8).2, (0 : PairId), 0, (0 : RegId), 1, (AddrMode.disp 0), okOf ((((((zP (fun q => q.setReg 1 0x4000000))).tick ((0 : PairId)) (0)).fetchCheck ((0 : PairId))).2).approach ((0 : PairId)) ((((((zP (fun q => q.setReg 1 0x4000000))).tick ((0 : PairId)) (0)).fetchCheck ((0 : PairId))).2).core ((0 : PairId))).world (!((((((zP (fun q => q.setReg 1 0x4000000))).tick ((0 : PairId)) (0)).fetchCheck ((0 : PairId))).2).core ((0 : PairId))).sup) .write (((AddrMode.disp 0)).address ((((((zP (fun q => q.setReg 1 0x4000000))).tick ((0 : PairId)) (0)).fetchCheck ((0 : PairId))).2).core ((0 : PairId))) (1)) 8).1 0, ⟨by decide +kernel, Prod.ext (by rfl) rfl⟩, (by decide +kernel), (by decide +kernel), Prod.ext (okOf_eq (by decide +kernel)) rfl⟩

/-! Hypotheses of StoreChangesOnlyItsBytes. -/

theorem test_meets_StoreChangesOnlyItsBytes_0 : ∃ (s : State) (a : Nat) (bs : List Byte) (i : Nat), s.mem.wf = true ∧ s.flips a bs.length = false ∧ i < bs.length :=
  ⟨zRun, 0, [0], 0, (by decide +kernel), (by decide +kernel), (by decide +kernel)⟩

theorem test_meets_StoreChangesOnlyItsBytes_1 : ∃ (s : State) (a : Nat) (bs : List Byte) (x : Nat), s.mem.wf = true ∧ s.flips a bs.length = false ∧ (x < a ∨ a + bs.length ≤ x) :=
  ⟨State.reset, 0, [], 0, (by decide), (by decide), (by decide)⟩

theorem test_meets_StoreChangesOnlyItsBytes_2 : ∃ (s : State) (a : Nat) (bs : List Byte) (x : Nat), s.mem.wf = true ∧ s.flips a bs.length = false ∧ (x < a ∨ a + bs.length ≤ x) ∧ s.targetOf a ≠ some 2 :=
  ⟨State.reset, 0, [], 0, (by decide), (by decide), (by decide), (by decide)⟩

theorem test_meets_StoreChangesOnlyItsBytes_3 : ∃ (s : State) (a : Nat) (bs : List Byte), s.mem.wf = true ∧ s.flips a bs.length = false ∧ s.targetOf a = some 2 :=
  ⟨zRun, 0x2000000, [], (by decide +kernel), (by decide +kernel), (by decide +kernel)⟩

theorem test_meets_StoreChangesOnlyItsBytes_4 : ∃ (s : State) (a : Nat) (bs : List Byte), s.mem.wf = true ∧ s.flips a bs.length = false :=
  ⟨State.reset, 0, [], (by decide), (by decide)⟩

/-! Hypotheses of AtomicsAndReservationComplete. -/

theorem test_meets_AtomicsAndReservationComplete_0 : ∃ (s : State) (u : State) (v : State) (p : PairId) (wait : Nat) (ra : RegId) (pa : Nat) (bs : List Byte), s.fetches p wait u ∧ ((u.core p).reg ra).toNat % 8 = 0 ∧ u.loadBytes p .atomic ((u.core p).reg ra) 8 = (.ok (pa, bs), v) :=
  ⟨(zP (fun q => q.setReg 1 0x4000000)), ((((zP (fun q => q.setReg 1 0x4000000))).tick ((0 : PairId)) (0)).fetchCheck ((0 : PairId))).2, ((((((zP (fun q => q.setReg 1 0x4000000))).tick ((0 : PairId)) (0)).fetchCheck ((0 : PairId))).2).loadBytes ((0 : PairId)) .atomic (((((((zP (fun q => q.setReg 1 0x4000000))).tick ((0 : PairId)) (0)).fetchCheck ((0 : PairId))).2).core ((0 : PairId))).reg (1)) 8).2, (0 : PairId), 0, 1, (okOf ((((((zP (fun q => q.setReg 1 0x4000000))).tick ((0 : PairId)) (0)).fetchCheck ((0 : PairId))).2).loadBytes ((0 : PairId)) .atomic (((((((zP (fun q => q.setReg 1 0x4000000))).tick ((0 : PairId)) (0)).fetchCheck ((0 : PairId))).2).core ((0 : PairId))).reg (1)) 8).1 (0, [])).1, (okOf ((((((zP (fun q => q.setReg 1 0x4000000))).tick ((0 : PairId)) (0)).fetchCheck ((0 : PairId))).2).loadBytes ((0 : PairId)) .atomic (((((((zP (fun q => q.setReg 1 0x4000000))).tick ((0 : PairId)) (0)).fetchCheck ((0 : PairId))).2).core ((0 : PairId))).reg (1)) 8).1 (0, [])).2, ⟨by decide +kernel, Prod.ext (by rfl) rfl⟩, (by decide +kernel), Prod.ext (okOf_eq (d := (0, [])) (by decide +kernel)) rfl⟩

theorem test_meets_AtomicsAndReservationComplete_1 : ∃ (s : State) (u : State) (v : State) (p : PairId) (wait : Nat) (ra : RegId) (pa : Nat) (bs : List Byte), s.fetches p wait u ∧ ((u.core p).reg ra).toNat % 8 = 0 ∧ u.loadBytes p .read ((u.core p).reg ra) 8 = (.ok (pa, bs), v) :=
  ⟨(zP (fun q => q.setReg 1 0x4000000)), ((((zP (fun q => q.setReg 1 0x4000000))).tick ((0 : PairId)) (0)).fetchCheck ((0 : PairId))).2, ((((((zP (fun q => q.setReg 1 0x4000000))).tick ((0 : PairId)) (0)).fetchCheck ((0 : PairId))).2).loadBytes ((0 : PairId)) .read (((((((zP (fun q => q.setReg 1 0x4000000))).tick ((0 : PairId)) (0)).fetchCheck ((0 : PairId))).2).core ((0 : PairId))).reg (1)) 8).2, (0 : PairId), 0, 1, (okOf ((((((zP (fun q => q.setReg 1 0x4000000))).tick ((0 : PairId)) (0)).fetchCheck ((0 : PairId))).2).loadBytes ((0 : PairId)) .read (((((((zP (fun q => q.setReg 1 0x4000000))).tick ((0 : PairId)) (0)).fetchCheck ((0 : PairId))).2).core ((0 : PairId))).reg (1)) 8).1 (0, [])).1, (okOf ((((((zP (fun q => q.setReg 1 0x4000000))).tick ((0 : PairId)) (0)).fetchCheck ((0 : PairId))).2).loadBytes ((0 : PairId)) .read (((((((zP (fun q => q.setReg 1 0x4000000))).tick ((0 : PairId)) (0)).fetchCheck ((0 : PairId))).2).core ((0 : PairId))).reg (1)) 8).1 (0, [])).2, ⟨by decide +kernel, Prod.ext (by rfl) rfl⟩, (by decide +kernel), Prod.ext (okOf_eq (d := (0, [])) (by decide +kernel)) rfl⟩

theorem test_meets_AtomicsAndReservationComplete_2 : ∃ (s : State) (u : State) (v : State) (p : PairId) (wait : Nat) (ra : RegId) (pa : Nat), s.fetches p wait u ∧ ((u.core p).reg ra).toNat % 8 = 0 ∧ u.approach p (u.core p).world (!(u.core p).sup) .write ((u.core p).reg ra) 8 = (.ok pa, v) ∧ tget v.cores.reserved p.val = some (pa / 64 * 64) ∧ v.targetOf pa ≠ some 2 :=
  ⟨({ zP (fun q => q.setReg 1 0x4000000) with cores := { (zP (fun q => q.setReg 1 0x4000000)).cores with reserved := [(0, 0x4000000)] } }), (((({ zP (fun q => q.setReg 1 0x4000000) with cores := { (zP (fun q => q.setReg 1 0x4000000)).cores with reserved := [(0, 0x4000000)] } })).tick ((0 : PairId)) (0)).fetchCheck ((0 : PairId))).2, (((((({ zP (fun q => q.setReg 1 0x4000000) with cores := { (zP (fun q => q.setReg 1 0x4000000)).cores with reserved := [(0, 0x4000000)] } })).tick ((0 : PairId)) (0)).fetchCheck ((0 : PairId))).2).approach ((0 : PairId)) (((((({ zP (fun q => q.setReg 1 0x4000000) with cores := { (zP (fun q => q.setReg 1 0x4000000)).cores with reserved := [(0, 0x4000000)] } })).tick ((0 : PairId)) (0)).fetchCheck ((0 : PairId))).2).core ((0 : PairId))).world (!(((((({ zP (fun q => q.setReg 1 0x4000000) with cores := { (zP (fun q => q.setReg 1 0x4000000)).cores with reserved := [(0, 0x4000000)] } })).tick ((0 : PairId)) (0)).fetchCheck ((0 : PairId))).2).core ((0 : PairId))).sup) .write ((((((({ zP (fun q => q.setReg 1 0x4000000) with cores := { (zP (fun q => q.setReg 1 0x4000000)).cores with reserved := [(0, 0x4000000)] } })).tick ((0 : PairId)) (0)).fetchCheck ((0 : PairId))).2).core ((0 : PairId))).reg (1)) 8).2, (0 : PairId), 0, 1, okOf (((((({ zP (fun q => q.setReg 1 0x4000000) with cores := { (zP (fun q => q.setReg 1 0x4000000)).cores with reserved := [(0, 0x4000000)] } })).tick ((0 : PairId)) (0)).fetchCheck ((0 : PairId))).2).approach ((0 : PairId)) (((((({ zP (fun q => q.setReg 1 0x4000000) with cores := { (zP (fun q => q.setReg 1 0x4000000)).cores with reserved := [(0, 0x4000000)] } })).tick ((0 : PairId)) (0)).fetchCheck ((0 : PairId))).2).core ((0 : PairId))).world (!(((((({ zP (fun q => q.setReg 1 0x4000000) with cores := { (zP (fun q => q.setReg 1 0x4000000)).cores with reserved := [(0, 0x4000000)] } })).tick ((0 : PairId)) (0)).fetchCheck ((0 : PairId))).2).core ((0 : PairId))).sup) .write ((((((({ zP (fun q => q.setReg 1 0x4000000) with cores := { (zP (fun q => q.setReg 1 0x4000000)).cores with reserved := [(0, 0x4000000)] } })).tick ((0 : PairId)) (0)).fetchCheck ((0 : PairId))).2).core ((0 : PairId))).reg (1)) 8).1 0, ⟨by decide +kernel, Prod.ext (by rfl) rfl⟩, (by decide +kernel), Prod.ext (okOf_eq (by decide +kernel)) rfl, (by decide +kernel), (by decide +kernel)⟩

theorem test_meets_AtomicsAndReservationComplete_3 : ∃ (s : State) (u : State) (v : State) (p : PairId) (wait : Nat) (ra : RegId) (pa : Nat), s.fetches p wait u ∧ ((u.core p).reg ra).toNat % 8 = 0 ∧ u.approach p (u.core p).world (!(u.core p).sup) .write ((u.core p).reg ra) 8 = (.ok pa, v) ∧ tget v.cores.reserved p.val ≠ some (pa / 64 * 64) :=
  ⟨(zP (fun q => q.setReg 1 0x4000000)), ((((zP (fun q => q.setReg 1 0x4000000))).tick ((0 : PairId)) (0)).fetchCheck ((0 : PairId))).2, ((((((zP (fun q => q.setReg 1 0x4000000))).tick ((0 : PairId)) (0)).fetchCheck ((0 : PairId))).2).approach ((0 : PairId)) ((((((zP (fun q => q.setReg 1 0x4000000))).tick ((0 : PairId)) (0)).fetchCheck ((0 : PairId))).2).core ((0 : PairId))).world (!((((((zP (fun q => q.setReg 1 0x4000000))).tick ((0 : PairId)) (0)).fetchCheck ((0 : PairId))).2).core ((0 : PairId))).sup) .write (((((((zP (fun q => q.setReg 1 0x4000000))).tick ((0 : PairId)) (0)).fetchCheck ((0 : PairId))).2).core ((0 : PairId))).reg (1)) 8).2, (0 : PairId), 0, 1, okOf ((((((zP (fun q => q.setReg 1 0x4000000))).tick ((0 : PairId)) (0)).fetchCheck ((0 : PairId))).2).approach ((0 : PairId)) ((((((zP (fun q => q.setReg 1 0x4000000))).tick ((0 : PairId)) (0)).fetchCheck ((0 : PairId))).2).core ((0 : PairId))).world (!((((((zP (fun q => q.setReg 1 0x4000000))).tick ((0 : PairId)) (0)).fetchCheck ((0 : PairId))).2).core ((0 : PairId))).sup) .write (((((((zP (fun q => q.setReg 1 0x4000000))).tick ((0 : PairId)) (0)).fetchCheck ((0 : PairId))).2).core ((0 : PairId))).reg (1)) 8).1 0, ⟨by decide +kernel, Prod.ext (by rfl) rfl⟩, (by decide +kernel), Prod.ext (okOf_eq (by decide +kernel)) rfl, (by decide +kernel)⟩

/-! Hypotheses of LongInstructionsComplete. -/

theorem test_meets_LongInstructionsComplete_0 : ∃ (s : State) (u : State) (p : PairId) (wait : Nat) (rd : RegId) (ra : RegId) (rb : RegId), s.fetches p wait u ∧ fillRegs rd ra rb = true ∧ (u.core p).reg rb = 0 :=
  ⟨(zP (fun q => ((q.setReg 3 0).setReg 1 0x4000000).setReg 2 0x4000100)), ((((zP (fun q => ((q.setReg 3 0).setReg 1 0x4000000).setReg 2 0x4000100))).tick ((0 : PairId)) (0)).fetchCheck ((0 : PairId))).2, (0 : PairId), 0, 1, 2, 3, ⟨by decide +kernel, Prod.ext (by rfl) rfl⟩, (by decide +kernel), (by decide +kernel)⟩

theorem test_meets_LongInstructionsComplete_1 : ∃ (s : State) (u : State) (v : State) (p : PairId) (wait : Nat) (rd : RegId) (ra : RegId) (rb : RegId) (size : BitVec 2), s.fetches p wait u ∧ fillRegs rd ra rb = true ∧ ((u.core p).reg rb).toNat = 1 ∧ ((u.core p).reg rd).toNat % 2 ^ size.toNat = 0 ∧ u.storeBytes p .write ((u.core p).reg rd) (leBytes (2 ^ size.toNat) ((u.core p).reg ra).toNat) = (.ok (), v) ∧ (v.core p).reg rb = 1 :=
  ⟨(zP (fun q => ((q.setReg 3 1).setReg 1 0x4000000).setReg 2 0x4000100)), ((((zP (fun q => ((q.setReg 3 1).setReg 1 0x4000000).setReg 2 0x4000100))).tick ((0 : PairId)) (0)).fetchCheck ((0 : PairId))).2, ((((((zP (fun q => ((q.setReg 3 1).setReg 1 0x4000000).setReg 2 0x4000100))).tick ((0 : PairId)) (0)).fetchCheck ((0 : PairId))).2).storeBytes ((0 : PairId)) .write (((((((zP (fun q => ((q.setReg 3 1).setReg 1 0x4000000).setReg 2 0x4000100))).tick ((0 : PairId)) (0)).fetchCheck ((0 : PairId))).2).core ((0 : PairId))).reg (1)) (leBytes (2 ^ (0#2).toNat) (((((((zP (fun q => ((q.setReg 3 1).setReg 1 0x4000000).setReg 2 0x4000100))).tick ((0 : PairId)) (0)).fetchCheck ((0 : PairId))).2).core ((0 : PairId))).reg (2)).toNat)).2, (0 : PairId), 0, 1, 2, 3, 0#2, ⟨by decide +kernel, Prod.ext (by rfl) rfl⟩, (by decide +kernel), (by decide +kernel), (by decide +kernel), Prod.ext (okOf_eq (d := ()) (by decide +kernel)) rfl, (by decide +kernel)⟩

theorem test_meets_LongInstructionsComplete_2 : ∃ (s : State) (u : State) (v : State) (p : PairId) (wait : Nat) (rd : RegId) (ra : RegId) (rb : RegId) (x : State) (pa : Nat) (bs : List Byte) (size : BitVec 2), s.fetches p wait u ∧ threeRegs rd ra rb = true ∧ ((u.core p).reg rb).toNat = 1 ∧ ((u.core p).reg rd).toNat % 2 ^ size.toNat = 0 ∧ ((u.core p).reg ra).toNat % 2 ^ size.toNat = 0 ∧ u.loadBytes p .read ((u.core p).reg ra) (2 ^ size.toNat) = (.ok (pa, bs), x) ∧ x.storeBytes p .write ((x.core p).reg rd) bs = (.ok (), v) ∧ (v.core p).reg rb = 1 :=
  ⟨(zP (fun q => ((q.setReg 3 1).setReg 1 0x4000000).setReg 2 0x4000100)), ((((zP (fun q => ((q.setReg 3 1).setReg 1 0x4000000).setReg 2 0x4000100))).tick ((0 : PairId)) (0)).fetchCheck ((0 : PairId))).2, ((((((((zP (fun q => ((q.setReg 3 1).setReg 1 0x4000000).setReg 2 0x4000100))).tick ((0 : PairId)) (0)).fetchCheck ((0 : PairId))).2).loadBytes ((0 : PairId)) .read (((((((zP (fun q => ((q.setReg 3 1).setReg 1 0x4000000).setReg 2 0x4000100))).tick ((0 : PairId)) (0)).fetchCheck ((0 : PairId))).2).core ((0 : PairId))).reg (2)) (2 ^ (0#2).toNat)).2).storeBytes ((0 : PairId)) .write (((((((((zP (fun q => ((q.setReg 3 1).setReg 1 0x4000000).setReg 2 0x4000100))).tick ((0 : PairId)) (0)).fetchCheck ((0 : PairId))).2).loadBytes ((0 : PairId)) .read (((((((zP (fun q => ((q.setReg 3 1).setReg 1 0x4000000).setReg 2 0x4000100))).tick ((0 : PairId)) (0)).fetchCheck ((0 : PairId))).2).core ((0 : PairId))).reg (2)) (2 ^ (0#2).toNat)).2).core ((0 : PairId))).reg (1)) ((okOf ((((((zP (fun q => ((q.setReg 3 1).setReg 1 0x4000000).setReg 2 0x4000100))).tick ((0 : PairId)) (0)).fetchCheck ((0 : PairId))).2).loadBytes ((0 : PairId)) .read (((((((zP (fun q => ((q.setReg 3 1).setReg 1 0x4000000).setReg 2 0x4000100))).tick ((0 : PairId)) (0)).fetchCheck ((0 : PairId))).2).core ((0 : PairId))).reg (2)) (2 ^ (0#2).toNat)).1 (0, [])).2)).2, (0 : PairId), 0, 1, 2, 3, ((((((zP (fun q => ((q.setReg 3 1).setReg 1 0x4000000).setReg 2 0x4000100))).tick ((0 : PairId)) (0)).fetchCheck ((0 : PairId))).2).loadBytes ((0 : PairId)) .read (((((((zP (fun q => ((q.setReg 3 1).setReg 1 0x4000000).setReg 2 0x4000100))).tick ((0 : PairId)) (0)).fetchCheck ((0 : PairId))).2).core ((0 : PairId))).reg (2)) (2 ^ (0#2).toNat)).2, (okOf ((((((zP (fun q => ((q.setReg 3 1).setReg 1 0x4000000).setReg 2 0x4000100))).tick ((0 : PairId)) (0)).fetchCheck ((0 : PairId))).2).loadBytes ((0 : PairId)) .read (((((((zP (fun q => ((q.setReg 3 1).setReg 1 0x4000000).setReg 2 0x4000100))).tick ((0 : PairId)) (0)).fetchCheck ((0 : PairId))).2).core ((0 : PairId))).reg (2)) (2 ^ (0#2).toNat)).1 (0, [])).1, (okOf ((((((zP (fun q => ((q.setReg 3 1).setReg 1 0x4000000).setReg 2 0x4000100))).tick ((0 : PairId)) (0)).fetchCheck ((0 : PairId))).2).loadBytes ((0 : PairId)) .read (((((((zP (fun q => ((q.setReg 3 1).setReg 1 0x4000000).setReg 2 0x4000100))).tick ((0 : PairId)) (0)).fetchCheck ((0 : PairId))).2).core ((0 : PairId))).reg (2)) (2 ^ (0#2).toNat)).1 (0, [])).2, 0#2, ⟨by decide +kernel, Prod.ext (by rfl) rfl⟩, (by decide +kernel), (by decide +kernel), (by decide +kernel), (by decide +kernel), Prod.ext (okOf_eq (d := (0, [])) (by decide +kernel)) rfl, Prod.ext (okOf_eq (d := ()) (by decide +kernel)) rfl, (by decide +kernel)⟩

theorem test_meets_LongInstructionsComplete_3 : ∃ (s : State) (u : State) (v : State) (p : PairId) (wait : Nat) (rd : RegId) (ra : RegId) (rb : RegId) (x : State) (pa : Nat) (pb : Nat) (xs : List Byte) (ys : List Byte), s.fetches p wait u ∧ threeRegs rd ra rb = true ∧ ((u.core p).reg rb).toNat = 1 ∧ (u.core p).mul = [] ∧ ((u.core p).reg rd).toNat % 8 = 0 ∧ ((u.core p).reg ra).toNat % 8 = 0 ∧ u.loadBytes p .read ((u.core p).reg rd) 8 = (.ok (pa, xs), x) ∧ x.loadBytes p .read ((x.core p).reg ra) 8 = (.ok (pb, ys), v) ∧ (v.core p).mul = [] ∧ (v.core p).reg rb = 1 :=
  ⟨(zP (fun q => ((q.setReg 3 1).setReg 1 0x4000000).setReg 2 0x4000100)), ((((zP (fun q => ((q.setReg 3 1).setReg 1 0x4000000).setReg 2 0x4000100))).tick ((0 : PairId)) (0)).fetchCheck ((0 : PairId))).2, ((((((((zP (fun q => ((q.setReg 3 1).setReg 1 0x4000000).setReg 2 0x4000100))).tick ((0 : PairId)) (0)).fetchCheck ((0 : PairId))).2).loadBytes ((0 : PairId)) .read (((((((zP (fun q => ((q.setReg 3 1).setReg 1 0x4000000).setReg 2 0x4000100))).tick ((0 : PairId)) (0)).fetchCheck ((0 : PairId))).2).core ((0 : PairId))).reg (1)) 8).2).loadBytes ((0 : PairId)) .read (((((((((zP (fun q => ((q.setReg 3 1).setReg 1 0x4000000).setReg 2 0x4000100))).tick ((0 : PairId)) (0)).fetchCheck ((0 : PairId))).2).loadBytes ((0 : PairId)) .read (((((((zP (fun q => ((q.setReg 3 1).setReg 1 0x4000000).setReg 2 0x4000100))).tick ((0 : PairId)) (0)).fetchCheck ((0 : PairId))).2).core ((0 : PairId))).reg (1)) 8).2).core ((0 : PairId))).reg (2)) 8).2, (0 : PairId), 0, 1, 2, 3, ((((((zP (fun q => ((q.setReg 3 1).setReg 1 0x4000000).setReg 2 0x4000100))).tick ((0 : PairId)) (0)).fetchCheck ((0 : PairId))).2).loadBytes ((0 : PairId)) .read (((((((zP (fun q => ((q.setReg 3 1).setReg 1 0x4000000).setReg 2 0x4000100))).tick ((0 : PairId)) (0)).fetchCheck ((0 : PairId))).2).core ((0 : PairId))).reg (1)) 8).2, (okOf ((((((zP (fun q => ((q.setReg 3 1).setReg 1 0x4000000).setReg 2 0x4000100))).tick ((0 : PairId)) (0)).fetchCheck ((0 : PairId))).2).loadBytes ((0 : PairId)) .read (((((((zP (fun q => ((q.setReg 3 1).setReg 1 0x4000000).setReg 2 0x4000100))).tick ((0 : PairId)) (0)).fetchCheck ((0 : PairId))).2).core ((0 : PairId))).reg (1)) 8).1 (0, [])).1, (okOf ((((((((zP (fun q => ((q.setReg 3 1).setReg 1 0x4000000).setReg 2 0x4000100))).tick ((0 : PairId)) (0)).fetchCheck ((0 : PairId))).2).loadBytes ((0 : PairId)) .read (((((((zP (fun q => ((q.setReg 3 1).setReg 1 0x4000000).setReg 2 0x4000100))).tick ((0 : PairId)) (0)).fetchCheck ((0 : PairId))).2).core ((0 : PairId))).reg (1)) 8).2).loadBytes ((0 : PairId)) .read (((((((((zP (fun q => ((q.setReg 3 1).setReg 1 0x4000000).setReg 2 0x4000100))).tick ((0 : PairId)) (0)).fetchCheck ((0 : PairId))).2).loadBytes ((0 : PairId)) .read (((((((zP (fun q => ((q.setReg 3 1).setReg 1 0x4000000).setReg 2 0x4000100))).tick ((0 : PairId)) (0)).fetchCheck ((0 : PairId))).2).core ((0 : PairId))).reg (1)) 8).2).core ((0 : PairId))).reg (2)) 8).1 (0, [])).1, (okOf ((((((zP (fun q => ((q.setReg 3 1).setReg 1 0x4000000).setReg 2 0x4000100))).tick ((0 : PairId)) (0)).fetchCheck ((0 : PairId))).2).loadBytes ((0 : PairId)) .read (((((((zP (fun q => ((q.setReg 3 1).setReg 1 0x4000000).setReg 2 0x4000100))).tick ((0 : PairId)) (0)).fetchCheck ((0 : PairId))).2).core ((0 : PairId))).reg (1)) 8).1 (0, [])).2, (okOf ((((((((zP (fun q => ((q.setReg 3 1).setReg 1 0x4000000).setReg 2 0x4000100))).tick ((0 : PairId)) (0)).fetchCheck ((0 : PairId))).2).loadBytes ((0 : PairId)) .read (((((((zP (fun q => ((q.setReg 3 1).setReg 1 0x4000000).setReg 2 0x4000100))).tick ((0 : PairId)) (0)).fetchCheck ((0 : PairId))).2).core ((0 : PairId))).reg (1)) 8).2).loadBytes ((0 : PairId)) .read (((((((((zP (fun q => ((q.setReg 3 1).setReg 1 0x4000000).setReg 2 0x4000100))).tick ((0 : PairId)) (0)).fetchCheck ((0 : PairId))).2).loadBytes ((0 : PairId)) .read (((((((zP (fun q => ((q.setReg 3 1).setReg 1 0x4000000).setReg 2 0x4000100))).tick ((0 : PairId)) (0)).fetchCheck ((0 : PairId))).2).core ((0 : PairId))).reg (1)) 8).2).core ((0 : PairId))).reg (2)) 8).1 (0, [])).2, ⟨by decide +kernel, Prod.ext (by rfl) rfl⟩, (by decide +kernel), (by decide +kernel), (by decide +kernel), (by decide +kernel), (by decide +kernel), Prod.ext (okOf_eq (d := (0, [])) (by decide +kernel)) rfl, Prod.ext (okOf_eq (d := (0, [])) (by decide +kernel)) rfl, (by decide +kernel), (by decide +kernel)⟩

/-! Hypotheses of LongInstructionOfCountZeroDoesNothing. -/

theorem test_meets_LongInstructionOfCountZeroDoesNothing_0 : ∃ (s : State) (u : State) (p : PairId) (wait : Nat) (rd : RegId) (ra : RegId) (rb : RegId), s.fetches p wait u ∧ (u.core p).reg rb = 0 ∧ fillRegs rd ra rb = true :=
  ⟨zRun, (((zRun).tick ((0 : PairId)) (0)).fetchCheck ((0 : PairId))).2, (0 : PairId), 0, 1, 0, 2, ⟨by decide +kernel, Prod.ext (by rfl) rfl⟩, (by decide +kernel), (by decide +kernel)⟩

theorem test_meets_LongInstructionOfCountZeroDoesNothing_1 : ∃ (s : State) (u : State) (p : PairId) (wait : Nat) (rd : RegId) (ra : RegId) (rb : RegId), s.fetches p wait u ∧ (u.core p).reg rb = 0 ∧ threeRegs rd ra rb = true :=
  ⟨zRun, (((zRun).tick ((0 : PairId)) (0)).fetchCheck ((0 : PairId))).2, (0 : PairId), 0, 1, 3, 2, ⟨by decide +kernel, Prod.ext (by rfl) rfl⟩, (by decide +kernel), (by decide +kernel)⟩

/-! Hypotheses of SpecialRegisterInstructionsComplete. -/

theorem test_meets_SpecialRegisterInstructionsComplete_0 : ∃ (s : State) (u : State) (p : PairId) (wait : Nat) (sr : BitVec 8) (wr : _), s.fetches p wait u ∧ specialRights sr.toNat (u.core p).world (u.core p).sup = some (true, wr) :=
  ⟨zRun, (((zRun).tick ((0 : PairId)) (0)).fetchCheck ((0 : PairId))).2, (0 : PairId), 0, 0#8, ((specialRights (0#8).toNat (((((zRun).tick ((0 : PairId)) (0)).fetchCheck ((0 : PairId))).2).core ((0 : PairId))).world (((((zRun).tick ((0 : PairId)) (0)).fetchCheck ((0 : PairId))).2).core ((0 : PairId))).sup).get (by decide +kernel)).2, ⟨by decide +kernel, Prod.ext (by rfl) rfl⟩, (by rfl)⟩

theorem test_meets_SpecialRegisterInstructionsComplete_1 : ∃ (s : State) (u : State) (p : PairId) (wait : Nat) (sr : BitVec 8) (r : _), s.fetches p wait u ∧ specialRights sr.toNat (u.core p).world (u.core p).sup = some (r, true) :=
  ⟨zRun, (((zRun).tick ((0 : PairId)) (0)).fetchCheck ((0 : PairId))).2, (0 : PairId), 0, 0#8, ((specialRights (0#8).toNat (((((zRun).tick ((0 : PairId)) (0)).fetchCheck ((0 : PairId))).2).core ((0 : PairId))).world (((((zRun).tick ((0 : PairId)) (0)).fetchCheck ((0 : PairId))).2).core ((0 : PairId))).sup).get (by decide +kernel)).1, ⟨by decide +kernel, Prod.ext (by rfl) rfl⟩, (by rfl)⟩

theorem test_meets_SpecialRegisterInstructionsComplete_2 : ∃ (s : State) (u : State) (p : PairId) (wait : Nat), s.fetches p wait u ∧ (u.core p).sup = true :=
  ⟨State.reset, (((State.reset).tick (0) (0)).fetchCheck (0)).2, 0, 0, ⟨by decide, Prod.ext (by rfl) rfl⟩, (by decide)⟩

/-! Hypotheses of ReturnFromExceptionAndGatesComplete. -/

theorem test_meets_ReturnFromExceptionAndGatesComplete_0 : ∃ (s : State) (u : State) (p : PairId) (wait : Nat), s.fetches p wait u ∧ (u.core p).sup = true :=
  ⟨State.reset, (((State.reset).tick (0) (0)).fetchCheck (0)).2, 0, 0, ⟨by decide, Prod.ext (by rfl) rfl⟩, (by decide)⟩

theorem test_meets_ReturnFromExceptionAndGatesComplete_1 : ∃ (s : State) (u : State) (p : PairId) (wait : Nat) (f : GateFrame) (fs : List GateFrame), s.fetches p wait u ∧ (u.core p).sup = true ∧ (u.core p).frames = f :: fs ∧ statusWorld f.status ≠ (u.core p).world :=
  ⟨(zP (fun q => { q with frames := [{ pc := 0, status := 0, sp := 0 }] })), ((((zP (fun q => { q with frames := [{ pc := 0, status := 0, sp := 0 }] }))).tick ((0 : PairId)) (0)).fetchCheck ((0 : PairId))).2, (0 : PairId), 0, (((((((zP (fun q => { q with frames := [{ pc := 0, status := 0, sp := 0 }] }))).tick ((0 : PairId)) (0)).fetchCheck ((0 : PairId))).2).core ((0 : PairId))).frames).head (by decide +kernel), (((((((zP (fun q => { q with frames := [{ pc := 0, status := 0, sp := 0 }] }))).tick ((0 : PairId)) (0)).fetchCheck ((0 : PairId))).2).core ((0 : PairId))).frames).tail, ⟨by decide +kernel, Prod.ext (by rfl) rfl⟩, (by decide +kernel), (List.cons_head_tail (by decide +kernel)).symm, (by decide +kernel)⟩

theorem test_meets_ReturnFromExceptionAndGatesComplete_2 : ∃ (s : State) (u : State) (v : State) (x : State) (p : PairId) (wait : Nat) (n : Fin 255) (d : GateDesc), s.fetches p wait u ∧ u.gateTable p ((u.core p).world.other) ≠ 0 ∧ u.readGate p ((u.core p).world.other) n.val = (some d, v) ∧ d.valid = true ∧ (if (u.core p).sup then bitOf d.flags 1 else bitOf d.flags 2) = true ∧ State.bufferChecks p (d.checks.take d.nbuf) 0 v = (none, x) ∧ (u.core p).frames.length < 8 :=
  ⟨zGate, (((zGate).tick ((0 : PairId)) (0)).fetchCheck ((0 : PairId))).2, (((((zGate).tick ((0 : PairId)) (0)).fetchCheck ((0 : PairId))).2).readGate ((0 : PairId)) ((((((zGate).tick ((0 : PairId)) (0)).fetchCheck ((0 : PairId))).2).core ((0 : PairId))).world.other) ((0 : Fin 255)).val).2, (State.bufferChecks ((0 : PairId)) (({ entry := 0, flags := 7, nargs := 0, nbuf := 0, checks := List.replicate 4 (0, 0, 0, 0), reserved := 0 : GateDesc }).checks.take ({ entry := 0, flags := 7, nargs := 0, nbuf := 0, checks := List.replicate 4 (0, 0, 0, 0), reserved := 0 : GateDesc }).nbuf) 0 ((((((zGate).tick ((0 : PairId)) (0)).fetchCheck ((0 : PairId))).2).readGate ((0 : PairId)) ((((((zGate).tick ((0 : PairId)) (0)).fetchCheck ((0 : PairId))).2).core ((0 : PairId))).world.other) ((0 : Fin 255)).val).2)).2, (0 : PairId), 0, (0 : Fin 255), { entry := 0, flags := 7, nargs := 0, nbuf := 0, checks := List.replicate 4 (0, 0, 0, 0), reserved := 0 : GateDesc }, ⟨by decide +kernel, Prod.ext (by rfl) rfl⟩, (by decide +kernel), Prod.ext (by decide +kernel) rfl, (by decide +kernel), (by decide +kernel), Prod.ext (by decide +kernel) rfl, (by decide +kernel)⟩

/-! Hypotheses of TrapsAndInterruptsEnterTheirHandler. -/

theorem test_meets_TrapsAndInterruptsEnterTheirHandler_0 : ∃ (s : State) (u : State) (v : State) (p : PairId) (wait : Nat) (n : BitVec 8), s.fetches p wait u ∧ u.pushesFrame v p (u.core p).world ((u.core p).pc + 4) (causeWord { code := 0x0A, arg := n.toNat } (!(u.core p).sup) false 0 0) 0 := by
  refine ⟨(zP (fun q => q.setReg 31 0x4001000)), ((((zP (fun q => q.setReg 31 0x4001000))).tick ((0 : PairId)) (0)).fetchCheck ((0 : PairId))).2, zPushed (((((zP (fun q => q.setReg 31 0x4001000))).tick ((0 : PairId)) (0)).fetchCheck ((0 : PairId))).2) ((0 : PairId)) ((((((zP (fun q => q.setReg 31 0x4001000))).tick ((0 : PairId)) (0)).fetchCheck ((0 : PairId))).2).core ((0 : PairId))).world (((((((zP (fun q => q.setReg 31 0x4001000))).tick ((0 : PairId)) (0)).fetchCheck ((0 : PairId))).2).core ((0 : PairId))).pc + 4) (causeWord { code := 0x0A, arg := (0#8).toNat } (!((((((zP (fun q => q.setReg 31 0x4001000))).tick ((0 : PairId)) (0)).fetchCheck ((0 : PairId))).2).core ((0 : PairId))).sup) false 0 0) 0, (0 : PairId), 0, 0#8, ?_, ?_⟩
  · exact ⟨by decide +kernel, Prod.ext (by rfl) rfl⟩
  · exact ⟨by decide +kernel, Prod.ext (by decide +kernel) rfl⟩

theorem test_meets_TrapsAndInterruptsEnterTheirHandler_1 : ∃ (s : State) (u : State) (v : State) (p : PairId) (wait : Nat), s.fetches p wait u ∧ u.pushesFrame v p (u.core p).world (u.core p).pc (causeWord { code := 0x02 } (!(u.core p).sup) false 0 0) 0 :=
  ⟨(zP (fun q => q.setReg 31 0x4001000)), ((((zP (fun q => q.setReg 31 0x4001000))).tick ((0 : PairId)) (0)).fetchCheck ((0 : PairId))).2, zPushed (((((zP (fun q => q.setReg 31 0x4001000))).tick ((0 : PairId)) (0)).fetchCheck ((0 : PairId))).2) ((0 : PairId)) ((((((zP (fun q => q.setReg 31 0x4001000))).tick ((0 : PairId)) (0)).fetchCheck ((0 : PairId))).2).core ((0 : PairId))).world ((((((zP (fun q => q.setReg 31 0x4001000))).tick ((0 : PairId)) (0)).fetchCheck ((0 : PairId))).2).core ((0 : PairId))).pc (causeWord { code := 0x02 } (!((((((zP (fun q => q.setReg 31 0x4001000))).tick ((0 : PairId)) (0)).fetchCheck ((0 : PairId))).2).core ((0 : PairId))).sup) false 0 0) 0, (0 : PairId), 0, ⟨by decide +kernel, Prod.ext (by rfl) rfl⟩, ⟨by decide +kernel, Prod.ext (by decide +kernel) rfl⟩⟩

theorem test_meets_TrapsAndInterruptsEnterTheirHandler_2 : ∃ (s u v : State) (p : PairId) (wait n : Nat), s.issues p = true ∧ u = s.tick p wait ∧ (u.core p).im = false ∧ u.bestSource (fun n => u.deliverable p.val .keeper n || ((u.core p).world == .tack && u.deliverable p.val .tack n)) = some n ∧ u.pushesFrame v p (u.sourceWorld n) (u.core p).pc (causeWord { code := 0x01 } (!(u.core p).sup) ((u.core p).world != u.sourceWorld n) n (u.sourcePrio n)) 0 :=
  ⟨zEntry1, (zEntry1.tick 0 0), zPushed (zEntry1.tick 0 0) 0 ((zEntry1.tick 0 0).sourceWorld 600) ((zEntry1.tick 0 0).core 0).pc (causeWord { code := 0x01 } (!((zEntry1.tick 0 0).core 0).sup) (((zEntry1.tick 0 0).core 0).world != (zEntry1.tick 0 0).sourceWorld 600) 600 ((zEntry1.tick 0 0).sourcePrio 600)) 0, 0, 0, 600, by decide +kernel, rfl, by decide +kernel, by decide +kernel, by decide +kernel, Prod.ext (by decide +kernel) rfl⟩

/-! Hypotheses of PrivilegedInstructionsTrapAtUserLevel. -/

theorem test_meets_PrivilegedInstructionsTrapAtUserLevel_0 : ∃ (s : State) (u : State) (v : State) (p : PairId) (wait : Nat) (rd : RegId) (i : Instr), s.fetches p wait u ∧ (u.core p).sup = false ∧ (i = .eret p wait ∨ i = .di p wait rd ∨ i = .ei p wait ∨ i = .wait p wait ∨ i = .tlbinvPage p wait rd ∨ i = .tlbinvAsid p wait rd ∨ i = .tlbinvWorld p wait) ∧ u.pushesFrame v p (u.core p).world (u.core p).pc (causeWord { code := cPriv } true false 0 0) 0 :=
  ⟨zUser, (((zUser).tick ((0 : PairId)) (0)).fetchCheck ((0 : PairId))).2, zPushed ((((zUser).tick ((0 : PairId)) (0)).fetchCheck ((0 : PairId))).2) ((0 : PairId)) (((((zUser).tick ((0 : PairId)) (0)).fetchCheck ((0 : PairId))).2).core ((0 : PairId))).world (((((zUser).tick ((0 : PairId)) (0)).fetchCheck ((0 : PairId))).2).core ((0 : PairId))).pc (causeWord { code := cPriv } true false 0 0) 0, (0 : PairId), 0, (0 : RegId), (Instr.eret (0 : PairId) 0), ⟨by decide +kernel, Prod.ext (by rfl) rfl⟩, (by decide +kernel), Or.inl rfl, ⟨by decide +kernel, Prod.ext (by decide +kernel) rfl⟩⟩

/-! Hypotheses of DeliverableSourcesAndTheirOrder. -/

theorem test_meets_DeliverableSourcesAndTheirOrder_0 : ∃ (s : State) (p : PairId) (w : World) (n : Nat), s.best p.val w = some n :=
  ⟨(zIrq 1), (0 : PairId), World.keeper, (((zIrq 1)).best ((0 : PairId)).val (World.keeper)).get (by decide +kernel), (Option.some_get _).symm⟩

theorem test_meets_DeliverableSourcesAndTheirOrder_1 : ∃ (s : State) (p : PairId) (w : World) (n : Nat) (m : Nat), s.best p.val w = some n ∧ m < 1024 ∧ s.deliverable p.val w m = true :=
  ⟨(zIrq 1), (0 : PairId), World.keeper, (((zIrq 1)).best ((0 : PairId)).val (World.keeper)).get (by decide +kernel), 600, (Option.some_get _).symm, (by decide +kernel), (by decide +kernel)⟩

theorem test_meets_DeliverableSourcesAndTheirOrder_2 : ∃ (s : State) (p : PairId) (w : World) (m : Nat), s.best p.val w = none ∧ m < 1024 :=
  ⟨zRun, 0, World.keeper, 0, (by decide +kernel), (by decide +kernel)⟩

/-! Hypotheses of InterruptAndPairCommandsComplete. -/

theorem test_meets_InterruptAndPairCommandsComplete_0 : ∃ (s : State) (p : PairId) (w : World) (n : Nat), s.best p.val w = some n :=
  ⟨(zIrq 1), (0 : PairId), World.keeper, (((zIrq 1)).best ((0 : PairId)).val (World.keeper)).get (by decide +kernel), (Option.some_get _).symm⟩

theorem test_meets_InterruptAndPairCommandsComplete_1 : ∃ (n : Nat), n < 1024 :=
  ⟨0, (by decide)⟩

theorem test_meets_InterruptAndPairCommandsComplete_2 : ∃ (s : State) (w : World) (n : Nat), 512 ≤ n ∧ n < 1024 ∧ (w = .keeper ∨ s.sourceWorld n = .tack) :=
  ⟨zRun, World.keeper, 512, (by decide +kernel), (by decide +kernel), Or.inl rfl⟩

theorem test_meets_InterruptAndPairCommandsComplete_3 : ∃ (s : State) (p : PairId), s.inService p.val = true :=
  ⟨State.reset, 0, (by decide)⟩

theorem test_meets_InterruptAndPairCommandsComplete_4 : ∃ (s : State) (p : PairId) (u : State), s.inService p.val = true ∧ (s.core p).im = true ∧ (s.anyDeliverable p.val .tack = true ∨ s.anyDeliverable p.val .keeper = true) ∧ s.rd (Reg.CORE_LIMITS.IM_US.nth p) ≠ 0 ∧ s.setsPair u p { (s.core p) with cycle := max (s.core p).cycle ((s.core p).imAt + s.coreCycles (s.rd (Reg.CORE_LIMITS.IM_US.nth p)) + 1) } :=
  ⟨((zIrq 1).updPair 0 (fun q => { q with im := true })), (0 : PairId), (((zIrq 1).updPair 0 (fun q => { q with im := true }))).updPair ((0 : PairId)) (fun _ => { ((((zIrq 1).updPair 0 (fun q => { q with im := true }))).core ((0 : PairId))) with cycle := max ((((zIrq 1).updPair 0 (fun q => { q with im := true }))).core ((0 : PairId))).cycle (((((zIrq 1).updPair 0 (fun q => { q with im := true }))).core ((0 : PairId))).imAt + (((zIrq 1).updPair 0 (fun q => { q with im := true }))).coreCycles ((((zIrq 1).updPair 0 (fun q => { q with im := true }))).rd (Reg.CORE_LIMITS.IM_US.nth ((0 : PairId)))) + 1) }), (by decide +kernel), (by decide +kernel), Or.inr (by decide +kernel), (by decide +kernel), setsPair_updPair _ _ _⟩

theorem test_meets_InterruptAndPairCommandsComplete_5 : ∃ (s : State) (p : PairId) (u : State), s.inService p.val = true ∧ (s.core p).world = .keeper ∧ s.anyDeliverable p.val .tack = true ∧ s.rd (Reg.CORE_LIMITS.KHOLD_US.nth p) ≠ 0 ∧ s.setsPair u p { (s.core p) with cycle := max (s.core p).cycle ((s.core p).keeperAt + s.coreCycles (s.rd (Reg.CORE_LIMITS.KHOLD_US.nth p)) + 1) } :=
  ⟨((zIrq 0).updPair 0 (fun q => { q with world := .keeper })), (0 : PairId), (((zIrq 0).updPair 0 (fun q => { q with world := .keeper }))).updPair ((0 : PairId)) (fun _ => { ((((zIrq 0).updPair 0 (fun q => { q with world := .keeper }))).core ((0 : PairId))) with cycle := max ((((zIrq 0).updPair 0 (fun q => { q with world := .keeper }))).core ((0 : PairId))).cycle (((((zIrq 0).updPair 0 (fun q => { q with world := .keeper }))).core ((0 : PairId))).keeperAt + (((zIrq 0).updPair 0 (fun q => { q with world := .keeper }))).coreCycles ((((zIrq 0).updPair 0 (fun q => { q with world := .keeper }))).rd (Reg.CORE_LIMITS.KHOLD_US.nth ((0 : PairId)))) + 1) }), (by decide +kernel), (by decide +kernel), (by decide +kernel), (by decide +kernel), setsPair_updPair _ _ _⟩

theorem test_meets_InterruptAndPairCommandsComplete_6 : ∃ (s : State) (p : PairId) (u : State), s.mainOn = true ∧ s.pstate p = 0 ∧ (s.core p).mismatchAt = none ∧ s.setsPair u p { (s.core p) with mismatchAt := some (s.now, (s.core p).cycle) } :=
  ⟨zRun, (0 : PairId), (zRun).updPair ((0 : PairId)) (fun _ => { ((zRun).core ((0 : PairId))) with mismatchAt := some ((zRun).now, ((zRun).core ((0 : PairId))).cycle) }), (by decide +kernel), (by decide +kernel), (by decide +kernel), setsPair_updPair _ _ _⟩

theorem test_meets_InterruptAndPairCommandsComplete_7 : ∃ (s : State) (p : PairId), s.pairLost p.val = true :=
  ⟨(zRun.wr (Reg.CORE_STATE.PSTATE.nth 0) 2), (0 : PairId), (by decide +kernel)⟩

theorem test_meets_InterruptAndPairCommandsComplete_8 : ∃ (s : State) (p : PairId), s.pstate p = 4 ∧ s.rd Reg.SHP_ST_OUT.CORE_ACT = 0 :=
  ⟨(zRun.wr (Reg.CORE_STATE.PSTATE.nth 0) 4), (0 : PairId), (by decide +kernel), (by decide +kernel)⟩

/-! Hypotheses of SessionHandshakeCommandsComplete. -/

theorem test_meets_SessionHandshakeCommandsComplete_0 : ∃ (s : State) (u : State) (f : NorthIn), f.opcode = 1 ∧ s.takeDatagram f = (u, true) ∧ f.prot = false ∧ f.session = 0 ∧ ((u.queue.helloTimes.filter (fun t => decide (u.now < t + second))).length < 2000) ∧ f.word = 0 ∧ f.payload.length = 1024 ∧ f.last = false ∧ tget u.queue.halves (2 * f.sender + 1) = none :=
  ⟨zRun, (zRun), (zNorth zSess 1 0 (List.replicate 1024 0) 0), (by decide +kernel), takeDatagram_takes (by decide +kernel) rfl (by decide +kernel) rfl (by decide +kernel) (by decide +kernel), (by decide +kernel), (by decide +kernel), (by decide +kernel), (by decide +kernel), (by decide +kernel), (by decide +kernel), (by decide +kernel)⟩

theorem test_meets_SessionHandshakeCommandsComplete_1 : ∃ (s : State) (u : State) (f : NorthIn) (h : HalfHello) (v : State) (hello : List Byte) (sid : Nat) (x : Session), f.opcode = 1 ∧ s.takeDatagram f = (u, true) ∧ f.prot = false ∧ f.session = 0 ∧ ((u.queue.helloTimes.filter (fun t => decide (u.now < t + second))).length < 2000) ∧ f.word = 1024 ∧ f.payload.length = 624 ∧ f.last = true ∧ tget u.queue.halves (2 * f.sender) = some h ∧ (v = u.updQueue (fun q => { q with helloTimes := (u.queue.helloTimes.filter (fun t => decide (u.now < t + second))) ++ [u.now], halves := tdel q.halves (2 * f.sender) })) ∧ hello = h.bytes ++ f.payload ∧ (v.queue.sessions.find? (fun kv => kv.2.state == .authWait && kv.2.random == beAt hello 16 32) = some (sid, x)) :=
  ⟨((zWith { zSess with state := .authWait }).updQueue (fun q => { q with halves := [(262148, { at' := 0, bytes := [] })] })), (((zWith { zSess with state := .authWait }).updQueue (fun q => { q with halves := [(262148, { at' := 0, bytes := [] })] }))), (zNorth zSess 1 1024 (List.replicate 624 0) 2), (tget ((((zWith { zSess with state := .authWait }).updQueue (fun q => { q with halves := [(262148, { at' := 0, bytes := [] })] })))).queue.halves (2 * ((zNorth zSess 1 1024 (List.replicate 624 0) 2)).sender)).get (by decide +kernel), ((((zWith { zSess with state := .authWait }).updQueue (fun q => { q with halves := [(262148, { at' := 0, bytes := [] })] })))).updQueue (fun q => { q with helloTimes := (((((zWith { zSess with state := .authWait }).updQueue (fun q => { q with halves := [(262148, { at' := 0, bytes := [] })] })))).queue.helloTimes.filter (fun t => decide (((((zWith { zSess with state := .authWait }).updQueue (fun q => { q with halves := [(262148, { at' := 0, bytes := [] })] })))).now < t + second))) ++ [((((zWith { zSess with state := .authWait }).updQueue (fun q => { q with halves := [(262148, { at' := 0, bytes := [] })] })))).now], halves := tdel q.halves (2 * ((zNorth zSess 1 1024 (List.replicate 624 0) 2)).sender) }), ((tget ((((zWith { zSess with state := .authWait }).updQueue (fun q => { q with halves := [(262148, { at' := 0, bytes := [] })] })))).queue.halves (2 * ((zNorth zSess 1 1024 (List.replicate 624 0) 2)).sender)).get (by decide +kernel)).bytes ++ ((zNorth zSess 1 1024 (List.replicate 624 0) 2)).payload, (((((((zWith { zSess with state := .authWait }).updQueue (fun q => { q with halves := [(262148, { at' := 0, bytes := [] })] })))).updQueue (fun q => { q with helloTimes := (((((zWith { zSess with state := .authWait }).updQueue (fun q => { q with halves := [(262148, { at' := 0, bytes := [] })] })))).queue.helloTimes.filter (fun t => decide (((((zWith { zSess with state := .authWait }).updQueue (fun q => { q with halves := [(262148, { at' := 0, bytes := [] })] })))).now < t + second))) ++ [((((zWith { zSess with state := .authWait }).updQueue (fun q => { q with halves := [(262148, { at' := 0, bytes := [] })] })))).now], halves := tdel q.halves (2 * ((zNorth zSess 1 1024 (List.replicate 624 0) 2)).sender) })).queue.sessions.find? (fun kv => kv.2.state == .authWait && kv.2.random == beAt (((tget ((((zWith { zSess with state := .authWait }).updQueue (fun q => { q with halves := [(262148, { at' := 0, bytes := [] })] })))).queue.halves (2 * ((zNorth zSess 1 1024 (List.replicate 624 0) 2)).sender)).get (by decide +kernel)).bytes ++ ((zNorth zSess 1 1024 (List.replicate 624 0) 2)).payload) 16 32)).get (by decide +kernel)).1, (((((((zWith { zSess with state := .authWait }).updQueue (fun q => { q with halves := [(262148, { at' := 0, bytes := [] })] })))).updQueue (fun q => { q with helloTimes := (((((zWith { zSess with state := .authWait }).updQueue (fun q => { q with halves := [(262148, { at' := 0, bytes := [] })] })))).queue.helloTimes.filter (fun t => decide (((((zWith { zSess with state := .authWait }).updQueue (fun q => { q with halves := [(262148, { at' := 0, bytes := [] })] })))).now < t + second))) ++ [((((zWith { zSess with state := .authWait }).updQueue (fun q => { q with halves := [(262148, { at' := 0, bytes := [] })] })))).now], halves := tdel q.halves (2 * ((zNorth zSess 1 1024 (List.replicate 624 0) 2)).sender) })).queue.sessions.find? (fun kv => kv.2.state == .authWait && kv.2.random == beAt (((tget ((((zWith { zSess with state := .authWait }).updQueue (fun q => { q with halves := [(262148, { at' := 0, bytes := [] })] })))).queue.halves (2 * ((zNorth zSess 1 1024 (List.replicate 624 0) 2)).sender)).get (by decide +kernel)).bytes ++ ((zNorth zSess 1 1024 (List.replicate 624 0) 2)).payload) 16 32)).get (by decide +kernel)).2, (by decide +kernel), takeDatagram_takes (by decide +kernel) rfl (by decide +kernel) rfl (by decide +kernel) (by decide +kernel), (by decide +kernel), (by decide +kernel), (by decide +kernel), (by decide +kernel), (by decide +kernel), (by decide +kernel), (Option.some_get _).symm, rfl, rfl, (Option.some_get (by decide +kernel)).symm⟩

theorem test_meets_SessionHandshakeCommandsComplete_2 : ∃ (s : State) (u : State) (f : NorthIn) (h : HalfHello) (v : State) (hello : List Byte) (sh : Share) (w : State), f.opcode = 1 ∧ s.takeDatagram f = (u, true) ∧ f.prot = false ∧ f.session = 0 ∧ ((u.queue.helloTimes.filter (fun t => decide (u.now < t + second))).length < 2000) ∧ f.word = 1024 ∧ f.payload.length = 624 ∧ f.last = true ∧ tget u.queue.halves (2 * f.sender) = some h ∧ (v = u.updQueue (fun q => { q with helloTimes := (u.queue.helloTimes.filter (fun t => decide (u.now < t + second))) ++ [u.now], halves := tdel q.halves (2 * f.sender) })) ∧ hello = h.bytes ++ f.payload ∧ (v.queue.sessions.find? (fun kv => kv.2.state == .authWait && kv.2.random == beAt hello 16 32) = none) ∧ v.awlServes = true ∧ bitOf (beAt hello 0 16) 0 = true ∧ v.queue.sessions.length < 16384 ∧ v.share (beAt hello 48 32) (slice hello 80 1568) = (sh, w) := by
  refine ⟨(zRun.updQueue (fun q => { q with halves := [(262148, { at' := 0, bytes := beBytes 16 1 })] })), ((zRun.updQueue (fun q => { q with halves := [(262148, { at' := 0, bytes := beBytes 16 1 })] }))), (zNorth zSess 1 1024 (List.replicate 624 0) 2), (tget (((zRun.updQueue (fun q => { q with halves := [(262148, { at' := 0, bytes := beBytes 16 1 })] })))).queue.halves (2 * ((zNorth zSess 1 1024 (List.replicate 624 0) 2)).sender)).get (by decide +kernel), (((zRun.updQueue (fun q => { q with halves := [(262148, { at' := 0, bytes := beBytes 16 1 })] })))).updQueue (fun q => { q with helloTimes := ((((zRun.updQueue (fun q => { q with halves := [(262148, { at' := 0, bytes := beBytes 16 1 })] })))).queue.helloTimes.filter (fun t => decide ((((zRun.updQueue (fun q => { q with halves := [(262148, { at' := 0, bytes := beBytes 16 1 })] })))).now < t + second))) ++ [(((zRun.updQueue (fun q => { q with halves := [(262148, { at' := 0, bytes := beBytes 16 1 })] })))).now], halves := tdel q.halves (2 * ((zNorth zSess 1 1024 (List.replicate 624 0) 2)).sender) }), ((tget (((zRun.updQueue (fun q => { q with halves := [(262148, { at' := 0, bytes := beBytes 16 1 })] })))).queue.halves (2 * ((zNorth zSess 1 1024 (List.replicate 624 0) 2)).sender)).get (by decide +kernel)).bytes ++ ((zNorth zSess 1 1024 (List.replicate 624 0) 2)).payload, (((((zRun.updQueue (fun q => { q with halves := [(262148, { at' := 0, bytes := beBytes 16 1 })] })))).updQueue (fun q => { q with helloTimes := ((((zRun.updQueue (fun q => { q with halves := [(262148, { at' := 0, bytes := beBytes 16 1 })] })))).queue.helloTimes.filter (fun t => decide ((((zRun.updQueue (fun q => { q with halves := [(262148, { at' := 0, bytes := beBytes 16 1 })] })))).now < t + second))) ++ [(((zRun.updQueue (fun q => { q with halves := [(262148, { at' := 0, bytes := beBytes 16 1 })] })))).now], halves := tdel q.halves (2 * ((zNorth zSess 1 1024 (List.replicate 624 0) 2)).sender) })).share (beAt (((tget (((zRun.updQueue (fun q => { q with halves := [(262148, { at' := 0, bytes := beBytes 16 1 })] })))).queue.halves (2 * ((zNorth zSess 1 1024 (List.replicate 624 0) 2)).sender)).get (by decide +kernel)).bytes ++ ((zNorth zSess 1 1024 (List.replicate 624 0) 2)).payload) 48 32) (slice (((tget (((zRun.updQueue (fun q => { q with halves := [(262148, { at' := 0, bytes := beBytes 16 1 })] })))).queue.halves (2 * ((zNorth zSess 1 1024 (List.replicate 624 0) 2)).sender)).get (by decide +kernel)).bytes ++ ((zNorth zSess 1 1024 (List.replicate 624 0) 2)).payload) 80 1568)).1, (((((zRun.updQueue (fun q => { q with halves := [(262148, { at' := 0, bytes := beBytes 16 1 })] })))).updQueue (fun q => { q with helloTimes := ((((zRun.updQueue (fun q => { q with halves := [(262148, { at' := 0, bytes := beBytes 16 1 })] })))).queue.helloTimes.filter (fun t => decide ((((zRun.updQueue (fun q => { q with halves := [(262148, { at' := 0, bytes := beBytes 16 1 })] })))).now < t + second))) ++ [(((zRun.updQueue (fun q => { q with halves := [(262148, { at' := 0, bytes := beBytes 16 1 })] })))).now], halves := tdel q.halves (2 * ((zNorth zSess 1 1024 (List.replicate 624 0) 2)).sender) })).share (beAt (((tget (((zRun.updQueue (fun q => { q with halves := [(262148, { at' := 0, bytes := beBytes 16 1 })] })))).queue.halves (2 * ((zNorth zSess 1 1024 (List.replicate 624 0) 2)).sender)).get (by decide +kernel)).bytes ++ ((zNorth zSess 1 1024 (List.replicate 624 0) 2)).payload) 48 32) (slice (((tget (((zRun.updQueue (fun q => { q with halves := [(262148, { at' := 0, bytes := beBytes 16 1 })] })))).queue.halves (2 * ((zNorth zSess 1 1024 (List.replicate 624 0) 2)).sender)).get (by decide +kernel)).bytes ++ ((zNorth zSess 1 1024 (List.replicate 624 0) 2)).payload) 80 1568)).2, ?_, ?_, ?_, ?_, ?_, ?_, ?_, ?_, ?_, ?_, ?_, ?_, ?_, ?_, ?_, ?_⟩
  · exact (by decide +kernel)
  · exact takeDatagram_takes (by decide +kernel) rfl (by decide +kernel) rfl (by decide +kernel) (by decide +kernel)
  · exact (by decide +kernel)
  · exact (by decide +kernel)
  · exact (by decide +kernel)
  · exact (by decide +kernel)
  · exact (by decide +kernel)
  · exact (by decide +kernel)
  · exact (Option.some_get _).symm
  · exact rfl
  · exact rfl
  · exact (by decide +kernel)
  · exact (by decide +kernel)
  · exact (by decide +kernel)
  · exact (by decide +kernel)
  · exact zEta _

theorem test_meets_SessionHandshakeCommandsComplete_3 : ∃ (s : State) (sender : Nat) (k : Nat) (h : HalfHello), (s.queue.halves.find? (fun kv => kv.1 / 2 == sender) = some (k, h)) :=
  ⟨zFull, 0, (((zFull).queue.halves.find? (fun kv => kv.1 / 2 == (0))).get (by decide)).1, (((zFull).queue.halves.find? (fun kv => kv.1 / 2 == (0))).get (by decide)).2, (Option.some_get (by decide)).symm⟩

theorem test_meets_SessionHandshakeCommandsComplete_4 : ∃ (s : State) (u : State) (v : State) (f : NorthIn) (x : Session) (segs : List (Nat × List Byte)), s.acceptNorth f opAuth = (u, true) ∧ u.session f.session = some x ∧ x.state = .authWait ∧ segs = authSegments x.auth f.word f.last f.payload ∧ v = u.setSession f.session { x with auth := segs } ∧ authMessage segs = none :=
  ⟨(zWith { zSess with state := .authWait }), zTaken (((zWith { zSess with state := .authWait }))) (zNorth { zSess with state := .authWait } opAuth 0 [0] 1), (zTaken (((zWith { zSess with state := .authWait }))) (zNorth { zSess with state := .authWait } opAuth 0 [0] 1)).setSession ((zNorth { zSess with state := .authWait } opAuth 0 [0] 1)).session { (((zTaken (((zWith { zSess with state := .authWait }))) (zNorth { zSess with state := .authWait } opAuth 0 [0] 1)).session ((zNorth { zSess with state := .authWait } opAuth 0 [0] 1)).session).get (by decide +kernel)) with auth := (authSegments (((zTaken (((zWith { zSess with state := .authWait }))) (zNorth { zSess with state := .authWait } opAuth 0 [0] 1)).session ((zNorth { zSess with state := .authWait } opAuth 0 [0] 1)).session).get (by decide +kernel)).auth ((zNorth { zSess with state := .authWait } opAuth 0 [0] 1)).word ((zNorth { zSess with state := .authWait } opAuth 0 [0] 1)).last ((zNorth { zSess with state := .authWait } opAuth 0 [0] 1)).payload) }, (zNorth { zSess with state := .authWait } opAuth 0 [0] 1), ((zTaken (((zWith { zSess with state := .authWait }))) (zNorth { zSess with state := .authWait } opAuth 0 [0] 1)).session ((zNorth { zSess with state := .authWait } opAuth 0 [0] 1)).session).get (by decide +kernel), authSegments (((zTaken (((zWith { zSess with state := .authWait }))) (zNorth { zSess with state := .authWait } opAuth 0 [0] 1)).session ((zNorth { zSess with state := .authWait } opAuth 0 [0] 1)).session).get (by decide +kernel)).auth ((zNorth { zSess with state := .authWait } opAuth 0 [0] 1)).word ((zNorth { zSess with state := .authWait } opAuth 0 [0] 1)).last ((zNorth { zSess with state := .authWait } opAuth 0 [0] 1)).payload, zTakes { zSess with state := .authWait }, (Option.some_get _).symm, (by decide +kernel), rfl, rfl, (by decide +kernel)⟩

theorem test_meets_SessionHandshakeCommandsComplete_5 : ∃ (s : State) (u : State) (v : State) (f : NorthIn) (x : Session) (segs : List (Nat × List Byte)) (msg : List Byte), s.acceptNorth f opAuth = (u, true) ∧ u.session f.session = some x ∧ x.state = .authWait ∧ segs = authSegments x.auth f.word f.last f.payload ∧ v = u.setSession f.session { x with auth := segs } ∧ authMessage segs = some msg :=
  ⟨(zWith { zSess with state := .authWait }), zTaken (((zWith { zSess with state := .authWait }))) (zNorth { zSess with state := .authWait } opAuth 0 [] 3), (zTaken (((zWith { zSess with state := .authWait }))) (zNorth { zSess with state := .authWait } opAuth 0 [] 3)).setSession ((zNorth { zSess with state := .authWait } opAuth 0 [] 3)).session { (((zTaken (((zWith { zSess with state := .authWait }))) (zNorth { zSess with state := .authWait } opAuth 0 [] 3)).session ((zNorth { zSess with state := .authWait } opAuth 0 [] 3)).session).get (by decide +kernel)) with auth := (authSegments (((zTaken (((zWith { zSess with state := .authWait }))) (zNorth { zSess with state := .authWait } opAuth 0 [] 3)).session ((zNorth { zSess with state := .authWait } opAuth 0 [] 3)).session).get (by decide +kernel)).auth ((zNorth { zSess with state := .authWait } opAuth 0 [] 3)).word ((zNorth { zSess with state := .authWait } opAuth 0 [] 3)).last ((zNorth { zSess with state := .authWait } opAuth 0 [] 3)).payload) }, (zNorth { zSess with state := .authWait } opAuth 0 [] 3), ((zTaken (((zWith { zSess with state := .authWait }))) (zNorth { zSess with state := .authWait } opAuth 0 [] 3)).session ((zNorth { zSess with state := .authWait } opAuth 0 [] 3)).session).get (by decide +kernel), authSegments (((zTaken (((zWith { zSess with state := .authWait }))) (zNorth { zSess with state := .authWait } opAuth 0 [] 3)).session ((zNorth { zSess with state := .authWait } opAuth 0 [] 3)).session).get (by decide +kernel)).auth ((zNorth { zSess with state := .authWait } opAuth 0 [] 3)).word ((zNorth { zSess with state := .authWait } opAuth 0 [] 3)).last ((zNorth { zSess with state := .authWait } opAuth 0 [] 3)).payload, (authMessage (authSegments (((zTaken (((zWith { zSess with state := .authWait }))) (zNorth { zSess with state := .authWait } opAuth 0 [] 3)).session ((zNorth { zSess with state := .authWait } opAuth 0 [] 3)).session).get (by decide +kernel)).auth ((zNorth { zSess with state := .authWait } opAuth 0 [] 3)).word ((zNorth { zSess with state := .authWait } opAuth 0 [] 3)).last ((zNorth { zSess with state := .authWait } opAuth 0 [] 3)).payload)).get (by decide +kernel), zTakes { zSess with state := .authWait }, (Option.some_get _).symm, (by decide +kernel), rfl, rfl, (Option.some_get _).symm⟩

theorem test_meets_SessionHandshakeCommandsComplete_6 : ∃ (s : State) (x : Session) (sid : Nat), s.session sid = some x ∧ x.state = .authWait :=
  ⟨(zWith { zSess with state := .authWait }), (((zWith { zSess with state := .authWait })).session (0)).get (by decide), 0, (Option.some_get _).symm, (by decide)⟩

theorem test_meets_SessionHandshakeCommandsComplete_7 : ∃ (s : State) (u : State) (f : NorthIn) (x : Session), s.acceptNorth f opKeyUpdate = (u, true) ∧ u.session f.session = some x ∧ f.word = x.keyGen + 1 :=
  ⟨zRun, zTaken ((zRun)) (zNorth zSess opKeyUpdate 1), (zNorth zSess opKeyUpdate 1), ((zTaken ((zRun)) (zNorth zSess opKeyUpdate 1)).session ((zNorth zSess opKeyUpdate 1)).session).get (by decide +kernel), zTakes zSess, (Option.some_get _).symm, (by decide +kernel)⟩

theorem test_meets_SessionHandshakeCommandsComplete_8 : ∃ (s : State) (x : Session) (sid : Nat) (k : _) (e : _), s.session sid = some x ∧ x.prevKey = some (k, e) :=
  ⟨zFull, ((zFull).session (0)).get (by decide), 0, (((((zFull).session (0)).get (by decide)).prevKey).get (by decide)).1, (((((zFull).session (0)).get (by decide)).prevKey).get (by decide)).2, (Option.some_get _).symm, (Option.some_get (by decide)).symm⟩

/-! Hypotheses of SessionCloseCommandsComplete. -/

theorem test_meets_SessionCloseCommandsComplete_0 : ∃ (s : State) (u : State) (f : NorthIn) (x : Session), s.acceptNorth f opClose = (u, true) ∧ u.session f.session = some x ∧ x.state ≠ .authWait :=
  ⟨zRun, zTaken ((zRun)) (zNorth zSess opClose), (zNorth zSess opClose), ((zTaken ((zRun)) (zNorth zSess opClose)).session ((zNorth zSess opClose)).session).get (by decide +kernel), zTakes zSess, (Option.some_get _).symm, (by decide +kernel)⟩

theorem test_meets_SessionCloseCommandsComplete_1 : ∃ (s : State) (u : State) (f : NorthIn) (x : Session), s.acceptNorth f opClose = (u, true) ∧ u.session f.session = some x ∧ x.state = .authWait :=
  ⟨(zWith { zSess with state := .authWait }), zTaken (((zWith { zSess with state := .authWait }))) (zNorth { zSess with state := .authWait } opClose), (zNorth { zSess with state := .authWait } opClose), ((zTaken (((zWith { zSess with state := .authWait }))) (zNorth { zSess with state := .authWait } opClose)).session ((zNorth { zSess with state := .authWait } opClose)).session).get (by decide +kernel), zTakes { zSess with state := .authWait }, (Option.some_get _).symm, (by decide +kernel)⟩

theorem test_meets_SessionCloseCommandsComplete_2 : ∃ (s : State) (u : State) (f : NorthIn) (x : Session), s.acceptNorth f opCloseAck = (u, true) ∧ u.session f.session = some x ∧ x.closeSent = true :=
  ⟨(zWith { zSess with closeSent := true }), zTaken (((zWith { zSess with closeSent := true }))) (zNorth { zSess with closeSent := true } opCloseAck), (zNorth { zSess with closeSent := true } opCloseAck), ((zTaken (((zWith { zSess with closeSent := true }))) (zNorth { zSess with closeSent := true } opCloseAck)).session ((zNorth { zSess with closeSent := true } opCloseAck)).session).get (by decide +kernel), zTakes { zSess with closeSent := true }, (Option.some_get _).symm, (by decide +kernel)⟩

theorem test_meets_SessionCloseCommandsComplete_3 : ∃ (s : State) (u : State) (f : NorthIn) (x : Session), f.opcode = opKeepalive ∧ s.takeDatagram f = (u, true) ∧ u.session f.session = some x ∧ u.tagGood x f = true ∧ f.payload.length ≤ x.maxPayload ∧ x.state ≠ .closed ∧ inRanges f.pn x.received = false ∧ x.unacked + 1 < 8 :=
  ⟨zRun, (zRun), (zNorth zSess opKeepalive), (((zRun)).session ((zNorth zSess opKeepalive)).session).get (by decide +kernel), (by decide +kernel), takeDatagram_takes (by decide +kernel) rfl (by decide +kernel) rfl (by decide +kernel) (by decide +kernel), (Option.some_get _).symm, tagGood_of rfl rfl, (by decide +kernel), (by decide +kernel), (by decide +kernel), (by decide +kernel)⟩

theorem test_meets_SessionCloseCommandsComplete_4 : ∃ (s : State) (u : State) (f : NorthIn) (x : Session), s.acceptNorth f opReset = (u, true) ∧ u.session f.session = some x :=
  ⟨zRun, zTaken ((zRun)) (zNorth zSess opReset), (zNorth zSess opReset), ((zTaken ((zRun)) (zNorth zSess opReset)).session ((zNorth zSess opReset)).session).get (by decide +kernel), zTakes zSess, (Option.some_get _).symm⟩

theorem test_meets_SessionCloseCommandsComplete_5 : ∃ (s : State) (x : Session) (sid : Nat), s.session sid = some x ∧ x.state = .established :=
  ⟨zFull, ((zFull).session (0)).get (by decide), 0, (Option.some_get _).symm, (by decide)⟩

theorem test_meets_SessionCloseCommandsComplete_6 : ∃ (s : State) (x : Session) (sid : Nat) (c : _), s.session sid = some x ∧ x.closedAt = some c ∧ (s.south.restores.all (fun kv => kv.2.session != sid) = true) :=
  ⟨(zRun.updSouth (fun q => { q with restores := [] })), (((zRun.updSouth (fun q => { q with restores := [] }))).session (0)).get (by decide), 0, (((((zRun.updSouth (fun q => { q with restores := [] }))).session (0)).get (by decide)).closedAt).get (by decide), (Option.some_get _).symm, (Option.some_get _).symm, (by decide)⟩

theorem test_meets_SessionCloseCommandsComplete_7 : ∃ (s : State) (sid : Nat) (x : Session), s.session sid = some x ∧ s.sessionQueues sid = [] :=
  ⟨(zRun.updQueue (fun q => { q with queues := [] })), 0, (((zRun.updQueue (fun q => { q with queues := [] }))).session (0)).get (by decide), (Option.some_get _).symm, (by decide)⟩

/-! Hypotheses of AcknowledgementAndPathCommandsComplete. -/

theorem test_meets_AcknowledgementAndPathCommandsComplete_0 : ∃ (s : State) (u : State) (f : NorthIn) (x : Session), s.acceptNorth f opAck false = (u, true) ∧ u.session f.session = some x ∧ (∀ delay first gaps, ackPayload f.payload = some (delay, first, gaps) → ackedRanges f.word first gaps = none) :=
  ⟨zRun, zTaken ((zRun)) (zNorth zSess opAck) false, (zNorth zSess opAck), ((zTaken ((zRun)) (zNorth zSess opAck) false).session ((zNorth zSess opAck)).session).get (by decide +kernel), zTakes zSess, (Option.some_get _).symm, fun _ _ _ h => nomatch h⟩

theorem test_meets_AcknowledgementAndPathCommandsComplete_1 : ∃ (s : State) (u : State) (f : NorthIn) (x : Session) (delay : _) (first : _) (gaps : _) (rs : _), s.acceptNorth f opAck false = (u, true) ∧ u.session f.session = some x ∧ u.south.restores = [] ∧ ackPayload f.payload = some (delay, first, gaps) ∧ ackedRanges f.word first gaps = some rs ∧ (x.sent.all (fun g => inRanges g.1 rs) = true) :=
  ⟨(zRun.updSouth (fun q => { q with restores := [] })), zTaken (((zRun.updSouth (fun q => { q with restores := [] })))) (zNorth zSess opAck 0 (List.replicate 11 0 ++ [1])) false, (zNorth zSess opAck 0 (List.replicate 11 0 ++ [1])), ((zTaken (((zRun.updSouth (fun q => { q with restores := [] })))) (zNorth zSess opAck 0 (List.replicate 11 0 ++ [1])) false).session ((zNorth zSess opAck 0 (List.replicate 11 0 ++ [1]))).session).get (by decide +kernel), 0, 1, [], (ackedRanges ((zNorth zSess opAck 0 (List.replicate 11 0 ++ [1]))).word (1) ([])).get (by decide +kernel), zTakes zSess, (Option.some_get _).symm, (by decide +kernel), (by decide +kernel), (Option.some_get _).symm, (by decide +kernel)⟩

theorem test_meets_AcknowledgementAndPathCommandsComplete_2 : ∃ (s : State) (x : Session) (sid : Nat) (t0 : _), s.session sid = some x ∧ x.firstUnacked = some t0 :=
  ⟨(zWith { zSess with firstUnacked := some 0 }), (((zWith { zSess with firstUnacked := some 0 })).session (0)).get (by decide), 0, (((((zWith { zSess with firstUnacked := some 0 })).session (0)).get (by decide)).firstUnacked).get (by decide), (Option.some_get _).symm, (Option.some_get _).symm⟩

theorem test_meets_AcknowledgementAndPathCommandsComplete_3 : ∃ (s : State) (x : Session) (sid : Nat) (pn : Nat) (p : Path) (g : _), s.session sid = some x ∧ tget x.sent pn = some g ∧ tget x.paths g.path = some p ∧ p.expiries = 0 :=
  ⟨zFull, ((zFull).session (0)).get (by decide), 0, 0, (tget (((zFull).session (0)).get (by decide)).paths ((tget (((zFull).session (0)).get (by decide)).sent (0)).get (by decide)).path).get (by decide), (tget (((zFull).session (0)).get (by decide)).sent (0)).get (by decide), (Option.some_get _).symm, (Option.some_get _).symm, (Option.some_get _).symm, (by decide)⟩

theorem test_meets_AcknowledgementAndPathCommandsComplete_4 : ∃ (s : State) (x : Session) (sid : Nat) (path : Nat) (p : Path), s.session sid = some x ∧ tget x.paths path = some p ∧ p.failed = true :=
  ⟨(zWith { zSess with paths := [(0, { zPath with failed := true, probeAcked := true })] }), (((zWith { zSess with paths := [(0, { zPath with failed := true, probeAcked := true })] })).session (0)).get (by decide), 0, 0, (tget ((((zWith { zSess with paths := [(0, { zPath with failed := true, probeAcked := true })] })).session (0)).get (by decide)).paths (0)).get (by decide), (Option.some_get _).symm, (Option.some_get _).symm, (by decide)⟩

theorem test_meets_AcknowledgementAndPathCommandsComplete_5 : ∃ (s : State) (f : NorthIn) (x : Session) (p : Path), s.session f.session = some x ∧ tget x.paths f.path = some p ∧ p.failed = true ∧ p.probeAcked = true :=
  ⟨(zWith { zSess with paths := [(0, { zPath with failed := true, probeAcked := true })] }), (zNorth zSess 1), (((zWith { zSess with paths := [(0, { zPath with failed := true, probeAcked := true })] })).session ((zNorth zSess 1)).session).get (by decide), (tget ((((zWith { zSess with paths := [(0, { zPath with failed := true, probeAcked := true })] })).session ((zNorth zSess 1)).session).get (by decide)).paths ((zNorth zSess 1)).path).get (by decide), (Option.some_get _).symm, (Option.some_get _).symm, (by decide), (by decide)⟩

theorem test_meets_AcknowledgementAndPathCommandsComplete_6 : ∃ (s : State) (u : State) (f : NorthIn) (x : Session), s.acceptNorth f opPathAdd = (u, true) ∧ u.session f.session = some x ∧ x.has 1 = true ∧ tget x.paths f.path = none ∧ (x.paths.any (fun kv => kv.2.over f.ends) = false) :=
  ⟨(zWith { zSess with paths := [] }), zTaken (((zWith { zSess with paths := [] }))) (zNorth { zSess with paths := [] } opPathAdd), (zNorth { zSess with paths := [] } opPathAdd), ((zTaken (((zWith { zSess with paths := [] }))) (zNorth { zSess with paths := [] } opPathAdd)).session ((zNorth { zSess with paths := [] } opPathAdd)).session).get (by decide +kernel), zTakes { zSess with paths := [] }, (Option.some_get _).symm, (by decide +kernel), (by decide +kernel), (by decide +kernel)⟩

theorem test_meets_AcknowledgementAndPathCommandsComplete_7 : ∃ (s : State) (u : State) (port : _), port < 16 ∧ u = s.raise (srcNpPortFail port) ∧ u.queue.sessions = [] :=
  ⟨(zRun.updQueue (fun q => { q with sessions := [] })), ((zRun.updQueue (fun q => { q with sessions := [] }))).raise (srcNpPortFail (0)), 0, (by decide), rfl, (by decide)⟩

theorem test_meets_AcknowledgementAndPathCommandsComplete_8 : ∃ (s : State) (x : Session) (sid : Nat), s.session sid = some x ∧ x.state = .established ∧ s.engineRuns = true :=
  ⟨zFull, ((zFull).session (0)).get (by decide), 0, (Option.some_get _).symm, (by decide), (by decide)⟩

/-! Hypotheses of QueueContextCommandsComplete. -/

theorem test_meets_QueueContextCommandsComplete_0 : ∃ (s : State) (u : State) (f : NorthIn) (x : Session) (n : Nat) (ns : Nat), s.acceptNorth f opQueueOpen = (u, true) ∧ u.session f.session = some x ∧ f.len = 20 ∧ beAt f.payload 6 2 = 0 ∧ ns = beAt f.payload 0 2 ∧ ns < 4096 ∧ u.openRefused x ns (u.resolveCode ns (beAt f.payload 2 1) (beAt f.payload 3 1) (beAt f.payload 4 1) (beAt f.payload 5 1)) = none ∧ u.freeQueue = some n :=
  ⟨zRun, zTaken ((zRun)) (zNorth zSess opQueueOpen 0 (List.replicate 20 0)), (zNorth zSess opQueueOpen 0 (List.replicate 20 0)), ((zTaken ((zRun)) (zNorth zSess opQueueOpen 0 (List.replicate 20 0))).session ((zNorth zSess opQueueOpen 0 (List.replicate 20 0))).session).get (by decide +kernel), ((zTaken ((zRun)) (zNorth zSess opQueueOpen 0 (List.replicate 20 0))).freeQueue).get (by decide +kernel), beAt ((zNorth zSess opQueueOpen 0 (List.replicate 20 0))).payload 0 2, zTakes zSess, (Option.some_get _).symm, (by decide +kernel), (by decide +kernel), rfl, (by decide +kernel), (by decide +kernel), (Option.some_get _).symm⟩

theorem test_meets_QueueContextCommandsComplete_1 : ∃ (s : State) (u : State) (f : NorthIn) (x : Session) (q : Queue) (r : Queue), s.acceptNorth f opQueueOpen = (u, true) ∧ u.session f.session = some x ∧ f.len = 20 ∧ beAt f.payload 6 2 = 1 ∧ beAt f.payload 0 2 < 4096 ∧ u.queue? (beAt f.payload 8 4) = some q ∧ x.has 8 = true ∧ q.state = .detached ∧ q.client = x.client ∧ q.tag = beAt f.payload 12 8 ∧ u.nsAdmits q.ns x.client = true ∧ r = { q with state := .openQ, session := f.session, detachExpiry := none, staged := q.staged && x.has 2, unknownLen := x.has 7, lastActivity := u.now } :=
  ⟨(zQ { zQueue with state := .detached, detachExpiry := some 0 }), zTaken (((zQ { zQueue with state := .detached, detachExpiry := some 0 }))) (zNorth zSess opQueueOpen 0 (beBytes 8 1 ++ List.replicate 12 0)), (zNorth zSess opQueueOpen 0 (beBytes 8 1 ++ List.replicate 12 0)), ((zTaken (((zQ { zQueue with state := .detached, detachExpiry := some 0 }))) (zNorth zSess opQueueOpen 0 (beBytes 8 1 ++ List.replicate 12 0))).session ((zNorth zSess opQueueOpen 0 (beBytes 8 1 ++ List.replicate 12 0))).session).get (by decide +kernel), ((zTaken (((zQ { zQueue with state := .detached, detachExpiry := some 0 }))) (zNorth zSess opQueueOpen 0 (beBytes 8 1 ++ List.replicate 12 0))).queue? (beAt ((zNorth zSess opQueueOpen 0 (beBytes 8 1 ++ List.replicate 12 0))).payload 8 4)).get (by decide +kernel), { (((zTaken (((zQ { zQueue with state := .detached, detachExpiry := some 0 }))) (zNorth zSess opQueueOpen 0 (beBytes 8 1 ++ List.replicate 12 0))).queue? (beAt ((zNorth zSess opQueueOpen 0 (beBytes 8 1 ++ List.replicate 12 0))).payload 8 4)).get (by decide +kernel)) with state := .openQ, session := ((zNorth zSess opQueueOpen 0 (beBytes 8 1 ++ List.replicate 12 0))).session, detachExpiry := none, staged := (((zTaken (((zQ { zQueue with state := .detached, detachExpiry := some 0 }))) (zNorth zSess opQueueOpen 0 (beBytes 8 1 ++ List.replicate 12 0))).queue? (beAt ((zNorth zSess opQueueOpen 0 (beBytes 8 1 ++ List.replicate 12 0))).payload 8 4)).get (by decide +kernel)).staged && (((zTaken (((zQ { zQueue with state := .detached, detachExpiry := some 0 }))) (zNorth zSess opQueueOpen 0 (beBytes 8 1 ++ List.replicate 12 0))).session ((zNorth zSess opQueueOpen 0 (beBytes 8 1 ++ List.replicate 12 0))).session).get (by decide +kernel)).has 2, unknownLen := (((zTaken (((zQ { zQueue with state := .detached, detachExpiry := some 0 }))) (zNorth zSess opQueueOpen 0 (beBytes 8 1 ++ List.replicate 12 0))).session ((zNorth zSess opQueueOpen 0 (beBytes 8 1 ++ List.replicate 12 0))).session).get (by decide +kernel)).has 7, lastActivity := (zTaken (((zQ { zQueue with state := .detached, detachExpiry := some 0 }))) (zNorth zSess opQueueOpen 0 (beBytes 8 1 ++ List.replicate 12 0))).now }, zTakes zSess, (Option.some_get _).symm, (by decide +kernel), (by decide +kernel), (by decide +kernel), (Option.some_get _).symm, (by decide +kernel), (by decide +kernel), (by decide +kernel), (by decide +kernel), (by decide +kernel), rfl⟩

theorem test_meets_QueueContextCommandsComplete_2 : ∃ (s : State) (u : State) (f : NorthIn) (q : Queue), s.acceptNorth f opQueueClose = (u, true) ∧ u.frameQueue f = some q ∧ f.payload = [] ∧ q.open' = none :=
  ⟨(zQ { zQueue with open' := none }), zTaken (((zQ { zQueue with open' := none }))) (zNorth zSess opQueueClose), (zNorth zSess opQueueClose), ((zTaken (((zQ { zQueue with open' := none }))) (zNorth zSess opQueueClose)).frameQueue ((zNorth zSess opQueueClose))).get (by decide +kernel), zTakes zSess, (Option.some_get _).symm, (by decide +kernel), (by decide +kernel)⟩

theorem test_meets_QueueContextCommandsComplete_3 : ∃ (s : State) (u : State) (f : NorthIn) (q : Queue) (o : Nat), s.acceptNorth f opQueueClose = (u, true) ∧ u.frameQueue f = some q ∧ f.payload = [] ∧ q.open' = some o :=
  ⟨zRun, zTaken ((zRun)) (zNorth zSess opQueueClose), (zNorth zSess opQueueClose), ((zTaken ((zRun)) (zNorth zSess opQueueClose)).frameQueue ((zNorth zSess opQueueClose))).get (by decide +kernel), ((((zTaken ((zRun)) (zNorth zSess opQueueClose)).frameQueue ((zNorth zSess opQueueClose))).get (by decide +kernel)).open').get (by decide +kernel), zTakes zSess, (Option.some_get _).symm, (by decide +kernel), (Option.some_get _).symm⟩

theorem test_meets_QueueContextCommandsComplete_4 : ∃ (s : State) (q : Queue) (n : Nat) (o : Nat), s.queue? n = some q ∧ q.open' = some o ∧ ((s.queueExtents n).any (fun kv => kv.2.obj == o && s.partly q kv.2) = true) :=
  ⟨(zE { zExt with firstAt := some 0 }), (((zE { zExt with firstAt := some 0 })).queue? (0)).get (by decide +kernel), 0, (((((zE { zExt with firstAt := some 0 })).queue? (0)).get (by decide +kernel)).open').get (by decide +kernel), (Option.some_get _).symm, (Option.some_get _).symm, (by decide +kernel)⟩

theorem test_meets_QueueContextCommandsComplete_5 : ∃ (s : State) (q : Queue) (n : Nat) (e : Nat), s.queue? n = some q ∧ q.detachExpiry = some e ∧ q.state = .detached :=
  ⟨(zQ { zQueue with state := .detached, detachExpiry := some 0 }), (((zQ { zQueue with state := .detached, detachExpiry := some 0 })).queue? (0)).get (by decide), 0, (((((zQ { zQueue with state := .detached, detachExpiry := some 0 })).queue? (0)).get (by decide)).detachExpiry).get (by decide), (Option.some_get _).symm, (Option.some_get _).symm, (by decide)⟩

/-! Hypotheses of ObjectAndRequestCommandsComplete. -/

theorem test_meets_ObjectAndRequestCommandsComplete_0 : ∃ (s : State) (u : State) (f : NorthIn) (q : Queue), s.acceptNorth f opObjBegin = (u, true) ∧ u.frameQueue f = some q ∧ f.len = 8 ∧ u.beginRefused q f.word (beAt f.payload 0 8) = none :=
  ⟨(zQ { zQueue with open' := none, k := 12, m := 4 }), zTaken (((zQ { zQueue with open' := none, k := 12, m := 4 }))) (zNorth zSess opObjBegin 0 (List.replicate 8 0)), (zNorth zSess opObjBegin 0 (List.replicate 8 0)), ((zTaken (((zQ { zQueue with open' := none, k := 12, m := 4 }))) (zNorth zSess opObjBegin 0 (List.replicate 8 0))).frameQueue ((zNorth zSess opObjBegin 0 (List.replicate 8 0)))).get (by decide +kernel), zTakes zSess, (Option.some_get _).symm, (by decide +kernel), (by decide +kernel)⟩

theorem test_meets_ObjectAndRequestCommandsComplete_1 : ∃ (s : State) (u : State) (f : NorthIn) (q : Queue) (e : Nat), s.acceptNorth f opObjBegin = (u, true) ∧ u.frameQueue f = some q ∧ f.len = 8 ∧ u.beginRefused q f.word (beAt f.payload 0 8) = some e :=
  ⟨zRun, zTaken ((zRun)) (zNorth zSess opObjBegin 0 (List.replicate 8 0)), (zNorth zSess opObjBegin 0 (List.replicate 8 0)), ((zTaken ((zRun)) (zNorth zSess opObjBegin 0 (List.replicate 8 0))).frameQueue ((zNorth zSess opObjBegin 0 (List.replicate 8 0)))).get (by decide +kernel), ((zTaken ((zRun)) (zNorth zSess opObjBegin 0 (List.replicate 8 0))).beginRefused (((zTaken ((zRun)) (zNorth zSess opObjBegin 0 (List.replicate 8 0))).frameQueue ((zNorth zSess opObjBegin 0 (List.replicate 8 0)))).get (by decide +kernel)) ((zNorth zSess opObjBegin 0 (List.replicate 8 0))).word (beAt ((zNorth zSess opObjBegin 0 (List.replicate 8 0))).payload 0 8)).get (by decide +kernel), zTakes zSess, (Option.some_get _).symm, (by decide +kernel), (Option.some_get _).symm⟩

theorem test_meets_ObjectAndRequestCommandsComplete_2 : ∃ (s : State) (u : State) (f : NorthIn) (q : Queue) (data : List Byte) (v : State), s.acceptNorth f opData false = (u, true) ∧ u.frameQueue f = some q ∧ u.queueExtents f.stream = [] ∧ data = f.payload ∧ data ≠ [] ∧ f.word = q.contiguous ∧ q.contiguous + data.length ≤ q.credit ∧ putSegment q.contiguous data q.received = [(q.contiguous, data)] ∧ v = (u.setQueue f.stream { q with lastActivity := u.now }).acknowledge f.session f.pn :=
  ⟨((zQ { zQueue with credit := 1 }).updQueue (fun q => { q with extents := [] })), zTaken ((((zQ { zQueue with credit := 1 }).updQueue (fun q => { q with extents := [] })))) (zNorth zSess opData 0 [7]) false, (zNorth zSess opData 0 [7]), ((zTaken ((((zQ { zQueue with credit := 1 }).updQueue (fun q => { q with extents := [] })))) (zNorth zSess opData 0 [7]) false).frameQueue ((zNorth zSess opData 0 [7]))).get (by decide +kernel), ((zNorth zSess opData 0 [7])).payload, ((zTaken ((((zQ { zQueue with credit := 1 }).updQueue (fun q => { q with extents := [] })))) (zNorth zSess opData 0 [7]) false).setQueue ((zNorth zSess opData 0 [7])).stream { (((zTaken ((((zQ { zQueue with credit := 1 }).updQueue (fun q => { q with extents := [] })))) (zNorth zSess opData 0 [7]) false).frameQueue ((zNorth zSess opData 0 [7]))).get (by decide +kernel)) with lastActivity := (zTaken ((((zQ { zQueue with credit := 1 }).updQueue (fun q => { q with extents := [] })))) (zNorth zSess opData 0 [7]) false).now }).acknowledge ((zNorth zSess opData 0 [7])).session ((zNorth zSess opData 0 [7])).pn, zTakes zSess, (Option.some_get _).symm, (by decide +kernel), rfl, (by decide +kernel), (by decide +kernel), (by decide +kernel), (by decide +kernel), rfl⟩

theorem test_meets_ObjectAndRequestCommandsComplete_3 : ∃ (s : State) (u : State) (f : NorthIn) (q : Queue) (x : Obj) (o : Nat) (word : Nat), s.acceptNorth f opObjEnd = (u, true) ∧ u.frameQueue f = some q ∧ q.open' = some o ∧ u.object o = some x ∧ f.payload = [] ∧ word = f.word ∧ x.first ≤ word ∧ (x.declared = some (word - x.first) ∨ x.declared = none ∧ q.top ≤ word) ∧ word - x.first ≤ 2 ^ 48 :=
  ⟨zRun, zTaken ((zRun)) (zNorth zSess opObjEnd), (zNorth zSess opObjEnd), ((zTaken ((zRun)) (zNorth zSess opObjEnd)).frameQueue ((zNorth zSess opObjEnd))).get (by decide +kernel), ((zTaken ((zRun)) (zNorth zSess opObjEnd)).object (((((zTaken ((zRun)) (zNorth zSess opObjEnd)).frameQueue ((zNorth zSess opObjEnd))).get (by decide +kernel)).open').get (by decide +kernel))).get (by decide +kernel), ((((zTaken ((zRun)) (zNorth zSess opObjEnd)).frameQueue ((zNorth zSess opObjEnd))).get (by decide +kernel)).open').get (by decide +kernel), ((zNorth zSess opObjEnd)).word, zTakes zSess, (Option.some_get _).symm, (Option.some_get _).symm, (Option.some_get _).symm, (by decide +kernel), rfl, (by decide +kernel), (by decide +kernel), (by decide +kernel)⟩

theorem test_meets_ObjectAndRequestCommandsComplete_4 : ∃ (s : State) (u : State) (f : NorthIn) (q : Queue) (x : Obj) (o : Nat) (d : Nat), s.acceptNorth f opObjEnd = (u, true) ∧ u.frameQueue f = some q ∧ q.open' = some o ∧ u.object o = some x ∧ f.payload = [] ∧ x.declared = some d ∧ x.first ≤ f.word ∧ d ≠ f.word - x.first :=
  ⟨(zO { zObj with declared := some 1 }), zTaken (((zO { zObj with declared := some 1 }))) (zNorth zSess opObjEnd), (zNorth zSess opObjEnd), ((zTaken (((zO { zObj with declared := some 1 }))) (zNorth zSess opObjEnd)).frameQueue ((zNorth zSess opObjEnd))).get (by decide +kernel), ((zTaken (((zO { zObj with declared := some 1 }))) (zNorth zSess opObjEnd)).object (((((zTaken (((zO { zObj with declared := some 1 }))) (zNorth zSess opObjEnd)).frameQueue ((zNorth zSess opObjEnd))).get (by decide +kernel)).open').get (by decide +kernel))).get (by decide +kernel), ((((zTaken (((zO { zObj with declared := some 1 }))) (zNorth zSess opObjEnd)).frameQueue ((zNorth zSess opObjEnd))).get (by decide +kernel)).open').get (by decide +kernel), ((((zTaken (((zO { zObj with declared := some 1 }))) (zNorth zSess opObjEnd)).object (((((zTaken (((zO { zObj with declared := some 1 }))) (zNorth zSess opObjEnd)).frameQueue ((zNorth zSess opObjEnd))).get (by decide +kernel)).open').get (by decide +kernel))).get (by decide +kernel)).declared).get (by decide +kernel), zTakes zSess, (Option.some_get _).symm, (Option.some_get _).symm, (Option.some_get _).symm, (by decide +kernel), (Option.some_get _).symm, (by decide +kernel), (by decide +kernel)⟩

theorem test_meets_ObjectAndRequestCommandsComplete_5 : ∃ (s : State) (u : State) (f : NorthIn) (q : Queue) (x : Obj) (o : Nat), s.acceptNorth f opObjAbort = (u, true) ∧ u.frameQueue f = some q ∧ q.open' = some o ∧ u.object o = some x ∧ f.payload = [] ∧ x.first = f.word :=
  ⟨zRun, zTaken ((zRun)) (zNorth zSess opObjAbort), (zNorth zSess opObjAbort), ((zTaken ((zRun)) (zNorth zSess opObjAbort)).frameQueue ((zNorth zSess opObjAbort))).get (by decide +kernel), ((zTaken ((zRun)) (zNorth zSess opObjAbort)).object (((((zTaken ((zRun)) (zNorth zSess opObjAbort)).frameQueue ((zNorth zSess opObjAbort))).get (by decide +kernel)).open').get (by decide +kernel))).get (by decide +kernel), ((((zTaken ((zRun)) (zNorth zSess opObjAbort)).frameQueue ((zNorth zSess opObjAbort))).get (by decide +kernel)).open').get (by decide +kernel), zTakes zSess, (Option.some_get _).symm, (Option.some_get _).symm, (Option.some_get _).symm, (by decide +kernel), (by decide +kernel)⟩

theorem test_meets_ObjectAndRequestCommandsComplete_6 : ∃ (s : State) (q : Queue) (x : Obj) (o : Nat) (n : Nat) (ingest : Nat) (restore : Nat), s.sealService = true ∧ s.nextCredit = some (n, q) ∧ s.wantsExtent n = some (o, x) ∧ x.total = none ∧ s.queue.ingestUsed + extBytes x.ext ≤ 72 * 1048576 ∧ s.rateAllows x.k x.m x.ext ingest restore = true ∧ spreadOk x.k x.m s.chanCount = true ∧ q.credit < x.first + x.granted + extBytes x.ext :=
  ⟨(zRun.updQueue (fun q => { q with objects := [(0, { zObj with k := 12, m := 4, ext := 3 })] })), ((((zRun.updQueue (fun q => { q with objects := [(0, { zObj with k := 12, m := 4, ext := 3 })] }))).nextCredit).get (by decide)).2, ((((zRun.updQueue (fun q => { q with objects := [(0, { zObj with k := 12, m := 4, ext := 3 })] }))).wantsExtent (((((zRun.updQueue (fun q => { q with objects := [(0, { zObj with k := 12, m := 4, ext := 3 })] }))).nextCredit).get (by decide)).1)).get (by decide)).2, ((((zRun.updQueue (fun q => { q with objects := [(0, { zObj with k := 12, m := 4, ext := 3 })] }))).wantsExtent (((((zRun.updQueue (fun q => { q with objects := [(0, { zObj with k := 12, m := 4, ext := 3 })] }))).nextCredit).get (by decide)).1)).get (by decide)).1, ((((zRun.updQueue (fun q => { q with objects := [(0, { zObj with k := 12, m := 4, ext := 3 })] }))).nextCredit).get (by decide)).1, 0, 0, (by decide), (Option.some_get (by decide)).symm, (Option.some_get (by decide)).symm, (by decide), (by decide), (by decide), (by decide), (by decide)⟩

theorem test_meets_ObjectAndRequestCommandsComplete_7 : ∃ (s : State) (u : State) (f : NorthIn) (x : Session) (obj : Nat), s.acceptNorth f opReceiptGet = (u, true) ∧ u.session f.session = some x ∧ f.len = 16 ∧ obj = beAt f.payload 0 16 ∧ u.nsAdmits (obj / 2 ^ 116) x.client = true :=
  ⟨zRun, zTaken ((zRun)) (zNorth zSess opReceiptGet 0 (List.replicate 16 0)), (zNorth zSess opReceiptGet 0 (List.replicate 16 0)), ((zTaken ((zRun)) (zNorth zSess opReceiptGet 0 (List.replicate 16 0))).session ((zNorth zSess opReceiptGet 0 (List.replicate 16 0))).session).get (by decide +kernel), beAt ((zNorth zSess opReceiptGet 0 (List.replicate 16 0))).payload 0 16, zTakes zSess, (Option.some_get _).symm, (by decide +kernel), rfl, (by decide +kernel)⟩

theorem test_meets_ObjectAndRequestCommandsComplete_8 : ∃ (s : State) (u : State) (f : NorthIn) (x : Session) (obj : Nat), s.acceptNorth f opReceiptGet = (u, true) ∧ u.session f.session = some x ∧ f.len = 16 ∧ obj = beAt f.payload 0 16 ∧ u.nsAdmits (obj / 2 ^ 116) x.client = false :=
  ⟨zRun, zTaken ((zRun)) (zNorth zSess opReceiptGet 0 (List.replicate 16 255)), (zNorth zSess opReceiptGet 0 (List.replicate 16 255)), ((zTaken ((zRun)) (zNorth zSess opReceiptGet 0 (List.replicate 16 255))).session ((zNorth zSess opReceiptGet 0 (List.replicate 16 255))).session).get (by decide +kernel), beAt ((zNorth zSess opReceiptGet 0 (List.replicate 16 255))).payload 0 16, zTakes zSess, (Option.some_get _).symm, (by decide +kernel), rfl, (by decide +kernel)⟩

theorem test_meets_ObjectAndRequestCommandsComplete_9 : ∃ (s : State) (u : State) (f : NorthIn), s.acceptNorth f opEpochGet = (u, true) ∧ f.payload = [] :=
  ⟨zRun, zTaken ((zRun)) (zNorth zSess opEpochGet), (zNorth zSess opEpochGet), zTakes zSess, (by decide +kernel)⟩

theorem test_meets_ObjectAndRequestCommandsComplete_10 : ∃ (s : State) (u : State) (f : NorthIn) (x : Session) (obj : Nat), s.acceptNorth f opRestoreReq = (u, true) ∧ u.session f.session = some x ∧ f.len = 32 ∧ obj = beAt f.payload 0 16 ∧ x.has 4 = true ∧ (x.has 5 = true ∨ u.partRange obj (beAt f.payload 16 8) (beAt f.payload 24 8) = false) ∧ u.nsAdmits (obj / 2 ^ 116) x.client = true :=
  ⟨zRun, zTaken ((zRun)) (zNorth zSess opRestoreReq 0 (List.replicate 32 0)), (zNorth zSess opRestoreReq 0 (List.replicate 32 0)), ((zTaken ((zRun)) (zNorth zSess opRestoreReq 0 (List.replicate 32 0))).session ((zNorth zSess opRestoreReq 0 (List.replicate 32 0))).session).get (by decide +kernel), beAt ((zNorth zSess opRestoreReq 0 (List.replicate 32 0))).payload 0 16, zTakes zSess, (Option.some_get _).symm, (by decide +kernel), rfl, (by decide +kernel), (by decide +kernel), (by decide +kernel)⟩

theorem test_meets_ObjectAndRequestCommandsComplete_11 : ∃ (s : State) (u : State) (f : NorthIn) (r : Restore) (limit : Nat), s.acceptNorth f opCredit = (u, true) ∧ f.payload = [] ∧ 2 ^ 31 ≤ f.stream ∧ limit = f.word ∧ tget u.south.restores (restoreKey f.session (f.stream % 1024)) = some r ∧ r.credit < limit :=
  ⟨zRun, zTaken ((zRun)) (zNorth zSess opCredit 1 [] 3 (2 ^ 31)), (zNorth zSess opCredit 1 [] 3 (2 ^ 31)), (tget (zTaken ((zRun)) (zNorth zSess opCredit 1 [] 3 (2 ^ 31))).south.restores (restoreKey ((zNorth zSess opCredit 1 [] 3 (2 ^ 31))).session (((zNorth zSess opCredit 1 [] 3 (2 ^ 31))).stream % 1024))).get (by decide +kernel), ((zNorth zSess opCredit 1 [] 3 (2 ^ 31))).word, zTakes zSess, (by decide +kernel), (by decide +kernel), rfl, (Option.some_get _).symm, (by decide +kernel)⟩

/-! Hypotheses of RestoreEvacuationAndDrainCommandsComplete. -/

theorem test_meets_RestoreEvacuationAndDrainCommandsComplete_0 : ∃ (s : State) (r : Restore) (x : Session) (e : RestoreExt) (handle : Nat) (n : Nat), s.restore handle = some r ∧ s.session r.session = some x ∧ r.ext? (r.sent / extBytes r.ext) = some e ∧ e.verified = true ∧ s.safe = false ∧ r.ended = false ∧ x.state = .established ∧ n = min (min (min r.credit r.upTo - r.sent) x.maxData) (extBytes r.ext - r.sent % extBytes r.ext) ∧ n ≠ 0 ∧ r.sent + n ≠ r.upTo :=
  ⟨(zR { zRE ({ zRx with verified := true }) with credit := 4, upTo := 100 }), (((zR { zRE ({ zRx with verified := true }) with credit := 4, upTo := 100 })).restore (0)).get (by decide +kernel), (((zR { zRE ({ zRx with verified := true }) with credit := 4, upTo := 100 })).session ((((zR { zRE ({ zRx with verified := true }) with credit := 4, upTo := 100 })).restore (0)).get (by decide +kernel)).session).get (by decide +kernel), (((((zR { zRE ({ zRx with verified := true }) with credit := 4, upTo := 100 })).restore (0)).get (by decide +kernel)).ext? (((((zR { zRE ({ zRx with verified := true }) with credit := 4, upTo := 100 })).restore (0)).get (by decide +kernel)).sent / extBytes ((((zR { zRE ({ zRx with verified := true }) with credit := 4, upTo := 100 })).restore (0)).get (by decide +kernel)).ext)).get (by decide +kernel), 0, min (min (min ((((zR { zRE ({ zRx with verified := true }) with credit := 4, upTo := 100 })).restore (0)).get (by decide +kernel)).credit ((((zR { zRE ({ zRx with verified := true }) with credit := 4, upTo := 100 })).restore (0)).get (by decide +kernel)).upTo - ((((zR { zRE ({ zRx with verified := true }) with credit := 4, upTo := 100 })).restore (0)).get (by decide +kernel)).sent) ((((zR { zRE ({ zRx with verified := true }) with credit := 4, upTo := 100 })).session ((((zR { zRE ({ zRx with verified := true }) with credit := 4, upTo := 100 })).restore (0)).get (by decide +kernel)).session).get (by decide +kernel)).maxData) (extBytes ((((zR { zRE ({ zRx with verified := true }) with credit := 4, upTo := 100 })).restore (0)).get (by decide +kernel)).ext - ((((zR { zRE ({ zRx with verified := true }) with credit := 4, upTo := 100 })).restore (0)).get (by decide +kernel)).sent % extBytes ((((zR { zRE ({ zRx with verified := true }) with credit := 4, upTo := 100 })).restore (0)).get (by decide +kernel)).ext), (Option.some_get _).symm, (Option.some_get _).symm, (Option.some_get _).symm, (by decide +kernel), (by decide +kernel), (by decide +kernel), (by decide +kernel), rfl, (by decide +kernel), (by decide +kernel)⟩

theorem test_meets_RestoreEvacuationAndDrainCommandsComplete_1 : ∃ (s : State) (r : Restore) (x : Session) (e : RestoreExt) (handle : Nat) (n : Nat), s.restore handle = some r ∧ s.session r.session = some x ∧ r.ext? (r.sent / extBytes r.ext) = some e ∧ e.verified = true ∧ s.safe = false ∧ r.ended = false ∧ x.state = .established ∧ n = min (min (min r.credit r.upTo - r.sent) x.maxData) (extBytes r.ext - r.sent % extBytes r.ext) ∧ n ≠ 0 ∧ r.sent + n = r.upTo :=
  ⟨(zR { zRE ({ zRx with verified := true }) with credit := 4, upTo := 4 }), (((zR { zRE ({ zRx with verified := true }) with credit := 4, upTo := 4 })).restore (0)).get (by decide +kernel), (((zR { zRE ({ zRx with verified := true }) with credit := 4, upTo := 4 })).session ((((zR { zRE ({ zRx with verified := true }) with credit := 4, upTo := 4 })).restore (0)).get (by decide +kernel)).session).get (by decide +kernel), (((((zR { zRE ({ zRx with verified := true }) with credit := 4, upTo := 4 })).restore (0)).get (by decide +kernel)).ext? (((((zR { zRE ({ zRx with verified := true }) with credit := 4, upTo := 4 })).restore (0)).get (by decide +kernel)).sent / extBytes ((((zR { zRE ({ zRx with verified := true }) with credit := 4, upTo := 4 })).restore (0)).get (by decide +kernel)).ext)).get (by decide +kernel), 0, min (min (min ((((zR { zRE ({ zRx with verified := true }) with credit := 4, upTo := 4 })).restore (0)).get (by decide +kernel)).credit ((((zR { zRE ({ zRx with verified := true }) with credit := 4, upTo := 4 })).restore (0)).get (by decide +kernel)).upTo - ((((zR { zRE ({ zRx with verified := true }) with credit := 4, upTo := 4 })).restore (0)).get (by decide +kernel)).sent) ((((zR { zRE ({ zRx with verified := true }) with credit := 4, upTo := 4 })).session ((((zR { zRE ({ zRx with verified := true }) with credit := 4, upTo := 4 })).restore (0)).get (by decide +kernel)).session).get (by decide +kernel)).maxData) (extBytes ((((zR { zRE ({ zRx with verified := true }) with credit := 4, upTo := 4 })).restore (0)).get (by decide +kernel)).ext - ((((zR { zRE ({ zRx with verified := true }) with credit := 4, upTo := 4 })).restore (0)).get (by decide +kernel)).sent % extBytes ((((zR { zRE ({ zRx with verified := true }) with credit := 4, upTo := 4 })).restore (0)).get (by decide +kernel)).ext), (Option.some_get _).symm, (Option.some_get _).symm, (Option.some_get _).symm, (by decide +kernel), (by decide +kernel), (by decide +kernel), (by decide +kernel), rfl, (by decide +kernel), (by decide +kernel)⟩

theorem test_meets_RestoreEvacuationAndDrainCommandsComplete_2 : ∃ (s : State) (r : Restore) (e : RestoreExt) (handle : Nat), s.restore handle = some r ∧ (r.exts.any (fun e => !e.ranges.isEmpty && !e.taken) = true) :=
  ⟨(zR (zRE { zRx with ranges := [zRange] })), (((zR (zRE { zRx with ranges := [zRange] }))).restore (0)).get (by decide +kernel), zRx, 0, (Option.some_get _).symm, (by decide +kernel)⟩

theorem test_meets_RestoreEvacuationAndDrainCommandsComplete_3 : ∃ (s : State) (r : Restore) (handle : Nat), s.restore handle = some r ∧ r.held = true :=
  ⟨(zR { zRest with held := true }), (((zR { zRest with held := true })).restore (0)).get (by decide +kernel), 0, (Option.some_get _).symm, (by decide +kernel)⟩

theorem test_meets_RestoreEvacuationAndDrainCommandsComplete_4 : ∃ (s v : State) (handle idx unit c : Nat) (y : StitchCtx) (g : RangeRec), s.running unit = some (c, y) ∧ y.next = y.first + y.rows ∧ y.agrees = true ∧ y.job = .unseal handle idx ∧ v = s.updRanges y.job (fun rs => rs.map (fun g => if g.first = y.first ∧ g.rows = y.rows then { g with phase := .done, acc := y.partial', unit := unit } else g)) ∧ (v.jobRanges y.job).find? (fun g => g.first == y.first) = some g :=
  ⟨(zC [(0, { zCtx with job := .unseal 0 0, next := 1 })] (zRE { zRx with ranges := [zRange] })), _, 0, 0, 0, 0, { zCtx with job := .unseal 0 0, next := 1 }, { zRange with phase := .done, acc := noShares }, by decide +kernel, by decide +kernel, by decide +kernel, rfl, rfl, by decide +kernel⟩

theorem test_meets_RestoreEvacuationAndDrainCommandsComplete_7 : ∃ (s : State) (u : State) (m : SouthIn) (f : Fetch), s.acceptSouth m 0x31 = (u, true) ∧ tget u.south.fetches (fetchKey m.shelf m.xid) = some f ∧ f.parts = [] ∧ f.runs = [] ∧ m.last = false ∧ f.endAt = none :=
  ⟨zRun, zBrought ((zRun)) 0 (zSouth zAssoc 0x31 0 0 [] 1) true, (zSouth zAssoc 0x31 0 0 [] 1), (tget (zBrought ((zRun)) 0 (zSouth zAssoc 0x31 0 0 [] 1) true).south.fetches (fetchKey ((zSouth zAssoc 0x31 0 0 [] 1)).shelf ((zSouth zAssoc 0x31 0 0 [] 1)).xid)).get (by decide +kernel), zBrings zAssoc, (Option.some_get _).symm, (by decide +kernel), (by decide +kernel), (by decide +kernel), (by decide +kernel)⟩

theorem test_meets_RestoreEvacuationAndDrainCommandsComplete_8 : ∃ (s : State) (shelf : Nat) (xid : Nat) (f : Fetch), tget s.south.fetches (fetchKey shelf xid) = some f ∧ f.sent = true ∧ f.begun = false :=
  ⟨(zRun.updSouth (fun q => { q with fetches := [(0, { zFetch with sent := true })] })), 0, 0, (tget ((zRun.updSouth (fun q => { q with fetches := [(0, { zFetch with sent := true })] }))).south.fetches (fetchKey (0) (0))).get (by decide +kernel), (Option.some_get _).symm, (by decide +kernel), (by decide +kernel)⟩

theorem test_meets_RestoreEvacuationAndDrainCommandsComplete_9 : ∃ (s : State) (u : State) (m : SouthIn), s.acceptSouth m 0x70 = (u, true) ∧ m.len = 8 ∧ beAt m.payload 1 3 = 0 ∧ m.word ≠ 0 :=
  ⟨zRun, zBrought ((zRun)) 0 (zSouth zAssoc 0x70 0 1 (List.replicate 8 0)) true, (zSouth zAssoc 0x70 0 1 (List.replicate 8 0)), zBrings zAssoc, (by decide +kernel), (by decide +kernel), (by decide +kernel)⟩

theorem test_meets_RestoreEvacuationAndDrainCommandsComplete_10 : ∃ (s : State) (u : State) (m : SouthIn), s.acceptSouth m 0x70 = (u, true) ∧ m.len = 8 ∧ beAt m.payload 1 3 = 0 ∧ m.word = 0 :=
  ⟨zRun, zBrought ((zRun)) 0 (zSouth zAssoc 0x70 0 0 (List.replicate 8 0)) true, (zSouth zAssoc 0x70 0 0 (List.replicate 8 0)), zBrings zAssoc, (by decide +kernel), (by decide +kernel), (by decide +kernel)⟩

theorem test_meets_RestoreEvacuationAndDrainCommandsComplete_11 : ∃ (s : State), s.south.rebuildDue = true ∧ s.south.rebuild = none ∧ s.inSeal = true ∧ s.south.catalogue = [] ∧ (tkeys s.south.assocs (fun _ a => a.complete) = []) :=
  ⟨(zRun.updSouth (fun q => { q with rebuildDue := true, rebuild := none, catalogue := [], assocs := [] })), (by decide +kernel), (by decide +kernel), (by decide +kernel), (by decide +kernel), (by decide +kernel)⟩

theorem test_meets_RestoreEvacuationAndDrainCommandsComplete_12 : ∃ (s : State) (m : Nat), m < 65536 ∧ tget s.shepherd.media m = none :=
  ⟨State.reset, 0, (by decide), (by decide)⟩

theorem test_meets_RestoreEvacuationAndDrainCommandsComplete_13 : ∃ (s : State) (m : Nat) (x : Media), m < 65536 ∧ tget s.shepherd.media m = some x ∧ x.state ≠ 2 :=
  ⟨zFull, 0, (tget (zFull).shepherd.media (0)).get (by decide), (by decide), (Option.some_get _).symm, (by decide)⟩

theorem test_meets_RestoreEvacuationAndDrainCommandsComplete_14 : ∃ (s : State) (m : Nat) (x : Media), m < 65536 ∧ tget s.shepherd.media m = some x ∧ x.state = 2 ∧ m ∉ s.south.evacuating :=
  ⟨(zRun.updShepherd (fun q => { q with media := [(0, { state := 2 })] })), 0, (tget ((zRun.updShepherd (fun q => { q with media := [(0, { state := 2 })] }))).shepherd.media (0)).get (by decide +kernel), (by decide +kernel), (Option.some_get _).symm, (by decide +kernel), (by decide +kernel)⟩

theorem test_meets_RestoreEvacuationAndDrainCommandsComplete_15 : ∃ (s : State) (m : Nat) (x : Media), m < 65536 ∧ tget s.shepherd.media m = some x ∧ s.south.repairs = [] :=
  ⟨(zRun.updSouth (fun q => { q with repairs := [] })), 0, (tget ((zRun.updSouth (fun q => { q with repairs := [] }))).shepherd.media (0)).get (by decide +kernel), (by decide +kernel), (Option.some_get _).symm, (by decide +kernel)⟩

theorem test_meets_RestoreEvacuationAndDrainCommandsComplete_16 : ∃ (s : State) (obj : Nat) (idx : Nat) (x : Extent), s.extent (extKey obj idx) = some x ∧ regenDue x = true ∧ s.canRegenerate x = true := by
  refine ⟨(zE { zExt with phase := .sealed, frags := [(0, { zFrag with phase := .lost, hash := some 0, moving := some 0 })] }), 0, 0, (((zE { zExt with phase := .sealed, frags := [(0, { zFrag with phase := .lost, hash := some 0, moving := some 0 })] })).extent (extKey (0) (0))).get (by decide +kernel), ?_, ?_, ?_⟩
  · exact (Option.some_get _).symm
  · exact (by decide +kernel)
  · exact (by decide +kernel)

theorem test_meets_RestoreEvacuationAndDrainCommandsComplete_17 : ∃ (s : State) (obj : Nat) (idx : Nat) (x : Extent), s.extent (extKey obj idx) = some x ∧ regenDue x = true ∧ s.canRegenerate x = true ∧ (x.frags.any (fun f => f.2.phase == .lost && f.2.moving == some 0) = true) := by
  refine ⟨(zE { zExt with phase := .sealed, frags := [(0, { zFrag with phase := .lost, hash := some 0, moving := some 0 })] }), 0, 0, (((zE { zExt with phase := .sealed, frags := [(0, { zFrag with phase := .lost, hash := some 0, moving := some 0 })] })).extent (extKey (0) (0))).get (by decide +kernel), ?_, ?_, ?_, ?_⟩
  · exact (Option.some_get _).symm
  · exact (by decide +kernel)
  · exact (by decide +kernel)
  · exact (by decide +kernel)

theorem test_meets_RestoreEvacuationAndDrainCommandsComplete_18 : ∃ (s : State) (shelf : Nat) (key : Nat) (d : Nat), (s.shelf shelf).pstate = .on ∧ s.safe = false ∧ s.svc ≠ .dark ∧ s.nextCopy shelf = some (key, d) :=
  ⟨(zRun.updSouth (fun q => { q with catalogue := [(0, { zCat with targets := [(0, 0, false)] })] })), 0, ((((zRun.updSouth (fun q => { q with catalogue := [(0, { zCat with targets := [(0, 0, false)] })] }))).nextCopy (0)).get (by decide +kernel)).1, ((((zRun.updSouth (fun q => { q with catalogue := [(0, { zCat with targets := [(0, 0, false)] })] }))).nextCopy (0)).get (by decide +kernel)).2, (by decide +kernel), (by decide +kernel), (by decide +kernel), (Option.some_get (by decide +kernel)).symm⟩

theorem test_meets_RestoreEvacuationAndDrainCommandsComplete_19 : ∃ (s : State) (shelf : Nat) (e : Nat) (i : Nat) (x : Extent) (f : Fragment), (s.shelf shelf).pstate = .on ∧ s.safe = false ∧ s.svc ≠ .dark ∧ s.nextCopy shelf = none ∧ s.nextDrain shelf = some (.ext e i) ∧ s.extent e = some x ∧ tget x.frags i = some f ∧ (s.touchPages f.channel (runPages f.runs)).1 = none ∧ (s.touchPages f.channel (runPages f.runs)).2.badPages (s.ownedBytes (.ext e i) - 128) f = [] ∧ (s.touchPages f.channel (runPages f.runs)).2.extent e = some x :=
  ⟨((zE { zExt with phase := .settled, frags := [(0, zFrag)] }).updShepherd (fun q => { q with media := [(0, { state := 1 })] })), 0, 0, 0, ((((zE { zExt with phase := .settled, frags := [(0, zFrag)] }).updShepherd (fun q => { q with media := [(0, { state := 1 })] }))).extent (0)).get (by decide +kernel), (tget (((((zE { zExt with phase := .settled, frags := [(0, zFrag)] }).updShepherd (fun q => { q with media := [(0, { state := 1 })] }))).extent (0)).get (by decide +kernel)).frags (0)).get (by decide +kernel), (by decide +kernel), (by decide +kernel), (by decide +kernel), (by decide +kernel), (by decide +kernel), (Option.some_get _).symm, (Option.some_get _).symm, (by decide +kernel), (by decide +kernel), (by decide +kernel)⟩

/-! Hypotheses of StitchCommandsComplete. -/

theorem test_meets_StitchCommandsComplete_0 : ∃ (s : State) (n : Nat) (code : Nat) (count : Nat) (v : State) (w : State), n < 12 ∧ s.stu n = stBusy ∧ 0x10 ≤ code ∧ code ≤ 0x12 ∧ (s.stuCode n code).countMismatch n = (v, count) ∧ (code = 0x12 → v.owedRanges n = []) ∧ w = (v.stopStitch n stSuspect).raise (srcStu n 0) ∧ count < max 1 (w.rd (Reg.STU_QPOL.LIMIT.nth n)) :=
  ⟨((zC [(0, zCtx)]).wr (Reg.STU_QPOL.LIMIT.nth 0) 3), 0, 0x10, (((((zC [(0, zCtx)]).wr (Reg.STU_QPOL.LIMIT.nth 0) 3)).stuCode (0) (0x10)).countMismatch (0)).2, (((((zC [(0, zCtx)]).wr (Reg.STU_QPOL.LIMIT.nth 0) 3)).stuCode (0) (0x10)).countMismatch (0)).1, (((((((zC [(0, zCtx)]).wr (Reg.STU_QPOL.LIMIT.nth 0) 3)).stuCode (0) (0x10)).countMismatch (0)).1).stopStitch (0) stSuspect).raise (srcStu (0) 0), (by decide +kernel), (by decide +kernel), (by decide +kernel), (by decide +kernel), Prod.ext rfl rfl, fun h => absurd h (by decide), rfl, (by decide +kernel)⟩

theorem test_meets_StitchCommandsComplete_1 : ∃ (s : State) (n : Nat) (code : Nat) (count : Nat) (v : State) (w : State), n < 12 ∧ s.stu n = stBusy ∧ 0x10 ≤ code ∧ code ≤ 0x12 ∧ (s.stuCode n code).countMismatch n = (v, count) ∧ (code = 0x12 → v.owedRanges n = []) ∧ w = (v.stopStitch n stSuspect).raise (srcStu n 0) ∧ max 1 (w.rd (Reg.STU_QPOL.LIMIT.nth n)) ≤ count :=
  ⟨((zC [(0, zCtx)]).wr (Reg.STU_QPOL.LIMIT.nth 0) 1), 0, 0x12, (((((zC [(0, zCtx)]).wr (Reg.STU_QPOL.LIMIT.nth 0) 1)).stuCode (0) (0x12)).countMismatch (0)).2, (((((zC [(0, zCtx)]).wr (Reg.STU_QPOL.LIMIT.nth 0) 1)).stuCode (0) (0x12)).countMismatch (0)).1, (((((((zC [(0, zCtx)]).wr (Reg.STU_QPOL.LIMIT.nth 0) 1)).stuCode (0) (0x12)).countMismatch (0)).1).stopStitch (0) stSuspect).raise (srcStu (0) 0), (by decide +kernel), (by decide +kernel), (by decide +kernel), (by decide +kernel), Prod.ext rfl rfl, fun _ => by decide +kernel, rfl, (by decide +kernel)⟩

theorem test_meets_StitchCommandsComplete_2 : ∃ (s : State) (n : Nat) (why : TestReason), n < 12 ∧ tget s.stitch.tests n = some why ∧ why ≠ .rolling :=
  ⟨zFull, 0, (tget (zFull).stitch.tests (0)).get (by decide), (by decide), (Option.some_get _).symm, (by decide)⟩

theorem test_meets_StitchCommandsComplete_3 : ∃ (s : State) (n : Nat), n < 12 ∧ tget s.stitch.tests n = some .startup :=
  ⟨zFull, 0, (by decide), (by decide)⟩

theorem test_meets_StitchCommandsComplete_4 : ∃ (s : State) (n : Nat), n < 12 ∧ s.stu n = stOffline ∧ s.sealRuns = true :=
  ⟨zLit, 0, (by decide), (by decide), (by decide)⟩

theorem test_meets_StitchCommandsComplete_5 : ∃ (s : State) (n : Nat), n < 12 ∧ s.stu n = stIdle :=
  ⟨zRun, 0, (by decide +kernel), (by decide +kernel)⟩

theorem test_meets_StitchCommandsComplete_6 : ∃ (s : State) (n : Nat), n < 12 ∧ s.stu n = stBusy :=
  ⟨(zC [(0, zCtx)]), 0, (by decide +kernel), (by decide +kernel)⟩

theorem test_meets_StitchCommandsComplete_7 : ∃ (n : Nat), n < 12 :=
  ⟨0, (by decide)⟩

theorem test_meets_StitchCommandsComplete_8 : ∃ (s : State) (n : Nat), n < 12 ∧ s.stu n = stQuarantined :=
  ⟨(zRun.wr (Reg.STU_STATUS.STATE.nth 0) stQuarantined), 0, (by decide +kernel), (by decide +kernel)⟩

theorem test_meets_StitchCommandsComplete_10 : ∃ (s : State) (n : Nat) (c : Nat) (y : StitchCtx), s.running n = some (c, y) ∧ s.rerunWaits n c = true ∧ (s.atBoundary y = true ∨ s.rowPresent y = false) :=
  ⟨(zC [(0, zCtx), (2, { zCtx with job := .unseal 0 0 })] (zRE zRx)), 0, ((((zC [(0, zCtx), (2, { zCtx with job := .unseal 0 0 })] (zRE zRx))).running (0)).get (by decide +kernel)).1, ((((zC [(0, zCtx), (2, { zCtx with job := .unseal 0 0 })] (zRE zRx))).running (0)).get (by decide +kernel)).2, (Option.some_get (by decide +kernel)).symm, (by decide +kernel), Or.inr (by decide +kernel)⟩

theorem test_meets_StitchCommandsComplete_11 : ∃ (s : State) (n : Nat) (c : Nat) (y : StitchCtx) (z : _), s.running n = some (c, y) ∧ s.rerunWaits n c = false ∧ s.rowPresent y = false ∧ c = 0 ∧ tget s.stitch.ctxs (ctxKey n 1) = some z ∧ s.rowPresent z = true :=
  ⟨(zC [(0, zCtx), (1, { zCtx with job := .unseal 0 0 })] (zRE zRx)), 0, ((((zC [(0, zCtx), (1, { zCtx with job := .unseal 0 0 })] (zRE zRx))).running (0)).get (by decide +kernel)).1, ((((zC [(0, zCtx), (1, { zCtx with job := .unseal 0 0 })] (zRE zRx))).running (0)).get (by decide +kernel)).2, (tget ((zC [(0, zCtx), (1, { zCtx with job := .unseal 0 0 })] (zRE zRx))).stitch.ctxs (ctxKey (0) 1)).get (by decide +kernel), (Option.some_get (by decide +kernel)).symm, (by decide +kernel), (by decide +kernel), (by decide +kernel), (Option.some_get _).symm, (by decide +kernel)⟩

theorem test_meets_StitchCommandsComplete_12 : ∃ (s : State) (n : Nat) (pipe : Nat), n < 12 ∧ pipe < 2 ∧ s.isSet Reg.TRNG_STATUS.FAIL = false :=
  ⟨State.reset, 0, 0, (by decide), (by decide), (by decide)⟩

theorem test_meets_StitchCommandsComplete_13 : ∃ (s : State) (n : Nat) (c : Nat) (y : StitchCtx) (pipe : Nat), s.running n = some (c, y) ∧ 65536 ≤ s.maskUsed n pipe :=
  ⟨((zC [(0, zCtx)]).updStitch (fun q => { q with masks := [] })), 0, (((((zC [(0, zCtx)]).updStitch (fun q => { q with masks := [] }))).running (0)).get (by decide +kernel)).1, (((((zC [(0, zCtx)]).updStitch (fun q => { q with masks := [] }))).running (0)).get (by decide +kernel)).2, 0, (Option.some_get (by decide +kernel)).symm, (by decide +kernel)⟩

theorem test_meets_StitchCommandsComplete_14 : ∃ (s : State) (n : Nat) (c : Nat) (y : StitchCtx) (e : Nat), s.running n = some (c, y) ∧ y.job = .seal e :=
  ⟨(zC [(0, zCtx)]), 0, ((((zC [(0, zCtx)])).running (0)).get (by decide +kernel)).1, ((((zC [(0, zCtx)])).running (0)).get (by decide +kernel)).2, 0, (Option.some_get (by decide +kernel)).symm, (by decide +kernel)⟩

theorem test_meets_StitchCommandsComplete_15 : ∃ (s : State) (n : Nat) (c : Nat) (y : StitchCtx) (e : Nat) (v : State) (z : _), s.running n = some (c, y) ∧ y.job = .seal e ∧ v = ((s.stuCode n 0x20).flag (Reg.STU_ERR.INPUT_LOST.nth n) true).dropCtx n c ∧ v.extent e = some z :=
  ⟨(zC [(0, zCtx)]), 0, 0, zCtx, 0, (((zC [(0, zCtx)]).stuCode 0 0x20).flag (Reg.STU_ERR.INPUT_LOST.nth 0) true).dropCtx 0 0, zExt, (by decide +kernel), (by decide +kernel), rfl, (by decide +kernel)⟩

theorem test_meets_StitchCommandsComplete_16 : ∃ (s : State) (n : Nat) (c : Nat) (y : StitchCtx) (u : State), s.precede n = u ∧ u.running n = some (c, y) ∧ y.aborting = true :=
  ⟨(zC [(0, { zCtx with aborting := true })]), 0, (((((zC [(0, { zCtx with aborting := true })])).precede (0)).running (0)).get (by decide +kernel)).1, (((((zC [(0, { zCtx with aborting := true })])).precede (0)).running (0)).get (by decide +kernel)).2, ((zC [(0, { zCtx with aborting := true })])).precede (0), rfl, (Option.some_get (by decide +kernel)).symm, (by decide +kernel)⟩

theorem test_meets_StitchCommandsComplete_17 : ∃ (s : State) (n : Nat) (c : Nat) (y : StitchCtx) (x : Extent) (u : State) (i : JobInfo) (key : Nat) (e : Nat) (need : Nat) (pt : List Byte), s.precede n = u ∧ u.running n = some (c, y) ∧ y.aborting = false ∧ y.next < y.first + y.rows ∧ u.jobInfo y.job = some i ∧ y.key = some key ∧ y.agrees = true ∧ y.job = .seal e ∧ u.extent e = some x ∧ u.extentPlain x (64 * i.k * y.next) (min (64 * i.k) (i.len - 64 * i.k * y.next)) = some pt ∧ u.bufferRoom n e x y = true ∧ need = ceilDiv (min (64 * i.k) (i.len - 64 * i.k * y.next)) 16 - y.taken ∧ need ≤ u.blocksNow n c i y need :=
  ⟨((zC [(0, { zCtx with pipes := some (zPipe, zPipe) })]).updQueue (fun q => { q with queues := [(0, { zQueue with received := [(0, [7])] })] })), 0, ((((((zC [(0, { zCtx with pipes := some (zPipe, zPipe) })]).updQueue (fun q => { q with queues := [(0, { zQueue with received := [(0, [7])] })] }))).precede (0)).running (0)).get (by decide +kernel)).1, ((((((zC [(0, { zCtx with pipes := some (zPipe, zPipe) })]).updQueue (fun q => { q with queues := [(0, { zQueue with received := [(0, [7])] })] }))).precede (0)).running (0)).get (by decide +kernel)).2, (((((zC [(0, { zCtx with pipes := some (zPipe, zPipe) })]).updQueue (fun q => { q with queues := [(0, { zQueue with received := [(0, [7])] })] }))).precede (0)).extent (0)).get (by decide +kernel), (((zC [(0, { zCtx with pipes := some (zPipe, zPipe) })]).updQueue (fun q => { q with queues := [(0, { zQueue with received := [(0, [7])] })] }))).precede (0), (((((zC [(0, { zCtx with pipes := some (zPipe, zPipe) })]).updQueue (fun q => { q with queues := [(0, { zQueue with received := [(0, [7])] })] }))).precede (0)).jobInfo (((((((zC [(0, { zCtx with pipes := some (zPipe, zPipe) })]).updQueue (fun q => { q with queues := [(0, { zQueue with received := [(0, [7])] })] }))).precede (0)).running (0)).get (by decide +kernel)).2).job).get (by decide +kernel), ((((((((zC [(0, { zCtx with pipes := some (zPipe, zPipe) })]).updQueue (fun q => { q with queues := [(0, { zQueue with received := [(0, [7])] })] }))).precede (0)).running (0)).get (by decide +kernel)).2).key).get (by decide +kernel), 0, ceilDiv (min (64 * ((((((zC [(0, { zCtx with pipes := some (zPipe, zPipe) })]).updQueue (fun q => { q with queues := [(0, { zQueue with received := [(0, [7])] })] }))).precede (0)).jobInfo (((((((zC [(0, { zCtx with pipes := some (zPipe, zPipe) })]).updQueue (fun q => { q with queues := [(0, { zQueue with received := [(0, [7])] })] }))).precede (0)).running (0)).get (by decide +kernel)).2).job).get (by decide +kernel)).k) (((((((zC [(0, { zCtx with pipes := some (zPipe, zPipe) })]).updQueue (fun q => { q with queues := [(0, { zQueue with received := [(0, [7])] })] }))).precede (0)).jobInfo (((((((zC [(0, { zCtx with pipes := some (zPipe, zPipe) })]).updQueue (fun q => { q with queues := [(0, { zQueue with received := [(0, [7])] })] }))).precede (0)).running (0)).get (by decide +kernel)).2).job).get (by decide +kernel)).len - 64 * ((((((zC [(0, { zCtx with pipes := some (zPipe, zPipe) })]).updQueue (fun q => { q with queues := [(0, { zQueue with received := [(0, [7])] })] }))).precede (0)).jobInfo (((((((zC [(0, { zCtx with pipes := some (zPipe, zPipe) })]).updQueue (fun q => { q with queues := [(0, { zQueue with received := [(0, [7])] })] }))).precede (0)).running (0)).get (by decide +kernel)).2).job).get (by decide +kernel)).k * (((((((zC [(0, { zCtx with pipes := some (zPipe, zPipe) })]).updQueue (fun q => { q with queues := [(0, { zQueue with received := [(0, [7])] })] }))).precede (0)).running (0)).get (by decide +kernel)).2).next)) 16 - (((((((zC [(0, { zCtx with pipes := some (zPipe, zPipe) })]).updQueue (fun q => { q with queues := [(0, { zQueue with received := [(0, [7])] })] }))).precede (0)).running (0)).get (by decide +kernel)).2).taken, (((((zC [(0, { zCtx with pipes := some (zPipe, zPipe) })]).updQueue (fun q => { q with queues := [(0, { zQueue with received := [(0, [7])] })] }))).precede (0)).extentPlain ((((((zC [(0, { zCtx with pipes := some (zPipe, zPipe) })]).updQueue (fun q => { q with queues := [(0, { zQueue with received := [(0, [7])] })] }))).precede (0)).extent (0)).get (by decide +kernel)) (64 * ((((((zC [(0, { zCtx with pipes := some (zPipe, zPipe) })]).updQueue (fun q => { q with queues := [(0, { zQueue with received := [(0, [7])] })] }))).precede (0)).jobInfo (((((((zC [(0, { zCtx with pipes := some (zPipe, zPipe) })]).updQueue (fun q => { q with queues := [(0, { zQueue with received := [(0, [7])] })] }))).precede (0)).running (0)).get (by decide +kernel)).2).job).get (by decide +kernel)).k * (((((((zC [(0, { zCtx with pipes := some (zPipe, zPipe) })]).updQueue (fun q => { q with queues := [(0, { zQueue with received := [(0, [7])] })] }))).precede (0)).running (0)).get (by decide +kernel)).2).next) (min (64 * ((((((zC [(0, { zCtx with pipes := some (zPipe, zPipe) })]).updQueue (fun q => { q with queues := [(0, { zQueue with received := [(0, [7])] })] }))).precede (0)).jobInfo (((((((zC [(0, { zCtx with pipes := some (zPipe, zPipe) })]).updQueue (fun q => { q with queues := [(0, { zQueue with received := [(0, [7])] })] }))).precede (0)).running (0)).get (by decide +kernel)).2).job).get (by decide +kernel)).k) (((((((zC [(0, { zCtx with pipes := some (zPipe, zPipe) })]).updQueue (fun q => { q with queues := [(0, { zQueue with received := [(0, [7])] })] }))).precede (0)).jobInfo (((((((zC [(0, { zCtx with pipes := some (zPipe, zPipe) })]).updQueue (fun q => { q with queues := [(0, { zQueue with received := [(0, [7])] })] }))).precede (0)).running (0)).get (by decide +kernel)).2).job).get (by decide +kernel)).len - 64 * ((((((zC [(0, { zCtx with pipes := some (zPipe, zPipe) })]).updQueue (fun q => { q with queues := [(0, { zQueue with received := [(0, [7])] })] }))).precede (0)).jobInfo (((((((zC [(0, { zCtx with pipes := some (zPipe, zPipe) })]).updQueue (fun q => { q with queues := [(0, { zQueue with received := [(0, [7])] })] }))).precede (0)).running (0)).get (by decide +kernel)).2).job).get (by decide +kernel)).k * (((((((zC [(0, { zCtx with pipes := some (zPipe, zPipe) })]).updQueue (fun q => { q with queues := [(0, { zQueue with received := [(0, [7])] })] }))).precede (0)).running (0)).get (by decide +kernel)).2).next))).get (by decide +kernel), rfl, (Option.some_get (by decide +kernel)).symm, (by decide +kernel), (by decide +kernel), (Option.some_get _).symm, (Option.some_get _).symm, (by decide +kernel), (by decide +kernel), (Option.some_get _).symm, (Option.some_get _).symm, (by decide +kernel), rfl, (by decide +kernel)⟩

theorem test_meets_StitchCommandsComplete_18 : ∃ (s : State) (obj idx first : Nat) (r : RangeRec) (acc : Shares), (s.jobRanges (.seal (extKey obj idx))).find? (fun r => r.first == first && r.phase == .done) = some r ∧ acc = r.acc.refresh 128 (maskBits ((s.stepMask r.unit 0).maskGen r.unit 0).out 0 256) :=
  ⟨zE { zExt with ranges := [{ zRange with phase := .done }] }, 0, 0, 0, { zRange with phase := .done }, _, by decide +kernel, rfl⟩

theorem test_meets_StitchCommandsComplete_19 : ∃ (s : State) (obj : Nat) (idx : Nat) (x : Extent) (i : JobInfo) (tag : Nat), s.extent (extKey obj idx) = some x ∧ s.jobInfo (.seal (extKey obj idx)) = some i ∧ x.phase = .admitted ∧ x.frags ≠ [] ∧ x.ranges ≠ [] ∧ (x.ranges.all (fun r => r.phase == .done) = true) ∧ x.final ≠ none ∧ s.rangesTag i x.ranges = some tag :=
  ⟨(zE { zExt with ranges := [{ zRange with phase := .done }], final := some true }), 0, 0, (((zE { zExt with ranges := [{ zRange with phase := .done }], final := some true })).extent (extKey (0) (0))).get (by decide +kernel), (((zE { zExt with ranges := [{ zRange with phase := .done }], final := some true })).jobInfo (.seal (extKey (0) (0)))).get (by decide +kernel), (((zE { zExt with ranges := [{ zRange with phase := .done }], final := some true })).rangesTag ((((zE { zExt with ranges := [{ zRange with phase := .done }], final := some true })).jobInfo (.seal (extKey (0) (0)))).get (by decide +kernel)) ((((zE { zExt with ranges := [{ zRange with phase := .done }], final := some true })).extent (extKey (0) (0))).get (by decide +kernel)).ranges).get (by decide +kernel), (Option.some_get _).symm, (Option.some_get _).symm, (by decide +kernel), (by decide +kernel), (by decide +kernel), (by decide +kernel), (by decide +kernel), (Option.some_get _).symm⟩

/-! Hypotheses of SelfTestAndShepherdCommandsComplete. -/

theorem test_meets_SelfTestAndShepherdCommandsComplete_0 : ∃ (s : State) (kind : UnitKind) (unit : Nat) (due : Nat) (load : Nat), tget s.shepherd.due (dueKey kind unit) = some due ∧ due ≤ s.now ∧ (kind = .stitch ∧ s.stuHealthy unit = true ∨ kind = .sponge ∧ s.spgHealthy unit = true ∨ kind = .awl ∧ s.awlHealthy unit = true) ∧ s.fromFullerPool kind unit = true ∧ (s.shepherd.asked.any (fun kv => kv.1 / 256 == dueKey kind unit / 256) = false) ∧ s.kindOut kind = false ∧ s.testEnabled kind = true ∧ s.loadAllows kind load = true ∧ s.safe = false :=
  ⟨(((zRun.updShepherd (fun q => { q with due := [(dueKey .stitch 0, 0)], asked := [] })).wr (Reg.STU_STATUS.STATE.nth 1) 1).wr (Reg.STU_STATUS.STATE.nth 2) 1), UnitKind.stitch, 0, (tget ((((zRun.updShepherd (fun q => { q with due := [(dueKey .stitch 0, 0)], asked := [] })).wr (Reg.STU_STATUS.STATE.nth 1) 1).wr (Reg.STU_STATUS.STATE.nth 2) 1)).shepherd.due (dueKey (UnitKind.stitch) (0))).get (by decide +kernel), 0, (Option.some_get _).symm, (by decide +kernel), Or.inl ⟨rfl, by decide +kernel⟩, (by decide +kernel), (by decide +kernel), (by decide +kernel), (by decide +kernel), (by decide +kernel), (by decide +kernel)⟩

theorem test_meets_SelfTestAndShepherdCommandsComplete_1 : ∃ (s : State) (kind : UnitKind) (unit : Nat) (at' : Nat) (due : Nat), tget s.shepherd.asked (dueKey kind unit) = some at' ∧ s.kindOut kind = false ∧ tget s.shepherd.due (dueKey kind unit) = some due :=
  ⟨zFull, UnitKind.stitch, 0, (tget (zFull).shepherd.asked (dueKey (UnitKind.stitch) (0))).get (by decide), (tget (zFull).shepherd.due (dueKey (UnitKind.stitch) (0))).get (by decide), (Option.some_get _).symm, (by decide), (Option.some_get _).symm⟩

theorem test_meets_SelfTestAndShepherdCommandsComplete_2 : ∃ (s : State) (kind : UnitKind) (unit : Nat) (v : State), s.lateTest kind unit 1 = some v ∧ dueKey kind unit ∉ v.shepherd.deferred :=
  ⟨(zRun.updShepherd (fun q => { q with due := [(dueKey .stitch 0, 0)], asked := [] })), UnitKind.stitch, 0, (((zRun.updShepherd (fun q => { q with due := [(dueKey .stitch 0, 0)], asked := [] }))).lateTest (UnitKind.stitch) (0) 1).get (by decide +kernel), (Option.some_get _).symm, (by decide +kernel)⟩

theorem test_meets_SelfTestAndShepherdCommandsComplete_3 : ∃ (s : State) (kind : UnitKind) (unit : Nat) (v : State), s.lateTest kind unit 4 = some v ∧ dueKey kind unit ∉ v.shepherd.overdue :=
  ⟨(zRun.updShepherd (fun q => { q with due := [(dueKey .stitch 0, 0)], asked := [] })), UnitKind.stitch, 0, (((zRun.updShepherd (fun q => { q with due := [(dueKey .stitch 0, 0)], asked := [] }))).lateTest (UnitKind.stitch) (0) 4).get (by decide +kernel), (Option.some_get _).symm, (by decide +kernel)⟩

theorem test_meets_SelfTestAndShepherdCommandsComplete_4 : ∃ (s : State) (unit : Nat) (load : Nat) (d : Nat), unit < 16 ∧ s.nightWindow = true ∧ s.testEnabled .pair = true ∧ s.kindOut .pair = false ∧ s.isSet Reg.SHP_ST_OUT.DUE_ACT = false ∧ s.pstate unit = 0 ∧ tget s.shepherd.due (dueKey .pair unit) = some d ∧ d ≤ s.now ∧ (∀ n : Nat, tget s.shepherd.notBefore unit = some n → n ≤ s.now) ∧ s.pairsCarry load = true ∧ load < s.rd Reg.SHP_ST_CTRL.LOAD_PCT ∧ s.safe = false := by
  refine ⟨((((((zRun.updShepherd (fun q => { q with due := [(dueKey .pair 0, 0)], notBefore := [] })).wr Reg.SHP_ST_CTRL.NIGHT_HOUR 0).wr Reg.SHP_ST_CTRL.NIGHT_LEN 12).wr Reg.SHP_ST_CTRL.CORE 1).wr Reg.SHP_ST_CTRL.LOAD_PCT 50).wr Reg.SHP_ST_OUT.DUE_ACT 0), 0, 0, (tget (((((((zRun.updShepherd (fun q => { q with due := [(dueKey .pair 0, 0)], notBefore := [] })).wr Reg.SHP_ST_CTRL.NIGHT_HOUR 0).wr Reg.SHP_ST_CTRL.NIGHT_LEN 12).wr Reg.SHP_ST_CTRL.CORE 1).wr Reg.SHP_ST_CTRL.LOAD_PCT 50).wr Reg.SHP_ST_OUT.DUE_ACT 0)).shepherd.due (dueKey .pair (0))).get (by decide +kernel), ?_, ?_, ?_, ?_, ?_, ?_, ?_, ?_, ?_, ?_, ?_, ?_⟩
  · exact (by decide +kernel)
  · exact (by decide +kernel)
  · exact (by decide +kernel)
  · exact (by decide +kernel)
  · exact (by decide +kernel)
  · exact (by decide +kernel)
  · exact (Option.some_get _).symm
  · exact (by decide +kernel)
  · exact (fun _ h => nomatch h)
  · exact (by decide +kernel)
  · exact (by decide +kernel)
  · exact (by decide +kernel)

theorem test_meets_SelfTestAndShepherdCommandsComplete_5 : ∃ (s : State) (p : Nat), p < 16 ∧ s.isSet Reg.SHP_ST_OUT.DUE_ACT = true ∧ s.rd Reg.SHP_ST_OUT.CORE_DUE = p :=
  ⟨(zRun.wr Reg.SHP_ST_OUT.DUE_ACT 1), ((zRun.wr Reg.SHP_ST_OUT.DUE_ACT 1)).rd Reg.SHP_ST_OUT.CORE_DUE, (by decide +kernel), (by decide +kernel), rfl⟩

theorem test_meets_SelfTestAndShepherdCommandsComplete_6 : ∃ (s : State) (p : Nat), s.isSet Reg.SHP_ST_OUT.DUE_ACT = true ∧ s.rd Reg.SHP_ST_OUT.CORE_DUE = p :=
  ⟨(zRun.wr Reg.SHP_ST_OUT.DUE_ACT 1), ((zRun.wr Reg.SHP_ST_OUT.DUE_ACT 1)).rd Reg.SHP_ST_OUT.CORE_DUE, (by decide +kernel), rfl⟩

theorem test_meets_SelfTestAndShepherdCommandsComplete_7 : ∃ (s : State) (d : Nat), s.shepherd.dueAt = some d :=
  ⟨(zRun.updShepherd (fun q => { q with dueAt := some 0 })), (((zRun.updShepherd (fun q => { q with dueAt := some 0 }))).shepherd.dueAt).get (by decide +kernel), (Option.some_get _).symm⟩

theorem test_meets_SelfTestAndShepherdCommandsComplete_8 : ∃ (s : State) (id : Nat), id < 65536 ∧ (s.media id).badCrc = false :=
  ⟨State.reset, 0, (by decide), (by decide)⟩

theorem test_meets_SelfTestAndShepherdCommandsComplete_9 : ∃ (s : State) (id : Nat), id < 65536 ∧ (s.media id).badCrc = true :=
  ⟨(zRun.updShepherd (fun q => { q with media := [(0, { badCrc := true })] })), 0, (by decide +kernel), (by decide +kernel)⟩

theorem test_meets_SelfTestAndShepherdCommandsComplete_10 : ∃ (s : State) (id : Nat), id < 64 ∧ (s.shelf id).badCrc = false :=
  ⟨State.reset, 0, (by decide), (by decide)⟩

theorem test_meets_SelfTestAndShepherdCommandsComplete_11 : ∃ (s : State) (id : Nat), id < 65536 ∧ s.mediaRefusal id s.fromWindow = 0 :=
  ⟨State.reset, 0, (by decide), (by decide)⟩

theorem test_meets_SelfTestAndShepherdCommandsComplete_12 : ∃ (s : State) (id : Nat), id < 64 ∧ shelfOk id s.fromWindow = true :=
  ⟨State.reset, 0, (by decide), (by decide)⟩

theorem test_meets_SelfTestAndShepherdCommandsComplete_13 : ∃ (s : State) (obj : Nat) (idx : Nat) (x : Extent) (ingest : Nat) (restore : Nat), s.extent (extKey obj idx) = some x ∧ s.admissible (extKey obj idx) x = true ∧ s.rateAllows x.k x.m x.ext ingest restore = true :=
  ⟨((zE { zExt with phase := .granted }).wr Reg.SHP_CTRL.EN 1), 0, 0, ((((zE { zExt with phase := .granted }).wr Reg.SHP_CTRL.EN 1)).extent (extKey (0) (0))).get (by decide +kernel), 0, 0, (Option.some_get _).symm, (by decide +kernel), (by decide +kernel)⟩

theorem test_meets_SelfTestAndShepherdCommandsComplete_14 : ∃ (s : State) (obj : Nat) (idx : Nat) (x : Extent) (ingest : Nat) (restore : Nat), s.extent (extKey obj idx) = some x ∧ s.admissible (extKey obj idx) x = true ∧ s.rateAllows x.k x.m x.ext ingest restore = false :=
  ⟨((zE { zExt with phase := .granted }).wr Reg.SHP_CTRL.EN 1), 0, 0, ((((zE { zExt with phase := .granted }).wr Reg.SHP_CTRL.EN 1)).extent (extKey (0) (0))).get (by decide +kernel), (10 ^ 9), 0, (Option.some_get _).symm, (by decide +kernel), (by decide +kernel)⟩

theorem test_meets_SelfTestAndShepherdCommandsComplete_15 : ∃ (s : State) (obj : Nat) (idx : Nat) (x : Extent), s.extent (extKey obj idx) = some x ∧ readyToFix x = true ∧ s.safe = false :=
  ⟨(zE { zExt with phase := .sealed, final := some true, tag := some 0, frags := [(0, { zFrag with hash := some 0, phase := .filling })] }), 0, 0, (((zE { zExt with phase := .sealed, final := some true, tag := some 0, frags := [(0, { zFrag with hash := some 0, phase := .filling })] })).extent (extKey (0) (0))).get (by decide +kernel), (Option.some_get _).symm, (by decide +kernel), (by decide +kernel)⟩

theorem test_meets_SelfTestAndShepherdCommandsComplete_16 : ∃ (s : State) (obj : Nat) (idx : Nat) (x : Extent), s.extent (extKey obj idx) = some x ∧ x.noPlace = true ∧ readyToFix x = false ∧ s.admissible (extKey obj idx) x = true ∧ s.rateAllows x.k x.m x.ext s.shepherd.admittedIngest s.shepherd.admittedRestore = true :=
  ⟨((zE { zExt with phase := .granted, noPlace := true }).wr Reg.SHP_CTRL.EN 1), 0, 0, ((((zE { zExt with phase := .granted, noPlace := true }).wr Reg.SHP_CTRL.EN 1)).extent (extKey (0) (0))).get (by decide +kernel), (Option.some_get _).symm, (by decide +kernel), (by decide +kernel), (by decide +kernel), (by decide +kernel)⟩

theorem test_meets_SelfTestAndShepherdCommandsComplete_17 : ∃ (s : State) (id : Nat) (v : State), s.safe = false ∧ s.svc ≠ .dark ∧ (v = (s.updShepherd (fun p => { p with wakes := p.wakes.filter (fun h => (s.shelf h).pstate != .on && (s.shelf h).pstate != .fault) })).pumpRepairs) ∧ v.wakeChoice = some id ∧ v.onCount < v.rd Reg.SHP_PWR.MAX_ON ∧ v.wakingCount < v.rd Reg.SHP_PWR.MAX_WAKING ∧ (v.wake id).stoppable = [] :=
  ⟨(((zRun.updShepherd (fun q => { q with wakes := [0], shelves := [(0, { pstate := .off })] })).wr Reg.SHP_PWR.MAX_ON 4).wr Reg.SHP_PWR.MAX_WAKING 2), 0, (((((zRun.updShepherd (fun q => { q with wakes := [0], shelves := [(0, { pstate := .off })] })).wr Reg.SHP_PWR.MAX_ON 4).wr Reg.SHP_PWR.MAX_WAKING 2)).updShepherd (fun p => { p with wakes := p.wakes.filter (fun h => (((((zRun.updShepherd (fun q => { q with wakes := [0], shelves := [(0, { pstate := .off })] })).wr Reg.SHP_PWR.MAX_ON 4).wr Reg.SHP_PWR.MAX_WAKING 2)).shelf h).pstate != .on && (((((zRun.updShepherd (fun q => { q with wakes := [0], shelves := [(0, { pstate := .off })] })).wr Reg.SHP_PWR.MAX_ON 4).wr Reg.SHP_PWR.MAX_WAKING 2)).shelf h).pstate != .fault) })).pumpRepairs, (by decide +kernel), (by decide +kernel), rfl, (by decide +kernel), (by decide +kernel), (by decide +kernel), (by decide +kernel)⟩

theorem test_meets_SelfTestAndShepherdCommandsComplete_18 : ∃ (s : State) (id : Nat), (s.shelf id).pstate = .waking :=
  ⟨(zRun.updShepherd (fun q => { q with shelves := [(0, { pstate := .waking })] })), 0, (by decide +kernel)⟩

theorem test_meets_SelfTestAndShepherdCommandsComplete_19 : ∃ (s : State) (id : Nat) (a : Assoc), (s.shelf id).pstate ≠ .absent ∧ s.assoc id = some a :=
  ⟨zFull, 0, ((zFull).assoc (0)).get (by decide), (by decide), (Option.some_get _).symm⟩

/-! Hypotheses of ChannelAndErrorCorrectionCommandsComplete. -/

theorem test_meets_ChannelAndErrorCorrectionCommandsComplete_0 : ∃ (s : State) (c page : Nat) (m : PageMove), m ∈ s.staging.moves ∧ m.channel = c ∧ m.oldPage = page :=
  ⟨zRun, 0, 0, zMove, by decide +kernel, rfl, rfl⟩

theorem test_meets_ChannelAndErrorCorrectionCommandsComplete_1 : ∃ (s : State) (c : Nat) (ch : Channel), c < 12 ∧ s.chanRetraining c = true ∧ s.chan c = some ch :=
  ⟨(zRun.wr Reg.STG_CHSTATE.RETRAIN 1), 0, (((zRun.wr Reg.STG_CHSTATE.RETRAIN 1)).chan (0)).get (by decide +kernel), (by decide +kernel), (by decide +kernel), (Option.some_get _).symm⟩

theorem test_meets_ChannelAndErrorCorrectionCommandsComplete_2 : ∃ (s : State) (a : Nat), s.svc ≠ .dark ∧ checkerOf a = some (16 + 45) :=
  ⟨zRun, 0x4000000, (by decide +kernel), (by decide +kernel)⟩

theorem test_meets_ChannelAndErrorCorrectionCommandsComplete_3 : ∃ (s : State) (c : Nat) (ram : Nat) (row : Nat), c < 45 ∧ ram < 65536 ∧ row < 65536 ∧ s.svc ≠ .dark ∧ c * 65536 + ram ∉ s.guards.fenced :=
  ⟨zLit, 0, 0, 0, (by decide), (by decide), (by decide), (by decide), (by decide)⟩

theorem test_meets_ChannelAndErrorCorrectionCommandsComplete_4 : ∃ (s : State) (u : Nat) (e : Nat) (x : TrackEntry), u < 64 ∧ e < 256 ∧ s.trackEntry u e = some x ∧ x.hard = false :=
  ⟨(zRun.updGuards (fun g => { g with trackers := [(0, zTrk)] })), 0, 0, (((zRun.updGuards (fun g => { g with trackers := [(0, zTrk)] }))).trackEntry (0) (0)).get (by decide +kernel), (by decide +kernel), (by decide +kernel), (Option.some_get _).symm, (by decide +kernel)⟩

theorem test_meets_ChannelAndErrorCorrectionCommandsComplete_5 : ∃ (s : State) (u : Nat) (e : Nat) (x : TrackEntry), u < 64 ∧ e < 256 ∧ s.trackEntry u e = some x ∧ x.hard = true :=
  ⟨(zRun.updGuards (fun g => { g with trackers := [(0, { zTrk with hard := true })] })), 0, 0, (((zRun.updGuards (fun g => { g with trackers := [(0, { zTrk with hard := true })] }))).trackEntry (0) (0)).get (by decide +kernel), (by decide +kernel), (by decide +kernel), (Option.some_get _).symm, (by decide +kernel)⟩

theorem test_meets_ChannelAndErrorCorrectionCommandsComplete_6 : ∃ (c : Nat) (m : Nat) (n : Nat), c < 64 ∧ m < 256 ∧ n < 256 :=
  ⟨0, 0, 0, (by decide), (by decide), (by decide)⟩

theorem test_meets_ChannelAndErrorCorrectionCommandsComplete_7 : ∃ (s : State) (f : Nat), f < 256 ∧ s.testAllowed = true :=
  ⟨State.reset, 0, (by decide), (by decide)⟩

theorem test_meets_ChannelAndErrorCorrectionCommandsComplete_8 : ∃ (s : State) (f : Nat), f < 256 ∧ s.testAllowed = false ∧ s.rd Reg.ECC_TEST.EN = 0 :=
  ⟨(zRun.wr Reg.AT_STATUS.BOOT 0), 0, (by decide +kernel), (by decide +kernel), (by decide +kernel)⟩

theorem test_meets_ChannelAndErrorCorrectionCommandsComplete_9 : ∃ (s : State) (a : Nat) (p : Nat) (c : Nat) (v : State), v = s.wr Reg.ECC_SPLIT_CMD.CHECK c ∧ a = v.flipWord ∧ v.splitTarget a = true ∧ v.testRegion a = true ∧ inDram a = true ∧ c < 256 ∧ v.forbidden { master := p % 16, world := .keeper, user := false, kind := .write, addr := a, len := 4 } = none := by
  refine ⟨(((zRun.wr Reg.AT_STATUS.BOOT 0).wr Reg.ECC_SPLIT_ADDR.ADDR 35184372088832).updGuards (fun g => { g with active := [(16 * 512, { w0 := 5 + 12 * 16 + 140737488355328, w1 := 2 ^ 40 - 1 })], installed := [(0, 1048576)] })), (((((zRun.wr Reg.AT_STATUS.BOOT 0).wr Reg.ECC_SPLIT_ADDR.ADDR 35184372088832).updGuards (fun g => { g with active := [(16 * 512, { w0 := 5 + 12 * 16 + 140737488355328, w1 := 2 ^ 40 - 1 })], installed := [(0, 1048576)] }))).wr Reg.ECC_SPLIT_CMD.CHECK (0)).flipWord, 0, 0, ((((zRun.wr Reg.AT_STATUS.BOOT 0).wr Reg.ECC_SPLIT_ADDR.ADDR 35184372088832).updGuards (fun g => { g with active := [(16 * 512, { w0 := 5 + 12 * 16 + 140737488355328, w1 := 2 ^ 40 - 1 })], installed := [(0, 1048576)] }))).wr Reg.ECC_SPLIT_CMD.CHECK (0), ?_, ?_, ?_, ?_, ?_, ?_, ?_⟩
  · exact rfl
  · exact rfl
  · exact (by decide +kernel)
  · exact (by decide +kernel)
  · exact (by decide +kernel)
  · exact (by decide +kernel)
  · exact (by decide +kernel)

theorem test_meets_ChannelAndErrorCorrectionCommandsComplete_10 : ∃ (s : State) (c : Nat) (v : State), v = s.wr Reg.ECC_SPLIT_CMD.CHECK c ∧ v.splitTarget v.flipWord = false :=
  ⟨State.reset, 0, (State.reset).wr Reg.ECC_SPLIT_CMD.CHECK (0), rfl, (by decide)⟩

/-! Hypotheses of PackCommandsComplete. -/

theorem test_meets_PackCommandsComplete_0 : ∃ (s : State) (core : Nat), core < 128 ∧ s.spg core = .busy :=
  ⟨(zRun.updPack (fun q => { q with state := [(0, .busy)] })), 0, (by decide +kernel), (by decide +kernel)⟩

theorem test_meets_PackCommandsComplete_1 : ∃ (s : State) (core : Nat) (v : State) (w : State) (count : Nat), core < 128 ∧ s.spg core = .busy ∧ (s.bump Reg.PCK_EVENTS.RETRY).countSponge core = (v, count) ∧ w = (v.dropSponge core .suspect).raise srcPckMismatch core ∧ count < max 1 (w.rd Reg.PCK_QPOL.LIMIT) :=
  ⟨((zRun.updPack (fun q => { q with state := [(0, .busy)] })).wr Reg.PCK_QPOL.LIMIT 3), 0, (((((zRun.updPack (fun q => { q with state := [(0, .busy)] })).wr Reg.PCK_QPOL.LIMIT 3)).bump Reg.PCK_EVENTS.RETRY).countSponge (0)).1, (((((((zRun.updPack (fun q => { q with state := [(0, .busy)] })).wr Reg.PCK_QPOL.LIMIT 3)).bump Reg.PCK_EVENTS.RETRY).countSponge (0)).1).dropSponge (0) .suspect).raise srcPckMismatch (0), (((((zRun.updPack (fun q => { q with state := [(0, .busy)] })).wr Reg.PCK_QPOL.LIMIT 3)).bump Reg.PCK_EVENTS.RETRY).countSponge (0)).2, (by decide +kernel), (by decide +kernel), Prod.ext rfl rfl, rfl, (by decide +kernel)⟩

theorem test_meets_PackCommandsComplete_2 : ∃ (s : State) (core : Nat) (v : State) (w : State) (count : Nat), core < 128 ∧ s.spg core = .busy ∧ (s.bump Reg.PCK_EVENTS.RETRY).countSponge core = (v, count) ∧ w = (v.dropSponge core .suspect).raise srcPckMismatch core ∧ max 1 (w.rd Reg.PCK_QPOL.LIMIT) ≤ count :=
  ⟨((zRun.updPack (fun q => { q with state := [(0, .busy)] })).wr Reg.PCK_QPOL.LIMIT 1), 0, (((((zRun.updPack (fun q => { q with state := [(0, .busy)] })).wr Reg.PCK_QPOL.LIMIT 1)).bump Reg.PCK_EVENTS.RETRY).countSponge (0)).1, (((((((zRun.updPack (fun q => { q with state := [(0, .busy)] })).wr Reg.PCK_QPOL.LIMIT 1)).bump Reg.PCK_EVENTS.RETRY).countSponge (0)).1).dropSponge (0) .suspect).raise srcPckMismatch (0), (((((zRun.updPack (fun q => { q with state := [(0, .busy)] })).wr Reg.PCK_QPOL.LIMIT 1)).bump Reg.PCK_EVENTS.RETRY).countSponge (0)).2, (by decide +kernel), (by decide +kernel), Prod.ext rfl rfl, rfl, (by decide +kernel)⟩

theorem test_meets_PackCommandsComplete_3 : ∃ (s : State) (obj : Nat) (idx : Nat) (n : Nat) (x : Extent) (f : Fragment) (j : Nat), s.extent (extKey obj idx) = some x ∧ tget x.frags n = some f ∧ f.hash = none ∧ f.core = some j ∧ x.phase ≠ .aborted ∧ x.ranges ≠ [] ∧ f.rows.length = rowCount x.len x.k ∧ s.waitsAhead (extKey obj idx) n f = false :=
  ⟨(zF { zFrag with core := some 0, rows := [(0, [0])] }), 0, 0, 0, (((zF { zFrag with core := some 0, rows := [(0, [0])] })).extent (extKey (0) (0))).get (by decide +kernel), (tget ((((zF { zFrag with core := some 0, rows := [(0, [0])] })).extent (extKey (0) (0))).get (by decide +kernel)).frags (0)).get (by decide +kernel), 0, (Option.some_get _).symm, (Option.some_get _).symm, (by decide +kernel), (by decide +kernel), (by decide +kernel), (by decide +kernel), (by decide +kernel), (by decide +kernel)⟩

theorem test_meets_PackCommandsComplete_4 : ∃ (s : State) (v : State), v = s.advance (s.slotStart + s.slotNs - s.time64) ∧ v.groupFree = true ∧ v.manifestReady = true ∧ v.safe = false :=
  ⟨zSign, (zSign).advance ((zSign).slotStart + (zSign).slotNs - (zSign).time64), rfl, (by decide +kernel), (by decide +kernel), (by decide +kernel)⟩

theorem test_meets_PackCommandsComplete_5 : ∃ (s : State) (v : State), v = s.advance (s.slotStart + s.slotNs - s.time64) ∧ v.groupFree = false :=
  ⟨State.reset, (State.reset).advance ((State.reset).slotStart + (State.reset).slotNs - (State.reset).time64), rfl, (by decide)⟩

theorem test_meets_PackCommandsComplete_6 : ∃ (s : State) (v : State), s.lenWritten ≠ s.pack.slotLen ∧ v = (s.advance ((s.time64 / (1000 * s.lenWritten) + 1) * (1000 * s.lenWritten) - s.time64)).closeRegular :=
  ⟨((zRun.wr Reg.PCK_EPOCH_LEN.LEN_US 100).updPack (fun q => { q with slotLen := 1000 })), ((((zRun.wr Reg.PCK_EPOCH_LEN.LEN_US 100).updPack (fun q => { q with slotLen := 1000 }))).advance (((((zRun.wr Reg.PCK_EPOCH_LEN.LEN_US 100).updPack (fun q => { q with slotLen := 1000 }))).time64 / (1000 * (((zRun.wr Reg.PCK_EPOCH_LEN.LEN_US 100).updPack (fun q => { q with slotLen := 1000 }))).lenWritten) + 1) * (1000 * (((zRun.wr Reg.PCK_EPOCH_LEN.LEN_US 100).updPack (fun q => { q with slotLen := 1000 }))).lenWritten) - (((zRun.wr Reg.PCK_EPOCH_LEN.LEN_US 100).updPack (fun q => { q with slotLen := 1000 }))).time64)).closeRegular, (by decide +kernel), rfl⟩

theorem test_meets_PackCommandsComplete_7 : ∃ (s : State) (obj : Nat) (y : Obj), s.object obj = some y ∧ obj ∈ s.pack.notarisedWaiting ∧ s.groupFree = true ∧ s.manifestReady = true ∧ s.safe = false :=
  ⟨(zSign.updPack (fun q => { q with notarisedWaiting := [0] })), 0, (((zSign.updPack (fun q => { q with notarisedWaiting := [0] }))).object (0)).get (by decide +kernel), (Option.some_get _).symm, (by decide +kernel), (by decide +kernel), (by decide +kernel), (by decide +kernel)⟩

theorem test_meets_PackCommandsComplete_8 : ∃ (s : State) (n : Nat) (e : Epoch) (j : Nat) (v : State) (rnd : Nat), tget s.pack.epochs n = some e ∧ e.group = [j] ∧ e.signature = none ∧ e.released = false ∧ s.manifestReady = true ∧ s.safe = false ∧ s.draw 256 = (rnd, v) :=
  ⟨(zRun.updPack (fun q => { q with epochs := [(0, { zEpoch with group := [0] })] })), 0, (tget ((zRun.updPack (fun q => { q with epochs := [(0, { zEpoch with group := [0] })] }))).pack.epochs (0)).get (by decide +kernel), 0, (((zRun.updPack (fun q => { q with epochs := [(0, { zEpoch with group := [0] })] }))).draw 256).2, (((zRun.updPack (fun q => { q with epochs := [(0, { zEpoch with group := [0] })] }))).draw 256).1, (Option.some_get _).symm, (by decide +kernel), (by decide +kernel), (by decide +kernel), (by decide +kernel), (by decide +kernel), Prod.ext rfl rfl⟩

theorem test_meets_PackCommandsComplete_9 : ∃ (s : State) (n : Nat) (e : Epoch), tget s.pack.epochs n = some e ∧ e.signature ≠ none ∧ e.released = false ∧ s.pack.stopped = false ∧ s.safe = false :=
  ⟨(zRun.updPack (fun q => { q with epochs := [(0, { zEpoch with signature := some 0 })] })), 0, (tget ((zRun.updPack (fun q => { q with epochs := [(0, { zEpoch with signature := some 0 })] }))).pack.epochs (0)).get (by decide +kernel), (Option.some_get _).symm, (by decide +kernel), (by decide +kernel), (by decide +kernel), (by decide +kernel)⟩

theorem test_meets_PackCommandsComplete_10 : ∃ (s : State) (n : Nat) (e : Epoch), tget s.pack.epochs n = some e ∧ e.released = true ∧ e.logged = false :=
  ⟨(zRun.updPack (fun q => { q with epochs := [(0, { zEpoch with released := true })] })), 0, (tget ((zRun.updPack (fun q => { q with epochs := [(0, { zEpoch with released := true })] }))).pack.epochs (0)).get (by decide +kernel), (Option.some_get _).symm, (by decide +kernel), (by decide +kernel)⟩

theorem test_meets_PackCommandsComplete_11 : ∃ (s : State) (obj : Nat) (idx : Nat) (n : Nat) (f : Fragment) (v : State) (w : State) (o : Bool × Nat × Nat) (os : List (Bool × Nat × Nat)), s.stagedCopies (extKey obj idx) n = o :: os ∧ s.heldFrag o = some f ∧ s.isSet Reg.PCK_CTRL.REVERIFY_EN = true ∧ s.chanHealthy f.channel = true ∧ s.chanRetraining f.channel = false ∧ spongeCores.any s.spgIdle = true ∧ s.safe = false ∧ v = s.advanceTo (f.lastVerify + s.reverifyAge * second) ∧ v.touchPages f.channel (runPages f.runs) = (none, w) ∧ some (shakeDom 0x03 (v.fragPayload (v.heldPayload o) f)) = f.hash := by
  refine ⟨(zF { zFrag with hash := some (shakeDom 0x03 []) }), 0, 0, 0, { zFrag with hash := some (shakeDom 0x03 []) }, ((zF { zFrag with hash := some (shakeDom 0x03 []) })).advanceTo (({ zFrag with hash := some (shakeDom 0x03 []) }).lastVerify + ((zF { zFrag with hash := some (shakeDom 0x03 []) })).reverifyAge * second), ((((zF { zFrag with hash := some (shakeDom 0x03 []) })).advanceTo (({ zFrag with hash := some (shakeDom 0x03 []) }).lastVerify + ((zF { zFrag with hash := some (shakeDom 0x03 []) })).reverifyAge * second)).touchPages ({ zFrag with hash := some (shakeDom 0x03 []) }).channel (runPages ({ zFrag with hash := some (shakeDom 0x03 []) }).runs)).2, (((zF { zFrag with hash := some (shakeDom 0x03 []) })).stagedCopies (extKey (0) (0)) (0)).head (by decide +kernel), (((zF { zFrag with hash := some (shakeDom 0x03 []) })).stagedCopies (extKey (0) (0)) (0)).tail, ?_, ?_, ?_, ?_, ?_, ?_, ?_, ?_, ?_, ?_⟩
  · exact (List.cons_head_tail (by decide +kernel)).symm
  · exact rfl
  · exact (by decide +kernel)
  · exact (by decide +kernel)
  · exact (by decide +kernel)
  · exact (by decide +kernel)
  · exact (by decide +kernel)
  · exact rfl
  · exact Prod.ext (by decide +kernel) rfl
  · exact congrArg (fun b => some (shakeDom 0x03 b)) (by decide +kernel)

theorem test_meets_PackCommandsComplete_12 : ∃ (s : State) (core : Nat), core < 128 ∧ s.spg core = .quarantined :=
  ⟨(zRun.updPack (fun q => { q with state := [(0, .quarantined)] })), 0, (by decide +kernel), (by decide +kernel)⟩

theorem test_meets_PackCommandsComplete_13 : ∃ (s : State) (core : Nat), tget s.pack.tests core = some .startup :=
  ⟨zFull, 0, (by decide)⟩

/-! Hypotheses of TetherLinkCommandsComplete. -/

theorem test_meets_TetherLinkCommandsComplete_0 : ∃ (s : State) (p : Nat) (t : Tether) (flit : List Byte), s.tether p = some t ∧ flitGood true flit = true ∧ t.up = false ∧ flitType flit ≠ 1 ∧ t.inits < 15 :=
  ⟨(zT { zTether with up := false }), 0, (((zT { zTether with up := false })).tether (0)).get (by decide +kernel), (flitBytes 2 0 0 []), (Option.some_get _).symm, flitGood_flitBytes _ _ _ _ (by decide) (by decide), (by decide +kernel), (by decide +kernel), (by decide +kernel)⟩

theorem test_meets_TetherLinkCommandsComplete_1 : ∃ (s : State) (p : Nat) (t : Tether) (flit : List Byte), s.tether p = some t ∧ flitGood true flit = true ∧ t.up = false ∧ flitType flit ≠ 1 ∧ t.inits = 15 :=
  ⟨(zT { zTether with up := false, inits := 15 }), 0, (((zT { zTether with up := false, inits := 15 })).tether (0)).get (by decide +kernel), (flitBytes 2 0 0 []), (Option.some_get _).symm, flitGood_flitBytes _ _ _ _ (by decide) (by decide), (by decide +kernel), (by decide +kernel), (by decide +kernel)⟩

theorem test_meets_TetherLinkCommandsComplete_2 : ∃ (s : State) (p : Nat) (t : Tether) (flit : List Byte), s.tether p = some t ∧ flitGood true flit = true ∧ t.up = true ∧ t.rx ≠ none ∧ flitSeq flit ≠ (t.rx.getD 0 + 1) % 4096 :=
  ⟨zRun, 0, ((zRun).tether (0)).get (by decide +kernel), (flitBytes 2 5 0 []), (Option.some_get _).symm, flitGood_flitBytes _ _ _ _ (by decide) (by decide), (by decide +kernel), (by decide +kernel), (by decide +kernel)⟩

theorem test_meets_TetherLinkCommandsComplete_3 : ∃ (s : State) (p : Nat) (t : Tether) (flit : List Byte), s.tether p = some t ∧ flitGood true flit = true ∧ t.up = true ∧ flitType flit = 1 ∧ flitSeq flit = (t.rx.getD 4095 + 1) % 4096 ∧ t.unacked = [] ∧ t.backlog = [] ∧ bitOf (flitAck flit) 14 = false :=
  ⟨zRun, 0, ((zRun).tether (0)).get (by decide +kernel), (flitBytes 1 1 0 []), (Option.some_get _).symm, flitGood_flitBytes _ _ _ _ (by decide) (by decide), (by decide +kernel), (by decide +kernel), (by decide +kernel), (by decide +kernel), (by decide +kernel), (by decide +kernel)⟩

theorem test_meets_TetherLinkCommandsComplete_4 : ∃ (s : State) (p : Nat) (t : Tether), s.tether p = some t ∧ t.up = true :=
  ⟨zFull, 0, ((zFull).tether (0)).get (by decide), (Option.some_get _).symm, (by decide)⟩

theorem test_meets_TetherLinkCommandsComplete_5 : ∃ (s : State) (p : Nat) (t : Tether), s.tether p = some t ∧ t.up = true ∧ t.unacked ≠ [] :=
  ⟨(zT { zTether with unacked := [zFlit] }), 0, (((zT { zTether with unacked := [zFlit] })).tether (0)).get (by decide +kernel), (Option.some_get _).symm, (by decide +kernel), (by decide +kernel)⟩

theorem test_meets_TetherLinkCommandsComplete_6 : ∃ (s : State) (p : Nat) (t : Tether), s.tether p = some t ∧ t.up = false :=
  ⟨(zT { zTether with up := false }), 0, (((zT { zTether with up := false })).tether (0)).get (by decide +kernel), (Option.some_get _).symm, (by decide +kernel)⟩

theorem test_meets_TetherLinkCommandsComplete_7 : ∃ (s : State) (p : Nat) (t : Tether) (locked : Bool) (skew : Nat), s.tether p = some t ∧ p ∈ s.south.upPorts ∧ (locked = false ∨ 64 < skew) :=
  ⟨zRun, 0, ((zRun).tether (0)).get (by decide +kernel), false, 0, (Option.some_get _).symm, (by decide +kernel), Or.inl rfl⟩

theorem test_meets_TetherLinkCommandsComplete_8 : ∃ (s : State) (p : Nat) (t : Tether) (locked : Bool) (skew : Nat), s.tether p = some t ∧ t.up = false ∧ (locked = false ∨ 64 < skew) :=
  ⟨(zT { zTether with up := false }), 0, (((zT { zTether with up := false })).tether (0)).get (by decide +kernel), false, 0, (Option.some_get _).symm, (by decide +kernel), Or.inl rfl⟩

theorem test_meets_TetherLinkCommandsComplete_9 : ∃ (s : State) (p : Nat) (t : Tether) (skew : Nat), s.tether p = some t ∧ t.up = false ∧ skew ≤ 64 :=
  ⟨(zT { zTether with up := false }), 0, (((zT { zTether with up := false })).tether (0)).get (by decide +kernel), 0, (Option.some_get _).symm, (by decide +kernel), (by decide +kernel)⟩

/-! Hypotheses of ShelfCommandsComplete. -/

theorem test_meets_ShelfCommandsComplete_0 : ∃ (s : State) (u : State) (m : SouthIn) (sh : Share) (v : State), m.opcode = 0x01 ∧ s.takeMessage m = (u, true) ∧ m.announceOk = true ∧ u.awlServes = true ∧ u.share (beAt m.payload 40 32) (slice m.payload 72 1568) = (sh, v) := by
  refine ⟨zRun, ((zRun).takeMessage ((zSouth zAssoc 1 0 0 ([0, 0, 0, 1] ++ List.replicate 1636 0) 2))).1, (zSouth zAssoc 1 0 0 ([0, 0, 0, 1] ++ List.replicate 1636 0) 2), ((((zRun).takeMessage ((zSouth zAssoc 1 0 0 ([0, 0, 0, 1] ++ List.replicate 1636 0) 2))).1).share (beAt ((zSouth zAssoc 1 0 0 ([0, 0, 0, 1] ++ List.replicate 1636 0) 2)).payload 40 32) (slice ((zSouth zAssoc 1 0 0 ([0, 0, 0, 1] ++ List.replicate 1636 0) 2)).payload 72 1568)).1, ((((zRun).takeMessage ((zSouth zAssoc 1 0 0 ([0, 0, 0, 1] ++ List.replicate 1636 0) 2))).1).share (beAt ((zSouth zAssoc 1 0 0 ([0, 0, 0, 1] ++ List.replicate 1636 0) 2)).payload 40 32) (slice ((zSouth zAssoc 1 0 0 ([0, 0, 0, 1] ++ List.replicate 1636 0) 2)).payload 72 1568)).2, ?_, ?_, ?_, ?_, ?_⟩
  · exact (by decide +kernel)
  · exact zSnd (by decide +kernel)
  · exact (by decide +kernel)
  · exact (by decide +kernel)
  · exact zEta _

theorem test_meets_ShelfCommandsComplete_1 : ∃ (s u v : State) (m : SouthIn) (a : Assoc) (segs : List (Nat × List Byte)), s.acceptOn (m.shelf + 64) m 0x03 = (u, true) ∧ u.assoc (m.shelf + 64) = some a ∧ segs = authSegments a.auth m.word m.last m.payload ∧ v = u.setAssoc (m.shelf + 64) { a with auth := segs } ∧ authMessage segs = none := by
  refine ⟨zRun, _, _, zSouth zAssoc 3 0 0 [7] 1, ((zBrought zRun ((zSouth zAssoc 3 0 0 [7] 1).shelf + 64) (zSouth zAssoc 3 0 0 [7] 1) true).assoc 64).get (by decide +kernel), _, zBrings zAssoc, (Option.some_get _).symm, rfl, rfl, by decide +kernel⟩

theorem test_meets_ShelfCommandsComplete_2 : ∃ (s u v : State) (m : SouthIn) (a : Assoc) (segs : List (Nat × List Byte)) (msg : List Byte), s.acceptOn (m.shelf + 64) m 0x03 = (u, true) ∧ u.assoc (m.shelf + 64) = some a ∧ segs = authSegments a.auth m.word m.last m.payload ∧ v = u.setAssoc (m.shelf + 64) { a with auth := segs } ∧ authMessage segs = some msg :=
  ⟨zRun, _, _, zSouth zAssoc 3 0 0 [7], ((zBrought zRun ((zSouth zAssoc 3 0 0 [7]).shelf + 64) (zSouth zAssoc 3 0 0 [7]) true).assoc 64).get (by decide +kernel), _, [7], zBrings zAssoc, (Option.some_get _).symm, rfl, rfl, by decide +kernel⟩

theorem test_meets_ShelfCommandsComplete_3 : ∃ (s : State) (u : State) (m : SouthIn) (a : Assoc), s.acceptSouth m 0x04 = (u, true) ∧ u.assoc m.shelf = some a ∧ m.payload = [] ∧ m.word = a.keyGen + 1 :=
  ⟨zRun, zBrought ((zRun)) 0 (zSouth zAssoc 0x04 0 1) true, (zSouth zAssoc 0x04 0 1), ((zBrought ((zRun)) 0 (zSouth zAssoc 0x04 0 1) true).assoc ((zSouth zAssoc 0x04 0 1)).shelf).get (by decide +kernel), zBrings zAssoc, (Option.some_get _).symm, (by decide +kernel), (by decide +kernel)⟩

theorem test_meets_ShelfCommandsComplete_4 : ∃ (s u : State) (m : SouthIn), s.acceptOn (s.southLink m) m 0x05 = (u, true) :=
  ⟨(zA zAssoc), _, zSouth zAssoc 5, zBrings zAssoc⟩

theorem test_meets_ShelfCommandsComplete_5 : ∃ (s : State) (a : Assoc) (h : Nat), tget s.south.pendingAssoc h = some a :=
  ⟨zFull, (tget (zFull).south.pendingAssoc (0)).get (by decide), 0, (Option.some_get _).symm⟩

theorem test_meets_ShelfCommandsComplete_6 : ∃ (s : State) (u : State) (m : SouthIn) (a : Assoc) (rate : Nat) (p : Path), s.acceptSouth m 0x07 = (u, true) ∧ m.payload = [] ∧ rate = m.word ∧ u.assoc m.shelf = some a ∧ tget a.paths m.path = some p :=
  ⟨zFull, zBrought ((zFull)) 0 (zSouth zAssoc 0x07) true, (zSouth zAssoc 0x07), ((zBrought ((zFull)) 0 (zSouth zAssoc 0x07) true).assoc ((zSouth zAssoc 0x07)).shelf).get (by decide), ((zSouth zAssoc 0x07)).word, (tget (((zBrought ((zFull)) 0 (zSouth zAssoc 0x07) true).assoc ((zSouth zAssoc 0x07)).shelf).get (by decide)).paths ((zSouth zAssoc 0x07)).path).get (by decide), zBrings zAssoc, (by decide), rfl, (Option.some_get _).symm, (Option.some_get _).symm⟩

theorem test_meets_ShelfCommandsComplete_7 : ∃ (s : State) (m : SouthIn) (a : Assoc) (p : Path), s.assoc m.shelf = some a ∧ tget a.paths m.path = some p ∧ p.failed = true ∧ p.probeAcked = true :=
  ⟨(zA { zAssoc with paths := [(0, { zPath with failed := true, probeAcked := true })] }), (zSouth zAssoc 1), (((zA { zAssoc with paths := [(0, { zPath with failed := true, probeAcked := true })] })).assoc ((zSouth zAssoc 1)).shelf).get (by decide +kernel), (tget ((((zA { zAssoc with paths := [(0, { zPath with failed := true, probeAcked := true })] })).assoc ((zSouth zAssoc 1)).shelf).get (by decide +kernel)).paths ((zSouth zAssoc 1)).path).get (by decide +kernel), (Option.some_get _).symm, (Option.some_get _).symm, (by decide +kernel), (by decide +kernel)⟩

theorem test_meets_ShelfCommandsComplete_8 : ∃ (s u : State) (m : SouthIn) (a : Assoc), s.acceptOn (s.southLink m) m 0x10 false = (u, true) ∧ u.assoc (s.southLink m) = some a ∧ (∀ delay first gaps, ackPayload m.payload = some (delay, first, gaps) → ackedRanges m.word first gaps = none) :=
  ⟨(zA zAssoc), _, zSouth zAssoc 0x10, zAssoc, zBrings zAssoc, by decide +kernel, fun _ _ _ h => nomatch h⟩

theorem test_meets_ShelfCommandsComplete_9 : ∃ (s u : State) (m : SouthIn) (a : Assoc) (delay first : Nat) (gaps rs : List (Nat × Nat)), s.acceptOn (s.southLink m) m 0x10 false = (u, true) ∧ u.assoc (s.southLink m) = some a ∧ ackPayload m.payload = some (delay, first, gaps) ∧ ackedRanges m.word first gaps = some rs ∧ a.sent.all (fun f => inRanges f.1 rs) = true :=
  ⟨(zA zAssoc), _, zSouth zAssoc 0x10 0 0 (List.replicate 11 0 ++ [1]), zAssoc, 0, 1, [], _, zBrings zAssoc, by decide +kernel, by decide +kernel, rfl, by decide +kernel⟩

theorem test_meets_ShelfCommandsComplete_10 : ∃ (s : State) (a : Assoc) (h : Nat) (seq : Nat) (f : SouthMsg) (p : Path), s.assoc h = some a ∧ tget a.sent seq = some f ∧ tget a.paths f.path = some p ∧ p.expiries = 0 :=
  ⟨(zA { zAssoc with sent := [(0, zMsg)], paths := [(0, zPath)] }), (((zA { zAssoc with sent := [(0, zMsg)], paths := [(0, zPath)] })).assoc (0)).get (by decide +kernel), 0, 0, (tget ((((zA { zAssoc with sent := [(0, zMsg)], paths := [(0, zPath)] })).assoc (0)).get (by decide +kernel)).sent (0)).get (by decide +kernel), (tget ((((zA { zAssoc with sent := [(0, zMsg)], paths := [(0, zPath)] })).assoc (0)).get (by decide +kernel)).paths ((tget ((((zA { zAssoc with sent := [(0, zMsg)], paths := [(0, zPath)] })).assoc (0)).get (by decide +kernel)).sent (0)).get (by decide +kernel)).path).get (by decide +kernel), (Option.some_get _).symm, (Option.some_get _).symm, (Option.some_get _).symm, (by decide +kernel)⟩

theorem test_meets_ShelfCommandsComplete_11 : ∃ (s : State) (u : State) (m : SouthIn) (a : Assoc) (limit : Nat), s.acceptSouth m 0x11 = (u, true) ∧ m.payload = [] ∧ limit = m.word ∧ u.assoc m.shelf = some a ∧ a.limit ≤ limit :=
  ⟨zRun, zBrought ((zRun)) 0 (zSouth zAssoc 0x11 0 (2 ^ 40)) true, (zSouth zAssoc 0x11 0 (2 ^ 40)), ((zBrought ((zRun)) 0 (zSouth zAssoc 0x11 0 (2 ^ 40)) true).assoc ((zSouth zAssoc 0x11 0 (2 ^ 40))).shelf).get (by decide +kernel), ((zSouth zAssoc 0x11 0 (2 ^ 40))).word, zBrings zAssoc, (by decide +kernel), rfl, (Option.some_get _).symm, (by decide +kernel)⟩

theorem test_meets_ShelfCommandsComplete_12 : ∃ (s : State) (u : State) (m : SouthIn) (a : Assoc), s.acceptSouth m 0x41 = (u, true) ∧ u.assoc m.shelf = some a ∧ m.len = 8 ∧ beAt m.payload 0 4 = 3 * 2 ^ 24 ∧ beAt m.payload 4 4 = 0 ∧ (u.shelf m.shelf).pstate = .waking :=
  ⟨(zRun.updShepherd (fun q => { q with shelves := [(0, { pstate := .waking })] })), zBrought (((zRun.updShepherd (fun q => { q with shelves := [(0, { pstate := .waking })] })))) 0 (zSouth zAssoc 0x41 0 0 (beBytes 4 (3 * 2 ^ 24) ++ beBytes 4 0)) true, (zSouth zAssoc 0x41 0 0 (beBytes 4 (3 * 2 ^ 24) ++ beBytes 4 0)), ((zBrought (((zRun.updShepherd (fun q => { q with shelves := [(0, { pstate := .waking })] })))) 0 (zSouth zAssoc 0x41 0 0 (beBytes 4 (3 * 2 ^ 24) ++ beBytes 4 0)) true).assoc ((zSouth zAssoc 0x41 0 0 (beBytes 4 (3 * 2 ^ 24) ++ beBytes 4 0))).shelf).get (by decide +kernel), zBrings zAssoc, (Option.some_get _).symm, (by decide +kernel), (by decide +kernel), (by decide +kernel), (by decide +kernel)⟩

theorem test_meets_ShelfCommandsComplete_13 : ∃ (s : State) (u : State) (m : SouthIn) (a : Assoc) (ms : Nat), s.acceptSouth m 0x41 = (u, true) ∧ u.assoc m.shelf = some a ∧ m.len = 8 ∧ beAt m.payload 0 4 = 2 * 2 ^ 24 ∧ beAt m.payload 4 4 = ms ∧ (u.shelf m.shelf).pstate = .waking :=
  ⟨(zRun.updShepherd (fun q => { q with shelves := [(0, { pstate := .waking })] })), zBrought (((zRun.updShepherd (fun q => { q with shelves := [(0, { pstate := .waking })] })))) 0 (zSouth zAssoc 0x41 0 0 (beBytes 4 (2 * 2 ^ 24) ++ beBytes 4 7)) true, (zSouth zAssoc 0x41 0 0 (beBytes 4 (2 * 2 ^ 24) ++ beBytes 4 7)), ((zBrought (((zRun.updShepherd (fun q => { q with shelves := [(0, { pstate := .waking })] })))) 0 (zSouth zAssoc 0x41 0 0 (beBytes 4 (2 * 2 ^ 24) ++ beBytes 4 7)) true).assoc ((zSouth zAssoc 0x41 0 0 (beBytes 4 (2 * 2 ^ 24) ++ beBytes 4 7))).shelf).get (by decide +kernel), 7, zBrings zAssoc, (Option.some_get _).symm, (by decide +kernel), (by decide +kernel), (by decide +kernel), (by decide +kernel)⟩

theorem test_meets_ShelfCommandsComplete_14 : ∃ (s : State) (u : State) (m : SouthIn), s.acceptSouth m 0x41 = (u, true) ∧ m.len = 8 ∧ beAt m.payload 0 4 = 3 * 2 ^ 24 ∧ beAt m.payload 4 4 = 0 ∧ (u.shelf m.shelf).pstate = .absent :=
  ⟨(zRun.updShepherd (fun q => { q with shelves := [(0, { pstate := .absent })] })), zBrought (((zRun.updShepherd (fun q => { q with shelves := [(0, { pstate := .absent })] })))) 0 (zSouth zAssoc 0x41 0 0 (beBytes 4 (3 * 2 ^ 24) ++ beBytes 4 0)) true, (zSouth zAssoc 0x41 0 0 (beBytes 4 (3 * 2 ^ 24) ++ beBytes 4 0)), zBrings zAssoc, (by decide +kernel), (by decide +kernel), (by decide +kernel), (by decide +kernel)⟩

theorem test_meets_ShelfCommandsComplete_15 : ∃ (s : State) (u : State) (m : SouthIn) (es : List ReportEntry), s.acceptSouth m 0x42 = (u, true) ∧ reportEntries m.payload = some es :=
  ⟨zRun, zBrought ((zRun)) 0 (zSouth zAssoc 0x42 0 0 (List.replicate 8 0)) true, (zSouth zAssoc 0x42 0 0 (List.replicate 8 0)), (reportEntries ((zSouth zAssoc 0x42 0 0 (List.replicate 8 0))).payload).get (by decide +kernel), zBrings zAssoc, (Option.some_get _).symm⟩

theorem test_meets_ShelfCommandsComplete_16 : ∃ (s : State) (u : State) (m : SouthIn) (o : PutOwner) (f : Fragment), s.acceptSouth m 0x22 = (u, true) ∧ m.len = 40 ∧ beAt m.payload 4 4 = 0 ∧ u.putOwner m.shelf m.xid = o ∧ u.ownedFrag o = some f :=
  ⟨(zF { zFrag with phase := .sent }), zBrought (((zF { zFrag with phase := .sent }))) 0 (zSouth zAssoc 0x22 0 0 (List.replicate 40 0)) true, (zSouth zAssoc 0x22 0 0 (List.replicate 40 0)), (zBrought (((zF { zFrag with phase := .sent }))) 0 (zSouth zAssoc 0x22 0 0 (List.replicate 40 0)) true).putOwner ((zSouth zAssoc 0x22 0 0 (List.replicate 40 0))).shelf ((zSouth zAssoc 0x22 0 0 (List.replicate 40 0))).xid, ((zBrought (((zF { zFrag with phase := .sent }))) 0 (zSouth zAssoc 0x22 0 0 (List.replicate 40 0)) true).ownedFrag ((zBrought (((zF { zFrag with phase := .sent }))) 0 (zSouth zAssoc 0x22 0 0 (List.replicate 40 0)) true).putOwner ((zSouth zAssoc 0x22 0 0 (List.replicate 40 0))).shelf ((zSouth zAssoc 0x22 0 0 (List.replicate 40 0))).xid)).get (by decide +kernel), zBrings zAssoc, (by decide +kernel), (by decide +kernel), rfl, (Option.some_get _).symm⟩

theorem test_meets_ShelfCommandsComplete_17 : ∃ (s : State) (h : Nat) (xid : Nat) (f : Fragment), s.ownedFrag (s.putOwner h xid) = some f ∧ f.timeouts = 0 :=
  ⟨(zF { zFrag with phase := .sent }), 0, 0, (((zF { zFrag with phase := .sent })).ownedFrag (((zF { zFrag with phase := .sent })).putOwner (0) (0))).get (by decide +kernel), (Option.some_get _).symm, (by decide +kernel)⟩

theorem test_meets_ShelfCommandsComplete_18 : ∃ (s : State) (h : Nat) (xid : Nat) (f : Fragment), s.ownedFrag (s.putOwner h xid) = some f ∧ f.timeouts = 1 :=
  ⟨(zF { zFrag with phase := .sent, timeouts := 1 }), 0, 0, (((zF { zFrag with phase := .sent, timeouts := 1 })).ownedFrag (((zF { zFrag with phase := .sent, timeouts := 1 })).putOwner (0) (0))).get (by decide +kernel), (Option.some_get _).symm, (by decide +kernel)⟩

theorem test_meets_ShelfCommandsComplete_19 : ∃ (s : State) (kind : Nat) (num : Nat) (c : Catalogue), tget s.south.catalogue (catKey kind num) = some c ∧ s.safe = false :=
  ⟨zFull, 0, 0, (tget (zFull).south.catalogue (catKey (0) (0))).get (by decide), (Option.some_get _).symm, (by decide)⟩

theorem test_meets_ShelfCommandsComplete_20 : ∃ (s : State) (kind : Nat) (num : Nat) (c : Catalogue), tget s.south.catalogue (catKey kind num) = some c ∧ s.safe = false ∧ c.waiting = true :=
  ⟨(zRun.updSouth (fun q => { q with catalogue := [(catKey 0 0, { zCat with waiting := true })] })), 0, 0, (tget ((zRun.updSouth (fun q => { q with catalogue := [(catKey 0 0, { zCat with waiting := true })] }))).south.catalogue (catKey (0) (0))).get (by decide +kernel), (Option.some_get _).symm, (by decide +kernel), (by decide +kernel)⟩

/-! Hypotheses of KeyBusAndKeySlotCommandsComplete. -/

theorem test_meets_KeyBusAndKeySlotCommandsComplete_0 : ∃ (s : State) (unit : Nat) (ctx : Nat) (x : StitchCtx) (i : JobInfo) (k : KeySlot), tget s.stitch.ctxs (ctxKey unit ctx) = some x ∧ x.pipes = none ∧ ctx < 3 ∧ s.safe = false ∧ s.jobInfo x.job = some i ∧ s.slot i.slot = some k ∧ dkAllowed k i.obj i.epoch = true :=
  ⟨((zK 256).updQueue (fun q => { q with extents := [(0, { zExt with slot := 1 })] })), 0, 0, (tget (((zK 256).updQueue (fun q => { q with extents := [(0, { zExt with slot := 1 })] }))).stitch.ctxs (ctxKey (0) (0))).get (by decide +kernel), ((((zK 256).updQueue (fun q => { q with extents := [(0, { zExt with slot := 1 })] }))).jobInfo ((tget (((zK 256).updQueue (fun q => { q with extents := [(0, { zExt with slot := 1 })] }))).stitch.ctxs (ctxKey (0) (0))).get (by decide +kernel)).job).get (by decide +kernel), ((((zK 256).updQueue (fun q => { q with extents := [(0, { zExt with slot := 1 })] }))).slot (((((zK 256).updQueue (fun q => { q with extents := [(0, { zExt with slot := 1 })] }))).jobInfo ((tget (((zK 256).updQueue (fun q => { q with extents := [(0, { zExt with slot := 1 })] }))).stitch.ctxs (ctxKey (0) (0))).get (by decide +kernel)).job).get (by decide +kernel)).slot).get (by decide +kernel), (Option.some_get _).symm, (by decide +kernel), (by decide +kernel), (by decide +kernel), (Option.some_get _).symm, (Option.some_get _).symm, (by decide +kernel)⟩

theorem test_meets_KeyBusAndKeySlotCommandsComplete_1 : ∃ (s : State) (unit : Nat) (ctx : Nat) (x : StitchCtx) (i : JobInfo) (k : KeySlot), tget s.stitch.ctxs (ctxKey unit ctx) = some x ∧ x.pipes = none ∧ ctx < 3 ∧ s.safe = false ∧ s.jobInfo x.job = some i ∧ s.slot i.slot = some k ∧ dkAllowed k i.obj i.epoch = false :=
  ⟨((zK 0).updQueue (fun q => { q with extents := [(0, { zExt with slot := 1 })] })), 0, 0, (tget (((zK 0).updQueue (fun q => { q with extents := [(0, { zExt with slot := 1 })] }))).stitch.ctxs (ctxKey (0) (0))).get (by decide +kernel), ((((zK 0).updQueue (fun q => { q with extents := [(0, { zExt with slot := 1 })] }))).jobInfo ((tget (((zK 0).updQueue (fun q => { q with extents := [(0, { zExt with slot := 1 })] }))).stitch.ctxs (ctxKey (0) (0))).get (by decide +kernel)).job).get (by decide +kernel), ((((zK 0).updQueue (fun q => { q with extents := [(0, { zExt with slot := 1 })] }))).slot (((((zK 0).updQueue (fun q => { q with extents := [(0, { zExt with slot := 1 })] }))).jobInfo ((tget (((zK 0).updQueue (fun q => { q with extents := [(0, { zExt with slot := 1 })] }))).stitch.ctxs (ctxKey (0) (0))).get (by decide +kernel)).job).get (by decide +kernel)).slot).get (by decide +kernel), (Option.some_get _).symm, (by decide +kernel), (by decide +kernel), (by decide +kernel), (Option.some_get _).symm, (Option.some_get _).symm, (by decide +kernel)⟩

theorem test_meets_KeyBusAndKeySlotCommandsComplete_2 : ∃ (s : State) (unit : Nat) (ctx : Nat) (x : StitchCtx) (i : JobInfo), tget s.stitch.ctxs (ctxKey unit ctx) = some x ∧ x.pipes = none ∧ ctx < 3 ∧ s.safe = false ∧ s.jobInfo x.job = some i ∧ s.slot i.slot = none :=
  ⟨zFull, 0, 0, (tget (zFull).stitch.ctxs (ctxKey (0) (0))).get (by decide), ((zFull).jobInfo ((tget (zFull).stitch.ctxs (ctxKey (0) (0))).get (by decide)).job).get (by decide), (Option.some_get _).symm, (by decide), (by decide), (by decide), (Option.some_get _).symm, (by decide)⟩

theorem test_meets_KeyBusAndKeySlotCommandsComplete_3 : ∃ (s : State) (unit : Nat) (slot : Nat) (v : Nat), slot < 65536 ∧ s.safe = false ∧ s.keyLoad (.awl unit) slot = .ok v :=
  ⟨(zK 1024), 0, 1, okOf (((zK 1024)).keyLoad (.awl (0)) (1)) 0, (by decide +kernel), (by decide +kernel), okOf_eq (by decide +kernel)⟩

theorem test_meets_KeyBusAndKeySlotCommandsComplete_4 : ∃ (s : State) (unit : Nat) (slot : Nat) (e : Nat), slot < 65536 ∧ s.safe = false ∧ s.keyLoad (.sponge unit) slot = .error e :=
  ⟨(zK 0), 0, 1, 2, (by decide +kernel), (by decide +kernel), rfl⟩

theorem test_meets_KeyBusAndKeySlotCommandsComplete_5 : ∃ (s : State) (slot : Nat), s.safe = false ∧ s.keyStoreOk slot = true :=
  ⟨zRun, 0x100, (by decide +kernel), (by decide +kernel)⟩

theorem test_meets_KeyBusAndKeySlotCommandsComplete_6 : ∃ (s : State) (slot : Nat), s.safe = false ∧ s.keyStoreOk slot = false :=
  ⟨State.reset, 0, (by decide), (by decide)⟩

theorem test_meets_KeyBusAndKeySlotCommandsComplete_7 : ∃ (s : State) (ns : Nat) (epoch : Nat) (v : State), s.resolveSlot ns epoch = none ∧ s.keyed = true ∧ s.loadNamespace ns epoch = some v :=
  ⟨(zRun.updKeys (fun q => { q with store := [(0, { zKr with epoch := 7, gen := 1 })] })), 0, 7, (((zRun.updKeys (fun q => { q with store := [(0, { zKr with epoch := 7, gen := 1 })] }))).loadNamespace (0) (7)).get (by decide +kernel), (by decide +kernel), (by decide +kernel), (Option.some_get _).symm⟩

theorem test_meets_KeyBusAndKeySlotCommandsComplete_8 : ∃ (s : State) (bank : Nat), tget s.keys.lostMacros bank = none :=
  ⟨State.reset, 0, (by decide)⟩

theorem test_meets_KeyBusAndKeySlotCommandsComplete_9 : ∃ (s : State) (bank : Nat) (ram : Nat) (other : Nat), tget s.keys.lostMacros bank = some [other] ∧ ram ≠ other :=
  ⟨(zRun.updKeys (fun q => { q with lostMacros := [(0, [1])] })), 0, 0, 1, (by decide +kernel), (by decide +kernel)⟩

theorem test_meets_KeyBusAndKeySlotCommandsComplete_10 : ∃ (s : State) (source : Nat), source < 4 ∧ bitOf (s.rd Reg.TRNG_STATUS.SRC_OK) source = true :=
  ⟨(zRun.wr Reg.TRNG_STATUS.SRC_OK 15), 0, (by decide +kernel), (by decide +kernel)⟩

theorem test_meets_KeyBusAndKeySlotCommandsComplete_11 : ∃ (s : State), s.drbgOk = true :=
  ⟨State.reset, (by decide)⟩

theorem test_meets_KeyBusAndKeySlotCommandsComplete_12 : ∃ (s : State) (v : State) (a : Nat), v.dstRefused = none ∧ a = v.rd Reg.SDB_ATTR.ATTR ∧ v = s.wr Reg.SDB_CMD.OP 0x01 ∧ v.drbgOk = true ∧ attrLegal a = true :=
  ⟨(zRun.wr Reg.SDB_SLOTS.DST 5), ((zRun.wr Reg.SDB_SLOTS.DST 5)).wr Reg.SDB_CMD.OP 0x01, (((zRun.wr Reg.SDB_SLOTS.DST 5)).wr Reg.SDB_CMD.OP 0x01).rd Reg.SDB_ATTR.ATTR, (by decide +kernel), rfl, rfl, (by decide +kernel), (by decide +kernel)⟩

theorem test_meets_KeyBusAndKeySlotCommandsComplete_13 : ∃ (s : State) (v : State) (a : Nat) (key : List Byte), v.dstRefused = none ∧ a = v.rd Reg.SDB_ATTR.ATTR ∧ v = s.wr Reg.SDB_CMD.OP 0x02 ∧ v.deriveKey = .ok key ∧ attrLegal a = true ∧ v.rd Reg.SDB_LEN.LEN + v.rd Reg.SDB_LEN.SLEN ≤ 2048 :=
  ⟨((zK 2048).wr Reg.SDB_SLOTS.DST 5), (((zK 2048).wr Reg.SDB_SLOTS.DST 5)).wr Reg.SDB_CMD.OP 0x02, ((((zK 2048).wr Reg.SDB_SLOTS.DST 5)).wr Reg.SDB_CMD.OP 0x02).rd Reg.SDB_ATTR.ATTR, okOf (((((zK 2048).wr Reg.SDB_SLOTS.DST 5)).wr Reg.SDB_CMD.OP 0x02).deriveKey) [], (by decide +kernel), rfl, rfl, okOf_eq (by decide +kernel), (by decide +kernel), (by decide +kernel)⟩

theorem test_meets_KeyBusAndKeySlotCommandsComplete_14 : ∃ (s : State) (v : State) (a : Nat) (r : KeyRecord), v.dstRefused = none ∧ a = v.rd Reg.SDB_ATTR.ATTR ∧ v = s.wr Reg.SDB_CMD.OP 0x04 ∧ tget v.keys.store (ofLe (v.sdbWin 0 8)) = some r ∧ v.wrapKey r = some r.under :=
  ⟨((zRun.wr Reg.SDB_SLOTS.DST 5).updKeys (fun q => { q with store := [(0, { zKr with gen := 1 })] })), (((zRun.wr Reg.SDB_SLOTS.DST 5).updKeys (fun q => { q with store := [(0, { zKr with gen := 1 })] }))).wr Reg.SDB_CMD.OP 0x04, ((((zRun.wr Reg.SDB_SLOTS.DST 5).updKeys (fun q => { q with store := [(0, { zKr with gen := 1 })] }))).wr Reg.SDB_CMD.OP 0x04).rd Reg.SDB_ATTR.ATTR, (tget ((((zRun.wr Reg.SDB_SLOTS.DST 5).updKeys (fun q => { q with store := [(0, { zKr with gen := 1 })] }))).wr Reg.SDB_CMD.OP 0x04).keys.store (ofLe (((((zRun.wr Reg.SDB_SLOTS.DST 5).updKeys (fun q => { q with store := [(0, { zKr with gen := 1 })] }))).wr Reg.SDB_CMD.OP 0x04).sdbWin 0 8))).get (by decide +kernel), (by decide +kernel), rfl, rfl, (Option.some_get _).symm, (by decide +kernel)⟩

/-! Hypotheses of KeyAndCustodyUnitCommandsComplete. -/

theorem test_meets_KeyAndCustodyUnitCommandsComplete_0 : ∃ (s : State) (v : State), v = s.wr Reg.SDB_CMD.OP 0x03 :=
  ⟨State.reset, (State.reset).wr Reg.SDB_CMD.OP 0x03, rfl⟩

theorem test_meets_KeyAndCustodyUnitCommandsComplete_1 : ∃ (s : State) (v : State) (k : KeySlot), v = s.wr Reg.SDB_CMD.OP 0x05 ∧ v.slot v.dst = some k :=
  ⟨(zK 0), ((zK 0)).wr Reg.SDB_CMD.OP 0x05, ((((zK 0)).wr Reg.SDB_CMD.OP 0x05).slot (((zK 0)).wr Reg.SDB_CMD.OP 0x05).dst).get (by decide +kernel), rfl, (Option.some_get _).symm⟩

theorem test_meets_KeyAndCustodyUnitCommandsComplete_2 : ∃ (s : State) (v : State) (k : KeySlot), v = s.wr Reg.SDB_CMD.OP 0x06 ∧ v.slot v.dst = some k ∧ attrLocked k.attr = false ∧ attrChange k.attr (withBit (v.rd Reg.SDB_ATTR.ATTR) 0) = true :=
  ⟨(zK 1), ((zK 1)).wr Reg.SDB_CMD.OP 0x06, ((((zK 1)).wr Reg.SDB_CMD.OP 0x06).slot (((zK 1)).wr Reg.SDB_CMD.OP 0x06).dst).get (by decide +kernel), rfl, (Option.some_get _).symm, (by decide +kernel), (by decide +kernel)⟩

theorem test_meets_KeyAndCustodyUnitCommandsComplete_3 : ∃ (s : State) (v : State) (k : KeySlot), v = s.wr Reg.SDB_CMD.OP 0x06 ∧ v.slot v.dst = some k ∧ attrLocked k.attr = true :=
  ⟨(zK 8), ((zK 8)).wr Reg.SDB_CMD.OP 0x06, ((((zK 8)).wr Reg.SDB_CMD.OP 0x06).slot (((zK 8)).wr Reg.SDB_CMD.OP 0x06).dst).get (by decide +kernel), rfl, (Option.some_get _).symm, (by decide +kernel)⟩

theorem test_meets_KeyAndCustodyUnitCommandsComplete_4 : ∃ (s : State) (v : State) (k : KeySlot) (key : Nat) (n : Nat) (ct : List Byte) (tag : Nat), v = s.wr Reg.SDB_CMD.OP 0x07 ∧ v.slot v.dst = some k ∧ v.gcmKey = .ok key ∧ n = v.rd Reg.SDB_LEN.LEN ∧ 12 ≤ n ∧ n ≤ 2000 ∧ gcmSeal key (ofBe (v.sdbWin 0 12)) (v.sdbWin 12 (n - 12)) (beBytes 32 k.value) = (ct, tag) :=
  ⟨((zK 4096).wr Reg.SDB_LEN.LEN 12), (((zK 4096).wr Reg.SDB_LEN.LEN 12)).wr Reg.SDB_CMD.OP 0x07, (((((zK 4096).wr Reg.SDB_LEN.LEN 12)).wr Reg.SDB_CMD.OP 0x07).slot ((((zK 4096).wr Reg.SDB_LEN.LEN 12)).wr Reg.SDB_CMD.OP 0x07).dst).get (by decide +kernel), okOf (((((zK 4096).wr Reg.SDB_LEN.LEN 12)).wr Reg.SDB_CMD.OP 0x07).gcmKey) 0, ((((zK 4096).wr Reg.SDB_LEN.LEN 12)).wr Reg.SDB_CMD.OP 0x07).rd Reg.SDB_LEN.LEN, (gcmSeal (okOf (((((zK 4096).wr Reg.SDB_LEN.LEN 12)).wr Reg.SDB_CMD.OP 0x07).gcmKey) 0) (ofBe (((((zK 4096).wr Reg.SDB_LEN.LEN 12)).wr Reg.SDB_CMD.OP 0x07).sdbWin 0 12)) (((((zK 4096).wr Reg.SDB_LEN.LEN 12)).wr Reg.SDB_CMD.OP 0x07).sdbWin 12 ((((((zK 4096).wr Reg.SDB_LEN.LEN 12)).wr Reg.SDB_CMD.OP 0x07).rd Reg.SDB_LEN.LEN) - 12)) (beBytes 32 ((((((zK 4096).wr Reg.SDB_LEN.LEN 12)).wr Reg.SDB_CMD.OP 0x07).slot ((((zK 4096).wr Reg.SDB_LEN.LEN 12)).wr Reg.SDB_CMD.OP 0x07).dst).get (by decide +kernel)).value)).1, (gcmSeal (okOf (((((zK 4096).wr Reg.SDB_LEN.LEN 12)).wr Reg.SDB_CMD.OP 0x07).gcmKey) 0) (ofBe (((((zK 4096).wr Reg.SDB_LEN.LEN 12)).wr Reg.SDB_CMD.OP 0x07).sdbWin 0 12)) (((((zK 4096).wr Reg.SDB_LEN.LEN 12)).wr Reg.SDB_CMD.OP 0x07).sdbWin 12 ((((((zK 4096).wr Reg.SDB_LEN.LEN 12)).wr Reg.SDB_CMD.OP 0x07).rd Reg.SDB_LEN.LEN) - 12)) (beBytes 32 ((((((zK 4096).wr Reg.SDB_LEN.LEN 12)).wr Reg.SDB_CMD.OP 0x07).slot ((((zK 4096).wr Reg.SDB_LEN.LEN 12)).wr Reg.SDB_CMD.OP 0x07).dst).get (by decide +kernel)).value)).2, rfl, (Option.some_get _).symm, okOf_eq (by decide +kernel), rfl, (by decide +kernel), (by decide +kernel), Prod.ext rfl rfl⟩

theorem test_meets_KeyAndCustodyUnitCommandsComplete_5 : ∃ (s : State) (v : State), v = s.wr Reg.SDB_CMD.OP 0x10 ∧ v.inCustody [.enroll, .vaultRotate] = true ∧ v.drbgOk = true :=
  ⟨zFull, (zFull).wr Reg.SDB_CMD.OP 0x10, rfl, (by decide), (by decide)⟩

theorem test_meets_KeyAndCustodyUnitCommandsComplete_6 : ∃ (s : State) (v : State), v = s.wr Reg.SDB_CMD.OP 0x10 ∧ v.inCustody [.enroll, .vaultRotate] = false :=
  ⟨State.reset, (State.reset).wr Reg.SDB_CMD.OP 0x10, rfl, (by decide)⟩

theorem test_meets_KeyAndCustodyUnitCommandsComplete_7 : ∃ (s : State) (v : State) (w : State) (b : VaultBank) (t0 : Nat) (n : Nat) (shares : List (List Byte)), v = s.wr Reg.SDB_CMD.OP 0x11 ∧ v.inCustody [.escrowCreate, .vaultRotate] = true ∧ v.sharedVault = some b ∧ t0 = ofLe (v.sdbWin 0 1) ∧ n = ofLe (v.sdbWin 1 1) ∧ 2 ≤ t0 ∧ t0 ≤ n ∧ n ≤ 16 ∧ v.drbgOk = true ∧ ((List.range n).all (fun i => v.keyStoreOk (v.dst + i)) = true) ∧ v.split b.key t0 n = (shares, w) :=
  ⟨((zRun.updKeys (fun q => { q with custody := some { zCust with kind := .escrowCreate } })).wr Reg.SDB_SLOTS.DST 0x100).wr (Reg.SDB_WIN.DATA.nth 0) 0x0202, (((zRun.updKeys (fun q => { q with custody := some { zCust with kind := .escrowCreate } })).wr Reg.SDB_SLOTS.DST 0x100).wr (Reg.SDB_WIN.DATA.nth 0) 0x0202).wr Reg.SDB_CMD.OP 0x11, (((((zRun.updKeys (fun q => { q with custody := some { zCust with kind := .escrowCreate } })).wr Reg.SDB_SLOTS.DST 0x100).wr (Reg.SDB_WIN.DATA.nth 0) 0x0202).wr Reg.SDB_CMD.OP 0x11).split ((((((zRun.updKeys (fun q => { q with custody := some { zCust with kind := .escrowCreate } })).wr Reg.SDB_SLOTS.DST 0x100).wr (Reg.SDB_WIN.DATA.nth 0) 0x0202).wr Reg.SDB_CMD.OP 0x11).sharedVault).get (by decide +kernel)).key (ofLe (((((zRun.updKeys (fun q => { q with custody := some { zCust with kind := .escrowCreate } })).wr Reg.SDB_SLOTS.DST 0x100).wr (Reg.SDB_WIN.DATA.nth 0) 0x0202).wr Reg.SDB_CMD.OP 0x11).sdbWin 0 1)) (ofLe (((((zRun.updKeys (fun q => { q with custody := some { zCust with kind := .escrowCreate } })).wr Reg.SDB_SLOTS.DST 0x100).wr (Reg.SDB_WIN.DATA.nth 0) 0x0202).wr Reg.SDB_CMD.OP 0x11).sdbWin 1 1))).2, (((((zRun.updKeys (fun q => { q with custody := some { zCust with kind := .escrowCreate } })).wr Reg.SDB_SLOTS.DST 0x100).wr (Reg.SDB_WIN.DATA.nth 0) 0x0202).wr Reg.SDB_CMD.OP 0x11).sharedVault).get (by decide +kernel), ofLe (((((zRun.updKeys (fun q => { q with custody := some { zCust with kind := .escrowCreate } })).wr Reg.SDB_SLOTS.DST 0x100).wr (Reg.SDB_WIN.DATA.nth 0) 0x0202).wr Reg.SDB_CMD.OP 0x11).sdbWin 0 1), ofLe (((((zRun.updKeys (fun q => { q with custody := some { zCust with kind := .escrowCreate } })).wr Reg.SDB_SLOTS.DST 0x100).wr (Reg.SDB_WIN.DATA.nth 0) 0x0202).wr Reg.SDB_CMD.OP 0x11).sdbWin 1 1), (((((zRun.updKeys (fun q => { q with custody := some { zCust with kind := .escrowCreate } })).wr Reg.SDB_SLOTS.DST 0x100).wr (Reg.SDB_WIN.DATA.nth 0) 0x0202).wr Reg.SDB_CMD.OP 0x11).split ((((((zRun.updKeys (fun q => { q with custody := some { zCust with kind := .escrowCreate } })).wr Reg.SDB_SLOTS.DST 0x100).wr (Reg.SDB_WIN.DATA.nth 0) 0x0202).wr Reg.SDB_CMD.OP 0x11).sharedVault).get (by decide +kernel)).key (ofLe (((((zRun.updKeys (fun q => { q with custody := some { zCust with kind := .escrowCreate } })).wr Reg.SDB_SLOTS.DST 0x100).wr (Reg.SDB_WIN.DATA.nth 0) 0x0202).wr Reg.SDB_CMD.OP 0x11).sdbWin 0 1)) (ofLe (((((zRun.updKeys (fun q => { q with custody := some { zCust with kind := .escrowCreate } })).wr Reg.SDB_SLOTS.DST 0x100).wr (Reg.SDB_WIN.DATA.nth 0) 0x0202).wr Reg.SDB_CMD.OP 0x11).sdbWin 1 1))).1, rfl, (by decide +kernel), (Option.some_get _).symm, rfl, rfl, (by decide +kernel), (by decide +kernel), (by decide +kernel), (by decide +kernel), (by decide +kernel), Prod.ext rfl rfl⟩

theorem test_meets_KeyAndCustodyUnitCommandsComplete_8 : ∃ (s : State) (v : State) (k : KeySlot) (e : EscrowSet) (ks : List KeySlot), v = s.wr Reg.SDB_CMD.OP 0x12 ∧ v.inCustody [.vaultRestore] = true ∧ v.custodySet = some e ∧ ((List.range e.t).map (fun i => v.slot (v.src + i)) = ks.map some) ∧ (ks.all (fun k => attrKind k.attr == 7) = true) :=
  ⟨(zRun.updKeys (fun q => { q with custody := some { zCust with kind := .vaultRestore }, live := some zEs })), ((zRun.updKeys (fun q => { q with custody := some { zCust with kind := .vaultRestore }, live := some zEs }))).wr Reg.SDB_CMD.OP 0x12, { value := 0, attr := 0 }, zEs, [], rfl, (by decide +kernel), (by decide +kernel), (by decide +kernel), (by decide +kernel)⟩

theorem test_meets_KeyAndCustodyUnitCommandsComplete_9 : ∃ (s : State) (v : State) (b : VaultBank) (e : EscrowSet), v = s.wr Reg.SDB_CMD.OP 0x13 ∧ v.inCustody [.vaultRotate] = true ∧ v.inactiveBank = some b ∧ v.keys.pendingSet = some e ∧ e.gen = b.gen ∧ v.rewrapped b = true :=
  ⟨(zRun.updKeys (fun q => { q with custody := some { zCust with kind := .vaultRotate }, pendingSet := some { zEs with gen := 2 }, bankB := some { key := 0, gen := 2 } })), ((zRun.updKeys (fun q => { q with custody := some { zCust with kind := .vaultRotate }, pendingSet := some { zEs with gen := 2 }, bankB := some { key := 0, gen := 2 } }))).wr Reg.SDB_CMD.OP 0x13, ((((zRun.updKeys (fun q => { q with custody := some { zCust with kind := .vaultRotate }, pendingSet := some { zEs with gen := 2 }, bankB := some { key := 0, gen := 2 } }))).wr Reg.SDB_CMD.OP 0x13).inactiveBank).get (by decide +kernel), ((((zRun.updKeys (fun q => { q with custody := some { zCust with kind := .vaultRotate }, pendingSet := some { zEs with gen := 2 }, bankB := some { key := 0, gen := 2 } }))).wr Reg.SDB_CMD.OP 0x13).keys.pendingSet).get (by decide +kernel), rfl, (by decide +kernel), (Option.some_get _).symm, (Option.some_get _).symm, (by decide +kernel), (by decide +kernel)⟩

theorem test_meets_KeyAndCustodyUnitCommandsComplete_10 : ∃ (s : State) (v : State) (k : KeySlot), v = s.wr Reg.SDB_CMD.OP 0x14 ∧ v.slot v.dst = some k :=
  ⟨(zK 0), ((zK 0)).wr Reg.SDB_CMD.OP 0x14, ((((zK 0)).wr Reg.SDB_CMD.OP 0x14).slot (((zK 0)).wr Reg.SDB_CMD.OP 0x14).dst).get (by decide +kernel), rfl, (Option.some_get _).symm⟩

/-! Hypotheses of ArithmeticAwlCommandsComplete. -/

theorem test_meets_ArithmeticAwlCommandsComplete_0 : ∃ (s : State) (u : Nat) (n : Nat) (p : Nat) (a : Nat) (b : Nat) (j : AwlJob), n = j.desc.nwords ∧ p = leOperand j.input (8 * n) 0 ∧ a = leOperand j.input (8 * n) 1 ∧ b = leOperand j.input (8 * n) 2 ∧ s.awlJob u 0x01 = some j ∧ modulusOk n p = true ∧ a < p ∧ b < p :=
  ⟨(zJ 1 (leBytes 8 3)), 0, ({ zJob with desc := { zDesc with opcode := 1 }, input := (leBytes 8 3) }).desc.nwords, leOperand ({ zJob with desc := { zDesc with opcode := 1 }, input := (leBytes 8 3) }).input (8 * (({ zJob with desc := { zDesc with opcode := 1 }, input := (leBytes 8 3) }).desc.nwords)) 0, leOperand ({ zJob with desc := { zDesc with opcode := 1 }, input := (leBytes 8 3) }).input (8 * (({ zJob with desc := { zDesc with opcode := 1 }, input := (leBytes 8 3) }).desc.nwords)) 1, leOperand ({ zJob with desc := { zDesc with opcode := 1 }, input := (leBytes 8 3) }).input (8 * (({ zJob with desc := { zDesc with opcode := 1 }, input := (leBytes 8 3) }).desc.nwords)) 2, { zJob with desc := { zDesc with opcode := 1 }, input := (leBytes 8 3) }, rfl, rfl, rfl, rfl, (by decide +kernel), (by decide +kernel), (by decide +kernel), (by decide +kernel)⟩

theorem test_meets_ArithmeticAwlCommandsComplete_1 : ∃ (s : State) (u : Nat) (n : Nat) (p : Nat) (a : Nat) (b : Nat) (j : AwlJob), n = j.desc.nwords ∧ p = leOperand j.input (8 * n) 0 ∧ a = leOperand j.input (8 * n) 1 ∧ b = leOperand j.input (8 * n) 2 ∧ s.awlJob u 0x02 = some j ∧ modulusOk n p = true ∧ a < p ∧ b < p :=
  ⟨(zJ 2 (leBytes 8 3)), 0, ({ zJob with desc := { zDesc with opcode := 2 }, input := (leBytes 8 3) }).desc.nwords, leOperand ({ zJob with desc := { zDesc with opcode := 2 }, input := (leBytes 8 3) }).input (8 * (({ zJob with desc := { zDesc with opcode := 2 }, input := (leBytes 8 3) }).desc.nwords)) 0, leOperand ({ zJob with desc := { zDesc with opcode := 2 }, input := (leBytes 8 3) }).input (8 * (({ zJob with desc := { zDesc with opcode := 2 }, input := (leBytes 8 3) }).desc.nwords)) 1, leOperand ({ zJob with desc := { zDesc with opcode := 2 }, input := (leBytes 8 3) }).input (8 * (({ zJob with desc := { zDesc with opcode := 2 }, input := (leBytes 8 3) }).desc.nwords)) 2, { zJob with desc := { zDesc with opcode := 2 }, input := (leBytes 8 3) }, rfl, rfl, rfl, rfl, (by decide +kernel), (by decide +kernel), (by decide +kernel), (by decide +kernel)⟩

theorem test_meets_ArithmeticAwlCommandsComplete_2 : ∃ (s : State) (u : Nat) (n : Nat) (p : Nat) (a : Nat) (b : Nat) (j : AwlJob), n = j.desc.nwords ∧ p = leOperand j.input (8 * n) 0 ∧ a = leOperand j.input (8 * n) 1 ∧ b = leOperand j.input (8 * n) 2 ∧ s.awlJob u 0x03 = some j ∧ modulusOk n p = true ∧ a < p ∧ b < p :=
  ⟨(zJ 3 (leBytes 8 3)), 0, ({ zJob with desc := { zDesc with opcode := 3 }, input := (leBytes 8 3) }).desc.nwords, leOperand ({ zJob with desc := { zDesc with opcode := 3 }, input := (leBytes 8 3) }).input (8 * (({ zJob with desc := { zDesc with opcode := 3 }, input := (leBytes 8 3) }).desc.nwords)) 0, leOperand ({ zJob with desc := { zDesc with opcode := 3 }, input := (leBytes 8 3) }).input (8 * (({ zJob with desc := { zDesc with opcode := 3 }, input := (leBytes 8 3) }).desc.nwords)) 1, leOperand ({ zJob with desc := { zDesc with opcode := 3 }, input := (leBytes 8 3) }).input (8 * (({ zJob with desc := { zDesc with opcode := 3 }, input := (leBytes 8 3) }).desc.nwords)) 2, { zJob with desc := { zDesc with opcode := 3 }, input := (leBytes 8 3) }, rfl, rfl, rfl, rfl, (by decide +kernel), (by decide +kernel), (by decide +kernel), (by decide +kernel)⟩

theorem test_meets_ArithmeticAwlCommandsComplete_3 : ∃ (s : State) (u : Nat) (n : Nat) (p : Nat) (a : Nat) (b : Nat) (j : AwlJob), n = j.desc.nwords ∧ p = leOperand j.input (8 * n) 0 ∧ a = leOperand j.input (8 * n) 1 ∧ b = leOperand j.input (8 * n) 2 ∧ s.awlJob u 0x04 = some j ∧ modulusOk n p = true ∧ a < p :=
  ⟨(zJ 4 (leBytes 8 3)), 0, ({ zJob with desc := { zDesc with opcode := 4 }, input := (leBytes 8 3) }).desc.nwords, leOperand ({ zJob with desc := { zDesc with opcode := 4 }, input := (leBytes 8 3) }).input (8 * (({ zJob with desc := { zDesc with opcode := 4 }, input := (leBytes 8 3) }).desc.nwords)) 0, leOperand ({ zJob with desc := { zDesc with opcode := 4 }, input := (leBytes 8 3) }).input (8 * (({ zJob with desc := { zDesc with opcode := 4 }, input := (leBytes 8 3) }).desc.nwords)) 1, leOperand ({ zJob with desc := { zDesc with opcode := 4 }, input := (leBytes 8 3) }).input (8 * (({ zJob with desc := { zDesc with opcode := 4 }, input := (leBytes 8 3) }).desc.nwords)) 2, { zJob with desc := { zDesc with opcode := 4 }, input := (leBytes 8 3) }, rfl, rfl, rfl, rfl, (by decide +kernel), (by decide +kernel), (by decide +kernel)⟩

theorem test_meets_ArithmeticAwlCommandsComplete_4 : ∃ (s : State) (u : Nat) (n : Nat) (p : Nat) (a : Nat) (b : Nat) (j : AwlJob), n = j.desc.nwords ∧ p = leOperand j.input (8 * n) 0 ∧ a = leOperand j.input (8 * n) 1 ∧ b = leOperand j.input (8 * n) 2 ∧ s.awlJob u 0x05 = some j ∧ modulusOk n p = true ∧ a < p ∧ a ≠ 0 ∧ Nat.gcd a p = 1 :=
  ⟨(zJ 5 (leBytes 8 3 ++ leBytes 8 1)), 0, ({ zJob with desc := { zDesc with opcode := 5 }, input := (leBytes 8 3 ++ leBytes 8 1) }).desc.nwords, leOperand ({ zJob with desc := { zDesc with opcode := 5 }, input := (leBytes 8 3 ++ leBytes 8 1) }).input (8 * (({ zJob with desc := { zDesc with opcode := 5 }, input := (leBytes 8 3 ++ leBytes 8 1) }).desc.nwords)) 0, leOperand ({ zJob with desc := { zDesc with opcode := 5 }, input := (leBytes 8 3 ++ leBytes 8 1) }).input (8 * (({ zJob with desc := { zDesc with opcode := 5 }, input := (leBytes 8 3 ++ leBytes 8 1) }).desc.nwords)) 1, leOperand ({ zJob with desc := { zDesc with opcode := 5 }, input := (leBytes 8 3 ++ leBytes 8 1) }).input (8 * (({ zJob with desc := { zDesc with opcode := 5 }, input := (leBytes 8 3 ++ leBytes 8 1) }).desc.nwords)) 2, { zJob with desc := { zDesc with opcode := 5 }, input := (leBytes 8 3 ++ leBytes 8 1) }, rfl, rfl, rfl, rfl, (by decide +kernel), (by decide +kernel), (by decide +kernel), (by decide +kernel), (by decide +kernel)⟩

theorem test_meets_ArithmeticAwlCommandsComplete_5 : ∃ (s : State) (u : Nat) (n : Nat) (p : Nat) (a : Nat) (b : Nat) (j : AwlJob), n = j.desc.nwords ∧ p = leOperand j.input (8 * n) 0 ∧ a = leOperand j.input (8 * n) 1 ∧ b = leOperand j.input (8 * n) 2 ∧ s.awlJob u 0x06 = some j ∧ modulusOk n p = true ∧ leField j.input (8 * n) (16 * n) < p * 2 ^ (64 * n) :=
  ⟨(zJ 6 (leBytes 8 3)), 0, ({ zJob with desc := { zDesc with opcode := 6 }, input := (leBytes 8 3) }).desc.nwords, leOperand ({ zJob with desc := { zDesc with opcode := 6 }, input := (leBytes 8 3) }).input (8 * (({ zJob with desc := { zDesc with opcode := 6 }, input := (leBytes 8 3) }).desc.nwords)) 0, leOperand ({ zJob with desc := { zDesc with opcode := 6 }, input := (leBytes 8 3) }).input (8 * (({ zJob with desc := { zDesc with opcode := 6 }, input := (leBytes 8 3) }).desc.nwords)) 1, leOperand ({ zJob with desc := { zDesc with opcode := 6 }, input := (leBytes 8 3) }).input (8 * (({ zJob with desc := { zDesc with opcode := 6 }, input := (leBytes 8 3) }).desc.nwords)) 2, { zJob with desc := { zDesc with opcode := 6 }, input := (leBytes 8 3) }, rfl, rfl, rfl, rfl, (by decide +kernel), (by decide +kernel), (by decide +kernel)⟩

theorem test_meets_ArithmeticAwlCommandsComplete_6 : ∃ (s : State) (u : Nat) (n : Nat) (p : Nat) (a : Nat) (b : Nat) (j : AwlJob), n = j.desc.nwords ∧ p = leOperand j.input (8 * n) 0 ∧ a = leOperand j.input (8 * n) 1 ∧ b = leOperand j.input (8 * n) 2 ∧ s.awlJob u 0x07 = some j :=
  ⟨(zJ 7), 0, ({ zJob with desc := { zDesc with opcode := 7 }, input := [] }).desc.nwords, leOperand ({ zJob with desc := { zDesc with opcode := 7 }, input := [] }).input (8 * (({ zJob with desc := { zDesc with opcode := 7 }, input := [] }).desc.nwords)) 0, leOperand ({ zJob with desc := { zDesc with opcode := 7 }, input := [] }).input (8 * (({ zJob with desc := { zDesc with opcode := 7 }, input := [] }).desc.nwords)) 1, leOperand ({ zJob with desc := { zDesc with opcode := 7 }, input := [] }).input (8 * (({ zJob with desc := { zDesc with opcode := 7 }, input := [] }).desc.nwords)) 2, { zJob with desc := { zDesc with opcode := 7 }, input := [] }, rfl, rfl, rfl, rfl, (by decide +kernel)⟩

theorem test_meets_ArithmeticAwlCommandsComplete_7 : ∃ (s : State) (u : Nat) (n : Nat) (p : Nat) (a : Nat) (b : Nat) (j : AwlJob), n = j.desc.nwords ∧ p = leOperand j.input (8 * n) 0 ∧ a = leOperand j.input (8 * n) 1 ∧ b = leOperand j.input (8 * n) 2 ∧ s.awlJob u 0x01 = some j ∧ modulusOk n p = false :=
  ⟨zFull, 0, (((zFull).awlJob (0) 0x01).get (by decide)).desc.nwords, leOperand (((zFull).awlJob (0) 0x01).get (by decide)).input (8 * ((((zFull).awlJob (0) 0x01).get (by decide)).desc.nwords)) 0, leOperand (((zFull).awlJob (0) 0x01).get (by decide)).input (8 * ((((zFull).awlJob (0) 0x01).get (by decide)).desc.nwords)) 1, leOperand (((zFull).awlJob (0) 0x01).get (by decide)).input (8 * ((((zFull).awlJob (0) 0x01).get (by decide)).desc.nwords)) 2, ((zFull).awlJob (0) 0x01).get (by decide), rfl, rfl, rfl, rfl, (Option.some_get _).symm, (by decide)⟩

theorem test_meets_ArithmeticAwlCommandsComplete_8 : ∃ (s : State) (u : Nat) (j : AwlJob) (p : List Nat) (q : List Nat) (r : List Nat), p = polyAt j.input 0 ∧ q = polyAt j.input 1 ∧ r = polyAt j.input 2 ∧ s.awlJob u 0x10 = some j ∧ (p.all (fun c => decide (c < ringQ j.desc.param)) = true) :=
  ⟨(zJ 16), 0, { zJob with desc := { zDesc with opcode := 16 } }, polyAt ({ zJob with desc := { zDesc with opcode := 16 } }).input 0, polyAt ({ zJob with desc := { zDesc with opcode := 16 } }).input 1, polyAt ({ zJob with desc := { zDesc with opcode := 16 } }).input 2, rfl, rfl, rfl, (by decide +kernel), (by decide +kernel)⟩

theorem test_meets_ArithmeticAwlCommandsComplete_9 : ∃ (s : State) (u : Nat) (j : AwlJob) (p : List Nat) (q : List Nat) (r : List Nat), p = polyAt j.input 0 ∧ q = polyAt j.input 1 ∧ r = polyAt j.input 2 ∧ s.awlJob u 0x11 = some j ∧ (p.all (fun c => decide (c < ringQ j.desc.param)) = true) :=
  ⟨(zJ 17), 0, { zJob with desc := { zDesc with opcode := 17 } }, polyAt ({ zJob with desc := { zDesc with opcode := 17 } }).input 0, polyAt ({ zJob with desc := { zDesc with opcode := 17 } }).input 1, polyAt ({ zJob with desc := { zDesc with opcode := 17 } }).input 2, rfl, rfl, rfl, (by decide +kernel), (by decide +kernel)⟩

theorem test_meets_ArithmeticAwlCommandsComplete_10 : ∃ (s : State) (u : Nat) (j : AwlJob) (p : List Nat) (q : List Nat) (r : List Nat), p = polyAt j.input 0 ∧ q = polyAt j.input 1 ∧ r = polyAt j.input 2 ∧ s.awlJob u 0x12 = some j ∧ ([p, q, r].all (fun p => p.all (fun c => decide (c < ringQ j.desc.param))) = true) :=
  ⟨(zJ 18), 0, { zJob with desc := { zDesc with opcode := 18 } }, polyAt ({ zJob with desc := { zDesc with opcode := 18 } }).input 0, polyAt ({ zJob with desc := { zDesc with opcode := 18 } }).input 1, polyAt ({ zJob with desc := { zDesc with opcode := 18 } }).input 2, rfl, rfl, rfl, (by decide +kernel), (by decide +kernel)⟩

theorem test_meets_ArithmeticAwlCommandsComplete_11 : ∃ (s : State) (u : Nat) (j : AwlJob) (p : List Nat) (q : List Nat) (r : List Nat), p = polyAt j.input 0 ∧ q = polyAt j.input 1 ∧ r = polyAt j.input 2 ∧ s.awlJob u 0x20 = some j :=
  ⟨(zJ 32), 0, { zJob with desc := { zDesc with opcode := 32 } }, polyAt ({ zJob with desc := { zDesc with opcode := 32 } }).input 0, polyAt ({ zJob with desc := { zDesc with opcode := 32 } }).input 1, polyAt ({ zJob with desc := { zDesc with opcode := 32 } }).input 2, rfl, rfl, rfl, (by decide +kernel)⟩

theorem test_meets_ArithmeticAwlCommandsComplete_12 : ∃ (s : State) (u : Nat) (j : AwlJob) (p : List Nat) (q : List Nat) (r : List Nat), p = polyAt j.input 0 ∧ q = polyAt j.input 1 ∧ r = polyAt j.input 2 ∧ s.awlJob u 0x23 = some j :=
  ⟨(zJ 35), 0, { zJob with desc := { zDesc with opcode := 35 } }, polyAt ({ zJob with desc := { zDesc with opcode := 35 } }).input 0, polyAt ({ zJob with desc := { zDesc with opcode := 35 } }).input 1, polyAt ({ zJob with desc := { zDesc with opcode := 35 } }).input 2, rfl, rfl, rfl, (by decide +kernel)⟩

theorem test_meets_ArithmeticAwlCommandsComplete_13 : ∃ (s : State) (u : Nat) (j : AwlJob) (p : List Nat) (q : List Nat) (r : List Nat), p = polyAt j.input 0 ∧ q = polyAt j.input 1 ∧ r = polyAt j.input 2 ∧ s.awlJob u 0x24 = some j :=
  ⟨(zJ 36), 0, { zJob with desc := { zDesc with opcode := 36 } }, polyAt ({ zJob with desc := { zDesc with opcode := 36 } }).input 0, polyAt ({ zJob with desc := { zDesc with opcode := 36 } }).input 1, polyAt ({ zJob with desc := { zDesc with opcode := 36 } }).input 2, rfl, rfl, rfl, (by decide +kernel)⟩

theorem test_meets_ArithmeticAwlCommandsComplete_14 : ∃ (s : State) (u : Nat) (j : AwlJob) (p : List Nat) (q : List Nat) (r : List Nat), p = polyAt j.input 0 ∧ q = polyAt j.input 1 ∧ r = polyAt j.input 2 ∧ s.awlJob u 0x3A = some j :=
  ⟨(zJ 58), 0, { zJob with desc := { zDesc with opcode := 58 } }, polyAt ({ zJob with desc := { zDesc with opcode := 58 } }).input 0, polyAt ({ zJob with desc := { zDesc with opcode := 58 } }).input 1, polyAt ({ zJob with desc := { zDesc with opcode := 58 } }).input 2, rfl, rfl, rfl, (by decide +kernel)⟩

theorem test_meets_ArithmeticAwlCommandsComplete_15 : ∃ (s : State) (u : Nat) (j : AwlJob) (p : List Nat) (q : List Nat) (r : List Nat) (v : State) (x : Nat), p = polyAt j.input 0 ∧ q = polyAt j.input 1 ∧ r = polyAt j.input 2 ∧ s.draw 256 = (x, v) ∧ s.awlJob u 0x25 = some j :=
  ⟨(zJ 37), 0, { zJob with desc := { zDesc with opcode := 37 } }, polyAt ({ zJob with desc := { zDesc with opcode := 37 } }).input 0, polyAt ({ zJob with desc := { zDesc with opcode := 37 } }).input 1, polyAt ({ zJob with desc := { zDesc with opcode := 37 } }).input 2, (((zJ 37)).draw 256).2, (((zJ 37)).draw 256).1, rfl, rfl, rfl, Prod.ext rfl rfl, (by decide +kernel)⟩

theorem test_meets_ArithmeticAwlCommandsComplete_16 : ∃ (s : State) (u : Nat) (j : AwlJob) (p : List Nat) (q : List Nat) (r : List Nat) (v : State) (x : Nat), p = polyAt j.input 0 ∧ q = polyAt j.input 1 ∧ r = polyAt j.input 2 ∧ s.draw 256 = (x, v) ∧ s.awlJob u 0x30 = some j :=
  ⟨(zJ 48), 0, { zJob with desc := { zDesc with opcode := 48 } }, polyAt ({ zJob with desc := { zDesc with opcode := 48 } }).input 0, polyAt ({ zJob with desc := { zDesc with opcode := 48 } }).input 1, polyAt ({ zJob with desc := { zDesc with opcode := 48 } }).input 2, (((zJ 48)).draw 256).2, (((zJ 48)).draw 256).1, rfl, rfl, rfl, Prod.ext rfl rfl, (by decide +kernel)⟩

theorem test_meets_ArithmeticAwlCommandsComplete_17 : ∃ (s : State) (u : Nat) (j : AwlJob) (p : List Nat) (q : List Nat) (r : List Nat) (v : State) (x : Nat), p = polyAt j.input 0 ∧ q = polyAt j.input 1 ∧ r = polyAt j.input 2 ∧ s.draw 256 = (x, v) ∧ s.awlJob u 0x31 = some j :=
  ⟨(zJ 0x31), 0, { zJob with desc := { zDesc with opcode := 0x31 } }, polyAt ({ zJob with desc := { zDesc with opcode := 0x31 } }).input 0, polyAt ({ zJob with desc := { zDesc with opcode := 0x31 } }).input 1, polyAt ({ zJob with desc := { zDesc with opcode := 0x31 } }).input 2, (((zJ 0x31)).draw 256).2, (((zJ 0x31)).draw 256).1, rfl, rfl, rfl, Prod.ext rfl rfl, (by decide +kernel)⟩

/-! Hypotheses of PrivateKeyAwlCommandsComplete. -/

theorem test_meets_PrivateKeyAwlCommandsComplete_0 : ∃ (s : State) (u : Nat) (seed : Nat) (j : AwlJob) (laid : State → List Byte → State), s.awlSecret u j.desc = .ok seed ∧ (∀ (v : State) (scalar : List Byte), laid v scalar = (v.layOperand u opSecret (beBytes 32 (seed % 2 ^ 256))).layOperand u 512 scalar) ∧ s.awlJob u 0x21 = some j :=
  ⟨((zK 1104).updAwl (fun q => { q with runs := [(0, .job { zJob with desc := { zDesc with opcode := 33, srcSlot := 1 } } .running)] })), 0, 0, { zJob with desc := { zDesc with opcode := 33, srcSlot := 1 } }, (fun (v : State) (scalar : List Byte) => (v.layOperand 0 opSecret (beBytes 32 (0 % 2 ^ 256))).layOperand 0 512 scalar), rfl, fun _ _ => rfl, (by decide +kernel)⟩

theorem test_meets_PrivateKeyAwlCommandsComplete_1 : ∃ (s : State) (u : Nat) (seed : Nat) (j : AwlJob) (laid : State → List Byte → State), s.awlSecret u j.desc = .ok seed ∧ (∀ (v : State) (scalar : List Byte), laid v scalar = (v.layOperand u opSecret (beBytes 32 (seed % 2 ^ 256))).layOperand u 512 scalar) ∧ s.awlJob u 0x26 = some j :=
  ⟨((zK 1120).updAwl (fun q => { q with runs := [(0, .job { zJob with desc := { zDesc with opcode := 38, srcSlot := 1 } } .running)] })), 0, 0, { zJob with desc := { zDesc with opcode := 38, srcSlot := 1 } }, (fun (v : State) (scalar : List Byte) => (v.layOperand 0 opSecret (beBytes 32 (0 % 2 ^ 256))).layOperand 0 512 scalar), rfl, fun _ _ => rfl, (by decide +kernel)⟩

theorem test_meets_PrivateKeyAwlCommandsComplete_2 : ∃ (s : State) (u : Nat) (seed : Nat) (j : AwlJob) (laid : State → List Byte → State), s.awlSecret u j.desc = .ok seed ∧ (∀ (v : State) (scalar : List Byte), laid v scalar = (v.layOperand u opSecret (beBytes 32 (seed % 2 ^ 256))).layOperand u 512 scalar) ∧ s.awlJob u 0x32 = some j :=
  ⟨((zK 1152).updAwl (fun q => { q with runs := [(0, .job { zJob with desc := { zDesc with opcode := 50, srcSlot := 1 } } .running)] })), 0, 0, { zJob with desc := { zDesc with opcode := 50, srcSlot := 1 } }, (fun (v : State) (scalar : List Byte) => (v.layOperand 0 opSecret (beBytes 32 (0 % 2 ^ 256))).layOperand 0 512 scalar), rfl, fun _ _ => rfl, (by decide +kernel)⟩

theorem test_meets_PrivateKeyAwlCommandsComplete_3 : ∃ (s : State) (u : Nat) (seed : Nat) (j : AwlJob) (laid : State → List Byte → State), s.awlSecret u j.desc = .ok seed ∧ (∀ (v : State) (scalar : List Byte), laid v scalar = (v.layOperand u opSecret (beBytes 32 (seed % 2 ^ 256))).layOperand u 512 scalar) ∧ s.awlJob u 0x38 = some j :=
  ⟨((zK 1104).updAwl (fun q => { q with runs := [(0, .job { zJob with desc := { zDesc with opcode := 56, srcSlot := 1 } } .running)] })), 0, 0, { zJob with desc := { zDesc with opcode := 56, srcSlot := 1 } }, (fun (v : State) (scalar : List Byte) => (v.layOperand 0 opSecret (beBytes 32 (0 % 2 ^ 256))).layOperand 0 512 scalar), rfl, fun _ _ => rfl, (by decide +kernel)⟩

theorem test_meets_PrivateKeyAwlCommandsComplete_4 : ∃ (s : State) (u : Nat) (seed : Nat) (j : AwlJob) (laid : State → List Byte → State) (v : State) (x : Nat) (r : AwlResult), s.awlSecret u j.desc = .ok seed ∧ (∀ (v : State) (scalar : List Byte), laid v scalar = (v.layOperand u opSecret (beBytes 32 (seed % 2 ^ 256))).layOperand u 512 scalar) ∧ s.draw 256 = (x, v) ∧ s.awlJob u 0x22 = some j ∧ r = ecdsaSignOp j seed (x % 2 ^ 256) :=
  ⟨((zK 1104).updAwl (fun q => { q with runs := [(0, .job { zJob with desc := { zDesc with opcode := 34, srcSlot := 1 } } .running)] })), 0, 0, { zJob with desc := { zDesc with opcode := 34, srcSlot := 1 } }, (fun (v : State) (scalar : List Byte) => (v.layOperand 0 opSecret (beBytes 32 (0 % 2 ^ 256))).layOperand 0 512 scalar), ((((zK 1104).updAwl (fun q => { q with runs := [(0, .job { zJob with desc := { zDesc with opcode := 34, srcSlot := 1 } } .running)] }))).draw 256).2, ((((zK 1104).updAwl (fun q => { q with runs := [(0, .job { zJob with desc := { zDesc with opcode := 34, srcSlot := 1 } } .running)] }))).draw 256).1, ecdsaSignOp ({ zJob with desc := { zDesc with opcode := 34, srcSlot := 1 } }) (0) ((((((zK 1104).updAwl (fun q => { q with runs := [(0, .job { zJob with desc := { zDesc with opcode := 34, srcSlot := 1 } } .running)] }))).draw 256).1) % 2 ^ 256), rfl, fun _ _ => rfl, Prod.ext rfl rfl, (by decide +kernel), rfl⟩

theorem test_meets_PrivateKeyAwlCommandsComplete_5 : ∃ (s : State) (u : Nat) (seed : Nat) (j : AwlJob) (laid : State → List Byte → State) (v : State) (x : Nat) (r : AwlResult), s.awlSecret u j.desc = .ok seed ∧ (∀ (v : State) (scalar : List Byte), laid v scalar = (v.layOperand u opSecret (beBytes 32 (seed % 2 ^ 256))).layOperand u 512 scalar) ∧ s.draw 256 = (x, v) ∧ s.awlJob u 0x39 = some j ∧ r = mldsaSignOp j seed (x % 2 ^ 256) :=
  ⟨((zK 1104).updAwl (fun q => { q with runs := [(0, .job { zJob with desc := { zDesc with opcode := 57, srcSlot := 1 } } .running)] })), 0, 0, { zJob with desc := { zDesc with opcode := 57, srcSlot := 1 } }, (fun (v : State) (scalar : List Byte) => (v.layOperand 0 opSecret (beBytes 32 (0 % 2 ^ 256))).layOperand 0 512 scalar), ((((zK 1104).updAwl (fun q => { q with runs := [(0, .job { zJob with desc := { zDesc with opcode := 57, srcSlot := 1 } } .running)] }))).draw 256).2, ((((zK 1104).updAwl (fun q => { q with runs := [(0, .job { zJob with desc := { zDesc with opcode := 57, srcSlot := 1 } } .running)] }))).draw 256).1, mldsaSignOp ({ zJob with desc := { zDesc with opcode := 57, srcSlot := 1 } }) (0) ((((((zK 1104).updAwl (fun q => { q with runs := [(0, .job { zJob with desc := { zDesc with opcode := 57, srcSlot := 1 } } .running)] }))).draw 256).1) % 2 ^ 256), rfl, fun _ _ => rfl, Prod.ext rfl rfl, (by decide +kernel), rfl⟩

/-! Hypotheses of AwlControlCommandsComplete. -/

theorem test_meets_AwlControlCommandsComplete_0 : ∃ (n : Nat), n < 4096 :=
  ⟨0, (by decide)⟩

theorem test_meets_AwlControlCommandsComplete_1 : ∃ (s : State), s.awl.runs = [] ∧ s.awl.fetched = [] :=
  ⟨State.reset, (by decide), (by decide)⟩

theorem test_meets_AwlControlCommandsComplete_2 : ∃ (s : State) (u : Nat) (j : AwlJob), s.awl.runs = [] ∧ s.awl.fetched = [j] ∧ bitOf j.desc.flags 1 = false ∧ j.failed = [] ∧ (awlUnits.find? (fun u => s.awlCandidate u) = some u) ∧ s.awlHealthy u = true :=
  ⟨(zRun.updAwl (fun q => { q with runs := [], fetched := [zJob] })), 0, zJob, (by decide +kernel), (by decide +kernel), (by decide +kernel), (by decide +kernel), (by decide +kernel), (by decide +kernel)⟩

theorem test_meets_AwlControlCommandsComplete_3 : ∃ (s : State) (u : Nat) (j : AwlJob) (r : AwlResult) (r' : AwlResult) (same : Bool) (late : Bool) (v : State) (n : Nat), tget s.awl.runs u = some (.job j (.done r same late)) ∧ s.deliver u j r = (v, r', n) :=
  ⟨(zRun.updAwl (fun q => { q with runs := [(0, .job zJob (.done zRes false false))] })), 0, zJob, zRes, zRes, false, false, (zRun.updAwl (fun q => { q with runs := [(0, .job zJob (.done zRes false false))] })), 0, (by decide +kernel), rfl⟩

theorem test_meets_AwlControlCommandsComplete_4 : ∃ (s : State), 0 < s.awl.irqs ∧ s.awl.irqs < s.rd Reg.AWL_CTRL.COAL_N :=
  ⟨((zRun.updAwl (fun q => { q with irqs := 1 })).wr Reg.AWL_CTRL.COAL_N 16), (by decide +kernel), (by decide +kernel)⟩

theorem test_meets_AwlControlCommandsComplete_5 : ∃ (s : State) (i : Nat) (v : State), i < 4096 ∧ v = s.wr Reg.AWL_ABORT.INDEX i ∧ v.abortable i = true :=
  ⟨((zRun.updAwl (fun q => { q with runs := [], fetched := [zJob] })).wr Reg.AWL_RING_TAIL.TAIL 1), 0, (((zRun.updAwl (fun q => { q with runs := [], fetched := [zJob] })).wr Reg.AWL_RING_TAIL.TAIL 1)).wr Reg.AWL_ABORT.INDEX (0), (by decide +kernel), rfl, (by decide +kernel)⟩

theorem test_meets_AwlControlCommandsComplete_6 : ∃ (s : State) (i : Nat) (v : State), i < 4096 ∧ v = s.wr Reg.AWL_ABORT.INDEX i ∧ v.abortable i = false :=
  ⟨State.reset, 0, (State.reset).wr Reg.AWL_ABORT.INDEX (0), (by decide), rfl, (by decide)⟩

theorem test_meets_AwlControlCommandsComplete_7 : ∃ (s : State) (u : Nat), u < 16 ∧ s.awlState u = stBusy :=
  ⟨(zRun.setAwl 0 stBusy), 0, (by decide +kernel), (by decide +kernel)⟩

theorem test_meets_AwlControlCommandsComplete_8 : ∃ (s : State) (u : Nat), u < 16 ∧ s.awlState u = stQuarantined :=
  ⟨(zRun.setAwl 0 stQuarantined), 0, (by decide +kernel), (by decide +kernel)⟩

theorem test_meets_AwlControlCommandsComplete_9 : ∃ (s : State) (u : Nat), tget s.awl.tests u = some .startup :=
  ⟨zFull, 0, (by decide)⟩

/-! Hypotheses of AccessTableCommandsComplete. -/

theorem test_meets_AccessTableCommandsComplete_0 : ∃ (s : State) (v : State) (p : Nat) (i : Nat) (n : Nat) (w : World) (user : Bool), i < entryCount n ∧ v = ((s.wr Reg.AT_CMD.INDEX i).wr Reg.AT_CMD.TARGET n).wr Reg.AT_CMD.ERR 0 ∧ s.forbidden (tableWrite p w user 0) = none :=
  ⟨zRun, (((zRun).wr Reg.AT_CMD.INDEX (0)).wr Reg.AT_CMD.TARGET (2)).wr Reg.AT_CMD.ERR 0, 0, 0, 2, World.keeper, false, (by decide +kernel), rfl, (by decide +kernel)⟩

theorem test_meets_AccessTableCommandsComplete_1 : ∃ (s : State) (v : State) (p : Nat) (i : Nat) (n : Nat) (w : World) (user : Bool), i < entryCount n ∧ v = ((s.wr Reg.AT_CMD.INDEX i).wr Reg.AT_CMD.TARGET n).wr Reg.AT_CMD.ERR 0 ∧ s.forbidden (tableWrite p w user 0) = none ∧ (s.activeEntry n i).locked n = false :=
  ⟨zRun, (((zRun).wr Reg.AT_CMD.INDEX (0)).wr Reg.AT_CMD.TARGET (2)).wr Reg.AT_CMD.ERR 0, 0, 0, 2, World.keeper, false, (by decide +kernel), rfl, (by decide +kernel), (by decide +kernel)⟩

theorem test_meets_AccessTableCommandsComplete_2 : ∃ (s : State) (v : State) (p : Nat) (i : Nat) (n : Nat) (w : World) (user : Bool), i < entryCount n ∧ v = ((s.wr Reg.AT_CMD.INDEX i).wr Reg.AT_CMD.TARGET n).wr Reg.AT_CMD.ERR 0 ∧ s.forbidden (tableWrite p w user 0) = none ∧ (s.activeEntry n i).locked n = true :=
  ⟨(zRun.updGuards (fun g => { g with active := [(1024, { w0 := 2 ^ 41, w1 := 0 })] })), ((((zRun.updGuards (fun g => { g with active := [(1024, { w0 := 2 ^ 41, w1 := 0 })] }))).wr Reg.AT_CMD.INDEX (0)).wr Reg.AT_CMD.TARGET (2)).wr Reg.AT_CMD.ERR 0, 0, 0, 2, World.keeper, false, (by decide +kernel), rfl, (by decide +kernel), (by decide +kernel)⟩

theorem test_meets_AccessTableCommandsComplete_3 : ∃ (s : State) (v : State) (p : Nat) (i : Nat) (n : Nat) (w : World) (user : Bool), i < entryCount n ∧ v = ((s.wr Reg.AT_CMD.INDEX i).wr Reg.AT_CMD.TARGET n).wr Reg.AT_CMD.ERR 0 ∧ s.forbidden (tableWrite p w user 4) = none ∧ s.isSet Reg.AT_STATUS.DONE = true ∧ s.badEntry = none :=
  ⟨(zRun.wr Reg.AT_STATUS.DONE 1), ((((zRun.wr Reg.AT_STATUS.DONE 1)).wr Reg.AT_CMD.INDEX (0)).wr Reg.AT_CMD.TARGET (2)).wr Reg.AT_CMD.ERR 0, 0, 0, 2, World.keeper, false, (by decide +kernel), rfl, (by decide +kernel), (by decide +kernel), (by decide +kernel)⟩

theorem test_meets_AccessTableCommandsComplete_4 : ∃ (s : State) (v : State) (p : Nat) (i : Nat) (n : Nat) (w : World) (user : Bool) (k : Nat), i < entryCount n ∧ v = ((s.wr Reg.AT_CMD.INDEX i).wr Reg.AT_CMD.TARGET n).wr Reg.AT_CMD.ERR 0 ∧ s.forbidden (tableWrite p w user 4) = none ∧ s.isSet Reg.AT_STATUS.DONE = true ∧ s.badEntry = some k :=
  ⟨((zRun.wr Reg.AT_STATUS.DONE 1).updGuards (fun g => { g with shadow := [(1024, { w0 := 2 ^ 63, w1 := 0 })] })), (((((zRun.wr Reg.AT_STATUS.DONE 1).updGuards (fun g => { g with shadow := [(1024, { w0 := 2 ^ 63, w1 := 0 })] }))).wr Reg.AT_CMD.INDEX (0)).wr Reg.AT_CMD.TARGET (2)).wr Reg.AT_CMD.ERR 0, 0, 0, 2, World.keeper, false, ((((zRun.wr Reg.AT_STATUS.DONE 1).updGuards (fun g => { g with shadow := [(1024, { w0 := 2 ^ 63, w1 := 0 })] }))).badEntry).get (by decide +kernel), (by decide +kernel), rfl, (by decide +kernel), (by decide +kernel), (Option.some_get _).symm⟩

theorem test_meets_AccessTableCommandsComplete_5 : ∃ (s : State) (v : State) (p : Nat) (i : Nat) (n : Nat) (w : World) (user : Bool), i < entryCount n ∧ v = ((s.wr Reg.AT_CMD.INDEX i).wr Reg.AT_CMD.TARGET n).wr Reg.AT_CMD.ERR 0 ∧ s.forbidden (tableWrite p w user 4) = none ∧ s.isSet Reg.AT_STATUS.DONE = false :=
  ⟨(zRun.wr Reg.AT_STATUS.DONE 0), ((((zRun.wr Reg.AT_STATUS.DONE 0)).wr Reg.AT_CMD.INDEX (0)).wr Reg.AT_CMD.TARGET (2)).wr Reg.AT_CMD.ERR 0, 0, 0, 2, World.keeper, false, (by decide +kernel), rfl, (by decide +kernel), (by decide +kernel)⟩

theorem test_meets_AccessTableCommandsComplete_6 : ∃ (s : State) (v : State) (i : Nat) (n : Nat), i < entryCount n ∧ v = ((s.wr Reg.AT_CMD.INDEX i).wr Reg.AT_CMD.TARGET n).wr Reg.AT_CMD.ERR 0 :=
  ⟨zRun, (((zRun).wr Reg.AT_CMD.INDEX (0)).wr Reg.AT_CMD.TARGET (2)).wr Reg.AT_CMD.ERR 0, 0, 2, (by decide +kernel), rfl⟩

theorem test_meets_AccessTableCommandsComplete_7 : ∃ (s : State) (v : State) (p : Nat) (i : Nat) (n : Nat) (w : World) (user : Bool), i < entryCount n ∧ v = ((s.wr Reg.AT_CMD.INDEX i).wr Reg.AT_CMD.TARGET n).wr Reg.AT_CMD.ERR 0 ∧ s.forbidden (tableWrite p w user 0x24) = none :=
  ⟨zRun, (((zRun).wr Reg.AT_CMD.INDEX (0)).wr Reg.AT_CMD.TARGET (2)).wr Reg.AT_CMD.ERR 0, 0, 0, 2, World.keeper, false, (by decide +kernel), rfl, (by decide +kernel)⟩

theorem test_meets_AccessTableCommandsComplete_8 : ∃ (s : State) (v : State) (p : Nat) (i : Nat) (n : Nat) (w : World) (user : Bool) (a : Nat), i < entryCount n ∧ v = ((s.wr Reg.AT_CMD.INDEX i).wr Reg.AT_CMD.TARGET n).wr Reg.AT_CMD.ERR 0 ∧ s.forbidden (tableWrite p w user 0) = some a :=
  ⟨zRun, (((zRun).wr Reg.AT_CMD.INDEX (0)).wr Reg.AT_CMD.TARGET (2)).wr Reg.AT_CMD.ERR 0, 0, 0, 2, World.keeper, true, ((zRun).forbidden (tableWrite (0) (World.keeper) (true) 0)).get (by decide +kernel), (by decide +kernel), rfl, (Option.some_get _).symm⟩

/-! Hypotheses of FlashCommandsComplete. -/

theorem test_meets_FlashCommandsComplete_0 : ∃ (s : State) (v : State) (p : Nat), s.rd Reg.FLS_STATUS.LUN_OK ≠ 0 ∧ v = s.wr Reg.FLS_CMD.OP 0x01 ∧ v.flsPart readableParts = some p ∧ v.sectorsServe v.flsSectors = true ∧ v.forbidden (unitAccess masterFlash .write v.flsBuf (4096 * v.flsSectors.length)) = none :=
  ⟨(zFl 0), ((zFl 0)).wr Reg.FLS_CMD.OP 0x01, ((((zFl 0)).wr Reg.FLS_CMD.OP 0x01).flsPart readableParts).get (by decide +kernel), (by decide +kernel), rfl, (Option.some_get _).symm, (by decide +kernel), (by decide +kernel)⟩

theorem test_meets_FlashCommandsComplete_1 : ∃ (s : State) (v : State), s.rd Reg.FLS_STATUS.LUN_OK ≠ 0 ∧ v = s.wr Reg.FLS_CMD.OP 0x01 ∧ v.flsPart readableParts = none :=
  ⟨zRun, (zRun).wr Reg.FLS_CMD.OP 0x01, (by decide +kernel), rfl, (by decide +kernel)⟩

theorem test_meets_FlashCommandsComplete_3 : ∃ (s : State) (v : State) (p : Nat), s.rd Reg.FLS_STATUS.LUN_OK ≠ 0 ∧ v = s.wr Reg.FLS_CMD.OP 0x02 ∧ v.flsPart writableParts = some p ∧ v.flash.twinProtected p = true :=
  ⟨(zFl 0), ((zFl 0)).wr Reg.FLS_CMD.OP 0x02, ((((zFl 0)).wr Reg.FLS_CMD.OP 0x02).flsPart writableParts).get (by decide +kernel), (by decide +kernel), rfl, (Option.some_get _).symm, (by decide +kernel)⟩

theorem test_meets_FlashCommandsComplete_4 : ∃ (s : State) (v : State) (p : Nat), s.rd Reg.FLS_STATUS.LUN_OK ≠ 0 ∧ v = s.wr Reg.FLS_CMD.OP 0x03 ∧ v.flsPart writableParts = some p :=
  ⟨(zFl 223232), ((zFl 223232)).wr Reg.FLS_CMD.OP 0x03, ((((zFl 223232)).wr Reg.FLS_CMD.OP 0x03).flsPart writableParts).get (by decide +kernel), (by decide +kernel), rfl, (Option.some_get _).symm⟩

theorem test_meets_FlashCommandsComplete_5 : ∃ (s : State), s.rd Reg.FLS_STATUS.LUN_OK ≠ 0 :=
  ⟨zRun, (by decide +kernel)⟩

theorem test_meets_FlashCommandsComplete_6 : ∃ (s : State) (v : State) (p : Nat), s.rd Reg.FLS_STATUS.LUN_OK ≠ 0 ∧ v = s.wr Reg.FLS_CMD.OP 0x20 ∧ v.flsPart readableParts = some p :=
  ⟨(zFl 0), ((zFl 0)).wr Reg.FLS_CMD.OP 0x20, ((((zFl 0)).wr Reg.FLS_CMD.OP 0x20).flsPart readableParts).get (by decide +kernel), (by decide +kernel), rfl, (Option.some_get _).symm⟩

theorem test_meets_FlashCommandsComplete_7 : ∃ (s : State) (v : State) (p : Nat), s.rd Reg.FLS_STATUS.LUN_OK ≠ 0 ∧ v = s.wr Reg.FLS_CMD.OP 0x21 ∧ v.flsPart readableParts = some p ∧ v.isSet Reg.BOOT_STATUS.RECOVERY = true :=
  ⟨((zFl 0).wr Reg.BOOT_STATUS.RECOVERY 1), (((zFl 0).wr Reg.BOOT_STATUS.RECOVERY 1)).wr Reg.FLS_CMD.OP 0x21, (((((zFl 0).wr Reg.BOOT_STATUS.RECOVERY 1)).wr Reg.FLS_CMD.OP 0x21).flsPart readableParts).get (by decide +kernel), (by decide +kernel), rfl, (Option.some_get _).symm, (by decide +kernel)⟩

theorem test_meets_FlashCommandsComplete_8 : ∃ (s : State) (v : State) (k : Nat) (a : Nat) (page : Nat), s.rd Reg.FLS_STATUS.LUN_OK ≠ 0 ∧ v = s.wr Reg.FLS_CMD.OP 0x10 ∧ v.flsBlock = some k ∧ v.lunServes (lunOf k) = true ∧ a = v.flsBuf ∧ page = v.rd Reg.FLS_PADDR.PAGE ∧ v.forbidden (unitAccess masterFlash .write a 16384) = none ∧ (v.flash.block k).free = false ∧ page < (v.flash.block k).nextPage :=
  ⟨((zFl 0).updFlash (fun f => { f with blocks := [(0, zBlock)] })), (((zFl 0).updFlash (fun f => { f with blocks := [(0, zBlock)] }))).wr Reg.FLS_CMD.OP 0x10, (((((zFl 0).updFlash (fun f => { f with blocks := [(0, zBlock)] }))).wr Reg.FLS_CMD.OP 0x10).flsBlock).get (by decide +kernel), ((((zFl 0).updFlash (fun f => { f with blocks := [(0, zBlock)] }))).wr Reg.FLS_CMD.OP 0x10).flsBuf, ((((zFl 0).updFlash (fun f => { f with blocks := [(0, zBlock)] }))).wr Reg.FLS_CMD.OP 0x10).rd Reg.FLS_PADDR.PAGE, (by decide +kernel), rfl, (Option.some_get _).symm, (by decide +kernel), rfl, rfl, (by decide +kernel), (by decide +kernel), (by decide +kernel)⟩

theorem test_meets_FlashCommandsComplete_9 : ∃ (s : State) (v : State) (k : Nat) (m : Nat), s.rd Reg.FLS_STATUS.LUN_OK ≠ 0 ∧ m < 128 ∧ v = s.wr Reg.FLS_CMD.OP 0x11 ∧ v.flsBlock = some k ∧ v.lunServes (lunOf k) = true :=
  ⟨zRun, (zRun).wr Reg.FLS_CMD.OP 0x11, (((zRun).wr Reg.FLS_CMD.OP 0x11).flsBlock).get (by decide +kernel), 0, (by decide +kernel), (by decide +kernel), rfl, (Option.some_get _).symm, (by decide +kernel)⟩

theorem test_meets_FlashCommandsComplete_10 : ∃ (s : State) (v : State) (k : Nat), s.rd Reg.FLS_STATUS.LUN_OK ≠ 0 ∧ v = s.wr Reg.FLS_CMD.OP 0x12 ∧ v.flsBlock = some k ∧ v.lunServes (lunOf k) = true ∧ (v.flash.block k).nextPage = 0 :=
  ⟨zRun, (zRun).wr Reg.FLS_CMD.OP 0x12, (((zRun).wr Reg.FLS_CMD.OP 0x12).flsBlock).get (by decide +kernel), (by decide +kernel), rfl, (Option.some_get _).symm, (by decide +kernel), (by decide +kernel)⟩

theorem test_meets_FlashCommandsComplete_11 : ∃ (s : State) (v : State) (k : Nat) (x : State), s.rd Reg.FLS_STATUS.LUN_OK ≠ 0 ∧ v = s.wr Reg.FLS_CMD.OP 0x13 ∧ v.flsBlock = some k ∧ v.lunServes (lunOf k) = true ∧ v.flash.blockProtected k = false ∧ v.flash.validIn k = [] ∧ (v.flash.block k).retired = false ∧ v.intentLun k = true ∧ v.eraseBlock k 0 = (x, true) :=
  ⟨zRun, (zRun).wr Reg.FLS_CMD.OP 0x13, (((zRun).wr Reg.FLS_CMD.OP 0x13).flsBlock).get (by decide +kernel), (((zRun).wr Reg.FLS_CMD.OP 0x13).eraseBlock ((((zRun).wr Reg.FLS_CMD.OP 0x13).flsBlock).get (by decide +kernel)) 0).1, (by decide +kernel), rfl, (Option.some_get _).symm, (by decide +kernel), (by decide +kernel), (by decide +kernel), (by decide +kernel), (by decide +kernel), Prod.ext rfl (by decide +kernel)⟩

theorem test_meets_FlashCommandsComplete_12 : ∃ (s : State) (v : State) (k : Nat), s.rd Reg.FLS_STATUS.LUN_OK ≠ 0 ∧ v = s.wr Reg.FLS_CMD.OP 0x13 ∧ v.flsBlock = some k ∧ v.lunServes (lunOf k) = true ∧ v.flash.blockProtected k = true :=
  ⟨((zFl 0).updFlash (fun f => { f with blocks := [(0, { zBlock with pinned := true })] })), (((zFl 0).updFlash (fun f => { f with blocks := [(0, { zBlock with pinned := true })] }))).wr Reg.FLS_CMD.OP 0x13, (((((zFl 0).updFlash (fun f => { f with blocks := [(0, { zBlock with pinned := true })] }))).wr Reg.FLS_CMD.OP 0x13).flsBlock).get (by decide +kernel), (by decide +kernel), rfl, (Option.some_get _).symm, (by decide +kernel), (by decide +kernel)⟩

theorem test_meets_FlashCommandsComplete_13 : ∃ (s : State) (v : State) (i : ImageHead) (tw : Nat) (f : Nat) (ue : Bool), s.rd Reg.FLS_STATUS.LUN_OK ≠ 0 ∧ v = s.wr Reg.FLS_CMD.OP 0x30 ∧ tw = v.rd Reg.BOOT_REQ.TWIN ∧ i = v.twinHead tw ∧ f = v.twinCheck tw none ue ∧ v.flash.trial = false ∧ v.flash.activeTwin ≠ tw :=
  ⟨(zRun.wr Reg.BOOT_REQ.TWIN 1), ((zRun.wr Reg.BOOT_REQ.TWIN 1)).wr Reg.FLS_CMD.OP 0x30, (((zRun.wr Reg.BOOT_REQ.TWIN 1)).wr Reg.FLS_CMD.OP 0x30).twinHead ((((zRun.wr Reg.BOOT_REQ.TWIN 1)).wr Reg.FLS_CMD.OP 0x30).rd Reg.BOOT_REQ.TWIN), (((zRun.wr Reg.BOOT_REQ.TWIN 1)).wr Reg.FLS_CMD.OP 0x30).rd Reg.BOOT_REQ.TWIN, (((zRun.wr Reg.BOOT_REQ.TWIN 1)).wr Reg.FLS_CMD.OP 0x30).twinCheck ((((zRun.wr Reg.BOOT_REQ.TWIN 1)).wr Reg.FLS_CMD.OP 0x30).rd Reg.BOOT_REQ.TWIN) none (false), false, (by decide +kernel), rfl, rfl, rfl, rfl, (by decide +kernel), (by decide +kernel)⟩

theorem test_meets_FlashCommandsComplete_14 : ∃ (s : State) (v : State) (q : PtrRec) (x : State), s.rd Reg.FLS_STATUS.LUN_OK ≠ 0 ∧ v = s.wr Reg.FLS_CMD.OP 0x31 ∧ v.flash.pointer = some q ∧ v.flash.trial = true ∧ v.isSet Reg.BOOT_STATUS.TRIAL = true ∧ x = v.appendPtr { q with carry := false, typ := 3, attempts := 0 } :=
  ⟨((zRun.wr Reg.BOOT_STATUS.TRIAL 1).updFlash (fun f => { f with pointers := [{ zPtr with typ := 2 }] })), (((zRun.wr Reg.BOOT_STATUS.TRIAL 1).updFlash (fun f => { f with pointers := [{ zPtr with typ := 2 }] }))).wr Reg.FLS_CMD.OP 0x31, (((((zRun.wr Reg.BOOT_STATUS.TRIAL 1).updFlash (fun f => { f with pointers := [{ zPtr with typ := 2 }] }))).wr Reg.FLS_CMD.OP 0x31).flash.pointer).get (by decide +kernel), ((((zRun.wr Reg.BOOT_STATUS.TRIAL 1).updFlash (fun f => { f with pointers := [{ zPtr with typ := 2 }] }))).wr Reg.FLS_CMD.OP 0x31).appendPtr { ((((((zRun.wr Reg.BOOT_STATUS.TRIAL 1).updFlash (fun f => { f with pointers := [{ zPtr with typ := 2 }] }))).wr Reg.FLS_CMD.OP 0x31).flash.pointer).get (by decide +kernel)) with carry := false, typ := 3, attempts := 0 }, (by decide +kernel), rfl, (Option.some_get _).symm, (by decide +kernel), (by decide +kernel), rfl⟩

theorem test_meets_FlashCommandsComplete_15 : ∃ (s : State) (v : State), s.rd Reg.FLS_STATUS.LUN_OK ≠ 0 ∧ v = s.wr Reg.FLS_CMD.OP 0x31 ∧ v.flash.pointer = none :=
  ⟨(zRun.updFlash (fun f => { f with pointers := [] })), ((zRun.updFlash (fun f => { f with pointers := [] }))).wr Reg.FLS_CMD.OP 0x31, (by decide +kernel), rfl, (by decide +kernel)⟩

theorem test_meets_FlashCommandsComplete_16 : ∃ (s : State) (b : Nat), s.rd Reg.FLS_STATUS.LUN_OK ≠ 0 ∧ s.sectorsServe [b / 4096] = true :=
  ⟨zRun, 0, (by decide +kernel), (by decide +kernel)⟩

theorem test_meets_FlashCommandsComplete_17 : ∃ (s : State) (l : Nat), s.rd Reg.FLS_STATUS.LUN_OK ≠ 0 ∧ l < 4 ∧ bitOf (s.rd Reg.FLS_STATUS.LUN_OK) l = true :=
  ⟨zRun, 0, (by decide +kernel), (by decide +kernel), (by decide +kernel)⟩

/-! Hypotheses of BootCommandCompletes. -/

theorem test_meets_BootCommandCompletes_2 : ∃ (s : State) (v : State) (x : BootIn) (p : Nat) (rest : List Nat), s.mainOn = true ∧ s.chip.booted = false ∧ s.chip.bootFailed = false ∧ (pairs.filter (fun p => x.pairs.contains p) = p :: rest) ∧ (s.bootUnits x).chooseTwin x = (none, v) ∧ x.recoveryImage = none ∧ v.chip.booted = false :=
  ⟨{ State.reset with chip := { State.reset.chip with powerOk := true } }, ((State.bootUnits ({ State.reset with chip := { State.reset.chip with powerOk := true } }) ({ zBoot with luns := 0 })).chooseTwin ({ zBoot with luns := 0 })).2, { zBoot with luns := 0 }, 0, [], (by decide +kernel), (by decide +kernel), (by decide +kernel), (by decide +kernel), Prod.ext (by decide +kernel) rfl, (by decide +kernel), (by decide +kernel)⟩

/-! Hypotheses of FaultCollectorCommandsComplete. -/

theorem test_meets_FaultCollectorCommandsComplete_0 : ∃ (src : Nat), src < 0x140 ∧ src ≠ srcFcuMemErr :=
  ⟨0, (by decide), (by decide)⟩

theorem test_meets_FaultCollectorCommandsComplete_1 : ∃ (c : Nat), c < 12 :=
  ⟨0, (by decide)⟩

theorem test_meets_FaultCollectorCommandsComplete_2 : ∃ (s : State) (w : Window), s.reacting = some w :=
  ⟨zFull, ((zFull).reacting).get (by decide), (Option.some_get _).symm⟩

theorem test_meets_FaultCollectorCommandsComplete_3 : ∃ (s : State) (src : Nat) (w : Window), s.collector.windows = [w] ∧ w.opener = src ∧ w.reaction ≠ rSafe :=
  ⟨zRun, 0, zWin, (by decide +kernel), (by decide +kernel), (by decide +kernel)⟩

theorem test_meets_FaultCollectorCommandsComplete_4 : ∃ (s : State) (e : Nat) (v : State), s.collector.pulseEnd = some e ∧ v = s.advanceTo e :=
  ⟨zFull, ((zFull).collector.pulseEnd).get (by decide), (zFull).advanceTo (((zFull).collector.pulseEnd).get (by decide)), (Option.some_get _).symm, rfl⟩

theorem test_meets_FaultCollectorCommandsComplete_5 : ∃ (s : State) (v : State), v = s.flag Reg.FCU_PIN.HOLD false ∧ s.collector.pulseEnd = none ∧ v.safe = false :=
  ⟨State.reset, (State.reset).flag Reg.FCU_PIN.HOLD false, rfl, (by decide), (by decide)⟩

theorem test_meets_FaultCollectorCommandsComplete_6 : ∃ (s : State) (src : Nat) (react : Bool) (v : State), v = s.injFields .keeper src 0 react 0 :=
  ⟨State.reset, 0, false, (State.reset).injFields .keeper (0) 0 (false) 0, rfl⟩

theorem test_meets_FaultCollectorCommandsComplete_7 : ∃ (s : State) (src : Nat) (m : Nat) (v : State), src < 1024 ∧ v = s.injFields .keeper src 1 false m ∧ v.testAllowed = true :=
  ⟨State.reset, 0, 0, (State.reset).injFields .keeper (0) 1 false (0), (by decide), rfl, (by decide)⟩

theorem test_meets_FaultCollectorCommandsComplete_8 : ∃ (s : State) (src : Nat) (m : Nat) (v : State), v = s.injFields .keeper src 1 false m ∧ v.testAllowed = false :=
  ⟨(zRun.wr Reg.AT_STATUS.BOOT 0), 0, 0, ((zRun.wr Reg.AT_STATUS.BOOT 0)).injFields .keeper (0) 1 false (0), rfl, (by decide +kernel)⟩

theorem test_meets_FaultCollectorCommandsComplete_9 : ∃ (s : State) (src : Nat) (r : FaultRec), tget s.collector.recs src = some r :=
  ⟨zFull, 0, (tget (zFull).collector.recs (0)).get (by decide), (Option.some_get _).symm⟩

theorem test_meets_FaultCollectorCommandsComplete_10 : ∃ (s : State) (src : Nat) (c : Nat) (r : Nat) (l : Nat), src = s.rd Reg.FCU_SEL.SRC ∧ s.cfgAllowed src c r l = false :=
  ⟨State.reset, (State.reset).rd Reg.FCU_SEL.SRC, 0, 0, 0, rfl, (by decide)⟩

theorem test_meets_FaultCollectorCommandsComplete_11 : ∃ (s : State) (src : Nat) (c : Nat) (r : Nat) (l : Nat), src = s.rd Reg.FCU_SEL.SRC ∧ s.cfgAllowed src c r l = true :=
  ⟨(zRun.wr Reg.FCU_SEL.SRC 32), ((zRun.wr Reg.FCU_SEL.SRC 32)).rd Reg.FCU_SEL.SRC, 0, 0, 0, rfl, (by decide +kernel)⟩

/-! Hypotheses of InjectionsAreAcceptedOrDenied. -/

theorem test_meets_InjectionsAreAcceptedOrDenied_0 : ∃ (s : State) (v : State) (src : Nat) (mask : Nat) (react : Bool), src < 1024 ∧ mask < 128 ∧ v = s.injFields .keeper src 0 react 0 ∧ (0x3F0 ≤ src ∨ v.testAllowed = true) :=
  ⟨State.reset, (State.reset).injFields .keeper (0) 0 (false) 0, 0, 0, false, (by decide), (by decide), rfl, (by decide)⟩

theorem test_meets_InjectionsAreAcceptedOrDenied_1 : ∃ (s : State) (v : State) (src : Nat) (mask : Nat) (react : Bool), src < 1024 ∧ mask < 128 ∧ v = s.injFields .keeper src 0 react 0 ∧ src < 0x3F0 ∧ v.testAllowed = false :=
  ⟨(zRun.wr Reg.AT_STATUS.BOOT 0), ((zRun.wr Reg.AT_STATUS.BOOT 0)).injFields .keeper (0) 0 (false) 0, 0, 0, false, (by decide +kernel), (by decide +kernel), rfl, (by decide +kernel), (by decide +kernel)⟩

theorem test_meets_InjectionsAreAcceptedOrDenied_2 : ∃ (s : State) (v : State) (src : Nat) (mask : Nat), src < 1024 ∧ mask < 128 ∧ v = s.injFields .keeper src 1 false mask ∧ v.testAllowed = true :=
  ⟨State.reset, (State.reset).injFields .keeper (0) 1 false (0), 0, 0, (by decide), (by decide), rfl, (by decide)⟩

theorem test_meets_InjectionsAreAcceptedOrDenied_3 : ∃ (s : State) (v : State) (src : Nat) (mask : Nat), src < 1024 ∧ mask < 128 ∧ v = s.injFields .keeper src 1 false mask ∧ v.testAllowed = false :=
  ⟨(zRun.wr Reg.AT_STATUS.BOOT 0), ((zRun.wr Reg.AT_STATUS.BOOT 0)).injFields .keeper (0) 1 false (0), 0, 0, (by decide +kernel), (by decide +kernel), rfl, (by decide +kernel)⟩

/-! Hypotheses of ClearingARecordLeavesLiveAndLastSeq. -/

theorem test_meets_ClearingARecordLeavesLiveAndLastSeq_0 : ∃ (s : State) (src : Nat) (r : FaultRec), tget s.collector.recs src = some r :=
  ⟨zFull, 0, (tget (zFull).collector.recs (0)).get (by decide), (Option.some_get _).symm⟩

/-! Hypotheses of KennelCommandsComplete. -/

theorem test_meets_KennelCommandsComplete_0 : ∃ (s : State), s.kennel.dead = false ∧ s.rd Reg.KNL_STATUS.SUPPLY = 0 ∧ s.rd Reg.KNL_STATUS.CELL_STATE < cellEnd :=
  ⟨State.reset, (by decide), (by decide), (by decide)⟩

theorem test_meets_KennelCommandsComplete_1 : ∃ (s : State), s.kennel.dead = false ∧ s.rd Reg.KNL_STATUS.SUPPLY = 0 ∧ cellEnd ≤ s.rd Reg.KNL_STATUS.CELL_STATE :=
  ⟨(zRun.wr Reg.KNL_STATUS.CELL_STATE 2), (by decide +kernel), (by decide +kernel), (by decide +kernel)⟩

theorem test_meets_KennelCommandsComplete_2 : ∃ (s : State), s.kennel.dead = false :=
  ⟨State.reset, (by decide)⟩

theorem test_meets_KennelCommandsComplete_3 : ∃ (s : State), s.kennel.dead = false ∧ s.rd Reg.KNL_STATUS.CELL_STATE ≠ cellAbsent ∧ s.rd Reg.KNL_STATUS.SUPPLY = 0 :=
  ⟨State.reset, (by decide), (by decide), (by decide)⟩

theorem test_meets_KennelCommandsComplete_4 : ∃ (s : State), s.kennel.dead = false ∧ s.rd Reg.KNL_STATUS.CELL_STATE ≠ cellAbsent ∧ s.rd Reg.KNL_STATUS.SUPPLY = 1 ∧ s.isSet Reg.KNL_STATUS.HOLDUP_OK = false :=
  ⟨((zRun.wr Reg.KNL_STATUS.SUPPLY 1).wr Reg.KNL_STATUS.HOLDUP_OK 0), (by decide +kernel), (by decide +kernel), (by decide +kernel), (by decide +kernel)⟩

theorem test_meets_KennelCommandsComplete_5 : ∃ (s : State), s.kennel.dead = false ∧ s.rd Reg.KNL_STATUS.CELL_STATE ≠ cellAbsent :=
  ⟨State.reset, (by decide), (by decide)⟩

theorem test_meets_KennelCommandsComplete_6 : ∃ (s : State) (r : Reading) (v : State), s.kennel.dead = false ∧ s.rd Reg.KNL_STATUS.CELL_STATE < cellEnd ∧ v = (s.wr Reg.KNL_STATUS.CELL_STATE cellLow).monitor 10 r ∧ v.mainPower = true ∧ v.mainOn = true :=
  ⟨zRun, zReading, ((zRun).wr Reg.KNL_STATUS.CELL_STATE cellLow).monitor 10 (zReading), (by decide +kernel), (by decide +kernel), rfl, (by decide +kernel), (by decide +kernel)⟩

theorem test_meets_KennelCommandsComplete_7 : ∃ (s : State) (r : Reading) (v : State), s.kennel.dead = false ∧ s.rd Reg.KNL_STATUS.CELL_STATE < cellEnd ∧ v = (s.wr Reg.KNL_STATUS.CELL_STATE cellLow).monitor 10 r ∧ v.mainPower = false :=
  ⟨(zRun.wr Reg.KNL_STATUS.SUPPLY 1), zReading, (((zRun.wr Reg.KNL_STATUS.SUPPLY 1)).wr Reg.KNL_STATUS.CELL_STATE cellLow).monitor 10 (zReading), (by decide +kernel), (by decide +kernel), rfl, (by decide +kernel)⟩

theorem test_meets_KennelCommandsComplete_8 : ∃ (s : State) (r : Reading), s.kennel.dead = false ∧ s.rd Reg.KNL_STATUS.CELL_STATE = cellAbsent ∧ 2200 ≤ r.vbat :=
  ⟨(zRun.wr Reg.KNL_STATUS.CELL_STATE 3), zReading, (by decide +kernel), (by decide +kernel), (by decide +kernel)⟩

theorem test_meets_KennelCommandsComplete_9 : ∃ (s : State), s.kennel.dead = false ∧ s.rd Reg.KNL_STATUS.SUPPLY ≠ 0 :=
  ⟨(zRun.wr Reg.KNL_STATUS.SUPPLY 1), (by decide +kernel), (by decide +kernel)⟩

theorem test_meets_KennelCommandsComplete_10 : ∃ (s : State) (r : Reading), s.kennel.dead = false ∧ r.temp ≤ signedOf 9 (s.rd Reg.KNL_TEMP.LOW) :=
  ⟨(zRun.wr Reg.KNL_TEMP.LOW 30), zReading, (by decide +kernel), (by decide +kernel)⟩

theorem test_meets_KennelCommandsComplete_11 : ∃ (s : State) (r : Reading), s.kennel.dead = false ∧ signedOf 9 (s.rd Reg.KNL_TEMP.LOW) < r.temp :=
  ⟨State.reset, zReading, (by decide), (by decide)⟩

theorem test_meets_KennelCommandsComplete_12 : ∃ (s : State) (r : Reading), s.kennel.dead = false ∧ signedOf 9 (s.rd Reg.KNL_TEMP.HIGH) ≤ r.temp :=
  ⟨(zRun.wr Reg.KNL_TEMP.HIGH 20), zReading, (by decide +kernel), (by decide +kernel)⟩

theorem test_meets_KennelCommandsComplete_13 : ∃ (s : State) (m : Nat), s.kennel.dead = false ∧ m < 15 :=
  ⟨State.reset, 0, (by decide), (by decide)⟩

theorem test_meets_KennelCommandsComplete_14 : ∃ (s : State) (m : Nat), s.kennel.dead = false ∧ m < 15 ∧ s.isSet (Reg.KNL_MON.EN.nth m) = false := by
  refine ⟨(zRun.wr (Reg.KNL_MON.EN.nth 0) 0), 0, ?_, ?_, ?_⟩
  · exact (by decide +kernel)
  · exact (by decide +kernel)
  · exact (by decide +kernel)

theorem test_meets_KennelCommandsComplete_15 : ∃ (s : State) (m : Nat), s.kennel.dead = false ∧ m < 15 ∧ s.isSet (Reg.KNL_MON.EN.nth m) = true ∧ s.isSet (Reg.KNL_MON.ARMED.nth m) = false :=
  ⟨((zRun.wr (Reg.KNL_MON.EN.nth 0) 1).wr (Reg.KNL_MON.ARMED.nth 0) 0), 0, (by decide +kernel), (by decide +kernel), (by decide +kernel), (by decide +kernel)⟩

theorem test_meets_KennelCommandsComplete_16 : ∃ (s : State) (x : KennelRec) (rest : List KennelRec), s.kennel.queue = x :: rest ∧ rest ≠ [] :=
  ⟨(zRun.updKennel (fun k => { k with queue := [zKnl, zKnl] })), zKnl, [zKnl], (by decide +kernel), (by decide +kernel)⟩

theorem test_meets_KennelCommandsComplete_17 : ∃ (s : State) (x : KennelRec), s.kennel.queue = [x] :=
  ⟨(zRun.updKennel (fun k => { k with queue := [zKnl] })), zKnl, (by decide +kernel)⟩

theorem test_meets_KennelCommandsComplete_18 : ∃ (s : State) (n : Nat), n < 2 ^ 64 ∧ s.svc ≠ .seal :=
  ⟨State.reset, 0, (by decide), (by decide)⟩

theorem test_meets_KennelCommandsComplete_19 : ∃ (s : State) (n : Nat), n < 2 ^ 64 ∧ s.svc = .seal ∧ s.isSet Reg.KNL_STATUS.RTC_VALID = true :=
  ⟨(zRun.wr Reg.KNL_STATUS.RTC_VALID 1), (2 ^ 64 - 1), (by decide +kernel), (by decide +kernel), (by decide +kernel)⟩

theorem test_meets_KennelCommandsComplete_20 : ∃ (lo : Int) (hi : Int), -80 ≤ lo ∧ lo < hi ∧ hi ≤ 150 :=
  ⟨(-80), 150, (by decide +kernel), (by decide +kernel), (by decide +kernel)⟩

theorem test_meets_KennelCommandsComplete_21 : ∃ (lo : Int) (hi : Int), hi ≤ lo :=
  ⟨0, 0, (by decide)⟩

theorem test_meets_KennelCommandsComplete_22 : ∃ (s : State) (m : Nat) (resp : Nat) (en : Bool), m < 15 ∧ resp < 4 ∧ s.monOk m resp en = true := by
  refine ⟨zRun, 0, 2, true, ?_, ?_, ?_⟩
  · exact (by decide +kernel)
  · exact (by decide +kernel)
  · exact (by decide +kernel)

theorem test_meets_KennelCommandsComplete_23 : ∃ (s : State) (m : Nat) (resp : Nat) (en : Bool), m < 15 ∧ s.monOk m resp en = false :=
  ⟨State.reset, 0, 0, false, (by decide), (by decide)⟩

theorem test_meets_KennelCommandsComplete_24 : ∃ (s : State) (x : KennelRec) (rest : List KennelRec) (vkeep : Nat), s.kennel.dead = false ∧ s.kennel.toCollar = x :: rest ∧ 2000 ≤ vkeep :=
  ⟨(zRun.updKennel (fun k => { k with toCollar := [zKnl] })), zKnl, [], 2000, (by decide +kernel), (by decide +kernel), (by decide +kernel)⟩

/-! Hypotheses of ReaderCommandsComplete. -/

theorem test_meets_ReaderCommandsComplete_0 : ∃ (s : State), s.nfcServes = true ∧ s.isSet Reg.NFC_CTRL.DETECT = true ∧ s.reader.mode = .idle ∧ s.reader.pings.length < 16 :=
  ⟨((zNf .idle).updReader (fun r => { r with pings := [] })), (by decide +kernel), (by decide +kernel), (by decide +kernel), (by decide +kernel)⟩

theorem test_meets_ReaderCommandsComplete_1 : ∃ (s : State) (v : State) (amp : Nat) (ph : Int), s.nfcServes = true ∧ s.isSet Reg.NFC_CTRL.DETECT = true ∧ s.reader.mode = .idle ∧ 16 ≤ s.reader.pings.length ∧ s.pingDiffers amp ph = true ∧ v = s.advance (max 50 (min 2000 (s.rd Reg.NFC_DETECT.PERIOD_MS)) * msec) :=
  ⟨((zNf .idle).updReader (fun r => { r with pings := List.replicate 16 (1000, 0) })), (((zNf .idle).updReader (fun r => { r with pings := List.replicate 16 (1000, 0) }))).advance (max 50 (min 2000 ((((zNf .idle).updReader (fun r => { r with pings := List.replicate 16 (1000, 0) }))).rd Reg.NFC_DETECT.PERIOD_MS)) * msec), 0, 0, (by decide +kernel), (by decide +kernel), (by decide +kernel), (by decide +kernel), (by decide +kernel), rfl⟩

theorem test_meets_ReaderCommandsComplete_2 : ∃ (s : State) (u : Nat) (e : Nat) (rest : List (Nat × Nat)), s.shepherd.pendingTags = (u, e) :: rest :=
  ⟨(zRun.updShepherd (fun q => { q with pendingTags := [(0, 0)] })), 0, 0, [], (by decide +kernel)⟩

theorem test_meets_ReaderCommandsComplete_3 : ∃ (s : State), s.reader.mode = .active :=
  ⟨zFull, (by decide)⟩

theorem test_meets_ReaderCommandsComplete_4 : ∃ (s : State), s.nfcServes = true ∧ s.reader.mode = .idle :=
  ⟨(zNf .idle), (by decide +kernel), (by decide +kernel)⟩

theorem test_meets_ReaderCommandsComplete_5 : ∃ (s : State), s.reader.mode = .extField :=
  ⟨(zNf .extField), (by decide +kernel)⟩

theorem test_meets_ReaderCommandsComplete_6 : ∃ (s : State) (v : State), (v = (s.wr Reg.NFC_CMD.OP 1).updReader (fun r => { r with last := s.now })) ∧ v.reader.mode ≠ .extField ∧ v.reader.mode ≠ .fault ∧ v.nfcServes = true :=
  ⟨(zNf .idle), (((zNf .idle)).wr Reg.NFC_CMD.OP 1).updReader (fun r => { r with last := ((zNf .idle)).now }), rfl, (by decide +kernel), (by decide +kernel), (by decide +kernel)⟩

theorem test_meets_ReaderCommandsComplete_7 : ∃ (s : State) (v : State) (c : Card) (w : State), (v = (s.wr Reg.NFC_CMD.OP 2).updReader (fun r => { r with last := s.now })) ∧ v.reader.mode = .active ∧ v.nfcServes = true ∧ v.reader.card = some c ∧ c.isoDep = true ∧ v.rd Reg.NFC_LEN.TXLEN ≠ 0 ∧ v.forbidden (unitAccess masterNfc .read (v.rd Reg.NFC_TXADDR.ADDR) (v.rd Reg.NFC_LEN.TXLEN)) = none ∧ w = (v.activate c).emit .nfcCard 0 [] (v.readMem (v.rd Reg.NFC_TXADDR.ADDR) (v.rd Reg.NFC_LEN.TXLEN)) :=
  ⟨({ ((zNf .active).wr Reg.NFC_LEN.TXLEN 1).wr Reg.NFC_TXADDR.ADDR 0x4000000 with guards := zUser.guards }.wr Reg.AT_STATUS.BOOT 0), ((({ ((zNf .active).wr Reg.NFC_LEN.TXLEN 1).wr Reg.NFC_TXADDR.ADDR 0x4000000 with guards := zUser.guards }.wr Reg.AT_STATUS.BOOT 0)).wr Reg.NFC_CMD.OP 2).updReader (fun r => { r with last := (({ ((zNf .active).wr Reg.NFC_LEN.TXLEN 1).wr Reg.NFC_TXADDR.ADDR 0x4000000 with guards := zUser.guards }.wr Reg.AT_STATUS.BOOT 0)).now }), zCard, ((((({ ((zNf .active).wr Reg.NFC_LEN.TXLEN 1).wr Reg.NFC_TXADDR.ADDR 0x4000000 with guards := zUser.guards }.wr Reg.AT_STATUS.BOOT 0)).wr Reg.NFC_CMD.OP 2).updReader (fun r => { r with last := (({ ((zNf .active).wr Reg.NFC_LEN.TXLEN 1).wr Reg.NFC_TXADDR.ADDR 0x4000000 with guards := zUser.guards }.wr Reg.AT_STATUS.BOOT 0)).now })).activate (zCard)).emit .nfcCard 0 [] ((((({ ((zNf .active).wr Reg.NFC_LEN.TXLEN 1).wr Reg.NFC_TXADDR.ADDR 0x4000000 with guards := zUser.guards }.wr Reg.AT_STATUS.BOOT 0)).wr Reg.NFC_CMD.OP 2).updReader (fun r => { r with last := (({ ((zNf .active).wr Reg.NFC_LEN.TXLEN 1).wr Reg.NFC_TXADDR.ADDR 0x4000000 with guards := zUser.guards }.wr Reg.AT_STATUS.BOOT 0)).now })).readMem ((((({ ((zNf .active).wr Reg.NFC_LEN.TXLEN 1).wr Reg.NFC_TXADDR.ADDR 0x4000000 with guards := zUser.guards }.wr Reg.AT_STATUS.BOOT 0)).wr Reg.NFC_CMD.OP 2).updReader (fun r => { r with last := (({ ((zNf .active).wr Reg.NFC_LEN.TXLEN 1).wr Reg.NFC_TXADDR.ADDR 0x4000000 with guards := zUser.guards }.wr Reg.AT_STATUS.BOOT 0)).now })).rd Reg.NFC_TXADDR.ADDR) ((((({ ((zNf .active).wr Reg.NFC_LEN.TXLEN 1).wr Reg.NFC_TXADDR.ADDR 0x4000000 with guards := zUser.guards }.wr Reg.AT_STATUS.BOOT 0)).wr Reg.NFC_CMD.OP 2).updReader (fun r => { r with last := (({ ((zNf .active).wr Reg.NFC_LEN.TXLEN 1).wr Reg.NFC_TXADDR.ADDR 0x4000000 with guards := zUser.guards }.wr Reg.AT_STATUS.BOOT 0)).now })).rd Reg.NFC_LEN.TXLEN)), rfl, (by decide +kernel), (by decide +kernel), (by decide +kernel), (by decide +kernel), (by decide +kernel), (by decide +kernel), rfl⟩

theorem test_meets_ReaderCommandsComplete_8 : ∃ (s : State) (v : State) (c : Card), (v = (s.wr Reg.NFC_CMD.OP 3).updReader (fun r => { r with last := s.now })) ∧ v.reader.mode = .active ∧ v.nfcServes = true ∧ v.reader.card = some c := by
  refine ⟨(zNf .active), (((zNf .active)).wr Reg.NFC_CMD.OP 3).updReader (fun r => { r with last := ((zNf .active)).now }), (((((zNf .active)).wr Reg.NFC_CMD.OP 3).updReader (fun r => { r with last := ((zNf .active)).now })).reader.card).get (by decide +kernel), ?_, ?_, ?_, ?_⟩
  · exact rfl
  · exact (by decide +kernel)
  · exact (by decide +kernel)
  · exact (Option.some_get _).symm

theorem test_meets_ReaderCommandsComplete_9 : ∃ (s : State) (v : State), (v = (s.wr Reg.NFC_CMD.OP 4).updReader (fun r => { r with last := s.now })) ∧ v.reader.mode = .active ∧ v.nfcServes = true := by
  refine ⟨(zNf .active), (((zNf .active)).wr Reg.NFC_CMD.OP 4).updReader (fun r => { r with last := ((zNf .active)).now }), ?_, ?_, ?_⟩
  · exact rfl
  · exact (by decide +kernel)
  · exact (by decide +kernel)

theorem test_meets_ReaderCommandsComplete_10 : ∃ (s v w : State) (c : Card) (cards : List Card), v = (s.wr Reg.NFC_CMD.OP 5).updReader (fun r => { r with last := s.now }) ∧ v.reader.mode = .active ∧ v.nfcServes = true ∧ w = v.haltCard ∧ w.reader.served < 16 ∧ w.findCard (cards.filter (fun c => !w.reader.halted.contains c.uid)) = .found c :=
  ⟨zNf .active, _, _, { zCard with uid := [9, 9, 9, 9] }, [{ zCard with uid := [9, 9, 9, 9] }], rfl, by decide +kernel, by decide +kernel, rfl, by decide +kernel, by decide +kernel⟩

/-! Hypotheses of CollarCommandsComplete. -/

theorem test_meets_CollarCommandsComplete_0 : ∃ (s : State), s.collar.scanned = true ∧ s.carrierOn = false :=
  ⟨((zNf .idle).updCollar (fun c => { c with scanned := true })), (by decide +kernel), (by decide +kernel)⟩

theorem test_meets_CollarCommandsComplete_1 : ∃ (s : State) (x : FieldSession), s.collar.session = some x :=
  ⟨(zCl), zFs, (by decide +kernel)⟩

theorem test_meets_CollarCommandsComplete_2 : ∃ (s : State) (v : State) (x : FieldSession) (n : Nat) (a : Nat), (v = s.updCollar (fun c => { c with session := some { x with last := s.now } })) ∧ s.collar.session = some x ∧ x.selected = true ∧ 0 < n ∧ n ≤ 256 ∧ a + n ≤ 65536 ∧ (rangeFrom a n).all (v.fieldMay x) = true :=
  ⟨(zCl), ((zCl)).updCollar (fun c => { c with session := some { (zFs) with last := ((zCl)).now } }), zFs, 256, 0, rfl, (by decide +kernel), (by decide +kernel), (by decide +kernel), (by decide +kernel), (by decide +kernel), (by decide +kernel)⟩

theorem test_meets_CollarCommandsComplete_3 : ∃ (s : State) (v : State) (x : FieldSession), (v = s.updCollar (fun c => { c with session := some { x with last := s.now } })) ∧ s.collar.session = some x ∧ x.selected = true :=
  ⟨(zCl), ((zCl)).updCollar (fun c => { c with session := some { (zFs) with last := ((zCl)).now } }), zFs, rfl, (by decide +kernel), (by decide +kernel)⟩

theorem test_meets_CollarCommandsComplete_4 : ∃ (s : State) (v : State) (x : FieldSession) (n : Nat) (pw : List Byte), (v = s.updCollar (fun c => { c with session := some { x with last := s.now } })) ∧ s.collar.session = some x ∧ x.selected = true ∧ 1 ≤ n ∧ n ≤ 3 ∧ pw.length = 8 ∧ bitOf v.security.set (n - 1) = true ∧ v.security.triesOf n = 0 :=
  ⟨(zCl 0), ((zCl 0)).updCollar (fun c => { c with session := some { (zFs) with last := ((zCl 0)).now } }), zFs, 3, (List.replicate 8 0), rfl, (by decide +kernel), (by decide +kernel), (by decide +kernel), (by decide +kernel), (by decide +kernel), (by decide +kernel), (by decide +kernel)⟩

theorem test_meets_CollarCommandsComplete_5 : ∃ (s : State) (v : State) (x : FieldSession) (n : Nat) (pw : List Byte) (w : State), (v = s.updCollar (fun c => { c with session := some { x with last := s.now } })) ∧ s.collar.session = some x ∧ x.selected = true ∧ 1 ≤ n ∧ n ≤ 3 ∧ pw.length = 8 ∧ bitOf v.security.set (n - 1) = true ∧ 2 ≤ v.security.triesOf n ∧ v.security.pw.getD (n - 1) [] = pw ∧ n ∉ x.verified ∧ w = v.putSecurity (v.security.setTries n (v.security.triesOf n - 1)) :=
  ⟨(zCl 2 { zFs with verified := [] }), ((zCl 2 { zFs with verified := [] })).updCollar (fun c => { c with session := some { ({ zFs with verified := [] }) with last := ((zCl 2 { zFs with verified := [] })).now } }), { zFs with verified := [] }, 1, (List.replicate 8 0), (((zCl 2 { zFs with verified := [] })).updCollar (fun c => { c with session := some { ({ zFs with verified := [] }) with last := ((zCl 2 { zFs with verified := [] })).now } })).putSecurity ((((zCl 2 { zFs with verified := [] })).updCollar (fun c => { c with session := some { ({ zFs with verified := [] }) with last := ((zCl 2 { zFs with verified := [] })).now } })).security.setTries (1) ((((zCl 2 { zFs with verified := [] })).updCollar (fun c => { c with session := some { ({ zFs with verified := [] }) with last := ((zCl 2 { zFs with verified := [] })).now } })).security.triesOf (1) - 1)), rfl, (by decide +kernel), (by decide +kernel), (by decide +kernel), (by decide +kernel), (by decide +kernel), (by decide +kernel), (by decide +kernel), (by decide +kernel), (by decide +kernel), rfl⟩

theorem test_meets_CollarCommandsComplete_6 : ∃ (s : State) (v : State) (x : FieldSession) (n : Nat) (pw : List Byte) (w : State), (v = s.updCollar (fun c => { c with session := some { x with last := s.now } })) ∧ s.collar.session = some x ∧ x.selected = true ∧ 1 ≤ n ∧ n ≤ 3 ∧ pw.length = 8 ∧ bitOf v.security.set (n - 1) = true ∧ 2 ≤ v.security.triesOf n ∧ v.security.pw.getD (n - 1) [] ≠ pw ∧ w = v.putSecurity (v.security.setTries n (v.security.triesOf n - 1)) :=
  ⟨(zCl 2), ((zCl 2)).updCollar (fun c => { c with session := some { (zFs) with last := ((zCl 2)).now } }), zFs, 3, (List.replicate 8 1), (((zCl 2)).updCollar (fun c => { c with session := some { (zFs) with last := ((zCl 2)).now } })).putSecurity ((((zCl 2)).updCollar (fun c => { c with session := some { (zFs) with last := ((zCl 2)).now } })).security.setTries (3) ((((zCl 2)).updCollar (fun c => { c with session := some { (zFs) with last := ((zCl 2)).now } })).security.triesOf (3) - 1)), rfl, (by decide +kernel), (by decide +kernel), (by decide +kernel), (by decide +kernel), (by decide +kernel), (by decide +kernel), (by decide +kernel), (by decide +kernel), rfl⟩

theorem test_meets_CollarCommandsComplete_7 : ∃ (s : State) (v : State) (x : FieldSession) (pw : List Byte), (v = s.updCollar (fun c => { c with session := some { x with last := s.now } })) ∧ s.collar.session = some x ∧ x.selected = true ∧ pw.length = 16 ∧ 2 ∈ x.verified :=
  ⟨(zCl), ((zCl)).updCollar (fun c => { c with session := some { (zFs) with last := ((zCl)).now } }), zFs, (List.replicate 16 0), rfl, (by decide +kernel), (by decide +kernel), (by decide +kernel), (by decide +kernel)⟩

theorem test_meets_CollarCommandsComplete_8 : ∃ (s : State) (v : State) (x : FieldSession) (n : Nat) (pw : List Byte), (v = s.updCollar (fun c => { c with session := some { x with last := s.now } })) ∧ s.collar.session = some x ∧ x.selected = true ∧ 1 ≤ n ∧ n ≤ 3 ∧ pw.length = 8 ∧ v.fieldAdmin x = true :=
  ⟨(zCl), ((zCl)).updCollar (fun c => { c with session := some { (zFs) with last := ((zCl)).now } }), zFs, 3, (List.replicate 8 0), rfl, (by decide +kernel), (by decide +kernel), (by decide +kernel), (by decide +kernel), (by decide +kernel), (by decide +kernel)⟩

theorem test_meets_CollarCommandsComplete_9 : ∃ (s : State) (v : State) (x : FieldSession) (n : Nat), (v = s.updCollar (fun c => { c with session := some { x with last := s.now } })) ∧ s.collar.session = some x ∧ x.selected = true ∧ 1 ≤ n ∧ n ≤ 2 ∧ v.fieldAdmin x = true :=
  ⟨(zCl), ((zCl)).updCollar (fun c => { c with session := some { (zFs) with last := ((zCl)).now } }), zFs, 2, rfl, (by decide +kernel), (by decide +kernel), (by decide +kernel), (by decide +kernel), (by decide +kernel)⟩

theorem test_meets_CollarCommandsComplete_10 : ∃ (s : State) (v : State), s.collar.session = none ∧ v = (s.wr Reg.COL_CMD.OP 1).wr Reg.COL_CMD.PW (s.rd Reg.COL_CMD.PW) ∧ 0 < v.rd Reg.COL_ADDR.LEN ∧ v.rd Reg.COL_ADDR.LEN ≤ 256 ∧ v.rd Reg.COL_ADDR.ADDR + v.rd Reg.COL_ADDR.LEN ≤ 65536 :=
  ⟨(((zRun.updCollar (fun c => { c with session := none })).wr Reg.COL_ADDR.LEN 256).wr Reg.COL_ADDR.ADDR 65280), (((((zRun.updCollar (fun c => { c with session := none })).wr Reg.COL_ADDR.LEN 256).wr Reg.COL_ADDR.ADDR 65280)).wr Reg.COL_CMD.OP 1).wr Reg.COL_CMD.PW (((((zRun.updCollar (fun c => { c with session := none })).wr Reg.COL_ADDR.LEN 256).wr Reg.COL_ADDR.ADDR 65280)).rd Reg.COL_CMD.PW), (by decide +kernel), rfl, (by decide +kernel), (by decide +kernel), (by decide +kernel)⟩

theorem test_meets_CollarCommandsComplete_11 : ∃ (s : State) (v : State), s.collar.session = none ∧ v = (s.wr Reg.COL_CMD.OP 2).wr Reg.COL_CMD.PW (s.rd Reg.COL_CMD.PW) :=
  ⟨zRun, ((zRun).wr Reg.COL_CMD.OP 2).wr Reg.COL_CMD.PW ((zRun).rd Reg.COL_CMD.PW), (by decide +kernel), rfl⟩

theorem test_meets_CollarCommandsComplete_12 : ∃ (s : State) (v : State) (n : Nat), s.collar.session = none ∧ v = (s.wr Reg.COL_CMD.OP 3).wr Reg.COL_CMD.PW n ∧ 1 ≤ n ∧ n ≤ 3 :=
  ⟨(((zRun.updCollar (fun c => { c with session := none })).wr Reg.COL_ADDR.LEN 256).wr Reg.COL_ADDR.ADDR 65280), (((((zRun.updCollar (fun c => { c with session := none })).wr Reg.COL_ADDR.LEN 256).wr Reg.COL_ADDR.ADDR 65280)).wr Reg.COL_CMD.OP 3).wr Reg.COL_CMD.PW (3), 3, (by decide +kernel), rfl, (by decide +kernel), (by decide +kernel)⟩

theorem test_meets_CollarCommandsComplete_13 : ∃ (s : State) (v : State) (n : Nat), s.collar.session = none ∧ v = (s.wr Reg.COL_CMD.OP 4).wr Reg.COL_CMD.PW n ∧ 1 ≤ n ∧ n ≤ 3 :=
  ⟨(((zRun.updCollar (fun c => { c with session := none })).wr Reg.COL_ADDR.LEN 256).wr Reg.COL_ADDR.ADDR 65280), (((((zRun.updCollar (fun c => { c with session := none })).wr Reg.COL_ADDR.LEN 256).wr Reg.COL_ADDR.ADDR 65280)).wr Reg.COL_CMD.OP 4).wr Reg.COL_CMD.PW (3), 3, (by decide +kernel), rfl, (by decide +kernel), (by decide +kernel)⟩

theorem test_meets_CollarCommandsComplete_14 : ∃ (s : State) (v : State), s.collar.session = none ∧ v = (s.wr Reg.COL_CMD.OP 5).wr Reg.COL_CMD.PW (s.rd Reg.COL_CMD.PW) :=
  ⟨(((zRun.updCollar (fun c => { c with session := none })).wr Reg.COL_ADDR.LEN 256).wr Reg.COL_ADDR.ADDR 65280), (((((zRun.updCollar (fun c => { c with session := none })).wr Reg.COL_ADDR.LEN 256).wr Reg.COL_ADDR.ADDR 65280)).wr Reg.COL_CMD.OP 5).wr Reg.COL_CMD.PW (((((zRun.updCollar (fun c => { c with session := none })).wr Reg.COL_ADDR.LEN 256).wr Reg.COL_ADDR.ADDR 65280)).rd Reg.COL_CMD.PW), (by decide +kernel), rfl⟩

theorem test_meets_CollarCommandsComplete_15 : ∃ (s : State), s.collar.session = none :=
  ⟨State.reset, (by decide)⟩

/-! Hypotheses of PanelAndServiceCardCommandsComplete. -/

theorem test_meets_PanelAndServiceCardCommandsComplete_0 : ∃ (s : State) (v : State), s.panelServes = true ∧ s.panel.presAt = none ∧ s.panel.presBlocked = false ∧ v = s.advance s.debounce :=
  ⟨zLit, (zLit).advance (zLit).debounce, (by decide), (by decide), (by decide), rfl⟩

theorem test_meets_PanelAndServiceCardCommandsComplete_1 : ∃ (s : State) (v : State) (n : Nat), s.panelServes = true ∧ s.panel.servAt = none ∧ s.panel.servBlocked = false ∧ n * msec < s.longPress ∧ v = s.recognise true :=
  ⟨zLit, (zLit).recognise true, 0, (by decide), (by decide), (by decide), (by decide), rfl⟩

theorem test_meets_PanelAndServiceCardCommandsComplete_2 : ∃ (s : State) (v : State) (n : Nat) (p : Nat), s.panelServes = true ∧ s.panel.servAt = some p ∧ v = s.advanceTo (p + n * msec) :=
  ⟨zFull, (zFull).advanceTo ((((zFull).panel.servAt).get (by decide)) + (0) * msec), 0, ((zFull).panel.servAt).get (by decide), (by decide), (Option.some_get _).symm, rfl⟩

theorem test_meets_PanelAndServiceCardCommandsComplete_3 : ∃ (s : State) (v : State) (n : Nat) (p : Nat), s.panelServes = true ∧ s.panel.presAt = some p ∧ s.panel.presBlocked = false ∧ n * msec ≤ s.stuckLimit ∧ v = s.advanceTo (p + n * msec) :=
  ⟨zFull, (zFull).advanceTo ((((zFull).panel.presAt).get (by decide)) + (0) * msec), 0, ((zFull).panel.presAt).get (by decide), (by decide), (Option.some_get _).symm, (by decide), (by decide), rfl⟩

theorem test_meets_PanelAndServiceCardCommandsComplete_4 : ∃ (s : State) (v : State) (n : Nat) (p : Nat), s.panelServes = true ∧ s.panel.presAt = some p ∧ s.panel.presBlocked = true ∧ v = s.advanceTo (p + n * msec) :=
  ⟨(zRun.updPanel (fun p => { p with presAt := some 0, presBlocked := true })), ((zRun.updPanel (fun p => { p with presAt := some 0, presBlocked := true }))).advanceTo ((0) + (0) * msec), 0, 0, (by decide +kernel), (by decide +kernel), (by decide +kernel), rfl⟩

theorem test_meets_PanelAndServiceCardCommandsComplete_5 : ∃ (s : State) (v : State), s.panelServes = true ∧ s.panel.servAt = none ∧ s.panel.servBlocked = false ∧ v = (s.recognise true).advanceTo (s.now + (s.recognise true).longPress) ∧ v.sd.running = none ∧ v.cardPowered = true ∧ v.scState ≠ scLocked :=
  ⟨(zSc.updPanel (fun p => { p with servAt := none, servBlocked := false })), (((zSc.updPanel (fun p => { p with servAt := none, servBlocked := false }))).recognise true).advanceTo (((zSc.updPanel (fun p => { p with servAt := none, servBlocked := false }))).now + (((zSc.updPanel (fun p => { p with servAt := none, servBlocked := false }))).recognise true).longPress), (by decide +kernel), (by decide +kernel), (by decide +kernel), rfl, (by decide +kernel), (by decide +kernel), (by decide +kernel)⟩

theorem test_meets_PanelAndServiceCardCommandsComplete_6 : ∃ (s : State) (v : State) (p : Nat), s.panelServes = true ∧ s.panel.presBlocked = false ∧ s.panel.presAt = some p ∧ v = s.advanceTo (p + s.stuckLimit) :=
  ⟨zFull, (zFull).advanceTo ((((zFull).panel.presAt).get (by decide)) + (zFull).stuckLimit), ((zFull).panel.presAt).get (by decide), (by decide), (by decide), (Option.some_get _).symm, rfl⟩

theorem test_meets_PanelAndServiceCardCommandsComplete_7 : ∃ (s : State) (u : State) (v : State), s.panelServes = true ∧ s.panel.servBlocked = false ∧ s.panel.servAt = none ∧ u = s.recognise true ∧ v = u.advanceTo (s.now + u.stuckLimit) :=
  ⟨zLit, (zLit).recognise true, ((zLit).recognise true).advanceTo ((zLit).now + ((zLit).recognise true).stuckLimit), (by decide), (by decide), (by decide), rfl, rfl⟩

theorem test_meets_PanelAndServiceCardCommandsComplete_8 : ∃ (s : State) (v : State) (started : Nat → State), s.panelServes = true ∧ s.isSet Reg.SC_CMD.BUSY = false ∧ (started = (fun o => (s.wr Reg.SC_CMD.OP o).updSd (fun d => { d with last := s.now }))) ∧ v = started 1 ∧ v.isSet Reg.SC_STATUS.PRESENT = true ∧ v.scState ≠ scLocked :=
  ⟨zSc, ((fun o => (zSc.wr Reg.SC_CMD.OP o).updSd (fun d => { d with last := zSc.now }))) 1, (fun o => (zSc.wr Reg.SC_CMD.OP o).updSd (fun d => { d with last := zSc.now })), (by decide +kernel), (by decide +kernel), rfl, rfl, (by decide +kernel), (by decide +kernel)⟩

theorem test_meets_PanelAndServiceCardCommandsComplete_9 : ∃ (s : State) (v : State) (w : State) (started : Nat → State), s.panelServes = true ∧ s.isSet Reg.SC_CMD.BUSY = false ∧ (started = (fun o => (s.wr Reg.SC_CMD.OP o).updSd (fun d => { d with last := s.now }))) ∧ v = started 2 ∧ v.cardPowered = true ∧ v.scState ≠ scLocked ∧ v.scState ≠ scSleep ∧ v.scCount ≠ 0 ∧ v.scFirst + v.scCount ≤ v.sd.blocks ∧ v.guardRange masterCard .write v.scBuf (512 * v.scCount) = (true, w) :=
  ⟨zSc, ((fun o => (zSc.wr Reg.SC_CMD.OP o).updSd (fun d => { d with last := zSc.now }))) 2, ((((fun o => (zSc.wr Reg.SC_CMD.OP o).updSd (fun d => { d with last := zSc.now }))) 2).guardRange masterCard .write (((fun o => (zSc.wr Reg.SC_CMD.OP o).updSd (fun d => { d with last := zSc.now }))) 2).scBuf (512 * (((fun o => (zSc.wr Reg.SC_CMD.OP o).updSd (fun d => { d with last := zSc.now }))) 2).scCount)).2, (fun o => (zSc.wr Reg.SC_CMD.OP o).updSd (fun d => { d with last := zSc.now })), (by decide +kernel), (by decide +kernel), rfl, rfl, (by decide +kernel), (by decide +kernel), (by decide +kernel), (by decide +kernel), (by decide +kernel), Prod.ext (by decide +kernel) rfl⟩

theorem test_meets_PanelAndServiceCardCommandsComplete_10 : ∃ (s : State) (v : State) (w : State) (started : Nat → State), s.panelServes = true ∧ s.isSet Reg.SC_CMD.BUSY = false ∧ (started = (fun o => (s.wr Reg.SC_CMD.OP o).updSd (fun d => { d with last := s.now }))) ∧ v = started 3 ∧ v.cardPowered = true ∧ v.scState ≠ scLocked ∧ v.scState ≠ scSleep ∧ v.scCount ≠ 0 ∧ v.scFirst + v.scCount ≤ v.sd.blocks ∧ v.guardRange masterCard .read v.scBuf (512 * v.scCount) = (true, w) := by
  refine ⟨zSc, ((zSc.wr Reg.SC_CMD.OP 3).updSd (fun d => { d with last := zSc.now })), ((((zSc.wr Reg.SC_CMD.OP 3).updSd (fun d => { d with last := zSc.now }))).guardRange masterCard .read (((zSc.wr Reg.SC_CMD.OP 3).updSd (fun d => { d with last := zSc.now }))).scBuf (512 * (((zSc.wr Reg.SC_CMD.OP 3).updSd (fun d => { d with last := zSc.now }))).scCount)).2, (fun o => (zSc.wr Reg.SC_CMD.OP o).updSd (fun d => { d with last := zSc.now })), ?_, ?_, ?_, ?_, ?_, ?_, ?_, ?_, ?_, ?_⟩
  · exact (by decide +kernel)
  · exact (by decide +kernel)
  · exact rfl
  · exact rfl
  · exact (by decide +kernel)
  · exact (by decide +kernel)
  · exact (by decide +kernel)
  · exact (by decide +kernel)
  · exact (by decide +kernel)
  · exact Prod.ext (by decide +kernel) rfl

theorem test_meets_PanelAndServiceCardCommandsComplete_11 : ∃ (s : State) (v : State) (started : Nat → State), s.panelServes = true ∧ s.isSet Reg.SC_CMD.BUSY = false ∧ (started = (fun o => (s.wr Reg.SC_CMD.OP o).updSd (fun d => { d with last := s.now }))) ∧ v = started 4 ∧ v.cardPowered = true ∧ v.scState ≠ scLocked ∧ v.scState ≠ scSleep ∧ v.scCount ≠ 0 ∧ v.scFirst + v.scCount ≤ v.sd.blocks :=
  ⟨zSc, ((fun o => (zSc.wr Reg.SC_CMD.OP o).updSd (fun d => { d with last := zSc.now }))) 4, (fun o => (zSc.wr Reg.SC_CMD.OP o).updSd (fun d => { d with last := zSc.now })), (by decide +kernel), (by decide +kernel), rfl, rfl, (by decide +kernel), (by decide +kernel), (by decide +kernel), (by decide +kernel), (by decide +kernel)⟩

theorem test_meets_PanelAndServiceCardCommandsComplete_12 : ∃ (s : State) (v : State) (w : State) (n : Nat) (started : Nat → State), s.panelServes = true ∧ s.isSet Reg.SC_CMD.BUSY = false ∧ (started = (fun o => (s.wr Reg.SC_CMD.OP o).updSd (fun d => { d with last := s.now }))) ∧ n = v.scCount % 32 ∧ 1 ≤ n ∧ n ≤ 16 ∧ v.cardPowered = true ∧ v.guardRange masterCard .read v.scBuf n = (true, w) ∧ v = started 5 :=
  ⟨zSc, ((zSc.wr Reg.SC_CMD.OP 5).updSd (fun d => { d with last := zSc.now })), ((((zSc.wr Reg.SC_CMD.OP 5).updSd (fun d => { d with last := zSc.now }))).guardRange masterCard .read (((zSc.wr Reg.SC_CMD.OP 5).updSd (fun d => { d with last := zSc.now }))).scBuf (16)).2, 16, (fun o => (zSc.wr Reg.SC_CMD.OP o).updSd (fun d => { d with last := zSc.now })), (by decide +kernel), (by decide +kernel), rfl, (by decide +kernel), (by decide +kernel), (by decide +kernel), (by decide +kernel), Prod.ext (by decide +kernel) rfl, rfl⟩

theorem test_meets_PanelAndServiceCardCommandsComplete_13 : ∃ (s : State) (v : State) (w : State) (n : Nat) (started : Nat → State), s.panelServes = true ∧ s.isSet Reg.SC_CMD.BUSY = false ∧ (started = (fun o => (s.wr Reg.SC_CMD.OP o).updSd (fun d => { d with last := s.now }))) ∧ n = v.scCount % 32 ∧ 1 ≤ n ∧ n ≤ 16 ∧ v.cardPowered = true ∧ v.guardRange masterCard .read v.scBuf n = (true, w) ∧ v = started 6 ∧ v.scState ≠ scLocked ∧ v.scState ≠ scSleep :=
  ⟨zSc, ((zSc.wr Reg.SC_CMD.OP 6).updSd (fun d => { d with last := zSc.now })), ((((zSc.wr Reg.SC_CMD.OP 6).updSd (fun d => { d with last := zSc.now }))).guardRange masterCard .read (((zSc.wr Reg.SC_CMD.OP 6).updSd (fun d => { d with last := zSc.now }))).scBuf (16)).2, 16, (fun o => (zSc.wr Reg.SC_CMD.OP o).updSd (fun d => { d with last := zSc.now })), (by decide +kernel), (by decide +kernel), rfl, (by decide +kernel), (by decide +kernel), (by decide +kernel), (by decide +kernel), Prod.ext (by decide +kernel) rfl, rfl, (by decide +kernel), (by decide +kernel)⟩

theorem test_meets_PanelAndServiceCardCommandsComplete_14 : ∃ (s : State) (v : State) (w : State) (n : Nat) (started : Nat → State), s.panelServes = true ∧ s.isSet Reg.SC_CMD.BUSY = false ∧ (started = (fun o => (s.wr Reg.SC_CMD.OP o).updSd (fun d => { d with last := s.now }))) ∧ n = v.scCount % 32 ∧ 1 ≤ n ∧ n ≤ 16 ∧ v.cardPowered = true ∧ v.guardRange masterCard .read v.scBuf n = (true, w) ∧ v = started 7 ∧ v.scState ≠ scLocked ∧ v.scState ≠ scSleep :=
  ⟨zSc, ((zSc.wr Reg.SC_CMD.OP 7).updSd (fun d => { d with last := zSc.now })), ((((zSc.wr Reg.SC_CMD.OP 7).updSd (fun d => { d with last := zSc.now }))).guardRange masterCard .read (((zSc.wr Reg.SC_CMD.OP 7).updSd (fun d => { d with last := zSc.now }))).scBuf (16)).2, 16, (fun o => (zSc.wr Reg.SC_CMD.OP o).updSd (fun d => { d with last := zSc.now })), (by decide +kernel), (by decide +kernel), rfl, (by decide +kernel), (by decide +kernel), (by decide +kernel), (by decide +kernel), Prod.ext (by decide +kernel) rfl, rfl, (by decide +kernel), (by decide +kernel)⟩

theorem test_meets_PanelAndServiceCardCommandsComplete_15 : ∃ (s : State) (v : State) (started : Nat → State), s.panelServes = true ∧ s.isSet Reg.SC_CMD.BUSY = false ∧ (started = (fun o => (s.wr Reg.SC_CMD.OP o).updSd (fun d => { d with last := s.now }))) ∧ v = started 8 ∧ v.cardPowered = true ∧ v.pressNow = none :=
  ⟨zSc, ((fun o => (zSc.wr Reg.SC_CMD.OP o).updSd (fun d => { d with last := zSc.now }))) 8, (fun o => (zSc.wr Reg.SC_CMD.OP o).updSd (fun d => { d with last := zSc.now })), (by decide +kernel), (by decide +kernel), rfl, rfl, (by decide +kernel), (by decide +kernel)⟩

theorem test_meets_PanelAndServiceCardCommandsComplete_16 : ∃ (s : State) (v : State) (started : Nat → State), s.panelServes = true ∧ s.isSet Reg.SC_CMD.BUSY = false ∧ (started = (fun o => (s.wr Reg.SC_CMD.OP o).updSd (fun d => { d with last := s.now }))) ∧ v = started 8 ∧ v.cardPowered = true ∧ v.pressNow ≠ none :=
  ⟨((zSc.updPanel (fun p => { p with presses := [0] })).wr Reg.SDB_PRES.WINDOW_S 30), ((fun o => (((zSc.updPanel (fun p => { p with presses := [0] })).wr Reg.SDB_PRES.WINDOW_S 30).wr Reg.SC_CMD.OP o).updSd (fun d => { d with last := ((zSc.updPanel (fun p => { p with presses := [0] })).wr Reg.SDB_PRES.WINDOW_S 30).now }))) 8, (fun o => (((zSc.updPanel (fun p => { p with presses := [0] })).wr Reg.SDB_PRES.WINDOW_S 30).wr Reg.SC_CMD.OP o).updSd (fun d => { d with last := ((zSc.updPanel (fun p => { p with presses := [0] })).wr Reg.SDB_PRES.WINDOW_S 30).now })), (by decide +kernel), (by decide +kernel), rfl, rfl, (by decide +kernel), (by decide +kernel)⟩

theorem test_meets_PanelAndServiceCardCommandsComplete_17 : ∃ (s : State) (v : State) (started : Nat → State), s.panelServes = true ∧ s.isSet Reg.SC_CMD.BUSY = false ∧ (started = (fun o => (s.wr Reg.SC_CMD.OP o).updSd (fun d => { d with last := s.now }))) ∧ v = started 9 ∧ v.cardPowered = true ∧ v.scState ≠ scLocked ∧ v.scState ≠ scSleep :=
  ⟨zSc, ((fun o => (zSc.wr Reg.SC_CMD.OP o).updSd (fun d => { d with last := zSc.now }))) 9, (fun o => (zSc.wr Reg.SC_CMD.OP o).updSd (fun d => { d with last := zSc.now })), (by decide +kernel), (by decide +kernel), rfl, rfl, (by decide +kernel), (by decide +kernel), (by decide +kernel)⟩

theorem test_meets_PanelAndServiceCardCommandsComplete_18 : ∃ (s : State) (v : State) (started : Nat → State), s.panelServes = true ∧ s.isSet Reg.SC_CMD.BUSY = false ∧ (started = (fun o => (s.wr Reg.SC_CMD.OP o).updSd (fun d => { d with last := s.now }))) ∧ v = started 10 ∧ v.cardPowered = true ∧ v.scState ≠ scLocked :=
  ⟨zSc, ((fun o => (zSc.wr Reg.SC_CMD.OP o).updSd (fun d => { d with last := zSc.now }))) 10, (fun o => (zSc.wr Reg.SC_CMD.OP o).updSd (fun d => { d with last := zSc.now })), (by decide +kernel), (by decide +kernel), rfl, rfl, (by decide +kernel), (by decide +kernel)⟩

theorem test_meets_PanelAndServiceCardCommandsComplete_19 : ∃ (s : State) (v : State) (started : Nat → State), s.panelServes = true ∧ s.isSet Reg.SC_CMD.BUSY = false ∧ (started = (fun o => (s.wr Reg.SC_CMD.OP o).updSd (fun d => { d with last := s.now }))) ∧ v = started 11 ∧ v.cardPowered = true ∧ v.scState ≠ scLocked ∧ v.scState ≠ scSleep := by
  refine ⟨zSc, ((zSc.wr Reg.SC_CMD.OP 11).updSd (fun d => { d with last := zSc.now })), (fun o => (zSc.wr Reg.SC_CMD.OP o).updSd (fun d => { d with last := zSc.now })), ?_, ?_, ?_, ?_, ?_, ?_, ?_⟩
  · exact (by decide +kernel)
  · exact (by decide +kernel)
  · exact rfl
  · exact rfl
  · exact (by decide +kernel)
  · exact (by decide +kernel)
  · exact (by decide +kernel)

theorem test_meets_PanelAndServiceCardCommandsComplete_20 : ∃ (s : State) (started : Nat → State), s.panelServes = true ∧ s.isSet Reg.SC_CMD.BUSY = false ∧ (started = (fun o => (s.wr Reg.SC_CMD.OP o).updSd (fun d => { d with last := s.now }))) ∧ s.isSet Reg.SC_CTRL.AUTO_SLEEP = true ∧ s.scState = scReady := by
  refine ⟨(zSc.wr Reg.SC_CTRL.AUTO_SLEEP 1), (fun o => ((zSc.wr Reg.SC_CTRL.AUTO_SLEEP 1).wr Reg.SC_CMD.OP o).updSd (fun d => { d with last := (zSc.wr Reg.SC_CTRL.AUTO_SLEEP 1).now })), ?_, ?_, ?_, ?_, ?_⟩
  · exact (by decide +kernel)
  · exact (by decide +kernel)
  · exact rfl
  · exact (by decide +kernel)
  · exact (by decide +kernel)

theorem test_meets_PanelAndServiceCardCommandsComplete_21 : ∃ (s : State) (v : State) (op : Nat) (started : Nat → State), s.panelServes = true ∧ s.isSet Reg.SC_CMD.BUSY = false ∧ (started = (fun o => (s.wr Reg.SC_CMD.OP o).updSd (fun d => { d with last := s.now }))) ∧ s.sd.running = some op ∧ op ≠ 2 ∧ op ≠ 11 ∧ v = s.advanceTo (s.sd.last + s.busyLimit op) :=
  ⟨(zSc.updSd (fun d => { d with running := some 1 })), ((zSc.updSd (fun d => { d with running := some 1 }))).advanceTo (((zSc.updSd (fun d => { d with running := some 1 }))).sd.last + ((zSc.updSd (fun d => { d with running := some 1 }))).busyLimit (1)), 1, (fun o => ((zSc.updSd (fun d => { d with running := some 1 })).wr Reg.SC_CMD.OP o).updSd (fun d => { d with last := (zSc.updSd (fun d => { d with running := some 1 })).now })), (by decide +kernel), (by decide +kernel), rfl, (by decide +kernel), (by decide +kernel), (by decide +kernel), rfl⟩

theorem test_meets_PanelAndServiceCardCommandsComplete_22 : ∃ (s : State) (v : State) (started : Nat → State), s.panelServes = true ∧ s.isSet Reg.SC_CMD.BUSY = false ∧ (started = (fun o => (s.wr Reg.SC_CMD.OP o).updSd (fun d => { d with last := s.now }))) ∧ v = ((s.bump Reg.SC_EVENTS.REMOVED).cardOff scEmpty).flag Reg.SC_STATUS.PRESENT false ∧ v.sd.running = none :=
  ⟨zSc, (((zSc).bump Reg.SC_EVENTS.REMOVED).cardOff scEmpty).flag Reg.SC_STATUS.PRESENT false, (fun o => (zSc.wr Reg.SC_CMD.OP o).updSd (fun d => { d with last := zSc.now })), (by decide +kernel), (by decide +kernel), rfl, rfl, (by decide +kernel)⟩

theorem test_meets_PanelAndServiceCardCommandsComplete_23 : ∃ (s : State) (v : State) (started : Nat → State), s.panelServes = true ∧ s.isSet Reg.SC_CMD.BUSY = false ∧ (started = (fun o => (s.wr Reg.SC_CMD.OP o).updSd (fun d => { d with last := s.now }))) ∧ v = ((s.bump Reg.SC_EVENTS.REMOVED).cardOff scEmpty).flag Reg.SC_STATUS.PRESENT false ∧ v.sd.running = some 3 :=
  ⟨(zSc.updSd (fun d => { d with running := some 3 })), ((((zSc.updSd (fun d => { d with running := some 3 }))).bump Reg.SC_EVENTS.REMOVED).cardOff scEmpty).flag Reg.SC_STATUS.PRESENT false, (fun o => ((zSc.updSd (fun d => { d with running := some 3 })).wr Reg.SC_CMD.OP o).updSd (fun d => { d with last := (zSc.updSd (fun d => { d with running := some 3 })).now })), (by decide +kernel), (by decide +kernel), rfl, rfl, (by decide +kernel)⟩

theorem test_meets_PanelAndServiceCardCommandsComplete_24 : ∃ (s : State) (v : State) (started : Nat → State), s.panelServes = true ∧ s.isSet Reg.SC_CMD.BUSY = false ∧ (started = (fun o => (s.wr Reg.SC_CMD.OP o).updSd (fun d => { d with last := s.now }))) ∧ s.isSet Reg.SC_STATUS.PRESENT = false ∧ v = (((s.advance (100 * msec)).flag Reg.SC_STATUS.PRESENT true).wr Reg.SC_STATUS.STATE scOff).interrupt 223 ∧ v.isSet Reg.SC_CTRL.EN = true :=
  ⟨((zSc.wr Reg.SC_STATUS.PRESENT 0).wr Reg.SC_CTRL.EN 1), ((((((zSc.wr Reg.SC_STATUS.PRESENT 0).wr Reg.SC_CTRL.EN 1)).advance (100 * msec)).flag Reg.SC_STATUS.PRESENT true).wr Reg.SC_STATUS.STATE scOff).interrupt 223, (fun o => (((zSc.wr Reg.SC_STATUS.PRESENT 0).wr Reg.SC_CTRL.EN 1).wr Reg.SC_CMD.OP o).updSd (fun d => { d with last := ((zSc.wr Reg.SC_STATUS.PRESENT 0).wr Reg.SC_CTRL.EN 1).now })), (by decide +kernel), (by decide +kernel), rfl, (by decide +kernel), rfl, (by decide +kernel)⟩

theorem test_meets_PanelAndServiceCardCommandsComplete_25 : ∃ (s : State) (v : State) (started : Nat → State), s.panelServes = true ∧ s.isSet Reg.SC_CMD.BUSY = false ∧ (started = (fun o => (s.wr Reg.SC_CMD.OP o).updSd (fun d => { d with last := s.now }))) ∧ s.isSet Reg.SC_STATUS.POWER = true ∧ v = (s.raise srcScPwrFault).cardOff scFault ∧ v.sd.running = none :=
  ⟨zSc, ((zSc).raise srcScPwrFault).cardOff scFault, (fun o => (zSc.wr Reg.SC_CMD.OP o).updSd (fun d => { d with last := zSc.now })), (by decide +kernel), (by decide +kernel), rfl, (by decide +kernel), rfl, (by decide +kernel)⟩

/-! Hypotheses of StuckButtonIsNotRecognisedUntilReleased. -/

theorem test_meets_StuckButtonIsNotRecognisedUntilReleased_0 : ∃ (s : State) (v : State) (t0 : Nat) (b : Bool), s.panelServes = true ∧ s.blocked b = false ∧ s.pressed b = some t0 ∧ v = s.advanceTo (t0 + s.stuckLimit) :=
  ⟨zFull, (zFull).advanceTo ((((zFull).pressed (false)).get (by decide)) + (zFull).stuckLimit), ((zFull).pressed (false)).get (by decide), false, (by decide), (by decide), (Option.some_get _).symm, rfl⟩

theorem test_meets_StuckButtonIsNotRecognisedUntilReleased_1 : ∃ (s : State), s.panelServes = true ∧ s.panel.presBlocked = true :=
  ⟨(zRun.updPanel (fun p => { p with presBlocked := true })), (by decide +kernel), (by decide +kernel)⟩

theorem test_meets_StuckButtonIsNotRecognisedUntilReleased_2 : ∃ (s : State), s.panelServes = true ∧ s.panel.servBlocked = true :=
  ⟨(zRun.updPanel (fun p => { p with servBlocked := true })), (by decide +kernel), (by decide +kernel)⟩

theorem test_meets_StuckButtonIsNotRecognisedUntilReleased_3 : ∃ (s : State) (t0 : Nat) (b : Bool), s.panelServes = true ∧ s.pressed b = some t0 :=
  ⟨zFull, ((zFull).pressed (false)).get (by decide), false, (by decide), (Option.some_get _).symm⟩

/-! Hypotheses of ManagementSessionCommandsComplete. -/

theorem test_meets_ManagementSessionCommandsComplete_0 : ∃ (s : State) (f : SmlIn) (b : SmlBuf), s.mgmtServes = true ∧ f.opcode = 1 ∧ f.headerOk = true ∧ f.prot = false ∧ f.session = 0 ∧ s.smlToUs false f.net = true ∧ s.smlCarrier f.net = true ∧ f.offset + f.payload.length ≤ smlHelloBytes ∧ takeSegment s.now (tget s.smilia.halves f.net.sender) f.offset f.last f.payload = (b, none) :=
  ⟨zRun, (zSml zSmlS 1 0 [0] 0), (takeSegment (zRun).now (tget (zRun).smilia.halves ((zSml zSmlS 1 0 [0] 0)).net.sender) ((zSml zSmlS 1 0 [0] 0)).offset ((zSml zSmlS 1 0 [0] 0)).last ((zSml zSmlS 1 0 [0] 0)).payload).1, (by decide +kernel), (by decide +kernel), (by decide +kernel), (by decide +kernel), (by decide +kernel), (by decide +kernel), (by decide +kernel), (by decide +kernel), Prod.ext rfl (by decide +kernel)⟩

theorem test_meets_ManagementSessionCommandsComplete_1 : ∃ (s : State) (u : State) (v : State) (f : SmlIn) (msg : List Byte) (b : SmlBuf) (sh : Share), s.mgmtServes = true ∧ f.opcode = 1 ∧ f.headerOk = true ∧ f.prot = false ∧ f.session = 0 ∧ s.smlToUs false f.net = true ∧ s.smlCarrier f.net = true ∧ f.offset + f.payload.length ≤ smlHelloBytes ∧ takeSegment s.now (tget s.smilia.halves f.net.sender) f.offset f.last f.payload = (b, some msg) ∧ msg.length = smlHelloBytes ∧ beAt msg 1 15 = 0 ∧ ((s.updSmilia (fun m => { m with halves := tdel m.halves f.net.sender })).helloRate = (u, true)) ∧ (u.smilia.sessions.find? (fun kv => kv.2.state == .authWait && kv.2.random == beAt msg 16 32) = none) ∧ u.smlAwl = true ∧ u.smilia.sessions.length < u.dictVal 0x1200 1 ∧ u.share (beAt msg 48 32) (slice msg 80 1568) = (sh, v) := by
  refine ⟨(zRun.updSmilia (fun m => { m with halves := [((SmlNet.udp false 1 5 1 smlPort).sender, { since := 0, parts := [(0, List.replicate 1000 0)], endAt := none })] })), ((((zRun.updSmilia (fun m => { m with halves := [((SmlNet.udp false 1 5 1 smlPort).sender, { since := 0, parts := [(0, List.replicate 1000 0)], endAt := none })] }))).updSmilia (fun m => { m with halves := tdel m.halves (({ net := .udp false 1 5 1 smlPort, header := beBytes 1 1 ++ beBytes 1 1 ++ beBytes 2 2 ++ beBytes 4 0 ++ beBytes 8 0 ++ beBytes 4 1 ++ beBytes 4 1000 ++ beBytes 2 648 ++ beBytes 2 0, payload := List.replicate 648 0, tag := none } : SmlIn)).net.sender })).helloRate).1, ((((((zRun.updSmilia (fun m => { m with halves := [((SmlNet.udp false 1 5 1 smlPort).sender, { since := 0, parts := [(0, List.replicate 1000 0)], endAt := none })] }))).updSmilia (fun m => { m with halves := tdel m.halves (({ net := .udp false 1 5 1 smlPort, header := beBytes 1 1 ++ beBytes 1 1 ++ beBytes 2 2 ++ beBytes 4 0 ++ beBytes 8 0 ++ beBytes 4 1 ++ beBytes 4 1000 ++ beBytes 2 648 ++ beBytes 2 0, payload := List.replicate 648 0, tag := none } : SmlIn)).net.sender })).helloRate).1).share (beAt ((takeSegment ((zRun.updSmilia (fun m => { m with halves := [((SmlNet.udp false 1 5 1 smlPort).sender, { since := 0, parts := [(0, List.replicate 1000 0)], endAt := none })] }))).now (tget ((zRun.updSmilia (fun m => { m with halves := [((SmlNet.udp false 1 5 1 smlPort).sender, { since := 0, parts := [(0, List.replicate 1000 0)], endAt := none })] }))).smilia.halves (({ net := .udp false 1 5 1 smlPort, header := beBytes 1 1 ++ beBytes 1 1 ++ beBytes 2 2 ++ beBytes 4 0 ++ beBytes 8 0 ++ beBytes 4 1 ++ beBytes 4 1000 ++ beBytes 2 648 ++ beBytes 2 0, payload := List.replicate 648 0, tag := none } : SmlIn)).net.sender) (({ net := .udp false 1 5 1 smlPort, header := beBytes 1 1 ++ beBytes 1 1 ++ beBytes 2 2 ++ beBytes 4 0 ++ beBytes 8 0 ++ beBytes 4 1 ++ beBytes 4 1000 ++ beBytes 2 648 ++ beBytes 2 0, payload := List.replicate 648 0, tag := none } : SmlIn)).offset (({ net := .udp false 1 5 1 smlPort, header := beBytes 1 1 ++ beBytes 1 1 ++ beBytes 2 2 ++ beBytes 4 0 ++ beBytes 8 0 ++ beBytes 4 1 ++ beBytes 4 1000 ++ beBytes 2 648 ++ beBytes 2 0, payload := List.replicate 648 0, tag := none } : SmlIn)).last (({ net := .udp false 1 5 1 smlPort, header := beBytes 1 1 ++ beBytes 1 1 ++ beBytes 2 2 ++ beBytes 4 0 ++ beBytes 8 0 ++ beBytes 4 1 ++ beBytes 4 1000 ++ beBytes 2 648 ++ beBytes 2 0, payload := List.replicate 648 0, tag := none } : SmlIn)).payload).2.get (by decide +kernel)) 48 32) (slice ((takeSegment ((zRun.updSmilia (fun m => { m with halves := [((SmlNet.udp false 1 5 1 smlPort).sender, { since := 0, parts := [(0, List.replicate 1000 0)], endAt := none })] }))).now (tget ((zRun.updSmilia (fun m => { m with halves := [((SmlNet.udp false 1 5 1 smlPort).sender, { since := 0, parts := [(0, List.replicate 1000 0)], endAt := none })] }))).smilia.halves (({ net := .udp false 1 5 1 smlPort, header := beBytes 1 1 ++ beBytes 1 1 ++ beBytes 2 2 ++ beBytes 4 0 ++ beBytes 8 0 ++ beBytes 4 1 ++ beBytes 4 1000 ++ beBytes 2 648 ++ beBytes 2 0, payload := List.replicate 648 0, tag := none } : SmlIn)).net.sender) (({ net := .udp false 1 5 1 smlPort, header := beBytes 1 1 ++ beBytes 1 1 ++ beBytes 2 2 ++ beBytes 4 0 ++ beBytes 8 0 ++ beBytes 4 1 ++ beBytes 4 1000 ++ beBytes 2 648 ++ beBytes 2 0, payload := List.replicate 648 0, tag := none } : SmlIn)).offset (({ net := .udp false 1 5 1 smlPort, header := beBytes 1 1 ++ beBytes 1 1 ++ beBytes 2 2 ++ beBytes 4 0 ++ beBytes 8 0 ++ beBytes 4 1 ++ beBytes 4 1000 ++ beBytes 2 648 ++ beBytes 2 0, payload := List.replicate 648 0, tag := none } : SmlIn)).last (({ net := .udp false 1 5 1 smlPort, header := beBytes 1 1 ++ beBytes 1 1 ++ beBytes 2 2 ++ beBytes 4 0 ++ beBytes 8 0 ++ beBytes 4 1 ++ beBytes 4 1000 ++ beBytes 2 648 ++ beBytes 2 0, payload := List.replicate 648 0, tag := none } : SmlIn)).payload).2.get (by decide +kernel)) 80 1568)).2, ({ net := .udp false 1 5 1 smlPort, header := beBytes 1 1 ++ beBytes 1 1 ++ beBytes 2 2 ++ beBytes 4 0 ++ beBytes 8 0 ++ beBytes 4 1 ++ beBytes 4 1000 ++ beBytes 2 648 ++ beBytes 2 0, payload := List.replicate 648 0, tag := none } : SmlIn), (takeSegment ((zRun.updSmilia (fun m => { m with halves := [((SmlNet.udp false 1 5 1 smlPort).sender, { since := 0, parts := [(0, List.replicate 1000 0)], endAt := none })] }))).now (tget ((zRun.updSmilia (fun m => { m with halves := [((SmlNet.udp false 1 5 1 smlPort).sender, { since := 0, parts := [(0, List.replicate 1000 0)], endAt := none })] }))).smilia.halves (({ net := .udp false 1 5 1 smlPort, header := beBytes 1 1 ++ beBytes 1 1 ++ beBytes 2 2 ++ beBytes 4 0 ++ beBytes 8 0 ++ beBytes 4 1 ++ beBytes 4 1000 ++ beBytes 2 648 ++ beBytes 2 0, payload := List.replicate 648 0, tag := none } : SmlIn)).net.sender) (({ net := .udp false 1 5 1 smlPort, header := beBytes 1 1 ++ beBytes 1 1 ++ beBytes 2 2 ++ beBytes 4 0 ++ beBytes 8 0 ++ beBytes 4 1 ++ beBytes 4 1000 ++ beBytes 2 648 ++ beBytes 2 0, payload := List.replicate 648 0, tag := none } : SmlIn)).offset (({ net := .udp false 1 5 1 smlPort, header := beBytes 1 1 ++ beBytes 1 1 ++ beBytes 2 2 ++ beBytes 4 0 ++ beBytes 8 0 ++ beBytes 4 1 ++ beBytes 4 1000 ++ beBytes 2 648 ++ beBytes 2 0, payload := List.replicate 648 0, tag := none } : SmlIn)).last (({ net := .udp false 1 5 1 smlPort, header := beBytes 1 1 ++ beBytes 1 1 ++ beBytes 2 2 ++ beBytes 4 0 ++ beBytes 8 0 ++ beBytes 4 1 ++ beBytes 4 1000 ++ beBytes 2 648 ++ beBytes 2 0, payload := List.replicate 648 0, tag := none } : SmlIn)).payload).2.get (by decide +kernel), (takeSegment ((zRun.updSmilia (fun m => { m with halves := [((SmlNet.udp false 1 5 1 smlPort).sender, { since := 0, parts := [(0, List.replicate 1000 0)], endAt := none })] }))).now (tget ((zRun.updSmilia (fun m => { m with halves := [((SmlNet.udp false 1 5 1 smlPort).sender, { since := 0, parts := [(0, List.replicate 1000 0)], endAt := none })] }))).smilia.halves (({ net := .udp false 1 5 1 smlPort, header := beBytes 1 1 ++ beBytes 1 1 ++ beBytes 2 2 ++ beBytes 4 0 ++ beBytes 8 0 ++ beBytes 4 1 ++ beBytes 4 1000 ++ beBytes 2 648 ++ beBytes 2 0, payload := List.replicate 648 0, tag := none } : SmlIn)).net.sender) (({ net := .udp false 1 5 1 smlPort, header := beBytes 1 1 ++ beBytes 1 1 ++ beBytes 2 2 ++ beBytes 4 0 ++ beBytes 8 0 ++ beBytes 4 1 ++ beBytes 4 1000 ++ beBytes 2 648 ++ beBytes 2 0, payload := List.replicate 648 0, tag := none } : SmlIn)).offset (({ net := .udp false 1 5 1 smlPort, header := beBytes 1 1 ++ beBytes 1 1 ++ beBytes 2 2 ++ beBytes 4 0 ++ beBytes 8 0 ++ beBytes 4 1 ++ beBytes 4 1000 ++ beBytes 2 648 ++ beBytes 2 0, payload := List.replicate 648 0, tag := none } : SmlIn)).last (({ net := .udp false 1 5 1 smlPort, header := beBytes 1 1 ++ beBytes 1 1 ++ beBytes 2 2 ++ beBytes 4 0 ++ beBytes 8 0 ++ beBytes 4 1 ++ beBytes 4 1000 ++ beBytes 2 648 ++ beBytes 2 0, payload := List.replicate 648 0, tag := none } : SmlIn)).payload).1, ((((((zRun.updSmilia (fun m => { m with halves := [((SmlNet.udp false 1 5 1 smlPort).sender, { since := 0, parts := [(0, List.replicate 1000 0)], endAt := none })] }))).updSmilia (fun m => { m with halves := tdel m.halves (({ net := .udp false 1 5 1 smlPort, header := beBytes 1 1 ++ beBytes 1 1 ++ beBytes 2 2 ++ beBytes 4 0 ++ beBytes 8 0 ++ beBytes 4 1 ++ beBytes 4 1000 ++ beBytes 2 648 ++ beBytes 2 0, payload := List.replicate 648 0, tag := none } : SmlIn)).net.sender })).helloRate).1).share (beAt ((takeSegment ((zRun.updSmilia (fun m => { m with halves := [((SmlNet.udp false 1 5 1 smlPort).sender, { since := 0, parts := [(0, List.replicate 1000 0)], endAt := none })] }))).now (tget ((zRun.updSmilia (fun m => { m with halves := [((SmlNet.udp false 1 5 1 smlPort).sender, { since := 0, parts := [(0, List.replicate 1000 0)], endAt := none })] }))).smilia.halves (({ net := .udp false 1 5 1 smlPort, header := beBytes 1 1 ++ beBytes 1 1 ++ beBytes 2 2 ++ beBytes 4 0 ++ beBytes 8 0 ++ beBytes 4 1 ++ beBytes 4 1000 ++ beBytes 2 648 ++ beBytes 2 0, payload := List.replicate 648 0, tag := none } : SmlIn)).net.sender) (({ net := .udp false 1 5 1 smlPort, header := beBytes 1 1 ++ beBytes 1 1 ++ beBytes 2 2 ++ beBytes 4 0 ++ beBytes 8 0 ++ beBytes 4 1 ++ beBytes 4 1000 ++ beBytes 2 648 ++ beBytes 2 0, payload := List.replicate 648 0, tag := none } : SmlIn)).offset (({ net := .udp false 1 5 1 smlPort, header := beBytes 1 1 ++ beBytes 1 1 ++ beBytes 2 2 ++ beBytes 4 0 ++ beBytes 8 0 ++ beBytes 4 1 ++ beBytes 4 1000 ++ beBytes 2 648 ++ beBytes 2 0, payload := List.replicate 648 0, tag := none } : SmlIn)).last (({ net := .udp false 1 5 1 smlPort, header := beBytes 1 1 ++ beBytes 1 1 ++ beBytes 2 2 ++ beBytes 4 0 ++ beBytes 8 0 ++ beBytes 4 1 ++ beBytes 4 1000 ++ beBytes 2 648 ++ beBytes 2 0, payload := List.replicate 648 0, tag := none } : SmlIn)).payload).2.get (by decide +kernel)) 48 32) (slice ((takeSegment ((zRun.updSmilia (fun m => { m with halves := [((SmlNet.udp false 1 5 1 smlPort).sender, { since := 0, parts := [(0, List.replicate 1000 0)], endAt := none })] }))).now (tget ((zRun.updSmilia (fun m => { m with halves := [((SmlNet.udp false 1 5 1 smlPort).sender, { since := 0, parts := [(0, List.replicate 1000 0)], endAt := none })] }))).smilia.halves (({ net := .udp false 1 5 1 smlPort, header := beBytes 1 1 ++ beBytes 1 1 ++ beBytes 2 2 ++ beBytes 4 0 ++ beBytes 8 0 ++ beBytes 4 1 ++ beBytes 4 1000 ++ beBytes 2 648 ++ beBytes 2 0, payload := List.replicate 648 0, tag := none } : SmlIn)).net.sender) (({ net := .udp false 1 5 1 smlPort, header := beBytes 1 1 ++ beBytes 1 1 ++ beBytes 2 2 ++ beBytes 4 0 ++ beBytes 8 0 ++ beBytes 4 1 ++ beBytes 4 1000 ++ beBytes 2 648 ++ beBytes 2 0, payload := List.replicate 648 0, tag := none } : SmlIn)).offset (({ net := .udp false 1 5 1 smlPort, header := beBytes 1 1 ++ beBytes 1 1 ++ beBytes 2 2 ++ beBytes 4 0 ++ beBytes 8 0 ++ beBytes 4 1 ++ beBytes 4 1000 ++ beBytes 2 648 ++ beBytes 2 0, payload := List.replicate 648 0, tag := none } : SmlIn)).last (({ net := .udp false 1 5 1 smlPort, header := beBytes 1 1 ++ beBytes 1 1 ++ beBytes 2 2 ++ beBytes 4 0 ++ beBytes 8 0 ++ beBytes 4 1 ++ beBytes 4 1000 ++ beBytes 2 648 ++ beBytes 2 0, payload := List.replicate 648 0, tag := none } : SmlIn)).payload).2.get (by decide +kernel)) 80 1568)).1, ?_, ?_, ?_, ?_, ?_, ?_, ?_, ?_, ?_, ?_, ?_, ?_, ?_, ?_, ?_, ?_⟩
  · exact (by decide +kernel)
  · exact (by decide +kernel)
  · exact (by decide +kernel)
  · exact (by decide +kernel)
  · exact (by decide +kernel)
  · exact (by decide +kernel)
  · exact (by decide +kernel)
  · exact (by decide +kernel)
  · exact Prod.ext rfl (Option.some_get _).symm
  · exact (by decide +kernel)
  · exact (by decide +kernel)
  · exact zSnd (by decide +kernel)
  · exact (by decide +kernel)
  · exact (by decide +kernel)
  · exact (by decide +kernel)
  · exact zEta _

theorem test_meets_ManagementSessionCommandsComplete_2 : ∃ (s : State) (u : State) (v : State) (f : SmlIn) (x : SmlSession), s.acceptSml f smAuth = (u, some x) ∧ x.state = .authWait ∧ u.assemble f.session 0 f.offset f.last f.payload = (v, none) := by
  refine ⟨(zRun.updSmilia (fun m => { m with sessions := [(0, { zSmlS with state := .authWait })] })), (((zRun.updSmilia (fun m => { m with sessions := [(0, { zSmlS with state := .authWait })] })))).setSml (zSml { zSmlS with state := .authWait } smAuth 1 [0] 1).session (zHeard (((zRun.updSmilia (fun m => { m with sessions := [(0, { zSmlS with state := .authWait })] })))) { zSmlS with state := .authWait } (zSml { zSmlS with state := .authWait } smAuth 1 [0] 1)), (((((zRun.updSmilia (fun m => { m with sessions := [(0, { zSmlS with state := .authWait })] })))).setSml (zSml { zSmlS with state := .authWait } smAuth 1 [0] 1).session (zHeard (((zRun.updSmilia (fun m => { m with sessions := [(0, { zSmlS with state := .authWait })] })))) { zSmlS with state := .authWait } (zSml { zSmlS with state := .authWait } smAuth 1 [0] 1))).assemble ((zSml { zSmlS with state := .authWait } smAuth 1 [0] 1)).session 0 ((zSml { zSmlS with state := .authWait } smAuth 1 [0] 1)).offset ((zSml { zSmlS with state := .authWait } smAuth 1 [0] 1)).last ((zSml { zSmlS with state := .authWait } smAuth 1 [0] 1)).payload).1, (zSml { zSmlS with state := .authWait } smAuth 1 [0] 1), zHeard (((zRun.updSmilia (fun m => { m with sessions := [(0, { zSmlS with state := .authWait })] })))) { zSmlS with state := .authWait } (zSml { zSmlS with state := .authWait } smAuth 1 [0] 1), ?_, ?_, ?_⟩
  · exact zHears { zSmlS with state := .authWait }
  · exact (by decide +kernel)
  · exact zSnd (by decide +kernel)

theorem test_meets_ManagementSessionCommandsComplete_3 : ∃ (s : State) (u : State) (v : State) (f : SmlIn) (x : SmlSession) (msg : List Byte), s.acceptSml f smAuth = (u, some x) ∧ x.state = .authWait ∧ u.assemble f.session 0 f.offset f.last f.payload = (v, some msg) :=
  ⟨(zRun.updSmilia (fun m => { m with sessions := [(0, { zSmlS with state := .authWait })] })), (((zRun.updSmilia (fun m => { m with sessions := [(0, { zSmlS with state := .authWait })] })))).setSml (zSml { zSmlS with state := .authWait } smAuth 0 [0]).session (zHeard (((zRun.updSmilia (fun m => { m with sessions := [(0, { zSmlS with state := .authWait })] })))) { zSmlS with state := .authWait } (zSml { zSmlS with state := .authWait } smAuth 0 [0])), (((((zRun.updSmilia (fun m => { m with sessions := [(0, { zSmlS with state := .authWait })] })))).setSml (zSml { zSmlS with state := .authWait } smAuth 0 [0]).session (zHeard (((zRun.updSmilia (fun m => { m with sessions := [(0, { zSmlS with state := .authWait })] })))) { zSmlS with state := .authWait } (zSml { zSmlS with state := .authWait } smAuth 0 [0]))).assemble ((zSml { zSmlS with state := .authWait } smAuth 0 [0])).session 0 ((zSml { zSmlS with state := .authWait } smAuth 0 [0])).offset ((zSml { zSmlS with state := .authWait } smAuth 0 [0])).last ((zSml { zSmlS with state := .authWait } smAuth 0 [0])).payload).1, (zSml { zSmlS with state := .authWait } smAuth 0 [0]), zHeard (((zRun.updSmilia (fun m => { m with sessions := [(0, { zSmlS with state := .authWait })] })))) { zSmlS with state := .authWait } (zSml { zSmlS with state := .authWait } smAuth 0 [0]), (((((zRun.updSmilia (fun m => { m with sessions := [(0, { zSmlS with state := .authWait })] })))).setSml (zSml { zSmlS with state := .authWait } smAuth 0 [0]).session (zHeard (((zRun.updSmilia (fun m => { m with sessions := [(0, { zSmlS with state := .authWait })] })))) { zSmlS with state := .authWait } (zSml { zSmlS with state := .authWait } smAuth 0 [0]))).assemble ((zSml { zSmlS with state := .authWait } smAuth 0 [0])).session 0 ((zSml { zSmlS with state := .authWait } smAuth 0 [0])).offset ((zSml { zSmlS with state := .authWait } smAuth 0 [0])).last ((zSml { zSmlS with state := .authWait } smAuth 0 [0])).payload).2.get (by decide +kernel), zHears { zSmlS with state := .authWait }, (by decide +kernel), Prod.ext rfl (Option.some_get _).symm⟩

theorem test_meets_ManagementSessionCommandsComplete_4 : ∃ (s : State) (x : SmlSession) (sid : Nat), s.sml sid = some x ∧ x.state = .authWait :=
  ⟨(zRun.updSmilia (fun m => { m with sessions := [(0, { zSmlS with state := .authWait })] })), (((zRun.updSmilia (fun m => { m with sessions := [(0, { zSmlS with state := .authWait })] }))).sml (0)).get (by decide +kernel), 0, (Option.some_get _).symm, (by decide +kernel)⟩

theorem test_meets_ManagementSessionCommandsComplete_5 : ∃ (s : State) (u : State) (f : SmlIn) (x : SmlSession), s.acceptSml f smKeyUpdate = (u, some x) ∧ f.len = 4 ∧ beAt f.payload 0 4 = x.keyGen + 1 :=
  ⟨zRun, ((zRun)).setSml (zSml zSmlS smKeyUpdate 0 (beBytes 4 1)).session (zHeard ((zRun)) zSmlS (zSml zSmlS smKeyUpdate 0 (beBytes 4 1))), (zSml zSmlS smKeyUpdate 0 (beBytes 4 1)), zHeard ((zRun)) zSmlS (zSml zSmlS smKeyUpdate 0 (beBytes 4 1)), zHears zSmlS, (by decide +kernel), (by decide +kernel)⟩

theorem test_meets_ManagementSessionCommandsComplete_6 : ∃ (s : State) (u : State) (f : SmlIn) (x : SmlSession), s.acceptSml f smClose = (u, some x) :=
  ⟨zFull, ((zFull)).setSml (zSml zSmlS smClose).session (zHeard ((zFull)) zSmlS (zSml zSmlS smClose)), (zSml zSmlS smClose), zHeard ((zFull)) zSmlS (zSml zSmlS smClose), zHears zSmlS⟩

theorem test_meets_ManagementSessionCommandsComplete_7 : ∃ (s : State) (u : State) (f : SmlIn) (x : SmlSession), s.acceptSml f smKeepalive = (u, some x) :=
  ⟨zFull, ((zFull)).setSml (zSml zSmlS smKeepalive).session (zHeard ((zFull)) zSmlS (zSml zSmlS smKeepalive)), (zSml zSmlS smKeepalive), zHeard ((zFull)) zSmlS (zSml zSmlS smKeepalive), zHears zSmlS⟩

theorem test_meets_ManagementSessionCommandsComplete_8 : ∃ (s : State) (u : State) (f : SmlIn) (x : SmlSession), s.acceptSml f smReset = (u, some x) :=
  ⟨zFull, ((zFull)).setSml (zSml zSmlS smReset).session (zHeard ((zFull)) zSmlS (zSml zSmlS smReset)), (zSml zSmlS smReset), zHeard ((zFull)) zSmlS (zSml zSmlS smReset), zHears zSmlS⟩

theorem test_meets_ManagementSessionCommandsComplete_9 : ∃ (s : State) (x : SmlSession) (sid : Nat), s.sml sid = some x ∧ x.state = .established :=
  ⟨zFull, ((zFull).sml (0)).get (by decide), 0, (Option.some_get _).symm, (by decide)⟩

theorem test_meets_ManagementSessionCommandsComplete_10 : ∃ (s : State) (x : SmlSession) (sid : Nat) (n : Nat), s.sml sid = some x ∧ x.closedAt = some n :=
  ⟨zFull, ((zFull).sml (0)).get (by decide), 0, ((((zFull).sml (0)).get (by decide)).closedAt).get (by decide), (Option.some_get _).symm, (Option.some_get _).symm⟩

theorem test_meets_ManagementSessionCommandsComplete_11 : ∃ (s : State) (n : Nat) (b : SmlBuf), tget s.smilia.halves n = some b :=
  ⟨zFull, 0, (tget (zFull).smilia.halves (0)).get (by decide), (Option.some_get _).symm⟩

theorem test_meets_ManagementSessionCommandsComplete_12 : ∃ (s : State) (x : SmlSession) (sid : Nat) (n : Nat) (b : SmlBuf), s.sml sid = some x ∧ tget x.bufs n = some b :=
  ⟨zFull, ((zFull).sml (0)).get (by decide), 0, 0, (tget (((zFull).sml (0)).get (by decide)).bufs (0)).get (by decide), (Option.some_get _).symm, (Option.some_get _).symm⟩

/-! Hypotheses of DictionaryRequestsComplete. -/

theorem test_meets_DictionaryRequestsComplete_0 : ∃ (s : State) (v : State) (f : SmlIn) (x : SmlSession) (e : DictEntry) (msg : List Byte), s.takesRequest f smRead v x msg ∧ msg.length = 4 ∧ beAt msg 3 1 = 0 ∧ dictFind x.role (beAt msg 0 2) (beAt msg 2 1) DictEntry.rd = .ok e ∧ e.acc ≠ .wo ∧ e.typ ≠ .domain ∧ e.idx ≠ 0x5012 :=
  ⟨zRun, ((((zRun).setSml 0 (zHeard (zRun) zSmlS (zSml zSmlS smRead 1 [0x10, 0x06, 0, 0]))).setSml 0 ({ zHeard (zRun) zSmlS (zSml zSmlS smRead 1 [0x10, 0x06, 0, 0]) with topReq := 1 })).assemble 0 1 0 true [0x10, 0x06, 0, 0]).1.scan 0, (zSml zSmlS smRead 1 [0x10, 0x06, 0, 0]), ((((((zRun).setSml 0 (zHeard (zRun) zSmlS (zSml zSmlS smRead 1 [0x10, 0x06, 0, 0]))).setSml 0 ({ zHeard (zRun) zSmlS (zSml zSmlS smRead 1 [0x10, 0x06, 0, 0]) with topReq := 1 })).assemble 0 1 0 true [0x10, 0x06, 0, 0]).1.scan 0).sml 0).getD (zHeard (zRun) zSmlS (zSml zSmlS smRead 1 [0x10, 0x06, 0, 0])), okOf (dictFind (((((((zRun).setSml 0 (zHeard (zRun) zSmlS (zSml zSmlS smRead 1 [0x10, 0x06, 0, 0]))).setSml 0 ({ zHeard (zRun) zSmlS (zSml zSmlS smRead 1 [0x10, 0x06, 0, 0]) with topReq := 1 })).assemble 0 1 0 true [0x10, 0x06, 0, 0]).1.scan 0).sml 0).getD (zHeard (zRun) zSmlS (zSml zSmlS smRead 1 [0x10, 0x06, 0, 0]))).role (beAt ([0x10, 0x06, 0, 0]) 0 2) (beAt ([0x10, 0x06, 0, 0]) 2 1) DictEntry.rd) (cmdEntry 0 .u8 0 0 0), [0x10, 0x06, 0, 0], ⟨_, _, _, zHears zSmlS, rfl, by decide +kernel, by decide +kernel, rfl, Prod.ext rfl (by rfl), rfl, rfl⟩, (by decide +kernel), (by decide +kernel), okOf_eq (by decide +kernel), (by decide +kernel), (by decide +kernel), (by decide +kernel)⟩

theorem test_meets_DictionaryRequestsComplete_1 : ∃ (s : State) (v : State) (w : State) (f : SmlIn) (x : SmlSession) (e : DictEntry) (msg : List Byte) (g : SmlFacts), s.takesRequest f smWrite v x msg ∧ 4 ≤ msg.length ∧ beAt msg 3 1 = 0 ∧ dictFind x.role (beAt msg 0 2) (beAt msg 2 1) DictEntry.wr = .ok e ∧ e.acc = .rw ∧ (v.safe && needsUnits e.idx) = false ∧ v.valueRefusal x e (msg.drop 4) = 0 ∧ (!e.saved || g.saved) = true ∧ w = (v.putDict f.session e (ofBe (msg.drop 4))).endVendor := by
  refine ⟨(zAdm 2), (((((zAdm 2)).setSml 0 (zHeard ((zAdm 2)) { zSmlS with role := 2 } (zSml { zSmlS with role := 2 } smWrite 1 ([0x20, 0, 1, 0] ++ beBytes 4 100)))).setSml 0 ({ zHeard ((zAdm 2)) { zSmlS with role := 2 } (zSml { zSmlS with role := 2 } smWrite 1 ([0x20, 0, 1, 0] ++ beBytes 4 100)) with topReq := 1 })).assemble 0 1 0 true ([0x20, 0, 1, 0] ++ beBytes 4 100)).1.scan 0, (((((((zAdm 2)).setSml 0 (zHeard ((zAdm 2)) { zSmlS with role := 2 } (zSml { zSmlS with role := 2 } smWrite 1 ([0x20, 0, 1, 0] ++ beBytes 4 100)))).setSml 0 ({ zHeard ((zAdm 2)) { zSmlS with role := 2 } (zSml { zSmlS with role := 2 } smWrite 1 ([0x20, 0, 1, 0] ++ beBytes 4 100)) with topReq := 1 })).assemble 0 1 0 true ([0x20, 0, 1, 0] ++ beBytes 4 100)).1.scan 0).putDict ((zSml { zSmlS with role := 2 } smWrite 1 ([0x20, 0, 1, 0] ++ beBytes 4 100))).session (okOf (dictFind ((((((((zAdm 2)).setSml 0 (zHeard ((zAdm 2)) { zSmlS with role := 2 } (zSml { zSmlS with role := 2 } smWrite 1 ([0x20, 0, 1, 0] ++ beBytes 4 100)))).setSml 0 ({ zHeard ((zAdm 2)) { zSmlS with role := 2 } (zSml { zSmlS with role := 2 } smWrite 1 ([0x20, 0, 1, 0] ++ beBytes 4 100)) with topReq := 1 })).assemble 0 1 0 true ([0x20, 0, 1, 0] ++ beBytes 4 100)).1.scan 0).sml 0).getD (zHeard ((zAdm 2)) { zSmlS with role := 2 } (zSml { zSmlS with role := 2 } smWrite 1 ([0x20, 0, 1, 0] ++ beBytes 4 100)))).role (beAt (([0x20, 0, 1, 0] ++ beBytes 4 100)) 0 2) (beAt (([0x20, 0, 1, 0] ++ beBytes 4 100)) 2 1) DictEntry.wr) (cmdEntry 0 .u8 0 0 0)) (ofBe ((([0x20, 0, 1, 0] ++ beBytes 4 100)).drop 4))).endVendor, (zSml { zSmlS with role := 2 } smWrite 1 ([0x20, 0, 1, 0] ++ beBytes 4 100)), (((((((zAdm 2)).setSml 0 (zHeard ((zAdm 2)) { zSmlS with role := 2 } (zSml { zSmlS with role := 2 } smWrite 1 ([0x20, 0, 1, 0] ++ beBytes 4 100)))).setSml 0 ({ zHeard ((zAdm 2)) { zSmlS with role := 2 } (zSml { zSmlS with role := 2 } smWrite 1 ([0x20, 0, 1, 0] ++ beBytes 4 100)) with topReq := 1 })).assemble 0 1 0 true ([0x20, 0, 1, 0] ++ beBytes 4 100)).1.scan 0).sml 0).getD (zHeard ((zAdm 2)) { zSmlS with role := 2 } (zSml { zSmlS with role := 2 } smWrite 1 ([0x20, 0, 1, 0] ++ beBytes 4 100))), okOf (dictFind ((((((((zAdm 2)).setSml 0 (zHeard ((zAdm 2)) { zSmlS with role := 2 } (zSml { zSmlS with role := 2 } smWrite 1 ([0x20, 0, 1, 0] ++ beBytes 4 100)))).setSml 0 ({ zHeard ((zAdm 2)) { zSmlS with role := 2 } (zSml { zSmlS with role := 2 } smWrite 1 ([0x20, 0, 1, 0] ++ beBytes 4 100)) with topReq := 1 })).assemble 0 1 0 true ([0x20, 0, 1, 0] ++ beBytes 4 100)).1.scan 0).sml 0).getD (zHeard ((zAdm 2)) { zSmlS with role := 2 } (zSml { zSmlS with role := 2 } smWrite 1 ([0x20, 0, 1, 0] ++ beBytes 4 100)))).role (beAt (([0x20, 0, 1, 0] ++ beBytes 4 100)) 0 2) (beAt (([0x20, 0, 1, 0] ++ beBytes 4 100)) 2 1) DictEntry.wr) (cmdEntry 0 .u8 0 0 0), ([0x20, 0, 1, 0] ++ beBytes 4 100), zFacts, ?_, ?_, ?_, ?_, ?_, ?_, ?_, ?_, ?_⟩
  · exact ⟨_, _, _, zHears { zSmlS with role := 2 }, rfl, by decide +kernel, by decide +kernel, rfl, Prod.ext rfl (by rfl), rfl, rfl⟩
  · exact (by decide +kernel)
  · exact (by decide +kernel)
  · exact okOf_eq (by decide +kernel)
  · exact (by decide +kernel)
  · exact (by decide +kernel)
  · exact (by decide +kernel)
  · exact (by decide +kernel)
  · exact rfl

theorem test_meets_DictionaryRequestsComplete_2 : ∃ (s : State) (v : State) (w : State) (f : SmlIn) (x : SmlSession) (e : DictEntry) (h : Nat) (n : Nat) (off : Nat) (msg : List Byte), s.takesRequest f smSegRead v x msg ∧ msg.length = 20 ∧ beAt msg 3 1 = 0 ∧ beAt msg 18 2 = 0 ∧ n = beAt msg 16 2 ∧ 0 < n ∧ n ≤ 1376 ∧ off = beAt msg 8 8 ∧ dictFind x.role (beAt msg 0 2) (beAt msg 2 1) DictEntry.rd = .ok e ∧ e.acc ≠ .wo ∧ e.acc ≠ .cmd ∧ e.typ = .domain ∧ beAt msg 4 4 = 0 ∧ x.reads.length < 4 ∧ v.takeHandle = (h, w) := by
  refine ⟨(zAdm 2), (((((zAdm 2)).setSml 0 (zHeard ((zAdm 2)) { zSmlS with role := 2 } (zSml { zSmlS with role := 2 } smSegRead 1 ([0x12, 1, 0, 0] ++ List.replicate 12 0 ++ beBytes 2 100 ++ [0, 0])))).setSml 0 ({ zHeard ((zAdm 2)) { zSmlS with role := 2 } (zSml { zSmlS with role := 2 } smSegRead 1 ([0x12, 1, 0, 0] ++ List.replicate 12 0 ++ beBytes 2 100 ++ [0, 0])) with topReq := 1 })).assemble 0 1 0 true ([0x12, 1, 0, 0] ++ List.replicate 12 0 ++ beBytes 2 100 ++ [0, 0])).1.scan 0, (((((((zAdm 2)).setSml 0 (zHeard ((zAdm 2)) { zSmlS with role := 2 } (zSml { zSmlS with role := 2 } smSegRead 1 ([0x12, 1, 0, 0] ++ List.replicate 12 0 ++ beBytes 2 100 ++ [0, 0])))).setSml 0 ({ zHeard ((zAdm 2)) { zSmlS with role := 2 } (zSml { zSmlS with role := 2 } smSegRead 1 ([0x12, 1, 0, 0] ++ List.replicate 12 0 ++ beBytes 2 100 ++ [0, 0])) with topReq := 1 })).assemble 0 1 0 true ([0x12, 1, 0, 0] ++ List.replicate 12 0 ++ beBytes 2 100 ++ [0, 0])).1.scan 0).takeHandle).2, (zSml { zSmlS with role := 2 } smSegRead 1 ([0x12, 1, 0, 0] ++ List.replicate 12 0 ++ beBytes 2 100 ++ [0, 0])), (((((((zAdm 2)).setSml 0 (zHeard ((zAdm 2)) { zSmlS with role := 2 } (zSml { zSmlS with role := 2 } smSegRead 1 ([0x12, 1, 0, 0] ++ List.replicate 12 0 ++ beBytes 2 100 ++ [0, 0])))).setSml 0 ({ zHeard ((zAdm 2)) { zSmlS with role := 2 } (zSml { zSmlS with role := 2 } smSegRead 1 ([0x12, 1, 0, 0] ++ List.replicate 12 0 ++ beBytes 2 100 ++ [0, 0])) with topReq := 1 })).assemble 0 1 0 true ([0x12, 1, 0, 0] ++ List.replicate 12 0 ++ beBytes 2 100 ++ [0, 0])).1.scan 0).sml 0).getD (zHeard ((zAdm 2)) { zSmlS with role := 2 } (zSml { zSmlS with role := 2 } smSegRead 1 ([0x12, 1, 0, 0] ++ List.replicate 12 0 ++ beBytes 2 100 ++ [0, 0]))), okOf (dictFind ((((((((zAdm 2)).setSml 0 (zHeard ((zAdm 2)) { zSmlS with role := 2 } (zSml { zSmlS with role := 2 } smSegRead 1 ([0x12, 1, 0, 0] ++ List.replicate 12 0 ++ beBytes 2 100 ++ [0, 0])))).setSml 0 ({ zHeard ((zAdm 2)) { zSmlS with role := 2 } (zSml { zSmlS with role := 2 } smSegRead 1 ([0x12, 1, 0, 0] ++ List.replicate 12 0 ++ beBytes 2 100 ++ [0, 0])) with topReq := 1 })).assemble 0 1 0 true ([0x12, 1, 0, 0] ++ List.replicate 12 0 ++ beBytes 2 100 ++ [0, 0])).1.scan 0).sml 0).getD (zHeard ((zAdm 2)) { zSmlS with role := 2 } (zSml { zSmlS with role := 2 } smSegRead 1 ([0x12, 1, 0, 0] ++ List.replicate 12 0 ++ beBytes 2 100 ++ [0, 0])))).role (beAt (([0x12, 1, 0, 0] ++ List.replicate 12 0 ++ beBytes 2 100 ++ [0, 0])) 0 2) (beAt (([0x12, 1, 0, 0] ++ List.replicate 12 0 ++ beBytes 2 100 ++ [0, 0])) 2 1) DictEntry.rd) (cmdEntry 0 .u8 0 0 0), (((((((zAdm 2)).setSml 0 (zHeard ((zAdm 2)) { zSmlS with role := 2 } (zSml { zSmlS with role := 2 } smSegRead 1 ([0x12, 1, 0, 0] ++ List.replicate 12 0 ++ beBytes 2 100 ++ [0, 0])))).setSml 0 ({ zHeard ((zAdm 2)) { zSmlS with role := 2 } (zSml { zSmlS with role := 2 } smSegRead 1 ([0x12, 1, 0, 0] ++ List.replicate 12 0 ++ beBytes 2 100 ++ [0, 0])) with topReq := 1 })).assemble 0 1 0 true ([0x12, 1, 0, 0] ++ List.replicate 12 0 ++ beBytes 2 100 ++ [0, 0])).1.scan 0).takeHandle).1, beAt (([0x12, 1, 0, 0] ++ List.replicate 12 0 ++ beBytes 2 100 ++ [0, 0])) 16 2, beAt (([0x12, 1, 0, 0] ++ List.replicate 12 0 ++ beBytes 2 100 ++ [0, 0])) 8 8, ([0x12, 1, 0, 0] ++ List.replicate 12 0 ++ beBytes 2 100 ++ [0, 0]), ?_, ?_, ?_, ?_, ?_, ?_, ?_, ?_, ?_, ?_, ?_, ?_, ?_, ?_, ?_⟩
  · exact ⟨_, _, _, zHears { zSmlS with role := 2 }, rfl, by decide +kernel, by decide +kernel, rfl, Prod.ext rfl (by rfl), rfl, rfl⟩
  · exact (by decide +kernel)
  · exact (by decide +kernel)
  · exact (by decide +kernel)
  · exact rfl
  · exact (by decide +kernel)
  · exact (by decide +kernel)
  · exact rfl
  · exact okOf_eq (by decide +kernel)
  · exact (by decide +kernel)
  · exact (by decide +kernel)
  · exact (by decide +kernel)
  · exact (by decide +kernel)
  · exact (by decide +kernel)
  · exact Prod.ext rfl rfl

theorem test_meets_DictionaryRequestsComplete_3 : ∃ (s : State) (v : State) (f : SmlIn) (x : SmlSession) (e : DictEntry) (h : Nat) (n : Nat) (off : Nat) (msg : List Byte) (rd : SmlRead), s.takesRequest f smSegRead v x msg ∧ msg.length = 20 ∧ beAt msg 3 1 = 0 ∧ beAt msg 18 2 = 0 ∧ n = beAt msg 16 2 ∧ 0 < n ∧ n ≤ 1376 ∧ off = beAt msg 8 8 ∧ dictFind x.role (beAt msg 0 2) (beAt msg 2 1) DictEntry.rd = .ok e ∧ e.acc ≠ .wo ∧ e.acc ≠ .cmd ∧ e.typ = .domain ∧ h = beAt msg 4 4 ∧ h ≠ 0 ∧ tget x.reads h = some rd ∧ rd.idx = beAt msg 0 2 ∧ rd.sub = e.sub := by
  refine ⟨((zAdm 2).updSmilia (fun m => { m with sessions := [(0, { zSmlS with role := 2, reads := [(1, { idx := 0x1201, sub := 0, content := [], lastUse := 0 })] })] })), ((((((zAdm 2).updSmilia (fun m => { m with sessions := [(0, { zSmlS with role := 2, reads := [(1, { idx := 0x1201, sub := 0, content := [], lastUse := 0 })] })] }))).setSml 0 (zHeard (((zAdm 2).updSmilia (fun m => { m with sessions := [(0, { zSmlS with role := 2, reads := [(1, { idx := 0x1201, sub := 0, content := [], lastUse := 0 })] })] }))) { zSmlS with role := 2, reads := [(1, { idx := 0x1201, sub := 0, content := [], lastUse := 0 })] } (zSml { zSmlS with role := 2, reads := [(1, { idx := 0x1201, sub := 0, content := [], lastUse := 0 })] } smSegRead 1 ([0x12, 1, 0, 0] ++ beBytes 4 1 ++ List.replicate 8 0 ++ beBytes 2 100 ++ [0, 0])))).setSml 0 ({ zHeard (((zAdm 2).updSmilia (fun m => { m with sessions := [(0, { zSmlS with role := 2, reads := [(1, { idx := 0x1201, sub := 0, content := [], lastUse := 0 })] })] }))) { zSmlS with role := 2, reads := [(1, { idx := 0x1201, sub := 0, content := [], lastUse := 0 })] } (zSml { zSmlS with role := 2, reads := [(1, { idx := 0x1201, sub := 0, content := [], lastUse := 0 })] } smSegRead 1 ([0x12, 1, 0, 0] ++ beBytes 4 1 ++ List.replicate 8 0 ++ beBytes 2 100 ++ [0, 0])) with topReq := 1 })).assemble 0 1 0 true ([0x12, 1, 0, 0] ++ beBytes 4 1 ++ List.replicate 8 0 ++ beBytes 2 100 ++ [0, 0])).1.scan 0, (zSml { zSmlS with role := 2, reads := [(1, { idx := 0x1201, sub := 0, content := [], lastUse := 0 })] } smSegRead 1 ([0x12, 1, 0, 0] ++ beBytes 4 1 ++ List.replicate 8 0 ++ beBytes 2 100 ++ [0, 0])), ((((((((zAdm 2).updSmilia (fun m => { m with sessions := [(0, { zSmlS with role := 2, reads := [(1, { idx := 0x1201, sub := 0, content := [], lastUse := 0 })] })] }))).setSml 0 (zHeard (((zAdm 2).updSmilia (fun m => { m with sessions := [(0, { zSmlS with role := 2, reads := [(1, { idx := 0x1201, sub := 0, content := [], lastUse := 0 })] })] }))) { zSmlS with role := 2, reads := [(1, { idx := 0x1201, sub := 0, content := [], lastUse := 0 })] } (zSml { zSmlS with role := 2, reads := [(1, { idx := 0x1201, sub := 0, content := [], lastUse := 0 })] } smSegRead 1 ([0x12, 1, 0, 0] ++ beBytes 4 1 ++ List.replicate 8 0 ++ beBytes 2 100 ++ [0, 0])))).setSml 0 ({ zHeard (((zAdm 2).updSmilia (fun m => { m with sessions := [(0, { zSmlS with role := 2, reads := [(1, { idx := 0x1201, sub := 0, content := [], lastUse := 0 })] })] }))) { zSmlS with role := 2, reads := [(1, { idx := 0x1201, sub := 0, content := [], lastUse := 0 })] } (zSml { zSmlS with role := 2, reads := [(1, { idx := 0x1201, sub := 0, content := [], lastUse := 0 })] } smSegRead 1 ([0x12, 1, 0, 0] ++ beBytes 4 1 ++ List.replicate 8 0 ++ beBytes 2 100 ++ [0, 0])) with topReq := 1 })).assemble 0 1 0 true ([0x12, 1, 0, 0] ++ beBytes 4 1 ++ List.replicate 8 0 ++ beBytes 2 100 ++ [0, 0])).1.scan 0).sml 0).getD (zHeard (((zAdm 2).updSmilia (fun m => { m with sessions := [(0, { zSmlS with role := 2, reads := [(1, { idx := 0x1201, sub := 0, content := [], lastUse := 0 })] })] }))) { zSmlS with role := 2, reads := [(1, { idx := 0x1201, sub := 0, content := [], lastUse := 0 })] } (zSml { zSmlS with role := 2, reads := [(1, { idx := 0x1201, sub := 0, content := [], lastUse := 0 })] } smSegRead 1 ([0x12, 1, 0, 0] ++ beBytes 4 1 ++ List.replicate 8 0 ++ beBytes 2 100 ++ [0, 0]))), okOf (dictFind (((((((((zAdm 2).updSmilia (fun m => { m with sessions := [(0, { zSmlS with role := 2, reads := [(1, { idx := 0x1201, sub := 0, content := [], lastUse := 0 })] })] }))).setSml 0 (zHeard (((zAdm 2).updSmilia (fun m => { m with sessions := [(0, { zSmlS with role := 2, reads := [(1, { idx := 0x1201, sub := 0, content := [], lastUse := 0 })] })] }))) { zSmlS with role := 2, reads := [(1, { idx := 0x1201, sub := 0, content := [], lastUse := 0 })] } (zSml { zSmlS with role := 2, reads := [(1, { idx := 0x1201, sub := 0, content := [], lastUse := 0 })] } smSegRead 1 ([0x12, 1, 0, 0] ++ beBytes 4 1 ++ List.replicate 8 0 ++ beBytes 2 100 ++ [0, 0])))).setSml 0 ({ zHeard (((zAdm 2).updSmilia (fun m => { m with sessions := [(0, { zSmlS with role := 2, reads := [(1, { idx := 0x1201, sub := 0, content := [], lastUse := 0 })] })] }))) { zSmlS with role := 2, reads := [(1, { idx := 0x1201, sub := 0, content := [], lastUse := 0 })] } (zSml { zSmlS with role := 2, reads := [(1, { idx := 0x1201, sub := 0, content := [], lastUse := 0 })] } smSegRead 1 ([0x12, 1, 0, 0] ++ beBytes 4 1 ++ List.replicate 8 0 ++ beBytes 2 100 ++ [0, 0])) with topReq := 1 })).assemble 0 1 0 true ([0x12, 1, 0, 0] ++ beBytes 4 1 ++ List.replicate 8 0 ++ beBytes 2 100 ++ [0, 0])).1.scan 0).sml 0).getD (zHeard (((zAdm 2).updSmilia (fun m => { m with sessions := [(0, { zSmlS with role := 2, reads := [(1, { idx := 0x1201, sub := 0, content := [], lastUse := 0 })] })] }))) { zSmlS with role := 2, reads := [(1, { idx := 0x1201, sub := 0, content := [], lastUse := 0 })] } (zSml { zSmlS with role := 2, reads := [(1, { idx := 0x1201, sub := 0, content := [], lastUse := 0 })] } smSegRead 1 ([0x12, 1, 0, 0] ++ beBytes 4 1 ++ List.replicate 8 0 ++ beBytes 2 100 ++ [0, 0])))).role (beAt (([0x12, 1, 0, 0] ++ beBytes 4 1 ++ List.replicate 8 0 ++ beBytes 2 100 ++ [0, 0])) 0 2) (beAt (([0x12, 1, 0, 0] ++ beBytes 4 1 ++ List.replicate 8 0 ++ beBytes 2 100 ++ [0, 0])) 2 1) DictEntry.rd) (cmdEntry 0 .u8 0 0 0), beAt (([0x12, 1, 0, 0] ++ beBytes 4 1 ++ List.replicate 8 0 ++ beBytes 2 100 ++ [0, 0])) 4 4, beAt (([0x12, 1, 0, 0] ++ beBytes 4 1 ++ List.replicate 8 0 ++ beBytes 2 100 ++ [0, 0])) 16 2, beAt (([0x12, 1, 0, 0] ++ beBytes 4 1 ++ List.replicate 8 0 ++ beBytes 2 100 ++ [0, 0])) 8 8, ([0x12, 1, 0, 0] ++ beBytes 4 1 ++ List.replicate 8 0 ++ beBytes 2 100 ++ [0, 0]), (tget (((((((((zAdm 2).updSmilia (fun m => { m with sessions := [(0, { zSmlS with role := 2, reads := [(1, { idx := 0x1201, sub := 0, content := [], lastUse := 0 })] })] }))).setSml 0 (zHeard (((zAdm 2).updSmilia (fun m => { m with sessions := [(0, { zSmlS with role := 2, reads := [(1, { idx := 0x1201, sub := 0, content := [], lastUse := 0 })] })] }))) { zSmlS with role := 2, reads := [(1, { idx := 0x1201, sub := 0, content := [], lastUse := 0 })] } (zSml { zSmlS with role := 2, reads := [(1, { idx := 0x1201, sub := 0, content := [], lastUse := 0 })] } smSegRead 1 ([0x12, 1, 0, 0] ++ beBytes 4 1 ++ List.replicate 8 0 ++ beBytes 2 100 ++ [0, 0])))).setSml 0 ({ zHeard (((zAdm 2).updSmilia (fun m => { m with sessions := [(0, { zSmlS with role := 2, reads := [(1, { idx := 0x1201, sub := 0, content := [], lastUse := 0 })] })] }))) { zSmlS with role := 2, reads := [(1, { idx := 0x1201, sub := 0, content := [], lastUse := 0 })] } (zSml { zSmlS with role := 2, reads := [(1, { idx := 0x1201, sub := 0, content := [], lastUse := 0 })] } smSegRead 1 ([0x12, 1, 0, 0] ++ beBytes 4 1 ++ List.replicate 8 0 ++ beBytes 2 100 ++ [0, 0])) with topReq := 1 })).assemble 0 1 0 true ([0x12, 1, 0, 0] ++ beBytes 4 1 ++ List.replicate 8 0 ++ beBytes 2 100 ++ [0, 0])).1.scan 0).sml 0).getD (zHeard (((zAdm 2).updSmilia (fun m => { m with sessions := [(0, { zSmlS with role := 2, reads := [(1, { idx := 0x1201, sub := 0, content := [], lastUse := 0 })] })] }))) { zSmlS with role := 2, reads := [(1, { idx := 0x1201, sub := 0, content := [], lastUse := 0 })] } (zSml { zSmlS with role := 2, reads := [(1, { idx := 0x1201, sub := 0, content := [], lastUse := 0 })] } smSegRead 1 ([0x12, 1, 0, 0] ++ beBytes 4 1 ++ List.replicate 8 0 ++ beBytes 2 100 ++ [0, 0])))).reads (beAt (([0x12, 1, 0, 0] ++ beBytes 4 1 ++ List.replicate 8 0 ++ beBytes 2 100 ++ [0, 0])) 4 4)).get (by decide +kernel), ?_, ?_, ?_, ?_, ?_, ?_, ?_, ?_, ?_, ?_, ?_, ?_, ?_, ?_, ?_, ?_, ?_⟩
  · exact ⟨_, _, _, zHears { zSmlS with role := 2, reads := [(1, { idx := 0x1201, sub := 0, content := [], lastUse := 0 })] }, rfl, by decide +kernel, by decide +kernel, rfl, Prod.ext rfl (by rfl), rfl, rfl⟩
  · exact (by decide +kernel)
  · exact (by decide +kernel)
  · exact (by decide +kernel)
  · exact rfl
  · exact (by decide +kernel)
  · exact (by decide +kernel)
  · exact rfl
  · exact okOf_eq (by decide +kernel)
  · exact (by decide +kernel)
  · exact (by decide +kernel)
  · exact (by decide +kernel)
  · exact rfl
  · exact (by decide +kernel)
  · exact (Option.some_get _).symm
  · exact (by decide +kernel)
  · exact (by decide +kernel)

theorem test_meets_DictionaryRequestsComplete_4 : ∃ (s : State) (v : State) (w : State) (f : SmlIn) (x : SmlSession) (e : DictEntry) (h : Nat) (msg : List Byte), s.takesRequest f smSegBegin v x msg ∧ msg.length = 12 ∧ beAt msg 3 1 = 0 ∧ dictFind x.role (beAt msg 0 2) (beAt msg 2 1) DictEntry.wr = .ok e ∧ e.acc = .rw ∧ (v.safe && needsUnits e.idx) = false ∧ e.typ = .domain ∧ beAt msg 4 8 < 2 ^ 32 ∧ (v.smilia.writes.any (fun q => q.2.idx == e.idx && q.2.sub == e.sub) = false) ∧ v.takeHandle = (h, w) := by
  refine ⟨(zAdm 2), (((((zAdm 2)).setSml 0 (zHeard ((zAdm 2)) { zSmlS with role := 2 } (zSml { zSmlS with role := 2 } smSegBegin 1 ([0x12, 1, 0, 0] ++ beBytes 8 100)))).setSml 0 ({ zHeard ((zAdm 2)) { zSmlS with role := 2 } (zSml { zSmlS with role := 2 } smSegBegin 1 ([0x12, 1, 0, 0] ++ beBytes 8 100)) with topReq := 1 })).assemble 0 1 0 true ([0x12, 1, 0, 0] ++ beBytes 8 100)).1.scan 0, (((((((zAdm 2)).setSml 0 (zHeard ((zAdm 2)) { zSmlS with role := 2 } (zSml { zSmlS with role := 2 } smSegBegin 1 ([0x12, 1, 0, 0] ++ beBytes 8 100)))).setSml 0 ({ zHeard ((zAdm 2)) { zSmlS with role := 2 } (zSml { zSmlS with role := 2 } smSegBegin 1 ([0x12, 1, 0, 0] ++ beBytes 8 100)) with topReq := 1 })).assemble 0 1 0 true ([0x12, 1, 0, 0] ++ beBytes 8 100)).1.scan 0).takeHandle).2, (zSml { zSmlS with role := 2 } smSegBegin 1 ([0x12, 1, 0, 0] ++ beBytes 8 100)), (((((((zAdm 2)).setSml 0 (zHeard ((zAdm 2)) { zSmlS with role := 2 } (zSml { zSmlS with role := 2 } smSegBegin 1 ([0x12, 1, 0, 0] ++ beBytes 8 100)))).setSml 0 ({ zHeard ((zAdm 2)) { zSmlS with role := 2 } (zSml { zSmlS with role := 2 } smSegBegin 1 ([0x12, 1, 0, 0] ++ beBytes 8 100)) with topReq := 1 })).assemble 0 1 0 true ([0x12, 1, 0, 0] ++ beBytes 8 100)).1.scan 0).sml 0).getD (zHeard ((zAdm 2)) { zSmlS with role := 2 } (zSml { zSmlS with role := 2 } smSegBegin 1 ([0x12, 1, 0, 0] ++ beBytes 8 100))), okOf (dictFind ((((((((zAdm 2)).setSml 0 (zHeard ((zAdm 2)) { zSmlS with role := 2 } (zSml { zSmlS with role := 2 } smSegBegin 1 ([0x12, 1, 0, 0] ++ beBytes 8 100)))).setSml 0 ({ zHeard ((zAdm 2)) { zSmlS with role := 2 } (zSml { zSmlS with role := 2 } smSegBegin 1 ([0x12, 1, 0, 0] ++ beBytes 8 100)) with topReq := 1 })).assemble 0 1 0 true ([0x12, 1, 0, 0] ++ beBytes 8 100)).1.scan 0).sml 0).getD (zHeard ((zAdm 2)) { zSmlS with role := 2 } (zSml { zSmlS with role := 2 } smSegBegin 1 ([0x12, 1, 0, 0] ++ beBytes 8 100)))).role (beAt (([0x12, 1, 0, 0] ++ beBytes 8 100)) 0 2) (beAt (([0x12, 1, 0, 0] ++ beBytes 8 100)) 2 1) DictEntry.wr) (cmdEntry 0 .u8 0 0 0), (((((((zAdm 2)).setSml 0 (zHeard ((zAdm 2)) { zSmlS with role := 2 } (zSml { zSmlS with role := 2 } smSegBegin 1 ([0x12, 1, 0, 0] ++ beBytes 8 100)))).setSml 0 ({ zHeard ((zAdm 2)) { zSmlS with role := 2 } (zSml { zSmlS with role := 2 } smSegBegin 1 ([0x12, 1, 0, 0] ++ beBytes 8 100)) with topReq := 1 })).assemble 0 1 0 true ([0x12, 1, 0, 0] ++ beBytes 8 100)).1.scan 0).takeHandle).1, ([0x12, 1, 0, 0] ++ beBytes 8 100), ?_, ?_, ?_, ?_, ?_, ?_, ?_, ?_, ?_, ?_⟩
  · exact ⟨_, _, _, zHears { zSmlS with role := 2 }, rfl, by decide +kernel, by decide +kernel, rfl, Prod.ext rfl (by rfl), rfl, rfl⟩
  · exact (by decide +kernel)
  · exact (by decide +kernel)
  · exact okOf_eq (by decide +kernel)
  · exact (by decide +kernel)
  · exact (by decide +kernel)
  · exact (by decide +kernel)
  · exact (by decide +kernel)
  · exact (by decide +kernel)
  · exact Prod.ext rfl rfl

theorem test_meets_DictionaryRequestsComplete_5 : ∃ (s : State) (v : State) (f : SmlIn) (x : SmlSession) (h : Nat) (off : Nat) (msg : List Byte) (hd : SmlWrite), s.takesRequest f smSegWrite v x msg ∧ h = beAt msg 0 4 ∧ 16 ≤ msg.length ∧ beAt msg 4 4 = 0 ∧ msg.length ≤ 1400 ∧ v.writeHandle f.session h = some hd ∧ off = beAt msg 8 8 ∧ off + (msg.length - 16) ≤ hd.total :=
  ⟨zRun, ((((zRun).setSml 0 (zHeard (zRun) zSmlS (zSml zSmlS smSegWrite 1 (List.replicate 16 0)))).setSml 0 ({ zHeard (zRun) zSmlS (zSml zSmlS smSegWrite 1 (List.replicate 16 0)) with topReq := 1 })).assemble 0 1 0 true (List.replicate 16 0)).1.scan 0, (zSml zSmlS smSegWrite 1 (List.replicate 16 0)), ((((((zRun).setSml 0 (zHeard (zRun) zSmlS (zSml zSmlS smSegWrite 1 (List.replicate 16 0)))).setSml 0 ({ zHeard (zRun) zSmlS (zSml zSmlS smSegWrite 1 (List.replicate 16 0)) with topReq := 1 })).assemble 0 1 0 true (List.replicate 16 0)).1.scan 0).sml 0).getD (zHeard (zRun) zSmlS (zSml zSmlS smSegWrite 1 (List.replicate 16 0))), beAt ((List.replicate 16 0)) 0 4, beAt ((List.replicate 16 0)) 8 8, (List.replicate 16 0), ((((((zRun).setSml 0 (zHeard (zRun) zSmlS (zSml zSmlS smSegWrite 1 (List.replicate 16 0)))).setSml 0 ({ zHeard (zRun) zSmlS (zSml zSmlS smSegWrite 1 (List.replicate 16 0)) with topReq := 1 })).assemble 0 1 0 true (List.replicate 16 0)).1.scan 0).writeHandle ((zSml zSmlS smSegWrite 1 (List.replicate 16 0))).session (beAt ((List.replicate 16 0)) 0 4)).get (by decide +kernel), ⟨_, _, _, zHears zSmlS, rfl, by decide +kernel, by decide +kernel, rfl, Prod.ext rfl (by rfl), rfl, rfl⟩, rfl, (by decide +kernel), (by decide +kernel), (by decide +kernel), (Option.some_get _).symm, rfl, (by decide +kernel)⟩

theorem test_meets_DictionaryRequestsComplete_6 : ∃ (s : State) (v : State) (w : State) (f : SmlIn) (x : SmlSession) (h : Nat) (msg : List Byte) (hd : SmlWrite), s.takesRequest f smSegEnd v x msg ∧ h = beAt msg 0 4 ∧ msg.length = 40 ∧ beAt msg 4 4 = 0 ∧ v.writeHandle f.session h = some hd ∧ (w = v.updSmilia (fun m => { m with writes := tdel m.writes h })) ∧ covered hd.parts < hd.total :=
  ⟨(zRun.updSmilia (fun m => { m with writes := [(0, { session := 0, idx := 0, sub := 0, total := 1, parts := [], lastUse := 0 })] })), (((((zRun.updSmilia (fun m => { m with writes := [(0, { session := 0, idx := 0, sub := 0, total := 1, parts := [], lastUse := 0 })] }))).setSml 0 (zHeard ((zRun.updSmilia (fun m => { m with writes := [(0, { session := 0, idx := 0, sub := 0, total := 1, parts := [], lastUse := 0 })] }))) zSmlS (zSml zSmlS smSegEnd 1 (List.replicate 40 0)))).setSml 0 ({ zHeard ((zRun.updSmilia (fun m => { m with writes := [(0, { session := 0, idx := 0, sub := 0, total := 1, parts := [], lastUse := 0 })] }))) zSmlS (zSml zSmlS smSegEnd 1 (List.replicate 40 0)) with topReq := 1 })).assemble 0 1 0 true (List.replicate 40 0)).1.scan 0, ((((((zRun.updSmilia (fun m => { m with writes := [(0, { session := 0, idx := 0, sub := 0, total := 1, parts := [], lastUse := 0 })] }))).setSml 0 (zHeard ((zRun.updSmilia (fun m => { m with writes := [(0, { session := 0, idx := 0, sub := 0, total := 1, parts := [], lastUse := 0 })] }))) zSmlS (zSml zSmlS smSegEnd 1 (List.replicate 40 0)))).setSml 0 ({ zHeard ((zRun.updSmilia (fun m => { m with writes := [(0, { session := 0, idx := 0, sub := 0, total := 1, parts := [], lastUse := 0 })] }))) zSmlS (zSml zSmlS smSegEnd 1 (List.replicate 40 0)) with topReq := 1 })).assemble 0 1 0 true (List.replicate 40 0)).1.scan 0).updSmilia (fun m => { m with writes := tdel m.writes (beAt ((List.replicate 40 0)) 0 4) }), (zSml zSmlS smSegEnd 1 (List.replicate 40 0)), (((((((zRun.updSmilia (fun m => { m with writes := [(0, { session := 0, idx := 0, sub := 0, total := 1, parts := [], lastUse := 0 })] }))).setSml 0 (zHeard ((zRun.updSmilia (fun m => { m with writes := [(0, { session := 0, idx := 0, sub := 0, total := 1, parts := [], lastUse := 0 })] }))) zSmlS (zSml zSmlS smSegEnd 1 (List.replicate 40 0)))).setSml 0 ({ zHeard ((zRun.updSmilia (fun m => { m with writes := [(0, { session := 0, idx := 0, sub := 0, total := 1, parts := [], lastUse := 0 })] }))) zSmlS (zSml zSmlS smSegEnd 1 (List.replicate 40 0)) with topReq := 1 })).assemble 0 1 0 true (List.replicate 40 0)).1.scan 0).sml 0).getD (zHeard ((zRun.updSmilia (fun m => { m with writes := [(0, { session := 0, idx := 0, sub := 0, total := 1, parts := [], lastUse := 0 })] }))) zSmlS (zSml zSmlS smSegEnd 1 (List.replicate 40 0))), beAt ((List.replicate 40 0)) 0 4, (List.replicate 40 0), (((((((zRun.updSmilia (fun m => { m with writes := [(0, { session := 0, idx := 0, sub := 0, total := 1, parts := [], lastUse := 0 })] }))).setSml 0 (zHeard ((zRun.updSmilia (fun m => { m with writes := [(0, { session := 0, idx := 0, sub := 0, total := 1, parts := [], lastUse := 0 })] }))) zSmlS (zSml zSmlS smSegEnd 1 (List.replicate 40 0)))).setSml 0 ({ zHeard ((zRun.updSmilia (fun m => { m with writes := [(0, { session := 0, idx := 0, sub := 0, total := 1, parts := [], lastUse := 0 })] }))) zSmlS (zSml zSmlS smSegEnd 1 (List.replicate 40 0)) with topReq := 1 })).assemble 0 1 0 true (List.replicate 40 0)).1.scan 0).writeHandle ((zSml zSmlS smSegEnd 1 (List.replicate 40 0))).session (beAt ((List.replicate 40 0)) 0 4)).get (by decide +kernel), ⟨_, _, _, zHears zSmlS, rfl, by decide +kernel, by decide +kernel, rfl, Prod.ext rfl (by rfl), rfl, rfl⟩, rfl, (by decide +kernel), (by decide +kernel), (Option.some_get _).symm, rfl, (by decide +kernel)⟩

theorem test_meets_DictionaryRequestsComplete_8 : ∃ (s : State) (v : State) (f : SmlIn) (x : SmlSession) (msg : List Byte) (hd : SmlWrite), s.takesRequest f smSegAbort v x msg ∧ msg.length = 4 ∧ v.writeHandle f.session (beAt msg 0 4) = some hd :=
  ⟨zRun, ((((zRun).setSml 0 (zHeard (zRun) zSmlS (zSml zSmlS smSegAbort 1 (List.replicate 4 0)))).setSml 0 ({ zHeard (zRun) zSmlS (zSml zSmlS smSegAbort 1 (List.replicate 4 0)) with topReq := 1 })).assemble 0 1 0 true (List.replicate 4 0)).1.scan 0, (zSml zSmlS smSegAbort 1 (List.replicate 4 0)), ((((((zRun).setSml 0 (zHeard (zRun) zSmlS (zSml zSmlS smSegAbort 1 (List.replicate 4 0)))).setSml 0 ({ zHeard (zRun) zSmlS (zSml zSmlS smSegAbort 1 (List.replicate 4 0)) with topReq := 1 })).assemble 0 1 0 true (List.replicate 4 0)).1.scan 0).sml 0).getD (zHeard (zRun) zSmlS (zSml zSmlS smSegAbort 1 (List.replicate 4 0))), (List.replicate 4 0), ((((((zRun).setSml 0 (zHeard (zRun) zSmlS (zSml zSmlS smSegAbort 1 (List.replicate 4 0)))).setSml 0 ({ zHeard (zRun) zSmlS (zSml zSmlS smSegAbort 1 (List.replicate 4 0)) with topReq := 1 })).assemble 0 1 0 true (List.replicate 4 0)).1.scan 0).writeHandle ((zSml zSmlS smSegAbort 1 (List.replicate 4 0))).session (beAt ((List.replicate 4 0)) 0 4)).get (by decide +kernel), ⟨_, _, _, zHears zSmlS, rfl, by decide +kernel, by decide +kernel, rfl, Prod.ext rfl (by rfl), rfl, rfl⟩, (by decide +kernel), (Option.some_get _).symm⟩

theorem test_meets_DictionaryRequestsComplete_9 : ∃ (s : State) (h : Nat) (sid : Nat) (hd : SmlWrite), s.writeHandle sid h = some hd :=
  ⟨zFull, 0, 0, ((zFull).writeHandle (0) (0)).get (by decide), (Option.some_get _).symm⟩

theorem test_meets_DictionaryRequestsComplete_10 : ∃ (s : State) (x : SmlSession) (h : Nat) (sid : Nat) (rd : SmlRead), s.sml sid = some x ∧ tget x.reads h = some rd :=
  ⟨zFull, ((zFull).sml (0)).get (by decide), 0, 0, (tget (((zFull).sml (0)).get (by decide)).reads (0)).get (by decide), (Option.some_get _).symm, (Option.some_get _).symm⟩

/-! Hypotheses of SubscriptionAndPortCommandsComplete. -/

theorem test_meets_SubscriptionAndPortCommandsComplete_0 : ∃ (s : State) (v : State) (f : SmlIn) (x : SmlSession) (e : DictEntry) (n : Nat) (msg : List Byte), s.takesRequest f smSubscribe v x msg ∧ msg.length = 8 ∧ beAt msg 3 1 = 0 ∧ beAt msg 6 2 = 0 ∧ 10 ≤ beAt msg 4 2 ∧ beAt msg 4 2 ≤ 60000 ∧ dictFind x.role (beAt msg 0 2) (if beAt msg 2 1 = 0xFF then (dictSubs (beAt msg 0 2)).headD 0 else beAt msg 2 1) DictEntry.rd = .ok e ∧ e.acc ≠ .wo ∧ (tfirst x.subs (fun _ k => k.idx == beAt msg 0 2 && k.sub == beAt msg 2 1) = some n) := by
  refine ⟨(zRun.updSmilia (fun m => { m with sessions := [(0, { zSmlS with subs := [(1, { idx := 0x1006, sub := 0, interval := 10, lastSent := some 0, seen := [], held := [] })] })] })), (((((zRun.updSmilia (fun m => { m with sessions := [(0, { zSmlS with subs := [(1, { idx := 0x1006, sub := 0, interval := 10, lastSent := some 0, seen := [], held := [] })] })] }))).setSml 0 (zHeard ((zRun.updSmilia (fun m => { m with sessions := [(0, { zSmlS with subs := [(1, { idx := 0x1006, sub := 0, interval := 10, lastSent := some 0, seen := [], held := [] })] })] }))) { zSmlS with subs := [(1, { idx := 0x1006, sub := 0, interval := 10, lastSent := some 0, seen := [], held := [] })] } (zSml { zSmlS with subs := [(1, { idx := 0x1006, sub := 0, interval := 10, lastSent := some 0, seen := [], held := [] })] } smSubscribe 1 ([0x10, 0x06, 0, 0] ++ beBytes 2 10 ++ [0, 0])))).setSml 0 ({ zHeard ((zRun.updSmilia (fun m => { m with sessions := [(0, { zSmlS with subs := [(1, { idx := 0x1006, sub := 0, interval := 10, lastSent := some 0, seen := [], held := [] })] })] }))) { zSmlS with subs := [(1, { idx := 0x1006, sub := 0, interval := 10, lastSent := some 0, seen := [], held := [] })] } (zSml { zSmlS with subs := [(1, { idx := 0x1006, sub := 0, interval := 10, lastSent := some 0, seen := [], held := [] })] } smSubscribe 1 ([0x10, 0x06, 0, 0] ++ beBytes 2 10 ++ [0, 0])) with topReq := 1 })).assemble 0 1 0 true ([0x10, 0x06, 0, 0] ++ beBytes 2 10 ++ [0, 0])).1.scan 0, (zSml { zSmlS with subs := [(1, { idx := 0x1006, sub := 0, interval := 10, lastSent := some 0, seen := [], held := [] })] } smSubscribe 1 ([0x10, 0x06, 0, 0] ++ beBytes 2 10 ++ [0, 0])), (((((((zRun.updSmilia (fun m => { m with sessions := [(0, { zSmlS with subs := [(1, { idx := 0x1006, sub := 0, interval := 10, lastSent := some 0, seen := [], held := [] })] })] }))).setSml 0 (zHeard ((zRun.updSmilia (fun m => { m with sessions := [(0, { zSmlS with subs := [(1, { idx := 0x1006, sub := 0, interval := 10, lastSent := some 0, seen := [], held := [] })] })] }))) { zSmlS with subs := [(1, { idx := 0x1006, sub := 0, interval := 10, lastSent := some 0, seen := [], held := [] })] } (zSml { zSmlS with subs := [(1, { idx := 0x1006, sub := 0, interval := 10, lastSent := some 0, seen := [], held := [] })] } smSubscribe 1 ([0x10, 0x06, 0, 0] ++ beBytes 2 10 ++ [0, 0])))).setSml 0 ({ zHeard ((zRun.updSmilia (fun m => { m with sessions := [(0, { zSmlS with subs := [(1, { idx := 0x1006, sub := 0, interval := 10, lastSent := some 0, seen := [], held := [] })] })] }))) { zSmlS with subs := [(1, { idx := 0x1006, sub := 0, interval := 10, lastSent := some 0, seen := [], held := [] })] } (zSml { zSmlS with subs := [(1, { idx := 0x1006, sub := 0, interval := 10, lastSent := some 0, seen := [], held := [] })] } smSubscribe 1 ([0x10, 0x06, 0, 0] ++ beBytes 2 10 ++ [0, 0])) with topReq := 1 })).assemble 0 1 0 true ([0x10, 0x06, 0, 0] ++ beBytes 2 10 ++ [0, 0])).1.scan 0).sml 0).getD (zHeard ((zRun.updSmilia (fun m => { m with sessions := [(0, { zSmlS with subs := [(1, { idx := 0x1006, sub := 0, interval := 10, lastSent := some 0, seen := [], held := [] })] })] }))) { zSmlS with subs := [(1, { idx := 0x1006, sub := 0, interval := 10, lastSent := some 0, seen := [], held := [] })] } (zSml { zSmlS with subs := [(1, { idx := 0x1006, sub := 0, interval := 10, lastSent := some 0, seen := [], held := [] })] } smSubscribe 1 ([0x10, 0x06, 0, 0] ++ beBytes 2 10 ++ [0, 0]))), okOf (dictFind ((((((((zRun.updSmilia (fun m => { m with sessions := [(0, { zSmlS with subs := [(1, { idx := 0x1006, sub := 0, interval := 10, lastSent := some 0, seen := [], held := [] })] })] }))).setSml 0 (zHeard ((zRun.updSmilia (fun m => { m with sessions := [(0, { zSmlS with subs := [(1, { idx := 0x1006, sub := 0, interval := 10, lastSent := some 0, seen := [], held := [] })] })] }))) { zSmlS with subs := [(1, { idx := 0x1006, sub := 0, interval := 10, lastSent := some 0, seen := [], held := [] })] } (zSml { zSmlS with subs := [(1, { idx := 0x1006, sub := 0, interval := 10, lastSent := some 0, seen := [], held := [] })] } smSubscribe 1 ([0x10, 0x06, 0, 0] ++ beBytes 2 10 ++ [0, 0])))).setSml 0 ({ zHeard ((zRun.updSmilia (fun m => { m with sessions := [(0, { zSmlS with subs := [(1, { idx := 0x1006, sub := 0, interval := 10, lastSent := some 0, seen := [], held := [] })] })] }))) { zSmlS with subs := [(1, { idx := 0x1006, sub := 0, interval := 10, lastSent := some 0, seen := [], held := [] })] } (zSml { zSmlS with subs := [(1, { idx := 0x1006, sub := 0, interval := 10, lastSent := some 0, seen := [], held := [] })] } smSubscribe 1 ([0x10, 0x06, 0, 0] ++ beBytes 2 10 ++ [0, 0])) with topReq := 1 })).assemble 0 1 0 true ([0x10, 0x06, 0, 0] ++ beBytes 2 10 ++ [0, 0])).1.scan 0).sml 0).getD (zHeard ((zRun.updSmilia (fun m => { m with sessions := [(0, { zSmlS with subs := [(1, { idx := 0x1006, sub := 0, interval := 10, lastSent := some 0, seen := [], held := [] })] })] }))) { zSmlS with subs := [(1, { idx := 0x1006, sub := 0, interval := 10, lastSent := some 0, seen := [], held := [] })] } (zSml { zSmlS with subs := [(1, { idx := 0x1006, sub := 0, interval := 10, lastSent := some 0, seen := [], held := [] })] } smSubscribe 1 ([0x10, 0x06, 0, 0] ++ beBytes 2 10 ++ [0, 0])))).role (beAt (([0x10, 0x06, 0, 0] ++ beBytes 2 10 ++ [0, 0])) 0 2) (if beAt (([0x10, 0x06, 0, 0] ++ beBytes 2 10 ++ [0, 0])) 2 1 = 0xFF then (dictSubs (beAt (([0x10, 0x06, 0, 0] ++ beBytes 2 10 ++ [0, 0])) 0 2)).headD 0 else beAt (([0x10, 0x06, 0, 0] ++ beBytes 2 10 ++ [0, 0])) 2 1) DictEntry.rd) (cmdEntry 0 .u8 0 0 0), (tfirst ((((((((zRun.updSmilia (fun m => { m with sessions := [(0, { zSmlS with subs := [(1, { idx := 0x1006, sub := 0, interval := 10, lastSent := some 0, seen := [], held := [] })] })] }))).setSml 0 (zHeard ((zRun.updSmilia (fun m => { m with sessions := [(0, { zSmlS with subs := [(1, { idx := 0x1006, sub := 0, interval := 10, lastSent := some 0, seen := [], held := [] })] })] }))) { zSmlS with subs := [(1, { idx := 0x1006, sub := 0, interval := 10, lastSent := some 0, seen := [], held := [] })] } (zSml { zSmlS with subs := [(1, { idx := 0x1006, sub := 0, interval := 10, lastSent := some 0, seen := [], held := [] })] } smSubscribe 1 ([0x10, 0x06, 0, 0] ++ beBytes 2 10 ++ [0, 0])))).setSml 0 ({ zHeard ((zRun.updSmilia (fun m => { m with sessions := [(0, { zSmlS with subs := [(1, { idx := 0x1006, sub := 0, interval := 10, lastSent := some 0, seen := [], held := [] })] })] }))) { zSmlS with subs := [(1, { idx := 0x1006, sub := 0, interval := 10, lastSent := some 0, seen := [], held := [] })] } (zSml { zSmlS with subs := [(1, { idx := 0x1006, sub := 0, interval := 10, lastSent := some 0, seen := [], held := [] })] } smSubscribe 1 ([0x10, 0x06, 0, 0] ++ beBytes 2 10 ++ [0, 0])) with topReq := 1 })).assemble 0 1 0 true ([0x10, 0x06, 0, 0] ++ beBytes 2 10 ++ [0, 0])).1.scan 0).sml 0).getD (zHeard ((zRun.updSmilia (fun m => { m with sessions := [(0, { zSmlS with subs := [(1, { idx := 0x1006, sub := 0, interval := 10, lastSent := some 0, seen := [], held := [] })] })] }))) { zSmlS with subs := [(1, { idx := 0x1006, sub := 0, interval := 10, lastSent := some 0, seen := [], held := [] })] } (zSml { zSmlS with subs := [(1, { idx := 0x1006, sub := 0, interval := 10, lastSent := some 0, seen := [], held := [] })] } smSubscribe 1 ([0x10, 0x06, 0, 0] ++ beBytes 2 10 ++ [0, 0])))).subs (fun _ k => k.idx == beAt (([0x10, 0x06, 0, 0] ++ beBytes 2 10 ++ [0, 0])) 0 2 && k.sub == beAt (([0x10, 0x06, 0, 0] ++ beBytes 2 10 ++ [0, 0])) 2 1)).get (by decide +kernel), ([0x10, 0x06, 0, 0] ++ beBytes 2 10 ++ [0, 0]), ?_, ?_, ?_, ?_, ?_, ?_, ?_, ?_, ?_⟩
  · exact ⟨_, _, _, zHears { zSmlS with subs := [(1, { idx := 0x1006, sub := 0, interval := 10, lastSent := some 0, seen := [], held := [] })] }, rfl, by decide +kernel, by decide +kernel, rfl, Prod.ext rfl (by rfl), rfl, rfl⟩
  · exact (by decide +kernel)
  · exact (by decide +kernel)
  · exact (by decide +kernel)
  · exact (by decide +kernel)
  · exact (by decide +kernel)
  · exact okOf_eq (by decide +kernel)
  · exact (by decide +kernel)
  · exact (Option.some_get _).symm

theorem test_meets_SubscriptionAndPortCommandsComplete_1 : ∃ (s : State) (v : State) (f : SmlIn) (x : SmlSession) (e : DictEntry) (n : Nat) (msg : List Byte) (q : SmlSub), s.takesRequest f smSubscribe v x msg ∧ msg.length = 8 ∧ beAt msg 3 1 = 0 ∧ beAt msg 6 2 = 0 ∧ 10 ≤ beAt msg 4 2 ∧ beAt msg 4 2 ≤ 60000 ∧ dictFind x.role (beAt msg 0 2) (if beAt msg 2 1 = 0xFF then (dictSubs (beAt msg 0 2)).headD 0 else beAt msg 2 1) DictEntry.rd = .ok e ∧ e.acc ≠ .wo ∧ (tfirst x.subs (fun _ k => k.idx == beAt msg 0 2 && k.sub == beAt msg 2 1) = none) ∧ x.subs.length < 64 ∧ n = lowestFree (x.subs.length + 1) 1 (x.subs.map Prod.fst) ∧ q = { idx := beAt msg 0 2, sub := beAt msg 2 1, interval := beAt msg 4 2, lastSent := none, seen := [], held := [] } := by
  refine ⟨zRun, ((((zRun).setSml 0 (zHeard (zRun) zSmlS (zSml zSmlS smSubscribe 1 ([0x10, 0x06, 0, 0] ++ beBytes 2 10 ++ [0, 0])))).setSml 0 ({ zHeard (zRun) zSmlS (zSml zSmlS smSubscribe 1 ([0x10, 0x06, 0, 0] ++ beBytes 2 10 ++ [0, 0])) with topReq := 1 })).assemble 0 1 0 true ([0x10, 0x06, 0, 0] ++ beBytes 2 10 ++ [0, 0])).1.scan 0, (zSml zSmlS smSubscribe 1 ([0x10, 0x06, 0, 0] ++ beBytes 2 10 ++ [0, 0])), ((((((zRun).setSml 0 (zHeard (zRun) zSmlS (zSml zSmlS smSubscribe 1 ([0x10, 0x06, 0, 0] ++ beBytes 2 10 ++ [0, 0])))).setSml 0 ({ zHeard (zRun) zSmlS (zSml zSmlS smSubscribe 1 ([0x10, 0x06, 0, 0] ++ beBytes 2 10 ++ [0, 0])) with topReq := 1 })).assemble 0 1 0 true ([0x10, 0x06, 0, 0] ++ beBytes 2 10 ++ [0, 0])).1.scan 0).sml 0).getD (zHeard (zRun) zSmlS (zSml zSmlS smSubscribe 1 ([0x10, 0x06, 0, 0] ++ beBytes 2 10 ++ [0, 0]))), okOf (dictFind (((((((zRun).setSml 0 (zHeard (zRun) zSmlS (zSml zSmlS smSubscribe 1 ([0x10, 0x06, 0, 0] ++ beBytes 2 10 ++ [0, 0])))).setSml 0 ({ zHeard (zRun) zSmlS (zSml zSmlS smSubscribe 1 ([0x10, 0x06, 0, 0] ++ beBytes 2 10 ++ [0, 0])) with topReq := 1 })).assemble 0 1 0 true ([0x10, 0x06, 0, 0] ++ beBytes 2 10 ++ [0, 0])).1.scan 0).sml 0).getD (zHeard (zRun) zSmlS (zSml zSmlS smSubscribe 1 ([0x10, 0x06, 0, 0] ++ beBytes 2 10 ++ [0, 0])))).role (beAt (([0x10, 0x06, 0, 0] ++ beBytes 2 10 ++ [0, 0])) 0 2) (if beAt (([0x10, 0x06, 0, 0] ++ beBytes 2 10 ++ [0, 0])) 2 1 = 0xFF then (dictSubs (beAt (([0x10, 0x06, 0, 0] ++ beBytes 2 10 ++ [0, 0])) 0 2)).headD 0 else beAt (([0x10, 0x06, 0, 0] ++ beBytes 2 10 ++ [0, 0])) 2 1) DictEntry.rd) (cmdEntry 0 .u8 0 0 0), lowestFree ((((((((zRun).setSml 0 (zHeard (zRun) zSmlS (zSml zSmlS smSubscribe 1 ([0x10, 0x06, 0, 0] ++ beBytes 2 10 ++ [0, 0])))).setSml 0 ({ zHeard (zRun) zSmlS (zSml zSmlS smSubscribe 1 ([0x10, 0x06, 0, 0] ++ beBytes 2 10 ++ [0, 0])) with topReq := 1 })).assemble 0 1 0 true ([0x10, 0x06, 0, 0] ++ beBytes 2 10 ++ [0, 0])).1.scan 0).sml 0).getD (zHeard (zRun) zSmlS (zSml zSmlS smSubscribe 1 ([0x10, 0x06, 0, 0] ++ beBytes 2 10 ++ [0, 0])))).subs.length + 1) 1 ((((((((zRun).setSml 0 (zHeard (zRun) zSmlS (zSml zSmlS smSubscribe 1 ([0x10, 0x06, 0, 0] ++ beBytes 2 10 ++ [0, 0])))).setSml 0 ({ zHeard (zRun) zSmlS (zSml zSmlS smSubscribe 1 ([0x10, 0x06, 0, 0] ++ beBytes 2 10 ++ [0, 0])) with topReq := 1 })).assemble 0 1 0 true ([0x10, 0x06, 0, 0] ++ beBytes 2 10 ++ [0, 0])).1.scan 0).sml 0).getD (zHeard (zRun) zSmlS (zSml zSmlS smSubscribe 1 ([0x10, 0x06, 0, 0] ++ beBytes 2 10 ++ [0, 0])))).subs.map Prod.fst), ([0x10, 0x06, 0, 0] ++ beBytes 2 10 ++ [0, 0]), { idx := beAt (([0x10, 0x06, 0, 0] ++ beBytes 2 10 ++ [0, 0])) 0 2, sub := beAt (([0x10, 0x06, 0, 0] ++ beBytes 2 10 ++ [0, 0])) 2 1, interval := beAt (([0x10, 0x06, 0, 0] ++ beBytes 2 10 ++ [0, 0])) 4 2, lastSent := none, seen := [], held := [] }, ?_, ?_, ?_, ?_, ?_, ?_, ?_, ?_, ?_, ?_, ?_, ?_⟩
  · exact ⟨_, _, _, zHears zSmlS, rfl, by decide +kernel, by decide +kernel, rfl, Prod.ext rfl (by rfl), rfl, rfl⟩
  · exact (by decide +kernel)
  · exact (by decide +kernel)
  · exact (by decide +kernel)
  · exact (by decide +kernel)
  · exact (by decide +kernel)
  · exact okOf_eq (by decide +kernel)
  · exact (by decide +kernel)
  · exact (by decide +kernel)
  · exact (by decide +kernel)
  · exact rfl
  · exact rfl

theorem test_meets_SubscriptionAndPortCommandsComplete_2 : ∃ (s : State) (v : State) (f : SmlIn) (x : SmlSession) (msg : List Byte) (q : SmlSub), s.takesRequest f smUnsubscribe v x msg ∧ msg.length = 4 ∧ beAt msg 2 2 = 0 ∧ tget x.subs (beAt msg 0 2) = some q :=
  ⟨zRun, ((((zRun).setSml 0 (zHeard (zRun) zSmlS (zSml zSmlS smUnsubscribe 1 (List.replicate 4 0)))).setSml 0 ({ zHeard (zRun) zSmlS (zSml zSmlS smUnsubscribe 1 (List.replicate 4 0)) with topReq := 1 })).assemble 0 1 0 true (List.replicate 4 0)).1.scan 0, (zSml zSmlS smUnsubscribe 1 (List.replicate 4 0)), ((((((zRun).setSml 0 (zHeard (zRun) zSmlS (zSml zSmlS smUnsubscribe 1 (List.replicate 4 0)))).setSml 0 ({ zHeard (zRun) zSmlS (zSml zSmlS smUnsubscribe 1 (List.replicate 4 0)) with topReq := 1 })).assemble 0 1 0 true (List.replicate 4 0)).1.scan 0).sml 0).getD (zHeard (zRun) zSmlS (zSml zSmlS smUnsubscribe 1 (List.replicate 4 0))), (List.replicate 4 0), (tget (((((((zRun).setSml 0 (zHeard (zRun) zSmlS (zSml zSmlS smUnsubscribe 1 (List.replicate 4 0)))).setSml 0 ({ zHeard (zRun) zSmlS (zSml zSmlS smUnsubscribe 1 (List.replicate 4 0)) with topReq := 1 })).assemble 0 1 0 true (List.replicate 4 0)).1.scan 0).sml 0).getD (zHeard (zRun) zSmlS (zSml zSmlS smUnsubscribe 1 (List.replicate 4 0)))).subs (beAt ((List.replicate 4 0)) 0 2)).get (by decide +kernel), ⟨_, _, _, zHears zSmlS, rfl, by decide +kernel, by decide +kernel, rfl, Prod.ext rfl (by rfl), rfl, rfl⟩, (by decide +kernel), (by decide +kernel), (Option.some_get _).symm⟩

theorem test_meets_SubscriptionAndPortCommandsComplete_3 : ∃ (s : State) (w : State) (x : SmlSession) (n : Nat) (sid : Nat) (t0 : Nat) (q : SmlSub), s.sml sid = some x ∧ tget x.subs n = some q ∧ q.lastSent = some t0 ∧ q.held ≠ [] ∧ (w = (s.advanceTo (t0 + q.interval * msec)).updSml sid (fun z => { z with subs := tmod z.subs n (fun k => { k with held := [] }) })) :=
  ⟨(zRun.updSmilia (fun m => { m with sessions := [(0, { zSmlS with subs := [(0, { idx := 0, sub := 0, interval := 10, lastSent := some 0, seen := [], held := [(0, 0)] })] })] })), (((zRun.updSmilia (fun m => { m with sessions := [(0, { zSmlS with subs := [(0, { idx := 0, sub := 0, interval := 10, lastSent := some 0, seen := [], held := [(0, 0)] })] })] }))).advanceTo ((0) + ((tget ((((zRun.updSmilia (fun m => { m with sessions := [(0, { zSmlS with subs := [(0, { idx := 0, sub := 0, interval := 10, lastSent := some 0, seen := [], held := [(0, 0)] })] })] }))).sml (0)).get (by decide +kernel)).subs (0)).get (by decide +kernel)).interval * msec)).updSml (0) (fun z => { z with subs := tmod z.subs (0) (fun k => { k with held := [] }) }), (((zRun.updSmilia (fun m => { m with sessions := [(0, { zSmlS with subs := [(0, { idx := 0, sub := 0, interval := 10, lastSent := some 0, seen := [], held := [(0, 0)] })] })] }))).sml (0)).get (by decide +kernel), 0, 0, 0, (tget ((((zRun.updSmilia (fun m => { m with sessions := [(0, { zSmlS with subs := [(0, { idx := 0, sub := 0, interval := 10, lastSent := some 0, seen := [], held := [(0, 0)] })] })] }))).sml (0)).get (by decide +kernel)).subs (0)).get (by decide +kernel), (Option.some_get _).symm, (Option.some_get _).symm, (by decide +kernel), (by decide +kernel), rfl⟩

theorem test_meets_SubscriptionAndPortCommandsComplete_4 : ∃ (s : State) (v : State) (f : SmlIn) (x : SmlSession) (num : Nat), s.acceptSml f smNotifyAck = (v, some x) ∧ f.len = 4 ∧ num = beAt f.payload 0 4 :=
  ⟨zRun, ((zRun)).setSml (zSml zSmlS smNotifyAck 0 (beBytes 4 0)).session (zHeard ((zRun)) zSmlS (zSml zSmlS smNotifyAck 0 (beBytes 4 0))), (zSml zSmlS smNotifyAck 0 (beBytes 4 0)), zHeard ((zRun)) zSmlS (zSml zSmlS smNotifyAck 0 (beBytes 4 0)), beAt ((zSml zSmlS smNotifyAck 0 (beBytes 4 0))).payload 0 4, zHears zSmlS, (by decide +kernel), rfl⟩

theorem test_meets_SubscriptionAndPortCommandsComplete_5 : ∃ (s : State) (w : State) (x : SmlSession) (sid : Nat) (num : Nat) (m : SmlNote), s.sml sid = some x ∧ (x.notes.find? (fun k => k.number == num) = some m) ∧ w = s.advanceTo (m.sentAt + 500 * msec) ∧ m.resends < 4 := by
  refine ⟨(zRun.updSmilia (fun q => { q with sessions := [(0, { zSmlS with notes := [({ number := 0, sub := 0, payload := [], sentAt := 0, resends := 3 } : SmlNote)] })] })), ((zRun.updSmilia (fun q => { q with sessions := [(0, { zSmlS with notes := [({ number := 0, sub := 0, payload := [], sentAt := 0, resends := 3 } : SmlNote)] })] }))).advanceTo ((({ number := 0, sub := 0, payload := [], sentAt := 0, resends := 3 } : SmlNote)).sentAt + 500 * msec), { zSmlS with notes := [({ number := 0, sub := 0, payload := [], sentAt := 0, resends := 3 } : SmlNote)] }, 0, 0, ({ number := 0, sub := 0, payload := [], sentAt := 0, resends := 3 } : SmlNote), ?_, ?_, ?_, ?_⟩
  · exact (by decide +kernel)
  · exact (by decide +kernel)
  · exact rfl
  · exact (by decide +kernel)

theorem test_meets_SubscriptionAndPortCommandsComplete_6 : ∃ (s : State) (w : State) (x : SmlSession) (sid : Nat) (num : Nat) (m : SmlNote), s.sml sid = some x ∧ (x.notes.find? (fun k => k.number == num) = some m) ∧ w = s.advanceTo (m.sentAt + 500 * msec) ∧ 4 ≤ m.resends := by
  refine ⟨(zRun.updSmilia (fun q => { q with sessions := [(0, { zSmlS with notes := [({ number := 0, sub := 0, payload := [], sentAt := 0, resends := 4 } : SmlNote)] })] })), ((zRun.updSmilia (fun q => { q with sessions := [(0, { zSmlS with notes := [({ number := 0, sub := 0, payload := [], sentAt := 0, resends := 4 } : SmlNote)] })] }))).advanceTo ((({ number := 0, sub := 0, payload := [], sentAt := 0, resends := 4 } : SmlNote)).sentAt + 500 * msec), { zSmlS with notes := [({ number := 0, sub := 0, payload := [], sentAt := 0, resends := 4 } : SmlNote)] }, 0, 0, ({ number := 0, sub := 0, payload := [], sentAt := 0, resends := 4 } : SmlNote), ?_, ?_, ?_, ?_⟩
  · exact (by decide +kernel)
  · exact (by decide +kernel)
  · exact rfl
  · exact (by decide +kernel)

theorem test_meets_SubscriptionAndPortCommandsComplete_7 : ∃ (s : State) (v : State) (n : Nat), s.smilia.pendingAddr = some n ∧ v = s.advanceTo n :=
  ⟨zFull, (zFull).advanceTo (((zFull).smilia.pendingAddr).get (by decide)), ((zFull).smilia.pendingAddr).get (by decide), (Option.some_get _).symm, rfl⟩

theorem test_meets_SubscriptionAndPortCommandsComplete_8 : ∃ (s : State) (n : Nat) (answer old : List Nat), s.smilia.oldAddr = some (old, n, answer) := by
  refine ⟨zRun, 0, [], [], ?_⟩
  · exact rfl

theorem test_meets_SubscriptionAndPortCommandsComplete_9 : ∃ (s v : State) (n : Nat), s.dictVal 0x1203 0 = n + 1 ∧ v = (s.advanceTo (s.smilia.vendorTick + 60 * second)).setDict 0x1203 0 n := by
  refine ⟨zRun.setDict 0x1203 0 1, ((zRun.setDict 0x1203 0 1).advanceTo ((zRun.setDict 0x1203 0 1).smilia.vendorTick + 60 * second)).setDict 0x1203 0 0, 0, by decide +kernel, ?_⟩
  exact rfl

theorem test_meets_SubscriptionAndPortCommandsComplete_10 : ∃ (s : State) (v : State) (reg : Nat) (data : Nat) (b : Bool), v = (((s.wr Reg.MGT_MDIO.REG reg).flag Reg.MGT_MDIO.WRITE b).wr Reg.MGT_MDIO.DATA data).emit .mdio (if b then 1 else 2) [s.rd Reg.MGT_CTRL.PHY_ADDR, reg % 32, if b then data % 65536 else 0] :=
  ⟨zRun, ((((zRun).wr Reg.MGT_MDIO.REG (1)).flag Reg.MGT_MDIO.WRITE (true)).wr Reg.MGT_MDIO.DATA (0)).emit .mdio (if (true) then 1 else 2) [(zRun).rd Reg.MGT_CTRL.PHY_ADDR, (1) % 32, if (true) then (0) % 65536 else 0], 1, 0, true, rfl⟩

theorem test_meets_SubscriptionAndPortCommandsComplete_11 : ∃ (s : State) (v : State), s.lit = true ∧ s.mainOn = true ∧ v = s.flag Reg.MGT_STATUS.LINK false :=
  ⟨zLit, (zLit).flag Reg.MGT_STATUS.LINK false, (by decide), (by decide), rfl⟩

theorem test_meets_SubscriptionAndPortCommandsComplete_12 : ∃ (s : State), s.lit = true ∧ s.mainOn = true :=
  ⟨zLit, (by decide), (by decide)⟩

theorem test_meets_SubscriptionAndPortCommandsComplete_13 : ∃ (s : State) (ask : MgmtAsk), s.mgmtServes = true ∧ (ask = .neighbour ∨ ask = .icmpv6Echo ∨ s.smilia.addr.getD 2 0 ≠ 0) :=
  ⟨zRun, .neighbour, (by decide +kernel), Or.inl rfl⟩

theorem test_meets_SubscriptionAndPortCommandsComplete_14 : ∃ (s : State), s.mgmtServes = true :=
  ⟨zLit, (by decide)⟩

/-! Hypotheses of DictionaryCommandsComplete. -/

theorem test_meets_DictionaryCommandsComplete_0 : ∃ (s : State) (u : State) (x : SmlSession) (e : DictEntry) (f : SmlFacts) (sid : Nat) (n : Nat), s.commands sid 0x1010 x e u ∧ e.typ ≠ .domain ∧ u.cmdRefusal x e (beBytes 1 n) = 0 ∧ f.saved = true ∧ e.idx = 0x1010 :=
  ⟨(zAdm 2), (((zAdm 2)).scan 0), { zSmlS with role := 2 }, (okOf (dictFind 2 0x1010 0 DictEntry.wr) (cmdEntry 0 .u8 0 0 0)), zFacts, 0, 10, ⟨rfl, rfl, by decide +kernel, rfl, okOf_eq (by decide +kernel)⟩, (by decide +kernel), (by decide +kernel), (by decide +kernel), (by decide +kernel)⟩

theorem test_meets_DictionaryCommandsComplete_2 : ∃ (s : State) (u : State) (x : SmlSession) (e : DictEntry) (sid : Nat) (n : Nat), s.commands sid 0x5013 x e u ∧ e.typ ≠ .domain ∧ u.cmdRefusal x e (beBytes 2 n) = 0 ∧ e.idx = 0x5013 :=
  ⟨(zAdm 2), (((zAdm 2)).scan 0), { zSmlS with role := 2 }, (okOf (dictFind 2 0x5013 0 DictEntry.wr) (cmdEntry 0 .u8 0 0 0)), 0, 0, ⟨rfl, rfl, by decide +kernel, rfl, okOf_eq (by decide +kernel)⟩, (by decide +kernel), (by decide +kernel), (by decide +kernel)⟩

theorem test_meets_DictionaryCommandsComplete_3 : ∃ (s : State) (u : State) (x : SmlSession) (e : DictEntry) (sid : Nat) (n : Nat), s.commands sid 0x5024 x e u ∧ e.typ ≠ .domain ∧ u.cmdRefusal x e (beBytes 1 n) = 0 ∧ e.idx = 0x5024 ∧ u.unlock.rd Reg.KNL_CTRL.ERR = 0 := by
  refine ⟨((zAdm 3).updKeys (fun k => { k with bankA := none })), ((((zAdm 3).updKeys (fun k => { k with bankA := none }))).scan 0), { zSmlS with role := 3 }, (okOf (dictFind 3 0x5024 0 DictEntry.wr) (cmdEntry 0 .u8 0 0 0)), 0, 1, ?_, ?_, ?_, ?_, ?_⟩
  · exact ⟨rfl, rfl, by decide +kernel, rfl, okOf_eq (by decide +kernel)⟩
  · exact (by decide +kernel)
  · exact (by decide +kernel)
  · exact (by decide +kernel)
  · exact (by decide +kernel)

theorem test_meets_DictionaryCommandsComplete_4 : ∃ (s : State) (u : State) (x : SmlSession) (e : DictEntry) (sid : Nat) (n : Nat), s.commands sid 0x5025 x e u ∧ e.typ ≠ .domain ∧ u.cmdRefusal x e (beBytes 1 n) = 0 ∧ e.idx = 0x5025 ∧ u.clearLatch.rd Reg.KNL_CTRL.ERR = 0 :=
  ⟨(zAdm 3), (((zAdm 3)).scan 0), { zSmlS with role := 3 }, (okOf (dictFind 3 0x5025 0 DictEntry.wr) (cmdEntry 0 .u8 0 0 0)), 0, 1, ⟨rfl, rfl, by decide +kernel, rfl, okOf_eq (by decide +kernel)⟩, (by decide +kernel), (by decide +kernel), (by decide +kernel), (by decide +kernel)⟩

theorem test_meets_DictionaryCommandsComplete_5 : ∃ (s : State) (u : State) (v : State) (x : SmlSession) (e : DictEntry) (f : SmlFacts) (sid : Nat) (n : Nat), s.commands sid 0x7007 x e u ∧ e.typ ≠ .domain ∧ u.cmdRefusal x e (beBytes 1 n) = 0 ∧ e.idx = 0x7007 ∧ u.exportBundle (ofBe (beBytes 1 n)) f = (v, xOk, 0) := by
  refine ⟨((((zAdm 2).wr Reg.SC_STATUS.PRESENT 1).wr Reg.SC_STATUS.POWER 1).updSd (fun d => { d with running := none, blocks := 65536 })), ((((((zAdm 2).wr Reg.SC_STATUS.PRESENT 1).wr Reg.SC_STATUS.POWER 1).updSd (fun d => { d with running := none, blocks := 65536 }))).scan 0), ((((((zAdm 2).wr Reg.SC_STATUS.PRESENT 1).wr Reg.SC_STATUS.POWER 1).updSd (fun d => { d with running := none, blocks := 65536 })).scan 0).exportBundle (ofBe (beBytes 1 5)) zFacts).1, { zSmlS with role := 2 }, (okOf (dictFind 2 0x7007 0 DictEntry.wr) (cmdEntry 0 .u8 0 0 0)), zFacts, 0, 5, ?_, ?_, ?_, ?_, ?_⟩
  · exact ⟨rfl, rfl, by decide +kernel, rfl, okOf_eq (by decide +kernel)⟩
  · exact (by decide +kernel)
  · exact (by decide +kernel)
  · exact (by decide +kernel)
  · exact zSnd (by decide +kernel)

theorem test_meets_DictionaryCommandsComplete_7 : ∃ (s : State) (u : State) (v : State) (x : SmlSession) (e : DictEntry) (sid : Nat) (n : Nat), s.commands sid 0x9000 x e u ∧ e.typ ≠ .domain ∧ u.cmdRefusal x e (beBytes 1 n) = 0 ∧ e.idx = 0x9000 ∧ v = (u.runTests none (ofBe (beBytes 1 n))).1.endTestRun :=
  ⟨(zAdm 2), (((zAdm 2)).scan 0), (((((zAdm 2)).scan 0)).runTests none (ofBe (beBytes 1 (1)))).1.endTestRun, { zSmlS with role := 2 }, (okOf (dictFind 2 0x9000 0 DictEntry.wr) (cmdEntry 0 .u8 0 0 0)), 0, 1, ⟨rfl, rfl, by decide +kernel, rfl, okOf_eq (by decide +kernel)⟩, (by decide +kernel), (by decide +kernel), (by decide +kernel), rfl⟩

theorem test_meets_DictionaryCommandsComplete_8 : ∃ (s : State) (u : State) (v : State) (x : SmlSession) (e : DictEntry) (sid : Nat) (n : Nat) (m : Nat), s.commands sid 0x9002 x e u ∧ e.typ ≠ .domain ∧ u.cmdRefusal x e (beBytes 4 n ++ beBytes 4 m) = 0 ∧ e.idx = 0x9002 ∧ u.injectFor (ofBe (beBytes 4 n ++ beBytes 4 m)) = (v, xOk, 0) :=
  ⟨(zAdm 2), (((zAdm 2)).scan 0), ((((zAdm 2).scan 0).injectFor (ofBe (beBytes 4 0x3F0 ++ beBytes 4 0))).1), { zSmlS with role := 2 }, (okOf (dictFind 2 0x9002 0 DictEntry.wr) (cmdEntry 0 .u8 0 0 0)), 0, 0x3F0, 0, ⟨rfl, rfl, by decide +kernel, rfl, okOf_eq (by decide +kernel)⟩, (by decide +kernel), (by decide +kernel), (by decide +kernel), Prod.ext rfl (by decide +kernel)⟩

theorem test_meets_DictionaryCommandsComplete_9 : ∃ (s : State) (u : State) (x : SmlSession) (e : DictEntry) (sid : Nat) (n : Nat), s.commands sid 0x9003 x e u ∧ e.typ ≠ .domain ∧ u.cmdRefusal x e (beBytes 4 n) = 0 ∧ e.idx = 0x9003 :=
  ⟨(zAdm 4), (((zAdm 4)).scan 0), { zSmlS with role := 4 }, (okOf (dictFind 4 0x9003 0 DictEntry.wr) (cmdEntry 0 .u8 0 0 0)), 0, 0, ⟨rfl, rfl, by decide +kernel, rfl, okOf_eq (by decide +kernel)⟩, (by decide +kernel), (by decide +kernel), (by decide +kernel)⟩

theorem test_meets_DictionaryCommandsComplete_10 : ∃ (s : State) (u : State) (x : SmlSession) (e : DictEntry) (sid : Nat) (n : Nat), s.commands sid 0x5013 x e u ∧ e.typ ≠ .domain ∧ u.cmdRefusal x e (beBytes 2 n) ≠ 0 :=
  ⟨(zAdm 2), (((zAdm 2)).scan 0), { zSmlS with role := 2 }, (okOf (dictFind 2 0x5013 0 DictEntry.wr) (cmdEntry 0 .u8 0 0 0)), 0, 65535, ⟨rfl, rfl, by decide +kernel, rfl, okOf_eq (by decide +kernel)⟩, (by decide +kernel), (by decide +kernel)⟩

/-! Hypotheses of CustodyCommandsComplete. -/

theorem test_meets_CustodyCommandsComplete_0 : ∃ (s : State) (u : State) (v : State) (x : SmlSession) (e : DictEntry) (f : SmlFacts) (sid : Nat) (k : Nat) (bs : List Byte), s.commands sid 0x4010 x e u ∧ e.typ = .domain ∧ u.custodyMay .enroll 0 = true ∧ badEnroll bs = none ∧ u.pressNow ≠ none ∧ u.keys.custody = none ∧ f.certOk = true ∧ (u.beginCustody .enroll sid x.role 0 0 0 0).enrollSteps bs f.saved f.cert = (v, k) := by
  refine ⟨((zAdm 2).updKeys (fun k => { k with enrolled := false })), ((((zAdm 2).updKeys (fun k => { k with enrolled := false }))).scan 0), (((((((zAdm 2).updKeys (fun k => { k with enrolled := false }))).scan 0)).beginCustody .enroll (0) ({ zSmlS with role := 2 }).role 0 0 0 0).enrollSteps ((List.replicate 29859 0 ++ [1, 0] ++ List.replicate 16 0 ++ [2, 0, 0, 0])) (zFacts).saved (zFacts).cert).1, { zSmlS with role := 2 }, (okOf (dictFind 2 0x4010 0 DictEntry.wr) (cmdEntry 0 .u8 0 0 0)), zFacts, 0, (((((((zAdm 2).updKeys (fun k => { k with enrolled := false }))).scan 0)).beginCustody .enroll (0) ({ zSmlS with role := 2 }).role 0 0 0 0).enrollSteps ((List.replicate 29859 0 ++ [1, 0] ++ List.replicate 16 0 ++ [2, 0, 0, 0])) (zFacts).saved (zFacts).cert).2, (List.replicate 29859 0 ++ [1, 0] ++ List.replicate 16 0 ++ [2, 0, 0, 0]), ?_, ?_, ?_, ?_, ?_, ?_, ?_, ?_⟩
  · exact ⟨rfl, rfl, by decide +kernel, rfl, okOf_eq (by decide +kernel)⟩
  · exact (by decide +kernel)
  · exact (by decide +kernel)
  · exact (by decide +kernel)
  · exact (by decide +kernel)
  · exact (by decide +kernel)
  · exact (by decide +kernel)
  · exact zEta _

theorem test_meets_CustodyCommandsComplete_1 : ∃ (s : State) (u : State) (x : SmlSession) (e : DictEntry) (sid : Nat) (n : Nat) (k : Nat) (arg : List Byte), u.cmdRefusal x e arg = 0 ∧ e.typ ≠ .domain ∧ s.commands sid 0x4012 x e u ∧ e.idx = 0x4012 ∧ arg = beBytes 1 k ++ beBytes 1 n :=
  ⟨((zAdm 3).updKeys (fun k => { k with live := none })), ((((zAdm 3).updKeys (fun k => { k with live := none }))).scan 0), { zSmlS with role := 3 }, (okOf (dictFind 3 0x4012 0 DictEntry.wr) (cmdEntry 0 .u8 0 0 0)), 0, 2, 2, (beBytes 1 2 ++ beBytes 1 2), (by decide +kernel), (by decide +kernel), ⟨rfl, rfl, by decide +kernel, rfl, okOf_eq (by decide +kernel)⟩, (by decide +kernel), (by decide +kernel)⟩

theorem test_meets_CustodyCommandsComplete_2 : ∃ (s : State) (u : State) (x : SmlSession) (e : DictEntry) (sid : Nat) (n : Nat) (k : Nat) (arg : List Byte), u.cmdRefusal x e arg = 0 ∧ e.typ ≠ .domain ∧ s.commands sid 0x4014 x e u ∧ e.idx = 0x4014 ∧ arg = beBytes 1 k ++ beBytes 1 n :=
  ⟨((zAdm 3).updKeys (fun k => { k with live := some { zEs with t := 1, gen := 1 } })), ((((zAdm 3).updKeys (fun k => { k with live := some { zEs with t := 1, gen := 1 } }))).scan 0), { zSmlS with role := 3 }, (okOf (dictFind 3 0x4014 0 DictEntry.wr) (cmdEntry 0 .u8 0 0 0)), 0, 16, 2, (beBytes 1 2 ++ beBytes 1 16), (by decide +kernel), (by decide +kernel), ⟨rfl, rfl, by decide +kernel, rfl, okOf_eq (by decide +kernel)⟩, (by decide +kernel), (by decide +kernel)⟩

theorem test_meets_CustodyCommandsComplete_3 : ∃ (s : State) (u : State) (x : SmlSession) (e : DictEntry) (sid : Nat) (n : Nat) (arg : List Byte) (set : EscrowSet), u.cmdRefusal x e arg = 0 ∧ e.typ ≠ .domain ∧ s.commands sid 0x4013 x e u ∧ e.idx = 0x4013 ∧ arg = beBytes 4 n ∧ u.keys.live = some set ∧ set.id = ofBe arg ∧ 0 < set.t :=
  ⟨((zAdm 3).updKeys (fun k => { k with live := some { zEs with t := 1, gen := 1 }, bankA := none })), ((((zAdm 3).updKeys (fun k => { k with live := some { zEs with t := 1, gen := 1 }, bankA := none }))).scan 0), { zSmlS with role := 3 }, (okOf (dictFind 3 0x4013 0 DictEntry.wr) (cmdEntry 0 .u8 0 0 0)), 0, 0, (beBytes 4 0), ((((((zAdm 3).updKeys (fun k => { k with live := some { zEs with t := 1, gen := 1 }, bankA := none }))).scan 0)).keys.live).get (by decide +kernel), (by decide +kernel), (by decide +kernel), ⟨rfl, rfl, by decide +kernel, rfl, okOf_eq (by decide +kernel)⟩, (by decide +kernel), (by decide +kernel), (Option.some_get _).symm, (by decide +kernel), (by decide +kernel)⟩

theorem test_meets_CustodyCommandsComplete_4 : ∃ (s : State) (u : State) (x : SmlSession) (e : DictEntry) (sid : Nat) (n : Nat) (arg : List Byte) (set : EscrowSet), u.cmdRefusal x e arg = 0 ∧ e.typ ≠ .domain ∧ s.commands sid 0x4017 x e u ∧ e.idx = 0x4017 ∧ arg = beBytes 2 n ∧ u.keys.live = some set ∧ 0 < set.t :=
  ⟨((zAdm 3).updKeys (fun k => { k with live := some { zEs with t := 1, gen := 1 } })), ((((zAdm 3).updKeys (fun k => { k with live := some { zEs with t := 1, gen := 1 } }))).scan 0), { zSmlS with role := 3 }, (okOf (dictFind 3 0x4017 0 DictEntry.wr) (cmdEntry 0 .u8 0 0 0)), 0, 0, (beBytes 2 0), ((((((zAdm 3).updKeys (fun k => { k with live := some { zEs with t := 1, gen := 1 } }))).scan 0)).keys.live).get (by decide +kernel), (by decide +kernel), (by decide +kernel), ⟨rfl, rfl, by decide +kernel, rfl, okOf_eq (by decide +kernel)⟩, (by decide +kernel), (by decide +kernel), (Option.some_get _).symm, (by decide +kernel)⟩

theorem test_meets_CustodyCommandsComplete_5 : ∃ (s : State) (u : State) (x : SmlSession) (e : DictEntry) (f : SmlFacts) (sid : Nat) (n : Nat) (arg : List Byte), u.cmdRefusal x e arg = 0 ∧ e.typ ≠ .domain ∧ s.commands sid 0x4019 x e u ∧ e.idx = 0x4019 ∧ arg = beBytes 1 n ∧ u.keys.live = none ∧ f.saved = true :=
  ⟨((zAdm 3).updKeys (fun k => { k with live := none })), ((((zAdm 3).updKeys (fun k => { k with live := none }))).scan 0), { zSmlS with role := 3 }, (okOf (dictFind 3 0x4019 0 DictEntry.wr) (cmdEntry 0 .u8 0 0 0)), zFacts, 0, 1, (beBytes 1 1), (by decide +kernel), (by decide +kernel), ⟨rfl, rfl, by decide +kernel, rfl, okOf_eq (by decide +kernel)⟩, (by decide +kernel), (by decide +kernel), (by decide +kernel), (by decide +kernel)⟩

theorem test_meets_CustodyCommandsComplete_6 : ∃ (s : State) (u : State) (v : State) (x : SmlSession) (e : DictEntry) (f : SmlFacts) (sid : Nat) (n : Nat) (arg : List Byte), u.cmdRefusal x e arg = 0 ∧ e.typ ≠ .domain ∧ s.commands sid 0x4015 x e u ∧ e.idx = 0x4015 ∧ arg = beBytes 2 n ∧ (u.beginCustody .nsCreate sid x.role 0 0 0 (ofBe arg)).newEpoch (ofBe arg) 1 f.saved = (v, eOk) := by
  refine ⟨((zAdm 2).updKeys (fun k => { k with live := some { zEs with t := 1, gen := 1 } })), ((((zAdm 2).updKeys (fun k => { k with live := some { zEs with t := 1, gen := 1 } }))).scan 0), (((((((zAdm 2).updKeys (fun k => { k with live := some { zEs with t := 1, gen := 1 } }))).scan 0)).beginCustody .nsCreate (0) ({ zSmlS with role := 2 }).role 0 0 0 (ofBe ((beBytes 2 1)))).newEpoch (ofBe ((beBytes 2 1))) 1 (zFacts).saved).1, { zSmlS with role := 2 }, (okOf (dictFind 2 0x4015 0 DictEntry.wr) (cmdEntry 0 .u8 0 0 0)), zFacts, 0, 1, (beBytes 2 1), ?_, ?_, ?_, ?_, ?_, ?_⟩
  · exact (by decide +kernel)
  · exact (by decide +kernel)
  · exact ⟨rfl, rfl, by decide +kernel, rfl, okOf_eq (by decide +kernel)⟩
  · exact (by decide +kernel)
  · exact (by decide +kernel)
  · exact Prod.ext rfl (by decide +kernel)

theorem test_meets_CustodyCommandsComplete_7 : ∃ (s : State) (u : State) (v : State) (x : SmlSession) (e : DictEntry) (f : SmlFacts) (sid : Nat) (n : Nat) (arg : List Byte), u.cmdRefusal x e arg = 0 ∧ e.typ ≠ .domain ∧ s.commands sid 0x4016 x e u ∧ e.idx = 0x4016 ∧ arg = beBytes 2 n ∧ (u.beginCustody .nsRotate sid x.role 0 0 0 (ofBe arg)).newEpoch (ofBe arg) (tgetD u.keys.nsEpoch (ofBe arg) 0 + 1) f.saved = (v, eOk) := by
  refine ⟨((zAdm 2).updKeys (fun k => { k with live := some { zEs with t := 1, gen := 1 } })), ((((zAdm 2).updKeys (fun k => { k with live := some { zEs with t := 1, gen := 1 } }))).scan 0), (((((((zAdm 2).updKeys (fun k => { k with live := some { zEs with t := 1, gen := 1 } }))).scan 0)).beginCustody .nsRotate (0) ({ zSmlS with role := 2 }).role 0 0 0 (ofBe (beBytes 2 (0)))).newEpoch (ofBe (beBytes 2 (0))) (tgetD (((((zAdm 2).updKeys (fun k => { k with live := some { zEs with t := 1, gen := 1 } }))).scan 0)).keys.nsEpoch (ofBe (beBytes 2 (0))) 0 + 1) (zFacts).saved).1, { zSmlS with role := 2 }, (okOf (dictFind 2 0x4016 0 DictEntry.wr) (cmdEntry 0 .u8 0 0 0)), zFacts, 0, 0, beBytes 2 (0), ?_, ?_, ?_, ?_, ?_, ?_⟩
  · exact (by decide +kernel)
  · exact (by decide +kernel)
  · exact ⟨rfl, rfl, by decide +kernel, rfl, okOf_eq (by decide +kernel)⟩
  · exact (by decide +kernel)
  · exact rfl
  · exact zSnd (by decide +kernel)

theorem test_meets_CustodyCommandsComplete_8 : ∃ (s : State) (u : State) (v : State) (x : SmlSession) (e : DictEntry) (f : SmlFacts) (sid : Nat) (n : Nat) (arg : List Byte), u.cmdRefusal x e arg = 0 ∧ e.typ ≠ .domain ∧ s.commands sid 0x4018 x e u ∧ e.idx = 0x4018 ∧ arg = beBytes 1 n ∧ (u.beginCustody .manifestKeyChange sid x.role 0 0 0 0).changeManifest f.saved f.cert = (v, eOk) := by
  refine ⟨((zAdm 2).updKeys (fun k => { k with live := some { zEs with t := 1, gen := 1 } })), ((((zAdm 2).updKeys (fun k => { k with live := some { zEs with t := 1, gen := 1 } }))).scan 0), (((((((zAdm 2).updKeys (fun k => { k with live := some { zEs with t := 1, gen := 1 } }))).scan 0)).beginCustody .manifestKeyChange (0) ({ zSmlS with role := 2 }).role 0 0 0 0).changeManifest (zFacts).saved (zFacts).cert).1, { zSmlS with role := 2 }, (okOf (dictFind 2 0x4018 0 DictEntry.wr) (cmdEntry 0 .u8 0 0 0)), zFacts, 0, 1, (beBytes 1 1), ?_, ?_, ?_, ?_, ?_, ?_⟩
  · exact (by decide +kernel)
  · exact (by decide +kernel)
  · exact ⟨rfl, rfl, by decide +kernel, rfl, okOf_eq (by decide +kernel)⟩
  · exact (by decide +kernel)
  · exact (by decide +kernel)
  · exact Prod.ext rfl (by decide +kernel)

theorem test_meets_CustodyCommandsComplete_9 : ∃ (s : State) (u : State) (v : State) (c : CustodyOp) (h : BadgeHello) (b : BadgeIn), s.keys.custody = some c ∧ s.reader.hello = some h ∧ s.reader.card ≠ none ∧ s.nfcServes = true ∧ (u = s.updReader (fun r => { r with hello := none, last := s.now })) ∧ (b.chainOk && b.sigOk && !u.revoked b.keyId) = false ∧ v = (u.trailRec 0x0302 masterSaddlebag true (beBytes 16 b.keyId ++ leBytes 1 eBadArg)).coreNote 2 (beBytes 8 (b.keyId / 2 ^ 64) ++ leBytes 1 eBadArg) := by
  refine ⟨(zNf .active), ((zNf .active)).updReader (fun r => { r with hello := none, last := ((zNf .active)).now }), ((((zNf .active)).updReader (fun r => { r with hello := none, last := ((zNf .active)).now })).trailRec 0x0302 masterSaddlebag true (beBytes 16 ({ zBadge with chainOk := false }).keyId ++ leBytes 1 eBadArg)).coreNote 2 (beBytes 8 (({ zBadge with chainOk := false }).keyId / 2 ^ 64) ++ leBytes 1 eBadArg), zCust, zHost, { zBadge with chainOk := false }, ?_, ?_, ?_, ?_, ?_, ?_, ?_⟩
  · exact (by decide +kernel)
  · exact (by decide +kernel)
  · exact (by decide +kernel)
  · exact (by decide +kernel)
  · exact rfl
  · exact (by decide +kernel)
  · exact rfl

theorem test_meets_CustodyCommandsComplete_10 : ∃ (s : State) (u : State) (v : State) (k : Nat) (c : CustodyOp) (h : BadgeHello) (b : BadgeIn) (w : State), s.keys.custody = some c ∧ s.reader.hello = some h ∧ s.reader.card ≠ none ∧ s.nfcServes = true ∧ (u = s.updReader (fun r => { r with hello := none, last := s.now })) ∧ (b.chainOk && b.sigOk && !u.revoked b.keyId) = true ∧ (w = ((u.updReader (fun r => { r with keys := some (badgeKeys h b) })).fillTransient (Config.mlkemDecaps h.kem b.kemCt) secretAttr).fillTransient (swap32 (x25519 h.x25519 b.eph)) secretAttr) ∧ w.countBadge c (badgeKeys h b) b = (v, k) :=
  ⟨(zNf .active), ((zNf .active)).updReader (fun r => { r with hello := none, last := ((zNf .active)).now }), (((((((zNf .active)).updReader (fun r => { r with hello := none, last := ((zNf .active)).now })).updReader (fun r => { r with keys := some (badgeKeys (zHost) (zBadge)) })).fillTransient (Config.mlkemDecaps (zHost).kem (zBadge).kemCt) secretAttr).fillTransient (swap32 (x25519 (zHost).x25519 (zBadge).eph)) secretAttr).countBadge (zCust) (badgeKeys (zHost) (zBadge)) (zBadge)).1, (((((((zNf .active)).updReader (fun r => { r with hello := none, last := ((zNf .active)).now })).updReader (fun r => { r with keys := some (badgeKeys (zHost) (zBadge)) })).fillTransient (Config.mlkemDecaps (zHost).kem (zBadge).kemCt) secretAttr).fillTransient (swap32 (x25519 (zHost).x25519 (zBadge).eph)) secretAttr).countBadge (zCust) (badgeKeys (zHost) (zBadge)) (zBadge)).2, zCust, zHost, zBadge, (((((zNf .active)).updReader (fun r => { r with hello := none, last := ((zNf .active)).now })).updReader (fun r => { r with keys := some (badgeKeys (zHost) (zBadge)) })).fillTransient (Config.mlkemDecaps (zHost).kem (zBadge).kemCt) secretAttr).fillTransient (swap32 (x25519 (zHost).x25519 (zBadge).eph)) secretAttr, (by decide +kernel), (by decide +kernel), (by decide +kernel), (by decide +kernel), rfl, (by decide +kernel), rfl, Prod.ext rfl rfl⟩

theorem test_meets_CustodyCommandsComplete_11 : ∃ (s : State) (c : CustodyOp), s.keys.custody = some c :=
  ⟨zFull, ((zFull).keys.custody).get (by decide), (Option.some_get _).symm⟩

/-! Hypotheses of TrailCommandsComplete. -/

theorem test_meets_TrailCommandsComplete_0 : ∃ (s : State), s.trail.running = true ∧ s.trail.chosen ≠ none :=
  ⟨zFull, (by decide), (by decide)⟩

theorem test_meets_TrailCommandsComplete_1 : ∃ (s : State) (n : Nat) (t0 : Nat) (p : TrailPort) (r : TrailRec) (recs : List (Nat × TrailRec)), tget s.trail.ports n = some p ∧ p.heldRecs = (t0, r) :: recs :=
  ⟨zRun, 0, 0, (tget (zRun).trail.ports (0)).get (by decide +kernel), zRec, [], (Option.some_get _).symm, (by decide +kernel)⟩

theorem test_meets_TrailCommandsComplete_2 : ∃ (s : State) (n : Nat) (x : SubState), n < 16 ∧ tget s.trail.subs n = some x ∧ x.uncounted ≠ 0 :=
  ⟨zFull, 0, (tget (zFull).trail.subs (0)).get (by decide), (by decide), (Option.some_get _).symm, (by decide)⟩

theorem test_meets_TrailCommandsComplete_3 : ∃ (s : State) (t0 : Nat) (r : TrailRec) (rest : List (Nat × TrailRec)), s.trail.uncommitted = (t0, r) :: rest :=
  ⟨zRun, 0, zRec, [], (by decide +kernel)⟩

theorem test_meets_TrailCommandsComplete_4 : ∃ (s : State) (u : State) (t0 : Nat) (r : TrailRec) (rest : List (Nat × TrailRec)), s.trail.uncommitted = (t0, r) :: rest ∧ (u = (s.updTrail (fun q => { q with uncommitted := rest })).advanceTo (t0 + 5 * msec)) :=
  ⟨zRun, ((zRun).updTrail (fun q => { q with uncommitted := ([]) })).advanceTo ((0) + 5 * msec), 0, zRec, [], (by decide +kernel), rfl⟩

theorem test_meets_TrailCommandsComplete_5 : ∃ (s : State) (u : State) (n : Nat) (w : World) (crit : Bool), u = (s.wr (Reg.TRL_WR_CMD.EVENT.inWorld w) n).flag (Reg.TRL_WR_CMD.CRITICAL.inWorld w) crit :=
  ⟨zRun, ((zRun).wr (Reg.TRL_WR_CMD.EVENT.inWorld (World.keeper)) (0x8000)).flag (Reg.TRL_WR_CMD.CRITICAL.inWorld (World.keeper)) (true), 0x8000, World.keeper, true, rfl⟩

theorem test_meets_TrailCommandsComplete_6 : ∃ (s : State) (u : State) (n : Nat) (nonce : List Byte) (report : List Byte), s.attest nonce n = (some report, u) :=
  ⟨(zSign.updKeys (fun k => { k with slots := [(1, { value := 0, attr := 0 }), (2, { value := 0, attr := 0 })] })), (((zSign.updKeys (fun k => { k with slots := [(1, { value := 0, attr := 0 }), (2, { value := 0, attr := 0 })] }))).attest ((List.replicate 32 0)) (0)).2, 0, (List.replicate 32 0), (((zSign.updKeys (fun k => { k with slots := [(1, { value := 0, attr := 0 }), (2, { value := 0, attr := 0 })] }))).attest ((List.replicate 32 0)) (0)).1.get (by decide +kernel), Prod.ext (Option.some_get _).symm rfl⟩

theorem test_meets_TrailCommandsComplete_7 : ∃ (s : State) (u : State) (n : Nat) (nonce : List Byte), s.attest nonce n = (none, u) :=
  ⟨State.reset, ((State.reset).attest ([]) (0)).2, 0, [], Prod.ext (by decide) rfl⟩

/-! Hypotheses of BackgroundCommandsComplete. -/

theorem test_meets_BackgroundCommandsComplete_0 : ∃ (s : State) (k : Nat), s.flashQuiet k = true ∧ s.refreshDue k = true ∧ s.flash.blockProtected k = true := by
  refine ⟨(zRun.updFlash (fun f => { f with blocks := [(0, { zBlock with part := 4, reads := 200000, pinned := true })] })), 0, ?_, ?_, ?_⟩
  · exact (by decide +kernel)
  · exact (by decide +kernel)
  · exact (by decide +kernel)

theorem test_meets_BackgroundCommandsComplete_1 : ∃ (s : State) (k : Nat), s.flashQuiet k = true ∧ s.refreshDue k = true ∧ s.flash.blockProtected k = false := by
  refine ⟨(zRun.updFlash (fun f => { f with blocks := [(0, { zBlock with part := 4, reads := 200000, pinned := false })] })), 0, ?_, ?_, ?_⟩
  · exact (by decide +kernel)
  · exact (by decide +kernel)
  · exact (by decide +kernel)

theorem test_meets_BackgroundCommandsComplete_2 : ∃ (s : State) (k : Nat), s.flashQuiet k = true ∧ s.flash.blockProtected k = false ∧ s.flash.meanErases (s.flash.block k).part + 500 < (s.flash.block k).erases :=
  ⟨(zRun.updFlash (fun f => { f with blocks := [(0, { zBlock with erases := 2000 }), (1, zBlock)] })), 0, (by decide +kernel), (by decide +kernel), (by decide +kernel)⟩

theorem test_meets_BackgroundCommandsComplete_3 : ∃ (s : State) (u : State) (k : Nat), s.flashQuiet k = true ∧ u = s.advanceTo ((s.flash.block k).scrubbed + (if (s.flash.block k).slc then 30 else 7) * 24 * hour) :=
  ⟨(zRun.updFlash (fun f => { f with blocks := [(0, zBlock)] })), ((zRun.updFlash (fun f => { f with blocks := [(0, zBlock)] }))).advanceTo ((((zRun.updFlash (fun f => { f with blocks := [(0, zBlock)] }))).flash.block (0)).scrubbed + (if (((zRun.updFlash (fun f => { f with blocks := [(0, zBlock)] }))).flash.block (0)).slc then 30 else 7) * 24 * hour), 0, (by decide +kernel), rfl⟩

theorem test_meets_BackgroundCommandsComplete_4 : ∃ (s : State) (ch : Nat) (off : Nat), s.channelQuiet ch = true ∧ off < tgetD s.guards.installed ch 0 :=
  ⟨(zRun.updGuards (fun g => { g with installed := [(0, 4096)] })), 0, 0, (by decide +kernel), (by decide +kernel)⟩

theorem test_meets_BackgroundCommandsComplete_5 : ∃ (s : State) (ch : Nat), s.channelQuiet ch = true :=
  ⟨zRun, 0, (by decide +kernel)⟩

theorem test_meets_BackgroundCommandsComplete_6 : ∃ (s : State) (ch : Nat), s.channelQuiet ch = true ∧ s.retrainDue ch = true ∧ s.retrainingChannel = none ∧ channels.all s.chanHealthy = true := by
  refine ⟨{ zRun with telemetry := { zRun.telemetry with dimms := [(0, 30000)], trained := [(0, 0)] } }, 0, ?_, ?_, ?_, ?_⟩
  · exact (by decide +kernel)
  · exact (by decide +kernel)
  · exact (by decide +kernel)
  · exact (by decide +kernel)

theorem test_meets_BackgroundCommandsComplete_7 : ∃ (s : State) (n : Nat) (i : Int), n < 64 ∧ s.lit = true ∧ i ≠ 0 ∧ i.natAbs ≤ 4000 :=
  ⟨zRun, 63, 4000, (by decide +kernel), (by decide +kernel), (by decide +kernel), (by decide +kernel)⟩

theorem test_meets_BackgroundCommandsComplete_8 : ∃ (s : State) (n : Nat) (i : Int), n < 64 ∧ s.lit = true ∧ 4000 < i.natAbs ∧ tget s.telemetry.excluded n = none :=
  ⟨zRun, 63, 4001, (by decide +kernel), (by decide +kernel), (by decide +kernel), (by decide +kernel)⟩

theorem test_meets_BackgroundCommandsComplete_9 : ∃ (s : State), s.mainPower = true ∧ s.kennel.dead = false ∧ s.mainOn = true :=
  ⟨State.reset, (by decide), (by decide), (by decide)⟩

theorem test_meets_BackgroundCommandsComplete_10 : ∃ (s : State) (n : Nat), 1 ≤ n ∧ n ≤ 12 ∧ s.lit = true :=
  ⟨zRun, 12, (by decide +kernel), (by decide +kernel), (by decide +kernel)⟩

theorem test_meets_BackgroundCommandsComplete_11 : ∃ (s : State) (u : State) (v : State) (x : Sample), s.lit = true ∧ u = s.advanceTo (s.telemetry.last + max 1 (min 100 (s.rd Reg.BRN_CFG.TELEMETRY_MS)) * msec) ∧ (v = (List.range 64).foldl (fun a j => a.sensorSample x.temps j) (u.updTelemetry (fun q => { q with temps := x.temps, rails := x.rails, power := ((x.rails.zip x.amps).map (fun p => p.1 * p.2 / 1000)).sum, core := ((x.rails.zip x.amps).map (fun p => p.1 * p.2 / 1000)).headD 0, last := u.now, dimms := x.dimms.foldl (fun d p => tput d p.1 p.2) q.dimms }))) ∧ v.now < v.telemetry.kennelAt + second :=
  ⟨zRun, (zRun).advanceTo ((zRun).telemetry.last + max 1 (min 100 ((zRun).rd Reg.BRN_CFG.TELEMETRY_MS)) * msec), (List.range 64).foldl (fun a j => a.sensorSample (zSample).temps j) (((zRun).advanceTo ((zRun).telemetry.last + max 1 (min 100 ((zRun).rd Reg.BRN_CFG.TELEMETRY_MS)) * msec)).updTelemetry (fun q => { q with temps := (zSample).temps, rails := (zSample).rails, power := (((zSample).rails.zip (zSample).amps).map (fun p => p.1 * p.2 / 1000)).sum, core := (((zSample).rails.zip (zSample).amps).map (fun p => p.1 * p.2 / 1000)).headD 0, last := ((zRun).advanceTo ((zRun).telemetry.last + max 1 (min 100 ((zRun).rd Reg.BRN_CFG.TELEMETRY_MS)) * msec)).now, dimms := (zSample).dimms.foldl (fun d p => tput d p.1 p.2) q.dimms })), zSample, (by decide +kernel), rfl, rfl, (by decide +kernel)⟩

/-! Hypotheses of ResetCommandsComplete. -/

theorem test_meets_ResetCommandsComplete_0 : ∃ (s : State), s.chip.powerOk = true ∧ s.chip.held = false :=
  ⟨State.reset, (by decide), (by decide)⟩

theorem test_meets_ResetCommandsComplete_1 : ∃ (s : State), s.chip.powerOk = true ∧ s.chip.held = true :=
  ⟨(zRun.updChip (fun c => { c with held := true })), (by decide +kernel), (by decide +kernel)⟩

theorem test_meets_ResetCommandsComplete_2 : ∃ (s : State), s.mainOn = true ∧ s.chip.held = false :=
  ⟨State.reset, (by decide), (by decide)⟩

theorem test_meets_ResetCommandsComplete_3 : ∃ (s : State), s.isSet Reg.WDT_CTRL.EN = true ∧ s.chip.booted = true ∧ s.mainOn = true ∧ s.chip.held = false :=
  ⟨(zRun.wr Reg.WDT_CTRL.EN 1), (by decide +kernel), (by decide +kernel), (by decide +kernel), (by decide +kernel)⟩

theorem test_meets_ResetCommandsComplete_4 : ∃ (k : Nat), k % 256 ≠ 0x5A :=
  ⟨0, (by decide)⟩

theorem test_meets_ResetCommandsComplete_5 : ∃ (s : State), s.isSet Reg.WDT_CTRL.EN = false :=
  ⟨State.reset, (by decide)⟩

theorem test_meets_ResetCommandsComplete_6 : ∃ (s : State) (p : PairId) (q : PairId), s.mainOn = true ∧ p ≠ q :=
  ⟨zRun, 0, 1, (by decide +kernel), (by decide +kernel)⟩

theorem test_meets_ResetCommandsComplete_7 : ∃ (s : State), s.chip.powerOk = true :=
  ⟨State.reset, (by decide)⟩

theorem test_meets_ResetCommandsComplete_8 : ∃ (s : State), s.chip.powerOk = false :=
  ⟨{ State.reset with chip := { State.reset.chip with powerOk := false } }, (by decide +kernel)⟩

/-! Hypotheses of ClockAndServiceCommandsComplete. -/

theorem test_meets_ClockAndServiceCommandsComplete_0 : ∃ (s : State) (u : State), s.lit = true ∧ u = s.flag Reg.CLK_STATUS.SREF_OK false :=
  ⟨zLit, (zLit).flag Reg.CLK_STATUS.SREF_OK false, (by decide), rfl⟩

theorem test_meets_ClockAndServiceCommandsComplete_1 : ∃ (s : State) (u : State), s.lit = true ∧ s.queue.downMacs = List.range 16 ∧ u = s.flag Reg.CLK_STATUS.NREF_OK false :=
  ⟨(zRun.updQueue (fun q => { q with downMacs := List.range 16 })), ((zRun.updQueue (fun q => { q with downMacs := List.range 16 }))).flag Reg.CLK_STATUS.NREF_OK false, (by decide +kernel), (by decide +kernel), rfl⟩

theorem test_meets_ClockAndServiceCommandsComplete_2 : ∃ (s : State), s.mainOn = true :=
  ⟨State.reset, (by decide)⟩

theorem test_meets_ClockAndServiceCommandsComplete_3 : ∃ (s : State), s.lit = true :=
  ⟨zLit, (by decide)⟩

theorem test_meets_ClockAndServiceCommandsComplete_4 : ∃ (s : State), s.mainOn = true ∧ s.reader.mode = .fault :=
  ⟨(zNf .fault), (by decide +kernel), (by decide +kernel)⟩

theorem test_meets_ClockAndServiceCommandsComplete_5 : ∃ (s : State) (n : Nat), s.mainOn = true ∧ s.chip.booted = true ∧ s.isSet Reg.PWR_AVS.NACK = false ∧ s.chip.avsFails = 0 ∧ s.rd Reg.PWR_AVS.NOW < s.rd Reg.PWR_AVS.TARGET ∧ n = s.rd Reg.PWR_AVS.NOW + 1 :=
  ⟨((zRun.wr Reg.PWR_AVS.NOW 5).wr Reg.PWR_AVS.TARGET 7), (((zRun.wr Reg.PWR_AVS.NOW 5).wr Reg.PWR_AVS.TARGET 7)).rd Reg.PWR_AVS.NOW + 1, (by decide +kernel), (by decide +kernel), (by decide +kernel), (by decide +kernel), (by decide +kernel), rfl⟩

theorem test_meets_ClockAndServiceCommandsComplete_6 : ∃ (s : State), s.mainOn = true ∧ s.chip.booted = true ∧ (∀ b : Nat, s.chip.shut ≠ .running b) ∧ s.svc = .heel ∧ s.safe = false ∧ s.keyed = false :=
  ⟨zHeel, (by decide +kernel), (by decide +kernel), (fun _ h => nomatch h), (by decide +kernel), (by decide +kernel), (by decide +kernel)⟩

theorem test_meets_ClockAndServiceCommandsComplete_7 : ∃ (s : State) (u : State) (x : SealIn), s.mainOn = true ∧ s.chip.booted = true ∧ (∀ b : Nat, s.chip.shut ≠ .running b) ∧ s.svc = .heel ∧ s.safe = false ∧ s.keyed = true ∧ s.chip.debugLock = false ∧ bitOf (s.rd Reg.DBG_STATUS.OPEN) 3 = false ∧ s.heelRetains = false ∧ (u = ((s.wr Reg.PWR_CMD.OP 1).updChip (fun q => { q with shut := .off })).advance (x.us * usec)) :=
  ⟨(zHeel.updKeys (fun k => { k with bankA := some { key := 0, gen := 1 } })), ((((zHeel.updKeys (fun k => { k with bankA := some { key := 0, gen := 1 } }))).wr Reg.PWR_CMD.OP 1).updChip (fun q => { q with shut := .off })).advance ((zSeal).us * usec), zSeal, (by decide +kernel), (by decide +kernel), (fun _ h => nomatch h), (by decide +kernel), (by decide +kernel), (by decide +kernel), (by decide +kernel), (by decide +kernel), (by decide +kernel), rfl⟩

theorem test_meets_ClockAndServiceCommandsComplete_8 : ∃ (s : State) (u : State), s.mainOn = true ∧ (∀ b : Nat, s.chip.shut ≠ .running b) ∧ u = s.wr Reg.PWR_CMD.OP 2 ∧ u.sealRuns = true :=
  ⟨zRun, (zRun).wr Reg.PWR_CMD.OP 2, (by decide +kernel), (fun _ h => nomatch h), rfl, (by decide +kernel)⟩

theorem test_meets_ClockAndServiceCommandsComplete_9 : ∃ (s : State) (t0 : Nat), s.chip.shut = .running t0 :=
  ⟨(zRun.updChip (fun c => { c with shut := .running 0 })), 0, (by decide +kernel)⟩

theorem test_meets_ClockAndServiceCommandsComplete_10 : ∃ (s : State), s.chip.testRun = none :=
  ⟨State.reset, (by decide)⟩

theorem test_meets_ClockAndServiceCommandsComplete_11 : ∃ (s : State) (u : State) (c : Central), (u = s.updCollector (fun q => { q with disagreed := tput q.disagreed c.source s.now })) ∧ tget s.collector.disagreed c.source = none :=
  ⟨State.reset, (State.reset).updCollector (fun q => { q with disagreed := tput q.disagreed (Central.trail).source (State.reset).now }), Central.trail, rfl, (by decide)⟩

theorem test_meets_ClockAndServiceCommandsComplete_12 : ∃ (s : State) (u : State) (t0 : Nat) (c : Central), (u = s.updCollector (fun q => { q with disagreed := tput q.disagreed c.source s.now })) ∧ tget s.collector.disagreed c.source = some t0 ∧ s.now < t0 + msec := by
  refine ⟨(zRun.updCollector (fun q => { q with disagreed := [(Central.trail.source, 0)] })), ((zRun.updCollector (fun q => { q with disagreed := [(Central.trail.source, 0)] }))).updCollector (fun q => { q with disagreed := tput q.disagreed (Central.trail).source ((zRun.updCollector (fun q => { q with disagreed := [(Central.trail.source, 0)] }))).now }), 0, Central.trail, ?_, ?_, ?_⟩
  · exact rfl
  · exact (by decide +kernel)
  · exact (by decide +kernel)

theorem test_meets_ClockAndServiceCommandsComplete_13 : ∃ (s : State), s.inSeal = true ∧ s.sealMay = false :=
  ⟨zLit, (by decide), (by decide)⟩

theorem test_meets_ClockAndServiceCommandsComplete_14 : ∃ (s : State), s.inSeal = true ∧ s.sealMay = false ∧ s.drainServes = false :=
  ⟨zLit, (by decide), (by decide), (by decide)⟩

theorem test_meets_ClockAndServiceCommandsComplete_15 : ∃ (s : State), s.svc = .heel ∧ s.heelRetains = true ∧ s.safe = false ∧ s.chip.shut = .off ∧ s.sealMay = true ∧ s.sealSet = true := by
  refine ⟨{ zRun with svc := .heel, heelRetains := true }, ?_, ?_, ?_, ?_, ?_, ?_⟩
  · exact (by decide +kernel)
  · exact (by decide +kernel)
  · exact (by decide +kernel)
  · exact (by decide +kernel)
  · exact (by decide +kernel)
  · exact (by decide +kernel)

/-! Hypotheses of DebugAndRegisterCommandsComplete. -/

theorem test_meets_DebugAndRegisterCommandsComplete_0 : ∃ (s : State) (u : State), (u = s.updChip (fun c => { c with tapHighz := false })) ∧ s.mainOn = true ∧ s.chip.booted = true :=
  ⟨zLit, (zLit).updChip (fun c => { c with tapHighz := false }), rfl, (by decide), (by decide)⟩

theorem test_meets_DebugAndRegisterCommandsComplete_1 : ∃ (s : State) (u : State) (n : Nat) (m : Nat), (u = s.updChip (fun c => { c with tapHighz := false })) ∧ s.chip.notAfter = [(n, m)] :=
  ⟨(zRun.updChip (fun c => { c with notAfter := [(0, 0)] })), ((zRun.updChip (fun c => { c with notAfter := [(0, 0)] }))).updChip (fun c => { c with tapHighz := false }), 0, 0, rfl, (by decide +kernel)⟩

theorem test_meets_DebugAndRegisterCommandsComplete_2 : ∃ (s : State) (u : State), (u = s.updChip (fun c => { c with tapHighz := false })) ∧ s.chip.powerOk = true :=
  ⟨State.reset, (State.reset).updChip (fun c => { c with tapHighz := false }), rfl, (by decide)⟩

theorem test_meets_DebugAndRegisterCommandsComplete_3 : ∃ (s : State) (u : State), (u = s.updChip (fun c => { c with tapHighz := false })) ∧ s.chip.powerOk = true ∧ s.bscanOpen = true :=
  ⟨(zRun.wr Reg.DBG_STATUS.OPEN 1), ((zRun.wr Reg.DBG_STATUS.OPEN 1)).updChip (fun c => { c with tapHighz := false }), rfl, (by decide +kernel), (by decide +kernel)⟩

theorem test_meets_DebugAndRegisterCommandsComplete_4 : ∃ (s : State) (u : State), (u = s.updChip (fun c => { c with tapHighz := false })) ∧ s.chip.powerOk = true ∧ s.bscanOpen = false :=
  ⟨State.reset, (State.reset).updChip (fun c => { c with tapHighz := false }), rfl, (by decide), (by decide)⟩

theorem test_meets_DebugAndRegisterCommandsComplete_5 : ∃ (s : State) (u : State) (n : Nat) (a : Nat) (v : State), (u = s.updChip (fun c => { c with tapHighz := false })) ∧ s.chip.powerOk = true ∧ bitOf (s.rd Reg.DBG_STATUS.OPEN) 2 = true ∧ s.mainOn = true ∧ 0 < n ∧ ((u.updChip (fun c => { c with tapIr := 0x12 })).guard (unitAccess masterTap .read a n) = (true, v)) :=
  ⟨(zSc.wr Reg.DBG_STATUS.OPEN 4), ((zSc.wr Reg.DBG_STATUS.OPEN 4)).updChip (fun c => { c with tapHighz := false }), 1, 0x4000000, (((((zSc.wr Reg.DBG_STATUS.OPEN 4)).updChip (fun c => { c with tapHighz := false })).updChip (fun c => { c with tapIr := 0x12 })).guard (unitAccess masterTap .read (0x4000000) (1))).2, rfl, (by decide +kernel), (by decide +kernel), (by decide +kernel), (by decide +kernel), Prod.ext (by decide +kernel) rfl⟩

theorem test_meets_DebugAndRegisterCommandsComplete_6 : ∃ (s : State) (u : State) (a : Nat) (bs : List Byte) (v : State), (u = s.updChip (fun c => { c with tapHighz := false })) ∧ s.chip.powerOk = true ∧ bitOf (s.rd Reg.DBG_STATUS.OPEN) 2 = true ∧ s.mainOn = true ∧ bs ≠ [] ∧ ((u.updChip (fun c => { c with tapIr := 0x12 })).guard (unitAccess masterTap .write a bs.length) = (true, v)) ∧ v.targetOf a ≠ some 2 :=
  ⟨(zSc.wr Reg.DBG_STATUS.OPEN 4), ((zSc.wr Reg.DBG_STATUS.OPEN 4)).updChip (fun c => { c with tapHighz := false }), 0x4000000, [0], (((((zSc.wr Reg.DBG_STATUS.OPEN 4)).updChip (fun c => { c with tapHighz := false })).updChip (fun c => { c with tapIr := 0x12 })).guard (unitAccess masterTap .write (0x4000000) ([0]).length)).2, rfl, (by decide +kernel), (by decide +kernel), (by decide +kernel), (by decide +kernel), Prod.ext (by decide +kernel) rfl, (by decide +kernel)⟩

theorem test_meets_DebugAndRegisterCommandsComplete_7 : ∃ (s : State) (u : State), (u = s.updChip (fun c => { c with tapHighz := false })) :=
  ⟨State.reset, (State.reset).updChip (fun c => { c with tapHighz := false }), rfl⟩

theorem test_meets_DebugAndRegisterCommandsComplete_8 : ∃ (s : State) (u : State) (v : State), (u = s.updChip (fun c => { c with tapHighz := false })) ∧ s.kennel.dead = true ∧ (s.lit && s.mainOn) = false ∧ (v = (s.kennelDefaults.updKeys (fun k => { k with bankA := none, bankB := none, activeB := false, rotating := false })).setRtc 0) :=
  ⟨(State.reset.updKennel (fun k => { k with dead := true })), ((State.reset.updKennel (fun k => { k with dead := true }))).updChip (fun c => { c with tapHighz := false }), (((State.reset.updKennel (fun k => { k with dead := true }))).kennelDefaults.updKeys (fun k => { k with bankA := none, bankB := none, activeB := false, rotating := false })).setRtc 0, rfl, (by decide +kernel), (by decide +kernel), rfl⟩

/-! Contexts whose witness is proved by hand. -/

/-- The block checks of a bundle hold of what `crcBlock` builds. -/
theorem zBlockOk {bs : List Byte} : blockCrcOk (crcBlock bs) = true := by
  have hp : (padTo 508 bs).length = 508 := by simp [padTo]; omega
  have hc : (beBytes 4 (crc32c (padTo 508 bs))).length = 4 := by simp [beBytes, leBytes]
  have h1 : slice (crcBlock bs) 508 4 = beBytes 4 (crc32c (padTo 508 bs)) := by
    unfold slice crcBlock; rw [List.drop_left' hp, padTo_self hc]
  have h2 : padTo 508 (crcBlock bs) = padTo 508 bs := by
    have hl : (crcBlock bs).length = 512 := by unfold crcBlock; simp only [List.length_append, hp, hc]
    rw [show padTo 508 (crcBlock bs) = (crcBlock bs).take 508 by simp [padTo, hl]]
    unfold crcBlock; rw [List.take_left' hp]
  have h3 : ofBe (beBytes 4 (crc32c (padTo 508 bs))) = crc32c (padTo 508 bs) := ofBe_beBytes4 _ (BitVec.isLt _)
  simp [blockCrcOk, h1, h2, h3]
theorem zSeenOk : (zSeen 2).headerOk = true ∧ (zSeen 2).commitOk = true := by
  have h0 : blockCrcOk (zSeen 2).header = true := zBlockOk
  have h1 : blockCrcOk (zSeen 2).commit = true := zBlockOk
  have h2 : (ofBe (slice (zSeen 2).header 0 4) == 0x4C475342) = true := by decide +kernel
  have h3 : (ofBe (slice (zSeen 2).commit 0 4) == 0x4C475343) = true := by decide +kernel
  have h4 : (ofBe (slice (zSeen 2).commit 4 4) == (zSeen 2).blocks) = true := by decide +kernel
  have h5 : (ofBe (slice (zSeen 2).commit 8 32) == (zSeen 2).hash) = true := by decide +kernel
  have h6 : decide ((zSeen 2).blocks ≤ 2 ^ 24) = true := by decide +kernel
  exact ⟨by rw [BundleSeen.headerOk, h0, h2]; rfl, by rw [BundleSeen.commitOk, h1, h3, h4, h5, h6]; rfl⟩
theorem zWalk : (walkChain [zSeen 2] 2048).1.length = 1 := by simp [walkChain, zSeenOk]
theorem zTri {α β γ : Type} {x : (α × β) × γ} {b : β} (h : x.1.2 = b) : x = ((x.1.1, b), x.2) := by obtain ⟨⟨a, c⟩, d⟩ := x; cases h; rfl

/-- Power on, before the start; what a start with no LUN and a bundle on a card meets. -/
def zOff : State := { State.reset with chip := { State.reset.chip with powerOk := true } }
def zRec1 : BootIn := { zBoot with luns := 0, recovery := [(zSeen 2, [])] }
theorem test_meets_BootCommandCompletes_1 : ∃ (s : State) (v : State) (x : BootIn) (p : Nat) (rest : List Nat) (b : List Byte) (h : ImageHead) (u : State), s.mainOn = true ∧ s.chip.booted = false ∧ s.chip.bootFailed = false ∧ (pairs.filter (fun p => x.pairs.contains p) = p :: rest) ∧ (s.bootUnits x).chooseTwin x = (none, v) ∧ x.recoveryImage = some b ∧ h = parseImage (b.take 160) ∧ v.chip.booted = false ∧ u = ((v.wr Reg.PCK_SIGN_SLOTS.SEED_SLOT 3).wr Reg.PCK_SIGN_SLOTS.PRF_SLOT 4).wr Reg.RST_IDX_KEY.SLOT 6 := by
  have hr : zRec1.recoveryImage = some [] := by
    have h : ((zRec1.recovery.take 1).find? (fun b => beAt b.1.header 5 1 == 2 && (beAt b.1.header 8 8 % 2 ^ 36 == 0 || beAt b.1.header 8 8 % 2 ^ 36 == Config.deviceInstance.toNat))).map Prod.snd = some [] := by decide +kernel
    have hw : (walkChain (zRec1.recovery.map Prod.fst) 2048).1.length = 1 := zWalk
    simp only [BootIn.recoveryImage, hw]
    exact h
  refine ⟨zOff, ((zOff.bootUnits zRec1).chooseTwin zRec1).2, zRec1, 0, [], [], parseImage [], ((((zOff.bootUnits zRec1).chooseTwin zRec1).2.wr Reg.PCK_SIGN_SLOTS.SEED_SLOT 3).wr Reg.PCK_SIGN_SLOTS.PRF_SLOT 4).wr Reg.RST_IDX_KEY.SLOT 6, by decide +kernel, by decide +kernel, by decide +kernel, by decide +kernel, ?_, hr, rfl, by decide +kernel, rfl⟩
  exact Prod.ext (by decide +kernel) rfl

/-- A card with a bundle in the slot, for an administrator. -/
def zFact1 : SmlFacts := { zFacts with seen := [zSeen 2] }
def zCardIn : State := (((zAdm 2).wr Reg.SC_STATUS.PRESENT 1).wr Reg.SC_STATUS.POWER 1).updSd (fun d => { d with running := none, blocks := 65536 })
/-- An import of the one bundle on the card, with no section, ends well. -/
theorem zImport {s : State} {x : SmlSession} {f : SmlFacts} (h1 : s.isSet Reg.SC_STATUS.PRESENT = true) (h2 : s.isSet Reg.SC_STATUS.POWER = true) (h3 : s.scState ≠ scLocked)
    (h5 : (walkChain f.seen 2048).1.length = 1) (h6 : f.ended = .ok 0) (h7 : f.sections = []) (h8 : f.saved = true) : (s.importBundle 0 x 1 f).2 = (xOk, 0) := by
  unfold State.importBundle State.withCard
  generalize walkChain f.seen 2048 = w at h5 ⊢
  obtain ⟨a, b, c⟩ := w
  simp only at h5
  simp [h1, h2, h3, h5, h6, h7, h8, State.sdOutcome, sdOk]
theorem test_meets_DictionaryCommandsComplete_6 : ∃ (s : State) (u : State) (v : State) (x : SmlSession) (e : DictEntry) (f : SmlFacts) (sid : Nat) (n : Nat), s.commands sid 0x7008 x e u ∧ e.typ ≠ .domain ∧ u.cmdRefusal x e (beBytes 2 n) = 0 ∧ e.idx = 0x7008 ∧ u.importBundle sid x (ofBe (beBytes 2 n)) f = (v, xOk, 0) := by
  refine ⟨zCardIn, zCardIn.scan 0, ((zCardIn.scan 0).importBundle 0 { zSmlS with role := 2 } (ofBe (beBytes 2 1)) zFact1).1, { zSmlS with role := 2 }, okOf (dictFind 2 0x7008 0 DictEntry.wr) (cmdEntry 0 .u8 0 0 0), zFact1, 0, 1, ⟨rfl, rfl, by decide +kernel, rfl, okOf_eq (by decide +kernel)⟩, by decide +kernel, by decide +kernel, by decide +kernel, ?_⟩
  have h4 : ofBe (beBytes 2 1) = 1 := by decide +kernel
  rw [h4]
  exact zSnd (zImport (by decide +kernel) (by decide +kernel) (by decide +kernel) zWalk rfl rfl rfl)

theorem test_meets_StitchCommandsComplete_9 : ∃ (s : State) (n : Nat) (obj : Nat) (idx : Nat) (x : Extent) (k : Nat) (range : Nat) (unit : Nat) (cx : Nat) (r : RangeRec) (v : State), s.extent (extKey obj idx) = some x ∧ x.phase = .admitted ∧ s.sealRuns = true ∧ s.resolveSlot (x.obj / 2 ^ 116) x.epoch = some k ∧ x.ranges[range]? = some r ∧ r.phase = .waiting ∧ r.rerun = false ∧ badDescriptor { obj := x.obj, idx := x.idx, len := x.len, k := x.k, m := x.m, epoch := x.epoch, slot := k } r = false ∧ range ≠ 0 ∧ v = (s.useKey (x.obj / 2 ^ 116) x.epoch).setExtent (extKey obj idx) { x with slot := k } ∧ v.rangePresent { x with slot := k } r = true ∧ ((v.stitchChoice).filter (fun n => decide (n ∉ x.ranges.filterMap (fun r => if r.phase = .waiting then none else some r.unit))) = [unit]) ∧ v.freeCtx unit = some cx := by
  refine ⟨(((zE { zExt with len := 128, epoch := 1, ranges := [{ zRange with phase := .waiting }, { zRange with phase := .waiting, first := 1 }] }).updQueue (fun q => { q with queues := [(0, { zQueue with received := [(0, List.replicate 128 0)] })] })).updStitch (fun q => { q with ctxs := [] })).updShepherd (fun q => { q with asked := [] }), 0, 0, 0, { zExt with len := 128, epoch := 1, ranges := [{ zRange with phase := .waiting }, { zRange with phase := .waiting, first := 1 }] }, 0, 1, 0, 0, { zRange with phase := .waiting, first := 1 }, _, ?_, ?_, ?_, ?_, ?_, ?_, ?_, ?_, ?_, rfl, ?_, ?_, ?_⟩
  all_goals decide +kernel

/-- The keys and cores of an attestation. -/
def zAtt : State := ((((zAdm 2).updPack (fun q => { q with signing := List.range 8 })).updKeys (fun k => { k with slots := [(1, { value := 0, attr := 0 }), (2, { value := 0, attr := 0 })] })))
theorem test_meets_DictionaryCommandsComplete_1 : ∃ (s : State) (u : State) (v : State) (x : SmlSession) (e : DictEntry) (f : SmlFacts) (sid : Nat) (nonce : List Byte) (report : List Byte), s.commands sid 0x4030 x e u ∧ e.typ ≠ .domain ∧ u.cmdRefusal x e nonce = 0 ∧ e.idx = 0x4030 ∧ ((u.updSml sid (fun y => { y with report := [] })).canAttest = true) ∧ ((u.updSml sid (fun y => { y with report := [] })).attest nonce f.fails = (some report, v)) := by
  refine ⟨zAtt, zAtt.scan 0, (((zAtt.scan 0).updSml 0 (fun y => { y with report := [] })).attest (List.replicate 32 0) zFacts.fails).2, { zSmlS with role := 2 }, okOf (dictFind 2 0x4030 0 DictEntry.wr) (cmdEntry 0 .u8 0 0 0), zFacts, 0, List.replicate 32 0, (((zAtt.scan 0).updSml 0 (fun y => { y with report := [] })).attest (List.replicate 32 0) zFacts.fails).1.get (by decide +kernel), ⟨rfl, rfl, by decide +kernel, rfl, okOf_eq (by decide +kernel)⟩, (by decide +kernel), (by decide +kernel), (by decide +kernel), (by decide +kernel), ?_⟩
  exact Prod.ext (Option.some_get _).symm rfl

/-- A sector to write, its buffer in system memory. -/
def zFlw : State := (((zSc.wr Reg.FLS_LADDR.SECTOR 65536).wr Reg.FLS_LEN.SECTORS 1).wr Reg.FLS_BUF.ADDR 0x4000).wr Reg.FLS_CMD.OP 0x02
def zFlr : (List Byte × Bool) × State := zFlw.readChecked zFlw.flsBuf (4096 * zFlw.flsSectors.length)
theorem test_meets_FlashCommandsComplete_2 : ∃ (s v w x y : State) (p k : Nat) (bytes : List Byte), s.rd Reg.FLS_STATUS.LUN_OK ≠ 0 ∧ v = s.wr Reg.FLS_CMD.OP 0x02 ∧ v.flsPart writableParts = some p ∧ v.flash.twinProtected p = false ∧ (((partitions[p]?).map Partition.luns).getD []).any v.lunServes = true ∧ v.forbidden (unitAccess masterFlash .read v.flsBuf (4096 * v.flsSectors.length)) = none ∧ v.readChecked v.flsBuf (4096 * v.flsSectors.length) = ((bytes, false), w) ∧ w.fillBlock p = some (k, x) ∧ w.programAll p ((List.range v.flsSectors.length).map (fun i => (v.flsSectors.getD i 0, slice bytes (4096 * i) 4096))) = some y := by
  have h1 : (zFlr.2.fillBlock 1).isSome = true := by decide +kernel
  have h2 : (zFlr.2.programAll 1 ((List.range zFlw.flsSectors.length).map (fun i => (zFlw.flsSectors.getD i 0, slice zFlr.1.1 (4096 * i) 4096)))).isSome = true := by decide +kernel
  obtain ⟨⟨k, x⟩, hx⟩ := Option.isSome_iff_exists.mp h1
  obtain ⟨y, hy⟩ := Option.isSome_iff_exists.mp h2
  have h3 : zFlw.readChecked zFlw.flsBuf (4096 * zFlw.flsSectors.length) = ((zFlr.1.1, false), zFlr.2) := zTri (by decide +kernel)
  exact ⟨((zSc.wr Reg.FLS_LADDR.SECTOR 65536).wr Reg.FLS_LEN.SECTORS 1).wr Reg.FLS_BUF.ADDR 0x4000, zFlw, zFlr.2, x, y, 1, k, zFlr.1.1, by decide +kernel, rfl, by decide +kernel, by decide +kernel, by decide +kernel, by decide +kernel, h3, hx, hy⟩
/-- Bytes and numbers, both ways. -/
theorem ofLe_leBytes (n v : Nat) (h : v < 256 ^ n) : ofLe (leBytes n v) = v := by
  induction n generalizing v with
  | zero => simp at h; simp [leBytes, ofLe, h]
  | succ n ih =>
    have : v / 256 < 256 ^ n := by rw [Nat.div_lt_iff_lt_mul (by decide)]; rw [Nat.pow_succ] at h; exact h
    simp [leBytes, ofLe, ih _ this, BitVec.toNat_ofNat]; omega
theorem ofBe_beBytes (n v : Nat) (h : v < 256 ^ n) : ofBe (beBytes n v) = v := by simp [ofBe, beBytes, ofLe_leBytes n v h]
theorem leBytes_ofLe (l : List Byte) : leBytes l.length (ofLe l) = l := by
  induction l with
  | nil => rfl
  | cons b t ih =>
    have h1 : (b.toNat + 256 * ofLe t) / 256 = ofLe t := by have := b.isLt; omega
    have h2 : BitVec.ofNat 8 (b.toNat + 256 * ofLe t) = b := by apply BitVec.eq_of_toNat_eq; simp [BitVec.toNat_ofNat]; have := b.isLt; omega
    simp only [List.length_cons, leBytes, ofLe, h1, h2, ih]
theorem beBytes_length (n v : Nat) : (beBytes n v).length = n := by
  have : ∀ v, (leBytes n v).length = n := by induction n with | zero => intro v; rfl | succ n ih => intro v; simp [leBytes, ih]
  simp [beBytes, this]

/-- The tag that an unseal of zeros computes, and an extent whose record holds the tag `t`. -/
def zI : JobInfo := { obj := 0, idx := 0, len := 0, k := 0, m := 0, epoch := 0, slot := 0 }
def zTg : Nat := combineTag (dataKey 0 0 0) zI [((0 : Nat), lastBlock zI 0 1)]
theorem zTlt : zTg < 256 ^ 16 := BitVec.isLt _
def zTR (t : Nat) : RestoreExt := { zRx with record := List.replicate 44 0 ++ (beBytes 16 t ++ List.replicate 68 0), ranges := [{ zRange with phase := .done }], retries := 15 }
theorem zTR_tag {t : Nat} (h : t < 256 ^ 16) : recTag (zTR t).record = t := by
  have h1 : slice (zTR t).record 44 16 = beBytes 16 t := by
    unfold slice zTR; rw [List.drop_left' (by simp)]
    unfold padTo; rw [List.append_assoc, List.take_left' (beBytes_length 16 t)]
  unfold recTag beAt; rw [h1, ofBe_beBytes 16 t h]
def zTS (t : Nat) : State := zR (zRE (zTR t))
theorem zTS_info (t : Nat) : (zTS t).jobInfo (.unseal 0 0) = some zI := rfl
theorem zTS_tag (t : Nat) : (zTS t).rangesTag zI (zTR t).ranges = some zTg := rfl

theorem test_meets_RestoreEvacuationAndDrainCommandsComplete_5 : ∃ (s : State) (r : Restore) (e : RestoreExt) (handle : Nat) (idx : Nat) (i : JobInfo), s.restore handle = some r ∧ r.ext? idx = some e ∧ s.jobInfo (.unseal handle idx) = some i ∧ e.verified = false ∧ e.ranges ≠ [] ∧ (e.ranges.all (fun g => g.phase == .done) = true) ∧ s.rangesTag i e.ranges = some (recTag e.record) := by
  refine ⟨zTS zTg, zRE (zTR zTg), zTR zTg, 0, 0, zI, rfl, rfl, zTS_info _, rfl, by decide +kernel, by decide +kernel, ?_⟩
  rw [zTR_tag zTlt]; exact zTS_tag _

theorem test_meets_RestoreEvacuationAndDrainCommandsComplete_6 : ∃ (s : State) (u : State) (r : Restore) (e : RestoreExt) (handle : Nat) (idx : Nat) (i : JobInfo) (tag : Nat), s.restore handle = some r ∧ r.ext? idx = some e ∧ s.jobInfo (.unseal handle idx) = some i ∧ e.verified = false ∧ e.ranges ≠ [] ∧ (e.ranges.all (fun g => g.phase == .done) = true) ∧ s.rangesTag i e.ranges = some tag ∧ tag ≠ recTag e.record ∧ u = ((s.stuCode e.lead 0x30).bump Reg.RST_EVENTS.TAG_FAIL).raise srcRstTagFail ∧ u.rd Reg.RST_CFG.TAG_RETRIES ≤ e.retries := by
  have hne : ∃ t, t < 256 ^ 16 ∧ zTg ≠ t := ⟨(zTg + 1) % 256 ^ 16, Nat.mod_lt _ (by decide), by have := zTlt; omega⟩
  obtain ⟨t, ht, hn⟩ := hne
  refine ⟨zTS t, _, zRE (zTR t), zTR t, 0, 0, zI, zTg, rfl, rfl, zTS_info _, rfl, by simp [zTR], rfl, zTS_tag _, by rw [zTR_tag ht]; exact hn, rfl, ?_⟩
  have h2 : (((zTS t).stuCode 0 0x30).bump Reg.RST_EVENTS.TAG_FAIL |>.raise srcRstTagFail).rd Reg.RST_CFG.TAG_RETRIES = Reg.RST_CFG.TAG_RETRIES.resetValue := rfl
  exact Nat.le_trans (Nat.le_of_eq h2) (by show Reg.RST_CFG.TAG_RETRIES.resetValue ≤ 15; decide)

def zHash : Nat := Config.shake256 [] 256 % 2 ^ 256
theorem zShake : Config.shake256 (overlay 0 []) 256 % 2 ^ 256 = beAt (beBytes 4 1 ++ beBytes 4 0 ++ beBytes 32 zHash) 8 32 := by
  have h1 : slice (beBytes 4 1 ++ beBytes 4 0 ++ beBytes 32 zHash) 8 32 = beBytes 32 zHash := by
    unfold slice; rw [List.drop_left' (by simp [beBytes_length]), padTo_self (beBytes_length _ _)]
  unfold beAt; rw [h1, ofBe_beBytes 32 zHash (Nat.lt_of_lt_of_le (Nat.mod_lt _ (by decide)) (by decide))]; rfl

def zGk : Nat := gcmTag 0 0 [] (List.replicate 32 0)
theorem zGkLt : zGk < 256 ^ 16 := BitVec.isLt _
def zW (j : Nat) : Nat := ofLe (((beBytes 16 zGk).drop (4 * j)).take 4)
def zOpen : State := (((((((zK 4096).wr Reg.SDB_SLOTS.DST 2).wr Reg.SDB_LEN.LEN 60).wr (Reg.SDB_WIN.DATA.nth 11) (zW 0)).wr (Reg.SDB_WIN.DATA.nth 12) (zW 1)).wr (Reg.SDB_WIN.DATA.nth 13) (zW 2)).wr (Reg.SDB_WIN.DATA.nth 14) (zW 3))
theorem zOpen_win : (zOpen.wr Reg.SDB_CMD.OP 0x08).sdbWin 44 16 = padTo 16 (leBytes 4 (zW 0 % 2 ^ 32) ++ (leBytes 4 (zW 1 % 2 ^ 32) ++ (leBytes 4 (zW 2 % 2 ^ 32) ++ (leBytes 4 (zW 3 % 2 ^ 32) ++ [])))) := rfl
theorem zW_le (j : Nat) (h : j < 4) : leBytes 4 (zW j % 2 ^ 32) = ((beBytes 16 zGk).drop (4 * j)).take 4 := by
  have hl : (((beBytes 16 zGk).drop (4 * j)).take 4).length = 4 := by simp [beBytes_length]; omega
  have hb : zW j < 2 ^ 32 := by
    have key : ∀ l : List Byte, ofLe l < 256 ^ l.length := by
      intro l; induction l with
      | nil => simp [ofLe]
      | cons b t ih => simp only [ofLe, List.length_cons, Nat.pow_succ]; have := b.isLt; omega
    have := key (((beBytes 16 zGk).drop (4 * j)).take 4); rw [hl] at this; exact this
  rw [Nat.mod_eq_of_lt hb]
  have := leBytes_ofLe (((beBytes 16 zGk).drop (4 * j)).take 4); rw [hl] at this; exact this
theorem zOpen_tag : ofBe ((zOpen.wr Reg.SDB_CMD.OP 0x08).sdbWin 44 16) = zGk := by
  rw [zOpen_win, zW_le 0 (by decide), zW_le 1 (by decide), zW_le 2 (by decide), zW_le 3 (by decide)]
  have hs : ((beBytes 16 zGk).drop (4 * 0)).take 4 ++ (((beBytes 16 zGk).drop (4 * 1)).take 4 ++ (((beBytes 16 zGk).drop (4 * 2)).take 4 ++ (((beBytes 16 zGk).drop (4 * 3)).take 4 ++ []))) = beBytes 16 zGk := by
    have hl := beBytes_length 16 zGk
    generalize beBytes 16 zGk = l at hl
    match l, hl with
    | [_, _, _, _, _, _, _, _, _, _, _, _, _, _, _, _], _ => rfl
  rw [hs, padTo_self (beBytes_length _ _), ofBe_beBytes 16 _ zGkLt]
theorem test_meets_KeyBusAndKeySlotCommandsComplete_15 : ∃ (s : State) (v : State) (a : Nat) (key : Nat) (n : Nat) (pt : List Byte), v.dstRefused = none ∧ a = v.rd Reg.SDB_ATTR.ATTR ∧ v = s.wr Reg.SDB_CMD.OP 0x08 ∧ v.gcmKey = .ok key ∧ attrLegal a = true ∧ n = v.rd Reg.SDB_LEN.LEN ∧ 60 ≤ n ∧ n ≤ 2048 ∧ gcmOpen key (ofBe (v.sdbWin 0 12)) (v.sdbWin 12 (n - 60)) (v.sdbWin (n - 48) 32) (ofBe (v.sdbWin (n - 16) 16)) = some pt := by
  have h1 : ofBe ((zOpen.wr Reg.SDB_CMD.OP 0x08).sdbWin 0 12) = 0 := by decide +kernel
  have h2 : (zOpen.wr Reg.SDB_CMD.OP 0x08).sdbWin 12 (60 - 60) = [] := by decide +kernel
  have h3 : (zOpen.wr Reg.SDB_CMD.OP 0x08).sdbWin (60 - 48) 32 = List.replicate 32 0 := by decide +kernel
  refine ⟨zOpen, zOpen.wr Reg.SDB_CMD.OP 0x08, 0, 0, 60, xorBytes (List.replicate 32 0) (keystream 0 0 2 (List.replicate 32 (0 : Byte)).length), by decide +kernel, by decide +kernel, rfl, rfl, by decide +kernel, by decide +kernel, by decide, by decide, ?_⟩
  rw [h1, h2, h3, show 60 - 16 = 44 from rfl, zOpen_tag]
  exact if_pos rfl

/-- The end of a segmented write of no bytes, with the hash of nothing. -/
def zEndMsg : List Byte := beBytes 4 1 ++ beBytes 4 0 ++ beBytes 32 zHash
def zHd : SmlWrite := { session := 0, idx := 0x1201, sub := 0, total := 0, parts := [], lastUse := 0 }
def zWs : State := zRun.updSmilia (fun m => { m with writes := [(1, zHd)] })
def zWy : SmlSession := zHeard zWs zSmlS (zSml zSmlS smSegEnd 1 zEndMsg)
def zWa : State := ((((zWs.setSml 0 zWy).setSml 0 { zWy with topReq := 1 }).assemble 0 1 0 true zEndMsg).1).scan 0
theorem test_meets_DictionaryRequestsComplete_7 : ∃ (s : State) (v : State) (w : State) (f : SmlIn) (x : SmlSession) (e : DictEntry) (h : Nat) (msg : List Byte) (hd : SmlWrite), s.takesRequest f smSegEnd v x msg ∧ h = beAt msg 0 4 ∧ msg.length = 40 ∧ beAt msg 4 4 = 0 ∧ v.writeHandle f.session h = some hd ∧ (w = v.updSmilia (fun m => { m with writes := tdel m.writes h })) ∧ hd.total ≤ covered hd.parts ∧ Config.shake256 (overlay hd.total hd.parts) 256 % 2 ^ 256 = beAt msg 8 32 ∧ dictEntry hd.idx hd.sub = some e ∧ e.acc ≠ .cmd := by
  have h0 : beAt zEndMsg 0 4 = 1 := by decide +kernel
  refine ⟨zWs, zWa, zWa.updSmilia (fun m => { m with writes := tdel m.writes 1 }), zSml zSmlS smSegEnd 1 zEndMsg, (zWa.sml 0).getD zWy, (dictEntry 0x1201 0).get (by decide +kernel), 1, zEndMsg, zHd, ?_, h0.symm, by decide +kernel, by decide +kernel, ?_, rfl, by decide +kernel, zShake, (Option.some_get _).symm, by decide +kernel⟩
  · exact ⟨_, _, _, zHears zSmlS, rfl, by decide +kernel, by decide +kernel, rfl, Prod.ext rfl (by rfl), rfl, rfl⟩
  · have h1 : ((zWa.writeHandle 0 1) == some zHd) = true := by decide +kernel
    exact eq_of_beq h1

/-- A start whose active twin passes its checks. Whether an image passes rests on the outside SLH-DSA verification (`Config.slhVerify`, no
body), so that one check is a hypothesis here and no closed state shows it. -/
theorem test_meets_BootCommandCompletes_0 {s : State} {x : BootIn} {r : PtrRec} {l : List PtrRec} (h1 : s.mainOn = true) (h2 : s.chip.booted = false) (h3 : s.chip.bootFailed = false)
    (hx : x.pairs = List.range 16) (hl : (s.bootUnits x).lunServes 0 = true) (hp : (s.bootUnits x).flash.pointers = r :: l) (hr : r.typ = 3)
    (hf : (s.bootUnits x).twinCheck r.twin (some r.hash) (x.ue.contains r.twin) = 0) :
    ∃ (s : State) (v : State) (x : BootIn) (p : Nat) (rest : List Nat) (tw : Nat) (n : Nat), s.mainOn = true ∧ s.chip.booted = false ∧ s.chip.bootFailed = false ∧ (pairs.filter (fun p => x.pairs.contains p) = p :: rest) ∧ (s.bootUnits x).chooseTwin x = (some (tw, n), v) := by
  refine ⟨s, (s.bootUnits x).recordFail r.twin 0, x, 0, (List.range 16).tail, r.twin, 0, h1, h2, h3, by rw [hx]; decide +kernel, ?_⟩
  have ha : (s.bootUnits x).flash.activeTwin = r.twin := by simp [Flash.activeTwin, hp, hr]
  have hc : (s.bootUnits x).flash.confirmOf r.twin = some r := by simp [Flash.confirmOf, hp, hr]
  have hi : (s.bootUnits x).imageFail x (some r) r.twin = 0 := hf
  simp only [State.chooseTwin, hl, Flash.pointer, Flash.trial, hp, hr, State.bootActive, ha, hc, hi, List.head?_cons]
  rfl

end Sys2Proof.Tests
end

section
/-!
PROOFS. The long instructions with a count of zero (R365).
-/

namespace Sys2Proof.Machine

/-- A retirement that changes no register moves pc past the instruction, takes its cycles, and leaves everything else as it is. -/
theorem jumpsTo_retire (u : State) (p : PairId) (cost : Nat) : u.jumpsTo (u.retire p cost (fun q => q)) p ((u.core p).pc + 4) cost :=
  setsPair_of (fun q => { q with pc := q.pc + 4, cycle := q.cycle + cost }) rfl rfl

/-- A long instruction with legal registers and a count of zero retires before its alignment check, its drain and its elements, whatever these are
(R365). -/
theorem longOp_of_count_zero {s u : State} {p : PairId} {wait : Nat} {rb : RegId} (h : s.fetches p wait u) (hz : (u.core p).reg rb = 0)
    {legal : Bool} (hl : legal = true) (n size : Nat) (addrs : List (AccessKind × RegId)) (drains : Bool) (elt : State → Except CoreExc Unit × State) :
    s.longOp p wait n size rb legal addrs drains elt = u.retire p 1 (fun q => q) := by
  unfold State.longOp
  rw [issue_run h]
  simp only [hl, hz, Bool.not_true, Bool.false_eq_true, if_false, if_true]

/-- A command that answers a long instruction of count zero moves the pair past it in one cycle, and does nothing else. -/
theorem longOp_of_count_zero_run {s u : State} {p : PairId} {wait : Nat} {rb : RegId} (h : s.fetches p wait u) (hz : (u.core p).reg rb = 0)
    {legal : Bool} (hl : legal = true) (n size : Nat) (addrs : List (AccessKind × RegId)) (drains : Bool) (elt : State → Except CoreExc Unit × State) :
    ∃ t, ok (s.longOp p wait n size rb legal addrs drains elt) = .next t ∧ u.jumpsTo t p ((u.core p).pc + 4) 1 := by
  refine ⟨_, rfl, ?_⟩
  rw [longOp_of_count_zero h hz hl]
  exact jumpsTo_retire u p 1

/-- Settles O16: BFILL, BMOV, MACV and SABS are each `State.longOp` at their own registers, which retires at once when the count is zero (R365). -/
theorem longInstructionOfCountZeroDoesNothing : Obligations.LongInstructionOfCountZeroDoesNothing := by
  unfold Obligations.LongInstructionOfCountZeroDoesNothing
  intro s u p wait n rd ra rb size un hfetch hzero
  refine ⟨fun hregs => ?bfill, fun hregs => ⟨?bmov, ?macv, ?sabs⟩⟩
  case bfill => exact longOp_of_count_zero_run hfetch hzero hregs n _ _ _ _
  case bmov => exact longOp_of_count_zero_run hfetch hzero hregs n _ _ _ _
  case macv => exact longOp_of_count_zero_run hfetch hzero hregs n _ _ _ _
  case sabs => exact longOp_of_count_zero_run hfetch hzero hregs n _ _ _ _

end Sys2Proof.Machine
end

section
/-!
PROOFS. Which interrupt source is deliverable, which one goes first, and its claim (R395).
-/

namespace Sys2Proof.Machine

/-- Only the empty list has no least element. -/
theorem argMin_eq_none_iff {α : Type} {key : α → Nat} {l : List α} : argMin key l = none ↔ l = [] := by
  cases l with
  | nil => simp [argMin]
  | cons x xs =>
    simp only [argMin, reduceCtorEq, iff_false]
    split
    · simp
    · split <;> simp

/-- In a list ordered by `R`, the element chosen stands in the list, and each other element has a greater key, or the same key and comes later. -/
theorem argMin_eq_some_least {α : Type} {key : α → Nat} {R : α → α → Prop} {l : List α} (hl : l.Pairwise R) {x : α} (h : argMin key l = some x) :
    x ∈ l ∧ ∀ y ∈ l, key x < key y ∨ (key x = key y ∧ (x = y ∨ R x y)) := by
  induction l generalizing x with
  | nil => cases h
  | cons a as ih =>
    obtain ⟨hfirst, htail⟩ := List.pairwise_cons.mp hl
    cases hm : argMin key as with
    | none =>
      obtain rfl := argMin_eq_none_iff.mp hm
      obtain rfl : a = x := by simpa [argMin] using h
      simp
    | some b =>
      obtain ⟨hb, hleast⟩ := ih htail hm
      by_cases hlt : key b < key a
      · obtain rfl : b = x := by simpa [argMin, hm, hlt] using h
        exact ⟨.tail a hb, List.forall_mem_cons.mpr ⟨.inl hlt, hleast⟩⟩
      · obtain rfl : a = x := by simpa [argMin, hm, hlt] using h
        refine ⟨.head as, List.forall_mem_cons.mpr ⟨.inr ⟨rfl, .inl rfl⟩, fun y hy => ?later⟩⟩
        have hby : key b ≤ key y := (hleast y hy).elim Nat.le_of_lt (fun ⟨heq, _⟩ => Nat.le_of_eq heq)
        rcases Nat.lt_or_eq_of_le (Nat.le_trans (Nat.le_of_not_lt hlt) hby) with hay | hay
        · exact .inl hay
        · exact .inr ⟨hay, .inr (hfirst y hy)⟩

/-- The source chosen among those admitted is one of the 1,024, is admitted, and comes first: by priority, and by number on a tie (R395). -/
theorem bestSource_eq_some_first {s : State} {admits : Nat → Bool} {n : Nat} (h : s.bestSource admits = some n) :
    n < 1024 ∧ admits n = true ∧ ∀ m < 1024, admits m = true →
      min 15 (s.sourcePrio m) < min 15 (s.sourcePrio n) ∨ (min 15 (s.sourcePrio m) = min 15 (s.sourcePrio n) ∧ n ≤ m) := by
  have hsorted : ((List.range 1024).filter admits).Pairwise (· < ·) := List.pairwise_lt_range.filter admits
  rw [State.bestSource] at h
  obtain ⟨hn, hleast⟩ := argMin_eq_some_least hsorted h
  obtain ⟨hn, hadm⟩ := List.mem_filter.mp hn
  refine ⟨List.mem_range.mp hn, hadm, fun m hm hadm' => ?_⟩
  have := hleast m (List.mem_filter.mpr ⟨List.mem_range.mpr hm, hadm'⟩)
  omega

/-- Where no source is chosen, none of the 1,024 is admitted. -/
theorem bestSource_eq_none {s : State} {admits : Nat → Bool} (h : s.bestSource admits = none) {m : Nat} (hm : m < 1024) : admits m = false := by
  rw [State.bestSource, argMin_eq_none_iff, List.filter_eq_nil_iff] at h
  exact Bool.eq_false_iff.mpr (h m (List.mem_range.mpr hm))

/-- The running priority after one more claim: the higher of the two. -/
def raisedBy (m : Option Nat) (c : Claim) : Option Nat :=
  match m with
  | none => some c.prio
  | some x => some (max x c.prio)

/-- A priority lies above what a list of claims raises `m` to exactly where it lies above `m` and above each of the claims. -/
theorem foldl_raisedBy_lt_iff {l : List Claim} {m : Option Nat} {b : Nat} :
    (∀ x ∈ l.foldl raisedBy m, x < b) ↔ (∀ x ∈ m, x < b) ∧ ∀ c ∈ l, c.prio < b := by
  induction l generalizing m with
  | nil => simp
  | cons c cs ih =>
    have hraised : (∀ x ∈ raisedBy m c, x < b) ↔ (∀ x ∈ m, x < b) ∧ c.prio < b := by
      cases m with
      | none => simp [raisedBy]
      | some x => simp only [raisedBy, Option.mem_some_iff, forall_eq', Nat.max_lt]
    rw [List.foldl_cons, ih, hraised, List.forall_mem_cons, and_assoc]

/-- The running priority is what the world's claims on the pair raise it to from none (R397). -/
theorem runningPriority_eq_foldl_raisedBy (s : State) (p : Nat) (w : World) :
    s.runningPriority p w = (s.cores.claims.filter (fun c => c.pair == p && c.world == w)).foldl raisedBy none := rfl

/-- A priority exceeds the running priority exactly where it exceeds every claim that the world has on the pair. -/
theorem runningPriority_lt_iff {s : State} {p : Nat} {w : World} {b : Nat} :
    (∀ x ∈ s.runningPriority p w, x < b) ↔ ∀ c ∈ s.cores.claims, c.pair = p → c.world = w → c.prio < b := by
  rw [runningPriority_eq_foldl_raisedBy, foldl_raisedBy_lt_iff]
  simp

/-- The conditions of R395, the last one by the running priority itself. -/
theorem deliverable_iff_runningPriority {s : State} {p : Nat} {w : World} {n : Nat} :
    s.deliverable p w n = true ↔ s.sourcePending n = true ∧ s.isSet (Reg.IC_ROUTE.EN.nth n) = true ∧ s.sourceActive n = false ∧ s.sourceWorld n = w ∧
      s.sourcePair n = some p ∧ ∀ x ∈ s.runningPriority p w, x < s.sourcePrio n := by
  unfold State.deliverable
  cases s.runningPriority p w <;> simp [and_assoc]

/-- A delivery changes at most the route's MOVED bit (R398): the pairs and the claims stay. -/
@[simp] theorem State.delivered_cores (s : State) (p n : Nat) : (s.delivered p n).cores = s.cores := by
  unfold State.delivered
  split <;> simp

/-- A claim puts the chosen source in front of the claims; of the pairs and claims it changes nothing else (R397). -/
theorem claim_cores_of_best {s : State} {p : Nat} {w : World} {n : Nat} (h : s.best p w = some n) :
    (s.claim p w).2.cores = { s.cores with claims := { source := n, pair := p, world := w, prio := s.sourcePrio n } :: s.cores.claims } := by
  unfold State.claim
  rw [h, State.delivered_cores]
  split <;> simp

/-- The command IC_CLAIM is a read of IC_CLAIM. -/
theorem exec_icClaim (p : PairId) (w : World) (s : State) : exec (.icClaim p w) s = execIcClaim p w s := rfl

/-- A read of IC_CLAIM makes the claim and answers the register's value. -/
theorem execIcClaim_eq (p : PairId) (w : World) (s : State) :
    execIcClaim p w s = .next ((s.claim p.val w).2.emit .reader 0xC0 [(s.claim p.val w).1]) := by
  unfold execIcClaim
  generalize s.claim p.val w = answer
  rfl

/-- A claim makes the source that was chosen active. -/
theorem execIcClaim_sourceActive {s : State} {p : PairId} {w : World} {n : Nat} (h : s.best p.val w = some n) :
    ∃ t, exec (.icClaim p w) s = .next t ∧ t.sourceActive n = true := by
  have hcores := claim_cores_of_best h
  exact ⟨_, (exec_icClaim p w s).trans (execIcClaim_eq p w s), by simp [State.sourceActive, hcores]⟩

/-- Settles O21: a fold of maxima lies below a priority exactly where each claim does, and the least element of an ascending list is its first on a
tie. -/
theorem deliverableSourcesAndTheirOrder : Obligations.DeliverableSourcesAndTheirOrder := by
  unfold Obligations.DeliverableSourcesAndTheirOrder
  intro s p w
  refine ⟨fun n => ?conditions, fun n hbest => ?order, fun hnone m hm => ?none, fun n hbest => ?claim⟩
  case conditions => rw [deliverable_iff_runningPriority, runningPriority_lt_iff]
  case order => exact bestSource_eq_some_first hbest
  case none => exact bestSource_eq_none hnone hm
  case claim =>
    obtain ⟨_, hdeliverable, _⟩ := bestSource_eq_some_first hbest
    obtain ⟨_, _, hidle, _⟩ := deliverable_iff_runningPriority.mp hdeliverable
    obtain ⟨t, hrun, hactive⟩ := execIcClaim_sourceActive hbest
    exact ⟨t, hrun, hidle, hactive⟩

end Sys2Proof.Machine
end

section
/-!
PROOFS. A stuck button: its flag and its source, the presses that stay unrecognised, and the release that ends them (R531).
-/

namespace Sys2Proof.Machine

/-- A detection and its reaction stay out of the panel. -/
@[simp] theorem State.raise_panel (s : State) (src detail : Nat) : (s.raise src detail).panel = s.panel := State.raise_upd.part .panel rfl

/-- The end of a fault's cause stays out of the panel and takes no time. -/
@[simp] theorem State.fall_panel (s : State) (src : Nat) : (s.fall src).panel = s.panel := rfl
@[simp] theorem State.fall_now (s : State) (src : Nat) : (s.fall src).now = s.now := rfl

/-- A release up to PNL_STUCK: after the debounce time the button's level is high, and it is neither held nor blocked (R528). -/
def State.liftButton (s : State) (b : Bool) : State :=
  if b then ((s.advance s.debounce).flag Reg.PNL_BTN.SERV_LIVE false).updPanel (fun p => { p with servAt := none, servBlocked := false })
  else ((s.advance s.debounce).flag Reg.PNL_BTN.PRES_LIVE false).updPanel (fun p => { p with presAt := none, presBlocked := false })

/-- Of the panel it changes its own button alone. The proof rewrites layer by layer: a closing `rfl` here would make the kernel compare whole states. -/
theorem liftButton_panel (s : State) (b : Bool) : (s.liftButton b).panel =
    if b then { s.panel with servAt := none, servBlocked := false } else { s.panel with presAt := none, presBlocked := false } := by
  unfold State.liftButton
  cases b
  · rw [if_neg Bool.false_ne_true, if_neg Bool.false_ne_true, State.updPanel_panel, State.flag_panel, State.advance_panel]
  · rw [if_pos rfl, if_pos rfl, State.updPanel_panel, State.flag_panel, State.advance_panel]

/-- It takes the debounce time. -/
theorem liftButton_now (s : State) (b : Bool) : (s.liftButton b).now = s.now + s.debounce := by
  unfold State.liftButton
  cases b <;> simp

/-- A release is that, and PNL_STUCK falls with it unless a button is still blocked. -/
theorem releaseButton_eq (s : State) (b : Bool) : s.releaseButton b =
    if (s.liftButton b).panel.presBlocked || (s.liftButton b).panel.servBlocked then s.liftButton b else (s.liftButton b).fall srcPnlStuck := rfl

/-- In the panel a release leaves its own button neither held nor blocked, and changes nothing else. -/
theorem releaseButton_panel (s : State) (b : Bool) : (s.releaseButton b).panel =
    if b then { s.panel with servAt := none, servBlocked := false } else { s.panel with presAt := none, presBlocked := false } := by
  rw [releaseButton_eq, apply_ite State.panel, State.fall_panel, ite_self, liftButton_panel]

/-- A button that is released is not held. -/
theorem releaseButton_pressed (s : State) (b : Bool) : (s.releaseButton b).pressed b = none := by
  cases b <;> simp [State.pressed, releaseButton_panel]

/-- A button that is released is not blocked. -/
theorem releaseButton_blocked (s : State) (b : Bool) : (s.releaseButton b).blocked b = false := by
  cases b <;> simp [State.blocked, releaseButton_panel]

/-- A release takes the debounce time (R528). -/
theorem releaseButton_now (s : State) (b : Bool) : (s.releaseButton b).now = s.now + s.debounce := by
  rw [releaseButton_eq, apply_ite State.now, State.fall_now, ite_self, liftButton_now]

/-- The debounce time is a register's (R528): it does not change as the clock runs. -/
theorem debounce_advanceTo (s : State) (t : Nat) : (s.advanceTo t).debounce = s.debounce := by
  simp [State.debounce]

/-- PNL_STUCK of a button that is held and not yet blocked: at STUCK_S its flag is set, it is blocked, and the source is raised. -/
theorem exec_pnlStuck_of_held {s : State} {b : Bool} {t0 : Nat} (hserves : s.panelServes = true) (hfree : s.blocked b = false)
    (hheld : s.pressed b = some t0) :
    exec (.pnlStuck b) s = .next ((((s.advanceTo (t0 + s.stuckLimit)).flag (if b then Reg.PNL_BTN.SERV_STUCK else Reg.PNL_BTN.PRES_STUCK) true).updPanel
      (fun q => if b then { q with servBlocked := true } else { q with presBlocked := true })).raise 0x2A0 (b2n b)) := by
  change execPnlStuck b s = _
  simp [execPnlStuck, hserves, hfree, hheld, srcPnlStuck, ok]

/-- A button blocked in the panel is blocked after any detection. -/
theorem raise_blocked (u : State) (b : Bool) (src detail : Nat) :
    ((u.updPanel (fun q => if b then { q with servBlocked := true } else { q with presBlocked := true })).raise src detail).blocked b = true := by
  cases b <;> simp [State.blocked]

/-- A presence press while PRESENCE_N is blocked changes nothing. -/
theorem exec_presencePress_of_blocked {s : State} (h : s.panel.presBlocked = true) : exec .presencePress s = .next s := by
  change execPresencePress s = _
  simp [execPresencePress, h, ok]

/-- A service press while SERVICE_N is blocked changes nothing. -/
theorem exec_servicePress_of_blocked {s : State} (held : Nat) (h : s.panel.servBlocked = true) : exec (.servicePress held) s = .next s := by
  change execServicePress held s = _
  simp [execServicePress, h, ok]

/-- A long press while SERVICE_N is blocked starts no EJECT and changes nothing. -/
theorem exec_longPress_of_blocked {s : State} (h : s.panel.servBlocked = true) : exec .longPress s = .next s := by
  change execLongPress s = _
  simp [execLongPress, h, ok]

/-- BUTTON_RELEASE of a held button releases it when its time low is over; beyond that it adds at most the press to the presses that count (R529). -/
theorem exec_buttonRelease_of_held {s : State} {b : Bool} {t0 : Nat} (n : Nat) (hserves : s.panelServes = true) (hheld : s.pressed b = some t0) :
    ∃ ps, exec (.buttonRelease b n) s = .next (((s.advanceTo (t0 + n * msec)).releaseButton b).updPanel (fun p => { p with presses := ps })) := by
  change ∃ ps, execButtonRelease b n s = _
  generalize hr : (s.advanceTo (t0 + n * msec)).releaseButton b = r
  by_cases hcounts : (!b && !s.panel.presBlocked && decide (n * msec ≤ s.stuckLimit)) = true
  · exact ⟨t0 :: r.panel.presses, by simp only [execButtonRelease, hserves, hheld, hr, hcounts, ok]; rfl⟩
  · exact ⟨r.panel.presses, by simp only [execButtonRelease, hserves, hheld, hr, hcounts, ok]; rfl⟩

/-- The list of presses that count is no part of whether a button is held. -/
theorem updPanel_presses_pressed (s : State) (ps : List Nat) (b : Bool) :
    (s.updPanel (fun p => { p with presses := ps })).pressed b = s.pressed b := by
  simp [State.pressed]

/-- The list of presses that count is no part of whether a button is blocked. -/
theorem updPanel_presses_blocked (s : State) (ps : List Nat) (b : Bool) :
    (s.updPanel (fun p => { p with presses := ps })).blocked b = s.blocked b := by
  simp [State.blocked]

/-- Settles O50: a raise keeps the panel, so the block of PNL_STUCK stands; each press command tests that block first; the release clears it. -/
theorem stuckButtonIsNotRecognisedUntilReleased : Obligations.StuckButtonIsNotRecognisedUntilReleased := by
  unfold Obligations.StuckButtonIsNotRecognisedUntilReleased
  intro s v t0 n b hserves
  refine ⟨fun hfree hheld hv => ?stuck, fun hblocked => ?presence, fun hblocked => ?service, fun hheld => ?release⟩
  case stuck =>
    subst hv
    exact ⟨_, exec_pnlStuck_of_held hserves hfree hheld, raise_blocked _ b _ _, rfl⟩
  case presence => exact ⟨s, exec_presencePress_of_blocked hblocked, rfl⟩
  case service => exact ⟨⟨s, exec_servicePress_of_blocked n hblocked, rfl⟩, ⟨s, exec_longPress_of_blocked hblocked, rfl⟩⟩
  case release =>
    obtain ⟨ps, hrun⟩ := exec_buttonRelease_of_held n hserves hheld
    refine ⟨_, hrun, ?unblocked, ?unpressed, ?time⟩
    case unblocked => rw [updPanel_presses_blocked, releaseButton_blocked]
    case unpressed => rw [updPanel_presses_pressed, releaseButton_pressed]
    case time =>
      rw [State.updPanel_now, releaseButton_now, State.advanceTo_now, debounce_advanceTo]
      exact Nat.add_le_add_right (Nat.le_add_right _ _) _

end Sys2Proof.Machine
end

section
/-!
PROOFS. The step itself, the state after reset, and what every step keeps: the canonical form, the parts that a command's list does not name, and
the direction of the clock and of what was sent.
-/

namespace Sys2Proof.Machine

/-- A step with a command waiting executes it on the rest of the queue. -/
theorem step_of_cons {c : Instr} {rest : List Instr} {s : State} (h : s.pending = c :: rest) : step s = exec c { s with pending := rest } := by
  simp only [step, h]

/-- A step with no command waiting looks for changes to notify. -/
theorem step_of_nil {s : State} (h : s.pending = []) : step s = .next (s.scan 0) := by
  simp only [step, h]

/-- Every step takes the front command from the queue, and what follows is the update of some mask on the state with the queue's rest. -/
theorem step_upd {s t : State} (h : step s = .next t) : ∃ m, Upd m { s with pending := s.pending.tail } t := by
  cases hp : s.pending with
  | nil =>
    obtain rfl : s.scan 0 = t := by simpa [step_of_nil hp] using h
    have hs : { s with pending := s.pending.tail } = s := by rw [hp, List.tail_nil, ← hp]
    exact ⟨_, by rw [← hp, hs]; exact State.scan_upd⟩
  | cons c rest => exact ⟨_, (exec_upd c _).of ((step_of_cons hp).symm.trans h)⟩

/-- The mask of a command covers no part that its list does not name. -/
theorem cover_touched_maskOf (c : Instr) : Part.cover (touched c) (maskOf c) = true := by
  cases c <;> dsimp only [touched, maskOf] <;> decide

/-- What a read of memory returns rests on memory alone. -/
theorem readMem_of_same {s t : State} (h : Part.mem.same s t) (a n : Nat) : t.readMem a n = s.readMem a n := by
  unfold State.readMem
  rw [show t.mem = s.mem from h]

/-- Settles O1: the match on the queue takes its first arm. -/
theorem stepRunsTheCommandInFront : Obligations.StepRunsTheCommandInFront := by
  unfold Obligations.StepRunsTheCommandInFront
  exact fun c rest s hp => step_of_cons hp

/-- Settles O4: every command and the scan of an idle step is an update (`Upd`), and updates keep the canonical form, of which the queue is no part. -/
theorem everyStepKeepsTheCanonicalForm : Obligations.EveryStepKeepsTheCanonicalForm := by
  unfold Obligations.EveryStepKeepsTheCanonicalForm
  intro s t htidy hstep
  obtain ⟨m, hupd⟩ := step_upd hstep
  exact hupd.tidy htidy

/-- Settles O5: the mask of each command's update covers only parts that its list names. -/
theorem commandsTouchOnlyTheirParts : Obligations.CommandsTouchOnlyTheirParts := by
  unfold Obligations.CommandsTouchOnlyTheirParts
  intro c s t hexec
  have hagree : s.agreeBut (touched c) t := ((exec_upd c s).of hexec).agreeBut (cover_touched_maskOf c)
  exact ⟨hagree, fun hmem => readMem_of_same (hagree.2 .mem hmem)⟩

/-- Settles O6: the update that a step makes starts from the queue's tail and only adds to the clock, the counter and the outputs. -/
theorem stepsNeverTurnBack : Obligations.StepsNeverTurnBack := by
  unfold Obligations.StepsNeverTurnBack
  intro s t hstep
  obtain ⟨m, hupd⟩ := step_upd hstep
  exact ⟨hupd.pending, hupd.now, hupd.draws, hupd.out⟩

/-- Where the management port does not serve, the scan changes nothing. -/
theorem scan_of_not_serving {s : State} (h : s.mgmtServes = false) (seq : Nat) : s.scan seq = s := by
  unfold State.scan
  simp [h]

/-- Settles O2: the match on the empty queue takes its second arm, and the scan looks at the port first. -/
theorem emptyQueueOnlyNotifies : Obligations.EmptyQueueOnlyNotifies := by
  unfold Obligations.EmptyQueueOnlyNotifies
  intro s hp
  refine ⟨step_of_nil hp, fun hoff => ?_⟩
  rw [step_of_nil hp, scan_of_not_serving hoff]

/-- At reset each pair is the reset pair of its number. -/
theorem core_reset (p : PairId) : State.reset.core p = Pair.reset p.val := Vector.getElem_ofFn _

/-- Settles O3: the reset state is a closed value, and its pairs are `Pair.reset` each. -/
theorem resetLeavesTheColdBlock : Obligations.ResetLeavesTheColdBlock := by
  unfold Obligations.ResetLeavesTheColdBlock
  refine ⟨by decide, rfl, rfl, rfl, rfl, rfl, rfl, rfl, rfl, fun p => ?pair⟩
  case pair =>
    rw [core_reset]
    exact ⟨rfl, rfl, rfl, rfl, rfl⟩

/-- A table cut down to keys of one kind reads as before at them, and reads nothing elsewhere. -/
theorem tget_tkeep {α : Type} (t : Table α) (f : Nat → Bool) (k : Nat) : tget (tkeep t (fun k _ => f k)) k = if f k then tget t k else none :=
  tget_filter t f k

/-- The clearing of a main-domain reset keeps the register fields of Table 20-5 and drops every other. -/
theorem clearMain_regs (s : State) : s.clearMain.regs = tkeep s.regs (fun k _ => keptField k) := rfl

/-- Settles O8: each part by the clearing's own equation, the register fields key by key. -/
theorem mainResetKeepsKennelCollarAndFlash : Obligations.MainResetKeepsKennelCollarAndFlash := by
  unfold Obligations.MainResetKeepsKennelCollarAndFlash
  intro s
  refine ⟨rfl, rfl, rfl, rfl, rfl, rfl, rfl, rfl, rfl, rfl, rfl, rfl, rfl, rfl, rfl, fun k hk => ?kept, fun k hk => ?dropped⟩
  case kept => rw [clearMain_regs, tget_tkeep, if_pos hk]
  case dropped => rw [clearMain_regs, tget_tkeep, hk, if_neg Bool.false_ne_true]

end Sys2Proof.Machine
end

section
/-!
PROOFS. The arithmetic, multiplier and branch instructions of a core (Tables 10-3 to 10-5).
-/

namespace Sys2Proof.Machine

/-- A signed comparison as a word compares the integers. -/
theorem boolWord_slt (a b : Word) : boolWord (a.slt b) = if a.toInt < b.toInt then 1 else 0 := by
  simp [boolWord, BitVec.slt]

/-- An unsigned comparison as a word compares the naturals. -/
theorem boolWord_ult (a b : Word) : boolWord (a.ult b) = if a.toNat < b.toNat then 1 else 0 := by
  simp [boolWord, BitVec.ult]

/-- A sign-extended half is the same integer. -/
theorem toInt_signExtend_half (imm : BitVec 16) : (imm.signExtend 64).toInt = imm.toInt := BitVec.toInt_signExtend_of_le (by decide)

/-- A half laid into zero is the half shifted to its place. -/
theorem insertHalf_zero (hw : BitVec 2) (imm : BitVec 16) : insertHalf 0 hw imm = imm.setWidth 64 <<< (16 * hw.toNat) := by
  simp [insertHalf]

/-- Clearing the low twelve bits rounds down to a page. -/
theorem page_of_address (a : Word) : a &&& ~~~(0xFFF : Word) = BitVec.ofNat 64 (a.toNat / 4096 * 4096) := by
  apply BitVec.eq_of_getLsbD_eq
  intro i hi
  have hround : a.toNat / 4096 * 4096 = (a.toNat >>> 12) <<< 12 := by simp [Nat.shiftLeft_eq, Nat.shiftRight_eq_div_pow]
  have hmask : (4095 : Nat).testBit i = decide (i < 12) := Nat.testBit_two_pow_sub_one 12 i
  have hlow : (0xFFF : Word).getLsbD i = decide (i < 12) := by rw [← hmask]; rfl
  rw [BitVec.getLsbD_and, BitVec.getLsbD_not, hlow, BitVec.getLsbD_ofNat, hround, Nat.testBit_shiftLeft, Nat.testBit_shiftRight]
  by_cases h : i < 12
  · simp only [h, Nat.not_le.mpr h, decide_true, decide_false, Bool.not_true, Bool.and_false, Bool.false_and]
  · simp only [h, hi, Nat.le_of_not_lt h, decide_true, decide_false, Bool.not_false, Bool.and_true, Bool.true_and, BitVec.getLsbD]
    rw [Nat.add_sub_cancel' (Nat.le_of_not_lt h)]

/-- A shift to the left by twelve multiplies by the size of a page. -/
theorem shiftLeft_twelve (x : Word) : x <<< 12 = x * 4096 := by
  apply BitVec.eq_of_toNat_eq
  simp [BitVec.toNat_shiftLeft, Nat.shiftLeft_eq]

/-- Settles O9: each instruction is `State.compute` of its own result; what is left is to state a few results in the words of Table 10-4. -/
theorem arithmeticInstructionsComplete : Obligations.ArithmeticInstructionsComplete := by
  unfold Obligations.ArithmeticInstructionsComplete
  refine ⟨fun s u p wait rd ra rb h => ?registers, fun s u p wait rd ra imm hw sh h => ?immediates⟩
  case registers =>
    refine ⟨?add, ?sub, ?and, ?or, ?xor, ?andn, ?slt, ?sltu, ?sll, ?srl, ?sra, ?ror, ?moveqz, ?movnez, ?clz, ?popc, ?bswap⟩
    case slt => exact compute_run h rd _ _ (boolWord_slt _ _)
    case sltu => exact compute_run h rd _ _ (boolWord_ult _ _)
    all_goals exact compute_run h rd _ _ rfl
  case immediates =>
    refine ⟨?addi, ?andi, ?ori, ?xori, ?slti, ?sltiu, ?movz, ?movk, ?adrp, ?slli, ?srli, ?srai⟩
    case slti => exact compute_run h rd _ _ (by rw [boolWord_slt, toInt_signExtend_half])
    case sltiu => exact compute_run h rd _ _ (boolWord_ult _ _)
    case movz => exact compute_run h rd _ _ (insertHalf_zero hw imm)
    case adrp => exact compute_run h rd _ _ (by rw [page_of_address, shiftLeft_twelve])
    all_goals exact compute_run h rd _ _ rfl

/-- The multiplier's wait for room changes no register that an instruction reads: a multiplier instruction enters with the value of the pair's own
registers. -/
theorem mul_run_of_regs {s u : State} {p : PairId} {w : Nat} (h : s.fetches p w u) (lat : Nat) (ra rb : RegId) (f : Word → Word → BitVec 128) {v : BitVec 128}
    (hv : f ((u.core p).reg ra) ((u.core p).reg rb) = v) :
    ∃ t, ok (s.mulOp p w lat (fun q => f (q.reg ra) (q.reg rb))) = .next t ∧ u.multiplies t p lat v :=
  mul_run h lat _ v (by simp only [reg_mulRoom]; exact hv)

/-- The same where the previous multiplier result is added. -/
theorem madd_run_of_regs {s u : State} {p : PairId} {w : Nat} (h : s.fetches p w u) (lat : Nat) (ra rb : RegId) (f : Word → Word → BitVec 128) {v : BitVec 128}
    (hv : f ((u.core p).reg ra) ((u.core p).reg rb) = v) :
    ∃ t, ok (s.mulOp p w lat (fun q => q.accumulator + f (q.reg ra) (q.reg rb))) = .next t ∧ u.multiplies t p lat ((u.core p).mulRoom.accumulator + v) :=
  mul_run h lat _ _ (by simp only [reg_mulRoom]; rw [hv])

/-- At the cycle of its oldest entry the queue loses that entry alone where the others complete later, and MHI:MLO take its value (R359). -/
theorem settle_of_oldest {q : Pair} {e : MulEntry} {es : List MulEntry} (hq : q.mul = e :: es) (hdone : e.done ≤ q.cycle) (hrest : ∀ x ∈ es, q.cycle < x.done) :
    q.settle = { q with mlo := e.value.extractLsb' 0 64, mhi := e.value.extractLsb' 64 64, mul := es } := by
  have hpast : es.filter (fun x => decide (x.done ≤ q.cycle)) = [] :=
    List.filter_eq_nil_iff.mpr (fun x hx => by simpa using hrest x hx)
  have hleft : es.filter (fun x => decide (q.cycle < x.done)) = es :=
    List.filter_eq_self.mpr (fun x hx => by simpa using hrest x hx)
  have hlow : e.value.setWidth 64 = e.value.extractLsb' 0 64 := BitVec.setWidth_eq_extractLsb' (by decide)
  have hhigh : (e.value >>> 64).setWidth 64 = e.value.extractLsb' 64 64 := by
    rw [BitVec.setWidth_eq_extractLsb' (by decide)]
    simp [BitVec.extractLsb']
  unfold Pair.settle
  simp only [hq, List.filter_cons, hdone, Nat.not_lt.mpr hdone, hpast, hleft, hlow, hhigh, decide_true, decide_false, if_true, if_false, List.getLast?_singleton,
    Bool.false_eq_true]

/-- The oldest entry completes at its cycle. -/
theorem exec_multiplierComplete {s : State} {p : PairId} {e : MulEntry} {es : List MulEntry} (hq : (s.core p).mul = e :: es) :
    exec (.multiplierComplete p) s = .next (s.updPair p (fun q => ({ q with cycle := max q.cycle e.done }).settle)) := by
  change execMultiplierComplete p s = _
  simp only [execMultiplierComplete, hq, List.head?_cons, ok]

/-- Settles O10: each instruction enters the queue by `State.mulOp` with its exact product, quotient or remainder; the completion settles the oldest. -/
theorem multiplierInstructionsComplete : Obligations.MultiplierInstructionsComplete := by
  unfold Obligations.MultiplierInstructionsComplete
  refine ⟨fun s u p wait ra rb h => ?enter, fun s p e es hq hrest => ?complete⟩
  case enter =>
    refine ⟨?mul, ?mulu, ?madd, ?maddu, ?divq, ?divqu, ?remd, ?remdu, ?mwr, fun rd => ⟨?mrdl, ?mrdh⟩⟩
    case mul => exact mul_run_of_regs h latMul ra rb prodS (prodS_eq _ _)
    case mulu => exact mul_run_of_regs h latMul ra rb prodU (prodU_eq _ _)
    case madd => exact madd_run_of_regs h latMadd ra rb prodS (prodS_eq _ _)
    case maddu => exact madd_run_of_regs h latMadd ra rb prodU (prodU_eq _ _)
    case divq => exact mul_run_of_regs h latDiv ra rb quotS rfl
    case divqu => exact mul_run_of_regs h latDiv ra rb quotU rfl
    case remd => exact mul_run_of_regs h latDiv ra rb remS rfl
    case remdu => exact mul_run_of_regs h latDiv ra rb remU rfl
    case mwr => exact mul_run_of_regs h latMwr ra rb (fun a b => b ++ a) rfl
    case mrdl => exact compute_run h rd _ _ rfl
    case mrdh => exact compute_run h rd _ _ rfl
  case complete =>
    refine ⟨_, exec_multiplierComplete hq, setsPair_of _ rfl ?_⟩
    have hlater : ∀ x ∈ es, max (s.core p).cycle e.done < x.done := fun x hx => Nat.max_lt.mpr (hrest x hx).symm
    exact settle_of_oldest (q := { s.core p with cycle := max (s.core p).cycle e.done }) hq (Nat.le_max_right _ _) hlater

/-- A shift to the left by two multiplies by the size of an instruction. -/
theorem shiftLeft_two (x : Word) : x <<< 2 = x * 4 := by
  apply BitVec.eq_of_toNat_eq
  simp [BitVec.toNat_shiftLeft, Nat.shiftLeft_eq]

/-- An instruction that only moves the pair on retires by one update of the pair. -/
theorem issue_sets {s u : State} {p : PairId} {w : Nat} (h : s.fetches p w u) (f : Pair → Pair) {q : Pair} (hq : f (u.core p) = q) :
    ∃ t, ok (s.issue p w (fun s => s.updPair p f)) = .next t ∧ u.setsPair t p q :=
  ⟨_, rfl, setsPair_of f (issue_run h _) hq⟩

/-- JALR to an aligned target sets its link register and goes there (R352). -/
theorem jalr_run {s u : State} {p : PairId} {w : Nat} (h : s.fetches p w u) {rd ra : RegId} {imm : BitVec 16}
    (ha : ((u.core p).reg ra + imm.signExtend 64).toNat % 4 = 0) :
    ∃ t, exec (.jalr p w rd ra imm) s = .next t ∧
      u.setsPair t p { (u.core p).setReg rd ((u.core p).pc + 4) with pc := (u.core p).reg ra + imm.signExtend 64, cycle := (u.core p).cycle + 2 } := by
  refine ⟨_, rfl, setsPair_of (fun q => { (q.setReg rd (q.pc + 4)) with pc := (u.core p).reg ra + imm.signExtend 64, cycle := q.cycle + 2 }) ?_ rfl⟩
  rw [issue_run h]
  simp only [ha, ne_eq, not_true_eq_false, if_false]

/-- An instruction that does nothing else moves pc past itself in one cycle. -/
theorem retire_run {s u : State} {p : PairId} {w : Nat} (h : s.fetches p w u) :
    ∃ t, ok (s.issue p w (fun s => s.retire p 1 (fun q => q))) = .next t ∧ u.jumpsTo t p ((u.core p).pc + 4) 1 := by
  refine ⟨_, rfl, ?_⟩
  rw [issue_run h]
  exact jumpsTo_retire u p 1

end Sys2Proof.Machine
end

section
/-!
PROOFS. Branches, loads, stores, atomics and the reservation pair of a core (R353 to R358).
-/

namespace Sys2Proof.Machine

/-- A privileged instruction at supervisor level has its effect on the fetched state. -/
theorem privileged_run {s u : State} {p : PairId} {w : Nat} (h : s.fetches p w u) (hsup : (u.core p).sup = true) (f : State → State) :
    s.privileged p w f = f u := by
  unfold State.privileged
  rw [issue_run h, if_pos hsup]

/-- Settles O11: branches by `branch_run` of their condition, jumps by one update of the pair, fences by a retirement. -/
theorem branchesAndJumpsComplete : Obligations.BranchesAndJumpsComplete := by
  unfold Obligations.BranchesAndJumpsComplete
  intro s u p wait rd ra rb off h
  refine ⟨?beq, ?bne, ?blt, ?bge, ?bltu, ?bgeu, fun long => ⟨?j, ?jal⟩, fun ha => ?jalr, ?fence, ?fencei, fun hsup => ?cflush⟩
  case beq => exact branch_run h off _ _ (by simp)
  case bne => exact branch_run h off _ _ (by simp)
  case blt => exact branch_run h off _ _ (by simp [BitVec.slt])
  case bge => exact branch_run h off _ _ (by simp [BitVec.slt])
  case bltu => exact branch_run h off _ _ (by simp [BitVec.ult])
  case bgeu => exact branch_run h off _ _ (by simp [BitVec.ult])
  case j => exact issue_sets h _ (by rw [shiftLeft_two])
  case jal => exact issue_sets h _ (by rw [shiftLeft_two])
  case jalr => exact jalr_run h ha
  case fence => exact retire_run h
  case fencei => exact retire_run h
  case cflush =>
    refine ⟨_, rfl, ?_⟩
    rw [privileged_run h hsup]
    exact jumpsTo_retire u p 1

/-- Settles O12: loads by `load_run` of their extension, stores by `store_run`. -/
theorem loadsAndStoresComplete : Obligations.LoadsAndStoresComplete := by
  unfold Obligations.LoadsAndStoresComplete
  refine ⟨fun s u v p wait rt ra m pa bs h hm => ?loads, fun s u v p wait rt ra m pa h hm => ?stores⟩
  case loads =>
    refine ⟨fun hl => ?byte, fun ha hl => ?half, fun ha hl => ?word, fun ha hl => ?double⟩
    case byte => exact ⟨load_run h hm (Nat.mod_one _) hl _, load_run h hm (Nat.mod_one _) hl _⟩
    case half => exact ⟨load_run h hm ha hl _, load_run h hm ha hl _⟩
    case word => exact ⟨load_run h hm ha hl _, load_run h hm ha hl _⟩
    case double => exact load_run h hm ha hl _
  case stores =>
    refine ⟨fun hl => ?byte, fun ha hl => ?half, fun ha hl => ?word, fun ha hl => ?double⟩
    case byte => exact store_run h hm (Nat.mod_one _) hl
    case half => exact store_run h hm ha hl
    case word => exact store_run h hm ha hl
    case double => exact store_run h hm ha hl

/-- A retirement after LLD's or SCD's work: the pair's destination and pc. -/
theorem retire_setReg_core (u : State) (p : PairId) (rd : RegId) (x : Word) :
    (u.retire p 1 (fun q => q.setReg rd x)).core p = { (u.core p).setReg rd x with pc := (u.core p).pc + 4, cycle := (u.core p).cycle + 1 } := by
  exact (writesReg_retire u p rd (fun _ => x)).2.1

/-- A register written reads as written, but g0 reads zero (R345). -/
theorem reg_setReg_self (q : Pair) (rd : RegId) (x : Word) : (q.setReg rd x).reg rd = if rd = 0 then 0 else x := by
  rw [reg_setReg]
  by_cases h : rd = 0
  · simp [h, Pair.reg]
  · simp [h]

/-- LLD reads its double word, and its pair holds the reservation of the line (R358). -/
theorem lld_run {s u v : State} {p : PairId} {w : Nat} (h : s.fetches p w u) {rd ra : RegId} {pa : Nat} {bs : List Byte}
    (ha : ((u.core p).reg ra).toNat % 8 = 0) (hl : u.loadBytes p .read ((u.core p).reg ra) 8 = (.ok (pa, bs), v)) :
    exec (.lld p w rd ra) s = .next ((v.updCores (fun c => { c with reserved := tput c.reserved p.val (lineOf pa) })).retire p 1 (fun q => q.setReg rd (zextBytes bs))) := by
  change ok (s.issue p w _) = _
  rw [issue_run h]
  simp only [ha, hl, ne_eq, not_true_eq_false, if_false, ok]

/-- SCD drops the reservation, stores where it covered the line, and answers whether it did not (R358). -/
theorem scd_run {s u v : State} {p : PairId} {w : Nat} (h : s.fetches p w u) {rd ra rb : RegId} {pa : Nat} (ha : ((u.core p).reg ra).toNat % 8 = 0)
    (hl : u.approach p (u.core p).world (!(u.core p).sup) .write ((u.core p).reg ra) 8 = (.ok pa, v)) {holds : Bool}
    (hh : (tget v.cores.reserved p.val == some (lineOf pa)) = holds) :
    exec (.scd p w rd ra rb) s = .next ((if holds then (v.dropOwn p).putBytes p (u.core p).world pa (leBytes 8 ((u.core p).reg rb).toNat) else v.dropOwn p).retire p 1
      (fun q => q.setReg rd (boolWord (!holds)))) := by
  change ok (s.issue p w _) = _
  rw [issue_run h]
  simp only [ha, hl, hh, ne_eq, not_true_eq_false, if_false, ok]

/-- Register `rd` after a retirement that writes it. -/
theorem retire_setReg_reg (u : State) (p : PairId) (rd : RegId) (x : Word) :
    ((u.retire p 1 (fun q => q.setReg rd x)).core p).reg rd = if rd = 0 then 0 else x := by
  rw [retire_setReg_core]
  exact reg_setReg_self _ rd x

/-- pc after a retirement. -/
theorem retire_setReg_pc (u : State) (p : PairId) (rd : RegId) (x : Word) :
    ((u.retire p 1 (fun q => q.setReg rd x)).core p).pc = (u.core p).pc + 4 := by
  rw [retire_setReg_core]

/-- A retirement leaves the reservations. -/
theorem retire_reserved (u : State) (p : PairId) (cost : Nat) (f : Pair → Pair) : (u.retire p cost f).cores.reserved = u.cores.reserved := rfl

/-- A retirement changes no other pair. -/
theorem retire_core_ne (u : State) (p r : PairId) (cost : Nat) (f : Pair → Pair) (hr : r ≠ p) : (u.retire p cost f).core r = u.core r :=
  (setsPair_updPair u p _).2.2.1 r hr

/-- A retirement touches the cores alone. -/
theorem retire_agreeBut (u : State) (p : PairId) (cost : Nat) (f : Pair → Pair) : u.agreeBut [.cores] (u.retire p cost f) := (setsPair_updPair u p _).1

/-- A retirement after a change of reservations. -/
theorem agreeBut_retire_of_updCores (v : State) (p : PairId) (cost : Nat) (f : Pair → Pair) (g : Cores → Cores) :
    v.agreeBut [.cores] ((v.updCores g).retire p cost f) :=
  ⟨rfl, fun r hr => by cases r with | cores => exact absurd (List.mem_singleton.2 rfl) hr | _ => rfl⟩

/-- A core's store to memory after the loss of its reservation writes memory as the store would have without it, and changes no pair. -/
theorem putBytes_dropOwn_of_memory {v : State} {p : PairId} (w : World) {pa : Nat} (bs : List Byte) (hmem : v.targetOf pa ≠ some 2) :
    (v.dropOwn p).putBytes p w pa bs = ((v.dropOwn p).dropReserved pa bs.length (fun k => k == p.val)).storeMem pa bs := by
  have h : (v.dropOwn p).targetOf pa ≠ some 2 := hmem
  unfold State.putBytes
  split
  · contradiction
  · rfl

/-- Memory after a store rests on memory and registers, not on the cores. -/
theorem storeMem_mem_of_updCores (v : State) (g : Cores → Cores) (a : Nat) (bs : List Byte) : ((v.updCores g).storeMem a bs).mem = (v.storeMem a bs).mem := by
  unfold State.storeMem
  have hflips : (v.updCores g).flips a bs.length = v.flips a bs.length := rfl
  rw [hflips]
  split <;> rfl

/-- A write of memory leaves the cores. -/
@[simp] theorem storeMem_cores (v : State) (a : Nat) (bs : List Byte) : (v.storeMem a bs).cores = v.cores := State.storeMem_upd.part .cores rfl

/-- A store's end of reservations keeps those of its own pair and those that it does not reach. -/
theorem dropReserved_reserved (s : State) (a n : Nat) (own : Nat → Bool) :
    (s.dropReserved a n own).cores.reserved = tkeep s.cores.reserved (fun p l => own p || decide (a + n ≤ l ∨ l + 64 ≤ a)) := rfl

/-- No reservation of a pair is left that another's store could end, once it is dropped. -/
theorem tget_tkeep_of_none {α : Type} {t : Table α} {f : Nat → α → Bool} {k : Nat} (h : tget t k = none) : tget (tkeep t f) k = none := by
  induction t with
  | nil => rfl
  | cons x t ih =>
    obtain ⟨a, v⟩ := x
    by_cases ha : a = k
    · simp [tget, ha] at h
    · have ht : tget t k = none := by simpa [tget, ha] using h
      have hk := ih ht
      unfold tkeep at hk ⊢
      by_cases hf : f a v
      · simpa [List.filter_cons, hf, tget, ha] using hk
      · simpa [List.filter_cons, hf] using hk

/-- Settles O14: the atomics by `atomic_run` of their new value, the reservation pair by its two equations. -/
theorem atomicsAndReservationComplete : Obligations.AtomicsAndReservationComplete := by
  unfold Obligations.AtomicsAndReservationComplete
  intro s u v p wait rd ra rb pa bs h
  dsimp only
  intro ha
  refine ⟨fun hl => ?atomics, fun hl => ?lld, fun hl hres hmem => ?held, fun hl hres => ?lost⟩
  case atomics =>
    refine ⟨?swapd, ?aaddd, ?aandd, ?aord, ?casd⟩
    case casd => exact atomic_run h ha hl _ _ (by by_cases hc : zextBytes bs = (u.core p).reg rd <;> simp only [hc, if_true, if_false])
    all_goals exact atomic_run h ha hl _ _ rfl
  case lld =>
    refine ⟨_, lld_run h ha hl, tget_tput_self _ _ _, retire_setReg_reg _ _ _ _, retire_setReg_pc _ _ _ _, agreeBut_retire_of_updCores _ _ _ _ _, fun r hr => ?_⟩
    rw [retire_core_ne _ _ _ _ _ hr]
    rfl
  case held =>
    refine ⟨_, scd_run h ha hl (beq_iff_eq.mpr hres), ?reg, ?dropped, ?pc, ?mem⟩
    case reg =>
      rw [retire_setReg_reg]
      exact ite_self _
    all_goals rw [if_pos rfl, putBytes_dropOwn_of_memory _ _ hmem]
    case dropped =>
      rw [retire_reserved, storeMem_cores, dropReserved_reserved]
      exact tget_tkeep_of_none (tget_tdel_self _ _)
    case pc =>
      rw [retire_setReg_pc]
      unfold State.core
      rw [storeMem_cores]
      rfl
    case mem =>
      exact storeMem_mem_of_updCores v (fun c => { c with reserved := tkeep (tdel c.reserved p.val) _ }) pa _
  case lost =>
    exact ⟨_, scd_run h ha hl (beq_eq_false_iff_ne.mpr hres), retire_setReg_reg _ _ _ _, tget_tdel_self _ _, retire_setReg_pc _ _ _ _,
      agreeBut_retire_of_updCores _ _ _ _ _⟩

end Sys2Proof.Machine
end

section
/-!
PROOFS. Memory byte by byte: what a read returns for one byte, that a correction in place and a write elsewhere change no byte's reading, and what a
write leaves in its range (R409 to R416).
-/

namespace Sys2Proof.Machine

/-- The word that holds a byte. -/
def wordOfByte (x : Nat) : Nat := 4 * (x / 4)

/-- What a read returns for one byte: its byte of the word as the checker corrects it (R414, R415). -/
def Memory.byteRead (m : Memory) (x : Nat) : Byte := (leBytes 4 (m.corrected (wordOfByte x))).getD (x % 4) 0

/-- Reading bytes, one by one. -/
theorem getD_readCells (c : List Host.Cell) (a n j : Nat) (h : j < n) : (readCells c a n).getD j 0 = cellAt c (a + j) := by
  induction n generalizing a j with
  | zero => omega
  | succ n ih =>
    cases j with
    | zero => rfl
    | succ j => simpa [readCells, Nat.add_assoc, Nat.add_comm 1 j] using ih (a + 1) j (by omega)

theorem length_readCells (c : List Host.Cell) (a n : Nat) : (readCells c a n).length = n := by
  induction n generalizing a with
  | zero => rfl
  | succ n ih => simp [readCells, ih]

theorem length_leBytes (n v : Nat) : (leBytes n v).length = n := by
  induction n generalizing v with
  | zero => rfl
  | succ n ih => simp [leBytes, ih]

/-- Bytes to a number and back. -/
theorem leBytes_ofLe_length (bs : List Byte) : leBytes bs.length (ofLe bs) = bs := by
  induction bs with
  | nil => rfl
  | cons b bs ih =>
    have hb := b.isLt
    have hhead : BitVec.ofNat 8 (b.toNat + 256 * ofLe bs) = b := by
      apply BitVec.eq_of_toNat_eq
      rw [BitVec.toNat_ofNat]
      omega
    have htail : (b.toNat + 256 * ofLe bs) / 256 = ofLe bs := by omega
    simp only [List.length_cons, leBytes, ofLe, hhead, htail, ih]

/-- The bytes of the word stored at an address are its cells. -/
theorem getD_leBytes_wordAt (c : List Host.Cell) (w j : Nat) (h : j < 4) : (leBytes 4 (wordAt c w)).getD j 0 = cellAt c (w + j) := by
  have hback : leBytes 4 (wordAt c w) = readCells c w 4 := by
    have := leBytes_ofLe_length (readCells c w 4)
    rwa [length_readCells] at this
  rw [hback, getD_readCells c w 4 j h]

/-- Where the checker inverts no data bit, a byte reads as stored. -/
theorem byteRead_of_not_data {m : Memory} {x : Nat} (h : ∀ i, m.outcome (wordOfByte x) ≠ .data i) : m.byteRead x = cellAt m.cells x := by
  have hword : m.corrected (wordOfByte x) = wordAt m.cells (wordOfByte x) := by
    unfold Memory.corrected
    split
    · rename_i i hi
      exact absurd hi (h i)
    · rfl
  have hx : wordOfByte x + x % 4 = x := by unfold wordOfByte; omega
  rw [Memory.byteRead, hword, getD_leBytes_wordAt _ _ _ (Nat.mod_lt _ (by decide)), hx]

/-- Where a word's check bits encode its data, its bytes read as stored. -/
theorem byteRead_of_code_none {m : Memory} {x : Nat} (h : m.code (wordOfByte x) = none) : m.byteRead x = cellAt m.cells x := by
  refine byteRead_of_not_data (fun i => ?_)
  simp [Memory.outcome, h]

/-- A byte's reading rests on the cells and the check bits of its word. -/
theorem byteRead_congr {m n : Memory} {x : Nat} (hcode : n.code (wordOfByte x) = m.code (wordOfByte x))
    (hcells : ∀ y, wordOfByte y = wordOfByte x → cellAt n.cells y = cellAt m.cells y) : n.byteRead x = m.byteRead x := by
  have hword : wordAt n.cells (wordOfByte x) = wordAt m.cells (wordOfByte x) := by
    have hcell : ∀ j, j < 4 → cellAt n.cells (wordOfByte x + j) = cellAt m.cells (wordOfByte x + j) :=
      fun j hj => hcells _ (by unfold wordOfByte; omega)
    simp only [wordAt, readCells, Nat.add_assoc]
    rw [show cellAt n.cells (wordOfByte x) = _ from hcell 0 (by decide), hcell 1 (by decide), hcell (1 + 1) (by decide), hcell (1 + (1 + 1)) (by decide)]
    rfl
  simp only [Memory.byteRead, Memory.corrected, Memory.outcome, hcode, hword]

/-- A stored word's bytes, and every other byte as before. -/
theorem cellAt_storeWord {m : Memory} (hm : m.wf = true) (k d c y : Nat) : cellAt (m.storeWord (4 * k) d c).cells y =
    if wordOfByte y = 4 * k then (leBytes 4 d).getD (y % 4) 0 else cellAt m.cells y := by
  have hcells : cellsWf m.cells = true := (Memory.wf_mk.mp hm).1
  have hin : (4 * k ≤ y ∧ y < 4 * k + 4) ↔ wordOfByte y = 4 * k := by unfold wordOfByte; omega
  rw [Memory.storeWord, cellAt_writeCells _ _ hcells, length_leBytes]
  simp only [hin]
  split
  · rename_i h
    have hoff : y - 4 * k = y % 4 := by unfold wordOfByte at h; omega
    rw [hoff]
  · rfl

/-- A stored word lists its check bits where they do not encode its data; every other word's stay. -/
theorem code_storeWord (m : Memory) (k d c j : Nat) : (m.storeWord (4 * k) d c).code (4 * j) =
    if j = k then (if c = encodeWord (4 * k) d then none else some c) else m.code (4 * j) := by
  have hk : 4 * k / 4 = k := by omega
  have hj : 4 * j / 4 = j := by omega
  simp only [Memory.code, Memory.storeWord, putCode, hk, hj]
  by_cases h : j = k
  · subst h
    by_cases hc : c = encodeWord (4 * j) d
    · simp [hc, tget_tdel_self]
    · simp [hc, tget_tput_self]
  · by_cases hc : c = encodeWord (4 * k) d
    · simp [hc, h, tget_tdel_ne]
    · simp [hc, h, tget_tput_ne]

/-- The correction of one listed word in place (R415). -/
def Memory.fixWord (m : Memory) (a : Nat) : Memory :=
  match m.outcome a with
  | .data _ | .check => m.storeWord a (m.corrected a) (encodeWord a (m.corrected a))
  | _ => m

theorem Memory.fix_eq_foldl (m : Memory) (ws : List Nat) : m.fix ws = ws.foldl Memory.fixWord m := rfl

/-- A word is corrected in place, or its bytes read as stored and nothing is written. -/
theorem Memory.fixWord_cases (m : Memory) (a : Nat) :
    m.fixWord a = m.storeWord a (m.corrected a) (encodeWord a (m.corrected a)) ∨ (m.fixWord a = m ∧ ∀ i, m.outcome a ≠ .data i) := by
  unfold Memory.fixWord
  cases h : m.outcome a with
  | data i => exact .inl rfl
  | check => exact .inl rfl
  | clean => exact .inr ⟨rfl, fun i => by simp⟩
  | addr => exact .inr ⟨rfl, fun i => by simp⟩
  | poison => exact .inr ⟨rfl, fun i => by simp⟩
  | ue => exact .inr ⟨rfl, fun i => by simp⟩

theorem Memory.fixWord_wf {m : Memory} (hm : m.wf = true) (a : Nat) : (m.fixWord a).wf = true := by
  rcases m.fixWord_cases a with h | ⟨h, _⟩
  · rw [h]; exact Memory.storeWord_wf hm
  · rw [h]; exact hm

/-- After its correction a word's bytes are stored as they read before; every other byte is stored as before. -/
theorem cellAt_fixWord {m : Memory} (hm : m.wf = true) (k y : Nat) :
    cellAt (m.fixWord (4 * k)).cells y = if wordOfByte y = 4 * k then m.byteRead y else cellAt m.cells y := by
  rcases m.fixWord_cases (4 * k) with h | ⟨h, hnot⟩
  · rw [h, cellAt_storeWord hm]
    split
    · rename_i hy; rw [Memory.byteRead, hy]
    · rfl
  · rw [h]
    split
    · rename_i hy; exact (byteRead_of_not_data (by rw [hy]; exact hnot)).symm
    · rfl

/-- A correction lists no check bits for a word that had none listed. -/
theorem code_fixWord_of_none {m : Memory} {j : Nat} (k : Nat) (h : m.code (4 * j) = none) : (m.fixWord (4 * k)).code (4 * j) = none := by
  rcases m.fixWord_cases (4 * k) with hf | ⟨hf, _⟩
  · rw [hf, code_storeWord]; simp [h]
  · rw [hf, h]

/-- A correction in place changes no byte's reading. -/
theorem byteRead_fixWord {m : Memory} (hm : m.wf = true) (k x : Nat) : (m.fixWord (4 * k)).byteRead x = m.byteRead x := by
  by_cases hx : wordOfByte x = 4 * k
  · rcases m.fixWord_cases (4 * k) with h | ⟨h, _⟩
    · have hnone : (m.fixWord (4 * k)).code (wordOfByte x) = none := by rw [hx, h, code_storeWord]; simp
      rw [byteRead_of_code_none hnone, cellAt_fixWord hm, if_pos hx]
    · rw [h]
  · refine byteRead_congr ?code (fun y hy => ?cells)
    case code =>
      rcases m.fixWord_cases (4 * k) with h | ⟨h, _⟩
      · have hne : x / 4 ≠ k := fun e => hx (by rw [wordOfByte, e])
        rw [h, wordOfByte, code_storeWord, if_neg hne]
      · rw [h]
    case cells => rw [cellAt_fixWord hm, if_neg (by rw [hy]; exact hx)]

/-- What the correction of a list of words keeps, and what it leaves at a byte of the list or at one that reads as stored. -/
theorem fix_keeps {ks : List Nat} {m : Memory} (hm : m.wf = true) (x : Nat) :
    (m.fix (ks.map (4 * ·))).byteRead x = m.byteRead x ∧
    (m.code (wordOfByte x) = none → (m.fix (ks.map (4 * ·))).code (wordOfByte x) = none) ∧
    (x / 4 ∈ ks ∨ cellAt m.cells x = m.byteRead x → cellAt (m.fix (ks.map (4 * ·))).cells x = m.byteRead x) := by
  induction ks generalizing m with
  | nil => exact ⟨rfl, id, fun h => h.resolve_left (by simp)⟩
  | cons k ks ih =>
    have hstep : m.fix ((k :: ks).map (4 * ·)) = (m.fixWord (4 * k)).fix (ks.map (4 * ·)) := rfl
    obtain ⟨hread, hcode, hcell⟩ := ih (Memory.fixWord_wf hm (4 * k))
    rw [hstep]
    refine ⟨hread.trans (byteRead_fixWord hm k x), fun h => hcode (code_fixWord_of_none k h), fun h => ?_⟩
    rw [byteRead_fixWord hm, cellAt_fixWord hm] at hcell
    by_cases hk : x / 4 = k
    · exact hcell (.inr (if_pos (by rw [wordOfByte, hk])))
    · have hne : wordOfByte x ≠ 4 * k := fun e => hk (by unfold wordOfByte at e; omega)
      rw [if_neg hne] at hcell
      exact hcell (h.imp_left (fun hmem => (List.mem_cons.mp hmem).resolve_left hk))

/-- The listed words of a range are words of four bytes that overlap it. -/
def Memory.listedWords (m : Memory) (a n : Nat) : List Nat := tkeys m.codes (fun k _ => decide (a < 4 * k + 4 ∧ 4 * k < a + n))

theorem Memory.listed_eq_map (m : Memory) (a n : Nat) : m.listed a n = (m.listedWords a n).map (4 * ·) := rfl

/-- A key of a table that reads something is one of its keys. -/
theorem exists_mem_of_tget_ne_none {α : Type} {t : Table α} {k : Nat} (h : tget t k ≠ none) : ∃ v, (k, v) ∈ t := by
  induction t with
  | nil => exact absurd rfl h
  | cons x t ih =>
    obtain ⟨a, v⟩ := x
    by_cases ha : a = k
    · exact ⟨v, by simp [ha]⟩
    · obtain ⟨w, hw⟩ := ih (by simpa [tget, ha] using h)
      exact ⟨w, List.mem_cons_of_mem _ hw⟩

/-- A listed word overlaps its range. -/
theorem overlaps_of_mem_listedWords {m : Memory} {a n k : Nat} (h : k ∈ m.listedWords a n) : a < 4 * k + 4 ∧ 4 * k < a + n := by
  simp only [Memory.listedWords, tkeys, List.mem_map, List.mem_filter, decide_eq_true_eq] at h
  obtain ⟨x, ⟨_, hx⟩, rfl⟩ := h
  exact hx

/-- A word that overlaps the range and is not listed there has no check bits listed. -/
theorem code_of_not_mem_listedWords {m : Memory} {a n k : Nat} (hover : a < 4 * k + 4 ∧ 4 * k < a + n) (h : k ∉ m.listedWords a n) :
    m.code (4 * k) = none := by
  apply Classical.byContradiction
  intro hcode
  have hk : 4 * k / 4 = k := by omega
  obtain ⟨v, hv⟩ := exists_mem_of_tget_ne_none (t := m.codes) (k := k) (by simpa [Memory.code, hk] using hcode)
  refine h ?_
  simp only [Memory.listedWords, tkeys, List.mem_map, List.mem_filter, decide_eq_true_eq]
  exact ⟨(k, v), ⟨hv, hover⟩, rfl⟩

/-- A read of one byte of memory returns that byte's reading. -/
theorem readMem_one {s : State} (hm : s.mem.wf = true) (x : Nat) : s.readMem x 1 = [s.mem.byteRead x] := by
  obtain ⟨_, _, hcell⟩ := fix_keeps (ks := s.mem.listedWords x 1) hm x
  have hover : x < 4 * (x / 4) + 4 ∧ 4 * (x / 4) < x + 1 := by omega
  have hknown : x / 4 ∈ s.mem.listedWords x 1 ∨ cellAt s.mem.cells x = s.mem.byteRead x := by
    by_cases h : x / 4 ∈ s.mem.listedWords x 1
    · exact .inl h
    · exact .inr (byteRead_of_code_none (code_of_not_mem_listedWords hover h)).symm
  simp only [State.readMem, Memory.listed_eq_map, readCells, hcell hknown]

/-- A word that takes inverted check bits, so that it reads with poison (R416). -/
def Memory.poisonWord (m : Memory) (w : Nat) : Memory :=
  m.storeWord w (wordAt m.cells w) (encodeWord w (wordAt m.cells w) ^^^ (if inDram w then 255 else 127))

theorem Memory.poisonWord_wf {m : Memory} (hm : m.wf = true) (w : Nat) : (m.poisonWord w).wf = true := Memory.storeWord_wf hm

/-- It keeps its data. -/
theorem cellAt_poisonWord {m : Memory} (hm : m.wf = true) (k y : Nat) : cellAt (m.poisonWord (4 * k)).cells y = cellAt m.cells y := by
  rw [Memory.poisonWord, cellAt_storeWord hm]
  split
  · rename_i hy
    have hoff : 4 * k + y % 4 = y := by unfold wordOfByte at hy; omega
    rw [getD_leBytes_wordAt _ _ _ (Nat.mod_lt _ (by decide)), hoff]
  · rfl

/-- Its syndrome is that of poison, which inverts no data bit. -/
theorem outcome_poisonWord {m : Memory} (hm : m.wf = true) (k i : Nat) : (m.poisonWord (4 * k)).outcome (4 * k) ≠ .data i := by
  have hword : wordAt (m.poisonWord (4 * k)).cells (4 * k) = wordAt m.cells (4 * k) := by
    simp only [wordAt, readCells, cellAt_poisonWord hm]
  have hcode : (m.poisonWord (4 * k)).code (4 * k) = _ := code_storeWord m k _ _ k
  have hsyn : ∀ e n : Nat, (e ^^^ n) ^^^ e = n := fun e n => by rw [Nat.xor_comm e n, Nat.xor_assoc, Nat.xor_self, Nat.xor_zero]
  rw [if_pos rfl] at hcode
  rw [Memory.outcome, hcode, hword]
  by_cases henc : (encodeWord (4 * k) (wordAt m.cells (4 * k)) ^^^ (if inDram (4 * k) then 255 else 127)) = encodeWord (4 * k) (wordAt m.cells (4 * k))
  · rw [if_pos henc]
    simp
  · rw [if_neg henc]
    dsimp only
    rw [hsyn]
    cases inDram (4 * k) <;> simp [eccDecode, bitOf]

/-- Words that take poison keep their data, and every other byte its reading. -/
theorem poisonWords_keep {ks : List Nat} {m : Memory} (hm : m.wf = true) (x : Nat) :
    (m.byteRead x = cellAt m.cells x → ((ks.map (4 * ·)).foldl Memory.poisonWord m).byteRead x = cellAt m.cells x) ∧
    (x / 4 ∉ ks → ((ks.map (4 * ·)).foldl Memory.poisonWord m).byteRead x = m.byteRead x) := by
  induction ks generalizing m with
  | nil => exact ⟨id, fun _ => rfl⟩
  | cons k ks ih =>
    obtain ⟨hstored, hother⟩ := ih (Memory.poisonWord_wf hm (4 * k))
    rw [cellAt_poisonWord hm] at hstored
    have hne : x / 4 ≠ k → (m.poisonWord (4 * k)).byteRead x = m.byteRead x := by
      refine fun hk => byteRead_congr ?code (fun y _ => cellAt_poisonWord hm k y)
      case code => rw [Memory.poisonWord, wordOfByte, code_storeWord, if_neg hk]
    refine ⟨fun h => hstored ?_, fun h => ?_⟩
    · by_cases hk : x / 4 = k
      · rw [← cellAt_poisonWord hm k x]
        exact byteRead_of_not_data (fun i => by rw [wordOfByte, hk]; exact outcome_poisonWord hm k i)
      · rw [hne hk, h]
    · obtain ⟨hk, hks⟩ := not_or.mp (mt List.mem_cons.mpr h)
      exact (hother hks).trans (hne hk)

/-- The check bits of a list of words are dropped. -/
theorem tget_foldl_tdel (ks : List Nat) (t : Table Nat) (j : Nat) :
    tget ((ks.map (4 * ·)).foldl (fun t w => tdel t (w / 4)) t) j = if j ∈ ks then none else tget t j := by
  induction ks generalizing t with
  | nil => simp
  | cons k ks ih =>
    have hk : 4 * k / 4 = k := by omega
    simp only [List.map_cons, List.foldl_cons, hk, ih, List.mem_cons]
    by_cases h : j = k
    · simp [h, tget_tdel_self]
    · simp [h, tget_tdel_ne]

/-- The words of a range that are listed and written in part. -/
def Memory.partWords (m : Memory) (a n : Nat) : List Nat := (m.listedWords a n).filter (fun k => decide (4 * k < a ∨ a + n < 4 * k + 4))

/-- Memory with the bytes of a range written and the check bits of its words dropped. -/
def Memory.overwrite (m : Memory) (ks : List Nat) (a : Nat) (bs : List Byte) : Memory :=
  { cells := writeCells m.cells a bs, codes := (ks.map (4 * ·)).foldl (fun t w => tdel t (w / 4)) m.codes }

/-- A write corrects the words that it writes in part, writes its bytes, and gives poison back to those of them that read with it (R416). -/
theorem Memory.write_eq (m : Memory) (a : Nat) (bs : List Byte) : m.write a bs =
    ((((m.partWords a bs.length).filter (fun k => (m.outcome (4 * k)).poisons)).map (4 * ·)).foldl Memory.poisonWord
      ((m.fix ((m.partWords a bs.length).map (4 * ·))).overwrite (m.listedWords a bs.length) a bs)) := by
  simp only [Memory.write, Memory.listed_eq_map, List.filter_map, Memory.partWords, Memory.overwrite]
  rfl

theorem Memory.overwrite_wf {m : Memory} (hm : m.wf = true) (ks : List Nat) (a : Nat) (bs : List Byte) : (m.overwrite ks a bs).wf = true := by
  obtain ⟨hcells, hcodes⟩ := Memory.wf_mk.mp hm
  exact Memory.wf_mk.mpr ⟨writeCells_wf hcells, foldl_tdel_rising hcodes⟩

/-- What a byte reads after a write: inside the range the byte written, elsewhere what it read before. -/
theorem byteRead_write {m : Memory} (hm : m.wf = true) (a : Nat) (bs : List Byte) (x : Nat) :
    (m.write a bs).byteRead x = if a ≤ x ∧ x < a + bs.length then bs.getD (x - a) 0 else m.byteRead x := by
  obtain ⟨f, hf⟩ : ∃ f, f = m.fix ((m.partWords a bs.length).map (4 * ·)) := ⟨_, rfl⟩
  have hfix : f.wf = true := by rw [hf]; exact Memory.fix_wf hm
  obtain ⟨hread, hnone, hcell⟩ := fix_keeps (ks := m.partWords a bs.length) hm x
  rw [← hf] at hread hnone hcell
  obtain ⟨hstored, hother⟩ := poisonWords_keep (ks := (m.partWords a bs.length).filter (fun k => (m.outcome (4 * k)).poisons))
    (Memory.overwrite_wf hfix (m.listedWords a bs.length) a bs) x
  have hcode : (f.overwrite (m.listedWords a bs.length) a bs).code (wordOfByte x) = if x / 4 ∈ m.listedWords a bs.length then none else f.code (wordOfByte x) := by
    have hk : 4 * (x / 4) / 4 = x / 4 := by omega
    simp only [Memory.overwrite, Memory.code, wordOfByte, hk, tget_foldl_tdel]
  have hcells : ∀ y, cellAt (f.overwrite (m.listedWords a bs.length) a bs).cells y = if a ≤ y ∧ y < a + bs.length then bs.getD (y - a) 0 else cellAt f.cells y :=
    fun y => cellAt_writeCells a y (Memory.wf_mk.mp hfix).1
  rw [Memory.write_eq, ← hf]
  by_cases hover : a < 4 * (x / 4) + 4 ∧ 4 * (x / 4) < a + bs.length
  · have hdropped : (f.overwrite (m.listedWords a bs.length) a bs).code (wordOfByte x) = none := by
      rw [hcode]
      split
      · rfl
      · rename_i h; exact hnone (code_of_not_mem_listedWords hover h)
    rw [hstored (byteRead_of_code_none hdropped), hcells]
    split
    · rfl
    · rename_i hout
      refine hcell ?_
      by_cases h : x / 4 ∈ m.listedWords a bs.length
      · exact .inl (List.mem_filter.mpr ⟨h, by simp only [decide_eq_true_eq]; omega⟩)
      · exact .inr (byteRead_of_code_none (code_of_not_mem_listedWords hover h)).symm
  · have hlisted : x / 4 ∉ m.listedWords a bs.length := fun h => hover (overlaps_of_mem_listedWords h)
    have hpart : x / 4 ∉ (m.partWords a bs.length).filter (fun k => (m.outcome (4 * k)).poisons) :=
      fun h => hlisted (List.mem_filter.mp (List.mem_filter.mp h).1).1
    have hout : ¬(a ≤ x ∧ x < a + bs.length) := by omega
    rw [hother hpart, if_neg hout, ← hread]
    refine byteRead_congr (by rw [hcode, if_neg hlisted]) (fun y hy => ?_)
    rw [hcells, if_neg (by unfold wordOfByte at hy; omega)]

/-- Outside the armed flip a store to memory is the write of its bytes. -/
theorem storeMem_of_not_flips {s : State} {a : Nat} {bs : List Byte} (h : s.flips a bs.length = false) : s.storeMem a bs = s.putFresh a bs := by
  unfold State.storeMem
  simp [h]

/-- A read of one byte after a store, outside the armed flip. -/
theorem readMem_storeMem {s : State} {a : Nat} {bs : List Byte} (hm : s.mem.wf = true) (hf : s.flips a bs.length = false) (x : Nat) :
    (s.storeMem a bs).readMem x 1 = if a ≤ x ∧ x < a + bs.length then [bs.getD (x - a) 0] else s.readMem x 1 := by
  have hwf : (s.putFresh a bs).mem.wf = true := Memory.write_wf hm
  rw [storeMem_of_not_flips hf, readMem_one hwf, readMem_one hm, show (s.putFresh a bs).mem = s.mem.write a bs from rfl, byteRead_write hm]
  split <;> rfl

/-- A store with another store's reservations ended reads as the store does: reservations are no part of memory or of the flip. -/
theorem readMem_storeMem_dropReserved (s : State) (a n : Nat) (own : Nat → Bool) (b : Nat) (bs : List Byte) (x k : Nat) :
    ((s.dropReserved a n own).storeMem b bs).readMem x k = (s.storeMem b bs).readMem x k :=
  readMem_of_same (storeMem_mem_of_updCores s (fun c => { c with reserved := tkeep c.reserved (fun p l => own p || decide (a + n ≤ l ∨ l + 64 ≤ a)) }) b bs) x k

/-- A core's store to an address that is no register writes memory, and ends the reservations of other pairs there. -/
theorem putBytes_of_memory {s : State} {p : PairId} {w : World} {a : Nat} {bs : List Byte} (h : s.targetOf a ≠ some 2) :
    s.putBytes p w a bs = (s.dropReserved a bs.length (fun k => k == p.val)).storeMem a bs := by
  unfold State.putBytes
  split
  · contradiction
  · rfl

/-- A core's store to an address of a register is that register's store. -/
theorem putBytes_of_register {s : State} {p : PairId} {w : World} {a : Nat} {bs : List Byte} (h : s.targetOf a = some 2) :
    s.putBytes p w a bs = s.storeReg p.val w (!(s.core p).sup) (slotOf a) ((a - 0x2000000) % 0x10000) (ofLe bs) := by
  simp only [State.putBytes, h]

/-- Settles O13: a byte's reading after a write is `byteRead_write`, whatever words around it are corrected or poisoned. -/
theorem storeChangesOnlyItsBytes : Obligations.StoreChangesOnlyItsBytes := by
  unfold Obligations.StoreChangesOnlyItsBytes
  intro s a bs hm hf
  refine ⟨fun i hi => ?inside, fun x hx => ?outside, fun p w h => putBytes_of_register h, ?store, ?writes⟩
  case inside =>
    rw [readMem_storeMem hm hf, if_pos (by omega), Nat.add_sub_cancel_left]
  case outside =>
    have hsame : (s.storeMem a bs).readMem x 1 = s.readMem x 1 := by rw [readMem_storeMem hm hf, if_neg (by omega)]
    refine ⟨hsame, ?write, fun p w h => ?put⟩
    case write => rw [State.writeMem, readMem_storeMem_dropReserved, hsame]
    case put => rw [putBytes_of_memory h, readMem_storeMem_dropReserved, hsame]
  case store =>
    rw [storeMem_of_not_flips hf]
    exact State.putFresh_upd.agreeBut (by decide)
  case writes =>
    have hf' : (s.dropReserved a bs.length (fun _ => false)).flips a bs.length = false := hf
    rw [State.writeMem, storeMem_of_not_flips hf']
    exact (State.putFresh_upd.via (by decide) (State.dropReserved_upd.mono (by decide)) : Upd 131200 s _).agreeBut (by decide)

end Sys2Proof.Machine
end

section
/-!
PROOFS. Special registers, the system instructions, ERET, the stirrup gates, exceptions and interrupt entry (R347, R379, R384 to R404).
-/

namespace Sys2Proof.Machine

/-- A write of a special register takes no time. -/
theorem setSpecial_cycle (q : Pair) (sr : Nat) (v : Word) : (q.setSpecial sr v).cycle = q.cycle := by
  unfold Pair.setSpecial
  cases hw : q.world <;> (repeat' split) <;> rfl

/-- MFS of a readable special register writes its value to rd. -/
theorem mfs_run {s u : State} {p : PairId} {w : Nat} (h : s.fetches p w u) {rd : RegId} {sr : BitVec 8} {wr : Bool}
    (hr : specialRights sr.toNat (u.core p).world (u.core p).sup = some (true, wr)) :
    ∃ t, exec (.mfs p w rd sr) s = .next t ∧ u.writesReg t p rd ((u.core p).special p.val sr.toNat) := by
  refine ⟨_, rfl, ?_⟩
  rw [issue_run h]
  simp only [hr, if_true]
  exact writesReg_retire u p rd (fun q => q.special p.val sr.toNat)

/-- MTS of a writable special register writes ra to it. -/
theorem mts_run {s u : State} {p : PairId} {w : Nat} (h : s.fetches p w u) {ra : RegId} {sr : BitVec 8} {r : Bool}
    (hr : specialRights sr.toNat (u.core p).world (u.core p).sup = some (r, true)) :
    ∃ t, exec (.mts p w ra sr) s = .next t ∧
      u.setsPair t p { (u.core p).setSpecial sr.toNat ((u.core p).reg ra) with pc := (u.core p).pc + 4, cycle := (u.core p).cycle + 1 } := by
  refine ⟨_, rfl, ?_⟩
  rw [issue_run h]
  simp only [hr, if_true]
  exact setsPair_of _ rfl (by dsimp only; rw [setSpecial_cycle])

/-- A privileged instruction at supervisor level that changes its pair alone. -/
theorem privileged_retires {s u : State} {p : PairId} {w : Nat} (h : s.fetches p w u) (hsup : (u.core p).sup = true) (f : Pair → Pair) {q : Pair}
    (hq : { f (u.core p) with pc := (u.core p).pc + 4, cycle := (f (u.core p)).cycle + 1 } = q) :
    ∃ t, ok (s.privileged p w (fun s => s.retire p 1 f)) = .next t ∧ u.setsPair t p q := by
  refine ⟨_, rfl, ?_⟩
  rw [privileged_run h hsup]
  exact setsPair_of _ rfl hq

/-- DI sets the mask and returns what it was. -/
theorem di_run {s u : State} {p : PairId} {w : Nat} (h : s.fetches p w u) (hsup : (u.core p).sup = true) (rd : RegId) :
    ∃ t, exec (.di p w rd) s = .next t ∧ (t.core p).im = true ∧ (t.core p).reg rd = (if rd = 0 then 0 else if (u.core p).im then 1 else 0) ∧
      (t.core p).pc = (u.core p).pc + 4 ∧ u.agreeBut [.cores] t := by
  obtain ⟨t, hrun, hset⟩ := privileged_retires h hsup (fun q => (q.setReg rd (BitVec.ofNat 64 (b2n q.im))).setIm true) rfl
  obtain ⟨hframe, hcore, _⟩ := hset
  refine ⟨t, hrun, by rw [hcore]; rfl, ?reg, by rw [hcore], hframe⟩
  case reg =>
    rw [hcore]
    refine (reg_setReg_self (u.core p) rd _).trans ?_
    cases (u.core p).im <;> rfl

/-- Settles O17: MFS and MTS by their right, the others as retirements of a privileged instruction. -/
theorem specialRegisterInstructionsComplete : Obligations.SpecialRegisterInstructionsComplete := by
  unfold Obligations.SpecialRegisterInstructionsComplete
  intro s u p wait rd ra sr h
  refine ⟨fun wr hr => mfs_run h hr, fun r hr => mts_run h hr, fun hsup => ⟨di_run h hsup rd, ?ei, ?wait, ?page, ?asid, ?world⟩⟩
  case ei => exact privileged_retires h hsup _ rfl
  case wait =>
    refine ⟨_, rfl, ?_⟩
    rw [privileged_run h hsup]
    dsimp only
    generalize u.routedPending p = pending
    exact setsPair_of (fun q => { q with waiting := !pending, pc := q.pc + 4, cycle := q.cycle + 1 }) rfl rfl
  case page => exact privileged_retires h hsup _ rfl
  case asid => exact privileged_retires h hsup _ rfl
  case world => exact privileged_retires h hsup _ (by simp only [Bool.and_true]; rfl)

/-- What taking on a STATUS word leaves and sets. -/
theorem setStatus_fields (q : Pair) (v : Word) :
    (q.setStatus v).world = statusWorld v ∧ (q.setStatus v).sup = statusSup v ∧ (q.setStatus v).im = bitOf v.toNat 0 ∧
    ((q.setStatus v).regsOf (statusWorld v)).asid = (v >>> 8).setWidth 16 ∧ (q.setStatus v).g = q.g ∧ (q.setStatus v).mlo = q.mlo ∧
    (q.setStatus v).mhi = q.mhi ∧ (q.setStatus v).frames = q.frames := by
  unfold Pair.setStatus Pair.setWorld Pair.setIm
  cases statusWorld v <;> exact ⟨rfl, rfl, rfl, rfl, rfl, rfl, rfl, rfl⟩

/-- A register rests on the register file alone. -/
theorem reg_congr {q q' : Pair} (h : q'.g = q.g) (r : RegId) : q'.reg r = q.reg r := by
  unfold Pair.reg
  rw [h]

/-- What the clearing of the accumulator leaves and sets. -/
theorem clearMul_fields (q : Pair) (b : Bool) :
    (q.clearMul b).g = q.g ∧ (q.clearMul b).mlo = (if b then 0 else q.mlo) ∧ (q.clearMul b).mhi = (if b then 0 else q.mhi) ∧
    (q.clearMul b).world = q.world ∧ (q.clearMul b).sup = q.sup ∧ (q.clearMul b).im = q.im ∧ ∀ w, (q.clearMul b).regsOf w = q.regsOf w := by
  unfold Pair.clearMul
  cases b <;> exact ⟨rfl, rfl, rfl, rfl, rfl, rfl, fun w => by cases w <;> rfl⟩

/-- An update of a pair after the loss of its reservation: the pair, its reservation, and everything else. -/
theorem dropOwn_updPair_fields (u : State) (p : PairId) (f : Pair → Pair) :
    ((u.dropOwn p).updPair p f).core p = f (u.core p) ∧ tget ((u.dropOwn p).updPair p f).cores.reserved p.val = none ∧
    u.agreeBut [.cores] ((u.dropOwn p).updPair p f) ∧ ∀ r : PairId, r ≠ p → ((u.dropOwn p).updPair p f).core r = u.core r := by
  obtain ⟨_, hcore, hothers, hres, _⟩ := setsPair_updPair (u.dropOwn p) p f
  refine ⟨hcore, by rw [hres]; exact tget_tdel_self _ _, ⟨rfl, fun q hq => ?_⟩, fun r hr => hothers r hr⟩
  cases q with
  | cores => exact absurd (List.mem_singleton.2 rfl) hq
  | _ => rfl

/-- A frame's drain changes the clock and the multiplier alone. -/
theorem drain_fields (q : Pair) : q.drain.g = q.g ∧ q.drain.frames = q.frames ∧ q.drain.world = q.world := by
  unfold Pair.drain Pair.settle
  split <;> exact ⟨rfl, rfl, rfl⟩

/-- Registers after a range of them is cleared. -/
theorem reg_clearRegs (q : Pair) (lo hi : Nat) (r : RegId) : (q.clearRegs lo hi).reg r = if lo ≤ r.val ∧ r.val ≤ hi then 0 else q.reg r := by
  unfold Pair.clearRegs Pair.reg
  by_cases h : r = 0
  · simp [h]
  · simp [h]

/-- ERET's effect (R387). -/
theorem eret_run {s u : State} {p : PairId} {w : Nat} (h : s.fetches p w u) (hsup : (u.core p).sup = true) :
    exec (.eret p w) s = .next (u.eret p) := by
  change ok (s.privileged p w _) = _
  rw [privileged_run h hsup]
  rfl

/-- The pair of a gate return: its accumulator and registers 9 to 30 cleared, and the caller's status, stack and pc back (R404). -/
def Pair.gateReturned (q : Pair) (f : GateFrame) (fs : List GateFrame) : Pair :=
  let q := ({ q.drain with mlo := 0, mhi := 0, frames := fs }).clearRegs 9 30
  let q := (q.setStatus f.status).setReg 31 f.sp
  { q with pc := f.pc, cycle := q.cycle + 1 }

/-- GATE_RETURN from a frame of the other world. -/
theorem gateReturn_run {s u : State} {p : PairId} {w : Nat} (h : s.fetches p w u) (hsup : (u.core p).sup = true) {f : GateFrame} {fs : List GateFrame}
    (hf : (u.core p).frames = f :: fs) (hw : statusWorld f.status ≠ (u.core p).world) :
    exec (.gateReturn p w) s = .next ((u.dropOwn p).updPair p (fun q => q.gateReturned f fs)) := by
  change ok (s.issue p w _) = _
  rw [issue_run h]
  simp only [hsup, hf, hw, Bool.not_true, Bool.false_eq_true, if_false]
  rfl

/-- GATE whose checks pass enters its gate (R401, R402). -/
theorem gate_run {s u v x : State} {p : PairId} {wait : Nat} {n : Fin 255} {d : GateDesc} (h : s.fetches p wait u)
    (htable : u.gateTable p (u.core p).world.other ≠ 0) (hread : u.readGate p (u.core p).world.other n.val = (some d, v)) (hvalid : d.valid = true)
    (hallowed : (if (u.core p).sup then bitOf d.flags 1 else bitOf d.flags 2) = true) (hbuf : State.bufferChecks p (d.checks.take d.nbuf) 0 v = (none, x))
    (hdepth : (u.core p).frames.length < 8) : exec (.gate p wait n) s = .next (x.gateEnter p (u.core p).world.other d) := by
  change ok (s.issue p wait _) = _
  rw [issue_run h]
  simp only [htable, hread, hvalid, hallowed, hbuf, Nat.not_le.mpr hdepth, Bool.not_true, Bool.false_eq_true, if_false]
  rfl

/-- What ERET leaves in its pair (R387): STATUS and pc from the saved ones, every general register, and the accumulator unless the world changes. -/
theorem eret_pair (u : State) (p : PairId) :
    let q := u.core p
    let st := (q.regsOf q.world).estatus
    ((u.eret p).core p).pc = (q.regsOf q.world).epc ∧ ((u.eret p).core p).world = statusWorld st ∧ ((u.eret p).core p).sup = bitOf st.toNat 1 ∧
    ((u.eret p).core p).im = bitOf st.toNat 0 ∧ (((u.eret p).core p).regsOf (statusWorld st)).asid = (st >>> 8).setWidth 16 ∧
    (∀ r : RegId, ((u.eret p).core p).reg r = q.reg r) ∧ (statusWorld st ≠ q.world → ((u.eret p).core p).mlo = 0 ∧ ((u.eret p).core p).mhi = 0) ∧
    (statusWorld st = q.world → ((u.eret p).core p).mlo = q.mlo ∧ ((u.eret p).core p).mhi = q.mhi) := by
  dsimp only
  have hcore : (u.eret p).core p = _ := (dropOwn_updPair_fields u p _).1
  rw [hcore]
  dsimp only
  generalize u.core p = q
  generalize (q.regsOf q.world).estatus = st
  obtain ⟨hg, hmlo, hmhi, hworld, hsup, him, hregs⟩ := clearMul_fields (q.setStatus st) (statusWorld st != q.world)
  obtain ⟨sworld, ssup, sim, sasid, sg, smlo, smhi, _⟩ := setStatus_fields q st
  refine ⟨rfl, hworld.trans sworld, hsup.trans ssup, him.trans sim, ?asid, fun r => reg_congr (hg.trans sg) r, fun h => ?change, fun h => ?stay⟩
  case asid => exact (congrArg WorldRegs.asid (hregs (statusWorld st))).trans sasid
  case change =>
    rw [if_pos (bne_iff_ne.mpr h)] at hmlo hmhi
    exact ⟨hmlo, hmhi⟩
  case stay =>
    rw [show (statusWorld st != q.world) = false by simp [h]] at hmlo hmhi ⊢
    exact ⟨hmlo.trans smlo, hmhi.trans smhi⟩

/-- What a gate return leaves in its pair (R404). -/
theorem gateReturned_fields (q : Pair) (f : GateFrame) (fs : List GateFrame) :
    let t := q.gateReturned f fs
    t.pc = f.pc ∧ t.frames = fs ∧ t.world = statusWorld f.status ∧ t.sup = bitOf f.status.toNat 1 ∧ t.im = bitOf f.status.toNat 0 ∧ t.reg 31 = f.sp ∧
    (∀ r : RegId, 9 ≤ r.val → r.val ≤ 30 → t.reg r = 0) ∧ (∀ r : RegId, r.val ≤ 8 → t.reg r = q.reg r) ∧ t.mlo = 0 ∧ t.mhi = 0 := by
  dsimp only
  obtain ⟨c, hc⟩ : ∃ c : Pair, c = ({ q.drain with mlo := 0, mhi := 0, frames := fs } : Pair).clearRegs 9 30 := ⟨_, rfl⟩
  obtain ⟨sworld, ssup, sim, _, sg, smlo, smhi, sframes⟩ := setStatus_fields c f.status
  have hset : q.gateReturned f fs = { ((c.setStatus f.status).setReg 31 f.sp) with pc := f.pc, cycle := ((c.setStatus f.status).setReg 31 f.sp).cycle + 1 } := by
    rw [hc]
    rfl
  have hreg : ∀ r, (q.gateReturned f fs).reg r = if r = 31 then f.sp else c.reg r := by
    intro r
    rw [hset]
    refine (reg_setReg (c.setStatus f.status) 31 r f.sp).trans ?_
    rw [reg_congr sg r]
    simp
  have hclear : ∀ r, c.reg r = if 9 ≤ r.val ∧ r.val ≤ 30 then 0 else q.reg r := by
    intro r
    rw [hc, reg_clearRegs]
    refine ite_congr rfl (fun _ => rfl) (fun _ => reg_congr ?_ r)
    exact (drain_fields q).1
  subst hc
  refine ⟨rfl, sframes, sworld, ssup, sim, by rw [hreg]; rfl, fun r hlo hhi => ?cleared, fun r hr => ?kept, smlo, smhi⟩
  case cleared =>
    have hne : r ≠ 31 := fun e => by subst e; exact absurd hhi (by decide)
    rw [hreg, if_neg hne, hclear, if_pos ⟨hlo, hhi⟩]
  case kept =>
    have hne : r ≠ 31 := fun e => by subst e; exact absurd hr (by decide)
    rw [hreg, if_neg hne, hclear, if_neg (by omega)]

/-- A well-formed descriptor has at most eight arguments. -/
theorem nargs_le_of_valid {d : GateDesc} (h : d.valid = true) : d.nargs ≤ 8 := by
  simp only [GateDesc.valid, Bool.and_eq_true, decide_eq_true_eq] at h
  obtain ⟨⟨⟨⟨_, hnargs⟩, _⟩, _⟩, _⟩ := h
  exact hnargs

/-- A gate's entry: the world, level, mask, stack and pc of the gate (R401 item 6). -/
def Pair.atGate (c : Pair) (w : World) (base : Word) (entry : Nat) : Pair :=
  { (((c.setWorld w).setIm true).setReg 31 base) with sup := true, pc := BitVec.ofNat 64 entry, cycle := (((c.setWorld w).setIm true).setReg 31 base).cycle + 1 }

theorem atGate_fields (c : Pair) (w : World) (base : Word) (entry : Nat) :
    let t := c.atGate w base entry
    t.pc = BitVec.ofNat 64 entry ∧ t.world = w ∧ t.sup = true ∧ t.im = true ∧ t.frames = c.frames ∧ t.mlo = c.mlo ∧ t.mhi = c.mhi ∧
    ∀ r : RegId, t.reg r = if r = 31 then base else c.reg r := by
  refine ⟨rfl, rfl, rfl, rfl, rfl, rfl, rfl, fun r => ?_⟩
  refine (reg_setReg ((c.setWorld w).setIm true) 31 r base).trans ?_
  rw [reg_congr (show ((c.setWorld w).setIm true).g = c.g from rfl) r]
  simp

/-- A pair drained, with its accumulator and the registers from `lo` to 30 cleared (R401 item 5). -/
def Pair.scrubbed (q : Pair) (lo : Nat) : Pair := ({ q.drain with mlo := 0, mhi := 0 } : Pair).clearRegs lo 30

theorem scrubbed_fields (q : Pair) (lo : Nat) : (q.scrubbed lo).frames = q.frames ∧ (q.scrubbed lo).mlo = 0 ∧ (q.scrubbed lo).mhi = 0 ∧
    ∀ r : RegId, (q.scrubbed lo).reg r = if lo ≤ r.val ∧ r.val ≤ 30 then 0 else q.reg r := by
  obtain ⟨dg, dframes, _⟩ := drain_fields q
  refine ⟨by simp only [Pair.scrubbed, Pair.clearRegs, dframes], rfl, rfl, fun r => ?_⟩
  rw [Pair.scrubbed, reg_clearRegs]
  refine ite_congr rfl (fun _ => rfl) (fun _ => reg_congr ?_ r)
  exact dg

/-- The pair as a gate call leaves it before the entry: the caller's frame pushed, and every register that is no argument cleared (R401 items 4, 5). -/
def Pair.leavingBy (q : Pair) (d : GateDesc) : Pair :=
  Pair.scrubbed { q with frames := { pc := q.pc + 4, status := q.status, sp := q.reg 31 } :: q.frames } (d.nargs + 1)

theorem leavingBy_fields (q : Pair) (d : GateDesc) :
    (q.leavingBy d).frames = { pc := q.pc + 4, status := q.status, sp := q.reg 31 } :: q.frames ∧ (q.leavingBy d).mlo = 0 ∧ (q.leavingBy d).mhi = 0 ∧
    ∀ r : RegId, (q.leavingBy d).reg r = if d.nargs + 1 ≤ r.val ∧ r.val ≤ 30 then 0 else q.reg r :=
  scrubbed_fields _ _

theorem gateEnter_eq (x : State) (p : PairId) (w : World) (d : GateDesc) :
    x.gateEnter p w d = (x.dropOwn p).updPair p (fun q => (q.leavingBy d).atGate w (x.stackBase p w) d.entry) := rfl

/-- What a gate call leaves in its pair's registers (R401). -/
theorem gateEnter_reg (q : Pair) (w : World) (base : Word) (d : GateDesc) (hvalid : d.valid = true) (r : RegId) :
    ((q.leavingBy d).atGate w base d.entry).reg r = if r = 31 then base else if d.nargs < r.val then 0 else q.reg r := by
  obtain ⟨_, _, _, _, _, _, _, hreg⟩ := atGate_fields (q.leavingBy d) w base d.entry
  obtain ⟨_, _, _, hclear⟩ := leavingBy_fields q d
  have hnargs := nargs_le_of_valid hvalid
  rw [hreg, hclear]
  refine ite_congr rfl (fun _ => rfl) (fun hne => ite_congr (propext ?_) (fun _ => rfl) (fun _ => rfl))
  have : r.val ≠ 31 := fun e => hne (Fin.ext e)
  omega

/-- Settles O18: each of the three is an update of the pair after the loss of its reservation, whose fields the lemmas above give. -/
theorem returnFromExceptionAndGatesComplete : Obligations.ReturnFromExceptionAndGatesComplete := by
  unfold Obligations.ReturnFromExceptionAndGatesComplete
  refine ⟨fun s u p wait h hsup => ⟨?eret, fun f fs hf hw => ?gateReturn⟩,
    fun s u v x p wait n d h htable hread hvalid hallowed hbuf hdepth => ?gate⟩
  case eret =>
    obtain ⟨_, hres, hframe, hothers⟩ := dropOwn_updPair_fields u p (fun q =>
      { ((q.setStatus (q.regsOf q.world).estatus).clearMul (statusWorld (q.regsOf q.world).estatus != q.world)) with
        pc := (q.regsOf q.world).epc, cycle := q.cycle + 1 })
    exact ⟨_, eret_run h hsup, hframe, hothers, hres, eret_pair u p⟩
  case gateReturn =>
    obtain ⟨hcore, hres, hframe, _⟩ := dropOwn_updPair_fields u p (fun q => q.gateReturned f fs)
    refine ⟨_, gateReturn_run h hsup hf hw, hframe, hres, ?_⟩
    rw [hcore]
    exact gateReturned_fields _ f fs
  case gate =>
    obtain ⟨hcore, hres, hframe, _⟩ := dropOwn_updPair_fields x p (fun q => (q.leavingBy d).atGate (u.core p).world.other (x.stackBase p (u.core p).world.other) d.entry)
    refine ⟨_, gate_run h htable hread hvalid hallowed hbuf hdepth, ?_⟩
    rw [gateEnter_eq]
    refine ⟨hframe, hres, ?_⟩
    rw [hcore]
    have hnargs := nargs_le_of_valid hvalid
    have hreg := gateEnter_reg (x.core p) (u.core p).world.other (x.stackBase p (u.core p).world.other) d hvalid
    obtain ⟨hpc, hworld, hsup, him, hframes, hmlo, hmhi, _⟩ := atGate_fields ((x.core p).leavingBy d) (u.core p).world.other
      (x.stackBase p (u.core p).world.other) d.entry
    obtain ⟨cframes, cmlo, cmhi, _⟩ := leavingBy_fields (x.core p) d
    refine ⟨hpc, hworld, hsup, him, hframes.trans cframes, (hreg 31).trans (if_pos rfl), fun r hr => (hreg r).trans ?kept, fun r hlo hhi => (hreg r).trans ?cleared,
      hmlo.trans cmlo, hmhi.trans cmhi⟩
    case kept =>
      have hne : r ≠ 31 := fun e => by subst e; exact absurd (Nat.le_trans hr hnargs) (by decide)
      rw [if_neg hne, if_neg (by omega)]
    case cleared =>
      have hne : r ≠ 31 := fun e => by subst e; exact absurd hhi (by decide)
      rw [if_neg hne, if_pos hlo]

/-- An exception of the running world whose frame can be written enters its handler (R385). -/
theorem enterExc_entersAt {u v : State} {p : PairId} {w : World} {e : CoreExc} {ret cause : Word} {src prio : Nat}
    (he : e.code ≠ cPageNp ∧ e.code ≠ cPageBad ∧ e.code ≠ cPagePerm ∧ e.code ≠ cBusErr)
    (hcause : causeWord e (!(u.core p).sup) ((u.core p).world != w) src prio = cause) (hp : u.pushesFrame v p w ret cause e.bad) :
    v.entersAt (u.enterExc p w e ret src prio) p w ret cause 0 e.bad ((u.updPair p Pair.drain).stackBase p w - 64) := by
  subst hcause
  rw [enterExc_ok he hp]
  exact entered_entersAt v p w ret _ e.bad _

/-- In the running world the cause says that the world has not changed. -/
theorem causeWord_own_world (e : CoreExc) (user : Bool) (w : World) : causeWord e user (w != w) 0 0 = causeWord e user false 0 0 := by
  rw [bne_self_eq_false]

/-- An interrupt that may be taken is entered, and its delivery recorded. -/
theorem interruptEntry_run {s : State} {p : PairId} {wait n : Nat} (hissues : s.issues p = true) (him : ((s.tick p wait).core p).im = false)
    (hbest : (s.tick p wait).bestSource (fun n => (s.tick p wait).deliverable p.val .keeper n ||
      (((s.tick p wait).core p).world == .tack && (s.tick p wait).deliverable p.val .tack n)) = some n) :
    exec (.interruptEntry p wait) s = .next (((s.tick p wait).enterExc p ((s.tick p wait).sourceWorld n) { code := cInterrupt } ((s.tick p wait).core p).pc n
      ((s.tick p wait).sourcePrio n)).delivered p.val n) := by
  change execInterruptEntry p wait s = _
  simp only [execInterruptEntry, hissues, him, hbest, Bool.not_true, Bool.false_eq_true, if_false, ok]

/-- Settles O19: each is `State.enterExc` with its cause, which `enterExc_entersAt` describes. -/
theorem trapsAndInterruptsEnterTheirHandler : Obligations.TrapsAndInterruptsEnterTheirHandler := by
  unfold Obligations.TrapsAndInterruptsEnterTheirHandler
  intro s u v p wait
  refine ⟨fun h n hp => ?trap, fun h hp => ?brk, fun h hp => ?illegal, fun hissues hu him n hbest hp => ?interrupt⟩
  case trap =>
    refine ⟨_, rfl, ?_⟩
    rw [issue_run h]
    exact enterExc_entersAt (by decide : cTrap ≠ cPageNp ∧ cTrap ≠ cPageBad ∧ cTrap ≠ cPagePerm ∧ cTrap ≠ cBusErr) (causeWord_own_world _ _ _) hp
  case brk =>
    refine ⟨_, rfl, ?_⟩
    rw [issue_run h]
    exact enterExc_entersAt (by decide) (causeWord_own_world _ _ _) hp
  case illegal =>
    refine ⟨_, rfl, ?_⟩
    rw [issue_run h]
    exact enterExc_entersAt (by decide) (causeWord_own_world _ _ _) hp
  case interrupt =>
    subst hu
    exact ⟨_, interruptEntry_run hissues him hbest, enterExc_entersAt (by decide) rfl hp⟩

/-- A privileged instruction at user level raises PRIV (R351). -/
theorem privileged_at_user {s u : State} {p : PairId} {w : Nat} (h : s.fetches p w u) (huser : (u.core p).sup = false) (f : State → State) :
    s.privileged p w f = u.raiseExc p { code := cPriv } := by
  unfold State.privileged
  rw [issue_run h, huser, if_neg Bool.false_ne_true]

/-- PRIV enters its handler, and so does every privileged instruction at user level. -/
theorem privileged_entersAt {s u v : State} {p : PairId} {w : Nat} (h : s.fetches p w u) (huser : (u.core p).sup = false)
    (hp : u.pushesFrame v p (u.core p).world (u.core p).pc (causeWord { code := cPriv } true false 0 0) 0) (f : State → State) :
    ∃ t, ok (s.privileged p w f) = .next t ∧
      v.entersAt t p (u.core p).world (u.core p).pc (causeWord { code := cPriv } true false 0 0) 0 0 ((u.updPair p Pair.drain).stackBase p (u.core p).world - 64) := by
  refine ⟨_, rfl, ?_⟩
  rw [privileged_at_user h huser]
  exact enterExc_entersAt (by decide) (by rw [huser]; exact causeWord_own_world _ _ _) hp

/-- Settles O20: each of them is `State.privileged` with its own effect. -/
theorem privilegedInstructionsTrapAtUserLevel : Obligations.PrivilegedInstructionsTrapAtUserLevel := by
  unfold Obligations.PrivilegedInstructionsTrapAtUserLevel
  intro s u v p wait rd i h huser hi hp
  rcases hi with rfl | rfl | rfl | rfl | rfl | rfl | rfl
  all_goals exact privileged_entersAt h huser hp _

end Sys2Proof.Machine
end

section
/-!
PROOFS. Register fields after a write, states that agree on every part, and the interrupt controller's and the pairs' commands (R394 to R408).
-/

namespace Sys2Proof.Machine

/-- A field reads as written, cut to its width. -/
theorem rd_wr_self (s : State) (f : Field) (v : Nat) : (s.wr f v).rd f = v % 2 ^ f.width := by
  simp [State.rd, tget_tput_self]

/-- A field of another place keeps its value. -/
theorem rd_wr_ne (s : State) {f g : Field} (v : Nat) (h : g.key ≠ f.key) : (s.wr f v).rd g = s.rd g := by
  simp [State.rd, tget_tput_ne _ _ h]

/-- A field written from a truth value. -/
theorem rd_flag_self (s : State) (f : Field) (b : Bool) : (s.flag f b).rd f = b2n b % 2 ^ f.width := rd_wr_self s f (b2n b)

theorem rd_flag_ne (s : State) {f g : Field} (b : Bool) (h : g.key ≠ f.key) : (s.flag f b).rd g = s.rd g := rd_wr_ne s (b2n b) h

/-- A field reads from the register table alone. -/
theorem rd_congr {s t : State} (h : t.regs = s.regs) (f : Field) : t.rd f = s.rd f := by
  unfold State.rd
  rw [h]

/-- Two updates, one after the other, touch the parts of either. -/
theorem Upd.seq {a b : Nat} {s t u : State} (h : Upd a s t) (k : Upd b t u) : Upd (a ||| b) s u := by
  have ha : Nat.land a (a ||| b) = a := Nat.eq_of_testBit_eq (fun i => by simpa using Or.inl)
  have hb : Nat.land b (a ||| b) = b := Nat.eq_of_testBit_eq (fun i => by simpa using Or.inr)
  exact (h.mono ha).trans (k.mono hb)

/-- States that agree on the queue and on every part are equal. -/
theorem eq_of_same {s t : State} (hp : t.pending = s.pending) (h : ∀ p : Part, p.same s t) : t = s := by
  have h1 := h .svc; have h2 := h .heelRetains; have h3 := h .rtc; have h4 := h .regs; have h5 := h .latch; have h6 := h .collector
  have h7 := h .trail; have h8 := h .mem; have h9 := h .guards; have h10 := h .queue; have h11 := h .stitch; have h12 := h .staging
  have h13 := h .shepherd; have h14 := h .pack; have h15 := h .south; have h16 := h .keys; have h17 := h .awl; have h18 := h .cores
  have h19 := h .flash; have h20 := h .kennel; have h21 := h .collar; have h22 := h .reader; have h23 := h .panel; have h24 := h .sd
  have h25 := h .chip; have h26 := h .telemetry; have h27 := h .smilia; have h28 := h .dict; have h29 := h .domains; have h30 := h .out
  have h31 := h .draws; have h32 := h .now
  cases s
  cases t
  simp only [Part.same] at *
  subst_vars
  rfl

/-- A state in which one pair has taken a value, and nothing else has changed, is the update of that pair. -/
theorem eq_updPair_of_setsPair {u t : State} {p : PairId} {q : Pair} (h : u.setsPair t p q) : t = u.updPair p (fun _ => q) := by
  obtain ⟨⟨hpending, hparts⟩, hcore, hothers, hreserved, hclaims⟩ := h
  obtain ⟨⟨_, hparts'⟩, hcore', hothers', hreserved', hclaims'⟩ := setsPair_updPair u p (fun _ => q)
  have hcores : t.cores = (u.updPair p (fun _ => q)).cores := by
    have hpairs : t.cores.pairs = (u.updPair p (fun _ => q)).cores.pairs := by
      refine Vector.ext (fun i hi => ?_)
      by_cases hip : (⟨i, hi⟩ : PairId) = p
      · have : t.core ⟨i, hi⟩ = (u.updPair p (fun _ => q)).core ⟨i, hi⟩ := by rw [hip, hcore, hcore']
        exact this
      · have : t.core ⟨i, hi⟩ = (u.updPair p (fun _ => q)).core ⟨i, hi⟩ := by rw [hothers _ hip, hothers' _ hip]
        exact this
    revert hpairs hreserved hclaims
    generalize (u.updPair p (fun _ => q)).cores = c at hreserved' hclaims' ⊢
    intro hreserved hclaims hpairs
    have e1 := hreserved.trans hreserved'.symm
    have e2 := hclaims.trans hclaims'.symm
    cases c
    cases ht : t.cores
    simp_all
  refine eq_of_same hpending (fun r => ?_)
  by_cases hr : r = .cores
  · subst hr; exact hcores
  · have h1 := hparts r (by simpa using hr)
    have h2 := hparts' r (by simpa using hr)
    cases r with
    | cores => exact absurd rfl hr
    | _ => exact h1.trans h2.symm

/-- An update of a pair by a function of it is one by the value it has. -/
theorem eq_updPair_of_setsPair_fun {u t : State} {p : PairId} (f : Pair → Pair) (h : u.setsPair t p (f (u.core p))) : t = u.updPair p f :=
  eq_updPair_of_setsPair h

/-- What a claim of the best source answers, and what it leaves of what was sent (R397). -/
theorem claim_of_best {s : State} {p : Nat} {w : World} {n : Nat} (h : s.best p w = some n) :
    (s.claim p w).1 = n + 4096 * s.sourcePrio n + 2 ^ 31 ∧ (s.claim p w).2.out = s.out := by
  have hdelivered : ∀ u : State, (u.delivered p n).out = u.out := fun u => by unfold State.delivered; split <;> rfl
  unfold State.claim
  simp only [h, hdelivered, true_and]
  split <;> rfl

/-- A software interrupt makes its source pending. -/
theorem rd_pend_interrupt (s : State) (n : Nat) : (s.interrupt n).rd (Reg.IC_ROUTE.PEND.nth n) = 1 := rd_flag_self s _ true

/-- IC_SWI of a source that the world may set. -/
theorem exec_icSwi {s : State} {w : World} {n : Nat} (hlo : 512 ≤ n) (hhi : n < 1024) (hw : w = .keeper ∨ s.sourceWorld n = .tack) :
    exec (.icSwi w n) s = .next (s.interrupt n) := by
  change ok (s.softInterrupt w (n % 1024)) = _
  rw [Nat.mod_eq_of_lt hhi, State.softInterrupt, if_pos ⟨hlo, hhi, hw⟩]
  rfl

/-- TIMER_INTERRUPT of a pair in service moves its cycle to the comparison. -/
theorem exec_timerInterrupt {s : State} {p : PairId} (w : World) (h : s.inService p.val = true) :
    exec (.timerInterrupt p w) s = .next (s.updPair p (fun q => { q with cycle := max q.cycle (q.regsOf w).timecmp.toNat })) := by
  change execTimerInterrupt p w s = _
  rw [execTimerInterrupt, if_pos h]
  rfl

/-- CORE_IM_HELD in its two kinds, where the condition holds (R400). -/
theorem exec_coreImHeld_mask {s : State} {p : PairId} (hs : s.inService p.val = true) (him : (s.core p).im = true)
    (hd : s.anyDeliverable p.val .tack = true ∨ s.anyDeliverable p.val .keeper = true) (hl : s.rd (Reg.CORE_LIMITS.IM_US.nth p) ≠ 0) :
    exec (.coreImHeld p false) s = .next ((s.updPair p (fun q => { q with
      cycle := max q.cycle ((s.core p).imAt + s.coreCycles (s.rd (Reg.CORE_LIMITS.IM_US.nth p)) + 1) })).raise (srcCore p 3) p.val) := by
  change execCoreImHeld p false s = _
  simp [execCoreImHeld, hs, him, hd, hl, ok]

theorem exec_coreImHeld_keeper {s : State} {p : PairId} (hs : s.inService p.val = true) (hw : (s.core p).world = .keeper)
    (hd : s.anyDeliverable p.val .tack = true) (hl : s.rd (Reg.CORE_LIMITS.KHOLD_US.nth p) ≠ 0) :
    exec (.coreImHeld p true) s = .next ((s.updPair p (fun q => { q with
      cycle := max q.cycle ((s.core p).keeperAt + s.coreCycles (s.rd (Reg.CORE_LIMITS.KHOLD_US.nth p)) + 1) })).raise (srcCore p 3) p.val) := by
  change execCoreImHeld p true s = _
  simp [execCoreImHeld, hs, hw, hd, hl, ok]

/-- A pair's first mismatch is logged, and counted as a retry (R406). -/
theorem exec_lockstepMismatch_first {s : State} {p : PairId} (hm : s.mainOn = true) (hp : s.pstate p = 0) (hq : (s.core p).mismatchAt = none) :
    exec (.lockstepMismatch p false) s = .next (((s.updPair p (fun q => { q with mismatchAt := some (s.now, q.cycle) })).raise (srcCore p 0) p.val).bump
      (Reg.CORE_STATE.RETRIES.nth p)) := by
  change execLockstepMismatch p false s = _
  simp [execLockstepMismatch, hm, hp, hq, ok]

/-- A mismatch whose shadow cannot be corrected halts the pair (R408). -/
theorem exec_lockstepMismatch_uncorrectable {s : State} {p : PairId} (hm : s.mainOn = true) (hp : s.pstate p = 0) :
    exec (.lockstepMismatch p true) s = .next ((((s.updPair p (fun q => { q with mismatchAt := some (s.now, q.cycle) })).raise (srcCore p 0) p.val).updPair p
      (fun q => { q with shadowLost := true })).haltPair p) := by
  change execLockstepMismatch p true s = _
  simp [execLockstepMismatch, hm, hp, ok]

/-- CORE_QREL of a lost pair from Keeper world puts it into self-test. -/
theorem exec_coreQrel_lost {s : State} {p : PairId} (h : s.pairLost p.val = true) :
    exec (.coreQrel p .keeper) s = .next ((s.wr (Reg.CORE_STATE.PSTATE.nth p) 4).updPair p (fun q => { q with testing := some .release })) := by
  change execCoreQrel p .keeper s = _
  simp [execCoreQrel, h, ok]

/-- A pair's self-test outside the nightly ones that passes puts it back in service as after a reset, with its save record (R407, R607). -/
theorem exec_corePairSelftestDone_pass {s : State} {p : PairId} (hp : s.pstate p = 4) (hn : s.rd Reg.SHP_ST_OUT.CORE_ACT = 0) (sig : Nat) :
    exec (.corePairSelftestDone p .pass sig) s = .next ((((s.testOver .pair p.val .pass sig).wr (Reg.CORE_STATE.PSTATE.nth p) 0).updPair p
      (fun q => { Pair.reset p.val with save := q.save })).backInService .pair p.val) := by
  change execCorePairSelftestDone p .pass sig s = _
  simp [execCorePairSelftestDone, hp, hn, State.isSet, ok]

/-- The return to service touches the Shepherd alone. -/
theorem backInService_fields (s : State) (kind : UnitKind) (u : Nat) :
    (s.backInService kind u).regs = s.regs ∧ (s.backInService kind u).cores = s.cores := by
  unfold State.backInService State.dueAgain
  split <;> exact ⟨rfl, rfl⟩

/-- Settles O22: each command by its equation; a state that differs in one pair is that update (`eq_updPair_of_setsPair`). -/
theorem interruptAndPairCommandsComplete : Obligations.InterruptAndPairCommandsComplete := by
  unfold Obligations.InterruptAndPairCommandsComplete
  refine ⟨fun s p w => ⟨fun n hbest => ?claim, fun n hn => ?eoi, fun n hlo hhi hw => ?swi, fun hs => ?timer⟩, fun s p =>
    ⟨fun hs him hd hl u hu => ?mask, fun hs hw hd hl u hu => ?keeper, fun hm hp hq u hu => ?mismatch, fun hlost => ?release, fun hp hn sig => ?selftest⟩⟩
  case claim =>
    obtain ⟨hvalue, hout⟩ := claim_of_best hbest
    have hcores := claim_cores_of_best hbest
    refine ⟨_, (exec_icClaim p w s).trans (execIcClaim_eq p w s), ?out, ?claims, ?pairs⟩
    case out => rw [State.emit_out, hvalue, hout]
    case claims => rw [State.emit_cores, hcores]
    case pairs => rw [State.emit_cores, hcores]
  case eoi =>
    refine ⟨_, rfl, ⟨rfl, fun r hr => ?_⟩, rfl, ?claims⟩
    · cases r with
      | cores => exact absurd (List.mem_singleton.2 rfl) hr
      | _ => rfl
    case claims => rw [Nat.mod_eq_of_lt hn]; rfl
  case swi =>
    exact ⟨_, exec_icSwi hlo hhi hw, State.interrupt_upd.agreeBut (by decide), rd_pend_interrupt s n⟩
  case timer =>
    refine ⟨_, exec_timerInterrupt w hs, setsPair_of _ rfl rfl, ?_⟩
    rw [core_updPair]
    cases w <;> exact decide_eq_true (Nat.le_max_right _ _)
  case mask =>
    obtain rfl := eq_updPair_of_setsPair_fun (fun q => { q with cycle := max q.cycle (q.imAt + s.coreCycles (s.rd (Reg.CORE_LIMITS.IM_US.nth p)) + 1) }) hu
    exact ⟨_, exec_coreImHeld_mask hs him hd hl, rfl⟩
  case keeper =>
    obtain rfl := eq_updPair_of_setsPair_fun (fun q => { q with cycle := max q.cycle (q.keeperAt + s.coreCycles (s.rd (Reg.CORE_LIMITS.KHOLD_US.nth p)) + 1) }) hu
    exact ⟨_, exec_coreImHeld_keeper hs hw hd hl, rfl⟩
  case mismatch =>
    obtain rfl := eq_updPair_of_setsPair_fun (fun q => { q with mismatchAt := some (s.now, q.cycle) }) hu
    exact ⟨⟨_, exec_lockstepMismatch_first hm hp hq, rfl⟩, ⟨_, exec_lockstepMismatch_uncorrectable hm hp, rfl⟩⟩
  case release =>
    refine ⟨_, exec_coreQrel_lost hlost, ?state, by rw [core_updPair], ?frame⟩
    case state => exact rd_wr_self s _ 4
    case frame => exact (State.wr_upd.seq State.updPair_upd).agreeBut (by decide)
  case selftest =>
    obtain ⟨hregs, hcores⟩ := backInService_fields (((s.testOver .pair p.val .pass sig).wr (Reg.CORE_STATE.PSTATE.nth p) 0).updPair p
      (fun q => { Pair.reset p.val with save := q.save })) .pair p.val
    refine ⟨_, exec_corePairSelftestDone_pass hp hn sig, ?state, ?pair⟩
    case state => rw [rd_congr hregs]; exact rd_wr_self _ _ 0
    case pair =>
      rw [State.core, hcores]
      exact core_updPair _ _ _

end Sys2Proof.Machine
end

section
/-!
PROOFS. Tables and fields of sessions after an update, and Seal Transport's handshake and session commands (R52 to R64, Table 2-4).
-/

namespace Sys2Proof.Machine

/-- A table after a change of the value at a key. -/
theorem tget_tmod_self {α : Type} (t : Table α) (k : Nat) (f : α → α) : tget (tmod t k f) k = (tget t k).map f := by
  unfold tmod
  cases h : tget t k with
  | none => simp [h]
  | some v => simp [tget_tput_self]

theorem tget_tmod_ne {α : Type} (t : Table α) {k j : Nat} (f : α → α) (h : j ≠ k) : tget (tmod t k f) j = tget t j := by
  unfold tmod
  cases tget t k with
  | none => rfl
  | some v => exact tget_tput_ne t (f v) h

/-- A session after it is set or changed. -/
@[simp] theorem session_setSession_self (s : State) (sid : Nat) (x : Session) : (s.setSession sid x).session sid = some x :=
  tget_tput_self s.queue.sessions sid x

@[simp] theorem session_updSession_self (s : State) (sid : Nat) (f : Session → Session) : (s.updSession sid f).session sid = (s.session sid).map f :=
  tget_tmod_self s.queue.sessions sid f

/-- Sessions depend on the queue engine alone. -/
theorem session_congr {s t : State} (h : t.queue = s.queue) (sid : Nat) : t.session sid = s.session sid := by
  unfold State.session
  rw [h]

/-- Time that passes leaves the sessions. -/
@[simp] theorem session_advanceTo (s : State) (n sid : Nat) : (s.advanceTo n).session sid = s.session sid :=
  session_congr (s.advanceTo_queue n) sid

/-- Time passes up to the time given, and never turns back. -/
theorem now_advanceTo (s : State) (n : Nat) : (s.advanceTo n).now = max s.now n := by
  rw [State.advanceTo_now]
  omega

/-- The dictionary's values depend on the dictionary alone. -/
theorem dictVal_congr {s t : State} (h : t.dict = s.dict) (idx sub ns : Nat) : t.dictVal idx sub ns = s.dictVal idx sub ns := by
  unfold State.dictVal
  rw [h]

/-- The first segment of a hello is kept (R52). -/
theorem clientHello_first {s u : State} {f : NorthIn} (rate : Nat) (hop : f.opcode = 1) (htake : s.takeDatagram f = (u, true)) (hprot : f.prot = false)
    (hsession : f.session = 0) (hrate : (u.queue.helloTimes.filter (fun t => decide (u.now < t + second))).length < 2000) (hword : f.word = 0)
    (hlen : f.payload.length = 1024) (hlast : f.last = false) (hhalf : tget u.queue.halves (2 * f.sender + 1) = none) :
    exec (.clientHello f rate) s = .next (u.updQueue (fun q => { q with
      helloTimes := u.queue.helloTimes.filter (fun t => decide (u.now < t + second)) ++ [u.now]
      halves := tput q.halves (2 * f.sender) { at' := u.now, bytes := f.payload } })) := by
  have hrate' := Nat.not_le.mpr hrate
  change execClientHello f rate s = _
  simp [execClientHello, hop, htake, hprot, hsession, hword, hlen, hlast, State.updQueue, hrate', hhalf, ok, b2n]

/-- With its second segment the hello is whole, and is taken (R52, Table 2-4). -/
theorem clientHello_second {s u : State} {f : NorthIn} {h : HalfHello} (rate : Nat) (hop : f.opcode = 1) (htake : s.takeDatagram f = (u, true))
    (hprot : f.prot = false) (hsession : f.session = 0)
    (hrate : (u.queue.helloTimes.filter (fun t => decide (u.now < t + second))).length < 2000) (hword : f.word = 1024)
    (hlen : f.payload.length = 624) (hlast : f.last = true) (hhalf : tget u.queue.halves (2 * f.sender) = some h) :
    exec (.clientHello f rate) s = .next ((u.updQueue (fun q => { q with
      helloTimes := u.queue.helloTimes.filter (fun t => decide (u.now < t + second)) ++ [u.now]
      halves := tdel q.halves (2 * f.sender) })).takeHello f.mac f.ends rate (h.bytes ++ f.payload)) := by
  have hrate' := Nat.not_le.mpr hrate
  change execClientHello f rate s = _
  simp [execClientHello, hop, htake, hprot, hsession, hword, hlen, hlast, State.updQueue, hrate', hhalf, ok, b2n]


/-- A hello of a handshake in progress has its SERVER_HELLO sent once more (Table 2-4). -/
theorem takeHello_again {v : State} {hello : List Byte} {sid : Nat} {x : Session} (mac : Nat) (e : Ends) (rate : Nat)
    (hfind : v.queue.sessions.find? (fun kv => kv.2.state == .authWait && kv.2.random == beAt hello 16 32) = some (sid, x)) :
    v.takeHello mac e rate hello = v.sendHello mac e sid x.hello x.ownAuth := by
  unfold State.takeHello
  rw [hfind]

/-- A whole hello that begins no session yet, of a device that can serve it, is answered by its shared secrets (Table 2-4). -/
theorem takeHello_new {v : State} {hello : List Byte} (mac : Nat) (e : Ends) (rate : Nat)
    (hnew : v.queue.sessions.find? (fun kv => kv.2.state == .authWait && kv.2.random == beAt hello 16 32) = none) (hserves : v.awlServes = true)
    (hbit : bitOf (beAt hello 0 16) 0 = true) (hroom : v.queue.sessions.length < 16384) {sh : Share} {w : State}
    (hshare : v.share (beAt hello 48 32) (slice hello 80 1568) = (sh, w)) :
    (sh.shared = none → v.takeHello mac e rate hello = w.sendPlain mac e opReset 0 cAuthFailed []) ∧
    (∀ ssk ssx, sh.shared = some (ssk, ssx) →
      v.takeHello mac e rate hello = w.beginSession mac e rate hello (beBytes 32 sh.pub) sh.ciphertext sh.random ssk ssx) := by
  unfold State.takeHello
  split
  case h_1 sid x hfind =>
    rw [hnew] at hfind
    nomatch hfind
  case h_2 =>
    rw [if_neg (by rw [hserves]; decide), if_neg (by rw [hbit]; decide), if_neg (Nat.not_le.mpr hroom), hshare]
    dsimp only
    exact ⟨fun h => by rw [h], fun ssk ssx h => by rw [h]⟩

/-- The session that a hello begins: its features, transcript and keys, and that its SERVER_HELLO and AUTH are sent (R54, R61). -/
theorem beginSession_session (w : State) (mac : Nat) (e : Ends) (rate : Nat) (hello pub ciphertext : List Byte) (random ssk ssx : Nat) :
    ∃ (sid : Nat) (y : Session) (z : State), z.session sid = some y ∧ y.state = .authWait ∧ y.random = beAt hello 16 32 ∧
      y.features = (beAt hello 0 16 &&& 0x1FF &&& w.dictVal 0x2001 0) ∧ y.th = transcript hello y.hello ∧
      y.rxKey = beAt (keyMaterial ssk ssx y.th "LGE9120 seal transport") 0 32 ∧
      y.txKey = beAt (keyMaterial ssk ssx y.th "LGE9120 seal transport") 32 32 ∧
      w.beginSession mac e rate hello pub ciphertext random ssk ssx = z.sendHello mac e sid y.hello y.ownAuth := by
  have hdict : w.takeSessionId.2.dictVal 0x2001 0 = w.dictVal 0x2001 0 :=
    dictVal_congr (State.takeSessionId_upd.state.part .dict (by decide)) _ _ _
  unfold State.beginSession
  rw [← hdict]
  rcases w.takeSessionId with ⟨sid, v⟩
  dsimp only
  generalize (beAt hello 0 16 &&& 0x1FF &&& v.dictVal 0x2001 0) = features
  generalize beBytes 16 features ++ beBytes 32 random ++ beBytes 4 sid ++ pub ++ ciphertext = answer
  generalize v.deviceAuth "LGE9120 ST device" (transcript hello answer) = signed
  obtain ⟨auth, z⟩ := signed
  dsimp only
  exact ⟨sid, _, _, session_setSession_self z sid _, by rfl, by rfl, by rfl, by rfl, by rfl, by rfl, rfl⟩

theorem halfTimeout_run {s : State} {sender k : Nat} {h : HalfHello} (hfind : s.queue.halves.find? (fun kv => kv.1 / 2 == sender) = some (k, h)) :
    exec (.clientHelloSegmentTimeout sender) s = .next ((s.advanceTo (h.at' + 100 * msec)).updQueue (fun q => { q with
      halves := tdel q.halves k, halfDrops := q.halfDrops + 1 })) := by
  change execClientHelloSegmentTimeout sender s = _
  rw [execClientHelloSegmentTimeout, hfind]
  rfl

/-- A segment of a client's AUTH is kept; while one is lacking nothing else happens (R56). -/
theorem auth_partial {s u : State} {f : NorthIn} {x : Session} (anchors : List Anchor) (admitted : Bool) (htake : s.acceptNorth f opAuth = (u, true))
    (hx : u.session f.session = some x) (hwait : x.state = .authWait) (hmsg : authMessage (authSegments x.auth f.word f.last f.payload) = none) :
    exec (.auth f anchors admitted) s = .next (u.setSession f.session { x with auth := authSegments x.auth f.word f.last f.payload }) := by
  have hgo : ¬ ((!true) = true ∨ x.state ≠ .authWait) := by simp [hwait]
  change execAuth f anchors admitted s = _
  simp only [execAuth, htake, hx, if_neg hgo, hmsg, ok]

/-- A whole AUTH that is good and admitted establishes the session for its client (R57). -/
theorem auth_establishes {s u v : State} {f : NorthIn} {x : Session} {anchors : List Anchor} {msg : List Byte} {client : Nat}
    (htake : s.acceptNorth f opAuth = (u, true)) (hx : u.session f.session = some x) (hwait : x.state = .authWait)
    (hv : v = u.setSession f.session { x with auth := authSegments x.auth f.word f.last f.payload })
    (hmsg : authMessage (authSegments x.auth f.word f.last f.payload) = some msg) (hclient : v.clientOf anchors x.th msg = some client) :
    exec (.auth f anchors true) s =
      .next ((v.updSession f.session (fun x => { x with state := .established, client := client, auth := [] })).status f.session opAuth cOk) := by
  have hgo : ¬ ((!true) = true ∨ x.state ≠ .authWait) := by simp [hwait]
  change execAuth f anchors true s = _
  simp only [execAuth, htake, hx, if_neg hgo, hmsg, ← hv, hclient, ok]

/-- A whole AUTH that is not good or not admitted ends the session (R60). -/
theorem auth_refuses {s u v : State} {f : NorthIn} {x : Session} {anchors : List Anchor} {admitted : Bool} {msg : List Byte}
    (htake : s.acceptNorth f opAuth = (u, true)) (hx : u.session f.session = some x) (hwait : x.state = .authWait)
    (hv : v = u.setSession f.session { x with auth := authSegments x.auth f.word f.last f.payload })
    (hmsg : authMessage (authSegments x.auth f.word f.last f.payload) = some msg) (hbad : v.clientOf anchors x.th msg = none ∨ admitted = false) :
    exec (.auth f anchors admitted) s = .next ((v.sendFrame f.session opReset 0 cAuthFailed []).closeSession f.session true) := by
  have hgo : ¬ ((!true) = true ∨ x.state ≠ .authWait) := by simp [hwait]
  change execAuth f anchors admitted s = _
  simp only [execAuth, htake, hx, if_neg hgo, hmsg, ← hv]
  rcases hbad with h | h
  · simp only [h, ok]
  · subst h
    cases v.clientOf anchors x.th msg <;> rfl

theorem keyUpdate_run {s u : State} {f : NorthIn} {x : Session} (htake : s.acceptNorth f opKeyUpdate = (u, true)) (hx : u.session f.session = some x)
    (hgen : f.word = x.keyGen + 1) :
    exec (.keyUpdate f) s = .next (u.setSession f.session { x with
      prevKey := some (x.rxKey, u.now + 3 * rtoCeiling), rxKey := nextKey x.rxKey "LGE9120 ST update", keyGen := x.keyGen + 1 }) := by
  change execKeyUpdate f s = _
  simp [execKeyUpdate, htake, hx, hgen, ok]

theorem prevKeyErase_run {s : State} {sid : Nat} {x : Session} {k e : Nat} (hx : s.session sid = some x) (hk : x.prevKey = some (k, e)) :
    exec (.prevKeyErase 0 sid) s = .next ((s.advanceTo e).updSession sid (fun x => { x with prevKey := none })) := by
  change execPrevKeyErase 0 sid s = _
  simp [execPrevKeyErase, hx, hk, ok]

/-- Settles O23, a command at a time: what each does where its frame is taken, and the session that a hello begins. -/
theorem sessionHandshakeCommandsComplete : Obligations.SessionHandshakeCommandsComplete := by
  unfold Obligations.SessionHandshakeCommandsComplete
  refine ⟨?hello, fun s u v f x sender sid segs anchors admitted => ⟨?halfTimeout, ?auth, ?authTimeout, ?keyUpdate, ?erase⟩⟩
  case hello =>
    intro s u f rate
    dsimp only
    intro hop htake hprot hsession hrate
    refine ⟨fun hword hlen hlast hhalf => ?first, fun hword hlen hlast h v hello hhalf hv hhello => ?second⟩
    case first =>
      exact ⟨_, clientHello_first rate hop htake hprot hsession hrate hword hlen hlast hhalf, State.updQueue_upd.agreeBut (by decide),
        tget_tput_self _ _ _, rfl⟩
    case second =>
      have hrun := clientHello_second rate hop htake hprot hsession hrate hword hlen hlast hhalf
      rw [← hv, ← hhello] at hrun
      refine ⟨fun sid x hfind => ⟨_, hrun, takeHello_again f.mac f.ends rate hfind⟩, fun hnew hserves hbit hroom sh w hshare => ⟨_, hrun, ?_⟩⟩
      obtain ⟨hzero, hopens⟩ := takeHello_new f.mac f.ends rate hnew hserves hbit hroom hshare
      cases hsh : sh.shared with
      | none => exact hzero hsh
      | some p =>
        obtain ⟨sid, y, z, hy, hstate, hrandom, hfeatures, hth, hrx, htx, hsent⟩ :=
          beginSession_session w f.mac f.ends rate hello (beBytes 32 sh.pub) sh.ciphertext sh.random p.1 p.2
        have hdict : w.dictVal 0x2001 0 = v.dictVal 0x2001 0 := by
          have hupd := State.share_upd (s := v) (x1 := beAt hello 48 32) (x2 := slice hello 80 1568)
          rw [hshare] at hupd
          exact dictVal_congr (hupd.state.part .dict (by decide)) _ _ _
        exact ⟨sid, y, z, hy, hstate, hrandom, hfeatures.trans (by rw [hdict]), hth, hrx, htx, (hopens p.1 p.2 hsh).trans hsent⟩
  case halfTimeout =>
    intro k h hfind
    exact ⟨_, halfTimeout_run hfind, tget_tdel_self _ _, congrArg (·.halfDrops + 1) (s.advanceTo_queue _), now_advanceTo s _⟩
  case auth =>
    intro htake hx hwait hsegs hv
    subst hsegs
    refine ⟨fun hmsg => ⟨_, auth_partial anchors admitted htake hx hwait hmsg, hv.symm⟩, fun msg hmsg => ?_,
      fun msg hmsg => ⟨_, auth_refuses htake hx hwait hv hmsg (Or.inr rfl), rfl⟩⟩
    cases hclient : v.clientOf anchors x.th msg with
    | none => exact ⟨_, auth_refuses htake hx hwait hv hmsg (Or.inl hclient), rfl⟩
    | some client => exact ⟨_, auth_establishes htake hx hwait hv hmsg hclient, _, by simp [hv], State.updSession_upd.agreeBut (by decide), rfl⟩
  case authTimeout =>
    intro hx hwait
    refine ⟨_, ?_, rfl⟩
    change execAuthWaitTimeout sid s = _
    simp [execAuthWaitTimeout, hx, hwait, ok]
  case keyUpdate =>
    intro htake hx hgen
    exact ⟨_, keyUpdate_run htake hx hgen, State.setSession_upd.agreeBut (by decide), session_setSession_self _ _ _⟩
  case erase =>
    intro hx k e hk
    exact ⟨_, prevKeyErase_run hx hk, by simp [hx], now_advanceTo s e⟩

/-- A frame of a session that takes it is taken, whatever its datagram's SecTAG did: the time of the last frame, and the acknowledgement of its number
(R41 to R49, R64). -/
theorem acceptNorth_accepts {s u : State} {f : NorthIn} {op : Nat} {x : Session} (hop : f.opcode = op) (htake : s.takeDatagram f = (u, true))
    (hx : u.session f.session = some x) (htag : u.tagGood x f = true) (hlen : f.payload.length ≤ x.payloadLimit op) (hopen : x.state ≠ .closed)
    (hnew : inRanges f.pn x.received = false) (hwait : x.state = .authWait → waitsFor op = true) :
    s.acceptNorth f op = ((u.updSession f.session (fun y => { y with lastFrame := u.now })).acknowledge f.session f.pn, true) := by
  subst hop
  have hlen' := Nat.not_lt.mpr hlen
  simp only [State.acceptNorth, htake, hx, htag, hnew, if_neg hopen, if_neg hlen']
  simp
  exact hwait

/-- Frames of one set of parts, one after the other. -/
theorem agreeBut_trans {ps : List Part} {s t u : State} (h : s.agreeBut ps t) (k : t.agreeBut ps u) : s.agreeBut ps u :=
  ⟨k.1.trans h.1, fun p hp => Part.same_trans (h.2 p hp) (k.2 p hp)⟩

/-- A frame acknowledged is among the numbers received, and the eighth has not come (R64). -/
theorem acknowledge_session {u : State} {sid pn : Nat} {x : Session} (hx : u.session sid = some x) (hfew : x.unacked + 1 < 8) :
    u.agreeBut [.queue] (u.acknowledge sid pn) ∧ (u.acknowledge sid pn).session sid =
      some { x with received := insertNum pn x.received, unacked := x.unacked + 1, firstUnacked := some (x.firstUnacked.getD u.now) } := by
  have hfew' := Nat.not_le.mpr hfew
  have hack : u.acknowledge sid pn = (u.updSession sid (fun x => { x with received := insertNum pn x.received })).updSession sid
      (fun x => { x with unacked := x.unacked + 1, firstUnacked := some (x.firstUnacked.getD u.now) }) := by
    simp only [State.acknowledge, State.countUnacked, session_updSession_self, hx, Option.map_some, if_neg hfew']
    rfl
  rw [hack]
  exact ⟨(State.updSession_upd.seq State.updSession_upd).agreeBut (by decide), by simp [hx]⟩

/-- A KEEPALIVE is received and acknowledged (R64). -/
theorem keepalive_run {s u : State} {f : NorthIn} {x : Session} (hop : f.opcode = opKeepalive) (htake : s.takeDatagram f = (u, true))
    (hx : u.session f.session = some x) (htag : u.tagGood x f = true) (hlen : f.payload.length ≤ x.maxPayload) (hopen : x.state ≠ .closed)
    (hnew : inRanges f.pn x.received = false) :
    exec (.keepalive f) s = .next ((u.updSession f.session (fun y => { y with lastFrame := u.now })).acknowledge f.session f.pn) := by
  change execKeepalive f s = _
  rw [execKeepalive, acceptNorth_accepts hop htake hx htag hlen hopen hnew (fun _ => rfl)]
  rfl

/-- A session as it closes, with its keys kept or erased (Table 2-4). -/
def Session.closing (x : Session) (now : Nat) (erase : Bool) : Session :=
  let x := { x with state := .closed, closedAt := some now, wantEpochs := [] }
  if erase then { x with erased := true, unacked := 0, firstUnacked := none, rxKey := 0, txKey := 0, rxSalt := 0, txSalt := 0, prevKey := none, sent := [] } else x

/-- Without queues a session closes and nothing else happens. -/
theorem closeSession_of_noQueues {s : State} {sid : Nat} (erase : Bool) (hqueues : s.sessionQueues sid = []) :
    s.closeSession sid erase = s.updSession sid (fun x => x.closing s.now erase) := by
  unfold State.closeSession
  rw [hqueues]
  rfl

/-- After 3 × the maximum RTO a closed session that no restore serves is released (Table 2-4). -/
theorem sessionRelease_run {s : State} {sid c : Nat} {x : Session} (hx : s.session sid = some x) (hc : x.closedAt = some c)
    (hrestores : s.south.restores.all (fun kv => kv.2.session != sid) = true) :
    exec (.sessionRelease sid) s = .next (((s.advanceTo (c + 3 * rtoCeiling)).updQueue (fun q => { q with sessions := tdel q.sessions sid })).updSouth
      (fun q => { q with waiting := q.waiting.filter (fun w => w.session != sid) })) := by
  have hnone : tkeys s.south.restores (fun _ r => r.session == sid) = [] := by
    simp only [tkeys, List.map_eq_nil_iff, List.filter_eq_nil_iff, List.all_eq_true] at hrestores ⊢
    exact fun kv hkv => by simpa using hrestores kv hkv
  change execSessionRelease sid s = _
  rw [execSessionRelease, hx]
  dsimp only
  rw [hc]
  dsimp only
  rw [State.updQueue_south, State.advanceTo_south, hnone, List.foldl_nil, ok]

/-- Settles O24: each command by the branch of its execution that its hypotheses choose. -/
theorem sessionCloseCommandsComplete : Obligations.SessionCloseCommandsComplete := by
  unfold Obligations.SessionCloseCommandsComplete
  refine ⟨fun s u f x sid => ⟨?close, ?closeWait, ?closeAck, ?keepalive, ?reset, ?idle, ?release⟩,
    fun s sid x hx hqueues => ⟨?erased, ?kept⟩⟩
  case close =>
    intro htake hx hopen
    refine ⟨_, ?_, rfl⟩
    change execClose f s = _
    simp [execClose, htake, hx, hopen, ok]
  case closeWait =>
    intro htake hx hwait
    refine ⟨_, ?_, rfl⟩
    change execClose f s = _
    simp [execClose, htake, hx, hwait, ok]
  case closeAck =>
    intro htake hx hsent
    refine ⟨_, ?_, rfl⟩
    change execCloseAck f s = _
    simp [execCloseAck, htake, hx, hsent, ok]
  case keepalive =>
    intro hop htake hx htag hlen hopen hnew hfew
    have hx' : (u.updSession f.session (fun y => { y with lastFrame := u.now })).session f.session = some { x with lastFrame := u.now } := by simp [hx]
    obtain ⟨hframe, hsession⟩ := acknowledge_session (pn := f.pn) hx' hfew
    have hfirst : u.agreeBut [.queue] (u.updSession f.session (fun y => { y with lastFrame := u.now })) := State.updSession_upd.agreeBut (by decide)
    exact ⟨_, keepalive_run hop htake hx htag hlen hopen hnew,
      agreeBut_trans hfirst hframe, hsession⟩
  case reset =>
    intro htake hx
    refine ⟨_, ?_, rfl⟩
    change execReset f s = _
    simp [execReset, htake, hx, ok]
  case idle =>
    intro hx hstate
    refine ⟨_, ?_, rfl⟩
    change execSessionIdleTimeout sid s = _
    simp [execSessionIdleTimeout, hx, hstate, ok]
  case release =>
    intro hx c hc hrestores
    have hrun := sessionRelease_run hx hc hrestores
    have hsouth := s.advanceTo_south (c + 3 * rtoCeiling)
    have hnow := now_advanceTo s (c + 3 * rtoCeiling)
    generalize s.advanceTo (c + 3 * rtoCeiling) = v at hrun hsouth hnow
    exact ⟨_, hrun, tget_tdel_self _ _, by rw [State.updSouth_south, State.updQueue_south, hsouth], hnow⟩
  case erased =>
    rw [closeSession_of_noQueues true hqueues]
    exact ⟨x.closing s.now true, by rw [session_updSession_self, hx]; rfl, rfl, rfl, rfl, rfl, rfl, rfl, rfl, rfl, rfl,
      State.updSession_upd.agreeBut (by decide)⟩
  case kept =>
    rw [closeSession_of_noQueues false hqueues]
    exact ⟨x.closing s.now false, by rw [session_updSession_self, hx]; rfl, rfl, rfl, rfl, rfl, State.updSession_upd.agreeBut (by decide)⟩

end Sys2Proof.Machine
end

section
/-!
PROOFS. Seal Transport's acknowledgements and paths (R64 to R71) and its queues (R73 to R77, R86).
-/

namespace Sys2Proof.Machine

/-- An ACK whose fields do not add up is counted (R64). -/
theorem ack_bad {s u : State} {f : NorthIn} {x : Session} (htake : s.acceptNorth f opAck false = (u, true)) (hx : u.session f.session = some x)
    (hbad : ∀ delay first gaps, ackPayload f.payload = some (delay, first, gaps) → ackedRanges f.word first gaps = none) :
    exec (.ack f) s = .next (u.updQueue (fun q => { q with badAcks := q.badAcks + 1 })) := by
  have hnone : (ackPayload f.payload).bind (fun a => (ackedRanges f.word a.2.1 a.2.2).map (fun rs => (a.1, rs))) = none := by
    cases hp : ackPayload f.payload with
    | none => rfl
    | some a => rw [Option.bind_some, hbad a.1 a.2.1 a.2.2 hp]; rfl
  change execAck f s = _
  simp only [execAck, htake, hx, hnone]
  rfl

/-- A session of which an ACK covers every frame sent: none is kept; its paths take their sample, and their answered probes. -/
def Session.allAcked (x : Session) (now floor word delay : Nat) (rs : List (Nat × Nat)) : Session :=
  let y := { x with sent := [] }
  let y := match tget x.sent word with
    | some g => { y with paths := tmod y.paths g.path (fun p => p.sample (now - g.at') delay floor rtoCeiling) }
    | none => y
  { y with paths := tmap y.paths (fun i p => if p.failed && (x.sent.filter (fun g => inRanges g.1 rs)).any (fun g => g.2.typ == opPathProbe && g.2.path == i) then { p with probeAcked := true } else p) }

/-- An ACK of every frame sent, where no restore is under way, shows none lost (R64, R65). -/
theorem ack_all {s u : State} {f : NorthIn} {x : Session} {delay first : Nat} {gaps : List (Nat × Nat)} {rs : List (Nat × Nat)}
    (htake : s.acceptNorth f opAck false = (u, true)) (hx : u.session f.session = some x) (hrestores : u.south.restores = [])
    (hpay : ackPayload f.payload = some (delay, first, gaps)) (hranges : ackedRanges f.word first gaps = some rs)
    (hall : x.sent.all (fun g => inRanges g.1 rs) = true) :
    exec (.ack f) s = .next (u.setSession f.session (x.allAcked u.now u.northFloor f.word delay rs)).pumpRestores := by
  have hgood : (ackPayload f.payload).bind (fun a => (ackedRanges f.word a.2.1 a.2.2).map (fun rs => (a.1, rs))) = some (delay, rs) := by
    rw [hpay, Option.bind_some, hranges]
    rfl
  have hkeep : tkeep x.sent (fun n _ => !inRanges n rs) = [] := by
    simp only [tkeep, List.filter_eq_nil_iff, List.all_eq_true] at hall ⊢
    exact fun g hg => by simpa using hall g hg
  change execAck f s = _
  simp only [execAck, htake, hx, hgood, hkeep]
  cases hword : tget x.sent f.word with
  | none => simp [Session.allAcked, hword, lostBelow, State.setSession, hrestores, ok]
  | some g => simp [Session.allAcked, hword, lostBelow, State.setSession, hrestores, ok]

/-- The RTO of a frame expires for the first time on its path: the RTO doubles and the frame is sent again (R65, R66). -/
theorem rtoExpiry_first {s : State} {sid pn : Nat} {x : Session} {g : SentFrame} {p : Path} (hx : s.session sid = some x) (hg : tget x.sent pn = some g)
    (hp : tget x.paths g.path = some p) (hzero : p.expiries = 0) :
    exec (.rtoExpiry sid pn) s = .next (((s.advanceTo (g.at' + p.rto)).updSession sid
      (fun x => { x with paths := tput x.paths g.path (p.expire rtoCeiling) })).resendFrame sid pn) := by
  have hfew : ¬ 3 ≤ (p.expire rtoCeiling).expiries := by simp [Path.expire, hzero]
  change execRtoExpiry sid pn s = _
  simp only [execRtoExpiry, hx, hg, hp, if_neg hfew, ok]

/-- A failed path is probed again (R71). -/
theorem pathReprobe_run {s : State} {sid path : Nat} {x : Session} {p : Path} (hx : s.session sid = some x) (hp : tget x.paths path = some p)
    (hfailed : p.failed = true) :
    exec (.pathReprobe false sid path) s = .next (((s.advanceTo (p.lastProbe + 10 * msec)).updSession sid (fun x => { x with
      paths := tput x.paths path { p with lastProbe := (s.advanceTo (p.lastProbe + 10 * msec)).now, probe := p.probe + 1, probeAcked := false } })).sendOn
        sid path opPathProbe 2 0 (p.probe + 1) []) := by
  change execPathReprobe false sid path s = _
  simp only [execPathReprobe, hx, Option.bind_some, hp, hfailed]
  rfl

/-- A path that a client adds over a new pair of addresses (R68). -/
theorem pathAdd_new {s u : State} {f : NorthIn} {x : Session} (htake : s.acceptNorth f opPathAdd = (u, true)) (hx : u.session f.session = some x)
    (hhas : x.has 1 = true) (hfree : tget x.paths f.path = none) (hover : x.paths.any (fun kv => kv.2.over f.ends) = false) :
    exec (.pathAdd f) s = .next ((u.setSession f.session { x with
      paths := tput x.paths f.path { newPath f.word f.mac u.northRto true with ends := f.ends } }).sendOn f.session f.path opPathConfirm 2 0 f.word []) := by
  change execPathAdd f s = _
  simp [execPathAdd, htake, hx, hhas, hfree, hover, ok]

/-- Settles O25, a command at a time. -/
theorem acknowledgementAndPathCommandsComplete : Obligations.AcknowledgementAndPathCommandsComplete := by
  unfold Obligations.AcknowledgementAndPathCommandsComplete
  refine fun s u f x sid pn path p => ⟨?bad, ?acked, ?delay, ?rto, ?reprobe, ?probe, ?add, ?fault, ?keepalive⟩
  case bad =>
    intro htake hx hbad
    exact ⟨_, ack_bad htake hx hbad, State.updQueue_upd.agreeBut (by decide), rfl⟩
  case acked =>
    intro htake hx hrestores delay first gaps rs hpay hranges hall
    refine ⟨_, _, ack_all htake hx hrestores hpay hranges hall, ⟨_, session_setSession_self _ _ _, ?_⟩, State.setSession_upd.agreeBut (by decide), rfl⟩
    unfold Session.allAcked
    cases tget x.sent f.word <;> rfl
  case delay =>
    intro hx t0 ht0
    refine ⟨_, ?_, rfl⟩
    change execAckDelayTimer false sid s = _
    simp [execAckDelayTimer, hx, ht0, ok]
  case rto =>
    intro hx g hg hp hzero
    refine ⟨_, _, rtoExpiry_first hx hg hp hzero,
      ?_, by exact now_advanceTo s _, rfl⟩
    rw [session_updSession_self, session_advanceTo, hx]
    exact ⟨_, rfl, tget_tput_self _ _ _⟩
  case reprobe =>
    intro hx hp hfailed
    refine ⟨_, _, pathReprobe_run hx hp hfailed,
      ?_, by exact now_advanceTo s _, rfl⟩
    rw [session_updSession_self, session_advanceTo, hx]
    exact ⟨_, rfl, tget_tput_self _ _ _⟩
  case probe =>
    intro hx hp hfailed hacked
    refine ⟨_, s.updSession f.session (fun x => { x with paths := tput x.paths f.path { p with failed := false, expiries := 0, probeAcked := false } }),
      ?_, ?_, rfl⟩
    · change execPathProbe f true s = _
      simp [execPathProbe, hx, hp, hfailed, hacked, ok]
    · rw [session_updSession_self, hx]
      exact ⟨_, rfl, tget_tput_self _ _ _⟩
  case add =>
    intro htake hx hhas hfree hover
    exact ⟨_, _, pathAdd_new htake hx hhas hfree hover, session_setSession_self _ _ _, State.setSession_upd.agreeBut (by decide), rfl⟩
  case fault =>
    intro port hport hu hnone
    subst hu
    have hport' := Nat.not_le.mpr hport
    refine ⟨(s.raise (srcNpPortFail port)).updQueue (fun q => { q with downMacs := if port ∈ q.downMacs then q.downMacs else q.downMacs ++ [port] }),
      ?_, ?_, State.updQueue_upd.agreeBut (by decide)⟩
    · change execNorthPathFault port s = _
      simp [execNorthPathFault, hport', hnone, ok]
    · rw [State.updQueue_queue]
      by_cases h : port ∈ (s.raise (srcNpPortFail port)).queue.downMacs <;> simp [h]
  case keepalive =>
    intro hx hstate hruns
    refine ⟨_, ?_, rfl⟩
    change execKeepaliveTimer sid s = _
    simp [execKeepaliveTimer, hx, hstate, hruns, ok]

/-- A queue after it is set. -/
@[simp] theorem queue?_setQueue_self (s : State) (n : Nat) (q : Queue) : (s.setQueue n q).queue? n = some q := tget_tput_self s.queue.queues n q

/-- The context of a queue that a session opens (R73, R74). -/
def State.openedQueue (s : State) (sid : Nat) (x : Session) (ns : Nat) (c : Code) (resume : Nat) : Queue :=
  { state := .openQ, notarised := s.dictVal 0x2101 9 ns == 1, staged := s.dictVal 0x2101 10 ns == 1 && x.has 2, unknownLen := x.has 7, ns := ns, k := c.k, m := c.m, ext := c.ext, settle := c.settle, session := sid, slot := (match tget s.keys.current ns with | some (_, sl) => sl | none => 0), tag := resume % 2 ^ 64, nextSeq := 0, oldest := 0, contiguous := 0, credit := 0, open' := none, lastActivity := s.now, detachExpiry := none, received := [], client := x.client, lastExceeded := none, fillRate := none, nextOff := 0 }

/-- QUEUE_OPEN of a new queue that nothing refuses (R73). -/
theorem queueOpen_new {s u : State} {f : NorthIn} {x : Session} {n : Nat} (htake : s.acceptNorth f opQueueOpen = (u, true))
    (hx : u.session f.session = some x) (hlen : f.len = 20) (hflags : beAt f.payload 6 2 = 0) (hns : beAt f.payload 0 2 < 4096)
    (hgood : u.openRefused x (beAt f.payload 0 2) (u.resolveCode (beAt f.payload 0 2) (beAt f.payload 2 1) (beAt f.payload 3 1) (beAt f.payload 4 1)
      (beAt f.payload 5 1)) = none) (hfree : u.freeQueue = some n) :
    ∃ q : Queue, q = (u.draw 64).2.openedQueue f.session x (beAt f.payload 0 2) (u.resolveCode (beAt f.payload 0 2) (beAt f.payload 2 1) (beAt f.payload 3 1)
        (beAt f.payload 4 1) (beAt f.payload 5 1)) (u.draw 64).1 ∧
      exec (.queueOpen f) s = .next (((u.draw 64).2.setQueue n q).sendOpened f.session f.word n q) := by
  have hfields : ¬ (f.len ≠ 20 ∨ 1 < beAt f.payload 6 2 ∨ 4096 ≤ beAt f.payload 0 2) := by rw [hlen, hflags]; omega
  have hresume : bitOf (beAt f.payload 6 2) 0 = false := by rw [hflags]; rfl
  refine ⟨_, rfl, ?_⟩
  change execQueueOpen f s = _
  simp only [execQueueOpen, htake, hx, if_neg hfields, hresume, hgood, hfree]
  rfl

/-- QUEUE_OPEN of a detached queue that its client resumes (R76). -/
theorem queueOpen_resume {s u : State} {f : NorthIn} {x : Session} {q : Queue} (htake : s.acceptNorth f opQueueOpen = (u, true))
    (hx : u.session f.session = some x) (hlen : f.len = 20) (hflags : beAt f.payload 6 2 = 1) (hns : beAt f.payload 0 2 < 4096)
    (hq : u.queue? (beAt f.payload 8 4) = some q) (hhas : x.has 8 = true) (hstate : q.state = .detached) (hclient : q.client = x.client)
    (htag : q.tag = beAt f.payload 12 8) (hadmits : u.nsAdmits q.ns x.client = true) :
    exec (.queueOpen f) s = .next (
      let r := { q with state := .openQ, session := f.session, detachExpiry := none, staged := q.staged && x.has 2, unknownLen := x.has 7, lastActivity := u.now }
      ((u.setQueue (beAt f.payload 8 4) r).sendOpened f.session f.word (beAt f.payload 8 4) r).pump (beAt f.payload 8 4)) := by
  have hfields : ¬ (f.len ≠ 20 ∨ 1 < beAt f.payload 6 2 ∨ 4096 ≤ beAt f.payload 0 2) := by rw [hlen, hflags]; omega
  have hresume : bitOf (beAt f.payload 6 2) 0 = true := by rw [hflags]; rfl
  have hmine : ¬ ((!x.has 8) = true ∨ q.state ≠ .detached ∨ q.client ≠ x.client ∨ q.tag ≠ beAt f.payload 12 8) := by simp [hhas, hstate, hclient, htag]
  change execQueueOpen f s = _
  simp only [execQueueOpen, htake, hx, if_neg hfields, hresume, State.resumeQueue, hq, if_neg hmine, hadmits]
  rfl

/-- QUEUE_CLOSE on an open queue: refused while an object is open, else answered (R77). -/
theorem queueClose_run {s u : State} {f : NorthIn} {q : Queue} (htake : s.acceptNorth f opQueueClose = (u, true)) (hq : u.frameQueue f = some q)
    (hpayload : f.payload = []) :
    exec (.queueClose f) s = .next (if q.open'.isSome then u.status f.session opQueueClose cObjectOpen f.stream
      else (u.sendFrame f.session opQueueClosed f.stream 0 []).detachQueue f.stream) := by
  change execQueueClose f s = _
  simp only [execQueueClose, htake, hq, hpayload]
  cases q.open' <;> rfl

/-- Settles O26, a command at a time. -/
theorem queueContextCommandsComplete : Obligations.QueueContextCommandsComplete := by
  unfold Obligations.QueueContextCommandsComplete
  refine fun s u f x q n => ⟨?openNew, ?openAgain, ?close, ?closeRefused, ?idle, ?hold⟩
  case openNew =>
    intro htake hx hlen hflags ns hns hlimit hgood hfree
    subst hns
    obtain ⟨r, hr, hrun⟩ := queueOpen_new htake hx hlen hflags hlimit hgood hfree
    refine ⟨_, _, (u.draw 64).2.setQueue n r, hrun, rfl, State.setQueue_upd.agreeBut (by decide), by rw [queue?_setQueue_self, Option.getD_some],
      r, queue?_setQueue_self _ _ _, ?_⟩
    subst hr
    exact ⟨rfl, rfl, rfl, rfl, rfl, rfl, rfl, rfl⟩
  case openAgain =>
    intro htake hx hlen hflags hns hq hhas hstate hclient htag hadmits r hr
    exact ⟨_, queueOpen_resume htake hx hlen hflags hns hq hhas hstate hclient htag hadmits, by rw [hr]⟩
  case close =>
    intro htake hq hpayload hopen
    exact ⟨_, queueClose_run htake hq hpayload, by rw [hopen]; rfl⟩
  case closeRefused =>
    intro o htake hq hpayload hopen
    exact ⟨_, queueClose_run htake hq hpayload, by rw [hopen]; rfl⟩
  case idle =>
    intro hq o hopen hpartly
    refine ⟨_, ?_, rfl⟩
    change execQueueIdleTimeout n s = _
    simp [execQueueIdleTimeout, hq, hopen, hpartly, ok]
  case hold =>
    intro hq e hexpiry hstate
    refine ⟨(s.advanceTo e).freeQueueCtx n, ?_, tget_tdel_self _ _, (State.advanceTo_upd.seq State.freeQueueCtx_upd).agreeBut (by decide), now_advanceTo s e⟩
    change execReceiptHoldExpiry n s = _
    simp [execReceiptHoldExpiry, hq, hexpiry, hstate, ok]

end Sys2Proof.Machine
end

section
/-!
PROOFS. What sending leaves of the queue engine, and the objects, extents, credits and requests of clients (R73 to R93).
-/

namespace Sys2Proof.Machine

/-- Of the queue engine, only the sessions and the MACsec channels have changed. -/
def SendsOnly (s t : State) : Prop := ∃ ss ms, t.queue = { s.queue with sessions := ss, macsec := ms }

theorem SendsOnly.refl (s : State) : SendsOnly s s := ⟨_, _, rfl⟩

theorem SendsOnly.trans {s t u : State} (h : SendsOnly s t) (k : SendsOnly t u) : SendsOnly s u := by
  obtain ⟨_, _, h⟩ := h
  obtain ⟨ss, ms, k⟩ := k
  exact ⟨ss, ms, by rw [k, h]⟩

theorem sendsOnly_updSession (s : State) (sid : Nat) (f : Session → Session) : SendsOnly s (s.updSession sid f) := ⟨_, _, rfl⟩

theorem sendsOnly_setSession (s : State) (sid : Nat) (x : Session) : SendsOnly s (s.setSession sid x) := ⟨_, _, rfl⟩

theorem sendsOnly_emitNorth (s : State) (d : Dest) (mac : Nat) (e : Ends) (op : Nat) (fields : List Nat) (bytes : List Byte) :
    SendsOnly s (s.emitNorth d mac e op fields bytes) := by
  unfold State.emitNorth
  cases tget s.queue.macsec mac with
  | none => exact ⟨_, _, rfl⟩
  | some m => exact ⟨_, _, rfl⟩

theorem sendsOnly_sendRaw (s : State) (sid path op flags stream word : Nat) (payload : List Byte) :
    SendsOnly s (s.sendRaw sid path op flags stream word payload) := by
  unfold State.sendRaw
  cases s.session sid with
  | none => exact .refl s
  | some x =>
    dsimp only
    split
    · exact .refl s
    · exact (sendsOnly_setSession s sid _).trans (sendsOnly_emitNorth _ _ _ _ _ _ _)

theorem sendsOnly_sendOn (s : State) (sid path op flags stream word : Nat) (payload : List Byte) :
    SendsOnly s (s.sendOn sid path op flags stream word payload) := by
  unfold State.sendOn
  cases s.session sid with
  | none => exact .refl s
  | some x =>
    dsimp only
    split
    · exact ((sendsOnly_sendRaw _ _ _ _ _ _ _ _).trans (sendsOnly_updSession _ _ _)).trans (sendsOnly_sendRaw _ _ _ _ _ _ _ _)
    · exact sendsOnly_sendRaw s sid path op flags stream word payload

theorem sendsOnly_sendFrame (s : State) (sid op stream word : Nat) (payload : List Byte) (last : Bool) :
    SendsOnly s (s.sendFrame sid op stream word payload last) := by
  unfold State.sendFrame
  cases s.session sid with
  | none => exact .refl s
  | some x => exact sendsOnly_sendOn s sid _ op _ stream word payload

theorem sendsOnly_sendAck (s : State) (sid : Nat) : SendsOnly s (s.sendAck sid) := by
  unfold State.sendAck
  cases s.session sid with
  | none => exact .refl s
  | some x =>
    dsimp only
    split
    · exact .refl s
    · exact (sendsOnly_sendFrame _ _ _ _ _ _ _).trans (sendsOnly_updSession _ _ _)

theorem sendsOnly_acknowledge (s : State) (sid pn : Nat) : SendsOnly s (s.acknowledge sid pn) := by
  have hcount : ∀ t : State, SendsOnly t (t.countUnacked sid) := by
    intro t
    unfold State.countUnacked
    dsimp only
    split
    · split
      · exact (sendsOnly_updSession _ _ _).trans (sendsOnly_sendAck _ _)
      · exact sendsOnly_updSession _ _ _
    · exact sendsOnly_updSession _ _ _
  exact (sendsOnly_updSession _ _ _).trans (hcount _)

/-- Objects and extents after they are set. -/
@[simp] theorem object_setObject_self (s : State) (o : Nat) (x : Obj) : (s.setObject o x).object o = some x := tget_tput_self s.queue.objects o x
@[simp] theorem extent_setExtent_self (s : State) (e : Nat) (x : Extent) : (s.setExtent e x).extent e = some x := tget_tput_self s.queue.extents e x

/-- An object of a queue as it begins (R78). -/
def Queue.begun (q : Queue) (stream word declared epoch : Nat) : Obj :=
  { ns := q.ns, queue := stream, seq := q.nextSeq, first := word, declared := if declared = unknownLength then none else some declared, length := none, k := q.k, m := q.m, ext := q.ext, settle := q.settle, epoch := epoch, notarised := q.notarised, state := .openObj, stagedSent := false, answered := false, firstSettled := none, granted := 0, aborting := false }

/-- OBJ_BEGIN that nothing refuses: the next object of its queue (R78, R79). -/
theorem objBegin_run {s u : State} {f : NorthIn} {q : Queue} (htake : s.acceptNorth f opObjBegin = (u, true)) (hq : u.frameQueue f = some q)
    (hlen : f.len = 8) (hgood : u.beginRefused q f.word (beAt f.payload 0 8) = none) :
    ∃ (epoch : Nat) (bytes : List Byte), exec (.objBegin f) s = .next ((((u.takeCounter q.ns).2.setObject (objectId q.ns (u.takeCounter q.ns).1)
      (q.begun f.stream f.word (beAt f.payload 0 8) epoch)).setQueue f.stream { q with
        nextSeq := q.nextSeq + 1, open' := some (objectId q.ns (u.takeCounter q.ns).1), lastActivity := (u.takeCounter q.ns).2.now }).sendFrame
          f.session opObjId f.stream f.word bytes) := by
  have hlen' : ¬ f.len ≠ 8 := fun h => h hlen
  have hrun : exec (.objBegin f) s = execObjBegin f s := rfl
  rw [hrun]
  simp only [execObjBegin, htake, hq, if_neg hlen', hgood]
  exact ⟨_, _, rfl⟩

/-- DATA that arrives in sequence, within the credit, on a queue without extents (R75, R81). -/
theorem data_inSequence {s u : State} {f : NorthIn} {q : Queue} (htake : s.acceptNorth f opData false = (u, true)) (hq : u.frameQueue f = some q)
    (hextents : u.queueExtents f.stream = []) (hdata : f.payload ≠ []) (hword : f.word = q.contiguous) (hcredit : q.contiguous + f.payload.length ≤ q.credit)
    (hput : putSegment q.contiguous f.payload q.received = [(q.contiguous, f.payload)]) :
    exec (.data f) s = .next ((((u.setQueue f.stream { q with lastActivity := u.now }).acknowledge f.session f.pn).setQueue f.stream
      { q with received := [(q.contiguous, f.payload)], contiguous := q.contiguous + f.payload.length, lastActivity := u.now }).updQueue
        (fun t => { t with bytesIn := t.bytesIn + f.payload.length })) := by
  have hpos : 0 < f.payload.length := List.length_pos_iff.mpr hdata
  have hexcess : q.contiguous + f.payload.length - max q.contiguous q.credit = 0 := by omega
  have hcont : advanceTo' q.contiguous [(q.contiguous, f.payload)] = q.contiguous + f.payload.length := by
    simp [advanceTo', hpos]
  have hranges : Queue.ranges (q.contiguous + f.payload.length) [(q.contiguous, f.payload)] = 0 := by simp [Queue.ranges]
  have hempty : f.payload.isEmpty = false := by simpa using hdata
  have hnote : ∀ (v : State), SendsOnly (u.setQueue f.stream { q with lastActivity := u.now }) v → ∀ (r : Queue) (off upTo before : Nat),
      ((v.setQueue f.stream r).updQueue (fun t => { t with bytesIn := t.bytesIn + f.payload.length })).noteArrival f.stream off upTo before =
        (v.setQueue f.stream r).updQueue (fun t => { t with bytesIn := t.bytesIn + f.payload.length }) := by
    intro v hv r off upTo before
    obtain ⟨ss, ms, hv⟩ := hv
    have hnone : ((v.setQueue f.stream r).updQueue (fun t => { t with bytesIn := t.bytesIn + f.payload.length })).queueExtents f.stream = [] := by
      rw [← hextents]
      simp [State.queueExtents, State.setQueue, hv]
    unfold State.noteArrival
    rw [hnone]
    split <;> rfl
  change execData f s = _
  simp only [execData, htake, hq, hword, hexcess, queue?_setQueue_self, Nat.lt_irrefl, Nat.sub_zero, List.take_length, Nat.sub_self,
    List.drop_zero, hempty, hput, hcont, hranges, Bool.not_true, Bool.false_eq_true, if_false, Nat.not_lt_zero,
    Nat.max_eq_left (Nat.le_refl q.contiguous), hnote _ (sendsOnly_acknowledge _ _ _), ok]

/-- OBJ_END at an offset that agrees with what was declared and received (R80). -/
theorem objEnd_good {s u : State} {f : NorthIn} {q : Queue} {x : Obj} {o : Nat} (htake : s.acceptNorth f opObjEnd = (u, true))
    (hq : u.frameQueue f = some q) (hopen : q.open' = some o) (hx : u.object o = some x) (hpayload : f.payload = []) (hfirst : x.first ≤ f.word)
    (hlen : x.declared = some (f.word - x.first) ∨ x.declared = none ∧ q.top ≤ f.word) (hmax : f.word - x.first ≤ 2 ^ 48) :
    exec (.objEnd f) s = .next (((((u.cutExtents o x (f.word - x.first)).setObject o
      { x with length := some (f.word - x.first), state := .ended, granted := min x.granted (f.word - x.first) }).setQueue f.stream
        { q with open' := none, nextOff := f.word, credit := min q.credit f.word }).settleObject o).pump f.stream) := by
  have hmax' := Nat.not_lt.mpr hmax
  change execObjEnd f s = _
  simp only [execObjEnd, htake, hq, hopen, hx, hpayload]
  rcases hlen with hd | ⟨hd, htop⟩
  · have hfirst' := Nat.not_lt.mpr hfirst
    simp only [hd, bne_self_eq_false, hfirst', decide_false, Bool.or_self, hmax', Bool.not_true, Bool.false_eq_true, if_false, List.isEmpty_nil, ok]
  · have htop' := Nat.not_lt.mpr (Nat.max_le.mpr ⟨hfirst, htop⟩)
    simp only [hd, htop', decide_false, hmax', Bool.not_true, Bool.false_eq_true, if_false, List.isEmpty_nil, ok]

/-- OBJ_END at another length than the declared one (R85). -/
theorem objEnd_mismatch {s u : State} {f : NorthIn} {q : Queue} {x : Obj} {o d : Nat} (htake : s.acceptNorth f opObjEnd = (u, true))
    (hq : u.frameQueue f = some q) (hopen : q.open' = some o) (hx : u.object o = some x) (hpayload : f.payload = []) (hd : x.declared = some d)
    (hlen : d ≠ f.word - x.first) :
    exec (.objEnd f) s = .next (u.abortObject o cLengthMismatch false opObjEnd) := by
  change execObjEnd f s = _
  simp [execObjEnd, htake, hq, hopen, hx, hpayload, hd, hlen, ok]

/-- An extent as it is granted to a queue's object of unknown end (R82). -/
def Obj.grantedExtent (x : Obj) (q : Queue) (o n now : Nat) : Extent :=
  { obj := o, idx := x.granted / extBytes x.ext, queue := n, len := extBytes x.ext, k := x.k, m := x.m, ext := x.ext, settle := x.settle, epoch := x.epoch, slot := q.slot, notarised := x.notarised, final := none, phase := .granted, grantedAt := now, held := false, noPlace := false, ranges := [], lead := 0, tag := none, frags := [], trialGen := 0, placed := false, generation := 0, sealTime := 0, stagedAt := 0, acked := [], hasLeaf := none, ingest := extBytes x.ext }

/-- The state in which an extent has been granted, before CREDIT is sent (R82, R83). -/
def State.grantExtent (s : State) (n o : Nat) (q : Queue) (x : Obj) : State :=
  (((s.setExtent (extKey o (x.granted / extBytes x.ext)) (x.grantedExtent q o n s.now)).setObject o { x with granted := x.granted + extBytes x.ext }).updQueue
    (fun t => { t with lastCredit := n, ingestUsed := t.ingestUsed + extBytes x.ext })).setQueue n { q with credit := x.first + x.granted + extBytes x.ext }

/-- CREDIT_GRANT to an object of unknown end, where the buffer and the rates allow a whole extent (R23, R31, R82). -/
theorem creditGrant_run {s : State} {n o ingest restore : Nat} {q : Queue} {x : Obj} (hservice : s.sealService = true) (hnext : s.nextCredit = some (n, q))
    (hwants : s.wantsExtent n = some (o, x)) (htotal : x.total = none) (hroom : s.queue.ingestUsed + extBytes x.ext ≤ 72 * 1048576)
    (hrate : s.rateAllows x.k x.m x.ext ingest restore = true) (hspread : spreadOk x.k x.m s.chanCount = true)
    (hlimit : q.credit < x.first + x.granted + extBytes x.ext) :
    exec (.creditGrant ingest restore) s =
      .next ((s.grantExtent n o q x).sendFrame q.session opCredit n (x.first + x.granted + extBytes x.ext) []) := by
  have hgo : ¬ (ingestBytes < s.queue.ingestUsed + extBytes x.ext ∨ (!s.rateAllows x.k x.m x.ext ingest restore) = true ∨ (!spreadOk x.k x.m s.chanCount) = true) := by
    rw [hrate, hspread]
    exact fun h => h.elim (Nat.not_lt.mpr hroom) (by simp)
  have hgrants : (!s.sealService) = false := by rw [hservice]; rfl
  change execCreditGrant ingest restore s = _
  simp only [execCreditGrant, hgrants, hnext, hwants, htotal, if_neg hgo, if_pos hlimit]
  rfl

/-- RECEIPT_GET of an object whose namespace admits the client is served (R92). -/
theorem receiptGet_run {s u : State} {f : NorthIn} {x : Session} (htake : s.acceptNorth f opReceiptGet = (u, true)) (hx : u.session f.session = some x)
    (hlen : f.len = 16) :
    exec (.receiptGet f) s = .next (if u.nsAdmits (beAt f.payload 0 16 / 2 ^ 116) x.client
      then u.serve { kind := .receipt, session := f.session, tag := f.word, obj := beAt f.payload 0 16, offset := 0, length := 0 }
      else u.status f.session opReceiptGet cNotAdmitted 0 f.word 0 (beAt f.payload 0 16)) := by
  have hlen' : ¬ f.len ≠ 16 := fun h => h hlen
  change execReceiptGet f s = _
  simp only [execReceiptGet, htake, hx, if_neg hlen']
  cases u.nsAdmits (beAt f.payload 0 16 / 2 ^ 116) x.client <;> rfl

/-- RESTORE_REQ that its session's features and its namespace allow is served (R51, R93). -/
theorem restoreReq_run {s u : State} {f : NorthIn} {x : Session} (htake : s.acceptNorth f opRestoreReq = (u, true)) (hx : u.session f.session = some x)
    (hlen : f.len = 32) (hhas : x.has 4 = true) (hpart : x.has 5 = true ∨ u.partRange (beAt f.payload 0 16) (beAt f.payload 16 8) (beAt f.payload 24 8) = false)
    (hadmits : u.nsAdmits (beAt f.payload 0 16 / 2 ^ 116) x.client = true) :
    exec (.restoreReq f) s = .next (u.serve { kind := .restore, session := f.session, tag := f.word, obj := beAt f.payload 0 16
                                              offset := beAt f.payload 16 8, length := beAt f.payload 24 8 }) := by
  have hlen' : ¬ f.len ≠ 32 := fun h => h hlen
  have hpart' : ((!x.has 4) || (!x.has 5 && u.partRange (beAt f.payload 0 16) (beAt f.payload 16 8) (beAt f.payload 24 8))) = false := by
    rcases hpart with h | h <;> simp [hhas, h]
  change execRestoreReq f s = _
  simp only [execRestoreReq, htake, hx, if_neg hlen', hpart', hadmits]
  rfl

/-- CREDIT of a restore handle that raises its limit (R93). -/
theorem credit_run {s u : State} {f : NorthIn} (htake : s.acceptNorth f opCredit = (u, true)) (hpayload : f.payload = []) (hstream : 2 ^ 31 ≤ f.stream) :
    exec (.credit f) s = .next (u.updSouth (fun q => { q with restores := tmod q.restores (restoreKey f.session (f.stream % 1024)) (fun r => if r.credit < f.word then { r with credit := f.word, progress := u.now } else r) })) := by
  have hgo : ¬ ((!f.payload.isEmpty) = true ∨ f.stream < 2 ^ 31) := by
    rw [hpayload]
    exact fun h => h.elim (by decide) (Nat.not_lt.mpr hstream)
  change execCredit f s = _
  simp only [execCredit, htake, if_neg hgo]
  rfl

/-- Settles O27, a command at a time. -/
theorem objectAndRequestCommandsComplete : Obligations.ObjectAndRequestCommandsComplete := by
  unfold Obligations.ObjectAndRequestCommandsComplete
  refine ⟨fun s u f q x o => ⟨?begin, ?refused, ?data, ?ended, ?mismatch, ?abort, ?grant⟩,
    fun s u f x obj => ⟨?receipt, ?receiptRefused, ?epoch, ?restore, ?credit⟩⟩
  case begin =>
    intro htake hq hlen hgood
    obtain ⟨epoch, bytes, hrun⟩ := objBegin_run htake hq hlen hgood
    refine ⟨_, _, hrun, ?_, ⟨q.begun f.stream f.word (beAt f.payload 0 8) epoch, ?_, rfl, rfl, rfl, rfl, rfl⟩, ?_, bytes, rfl⟩
    · exact queue?_setQueue_self _ _ _
    · exact object_setObject_self _ _ _
    · exact (State.setObject_upd.seq State.setQueue_upd).agreeBut (by decide)
  case refused =>
    intro e htake hq hlen hbad
    refine ⟨_, ?_, rfl⟩
    change execObjBegin f s = _
    simp [execObjBegin, htake, hq, hlen, hbad, ok]
  case data =>
    intro htake hq hextents data hdata hne hword hcredit hput v hv
    subst hdata hv
    exact ⟨_, data_inSequence htake hq hextents hne hword hcredit hput, (State.setQueue_upd.seq State.updQueue_upd).agreeBut (by decide), rfl,
      tget_tput_self _ _ _⟩
  case ended =>
    intro htake hq hopen hx hpayload word hword hfirst hlen hmax
    subst hword
    refine ⟨_, _, objEnd_good htake hq hopen hx hpayload hfirst hlen hmax, rfl, ?_, ?_, ?_⟩
    · exact object_setObject_self _ _ _
    · exact queue?_setQueue_self _ _ _
    · exact (State.setObject_upd.seq State.setQueue_upd).agreeBut (by decide)
  case mismatch =>
    intro htake hq hopen hx hpayload d hd hfirst hlen
    exact ⟨_, objEnd_mismatch htake hq hopen hx hpayload hd hlen, rfl⟩
  case abort =>
    intro htake hq hopen hx hpayload hfirst
    refine ⟨_, ?_, rfl⟩
    change execObjAbort f s = _
    simp [execObjAbort, htake, hq, hopen, hx, hpayload, hfirst, ok]
  case grant =>
    intro hservice n hnext hwants htotal hroom ingest restore hrate hspread hlimit
    exact ⟨_, s.grantExtent n o q x, creditGrant_run hservice hnext hwants htotal hroom hrate hspread hlimit, object_setObject_self _ _ _,
      (((State.setExtent_upd.seq State.setObject_upd).seq State.updQueue_upd).seq State.setQueue_upd).agreeBut (by decide), queue?_setQueue_self _ _ _, rfl,
      ⟨x.grantedExtent q o n s.now, extent_setExtent_self _ _ _, rfl, rfl⟩, rfl⟩
  case receipt =>
    intro htake hx hlen hobj hadmits
    subst hobj
    exact ⟨_, receiptGet_run htake hx hlen, by rw [hadmits]; rfl⟩
  case receiptRefused =>
    intro htake hx hlen hobj hadmits
    subst hobj
    exact ⟨_, receiptGet_run htake hx hlen, by rw [hadmits]; rfl⟩
  case epoch =>
    intro htake hpayload
    refine ⟨_, ?_, rfl⟩
    change execEpochGet f s = _
    simp [execEpochGet, htake, hpayload, ok]
  case restore =>
    intro htake hx hlen hobj hhas hpart hadmits
    subst hobj
    exact ⟨_, restoreReq_run htake hx hlen hhas hpart hadmits, rfl⟩
  case credit =>
    intro htake hpayload hstream r limit hlimit hr hless
    subst hlimit
    refine ⟨_, credit_run htake hpayload hstream, State.updSouth_upd.agreeBut (by decide), ?_⟩
    rw [State.updSouth_south, tget_tmod_self, hr, Option.map_some, if_pos hless]

end Sys2Proof.Machine
end

section
/-!
PROOFS. Restores, evacuations, regenerations and the drain (R93 to R96, R146 to R154, R262 to R276).
-/

namespace Sys2Proof.Machine

/-- The bytes of a restore that may be sent now: within the credit, a frame and the extent (R93). -/
def Restore.sendable (r : Restore) (x : Session) : Nat :=
  min (min (min r.credit r.upTo - r.sent) x.maxData) (extBytes r.ext - r.sent % extBytes r.ext)

/-- A restore after its next bytes have been sent. -/
def State.sentRestore (s : State) (r : Restore) (e : RestoreExt) (handle n : Nat) : State :=
  ((s.sendFrame r.session opData (handleStream r.handle) r.sent (slice e.bytes (r.sent % extBytes r.ext) n)).updQueue
    (fun q => { q with bytesOut := q.bytesOut + (slice e.bytes (r.sent % extBytes r.ext) n).length })).updSouth
      (fun q => { q with restores := tmod q.restores handle (fun r => { r with sent := r.sent + n }) })

/-- The next bytes of a restore go out, and after the last RESTORE_END (R93, R94). -/
theorem restoreDataSend_run {s : State} {r : Restore} {x : Session} {e : RestoreExt} {handle n : Nat} (hr : s.restore handle = some r)
    (hx : s.session r.session = some x) (he : r.ext? (r.sent / extBytes r.ext) = some e) (hverified : e.verified = true) (hsafe : s.safe = false)
    (hended : r.ended = false) (hstate : x.state = .established)
    (hn : n = min (min (min r.credit r.upTo - r.sent) x.maxData) (extBytes r.ext - r.sent % extBytes r.ext)) (hpos : n ≠ 0) :
    exec (.restoreDataSend handle) s = .next (if r.sent + n = r.upTo then (s.sentRestore r e handle n).finishRestore handle else s.sentRestore r e handle n) := by
  have hgo : ¬ ((!e.verified) = true ∨ n = 0 ∨ r.ended = true ∨ s.safe = true ∨ x.state ≠ .established) := by
    simp [hverified, hpos, hended, hsafe, hstate]
  change execRestoreDataSend handle s = _
  simp only [execRestoreDataSend, hr, hx, he, ← hn, if_neg hgo]
  rfl

/-- A range of an unseal is done: its partial goes to the lead unit and its context is dropped (R106, R120). -/
theorem rangeDone_unseal {s v : State} {unit c handle idx : Nat} {y : StitchCtx} {g : RangeRec} (hrun : s.running unit = some (c, y))
    (hend : y.next = y.first + y.rows) (hagrees : y.agrees = true) (hjob : y.job = .unseal handle idx)
    (hv : v = s.updRanges y.job (fun rs => rs.map (fun g => if g.first = y.first ∧ g.rows = y.rows then { g with phase := .done, acc := y.partial', unit := unit } else g)))
    (hfind : (v.jobRanges y.job).find? (fun g => g.first == y.first) = some g) :
    exec (.rangeDone unit) s = .next (((v.sendPartial y.job g).dropCtx unit c).pumpRestore handle) := by
  have hend' : ¬ y.next < y.first + y.rows := by omega
  change execRangeDone unit s = _
  simp only [execRangeDone, hrun, if_neg hend', hagrees, ← hv, hfind]
  rw [hjob]
  rfl

/-- The tag of an extent is right: its plaintext may be sent, and its restore buffers are free (R116, R145). -/
theorem unsealTagCheck_good {s : State} {r : Restore} {e : RestoreExt} {i : JobInfo} {handle idx : Nat} (hr : s.restore handle = some r)
    (he : r.ext? idx = some e) (hi : s.jobInfo (.unseal handle idx) = some i) (hverified : e.verified = false) (hranges : e.ranges ≠ [])
    (hdone : e.ranges.all (fun g => g.phase == .done) = true) (htag : s.rangesTag i e.ranges = some (recTag e.record)) :
    exec (.unsealTagCheck handle idx) s =
      .next (s.updRestoreExt handle idx (fun e => { e with verified := true, available := [], candidates := [] })).settleLater.pumpHeld := by
  change execUnsealTagCheck handle idx s = _
  simp [execUnsealTagCheck, hr, he, hi, hverified, hranges, hdone, htag, ok]

/-- The tag of an extent is wrong and no retry is left: the restore ends (R268). -/
theorem unsealTagCheck_bad {s u : State} {r : Restore} {e : RestoreExt} {i : JobInfo} {handle idx tag : Nat} (hr : s.restore handle = some r)
    (he : r.ext? idx = some e) (hi : s.jobInfo (.unseal handle idx) = some i) (hverified : e.verified = false) (hranges : e.ranges ≠ [])
    (hdone : e.ranges.all (fun g => g.phase == .done) = true) (htag : s.rangesTag i e.ranges = some tag) (hwrong : tag ≠ recTag e.record)
    (hu : u = ((s.stuCode e.lead 0x30).bump Reg.RST_EVENTS.TAG_FAIL).raise srcRstTagFail) (hretries : u.rd Reg.RST_CFG.TAG_RETRIES ≤ e.retries) :
    exec (.unsealTagCheck handle idx) s = .next (u.endRestore handle cIntegrity) := by
  have hgo : ¬ (e.verified = true ∨ e.ranges.isEmpty = true ∨ (!(e.ranges.all (fun g => g.phase == .done))) = true) := by
    simp [hverified, hranges, hdone]
  change execUnsealTagCheck handle idx s = _
  simp only [execUnsealTagCheck, hr, he, hi, if_neg hgo, htag, if_neg hwrong, ← hu, if_pos hretries, ok]

/-- The first bytes of an answer stream that has more to come are kept (R266). -/
theorem getData_first {s u : State} {m : SouthIn} {f : Fetch} (htake : s.acceptSouth m 0x31 = (u, true))
    (hf : tget u.south.fetches (fetchKey m.shelf m.xid) = some f) (hparts : f.parts = []) (hruns : f.runs = []) (hlast : m.last = false) (hend : f.endAt = none) :
    exec (.getData m) s = .next (u.updSouth (fun q => { q with
      fetches := tput q.fetches (fetchKey m.shelf m.xid) { f with begun := true, parts := [(m.word, m.payload)] } })) := by
  change execGetData m s = _
  simp [execGetData, htake, hf, hparts, hruns, hlast, hend, ok]

/-- Without associations and catalogue a rebuild asks nobody and ends (R262). -/
theorem catalogueRebuild_run {s : State} (hdue : s.south.rebuildDue = true) (hidle : s.south.rebuild = none) (hseal : s.inSeal = true)
    (hcat : s.south.catalogue = []) (hassocs : tkeys s.south.assocs (fun _ a => a.complete) = []) :
    exec .catalogueRebuild s = .next ((s.updSouth (fun q => { q with rebuild := some s.affectedGroups, rebuilt := [] })).finishRebuild) := by
  have hgo : ¬ ((!s.south.rebuildDue) = true ∨ s.south.rebuild.isSome = true ∨ (!s.inSeal) = true) := by simp [hdue, hidle, hseal]
  change execCatalogueRebuild s = _
  simp only [execCatalogueRebuild, if_neg hgo, State.updSouth_south, hcat, hassocs, List.filter_nil, List.map_nil, List.foldl_nil, ok]

/-- EVACUATE of a medium that is unknown. -/
theorem evacuate_unknown {s : State} {m : Nat} (hm : m < 65536) (hnone : tget s.shepherd.media m = none) :
    exec (.evacuate m) s = .next ((s.wr Reg.RPR_CMD.MEDIA m).wr Reg.RPR_CMD.ERR 1) := by
  change execEvacuate m s = _
  simp only [execEvacuate, Nat.mod_eq_of_lt hm, State.wr_shepherd, hnone, ok]

/-- EVACUATE of a medium that is known. -/
theorem evacuate_known {s : State} {m : Nat} {x : Media} (hm : m < 65536) (hx : tget s.shepherd.media m = some x) :
    exec (.evacuate m) s = .next (
      if x.state ≠ 2 then (s.wr Reg.RPR_CMD.MEDIA m).wr Reg.RPR_CMD.ERR 2
      else if m ∈ s.south.evacuating then (s.wr Reg.RPR_CMD.MEDIA m).wr Reg.RPR_CMD.ERR 0
      else (((s.wr Reg.RPR_CMD.MEDIA m).wr Reg.RPR_CMD.ERR 0).updSouth (fun q => { q with evacuating := q.evacuating ++ [m] })).failMedium m true) := by
  change execEvacuate m s = _
  simp only [execEvacuate, Nat.mod_eq_of_lt hm, State.wr_shepherd, State.wr_south, hx]
  split
  · rfl
  · split <;> rfl

/-- EVACUATE_CANCEL where no repair is under way (R271). -/
theorem evacuateCancel_run {s : State} {m : Nat} {x : Media} (hm : m < 65536) (hx : tget s.shepherd.media m = some x) (hrepairs : s.south.repairs = []) :
    exec (.evacuateCancel m) s = .next (((s.wr Reg.RPR_CMD.MEDIA m).wr Reg.RPR_CMD.ERR 0).updSouth
      (fun q => { q with evacuating := q.evacuating.filter (· != m) })) := by
  change execEvacuateCancel m s = _
  simp only [execEvacuateCancel, Nat.mod_eq_of_lt hm, State.wr_shepherd, State.wr_south, hx, hrepairs]
  rfl

/-- The fields of RPR_CMD after both are written. -/
theorem rprCmd_fields (s : State) {m : Nat} (e : Nat) (hm : m < 65536) :
    ((s.wr Reg.RPR_CMD.MEDIA m).wr Reg.RPR_CMD.ERR e).rd Reg.RPR_CMD.MEDIA = m ∧
      ((s.wr Reg.RPR_CMD.MEDIA m).wr Reg.RPR_CMD.ERR e).rd Reg.RPR_CMD.ERR = e % 8 := by
  constructor
  · rw [rd_wr_ne _ _ (by decide), rd_wr_self]
    exact Nat.mod_eq_of_lt hm
  · exact rd_wr_self _ _ _

/-- DRAIN_SEND of an extent's fragment whose pages are good: its PUT is sent (R146, R251). -/
theorem drainSend_put {s v : State} {shelf e i : Nat} {x : Extent} {f : Fragment} (hon : (s.shelf shelf).pstate = .on) (hsafe : s.safe = false)
    (hsvc : s.svc ≠ .dark) (hcopy : s.nextCopy shelf = none) (hdrain : s.nextDrain shelf = some (.ext e i)) (hx : s.extent e = some x)
    (hf : tget x.frags i = some f) (hv : s.touchPages f.channel (runPages f.runs) = (none, v))
    (hgood : v.badPages (s.ownedBytes (.ext e i) - 128) f = []) (hx' : v.extent e = some x) :
    exec (.drainSend shelf) s = .next (v.sendPut shelf (.ext e i) f x.record (v.fragPayload (s.ownedBytes (.ext e i) - 128) f)) := by
  have hgo : ¬ ((s.shelf shelf).pstate ≠ .on ∨ s.safe = true ∨ (!s.lit) = true) := by simp [hon, hsafe, State.lit, hsvc]
  have hfrag : s.ownedFrag (.ext e i) = some f := by simp [State.ownedFrag, hx, hf]
  change execDrainSend shelf s = _
  simp only [execDrainSend, if_neg hgo, hcopy, hdrain, hfrag, hv, hgood, hx']
  rfl

/-- Settles O28, a command at a time. -/
theorem restoreEvacuationAndDrainCommandsComplete : Obligations.RestoreEvacuationAndDrainCommandsComplete := by
  unfold Obligations.RestoreEvacuationAndDrainCommandsComplete
  refine ⟨fun s u m r x e handle idx unit => ⟨?dataSend, ?dataLast, ?idle, ?wait, ?range, ?tagGood, ?tagBad, ?getData, ?getTimeout, ?status, ?statusOk, ?rebuild⟩,
    fun s m obj idx shelf => ⟨?unknown, ?notReadonly, ?evacuate, ?cancel, ?regenerate, ?placeWait, ?copy, ?put⟩⟩
  case dataSend =>
    intro hr hx he hverified hsafe hended hstate n hn hpos hmore
    refine ⟨_, _, restoreDataSend_run hr hx he hverified hsafe hended hstate hn hpos, rfl, ?_, ?_⟩ <;> rw [if_neg hmore]
    · exact (State.updQueue_upd.seq State.updSouth_upd).agreeBut (by decide)
    · rfl
  case dataLast =>
    intro hr hx he hverified hsafe hended hstate n hn hpos hlast
    refine ⟨_, _, s.sentRestore r e handle n, restoreDataSend_run hr hx he hverified hsafe hended hstate hn hpos, rfl, ?_, rfl, by rw [if_pos hlast]⟩
    exact (State.updQueue_upd.seq State.updSouth_upd).agreeBut (by decide)
  case idle =>
    intro hr hholds
    refine ⟨_, ?_, rfl⟩
    have hany : r.exts.any (fun e => (!e.ranges.isEmpty && !e.taken) || (e.ranges.isEmpty && decide (recK e.record ≤ e.available.length) && decide (16777216 < s.egressUsed + recLen e.record))) = true := by
      obtain ⟨e, he, hh⟩ := List.any_eq_true.mp hholds
      exact List.any_eq_true.mpr ⟨e, he, by rw [hh]; rfl⟩
    change execRestoreIdleTimeout handle s = _
    simp only [execRestoreIdleTimeout, hr, hany]
    rfl
  case wait =>
    intro hr hheld
    refine ⟨_, ?_, rfl⟩
    change execRestoreBufferWait handle s = _
    simp [execRestoreBufferWait, hr, hheld, ok]
  case range =>
    intro c y g v hrun hend hagrees hjob hv hfind
    exact ⟨_, rangeDone_unseal hrun hend hagrees hjob hv hfind, rfl⟩
  case tagGood =>
    intro hr he i hi hverified hranges hdone htag
    exact ⟨_, unsealTagCheck_good hr he hi hverified hranges hdone htag, rfl⟩
  case tagBad =>
    intro hr he i tag hi hverified hranges hdone htag hwrong hu hretries
    exact ⟨_, unsealTagCheck_bad hr he hi hverified hranges hdone htag hwrong hu hretries, rfl⟩
  case getData =>
    intro htake f hf hparts hruns hlast hend
    exact ⟨_, getData_first htake hf hparts hruns hlast hend, State.updSouth_upd.agreeBut (by decide), tget_tput_self _ _ _⟩
  case getTimeout =>
    intro shelf xid f hf hsent hbegun
    refine ⟨_, ?_, rfl⟩
    change execGetTimeout shelf xid s = _
    simp [execGetTimeout, hf, hsent, hbegun, ok]
  case status =>
    intro htake hlen hzero hword
    refine ⟨_, ?_, rfl⟩
    change execFtStatus m s = _
    simp [execFtStatus, htake, hlen, hzero, hword, ok]
  case statusOk =>
    intro htake hlen hzero hword
    refine ⟨_, ?_, rfl⟩
    change execFtStatus m s = _
    simp [execFtStatus, htake, hlen, hzero, hword, ok]
  case rebuild =>
    intro hdue hidle hseal hcat hassocs
    exact ⟨_, catalogueRebuild_run hdue hidle hseal hcat hassocs, rfl⟩
  case unknown =>
    intro hm hnone
    exact ⟨_, evacuate_unknown hm hnone, (State.wr_upd.seq State.wr_upd).agreeBut (by decide), (rprCmd_fields s 1 hm).1, (rprCmd_fields s 1 hm).2⟩
  case notReadonly =>
    intro hm x hx hstate
    refine ⟨_, evacuate_known hm hx, ?_, ?_⟩ <;> rw [if_pos hstate]
    · exact (State.wr_upd.seq State.wr_upd).agreeBut (by decide)
    · exact (rprCmd_fields s 2 hm).2
  case evacuate =>
    intro hm x hx hstate hnew
    refine ⟨_, ((s.wr Reg.RPR_CMD.MEDIA m).wr Reg.RPR_CMD.ERR 0).updSouth (fun q => { q with evacuating := q.evacuating ++ [m] }), evacuate_known hm hx,
      ((State.wr_upd.seq State.wr_upd).seq State.updSouth_upd).agreeBut (by decide), rfl, ?_, ?_, ?_⟩
    · rw [rd_congr (State.updSouth_regs _ _)]
      exact (rprCmd_fields s 0 hm).2
    · rw [rd_congr (State.updSouth_regs _ _)]
      exact (rprCmd_fields s 0 hm).1
    · rw [if_neg (fun h => h hstate), if_neg hnew]
  case cancel =>
    intro hm x hx hrepairs
    refine ⟨_, evacuateCancel_run hm hx hrepairs, ((State.wr_upd.seq State.wr_upd).seq State.updSouth_upd).agreeBut (by decide), rfl, ?_⟩
    rw [rd_congr (State.updSouth_regs _ _)]
    exact (rprCmd_fields s 0 hm).2
  case regenerate =>
    intro x hx hdue hcan
    refine ⟨_, ?_, rfl⟩
    change execRegeneration obj idx s = _
    simp [execRegeneration, hx, hdue, hcan, ok]
  case placeWait =>
    intro x hx hdue hcan hwaits
    refine ⟨_, ?_, rfl⟩
    change execRegenPlaceWait obj idx s = _
    simp only [execRegenPlaceWait, hx, hdue, hcan, hwaits]
    rfl
  case copy =>
    intro hon hsafe hsvc key d hcopy
    refine ⟨_, ?_, rfl⟩
    change execDrainSend shelf s = _
    simp [execDrainSend, hon, hsafe, State.lit, hsvc, hcopy, ok]
  case put =>
    intro hon hsafe hsvc hcopy e i x f hdrain hx hf hclean hgood hx'
    exact ⟨_, _, drainSend_put hon hsafe hsvc hcopy hdrain hx hf (Prod.ext hclean rfl) hgood hx', rfl, rfl⟩

end Sys2Proof.Machine
end

section
/-!
PROOFS. The stitch units (chapter 03).
-/

namespace Sys2Proof.Machine

/-- The places of a stitch unit's state and of its EN bit, and of the safe state's, differ. -/
theorem stuState_key_ne_en (n : Nat) : (Reg.STU_STATUS.STATE.nth n).key ≠ (Reg.STU_CTRL.EN.nth n).key := by
  simp only [Field.key, Field.nth, Reg.STU_STATUS.STATE, Reg.STU_CTRL.EN, Nat.one_ne_zero, if_false]
  omega

theorem safe_key_ne_en {n : Nat} (hn : n < 12) : Reg.FCU_STATUS.SAFE.key ≠ (Reg.STU_CTRL.EN.nth n).key := by
  simp [Field.key, Field.nth, Reg.FCU_STATUS.SAFE, Reg.STU_CTRL.EN]
  omega

/-- A stitch unit's state as set, and what EN's write leaves. -/
theorem stu_setStu_self (s : State) (n st : Nat) : (s.setStu n st).stu n = st % 16 := rd_wr_self s _ st

theorem stu_flagEn (s : State) (n : Nat) (b : Bool) : (s.flag (Reg.STU_CTRL.EN.nth n) b).stu n = s.stu n :=
  rd_flag_ne s b (stuState_key_ne_en n)

theorem sealRuns_flagEn (s : State) {n : Nat} (hn : n < 12) (b : Bool) : (s.flag (Reg.STU_CTRL.EN.nth n) b).sealRuns = s.sealRuns := by
  simp only [State.sealRuns, State.safe, State.isSet, rd_flag_ne s b (safe_key_ne_en hn), State.flag_svc, State.flag_heelRetains]

/-- A compare failure of a BUSY unit that owes no range of a tag: it stops, and is SUSPECT or QUARANTINED by its count (R125, R126). -/
theorem stuCompareFail_run {s v w : State} {n code count : Nat} (hbusy : s.stu n = stBusy) (hlow : 0x10 ≤ code) (hhigh : code ≤ 0x12)
    (hcount : (s.stuCode n code).countMismatch n = (v, count)) (howed : code = 0x12 → v.owedRanges n = [])
    (hw : w = (v.stopStitch n stSuspect).raise (srcStu n 0)) :
    exec (.stuCompareFail n code) s = .next (if max 1 (w.rd (Reg.STU_QPOL.LIMIT.nth n)) ≤ count
      then ((w.updStitch (fun q => { q with tests := tdel q.tests n })).setStu n stQuarantined).raise (srcStu n 4)
      else w.updStitch (fun t => { t with tests := tput t.tests n .suspect })) := by
  have hgo : ¬ (¬(0x10 ≤ code ∧ code ≤ 0x12) ∨ ¬(s.stu n = stBusy ∨ (code = 0x12 ∧ s.stu n = stIdle ∧ s.owedRanges n ≠ []))) := by
    simp [hlow, hhigh, hbusy]
  have howed' : (if code = 0x12 then v.owedRanges n else []) = [] := by
    split
    · exact howed ‹_›
    · rfl
  change execStuCompareFail n code s = _
  simp only [execStuCompareFail, if_neg hgo, State.compareFail, hcount, howed', List.foldl_nil, ← hw, ok]

/-- A self-test that fails, other than a rolling one, quarantines the unit (Table 3-8). -/
theorem stuSelftest_fails {s : State} {n sig : Nat} {why : TestReason} (hwhy : tget s.stitch.tests n = some why) (hroll : why ≠ .rolling) :
    exec (.stuSelftestDone n .logic sig) s = .next (((((s.updStitch (fun t => { t with tests := tdel t.tests n })).testOver .stitch n .logic sig).flag
      (Reg.STU_ERR.SELFTEST_FAIL.nth n) true).setStu n stQuarantined).raise (srcStu n 3)) := by
  have hgo : ¬ (TestEnd.logic = .aborted ∧ (!s.mayAbort .stitch why) = true) := fun h => nomatch h.1
  change execStuSelftestDone n .logic sig s = _
  simp only [execStuSelftestDone, hwhy, if_neg hgo, if_neg hroll]
  rfl

/-- A start-up self-test that passes puts the unit in service (Table 3-8). -/
theorem stuSelftest_passes {s : State} {n sig : Nat} (hwhy : tget s.stitch.tests n = some .startup) :
    exec (.stuSelftestDone n .pass sig) s = .next ((((s.updStitch (fun t => { t with tests := tdel t.tests n })).testOver .stitch n .pass sig).stitchServe
      n).backInService .stitch n) := by
  change execStuSelftestDone n .pass sig s = _
  simp [execStuSelftestDone, hwhy, ok]

/-- A range whose input is present goes to the one unit that is left for it (R102). -/
theorem rangeHandover_run {s v : State} {x : Extent} {obj idx k range unit cx : Nat} {r : RangeRec} (hx : s.extent (extKey obj idx) = some x)
    (hphase : x.phase = .admitted) (hruns : s.sealRuns = true) (hslot : s.resolveSlot (x.obj / 2 ^ 116) x.epoch = some k) (hr : x.ranges[range]? = some r)
    (hwaits : r.phase = .waiting) (hrerun : r.rerun = false)
    (hdesc : badDescriptor { obj := x.obj, idx := x.idx, len := x.len, k := x.k, m := x.m, epoch := x.epoch, slot := k } r = false) (hrange : range ≠ 0)
    (hv : v = (s.useKey (x.obj / 2 ^ 116) x.epoch).setExtent (extKey obj idx) { x with slot := k }) (hpresent : v.rangePresent { x with slot := k } r = true)
    (hunit : (v.stitchChoice).filter (fun n => decide (n ∉ x.ranges.filterMap (fun r => if r.phase = .waiting then none else some r.unit))) = [unit])
    (hctx : v.freeCtx unit = some cx) :
    exec (.rangeHandover obj idx range) s = .next ((v.assign unit cx (newCtx (.seal (extKey obj idx)) r)).fixLead (.seal (extKey obj idx))) := by
  have hgo : (decide (x.phase ≠ .admitted) || !s.sealRuns) = false := by simp [hphase, hruns]
  have hnonempty : x.ranges.isEmpty = false := by
    cases hranges : x.ranges with
    | nil => rw [hranges] at hr; nomatch hr
    | cons _ _ => rfl
  have hgo' : (decide (r.phase ≠ .waiting) || !v.rangePresent { x with slot := k } r) = false := by simp [hwaits, hpresent]
  change execRangeHandover obj idx range s = _
  simp only [execRangeHandover, hx, hgo, hslot, hnonempty, hr, Bool.false_eq_true, if_false, ← hv, hgo', hrerun, hunit, hctx, hdesc, if_neg hrange, ok]

/-- A re-run in context 2 goes first, from a boundary or where the running context has no row (R113). -/
theorem contextSwitch_rerun {s : State} {n c : Nat} {y : StitchCtx} (hrun : s.running n = some (c, y)) (hwaits : s.rerunWaits n c = true)
    (hat : s.atBoundary y = true ∨ s.rowPresent y = false) :
    exec (.contextSwitch n) s = .next (s.updStitch (fun t => { t with current := tput t.current n 2 })) := by
  have hgo : (s.rerunWaits n c && (s.atBoundary y || !s.rowPresent y)) = true := by
    rcases hat with h | h <;> simp [hwaits, h]
  change execContextSwitch n s = _
  simp only [execContextSwitch, hrun, if_pos hgo, ok]

/-- A context whose row is absent gives way to the other one with work (R113). -/
theorem contextSwitch_other {s : State} {n : Nat} {y z : StitchCtx} (hrun : s.running n = some (0, y)) (hwaits : s.rerunWaits n 0 = false)
    (habsent : s.rowPresent y = false) (hz : tget s.stitch.ctxs (ctxKey n 1) = some z) (hpresent : s.rowPresent z = true) :
    exec (.contextSwitch n) s = .next (s.updStitch (fun t => { t with current := tput t.current n 1 })) := by
  change execContextSwitch n s = _
  simp [execContextSwitch, hrun, hwaits, habsent, hz, hpresent, ok]

/-- A mask generator's reseed (R119). -/
theorem maskReseed_run {s : State} {n pipe : Nat} (hn : n < 12) (hpipe : pipe < 2) (hfail : s.isSet Reg.TRNG_STATUS.FAIL = false) :
    exec (.maskReseed n pipe) s = .next ((s.draw 256).2.updStitch (fun t => { t with
      masks := tput t.masks (n * 2 + pipe) (MaskGen.absorb (tget t.masks (n * 2 + pipe)) pipe (s.draw 256).1), stalled := tdel t.stalled (n * 2 + pipe) })) := by
  have hgo : ¬ (12 ≤ n ∨ 2 ≤ pipe ∨ s.isSet Reg.TRNG_STATUS.FAIL = true) := by
    rw [hfail]
    rintro (h | h | h)
    · omega
    · omega
    · nomatch h
  change execMaskReseed n pipe s = _
  simp only [execMaskReseed, if_neg hgo]
  rfl

/-- The running context's next row of a seal is released whole (R121). -/
theorem rowRelease_seals {s u : State} {n c e key need : Nat} {y : StitchCtx} {x : Extent} {i : JobInfo} {pt : List Byte} (hu : s.precede n = u)
    (hrun : u.running n = some (c, y)) (haborting : y.aborting = false) (hmore : y.next < y.first + y.rows) (hi : u.jobInfo y.job = some i)
    (hkey : y.key = some key) (hagrees : y.agrees = true) (hjob : y.job = .seal e) (hx : u.extent e = some x)
    (hpt : u.extentPlain x (64 * i.k * y.next) (min (64 * i.k) (i.len - 64 * i.k * y.next)) = some pt) (hroom : u.bufferRoom n e x y = true)
    (hneed : need = ceilDiv (min (64 * i.k) (i.len - 64 * i.k * y.next)) 16 - y.taken) (hnow : need ≤ u.blocksNow n c i y need) :
    exec (.rowRelease n) s = .next (u.sealRow n c y e x key pt) := by
  have hmore' : ¬ y.first + y.rows ≤ y.next := by omega
  have hwork : u.workRow n c y i key = u.sealRow n c y e x key pt := by
    unfold State.workRow
    rw [hjob]
    simp only [hx, hpt, hroom, ← hneed, if_neg (Nat.not_lt.mpr hnow)]
    rfl
  change execRowRelease n s = _
  simp only [execRowRelease, hu, hrun, haborting, if_neg hmore', hi, hkey, hagrees, hwork]
  rfl

/-- The ranges of a seal stand in the queue engine's extents. -/
theorem updRanges_seal_upd {s : State} {e : Nat} {f : List RangeRec → List RangeRec} : Upd 512 s (s.updRanges (.seal e) f) := by
  unfold State.updRanges
  dsimp only
  split
  · exact State.setExtent_upd.mono (by decide)
  · exact .refl

/-- Settles O29, a command at a time. -/
theorem stitchCommandsComplete : Obligations.StitchCommandsComplete := by
  unfold Obligations.StitchCommandsComplete
  refine ⟨fun s n hn => ⟨?compare, ?fails, ?passes, ?enable, ?disableIdle, ?disableBusy, ?request, ?release, ?releaseTack⟩,
    fun s n c obj idx y x => ⟨?handover, ?switchRerun, ?switchOther, ?reseed, ?late, ?poison, ?row, ?partialSent, ?combine⟩⟩
  case compare =>
    intro code count v w hbusy hlow hhigh hcount howed hw
    have hrun := stuCompareFail_run hbusy hlow hhigh hcount howed hw
    refine ⟨fun hfew => ⟨_, hrun, ?_⟩, fun hmany => ⟨_, hrun, by rw [if_pos hmany]⟩⟩
    rw [if_neg (Nat.not_le.mpr hfew)]
    exact ⟨State.updStitch_upd.agreeBut (by decide), tget_tput_self _ _ _⟩
  case fails =>
    intro sig why hwhy hroll
    exact ⟨_, s.updStitch (fun t => { t with tests := tdel t.tests n }), stuSelftest_fails hwhy hroll, State.updStitch_upd.agreeBut (by decide),
      tget_tdel_self _ _, rfl⟩
  case passes =>
    intro sig hwhy
    exact ⟨_, s.updStitch (fun t => { t with tests := tdel t.tests n }), stuSelftest_passes hwhy, State.updStitch_upd.agreeBut (by decide),
      tget_tdel_self _ _, rfl⟩
  case enable =>
    intro hoff hruns
    refine ⟨(s.flag (Reg.STU_CTRL.EN.nth n) true).updStitch (fun t => { t with tests := tput t.tests n .startup }), ?_,
      (State.flag_upd.seq State.updStitch_upd).agreeBut (by decide), ?_, tget_tput_self _ _ _⟩
    · change execStuEnWrite n true s = _
      simp only [execStuEnWrite, if_neg (Nat.not_le.mpr hn), stu_flagEn, hoff, sealRuns_flagEn s hn, hruns, and_self, if_true, ok]
    · rw [rd_congr (State.updStitch_regs _ _)]
      exact rd_flag_self _ _ _
  case disableIdle =>
    intro hidle
    refine ⟨(s.flag (Reg.STU_CTRL.EN.nth n) false).setStu n stOffline, ?_, (State.flag_upd.seq State.setStu_upd).agreeBut (by decide), ?_, stu_setStu_self _ _ _⟩
    · change execStuEnWrite n false s = _
      simp [execStuEnWrite, if_neg (Nat.not_le.mpr hn), stu_flagEn, hidle, ok]
    · rw [State.setStu, rd_wr_ne _ _ (stuState_key_ne_en n).symm]
      exact rd_flag_self _ _ _
  case disableBusy =>
    intro hbusy
    refine ⟨s.flag (Reg.STU_CTRL.EN.nth n) false, ?_, State.flag_upd.agreeBut (by decide), rd_flag_self _ _ _, (stu_flagEn s n false).trans hbusy⟩
    change execStuEnWrite n false s = _
    simp [execStuEnWrite, if_neg (Nat.not_le.mpr hn), stu_flagEn, hbusy, stBusy, stIdle, ok]
  case request =>
    refine ⟨s.updShepherd (fun p => { p with due := tput p.due n s.now }), ?_, State.updShepherd_upd.agreeBut (by decide), tget_tput_self _ _ _⟩
    change execStReq n s = _
    simp only [execStReq, if_neg (Nat.not_le.mpr hn), ok]
  case release =>
    intro hquarantined
    refine ⟨(s.setStu n stSelfTest).updStitch (fun t => { t with tests := tput t.tests n .release }), ?_,
      (State.setStu_upd.seq State.updStitch_upd).agreeBut (by decide), ?_, tget_tput_self _ _ _⟩
    · change execStuQrel n .keeper s = _
      simp [execStuQrel, hn, hquarantined, ok]
    · exact (rd_congr (State.updStitch_regs _ _) _).trans (stu_setStu_self _ _ _)
  case releaseTack => exact ⟨s, rfl, rfl⟩
  case handover =>
    intro hx hphase hruns k range unit cx r hslot hr hwaits hrerun hdesc hrange v hv hpresent hunit hctx
    exact ⟨_, rangeHandover_run hx hphase hruns hslot hr hwaits hrerun hdesc hrange hv hpresent hunit hctx, rfl⟩
  case switchRerun =>
    intro hrun hwaits hat
    exact ⟨_, contextSwitch_rerun hrun hwaits hat, State.updStitch_upd.agreeBut (by decide), tget_tput_self _ _ _⟩
  case switchOther =>
    intro hrun hwaits habsent hc z hz hpresent
    subst hc
    exact ⟨_, contextSwitch_other hrun hwaits habsent hz hpresent, State.updStitch_upd.agreeBut (by decide), tget_tput_self _ _ _⟩
  case reseed =>
    intro pipe hn hpipe hfail
    refine ⟨_, maskReseed_run hn hpipe hfail, (Upd.seq (Upd.snd State.draw_upd) State.updStitch_upd).agreeBut (by decide), tget_tput_self _ _ _, ?_,
      tget_tdel_self _ _, rfl⟩
    unfold State.maskUsed State.maskGen tgetD
    rw [State.updStitch_stitch, tget_tput_self]
    rfl
  case late =>
    intro pipe hrun hused
    refine ⟨_, ?_, rfl⟩
    change execReseedLate n pipe s = _
    simp only [execReseedLate, hrun, if_neg (Nat.not_lt.mpr hused), ok]
  case poison =>
    intro hrun e hjob
    obtain ⟨job, _⟩ := y
    subst hjob
    refine ⟨⟨s.flag (Reg.STU_ERR.POISON.nth n) true, ?_, State.flag_upd.agreeBut (by decide), rd_flag_self _ _ _⟩, fun v hv z hz => ⟨_, ?_, rfl⟩⟩
    · change execPlaintextPoison n true s = _
      simp [execPlaintextPoison, hrun, ok]
    · change execPlaintextPoison n false s = _
      simp [execPlaintextPoison, hrun, ← hv, hz, ok]
  case row =>
    intro u hu hrun
    refine ⟨fun haborting => ⟨_, ?_, rfl⟩, fun i key e need pt haborting hmore hi hkey hagrees hjob hx hpt hroom hneed hnow =>
      ⟨_, rowRelease_seals hu hrun haborting hmore hi hkey hagrees hjob hx hpt hroom hneed hnow, rfl⟩⟩
    change execRowRelease n s = _
    simp [execRowRelease, hu, hrun, haborting, ok]
  case partialSent =>
    intro first r acc hfind hacc
    subst hacc
    have hrun : exec (.ghashPartial obj idx first) s = .next (s.sendPartial (.seal (extKey obj idx)) r) := by
      change execGhashPartial obj idx first s = _
      simp only [execGhashPartial, hfind, ok]
    unfold State.sendPartial at hrun
    exact ⟨_, _, hrun, (Upd.seq State.stepMask_upd updRanges_seal_upd).agreeBut (by decide), rfl⟩
  case combine =>
    intro i tag hx hi hphase hfrags hranges hdone hfinal htag
    refine ⟨_, ?_, rfl⟩
    have hgo : (decide (x.phase ≠ .admitted) || x.ranges.isEmpty || !(x.ranges.all (fun r => r.phase == .done)) || x.final.isNone) = false := by
      cases hf : x.final with
      | none => exact absurd hf hfinal
      | some b => simp [hphase, hranges, hdone]
    have hfrags' : x.frags.isEmpty = false := by simpa using hfrags
    change execTagCombine obj idx s = _
    simp only [execTagCombine, hx, hi, hgo, htag, hfrags']
    rfl

end Sys2Proof.Machine
end

section
/-!
PROOFS. The rolling self-tests (R36 to R38) and the Shepherd's tables, placement and power of shelves (chapter 05).
-/

namespace Sys2Proof.Machine

/-- A unit that is due, in service and of a kind that may lose one is asked for its rolling self-test (R37). -/
theorem rollingSelftestGrant_run {s : State} {kind : UnitKind} {unit due load : Nat} (hdue : tget s.shepherd.due (dueKey kind unit) = some due)
    (hnow : due ≤ s.now)
    (hwell : kind = .stitch ∧ s.stuHealthy unit = true ∨ kind = .sponge ∧ s.spgHealthy unit = true ∨ kind = .awl ∧ s.awlHealthy unit = true)
    (hpool : s.fromFullerPool kind unit = true) (hasked : s.shepherd.asked.any (fun kv => kv.1 / 256 == dueKey kind unit / 256) = false)
    (hout : s.kindOut kind = false) (henabled : s.testEnabled kind = true) (hload : s.loadAllows kind load = true) (hsafe : s.safe = false) :
    exec (.rollingSelftestGrant kind unit load) s =
      .next ((s.updShepherd (fun p => { p with asked := tput p.asked (dueKey kind unit) s.now })).settleTest kind unit) := by
  have hnow' : decide (due ≤ s.now) = true := decide_eq_true hnow
  change execRollingSelftestGrant kind unit load s = _
  rcases hwell with ⟨rfl, h⟩ | ⟨rfl, h⟩ | ⟨rfl, h⟩
  all_goals
    simp only [execRollingSelftestGrant, hdue, hnow', h, hasked, hpool, hout, henabled, hload, hsafe]
    rfl

/-- A test asked for and not begun is withdrawn after 20 ms, and falls due again later (R38). -/
theorem rollingSelftestWithdraw_run {s : State} {kind : UnitKind} {unit at' : Nat} (hasked : tget s.shepherd.asked (dueKey kind unit) = some at')
    (hout : s.kindOut kind = false) :
    exec (.rollingSelftestWithdraw kind unit) s = .next ((s.advanceTo (at' + 20 * msec)).updShepherd (fun p => { p with
      asked := tdel p.asked (dueKey kind unit), due := tupd p.due (dueKey kind unit) 0 (· + testInterval kind) })) := by
  have hout' : (s.advanceTo (at' + 20 * msec)).kindOut kind = false := by
    cases kind <;> simp only [State.kindOut, State.isSet, rd_congr (s.advanceTo_regs _)] at hout ⊢ <;> exact hout
  change execRollingSelftestWithdraw kind unit s = _
  simp only [execRollingSelftestWithdraw, hasked, hout', ok]
  rfl

/-- A pair in service that is due is proposed for a test in the night window (R37). -/
theorem coreTestRequest_run {s : State} {unit load d : Nat} (hunit : unit < 16) (hnight : s.nightWindow = true) (henabled : s.testEnabled .pair = true)
    (hout : s.kindOut .pair = false) (hact : s.isSet Reg.SHP_ST_OUT.DUE_ACT = false) (hstate : s.pstate unit = 0)
    (hdue : tget s.shepherd.due (dueKey .pair unit) = some d) (hnow : d ≤ s.now) (hlater : ∀ n : Nat, tget s.shepherd.notBefore unit = some n → n ≤ s.now)
    (hcarry : s.pairsCarry load = true) (hload : load < s.rd Reg.SHP_ST_CTRL.LOAD_PCT) (hsafe : s.safe = false) :
    exec (.coreTestRequest unit load) s = .next ((((s.wr Reg.SHP_ST_OUT.CORE_DUE unit).flag Reg.SHP_ST_OUT.DUE_ACT true).updShepherd
      (fun p => { p with dueAt := some s.now })).interrupt srcCoreStReq) := by
  have hlater' : (match tget s.shepherd.notBefore unit with | some t => decide (s.now < t) | none => false) = false := by
    cases h : tget s.shepherd.notBefore unit with
    | none => rfl
    | some t => exact decide_eq_false (Nat.not_lt.mpr (hlater t h))
  have hunit' := Nat.not_le.mpr hunit
  have hload' := Nat.not_le.mpr hload
  change execCoreTestRequest unit load s = _
  unfold execCoreTestRequest
  rw [hdue]
  dsimp only
  rw [if_neg, ok]
  rintro (h | h | h | h | h | h | h | h | h | h | h)
  · simp [hnow] at h
  · exact absurd (hlater'.symm.trans h) (by decide)
  · rw [hcarry] at h; nomatch h
  · exact hunit' h
  · rw [hnight] at h; nomatch h
  · rw [henabled] at h; nomatch h
  · rw [hout] at h; nomatch h
  · rw [hact] at h; nomatch h
  · exact h hstate
  · exact hload' h
  · rw [hsafe] at h; nomatch h

/-- The place of a pair's state is none of SHP_ST_OUT. -/
theorem pstate_key_ne_dueAct {p : Nat} (hp : p < 16) : Reg.SHP_ST_OUT.DUE_ACT.key ≠ (Reg.CORE_STATE.PSTATE.nth p).key := by
  simp [Field.key, Field.nth, Reg.SHP_ST_OUT.DUE_ACT, Reg.CORE_STATE.PSTATE]
  omega

/-- The state in which a released pair begins its test. -/
def State.pairReleased (s : State) (p : Nat) : State :=
  ((s.flag Reg.SHP_ST_OUT.DUE_ACT false).updShepherd (fun q => { q with dueAt := none, asked := tput q.asked (dueKey .pair p) s.now })).wr
    (Reg.CORE_STATE.PSTATE.nth p) 4

theorem shpCoreRel_run {s : State} {p : Nat} (hact : s.isSet Reg.SHP_ST_OUT.DUE_ACT = true) (hdue : s.rd Reg.SHP_ST_OUT.CORE_DUE = p) (scheduled : Bool) :
    exec (.shpCoreRel p scheduled) s = .next (if scheduled then s.updShepherd (fun q => { q with dueAt := none }) else (s.pairReleased p).setOut .pair p true) := by
  change execShpCoreRel p scheduled s = _
  cases scheduled <;> simp [execShpCoreRel, hact, hdue, State.pairReleased, ok]

/-- A pair not released in 10 s is proposed again another night (R37). -/
theorem coreReleaseTimeout_run {s : State} {d : Nat} (hd : s.shepherd.dueAt = some d) :
    ∃ night : Nat, exec .coreReleaseTimeout s = .next (((s.advanceTo (d + 10 * second)).flag Reg.SHP_ST_OUT.DUE_ACT false).updShepherd (fun p => { p with
      dueAt := none, notBefore := tput p.notBefore (s.rd Reg.SHP_ST_OUT.CORE_DUE) night })) := by
  have hdue : ((s.advanceTo (d + 10 * second)).flag Reg.SHP_ST_OUT.DUE_ACT false).rd Reg.SHP_ST_OUT.CORE_DUE = s.rd Reg.SHP_ST_OUT.CORE_DUE := by
    rw [rd_flag_ne _ _ (by decide), rd_congr (s.advanceTo_regs _)]
  have hrun : exec .coreReleaseTimeout s = execCoreReleaseTimeout s := rfl
  rw [hrun]
  simp only [execCoreReleaseTimeout, hd, hdue, ok]
  exact ⟨_, rfl⟩

/-- WAKE_DECISION with room for one more shelf that is ON and WAKING (R179). -/
theorem wakeDecision_wakes {s v : State} {id : Nat} (hsafe : s.safe = false) (hsvc : s.svc ≠ .dark)
    (hv : v = (s.updShepherd (fun p => { p with wakes := p.wakes.filter (fun h => (s.shelf h).pstate != .on && (s.shelf h).pstate != .fault) })).pumpRepairs)
    (hchoice : v.wakeChoice = some id) (hon : v.onCount < v.rd Reg.SHP_PWR.MAX_ON) (hwaking : v.wakingCount < v.rd Reg.SHP_PWR.MAX_WAKING)
    (hstop : (v.wake id).stoppable = []) :
    exec .wakeDecision s = .next (v.wake id) := by
  have hgo : (s.safe || !s.lit) = false := by simp [hsafe, State.lit, hsvc]
  have hfull : decide (v.rd Reg.SHP_PWR.MAX_ON ≤ v.onCount) = false := decide_eq_false (Nat.not_le.mpr hon)
  change execWakeDecision s = _
  simp only [execWakeDecision, hgo, Bool.false_eq_true, if_false, ← hv, hchoice, hfull, if_pos hwaking, hstop, List.filter_nil, List.foldl_nil, ok]

/-- Settles O30, a command at a time. -/
theorem selfTestAndShepherdCommandsComplete : Obligations.SelfTestAndShepherdCommandsComplete := by
  unfold Obligations.SelfTestAndShepherdCommandsComplete
  refine ⟨fun s kind unit => ⟨?grant, ?withdraw, ?deferred, ?overdue, ?request, ?release, ?scheduled, ?timeout⟩,
    fun s id obj idx x world => ⟨?media, ?mediaBad, ?shelf, ?putMedia, ?putShelf, ?admitted, ?hold, ?fix, ?retry, ?wake, ?wakeLate, ?lost, ?save, ?factor, ?seed⟩⟩
  case grant =>
    intro due load hdue hnow hwell hpool hasked hout henabled hload hsafe
    exact ⟨_, _, rollingSelftestGrant_run hdue hnow hwell hpool hasked hout henabled hload hsafe, State.updShepherd_upd.agreeBut (by decide),
      by exact tget_tput_self _ _ _, rfl⟩
  case withdraw =>
    intro at' due hasked hout hdue
    have hrun := rollingSelftestWithdraw_run hasked hout
    have hnow := now_advanceTo s (at' + 20 * msec)
    have hshepherd := s.advanceTo_shepherd (at' + 20 * msec)
    have hframe : Upd _ s (s.advanceTo (at' + 20 * msec)) := State.advanceTo_upd
    generalize s.advanceTo (at' + 20 * msec) = v at hrun hnow hshepherd hframe
    refine ⟨_, hrun, (hframe.seq State.updShepherd_upd).agreeBut (by decide), hnow, tget_tdel_self _ _, ?_⟩
    rw [State.updShepherd_shepherd, hshepherd]
    exact (tget_tput_self _ _ _).trans (by rw [tgetD, hdue]; rfl)
  case deferred =>
    intro v hv hnew
    refine ⟨_, v.updShepherd (fun p => { p with deferred := p.deferred ++ [dueKey kind unit] }), ?_, State.updShepherd_upd.agreeBut (by decide), rfl, rfl⟩
    change execSelftestDeferred kind unit s = _
    simp only [execSelftestDeferred, hv, if_neg hnew, ok]
  case overdue =>
    intro v hv hnew
    refine ⟨_, v.updShepherd (fun p => { p with overdue := p.overdue ++ [dueKey kind unit] }), ?_, State.updShepherd_upd.agreeBut (by decide), rfl, rfl⟩
    change execShpStOverdue kind unit s = _
    simp only [execShpStOverdue, hv, if_neg hnew, ok]
  case request =>
    intro load hunit hnight henabled hout hact hstate d hdue hnow hlater hcarry hload hsafe
    refine ⟨_, ((s.wr Reg.SHP_ST_OUT.CORE_DUE unit).flag Reg.SHP_ST_OUT.DUE_ACT true).updShepherd (fun p => { p with dueAt := some s.now }),
      coreTestRequest_run hunit hnight henabled hout hact hstate hdue hnow hlater hcarry hload hsafe,
      ((State.wr_upd.seq State.flag_upd).seq State.updShepherd_upd).agreeBut (by decide), ?_, ?_, rfl, rfl⟩
    · rw [rd_congr (State.updShepherd_regs _ _), rd_flag_ne _ _ (by decide), rd_wr_self]
      exact Nat.mod_eq_of_lt hunit
    · rw [rd_congr (State.updShepherd_regs _ _)]
      exact rd_flag_self _ _ _
  case release =>
    intro p hp hact hdue
    refine ⟨_, s.pairReleased p, shpCoreRel_run hact hdue false, ((State.flag_upd.seq State.updShepherd_upd).seq State.wr_upd).agreeBut (by decide),
      ?_, rfl, rd_wr_self _ _ _, tget_tput_self _ _ _, rfl⟩
    rw [State.pairReleased, rd_wr_ne _ _ (pstate_key_ne_dueAct hp), rd_congr (State.updShepherd_regs _ _)]
    exact rd_flag_self _ _ _
  case scheduled =>
    intro p hact hdue
    exact ⟨_, shpCoreRel_run hact hdue true, State.updShepherd_upd.agreeBut (by decide), rfl⟩
  case timeout =>
    intro d hd
    obtain ⟨night, hrun⟩ := coreReleaseTimeout_run hd
    refine ⟨_, hrun, ((State.advanceTo_upd.seq State.flag_upd).seq State.updShepherd_upd).agreeBut (by decide), ?_, rfl, now_advanceTo s _, ?_⟩
    · rw [rd_congr (State.updShepherd_regs _ _)]
      exact rd_flag_self _ _ _
    · rw [State.updShepherd_shepherd, tget_tput_self]
      rfl
  case media =>
    intro hid hcrc
    refine ⟨_, ?_, rfl⟩
    change execReadMedia id s = _
    simp [execReadMedia, Nat.mod_eq_of_lt hid, hcrc, ok]
  case mediaBad =>
    intro hid hcrc
    refine ⟨_, ?_, rfl⟩
    change execReadMedia id s = _
    simp [execReadMedia, Nat.mod_eq_of_lt hid, hcrc, ok]
  case shelf =>
    intro hid hcrc
    refine ⟨_, ?_, rfl⟩
    change execReadShelf id s = _
    simp [execReadShelf, Nat.mod_eq_of_lt hid, hcrc, ok]
  case putMedia =>
    intro hid hgood
    refine ⟨_, ?_, rfl⟩
    change execWriteMedia id world true s = _
    simp [execWriteMedia, Nat.mod_eq_of_lt hid, hgood, ok]
  case putShelf =>
    intro hid hgood
    refine ⟨_, ?_, rfl⟩
    change execWriteShelf id true s = _
    simp [execWriteShelf, Nat.mod_eq_of_lt hid, Nat.not_le.mpr hid, hgood, ok]
  case admitted =>
    intro ingest restore hx hadmissible hrates
    refine ⟨_, _, ?_, rfl, State.admitRates_upd.agreeBut (by decide), rfl, rfl, rfl⟩
    change execExtentAdmit obj idx ingest restore s = _
    simp [execExtentAdmit, hx, hadmissible, hrates, ok]
  case hold =>
    intro ingest restore hx hadmissible hrates
    refine ⟨s.setExtent (extKey obj idx) { x with held := true }, ?_, State.setExtent_upd.agreeBut (by decide), extent_setExtent_self _ _ _⟩
    change execExtentAdmit obj idx ingest restore s = _
    simp [execExtentAdmit, hx, hadmissible, hrates, ok]
  case fix =>
    intro hx hready hsafe
    refine ⟨_, ?_, rfl⟩
    change execPlacementFix obj idx s = _
    simp [execPlacementFix, hx, hready, hsafe, ok]
  case retry =>
    intro hx hno hready hadmissible hrates
    refine ⟨_, ?_, rfl⟩
    change execPlacementRetry obj idx s = _
    simp [execPlacementRetry, hx, hno, hready, hadmissible, hrates, ok]
  case wake =>
    intro v hsafe hsvc hv hchoice hon hwaking hstop
    exact ⟨_, wakeDecision_wakes hsafe hsvc hv hchoice hon hwaking hstop, rfl⟩
  case wakeLate =>
    intro hstate
    refine ⟨_, ?_, rfl⟩
    change execWakeTimeout id s = _
    simp [execWakeTimeout, hstate, ok]
  case lost =>
    intro a hstate ha
    refine ⟨_, ?_, rfl⟩
    change execShelfLost id s = _
    simp [execShelfLost, hstate, ha, ok]
  case save => exact ⟨_, rfl, rfl⟩
  case factor => exact ⟨_, rfl, State.updShepherd_upd.agreeBut (by decide), rfl⟩
  case seed =>
    intro high
    exact ⟨⟨_, rfl, State.wr_upd.agreeBut (by decide), rd_wr_self _ _ _⟩, s, rfl, rfl⟩

end Sys2Proof.Machine
end

section
/-!
PROOFS. Staging channels (chapter 04): where the end of a page move does more than retire the page.
-/

namespace Sys2Proof.Machine

/-- An open object of a code that two channels must carry, on a queue that is no more. -/
def strandedObject : Obj :=
  { ns := 0, queue := 0, seq := 0, first := 0, declared := none, length := none, k := 2, m := 1, ext := 1, settle := 3, epoch := 0, notarised := true
    state := .openObj, stagedSent := false, answered := false, firstSettled := none, granted := 0, aborting := false }

/-- A channel has been lost, a page of another is being moved, and an object that waits for its notarised epoch has too few channels. -/
def movingState : State :=
  ((State.reset.updStaging (fun t => { t with lost := [0], moves := [{ channel := 1, oldPage := 5, newPage := 6, repair := false, ext := 0, frag := 0 }] })).updQueue
    (fun q => { q with objects := [(7, strandedObject)] })).updPack (fun p => { p with notarisedWaiting := [7] })

/-- The move's end aborts the object, which then waits for no notarised epoch (R31, R156). -/
theorem movingState_moved : ∃ t, exec (.pageMoveDone 1 5) movingState = .next t ∧ t.pack.notarisedWaiting = [] := ⟨_, rfl, by decide⟩

/-- Refutes O31: its clause of PAGE_MOVE_DONE lets the end of a move only retire the old page, but the model then also settles what the loss of a channel
left. In `movingState` that aborts an object and takes it off the Pack's waiting list, which no retirement of a page touches. -/
theorem not_channelAndErrorCorrectionCommandsComplete : ¬ Obligations.ChannelAndErrorCorrectionCommandsComplete := by
  unfold Obligations.ChannelAndErrorCorrectionCommandsComplete
  intro h
  obtain ⟨hstaging, -⟩ := h
  obtain ⟨-, hmove, -⟩ := hstaging movingState 1 5
    { capacity := 0, metaPages := 0, restoreStart := 0, headerStart := 0, stagingStart := 0, pages := 0, dimms := [], retired := [], trained := false
      calibration := 0, prevCalibration := 0 }
  obtain ⟨t, v, hrun, hframe, -, ht⟩ := hmove { channel := 1, oldPage := 5, newPage := 6, repair := false, ext := 0, frag := 0 }
    (List.mem_singleton.mpr rfl) rfl rfl
  obtain ⟨u, hrun', hempty⟩ := movingState_moved
  have htu : u = t := Host.Outcome.next.inj (hrun'.symm.trans hrun)
  have hkept : t.pack = movingState.pack := by
    have hretired : Upd 19048 v (v.retirePage 1 5) := State.retirePage_upd
    rw [ht]
    exact (hretired.part .pack (by decide)).trans (hframe.2 .pack (by decide))
  have hlisted : t.pack.notarisedWaiting = [7] := by
    rw [hkept]
    rfl
  rw [← htu, hempty] at hlisted
  exact absurd hlisted (by decide)

end Sys2Proof.Machine
end
section
/-!
PROOFS. The Pack (chapter 06).
-/

namespace Sys2Proof.Machine

/-- A mismatch whose retry does not pass makes the core SUSPECT, or QUARANTINED at its limit (R191, R192). -/
theorem permutationMismatch_run {s v w : State} {core count : Nat} (hcore : core < 128) (hbusy : s.spg core = .busy)
    (hcount : (s.bump Reg.PCK_EVENTS.RETRY).countSponge core = (v, count)) (hw : w = (v.dropSponge core .suspect).raise srcPckMismatch core) :
    exec (.permutationMismatch core false) s = .next (if max 1 (w.rd Reg.PCK_QPOL.LIMIT) ≤ count
      then ((w.updPack (fun p => { p with tests := tdel p.tests core })).dropSponge core .quarantined).raise srcPckQuarantine core
      else w.updPack (fun p => { p with tests := tput p.tests core .suspect })) := by
  have hgo : ¬ (128 ≤ core ∨ s.spg core ≠ .busy) := fun h => h.elim (Nat.not_le.mpr hcore) (fun k => k hbusy)
  change execPermutationMismatch core false s = _
  simp only [execPermutationMismatch, if_neg hgo, Bool.false_eq_true, if_false, hcount, ← hw]
  split <;> rfl

/-- A fragment after its hash is done (R196). -/
def Fragment.hashed (f : Fragment) : Fragment :=
  { f with hash := some (shakeDom 0x03 (f.rows.flatMap (fun r => r.2))), crcs := pageCrcs (f.rows.flatMap (fun r => r.2)), rows := [], core := none, shadow := none, ahead := false }

/-- A fragment whose rows are all there is hashed, and its core is free (R196). -/
theorem fragmentHashDone_run {s : State} {obj idx n j : Nat} {x : Extent} {f : Fragment} (hx : s.extent (extKey obj idx) = some x)
    (hf : tget x.frags n = some f) (hhash : f.hash = none) (hcore : f.core = some j) (hphase : x.phase ≠ .aborted) (hranges : x.ranges ≠ [])
    (hrows : f.rows.length = rowCount x.len x.k) (hahead : s.waitsAhead (extKey obj idx) n f = false) :
    exec (.fragmentHashDone obj idx n) s = .next ((s.setExtent (extKey obj idx) { x with frags := tput x.frags n f.hashed }).settleCore j).balancePools := by
  change execFragmentHashDone obj idx n s = _
  simp [execFragmentHashDone, hx, hf, hhash, hcore, hphase, hranges, hrows, hahead, State.updFrag, tmod, Fragment.hashed, ok]

/-- An epoch with its signature: its signing group is spent (R216). -/
def Epoch.withSignature (e : Epoch) (sig : Nat) : Epoch :=
  { e with signature := some sig, spent := e.spent ++ e.group.filter (fun j => !e.spent.contains j), group := [] }

theorem Epoch.withSignature_fields (e : Epoch) (sig : Nat) :
    (e.withSignature sig).group = [] ∧ (e.withSignature sig).header = e.header ∧ (e.withSignature sig).signature = some sig := ⟨rfl, rfl, rfl⟩

/-- The epoch's signature is there, and its cores are free (R216, R217). -/
theorem epochSignDone_run {s v : State} {n j rnd : Nat} {e : Epoch} (he : tget s.pack.epochs n = some e) (hgroup : e.group = [j])
    (hsig : e.signature = none) (hreleased : e.released = false) (hready : s.manifestReady = true) (hsafe : s.safe = false) (hdraw : s.draw 256 = (rnd, v)) :
    exec (.epochSignDone n) s = .next (((v.updPack (fun p => { p with epochs := tput p.epochs n (e.withSignature
      (Config.slhSign 6 (v.slotValue (v.rd Reg.PCK_SIGN_SLOTS.SEED_SLOT)) (v.slotValue (v.rd Reg.PCK_SIGN_SLOTS.PRF_SLOT)) v.manifestPublic rnd
        ctxEpoch e.header % 2 ^ 398848)) })).freeCores [j]).assignGroups) := by
  have hgo : ¬ (e.group.isEmpty = true ∨ e.signature.isSome = true ∨ e.released = true ∨ (!s.manifestReady) = true ∨ s.safe = true) := by
    simp [hgroup, hsig, hreleased, hready, hsafe]
  change execEpochSignDone n s = _
  simp only [execEpochSignDone, he, if_neg hgo, hdraw, ok, ← hgroup, Epoch.withSignature]

/-- A staged copy verified again: its time is noted (R197). -/
theorem reverifyDue_run {s v w : State} {obj idx n : Nat} {f : Fragment} {o : Bool × Nat × Nat} {os : List (Bool × Nat × Nat)}
    (hcopies : s.stagedCopies (extKey obj idx) n = o :: os) (hheld : s.heldFrag o = some f) (henabled : s.isSet Reg.PCK_CTRL.REVERIFY_EN = true)
    (hhealthy : s.chanHealthy f.channel = true) (hretraining : s.chanRetraining f.channel = false) (hidle : spongeCores.any s.spgIdle = true)
    (hsafe : s.safe = false) (hv : v = s.advanceTo (f.lastVerify + s.reverifyAge * second)) (htouch : v.touchPages f.channel (runPages f.runs) = (none, w))
    (hhash : some (shakeDom 0x03 (v.fragPayload (v.heldPayload o) f)) = f.hash) :
    exec (.reverifyDue obj idx n) s = .next (w.updHeld o (fun f => { f with lastVerify := w.now })) := by
  have hgo : ¬ ((!s.isSet Reg.PCK_CTRL.REVERIFY_EN) = true ∨ (!s.chanHealthy f.channel) = true ∨ s.chanRetraining f.channel = true ∨
      (!(spongeCores.any s.spgIdle)) = true ∨ s.safe = true) := by
    rw [henabled, hhealthy, hretraining, hidle, hsafe]
    decide
  change execReverifyDue obj idx n s = _
  simp only [execReverifyDue, hcopies, hheld, if_neg hgo, ← hv, htouch, Option.isNone_none, hhash, and_self, if_true, ok]

/-- PCK_QREL from Keeper world puts a QUARANTINED core to its self-test. -/
theorem pckQrel_run {s : State} {core : Nat} (hcore : core < 128) (hquarantined : s.spg core = .quarantined) :
    exec (.pckQrel core .keeper) s = .next (((s.wr Reg.PCK_CTRL.QCORE core).setSpg core .selfTest).updPack (fun p => { p with tests := tput p.tests core .release })) := by
  have hgo : ¬ (World.keeper = .tack ∨ 128 ≤ core) := fun h => h.elim (fun k => nomatch k) (Nat.not_le.mpr hcore)
  have hstate : (s.wr Reg.PCK_CTRL.QCORE core).spg core = .quarantined := hquarantined
  change execPckQrel core .keeper s = _
  simp only [execPckQrel, if_neg hgo, if_pos hstate, ok]

/-- A start-up self-test of a core that passes puts it in service. -/
theorem pckSelftest_passes {s : State} {core sig : Nat} (hwhy : tget s.pack.tests core = some .startup) :
    exec (.pckSelftestDone core .pass sig) s = .next ((((s.updPack (fun p => { p with tests := tdel p.tests core })).testOver .sponge core .pass sig).spongeServe
      core).backInService .sponge core) := by
  change execPckSelftestDone core .pass sig s = _
  simp [execPckSelftestDone, hwhy, ok]

theorem pckSelftest_fails {s : State} {core sig : Nat} (hwhy : tget s.pack.tests core = some .startup) :
    exec (.pckSelftestDone core .logic sig) s = .next ((((s.updPack (fun p => { p with tests := tdel p.tests core })).testOver .sponge core .logic sig).dropSponge
      core .quarantined).raise srcPckSelftestFail core) := by
  change execPckSelftestDone core .logic sig s = _
  simp [execPckSelftestDone, hwhy, ok]

/-- Settles O32, a command at a time. -/
theorem packCommandsComplete : Obligations.PackCommandsComplete := by
  unfold Obligations.PackCommandsComplete
  refine fun s core obj idx n x f e => ⟨?retry, ?suspect, ?quarantine, ?hash, ?slotEnd, ?slotFull, ?lenChange, ?notarised, ?sign, ?verify, ?log, ?reverify, ?release,
    ?releaseTack, ?selftest⟩
  case retry =>
    intro hcore hbusy
    have hgo : ¬ (128 ≤ core ∨ s.spg core ≠ .busy) := fun h => h.elim (Nat.not_le.mpr hcore) (fun hne => hne hbusy)
    refine ⟨_, ?_, rfl⟩
    change execPermutationMismatch core true s = _
    simp only [execPermutationMismatch, if_neg hgo, if_true, ok]
  case suspect =>
    intro v w count hcore hbusy hcount hw hfew
    refine ⟨_, permutationMismatch_run hcore hbusy hcount hw, ?_⟩
    rw [if_neg (Nat.not_le.mpr hfew)]
    exact ⟨State.updPack_upd.agreeBut (by decide), tget_tput_self _ _ _⟩
  case quarantine =>
    intro v w count hcore hbusy hcount hw hmany
    exact ⟨_, permutationMismatch_run hcore hbusy hcount hw, by rw [if_pos hmany]⟩
  case hash =>
    intro j hx hf hhash hcore hphase hranges hrows hahead
    exact ⟨_, s.setExtent (extKey obj idx) { x with frags := tput x.frags n f.hashed }, fragmentHashDone_run hx hf hhash hcore hphase hranges hrows hahead,
      State.setExtent_upd.agreeBut (by decide), ⟨_, extent_setExtent_self _ _ _, tget_tput_self _ _ _⟩, rfl⟩
  case slotEnd =>
    intro v hv hfree hready hsafe
    refine ⟨_, ?_, rfl⟩
    change execEpochSlotEnd s = _
    simp only [execEpochSlotEnd, ← hv, hfree, hready, hsafe]
    rfl
  case slotFull =>
    intro v hv hfull
    refine ⟨_, ?_, rfl⟩
    change execEpochSlotEnd s = _
    simp only [execEpochSlotEnd, ← hv, hfull]
    rfl
  case lenChange =>
    intro v hlen hv
    refine ⟨v.updPack (fun p => { p with slotLen := s.lenWritten }), ?_, State.updPack_upd.agreeBut (by decide), rfl⟩
    change execEpochLenChange s = _
    simp only [execEpochLenChange, if_neg hlen, ← hv, ok]
  case notarised =>
    intro y hy hwaits hfree hready hsafe
    refine ⟨_, ?_, rfl⟩
    change execNotarisedEpochClose obj s = _
    simp [execNotarisedEpochClose, hy, hwaits, hfree, hready, hsafe, ok]
  case sign =>
    intro j v _ rnd he hgroup hsig hreleased hready hsafe hdraw
    refine ⟨_, _, epochSignDone_run he hgroup hsig hreleased hready hsafe hdraw, ?frame, ?entry, rfl⟩
    case frame => exact State.updPack_upd.agreeBut (by decide)
    case entry => exact ⟨_, tget_tput_self _ _ _, e.withSignature_fields _⟩
  case verify =>
    intro he hsig hreleased hstopped hsafe
    obtain ⟨sig, hsig⟩ := Option.ne_none_iff_exists'.mp hsig
    constructor
    · refine ⟨_, ?_, rfl⟩
      change execEpochVerifyDone n true s = _
      simp [execEpochVerifyDone, he, hsig, hreleased, hstopped, hsafe, ok]
    · refine ⟨_, ?_, rfl⟩
      change execEpochVerifyDone n false s = _
      simp [execEpochVerifyDone, he, hsig, hreleased, hstopped, hsafe, ok]
  case log =>
    intro he hreleased hlogged
    refine ⟨_, s.updPack (fun p => { p with logHeaders := p.logHeaders ++ [e.header], epochs := cacheEpochs (tput p.epochs n { e with logged := true }) }), ?_,
      State.updPack_upd.agreeBut (by decide), by rw [State.updPack_pack], by rw [State.updPack_pack], rfl⟩
    change execManifestLogAppend n s = _
    simp [execManifestLogAppend, he, hreleased, hlogged, ok]
  case reverify =>
    intro v w o os hcopies hheld henabled hhealthy hretraining hidle hsafe hv htouch hhash
    exact ⟨_, reverifyDue_run hcopies hheld henabled hhealthy hretraining hidle hsafe hv htouch hhash, rfl⟩
  case release =>
    intro hcore hquarantined
    refine ⟨_, pckQrel_run hcore hquarantined, ((State.wr_upd.seq State.setSpg_upd).seq State.updPack_upd).agreeBut (by decide), ?_, ?_, tget_tput_self _ _ _⟩
    · rw [rd_congr (State.updPack_regs _ _), State.setSpg, rd_congr (State.updPack_regs _ _), rd_wr_self]
      exact Nat.mod_eq_of_lt hcore
    · unfold State.spg State.setSpg tgetD
      rw [State.updPack_pack, State.updPack_pack, tget_tput_self]
      rfl
  case releaseTack => exact ⟨s, rfl, rfl⟩
  case selftest =>
    intro sig hwhy
    have hgone : tget (s.updPack (fun p => { p with tests := tdel p.tests core })).pack.tests core = none := tget_tdel_self _ _
    exact ⟨⟨_, _, pckSelftest_passes hwhy, State.updPack_upd.agreeBut (by decide), hgone, rfl⟩,
      _, _, pckSelftest_fails hwhy, State.updPack_upd.agreeBut (by decide), hgone, rfl⟩

end Sys2Proof.Machine
end

section
/-!
PROOFS. Bytes in fields, and the Tether links (R230 to R233).
-/

namespace Sys2Proof.Machine

/-- A slice is padded to its length. -/
theorem length_slice (bs : List Byte) (off n : Nat) : (slice bs off n).length = n := by
  simp [slice, padTo]
  omega

/-- A slice's byte: the string's, or 0 past its end. -/
theorem getElem_slice (bs : List Byte) (off n i : Nat) (h : i < (slice bs off n).length) : (slice bs off n)[i] = bs.getD (off + i) 0 := by
  have hi : i < n := by rwa [length_slice] at h
  simp only [slice, padTo, List.getElem_take, List.getElem_append, List.length_drop]
  split
  · have hlt : off + i < bs.length := by omega
    simp [hlt]
  · have hge : bs.length ≤ off + i := by omega
    simp [hge]

/-- A slice in two parts. -/
theorem slice_add (bs : List Byte) (off m n : Nat) : slice bs off (m + n) = slice bs off m ++ slice bs (off + m) n := by
  refine List.ext_getElem (by simp [length_slice]) (fun i h1 h2 => ?_)
  rw [getElem_slice, List.getElem_append]
  split
  · rw [getElem_slice]
  · rw [getElem_slice]
    rw [length_slice] at *
    congr 1
    omega

theorem ofLe_append (a b : List Byte) : ofLe (a ++ b) = ofLe a + 256 ^ a.length * ofLe b := by
  induction a with
  | nil => simp [ofLe]
  | cons x xs ih =>
    simp only [List.cons_append, ofLe, ih, List.length_cons, Nat.pow_succ]
    rw [Nat.mul_add, ← Nat.mul_assoc, Nat.mul_comm 256 (256 ^ _), Nat.add_assoc]

theorem ofLe_lt (a : List Byte) : ofLe a < 256 ^ a.length := by
  induction a with
  | nil => simp [ofLe]
  | cons x xs ih =>
    have hx : x.toNat < 256 := x.isLt
    simp only [ofLe, List.length_cons, Nat.pow_succ]
    omega

/-- A big-endian field in two parts. -/
theorem beAt_add (bs : List Byte) (off m n : Nat) : beAt bs off (m + n) = beAt bs off m * 256 ^ n + beAt bs (off + m) n := by
  simp only [beAt, ofBe, slice_add, List.reverse_append, ofLe_append, List.length_reverse, length_slice]
  rw [Nat.add_comm, Nat.mul_comm]

theorem beAt_lt (bs : List Byte) (off n : Nat) : beAt bs off n < 256 ^ n := by
  have h := ofLe_lt (slice bs off n).reverse
  rwa [List.length_reverse, length_slice] at h

/-- A link after it is set. -/
@[simp] theorem tether_setTether_self (s : State) (p : Nat) (x : Tether) : (s.setTether p x).tether p = some x := tget_tput_self s.south.tethers p x

/-- A good flit on a link that is not up: an INIT counts, and the sixteenth brings the link up (R233). -/
theorem flitReceive_down {s : State} {p : Nat} {t : Tether} {flit : List Byte} (ht : s.tether p = some t) (hgood : flitGood true flit = true)
    (hdown : t.up = false) (htype : flitType flit ≠ 1) :
    exec (.flitReceive p true flit) s = .next (if 15 ≤ t.inits
      then ((s.updSouth (fun q => { q with upPorts := q.upPorts ++ [p] })).fall (srcFtLinkDown p)).sendFlit p
        { t with up := true, inits := 0, rx := some ((flitSeq flit + 4095) % 4096), ackAt := s.now, partial' := [] } 2 t.tx []
      else s.setTether p { t with inits := t.inits + 1 }) := by
  have hgo : ¬ ((!flitGood true flit) = true ∨ flitType flit = 1) := by simp [hgood, htype]
  change execFlitReceive p true flit s = _
  simp only [execFlitReceive, ht, hdown, if_neg hgo, Bool.not_false, if_true]
  split <;> rfl

/-- A bad flit, or one out of order, asks for a resend (R232). -/
theorem flitReceive_nak {s : State} {p : Nat} {t : Tether} {fec : Bool} {flit : List Byte} (ht : s.tether p = some t) (hup : t.up = true)
    (hbad : flitGood fec flit = false ∨ t.rx ≠ none ∧ flitSeq flit ≠ (t.rx.getD 0 + 1) % 4096) :
    exec (.flitReceive p fec flit) s = .next (s.setTether p { t with nak := true }) := by
  have hup' : (!t.up) = false := by rw [hup]; rfl
  change execFlitReceive p fec flit s = _
  simp only [execFlitReceive, ht, hup']
  rcases hbad with hbad | ⟨hrx, hseq⟩
  · simp [hbad, ok]
  · obtain ⟨r, hr⟩ := Option.ne_none_iff_exists'.mp hrx
    rw [hr] at hseq
    have hseq' : flitSeq flit ≠ (r + 1) % 4096 := hseq
    simp [hr, hseq', ok]

/-- A DATA flit in order, on a link that has nothing to send or to resend, is taken (R231, R232). -/
theorem flitReceive_data {s : State} {p : Nat} {t : Tether} {flit : List Byte} (ht : s.tether p = some t) (hgood : flitGood true flit = true)
    (hup : t.up = true) (htype : flitType flit = 1) (hseq : flitSeq flit = (t.rx.getD 4095 + 1) % 4096) (hunacked : t.unacked = []) (hbacklog : t.backlog = [])
    (hnak : bitOf (flitAck flit) 14 = false) :
    exec (.flitReceive p true flit) s = .next (s.setTether p (t.takeData flit)) := by
  have hup' : (!t.up) = false := by rw [hup]; rfl
  have hnext : flitSeq flit = (match t.rx with | some r => (r + 1) % 4096 | none => 0) := by
    rw [hseq]
    cases t.rx <;> rfl
  have hnone : ∀ ack, dropAcked ack [] = [] := fun _ => rfl
  have hidle : (t.takeData flit).unacked = [] ∧ (t.takeData flit).backlog = [] := ⟨hunacked, hbacklog⟩
  change execFlitReceive p true flit s = _
  simp only [execFlitReceive, ht, hup', hgood]
  rw [if_neg (by decide), if_neg (by exact fun h => h.elim (fun hbad => absurd hbad (by decide)) (fun hne => hne hnext))]
  simp only [htype, if_true, hnak]
  generalize t.takeData flit = d at hidle ⊢
  cases d
  obtain ⟨hu, hb⟩ := hidle
  dsimp only at hu hb
  subst hu hb
  simp [hnone, State.sendFlits, ok]

/-- Settles O33, a command at a time. -/
theorem tetherLinkCommandsComplete : Obligations.TetherLinkCommandsComplete := by
  unfold Obligations.TetherLinkCommandsComplete
  refine fun s p t ht => ⟨fun flit hgood => ⟨?init, ?up, ?order, ?data⟩, ?bad, ?resend, ?idleUp, ?idleDown, ?linkDown, ?retryDown, ?retry⟩
  case init =>
    intro hdown htype hinits
    refine ⟨_, flitReceive_down ht hgood hdown htype, ?_⟩
    rw [if_neg (Nat.not_le.mpr hinits)]
    exact ⟨State.setTether_upd.agreeBut (by decide), tether_setTether_self _ _ _⟩
  case up =>
    intro hdown htype hinits
    refine ⟨_, s.updSouth (fun q => { q with upPorts := q.upPorts ++ [p] }), flitReceive_down ht hgood hdown htype, State.updSouth_upd.agreeBut (by decide), rfl, ?_⟩
    rw [if_pos (Nat.le_of_eq hinits.symm)]
  case order =>
    intro hup hrx hseq
    exact ⟨_, flitReceive_nak ht hup (Or.inr ⟨hrx, hseq⟩), State.setTether_upd.agreeBut (by decide), tether_setTether_self _ _ _⟩
  case data =>
    intro hup htype hseq hunacked hbacklog hnak
    exact ⟨_, flitReceive_data ht hgood hup htype hseq hunacked hbacklog hnak, State.setTether_upd.agreeBut (by decide), tether_setTether_self _ _ _⟩
  case bad =>
    intro flit hup
    exact ⟨_, flitReceive_nak ht hup (Or.inl rfl), State.setTether_upd.agreeBut (by decide), tether_setTether_self _ _ _⟩
  case resend =>
    intro hup hunacked
    refine ⟨_, ?_, rfl⟩
    change execFlitResendTimer p s = _
    simp [execFlitResendTimer, ht, hup, hunacked, ok]
  case idleUp =>
    intro hup
    refine ⟨_, ?_, rfl⟩
    change execFlitIdleSend p s = _
    simp [execFlitIdleSend, ht, hup, ok]
  case idleDown =>
    intro hdown
    refine ⟨_, ?_, rfl⟩
    change execFlitIdleSend p s = _
    simp [execFlitIdleSend, ht, hdown, ok]
  case linkDown =>
    intro locked skew hport hlost
    have hlost' : (!lanesLocked locked skew) = true := by
      rcases hlost with h | h
      · simp [lanesLocked, h]
      · simp [lanesLocked, h]
    refine ⟨_, ?_, rfl⟩
    change execFtLinkDown p locked skew s = _
    simp only [execFtLinkDown, hport, hlost', and_self, if_true, ok]
  case retryDown =>
    intro locked skew hdown hlost
    have hlost' : lanesLocked locked skew = false := by
      rcases hlost with h | h
      · simp [lanesLocked, h]
      · simp [lanesLocked, h]
    refine ⟨(s.advanceTo (t.downAt + 10 * msec)).setTether p { t with downAt := (s.advanceTo (t.downAt + 10 * msec)).now, rx := none, nak := false, inits := 0 }, ?_,
      (State.advanceTo_upd.seq State.setTether_upd).agreeBut (by decide), now_advanceTo s _, tether_setTether_self _ _ _⟩
    change execTetherBringupRetry p locked skew s = _
    simp only [execTetherBringupRetry, ht, hdown, hlost', Bool.false_eq_true, if_false, ok]
  case retry =>
    intro skew hdown hskew
    refine ⟨_, ?_, rfl⟩
    have hlocked : lanesLocked true skew = true := by simp [lanesLocked, hskew]
    change execTetherBringupRetry p true skew s = _
    simp only [execTetherBringupRetry, ht, hdown, hlocked, Bool.false_eq_true, if_false, if_true, now_advanceTo, ok]

end Sys2Proof.Machine
end

section
/-!
PROOFS. The shelves' associations, their reports and the catalogue (R234 to R262).
-/

namespace Sys2Proof.Machine

/-- An association after it is set, changed or dropped. -/
@[simp] theorem assoc_setAssoc_self (s : State) (h : Nat) (a : Assoc) : (s.setAssoc h a).assoc h = some a := by
  by_cases hh : h < 64
  · simp [State.assoc, State.setAssoc, hh, tget_tput_self]
  · simp [State.assoc, State.setAssoc, hh, tget_tput_self]

@[simp] theorem assoc_updAssoc_self (s : State) (h : Nat) (f : Assoc → Assoc) : (s.updAssoc h f).assoc h = (s.assoc h).map f := by
  by_cases hh : h < 64
  · simp [State.assoc, State.updAssoc, hh, tget_tmod_self]
  · simp [State.assoc, State.updAssoc, hh, tget_tmod_self]

theorem assoc_congr {s t : State} (h : t.south = s.south) (i : Nat) : t.assoc i = s.assoc i := by
  unfold State.assoc
  rw [h]

/-- An ANNOUNCE in order is answered by its shared secrets (R237). -/
theorem announce_run {s u v : State} {m : SouthIn} {sh : Share} (hop : m.opcode = 0x01) (htake : s.takeMessage m = (u, true)) (hgood : m.announceOk = true)
    (hserves : u.awlServes = true) (hshare : u.share (beAt m.payload 40 32) (slice m.payload 72 1568) = (sh, v)) :
    (sh.shared = none → exec (.announce m) s = .next (v.southPlain m.port m.shelf m.ends 0x05 0x0103 [])) ∧
    (∀ ssk ssx, sh.shared = some (ssk, ssx) → exec (.announce m) s = .next (v.openAssoc m sh ssk ssx)) := by
  have hrun : exec (.announce m) s = execAnnounce m s := rfl
  rw [hrun]
  unfold execAnnounce
  rw [if_neg (fun h => h hop)]
  split
  case h_1 w hw => exact absurd (htake.symm.trans hw) (by simp)
  case h_2 w hw =>
    obtain rfl : u = w := congrArg Prod.fst (htake.symm.trans hw)
    rw [if_neg (by rw [hgood]; decide), if_neg (by rw [hserves]; decide), hshare]
    dsimp only
    exact ⟨fun h => by rw [h]; rfl, fun ssk ssx h => by rw [h]; rfl⟩

/-- A segment of a shelf's AUTH is kept; with the last the shelf is proved or refused (R238). -/
theorem ftAuth_run {s u v : State} {m : SouthIn} {a : Assoc} (htake : s.acceptOn (m.shelf + 64) m 0x03 = (u, true)) (ha : u.assoc (m.shelf + 64) = some a)
    (hv : v = u.setAssoc (m.shelf + 64) { a with auth := authSegments a.auth m.word m.last m.payload }) :
    (authMessage (authSegments a.auth m.word m.last m.payload) = none → exec (.ftAuth m) s = .next v) ∧
    (∀ msg, authMessage (authSegments a.auth m.word m.last m.payload) = some msg → exec (.ftAuth m) s = .next (if v.shelfProved m.shelf a.th msg
      then v.associate m.shelf { a with auth := authSegments a.auth m.word m.last m.payload }
      else ((v.sendSouth (m.shelf + 64) 0x05 0 0x0103 []).updSouth (fun q => { q with pendingAssoc := tdel q.pendingAssoc m.shelf })).raise srcFtAuthFail m.shelf)) := by
  have hrun : exec (.ftAuth m) s = execFtAuth m s := rfl
  rw [hrun]
  simp only [execFtAuth, htake, ha, Bool.not_true, Bool.false_eq_true, if_false, ← hv]
  refine ⟨fun h => by rw [h]; rfl, fun msg h => ?_⟩
  rw [h]
  dsimp only
  split <;> rfl

/-- KEY_UPDATE of an association that takes the next key (R59, R237). -/
theorem ftKeyUpdate_run {s u : State} {m : SouthIn} {a : Assoc} (htake : s.acceptSouth m 0x04 = (u, true)) (ha : u.assoc m.shelf = some a)
    (hpayload : m.payload = []) (hgen : m.word = a.keyGen + 1) :
    exec (.ftKeyUpdate m) s = .next (u.updAssoc m.shelf (fun a => { a with
      prevKey := some (a.rxKey, u.now + 3 * rtoCeiling), rxKey := nextKey a.rxKey "LGE9120 FT update", keyGen := m.word })) := by
  change execFtKeyUpdate m s = _
  simp [execFtKeyUpdate, htake, ha, hpayload, hgen, ok]

/-- RESET drops the association whose key it is under (R62, R237). -/
theorem ftReset_run {s u : State} {m : SouthIn} (htake : s.acceptOn (s.southLink m) m 0x05 = (u, true)) :
    ∃ t, exec (.ftReset m) s = .next t ∧ u.agreeBut [.south] t ∧ t.assoc (s.southLink m) = none := by
  by_cases hh : s.southLink m < 64
  · refine ⟨u.updSouth (fun q => { q with assocs := tdel q.assocs (s.southLink m) }), ?_, State.updSouth_upd.agreeBut (by decide), ?_⟩
    · change execFtReset m s = _
      simp [execFtReset, htake, hh, ok]
    · simp [State.assoc, hh, tget_tdel_self]
  · refine ⟨u.updSouth (fun q => { q with pendingAssoc := tdel q.pendingAssoc (s.southLink m - 64) }), ?_, State.updSouth_upd.agreeBut (by decide), ?_⟩
    · change execFtReset m s = _
      simp [execFtReset, htake, hh, ok]
    · simp [State.assoc, hh, tget_tdel_self]

/-- An ACK whose fields do not add up is counted (R239). -/
theorem ftAck_bad {s u : State} {m : SouthIn} {a : Assoc} (htake : s.acceptOn (s.southLink m) m 0x10 false = (u, true)) (ha : u.assoc (s.southLink m) = some a)
    (hbad : ∀ delay first gaps, ackPayload m.payload = some (delay, first, gaps) → ackedRanges m.word first gaps = none) :
    exec (.ftAck m) s = .next (u.updSouth (fun q => { q with badMsgs := q.badMsgs + 1 })) := by
  have hnone : (ackPayload m.payload).bind (fun p => (ackedRanges m.word p.2.1 p.2.2).map (fun rs => (p.1, rs))) = none := by
    cases hp : ackPayload m.payload with
    | none => rfl
    | some p => rw [Option.bind_some, hbad p.1 p.2.1 p.2.2 hp]; rfl
  change execFtAck m s = _
  simp only [execFtAck, htake, ha, hnone]
  rfl

/-- An ACK of every message sent on an association leaves none to acknowledge (R239). -/
theorem ftAck_all {s u : State} {m : SouthIn} {a : Assoc} {delay first : Nat} {gaps rs : List (Nat × Nat)}
    (htake : s.acceptOn (s.southLink m) m 0x10 false = (u, true)) (ha : u.assoc (s.southLink m) = some a)
    (hpay : ackPayload m.payload = some (delay, first, gaps)) (hranges : ackedRanges m.word first gaps = some rs)
    (hall : a.sent.all (fun f => inRanges f.1 rs) = true) :
    ∃ paths, exec (.ftAck m) s = .next (u.setAssoc (s.southLink m) { a with sent := [], paths := paths }) := by
  have hgood : (ackPayload m.payload).bind (fun p => (ackedRanges m.word p.2.1 p.2.2).map (fun rs => (p.1, rs))) = some (delay, rs) := by
    rw [hpay, Option.bind_some, hranges]
    rfl
  have hkeep : tkeep a.sent (fun n _ => !inRanges n rs) = [] := by
    simp only [tkeep, List.filter_eq_nil_iff, List.all_eq_true] at hall ⊢
    exact fun g hg => by simpa using hall g hg
  have hrun : exec (.ftAck m) s = execFtAck m s := rfl
  rw [hrun]
  simp only [execFtAck, htake, ha, hgood, hkeep]
  cases tget a.sent m.word with
  | none => exact ⟨_, rfl⟩
  | some f => exact ⟨_, rfl⟩

/-- The RTO of a message expires for the first time on its path (R239). -/
theorem ftRtoExpiry_first {s : State} {h seq : Nat} {a : Assoc} {f : SouthMsg} {p : Path} (ha : s.assoc h = some a) (hf : tget a.sent seq = some f)
    (hp : tget a.paths f.path = some p) (hzero : p.expiries = 0) :
    exec (.ftRtoExpiry h seq) s = .next (((s.advanceTo (f.at' + p.rto)).updAssoc h
      (fun a => { a with paths := tput a.paths f.path (p.expire rtoCeiling) })).resendSouth h seq) := by
  have hfew : ¬ 3 ≤ (p.expire rtoCeiling).expiries := by simp [Path.expire, hzero]
  change execFtRtoExpiry h seq s = _
  simp only [execFtRtoExpiry, ha, hf, hp, if_neg hfew, ok]

/-- The code of a POWER_STATE and the zeros after it, read as one number (Table 7-5). -/
theorem powerState_fields {bs : List Byte} {c : Nat} (h : beAt bs 0 4 = c * 2 ^ 24) : beAt bs 0 1 = c ∧ beAt bs 1 3 = 0 := by
  have hsplit : beAt bs 0 4 = beAt bs 0 1 * 256 ^ 3 + beAt bs 1 3 := beAt_add bs 0 1 3
  have hlow : beAt bs 1 3 < 256 ^ 3 := beAt_lt bs 1 3
  omega

/-- POWER_STATE of a WAKING shelf that is ON now (R249). -/
theorem powerState_on {s u : State} {m : SouthIn} (htake : s.acceptSouth m 0x41 = (u, true)) (hlen : m.len = 8) (hcode : beAt m.payload 0 4 = 3 * 2 ^ 24)
    (hms : beAt m.payload 4 4 = 0) (hwaking : (u.shelf m.shelf).pstate = .waking) :
    exec (.powerState m) s = .next (((u.updAssoc m.shelf (fun a => { a with expectedMs := 0, at' := u.now })).setPstate m.shelf .on).shelfReady m.shelf) := by
  obtain ⟨hc, hz⟩ := powerState_fields hcode
  change execPowerState m s = _
  simp [execPowerState, htake, hlen, hc, hz, hms, hwaking, ok]

/-- POWER_STATE of a WAKING shelf that is WAKING still: the time it expects (R249). -/
theorem powerState_waking {s u : State} {m : SouthIn} {ms : Nat} (htake : s.acceptSouth m 0x41 = (u, true)) (hlen : m.len = 8)
    (hcode : beAt m.payload 0 4 = 2 * 2 ^ 24) (hms : beAt m.payload 4 4 = ms) (hwaking : (u.shelf m.shelf).pstate = .waking) :
    exec (.powerState m) s = .next (u.updAssoc m.shelf (fun a => { a with expectedMs := ms, at' := u.now })) := by
  obtain ⟨hc, hz⟩ := powerState_fields hcode
  change execPowerState m s = _
  simp [execPowerState, htake, hlen, hc, hz, hms, hwaking, ok]

/-- DURABLE of a fragment's PUT is settled by its outcome (R252 to R254). -/
theorem durable_run {s u : State} {m : SouthIn} {o : PutOwner} {f : Fragment} (htake : s.acceptSouth m 0x22 = (u, true)) (hlen : m.len = 40)
    (hz : beAt m.payload 4 4 = 0) (ho : u.putOwner m.shelf m.xid = o) (hf : u.ownedFrag o = some f) :
    exec (.durable m) s = .next (u.durableOutcome o f (beAt m.payload 2 2) (beAt m.payload 8 32)) := by
  have hgo : ¬ (m.len ≠ 40 ∨ beAt m.payload 4 4 ≠ 0) := by simp [hlen, hz]
  change execDurable m s = _
  simp only [execDurable, htake, if_neg hgo, ho]
  cases o with
  | ext e i => simp only [hf]; rfl
  | repair n i => simp only [hf]; rfl
  | copy key media => nomatch hf
  | stale body => nomatch hf
  | none => nomatch hf

/-- Settles O34, a command at a time. -/
theorem shelfCommandsComplete : Obligations.ShelfCommandsComplete := by
  unfold Obligations.ShelfCommandsComplete
  refine ⟨fun s u m a h => ⟨?announce, ?auth, ?keyUpdate, fun htake => ftReset_run htake, ?handshake, ?confirm, ?probe, ⟨_, rfl, rfl⟩, ?ackBad, ?ackAll, ?rto, ?credit⟩,
    fun s u m a => ⟨?on, ?waking, ?absent, ?report, ?durable, ?timeout, ?timeoutAgain, ?write, ?retry⟩⟩
  case announce =>
    intro sh v hop htake hgood hserves hshare
    obtain ⟨hzero, hopens⟩ := announce_run hop htake hgood hserves hshare
    cases hsh : sh.shared with
    | none => exact ⟨_, hzero hsh, rfl⟩
    | some p => exact ⟨_, hopens p.1 p.2 hsh, rfl⟩
  case auth =>
    intro segs v htake ha hsegs hv
    subst hsegs
    obtain ⟨hpartial, hwhole⟩ := ftAuth_run htake ha hv
    exact ⟨fun hmsg => ⟨_, hpartial hmsg, rfl⟩, fun msg hmsg => ⟨_, hwhole msg hmsg, rfl⟩⟩
  case keyUpdate =>
    intro htake ha hpayload hgen
    refine ⟨_, ftKeyUpdate_run htake ha hpayload hgen, State.updAssoc_upd.agreeBut (by decide), ?_⟩
    rw [assoc_updAssoc_self, ha, hgen]
    rfl
  case handshake =>
    intro ha
    refine ⟨(s.advanceTo (a.at' + 2 * second)).updSouth (fun q => { q with pendingAssoc := tdel q.pendingAssoc h }), ?_,
      (State.advanceTo_upd.seq State.updSouth_upd).agreeBut (by decide), tget_tdel_self _ _, now_advanceTo s _⟩
    change execFtHandshakeTimeout h s = _
    simp only [execFtHandshakeTimeout, ha, ok]
  case confirm =>
    intro rate p htake hpayload hrate ha hp
    subst hrate
    refine ⟨u.updAssoc m.shelf (fun a => { a with paths := tmod a.paths m.path (fun p => { p with confirmed := true, rate := m.word }) }), ?_,
      State.updAssoc_upd.agreeBut (by decide), ?_⟩
    · change execPathConfirm m s = _
      simp [execPathConfirm, htake, hpayload, ok]
    · rw [assoc_updAssoc_self, ha]
      exact ⟨_, rfl, by rw [tget_tmod_self, hp]; rfl⟩
  case probe =>
    intro p ha hp hfailed hacked
    refine ⟨s.updAssoc m.shelf (fun a => { a with paths := tput a.paths m.path { p with failed := false, expiries := 0, probeAcked := false } }), ?_,
      State.updAssoc_upd.agreeBut (by decide), ?_⟩
    · change execFtPathProbe m true s = _
      simp [execFtPathProbe, ha, hp, hfailed, hacked, ok]
    · rw [assoc_updAssoc_self, ha]
      exact ⟨_, rfl, tget_tput_self _ _ _⟩
  case ackBad =>
    intro htake ha hbad
    exact ⟨_, ftAck_bad htake ha hbad, State.updSouth_upd.agreeBut (by decide), rfl⟩
  case ackAll =>
    intro delay first gaps rs htake ha hpay hranges hall
    obtain ⟨paths, hrun⟩ := ftAck_all htake ha hpay hranges hall
    exact ⟨_, hrun, State.setAssoc_upd.agreeBut (by decide), _, assoc_setAssoc_self _ _ _, rfl⟩
  case rto =>
    intro seq f p ha hf hp hzero
    refine ⟨_, _, ftRtoExpiry_first ha hf hp hzero, by exact now_advanceTo s _, ?_, rfl⟩
    rw [assoc_updAssoc_self, assoc_congr (s.advanceTo_south _), ha]
    exact ⟨_, rfl, tget_tput_self _ _ _⟩
  case credit =>
    intro limit htake hpayload hlimit ha hle
    refine ⟨u.updAssoc m.shelf (fun a => { a with limit := max a.limit m.word }), ?_, State.updAssoc_upd.agreeBut (by decide), ?_⟩
    · change execFtCredit m s = _
      simp [execFtCredit, htake, hpayload, ok]
    · rw [assoc_updAssoc_self, ha, Option.map_some, ← hlimit, Nat.max_eq_right hle]
  case on =>
    intro htake ha hlen hcode hms hwaking
    refine ⟨_, _, powerState_on htake hlen hcode hms hwaking, State.updAssoc_upd.agreeBut (by decide), ?_, rfl⟩
    rw [assoc_updAssoc_self, ha]
    rfl
  case waking =>
    intro ms htake ha hlen hcode hms hwaking
    refine ⟨_, powerState_waking htake hlen hcode hms hwaking, State.updAssoc_upd.agreeBut (by decide), ?_⟩
    rw [assoc_updAssoc_self, ha]
    rfl
  case absent =>
    intro htake hlen hcode hms habsent
    obtain ⟨hc, hz⟩ := powerState_fields hcode
    refine ⟨_, ?_, rfl⟩
    change execPowerState m s = _
    simp [execPowerState, htake, hlen, hc, hz, hms, habsent, ok]
  case report =>
    intro es htake hes
    refine ⟨_, ?_, rfl⟩
    change execReport m s = _
    simp [execReport, htake, hes, ok]
  case durable =>
    intro o f htake hlen hz ho hf
    exact ⟨_, durable_run htake hlen hz ho hf, rfl⟩
  case timeout =>
    intro h xid f hf hzero
    refine ⟨_, ?_, rfl⟩
    change execDurableTimeout h xid s = _
    simp only [execDurableTimeout, hf, hzero, if_true, ok]
  case timeoutAgain =>
    intro h xid f hf hone
    refine ⟨_, _, ?_, rfl, rfl⟩
    have hnz : ¬ f.timeouts = 0 := by omega
    change execDurableTimeout h xid s = _
    simp only [execDurableTimeout, hf, if_neg hnz, ok]
  case write =>
    intro kind num c hc hsafe
    refine ⟨_, ?_, rfl⟩
    change execCatalogueWrite kind num false s = _
    simp [execCatalogueWrite, hc, hsafe, ok]
  case retry =>
    intro kind num c hc hsafe hwaiting
    refine ⟨_, ?_, rfl⟩
    change execCataloguePlaceRetry kind num s = _
    simp [execCataloguePlaceRetry, hc, hsafe, hwaiting, ok]

end Sys2Proof.Machine
end

section
/-!
PROOFS. The Saddlebag (chapter 08): the key bus, the random numbers and the commands of Table 8-11.
-/

namespace Sys2Proof.Machine

/-- What a slot of the key unit holds, after a register write and after it is filled. -/
theorem slot_congr {s t : State} (h : t.keys = s.keys) (i : Nat) : t.slot i = s.slot i := by
  unfold State.slot
  rw [h]

theorem slot_fillSlot_self (s : State) {i : Nat} (hi : i ≠ 0) (value attr : Nat) :
    (s.fillSlot i value attr).slot i = some { value := value % 2 ^ 256, attr := withBit (attr % 2 ^ 64) 0 } := by
  rw [State.slot, if_neg hi]
  exact tget_tput_self _ _ _

/-- A destination that is not refused is a slot. -/
theorem dst_ne_zero {s : State} (h : s.dstRefused = none) : s.dst ≠ 0 := by
  intro h0
  rw [State.dstRefused, if_pos h0] at h
  nomatch h

/-- A command of the key unit from Keeper world: its work on the state in which OP stands, then its error code (R320). -/
theorem sdbRun_keeper (s : State) (op : Nat) (f : State → State × Nat) {u : State} {e : Nat} (hf : f (s.wr Reg.SDB_CMD.OP op) = (u, e)) :
    s.sdbRun .keeper op f = .next (u.wr Reg.SDB_CMD.ERR e) := by
  unfold State.sdbRun
  rw [hf]
  rfl

/-- The three shares of the key bus make the value again (R292). -/
theorem shares_value (a b value : Nat) : a ^^^ b ^^^ (value ^^^ a ^^^ b) = value := by
  apply Nat.eq_of_testBit_eq
  intro i
  simp only [Nat.testBit_xor]
  cases a.testBit i <;> cases b.testBit i <;> cases value.testBit i <;> rfl

/-- DK_REQ that the slot's attributes allow (R282, R105). -/
theorem dkReq_grants {s : State} {unit ctx : Nat} {x : StitchCtx} {i : JobInfo} {k : KeySlot} (hx : tget s.stitch.ctxs (ctxKey unit ctx) = some x)
    (hpipes : x.pipes = none) (hctx : ctx < 3) (hsafe : s.safe = false) (hi : s.jobInfo x.job = some i) (hk : s.slot i.slot = some k)
    (hallowed : dkAllowed k i.obj i.epoch = true) {sh : Shares} {v w : State} {p : Pipe × Pipe} (hsh : s.busShares (dataKey k.value i.obj i.epoch) = (sh, v))
    (hp : (v.emit (.keyBus (.stitch unit)) 0x00 [i.slot, sh.a, sh.b, sh.c]).loadPipes unit sh = (p, w)) :
    exec (.dkReq unit ctx 0) s = .next (w.updStitch (fun t => { t with ctxs := tput t.ctxs (ctxKey unit ctx) { x with pipes := some p } })) := by
  have hgo : ¬ (x.pipes.isSome = true ∨ 3 ≤ ctx ∨ s.safe = true) := by simp [hpipes, hsafe, hctx]
  have hchecks : s.busChecks (.stitch unit) 0 = (s, true) := rfl
  change execDkReq unit ctx 0 s = _
  simp only [execDkReq, hx, if_neg hgo, hi, hchecks, hk, hallowed, if_true, hsh, hp, ok]

/-- DK_REQ on a slot that is empty, or whose attributes do not allow it (R282). -/
theorem dkReq_refuses {s : State} {unit ctx code : Nat} {x : StitchCtx} {i : JobInfo} (hx : tget s.stitch.ctxs (ctxKey unit ctx) = some x)
    (hpipes : x.pipes = none) (hctx : ctx < 3) (hsafe : s.safe = false) (hi : s.jobInfo x.job = some i)
    (hcode : s.slot i.slot = none ∧ code = 1 ∨ (∃ k, s.slot i.slot = some k ∧ dkAllowed k i.obj i.epoch = false) ∧ code = 2) :
    exec (.dkReq unit ctx 0) s = .next (((s.stuCode unit code).dropCtx unit ctx).jobUnkeyed x.job) := by
  have hgo : ¬ (x.pipes.isSome = true ∨ 3 ≤ ctx ∨ s.safe = true) := by simp [hpipes, hsafe, hctx]
  have hchecks : s.busChecks (.stitch unit) 0 = (s, true) := rfl
  change execDkReq unit ctx 0 s = _
  rcases hcode with ⟨hk, rfl⟩ | ⟨⟨k, hk, hallowed⟩, rfl⟩
  · simp only [execDkReq, hx, if_neg hgo, hi, hchecks, hk, ok]
  · simp only [execDkReq, hx, if_neg hgo, hi, hchecks, hk, hallowed, Bool.false_eq_true, if_false, ok]

/-- KEY_STORE out of the safe state: into an empty transient slot, or refused (R291). -/
theorem keyStore_run {s : State} (unit slot attr value : Nat) (hsafe : s.safe = false) :
    exec (.keyStore unit slot attr value 0) s = .next (if s.keyStoreOk slot = true then (s.fillSlot slot value attr).emit (.keyBus (.awl unit)) 0x00 [slot]
      else s.emit (.keyBus (.awl unit)) 2 [slot]) := by
  have hgo : ¬ (s.safe = true ∧ s.collector.mgmtAwl ≠ some unit) := by simp [hsafe]
  have hchecks : s.busChecks (.awl unit) 0 = (s, true) := rfl
  change execKeyStore unit slot attr value 0 s = _
  simp only [execKeyStore, if_neg hgo, hchecks]
  split <;> rfl

/-- KEY_LOAD out of the safe state (R282, R291). -/
theorem keyLoad_run {s : State} {awl : Bool} {unit slot : Nat} (u : UnitRef) (hu : u = if awl then .awl unit else .sponge unit) (hslot : slot < 65536)
    (hsafe : s.safe = false) :
    exec (.keyLoad awl unit slot 0) s = .next (match s.keyLoad u slot with | .ok v => s.sendShares u slot v | .error e => s.emit (.keyBus u) e [slot]) := by
  have hgo : ¬ ((!s.busServes u slot) = true ∨ 65536 ≤ slot) := by
    simp [State.busServes, hsafe, hslot]
  have hchecks : s.busChecks u 0 = (s, true) := rfl
  change execKeyLoad awl unit slot 0 s = _
  simp only [execKeyLoad, ← hu, if_neg hgo, hchecks]
  cases s.keyLoad u slot <;> rfl

/-- A namespace key that the map misses is loaded (R286, R287). -/
theorem epochMapMissLoad_run {s v : State} {ns epoch : Nat} (hmiss : s.resolveSlot ns epoch = none) (hkeyed : s.keyed = true)
    (hload : s.loadNamespace ns epoch = some v) :
    exec (.epochMapMissLoad ns epoch 0) s = .next v.pumpRestores := by
  have hgood : s.recordBad (min 0 2) = s := rfl
  change execEpochMapMissLoad ns epoch 0 s = _
  simp only [execEpochMapMissLoad, hmiss, hkeyed, hgood, hload]
  rfl

/-- The state in which the random generator has reseeded (R300). -/
theorem drbgReseed_run {s : State} (hok : s.drbgOk = true) :
    exec .drbgReseed s = .next (((if 65536 ≤ s.keys.drbgRequests then s else s.advanceTo (s.keys.drbgAt + second)).draw 256).2.updKeys (fun k => { k with
      drbgRequests := 0, drbgAt := (if 65536 ≤ s.keys.drbgRequests then s else s.advanceTo (s.keys.drbgAt + second)).now })) := by
  change execDrbgReseed s = _
  simp only [execDrbgReseed, hok]
  rfl

/-- GEN: a random key into DST (R320). -/
theorem gen_run {s v : State} {a : Nat} (hv : v = s.wr Reg.SDB_CMD.OP 0x01) (hdst : v.dstRefused = none) (ha : a = v.rd Reg.SDB_ATTR.ATTR)
    (hok : v.drbgOk = true) (hlegal : attrLegal a = true) :
    exec (.gen .keeper) s = .next ((((v.draw 256).2.fillSlot v.dst (v.draw 256).1 a).updKeys (fun k => { k with drbgRequests := 0, drbgAt := v.now })).wr
      Reg.SDB_CMD.ERR eOk) := by
  subst hv ha
  rw [show exec (.gen .keeper) s = execGen .keeper s from rfl, execGen]
  refine sdbRun_keeper s 0x01 _ ?_
  simp only [hdst, hok, hlegal]
  rfl

/-- DERIVE: a KMAC of the window into DST (R320). -/
theorem derive_run {s v : State} {a : Nat} {key : List Byte} (hv : v = s.wr Reg.SDB_CMD.OP 0x02) (hdst : v.dstRefused = none) (ha : a = v.rd Reg.SDB_ATTR.ATTR)
    (hkey : v.deriveKey = .ok key) (hlegal : attrLegal a = true) (hlen : v.rd Reg.SDB_LEN.LEN + v.rd Reg.SDB_LEN.SLEN ≤ 2048) :
    exec (.derive .keeper) s = .next ((v.fillSlot v.dst (kmac key (v.sdbWin 0 (v.rd Reg.SDB_LEN.LEN)) (v.sdbWin (v.rd Reg.SDB_LEN.LEN) (v.rd Reg.SDB_LEN.SLEN)))
      a).wr Reg.SDB_CMD.ERR eOk) := by
  subst hv ha
  rw [show exec (.derive .keeper) s = execDerive .keeper s from rfl, execDerive]
  refine sdbRun_keeper s 0x02 _ ?_
  have hgo : ¬ (2048 < (s.wr Reg.SDB_CMD.OP 0x02).rd Reg.SDB_LEN.LEN + (s.wr Reg.SDB_CMD.OP 0x02).rd Reg.SDB_LEN.SLEN ∨
      (!attrLegal ((s.wr Reg.SDB_CMD.OP 0x02).rd Reg.SDB_ATTR.ATTR)) = true) := by
    rw [hlegal]
    exact fun h => h.elim (Nat.not_lt.mpr hlen) (by decide)
  simp only [hdst, hkey, if_neg hgo]

/-- LOAD: a record that is whole, under a key that is there, into DST (R295, R320). -/
theorem loadRecord_run {s v : State} {r : KeyRecord} (hv : v = s.wr Reg.SDB_CMD.OP 0x04) (hdst : v.dstRefused = none)
    (hr : tget v.keys.store (ofLe (v.sdbWin 0 8)) = some r) (hkey : v.wrapKey r = some r.under) :
    exec (.load .keeper 0) s = .next ((v.fillSlot v.dst r.value r.attr).wr Reg.SDB_CMD.ERR eOk) := by
  subst hv
  rw [show exec (.load .keeper 0) s = execLoad .keeper 0 s from rfl, execLoad]
  refine sdbRun_keeper s 0x04 _ ?_
  simp only [hdst, hr, hkey, if_true]
  rfl

/-- OPEN_GCM: the window opened under SRC into DST (R320). -/
theorem openGcm_run {s v : State} {a key n : Nat} {pt : List Byte} (hv : v = s.wr Reg.SDB_CMD.OP 0x08) (hdst : v.dstRefused = none)
    (ha : a = v.rd Reg.SDB_ATTR.ATTR) (hkey : v.gcmKey = .ok key) (hlegal : attrLegal a = true) (hn : n = v.rd Reg.SDB_LEN.LEN) (hlow : 60 ≤ n) (hhigh : n ≤ 2048)
    (hopen : gcmOpen key (ofBe (v.sdbWin 0 12)) (v.sdbWin 12 (n - 60)) (v.sdbWin (n - 48) 32) (ofBe (v.sdbWin (n - 16) 16)) = some pt) :
    exec (.openGcm .keeper) s = .next ((v.fillSlot v.dst (ofBe pt) a).wr Reg.SDB_CMD.ERR eOk) := by
  subst hv
  rw [show exec (.openGcm .keeper) s = execOpenGcm .keeper s from rfl, execOpenGcm]
  refine sdbRun_keeper s 0x08 _ ?_
  have hgo : ¬ (n < 60 ∨ 2048 < n ∨ (!attrLegal a) = true) := by
    rw [hlegal]
    rintro (h | h | h)
    · omega
    · omega
    · nomatch h
  simp only [hdst, hkey, ← hn, ← ha, if_neg hgo, hopen]

/-- Settles O35, a command at a time. -/
theorem keyBusAndKeySlotCommandsComplete : Obligations.KeyBusAndKeySlotCommandsComplete := by
  unfold Obligations.KeyBusAndKeySlotCommandsComplete
  refine ⟨fun s unit ctx slot x i k => ⟨?granted, ?attr, ?empty, ?load, ?loadError, ?store, ?storeRefused, ⟨_, rfl, rfl⟩, ?map, ?macro1, ?macro2, ?source, ?reseed⟩,
    fun s v a hdst ha => ⟨?gen, ?derive, ?record, ?opened⟩⟩
  case granted =>
    intro hx hpipes hctx hsafe hi hk hallowed
    refine ⟨_, _, _, _, _, dkReq_grants hx hpipes hctx hsafe hi hk hallowed rfl rfl, rfl, shares_value _ _ _, rfl, State.updStitch_upd.agreeBut (by decide), rfl, rfl⟩
  case attr =>
    intro hx hpipes hctx hsafe hi hk hallowed
    exact ⟨_, dkReq_refuses hx hpipes hctx hsafe hi (Or.inr ⟨⟨k, hk, hallowed⟩, rfl⟩), rfl⟩
  case empty =>
    intro hx hpipes hctx hsafe hi hk
    exact ⟨_, dkReq_refuses hx hpipes hctx hsafe hi (Or.inl ⟨hk, rfl⟩), rfl⟩
  case load =>
    intro v hslot hsafe hv
    exact ⟨_, keyLoad_run (.awl unit) rfl hslot hsafe, by rw [hv]⟩
  case loadError =>
    intro e hslot hsafe he
    exact ⟨_, keyLoad_run (.sponge unit) rfl hslot hsafe, by rw [he]⟩
  case store =>
    intro attr value hsafe hok
    refine ⟨_, keyStore_run unit slot attr value hsafe, ?_⟩
    rw [if_pos hok]
    exact ⟨(State.fillSlot_upd.seq State.emit_upd).agreeBut (by decide), rfl, rfl⟩
  case storeRefused =>
    intro attr value hsafe hok
    refine ⟨_, keyStore_run unit slot attr value hsafe, ?_⟩
    rw [if_neg (by rw [hok]; decide)]
    exact ⟨State.emit_upd.agreeBut (by decide), rfl⟩
  case map =>
    intro ns epoch v hmiss hkeyed hload
    exact ⟨_, epochMapMissLoad_run hmiss hkeyed hload, rfl⟩
  case macro1 =>
    intro bank ram hnone
    refine ⟨s.updKeys (fun k => { k with lostMacros := tput k.lostMacros bank [ram] }), ?_, State.updKeys_upd.agreeBut (by decide), tget_tput_self _ _ _⟩
    change execSdbMacroLost bank ram s = _
    simp [execSdbMacroLost, tgetD, hnone, ok]
  case macro2 =>
    intro bank ram other hother hne
    refine ⟨_, s.updKeys (fun k => { k with lostMacros := tput k.lostMacros bank [ram, other] }), ?_, State.updKeys_upd.agreeBut (by decide), tget_tput_self _ _ _, rfl⟩
    change execSdbMacroLost bank ram s = _
    simp [execSdbMacroLost, tgetD, hother, hne, ok]
  case source =>
    intro source hsource hbit
    refine ⟨_, ?_, rfl⟩
    change execTrngSourceFail source true s = _
    simp [execTrngSourceFail, Nat.not_le.mpr hsource, hbit, ok]
  case reseed =>
    intro hok
    have hrun := drbgReseed_run hok
    have hdue : s.agreeBut [.keys, .draws, .now, .rtc, .kennel] (if 65536 ≤ s.keys.drbgRequests then s else s.advanceTo (s.keys.drbgAt + second)) := by
      split
      · exact ⟨rfl, fun p _ => by cases p <;> rfl⟩
      · exact State.advanceTo_upd.agreeBut (by decide)
    have hdraws : (if 65536 ≤ s.keys.drbgRequests then s else s.advanceTo (s.keys.drbgAt + second)).draws = s.draws := by
      split
      · rfl
      · exact State.advanceTo_draws _ _
    generalize (if 65536 ≤ s.keys.drbgRequests then s else s.advanceTo (s.keys.drbgAt + second)) = u at hrun hdue hdraws
    refine ⟨_, hrun, rfl, rfl, congrArg (· + 1) hdraws, ?_⟩
    exact agreeBut_trans hdue ((Upd.seq (Upd.snd State.draw_upd) State.updKeys_upd).agreeBut (by decide))
  case gen =>
    intro hv hok hlegal
    refine ⟨_, gen_run hv hdst ha hok hlegal, ?_, ?_, rd_wr_self _ _ _, ?_⟩
    · rw [hv]
      exact ((((State.wr_upd.seq (Upd.snd State.draw_upd)).seq State.fillSlot_upd).seq State.updKeys_upd).seq State.wr_upd).agreeBut (by decide)
    · exact slot_fillSlot_self _ (dst_ne_zero hdst) _ _
    · rw [hv]
      rfl
  case derive =>
    intro key hv hkey hlegal hlen
    refine ⟨_, derive_run hv hdst ha hkey hlegal hlen, ?_, rd_wr_self _ _ _, ?_⟩
    · rw [hv]
      exact ((State.wr_upd.seq State.fillSlot_upd).seq State.wr_upd).agreeBut (by decide)
    · exact slot_fillSlot_self _ (dst_ne_zero hdst) _ _
  case record =>
    intro r hv hr hkey
    refine ⟨_, loadRecord_run hv hdst hr hkey, ?_, rd_wr_self _ _ _, ?_⟩
    · rw [hv]
      exact ((State.wr_upd.seq State.fillSlot_upd).seq State.wr_upd).agreeBut (by decide)
    · exact slot_fillSlot_self _ (dst_ne_zero hdst) _ _
  case opened =>
    intro key n pt hv hkey hlegal hn hlow hhigh hopen
    refine ⟨_, openGcm_run hv hdst ha hkey hlegal hn hlow hhigh hopen, ?_, rd_wr_self _ _ _, ?_⟩
    · rw [hv]
      exact ((State.wr_upd.seq State.fillSlot_upd).seq State.wr_upd).agreeBut (by decide)
    · exact slot_fillSlot_self _ (dst_ne_zero hdst) _ _

end Sys2Proof.Machine
end

section
/-!
PROOFS. The Saddlebag's commands on records, vault keys and shares (Table 8-11).
-/

namespace Sys2Proof.Machine

/-- Filling slots leaves the destination's register as it is. -/
theorem dst_fillSlot (s : State) (i value attr : Nat) : (s.fillSlot i value attr).dst = s.dst := rfl

/-- Slots filled in turn from the destination: the destination is the one it was at the start. -/
theorem fillShares_eq (ps : List (Nat × List Byte)) (w : State) :
    ps.foldl (fun s p => s.fillSlot (s.dst + p.1) (ofBe p.2) (shareAttr (p.1 + 1))) w =
      ps.foldl (fun s p => s.fillSlot (w.dst + p.1) (ofBe p.2) (shareAttr (p.1 + 1))) w := by
  suffices h : ∀ (ps : List (Nat × List Byte)) (u : State) (d : Nat), u.dst = d →
      ps.foldl (fun s p => s.fillSlot (s.dst + p.1) (ofBe p.2) (shareAttr (p.1 + 1))) u =
        ps.foldl (fun s p => s.fillSlot (d + p.1) (ofBe p.2) (shareAttr (p.1 + 1))) u from h ps w w.dst rfl
  intro ps
  induction ps with
  | nil => exact fun _ _ _ => rfl
  | cons p ps ih =>
    rintro u d rfl
    exact ih _ _ (dst_fillSlot _ _ _ _)

/-- WRAP of the slot at DST (R320). -/
theorem wrap_run {s v : State} (hv : v = s.wr Reg.SDB_CMD.OP 0x03) :
    exec (.wrap .keeper true) s = .next ((v.wrap v.dst true).1.wr Reg.SDB_CMD.ERR (v.wrap v.dst true).2) := by
  subst hv
  rw [show exec (.wrap .keeper true) s = execWrap .keeper true s from rfl, execWrap]
  exact sdbRun_keeper s 0x03 _ rfl

/-- ZERO of a slot that holds a key (R320). -/
theorem zero_run {s v : State} {k : KeySlot} (hv : v = s.wr Reg.SDB_CMD.OP 0x05) (hk : v.slot v.dst = some k) :
    exec (.zero .keeper) s = .next ((v.clearSlots (fun i _ => i == v.dst)).wr Reg.SDB_CMD.ERR eOk) := by
  subst hv
  rw [show exec (.zero .keeper) s = execZero .keeper s from rfl, execZero]
  refine sdbRun_keeper s 0x05 _ ?_
  simp only [hk]
  rfl

/-- NS_CURRENT on a slot that holds a key (R320). -/
theorem nsCurrent_run {s v : State} {k : KeySlot} (hv : v = s.wr Reg.SDB_CMD.OP 0x14) (hk : v.slot v.dst = some k) :
    exec (.nsCurrent .keeper) s = .next ((v.makeCurrent v.dst k).1.wr Reg.SDB_CMD.ERR (v.makeCurrent v.dst k).2) := by
  subst hv
  rw [show exec (.nsCurrent .keeper) s = execNsCurrent .keeper s from rfl, execNsCurrent]
  refine sdbRun_keeper s 0x14 _ ?_
  simp only [hk]

/-- SET_ATTR on a slot that holds a key (R320). -/
theorem setAttr_run {s v : State} {k : KeySlot} (hv : v = s.wr Reg.SDB_CMD.OP 0x06) (hk : v.slot v.dst = some k) :
    exec (.setAttr .keeper) s = .next (if attrLocked k.attr ∨ !attrChange k.attr (withBit (v.rd Reg.SDB_ATTR.ATTR) 0) then v.wr Reg.SDB_CMD.ERR eAttr
      else (v.updKeys (fun t => { t with slots := tput t.slots v.dst { k with attr := withBit (v.rd Reg.SDB_ATTR.ATTR) 0 } })).wr Reg.SDB_CMD.ERR eOk) := by
  subst hv
  rw [show exec (.setAttr .keeper) s = execSetAttr .keeper s from rfl, execSetAttr]
  split
  case isTrue h =>
    refine sdbRun_keeper s 0x06 _ ?_
    simp only [hk, if_pos h]
  case isFalse h =>
    refine sdbRun_keeper s 0x06 _ ?_
    simp only [hk, if_neg h]

/-- SEAL_GCM of a slot's key under another's (R320). -/
theorem sealGcm_run {s v : State} {k : KeySlot} {key n tag : Nat} {ct : List Byte} (hv : v = s.wr Reg.SDB_CMD.OP 0x07) (hk : v.slot v.dst = some k)
    (hkey : v.gcmKey = .ok key) (hn : n = v.rd Reg.SDB_LEN.LEN) (hlow : 12 ≤ n) (hhigh : n ≤ 2000)
    (hseal : gcmSeal key (ofBe (v.sdbWin 0 12)) (v.sdbWin 12 (n - 12)) (beBytes 32 k.value) = (ct, tag)) :
    exec (.sealGcm .keeper) s = .next ((v.setSdbWin n (ct ++ beBytes 16 tag)).wr Reg.SDB_CMD.ERR eOk) := by
  subst hv
  rw [show exec (.sealGcm .keeper) s = execSealGcm .keeper s from rfl, execSealGcm]
  refine sdbRun_keeper s 0x07 _ ?_
  have hgo : ¬ (n < 12 ∨ 2000 < n) := by omega
  simp only [hk, hkey, ← hn, if_neg hgo, hseal]

/-- VK_GEN during an enrolment or a rotation: a new vault in the inactive bank (R320). -/
theorem vkGen_run {s v : State} (hv : v = s.wr Reg.SDB_CMD.OP 0x10) (hin : v.inCustody [.enroll, .vaultRotate] = true) (hok : v.drbgOk = true) :
    exec (.vkGen .keeper) s = .next ((v.newVault.updKeys (fun k => { k with rotating := k.rotating || v.inCustody [.vaultRotate] })).wr Reg.SDB_CMD.ERR eOk) := by
  subst hv
  rw [show exec (.vkGen .keeper) s = execVkGen .keeper s from rfl, execVkGen]
  refine sdbRun_keeper s 0x10 _ ?_
  simp only [hin, hok]
  rfl

/-- VK_GEN outside of both operations (R320). -/
theorem vkGen_refuses {s v : State} (hv : v = s.wr Reg.SDB_CMD.OP 0x10) (hin : v.inCustody [.enroll, .vaultRotate] = false) :
    exec (.vkGen .keeper) s = .next (v.wr Reg.SDB_CMD.ERR ePresence) := by
  subst hv
  rw [show exec (.vkGen .keeper) s = execVkGen .keeper s from rfl, execVkGen]
  refine sdbRun_keeper s 0x10 _ ?_
  simp only [hin]
  rfl

/-- VK_SPLIT of the vault's key into shares in slots from DST on (R310). -/
theorem vkSplit_run {s v w : State} {b : VaultBank} {t n : Nat} {shares : List (List Byte)} (hv : v = s.wr Reg.SDB_CMD.OP 0x11)
    (hin : v.inCustody [.escrowCreate, .vaultRotate] = true) (hb : v.sharedVault = some b) (ht : t = ofLe (v.sdbWin 0 1)) (hn : n = ofLe (v.sdbWin 1 1))
    (hargs : 2 ≤ t ∧ t ≤ n ∧ n ≤ 16) (hok : v.drbgOk = true) (hslots : (List.range n).all (fun i => v.keyStoreOk (v.dst + i)) = true)
    (hsplit : v.split b.key t n = (shares, w)) {x : State}
    (hx : x = ((List.range n).zip shares).foldl (fun s p => s.fillSlot (w.dst + p.1) (ofBe p.2) (shareAttr (p.1 + 1))) w) :
    exec (.vkSplit .keeper) s = .next ((x.updKeys (fun k => { k with custody := k.custody.map (fun c => { c with
      filled := c.filled ++ (List.range n).map (· + x.dst) }) })).wr Reg.SDB_CMD.ERR eOk) := by
  subst hv hx
  obtain ⟨hlow, hle, hhigh⟩ := hargs
  rw [show exec (.vkSplit .keeper) s = execVkSplit .keeper s from rfl, execVkSplit]
  refine sdbRun_keeper s 0x11 _ ?_
  have hgo : ¬ (t < 2 ∨ n < t ∨ 16 < n ∨ (!(s.wr Reg.SDB_CMD.OP 0x11).drbgOk) = true) := by
    rw [hok]
    rintro (h | h | h | h)
    · omega
    · omega
    · omega
    · nomatch h
  simp only [hin, hb, ← ht, ← hn, if_neg hgo, hslots, hsplit, fillShares_eq]
  rfl

/-- VK_COMBINE of the shares in the slots from SRC on (R314). -/
theorem vkCombine_run {s v : State} {e : EscrowSet} {ks : List KeySlot} (hv : v = s.wr Reg.SDB_CMD.OP 0x12) (hin : v.inCustody [.vaultRestore] = true)
    (he : v.custodySet = some e) (hks : (List.range e.t).map (fun i => v.slot (v.src + i)) = ks.map some) (hkind : ks.all (fun k => attrKind k.attr == 7) = true) :
    exec (.vkCombine .keeper) s = .next ((v.combineInto e (ks.map (fun k => (attrEpoch k.attr, beBytes 32 k.value)))).1.wr Reg.SDB_CMD.ERR
      (v.combineInto e (ks.map (fun k => (attrEpoch k.attr, beBytes 32 k.value)))).2) := by
  subst hv
  have hsome : (ks.map some).any Option.isNone = false := by simp
  have hvals : (ks.map some).filterMap id = ks := by simp
  have hkinds : ¬ ks.any (fun k => attrKind k.attr != 7) = true := by
    simpa using hkind
  rw [show exec (.vkCombine .keeper) s = execVkCombine .keeper s from rfl, execVkCombine]
  refine sdbRun_keeper s 0x12 _ ?_
  simp only [hin, he, hks, hsome, hvals, if_neg hkinds]
  rfl

/-- VK_COMMIT of a rotation whose set holds the inactive bank's generation and whose records are rewrapped (R316). -/
theorem vkCommit_run {s v : State} {b : VaultBank} {e : EscrowSet} (hv : v = s.wr Reg.SDB_CMD.OP 0x13) (hin : v.inCustody [.vaultRotate] = true)
    (hb : v.inactiveBank = some b) (he : v.keys.pendingSet = some e) (hgen : e.gen = b.gen) (hre : v.rewrapped b = true) :
    exec (.vkCommit .keeper) s = .next ((v.commitRotation b).wr Reg.SDB_CMD.ERR eOk) := by
  subst hv
  rw [show exec (.vkCommit .keeper) s = execVkCommit .keeper s from rfl, execVkCommit]
  refine sdbRun_keeper s 0x13 _ ?_
  simp only [hin, hb, he, hgen, hre]
  rfl

/-- Settles O36, a command at a time. -/
theorem keyAndCustodyUnitCommandsComplete : Obligations.KeyAndCustodyUnitCommandsComplete := by
  unfold Obligations.KeyAndCustodyUnitCommandsComplete
  refine fun s v k => ⟨?wrap, ?zero, ?attr, ?locked, ?sealed, ?vkGen, ?vkGenRefused, ?vkSplit, ?vkCombine, ?vkCommit, ?nsCurrent⟩
  case wrap =>
    exact fun hv => ⟨_, wrap_run hv, rfl⟩
  case zero =>
    exact fun hv hk => ⟨_, zero_run hv hk, rfl⟩
  case attr =>
    intro hv hk hlocked hchange
    refine ⟨_, setAttr_run hv hk, ?_⟩
    rw [if_neg (by simp [hlocked, hchange]), hv]
    refine ⟨((State.wr_upd.seq State.updKeys_upd).seq State.wr_upd).agreeBut (by decide), ?_, rd_wr_self _ _ _⟩
    have hne : v.dst ≠ 0 := by
      intro h0
      rw [State.slot, if_pos h0] at hk
      nomatch hk
    subst hv
    rw [State.slot, if_neg hne]
    exact tget_tput_self _ _ _
  case locked =>
    intro hv hk hlocked
    refine ⟨_, setAttr_run hv hk, ?_⟩
    rw [if_pos (Or.inl hlocked), hv]
    exact ⟨(State.wr_upd.seq State.wr_upd).agreeBut (by decide), rd_wr_self _ _ _⟩
  case sealed =>
    intro key n ct tag hv hk hkey hn hlow hhigh hseal
    exact ⟨_, sealGcm_run hv hk hkey hn hlow hhigh hseal, rfl⟩
  case vkGen =>
    intro hv hin hok
    exact ⟨_, _, vkGen_run hv hin hok, State.updKeys_upd.agreeBut (by decide), rfl, rfl⟩
  case vkGenRefused =>
    intro hv hin
    refine ⟨_, vkGen_refuses hv hin, ?_, rd_wr_self _ _ _⟩
    rw [hv]
    exact (State.wr_upd.seq State.wr_upd).agreeBut (by decide)
  case vkSplit =>
    intro w b t n shares hv hin hb ht hn hlow hle hhigh hok hslots hsplit
    exact ⟨_, _, vkSplit_run hv hin hb ht hn ⟨hlow, hle, hhigh⟩ hok hslots hsplit rfl, rfl, (State.updKeys_upd.seq State.wr_upd).agreeBut (by decide), rfl,
      rd_wr_self _ _ _⟩
  case vkCombine =>
    intro e ks hv hin he hks hkind
    exact ⟨_, vkCombine_run hv hin he hks hkind, rfl⟩
  case vkCommit =>
    intro b e hv hin hb he hgen hre
    exact ⟨_, vkCommit_run hv hin hb he hgen hre, rfl⟩
  case nsCurrent =>
    exact fun hv hk => ⟨_, nsCurrent_run hv hk, rfl⟩

end Sys2Proof.Machine
end

section
/-!
PROOFS. The Awl units' computations (chapter 09).
-/

namespace Sys2Proof.Machine

/-- A list of updates that write a unit's operand memory writes nothing else. -/
theorem foldl_operand {α : Type} (g : α → Table OpWord → Table OpWord) (xs : List α) (s : State) :
    ∃ o, xs.foldl (fun s i => s.updAwl (fun a => { a with operand := g i a.operand })) s = s.updAwl (fun a => { a with operand := o }) := by
  induction xs generalizing s with
  | nil => exact ⟨s.awl.operand, rfl⟩
  | cons x xs ih =>
    obtain ⟨o, ho⟩ := ih (s.updAwl (fun a => { a with operand := g x a.operand }))
    exact ⟨o, ho⟩

/-- Laying an operand writes the operand memory alone. -/
theorem layOperand_eq (s : State) (u w : Nat) (bs : List Byte) : ∃ o, s.layOperand u w bs = s.updAwl (fun a => { a with operand := o }) := by
  rw [State.layOperand]
  refine Exists.imp (fun o h => ?_) (foldl_operand (fun i t => if leField bs (8 * i) 8 = 0 then tdel t (u * opWords + w + i)
    else tput t (u * opWords + w + i) (OpWord.ofData (leField bs (8 * i) 8))) (List.range (min (ceilDiv bs.length 8) (opWords - w))) s)
  exact h

/-- The runs of the units after an operand is laid. -/
theorem runs_layOperand (s : State) (u w : Nat) (bs : List Byte) : (s.layOperand u w bs).awl.runs = s.awl.runs := by
  obtain ⟨o, ho⟩ := layOperand_eq s u w bs
  rw [ho]
  rfl

/-- What a running job is. -/
theorem awlJob_eq_some {s : State} {u op : Nat} {j : AwlJob} (h : s.awlJob u op = some j) :
    tget s.awl.runs u = some (.job j .running) ∧ j.desc.opcode = op := by
  unfold State.awlJob at h
  split at h
  case h_1 hrun =>
    split at h
    case isTrue hop =>
      cases h
      exact ⟨hrun, hop⟩
    case isFalse => nomatch h
  case h_2 => nomatch h

/-- A table's value modified where there is one. -/
theorem tmod_of_tget {α : Type} {t : Table α} {k : Nat} {v : α} (h : tget t k = some v) (f : α → α) : tmod t k f = tput t k (f v) := by
  unfold tmod
  rw [h]

/-- The stage of a unit's job is set. -/
theorem setStage_eq {s : State} {u : Nat} {j : AwlJob} {stage : AwlStage} (h : tget s.awl.runs u = some (.job j stage)) (st : AwlStage) :
    s.setStage u st = s.updAwl (fun a => { a with runs := tput s.awl.runs u (.job j st) }) := by
  rw [State.setStage]
  exact congrArg (fun r => s.updAwl (fun a => { a with runs := r })) (tmod_of_tget h _)

/-- A result that ends a running job (Table 9-4). -/
theorem awlEnds_finishes {s : State} {u : Nat} {j : AwlJob} {stage : AwlStage} (h : tget s.awl.runs u = some (.job j stage)) {signs : Bool} {r : AwlResult}
    (hsigns : signs = false ∨ r.status ≠ awDone) : s.awlFinishes (s.awlEnds u signs r) u j r := by
  have hgo : ¬ (signs = true ∧ r.status = awDone) := by
    rintro ⟨h1, h2⟩
    exact hsigns.elim (fun h => nomatch h1.symm.trans h) (fun h => h h2)
  unfold State.awlFinishes State.awlEnds
  simp only [if_neg hgo]
  split
  · obtain ⟨o, ho⟩ := layOperand_eq s u opResult (r.out.take 4096)
    rw [ho, setStage_eq (s := s.updAwl (fun a => { a with operand := o })) h]
    exact ⟨(State.updAwl_upd.seq State.updAwl_upd).agreeBut (by decide), rfl⟩
  · rw [setStage_eq (s := s.clearOperand u) h]
    exact ⟨(State.clearOperand_upd.seq State.updAwl_upd).agreeBut (by decide), rfl⟩

/-- A computation of a unit with a job ends with its result. -/
theorem awlRun_finishes {s : State} {u op : Nat} {j : AwlJob} (h : s.awlJob u op = some j) (f : AwlJob → AwlResult) :
    s.awlFinishes (s.awlRun u op f) u j (f j) := by
  unfold State.awlRun
  simp only [h]
  exact awlEnds_finishes (awlJob_eq_some h).1 (Or.inl rfl)

/-- A computation whose checks hold answers its bytes. -/
theorem awlRun_outputs {s : State} {u op cycles : Nat} {j : AwlJob} (h : s.awlJob u op = some j) {f : AwlJob → AwlResult} {out : List Byte}
    (hf : f j = checked cycles [] (outResult out)) : s.awlOutputs (s.awlRun u op f) u j out :=
  ⟨f j, awlRun_finishes h f, by rw [hf]; rfl, by rw [hf]; rfl, by rw [hf]; rfl, by rw [hf]; rfl⟩

/-- A computation with random bytes ends with its result. -/
theorem awlRandom_finishes {s v : State} {u op x : Nat} {j : AwlJob} (hx : s.draw 256 = (x, v)) (h : s.awlJob u op = some j) (f : AwlJob → Nat → AwlResult) :
    (v.layOperand u opSecret (beBytes 32 (x % 2 ^ 256))).awlFinishes (s.awlRandom u op f) u j (f j (x % 2 ^ 256)) := by
  unfold State.awlRandom
  simp only [h, hx]
  obtain ⟨hrun, -⟩ := awlJob_eq_some h
  refine awlEnds_finishes (stage := .running) ?_ (Or.inl rfl)
  rw [runs_layOperand, ← hrun]
  have hv : v = (s.draw 256).2 := by rw [hx]
  rw [hv]
  rfl

/-- No check that fails: the reasons are none. -/
theorem failing_eq_nil {checks : List (Bool × Nat)} (h : ∀ c ∈ checks, c.1 = true) : failing checks = [] := by
  unfold failing
  rw [List.filter_eq_nil_iff.mpr (fun c hc => by rw [h c hc]; decide), List.map_nil]

/-- A modular operation on operands in range. -/
theorem modOp_ok {j : AwlJob} {n p a b cycles : Nat} {both : Bool} {f : Nat → Nat → Nat → Nat} (hn : n = j.desc.nwords) (hp : p = leOperand j.input (8 * n) 0)
    (ha : a = leOperand j.input (8 * n) 1) (hb : b = leOperand j.input (8 * n) 2) (hmod : modulusOk n p = true) (hlt : a < p) (hboth : both = true → b < p) :
    modOp j cycles both f = checked cycles [] (outResult (leBytes (8 * n) (f p a b))) := by
  unfold modOp
  simp only [← hn, ← hp, ← ha, ← hb]
  rw [failing_eq_nil]
  simp only [List.mem_cons, List.not_mem_nil, or_false]
  rintro c (rfl | rfl)
  · exact hmod
  · cases both with
    | false => simp [hlt]
    | true => simp [hlt, hboth rfl]

/-- A polynomial operation on coefficients in range. -/
theorem polyOp_ok {j : AwlJob} {count cycles : Nat} {f : List (List Nat) → List Nat} {ps : List (List Nat)} (hps : (List.range count).map (polyAt j.input) = ps)
    (hall : ps.all (fun p => p.all (fun c => decide (c < ringQ j.desc.param))) = true) :
    polyOp j count cycles f = checked cycles [] (outResult (polyBytes (f ps))) := by
  unfold polyOp
  simp only [hps]
  rw [failing_eq_nil]
  simp only [List.mem_cons, List.not_mem_nil, or_false]
  rintro c rfl
  exact hall

/-- A unit with a job of its own is no checker of another's signature. -/
theorem awlVerifies_of_running {s : State} {u op op' : Nat} {j : AwlJob} (h : s.awlJob u op = some j) (f : AwlJob → List Byte → Bool) :
    s.awlVerifies u op' f = none := by
  unfold State.awlVerifies
  rw [(awlJob_eq_some h).1]

theorem ecdsaVerify_run {s : State} {u : Nat} {j : AwlJob} (h : s.awlJob u 0x23 = some j) :
    exec (.ecdsaVerify u) s = .next (s.awlRun u 0x23 ecdsaVerifyOp) := by
  change execEcdsaVerify u s = _
  rw [execEcdsaVerify, awlVerifies_of_running h]
  rfl

theorem mldsaVerify_run {s : State} {u : Nat} {j : AwlJob} (h : s.awlJob u 0x3A = some j) :
    exec (.mldsaVerify u) s = .next (s.awlRun u 0x3A mldsaVerifyOp) := by
  change execMldsaVerify u s = _
  rw [execMldsaVerify, awlVerifies_of_running h]
  rfl

/-- The modular inverse of an operand that has one. -/
theorem modInvOp_ok {j : AwlJob} {n p a : Nat} (hn : n = j.desc.nwords) (hp : p = leOperand j.input (8 * n) 0) (ha : a = leOperand j.input (8 * n) 1)
    (hmod : modulusOk n p = true) (hlt : a < p) (hne : a ≠ 0) (hgcd : Nat.gcd a p = 1) :
    modInvOp j = checked (128 * n * (n + 8) + 400) [] (outResult (leBytes (8 * n) ((invMod p a).getD 0))) := by
  unfold modInvOp
  simp only [← hn, ← hp, ← ha]
  rw [failing_eq_nil]
  simp only [List.mem_cons, List.not_mem_nil, or_false]
  rintro c (rfl | rfl | rfl | rfl)
  · exact hmod
  · simp [hlt]
  · simp [hne]
  · simp [hgcd]

/-- The reduction of a value in range. -/
theorem modRedOp_ok {j : AwlJob} {n p : Nat} (hn : n = j.desc.nwords) (hp : p = leOperand j.input (8 * n) 0) (hmod : modulusOk n p = true)
    (hlt : leField j.input (8 * n) (16 * n) < p * 2 ^ (64 * n)) :
    modRedOp j = checked (ceilDiv (n * n) 2 + n + 20) [] (outResult (leBytes (8 * n) (leField j.input (8 * n) (16 * n) % p))) := by
  unfold modRedOp
  simp only [← hn, ← hp]
  rw [failing_eq_nil]
  simp only [List.mem_cons, List.not_mem_nil, or_false]
  rintro c (rfl | rfl)
  · exact hmod
  · simp only [decide_eq_true hlt]

/-- A modular operation whose modulus is not good answers nothing (R327). -/
theorem modOp_bad {j : AwlJob} {n p cycles : Nat} {both : Bool} {f : Nat → Nat → Nat → Nat} (hn : n = j.desc.nwords) (hp : p = leOperand j.input (8 * n) 0)
    (hmod : modulusOk n p = false) : (modOp j cycles both f).status = awInvalid ∧ (modOp j cycles both f).out = [] := by
  unfold modOp
  simp only [← hn, ← hp, hmod]
  exact ⟨rfl, rfl⟩

/-- Settles O37, a computation at a time. -/
theorem arithmeticAwlCommandsComplete : Obligations.ArithmeticAwlCommandsComplete := by
  unfold Obligations.ArithmeticAwlCommandsComplete
  refine ⟨fun s u n p a b j hn hp ha hb => ⟨?add, ?sub, ?mul, ?exp, ?inv, ?red, ?long, ?bad⟩,
    fun s u j p q r hp hq hr => ⟨?ntt, ?intt, ?mac, ?ec, ?ecdsa, ?ed, ?mldsa, ?x25519, ?keygen, ?encaps⟩⟩
  case add =>
    refine fun h hmod hlt hlt' => ⟨_, rfl, ?_⟩
    exact awlRun_outputs h (modOp_ok hn hp ha hb hmod hlt (fun _ => hlt'))
  case sub =>
    refine fun h hmod hlt hlt' => ⟨_, rfl, ?_⟩
    exact awlRun_outputs h (modOp_ok hn hp ha hb hmod hlt (fun _ => hlt'))
  case mul =>
    refine fun h hmod hlt hlt' => ⟨_, rfl, ?_⟩
    exact awlRun_outputs h (modOp_ok hn hp ha hb hmod hlt (fun _ => hlt'))
  case exp =>
    refine fun h hmod hlt => ⟨_, rfl, ?_⟩
    exact awlRun_outputs h (modOp_ok hn hp ha hb hmod hlt (fun hf => nomatch hf))
  case inv =>
    refine fun h hmod hlt hne hgcd => ⟨_, rfl, ?_⟩
    exact awlRun_outputs h (modInvOp_ok hn hp ha hmod hlt hne hgcd)
  case red =>
    refine fun h hmod hlt => ⟨_, rfl, ?_⟩
    exact awlRun_outputs h (modRedOp_ok hn hp hmod hlt)
  case long =>
    intro h
    subst hn hp ha
    refine ⟨_, rfl, ?_⟩
    exact awlRun_outputs h rfl
  case bad => exact fun h hmod => ⟨_, _, rfl, awlRun_finishes h _, modOp_bad hn hp hmod⟩
  case ntt =>
    intro h hall
    subst hp
    refine ⟨_, rfl, ?_⟩
    exact awlRun_outputs h (polyOp_ok (count := 1) (cycles := 288) (f := fun ps => nttOf j.desc.param (ps.getD 0 []))
      (ps := [polyAt j.input 0]) rfl (by simpa using hall))
  case intt =>
    intro h hall
    subst hp
    refine ⟨_, rfl, ?_⟩
    exact awlRun_outputs h (polyOp_ok (count := 1) (cycles := 320) (f := fun ps => inttOf j.desc.param (ps.getD 0 []))
      (ps := [polyAt j.input 0]) rfl (by simpa using hall))
  case mac =>
    intro h hall
    subst hp hq hr
    refine ⟨_, rfl, ?_⟩
    exact awlRun_outputs h (polyOp_ok (count := 3) (cycles := 80) (f := fun ps => polyMac j.desc.param (ps.getD 0 []) (ps.getD 1 []) (ps.getD 2 []))
      (ps := [polyAt j.input 0, polyAt j.input 1, polyAt j.input 2]) rfl hall)
  case ec =>
    refine fun h => ⟨_, rfl, ?_⟩
    exact awlRun_finishes h ecMulOp
  case ecdsa => exact fun h => ⟨_, ecdsaVerify_run h, awlRun_finishes h ecdsaVerifyOp⟩
  case ed =>
    refine fun h => ⟨_, rfl, ?_⟩
    exact awlRun_finishes h ed25519VerifyOp
  case mldsa => exact fun h => ⟨_, mldsaVerify_run h, awlRun_finishes h mldsaVerifyOp⟩
  case x25519 =>
    refine fun v x hx h => ⟨_, rfl, ?_⟩
    exact awlRandom_finishes hx h (fun _ r => x25519GenOp r)
  case keygen =>
    refine fun v x hx h => ⟨_, rfl, ?_⟩
    exact awlRandom_finishes hx h (fun _ r => mlkemKeygenOp r)
  case encaps =>
    refine fun v x hx h => ⟨_, rfl, ?_⟩
    exact awlRandom_finishes hx h mlkemEncapsOp

end Sys2Proof.Machine
end

section
/-!
PROOFS. The Awl units' computations with a secret key (chapter 09).
-/

namespace Sys2Proof.Machine

/-- A state in which a secret key is laid for a unit's job holds the same runs. -/
theorem runs_layKey (s : State) (u : Nat) (key scalar : List Byte) : ((s.layOperand u opSecret key).layOperand u 512 scalar).awl.runs = s.awl.runs :=
  (runs_layOperand _ _ _ _).trans (runs_layOperand _ _ _ _)

/-- The scalar that a keyed operation lays beside its key (R328). -/
def keyedScalar (opcode : Nat) (j : AwlJob) (seed : Nat) : List Byte :=
  if j.desc.opcode = 0x21 ∨ j.desc.opcode = 0x22 then leBytes (coord j.desc.param) (ecdsaScalar j.desc.param seed)
  else if opcode = 0x26 then beBytes 32 (seed % 2 ^ 256) else []

/-- The state in which a keyed operation has laid its key and scalar. -/
def State.layKeyed (s : State) (u opcode : Nat) (j : AwlJob) (seed : Nat) : State :=
  (s.layOperand u opSecret (beBytes 32 (seed % 2 ^ 256))).layOperand u 512 (keyedScalar opcode j seed)

/-- A keyed operation on a key that may be used so. -/
theorem awlKeyed_eq {s : State} {u op seed : Nat} {j : AwlJob} (h : s.awlJob u op = some j) (hseed : s.awlSecret u j.desc = .ok seed)
    (f : AwlJob → Nat → Nat → AwlResult) :
    s.awlKeyed u op false f = (let r := f j seed (0 % 2 ^ 256)
      if r.status = awSignFail then ((s.layKeyed u op j seed).awlEnds u false r).raise (srcAwl u 6) u else (s.layKeyed u op j seed).awlEnds u false r) := by
  unfold State.awlKeyed
  simp only [h, hseed]
  rfl

theorem awlKeyed_sign_eq {s v : State} {u op seed x : Nat} {j : AwlJob} (h : s.awlJob u op = some j) (hseed : s.awlSecret u j.desc = .ok seed)
    (hx : s.draw 256 = (x, v)) (f : AwlJob → Nat → Nat → AwlResult) {r : AwlResult} (hr : r = f j seed (x % 2 ^ 256)) :
    s.awlKeyed u op true f = if r.status = awSignFail then ((v.layKeyed u op j seed).awlEnds u true r).raise (srcAwl u 6) u
      else (v.layKeyed u op j seed).awlEnds u true r := by
  subst hr
  unfold State.awlKeyed
  simp only [h, hseed, if_true, hx]
  rfl

/-- A keyed operation that does not sign ends with its result. -/
theorem awlKeyed_finishes {s : State} {u op seed : Nat} {j : AwlJob} (h : s.awlJob u op = some j) (hseed : s.awlSecret u j.desc = .ok seed)
    {f : AwlJob → Nat → Nat → AwlResult} {r : AwlResult} (hr : f j seed (0 % 2 ^ 256) = r) (hstatus : r.status ≠ awSignFail) :
    (s.layKeyed u op j seed).awlFinishes (s.awlKeyed u op false f) u j r := by
  rw [awlKeyed_eq h hseed, hr]
  simp only [if_neg hstatus]
  refine awlEnds_finishes (stage := .running) ?_ (Or.inl rfl)
  rw [State.layKeyed, runs_layKey]
  exact (awlJob_eq_some h).1

/-- A computation that checks its operands never answers SIGN_FAIL. -/
theorem checked_ne_signFail {cycles : Nat} {fs : List Nat} {r : AwlResult} (h : r.status = awDone) : (checked cycles fs r).status ≠ awSignFail := by
  unfold checked
  split
  · change r.status ≠ awSignFail
    rw [h]
    decide
  · exact (by decide : awInvalid ≠ awSignFail)

/-- What a signature of a unit comes to: checked by another unit, failed, or refused with its reason (R333, R336). -/
theorem awlKeyed_signs {s v : State} {u op seed x : Nat} {j : AwlJob} (h : s.awlJob u op = some j) (hseed : s.awlSecret u j.desc = .ok seed)
    (hx : s.draw 256 = (x, v)) {f : AwlJob → Nat → Nat → AwlResult} {r : AwlResult} (hr : r = f j seed (x % 2 ^ 256)) :
    (r.status = awDone → ∃ w : State, v.agreeBut [.awl] w ∧ tget w.awl.runs u = some (.job j (.signed r)) ∧ s.awlKeyed u op true f = w.placeVerify u) ∧
    (r.status = awSignFail → ∃ w : State, (v.layKeyed u op j seed).awlFinishes w u j r ∧ s.awlKeyed u op true f = w.raise (srcAwl u 6) u) ∧
    (r.status ≠ awDone → r.status ≠ awSignFail → (v.layKeyed u op j seed).awlFinishes (s.awlKeyed u op true f) u j r) := by
  have hv : v = (s.draw 256).2 := by rw [hx]
  have hruns : tget v.awl.runs u = some (.job j .running) := by
    rw [hv]
    exact (awlJob_eq_some h).1
  have hkeyed : tget (v.layKeyed u op j seed).awl.runs u = some (.job j .running) := by
    rw [State.layKeyed, runs_layKey]
    exact hruns
  rw [awlKeyed_sign_eq h hseed hx f hr]
  refine ⟨fun hdone => ?_, fun hfail => ?_, fun hdone hfail => ?_⟩
  · have hne : ¬ r.status = awSignFail := by
      rw [hdone]
      decide
    rw [if_neg hne]
    have hlaid := (runs_layOperand (v.layKeyed u op j seed) u opResult (r.out.take 4096)).symm ▸ hkeyed
    refine ⟨((v.layKeyed u op j seed).layOperand u opResult (r.out.take 4096)).setStage u (.signed r), ?_, ?_, ?_⟩
    · exact (((State.layOperand_upd.seq State.layOperand_upd).seq State.layOperand_upd).seq State.setStage_upd).agreeBut (by decide)
    · rw [setStage_eq hlaid]
      exact tget_tput_self _ _ _
    · unfold State.awlEnds
      simp only [hdone]
      rfl
  · rw [if_pos hfail]
    refine ⟨_, awlEnds_finishes hkeyed (Or.inr ?_), rfl⟩
    rw [hfail]
    decide
  · rw [if_neg hfail]
    exact awlEnds_finishes hkeyed (Or.inr hdone)

/-- Settles O38, a computation at a time. -/
theorem privateKeyAwlCommandsComplete : Obligations.PrivateKeyAwlCommandsComplete := by
  unfold Obligations.PrivateKeyAwlCommandsComplete
  intro s u seed j laid hseed hlaid
  have hkeyed : ∀ (v : State) (op : Nat) (scalar : List Byte), keyedScalar op j seed = scalar → v.layKeyed u op j seed = laid v scalar := by
    rintro v op scalar rfl
    rw [hlaid]
    rfl
  refine ⟨?ecPub, ?x25519, ?decaps, ?mldsaPub, ?ecdsa, ?mldsa⟩
  case ecPub =>
    intro h
    have hscalar : keyedScalar 0x21 j seed = leBytes (coord j.desc.param) (ecdsaScalar j.desc.param seed) := if_pos (Or.inl (awlJob_eq_some h).2)
    rw [← hkeyed s 0x21 _ hscalar]
    exact ⟨_, rfl, _, awlKeyed_finishes h hseed rfl (checked_ne_signFail rfl), rfl, rfl, rfl, rfl⟩
  case x25519 =>
    intro h
    have hscalar : keyedScalar 0x26 j seed = beBytes 32 (seed % 2 ^ 256) := by
      rw [keyedScalar, (awlJob_eq_some h).2]
      rfl
    rw [← hkeyed s 0x26 _ hscalar]
    refine ⟨_, rfl, ?_⟩
    exact awlKeyed_finishes (f := fun j k _ => x25519Op j k) h hseed rfl (checked_ne_signFail rfl)
  case decaps =>
    intro h
    have hscalar : keyedScalar 0x32 j seed = [] := by
      rw [keyedScalar, (awlJob_eq_some h).2]
      rfl
    rw [← hkeyed s 0x32 _ hscalar]
    refine ⟨_, rfl, ?_⟩
    exact awlKeyed_finishes (f := fun j k _ => mlkemDecapsOp j k) h hseed rfl (checked_ne_signFail rfl)
  case mldsaPub =>
    intro h
    have hscalar : keyedScalar 0x38 j seed = [] := by
      rw [keyedScalar, (awlJob_eq_some h).2]
      rfl
    rw [← hkeyed s 0x38 _ hscalar]
    refine ⟨_, rfl, ?_⟩
    exact awlKeyed_finishes (f := fun j k _ => mldsaPubOp j k) h hseed rfl (checked_ne_signFail rfl)
  case ecdsa =>
    intro v x r hx h hr
    have hscalar : keyedScalar 0x22 j seed = leBytes (coord j.desc.param) (ecdsaScalar j.desc.param seed) := if_pos (Or.inr (awlJob_eq_some h).2)
    rw [← hkeyed v 0x22 _ hscalar]
    exact ⟨_, rfl, awlKeyed_signs h hseed hx hr⟩
  case mldsa =>
    intro v x r hx h hr
    have hscalar : keyedScalar 0x39 j seed = [] := by
      rw [keyedScalar, (awlJob_eq_some h).2]
      rfl
    rw [← hkeyed v 0x39 _ hscalar]
    exact ⟨_, rfl, awlKeyed_signs h hseed hx hr⟩

end Sys2Proof.Machine
end

section
/-!
PROOFS. The Awl dispatcher and the supervision of its units (chapter 09).
-/

namespace Sys2Proof.Machine

theorem awlState_key_ne_qunit (u : Nat) : (Reg.AWL_UNIT.STATE.nth u).key ≠ Reg.AWL_CTRL.QUNIT.key := by
  simp [Field.key, Field.nth, Reg.AWL_UNIT.STATE, Reg.AWL_CTRL.QUNIT]
  omega

/-- A unit's state after it is written. -/
theorem awlState_setAwl_self (s : State) (u st : Nat) : (s.setAwl u st).awlState u = st % 2 ^ (Reg.AWL_UNIT.STATE.nth u).width :=
  rd_wr_self _ _ _

/-- A write of the quarantined unit's number leaves the units' states. -/
theorem awlState_wr_qunit (s : State) (v u : Nat) : (s.wr Reg.AWL_CTRL.QUNIT v).awlState u = s.awlState u :=
  rd_wr_ne s v (awlState_key_ne_qunit u)

theorem width_awlState (u : Nat) : (Reg.AWL_UNIT.STATE.nth u).width = Reg.AWL_UNIT.STATE.width := by
  unfold Field.nth
  split <;> rfl

/-- The dispatcher with no run in any unit starts the next job or fetches a descriptor (R321). -/
theorem awlDispatch_of_noRuns {s t : State} {b : Bool} (h : s.awl.runs = []) (hnext : s.startNext = (t, b)) :
    exec .awlDispatch s = .next (if b then t else t.fetchDesc) := by
  change execAwlDispatch s = _
  unfold execAwlDispatch
  simp only [h, hnext, tget, List.find?_eq_none.mpr (show ∀ u ∈ awlUnits, ¬ (false = true) from fun _ _ => by decide)]
  cases b <;> rfl

/-- The one job fetched starts in the first unit that may take it (R321). -/
theorem startNext_starts {s : State} {j : AwlJob} {u : Nat} (hfetched : s.awl.fetched = [j]) (hfence : bitOf j.desc.flags 1 = false) (hfailed : j.failed = [])
    (hu : awlUnits.find? (fun u => s.awlCandidate u) = some u) (hhealthy : s.awlHealthy u = true) : s.startNext = (s.startJob j u, true) := by
  have hany : awlUnits.any (fun u => s.awlHealthy u && !j.failed.contains u) = true :=
    List.any_eq_true.mpr ⟨u, List.mem_of_find?_eq_some hu, by simp [hhealthy, hfailed]⟩
  have hfind : awlUnits.find? (fun u => s.awlCandidate u && !j.failed.contains u) = some u := by
    simpa [hfailed] using hu
  unfold State.startNext
  simp only [hfetched, hfence, hany, hfind]
  rfl

/-- A finished job is delivered, its descriptor completed, and its unit idle (R335). -/
theorem awlCompletion_run {s v : State} {u n : Nat} {j : AwlJob} {r r' : AwlResult} {same late : Bool} (h : tget s.awl.runs u = some (.job j (.done r same late)))
    (hd : s.deliver u j r = (v, r', n)) :
    exec (.awlCompletion u) s = .next (((((v.updAwl (fun a => { a with runs := tdel a.runs u })).clearOperand u).completeJob j.index j.desc.flags u r' same late
      j.reissued n)).awlIdle u) := by
  change execAwlCompletion u s = _
  unfold execAwlCompletion
  simp only [h, hd, ok]

/-- Completions fewer than COAL_N are told after COAL_US from the first (R325). -/
theorem awlDone_run {s : State} (hpos : 0 < s.awl.irqs) (hlt : s.awl.irqs < s.rd Reg.AWL_CTRL.COAL_N) :
    exec .awlDone s = .next (((s.advanceTo (s.awl.irqFirst + s.rd Reg.AWL_CTRL.COAL_US * usec)).updAwl (fun a => { a with irqs := 0 })).interrupt
      (128 + Config.awlDoneSource.val)) := by
  have hgo : ¬ s.awl.irqs = 0 := by omega
  have hwait : ¬ max 1 (s.rd Reg.AWL_CTRL.COAL_N) ≤ s.awl.irqs := by omega
  change execAwlDone s = _
  simp only [execAwlDone, if_neg hgo, if_neg hwait, ok]

/-- AWL_ABORT from Keeper world (R340). -/
theorem awlAbort_run {s v : State} {i : Nat} (hi : i < 4096) (hv : v = s.wr Reg.AWL_ABORT.INDEX i) :
    exec (.awlAbort .keeper i false) s = .next (if v.abortable i = true then (v.wr Reg.AWL_ABORT.ERR 0).abortJob i false else v.wr Reg.AWL_ABORT.ERR 1) := by
  subst hv
  change execAwlAbort .keeper i false s = _
  simp only [execAwlAbort, reduceCtorEq, if_false, Nat.mod_eq_of_lt hi]
  split <;> rfl

/-- A comparison of a busy unit that fails (R342). -/
theorem awlMismatch_run {s : State} {u : Nat} (hu : u < 16) (hbusy : s.awlState u = stBusy) (poison : Bool) :
    exec (.awlMismatch u poison) s = .next (if poison then (s.awlStop u).raise (srcEccUe (16 + u / 4)) u else (s.awlStop u).raise (srcAwl u 0) u) := by
  have hgo : ¬ (16 ≤ u ∨ s.awlState u ≠ stBusy) := by
    rintro (h | h)
    · omega
    · exact h hbusy
  change execAwlMismatch u poison s = _
  simp only [execAwlMismatch, if_neg hgo, ok]

/-- AWL_QREL of a quarantined unit: a self-test before its release (Table 9-10). -/
theorem awlQrel_run {s : State} {u : Nat} (hu : u < 16) (hquar : s.awlState u = stQuarantined) :
    exec (.awlQrel u .keeper) s = .next (((s.wr Reg.AWL_CTRL.QUNIT u).setAwl u stSelfTest).updAwl (fun a => { a with tests := tput a.tests u .release })) := by
  have hgo : ¬ ((World.keeper = World.tack) ∨ 16 ≤ u) := by
    rintro (h | h)
    · nomatch h
    · omega
  change execAwlQrel u .keeper s = _
  simp only [execAwlQrel, if_neg hgo, awlState_wr_qunit, hquar, if_true, ok]

/-- The end of a start-up self-test of a unit (Table 9-10). -/
theorem awlSelftestDone_pass {s : State} {u sig : Nat} (h : tget s.awl.tests u = some .startup) :
    exec (.awlSelftestDone u .pass sig) s =
      .next ((((s.updAwl (fun a => { a with tests := tdel a.tests u })).testOver .awl u .pass sig).awlServe u).backInService .awl u) := by
  change execAwlSelftestDone u .pass sig s = _
  unfold execAwlSelftestDone
  simp only [h]
  rfl

theorem awlSelftestDone_logic {s : State} {u sig : Nat} (h : tget s.awl.tests u = some .startup) :
    exec (.awlSelftestDone u .logic sig) s =
      .next ((((s.updAwl (fun a => { a with tests := tdel a.tests u })).testOver .awl u .logic sig).stopAwl u stQuarantined).raise (srcAwl u 1) u) := by
  change execAwlSelftestDone u .logic sig s = _
  unfold execAwlSelftestDone
  simp only [h]
  rfl

/-- Settles O39, a command at a time. -/
theorem awlControlCommandsComplete : Obligations.AwlControlCommandsComplete := by
  unfold Obligations.AwlControlCommandsComplete
  refine fun s u i j => ⟨?tail, ⟨_, rfl, rfl⟩, ?fetch, ?start, ?completion, ?done, ?abort, ?abortRefused, ?mismatch, ?qrel, ?tests⟩
  case tail =>
    intro n hn
    exact ⟨_, rfl, State.wr_upd.agreeBut (by decide), (rd_wr_self _ _ _).trans (Nat.mod_eq_of_lt hn)⟩
  case fetch =>
    intro hruns hfetched
    have hnext : s.startNext = (s, false) := by
      unfold State.startNext
      rw [hfetched]
    exact ⟨_, awlDispatch_of_noRuns hruns hnext, rfl⟩
  case start =>
    intro hruns hfetched hfence hfailed hu hhealthy
    exact ⟨_, awlDispatch_of_noRuns hruns (startNext_starts hfetched hfence hfailed hu hhealthy), rfl⟩
  case completion =>
    intro r r' same late v n h hd
    refine ⟨_, _, awlCompletion_run h hd, ?_, ?_, rfl⟩
    · exact (State.updAwl_upd.seq State.clearOperand_upd).agreeBut (by decide)
    · exact tget_tdel_self _ _
  case done =>
    intro hpos hlt
    refine ⟨_, (s.advanceTo (s.awl.irqFirst + s.rd Reg.AWL_CTRL.COAL_US * usec)).updAwl (fun a => { a with irqs := 0 }), awlDone_run hpos hlt, rfl, ?_, ?_, rfl⟩
    · exact now_advanceTo _ _
    · exact (State.advanceTo_upd.seq State.updAwl_upd).agreeBut (by decide)
  case abort =>
    intro v hi hv hok
    exact ⟨_, awlAbort_run hi hv, if_pos hok⟩
  case abortRefused =>
    intro v hi hv hok
    exact ⟨_, awlAbort_run hi hv, if_neg (by rw [hok]; decide)⟩
  case mismatch =>
    intro hu hbusy
    exact ⟨⟨_, awlMismatch_run hu hbusy false, rfl⟩, ⟨_, awlMismatch_run hu hbusy true, rfl⟩⟩
  case qrel =>
    intro hu hquar
    refine ⟨_, awlQrel_run hu hquar, ((State.wr_upd.seq State.setAwl_upd).seq State.updAwl_upd).agreeBut (by decide), ?_, ?_, tget_tput_self _ _ _⟩
    · exact (awlState_setAwl_self (s.wr Reg.AWL_CTRL.QUNIT u) u stSelfTest).trans (by rw [width_awlState]; rfl)
    · exact (rd_wr_ne _ _ (awlState_key_ne_qunit u).symm).trans ((rd_wr_self _ _ _).trans (Nat.mod_eq_of_lt hu))
  case tests =>
    intro sig h
    constructor
    · refine ⟨_, _, awlSelftestDone_pass h, State.updAwl_upd.agreeBut (by decide), ?_, rfl⟩
      exact tget_tdel_self _ _
    · refine ⟨_, _, awlSelftestDone_logic h, State.updAwl_upd.agreeBut (by decide), ?_, rfl⟩
      exact tget_tdel_self _ _

end Sys2Proof.Machine
end

section
/-!
PROOFS. The access table's commands (chapter 12).
-/

namespace Sys2Proof.Machine

/-- A write to the access table that its rights allow, or that they forbid. -/
theorem tableOp_allowed {s : State} {p off : Nat} {w : World} {user : Bool} (h : s.forbidden (tableWrite p w user off) = none) (f : State → State) :
    s.tableOp p w user off f = f s := by
  unfold State.tableOp State.guard
  simp only [h]

theorem tableOp_forbidden {s : State} {p off a : Nat} {w : World} {user : Bool} (h : s.forbidden (tableWrite p w user off) = some a) (f : State → State) :
    s.tableOp p w user off f = s.violation (tableWrite p w user off) a := by
  unfold State.tableOp State.guard
  simp only [h]

/-- A command on an entry that the table has. -/
theorem atCmd_entry {s v : State} {n i : Nat} (hi : i < entryCount n) (hv : v = ((s.wr Reg.AT_CMD.INDEX i).wr Reg.AT_CMD.TARGET n).wr Reg.AT_CMD.ERR 0)
    (f : State → State) : s.atCmd n i f = f v := by
  subst hv
  unfold State.atCmd
  exact if_neg (Nat.not_le.mpr hi)

/-- Every command on an entry from a master that may give it. -/
theorem entryOp_eq {s v : State} {p n i : Nat} {w : World} {user : Bool} (hi : i < entryCount n)
    (hv : v = ((s.wr Reg.AT_CMD.INDEX i).wr Reg.AT_CMD.TARGET n).wr Reg.AT_CMD.ERR 0) (h : s.forbidden (tableWrite p w user 0) = none) (f : State → State) :
    s.tableOp p w user 0 (fun s => s.atCmd n i f) = f v := by
  rw [tableOp_allowed h, atCmd_entry hi hv]

/-- The registers written by a command on an entry. -/
theorem atCmd_frame {s v : State} {n i : Nat} (hv : v = ((s.wr Reg.AT_CMD.INDEX i).wr Reg.AT_CMD.TARGET n).wr Reg.AT_CMD.ERR 0) : Upd 8 s v := by
  subst hv
  exact (State.wr_upd.seq State.wr_upd).seq State.wr_upd

/-- The entries as a command on an entry finds them. -/
theorem atCmd_entries {s v : State} {n i : Nat} (hv : v = ((s.wr Reg.AT_CMD.INDEX i).wr Reg.AT_CMD.TARGET n).wr Reg.AT_CMD.ERR 0) :
    v.activeEntry n i = s.activeEntry n i ∧ v.shadowEntry n i = s.shadowEntry n i := by
  subst hv
  exact ⟨rfl, rfl⟩

/-- An entry of the shadow table after it is written. -/
theorem shadowEntry_put (s : State) (n i : Nat) (e : AtEntry) :
    (s.updGuards (fun g => { g with shadow := tput g.shadow (entryKey n i) e })).shadowEntry n i = e := by
  change (tget (tput s.guards.shadow (entryKey n i) e) (entryKey n i)).getD ⟨0, 0⟩ = e
  rw [tget_tput_self]
  rfl

/-- WRITE_SHADOW of an entry, locked or not (R433). -/
theorem writeShadow_locked {s v : State} {p n i : Nat} {w : World} {user : Bool} (hi : i < entryCount n)
    (hv : v = ((s.wr Reg.AT_CMD.INDEX i).wr Reg.AT_CMD.TARGET n).wr Reg.AT_CMD.ERR 0) (h : s.forbidden (tableWrite p w user 0) = none)
    (hlocked : (s.activeEntry n i).locked n = true) : exec (.writeShadow p w user n i) s = .next (v.wr Reg.AT_CMD.ERR 2) := by
  change execWriteShadow p w user n i s = _
  rw [execWriteShadow, entryOp_eq hi hv h, (atCmd_entries hv).1, hlocked]
  rfl

theorem writeShadow_unlocked {s v : State} {p n i : Nat} {w : World} {user : Bool} (hi : i < entryCount n)
    (hv : v = ((s.wr Reg.AT_CMD.INDEX i).wr Reg.AT_CMD.TARGET n).wr Reg.AT_CMD.ERR 0) (h : s.forbidden (tableWrite p w user 0) = none)
    (hlocked : (s.activeEntry n i).locked n = false) :
    exec (.writeShadow p w user n i) s = .next (v.updGuards (fun g => { g with shadow := tput g.shadow (entryKey n i) (v.winEntry n) })) := by
  change execWriteShadow p w user n i s = _
  rw [execWriteShadow, entryOp_eq hi hv h, (atCmd_entries hv).1, hlocked]
  rfl

/-- AT_COMMIT with a committed table: every staged entry good, one bad, or a commit still running (R434). -/
theorem atCommit_commits {s : State} {p : Nat} {w : World} {user : Bool} (h : s.forbidden (tableWrite p w user 4) = none)
    (hdone : s.isSet Reg.AT_STATUS.DONE = true) (hbad : s.badEntry = none) :
    exec (.atCommit p w user) s = .next (((((s.updGuards (fun g => { g with active := g.shadow })).addTo Reg.AT_EPOCH.EPOCH 1).flag Reg.AT_STATUS.BOOT false).wr
      Reg.AT_STATUS.ERR 0).flag Reg.AT_STATUS.DONE false) := by
  change execAtCommit p w user s = _
  rw [execAtCommit, tableOp_allowed h, hdone, hbad]
  rfl

theorem atCommit_badEntry {s : State} {p k : Nat} {w : World} {user : Bool} (h : s.forbidden (tableWrite p w user 4) = none)
    (hdone : s.isSet Reg.AT_STATUS.DONE = true) (hbad : s.badEntry = some k) :
    exec (.atCommit p w user) s =
      .next (((s.wr Reg.AT_STATUS.ERR 1).wr Reg.AT_STATUS.ERR_INDEX (k % 512)).wr Reg.AT_STATUS.ERR_TARGET (k / 512)) := by
  change execAtCommit p w user s = _
  rw [execAtCommit, tableOp_allowed h, hdone, hbad]
  rfl

theorem atCommit_busy {s : State} {p : Nat} {w : World} {user : Bool} (h : s.forbidden (tableWrite p w user 4) = none)
    (hdone : s.isSet Reg.AT_STATUS.DONE = false) : exec (.atCommit p w user) s = .next (s.wr Reg.AT_STATUS.ERR 2) := by
  change execAtCommit p w user s = _
  rw [execAtCommit, tableOp_allowed h, hdone]
  rfl

/-- Settles O40, a command at a time. -/
theorem accessTableCommandsComplete : Obligations.AccessTableCommandsComplete := by
  unfold Obligations.AccessTableCommandsComplete
  intro s v p i n w user hi hv
  refine ⟨?active, ?shadow, ?write, ?locked, ?commit, ?badEntry, ?busy, ?done, ?pop, ?refused⟩
  case active =>
    intro h
    have hrun := entryOp_eq hi hv h (fun s => s.showEntry n (s.activeEntry n i))
    rw [(atCmd_entries hv).1] at hrun
    exact ⟨_, rfl, hrun⟩
  case shadow =>
    intro h
    have hrun := entryOp_eq hi hv h (fun s => s.showEntry n (s.shadowEntry n i))
    rw [(atCmd_entries hv).2] at hrun
    exact ⟨_, rfl, hrun⟩
  case write =>
    intro h hlocked
    refine ⟨_, writeShadow_unlocked hi hv h hlocked, ?_⟩
    refine ⟨((atCmd_frame hv).seq State.updGuards_upd).agreeBut (by decide), ?_, ?_⟩
    · exact shadowEntry_put _ _ _ _
    · subst hv
      exact rd_wr_self _ _ _
  case locked =>
    intro h hlocked
    refine ⟨_, writeShadow_locked hi hv h hlocked, ?_⟩
    exact ⟨((atCmd_frame hv).seq State.wr_upd).agreeBut (by decide), rd_wr_self _ _ _⟩
  case commit =>
    intro h hdone hbad
    refine ⟨_, atCommit_commits h hdone hbad, ?_, rfl, ?_, ?_, ?_, ?_⟩
    · exact ((((State.updGuards_upd.seq State.addTo_upd).seq State.flag_upd).seq State.wr_upd).seq State.flag_upd).agreeBut (by decide)
    · rw [rd_flag_ne _ _ (by decide), rd_wr_ne _ _ (by decide), rd_flag_ne _ _ (by decide), State.addTo, rd_wr_self]
      rfl
    · exact rd_flag_self _ _ _
    · rw [rd_flag_ne _ _ (by decide), rd_wr_self]
      rfl
    · rw [rd_flag_ne _ _ (by decide), rd_wr_ne _ _ (by decide), rd_flag_self]
      rfl
  case badEntry =>
    intro h hdone k hbad
    refine ⟨_, atCommit_badEntry h hdone hbad, ((State.wr_upd.seq State.wr_upd).seq State.wr_upd).agreeBut (by decide), ?_⟩
    rw [rd_wr_ne _ _ (by decide), rd_wr_ne _ _ (by decide), rd_wr_self]
    rfl
  case busy =>
    intro h hdone
    exact ⟨_, atCommit_busy h hdone, State.wr_upd.agreeBut (by decide), rd_wr_self _ _ _⟩
  case done => exact ⟨_, rfl, State.flag_upd.agreeBut (by decide), rd_flag_self _ _ _⟩
  case pop =>
    intro h
    refine ⟨_, rfl, ?_⟩
    rw [tableOp_allowed h]
    exact ⟨State.updGuards_upd.agreeBut (by decide), rfl⟩
  case refused => exact fun a h => ⟨_, rfl, tableOp_forbidden h _⟩

end Sys2Proof.Machine
end

section
/-!
PROOFS. The flash engine's commands (chapter 13).
-/

namespace Sys2Proof.Machine

/-- A flash command from Keeper world with a plane in service. -/
theorem flsCmd_keeper {s v : State} {op : Nat} (hlun : s.rd Reg.FLS_STATUS.LUN_OK ≠ 0) (hv : v = s.wr Reg.FLS_CMD.OP op) (f : State → State) :
    s.flsCmd .keeper op f = f v := by
  subst hv
  refine if_neg ?_
  rintro (h | h)
  · nomatch h
  · exact hlun h

/-- The error code that ends a command. -/
theorem err_flsEnd (s : State) (code : Nat) : (s.flsEnd code).rd Reg.FLS_CMD.ERR = code % 2 ^ Reg.FLS_CMD.ERR.width := rd_wr_self _ _ _

/-- A transfer that the rights allow. -/
theorem guardRange_allowed {s : State} {m : Nat} {k : AccessKind} {a n : Nat} (h : s.forbidden (unitAccess m k a n) = none) : s.guardRange m k a n = (true, s) := by
  unfold State.guardRange
  rw [h]

/-- Sectors that were read well are marked for no refresh. -/
theorem updFlash_marked_nil (s : State) : s.updFlash (fun f => { f with marked := f.marked ++ [] }) = s := by
  simp only [State.updFlash, List.append_nil]

theorem flsRead_run {s v : State} {p : Nat} (hlun : s.rd Reg.FLS_STATUS.LUN_OK ≠ 0) (hv : v = s.wr Reg.FLS_CMD.OP 0x01) (hp : v.flsPart readableParts = some p)
    (hserve : v.sectorsServe v.flsSectors = true) (hright : v.forbidden (unitAccess masterFlash .write v.flsBuf (4096 * v.flsSectors.length)) = none) :
    exec (.flsRead .keeper [] []) s = .next (((v.writeMem v.flsBuf (v.flsSectors.flatMap v.flash.sector)).countReads v.flsSectors).flsEnd fOk) := by
  change execFlsRead .keeper [] [] s = _
  rw [execFlsRead, flsCmd_keeper hlun hv]
  simp only [hp, hserve, guardRange_allowed hright]
  exact congrArg (fun t => ok (State.flsEnd t fOk))
    (updFlash_marked_nil ((v.writeMem v.flsBuf (v.flsSectors.flatMap v.flash.sector)).countReads v.flsSectors))

theorem flsRead_badArg {s v : State} (hlun : s.rd Reg.FLS_STATUS.LUN_OK ≠ 0) (hv : v = s.wr Reg.FLS_CMD.OP 0x01) (hp : v.flsPart readableParts = none) :
    exec (.flsRead .keeper [] []) s = .next (v.flsEnd fBadArg) := by
  change execFlsRead .keeper [] [] s = _
  rw [execFlsRead, flsCmd_keeper hlun hv]
  simp only [hp, ok]

theorem flsWrite_run {s v w x y : State} {p k : Nat} {bytes : List Byte} (hlun : s.rd Reg.FLS_STATUS.LUN_OK ≠ 0) (hv : v = s.wr Reg.FLS_CMD.OP 0x02)
    (hp : v.flsPart writableParts = some p) (hprot : v.flash.twinProtected p = false)
    (hserve : (((partitions[p]?).map Partition.luns).getD []).any v.lunServes = true)
    (hright : v.forbidden (unitAccess masterFlash .read v.flsBuf (4096 * v.flsSectors.length)) = none)
    (hread : v.readChecked v.flsBuf (4096 * v.flsSectors.length) = ((bytes, false), w)) (hfill : w.fillBlock p = some (k, x))
    (hprog : w.programAll p ((List.range v.flsSectors.length).map (fun i => (v.flsSectors.getD i 0, slice bytes (4096 * i) 4096))) = some y) :
    exec (.flsWrite .keeper 0) s = .next (y.flsEnd fOk) := by
  change execFlsWrite .keeper 0 s = _
  rw [execFlsWrite, flsCmd_keeper hlun hv]
  simp only [hp, hprot, hserve, guardRange_allowed hright, hread, State.failPrograms, hfill, hprog]
  rfl

theorem flsWrite_protected {s v : State} {p : Nat} (hlun : s.rd Reg.FLS_STATUS.LUN_OK ≠ 0) (hv : v = s.wr Reg.FLS_CMD.OP 0x02)
    (hp : v.flsPart writableParts = some p) (hprot : v.flash.twinProtected p = true) : exec (.flsWrite .keeper 0) s = .next (v.flsEnd fSelfErase) := by
  change execFlsWrite .keeper 0 s = _
  rw [execFlsWrite, flsCmd_keeper hlun hv]
  simp only [hp, hprot, if_true, ok]

theorem trim_run {s v : State} {p : Nat} (hlun : s.rd Reg.FLS_STATUS.LUN_OK ≠ 0) (hv : v = s.wr Reg.FLS_CMD.OP 0x03)
    (hp : v.flsPart writableParts = some p) {a n : Nat} (ha : a = v.rd Reg.FLS_LADDR.SECTOR) (hn : n = v.rd Reg.FLS_LEN.SECTORS) :
    exec (.trim .keeper) s = .next ((v.updFlash (fun f => { f with map := tkeep f.map (fun k _ => !(decide (a ≤ k ∧ k < a + n))), marked := f.marked.filter (fun k => !(decide (a ≤ k ∧ k < a + n))) })).flsEnd fOk) := by
  subst ha hn
  change execTrim .keeper s = _
  rw [execTrim, flsCmd_keeper hlun hv]
  simp only [hp, ok]

theorem flush_run {s : State} (hlun : s.rd Reg.FLS_STATUS.LUN_OK ≠ 0) : exec (.flush .keeper) s = .next ((s.wr Reg.FLS_CMD.OP 0x04).flsEnd fOk) := by
  change execFlush .keeper s = _
  rw [execFlush, flsCmd_keeper hlun rfl, ok]

theorem pin_run {s v : State} {p : Nat} (hlun : s.rd Reg.FLS_STATUS.LUN_OK ≠ 0) (hv : v = s.wr Reg.FLS_CMD.OP 0x20) (hp : v.flsPart readableParts = some p) :
    exec (.pin .keeper) s = .next (((v.updFlash (fun f => (v.flash.blocksOf v.flsSectors).foldl (fun f k => f.updBlock k (fun b => { b with pinned := true })) f)).countPinned).flsEnd
      fOk) := by
  change execPin .keeper s = _
  rw [execPin, flsCmd_keeper hlun hv]
  simp only [hp, ok]

/-- In recovery UNPIN lets every block go (R449). -/
theorem unpin_run {s v : State} {p : Nat} (hlun : s.rd Reg.FLS_STATUS.LUN_OK ≠ 0) (hv : v = s.wr Reg.FLS_CMD.OP 0x21) (hp : v.flsPart readableParts = some p)
    (hrec : v.isSet Reg.BOOT_STATUS.RECOVERY = true) :
    exec (.unpin .keeper) s = .next (((v.updFlash (fun f => (v.flash.blocksOf v.flsSectors).foldl (fun f k => f.updBlock k (fun b => { b with pinned := false })) f)).countPinned).flsEnd
      fOk) := by
  change execUnpin .keeper s = _
  rw [execUnpin, flsCmd_keeper hlun hv]
  simp only [hp, hrec, Bool.true_or, List.filter_eq_self.mpr (fun _ _ => rfl), ok]

theorem pread_run {s v : State} {k a page : Nat} (hlun : s.rd Reg.FLS_STATUS.LUN_OK ≠ 0) (hv : v = s.wr Reg.FLS_CMD.OP 0x10) (hk : v.flsBlock = some k)
    (hserve : v.lunServes (lunOf k) = true) (ha : a = v.flsBuf) (hpage : page = v.rd Reg.FLS_PADDR.PAGE)
    (hright : v.forbidden (unitAccess masterFlash .write a 16384) = none) (hfree : (v.flash.block k).free = false) (hlt : page < (v.flash.block k).nextPage) :
    exec (.pread .keeper []) s = .next (((v.writeMem a ((List.range 4).flatMap (fun i => v.flash.physical (pageSector k page + i)))).updFlash
      (fun f => f.updBlock k (fun b => { b with reads := b.reads + 1 }))).flsEnd fOk) := by
  subst ha hpage
  have hnone : (List.range 4).filter (fun i => decide ((v.flash.block k).nextPage ≤ v.rd Reg.FLS_PADDR.PAGE) || (v.flash.block k).free || decide (i ∈ ([] : List Nat))) = [] := by
    simp [hfree, hlt]
  change execPread .keeper [] s = _
  rw [execPread, flsCmd_keeper hlun hv]
  simp only [hk, hserve, guardRange_allowed hright, hnone]
  rfl

theorem mread_run {s v : State} {k m : Nat} (hlun : s.rd Reg.FLS_STATUS.LUN_OK ≠ 0) (hv : v = s.wr Reg.FLS_CMD.OP 0x11) (hk : v.flsBlock = some k)
    (hserve : v.lunServes (lunOf k) = true) :
    exec (.mread .keeper m) s = .next (((v.wr Reg.FLS_MARGIN.MAXCORR m).updFlash (fun f => f.updBlock k (fun b => { b with reads := b.reads + 1 }))).flsEnd fOk) := by
  change execMread .keeper m s = _
  rw [execMread, flsCmd_keeper hlun hv]
  simp only [hk, hserve]
  rfl

theorem blank_run {s v : State} {k : Nat} (hlun : s.rd Reg.FLS_STATUS.LUN_OK ≠ 0) (hv : v = s.wr Reg.FLS_CMD.OP 0x12) (hk : v.flsBlock = some k)
    (hserve : v.lunServes (lunOf k) = true) (hpage : (v.flash.block k).nextPage = 0) : exec (.blank .keeper false) s = .next (v.flsEnd fOk) := by
  change execBlank .keeper false s = _
  rw [execBlank, flsCmd_keeper hlun hv]
  simp only [hk, hserve, hpage]
  rfl

theorem flsErase_run {s v x : State} {k : Nat} (hlun : s.rd Reg.FLS_STATUS.LUN_OK ≠ 0) (hv : v = s.wr Reg.FLS_CMD.OP 0x13) (hk : v.flsBlock = some k)
    (hserve : v.lunServes (lunOf k) = true) (hprot : v.flash.blockProtected k = false) (hvalid : v.flash.validIn k = []) (hret : (v.flash.block k).retired = false)
    (hintent : v.intentLun k = true) (hx : v.eraseBlock k 0 = (x, true)) : exec (.flsErase .keeper 0) s = .next (x.flsEnd fOk) := by
  have hgo : ¬ ((!(v.flash.validIn k).isEmpty) = true ∨ (v.flash.block k).retired = true) := by simp [hvalid, hret]
  change execFlsErase .keeper 0 s = _
  rw [execFlsErase, flsCmd_keeper hlun hv]
  simp only [hk, hserve, hprot, if_neg hgo, hintent, hx]
  rfl

theorem flsErase_protected {s v : State} {k : Nat} (hlun : s.rd Reg.FLS_STATUS.LUN_OK ≠ 0) (hv : v = s.wr Reg.FLS_CMD.OP 0x13) (hk : v.flsBlock = some k)
    (hserve : v.lunServes (lunOf k) = true) (hprot : v.flash.blockProtected k = true) : exec (.flsErase .keeper 0) s = .next (v.flsEnd fSelfErase) := by
  change execFlsErase .keeper 0 s = _
  rw [execFlsErase, flsCmd_keeper hlun hv]
  simp only [hk, hserve, hprot]
  rfl

/-- PTR_SET to a twin that is not booted: a trial, or the twin's fault (R458, R461). -/
theorem ptrSet_run {s v : State} {i : ImageHead} {tw f : Nat} {ue : Bool} (hlun : s.rd Reg.FLS_STATUS.LUN_OK ≠ 0) (hv : v = s.wr Reg.FLS_CMD.OP 0x30)
    (htw : tw = v.rd Reg.BOOT_REQ.TWIN) (hi : i = v.twinHead tw) (hf : f = v.twinCheck tw none ue) (htrial : v.flash.trial = false) (hother : v.flash.activeTwin ≠ tw) :
    exec (.ptrSet .keeper ue) s = .next (if f ≠ 0 then (v.wr (if tw = 0 then Reg.BOOT_STATUS.FAIL0 else Reg.BOOT_STATUS.FAIL1) f).flsEnd fBadImage
      else (v.appendPtr { carry := false, typ := 1, twin := tw, attempts := 0, prev := v.flash.activeTwin, gen := 0, version := i.version, svn := i.svn, hash := i.hash }).flsEnd
        fOk) := by
  subst hi hf
  change execPtrSet .keeper ue s = _
  rw [execPtrSet, flsCmd_keeper hlun hv]
  simp only [htrial, ← htw, if_neg hother, Bool.false_eq_true, if_false]
  split <;> rfl

/-- PTR_CONFIRM of a trial (R458). -/
theorem ptrConfirm_run {s v x : State} {q : PtrRec} (hlun : s.rd Reg.FLS_STATUS.LUN_OK ≠ 0) (hv : v = s.wr Reg.FLS_CMD.OP 0x31) (hq : v.flash.pointer = some q)
    (htrial : v.flash.trial = true) (hset : v.isSet Reg.BOOT_STATUS.TRIAL = true) (hx : x = v.appendPtr { q with carry := false, typ := 3, attempts := 0 }) :
    exec (.ptrConfirm .keeper) s =
      .next ((if x.chip.image.raiseSvn = true ∧ x.rd Reg.BOOT_INFO.MIN_SVN < q.svn then x.wr Reg.BOOT_INFO.MIN_SVN q.svn else x).flsEnd fOk) := by
  subst hx
  change execPtrConfirm .keeper s = _
  rw [execPtrConfirm, flsCmd_keeper hlun hv]
  simp only [hq, htrial, hset, and_self, if_true, ok]

theorem ptrConfirm_noPointer {s v : State} (hlun : s.rd Reg.FLS_STATUS.LUN_OK ≠ 0) (hv : v = s.wr Reg.FLS_CMD.OP 0x31) (hq : v.flash.pointer = none) :
    exec (.ptrConfirm .keeper) s = .next (v.flsEnd fNotTrial) := by
  change execPtrConfirm .keeper s = _
  rw [execPtrConfirm, flsCmd_keeper hlun hv]
  simp only [hq, ok]

/-- Settles O41, a command at a time. -/
theorem flashCommandsComplete : Obligations.FlashCommandsComplete := by
  unfold Obligations.FlashCommandsComplete
  refine ⟨fun s v p hlun => ⟨?read, ?readBad, ?write, ?writeProtected, ?trim, ?flush, ⟨_, rfl, rfl⟩, ?pin, ?unpin⟩,
    fun s v k hlun => ⟨?pread, ?mread, ?blank, ?erase, ?eraseProtected, ?ptrSet, ?confirm, ?noPointer, ?window, ?lost⟩⟩
  case read =>
    intro hv hp hserve hright
    exact ⟨_, _, _, flsRead_run hlun hv hp hserve hright, rfl, rfl, State.flsEnd_upd.agreeBut (by decide), err_flsEnd _ _⟩
  case readBad =>
    intro hv hp
    refine ⟨_, flsRead_badArg hlun hv hp, ?_, err_flsEnd _ _⟩
    rw [hv]
    exact (State.wr_upd.seq State.flsEnd_upd).agreeBut (by decide)
  case write =>
    intro bytes w x y k hv hp hprot hserve hright hread hfill hprog
    exact ⟨_, flsWrite_run hlun hv hp hprot hserve hright hread hfill hprog, State.flsEnd_upd.agreeBut (by decide), err_flsEnd _ _⟩
  case writeProtected =>
    intro hv hp hprot
    refine ⟨_, flsWrite_protected hlun hv hp hprot, ?_, err_flsEnd _ _⟩
    rw [hv]
    exact (State.wr_upd.seq State.flsEnd_upd).agreeBut (by decide)
  case trim =>
    intro hv hp
    refine ⟨_, trim_run hlun hv hp rfl rfl, ?_, err_flsEnd _ _, ?_⟩
    · rw [hv]
      exact ((State.wr_upd.seq State.updFlash_upd).seq State.flsEnd_upd).agreeBut (by decide)
    · subst hv
      rfl
  case flush =>
    refine ⟨_, flush_run hlun, (State.wr_upd.seq State.flsEnd_upd).agreeBut (by decide), ?_, err_flsEnd _ _⟩
    exact (rd_wr_ne _ _ (by decide)).trans (rd_wr_self _ _ _)
  case pin =>
    intro hv hp
    exact ⟨_, _, pin_run hlun hv hp, rfl, (State.countPinned_upd.seq State.flsEnd_upd).agreeBut (by decide), err_flsEnd _ _⟩
  case unpin =>
    intro hv hp hrec
    exact ⟨_, _, unpin_run hlun hv hp hrec, rfl, (State.countPinned_upd.seq State.flsEnd_upd).agreeBut (by decide), err_flsEnd _ _⟩
  case pread =>
    intro a page hv hk hserve ha hpage hright hfree hlt
    exact ⟨_, _, pread_run hlun hv hk hserve ha hpage hright hfree hlt, rfl, State.flsEnd_upd.agreeBut (by decide), err_flsEnd _ _⟩
  case mread =>
    intro m hm hv hk hserve
    refine ⟨_, _, mread_run hlun hv hk hserve, rfl, ?_, ?_, err_flsEnd _ _⟩
    · exact ⟨rfl, fun q hq => by
        cases q with
        | regs => exact absurd (List.mem_singleton.2 rfl) hq
        | _ => rfl⟩
    · exact (rd_wr_ne _ _ (by decide)).trans ((rd_wr_self _ _ _).trans (Nat.mod_eq_of_lt (Nat.lt_trans hm (by decide))))
  case blank =>
    intro hv hk hserve hpage
    refine ⟨_, blank_run hlun hv hk hserve hpage, ?_, err_flsEnd _ _⟩
    rw [hv]
    exact (State.wr_upd.seq State.flsEnd_upd).agreeBut (by decide)
  case erase =>
    intro x hv hk hserve hprot hvalid hret hintent hx
    exact ⟨_, flsErase_run hlun hv hk hserve hprot hvalid hret hintent hx, State.flsEnd_upd.agreeBut (by decide), err_flsEnd _ _⟩
  case eraseProtected =>
    intro hv hk hserve hprot
    refine ⟨_, flsErase_protected hlun hv hk hserve hprot, ?_, err_flsEnd _ _⟩
    rw [hv]
    exact (State.wr_upd.seq State.flsEnd_upd).agreeBut (by decide)
  case ptrSet =>
    intro i tw f ue hv htw hi hf htrial hother
    refine ⟨_, ptrSet_run hlun hv htw hi hf htrial hother, fun h0 => ?_, fun hne => ?_⟩
    · rw [if_neg (fun h => h h0)]
      exact ⟨_, rfl, State.flsEnd_upd.agreeBut (by decide), err_flsEnd _ _⟩
    · rw [if_pos hne]
      refine ⟨?_, err_flsEnd _ _, rfl⟩
      rw [hv]
      exact ((State.wr_upd.seq State.wr_upd).seq State.flsEnd_upd).agreeBut (by decide)
  case confirm =>
    intro q x hv hq htrial hset hx
    refine ⟨_, ptrConfirm_run hlun hv hq htrial hset hx, ?_, err_flsEnd _ _, rfl⟩
    split
    · exact (State.wr_upd.seq State.flsEnd_upd).agreeBut (by decide)
    · exact State.flsEnd_upd.agreeBut (by decide)
  case noPointer =>
    intro hv hq
    refine ⟨_, ptrConfirm_noPointer hlun hv hq, ?_, err_flsEnd _ _⟩
    rw [hv]
    exact (State.wr_upd.seq State.flsEnd_upd).agreeBut (by decide)
  case window =>
    intro b hserve
    refine ⟨_, ?_, rfl⟩
    change execWindowMiss b false false s = _
    simp [execWindowMiss, hlun, hserve, ok]
  case lost =>
    intro l hl hbit
    refine ⟨_, ?_, rfl⟩
    change execFlsLunLost l s = _
    simp [execFlsLunLost, Nat.not_le.mpr hl, hbit, ok]

end Sys2Proof.Machine
end

section
/-!
PROOFS. The start-up command (chapters 13 and 20).
-/

namespace Sys2Proof.Machine

/-- The slots filled at the start write the key unit alone. -/
theorem foldl_fillSlot (rs : List (Nat × KeyRecord)) (s : State) :
    ∃ k, rs.foldl (fun s kv => if kv.2.fuse then s.fillSlot kv.2.sysSlot kv.2.value kv.2.attr else s) s = s.updKeys (fun _ => k) := by
  induction rs generalizing s with
  | nil => exact ⟨s.keys, rfl⟩
  | cons r rs ih =>
    rw [List.foldl_cons]
    split
    · obtain ⟨k, hk⟩ := ih (s.fillSlot r.2.sysSlot r.2.value r.2.attr)
      exact ⟨k, hk⟩
    · exact ih s

/-- A register that a write to memory leaves: any but the armed flip of the error-correction test (R425). -/
theorem rd_writeMem {f : Field} (h : f.key ≠ Reg.ECC_TEST.ARMED.key) (s : State) (a : Nat) (bs : List Byte) : (s.writeMem a bs).rd f = s.rd f := by
  unfold State.writeMem State.storeMem
  split
  · exact rd_flag_ne _ _ h
  · rfl

/-- The state in which Keeper world is entered (Table 13-10), from the slots and the access table that the start has filled. -/
theorem enterKeeper_eq (s : State) (x : BootIn) (boot : PairId) (h : ImageHead) (entry : Nat) :
    ∃ (k : Saddlebag) (g : Guards), s.enterKeeper x boot h entry =
      (((((((s.updKeys (fun _ => k)).updGuards (fun _ => g)).addTo Reg.AT_EPOCH.EPOCH 1).flag Reg.AT_STATUS.BOOT false).updPair boot
        (fun q => { q with pc := BitVec.ofNat 64 entry })).wr Reg.BOOT_TIME.US x.us).updChip (fun c => { c with booted := true, image := h })) := by
  obtain ⟨k, hk⟩ := foldl_fillSlot s.keys.store s
  refine ⟨k, { s.guards with active := x.accessTable.foldl (fun m kv => tput m kv.1 kv.2) [], shadow := x.accessTable.foldl (fun m kv => tput m kv.1 kv.2) [] }, ?_⟩
  unfold State.enterKeeper
  rw [hk]
  rfl

theorem enterKeeper_image (s : State) (x : BootIn) (boot : PairId) (h : ImageHead) (entry : Nat) :
    (s.enterKeeper x boot h entry).chip.booted = true ∧ (s.enterKeeper x boot h entry).chip.image = h ∧ (s.enterKeeper x boot h entry).flash = s.flash := by
  obtain ⟨k, g, hk⟩ := enterKeeper_eq s x boot h entry
  rw [hk]
  simp

theorem enterKeeper_pc (s : State) (x : BootIn) (boot : PairId) (h : ImageHead) (entry : Nat) :
    ((s.enterKeeper x boot h entry).core boot).pc = BitVec.ofNat 64 entry := by
  obtain ⟨k, g, hk⟩ := enterKeeper_eq s x boot h entry
  rw [hk]
  exact congrArg Pair.pc (core_updPair ((((s.updKeys (fun _ => k)).updGuards (fun _ => g)).addTo Reg.AT_EPOCH.EPOCH 1).flag Reg.AT_STATUS.BOOT false) boot
    (fun q => { q with pc := BitVec.ofNat 64 entry }))

theorem enterKeeper_rd (s : State) (x : BootIn) (boot : PairId) (h : ImageHead) (entry : Nat) {f : Field} (hepoch : f.key ≠ Reg.AT_EPOCH.EPOCH.key)
    (hboot : f.key ≠ Reg.AT_STATUS.BOOT.key) (htime : f.key ≠ Reg.BOOT_TIME.US.key) : (s.enterKeeper x boot h entry).rd f = s.rd f := by
  obtain ⟨k, g, hk⟩ := enterKeeper_eq s x boot h entry
  rw [hk]
  refine (rd_wr_ne _ _ htime).trans ?_
  refine (rd_flag_ne _ _ hboot).trans ?_
  exact rd_wr_ne _ _ hepoch

/-- POWER_GOOD_BOOT with a pair that passed its self-test (R462). -/
theorem powerGoodBoot_run {s v : State} {x : BootIn} {p : Nat} {rest : List Nat} {choice : Option (Nat × Nat)} (hon : s.mainOn = true)
    (hbooted : s.chip.booted = false) (hfailed : s.chip.bootFailed = false) (hp : pairs.filter (fun p => x.pairs.contains p) = p :: rest)
    (hv : (s.bootUnits x).chooseTwin x = (choice, v)) :
    exec (.powerGoodBoot x) s = .next (if (v.bootImage x (pairOf p) choice).chip.booted then (v.bootImage x (pairOf p) choice).bootDone x
      else ((v.bootImage x (pairOf p) choice).flag Reg.FCU_PIN.LEVEL false).updChip (fun c => { c with bootFailed := true })) := by
  have hgo : ¬ ((!s.mainOn) = true ∨ s.chip.booted = true ∨ s.chip.bootFailed = true) := by simp [hon, hbooted, hfailed]
  change execPowerGoodBoot x s = _
  unfold execPowerGoodBoot
  simp only [if_neg hgo, hp, hv]
  split <;> rfl

/-- A boot failure (R463): the pin low, and nothing else than registers and the chip's flags. -/
theorem bootFailure {v u : State} (hu : Upd 8 v u) :
    ((u.flag Reg.FCU_PIN.LEVEL false).updChip (fun c => { c with bootFailed := true })).chip.bootFailed = true ∧
    ((u.flag Reg.FCU_PIN.LEVEL false).updChip (fun c => { c with bootFailed := true })).rd Reg.FCU_PIN.LEVEL = 0 ∧
    v.agreeBut [.regs, .chip] ((u.flag Reg.FCU_PIN.LEVEL false).updChip (fun c => { c with bootFailed := true })) :=
  ⟨rfl, rd_flag_self _ _ _, ((hu.seq State.flag_upd).seq State.updChip_upd).agreeBut (by decide)⟩

/-- The key slots of the signing are named before the image. -/
theorem signSlots_upd (v : State) : Upd 8 v (((v.wr Reg.PCK_SIGN_SLOTS.SEED_SLOT 3).wr Reg.PCK_SIGN_SLOTS.PRF_SLOT 4).wr Reg.RST_IDX_KEY.SLOT 6) :=
  (State.wr_upd.seq State.wr_upd).seq State.wr_upd

/-- Settles O42: the twin chosen, the recovery image, and neither. -/
theorem bootCommandCompletes : Obligations.BootCommandCompletes := by
  unfold Obligations.BootCommandCompletes
  refine fun s v x p rest hon hbooted hfailed hp => ⟨?twin, ?recovery, ?none⟩
  case twin =>
    intro tw n hv
    have hrun := powerGoodBoot_run hon hbooted hfailed hp hv
    obtain ⟨w, hw⟩ : ∃ w, w = v.bootImage x (pairOf p) (some (tw, n)) := ⟨_, rfl⟩
    rw [← hw] at hrun
    unfold State.bootImage at hw
    simp only at hw
    generalize hu : State.countPinned _ = u at hw
    obtain ⟨hb, himage, hflash⟩ := enterKeeper_image u x (pairOf p) (u.twinHead tw) (twinAddress tw (u.twinHead tw).entry)
    rw [← hw] at hb himage hflash
    have hhead : w.twinHead tw = u.twinHead tw := by rw [State.twinHead, hflash, State.twinHead]
    rw [hb, if_pos rfl] at hrun
    refine ⟨_, w, hrun, hb, himage.trans hhead.symm, ?_, ?_, rfl⟩
    · rw [hw, enterKeeper_rd _ _ _ _ _ (by decide) (by decide) (by decide), ← hu, State.countPinned, rd_wr_ne _ _ (by decide)]
      refine (rd_wr_ne _ _ (by decide)).trans ?_
      rw [rd_flag_ne _ _ (by decide)]
      exact rd_wr_self _ _ _
    · rw [hhead, hw]
      exact enterKeeper_pc _ _ _ _ _
  case recovery =>
    intro b h u hv hb hh hvb hu
    have hrun := powerGoodBoot_run hon hbooted hfailed hp hv
    have hub : u.chip.booted = false := by
      rw [hu]
      exact hvb
    by_cases hcheck : u.imageCheck 2 (slice b) none false = 0
    case pos =>
      have hw : v.bootImage x (pairOf p) none = ((u.flag Reg.BOOT_STATUS.RECOVERY true).writeMem 0x4000000 ((slice b 0x10000 h.len).take 12582912)).enterKeeper x
          (pairOf p) h (0x4000000 + h.entry) := by
        unfold State.bootImage
        simp only [hb, ← hu, ← hh, if_pos hcheck]
      obtain ⟨hwb, himage, -⟩ := enterKeeper_image ((u.flag Reg.BOOT_STATUS.RECOVERY true).writeMem 0x4000000 ((slice b 0x10000 h.len).take 12582912)) x
        (pairOf p) h (0x4000000 + h.entry)
      rw [hw, hwb, if_pos rfl] at hrun
      refine ⟨_, hrun, fun _ => ⟨_, hwb, himage, ?_, enterKeeper_pc _ _ _ _ _, rfl⟩, fun hne => absurd hcheck hne⟩
      rw [enterKeeper_rd _ _ _ _ _ (by decide) (by decide) (by decide), rd_writeMem (by decide)]
      exact rd_flag_self _ _ _
    case neg =>
      have hw : v.bootImage x (pairOf p) none = u := by
        unfold State.bootImage
        simp only [hb, ← hu, if_neg hcheck]
      rw [hw, hub, if_neg (by decide)] at hrun
      refine ⟨_, hrun, fun h0 => absurd h0 hcheck, fun _ => bootFailure ?_⟩
      rw [hu]
      exact signSlots_upd v
  case none =>
    intro hv hb hvb
    have hrun := powerGoodBoot_run hon hbooted hfailed hp hv
    have hw : v.bootImage x (pairOf p) none = ((v.wr Reg.PCK_SIGN_SLOTS.SEED_SLOT 3).wr Reg.PCK_SIGN_SLOTS.PRF_SLOT 4).wr Reg.RST_IDX_KEY.SLOT 6 := by
      unfold State.bootImage
      simp only [hb]
    rw [hw] at hrun
    refine ⟨_, hrun.trans (congrArg Host.Outcome.next (if_neg ?_)), bootFailure (signSlots_upd v)⟩
    change ¬ v.chip.booted = true
    rw [hvb]
    decide

end Sys2Proof.Machine
end

section
/-!
PROOFS. The fault collector's commands (chapter 14).
-/

namespace Sys2Proof.Machine

/-- A record of the collector after it is changed. -/
theorem recs_updRec_self {s : State} {n : Nat} {r : FaultRec} (h : tget s.collector.recs n = some r) (f : FaultRec → FaultRec) :
    tget (s.updRec n f).collector.recs n = some (f r) := by
  change tget (tupd s.collector.recs n {} f) n = _
  rw [tupd, tget_tput_self, tgetD, h]
  rfl

/-- The fields of an injection request from Keeper world (R479). -/
theorem injFields_keeper (s : State) (src mode : Nat) (react : Bool) (mask : Nat) : s.injFields .keeper src mode react mask =
    (((s.wr Reg.FCU_INJ.SRC src).wr Reg.FCU_INJ.MODE mode).flag Reg.FCU_INJ.REACT react).wr Reg.FCU_INJ.MASK mask := rfl

theorem injFields_upd (s : State) (src mode : Nat) (react : Bool) (mask : Nat) : Upd 8 s (s.injFields .keeper src mode react mask) := by
  rw [injFields_keeper]
  exact ((State.wr_upd.seq State.wr_upd).seq State.flag_upd).seq State.wr_upd

theorem injFields_src (s : State) {src : Nat} (h : src < 1024) (mode : Nat) (react : Bool) (mask : Nat) :
    (s.injFields .keeper src mode react mask).rd Reg.FCU_INJ.SRC = src := by
  rw [injFields_keeper, rd_wr_ne _ _ (by decide), rd_flag_ne _ _ (by decide), rd_wr_ne _ _ (by decide), rd_wr_self]
  exact Nat.mod_eq_of_lt h

theorem injFields_mode (s : State) (src : Nat) {mode : Nat} (h : mode < 4) (react : Bool) (mask : Nat) :
    (s.injFields .keeper src mode react mask).rd Reg.FCU_INJ.MODE = mode := by
  rw [injFields_keeper, rd_wr_ne _ _ (by decide), rd_flag_ne _ _ (by decide), rd_wr_self]
  exact Nat.mod_eq_of_lt h

/-- CHECK where the test conditions hold, and where not (R480). -/
theorem fcuInjCheck_allowed {s v : State} {src mask : Nat} (hv : v = s.injFields .keeper src 1 false mask) (hsrc : src < 1024) (h : v.testAllowed = true) :
    exec (.fcuInjCheck src mask .keeper) s =
      .next ((v.updCollector (fun c => { c with checkInj := some (src, v.rd Reg.FCU_INJ.MASK) })).wr Reg.FCU_INJ.ERR 0) := by
  have hs : v.rd Reg.FCU_INJ.SRC = src := hv ▸ injFields_src s hsrc 1 false mask
  have hm : v.rd Reg.FCU_INJ.MODE = 1 := hv ▸ injFields_mode s src (by decide) false mask
  have hgo : ¬ (1 < 1 ∨ (!(decide (1 = 0 ∧ 0x3F0 ≤ src) || v.testAllowed)) = true) := by simp [h]
  change ok ((s.injFields .keeper src 1 false mask).fcuInject) = _
  rw [← hv]
  simp only [State.fcuInject, hs, hm, if_neg hgo]
  rfl

theorem fcuInjCheck_denied {s v : State} {src mask : Nat} (hv : v = s.injFields .keeper src 1 false mask) (h : v.testAllowed = false) :
    exec (.fcuInjCheck src mask .keeper) s = .next (v.wr Reg.FCU_INJ.ERR 1) := by
  have hm : v.rd Reg.FCU_INJ.MODE = 1 := hv ▸ injFields_mode s src (by decide) false mask
  have hgo : 1 < 1 ∨ (!(decide (1 = 0 ∧ 0x3F0 ≤ v.rd Reg.FCU_INJ.SRC) || v.testAllowed)) = true := by simp [h]
  change ok ((s.injFields .keeper src 1 false mask).fcuInject) = _
  rw [← hv]
  simp only [State.fcuInject, hm, if_pos hgo]
  rfl

/-- FCU_CLR of a record that exists (R471). -/
theorem fcuClr_run {s : State} {src : Nat} {r : FaultRec} (h : tget s.collector.recs src = some r) :
    exec (.fcuClr src) s = .next (s.updRec src (fun r => { r with count := 0, conseq := 0, nested := 0, sticky := false, window := none, firstSeq := 0 })) := by
  change ok (s.clearRecord src) = _
  rw [State.clearRecord, h]
  rfl

/-- The only window of an opener closes, when its units are ready or after 100 us (R473). -/
theorem consequenceWindowClose_run {s : State} {w : Window} (h : s.collector.windows = [w]) (hr : w.reaction ≠ rSafe) (ready : Bool) :
    exec (.consequenceWindowClose w.opener ready) s = .next ((if ready then s else s.advanceTo (w.openedAt + 100 * usec)).updCollector
      (fun c => { c with windows := c.windows.erase w })) := by
  change execConsequenceWindowClose w.opener ready s = _
  simp only [execConsequenceWindowClose, h, List.find?_cons, beq_self_eq_true, Bool.true_and, bne_iff_ne.mpr hr, ok]

theorem windows_after_close {u : State} {w : Window} (h : u.collector.windows = [w]) :
    (u.updCollector (fun c => { c with windows := c.windows.erase w })).collector.windows = [] := by
  change u.collector.windows.erase w = []
  simp [h]

theorem fcuSrcCfgWrite_refused {s : State} {c r l : Nat} (h : s.cfgAllowed (s.rd Reg.FCU_SEL.SRC) c r l = false) :
    exec (.fcuSrcCfgWrite c r l .keeper) s = .next (s.updCollector (fun c => { c with refused := true })) := by
  change ok (s.setSourceCfg (s.rd Reg.FCU_SEL.SRC) c r l) = _
  rw [State.setSourceCfg, h]
  rfl

theorem fcuSrcCfgWrite_allowed {s : State} {c r l : Nat} (h : s.cfgAllowed (s.rd Reg.FCU_SEL.SRC) c r l = true) :
    exec (.fcuSrcCfgWrite c r l .keeper) s =
      .next ((s.updRec (s.rd Reg.FCU_SEL.SRC) (fun x => { x with cfg := some (c, r, l) })).updCollector (fun c => { c with refused := false })) := by
  change ok (s.setSourceCfg (s.rd Reg.FCU_SEL.SRC) c r l) = _
  rw [State.setSourceCfg, h]
  rfl

/-- Settles O43, a command at a time. -/
theorem faultCollectorCommandsComplete : Obligations.FaultCollectorCommandsComplete := by
  unfold Obligations.FaultCollectorCommandsComplete
  refine fun s src => ⟨?detection, ?channel, ?nested, ?ready, ?late, ?pulse, ?hold, ?letGo, ?pseudo, ?check, ?denied, ?clr, ?cfgRefused, ?cfg⟩
  case detection =>
    intro d n hsrc hne
    refine ⟨_, ?_, rfl⟩
    change execFaultDetection src d n s = _
    have hlow : ¬ 0x140 ≤ src := by omega
    simp only [execFaultDetection, hne, hlow, false_and, if_false, ok]
  case channel =>
    intro c d n hc
    refine ⟨_, ?_, rfl⟩
    change execFaultDetection (0x140 + 4 * c + 2) d n s = _
    have hmem : ¬ (0x140 + 4 * c + 2 = srcFcuMemErr ∧ s.reacting.isSome = true) := by
      rintro ⟨h, -⟩
      unfold srcFcuMemErr at h
      omega
    have hsrc : 0x140 ≤ 0x140 + 4 * c + 2 ∧ 0x140 + 4 * c + 2 < 0x170 ∧ (0x140 + 4 * c + 2 - 0x140) % 4 = 2 := by omega
    have hchan : (0x140 + 4 * c + 2 - 0x140) / 4 = c := by omega
    simp only [execFaultDetection, if_neg hmem, if_pos hsrc, hchan, ok]
  case nested =>
    intro d n w hw
    refine ⟨_, ?_, rfl⟩
    change execFaultDetection srcFcuMemErr d n s = _
    simp [execFaultDetection, hw, ok]
  case ready =>
    rintro w hw rfl hr
    exact ⟨_, consequenceWindowClose_run hw hr true, State.updCollector_upd.agreeBut (by decide), windows_after_close hw⟩
  case late =>
    rintro w hw rfl hr
    exact ⟨_, consequenceWindowClose_run hw hr false, windows_after_close hw, now_advanceTo _ _⟩
  case pulse =>
    rintro e v he rfl
    refine ⟨((s.advanceTo e).updCollector (fun c => { c with pulseEnd := none })).flag Reg.FCU_PIN.LEVEL (s.advanceTo e).restLevel, ?_,
      (State.updCollector_upd.seq State.flag_upd).agreeBut (by decide), rfl, ?_⟩
    · change execFaultNPulseEnd s = _
      simp only [execFaultNPulseEnd, he, ok]
    · rw [rd_flag_self]
      cases (s.advanceTo e).restLevel <;> rfl
  case hold =>
    refine ⟨_, rfl, (State.flag_upd.seq State.flag_upd).agreeBut (by decide), ?_, ?_⟩
    · exact (rd_flag_ne _ _ (by decide)).trans (rd_flag_self _ _ _)
    · have hrest : (s.flag Reg.FCU_PIN.HOLD true).restLevel = false := by
        rw [State.restLevel, State.isSet, rd_flag_self]
        exact Bool.and_false _
      rw [rd_flag_self, hrest, Bool.and_false]
      rfl
  case letGo =>
    intro v hv hpulse hsafe
    have hrest : v.restLevel = true := by
      rw [State.restLevel, hsafe, hv, State.isSet, rd_flag_self]
      rfl
    refine ⟨(v.flag Reg.FCU_PIN.LEVEL (v.collector.pulseEnd.isNone && v.restLevel)), by rw [hv]; rfl, ?_, ?_, ?_⟩
    · rw [hv]
      exact (State.flag_upd.seq State.flag_upd).agreeBut (by decide)
    · rw [rd_flag_ne _ _ (by decide), hv]
      exact rd_flag_self _ _ _
    · have hnone : v.collector.pulseEnd = none := by
        rw [hv]
        exact hpulse
      rw [rd_flag_self, hrest, hnone]
      rfl
  case pseudo =>
    rintro react v rfl
    exact ⟨_, rfl, rfl⟩
  case check =>
    intro m v hsrc hv h
    refine ⟨_, fcuInjCheck_allowed hv hsrc h, ?_, rfl, rd_wr_self _ _ _⟩
    rw [hv]
    exact (((injFields_upd s src 1 false m).seq State.updCollector_upd).seq State.wr_upd).agreeBut (by decide)
  case denied =>
    intro m v hv h
    refine ⟨_, fcuInjCheck_denied hv h, ?_, rd_wr_self _ _ _⟩
    rw [hv]
    exact ((injFields_upd s src 1 false m).seq State.wr_upd).agreeBut (by decide)
  case clr =>
    intro r hr
    exact ⟨_, fcuClr_run hr, State.updRec_upd.agreeBut (by decide), recs_updRec_self hr _⟩
  case cfgRefused =>
    rintro c r l rfl h
    exact ⟨_, fcuSrcCfgWrite_refused h, State.updCollector_upd.agreeBut (by decide), rfl, rfl⟩
  case cfg =>
    rintro c r l rfl h
    exact ⟨_, fcuSrcCfgWrite_allowed h, (State.updRec_upd.seq State.updCollector_upd).agreeBut (by decide), rfl, _, tget_tput_self _ _ _, rfl⟩

/-- Settles O45: the record's update keeps the fields it does not name, and the table's other records. -/
theorem clearingARecordLeavesLiveAndLastSeq : Obligations.ClearingARecordLeavesLiveAndLastSeq := by
  unfold Obligations.ClearingARecordLeavesLiveAndLastSeq
  intro s src r hr
  refine ⟨_, fcuClr_run hr, State.updRec_upd.agreeBut (by decide), ?_⟩
  have hold : s.faultRec src = r := by rw [State.faultRec, tgetD, hr]; rfl
  have hnew : ∀ f, (s.updRec src f).faultRec src = f r := by
    intro f
    rw [State.faultRec, tgetD, recs_updRec_self hr f]
    rfl
  rw [hnew, hold]
  exact ⟨rfl, rfl, rfl, rfl, rfl, rfl, rfl, rfl, fun k hk => tget_tput_ne _ _ hk⟩

/-- In `movingState` an injected test source aborts the object that has too few channels, as every settled loss does. -/
theorem movingState_injected : ∃ t, exec (.fcuInjPseudo 0x3F0 false .keeper) movingState = .next t ∧ t.pack.notarisedWaiting = [] := ⟨_, rfl, by decide⟩

/-- The detection alone, with the collector not yet running, leaves the Pack. -/
theorem movingState_detected (d : Nat) (inj : Injection) :
    (((movingState.injFields .keeper 0x3F0 0 false 0).wr Reg.FCU_INJ.ERR 0).detect 0x3F0 d inj).pack = movingState.pack := rfl

/-- Refutes O44: its clause of an accepted PSEUDO ends with the detection, but the model then also settles what the loss of a channel left (an injected
detection may itself lose one). In `movingState` that aborts an object and takes it off the Pack's waiting list, which the detection leaves as it is. -/
theorem not_injectionsAreAcceptedOrDenied : ¬ Obligations.InjectionsAreAcceptedOrDenied := by
  unfold Obligations.InjectionsAreAcceptedOrDenied
  intro h
  obtain ⟨hpseudo, -⟩ := h movingState (movingState.injFields .keeper 0x3F0 0 false 0) 0x3F0 0 false (by decide) (by decide)
  obtain ⟨t, hrun, ht⟩ := hpseudo rfl (Or.inl (Nat.le_refl _))
  obtain ⟨u, hrun', hempty⟩ := movingState_injected
  have htu : u = t := Host.Outcome.next.inj (hrun'.symm.trans hrun)
  have hlisted : t.pack.notarisedWaiting = [7] := by
    rw [ht, movingState_detected]
    rfl
  rw [← htu, hempty] at hlisted
  exact absurd hlisted (by decide)

end Sys2Proof.Machine
end

section
/-!
PROOFS. The contactless reader's commands (chapter 16).
-/

namespace Sys2Proof.Machine

/-- A reader command in service: its work on the state in which OP stands, its error code and its interrupt (R514). -/
theorem nfcCmd_serves {s v u : State} {op e : Nat} (hv : v = (s.wr Reg.NFC_CMD.OP op).updReader (fun r => { r with last := s.now }))
    (hext : v.reader.mode ≠ .extField) (hfault : v.reader.mode ≠ .fault) (hserves : v.nfcServes = true) {f : State → State × Nat} (hf : f v = (u, e)) :
    s.nfcCmd .keeper op f = (u.wr Reg.NFC_CMD.ERR e).interrupt 210 := by
  have hgo : ¬ ((!v.nfcServes) = true ∨ v.reader.mode = .fault) := by simp [hserves, hfault]
  subst hv
  unfold State.nfcCmd
  simp only [reduceCtorEq, if_false]
  rw [if_neg hext, if_neg hgo, hf]

/-- A reader command while another's field is there (R514). -/
theorem nfcCmd_extField {s : State} {op : Nat} (hext : s.reader.mode = .extField) (f : State → State × Nat) :
    s.nfcCmd .keeper op f = (((s.wr Reg.NFC_CMD.OP op).updReader (fun r => { r with last := s.now })).wr Reg.NFC_CMD.ERR nExtField).interrupt 210 := by
  unfold State.nfcCmd
  simp only [reduceCtorEq, if_false]
  rw [if_pos (show ((s.wr Reg.NFC_CMD.OP op).updReader (fun r => { r with last := s.now })).reader.mode = .extField from hext)]

/-- A mode that serves commands. -/
theorem active_serves {v : State} (h : v.reader.mode = .active) : v.reader.mode ≠ .extField ∧ v.reader.mode ≠ .fault := by
  rw [h]
  decide

theorem dropCard_reader (s : State) (m : ReaderMode) : (s.dropCard m).reader.mode = m ∧ (s.dropCard m).reader.card = none := ⟨rfl, rfl⟩

/-- A detection ping in the idle field (R509). -/
theorem detectionPing_run {s v : State} {amp : Nat} {ph : Int} (cards : List Card) (hserves : s.nfcServes = true) (hdet : s.isSet Reg.NFC_CTRL.DETECT = true)
    (hidle : s.reader.mode = .idle) (hv : v = s.advance (max 50 (min 2000 (s.rd Reg.NFC_DETECT.PERIOD_MS)) * msec)) :
    exec (.detectionPing amp ph cards) s = .next (if v.reader.pings.length < 16 then v.updReader (fun r => { r with pings := r.pings ++ [(amp, ph)] })
      else if v.pingDiffers amp ph then (v.pollField cards).1 else v.updReader (fun r => { r with pings := r.pings.drop 1 ++ [(amp, ph)] })) := by
  have hgo : ¬ ((!s.nfcServes) = true ∨ (!s.isSet Reg.NFC_CTRL.DETECT) = true ∨ s.reader.mode ≠ .idle) := by simp [hserves, hdet, hidle]
  subst hv
  change execDetectionPing amp ph cards s = _
  simp only [execDetectionPing, if_neg hgo, ok]
  split
  · rfl
  · split <;> rfl

theorem pingDiffers_congr {s t : State} (hreg : t.regs = s.regs) (hr : t.reader = s.reader) (amp : Nat) (ph : Int) : t.pingDiffers amp ph = s.pingDiffers amp ph := by
  unfold State.pingDiffers
  rw [hr, rd_congr hreg]

/-- EXCHANGE with an ISO-DEP card on bytes that the reader may read (R514). -/
theorem exchange_work {v : State} {c : Card} {answer : CardAnswer} (hcard : v.reader.card = some c) (hiso : c.isoDep = true) (hlen : v.rd Reg.NFC_LEN.TXLEN ≠ 0)
    (hright : v.forbidden (unitAccess masterNfc .read (v.rd Reg.NFC_TXADDR.ADDR) (v.rd Reg.NFC_LEN.TXLEN)) = none) {w : State}
    (hw : w = (v.activate c).emit .nfcCard 0 [] (v.readMem (v.rd Reg.NFC_TXADDR.ADDR) (v.rd Reg.NFC_LEN.TXLEN))) {s : State}
    (hv : v = (s.wr Reg.NFC_CMD.OP 2).updReader (fun r => { r with last := s.now })) (hactive : v.reader.mode = .active) (hserves : v.nfcServes = true) :
    exec (.exchange .keeper answer) s = .next (((w.nfcAnswer answer).1.wr Reg.NFC_CMD.ERR (w.nfcAnswer answer).2).interrupt 210) := by
  obtain ⟨hext, hfault⟩ := active_serves hactive
  change ok (s.nfcCmd .keeper 2 _) = _
  refine congrArg ok (nfcCmd_serves hv hext hfault hserves ?_)
  have hmem : (v.activate c).readMem (v.rd Reg.NFC_TXADDR.ADDR) (v.rd Reg.NFC_LEN.TXLEN) = v.readMem (v.rd Reg.NFC_TXADDR.ADDR) (v.rd Reg.NFC_LEN.TXLEN) := by
    unfold State.activate
    split <;> rfl
  simp only [hcard, hiso, if_neg hlen, guardRange_allowed hright, hw]
  rfl

/-- Settles O47, a command at a time. -/
theorem readerCommandsComplete : Obligations.ReaderCommandsComplete := by
  unfold Obligations.ReaderCommandsComplete
  refine fun s v c cards => ⟨?ping, ?wake, ?pending, ?idle, ?field, ?gone, ?poll, ?exchange, ?deselect, ?fieldOff, ?nextCard, ?pollExt⟩
  case ping =>
    intro amp ph hserves hdet hidle hlen
    obtain ⟨v, hv⟩ : ∃ v, v = s.advance (max 50 (min 2000 (s.rd Reg.NFC_DETECT.PERIOD_MS)) * msec) := ⟨_, rfl⟩
    have hreader : v.reader = s.reader := hv ▸ State.advance_reader _ _
    have hframe : Upd 2148007940 s v := hv ▸ State.advance_upd
    refine ⟨_, detectionPing_run cards hserves hdet hidle hv, ?_⟩
    rw [hreader, if_pos hlen]
    exact ⟨(hframe.seq State.updReader_upd).agreeBut (by decide), by rw [← hreader]; rfl⟩
  case wake =>
    intro amp ph hserves hdet hidle hlen hdiff hv
    have hreader : v.reader = s.reader := hv ▸ State.advance_reader _ _
    have hregs : v.regs = s.regs := hv ▸ State.advance_regs _ _
    refine ⟨_, detectionPing_run cards hserves hdet hidle hv, ?_⟩
    rw [hreader, if_neg (Nat.not_lt.mpr hlen), pingDiffers_congr hregs hreader, if_pos hdiff]
  case pending =>
    intro u e rest h
    refine ⟨(s.advanceTo (e + s.checkinLife)).updShepherd (fun p => { p with pendingTags := rest }), ?_,
      (State.advanceTo_upd.seq State.updShepherd_upd).agreeBut (by decide), rfl, now_advanceTo _ _⟩
    change execPendingCheckinExpiry s = _
    simp only [execPendingCheckinExpiry, h, ok]
  case idle =>
    intro h
    refine ⟨_, ?_, rfl, dropCard_reader _ _⟩
    change execTapIdleTimeout s = _
    simp only [execTapIdleTimeout, h, true_or, if_true, ok]
  case field =>
    intro hserves hidle
    refine ⟨s.updReader (fun r => { r with mode := .extField }), ?_, State.updReader_upd.agreeBut (by decide), rfl⟩
    change execExternalField s = _
    simp only [execExternalField, hserves, hidle, and_self, if_true, ok]
  case gone =>
    intro hext
    refine ⟨s.updReader (fun r => { r with mode := .idle }), ?_, State.updReader_upd.agreeBut (by decide), rfl⟩
    change execExtFieldGone s = _
    simp only [execExtFieldGone, hext, if_true, ok]
  case poll =>
    intro hv hext hfault hserves
    have hwork := nfcCmd_serves hv hext hfault hserves (f := fun s => s.pollField cards) (Prod.eta (v.pollField cards)).symm
    exact ⟨_, congrArg ok hwork, rfl⟩
  case exchange =>
    intro answer hv hactive hserves hcard hiso hlen hright w hw
    exact ⟨_, exchange_work hcard hiso hlen hright hw hv hactive hserves, rfl⟩
  case deselect =>
    intro hv hactive hserves hcard
    obtain ⟨hext, hfault⟩ := active_serves hactive
    refine ⟨_, congrArg ok (nfcCmd_serves hv hext hfault hserves ?_), rfl⟩
    rw [hcard]
    rfl
  case fieldOff =>
    intro hv hactive hserves
    obtain ⟨hext, hfault⟩ := active_serves hactive
    exact ⟨_, congrArg ok (nfcCmd_serves hv hext hfault hserves rfl), rfl⟩
  case nextCard =>
    intro hv hactive hserves w hw hlt hfound
    obtain ⟨hext, hfault⟩ := active_serves hactive
    refine ⟨_, congrArg ok (nfcCmd_serves hv hext hfault hserves ?_), rfl⟩
    rw [hactive, if_neg (by decide)]
    simp only [← hw, if_pos hlt, hfound]
  case pollExt =>
    intro hext
    exact ⟨_, congrArg ok (nfcCmd_extField hext _), rfl⟩

end Sys2Proof.Machine
end

section
/-!
PROOFS. The Collar's commands from the field and from the cores (chapter 16).
-/

namespace Sys2Proof.Machine

/-- A command of the application selected in a session of the field (R523). -/
theorem appCommand_selected {s v : State} {x : FieldSession} (hv : v = s.updCollar (fun c => { c with session := some { x with last := s.now } }))
    (hx : s.collar.session = some x) (hsel : x.selected = true) (f : FieldSession → State → State) : s.appCommand f = f x v := by
  unfold State.appCommand State.fieldCommand
  simp only [hx, hsel, if_true, hv]

/-- A command of a core on the Collar while no field session runs (R526). -/
theorem colCmd_run {s v u : State} {op pw e : Nat} (hv : v = (s.wr Reg.COL_CMD.OP op).wr Reg.COL_CMD.PW pw) (hnone : s.collar.session = none)
    {f : State → State × Nat} (hf : f v = (u, e)) : s.colCmd .keeper op pw f = u.wr Reg.COL_CMD.ERR e := by
  have hsome : ¬ v.collar.session.isSome = true := by
    rw [hv]
    exact fun h => by rw [show ((s.wr Reg.COL_CMD.OP op).wr Reg.COL_CMD.PW pw).collar = s.collar from rfl, hnone] at h; nomatch h
  unfold State.colCmd
  simp only [reduceCtorEq, if_false, ← hv, if_neg hsome, hf]

/-- A password of one to three that is not refused for its form. -/
theorem pwForm {n : Nat} (hlow : 1 ≤ n) (hhigh : n ≤ 3) : ¬ (n = 0 ∨ 3 < n) := by omega

/-- VERIFY of a password that is set (R524): blocked, right, or wrong. -/
theorem verify_blocked {s v : State} {x : FieldSession} {n : Nat} {pw : List Byte} (hv : v = s.updCollar (fun c => { c with session := some { x with last := s.now } }))
    (hx : s.collar.session = some x) (hsel : x.selected = true) (hn : 1 ≤ n ∧ n ≤ 3) (hpw : pw.length = 8) (hset : bitOf v.security.set (n - 1) = true)
    (htries : v.security.triesOf n = 0) : exec (.verify n pw true false) s = .next (v.fieldAnswer swBlocked) := by
  change execVerify n pw true false s = _
  rw [execVerify, appCommand_selected hv hx hsel]
  simp only [if_neg (pwForm hn.1 hn.2), hpw, hset, htries]
  rfl

theorem verify_tries {s v w : State} {x : FieldSession} {n : Nat} {pw : List Byte} (hv : v = s.updCollar (fun c => { c with session := some { x with last := s.now } }))
    (hx : s.collar.session = some x) (hsel : x.selected = true) (hn : 1 ≤ n ∧ n ≤ 3) (hpw : pw.length = 8) (hset : bitOf v.security.set (n - 1) = true)
    (htries : 2 ≤ v.security.triesOf n) (hw : w = v.putSecurity (v.security.setTries n (v.security.triesOf n - 1))) :
    exec (.verify n pw true false) s = .next (if v.security.pw.getD (n - 1) [] = pw then
        ((w.putSecurity (w.security.setTries n 8)).updCollar (fun c => { c with session := some { x with
          verified := if n ∈ x.verified then x.verified else n :: x.verified, last := (w.putSecurity (w.security.setTries n 8)).now } })).fieldAnswer swDone
      else w.fieldAnswer (0x63C0 + (v.security.triesOf n - 1))) := by
  have hsome : ¬ v.security.triesOf n = 0 := by omega
  have hleft : ¬ v.security.triesOf n - 1 = 0 := by omega
  change execVerify n pw true false s = _
  rw [execVerify, appCommand_selected hv hx hsel]
  simp only [if_neg (pwForm hn.1 hn.2), hpw, hset, if_neg hsome, if_neg hleft, ← hw, ok]
  rfl

/-- A block of the security page written leaves the time. -/
theorem now_putSecurity (s : State) (b : SecBlock) : (s.putSecurity b).now = s.now := rfl

theorem appendNote_run {s v : State} {x : FieldSession} {pw : List Byte} (hv : v = s.updCollar (fun c => { c with session := some { x with last := s.now } }))
    (hx : s.collar.session = some x) (hsel : x.selected = true) (hpw : pw.length = 16) (hver : 2 ∈ x.verified) :
    exec (.appendNote pw true 0) s = .next ((v.collarAppend false crFieldNote pw 0).fieldAnswer swDone (leBytes 4 v.collar.custody.nextSeq)) := by
  change execAppendNote pw true 0 s = _
  rw [execAppendNote, appCommand_selected hv hx hsel]
  simp [hpw, hver, ok]

theorem changePw_run {s v : State} {x : FieldSession} {n : Nat} {pw : List Byte} (hv : v = s.updCollar (fun c => { c with session := some { x with last := s.now } }))
    (hx : s.collar.session = some x) (hsel : x.selected = true) (hn : 1 ≤ n ∧ n ≤ 3) (hpw : pw.length = 8) (hadmin : v.fieldAdmin x = true) :
    exec (.changePw n pw true) s = .next ((v.setPassword n pw 1).fieldAnswer swDone) := by
  change execChangePw n pw true s = _
  rw [execChangePw, appCommand_selected hv hx hsel]
  simp only [if_neg (pwForm hn.1 hn.2), hpw, hadmin]
  rfl

theorem resetTries_run {s v : State} {x : FieldSession} {n : Nat} (hv : v = s.updCollar (fun c => { c with session := some { x with last := s.now } }))
    (hx : s.collar.session = some x) (hsel : x.selected = true) (hn : 1 ≤ n ∧ n ≤ 2) (hadmin : v.fieldAdmin x = true) :
    exec (.resetTries n true) s = .next ((v.putSecurity (v.security.setTries n 8)).fieldAnswer swDone) := by
  have hgo : ¬ (n ≠ 1 ∧ n ≠ 2) := by omega
  change execResetTries n true s = _
  rw [execResetTries, appCommand_selected hv hx hsel]
  simp only [if_neg hgo, hadmin]
  rfl

theorem collarRead_run {s v : State} {x : FieldSession} {a n : Nat} (hv : v = s.updCollar (fun c => { c with session := some { x with last := s.now } }))
    (hx : s.collar.session = some x) (hsel : x.selected = true) (hpos : 0 < n) (hn : n ≤ 256) (ha : a + n ≤ 65536)
    (hmay : (rangeFrom a n).all (v.fieldMay x) = true) : exec (.collarRead a n) s = .next (v.fieldAnswer swDone (v.collarBytes a n)) := by
  have h0 : ¬ n = 0 := by omega
  have hlen : ¬ 256 < n := by omega
  have hgo : ¬ (65536 < a + n ∨ (!(rangeFrom a n).all (v.fieldMay x)) = true) := by
    rw [hmay]
    exact fun h => h.elim (Nat.not_lt.mpr ha) (by decide)
  change execCollarRead a n s = _
  rw [execCollarRead, appCommand_selected hv hx hsel]
  simp only [if_neg h0, if_neg hlen, if_neg hgo, ok]

/-- COL_READ of bytes in range (R526). -/
theorem colRead_run {s v : State} (hnone : s.collar.session = none) (hv : v = (s.wr Reg.COL_CMD.OP 1).wr Reg.COL_CMD.PW (s.rd Reg.COL_CMD.PW))
    (hpos : 0 < v.rd Reg.COL_ADDR.LEN) (hn : v.rd Reg.COL_ADDR.LEN ≤ 256) (ha : v.rd Reg.COL_ADDR.ADDR + v.rd Reg.COL_ADDR.LEN ≤ 65536) :
    exec (.colRead .keeper) s =
      .next ((v.setColWin (v.collarBytes (v.rd Reg.COL_ADDR.ADDR) (v.rd Reg.COL_ADDR.LEN))).wr Reg.COL_CMD.ERR 0) := by
  have hgo : ¬ (v.rd Reg.COL_ADDR.LEN = 0 ∨ 256 < v.rd Reg.COL_ADDR.LEN ∨ 65536 < v.rd Reg.COL_ADDR.ADDR + v.rd Reg.COL_ADDR.LEN) := by omega
  change ok (s.colCmd .keeper 1 _ _) = _
  exact congrArg ok (colCmd_run hv hnone (if_neg hgo))

/-- Settles O48, a command at a time. -/
theorem collarCommandsComplete : Obligations.CollarCommandsComplete := by
  unfold Obligations.CollarCommandsComplete
  refine ⟨fun s v x n pw => ⟨?power, ?activation, ?select, fun hv hx hsel => ⟨?read, ?getState, ?blocked, ?right, ?wrong, ?note, ?change, ?reset⟩, ?sessionEnd⟩,
    fun s v n hnone => ⟨?colRead, ?append, ?setPw, ?unblock, ?policy, ⟨_, rfl, rfl⟩⟩⟩
  case power =>
    refine ⟨_, rfl, (((Upd.snd (State.draw_upd (w := 24))).seq State.updCollar_upd).seq State.flag_upd).agreeBut (by decide), rfl, rfl, rd_flag_self _ _ _, ?_, ?_⟩
    · exact Nat.le_add_right _ _
    · exact Nat.add_lt_add_left (Nat.mod_lt _ (by decide)) _
  case activation =>
    intro hscan hcarrier
    have hgo : ¬ ((!s.collar.scanned) = true ∨ s.carrierOn = true) := by simp [hscan, hcarrier]
    refine ⟨((s.updCollar (fun c => { c with session := some { selected := false, verified := [], last := s.now } })).flag Reg.COL_STATUS.SESSION true).emit
      .fieldReader 0x01 [s.collar.uid, 0x20, 8, 4, 0], ?_, ((State.updCollar_upd.seq State.flag_upd).seq State.emit_upd).agreeBut (by decide), rd_flag_self _ _ _, rfl⟩
    change execCollarActivation s = _
    simp only [execCollarActivation, if_neg hgo]
    rfl
  case select =>
    intro hx
    refine ⟨((s.updCollar (fun c => { c with session := some { x with last := s.now } })).updCollar
      (fun c => { c with session := some { x with selected := true, last := s.now } })).fieldAnswer swDone, ?_,
      ((State.updCollar_upd.seq State.updCollar_upd).seq State.fieldAnswer_upd).agreeBut (by decide), rfl, rfl⟩
    change execCollarSelect _ s = _
    simp only [execCollarSelect, State.fieldCommand, hx, if_true]
    rfl
  case read =>
    intro a hpos hn ha hmay
    exact ⟨_, collarRead_run hv hx hsel hpos hn ha hmay, rfl⟩
  case getState =>
    refine ⟨_, _, congrArg ok (appCommand_selected hv hx hsel _), rfl, ?_⟩
    subst hv
    rfl
  case blocked =>
    intro hlow hhigh hpw hset htries
    exact ⟨_, verify_blocked hv hx hsel ⟨hlow, hhigh⟩ hpw hset htries, rfl⟩
  case right =>
    intro w hlow hhigh hpw hset htries hright hnew hw
    refine ⟨_, _, verify_tries hv hx hsel ⟨hlow, hhigh⟩ hpw hset htries hw, rfl, ?_⟩
    have hnow : (w.putSecurity (w.security.setTries n 8)).now = s.now := by
      rw [now_putSecurity, hw, now_putSecurity, hv]
      rfl
    rw [if_pos hright, if_neg hnew, hnow]
  case wrong =>
    intro w hlow hhigh hpw hset htries hwrong hw
    exact ⟨_, verify_tries hv hx hsel ⟨hlow, hhigh⟩ hpw hset htries hw, if_neg hwrong⟩
  case note =>
    intro hpw hver
    refine ⟨_, appendNote_run hv hx hsel hpw hver, ?_⟩
    subst hv
    rfl
  case change =>
    intro hlow hhigh hpw hadmin
    exact ⟨_, changePw_run hv hx hsel ⟨hlow, hhigh⟩ hpw hadmin, rfl⟩
  case reset =>
    intro hlow hhigh hadmin
    exact ⟨_, resetTries_run hv hx hsel ⟨hlow, hhigh⟩ hadmin, rfl⟩
  case sessionEnd =>
    intro hx
    constructor
    · refine ⟨_, ?_, rfl⟩
      change execCollarSessionEnd true false s = _
      simp only [execCollarSessionEnd, hx]
      rfl
    · refine ⟨_, ?_, rfl⟩
      change execCollarSessionEnd false true s = _
      simp only [execCollarSessionEnd, hx, if_true, Bool.not_false, ok]
  case colRead =>
    intro hv hpos hn ha
    exact ⟨_, colRead_run hnone hv hpos hn ha, rfl⟩
  case append =>
    intro hv
    exact ⟨_, congrArg ok (colCmd_run hv hnone rfl), rfl⟩
  case setPw =>
    intro hv hlow hhigh
    exact ⟨_, congrArg ok (colCmd_run hv hnone (if_neg (pwForm hlow hhigh))), rfl⟩
  case unblock =>
    intro hv hlow hhigh
    exact ⟨_, congrArg ok (colCmd_run hv hnone (if_neg (pwForm hlow hhigh))), rfl⟩
  case policy =>
    intro hv
    exact ⟨_, congrArg ok (colCmd_run hv hnone rfl), rfl⟩

end Sys2Proof.Machine
end

section
/-!
PROOFS. The panel's buttons and the service card (chapter 17).
-/

namespace Sys2Proof.Machine

/-- A press that is recognised holds its button from the press's start (R528). -/
theorem servAt_recognise (s : State) : (s.recognise true).panel.servAt = some s.now := by
  rw [State.recognise, if_pos rfl, State.updPanel_panel]

/-- A presence press (R529). -/
theorem presencePress_run {s v : State} (hserves : s.panelServes = true) (hnone : s.panel.presAt = none) (hfree : s.panel.presBlocked = false)
    (hv : v = s.advance s.debounce) :
    exec .presencePress s = .next ((((((v.flag Reg.PNL_BTN.PRES_LIVE true).addTo Reg.PNL_BTN.PRES_CNT 1).wr Reg.PNL_PRES_TIME.TIME s.time64).updPanel
      (fun q => { q with presAt := some s.now })).trailRec 0x0301 masterPanel true (leBytes 8 s.time64)).interrupt 220) := by
  have hgo : ¬ ((!s.panelServes) = true ∨ s.panel.presAt.isSome = true ∨ s.panel.presBlocked = true) := by simp [hserves, hnone, hfree]
  subst hv
  change execPresencePress s = _
  rw [execPresencePress, if_neg hgo, ok, State.recognise, if_neg (by decide)]

/-- A service press shorter than LONG_S (R530). -/
theorem servicePress_run {s v : State} {n : Nat} (hserves : s.panelServes = true) (hnone : s.panel.servAt = none) (hfree : s.panel.servBlocked = false)
    (hshort : n * msec < s.longPress) (hv : v = s.recognise true) :
    exec (.servicePress n) s = .next (((v.advanceTo (s.now + n * msec)).releaseButton true).interrupt 221) := by
  have hgo : ¬ ((!s.panelServes) = true ∨ s.panel.servAt.isSome = true ∨ s.panel.servBlocked = true ∨ s.longPress ≤ n * msec) := by
    simp [hserves, hnone, hfree, hshort]
  subst hv
  change execServicePress n s = _
  rw [execServicePress, if_neg hgo]
  simp only [servAt_recognise, Option.getD_some, ok]

/-- The release of a held button; only a presence press that was neither blocked nor too long counts (R529). -/
theorem buttonRelease_run {s v : State} {b : Bool} {p n : Nat} (hserves : s.panelServes = true) (hheld : s.pressed b = some p)
    (hv : v = s.advanceTo (p + n * msec)) :
    exec (.buttonRelease b n) s = .next (if !b && !s.panel.presBlocked && decide (n * msec ≤ s.stuckLimit) then
      (v.releaseButton b).updPanel (fun q => { q with presses := p :: q.presses }) else v.releaseButton b) := by
  subst hv
  change execButtonRelease b n s = _
  simp only [execButtonRelease, hserves, hheld, ok]
  rfl

/-- A long press of a powered card that is not locked ejects it (R530). -/
theorem longPress_run {s v : State} (hserves : s.panelServes = true) (hnone : s.panel.servAt = none) (hfree : s.panel.servBlocked = false)
    (hv : v = (s.recognise true).advanceTo (s.now + (s.recognise true).longPress)) (hidle : v.sd.running = none) (hpow : v.cardPowered = true)
    (hstate : v.scState ≠ scLocked) : exec .longPress s = .next ((v.cardOff scOff).sdEnd sdOk) := by
  have hgo : ¬ ((!s.panelServes) = true ∨ s.panel.servBlocked = true ∨ s.panel.servAt.isSome = true) := by simp [hserves, hnone, hfree]
  have heject : v.eject = (v.cardOff scOff, some sdOk) := by
    rw [State.eject, hpow, if_neg hstate]
    rfl
  change execLongPress s = _
  rw [execLongPress, if_neg hgo]
  simp only [servAt_recognise, Option.getD_some, ← hv, hidle, Option.isSome_none, Bool.false_eq_true, if_false, heject, ok]

/-- PNL_STUCK of a service button that was not yet recognised (R531). -/
theorem pnlStuck_service_run {s u v : State} (hserves : s.panelServes = true) (hfree : s.panel.servBlocked = false) (hnone : s.panel.servAt = none)
    (hu : u = s.recognise true) (hv : v = u.advanceTo (s.now + u.stuckLimit)) :
    exec (.pnlStuck true) s = .next (((v.flag Reg.PNL_BTN.SERV_STUCK true).updPanel (fun q => { q with servBlocked := true })).raise srcPnlStuck 1) := by
  have hgo : ¬ ((!s.panelServes) = true ∨ s.blocked true = true) := by simp [hserves, State.blocked, hfree]
  have hpressed : s.pressed true = none := hnone
  have hheld : u.pressed true = some s.now := by
    rw [hu]
    exact servAt_recognise s
  change execPnlStuck true s = _
  rw [execPnlStuck, if_neg hgo]
  simp only [hpressed, Option.isSome_none, Bool.false_eq_true, if_false, ← hu, hheld, Option.getD_some, ← hv, if_true, ok]
  rfl

/-- A card operation that ends at once, from the state in which it has started. -/
theorem sdCmd_done {s v w : State} {op e : Nat} {f : State → State × Option Nat} (hserves : s.panelServes = true) (hbusy : s.isSet Reg.SC_CMD.BUSY = false)
    (hv : v = (s.wr Reg.SC_CMD.OP op).updSd (fun d => { d with last := s.now })) (hf : f v = (w, some e)) :
    ok (s.sdCmd .keeper op f) = .next (w.sdEnd e) := by
  subst hv
  exact congrArg ok (sdCmd_ends hserves hbusy hf)

/-- A card in service is reached by an operation. -/
theorem withCard_ready {v : State} (hpow : v.cardPowered = true) (hlock : v.scState ≠ scLocked) (hsleep : v.scState ≠ scSleep)
    (f : State → State × Option Nat) : v.withCard f = f v := by
  obtain ⟨hpres, hpower⟩ := Bool.and_eq_true_iff.mp hpow
  have hgo : ¬ ((!v.isSet Reg.SC_STATUS.PRESENT) = true ∨ (!v.isSet Reg.SC_STATUS.POWER) = true) := by simp [hpres, hpower]
  rw [State.withCard, if_neg hgo, if_neg hlock, if_neg hsleep]

/-- A range of blocks that the card has. -/
theorem scRange_inside {v : State} (hcount : v.scCount ≠ 0) (hle : v.scFirst + v.scCount ≤ v.sd.blocks) (f : State → State × Option Nat) :
    v.scRange f = f v := by
  rw [State.scRange, if_neg hcount, if_neg (Nat.not_lt.mpr hle)]

/-- An operation with no CRC error. -/
theorem sdOutcome_ok (s : State) (read : Bool) : s.sdOutcome read (.ok 0) = (s.bump Reg.SC_EVENTS.CRC_RETRY 0, some sdOk) := by
  rw [State.sdOutcome, Nat.zero_min]

/-- A password of legal length that the engine may read is sent (R538). -/
theorem password_sent {v w : State} {n kind : Nat} (hn : n = v.scCount % 32) (hlow : 1 ≤ n) (hhigh : n ≤ 16)
    (hread : v.guardRange masterCard .read v.scBuf n = (true, w)) (f : State → State × Option Nat) :
    v.password kind f = f (w.emit .serviceCard 42 [kind, n] (w.readMem w.scBuf n)) := by
  have hgo : ¬ (n = 0 ∨ 16 < n) := by omega
  unfold State.password
  simp only [← hn, if_neg hgo, hread]

/-- A removal's update of the slot. -/
theorem cardRemoval_run {s v : State} (hserves : s.panelServes = true) (stage : SdStage)
    (hv : v = ((s.bump Reg.SC_EVENTS.REMOVED).cardOff scEmpty).flag Reg.SC_STATUS.PRESENT false) {r : Option Nat} (hr : v.sd.running = r) :
    exec (.cardRemoval stage) s = .next ((r.map (fun op => v.removalOutcome op stage)).getD v) := by
  subst hv
  change execCardRemoval stage s = _
  rw [execCardRemoval, hserves]
  simp only [hr]
  cases r <;> rfl

/-- Settles O49, a command at a time. -/
theorem panelAndServiceCardCommandsComplete : Obligations.PanelAndServiceCardCommandsComplete := by
  unfold Obligations.PanelAndServiceCardCommandsComplete
  refine ⟨fun s u v n p hserves => ⟨?presence, ?service, ?released, ?counted, ?blockedRelease, ?long, ?stuckPresence, ?stuckService⟩,
    fun s v w f n op data seen started hserves hbusy hstarted => ⟨?init, ?read, ?write, ?erase, fun hn hlow hhigh hpow hread => ⟨?unlock, ?setPwd, ?clrPwd⟩,
      fun hv hpow => ⟨?forceRefused, ?forceErase⟩, ?sleep, ?eject, ?walk, ?autoSleep, ?timeout, ?removed, ?torn, ?inserted, ?fault⟩⟩
  case presence => exact fun hnone hfree hv => ⟨_, presencePress_run hserves hnone hfree hv, rfl⟩
  case service => exact fun hnone hfree hshort hv => ⟨_, servicePress_run hserves hnone hfree hshort hv, rfl⟩
  case released => exact fun hheld hv => ⟨_, buttonRelease_run (b := true) hserves hheld hv, rfl⟩
  case counted =>
    intro hheld hfree hle hv
    refine ⟨_, buttonRelease_run (b := false) hserves hheld hv, ?_⟩
    rw [hfree, decide_eq_true hle]
    rfl
  case blockedRelease =>
    intro hheld hblocked hv
    refine ⟨_, buttonRelease_run (b := false) hserves hheld hv, ?_⟩
    rw [hblocked]
    rfl
  case long => exact fun hnone hfree hv hidle hpow hstate => ⟨_, longPress_run hserves hnone hfree hv hidle hpow hstate, rfl⟩
  case stuckPresence =>
    rintro hfree hheld rfl
    exact ⟨_, exec_pnlStuck_of_held (b := false) hserves hfree hheld, rfl⟩
  case stuckService => exact fun hfree hnone hu hv => ⟨_, pnlStuck_service_run hserves hfree hnone hu hv, rfl⟩
  case init =>
    intro hv hpres hlock
    rw [hstarted] at hv
    refine ⟨_, sdCmd_done hserves hbusy hv ?_, rfl⟩
    simp only [hpres, Bool.not_true, Bool.false_eq_true, if_false, if_neg hlock]
  case read =>
    intro hv hpow hlock hsleep hcount hle hguard
    rw [hstarted] at hv
    refine ⟨_, sdCmd_done hserves hbusy hv ?_, rfl⟩
    rw [withCard_ready hpow hlock hsleep, scRange_inside hcount hle]
    simp only [hguard, sdOutcome_ok]
  case write =>
    intro hv hpow hlock hsleep hcount hle hguard
    rw [hstarted] at hv
    refine ⟨_, sdCmd_done hserves hbusy hv ?_, rfl⟩
    rw [withCard_ready hpow hlock hsleep, scRange_inside hcount hle]
    simp only [hguard, sdOutcome_ok]
  case erase =>
    intro hv hpow hlock hsleep hcount hle
    rw [hstarted] at hv
    refine ⟨_, sdCmd_done hserves hbusy hv ?_, rfl⟩
    rw [withCard_ready hpow hlock hsleep, scRange_inside hcount hle, sdOutcome_ok]
  case unlock =>
    intro hv
    rw [hstarted] at hv
    refine ⟨_, sdCmd_done hserves hbusy hv ?_, rfl⟩
    rw [hpow, password_sent hn hlow hhigh hread, State.unlockOutcome, sdOutcome_ok]
    rfl
  case setPwd =>
    intro hv hlock hsleep
    rw [hstarted] at hv
    refine ⟨_, sdCmd_done hserves hbusy hv ?_, rfl⟩
    rw [withCard_ready hpow hlock hsleep, password_sent hn hlow hhigh hread, sdOutcome_ok]
  case clrPwd =>
    intro hv hlock hsleep
    rw [hstarted] at hv
    refine ⟨_, sdCmd_done hserves hbusy hv ?_, rfl⟩
    rw [withCard_ready hpow hlock hsleep, password_sent hn hlow hhigh hread, sdOutcome_ok]
  case forceRefused =>
    intro hpress
    rw [hstarted] at hv
    refine ⟨_, sdCmd_done hserves hbusy hv ?_, rfl⟩
    rw [hpow, hpress]
    rfl
  case forceErase =>
    intro hpress
    rw [hstarted] at hv
    have hsome : ¬ v.pressNow.isNone = true := fun h => hpress (Option.isNone_iff_eq_none.mp h)
    refine ⟨_, sdCmd_done hserves hbusy hv ?_, rfl⟩
    rw [hpow, if_neg hsome, State.unlockOutcome, sdOutcome_ok]
    rfl
  case sleep =>
    intro hv hpow hlock hsleep
    rw [hstarted] at hv
    refine ⟨_, sdCmd_done hserves hbusy hv ?_, rfl⟩
    rw [withCard_ready hpow hlock hsleep]
  case eject =>
    intro hv hpow hlock
    rw [hstarted] at hv
    refine ⟨_, sdCmd_done hserves hbusy hv ?_, rfl⟩
    rw [State.eject, hpow, if_neg hlock]
    rfl
  case walk =>
    intro hv hpow hlock hsleep
    rw [hstarted] at hv
    refine ⟨_, sdCmd_done hserves hbusy hv ?_, rfl⟩
    rw [withCard_ready hpow hlock hsleep]
    simp only [sdOutcome_ok]
  case autoSleep =>
    intro hauto hready
    have hgo : ¬ ((!s.panelServes) = true ∨ (!s.isSet Reg.SC_CTRL.AUTO_SLEEP) = true ∨ s.scState ≠ scReady) := by simp [hserves, hauto, hready]
    refine ⟨_, ?_, rfl⟩
    change execAutoSleep s = _
    rw [execAutoSleep, if_neg hgo, ok]
  case timeout =>
    intro hop hread hwalk hv
    have hgo : ¬ (op = 2 ∨ op = 11) := fun h => h.elim hread hwalk
    refine ⟨_, ?_, rfl⟩
    change execScBusyTimeout s = _
    simp only [execScBusyTimeout, hop, if_neg hgo, ← hv, ok]
  case removed =>
    intro hv hidle
    exact ⟨_, cardRemoval_run hserves _ hv hidle, rfl⟩
  case torn =>
    intro hv hop
    exact ⟨_, cardRemoval_run hserves _ hv hop, rfl⟩
  case inserted =>
    intro hempty hv hen
    have hgo : ¬ ((!s.panelServes) = true ∨ s.isSet Reg.SC_STATUS.PRESENT = true) := by simp [hserves, hempty]
    refine ⟨_, ?_, rfl⟩
    change execCardInsertion f s = _
    rw [execCardInsertion, if_neg hgo]
    simp only [← hv, hen, if_true, ok]
  case fault =>
    intro hpower hv hidle
    refine ⟨_, ?_, rfl⟩
    change execScPwrFault s = _
    rw [execScPwrFault, hpower]
    simp only [Bool.not_true, Bool.false_eq_true, if_false, ← hv, hidle, Option.isSome_none, ok]

end Sys2Proof.Machine
end

section
/-!
PROOFS. Sessions of the management port (chapter 18).
-/

namespace Sys2Proof.Machine

/-- What a HELLO segment must be to be taken (R550). -/
structure HelloTaken (s : State) (f : SmlIn) : Prop where
  serves : s.mgmtServes = true
  opcode : f.opcode = 1
  header : f.headerOk = true
  plain : f.prot = false
  session : f.session = 0
  toUs : s.smlToUs false f.net = true
  carrier : s.smlCarrier f.net = true
  fits : f.offset + f.payload.length ≤ smlHelloBytes

/-- A HELLO segment that is taken passes the tests of the header. -/
theorem HelloTaken.passes {s : State} {f : SmlIn} (h : HelloTaken s f) : ¬ ((!s.mgmtServes) = true ∨ f.opcode ≠ 0x01) ∧
    ¬ ((!f.headerOk) = true ∨ f.prot = true ∨ f.session ≠ 0 ∨ (!s.smlToUs false f.net) = true ∨ (!s.smlCarrier f.net) = true ∨
      smlHelloBytes < f.offset + f.payload.length) := by
  obtain ⟨hserves, hopcode, hheader, hplain, hsession, htoUs, hcarrier, hfits⟩ := h
  rw [hserves, hopcode, hheader, hplain, hsession, htoUs, hcarrier]
  refine ⟨by decide, ?_⟩
  rintro (h | h | h | h | h | h)
  · nomatch h
  · nomatch h
  · exact h rfl
  · nomatch h
  · nomatch h
  · exact Nat.not_lt.mpr hfits h

/-- A segment that does not yet make the HELLO whole is kept. -/
theorem hello_kept {s : State} {f : SmlIn} (h : HelloTaken s f) {b : SmlBuf}
    (hseg : takeSegment s.now (tget s.smilia.halves f.net.sender) f.offset f.last f.payload = (b, none)) :
    exec (.hello f) s = .next (s.updSmilia (fun m => { m with halves := tput m.halves f.net.sender b })) := by
  obtain ⟨h1, h2⟩ := h.passes
  change execHello f s = _
  simp only [execHello, if_neg h1, if_neg h2, hseg, ok]

/-- A whole HELLO within the rate is answered. -/
theorem hello_whole {s u : State} {f : SmlIn} (h : HelloTaken s f) {b : SmlBuf} {msg : List Byte}
    (hseg : takeSegment s.now (tget s.smilia.halves f.net.sender) f.offset f.last f.payload = (b, some msg)) (hlen : msg.length = smlHelloBytes)
    (hzero : beAt msg 1 15 = 0) (hrate : (s.updSmilia (fun m => { m with halves := tdel m.halves f.net.sender })).helloRate = (u, true)) :
    exec (.hello f) s = .next (u.takeSmlHello f.net msg) := by
  obtain ⟨h1, h2⟩ := h.passes
  have h3 : ¬ (msg.length ≠ smlHelloBytes ∨ beAt msg 1 15 ≠ 0) := by
    rintro (h | h)
    · exact h hlen
    · exact h hzero
  change execHello f s = _
  simp only [execHello, if_neg h1, if_neg h2, hseg, if_neg h3, hrate, ok]

/-- A new HELLO within the limits shares a secret with its sender: it opens a session, or is refused where the secret is zero (R555, R556). -/
theorem takeSmlHello_shares {u v : State} {net : SmlNet} {msg : List Byte} {sh : Share}
    (hnew : u.smilia.sessions.find? (fun kv => kv.2.state == .authWait && kv.2.random == beAt msg 16 32) = none) (hawl : u.smlAwl = true)
    (hroom : u.smilia.sessions.length < u.dictVal 0x1200 1) (hsh : u.share (beAt msg 48 32) (slice msg 80 1568) = (sh, v)) :
    (sh.shared = none → u.takeSmlHello net msg = (v.plainReset net xAuthFailed).authFails) ∧
    (∀ ssk ssx, sh.shared = some (ssk, ssx) → u.takeSmlHello net msg = v.openSmlSession net msg sh ssk ssx) := by
  have hfull : ¬ u.dictVal 0x1200 1 ≤ u.smilia.sessions.length := Nat.not_le.mpr hroom
  have hawl' : ¬ (!u.smlAwl) = true := by rw [hawl]; decide
  unfold State.takeSmlHello
  generalize beAt msg 48 32 = pub at hsh ⊢
  generalize slice msg 80 1568 = kem at hsh ⊢
  extract_lets random
  split
  case h_1 hfound => exact absurd (hnew.symm.trans hfound) (by nofun)
  case h_2 =>
    rw [if_neg hawl', if_neg hfull, hsh]
    refine ⟨fun h => ?_, fun ssk ssx h => ?_⟩
    · simp only [h]
    · simp only [h]

/-- A segment of AUTH that does not yet make the message whole. -/
theorem smlAuth_kept {s u v : State} {f : SmlIn} {x : SmlSession} (hacc : s.acceptSml f smAuth = (u, some x)) (hwait : x.state = .authWait)
    (hmsg : u.assemble f.session 0 f.offset f.last f.payload = (v, none)) : exec (.smlAuth f) s = .next v := by
  change execSmlAuth f s = _
  simp only [execSmlAuth, hacc, hwait, hmsg, ne_eq, not_true_eq_false, if_false, ok]

/-- A whole AUTH whose signature or chain does not hold (R556). -/
theorem smlAuth_noClient {s u v : State} {f : SmlIn} {x : SmlSession} {msg : List Byte} (hacc : s.acceptSml f smAuth = (u, some x)) (hwait : x.state = .authWait)
    (hmsg : u.assemble f.session 0 f.offset f.last f.payload = (v, some msg)) (hc : v.smlClient x.role x.th msg = none) :
    exec (.smlAuth f) s = .next (((v.smlSend f.session smReset 0 (beBytes 2 xAuthFailed ++ [0, 0])).closeSml f.session true).authFails) := by
  change execSmlAuth f s = _
  simp only [execSmlAuth, hacc, hwait, hmsg, hc, ne_eq, not_true_eq_false, if_false, ok]

/-- A whole AUTH of a client: the session is established in its role, or refused (R557). -/
theorem smlAuth_client {s u v : State} {f : SmlIn} {x : SmlSession} {msg : List Byte} {key : Nat} {anchored : Bool} (hacc : s.acceptSml f smAuth = (u, some x))
    (hwait : x.state = .authWait) (hmsg : u.assemble f.session 0 f.offset f.last f.payload = (v, some msg))
    (hc : v.smlClient x.role x.th msg = some (key, anchored)) :
    exec (.smlAuth f) s = .next (if v.grants x.role key anchored = true then
        (v.updSml f.session (fun z => { z with state := .established, keyId := key, since := v.time64 })).smlReply f.session smAuth 0 (beBytes 2 xOk)
      else ((v.smlSend f.session smReset 0 (beBytes 2 xRole ++ [0, 0])).closeSml f.session true).authFails) := by
  change execSmlAuth f s = _
  simp only [execSmlAuth, hacc, hwait, hmsg, hc, ne_eq, not_true_eq_false, if_false, ok]
  cases v.grants x.role key anchored <;> rfl

/-- A session after the table's update of the addresses. -/
theorem sml_congr {s t : State} (h : t.smilia.sessions = s.smilia.sessions) (sid : Nat) : t.sml sid = s.sml sid := by
  unfold State.sml
  rw [h]

/-- The state in which a closed session has been let go (R556). -/
def State.releaseSml (s : State) (sid : Nat) : State :=
  s.updSmilia (fun m => { m with sessions := tdel m.sessions sid, oldAddr := m.oldAddr.map (fun o => (o.1, o.2.1, o.2.2.filter (· != sid))) })

theorem sml_releaseSml_self (s : State) (sid : Nat) : (s.releaseSml sid).sml sid = none := tget_tdel_self _ _

theorem sml_releaseSml_ne (s : State) {sid k : Nat} (h : k ≠ sid) : (s.releaseSml sid).sml k = s.sml k := tget_tdel_ne _ h

theorem smlRelease_run {s : State} {sid n : Nat} {x : SmlSession} (hx : s.sml sid = some x) (hn : x.closedAt = some n) :
    exec (.smlRelease sid) s = .next ((s.advanceTo (n + second)).releaseSml sid) := by
  change execSmlRelease sid s = _
  simp only [execSmlRelease, hx, Option.bind_some, hn, ok]
  rfl

/-- Settles O51, a command at a time. -/
theorem managementSessionCommandsComplete : Obligations.ManagementSessionCommandsComplete := by
  unfold Obligations.ManagementSessionCommandsComplete
  refine fun s u v f x sid n msg => ⟨?hello, ?authKept, ?auth, ?waitTimeout, ?keyUpdate, ?close, ?keepalive, ?reset, ?idle, ?release, ?helloTimeout, ?msgTimeout⟩
  case hello =>
    intro hserves hopcode hheader hplain hsession htoUs hcarrier hfits
    have htaken : HelloTaken s f := ⟨hserves, hopcode, hheader, hplain, hsession, htoUs, hcarrier, hfits⟩
    refine ⟨fun b hseg => ⟨_, hello_kept htaken hseg, rfl⟩, fun b sh hseg hlen hzero hrate hnew hawl hroom hsh => ⟨_, hello_whole htaken hseg hlen hzero hrate, ?_⟩⟩
    obtain ⟨hrefused, hopened⟩ := takeSmlHello_shares (net := f.net) hnew hawl hroom hsh
    rcases hshared : sh.shared with _ | ⟨ssk, ssx⟩
    · exact hrefused hshared
    · exact hopened ssk ssx hshared
  case authKept => exact fun hacc hwait hmsg => ⟨_, smlAuth_kept hacc hwait hmsg, rfl⟩
  case auth =>
    intro hacc hwait hmsg
    rcases hc : v.smlClient x.role x.th msg with _ | ⟨key, anchored⟩
    · exact ⟨_, smlAuth_noClient hacc hwait hmsg hc, rfl⟩
    · refine ⟨_, smlAuth_client hacc hwait hmsg hc, ?_⟩
      dsimp only
      split <;> rfl
  case waitTimeout =>
    intro hx hwait
    refine ⟨_, ?_, rfl⟩
    change execSmlAuthWaitTimeout sid s = _
    simp only [execSmlAuthWaitTimeout, hx, hwait, if_true, ok]
  case keyUpdate =>
    intro hacc hlen hgen
    refine ⟨_, ?_, rfl⟩
    change execSmlKeyUpdate f s = _
    simp only [execSmlKeyUpdate, hacc, hlen, hgen, ne_eq, not_true_eq_false, if_false, if_true, ok]
  case close =>
    intro hacc
    refine ⟨_, ?_, rfl⟩
    change execSmlClose f s = _
    simp only [execSmlClose, hacc, ok]
  case keepalive =>
    intro hacc
    refine ⟨_, ?_, rfl⟩
    change execSmlKeepalive f s = _
    simp only [execSmlKeepalive, hacc, ok]
  case reset =>
    intro hacc
    refine ⟨_, ?_, rfl⟩
    change execSmlReset f s = _
    simp only [execSmlReset, hacc, ok]
  case idle =>
    intro hx hest
    refine ⟨_, ?_, rfl⟩
    change execSmlIdleTimeout sid s = _
    simp only [execSmlIdleTimeout, hx, hest, if_true, ok]
  case release =>
    intro hx hn
    refine ⟨_, smlRelease_run hx hn, (State.advanceTo_upd.seq State.updSmilia_upd).agreeBut (by decide), sml_releaseSml_self _ _, now_advanceTo _ _, fun k hk => ?_⟩
    exact (sml_releaseSml_ne _ hk).trans (sml_congr (congrArg (·.sessions) (State.advanceTo_smilia _ _)) k)
  case helloTimeout =>
    intro b hb
    refine ⟨_, ?_, rfl⟩
    change execReassemblyTimeout true sid n s = _
    simp only [execReassemblyTimeout, hb, if_true, ok]
  case msgTimeout =>
    intro b hx hb
    refine ⟨_, ?_, rfl⟩
    change execReassemblyTimeout false sid n s = _
    simp only [execReassemblyTimeout, hx, Option.bind_some, hb, Bool.false_eq_true, if_false, ok]

end Sys2Proof.Machine
end

section
/-!
PROOFS. Requests on the dictionary (chapter 18).
-/

namespace Sys2Proof.Machine

theorem readRequest_value {v : State} {x : SmlSession} {msg : List Byte} {e : DictEntry} (hlen : msg.length = 4) (hzero : beAt msg 3 1 = 0)
    (he : dictFind x.role (beAt msg 0 2) (beAt msg 2 1) DictEntry.rd = .ok e) (hacc : e.acc ≠ .wo) (htyp : e.typ ≠ .domain) (hidx : e.idx ≠ 0x5012) :
    v.readRequest x msg = (v, beBytes 2 xOk ++ [BitVec.ofNat 8 e.typeCode, 0] ++ v.entryValue x e, 0) := by
  have h1 : ¬ (msg.length ≠ 4 ∨ beAt msg 3 1 ≠ 0) := not_or.mpr ⟨not_not_intro hlen, not_not_intro hzero⟩
  have h2 : ¬ (e.acc ≠ .cmd ∧ e.typ = .domain) := fun h => htyp h.2
  unfold State.readRequest
  simp only [if_neg h1, he, if_neg hacc, if_neg h2, if_neg hidx]

theorem writeRequest_value {v w : State} {sid : Nat} {x : SmlSession} {msg : List Byte} {e : DictEntry} {g : SmlFacts} (hlen : 4 ≤ msg.length)
    (hzero : beAt msg 3 1 = 0) (he : dictFind x.role (beAt msg 0 2) (beAt msg 2 1) DictEntry.wr = .ok e) (hacc : e.acc = .rw)
    (hsafe : (v.safe && needsUnits e.idx) = false) (hvalue : v.valueRefusal x e (msg.drop 4) = 0) (hsaved : (!e.saved || g.saved) = true)
    (hw : w = (v.putDict sid e (ofBe (msg.drop 4))).endVendor) :
    v.writeRequest sid x msg g = ((w.dictChange sid x.role e (msg.drop 4)).2, { status := xOk, detail := 0, seq := (w.dictChange sid x.role e (msg.drop 4)).1 }) := by
  have h1 : ¬ (msg.length < 4 ∨ beAt msg 3 1 ≠ 0) := not_or.mpr ⟨Nat.not_lt.mpr hlen, not_not_intro hzero⟩
  have h2 : ¬ (e.saved && !g.saved) = true := by
    revert hsaved
    cases e.saved <;> cases g.saved <;> decide
  subst hw
  unfold State.writeRequest
  simp only [if_neg h1, he, hacc, reduceCtorEq, if_false, hsafe, Bool.false_eq_true, hvalue, ne_eq, not_true_eq_false, State.writeValue, if_neg h2]

/-- A SEG_READ on a domain, up to its handle (R566). -/
structure SegReadGood (x : SmlSession) (msg : List Byte) (e : DictEntry) (n : Nat) : Prop where
  len : msg.length = 20
  zero : beAt msg 3 1 = 0
  zeros : beAt msg 18 2 = 0
  most : n = beAt msg 16 2
  pos : 0 < n
  small : n ≤ 1376
  entry : dictFind x.role (beAt msg 0 2) (beAt msg 2 1) DictEntry.rd = .ok e
  notWo : e.acc ≠ .wo
  notCmd : e.acc ≠ .cmd
  domain : e.typ = .domain

theorem segReadRequest_opens {v w : State} {sid h n off : Nat} {x : SmlSession} {msg : List Byte} {e : DictEntry} (hg : SegReadGood x msg e n)
    (hoff : off = beAt msg 8 8) (hnew : beAt msg 4 4 = 0) (hroom : x.reads.length < 4) (hh : v.takeHandle = (h, w)) :
    v.segReadRequest sid x msg = (w.updSml sid (fun z => { z with reads := tput z.reads h { idx := beAt msg 0 2, sub := e.sub, content := w.domainBytes x (beAt msg 0 2), lastUse := w.now } }),
      segAnswer h off n (w.domainBytes x (beAt msg 0 2)), 0) := by
  obtain ⟨hlen, hzero, hzeros, rfl, hpos, hsmall, he, hwo, hcmd, hdom⟩ := hg
  subst hoff
  have h1 : ¬ (msg.length ≠ 20 ∨ beAt msg 3 1 ≠ 0 ∨ beAt msg 18 2 ≠ 0 ∨ beAt msg 16 2 = 0 ∨ 1376 < beAt msg 16 2) := by omega
  have h2 : ¬ (e.typ ≠ .domain ∨ e.acc = .cmd) := not_or.mpr ⟨not_not_intro hdom, hcmd⟩
  have h3 : ¬ 4 ≤ x.reads.length := by omega
  unfold State.segReadRequest
  simp only [if_neg h1, he, if_neg hwo, if_neg h2, if_pos hnew, if_neg h3, hh]

theorem segReadRequest_continues {v : State} {sid h n off : Nat} {x : SmlSession} {msg : List Byte} {e : DictEntry} {rd : SmlRead} (hg : SegReadGood x msg e n)
    (hoff : off = beAt msg 8 8) (hh : h = beAt msg 4 4) (hne : h ≠ 0) (hrd : tget x.reads h = some rd) (hidx : rd.idx = beAt msg 0 2) (hsub : rd.sub = e.sub) :
    v.segReadRequest sid x msg = (v.updSml sid (fun z => { z with reads := tput z.reads h { rd with lastUse := v.now } }), segAnswer h off n rd.content, 0) := by
  obtain ⟨hlen, hzero, hzeros, rfl, hpos, hsmall, he, hwo, hcmd, hdom⟩ := hg
  subst hoff hh
  have h1 : ¬ (msg.length ≠ 20 ∨ beAt msg 3 1 ≠ 0 ∨ beAt msg 18 2 ≠ 0 ∨ beAt msg 16 2 = 0 ∨ 1376 < beAt msg 16 2) := by omega
  have h2 : ¬ (e.typ ≠ .domain ∨ e.acc = .cmd) := not_or.mpr ⟨not_not_intro hdom, hcmd⟩
  unfold State.segReadRequest
  simp only [if_neg h1, he, if_neg hwo, if_neg h2, if_neg hne, hrd, if_pos (And.intro hidx hsub)]

theorem segBeginRequest_opens {v w : State} {sid h : Nat} {x : SmlSession} {msg : List Byte} {e : DictEntry} (hlen : msg.length = 12) (hzero : beAt msg 3 1 = 0)
    (he : dictFind x.role (beAt msg 0 2) (beAt msg 2 1) DictEntry.wr = .ok e) (hacc : e.acc = .rw) (hsafe : (v.safe && needsUnits e.idx) = false)
    (hdom : e.typ = .domain) (htotal : beAt msg 4 8 < 2 ^ 32) (hnone : v.smilia.writes.any (fun q => q.2.idx == e.idx && q.2.sub == e.sub) = false)
    (hh : v.takeHandle = (h, w)) :
    v.segBeginRequest sid x msg = (w.updSmilia (fun m => { m with writes := tput m.writes h { session := sid, idx := e.idx, sub := e.sub, total := beAt msg 4 8, parts := [], lastUse := w.now } }),
      beBytes 2 xOk ++ [0, 0] ++ beBytes 4 h, 0) := by
  have h1 : ¬ (msg.length ≠ 12 ∨ beAt msg 3 1 ≠ 0) := not_or.mpr ⟨not_not_intro hlen, not_not_intro hzero⟩
  have h2 : ¬ ((v.safe && needsUnits e.idx) || (e.acc == .cmd && !v.custodyMay .enroll 0)) = true := by
    rw [hsafe, hacc]
    exact Bool.false_ne_true
  have h3 : ¬ 2 ^ 32 ≤ beAt msg 4 8 := Nat.not_le.mpr htotal
  have h4 : ¬ e.typ ≠ .domain := not_not_intro hdom
  unfold State.segBeginRequest
  simp only [if_neg h1, he, if_neg h2, if_neg h3, if_neg h4, hnone, Bool.false_eq_true, if_false, hh]
  rw [if_neg (by rw [hacc]; decide)]

theorem segWriteRequest_adds {v : State} {sid h off : Nat} {msg : List Byte} {hd : SmlWrite} (hh : h = beAt msg 0 4) (hlen : 16 ≤ msg.length)
    (hzero : beAt msg 4 4 = 0) (hlong : msg.length ≤ 1400) (hhd : v.writeHandle sid h = some hd) (hoff : off = beAt msg 8 8) (hfits : off + (msg.length - 16) ≤ hd.total) :
    v.segWriteRequest sid msg = (v.updSmilia (fun m => { m with writes := tput m.writes h { hd with parts := hd.parts ++ [(off, msg.drop 16)], lastUse := v.now } }),
      beBytes 2 xOk ++ [0, 0] ++ beBytes 4 h, 0) := by
  subst hh hoff
  have hdrop : (msg.drop 16).length = msg.length - 16 := List.length_drop
  have h1 : ¬ (msg.length < 16 ∨ beAt msg 4 4 ≠ 0 ∨ 1384 < (msg.drop 16).length) := by omega
  have h2 : ¬ hd.total < beAt msg 8 8 + (msg.drop 16).length := by omega
  unfold State.segWriteRequest
  simp only [if_neg h1, hhd, if_neg h2]

theorem segEndRequest_short {v w : State} {sid h : Nat} {x : SmlSession} {msg : List Byte} {hd : SmlWrite} {g : SmlFacts} (hh : h = beAt msg 0 4)
    (hlen : msg.length = 40) (hzero : beAt msg 4 4 = 0) (hhd : v.writeHandle sid h = some hd) (hw : w = v.updSmilia (fun m => { m with writes := tdel m.writes h }))
    (hshort : covered hd.parts < hd.total) : v.segEndRequest sid x msg g = (w, { status := xType }) := by
  subst hh hw
  have h1 : ¬ (msg.length ≠ 40 ∨ beAt msg 4 4 ≠ 0) := not_or.mpr ⟨not_not_intro hlen, not_not_intro hzero⟩
  unfold State.segEndRequest
  simp only [if_neg h1, hhd, if_pos hshort]

theorem segEndRequest_writes {v w : State} {sid h : Nat} {x : SmlSession} {msg : List Byte} {hd : SmlWrite} {g : SmlFacts} {e : DictEntry} (hh : h = beAt msg 0 4)
    (hlen : msg.length = 40) (hzero : beAt msg 4 4 = 0) (hhd : v.writeHandle sid h = some hd) (hw : w = v.updSmilia (fun m => { m with writes := tdel m.writes h }))
    (hfull : hd.total ≤ covered hd.parts) (hhash : Config.shake256 (overlay hd.total hd.parts) 256 % 2 ^ 256 = beAt msg 8 32)
    (he : dictEntry hd.idx hd.sub = some e) (hacc : e.acc ≠ .cmd) :
    v.segEndRequest sid x msg g = w.writeDomain sid x e (overlay hd.total hd.parts) g := by
  subst hh hw
  have h1 : ¬ (msg.length ≠ 40 ∨ beAt msg 4 4 ≠ 0) := not_or.mpr ⟨not_not_intro hlen, not_not_intro hzero⟩
  unfold State.segEndRequest
  simp only [if_neg h1, hhd, if_neg (Nat.not_lt.mpr hfull), if_neg (not_not_intro hhash), he, if_neg hacc]

/-- Settles O52: each request that is taken runs on the state after the scan, and its answer is kept and sent. -/
theorem dictionaryRequestsComplete : Obligations.DictionaryRequestsComplete := by
  unfold Obligations.DictionaryRequestsComplete
  refine fun s v w f x e h n off sid msg g hd rd => ⟨?read, ?write, ?segRead, ?segBegin, ?segWrite, ?segEnd, ?segAbort, ?writeExpiry, ?readExpiry⟩
  case read =>
    intro ht hlen hzero he hacc htyp hidx
    exact ⟨_, congrArg ok (smlRequest_takes ht (readRequest_value hlen hzero he hacc htyp hidx)), rfl⟩
  case write =>
    intro ht hlen hzero he hacc hsafe hvalue hsaved hw
    refine ⟨_, congrArg ok (smlRequest_takes ht ?_), rfl⟩
    rw [writeRequest_value hlen hzero he hacc hsafe hvalue hsaved hw]
  case segRead =>
    intro ht hlen hzero hzeros hn hpos hsmall hoff he hwo hcmd hdom
    have hg : SegReadGood x msg e n := ⟨hlen, hzero, hzeros, hn, hpos, hsmall, he, hwo, hcmd, hdom⟩
    refine ⟨fun hnew hroom hh => ?_, fun hh hne hrd hidx hsub => ?_⟩
    · exact ⟨_, congrArg ok (smlRequest_takes ht (segReadRequest_opens hg hoff hnew hroom hh)), rfl⟩
    · exact ⟨_, congrArg ok (smlRequest_takes ht (segReadRequest_continues hg hoff hh hne hrd hidx hsub)), rfl⟩
  case segBegin =>
    intro ht hlen hzero he hacc hsafe hdom htotal hnone hh
    exact ⟨_, congrArg ok (smlRequest_takes ht (segBeginRequest_opens hlen hzero he hacc hsafe hdom htotal hnone hh)), rfl⟩
  case segWrite =>
    intro ht hh hlen hzero hlong hhd hoff hfits
    exact ⟨_, congrArg ok (smlRequest_takes ht (segWriteRequest_adds hh hlen hzero hlong hhd hoff hfits)), rfl⟩
  case segEnd =>
    intro ht hh hlen hzero hhd hw
    refine ⟨fun hshort => ?_, fun hfull hhash he hacc => ?_⟩
    · refine ⟨_, congrArg ok (smlRequest_takes ht ?_), rfl⟩
      rw [segEndRequest_short hh hlen hzero hhd hw hshort]
    · refine ⟨_, congrArg ok (smlRequest_takes ht ?_), rfl⟩
      rw [segEndRequest_writes hh hlen hzero hhd hw hfull hhash he hacc]
  case segAbort =>
    intro ht hlen hhd
    refine ⟨_, congrArg ok (smlRequest_takes ht ?_), rfl⟩
    rw [if_neg (not_not_intro hlen), hhd]
    rfl
  case writeExpiry =>
    intro hhd
    refine ⟨_, ?_, rfl⟩
    change execHandleExpiry true sid h s = _
    simp only [execHandleExpiry, hhd, if_true, ok]
  case readExpiry =>
    intro hx hrd
    refine ⟨_, ?_, rfl⟩
    change execHandleExpiry false sid h s = _
    simp only [execHandleExpiry, hx, Option.bind_some, hrd, Bool.false_eq_true, if_false, ok]

end Sys2Proof.Machine
end

section
/-!
PROOFS. Subscriptions and the management port (chapter 18).
-/

namespace Sys2Proof.Machine

/-- A SUBSCRIBE on an entry that may be read, and the entry that decides it (R568). -/
structure SubscribeGood (x : SmlSession) (msg : List Byte) (e : DictEntry) : Prop where
  len : msg.length = 8
  zero : beAt msg 3 1 = 0
  zeros : beAt msg 6 2 = 0
  slow : 10 ≤ beAt msg 4 2
  fast : beAt msg 4 2 ≤ 60000
  entry : dictFind x.role (beAt msg 0 2) (if beAt msg 2 1 = 0xFF then (dictSubs (beAt msg 0 2)).headD 0 else beAt msg 2 1) DictEntry.rd = .ok e
  notWo : e.acc ≠ .wo

theorem SubscribeGood.passes {x : SmlSession} {msg : List Byte} {e : DictEntry} (h : SubscribeGood x msg e) :
    ¬ (msg.length ≠ 8 ∨ beAt msg 3 1 ≠ 0 ∨ beAt msg 6 2 ≠ 0 ∨ beAt msg 4 2 < 10 ∨ 60000 < beAt msg 4 2) := by
  obtain ⟨hlen, hzero, hzeros, hslow, hfast, -, -⟩ := h
  omega

theorem subscribeRequest_again {v : State} {sid n : Nat} {x : SmlSession} {msg : List Byte} {e : DictEntry} (h : SubscribeGood x msg e)
    (hn : tfirst x.subs (fun _ k => k.idx == beAt msg 0 2 && k.sub == beAt msg 2 1) = some n) :
    v.subscribeRequest sid x msg = (v, beBytes 2 xOk ++ beBytes 2 n, 0) := by
  unfold State.subscribeRequest
  simp only [if_neg h.passes, h.entry, if_neg h.notWo, hn]

theorem subscribeRequest_new {v : State} {sid n : Nat} {x : SmlSession} {msg : List Byte} {e : DictEntry} {q : SmlSub} (h : SubscribeGood x msg e)
    (hnone : tfirst x.subs (fun _ k => k.idx == beAt msg 0 2 && k.sub == beAt msg 2 1) = none) (hroom : x.subs.length < 64)
    (hn : n = lowestFree (x.subs.length + 1) 1 (x.subs.map Prod.fst))
    (hq : q = { idx := beAt msg 0 2, sub := beAt msg 2 1, interval := beAt msg 4 2, lastSent := none, seen := [], held := [] }) :
    v.subscribeRequest sid x msg = (v.updSml sid (fun z => { z with
      subs := tput z.subs n { q with seen := q.entries.foldl (fun p k => tput p k.sub (v.watched x k)) [] } }), beBytes 2 xOk ++ beBytes 2 n, 0) := by
  subst hn hq
  unfold State.subscribeRequest
  simp only [if_neg h.passes, h.entry, if_neg h.notWo, hnone, if_neg (Nat.not_le.mpr hroom)]

/-- The end of an interval in which changes were held back: each is notified (R568). -/
theorem notifyIntervalEnd_run {s w : State} {sid n since : Nat} {x : SmlSession} {q : SmlSub} (hx : s.sml sid = some x) (hq : tget x.subs n = some q)
    (hsent : q.lastSent = some since) (hheld : q.held ≠ [])
    (hw : w = (s.advanceTo (since + q.interval * msec)).updSml sid (fun z => { z with subs := tmod z.subs n (fun k => { k with held := [] }) })) :
    exec (.notifyIntervalEnd sid n) s = .next (q.held.foldl (fun a h => match dictEntry q.idx h.1 with | some k => a.notify sid n k nfCoalesced h.2 | none => a) w) := by
  have hne : ¬ q.held.isEmpty = true := fun h => hheld (List.isEmpty_iff.mp h)
  subst hw
  change execNotifyIntervalEnd sid n s = _
  simp only [execNotifyIntervalEnd, hx, Option.bind_some, hq, hsent, if_neg hne, ok] <;> rfl

/-- A notification not acknowledged is sent again, or its subscription is told ended (R569). -/
theorem notifyResend_run {s w : State} {sid num : Nat} {x : SmlSession} {m : SmlNote} (hx : s.sml sid = some x)
    (hm : x.notes.find? (fun k => k.number == num) = some m) (hw : w = s.advanceTo (m.sentAt + 500 * msec)) :
    exec (.notifyResend sid num) s = .next (if m.resends < 4 then
      (w.updSml sid (fun z => { z with notes := z.notes.map (fun k => if k.number = num then { k with sentAt := w.now, resends := k.resends + 1 } else k) })).smlSend sid
        smNotify 0 m.payload true
      else w.notifyEnded sid m.sub) := by
  subst hw
  change execNotifyResend sid num s = _
  simp only [execNotifyResend, hx, Option.bind_some, hm, ok]
  split <;> rfl

/-- Taking the new addresses takes no time and changes no session. -/
theorem now_takeAddr (s : State) : s.takeAddr.now = s.now := by
  rw [State.takeAddr, State.updSmilia_now, State.flag_now, State.flag_now]

/-- The port's MDIO frame: its register fields, then the answer or its absence. -/
theorem mgtMdio_run {s v : State} {reg data : Nat} {b : Bool} (hv : v = (((s.wr Reg.MGT_MDIO.REG reg).flag Reg.MGT_MDIO.WRITE b).wr Reg.MGT_MDIO.DATA data).emit .mdio
    (if b then 1 else 2) [s.rd Reg.MGT_CTRL.PHY_ADDR, reg % 32, if b then data % 65536 else 0]) :
    (∀ n, exec (.mgtMdio reg data b .keeper (some n)) s = .next ((if b then v else v.wr Reg.MGT_MDIO.DATA n).flag Reg.MGT_MDIO.ERR false)) ∧
    exec (.mgtMdio reg data b .keeper none) s = .next (((v.advance msec).flag Reg.MGT_MDIO.ERR true).raise srcMgtPhyFault) := by
  have hphy : (((s.wr Reg.MGT_MDIO.REG reg).flag Reg.MGT_MDIO.WRITE b).wr Reg.MGT_MDIO.DATA data).rd Reg.MGT_CTRL.PHY_ADDR = s.rd Reg.MGT_CTRL.PHY_ADDR := by
    rw [rd_wr_ne _ _ (by decide), rd_flag_ne _ _ (by decide), rd_wr_ne _ _ (by decide)]
  refine ⟨fun n => ?_, ?_⟩
  · change execMgtMdio reg data b .keeper (some n) s = _
    simp only [execMgtMdio, reduceCtorEq, if_false, hphy, ← hv, ok]
  · change execMgtMdio reg data b .keeper none s = _
    simp only [execMgtMdio, reduceCtorEq, if_false, hphy, ← hv, ok]

/-- The port is lit and its domain on. -/
theorem portLit {s : State} (hlit : s.lit = true) (hon : s.mainOn = true) : ¬ ((!s.lit) = true ∨ (!s.mainOn) = true) := by
  rw [hlit, hon]
  decide

/-- Settles O53, a command at a time. -/
theorem subscriptionAndPortCommandsComplete : Obligations.SubscriptionAndPortCommandsComplete := by
  unfold Obligations.SubscriptionAndPortCommandsComplete
  refine ⟨fun s v w f x e n sid num since msg q m => ⟨?subscribe, ?unsubscribe, ?intervalEnd, ?ack, ?resend⟩,
    fun s v n reg data b answer old ask body => ⟨?address, ?oldAddress, ?vendor, ?mdio, ?linkDown, ?linkUp, ?answered, ?dropped⟩⟩
  case subscribe =>
    intro ht hlen hzero hzeros hslow hfast he hacc
    have hg : SubscribeGood x msg e := ⟨hlen, hzero, hzeros, hslow, hfast, he, hacc⟩
    refine ⟨fun hn => ?_, fun hnone hroom hn hq => ?_⟩
    · exact ⟨_, congrArg ok (smlRequest_takes ht (subscribeRequest_again hg hn)), rfl⟩
    · exact ⟨_, congrArg ok (smlRequest_takes ht (subscribeRequest_new hg hnone hroom hn hq)), rfl⟩
  case unsubscribe =>
    intro ht hlen hzero hq
    have hgo : ¬ (msg.length ≠ 4 ∨ beAt msg 2 2 ≠ 0) := not_or.mpr ⟨not_not_intro hlen, not_not_intro hzero⟩
    refine ⟨_, congrArg ok (smlRequest_takes ht ?_), rfl⟩
    rw [if_neg hgo, hq]
    rfl
  case intervalEnd =>
    intro hx hq hsent hheld hw
    exact ⟨_, notifyIntervalEnd_run hx hq hsent hheld hw, rfl⟩
  case ack =>
    intro hacc hlen hnum
    refine ⟨_, ?_, rfl⟩
    change execNotifyAck f s = _
    simp only [execNotifyAck, hacc, hlen, ne_eq, not_true_eq_false, if_false, ← hnum, ok]
  case resend =>
    intro hx hm hw
    exact ⟨fun hlt => ⟨_, notifyResend_run hx hm hw, if_pos hlt⟩, fun hle => ⟨_, notifyResend_run hx hm hw, if_neg (Nat.not_lt.mpr hle)⟩⟩
  case address =>
    intro hn hv
    refine ⟨_, ?_, rfl⟩
    change execAddressChangeEffect s = _
    simp only [execAddressChangeEffect, hn, ← hv, now_takeAddr, ok]
  case oldAddress =>
    intro hold
    refine ⟨_, ?_, rfl⟩
    change execOldAddressExpiry s = _
    simp only [execOldAddressExpiry, hold, ok]
  case vendor =>
    intro hn hv
    have hne : ¬ n + 1 = 0 := Nat.succ_ne_zero n
    refine ⟨_, ?_, rfl⟩
    change execVendorWindowTick s = _
    simp only [execVendorWindowTick, hn, if_neg hne, Nat.add_sub_cancel, ← hv, ok]
  case mdio =>
    intro hv
    exact ⟨⟨_, (mgtMdio_run hv).1 n, rfl⟩, ⟨_, (mgtMdio_run hv).2, rfl⟩⟩
  case linkDown =>
    intro hlit hon hv
    refine ⟨_, ?_, rfl⟩
    change execMgtLinkDown b s = _
    simp only [execMgtLinkDown, if_neg (portLit hlit hon), ← hv, ok]
  case linkUp =>
    intro hlit hon
    refine ⟨_, ?_, rfl⟩
    change execMgtLinkUp n b s = _
    simp only [execMgtLinkUp, if_neg (portLit hlit hon), ok]
  case answered =>
    intro hserves hask
    have hgo : ¬ ((!true) = true ∨ ((ask = .arp ∨ ask = .icmpEcho) ∧ s.smilia.addr.getD 2 0 = 0)) := by
      rintro (h | ⟨h, h0⟩)
      · nomatch h
      · rcases hask with rfl | rfl | hne
        · rcases h with h | h <;> nomatch h
        · rcases h with h | h <;> nomatch h
        · exact hne h0
    refine ⟨s.emit .mgmtLink ask.code s.smilia.addr body, ?_, State.emit_upd.agreeBut (by decide), rfl⟩
    change execArpNdEchoRequest ask true body s = _
    rw [execArpNdEchoRequest, hserves, if_neg (by decide), if_neg hgo, ok]
  case dropped =>
    intro hserves
    refine ⟨_, ?_, rfl⟩
    change execArpNdEchoRequest ask false body s = _
    simp only [execArpNdEchoRequest, hserves, Bool.not_true, Bool.false_eq_true, if_false, Bool.not_false, true_or, if_true, ok]

end Sys2Proof.Machine
end

section
/-!
PROOFS. Commands of the dictionary (chapter 18).
-/

namespace Sys2Proof.Machine

/-- A command of the dictionary that is not refused and ends with OK. -/
theorem order_ok {s u v : State} {x : SmlSession} {e : DictEntry} {arg : List Byte} {f : SmlFacts} {sid idx d : Nat} (h : s.commands sid idx x e u)
    (ht : e.typ ≠ .domain) (hr : u.cmdRefusal x e arg = 0) {st : Nat} (ha : u.action sid x e.idx (ofBe arg) arg f = (v, st, d)) (hst : st = xOk ∨ st = xRunning) :
    s.order sid idx arg f = v.endsCommand sid x e arg st d := by
  refine order_runs h ht hr ha ?_ ?_
  · rcases hst with rfl | rfl <;> decide
  · rcases hst with rfl | rfl <;> decide

/-- The Kennel's answer to a request without an error. -/
theorem kennelAnswer_ok {s : State} (h : s.rd Reg.KNL_CTRL.ERR = 0) : s.kennelAnswer = (s, xOk, 0) := by
  rw [State.kennelAnswer, h]
  rfl

/-- An attestation that the keys allow (R576). -/
theorem attestFor_ok {s v : State} {sid fails : Nat} {nonce report : List Byte} (hcan : (s.updSml sid (fun y => { y with report := [] })).canAttest = true)
    (h : (s.updSml sid (fun y => { y with report := [] })).attest nonce fails = (some report, v)) :
    s.attestFor sid nonce fails = (v.updSml sid (fun y => { y with report := report }), xOk, 0) := by
  unfold State.attestFor
  simp only [hcan, h]
  rfl

/-- Settles O54, a command at a time. -/
theorem dictionaryCommandsComplete : Obligations.DictionaryCommandsComplete := by
  unfold Obligations.DictionaryCommandsComplete
  refine fun s u v x e f sid n nonce report => ⟨?defaults, ?attest, ?srcClear, ?unlock, ?clrLatch, ?bundleOut, ?bundleIn, ?selftest, ?fcuInject, ?eccInject, ?refused⟩
  case defaults =>
    intro h ht hr hsaved hidx
    refine ⟨_, congrArg ok (order_ok h ht hr ?_ (Or.inl rfl)), rfl⟩
    rw [hidx]
    exact if_pos hsaved
  case attest =>
    intro h ht hr hidx hcan hat
    refine ⟨_, congrArg ok (order_ok h ht hr ?_ (Or.inl rfl)), rfl⟩
    rw [hidx]
    exact attestFor_ok hcan hat
  case srcClear =>
    intro h ht hr hidx
    refine ⟨_, congrArg ok (order_ok h ht hr ?_ (Or.inl rfl)), rfl⟩
    rw [hidx]
    rfl
  case unlock =>
    intro h ht hr hidx herr
    refine ⟨_, congrArg ok (order_ok h ht hr ?_ (Or.inl rfl)), rfl⟩
    rw [hidx]
    exact kennelAnswer_ok herr
  case clrLatch =>
    intro h ht hr hidx herr
    refine ⟨_, congrArg ok (order_ok h ht hr ?_ (Or.inl rfl)), rfl⟩
    rw [hidx]
    exact kennelAnswer_ok herr
  case bundleOut =>
    intro h ht hr hidx hv
    refine ⟨_, congrArg ok (order_ok h ht hr ?_ (Or.inl rfl)), rfl⟩
    rw [hidx]
    exact hv
  case bundleIn =>
    intro h ht hr hidx hv
    refine ⟨_, congrArg ok (order_ok h ht hr ?_ (Or.inl rfl)), rfl⟩
    rw [hidx]
    exact hv
  case selftest =>
    intro h ht hr hidx hv
    refine ⟨_, congrArg ok (order_ok (st := if v.chip.testRun.isSome then xRunning else xOk) h ht hr ?_ ?_), rfl⟩
    · rw [hidx, hv]
      rfl
    · split
      · exact Or.inr rfl
      · exact Or.inl rfl
  case fcuInject =>
    intro m h ht hr hidx hv
    refine ⟨_, congrArg ok (order_ok h ht hr ?_ (Or.inl rfl)), rfl⟩
    rw [hidx]
    exact hv
  case eccInject =>
    intro h ht hr hidx
    refine ⟨_, congrArg ok (order_ok h ht hr ?_ (Or.inl rfl)), rfl⟩
    rw [hidx]
    rfl
  case refused =>
    intro h ht hr
    exact ⟨_, congrArg ok (order_refuses h ht hr), rfl⟩

end Sys2Proof.Machine
end

section
/-!
PROOFS. Custody operations (chapters 08 and 18).
-/

namespace Sys2Proof.Machine

/-- The operation that begins, with no badge yet. -/
def custodyBegun (s : State) (k : CustodyKind) (sid set t n ns : Nat) : CustodyOp :=
  { kind := k, session := sid, start := s.now, set := set, t := t, n := n, ns := ns, live := [], fresh := [], filled := [] }

/-- A begun operation is the key unit's, and nothing else of it changes (R308). -/
theorem beginCustody_keys (s : State) (k : CustodyKind) (sid role set t n ns : Nat) :
    (s.beginCustody k sid role set t n ns).keys = { s.keys with custody := some (custodyBegun s k sid set t n ns) } := by
  unfold State.beginCustody
  refine (State.trailRec_upd.part .keys rfl).trans ?_
  cases k.presence <;> rfl

/-- An operation with badges still to come runs; one that needs none has its effect at once (R308). -/
theorem tryComplete_waits {s : State} {c : CustodyOp} (hc : s.keys.custody = some c) (h : s.badgesDone c = false) (saved : Bool) (cert : List Byte) :
    s.tryComplete saved cert = (s, none) := by
  unfold State.tryComplete
  simp only [hc, h, Bool.false_eq_true, if_false]

theorem tryComplete_ends {s v : State} {c : CustodyOp} {k : Nat} {saved : Bool} {cert : List Byte} (hc : s.keys.custody = some c) (h : s.badgesDone c = true)
    (he : s.custodyEffect c saved cert = (v, k)) : s.tryComplete saved cert = (v.endCustody k, some k) := by
  unfold State.tryComplete
  simp only [hc, h, if_true, he]

/-- A custody command that begins an operation with badges to come. -/
theorem runCustody_waits {s : State} {k : CustodyKind} {sid role set t n ns : Nat} (f : SmlFacts)
    (h : (s.beginCustody k sid role set t n ns).badgesDone (custodyBegun s k sid set t n ns) = false) :
    s.runCustody k sid role set t n ns f = (s.beginCustody k sid role set t n ns, xRunning, 0) := by
  have hc : (s.beginCustody k sid role set t n ns).keys.custody = some (custodyBegun s k sid set t n ns) := by rw [beginCustody_keys]
  unfold State.runCustody
  rw [tryComplete_waits hc h]

/-- A custody command whose operation needs no badge, with its effect. -/
theorem runCustody_ends {s v : State} {k : CustodyKind} {sid role set t n ns : Nat} {f : SmlFacts}
    (h : (s.beginCustody k sid role set t n ns).badgesDone (custodyBegun s k sid set t n ns) = true)
    (he : (s.beginCustody k sid role set t n ns).custodyEffect (custodyBegun s k sid set t n ns) f.saved f.cert = (v, eOk)) :
    s.runCustody k sid role set t n ns f = (v.endCustody eOk, xOk, eOk) := by
  have hc : (s.beginCustody k sid role set t n ns).keys.custody = some (custodyBegun s k sid set t n ns) := by rw [beginCustody_keys]
  unfold State.runCustody
  rw [tryComplete_ends hc h he]
  rfl

/-- The badges that an operation begun needs, of the live set and fresh. -/
theorem badgesDone_begun (s : State) (k : CustodyKind) (sid role set t n ns : Nat) :
    (s.beginCustody k sid role set t n ns).badgesDone (custodyBegun s k sid set t n ns) =
      decide (s.liveNeeded (custodyBegun s k sid set t n ns) ≤ 0 ∧ (custodyBegun s k sid set t n ns).freshNeeded ≤ 0) := by
  have hlive : (s.beginCustody k sid role set t n ns).liveNeeded (custodyBegun s k sid set t n ns) = s.liveNeeded (custodyBegun s k sid set t n ns) := by
    unfold State.liveNeeded
    rw [beginCustody_keys]
  unfold State.badgesDone
  rw [hlive]
  rfl

/-- An operation with fresh badges to come, and one with badges of the live set to come. -/
theorem badgesDone_begun_fresh {s : State} {k : CustodyKind} {sid role set t n ns : Nat} (hk : k = .escrowCreate ∨ k = .vaultRotate) (hn : 0 < n) :
    (s.beginCustody k sid role set t n ns).badgesDone (custodyBegun s k sid set t n ns) = false := by
  have hfresh : (custodyBegun s k sid set t n ns).freshNeeded = n := if_pos hk
  rw [badgesDone_begun, hfresh, decide_eq_false_iff_not]
  omega

theorem badgesDone_begun_live {s : State} {k : CustodyKind} {sid role set t n ns : Nat} {es : EscrowSet} (hk : k = .vaultRestore ∨ k = .nsDestroy)
    (hes : s.keys.live = some es) (ht : 0 < es.t) : (s.beginCustody k sid role set t n ns).badgesDone (custodyBegun s k sid set t n ns) = false := by
  have hlive : s.liveNeeded (custodyBegun s k sid set t n ns) = es.t := by
    rcases hk with rfl | rfl
    · change (s.keys.live.map EscrowSet.t).getD 0 = es.t
      rw [hes]
      rfl
    · change (s.keys.live.map EscrowSet.t).getD 0 = es.t
      rw [hes]
      rfl
  rw [badgesDone_begun, hlive, decide_eq_false_iff_not]
  omega

/-- The operations that need no badge. -/
theorem badgesDone_begun_none {s : State} {k : CustodyKind} {sid role set t n ns : Nat}
    (hk : k = .manifestKeyChange ∨ k = .nsCreate ∨ k = .nsRotate ∨ k = .ownerRelease ∧ s.keys.live = none) :
    (s.beginCustody k sid role set t n ns).badgesDone (custodyBegun s k sid set t n ns) = true := by
  rw [badgesDone_begun]
  rcases hk with rfl | rfl | rfl | ⟨rfl, hnone⟩
  · rfl
  · rfl
  · rfl
  · have hlive : s.liveNeeded (custodyBegun s .ownerRelease sid set t n ns) = 0 := by
      change (s.keys.live.map EscrowSet.t).getD 0 = 0
      rw [hnone]
      rfl
    rw [hlive]
    rfl

/-- An escrow or a rotation that is not refused has at least two badges of fresh shares (R310). -/
theorem shares_of_not_refused {u : State} {x : SmlSession} {e : DictEntry} {arg : List Byte} (h : u.cmdRefusal x e arg = 0) (hidx : e.idx = 0x4012 ∨ e.idx = 0x4014) :
    0 < ofBe arg % 256 := by
  apply Classical.byContradiction
  intro hzero
  have hbad : (e.idx = 0x4012 ∨ e.idx = 0x4014) ∧ (!(decide (2 ≤ ofBe arg / 256 ∧ ofBe arg / 256 ≤ ofBe arg % 256 ∧ ofBe arg % 256 ≤ 16))) = true := by
    refine ⟨hidx, ?_⟩
    rw [Bool.not_eq_true', decide_eq_false_iff_not]
    omega
  unfold State.cmdRefusal at h
  simp only [if_pos hbad] at h
  repeat' split at h
  all_goals exact absurd h (by decide)

/-- ENROLL that passes its checks, where its signature holds and where not (R302, R575). -/
theorem enroll_signed {u v : State} {x : SmlSession} {e : DictEntry} {f : SmlFacts} {sid k : Nat} {bs : List Byte} (hmay : u.custodyMay .enroll 0 = true)
    (hbad : badEnroll bs = none) (hpress : u.pressNow ≠ none) (hnone : u.keys.custody = none) (hcert : f.certOk = true)
    (hsteps : (u.beginCustody .enroll sid x.role 0 0 0 0).enrollSteps bs f.saved f.cert = (v, k))
    (hsig : Config.slhVerify 5 (enrollKey bs) [] u.enrollText (enrollSig bs) = true) :
    u.enroll sid x e bs f = ((((v.endCustody k).newEnrollNonce).dictChange sid x.role e bs).2,
      { status := if k = eOk then xOk else xFailed, detail := k, seq := (((v.endCustody k).newEnrollNonce).dictChange sid x.role e bs).1 }) := by
  have h1 : ¬ u.pressNow.isNone = true := fun h => hpress (Option.isNone_iff_eq_none.mp h)
  have h2 : ¬ ((!f.certOk) = true ∨ (!Config.slhVerify 5 (enrollKey bs) [] u.enrollText (enrollSig bs)) = true) := by
    rw [hcert, hsig]
    decide
  unfold State.enroll
  simp only [hmay, Bool.not_true, Bool.false_eq_true, if_false, hbad, if_neg h1, hnone, Option.isSome_none, if_neg h2, hsteps]

theorem enroll_unsigned {u : State} {x : SmlSession} {e : DictEntry} {f : SmlFacts} {sid : Nat} {bs : List Byte} (hmay : u.custodyMay .enroll 0 = true)
    (hbad : badEnroll bs = none) (hpress : u.pressNow ≠ none) (hnone : u.keys.custody = none)
    (hsig : Config.slhVerify 5 (enrollKey bs) [] u.enrollText (enrollSig bs) = false) :
    u.enroll sid x e bs f = (u.newEnrollNonce.cmdStatus e.idx xAuthFailed, { status := xAuthFailed }) := by
  have h1 : ¬ u.pressNow.isNone = true := fun h => hpress (Option.isNone_iff_eq_none.mp h)
  have h2 : (!f.certOk) = true ∨ (!Config.slhVerify 5 (enrollKey bs) [] u.enrollText (enrollSig bs)) = true := by
    rw [hsig]
    exact Or.inr rfl
  unfold State.enroll
  simp only [hmay, Bool.not_true, Bool.false_eq_true, if_false, hbad, if_neg h1, hnone, Option.isSome_none, if_pos h2]

/-- A badge's record and note, and the operation's completion where it was the last one (R306, R309). -/
def State.badgeNoted (s : State) (b : BadgeIn) (saved : Bool) (e : Nat) : State :=
  (((s.trailRec 0x0302 masterSaddlebag true (beBytes 16 b.keyId ++ leBytes 1 e)).coreNote 2 (beBytes 8 (b.keyId / 2 ^ 64) ++ leBytes 1 e)).tryComplete saved []).1

theorem badgeAuth_refused {s u : State} {c : CustodyOp} {h : BadgeHello} {b : BadgeIn} {saved : Bool} (hc : s.keys.custody = some c) (hh : s.reader.hello = some h)
    (hcard : s.reader.card ≠ none) (hserves : s.nfcServes = true) (hu : u = s.updReader (fun r => { r with hello := none, last := s.now }))
    (hgood : (b.chainOk && b.sigOk && !u.revoked b.keyId) = false) : exec (.badgeAuth b saved) s = .next (u.badgeNoted b saved eBadArg) := by
  have hgo : ¬ (s.reader.card.isNone = true ∨ (!s.nfcServes) = true) := by
    rw [hserves]
    exact fun h => h.elim (fun h => hcard (Option.isNone_iff_eq_none.mp h)) (by decide)
  change execBadgeAuth b saved s = _
  simp only [execBadgeAuth, hc, hh, if_neg hgo, ← hu, hgood, Bool.false_eq_true, if_false, ok]
  rfl

theorem badgeAuth_counts {s u v w : State} {c : CustodyOp} {h : BadgeHello} {b : BadgeIn} {saved : Bool} {k : Nat} (hc : s.keys.custody = some c)
    (hh : s.reader.hello = some h) (hcard : s.reader.card ≠ none) (hserves : s.nfcServes = true)
    (hu : u = s.updReader (fun r => { r with hello := none, last := s.now })) (hgood : (b.chainOk && b.sigOk && !u.revoked b.keyId) = true)
    (hw : w = ((u.updReader (fun r => { r with keys := some (badgeKeys h b) })).fillTransient (Config.mlkemDecaps h.kem b.kemCt) secretAttr).fillTransient
      (swap32 (x25519 h.x25519 b.eph)) secretAttr) (hk : w.countBadge c (badgeKeys h b) b = (v, k)) :
    exec (.badgeAuth b saved) s = .next (v.badgeNoted b saved k) := by
  have hgo : ¬ (s.reader.card.isNone = true ∨ (!s.nfcServes) = true) := by
    rw [hserves]
    exact fun h => h.elim (fun h => hcard (Option.isNone_iff_eq_none.mp h)) (by decide)
  change execBadgeAuth b saved s = _
  simp only [execBadgeAuth, hc, hh, if_neg hgo, ← hu, hgood, if_true, ← hw, hk, ok]
  rfl

/-- Settles O55, an operation at a time. -/
theorem custodyCommandsComplete : Obligations.CustodyCommandsComplete := by
  unfold Obligations.CustodyCommandsComplete
  refine fun s u v x e f sid n k arg => ⟨?enroll, fun hr ht => ⟨?escrow, ?rotate, ?restore, ?destroy, ?release, ?create, ?nsRotate, ?manifest⟩,
    fun c h b hc hh hcard hserves hu => ⟨?badge, ?badgeCounts⟩, ?timeout⟩
  case enroll =>
    intro bs hcmd htyp hmay hbad hpress hnone hcert hsteps
    refine ⟨_, congrArg ok (order_enroll hcmd htyp), fun hsig => ?_, fun hsig => ?_⟩
    · rw [enroll_signed hmay hbad hpress hnone hcert hsteps hsig]
    · rw [enroll_unsigned hmay hbad hpress hnone hsig]
  case escrow =>
    intro hcmd hidx harg
    subst harg
    refine ⟨_, congrArg ok (order_ok hcmd ht hr ?_ (Or.inr rfl)), rfl⟩
    have hn := shares_of_not_refused hr (Or.inl hidx)
    rw [hidx]
    exact runCustody_waits f (badgesDone_begun_fresh (Or.inl rfl) hn)
  case rotate =>
    intro hcmd hidx harg
    subst harg
    refine ⟨_, congrArg ok (order_ok hcmd ht hr ?_ (Or.inr rfl)), rfl⟩
    have hn := shares_of_not_refused hr (Or.inr hidx)
    rw [hidx]
    exact runCustody_waits f (badgesDone_begun_fresh (Or.inr rfl) hn)
  case restore =>
    intro es hcmd hidx harg hes hid hpos
    subst harg
    refine ⟨_, congrArg ok (order_ok hcmd ht hr ?_ (Or.inr rfl)), rfl⟩
    have hset : u.keys.live.map EscrowSet.id = some (ofBe (beBytes 4 n)) := by
      rw [hes, ← hid]
      rfl
    rw [hidx]
    exact (if_pos hset).trans (runCustody_waits f (badgesDone_begun_live (Or.inl rfl) hes hpos))
  case destroy =>
    intro es hcmd hidx harg hes hpos
    subst harg
    refine ⟨_, congrArg ok (order_ok hcmd ht hr ?_ (Or.inr rfl)), rfl⟩
    rw [hidx]
    exact runCustody_waits f (badgesDone_begun_live (Or.inr rfl) hes hpos)
  case release =>
    intro hcmd hidx harg hnone hsaved
    subst harg
    refine ⟨_, congrArg ok (order_ok hcmd ht hr ?_ (Or.inl rfl)), rfl⟩
    rw [hidx]
    exact runCustody_ends (badgesDone_begun_none (Or.inr (Or.inr (Or.inr ⟨rfl, hnone⟩)))) (if_pos hsaved)
  case create =>
    intro hcmd hidx harg hnew
    subst harg
    refine ⟨_, congrArg ok (order_ok hcmd ht hr ?_ (Or.inl rfl)), rfl⟩
    rw [hidx]
    exact runCustody_ends (badgesDone_begun_none (Or.inr (Or.inl rfl))) hnew
  case nsRotate =>
    intro hcmd hidx harg hnew
    subst harg
    refine ⟨_, congrArg ok (order_ok hcmd ht hr ?_ (Or.inl rfl)), rfl⟩
    rw [hidx]
    refine runCustody_ends (badgesDone_begun_none (Or.inr (Or.inr (Or.inl rfl)))) ?_
    have hepoch : (u.beginCustody .nsRotate sid x.role 0 0 0 (ofBe (beBytes 2 n))).keys.nsEpoch = u.keys.nsEpoch := by rw [beginCustody_keys]
    rw [← hnew, ← hepoch]
    rfl
  case manifest =>
    intro hcmd hidx harg hnew
    subst harg
    refine ⟨_, congrArg ok (order_ok hcmd ht hr ?_ (Or.inl rfl)), rfl⟩
    rw [hidx]
    exact runCustody_ends (badgesDone_begun_none (Or.inl rfl)) hnew
  case badge =>
    intro hgood hv
    refine ⟨_, badgeAuth_refused hc hh hcard hserves hu hgood, ?_⟩
    rw [hv]
    rfl
  case badgeCounts =>
    intro w hgood hw hk
    exact ⟨_, badgeAuth_counts hc hh hcard hserves hu hgood hw hk, rfl⟩
  case timeout =>
    intro c hc
    refine ⟨_, ?_, rfl⟩
    change execPresenceTimeout s = _
    simp only [execPresenceTimeout, hc, ok]

end Sys2Proof.Machine
end

section
/-!
PROOFS. The Trail (chapter 19).
-/

namespace Sys2Proof.Machine

theorem trailBacklog_run {s : State} {n since : Nat} {p : TrailPort} {r : TrailRec} {recs : List (Nat × TrailRec)} (hp : tget s.trail.ports n = some p)
    (hheld : p.heldRecs = (since, r) :: recs) :
    exec (.trailBacklog n) s = .next ((s.advanceTo (since + 100 * usec + 1)).raise srcTrailBacklog (p.master n)) := by
  change execTrailBacklog n s = _
  simp only [execTrailBacklog, hp, hheld, List.head?_cons, ok]

theorem subInterrupt_run {s : State} {n : Nat} {x : SubState} (hn : n < 16) (hx : tget s.trail.subs n = some x) (hne : x.uncounted ≠ 0) :
    exec (.subInterrupt n) s = .next (((s.advanceTo (x.firstAt + 10 * usec)).updTrail (fun q => { q with subs := tput q.subs n { x with uncounted := 0 } })).interrupt
      (240 + n)) := by
  have hgo : ¬ (x.uncounted = 0 ∨ 16 ≤ n) := not_or.mpr ⟨hne, Nat.not_le.mpr hn⟩
  change execSubInterrupt n s = _
  simp only [execSubInterrupt, hx, if_neg hgo, ok]

/-- A critical record that waits reaches the journal, or is lost (R585). -/
theorem trailJournalCommit_stored {s : State} {since : Nat} {r : TrailRec} {rest : List (Nat × TrailRec)} (h : s.trail.uncommitted = (since, r) :: rest) :
    exec (.trailJournalCommit true) s = .next ((s.updTrail (fun q => { q with uncommitted := rest })).updTrail
      (fun q => { q with journal := (q.journal ++ [r.bytes]).drop (q.journal.length + 1 - journalRecords) })) := by
  change execTrailJournalCommit true s = _
  simp only [execTrailJournalCommit, h, if_true, ok]

theorem trailJournalCommit_lost {s u : State} {since : Nat} {r : TrailRec} {rest : List (Nat × TrailRec)} (h : s.trail.uncommitted = (since, r) :: rest)
    (hu : u = (s.updTrail (fun q => { q with uncommitted := rest })).advanceTo (since + 5 * msec)) :
    exec (.trailJournalCommit false) s = .next (((u.bump Reg.TRL_EVENTS.JLOST).trailRec 0x0803 masterTrail false (lostBody 0xFF 1)).raise srcTrlFlashLag) := by
  subst hu
  change execTrailJournalCommit false s = _
  simp only [execTrailJournalCommit, h, Bool.false_eq_true, if_false, ok]

/-- Settles O56, a command at a time. -/
theorem trailCommandsComplete : Obligations.TrailCommandsComplete := by
  unfold Obligations.TrailCommandsComplete
  refine fun s u n since p r x rest nonce report => ⟨?accept, ?backlog, ?sub, fun h => ⟨?stored, ?lost⟩, ?written, ?attested, ?unattested⟩
  case accept =>
    intro hrun hchosen
    have hgo : ¬ ((!s.trail.running) = true ∨ s.trail.chosen.isNone = true) := by
      rw [hrun]
      exact fun h => h.elim (by decide) (fun h => hchosen (Option.isNone_iff_eq_none.mp h))
    refine ⟨_, ?_, rfl⟩
    change execTrailRecordAccept s = _
    rw [execTrailRecordAccept, if_neg hgo, ok]
  case backlog => exact fun recs hp hheld => ⟨_, trailBacklog_run hp hheld, rfl⟩
  case sub => exact fun hn hx hne => ⟨_, subInterrupt_run hn hx hne, rfl⟩
  case stored => exact ⟨_, trailJournalCommit_stored h, (State.updTrail_upd.seq State.updTrail_upd).agreeBut (by decide), rfl,
    by rw [State.updTrail_trail, State.updTrail_trail], rfl, rfl, rfl⟩
  case lost => exact fun hu => ⟨_, trailJournalCommit_lost h hu, rfl⟩
  case written =>
    rintro w user crit rfl pair
    exact ⟨_, rfl, rfl⟩
  case attested =>
    intro h
    refine ⟨_, ?_, rfl⟩
    change execAttestRequest nonce n s = _
    simp only [execAttestRequest, h, ok]
  case unattested =>
    intro h
    refine ⟨_, ?_, rfl⟩
    change execAttestRequest nonce n s = _
    simp only [execAttestRequest, h, ok]

end Sys2Proof.Machine
end

section
/-!
PROOFS. The Burnisher's activities (chapter 19).
-/

namespace Sys2Proof.Machine

/-- A bit of a number, as the library has it. -/
theorem bitOf_eq_testBit (v i : Nat) : bitOf v i = v.testBit i := by
  rw [Nat.testBit_eq_decide_div_mod_eq, Bool.eq_iff_iff]
  simp [bitOf]

/-- A bit that has been set in a field wide enough for it. -/
theorem bitOf_setBit_true (s : State) (f : Field) {i : Nat} (hi : i < f.width) : bitOf ((s.setBit f i true).rd f) i = true := by
  rw [State.setBit, rd_wr_self, bitOf_eq_testBit, Nat.testBit_mod_two_pow, decide_eq_true hi, Bool.true_and]
  by_cases hbit : bitOf (s.rd f) i = true
  · rw [if_pos hbit, ← bitOf_eq_testBit, hbit]
  · rw [if_neg hbit, if_pos rfl, Nat.add_comm, Nat.testBit_two_pow_add_eq, ← bitOf_eq_testBit, Bool.eq_false_iff.mpr hbit]
    rfl

/-- What a quiet channel is. -/
theorem channelQuiet_lt {s : State} {ch : Nat} (h : s.channelQuiet ch = true) : ch < 12 := by
  unfold State.channelQuiet at h
  simp only [Bool.and_eq_true, decide_eq_true_eq] at h
  exact h.1.1.1

/-- The scrub of a block whose sectors all read well marks none for refresh (R441). -/
theorem flashReadScrub_clean {s u : State} {k : Nat} (hquiet : s.flashQuiet k = true)
    (hu : u = s.advanceTo ((s.flash.block k).scrubbed + (if (s.flash.block k).slc then 30 else 7) * 24 * hour)) :
    exec (.flashReadScrub k [] []) s = .next ((u.countReads (u.flash.validIn k)).updFlash (fun f => f.updBlock k (fun b => { b with scrubbed := u.now }))) := by
  have hmarks : ∀ (f : Flash) (secs : List Nat), secs.filter (fun x => ([] : List Nat).contains x && !f.marked.contains x) = [] := fun f secs =>
    List.filter_eq_nil_iff.mpr (fun x _ => by simp)
  have hbad : ∀ secs : List Nat, secs.filter (([] : List Nat).contains ·) = [] := fun secs => List.filter_eq_nil_iff.mpr (fun x _ => by simp)
  have hweak : ∀ secs : List Nat, secs.any (([] : List Nat).contains ·) = false := fun secs => List.any_eq_false.mpr (fun x _ => by simp)
  subst hu
  change execFlashReadScrub k [] [] s = _
  simp only [execFlashReadScrub, hquiet, Bool.not_true, Bool.false_eq_true, if_false, hmarks, hbad, hweak, List.append_nil, List.foldl_nil, and_false, ok]

/-- A retraining that is due (R592). -/
theorem ddrRetraining_run {s : State} {ch : Nat} (hquiet : s.channelQuiet ch = true) (hdue : s.retrainDue ch = true) (hnone : s.retrainingChannel = none)
    (hall : channels.all s.chanHealthy = true) :
    ∃ w : State, exec (.ddrRetraining ch) s = .next (w.setBit Reg.STG_CHSTATE.RETRAIN ch true) ∧ w.now = s.now ∧ w.mem = s.mem := by
  have hgo : ¬ ((!s.channelQuiet ch) = true ∨ (!s.retrainDue ch) = true ∨ s.retrainingChannel.isSome = true ∨ (!channels.all s.chanHealthy) = true) := by
    simp [hquiet, hdue, hnone, hall]
  have hrun : exec (.ddrRetraining ch) s = execDdrRetraining ch s := rfl
  rw [hrun, execDdrRetraining, if_neg hgo]
  refine ⟨_, rfl, ?_, ?_⟩
  · split <;> rfl
  · split <;> rfl

/-- The trim that a measurement comes to: the mean of the last six, within 200 ppm (R592). -/
theorem kennelOscillatorTrim_run {s : State} {i : Int} (hpower : s.mainPower = true) (hdead : s.kennel.dead = false) (hon : s.mainOn = true) :
    exec (.kennelOscillatorTrim i false) s = .next ((s.updTelemetry (fun q => { q with trims := (i :: s.telemetry.trims).take 6 })).wr Reg.KNL_TRIM.PPM10
      ((max (-2000) (min 2000 (((i :: s.telemetry.trims).take 6).sum / (((i :: s.telemetry.trims).take 6).length : Int)))) % 65536).toNat) := by
  have hgo : ¬ ((!s.mainPower) = true ∨ s.kennel.dead = true ∨ (!s.mainOn) = true ∨ false = true) := by simp [hpower, hdead, hon]
  change execKennelOscillatorTrim i false s = _
  rw [execKennelOscillatorTrim, if_neg hgo]
  rfl

theorem trim_lt (m : Int) : (m % 65536).toNat < 65536 := by omega

/-- A telemetry sample before the Kennel's second is over (R589). -/
theorem telemetrySample_run {s u v : State} {x : Sample} (hlit : s.lit = true)
    (hu : u = s.advanceTo (s.telemetry.last + max 1 (min 100 (s.rd Reg.BRN_CFG.TELEMETRY_MS)) * msec))
    (hv : v = (List.range 64).foldl (fun a j => a.sensorSample x.temps j) (u.updTelemetry (fun q => { q with
      temps := x.temps, rails := x.rails, power := ((x.rails.zip x.amps).map (fun p => p.1 * p.2 / 1000)).sum,
      core := ((x.rails.zip x.amps).map (fun p => p.1 * p.2 / 1000)).headD 0, last := u.now, dimms := x.dimms.foldl (fun d p => tput d p.1 p.2) q.dimms })))
    (hnow : v.now < v.telemetry.kennelAt + second) : exec (.telemetrySample x) s = .next v.showTj := by
  have hgo : ¬ (!s.lit) = true := by rw [hlit]; decide
  have hearly : ¬ v.telemetry.kennelAt + second ≤ v.now := Nat.not_le.mpr hnow
  change execTelemetrySample x s = _
  rw [execTelemetrySample, if_neg hgo]
  simp only [← hu, ← hv, if_neg hearly, ok]

/-- Settles O57, an activity at a time. -/
theorem backgroundCommandsComplete : Obligations.BackgroundCommandsComplete := by
  unfold Obligations.BackgroundCommandsComplete
  refine fun s u v k ch off n bad weak i => ⟨?held, ?refreshed, ?levelled, ?scrubbed, ?patrol, ?calibrated, ?retrained, fun hn hlit => ⟨?offset, ?sensorFail⟩, ?trim,
    ?overrun, ?sample⟩
  case held =>
    intro hquiet hdue hprot
    refine ⟨_, ?_, rfl⟩
    change execReadDisturbRefresh k bad n s = _
    simp only [execReadDisturbRefresh, hquiet, hdue, hprot, Bool.not_true, Bool.false_eq_true, or_self, if_false, if_true, ok]
  case refreshed =>
    intro hquiet hdue hprot
    refine ⟨_, ?_, rfl⟩
    change execReadDisturbRefresh k bad n s = _
    simp only [execReadDisturbRefresh, hquiet, hdue, hprot, Bool.not_true, Bool.false_eq_true, or_self, if_false, ok]
  case levelled =>
    intro hquiet hprot hworn
    refine ⟨_, ?_, rfl⟩
    change execWearLevelling k bad n s = _
    simp only [execWearLevelling, hquiet, hprot, hworn, Bool.not_true, Bool.false_eq_true, or_self, if_false, if_true, ok]
  case scrubbed => exact fun hquiet hu => ⟨_, flashReadScrub_clean hquiet hu, rfl⟩
  case patrol =>
    intro hquiet hoff
    have hgo : ¬ ((!s.channelQuiet ch) = true ∨ tgetD s.guards.installed ch 0 ≤ off) := by simp [hquiet, hoff]
    refine ⟨_, ?_, rfl⟩
    change execDramPatrolScrub ch off n s = _
    rw [execDramPatrolScrub, if_neg hgo]
    rfl
  case calibrated =>
    intro hquiet
    exact ⟨_, congrArg (fun b : Bool => if b = true then ok (s.advance usec) else ok s) hquiet, rfl⟩
  case retrained =>
    intro hquiet hdue hnone hall
    obtain ⟨w, hrun, hnow, hmem⟩ := ddrRetraining_run hquiet hdue hnone hall
    exact ⟨_, hrun, bitOf_setBit_true w _ (channelQuiet_lt hquiet), hnow, hmem⟩
  case offset =>
    intro hne hsmall
    have hgo : ¬ (64 ≤ n ∨ (!s.lit) = true) := by simp [hn, hlit]
    refine ⟨s.updTelemetry (fun t => { t with offsets := tput t.offsets n i }), ?_, State.updTelemetry_upd.agreeBut (by decide), tget_tput_self _ _ _⟩
    change execSensorCalibration n i s = _
    simp only [execSensorCalibration, if_neg hgo, if_pos hsmall, if_neg hne, ok]
  case sensorFail =>
    intro hlarge hnone
    have hgo : ¬ (64 ≤ n ∨ (!s.lit) = true) := by simp [hn, hlit]
    have hbig : ¬ i.natAbs ≤ 4000 := Nat.not_le.mpr hlarge
    refine ⟨_, ?_, rfl⟩
    change execSensorCalibration n i s = _
    simp only [execSensorCalibration, if_neg hgo, if_neg hbig, hnone, Option.isSome_none, Bool.false_eq_true, if_false, ok]
  case trim =>
    intro hpower hdead hon
    refine ⟨_, kennelOscillatorTrim_run hpower hdead hon, (State.updTelemetry_upd.seq State.wr_upd).agreeBut (by decide), rfl, ?_⟩
    exact (rd_wr_self _ _ _).trans (Nat.mod_eq_of_lt (trim_lt _))
  case overrun =>
    intro hlow hhigh hlit
    have hgo : ¬ (n = 0 ∨ 12 < n ∨ (!s.lit) = true) := by
      rw [hlit]
      rintro (h | h | h)
      · omega
      · omega
      · nomatch h
    refine ⟨_, ?_, rfl⟩
    change execBrnOverrun n s = _
    rw [execBrnOverrun, if_neg hgo, ok]
  case sample => exact fun x hlit hu hv hnow => ⟨_, telemetrySample_run hlit hu hv hnow, rfl⟩

end Sys2Proof.Machine
end

section
/-!
PROOFS. Resets, the watchdog and the power-good pin (chapter 20).
-/

namespace Sys2Proof.Machine

/-- A held reset that begins (R600). -/
theorem holdReset_begins {s : State} (src : Nat) (cause : Field) (hpower : s.chip.powerOk = true) (hheld : s.chip.held = false) :
    s.holdReset src cause = ((s.raise src).clearMain.flag cause true).updChip (fun c => { c with held := true }) := by
  simp only [State.holdReset, hpower, hheld, Bool.not_true, Bool.false_eq_true, if_false]

/-- A main-domain reset where none is held (R606, R607). -/
theorem mainReset_run {s : State} (cause : Field) (hheld : s.chip.held = false) :
    s.mainReset cause = (s.clearMain.flag cause true).advance (100 * usec) := by
  rw [State.mainReset, if_neg (Bool.eq_false_iff.mp hheld)]

theorem sysrst_run {s : State} (hpower : s.chip.powerOk = true) : exec .sysrst s = .next (s.mainReset Reg.RST_CAUSE.PIN) := by
  change execSysrst s = _
  rw [execSysrst, if_pos hpower, ok]

theorem refclkRestore_run {s : State} (hpower : s.chip.powerOk = true) (hheld : s.chip.held = true) :
    exec .refclkRestore s = .next ((s.advance (10 * msec)).updChip (fun c => { c with held := false })) := by
  change execRefclkRestore s = _
  rw [execRefclkRestore, if_pos ⟨hheld, hpower⟩, ok]

theorem rstMain_run {s : State} (hmain : s.mainOn = true) : exec (.rstMain .keeper) s = .next (s.mainReset Reg.RST_CAUSE.SOFT) := by
  change execRstMain .keeper s = _
  rw [execRstMain, if_pos ⟨rfl, hmain⟩, ok]

theorem watchdogExpiry_run {s : State} (hen : s.isSet Reg.WDT_CTRL.EN = true) (hbooted : s.chip.booted = true) (hmain : s.mainOn = true) :
    exec .watchdogExpiry s = .next ((s.advanceTo (s.chip.kicked + s.wdtTimeout)).mainReset Reg.RST_CAUSE.WDT) := by
  change execWatchdogExpiry s = _
  rw [execWatchdogExpiry, if_pos ⟨hen, hbooted, hmain⟩, ok]

/-- Only the key 0x5A kicks the watchdog (R608). -/
theorem wdtKick_other {s : State} {k : Nat} (hkey : k % 256 ≠ 0x5A) : exec (.wdtKick .keeper k) s = .next s := by
  change execWdtKick .keeper k s = _
  rw [execWdtKick, if_neg (fun h => hkey h.2), ok]

theorem wdtEnable_run {s : State} (hoff : s.isSet Reg.WDT_CTRL.EN = false) :
    exec (.wdtEnable .keeper) s = .next ((s.flag Reg.WDT_CTRL.EN true).updChip (fun c => { c with kicked := s.now })) := by
  have hgo : ¬ (World.keeper = .tack ∨ s.isSet Reg.WDT_CTRL.EN = true) := by simp [hoff]
  change execWdtEnable .keeper s = _
  rw [execWdtEnable, if_neg hgo]
  rfl

/-- A pair resets another (R606). -/
theorem rstPair_run {s : State} {p q : PairId} (hmain : s.mainOn = true) (hother : p ≠ q) :
    exec (.rstPair p q .keeper) s =
      .next (((s.wr Reg.RST_CMD.PAIR_SEL q).updPair q (fun c => { Pair.reset q.val with save := c.save, testing := c.testing })).dropOwn q) := by
  have hgo : ¬ (World.keeper = .tack ∨ p = q ∨ (!s.mainOn) = true) := by simp [hmain, hother]
  change execRstPair p q .keeper s = _
  rw [execRstPair, if_neg hgo]
  rfl

/-- The reset of a pair, read back: the pair itself and the others. -/
theorem core_dropOwn_updPair (s : State) (q : PairId) (f : Pair → Pair) :
    ((s.updPair q f).dropOwn q).core q = f (s.core q) ∧ ∀ r : PairId, r ≠ q → ((s.updPair q f).dropOwn q).core r = s.core r :=
  ⟨core_updPair s q f, fun r hr => (setsPair_updPair s q f).2.2.1 r hr⟩

theorem pwrOkFall_run {s : State} (torn : List Nat) (hpower : s.chip.powerOk = true) :
    exec (.pwrOkFall torn) s = .next (((torn.foldl State.cutErase s).clearMain).updChip (fun _ => { State.reset.chip with powerOk := false })) := by
  have hgo : ¬ (!s.chip.powerOk) = true := by simp [hpower]
  change execPwrOkFall torn s = _
  rw [execPwrOkFall, if_neg hgo]
  rfl

/-- The cause bits of a cold reset (R606, R607): COLD alone. -/
def State.causeCold (s : State) : State :=
  (((((s.flag Reg.RST_CAUSE.COLD true).flag Reg.RST_CAUSE.PIN false).flag Reg.RST_CAUSE.SOFT false).flag Reg.RST_CAUSE.WDT false).flag Reg.RST_CAUSE.REF_LOSS false).flag
    Reg.RST_CAUSE.PLL_UNLOCK false

theorem pwrOkRise_run {s : State} (hoff : s.chip.powerOk = false) :
    exec .pwrOkRise s = .next (s.clearMain.updChip (fun c => { c with powerOk := true, held := false })).causeCold := by
  change execPwrOkRise s = _
  rw [execPwrOkRise, if_neg (Bool.eq_false_iff.mp hoff)]
  rfl

theorem causeCold_causes (s : State) : s.causeCold.rd Reg.RST_CAUSE.COLD = 1 ∧ s.causeCold.rd Reg.RST_CAUSE.PIN = 0 ∧ s.causeCold.rd Reg.RST_CAUSE.SOFT = 0 ∧
    s.causeCold.rd Reg.RST_CAUSE.WDT = 0 ∧ s.causeCold.rd Reg.RST_CAUSE.REF_LOSS = 0 ∧ s.causeCold.rd Reg.RST_CAUSE.PLL_UNLOCK = 0 := by
  unfold State.causeCold
  refine ⟨?cold, ?pin, ?soft, ?wdt, ?ref, ?pll⟩
  case cold =>
    rw [rd_flag_ne _ _ (by decide), rd_flag_ne _ _ (by decide), rd_flag_ne _ _ (by decide), rd_flag_ne _ _ (by decide), rd_flag_ne _ _ (by decide), rd_flag_self]
    decide
  case pin =>
    rw [rd_flag_ne _ _ (by decide), rd_flag_ne _ _ (by decide), rd_flag_ne _ _ (by decide), rd_flag_ne _ _ (by decide), rd_flag_self]
    decide
  case soft =>
    rw [rd_flag_ne _ _ (by decide), rd_flag_ne _ _ (by decide), rd_flag_ne _ _ (by decide), rd_flag_self]
    decide
  case wdt =>
    rw [rd_flag_ne _ _ (by decide), rd_flag_ne _ _ (by decide), rd_flag_self]
    decide
  case ref =>
    rw [rd_flag_ne _ _ (by decide), rd_flag_self]
    decide
  case pll =>
    rw [rd_flag_self]
    decide

theorem causeCold_parts (s : State) : s.causeCold.mem = s.mem ∧ s.causeCold.collar = s.collar ∧ s.causeCold.kennel = s.kennel := by
  simp only [State.causeCold, State.flag_mem, State.flag_collar, State.flag_kennel, and_self]

/-- What a main-domain reset keeps of the Collar and the Kennel, and that it clears memory (Table 20-5). -/
theorem clearMain_parts (s : State) : s.clearMain.mem = State.reset.mem ∧ s.clearMain.collar = s.collar ∧ s.clearMain.kennel = s.kennel :=
  ⟨rfl, rfl, rfl⟩

/-- Settles O58, a reset at a time. -/
theorem resetCommandsComplete : Obligations.ResetCommandsComplete := by
  unfold Obligations.ResetCommandsComplete
  refine fun s p q k torn => ⟨fun hpower hheld => ⟨?refLoss, ?unlock, ?sysrst⟩, ?restore, ?soft, ?watchdog, ?kick, ?noKick, ?enable, ?pair, ?fall, ?rise⟩
  case refLoss => exact ⟨_, congrArg ok (holdReset_begins srcClkRefLoss Reg.RST_CAUSE.REF_LOSS hpower hheld), rfl⟩
  case unlock => exact ⟨_, congrArg ok (holdReset_begins srcClkPllUnlock Reg.RST_CAUSE.PLL_UNLOCK hpower hheld), rfl⟩
  case sysrst => exact ⟨_, sysrst_run hpower, mainReset_run _ hheld⟩
  case restore => exact fun hpower hheld => ⟨_, refclkRestore_run hpower hheld, rfl⟩
  case soft => exact fun hmain hheld => ⟨_, rstMain_run hmain, mainReset_run _ hheld⟩
  case watchdog =>
    intro hen hbooted hmain hheld
    exact ⟨_, watchdogExpiry_run hen hbooted hmain, mainReset_run _ (by rw [State.advanceTo_chip, hheld])⟩
  case kick => exact ⟨s.updChip (fun c => { c with kicked := s.now }), rfl, State.updChip_upd.agreeBut (by decide), rfl⟩
  case noKick => exact fun hkey => ⟨s, wdtKick_other hkey, rfl⟩
  case enable =>
    intro hoff
    refine ⟨_, wdtEnable_run hoff, (State.flag_upd.seq State.updChip_upd).agreeBut (by decide), ?_, rfl⟩
    exact beq_iff_eq.mpr (rd_flag_self s Reg.WDT_CTRL.EN true)
  case pair =>
    intro hmain hother
    have hcores := core_dropOwn_updPair (s.wr Reg.RST_CMD.PAIR_SEL q) q (fun c => { Pair.reset q.val with save := c.save, testing := c.testing })
    exact ⟨_, rstPair_run hmain hother, hcores.1, hcores.2⟩
  case fall => exact fun hpower => ⟨_, pwrOkFall_run torn hpower, rfl⟩
  case rise =>
    intro hoff
    obtain ⟨hcold, hpin, hsoft, hwdt, href, hpll⟩ := causeCold_causes (s.clearMain.updChip (fun c => { c with powerOk := true, held := false }))
    obtain ⟨hmem, hcollar, hkennel⟩ := causeCold_parts (s.clearMain.updChip (fun c => { c with powerOk := true, held := false }))
    obtain ⟨hmemR, hcollarR, hkennelR⟩ := clearMain_parts s
    exact ⟨_, pwrOkRise_run hoff, rfl, rfl, hcold, hpin, hsoft, hwdt, href, hpll, hmem.trans hmemR, hcollar.trans hcollarR, hkennel.trans hkennelR⟩

end Sys2Proof.Machine
end

section
/-!
PROOFS. Clock references, the core supply, seal service and the central units (chapters 01 and 20).
-/

namespace Sys2Proof.Machine

/-- The north reference goes while every MAC is already down: no path is left to fail. -/
theorem laneRefLoss_north {s : State} (hlit : s.lit = true) (hdown : s.queue.downMacs = List.range 16) :
    exec (.laneRefLoss true) s = .next (s.flag Reg.CLK_STATUS.NREF_OK false) := by
  have hgo : ¬ (!s.lit) = true := by simp [hlit]
  have hports : (List.range 16).filter (fun p => !(s.flag Reg.CLK_STATUS.NREF_OK false).queue.downMacs.contains p) = [] := by
    rw [State.flag_queue, hdown]
    decide
  have hpaths : ∀ ps : List (Nat × Path), tkeys ps (fun _ p => ([] : List Nat).contains p.port) = [] := fun ps => by simp [tkeys]
  change execLaneRefLoss true s = _
  simp only [execLaneRefLoss, if_neg hgo, if_true, hports, List.foldl_nil, hpaths, List.map_nil, List.flatMap_eq_nil_iff.mpr (fun _ _ => rfl), ok]

theorem laneRefLoss_south {s : State} (hlit : s.lit = true) :
    exec (.laneRefLoss false) s = .next (s.south.upPorts.foldl State.portDown (s.flag Reg.CLK_STATUS.SREF_OK false)) := by
  have hgo : ¬ (!s.lit) = true := by simp [hlit]
  change execLaneRefLoss false s = _
  simp only [execLaneRefLoss, if_neg hgo, Bool.false_eq_true, if_false, ok]

theorem laneRefReturn_run {s : State} (north : Bool) (hmain : s.mainOn = true) :
    exec (.laneRefReturn north) s = .next (s.flag (if north then Reg.CLK_STATUS.NREF_OK else Reg.CLK_STATUS.SREF_OK) true) := by
  have hgo : ¬ (!s.mainOn) = true := by simp [hmain]
  change execLaneRefReturn north s = _
  rw [execLaneRefReturn, if_neg hgo, ok]

theorem nfcXtalLoss_run {s : State} (hlit : s.lit = true) :
    exec .nfcXtalLoss s =
      .next (((s.flag Reg.CLK_STATUS.NFC_XTAL_OK false).updReader (fun r => { r with mode := .fault, card := none, active := false })).raise srcNfcXtalLoss) := by
  have hgo : ¬ (!s.lit) = true := by simp [hlit]
  change execNfcXtalLoss s = _
  rw [execNfcXtalLoss, if_neg hgo, ok]

theorem nfcXtalReturn_run {s : State} (hmain : s.mainOn = true) (hmode : s.reader.mode = .fault) :
    exec .nfcXtalReturn s = .next (((s.flag Reg.CLK_STATUS.NFC_XTAL_OK true).updReader (fun r => { r with mode := .idle })).fall srcNfcXtalLoss) := by
  have hgo : ¬ (!s.mainOn) = true := by simp [hmain]
  change execNfcXtalReturn s = _
  simp only [execNfcXtalReturn, if_neg hgo, State.flag_reader, hmode, if_true, ok]

theorem pwrAvs_run {s : State} (n : Nat) (hmain : s.mainOn = true) : exec (.pwrAvs n .keeper) s = .next (s.wr Reg.PWR_AVS.TARGET (max 65 (min 85 (n % 256)))) := by
  have hgo : ¬ (World.keeper = .tack ∨ (!s.mainOn) = true) := by simp [hmain]
  change execPwrAvs n .keeper s = _
  rw [execPwrAvs, if_neg hgo, ok]

/-- An acknowledged step of the core supply upward (R604). -/
theorem avsStep_up {s : State} (hmain : s.mainOn = true) (hbooted : s.chip.booted = true) (hnack : s.isSet Reg.PWR_AVS.NACK = false) (hfails : s.chip.avsFails = 0)
    (hlow : s.rd Reg.PWR_AVS.NOW < s.rd Reg.PWR_AVS.TARGET) :
    exec (.avsStep true) s = .next (((((s.advance (100 * usec)).wr Reg.PWR_AVS.NOW (s.rd Reg.PWR_AVS.NOW + 1)).emit .regulator 0x21 [10 * (s.rd Reg.PWR_AVS.NOW + 1)]).updChip
      (fun q => { q with avsFails := 0 })).flag Reg.PWR_AVS.NACK false) := by
  have hgo : ¬ ((!s.mainOn) = true ∨ (!s.chip.booted) = true ∨ s.isSet Reg.PWR_AVS.NACK = true ∨ (s.rd Reg.PWR_AVS.NOW = s.rd Reg.PWR_AVS.TARGET ∧ s.chip.avsFails = 0)) := by
    simp [hmain, hbooted, hnack, Nat.ne_of_lt hlow]
  have hfine : ¬ s.chip.avsFails ≠ 0 := fun h => h hfails
  have hlast : decide (3 ≤ 0) = false := by decide
  change execAvsStep true s = _
  simp only [execAvsStep, if_neg hgo, if_neg hfine, if_pos hlow, if_true, hlast, ok]

/-- What SEAL_ENTER asks of the state before its register is written, after it. -/
theorem safe_wr_op (s : State) (v : Nat) : (s.wr Reg.PWR_CMD.OP v).safe = s.safe :=
  congrArg (· == 1) (rd_wr_ne s v (by decide))

/-- SEAL_ENTER in the heel, past its first checks: the command stands in its register (R609). -/
theorem sealEnter_heel {s : State} (x : SealIn) (hmain : s.mainOn = true) (hbooted : s.chip.booted = true) (hidle : ∀ b : Nat, s.chip.shut ≠ .running b)
    (hheel : s.svc = .heel) (hsafe : s.safe = false) :
    exec (.sealEnter false .keeper x) s = ok (
      if s.keyed = false then (s.wr Reg.PWR_CMD.OP 1).pwrEnd 1 0
      else if s.chip.debugLock = true ∨ bitOf (s.rd Reg.DBG_STATUS.OPEN) 3 = true then (s.wr Reg.PWR_CMD.OP 1).pwrEnd 2 0
      else if s.heelRetains then (((((s.wr Reg.PWR_CMD.OP 1).updChip (fun c => { c with shut := .off })).advance (x.us * usec)).flag Reg.ECC_TEST.EN false).resumeSeal x)
      else (((s.wr Reg.PWR_CMD.OP 1).updChip (fun c => { c with shut := .off })).advance (x.us * usec)).enterSeal x) := by
  have hopen : (s.wr Reg.PWR_CMD.OP 1).rd Reg.DBG_STATUS.OPEN = s.rd Reg.DBG_STATUS.OPEN := rd_wr_ne s 1 (by decide)
  have hretains : (((s.wr Reg.PWR_CMD.OP 1).updChip (fun c => { c with shut := .off })).advance (x.us * usec)).heelRetains = s.heelRetains := by
    rw [State.advance_heelRetains, State.updChip_heelRetains, State.wr_heelRetains]
  have hrun : exec (.sealEnter false .keeper x) s = execSealEnter false .keeper x s := rfl
  rw [hrun]
  unfold execSealEnter
  extract_lets busy u w
  have hfree : busy = false := by
    cases hshut : s.chip.shut with
    | running b => exact absurd hshut (hidle b)
    | off => simp only [busy, hshut]
    | late => simp only [busy, hshut]
  have hgo : ¬ ((!s.mainOn) = true ∨ (!s.chip.booted) = true ∨ busy = true) := by simp [hmain, hbooted, hfree]
  have hnotAuto : ¬ (false = true ∧ ((!s.isSet Reg.PWR_CTRL.AUTO_SEAL) = true ∨ s.svc ≠ .heel)) := by simp
  have hkeeper : ¬ ((!false) = true ∧ World.keeper = .tack) := by simp
  have hfit : ¬ (u.svc ≠ .heel ∨ u.safe = true) := by
    have hu : u.safe = false := (safe_wr_op s 1).trans hsafe
    have hsvc : u.svc = .heel := hheel
    simp [hu, hsvc]
  rw [if_neg hgo, if_neg hnotAuto, if_neg hkeeper, if_neg hfit]
  by_cases hkeyed : s.keyed = true
  case neg =>
    rw [if_pos (Bool.eq_false_iff.mpr hkeyed), if_pos (show (!u.keyed) = true from Bool.not_eq_true' _ |>.mpr (Bool.eq_false_iff.mpr hkeyed))]
    rfl
  rw [if_neg (Bool.ne_false_iff.mpr hkeyed), if_neg (show ¬ (!u.keyed) = true by rw [show u.keyed = true from hkeyed]; decide)]
  have hsame : (u.chip.debugLock = true ∨ bitOf (u.rd Reg.DBG_STATUS.OPEN) 3 = true) ↔ (s.chip.debugLock = true ∨ bitOf (s.rd Reg.DBG_STATUS.OPEN) 3 = true) := by
    rw [show u.rd Reg.DBG_STATUS.OPEN = s.rd Reg.DBG_STATUS.OPEN from hopen, show u.chip.debugLock = s.chip.debugLock from rfl]
  by_cases hdebug : s.chip.debugLock = true ∨ bitOf (s.rd Reg.DBG_STATUS.OPEN) 3 = true
  · rw [if_pos hdebug, if_pos (hsame.mpr hdebug)]
    rfl
  · rw [if_neg hdebug, if_neg (mt hsame.mp hdebug)]
    exact congrArg ok (ite_congr (congrArg (· = true) hretains) (fun _ => rfl) (fun _ => rfl))

/-- SHUTDOWN begins its wait (R611). -/
theorem shutdown_run {s : State} (hmain : s.mainOn = true) (hidle : ∀ b : Nat, s.chip.shut ≠ .running b) (hseal : (s.wr Reg.PWR_CMD.OP 2).sealRuns = true) :
    exec (.shutdown false .keeper) s = .next ((((s.wr Reg.PWR_CMD.OP 2).pwrEnd 0 0).updChip (fun q => { q with shut := .running (s.wr Reg.PWR_CMD.OP 2).now })).shutProgress) := by
  have hrun : exec (.shutdown false .keeper) s = execShutdown false .keeper s := rfl
  rw [hrun]
  unfold execShutdown
  extract_lets busy u
  have hfree : busy = false := by
    cases hshut : s.chip.shut with
    | running b => exact absurd hshut (hidle b)
    | off => simp only [busy, hshut]
    | late => simp only [busy, hshut]
  have hgo : ¬ (World.keeper = .tack ∨ busy = true ∨ (!s.mainOn) = true) := by simp [hmain, hfree]
  simp only [Bool.false_eq_true, if_false, if_neg hgo, u, hseal, Bool.not_true, ok]

theorem shutdownTimeout_run {s : State} {begun : Nat} (hshut : s.chip.shut = .running begun) :
    exec .shutdownTimeout s =
      .next (((s.advanceTo (begun + max 10 (s.rd Reg.PWR_CTRL.SHUT_S) * second)).pwrEnd 4 0).updChip (fun q => { q with shut := .late })) := by
  change execShutdownTimeout s = _
  simp only [execShutdownTimeout, hshut, ok]

theorem stCmd_run {s : State} (p : PairId) (n : Nat) (hnone : s.chip.testRun = none) :
    exec (.stCmd p .keeper n) s = .next ((s.wr Reg.ST_CMD.KIND n).runTests (some p.val) (n % 8)).1 := by
  have hgo : ¬ (World.keeper = .tack ∨ s.chip.testRun.isSome = true) := by simp [hnone]
  change execStCmd p .keeper n s = _
  rw [execStCmd, if_neg hgo, ok]

/-- A first disagreement of a central unit only asks it to run again (R13). -/
theorem centralRetry_first {s : State} {c : Central} (hnone : tget s.collector.disagreed c.source = none) :
    exec (.centralRetry c) s = .next ((s.updCollector (fun q => { q with disagreed := tput q.disagreed c.source s.now })).raise srcCentralRetry c.source) := by
  change execCentralRetry c s = _
  simp only [execCentralRetry, hnone, Bool.false_eq_true, if_false, ok]

/-- A second disagreement within 1 ms is the unit's own fault (R13). -/
theorem centralRetry_again {s : State} {c : Central} {first : Nat} (hfirst : tget s.collector.disagreed c.source = some first) (hsoon : s.now < first + msec) :
    exec (.centralRetry c) s = .next ((s.updCollector (fun q => { q with disagreed := tput q.disagreed c.source s.now })).raise c.source) := by
  change execCentralRetry c s = _
  simp only [execCentralRetry, hfirst, decide_eq_true hsoon, if_true, ok]

theorem sealSetLost_run {s : State} (hseal : s.inSeal = true) (hmay : s.sealMay = false) :
    exec .sealSetLost s = .next ((tkeys s.queue.objects (fun _ o => o.state == .openObj)).foldl (fun a o => a.abortObject o (if s.keyed then cServiceDown else cUnkeyed) true) s) := by
  have hgo : ¬ ((!s.inSeal) = true ∨ s.sealMay = true) := by simp [hseal, hmay]
  change execSealSetLost s = _
  simp only [execSealSetLost, if_neg hgo, ok]

theorem heelAfterDrain_run {s : State} (hseal : s.inSeal = true) (hmay : s.sealMay = false) (hdrain : s.drainServes = false) :
    exec .heelAfterDrain s = .next ((s.saveTables.enterService .heel true).stateRecord 2 1) := by
  have hgo : ¬ ((!s.inSeal) = true ∨ s.sealMay = true) := by simp [hseal, hmay]
  have hidle : ¬ (s.drainServes = true ∧ (!decide (s.drained = true ∧ (s.settledAll = true ∨ (!s.manifestReady) = true))) = true) := by simp [hdrain]
  change execHeelAfterDrain s = _
  simp only [execHeelAfterDrain, if_neg hgo, if_neg hidle, ok]

theorem sealResumption_run {s : State} (hheel : s.svc = .heel) (hretains : s.heelRetains = true) (hsafe : s.safe = false) (hshut : s.chip.shut = .off)
    (hmay : s.sealMay = true) (hset : s.sealSet = true) : exec .sealResumption s = .next s.startSeal := by
  have hgo : ¬ (s.svc ≠ .heel ∨ (!s.heelRetains) = true ∨ s.safe = true ∨ s.chip.shut ≠ .off ∨ (!s.sealMay) = true ∨ (!s.sealSet) = true) := by
    simp [hheel, hretains, hsafe, hshut, hmay, hset]
  change execSealResumption s = _
  rw [execSealResumption, if_neg hgo, ok]

/-- Settles O59, an event at a time. -/
theorem clockAndServiceCommandsComplete : Obligations.ClockAndServiceCommandsComplete := by
  unfold Obligations.ClockAndServiceCommandsComplete
  refine fun s u v n begun p x c port hit => ⟨?south, ?north, ?laneReturn, ?xtalLoss, ?xtalReturn, ?avs, ?step, ?unkeyed, ?enter, ?shutdown, ?timeout, ?test, ?testDone,
    ?central, ?setLost, ?resume⟩
  case south =>
    intro hlit hu
    exact ⟨_, laneRefLoss_south hlit, by rw [hu]⟩
  case north => exact fun hlit hdown hu => ⟨_, laneRefLoss_north hlit hdown, hu.symm⟩
  case laneReturn => exact fun hmain => ⟨⟨_, laneRefReturn_run true hmain, rfl⟩, ⟨_, laneRefReturn_run false hmain, rfl⟩⟩
  case xtalLoss => exact fun hlit => ⟨_, nfcXtalLoss_run hlit, rfl⟩
  case xtalReturn => exact fun hmain hmode => ⟨_, nfcXtalReturn_run hmain hmode, rfl⟩
  case avs =>
    intro hmain
    refine ⟨_, pwrAvs_run n hmain, State.wr_upd.agreeBut (by decide), ?_⟩
    exact (rd_wr_self _ _ _).trans (Nat.mod_eq_of_lt (show max 65 (min 85 (n % 256)) < 256 by omega))
  case step =>
    rintro hmain hbooted hnack hfails hlow rfl
    exact ⟨_, avsStep_up hmain hbooted hnack hfails hlow, rfl⟩
  case unkeyed =>
    intro hmain hbooted hidle hheel hsafe hkeyed
    refine ⟨_, (sealEnter_heel x hmain hbooted hidle hheel hsafe).trans ?_, rfl⟩
    rw [if_pos hkeyed, ok]
  case enter =>
    rintro hmain hbooted hidle hheel hsafe hkeyed hlock hopen hfresh rfl
    have hdebug : ¬ (s.chip.debugLock = true ∨ bitOf (s.rd Reg.DBG_STATUS.OPEN) 3 = true) := by simp [hlock, hopen]
    refine ⟨_, (sealEnter_heel x hmain hbooted hidle hheel hsafe).trans ?_, rfl⟩
    rw [if_neg (Bool.ne_false_iff.mpr hkeyed), if_neg hdebug, if_neg (Bool.eq_false_iff.mp hfresh), ok]
  case shutdown =>
    rintro hmain hidle rfl hseal
    exact ⟨_, shutdown_run hmain hidle hseal, rfl⟩
  case timeout => exact fun hshut => ⟨_, shutdownTimeout_run hshut, rfl⟩
  case test => exact fun hnone => ⟨_, stCmd_run p n hnone, rfl⟩
  case testDone => exact ⟨_, rfl, rfl⟩
  case central =>
    rintro rfl
    exact ⟨fun hnone => ⟨_, centralRetry_first hnone, rfl⟩, fun hfirst hsoon => ⟨_, centralRetry_again hfirst hsoon, rfl⟩⟩
  case setLost =>
    exact fun hseal hmay => ⟨⟨_, sealSetLost_run hseal hmay, rfl⟩, fun hdrain => ⟨_, heelAfterDrain_run hseal hmay hdrain, rfl⟩⟩
  case resume => exact fun hheel hretains hsafe hshut hmay hset => ⟨_, sealResumption_run hheel hretains hsafe hshut hmay hset, rfl⟩

end Sys2Proof.Machine
end

section
/-!
PROOFS. The test access port, register accesses and the Kennel's power-on (chapters 15 and 20).
-/

namespace Sys2Proof.Machine

/-- An available instruction of the test port, while PWR_OK is high (Table 20-8). -/
theorem tapInstr_run {s : State} (code : Nat) (f : State → State) (hpower : s.chip.powerOk = true) :
    s.tapInstr code true f = f (s.updChip (fun c => { c with tapIr := code, tapHighz := false })) := by
  simp only [State.tapInstr, hpower, Bool.not_true, Bool.false_eq_true, if_false, if_true]

/-- An unavailable one acts as BYPASS (Table 20-8). -/
theorem tapInstr_bypass {s : State} (code : Nat) (f : State → State) (hpower : s.chip.powerOk = true) :
    s.tapInstr code false f = (s.updChip (fun c => { c with tapIr := 0xFF, tapHighz := false })).emit .tap 0xFF [0] := by
  simp only [State.tapInstr, hpower, Bool.not_true, Bool.false_eq_true, if_false]

/-- EXTEST, with boundary scan open or not. -/
theorem extest_run (s : State) (n m : Nat) : exec (.extest n m) s = ok (s.tapInstr 0x03 s.bscanOpen
    (fun s => (s.updChip (fun c => { c with tapSamples := n, tapPins := m })).emit .tap 0x03 [n])) := rfl

theorem clamp_run (s : State) : exec .clamp s = ok (s.tapInstr 0x04 s.bscanOpen (fun s => s.emit .tap 0x04 [0])) := rfl

theorem highz_run (s : State) : exec .highz s = ok (s.tapInstr 0x05 s.bscanOpen
    (fun s => (s.updChip (fun c => { c with tapHighz := true })).emit .tap 0x05 [0])) := rfl

theorem testReset_run {s : State} (hpower : s.chip.powerOk = true) : exec .testReset s = .next (s.updChip (fun c => { c with tapIr := 0x01, tapHighz := false })) := by
  change execTestReset s = _
  rw [execTestReset, if_pos hpower, ok]

theorem debugAuth_run {s : State} (x : DebugIn) (hmain : s.mainOn = true) (hbooted : s.chip.booted = true) :
    exec (.debugAuth x) s = .next ((s.updChip (fun c => { c with tapIr := 0x11 })).debugAuth x).1 := by
  have hgo : ¬ ((!s.mainOn) = true ∨ (!s.chip.booted) = true) := by simp [hmain, hbooted]
  change execDebugAuth x s = _
  rw [execDebugAuth, if_neg hgo, ok]

/-- The only open scope's time runs out (R617). -/
theorem debugExpiry_single {s : State} {n m : Nat} (hone : s.chip.notAfter = [(n, m)]) :
    exec .debugExpiry s = .next (((s.advance (m + 30518 - s.rtc)).updChip (fun c => { c with notAfter := [] })).setBit Reg.DBG_STATUS.OPEN n false) := by
  have hkept : ∀ w : State, w.chip = s.chip →
      w.updChip (fun c => { c with notAfter := tkeep c.notAfter (fun _ u => u != m) }) = w.updChip (fun c => { c with notAfter := [] }) := fun w hw => by
    have hnone : tkeep w.chip.notAfter (fun _ u => u != m) = [] := by simp [hw, hone, tkeep]
    simp only [State.updChip, hnone]
  have hgone : tkeys (s.advance (m + 30518 - s.rtc)).chip.notAfter (fun _ u => u == m) = [n] := by
    rw [State.advance_chip, hone]
    simp [tkeys]
  have hfirst : argMin Prod.snd s.chip.notAfter = some (n, m) := by rw [hone, argMin, argMin]
  change execDebugExpiry s = _
  simp only [execDebugExpiry, hfirst, hgone, hkept _ (State.advance_chip _ _), List.foldl_cons, List.foldl_nil, ok]


/-- A debug access reads under scope TACK (R617, Table 12-7). -/
theorem dbgAccess_read {s v : State} {a n : Nat} (bs : List Byte) (hpower : s.chip.powerOk = true) (hopen : bitOf (s.rd Reg.DBG_STATUS.OPEN) 2 = true)
    (hmain : s.mainOn = true) (hlen : 0 < n)
    (hguard : (s.updChip (fun c => { c with tapIr := 0x12, tapHighz := false })).guard (unitAccess masterTap .read a n) = (true, v)) :
    exec (.dbgAccess false a n bs) s = .next ((v.fetchBytes .keeper a n).2.emit .tap 0x12 [1, b2n (v.fetchBytes .keeper a n).1.2] (v.fetchBytes .keeper a n).1.1) := by
  have hscope : (bitOf (s.rd Reg.DBG_STATUS.OPEN) 2 || bitOf (s.rd Reg.DBG_STATUS.OPEN) 3) = true := by rw [hopen, Bool.true_or]
  have hgo : ¬ ((!(s.updChip (fun c => { c with tapIr := 0x12, tapHighz := false })).mainOn) = true ∨ n = 0) := by
    rw [show (s.updChip (fun c => { c with tapIr := 0x12, tapHighz := false })).mainOn = s.mainOn from rfl, hmain]
    simp [Nat.ne_of_gt hlen]
  change execDbgAccess false a n bs s = _
  simp only [execDbgAccess, hscope, tapInstr_run _ _ hpower, Bool.false_eq_true, if_false, if_neg hgo, hguard, ok]

/-- A debug access writes memory under scope TACK (R617, Table 12-7). -/
theorem dbgAccess_write {s v : State} {a : Nat} {bs : List Byte} (n : Nat) (hpower : s.chip.powerOk = true) (hopen : bitOf (s.rd Reg.DBG_STATUS.OPEN) 2 = true)
    (hmain : s.mainOn = true) (hsome : bs ≠ [])
    (hguard : (s.updChip (fun c => { c with tapIr := 0x12, tapHighz := false })).guard (unitAccess masterTap .write a bs.length) = (true, v))
    (hmem : v.targetOf a ≠ some 2) : exec (.dbgAccess true a n bs) s = .next ((v.writeMem a bs).emit .tap 0x12 [1]) := by
  have hscope : (bitOf (s.rd Reg.DBG_STATUS.OPEN) 2 || bitOf (s.rd Reg.DBG_STATUS.OPEN) 3) = true := by rw [hopen, Bool.true_or]
  have hgo : ¬ ((!(s.updChip (fun c => { c with tapIr := 0x12, tapHighz := false })).mainOn) = true ∨ bs.length = 0) := by
    rw [show (s.updChip (fun c => { c with tapIr := 0x12, tapHighz := false })).mainOn = s.mainOn from rfl, hmain]
    simp [hsome]
  change execDbgAccess true a n bs s = _
  simp only [execDbgAccess, hscope, tapInstr_run _ _ hpower, if_true, if_neg hgo, hguard, if_neg hmem, ok]

/-- The Kennel's defaults with its clock at 0 and its key banks empty (R565). -/
def State.kennelCleared (s : State) : State :=
  (s.kennelDefaults.updKeys (fun k => { k with bankA := none, bankB := none, activeB := false, rotating := false })).setRtc 0

/-- The registers and the record of a Kennel that begins (R565). -/
def State.kennelBegins (s : State) (mains : Bool) (r : Reading) : State :=
  (((s.updKennel (fun _ => { dead := false, queue := [], toCollar := [], slew := 0, lowSeen := false, lastLog := s.now })).wr Reg.KNL_STATUS.SUPPLY
    (if mains then 0 else 1)).wr Reg.KNL_STATUS.CELL_STATE (if 2200 ≤ r.vbat then cellOk else cellAbsent)).kennelEvent 14 r

/-- Beginning leaves the service and the chip as they are. -/
theorem kennelBegins_parts (s : State) (mains : Bool) (r : Reading) : (s.kennelBegins mains r).svc = s.svc ∧ (s.kennelBegins mains r).chip = s.chip := by
  have hevent : ∀ w : State, (w.kennelEvent 14 r).svc = w.svc ∧ (w.kennelEvent 14 r).chip = w.chip := fun w =>
    ⟨State.kennelEvent_upd.part .svc rfl, State.kennelEvent_upd.part .chip rfl⟩
  obtain ⟨hsvc, hchip⟩ := hevent (((s.updKennel (fun _ => { dead := false, queue := [], toCollar := [], slew := 0, lowSeen := false, lastLog := s.now })).wr
    Reg.KNL_STATUS.SUPPLY (if mains then 0 else 1)).wr Reg.KNL_STATUS.CELL_STATE (if 2200 ≤ r.vbat then cellOk else cellAbsent))
  exact ⟨hsvc, hchip⟩

/-- The Kennel begins while the main domain is not running: nothing applies its saved entries (R565). -/
theorem kennelPor_run {s : State} (mains : Bool) (r : Reading) (hdead : s.kennel.dead = true) (hoff : (s.lit && s.mainOn) = false) :
    exec (.kennelPor mains r) s = .next (s.kennelCleared.kennelBegins mains r) := by
  have hgo : ¬ (!s.kennel.dead) = true := by simp [hdead]
  have hidle : ¬ ((s.kennelCleared.kennelBegins mains r).lit && (s.kennelCleared.kennelBegins mains r).mainOn) = true := by
    obtain ⟨hsvc, hchip⟩ := kennelBegins_parts s.kennelCleared mains r
    rw [State.lit, State.mainOn, hsvc, hchip]
    exact Bool.eq_false_iff.mp hoff
  change execKennelPor mains r s = _
  rw [execKennelPor, if_neg hgo]
  exact congrArg ok (if_neg hidle)

/-- Settles O60, an instruction at a time. -/
theorem debugAndRegisterCommandsComplete : Obligations.DebugAndRegisterCommandsComplete := by
  unfold Obligations.DebugAndRegisterCommandsComplete
  rintro s u n m a x bs w r rfl
  refine ⟨?auth, ?expiry, fun hpower => ⟨?nonce, ?bypass, ?idcode, ?sample, fun hopen => ⟨?extest, ?clamp, ?highz⟩, ?extestClosed, ?testReset, ?read, ?write⟩, ?registerWrite,
    ?counterRead, ?kennel⟩
  case auth => exact fun hmain hbooted => ⟨_, debugAuth_run x hmain hbooted, rfl⟩
  case expiry => exact fun hone => ⟨_, debugExpiry_single hone, rfl⟩
  case nonce => exact ⟨_, congrArg ok (tapInstr_run _ _ hpower), rfl⟩
  case bypass => exact ⟨_, congrArg ok (tapInstr_run _ _ hpower), rfl⟩
  case idcode => exact ⟨_, congrArg ok (tapInstr_run _ _ hpower), rfl⟩
  case sample => exact ⟨_, congrArg ok (tapInstr_run _ _ hpower), rfl⟩
  case extest =>
    refine ⟨_, (extest_run s n m).trans ?_, rfl⟩
    rw [hopen, tapInstr_run _ _ hpower]
    rfl
  case clamp =>
    refine ⟨_, (clamp_run s).trans ?_, rfl⟩
    rw [hopen, tapInstr_run _ _ hpower]
    rfl
  case highz =>
    refine ⟨_, (highz_run s).trans ?_, rfl⟩
    rw [hopen, tapInstr_run _ _ hpower]
    rfl
  case extestClosed =>
    intro hclosed
    refine ⟨_, (extest_run s n m).trans ?_, rfl⟩
    rw [hclosed, tapInstr_bypass _ _ hpower]
    rfl
  case testReset => exact ⟨_, testReset_run hpower, State.updChip_upd.agreeBut (by decide), rfl⟩
  case read => exact fun v hopen hmain hlen hguard => ⟨_, dbgAccess_read bs hpower hopen hmain hlen hguard, rfl⟩
  case write => exact fun v hopen hmain hsome hguard hmem => ⟨_, dbgAccess_write n hpower hopen hmain hsome hguard hmem, rfl⟩
  case registerWrite => exact ⟨_, rfl, rfl⟩
  case counterRead => exact ⟨_, rfl, rfl⟩
  case kennel =>
    rintro mains v hdead hoff rfl
    exact ⟨_, kennelPor_run mains r hdead hoff, rfl⟩

end Sys2Proof.Machine
end
